-- ==== Sys2Proof/Word.lean ====
section
/-! DEFINITION. Plain words: bytes, 32-bit words and the wrap of a natural number to a width. -/

namespace Sys2Proof

/-- A byte. -/
abbrev Byte := BitVec 8

/-- A 32-bit word. -/
abbrev Word := BitVec 32

/-- A natural number wrapped to 32 bits. -/
abbrev wrap32 (n : Nat) : Nat := n % 4294967296

/-- A natural number wrapped to 16 bits. -/
abbrev wrap16 (n : Nat) : Nat := n % 65536

/-- A natural number wrapped to 64 bits. -/
abbrev wrap64 (n : Nat) : Nat := n % 18446744073709551616

/-- One more, stopping at 2^32 − 1: the counters the tables mark "saturating". -/
abbrev satInc32 (n : Int) : Int := if n < 4294967295 then n + 1 else 4294967295

/-- Bit `i` of a natural number. -/
abbrev bitOf (n i : Nat) : Bool := n.testBit i

/-- A natural number with bit `i` set. -/
abbrev setBit (n i : Nat) : Nat := n ||| 2 ^ i

/-- A natural number with bit `i` cleared. -/
abbrev clearBit (n i : Nat) : Nat := if n.testBit i then n - 2 ^ i else n

end Sys2Proof
end

