-- ==== Sys2Proof/Syntax.lean ====
section
/-! DEFINITION. The commands of the device as syntax: one constructor per row of the table, with the operands by which
its environment or its user gives it. A timeout or threshold command asserts that its time or level has been reached. -/

namespace Sys2Proof

/-- Who makes an access: a ROA session by its role (R430), a signal slot or the device's own firmware. -/
inductive Role
  | observer | operator | integrator | metrologist | vendor
  /-- a receive signal slot, which writes as an Operator (R449) -/
  | slot
  /-- the device's own firmware -/
  | device
  deriving DecidableEq, Repr, Inhabited

/-- What a pass through M0 finds outside the state: pins, silicon and stored images (R61 to R73). -/
structure BootEnv where
  /-- levels of SEAL0-SEAL7 -/
  seals : Byte := 0
  /-- pins whose two samples differ (R61) -/
  floats : Byte := 0
  /-- PLL0 and PLL1 lock within 1 ms -/
  pllLock : Bool := true
  /-- bit n: firmware slot n passes hash and signature (R70) -/
  slotOk : BitVec 2 := 3
  /-- the metrology image passes (step 6) and the first four bytes of its digest -/
  metrologyOk : Bool := true
  metrologySum : BitVec 32 := 0
  /-- failed self-tests of R72, by bit -/
  selfTest : BitVec 6 := 0
  /-- factory calibration CRC (step 8) -/
  calOk : Bool := true
  /-- scopes whose stored active set fails its CRC (R73) -/
  cfgBad : Byte := 0
  /-- duration of the pass, µs -/
  durationUs : BitVec 16 := 42000
  deriving DecidableEq, Repr, Inhabited

/-- The operations that ask for leave (R551). -/
inductive LeaveOp
  | gatePair (n : Fin 24)
  | finalJournal
  | law (slot : Fin 64)
  | journalSlot
  | faultRecord
  | configStore
  | patternTable
  | serdes (port : Fin 2)
  | memTest
  | eventLog
  | firmware
  deriving DecidableEq, Repr, Inhabited

/-- What a carrier period brings from outside: LVn_BST at the ball, the volt-second sums of VSW windows and the highest
detector sample of each switch node, as F32 words (R129, R170, R175). -/
structure PeriodIn where
  bst : Vector (BitVec 32) 16 := Vector.replicate 16 0
  voltSeconds : Vector (BitVec 32) 24 := Vector.replicate 24 0
  highest : Vector (BitVec 32) 24 := Vector.replicate 24 0
  deriving DecidableEq, Repr, Inhabited

/-- A Monarch frame as received, without its Version and Type (R391); `tagOk` says whether its tag verifies. -/
structure MonIn where
  partner : BitVec 16 := 0
  sequence : BitVec 32 := 0
  leaseId : BitVec 32 := 0
  amount : BitVec 32 := 0
  minimum : BitVec 32 := 0
  cls : Byte := 0
  result : Byte := 0
  epoch : BitVec 16 := 0
  time : BitVec 64 := 0
  tagOk : Bool := true
  deriving DecidableEq, Repr, Inhabited


/-- What a SAMPLE occurrence takes from outside, as raw words by input: ball voltages or modulation values; volt-second sums
or 1 ms means; the window length in ticks (R166 to R180). -/
structure SampleIn where
  raw : Vector (BitVec 32) 32 := Vector.replicate 32 0
  extra : Vector (BitVec 32) 24 := Vector.replicate 24 0
  len : BitVec 16 := 0
  deriving DecidableEq, Repr, Inhabited

/-- The header of a ROA request (R432, R433): its session and Nonce, whether its tag verifies, the transport on which it came
(0-7 CANc in FD frames, 16-23 CANc in XL frames, 8-11 XG0, XG1, T1S0, T1S1, 12 LSPI) and Flags bit 2. -/
structure RoaReq where
  session : BitVec 16 := 0
  nonce : BitVec 32 := 0
  tagOk : Bool := true
  transport : Byte := 8
  inForce : Bool := false
  deriving DecidableEq, Repr, Inhabited

/-- An Ethernet frame as received (R480, R485, R495): its size with FCS, VLAN identifier, EtherType behind the tag, whether it is
addressed to the device, an ICMP echo request or above the rate that the host takes; UDP destination port, 0 where it is no
datagram, IPv4 source and payload. -/
structure EthIn where
  size : BitVec 16 := 64
  vlan : Option (BitVec 12) := none
  ether : BitVec 16 := 0x0800
  toUs : Bool := true
  echo : Bool := false
  overRate : Bool := false
  udp : BitVec 16 := 0
  source : BitVec 32 := 0
  payload : List Byte := []
  deriving DecidableEq, Repr, Inhabited

/-- The commands the device takes: one per row of the table of operations and events. -/
inductive Instr
  /-- POWER_ON, R69: VDD_COC rises and the island starts; with the first RESET_N release the seal latch loads and a cold Chrysalis pass begins. -/
  | powerOn (resetN : Bool) (env : BootEnv)
  /-- RESET_N_FALL, R65: RESET_N low for at least 1 µs, or any fall while PFAIL_N is low, resets the main domains while the island applies the committed plans. -/
  | resetNFall (lowNs : Nat)
  /-- RESET_N_RISE, R69: A rise of RESET_N starts a cold pass through M0, and the reset duration is reported. -/
  | resetNRise (lowMs : Nat) (env : BootEnv)
  /-- BOOT_RESETHELD, R67: RESET_N stays low for more than 500 ms; the island records BOOT_RESETHELD and updates the elapsed time every second. -/
  | bootResetheld (elapsedMs : Nat)
  /-- BOOT_PLLLOCK, R69: PLL0 or PLL1 has not locked within 1 ms of boot step 2; the device stays in M0. -/
  | bootPlllock
  /-- PFAIL_N_FALL, R410: PFAIL_N low for 200 ns freezes the registers and starts the final journal write. -/
  | pfailNFall
  /-- PFAIL_N_RISE, R413: PFAIL_N rises again without a reset, which schedules the resumption of metering. -/
  | pfailNRise
  /-- METER_RESUME, R413: 1 ms after PFAIL_N rises, accumulation resumes and the gap is recorded as an open interval. -/
  | meterResume
  /-- CLOCK_LOSS, R13: The reference edge or a PLL lock is missing for 1 µs; the island takes control. -/
  | clockLoss (pll : BitVec 2)
  /-- CORE_UNDERVOLTAGE, R18: The island's monitor sees VDD_CORE under-voltage; it takes control, or in M1 records it for the next warm pass. -/
  | coreUndervoltage
  /-- VDD_COC_LOSS, R580: VDD_COC falls below 2.7 V; the island resets and clears its plans. -/
  | vddCocLoss
  /-- WATCHDOG_SERVICE, R499: H0 services the island watchdog; a service earlier than 0.5 ms counts as an expiry. -/
  | watchdogService (sinceUs : Nat)
  /-- WATCHDOG_EXPIRY, R499: No service arrives within 2 ms; SAF_WDOG is raised and the island takes control. -/
  | watchdogExpiry
  /-- KEEPER_UNDERVOLTAGE, R148: The island sees a keeper supply below GsUvloThreshold and records GD_KEEPERUV. -/
  | keeperUndervoltage (gs : Fin 48)
  /-- WAKE_PIN_EDGE, R41: An enabled WAKE pin edge in M1 sets LastWakeCause and starts a warm pass. -/
  | wakePinEdge (pin : Fin 4) (env : BootEnv)
  /-- CAN_WAKE, R41: A dominant CANn_RXD level for 5 µs on a wake-enabled controller in M1 starts a warm pass. -/
  | canWake (can : Fin 8) (env : BootEnv)
  /-- WAKE_TIMER_EXPIRY, R41: WakeTimer expires in M1 and starts a warm pass. -/
  | wakeTimerExpiry (env : BootEnv)
  /-- MODE_REQUEST, R34: A write to ModeRequest is evaluated within 1 ms and either starts a transition or sets a refusal code. -/
  | modeRequest (value : Byte) (role : Role)
  /-- MODE_TRANSITION_COMPLETE, R35: A transition completes; ModeState, entry time, cause and count are updated together. -/
  | modeTransitionComplete
  /-- M3_STEP_TIMEOUT, R44: No observer of an enabled machine steps within 50 ms of the M3 request; the request ends with 0x04. -/
  | m3StepTimeout
  /-- FUNCTION_RESET_REQUEST, R55: A write to FunctionResetRequest is accepted, or refused with a code, and starts a per-function reset. -/
  | functionResetRequest (value : BitVec 32) (role : Role)
  /-- FUNCTION_RESET_COMPLETE, R56: The reset completes, clearing and keeping per class, and may release an island hold (R58). -/
  | functionResetComplete
  /-- GS_PAIR_READY, R145: Every enabled supply of the pair has passed lock-out; the next pair starts. -/
  | gsPairReady (pair : Fin 24) (startUs : Nat) (v0 : BitVec 32) (v1 : BitVec 32)
  /-- GD_GSSTART, R145: A pair is not ready within 200 µs of its grant; it is stopped and the next pair starts. -/
  | gdGsstart (pair : Fin 24)
  /-- SEAL_COMMISSION, R63: A Vendor write of the latched pattern makes it the new seal reference and ends the broken-seal state. -/
  | sealCommission (value : Byte) (role : Role)
  /-- SWAP_ARM, R83: SwapCommand 1 checks the selected shadows within 200 µs and arms a swap, or refuses it. -/
  | swapArm (role : Role)
  /-- SWAP_CANCEL, R83: SwapCommand 2 cancels the armed swap with code 0x08. -/
  | swapCancel (role : Role)
  /-- SWAP_BOUNDARY, R84: The period-start, device-time or immediate boundary is reached; the selected scopes swap in one tick. -/
  | swapBoundary
  /-- CONFIG_SWAP, R102: Entry 255 is crossed at SwapAngle; the armed swap takes effect. -/
  | configSwap (tb : Fin 8)
  /-- SWAP_ARM_TIMEOUT, R83: The boundary is not reached within SwapArmTimeout; the swap is cancelled with code 0x07. -/
  | swapArmTimeout
  /-- SHADOW_COPY_COMPLETE, R86: After the earlier instances drain, the new active set has been copied into the shadow. -/
  | shadowCopyComplete
  /-- TB_HOLDOVER, R94: No update arrives within TbUpdateTimeout; the timebase enters holdover. -/
  | tbHoldover (tb : Fin 8)
  /-- TB_HOLDOVER_LIMIT, R94: TbHoldoverLimit passes in holdover; the timebase enters lost. -/
  | tbHoldoverLimit (tb : Fin 8)
  /-- TB_LOCKFAIL, R93: Lock has not been declared within the limit for the source; TB_LOCKFAIL is raised. -/
  | tbLockfail (tb : Fin 8)
  /-- LAW_START, R193: A LAW_START occurrence starts, queues or discards an instance of the slot, pre-empting higher-numbered slots. -/
  | lawStart (tb : Fin 8) (entry : Byte) (target : Byte) (arg : BitVec 32) (delay : BitVec 16) (angle : BitVec 32)
  /-- SAMPLE, R166: A SAMPLE occurrence triggers the named inputs of its class; the values reach the engine ports. -/
  | sample (tb : Fin 8) (entry : Byte) (target : Byte) (arg : BitVec 32) (delay : BitVec 16) (inp : SampleIn)
  /-- SHADOW_LOAD, R119: A SHADOW_LOAD occurrence loads the last committed shadow set of the group. -/
  | shadowLoad (tb : Fin 8) (entry : Byte) (target : Byte) (delay : BitVec 16)
  /-- TEST_PULSE, R100: A TEST_PULSE occurrence emits a test pulse on an idle channel, or drops it and counts it. -/
  | testPulse (tb : Fin 8) (entry : Byte) (target : Byte) (arg : BitVec 32) (delay : BitVec 16) (lead : BitVec 6)
  /-- STAMP, R106: A STAMP occurrence writes a 32-byte stamp into the timebase's ring. -/
  | stamp (tb : Fin 8) (entry : Byte) (angle : BitVec 32) (arg : BitVec 32) (delay : BitVec 16)
  /-- METER_SAMPLE, R398: A METER_SAMPLE occurrence samples the AC metering channels at a fixed mains angle. -/
  | meterSample (index : Byte) (raw : Vector (BitVec 32) 8) (full : Byte)
  /-- DELAYED_OCCURRENCE_DUE, R100: An occurrence's Delay has elapsed; its action takes effect. -/
  | delayedOccurrenceDue (tb : Fin 8) (inp : SampleIn)
  /-- GROUP_RUN, R113: GroupRunRequest 1 is checked and starts the group at its next period start. -/
  | groupRun (group : Fin 20) (role : Role)
  /-- GROUP_STOP, R113: GroupRunRequest 0 puts the group at pulse-off at its next period start. -/
  | groupStop (group : Fin 20) (role : Role)
  /-- GROUP_STOP_AT_ONCE, R113: GroupRunRequest 2 puts the group at pulse-off in the tick after the write. -/
  | groupStopAtOnce (group : Fin 20) (role : Role)
  /-- PWM_PERIOD_START, R114: A carrier period start counts the period, auto-loads shadows and samples the bootstrap supply. -/
  | pwmPeriodStart (group : Fin 20) (inp : PeriodIn)
  /-- PWM_STALL, R117: No period start occurs within GroupPeriodMax; the group goes to pulse-off. -/
  | pwmStall (group : Fin 20)
  /-- HOST_SHADOW_WRITE, R118: A host write to a shadow sub-index counts as its own commit, or is refused while a law holds the group. -/
  | hostShadowWrite (index : BitVec 16) (sub : Byte) (value : BitVec 64) (role : Role)
  /-- DESATURATION, R137: Two detector samples after blanking exceed HbDesatThreshold; the desaturation is declared. -/
  | desaturation (hb : Fin 24) (upper : Bool) (volts : BitVec 32)
  /-- HARD_SHORT, R139: The hard-short comparator sees V_on above half the link; a hard short is declared. -/
  | hardShort (hb : Fin 24) (upper : Bool) (volts : BitVec 32)
  /-- FAST_OVERCURRENT, R167: The fast filter crosses SdOcHigh or SdOcLow; a protection event is raised on every channel naming the input. -/
  | fastOvercurrent (sd : Fin 32) (amps : BitVec 32)
  /-- GS_UNDERVOLTAGE, R146: GsUvloFilter samples lie below GsUvloThreshold; the supply enters under-voltage. -/
  | gsUndervoltage (gs : Fin 48) (volts : BitVec 32)
  /-- GS_UNDERVOLTAGE_END, R146: GsUvloFilter samples lie above threshold plus hysteresis; the supply leaves under-voltage. -/
  | gsUndervoltageEnd (gs : Fin 48) (volts : BitVec 32)
  /-- GS_OVERVOLTAGE, R146: GsUvloFilter samples lie above GsOvloThreshold; the drive is held low. -/
  | gsOvervoltage (gs : Fin 48) (volts : BitVec 32)
  /-- GS_OVERVOLTAGE_END, R146: The voltage falls below GsTargetVoltage; the supply returns to regulation. -/
  | gsOvervoltageEnd (gs : Fin 48) (volts : BitVec 32)
  /-- RETRY_WAIT_END, R158: HbRetryWait ends; the domain re-arms, goes idle, waits again or latches. -/
  | retryWaitEnd (hb : Fin 24)
  /-- GD_SERVICELIMIT, R155: A test-drive current in M10 exceeds ServiceCurrentLimit; the group goes to pulse-off. -/
  | gdServicelimit (hb : Fin 24) (amps : BitVec 32)
  /-- SD_STUCK, R183: An SD bitstream shows no transition for SdStuckLimit clocks; SNS_SDSTUCK is raised. -/
  | sdStuck (sd : Fin 32)
  /-- SD_OUT_OF_RANGE, R183: A main-filter output exceeds SdRangeLimit; it is counted and SNS_SDRANGE is raised. -/
  | sdOutOfRange (sd : Fin 32) (x : BitVec 32)
  /-- SDCLK_MISMATCH, R183: The SDCLK readback differs on 4 edges; every input on that clock enters state 3. -/
  | sdclkMismatch (clk : Fin 4)
  /-- VDC_IMPLAUSIBLE, R175: Switch-node samples exceed VdcValue beyond the margin for four periods; SNS_VDCIMPL is raised. -/
  | vdcImplausible (hb : Fin 24) (highest : BitVec 32)
  /-- VDC_FULL_SCALE, R175: Ten consecutive VDC conversions lie at full scale; SNS_VDCRANGE is raised. -/
  | vdcFullScale (vdc : Fin 4)
  /-- AIN_OUT_OF_WINDOW, R178: 16 conversions lie outside the valid window; AinState becomes 2. -/
  | ainOutOfWindow (ain : Fin 16) (volts : BitVec 32)
  /-- AIN_BACK_IN_WINDOW, R178: 16 conversions lie inside the valid window; AinState returns to 1. -/
  | ainBackInWindow (ain : Fin 16) (volts : BitVec 32)
  /-- LV_SENSE_AT_RAIL, R180: An LV or VOUT sense input reads at a rail for 32 conversions; SNS_LVRANGE is raised. -/
  | lvSenseAtRail (input : Fin 36)
  /-- TRIM_WRITE, R77: A user trim write is checked against mode and limits, then applied from the next sample and stored. -/
  | trimWrite (index : BitVec 16) (sub : Byte) (value : BitVec 32) (role : Role)
  /-- LAW_INSTANCE_END, R194: An instance ends and releases its output buffer in one tick, or freezes, and then pending slots run. -/
  | lawInstanceEnd (slot : Fin 64) (issued : BitVec 32) (response : BitVec 32)
  /-- SLOT_DEADLINE_MISS, R199: An instance has not ended by SlotDeadline; it is aborted and ENG_DEADLINE may follow. -/
  | slotDeadlineMiss (slot : Fin 64) (issued : BitVec 32)
  /-- ENG_MEMUE, R188: An uncorrectable ECC error in a word read by an instance aborts that instance. -/
  | engMemue (slot : Fin 64) (issued : BitVec 32)
  /-- HANDOVER_REQUEST, R206: A write to HandoverRequest is checked and awaits the end of an outgoing instance. -/
  | handoverRequest (engine : Fin 8) (value : BitVec 16) (role : Role)
  /-- OBSERVER_STEP, R240: An observer advances one step on a current sample and hands its timebase an update. -/
  | observerStep (obs : Fin 9) (age : BitVec 8)
  /-- CATCH_CHECK_END, R248: ObsCatchTime ends; the machine is caught on the fly or judged at standstill. -/
  | catchCheckEnd (obs : Fin 9)
  /-- INJECTION_SETTLE_END, R249: ObsInjSettle ends; the d axis is known and the polarity pulses begin. -/
  | injectionSettleEnd (obs : Fin 9)
  /-- POLARITY_TEST_END, R249: The polarity pulses end; the peaks decide north, or the test repeats, or OBS_POLARITY is raised. -/
  | polarityTestEnd (obs : Fin 9)
  /-- OBS_STARTFAIL, R251: ObsValid is still 0 50 ms after the first regime 1; the observer enters regime 8. -/
  | obsStartfail (obs : Fin 9)
  /-- OBS_REACQFAIL, R256: ObsReacqLimit passes in regime 7; the observer fails and issues invalid updates. -/
  | obsReacqfail (obs : Fin 9)
  /-- COMM_STALL_TIMEOUT, R258: CommStallTime passes without a restart under q current; the locked-rotor signature is present. -/
  | commStallTimeout (obs : Fin 9)
  /-- SAFE_PLAN_EVALUATION, R273: Every TracPlanPeriod, H0 evaluates the safe-state rule for each machine and commits the result. -/
  | safePlanEvaluation
  /-- LINK_OV1, R284: The link crosses TracOv1 upward; k_ov begins to fall. -/
  | linkOv1 (link : Fin 4) (volts : BitVec 32)
  /-- LINK_OV2, R284: The link crosses TracOv2 upward; the chopper runs. -/
  | linkOv2 (link : Fin 4) (volts : BitVec 32)
  /-- LINK_OV3, R284: The link crosses the effective OV3; ASC is committed in hardware and TRC_OV3 is raised. -/
  | linkOv3 (link : Fin 4) (volts : BitVec 32)
  /-- LINK_BELOW_OV2, R285: The link falls below TracOv2 minus hysteresis; the chopper stops. -/
  | linkBelowOv2 (link : Fin 4) (volts : BitVec 32)
  /-- TRC_CHOPPER, R286: A chopper fault is seen; ASC is committed for every machine on the link and the device enters M9. -/
  | trcChopper (link : Fin 4)
  /-- OPEN_PHASE_WINDOW_END, R281: An RMS window ends; a phase below the ratio is declared open. -/
  | openPhaseWindowEnd (machine : Fin 4)
  /-- ZERO_HOLD_END, R282: TracZeroHold ends; the set is dropped, or TRC_OPENPHASE or TRC_SENSORLOSS is raised. -/
  | zeroHoldEnd (machine : Fin 4)
  /-- STAR_CONTACTOR_CONFIRMED, R297: The star readback confirms after WcContactorTime, or a mismatch raises WC_CONTACTOR. -/
  | starContactorConfirmed (ok : Bool)
  /-- GRID_WINDOW_HELD, R297: The grid has stayed in the reconnect window for WcSyncTime with the link high enough; the grid output is energised. -/
  | gridWindowHeld (volts : BitVec 32)
  /-- GRID_CONTACTOR_CONFIRMED, R297: The grid readback confirms; the group runs and power ramps. -/
  | gridContactorConfirmed (ok : Bool)
  /-- WC_LINKLOW, R297: The link stays below the connection condition for 10 s; the request ends. -/
  | wcLinklow
  /-- WC_REFERENCE_UPDATE, R298: Every 1 ms the grid or boost power reference and its limits are formed. -/
  | wcReferenceUpdate (volts : BitVec 32) (power : BitVec 32)
  /-- WC_GRIDTRIP, R301: A trip condition outlasts its time; the grid output opens and WcState becomes tripped. -/
  | wcGridtrip (cause : BitVec 4)
  /-- RECONNECT_DELAY_END, R301: WcReconnectDelay has passed within the window; the connection sequence repeats from step 3. -/
  | reconnectDelayEnd (volts : BitVec 32)
  /-- WC_BATTLOSS, R308: Battery loss is declared; the converter goes to pulse-off and an orderly stop is requested. -/
  | wcBattloss
  /-- CHARGE_PHASE_UPDATE, R302: Every 1 ms each charge-phase instance forms its reference and moves between phases. -/
  | chargePhaseUpdate (cp : Fin 2)
  /-- CP_EVALUATION_END, R303: 100 ms of evaluation end; trickle, pre-charge, CC or terminated is chosen. -/
  | cpEvaluationEnd (cp : Fin 2) (volts : BitVec 32)
  /-- CP_TAPER_END, R303: The current has stayed below CpTermCurrent for CpTermTime; the phase terminates. -/
  | cpTaperEnd (cp : Fin 2)
  /-- CP_TIMER, R305: The equivalent or wall-clock phase count expires; the instance stops. -/
  | cpTimer (cp : Fin 2)
  /-- CP_LIMITLOSS, R306: The battery limits stay substituted for CpLimitTimeout; CP0 stops. -/
  | cpLimitloss
  /-- LV_RUN, R325: LvRunRequest 1 starts the isolated stage and then the buck phases. -/
  | lvRun (role : Role)
  /-- LV_STOP, R325: LvRunRequest 0 ends triggering and puts every phase and the isolated stage at pulse-off. -/
  | lvStop (role : Role)
  /-- LV_ISO_SOFT_START_END, R314: LvIsoSoftStart ends; ratio supervision begins. -/
  | lvIsoSoftStartEnd (volts : BitVec 32)
  /-- LV_ISOFAULT, R314: The intermediate bus deviates from its ratio for 1 ms; the converter stops. -/
  | lvIsofault
  /-- LV_PHASE_TRIGGER, R316: V_cmp reaches the reference; the next phase is triggered, or waits at the valley limit. -/
  | lvPhaseTrigger (vout : BitVec 32) (vint : BitVec 32) (amps : BitVec 32)
  /-- LV_HICCUP_END, R318: LvHiccupTime ends; the phase rejoins with a soft start. -/
  | lvHiccupEnd (phase : Fin 16)
  /-- LV_FOLDBACK, R319: Foldback binds for 1 s. -/
  | lvFoldback
  /-- LV_BURST_SLEEP, R320: V_cmp reaches the burst band; triggering stops and LvState becomes 4. -/
  | lvBurstSleep
  /-- LV_BURST_WAKE, R320: V_out falls to V_ref in sleep; triggering resumes after precharge. -/
  | lvBurstWake
  /-- LV_PHASE_SHED, R321: The current stays below the shed level for LvShedTime; the highest phase is shed. -/
  | lvPhaseShed
  /-- LV_LOAD_RELEASE, R322: V_out exceeds the release level; triggering stops and the lower switches open. -/
  | lvLoadRelease
  /-- LV_LOAD_RELEASE_END, R322: V_out falls below 1.01 × V_ref; triggering resumes. -/
  | lvLoadReleaseEnd
  /-- LV_OVERVOLTAGE, R322: V_out stays above 110 % for 1 ms; the converter stops. -/
  | lvOvervoltage
  /-- LV_STARTFAIL, R325: Readiness does not come within LvStartLimit; the converter stops. -/
  | lvStartfail
  /-- LV_TELEMETRY, R326: Every 1 ms the means and peaks are updated and the burst and phase-add decisions are made. -/
  | lvTelemetry (volts : BitVec 32) (amps : BitVec 32)
  /-- LV_BATTERY_LOOP, R327: Every 100 µs the battery-current term y is updated. -/
  | lvBatteryLoop
  /-- LV_AUXREMOVED, R328: Battery removal is detected; load release, session end and float target follow. -/
  | lvAuxremoved (rise : BitVec 32) (least : BitVec 32) (mean : BitVec 32) (amps : BitVec 32)
  /-- LV_AUX_REARM, R328: LvAuxRearm 1 sets LvAuxState to present. -/
  | lvAuxRearm (role : Role)
  /-- GA_REQUEST, R336: A GaRequest write starts a shift sequence, a park-lock move or homing, or is refused. -/
  | gaRequest (actuator : Fin 4) (value : Byte) (role : Role)
  /-- GA_TORQUE_RELEASED, R336: The torque set-point falls to GaTorqueRelease; the move to neutral begins. -/
  | gaTorqueReleased (actuator : Fin 4)
  /-- GA_RELEASE_TIMEOUT, R336: GaReleaseTimeout passes; the shift aborts. -/
  | gaReleaseTimeout (actuator : Fin 4)
  /-- GA_SYNC_PERMIT, R336: GaSyncPermit 1 lets the actuator engage the target. -/
  | gaSyncPermit (actuator : Fin 4) (role : Role)
  /-- GA_SYNC_TIMEOUT, R336: GaSyncTimeout passes in neutral; the shift aborts. -/
  | gaSyncTimeout (actuator : Fin 4)
  /-- GA_ARRIVAL, R335: A held position is held within tolerance for GaSettleTime; the move arrives. -/
  | gaArrival (actuator : Fin 4)
  /-- GA_MOVETIMEOUT, R335: A move is not complete within GaMoveTimeout; the group goes to pulse-off. -/
  | gaMovetimeout (actuator : Fin 4)
  /-- LINK_PLUGGED, R346: Connection detection shows a plug; LkPlugged becomes 1 and communication starts. -/
  | linkPlugged (pilot : BitVec 3) (protocol : BitVec 2)
  /-- LINK_DETECTION_LOST, R346: Detection is lost for 10 ms; LkPlugged becomes 0, and under current LNK_UNPLUG is raised. -/
  | linkDetectionLost (amps : BitVec 32)
  /-- PILOT_INVALID, R345: The pilot is in state E or F, or its duty stays invalid for 1 s; LNK_PILOT is raised. -/
  | pilotInvalid (pilot : BitVec 3) (duty : BitVec 32)
  /-- CHARGE_PARAMETERS_AGREED, R350: Charge parameters are agreed; the link values are handed to the other functions. -/
  | chargeParametersAgreed (service : BitVec 3) (session : BitVec 64) (volts : BitVec 32) (amps : BitVec 32) (duty : BitVec 32)
  /-- CABLE_CHECK_BEGIN, R347: The vehicle end enters cable check with the contactors open. -/
  | cableCheckBegin
  /-- PRECHARGE_BEGIN, R347: The vehicle sends its pre-charge target and waits for a match. -/
  | prechargeBegin
  /-- PRECHARGE_MATCH_HELD, R348: The match has held for 20 ms; the inlet contactors close. -/
  | prechargeMatchHeld
  /-- PRECHARGE_OUTPUT_FALLBACK, R348: With no match after 5 s, DC− and the pre-charge output close. -/
  | prechargeOutputFallback
  /-- LNK_PRECHARGE, R347: No match within 10 s; the link enters fault. -/
  | lnkPrecharge
  /-- INLET_CONTACTORS_CONFIRMED, R347: The readbacks confirm; delivery starts and the metering interval opens, or LNK_CONTACTOR is raised. -/
  | inletContactorsConfirmed (ok : Bool)
  /-- LINK_STOP_REQUEST, R347: LkStopRequest 1 takes the vehicle end to stopping. -/
  | linkStopRequest (role : Role)
  /-- POST_STOP_RECEIVED, R347: A stop by the post takes the vehicle end to stopping. -/
  | postStopReceived
  /-- INLET_CURRENT_LOW, R347: The inlet current falls to LkOpenCurrent; the contactors open and the weld check begins. -/
  | inletCurrentLow
  /-- WELD_CHECK_1S, R347: At 1 s, an inlet still near the battery voltage raises LNK_WELD. -/
  | weldCheck1s (volts : BitVec 32)
  /-- INLET_DISCHARGED, R347: The inlet falls below 60 V within 5 s; the session ends. -/
  | inletDischarged
  /-- WELD_CHECK_5S, R347: At 5 s the inlet is still at or above 60 V; LNK_WELD is raised. -/
  | weldCheck5s (volts : BitVec 32)
  /-- PIN_TEMP_DERATE, R349: The pin temperature crosses LkPinTempDerate; LNK_PINTEMP is raised. -/
  | pinTempDerate (temp : BitVec 32)
  /-- PIN_TEMP_LIMIT, R349: The pin temperature reaches LkPinTempLimit; LNK_PINHOT ends the session. -/
  | pinTempLimit (temp : BitVec 32)
  /-- CABLE_CHECK_REQUEST, R351: The post enters M8, opens metering and closes its contactors, or refuses while leaving M7. -/
  | cableCheckRequest (volts : BitVec 32) (service : BitVec 3) (session : BitVec 64)
  /-- INSULATION_MEASURED, R352: LkIsoTestTime ends; ρ is judged as pass, warning or fault. -/
  | insulationMeasured (kohm : BitVec 32) (volts : BitVec 32)
  /-- ISO_ALARM, R352: The insulation alarm input raises LNK_ISOFAULT during delivery. -/
  | isoAlarm
  /-- POWER_DELIVERY_START, R351: The vehicle's power delivery begins; the lease is requested and the current follows the target. -/
  | powerDeliveryStart (volts : BitVec 32) (amps : BitVec 32)
  /-- POST_STOP_REQUEST, R351: LkPostStopRequest 1 starts the post stop sequence. -/
  | postStopRequest (role : Role)
  /-- POST_CURRENT_LOW, R351: The current is at or below 5 A; the post contactors open. -/
  | postCurrentLow
  /-- POST_OUTPUT_DISCHARGED, R351: The output falls below 60 V; the final record closes and the device returns to M7. -/
  | postOutputDischarged
  /-- POST_DISCHARGE_TIMEOUT, R351: The output is not below 60 V within LkDischargeTime; LNK_WELD is raised. -/
  | postDischargeTimeout
  /-- TANDEM_SERVICE_SELECTION, R354: Tandem is offered and selected or refused in service discovery. -/
  | tandemServiceSelection (service : BitVec 16) (connection : BitVec 11) (accepted : Bool) (ids : List Byte)
  /-- LNK_TDLOCK, R356: The post timebase is not locked within 100 ms; the agreement ends. -/
  | lnkTdlock
  /-- TANDEM_FALLBACK_HOLD_END, R361: TdFallbackHold ends; the ramp to the standard target begins. -/
  | tandemFallbackHoldEnd
  /-- TANDEM_FALLBACK_RAMP_END, R361: TdFallbackRamp ends; the post follows the standard targets and TdState becomes 6. -/
  | tandemFallbackRampEnd
  /-- STATION_PRECHARGE_REACHED, R369: The link reaches the pre-charge level; the grid contactor is energised. -/
  | stationPrechargeReached (link : BitVec 32) (line : BitVec 32)
  /-- STN_PRECHARGE, R369: StPrechargeTime passes without the level; the outputs are de-energised. -/
  | stnPrecharge
  /-- PRECHARGE_OUTPUT_RELEASE, R369: 20 ms after the grid readback, the pre-charge output is de-energised. -/
  | prechargeOutputRelease (ok : Bool)
  /-- FRONT_END_SYNCHRONISED, R369: The grid timebase is locked and the window is held; the front end runs and the link target slews. -/
  | frontEndSynchronised (volts : BitVec 32) (line : BitVec 32)
  /-- POST_OUTPUT_REQUEST, R369: The post requests output; the stages join. -/
  | postOutputRequest
  /-- NO_OUTPUT_TIMEOUT, R369: 1 s without output stops the stages. -/
  | noOutputTimeout
  /-- STN_GRIDTRIP, R371: A front-end trip condition outlasts its time; the grid contactor opens and the stages stop. -/
  | stnGridtrip (cause : BitVec 4)
  /-- STATION_RECONNECT, R369: The reconnect delay passes; the power function resynchronises. -/
  | stationReconnect (line : BitVec 32)
  /-- TRIP_HOLD_TIMEOUT, R371: StTripHold passes without recovery; the post ends the session. -/
  | tripHoldTimeout
  /-- LINK_REGULATION, R370: Every 100 µs the link regulator forms P_ref for the front end. -/
  | linkRegulation (link : BitVec 32) (stages : BitVec 32) (grid : BitVec 32)
  /-- STAGE_REMOVE_TIMEOUT, R372: The power stays low for 1 s; one stage leaves. -/
  | stageRemoveTimeout
  /-- STN_STAGE, R372: A stage's current is imbalanced for 100 ms; it is stopped and the available power is reduced. -/
  | stnStage (stage : Fin 4) (amps : Vector (BitVec 32) 4)
  /-- STN_LINKOV, R373: The link stays above StLinkOv3 for 1 µs; the station plan applies. -/
  | stnLinkov (volts : BitVec 32)
  /-- PUMP_REFERENCE_UPDATE, R378: Every 100 ms the pump speed reference is set from the post current. -/
  | pumpReferenceUpdate
  /-- CC_FLOW, R378: Flow stays below CcFlowMin of its reference for 2 s. -/
  | ccFlow
  /-- CC_PRESSURE, R378: Pressure stays outside its window for 1 s; the pump stops. -/
  | ccPressure
  /-- PUMP_RESTART, R378: 5 s after a locked pump, it restarts, at most three times per session. -/
  | pumpRestart
  /-- CONDUCTOR_MODEL_STEP, R379: Every 10 ms the conductor nodes are integrated and CcCurrentLimit is formed. -/
  | conductorModelStep
  /-- MONARCH_BUDGET_EVALUATION, R385: Every 10 ms the site budget is formed and reductions are sent when the commitments exceed it. -/
  | monarchBudgetEvaluation
  /-- LEASE_REQUEST, R387: A request frame is evaluated against the ledger and granted or refused within 5 ms. -/
  | leaseRequest (frame : MonIn)
  /-- LEASE_RENEW, R387: A renew frame moves the expiry, or is refused after the expiry. -/
  | leaseRenew (frame : MonIn)
  /-- LEASE_RELEASE, R387: A release frame frees the lease at receipt. -/
  | leaseRelease (frame : MonIn)
  /-- REDUCE_ACKNOWLEDGED, R389: A post acknowledges a reduction; the ledger counts the new amount. -/
  | reduceAcknowledged (frame : MonIn)
  /-- LEASE_EXPIRY, R386: A lease passes Expiry plus MonClockMargin and leaves the ledger. -/
  | leaseExpiry (lease : BitVec 32)
  /-- REDUCTION_DEADLINE, R389: Deadline plus margin passes without an acknowledgement; the post is counted at its new amount. -/
  | reductionDeadline (lease : BitVec 32)
  /-- LEASE_GRANT_RECEIVED, R388: The post receives a grant and raises its lease limit. -/
  | leaseGrantReceived (frame : MonIn)
  /-- LEASE_RENEWED_RECEIVED, R388: The post receives a renewal and moves its expiry. -/
  | leaseRenewedReceived (frame : MonIn)
  /-- LEASE_REDUCE_RECEIVED, R389: The post receives a reduction, ramps down by the deadline and acknowledges. -/
  | leaseReduceReceived (frame : MonIn)
  /-- LEASE_REFUSED_RECEIVED, R387: The post receives a refusal with its retry time. -/
  | leaseRefusedReceived (frame : MonIn)
  /-- CLIENT_RENEW_DUE, R387: MonRenewPeriod passes; the post sends a renewal. -/
  | clientRenewDue
  /-- MON_EXPIRED, R388: No renewal by Expiry minus MonExpiryLead; the post ramps its limit to 0. -/
  | monExpired
  /-- MONARCH_HOLD_END, R393: The holding wait passes; Monarch starts serving with an empty ledger. -/
  | monarchHoldEnd
  /-- STANDBY_SILENCE, R393: A standby Monarch hears no renewal for MonLeaseDuration and begins its holding wait. -/
  | standbySilence
  /-- DC_SAMPLE, R399: Every 2,500 tk the DC pair is sampled and sorted; window ends apply the no-load test. -/
  | dcSample (volts : BitVec 32) (amps : BitVec 32) (full : BitVec 2)
  /-- JOURNAL_SLOT_WRITE, R407: Every 50 ms of device time the next journal slot is written. -/
  | journalSlotWrite
  /-- PHASE_PAGE_SAVE, R408: Every 1 s the per-phase registers are saved to the alternate page. -/
  | phasePageSave
  /-- METER_INTERVAL_CLOSE, R415: A multiple of MtrIntervalLength is reached in a session; an interval record is issued. -/
  | meterIntervalClose
  /-- RECORD_SIGNED, R415: A record is signed and stored in the ring, overwriting the oldest. -/
  | recordSigned
  /-- MTR_SIGNFAIL, R418: A record is not signed within 100 ms. -/
  | mtrSignfail
  /-- MTR_KEY_GENERATE, R420: MtrKeyGenerate 1 generates a new metering key and increments KeyGeneration. -/
  | mtrKeyGenerate (value : Byte) (role : Role)
  /-- OPEN, R434: An Open request with a role starts a pending session, or is refused. -/
  | roaOpen (req : RoaReq) (role : Byte) (random : BitVec 32)
  /-- CLOSE, R436: Close ends the session. -/
  | roaClose (req : RoaReq)
  /-- KEEP_ALIVE, R436: KeepAlive refreshes the session's idle time. -/
  | keepAlive (req : RoaReq)
  /-- READ, R440: Read returns a live or snapshot value, taking or releasing snapshots and clearing on read. -/
  | roaRead (req : RoaReq) (index : BitVec 16) (sub : Byte)
  /-- WRITE, R437: Write of an object with no row of its own: checked, then applied to the value or the shadow. -/
  | roaWrite (req : RoaReq) (index : BitVec 16) (sub : Byte) (data : List Byte)
  /-- RECORD_READ, R439: RecordRead returns a range of sub-indices from one tick. -/
  | recordRead (req : RoaReq) (index : BitVec 16) (sub : Byte) (last : Byte)
  /-- RECORD_WRITE, R437: RecordWrite is checked whole and takes all values in one tick or none. -/
  | recordWrite (req : RoaReq) (index : BitVec 16) (sub : Byte) (last : Byte) (data : List Byte)
  /-- DESCRIBE, R436: Describe returns type, access, write role, scope and limits. -/
  | describe (req : RoaReq) (index : BitVec 16) (sub : Byte)
  /-- BLOCK_READ_START, R442: BlockReadStart copies a DOM and reports its length and CRC. -/
  | blockReadStart (req : RoaReq) (index : BitVec 16) (sub : Byte)
  /-- BLOCK_READ_SEGMENT, R442: BlockReadSegment returns data from an offset. -/
  | blockReadSegment (req : RoaReq) (offset : BitVec 32)
  /-- BLOCK_WRITE_START, R442: BlockWriteStart opens a staged write with length and CRC. -/
  | blockWriteStart (req : RoaReq) (index : BitVec 16) (sub : Byte) (length : BitVec 32) (crc : BitVec 32)
  /-- BLOCK_WRITE_SEGMENT, R442: BlockWriteSegment stages data at the expected offset. -/
  | blockWriteSegment (req : RoaReq) (offset : BitVec 32) (data : List Byte)
  /-- BLOCK_WRITE_END, R442: BlockWriteEnd checks length and CRC and takes the block as one write under the object's checks. -/
  | blockWriteEnd (req : RoaReq)
  /-- BLOCK_ABORT, R442: BlockAbort abandons the open transfer. -/
  | blockAbort (req : RoaReq)
  /-- SESSION_PENDING_LAPSE, R434: A pending session lapses after 1 s without a request. -/
  | sessionPendingLapse (session : BitVec 16)
  /-- SESSION_IDLE_TIMEOUT, R435: A session without a valid request for RoaIdleTimeout closes. -/
  | sessionIdleTimeout (session : BitVec 16)
  /-- BLOCK_TRANSFER_TIMEOUT, R442: A transfer without a segment for RoaBlockTimeout is abandoned. -/
  | blockTransferTimeout (session : BitVec 16)
  /-- SNAPSHOT_DISCARD, R440: A snapshot not released within 50 ms is discarded. -/
  | snapshotDiscard (session : BitVec 16) (index : BitVec 16)
  /-- FIRMWARE_VERIFY, R443: FirmwareCommand 1 verifies the staged image. -/
  | firmwareVerify (role : Role)
  /-- FIRMWARE_INSTALL, R443: FirmwareCommand 2 verifies the image and writes it to the inactive slot. -/
  | firmwareInstall (role : Role)
  /-- FIRMWARE_ACTIVATE, R443: FirmwareCommand 3 marks the inactive slot for trial at the next pass. -/
  | firmwareActivate (role : Role)
  /-- FIRMWARE_COMMAND_COMPLETE, R443: A verify or install finishes and FirmwareResult reports it, with ROA_FWINSTALL on failure. -/
  | firmwareCommandComplete (result : BitVec 3) (version : BitVec 32)
  /-- ROLE_KEY_WRITE, R445: A wrapped role key is unwrapped and stored, or refused. -/
  | roleKeyWrite (session : BitVec 16) (roleCode : Byte) (wrapped : List Byte)
  /-- PARTNER_KEY_WRITE, R515: A wrapped Monarch key is stored for the selected partner entry. -/
  | partnerKeyWrite (session : BitVec 16) (wrapped : List Byte)
  /-- SLOT_HOST_TAKEUP, R449: The host takes the dictionary-target slots of one frame into their objects as one unit. -/
  | slotHostTakeup (entry : BitVec 13)
  /-- CAN_FRAME_RECEIVED, R458: An error-free frame is stamped and sent to ROA, a buffer or a partner entry, or discarded. -/
  | canFrameReceived (can : Fin 8) (hdr : Vector (BitVec 32) 5) (data : List Byte) (age : BitVec 32)
  /-- CAN_FRAME_SENT, R464: The head frame is sent and the next frame becomes head. -/
  | canFrameSent (can : Fin 8) (age : BitVec 32)
  /-- CAN_BUS_ERROR, R467: A bus error updates the counters, with error-passive, bus-off or clash handling. -/
  | canBusError (can : Fin 8) (err : Byte) (sending : Bool) (afterArbitration : Bool) (inc : BitVec 4)
  /-- CAN_RECOVERY_COMMAND, R468: CanTxCommand 1 starts bus-off recovery. -/
  | canRecoveryCommand (can : Fin 8) (role : Role)
  /-- CAN_RECOVERY_COMPLETE, R469: 128 recessive sequences complete recovery; stale ESL frames are regenerated and the queue resumes. -/
  | canRecoveryComplete (can : Fin 8)
  /-- CAN_INTEGRATED, R53: 11 consecutive recessive bits integrate the controller onto the bus. -/
  | canIntegrated (can : Fin 8)
  /-- CAN_TX_SUBMIT, R464: A CanTxFrame block is queued, or refused. -/
  | canTxSubmit (can : Fin 8) (block : List Byte) (role : Role)
  /-- CAN_ABORT_HEAD, R465: CanTxAbort 1 removes the head frame. -/
  | canAbortHead (can : Fin 8) (sending : Bool) (role : Role)
  /-- CAN_ABORT_ALL, R465: CanTxAbort 2 removes every frame. -/
  | canAbortAll (can : Fin 8) (sending : Bool) (role : Role)
  /-- CAN_ABORT_NON_SAFETY, R465: CanTxAbort 3 removes every frame not of an ESL connection. -/
  | canAbortNonSafety (can : Fin 8) (sending : Bool) (role : Role)
  /-- CAN_HEADWAIT, R466: The head's wait reaches CanHeadWaitLimit. -/
  | canHeadwait (can : Fin 8)
  /-- CAN_ANTENNA_START, R456: CanAntennaCommand 1 starts rate detection with the transmitter silent. -/
  | canAntennaStart (can : Fin 8) (role : Role)
  /-- CAN_ANTENNA_STOP, R457: CanAntennaCommand 2 stops the run. -/
  | canAntennaStop (can : Fin 8) (role : Role)
  /-- ANTENNA_DATA_PHASE_END, R457: 1 s after confirmation, the run ends as found. -/
  | antennaDataPhaseEnd (can : Fin 8) (dataInterval : BitVec 16) (frames : Byte)
  /-- ANTENNA_TIMEOUT, R457: No rate is confirmed within CanAntennaTimeout. -/
  | antennaTimeout (can : Fin 8)
  /-- CAN_RX_BUFFER_LOCK, R461: A read of CanRxWord0 locks the selected buffer and takes a snapshot. -/
  | canRxBufferLock (can : Fin 8)
  /-- CAN_RX_BUFFER_RELEASE, R461: A read of the last occupied word releases the buffer and moves in its pending copy. -/
  | canRxBufferRelease (can : Fin 8)
  /-- ETH_FRAME_RECEIVED, R480: A received frame is dispatched to 802.1AS, the host, ESL, ROA or Monarch, or discarded. -/
  | ethFrameReceived (port : Fin 4) (frame : EthIn)
  /-- NET_LINKDOWN, R482: An XG port loses its link; its queues empty. -/
  | netLinkdown (port : Fin 2) (pll : Bool)
  /-- XG_LINK_UP, R482: Block lock held for 10 ms brings the port up. -/
  | xgLinkUp (port : Fin 2)
  /-- GATE_INTERVAL_START, R481: A gate-control-list interval starts and opens its classes. -/
  | gateIntervalStart (port : Fin 2)
  /-- PTP_SYNC, R488: A synchronisation compares device time with the domain and steps it or adjusts its rate. -/
  | ptpSync (tandem : Bool) (time : BitVec 64)
  /-- SYNC_TIMEOUT, R488: Three missed Sync intervals put device time into holdover. -/
  | syncTimeout
  /-- NET_TIMELOSS, R488: DevTimeHoldoverLimit passes in holdover; device time is lost. -/
  | netTimeloss
  /-- PPS_IN_EDGE, R489: A rising PPS_IN edge marks the whole second when no port is synchronised. -/
  | ppsInEdge
  /-- STREAM_DATAGRAM_SEND, R490: A full payload, or 1 ms after the first record, sends a waveform datagram. -/
  | streamDatagramSend
  /-- NET_PLCA, R483: No PLCA beacon for 4 ms; the port falls back to CSMA/CD. -/
  | netPlca (port : Fin 2)
  /-- PLCA_BEACON_RETURN, R483: Beacons return and PLCA resumes. -/
  | plcaBeaconReturn (port : Fin 2)
  /-- ESL_FRAME_RECEIVED, R508: An ESL frame is checked for entry, length, CRC and sequence and, if accepted, written to the slots. -/
  | eslFrameReceived (transport : Fin 12) (source : BitVec 32) (entry : BitVec 13) (bytes : List Byte)
  /-- ESL_WATCHDOG_EXPIRY, R510: WatchdogTime passes without an accepted frame; substitute values apply and ESL_WDOG is raised. -/
  | eslWatchdogExpiry (connection : BitVec 11)
  /-- ESL_TX_FRAME, R507: At TxPeriod or slot release, a frame is assembled with the next sequence, or skipped. -/
  | eslTxFrame (entry : BitVec 13)
  /-- SO_ENERGISE, R518: An energise command runs the switch-alone test and then energises the output. -/
  | soEnergise (so : Fin 8) (reads : BitVec 10)
  /-- SO_DEENERGISE, R516: A de-energise command takes both switches low in the tick of the decision. -/
  | soDeenergise (so : Fin 8)
  /-- SO_READBACK_MISMATCH, R517: SoReadbackFilter mismatches raise a stuck-on or stuck-off fault and hold the output. -/
  | soReadbackMismatch (so : Fin 8) (readback : BitVec 2)
  /-- SO_OFF_PULSE, R519: Every SoOffPulseInterval one switch is pulsed off and its readback is checked. -/
  | soOffPulse (so : Fin 8) (afterOff : Bool) (afterOn : Bool)
  /-- SAF_SOREADBACK, R520: A pilot-drive readback mismatches on three cycles; both switches are held off. -/
  | safSoreadback (so : Fin 8)
  /-- SI_VALUE_CHANGE, R522: An input level holds for SiFilter and becomes its value; a demand raises SAF_SIDEMAND. -/
  | siValueChange (si : Fin 16) (level : Bool)
  /-- SI_TEST_PULSE_CHECK, R523: Each test pulse checks that its inputs follow; two failures raise SAF_SISHORT. -/
  | siTestPulseCheck (tp : Fin 4) (reads : BitVec 16)
  /-- SAF_SIDISCREPANCY, R525: A pair disagrees beyond SiDiscrepancyTime. -/
  | safSidiscrepancy (si : Fin 16)
  /-- SAF_PINREADBACK, R500: An output ball differs from its command on two ticks. -/
  | safPinreadback (ball : Fin 176)
  /-- SAF_PROOFDUE, R504: SafSinceProof reaches SafProofInterval. -/
  | safProofdue
  /-- FAULT_RAISE, R532: A block raises a code and instance; the status bit is set and the island is signalled for SAFE or CRITICAL. -/
  | faultRaise (code : BitVec 16) (inst : BitVec 16)
  /-- FAULT_RECORD_TAKE, R533: H0 takes a queued raise into a new, repeated or merged record and applies the class reaction. -/
  | faultRecordTake
  /-- FAULT_CLEAR_REQUEST, R535: A FaultClearRequest write clears the named status, or is refused while the cause is present. -/
  | faultClearRequest (value : BitVec 32) (role : Role)
  /-- EVENT_LOG_FLUSH, R539: Every 100 ms the staged event-log entries are written to eMRAM. -/
  | eventLogFlush
  /-- FAULT_INJECT, R541: InjectCommand 1 in M11 raises the selected code as if it had been detected. -/
  | faultInject (role : Role)
  /-- SRAM_ECC_ERROR, R543: An SRAM read finds an ECC error; it is corrected, or handled as uncorrectable by master. -/
  | sramEccError (master : Fin 20) (bank : Fin 24) (region : BitVec 12) (double : Bool)
  /-- BACKGROUND_TEST_REGION, R544: Every MemTestPeriod the next region is copied, march-tested and restored. -/
  | backgroundTestRegion (fails : BitVec 2) (double : Bool) (copy : Bool)
  /-- MEM_CONFLICTSAT, R546: A bank-conflict counter saturates. -/
  | memConflictsat (master : Fin 20)
  /-- LEAVE_REQUEST, R552: An operation asks for leave; it is granted at once, or it waits in class order. -/
  | leaveRequest (op : LeaveOp)
  /-- LEAVE_SAFETY_REQUEST, R553: A Safety request is granted within 2 µs, counting any overrun of the reserve. -/
  | leaveSafetyRequest (op : LeaveOp)
  /-- LEAVE_GRANT, R552: A waiting request is granted once the sum and class order allow. -/
  | leaveGrant
  /-- LEAVE_RETURN, R551: An operation ends and returns its grant. -/
  | leaveReturn (op : LeaveOp)
  /-- LEAVE_WAIT, R552: A request has waited LeaveWaitWarn. -/
  | leaveWait (op : LeaveOp)
  /-- TEMPERATURE_SAMPLE, R557: Every 1 ms the temperature sensors are judged for validity, warning and critical levels. -/
  | temperatureSample (raw : Vector (BitVec 32) 8)
  /-- VOLTAGE_SAMPLE, R558: Every 10 µs the voltage monitors move between normal, warning and fault. -/
  | voltageSample (volts : Vector (BitVec 32) 12)
  /-- PROCESS_MONITOR_SAMPLE, R559: Every 1 s the ring oscillators are measured and their drift is checked. -/
  | processMonitorSample (freq : Vector (BitVec 32) 4)
  /-- PPS_OUT_SECOND, R489: With DevTimePpsOut 1, PPS_OUT rises at each whole second of device time and falls 10 ms later. -/
  | ppsOutSecond
  /-- LAMP_PATTERN_EDGE, R329: At each whole second of device time a lamp frame starts, and each lamp is lit or unlit at the offsets its pattern gives. -/
  | lampPatternEdge (ms : Fin 1000)
  /-- PTP_SYNC_TRANSMIT, R487: As grandmaster, the device sends an 802.1AS Sync every 2^DevTimeSyncLog s on each enabled port, and on a Tandem link in TdPtpDomain. -/
  | ptpSyncTransmit (port : Fin 4) (grandmaster : Bool)
  /-- FREE_RUNNING_METER_SAMPLE, R405: While the metering timebase is acquiring or lost, the AC channels are sampled 256 times per last valid period, timed by ticks. -/
  | freeRunningMeterSample (raw : Vector (BitVec 32) 8) (full : Byte)
  /-- STATION_CHOPPER_RUN, R373: The station link rises above StLinkOv2 and the station brake chopper runs with a duty that rises with the link. -/
  | stationChopperRun (volts : BitVec 32)
  /-- STATION_CHOPPER_STOP, R373: The station link falls below StLinkOv2 minus 10 V and the station chopper stops. -/
  | stationChopperStop (volts : BitVec 32)
  /-- LINK_BELOW_OV1, R284: A traction link falls below TracOv1 minus TracOvHysteresis, and TracOvStage leaves stage OV1. -/
  | linkBelowOv1 (link : Fin 4) (volts : BitVec 32)
  /-- LINK_BELOW_OV3, R284: A traction link falls below the effective OV3 minus TracOvHysteresis, and TracOvStage leaves stage OV3. -/
  | linkBelowOv3 (link : Fin 4) (volts : BitVec 32)
  /-- LINK_FAULT_OPEN_TIMEOUT, R347: 20 ms after the link enters fault, or after detection is lost under current, the inlet contactors open even though the current has not fallen to LkOpenCurrent. -/
  | linkFaultOpenTimeout
  /-- INLET_PRECHARGE_OUTPUT_OPEN, R348: 20 ms after DC+ closes on a pre-charge fallback, the vehicle's pre-charge output is de-energised. -/
  | inletPrechargeOutputOpen
  /-- XG_PLL_LOCK, R588: PLL2 or PLL3 of an enabled XG port locks on its reference, and bit 2 or 3 of PllLockMap becomes 1. -/
  | xgPllLock (port : Fin 2)
  /-- TEST_RESTART_DELAY, R251: 10 ms after an abandoned regime-2 test of an actuator or the pump, the test restarts once the groups switch again. -/
  | testRestartDelay (obs : Fin 9)
  /-- LINK_PROTOCOL_TIMEOUT, R366: A charging-protocol timeout ends the session with LNK_PROTOCOL. -/
  | linkProtocolTimeout
  deriving DecidableEq, Repr

end Sys2Proof
end

