-- ==== Sys2Proof/Machine/F32.lean ====
section
/-! DEFINITION. IEEE 754 binary32 values held as their raw 32 bits (R7): exact value, correctly rounded result, order. -/

namespace Sys2Proof.Machine.F32

/-- 2^e for any integer e. -/
def pow2 (e : Int) : Rat := if 0 ≤ e then ((2 ^ e.toNat : Nat) : Rat) else mkRat 1 (2 ^ (-e).toNat)

/-- The sign bit. -/
def neg (b : Nat) : Bool := b.testBit 31

/-- The biased exponent field. -/
def expo (b : Nat) : Nat := b / 8388608 % 256

/-- The fraction field. -/
def frac (b : Nat) : Nat := b % 8388608

/-- Neither NaN nor infinity. -/
def isFinite (b : Nat) : Bool := expo b != 255

/-- A NaN. -/
def isNaN (b : Nat) : Bool := expo b == 255 && frac b != 0

/-- The magnitude as a rational; 0 for a NaN or an infinity, which no caller asks for. -/
def mag (b : Nat) : Rat :=
  if expo b = 255 then 0
  else if expo b = 0 then mkRat (frac b) (2 ^ 149)
  else if 150 ≤ expo b then (((8388608 + frac b) * 2 ^ (expo b - 150) : Nat) : Rat)
  else mkRat ((8388608 + frac b : Nat) : Int) (2 ^ (150 - expo b))

/-- The exact value of a finite word. -/
def toRat (b : Nat) : Rat := if neg b then - mag b else mag b

/-- Nearest integer, ties to even. -/
def roundEven (q : Rat) : Int :=
  let f := q.floor
  let r := q - (f : Rat)
  if r < mkRat 1 2 then f else if mkRat 1 2 < r then f + 1 else if f % 2 = 0 then f else f + 1

/-- The floor of the base-2 logarithm of a positive rational. -/
def floorLog2 (q : Rat) : Int :=
  let k : Int := (Nat.log2 q.num.natAbs : Int) - (Nat.log2 q.den : Int)
  if pow2 k ≤ q then k else k - 1

/-- The word of a magnitude, rounded to nearest even; overflow gives infinity. -/
def ofMag (q : Rat) : Nat :=
  if q = 0 then 0
  else
    let e := max (floorLog2 q) (-126)
    let m := (roundEven (q / pow2 (e - 23))).toNat
    if m < 8388608 then m
    else if m = 16777216 then (if e + 1 > 127 then 0x7F800000 else ((e + 128).toNat) * 8388608)
    else if e > 127 then 0x7F800000
    else (e + 127).toNat * 8388608 + (m - 8388608)

/-- The word nearest to a rational. -/
def ofRat (q : Rat) : Nat := if q < 0 then 0x80000000 + ofMag (-q) else ofMag q

/-- Subnormal words become a zero of the same sign (R190). -/
def flush (b : Nat) : Nat := if expo b = 0 then (if neg b then 0x80000000 else 0) else b

/-- The square root of a rational, correctly rounded; negative arguments give 0. -/
def sqrtRat (q : Rat) : Nat :=
  if q ≤ 0 then 0
  else
    let k : Int := (floorLog2 q) / 2
    let s := q / pow2 (2 * k) * ((2 ^ 60 : Nat) : Rat)
    let fl := s.floor.toNat
    let r := Nat.sqrt fl
    let sticky := if ((r * r : Nat) : Rat) = s then 0 else 1
    ofMag (mkRat ((2 * r + sticky : Nat) : Int) (2 ^ 31) * pow2 k)

/-- Order of two finite words by value. -/
def le (a b : Nat) : Bool := toRat a ≤ toRat b

/-- Strict order of two finite words by value. -/
def lt (a b : Nat) : Bool := toRat a < toRat b

end Sys2Proof.Machine.F32
end

