-- ==== Sys2Proof/Machine/Float.lean ====
section
/-! DEFINITION. The arithmetic of the engines on binary32 words (R190, R231): subnormals as zero, rounding to nearest even,
one rounding per operation. -/

namespace Sys2Proof.Machine.F32

/-- The NaN that arithmetic gives. -/
def nan : Nat := 0x7FC00000

/-- Infinity and zero with a sign. -/
def infinity (s : Bool) : Nat := if s then 0xFF800000 else 0x7F800000
def zero (s : Bool) : Nat := if s then 0x80000000 else 0

/-- An infinity. -/
def isInf (b : Nat) : Bool := expo b == 255 && frac b == 0

/-- A zero of either sign, subnormals included (R190). -/
def isZero (b : Nat) : Bool := expo b == 0

/-- The rounded word of an exact result; an exact zero takes the sign given, a subnormal result becomes zero (R190). -/
def rounded (q : Rat) (zeroSign : Bool) : Nat := if q = 0 then zero zeroSign else flush (ofRat q)

/-- The word with its sign turned. -/
def negate (b : Nat) : Nat := if b.testBit 31 then b - 0x80000000 else b + 0x80000000

/-- a + b. -/
def add (a b : Nat) : Nat :=
  let a := flush a
  let b := flush b
  if isNaN a || isNaN b then nan
  else if isInf a then (if isInf b && neg a != neg b then nan else a)
  else if isInf b then b
  else rounded (toRat a + toRat b) (neg a && neg b && isZero a && isZero b)

/-- a − b. -/
def sub (a b : Nat) : Nat := if isNaN b then nan else add a (negate (flush b))

/-- a × b. -/
def mul (a b : Nat) : Nat :=
  let a := flush a
  let b := flush b
  let s := neg a != neg b
  if isNaN a || isNaN b then nan
  else if isInf a || isInf b then (if isZero a || isZero b then nan else infinity s)
  else rounded (toRat a * toRat b) s

/-- c + a × b with one rounding. -/
def fma (c a b : Nat) : Nat :=
  let a := flush a
  let b := flush b
  let c := flush c
  let s := neg a != neg b
  if isNaN a || isNaN b || isNaN c then nan
  else if isInf a || isInf b then
    if isZero a || isZero b then nan
    else if isInf c && neg c != s then nan else infinity s
  else if isInf c then c
  else rounded (toRat c + toRat a * toRat b) (neg c && s && isZero c && (isZero a || isZero b))

/-- a / b. -/
def div (a b : Nat) : Nat :=
  let a := flush a
  let b := flush b
  let s := neg a != neg b
  if isNaN a || isNaN b then nan
  else if isInf a then (if isInf b then nan else infinity s)
  else if isInf b then zero s
  else if isZero b then (if isZero a then nan else infinity s)
  else rounded (toRat a / toRat b) s

/-- The square root. -/
def sqrt (a : Nat) : Nat :=
  let a := flush a
  if isNaN a then nan
  else if isZero a then a
  else if neg a then nan
  else if isInf a then a
  else sqrtRat (toRat a)

/-- The order of two words that are no NaN: value, infinities included. -/
def key (b : Nat) : Rat :=
  let b := flush b
  if isInf b then (if neg b then - ((2 ^ 200 : Nat) : Rat) else ((2 ^ 200 : Nat) : Rat)) else toRat b

/-- The smaller, −0 below +0; NaN for a NaN operand. -/
def fmin (a b : Nat) : Nat :=
  let a := flush a
  let b := flush b
  if isNaN a || isNaN b then nan
  else if key a < key b then a else if key b < key a then b else if neg a then a else b

/-- The larger, +0 above −0; NaN for a NaN operand. -/
def fmax (a b : Nat) : Nat :=
  let a := flush a
  let b := flush b
  if isNaN a || isNaN b then nan
  else if key a < key b then b else if key b < key a then a else if neg a then b else a

/-- π, to more digits than any conversion can tell apart. -/
def pi : Rat := mkRat 3141592653589793238462643383279502884197169399375105820974944592 (10 ^ 63)

/-- Signed integer, rounded to nearest and saturating, as its 32 bits (cvtfi). -/
def toI32 (b : Nat) : Nat :=
  let n := roundEven (toRat (flush b))
  let n := max (-2147483648) (min 2147483647 n)
  (n % 4294967296).toNat

/-- A signed 32-bit integer of its bits. -/
def ofBits32 (n : Nat) : Int := if n < 2147483648 then (n : Int) else (n : Int) - 4294967296

/-- Radians to au: round(a × 2^32 / 2π) mod 2^32 (cvtfa). -/
def radToAu (b : Nat) : Nat := (roundEven (toRat (flush b) * 2147483648 / pi) % 4294967296).toNat

/-- au to radians in [−π, π) (cvtaf). -/
def auToRad (n : Nat) : Nat := rounded ((ofBits32 n : Rat) * pi / 2147483648) false

end Sys2Proof.Machine.F32
end

