-- ==== Sys2Proof/Machine/Isa.lean ====
section
/-! DEFINITION. The instruction words of the control engines (R219 to R225, R231): fields, field rules, operands, timing,
and the walk of an entry's single path, from which the loader knows every property of it (R232, R233). -/

namespace Sys2Proof.Machine.Isa

/-! ## Fields (R219, R220) -/

def fG (w : Nat) : Bool := w.testBit 31
def fQ (w : Nat) : Nat := w / 2 ^ 29 % 4
def fOp (w : Nat) : Nat := w / 2 ^ 23 % 64
def fD (w : Nat) : Nat := w / 2 ^ 17 % 64
def fA (w : Nat) : Nat := w / 2 ^ 11 % 64
def fB (w : Nat) : Nat := w / 2 ^ 5 % 64
def fP (w : Nat) : Nat := w / 8 % 4
def fX (w : Nat) : Nat := w % 8
def fOff (w : Nat) : Nat := w % 2048
def fK (w : Nat) : Nat := w / 8 % 256
def fKP (w : Nat) : Nat := w / 2 % 4
def fImm (w : Nat) : Nat := w % 65536
def fPort (w : Nat) : Nat := w % 1024
def fN (w : Nat) : Nat := w / 2 ^ 12 % 2048
def fTgt (w : Nat) : Nat := w % 4096

/-- What a register field names: an f register up to a limit, an i register, a predicate, a shift count, or nothing. -/
inductive Kind
  | f (top : Nat) | i | p | sh | none
  deriving DecidableEq, Repr

/-- The field's value fits its kind (R221). -/
def Kind.fits : Kind → Nat → Bool
  | .f top, v => v ≤ top
  | .i, v => v < 16
  | .p, v => v < 4
  | .sh, v => v < 32
  | .none, v => v == 0

/-- The formats of R220 with the kinds of their fields; `t` also says whether P is used and the largest X. -/
inductive Form
  | t (d a b : Kind) (p : Bool) (x : Nat)
  | m (d a : Kind)
  | k
  | im (d : Kind)
  | port (d : Kind)
  | jump | bare | loop
  | undef
  deriving DecidableEq, Repr

/-- The format of each opcode (R231). -/
def form (op : Nat) : Form :=
  let F := Kind.f 63
  if op = 0x00 then .t .none .none .none false 0
  else if op ≤ 0x07 then .t F F F false 0
  else if op ≤ 0x0A then .t F F .none false 0
  else if op = 0x0B then .t F F F false 0
  else if op = 0x0C then .t F F .none false 0
  else if op = 0x0D then .t (.f 62) .i .none false 0
  else if op = 0x0E then .t .none F F true 5
  else if op = 0x0F then .t F F F true 0
  else if op = 0x10 then .t F F (.f 62) true 0
  else if op = 0x11 then .t (.f 61) F F true 0
  else if op = 0x12 then .t F F F true 0
  else if op = 0x13 then .k
  else if op = 0x14 then .t F F F true 7
  else if op = 0x18 ∨ op = 0x1A then .t .i F .none false 0
  else if op = 0x19 ∨ op = 0x1B then .t F .i .none false 0
  else if 0x20 ≤ op ∧ op ≤ 0x24 then .t .i .i .i false 0
  else if 0x25 ≤ op ∧ op ≤ 0x27 then .t .i .i .sh false 0
  else if op = 0x28 then .t .i .i .i false 0
  else if op = 0x29 then .t .none .i .i true 7
  else if op = 0x2A then .t .i .i .i true 0
  else if op = 0x2B then .m .i .i
  else if op = 0x2C ∨ op = 0x2D then .im .i
  else if op = 0x2E then .im F
  else if op = 0x2F then .t .p .p .p false 6
  else if op = 0x30 ∨ op = 0x32 then .m F .i
  else if op = 0x31 ∨ op = 0x33 then .m .i .i
  else if op = 0x34 ∨ op = 0x36 then .port F
  else if op = 0x35 ∨ op = 0x37 then .port .i
  else if op = 0x38 ∨ op = 0x39 then .jump
  else if op = 0x3A ∨ op = 0x3C then .bare
  else if op = 0x3B then .loop
  else .undef

/-- The opcode is defined and every field keeps R221. -/
def wordOk (w : Nat) : Bool :=
  match form (fOp w) with
  | .t d a b p x => d.fits (fD w) && a.fits (fA w) && b.fits (fB w) && (p || fP w == 0) && fX w ≤ x
  | .m d a => d.fits (fD w) && a.fits (fA w)
  | .k => fA w ≤ 62 && w % 2 == 0
  | .im d => d.fits (fD w) && !w.testBit 16
  | .port d => d.fits (fD w) && w / 1024 % 128 == 0
  | .jump => fN w == 0
  | .bare => fN w == 0 && fTgt w == 0
  | .loop => true
  | .undef => false

/-- jmp, call, ret, loop and end. -/
def isControl (w : Nat) : Bool := 0x38 ≤ fOp w && fOp w ≤ 0x3C

/-! ## Timing (R222 to R224): f registers are 0-63, i registers 100-115, predicates 200-203 -/

/-- Registers that an instruction reads, its guard included. -/
def reads (w : Nat) : List Nat :=
  let a := fA w
  let b := fB w
  let d := fD w
  let guard := if fG w then [200 + fQ w] else []
  guard ++
  (match fOp w with
  | 0x01 | 0x02 | 0x03 | 0x06 | 0x07 | 0x0B => [a, b]
  | 0x04 | 0x05 => [d, a, b]
  | 0x08 | 0x09 | 0x0A | 0x0C => [a]
  | 0x0D => [100 + a]
  | 0x0E => [a, b]
  | 0x0F => [a, b, 200 + fP w]
  | 0x10 => [a, b, b + 1]
  | 0x11 => [d, d + 1, d + 2, a, b]
  | 0x12 => [a, b]
  | 0x13 => [a, a + 1]
  | 0x14 => [a, b]
  | 0x18 | 0x1A => [a]
  | 0x19 | 0x1B => [100 + a]
  | 0x20 | 0x21 | 0x22 | 0x23 | 0x24 | 0x28 | 0x29 => [100 + a, 100 + b]
  | 0x25 | 0x26 | 0x27 | 0x2B => [100 + a]
  | 0x2A => [100 + a, 100 + b, 200 + fP w]
  | 0x2D => [100 + d]
  | 0x2F => [200 + a, 200 + b]
  | 0x30 | 0x31 => [100 + a]
  | 0x32 => [100 + a, d]
  | 0x33 => [100 + a, 100 + d]
  | 0x36 => [d]
  | 0x37 => [100 + d]
  | _ => [])

/-- Registers that an instruction writes. -/
def writes (w : Nat) : List Nat :=
  let d := fD w
  match fOp w with
  | 0x01 | 0x02 | 0x03 | 0x04 | 0x05 | 0x06 | 0x07 | 0x08 | 0x09 | 0x0A | 0x0B | 0x0C | 0x0F | 0x19 | 0x1B | 0x2E | 0x30 | 0x34 => [d]
  | 0x0D => [d, d + 1]
  | 0x0E | 0x29 => [200 + fP w]
  | 0x10 | 0x11 | 0x12 | 0x14 => [d, 200 + fP w]
  | 0x13 => [d, 200 + fKP w]
  | 0x18 | 0x1A | 0x20 | 0x21 | 0x22 | 0x23 | 0x24 | 0x25 | 0x26 | 0x27 | 0x28 | 0x2A | 0x2B | 0x2C | 0x2D | 0x31 | 0x35 => [100 + d]
  | 0x2F => [200 + d]
  | _ => []

/-- Cycles after which a result can be read (R231). -/
def latency (w : Nat) : Nat :=
  match fOp w with
  | 0x0B | 0x0C | 0x12 => 12
  | 0x0D | 0x13 => 6
  | 0x20 | 0x21 | 0x22 | 0x23 | 0x24 | 0x25 | 0x26 | 0x27 | 0x29 | 0x2A | 0x2B | 0x2C | 0x2D | 0x2E | 0x2F => 1
  | _ => 3

/-- fdiv, fsqrt and vcomp share the divider (R224). -/
def usesDivider (w : Nat) : Bool := [0x0B, 0x0C, 0x12].contains (fOp w)

/-- Cycles of issue: 2 for jmp, call and ret (R225). -/
def issueCycles (w : Nat) : Nat := if [0x38, 0x39, 0x3A].contains (fOp w) then 2 else 1

/-- The timing of a path: next free issue cycle, when each awaited register can be read, when the divider is free. -/
structure Clock where
  next : Nat := 1
  ready : List (Nat × Nat) := []
  divider : Nat := 0
  deriving DecidableEq, Repr

/-- The cycle in which an instruction issues (R222, R224). -/
def Clock.issue (c : Clock) (w : Nat) : Nat :=
  let t := (reads w ++ writes w).foldl (fun t r => max t ((c.ready.lookup r).getD 0)) c.next
  if usesDivider w then max t c.divider else t

/-- The timing after an instruction that issues in a cycle. -/
def Clock.after (c : Clock) (w t : Nat) : Clock :=
  { next := t + issueCycles w,
    ready := (writes w).map (fun r => (r, t + latency w)) ++ c.ready.filter (fun p => t < p.2 && !(writes w).contains p.1),
    divider := if usesDivider w then t + 12 else c.divider }

/-! ## Flow (R225) -/

/-- Where a path stands: next address, return stack, loops as (start, last, further passages). -/
structure Flow where
  pc : Nat
  stack : List Nat := []
  loops : List (Nat × Nat × Nat) := []
  deriving DecidableEq, Repr

/-- Leave the loop bodies whose last instruction has just issued, or go back to their starts. -/
def loopBack : List (Nat × Nat × Nat) → Nat → Nat × List (Nat × Nat × Nat)
  | [], pc => (pc + 1, [])
  | (st, last, n) :: ls, pc =>
    if pc = last then
      match n with
      | 0 => loopBack ls pc
      | n + 1 => (st, (st, last, n) :: ls)
    else (pc + 1, (st, last, n) :: ls)

/-- The flow after an instruction; none at `end`, and at a ret outside a call. -/
def Flow.next (f : Flow) (w : Nat) : Option Flow :=
  match fOp w with
  | 0x38 => some { f with pc := fTgt w }
  | 0x39 => some { f with pc := fTgt w, stack := (f.pc + 1) :: f.stack }
  | 0x3A => match f.stack with
    | [] => none
    | r :: rs => some { f with pc := r, stack := rs }
  | 0x3B => some { f with pc := f.pc + 1, loops := (f.pc + 1, fTgt w, fN w) :: f.loops }
  | 0x3C => none
  | _ => let r := loopBack f.loops f.pc
         some { f with pc := r.1, loops := r.2 }

/-- What a walk of a path finds: code of R233 (0 when it reaches its end), the word it stopped at, its cycles, the ports it
touches. -/
structure Walk where
  code : Nat := 0
  addr : Nat := 0
  cycles : Nat := 0
  ports : List (Nat × Bool) := []
  deriving DecidableEq, Repr

/-- Walk an entry's path: call depth at most 4, no ret outside a call, loops at most two deep, an end within 65,536
cycles. -/
def walk (word : Nat → Nat) : Nat → Flow → Clock → List (Nat × Bool) → Walk
  | 0, f, c, ps => ⟨9, f.pc, c.next, ps⟩
  | n + 1, f, c, ps =>
    let w := word f.pc
    let t := c.issue w
    let ps := if [0x34, 0x35].contains (fOp w) then (fPort w, false) :: ps
      else if [0x36, 0x37].contains (fOp w) then (fPort w, true) :: ps else ps
    if 65536 < t then ⟨9, f.pc, t, ps⟩
    else if fOp w = 0x3C then ⟨0, f.pc, t, ps⟩
    else if fOp w = 0x39 ∧ 4 ≤ f.stack.length then ⟨7, f.pc, t, ps⟩
    else if fOp w = 0x3B ∧ 2 ≤ f.loops.length then ⟨6, f.pc, t, ps⟩
    else
      match f.next w with
      | none => ⟨7, f.pc, t, ps⟩
      | some f' => walk word n f' (c.after w t) ps

/-! ## Ports (R229, R230) -/

/-- An input port that the table lists. -/
def inPort (p : Nat) : Bool :=
  p < 0x38 || (0x40 ≤ p && p < 0x58) || (0x60 ≤ p && p < 0x78) || (0x80 ≤ p && p < 0x84) || (0x88 ≤ p && p < 0x8C) ||
  (0x90 ≤ p && p < 0xC4) || (0x100 ≤ p && p < 0x124) || (0x128 ≤ p && p < 0x130) || (0x140 ≤ p && p < 0x180)

/-- A PWM group number. -/
def isGroup (g : Nat) : Bool := g < 12 || (16 ≤ g && g < 24)

/-- An output port that the table lists. -/
def outPort (p : Nat) : Bool :=
  (0x200 ≤ p && p < 0x260) || (0x260 ≤ p && isGroup (p - 0x260)) && p < 0x280 || (0x280 ≤ p && p < 0x2A0 && isGroup (p - 0x280)) ||
  (0x2A0 ≤ p && p ≤ 0x2C0)

/-! ## The image check (R232, R233) -/

/-- A program image as its words. -/
abbrev Image := Nat → Nat

/-- A byte of the image. -/
def imageByte (im : Image) (n : Nat) : Nat := im (n / 4) / 256 ^ (n % 4) % 256

/-- LengthWords and EntryCount. -/
def lengthWords (im : Image) : Nat := im 2
def entryCount (im : Image) : Nat := imageByte im 16

/-- Descriptor fields (R232). -/
def dscAddr (im : Image) (d : Nat) : Nat := im (8 + 3 * d) % 65536
def dscTb (im : Image) (d : Nat) : Nat := im (8 + 3 * d) / 65536 % 256
def dscCycles (im : Image) (d : Nat) : Nat := im (9 + 3 * d)
def dscPower (im : Image) (d : Nat) : Nat := im (10 + 3 * d) % 65536

/-- The descriptor that names an entry address. -/
def dscFor (im : Image) (addr : Nat) : Option Nat := (List.range (min (entryCount im) 18)).find? (fun d => dscAddr im d == addr)

/-- The first address from 0x40 whose word fails a test. -/
def firstBad (im : Image) (p : Nat → Nat → Bool) : Option Nat :=
  ((List.range (lengthWords im - 64)).map (· + 64)).find? (fun a => p a (im a))

/-- A loop against R225: an empty or control-ended body, or a body that crosses an outer one. -/
def badLoop (im : Image) (a w : Nat) : Bool :=
  fOp w == 0x3B && (fTgt w ≤ a || isControl (im (fTgt w)) ||
    (List.range (fTgt w - a)).any (fun j => let b := a + 1 + j
                                            fOp (im b) == 0x3B && fTgt w < fTgt (im b)))

/-- The first descriptor that is invalid: address, power, reserved field, or an address named twice. -/
def badDescriptor (im : Image) : Option Nat :=
  (List.range (entryCount im)).find? (fun d =>
    dscAddr im d < 64 || lengthWords im ≤ dscAddr im d || 10000 < dscPower im d || im (8 + 3 * d) / 2 ^ 24 != 0 || im (10 + 3 * d) / 65536 != 0 ||
    dscCycles im d = 0 || 65536 < dscCycles im d || (List.range d).any (fun e => dscAddr im e == dscAddr im d))

/-- The timebases whose TB.SRC ports a walk writes. -/
def tbMap (ps : List (Nat × Bool)) : Nat :=
  (List.range 8).foldl (fun m t => if ps.any (fun p => p.2 && 0x2A0 + 4 * t ≤ p.1 && p.1 < 0x2A4 + 4 * t) then m + 2 ^ t else m) 0

/-- The result for one descriptor's path: codes 7, 6, 9, 0x0A and 0x0B. -/
def checkPath (im : Image) (d : Nat) : Nat × Nat :=
  let r := walk im 65537 { pc := dscAddr im d } {} []
  if r.code ≠ 0 then (r.code, r.addr)
  else if r.cycles ≠ dscCycles im d then (0x09, dscAddr im d)
  else if tbMap r.ports ≠ dscTb im d ∨ 64 < (r.ports.filter (·.2)).eraseDups.length then (0x0A, dscAddr im d)
  else if r.ports.any (fun p => if p.2 then !outPort p.1 else !inPort p.1) then (0x0B, dscAddr im d)
  else (0, 0)

/-- The check of R233: code, first offending word, first offending descriptor (0xFF none). `crcOk` is the comparison of
ImageCrc. -/
def check (im : Image) (crcOk : Bool) : Nat × Nat × Nat :=
  if im 0 ≠ 0x314D4B48 ∨ im 1 ≠ 1 then (0x01, 0, 0xFF)
  else if lengthWords im < 64 ∨ 4096 < lengthWords im ∨ ¬ crcOk then (0x02, 2, 0xFF)
  else
    match (List.range (4096 - lengthWords im)).find? (fun j => im (lengthWords im + j) != 0) with
    | some j => (0x02, lengthWords im + j, 0xFF)
    | none =>
      match firstBad im (fun _ w => !wordOk w), firstBad im (fun _ w => isControl w && fG w),
          firstBad im (fun _ w => [0x38, 0x39, 0x3B].contains (fOp w) && (fTgt w < 64 || lengthWords im ≤ fTgt w)), firstBad im (badLoop im) with
      | some a, _, _, _ => (0x03, a, 0xFF)
      | none, some a, _, _ => (0x04, a, 0xFF)
      | none, none, some a, _ => (0x05, a, 0xFF)
      | none, none, none, some a => (0x06, a, 0xFF)
      | none, none, none, none =>
        if 18 < entryCount im ∨ im 4 / 256 ≠ 0 ∨ im 5 ≠ 0 ∨ im 6 ≠ 0 ∨ im 7 ≠ 0 ∨ im 62 ≠ 0 ∨ im 63 ≠ 0 then (0x08, 4, 0xFF)
        else
          match badDescriptor im with
          | some d => (0x08, 8 + 3 * d, d)
          | none =>
            let rs := (List.range (entryCount im)).map (fun d => (checkPath im d, d))
            match rs.foldl (fun (best : Option ((Nat × Nat) × Nat)) r => if r.1.1 = 0 then best else match best with
                | none => some r
                | some b => if r.1.1 < b.1.1 then some r else some b) none with
            | none => (0x00, 0, 0xFF)
            | some r => (r.1.1, r.1.2, r.2)

end Sys2Proof.Machine.Isa
end

