-- ==== Sys2Proof/Machine/Crc.lean ====
section
/-! DEFINITION. CRC-32C (Castagnoli), reflected, initial value and final inversion all ones. -/

namespace Sys2Proof.Machine

/-- One bit of the reflected CRC-32C register, polynomial 0x82F63B78. -/
def crcBit (c : Nat) : Nat := if c % 2 = 1 then (c / 2) ^^^ 0x82F63B78 else c / 2

/-- Several bits. -/
def crcBits : Nat → Nat → Nat
  | 0, c => c
  | n + 1, c => crcBits n (crcBit c)

/-- The register after some bytes. -/
def crcRun : List Nat → Nat → Nat
  | [], c => c
  | b :: bs, c => crcRun bs (crcBits 8 (c ^^^ (b % 256)))

/-- CRC-32C of a byte string. -/
def crc32c (bs : List Nat) : Nat := crcRun bs 0xFFFFFFFF ^^^ 0xFFFFFFFF

/-- The bytes of a number, least significant first, as naturals (R7). -/
def natBytes : Nat → Nat → List Nat
  | 0, _ => []
  | n + 1, v => v % 256 :: natBytes n (v / 256)

end Sys2Proof.Machine
end

