-- ==== Sys2Proof/Machine/FaultTable.lean ====
section
/-! DEFINITION. The fault codes of the device (R11, R531): their mnemonics, classes and instance ranges (R586). -/

namespace Sys2Proof.Machine

/-- The five classes of R11, and the three codes whose class comes from configuration or from the monitor (R541). -/
inductive FClass
  | note | derate | halt | safe | critical
  | ofConnection | ofInput | ofMonitor
  deriving DecidableEq, Repr

/-- One row of a fault table: code, class, "record only" (R75) and the instances it may name (R586). -/
structure FaultRow where
  code : Nat
  cls : FClass
  recordOnly : Bool
  insts : List (Nat × Nat)
  deriving DecidableEq, Repr

namespace FC

/-- BOOT_SEALFLOAT: seal pin floating (spec/03_seal_boot_calibration.md). -/
abbrev bootSealfloat : Nat := 0x0201

/-- BOOT_SEALCHG: seal pin differs from latch (spec/03_seal_boot_calibration.md). -/
abbrev bootSealchg : Nat := 0x0202

/-- BOOT_SEALBREAK: latch differs from seal reference (spec/03_seal_boot_calibration.md). -/
abbrev bootSealbreak : Nat := 0x0203

/-- BOOT_FWSLOT: active slot invalid; other slot booted (spec/03_seal_boot_calibration.md). -/
abbrev bootFwslot : Nat := 0x0204

/-- BOOT_FWFAIL: no valid firmware slot (spec/03_seal_boot_calibration.md). -/
abbrev bootFwfail : Nat := 0x0205

/-- BOOT_MTRIMAGE: metrology image invalid (spec/03_seal_boot_calibration.md). -/
abbrev bootMtrimage : Nat := 0x0206

/-- BOOT_SELFTEST: a self-test of R72 failed (spec/03_seal_boot_calibration.md). -/
abbrev bootSelftest : Nat := 0x0207

/-- BOOT_CALCRC: factory calibration CRC failed (spec/03_seal_boot_calibration.md). -/
abbrev bootCalcrc : Nat := 0x0208

/-- BOOT_CFGCRC: stored configuration set CRC failed (spec/03_seal_boot_calibration.md). -/
abbrev bootCfgcrc : Nat := 0x0209

/-- BOOT_RESETHELD: RESET_N low longer than 500 ms (spec/03_seal_boot_calibration.md). -/
abbrev bootResetheld : Nat := 0x020A

/-- BOOT_PLLLOCK: PLL0 or PLL1 not locked within 1 ms (spec/03_seal_boot_calibration.md). -/
abbrev bootPlllock : Nat := 0x020B

/-- BOOT_MAINRESET: island trigger: main-domain reset, by RESET_N low or by power-on (spec/03_seal_boot_calibration.md). -/
abbrev bootMainreset : Nat := 0x020C

/-- BOOT_CLOCKLOSS: island trigger: clock loss (R13) (spec/03_seal_boot_calibration.md). -/
abbrev bootClockloss : Nat := 0x020D

/-- BOOT_COREUV: island trigger: core-supply under-voltage on the island's own monitor (spec/03_seal_boot_calibration.md). -/
abbrev bootCoreuv : Nat := 0x020E

/-- TB_STEP: phase error at or above TbStepThreshold; angle stepped (spec/04_angle_timebases.md). -/
abbrev tbStep : Nat := 0x0301

/-- TB_HOLDOVER: no update within TbUpdateTimeout (spec/04_angle_timebases.md). -/
abbrev tbHoldover : Nat := 0x0302

/-- TB_LOST: holdover limit passed, four large errors, or source invalid (spec/04_angle_timebases.md). -/
abbrev tbLost : Nat := 0x0303

/-- TB_LOCKFAIL: lock not declared within the limit of R93 (spec/04_angle_timebases.md). -/
abbrev tbLockfail : Nat := 0x0304

/-- TB_SPEEDCLAMP: source speed beyond ±2^28 au/tk (spec/04_angle_timebases.md). -/
abbrev tbSpeedclamp : Nat := 0x0305

/-- TB_EVLATE: occurrence moved or dropped under R104 (spec/04_angle_timebases.md). -/
abbrev tbEvlate : Nat := 0x0306

/-- PWM_CARRIERFAST: period start held back under R116 (spec/05_pwm_patterns.md). -/
abbrev pwmCarrierfast : Nat := 0x0401

/-- PWM_STALL: no period start within GroupPeriodMax (spec/05_pwm_patterns.md). -/
abbrev pwmStall : Nat := 0x0402

/-- PWM_BSTUV: bootstrap under-voltage on a machine or other channel (spec/05_pwm_patterns.md). -/
abbrev pwmBstuv : Nat := 0x0403

/-- PWM_BSTUV_PHASE: bootstrap under-voltage on an LV converter buck phase (spec/05_pwm_patterns.md). -/
abbrev pwmBstuvPhase : Nat := 0x0404

/-- PWM_PATTERNSEL: load selected an empty pattern; previous pattern kept (spec/05_pwm_patterns.md). -/
abbrev pwmPatternsel : Nat := 0x0405

/-- GD_DESAT: desaturation latched (spec/06_gate_drive.md). -/
abbrev gdDesat : Nat := 0x0501

/-- GD_HARDSHORT: hard short latched (spec/06_gate_drive.md). -/
abbrev gdHardshort : Nat := 0x0502

/-- GD_OVERCURRENT: fast overcurrent latched (spec/06_gate_drive.md). -/
abbrev gdOvercurrent : Nat := 0x0503

/-- GD_UVLO: gate-supply under-voltage latched (spec/06_gate_drive.md). -/
abbrev gdUvlo : Nat := 0x0504

/-- GD_OVLO: gate-supply over-voltage latched (spec/06_gate_drive.md). -/
abbrev gdOvlo : Nat := 0x0505

/-- GD_LEGCONFLICT: machine domain forced to pulse-off under R151 (spec/06_gate_drive.md). -/
abbrev gdLegconflict : Nat := 0x0506

/-- GD_RETRY: protection event entered retry wait (spec/06_gate_drive.md). -/
abbrev gdRetry : Nat := 0x0507

/-- GD_GSSTART: supply pair not ready within 200 µs of its grant (spec/06_gate_drive.md). -/
abbrev gdGsstart : Nat := 0x0508

/-- GD_SERVICELIMIT: test-drive current above ServiceCurrentLimit in M10 (spec/06_gate_drive.md). -/
abbrev gdServicelimit : Nat := 0x0509

/-- GD_KEEPERUV: keeper supply under-voltage recorded by the island (spec/06_gate_drive.md). -/
abbrev gdKeeperuv : Nat := 0x050A

/-- SNS_SDSTUCK: SD bitstream stuck (spec/07_sensing.md). -/
abbrev snsSdstuck : Nat := 0x0601

/-- SNS_SDRANGE: SD main filter beyond SdRangeLimit (spec/07_sensing.md). -/
abbrev snsSdrange : Nat := 0x0602

/-- SNS_SDCLK: SDCLK readback mismatch (spec/07_sensing.md). -/
abbrev snsSdclk : Nat := 0x0603

/-- SNS_VDCIMPL: link input below switch-node readings (spec/07_sensing.md). -/
abbrev snsVdcimpl : Nat := 0x0604

/-- SNS_VDCRANGE: link input at full scale (spec/07_sensing.md). -/
abbrev snsVdcrange : Nat := 0x0605

/-- SNS_AINRANGE: AIN outside its valid window (spec/07_sensing.md). -/
abbrev snsAinrange : Nat := 0x0606

/-- SNS_LVRANGE: LV or VOUT sense at a rail (spec/07_sensing.md). -/
abbrev snsLvrange : Nat := 0x0607

/-- ENG_NONFINITE: instance ended with its non-finite flag set; slot frozen (spec/08_hawkmoth_engines.md). -/
abbrev engNonfinite : Nat := 0x0701

/-- ENG_OVERRUN: start discarded while the slot's instance was pending, running or pre-empted (spec/08_hawkmoth_engines.md). -/
abbrev engOverrun : Nat := 0x0702

/-- ENG_DEADLINE: SlotDeadlineMisses consecutive instances aborted (spec/08_hawkmoth_engines.md). -/
abbrev engDeadline : Nat := 0x0703

/-- ENG_CYCLEMISMATCH: issued body cycles differ from the declared count (spec/08_hawkmoth_engines.md). -/
abbrev engCyclemismatch : Nat := 0x0704

/-- ENG_MEMUE: uncorrectable ECC error in program memory or scratchpad (spec/08_hawkmoth_engines.md). -/
abbrev engMemue : Nat := 0x0705

/-- ENG_HANDOVER: hand-over requested by a law and refused (spec/08_hawkmoth_engines.md). -/
abbrev engHandover : Nat := 0x0706

/-- ENG_COMMITDISCARD: commit to a group outside SlotOutputMap discarded (spec/08_hawkmoth_engines.md). -/
abbrev engCommitdiscard : Nat := 0x0707

/-- OBS_IMPLAUSIBLE: residual above ObsResidualThreshold for ObsResidualCount steps (spec/10_observer.md). -/
abbrev obsImplausible : Nat := 0x0801

/-- OBS_LOST: AQR above ObsAqrLost on 8 consecutive steps (spec/10_observer.md). -/
abbrev obsLost : Nat := 0x0802

/-- OBS_REACQFAIL: re-acquisition not achieved within ObsReacqLimit (spec/10_observer.md). -/
abbrev obsReacqfail : Nat := 0x0803

/-- OBS_STARTFAIL: no valid angle within 50 ms of first use (spec/10_observer.md). -/
abbrev obsStartfail : Nat := 0x0804

/-- OBS_POLARITY: polarity undecided after three tests (spec/10_observer.md). -/
abbrev obsPolarity : Nat := 0x0805

/-- OBS_STALL: locked-rotor signature on a traction machine (spec/10_observer.md). -/
abbrev obsStall : Nat := 0x0806

/-- OBS_LOCKED: locked-rotor signature on the pump, or on an actuator outside its window (spec/10_observer.md). -/
abbrev obsLocked : Nat := 0x0807

/-- OBS_REVERSAL: reversal refused while ReversalPermit is 0 (spec/10_observer.md). -/
abbrev obsReversal : Nat := 0x0808

/-- TRC_SENSOR: current input replaced by reconstruction (spec/11_traction.md). -/
abbrev trcSensor : Nat := 0x0901

/-- TRC_SENSORLOSS: no reconstruction possible in a set (spec/11_traction.md). -/
abbrev trcSensorloss : Nat := 0x0902

/-- TRC_OPENSET: open phase; set of a six-phase machine dropped (spec/11_traction.md). -/
abbrev trcOpenset : Nat := 0x0903

/-- TRC_OPENPHASE: open phase with no intact set left (spec/11_traction.md). -/
abbrev trcOpenphase : Nat := 0x0904

/-- TRC_OV1: link above TracOv1 (spec/11_traction.md). -/
abbrev trcOv1 : Nat := 0x0905

/-- TRC_OV2: link above TracOv2; chopper running (spec/11_traction.md). -/
abbrev trcOv2 : Nat := 0x0906

/-- TRC_OV3: link above effective OV3 (spec/11_traction.md). -/
abbrev trcOv3 : Nat := 0x0907

/-- TRC_CHOPPER: chopper fault (R286) (spec/11_traction.md). -/
abbrev trcChopper : Nat := 0x0908

/-- TRC_REQLOSS: torque request under substitute values (spec/11_traction.md). -/
abbrev trcReqloss : Nat := 0x0909

/-- TRC_THERMAL: temperature input invalid; derating assumed (spec/11_traction.md). -/
abbrev trcThermal : Nat := 0x090A

/-- WC_GRIDTRIP: grid trip under R300; WcTripCause names the function (spec/12_winding_charging.md). -/
abbrev wcGridtrip : Nat := 0x0A01

/-- WC_TRIPLATCH: WcTripMax trips within WcTripWindow (spec/12_winding_charging.md). -/
abbrev wcTriplatch : Nat := 0x0A02

/-- WC_LINKLOW: link below the connection condition for 10 s (spec/12_winding_charging.md). -/
abbrev wcLinklow : Nat := 0x0A03

/-- WC_CONTACTOR: star, grid or boost readback disagrees with its command (spec/12_winding_charging.md). -/
abbrev wcContactor : Nat := 0x0A04

/-- WC_BATTLOSS: traction battery lost during charging (R307) (spec/12_winding_charging.md). -/
abbrev wcBattloss : Nat := 0x0A05

/-- WC_PARKLOCK: park lock not engaged in M5 or boost (spec/12_winding_charging.md). -/
abbrev wcParklock : Nat := 0x0A06

/-- WC_EXPORTDENIED: export requested while unavailable (spec/12_winding_charging.md). -/
abbrev wcExportdenied : Nat := 0x0A07

/-- LV_HICCUP: buck phase entered hiccup (R318, R130) (spec/13_lv_converter_actuators.md). -/
abbrev lvHiccup : Nat := 0x0B01

/-- LV_FOLDBACK: foldback bound the current for 1 s (spec/13_lv_converter_actuators.md). -/
abbrev lvFoldback : Nat := 0x0B02

/-- LV_STARTFAIL: not within 3 % of target within LvStartLimit (spec/13_lv_converter_actuators.md). -/
abbrev lvStartfail : Nat := 0x0B03

/-- LV_AUXREMOVED: auxiliary battery removed (R328) (spec/13_lv_converter_actuators.md). -/
abbrev lvAuxremoved : Nat := 0x0B04

/-- LV_ISOFAULT: isolated stage outside its ratio for 1 ms (spec/13_lv_converter_actuators.md). -/
abbrev lvIsofault : Nat := 0x0B05

/-- LV_OVERVOLTAGE: output above 110 % of reference for 1 ms (spec/13_lv_converter_actuators.md). -/
abbrev lvOvervoltage : Nat := 0x0B06

/-- LV_PHASELOST: phase removed after LvHiccupMax hiccups in 10 s (spec/13_lv_converter_actuators.md). -/
abbrev lvPhaselost : Nat := 0x0B07

/-- CP_TIMER: phase time or wall-clock cap expired (R305) (spec/12_winding_charging.md). -/
abbrev cpTimer : Nat := 0x0B41

/-- CP_TEMP: battery temperature invalid; worst window assumed (spec/12_winding_charging.md). -/
abbrev cpTemp : Nat := 0x0B42

/-- CP_LIMITLOSS: battery limits under substitute values for CpLimitTimeout (spec/12_winding_charging.md). -/
abbrev cpLimitloss : Nat := 0x0B43

/-- GA_HOMEFAIL: no stop within GaHomeTravel (spec/13_lv_converter_actuators.md). -/
abbrev gaHomefail : Nat := 0x0C01

/-- GA_SHIFTABORT: shift wait timed out, or switching interrupted (spec/13_lv_converter_actuators.md). -/
abbrev gaShiftabort : Nat := 0x0C02

/-- GA_MOVETIMEOUT: move not complete within GaMoveTimeout (spec/13_lv_converter_actuators.md). -/
abbrev gaMovetimeout : Nat := 0x0C03

/-- LNK_CONTACTOR: inlet or post contactor readback disagrees (spec/14_charging_link.md). -/
abbrev lnkContactor : Nat := 0x0D01

/-- LNK_WELD: voltage remains after opening (R347, R351) (spec/14_charging_link.md). -/
abbrev lnkWeld : Nat := 0x0D02

/-- LNK_PRECHARGE: inlet not matched within 10 s (spec/14_charging_link.md). -/
abbrev lnkPrecharge : Nat := 0x0D03

/-- LNK_ISOWARN: insulation between LkIsoFault and LkIsoValid (spec/14_charging_link.md). -/
abbrev lnkIsowarn : Nat := 0x0D04

/-- LNK_ISOFAULT: insulation below LkIsoFault, or monitor alarm (spec/14_charging_link.md). -/
abbrev lnkIsofault : Nat := 0x0D05

/-- LNK_PINTEMP: pin temperature above LkPinTempDerate (spec/14_charging_link.md). -/
abbrev lnkPintemp : Nat := 0x0D06

/-- LNK_PINHOT: pin temperature at LkPinTempLimit (spec/14_charging_link.md). -/
abbrev lnkPinhot : Nat := 0x0D07

/-- LNK_PROTOCOL: protocol error, timeout or unsupported option (spec/14_charging_link.md). -/
abbrev lnkProtocol : Nat := 0x0D08

/-- LNK_PILOT: pilot in state E or F, or duty invalid for 1 s (spec/14_charging_link.md). -/
abbrev lnkPilot : Nat := 0x0D09

/-- LNK_UNPLUG: connection detection lost under current (spec/14_charging_link.md). -/
abbrev lnkUnplug : Nat := 0x0D0A

/-- LNK_TDLOST: Tandem lost; fallback under R361 (spec/14_charging_link.md). -/
abbrev lnkTdlost : Nat := 0x0D0B

/-- LNK_TDREFUSED: Tandem not agreed (spec/14_charging_link.md). -/
abbrev lnkTdrefused : Nat := 0x0D0C

/-- LNK_TDLOCK: post timebase not locked within 100 ms (spec/14_charging_link.md). -/
abbrev lnkTdlock : Nat := 0x0D0D

/-- STN_PRECHARGE: link not pre-charged within StPrechargeTime (spec/15_station_site.md). -/
abbrev stnPrecharge : Nat := 0x0E01

/-- STN_CONTACTOR: grid or pre-charge readback disagrees (spec/15_station_site.md). -/
abbrev stnContactor : Nat := 0x0E02

/-- STN_GRIDTRIP: front-end trip; StTripCause names the function (spec/15_station_site.md). -/
abbrev stnGridtrip : Nat := 0x0E03

/-- STN_TRIPLATCH: StTripMax trips within StTripWindow (spec/15_station_site.md). -/
abbrev stnTriplatch : Nat := 0x0E04

/-- STN_LINKOV: link above StLinkOv3 (spec/15_station_site.md). -/
abbrev stnLinkov : Nat := 0x0E05

/-- STN_CHOPPER: protection event on the chopper (spec/15_station_site.md). -/
abbrev stnChopper : Nat := 0x0E06

/-- STN_STAGE: DAB stage current imbalance; stage stopped (spec/15_station_site.md). -/
abbrev stnStage : Nat := 0x0E07

/-- CC_FLOW: flow below CcFlowMin of its reference for 2 s (spec/15_station_site.md). -/
abbrev ccFlow : Nat := 0x0E21

/-- CC_PRESSURE: pressure outside its window for 1 s; pump stopped (spec/15_station_site.md). -/
abbrev ccPressure : Nat := 0x0E22

/-- CC_SENSOR: coolant or contact sensor invalid; substitute used (spec/15_station_site.md). -/
abbrev ccSensor : Nat := 0x0E23

/-- CC_HOTSPOT: hot spot above CcConductorLimit + 5 °C (spec/15_station_site.md). -/
abbrev ccHotspot : Nat := 0x0E24

/-- MON_BUDGETLOW: committed sum above budget; reductions sent (spec/15_station_site.md). -/
abbrev monBudgetlow : Nat := 0x0E41

/-- MON_EXPIRED: post lease expired without renewal (spec/15_station_site.md). -/
abbrev monExpired : Nat := 0x0E42

/-- MON_AUTH: Monarch frame failed its tag (spec/15_station_site.md). -/
abbrev monAuth : Nat := 0x0E43

/-- MON_TABLEFULL: request refused at MonLeaseMax (spec/15_station_site.md). -/
abbrev monTablefull : Nat := 0x0E44

/-- MTR_OPENINT: energy since the last slot unknown; bound recorded (R412, R413) (spec/16_metering.md). -/
abbrev mtrOpenint : Nat := 0x0F01

/-- MTR_JOURNALCRC: invalid slots after the restored slot (spec/16_metering.md). -/
abbrev mtrJournalcrc : Nat := 0x0F02

/-- MTR_ASYNC: AC sampling free-running (R405) (spec/16_metering.md). -/
abbrev mtrAsync : Nat := 0x0F03

/-- MTR_RANGE: metering channel at full-scale code (spec/16_metering.md). -/
abbrev mtrRange : Nat := 0x0F04

/-- MTR_SIGNFAIL: record not signed within 100 ms (spec/16_metering.md). -/
abbrev mtrSignfail : Nat := 0x0F05

/-- MTR_RECLOST: unacknowledged record overwritten (spec/16_metering.md). -/
abbrev mtrReclost : Nat := 0x0F06

/-- ROA_AUTH: RoaMaxTagFailures consecutive tag failures; session closed (spec/17_object_dictionary.md). -/
abbrev roaAuth : Nat := 0x1001

/-- ROA_REPLAY: request with a Nonce not above the last accepted (spec/17_object_dictionary.md). -/
abbrev roaReplay : Nat := 0x1002

/-- ROA_REKEY: session closed at Nonce 2^31 (spec/17_object_dictionary.md). -/
abbrev roaRekey : Nat := 0x1003

/-- ROA_FWINSTALL: firmware verify or install failed (R443) (spec/17_object_dictionary.md). -/
abbrev roaFwinstall : Nat := 0x1004

/-- CAN_IDCLASH: four clash errors on the head frame; frame held (R470) (spec/18_can.md). -/
abbrev canIdclash : Nat := 0x1101

/-- CAN_BUSOFF: transmit error counter above 255 (spec/18_can.md). -/
abbrev canBusoff : Nat := 0x1102

/-- CAN_ERRPASSIVE: an error counter above 127 (spec/18_can.md). -/
abbrev canErrpassive : Nat := 0x1103

/-- CAN_RXOVERRUN: frame lost under R462; raised at most once per second (spec/18_can.md). -/
abbrev canRxoverrun : Nat := 0x1104

/-- CAN_HEADWAIT: head wait reached CanHeadWaitLimit (spec/18_can.md). -/
abbrev canHeadwait : Nat := 0x1105

/-- CAN_ESLREGEN: stale ESL frames regenerated at recovery (R469) (spec/18_can.md). -/
abbrev canEslregen : Nat := 0x1106

/-- NET_LINKDOWN: XG port down (R482) (spec/19_ethernet_t1s.md). -/
abbrev netLinkdown : Nat := 0x1201

/-- NET_RXDROP: received frames beyond the rates of R485 (spec/19_ethernet_t1s.md). -/
abbrev netRxdrop : Nat := 0x1202

/-- NET_GATEOVERRUN: frame could not fit any open interval (R481) (spec/19_ethernet_t1s.md). -/
abbrev netGateoverrun : Nat := 0x1203

/-- NET_PLCA: PLCA beacon absent; CSMA/CD fallback (spec/19_ethernet_t1s.md). -/
abbrev netPlca : Nat := 0x1204

/-- NET_TIMELOSS: device time lost after holdover (R488) (spec/19_ethernet_t1s.md). -/
abbrev netTimeloss : Nat := 0x1205

/-- NET_STREAMDROP: waveform datagram dropped; raised at most once per second (spec/19_ethernet_t1s.md). -/
abbrev netStreamdrop : Nat := 0x1206

/-- ESL_WDOG: no accepted frame within WatchdogTime (R510) (spec/20_safety.md). -/
abbrev eslWdog : Nat := 0x1301

/-- ESL_CRC: length or CRC failure (spec/20_safety.md). -/
abbrev eslCrc : Nat := 0x1302

/-- ESL_SEQ: sequence outside the window (spec/20_safety.md). -/
abbrev eslSeq : Nat := 0x1303

/-- ESL_REOPEN: open connection re-opened with Sequence 0 (spec/20_safety.md). -/
abbrev eslReopen : Nat := 0x1304

/-- SAF_WDOG: host watchdog expiry (R499) (spec/20_safety.md). -/
abbrev safWdog : Nat := 0x1311

/-- SAF_PINREADBACK: output ball differs from its command (R500) (spec/20_safety.md). -/
abbrev safPinreadback : Nat := 0x1312

/-- SAF_SOSTUCKON: safety-output switch conducts while commanded off (spec/20_safety.md). -/
abbrev safSostuckon : Nat := 0x1313

/-- SAF_SOSTUCKOFF: safety-output switch fails to conduct (spec/20_safety.md). -/
abbrev safSostuckoff : Nat := 0x1314

/-- SAF_SOREADBACK: pilot-drive readback mismatch (R520) (spec/20_safety.md). -/
abbrev safSoreadback : Nat := 0x1315

/-- SAF_SISHORT: tested input fails to follow its test pulse (spec/20_safety.md). -/
abbrev safSishort : Nat := 0x1316

/-- SAF_SIDISCREPANCY: pair disagreement beyond SiDiscrepancyTime (spec/20_safety.md). -/
abbrev safSidiscrepancy : Nat := 0x1317

/-- SAF_SIDEMAND: safety input demand (R526) (spec/20_safety.md). -/
abbrev safSidemand : Nat := 0x1318

/-- SAF_PROOFDUE: SafProofInterval passed without a pass through M0 (spec/20_safety.md). -/
abbrev safProofdue : Nat := 0x1319

/-- SAF_CFGMISMATCH: SafConfigCrc differs from SafConfigCrcExpected (spec/20_safety.md). -/
abbrev safCfgmismatch : Nat := 0x131A

/-- MEM_ECCCORR: SRAM single-bit error corrected; at most once per second (spec/21_faults_memory_leave.md). -/
abbrev memEcccorr : Nat := 0x1401

/-- MEM_ECCUE: SRAM double-bit error read by a core, engine or safety path (spec/21_faults_memory_leave.md). -/
abbrev memEccue : Nat := 0x1402

/-- MEM_DMAUE: SRAM double-bit error read by a DMA master; transfer discarded (spec/21_faults_memory_leave.md). -/
abbrev memDmaue : Nat := 0x1403

/-- MEM_TESTFAIL: region failed and remapped (R545) (spec/21_faults_memory_leave.md). -/
abbrev memTestfail : Nat := 0x1404

/-- MEM_SPARESOUT: no spare region left in a bank (spec/21_faults_memory_leave.md). -/
abbrev memSparesout : Nat := 0x1405

/-- MEM_CONFLICTSAT: conflict counter saturated (spec/21_faults_memory_leave.md). -/
abbrev memConflictsat : Nat := 0x1406

/-- MEM_NVMWRITE: eMRAM write failed on its third try (spec/21_faults_memory_leave.md). -/
abbrev memNvmwrite : Nat := 0x1407

/-- MEM_NVMUE: uncorrectable eMRAM read (spec/21_faults_memory_leave.md). -/
abbrev memNvmue : Nat := 0x1408

/-- LEAVE_WAIT: request waited LeaveWaitWarn (spec/21_faults_memory_leave.md). -/
abbrev leaveWait : Nat := 0x1501

/-- LEAVE_SAFETYOVER: Safety grants beyond LeaveSafetyReserve (spec/21_faults_memory_leave.md). -/
abbrev leaveSafetyover : Nat := 0x1502

/-- HM_TEMPHIGH: die above HmTempWarn; leave ceiling folds back (spec/21_faults_memory_leave.md). -/
abbrev hmTemphigh : Nat := 0x1511

/-- HM_TEMPCRIT: die above HmTempCritical (spec/21_faults_memory_leave.md). -/
abbrev hmTempcrit : Nat := 0x1512

/-- HM_TEMPSENSOR: temperature sensor disagrees with the others (spec/21_faults_memory_leave.md). -/
abbrev hmTempsensor : Nat := 0x1513

/-- HM_VOLTWARN: supply outside ±HmVoltWarn (spec/21_faults_memory_leave.md). -/
abbrev hmVoltwarn : Nat := 0x1514

/-- HM_VOLTFAULT: supply beyond its fault limit (spec/21_faults_memory_leave.md). -/
abbrev hmVoltfault : Nat := 0x1515

/-- HM_PROCESS: ring oscillator beyond HmDriftLimit (spec/21_faults_memory_leave.md). -/
abbrev hmProcess : Nat := 0x1516

end FC

/-- Every listed code (R531). -/
def faultTable : List FaultRow :=
  [⟨0x0201, .critical, false, [(0, 0)]⟩,
   ⟨0x0202, .critical, false, [(0, 0)]⟩,
   ⟨0x0203, .halt, false, [(0, 0)]⟩,
   ⟨0x0204, .note, false, [(0, 0)]⟩,
   ⟨0x0205, .critical, false, [(0, 0)]⟩,
   ⟨0x0206, .halt, false, [(0, 0)]⟩,
   ⟨0x0207, .critical, false, [(0, 0)]⟩,
   ⟨0x0208, .critical, false, [(0, 0)]⟩,
   ⟨0x0209, .halt, false, [(0, 7)]⟩,
   ⟨0x020A, .note, false, [(0, 0)]⟩,
   ⟨0x020B, .critical, false, [(0, 0)]⟩,
   ⟨0x020C, .note, true, [(0, 0)]⟩,
   ⟨0x020D, .note, true, [(0, 0)]⟩,
   ⟨0x020E, .note, true, [(0, 0)]⟩,
   ⟨0x0301, .note, false, [(0, 7)]⟩,
   ⟨0x0302, .note, false, [(0, 7)]⟩] ++
  [⟨0x0303, .derate, false, [(0, 7)]⟩,
   ⟨0x0304, .halt, false, [(0, 7)]⟩,
   ⟨0x0305, .halt, false, [(0, 7)]⟩,
   ⟨0x0306, .note, false, [(0, 7)]⟩,
   ⟨0x0401, .note, false, [(0, 11), (16, 23)]⟩,
   ⟨0x0402, .halt, false, [(0, 11), (16, 23)]⟩,
   ⟨0x0403, .halt, false, [(0, 15)]⟩,
   ⟨0x0404, .derate, false, [(0, 15)]⟩,
   ⟨0x0405, .note, false, [(0, 11), (16, 23)]⟩,
   ⟨0x0501, .safe, false, [(0, 23)]⟩,
   ⟨0x0502, .safe, false, [(0, 23)]⟩,
   ⟨0x0503, .safe, false, [(0, 23)]⟩,
   ⟨0x0504, .safe, false, [(0, 23)]⟩,
   ⟨0x0505, .safe, false, [(0, 23)]⟩,
   ⟨0x0506, .safe, false, [(0, 23)]⟩,
   ⟨0x0507, .note, false, [(0, 23)]⟩] ++
  [⟨0x0508, .halt, false, [(0, 23)]⟩,
   ⟨0x0509, .halt, false, [(0, 23)]⟩,
   ⟨0x050A, .note, false, [(0, 47)]⟩,
   ⟨0x0601, .derate, false, [(0, 31)]⟩,
   ⟨0x0602, .note, false, [(0, 31)]⟩,
   ⟨0x0603, .safe, false, [(0, 3)]⟩,
   ⟨0x0604, .safe, false, [(0, 3)]⟩,
   ⟨0x0605, .safe, false, [(0, 3)]⟩,
   ⟨0x0606, .derate, false, [(0, 15)]⟩,
   ⟨0x0607, .derate, false, [(0, 19)]⟩,
   ⟨0x0701, .safe, false, [(0, 63)]⟩,
   ⟨0x0702, .note, false, [(0, 63)]⟩,
   ⟨0x0703, .safe, false, [(0, 63)]⟩,
   ⟨0x0704, .critical, false, [(0, 63)]⟩,
   ⟨0x0705, .safe, false, [(0, 63)]⟩,
   ⟨0x0706, .note, false, [(0, 63)]⟩] ++
  [⟨0x0707, .note, false, [(0, 63)]⟩,
   ⟨0x0801, .derate, false, [(0, 8)]⟩,
   ⟨0x0802, .derate, false, [(0, 8)]⟩,
   ⟨0x0803, .safe, false, [(0, 8)]⟩,
   ⟨0x0804, .halt, false, [(0, 8)]⟩,
   ⟨0x0805, .halt, false, [(0, 8)]⟩,
   ⟨0x0806, .note, false, [(0, 8)]⟩,
   ⟨0x0807, .halt, false, [(0, 8)]⟩,
   ⟨0x0808, .note, false, [(0, 8)]⟩,
   ⟨0x0901, .derate, false, [(0, 3)]⟩,
   ⟨0x0902, .safe, false, [(0, 3)]⟩,
   ⟨0x0903, .derate, false, [(0, 3)]⟩,
   ⟨0x0904, .safe, false, [(0, 3)]⟩,
   ⟨0x0905, .note, false, [(0, 3)]⟩,
   ⟨0x0906, .note, false, [(0, 3)]⟩,
   ⟨0x0907, .critical, false, [(0, 3)]⟩] ++
  [⟨0x0908, .critical, false, [(0, 3)]⟩,
   ⟨0x0909, .derate, false, [(0, 3)]⟩,
   ⟨0x090A, .note, false, [(0, 3)]⟩,
   ⟨0x0A01, .note, false, [(0, 0)]⟩,
   ⟨0x0A02, .halt, false, [(0, 0)]⟩,
   ⟨0x0A03, .halt, false, [(0, 0)]⟩,
   ⟨0x0A04, .safe, false, [(0, 0)]⟩,
   ⟨0x0A05, .halt, false, [(0, 0)]⟩,
   ⟨0x0A06, .halt, false, [(0, 0)]⟩,
   ⟨0x0A07, .note, false, [(0, 0)]⟩,
   ⟨0x0B01, .derate, false, [(0, 15)]⟩,
   ⟨0x0B02, .note, false, [(0, 0)]⟩,
   ⟨0x0B03, .halt, false, [(0, 0)]⟩,
   ⟨0x0B04, .note, false, [(0, 0)]⟩,
   ⟨0x0B05, .halt, false, [(0, 0)]⟩,
   ⟨0x0B06, .halt, false, [(0, 0)]⟩] ++
  [⟨0x0B07, .derate, false, [(0, 15)]⟩,
   ⟨0x0B41, .halt, false, [(0, 1)]⟩,
   ⟨0x0B42, .note, false, [(0, 1)]⟩,
   ⟨0x0B43, .halt, false, [(0, 1)]⟩,
   ⟨0x0C01, .halt, false, [(0, 3)]⟩,
   ⟨0x0C02, .note, false, [(0, 3)]⟩,
   ⟨0x0C03, .halt, false, [(0, 3)]⟩,
   ⟨0x0D01, .safe, false, [(0, 0)]⟩,
   ⟨0x0D02, .safe, false, [(0, 0)]⟩,
   ⟨0x0D03, .halt, false, [(0, 0)]⟩,
   ⟨0x0D04, .note, false, [(0, 0)]⟩,
   ⟨0x0D05, .safe, false, [(0, 0)]⟩,
   ⟨0x0D06, .derate, false, [(0, 0)]⟩,
   ⟨0x0D07, .halt, false, [(0, 0)]⟩,
   ⟨0x0D08, .halt, false, [(0, 0)]⟩,
   ⟨0x0D09, .halt, false, [(0, 0)]⟩] ++
  [⟨0x0D0A, .halt, false, [(0, 0)]⟩,
   ⟨0x0D0B, .derate, false, [(0, 0)]⟩,
   ⟨0x0D0C, .note, false, [(0, 0)]⟩,
   ⟨0x0D0D, .note, false, [(0, 0)]⟩,
   ⟨0x0E01, .halt, false, [(0, 0)]⟩,
   ⟨0x0E02, .safe, false, [(0, 0)]⟩,
   ⟨0x0E03, .note, false, [(0, 0)]⟩,
   ⟨0x0E04, .halt, false, [(0, 0)]⟩,
   ⟨0x0E05, .safe, false, [(0, 0)]⟩,
   ⟨0x0E06, .halt, false, [(0, 0)]⟩,
   ⟨0x0E07, .derate, false, [(0, 3)]⟩,
   ⟨0x0E21, .derate, false, [(0, 0)]⟩,
   ⟨0x0E22, .halt, false, [(0, 0)]⟩,
   ⟨0x0E23, .derate, false, [(0, 0)]⟩,
   ⟨0x0E24, .halt, false, [(0, 0)]⟩,
   ⟨0x0E41, .note, false, [(0, 0)]⟩] ++
  [⟨0x0E42, .derate, false, [(0, 0)]⟩,
   ⟨0x0E43, .note, false, [(0, 8191)]⟩,
   ⟨0x0E44, .note, false, [(0, 8191)]⟩,
   ⟨0x0F01, .note, false, [(0, 0)]⟩,
   ⟨0x0F02, .note, false, [(0, 0)]⟩,
   ⟨0x0F03, .note, false, [(0, 0)]⟩,
   ⟨0x0F04, .note, false, [(0, 0)]⟩,
   ⟨0x0F05, .halt, false, [(0, 0)]⟩,
   ⟨0x0F06, .note, false, [(0, 0)]⟩,
   ⟨0x1001, .note, false, [(1, 16)]⟩,
   ⟨0x1002, .note, false, [(1, 16)]⟩,
   ⟨0x1003, .note, false, [(1, 16)]⟩,
   ⟨0x1004, .halt, false, [(0, 0)]⟩,
   ⟨0x1101, .derate, false, [(0, 7)]⟩,
   ⟨0x1102, .derate, false, [(0, 7)]⟩,
   ⟨0x1103, .note, false, [(0, 7)]⟩] ++
  [⟨0x1104, .note, false, [(0, 7)]⟩,
   ⟨0x1105, .note, false, [(0, 7)]⟩,
   ⟨0x1106, .note, false, [(0, 7)]⟩,
   ⟨0x1201, .note, false, [(0, 3)]⟩,
   ⟨0x1202, .note, false, [(0, 3)]⟩,
   ⟨0x1203, .note, false, [(0, 3)]⟩,
   ⟨0x1204, .note, false, [(0, 3)]⟩,
   ⟨0x1205, .derate, false, [(0, 0)]⟩,
   ⟨0x1206, .note, false, [(0, 3)]⟩,
   ⟨0x1301, .ofConnection, false, [(0, 2047)]⟩,
   ⟨0x1302, .note, false, [(0, 2047)]⟩,
   ⟨0x1303, .note, false, [(0, 2047)]⟩,
   ⟨0x1304, .note, false, [(0, 2047)]⟩,
   ⟨0x1311, .critical, false, [(0, 0)]⟩,
   ⟨0x1312, .critical, false, [(0, 175)]⟩,
   ⟨0x1313, .safe, false, [(0, 7)]⟩] ++
  [⟨0x1314, .halt, false, [(0, 7)]⟩,
   ⟨0x1315, .safe, false, [(0, 7)]⟩,
   ⟨0x1316, .safe, false, [(0, 15)]⟩,
   ⟨0x1317, .safe, false, [(0, 15)]⟩,
   ⟨0x1318, .ofInput, false, [(0, 15)]⟩,
   ⟨0x1319, .note, false, [(0, 0)]⟩,
   ⟨0x131A, .halt, false, [(0, 0)]⟩,
   ⟨0x1401, .note, false, [(0, 23)]⟩,
   ⟨0x1402, .critical, false, [(0, 23)]⟩,
   ⟨0x1403, .note, false, [(0, 23)]⟩,
   ⟨0x1404, .note, false, [(0, 23)]⟩,
   ⟨0x1405, .note, false, [(0, 23)]⟩,
   ⟨0x1406, .note, false, [(0, 19)]⟩,
   ⟨0x1407, .halt, false, [(0, 0)]⟩,
   ⟨0x1408, .halt, false, [(0, 0)]⟩,
   ⟨0x1501, .note, false, [(0, 3)]⟩] ++
  [⟨0x1502, .note, false, [(0, 0)]⟩,
   ⟨0x1511, .derate, false, [(0, 7)]⟩,
   ⟨0x1512, .critical, false, [(0, 7)]⟩,
   ⟨0x1513, .note, false, [(0, 7)]⟩,
   ⟨0x1514, .note, false, [(0, 11)]⟩,
   ⟨0x1515, .ofMonitor, false, [(0, 11)]⟩,
   ⟨0x1516, .note, false, [(0, 3)]⟩]

/-- The row of a code. -/
def faultRow (code : Nat) : Option FaultRow := faultTable.find? (fun r => r.code == code)

/-- Whether an instance lies in a row's range (R586). -/
def FaultRow.allows (r : FaultRow) (inst : Nat) : Bool := r.insts.any (fun p => p.1 ≤ inst && inst ≤ p.2)

end Sys2Proof.Machine
end

