-- ==== Sys2Proof/Config.lean ====
section
/-! DEFINITION. What the spec leaves open: opaque constants whose values nothing in Lean can evaluate. A statement that
mentions one holds for every value of it. -/

namespace Sys2Proof.Config

/-- A free value: `tag` names the open point (its log entry lists the tags), `ix` is the state's counter. -/
opaque freeValue : (tag : Nat) → (ix : Nat) → Int

/-- AES-128-CMAC of a message under a key, whole (R432). The standard is outside the spec. -/
opaque cmac : (key : Nat) → (msg : List Nat) → Nat

/-- AES-128 of one block under a key (R434). -/
opaque aes : (key : Nat) → (block : Nat) → Nat

/-- AES key unwrap (RFC 3394) of 24 bytes; none where the integrity check fails (R445). -/
opaque keyUnwrap : (kek : Nat) → (wrapped : List Nat) → Option Nat

/-- SHA-256 of a message, 32 bytes (R69, R419). -/
opaque sha256 : (msg : List Nat) → List Nat

/-- ECDSA P-256 signature of a message under the metering key of a generation, 64 bytes (R417). -/
opaque ecdsaSign : (keyGeneration : Nat) → (msg : List Nat) → List Nat

/-- The public key of a generation of the metering key, 64 bytes (R420). -/
opaque meterPublicKey : (keyGeneration : Nat) → List Nat

/-- The byte string a scope's contents serialise to (R80): the spec names the CRC but not the serialisation. -/
opaque serialise : (pairs : List (Nat × Int)) → List Nat

/-- Natural logarithm, as a rational; the accuracy is not stated (R178). -/
opaque ln : Rat → Rat

/-- Exponential, as a rational. -/
opaque exp : Rat → Rat

/-- Real power, as a rational (R379). -/
opaque rpow : Rat → Rat → Rat

/-- Sine and cosine of an angle in au, as raw F32 words; the error bound is stated, the value is not (R231). -/
opaque sinF32 : (angle : Nat) → Nat
opaque cosF32 : (angle : Nat) → Nat

/-- The angle of a vector from its components, au (R247, R248): the accuracy is not stated. -/
opaque atan2 : (y x : Rat) → Nat

/-- Where the injection tracker's angle goes in a step of some seconds, from the difference of the current changes, its settling time in
ms and its angle: the spec states no more of its law than that it drives the difference to zero (R245). -/
opaque injTrack : (difference interval : Rat) → (settle angle : Nat) → Nat

/-- Frames that a port's transmit queue holds; the spec states no depth (R484, R490, R507). -/
opaque queueDepth : Nat

/-- Blocks of 4 KiB in which the shadows differ from the active sets, given the keys and addresses that differ (R549): the spec
does not say where a value lies in a block. -/
opaque changedBlocks : (differing : List Nat) → Nat

/-- The word that input `n` of a class of inputs delivers in a tick: what stands at the device's balls while its own clock runs. -/
opaque inputWord : (cls : Nat) → (n : Nat) → (tick : Nat) → BitVec 32

/-- The duty that a gate supply's regulation takes in a cycle, from its target and the sensed voltage: the spec states no control law
(R143). -/
opaque gateDuty : (target volts : Rat) → (ix : Nat) → Rat

end Sys2Proof.Config
end

