-- ==== Sys2Proof/Machine/ObjTypes.lean ====
section
/-! DEFINITION. The vocabulary of the object dictionary: data types (R7), access codes (R8), ranges, scopes (R79)
and the records that the tables of the chapters give. -/

namespace Sys2Proof.Machine

/-- The data types of R7. A DOM carries its longest block length. -/
inductive Ty
  | bool | u8 | u16 | u32 | u64 | i16 | i32 | i64 | f32 | str
  | dom (len : Nat)
  deriving DecidableEq, Repr

/-- The access codes of R8. `rwsDev` is RWS in the device scope inside a record of another scope (TbOwnerScope of R95,
EngOwnerScope of R213). -/
inductive Acc
  | constant | ro | rw | wo | rws | rwsDev | rsl
  deriving DecidableEq, Repr

/-- A table default: one value, a value for the machine observers and one for the others (R262), or the instance number
itself (XgPhyAddress, R492). -/
inductive Dflt
  | const (v : Int)
  | obs (a b : Int)
  | inst
  deriving DecidableEq, Repr

/-- The range column of the tables. F32 bounds are raw bit patterns; a bound that names another sub-index of the same
record carries that sub-index. -/
inductive Rng
  | full
  /-- integer intervals, ends included -/
  | ints (l : List (Int × Int))
  /-- only the bits of the mask may be set (R9) -/
  | bits (mask : Nat)
  | flt (lo hi : Nat)
  /-- between lo and hi, and below the value at `sub` -/
  | fltBelow (lo hi sub : Nat)
  /-- between lo and hi, and above the value at `sub` -/
  | fltAbove (lo hi sub : Nat)
  /-- from minus the value at `sub` to plus that value -/
  | fltSym (sub : Nat)
  /-- from 0 to the value at `sub` -/
  | fltTo (sub : Nat)
  | fltBetween (sub1 sub2 : Nat)
  | fltPos
  /-- a range that the table words; `rangeSpecial` reads the tag -/
  | special (tag : Nat)
  deriving DecidableEq, Repr

/-- Which configuration scope an RWS sub-index of a record belongs to (R79 and the rule of each record). -/
inductive ScopeRule
  | dev
  | fixed (n : Nat)
  | byInst | tb | entryTb | group | hbCh | lvCh | gs | vout | engSlot | eng | obs | machine | cp
  deriving DecidableEq, Repr

/-- Under which role and seal pins a record's function is present (R1, R2, R60). -/
inductive Presence
  | any | vehicle | station | post | tandem | monarch | meter | m11 | observer
  deriving DecidableEq, Repr

/-- One row of an object table: sub-indices `sub + stride * k` for `k < count`. `role` is the write role of R431 as its
ROA role code, 0 where none may write; `clr` marks "cleared on read" (R441). -/
structure Sub where
  sub : Nat
  stride : Nat
  count : Nat
  ty : Ty
  acc : Acc
  dflt : Dflt
  rng : Rng
  role : Nat
  clr : Bool
  deriving DecidableEq, Repr

/-- A row for a single sub-index. -/
abbrev Sub.one (sub : Nat) (ty : Ty) (acc : Acc) (dflt : Dflt) (rng : Rng) (role : Nat) (clr : Bool) : Sub :=
  ⟨sub, 1, 1, ty, acc, dflt, rng, role, clr⟩

/-- A row for several sub-indices at a stride. -/
abbrev Sub.many (sub stride count : Nat) (ty : Ty) (acc : Acc) (dflt : Dflt) (rng : Rng) (role : Nat) (clr : Bool) : Sub :=
  ⟨sub, stride, count, ty, acc, dflt, rng, role, clr⟩

/-- A record of the dictionary: its instances as (first index, stride, count) triples, in instance order. -/
structure Rec where
  bases : List (Nat × Nat × Nat)
  scope : ScopeRule
  pres : Presence
  subs : List Sub
  deriving DecidableEq, Repr

/-- The dictionary key of Index:Sub (R6). -/
abbrev key (index sub : Nat) : Nat := index * 256 + sub

end Sys2Proof.Machine
end

