-- ==== Sys2Proof/Machine/Obj.lean ====
section
/-! DEFINITION. The names of the dictionary's objects: the key Index:Sub of each named value (R6), so that the meanings
read as the spec's text does. -/

namespace Sys2Proof.Machine.Obj

/-- Index of an observer's status record: 0-3 are MA0-MA3, 4-7 GA0-GA3, 8 the pump (R238). -/
def obsBase (o : Nat) : Nat :=
  if o < 4 then 0x4800 + 16 * o else if o < 8 then 0x5200 + 16 * (o - 4) else 0x6410

/-- ClockStatus, R14 of spec/01_architecture.md. -/
abbrev clockStatus : Nat := key 0x22F0 0

/-- RefClockPresent, R14 of spec/01_architecture.md. -/
abbrev refClockPresent : Nat := key 0x22F0 1

/-- PllLockMap, R14 of spec/01_architecture.md. -/
abbrev pllLockMap : Nat := key 0x22F0 2

/-- ClockLossCount, R14 of spec/01_architecture.md. -/
abbrev clockLossCount : Nat := key 0x22F0 3

/-- CocoonOscFrequency, R14 of spec/01_architecture.md. -/
abbrev cocoonOscFrequency : Nat := key 0x22F0 4

/-- ClkOutSelect, R14 of spec/01_architecture.md. -/
abbrev clkOutSelect : Nat := key 0x22F0 5

/-- ModeControl, R33 of spec/02_modes.md. -/
abbrev modeControl : Nat := key 0x2000 0

/-- ModeRequest, R33 of spec/02_modes.md. -/
abbrev modeRequest : Nat := key 0x2000 1

/-- ModeState, R33 of spec/02_modes.md. -/
abbrev modeState : Nat := key 0x2000 2

/-- ModeRequestResult, R33 of spec/02_modes.md. -/
abbrev modeRequestResult : Nat := key 0x2000 3

/-- ModeTarget, R33 of spec/02_modes.md. -/
abbrev modeTarget : Nat := key 0x2000 4

/-- ModeEntryTime, R33 of spec/02_modes.md. -/
abbrev modeEntryTime : Nat := key 0x2000 5

/-- ModeExitRamp, R33 of spec/02_modes.md. -/
abbrev modeExitRamp : Nat := key 0x2000 6

/-- ModeTransitionCause, R33 of spec/02_modes.md. -/
abbrev modeTransitionCause : Nat := key 0x2000 7

/-- WakeSourceEnable, R33 of spec/02_modes.md. -/
abbrev wakeSourceEnable : Nat := key 0x2000 8

/-- WakeTimer, R33 of spec/02_modes.md. -/
abbrev wakeTimer : Nat := key 0x2000 9

/-- LastWakeCause, R33 of spec/02_modes.md. -/
abbrev lastWakeCause : Nat := key 0x2000 10

/-- CocoonEntryCount, R33 of spec/02_modes.md. -/
abbrev cocoonEntryCount : Nat := key 0x2000 11

/-- ModeChangeCount, R33 of spec/02_modes.md. -/
abbrev modeChangeCount : Nat := key 0x2000 12

/-- FunctionReset, R54 of spec/02_modes.md. -/
abbrev functionReset : Nat := key 0x2500 0

/-- FunctionResetRequest, R54 of spec/02_modes.md. -/
abbrev functionResetRequest : Nat := key 0x2500 1

/-- FunctionResetResult, R54 of spec/02_modes.md. -/
abbrev functionResetResult : Nat := key 0x2500 2

/-- FunctionResetLast, R54 of spec/02_modes.md. -/
abbrev functionResetLast : Nat := key 0x2500 3

/-- FunctionResetCount, R54 of spec/02_modes.md. -/
abbrev functionResetCount : Nat := key 0x2500 4

/-- FunctionResetRefused, R54 of spec/02_modes.md. -/
abbrev functionResetRefused : Nat := key 0x2500 5

/-- SealStatus, R64 of spec/03_seal_boot_calibration.md. -/
abbrev sealStatus : Nat := key 0x1010 0

/-- SealLatched, R64 of spec/03_seal_boot_calibration.md. -/
abbrev sealLatched : Nat := key 0x1010 1

/-- SealReference, R64 of spec/03_seal_boot_calibration.md. -/
abbrev sealReference : Nat := key 0x1010 2

/-- SealCommission, R64 of spec/03_seal_boot_calibration.md. -/
abbrev sealCommission : Nat := key 0x1010 3

/-- SealMismatchMap, R64 of spec/03_seal_boot_calibration.md. -/
abbrev sealMismatchMap : Nat := key 0x1010 4

/-- SealBreakCount, R64 of spec/03_seal_boot_calibration.md. -/
abbrev sealBreakCount : Nat := key 0x1010 5

/-- SealFloatMap, R64 of spec/03_seal_boot_calibration.md. -/
abbrev sealFloatMap : Nat := key 0x1010 6

/-- SealPinChangeMap, R64 of spec/03_seal_boot_calibration.md. -/
abbrev sealPinChangeMap : Nat := key 0x1010 7

/-- BootStatus, R74 of spec/03_seal_boot_calibration.md. -/
abbrev bootStatus : Nat := key 0x1011 0

/-- BootPassType, R74 of spec/03_seal_boot_calibration.md. -/
abbrev bootPassType : Nat := key 0x1011 1

/-- BootDuration, R74 of spec/03_seal_boot_calibration.md. -/
abbrev bootDuration : Nat := key 0x1011 2

/-- FirmwareSlot, R74 of spec/03_seal_boot_calibration.md. -/
abbrev firmwareSlot : Nat := key 0x1011 3

/-- FirmwareVersion, R74 of spec/03_seal_boot_calibration.md. -/
abbrev firmwareVersion : Nat := key 0x1011 4

/-- FirmwareRollbackFloor, R74 of spec/03_seal_boot_calibration.md. -/
abbrev firmwareRollbackFloor : Nat := key 0x1011 5

/-- SelfTestResult, R74 of spec/03_seal_boot_calibration.md. -/
abbrev selfTestResult : Nat := key 0x1011 6

/-- ResetLowDuration, R74 of spec/03_seal_boot_calibration.md. -/
abbrev resetLowDuration : Nat := key 0x1011 7

/-- ResetHeldCount, R74 of spec/03_seal_boot_calibration.md. -/
abbrev resetHeldCount : Nat := key 0x1011 8

/-- CocoonHold, R74 of spec/03_seal_boot_calibration.md. -/
abbrev cocoonHold : Nat := key 0x1011 9

/-- ConfigLoadMap, R74 of spec/03_seal_boot_calibration.md. -/
abbrev configLoadMap : Nat := key 0x1011 10

/-- ConfigSwap, R81 of spec/03_seal_boot_calibration.md. -/
abbrev configSwap : Nat := key 0x2010 0

/-- SwapScopeMap, R81 of spec/03_seal_boot_calibration.md. -/
abbrev swapScopeMap : Nat := key 0x2010 1

/-- SwapBoundary, R81 of spec/03_seal_boot_calibration.md. -/
abbrev swapBoundary : Nat := key 0x2010 2

/-- SwapTimebase, R81 of spec/03_seal_boot_calibration.md. -/
abbrev swapTimebase : Nat := key 0x2010 3

/-- SwapAngle, R81 of spec/03_seal_boot_calibration.md. -/
abbrev swapAngle : Nat := key 0x2010 4

/-- SwapTime, R81 of spec/03_seal_boot_calibration.md. -/
abbrev swapTime : Nat := key 0x2010 5

/-- SwapExpectedCrc, R81 of spec/03_seal_boot_calibration.md. -/
abbrev swapExpectedCrc : Nat := key 0x2010 6

/-- SwapCommand, R81 of spec/03_seal_boot_calibration.md. -/
abbrev swapCommand : Nat := key 0x2010 7

/-- SwapResult, R81 of spec/03_seal_boot_calibration.md. -/
abbrev swapResult : Nat := key 0x2010 8

/-- SwapConflict, R81 of spec/03_seal_boot_calibration.md. -/
abbrev swapConflict : Nat := key 0x2010 9

/-- SwapArmTimeout, R81 of spec/03_seal_boot_calibration.md. -/
abbrev swapArmTimeout : Nat := key 0x2010 10

/-- SwapEffectTime, R81 of spec/03_seal_boot_calibration.md. -/
abbrev swapEffectTime : Nat := key 0x2010 11

/-- ScopeStatus, R82 of spec/03_seal_boot_calibration.md. -/
abbrev scopeStatus (i : Nat) : Nat := key (0x2020 + i) 0

/-- ActiveSet, R82 of spec/03_seal_boot_calibration.md. -/
abbrev activeSet (i : Nat) : Nat := key (0x2020 + i) 1

/-- ActiveCrc, R82 of spec/03_seal_boot_calibration.md. -/
abbrev activeCrc (i : Nat) : Nat := key (0x2020 + i) 2

/-- ShadowCrc, R82 of spec/03_seal_boot_calibration.md. -/
abbrev shadowCrc (i : Nat) : Nat := key (0x2020 + i) 3

/-- ShadowState, R82 of spec/03_seal_boot_calibration.md. -/
abbrev shadowState (i : Nat) : Nat := key (0x2020 + i) 4

/-- SwapCount, R82 of spec/03_seal_boot_calibration.md. -/
abbrev swapCount (i : Nat) : Nat := key (0x2020 + i) 5

/-- LastSwapTime, R82 of spec/03_seal_boot_calibration.md. -/
abbrev lastSwapTime (i : Nat) : Nat := key (0x2020 + i) 6

/-- TbRecord, R95 of spec/04_angle_timebases.md. -/
abbrev tbRecord (i : Nat) : Nat := key (0x3000 + 16 * i) 0

/-- TbSource, R95 of spec/04_angle_timebases.md. -/
abbrev tbSource (i : Nat) : Nat := key (0x3000 + 16 * i) 1

/-- TbSourceInstance, R95 of spec/04_angle_timebases.md. -/
abbrev tbSourceInstance (i : Nat) : Nat := key (0x3000 + 16 * i) 2

/-- TbSyntheticFrequency, R95 of spec/04_angle_timebases.md. -/
abbrev tbSyntheticFrequency (i : Nat) : Nat := key (0x3000 + 16 * i) 3

/-- TbSpeed, R95 of spec/04_angle_timebases.md. -/
abbrev tbSpeed (i : Nat) : Nat := key (0x3000 + 16 * i) 4

/-- TbFrequency, R95 of spec/04_angle_timebases.md. -/
abbrev tbFrequency (i : Nat) : Nat := key (0x3000 + 16 * i) 5

/-- TbAngle, R95 of spec/04_angle_timebases.md. -/
abbrev tbAngle (i : Nat) : Nat := key (0x3000 + 16 * i) 6

/-- TbRevolutions, R95 of spec/04_angle_timebases.md. -/
abbrev tbRevolutions (i : Nat) : Nat := key (0x3000 + 16 * i) 7

/-- TbLockState, R95 of spec/04_angle_timebases.md. -/
abbrev tbLockState (i : Nat) : Nat := key (0x3000 + 16 * i) 8

/-- TbStepThreshold, R95 of spec/04_angle_timebases.md. -/
abbrev tbStepThreshold (i : Nat) : Nat := key (0x3000 + 16 * i) 9

/-- TbSlewWindow, R95 of spec/04_angle_timebases.md. -/
abbrev tbSlewWindow (i : Nat) : Nat := key (0x3000 + 16 * i) 10

/-- TbLockThreshold, R95 of spec/04_angle_timebases.md. -/
abbrev tbLockThreshold (i : Nat) : Nat := key (0x3000 + 16 * i) 11

/-- TbLossThreshold, R95 of spec/04_angle_timebases.md. -/
abbrev tbLossThreshold (i : Nat) : Nat := key (0x3000 + 16 * i) 12

/-- TbUpdateTimeout, R95 of spec/04_angle_timebases.md. -/
abbrev tbUpdateTimeout (i : Nat) : Nat := key (0x3000 + 16 * i) 13

/-- TbHoldoverLimit, R95 of spec/04_angle_timebases.md. -/
abbrev tbHoldoverLimit (i : Nat) : Nat := key (0x3000 + 16 * i) 14

/-- TbFrequencyMin, R95 of spec/04_angle_timebases.md. -/
abbrev tbFrequencyMin (i : Nat) : Nat := key (0x3000 + 16 * i) 15

/-- TbFrequencyMax, R95 of spec/04_angle_timebases.md. -/
abbrev tbFrequencyMax (i : Nat) : Nat := key (0x3000 + 16 * i) 16

/-- TbPhaseError, R95 of spec/04_angle_timebases.md. -/
abbrev tbPhaseError (i : Nat) : Nat := key (0x3000 + 16 * i) 17

/-- TbUpdateCount, R95 of spec/04_angle_timebases.md. -/
abbrev tbUpdateCount (i : Nat) : Nat := key (0x3000 + 16 * i) 18

/-- TbStepCount, R95 of spec/04_angle_timebases.md. -/
abbrev tbStepCount (i : Nat) : Nat := key (0x3000 + 16 * i) 19

/-- TbOwnerScope, R95 of spec/04_angle_timebases.md. -/
abbrev tbOwnerScope (i : Nat) : Nat := key (0x3000 + 16 * i) 20

/-- TbPublish, R95 of spec/04_angle_timebases.md. -/
abbrev tbPublish (i : Nat) : Nat := key (0x3000 + 16 * i) 21

/-- TbGridAin, R95 of spec/04_angle_timebases.md. -/
abbrev tbGridAin (i : Nat) : Nat := key (0x3000 + 16 * i) 22

/-- TbLockTime, R95 of spec/04_angle_timebases.md. -/
abbrev tbLockTime (i : Nat) : Nat := key (0x3000 + 16 * i) 23

/-- TbLossCount, R95 of spec/04_angle_timebases.md. -/
abbrev tbLossCount (i : Nat) : Nat := key (0x3000 + 16 * i) 24

/-- EventListShadow, R105 of spec/04_angle_timebases.md. -/
abbrev eventListShadow (i : Nat) : Nat := key (0x3080 + i) 0

/-- EventListActive, R105 of spec/04_angle_timebases.md. -/
abbrev eventListActive (i : Nat) : Nat := key (0x3088 + i) 0

/-- EventListStatus, R105 of spec/04_angle_timebases.md. -/
abbrev eventListStatus (i : Nat) : Nat := key (0x3090 + i) 0

/-- EventDispatchCount, R105 of spec/04_angle_timebases.md. -/
abbrev eventDispatchCount (i : Nat) : Nat := key (0x3090 + i) 1

/-- EventLateCount, R105 of spec/04_angle_timebases.md. -/
abbrev eventLateCount (i : Nat) : Nat := key (0x3090 + i) 2

/-- EventSkipCount, R105 of spec/04_angle_timebases.md. -/
abbrev eventSkipCount (i : Nat) : Nat := key (0x3090 + i) 3

/-- EventMergeCount, R105 of spec/04_angle_timebases.md. -/
abbrev eventMergeCount (i : Nat) : Nat := key (0x3090 + i) 4

/-- TestPulseRefusedCount, R105 of spec/04_angle_timebases.md. -/
abbrev testPulseRefusedCount (i : Nat) : Nat := key (0x3090 + i) 5

/-- HighWaterActive, R105 of spec/04_angle_timebases.md. -/
abbrev highWaterActive (i : Nat) : Nat := key (0x3090 + i) 6

/-- MaxOccurrencesPerTick, R105 of spec/04_angle_timebases.md. -/
abbrev maxOccurrencesPerTick (i : Nat) : Nat := key (0x3090 + i) 7

/-- StampCount, R105 of spec/04_angle_timebases.md. -/
abbrev stampCount (i : Nat) : Nat := key (0x3090 + i) 8

/-- StampRing, R105 of spec/04_angle_timebases.md. -/
abbrev stampRing (i : Nat) : Nat := key (0x3098 + i) 0

/-- EntryWindow, R105 of spec/04_angle_timebases.md. -/
abbrev entryWindow : Nat := key 0x30A0 0

/-- EntryTimebase, R105 of spec/04_angle_timebases.md. -/
abbrev entryTimebase : Nat := key 0x30A0 1

/-- EntryNumber, R105 of spec/04_angle_timebases.md. -/
abbrev entryNumber : Nat := key 0x30A0 2

/-- EntryWord0, R105 of spec/04_angle_timebases.md. -/
abbrev entryWord0 : Nat := key 0x30A0 3

/-- EntryWord1, R105 of spec/04_angle_timebases.md. -/
abbrev entryWord1 : Nat := key 0x30A0 4

/-- EntryWord2, R105 of spec/04_angle_timebases.md. -/
abbrev entryWord2 : Nat := key 0x30A0 5

/-- EntryWord3, R105 of spec/04_angle_timebases.md. -/
abbrev entryWord3 : Nat := key 0x30A0 6

/-- GroupRecord, R112 of spec/05_pwm_patterns.md. -/
abbrev groupRecord (g : Nat) : Nat := key (0x3180 + g) 0

/-- GroupChannels, R112 of spec/05_pwm_patterns.md. -/
abbrev groupChannels (g : Nat) : Nat := key (0x3180 + g) 1

/-- GroupTimebase, R112 of spec/05_pwm_patterns.md. -/
abbrev groupTimebase (g : Nat) : Nat := key (0x3180 + g) 2

/-- GroupMode, R112 of spec/05_pwm_patterns.md. -/
abbrev groupMode (g : Nat) : Nat := key (0x3180 + g) 3

/-- GroupCarriersPerRev, R112 of spec/05_pwm_patterns.md. -/
abbrev groupCarriersPerRev (g : Nat) : Nat := key (0x3180 + g) 4

/-- GroupCarrierPhase, R112 of spec/05_pwm_patterns.md. -/
abbrev groupCarrierPhase (g : Nat) : Nat := key (0x3180 + g) 5

/-- GroupDeadTime, R112 of spec/05_pwm_patterns.md. -/
abbrev groupDeadTime (g : Nat) : Nat := key (0x3180 + g) 6

/-- GroupAutoLoad, R112 of spec/05_pwm_patterns.md. -/
abbrev groupAutoLoad (g : Nat) : Nat := key (0x3180 + g) 7

/-- GroupPeriodMax, R112 of spec/05_pwm_patterns.md. -/
abbrev groupPeriodMax (g : Nat) : Nat := key (0x3180 + g) 8

/-- GroupPattern, R112 of spec/05_pwm_patterns.md. -/
abbrev groupPattern (g : Nat) : Nat := key (0x3180 + g) 9

/-- GroupTestPulseEnable, R112 of spec/05_pwm_patterns.md. -/
abbrev groupTestPulseEnable (g : Nat) : Nat := key (0x3180 + g) 10

/-- GroupState, R112 of spec/05_pwm_patterns.md. -/
abbrev groupState (g : Nat) : Nat := key (0x3180 + g) 11

/-- GroupRunRequest, R112 of spec/05_pwm_patterns.md. -/
abbrev groupRunRequest (g : Nat) : Nat := key (0x3180 + g) 12

/-- GroupPeriodCount, R112 of spec/05_pwm_patterns.md. -/
abbrev groupPeriodCount (g : Nat) : Nat := key (0x3180 + g) 13

/-- GroupLastLoadTime, R112 of spec/05_pwm_patterns.md. -/
abbrev groupLastLoadTime (g : Nat) : Nat := key (0x3180 + g) 14

/-- GroupCarrierFastCount, R112 of spec/05_pwm_patterns.md. -/
abbrev groupCarrierFastCount (g : Nat) : Nat := key (0x3180 + g) 15

/-- GroupStaleLoadCount, R112 of spec/05_pwm_patterns.md. -/
abbrev groupStaleLoadCount (g : Nat) : Nat := key (0x3180 + g) 16

/-- HbGroup, R122 of spec/05_pwm_patterns.md. -/
abbrev hbGroup (i : Nat) : Nat := key (0x3100 + i) 1

/-- HbOutputMode, R122 of spec/05_pwm_patterns.md. -/
abbrev hbOutputMode (i : Nat) : Nat := key (0x3100 + i) 2

/-- HbCarrierOffset, R122 of spec/05_pwm_patterns.md. -/
abbrev hbCarrierOffset (i : Nat) : Nat := key (0x3100 + i) 3

/-- HbMinOn, R122 of spec/05_pwm_patterns.md. -/
abbrev hbMinOn (i : Nat) : Nat := key (0x3100 + i) 4

/-- HbMinOff, R122 of spec/05_pwm_patterns.md. -/
abbrev hbMinOff (i : Nat) : Nat := key (0x3100 + i) 5

/-- HbShadowDuty, R122 of spec/05_pwm_patterns.md. -/
abbrev hbShadowDuty (i : Nat) : Nat := key (0x3100 + i) 6

/-- HbShadowPhase, R122 of spec/05_pwm_patterns.md. -/
abbrev hbShadowPhase (i : Nat) : Nat := key (0x3100 + i) 7

/-- HbDropCount, R122 of spec/05_pwm_patterns.md. -/
abbrev hbDropCount (i : Nat) : Nat := key (0x3100 + i) 8

/-- HbClass, R122 of spec/05_pwm_patterns.md. -/
abbrev hbClass (i : Nat) : Nat := key (0x3100 + i) 9

/-- HbMachine, R122 of spec/05_pwm_patterns.md. -/
abbrev hbMachine (i : Nat) : Nat := key (0x3100 + i) 10

/-- HbBlankTime, R122 of spec/05_pwm_patterns.md. -/
abbrev hbBlankTime (i : Nat) : Nat := key (0x3100 + i) 11

/-- HbDesatThreshold, R122 of spec/05_pwm_patterns.md. -/
abbrev hbDesatThreshold (i : Nat) : Nat := key (0x3100 + i) 12

/-- HbWithstandTime, R122 of spec/05_pwm_patterns.md. -/
abbrev hbWithstandTime (i : Nat) : Nat := key (0x3100 + i) 13

/-- HbLinkInput, R122 of spec/05_pwm_patterns.md. -/
abbrev hbLinkInput (i : Nat) : Nat := key (0x3100 + i) 14

/-- HbCurrentInput, R122 of spec/05_pwm_patterns.md. -/
abbrev hbCurrentInput (i : Nat) : Nat := key (0x3100 + i) 15

/-- HbOcSide, R122 of spec/05_pwm_patterns.md. -/
abbrev hbOcSide (i : Nat) : Nat := key (0x3100 + i) 16

/-- HbRetryEnable, R122 of spec/05_pwm_patterns.md. -/
abbrev hbRetryEnable (i : Nat) : Nat := key (0x3100 + i) 17

/-- HbRetryWait, R122 of spec/05_pwm_patterns.md. -/
abbrev hbRetryWait (i : Nat) : Nat := key (0x3100 + i) 18

/-- HbRetryMax, R122 of spec/05_pwm_patterns.md. -/
abbrev hbRetryMax (i : Nat) : Nat := key (0x3100 + i) 19

/-- HbRetryWindow, R122 of spec/05_pwm_patterns.md. -/
abbrev hbRetryWindow (i : Nat) : Nat := key (0x3100 + i) 20

/-- HbProtState, R122 of spec/05_pwm_patterns.md. -/
abbrev hbProtState (i : Nat) : Nat := key (0x3100 + i) 21

/-- HbReaction, R122 of spec/05_pwm_patterns.md. -/
abbrev hbReaction (i : Nat) : Nat := key (0x3100 + i) 22

/-- HbLastCause, R122 of spec/05_pwm_patterns.md. -/
abbrev hbLastCause (i : Nat) : Nat := key (0x3100 + i) 23

/-- HbLastTripTime, R122 of spec/05_pwm_patterns.md. -/
abbrev hbLastTripTime (i : Nat) : Nat := key (0x3100 + i) 24

/-- HbTripCount, R122 of spec/05_pwm_patterns.md. -/
abbrev hbTripCount (i : Nat) : Nat := key (0x3100 + i) 25

/-- HbRetriesInWindow, R122 of spec/05_pwm_patterns.md. -/
abbrev hbRetriesInWindow (i : Nat) : Nat := key (0x3100 + i) 26

/-- HbOnStateVoltage, R122 of spec/05_pwm_patterns.md. -/
abbrev hbOnStateVoltage (i : Nat) : Nat := key (0x3100 + i) 27

/-- HbOnStatePeak, R122 of spec/05_pwm_patterns.md. -/
abbrev hbOnStatePeak (i : Nat) : Nat := key (0x3100 + i) 28

/-- ServiceCurrentLimit, R122 of spec/05_pwm_patterns.md. -/
abbrev serviceCurrentLimit (i : Nat) : Nat := key (0x3100 + i) 29

/-- HbSupplyReady, R122 of spec/05_pwm_patterns.md. -/
abbrev hbSupplyReady (i : Nat) : Nat := key (0x3100 + i) 30

/-- HbDesatMaskCount, R122 of spec/05_pwm_patterns.md. -/
abbrev hbDesatMaskCount (i : Nat) : Nat := key (0x3100 + i) 31

/-- PatternTableShadow, R127 of spec/05_pwm_patterns.md. -/
abbrev patternTableShadow : Nat := key 0x31A0 0

/-- PatternTableActive, R127 of spec/05_pwm_patterns.md. -/
abbrev patternTableActive : Nat := key 0x31A1 0

/-- PatternDirectoryShadow, R127 of spec/05_pwm_patterns.md. -/
abbrev patternDirectoryShadow : Nat := key 0x31A2 0

/-- PatternDirectoryActive, R127 of spec/05_pwm_patterns.md. -/
abbrev patternDirectoryActive : Nat := key 0x31A3 0

/-- PatternStatus, R127 of spec/05_pwm_patterns.md. -/
abbrev patternStatus : Nat := key 0x31A4 0

/-- PatternShadowCrc, R127 of spec/05_pwm_patterns.md. -/
abbrev patternShadowCrc : Nat := key 0x31A4 1

/-- PatternSelectRefusedCount, R127 of spec/05_pwm_patterns.md. -/
abbrev patternSelectRefusedCount : Nat := key 0x31A4 2

/-- PatternEntriesUsed, R127 of spec/05_pwm_patterns.md. -/
abbrev patternEntriesUsed : Nat := key 0x31A4 3

/-- LvRecord, R132 of spec/05_pwm_patterns.md. -/
abbrev lvRecord (i : Nat) : Nat := key (0x31C0 + i) 0

/-- LvGroup, R132 of spec/05_pwm_patterns.md. -/
abbrev lvGroup (i : Nat) : Nat := key (0x31C0 + i) 1

/-- LvOutputMode, R132 of spec/05_pwm_patterns.md. -/
abbrev lvOutputMode (i : Nat) : Nat := key (0x31C0 + i) 2

/-- LvCarrierOffset, R132 of spec/05_pwm_patterns.md. -/
abbrev lvCarrierOffset (i : Nat) : Nat := key (0x31C0 + i) 3

/-- LvMinOn, R132 of spec/05_pwm_patterns.md. -/
abbrev lvMinOn (i : Nat) : Nat := key (0x31C0 + i) 4

/-- LvMinOff, R132 of spec/05_pwm_patterns.md. -/
abbrev lvMinOff (i : Nat) : Nat := key (0x31C0 + i) 5

/-- LvShadowDuty, R132 of spec/05_pwm_patterns.md. -/
abbrev lvShadowDuty (i : Nat) : Nat := key (0x31C0 + i) 6

/-- LvShadowPhase, R132 of spec/05_pwm_patterns.md. -/
abbrev lvShadowPhase (i : Nat) : Nat := key (0x31C0 + i) 7

/-- LvShadowOnTime, R132 of spec/05_pwm_patterns.md. -/
abbrev lvShadowOnTime (i : Nat) : Nat := key (0x31C0 + i) 8

/-- LvBootstrap, R132 of spec/05_pwm_patterns.md. -/
abbrev lvBootstrap (i : Nat) : Nat := key (0x31C0 + i) 9

/-- LvRefreshTime, R132 of spec/05_pwm_patterns.md. -/
abbrev lvRefreshTime (i : Nat) : Nat := key (0x31C0 + i) 10

/-- LvRefreshPeriods, R132 of spec/05_pwm_patterns.md. -/
abbrev lvRefreshPeriods (i : Nat) : Nat := key (0x31C0 + i) 11

/-- LvBstRefreshLevel, R132 of spec/05_pwm_patterns.md. -/
abbrev lvBstRefreshLevel (i : Nat) : Nat := key (0x31C0 + i) 12

/-- LvBstUvThreshold, R132 of spec/05_pwm_patterns.md. -/
abbrev lvBstUvThreshold (i : Nat) : Nat := key (0x31C0 + i) 13

/-- LvBstPrecharge, R132 of spec/05_pwm_patterns.md. -/
abbrev lvBstPrecharge (i : Nat) : Nat := key (0x31C0 + i) 14

/-- LvRefreshCount, R132 of spec/05_pwm_patterns.md. -/
abbrev lvRefreshCount (i : Nat) : Nat := key (0x31C0 + i) 15

/-- LvDropCount, R132 of spec/05_pwm_patterns.md. -/
abbrev lvDropCount (i : Nat) : Nat := key (0x31C0 + i) 16

/-- GsRecord, R149 of spec/06_gate_drive.md. -/
abbrev gsRecord (i : Nat) : Nat := key (0x3200 + i) 0

/-- GsEnable, R149 of spec/06_gate_drive.md. -/
abbrev gsEnable (i : Nat) : Nat := key (0x3200 + i) 1

/-- GsTargetVoltage, R149 of spec/06_gate_drive.md. -/
abbrev gsTargetVoltage (i : Nat) : Nat := key (0x3200 + i) 2

/-- GsUvloThreshold, R149 of spec/06_gate_drive.md. -/
abbrev gsUvloThreshold (i : Nat) : Nat := key (0x3200 + i) 3

/-- GsUvloHysteresis, R149 of spec/06_gate_drive.md. -/
abbrev gsUvloHysteresis (i : Nat) : Nat := key (0x3200 + i) 4

/-- GsOvloThreshold, R149 of spec/06_gate_drive.md. -/
abbrev gsOvloThreshold (i : Nat) : Nat := key (0x3200 + i) 5

/-- GsSenseRatio, R149 of spec/06_gate_drive.md. -/
abbrev gsSenseRatio (i : Nat) : Nat := key (0x3200 + i) 6

/-- GsFrequency, R149 of spec/06_gate_drive.md. -/
abbrev gsFrequency (i : Nat) : Nat := key (0x3200 + i) 7

/-- GsDutyMax, R149 of spec/06_gate_drive.md. -/
abbrev gsDutyMax (i : Nat) : Nat := key (0x3200 + i) 8

/-- GsSoftStart, R149 of spec/06_gate_drive.md. -/
abbrev gsSoftStart (i : Nat) : Nat := key (0x3200 + i) 9

/-- GsKeeperDivider, R149 of spec/06_gate_drive.md. -/
abbrev gsKeeperDivider (i : Nat) : Nat := key (0x3200 + i) 10

/-- GsKeeperDuty, R149 of spec/06_gate_drive.md. -/
abbrev gsKeeperDuty (i : Nat) : Nat := key (0x3200 + i) 11

/-- GsVoltage, R149 of spec/06_gate_drive.md. -/
abbrev gsVoltage (i : Nat) : Nat := key (0x3200 + i) 12

/-- GsState, R149 of spec/06_gate_drive.md. -/
abbrev gsState (i : Nat) : Nat := key (0x3200 + i) 13

/-- GsUvloCount, R149 of spec/06_gate_drive.md. -/
abbrev gsUvloCount (i : Nat) : Nat := key (0x3200 + i) 14

/-- GsDuty, R149 of spec/06_gate_drive.md. -/
abbrev gsDuty (i : Nat) : Nat := key (0x3200 + i) 15

/-- GsStartTime, R149 of spec/06_gate_drive.md. -/
abbrev gsStartTime (i : Nat) : Nat := key (0x3200 + i) 16

/-- GsSampleDelay, R149 of spec/06_gate_drive.md. -/
abbrev gsSampleDelay (i : Nat) : Nat := key (0x3200 + i) 17

/-- GsUvloFilter, R149 of spec/06_gate_drive.md. -/
abbrev gsUvloFilter (i : Nat) : Nat := key (0x3200 + i) 18

/-- SdRecord, R168 of spec/07_sensing.md. -/
abbrev sdRecord (i : Nat) : Nat := key (0x3340 + i) 0

/-- SdEnable, R168 of spec/07_sensing.md. -/
abbrev sdEnable (i : Nat) : Nat := key (0x3340 + i) 1

/-- SdClock, R168 of spec/07_sensing.md. -/
abbrev sdClock (i : Nat) : Nat := key (0x3340 + i) 2

/-- SdCaptureDelay, R168 of spec/07_sensing.md. -/
abbrev sdCaptureDelay (i : Nat) : Nat := key (0x3340 + i) 3

/-- SdFullScale, R168 of spec/07_sensing.md. -/
abbrev sdFullScale (i : Nat) : Nat := key (0x3340 + i) 4

/-- SdOcHigh, R168 of spec/07_sensing.md. -/
abbrev sdOcHigh (i : Nat) : Nat := key (0x3340 + i) 5

/-- SdOcLow, R168 of spec/07_sensing.md. -/
abbrev sdOcLow (i : Nat) : Nat := key (0x3340 + i) 6

/-- SdOcHysteresis, R168 of spec/07_sensing.md. -/
abbrev sdOcHysteresis (i : Nat) : Nat := key (0x3340 + i) 7

/-- SdValue, R168 of spec/07_sensing.md. -/
abbrev sdValue (i : Nat) : Nat := key (0x3340 + i) 8

/-- SdTriggeredValue, R168 of spec/07_sensing.md. -/
abbrev sdTriggeredValue (i : Nat) : Nat := key (0x3340 + i) 9

/-- SdRangeLimit, R168 of spec/07_sensing.md. -/
abbrev sdRangeLimit (i : Nat) : Nat := key (0x3340 + i) 10

/-- SdStuckLimit, R168 of spec/07_sensing.md. -/
abbrev sdStuckLimit (i : Nat) : Nat := key (0x3340 + i) 11

/-- SdOcTripCount, R168 of spec/07_sensing.md. -/
abbrev sdOcTripCount (i : Nat) : Nat := key (0x3340 + i) 12

/-- SdRangeCount, R168 of spec/07_sensing.md. -/
abbrev sdRangeCount (i : Nat) : Nat := key (0x3340 + i) 13

/-- SdState, R168 of spec/07_sensing.md. -/
abbrev sdState (i : Nat) : Nat := key (0x3340 + i) 14

/-- VswRecord, R173 of spec/07_sensing.md. -/
abbrev vswRecord (i : Nat) : Nat := key (0x3300 + i) 0

/-- VswEnable, R173 of spec/07_sensing.md. -/
abbrev vswEnable (i : Nat) : Nat := key (0x3300 + i) 1

/-- VswDividerRatio, R173 of spec/07_sensing.md. -/
abbrev vswDividerRatio (i : Nat) : Nat := key (0x3300 + i) 2

/-- VswWindowMode, R173 of spec/07_sensing.md. -/
abbrev vswWindowMode (i : Nat) : Nat := key (0x3300 + i) 3

/-- VswValue, R173 of spec/07_sensing.md. -/
abbrev vswValue (i : Nat) : Nat := key (0x3300 + i) 4

/-- VswTriggeredValue, R173 of spec/07_sensing.md. -/
abbrev vswTriggeredValue (i : Nat) : Nat := key (0x3300 + i) 5

/-- VswVoltSeconds, R173 of spec/07_sensing.md. -/
abbrev vswVoltSeconds (i : Nat) : Nat := key (0x3300 + i) 6

/-- VswWindowLength, R173 of spec/07_sensing.md. -/
abbrev vswWindowLength (i : Nat) : Nat := key (0x3300 + i) 7

/-- VswRangeCount, R173 of spec/07_sensing.md. -/
abbrev vswRangeCount (i : Nat) : Nat := key (0x3300 + i) 8

/-- VswFullScale, R173 of spec/07_sensing.md. -/
abbrev vswFullScale (i : Nat) : Nat := key (0x3300 + i) 9

/-- VdcRecord, R176 of spec/07_sensing.md. -/
abbrev vdcRecord (i : Nat) : Nat := key (0x3380 + i) 0

/-- VdcEnable, R176 of spec/07_sensing.md. -/
abbrev vdcEnable (i : Nat) : Nat := key (0x3380 + i) 1

/-- VdcDividerRatio, R176 of spec/07_sensing.md. -/
abbrev vdcDividerRatio (i : Nat) : Nat := key (0x3380 + i) 2

/-- VdcValue, R176 of spec/07_sensing.md. -/
abbrev vdcValue (i : Nat) : Nat := key (0x3380 + i) 3

/-- VdcMean, R176 of spec/07_sensing.md. -/
abbrev vdcMean (i : Nat) : Nat := key (0x3380 + i) 4

/-- VdcTriggeredValue, R176 of spec/07_sensing.md. -/
abbrev vdcTriggeredValue (i : Nat) : Nat := key (0x3380 + i) 5

/-- VdcPlausibilityMargin, R176 of spec/07_sensing.md. -/
abbrev vdcPlausibilityMargin (i : Nat) : Nat := key (0x3380 + i) 6

/-- VdcState, R176 of spec/07_sensing.md. -/
abbrev vdcState (i : Nat) : Nat := key (0x3380 + i) 7

/-- VdcMin, R176 of spec/07_sensing.md. -/
abbrev vdcMin (i : Nat) : Nat := key (0x3380 + i) 8

/-- VdcMax, R176 of spec/07_sensing.md. -/
abbrev vdcMax (i : Nat) : Nat := key (0x3380 + i) 9

/-- VdcFullScale, R176 of spec/07_sensing.md. -/
abbrev vdcFullScale (i : Nat) : Nat := key (0x3380 + i) 10

/-- AinRecord, R179 of spec/07_sensing.md. -/
abbrev ainRecord (i : Nat) : Nat := key (0x3390 + i) 0

/-- AinMode, R179 of spec/07_sensing.md. -/
abbrev ainMode (i : Nat) : Nat := key (0x3390 + i) 1

/-- AinScale, R179 of spec/07_sensing.md. -/
abbrev ainScale (i : Nat) : Nat := key (0x3390 + i) 2

/-- AinOffset, R179 of spec/07_sensing.md. -/
abbrev ainOffset (i : Nat) : Nat := key (0x3390 + i) 3

/-- AinPullup, R179 of spec/07_sensing.md. -/
abbrev ainPullup (i : Nat) : Nat := key (0x3390 + i) 4

/-- AinNtcR25, R179 of spec/07_sensing.md. -/
abbrev ainNtcR25 (i : Nat) : Nat := key (0x3390 + i) 5

/-- AinNtcBeta, R179 of spec/07_sensing.md. -/
abbrev ainNtcBeta (i : Nat) : Nat := key (0x3390 + i) 6

/-- AinValue, R179 of spec/07_sensing.md. -/
abbrev ainValue (i : Nat) : Nat := key (0x3390 + i) 7

/-- AinValidMin, R179 of spec/07_sensing.md. -/
abbrev ainValidMin (i : Nat) : Nat := key (0x3390 + i) 8

/-- AinValidMax, R179 of spec/07_sensing.md. -/
abbrev ainValidMax (i : Nat) : Nat := key (0x3390 + i) 9

/-- AinState, R179 of spec/07_sensing.md. -/
abbrev ainState (i : Nat) : Nat := key (0x3390 + i) 10

/-- AinBallVoltage, R179 of spec/07_sensing.md. -/
abbrev ainBallVoltage (i : Nat) : Nat := key (0x3390 + i) 11

/-- LvSenseRecord, R181 of spec/07_sensing.md. -/
abbrev lvSenseRecord (i : Nat) : Nat := key (0x33A0 + i) 0

/-- LvIsnGain, R181 of spec/07_sensing.md. -/
abbrev lvIsnGain (i : Nat) : Nat := key (0x33A0 + i) 1

/-- LvIsnZero, R181 of spec/07_sensing.md. -/
abbrev lvIsnZero (i : Nat) : Nat := key (0x33A0 + i) 2

/-- LvIsnValue, R181 of spec/07_sensing.md. -/
abbrev lvIsnValue (i : Nat) : Nat := key (0x33A0 + i) 3

/-- LvBstRatio, R181 of spec/07_sensing.md. -/
abbrev lvBstRatio (i : Nat) : Nat := key (0x33A0 + i) 4

/-- LvBstValue, R181 of spec/07_sensing.md. -/
abbrev lvBstValue (i : Nat) : Nat := key (0x33A0 + i) 5

/-- LvIsnPeak, R181 of spec/07_sensing.md. -/
abbrev lvIsnPeak (i : Nat) : Nat := key (0x33A0 + i) 6

/-- LvSenseState, R181 of spec/07_sensing.md. -/
abbrev lvSenseState (i : Nat) : Nat := key (0x33A0 + i) 7

/-- LvSenseRangeCount, R181 of spec/07_sensing.md. -/
abbrev lvSenseRangeCount (i : Nat) : Nat := key (0x33A0 + i) 8

/-- VoutRecord, R181 of spec/07_sensing.md. -/
abbrev voutRecord (i : Nat) : Nat := key (0x33B0 + i) 0

/-- VoutRatio, R181 of spec/07_sensing.md. -/
abbrev voutRatio (i : Nat) : Nat := key (0x33B0 + i) 1

/-- VoutValue, R181 of spec/07_sensing.md. -/
abbrev voutValue (i : Nat) : Nat := key (0x33B0 + i) 2

/-- VoutTriggeredValue, R181 of spec/07_sensing.md. -/
abbrev voutTriggeredValue (i : Nat) : Nat := key (0x33B0 + i) 3

/-- VoutRangeCount, R181 of spec/07_sensing.md. -/
abbrev voutRangeCount (i : Nat) : Nat := key (0x33B0 + i) 4

/-- SlotRecord, R212 of spec/08_hawkmoth_engines.md. -/
abbrev slotRecord (n : Nat) : Nat := key (0x4000 + 0x10 * (n / 8) + n % 8) 0

/-- SlotEntry, R212 of spec/08_hawkmoth_engines.md. -/
abbrev slotEntry (n : Nat) : Nat := key (0x4000 + 0x10 * (n / 8) + n % 8) 1

/-- SlotState, R212 of spec/08_hawkmoth_engines.md. -/
abbrev slotState (n : Nat) : Nat := key (0x4000 + 0x10 * (n / 8) + n % 8) 2

/-- SlotEnable, R212 of spec/08_hawkmoth_engines.md. -/
abbrev slotEnable (n : Nat) : Nat := key (0x4000 + 0x10 * (n / 8) + n % 8) 3

/-- SlotDeclaredCycles, R212 of spec/08_hawkmoth_engines.md. -/
abbrev slotDeclaredCycles (n : Nat) : Nat := key (0x4000 + 0x10 * (n / 8) + n % 8) 4

/-- SlotDeadline, R212 of spec/08_hawkmoth_engines.md. -/
abbrev slotDeadline (n : Nat) : Nat := key (0x4000 + 0x10 * (n / 8) + n % 8) 5

/-- SlotDeadlineMisses, R212 of spec/08_hawkmoth_engines.md. -/
abbrev slotDeadlineMisses (n : Nat) : Nat := key (0x4000 + 0x10 * (n / 8) + n % 8) 6

/-- SlotOutputMap, R212 of spec/08_hawkmoth_engines.md. -/
abbrev slotOutputMap (n : Nat) : Nat := key (0x4000 + 0x10 * (n / 8) + n % 8) 7

/-- SlotHandoverPartner, R212 of spec/08_hawkmoth_engines.md. -/
abbrev slotHandoverPartner (n : Nat) : Nat := key (0x4000 + 0x10 * (n / 8) + n % 8) 8

/-- SlotHandoverSpan, R212 of spec/08_hawkmoth_engines.md. -/
abbrev slotHandoverSpan (n : Nat) : Nat := key (0x4000 + 0x10 * (n / 8) + n % 8) 9

/-- SlotHandoverTimebase, R212 of spec/08_hawkmoth_engines.md. -/
abbrev slotHandoverTimebase (n : Nat) : Nat := key (0x4000 + 0x10 * (n / 8) + n % 8) 10

/-- SlotPresetEntry, R212 of spec/08_hawkmoth_engines.md. -/
abbrev slotPresetEntry (n : Nat) : Nat := key (0x4000 + 0x10 * (n / 8) + n % 8) 11

/-- SlotHandoverBase, R212 of spec/08_hawkmoth_engines.md. -/
abbrev slotHandoverBase (n : Nat) : Nat := key (0x4000 + 0x10 * (n / 8) + n % 8) 12

/-- SlotStartCount, R212 of spec/08_hawkmoth_engines.md. -/
abbrev slotStartCount (n : Nat) : Nat := key (0x4000 + 0x10 * (n / 8) + n % 8) 13

/-- SlotOverrunCount, R212 of spec/08_hawkmoth_engines.md. -/
abbrev slotOverrunCount (n : Nat) : Nat := key (0x4000 + 0x10 * (n / 8) + n % 8) 14

/-- SlotDeadlineMissCount, R212 of spec/08_hawkmoth_engines.md. -/
abbrev slotDeadlineMissCount (n : Nat) : Nat := key (0x4000 + 0x10 * (n / 8) + n % 8) 15

/-- SlotBusyCycles, R212 of spec/08_hawkmoth_engines.md. -/
abbrev slotBusyCycles (n : Nat) : Nat := key (0x4000 + 0x10 * (n / 8) + n % 8) 16

/-- SlotLastResponse, R212 of spec/08_hawkmoth_engines.md. -/
abbrev slotLastResponse (n : Nat) : Nat := key (0x4000 + 0x10 * (n / 8) + n % 8) 17

/-- SlotMaxResponse, R212 of spec/08_hawkmoth_engines.md. -/
abbrev slotMaxResponse (n : Nat) : Nat := key (0x4000 + 0x10 * (n / 8) + n % 8) 18

/-- SlotLeavePower, R212 of spec/08_hawkmoth_engines.md. -/
abbrev slotLeavePower (n : Nat) : Nat := key (0x4000 + 0x10 * (n / 8) + n % 8) 19

/-- EngineRecord, R213 of spec/08_hawkmoth_engines.md. -/
abbrev engineRecord (i : Nat) : Nat := key (0x4008 + 16 * i) 0

/-- EngOwnerScope, R213 of spec/08_hawkmoth_engines.md. -/
abbrev engOwnerScope (i : Nat) : Nat := key (0x4008 + 16 * i) 1

/-- EngState, R213 of spec/08_hawkmoth_engines.md. -/
abbrev engState (i : Nat) : Nat := key (0x4008 + 16 * i) 2

/-- EngCycleCount, R213 of spec/08_hawkmoth_engines.md. -/
abbrev engCycleCount (i : Nat) : Nat := key (0x4008 + 16 * i) 3

/-- EngIdleCycles, R213 of spec/08_hawkmoth_engines.md. -/
abbrev engIdleCycles (i : Nat) : Nat := key (0x4008 + 16 * i) 4

/-- EngPreemptCount, R213 of spec/08_hawkmoth_engines.md. -/
abbrev engPreemptCount (i : Nat) : Nat := key (0x4008 + 16 * i) 5

/-- EngNonfiniteSlot, R213 of spec/08_hawkmoth_engines.md. -/
abbrev engNonfiniteSlot (i : Nat) : Nat := key (0x4008 + 16 * i) 6

/-- EngNonfiniteAddress, R213 of spec/08_hawkmoth_engines.md. -/
abbrev engNonfiniteAddress (i : Nat) : Nat := key (0x4008 + 16 * i) 7

/-- EngVdcFloor, R213 of spec/08_hawkmoth_engines.md. -/
abbrev engVdcFloor (i : Nat) : Nat := key (0x4008 + 16 * i) 8

/-- HandoverRequest, R213 of spec/08_hawkmoth_engines.md. -/
abbrev handoverRequest (i : Nat) : Nat := key (0x4008 + 16 * i) 9

/-- HandoverResult, R213 of spec/08_hawkmoth_engines.md. -/
abbrev handoverResult (i : Nat) : Nat := key (0x4008 + 16 * i) 10

/-- EngLoad, R213 of spec/08_hawkmoth_engines.md. -/
abbrev engLoad (i : Nat) : Nat := key (0x4008 + 16 * i) 11

/-- EngCommitDiscardCount, R213 of spec/08_hawkmoth_engines.md. -/
abbrev engCommitDiscardCount (i : Nat) : Nat := key (0x4008 + 16 * i) 12

/-- EngEccCorrectedCount, R213 of spec/08_hawkmoth_engines.md. -/
abbrev engEccCorrectedCount (i : Nat) : Nat := key (0x4008 + 16 * i) 13

/-- SupEnable, R214 of spec/08_hawkmoth_engines.md. -/
abbrev supEnable (i : Nat) (k : Nat) : Nat := key (0x4009 + 16 * i) (1 + 16 * k)

/-- SupThreshold, R214 of spec/08_hawkmoth_engines.md. -/
abbrev supThreshold (i : Nat) (k : Nat) : Nat := key (0x4009 + 16 * i) (2 + 16 * k)

/-- SupCount, R214 of spec/08_hawkmoth_engines.md. -/
abbrev supCount (i : Nat) (k : Nat) : Nat := key (0x4009 + 16 * i) (3 + 16 * k)

/-- SupWarmup, R214 of spec/08_hawkmoth_engines.md. -/
abbrev supWarmup (i : Nat) (k : Nat) : Nat := key (0x4009 + 16 * i) (4 + 16 * k)

/-- SupState, R214 of spec/08_hawkmoth_engines.md. -/
abbrev supState (i : Nat) (k : Nat) : Nat := key (0x4009 + 16 * i) (5 + 16 * k)

/-- SupResidualPeak, R214 of spec/08_hawkmoth_engines.md. -/
abbrev supResidualPeak (i : Nat) (k : Nat) : Nat := key (0x4009 + 16 * i) (6 + 16 * k)

/-- SupFaultCode, R214 of spec/08_hawkmoth_engines.md. -/
abbrev supFaultCode (i : Nat) (k : Nat) : Nat := key (0x4009 + 16 * i) (7 + 16 * k)

/-- ProgramShadow, R215 of spec/08_hawkmoth_engines.md. -/
abbrev programShadow (i : Nat) : Nat := key (0x4080 + i) 0

/-- ProgramActive, R215 of spec/08_hawkmoth_engines.md. -/
abbrev programActive (i : Nat) : Nat := key (0x4088 + i) 0

/-- ConstantShadow, R215 of spec/08_hawkmoth_engines.md. -/
abbrev constantShadow (i : Nat) : Nat := key (0x4090 + i) 0

/-- ConstantActive, R215 of spec/08_hawkmoth_engines.md. -/
abbrev constantActive (i : Nat) : Nat := key (0x4098 + i) 0

/-- StateInitialImage, R215 of spec/08_hawkmoth_engines.md. -/
abbrev stateInitialImage (i : Nat) : Nat := key (0x40A0 + i) 0

/-- StateLive, R215 of spec/08_hawkmoth_engines.md. -/
abbrev stateLive (i : Nat) : Nat := key (0x40A8 + i) 0

/-- MailboxLive, R215 of spec/08_hawkmoth_engines.md. -/
abbrev mailboxLive (i : Nat) : Nat := key (0x40B0 + i) 0

/-- ProgramCheck, R234 of spec/09_engine_isa.md. -/
abbrev programCheck (i : Nat) : Nat := key (0x40B8 + i) 0

/-- ProgramCheckResult, R234 of spec/09_engine_isa.md. -/
abbrev programCheckResult (i : Nat) : Nat := key (0x40B8 + i) 1

/-- ProgramCheckAddress, R234 of spec/09_engine_isa.md. -/
abbrev programCheckAddress (i : Nat) : Nat := key (0x40B8 + i) 2

/-- ProgramCheckEntry, R234 of spec/09_engine_isa.md. -/
abbrev programCheckEntry (i : Nat) : Nat := key (0x40B8 + i) 3

/-- ObsModel, R242 of spec/10_observer.md. -/
abbrev obsModel (o : Nat) : Nat := key (obsBase o + 1) 0

/-- ObsPolePairs, R242 of spec/10_observer.md. -/
abbrev obsPolePairs (o : Nat) : Nat := key (obsBase o + 1) 1

/-- ObsPhaseCount, R242 of spec/10_observer.md. -/
abbrev obsPhaseCount (o : Nat) : Nat := key (obsBase o + 1) 2

/-- ObsSetDisplacement, R242 of spec/10_observer.md. -/
abbrev obsSetDisplacement (o : Nat) : Nat := key (obsBase o + 1) 3

/-- ObsRs, R242 of spec/10_observer.md. -/
abbrev obsRs (o : Nat) : Nat := key (obsBase o + 1) 4

/-- ObsRsTempCoeff, R242 of spec/10_observer.md. -/
abbrev obsRsTempCoeff (o : Nat) : Nat := key (obsBase o + 1) 5

/-- ObsWindingTempInput, R242 of spec/10_observer.md. -/
abbrev obsWindingTempInput (o : Nat) : Nat := key (obsBase o + 1) 6

/-- ObsLd, R242 of spec/10_observer.md. -/
abbrev obsLd (o : Nat) : Nat := key (obsBase o + 1) 7

/-- ObsLq, R242 of spec/10_observer.md. -/
abbrev obsLq (o : Nat) : Nat := key (obsBase o + 1) 8

/-- ObsFlux, R242 of spec/10_observer.md. -/
abbrev obsFlux (o : Nat) : Nat := key (obsBase o + 1) 9

/-- ObsRatedFrequency, R242 of spec/10_observer.md. -/
abbrev obsRatedFrequency (o : Nat) : Nat := key (obsBase o + 1) 10

/-- ObsCurrentMap, R242 of spec/10_observer.md. -/
abbrev obsCurrentMap (o : Nat) : Nat := key (obsBase o + 1) 11

/-- ObsChannelMap, R242 of spec/10_observer.md. -/
abbrev obsChannelMap (o : Nat) : Nat := key (obsBase o + 1) 12

/-- ObsLinkInput, R242 of spec/10_observer.md. -/
abbrev obsLinkInput (o : Nat) : Nat := key (obsBase o + 1) 13

/-- ObsStatus, R260 of spec/10_observer.md. -/
abbrev obsStatus (o : Nat) : Nat := key (obsBase o) 0

/-- ObsRegime, R260 of spec/10_observer.md. -/
abbrev obsRegime (o : Nat) : Nat := key (obsBase o) 1

/-- ObsValid, R260 of spec/10_observer.md. -/
abbrev obsValid (o : Nat) : Nat := key (obsBase o) 2

/-- ObsAngle, R260 of spec/10_observer.md. -/
abbrev obsAngle (o : Nat) : Nat := key (obsBase o) 3

/-- ObsFrequency, R260 of spec/10_observer.md. -/
abbrev obsFrequency (o : Nat) : Nat := key (obsBase o) 4

/-- ObsSpeedPercent, R260 of spec/10_observer.md. -/
abbrev obsSpeedPercent (o : Nat) : Nat := key (obsBase o) 5

/-- ObsBlendWeight, R260 of spec/10_observer.md. -/
abbrev obsBlendWeight (o : Nat) : Nat := key (obsBase o) 6

/-- ObsResidual, R260 of spec/10_observer.md. -/
abbrev obsResidual (o : Nat) : Nat := key (obsBase o) 7

/-- ObsResidualPeak, R260 of spec/10_observer.md. -/
abbrev obsResidualPeak (o : Nat) : Nat := key (obsBase o) 8

/-- ObsSupState, R260 of spec/10_observer.md. -/
abbrev obsSupState (o : Nat) : Nat := key (obsBase o) 9

/-- ObsAngleErrorRms, R260 of spec/10_observer.md. -/
abbrev obsAngleErrorRms (o : Nat) : Nat := key (obsBase o) 10

/-- ObsAngleBoundRms, R260 of spec/10_observer.md. -/
abbrev obsAngleBoundRms (o : Nat) : Nat := key (obsBase o) 11

/-- AngleQualityRatio, R260 of spec/10_observer.md. -/
abbrev angleQualityRatio (o : Nat) : Nat := key (obsBase o) 12

/-- ObsCurrentNoise, R260 of spec/10_observer.md. -/
abbrev obsCurrentNoise (o : Nat) : Nat := key (obsBase o) 13

/-- ObsLostCount, R260 of spec/10_observer.md. -/
abbrev obsLostCount (o : Nat) : Nat := key (obsBase o) 14

/-- ObsReacqTime, R260 of spec/10_observer.md. -/
abbrev obsReacqTime (o : Nat) : Nat := key (obsBase o) 15

/-- ObsConfig, R261 of spec/10_observer.md. -/
abbrev obsConfig (o : Nat) : Nat := key (obsBase o + 2) 0

/-- ObsEnable, R261 of spec/10_observer.md. -/
abbrev obsEnable (o : Nat) : Nat := key (obsBase o + 2) 1

/-- ObsInjEnable, R261 of spec/10_observer.md. -/
abbrev obsInjEnable (o : Nat) : Nat := key (obsBase o + 2) 2

/-- ObsInjVoltage, R261 of spec/10_observer.md. -/
abbrev obsInjVoltage (o : Nat) : Nat := key (obsBase o + 2) 3

/-- ObsInjSettle, R261 of spec/10_observer.md. -/
abbrev obsInjSettle (o : Nat) : Nat := key (obsBase o + 2) 4

/-- ObsBlendLow, R261 of spec/10_observer.md. -/
abbrev obsBlendLow (o : Nat) : Nat := key (obsBase o + 2) 5

/-- ObsBlendHigh, R261 of spec/10_observer.md. -/
abbrev obsBlendHigh (o : Nat) : Nat := key (obsBase o + 2) 6

/-- ObsInjHysteresis, R261 of spec/10_observer.md. -/
abbrev obsInjHysteresis (o : Nat) : Nat := key (obsBase o + 2) 7

/-- ObsEmfBandwidth, R261 of spec/10_observer.md. -/
abbrev obsEmfBandwidth (o : Nat) : Nat := key (obsBase o + 2) 8

/-- ObsCatchMinVoltage, R261 of spec/10_observer.md. -/
abbrev obsCatchMinVoltage (o : Nat) : Nat := key (obsBase o + 2) 9

/-- ObsCatchTime, R261 of spec/10_observer.md. -/
abbrev obsCatchTime (o : Nat) : Nat := key (obsBase o + 2) 10

/-- ObsPolarityVoltage, R261 of spec/10_observer.md. -/
abbrev obsPolarityVoltage (o : Nat) : Nat := key (obsBase o + 2) 11

/-- ObsPolarityPulse, R261 of spec/10_observer.md. -/
abbrev obsPolarityPulse (o : Nat) : Nat := key (obsBase o + 2) 12

/-- ObsPolarityMargin, R261 of spec/10_observer.md. -/
abbrev obsPolarityMargin (o : Nat) : Nat := key (obsBase o + 2) 13

/-- ObsResidualThreshold, R261 of spec/10_observer.md. -/
abbrev obsResidualThreshold (o : Nat) : Nat := key (obsBase o + 2) 14

/-- ObsResidualCount, R261 of spec/10_observer.md. -/
abbrev obsResidualCount (o : Nat) : Nat := key (obsBase o + 2) 15

/-- ObsWarmup, R261 of spec/10_observer.md. -/
abbrev obsWarmup (o : Nat) : Nat := key (obsBase o + 2) 16

/-- ObsAqrWindow, R261 of spec/10_observer.md. -/
abbrev obsAqrWindow (o : Nat) : Nat := key (obsBase o + 2) 17

/-- ObsAqrLost, R261 of spec/10_observer.md. -/
abbrev obsAqrLost (o : Nat) : Nat := key (obsBase o + 2) 18

/-- ObsReacqLimit, R261 of spec/10_observer.md. -/
abbrev obsReacqLimit (o : Nat) : Nat := key (obsBase o + 2) 19

/-- ObsReacqTolerance, R261 of spec/10_observer.md. -/
abbrev obsReacqTolerance (o : Nat) : Nat := key (obsBase o + 2) 20

/-- CommRecord, R262 of spec/10_observer.md. -/
abbrev commRecord (o : Nat) : Nat := key (obsBase o + 3) 0

/-- CommSector, R262 of spec/10_observer.md. -/
abbrev commSector (o : Nat) : Nat := key (obsBase o + 3) 1

/-- CommEventCount, R262 of spec/10_observer.md. -/
abbrev commEventCount (o : Nat) : Nat := key (obsBase o + 3) 2

/-- CommDirection, R262 of spec/10_observer.md. -/
abbrev commDirection (o : Nat) : Nat := key (obsBase o + 3) 3

/-- CommSectorHysteresis, R262 of spec/10_observer.md. -/
abbrev commSectorHysteresis (o : Nat) : Nat := key (obsBase o + 3) 4

/-- CommStallCurrent, R262 of spec/10_observer.md. -/
abbrev commStallCurrent (o : Nat) : Nat := key (obsBase o + 3) 5

/-- CommStallTime, R262 of spec/10_observer.md. -/
abbrev commStallTime (o : Nat) : Nat := key (obsBase o + 3) 6

/-- CommStallState, R262 of spec/10_observer.md. -/
abbrev commStallState (o : Nat) : Nat := key (obsBase o + 3) 7

/-- CommStallCount, R262 of spec/10_observer.md. -/
abbrev commStallCount (o : Nat) : Nat := key (obsBase o + 3) 8

/-- ReversalThreshold, R262 of spec/10_observer.md. -/
abbrev reversalThreshold (o : Nat) : Nat := key (obsBase o + 3) 9

/-- ReversalPermit, R262 of spec/10_observer.md. -/
abbrev reversalPermit (o : Nat) : Nat := key (obsBase o + 3) 10

/-- CommLastEventTime, R262 of spec/10_observer.md. -/
abbrev commLastEventTime (o : Nat) : Nat := key (obsBase o + 3) 11

/-- SafePlan, R274 of spec/11_traction.md. -/
abbrev safePlan (i : Nat) : Nat := key (0x4900 + i) 0

/-- SafePlanAction, R274 of spec/11_traction.md. -/
abbrev safePlanAction (i : Nat) : Nat := key (0x4900 + i) 1

/-- SafePlanReason, R274 of spec/11_traction.md. -/
abbrev safePlanReason (i : Nat) : Nat := key (0x4900 + i) 2

/-- SafePlanCommitTime, R274 of spec/11_traction.md. -/
abbrev safePlanCommitTime (i : Nat) : Nat := key (0x4900 + i) 3

/-- SafePlanCommitCount, R274 of spec/11_traction.md. -/
abbrev safePlanCommitCount (i : Nat) : Nat := key (0x4900 + i) 4

/-- TracAscSide, R274 of spec/11_traction.md. -/
abbrev tracAscSide (i : Nat) : Nat := key (0x4900 + i) 5

/-- TracEmfFraction, R274 of spec/11_traction.md. -/
abbrev tracEmfFraction (i : Nat) : Nat := key (0x4900 + i) 6

/-- TracEmfRelease, R274 of spec/11_traction.md. -/
abbrev tracEmfRelease (i : Nat) : Nat := key (0x4900 + i) 7

/-- SafePlanEmf, R274 of spec/11_traction.md. -/
abbrev safePlanEmf (i : Nat) : Nat := key (0x4900 + i) 8

/-- TracLink, R288 of spec/11_traction.md. -/
abbrev tracLink (i : Nat) : Nat := key (0x4910 + i) 0

/-- TracOv1, R288 of spec/11_traction.md. -/
abbrev tracOv1 (i : Nat) : Nat := key (0x4910 + i) 1

/-- TracOv2, R288 of spec/11_traction.md. -/
abbrev tracOv2 (i : Nat) : Nat := key (0x4910 + i) 2

/-- TracOv3, R288 of spec/11_traction.md. -/
abbrev tracOv3 (i : Nat) : Nat := key (0x4910 + i) 3

/-- TracUv1, R288 of spec/11_traction.md. -/
abbrev tracUv1 (i : Nat) : Nat := key (0x4910 + i) 4

/-- TracUv2, R288 of spec/11_traction.md. -/
abbrev tracUv2 (i : Nat) : Nat := key (0x4910 + i) 5

/-- TracOvHysteresis, R288 of spec/11_traction.md. -/
abbrev tracOvHysteresis (i : Nat) : Nat := key (0x4910 + i) 6

/-- TracChopperChannel, R288 of spec/11_traction.md. -/
abbrev tracChopperChannel (i : Nat) : Nat := key (0x4910 + i) 7

/-- TracChopperCheckPeriods, R288 of spec/11_traction.md. -/
abbrev tracChopperCheckPeriods (i : Nat) : Nat := key (0x4910 + i) 8

/-- TracLinkRiseRate, R288 of spec/11_traction.md. -/
abbrev tracLinkRiseRate (i : Nat) : Nat := key (0x4910 + i) 9

/-- TracBatteryDischargeLimit, R288 of spec/11_traction.md. -/
abbrev tracBatteryDischargeLimit (i : Nat) : Nat := key (0x4910 + i) 10

/-- TracBatteryChargeLimit, R288 of spec/11_traction.md. -/
abbrev tracBatteryChargeLimit (i : Nat) : Nat := key (0x4910 + i) 11

/-- TracBatteryConnected, R288 of spec/11_traction.md. -/
abbrev tracBatteryConnected (i : Nat) : Nat := key (0x4910 + i) 12

/-- TracOvStage, R288 of spec/11_traction.md. -/
abbrev tracOvStage (i : Nat) : Nat := key (0x4910 + i) 13

/-- TracChopperAvailable, R288 of spec/11_traction.md. -/
abbrev tracChopperAvailable (i : Nat) : Nat := key (0x4910 + i) 14

/-- TracOv3Effective, R288 of spec/11_traction.md. -/
abbrev tracOv3Effective (i : Nat) : Nat := key (0x4910 + i) 15

/-- TracChopperDuty, R288 of spec/11_traction.md. -/
abbrev tracChopperDuty (i : Nat) : Nat := key (0x4910 + i) 16

/-- TracConfig, R290 of spec/11_traction.md. -/
abbrev tracConfig (i : Nat) : Nat := key (0x4804 + 16 * i) 0

/-- TracEnable, R290 of spec/11_traction.md. -/
abbrev tracEnable (i : Nat) : Nat := key (0x4804 + 16 * i) 1

/-- TracTorqueMaxMotor, R290 of spec/11_traction.md. -/
abbrev tracTorqueMaxMotor (i : Nat) : Nat := key (0x4804 + 16 * i) 2

/-- TracTorqueMaxRegen, R290 of spec/11_traction.md. -/
abbrev tracTorqueMaxRegen (i : Nat) : Nat := key (0x4804 + 16 * i) 3

/-- TracCurrentLimit, R290 of spec/11_traction.md. -/
abbrev tracCurrentLimit (i : Nat) : Nat := key (0x4804 + 16 * i) 4

/-- TracTorqueSlew, R290 of spec/11_traction.md. -/
abbrev tracTorqueSlew (i : Nat) : Nat := key (0x4804 + 16 * i) 5

/-- TracPowerShare, R290 of spec/11_traction.md. -/
abbrev tracPowerShare (i : Nat) : Nat := key (0x4804 + 16 * i) 6

/-- TracPowerSpeedFloor, R290 of spec/11_traction.md. -/
abbrev tracPowerSpeedFloor (i : Nat) : Nat := key (0x4804 + 16 * i) 7

/-- TracSpeedMax, R290 of spec/11_traction.md. -/
abbrev tracSpeedMax (i : Nat) : Nat := key (0x4804 + 16 * i) 8

/-- TracSpeedBand, R290 of spec/11_traction.md. -/
abbrev tracSpeedBand (i : Nat) : Nat := key (0x4804 + 16 * i) 9

/-- TracCurrentSlot, R290 of spec/11_traction.md. -/
abbrev tracCurrentSlot (i : Nat) : Nat := key (0x4804 + 16 * i) 10

/-- TracTorqueSlot, R290 of spec/11_traction.md. -/
abbrev tracTorqueSlot (i : Nat) : Nat := key (0x4804 + 16 * i) 11

/-- TracSpeedSlot, R290 of spec/11_traction.md. -/
abbrev tracSpeedSlot (i : Nat) : Nat := key (0x4804 + 16 * i) 12

/-- TracRefBase, R290 of spec/11_traction.md. -/
abbrev tracRefBase (i : Nat) : Nat := key (0x4804 + 16 * i) 13

/-- TracTempInputs, R290 of spec/11_traction.md. -/
abbrev tracTempInputs (i : Nat) : Nat := key (0x4804 + 16 * i) 14

/-- TracDerateStart, R290 of spec/11_traction.md. -/
abbrev tracDerateStart (i : Nat) : Nat := key (0x4804 + 16 * i) 15

/-- TracDerateEnd, R290 of spec/11_traction.md. -/
abbrev tracDerateEnd (i : Nat) : Nat := key (0x4804 + 16 * i) 16

/-- TracRecoverRamp, R290 of spec/11_traction.md. -/
abbrev tracRecoverRamp (i : Nat) : Nat := key (0x4804 + 16 * i) 17

/-- TracZeroHold, R290 of spec/11_traction.md. -/
abbrev tracZeroHold (i : Nat) : Nat := key (0x4804 + 16 * i) 18

/-- TracImplausibleLimit, R290 of spec/11_traction.md. -/
abbrev tracImplausibleLimit (i : Nat) : Nat := key (0x4804 + 16 * i) 19

/-- TracStallCurrentLimit, R290 of spec/11_traction.md. -/
abbrev tracStallCurrentLimit (i : Nat) : Nat := key (0x4804 + 16 * i) 20

/-- TracStallDerateTime, R290 of spec/11_traction.md. -/
abbrev tracStallDerateTime (i : Nat) : Nat := key (0x4804 + 16 * i) 21

/-- TracRequestLossRamp, R290 of spec/11_traction.md. -/
abbrev tracRequestLossRamp (i : Nat) : Nat := key (0x4804 + 16 * i) 22

/-- TracStatus, R291 of spec/11_traction.md. -/
abbrev tracStatus (i : Nat) : Nat := key (0x4805 + 16 * i) 0

/-- TracTorqueRequest, R291 of spec/11_traction.md. -/
abbrev tracTorqueRequest (i : Nat) : Nat := key (0x4805 + 16 * i) 1

/-- TracModeRequest, R291 of spec/11_traction.md. -/
abbrev tracModeRequest (i : Nat) : Nat := key (0x4805 + 16 * i) 2

/-- TracSpeedRequest, R291 of spec/11_traction.md. -/
abbrev tracSpeedRequest (i : Nat) : Nat := key (0x4805 + 16 * i) 3

/-- TracAccelRequest, R291 of spec/11_traction.md. -/
abbrev tracAccelRequest (i : Nat) : Nat := key (0x4805 + 16 * i) 4

/-- TracTorqueSetpoint, R291 of spec/11_traction.md. -/
abbrev tracTorqueSetpoint (i : Nat) : Nat := key (0x4805 + 16 * i) 5

/-- TracTorqueUpper, R291 of spec/11_traction.md. -/
abbrev tracTorqueUpper (i : Nat) : Nat := key (0x4805 + 16 * i) 6

/-- TracTorqueLower, R291 of spec/11_traction.md. -/
abbrev tracTorqueLower (i : Nat) : Nat := key (0x4805 + 16 * i) 7

/-- TracCurrentLimitNow, R291 of spec/11_traction.md. -/
abbrev tracCurrentLimitNow (i : Nat) : Nat := key (0x4805 + 16 * i) 8

/-- TracActiveLimiter, R291 of spec/11_traction.md. -/
abbrev tracActiveLimiter (i : Nat) : Nat := key (0x4805 + 16 * i) 9

/-- TracControlMode, R291 of spec/11_traction.md. -/
abbrev tracControlMode (i : Nat) : Nat := key (0x4805 + 16 * i) 10

/-- TracDegradeFactor, R291 of spec/11_traction.md. -/
abbrev tracDegradeFactor (i : Nat) : Nat := key (0x4805 + 16 * i) 11

/-- TracDegrade, R291 of spec/11_traction.md. -/
abbrev tracDegrade (i : Nat) : Nat := key (0x4806 + 16 * i) 0

/-- TracSumThreshold, R291 of spec/11_traction.md. -/
abbrev tracSumThreshold (i : Nat) : Nat := key (0x4806 + 16 * i) 1

/-- TracSumCount, R291 of spec/11_traction.md. -/
abbrev tracSumCount (i : Nat) : Nat := key (0x4806 + 16 * i) 2

/-- TracOpenPhaseCurrent, R291 of spec/11_traction.md. -/
abbrev tracOpenPhaseCurrent (i : Nat) : Nat := key (0x4806 + 16 * i) 3

/-- TracOpenPhaseRatio, R291 of spec/11_traction.md. -/
abbrev tracOpenPhaseRatio (i : Nat) : Nat := key (0x4806 + 16 * i) 4

/-- TracOpenPhaseMinFreq, R291 of spec/11_traction.md. -/
abbrev tracOpenPhaseMinFreq (i : Nat) : Nat := key (0x4806 + 16 * i) 5

/-- TracSensorLimit, R291 of spec/11_traction.md. -/
abbrev tracSensorLimit (i : Nat) : Nat := key (0x4806 + 16 * i) 6

/-- TracOpenSetLimit, R291 of spec/11_traction.md. -/
abbrev tracOpenSetLimit (i : Nat) : Nat := key (0x4806 + 16 * i) 7

/-- TracReconstructed, R291 of spec/11_traction.md. -/
abbrev tracReconstructed (i : Nat) : Nat := key (0x4806 + 16 * i) 8

/-- TracDroppedSet, R291 of spec/11_traction.md. -/
abbrev tracDroppedSet (i : Nat) : Nat := key (0x4806 + 16 * i) 9

/-- TracLimpCause, R291 of spec/11_traction.md. -/
abbrev tracLimpCause (i : Nat) : Nat := key (0x4806 + 16 * i) 10

/-- TracSumResidualPeak, R291 of spec/11_traction.md. -/
abbrev tracSumResidualPeak (i : Nat) : Nat := key (0x4806 + 16 * i) 11

/-- TracLimpCount, R291 of spec/11_traction.md. -/
abbrev tracLimpCount (i : Nat) : Nat := key (0x4806 + 16 * i) 12

/-- WcConfig, R310 of spec/12_winding_charging.md. -/
abbrev wcConfig : Nat := key 0x5800 0

/-- WcEnable, R310 of spec/12_winding_charging.md. -/
abbrev wcEnable : Nat := key 0x5800 1

/-- WcMachine, R310 of spec/12_winding_charging.md. -/
abbrev wcMachine : Nat := key 0x5800 2

/-- WcSet, R310 of spec/12_winding_charging.md. -/
abbrev wcSet : Nat := key 0x5800 3

/-- WcBoostSets, R310 of spec/12_winding_charging.md. -/
abbrev wcBoostSets : Nat := key 0x5800 4

/-- WcGridTimebase, R310 of spec/12_winding_charging.md. -/
abbrev wcGridTimebase : Nat := key 0x5800 5

/-- WcStarContactor, R310 of spec/12_winding_charging.md. -/
abbrev wcStarContactor : Nat := key 0x5800 6

/-- WcGridContactor, R310 of spec/12_winding_charging.md. -/
abbrev wcGridContactor : Nat := key 0x5800 7

/-- WcBoostContactor, R310 of spec/12_winding_charging.md. -/
abbrev wcBoostContactor : Nat := key 0x5800 8

/-- WcContactorTime, R310 of spec/12_winding_charging.md. -/
abbrev wcContactorTime : Nat := key 0x5800 9

/-- WcParkLockActuator, R310 of spec/12_winding_charging.md. -/
abbrev wcParkLockActuator : Nat := key 0x5800 10

/-- WcExportEnable, R310 of spec/12_winding_charging.md. -/
abbrev wcExportEnable : Nat := key 0x5800 11

/-- WcPowerMaxImport, R310 of spec/12_winding_charging.md. -/
abbrev wcPowerMaxImport : Nat := key 0x5800 12

/-- WcPowerMaxExport, R310 of spec/12_winding_charging.md. -/
abbrev wcPowerMaxExport : Nat := key 0x5800 13

/-- WcApparentMax, R310 of spec/12_winding_charging.md. -/
abbrev wcApparentMax : Nat := key 0x5800 14

/-- WcCurrentMaxPhase, R310 of spec/12_winding_charging.md. -/
abbrev wcCurrentMaxPhase : Nat := key 0x5800 15

/-- WcRampRate, R310 of spec/12_winding_charging.md. -/
abbrev wcRampRate : Nat := key 0x5800 16

/-- WcLinkMargin, R310 of spec/12_winding_charging.md. -/
abbrev wcLinkMargin : Nat := key 0x5800 17

/-- WcSyncTime, R310 of spec/12_winding_charging.md. -/
abbrev wcSyncTime : Nat := key 0x5800 18

/-- WcEfficiency, R310 of spec/12_winding_charging.md. -/
abbrev wcEfficiency : Nat := key 0x5800 19

/-- WcBoostEnable, R310 of spec/12_winding_charging.md. -/
abbrev wcBoostEnable : Nat := key 0x5800 20

/-- WcBoostMargin, R310 of spec/12_winding_charging.md. -/
abbrev wcBoostMargin : Nat := key 0x5800 21

/-- WcBoostCurrentMax, R310 of spec/12_winding_charging.md. -/
abbrev wcBoostCurrentMax : Nat := key 0x5800 22

/-- WcBoostImbalance, R310 of spec/12_winding_charging.md. -/
abbrev wcBoostImbalance : Nat := key 0x5800 23

/-- WcExportFloorVoltage, R310 of spec/12_winding_charging.md. -/
abbrev wcExportFloorVoltage : Nat := key 0x5800 24

/-- WcLossFraction, R310 of spec/12_winding_charging.md. -/
abbrev wcLossFraction : Nat := key 0x5800 25

/-- WcLossMinCurrent, R310 of spec/12_winding_charging.md. -/
abbrev wcLossMinCurrent : Nat := key 0x5800 26

/-- WcLossCount, R310 of spec/12_winding_charging.md. -/
abbrev wcLossCount : Nat := key 0x5800 27

/-- WcLawSlot, R310 of spec/12_winding_charging.md. -/
abbrev wcLawSlot : Nat := key 0x5800 28

/-- WcStatus, R310 of spec/12_winding_charging.md. -/
abbrev wcStatus : Nat := key 0x5801 0

/-- WcPowerRequest, R310 of spec/12_winding_charging.md. -/
abbrev wcPowerRequest : Nat := key 0x5801 1

/-- WcReactiveRequest, R310 of spec/12_winding_charging.md. -/
abbrev wcReactiveRequest : Nat := key 0x5801 2

/-- WcSupplyCurrentLimit, R310 of spec/12_winding_charging.md. -/
abbrev wcSupplyCurrentLimit : Nat := key 0x5801 3

/-- WcExportAgreed, R310 of spec/12_winding_charging.md. -/
abbrev wcExportAgreed : Nat := key 0x5801 4

/-- WcState, R310 of spec/12_winding_charging.md. -/
abbrev wcState : Nat := key 0x5801 5

/-- WcTopology, R310 of spec/12_winding_charging.md. -/
abbrev wcTopology : Nat := key 0x5801 6

/-- WcExportAvailable, R310 of spec/12_winding_charging.md. -/
abbrev wcExportAvailable : Nat := key 0x5801 7

/-- WcPowerSetpoint, R310 of spec/12_winding_charging.md. -/
abbrev wcPowerSetpoint : Nat := key 0x5801 8

/-- WcPower, R310 of spec/12_winding_charging.md. -/
abbrev wcPower : Nat := key 0x5801 9

/-- WcGridVoltage, R310 of spec/12_winding_charging.md. -/
abbrev wcGridVoltage : Nat := key 0x5801 10

/-- WcGridFrequency, R310 of spec/12_winding_charging.md. -/
abbrev wcGridFrequency : Nat := key 0x5801 11

/-- WcActiveLimiter, R310 of spec/12_winding_charging.md. -/
abbrev wcActiveLimiter : Nat := key 0x5801 12

/-- WcTripCause, R310 of spec/12_winding_charging.md. -/
abbrev wcTripCause : Nat := key 0x5801 13

/-- WcTripCount, R310 of spec/12_winding_charging.md. -/
abbrev wcTripCount : Nat := key 0x5801 14

/-- WcReconnectRemaining, R310 of spec/12_winding_charging.md. -/
abbrev wcReconnectRemaining : Nat := key 0x5801 15

/-- WcLossTime, R310 of spec/12_winding_charging.md. -/
abbrev wcLossTime : Nat := key 0x5801 16

/-- WcTrip, R310 of spec/12_winding_charging.md. -/
abbrev wcTrip : Nat := key 0x5802 0

/-- WcGridNominal, R310 of spec/12_winding_charging.md. -/
abbrev wcGridNominal : Nat := key 0x5802 1

/-- WcOvFastLevel, R310 of spec/12_winding_charging.md. -/
abbrev wcOvFastLevel : Nat := key 0x5802 2

/-- WcOvFastTime, R310 of spec/12_winding_charging.md. -/
abbrev wcOvFastTime : Nat := key 0x5802 3

/-- WcOvSlowLevel, R310 of spec/12_winding_charging.md. -/
abbrev wcOvSlowLevel : Nat := key 0x5802 4

/-- WcOvSlowTime, R310 of spec/12_winding_charging.md. -/
abbrev wcOvSlowTime : Nat := key 0x5802 5

/-- WcUvLevel, R310 of spec/12_winding_charging.md. -/
abbrev wcUvLevel : Nat := key 0x5802 6

/-- WcUvTime, R310 of spec/12_winding_charging.md. -/
abbrev wcUvTime : Nat := key 0x5802 7

/-- WcUfLevel, R310 of spec/12_winding_charging.md. -/
abbrev wcUfLevel : Nat := key 0x5802 8

/-- WcUfTime, R310 of spec/12_winding_charging.md. -/
abbrev wcUfTime : Nat := key 0x5802 9

/-- WcOfLevel, R310 of spec/12_winding_charging.md. -/
abbrev wcOfLevel : Nat := key 0x5802 10

/-- WcOfTime, R310 of spec/12_winding_charging.md. -/
abbrev wcOfTime : Nat := key 0x5802 11

/-- WcRocofLevel, R310 of spec/12_winding_charging.md. -/
abbrev wcRocofLevel : Nat := key 0x5802 12

/-- WcRocofTime, R310 of spec/12_winding_charging.md. -/
abbrev wcRocofTime : Nat := key 0x5802 13

/-- WcPhaseJumpLevel, R310 of spec/12_winding_charging.md. -/
abbrev wcPhaseJumpLevel : Nat := key 0x5802 14

/-- WcDcLevel, R310 of spec/12_winding_charging.md. -/
abbrev wcDcLevel : Nat := key 0x5802 15

/-- WcDcTime, R310 of spec/12_winding_charging.md. -/
abbrev wcDcTime : Nat := key 0x5802 16

/-- WcReconnectDelay, R310 of spec/12_winding_charging.md. -/
abbrev wcReconnectDelay : Nat := key 0x5802 17

/-- WcReconnectRamp, R310 of spec/12_winding_charging.md. -/
abbrev wcReconnectRamp : Nat := key 0x5802 18

/-- WcReconnectVmin, R310 of spec/12_winding_charging.md. -/
abbrev wcReconnectVmin : Nat := key 0x5802 19

/-- WcReconnectVmax, R310 of spec/12_winding_charging.md. -/
abbrev wcReconnectVmax : Nat := key 0x5802 20

/-- WcReconnectFmin, R310 of spec/12_winding_charging.md. -/
abbrev wcReconnectFmin : Nat := key 0x5802 21

/-- WcReconnectFmax, R310 of spec/12_winding_charging.md. -/
abbrev wcReconnectFmax : Nat := key 0x5802 22

/-- WcTripMax, R310 of spec/12_winding_charging.md. -/
abbrev wcTripMax : Nat := key 0x5802 23

/-- WcTripWindow, R310 of spec/12_winding_charging.md. -/
abbrev wcTripWindow : Nat := key 0x5802 24

/-- CpConfig, R311 of spec/12_winding_charging.md. -/
abbrev cpConfig (i : Nat) : Nat := key (0x5100 + 16 * i) 0

/-- CpEnable, R311 of spec/12_winding_charging.md. -/
abbrev cpEnable (i : Nat) : Nat := key (0x5100 + 16 * i) 1

/-- CpVoltageInput, R311 of spec/12_winding_charging.md. -/
abbrev cpVoltageInput (i : Nat) : Nat := key (0x5100 + 16 * i) 2

/-- CpCurrentInput, R311 of spec/12_winding_charging.md. -/
abbrev cpCurrentInput (i : Nat) : Nat := key (0x5100 + 16 * i) 3

/-- CpTrickleVoltage, R311 of spec/12_winding_charging.md. -/
abbrev cpTrickleVoltage (i : Nat) : Nat := key (0x5100 + 16 * i) 4

/-- CpTrickleCurrent, R311 of spec/12_winding_charging.md. -/
abbrev cpTrickleCurrent (i : Nat) : Nat := key (0x5100 + 16 * i) 5

/-- CpPrechargeVoltage, R311 of spec/12_winding_charging.md. -/
abbrev cpPrechargeVoltage (i : Nat) : Nat := key (0x5100 + 16 * i) 6

/-- CpPrechargeCurrent, R311 of spec/12_winding_charging.md. -/
abbrev cpPrechargeCurrent (i : Nat) : Nat := key (0x5100 + 16 * i) 7

/-- CpCcCurrent, R311 of spec/12_winding_charging.md. -/
abbrev cpCcCurrent (i : Nat) : Nat := key (0x5100 + 16 * i) 8

/-- CpCvVoltage, R311 of spec/12_winding_charging.md. -/
abbrev cpCvVoltage (i : Nat) : Nat := key (0x5100 + 16 * i) 9

/-- CpCvHysteresis, R311 of spec/12_winding_charging.md. -/
abbrev cpCvHysteresis (i : Nat) : Nat := key (0x5100 + 16 * i) 10

/-- CpCvGain, R311 of spec/12_winding_charging.md. -/
abbrev cpCvGain (i : Nat) : Nat := key (0x5100 + 16 * i) 11

/-- CpTermCurrent, R311 of spec/12_winding_charging.md. -/
abbrev cpTermCurrent (i : Nat) : Nat := key (0x5100 + 16 * i) 12

/-- CpTermTime, R311 of spec/12_winding_charging.md. -/
abbrev cpTermTime (i : Nat) : Nat := key (0x5100 + 16 * i) 13

/-- CpRechargeDrop, R311 of spec/12_winding_charging.md. -/
abbrev cpRechargeDrop (i : Nat) : Nat := key (0x5100 + 16 * i) 14

/-- CpTimerTrickle, R311 of spec/12_winding_charging.md. -/
abbrev cpTimerTrickle (i : Nat) : Nat := key (0x5100 + 16 * i) 15

/-- CpTimerPrecharge, R311 of spec/12_winding_charging.md. -/
abbrev cpTimerPrecharge (i : Nat) : Nat := key (0x5100 + 16 * i) 16

/-- CpTimerCc, R311 of spec/12_winding_charging.md. -/
abbrev cpTimerCc (i : Nat) : Nat := key (0x5100 + 16 * i) 17

/-- CpTimerCv, R311 of spec/12_winding_charging.md. -/
abbrev cpTimerCv (i : Nat) : Nat := key (0x5100 + 16 * i) 18

/-- CpLimitTimeout, R311 of spec/12_winding_charging.md. -/
abbrev cpLimitTimeout (i : Nat) : Nat := key (0x5100 + 16 * i) 19

/-- CpStatus, R311 of spec/12_winding_charging.md. -/
abbrev cpStatus (i : Nat) : Nat := key (0x5101 + 16 * i) 0

/-- CpPhase, R311 of spec/12_winding_charging.md. -/
abbrev cpPhase (i : Nat) : Nat := key (0x5101 + 16 * i) 1

/-- CpCurrentRef, R311 of spec/12_winding_charging.md. -/
abbrev cpCurrentRef (i : Nat) : Nat := key (0x5101 + 16 * i) 2

/-- CpBatteryVoltage, R311 of spec/12_winding_charging.md. -/
abbrev cpBatteryVoltage (i : Nat) : Nat := key (0x5101 + 16 * i) 3

/-- CpBatteryCurrent, R311 of spec/12_winding_charging.md. -/
abbrev cpBatteryCurrent (i : Nat) : Nat := key (0x5101 + 16 * i) 4

/-- CpTempWindow, R311 of spec/12_winding_charging.md. -/
abbrev cpTempWindow (i : Nat) : Nat := key (0x5101 + 16 * i) 5

/-- CpPhaseEquivalent, R311 of spec/12_winding_charging.md. -/
abbrev cpPhaseEquivalent (i : Nat) : Nat := key (0x5101 + 16 * i) 6

/-- CpPhaseElapsed, R311 of spec/12_winding_charging.md. -/
abbrev cpPhaseElapsed (i : Nat) : Nat := key (0x5101 + 16 * i) 7

/-- CpBmsCurrentLimit, R311 of spec/12_winding_charging.md. -/
abbrev cpBmsCurrentLimit (i : Nat) : Nat := key (0x5101 + 16 * i) 8

/-- CpBmsVoltageLimit, R311 of spec/12_winding_charging.md. -/
abbrev cpBmsVoltageLimit (i : Nat) : Nat := key (0x5101 + 16 * i) 9

/-- CpBmsTemperature, R311 of spec/12_winding_charging.md. -/
abbrev cpBmsTemperature (i : Nat) : Nat := key (0x5101 + 16 * i) 10

/-- CpBmsChargeEnable, R311 of spec/12_winding_charging.md. -/
abbrev cpBmsChargeEnable (i : Nat) : Nat := key (0x5101 + 16 * i) 11

/-- CpTermCause, R311 of spec/12_winding_charging.md. -/
abbrev cpTermCause (i : Nat) : Nat := key (0x5101 + 16 * i) 12

/-- CpCvTarget, R311 of spec/12_winding_charging.md. -/
abbrev cpCvTarget (i : Nat) : Nat := key (0x5101 + 16 * i) 13

/-- CpWindows, R311 of spec/12_winding_charging.md. -/
abbrev cpWindows (i : Nat) : Nat := key (0x5102 + 16 * i) 0

/-- CpTempInput, R311 of spec/12_winding_charging.md. -/
abbrev cpTempInput (i : Nat) : Nat := key (0x5102 + 16 * i) 1

/-- CpTempT1, R311 of spec/12_winding_charging.md. -/
abbrev cpTempT1 (i : Nat) : Nat := key (0x5102 + 16 * i) 2

/-- CpTempT2, R311 of spec/12_winding_charging.md. -/
abbrev cpTempT2 (i : Nat) : Nat := key (0x5102 + 16 * i) 3

/-- CpTempT3, R311 of spec/12_winding_charging.md. -/
abbrev cpTempT3 (i : Nat) : Nat := key (0x5102 + 16 * i) 4

/-- CpTempT4, R311 of spec/12_winding_charging.md. -/
abbrev cpTempT4 (i : Nat) : Nat := key (0x5102 + 16 * i) 5

/-- CpFactorCold, R311 of spec/12_winding_charging.md. -/
abbrev cpFactorCold (i : Nat) : Nat := key (0x5102 + 16 * i) 6

/-- CpFactorCool, R311 of spec/12_winding_charging.md. -/
abbrev cpFactorCool (i : Nat) : Nat := key (0x5102 + 16 * i) 7

/-- CpFactorNormal, R311 of spec/12_winding_charging.md. -/
abbrev cpFactorNormal (i : Nat) : Nat := key (0x5102 + 16 * i) 8

/-- CpFactorWarm, R311 of spec/12_winding_charging.md. -/
abbrev cpFactorWarm (i : Nat) : Nat := key (0x5102 + 16 * i) 9

/-- CpFactorHot, R311 of spec/12_winding_charging.md. -/
abbrev cpFactorHot (i : Nat) : Nat := key (0x5102 + 16 * i) 10

/-- CpWarmVoltageDrop, R311 of spec/12_winding_charging.md. -/
abbrev cpWarmVoltageDrop (i : Nat) : Nat := key (0x5102 + 16 * i) 11

/-- CpTempHysteresis, R311 of spec/12_winding_charging.md. -/
abbrev cpTempHysteresis (i : Nat) : Nat := key (0x5102 + 16 * i) 12

/-- LampRecord, R330 of spec/13_lv_converter_actuators.md. -/
abbrev lampRecord (i : Nat) : Nat := key (0x5180 + i) 0

/-- LampSource, R330 of spec/13_lv_converter_actuators.md. -/
abbrev lampSource (i : Nat) : Nat := key (0x5180 + i) 1

/-- LampMap, R330 of spec/13_lv_converter_actuators.md. -/
abbrev lampMap (i : Nat) : Nat := key (0x5180 + i) 2

/-- LampSoftwarePattern, R330 of spec/13_lv_converter_actuators.md. -/
abbrev lampSoftwarePattern (i : Nat) : Nat := key (0x5180 + i) 3

/-- LampPattern, R330 of spec/13_lv_converter_actuators.md. -/
abbrev lampPattern (i : Nat) : Nat := key (0x5180 + i) 4

/-- LvConfig, R331 of spec/13_lv_converter_actuators.md. -/
abbrev lvConfig : Nat := key 0x5000 0

/-- LvIsoChannels, R331 of spec/13_lv_converter_actuators.md. -/
abbrev lvIsoChannels : Nat := key 0x5000 1

/-- LvIsoTimebase, R331 of spec/13_lv_converter_actuators.md. -/
abbrev lvIsoTimebase : Nat := key 0x5000 2

/-- LvIsoRatio, R331 of spec/13_lv_converter_actuators.md. -/
abbrev lvIsoRatio : Nat := key 0x5000 3

/-- LvIsoSoftStart, R331 of spec/13_lv_converter_actuators.md. -/
abbrev lvIsoSoftStart : Nat := key 0x5000 4

/-- LvIsoTolerance, R331 of spec/13_lv_converter_actuators.md. -/
abbrev lvIsoTolerance : Nat := key 0x5000 5

/-- LvPhaseMap, R331 of spec/13_lv_converter_actuators.md. -/
abbrev lvPhaseMap : Nat := key 0x5000 6

/-- LvHvInput, R331 of spec/13_lv_converter_actuators.md. -/
abbrev lvHvInput : Nat := key 0x5000 7

/-- LvIntSense, R331 of spec/13_lv_converter_actuators.md. -/
abbrev lvIntSense : Nat := key 0x5000 8

/-- LvOutSense, R331 of spec/13_lv_converter_actuators.md. -/
abbrev lvOutSense : Nat := key 0x5000 9

/-- LvTempInput, R331 of spec/13_lv_converter_actuators.md. -/
abbrev lvTempInput : Nat := key 0x5000 10

/-- LvLawSlot, R331 of spec/13_lv_converter_actuators.md. -/
abbrev lvLawSlot : Nat := key 0x5000 11

/-- LvPhaseFrequency, R331 of spec/13_lv_converter_actuators.md. -/
abbrev lvPhaseFrequency : Nat := key 0x5000 12

/-- LvInductance, R331 of spec/13_lv_converter_actuators.md. -/
abbrev lvInductance : Nat := key 0x5000 13

/-- LvRippleGain, R331 of spec/13_lv_converter_actuators.md. -/
abbrev lvRippleGain : Nat := key 0x5000 14

/-- LvBalanceGain, R331 of spec/13_lv_converter_actuators.md. -/
abbrev lvBalanceGain : Nat := key 0x5000 15

/-- LvBalanceMinCurrent, R331 of spec/13_lv_converter_actuators.md. -/
abbrev lvBalanceMinCurrent : Nat := key 0x5000 16

/-- LvValleyLimit, R331 of spec/13_lv_converter_actuators.md. -/
abbrev lvValleyLimit : Nat := key 0x5000 17

/-- LvCurrentLimit, R331 of spec/13_lv_converter_actuators.md. -/
abbrev lvCurrentLimit : Nat := key 0x5000 18

/-- LvHiccupCycles, R331 of spec/13_lv_converter_actuators.md. -/
abbrev lvHiccupCycles : Nat := key 0x5000 19

/-- LvHiccupTime, R331 of spec/13_lv_converter_actuators.md. -/
abbrev lvHiccupTime : Nat := key 0x5000 20

/-- LvPhaseSoftStart, R331 of spec/13_lv_converter_actuators.md. -/
abbrev lvPhaseSoftStart : Nat := key 0x5000 21

/-- LvHiccupMax, R331 of spec/13_lv_converter_actuators.md. -/
abbrev lvHiccupMax : Nat := key 0x5000 22

/-- LvBurstCurrent, R331 of spec/13_lv_converter_actuators.md. -/
abbrev lvBurstCurrent : Nat := key 0x5000 23

/-- LvBurstBand, R331 of spec/13_lv_converter_actuators.md. -/
abbrev lvBurstBand : Nat := key 0x5000 24

/-- LvShedCurrent, R331 of spec/13_lv_converter_actuators.md. -/
abbrev lvShedCurrent : Nat := key 0x5000 25

/-- LvShedHysteresis, R331 of spec/13_lv_converter_actuators.md. -/
abbrev lvShedHysteresis : Nat := key 0x5000 26

/-- LvShedTime, R331 of spec/13_lv_converter_actuators.md. -/
abbrev lvShedTime : Nat := key 0x5000 27

/-- LvReleaseLevel, R331 of spec/13_lv_converter_actuators.md. -/
abbrev lvReleaseLevel : Nat := key 0x5000 28

/-- LvVoltageTarget, R331 of spec/13_lv_converter_actuators.md. -/
abbrev lvVoltageTarget : Nat := key 0x5000 29

/-- LvFloatVoltage, R331 of spec/13_lv_converter_actuators.md. -/
abbrev lvFloatVoltage : Nat := key 0x5000 30

/-- LvOutputMin, R331 of spec/13_lv_converter_actuators.md. -/
abbrev lvOutputMin : Nat := key 0x5000 31

/-- LvSlewRate, R331 of spec/13_lv_converter_actuators.md. -/
abbrev lvSlewRate : Nat := key 0x5000 32

/-- LvSoftStartRate, R331 of spec/13_lv_converter_actuators.md. -/
abbrev lvSoftStartRate : Nat := key 0x5000 33

/-- LvStartLimit, R331 of spec/13_lv_converter_actuators.md. -/
abbrev lvStartLimit : Nat := key 0x5000 34

/-- LvOutputMax, R331 of spec/13_lv_converter_actuators.md. -/
abbrev lvOutputMax : Nat := key 0x5000 35

/-- LvStatus, R332 of spec/13_lv_converter_actuators.md. -/
abbrev lvStatus : Nat := key 0x5001 0

/-- LvRunRequest, R332 of spec/13_lv_converter_actuators.md. -/
abbrev lvRunRequest : Nat := key 0x5001 1

/-- LvState, R332 of spec/13_lv_converter_actuators.md. -/
abbrev lvState : Nat := key 0x5001 2

/-- LvReference, R332 of spec/13_lv_converter_actuators.md. -/
abbrev lvReference : Nat := key 0x5001 3

/-- LvActivePhases, R332 of spec/13_lv_converter_actuators.md. -/
abbrev lvActivePhases : Nat := key 0x5001 4

/-- LvHiccupPhases, R332 of spec/13_lv_converter_actuators.md. -/
abbrev lvHiccupPhases : Nat := key 0x5001 5

/-- LvHiccupCount, R332 of spec/13_lv_converter_actuators.md. -/
abbrev lvHiccupCount : Nat := key 0x5001 6

/-- LvReleaseCount, R332 of spec/13_lv_converter_actuators.md. -/
abbrev lvReleaseCount : Nat := key 0x5001 7

/-- LvAuxState, R332 of spec/13_lv_converter_actuators.md. -/
abbrev lvAuxState : Nat := key 0x5001 8

/-- LvAuxRearm, R332 of spec/13_lv_converter_actuators.md. -/
abbrev lvAuxRearm : Nat := key 0x5001 9

/-- LvFoldbackFactor, R332 of spec/13_lv_converter_actuators.md. -/
abbrev lvFoldbackFactor : Nat := key 0x5001 10

/-- LvTelemetry, R332 of spec/13_lv_converter_actuators.md. -/
abbrev lvTelemetry : Nat := key 0x5002 0

/-- LvMean, R332 of spec/13_lv_converter_actuators.md. -/
abbrev lvMean (k : Nat) : Nat := key 0x5002 (1 + k)

/-- LvPeak, R332 of spec/13_lv_converter_actuators.md. -/
abbrev lvPeak (k : Nat) : Nat := key 0x5002 (13 + k)

/-- GaConfig, R339 of spec/13_lv_converter_actuators.md. -/
abbrev gaConfig (i : Nat) : Nat := key (0x5204 + 16 * i) 0

/-- GaEnable, R339 of spec/13_lv_converter_actuators.md. -/
abbrev gaEnable (i : Nat) : Nat := key (0x5204 + 16 * i) 1

/-- GaKind, R339 of spec/13_lv_converter_actuators.md. -/
abbrev gaKind (i : Nat) : Nat := key (0x5204 + 16 * i) 2

/-- GaLawSlot, R339 of spec/13_lv_converter_actuators.md. -/
abbrev gaLawSlot (i : Nat) : Nat := key (0x5204 + 16 * i) 3

/-- GaTimebase, R339 of spec/13_lv_converter_actuators.md. -/
abbrev gaTimebase (i : Nat) : Nat := key (0x5204 + 16 * i) 4

/-- GaSpeedMax, R339 of spec/13_lv_converter_actuators.md. -/
abbrev gaSpeedMax (i : Nat) : Nat := key (0x5204 + 16 * i) 5

/-- GaMoveCurrent, R339 of spec/13_lv_converter_actuators.md. -/
abbrev gaMoveCurrent (i : Nat) : Nat := key (0x5204 + 16 * i) 6

/-- GaEngageCurrent, R339 of spec/13_lv_converter_actuators.md. -/
abbrev gaEngageCurrent (i : Nat) : Nat := key (0x5204 + 16 * i) 7

/-- GaHomeCurrent, R339 of spec/13_lv_converter_actuators.md. -/
abbrev gaHomeCurrent (i : Nat) : Nat := key (0x5204 + 16 * i) 8

/-- GaArriveTolerance, R339 of spec/13_lv_converter_actuators.md. -/
abbrev gaArriveTolerance (i : Nat) : Nat := key (0x5204 + 16 * i) 9

/-- GaSettleTime, R339 of spec/13_lv_converter_actuators.md. -/
abbrev gaSettleTime (i : Nat) : Nat := key (0x5204 + 16 * i) 10

/-- GaMoveTimeout, R339 of spec/13_lv_converter_actuators.md. -/
abbrev gaMoveTimeout (i : Nat) : Nat := key (0x5204 + 16 * i) 11

/-- GaHomeTravel, R339 of spec/13_lv_converter_actuators.md. -/
abbrev gaHomeTravel (i : Nat) : Nat := key (0x5204 + 16 * i) 12

/-- GaShiftMachine, R339 of spec/13_lv_converter_actuators.md. -/
abbrev gaShiftMachine (i : Nat) : Nat := key (0x5204 + 16 * i) 13

/-- GaTorqueRelease, R339 of spec/13_lv_converter_actuators.md. -/
abbrev gaTorqueRelease (i : Nat) : Nat := key (0x5204 + 16 * i) 14

/-- GaReleaseTimeout, R339 of spec/13_lv_converter_actuators.md. -/
abbrev gaReleaseTimeout (i : Nat) : Nat := key (0x5204 + 16 * i) 15

/-- GaSyncTimeout, R339 of spec/13_lv_converter_actuators.md. -/
abbrev gaSyncTimeout (i : Nat) : Nat := key (0x5204 + 16 * i) 16

/-- GaParkMaxSpeed, R339 of spec/13_lv_converter_actuators.md. -/
abbrev gaParkMaxSpeed (i : Nat) : Nat := key (0x5204 + 16 * i) 17

/-- GaStatus, R339 of spec/13_lv_converter_actuators.md. -/
abbrev gaStatus (i : Nat) : Nat := key (0x5205 + 16 * i) 0

/-- GaRequest, R339 of spec/13_lv_converter_actuators.md. -/
abbrev gaRequest (i : Nat) : Nat := key (0x5205 + 16 * i) 1

/-- GaRequestResult, R339 of spec/13_lv_converter_actuators.md. -/
abbrev gaRequestResult (i : Nat) : Nat := key (0x5205 + 16 * i) 2

/-- GaState, R339 of spec/13_lv_converter_actuators.md. -/
abbrev gaState (i : Nat) : Nat := key (0x5205 + 16 * i) 3

/-- GaPosition, R339 of spec/13_lv_converter_actuators.md. -/
abbrev gaPosition (i : Nat) : Nat := key (0x5205 + 16 * i) 4

/-- GaPositionIndex, R339 of spec/13_lv_converter_actuators.md. -/
abbrev gaPositionIndex (i : Nat) : Nat := key (0x5205 + 16 * i) 5

/-- GaHomed, R339 of spec/13_lv_converter_actuators.md. -/
abbrev gaHomed (i : Nat) : Nat := key (0x5205 + 16 * i) 6

/-- GaParkEngaged, R339 of spec/13_lv_converter_actuators.md. -/
abbrev gaParkEngaged (i : Nat) : Nat := key (0x5205 + 16 * i) 7

/-- GaSyncPermit, R339 of spec/13_lv_converter_actuators.md. -/
abbrev gaSyncPermit (i : Nat) : Nat := key (0x5205 + 16 * i) 8

/-- GaShiftCount, R339 of spec/13_lv_converter_actuators.md. -/
abbrev gaShiftCount (i : Nat) : Nat := key (0x5205 + 16 * i) 9

/-- GaLastShiftTime, R339 of spec/13_lv_converter_actuators.md. -/
abbrev gaLastShiftTime (i : Nat) : Nat := key (0x5205 + 16 * i) 10

/-- GaLastStopPosition, R339 of spec/13_lv_converter_actuators.md. -/
abbrev gaLastStopPosition (i : Nat) : Nat := key (0x5205 + 16 * i) 11

/-- GaPositions, R339 of spec/13_lv_converter_actuators.md. -/
abbrev gaPositions (i : Nat) : Nat := key (0x5206 + 16 * i) 0

/-- GaPosValue0, R339 of spec/13_lv_converter_actuators.md. -/
abbrev gaPosValue0 (i : Nat) : Nat := key (0x5206 + 16 * i) 1

/-- GaPosValue1, R339 of spec/13_lv_converter_actuators.md. -/
abbrev gaPosValue1 (i : Nat) : Nat := key (0x5206 + 16 * i) 2

/-- GaPosValue2, R339 of spec/13_lv_converter_actuators.md. -/
abbrev gaPosValue2 (i : Nat) : Nat := key (0x5206 + 16 * i) 3

/-- GaPosValue3, R339 of spec/13_lv_converter_actuators.md. -/
abbrev gaPosValue3 (i : Nat) : Nat := key (0x5206 + 16 * i) 4

/-- GaPosValue4, R339 of spec/13_lv_converter_actuators.md. -/
abbrev gaPosValue4 (i : Nat) : Nat := key (0x5206 + 16 * i) 5

/-- GaPosValue5, R339 of spec/13_lv_converter_actuators.md. -/
abbrev gaPosValue5 (i : Nat) : Nat := key (0x5206 + 16 * i) 6

/-- GaPosValue6, R339 of spec/13_lv_converter_actuators.md. -/
abbrev gaPosValue6 (i : Nat) : Nat := key (0x5206 + 16 * i) 7

/-- GaPosValue7, R339 of spec/13_lv_converter_actuators.md. -/
abbrev gaPosValue7 (i : Nat) : Nat := key (0x5206 + 16 * i) 8

/-- GaStopMap, R339 of spec/13_lv_converter_actuators.md. -/
abbrev gaStopMap (i : Nat) : Nat := key (0x5206 + 16 * i) 9

/-- GaHomeIndex, R339 of spec/13_lv_converter_actuators.md. -/
abbrev gaHomeIndex (i : Nat) : Nat := key (0x5206 + 16 * i) 10

/-- GaWindow, R339 of spec/13_lv_converter_actuators.md. -/
abbrev gaWindow (i : Nat) : Nat := key (0x5206 + 16 * i) 11

/-- GaNeutralIndex, R339 of spec/13_lv_converter_actuators.md. -/
abbrev gaNeutralIndex (i : Nat) : Nat := key (0x5206 + 16 * i) 12

/-- GaEngagedIndex, R339 of spec/13_lv_converter_actuators.md. -/
abbrev gaEngagedIndex (i : Nat) : Nat := key (0x5206 + 16 * i) 13

/-- LkVehConfig, R363 of spec/14_charging_link.md. -/
abbrev lkVehConfig : Nat := key 0x6000 0

/-- LkEnable, R363 of spec/14_charging_link.md. -/
abbrev lkEnable : Nat := key 0x6000 1

/-- LkPort, R363 of spec/14_charging_link.md. -/
abbrev lkPort : Nat := key 0x6000 2

/-- LkContactorPlus, R363 of spec/14_charging_link.md. -/
abbrev lkContactorPlus : Nat := key 0x6000 3

/-- LkContactorMinus, R363 of spec/14_charging_link.md. -/
abbrev lkContactorMinus : Nat := key 0x6000 4

/-- LkPrechargeOutput, R363 of spec/14_charging_link.md. -/
abbrev lkPrechargeOutput : Nat := key 0x6000 5

/-- LkInletVoltageInput, R363 of spec/14_charging_link.md. -/
abbrev lkInletVoltageInput : Nat := key 0x6000 6

/-- LkBatteryVoltageInput, R363 of spec/14_charging_link.md. -/
abbrev lkBatteryVoltageInput : Nat := key 0x6000 7

/-- LkInletCurrentInput, R363 of spec/14_charging_link.md. -/
abbrev lkInletCurrentInput : Nat := key 0x6000 8

/-- LkPinTempInputs, R363 of spec/14_charging_link.md. -/
abbrev lkPinTempInputs : Nat := key 0x6000 9

/-- LkPinTempLimit, R363 of spec/14_charging_link.md. -/
abbrev lkPinTempLimit : Nat := key 0x6000 10

/-- LkPinTempDerate, R363 of spec/14_charging_link.md. -/
abbrev lkPinTempDerate : Nat := key 0x6000 11

/-- LkMatchTolerance, R363 of spec/14_charging_link.md. -/
abbrev lkMatchTolerance : Nat := key 0x6000 12

/-- LkContactorTime, R363 of spec/14_charging_link.md. -/
abbrev lkContactorTime : Nat := key 0x6000 13

/-- LkOpenCurrent, R363 of spec/14_charging_link.md. -/
abbrev lkOpenCurrent : Nat := key 0x6000 14

/-- LkPilotInput, R363 of spec/14_charging_link.md. -/
abbrev lkPilotInput : Nat := key 0x6000 15

/-- LkPilotStateOutput, R363 of spec/14_charging_link.md. -/
abbrev lkPilotStateOutput : Nat := key 0x6000 16

/-- LkMaxCurrent, R363 of spec/14_charging_link.md. -/
abbrev lkMaxCurrent : Nat := key 0x6000 17

/-- LkMaxVoltage, R363 of spec/14_charging_link.md. -/
abbrev lkMaxVoltage : Nat := key 0x6000 18

/-- LkVehStatus, R363 of spec/14_charging_link.md. -/
abbrev lkVehStatus : Nat := key 0x6001 0

/-- LkState, R363 of spec/14_charging_link.md. -/
abbrev lkState : Nat := key 0x6001 1

/-- LkProtocol, R363 of spec/14_charging_link.md. -/
abbrev lkProtocol : Nat := key 0x6001 2

/-- LkEnergyService, R363 of spec/14_charging_link.md. -/
abbrev lkEnergyService : Nat := key 0x6001 3

/-- LkInletVoltage, R363 of spec/14_charging_link.md. -/
abbrev lkInletVoltage : Nat := key 0x6001 4

/-- LkInletCurrent, R363 of spec/14_charging_link.md. -/
abbrev lkInletCurrent : Nat := key 0x6001 5

/-- LkPinTempMax, R363 of spec/14_charging_link.md. -/
abbrev lkPinTempMax : Nat := key 0x6001 6

/-- LkPostMaxVoltage, R363 of spec/14_charging_link.md. -/
abbrev lkPostMaxVoltage : Nat := key 0x6001 7

/-- LkPostMaxCurrent, R363 of spec/14_charging_link.md. -/
abbrev lkPostMaxCurrent : Nat := key 0x6001 8

/-- LkPilotState, R363 of spec/14_charging_link.md. -/
abbrev lkPilotState : Nat := key 0x6001 9

/-- LkStopRequest, R363 of spec/14_charging_link.md. -/
abbrev lkStopRequest : Nat := key 0x6001 10

/-- LkSessionId, R363 of spec/14_charging_link.md. -/
abbrev lkSessionId : Nat := key 0x6001 11

/-- LkStopCause, R363 of spec/14_charging_link.md. -/
abbrev lkStopCause : Nat := key 0x6001 12

/-- LkPlugged, R363 of spec/14_charging_link.md. -/
abbrev lkPlugged : Nat := key 0x6001 13

/-- LkPostConfig, R364 of spec/14_charging_link.md. -/
abbrev lkPostConfig : Nat := key 0x6100 0

/-- LkPostEnable, R364 of spec/14_charging_link.md. -/
abbrev lkPostEnable : Nat := key 0x6100 1

/-- LkPostPort, R364 of spec/14_charging_link.md. -/
abbrev lkPostPort : Nat := key 0x6100 2

/-- LkPostContactorPlus, R364 of spec/14_charging_link.md. -/
abbrev lkPostContactorPlus : Nat := key 0x6100 3

/-- LkPostContactorMinus, R364 of spec/14_charging_link.md. -/
abbrev lkPostContactorMinus : Nat := key 0x6100 4

/-- LkPostVoltageInput, R364 of spec/14_charging_link.md. -/
abbrev lkPostVoltageInput : Nat := key 0x6100 5

/-- LkPostCurrentInput, R364 of spec/14_charging_link.md. -/
abbrev lkPostCurrentInput : Nat := key 0x6100 6

/-- LkIsoInput, R364 of spec/14_charging_link.md. -/
abbrev lkIsoInput : Nat := key 0x6100 7

/-- LkIsoAlarmInput, R364 of spec/14_charging_link.md. -/
abbrev lkIsoAlarmInput : Nat := key 0x6100 8

/-- LkIsoValid, R364 of spec/14_charging_link.md. -/
abbrev lkIsoValid : Nat := key 0x6100 9

/-- LkIsoFault, R364 of spec/14_charging_link.md. -/
abbrev lkIsoFault : Nat := key 0x6100 10

/-- LkIsoTestTime, R364 of spec/14_charging_link.md. -/
abbrev lkIsoTestTime : Nat := key 0x6100 11

/-- LkPrechargeCurrentMax, R364 of spec/14_charging_link.md. -/
abbrev lkPrechargeCurrentMax : Nat := key 0x6100 12

/-- LkRatedCurrent, R364 of spec/14_charging_link.md. -/
abbrev lkRatedCurrent : Nat := key 0x6100 13

/-- LkRatedVoltage, R364 of spec/14_charging_link.md. -/
abbrev lkRatedVoltage : Nat := key 0x6100 14

/-- LkPostPilotInput, R364 of spec/14_charging_link.md. -/
abbrev lkPostPilotInput : Nat := key 0x6100 15

/-- LkPilotOutput, R364 of spec/14_charging_link.md. -/
abbrev lkPilotOutput : Nat := key 0x6100 16

/-- LkDischargeTime, R364 of spec/14_charging_link.md. -/
abbrev lkDischargeTime : Nat := key 0x6100 17

/-- LkPostStatus, R364 of spec/14_charging_link.md. -/
abbrev lkPostStatus : Nat := key 0x6101 0

/-- LkPostState, R364 of spec/14_charging_link.md. -/
abbrev lkPostState : Nat := key 0x6101 1

/-- LkPostProtocol, R364 of spec/14_charging_link.md. -/
abbrev lkPostProtocol : Nat := key 0x6101 2

/-- LkPostEnergyService, R364 of spec/14_charging_link.md. -/
abbrev lkPostEnergyService : Nat := key 0x6101 3

/-- LkPostVoltage, R364 of spec/14_charging_link.md. -/
abbrev lkPostVoltage : Nat := key 0x6101 4

/-- LkPostCurrent, R364 of spec/14_charging_link.md. -/
abbrev lkPostCurrent : Nat := key 0x6101 5

/-- LkIsoResistance, R364 of spec/14_charging_link.md. -/
abbrev lkIsoResistance : Nat := key 0x6101 6

/-- LkPostCurrentLimit, R364 of spec/14_charging_link.md. -/
abbrev lkPostCurrentLimit : Nat := key 0x6101 7

/-- LkPostLimiter, R364 of spec/14_charging_link.md. -/
abbrev lkPostLimiter : Nat := key 0x6101 8

/-- LkEvTargetCurrent, R364 of spec/14_charging_link.md. -/
abbrev lkEvTargetCurrent : Nat := key 0x6101 9

/-- LkEvTargetVoltage, R364 of spec/14_charging_link.md. -/
abbrev lkEvTargetVoltage : Nat := key 0x6101 10

/-- LkPostStopRequest, R364 of spec/14_charging_link.md. -/
abbrev lkPostStopRequest : Nat := key 0x6101 11

/-- LkPostStopCause, R364 of spec/14_charging_link.md. -/
abbrev lkPostStopCause : Nat := key 0x6101 12

/-- Tandem, R365 of spec/14_charging_link.md. -/
abbrev tandem : Nat := key 0x6200 0

/-- TdEnable, R365 of spec/14_charging_link.md. -/
abbrev tdEnable : Nat := key 0x6200 1

/-- TdServiceId, R365 of spec/14_charging_link.md. -/
abbrev tdServiceId : Nat := key 0x6200 2

/-- TdTimebase, R365 of spec/14_charging_link.md. -/
abbrev tdTimebase : Nat := key 0x6200 3

/-- TdLawSlot, R365 of spec/14_charging_link.md. -/
abbrev tdLawSlot : Nat := key 0x6200 4

/-- TdPostLawAngle, R365 of spec/14_charging_link.md. -/
abbrev tdPostLawAngle : Nat := key 0x6200 5

/-- TdWatchdog, R365 of spec/14_charging_link.md. -/
abbrev tdWatchdog : Nat := key 0x6200 6

/-- TdFallbackHold, R365 of spec/14_charging_link.md. -/
abbrev tdFallbackHold : Nat := key 0x6200 7

/-- TdFallbackRamp, R365 of spec/14_charging_link.md. -/
abbrev tdFallbackRamp : Nat := key 0x6200 8

/-- TdStepMax, R365 of spec/14_charging_link.md. -/
abbrev tdStepMax : Nat := key 0x6200 9

/-- TdState, R365 of spec/14_charging_link.md. -/
abbrev tdState : Nat := key 0x6200 10

/-- TdSetpoint, R365 of spec/14_charging_link.md. -/
abbrev tdSetpoint : Nat := key 0x6200 11

/-- TdConductorTemp, R365 of spec/14_charging_link.md. -/
abbrev tdConductorTemp : Nat := key 0x6200 12

/-- TdThermalLimit, R365 of spec/14_charging_link.md. -/
abbrev tdThermalLimit : Nat := key 0x6200 13

/-- TdLossCount, R365 of spec/14_charging_link.md. -/
abbrev tdLossCount : Nat := key 0x6200 14

/-- TdConnection, R365 of spec/14_charging_link.md. -/
abbrev tdConnection : Nat := key 0x6200 15

/-- TdLastLossTime, R365 of spec/14_charging_link.md. -/
abbrev tdLastLossTime : Nat := key 0x6200 16

/-- TdPtpDomain, R365 of spec/14_charging_link.md. -/
abbrev tdPtpDomain : Nat := key 0x6200 17

/-- StConfig, R375 of spec/15_station_site.md. -/
abbrev stConfig : Nat := key 0x6300 0

/-- StEnable, R375 of spec/15_station_site.md. -/
abbrev stEnable : Nat := key 0x6300 1

/-- StFeChannels, R375 of spec/15_station_site.md. -/
abbrev stFeChannels : Nat := key 0x6300 2

/-- StFeTimebase, R375 of spec/15_station_site.md. -/
abbrev stFeTimebase : Nat := key 0x6300 3

/-- StFeSlot, R375 of spec/15_station_site.md. -/
abbrev stFeSlot : Nat := key 0x6300 4

/-- StGridContactor, R375 of spec/15_station_site.md. -/
abbrev stGridContactor : Nat := key 0x6300 5

/-- StPrechargeOutput, R375 of spec/15_station_site.md. -/
abbrev stPrechargeOutput : Nat := key 0x6300 6

/-- StPrechargeLevel, R375 of spec/15_station_site.md. -/
abbrev stPrechargeLevel : Nat := key 0x6300 7

/-- StPrechargeTime, R375 of spec/15_station_site.md. -/
abbrev stPrechargeTime : Nat := key 0x6300 8

/-- StLinkInput, R375 of spec/15_station_site.md. -/
abbrev stLinkInput : Nat := key 0x6300 9

/-- StLinkTarget, R375 of spec/15_station_site.md. -/
abbrev stLinkTarget : Nat := key 0x6300 10

/-- StLinkRamp, R375 of spec/15_station_site.md. -/
abbrev stLinkRamp : Nat := key 0x6300 11

/-- StLinkCapacitance, R375 of spec/15_station_site.md. -/
abbrev stLinkCapacitance : Nat := key 0x6300 12

/-- StLinkBandwidth, R375 of spec/15_station_site.md. -/
abbrev stLinkBandwidth : Nat := key 0x6300 13

/-- StDabStages, R375 of spec/15_station_site.md. -/
abbrev stDabStages : Nat := key 0x6300 14

/-- StDabTimebase, R375 of spec/15_station_site.md. -/
abbrev stDabTimebase : Nat := key 0x6300 15

/-- StDabSlots, R375 of spec/15_station_site.md. -/
abbrev stDabSlots : Nat := key 0x6300 16

/-- StOutputInput, R375 of spec/15_station_site.md. -/
abbrev stOutputInput : Nat := key 0x6300 17

/-- StStagePower, R375 of spec/15_station_site.md. -/
abbrev stStagePower : Nat := key 0x6300 18

/-- StFePowerMax, R375 of spec/15_station_site.md. -/
abbrev stFePowerMax : Nat := key 0x6300 19

/-- StChopperChannel, R375 of spec/15_station_site.md. -/
abbrev stChopperChannel : Nat := key 0x6300 20

/-- StLinkOv2, R375 of spec/15_station_site.md. -/
abbrev stLinkOv2 : Nat := key 0x6300 21

/-- StLinkOv3, R375 of spec/15_station_site.md. -/
abbrev stLinkOv3 : Nat := key 0x6300 22

/-- StExportMax, R375 of spec/15_station_site.md. -/
abbrev stExportMax : Nat := key 0x6300 23

/-- StTripHold, R375 of spec/15_station_site.md. -/
abbrev stTripHold : Nat := key 0x6300 24

/-- StStatus, R376 of spec/15_station_site.md. -/
abbrev stStatus : Nat := key 0x6301 0

/-- StState, R376 of spec/15_station_site.md. -/
abbrev stState : Nat := key 0x6301 1

/-- StLinkVoltage, R376 of spec/15_station_site.md. -/
abbrev stLinkVoltage : Nat := key 0x6301 2

/-- StGridPower, R376 of spec/15_station_site.md. -/
abbrev stGridPower : Nat := key 0x6301 3

/-- StOutputPower, R376 of spec/15_station_site.md. -/
abbrev stOutputPower : Nat := key 0x6301 4

/-- StStagesRunning, R376 of spec/15_station_site.md. -/
abbrev stStagesRunning : Nat := key 0x6301 5

/-- StAvailablePower, R376 of spec/15_station_site.md. -/
abbrev stAvailablePower : Nat := key 0x6301 6

/-- StTripCause, R376 of spec/15_station_site.md. -/
abbrev stTripCause : Nat := key 0x6301 7

/-- StTripCount, R376 of spec/15_station_site.md. -/
abbrev stTripCount : Nat := key 0x6301 8

/-- StStageLost, R376 of spec/15_station_site.md. -/
abbrev stStageLost : Nat := key 0x6301 9

/-- StLimiter, R376 of spec/15_station_site.md. -/
abbrev stLimiter : Nat := key 0x6301 10

/-- CcConfig, R382 of spec/15_station_site.md. -/
abbrev ccConfig : Nat := key 0x6400 0

/-- CcEnable, R382 of spec/15_station_site.md. -/
abbrev ccEnable : Nat := key 0x6400 1

/-- CcPumpSlot, R382 of spec/15_station_site.md. -/
abbrev ccPumpSlot : Nat := key 0x6400 2

/-- CcSupplyTempInput, R382 of spec/15_station_site.md. -/
abbrev ccSupplyTempInput : Nat := key 0x6400 3

/-- CcReturnTempInput, R382 of spec/15_station_site.md. -/
abbrev ccReturnTempInput : Nat := key 0x6400 4

/-- CcFlowInput, R382 of spec/15_station_site.md. -/
abbrev ccFlowInput : Nat := key 0x6400 5

/-- CcPressureInput, R382 of spec/15_station_site.md. -/
abbrev ccPressureInput : Nat := key 0x6400 6

/-- CcContactTempInputs, R382 of spec/15_station_site.md. -/
abbrev ccContactTempInputs : Nat := key 0x6400 7

/-- CcFlowNominal, R382 of spec/15_station_site.md. -/
abbrev ccFlowNominal : Nat := key 0x6400 8

/-- CcFlowMin, R382 of spec/15_station_site.md. -/
abbrev ccFlowMin : Nat := key 0x6400 9

/-- CcPressureMin, R382 of spec/15_station_site.md. -/
abbrev ccPressureMin : Nat := key 0x6400 10

/-- CcPressureMax, R382 of spec/15_station_site.md. -/
abbrev ccPressureMax : Nat := key 0x6400 11

/-- CcConductorLimit, R382 of spec/15_station_site.md. -/
abbrev ccConductorLimit : Nat := key 0x6400 12

/-- CcLimitHorizon, R382 of spec/15_station_site.md. -/
abbrev ccLimitHorizon : Nat := key 0x6400 13

/-- CcNodeResistance, R382 of spec/15_station_site.md. -/
abbrev ccNodeResistance : Nat := key 0x6400 14

/-- CcNodeCapacitance, R382 of spec/15_station_site.md. -/
abbrev ccNodeCapacitance : Nat := key 0x6400 15

/-- CcCouplingStill, R382 of spec/15_station_site.md. -/
abbrev ccCouplingStill : Nat := key 0x6400 16

/-- CcCouplingFlow, R382 of spec/15_station_site.md. -/
abbrev ccCouplingFlow : Nat := key 0x6400 17

/-- CcCouplingNode, R382 of spec/15_station_site.md. -/
abbrev ccCouplingNode : Nat := key 0x6400 18

/-- CcPumpSpeedMax, R382 of spec/15_station_site.md. -/
abbrev ccPumpSpeedMax : Nat := key 0x6400 19

/-- CcCoolantMax, R382 of spec/15_station_site.md. -/
abbrev ccCoolantMax : Nat := key 0x6400 20

/-- CcStatus, R383 of spec/15_station_site.md. -/
abbrev ccStatus : Nat := key 0x6401 0

/-- CcState, R383 of spec/15_station_site.md. -/
abbrev ccState : Nat := key 0x6401 1

/-- CcHotSpot, R383 of spec/15_station_site.md. -/
abbrev ccHotSpot : Nat := key 0x6401 2

/-- CcHotNode, R383 of spec/15_station_site.md. -/
abbrev ccHotNode : Nat := key 0x6401 3

/-- CcCurrentLimit, R383 of spec/15_station_site.md. -/
abbrev ccCurrentLimit : Nat := key 0x6401 4

/-- CcFlow, R383 of spec/15_station_site.md. -/
abbrev ccFlow : Nat := key 0x6401 5

/-- CcSupplyTemp, R383 of spec/15_station_site.md. -/
abbrev ccSupplyTemp : Nat := key 0x6401 6

/-- CcReturnTemp, R383 of spec/15_station_site.md. -/
abbrev ccReturnTemp : Nat := key 0x6401 7

/-- CcPumpRestarts, R383 of spec/15_station_site.md. -/
abbrev ccPumpRestarts : Nat := key 0x6401 8

/-- CcHotSpotPeak, R383 of spec/15_station_site.md. -/
abbrev ccHotSpotPeak : Nat := key 0x6401 9

/-- MonConfig, R394 of spec/15_station_site.md. -/
abbrev monConfig : Nat := key 0x6500 0

/-- MonEnable, R394 of spec/15_station_site.md. -/
abbrev monEnable : Nat := key 0x6500 1

/-- MonGridLimit, R394 of spec/15_station_site.md. -/
abbrev monGridLimit : Nat := key 0x6500 2

/-- MonTxDerateStart, R394 of spec/15_station_site.md. -/
abbrev monTxDerateStart : Nat := key 0x6500 3

/-- MonTxDerateEnd, R394 of spec/15_station_site.md. -/
abbrev monTxDerateEnd : Nat := key 0x6500 4

/-- MonReserve, R394 of spec/15_station_site.md. -/
abbrev monReserve : Nat := key 0x6500 5

/-- MonSafetyReserve, R394 of spec/15_station_site.md. -/
abbrev monSafetyReserve : Nat := key 0x6500 6

/-- MonExportLimit, R394 of spec/15_station_site.md. -/
abbrev monExportLimit : Nat := key 0x6500 7

/-- MonLeaseDuration, R394 of spec/15_station_site.md. -/
abbrev monLeaseDuration : Nat := key 0x6500 8

/-- MonRenewPeriod, R394 of spec/15_station_site.md. -/
abbrev monRenewPeriod : Nat := key 0x6500 9

/-- MonReduceTime, R394 of spec/15_station_site.md. -/
abbrev monReduceTime : Nat := key 0x6500 10

/-- MonClockMargin, R394 of spec/15_station_site.md. -/
abbrev monClockMargin : Nat := key 0x6500 11

/-- MonExpiryLead, R394 of spec/15_station_site.md. -/
abbrev monExpiryLead : Nat := key 0x6500 12

/-- MonPolicy, R394 of spec/15_station_site.md. -/
abbrev monPolicy : Nat := key 0x6500 13

/-- MonUdpPort, R394 of spec/15_station_site.md. -/
abbrev monUdpPort : Nat := key 0x6500 14

/-- MonStorageTimeout, R394 of spec/15_station_site.md. -/
abbrev monStorageTimeout : Nat := key 0x6500 15

/-- MonLeaseMax, R394 of spec/15_station_site.md. -/
abbrev monLeaseMax : Nat := key 0x6500 16

/-- MonRetryTime, R394 of spec/15_station_site.md. -/
abbrev monRetryTime : Nat := key 0x6500 17

/-- MonStandby, R394 of spec/15_station_site.md. -/
abbrev monStandby : Nat := key 0x6500 18

/-- MonActivePartner, R394 of spec/15_station_site.md. -/
abbrev monActivePartner : Nat := key 0x6500 19

/-- MonStatus, R394 of spec/15_station_site.md. -/
abbrev monStatus : Nat := key 0x6501 0

/-- MonState, R394 of spec/15_station_site.md. -/
abbrev monState : Nat := key 0x6501 1

/-- MonBudget, R394 of spec/15_station_site.md. -/
abbrev monBudget : Nat := key 0x6501 2

/-- MonCommitted, R394 of spec/15_station_site.md. -/
abbrev monCommitted : Nat := key 0x6501 3

/-- MonExportCommitted, R394 of spec/15_station_site.md. -/
abbrev monExportCommitted : Nat := key 0x6501 4

/-- MonLeaseCount, R394 of spec/15_station_site.md. -/
abbrev monLeaseCount : Nat := key 0x6501 5

/-- MonTxTemperature, R394 of spec/15_station_site.md. -/
abbrev monTxTemperature : Nat := key 0x6501 6

/-- MonStoragePower, R394 of spec/15_station_site.md. -/
abbrev monStoragePower : Nat := key 0x6501 7

/-- MonRefusedCount, R394 of spec/15_station_site.md. -/
abbrev monRefusedCount : Nat := key 0x6501 8

/-- MonReduceCount, R394 of spec/15_station_site.md. -/
abbrev monReduceCount : Nat := key 0x6501 9

/-- MonNoAckCount, R394 of spec/15_station_site.md. -/
abbrev monNoAckCount : Nat := key 0x6501 10

/-- MonAuthFailCount, R394 of spec/15_station_site.md. -/
abbrev monAuthFailCount : Nat := key 0x6501 11

/-- MonLeaseTable, R394 of spec/15_station_site.md. -/
abbrev monLeaseTable : Nat := key 0x6510 0

/-- MonClient, R394 of spec/15_station_site.md. -/
abbrev monClient : Nat := key 0x6520 0

/-- MonClientEnable, R394 of spec/15_station_site.md. -/
abbrev monClientEnable : Nat := key 0x6520 1

/-- MonClientPartner, R394 of spec/15_station_site.md. -/
abbrev monClientPartner : Nat := key 0x6520 2

/-- MonClientMinimum, R394 of spec/15_station_site.md. -/
abbrev monClientMinimum : Nat := key 0x6520 3

/-- MonClientLease, R394 of spec/15_station_site.md. -/
abbrev monClientLease : Nat := key 0x6520 4

/-- MonClientExpiry, R394 of spec/15_station_site.md. -/
abbrev monClientExpiry : Nat := key 0x6520 5

/-- MonClientState, R394 of spec/15_station_site.md. -/
abbrev monClientState : Nat := key 0x6520 6

/-- MtrRegisters, R422 of spec/16_metering.md. -/
abbrev mtrRegisters : Nat := key 0x7000 0

/-- AcImport, R422 of spec/16_metering.md. -/
abbrev acImport : Nat := key 0x7000 1

/-- AcExport, R422 of spec/16_metering.md. -/
abbrev acExport : Nat := key 0x7000 2

/-- AcImportFund, R422 of spec/16_metering.md. -/
abbrev acImportFund : Nat := key 0x7000 3

/-- AcExportFund, R422 of spec/16_metering.md. -/
abbrev acExportFund : Nat := key 0x7000 4

/-- ReactiveQ1, R422 of spec/16_metering.md. -/
abbrev reactiveQ1 : Nat := key 0x7000 5

/-- ReactiveQ2, R422 of spec/16_metering.md. -/
abbrev reactiveQ2 : Nat := key 0x7000 6

/-- ReactiveQ3, R422 of spec/16_metering.md. -/
abbrev reactiveQ3 : Nat := key 0x7000 7

/-- ReactiveQ4, R422 of spec/16_metering.md. -/
abbrev reactiveQ4 : Nat := key 0x7000 8

/-- DcImport, R422 of spec/16_metering.md. -/
abbrev dcImport : Nat := key 0x7000 9

/-- DcExport, R422 of spec/16_metering.md. -/
abbrev dcExport : Nat := key 0x7000 10

/-- MtrPhase, R422 of spec/16_metering.md. -/
abbrev mtrPhase (i : Nat) : Nat := key (0x7001 + i) 0

/-- PhImport, R422 of spec/16_metering.md. -/
abbrev phImport (i : Nat) : Nat := key (0x7001 + i) 1

/-- PhExport, R422 of spec/16_metering.md. -/
abbrev phExport (i : Nat) : Nat := key (0x7001 + i) 2

/-- PhImportFund, R422 of spec/16_metering.md. -/
abbrev phImportFund (i : Nat) : Nat := key (0x7001 + i) 3

/-- PhExportFund, R422 of spec/16_metering.md. -/
abbrev phExportFund (i : Nat) : Nat := key (0x7001 + i) 4

/-- PhVoltageRms, R422 of spec/16_metering.md. -/
abbrev phVoltageRms (i : Nat) : Nat := key (0x7001 + i) 5

/-- PhCurrentRms, R422 of spec/16_metering.md. -/
abbrev phCurrentRms (i : Nat) : Nat := key (0x7001 + i) 6

/-- PhPower, R422 of spec/16_metering.md. -/
abbrev phPower (i : Nat) : Nat := key (0x7001 + i) 7

/-- PhPowerFund, R422 of spec/16_metering.md. -/
abbrev phPowerFund (i : Nat) : Nat := key (0x7001 + i) 8

/-- PhReactiveFund, R422 of spec/16_metering.md. -/
abbrev phReactiveFund (i : Nat) : Nat := key (0x7001 + i) 9

/-- PhHalfCycleRms, R422 of spec/16_metering.md. -/
abbrev phHalfCycleRms (i : Nat) : Nat := key (0x7001 + i) 10

/-- MtrStatus, R422 of spec/16_metering.md. -/
abbrev mtrStatus : Nat := key 0x7004 0

/-- DcVoltage, R422 of spec/16_metering.md. -/
abbrev dcVoltage : Nat := key 0x7004 1

/-- DcCurrent, R422 of spec/16_metering.md. -/
abbrev dcCurrent : Nat := key 0x7004 2

/-- DcPower, R422 of spec/16_metering.md. -/
abbrev dcPower : Nat := key 0x7004 3

/-- MtrFrequency, R422 of spec/16_metering.md. -/
abbrev mtrFrequency : Nat := key 0x7004 4

/-- MtrState, R422 of spec/16_metering.md. -/
abbrev mtrState : Nat := key 0x7004 5

/-- MtrCreepActive, R422 of spec/16_metering.md. -/
abbrev mtrCreepActive : Nat := key 0x7004 6

/-- MtrSessionState, R422 of spec/16_metering.md. -/
abbrev mtrSessionState : Nat := key 0x7004 7

/-- MtrOpenBound, R422 of spec/16_metering.md. -/
abbrev mtrOpenBound : Nat := key 0x7004 8

/-- MtrConfig, R423 of spec/16_metering.md. -/
abbrev mtrConfig : Nat := key 0x7100 0

/-- MtrAcEnable, R423 of spec/16_metering.md. -/
abbrev mtrAcEnable : Nat := key 0x7100 1

/-- MtrDcEnable, R423 of spec/16_metering.md. -/
abbrev mtrDcEnable : Nat := key 0x7100 2

/-- MtrTimebase, R423 of spec/16_metering.md. -/
abbrev mtrTimebase : Nat := key 0x7100 3

/-- MtrAcVoltageRatio, R423 of spec/16_metering.md. -/
abbrev mtrAcVoltageRatio : Nat := key 0x7100 4

/-- MtrAcShunt, R423 of spec/16_metering.md. -/
abbrev mtrAcShunt : Nat := key 0x7100 5

/-- MtrDcVoltageRatio, R423 of spec/16_metering.md. -/
abbrev mtrDcVoltageRatio : Nat := key 0x7100 6

/-- MtrDcShunt, R423 of spec/16_metering.md. -/
abbrev mtrDcShunt : Nat := key 0x7100 7

/-- MtrNominalVoltage, R423 of spec/16_metering.md. -/
abbrev mtrNominalVoltage : Nat := key 0x7100 8

/-- MtrRatedPowerAc, R423 of spec/16_metering.md. -/
abbrev mtrRatedPowerAc : Nat := key 0x7100 9

/-- MtrRatedPowerDc, R423 of spec/16_metering.md. -/
abbrev mtrRatedPowerDc : Nat := key 0x7100 10

/-- MtrNoLoad, R423 of spec/16_metering.md. -/
abbrev mtrNoLoad : Nat := key 0x7100 11

/-- MtrMaxPower, R423 of spec/16_metering.md. -/
abbrev mtrMaxPower : Nat := key 0x7100 12

/-- MtrIntervalLength, R423 of spec/16_metering.md. -/
abbrev mtrIntervalLength : Nat := key 0x7100 13

/-- MtrSagLevel, R423 of spec/16_metering.md. -/
abbrev mtrSagLevel : Nat := key 0x7100 14

/-- MtrSwellLevel, R423 of spec/16_metering.md. -/
abbrev mtrSwellLevel : Nat := key 0x7100 15

/-- MtrInterruptLevel, R423 of spec/16_metering.md. -/
abbrev mtrInterruptLevel : Nat := key 0x7100 16

/-- MtrPqHysteresis, R423 of spec/16_metering.md. -/
abbrev mtrPqHysteresis : Nat := key 0x7100 17

/-- MtrKeyGenerate, R423 of spec/16_metering.md. -/
abbrev mtrKeyGenerate : Nat := key 0x7100 18

/-- MtrJournal, R424 of spec/16_metering.md. -/
abbrev mtrJournal : Nat := key 0x7200 0

/-- JournalSequence, R424 of spec/16_metering.md. -/
abbrev journalSequence : Nat := key 0x7200 1

/-- LastSlotTime, R424 of spec/16_metering.md. -/
abbrev lastSlotTime : Nat := key 0x7200 2

/-- FinalWriteTime, R424 of spec/16_metering.md. -/
abbrev finalWriteTime : Nat := key 0x7200 3

/-- MtrFinalWriteOk, R424 of spec/16_metering.md. -/
abbrev mtrFinalWriteOk : Nat := key 0x7200 4

/-- MtrRecords, R424 of spec/16_metering.md. -/
abbrev mtrRecords : Nat := key 0x7201 0

/-- RecordNewest, R424 of spec/16_metering.md. -/
abbrev recordNewest : Nat := key 0x7201 1

/-- RecordOldest, R424 of spec/16_metering.md. -/
abbrev recordOldest : Nat := key 0x7201 2

/-- RecordSelect, R424 of spec/16_metering.md. -/
abbrev recordSelect : Nat := key 0x7201 3

/-- MtrRecordAcknowledged, R424 of spec/16_metering.md. -/
abbrev mtrRecordAcknowledged : Nat := key 0x7201 4

/-- RecordWindow, R424 of spec/16_metering.md. -/
abbrev recordWindow : Nat := key 0x7201 5

/-- MtrKey, R424 of spec/16_metering.md. -/
abbrev mtrKey : Nat := key 0x7202 0

/-- MtrPublicKey, R424 of spec/16_metering.md. -/
abbrev mtrPublicKey : Nat := key 0x7202 1

/-- KeyGeneration, R424 of spec/16_metering.md. -/
abbrev keyGeneration : Nat := key 0x7202 2

/-- PqEventRing, R424 of spec/16_metering.md. -/
abbrev pqEventRing : Nat := key 0x7203 0

/-- JournalImage, R424 of spec/16_metering.md. -/
abbrev journalImage : Nat := key 0x7204 0

/-- Identity, R429 of spec/17_object_dictionary.md. -/
abbrev identity : Nat := key 0x1000 0

/-- VendorName, R429 of spec/17_object_dictionary.md. -/
abbrev vendorName : Nat := key 0x1000 1

/-- ProductName, R429 of spec/17_object_dictionary.md. -/
abbrev productName : Nat := key 0x1000 2

/-- SerialNumber, R429 of spec/17_object_dictionary.md. -/
abbrev serialNumber : Nat := key 0x1000 3

/-- SiliconRevision, R429 of spec/17_object_dictionary.md. -/
abbrev siliconRevision : Nat := key 0x1000 4

/-- Grade, R429 of spec/17_object_dictionary.md. -/
abbrev grade : Nat := key 0x1000 5

/-- Role, R429 of spec/17_object_dictionary.md. -/
abbrev role : Nat := key 0x1000 6

/-- DeviceTime, R429 of spec/17_object_dictionary.md. -/
abbrev deviceTime : Nat := key 0x1000 7

/-- ChrysalisCount, R429 of spec/17_object_dictionary.md. -/
abbrev chrysalisCount : Nat := key 0x1000 8

/-- DictionaryVersion, R429 of spec/17_object_dictionary.md. -/
abbrev dictionaryVersion : Nat := key 0x1000 9

/-- MetrologyChecksum, R429 of spec/17_object_dictionary.md. -/
abbrev metrologyChecksum : Nat := key 0x1000 10

/-- FirmwareStaging, R444 of spec/17_object_dictionary.md. -/
abbrev firmwareStaging : Nat := key 0x1020 0

/-- FirmwareControl, R444 of spec/17_object_dictionary.md. -/
abbrev firmwareControl : Nat := key 0x1021 0

/-- FirmwareCommand, R444 of spec/17_object_dictionary.md. -/
abbrev firmwareCommand : Nat := key 0x1021 1

/-- FirmwareResult, R444 of spec/17_object_dictionary.md. -/
abbrev firmwareResult : Nat := key 0x1021 2

/-- StagedVersion, R444 of spec/17_object_dictionary.md. -/
abbrev stagedVersion : Nat := key 0x1021 3

/-- InactiveSlotVersion, R444 of spec/17_object_dictionary.md. -/
abbrev inactiveSlotVersion : Nat := key 0x1021 4

/-- FirmwareProgress, R444 of spec/17_object_dictionary.md. -/
abbrev firmwareProgress : Nat := key 0x1021 5

/-- MetrologyImage, R444 of spec/17_object_dictionary.md. -/
abbrev metrologyImage : Nat := key 0x1022 0

/-- RoaConfig, R446 of spec/17_object_dictionary.md. -/
abbrev roaConfig : Nat := key 0x1100 0

/-- RoaIdleTimeout, R446 of spec/17_object_dictionary.md. -/
abbrev roaIdleTimeout : Nat := key 0x1100 1

/-- RoaBlockTimeout, R446 of spec/17_object_dictionary.md. -/
abbrev roaBlockTimeout : Nat := key 0x1100 2

/-- RoaUdpPort, R446 of spec/17_object_dictionary.md. -/
abbrev roaUdpPort : Nat := key 0x1100 3

/-- RoaCanEnable, R446 of spec/17_object_dictionary.md. -/
abbrev roaCanEnable : Nat := key 0x1100 4

/-- RoaCanRequestId, R446 of spec/17_object_dictionary.md. -/
abbrev roaCanRequestId : Nat := key 0x1100 5

/-- RoaCanResponseId, R446 of spec/17_object_dictionary.md. -/
abbrev roaCanResponseId : Nat := key 0x1100 6

/-- RoaPortEnable, R446 of spec/17_object_dictionary.md. -/
abbrev roaPortEnable : Nat := key 0x1100 7

/-- RoaMaxTagFailures, R446 of spec/17_object_dictionary.md. -/
abbrev roaMaxTagFailures : Nat := key 0x1100 8

/-- RoaStatus, R446 of spec/17_object_dictionary.md. -/
abbrev roaStatus : Nat := key 0x1101 0

/-- RoaSessionCount, R446 of spec/17_object_dictionary.md. -/
abbrev roaSessionCount : Nat := key 0x1101 1

/-- RoaTagFailCount, R446 of spec/17_object_dictionary.md. -/
abbrev roaTagFailCount : Nat := key 0x1101 2

/-- RoaReplayCount, R446 of spec/17_object_dictionary.md. -/
abbrev roaReplayCount : Nat := key 0x1101 3

/-- RoaOpenRefusedCount, R446 of spec/17_object_dictionary.md. -/
abbrev roaOpenRefusedCount : Nat := key 0x1101 4

/-- RoaRekeyCount, R446 of spec/17_object_dictionary.md. -/
abbrev roaRekeyCount : Nat := key 0x1101 5

/-- RoaSnapshotDiscardCount, R446 of spec/17_object_dictionary.md. -/
abbrev roaSnapshotDiscardCount : Nat := key 0x1101 6

/-- RoaLastError, R446 of spec/17_object_dictionary.md. -/
abbrev roaLastError : Nat := key 0x1101 7

/-- RoaSessionTable, R446 of spec/17_object_dictionary.md. -/
abbrev roaSessionTable : Nat := key 0x1102 0

/-- RoleKeyRecord, R446 of spec/17_object_dictionary.md. -/
abbrev roleKeyRecord (r : Nat) : Nat := key (0x1110 + r) 0

/-- RoleKey, R446 of spec/17_object_dictionary.md. -/
abbrev roleKey (r : Nat) : Nat := key (0x1110 + r) 1

/-- KeyVersion, R446 of spec/17_object_dictionary.md. -/
abbrev keyVersion (r : Nat) : Nat := key (0x1110 + r) 2

/-- CanConfig, R473 of spec/18_can.md. -/
abbrev canConfig (i : Nat) : Nat := key (0x1300 + 16 * i) 0

/-- CanEnable, R473 of spec/18_can.md. -/
abbrev canEnable (i : Nat) : Nat := key (0x1300 + 16 * i) 1

/-- CanFrameMode, R473 of spec/18_can.md. -/
abbrev canFrameMode (i : Nat) : Nat := key (0x1300 + 16 * i) 2

/-- CanNomBrp, R473 of spec/18_can.md. -/
abbrev canNomBrp (i : Nat) : Nat := key (0x1300 + 16 * i) 3

/-- CanNomTseg1, R473 of spec/18_can.md. -/
abbrev canNomTseg1 (i : Nat) : Nat := key (0x1300 + 16 * i) 4

/-- CanNomTseg2, R473 of spec/18_can.md. -/
abbrev canNomTseg2 (i : Nat) : Nat := key (0x1300 + 16 * i) 5

/-- CanNomSjw, R473 of spec/18_can.md. -/
abbrev canNomSjw (i : Nat) : Nat := key (0x1300 + 16 * i) 6

/-- CanTripleSample, R473 of spec/18_can.md. -/
abbrev canTripleSample (i : Nat) : Nat := key (0x1300 + 16 * i) 7

/-- CanDataBrp, R473 of spec/18_can.md. -/
abbrev canDataBrp (i : Nat) : Nat := key (0x1300 + 16 * i) 8

/-- CanDataTseg1, R473 of spec/18_can.md. -/
abbrev canDataTseg1 (i : Nat) : Nat := key (0x1300 + 16 * i) 9

/-- CanDataTseg2, R473 of spec/18_can.md. -/
abbrev canDataTseg2 (i : Nat) : Nat := key (0x1300 + 16 * i) 10

/-- CanDataSjw, R473 of spec/18_can.md. -/
abbrev canDataSjw (i : Nat) : Nat := key (0x1300 + 16 * i) 11

/-- CanTdcOffset, R473 of spec/18_can.md. -/
abbrev canTdcOffset (i : Nat) : Nat := key (0x1300 + 16 * i) 12

/-- CanXlTms, R473 of spec/18_can.md. -/
abbrev canXlTms (i : Nat) : Nat := key (0x1300 + 16 * i) 13

/-- CanListenOnly, R473 of spec/18_can.md. -/
abbrev canListenOnly (i : Nat) : Nat := key (0x1300 + 16 * i) 14

/-- CanBusOffRecovery, R473 of spec/18_can.md. -/
abbrev canBusOffRecovery (i : Nat) : Nat := key (0x1300 + 16 * i) 15

/-- CanBusOffFlush, R473 of spec/18_can.md. -/
abbrev canBusOffFlush (i : Nat) : Nat := key (0x1300 + 16 * i) 16

/-- CanWakeEnable, R473 of spec/18_can.md. -/
abbrev canWakeEnable (i : Nat) : Nat := key (0x1300 + 16 * i) 17

/-- CanRxDataSize, R473 of spec/18_can.md. -/
abbrev canRxDataSize (i : Nat) : Nat := key (0x1300 + 16 * i) 18

/-- CanBufferBank, R473 of spec/18_can.md. -/
abbrev canBufferBank (i : Nat) : Nat := key (0x1300 + 16 * i) 19

/-- CanHeadWaitLimit, R473 of spec/18_can.md. -/
abbrev canHeadWaitLimit (i : Nat) : Nat := key (0x1300 + 16 * i) 20

/-- CanStatus, R474 of spec/18_can.md. -/
abbrev canStatus (i : Nat) : Nat := key (0x1301 + 16 * i) 0

/-- CanState, R474 of spec/18_can.md. -/
abbrev canState (i : Nat) : Nat := key (0x1301 + 16 * i) 1

/-- CanTec, R474 of spec/18_can.md. -/
abbrev canTec (i : Nat) : Nat := key (0x1301 + 16 * i) 2

/-- CanRec, R474 of spec/18_can.md. -/
abbrev canRec (i : Nat) : Nat := key (0x1301 + 16 * i) 3

/-- CanBusOffCount, R474 of spec/18_can.md. -/
abbrev canBusOffCount (i : Nat) : Nat := key (0x1301 + 16 * i) 4

/-- CanRxFrameCount, R474 of spec/18_can.md. -/
abbrev canRxFrameCount (i : Nat) : Nat := key (0x1301 + 16 * i) 5

/-- CanTxFrameCount, R474 of spec/18_can.md. -/
abbrev canTxFrameCount (i : Nat) : Nat := key (0x1301 + 16 * i) 6

/-- CanRxNoMatchCount, R474 of spec/18_can.md. -/
abbrev canRxNoMatchCount (i : Nat) : Nat := key (0x1301 + 16 * i) 7

/-- CanRxOverrunCount, R474 of spec/18_can.md. -/
abbrev canRxOverrunCount (i : Nat) : Nat := key (0x1301 + 16 * i) 8

/-- CanRxTooLongCount, R474 of spec/18_can.md. -/
abbrev canRxTooLongCount (i : Nat) : Nat := key (0x1301 + 16 * i) 9

/-- CanErrorCount, R474 of spec/18_can.md. -/
abbrev canErrorCount (i : Nat) : Nat := key (0x1301 + 16 * i) 10

/-- CanLastError, R474 of spec/18_can.md. -/
abbrev canLastError (i : Nat) : Nat := key (0x1301 + 16 * i) 11

/-- CanTxQueueLevel, R474 of spec/18_can.md. -/
abbrev canTxQueueLevel (i : Nat) : Nat := key (0x1301 + 16 * i) 12

/-- CanTxHeadWait, R474 of spec/18_can.md. -/
abbrev canTxHeadWait (i : Nat) : Nat := key (0x1301 + 16 * i) 13

/-- CanTxHeadWaitMax, R474 of spec/18_can.md. -/
abbrev canTxHeadWaitMax (i : Nat) : Nat := key (0x1301 + 16 * i) 14

/-- CanClashId, R474 of spec/18_can.md. -/
abbrev canClashId (i : Nat) : Nat := key (0x1301 + 16 * i) 15

/-- CanClashCount, R474 of spec/18_can.md. -/
abbrev canClashCount (i : Nat) : Nat := key (0x1301 + 16 * i) 16

/-- CanTxLastStamp, R474 of spec/18_can.md. -/
abbrev canTxLastStamp (i : Nat) : Nat := key (0x1301 + 16 * i) 17

/-- CanTx, R475 of spec/18_can.md. -/
abbrev canTx (i : Nat) : Nat := key (0x1302 + 16 * i) 0

/-- CanTxAbort, R475 of spec/18_can.md. -/
abbrev canTxAbort (i : Nat) : Nat := key (0x1302 + 16 * i) 1

/-- CanTxResult, R475 of spec/18_can.md. -/
abbrev canTxResult (i : Nat) : Nat := key (0x1302 + 16 * i) 2

/-- CanTxCommand, R475 of spec/18_can.md. -/
abbrev canTxCommand (i : Nat) : Nat := key (0x1302 + 16 * i) 3

/-- CanTxHeadId, R475 of spec/18_can.md. -/
abbrev canTxHeadId (i : Nat) : Nat := key (0x1302 + 16 * i) 4

/-- CanTxHeadState, R475 of spec/18_can.md. -/
abbrev canTxHeadState (i : Nat) : Nat := key (0x1302 + 16 * i) 5

/-- CanAntenna, R475 of spec/18_can.md. -/
abbrev canAntenna (i : Nat) : Nat := key (0x1303 + 16 * i) 0

/-- CanAntennaCommand, R475 of spec/18_can.md. -/
abbrev canAntennaCommand (i : Nat) : Nat := key (0x1303 + 16 * i) 1

/-- CanAntennaResult, R475 of spec/18_can.md. -/
abbrev canAntennaResult (i : Nat) : Nat := key (0x1303 + 16 * i) 2

/-- CanAntennaNominalRate, R475 of spec/18_can.md. -/
abbrev canAntennaNominalRate (i : Nat) : Nat := key (0x1303 + 16 * i) 3

/-- CanAntennaDataRate, R475 of spec/18_can.md. -/
abbrev canAntennaDataRate (i : Nat) : Nat := key (0x1303 + 16 * i) 4

/-- CanAntennaTimeout, R475 of spec/18_can.md. -/
abbrev canAntennaTimeout (i : Nat) : Nat := key (0x1303 + 16 * i) 5

/-- CanTxFrame, R475 of spec/18_can.md. -/
abbrev canTxFrame (i : Nat) : Nat := key (0x1307 + 16 * i) 0

/-- CanTime, R475 of spec/18_can.md. -/
abbrev canTime (i : Nat) : Nat := key (0x1308 + 16 * i) 0

/-- CanTimestampNow, R475 of spec/18_can.md. -/
abbrev canTimestampNow (i : Nat) : Nat := key (0x1308 + 16 * i) 1

/-- CanDeviceTimeNow, R475 of spec/18_can.md. -/
abbrev canDeviceTimeNow (i : Nat) : Nat := key (0x1308 + 16 * i) 2

/-- CanRxWindow, R476 of spec/18_can.md. -/
abbrev canRxWindow (i : Nat) : Nat := key (0x1304 + 16 * i) 0

/-- CanRxSelect, R476 of spec/18_can.md. -/
abbrev canRxSelect (i : Nat) : Nat := key (0x1304 + 16 * i) 1

/-- CanRxWord0, R476 of spec/18_can.md. -/
abbrev canRxWord0 (i : Nat) : Nat := key (0x1304 + 16 * i) 2

/-- CanRxWord1, R476 of spec/18_can.md. -/
abbrev canRxWord1 (i : Nat) : Nat := key (0x1304 + 16 * i) 3

/-- CanRxWord2, R476 of spec/18_can.md. -/
abbrev canRxWord2 (i : Nat) : Nat := key (0x1304 + 16 * i) 4

/-- CanRxWord3, R476 of spec/18_can.md. -/
abbrev canRxWord3 (i : Nat) : Nat := key (0x1304 + 16 * i) 5

/-- CanRxWord4, R476 of spec/18_can.md. -/
abbrev canRxWord4 (i : Nat) : Nat := key (0x1304 + 16 * i) 6

/-- CanRxData0, R476 of spec/18_can.md. -/
abbrev canRxData0 (i : Nat) : Nat := key (0x1304 + 16 * i) 7

/-- CanRxData1, R476 of spec/18_can.md. -/
abbrev canRxData1 (i : Nat) : Nat := key (0x1304 + 16 * i) 8

/-- CanRxData2, R476 of spec/18_can.md. -/
abbrev canRxData2 (i : Nat) : Nat := key (0x1304 + 16 * i) 9

/-- CanRxData3, R476 of spec/18_can.md. -/
abbrev canRxData3 (i : Nat) : Nat := key (0x1304 + 16 * i) 10

/-- CanRxData4, R476 of spec/18_can.md. -/
abbrev canRxData4 (i : Nat) : Nat := key (0x1304 + 16 * i) 11

/-- CanRxData5, R476 of spec/18_can.md. -/
abbrev canRxData5 (i : Nat) : Nat := key (0x1304 + 16 * i) 12

/-- CanRxData6, R476 of spec/18_can.md. -/
abbrev canRxData6 (i : Nat) : Nat := key (0x1304 + 16 * i) 13

/-- CanRxData7, R476 of spec/18_can.md. -/
abbrev canRxData7 (i : Nat) : Nat := key (0x1304 + 16 * i) 14

/-- CanRxData8, R476 of spec/18_can.md. -/
abbrev canRxData8 (i : Nat) : Nat := key (0x1304 + 16 * i) 15

/-- CanRxData9, R476 of spec/18_can.md. -/
abbrev canRxData9 (i : Nat) : Nat := key (0x1304 + 16 * i) 16

/-- CanRxData10, R476 of spec/18_can.md. -/
abbrev canRxData10 (i : Nat) : Nat := key (0x1304 + 16 * i) 17

/-- CanRxData11, R476 of spec/18_can.md. -/
abbrev canRxData11 (i : Nat) : Nat := key (0x1304 + 16 * i) 18

/-- CanRxData12, R476 of spec/18_can.md. -/
abbrev canRxData12 (i : Nat) : Nat := key (0x1304 + 16 * i) 19

/-- CanRxData13, R476 of spec/18_can.md. -/
abbrev canRxData13 (i : Nat) : Nat := key (0x1304 + 16 * i) 20

/-- CanRxData14, R476 of spec/18_can.md. -/
abbrev canRxData14 (i : Nat) : Nat := key (0x1304 + 16 * i) 21

/-- CanRxData15, R476 of spec/18_can.md. -/
abbrev canRxData15 (i : Nat) : Nat := key (0x1304 + 16 * i) 22

/-- CanRxLongData, R476 of spec/18_can.md. -/
abbrev canRxLongData (i : Nat) : Nat := key (0x1305 + 16 * i) 0

/-- CanFilters, R476 of spec/18_can.md. -/
abbrev canFilters (i : Nat) : Nat := key (0x1306 + 16 * i) 0

/-- XgPort, R492 of spec/19_ethernet_t1s.md. -/
abbrev xgPort (i : Nat) : Nat := key (0x1200 + 16 * i) 0

/-- XgEnable, R492 of spec/19_ethernet_t1s.md. -/
abbrev xgEnable (i : Nat) : Nat := key (0x1200 + 16 * i) 1

/-- XgMacAddress, R492 of spec/19_ethernet_t1s.md. -/
abbrev xgMacAddress (i : Nat) : Nat := key (0x1200 + 16 * i) 2

/-- XgIpv4Address, R492 of spec/19_ethernet_t1s.md. -/
abbrev xgIpv4Address (i : Nat) : Nat := key (0x1200 + 16 * i) 3

/-- XgIpv4Mask, R492 of spec/19_ethernet_t1s.md. -/
abbrev xgIpv4Mask (i : Nat) : Nat := key (0x1200 + 16 * i) 4

/-- XgGateway, R492 of spec/19_ethernet_t1s.md. -/
abbrev xgGateway (i : Nat) : Nat := key (0x1200 + 16 * i) 5

/-- XgVlanId, R492 of spec/19_ethernet_t1s.md. -/
abbrev xgVlanId (i : Nat) : Nat := key (0x1200 + 16 * i) 6

/-- XgControlPcp, R492 of spec/19_ethernet_t1s.md. -/
abbrev xgControlPcp (i : Nat) : Nat := key (0x1200 + 16 * i) 7

/-- XgPhyAddress, R492 of spec/19_ethernet_t1s.md. -/
abbrev xgPhyAddress (i : Nat) : Nat := key (0x1200 + 16 * i) 8

/-- XgEslUdpPort, R492 of spec/19_ethernet_t1s.md. -/
abbrev xgEslUdpPort (i : Nat) : Nat := key (0x1200 + 16 * i) 9

/-- XgGateEnable, R492 of spec/19_ethernet_t1s.md. -/
abbrev xgGateEnable (i : Nat) : Nat := key (0x1200 + 16 * i) 10

/-- XgGateBase, R492 of spec/19_ethernet_t1s.md. -/
abbrev xgGateBase (i : Nat) : Nat := key (0x1200 + 16 * i) 11

/-- XgGateList, R492 of spec/19_ethernet_t1s.md. -/
abbrev xgGateList (i : Nat) : Nat := key (0x1200 + 16 * i) 12

/-- XgLinkState, R492 of spec/19_ethernet_t1s.md. -/
abbrev xgLinkState (i : Nat) : Nat := key (0x1200 + 16 * i) 13

/-- XgRxDropCount, R492 of spec/19_ethernet_t1s.md. -/
abbrev xgRxDropCount (i : Nat) : Nat := key (0x1200 + 16 * i) 14

/-- XgTxDropCount, R492 of spec/19_ethernet_t1s.md. -/
abbrev xgTxDropCount (i : Nat) : Nat := key (0x1200 + 16 * i) 15

/-- XgLinkDownCount, R492 of spec/19_ethernet_t1s.md. -/
abbrev xgLinkDownCount (i : Nat) : Nat := key (0x1200 + 16 * i) 16

/-- T1sPort, R493 of spec/19_ethernet_t1s.md. -/
abbrev t1sPort (i : Nat) : Nat := key (0x1220 + 16 * i) 0

/-- T1sPlcaEnable, R493 of spec/19_ethernet_t1s.md. -/
abbrev t1sPlcaEnable (i : Nat) : Nat := key (0x1220 + 16 * i) 7

/-- T1sPlcaNodeId, R493 of spec/19_ethernet_t1s.md. -/
abbrev t1sPlcaNodeId (i : Nat) : Nat := key (0x1220 + 16 * i) 8

/-- T1sPlcaNodeCount, R493 of spec/19_ethernet_t1s.md. -/
abbrev t1sPlcaNodeCount (i : Nat) : Nat := key (0x1220 + 16 * i) 10

/-- T1sPlcaToTimer, R493 of spec/19_ethernet_t1s.md. -/
abbrev t1sPlcaToTimer (i : Nat) : Nat := key (0x1220 + 16 * i) 11

/-- T1sPlcaBurstCount, R493 of spec/19_ethernet_t1s.md. -/
abbrev t1sPlcaBurstCount (i : Nat) : Nat := key (0x1220 + 16 * i) 12

/-- T1sPlcaState, R493 of spec/19_ethernet_t1s.md. -/
abbrev t1sPlcaState (i : Nat) : Nat := key (0x1220 + 16 * i) 13

/-- T1sRxDropCount, R493 of spec/19_ethernet_t1s.md. -/
abbrev t1sRxDropCount (i : Nat) : Nat := key (0x1220 + 16 * i) 14

/-- DevTime, R494 of spec/19_ethernet_t1s.md. -/
abbrev devTime : Nat := key 0x1240 0

/-- DevTimeDomain, R494 of spec/19_ethernet_t1s.md. -/
abbrev devTimeDomain : Nat := key 0x1240 1

/-- DevTimePriority1, R494 of spec/19_ethernet_t1s.md. -/
abbrev devTimePriority1 : Nat := key 0x1240 2

/-- DevTimeSyncLog, R494 of spec/19_ethernet_t1s.md. -/
abbrev devTimeSyncLog : Nat := key 0x1240 3

/-- DevTimeStepThreshold, R494 of spec/19_ethernet_t1s.md. -/
abbrev devTimeStepThreshold : Nat := key 0x1240 4

/-- DevTimeHoldoverLimit, R494 of spec/19_ethernet_t1s.md. -/
abbrev devTimeHoldoverLimit : Nat := key 0x1240 5

/-- DevTimeState, R494 of spec/19_ethernet_t1s.md. -/
abbrev devTimeState : Nat := key 0x1240 6

/-- DevTimeOffset, R494 of spec/19_ethernet_t1s.md. -/
abbrev devTimeOffset : Nat := key 0x1240 7

/-- DevTimeRateAdjust, R494 of spec/19_ethernet_t1s.md. -/
abbrev devTimeRateAdjust : Nat := key 0x1240 8

/-- DevTimeStepCount, R494 of spec/19_ethernet_t1s.md. -/
abbrev devTimeStepCount : Nat := key 0x1240 9

/-- DevTimePpsOut, R494 of spec/19_ethernet_t1s.md. -/
abbrev devTimePpsOut : Nat := key 0x1240 10

/-- DevTimePpsIn, R494 of spec/19_ethernet_t1s.md. -/
abbrev devTimePpsIn : Nat := key 0x1240 11

/-- Stream, R494 of spec/19_ethernet_t1s.md. -/
abbrev stream : Nat := key 0x1250 0

/-- StreamEnable, R494 of spec/19_ethernet_t1s.md. -/
abbrev streamEnable : Nat := key 0x1250 1

/-- StreamPort, R494 of spec/19_ethernet_t1s.md. -/
abbrev streamPort : Nat := key 0x1250 2

/-- StreamDestination, R494 of spec/19_ethernet_t1s.md. -/
abbrev streamDestination : Nat := key 0x1250 3

/-- StreamUdpPort, R494 of spec/19_ethernet_t1s.md. -/
abbrev streamUdpPort : Nat := key 0x1250 4

/-- StreamTimebase, R494 of spec/19_ethernet_t1s.md. -/
abbrev streamTimebase : Nat := key 0x1250 5

/-- StreamEntry, R494 of spec/19_ethernet_t1s.md. -/
abbrev streamEntry : Nat := key 0x1250 6

/-- StreamSources, R494 of spec/19_ethernet_t1s.md. -/
abbrev streamSources : Nat := key 0x1250 7

/-- StreamPcp, R494 of spec/19_ethernet_t1s.md. -/
abbrev streamPcp : Nat := key 0x1250 8

/-- StreamFrameBytes, R494 of spec/19_ethernet_t1s.md. -/
abbrev streamFrameBytes : Nat := key 0x1250 9

/-- StreamDropCount, R494 of spec/19_ethernet_t1s.md. -/
abbrev streamDropCount : Nat := key 0x1250 10

/-- SafetyRecord, R504 of spec/20_safety.md. -/
abbrev safetyRecord : Nat := key 0x8000 0

/-- SafConfigCrc, R504 of spec/20_safety.md. -/
abbrev safConfigCrc : Nat := key 0x8000 1

/-- SafConfigCrcExpected, R504 of spec/20_safety.md. -/
abbrev safConfigCrcExpected : Nat := key 0x8000 2

/-- SafProofInterval, R504 of spec/20_safety.md. -/
abbrev safProofInterval : Nat := key 0x8000 3

/-- SafSinceProof, R504 of spec/20_safety.md. -/
abbrev safSinceProof : Nat := key 0x8000 4

/-- SafWatchdogExpiryCount, R504 of spec/20_safety.md. -/
abbrev safWatchdogExpiryCount : Nat := key 0x8000 5

/-- SafPinReadbackCount, R504 of spec/20_safety.md. -/
abbrev safPinReadbackCount : Nat := key 0x8000 6

/-- SafSealLocked, R504 of spec/20_safety.md. -/
abbrev safSealLocked : Nat := key 0x8000 7

/-- PartnerControl, R515 of spec/20_safety.md. -/
abbrev partnerControl : Nat := key 0x1600 0

/-- PartnerActiveCount, R515 of spec/20_safety.md. -/
abbrev partnerActiveCount : Nat := key 0x1600 1

/-- PartnerKeySelect, R515 of spec/20_safety.md. -/
abbrev partnerKeySelect : Nat := key 0x1600 2

/-- EslActiveCount, R515 of spec/20_safety.md. -/
abbrev eslActiveCount : Nat := key 0x1600 3

/-- PartnerKey, R515 of spec/20_safety.md. -/
abbrev partnerKey : Nat := key 0x1601 0

/-- PartnerTable, R515 of spec/20_safety.md. -/
abbrev partnerTable : Nat := key 0x1680 0

/-- EslConfig, R515 of spec/20_safety.md. -/
abbrev eslConfig : Nat := key 0x1400 0

/-- EslRecoverCount, R515 of spec/20_safety.md. -/
abbrev eslRecoverCount : Nat := key 0x1400 1

/-- EslSelect, R515 of spec/20_safety.md. -/
abbrev eslSelect : Nat := key 0x1400 2

/-- EslConnection, R515 of spec/20_safety.md. -/
abbrev eslConnection : Nat := key 0x1401 0

/-- EslState, R515 of spec/20_safety.md. -/
abbrev eslState : Nat := key 0x1401 1

/-- EslRxLast, R515 of spec/20_safety.md. -/
abbrev eslRxLast : Nat := key 0x1401 2

/-- EslTxNext, R515 of spec/20_safety.md. -/
abbrev eslTxNext : Nat := key 0x1401 3

/-- EslLastRxTime, R515 of spec/20_safety.md. -/
abbrev eslLastRxTime : Nat := key 0x1401 4

/-- EslRxCount, R515 of spec/20_safety.md. -/
abbrev eslRxCount : Nat := key 0x1401 5

/-- EslLostCount, R515 of spec/20_safety.md. -/
abbrev eslLostCount : Nat := key 0x1401 6

/-- EslCrcErrorCount, R515 of spec/20_safety.md. -/
abbrev eslCrcErrorCount : Nat := key 0x1401 7

/-- EslSeqErrorCount, R515 of spec/20_safety.md. -/
abbrev eslSeqErrorCount : Nat := key 0x1401 8

/-- EslWdogCount, R515 of spec/20_safety.md. -/
abbrev eslWdogCount : Nat := key 0x1401 9

/-- EslTxSkipCount, R515 of spec/20_safety.md. -/
abbrev eslTxSkipCount : Nat := key 0x1401 10

/-- EslReopenCount, R515 of spec/20_safety.md. -/
abbrev eslReopenCount : Nat := key 0x1401 11

/-- EslPartner, R515 of spec/20_safety.md. -/
abbrev eslPartner : Nat := key 0x1401 12

/-- EslStatusTable, R515 of spec/20_safety.md. -/
abbrev eslStatusTable : Nat := key 0x1402 0

/-- SoRecord, R521 of spec/20_safety.md. -/
abbrev soRecord (i : Nat) : Nat := key (0x8100 + i) 0

/-- SoMode, R521 of spec/20_safety.md. -/
abbrev soMode (i : Nat) : Nat := key (0x8100 + i) 1

/-- SoTestPulse, R521 of spec/20_safety.md. -/
abbrev soTestPulse (i : Nat) : Nat := key (0x8100 + i) 2

/-- SoReadbackDelay, R521 of spec/20_safety.md. -/
abbrev soReadbackDelay (i : Nat) : Nat := key (0x8100 + i) 3

/-- SoOffPulse, R521 of spec/20_safety.md. -/
abbrev soOffPulse (i : Nat) : Nat := key (0x8100 + i) 4

/-- SoOffPulseInterval, R521 of spec/20_safety.md. -/
abbrev soOffPulseInterval (i : Nat) : Nat := key (0x8100 + i) 5

/-- SoOffPulseEnable, R521 of spec/20_safety.md. -/
abbrev soOffPulseEnable (i : Nat) : Nat := key (0x8100 + i) 6

/-- SoReadbackFilter, R521 of spec/20_safety.md. -/
abbrev soReadbackFilter (i : Nat) : Nat := key (0x8100 + i) 7

/-- SoCommand, R521 of spec/20_safety.md. -/
abbrev soCommand (i : Nat) : Nat := key (0x8100 + i) 8

/-- SoState, R521 of spec/20_safety.md. -/
abbrev soState (i : Nat) : Nat := key (0x8100 + i) 9

/-- SoReadback, R521 of spec/20_safety.md. -/
abbrev soReadback (i : Nat) : Nat := key (0x8100 + i) 10

/-- SoLastTestTime, R521 of spec/20_safety.md. -/
abbrev soLastTestTime (i : Nat) : Nat := key (0x8100 + i) 11

/-- SoFaultCount, R521 of spec/20_safety.md. -/
abbrev soFaultCount (i : Nat) : Nat := key (0x8100 + i) 12

/-- SiRecord, R527 of spec/20_safety.md. -/
abbrev siRecord (i : Nat) : Nat := key (0x8110 + i) 0

/-- SiMode, R527 of spec/20_safety.md. -/
abbrev siMode (i : Nat) : Nat := key (0x8110 + i) 1

/-- SiTestSource, R527 of spec/20_safety.md. -/
abbrev siTestSource (i : Nat) : Nat := key (0x8110 + i) 2

/-- SiPartner, R527 of spec/20_safety.md. -/
abbrev siPartner (i : Nat) : Nat := key (0x8110 + i) 3

/-- SiPairType, R527 of spec/20_safety.md. -/
abbrev siPairType (i : Nat) : Nat := key (0x8110 + i) 4

/-- SiFilter, R527 of spec/20_safety.md. -/
abbrev siFilter (i : Nat) : Nat := key (0x8110 + i) 5

/-- SiDiscrepancyTime, R527 of spec/20_safety.md. -/
abbrev siDiscrepancyTime (i : Nat) : Nat := key (0x8110 + i) 6

/-- SiScope, R527 of spec/20_safety.md. -/
abbrev siScope (i : Nat) : Nat := key (0x8110 + i) 7

/-- SiClass, R527 of spec/20_safety.md. -/
abbrev siClass (i : Nat) : Nat := key (0x8110 + i) 8

/-- SiValue, R527 of spec/20_safety.md. -/
abbrev siValue (i : Nat) : Nat := key (0x8110 + i) 9

/-- SiState, R527 of spec/20_safety.md. -/
abbrev siState (i : Nat) : Nat := key (0x8110 + i) 10

/-- SiDemandCount, R527 of spec/20_safety.md. -/
abbrev siDemandCount (i : Nat) : Nat := key (0x8110 + i) 11

/-- SiFaultCount, R527 of spec/20_safety.md. -/
abbrev siFaultCount (i : Nat) : Nat := key (0x8110 + i) 12

/-- TestPulses, R527 of spec/20_safety.md. -/
abbrev testPulses : Nat := key 0x8120 0

/-- SiTestPeriod, R527 of spec/20_safety.md. -/
abbrev siTestPeriod : Nat := key 0x8120 1

/-- SiTestPulse, R527 of spec/20_safety.md. -/
abbrev siTestPulse : Nat := key 0x8120 2

/-- SiTestDelay, R527 of spec/20_safety.md. -/
abbrev siTestDelay : Nat := key 0x8120 3

/-- FaultStatus, R536 of spec/21_faults_memory_leave.md. -/
abbrev faultStatus : Nat := key 0x2400 0

/-- FaultStatusLow, R536 of spec/21_faults_memory_leave.md. -/
abbrev faultStatusLow (k : Nat) : Nat := key 0x2400 (1 + 2 * k)

/-- FaultStatusHigh, R536 of spec/21_faults_memory_leave.md. -/
abbrev faultStatusHigh (k : Nat) : Nat := key 0x2400 (2 + 2 * k)

/-- FaultClassMap, R536 of spec/21_faults_memory_leave.md. -/
abbrev faultClassMap : Nat := key 0x2400 43

/-- FaultClear, R536 of spec/21_faults_memory_leave.md. -/
abbrev faultClear : Nat := key 0x2401 0

/-- FaultClearRequest, R536 of spec/21_faults_memory_leave.md. -/
abbrev faultClearRequest : Nat := key 0x2401 1

/-- FaultClearResult, R536 of spec/21_faults_memory_leave.md. -/
abbrev faultClearResult : Nat := key 0x2401 2

/-- FaultClearCount, R536 of spec/21_faults_memory_leave.md. -/
abbrev faultClearCount : Nat := key 0x2401 3

/-- FaultClearRefusedCount, R536 of spec/21_faults_memory_leave.md. -/
abbrev faultClearRefusedCount : Nat := key 0x2401 4

/-- FaultStore, R540 of spec/21_faults_memory_leave.md. -/
abbrev faultStore : Nat := key 0x2402 0

/-- FaultRecordCount, R540 of spec/21_faults_memory_leave.md. -/
abbrev faultRecordCount : Nat := key 0x2402 1

/-- FaultRecordNewest, R540 of spec/21_faults_memory_leave.md. -/
abbrev faultRecordNewest : Nat := key 0x2402 2

/-- FaultLostCount, R540 of spec/21_faults_memory_leave.md. -/
abbrev faultLostCount : Nat := key 0x2402 3

/-- EventLogCount, R540 of spec/21_faults_memory_leave.md. -/
abbrev eventLogCount : Nat := key 0x2402 4

/-- FaultRecordSelect, R540 of spec/21_faults_memory_leave.md. -/
abbrev faultRecordSelect : Nat := key 0x2402 5

/-- FaultRecordWindow, R540 of spec/21_faults_memory_leave.md. -/
abbrev faultRecordWindow : Nat := key 0x2402 6

/-- FaultStoreImage, R540 of spec/21_faults_memory_leave.md. -/
abbrev faultStoreImage : Nat := key 0x2403 0

/-- EventLogImage, R540 of spec/21_faults_memory_leave.md. -/
abbrev eventLogImage : Nat := key 0x2404 0

/-- FaultInject, R541 of spec/21_faults_memory_leave.md. -/
abbrev faultInject : Nat := key 0xF110 0

/-- InjectCode, R541 of spec/21_faults_memory_leave.md. -/
abbrev injectCode : Nat := key 0xF110 1

/-- InjectPinOverride, R541 of spec/21_faults_memory_leave.md. -/
abbrev injectPinOverride : Nat := key 0xF110 2

/-- InjectCommand, R541 of spec/21_faults_memory_leave.md. -/
abbrev injectCommand : Nat := key 0xF110 3

/-- InjectResult, R541 of spec/21_faults_memory_leave.md. -/
abbrev injectResult : Nat := key 0xF110 4

/-- MemBanks, R547 of spec/21_faults_memory_leave.md. -/
abbrev memBanks : Nat := key 0x2300 0

/-- MemBankRetain, R547 of spec/21_faults_memory_leave.md. -/
abbrev memBankRetain : Nat := key 0x2300 1

/-- MemBankRetained, R547 of spec/21_faults_memory_leave.md. -/
abbrev memBankRetained : Nat := key 0x2300 2

/-- MemEccCorrectedCount, R547 of spec/21_faults_memory_leave.md. -/
abbrev memEccCorrectedCount : Nat := key 0x2300 3

/-- MemEccUncorrectedCount, R547 of spec/21_faults_memory_leave.md. -/
abbrev memEccUncorrectedCount : Nat := key 0x2300 4

/-- MemRemapCount, R547 of spec/21_faults_memory_leave.md. -/
abbrev memRemapCount : Nat := key 0x2300 5

/-- MemRemapTable, R547 of spec/21_faults_memory_leave.md. -/
abbrev memRemapTable : Nat := key 0x2300 6

/-- MemConflict, R547 of spec/21_faults_memory_leave.md. -/
abbrev memConflict : Nat := key 0x2301 0

/-- MemConflictCount, R547 of spec/21_faults_memory_leave.md. -/
abbrev memConflictCount (k : Nat) : Nat := key 0x2301 (1 + k)

/-- MemConflictSaturated, R547 of spec/21_faults_memory_leave.md. -/
abbrev memConflictSaturated : Nat := key 0x2301 21

/-- MemTest, R547 of spec/21_faults_memory_leave.md. -/
abbrev memTest : Nat := key 0x2302 0

/-- MemTestPeriod, R547 of spec/21_faults_memory_leave.md. -/
abbrev memTestPeriod : Nat := key 0x2302 1

/-- MemTestPosition, R547 of spec/21_faults_memory_leave.md. -/
abbrev memTestPosition : Nat := key 0x2302 2

/-- MemTestPassCount, R547 of spec/21_faults_memory_leave.md. -/
abbrev memTestPassCount : Nat := key 0x2302 3

/-- MemTestLastPassDuration, R547 of spec/21_faults_memory_leave.md. -/
abbrev memTestLastPassDuration : Nat := key 0x2302 4

/-- MemTestLateCount, R547 of spec/21_faults_memory_leave.md. -/
abbrev memTestLateCount : Nat := key 0x2302 5

/-- MemTestFailCount, R547 of spec/21_faults_memory_leave.md. -/
abbrev memTestFailCount : Nat := key 0x2302 6

/-- LeaveArbiter, R556 of spec/21_faults_memory_leave.md. -/
abbrev leaveArbiter : Nat := key 0x2100 0

/-- LeaveCeiling, R556 of spec/21_faults_memory_leave.md. -/
abbrev leaveCeiling : Nat := key 0x2100 1

/-- LeaveSafetyReserve, R556 of spec/21_faults_memory_leave.md. -/
abbrev leaveSafetyReserve : Nat := key 0x2100 2

/-- LeaveInUse, R556 of spec/21_faults_memory_leave.md. -/
abbrev leaveInUse : Nat := key 0x2100 3

/-- LeavePeak, R556 of spec/21_faults_memory_leave.md. -/
abbrev leavePeak : Nat := key 0x2100 4

/-- LeaveWaiting, R556 of spec/21_faults_memory_leave.md. -/
abbrev leaveWaiting : Nat := key 0x2100 5

/-- LeaveWaitWarn, R556 of spec/21_faults_memory_leave.md. -/
abbrev leaveWaitWarn : Nat := key 0x2100 6

/-- LeaveGrantCount, R556 of spec/21_faults_memory_leave.md. -/
abbrev leaveGrantCount (k : Nat) : Nat := key 0x2100 (7 + k)

/-- LeaveSafetyOverrun, R556 of spec/21_faults_memory_leave.md. -/
abbrev leaveSafetyOverrun : Nat := key 0x2100 11

/-- LeaveEnergy, R556 of spec/21_faults_memory_leave.md. -/
abbrev leaveEnergy : Nat := key 0x2100 12

/-- LeaveEffectiveCeiling, R556 of spec/21_faults_memory_leave.md. -/
abbrev leaveEffectiveCeiling : Nat := key 0x2100 13

/-- TsRecord, R560 of spec/21_faults_memory_leave.md. -/
abbrev tsRecord (i : Nat) : Nat := key (0x2200 + i) 0

/-- TsTemperature, R560 of spec/21_faults_memory_leave.md. -/
abbrev tsTemperature (i : Nat) : Nat := key (0x2200 + i) 1

/-- TsPeak, R560 of spec/21_faults_memory_leave.md. -/
abbrev tsPeak (i : Nat) : Nat := key (0x2200 + i) 2

/-- TsState, R560 of spec/21_faults_memory_leave.md. -/
abbrev tsState (i : Nat) : Nat := key (0x2200 + i) 3

/-- TsWarnCount, R560 of spec/21_faults_memory_leave.md. -/
abbrev tsWarnCount (i : Nat) : Nat := key (0x2200 + i) 4

/-- VmRecord, R560 of spec/21_faults_memory_leave.md. -/
abbrev vmRecord (i : Nat) : Nat := key (0x2210 + i) 0

/-- VmVoltage, R560 of spec/21_faults_memory_leave.md. -/
abbrev vmVoltage (i : Nat) : Nat := key (0x2210 + i) 1

/-- VmMin, R560 of spec/21_faults_memory_leave.md. -/
abbrev vmMin (i : Nat) : Nat := key (0x2210 + i) 2

/-- VmMax, R560 of spec/21_faults_memory_leave.md. -/
abbrev vmMax (i : Nat) : Nat := key (0x2210 + i) 3

/-- VmState, R560 of spec/21_faults_memory_leave.md. -/
abbrev vmState (i : Nat) : Nat := key (0x2210 + i) 4

/-- VmFaultCount, R560 of spec/21_faults_memory_leave.md. -/
abbrev vmFaultCount (i : Nat) : Nat := key (0x2210 + i) 5

/-- PmRecord, R560 of spec/21_faults_memory_leave.md. -/
abbrev pmRecord (i : Nat) : Nat := key (0x2220 + i) 0

/-- PmFrequency, R560 of spec/21_faults_memory_leave.md. -/
abbrev pmFrequency (i : Nat) : Nat := key (0x2220 + i) 1

/-- PmFactory, R560 of spec/21_faults_memory_leave.md. -/
abbrev pmFactory (i : Nat) : Nat := key (0x2220 + i) 2

/-- PmDrift, R560 of spec/21_faults_memory_leave.md. -/
abbrev pmDrift (i : Nat) : Nat := key (0x2220 + i) 3

/-- HmConfig, R560 of spec/21_faults_memory_leave.md. -/
abbrev hmConfig : Nat := key 0x2230 0

/-- HmTempWarn, R560 of spec/21_faults_memory_leave.md. -/
abbrev hmTempWarn : Nat := key 0x2230 1

/-- HmTempCritical, R560 of spec/21_faults_memory_leave.md. -/
abbrev hmTempCritical : Nat := key 0x2230 2

/-- HmTempHysteresis, R560 of spec/21_faults_memory_leave.md. -/
abbrev hmTempHysteresis : Nat := key 0x2230 3

/-- HmVoltWarn, R560 of spec/21_faults_memory_leave.md. -/
abbrev hmVoltWarn : Nat := key 0x2230 4

/-- HmDriftLimit, R560 of spec/21_faults_memory_leave.md. -/
abbrev hmDriftLimit : Nat := key 0x2230 5

/-- T1sEnable, R493 of spec/19_ethernet_t1s.md. -/
abbrev t1sEnable (i : Nat) : Nat := key (0x1220 + 16 * i) 1

/-- T1sMacAddress, R493 of spec/19_ethernet_t1s.md. -/
abbrev t1sMacAddress (i : Nat) : Nat := key (0x1220 + 16 * i) 2

/-- T1sIpv4Address, R493 of spec/19_ethernet_t1s.md. -/
abbrev t1sIpv4Address (i : Nat) : Nat := key (0x1220 + 16 * i) 3

/-- T1sIpv4Mask, R493 of spec/19_ethernet_t1s.md. -/
abbrev t1sIpv4Mask (i : Nat) : Nat := key (0x1220 + 16 * i) 4

/-- T1sGateway, R493 of spec/19_ethernet_t1s.md. -/
abbrev t1sGateway (i : Nat) : Nat := key (0x1220 + 16 * i) 5

/-- T1sVlanId, R493 of spec/19_ethernet_t1s.md. -/
abbrev t1sVlanId (i : Nat) : Nat := key (0x1220 + 16 * i) 6

/-- T1sEslUdpPort, R493 of spec/19_ethernet_t1s.md. -/
abbrev t1sEslUdpPort (i : Nat) : Nat := key (0x1220 + 16 * i) 9

/-- GainTrim of one input (R182). -/
abbrev vswGainTrim (i : Nat) : Nat := key (0x33C0 + i) 1

/-- OffsetTrim of one input (R182). -/
abbrev vswOffsetTrim (i : Nat) : Nat := key (0x33C0 + i) 2

/-- GainTrim of one input (R182). -/
abbrev sdGainTrim (i : Nat) : Nat := key (0x33D8 + i) 1

/-- OffsetTrim of one input (R182). -/
abbrev sdOffsetTrim (i : Nat) : Nat := key (0x33D8 + i) 2

/-- GainTrim of one input (R182). -/
abbrev vdcGainTrim (i : Nat) : Nat := key (0x33F8 + i) 1

/-- OffsetTrim of one input (R182). -/
abbrev vdcOffsetTrim (i : Nat) : Nat := key (0x33F8 + i) 2

/-- GainTrim of one input (R182). -/
abbrev ainGainTrim (k : Nat) : Nat := key 0x33FC (2 * k + 1)

/-- OffsetTrim of one input (R182). -/
abbrev ainOffsetTrim (k : Nat) : Nat := key 0x33FC (2 * k + 2)

/-- GainTrim of one input (R182). -/
abbrev isnGainTrim (k : Nat) : Nat := key 0x33FD (2 * k + 1)

/-- OffsetTrim of one input (R182). -/
abbrev isnOffsetTrim (k : Nat) : Nat := key 0x33FD (2 * k + 2)

/-- GainTrim of one input (R182). -/
abbrev bstGainTrim (k : Nat) : Nat := key 0x33FE (2 * k + 1)

/-- OffsetTrim of one input (R182). -/
abbrev bstOffsetTrim (k : Nat) : Nat := key 0x33FE (2 * k + 2)

/-- GainTrim of one input (R182). -/
abbrev voutGainTrim (k : Nat) : Nat := key 0x33FF (2 * k + 1)

/-- OffsetTrim of one input (R182). -/
abbrev voutOffsetTrim (k : Nat) : Nat := key 0x33FF (2 * k + 2)

/-- Descriptor of signal slot q (R447). -/
abbrev slotDescriptor (q : Nat) : Nat := key (0x9000 + q / 32) (2 * (q % 32) + 1)

/-- Substitute value of signal slot q (R447). -/
abbrev slotSubstitute (q : Nat) : Nat := key (0x9000 + q / 32) (2 * (q % 32) + 2)

/-- Factory gain (R76). -/
abbrev calVswGain (i : Nat) : Nat := key (0xF010 + i) 1

/-- Factory offset (R76). -/
abbrev calVswOffset (i : Nat) : Nat := key (0xF010 + i) 2

/-- Factory gain (R76). -/
abbrev calVdcGain (i : Nat) : Nat := key (0xF030 + i) 1

/-- Factory offset (R76). -/
abbrev calVdcOffset (i : Nat) : Nat := key (0xF030 + i) 2

/-- Factory gain (R76). -/
abbrev calAinGain (i : Nat) : Nat := key (0xF040 + i) 1

/-- Factory offset (R76). -/
abbrev calAinOffset (i : Nat) : Nat := key (0xF040 + i) 2

/-- Factory gain (R76). -/
abbrev calIsnGain (i : Nat) : Nat := key (0xF050 + i) 1

/-- Factory offset (R76). -/
abbrev calIsnOffset (i : Nat) : Nat := key (0xF050 + i) 2

/-- Factory gain (R76). -/
abbrev calBstGain (i : Nat) : Nat := key (0xF060 + i) 1

/-- Factory offset (R76). -/
abbrev calBstOffset (i : Nat) : Nat := key (0xF060 + i) 2

/-- Factory gain (R76). -/
abbrev calVoutGain (i : Nat) : Nat := key (0xF070 + i) 1

/-- Factory offset (R76). -/
abbrev calVoutOffset (i : Nat) : Nat := key (0xF070 + i) 2

/-- Factory gain (R76). -/
abbrev calMtrGain (i : Nat) : Nat := key (0xF080 + i) 1

/-- Factory offset (R76). -/
abbrev calMtrOffset (i : Nat) : Nat := key (0xF080 + i) 2

/-- Factory gain (R76). -/
abbrev calTsGain (i : Nat) : Nat := key (0xF090 + i) 1

/-- Factory offset (R76). -/
abbrev calTsOffset (i : Nat) : Nat := key (0xF090 + i) 2

/-- TracPlanPeriod and TracPlanLate, R275 of spec/11_traction.md. -/
abbrev tracPlanPeriod : Nat := key 0x4920 1
abbrev tracPlanLate : Nat := key 0x4920 2

/-- LvHvMin, R331 of spec/13_lv_converter_actuators.md. -/
abbrev lvHvMin : Nat := key 0x5003 1

/-- LvIntMin, R331 of spec/13_lv_converter_actuators.md. -/
abbrev lvIntMin : Nat := key 0x5003 2

/-- LvBatteryLoopGain, R331 of spec/13_lv_converter_actuators.md. -/
abbrev lvBatteryLoopGain : Nat := key 0x5003 3

/-- LvRemovalRate, R331 of spec/13_lv_converter_actuators.md. -/
abbrev lvRemovalRate : Nat := key 0x5003 4

/-- LvRemovalFraction, R331 of spec/13_lv_converter_actuators.md. -/
abbrev lvRemovalFraction : Nat := key 0x5003 5

/-- LvRemovalMinCurrent, R331 of spec/13_lv_converter_actuators.md. -/
abbrev lvRemovalMinCurrent : Nat := key 0x5003 6

/-- LvAutoStart, R331 of spec/13_lv_converter_actuators.md. -/
abbrev lvAutoStart : Nat := key 0x5003 7

/-- LvPhaseTrim, R331 of spec/13_lv_converter_actuators.md. -/
abbrev lvPhaseTrim (k : Nat) : Nat := key 0x5003 (16 + k)

/-- XgGateOverrunCount, R492 of spec/19_ethernet_t1s.md. -/
abbrev xgGateOverrunCount (i : Nat) : Nat := key (0x1201 + 16 * i) 1

/-- StGridNominal, R371 of spec/15_station_site.md. -/
abbrev stGridNominal : Nat := key 0x6302 1

/-- StOvFastLevel, R371 of spec/15_station_site.md. -/
abbrev stOvFastLevel : Nat := key 0x6302 2

/-- StOvFastTime, R371 of spec/15_station_site.md. -/
abbrev stOvFastTime : Nat := key 0x6302 3

/-- StOvSlowLevel, R371 of spec/15_station_site.md. -/
abbrev stOvSlowLevel : Nat := key 0x6302 4

/-- StOvSlowTime, R371 of spec/15_station_site.md. -/
abbrev stOvSlowTime : Nat := key 0x6302 5

/-- StUvLevel, R371 of spec/15_station_site.md. -/
abbrev stUvLevel : Nat := key 0x6302 6

/-- StUvTime, R371 of spec/15_station_site.md. -/
abbrev stUvTime : Nat := key 0x6302 7

/-- StUfLevel, R371 of spec/15_station_site.md. -/
abbrev stUfLevel : Nat := key 0x6302 8

/-- StUfTime, R371 of spec/15_station_site.md. -/
abbrev stUfTime : Nat := key 0x6302 9

/-- StOfLevel, R371 of spec/15_station_site.md. -/
abbrev stOfLevel : Nat := key 0x6302 10

/-- StOfTime, R371 of spec/15_station_site.md. -/
abbrev stOfTime : Nat := key 0x6302 11

/-- StRocofLevel, R371 of spec/15_station_site.md. -/
abbrev stRocofLevel : Nat := key 0x6302 12

/-- StRocofTime, R371 of spec/15_station_site.md. -/
abbrev stRocofTime : Nat := key 0x6302 13

/-- StPhaseJumpLevel, R371 of spec/15_station_site.md. -/
abbrev stPhaseJumpLevel : Nat := key 0x6302 14

/-- StDcLevel, R371 of spec/15_station_site.md. -/
abbrev stDcLevel : Nat := key 0x6302 15

/-- StDcTime, R371 of spec/15_station_site.md. -/
abbrev stDcTime : Nat := key 0x6302 16

/-- StReconnectDelay, R371 of spec/15_station_site.md. -/
abbrev stReconnectDelay : Nat := key 0x6302 17

/-- StReconnectRamp, R371 of spec/15_station_site.md. -/
abbrev stReconnectRamp : Nat := key 0x6302 18

/-- StReconnectVmin, R371 of spec/15_station_site.md. -/
abbrev stReconnectVmin : Nat := key 0x6302 19

/-- StReconnectVmax, R371 of spec/15_station_site.md. -/
abbrev stReconnectVmax : Nat := key 0x6302 20

/-- StReconnectFmin, R371 of spec/15_station_site.md. -/
abbrev stReconnectFmin : Nat := key 0x6302 21

/-- StReconnectFmax, R371 of spec/15_station_site.md. -/
abbrev stReconnectFmax : Nat := key 0x6302 22

/-- StTripMax, R371 of spec/15_station_site.md. -/
abbrev stTripMax : Nat := key 0x6302 23

/-- StTripWindow, R371 of spec/15_station_site.md. -/
abbrev stTripWindow : Nat := key 0x6302 24

end Sys2Proof.Machine.Obj
end

