-- ==== Sys2Proof/Machine/Fn.lean ====
section
/-! DEFINITION. The device's functions (R2, R51) and the actions a safe plan may give a machine (R16, R272). -/

namespace Sys2Proof.Machine

/-- A function of the device that a fault, a plan or a reset may name. -/
inductive Fn
  | traction (m : Nat)
  | winding
  | inlet
  | lvConverter
  | chargePhase (c : Nat)
  | actuator (a : Nat)
  | tandem
  | stationPower
  | post
  | cooling
  | monarch
  | metering
  | hbGroup (g : Nat)
  | lvGroup (g : Nat)
  | engine (e : Nat)
  | timebase (t : Nat)
  | can (c : Nat)
  | esl (n : Nat)
  deriving DecidableEq, Repr

/-- What a committed plan does with a machine: R16, R272. -/
inductive PlanAct
  | pulseOff | ascUpper | ascLower
  deriving DecidableEq, Repr

/-- What drives a power-stage channel at its balls: PUL and ENA follow from it. -/
inductive Drive
  /-- ENA low -/
  | pulseOff
  /-- following its carrier, its pattern or its trigger -/
  | switching
  /-- ENA high, PUL high: the upper switch held on -/
  | ascUpper
  /-- ENA high, PUL low: the lower switch held on -/
  | ascLower
  deriving DecidableEq, Repr

/-- What drives a gate-supply ball. -/
inductive SupplyDrive
  | low | regulated | keeper
  deriving DecidableEq, Repr

end Sys2Proof.Machine
end

