-- ==== Sys2Proof/Machine/ObjTable.lean ====
section
/-! DEFINITION. The object dictionary as data: one record per row group of the spec's object tables, with each
sub-index's type, access code, default, range, write role and clear-on-read mark (R427, R428, R7, R8). -/

namespace Sys2Proof.Machine

/-- R14 of spec/01_architecture.md. -/
def rec_clock : Rec where
  bases := [(0x22F0, 0, 1)]
  scope := .dev
  pres := .any
  subs :=
    [Sub.one 0x00 .u8 .ro (.const (5)) (.full) 0 false,
     Sub.one 0x01 .bool .ro (.const 0) (.ints [(0, 1)]) 0 false,
     Sub.one 0x02 .u8 .ro (.const 0) (.ints [(0, 15)]) 0 false,
     Sub.one 0x03 .u32 .ro (.const (0)) (.full) 0 false,
     Sub.one 0x04 .u32 .ro (.const 0) (.ints [(3880000, 4120000)]) 0 false,
     Sub.one 0x05 .u8 .rw (.const (0)) (.ints [(0, 3)]) 2 false]

/-- R33 of spec/02_modes.md. -/
def rec_mode : Rec where
  bases := [(0x2000, 0, 1)]
  scope := .dev
  pres := .any
  subs :=
    [Sub.one 0x00 .u8 .ro (.const (12)) (.full) 0 false,
     Sub.one 0x01 .u8 .rw (.const (255)) (.ints [(1, 11), (255, 255)]) 2 false,
     Sub.one 0x02 .u8 .ro (.const 0) (.ints [(0, 11)]) 0 false,
     Sub.one 0x03 .u8 .ro (.const (0)) (.ints [(0, 8)]) 0 false,
     Sub.one 0x04 .u8 .ro (.const (255)) (.ints [(0, 11), (255, 255)]) 0 false,
     Sub.one 0x05 .u64 .ro (.const 0) (.full) 0 false,
     Sub.one 0x06 .u16 .rw (.const (100)) (.ints [(10, 1000)]) 2 false,
     Sub.one 0x07 .u16 .ro (.const (0)) (.full) 0 false,
     Sub.one 0x08 .u8 .rw (.const (31)) (.bits 0x3F) 2 false,
     Sub.one 0x09 .u32 .rw (.const (0)) (.ints [(0, 0), (60, 604800)]) 2 false,
     Sub.one 0x0A .u8 .ro (.const (0)) (.full) 0 false,
     Sub.one 0x0B .u32 .ro (.const (0)) (.full) 0 false,
     Sub.one 0x0C .u32 .ro (.const (0)) (.full) 0 false]

/-- R54 of spec/02_modes.md. -/
def rec_fnReset : Rec where
  bases := [(0x2500, 0, 1)]
  scope := .dev
  pres := .any
  subs :=
    [Sub.one 0x00 .u8 .ro (.const (5)) (.full) 0 false,
     Sub.one 0x01 .u32 .wo (.const 0) (.bits 0xFFFFFF) 2 false,
     Sub.one 0x02 .u8 .ro (.const (0)) (.ints [(0, 7)]) 0 false,
     Sub.one 0x03 .u32 .ro (.const (0)) (.full) 0 false,
     Sub.one 0x04 .u32 .ro (.const (0)) (.full) 0 false,
     Sub.one 0x05 .u32 .ro (.const (0)) (.full) 0 false]

/-- R64 of spec/03_seal_boot_calibration.md. -/
def rec_seal : Rec where
  bases := [(0x1010, 0, 1)]
  scope := .dev
  pres := .any
  subs :=
    [Sub.one 0x00 .u8 .ro (.const (7)) (.full) 0 false,
     Sub.one 0x01 .u8 .ro (.const 0) (.ints [(0, 255)]) 0 false,
     Sub.one 0x02 .u8 .ro (.const 0) (.ints [(0, 255)]) 0 false,
     Sub.one 0x03 .u8 .wo (.const 0) (.special 15) 5 false,
     Sub.one 0x04 .u8 .ro (.const (0)) (.ints [(0, 255)]) 0 false,
     Sub.one 0x05 .u32 .ro (.const (0)) (.full) 0 false,
     Sub.one 0x06 .u8 .ro (.const (0)) (.ints [(0, 255)]) 0 false,
     Sub.one 0x07 .u8 .ro (.const (0)) (.ints [(0, 255)]) 0 false]

/-- R74 of spec/03_seal_boot_calibration.md. -/
def rec_boot : Rec where
  bases := [(0x1011, 0, 1)]
  scope := .dev
  pres := .any
  subs :=
    [Sub.one 0x00 .u8 .ro (.const (10)) (.full) 0 false,
     Sub.one 0x01 .u8 .ro (.const 0) (.full) 0 false,
     Sub.one 0x02 .u32 .ro (.const 0) (.ints [(0, 50000)]) 0 false,
     Sub.one 0x03 .u8 .ro (.const 0) (.full) 0 false,
     Sub.one 0x04 .u32 .ro (.const 0) (.full) 0 false,
     Sub.one 0x05 .u32 .ro (.const 0) (.full) 0 false,
     Sub.one 0x06 .u32 .ro (.const (0)) (.full) 0 false,
     Sub.one 0x07 .u32 .ro (.const (0)) (.full) 0 false,
     Sub.one 0x08 .u32 .ro (.const (0)) (.full) 0 false,
     Sub.one 0x09 .bool .ro (.const (0)) (.ints [(0, 1)]) 0 false,
     Sub.one 0x0A .u8 .ro (.const (0)) (.full) 0 false]

/-- R81 of spec/03_seal_boot_calibration.md. -/
def rec_swap : Rec where
  bases := [(0x2010, 0, 1)]
  scope := .dev
  pres := .any
  subs :=
    [Sub.one 0x00 .u8 .ro (.const (11)) (.full) 0 false,
     Sub.one 0x01 .u8 .rw (.const (0)) (.full) 2 false,
     Sub.one 0x02 .u8 .rw (.const (0)) (.ints [(0, 3)]) 2 false,
     Sub.one 0x03 .u8 .rw (.const (0)) (.ints [(0, 7)]) 2 false,
     Sub.one 0x04 .u32 .rw (.const (0)) (.full) 2 false,
     Sub.one 0x05 .u64 .rw (.const (0)) (.full) 2 false,
     Sub.one 0x06 .u32 .rw (.const (0)) (.full) 2 false,
     Sub.one 0x07 .u8 .wo (.const 0) (.ints [(1, 2)]) 3 false,
     Sub.one 0x08 .u8 .ro (.const (0)) (.ints [(0, 13)]) 0 false,
     Sub.one 0x09 .u32 .ro (.const (0)) (.full) 0 false,
     Sub.one 0x0A .u16 .rw (.const (1000)) (.ints [(1, 60000)]) 2 false,
     Sub.one 0x0B .u64 .ro (.const (0)) (.full) 0 false]

/-- R82 of spec/03_seal_boot_calibration.md. -/
def rec_scope : Rec where
  bases := [(0x2020, 1, 8)]
  scope := .byInst
  pres := .any
  subs :=
    [Sub.one 0x00 .u8 .ro (.const (6)) (.full) 0 false,
     Sub.one 0x01 .u8 .ro (.const (0)) (.full) 0 false,
     Sub.one 0x02 .u32 .ro (.const 0) (.full) 0 false,
     Sub.one 0x03 .u32 .ro (.const 0) (.full) 0 false,
     Sub.one 0x04 .u8 .ro (.const (0)) (.full) 0 false,
     Sub.one 0x05 .u32 .ro (.const (0)) (.full) 0 false,
     Sub.one 0x06 .u64 .ro (.const (0)) (.full) 0 false]

/-- R95 of spec/04_angle_timebases.md. -/
def rec_tb : Rec where
  bases := [(0x3000, 16, 8)]
  scope := .tb
  pres := .any
  subs :=
    [Sub.one 0x00 .u8 .ro (.const (24)) (.full) 0 false,
     Sub.one 0x01 .u8 .rws (.const (0)) (.ints [(0, 4)]) 3 false,
     Sub.one 0x02 .u8 .rws (.const (0)) (.special 9) 3 false,
     Sub.one 0x03 .f32 .rws (.const (0)) (.flt 0xCA989680 0x4A989680) 3 false,
     Sub.one 0x04 .i64 .ro (.const (0)) (.full) 0 false,
     Sub.one 0x05 .f32 .ro (.const (0)) (.flt 0xCA989680 0x4A989680) 0 false,
     Sub.one 0x06 .u32 .ro (.const (0)) (.full) 0 false,
     Sub.one 0x07 .u32 .ro (.const (0)) (.full) 0 false,
     Sub.one 0x08 .u8 .ro (.const (0)) (.full) 0 false,
     Sub.one 0x09 .u32 .rws (.const (16777216)) (.ints [(65536, 1073741824)]) 3 false,
     Sub.one 0x0A .u16 .rws (.const (64)) (.ints [(1, 4096)]) 3 false,
     Sub.one 0x0B .u32 .rws (.const (4194304)) (.ints [(4096, 268435456)]) 3 false,
     Sub.one 0x0C .u32 .rws (.const (67108864)) (.ints [(1048576, 1073741824)]) 3 false,
     Sub.one 0x0D .u32 .rws (.const (1000)) (.ints [(10, 100000)]) 3 false,
     Sub.one 0x0E .u32 .rws (.const (5000)) (.ints [(0, 1000000)]) 3 false,
     Sub.one 0x0F .f32 .rws (.const (0)) (.flt 0x00000000 0x4A989680) 3 false,
     Sub.one 0x10 .f32 .rws (.const (1161527296)) (.flt 0x00000000 0x4A989680) 3 false,
     Sub.one 0x11 .i32 .ro (.const (0)) (.full) 0 false,
     Sub.one 0x12 .u32 .ro (.const (0)) (.full) 0 false,
     Sub.one 0x13 .u32 .ro (.const (0)) (.full) 0 false,
     Sub.one 0x14 .u8 .rwsDev (.const (0)) (.ints [(0, 7)]) 3 false,
     Sub.one 0x15 .bool .rws (.const (0)) (.ints [(0, 1)]) 3 false,
     Sub.one 0x16 .u16 .rws (.const (0)) (.bits 0xFFF) 3 false,
     Sub.one 0x17 .u64 .ro (.const (0)) (.full) 0 false] ++
    [Sub.one 0x18 .u32 .ro (.const (0)) (.full) 0 false]

/-- R105 of spec/04_angle_timebases.md. -/
def rec_evShadow : Rec where
  bases := [(0x3080, 1, 8)]
  scope := .tb
  pres := .any
  subs :=
    [Sub.one 0x00 (.dom 4096) .rws (.const 0) (.full) 3 false]

/-- R105 of spec/04_angle_timebases.md. -/
def rec_evActive : Rec where
  bases := [(0x3088, 1, 8)]
  scope := .tb
  pres := .any
  subs :=
    [Sub.one 0x00 (.dom 4096) .ro (.const 0) (.full) 0 false]

/-- R105 of spec/04_angle_timebases.md. -/
def rec_ev : Rec where
  bases := [(0x3090, 1, 8)]
  scope := .tb
  pres := .any
  subs :=
    [Sub.one 0x00 .u8 .ro (.const (8)) (.full) 0 false,
     Sub.one 0x01 .u32 .ro (.const (0)) (.full) 0 false,
     Sub.one 0x02 .u32 .ro (.const (0)) (.full) 0 false,
     Sub.one 0x03 .u32 .ro (.const (0)) (.full) 0 false,
     Sub.one 0x04 .u32 .ro (.const (0)) (.full) 0 false,
     Sub.one 0x05 .u32 .ro (.const (0)) (.full) 0 false,
     Sub.one 0x06 .bool .ro (.const (0)) (.ints [(0, 1)]) 0 false,
     Sub.one 0x07 .u8 .ro (.const (0)) (.ints [(0, 255)]) 0 false,
     Sub.one 0x08 .u32 .ro (.const (0)) (.full) 0 false]

/-- R105 of spec/04_angle_timebases.md. -/
def rec_stamp : Rec where
  bases := [(0x3098, 1, 8)]
  scope := .tb
  pres := .any
  subs :=
    [Sub.one 0x00 (.dom 512) .ro (.const 0) (.full) 0 false]

/-- R105 of spec/04_angle_timebases.md. -/
def rec_entry : Rec where
  bases := [(0x30A0, 0, 1)]
  scope := .entryTb
  pres := .any
  subs :=
    [Sub.one 0x00 .u8 .ro (.const (6)) (.full) 0 false,
     Sub.one 0x01 .u8 .rw (.const (0)) (.ints [(0, 7)]) 2 false,
     Sub.one 0x02 .u8 .rw (.const (0)) (.ints [(0, 254)]) 2 false,
     Sub.one 0x03 .u32 .rws (.const (0)) (.full) 3 false,
     Sub.one 0x04 .u32 .rws (.const (0)) (.full) 3 false,
     Sub.one 0x05 .u32 .rws (.const (0)) (.full) 3 false,
     Sub.one 0x06 .u32 .rws (.const (0)) (.full) 3 false]

/-- R112 of spec/05_pwm_patterns.md. -/
def rec_group : Rec where
  bases := [(0x3180, 1, 12), (0x3190, 1, 8)]
  scope := .group
  pres := .any
  subs :=
    [Sub.one 0x00 .u8 .ro (.const (16)) (.full) 0 false,
     Sub.one 0x01 .u32 .rws (.const (0)) (.special 6) 3 false,
     Sub.one 0x02 .u8 .rws (.const (0)) (.ints [(0, 7)]) 3 false,
     Sub.one 0x03 .u8 .rws (.const (0)) (.special 13) 3 false,
     Sub.one 0x04 .u16 .rws (.const (1)) (.ints [(1, 4096)]) 3 false,
     Sub.one 0x05 .u32 .rws (.const (0)) (.full) 3 false,
     Sub.one 0x06 .u16 .rws (.const (2560)) (.ints [(103, 10240)]) 3 false,
     Sub.one 0x07 .u8 .rws (.const (0)) (.ints [(0, 2)]) 3 false,
     Sub.one 0x08 .u32 .rws (.const (10000)) (.ints [(10, 1000000)]) 3 false,
     Sub.one 0x09 .u8 .rw (.const (0)) (.ints [(0, 63)]) 2 false,
     Sub.one 0x0A .bool .rws (.const (0)) (.ints [(0, 1)]) 3 false,
     Sub.one 0x0B .u8 .ro (.const (0)) (.full) 0 false,
     Sub.one 0x0C .u8 .rw (.const (0)) (.ints [(0, 2)]) 2 false,
     Sub.one 0x0D .u32 .ro (.const (0)) (.full) 0 false,
     Sub.one 0x0E .u64 .ro (.const (0)) (.full) 0 false,
     Sub.one 0x0F .u32 .ro (.const (0)) (.full) 0 false,
     Sub.one 0x10 .u32 .ro (.const (0)) (.full) 0 false]

/-- R122 of spec/05_pwm_patterns.md. -/
def rec_hb : Rec where
  bases := [(0x3100, 1, 24)]
  scope := .hbCh
  pres := .any
  subs :=
    [Sub.one 0x00 .u8 .ro (.const 31) (.full) 0 false,
     Sub.one 0x01 .u8 .ro (.const (255)) (.ints [(0, 11), (255, 255)]) 0 false,
     Sub.one 0x02 .u8 .rws (.const (0)) (.ints [(0, 2)]) 3 false,
     Sub.one 0x03 .u32 .rws (.const (0)) (.full) 3 false,
     Sub.one 0x04 .u16 .rws (.const (1024)) (.ints [(0, 51200)]) 3 false,
     Sub.one 0x05 .u16 .rws (.const (1024)) (.ints [(0, 51200)]) 3 false,
     Sub.one 0x06 .u32 .rw (.const (0)) (.ints [(0, 16777216)]) 2 false,
     Sub.one 0x07 .u32 .rw (.const (0)) (.full) 2 false,
     Sub.one 0x08 .u32 .ro (.const (0)) (.full) 0 false,
     Sub.one 0x09 .u8 .rws (.const (1)) (.ints [(0, 2)]) 3 false,
     Sub.one 0x0A .u8 .rws (.const (255)) (.ints [(0, 3), (255, 255)]) 3 false,
     Sub.one 0x0B .u16 .rws (.const (400)) (.ints [(100, 2000)]) 3 false,
     Sub.one 0x0C .f32 .rws (.const (1090519040)) (.flt 0x40000000 0x42480000) 3 false,
     Sub.one 0x0D .u16 .rws (.const (2000)) (.ints [(600, 10000)]) 3 false,
     Sub.one 0x0E .u8 .rws (.const (0)) (.ints [(0, 3)]) 3 false,
     Sub.one 0x0F .u8 .rws (.const (255)) (.ints [(0, 31), (255, 255)]) 3 false,
     Sub.one 0x10 .u8 .rws (.const (1)) (.ints [(0, 1)]) 3 false,
     Sub.one 0x11 .u8 .rws (.const (128)) (.bits 0x8F) 3 false,
     Sub.one 0x12 .u16 .rws (.const (20)) (.ints [(1, 1000)]) 3 false,
     Sub.one 0x13 .u8 .rws (.const (3)) (.ints [(0, 15)]) 3 false,
     Sub.one 0x14 .u16 .rws (.const (1000)) (.ints [(100, 60000)]) 3 false,
     Sub.one 0x15 .u8 .ro (.const (0)) (.ints [(0, 5)]) 0 false,
     Sub.one 0x16 .u8 .ro (.const (0)) (.full) 0 false,
     Sub.one 0x17 .u8 .ro (.const (0)) (.full) 0 false] ++
    [Sub.one 0x18 .u64 .ro (.const (0)) (.full) 0 false,
     Sub.one 0x19 .u32 .ro (.const (0)) (.full) 0 false,
     Sub.one 0x1A .u8 .ro (.const (0)) (.ints [(0, 15)]) 0 false,
     Sub.one 0x1B .f32 .ro (.const (0)) (.flt 0x00000000 0x44FA0000) 0 false,
     Sub.one 0x1C .f32 .ro (.const (0)) (.flt 0x00000000 0x44FA0000) 0 true,
     Sub.one 0x1D .f32 .rws (.const (1112014848)) (.flt 0x00000000 0x43FA0000) 3 false,
     Sub.one 0x1E .u8 .ro (.const (0)) (.full) 0 false,
     Sub.one 0x1F .u32 .ro (.const (0)) (.full) 0 false]

/-- R127 of spec/05_pwm_patterns.md. -/
def rec_patShadow : Rec where
  bases := [(0x31A0, 0, 1)]
  scope := .dev
  pres := .any
  subs :=
    [Sub.one 0x00 (.dom 32768) .rws (.const 0) (.full) 3 false]

/-- R127 of spec/05_pwm_patterns.md. -/
def rec_patActive : Rec where
  bases := [(0x31A1, 0, 1)]
  scope := .dev
  pres := .any
  subs :=
    [Sub.one 0x00 (.dom 32768) .ro (.const 0) (.full) 0 false]

/-- R127 of spec/05_pwm_patterns.md. -/
def rec_patDirShadow : Rec where
  bases := [(0x31A2, 0, 1)]
  scope := .dev
  pres := .any
  subs :=
    [Sub.one 0x00 (.dom 256) .rws (.const 0) (.full) 3 false]

/-- R127 of spec/05_pwm_patterns.md. -/
def rec_patDirActive : Rec where
  bases := [(0x31A3, 0, 1)]
  scope := .dev
  pres := .any
  subs :=
    [Sub.one 0x00 (.dom 256) .ro (.const 0) (.full) 0 false]

/-- R127 of spec/05_pwm_patterns.md. -/
def rec_pat : Rec where
  bases := [(0x31A4, 0, 1)]
  scope := .dev
  pres := .any
  subs :=
    [Sub.one 0x00 .u8 .ro (.const (3)) (.full) 0 false,
     Sub.one 0x01 .u32 .ro (.const 0) (.full) 0 false,
     Sub.one 0x02 .u32 .ro (.const (0)) (.full) 0 false,
     Sub.one 0x03 .u16 .ro (.const (0)) (.ints [(0, 4096)]) 0 false]

/-- R132 of spec/05_pwm_patterns.md. -/
def rec_lv : Rec where
  bases := [(0x31C0, 1, 16)]
  scope := .lvCh
  pres := .any
  subs :=
    [Sub.one 0x00 .u8 .ro (.const (16)) (.full) 0 false,
     Sub.one 0x01 .u8 .ro (.const (255)) (.ints [(0, 7), (255, 255)]) 0 false,
     Sub.one 0x02 .u8 .rws (.const (0)) (.ints [(0, 2)]) 3 false,
     Sub.one 0x03 .u32 .rws (.const (0)) (.full) 3 false,
     Sub.one 0x04 .u16 .rws (.const (256)) (.ints [(0, 51200)]) 3 false,
     Sub.one 0x05 .u16 .rws (.const (256)) (.ints [(0, 51200)]) 3 false,
     Sub.one 0x06 .u32 .rw (.const (0)) (.ints [(0, 16777216)]) 2 false,
     Sub.one 0x07 .u32 .rw (.const (0)) (.full) 2 false,
     Sub.one 0x08 .u32 .rw (.const (0)) (.ints [(0, 512000)]) 2 false,
     Sub.one 0x09 .bool .rws (.const (0)) (.ints [(0, 1)]) 3 false,
     Sub.one 0x0A .u16 .rws (.const (1536)) (.ints [(256, 10240)]) 3 false,
     Sub.one 0x0B .u8 .rws (.const (8)) (.ints [(1, 64)]) 3 false,
     Sub.one 0x0C .f32 .rws (.const (1091567616)) (.flt 0x40400000 0x41A00000) 3 false,
     Sub.one 0x0D .f32 .rws (.const (1089470464)) (.fltBelow 0x40200000 0x41980000 0x0C) 3 false,
     Sub.one 0x0E .u16 .rws (.const (10240)) (.ints [(1536, 51200)]) 3 false,
     Sub.one 0x0F .u32 .ro (.const (0)) (.full) 0 false,
     Sub.one 0x10 .u32 .ro (.const (0)) (.full) 0 false]

/-- R149 of spec/06_gate_drive.md. -/
def rec_gs : Rec where
  bases := [(0x3200, 1, 48)]
  scope := .gs
  pres := .any
  subs :=
    [Sub.one 0x00 .u8 .ro (.const (18)) (.full) 0 false,
     Sub.one 0x01 .bool .rws (.const (0)) (.ints [(0, 1)]) 3 false,
     Sub.one 0x02 .f32 .rws (.const (1099956224)) (.flt 0x41200000 0x41C80000) 3 false,
     Sub.one 0x03 .f32 .rws (.const (1097859072)) (.flt 0x40A00000 0x41C00000) 3 false,
     Sub.one 0x04 .f32 .rws (.const (1056964608)) (.flt 0x3DCCCCCD 0x40400000) 3 false,
     Sub.one 0x05 .f32 .rws (.const (1101529088)) (.flt 0x41300000 0x41F00000) 3 false,
     Sub.one 0x06 .f32 .rws (.const (1092616192)) (.flt 0x3F800000 0x42480000) 3 false,
     Sub.one 0x07 .u32 .rws (.const (400000)) (.ints [(100000, 1000000)]) 3 false,
     Sub.one 0x08 .u8 .rws (.const (45)) (.ints [(5, 50)]) 3 false,
     Sub.one 0x09 .u16 .rws (.const (150)) (.ints [(50, 180)]) 3 false,
     Sub.one 0x0A .u8 .rws (.const (16)) (.ints [(8, 64)]) 3 false,
     Sub.one 0x0B .u8 .ro (.const (0)) (.full) 0 false,
     Sub.one 0x0C .f32 .ro (.const (0)) (.flt 0x00000000 0x42C80000) 0 false,
     Sub.one 0x0D .u8 .ro (.const (0)) (.full) 0 false,
     Sub.one 0x0E .u32 .ro (.const (0)) (.full) 0 false,
     Sub.one 0x0F .f32 .ro (.const (0)) (.flt 0x00000000 0x3F000000) 0 false,
     Sub.one 0x10 .u32 .ro (.const (0)) (.ints [(0, 200)]) 0 false,
     Sub.one 0x11 .u16 .rws (.const (500)) (.ints [(100, 2000)]) 3 false,
     Sub.one 0x12 .u8 .rws (.const (4)) (.ints [(1, 16)]) 3 false]

/-- R168 of spec/07_sensing.md. -/
def rec_sd : Rec where
  bases := [(0x3340, 1, 32)]
  scope := .dev
  pres := .any
  subs :=
    [Sub.one 0x00 .u8 .ro (.const (14)) (.full) 0 false,
     Sub.one 0x01 .bool .rws (.const (0)) (.ints [(0, 1)]) 3 false,
     Sub.one 0x02 .u8 .rws (.const (0)) (.ints [(0, 3)]) 3 false,
     Sub.one 0x03 .u16 .rws (.const (0)) (.ints [(0, 255)]) 3 false,
     Sub.one 0x04 .f32 .rws (.const (1148846080)) (.flt 0x3F800000 0x469C4000) 3 false,
     Sub.one 0x05 .f32 .rws (.const (1147207680)) (.fltSym 4) 3 false,
     Sub.one 0x06 .f32 .rws (.const (3294691328)) (.fltSym 4) 3 false,
     Sub.one 0x07 .f32 .rws (.const (1101004800)) (.fltTo 4) 3 false,
     Sub.one 0x08 .f32 .ro (.const (0)) (.full) 0 false,
     Sub.one 0x09 .f32 .ro (.const (0)) (.full) 0 false,
     Sub.one 0x0A .f32 .rws (.const (1063675494)) (.flt 0x3F000000 0x3F800000) 3 false,
     Sub.one 0x0B .u16 .rws (.const (64)) (.ints [(16, 1024)]) 3 false,
     Sub.one 0x0C .u32 .ro (.const (0)) (.full) 0 false,
     Sub.one 0x0D .u32 .ro (.const (0)) (.full) 0 false,
     Sub.one 0x0E .u8 .ro (.const (0)) (.full) 0 false]

/-- R173 of spec/07_sensing.md. -/
def rec_vsw : Rec where
  bases := [(0x3300, 1, 24)]
  scope := .hbCh
  pres := .any
  subs :=
    [Sub.one 0x00 .u8 .ro (.const (9)) (.full) 0 false,
     Sub.one 0x01 .bool .rws (.const (0)) (.ints [(0, 1)]) 3 false,
     Sub.one 0x02 .f32 .rws (.const (1145569280)) (.flt 0x42C80000 0x44FA0000) 3 false,
     Sub.one 0x03 .u8 .rws (.const (0)) (.ints [(0, 1)]) 3 false,
     Sub.one 0x04 .f32 .ro (.const (0)) (.full) 0 false,
     Sub.one 0x05 .f32 .ro (.const (0)) (.full) 0 false,
     Sub.one 0x06 .f32 .ro (.const (0)) (.full) 0 false,
     Sub.one 0x07 .u32 .ro (.const (0)) (.full) 0 false,
     Sub.one 0x08 .u32 .ro (.const (0)) (.full) 0 false,
     Sub.one 0x09 .f32 .ro (.const (1150681088)) (.flt 0x43160000 0x453B8000) 0 false]

/-- R176 of spec/07_sensing.md. -/
def rec_vdc : Rec where
  bases := [(0x3380, 1, 4)]
  scope := .dev
  pres := .any
  subs :=
    [Sub.one 0x00 .u8 .ro (.const (10)) (.full) 0 false,
     Sub.one 0x01 .bool .rws (.const (0)) (.ints [(0, 1)]) 3 false,
     Sub.one 0x02 .f32 .rws (.const (1145569280)) (.flt 0x42C80000 0x44FA0000) 3 false,
     Sub.one 0x03 .f32 .ro (.const (0)) (.full) 0 false,
     Sub.one 0x04 .f32 .ro (.const (0)) (.full) 0 false,
     Sub.one 0x05 .f32 .ro (.const (0)) (.full) 0 false,
     Sub.one 0x06 .f32 .rws (.const (1073741824)) (.flt 0x3F000000 0x41200000) 3 false,
     Sub.one 0x07 .u8 .ro (.const (0)) (.full) 0 false,
     Sub.one 0x08 .f32 .ro (.const (0)) (.full) 0 true,
     Sub.one 0x09 .f32 .ro (.const (0)) (.full) 0 true,
     Sub.one 0x0A .f32 .ro (.const (1150681088)) (.flt 0x43160000 0x453B8000) 0 false]

/-- R179 of spec/07_sensing.md. -/
def rec_ain : Rec where
  bases := [(0x3390, 1, 16)]
  scope := .dev
  pres := .any
  subs :=
    [Sub.one 0x00 .u8 .ro (.const (11)) (.full) 0 false,
     Sub.one 0x01 .u8 .rws (.const (0)) (.ints [(0, 2)]) 3 false,
     Sub.one 0x02 .f32 .rws (.const (1065353216)) (.flt 0xC9742400 0x49742400) 3 false,
     Sub.one 0x03 .f32 .rws (.const (0)) (.flt 0xC9742400 0x49742400) 3 false,
     Sub.one 0x04 .f32 .rws (.const (1176256512)) (.flt 0x42C80000 0x49742400) 3 false,
     Sub.one 0x05 .f32 .rws (.const (1176256512)) (.flt 0x42C80000 0x49742400) 3 false,
     Sub.one 0x06 .f32 .rws (.const (1163309056)) (.flt 0x447A0000 0x461C4000) 3 false,
     Sub.one 0x07 .f32 .ro (.const (0)) (.full) 0 false,
     Sub.one 0x08 .f32 .rws (.const (3259498496)) (.full) 3 false,
     Sub.one 0x09 .f32 .rws (.const (1128792064)) (.full) 3 false,
     Sub.one 0x0A .u8 .ro (.const (0)) (.full) 0 false,
     Sub.one 0x0B .f32 .ro (.const (0)) (.flt 0x00000000 0x3FE66666) 0 false]

/-- R181 of spec/07_sensing.md. -/
def rec_lvSense : Rec where
  bases := [(0x33A0, 1, 16)]
  scope := .lvCh
  pres := .any
  subs :=
    [Sub.one 0x00 .u8 .ro (.const (8)) (.full) 0 false,
     Sub.one 0x01 .f32 .rws (.const (1101004800)) (.flt 0x3DCCCCCD 0x447A0000) 3 false,
     Sub.one 0x02 .f32 .rws (.const (1061158912)) (.flt 0x00000000 0x3FC00000) 3 false,
     Sub.one 0x03 .f32 .ro (.const (0)) (.full) 0 false,
     Sub.one 0x04 .f32 .rws (.const (1098907648)) (.flt 0x3F800000 0x42480000) 3 false,
     Sub.one 0x05 .f32 .ro (.const (0)) (.flt 0x00000000 0x42960000) 0 false,
     Sub.one 0x06 .f32 .ro (.const (0)) (.full) 0 true,
     Sub.one 0x07 .u8 .ro (.const (0)) (.full) 0 false,
     Sub.one 0x08 .u32 .ro (.const (0)) (.full) 0 false]

/-- R181 of spec/07_sensing.md. -/
def rec_vout : Rec where
  bases := [(0x33B0, 1, 4)]
  scope := .vout
  pres := .any
  subs :=
    [Sub.one 0x00 .u8 .ro (.const (4)) (.full) 0 false,
     Sub.one 0x01 .f32 .rws (.const (1109393408)) (.flt 0x3F800000 0x42C80000) 3 false,
     Sub.one 0x02 .f32 .ro (.const (0)) (.flt 0x00000000 0x43160000) 0 false,
     Sub.one 0x03 .f32 .ro (.const (0)) (.flt 0x00000000 0x43160000) 0 false,
     Sub.one 0x04 .u32 .ro (.const (0)) (.full) 0 false]

/-- R212 of spec/08_hawkmoth_engines.md. -/
def rec_slot : Rec where
  bases := [(0x4000, 1, 8), (0x4010, 1, 8), (0x4020, 1, 8), (0x4030, 1, 8), (0x4040, 1, 8), (0x4050, 1, 8), (0x4060, 1, 8), (0x4070, 1, 8)]
  scope := .engSlot
  pres := .any
  subs :=
    [Sub.one 0x00 .u8 .ro (.const (19)) (.full) 0 false,
     Sub.one 0x01 .u16 .rws (.const (0)) (.ints [(0, 4095)]) 3 false,
     Sub.one 0x02 .u8 .ro (.const (0)) (.full) 0 false,
     Sub.one 0x03 .u8 .rws (.const (0)) (.ints [(0, 2)]) 3 false,
     Sub.one 0x04 .u32 .ro (.const (0)) (.ints [(0, 65536)]) 0 false,
     Sub.one 0x05 .u16 .rws (.const (800)) (.ints [(1, 65535)]) 3 false,
     Sub.one 0x06 .u8 .rws (.const (2)) (.ints [(1, 16)]) 3 false,
     Sub.one 0x07 .u32 .rws (.const (0)) (.bits 0xFF0FFF) 3 false,
     Sub.one 0x08 .u8 .rws (.const (255)) (.ints [(0, 7), (255, 255)]) 3 false,
     Sub.one 0x09 .u32 .rws (.const (0)) (.ints [(0, 2147483648)]) 3 false,
     Sub.one 0x0A .u8 .rws (.const (0)) (.ints [(0, 7)]) 3 false,
     Sub.one 0x0B .u16 .rws (.const (65535)) (.ints [(0, 4095), (65535, 65535)]) 3 false,
     Sub.one 0x0C .u16 .rws (.const (4096)) (.ints [(4096, 16380)]) 3 false,
     Sub.one 0x0D .u32 .ro (.const (0)) (.full) 0 false,
     Sub.one 0x0E .u32 .ro (.const (0)) (.full) 0 false,
     Sub.one 0x0F .u32 .ro (.const (0)) (.full) 0 false,
     Sub.one 0x10 .u64 .ro (.const (0)) (.full) 0 false,
     Sub.one 0x11 .u32 .ro (.const (0)) (.full) 0 false,
     Sub.one 0x12 .u32 .ro (.const (0)) (.full) 0 true,
     Sub.one 0x13 .u16 .ro (.const (0)) (.ints [(0, 10000)]) 0 false]

/-- R213 of spec/08_hawkmoth_engines.md. -/
def rec_eng : Rec where
  bases := [(0x4008, 16, 8)]
  scope := .eng
  pres := .any
  subs :=
    [Sub.one 0x00 .u8 .ro (.const (13)) (.full) 0 false,
     Sub.one 0x01 .u8 .rwsDev (.const (0)) (.ints [(0, 7)]) 3 false,
     Sub.one 0x02 .u8 .ro (.const (0)) (.full) 0 false,
     Sub.one 0x03 .u64 .ro (.const (0)) (.full) 0 false,
     Sub.one 0x04 .u64 .ro (.const (0)) (.full) 0 false,
     Sub.one 0x05 .u32 .ro (.const (0)) (.full) 0 false,
     Sub.one 0x06 .u8 .ro (.const (255)) (.ints [(0, 7), (255, 255)]) 0 false,
     Sub.one 0x07 .u16 .ro (.const (0)) (.ints [(0, 4095)]) 0 false,
     Sub.one 0x08 .f32 .rws (.const (1101004800)) (.flt 0x3F800000 0x447A0000) 3 false,
     Sub.one 0x09 .u16 .wo (.const 0) (.full) 3 false,
     Sub.one 0x0A .u8 .ro (.const (0)) (.ints [(0, 5)]) 0 false,
     Sub.one 0x0B .u8 .ro (.const (0)) (.ints [(0, 100)]) 0 false,
     Sub.one 0x0C .u32 .ro (.const (0)) (.full) 0 false,
     Sub.one 0x0D .u32 .ro (.const (0)) (.full) 0 false]

/-- R214 of spec/08_hawkmoth_engines.md. -/
def rec_sup : Rec where
  bases := [(0x4009, 16, 8)]
  scope := .eng
  pres := .any
  subs :=
    [Sub.one 0x00 .u8 .ro (.const 119) (.full) 0 false,
     Sub.many 0x01 16 8 .bool .rws (.const (0)) (.ints [(0, 1)]) 3 false,
     Sub.many 0x02 16 8 .f32 .rws (.const (1065353216)) (.fltPos) 3 false,
     Sub.many 0x03 16 8 .u16 .rws (.const (8)) (.ints [(1, 65535)]) 3 false,
     Sub.many 0x04 16 8 .u16 .rws (.const (50)) (.ints [(0, 10000)]) 3 false,
     Sub.many 0x05 16 8 .u8 .ro (.const (0)) (.full) 0 false,
     Sub.many 0x06 16 8 .f32 .ro (.const (0)) (.full) 0 true,
     Sub.many 0x07 16 8 .u16 .rws (.const (0)) (.special 12) 3 false]

/-- R215 of spec/08_hawkmoth_engines.md. -/
def rec_progShadow : Rec where
  bases := [(0x4080, 1, 8)]
  scope := .eng
  pres := .any
  subs :=
    [Sub.one 0x00 (.dom 16384) .rws (.const 0) (.full) 3 false]

/-- R215 of spec/08_hawkmoth_engines.md. -/
def rec_progActive : Rec where
  bases := [(0x4088, 1, 8)]
  scope := .eng
  pres := .any
  subs :=
    [Sub.one 0x00 (.dom 16384) .ro (.const 0) (.full) 0 false]

/-- R215 of spec/08_hawkmoth_engines.md. -/
def rec_constShadow : Rec where
  bases := [(0x4090, 1, 8)]
  scope := .eng
  pres := .any
  subs :=
    [Sub.one 0x00 (.dom 16384) .rws (.const 0) (.full) 3 false]

/-- R215 of spec/08_hawkmoth_engines.md. -/
def rec_constActive : Rec where
  bases := [(0x4098, 1, 8)]
  scope := .eng
  pres := .any
  subs :=
    [Sub.one 0x00 (.dom 16384) .ro (.const 0) (.full) 0 false]

/-- R215 of spec/08_hawkmoth_engines.md. -/
def rec_stateInit : Rec where
  bases := [(0x40A0, 1, 8)]
  scope := .eng
  pres := .any
  subs :=
    [Sub.one 0x00 (.dom 49152) .rws (.const 0) (.full) 3 false]

/-- R215 of spec/08_hawkmoth_engines.md. -/
def rec_stateLive : Rec where
  bases := [(0x40A8, 1, 8)]
  scope := .eng
  pres := .any
  subs :=
    [Sub.one 0x00 (.dom 49152) .ro (.const 0) (.full) 0 false]

/-- R215 of spec/08_hawkmoth_engines.md. -/
def rec_mbxLive : Rec where
  bases := [(0x40B0, 1, 8)]
  scope := .eng
  pres := .any
  subs :=
    [Sub.one 0x00 (.dom 256) .ro (.const 0) (.full) 0 false]

/-- R234 of spec/09_engine_isa.md. -/
def rec_prog : Rec where
  bases := [(0x40B8, 1, 8)]
  scope := .eng
  pres := .any
  subs :=
    [Sub.one 0x00 .u8 .ro (.const (3)) (.full) 0 false,
     Sub.one 0x01 .u8 .ro (.const (0)) (.ints [(0, 11)]) 0 false,
     Sub.one 0x02 .u16 .ro (.const (0)) (.ints [(0, 4095)]) 0 false,
     Sub.one 0x03 .u8 .ro (.const (255)) (.ints [(0, 17), (255, 255)]) 0 false]

/-- R242 of spec/10_observer.md. -/
def rec_obsModel : Rec where
  bases := [(0x4801, 16, 4), (0x5201, 16, 4), (0x6411, 0, 1)]
  scope := .obs
  pres := .observer
  subs :=
    [Sub.one 0x00 .u8 .ro (.const (13)) (.full) 0 false,
     Sub.one 0x01 .u8 .rws (.const (4)) (.ints [(1, 32)]) 3 false,
     Sub.one 0x02 .u8 .rws (.const (3)) (.special 14) 3 false,
     Sub.one 0x03 .u32 .rws (.const (357913941)) (.full) 3 false,
     Sub.one 0x04 .f32 .rws (.const (1008981770)) (.flt 0x3727C5AC 0x42C80000) 3 false,
     Sub.one 0x05 .f32 .rws (.const (998295355)) (.flt 0x00000000 0x3C23D70A) 3 false,
     Sub.one 0x06 .u8 .rws (.const (255)) (.ints [(0, 15), (255, 255)]) 3 false,
     Sub.one 0x07 .f32 .rws (.const (961656599)) (.flt 0x33D6BF95 0x3F800000) 3 false,
     Sub.one 0x08 .f32 .rws (.const (970045207)) (.flt 0x33D6BF95 0x3F800000) 3 false,
     Sub.one 0x09 .f32 .rws (.const (1034147594)) (.flt 0x38D1B717 0x41200000) 3 false,
     Sub.one 0x0A .f32 .rws (.const (1145569280)) (.flt 0x3F800000 0x453B8000) 3 false,
     Sub.one 0x0B .u32 .rws (.const (0)) (.bits 0x3FFFFFFF) 3 false,
     Sub.one 0x0C .u32 .rws (.const (0)) (.bits 0x3FFFFFFF) 3 false,
     Sub.one 0x0D .u8 .rws (.const (0)) (.ints [(0, 3)]) 3 false]

/-- R260 of spec/10_observer.md. -/
def rec_obs : Rec where
  bases := [(0x4800, 16, 4), (0x5200, 16, 4), (0x6410, 0, 1)]
  scope := .obs
  pres := .observer
  subs :=
    [Sub.one 0x00 .u8 .ro (.const (15)) (.full) 0 false,
     Sub.one 0x01 .u8 .ro (.const (0)) (.ints [(0, 8)]) 0 false,
     Sub.one 0x02 .bool .ro (.const (0)) (.ints [(0, 1)]) 0 false,
     Sub.one 0x03 .u32 .ro (.const (0)) (.full) 0 false,
     Sub.one 0x04 .f32 .ro (.const (0)) (.flt 0xCA989680 0x4A989680) 0 false,
     Sub.one 0x05 .f32 .ro (.const (0)) (.full) 0 false,
     Sub.one 0x06 .f32 .ro (.const (0)) (.flt 0x00000000 0x3F800000) 0 false,
     Sub.one 0x07 .f32 .ro (.const (0)) (.full) 0 false,
     Sub.one 0x08 .f32 .ro (.const (0)) (.full) 0 true,
     Sub.one 0x09 .u8 .ro (.const (0)) (.full) 0 false,
     Sub.one 0x0A .f32 .ro (.const (0)) (.full) 0 false,
     Sub.one 0x0B .f32 .ro (.const (0)) (.full) 0 false,
     Sub.one 0x0C .f32 .ro (.const (0)) (.full) 0 false,
     Sub.one 0x0D .f32 .ro (.const (0)) (.full) 0 false,
     Sub.one 0x0E .u32 .ro (.const (0)) (.full) 0 false,
     Sub.one 0x0F .u32 .ro (.const (0)) (.ints [(0, 5000)]) 0 false]

/-- R261 of spec/10_observer.md. -/
def rec_obsConf : Rec where
  bases := [(0x4802, 16, 4), (0x5202, 16, 4), (0x6412, 0, 1)]
  scope := .obs
  pres := .observer
  subs :=
    [Sub.one 0x00 .u8 .ro (.const (20)) (.full) 0 false,
     Sub.one 0x01 .bool .rws (.const (0)) (.ints [(0, 1)]) 3 false,
     Sub.one 0x02 .bool .rws (.const (1)) (.ints [(0, 1)]) 3 false,
     Sub.one 0x03 .f32 .rws (.const (1101004800)) (.flt 0x3F800000 0x43480000) 3 false,
     Sub.one 0x04 .u16 .rws (.const (10)) (.ints [(2, 30)]) 3 false,
     Sub.one 0x05 .f32 .rws (.const (1082130432)) (.flt 0x3F800000 0x42440000) 3 false,
     Sub.one 0x06 .f32 .rws (.const (1090519040)) (.flt 0x40000000 0x42480000) 3 false,
     Sub.one 0x07 .f32 .rws (.const (1065353216)) (.flt 0x3DCCCCCD 0x41200000) 3 false,
     Sub.one 0x08 .f32 .rws (.const (1112014848)) (.flt 0x40A00000 0x44FA0000) 3 false,
     Sub.one 0x09 .f32 .rws (.const (1084227584)) (.flt 0x3F000000 0x42C80000) 3 false,
     Sub.one 0x0A .u16 .rws (.const (2000)) (.ints [(500, 10000)]) 3 false,
     Sub.one 0x0B .f32 .rws (.const (1114636288)) (.flt 0x40A00000 0x43C80000) 3 false,
     Sub.one 0x0C .u16 .rws (.const (100)) (.ints [(20, 1000)]) 3 false,
     Sub.one 0x0D .f32 .rws (.const (1084227584)) (.flt 0x3F800000 0x42480000) 3 false,
     Sub.one 0x0E .f32 .rws (.const (1101004800)) (.flt 0x3DCCCCCD 0x44FA0000) 3 false,
     Sub.one 0x0F .u16 .rws (.const (16)) (.ints [(1, 65535)]) 3 false,
     Sub.one 0x10 .u16 .rws (.const (50)) (.ints [(0, 10000)]) 3 false,
     Sub.one 0x11 .u16 .rws (.const (1024)) (.ints [(64, 16384)]) 3 false,
     Sub.one 0x12 .f32 .rws (.const (1082130432)) (.flt 0x40000000 0x41A00000) 3 false,
     Sub.one 0x13 .u16 .rws (.const (5000)) (.ints [(500, 5000)]) 3 false,
     Sub.one 0x14 .f32 .rws (.const (1073741824)) (.flt 0x3F000000 0x41F00000) 3 false]

/-- R262 of spec/10_observer.md. -/
def rec_comm : Rec where
  bases := [(0x4803, 16, 4), (0x5203, 16, 4), (0x6413, 0, 1)]
  scope := .obs
  pres := .observer
  subs :=
    [Sub.one 0x00 .u8 .ro (.const (11)) (.full) 0 false,
     Sub.one 0x01 .u8 .ro (.const (0)) (.ints [(0, 11)]) 0 false,
     Sub.one 0x02 .u32 .ro (.const (0)) (.full) 0 false,
     Sub.one 0x03 .u8 .ro (.const (0)) (.full) 0 false,
     Sub.one 0x04 .f32 .rws (.const (1073741824)) (.flt 0x00000000 0x41200000) 3 false,
     Sub.one 0x05 .f32 .rws (.obs 1112014848 1073741824) (.flt 0x3DCCCCCD 0x44FA0000) 3 false,
     Sub.one 0x06 .u16 .rws (.obs 200 50) (.ints [(10, 10000)]) 3 false,
     Sub.one 0x07 .u8 .ro (.const (0)) (.full) 0 false,
     Sub.one 0x08 .u32 .ro (.const (0)) (.full) 0 false,
     Sub.one 0x09 .f32 .rws (.obs 1056964608 1073741824) (.flt 0x3DCCCCCD 0x41200000) 3 false,
     Sub.one 0x0A .bool .ro (.const (0)) (.ints [(0, 1)]) 0 false,
     Sub.one 0x0B .u64 .ro (.const (0)) (.full) 0 false]

/-- R274 of spec/11_traction.md. -/
def rec_plan : Rec where
  bases := [(0x4900, 1, 4)]
  scope := .machine
  pres := .vehicle
  subs :=
    [Sub.one 0x00 .u8 .ro (.const (8)) (.full) 0 false,
     Sub.one 0x01 .u8 .ro (.const (255)) (.full) 0 false,
     Sub.one 0x02 .u8 .ro (.const (0)) (.full) 0 false,
     Sub.one 0x03 .u64 .ro (.const (0)) (.full) 0 false,
     Sub.one 0x04 .u32 .ro (.const (0)) (.full) 0 false,
     Sub.one 0x05 .u8 .rws (.const (1)) (.ints [(0, 1)]) 3 false,
     Sub.one 0x06 .f32 .constant (.const (1119748096)) (.flt 0x42BE0000 0x42BE0000) 0 false,
     Sub.one 0x07 .f32 .rws (.const (1118437376)) (.flt 0x42480000 0x42BC0000) 3 false,
     Sub.one 0x08 .f32 .ro (.const (0)) (.full) 0 false]

/-- R288 of spec/11_traction.md. -/
def rec_tlink : Rec where
  bases := [(0x4910, 1, 4)]
  scope := .dev
  pres := .vehicle
  subs :=
    [Sub.one 0x00 .u8 .ro (.const (16)) (.full) 0 false,
     Sub.one 0x01 .f32 .rws (.const (1146880000)) (.flt 0x42480000 0x451C4000) 3 false,
     Sub.one 0x02 .f32 .rws (.const (1147535360)) (.flt 0x42480000 0x451C4000) 3 false,
     Sub.one 0x03 .f32 .rws (.const (1148518400)) (.flt 0x42480000 0x451C4000) 3 false,
     Sub.one 0x04 .f32 .rws (.const (1141473280)) (.flt 0x42480000 0x451C4000) 3 false,
     Sub.one 0x05 .f32 .rws (.const (1138819072)) (.flt 0x42480000 0x451C4000) 3 false,
     Sub.one 0x06 .f32 .rws (.const (1092616192)) (.flt 0x3F800000 0x42C80000) 3 false,
     Sub.one 0x07 .u8 .rws (.const (255)) (.ints [(0, 23), (255, 255)]) 3 false,
     Sub.one 0x08 .u8 .rws (.const (2)) (.ints [(1, 16)]) 3 false,
     Sub.one 0x09 .f32 .rws (.const (1112014848)) (.flt 0x3F800000 0x461C4000) 3 false,
     Sub.one 0x0A .f32 .rw (.const (0)) (.flt 0x00000000 0x461C4000) 2 false,
     Sub.one 0x0B .f32 .rw (.const (0)) (.flt 0x00000000 0x461C4000) 2 false,
     Sub.one 0x0C .bool .rw (.const (0)) (.ints [(0, 1)]) 2 false,
     Sub.one 0x0D .u8 .ro (.const (0)) (.full) 0 false,
     Sub.one 0x0E .bool .ro (.const (0)) (.ints [(0, 1)]) 0 false,
     Sub.one 0x0F .f32 .ro (.const (1148518400)) (.flt 0x42480000 0x451C4000) 0 false,
     Sub.one 0x10 .f32 .ro (.const (0)) (.flt 0x00000000 0x3F800000) 0 false]

/-- R290 of spec/11_traction.md. -/
def rec_trac : Rec where
  bases := [(0x4804, 16, 4)]
  scope := .machine
  pres := .vehicle
  subs :=
    [Sub.one 0x00 .u8 .ro (.const (22)) (.full) 0 false,
     Sub.one 0x01 .bool .rws (.const (0)) (.ints [(0, 1)]) 3 false,
     Sub.one 0x02 .f32 .rws (.const (1148846080)) (.flt 0x00000000 0x469C4000) 3 false,
     Sub.one 0x03 .f32 .rws (.const (1145569280)) (.flt 0x00000000 0x469C4000) 3 false,
     Sub.one 0x04 .f32 .rws (.const (1142292480)) (.flt 0x3F800000 0x459C4000) 3 false,
     Sub.one 0x05 .f32 .rws (.const (1176256512)) (.flt 0x42C80000 0x49742400) 3 false,
     Sub.one 0x06 .f32 .rws (.const (1120403456)) (.flt 0x00000000 0x42C80000) 3 false,
     Sub.one 0x07 .f32 .rws (.const (1120403456)) (.flt 0x3F800000 0x447A0000) 3 false,
     Sub.one 0x08 .f32 .rws (.const (1178304512)) (.flt 0x42C80000 0x46EA6000) 3 false,
     Sub.one 0x09 .f32 .rws (.const (1128792064)) (.flt 0x41200000 0x44FA0000) 3 false,
     Sub.one 0x0A .u8 .rws (.const (0)) (.ints [(0, 63)]) 3 false,
     Sub.one 0x0B .u8 .rws (.const (1)) (.ints [(0, 63)]) 3 false,
     Sub.one 0x0C .u8 .rws (.const (2)) (.ints [(0, 63)]) 3 false,
     Sub.one 0x0D .u16 .rws (.const (4352)) (.ints [(4096, 16382)]) 3 false,
     Sub.one 0x0E .u32 .rws (.const (4294967295)) (.special 1) 3 false,
     Sub.one 0x0F .f32 .rws (.const (1125515264)) (.flt 0xC2200000 0x43480000) 3 false,
     Sub.one 0x10 .f32 .rws (.const (1127153664)) (.flt 0xC2200000 0x435C0000) 3 false,
     Sub.one 0x11 .u16 .rws (.const (20)) (.ints [(1, 1000)]) 3 false,
     Sub.one 0x12 .u32 .rws (.const (1000)) (.ints [(100, 100000)]) 3 false,
     Sub.one 0x13 .f32 .rws (.const (1112014848)) (.flt 0x00000000 0x42C80000) 3 false,
     Sub.one 0x14 .f32 .rws (.const (1114636288)) (.flt 0x41200000 0x42C80000) 3 false,
     Sub.one 0x15 .u16 .rws (.const (2000)) (.ints [(100, 60000)]) 3 false,
     Sub.one 0x16 .u16 .rws (.const (200)) (.ints [(10, 5000)]) 3 false]

/-- R291 of spec/11_traction.md. -/
def rec_tracSt : Rec where
  bases := [(0x4805, 16, 4)]
  scope := .machine
  pres := .vehicle
  subs :=
    [Sub.one 0x00 .u8 .ro (.const (11)) (.full) 0 false,
     Sub.one 0x01 .f32 .rw (.const (0)) (.flt 0xC69C4000 0x469C4000) 2 false,
     Sub.one 0x02 .u8 .rw (.const (0)) (.ints [(0, 1)]) 2 false,
     Sub.one 0x03 .f32 .rw (.const (0)) (.flt 0xC6EA6000 0x46EA6000) 2 false,
     Sub.one 0x04 .f32 .rw (.const (0)) (.flt 0xC7C35000 0x47C35000) 2 false,
     Sub.one 0x05 .f32 .ro (.const (0)) (.flt 0xC69C4000 0x469C4000) 0 false,
     Sub.one 0x06 .f32 .ro (.const (0)) (.flt 0xC69C4000 0x469C4000) 0 false,
     Sub.one 0x07 .f32 .ro (.const (0)) (.flt 0xC69C4000 0x469C4000) 0 false,
     Sub.one 0x08 .f32 .ro (.const (0)) (.flt 0x00000000 0x459C4000) 0 false,
     Sub.one 0x09 .u16 .ro (.const (0)) (.full) 0 false,
     Sub.one 0x0A .u8 .ro (.const (0)) (.full) 0 false,
     Sub.one 0x0B .f32 .ro (.const (1065353216)) (.flt 0x00000000 0x3F800000) 0 false]

/-- R291 of spec/11_traction.md. -/
def rec_tracDeg : Rec where
  bases := [(0x4806, 16, 4)]
  scope := .machine
  pres := .vehicle
  subs :=
    [Sub.one 0x00 .u8 .ro (.const (12)) (.full) 0 false,
     Sub.one 0x01 .f32 .rws (.const (1106247680)) (.flt 0x3F800000 0x447A0000) 3 false,
     Sub.one 0x02 .u16 .rws (.const (8)) (.ints [(2, 1000)]) 3 false,
     Sub.one 0x03 .f32 .rws (.const (1120403456)) (.flt 0x3F800000 0x459C4000) 3 false,
     Sub.one 0x04 .f32 .rws (.const (1092616192)) (.flt 0x3F800000 0x42480000) 3 false,
     Sub.one 0x05 .f32 .rws (.const (1084227584)) (.flt 0x3F800000 0x42C80000) 3 false,
     Sub.one 0x06 .f32 .rws (.const (1116471296)) (.flt 0x41200000 0x428C0000) 3 false,
     Sub.one 0x07 .f32 .rws (.const (1112014848)) (.flt 0x41200000 0x42480000) 3 false,
     Sub.one 0x08 .u16 .ro (.const (65535)) (.full) 0 false,
     Sub.one 0x09 .u8 .ro (.const (255)) (.full) 0 false,
     Sub.one 0x0A .u8 .ro (.const (0)) (.full) 0 false,
     Sub.one 0x0B .f32 .ro (.const (0)) (.full) 0 true,
     Sub.one 0x0C .u32 .ro (.const (0)) (.full) 0 false]

/-- R310 of spec/12_winding_charging.md. -/
def rec_wcConf : Rec where
  bases := [(0x5800, 0, 1)]
  scope := .dev
  pres := .vehicle
  subs :=
    [Sub.one 0x00 .u8 .ro (.const (28)) (.full) 0 false,
     Sub.one 0x01 .bool .rws (.const (0)) (.ints [(0, 1)]) 3 false,
     Sub.one 0x02 .u8 .rws (.const (0)) (.ints [(0, 3)]) 3 false,
     Sub.one 0x03 .u8 .rws (.const (0)) (.ints [(0, 1)]) 3 false,
     Sub.one 0x04 .u8 .rws (.const (1)) (.ints [(1, 3)]) 3 false,
     Sub.one 0x05 .u8 .rws (.const (2)) (.ints [(0, 7)]) 3 false,
     Sub.one 0x06 .u8 .rws (.const (255)) (.ints [(0, 7), (255, 255)]) 3 false,
     Sub.one 0x07 .u8 .rws (.const (255)) (.ints [(0, 7), (255, 255)]) 3 false,
     Sub.one 0x08 .u8 .rws (.const (255)) (.ints [(0, 7), (255, 255)]) 3 false,
     Sub.one 0x09 .u16 .rws (.const (50)) (.ints [(10, 500)]) 3 false,
     Sub.one 0x0A .u8 .rws (.const (255)) (.ints [(0, 3), (255, 255)]) 3 false,
     Sub.one 0x0B .bool .rws (.const (0)) (.ints [(0, 1)]) 3 false,
     Sub.one 0x0C .f32 .rws (.const (1102053376)) (.flt 0x00000000 0x42300000) 3 false,
     Sub.one 0x0D .f32 .rws (.const (1093664768)) (.flt 0x00000000 0x42300000) 3 false,
     Sub.one 0x0E .f32 .rws (.const (1102053376)) (.flt 0x00000000 0x42300000) 3 false,
     Sub.one 0x0F .f32 .rws (.const (1107296256)) (.flt 0x3F800000 0x42800000) 3 false,
     Sub.one 0x10 .f32 .rws (.const (1092616192)) (.flt 0x3DCCCCCD 0x42C80000) 3 false,
     Sub.one 0x11 .f32 .rws (.const (1084227584)) (.flt 0x3F800000 0x41F00000) 3 false,
     Sub.one 0x12 .u16 .rws (.const (100)) (.ints [(20, 10000)]) 3 false,
     Sub.one 0x13 .f32 .rws (.const (1064514355)) (.flt 0x3F000000 0x3F800000) 3 false,
     Sub.one 0x14 .bool .rws (.const (0)) (.ints [(0, 1)]) 3 false,
     Sub.one 0x15 .f32 .rws (.const (1106247680)) (.flt 0x40A00000 0x43480000) 3 false,
     Sub.one 0x16 .f32 .rws (.const (1125515264)) (.flt 0x3F800000 0x447A0000) 3 false,
     Sub.one 0x17 .f32 .rws (.const (1084227584)) (.flt 0x3F800000 0x41A00000) 3 false] ++
    [Sub.one 0x18 .f32 .rws (.const (1142292480)) (.flt 0x42480000 0x451C4000) 3 false,
     Sub.one 0x19 .f32 .rws (.const (1092616192)) (.flt 0x3F800000 0x42480000) 3 false,
     Sub.one 0x1A .f32 .rws (.const (1092616192)) (.flt 0x3F800000 0x43FA0000) 3 false,
     Sub.one 0x1B .u8 .rws (.const (8)) (.ints [(2, 20)]) 3 false,
     Sub.one 0x1C .u8 .rws (.const (16)) (.ints [(0, 63)]) 3 false]

/-- R310 of spec/12_winding_charging.md. -/
def rec_wc : Rec where
  bases := [(0x5801, 0, 1)]
  scope := .dev
  pres := .vehicle
  subs :=
    [Sub.one 0x00 .u8 .ro (.const (16)) (.full) 0 false,
     Sub.one 0x01 .f32 .rw (.const (0)) (.flt 0xC2300000 0x42300000) 2 false,
     Sub.one 0x02 .f32 .rw (.const (0)) (.flt 0xC2300000 0x42300000) 2 false,
     Sub.one 0x03 .f32 .ro (.const (0)) (.flt 0x00000000 0x42800000) 0 false,
     Sub.one 0x04 .bool .ro (.const (0)) (.ints [(0, 1)]) 0 false,
     Sub.one 0x05 .u8 .ro (.const (0)) (.full) 0 false,
     Sub.one 0x06 .u8 .ro (.const (0)) (.full) 0 false,
     Sub.one 0x07 .bool .ro (.const (0)) (.ints [(0, 1)]) 0 false,
     Sub.one 0x08 .f32 .ro (.const (0)) (.flt 0xC2300000 0x42300000) 0 false,
     Sub.one 0x09 .f32 .ro (.const (0)) (.flt 0xC2480000 0x42480000) 0 false,
     Sub.one 0x0A .f32 .ro (.const (0)) (.flt 0x00000000 0x44160000) 0 false,
     Sub.one 0x0B .f32 .ro (.const (0)) (.flt 0x00000000 0x42C80000) 0 false,
     Sub.one 0x0C .u16 .ro (.const (0)) (.full) 0 false,
     Sub.one 0x0D .u8 .ro (.const (0)) (.full) 0 false,
     Sub.one 0x0E .u32 .ro (.const (0)) (.full) 0 false,
     Sub.one 0x0F .u32 .ro (.const (0)) (.ints [(0, 3600)]) 0 false,
     Sub.one 0x10 .u64 .ro (.const (0)) (.full) 0 false]

/-- R310 of spec/12_winding_charging.md. -/
def rec_wcTripRec : Rec where
  bases := [(0x5802, 0, 1)]
  scope := .dev
  pres := .vehicle
  subs :=
    [Sub.one 0x00 .u8 .ro (.const (24)) (.full) 0 false,
     Sub.one 0x01 .f32 .rws (.const (1137180672)) (.flt 0x42C80000 0x43FA0000) 3 false,
     Sub.one 0x02 .f32 .rws (.const (1122369536)) (.flt 0x42C80000 0x43020000) 3 false,
     Sub.one 0x03 .u16 .rws (.const (100)) (.ints [(0, 60000)]) 3 false,
     Sub.one 0x04 .f32 .rws (.const (1121714176)) (.flt 0x42C80000 0x43020000) 3 false,
     Sub.one 0x05 .u16 .rws (.const (3000)) (.ints [(0, 60000)]) 3 false,
     Sub.one 0x06 .f32 .rws (.const (1117782016)) (.flt 0x41200000 0x42C80000) 3 false,
     Sub.one 0x07 .u16 .rws (.const (500)) (.ints [(0, 60000)]) 3 false,
     Sub.one 0x08 .f32 .rws (.const (1111359488)) (.flt 0x42200000 0x42700000) 3 false,
     Sub.one 0x09 .u16 .rws (.const (100)) (.ints [(0, 60000)]) 3 false,
     Sub.one 0x0A .f32 .rws (.const (1112408064)) (.flt 0x42480000 0x428C0000) 3 false,
     Sub.one 0x0B .u16 .rws (.const (100)) (.ints [(0, 60000)]) 3 false,
     Sub.one 0x0C .f32 .rws (.const (1073741824)) (.flt 0x3DCCCCCD 0x41200000) 3 false,
     Sub.one 0x0D .u16 .rws (.const (500)) (.ints [(0, 60000)]) 3 false,
     Sub.one 0x0E .f32 .rws (.const (1097859072)) (.flt 0x3F800000 0x42B40000) 3 false,
     Sub.one 0x0F .f32 .rws (.const (1048576000)) (.flt 0x3C23D70A 0x41200000) 3 false,
     Sub.one 0x10 .u16 .rws (.const (1000)) (.ints [(0, 60000)]) 3 false,
     Sub.one 0x11 .u16 .rws (.const (60)) (.ints [(0, 3600)]) 3 false,
     Sub.one 0x12 .f32 .rws (.const (1092616192)) (.flt 0x3F800000 0x42C80000) 3 false,
     Sub.one 0x13 .f32 .rws (.const (1118437376)) (.flt 0x41200000 0x42C80000) 3 false,
     Sub.one 0x14 .f32 .rws (.const (1121714176)) (.flt 0x42C80000 0x43020000) 3 false,
     Sub.one 0x15 .f32 .rws (.const (1111359488)) (.flt 0x42200000 0x42700000) 3 false,
     Sub.one 0x16 .f32 .rws (.const (1112041062)) (.flt 0x42480000 0x428C0000) 3 false,
     Sub.one 0x17 .u8 .rws (.const (5)) (.ints [(1, 50)]) 3 false] ++
    [Sub.one 0x18 .u16 .rws (.const (60)) (.ints [(1, 1440)]) 3 false]

/-- R311 of spec/12_winding_charging.md. -/
def rec_cpConf : Rec where
  bases := [(0x5100, 16, 2)]
  scope := .cp
  pres := .vehicle
  subs :=
    [Sub.one 0x00 .u8 .ro (.const (19)) (.full) 0 false,
     Sub.one 0x01 .bool .rws (.const (0)) (.ints [(0, 1)]) 3 false,
     Sub.one 0x02 .u8 .rws (.const (0)) (.ints [(0, 3)]) 3 false,
     Sub.one 0x03 .u8 .rws (.const (255)) (.special 18) 3 false,
     Sub.one 0x04 .f32 .rws (.const (1140457472)) (.flt 0x3F800000 0x451C4000) 3 false,
     Sub.one 0x05 .f32 .rws (.const (1084227584)) (.flt 0x00000000 0x447A0000) 3 false,
     Sub.one 0x06 .f32 .rws (.const (1142292480)) (.flt 0x3F800000 0x451C4000) 3 false,
     Sub.one 0x07 .f32 .rws (.const (1101004800)) (.flt 0x00000000 0x447A0000) 3 false,
     Sub.one 0x08 .f32 .rws (.const (1120403456)) (.flt 0x00000000 0x453B8000) 3 false,
     Sub.one 0x09 .f32 .rws (.const (1145896960)) (.flt 0x3F800000 0x451C4000) 3 false,
     Sub.one 0x0A .f32 .rws (.const (1084227584)) (.flt 0x3DCCCCCD 0x42C80000) 3 false,
     Sub.one 0x0B .f32 .rws (.const (1112014848)) (.flt 0x3DCCCCCD 0x461C4000) 3 false,
     Sub.one 0x0C .f32 .rws (.const (1084227584)) (.flt 0x00000000 0x447A0000) 3 false,
     Sub.one 0x0D .u16 .rws (.const (60)) (.ints [(1, 3600)]) 3 false,
     Sub.one 0x0E .f32 .rws (.const (1092616192)) (.flt 0x3DCCCCCD 0x43480000) 3 false,
     Sub.one 0x0F .u16 .rws (.const (60)) (.ints [(1, 1440)]) 3 false,
     Sub.one 0x10 .u16 .rws (.const (60)) (.ints [(1, 1440)]) 3 false,
     Sub.one 0x11 .u16 .rws (.const (240)) (.ints [(1, 1440)]) 3 false,
     Sub.one 0x12 .u16 .rws (.const (120)) (.ints [(1, 1440)]) 3 false,
     Sub.one 0x13 .u16 .rws (.const (500)) (.ints [(10, 10000)]) 3 false]

/-- R311 of spec/12_winding_charging.md. -/
def rec_cp : Rec where
  bases := [(0x5101, 16, 2)]
  scope := .cp
  pres := .vehicle
  subs :=
    [Sub.one 0x00 .u8 .ro (.const (13)) (.full) 0 false,
     Sub.one 0x01 .u8 .ro (.const (0)) (.ints [(0, 8)]) 0 false,
     Sub.one 0x02 .f32 .ro (.const (0)) (.flt 0x00000000 0x453B8000) 0 false,
     Sub.one 0x03 .f32 .ro (.const (0)) (.flt 0x00000000 0x451C4000) 0 false,
     Sub.one 0x04 .f32 .ro (.const (0)) (.flt 0xC53B8000 0x453B8000) 0 false,
     Sub.one 0x05 .u8 .ro (.const (255)) (.ints [(0, 4), (255, 255)]) 0 false,
     Sub.one 0x06 .u32 .ro (.const (0)) (.ints [(0, 172800)]) 0 false,
     Sub.one 0x07 .u32 .ro (.const (0)) (.ints [(0, 172800)]) 0 false,
     Sub.one 0x08 .f32 .rw (.const (0)) (.flt 0x00000000 0x453B8000) 2 false,
     Sub.one 0x09 .f32 .rw (.const (0)) (.flt 0x00000000 0x451C4000) 2 false,
     Sub.one 0x0A .f32 .rw (.const (1103626240)) (.flt 0xC2700000 0x43160000) 2 false,
     Sub.one 0x0B .bool .rw (.const (0)) (.ints [(0, 1)]) 2 false,
     Sub.one 0x0C .u8 .ro (.const (0)) (.full) 0 false,
     Sub.one 0x0D .f32 .ro (.const (0)) (.flt 0x00000000 0x451C4000) 0 false]

/-- R311 of spec/12_winding_charging.md. -/
def rec_cpWin : Rec where
  bases := [(0x5102, 16, 2)]
  scope := .cp
  pres := .vehicle
  subs :=
    [Sub.one 0x00 .u8 .ro (.const (12)) (.full) 0 false,
     Sub.one 0x01 .u8 .rws (.const (254)) (.special 17) 3 false,
     Sub.one 0x02 .f32 .rws (.const 0) (.flt 0xC2700000 0x43160000) 3 false,
     Sub.one 0x03 .f32 .rws (.const 1092616192) (.flt 0xC2700000 0x43160000) 3 false,
     Sub.one 0x04 .f32 .rws (.const 1110704128) (.flt 0xC2700000 0x43160000) 3 false,
     Sub.one 0x05 .f32 .rws (.const 1113325568) (.flt 0xC2700000 0x43160000) 3 false,
     Sub.one 0x06 .f32 .rws (.const 0) (.flt 0x00000000 0x3F800000) 3 false,
     Sub.one 0x07 .f32 .rws (.const 1056964608) (.flt 0x00000000 0x3F800000) 3 false,
     Sub.one 0x08 .f32 .rws (.const 1065353216) (.flt 0x00000000 0x3F800000) 3 false,
     Sub.one 0x09 .f32 .rws (.const 1056964608) (.flt 0x00000000 0x3F800000) 3 false,
     Sub.one 0x0A .f32 .rws (.const 0) (.flt 0x00000000 0x3F800000) 3 false,
     Sub.one 0x0B .f32 .rws (.const (0)) (.flt 0x00000000 0x43480000) 3 false,
     Sub.one 0x0C .f32 .rws (.const (1073741824)) (.flt 0x3F000000 0x41200000) 3 false]

/-- R330 of spec/13_lv_converter_actuators.md. -/
def rec_lamp : Rec where
  bases := [(0x5180, 1, 4)]
  scope := .dev
  pres := .any
  subs :=
    [Sub.one 0x00 .u8 .ro (.const (4)) (.full) 0 false,
     Sub.one 0x01 .u8 .rws (.const (0)) (.ints [(0, 2)]) 3 false,
     Sub.one 0x02 .u32 .rws (.const (59057304)) (.bits 0x7FFFFFF) 3 false,
     Sub.one 0x03 .u8 .rw (.const (0)) (.ints [(0, 4)]) 2 false,
     Sub.one 0x04 .u8 .ro (.const (0)) (.ints [(0, 4)]) 0 false]

/-- R331 of spec/13_lv_converter_actuators.md. -/
def rec_lvConf : Rec where
  bases := [(0x5000, 0, 1)]
  scope := .fixed 5
  pres := .vehicle
  subs :=
    [Sub.one 0x00 .u8 .ro (.const (35)) (.full) 0 false,
     Sub.one 0x01 .u32 .rws (.const (4294967295)) (.special 2) 3 false,
     Sub.one 0x02 .u8 .rws (.const (3)) (.ints [(0, 7)]) 3 false,
     Sub.one 0x03 .f32 .rws (.const (1090519040)) (.flt 0x3F800000 0x42480000) 3 false,
     Sub.one 0x04 .u16 .rws (.const (5)) (.ints [(1, 100)]) 3 false,
     Sub.one 0x05 .f32 .rws (.const (1084227584)) (.flt 0x3F800000 0x41A00000) 3 false,
     Sub.one 0x06 .u16 .rws (.const (0)) (.full) 3 false,
     Sub.one 0x07 .u8 .rws (.const (0)) (.ints [(0, 3)]) 3 false,
     Sub.one 0x08 .u8 .rws (.const (0)) (.ints [(0, 3)]) 3 false,
     Sub.one 0x09 .u8 .rws (.const (1)) (.ints [(0, 3)]) 3 false,
     Sub.one 0x0A .u8 .rws (.const (255)) (.ints [(0, 15), (255, 255)]) 3 false,
     Sub.one 0x0B .u8 .rws (.const (24)) (.ints [(0, 63)]) 3 false,
     Sub.one 0x0C .u32 .rws (.const (500000)) (.ints [(50000, 2000000)]) 3 false,
     Sub.one 0x0D .f32 .rws (.const (1083598438)) (.flt 0x3DCCCCCD 0x42C80000) 3 false,
     Sub.one 0x0E .f32 .rws (.const (1000593162)) (.flt 0x38D1B717 0x3DCCCCCD) 3 false,
     Sub.one 0x0F .f32 .rws (.const (1073741824)) (.flt 0x00000000 0x42C80000) 3 false,
     Sub.one 0x10 .f32 .rws (.const (1084227584)) (.flt 0x00000000 0x42C80000) 3 false,
     Sub.one 0x11 .f32 .rws (.const (1109393408)) (.flt 0x3F800000 0x43480000) 3 false,
     Sub.one 0x12 .f32 .rws (.const (1132068864)) (.flt 0x3F800000 0x43C80000) 3 false,
     Sub.one 0x13 .u8 .rws (.const (32)) (.ints [(32, 32)]) 3 false,
     Sub.one 0x14 .u16 .rws (.const (20)) (.ints [(20, 20)]) 3 false,
     Sub.one 0x15 .u16 .rws (.const (1000)) (.ints [(100, 20000)]) 3 false,
     Sub.one 0x16 .u8 .rws (.const (5)) (.ints [(2, 50)]) 3 false,
     Sub.one 0x17 .f32 .rws (.const (1082130432)) (.flt 0x00000000 0x42480000) 3 false] ++
    [Sub.one 0x18 .f32 .rws (.const (1069547520)) (.flt 0x3E4CCCCD 0x4039999A) 3 false,
     Sub.one 0x19 .f32 .rws (.const (1101004800)) (.flt 0x3F800000 0x42C80000) 3 false,
     Sub.one 0x1A .f32 .rws (.const (1097859072)) (.flt 0x40A00000 0x42480000) 3 false,
     Sub.one 0x1B .u16 .rws (.const (50)) (.ints [(1, 10000)]) 3 false,
     Sub.one 0x1C .f32 .rws (.const (1077936128)) (.flt 0x40400000 0x40400000) 3 false,
     Sub.one 0x1D .f32 .rws (.const (1111490560)) (.fltBetween 0x1F 0x23) 3 false,
     Sub.one 0x1E .f32 .rws (.const (1112539136)) (.fltBetween 0x1F 0x23) 3 false,
     Sub.one 0x1F .f32 .rws (.const (1108344832)) (.fltBelow 0x41400000 0x42700000 0x23) 3 false,
     Sub.one 0x20 .f32 .rws (.const (1065353216)) (.flt 0x3C23D70A 0x42C80000) 3 false,
     Sub.one 0x21 .f32 .rws (.const (1073741824)) (.flt 0x3C23D70A 0x42C80000) 3 false,
     Sub.one 0x22 .u16 .rws (.const (100)) (.ints [(10, 2000)]) 3 false,
     Sub.one 0x23 .f32 .rws (.const (1114112000)) (.fltAbove 0x41400000 0x42700000 0x1F) 3 false]

/-- R332 of spec/13_lv_converter_actuators.md. -/
def rec_lvSt : Rec where
  bases := [(0x5001, 0, 1)]
  scope := .fixed 5
  pres := .vehicle
  subs :=
    [Sub.one 0x00 .u8 .ro (.const (10)) (.full) 0 false,
     Sub.one 0x01 .u8 .rw (.const (0)) (.ints [(0, 1)]) 2 false,
     Sub.one 0x02 .u8 .ro (.const (0)) (.full) 0 false,
     Sub.one 0x03 .f32 .ro (.const (0)) (.flt 0x00000000 0x42700000) 0 false,
     Sub.one 0x04 .u16 .ro (.const (0)) (.full) 0 false,
     Sub.one 0x05 .u16 .ro (.const (0)) (.full) 0 false,
     Sub.one 0x06 .u32 .ro (.const (0)) (.full) 0 false,
     Sub.one 0x07 .u32 .ro (.const (0)) (.full) 0 false,
     Sub.one 0x08 .u8 .ro (.const (1)) (.full) 0 false,
     Sub.one 0x09 .bool .wo (.const 0) (.ints [(1, 1)]) 2 false,
     Sub.one 0x0A .f32 .ro (.const (1065353216)) (.flt 0x3E99999A 0x3F800000) 0 false]

/-- R332 of spec/13_lv_converter_actuators.md. -/
def rec_lvTel : Rec where
  bases := [(0x5002, 0, 1)]
  scope := .fixed 5
  pres := .vehicle
  subs :=
    [Sub.one 0x00 .u8 .ro (.const (16)) (.full) 0 false,
     Sub.many 0x01 1 12 .f32 .ro (.const (0)) (.full) 0 false,
     Sub.many 0x0D 1 4 .f32 .ro (.const (0)) (.full) 0 true]

/-- R339 of spec/13_lv_converter_actuators.md. -/
def rec_gaConf : Rec where
  bases := [(0x5204, 16, 4)]
  scope := .dev
  pres := .vehicle
  subs :=
    [Sub.one 0x00 .u8 .ro (.const (17)) (.full) 0 false,
     Sub.one 0x01 .bool .rws (.const (0)) (.ints [(0, 1)]) 3 false,
     Sub.one 0x02 .u8 .rws (.const (0)) (.ints [(0, 1)]) 3 false,
     Sub.one 0x03 .u8 .rws (.const (32)) (.ints [(0, 63)]) 3 false,
     Sub.one 0x04 .u8 .rws (.const (4)) (.ints [(0, 7)]) 3 false,
     Sub.one 0x05 .f32 .rws (.const (1128792064)) (.flt 0x3F800000 0x44FA0000) 3 false,
     Sub.one 0x06 .f32 .rws (.const (1092616192)) (.flt 0x3DCCCCCD 0x42C80000) 3 false,
     Sub.one 0x07 .f32 .rws (.const (1084227584)) (.flt 0x3DCCCCCD 0x42C80000) 3 false,
     Sub.one 0x08 .f32 .rws (.const (1082130432)) (.flt 0x3DCCCCCD 0x42C80000) 3 false,
     Sub.one 0x09 .f32 .rws (.const (1028443341)) (.flt 0x3C23D70A 0x3F800000) 3 false,
     Sub.one 0x0A .u16 .rws (.const (2)) (.ints [(1, 100)]) 3 false,
     Sub.one 0x0B .u16 .rws (.const (500)) (.ints [(10, 10000)]) 3 false,
     Sub.one 0x0C .f32 .rws (.const (1109393408)) (.flt 0x3F800000 0x447A0000) 3 false,
     Sub.one 0x0D .u8 .rws (.const (255)) (.ints [(0, 3), (255, 255)]) 3 false,
     Sub.one 0x0E .f32 .rws (.const (1101004800)) (.flt 0x00000000 0x447A0000) 3 false,
     Sub.one 0x0F .u16 .rws (.const (500)) (.ints [(10, 10000)]) 3 false,
     Sub.one 0x10 .u16 .rws (.const (1000)) (.ints [(10, 10000)]) 3 false,
     Sub.one 0x11 .f32 .rws (.const (1106247680)) (.flt 0x00000000 0x447A0000) 3 false]

/-- R339 of spec/13_lv_converter_actuators.md. -/
def rec_ga : Rec where
  bases := [(0x5205, 16, 4)]
  scope := .dev
  pres := .vehicle
  subs :=
    [Sub.one 0x00 .u8 .ro (.const (11)) (.full) 0 false,
     Sub.one 0x01 .u8 .rw (.const (255)) (.ints [(0, 7), (255, 255)]) 2 false,
     Sub.one 0x02 .u8 .ro (.const (0)) (.ints [(0, 7)]) 0 false,
     Sub.one 0x03 .u8 .ro (.const (0)) (.full) 0 false,
     Sub.one 0x04 .f32 .ro (.const (0)) (.full) 0 false,
     Sub.one 0x05 .u8 .ro (.const (255)) (.ints [(0, 7), (255, 255)]) 0 false,
     Sub.one 0x06 .bool .ro (.const (0)) (.ints [(0, 1)]) 0 false,
     Sub.one 0x07 .bool .ro (.const (0)) (.ints [(0, 1)]) 0 false,
     Sub.one 0x08 .bool .rw (.const (0)) (.ints [(0, 1)]) 2 false,
     Sub.one 0x09 .u32 .ro (.const (0)) (.full) 0 false,
     Sub.one 0x0A .u32 .ro (.const (0)) (.ints [(0, 60000)]) 0 false,
     Sub.one 0x0B .f32 .ro (.const (0)) (.full) 0 false]

/-- R339 of spec/13_lv_converter_actuators.md. -/
def rec_gaPos : Rec where
  bases := [(0x5206, 16, 4)]
  scope := .dev
  pres := .vehicle
  subs :=
    [Sub.one 0x00 .u8 .ro (.const (13)) (.full) 0 false,
     Sub.one 0x01 .f32 .rws (.const (0)) (.flt 0xC47A0000 0x447A0000) 3 false,
     Sub.one 0x02 .f32 .rws (.const (0)) (.flt 0xC47A0000 0x447A0000) 3 false,
     Sub.one 0x03 .f32 .rws (.const (0)) (.flt 0xC47A0000 0x447A0000) 3 false,
     Sub.one 0x04 .f32 .rws (.const (0)) (.flt 0xC47A0000 0x447A0000) 3 false,
     Sub.one 0x05 .f32 .rws (.const (0)) (.flt 0xC47A0000 0x447A0000) 3 false,
     Sub.one 0x06 .f32 .rws (.const (0)) (.flt 0xC47A0000 0x447A0000) 3 false,
     Sub.one 0x07 .f32 .rws (.const (0)) (.flt 0xC47A0000 0x447A0000) 3 false,
     Sub.one 0x08 .f32 .rws (.const (0)) (.flt 0xC47A0000 0x447A0000) 3 false,
     Sub.one 0x09 .u8 .rws (.const (0)) (.full) 3 false,
     Sub.one 0x0A .u8 .rws (.const (0)) (.ints [(0, 7)]) 3 false,
     Sub.one 0x0B .f32 .rws (.const (1048576000)) (.flt 0x3CA3D70A 0x40000000) 3 false,
     Sub.one 0x0C .u8 .rws (.const (255)) (.ints [(0, 7), (255, 255)]) 3 false,
     Sub.one 0x0D .u8 .rws (.const (255)) (.ints [(0, 7)]) 3 false]

/-- R363 of spec/14_charging_link.md. -/
def rec_lkConf : Rec where
  bases := [(0x6000, 0, 1)]
  scope := .dev
  pres := .vehicle
  subs :=
    [Sub.one 0x00 .u8 .ro (.const (18)) (.full) 0 false,
     Sub.one 0x01 .bool .rws (.const (0)) (.ints [(0, 1)]) 3 false,
     Sub.one 0x02 .u8 .rws (.const (0)) (.ints [(0, 3)]) 3 false,
     Sub.one 0x03 .u8 .rws (.const (255)) (.ints [(0, 7), (255, 255)]) 3 false,
     Sub.one 0x04 .u8 .rws (.const (255)) (.ints [(0, 7), (255, 255)]) 3 false,
     Sub.one 0x05 .u8 .rws (.const (255)) (.ints [(0, 7), (255, 255)]) 3 false,
     Sub.one 0x06 .u8 .rws (.const (1)) (.ints [(0, 3)]) 3 false,
     Sub.one 0x07 .u8 .rws (.const (0)) (.ints [(0, 3)]) 3 false,
     Sub.one 0x08 .u8 .rws (.const (255)) (.ints [(0, 31), (255, 255)]) 3 false,
     Sub.one 0x09 .u32 .rws (.const (4294967295)) (.special 1) 3 false,
     Sub.one 0x0A .f32 .rws (.const (1119092736)) (.flt 0x42200000 0x43160000) 3 false,
     Sub.one 0x0B .f32 .rws (.const (1116471296)) (.fltBelow 0x41F00000 0x430C0000 0x0A) 3 false,
     Sub.one 0x0C .f32 .rws (.const (1101004800)) (.flt 0x3F800000 0x42C80000) 3 false,
     Sub.one 0x0D .u16 .rws (.const (50)) (.ints [(10, 500)]) 3 false,
     Sub.one 0x0E .f32 .rws (.const (1084227584)) (.flt 0x3F000000 0x42480000) 3 false,
     Sub.one 0x0F .u8 .rws (.const (255)) (.ints [(0, 15), (255, 255)]) 3 false,
     Sub.one 0x10 .u8 .rws (.const (255)) (.ints [(0, 7), (255, 255)]) 3 false,
     Sub.one 0x11 .f32 .rws (.const (1161527296)) (.flt 0x3F800000 0x453B8000) 3 false,
     Sub.one 0x12 .f32 .rws (.const (1151090688)) (.flt 0x42480000 0x449C4000) 3 false]

/-- R363 of spec/14_charging_link.md. -/
def rec_lk : Rec where
  bases := [(0x6001, 0, 1)]
  scope := .dev
  pres := .vehicle
  subs :=
    [Sub.one 0x00 .u8 .ro (.const (13)) (.full) 0 false,
     Sub.one 0x01 .u8 .ro (.const (0)) (.ints [(0, 10)]) 0 false,
     Sub.one 0x02 .u8 .ro (.const (0)) (.full) 0 false,
     Sub.one 0x03 .u8 .ro (.const (0)) (.full) 0 false,
     Sub.one 0x04 .f32 .ro (.const (0)) (.flt 0x00000000 0x44BB8000) 0 false,
     Sub.one 0x05 .f32 .ro (.const (0)) (.flt 0xC55AC000 0x455AC000) 0 false,
     Sub.one 0x06 .f32 .ro (.const (0)) (.flt 0xC2700000 0x43480000) 0 false,
     Sub.one 0x07 .f32 .ro (.const (0)) (.flt 0x00000000 0x44BB8000) 0 false,
     Sub.one 0x08 .f32 .ro (.const (0)) (.flt 0x00000000 0x455AC000) 0 false,
     Sub.one 0x09 .u8 .ro (.const (0)) (.full) 0 false,
     Sub.one 0x0A .bool .wo (.const 0) (.ints [(1, 1)]) 2 false,
     Sub.one 0x0B .u64 .ro (.const (0)) (.full) 0 false,
     Sub.one 0x0C .u8 .ro (.const (0)) (.full) 0 false,
     Sub.one 0x0D .bool .ro (.const (0)) (.ints [(0, 1)]) 0 false]

/-- R364 of spec/14_charging_link.md. -/
def rec_lkPostConf : Rec where
  bases := [(0x6100, 0, 1)]
  scope := .fixed 7
  pres := .post
  subs :=
    [Sub.one 0x00 .u8 .ro (.const (17)) (.full) 0 false,
     Sub.one 0x01 .bool .rws (.const (0)) (.ints [(0, 1)]) 3 false,
     Sub.one 0x02 .u8 .rws (.const (0)) (.ints [(0, 2)]) 3 false,
     Sub.one 0x03 .u8 .rws (.const (255)) (.ints [(0, 7), (255, 255)]) 3 false,
     Sub.one 0x04 .u8 .rws (.const (255)) (.ints [(0, 7), (255, 255)]) 3 false,
     Sub.one 0x05 .u8 .rws (.const (1)) (.ints [(0, 3)]) 3 false,
     Sub.one 0x06 .u8 .rws (.const (255)) (.ints [(0, 31), (255, 255)]) 3 false,
     Sub.one 0x07 .u8 .rws (.const (255)) (.ints [(0, 15), (255, 255)]) 3 false,
     Sub.one 0x08 .u8 .rws (.const (255)) (.ints [(0, 15), (255, 255)]) 3 false,
     Sub.one 0x09 .f32 .rws (.const (1140457472)) (.flt 0x42C80000 0x461C4000) 3 false,
     Sub.one 0x0A .f32 .rws (.const (1120403456)) (.fltBelow 0x41200000 0x447A0000 0x09) 3 false,
     Sub.one 0x0B .u16 .rws (.const (1000)) (.ints [(100, 10000)]) 3 false,
     Sub.one 0x0C .f32 .rws (.const (1073741824)) (.flt 0x3DCCCCCD 0x41200000) 3 false,
     Sub.one 0x0D .f32 .rws (.const (1161527296)) (.flt 0x3F800000 0x453B8000) 3 false,
     Sub.one 0x0E .f32 .rws (.const (1151090688)) (.flt 0x42480000 0x449C4000) 3 false,
     Sub.one 0x0F .u8 .rws (.const (255)) (.ints [(0, 15), (255, 255)]) 3 false,
     Sub.one 0x10 .u8 .rws (.const (255)) (.ints [(0, 7), (255, 255)]) 3 false,
     Sub.one 0x11 .u16 .rws (.const (1000)) (.ints [(100, 5000)]) 3 false]

/-- R364 of spec/14_charging_link.md. -/
def rec_lkPost : Rec where
  bases := [(0x6101, 0, 1)]
  scope := .fixed 7
  pres := .post
  subs :=
    [Sub.one 0x00 .u8 .ro (.const (12)) (.full) 0 false,
     Sub.one 0x01 .u8 .ro (.const (0)) (.full) 0 false,
     Sub.one 0x02 .u8 .ro (.const (0)) (.full) 0 false,
     Sub.one 0x03 .u8 .ro (.const (0)) (.full) 0 false,
     Sub.one 0x04 .f32 .ro (.const (0)) (.flt 0x00000000 0x44BB8000) 0 false,
     Sub.one 0x05 .f32 .ro (.const (0)) (.flt 0xC55AC000 0x455AC000) 0 false,
     Sub.one 0x06 .f32 .ro (.const (0)) (.full) 0 false,
     Sub.one 0x07 .f32 .ro (.const (0)) (.flt 0x00000000 0x453B8000) 0 false,
     Sub.one 0x08 .u8 .ro (.const (0)) (.full) 0 false,
     Sub.one 0x09 .f32 .ro (.const (0)) (.flt 0xC53B8000 0x453B8000) 0 false,
     Sub.one 0x0A .f32 .ro (.const (0)) (.flt 0x00000000 0x44BB8000) 0 false,
     Sub.one 0x0B .bool .wo (.const 0) (.ints [(1, 1)]) 2 false,
     Sub.one 0x0C .u8 .ro (.const (0)) (.full) 0 false]

/-- R365 of spec/14_charging_link.md. -/
def rec_td : Rec where
  bases := [(0x6200, 0, 1)]
  scope := .dev
  pres := .tandem
  subs :=
    [Sub.one 0x00 .u8 .ro (.const (17)) (.full) 0 false,
     Sub.one 0x01 .bool .rws (.const (0)) (.ints [(0, 1)]) 3 false,
     Sub.one 0x02 .u16 .rws (.const (62017)) (.full) 3 false,
     Sub.one 0x03 .u8 .rws (.const (6)) (.ints [(0, 7)]) 3 false,
     Sub.one 0x04 .u8 .rws (.const (40)) (.ints [(0, 63)]) 3 false,
     Sub.one 0x05 .u32 .rws (.const (3221225472)) (.ints [(1073741824, 4026531840)]) 3 false,
     Sub.one 0x06 .u16 .rws (.const (2)) (.ints [(1, 10)]) 3 false,
     Sub.one 0x07 .u16 .rws (.const (10)) (.ints [(0, 49)]) 3 false,
     Sub.one 0x08 .u16 .rws (.const (30)) (.ints [(1, 50)]) 3 false,
     Sub.one 0x09 .f32 .rws (.const (1140457472)) (.flt 0x41200000 0x453B8000) 3 false,
     Sub.one 0x0A .u8 .ro (.const (0)) (.full) 0 false,
     Sub.one 0x0B .f32 .ro (.const (0)) (.flt 0xC53B8000 0x453B8000) 0 false,
     Sub.one 0x0C .f32 .ro (.const (0)) (.flt 0xC2700000 0x437A0000) 0 false,
     Sub.one 0x0D .f32 .ro (.const (0)) (.flt 0x00000000 0x453B8000) 0 false,
     Sub.one 0x0E .u32 .ro (.const (0)) (.full) 0 false,
     Sub.one 0x0F .u16 .ro (.const (0)) (.ints [(0, 2047)]) 0 false,
     Sub.one 0x10 .u64 .ro (.const (0)) (.full) 0 false,
     Sub.one 0x11 .u8 .rws (.const (20)) (.ints [(0, 127)]) 3 false]

/-- R375 of spec/15_station_site.md. -/
def rec_stConf : Rec where
  bases := [(0x6300, 0, 1)]
  scope := .fixed 6
  pres := .station
  subs :=
    [Sub.one 0x00 .u8 .ro (.const (24)) (.full) 0 false,
     Sub.one 0x01 .bool .rws (.const (0)) (.ints [(0, 1)]) 3 false,
     Sub.one 0x02 .u32 .rws (.const (0)) (.bits 0xFFFFFF) 3 false,
     Sub.one 0x03 .u8 .rws (.const (0)) (.ints [(0, 7)]) 3 false,
     Sub.one 0x04 .u8 .rws (.const (0)) (.ints [(0, 63)]) 3 false,
     Sub.one 0x05 .u8 .rws (.const (255)) (.ints [(0, 7), (255, 255)]) 3 false,
     Sub.one 0x06 .u8 .rws (.const (255)) (.ints [(0, 7), (255, 255)]) 3 false,
     Sub.one 0x07 .f32 .rws (.const (1119092736)) (.flt 0x42480000 0x42C40000) 3 false,
     Sub.one 0x08 .u16 .rws (.const (2000)) (.ints [(100, 10000)]) 3 false,
     Sub.one 0x09 .u8 .rws (.const (0)) (.ints [(0, 3)]) 3 false,
     Sub.one 0x0A .f32 .rws (.const (1147207680)) (.flt 0x42C80000 0x44BB8000) 3 false,
     Sub.one 0x0B .f32 .rws (.const (1128792064)) (.flt 0x41200000 0x459C4000) 3 false,
     Sub.one 0x0C .f32 .rws (.const (1092616192)) (.flt 0x3DCCCCCD 0x43480000) 3 false,
     Sub.one 0x0D .f32 .rws (.const (1112014848)) (.flt 0x3F800000 0x43FA0000) 3 false,
     Sub.one 0x0E .u32 .rws (.const (4294967295)) (.special 2) 3 false,
     Sub.one 0x0F .u8 .rws (.const (1)) (.ints [(0, 7)]) 3 false,
     Sub.one 0x10 .u32 .rws (.const (4294967295)) (.special 3) 3 false,
     Sub.one 0x11 .u8 .rws (.const (1)) (.ints [(0, 3)]) 3 false,
     Sub.one 0x12 .f32 .rws (.const (1125515264)) (.flt 0x3F800000 0x43960000) 3 false,
     Sub.one 0x13 .f32 .rws (.const (1142292480)) (.flt 0x3F800000 0x447A0000) 3 false,
     Sub.one 0x14 .u8 .rws (.const (255)) (.ints [(0, 23), (255, 255)]) 3 false,
     Sub.one 0x15 .f32 .rws (.const (1148846080)) (.fltBelow 0x42C80000 0x451C4000 0x16) 3 false,
     Sub.one 0x16 .f32 .rws (.const (1149534208)) (.flt 0x42C80000 0x451C4000) 3 false,
     Sub.one 0x17 .f32 .rws (.const (0)) (.flt 0x00000000 0x447A0000) 3 false] ++
    [Sub.one 0x18 .u16 .rws (.const (10)) (.ints [(1, 600)]) 3 false]

/-- R376 of spec/15_station_site.md. -/
def rec_st : Rec where
  bases := [(0x6301, 0, 1)]
  scope := .fixed 6
  pres := .station
  subs :=
    [Sub.one 0x00 .u8 .ro (.const (10)) (.full) 0 false,
     Sub.one 0x01 .u8 .ro (.const (0)) (.ints [(0, 7)]) 0 false,
     Sub.one 0x02 .f32 .ro (.const (0)) (.flt 0x00000000 0x451C4000) 0 false,
     Sub.one 0x03 .f32 .ro (.const (0)) (.flt 0xC47A0000 0x447A0000) 0 false,
     Sub.one 0x04 .f32 .ro (.const (0)) (.flt 0xC47A0000 0x447A0000) 0 false,
     Sub.one 0x05 .u8 .ro (.const (0)) (.full) 0 false,
     Sub.one 0x06 .f32 .ro (.const (0)) (.flt 0x00000000 0x447A0000) 0 false,
     Sub.one 0x07 .u8 .ro (.const (0)) (.full) 0 false,
     Sub.one 0x08 .u32 .ro (.const (0)) (.full) 0 false,
     Sub.one 0x09 .u8 .ro (.const (0)) (.full) 0 false,
     Sub.one 0x0A .u8 .ro (.const (0)) (.full) 0 false]

/-- R382 of spec/15_station_site.md. -/
def rec_ccConf : Rec where
  bases := [(0x6400, 0, 1)]
  scope := .fixed 7
  pres := .post
  subs :=
    [Sub.one 0x00 .u8 .ro (.const (20)) (.full) 0 false,
     Sub.one 0x01 .bool .rws (.const (0)) (.ints [(0, 1)]) 3 false,
     Sub.one 0x02 .u8 .rws (.const (24)) (.ints [(0, 63)]) 3 false,
     Sub.one 0x03 .u8 .rws (.const (255)) (.ints [(0, 15), (255, 255)]) 3 false,
     Sub.one 0x04 .u8 .rws (.const (255)) (.ints [(0, 15), (255, 255)]) 3 false,
     Sub.one 0x05 .u8 .rws (.const (255)) (.ints [(0, 15), (255, 255)]) 3 false,
     Sub.one 0x06 .u8 .rws (.const (255)) (.ints [(0, 15), (255, 255)]) 3 false,
     Sub.one 0x07 .u32 .rws (.const (4294967295)) (.special 1) 3 false,
     Sub.one 0x08 .f32 .rws (.const (1101004800)) (.flt 0x3F800000 0x43480000) 3 false,
     Sub.one 0x09 .f32 .rws (.const (1112014848)) (.flt 0x41200000 0x42B40000) 3 false,
     Sub.one 0x0A .f32 .rws (.const (1056964608)) (.flt 0x00000000 0x41200000) 3 false,
     Sub.one 0x0B .f32 .rws (.const (1086324736)) (.flt 0x3F000000 0x41A00000) 3 false,
     Sub.one 0x0C .f32 .rws (.const (1119092736)) (.flt 0x42200000 0x43160000) 3 false,
     Sub.one 0x0D .u16 .rws (.const (60)) (.ints [(1, 600)]) 3 false,
     Sub.one 0x0E .f32 .rws (.const (1028443341)) (.flt 0x3A83126F 0x41200000) 3 false,
     Sub.one 0x0F .f32 .rws (.const (1142292480)) (.flt 0x3F800000 0x47C35000) 3 false,
     Sub.one 0x10 .f32 .rws (.const (1073741824)) (.flt 0x3C23D70A 0x447A0000) 3 false,
     Sub.one 0x11 .f32 .rws (.const (1092616192)) (.flt 0x00000000 0x447A0000) 3 false,
     Sub.one 0x12 .f32 .rws (.const (1065353216)) (.flt 0x00000000 0x447A0000) 3 false,
     Sub.one 0x13 .f32 .rws (.const (1169915904)) (.flt 0x42C80000 0x46EA6000) 3 false,
     Sub.one 0x14 .f32 .rws (.const (1114636288)) (.flt 0x41A00000 0x42F00000) 3 false]

/-- R383 of spec/15_station_site.md. -/
def rec_cc : Rec where
  bases := [(0x6401, 0, 1)]
  scope := .fixed 7
  pres := .post
  subs :=
    [Sub.one 0x00 .u8 .ro (.const (9)) (.full) 0 false,
     Sub.one 0x01 .u8 .ro (.const (0)) (.full) 0 false,
     Sub.one 0x02 .f32 .ro (.const (0)) (.flt 0xC2700000 0x437A0000) 0 false,
     Sub.one 0x03 .u8 .ro (.const (0)) (.full) 0 false,
     Sub.one 0x04 .f32 .ro (.const (0)) (.flt 0x00000000 0x461C4000) 0 false,
     Sub.one 0x05 .f32 .ro (.const (0)) (.flt 0x00000000 0x43FA0000) 0 false,
     Sub.one 0x06 .f32 .ro (.const (0)) (.flt 0xC2700000 0x43160000) 0 false,
     Sub.one 0x07 .f32 .ro (.const (0)) (.flt 0xC2700000 0x43160000) 0 false,
     Sub.one 0x08 .u8 .ro (.const (0)) (.ints [(0, 3)]) 0 false,
     Sub.one 0x09 .f32 .ro (.const (0)) (.flt 0xC2700000 0x437A0000) 0 true]

/-- R394 of spec/15_station_site.md. -/
def rec_monConf : Rec where
  bases := [(0x6500, 0, 1)]
  scope := .dev
  pres := .monarch
  subs :=
    [Sub.one 0x00 .u8 .ro (.const (19)) (.full) 0 false,
     Sub.one 0x01 .bool .rws (.const (0)) (.ints [(0, 1)]) 3 false,
     Sub.one 0x02 .f32 .rws (.const (1148846080)) (.flt 0x00000000 0x47C35000) 3 false,
     Sub.one 0x03 .f32 .rws (.const (1120403456)) (.flt 0x41A00000 0x43480000) 3 false,
     Sub.one 0x04 .f32 .rws (.const (1124204544)) (.fltAbove 0x41A80000 0x435C0000 0x03) 3 false,
     Sub.one 0x05 .f32 .rws (.const (1112014848)) (.flt 0x00000000 0x461C4000) 3 false,
     Sub.one 0x06 .f32 .rws (.const (1101004800)) (.flt 0x00000000 0x461C4000) 3 false,
     Sub.one 0x07 .f32 .rws (.const (0)) (.flt 0x00000000 0x47C35000) 3 false,
     Sub.one 0x08 .u16 .rws (.const (3000)) (.ints [(2000, 60000)]) 3 false,
     Sub.one 0x09 .u16 .rws (.const (1000)) (.ints [(100, 30000)]) 3 false,
     Sub.one 0x0A .u16 .rws (.const (200)) (.ints [(20, 5000)]) 3 false,
     Sub.one 0x0B .u16 .rws (.const (1000)) (.ints [(100, 60000)]) 3 false,
     Sub.one 0x0C .u16 .rws (.const (100)) (.ints [(10, 1000)]) 3 false,
     Sub.one 0x0D .u8 .rws (.const (1)) (.ints [(0, 2)]) 3 false,
     Sub.one 0x0E .u16 .rws (.const (47814)) (.ints [(1024, 65535)]) 3 false,
     Sub.one 0x0F .u16 .rws (.const (2000)) (.ints [(100, 60000)]) 3 false,
     Sub.one 0x10 .u16 .rws (.const (4096)) (.ints [(1, 4096)]) 3 false,
     Sub.one 0x11 .u16 .rws (.const (1000)) (.ints [(100, 60000)]) 3 false,
     Sub.one 0x12 .bool .rws (.const (0)) (.ints [(0, 1)]) 3 false,
     Sub.one 0x13 .u16 .rws (.const (65535)) (.ints [(0, 8191), (65535, 65535)]) 3 false]

/-- R394 of spec/15_station_site.md. -/
def rec_mon : Rec where
  bases := [(0x6501, 0, 1)]
  scope := .dev
  pres := .monarch
  subs :=
    [Sub.one 0x00 .u8 .ro (.const (11)) (.full) 0 false,
     Sub.one 0x01 .u8 .ro (.const (0)) (.full) 0 false,
     Sub.one 0x02 .f32 .ro (.const (0)) (.flt 0xC7C35000 0x47C35000) 0 false,
     Sub.one 0x03 .f32 .ro (.const (0)) (.flt 0x00000000 0x47C35000) 0 false,
     Sub.one 0x04 .f32 .ro (.const (0)) (.flt 0x00000000 0x47C35000) 0 false,
     Sub.one 0x05 .u16 .ro (.const (0)) (.ints [(0, 4096)]) 0 false,
     Sub.one 0x06 .f32 .rw (.const (1103626240)) (.flt 0xC2700000 0x437A0000) 2 false,
     Sub.one 0x07 .f32 .rw (.const (0)) (.flt 0x00000000 0x47C35000) 2 false,
     Sub.one 0x08 .u32 .ro (.const (0)) (.full) 0 false,
     Sub.one 0x09 .u32 .ro (.const (0)) (.full) 0 false,
     Sub.one 0x0A .u32 .ro (.const (0)) (.full) 0 false,
     Sub.one 0x0B .u32 .ro (.const (0)) (.full) 0 false]

/-- R394 of spec/15_station_site.md. -/
def rec_monTable : Rec where
  bases := [(0x6510, 0, 1)]
  scope := .dev
  pres := .monarch
  subs :=
    [Sub.one 0x00 (.dom 131072) .ro (.const 0) (.full) 0 false]

/-- R394 of spec/15_station_site.md. -/
def rec_monCl : Rec where
  bases := [(0x6520, 0, 1)]
  scope := .fixed 7
  pres := .post
  subs :=
    [Sub.one 0x00 .u8 .ro (.const (6)) (.full) 0 false,
     Sub.one 0x01 .bool .rws (.const (0)) (.ints [(0, 1)]) 3 false,
     Sub.one 0x02 .u16 .rws (.const (65535)) (.ints [(0, 8191), (65535, 65535)]) 3 false,
     Sub.one 0x03 .f32 .rws (.const (1112014848)) (.flt 0x3F800000 0x461C4000) 3 false,
     Sub.one 0x04 .f32 .ro (.const (0)) (.flt 0xC61C4000 0x461C4000) 0 false,
     Sub.one 0x05 .u64 .ro (.const (0)) (.full) 0 false,
     Sub.one 0x06 .u8 .ro (.const (0)) (.full) 0 false]

/-- R422 of spec/16_metering.md. -/
def rec_mtrReg : Rec where
  bases := [(0x7000, 0, 1)]
  scope := .dev
  pres := .meter
  subs :=
    [Sub.one 0x00 .u8 .ro (.const (10)) (.full) 0 false,
     Sub.one 0x01 .u64 .ro (.const 0) (.full) 0 false,
     Sub.one 0x02 .u64 .ro (.const 0) (.full) 0 false,
     Sub.one 0x03 .u64 .ro (.const 0) (.full) 0 false,
     Sub.one 0x04 .u64 .ro (.const 0) (.full) 0 false,
     Sub.one 0x05 .u64 .ro (.const 0) (.full) 0 false,
     Sub.one 0x06 .u64 .ro (.const 0) (.full) 0 false,
     Sub.one 0x07 .u64 .ro (.const 0) (.full) 0 false,
     Sub.one 0x08 .u64 .ro (.const 0) (.full) 0 false,
     Sub.one 0x09 .u64 .ro (.const 0) (.full) 0 false,
     Sub.one 0x0A .u64 .ro (.const 0) (.full) 0 false]

/-- R422 of spec/16_metering.md. -/
def rec_mtrPh : Rec where
  bases := [(0x7001, 1, 3)]
  scope := .dev
  pres := .meter
  subs :=
    [Sub.one 0x00 .u8 .ro (.const (10)) (.full) 0 false,
     Sub.one 0x01 .u64 .ro (.const 0) (.full) 0 false,
     Sub.one 0x02 .u64 .ro (.const 0) (.full) 0 false,
     Sub.one 0x03 .u64 .ro (.const 0) (.full) 0 false,
     Sub.one 0x04 .u64 .ro (.const 0) (.full) 0 false,
     Sub.one 0x05 .f32 .ro (.const (0)) (.full) 0 false,
     Sub.one 0x06 .f32 .ro (.const (0)) (.full) 0 false,
     Sub.one 0x07 .f32 .ro (.const (0)) (.full) 0 false,
     Sub.one 0x08 .f32 .ro (.const (0)) (.full) 0 false,
     Sub.one 0x09 .f32 .ro (.const (0)) (.full) 0 false,
     Sub.one 0x0A .f32 .ro (.const (0)) (.full) 0 false]

/-- R422 of spec/16_metering.md. -/
def rec_mtrSt : Rec where
  bases := [(0x7004, 0, 1)]
  scope := .dev
  pres := .meter
  subs :=
    [Sub.one 0x00 .u8 .ro (.const (8)) (.full) 0 false,
     Sub.one 0x01 .f32 .ro (.const (0)) (.full) 0 false,
     Sub.one 0x02 .f32 .ro (.const (0)) (.full) 0 false,
     Sub.one 0x03 .f32 .ro (.const (0)) (.full) 0 false,
     Sub.one 0x04 .f32 .ro (.const (0)) (.flt 0x00000000 0x42C80000) 0 false,
     Sub.one 0x05 .u8 .ro (.const (0)) (.full) 0 false,
     Sub.one 0x06 .u8 .ro (.const (0)) (.full) 0 false,
     Sub.one 0x07 .u8 .ro (.const (0)) (.full) 0 false,
     Sub.one 0x08 .u64 .ro (.const (0)) (.full) 0 false]

/-- R423 of spec/16_metering.md. -/
def rec_mtrConf : Rec where
  bases := [(0x7100, 0, 1)]
  scope := .dev
  pres := .meter
  subs :=
    [Sub.one 0x00 .u8 .ro (.const (18)) (.full) 0 false,
     Sub.one 0x01 .bool .rsl (.const (0)) (.ints [(0, 1)]) 4 false,
     Sub.one 0x02 .bool .rsl (.const (0)) (.ints [(0, 1)]) 4 false,
     Sub.one 0x03 .u8 .rsl (.const (0)) (.ints [(0, 7)]) 4 false,
     Sub.one 0x04 .f32 .rsl (.const (1148846080)) (.flt 0x41200000 0x461C4000) 4 false,
     Sub.one 0x05 .f32 .rsl (.const (1120403456)) (.flt 0x3F800000 0x47C35000) 4 false,
     Sub.one 0x06 .f32 .rsl (.const (1157234688)) (.flt 0x41200000 0x461C4000) 4 false,
     Sub.one 0x07 .f32 .rsl (.const (1103626240)) (.flt 0x3F800000 0x47C35000) 4 false,
     Sub.one 0x08 .f32 .rsl (.const (1130758144)) (.flt 0x42480000 0x44160000) 4 false,
     Sub.one 0x09 .f32 .rsl (.const (1142292480)) (.flt 0x3F800000 0x461C4000) 4 false,
     Sub.one 0x0A .f32 .rsl (.const (1164599296)) (.flt 0x3F800000 0x461C4000) 4 false,
     Sub.one 0x0B .f32 .rsl (.const (1017370378)) (.flt 0x3A83126F 0x3F800000) 4 false,
     Sub.one 0x0C .f32 .rsl (.const (1164599296)) (.flt 0x3F800000 0x461C4000) 4 false,
     Sub.one 0x0D .u16 .rsl (.const (900)) (.special 5) 4 false,
     Sub.one 0x0E .f32 .rsl (.const (1119092736)) (.flt 0x42480000 0x42C60000) 4 false,
     Sub.one 0x0F .f32 .rsl (.const (1121714176)) (.flt 0x42CA0000 0x43160000) 4 false,
     Sub.one 0x10 .f32 .rsl (.const (1084227584)) (.flt 0x3F800000 0x41A00000) 4 false,
     Sub.one 0x11 .f32 .rsl (.const (1073741824)) (.flt 0x3F000000 0x41200000) 4 false,
     Sub.one 0x12 .bool .rsl (.const (0)) (.ints [(0, 1)]) 4 false]

/-- R424 of spec/16_metering.md. -/
def rec_mtrJrn : Rec where
  bases := [(0x7200, 0, 1)]
  scope := .dev
  pres := .meter
  subs :=
    [Sub.one 0x00 .u8 .ro (.const (4)) (.full) 0 false,
     Sub.one 0x01 .u32 .ro (.const (0)) (.full) 0 false,
     Sub.one 0x02 .u64 .ro (.const (0)) (.full) 0 false,
     Sub.one 0x03 .u64 .ro (.const (0)) (.full) 0 false,
     Sub.one 0x04 .bool .ro (.const (0)) (.ints [(0, 1)]) 0 false]

/-- R424 of spec/16_metering.md. -/
def rec_mtrRec : Rec where
  bases := [(0x7201, 0, 1)]
  scope := .dev
  pres := .meter
  subs :=
    [Sub.one 0x00 .u8 .ro (.const (5)) (.full) 0 false,
     Sub.one 0x01 .u32 .ro (.const (0)) (.full) 0 false,
     Sub.one 0x02 .u32 .ro (.const (0)) (.full) 0 false,
     Sub.one 0x03 .u32 .rw (.const (0)) (.special 10) 2 false,
     Sub.one 0x04 .u32 .rw (.const (0)) (.full) 2 false,
     Sub.one 0x05 (.dom 256) .ro (.const 0) (.full) 0 false]

/-- R424 of spec/16_metering.md. -/
def rec_mtrKey : Rec where
  bases := [(0x7202, 0, 1)]
  scope := .dev
  pres := .meter
  subs :=
    [Sub.one 0x00 .u8 .ro (.const (2)) (.full) 0 false,
     Sub.one 0x01 (.dom 64) .ro (.const 0) (.full) 0 false,
     Sub.one 0x02 .u32 .ro (.const (0)) (.full) 0 false]

/-- R424 of spec/16_metering.md. -/
def rec_pqRing : Rec where
  bases := [(0x7203, 0, 1)]
  scope := .dev
  pres := .meter
  subs :=
    [Sub.one 0x00 (.dom 1536) .ro (.const 0) (.full) 0 false]

/-- R424 of spec/16_metering.md. -/
def rec_jrnImage : Rec where
  bases := [(0x7204, 0, 1)]
  scope := .dev
  pres := .meter
  subs :=
    [Sub.one 0x00 (.dom 524288) .ro (.const 0) (.full) 0 false]

/-- R429 of spec/17_object_dictionary.md. -/
def rec_ident : Rec where
  bases := [(0x1000, 0, 1)]
  scope := .dev
  pres := .any
  subs :=
    [Sub.one 0x00 .u8 .ro (.const (10)) (.full) 0 false,
     Sub.one 0x01 .str .constant (.const 31078118884471380) (.full) 0 false,
     Sub.one 0x02 .str .constant (.const 3472337109452868435) (.full) 0 false,
     Sub.one 0x03 .u64 .constant (.const 0) (.full) 0 false,
     Sub.one 0x04 .u8 .constant (.const 0) (.ints [(0, 255)]) 0 false,
     Sub.one 0x05 .u8 .constant (.const 0) (.ints [(0, 1)]) 0 false,
     Sub.one 0x06 .u8 .ro (.const 0) (.full) 0 false,
     Sub.one 0x07 .u64 .ro (.const 0) (.full) 0 false,
     Sub.one 0x08 .u32 .ro (.const 0) (.full) 0 false,
     Sub.one 0x09 .u32 .ro (.const 0) (.full) 0 false,
     Sub.one 0x0A .u32 .ro (.const 0) (.full) 0 false]

/-- R444 of spec/17_object_dictionary.md. -/
def rec_fwStaging : Rec where
  bases := [(0x1020, 0, 1)]
  scope := .dev
  pres := .any
  subs :=
    [Sub.one 0x00 (.dom 6291456) .wo (.const 0) (.full) 3 false]

/-- R444 of spec/17_object_dictionary.md. -/
def rec_fw : Rec where
  bases := [(0x1021, 0, 1)]
  scope := .dev
  pres := .any
  subs :=
    [Sub.one 0x00 .u8 .ro (.const (5)) (.full) 0 false,
     Sub.one 0x01 .u8 .wo (.const 0) (.ints [(1, 3)]) 3 false,
     Sub.one 0x02 .u8 .ro (.const (0)) (.full) 0 false,
     Sub.one 0x03 .u32 .ro (.const (0)) (.full) 0 false,
     Sub.one 0x04 .u32 .ro (.const (0)) (.full) 0 false,
     Sub.one 0x05 .u8 .ro (.const (0)) (.ints [(0, 100)]) 0 false]

/-- R444 of spec/17_object_dictionary.md. -/
def rec_mtrImage : Rec where
  bases := [(0x1022, 0, 1)]
  scope := .dev
  pres := .any
  subs :=
    [Sub.one 0x00 (.dom 1048576) .rsl (.const 0) (.full) 4 false]

/-- R446 of spec/17_object_dictionary.md. -/
def rec_roaConf : Rec where
  bases := [(0x1100, 0, 1)]
  scope := .dev
  pres := .any
  subs :=
    [Sub.one 0x00 .u8 .ro (.const (8)) (.full) 0 false,
     Sub.one 0x01 .u16 .rw (.const (10000)) (.ints [(1000, 60000)]) 2 false,
     Sub.one 0x02 .u16 .rw (.const (5000)) (.ints [(500, 60000)]) 2 false,
     Sub.one 0x03 .u16 .rws (.const (47813)) (.ints [(1024, 65535)]) 3 false,
     Sub.one 0x04 .u8 .rws (.const (0)) (.full) 3 false,
     Sub.one 0x05 .u32 .rws (.const (1696)) (.bits 0x9FFFFFFF) 3 false,
     Sub.one 0x06 .u32 .rws (.const (1697)) (.bits 0x9FFFFFFF) 3 false,
     Sub.one 0x07 .u8 .rws (.const (31)) (.bits 0x1F) 3 false,
     Sub.one 0x08 .u8 .rw (.const (16)) (.ints [(1, 255)]) 2 false]

/-- R446 of spec/17_object_dictionary.md. -/
def rec_roa : Rec where
  bases := [(0x1101, 0, 1)]
  scope := .dev
  pres := .any
  subs :=
    [Sub.one 0x00 .u8 .ro (.const (7)) (.full) 0 false,
     Sub.one 0x01 .u8 .ro (.const (0)) (.ints [(0, 16)]) 0 false,
     Sub.one 0x02 .u32 .ro (.const (0)) (.full) 0 false,
     Sub.one 0x03 .u32 .ro (.const (0)) (.full) 0 false,
     Sub.one 0x04 .u32 .ro (.const (0)) (.full) 0 false,
     Sub.one 0x05 .u32 .ro (.const (0)) (.full) 0 false,
     Sub.one 0x06 .u32 .ro (.const (0)) (.full) 0 false,
     Sub.one 0x07 .u8 .ro (.const (0)) (.ints [(0, 21)]) 0 false]

/-- R446 of spec/17_object_dictionary.md. -/
def rec_roaTable : Rec where
  bases := [(0x1102, 0, 1)]
  scope := .dev
  pres := .any
  subs :=
    [Sub.one 0x00 (.dom 256) .ro (.const 0) (.full) 0 false]

/-- R446 of spec/17_object_dictionary.md. -/
def rec_roleKey : Rec where
  bases := [(0x1111, 1, 5)]
  scope := .dev
  pres := .any
  subs :=
    [Sub.one 0x00 .u8 .ro (.const (2)) (.full) 0 false,
     Sub.one 0x01 (.dom 24) .wo (.const 0) (.full) 3 false,
     Sub.one 0x02 .u32 .ro (.const (0)) (.full) 0 false]

/-- R473 of spec/18_can.md. -/
def rec_canConf : Rec where
  bases := [(0x1300, 16, 8)]
  scope := .dev
  pres := .any
  subs :=
    [Sub.one 0x00 .u8 .ro (.const (20)) (.full) 0 false,
     Sub.one 0x01 .bool .rws (.const (0)) (.ints [(0, 1)]) 3 false,
     Sub.one 0x02 .u8 .rws (.const (1)) (.ints [(0, 2)]) 3 false,
     Sub.one 0x03 .u16 .rws (.const (1)) (.ints [(1, 256)]) 3 false,
     Sub.one 0x04 .u16 .rws (.const (127)) (.ints [(2, 256)]) 3 false,
     Sub.one 0x05 .u8 .rws (.const (32)) (.ints [(1, 128)]) 3 false,
     Sub.one 0x06 .u8 .rws (.const (32)) (.ints [(1, 128)]) 3 false,
     Sub.one 0x07 .bool .rws (.const (0)) (.ints [(0, 1)]) 3 false,
     Sub.one 0x08 .u8 .rws (.const (1)) (.ints [(1, 32)]) 3 false,
     Sub.one 0x09 .u8 .rws (.const (29)) (.ints [(1, 64)]) 3 false,
     Sub.one 0x0A .u8 .rws (.const (10)) (.ints [(1, 32)]) 3 false,
     Sub.one 0x0B .u8 .rws (.const (10)) (.ints [(1, 32)]) 3 false,
     Sub.one 0x0C .u8 .rws (.const (30)) (.ints [(0, 127)]) 3 false,
     Sub.one 0x0D .bool .rws (.const (0)) (.ints [(0, 1)]) 3 false,
     Sub.one 0x0E .bool .rws (.const (0)) (.ints [(0, 1)]) 3 false,
     Sub.one 0x0F .u8 .rws (.const (0)) (.ints [(0, 1)]) 3 false,
     Sub.one 0x10 .bool .rws (.const (0)) (.ints [(0, 1)]) 3 false,
     Sub.one 0x11 .bool .rws (.const (0)) (.ints [(0, 1)]) 3 false,
     Sub.one 0x12 .u16 .rws (.const (64)) (.ints [(64, 64), (2048, 2048)]) 3 false,
     Sub.one 0x13 .u8 .rws (.const (23)) (.ints [(0, 23)]) 3 false,
     Sub.one 0x14 .u32 .rws (.const (0)) (.ints [(0, 0), (100, 1000000)]) 3 false]

/-- R474 of spec/18_can.md. -/
def rec_can : Rec where
  bases := [(0x1301, 16, 8)]
  scope := .dev
  pres := .any
  subs :=
    [Sub.one 0x00 .u8 .ro (.const (17)) (.full) 0 false,
     Sub.one 0x01 .u8 .ro (.const (0)) (.full) 0 false,
     Sub.one 0x02 .u16 .ro (.const (0)) (.ints [(0, 256)]) 0 false,
     Sub.one 0x03 .u8 .ro (.const (0)) (.ints [(0, 128)]) 0 false,
     Sub.one 0x04 .u32 .ro (.const (0)) (.full) 0 false,
     Sub.one 0x05 .u32 .ro (.const (0)) (.full) 0 false,
     Sub.one 0x06 .u32 .ro (.const (0)) (.full) 0 false,
     Sub.one 0x07 .u32 .ro (.const (0)) (.full) 0 false,
     Sub.one 0x08 .u32 .ro (.const (0)) (.full) 0 false,
     Sub.one 0x09 .u32 .ro (.const (0)) (.full) 0 false,
     Sub.one 0x0A .u32 .ro (.const (0)) (.full) 0 false,
     Sub.one 0x0B .u8 .ro (.const (0)) (.full) 0 false,
     Sub.one 0x0C .u8 .ro (.const (0)) (.ints [(0, 64)]) 0 false,
     Sub.one 0x0D .u32 .ro (.const (0)) (.full) 0 false,
     Sub.one 0x0E .u32 .ro (.const (0)) (.full) 0 true,
     Sub.one 0x0F .u32 .ro (.const (4294967295)) (.full) 0 false,
     Sub.one 0x10 .u32 .ro (.const (0)) (.full) 0 false,
     Sub.one 0x11 .u32 .ro (.const (0)) (.full) 0 false]

/-- R475 of spec/18_can.md. -/
def rec_canTx : Rec where
  bases := [(0x1302, 16, 8)]
  scope := .dev
  pres := .any
  subs :=
    [Sub.one 0x00 .u8 .ro (.const (5)) (.full) 0 false,
     Sub.one 0x01 .u8 .wo (.const 0) (.ints [(1, 3)]) 2 false,
     Sub.one 0x02 .u8 .ro (.const (0)) (.ints [(0, 5)]) 0 false,
     Sub.one 0x03 .u8 .wo (.const 0) (.ints [(1, 1)]) 2 false,
     Sub.one 0x04 .u32 .ro (.const (4294967295)) (.full) 0 false,
     Sub.one 0x05 .u8 .ro (.const (0)) (.full) 0 false]

/-- R475 of spec/18_can.md. -/
def rec_canAnt : Rec where
  bases := [(0x1303, 16, 8)]
  scope := .dev
  pres := .any
  subs :=
    [Sub.one 0x00 .u8 .ro (.const (5)) (.full) 0 false,
     Sub.one 0x01 .u8 .wo (.const 0) (.ints [(1, 2)]) 2 false,
     Sub.one 0x02 .u8 .ro (.const (0)) (.full) 0 false,
     Sub.one 0x03 .u32 .ro (.const (0)) (.ints [(0, 1000000)]) 0 false,
     Sub.one 0x04 .u32 .ro (.const (0)) (.ints [(0, 10000000)]) 0 false,
     Sub.one 0x05 .u16 .rw (.const (5000)) (.ints [(100, 60000)]) 2 false]

/-- R475 of spec/18_can.md. -/
def rec_canTxFrame : Rec where
  bases := [(0x1307, 16, 8)]
  scope := .dev
  pres := .any
  subs :=
    [Sub.one 0x00 (.dom 2068) .wo (.const 0) (.full) 2 false]

/-- R475 of spec/18_can.md. -/
def rec_canTime : Rec where
  bases := [(0x1308, 16, 8)]
  scope := .dev
  pres := .any
  subs :=
    [Sub.one 0x00 .u8 .ro (.const (2)) (.full) 0 false,
     Sub.one 0x01 .u32 .ro (.const 0) (.full) 0 false,
     Sub.one 0x02 .u64 .ro (.const 0) (.full) 0 false]

/-- R476 of spec/18_can.md. -/
def rec_canRx : Rec where
  bases := [(0x1304, 16, 8)]
  scope := .dev
  pres := .any
  subs :=
    [Sub.one 0x00 .u8 .ro (.const (22)) (.full) 0 false,
     Sub.one 0x01 .u8 .rw (.const (0)) (.ints [(0, 127)]) 2 false,
     Sub.one 0x02 .u32 .ro (.const (0)) (.full) 0 false,
     Sub.one 0x03 .u32 .ro (.const (0)) (.full) 0 false,
     Sub.one 0x04 .u32 .ro (.const (0)) (.full) 0 false,
     Sub.one 0x05 .u32 .ro (.const (0)) (.full) 0 false,
     Sub.one 0x06 .u32 .ro (.const (0)) (.full) 0 false,
     Sub.one 0x07 .u32 .ro (.const (0)) (.full) 0 false,
     Sub.one 0x08 .u32 .ro (.const (0)) (.full) 0 false,
     Sub.one 0x09 .u32 .ro (.const (0)) (.full) 0 false,
     Sub.one 0x0A .u32 .ro (.const (0)) (.full) 0 false,
     Sub.one 0x0B .u32 .ro (.const (0)) (.full) 0 false,
     Sub.one 0x0C .u32 .ro (.const (0)) (.full) 0 false,
     Sub.one 0x0D .u32 .ro (.const (0)) (.full) 0 false,
     Sub.one 0x0E .u32 .ro (.const (0)) (.full) 0 false,
     Sub.one 0x0F .u32 .ro (.const (0)) (.full) 0 false,
     Sub.one 0x10 .u32 .ro (.const (0)) (.full) 0 false,
     Sub.one 0x11 .u32 .ro (.const (0)) (.full) 0 false,
     Sub.one 0x12 .u32 .ro (.const (0)) (.full) 0 false,
     Sub.one 0x13 .u32 .ro (.const (0)) (.full) 0 false,
     Sub.one 0x14 .u32 .ro (.const (0)) (.full) 0 false,
     Sub.one 0x15 .u32 .ro (.const (0)) (.full) 0 false,
     Sub.one 0x16 .u32 .ro (.const (0)) (.full) 0 false]

/-- R476 of spec/18_can.md. -/
def rec_canRxLong : Rec where
  bases := [(0x1305, 16, 8)]
  scope := .dev
  pres := .any
  subs :=
    [Sub.one 0x00 (.dom 2048) .ro (.const 0) (.full) 0 false]

/-- R476 of spec/18_can.md. -/
def rec_canFilters : Rec where
  bases := [(0x1306, 16, 8)]
  scope := .dev
  pres := .any
  subs :=
    [Sub.one 0x00 (.dom 3072) .rws (.const 0) (.full) 3 false]

/-- R492 of spec/19_ethernet_t1s.md. -/
def rec_xg : Rec where
  bases := [(0x1200, 16, 2)]
  scope := .dev
  pres := .any
  subs :=
    [Sub.one 0x00 .u8 .ro (.const (16)) (.full) 0 false,
     Sub.one 0x01 .bool .rws (.const (0)) (.ints [(0, 1)]) 3 false,
     Sub.one 0x02 .u64 .rws (.const 0) (.bits 0xFFFFFFFFFFFF) 3 false,
     Sub.one 0x03 .u32 .rws (.const (0)) (.full) 3 false,
     Sub.one 0x04 .u32 .rws (.const (4294967040)) (.special 4) 3 false,
     Sub.one 0x05 .u32 .rws (.const (0)) (.full) 3 false,
     Sub.one 0x06 .u16 .rws (.const (0)) (.ints [(0, 4094)]) 3 false,
     Sub.one 0x07 .u8 .rws (.const (6)) (.ints [(0, 7)]) 3 false,
     Sub.one 0x08 .u8 .rws (.inst) (.ints [(0, 31)]) 3 false,
     Sub.one 0x09 .u16 .rws (.const (47815)) (.ints [(1024, 65535)]) 3 false,
     Sub.one 0x0A .bool .rws (.const (0)) (.ints [(0, 1)]) 3 false,
     Sub.one 0x0B .u64 .rws (.const (0)) (.full) 3 false,
     Sub.one 0x0C (.dom 512) .rws (.const 0) (.full) 3 false,
     Sub.one 0x0D .u8 .ro (.const (0)) (.full) 0 false,
     Sub.one 0x0E .u32 .ro (.const (0)) (.full) 0 false,
     Sub.one 0x0F .u32 .ro (.const (0)) (.full) 0 false,
     Sub.one 0x10 .u32 .ro (.const (0)) (.full) 0 false]

/-- R493 of spec/19_ethernet_t1s.md. -/
def rec_t1s : Rec where
  bases := [(0x1220, 16, 2)]
  scope := .dev
  pres := .any
  subs :=
    [Sub.one 0x00 .u8 .ro (.const (14)) (.full) 0 false,
     Sub.one 0x01 .bool .rws (.const (0)) (.ints [(0, 1)]) 3 false,
     Sub.one 0x02 .u64 .rws (.const 0) (.bits 0xFFFFFFFFFFFF) 3 false,
     Sub.one 0x03 .u32 .rws (.const (0)) (.full) 3 false,
     Sub.one 0x04 .u32 .rws (.const (4294967040)) (.special 4) 3 false,
     Sub.one 0x05 .u32 .rws (.const (0)) (.full) 3 false,
     Sub.one 0x06 .u16 .rws (.const (0)) (.ints [(0, 4094)]) 3 false,
     Sub.one 0x07 .bool .rws (.const (1)) (.ints [(0, 1)]) 3 false,
     Sub.one 0x08 .u8 .rws (.const (0)) (.ints [(0, 254)]) 3 false,
     Sub.one 0x09 .u16 .rws (.const (47815)) (.ints [(1024, 65535)]) 3 false,
     Sub.one 0x0A .u8 .rws (.const (2)) (.ints [(2, 255)]) 3 false,
     Sub.one 0x0B .u8 .rws (.const (32)) (.ints [(1, 255)]) 3 false,
     Sub.one 0x0C .u8 .rws (.const (0)) (.ints [(0, 255)]) 3 false,
     Sub.one 0x0D .u8 .ro (.const (0)) (.full) 0 false,
     Sub.one 0x0E .u32 .ro (.const (0)) (.full) 0 false]

/-- R494 of spec/19_ethernet_t1s.md. -/
def rec_devTime : Rec where
  bases := [(0x1240, 0, 1)]
  scope := .dev
  pres := .any
  subs :=
    [Sub.one 0x00 .u8 .ro (.const (11)) (.full) 0 false,
     Sub.one 0x01 .u8 .rws (.const (0)) (.ints [(0, 127)]) 3 false,
     Sub.one 0x02 .u8 .rws (.const (246)) (.ints [(0, 255)]) 3 false,
     Sub.one 0x03 .i16 .rws (.const (-3)) (.ints [(-7, 0)]) 3 false,
     Sub.one 0x04 .u32 .rws (.const (1000)) (.ints [(100, 1000000)]) 3 false,
     Sub.one 0x05 .u32 .rws (.const (10000)) (.ints [(100, 3600000)]) 3 false,
     Sub.one 0x06 .u8 .ro (.const (0)) (.full) 0 false,
     Sub.one 0x07 .i32 .ro (.const (0)) (.full) 0 false,
     Sub.one 0x08 .i32 .ro (.const (0)) (.full) 0 false,
     Sub.one 0x09 .u32 .ro (.const (0)) (.full) 0 false,
     Sub.one 0x0A .bool .rws (.const (0)) (.ints [(0, 1)]) 3 false,
     Sub.one 0x0B .bool .rws (.const (0)) (.ints [(0, 1)]) 3 false]

/-- R494 of spec/19_ethernet_t1s.md. -/
def rec_stream : Rec where
  bases := [(0x1250, 0, 1)]
  scope := .dev
  pres := .any
  subs :=
    [Sub.one 0x00 .u8 .ro (.const (10)) (.full) 0 false,
     Sub.one 0x01 .bool .rws (.const (0)) (.ints [(0, 1)]) 3 false,
     Sub.one 0x02 .u8 .rws (.const (0)) (.ints [(0, 1)]) 3 false,
     Sub.one 0x03 .u32 .rws (.const (0)) (.full) 3 false,
     Sub.one 0x04 .u16 .rws (.const (47816)) (.ints [(1024, 65535)]) 3 false,
     Sub.one 0x05 .u8 .rws (.const (0)) (.ints [(0, 7)]) 3 false,
     Sub.one 0x06 .u8 .rws (.const (0)) (.ints [(0, 254)]) 3 false,
     Sub.one 0x07 (.dom 32) .rws (.const 0xFF) (.full) 3 false,
     Sub.one 0x08 .u8 .rws (.const (2)) (.special 19) 3 false,
     Sub.one 0x09 .u16 .rws (.const (1024)) (.ints [(256, 1456)]) 3 false,
     Sub.one 0x0A .u32 .ro (.const (0)) (.full) 0 false]

/-- R504 of spec/20_safety.md. -/
def rec_saf : Rec where
  bases := [(0x8000, 0, 1)]
  scope := .dev
  pres := .any
  subs :=
    [Sub.one 0x00 .u8 .ro (.const (7)) (.full) 0 false,
     Sub.one 0x01 .u32 .ro (.const 0) (.full) 0 false,
     Sub.one 0x02 .u32 .rsl (.const (0)) (.full) 3 false,
     Sub.one 0x03 .u16 .rsl (.const (24)) (.ints [(1, 8760)]) 3 false,
     Sub.one 0x04 .u32 .ro (.const (0)) (.full) 0 false,
     Sub.one 0x05 .u32 .ro (.const (0)) (.full) 0 false,
     Sub.one 0x06 .u32 .ro (.const (0)) (.full) 0 false,
     Sub.one 0x07 .bool .ro (.const 0) (.ints [(0, 1)]) 0 false]

/-- R515 of spec/20_safety.md. -/
def rec_partner : Rec where
  bases := [(0x1600, 0, 1)]
  scope := .dev
  pres := .any
  subs :=
    [Sub.one 0x00 .u8 .ro (.const (3)) (.full) 0 false,
     Sub.one 0x01 .u16 .ro (.const (0)) (.ints [(0, 4096)]) 0 false,
     Sub.one 0x02 .u16 .rw (.const (0)) (.ints [(0, 8191)]) 2 false,
     Sub.one 0x03 .u16 .ro (.const (0)) (.ints [(0, 2048)]) 0 false]

/-- R515 of spec/20_safety.md. -/
def rec_partnerKey : Rec where
  bases := [(0x1601, 0, 1)]
  scope := .dev
  pres := .any
  subs :=
    [Sub.one 0x00 (.dom 24) .wo (.const 0) (.full) 3 false]

/-- R515 of spec/20_safety.md. -/
def rec_partnerTable : Rec where
  bases := [(0x1680, 0, 1)]
  scope := .dev
  pres := .any
  subs :=
    [Sub.one 0x00 (.dom 524288) .rws (.const 0) (.full) 3 false]

/-- R515 of spec/20_safety.md. -/
def rec_eslConf : Rec where
  bases := [(0x1400, 0, 1)]
  scope := .dev
  pres := .any
  subs :=
    [Sub.one 0x00 .u8 .ro (.const (2)) (.full) 0 false,
     Sub.one 0x01 .u8 .rws (.const (2)) (.ints [(1, 16)]) 3 false,
     Sub.one 0x02 .u16 .rw (.const (0)) (.ints [(0, 2047)]) 2 false]

/-- R515 of spec/20_safety.md. -/
def rec_esl : Rec where
  bases := [(0x1401, 0, 1)]
  scope := .dev
  pres := .any
  subs :=
    [Sub.one 0x00 .u8 .ro (.const (12)) (.full) 0 false,
     Sub.one 0x01 .u8 .ro (.const (0)) (.ints [(0, 4)]) 0 false,
     Sub.one 0x02 .u16 .ro (.const (0)) (.full) 0 false,
     Sub.one 0x03 .u16 .ro (.const (0)) (.full) 0 false,
     Sub.one 0x04 .u64 .ro (.const (0)) (.full) 0 false,
     Sub.one 0x05 .u32 .ro (.const (0)) (.full) 0 false,
     Sub.one 0x06 .u32 .ro (.const (0)) (.full) 0 false,
     Sub.one 0x07 .u32 .ro (.const (0)) (.full) 0 false,
     Sub.one 0x08 .u32 .ro (.const (0)) (.full) 0 false,
     Sub.one 0x09 .u32 .ro (.const (0)) (.full) 0 false,
     Sub.one 0x0A .u32 .ro (.const (0)) (.full) 0 false,
     Sub.one 0x0B .u32 .ro (.const (0)) (.full) 0 false,
     Sub.one 0x0C .u16 .ro (.const (65535)) (.ints [(0, 8191), (65535, 65535)]) 0 false]

/-- R515 of spec/20_safety.md. -/
def rec_eslTable : Rec where
  bases := [(0x1402, 0, 1)]
  scope := .dev
  pres := .any
  subs :=
    [Sub.one 0x00 (.dom 131072) .ro (.const 0) (.full) 0 false]

/-- R521 of spec/20_safety.md. -/
def rec_so : Rec where
  bases := [(0x8100, 1, 8)]
  scope := .dev
  pres := .any
  subs :=
    [Sub.one 0x00 .u8 .ro (.const (12)) (.full) 0 false,
     Sub.one 0x01 .u8 .rsl (.const (0)) (.ints [(0, 2)]) 3 false,
     Sub.one 0x02 .u16 .rsl (.const (200)) (.ints [(50, 300)]) 3 false,
     Sub.one 0x03 .u16 .rsl (.const (50)) (.ints [(5, 100)]) 3 false,
     Sub.one 0x04 .u16 .rsl (.const (200)) (.ints [(50, 300)]) 3 false,
     Sub.one 0x05 .u16 .rsl (.const (1000)) (.ints [(100, 60000)]) 3 false,
     Sub.one 0x06 .bool .rsl (.const (1)) (.ints [(0, 1)]) 3 false,
     Sub.one 0x07 .u8 .rsl (.const (3)) (.ints [(1, 16)]) 3 false,
     Sub.one 0x08 .u8 .ro (.const (0)) (.full) 0 false,
     Sub.one 0x09 .u8 .ro (.const (0)) (.full) 0 false,
     Sub.one 0x0A .u8 .ro (.const (0)) (.full) 0 false,
     Sub.one 0x0B .u64 .ro (.const (0)) (.full) 0 false,
     Sub.one 0x0C .u32 .ro (.const (0)) (.full) 0 false]

/-- R527 of spec/20_safety.md. -/
def rec_si : Rec where
  bases := [(0x8110, 1, 16)]
  scope := .dev
  pres := .any
  subs :=
    [Sub.one 0x00 .u8 .ro (.const (12)) (.full) 0 false,
     Sub.one 0x01 .u8 .rsl (.const (0)) (.ints [(0, 3)]) 3 false,
     Sub.one 0x02 .u8 .rsl (.const (255)) (.ints [(0, 3), (255, 255)]) 3 false,
     Sub.one 0x03 .u8 .rsl (.const (255)) (.ints [(0, 15), (255, 255)]) 3 false,
     Sub.one 0x04 .u8 .rsl (.const (0)) (.ints [(0, 1)]) 3 false,
     Sub.one 0x05 .u16 .rsl (.const (5)) (.ints [(1, 100)]) 3 false,
     Sub.one 0x06 .u16 .rsl (.const (50)) (.ints [(5, 5000)]) 3 false,
     Sub.one 0x07 .u8 .rsl (.const (255)) (.ints [(0, 7), (255, 255)]) 3 false,
     Sub.one 0x08 .u8 .rsl (.const (3)) (.ints [(0, 4)]) 3 false,
     Sub.one 0x09 .bool .ro (.const (0)) (.ints [(0, 1)]) 0 false,
     Sub.one 0x0A .u8 .ro (.const (0)) (.full) 0 false,
     Sub.one 0x0B .u32 .ro (.const (0)) (.full) 0 false,
     Sub.one 0x0C .u32 .ro (.const (0)) (.full) 0 false]

/-- R527 of spec/20_safety.md. -/
def rec_tp : Rec where
  bases := [(0x8120, 0, 1)]
  scope := .dev
  pres := .any
  subs :=
    [Sub.one 0x00 .u8 .ro (.const (3)) (.full) 0 false,
     Sub.one 0x01 .u16 .rsl (.const (100)) (.ints [(10, 1000)]) 3 false,
     Sub.one 0x02 .u16 .rsl (.const (400)) (.ints [(100, 2000)]) 3 false,
     Sub.one 0x03 .u16 .rsl (.const (100)) (.ints [(10, 500)]) 3 false]

/-- R536 of spec/21_faults_memory_leave.md. -/
def rec_fault : Rec where
  bases := [(0x2400, 0, 1)]
  scope := .dev
  pres := .any
  subs :=
    [Sub.one 0x00 .u8 .ro (.const (43)) (.full) 0 false,
     Sub.many 0x01 2 21 .u64 .ro (.const (0)) (.full) 0 false,
     Sub.many 0x02 2 21 .u64 .ro (.const (0)) (.full) 0 false,
     Sub.one 0x2B .u8 .ro (.const (0)) (.full) 0 false]

/-- R536 of spec/21_faults_memory_leave.md. -/
def rec_fClear : Rec where
  bases := [(0x2401, 0, 1)]
  scope := .dev
  pres := .any
  subs :=
    [Sub.one 0x00 .u8 .ro (.const (4)) (.full) 0 false,
     Sub.one 0x01 .u32 .wo (.const 0) (.full) 2 false,
     Sub.one 0x02 .u8 .ro (.const (0)) (.ints [(0, 3)]) 0 false,
     Sub.one 0x03 .u32 .ro (.const (0)) (.full) 0 false,
     Sub.one 0x04 .u32 .ro (.const (0)) (.full) 0 false]

/-- R540 of spec/21_faults_memory_leave.md. -/
def rec_fStore : Rec where
  bases := [(0x2402, 0, 1)]
  scope := .dev
  pres := .any
  subs :=
    [Sub.one 0x00 .u8 .ro (.const (6)) (.full) 0 false,
     Sub.one 0x01 .u16 .ro (.const (0)) (.ints [(0, 256)]) 0 false,
     Sub.one 0x02 .u32 .ro (.const (0)) (.full) 0 false,
     Sub.one 0x03 .u32 .ro (.const (0)) (.full) 0 false,
     Sub.one 0x04 .u32 .ro (.const (0)) (.full) 0 false,
     Sub.one 0x05 .u8 .rw (.const (0)) (.ints [(0, 255)]) 2 false,
     Sub.one 0x06 (.dom 256) .ro (.const 0) (.full) 0 false]

/-- R540 of spec/21_faults_memory_leave.md. -/
def rec_fImage : Rec where
  bases := [(0x2403, 0, 1)]
  scope := .dev
  pres := .any
  subs :=
    [Sub.one 0x00 (.dom 65536) .ro (.const 0) (.full) 0 false]

/-- R540 of spec/21_faults_memory_leave.md. -/
def rec_evLogImage : Rec where
  bases := [(0x2404, 0, 1)]
  scope := .dev
  pres := .any
  subs :=
    [Sub.one 0x00 (.dom 131072) .ro (.const 0) (.full) 0 false]

/-- R541 of spec/21_faults_memory_leave.md. -/
def rec_inject : Rec where
  bases := [(0xF110, 0, 1)]
  scope := .dev
  pres := .m11
  subs :=
    [Sub.one 0x00 .u8 .ro (.const (4)) (.full) 0 false,
     Sub.one 0x01 .u32 .rw (.const (0)) (.full) 5 false,
     Sub.one 0x02 .bool .rw (.const (0)) (.ints [(0, 1)]) 5 false,
     Sub.one 0x03 .u8 .wo (.const 0) (.ints [(1, 1)]) 5 false,
     Sub.one 0x04 .u8 .ro (.const (0)) (.ints [(0, 2)]) 0 false]

/-- R547 of spec/21_faults_memory_leave.md. -/
def rec_mem : Rec where
  bases := [(0x2300, 0, 1)]
  scope := .dev
  pres := .any
  subs :=
    [Sub.one 0x00 .u8 .ro (.const (6)) (.full) 0 false,
     Sub.one 0x01 .u32 .rw (.const (0)) (.bits 0xFFFFFF) 2 false,
     Sub.one 0x02 .u32 .ro (.const (0)) (.full) 0 false,
     Sub.one 0x03 .u32 .ro (.const (0)) (.full) 0 false,
     Sub.one 0x04 .u32 .ro (.const (0)) (.full) 0 false,
     Sub.one 0x05 .u16 .ro (.const (0)) (.ints [(0, 384)]) 0 false,
     Sub.one 0x06 (.dom 1536) .ro (.const 0) (.full) 0 false]

/-- R547 of spec/21_faults_memory_leave.md. -/
def rec_memConf : Rec where
  bases := [(0x2301, 0, 1)]
  scope := .dev
  pres := .any
  subs :=
    [Sub.one 0x00 .u8 .ro (.const (21)) (.full) 0 false,
     Sub.many 0x01 1 20 .u32 .ro (.const (0)) (.full) 0 true,
     Sub.one 0x15 .u32 .ro (.const (0)) (.full) 0 false]

/-- R547 of spec/21_faults_memory_leave.md. -/
def rec_memTest : Rec where
  bases := [(0x2302, 0, 1)]
  scope := .dev
  pres := .any
  subs :=
    [Sub.one 0x00 .u8 .ro (.const (6)) (.full) 0 false,
     Sub.one 0x01 .u16 .rw (.const (100)) (.ints [(20, 10000)]) 2 false,
     Sub.one 0x02 .u32 .ro (.const (0)) (.ints [(0, 98303)]) 0 false,
     Sub.one 0x03 .u32 .ro (.const (0)) (.full) 0 false,
     Sub.one 0x04 .u32 .ro (.const (0)) (.full) 0 false,
     Sub.one 0x05 .u32 .ro (.const (0)) (.full) 0 false,
     Sub.one 0x06 .u32 .ro (.const (0)) (.full) 0 false]

/-- R556 of spec/21_faults_memory_leave.md. -/
def rec_leave : Rec where
  bases := [(0x2100, 0, 1)]
  scope := .dev
  pres := .any
  subs :=
    [Sub.one 0x00 .u8 .ro (.const (13)) (.full) 0 false,
     Sub.one 0x01 .u32 .rw (.const (10000)) (.ints [(1000, 10000)]) 2 false,
     Sub.one 0x02 .u16 .rw (.const (500)) (.ints [(100, 2000)]) 2 false,
     Sub.one 0x03 .u32 .ro (.const (0)) (.ints [(0, 20000)]) 0 false,
     Sub.one 0x04 .u32 .ro (.const (0)) (.ints [(0, 20000)]) 0 true,
     Sub.one 0x05 .u16 .ro (.const (0)) (.ints [(0, 1024)]) 0 false,
     Sub.one 0x06 .u16 .rw (.const (10)) (.ints [(1, 1000)]) 2 false,
     Sub.many 0x07 1 4 .u32 .ro (.const (0)) (.full) 0 false,
     Sub.one 0x0B .u32 .ro (.const (0)) (.full) 0 false,
     Sub.one 0x0C .u64 .ro (.const (0)) (.full) 0 false,
     Sub.one 0x0D .u32 .ro (.const (10000)) (.ints [(500, 10000)]) 0 false]

/-- R560 of spec/21_faults_memory_leave.md. -/
def rec_ts : Rec where
  bases := [(0x2200, 1, 8)]
  scope := .dev
  pres := .any
  subs :=
    [Sub.one 0x00 .u8 .ro (.const (4)) (.full) 0 false,
     Sub.one 0x01 .f32 .ro (.const (0)) (.flt 0xC2700000 0x43480000) 0 false,
     Sub.one 0x02 .f32 .ro (.const (0)) (.flt 0xC2700000 0x43480000) 0 true,
     Sub.one 0x03 .u8 .ro (.const (0)) (.full) 0 false,
     Sub.one 0x04 .u32 .ro (.const (0)) (.full) 0 false]

/-- R560 of spec/21_faults_memory_leave.md. -/
def rec_vm : Rec where
  bases := [(0x2210, 1, 12)]
  scope := .dev
  pres := .any
  subs :=
    [Sub.one 0x00 .u8 .ro (.const (5)) (.full) 0 false,
     Sub.one 0x01 .f32 .ro (.const (0)) (.flt 0x00000000 0x40800000) 0 false,
     Sub.one 0x02 .f32 .ro (.const (0)) (.flt 0x00000000 0x40800000) 0 true,
     Sub.one 0x03 .f32 .ro (.const (0)) (.flt 0x00000000 0x40800000) 0 true,
     Sub.one 0x04 .u8 .ro (.const (0)) (.full) 0 false,
     Sub.one 0x05 .u32 .ro (.const (0)) (.full) 0 false]

/-- R560 of spec/21_faults_memory_leave.md. -/
def rec_pm : Rec where
  bases := [(0x2220, 1, 4)]
  scope := .dev
  pres := .any
  subs :=
    [Sub.one 0x00 .u8 .ro (.const (3)) (.full) 0 false,
     Sub.one 0x01 .f32 .ro (.const (0)) (.flt 0x00000000 0x459C4000) 0 false,
     Sub.one 0x02 .f32 .constant (.const 0) (.flt 0x00000000 0x459C4000) 0 false,
     Sub.one 0x03 .f32 .ro (.const (0)) (.flt 0xC2C80000 0x42C80000) 0 false]

/-- R560 of spec/21_faults_memory_leave.md. -/
def rec_hm : Rec where
  bases := [(0x2230, 0, 1)]
  scope := .dev
  pres := .any
  subs :=
    [Sub.one 0x00 .u8 .ro (.const (5)) (.full) 0 false,
     Sub.one 0x01 .f32 .rw (.const (1124859904)) (.flt 0x42C80000 0x43160000) 2 false,
     Sub.one 0x02 .f32 .rw (.const (1125842944)) (.fltAbove 0x43160000 0x43200000 0x01) 2 false,
     Sub.one 0x03 .f32 .rw (.const (1084227584)) (.flt 0x3F800000 0x41200000) 2 false,
     Sub.one 0x04 .f32 .rw (.const (1082130432)) (.flt 0x3F800000 0x40C00000) 2 false,
     Sub.one 0x05 .f32 .rw (.const (1092616192)) (.flt 0x40000000 0x41A00000) 2 false]

/-- R182 of spec/07_sensing.md. -/
def rec_vswTrim : Rec where
  bases := [(0x33C0, 1, 24)]
  scope := .dev
  pres := .any
  subs :=
    [Sub.one 0x00 .u8 .ro (.const 2) (.full) 0 false,
     Sub.one 0x01 .f32 .rw (.const 0) (.flt 0xBCA3D70A 0x3CA3D70A) 2 false,
     Sub.one 0x02 .f32 .rw (.const 0) (.special 11) 2 false]

/-- R182 of spec/07_sensing.md. -/
def rec_sdTrim : Rec where
  bases := [(0x33D8, 1, 32)]
  scope := .dev
  pres := .any
  subs :=
    [Sub.one 0x00 .u8 .ro (.const 2) (.full) 0 false,
     Sub.one 0x01 .f32 .rw (.const 0) (.flt 0xBCA3D70A 0x3CA3D70A) 2 false,
     Sub.one 0x02 .f32 .rw (.const 0) (.special 11) 2 false]

/-- R182 of spec/07_sensing.md. -/
def rec_vdcTrim : Rec where
  bases := [(0x33F8, 1, 4)]
  scope := .dev
  pres := .any
  subs :=
    [Sub.one 0x00 .u8 .ro (.const 2) (.full) 0 false,
     Sub.one 0x01 .f32 .rw (.const 0) (.flt 0xBCA3D70A 0x3CA3D70A) 2 false,
     Sub.one 0x02 .f32 .rw (.const 0) (.special 11) 2 false]

/-- R182 of spec/07_sensing.md. -/
def rec_ainTrim : Rec where
  bases := [(0x33FC, 0, 1)]
  scope := .dev
  pres := .any
  subs :=
    [Sub.one 0x00 .u8 .ro (.const 32) (.full) 0 false,
     Sub.many 0x01 2 16 .f32 .rw (.const 0) (.flt 0xBCA3D70A 0x3CA3D70A) 2 false,
     Sub.many 0x02 2 16 .f32 .rw (.const 0) (.special 11) 2 false]

/-- R182 of spec/07_sensing.md. -/
def rec_isnTrim : Rec where
  bases := [(0x33FD, 0, 1)]
  scope := .dev
  pres := .any
  subs :=
    [Sub.one 0x00 .u8 .ro (.const 32) (.full) 0 false,
     Sub.many 0x01 2 16 .f32 .rw (.const 0) (.flt 0xBCA3D70A 0x3CA3D70A) 2 false,
     Sub.many 0x02 2 16 .f32 .rw (.const 0) (.special 11) 2 false]

/-- R182 of spec/07_sensing.md. -/
def rec_bstTrim : Rec where
  bases := [(0x33FE, 0, 1)]
  scope := .dev
  pres := .any
  subs :=
    [Sub.one 0x00 .u8 .ro (.const 32) (.full) 0 false,
     Sub.many 0x01 2 16 .f32 .rw (.const 0) (.flt 0xBCA3D70A 0x3CA3D70A) 2 false,
     Sub.many 0x02 2 16 .f32 .rw (.const 0) (.special 11) 2 false]

/-- R182 of spec/07_sensing.md. -/
def rec_voutTrim : Rec where
  bases := [(0x33FF, 0, 1)]
  scope := .dev
  pres := .any
  subs :=
    [Sub.one 0x00 .u8 .ro (.const 8) (.full) 0 false,
     Sub.many 0x01 2 4 .f32 .rw (.const 0) (.flt 0xBCA3D70A 0x3CA3D70A) 2 false,
     Sub.many 0x02 2 4 .f32 .rw (.const 0) (.special 11) 2 false]

/-- R76 of spec/03_seal_boot_calibration.md: layout, types and values are the model's (DESIGN CHOICE, log 78). -/
def rec_calHeader : Rec where
  bases := [(0xF000, 0, 1)]
  scope := .dev
  pres := .any
  subs :=
    [Sub.one 0x00 .u8 .ro (.const 4) (.full) 0 false,
     Sub.one 0x01 .u32 .constant (.const 0) (.full) 0 false,
     Sub.one 0x02 .u32 .constant (.const 0) (.full) 0 false,
     Sub.one 0x03 .u32 .constant (.const 0) (.full) 0 false,
     Sub.one 0x04 .u32 .constant (.const 0) (.full) 0 false]

/-- R76 of spec/03_seal_boot_calibration.md: layout, types and values are the model's (DESIGN CHOICE, log 78). -/
def rec_calVsw : Rec where
  bases := [(0xF010, 1, 24)]
  scope := .dev
  pres := .any
  subs :=
    [Sub.one 0x00 .u8 .ro (.const 2) (.full) 0 false,
     Sub.one 0x01 .f32 .constant (.const 1065353216) (.full) 0 false,
     Sub.one 0x02 .f32 .constant (.const 0) (.full) 0 false]

/-- R76 of spec/03_seal_boot_calibration.md: layout, types and values are the model's (DESIGN CHOICE, log 78). -/
def rec_calVdc : Rec where
  bases := [(0xF030, 1, 4)]
  scope := .dev
  pres := .any
  subs :=
    [Sub.one 0x00 .u8 .ro (.const 2) (.full) 0 false,
     Sub.one 0x01 .f32 .constant (.const 1065353216) (.full) 0 false,
     Sub.one 0x02 .f32 .constant (.const 0) (.full) 0 false]

/-- R76 of spec/03_seal_boot_calibration.md: layout, types and values are the model's (DESIGN CHOICE, log 78). -/
def rec_calAin : Rec where
  bases := [(0xF040, 1, 16)]
  scope := .dev
  pres := .any
  subs :=
    [Sub.one 0x00 .u8 .ro (.const 2) (.full) 0 false,
     Sub.one 0x01 .f32 .constant (.const 1065353216) (.full) 0 false,
     Sub.one 0x02 .f32 .constant (.const 0) (.full) 0 false]

/-- R76 of spec/03_seal_boot_calibration.md: layout, types and values are the model's (DESIGN CHOICE, log 78). -/
def rec_calIsn : Rec where
  bases := [(0xF050, 1, 16)]
  scope := .dev
  pres := .any
  subs :=
    [Sub.one 0x00 .u8 .ro (.const 2) (.full) 0 false,
     Sub.one 0x01 .f32 .constant (.const 1065353216) (.full) 0 false,
     Sub.one 0x02 .f32 .constant (.const 0) (.full) 0 false]

/-- R76 of spec/03_seal_boot_calibration.md: layout, types and values are the model's (DESIGN CHOICE, log 78). -/
def rec_calBst : Rec where
  bases := [(0xF060, 1, 16)]
  scope := .dev
  pres := .any
  subs :=
    [Sub.one 0x00 .u8 .ro (.const 2) (.full) 0 false,
     Sub.one 0x01 .f32 .constant (.const 1065353216) (.full) 0 false,
     Sub.one 0x02 .f32 .constant (.const 0) (.full) 0 false]

/-- R76 of spec/03_seal_boot_calibration.md: layout, types and values are the model's (DESIGN CHOICE, log 78). -/
def rec_calVout : Rec where
  bases := [(0xF070, 1, 4)]
  scope := .dev
  pres := .any
  subs :=
    [Sub.one 0x00 .u8 .ro (.const 2) (.full) 0 false,
     Sub.one 0x01 .f32 .constant (.const 1065353216) (.full) 0 false,
     Sub.one 0x02 .f32 .constant (.const 0) (.full) 0 false]

/-- R76 of spec/03_seal_boot_calibration.md: layout, types and values are the model's (DESIGN CHOICE, log 78). -/
def rec_calMtr : Rec where
  bases := [(0xF080, 1, 8)]
  scope := .dev
  pres := .any
  subs :=
    [Sub.one 0x00 .u8 .ro (.const 2) (.full) 0 false,
     Sub.one 0x01 .f32 .constant (.const 1065353216) (.full) 0 false,
     Sub.one 0x02 .f32 .constant (.const 0) (.full) 0 false]

/-- R76 of spec/03_seal_boot_calibration.md: layout, types and values are the model's (DESIGN CHOICE, log 78). -/
def rec_calTs : Rec where
  bases := [(0xF090, 1, 8)]
  scope := .dev
  pres := .any
  subs :=
    [Sub.one 0x00 .u8 .ro (.const 2) (.full) 0 false,
     Sub.one 0x01 .f32 .constant (.const 1065353216) (.full) 0 false,
     Sub.one 0x02 .f32 .constant (.const 0) (.full) 0 false]

/-- R76 of spec/03_seal_boot_calibration.md: layout, types and values are the model's (DESIGN CHOICE, log 78). -/
def rec_calVref : Rec where
  bases := [(0xF0A0, 0, 1)]
  scope := .dev
  pres := .any
  subs :=
    [Sub.one 0x00 .u8 .ro (.const 2) (.full) 0 false,
     Sub.one 0x01 .f32 .constant (.const 1065353216) (.full) 0 false,
     Sub.one 0x02 .f32 .constant (.const 0) (.full) 0 false]

/-- R76 of spec/03_seal_boot_calibration.md: layout, types and values are the model's (DESIGN CHOICE, log 78). -/
def rec_calOsc : Rec where
  bases := [(0xF0A1, 0, 1)]
  scope := .dev
  pres := .any
  subs :=
    [Sub.one 0x00 .u8 .ro (.const 2) (.full) 0 false,
     Sub.one 0x01 .f32 .constant (.const 1065353216) (.full) 0 false,
     Sub.one 0x02 .f32 .constant (.const 0) (.full) 0 false]

/-- R331 of spec/13_lv_converter_actuators.md. -/
def rec_lvPar : Rec where
  bases := [(0x5003, 0, 1)]
  scope := .fixed 5
  pres := .vehicle
  subs :=
    [Sub.one 0x00 .u8 .ro (.const 31) (.full) 0 false,
     Sub.one 0x01 .f32 .rws (.const (1142292480)) (.flt 0x42480000 0x451C4000) 3 false,
     Sub.one 0x02 .f32 .rws (.const (1117126656)) (.flt 0x41200000 0x43FA0000) 3 false,
     Sub.one 0x03 .f32 .rws (.const (1056964608)) (.flt 0x3C23D70A 0x42C80000) 3 false,
     Sub.one 0x04 .f32 .rws (.const (1073741824)) (.flt 0x3F000000 0x42480000) 3 false,
     Sub.one 0x05 .f32 .rws (.const (1092616192)) (.flt 0x3F800000 0x42480000) 3 false,
     Sub.one 0x06 .f32 .rws (.const (1084227584)) (.flt 0x3F000000 0x43480000) 3 false,
     Sub.one 0x07 .bool .rws (.const 0) (.ints [(0, 1)]) 3 false,
     Sub.many 0x10 1 16 .f32 .ro (.const 0) (.flt 0xBE000000 0x3E000000) 0 false]

/-- R492 of spec/19_ethernet_t1s.md. -/
def rec_xgGate : Rec where
  bases := [(0x1201, 16, 2)]
  scope := .dev
  pres := .any
  subs :=
    [Sub.one 0x00 .u8 .ro (.const 1) (.full) 0 false,
     Sub.one 0x01 .u32 .ro (.const 0) (.full) 0 false]

/-- R371 of spec/15_station_site.md. -/
def rec_stTripRec : Rec where
  bases := [(0x6302, 0, 1)]
  scope := .fixed 6
  pres := .station
  subs :=
    [Sub.one 0x00 .u8 .ro (.const (24)) (.full) 0 false,
     Sub.one 0x01 .f32 .rws (.const (1137180672)) (.flt 0x42C80000 0x43FA0000) 3 false,
     Sub.one 0x02 .f32 .rws (.const (1122369536)) (.flt 0x42C80000 0x43020000) 3 false,
     Sub.one 0x03 .u16 .rws (.const (100)) (.ints [(0, 60000)]) 3 false,
     Sub.one 0x04 .f32 .rws (.const (1121714176)) (.flt 0x42C80000 0x43020000) 3 false,
     Sub.one 0x05 .u16 .rws (.const (3000)) (.ints [(0, 60000)]) 3 false,
     Sub.one 0x06 .f32 .rws (.const (1117782016)) (.flt 0x41200000 0x42C80000) 3 false,
     Sub.one 0x07 .u16 .rws (.const (500)) (.ints [(0, 60000)]) 3 false,
     Sub.one 0x08 .f32 .rws (.const (1111359488)) (.flt 0x42200000 0x42700000) 3 false,
     Sub.one 0x09 .u16 .rws (.const (100)) (.ints [(0, 60000)]) 3 false,
     Sub.one 0x0A .f32 .rws (.const (1112408064)) (.flt 0x42480000 0x428C0000) 3 false,
     Sub.one 0x0B .u16 .rws (.const (100)) (.ints [(0, 60000)]) 3 false,
     Sub.one 0x0C .f32 .rws (.const (1073741824)) (.flt 0x3DCCCCCD 0x41200000) 3 false,
     Sub.one 0x0D .u16 .rws (.const (500)) (.ints [(0, 60000)]) 3 false,
     Sub.one 0x0E .f32 .rws (.const (1097859072)) (.flt 0x3F800000 0x42B40000) 3 false,
     Sub.one 0x0F .f32 .rws (.const (1048576000)) (.flt 0x3C23D70A 0x41200000) 3 false,
     Sub.one 0x10 .u16 .rws (.const (1000)) (.ints [(0, 60000)]) 3 false,
     Sub.one 0x11 .u16 .rws (.const (60)) (.ints [(0, 3600)]) 3 false,
     Sub.one 0x12 .f32 .rws (.const (1092616192)) (.flt 0x3F800000 0x42C80000) 3 false,
     Sub.one 0x13 .f32 .rws (.const (1118437376)) (.flt 0x41200000 0x42C80000) 3 false,
     Sub.one 0x14 .f32 .rws (.const (1121714176)) (.flt 0x42C80000 0x43020000) 3 false,
     Sub.one 0x15 .f32 .rws (.const (1111359488)) (.flt 0x42200000 0x42700000) 3 false,
     Sub.one 0x16 .f32 .rws (.const (1112041062)) (.flt 0x42480000 0x428C0000) 3 false,
     Sub.one 0x17 .u8 .rws (.const (5)) (.ints [(1, 50)]) 3 false] ++
    [Sub.one 0x18 .u16 .rws (.const (60)) (.ints [(1, 1440)]) 3 false]

/-- R275 of spec/11_traction.md. -/
def rec_tracPlan : Rec where
  bases := [(0x4920, 0, 1)]
  scope := .dev
  pres := .vehicle
  subs :=
    [Sub.one 0x00 .u8 .ro (.const 2) (.full) 0 false,
     Sub.one 0x01 .u16 .rws (.const 100) (.ints [(50, 1000)]) 3 false,
     Sub.one 0x02 .u32 .ro (.const 0) (.full) 0 false]

/-- R447 of spec/17_object_dictionary.md. -/
def rec_slotMap : Rec where
  bases := [(0x9000, 1, 4096)]
  scope := .dev
  pres := .any
  subs :=
    [Sub.one 0x00 .u8 .ro (.const 0x40) (.full) 0 false,
     Sub.many 0x01 2 32 .u64 .rws (.const 0) (.special 20) 3 false,
     Sub.many 0x02 2 32 .u64 .rws (.const 0) (.full) 3 false]

/-- The whole object dictionary (R428), record by record. -/
def objTable : List Rec :=
  [rec_clock, rec_mode, rec_fnReset, rec_seal, rec_boot, rec_swap, rec_scope, rec_tb, rec_evShadow, rec_evActive, rec_ev, rec_stamp, rec_entry, rec_group, rec_hb, rec_patShadow, rec_patActive, rec_patDirShadow, rec_patDirActive, rec_pat] ++
  [rec_lv, rec_gs, rec_sd, rec_vsw, rec_vdc, rec_ain, rec_lvSense, rec_vout, rec_slot, rec_eng, rec_sup, rec_progShadow, rec_progActive, rec_constShadow, rec_constActive, rec_stateInit, rec_stateLive, rec_mbxLive, rec_prog, rec_obsModel] ++
  [rec_obs, rec_obsConf, rec_comm, rec_plan, rec_tlink, rec_trac, rec_tracSt, rec_tracDeg, rec_wcConf, rec_wc, rec_wcTripRec, rec_cpConf, rec_cp, rec_cpWin, rec_lamp, rec_lvConf, rec_lvSt, rec_lvTel, rec_gaConf, rec_ga] ++
  [rec_gaPos, rec_lkConf, rec_lk, rec_lkPostConf, rec_lkPost, rec_td, rec_stConf, rec_st, rec_ccConf, rec_cc, rec_monConf, rec_mon, rec_monTable, rec_monCl, rec_mtrReg, rec_mtrPh, rec_mtrSt, rec_mtrConf, rec_mtrJrn, rec_mtrRec] ++
  [rec_mtrKey, rec_pqRing, rec_jrnImage, rec_ident, rec_fwStaging, rec_fw, rec_mtrImage, rec_roaConf, rec_roa, rec_roaTable, rec_roleKey, rec_canConf, rec_can, rec_canTx, rec_canAnt, rec_canTxFrame, rec_canTime, rec_canRx, rec_canRxLong, rec_canFilters] ++
  [rec_xg, rec_t1s, rec_devTime, rec_stream, rec_saf, rec_partner, rec_partnerKey, rec_partnerTable, rec_eslConf, rec_esl, rec_eslTable, rec_so, rec_si, rec_tp, rec_fault, rec_fClear, rec_fStore, rec_fImage, rec_evLogImage, rec_inject] ++
  [rec_mem, rec_memConf, rec_memTest, rec_leave, rec_ts, rec_vm, rec_pm, rec_hm, rec_vswTrim, rec_sdTrim, rec_vdcTrim, rec_ainTrim, rec_isnTrim, rec_bstTrim, rec_voutTrim, rec_calHeader, rec_calVsw, rec_calVdc, rec_calAin, rec_calIsn] ++
  [rec_calBst, rec_calVout, rec_calMtr, rec_calTs, rec_calVref, rec_calOsc, rec_tracPlan, rec_lvPar, rec_xgGate, rec_stTripRec, rec_slotMap]

end Sys2Proof.Machine
end

