-- ==== Sys2Proof/Machine/Objects.lean ====
section
/-! DEFINITION. Lookup in the object dictionary and the store that holds its values: keys rising, nothing listed that
equals the table's default. -/

namespace Sys2Proof.Machine

/-- The instance that an index has in one base triple. -/
def baseInst (b : Nat × Nat × Nat) (idx : Nat) : Option Nat :=
  if b.2.1 = 0 then (if idx = b.1 then some 0 else none)
  else if b.1 ≤ idx ∧ (idx - b.1) % b.2.1 = 0 ∧ (idx - b.1) / b.2.1 < b.2.2 then some ((idx - b.1) / b.2.1) else none

/-- The instance number of an index in a list of bases, counted on across them. -/
def basesInst : List (Nat × Nat × Nat) → Nat → Nat → Option Nat
  | [], _, _ => none
  | b :: bs, idx, off =>
    match baseInst b idx with
    | some i => some (off + i)
    | none => basesInst bs idx (off + b.2.2)

/-- The record and instance that an index names. -/
def findRec : List Rec → Nat → Option (Rec × Nat)
  | [], _ => none
  | r :: rs, idx =>
    match basesInst r.bases idx 0 with
    | some i => some (r, i)
    | none => findRec rs idx

/-- The row of a record that holds a sub-index, and the sub-index's place in that row. -/
def findSub : List Sub → Nat → Option (Sub × Nat)
  | [], _ => none
  | d :: ds, x =>
    if d.sub ≤ x ∧ (x - d.sub) % d.stride = 0 ∧ (x - d.sub) / d.stride < d.count then some (d, (x - d.sub) / d.stride)
    else findSub ds x

/-- What the tables say of one Index:Sub. -/
structure ObjInfo where
  rcd : Rec
  inst : Nat
  row : Sub
  place : Nat
  deriving DecidableEq, Repr

/-- The table entry of an Index:Sub, if the dictionary has one (R427). -/
def objInfo (idx sub : Nat) : Option ObjInfo :=
  match findRec objTable idx with
  | none => none
  | some (r, i) =>
    match findSub r.subs sub with
    | none => none
    | some (d, p) => some ⟨r, i, d, p⟩

/-- The table's default of an object, by key. -/
def defaultOf (k : Nat) : Int :=
  match objInfo (k / 256) (k % 256) with
  | none => 0
  | some o =>
    match o.row.dflt with
    | .const v => v
    | .obs a b => if o.inst < 4 then a else b
    | .inst => o.inst

/-- Values by key. -/
abbrev Store := List (Nat × Int)

/-- Put one pair into a rising list. -/
def insertKey : Store → Nat → Int → Store
  | [], k, v => [(k, v)]
  | p :: st, k, v => if k < p.1 then (k, v) :: p :: st else p :: insertKey st k v

/-- The value of an object: what is listed, else the table's default. -/
def Store.get (st : Store) (k : Nat) : Int :=
  match st.lookup k with
  | some v => v
  | none => defaultOf k

/-- Change one object's value; a default is not listed. -/
def Store.set (st : Store) (k : Nat) (v : Int) : Store :=
  if v = defaultOf k then st.filter (fun p => p.1 != k)
  else insertKey (st.filter (fun p => p.1 != k)) k v

/-- The store's canonical form: keys strictly rising, no default listed. -/
def Store.wf : Store → Bool
  | [] => true
  | [p] => p.2 != defaultOf p.1
  | p :: q :: st => p.2 != defaultOf p.1 && p.1 < q.1 && Store.wf (q :: st)

end Sys2Proof.Machine
end

