-- ==== Sys2Proof/Machine/State.lean ====
section
/-! DEFINITION. The state of the device: the values of its dictionary, the bytes of its blocks, and the state the spec
gives it behind the dictionary, chapter by chapter. Plain data throughout. -/

namespace Sys2Proof.Machine

/-- Why a command stops the model. -/
inductive Fault
  /-- Raised by no meaning: the spec gives every command an effect, or no effect, in every state, and a command with operands of a shape that
  no interface carries is ill formed (`Instr.wf`). Safe: nothing rests on it. -/
  | commandShape
  deriving DecidableEq, Repr

/-- Why a command has no meaning. -/
inductive Refusal
  /-- Raised by no arm of `exec`: every command has its meaning. An arm would raise it with its mnemonic. Safe: the model stops. -/
  | notModelled (mnemonic : String)
  deriving DecidableEq, Repr

/-- Supplies, reset and clock balls, and the seal pins (R61, R65, R68, R569). -/
structure Plat where
  vddCoc : Bool := false
  resetN : Bool := false
  pfailN : Bool := true
  /-- the main domain is powered and out of reset (R15) -/
  mainOn : Bool := false
  /-- RESET_N has been released since VDD_COC rose, so the seal latch is loaded (R62) -/
  latchLoaded : Bool := false
  sealLatch : Nat := 0
  /-- the reference edge and both PLL locks are present (R13) -/
  clockOk : Bool := true
  resetLowMs : Nat := 0
  /-- tick at which RESET_N fell for the reset in course (R68) -/
  resetAt : Option Nat := none
  /-- floating and changed seal pins kept for the next pass that completes (R64) -/
  keptFloat : Nat := 0
  keptChange : Nat := 0
  deriving DecidableEq, Repr, Inhabited

/-- What a trigger applied to a machine, or to the functions outside the machines (R16, R17, R21). -/
inductive Applied
  /-- nothing: the trigger did not name it, or kept the pins (R19, R541) -/
  | untouched
  /-- the default plan -/
  | default
  /-- a committed plan -/
  | plan (a : PlanAct)
  /-- the gate-drive reaction in force, by HbReaction's number -/
  | kept (reaction : Nat)
  deriving DecidableEq, Repr, Inhabited

/-- One record of the island's retention memory (R23). -/
structure TriggerRec where
  code : Nat
  inst : Nat
  time : Nat
  /-- every function, or only those named -/
  whole : Bool
  /-- what was applied to MA0-MA3, and to the other functions -/
  machines : List Applied
  others : Applied
  resetMs : Nat
  masked : Bool
  deriving DecidableEq, Repr, Inhabited

/-- The Cocoon island (R16 to R23, R66, R499). -/
structure Island where
  /-- committed plans of MA0-MA3; none is the default plan (R17) -/
  plans : List (Option PlanAct) := [none, none, none, none]
  /-- the pending buffer of R16 -/
  pendingPlans : List (Option PlanAct) := [none, none, none, none]
  /-- the station functions' plan and its pending buffer: its one content is the default plan's (R16, R17) -/
  stPlan : Option PlanAct := none
  pendingStPlan : Option PlanAct := none
  /-- functions held after a SAFE fault (R19, R39) -/
  held : List Fn := []
  /-- every function under its plan (R19) -/
  whole : Bool := false
  /-- machines whose gate-drive reaction is kept instead of the plan (R21) -/
  kept : List Nat := []
  cocoonHold : Bool := false
  /-- code of the trigger that set CocoonHold, 0 while none has (R35) -/
  holdCode : Nat := 0
  armedClock : Bool := false
  armedWatchdog : Bool := false
  /-- time of the last watchdog service, ns since VDD_COC rose -/
  lastService : Option Nat := none
  /-- the last watchdog service kept the window (R47) -/
  serviceOk : Bool := true
  records : List TriggerRec := []
  resetHeld : Bool := false
  coreUvInM1 : Bool := false
  watchdogExpiries : Nat := 0
  resetHeldCount : Nat := 0
  deriving DecidableEq, Repr, Inhabited

/-- A raise waiting for H0 (R532). -/
structure Raise where
  code : Nat
  inst : Nat
  cls : Nat
  time : Nat
  mode : Nat
  /-- the status was set already (R533) -/
  again : Bool
  injected : Bool
  context : List Nat
  deriving DecidableEq, Repr, Inhabited

/-- A record of the fault store (R538). -/
structure FaultRec where
  code : Nat
  cls : Nat
  inst : Nat
  seq : Nat
  firstTime : Nat
  lastTime : Nat
  occurrences : Nat
  merged : List (Nat × Nat) := []
  overflow : Bool := false
  clearedCodes : List (Nat × Nat) := []
  cleared : Bool := false
  previousCycle : Bool := false
  injected : Bool := false
  fromIsland : Bool := false
  mode : Nat
  clearTime : Nat := 0
  clearRefused : Nat := 0
  chrysalis : Nat := 0
  context : List Nat := []
  deriving DecidableEq, Repr, Inhabited

/-- An entry of the event log (R539). -/
structure LogEntry where
  time : Nat
  count : Nat
  kind : Nat
  code : Nat
  inst : Nat
  arg1 : Nat := 0
  arg2 : Nat := 0
  deriving DecidableEq, Repr, Inhabited

/-- The fault collector, the fault store and the event log (R532 to R539). -/
structure Collector where
  /-- (code, instance) pairs whose status is set -/
  active : List (Nat × Nat) := []
  queue : List Raise := []
  /-- (slot, record), the slots of R537 -/
  slots : List (Nat × FaultRec) := []
  /-- the next RecordSequence of this power cycle -/
  nextSeq : Nat := 1
  /-- the next slot from 32 to 255 -/
  nextSlot : Nat := 32
  /-- entries staged in SRAM -/
  staged : List LogEntry := []
  /-- the ring in eMRAM, newest last -/
  ring : List LogEntry := []
  /-- entries that the ring has taken since manufacture: the next goes to this slot modulo 4,096 -/
  ringCount : Nat := 0
  deriving DecidableEq, Repr, Inhabited

/-- A requested transition and its source (R34 to R36, R44). -/
structure ModeX where
  /-- a requested transition is in progress -/
  requested : Bool := false
  /-- the transition ends a session and records this cause (R35, R46) -/
  cause : Nat := 0
  /-- machines whose observer has taken no step since the acceptance of the M3 request (R44) -/
  m3Wait : List Nat := []
  /-- time (ns since VDD_COC rose) of its acceptance (R44, R53) -/
  since : Nat := 0
  /-- a per-function reset is running (class, instance) -/
  resetClass : Nat := 0
  resetInst : Nat := 0
  deriving DecidableEq, Repr, Inhabited

/-- A swap that an event in its own tick may still undo (R85): its tick, map, the active sets and the status objects as they were, the scopes whose two
sets were equal, and the scopes not saved before it. -/
structure SwapUndo where
  tick : Nat
  map : Nat
  active : Store
  objs : List (Nat × Int)
  equal : List Nat
  unsaved : List Nat
  deriving DecidableEq, Repr, Inhabited

/-- An armed swap with the values it was armed with, and the scopes whose stores are not saved (R83, R86). -/
structure SwapX where
  armed : Bool := false
  map : Nat := 0
  boundary : Nat := 0
  timebase : Nat := 0
  angle : Nat := 0
  time : Nat := 0
  /-- selected scopes whose two sets were equal when the swap was armed -/
  equal : List Nat := []
  /-- scopes whose new selection is not yet in eMRAM -/
  unsaved : List Nat := []
  /-- the swap of the present tick -/
  undo : Option SwapUndo := none
  deriving DecidableEq, Repr, Inhabited

/-- What the eMRAM device records and the firmware slots hold (R70, R443, R548). -/
structure NvX where
  sealReference : Nat := 0
  sealBreakCount : Nat := 0
  chrysalisCount : Nat := 0
  rollbackFloor : Nat := 0
  activeSlot : Nat := 0
  slotValid : List Bool := [true, true]
  slotVersion : List Nat := [0, 0]
  /-- the inactive slot is to be tried at the next pass -/
  trial : Bool := false
  /-- role keys 1 to 5, by role code -/
  roleKeys : List Nat := [0, 0, 0, 0, 0, 0]
  /-- wrapped-key writes by partner entry -/
  partnerKeys : List (Nat × Nat) := []
  metrologyValid : Bool := true
  /-- remapped regions: bank, spare, region (R545) -/
  remap : List (Nat × Nat × Nat) := []
  deriving DecidableEq, Repr, Inhabited

/-- An occurrence of an event-list entry (R98, R100). -/
structure Occ where
  action : Nat
  target : Nat
  arg : Nat
  entry : Nat
  /-- occurrence angle θ_k -/
  angle : Nat
  /-- where it was crossed, for the order of R103: the tick × 2^32 + the distance in au from the start of that tick's span -/
  off : Nat
  /-- tick at which the action takes effect -/
  due : Nat
  /-- fine edges into the tick of a test pulse's leading edge -/
  lead : Nat := 0
  deriving DecidableEq, Repr, Inhabited

/-- What a timebase holds behind its record (R87 to R104). Angles here carry the 16 hidden fraction bits. -/
structure TbX where
  frac : Nat := 0
  /-- phase error still to be slewed, and the ticks left of its window (R92) -/
  slew : Int := 0
  slewLeft : Nat := 0
  /-- the next valid update sets the angle (R94) -/
  first : Bool := false
  /-- a step that the next tick takes, au (R91) -/
  step : Option Int := none
  /-- the angle before the last tick's normal advance, au, and the advance in the direction of motion (R114) -/
  start : Nat := 0
  gone : Nat := 0
  /-- the largest |TbPhaseError| of an update since the grid's supervision looked last, au (R300) -/
  jump : Nat := 0
  /-- consecutive updates within TbLockThreshold (R93) -/
  lockRun : Nat := 0
  /-- travel since the first update of an unbroken run, for a grid source (R93) -/
  travel : Option Int := none
  /-- consecutive updates beyond TbLossThreshold (R94) -/
  lossRun : Nat := 0
  /-- the last non-zero sign of the speed (R88) -/
  back : Bool := false
  /-- distance still to go to the mark of a regress (R101) -/
  wait : Nat := 0
  /-- occurrences moved to the next tick (R104) -/
  moved : List Occ := []
  /-- delayed occurrences pending (R104) -/
  delayed : List Occ := []
  deriving DecidableEq, Repr, Inhabited

/-- A channel's hidden part: HB0-HB23 are 0-23, LV0-LV15 are 24-39 (R108 to R131, R157 to R160). Switch states are 0 both off, 1
lower on, 2 upper on; fine edges are counted since VDD_COC rose, 64 to a tick. -/
structure ChanX where
  /-- what PUL and ENA hold, and their changes to come: fine edge, PUL, ENA (R108, R109) -/
  pul : Bool := false
  ena : Bool := false
  ev : List (Nat × Bool × Bool) := []
  /-- the switch state last called for, its fine edge, and the last change of PUL, rise and fall of ENA -/
  st : Nat := 0
  lastFe : Nat := 0
  pulFe : Nat := 0
  enaFe : Nat := 0
  offFe : Nat := 0
  /-- what PUL held when ENA fell last, and when ENA had risen for that on-interval (R137) -/
  offPul : Bool := false
  onFe : Nat := 0
  /-- the lowest on-state voltage since the group's period start, an F32 word, and a brake chopper's periods in a row in which its node has
  not moved (R286) -/
  lowOn : Option Nat := none
  unmoved : Nat := 0
  /-- consecutive detector samples above HbDesatThreshold in the on-interval that began with an ENA rise (R137) -/
  above : Nat := 0
  aboveFe : Nat := 0
  /-- the hard-short comparator's output in the last tick (R139) -/
  hard : Bool := false
  /-- the state that the carrier or the pattern gives, which a refresh keeps waiting (R133) -/
  want : Nat := 0
  /-- edges of the present period that have been emitted, by bit (R119); the next edge goes with an omitted one (R121) -/
  seen : Nat := 0
  skip : Bool := false
  /-- duty in force, 2^-24, and the offset of the channel's own position, 2^-32 (R114, R115) -/
  duty : Nat := 0
  shift : Nat := 0
  /-- edges at set times: a triggered cycle or a test pulse (R100, R131) -/
  sched : List (Nat × Nat) := []
  /-- the fine edge at which a refresh or a precharge ends (R128, R129) -/
  busy : Option Nat := none
  /-- the lower switch has conducted for LvRefreshTime in the present period (R128) -/
  lowOk : Bool := false
  /-- tick at which a running test pulse ends (R100) -/
  testPulse : Option Nat := none
  /-- carrier periods since the lower switch last conducted for LvRefreshTime (R128) -/
  refreshRun : Nat := 0
  /-- consecutive bootstrap samples below LvBstUvThreshold (R130) -/
  bstLow : Nat := 0
  /-- causes of the channel's events in force (R150, R151) -/
  causes : List Nat := []
  /-- time (ns since VDD_COC rose) at which retries began (R157) -/
  retries : List Nat := []
  /-- the second retry wait runs (R158) -/
  secondWait : Bool := false
  /-- re-arms at its next period start (R158) -/
  rearm : Bool := false
  /-- carrier periods in a row whose highest switch-node sample exceeded the link's margin (R175) -/
  implausible : Nat := 0
  deriving DecidableEq, Repr, Inhabited

/-- A gate supply's hidden part (R143 to R148). -/
structure SupplyX where
  /-- progress of the cycle in course, in units of 1/80,000,000 of it per tick and hertz, and the tick at which it is sampled -/
  phase : Nat := 0
  sampleAt : Option Nat := none
  /-- consecutive samples below GsUvloThreshold, above it and its hysteresis, and above GsOvloThreshold (R146) -/
  low : Nat := 0
  good : Nat := 0
  high : Nat := 0
  /-- tick at which the soft start began (R145) -/
  since : Nat := 0
  /-- duties of the last millisecond with their ticks, F32 (R148) -/
  duties : List (Nat × Nat) := []
  deriving DecidableEq, Repr, Inhabited

/-- A switch-voltage input's conversions (R169, R170, R175). -/
structure VswX where
  /-- the last conversion, F32 -/
  last : Nat := 0
  /-- volt-ticks and ticks of the window in course, and its highest detector sample, F32 -/
  sum : Rat := 0
  len : Nat := 0
  highest : Nat := 0
  deriving DecidableEq, Repr, Inhabited

/-- A link input's conversions (R174, R175). -/
structure VdcX where
  /-- sum and number of the conversions of the millisecond in course -/
  sum : Rat := 0
  count : Nat := 0
  /-- consecutive conversions at full-scale code -/
  full : Nat := 0
  /-- the last ten conversions as F32 words, the newest first; or a mean of ten that a command reports (R270, R284) -/
  recent : List Nat := []
  /-- nothing has been converted since VdcMin was read -/
  minEmpty : Bool := true
  deriving DecidableEq, Repr, Inhabited

/-- A sigma-delta input (R164 to R167, R183, R186). -/
structure SdX where
  /-- the last 48 bits, the newest lowest; clocks taken; clocks since the last transition -/
  bits : Nat := 0
  clocks : Nat := 0
  still : Nat := 0
  /-- ticks of the window centres whose values are due (R166) -/
  centres : List Nat := []
  /-- a trim write: its tick, and gain and offset before it, F32 (R186) -/
  trim : Option (Nat × Nat × Nat) := none
  deriving DecidableEq, Repr, Inhabited

/-- The converters behind the sensing records (R164 to R186). -/
structure SenseX where
  vsw : List VswX := List.replicate 24 {}
  vdc : List VdcX := List.replicate 4 {}
  sd : List SdX := List.replicate 32 {}
  /-- inputs of classes 1 to 6 whose next conversion goes to a SAMPLE, as masks -/
  trig : List Nat := [0, 0, 0, 0, 0, 0, 0]
  /-- the input converted last by each half's converter (R177) -/
  ain : List Nat := [7, 15]
  /-- consecutive conversions outside and inside the valid window (R178) -/
  ainOut : List Nat := List.replicate 16 0
  ainIn : List Nat := List.replicate 16 0
  /-- consecutive conversions at a rail: LVn_ISN, LVn_BST, VOUTk (R180) -/
  rail : List Nat := List.replicate 36 0
  /-- consecutive edges of SDCLK0-3 that the readback did not follow (R183) -/
  clk : List Nat := [0, 0, 0, 0]
  deriving DecidableEq, Repr, Inhabited

/-- A PWM group's hidden part; HB groups are 0-11, LV groups 16-23 (R113, R116 to R119). -/
structure GroupX where
  /-- the last committed set that is loadable, by object key -/
  committed : List (Nat × Int) := []
  /-- a later commit and its tick, loadable one tk after it (R118) -/
  next : Option (Nat × List (Nat × Int)) := none
  /-- the set in force -/
  loaded : List (Nat × Int) := []
  /-- a loadable commit since the last load -/
  fresh : Bool := false
  /-- pattern in force (R126) -/
  pattern : Nat := 0
  /-- tick of the last period start -/
  startTick : Option Nat := none
  /-- carrier position after the last tick, 2^-32, and the direction it went (R114) -/
  pos : Nat := 0
  back : Bool := false
  /-- sign of the injected component, alternating at every load (R245) -/
  injSign : Bool := false
  /-- a period start is held back until its spacing is reached (R116) -/
  held : Bool := false
  deriving DecidableEq, Repr, Inhabited

/-- A law slot's hidden part (R193 to R210). -/
structure SlotX where
  startArg : Nat := 0
  startAngle : Nat := 0
  startTick : Nat := 0
  /-- the next instance finds the first-instance flag set (R210) -/
  first : Bool := true
  /-- the instance in progress runs the preset entry (R206) -/
  preset : Bool := false
  /-- the instance in progress runs on the banks in force before a swap (R209) -/
  oldBank : Bool := false
  /-- what a function's own block writes into the snapshot, by port (R267) -/
  words : List (Nat × Nat) := []
  /-- snapshot of the input ports, taken when the instance begins (R193) -/
  snap : List (Nat × Nat) := []
  /-- consecutive aborted instances (R199) -/
  misses : Nat := 0
  /-- a swap has disabled the slot; it takes effect when the instance in progress ends (R196) -/
  disableAtEnd : Bool := false
  /-- residual differences Δ_k as F32 words, and the angle travelled since θ_0 is counted from here (R207) -/
  delta : List Nat := [0, 0, 0, 0]
  theta0 : Nat := 0
  revs0 : Nat := 0
  /-- residuals are being supplied -/
  residual : Bool := false
  deriving DecidableEq, Repr, Inhabited

/-- A supervision channel's hidden part (R211). -/
structure SupX where
  above : Nat := 0
  below : Nat := 0
  /-- time (ns since VDD_COC rose) at which the warm-up began -/
  since : Nat := 0
  deriving DecidableEq, Repr, Inhabited

/-- An engine's hidden part. -/
structure EngX where
  sups : List SupX := List.replicate 8 {}
  /-- program and constant banks in force before a swap, while an earlier instance still runs on them (R209) -/
  oldBanks : List Host.Cell := []
  /-- slot and engine records in force before that swap -/
  oldRecs : Store := []
  /-- ticks in which a slot ran, since the present millisecond began (EngLoad) -/
  busyTicks : Nat := 0
  /-- an accepted hand-over request waits: outgoing and incoming slot (R206, R208) -/
  handover : Option (Nat × Nat) := none
  /-- hand-over words copied for the preset (R206) -/
  copied : List Nat := [0, 0, 0, 0]
  deriving DecidableEq, Repr, Inhabited

/-- An observer's hidden part (R240 to R258). -/
structure ObsX where
  /-- time (ns since VDD_COC rose) at which the first-use behaviour began (R251) -/
  firstUse : Option Nat := none
  /-- injection runs (R244) -/
  injecting : Bool := false
  /-- V_ε and EWMA of |r|² as F32 words (R252) -/
  vEps : Nat := 0
  noise : Nat := 0
  /-- the AQR is being evaluated -/
  evaluating : Bool := false
  lostRun : Nat := 0
  agreeRun : Nat := 0
  sup : SupX := {}
  /-- tick of the last step's sample, its mean interval in seconds and the αβ currents of the sets (R240, R252), F32 -/
  stepTick : Option Nat := none
  interval : Nat := 0
  amps : List Nat := []
  /-- the back-EMF observer's angle, frequency and phase-detector error, the latter two F32 (R247) -/
  emfAngle : Nat := 0
  emfFreq : Nat := 0
  eps : Nat := 0
  /-- the voltage model's flux integral in αβ, F32 (R247); the injection tracker's angle (R245) and where a test began with it (R251) -/
  flux : List Nat := [0, 0]
  track : Nat := 0
  trackFrom : Option Nat := none
  /-- the low-speed angle and frequency, F32 (R244) -/
  low : Nat := 0
  lowFreq : Nat := 0
  /-- the catch check: magnitude and angle of the back-EMF, how far it has turned and in what time (R248) -/
  catchEmf : Nat := 0
  catchAngle : Option Nat := none
  turned : Int := 0
  turnTime : Nat := 0
  /-- the peaks of a test's pulses, F32 (R249, R250) -/
  peaks : List Nat := List.replicate 12 0
  /-- a regime-2 test runs on switching groups (R249, R250) -/
  testing : Bool := false
  /-- polarity tests made (R249) -/
  tries : Nat := 0
  /-- time (ns since VDD_COC rose) at which the pulses of a test began (R249, R250) -/
  pulseAt : Option Nat := none
  /-- a regime-2 test has been abandoned and waits 10 ms (R251) -/
  abandoned : Bool := false
  /-- the last catch check found standstill (R259) -/
  standstill : Bool := false
  /-- net count of commutation events (R258) -/
  net : Int := 0
  /-- time (ns since VDD_COC rose) of the entry into regime 7 (R256) -/
  lostAt : Nat := 0
  /-- q current of the last step, F32 (R258, R275) -/
  qCurrent : Nat := 0
  deriving DecidableEq, Repr, Inhabited

/-- A traction machine's hidden part (R266 to R292). -/
structure TracX where
  /-- time (ns since VDD_COC rose) of the last limit stage -/
  last : Nat := 0
  /-- k_stall as an F32 word (R278) -/
  kStall : Nat := 0x3F800000
  /-- time (ns since VDD_COC rose) of a re-acquisition (R276) -/
  recoverAt : Option Nat := none
  /-- a ramp of the set-point to zero on the way to M2: from, since, over ms (R45) -/
  exit : Option (Nat × Nat × Nat) := none
  /-- the same, for a request that is lost (R268) -/
  ramp : Option (Nat × Nat × Nat) := none
  /-- the request's connection holds its substitute values (R268) -/
  reqLoss : Bool := false
  /-- zero current is held: 0 no reconstruction, 1 open set, 2 open phase; and the set (R280, R282) -/
  zeroHold : Option (Nat × Nat) := none
  /-- consecutive steps beyond TracSumThreshold, by set (R279) -/
  sumRun : List Nat := [0, 0]
  /-- the present RMS window: the sum test has fired in it, a step has found the frequency or the commanded current too small, and by phase the
  squares of the currents of its steps, with their number (R281) -/
  sumFired : Bool := false
  faint : Bool := false
  squares : List Rat := [0, 0, 0, 0, 0, 0]
  steps : Nat := 0
  /-- plans are committed (R273) -/
  planOn : Bool := false
  /-- tick of the last hardware commit (R292) -/
  hwTick : Option Nat := none
  /-- the last speed reference taken, rpm (R259) -/
  speedRef : Nat := 0
  deriving DecidableEq, Repr, Inhabited

/-- A safety input's hidden part (R523, R524). -/
structure SiX where
  /-- consecutive test pulses that it did not follow -/
  fails : Nat := 0
  /-- a guard's start-up test has seen demand -/
  seen : Bool := false
  deriving DecidableEq, Repr, Inhabited

/-- A charge phase's hidden part (R302 to R306). -/
structure CpX where
  /-- a session is open -/
  session : Bool := false
  /-- loop output x, F32 (R302) -/
  loop : Nat := 0
  /-- wall-clock and equivalent counts of phases 2 to 5, ns (R305) -/
  counts : List (Nat × Nat) := [(0, 0), (0, 0), (0, 0), (0, 0)]
  /-- the phase left for phase 7 -/
  left : Nat := 0
  /-- time (ns since VDD_COC rose) of the last CpBmsTemperature, ns (R304) -/
  tempAt : Option Nat := none
  /-- the limits' connection holds its substitute values (R306) -/
  limitSub : Bool := false
  deriving DecidableEq, Repr, Inhabited

/-- What the trip functions of a grid connection remember (R300, R301, R371). -/
structure GridX where
  /-- the frequency of the timebase at the last 101 milliseconds as F32 words, the newest first -/
  freqs : List Nat := []
  /-- since when the conditions of causes 1 to 6 and 8 have held, by cause less one (ns since VDD_COC rose) -/
  since : List (Option Nat) := List.replicate 8 none
  /-- the second in course: its milliseconds, and the sums of the line voltages and of the phase currents -/
  count : Nat := 0
  lineSums : List Rat := [0, 0, 0]
  ampSums : List Rat := [0, 0, 0]
  /-- mean line voltages of the last 600 seconds, the newest first, and the mean phase currents of the last second -/
  seconds : List (List Rat) := []
  dc : List Rat := [0, 0, 0]
  /-- since when the grid has lain within the reconnect window without a break -/
  window : Option Nat := none
  deriving DecidableEq, Repr, Inhabited

/-- Winding charging's hidden part (R296 to R301). -/
structure WcX where
  grid : GridX := {}
  /-- main-filter outputs of CP0's current below WcLossFraction in a row (R307) -/
  low : Nat := 0
  /-- trim, reactive reference and boost leg current, F32 (R298) -/
  trim : Nat := 0
  q : Nat := 0
  leg : Nat := 0
  /-- power references slew at the reconnect ramp -/
  reconnect : Bool := false
  /-- time (ns since VDD_COC rose) of trips, ns (R301) -/
  trips : List Nat := []
  /-- WC_EXPORTDENIED has been raised in this session -/
  denied : Bool := false
  /-- the trip is latched until requested again -/
  latched : Bool := false
  /-- a ramp-down: the set-point from which it began, its time (ns since VDD_COC rose), and the reactive and leg references at that
  time (R46) -/
  down : Option (Nat × Nat × Nat × Nat) := none
  deriving DecidableEq, Repr, Inhabited

/-- A buck phase's hidden part (R316 to R318). -/
structure LvPhase where
  /-- consecutive limited cycles -/
  limited : Nat := 0
  /-- times (ns since VDD_COC rose) of hiccup entries -/
  entries : List Nat := []
  /-- removed after LvHiccupMax entries -/
  removed : Bool := false
  /-- tick at which the soft start of a return from hiccup began -/
  since : Option Nat := none
  /-- precharge before the next upper conduction (R129) -/
  precharge : Bool := false
  /-- shed: the present cycle is its last (R321) -/
  leaving : Bool := false
  /-- tick at which the present cycle began, from which the wave counts -/
  trig : Option Nat := none
  /-- sum and number of the conversions of LVn_ISN since the last instance of the supervisor law (R317) -/
  isnSum : Rat := 0
  isnCount : Nat := 0
  /-- on-time of the present cycle, fe, and its ripple ΔI, F32 -/
  on : Nat := 0
  ripple : Nat := 0
  deriving DecidableEq, Repr, Inhabited

/-- The LV converter's hidden part (R314 to R328). -/
structure LvX where
  /-- s as F32 where the present slew began, its tick, and the target; `hold` keeps s until the next trigger (R324) -/
  base : Nat := 0
  baseTick : Nat := 0
  target : Nat := 0
  hold : Bool := false
  /-- y and c, F32 (R327, R316) -/
  y : Nat := 0
  corr : Nat := 0
  /-- the phase triggered last; a trigger that waits at the valley limit (R318) -/
  last : Nat := 15
  waiting : Bool := false
  /-- tick at which the isolated stage started (R314) -/
  isoTick : Nat := 0
  /-- burst operation (R320) -/
  burst : Bool := false
  /-- LvState to which load release returns (R322) -/
  back : Nat := 3
  /-- 1 ms means of voltage, current, power and temperature, newest first, at most 10,000 each (R326) -/
  means : List (List Nat) := [[], [], [], []]
  /-- peaks not set since their read (R326) -/
  peakClear : List Bool := [true, true, true, true]
  /-- tick of the last law instance (R317) -/
  lawTick : Nat := 0
  phases : List LvPhase := List.replicate 16 {}
  deriving DecidableEq, Repr, Inhabited

/-- A gearbox actuator's hidden part (R334 to R337). -/
structure GaX where
  /-- references of GaPosition, and the position there, F32 -/
  homeRevs : Int := 0
  homeAngle : Nat := 0
  offset : Nat := 0
  /-- revolutions and angle where homing began (R335) -/
  startRevs : Int := 0
  startAngle : Nat := 0
  /-- index of the present move and of the request -/
  step : Nat := 0
  goal : Nat := 0
  /-- time (ns since VDD_COC rose) of the acceptance of the request -/
  since : Nat := 0
  /-- a shift's step 2 is under way -/
  neutral : Bool := false
  /-- the last arrival's index -/
  arrived : Option Nat := none
  deriving DecidableEq, Repr, Inhabited

/-- The vehicle end of the charging link (R345 to R350). -/
structure LkX where
  /-- the pre-charge output was closed on a fallback (R348) -/
  fallback : Bool := false
  /-- target voltage and target current sent to the post, F32 (R347, R349) -/
  target : Nat := 0
  amps : Nat := 0
  /-- the hottest pin stood above LkPinTempDerate, and at LkPinTempLimit, when it was judged last (R349) -/
  warm : Bool := false
  hot : Bool := false
  deriving DecidableEq, Repr, Inhabited

/-- The post end (R351 to R353). -/
structure PostX where
  /-- test voltage, F32 -/
  test : Nat := 0
  /-- post current reference I_post, F32 (R372) -/
  ref : Nat := 0
  /-- stopping: current from which it ramps to 0, and its tick -/
  ramp : Option (Nat × Nat) := none
  /-- code of the fault that ends the session, 0 for an orderly end (R46) -/
  code : Nat := 0
  deriving DecidableEq, Repr, Inhabited

/-- Tandem (R354 to R361). -/
structure TdX where
  /-- last PostCurrentLimit received, F32 (R358) -/
  postLimit : Nat := 0
  /-- fallback ramp: current from which it ramps, and its tick -/
  ramp : Option (Nat × Nat) := none
  /-- higher valid pin temperature of the last vehicle frame, F32 (R359) -/
  pin : Option Nat := none
  deriving DecidableEq, Repr, Inhabited

/-- Station power (R369 to R374). -/
structure StX where
  grid : GridX := {}
  /-- slewed link target: from, its tick (R369, R370) -/
  base : Nat := 0
  baseTick : Nat := 0
  /-- integrator x and reference P_ref, W, F32 -/
  x : Nat := 0
  pRef : Nat := 0
  /-- times (ns since VDD_COC rose) of trips, and the latch (R301, R371) -/
  trips : List Nat := []
  latched : Bool := false
  /-- the references' ramp to 0: from, its tick -/
  down : Option (Nat × Nat) := none
  /-- tick at which each stage joined -/
  joined : List Nat := [0, 0, 0, 0]
  /-- the chopper switches (R373) -/
  chopper : Bool := false
  deriving DecidableEq, Repr, Inhabited

/-- Cable cooling (R377 to R381). -/
structure CcX where
  /-- node temperatures, F32: 3 × conductor + node − 1; none until the first step -/
  nodes : Option (List Nat) := none
  /-- pump speed reference, rpm, F32 -/
  speed : Nat := 0
  deriving DecidableEq, Repr, Inhabited

/-- A lease of the ledger (R386, R387). -/
structure Lease where
  partner : Nat
  id : Nat
  cls : Nat
  /-- F32, kW -/
  minimum : Nat
  granted : Nat
  counted : Nat
  expiry : Nat
  /-- an export lease, in the second ledger -/
  exporting : Bool := false
  /-- a class 0 lease within MonSafetyReserve, which the budget has set aside (R385) -/
  reserve : Bool := false
  /-- under reduction: its deadline -/
  deadline : Option Nat := none
  deriving DecidableEq, Repr, Inhabited

/-- Monarch and the post client (R384 to R395). -/
structure MonX where
  ledger : List Lease := []
  nextId : Nat := 1
  /-- last accepted (Epoch, Sequence) by partner (R392) -/
  peers : List (Nat × Nat × Nat) := []
  /-- last Sequence sent in this Epoch -/
  seqOut : Nat := 0
  /-- refused requests in the order of their first arrival: partner, class, time (ns since VDD_COC rose) until which the
  place is kept (R390) -/
  refused : List (Nat × Nat × Nat) := []
  /-- requests to raise a lease under reduction, which wait for its end (R389) -/
  deferred : List MonIn := []
  /-- time (ns since VDD_COC rose) of the last MonStoragePower -/
  storageAt : Option Nat := none
  /-- MON_BUDGETLOW holds -/
  low : Bool := false
  /-- answers to the device's own post, which travel inside the device (R384): type and frame -/
  inbox : List (Nat × MonIn) := []
  /-- the client: lease number, the amount (F32) and class last asked for, and the time (ns, site time) of a retry -/
  leaseId : Nat := 0
  asked : Option (Nat × Nat) := none
  retryAt : Nat := 0
  /-- a reduction to be acknowledged once its amount, F32, is reached (R389) -/
  ackDue : Option Nat := none
  /-- time (ns since VDD_COC rose) since which Monarch has been disabled (R56) -/
  offAt : Nat := 0
  deriving DecidableEq, Repr, Inhabited

/-- A frame that waits at an Ethernet port (R481, R484): its class, length with FCS, destination UDP port (0 where it is
no datagram), partner entry and payload. -/
structure TxFrame where
  cls : Nat
  size : Nat
  udp : Nat
  partner : Nat
  payload : List Nat
  /-- the IPv4 address it goes to, 0 for an ROA answer, whose requester the commands do not name -/
  ip : Nat := 0
  deriving DecidableEq, Repr, Inhabited

/-- Ethernet ports, time and streaming (R478 to R491). Ports are XG0, XG1, T1S0, T1S1. -/
structure NetX where
  queues : List (List TxFrame) := [[], [], [], []]
  /-- what is left of the frame on each line, in eighths of a bit (a tick is 1,000 of them at 10 Gbit/s, one at 10 Mbit/s) -/
  line : List Nat := [0, 0, 0, 0]
  /-- gate list in force by XG port: interval, ns, and mask; present entry and device time of its start (R481) -/
  gates : List (List (Nat × Nat)) := [[], []]
  gateIx : List Nat := [0, 0]
  gateAt : List Nat := [0, 0]
  /-- a synchronisation has been taken since M0 (R488) -/
  synced : Bool := false
  /-- offset still to be removed at −200 ppm in units of `devSub`, and the rate after it (R488) -/
  back : Nat := 0
  rateAfter : Int := 0
  /-- TdPtpDomain against device time: offset, ns, rate, ppb, and device time of the last synchronisation (R487) -/
  tdOffset : Int := 0
  tdRate : Int := 0
  tdAt : Option Nat := none
  /-- records of the datagram in progress, device time and tick of the first, and the next Sequence (R490) -/
  records : List (List Nat) := []
  firstTime : Nat := 0
  firstTick : Nat := 0
  streamSeq : Nat := 0
  /-- times (ns since VDD_COC rose) of the last NET_STREAMDROP and, by port, of the last NET_RXDROP (R485, R495) -/
  streamDropAt : Option Nat := none
  rxDropAt : List (Option Nat) := [none, none, none, none]
  /-- device time at which PPS_OUT rose, while it is high (R489) -/
  pps : Option Nat := none
  deriving DecidableEq, Repr, Inhabited

/-- A metering record before its signature (R416). -/
structure MtrRec where
  kind : Nat
  billed : Nat
  flags : Nat
  seq : Nat
  session : Nat
  sessionId : Nat
  start : Nat
  stop : Nat
  /-- the eight AC registers and the two DC registers at the end -/
  regs : List Nat
  spanImport : Nat
  spanExport : Nat
  bound : Nat
  sealBreaks : Nat
  checksum : Nat
  keyGeneration : Nat
  serial : Nat
  pqEvents : Nat
  peak : Nat
  deriving DecidableEq, Repr, Inhabited

/-- An open legal session (R414, R415). -/
structure MtrSess where
  billed : Nat
  number : Nat
  sessionId : Nat
  start : Nat
  import0 : Nat
  export0 : Nat
  /-- start of the open interval, and the billed registers there -/
  since : Nat
  import1 : Nat
  export1 : Nat
  /-- flags, events and peak of the interval and of the session -/
  flags : Nat := 0
  allFlags : Nat := 0
  events : Nat := 0
  allEvents : Nat := 0
  peak : Nat := 0
  allPeak : Nat := 0
  deriving DecidableEq, Repr, Inhabited

/-- A power-quality event in progress on a phase (R406). -/
structure PqX where
  /-- 0 none, 1 sag, 2 swell, 3 interruption -/
  kind : Nat := 0
  start : Nat := 0
  /-- extreme half-cycle RMS, F32 -/
  extreme : Nat := 0
  deriving DecidableEq, Repr, Inhabited

/-- Metering's hidden part (R397 to R420). -/
structure MtrX where
  /-- samples of the cycle in progress, newest first: three voltages and three currents (F32) and the ticks since the
  sample before -/
  samples : List (List Nat × Nat) := []
  lastTick : Option Nat := none
  /-- running means of the six AC channels, F32, and ticks that they have run for (R400) -/
  means : List Nat := [0, 0, 0, 0, 0, 0]
  settled : Nat := 0
  /-- DC window: pending import and export in µWh, sums of |v × i|, v and i, and samples (R404) -/
  dcImport : Rat := 0
  dcExport : Rat := 0
  dcSum : Rat := 0
  dcVolts : Rat := 0
  dcAmps : Rat := 0
  dcCount : Nat := 0
  /-- residues below 1 µWh, by register object (R403) -/
  residues : List (Nat × Rat) := []
  /-- consecutive full-scale samples by channel (R421) -/
  fullScale : List Nat := [0, 0, 0, 0, 0, 0, 0, 0]
  pq : List PqX := List.replicate 3 {}
  pqCount : Nat := 0
  /-- flags and peak since the last journal slot -/
  flags : Nat := 0
  peak : Nat := 0
  /-- device time at which a power-fail warning froze the registers (R410) -/
  frozen : Option Nat := none
  /-- last RecordSequence and SessionNumber issued -/
  seq : Nat := 0
  number : Nat := 0
  session : Option MtrSess := none
  /-- records that wait for their signature -/
  unsigned : List MtrRec := []
  /-- the record store: sequence and the record's 256 bytes, oldest first (R418) -/
  store : List (Nat × List (BitVec 8)) := []
  /-- the two per-phase pages: twelve registers each, and the page written last (R408) -/
  pages : List (List Nat) := [[], []]
  page : Nat := 0
  deriving DecidableEq, Repr, Inhabited

/-- A CAN frame: identifier as CanClashId gives it, the five header words of R460 without New and Overrun, and its data;
for a frame in the queue also the ESL entry it belongs to, its Sequence, and the tick at which it entered (R464, R469). -/
structure CanFrame where
  id : Nat
  hdr : List Nat
  data : List Nat
  entry : Option Nat := none
  seq : Nat := 0
  since : Nat := 0
  deriving DecidableEq, Repr, Inhabited

/-- A receive buffer that holds something (R460 to R462). -/
structure CanBuf where
  hdr : List Nat := [0, 0, 0, 0, 0]
  data : List Nat := []
  isNew : Bool := false
  overrun : Bool := false
  locked : Bool := false
  /-- the pending copy: frame and its Overrun -/
  copy : Option (List Nat × List Nat × Bool) := none
  deriving DecidableEq, Repr, Inhabited

/-- A run of Antenna: its step; the level last seen, the tick of the last edge, the intervals measured and the smallest of them in ticks; the
rates that an error has excluded, the rate chosen, and the consecutive frames received at it (R456). -/
structure AntX where
  step : Nat := 0
  level : Option Bool := none
  edgeAt : Option Nat := none
  edges : Nat := 0
  least : Nat := 0
  barred : List Nat := []
  rate : Nat := 0
  frames : Nat := 0
  deriving DecidableEq, Repr, Inhabited

/-- A CAN controller's hidden part (R452 to R472). -/
structure CanX where
  /-- the run of Antenna (R456) -/
  ant : AntX := {}
  queue : List CanFrame := []
  /-- tick at which the present head became head, and whether its wait has been reported (R466) -/
  headTick : Nat := 0
  headSeen : Bool := false
  /-- consecutive clash errors of the head, and the hold of R470 -/
  clash : Nat := 0
  held : Bool := false
  /-- an abort that waits for the end of the transmission: CanTxAbort's value (R465) -/
  abort : Nat := 0
  /-- buffers by number -/
  bufs : List (Nat × CanBuf) := []
  /-- an Antenna start that waits for the end of recovery (R471) -/
  antennaNext : Bool := false
  /-- time (ns since VDD_COC rose) of the last CAN_RXOVERRUN (R477) -/
  overrunAt : Option Nat := none
  deriving DecidableEq, Repr, Inhabited

/-- An ESL connection slot (R505 to R512): state, last accepted number, next number to send and the last one actually
sent, counters, and consecutive frames in the window while resynchronising. -/
structure EslX where
  state : Nat := 0
  last : Nat := 0
  next : Nat := 0
  sent : Option Nat := none
  rxTime : Nat := 0
  rx : Nat := 0
  lost : Nat := 0
  crc : Nat := 0
  seq : Nat := 0
  wdog : Nat := 0
  skip : Nat := 0
  reopen : Nat := 0
  run : Nat := 0
  /-- tick of the last accepted frame, or of the enabling (R510) -/
  tick : Nat := 0
  /-- times (ns since VDD_COC rose) of the last ESL_CRC and ESL_SEQ (R508) -/
  crcAt : Option Nat := none
  seqAt : Option Nat := none
  deriving DecidableEq, Repr, Inhabited

/-- A snapshot that a session holds (R440). -/
structure RoaSnap where
  index : Nat
  values : List (Nat × Int)
  /-- time (ns since VDD_COC rose) of its taking -/
  taken : Nat
  deriving DecidableEq, Repr, Inhabited

/-- A block transfer (R442). -/
structure RoaXfer where
  write : Bool
  index : Nat
  sub : Nat
  length : Nat
  crc : Nat
  data : List Nat := []
  /-- for a read: furthest offset served; for a write: the offset expected -/
  next : Nat := 0
  lastAt : Nat := 0
  /-- CAN buffer locked by a read of CanRxLongData -/
  buffer : Option (Nat × Nat) := none
  deriving DecidableEq, Repr, Inhabited

/-- A ROA session (R434, R435, R440, R442). -/
structure RoaSess where
  num : Nat
  role : Role
  transport : Nat
  key : Nat
  waiting : Bool := true
  nonceIn : Nat := 0
  nonceOut : Nat := 0
  /-- device time of the opening, s, and time (ns since VDD_COC rose) of the last valid request -/
  opened : Nat := 0
  lastAt : Nat := 0
  fails : Nat := 0
  snaps : List RoaSnap := []
  /-- records whose snapshot was discarded -/
  dropped : List Nat := []
  xfer : Option RoaXfer := none
  /-- a transfer was abandoned for want of a segment -/
  lapsed : Bool := false
  deriving DecidableEq, Repr, Inhabited

/-- ROA (R432 to R446): sessions, the last response PDU, the responses that wait for a read of the LSPI host, oldest first, the firmware
command that runs, and whether an image is staged. -/
structure RoaX where
  sessions : List RoaSess := []
  answer : List Nat := []
  lspi : List (List Nat) := []
  running : Nat := 0
  staged : Bool := false
  deriving DecidableEq, Repr, Inhabited

/-- Memory and its background test (R543 to R546). -/
structure MemX where
  /-- time (ns since VDD_COC rose) of the last MEM_ECCCORR -/
  corrAt : Option Nat := none
  /-- corrected errors of the last hour: region and time (ns since VDD_COC rose) -/
  corrected : List (Nat × Nat) := []
  /-- spare regions used, by bank -/
  spares : List Nat := List.replicate 24 0
  /-- time (ns since VDD_COC rose) of the last region's start, and of the pass's start -/
  startAt : Option Nat := none
  passAt : Nat := 0
  deriving DecidableEq, Repr, Inhabited

/-- Health monitors (R557, R558): milliseconds that a sensor has disagreed; consecutive samples of a supply outside the
warning band, beyond a fault limit, and inside each. -/
structure HmX where
  disagree : List Nat := List.replicate 8 0
  warn : List Nat := List.replicate 12 0
  fault : List Nat := List.replicate 12 0
  inWarn : List Nat := List.replicate 12 0
  inFault : List Nat := List.replicate 12 0
  /-- VmMin holds no sample since its last read -/
  minEmpty : List Bool := List.replicate 12 true
  /-- a journal slot's write waits for the eMRAM write supply (R558) -/
  slotDue : Bool := false
  deriving DecidableEq, Repr, Inhabited

/-- A grant in force or a request that waits (R551, R552). -/
structure LeaveEntry where
  op : LeaveOp
  /-- time (ns since VDD_COC rose) of the grant or the request -/
  since : Nat
  /-- LEAVE_WAIT has been raised -/
  warned : Bool := false
  deriving DecidableEq, Repr, Inhabited

/-- The leave arbiter's hidden part (R552, R555). -/
structure LeaveX where
  held : List LeaveEntry := []
  waiting : List LeaveEntry := []
  /-- energy of returned grants, mW·ns -/
  energy : Nat := 0
  deriving DecidableEq, Repr, Inhabited

/-- Gate-supply start-up (R145): pairs still to start, and the pair being started. -/
structure GsX where
  queue : List Nat := []
  busy : Option Nat := none
  deriving DecidableEq, Repr, Inhabited

/-- The device. `live` holds what the tables mark RO, RW, WO and RSL; `active` and `shadow` hold the two configuration
sets of the RWS objects (R80); `mem` holds every DOM's bytes; `pending` is the queue of waiting commands. -/
structure State where
  live : Store := []
  active : Store := []
  shadow : Store := []
  mem : List Host.Cell := []
  pending : List Instr := []
  /-- the model's own counter: the next free value's index -/
  freeIx : Nat := 0
  /-- ticks since VDD_COC rose -/
  tick : Nat := 0
  /-- device time in units of 1/(2·10^9) ns, so that a tick at any rate adjustment is a whole number (R488) -/
  devSub : Nat := 0
  plat : Plat := {}
  isl : Island := {}
  fc : Collector := {}
  md : ModeX := {}
  sw : SwapX := {}
  nv : NvX := {}
  /-- what drives HB0-HB23, LV0-LV15 and GS0-GS47 at their balls -/
  hbDrive : List Drive := List.replicate 24 .pulseOff
  lvDrive : List Drive := List.replicate 16 .pulseOff
  gsDrive : List SupplyDrive := List.replicate 48 .low
  tb : List TbX := List.replicate 8 {}
  grp : List GroupX := List.replicate 24 {}
  chan : List ChanX := List.replicate 40 {}
  slots : List SlotX := List.replicate 64 {}
  eng : List EngX := List.replicate 8 {}
  /-- last triggered values, sums and lengths of the engine input ports, by port (R229) -/
  ports : List (Nat × Nat) := []
  /-- time (ns since VDD_COC rose) of the last SNS_SDRANGE of each SD input (R183) -/
  sdRaised : List (Option Nat) := List.replicate 32 none
  obs : List ObsX := List.replicate 9 {}
  /-- a fast overcurrent of the input has begun and not returned (R167) -/
  sdTripped : List Bool := List.replicate 32 false
  leave : LeaveX := {}
  gsx : GsX := {}
  sup : List SupplyX := List.replicate 48 {}
  snx : SenseX := {}
  trac : List TracX := List.replicate 4 {}
  /-- VdcMean at the last safe-plan evaluation, by link (R272) -/
  linkPrev : List (Option Nat) := List.replicate 4 none
  /-- time (ns since VDD_COC rose) of the last evaluation of the plans (R273) -/
  planAt : Option Nat := none
  /-- tick at the end of the last pass through M0 (R504) -/
  passTick : Nat := 0
  six : List SiX := List.replicate 16 {}
  /-- the next off-pulse is the high side's (R519), by safety output -/
  soHigh : List Bool := List.replicate 8 true
  cp : List CpX := List.replicate 2 {}
  wc : WcX := {}
  lv : LvX := {}
  /-- LAMP0-LAMP3 lit (R329) -/
  lamps : List Bool := List.replicate 4 false
  ga : List GaX := List.replicate 4 {}
  lk : LkX := {}
  post : PostX := {}
  td : TdX := {}
  st : StX := {}
  cc : CcX := {}
  mon : MonX := {}
  mtr : MtrX := {}

  net : NetX := {}
  can : List CanX := List.replicate 8 {}
  /-- ESL connections by slot; one not listed is in its first state -/
  esl : List (Nat × EslX) := []
  /-- the process image: what a slot holds, by slot number (R27, R28) -/
  image : List (Nat × Nat) := []
  /-- partner entries whose dictionary-target slots wait for the host (R449) -/
  takeup : List Nat := []
  roa : RoaX := {}
  memx : MemX := {}
  hm : HmX := {}
  deriving DecidableEq, Repr, Inhabited

/-- The record of a main-domain reset by power-on: the default plan is applied to everything (R17, R18, R23, R75). -/
def powerRecord : TriggerRec :=
  { code := 0x020C, inst := 0, time := 0, whole := true, machines := List.replicate 4 .default, others := .default, resetMs := 0, masked := false }

/-- The device right after VDD_COC has risen and the island has started: RESET_N still low, M0 not yet run, the island in control with
its default plans, every object at its table default, nothing in memory but what the tables give, no command waiting. -/
def State.reset : State := { plat := { vddCoc := true }, isl := { whole := true, records := [powerRecord] } }

end Sys2Proof.Machine
end

