-- ==== Sys2Proof/Machine/Ops.lean ====
section
/-! DEFINITION. Named operations on the state: reading and writing objects and blocks, modes, counters, device time. -/

namespace Sys2Proof.Machine

/-- The live value of an object. -/
def State.o (s : State) (k : Nat) : Int := s.live.get k

/-- The live value as a natural number. -/
def State.oN (s : State) (k : Nat) : Nat := (s.live.get k).toNat

/-- The live value of an F32 object. -/
def State.oF (s : State) (k : Nat) : Rat := F32.toRat (s.live.get k).toNat

/-- The configured value in force: the active set's. -/
def State.c (s : State) (k : Nat) : Int := s.active.get k

/-- The configured value in force as a natural number. -/
def State.cN (s : State) (k : Nat) : Nat := (s.active.get k).toNat

/-- The configured F32 value in force. -/
def State.cF (s : State) (k : Nat) : Rat := F32.toRat (s.active.get k).toNat

/-- Set a live value. -/
def State.put (k : Nat) (v : Int) (s : State) : State := { s with live := s.live.set k v }

/-- Set a live F32 value to the word nearest to a rational. -/
def State.putF (k : Nat) (q : Rat) (s : State) : State := s.put k (F32.ofRat q : Nat)

/-- Increment a wrapping 32-bit counter. -/
def State.inc32 (k : Nat) (s : State) : State := s.put k ((s.oN k + 1) % 4294967296 : Nat)

/-- Increment a saturating 32-bit counter. -/
def State.incSat (k : Nat) (s : State) : State := s.put k (satInc32 (s.o k))

/-- Add to a saturating 32-bit counter. -/
def State.addSat (k : Nat) (n : Nat) (s : State) : State := s.put k (min (s.o k + n) 4294967295)

/-- Apply a change when a condition holds. -/
def State.when (c : Bool) (f : State → State) (s : State) : State := if c then f s else s

/-- Device time in ns (0x1000:07). -/
def State.now (s : State) : Nat := s.devSub / 2000000000

/-- Nanoseconds since VDD_COC rose, for the lengths of intervals: device time may step (R487), ticks do not. -/
def State.mono (s : State) : Nat := s.tick * 25 / 2

/-- ModeState. -/
def State.mode (s : State) : Nat := s.oN Obj.modeState

/-- The role that the seal latch fixes: true for the station role (R1). -/
def State.station (s : State) : Bool := s.plat.sealLatch.testBit 0

/-- A seal pin's latched level (R60). -/
def State.sealPin (s : State) (n : Nat) : Bool := s.plat.sealLatch.testBit n

/-- The main domain runs and M0 is over: the functions of R51 may act. -/
def State.up (s : State) : Bool := s.plat.mainOn && s.mode != 0 && s.mode != 1

/-- Change one element of a list of instances. -/
def modifyAt {α : Type} (l : List α) (i : Nat) (f : α → α) : List α := l.modify i f

/-- The next free value of a tag; the counter moves on. -/
def State.fresh (s : State) : State := { s with freeIx := s.freeIx + 1 }

/-! ## Blocks: every DOM's bytes in one memory -/

/-- The address of a byte of the DOM with a key: the live or active copy. -/
def domAddr (k off : Nat) : Nat := k * 33554432 + off

/-- The address of a byte of the shadow copy of an RWS DOM. -/
def domShadowAddr (k off : Nat) : Nat := k * 33554432 + 16777216 + off

/-- What an unlisted byte reads as: the tables' "all 0", or 0xFF for StreamSources (R494). -/
def byteDefault (a : Nat) : BitVec 8 := if a / 33554432 = 0x125007 then 0xFF else 0

/-- One byte of memory. -/
def byteAt (m : List Host.Cell) (a : Nat) : BitVec 8 :=
  match m.lookup a with
  | some b => b
  | none => byteDefault a

/-- Put one byte into a rising list. -/
def insertByte : List Host.Cell → Nat → BitVec 8 → List Host.Cell
  | [], a, b => [(a, b)]
  | p :: m, a, b => if a < p.1 then (a, b) :: p :: m else p :: insertByte m a b

/-- Write one byte; what an unlisted byte reads as is not listed. -/
def setByte (m : List Host.Cell) (a : Nat) (b : BitVec 8) : List Host.Cell :=
  if b = byteDefault a then m.filter (fun p => p.1 != a)
  else insertByte (m.filter (fun p => p.1 != a)) a b

/-- Write consecutive bytes. -/
def setBytes (m : List Host.Cell) (a : Nat) : List (BitVec 8) → List Host.Cell
  | [] => m
  | b :: bs => setBytes (setByte m a b) (a + 1) bs

/-- Read consecutive bytes. -/
def bytesAt (m : List Host.Cell) (a : Nat) : Nat → List (BitVec 8)
  | 0 => []
  | n + 1 => byteAt m a :: bytesAt m (a + 1) n

/-- The memory's canonical form: addresses strictly rising, nothing listed that reads so anyway. -/
def memWf : List Host.Cell → Bool
  | [] => true
  | [p] => p.2 != byteDefault p.1
  | p :: q :: m => p.2 != byteDefault p.1 && p.1 < q.1 && memWf (q :: m)

/-- A little-endian number from bytes (R7). -/
def leNat : List (BitVec 8) → Nat
  | [] => 0
  | b :: bs => b.toNat + 256 * leNat bs

/-- The low bytes of a number, least significant first (R7). -/
def leBytes : Nat → Nat → List (BitVec 8)
  | 0, _ => []
  | n + 1, v => BitVec.ofNat 8 v :: leBytes n (v / 256)

/-- A number of `n` bytes at an address. -/
def State.mNat (s : State) (a n : Nat) : Nat := leNat (bytesAt s.mem a n)

/-- Write a number of `n` bytes at an address. -/
def State.mPut (a n v : Nat) (s : State) : State := { s with mem := setBytes s.mem a (leBytes n v) }

/-! ## Two's complement and small helpers -/

/-- A two's-complement value of `w` bits. -/
def toSigned (w n : Nat) : Int := if n % 2 ^ w < 2 ^ (w - 1) then (n % 2 ^ w : Nat) else ((n % 2 ^ w : Nat) : Int) - 2 ^ w

/-- An integer wrapped to `w` bits. -/
def toUnsigned (w : Nat) (i : Int) : Nat := (i % (2 ^ w : Nat)).toNat

/-- The k-th byte of a word. -/
def byteOf (v k : Nat) : Nat := v / 256 ^ k % 256

/-- The k-th five-bit field of a map (R237). -/
def field5 (v k : Nat) : Nat := v / 32 ^ k % 32

end Sys2Proof.Machine
end

