-- ==== Sys2Proof/Machine/Partner.lean ====
section
/-! DEFINITION. Fields of the partner table (R513) and of the signal-slot descriptors (R447), in the active set. -/

namespace Sys2Proof.Machine

/-- A field of a partner-table entry in force: `n` bytes at byte `off` of entry `e`. -/
def State.pt (s : State) (e off n : Nat) : Nat := s.mNat (domAddr Obj.partnerTable (64 * e + off)) n

/-- A flag bit of an entry (byte 0). -/
def State.ptFlag (s : State) (e bit : Nat) : Bool := (s.pt e 0 1).testBit bit

/-- The entries whose enable bit is set, in ascending number. -/
def State.ptEnabled (s : State) : List Nat :=
  s.mem.filterMap (fun p =>
    let off := p.1 - domAddr Obj.partnerTable 0
    if domAddr Obj.partnerTable 0 ≤ p.1 ∧ off < 524288 ∧ off % 64 = 0 ∧ p.2.toNat.testBit 0 then some (off / 64) else none)

/-- The enabled ESL entry that names a connection slot. -/
def State.eslEntry (s : State) (conn : Nat) : Option Nat :=
  s.ptEnabled.find? (fun e => s.ptFlag e 1 && s.pt e 2 2 == conn)

/-- The descriptor in force of a signal slot. -/
def State.slotDesc (s : State) (q : Nat) : Nat := s.cN (Obj.slotDescriptor q)

/-- Descriptor fields (R447). -/
def sdEnable (d : Nat) : Bool := d.testBit 63
def sdTransmit (d : Nat) : Bool := d.testBit 62
def sdMailbox (d : Nat) : Bool := d / 2 ^ 60 % 4 == 1
def sdPartner (d : Nat) : Nat := d / 2 ^ 47 % 8192
def sdOffset (d : Nat) : Nat := d / 2 ^ 36 % 2048
def sdType (d : Nat) : Nat := d / 2 ^ 32 % 16
def sdTarget (d : Nat) : Nat := d % 16777216

/-- The size in bytes of a type code 0-8 (R436). -/
def typeSize : Nat → Nat
  | 0 | 1 => 1
  | 2 | 5 => 2
  | 3 | 6 | 8 => 4
  | _ => 8

/-- Slots configured in the active set: the numbers of the enabled descriptors. -/
def State.slotsEnabled (s : State) : List Nat :=
  s.active.filterMap (fun p =>
    let idx := p.1 / 256
    let sub := p.1 % 256
    if 0x9000 ≤ idx ∧ idx ≤ 0x9FFF ∧ sub % 2 = 1 ∧ p.2.toNat.testBit 63 then some ((idx - 0x9000) * 32 + sub / 2) else none)

end Sys2Proof.Machine
end

