-- ==== Sys2Proof/Machine/Owner.lean ====
section
/-! DEFINITION. Which function claims which resource in the active set (R31), and which functions a fault names (R19). -/

namespace Sys2Proof.Machine

/-- The k-th entry of a map of 8-bit numbers. -/
def map8 (v : Nat) : List Nat := [byteOf v 0, byteOf v 1, byteOf v 2, byteOf v 3]

/-- The channels that an observer's map names (R237). -/
def State.obsChannels (s : State) (o : Nat) : List Nat :=
  (List.range (s.cN (Obj.obsPhaseCount o))).map (field5 (s.cN (Obj.obsChannelMap o)))

/-- The current inputs that an observer's map names (R237). -/
def State.obsCurrents (s : State) (o : Nat) : List Nat :=
  (List.range (s.cN (Obj.obsPhaseCount o))).map (field5 (s.cN (Obj.obsCurrentMap o)))

/-- The channels of one phase set of a machine. -/
def State.setChannels (s : State) (m set : Nat) : List Nat :=
  (List.range 3).map (fun k => field5 (s.cN (Obj.obsChannelMap m)) (3 * set + k))

/-- The HB channels whose HbMachine names a machine (R151). -/
def State.machineHbs (s : State) (m : Nat) : List Nat :=
  (List.range 24).filter (fun n => s.cN (Obj.hbClass n) == 0 && s.cN (Obj.hbMachine n) == m)

/-- The channels of a PWM group: HB channels for groups 0-11, LV channels for 16-23 (R112). -/
def State.groupChannels (s : State) (g : Nat) : List Nat :=
  (List.range (if g < 16 then 24 else 16)).filter (fun n => (s.cN (Obj.groupChannels g)).testBit n)

/-- The PWM group numbers. -/
def hbGroups : List Nat := List.range 12
def lvGroups : List Nat := (List.range 8).map (· + 16)
def allGroups : List Nat := hbGroups ++ lvGroups

/-- The group of an HB channel in the active set. -/
def State.groupOfHb (s : State) (n : Nat) : Option Nat :=
  hbGroups.find? (fun g => (s.cN (Obj.groupChannels g)).testBit n)

/-- The group of an LV channel in the active set. -/
def State.groupOfLv (s : State) (n : Nat) : Option Nat :=
  lvGroups.find? (fun g => (s.cN (Obj.groupChannels g)).testBit n)

/-- The four HB channels of DAB stage k: four in a row from the channel A named (R32, R375). -/
def State.dabChannels (s : State) (k : Nat) : List Nat :=
  let a := byteOf (s.cN Obj.stDabStages) k
  if a = 0xFF then [] else [a, a + 1, a + 2, a + 3]

/-- The channels of the grid topology, and of the boost topology (R295, R587). -/
def State.windingChannels (s : State) : List Nat :=
  if s.cN Obj.wcEnable = 1 then s.setChannels (s.cN Obj.wcMachine) (s.cN Obj.wcSet) else []

/-- The channels of the boost topology. -/
def State.boostChannels (s : State) : List Nat :=
  if s.cN Obj.wcEnable = 1 then
    ((List.range 2).filter (fun k => (s.cN Obj.wcBoostSets).testBit k)).flatMap (s.setChannels (s.cN Obj.wcMachine))
  else []

/-- The function that claims an HB channel (R31). -/
def State.hbOwner (s : State) (n : Nat) : Option Fn :=
  if s.cN (Obj.hbClass n) = 0 ∧ s.cN (Obj.hbMachine n) ≠ 0xFF then some (.traction (s.cN (Obj.hbMachine n)))
  else if s.station = false ∧ (map8 (s.cN Obj.lvIsoChannels)).contains n then some .lvConverter
  else if s.station = false then
    match (List.range 4).find? (fun m => s.cN (Obj.tracEnable m) == 1 && (s.obsChannels m).contains n) with
    | some m => some (.traction m)
    | none =>
      if s.windingChannels.contains n ∨ s.boostChannels.contains n then some .winding else (s.groupOfHb n).map Fn.hbGroup
  else if s.cN Obj.stEnable = 1 ∧ ((s.cN Obj.stFeChannels).testBit n ∨ s.cN Obj.stChopperChannel = n ∨
      (List.range 4).any (fun k => (s.dabChannels k).contains n)) then some .stationPower
  else (s.groupOfHb n).map Fn.hbGroup

/-- The function that claims an LV channel (R31). -/
def State.lvOwner (s : State) (n : Nat) : Option Fn :=
  if s.station = false ∧ (s.cN Obj.lvPhaseMap).testBit n then some .lvConverter
  else if s.station = false then
    match (List.range 4).find? (fun a => s.cN (Obj.gaEnable a) == 1 && (s.obsChannels (4 + a)).contains n) with
    | some a => some (.actuator a)
    | none => (s.groupOfLv n).map Fn.lvGroup
  else if s.cN Obj.ccEnable = 1 ∧ (s.obsChannels 8).contains n then some .cooling
  else (s.groupOfLv n).map Fn.lvGroup

/-- The function that claims a safety output (R31). -/
def State.soOwner (s : State) (n : Nat) : Option Fn :=
  if s.station = false then
    if [s.cN Obj.wcStarContactor, s.cN Obj.wcGridContactor, s.cN Obj.wcBoostContactor].contains n then some .winding
    else if [s.cN Obj.lkContactorPlus, s.cN Obj.lkContactorMinus, s.cN Obj.lkPrechargeOutput, s.cN Obj.lkPilotStateOutput].contains n then some .inlet
    else none
  else if [s.cN Obj.stGridContactor, s.cN Obj.stPrechargeOutput].contains n then some .stationPower
  else if [s.cN Obj.lkPostContactorPlus, s.cN Obj.lkPostContactorMinus, s.cN Obj.lkPilotOutput].contains n then some .post
  else none

/-- The function that claims a law slot, numbered 8 × e + s (R31). -/
def State.slotOwner (s : State) (n : Nat) : Option Fn :=
  if s.station = false then
    match (List.range 4).find? (fun m => s.cN (Obj.tracEnable m) == 1 &&
        [s.cN (Obj.tracCurrentSlot m), s.cN (Obj.tracTorqueSlot m), s.cN (Obj.tracSpeedSlot m)].contains n) with
    | some m => some (.traction m)
    | none =>
      if s.cN Obj.wcEnable = 1 ∧ s.cN Obj.wcLawSlot = n then some .winding
      else if s.cN Obj.lvLawSlot = n ∧ s.cN Obj.lvPhaseMap ≠ 0 then some .lvConverter
      else
        match (List.range 4).find? (fun a => s.cN (Obj.gaEnable a) == 1 && s.cN (Obj.gaLawSlot a) == n) with
        | some a => some (.actuator a)
        | none => if s.cN Obj.tdEnable = 1 ∧ s.cN Obj.tdLawSlot = n then some .tandem else none
  else if s.cN Obj.stEnable = 1 ∧ (s.cN Obj.stFeSlot = n ∨ (map8 (s.cN Obj.stDabSlots)).contains n) then some .stationPower
  else if s.cN Obj.ccEnable = 1 ∧ s.cN Obj.ccPumpSlot = n then some .cooling
  else if s.cN Obj.tdEnable = 1 ∧ s.cN Obj.tdLawSlot = n then some .tandem
  else none

/-- The function an observer belongs to. -/
def obsFn (o : Nat) : Fn := if o < 4 then .traction o else if o < 8 then .actuator (o - 4) else .cooling

/-- The functions whose configuration lies in a scope (R79, R510). -/
def State.scopeFns (s : State) (sc : Nat) : List Fn :=
  if s.station then
    if sc = 0 then [.monarch, .tandem] else if sc = 6 then [.stationPower] else if sc = 7 then [.post, .cooling] else []
  else if sc = 0 then [.winding, .inlet, .chargePhase 0, .actuator 0, .actuator 1, .actuator 2, .actuator 3, .tandem]
  else if sc < 5 then [.traction (sc - 1)]
  else if sc = 5 then [.lvConverter, .chargePhase 1]
  else []

/-- Every function of the role (R510). -/
def State.roleFns (s : State) : List Fn :=
  if s.station then s.scopeFns 0 ++ s.scopeFns 6 ++ s.scopeFns 7
  else s.scopeFns 0 ++ s.scopeFns 1 ++ s.scopeFns 2 ++ s.scopeFns 3 ++ s.scopeFns 4 ++ s.scopeFns 5

/-- The machines whose link input is a VDC (R175, R280). -/
def State.linkMachines (s : State) (l : Nat) : List Nat :=
  (List.range 4).filter (fun m => s.cN (Obj.tracEnable m) == 1 && s.cN (Obj.obsLinkInput m) == l)

/-- The functions that use an SD input. -/
def State.sdUsers (s : State) (n : Nat) : List Fn :=
  if s.station then (if s.cN Obj.stEnable = 1 then [.stationPower] else []) ++
      (if s.cN Obj.lkPostCurrentInput = n then [.post] else [])
  else ((List.range 4).filter (fun m => s.cN (Obj.tracEnable m) == 1 && (s.obsCurrents m).contains n)).map Fn.traction ++
      (if s.cN Obj.lkInletCurrentInput = n then [.inlet] else [])

/-- The functions that use a VDC input: those whose channels name it in HbLinkInput (R175), and those whose own records do. -/
def State.vdcUsers (s : State) (n : Nat) : List Fn :=
  (((List.range 24).filter (fun h => (s.groupOfHb h).isSome && s.cN (Obj.hbLinkInput h) == n)).filterMap s.hbOwner ++
  (if s.station then
    (if s.cN Obj.stEnable = 1 ∧ (s.cN Obj.stLinkInput = n ∨ s.cN Obj.stOutputInput = n) then [.stationPower] else []) ++
      (if s.cN Obj.lkPostEnable = 1 ∧ s.cN Obj.lkPostVoltageInput = n then [.post] else [])
  else (s.linkMachines n).map Fn.traction ++
      (if s.cN Obj.lkEnable = 1 ∧ (s.cN Obj.lkInletVoltageInput = n ∨ s.cN Obj.lkBatteryVoltageInput = n) then [.inlet] else []) ++
      (if s.cN Obj.lvPhaseMap ≠ 0 ∧ s.cN Obj.lvHvInput = n then [.lvConverter] else []))).eraseDups

/-- The functions that read an output voltage: actuators and the pump by ObsLinkInput, and the LV converter by LvIntSense and
LvOutSense (R180, R313). -/
def State.voutUsers (s : State) (k : Nat) : List Fn :=
  if s.station then (if s.cN Obj.ccEnable = 1 ∧ s.cN (Obj.obsLinkInput 8) = k then [.cooling] else [])
  else ((List.range 4).filter (fun a => s.cN (Obj.gaEnable a) == 1 && s.cN (Obj.obsLinkInput (4 + a)) == k)).map Fn.actuator ++
    (if s.cN Obj.lvPhaseMap ≠ 0 ∧ (s.cN Obj.lvIntSense = k ∨ s.cN Obj.lvOutSense = k) then [.lvConverter] else [])

/-- The functions of a timebase: those that own a channel of a group on it (R31, R107). -/
def State.tbFns (s : State) (t : Nat) : List Fn :=
  ((allGroups.filter (fun g => s.cN (Obj.groupTimebase g) == t && s.cN (Obj.groupMode g) != 0)).flatMap (fun g =>
    (s.groupChannels g).filterMap (if g < 16 then s.hbOwner else s.lvOwner))).eraseDups

/-- The functions a fault names: the owner of its instance, or the functions of the scope that the connection or the
input names (R19). -/
def State.faultFns (s : State) (code inst : Nat) : List Fn :=
  let hi := code / 256
  if hi = 5 then
    if code = FC.gdGsstart ∨ code = FC.gdKeeperuv then (s.hbOwner (if code = FC.gdGsstart then inst else inst / 2)).toList
    else (s.hbOwner inst).toList
  else if hi = 4 then
    if code = FC.pwmBstuv ∨ code = FC.pwmBstuvPhase then (s.lvOwner inst).toList
    else if inst < 16 then (s.groupChannels inst).filterMap s.hbOwner else (s.groupChannels inst).filterMap s.lvOwner
  else if code = FC.snsSdclk then
    ((List.range 32).filter (fun n => s.cN (Obj.sdEnable n) == 1 && s.cN (Obj.sdClock n) == inst)).flatMap s.sdUsers
  else if code = FC.snsSdstuck ∨ code = FC.snsSdrange then s.sdUsers inst
  else if code = FC.snsVdcimpl ∨ code = FC.snsVdcrange then s.vdcUsers inst
  else if code = FC.snsLvrange then if inst < 16 then (s.lvOwner inst).toList else s.voutUsers (inst - 16)
  else if hi = 3 then (s.tbFns inst)
  else if hi = 7 then
    ((s.slotOwner inst).toList ++ (allGroups.filter (fun g => (s.cN (Obj.slotOutputMap inst)).testBit g)).flatMap (fun g =>
      (s.groupChannels g).filterMap (if g < 16 then s.hbOwner else s.lvOwner))).eraseDups
  else if hi = 8 then [obsFn inst]
  else if hi = 9 then
    if 0x0905 ≤ code ∧ code ≤ 0x0908 then (s.linkMachines inst).map Fn.traction else [.traction inst]
  else if hi = 0x0A then [.winding]
  else if hi = 0x0B then if 0x0B41 ≤ code then [.chargePhase inst] else [.lvConverter]
  else if hi = 0x0C then [.actuator inst]
  else if hi = 0x0D then
    if FC.lnkTdlost ≤ code then [.tandem] else if s.station then [.post] else [.inlet]
  else if hi = 0x0E then
    if code = FC.stnLinkov then [.stationPower, .post, .cooling] else if code < 0x0E20 then [.stationPower] else if code < 0x0E40 then [.cooling] else [.monarch]
  else if hi = 0x0F then [.metering]
  else if hi = 0x11 then [.can inst]
  else if code = FC.eslWdog then
    match s.eslEntry inst with
    | none => []
    | some e => if s.pt e 26 1 = 0xFF then s.roleFns else s.scopeFns (s.pt e 26 1)
  else if code = FC.safSidemand ∨ code = FC.safSishort ∨ code = FC.safSidiscrepancy then
    if s.oN (Obj.siScope inst) = 0xFF then s.roleFns else s.scopeFns (s.oN (Obj.siScope inst))
  else if code = FC.safSostuckon ∨ code = FC.safSostuckoff ∨ code = FC.safSoreadback then (s.soOwner inst).toList
  else []

/-- The class number of a reaction class field (R513): 0 NOTE to 4 CRITICAL. -/
def FClass.num : FClass → Nat
  | .note => 0
  | .derate => 1
  | .halt => 2
  | .safe => 3
  | .critical => 4
  | _ => 0

/-- The class a code carries on an instance: as listed, or from the connection's entry, the input or the monitor (R541). -/
def State.faultClass (s : State) (code inst : Nat) : Nat :=
  match faultRow code with
  | none => 0
  | some r =>
    match r.cls with
    | .ofConnection =>
      match s.eslEntry inst with
      | some e => s.pt e 13 1
      | none => 0
    | .ofInput => s.oN (Obj.siClass inst)
    | .ofMonitor => if inst = 4 ∨ inst = 9 then 2 else 4
    | c => c.num

end Sys2Proof.Machine
end

