-- ==== Sys2Proof/Machine/Shown.lean ====
section
/-! DEFINITION. Objects that show other state: what they read as (R429, R474, R515). -/

namespace Sys2Proof.Machine

/-! ## ESL connection slots -/

def State.eslx (s : State) (n : Nat) : EslX := (s.esl.lookup n).getD {}
def State.eslMod (n : Nat) (f : EslX → EslX) (s : State) : State :=
  { s with esl := (n, f (s.eslx n)) :: s.esl.filter (fun p => p.1 != n) }

/-- The twelve values of a connection's record, 0x1401:01 to :0C (R515). -/
def State.eslRecord (s : State) (n sub : Nat) : Nat :=
  let x := s.eslx n
  match sub with
  | 1 => x.state
  | 2 => x.last
  | 3 => x.next
  | 4 => x.rxTime
  | 5 => x.rx
  | 6 => x.lost
  | 7 => x.crc
  | 8 => x.seq
  | 9 => x.wdog
  | 10 => x.skip
  | 11 => x.reopen
  | _ => (s.eslEntry n).getD 0xFFFF

/-! ## Scales and waits -/

/-- The full scale of a VSW or VDC input: 1.50 V × divider ratio. -/
def State.vswScale (s : State) (n : Nat) : Rat := mkRat 3 2 * s.cF (Obj.vswDividerRatio n)
def State.vdcScale (s : State) (n : Nat) : Rat := mkRat 3 2 * s.cF (Obj.vdcDividerRatio n)

def State.canx (s : State) (c : Nat) : CanX := s.can.getD c {}

/-- How long the present head has waited, µs (R466). -/
def State.headWait (s : State) (c : Nat) : Nat :=
  if (s.canx c).queue.isEmpty then 0 else (s.tick - (s.canx c).headTick) / 80

/-- SafSinceProof: hours since the last pass through M0 (R504); SAF_PROOFDUE says that the interval has passed. -/
def State.sinceProof (s : State) : Nat :=
  if s.up then max (s.oN Obj.safSinceProof) ((s.tick - s.passTick) / (80000000 * 3600)) else s.oN Obj.safSinceProof

/-- EngState: factory test in M11, in reset while a per-function reset of class 0x04 runs, running in M2 to M10, else off (R213, R217). -/
def State.engState (s : State) (e : Nat) : Nat :=
  if s.mode = 11 then 3
  else if s.md.resetClass = 4 ∧ s.md.resetInst = e then 2
  else if s.up ∧ 2 ≤ s.mode ∧ s.mode ≤ 10 then 1
  else 0

/-! ## What such an object reads as -/

/-- The value that an object shows when it is not a stored one. -/
def State.shown (s : State) (k : Nat) : Option Int :=
  let idx := k / 256
  let sub := k % 256
  let c := (idx - 0x1300) / 16
  if k = Obj.deviceTime then some s.now
  else if k = Obj.role then some (if s.station then 1 else 0)
  else if k = Obj.chrysalisCount then some s.nv.chrysalisCount
  else if k = Obj.cocoonHold then some (if s.isl.cocoonHold then 1 else 0)
  else if k = Obj.resetHeldCount then some s.isl.resetHeldCount
  else if k = Obj.safSealLocked then some (if s.sealPin 3 then 1 else 0)
  else if k = Obj.roaSessionCount then some ((s.roa.sessions.filter (fun x => !x.waiting)).length : Nat)
  else if k = Obj.partnerActiveCount then some (s.ptEnabled.length : Nat)
  else if k = Obj.eslActiveCount then some ((s.ptEnabled.filter (fun e => s.ptFlag e 1)).length : Nat)
  else if k = Obj.safSinceProof then some (s.sinceProof : Nat)
  else if idx = 0x1401 ∧ 1 ≤ sub ∧ sub ≤ 12 then some (s.eslRecord (s.oN Obj.eslSelect) sub)
  else if 0x3100 ≤ idx ∧ idx ≤ 0x3117 ∧ sub = 1 then some ((s.groupOfHb (idx - 0x3100)).getD 0xFF : Nat)
  else if 0x31C0 ≤ idx ∧ idx ≤ 0x31CF ∧ sub = 1 then some (((s.groupOfLv (idx - 0x31C0)).map (fun g => g - 16)).getD 0xFF : Nat)
  else if 0x3300 ≤ idx ∧ idx ≤ 0x3317 ∧ sub = 9 then some (F32.ofRat (s.vswScale (idx - 0x3300)) : Nat)
  else if 0x3380 ≤ idx ∧ idx ≤ 0x3383 ∧ sub = 10 then some (F32.ofRat (s.vdcScale (idx - 0x3380)) : Nat)
  else if 0x4000 ≤ idx ∧ idx < 0x4080 ∧ idx % 16 = 8 ∧ sub = 2 then some (s.engState ((idx - 0x4008) / 16))
  else if 0x1300 ≤ idx ∧ idx < 0x1380 ∧ idx % 16 = 1 ∧ sub = 13 then some (s.headWait c)
  else if 0x1300 ≤ idx ∧ idx < 0x1380 ∧ idx % 16 = 1 ∧ sub = 14 then some (max (s.o k) (s.headWait c))
  else none

end Sys2Proof.Machine
end

