-- ==== Sys2Proof/Machine/Collect.lean ====
section
/-! DEFINITION. The collector's side of a raise (R532, R533, R536, R538): status bit, queue, context; and the event log's
staging (R539). -/

namespace Sys2Proof.Machine

/-- The eMRAM write supply is in fault: eMRAM writes are held until it is normal (R558). -/
def State.nvHeld (s : State) : Bool := s.oN (Obj.vmState 9) == 2

/-! ## Event log -/

/-- Stage an event-log entry (R539). -/
def State.log (kind code inst a b : Nat) (s : State) : State :=
  let e : LogEntry := { time := s.now, count := s.oN Obj.eventLogCount, kind := kind, code := code, inst := inst, arg1 := a, arg2 := b }
  State.inc32 Obj.eventLogCount { s with fc := { s.fc with staged := s.fc.staged ++ [e] } }

/-! ## Helpers -/

/-- Apply a change for every number of a list. -/
def State.forAll (l : List Nat) (f : Nat → State → State) (s : State) : State := l.foldl (fun t n => f n t) s

/-- De-energise a safety output at once: both switches low (R516). -/
def State.soLow (st : Nat) (n : Nat) (s : State) : State :=
  (s.put (Obj.soCommand n) 0).put (Obj.soState n) (if s.oN (Obj.soMode n) = 0 then 0 else st)

/-! ## Raising -/

/-- The record whose first 48 bytes a fault record carries as its Context (R538). -/
def statusRecord (station : Bool) (code inst : Nat) : Option Nat :=
  let hi := code / 256
  if hi = 2 then some 0x1011
  else if hi = 3 then some (0x3000 + 0x10 * inst)
  else if hi = 4 then if code = FC.pwmBstuv ∨ code = FC.pwmBstuvPhase then some (0x31C0 + inst) else some (0x3180 + inst)
  else if hi = 5 then if code = FC.gdKeeperuv then some (0x3200 + inst) else some (0x3100 + inst)
  else if code = FC.snsSdstuck ∨ code = FC.snsSdrange then some (0x3340 + inst)
  else if code = FC.snsVdcimpl ∨ code = FC.snsVdcrange then some (0x3380 + inst)
  else if code = FC.snsAinrange then some (0x3390 + inst)
  else if hi = 7 then some (0x4000 + 0x10 * (inst / 8) + inst % 8)
  else if hi = 8 then some (Obj.obsBase inst)
  else if hi = 9 then if 0x0905 ≤ code ∧ code ≤ 0x0908 then some (0x4910 + inst) else some (0x4805 + 0x10 * inst)
  else if hi = 0x0A then some 0x5801
  else if hi = 0x0B then if 0x0B41 ≤ code then some (0x5101 + 0x10 * inst) else some 0x5001
  else if hi = 0x0C then some (0x5205 + 0x10 * inst)
  else if hi = 0x0D then if FC.lnkTdlost ≤ code then some 0x6200 else if station then some 0x6101 else some 0x6001
  else if hi = 0x0E then if code < 0x0E20 then some 0x6301 else if code < 0x0E40 then some 0x6401 else some 0x6501
  else if hi = 0x0F then some 0x7004
  else if hi = 0x10 then some 0x1101
  else if hi = 0x11 then some (0x1301 + 0x10 * inst)
  else if code = FC.netTimeloss then some 0x1240
  else if code = FC.safSidemand ∨ code = FC.safSishort ∨ code = FC.safSidiscrepancy then some (0x8110 + inst)
  else if code = FC.safSostuckon ∨ code = FC.safSostuckoff ∨ code = FC.safSoreadback then some (0x8100 + inst)
  else if hi = 0x13 ∧ code < 0x1310 then some 0x1401
  else if hi = 0x13 then some 0x8000
  else if hi = 0x14 then some 0x2300
  else if code = FC.leaveWait ∨ code = FC.leaveSafetyover then some 0x2100
  else if code < 0x1514 then some (0x2200 + inst)
  else if code < 0x1516 then some (0x2210 + inst)
  else if hi = 0x15 then some (0x2220 + inst)
  else none

/-- The size in bytes of a value of a type (R7). -/
def Ty.size : Ty → Nat
  | .bool | .u8 => 1
  | .u16 | .i16 => 2
  | .u32 | .i32 | .f32 => 4
  | .u64 | .i64 => 8
  | .str => 16
  | .dom _ => 0

/-- A value as the bytes that carry it (R7). -/
def tyBytes (t : Ty) (v : Int) : List Nat := natBytes t.size (toUnsigned (8 * t.size) v)

/-- An object's value in force: what it shows, the active set's for an RWS object, else the live one. -/
def State.inForce (s : State) (i : ObjInfo) (k : Nat) : Int :=
  match s.shown k with
  | some v => v
  | none => if i.row.acc = .rws ∨ i.row.acc = .rwsDev then s.c k else s.o k

/-- The bytes of a record from sub-index 1 upward; that of an ESL connection is the one of the fault's instance (R538). -/
def State.recordBytes (s : State) (idx inst : Nat) : List Nat :=
  let s := if idx = 0x1401 then s.put Obj.eslSelect inst else s
  (List.range 0x1F).flatMap (fun j =>
    match objInfo idx (j + 1) with
    | none => []
    | some i => tyBytes i.row.ty (s.inForce i (key idx (j + 1))))

/-- The status bit of a code set or cleared in FaultStatus (R536). -/
def State.statusBit (code : Nat) (on : Bool) (s : State) : State :=
  let h := code / 256
  let k := if code % 256 < 64 then Obj.faultStatusLow (h - 1) else Obj.faultStatusHigh (h - 1)
  let b := code % 64
  s.put k ((if on then setBit (s.oN k) b else clearBit (s.oN k) b) : Nat)

/-- FaultClassMap from the set codes (R536). -/
def State.refreshClassMap (s : State) : State :=
  s.put Obj.faultClassMap ((s.fc.active.foldl (fun a p => setBit a (s.faultClass p.1 p.2)) 0 : Nat))

/-- The collector takes a raise: status bit, class map and queue (R532, R541). A record-only code is never raised (R75). -/
def State.collect (code inst : Nat) (injected : Bool) (s : State) : State :=
  match faultRow code with
  | none => s
  | some row =>
    if row.recordOnly ∨ ¬ row.allows inst then s
    else
      let cls := s.faultClass code inst
      let again := s.fc.active.contains (code, inst)
      let ctx := match statusRecord s.station code inst with
        | some i => (s.recordBytes i inst).take 48
        | none => []
      let s := if again then s else { s with fc := { s.fc with active := s.fc.active ++ [(code, inst)] } }
      let s := (s.statusBit code true).refreshClassMap
      let r : Raise := { code := code, inst := inst, cls := cls, time := s.now, mode := s.mode, again := again, injected := injected, context := ctx }
      if s.fc.queue.length < 256 then { s with fc := { s.fc with queue := s.fc.queue ++ [r] } } else s.incSat Obj.faultLostCount

/-- A code of class NOTE, DERATE or HALT, whose raise never signals the island. -/
def State.note (code inst : Nat) (s : State) : State := s.collect code inst false

/-- The status of a code and instance is set. -/
def State.isSet (s : State) (code inst : Nat) : Bool := s.fc.active.contains (code, inst)

end Sys2Proof.Machine
end

