-- ==== Sys2Proof/Machine/Drive.lean ====
section
/-! DEFINITION. What a power-stage channel's pins do (R108, R109, R121, R134, R152): the switch states that are called for, and the
changes of PUL and ENA that they bring. Channels HB0-HB23 are numbered 0-23, LV0-LV15 24-39. Fine edges are counted since VDD_COC
rose; the tick numbered n takes those after 64 × (n − 1) up to 64 × n. -/

namespace Sys2Proof.Machine

/-! ## Records of a channel by its number -/

def outputModeKey (c : Nat) : Nat := if c < 24 then Obj.hbOutputMode c else Obj.lvOutputMode (c - 24)
def carrierOffsetKey (c : Nat) : Nat := if c < 24 then Obj.hbCarrierOffset c else Obj.lvCarrierOffset (c - 24)
def minOnKey (c : Nat) : Nat := if c < 24 then Obj.hbMinOn c else Obj.lvMinOn (c - 24)
def minOffKey (c : Nat) : Nat := if c < 24 then Obj.hbMinOff c else Obj.lvMinOff (c - 24)
def dutyKey (c : Nat) : Nat := if c < 24 then Obj.hbShadowDuty c else Obj.lvShadowDuty (c - 24)
def phaseKey (c : Nat) : Nat := if c < 24 then Obj.hbShadowPhase c else Obj.lvShadowPhase (c - 24)
def dropKey (c : Nat) : Nat := if c < 24 then Obj.hbDropCount c else Obj.lvDropCount (c - 24)

/-- The group of a channel. -/
def State.groupOf (s : State) (c : Nat) : Option Nat := if c < 24 then s.groupOfHb c else s.groupOfLv (c - 24)

/-- A channel's and a group's hidden part. -/
def State.chx (s : State) (c : Nat) : ChanX := s.chan.getD c {}
def State.grpx (s : State) (g : Nat) : GroupX := s.grp.getD g {}

/-- Change a channel's hidden part. -/
def State.chMod (c : Nat) (f : ChanX → ChanX) (s : State) : State := { s with chan := modifyAt s.chan c f }

/-- Change a group's hidden part. -/
def State.grpMod (g : Nat) (f : GroupX → GroupX) (s : State) : State := { s with grp := modifyAt s.grp g f }

/-- The last fine edge of the present tick. -/
def State.feNow (s : State) : Nat := 64 * s.tick

/-- GroupDeadTime of the channel's group; a channel in no group takes the table's default (DESIGN CHOICE, log 74). -/
def State.deadTime (s : State) (c : Nat) : Nat :=
  match s.groupOf c with
  | some g => s.cN (Obj.groupDeadTime g)
  | none => 2560

/-! ## Pin events (R109) -/

/-- PUL and ENA at a fine edge. -/
def ChanX.at (f : Nat) (x : ChanX) : Bool × Bool :=
  match (x.ev.filter (fun e => e.1 ≤ f)).getLast? with
  | some e => e.2
  | none => (x.pul, x.ena)

/-- The changes whose fine edge has come reach the balls. -/
def ChanX.settle (f : Nat) (x : ChanX) : ChanX :=
  { x with pul := (x.at f).1, ena := (x.at f).2, ev := x.ev.filter (fun e => f < e.1) }

/-- What PUL holds for a switch state: it is held in the single-switch modes (R108, R121). -/
def pulFor (mode new : Nat) : Bool := if mode = 1 then true else if mode = 2 then false else new == 2

/-- Both switches off from a fine edge: ENA falls, and PUL settles half a dead time later at the level that the switch to come needs
(R109, R125). -/
def ChanX.open_ (mode td f next : Nat) (x : ChanX) : ChanX :=
  let was := x.at f
  let out := if was.2 then f else x.offFe
  let pul := if mode ≠ 0 ∨ next = 0 then was.1 else next == 2
  let turn := max f (out + td / 2)
  { x with
    st := 0, lastFe := f, offFe := out, offPul := if was.2 then was.1 else x.offPul, onFe := if was.2 then x.enaFe else x.onFe, pulFe := if pul = was.1 then x.pulFe else turn
    ev := x.ev.filter (fun e => e.1 ≤ f) ++ [(f, was.1, false)] ++ (if pul = was.1 then [] else [(turn, pul, false)]) }

/-- A switch on from a fine edge: where PUL has to change, ENA is low from the edge, PUL changes half a dead time after ENA fell and
ENA rises half a dead time after PUL; `full` keeps ENA low for a whole dead time at least (R109, R152). -/
def ChanX.close (mode td f new : Nat) (full : Bool) (x : ChanX) : ChanX :=
  let was := x.at f
  let pul := pulFor mode new
  if was.2 ∧ pul = was.1 then { x with st := new, lastFe := f }
  else
    let out := if was.2 then f else x.offFe
    let turn := if pul = was.1 then x.pulFe else max f (out + td / 2)
    let rise := max (max f (turn + (td + 1) / 2)) (if full then f + td else 0)
    { x with
      st := new, lastFe := f, offFe := out, offPul := if was.2 then was.1 else x.offPul, onFe := if was.2 then x.enaFe else x.onFe, pulFe := turn, enaFe := rise
      ev := x.ev.filter (fun e => e.1 ≤ f) ++ (if was.2 then [(f, was.1, false)] else []) ++
        (if pul = was.1 then [] else [(turn, pul, false)]) ++ [(rise, pul, true)] }

/-- A call for a switch state. -/
def ChanX.call (mode td f new next : Nat) (full : Bool) (x : ChanX) : ChanX :=
  if new = x.st then x else if new = 0 then x.open_ mode td f next else x.close mode td f new full

/-- The conduction that ends at a fine edge: how long ENA has been high, if it is. -/
def ChanX.onFor (f : Nat) (x : ChanX) : Option Nat := if (x.at f).2 then some (f - x.enaFe) else none

/-- What the end of a conduction leaves: an on-interval shorter than HbBlankTime is counted (R142), and a lower conduction of
LvRefreshTime remembered (R128). -/
def State.conductionEnds (c f : Nat) (s : State) : State :=
  match (s.chx c).onFor f with
  | none => s
  | some len =>
    if c < 24 then (if len * 3125 < s.cN (Obj.hbBlankTime c) * 16000 then s.incSat (Obj.hbDesatMaskCount c) else s)
    else if (s.chx c).st = 1 ∧ s.cN (Obj.lvRefreshTime (c - 24)) ≤ len then s.chMod c (fun x => { x with lowOk := true }) else s

/-- A channel is called to a switch state at a fine edge, in its own output mode or, for a reaction, in both. -/
def State.callMode (mode c f new next : Nat) (full : Bool) (s : State) : State :=
  if new = (s.chx c).st then s
  else
    let td := s.deadTime c
    (s.conductionEnds c f).chMod c (ChanX.call mode td f new next full)
def State.switchTo (c f new next : Nat) (full : Bool) (s : State) : State := s.callMode (s.cN (outputModeKey c)) c f new next full

/-- PUL and ENA low at once, and nothing planned (R113, R134). -/
def State.pinsOff (c : Nat) (s : State) : State :=
  let f := s.feNow
  (s.conductionEnds c f).chMod c (fun x =>
    { x with
      pul := false, ena := false, ev := [], st := 0, want := 0, seen := 0, skip := false, sched := [], busy := none, testPulse := none
      offFe := if (x.at f).2 then f else x.offFe, offPul := if (x.at f).2 then (x.at f).1 else x.offPul
      onFe := if (x.at f).2 then x.enaFe else x.onFe, pulFe := if (x.at f).1 then f else x.pulFe })

/-- One switch held on, from what the channel did before (R152). -/
def State.pinsAsc (c new : Nat) (s : State) : State :=
  let f := s.feNow
  ((s.callMode 0 c f new 0 true).chMod c (fun x => { x with sched := [], busy := none, testPulse := none, skip := false })).chMod c (ChanX.settle f)

/-- What drives a channel changes, and its pins with it; a channel that follows its carrier, its pattern or its trigger changes its
pins with their edges. -/
def State.pinsFor (c : Nat) : Drive → State → State
  | .pulseOff => State.pinsOff c
  | .ascUpper => State.pinsAsc c 2
  | .ascLower => State.pinsAsc c 1
  | .switching => id
def State.setHb (n : Nat) (d : Drive) (s : State) : State := State.pinsFor n d { s with hbDrive := s.hbDrive.set n d }
def State.setLv (n : Nat) (d : Drive) (s : State) : State := State.pinsFor (24 + n) d { s with lvDrive := s.lvDrive.set n d }

/-- What drives a channel, by its number. -/
def State.setDrive (c : Nat) (d : Drive) (s : State) : State := if c < 24 then s.setHb c d else s.setLv (c - 24) d
def State.drive (s : State) (c : Nat) : Drive :=
  if c < 24 then s.hbDrive.getD c .pulseOff else s.lvDrive.getD (c - 24) .pulseOff

/-- A switch of an HB channel conducts: ENA is high and PUL selects it (R108). -/
def State.conducts (s : State) (n : Nat) (upper : Bool) : Bool := (s.chx n).ena && (s.chx n).pul == upper

/-- The switch conducts, or its ENA fell so lately that a decision on its on-interval may still be on its way (R137 to R139). -/
def State.conductedLately (s : State) (n : Nat) (upper : Bool) : Bool :=
  let x := s.chx n
  s.conducts n upper || (decide (0 < x.offFe) && decide (s.feNow < x.offFe + 1024) && x.offPul == upper)

/-! ## What a tick brings to the pins -/

/-- The planned edges of a channel up to the end of the tick: scheduled ones, the end of a refresh or a precharge, and the changes of
its pins. -/
def State.pinTick (c : Nat) (s : State) : State :=
  let x := s.chx c
  if x.sched = [] ∧ x.busy.isNone ∧ x.ev = [] then s
  else
    let f := s.feNow
    let s := ((x.sched.filter (fun e => e.1 ≤ f)).foldl (fun t e => t.switchTo c e.1 e.2 0 false) s).chMod c (fun x =>
      { x with sched := x.sched.filter (fun e => f < e.1) })
    let s := match (s.chx c).busy with
      | some e => if e ≤ f then (s.chMod c (fun x => { x with busy := none })).switchTo c e (s.chx c).want 0 false else s
      | none => s
    s.chMod c (ChanX.settle f)

end Sys2Proof.Machine
end

