-- ==== Sys2Proof/Machine/MeterBase.lean ====
section
/-! DEFINITION. Legal metering sessions, intervals and the records they issue (R414 to R418), apart from the samples. -/

namespace Sys2Proof.Machine

def State.mtrMod (f : MtrX → MtrX) (s : State) : State := { s with mtr := f s.mtr }

/-- Metering is present and its domain runs: SEAL1 is 1, M2 to M10 (R51, R60). -/
def State.mtrOn (s : State) : Bool := s.sealPin 1 && s.nv.metrologyValid && s.plat.mainOn && 2 ≤ s.mode && s.mode ≤ 10

/-- The registers that a record carries. -/
def State.mtrRegs (s : State) : List Nat := (List.range 10).map (fun k => s.oN (Obj.acImport + k))

/-- The billed import and export registers: 1 AC summed, 2 DC. -/
def State.mtrBilled (s : State) (b : Nat) : Nat × Nat :=
  if b = 1 then (s.oN Obj.acImport, s.oN Obj.acExport) else (s.oN Obj.dcImport, s.oN Obj.dcExport)

/-- Issue a record: it takes the next RecordSequence and waits for its signature; the open bound goes with it (R412,
R415, R416). -/
def State.mtrIssue (kind : Nat) (x : MtrSess) (start stop imp exp flags events peak : Nat) (s : State) : State :=
  let bound := s.oN Obj.mtrOpenBound
  let now := s.mtrBilled x.billed
  let r : MtrRec := { kind := kind, billed := x.billed, flags := flags ||| (if bound = 0 then 0 else 1), seq := s.mtr.seq + 1, session := x.number, sessionId := x.sessionId, start := start, stop := stop, regs := s.mtrRegs, spanImport := now.1 - imp, spanExport := now.2 - exp, bound := bound, sealBreaks := s.oN Obj.sealBreakCount, checksum := s.oN Obj.metrologyChecksum, keyGeneration := s.oN Obj.keyGeneration, serial := s.oN Obj.serialNumber, pqEvents := events, peak := peak }
  (s.mtrMod (fun m => { m with seq := m.seq + 1, unsigned := m.unsigned ++ [r] })).put Obj.mtrOpenBound 0

/-- A session opens with its start record (R414, R415). -/
def State.mtrOpen (billed sessionId : Nat) (s : State) : State :=
  if ¬ s.mtrOn ∨ s.mtr.session.isSome then s
  else
    let b := s.mtrBilled billed
    let x : MtrSess := { billed := billed, number := s.mtr.number + 1, sessionId := sessionId, start := s.now, import0 := b.1, export0 := b.2, since := s.now, import1 := b.1, export1 := b.2 }
    let s := (s.mtrMod (fun m => { m with number := m.number + 1, session := some x })).put Obj.mtrSessionState 1
    s.mtrIssue 1 x s.now s.now b.1 b.2 0 0 0

/-- An interval closes at a device time, with flags of the close (R415). -/
def State.mtrInterval (stop flags : Nat) (s : State) : State :=
  match s.mtr.session with
  | none => s
  | some x =>
    let b := s.mtrBilled x.billed
    let s := s.mtrIssue 2 x x.since stop x.import1 x.export1 (x.flags ||| flags) x.events x.peak
    let y := { x with since := stop, import1 := b.1, export1 := b.2, flags := 0, events := 0, peak := 0, allFlags := x.allFlags ||| x.flags ||| flags }
    s.mtrMod (fun m => { m with session := some y })

/-- The session closes: the last interval's record, then the session's (R415). -/
def State.mtrCloseAt (stop flags : Nat) (s : State) : State :=
  if s.mtr.session.isNone then s
  else
    let s := s.mtrInterval stop flags
    match s.mtr.session with
    | none => s
    | some x =>
      ((s.mtrIssue 3 x x.start stop x.import0 x.export0 x.allFlags x.allEvents x.allPeak).mtrMod (fun m => { m with session := none })).put
        Obj.mtrSessionState 0

/-- The session closes now. -/
def State.mtrClose (flags : Nat) (s : State) : State := s.mtrCloseAt s.now flags

end Sys2Proof.Machine
end

