-- ==== Sys2Proof/Machine/Held.lean ====
section
/-! DEFINITION. What a function's own state becomes when the Cocoon island takes its pins, or its switching is interrupted
otherwise (R19, R113, R334, R341). -/

namespace Sys2Proof.Machine

/-! ## Charge phases -/

def State.cpx (s : State) (c : Nat) : CpX := s.cp.getD c {}
def State.cpMod (c : Nat) (f : CpX → CpX) (s : State) : State := { s with cp := modifyAt s.cp c f }

/-- Enter a phase. -/
def State.cpTo (c p : Nat) (s : State) : State := s.put (Obj.cpPhase c) p

/-- A session ends. -/
def State.cpStop (c : Nat) (s : State) : State :=
  if ¬ (s.cpx c).session then s
  else
    let s := s.cpMod c (fun x => { x with session := false, loop := 0, counts := [(0, 0), (0, 0), (0, 0), (0, 0)], left := 0 })
    let s := ((s.put (Obj.cpCurrentRef c) 0).put (Obj.cpPhaseElapsed c) 0).put (Obj.cpPhaseEquivalent c) 0
    let s := if s.oN (Obj.cpTermCause c) = 0 then s.put (Obj.cpTermCause c) 3 else s
    s.cpTo c 0

/-! ## The LV converter -/

def State.lvMod (f : LvX → LvX) (s : State) : State := { s with lv := f s.lv }

/-- The converter stopped by the island: hiccup states stay, CP1's session ends (R340, R341). -/
def State.lvHeld (s : State) : State :=
  if s.oN Obj.lvState = 0 then s
  else
    let s := (((s.put Obj.lvState 0).put Obj.lvReference 0).put Obj.lvActivePhases 0).lvMod (fun x =>
      { x with y := 0, corr := 0, burst := false, waiting := false, hold := false,
               phases := x.phases.map (fun p => { p with leaving := false, since := none, trig := none, limited := 0 }) })
    s.cpStop 1

/-! ## Gearbox actuators -/

def State.gaX (s : State) (a : Nat) : GaX := s.ga.getD a {}
def State.gaMod (a : Nat) (f : GaX → GaX) (s : State) : State := { s with ga := modifyAt s.ga a f }

/-- Switching is interrupted: the home is lost, and a running request is aborted (R334, R338, R340). -/
def State.gaLost (a : Nat) (s : State) : State :=
  let st := s.oN (Obj.gaState a)
  let s := ((s.put (Obj.gaHomed a) 0).put (Obj.gaParkEngaged a) 0).put (Obj.gaPositionIndex a) 0xFF
  let s := s.gaMod a (fun x => { x with arrived := none, neutral := false })
  if st = 3 then s.put (Obj.gaState a) 1
  else if st = 2 ∨ (4 ≤ st ∧ st ≤ 7) then ((s.put (Obj.gaState a) 1).put (Obj.gaRequestResult a) 0x06).note FC.gaShiftabort a
  else s

/-- The enabled actuators with a channel in an LV group. -/
def State.gaOfGroup (s : State) (g : Nat) : List Nat :=
  if g < 16 ∨ s.station then []
  else (List.range 4).filter (fun a => s.cN (Obj.gaEnable a) == 1 && (s.groupChannels g).any (fun n => (s.obsChannels (4 + a)).contains n))

/-! ## Winding charging -/

/-- A session ends in M5, M6 without a request: the transition to M2 starts with this cause (R46, R50). -/
def State.sessionEnd (cause : Nat) (s : State) : State :=
  if (s.mode = 5 ∨ s.mode = 6) ∧ s.oN Obj.modeTarget = 0xFF then
    let s := s.put Obj.modeTarget 2
    { s with md := { s.md with requested := true, cause := cause } }
  else s

/-- Winding charging under its plan: references and session over (R309). -/
def State.wcHeld (s : State) : State :=
  if s.oN Obj.wcTopology = 0 then s
  else
    let s := { s with wc := { s.wc with trim := 0, q := 0, leg := 0, down := none } }
    ((((s.put Obj.wcPowerSetpoint 0).put Obj.wcState 0).put Obj.wcTopology 0).put Obj.wcExportAvailable 0).cpStop 0

/-! ## The charging link, Tandem and the station -/

/-- The partner entry that the link function manages (R514). -/
def State.tdEntry (s : State) : Option Nat := s.ptEnabled.find? (fun e => s.ptFlag e 1 && s.ptFlag e 5)

/-- Write ConnectionNumber, Identity and the initiator flag of that entry (R514). -/
def State.tdManage (connection identity : Nat) (initiator : Bool) (s : State) : State :=
  match s.tdEntry with
  | none => s
  | some e =>
    let a := domAddr Obj.partnerTable (64 * e)
    let fl := if initiator then setBit (s.mNat a 1) 2 else clearBit (s.mNat a 1) 2
    ((s.mPut a 1 fl).mPut (a + 4) 2 connection).mPut (a + 16) 4 identity

/-- A Tandem agreement ends: what the link function wrote is cleared (R361, R514). -/
def State.tdEnd (s : State) : State :=
  let n := s.oN Obj.tdState
  if 1 ≤ n ∧ n ≤ 5 then { (s.put Obj.tdState 6).tdManage 0 0 false with td := {} } else s

/-- The vehicle end under its plan: contactors are open, the session is over (R347, R362, R414). -/
def State.lkHeld (s : State) : State :=
  let n := s.oN Obj.lkState
  if 1 ≤ n ∧ n ≤ 8 then
    let s := if s.oN Obj.lkStopCause = 0 then s.put Obj.lkStopCause 5 else s
    ({ s.put Obj.lkState 10 with lk := { s.lk with fallback := false, target := 0, amps := 0 } }.tdEnd).mtrClose 0
  else s

/-- The post end under its plan (R351, R362). -/
def State.postHeld (s : State) : State :=
  let n := s.oN Obj.lkPostState
  if 1 ≤ n ∧ n ≤ 6 then
    let s := if s.oN Obj.lkPostStopCause = 0 then s.put Obj.lkPostStopCause 5 else s
    { (s.put Obj.lkPostState 7).put Obj.lkPostCurrentLimit 0 with post := {} }.tdEnd
  else s

/-- Station power under the station plan (R373). -/
def State.stHeld (s : State) : State :=
  if s.oN Obj.stState = 0 then s
  else { (s.put Obj.stState 7).put Obj.stStagesRunning 0 with st := { s.st with x := 0, pRef := 0, down := none, chopper := false } }

/-- The pump stopped under its plan. -/
def State.ccHeld (s : State) : State :=
  if s.oN Obj.ccState = 0 then s else { s.put Obj.ccState 3 with cc := { s.cc with speed := 0 } }

/-! ## Modes -/

/-- Monarch stops outside M2, M7 and M8, and holds when it comes back (R51, R52, R393). -/
def State.monMode (n : Nat) (s : State) : State :=
  let runs := n = 2 ∨ n = 7 ∨ n = 8
  if s.oN Obj.monState = 0 then s
  else if ¬ runs then s.put Obj.monState 4
  else if s.oN Obj.monState = 4 then
    { s.put Obj.monState (if s.cN Obj.monStandby = 1 then 3 else 1) with mon := { s.mon with ledger := [], deferred := [], refused := [], low := false } }
  else s

/-- ModeState, ModeEntryTime, ModeTransitionCause and ModeChangeCount written together, ModeTarget 0xFF (R35). A legal session closes with
the mode that opened it (R414), and a station in M2 has its power function stopped (R369). A refusal's code 0x06 that has replaced code 1
meanwhile stays (R34; DESIGN CHOICE, log 77). -/
def State.enterMode (n cause : Nat) (s : State) : State :=
  let old := s.mode
  let s := if (old = 5 ∨ old = 6 ∨ old = 8) ∧ n ≠ old then s.mtrClose 0 else s
  let s := if n = 2 ∧ s.station then s.put Obj.stState 0 else s
  let s := if s.md.requested ∧ s.oN Obj.modeRequestResult = 1 then s.put Obj.modeRequestResult (if s.oN Obj.modeTarget = n then 0 else 7) else s
  let s := s.monMode n
  let s := (((s.put Obj.modeState n).put Obj.modeEntryTime s.now).put Obj.modeTransitionCause cause).put Obj.modeTarget 0xFF
  let s := (s.incSat Obj.modeChangeCount).log 6 n 0 old n
  { s with md := { s.md with requested := false, cause := 0, m3Wait := [] } }

/-! ## Every function -/

/-- The own state of a function that the island takes under its plan. -/
def State.fnHeld (f : Fn) (s : State) : State :=
  match f with
  | .winding => s.wcHeld
  | .inlet => s.lkHeld
  | .lvConverter => s.lvHeld
  | .stationPower => s.stHeld
  | .post => s.postHeld
  | .cooling => s.ccHeld
  | .actuator a => if s.cN (Obj.gaEnable a) = 1 then s.gaLost a else s
  | _ => s

end Sys2Proof.Machine
end

