-- ==== Sys2Proof/Machine/Sets.lean ====
section
/-! DEFINITION. The configuration scopes (R79) and the two sets of each (R80): what belongs to a scope, its contents and CRC, and
the exchange that a swap makes (R83, R84). -/

namespace Sys2Proof.Machine

/-- An object of the configuration sets. -/
def Acc.isRws : Acc → Bool
  | .rws | .rwsDev => true
  | _ => false

/-! ## Scopes -/

/-- The scope that owns a timebase (R95). -/
def State.tbScope (s : State) (t : Nat) : Nat := s.cN (Obj.tbOwnerScope t)

/-- The scope of a PWM group: that of its timebase (R112). -/
def State.groupScope (s : State) (g : Nat) : Nat := s.tbScope (s.cN (Obj.groupTimebase g))

/-- The scope of an HB or LV channel's record: its group's, or the device's (R122, R132). -/
def State.hbScope (s : State) (n : Nat) : Nat := ((s.groupOfHb n).map s.groupScope).getD 0
def State.lvScope (s : State) (n : Nat) : Nat := ((s.groupOfLv n).map s.groupScope).getD 0

/-- The number of a PWM group by its instance in the table: LV groups are 16 to 23. -/
def groupNo (inst : Nat) : Nat := if inst < 12 then inst else inst + 4

/-- The scope of an observer's records (R235). -/
def obsScope (o : Nat) : Nat := if o < 4 then o + 1 else if o < 8 then 0 else 7

/-- The scope of an instance under a rule. -/
def State.ruleScope (s : State) (r : ScopeRule) (i : Nat) : Nat :=
  match r with
  | .dev => 0
  | .fixed n => n
  | .byInst => i
  | .tb => s.tbScope i
  | .entryTb => s.tbScope (s.oN Obj.entryTimebase)
  | .group => s.groupScope (groupNo i)
  | .hbCh => s.hbScope i
  | .lvCh => s.lvScope i
  | .gs => s.hbScope (i / 2)
  | .vout => if s.station then 0 else 5
  | .engSlot => s.cN (Obj.engOwnerScope (i / 8))
  | .eng => s.cN (Obj.engOwnerScope i)
  | .obs => obsScope i
  | .machine => i + 1
  | .cp => if i = 0 then 0 else 5

/-- The configuration scope of an RWS object. -/
def State.scopeOf (s : State) (o : ObjInfo) : Nat := if o.row.acc = .rwsDev then 0 else s.ruleScope o.rcd.scope o.inst

/-- The scope of the object or block with a key. -/
def State.keyScope (s : State) (k : Nat) : Nat :=
  match objInfo (k / 256) (k % 256) with
  | some o => s.scopeOf o
  | none => 0

/-- The scopes present in the role (R79). -/
def State.scopeHere (s : State) (n : Nat) : Bool :=
  if s.station then [0, 6, 7].contains n else n < 6

/-! ## The two sets of a scope -/

/-- The contents of a scope in one set: objects by key, then block bytes by address. -/
def State.setOf (s : State) (shadow : Bool) (n : Nat) : List (Nat × Int) :=
  (if shadow then s.shadow else s.active).filter (fun p => s.keyScope p.1 == n) ++
  s.mem.filterMap (fun p =>
    let k := p.1 / 33554432
    let off := p.1 % 33554432
    match objInfo (k / 256) (k % 256) with
    | some o => if o.row.acc.isRws && s.scopeOf o == n && (decide (16777216 ≤ off) == shadow) then some (domAddr k (off % 16777216), (p.2.toNat : Int)) else none
    | none => none)

/-- CRC-32C of a scope's contents in one set (R80). -/
def State.setCrc (s : State) (shadow : Bool) (n : Nat) : Nat := crc32c (Config.serialise (s.setOf shadow n))

/-- The scopes of a map. -/
def scopesOf (map : Nat) : List Nat := (List.range 8).filter (fun n => map.testBit n)

/-! ## The two sets exchanged -/

/-- The cells of the RWS blocks of some scopes trade their copies; every other cell stays. -/
def State.swapCells (v : State) (sel : Nat → Bool) (mem : List Host.Cell) : List Host.Cell :=
  (mem.map (fun p =>
    let k := p.1 / 33554432
    match objInfo (k / 256) (k % 256) with
    | some o =>
      if o.row.acc.isRws ∧ sel (v.scopeOf o) then
        (if p.1 % 33554432 < 16777216 then (p.1 + 16777216, p.2) else (p.1 - 16777216, p.2))
      else p
    | none => p)).insertionSort (fun a b => a.1 ≤ b.1)

/-- Values of two stores: those of the selected scopes from the first, the others from the second. -/
def State.pickStore (s : State) (sel : Nat → Bool) (a b : Store) : Store :=
  (a.filter (fun p => sel (s.keyScope p.1)) ++ b.filter (fun p => !sel (s.keyScope p.1))).insertionSort (fun x y => x.1 ≤ y.1)

/-- The two sets of the scopes in a map exchanged, objects belonging to the scopes that another state's active set gives them. -/
def State.exchangedBy (s v : State) (map : Nat) : State :=
  let sel := fun n => map.testBit n
  { s with active := v.pickStore sel s.shadow s.active, shadow := v.pickStore sel s.active s.shadow, mem := v.swapCells sel s.mem }

/-- The state with the two sets of the scopes in a map exchanged (R83, R84). -/
def State.exchanged (map : Nat) (s : State) : State := s.exchangedBy s map

/-- The state as it was before a swap, in what it holds of the two sets (R85). -/
def State.before (u : SwapUndo) (s : State) : State := s.exchangedBy { s with active := u.active } u.map

end Sys2Proof.Machine
end

