-- ==== Sys2Proof/Machine/Cocoon.lean ====
section
/-! DEFINITION. The Cocoon island's plans and triggers (R16 to R23, R66, R85), entry into M9, and raising a fault (R532);
the island's own commands: clock loss, core under-voltage, the watchdog and the keeper monitor. -/

namespace Sys2Proof.Machine

/-! ## Applying plans -/

/-- Change what drives a gate supply. -/
def State.setGs (n : Nat) (d : SupplyDrive) (s : State) : State := { s with gsDrive := s.gsDrive.set n d }

/-- The drive that a plan's action gives a channel (R16, R152). -/
def PlanAct.drive : PlanAct → Drive
  | .pulseOff => .pulseOff
  | .ascUpper => .ascUpper
  | .ascLower => .ascLower

/-- HbSupplyReady of a channel follows its two supplies (R161). -/
def State.supplyReady (n : Nat) (s : State) : State :=
  s.put (Obj.hbSupplyReady n) ((if s.oN (Obj.gsState (2 * n)) = 3 then 1 else 0) + (if s.oN (Obj.gsState (2 * n + 1)) = 3 then 2 else 0))

/-- Keep one supply running from the island's oscillator, at GsKeeperDuty (R22, R148). -/
def State.keepSupply (n : Nat) (s : State) : State :=
  (((s.setGs n .keeper).put (Obj.gsState n) 6).putF (Obj.gsDuty n) (mkRat (s.oN (Obj.gsKeeperDuty n)) 100)).supplyReady (n / 2)

/-- Stop one supply. -/
def State.stopSupply (n : Nat) (s : State) : State :=
  (((s.setGs n .low).put (Obj.gsState n) 0).put (Obj.gsDuty n) 0).supplyReady (n / 2)

/-- One channel of a machine under a plan's action, with the supply that the action needs (R22). -/
def State.planChannel (a : PlanAct) (n : Nat) (s : State) : State :=
  let s := ((s.setHb n a.drive).put (Obj.hbProtState n) 5).chMod n (fun x => { x with rearm := false })
  match a with
  | .pulseOff => (s.stopSupply (2 * n)).stopSupply (2 * n + 1)
  | .ascUpper => (s.keepSupply (2 * n)).stopSupply (2 * n + 1)
  | .ascLower => (s.stopSupply (2 * n)).keepSupply (2 * n + 1)

/-- An LV channel under the island: pulse-off (R17). -/
def State.offLv (n : Nat) (s : State) : State :=
  s.setLv n .pulseOff

/-- A group under island override: its run request falls with it, and it does not resume at the release (R113). -/
def State.overrideGroup (g : Nat) (s : State) : State :=
  let s := if s.oN (Obj.groupState g) = 1 ∨ s.oN (Obj.groupState g) = 2 then s.put (Obj.groupRunRequest g) 0 else s
  s.put (Obj.groupState g) 3

/-- A channel of any other function under its plan: pulse-off, supplies stopped (R17, R22). -/
def State.offChannel (n : Nat) (s : State) : State := s.planChannel .pulseOff n

/-- The committed plan of a machine; the default plan is pulse-off (R17). -/
def State.planOf (s : State) (m : Nat) : PlanAct := ((s.isl.plans.getD m none).getD .pulseOff)

/-- A machine's channels are under a gate-drive reaction (R21). -/
def State.inReaction (s : State) (m : Nat) : Bool := (s.machineHbs m).any (fun n => s.oN (Obj.hbReaction n) != 0)

/-- The island takes over a channel of a reaction that it keeps: the reaction stays, the supply of its side runs as a keeper and the
other stops (R21, R22). -/
def State.keepChannel (n : Nat) (s : State) : State :=
  match s.hbDrive.getD n .pulseOff with
  | .ascUpper => s.planChannel .ascUpper n
  | .ascLower => s.planChannel .ascLower n
  | _ => s.planChannel .pulseOff n

/-- Put one machine under its plan, or keep the reaction in force (R21). -/
def State.planMachine (m : Nat) (s : State) : State :=
  if s.inReaction m ∨ s.isl.kept.contains m then
    let s := s.forAll (s.machineHbs m) State.keepChannel
    { s with isl := { s.isl with kept := if s.isl.kept.contains m then s.isl.kept else s.isl.kept ++ [m] } }
  else
    let s := s.forAll (s.machineHbs m) (State.planChannel (s.planOf m))
    if (s.isl.plans.getD m none).isSome then { s with isl := { s.isl with cocoonHold := true } } else s

/-- The HB channels of a function other than a machine. -/
def State.fnHbs (s : State) (f : Fn) : List Nat := (List.range 24).filter (fun n => s.hbOwner n == some f)

/-- The LV channels of a function. -/
def State.fnLvs (s : State) (f : Fn) : List Nat := (List.range 16).filter (fun n => s.lvOwner n == some f)

/-- The safety outputs of a function. -/
def State.fnSos (s : State) (f : Fn) : List Nat := (List.range 8).filter (fun n => s.soOwner n == some f)

/-- The groups that hold a channel of a function. -/
def State.fnGroups (s : State) (f : Fn) : List Nat :=
  hbGroups.filter (fun g => (s.groupChannels g).any (fun n => (s.fnHbs f).contains n)) ++
  lvGroups.filter (fun g => (s.groupChannels g).any (fun n => (s.fnLvs f).contains n))

/-- Put one function under its plan (R19). -/
def State.planFn (f : Fn) (s : State) : State :=
  let gs := s.fnGroups f
  let sos := s.fnSos f
  let s := match f with
    | .traction m => s.planMachine m
    | _ => (s.forAll (s.fnHbs f) State.offChannel).forAll (s.fnLvs f) State.offLv
  let s := s.forAll sos (State.soLow 7)
  (s.forAll gs State.overrideGroup).fnHeld f

/-- The functions outside the machines, for a trigger that takes all of them. -/
def otherFns : List Fn :=
  [.winding, .inlet, .lvConverter, .actuator 0, .actuator 1, .actuator 2, .actuator 3, .stationPower, .post, .cooling]

/-- Put everything under the plans: the machines by theirs, every other channel at pulse-off, every safety output
de-energised, every other supply stopped (R16 to R19, R22). -/
def State.planAll (s : State) : State :=
  let machineChannels := (List.range 4).flatMap s.machineHbs
  let s := s.forAll ((List.range 24).filter (fun n => !machineChannels.contains n)) State.offChannel
  let s := s.forAll (List.range 16) State.offLv
  let s := s.forAll (List.range 8) (State.soLow 7)
  let s := s.forAll (List.range 4) State.planMachine
  let s := s.forAll (allGroups.filter (fun g => s.groupChannels g != [])) State.overrideGroup
  (otherFns ++ (List.range 4).map Fn.traction).foldl (fun t f => t.fnHeld f) s

/-! ## Triggers -/

/-- What a trigger applies to a machine, and to the other functions (R17, R21). -/
def State.appliedTo (s : State) (m : Nat) : Applied :=
  if s.inReaction m ∨ s.isl.kept.contains m then .kept (((s.machineHbs m).map (fun n => s.oN (Obj.hbReaction n))).foldl max 0)
  else match s.isl.plans.getD m none with
    | some a => .plan a
    | none => .default
def State.appliedOthers (s : State) : Applied :=
  match s.isl.stPlan with
  | some a => .plan a
  | none => .default

/-- A function is a machine. -/
def Fn.isMachine : Fn → Bool
  | .traction _ => true
  | _ => false

/-- Write a trigger to the retention memory: its cause, what it applies to whom, and the length of a reset (R23). -/
def State.record (code inst : Nat) (whole masked : Bool) (fns : List Fn) (resetMs : Nat) (s : State) : State :=
  let r : TriggerRec := { code := code, inst := inst, time := s.now, whole := whole, resetMs := resetMs, masked := masked,
                          machines := (List.range 4).map (fun m => if masked ∨ ¬ (whole ∨ fns.contains (.traction m)) then .untouched else s.appliedTo m),
                          others := if masked ∨ ¬ (whole ∨ fns.any (fun f => !f.isMachine)) then .untouched else s.appliedOthers }
  { s with isl := { s.isl with records := s.isl.records ++ [r] } }

/-- The scope that holds a function's configuration (R79). -/
def fnScope : Fn → Nat
  | .traction m => 1 + m
  | .lvConverter => 5
  | .chargePhase 1 => 5
  | .stationPower => 6
  | .post => 7
  | .cooling => 7
  | _ => 0

/-- Cancel an armed swap with a code: every selected scope's ShadowState shows again whether it differs (R83). -/
def State.cancelSwap (code : Nat) (s : State) : State :=
  if s.sw.armed then
    let scopes := (List.range 8).filter (fun n => s.sw.map.testBit n)
    let s := s.forAll scopes (fun n => State.put (Obj.shadowState n) (if s.sw.equal.contains n then 0 else 1))
    (({ s with sw := { s.sw with armed := false } }).put Obj.swapResult code).log 7 s.sw.map 0 code 0
  else s

/-- A swap of the present tick has not happened: the sets trade back and the status objects read as before it, but for the code
(R85). -/
def State.undoSwap (code : Nat) (s : State) : State :=
  match s.sw.undo with
  | none => s
  | some u =>
    if u.tick = s.tick then
      let s := u.objs.foldl (fun t p => t.put p.1 p.2) (s.before u)
      let s := s.forAll (scopesOf u.map) (fun n => State.put (Obj.shadowState n) (if u.equal.contains n then 0 else 1))
      (({ s with sw := { s.sw with undo := none, unsaved := u.unsaved } }).put Obj.swapResult code).log 7 u.map 0 code 0
    else s

/-- An event that a swap gives way to: an armed one is cancelled, and one taken in this very tick is undone (R85). -/
def State.swapLoses (s : State) : State := (s.undoSwap 0x09).cancelSwap 0x09

/-- A requested transition is abandoned: code 0x07, and the ramps that it began are over (R36). -/
def State.abandonRequest (s : State) : State :=
  let s := if s.md.requested then (s.put Obj.modeRequestResult 0x07).put Obj.modeTarget 0xFF else s
  { s with md := { s.md with requested := false, m3Wait := [] }, trac := s.trac.map (fun x => { x with exit := none }) }

/-- What stops with M9 beside the pins: Monarch (R52), and a requested transition (R36), in M9 also one to M2. In M11 and in M0 the
mode stays: R19 excepts M0, and R50 has no such transition out of M11 (DESIGN CHOICE, log 77). -/
def State.enterM9 (cause : Nat) (s : State) : State :=
  if (2 ≤ s.mode ∧ s.mode ≤ 8) ∨ s.mode = 10 then
    let old := s.mode
    let s := s.abandonRequest
    let s := (((s.put Obj.modeState 9).put Obj.modeEntryTime s.now).put Obj.modeTransitionCause cause).put Obj.modeTarget 0xFF
    let s := (s.incSat Obj.modeChangeCount).incSat Obj.cocoonEntryCount
    let s := if s.oN Obj.monState = 0 then s else s.put Obj.monState 4
    s.log 6 9 0 old 9
  else if s.mode = 9 then s.abandonRequest
  else s

/-- The trigger that finds CocoonHold newly set is the one that set it (R35, R66). -/
def State.holdBy (code : Nat) (s : State) : State :=
  if s.isl.cocoonHold ∧ s.isl.holdCode = 0 then { s with isl := { s.isl with holdCode := code } } else s

/-- A trigger other than a SAFE fault: every function under its plan, a swap gives way, M9 is entered (R18, R19,
R85). `masked` keeps the pins (R541). -/
def State.trigger (code inst : Nat) (masked : Bool) (s : State) : State :=
  if masked then s.record code inst true masked [] 0
  else
    let s := s.swapLoses.record code inst true masked [] 0
    let s := (if s.mode ≤ 1 ∨ 9 ≤ s.mode then s else s.mtrClose 64).planAll
    let s := { s with isl := { s.isl with whole := true } }
    (s.holdBy code).enterM9 code

/-- A swap, armed or of this tick, gives way to a SAFE fault on a function of a selected scope (R85). -/
def State.swapYields (fns : List Fn) (s : State) : State :=
  let hits := fun (map : Nat) => fns.any (fun f => map.testBit (fnScope f))
  let s := if s.sw.undo.any (fun u => hits u.map) then s.undoSwap 0x09 else s
  if s.sw.armed && hits s.sw.map then s.cancelSwap 0x09 else s

/-- A SAFE fault: the functions it names are held under their plans, and the mode stays (R19, R39, R85). -/
def State.triggerSafe (code inst : Nat) (masked : Bool) (s : State) : State :=
  if masked then s.record code inst false masked (s.faultFns code inst) 0
  else
    let s := s.swapYields (s.faultFns code inst)
    let fns := s.faultFns code inst
    let s := s.record code inst false masked fns 0
    let s := (fns.foldl (fun t f => t.planFn f) s).holdBy code
    { s with isl := { s.isl with held := s.isl.held ++ fns.filter (fun f => !s.isl.held.contains f) } }

/-! ## Raising a fault -/

/-- Raise a code on an instance, with the injected mark: the collector, and the island for SAFE and CRITICAL (R532,
R541). A record-only code is never raised (R75). -/
def State.raiseWith (code inst : Nat) (injected masked : Bool) (s : State) : State :=
  match faultRow code with
  | none => s
  | some row =>
    if row.recordOnly ∨ ¬ row.allows inst then s
    else
      let cls := s.faultClass code inst
      let s := s.collect code inst injected
      if cls = 4 then s.trigger code inst masked
      else if cls = 3 then s.triggerSafe code inst masked
      else s

/-- Raise a code on an instance (R532). -/
def State.raise (code inst : Nat) (s : State) : State := s.raiseWith code inst false false

/-! ## Commands of the island -/

/-- R13, R18, R20: `pll` names the lost PLL locks, 0 a missing reference edge. -/
def State.clockLost (pll : Nat) (s : State) : State :=
  if s.isl.armedClock ∧ s.mode ≠ 1 then
    let s := { s with plat := { s.plat with clockOk := false } }
    let s := if pll = 0 then s.put Obj.refClockPresent 0
      else s.put Obj.pllLockMap ((s.oN Obj.pllLockMap) &&& (15 - pll) : Nat)
    (s.incSat Obj.clockLossCount).trigger FC.bootClockloss 0 false
  else s

/-- CLOCK_LOSS. -/
def execClockLoss (pll : BitVec 2) (s : State) : Host.Outcome State Fault Refusal := .next (s.clockLost pll.toNat)

/-- R18, R20: in M1 the fall is only recorded, for the next warm pass (R71). -/
def State.coreUv (s : State) : State :=
  if s.plat.vddCoc then
    if s.mode = 1 then { s with isl := { s.isl with coreUvInM1 := true } }
    else s.trigger FC.bootCoreuv 0 false
  else s

/-- CORE_UNDERVOLTAGE. -/
def execCoreUndervoltage (s : State) : Host.Outcome State Fault Refusal := .next s.coreUv

/-- The expiry's effect (R499): the trigger with SAF_WDOG, and the count since VDD_COC rose. -/
def State.watchdogExpired (s : State) : State :=
  if s.isl.armedWatchdog ∧ s.up then
    let s := { s with isl := { s.isl with serviceOk := false, watchdogExpiries := s.isl.watchdogExpiries + 1 } }
    (s.incSat Obj.safWatchdogExpiryCount).raise FC.safWdog 0
  else s

/-- R499, R20: the first service after M0 arms the watchdog; one within 0.5 ms to 2 ms of the last keeps the window. -/
def State.watchdogServiced (sinceUs : Nat) (s : State) : State :=
  if s.up then
    if ¬ s.isl.armedWatchdog then
      { s with isl := { s.isl with armedWatchdog := true, lastService := some s.mono, serviceOk := true } }
    else if sinceUs < 500 ∨ 2000 < sinceUs then
      { s.watchdogExpired with isl := { s.watchdogExpired.isl with lastService := some s.mono } }
    else { s with isl := { s.isl with lastService := some s.mono, serviceOk := true } }
  else s

/-- WATCHDOG_SERVICE. -/
def execWatchdogService (sinceUs : Nat) (s : State) : Host.Outcome State Fault Refusal := .next (s.watchdogServiced sinceUs)

/-- WATCHDOG_EXPIRY. -/
def execWatchdogExpiry (s : State) : Host.Outcome State Fault Refusal := .next s.watchdogExpired

/-- R148: while a keeper runs, its under-voltage is recorded in the retention memory. -/
def State.keeperUv (n : Nat) (s : State) : State :=
  if s.gsDrive.getD n .low = .keeper then s.record FC.gdKeeperuv n false false [] 0 else s

/-- KEEPER_UNDERVOLTAGE. -/
def execKeeperUndervoltage (gs : Fin 48) (s : State) : Host.Outcome State Fault Refusal := .next (s.keeperUv gs.val)

end Sys2Proof.Machine
end

