-- ==== Sys2Proof/Machine/ModeBase.lean ====
section
/-! DEFINITION. What the families share of modes and access: role checks (R430), refusal codes, a mode entered (R35, R36). -/

namespace Sys2Proof.Machine

/-- The rank of a role on the line Observer, Operator, Integrator, Vendor (R430); the Metrologist stands apart. -/
def roleRank : Role → Nat
  | .observer => 1
  | .operator => 2
  | .slot => 2
  | .integrator => 3
  | .vendor => 5
  | .device => 6
  | .metrologist => 1

/-- Refuse an access with a ROA code (R438). -/
def State.refuse (code : Nat) (s : State) : State := s.put Obj.roaLastError code

/-- An access of a role: refused with 0x05 below the rank needed, else applied; nothing happens where ROA is not served
(M0, M1 and main-domain reset). -/
def State.access (role : Role) (rank : Nat) (f : State → State) (s : State) : State :=
  if ¬ s.up then s else if roleRank role < rank then s.refuse 0x05 else f s

/-- An object is the target of an enabled receive slot (R438, R450). -/
def State.slotTarget (s : State) (k : Nat) : Bool :=
  s.slotsEnabled.any (fun q => !sdTransmit (s.slotDesc q) && s.slotDesc q / 2 ^ 60 % 4 == 0 && sdTarget (s.slotDesc q) == k)

/-- A write of an object by a role: refused with the lowest code of R438 that applies, 0x05 below the rank, 0x0B where a
slot holds the object, 0x0C where its function is absent. -/
def State.accessAt (role : Role) (rank k : Nat) (present : Bool) (f : State → State) (s : State) : State :=
  if ¬ s.up then s
  else if roleRank role < rank then s.refuse 0x05
  else if role ≠ .slot ∧ s.slotTarget k then s.refuse 0x0B
  else if ¬ present then s.refuse 0x0C
  else f s

/-- An automatic transition into M4 abandons a requested one with code 0x07, and its ramps (R36, R283). -/
def State.enterM4 (cause : Nat) (s : State) : State :=
  if s.mode = 3 then
    s.abandonRequest.enterMode 4 cause
  else s

end Sys2Proof.Machine
end

