-- ==== Sys2Proof/Machine/Leave.lean ====
section
/-! DEFINITION. The leave arbiter (R551 to R556). -/

namespace Sys2Proof.Machine

/-- The class of an operation: 0 Safety, 1 Control, 2 Service, 3 Background (R551). -/
def leaveClass : LeaveOp → Nat
  | .gatePair _ => 0
  | .finalJournal => 0
  | .law _ => 1
  | .journalSlot => 1
  | .faultRecord => 2
  | .configStore => 2
  | .patternTable => 2
  | .serdes _ => 2
  | .memTest => 3
  | .eventLog => 3
  | .firmware => 3

/-- The amount an operation asks for, mW (R551). -/
def State.leaveAmount (s : State) : LeaveOp → Nat
  | .gatePair _ => 40
  | .finalJournal => 80
  | .law n => s.oN (Obj.slotLeavePower n.val)
  | .journalSlot => 80
  | .faultRecord => 80
  | .configStore => 80
  | .patternTable => 120
  | .serdes _ => 250
  | .memTest => 15
  | .eventLog => 80
  | .firmware => 80

/-- The sum of the grants in force of some classes. -/
def State.leaveSum (s : State) (p : Nat → Bool) : Nat :=
  ((s.leave.held.filter (fun e => p (leaveClass e.op))).map (fun e => s.leaveAmount e.op)).sum

/-- LeaveEffectiveCeiling: LeaveCeiling up to HmTempWarn, then falling linearly to the reserve at HmTempCritical (R554). -/
def State.effectiveCeiling (s : State) (hottest : Rat) : Nat :=
  let c := s.oN Obj.leaveCeiling
  let r := s.oN Obj.leaveSafetyReserve
  let w := s.oF Obj.hmTempWarn
  let k := s.oF Obj.hmTempCritical
  if hottest ≤ w then c
  else if k ≤ hottest then min r c
  else ((c : Rat) - ((c : Rat) - (r : Rat)) * (hottest - w) / (k - w)).floor.toNat

/-- LeaveInUse, LeavePeak and LeaveWaiting follow the entries (R556). -/
def State.leaveShow (s : State) : State :=
  let use := s.leaveSum (fun _ => true)
  ((s.put Obj.leaveInUse use).put Obj.leavePeak (max (s.oN Obj.leavePeak) use)).put Obj.leaveWaiting (s.leave.waiting.length : Nat)

/-- A non-Safety request fits under the ceiling (R552). -/
def State.leaveFits (s : State) (op : LeaveOp) : Bool :=
  s.leaveSum (fun k => k != 0) + s.leaveAmount op + s.oN Obj.leaveSafetyReserve ≤ s.oN Obj.leaveEffectiveCeiling

/-- The waiting request that the arbiter serves next: the highest class, in order of arrival (R552). -/
def State.leaveNext (s : State) : Option LeaveEntry :=
  match s.leave.waiting.find? (fun e => leaveClass e.op == 0), s.leave.waiting.find? (fun e => leaveClass e.op == 1),
      s.leave.waiting.find? (fun e => leaveClass e.op == 2), s.leave.waiting.find? (fun e => leaveClass e.op == 3) with
  | some e, _, _, _ => some e
  | none, some e, _, _ => some e
  | none, none, some e, _ => some e
  | none, none, none, e => e

/-- Note a grant in force. -/
def State.leaveHold (op : LeaveOp) (s : State) : State :=
  let e : LeaveEntry := { op := op, since := s.mono }
  (State.inc32 (Obj.leaveGrantCount (leaveClass op)) { s with leave := { s.leave with held := s.leave.held ++ [e] } }).leaveShow

/-- A grant of a Safety request, which no budget stops; beyond the reserve it is counted (R553). -/
def State.leaveSafety (op : LeaveOp) (s : State) : State :=
  let s := { s with leave := { s.leave with waiting := s.leave.waiting.filter (fun e => e.op != op) } }
  let s := s.leaveHold op
  if s.oN Obj.leaveSafetyReserve < s.leaveSum (fun k => k == 0) then
    (s.incSat Obj.leaveSafetyOverrun).raise FC.leaveSafetyover 0
  else s

/-- Ask for leave: granted at once when it fits and nothing of its own or a higher class waits, else it waits (R552). The
flag says whether it was granted. -/
def State.leaveAsk (op : LeaveOp) (s : State) : State × Bool :=
  if leaveClass op = 0 then (s.leaveSafety op, true)
  else if s.leaveFits op ∧ s.leave.waiting.all (fun e => leaveClass op < leaveClass e.op) then (s.leaveHold op, true)
  else
    let e : LeaveEntry := { op := op, since := s.mono }
    (({ s with leave := { s.leave with waiting := s.leave.waiting ++ [e] } }).leaveShow, false)

/-- Return a grant, adding its energy; a request that still waits is withdrawn (R551, R555). -/
def State.leaveBack (op : LeaveOp) (s : State) : State :=
  match s.leave.held.find? (fun e => e.op == op) with
  | some e =>
    let en := s.leave.energy + s.leaveAmount op * (s.mono - e.since)
    let s := { s with leave := { s.leave with held := s.leave.held.erase e, energy := en } }
    (s.put Obj.leaveEnergy ((en / 1000000000) % 18446744073709551616 : Nat)).leaveShow
  | none => ({ s with leave := { s.leave with waiting := s.leave.waiting.filter (fun e => e.op != op) } }).leaveShow

end Sys2Proof.Machine
end

