-- ==== Sys2Proof/Machine/Timebase.lean ====
section
/-! DEFINITION. Angle timebases (R87 to R107): sources, updates, lock and loss, the advance of one tick and the
occurrences it crosses. Angles with the 16 hidden bits are in units of 2^-16 au. -/

namespace Sys2Proof.Machine

/-- A timebase's hidden part. -/
def State.tbx (s : State) (t : Nat) : TbX := s.tb.getD t {}

/-- Change a timebase's hidden part. -/
def State.tbMod (t : Nat) (f : TbX → TbX) (s : State) : State := { s with tb := modifyAt s.tb t f }

/-- One revolution in units of 2^-16 au. -/
def revUnits : Nat := 281474976710656

/-- The angle with its hidden fraction (R87). -/
def State.tbAngle48 (s : State) (t : Nat) : Nat := s.oN (Obj.tbAngle t) * 65536 + (s.tbx t).frac

/-- Speed of a frequency in Hz, in 2^-16 au/tk: f × 2^48 / 80,000,000, to the nearest unit (R88). -/
def speedOfHz (f : Rat) : Int := F32.roundEven (f * (revUnits : Rat) / 80000000)

/-- Set TbSpeed and TbFrequency together; the last non-zero sign is the direction (R88). -/
def State.setSpeed (t : Nat) (v : Int) (s : State) : State :=
  let turned := v != 0 && ((s.tbx t).back != decide (v < 0))
  let s := (s.put (Obj.tbSpeed t) v).putF (Obj.tbFrequency t) ((v : Rat) * 80000000 / (revUnits : Rat))
  let s := if v = 0 then s else s.tbMod t (fun x => { x with back := decide (v < 0) })
  if turned then (s.tbMod t (fun x => { x with wait := 0 })).put (Obj.highWaterActive t) 0 else s

/-- The speed limit of R88. -/
def speedLimit : Int := 17592186044416

/-- A source speed, clamped with TB_SPEEDCLAMP beyond the limit (R88). -/
def State.setSourceSpeed (t : Nat) (v : Int) (s : State) : State :=
  if speedLimit < v then (s.setSpeed t speedLimit).raise FC.tbSpeedclamp t
  else if v < -speedLimit then (s.setSpeed t (-speedLimit)).raise FC.tbSpeedclamp t
  else s.setSpeed t v

/-- Put an angle with its fraction, and move the revolution counter by whole turns (R87). -/
def State.putAngle (t : Nat) (full : Int) (turnsFrom : Nat) (s : State) : State :=
  let a := (full % (revUnits : Int)).toNat
  let turns := full / (revUnits : Int)
  let s := (s.put (Obj.tbAngle t) (a / 65536 : Nat)).tbMod t (fun x => { x with frac := a % 65536 })
  s.put (Obj.tbRevolutions t) (toUnsigned 32 ((turnsFrom : Int) + turns) : Nat)

/-- Enter a state of R94; the count of large errors starts again. -/
def State.tbState (t st : Nat) (s : State) : State :=
  (s.put (Obj.tbLockState t) st).tbMod t (fun x => { x with lossRun := 0 })

/-- Lock is declared: TbLockTime is written (R93, R94). -/
def State.tbLocked (t : Nat) (s : State) : State := (s.tbState t 2).put (Obj.tbLockTime t) s.now

/-- Off: the angle is held and the list is not dispatched (R89, R94). DESIGN CHOICE (log 73): TbSpeed and TbFrequency read 0,
occurrences that wait for a later tick's dispatch are dropped uncounted, and delayed ones, dispatched already, still take effect. -/
def State.tbOff (t : Nat) (s : State) : State :=
  (((s.tbState t 0).setSpeed t 0).tbMod t (fun x => { frac := x.frac, back := x.back, delayed := x.delayed })).put (Obj.highWaterActive t) 0

/-- Start the source that the active set selects: revolution counter from 0, angle from the first update; a synthetic
source starts at angle 0 and is locked at once (R87, R89, R94). The angle keeps advancing at the speed held and the list keeps
dispatching meanwhile (R94); moved and delayed occurrences stay (DESIGN CHOICE, log 73). -/
def State.tbEnable (t : Nat) (s : State) : State :=
  let src := s.cN (Obj.tbSource t)
  if src = 0 then s.tbOff t
  else
    let s := (s.put (Obj.tbRevolutions t) 0).tbMod t (fun x =>
      { frac := x.frac, first := true, back := x.back, moved := x.moved, delayed := x.delayed })
    let s := s.put (Obj.highWaterActive t) 0
    if src = 3 then
      let s := (s.putAngle t 0 0).tbMod t (fun x => { x with first := false })
      (s.setSourceSpeed t (speedOfHz (s.cF (Obj.tbSyntheticFrequency t)))).tbLocked t
    else s.tbState t 1

/-! ## Event-list entries (R97 to R99) -/

/-- The 16 bytes of an entry of the active list as one number. -/
def State.entryWord (s : State) (t n : Nat) : Nat := s.mNat (domAddr (Obj.eventListShadow t) (16 * n)) 16

/-- Fields of an entry (R98). -/
def evArgument (e : Nat) : Nat := e / 2 ^ 96
def evRevSkip (e : Nat) : Nat := e / 2 ^ 88 % 256
def evTarget (e : Nat) : Nat := e / 2 ^ 80 % 256
def evDelay (e : Nat) : Nat := e / 2 ^ 64 % 65536
def evEnable (e : Nat) : Bool := e.testBit 63
def evDirection (e : Nat) : Nat := e / 2 ^ 61 % 4
def evAction (e : Nat) : Nat := e / 2 ^ 57 % 16
def evCount (e : Nat) : Nat := e / 2 ^ 48 % 512 + 1
def evStep (e : Nat) : Nat := e / 2 ^ 32 % 65536
def evAngle (e : Nat) : Nat := e % 4294967296

/-- The angle of occurrence k (R98). -/
def evOccurrence (e k : Nat) : Nat :=
  if evStep e = 0 then (evAngle e + k * 4294967296 / evCount e) % 4294967296
  else (evAngle e + k * evStep e * 65536) % 4294967296

/-- The timebase is the metering timebase: legal metering is present and MtrTimebase names it (R60, R97, R398). -/
def State.meterTb (s : State) (t : Nat) : Bool := s.sealPin 1 && s.oN Obj.mtrTimebase == t

/-- The ordinary entry numbers of the active list that hold anything; entry 254 is the device's own on the metering
timebase (R97). -/
def State.usedEntries (s : State) (t : Nat) : List Nat :=
  let base := domAddr (Obj.eventListShadow t) 0
  ((s.mem.filterMap (fun p => if base ≤ p.1 ∧ p.1 < base + 4080 then some ((p.1 - base) / 16) else none)).eraseDups).filter
    (fun n => !(n == 254 && s.meterTb t))

/-- Those whose Enable bit is set. -/
def State.enabledEntries (s : State) (t : Nat) : List Nat := (s.usedEntries t).filter (fun n => evEnable (s.entryWord t n))

/-- The metering train of entry 254: 256 occurrences from angle 0, forward (R97, R398). -/
def meterEntry : Nat := 2 ^ 63 + 2 ^ 61 + 7 * 2 ^ 57 + 255 * 2 ^ 48

/-- The swap entry 255 while a swap is armed with boundary 1 (R102). -/
def swapEntry (angle : Nat) : Nat := 2 ^ 63 + 3 * 2 ^ 61 + 6 * 2 ^ 57 + angle

/-- Every entry the timebase dispatches, with its number. -/
def State.dispatchList (s : State) (t : Nat) : List (Nat × Nat) :=
  (s.enabledEntries t).map (fun n => (n, s.entryWord t n)) ++
  (if s.meterTb t then [(254, meterEntry)] else []) ++
  (if s.sw.armed ∧ s.sw.boundary = 1 ∧ s.sw.timebase = t then [(255, swapEntry s.sw.angle)] else [])

/-- The occurrences of an entry that a motion of `d` au from angle `a0` passes: forward in (a0, a0+d], backward in
[a0−d, a0) (R100). -/
def passed (n e a0 d : Nat) (back : Bool) : List Occ :=
  if !(evDirection e).testBit (if back then 1 else 0) then []
  else
    (List.range (evCount e)).filterMap (fun k =>
      let th := evOccurrence e k
      let o := if back then (a0 + 4294967296 - th) % 4294967296 else (th + 4294967296 - a0) % 4294967296
      let o := if o = 0 then 4294967296 else o
      if o ≤ d then some { action := evAction e, target := evTarget e, arg := evArgument e, entry := n, angle := th, off := o, due := evDelay e }
      else none)

/-- Occurrences in a span of a timebase's list; RevSkip by the counter at the tick of firing (R98). -/
def State.passedAll (s : State) (t a0 d : Nat) (back : Bool) : List Occ :=
  (s.dispatchList t).flatMap (fun p =>
    if s.oN (Obj.tbRevolutions t) % (evRevSkip p.2 + 1) = 0 then passed p.1 p.2 a0 d back else [])

/-! ## Updates (R90 to R94) -/

/-- The step of R91 as the tick after the update takes it, and what it does to dispatch (R101): an advance skips the occurrences
that lie only within its span, a regress waits until the angle has passed the mark again. `pe` is the phase error in au. -/
def State.tbStep (t : Nat) (pe : Int) (s : State) : State :=
  let a0 := s.oN (Obj.tbAngle t)
  let back := (s.tbx t).back
  let d := pe.natAbs
  let wait := (s.tbx t).wait
  let s1 := ((s.putAngle t ((s.tbAngle48 t : Int) + pe * 65536) (s.oN (Obj.tbRevolutions t))).incSat (Obj.tbStepCount t)).raise FC.tbStep t
  if (pe < 0) = back then
    let held := min wait d
    let a := if back then (a0 + 4294967296 - held) % 4294967296 else (a0 + held) % 4294967296
    let skipped := (s1.passedAll t a (d - held) back).length
    ((s1.addSat (Obj.eventSkipCount t) skipped).tbMod t (fun x => { x with wait := wait - held })).put (Obj.highWaterActive t)
      (if wait - held = 0 then 0 else 1)
  else (s1.tbMod t (fun x => { x with wait := wait + d })).put (Obj.highWaterActive t) 1

/-- The lock condition of R93 after a valid update in acquiring, with the error's size. -/
def State.tbTrackLock (t : Nat) (pe : Int) (timeSynced : Bool) (s : State) : State :=
  let src := s.cN (Obj.tbSource t)
  let within := pe.natAbs ≤ s.cN (Obj.tbLockThreshold t)
  if src = 2 then
    let f := |s.oF (Obj.tbFrequency t)|
    let good := within && decide (s.cF (Obj.tbFrequencyMin t) ≤ f) && decide (f ≤ s.cF (Obj.tbFrequencyMax t))
    if ¬ good then s.tbMod t (fun x => { x with travel := none })
    else
      match (s.tbx t).travel with
      | none => s.tbMod t (fun x => { x with travel := some 0 })
      | some d => if revUnits ≤ d.natAbs then s.tbLocked t else s
  else
    let run := if within then (s.tbx t).lockRun + 1 else 0
    let s := s.tbMod t (fun x => { x with lockRun := run })
    if src = 1 ∧ 8 ≤ run then s.tbLocked t
    else if src = 4 ∧ 4 ≤ run ∧ timeSynced then s.tbLocked t
    else s

/-- The state change of R94 that a valid update of a phase error brings. -/
def State.tbTrack (t : Nat) (pe : Int) (timeSynced : Bool) (s : State) : State :=
  match s.oN (Obj.tbLockState t) with
  | 1 => s.tbTrackLock t pe timeSynced
  | 2 =>
    if s.cN (Obj.tbLossThreshold t) < pe.natAbs then
      let run := (s.tbx t).lossRun + 1
      if 4 ≤ run then ((s.tbState t 4).incSat (Obj.tbLossCount t)).raise FC.tbLost t
      else s.tbMod t (fun x => { x with lossRun := run })
    else s.tbMod t (fun x => { x with lossRun := 0 })
  | 3 => s.tbState t 2
  | 4 => (s.tbState t 1).tbMod t (fun x => { x with lockRun := 0, travel := none })
  | _ => s

/-- A source update (R90): a valid one carries the source's angle in au, its speed, tick_now − tick_sample and, for a
remote partner, the revolution count. DESIGN CHOICE (log 73): the update that sets the angle writes 0 to TbPhaseError; an update
within a slew window starts the window afresh on its own error; a step not yet taken gives way to the new update's. -/
def State.tbUpdate (t : Nat) (valid : Bool) (theta : Nat) (speed : Int) (age : Int) (revs : Option Nat) (s : State) : State :=
  let st := s.oN (Obj.tbLockState t)
  if st = 0 then s
  else
    let s := s.inc32 (Obj.tbUpdateCount t)
    if s.cN (Obj.tbSource t) = 3 then (if valid then s.setSourceSpeed t speed else s)
    else if ¬ valid then
      let s := if st = 1 then s.tbMod t (fun x => { x with lockRun := 0, travel := none }) else s
      if st = 2 then ((s.tbState t 4).incSat (Obj.tbLossCount t)).raise FC.tbLost t else s
    else
      let s := s.setSourceSpeed t speed
      let proj : Int := (theta : Int) * 65536 + s.o (Obj.tbSpeed t) * age
      if (s.tbx t).first then
        let s := match revs with
          | some r => s.putAngle t proj r
          | none => s.putAngle t (proj % (revUnits : Int)) (s.oN (Obj.tbRevolutions t))
        (s.put (Obj.tbPhaseError t) 0).tbMod t (fun x => { x with first := false })
      else
        let pe48 : Int := (proj - (s.tbAngle48 t : Int) + 140737488355328) % (revUnits : Int) - 140737488355328
        let pe := pe48 / 65536
        let s := (s.put (Obj.tbPhaseError t) pe).tbMod t (fun x => { x with jump := max x.jump pe.natAbs })
        let s := if s.cN (Obj.tbStepThreshold t) ≤ pe.natAbs then s.tbMod t (fun x => { x with slew := 0, slewLeft := 0, step := some pe })
          else s.tbMod t (fun x => { x with slew := pe48, slewLeft := s.cN (Obj.tbSlewWindow t), step := none })
        s.tbTrack t pe (s.oN Obj.devTimeState == 1)

/-! ## One tick (R90, R92, R100 to R104) -/

/-- The advance of one tick: speed plus the slew increment, never against the direction of motion and never beyond
2^28 au (R92). -/
def tickAdvance (speed slew : Int) (left : Nat) (back : Bool) : Int :=
  let inc := if slew = 0 then 0 else slew / ((max left 1 : Nat) : Int)
  let a := speed + inc
  if back then max (min a 0) (-speedLimit) else min (max a 0) speedLimit

/-- The rank of an action in R103's order. -/
def actionRank : Nat → Nat
  | 6 => 0 | 5 => 1 | 3 => 2 | 2 => 3 | 1 => 4 | 4 => 5 | 7 => 6 | _ => 7

/-- The fine edge into the tick at which a test pulse begins: floor(64 × (θ_k − previous) / (present − previous)) (R100). -/
def leadFe (off d : Nat) : Nat := if d = 0 then 0 else 64 * off / d

/-- Advance one timebase by a tick, and answer the occurrences crossed in it; a step that the last update left follows the
normal advance (R91, R101). -/
def State.tbTick (t : Nat) (s : State) : State × List Occ :=
  if s.oN (Obj.tbLockState t) = 0 then (s.tbMod t (fun y => { y with start := s.oN (Obj.tbAngle t), gone := 0 }), [])
  else
    let x := s.tbx t
    let speed := s.o (Obj.tbSpeed t)
    let adv := tickAdvance speed x.slew x.slewLeft x.back
    let a0 := s.oN (Obj.tbAngle t)
    let s := s.putAngle t ((s.tbAngle48 t : Int) + adv) (s.oN (Obj.tbRevolutions t))
    let s := s.tbMod t (fun y => { y with slew := x.slew - (adv - speed), slewLeft := x.slewLeft - 1, step := none, travel := y.travel.map (· + adv) })
    let a1 := s.oN (Obj.tbAngle t)
    let d := if x.back then (a0 + 4294967296 - a1) % 4294967296 else (a1 + 4294967296 - a0) % 4294967296
    let s := s.tbMod t (fun y => { y with start := a0, gone := d })
    let held := min x.wait d
    let s := if x.wait = 0 then s
      else (s.tbMod t (fun y => { y with wait := x.wait - held })).put (Obj.highWaterActive t) (if x.wait - held = 0 then 0 else 1)
    let from_ := if x.back then (a0 + 4294967296 - held) % 4294967296 else (a0 + held) % 4294967296
    let occs := (s.passedAll t from_ (d - held) x.back).map (fun o =>
      { o with off := s.tick * 4294967296 + held + o.off, lead := leadFe (held + o.off) d })
    (match x.step with
      | some pe => s.tbStep t pe
      | none => s, occs)

end Sys2Proof.Machine
end

