-- ==== Sys2Proof/Machine/Pwm.lean ====
section
/-! DEFINITION. Pulse generation (R110 to R135): groups, carriers and patterns as ideal edges that the position of the carrier crosses,
shadow commits and loads, omissions, bootstrap refresh, starting and stopping. Positions are in units of 2^-32 of a carrier period. -/

namespace Sys2Proof.Machine

/-- The channels of a group, by number. -/
def State.groupChans (s : State) (g : Nat) : List Nat :=
  if g < 16 then s.groupChannels g else (s.groupChannels g).map (· + 24)

/-- The group follows its carrier or pattern. -/
def State.switching (s : State) (g : Nat) : Bool := s.oN (Obj.groupState g) == 1

/-! ## Position (R114) -/

/-- One carrier period. -/
def periodUnits : Nat := 4294967296

/-- Position of a group's carrier at an angle, and now. -/
def State.posAt (s : State) (g th : Nat) : Nat :=
  ((th + periodUnits - s.cN (Obj.groupCarrierPhase g)) * s.cN (Obj.groupCarriersPerRev g)) % periodUnits
def State.groupPos (s : State) (g : Nat) : Nat := s.posAt g (s.oN (Obj.tbAngle (s.cN (Obj.groupTimebase g))))

/-- The direction in which the group's timebase moves: true for a falling angle. -/
def State.groupBack (s : State) (g : Nat) : Bool := (s.tbx (s.cN (Obj.groupTimebase g))).back

/-- The advance of a tick at the present speed: the speed in 2^-16 au/tk times the periods per revolution. -/
def State.groupPace (s : State) (g : Nat) : Nat :=
  (s.o (Obj.tbSpeed (s.cN (Obj.groupTimebase g)))).natAbs * s.cN (Obj.groupCarriersPerRev g) / 65536

/-- A length of the period in fine edges at the present speed; none while the angle stands still. -/
def State.lengthFe (s : State) (g d : Nat) : Option Nat := if s.groupPace g = 0 then none else some (64 * d / s.groupPace g)

/-- How far a position lies from the period start in the direction of motion. -/
def wayFrom (back : Bool) (pos shift : Nat) : Nat :=
  if back then (shift + periodUnits - pos) % periodUnits else (pos + periodUnits - shift) % periodUnits

/-- The fine edge nearest to `dist` of an advance of `d` in a tick, midway to the later one (R120). -/
def nearestFe (dist d : Nat) : Nat := if d = 0 then 64 else (128 * dist + d) / (2 * d)

/-! ## Ideal edges (R115, R121, R123, R125) -/

/-- An ideal edge of a channel's own period: which of the channel's edges it is, its position, and the switch state after and before
it as the position rises. -/
structure Edge where
  kind : Nat
  pos : Nat
  after : Nat
  before : Nat
  deriving DecidableEq, Repr

/-- The states of a channel while its carrier gives PUL 1 and PUL 0 (R121). -/
def onState (outputMode : Nat) : Nat := if outputMode = 2 then 1 else 2
def offState (outputMode : Nat) : Nat := if outputMode = 0 then 1 else 0

/-- The edges of a carrier form at a duty in units of 2^-24, by rising position: kind 0 begins the pulse, kind 1 ends it. At duty 0 the
two lie together and only the pulse's end is left; at duty 1 only its beginning (R115). -/
def carrierEdges (form outputMode duty : Nat) : List Edge :=
  let on := onState outputMode
  let off := offState outputMode
  if duty = 0 then [⟨1, if form = 1 then 2147483648 else 0, off, off⟩]
  else if 16777216 ≤ duty then [⟨0, 0, on, on⟩]
  else
    match form with
    | 1 => [⟨0, (16777216 - duty) * 128, on, off⟩, ⟨1, (16777216 + duty) * 128, off, on⟩]
    | 2 => [⟨0, 0, on, off⟩, ⟨1, duty * 256, off, on⟩]
    | _ => [⟨1, 0, off, on⟩, ⟨0, (16777216 - duty) * 256, on, off⟩]

/-! ## The pattern table (R123 to R126) -/

/-- Entry `n` of the active pattern table. -/
def State.patternEntry (s : State) (n : Nat) : Nat := s.mNat (domAddr Obj.patternTableShadow (8 * n)) 8

/-- First entry and length of a pattern. -/
def State.patternDir (s : State) (p : Nat) : Nat × Nat :=
  (s.mNat (domAddr Obj.patternDirectoryShadow (4 * p)) 2, s.mNat (domAddr Obj.patternDirectoryShadow (4 * p + 2)) 2)

/-- The (position, state) entries of one channel, the k-th of its group, in a pattern. -/
def State.patternFor (s : State) (p k : Nat) : List (Nat × Nat) :=
  let d := s.patternDir p
  (List.range d.2).filterMap (fun j =>
    let e := s.patternEntry (d.1 + j)
    if e / 2 ^ 32 % 32 = k then some (e % 4294967296, e / 2 ^ 40 % 4) else none)

/-- The switch state of a pattern entry in an output mode: the switch that a single-switch mode does not use stays off (R121). -/
def patternState (outputMode st : Nat) : Nat :=
  if outputMode = 0 ∨ st = onState outputMode then st else 0

/-- The edges of a channel's pattern entries; going back an entry gives the state of the one before it, cyclically (R125). -/
def patternEdges (outputMode : Nat) (l : List (Nat × Nat)) : List Edge :=
  let lastState := match l.getLast? with
    | some e => patternState outputMode e.2
    | none => 0
  (l.zipIdx.foldl (fun (acc : List Edge × Nat) e =>
    (acc.1 ++ [⟨e.2, e.1.1, patternState outputMode e.1.2, acc.2⟩], patternState outputMode e.1.2)) ([], lastState)).1

/-- The edges in force of the k-th channel of a group, by rising position. -/
def State.chanEdges (s : State) (g k c : Nat) : List Edge :=
  let om := s.cN (outputModeKey c)
  if s.cN (Obj.groupMode g) = 4 then patternEdges om (s.patternFor (s.grpx g).pattern k)
  else carrierEdges (s.cN (Obj.groupMode g)) om (s.chx c).duty

/-- The state that edges give at a position: the last one's at or before it, cyclically; both off without any (R115, R126). -/
def stateAt (es : List Edge) (pos : Nat) : Nat :=
  match (es.filter (fun e => e.pos ≤ pos)).getLast? with
  | some e => e.after
  | none =>
    match es.getLast? with
    | some e => e.after
    | none => 0

/-- An edge on the way: how far from the period start, which one, the state it calls for, and whether it stands for a pulse of duty 0. -/
structure Ahead where
  q : Nat
  kind : Nat
  st : Nat
  none_ : Bool
  deriving DecidableEq, Repr

/-- The edges of a channel in the order in which its group passes them in a period. -/
def State.ahead (s : State) (g k c : Nat) : List Ahead :=
  let back := s.groupBack g
  let l := (s.chanEdges g k c).map (fun e =>
    (⟨wayFrom back e.pos (s.chx c).shift, e.kind, if back then e.before else e.after, e.kind == 1 && e.after == e.before⟩ : Ahead))
  (if back then l.reverse else l).insertionSort (fun a b => a.q ≤ b.q)

/-! ## Short intervals (R121) -/

/-- What follows a place of the period, once round. -/
def roundFrom (es : List Ahead) (i : Nat) : List Ahead := es.drop (i + 1) ++ (es.take (i + 1)).map (fun e => { e with q := e.q + periodUnits })

/-- How far the state that begins at `q` lasts: to the first edge that calls for another one. -/
def lasts (rest : List Ahead) (q st : Nat) : Option Nat := (rest.find? (fun e => e.st != st)).map (fun e => e.q - q)

/-- An interval of R121 that is too short: a conduction below the minimum on-time after its gap, or in a single-switch mode a
non-conduction below the minimum off-time. -/
def tooShort (outputMode minOn minOff td prev new len : Nat) : Bool :=
  if new = 0 then outputMode != 0 && decide (len < minOff)
  else decide (len < minOn + (if outputMode ≠ 0 ∨ prev = 0 then 0 else td))

/-- The carrier or pattern calls for a state at fine edge `f`: not while a refresh runs, and never cutting the interval in course
below its minimum (R119, R121, R133). -/
def State.emit (c f new next : Nat) (s : State) : State :=
  let x := s.chx c
  if x.busy.isSome then s
  else
    let least := if x.st ≠ 0 ∧ (x.at f).2 then x.enaFe + s.cN (minOnKey c)
      else if x.st = 0 ∧ s.cN (outputModeKey c) ≠ 0 then x.lastFe + s.cN (minOffKey c) else 0
    s.switchTo c (max f least) new next false

/-- A call for a state that lasts to the next other edge: too short an interval is omitted with both of its edges, and counted. -/
def State.callFor (g c f q st : Nat) (rest : List Ahead) (s : State) : State :=
  let x := s.chx c
  if st = x.want then s
  else
    let short := match (lasts rest q st).bind (s.lengthFe g) with
      | some len => tooShort (s.cN (outputModeKey c)) (s.cN (minOnKey c)) (s.cN (minOffKey c)) (s.cN (Obj.groupDeadTime g)) x.want st len
      | none => false
    if short then (s.chMod c (fun x => { x with skip := true })).incSat (dropKey c)
    else
      let next := ((rest.find? (fun e => e.st != 0)).map Ahead.st).getD 0
      (s.chMod c (fun x => { x with want := st })).emit c f st next

/-- The group passes an edge: one that has been emitted in this period is done with (R119). -/
def State.cross (g c f : Nat) (e : Ahead) (rest : List Ahead) (s : State) : State :=
  let x := s.chx c
  if x.seen.testBit e.kind then s
  else
    let s := if e.none_ ∧ ¬ x.seen.testBit 0 then s else s.chMod c (fun x => { x with seen := setBit x.seen e.kind })
    if x.skip then s.chMod c (fun x => { x with skip := false }) else s.callFor g c f e.q e.st rest

/-- The edges that a group passes as it goes from `a` to `b` of its period, each at the fine edge that `feOf` gives. -/
def State.chanSpan (g k c a b : Nat) (feOf : Nat → Nat) (s : State) : State :=
  let es := s.ahead g k c
  (es.zipIdx.filter (fun p => decide (a < p.1.q) && decide (p.1.q ≤ b))).foldl (fun t p => t.cross g c (feOf p.1.q) p.1 (roundFrom es p.2)) s
def State.span (g a b : Nat) (feOf : Nat → Nat) (s : State) : State :=
  if ¬ s.switching g then s
  else ((s.groupChans g).zipIdx).foldl (fun t p => if t.drive p.1 == .switching then t.chanSpan g p.2 p.1 a b feOf else t) s

/-- The value of a shadow object in the set in force. -/
def State.loadedVal (s : State) (g k : Nat) : Nat := (((s.grpx g).loaded.lookup k).getD 0).toNat

/-! ## What an observer superposes (R245, R249, R250) -/

/-- An observer's hidden part. -/
def State.obsx (s : State) (o : Nat) : ObsX := s.obs.getD o {}
def State.obsMod (o : Nat) (f : ObsX → ObsX) (s : State) : State := { s with obs := modifyAt s.obs o f }

/-- An observer's channels by number. -/
def State.obsChans (s : State) (o : Nat) : List Nat := if o < 4 then s.obsChannels o else (s.obsChannels o).map (· + 24)

/-- The enabled observer of a channel, and the channel's phase. -/
def State.obsOf (s : State) (c : Nat) : Option (Nat × Nat) :=
  ((List.range 9).filter (fun o => s.cN (Obj.obsEnable o) == 1 && (o < 4 || !s.station || o == 8))).findSome? (fun o =>
    ((s.obsChans o).findIdx? (· == c)).map (fun x => (o, x)))

/-- The axis of a phase (R236). -/
def State.phaseAxis (s : State) (o x : Nat) : Nat :=
  ((x % 3) * 4294967296 / 3 + (if x < 3 then 0 else s.cN (Obj.obsSetDisplacement o))) % 4294967296

/-- The link voltage of an observer: VDC, or VOUT for actuators and the pump. -/
def State.obsLink (s : State) (o : Nat) : Rat :=
  if o < 4 then s.oF (Obj.vdcValue (s.cN (Obj.obsLinkInput o))) else s.oF (Obj.voutValue (s.cN (Obj.obsLinkInput o)))

/-- The duty that a voltage along an angle gives a phase; at a link of 0 V it is free. -/
def State.dutyAlong (s : State) (o x angle : Nat) (volts : Rat) : Rat :=
  if s.obsLink o = 0 then mkRat (Config.freeValue 1002 s.freeIx) 16777216
  else volts * F32.toRat (Config.cosF32 ((angle + 4294967296 - s.phaseAxis o x) % 4294967296)) / s.obsLink o

/-- The sign and direction of the test pulse in course: 0 after the last one. -/
def State.pulseNow (s : State) (o : Nat) : Int × Nat :=
  match (s.obsx o).pulseAt with
  | none => (0, 0)
  | some t0 =>
    let k := (s.mono - t0) / (s.cN (Obj.obsPolarityPulse o) * 1000)
    if s.cN (Obj.obsInjEnable o) = 1 then
      match k with
      | 0 | 3 => (1, s.oN (Obj.obsAngle o))
      | 1 | 2 => (-1, s.oN (Obj.obsAngle o))
      | _ => (0, 0)
    else if k < 24 then (if k % 2 = 0 then 1 else -1, (2 * (k / 2) + 1) * 4294967296 / 24)
    else (0, 0)

/-- The duty that a phase takes in place of the loaded one, as a fraction. -/
def State.superposed (s : State) (g o x : Nat) (duty : Rat) : Rat :=
  let r := s.oN (Obj.obsRegime o)
  let inj := (if (s.grpx g).injSign then 1 else -1 : Rat) * s.cF (Obj.obsInjVoltage o)
  if 3 ≤ r ∧ r ≤ 6 ∧ (s.obsx o).injecting then duty + s.dutyAlong o x (s.oN (Obj.obsAngle o)) inj
  else if r = 2 ∧ (s.obsx o).testing then
    match (s.obsx o).pulseAt with
    | none => mkRat 1 2 + (if s.cN (Obj.obsInjEnable o) = 1 then s.dutyAlong o x (s.oN (Obj.obsAngle o)) inj else 0)
    | some _ => mkRat 1 2 + s.dutyAlong o x (s.pulseNow o).2 (((s.pulseNow o).1 : Rat) * s.cF (Obj.obsPolarityVoltage o))
  else duty

/-- The duty in force of a channel: the loaded one, with what an observer superposes, limited to 0 to 1 (R245). -/
def State.dutyInForce (s : State) (g c : Nat) : Nat :=
  let d := s.loadedVal g (dutyKey c)
  match s.obsOf c with
  | none => d
  | some (o, x) =>
    let q := s.superposed g o x (mkRat d 16777216)
    (F32.roundEven (max 0 (min 1 q) * 16777216)).toNat

/-! ## Commits and loads (R118, R119, R126) -/

/-- The shadow objects of a group. -/
def State.shadowKeys (s : State) (g : Nat) : List Nat :=
  (s.groupChans g).flatMap (fun c => if c < 24 then [dutyKey c, phaseKey c] else [dutyKey c, phaseKey c, Obj.lvShadowOnTime (c - 24)]) ++
    [Obj.groupPattern g]

/-- The shadow values of a group as they stand. -/
def State.shadowSet (s : State) (g : Nat) : List (Nat × Int) := (s.shadowKeys g).map (fun k => (k, s.o k))

/-- A commit that has become loadable, one tk after it (R118). -/
def State.promote (g : Nat) (s : State) : State :=
  match (s.grpx g).next with
  | some (t, set) => if t < s.tick then s.grpMod g (fun x => { x with committed := set, fresh := true, next := none }) else s
  | none => s

/-- A commit: the shadow values become loadable as a whole in the next tick (R118). -/
def State.commit (g : Nat) (s : State) : State :=
  let s := s.promote g
  s.grpMod g (fun x => { x with next := some (s.tick, s.shadowSet g) })

/-- A set that one of the device's own blocks prepares for the load of this very period start (DEDUCED, log 74). -/
def State.commitNow (g : Nat) (s : State) : State :=
  let s := s.promote g
  s.grpMod g (fun x => { x with committed := s.shadowSet g, fresh := true })

/-- The pattern that the last committed set selects. -/
def State.selected (s : State) (g : Nat) : Nat := (((s.grpx g).committed.lookup (Obj.groupPattern g)).getD 0).toNat

/-- The load selects an empty pattern, so it is not taken (R126). -/
def State.emptyPick (s : State) (g : Nat) : Bool := s.cN (Obj.groupMode g) == 4 && (s.patternDir (s.selected g)).2 == 0

/-- A load of the last committed set: all channels in one tick (R118, R126). -/
def State.takeSet (g : Nat) (s : State) : State :=
  let s := s.promote g
  if s.emptyPick g then (s.incSat Obj.patternSelectRefusedCount).raise FC.pwmPatternsel g
  else
    let s := if (s.grpx g).fresh then s else s.incSat (Obj.groupStaleLoadCount g)
    (s.grpMod g (fun x => { x with loaded := x.committed, fresh := false, injSign := !x.injSign, pattern := s.selected g })).put
      (Obj.groupLastLoadTime g) s.now

/-- The bits of the edges that lie at or behind a place of the period. -/
def behindBits (es : List Ahead) (u : Nat) : Nat := (es.filter (fun e => e.q ≤ u)).foldl (fun m e => setBit m e.kind) 0

/-- A channel takes the set in force at the place `u` of the period: an edge still to come takes its new place, and one whose new place
lies behind is emitted at fine edge `f` (R119). With `afresh` the channel takes the state that the new set gives there: at a start, under
another pattern, and at a period start after a duty of 0 or 1, which has no edge to move (R113, R115, R126). -/
def State.loadChan (g k c u f : Nat) (afresh start : Bool) (s : State) : State :=
  let old := (s.chx c).duty
  let d := s.dutyInForce g c
  let sh := (s.cN (carrierOffsetKey c) + s.loadedVal g (phaseKey c)) % periodUnits
  let s := s.chMod c (fun x => { x with duty := d, shift := sh, skip := false })
  let es := s.ahead g k c
  let from_ := es.length - (es.filter (fun e => u < e.q)).length
  let rest := roundFrom es (from_ - 1)
  let rest := if from_ = 0 then es else rest
  if afresh ∨ (start ∧ s.cN (Obj.groupMode g) ≠ 4 ∧ (old = 0 ∨ 16777216 ≤ old)) then
    let p := if s.groupBack g then (sh + periodUnits - u) % periodUnits else (sh + u) % periodUnits
    (s.chMod c (fun x => { x with seen := behindBits es u })).callFor g c f u (stateAt (s.chanEdges g k c) p) rest
  else
    let due := es.filter (fun e => decide (e.q ≤ u) && !(s.chx c).seen.testBit e.kind)
    match due.getLast? with
    | none => s
    | some e =>
      let keep := due.filter (fun e => !(e.none_ && !(s.chx c).seen.testBit 0))
      (s.chMod c (fun x => { x with seen := keep.foldl (fun m e => setBit m e.kind) x.seen })).callFor g c f u e.st rest

/-- Every channel of a group takes the set in force. -/
def State.loadChans (g u f : Nat) (afresh start : Bool) (s : State) : State :=
  if ¬ s.switching g ∨ s.cN (Obj.groupMode g) = 5 then s
  else ((s.groupChans g).zipIdx).foldl (fun t p => if t.drive p.1 == .switching then t.loadChan g p.2 p.1 u f afresh start else t) s

/-- How far into its period a group is. -/
def State.groupDone (s : State) (g : Nat) : Nat := wayFrom (s.groupBack g) (s.grpx g).pos 0

/-- A load inside the period at fine edge `f`, with the group at `u` of it (R119, R126). -/
def State.loadAt (g u f : Nat) (s : State) : State :=
  let p0 := (s.grpx g).pattern
  let s := s.promote g
  let refused := s.emptyPick g
  let s := s.takeSet g
  if refused then s else s.loadChans g u f (decide ((s.grpx g).pattern ≠ p0)) false

/-- A SHADOW_LOAD: its edges come from the first fine edge after the tick (R119). -/
def State.loadGroup (g : Nat) (s : State) : State := s.loadAt g (s.groupDone g) (s.feNow + 1)

/-- The angle of a group's timebase has moved otherwise than by the advance of a tick: every channel takes the state that the new
position gives, and no edge or period start lies between (DESIGN CHOICE, log 74). -/
def State.resync (g u f : Nat) (s : State) : State := s.loadChans g u f true false

/-! ## Who owns a group, and whether it may switch (R51, R113, R587) -/

/-- The functions whose claimed channels a group holds (R587). -/
def State.groupFns (s : State) (g : Nat) : List Fn :=
  let ch := s.groupChannels g
  let has := fun (l : List Nat) => ch.any (fun n => l.contains n)
  if g < 16 then
    if s.station then
      (if has ((List.range 24).filter (fun n => (s.cN Obj.stFeChannels).testBit n) ++ (List.range 4).flatMap s.dabChannels) then [.stationPower] else [])
    else
      ((List.range 4).filter (fun m => s.cN (Obj.tracEnable m) == 1 && has (s.obsChannels m))).map Fn.traction ++
      (if s.oN Obj.wcTopology = 1 ∧ has s.windingChannels then [.winding] else []) ++
      (if s.oN Obj.wcTopology = 2 ∧ has s.boostChannels then [.inlet] else []) ++
      (if has (map8 (s.cN Obj.lvIsoChannels)) then [.lvConverter] else [])
  else if s.station then (if has (s.obsChannels 8) then [.cooling] else [])
  else
    (if ch.any (fun n => (s.cN Obj.lvPhaseMap).testBit n) then [.lvConverter] else []) ++
    ((List.range 4).filter (fun a => s.cN (Obj.gaEnable a) == 1 && has (s.obsChannels (4 + a)))).map Fn.actuator

/-- The function under whose permission an unclaimed group switches: by its TbOwnerScope (R587). -/
def State.scopeFn (s : State) (g : Nat) : Fn :=
  match s.cN (Obj.tbOwnerScope (s.cN (Obj.groupTimebase g))) with
  | 0 => if s.station then .cooling else .actuator 0
  | 5 => .lvConverter
  | 6 => .stationPower
  | 7 => .cooling
  | n => .traction (n - 1)

/-- Whether a function's power stage may switch in a mode (R51: R and L). -/
def mayRun (f : Fn) (mode : Nat) : Bool :=
  match f with
  | .traction _ => mode == 3 || mode == 4 || mode == 10
  | .winding => mode == 5 || mode == 10
  | .inlet => mode == 6 || mode == 10
  | .lvConverter => (2 ≤ mode && mode ≤ 6) || mode == 10
  | .actuator _ => (2 ≤ mode && mode ≤ 6) || mode == 10
  | .stationPower => mode == 7 || mode == 8 || mode == 10
  | .post => mode == 8
  | .cooling => mode == 7 || mode == 8 || mode == 10
  | _ => false

/-- A group that holds a brake chopper (R587). -/
def State.chopperGroup (s : State) (g : Nat) : Bool :=
  g < 16 && (s.groupChannels g).any (fun n => if s.station then s.cN Obj.stChopperChannel == n
    else (List.range 4).any (fun l => s.cN (Obj.tracChopperChannel l) == n))

/-- The functions that decide on a group. -/
def State.deciders (s : State) (g : Nat) : List Fn := if s.groupFns g = [] then [s.scopeFn g] else s.groupFns g

/-- The mode permits the group to switch: R51 with the exceptions of R44 and R587. -/
def State.modePermits (s : State) (g : Nat) : Bool :=
  (s.deciders g).any (fun f => mayRun f s.mode) ||
  (s.chopperGroup g && 2 ≤ s.mode && s.mode ≤ 10 && s.mode != 9) ||
  (s.mode == 2 && s.oN Obj.modeTarget == 3 && (s.groupFns g).any (fun f => match f with | .traction _ => true | _ => false))

/-- A function that stands by in M2 and runs limited in M10: its switching is a test drive (R48). -/
def testDriveFn : Fn → Bool
  | .traction _ => true
  | .winding => true
  | .inlet => true
  | .stationPower => true
  | .post => true
  | .cooling => true
  | _ => false

/-- A test drive runs: a group of one of those functions is switching or in a reaction (R48). -/
def State.testDriveOn (s : State) (except : Nat) : Bool :=
  allGroups.any (fun g => g != except && (s.oN (Obj.groupState g) == 1 || s.oN (Obj.groupState g) == 2) &&
    (s.deciders g).any testDriveFn)

/-! ## Stopping and starting -/

/-- One channel to pulse-off, PUL and ENA low; an armed HB channel goes idle (R113, R134, R160). -/
def State.chanOff (c : Nat) (s : State) : State :=
  let s := (s.setDrive c .pulseOff).chMod c (fun x => { x with rearm := false })
  if c < 24 ∧ s.oN (Obj.hbProtState c) = 1 then s.put (Obj.hbProtState c) 0 else s

/-- A group at pulse-off, armed or switching (R113): a reaction or the island's override in force stays (R133). -/
def State.groupOff (g : Nat) (s : State) : State :=
  if s.switching g then ((s.forAll (s.groupChans g) State.chanOff).put (Obj.groupState g) 0).forAll (s.gaOfGroup g) State.gaLost
  else if s.oN (Obj.groupState g) = 0 then
    s.forAll ((s.groupChans g).filter (fun c => c < 24 && s.oN (Obj.hbProtState c) == 1)) (fun c => State.put (Obj.hbProtState c) 0)
  else s

/-- Supplies that a channel uses: both, upper or lower by its output mode (R147). -/
def State.usedSupplies (s : State) (n : Nat) : List Nat :=
  match s.cN (Obj.hbOutputMode n) with
  | 1 => [2 * n]
  | 2 => [2 * n + 1]
  | _ => [2 * n, 2 * n + 1]

/-- The gate-drive conditions for a run request (R147). -/
def State.gateReady (s : State) (g : Nat) : Bool :=
  g ≥ 16 || (s.groupChannels g).all (fun n =>
    (s.usedSupplies n).all (fun k => s.oN (Obj.gsState k) == 3) && (s.oN (Obj.hbProtState n) == 0 || s.oN (Obj.hbProtState n) == 1) &&
    (s.mode != 10 || s.cN (Obj.hbCurrentInput n) != 0xFF))

/-- A run request's conditions (R113), and M10's one group at a time (R48). -/
def State.mayStart (s : State) (g : Nat) : Bool :=
  s.oN (Obj.tbLockState (s.cN (Obj.groupTimebase g))) == 2 && s.modePermits g && s.gateReady g && s.cN (Obj.groupMode g) != 0 &&
  (s.oN (Obj.groupState g) == 0 || s.oN (Obj.groupState g) == 1) && (s.mode != 10 || !s.testDriveOn g)

/-- A regime-2 test begins: injection settles first, or the twelve pulses begin at once (R249, R250). -/
def State.testBegin (o : Nat) (s : State) : State :=
  let now := s.mono
  let inj := s.cN (Obj.obsInjEnable o) == 1
  s.obsMod o (fun x => { x with testing := true, trackFrom := none, peaks := List.replicate 12 0, pulseAt := if inj then none else some now })

/-- An observer that has found standstill enters regime 2 when its groups first switch, and a test that waits begins
(R248 to R251). -/
def State.obsGroupStart (g o : Nat) (s : State) : State :=
  if (s.obsChans o).any (fun c => (s.groupChans g).contains c) && s.cN (Obj.obsEnable o) == 1 && !(s.obsx o).abandoned then
    if s.oN (Obj.obsRegime o) = 1 ∧ (s.obsx o).standstill then (s.put (Obj.obsRegime o) 2).testBegin o
    else if s.oN (Obj.obsRegime o) = 2 then s.testBegin o
    else s
  else s

/-- The lower switch of a bootstrap channel conducts for LvBstPrecharge before the upper one may, where its supply is low at a start (R129). -/
def State.precharge (f n : Nat) (s : State) : State :=
  let c := 24 + n
  if s.cN (Obj.lvBootstrap n) = 1 ∧ s.oF (Obj.lvBstValue n) < s.cF (Obj.lvBstRefreshLevel n) then
    let s := s.switchTo c f 1 0 false
    s.chMod c (fun x => { x with busy := some (x.enaFe + s.cN (Obj.lvBstPrecharge n)) })
  else s

/-- The group begins to switch at fine edge `f`, `u` into its period: the last committed set is loaded whatever GroupAutoLoad selects
(R113). -/
def State.startGroup (g u f : Nat) (s : State) : State :=
  let s := (s.takeSet g).put (Obj.groupState g) 1
  let s := s.forAll (List.range 9) (State.obsGroupStart g)
  let s := s.forAll (s.groupChans g) (fun c t =>
    let t := (t.setDrive c .switching).chMod c (fun x =>
      { x with want := x.st, sched := [], busy := none, testPulse := none, refreshRun := 0, bstLow := 0, lowOk := false })
    if c < 24 then t.put (Obj.hbProtState c) 1 else t)
  let s := if g < 16 ∨ s.cN (Obj.groupMode g) = 5 then s else s.forAll (s.groupChannels g) (State.precharge f)
  let p := s.groupPos g
  (s.grpMod g (fun x => { x with pos := p, back := s.groupBack g })).loadChans g u f true false

/-! ## Bootstrap (R128 to R130) -/

/-- LVn_BST sampled as LvBstValue holds it: the under-voltage run. -/
def State.bstJudge (n : Nat) (s : State) : State :=
  let low := decide (s.oF (Obj.lvBstValue n) < s.cF (Obj.lvBstUvThreshold n))
  s.chMod (24 + n) (fun x => { x with bstLow := if low then x.bstLow + 1 else 0 })

/-- The longest lower conduction that the set in force plans for a period, less its gap, in fine edges (R128). -/
def State.lowerPlanned (s : State) (g k c : Nat) : Nat :=
  let es := s.ahead g k c
  let gap := if s.cN (outputModeKey c) = 0 then s.cN (Obj.groupDeadTime g) else 0
  let whole := (s.lengthFe g periodUnits).getD 0
  if es.all (fun e => e.st == 1) ∧ es ≠ [] then whole
  else (es.zipIdx.filter (fun p => p.1.st == 1)).foldl (fun m p =>
    max m (((lasts (roundFrom es p.2) p.1.q 1).bind (s.lengthFe g)).getD 0 - gap)) 0

/-- A refresh at a period start, where the count of periods without an adequate lower interval would reach LvRefreshPeriods in it, or
the supply is below LvBstRefreshLevel (R128, R129). -/
def State.refreshChan (g f k n : Nat) (s : State) : State :=
  let c := 24 + n
  if s.cN (Obj.lvBootstrap n) ≠ 1 ∨ (s.chx c).busy.isSome ∨ s.drive c ≠ .switching then s
  else
    let x := s.chx c
    let time := s.cN (Obj.lvRefreshTime n)
    let going := x.st == 1 && (match x.onFor f with | some len => decide (time ≤ len) | none => false)
    let run := if x.lowOk ∨ going then 0 else x.refreshRun + 1
    let due := decide (s.oF (Obj.lvBstValue n) < s.cF (Obj.lvBstRefreshLevel n)) ||
      (decide (s.lowerPlanned g k c < time) && decide (s.cN (Obj.lvRefreshPeriods n) ≤ run + 1))
    let s := s.chMod c (fun x => { x with refreshRun := run, lowOk := false })
    if due then
      let was := x.st
      let s := (s.switchTo c f 1 0 false).inc32 (Obj.lvRefreshCount n)
      s.chMod c (fun x => { x with busy := some ((if was = 1 then f else x.enaFe) + time) })
    else s

end Sys2Proof.Machine
end

