-- ==== Sys2Proof/Machine/GateDrive.lean ====
section
/-! DEFINITION. Gate supplies and power-stage protection (R136 to R163): supply start-up and supervision, protection
events, reactions, retry and latching. -/

namespace Sys2Proof.Machine

/-! ## Supplies (R143 to R149) -/

/-- A gate supply's hidden part. -/
def State.supx (s : State) (k : Nat) : SupplyX := s.sup.getD k {}
def State.supMod (k : Nat) (f : SupplyX → SupplyX) (s : State) : State := { s with sup := modifyAt s.sup k f }

/-- A supply's state and what drives its ball (R162); while the ball is low its duty is 0. -/
def State.gsPut (k st : Nat) (s : State) : State :=
  let d : SupplyDrive := if st = 2 ∨ st = 3 ∨ st = 4 then .regulated else if st = 6 then .keeper else .low
  let s := ((s.setGs k d).put (Obj.gsState k) st).supplyReady (k / 2)
  let s := s.supMod k (fun x => { x with low := 0, good := 0, high := 0 })
  if d = .low then (s.put (Obj.gsDuty k) 0).supMod k (fun x => { x with phase := 0, sampleAt := none }) else s

/-- The enabled supplies of a pair (R145). -/
def State.pairSupplies (s : State) (n : Nat) : List Nat := [2 * n, 2 * n + 1].filter (fun k => s.cN (Obj.gsEnable k) == 1)

/-- The supplies of a pair that still have to start: enabled and neither ready nor running. -/
def State.pairToStart (s : State) (n : Nat) : List Nat :=
  (s.pairSupplies n).filter (fun k => [0, 1, 7].contains (s.oN (Obj.gsState k)))

/-- The next pair of the start-up asks for leave; a Safety request waits only for its grant of at most 2 µs (R145). -/
def State.nextPair : Nat → State → State
  | 0, s => s
  | fuel + 1, s =>
    match s.gsx.queue with
    | [] => { s with gsx := { s.gsx with busy := none } }
    | n :: rest =>
      let s := { s with gsx := { queue := rest, busy := some n } }
      if s.pairToStart n = [] then s.nextPair fuel
      else
        let s := s.forAll (s.pairToStart n) (fun k => State.gsPut k 1)
        let e : LeaveEntry := { op := .gatePair (Fin.ofNat 24 n), since := s.mono }
        ({ s with leave := { s.leave with waiting := s.leave.waiting ++ [e] } }).leaveShow

/-- Start the enabled supplies of some pairs, one pair at a time in ascending number (R145). -/
def State.startSupplies (pairs : List Nat) (s : State) : State :=
  let q := (List.range 24).filter (fun n => (s.gsx.queue.contains n || pairs.contains n) && s.pairToStart n != [])
  let s := { s with gsx := { s.gsx with queue := q } }
  if s.gsx.busy.isSome then s else s.nextPair 25

/-- The grant of a pair's leave: the soft start begins (R145). -/
def State.pairGranted (n : Nat) (s : State) : State :=
  let now := s.tick
  s.forAll ((s.pairSupplies n).filter (fun k => s.oN (Obj.gsState k) == 1)) (fun k t =>
    (t.gsPut k 2).supMod k (fun x => { x with since := now, phase := 0, sampleAt := none }))

/-- The target of a supply's regulation: in the soft start it rises from 0 V over GsSoftStart (R145). -/
def State.gsTarget (s : State) (k : Nat) : Rat :=
  let v := s.cF (Obj.gsTargetVoltage k)
  if s.oN (Obj.gsState k) = 2 then v * min 1 (mkRat ((s.tick - (s.supx k).since) * 125) (s.cN (Obj.gsSoftStart k) * 10000)) else v

/-- The duty of the cycle that begins, as the regulation takes it from the target and the sensed voltage, never beyond GsDutyMax; the
duties of the last millisecond are kept for their mean (R143, R148). -/
def State.gsRegulate (k : Nat) (s : State) : State :=
  let d := F32.ofRat (max 0 (min (Config.gateDuty (s.gsTarget k) (s.oF (Obj.gsVoltage k)) s.freeIx) (mkRat (s.cN (Obj.gsDutyMax k)) 100)))
  let now := s.tick
  ((s.put (Obj.gsDuty k) d).supMod k (fun x => { x with duties := x.duties.filter (fun p => decide (now < p.1 + 80000)) ++ [(now, d)] })).fresh

/-- The mean regulated duty of the last millisecond (R148). -/
def State.meanDuty (s : State) (k : Nat) : Rat :=
  let l := (s.supx k).duties.filter (fun p => decide (s.tick < p.1 + 80000))
  if l = [] then s.oF (Obj.gsDuty k) else (l.map (fun p => F32.toRat p.2)).sum / (l.length : Rat)

/-- A voltage passes lock-out: above GsUvloThreshold and its hysteresis (R145, R146). -/
def State.aboveLock (s : State) (k : Nat) (v : Rat) : Bool := decide (s.cF (Obj.gsUvloThreshold k) + s.cF (Obj.gsUvloHysteresis k) < v)

/-- The supplies of a pair that are starting. -/
def State.pairStarting (s : State) (n : Nat) : List Nat := (s.pairSupplies n).filter (fun k => s.oN (Obj.gsState k) == 2)

/-- GS_PAIR_READY: every supply of the pair that starts has passed lock-out; the pair's leave goes back and the next pair starts. -/
def State.pairReady (n startUs v0 v1 : Nat) (s : State) : State :=
  let ks := s.pairStarting n
  let volts (k : Nat) : Nat := if k % 2 = 0 then v0 else v1
  if s.up ∧ s.gsx.busy = some n ∧ ks ≠ [] ∧ ks.all (fun k => s.aboveLock k (F32.toRat (volts k))) then
    let s := s.forAll ks (fun k t =>
      (((t.gsPut k 3).put (Obj.gsStartTime k) (min startUs 200 : Nat)).put (Obj.gsVoltage k) (volts k : Nat)).gsRegulate k)
    (s.leaveBack (.gatePair (Fin.ofNat 24 n))).nextPair 25
  else s

/-- GS_PAIR_READY. -/
def execGsPairReady (pair : Fin 24) (startUs : Nat) (v0 v1 : BitVec 32) (s : State) : Host.Outcome State Fault Refusal :=
  .next (s.pairReady pair.val startUs v0.toNat v1.toNat)

/-- A pair not ready within 200 µs of its grant is stopped, and the next pair starts; a supply that runs already stays (R145). -/
def State.pairFailed (n : Nat) (s : State) : State :=
  if s.up ∧ s.gsx.busy = some n then
    let s := s.forAll ((s.pairSupplies n).filter (fun k => [1, 2].contains (s.oN (Obj.gsState k)))) (fun k => State.gsPut k 7)
    ((s.raise FC.gdGsstart n).leaveBack (.gatePair (Fin.ofNat 24 n))).nextPair 25
  else s

/-- GD_GSSTART. -/
def execGdGsstart (pair : Fin 24) (s : State) : Host.Outcome State Fault Refusal := .next (s.pairFailed pair.val)

/-- The release of supplies by the island: a keeper passes to regulation, every other one starts under R145. -/
def State.releaseSupplies (channels : List Nat) (s : State) : State :=
  let ks := channels.flatMap (fun n => [2 * n, 2 * n + 1])
  let s := s.forAll (ks.filter (fun k => s.oN (Obj.gsState k) == 6)) (fun k t =>
    if t.cN (Obj.gsEnable k) = 0 then t.gsPut k 0
    else (if t.aboveLock k (t.oF (Obj.gsVoltage k)) then t.gsPut k 3 else t.gsPut k 4).gsRegulate k)
  s.startSupplies channels

/-! ## Protection events (R150 to R160) -/

/-- The channels of a channel's reaction domain (R151). -/
def State.domain (s : State) (n : Nat) : List Nat :=
  if s.cN (Obj.hbClass n) = 0 ∧ s.cN (Obj.hbMachine n) ≠ 0xFF then s.machineHbs (s.cN (Obj.hbMachine n))
  else match s.groupOfHb n with
    | some g => s.groupChannels g
    | none => [n]

/-- The domain is a machine's (R151). -/
def State.machineDomain (s : State) (n : Nat) : Bool := s.cN (Obj.hbClass n) == 0 && s.cN (Obj.hbMachine n) != 0xFF

/-- The ASC side of a cause: true for the upper side (R150). -/
def State.ascUpper (s : State) (n cause : Nat) : Bool :=
  if cause = 5 then s.cN (Obj.hbOcSide n) == 0 else cause % 2 == (if cause < 5 then 0 else 1)

/-- Every supply of one side of a domain is ready. -/
def State.sideReady (s : State) (dom : List Nat) (upper : Bool) : Bool :=
  dom.all (fun n => s.oN (Obj.gsState (if upper then 2 * n else 2 * n + 1)) == 3)

/-- The reaction of R151 from the events in force in the domain, and whether it is a leg conflict: 1 pulse-off, 2
ASC-upper, 3 ASC-lower. -/
def State.decideReaction (s : State) (n : Nat) : Nat × Bool :=
  let dom := s.domain n
  if ¬ s.machineDomain n then (1, false)
  else
    let sides := dom.flatMap (fun c => (s.chx c).causes.map (s.ascUpper c))
    if sides.contains true ∧ sides.contains false then (1, true)
    else
      let upper := sides.contains true
      if s.sideReady dom upper then (if upper then (2, false) else (3, false)) else (1, true)

/-- The drive of a reaction. -/
def reactionDrive : Nat → Drive
  | 2 => .ascUpper
  | 3 => .ascLower
  | _ => .pulseOff

/-- The mask of HbRetryEnable or the class default (R156): bit 0 desaturation, 1 hard short, 2 overcurrent, 3 supply. -/
def State.retryMask (s : State) (n : Nat) : Nat :=
  let e := s.cN (Obj.hbRetryEnable n)
  if s.cN (Obj.hbClass n) = 2 then 0
  else if e.testBit 7 then (if s.cN (Obj.hbClass n) = 0 then 12 else 15) else e % 16

/-- The bit of R156 and the fault of R163 of a cause. -/
def causeBit (cause : Nat) : Nat := if cause ≤ 2 then 0 else if cause ≤ 4 then 1 else if cause = 5 then 2 else 3
def causeFault (cause : Nat) : Nat :=
  if cause ≤ 2 then FC.gdDesat else if cause ≤ 4 then FC.gdHardshort else if cause = 5 then FC.gdOvercurrent
  else if cause ≤ 7 then FC.gdUvlo else FC.gdOvlo

/-- Retries of a channel that began within its window (R157). -/
def State.retriesNow (s : State) (n : Nat) : List Nat :=
  (s.chx n).retries.filter (fun t => s.mono - t < s.cN (Obj.hbRetryWindow n) * 1000000)

/-- GroupState 2 while a channel of the group is in channel state 2, 3 or 4 (R154); the island's override stays. -/
def State.showReaction (dom : List Nat) (s : State) : State :=
  s.forAll (hbGroups.filter (fun g => dom.any (fun n => (s.cN (Obj.groupChannels g)).testBit n))) (fun g t =>
    if t.oN (Obj.groupState g) = 3 then t
    else if (t.groupChannels g).any (fun n => [2, 3, 4].contains (t.oN (Obj.hbProtState n))) then t.put (Obj.groupState g) 2 else t)

/-- Apply a reaction to a domain: from one that is in force only the difference changes (R152). It ends a running test pulse (R154). -/
def State.applyReaction (dom : List Nat) (r : Nat) (s : State) : State :=
  s.forAll dom (fun n t =>
    let t := if t.drive n = reactionDrive r then t else t.setHb n (reactionDrive r)
    (t.put (Obj.hbReaction n) r).chMod n (fun x => { x with rearm := false }))

/-- A channel whose detectors and supplies count: switching, a test pulse included, in a reaction, waiting or latched, or under a reaction
that the island keeps (R140, R147, R152, R153; DEDUCED for the last, log 75). -/
def State.live_ (s : State) (n : Nat) : Bool :=
  s.hbDrive.getD n .pulseOff == .switching || [2, 3, 4].contains (s.oN (Obj.hbProtState n)) ||
    (s.oN (Obj.hbProtState n) == 5 && s.oN (Obj.hbReaction n) != 0)

/-- A channel of a domain that takes the outcome of another's event; the island's channels stay with it. -/
def State.followEvent (retry : Bool) (c : Nat) (s : State) : State :=
  let st := s.oN (Obj.hbProtState c)
  if st ≤ 1 then s.put (Obj.hbProtState c) (if retry then 2 else 4)
  else if st = 2 ∧ ¬ retry then s.put (Obj.hbProtState c) 4 else s

/-- A protection event of a channel that is live, or was when the event began (R151 to R160). -/
def State.protEvent (n cause : Nat) (s : State) : State :=
  let dom := s.domain n
  let s := (((s.put (Obj.hbLastCause n) cause).put (Obj.hbLastTripTime n) s.now).incSat (Obj.hbTripCount n)).chMod n
    (fun x => { x with causes := if x.causes.contains cause then x.causes else x.causes ++ [cause] })
  let d := s.decideReaction n
  let kept := s.retriesNow n
  let st := s.oN (Obj.hbProtState n)
  let retry := !d.2 && (s.retryMask n).testBit (causeBit cause) && kept.length < s.cN (Obj.hbRetryMax n) && st != 4 && st != 5
  let s := if retry then
      ((s.chMod n (fun x => { x with retries := kept ++ [s.mono] })).put (Obj.hbRetriesInWindow n) (min (kept.length + 1) 15 : Nat)).put (Obj.hbProtState n) 3
    else if st = 5 then s else s.put (Obj.hbProtState n) 4
  let s := s.forAll dom (fun c t => (t.chMod c (fun x => { x with secondWait := false })).followEvent retry c)
  let s := (s.applyReaction dom d.1).showReaction dom
  let s := if d.2 then s.raise FC.gdLegconflict n else s
  if retry then s.raise FC.gdRetry n else s.raise (causeFault cause) n

/-- The on-state voltage of the conducting switch from the switch node's and the link's: VDC − VSW for the upper, VSW for the lower
(R136). -/
def onVolts (upper : Bool) (vsw vdc : Rat) : Rat := if upper then vdc - vsw else vsw

/-- The on-state voltage of a channel's detector, with its peak (R136, R161). -/
def State.showOn (n v : Nat) (s : State) : State :=
  let s := (s.put (Obj.hbOnStateVoltage n) v).chMod n (fun x =>
    { x with lowOn := some (match x.lowOn with | some w => if F32.toRat v < F32.toRat w then v else w | none => v) })
  if s.oF (Obj.hbOnStatePeak n) < F32.toRat v then s.put (Obj.hbOnStatePeak n) v else s

/-- The cause of an event still present (R159): a desaturation or a hard short on a switch that conducts only. -/
def State.causeHolds (s : State) (n cause : Nat) : Bool :=
  if cause ≤ 4 then
    (s.chx n).ena && (decide (s.cF (Obj.hbDesatThreshold n) < s.oF (Obj.hbOnStateVoltage n)) ||
      decide (s.oF (Obj.vdcValue (s.cN (Obj.hbLinkInput n))) / 2 < s.oF (Obj.hbOnStateVoltage n)))
  else if cause = 5 then s.cN (Obj.hbCurrentInput n) != 0xFF && s.sdTripped.getD (s.cN (Obj.hbCurrentInput n)) false
  else
    let k := if cause = 6 ∨ cause = 8 then 2 * n else 2 * n + 1
    s.oN (Obj.gsState k) == (if cause ≤ 7 then 4 else 5)

/-- A waiting group goes to pulse-off and does not latch (R158). -/
def State.idleGroup (g : Nat) (s : State) : State :=
  let s := s.forAll (s.groupChannels g) (fun n t =>
    if [2, 3].contains (t.oN (Obj.hbProtState n)) then
      (((t.setHb n .pulseOff).put (Obj.hbProtState n) 0).put (Obj.hbReaction n) 0).chMod n (fun x => { x with causes := [], secondWait := false, rearm := false })
    else t)
  if s.oN (Obj.groupState g) = 2 then s.put (Obj.groupState g) 0 else s

/-- The outcome of a group whose retry wait ended with the cause gone (R158): the re-arm waits for the domain's next period start. -/
def State.afterWait (g : Nat) (s : State) : State :=
  if s.oN (Obj.groupRunRequest g) = 1 ∧ s.modePermits g then
    s.forAll (s.groupChannels g) (fun n => State.chMod n (fun x => { x with rearm := true, causes := [], secondWait := false }))
  else s.idleGroup g

/-- The end of a retry wait (R158): re-arm, idle, one more wait, or latch. -/
def State.retryWaitEnd (n : Nat) (s : State) : State :=
  let dom := s.domain n
  if ¬ s.up ∨ s.oN (Obj.hbProtState n) ≠ 3 ∨ dom.any (fun c => s.oN (Obj.hbProtState c) == 4 || s.oN (Obj.hbProtState c) == 5) then s
  else
    let present := dom.filter (fun c => (s.chx c).causes.any (s.causeHolds c))
    if present = [] then
      s.forAll (hbGroups.filter (fun g => dom.any (fun c => (s.cN (Obj.groupChannels g)).testBit c))) State.afterWait
    else if ¬ (s.chx n).secondWait then s.forAll dom (fun c => State.chMod c (fun x => { x with secondWait := true }))
    else
      let s := s.forAll dom (fun c => State.put (Obj.hbProtState c) 4)
      s.forAll present (fun c t => t.raise (causeFault ((t.chx c).causes.getLastD 1)) c)

/-- RETRY_WAIT_END. -/
def execRetryWaitEnd (hb : Fin 24) (s : State) : Host.Outcome State Fault Refusal := .next (s.retryWaitEnd hb.val)

/-- A used supply in under- or over-voltage while its channel switches or reacts is a protection event (R147). -/
def State.supplyEvent (k cause : Nat) (s : State) : State :=
  if (s.usedSupplies (k / 2)).contains k && s.live_ (k / 2) then s.protEvent (k / 2) cause else s

/-- A supply that has started: ready, in under-voltage or in over-voltage. -/
def State.gsStarted (s : State) (k : Nat) : Bool := [3, 4, 5].contains (s.oN (Obj.gsState k))

/-- Entry into under-voltage: the sensed voltage lies below GsUvloThreshold (R146, R147). -/
def State.gsUnder (k v : Nat) (s : State) : State :=
  if s.up ∧ s.oN (Obj.gsState k) = 3 ∧ F32.toRat v < s.cF (Obj.gsUvloThreshold k) then
    (((s.put (Obj.gsVoltage k) v).gsPut k 4).incSat (Obj.gsUvloCount k)).supplyEvent k (6 + k % 2)
  else s

/-- Leaving under-voltage (R146). -/
def State.gsUnderEnd (k v : Nat) (s : State) : State :=
  if s.up ∧ s.oN (Obj.gsState k) = 4 ∧ s.aboveLock k (F32.toRat v) then (s.put (Obj.gsVoltage k) v).gsPut k 3 else s

/-- Entry into over-voltage: the drive is held low (R146, R147). -/
def State.gsOver (k v : Nat) (s : State) : State :=
  if s.up ∧ (s.oN (Obj.gsState k) = 3 ∨ s.oN (Obj.gsState k) = 4) ∧ s.cF (Obj.gsOvloThreshold k) < F32.toRat v then
    ((s.put (Obj.gsVoltage k) v).gsPut k 5).supplyEvent k (8 + k % 2)
  else s

/-- The voltage has fallen below the target: regulation again, or under-voltage, which is an event of its own, if it has fallen that far
(R146, R147). -/
def State.gsOverEnd (k v : Nat) (s : State) : State :=
  if s.up ∧ s.oN (Obj.gsState k) = 5 ∧ F32.toRat v < s.cF (Obj.gsTargetVoltage k) then
    let s := s.put (Obj.gsVoltage k) v
    if F32.toRat v < s.cF (Obj.gsUvloThreshold k) then (((s.gsPut k 4).incSat (Obj.gsUvloCount k)).gsRegulate k).supplyEvent k (6 + k % 2)
    else (s.gsPut k 3).gsRegulate k
  else s

/-- A sample of GSs_SNS, taken as GsSenseRatio makes it; GsUvloFilter samples in a row decide (R144, R146). -/
def State.gsSample (k : Nat) (ball : Rat) (s : State) : State :=
  let v := F32.ofRat (max 0 (ball * s.cF (Obj.gsSenseRatio k)))
  let q := F32.toRat v
  let s := s.put (Obj.gsVoltage k) v
  let n := s.cN (Obj.gsUvloFilter k)
  let s := s.supMod k (fun x =>
    { x with
      low := if q < s.cF (Obj.gsUvloThreshold k) then min (x.low + 1) 16 else 0
      good := if s.aboveLock k q then min (x.good + 1) 16 else 0
      high := if s.cF (Obj.gsOvloThreshold k) < q then min (x.high + 1) 16 else 0 })
  let x := s.supx k
  if s.oN (Obj.gsState k) = 2 then
    if (s.pairStarting (k / 2)).all (fun j => decide (s.cN (Obj.gsUvloFilter j) ≤ (s.supx j).good)) then
      s.pairReady (k / 2) ((s.tick - x.since) / 80) (s.oN (Obj.gsVoltage (k / 2 * 2))) (s.oN (Obj.gsVoltage (k / 2 * 2 + 1)))
    else s
  else if n ≤ x.high then s.gsOver k v
  else if n ≤ x.low then s.gsUnder k v
  else if n ≤ x.good then s.gsUnderEnd k v
  else s

/-- One tick of a supply that is driven: its cycles at GsFrequency, and GSs_SNS sampled GsSampleDelay after each fall of GSs_DRV (R143,
R144); in over-voltage it goes on being read (R162). -/
def State.gsTick (k : Nat) (s : State) : State :=
  let st := s.oN (Obj.gsState k)
  if st < 2 ∨ 5 < st then s
  else
    let fr := s.cN (Obj.gsFrequency k)
    let ph := (s.supx k).phase + fr
    let s := if 80000000 ≤ ph then
        let s := if st = 5 then s else s.gsRegulate k
        let fall := (s.oF (Obj.gsDuty k) * 80000000 / (fr : Rat)).ceil.toNat + (s.cN (Obj.gsSampleDelay k) * 80 + 999) / 1000
        let now := s.tick
        s.supMod k (fun x => { x with phase := ph - 80000000, sampleAt := some (now + fall) })
      else s.supMod k (fun x => { x with phase := ph })
    if (s.supx k).sampleAt = some s.tick then
      let s := (s.supMod k (fun x => { x with sampleAt := none })).gsSample k (F32.toRat (Config.inputWord 800 k s.tick).toNat)
      if s.oN (Obj.gsState k) = 5 then s.gsOverEnd k (s.oN (Obj.gsVoltage k)) else s
    else s

/-- GS_UNDERVOLTAGE_END. -/
def execGsUndervoltageEnd (gs : Fin 48) (volts : BitVec 32) (s : State) : Host.Outcome State Fault Refusal :=
  .next (s.gsUnderEnd gs.val volts.toNat)

/-- GS_OVERVOLTAGE_END. -/
def execGsOvervoltageEnd (gs : Fin 48) (volts : BitVec 32) (s : State) : Host.Outcome State Fault Refusal :=
  .next (s.gsOverEnd gs.val volts.toNat)

/-- In M10 a test-drive current beyond ServiceCurrentLimit puts the switching group at pulse-off (R155). -/
def State.serviceLimit (n i : Nat) (s : State) : State :=
  match s.groupOfHb n with
  | none => s
  | some g =>
    if s.mode = 10 ∧ s.switching g ∧ s.cF (Obj.serviceCurrentLimit n) < |F32.toRat i| then
      ((s.groupOff g).put (Obj.groupRunRequest g) 0).raise FC.gdServicelimit n
    else s

/-- GD_SERVICELIMIT. -/
def execGdServicelimit (hb : Fin 24) (amps : BitVec 32) (s : State) : Host.Outcome State Fault Refusal :=
  .next (s.serviceLimit hb.val amps.toNat)

/-- A domain's re-arm at its next period start: the channels of one group follow their carrier again, if the group may still switch
(R158, R160). -/
def State.rearmGroup (g u f : Nat) (s : State) : State :=
  let chs := (s.groupChannels g).filter (fun n => (s.chx n).rearm && [2, 3].contains (s.oN (Obj.hbProtState n)))
  if g < 16 ∧ chs ≠ [] then
    if s.oN (Obj.groupRunRequest g) = 1 ∧ s.modePermits g then
      let s := s.forAll chs (fun n t => (t.put (Obj.hbReaction n) 0).chMod n (fun x => { x with rearm := false }))
      if s.oN (Obj.groupState g) = 2 then s.startGroup g u f else s
    else s.idleGroup g
  else s

/-- The ASC of a machine's reaction, in force or kept by the island, passes to pulse-off on every channel; the island's supplies stop with
it (R159, R273). -/
def State.ascToOff (m : Nat) (s : State) : State :=
  let asc := fun (n : Nat) (t : State) => t.hbDrive.getD n .pulseOff == .ascUpper || t.hbDrive.getD n .pulseOff == .ascLower
  let chs := (s.machineHbs m).filter (fun n => asc n s && (s.oN (Obj.hbReaction n) != 0 || s.isl.kept.contains m))
  s.forAll chs (fun n t =>
    let t := (t.setHb n .pulseOff).put (Obj.hbReaction n) 1
    if t.oN (Obj.hbProtState n) = 5 then (t.stopSupply (2 * n)).stopSupply (2 * n + 1) else t)

end Sys2Proof.Machine
end

