-- ==== Sys2Proof/Machine/Sensing.lean ====
section
/-! DEFINITION. Current, switch-voltage, link and general sensing (R164 to R186): calibrated values, engine input ports and
failure signatures. A raw value is what the converter read: the modulation value x of an SD input, the ball voltage of any
other, as an F32 word. -/

namespace Sys2Proof.Machine

/-- Write a last triggered value to an engine input port (R229). -/
def State.portPut (p v : Nat) (s : State) : State :=
  { s with ports := ((s.ports.filter (fun q => q.1 != p)) ++ (if v = 0 then [] else [(p, v)])).insertionSort (fun a b => a.1 ≤ b.1) }

/-- R77: raw × factory gain × (1 + gain trim) + factory offset + offset trim. -/
def calibrated (raw gain offset gainTrim offsetTrim : Rat) : Rat := raw * gain * (1 + gainTrim) + offset + offsetTrim

/-- The sensing converters run: M2 to M10 (R185). -/
def State.sensing (s : State) : Bool := s.up && 2 ≤ s.mode && s.mode ≤ 10

/-- The converters behind the sensing records. -/
def State.snxMod (f : SenseX → SenseX) (s : State) : State := { s with snx := f s.snx }
def State.vswx (s : State) (n : Nat) : VswX := s.snx.vsw.getD n {}
def State.vdcx (s : State) (n : Nat) : VdcX := s.snx.vdc.getD n {}
def State.sdx (s : State) (n : Nat) : SdX := s.snx.sd.getD n {}
def State.vswMod (n : Nat) (f : VswX → VswX) (s : State) : State := s.snxMod (fun x => { x with vsw := modifyAt x.vsw n f })
def State.vdcMod (n : Nat) (f : VdcX → VdcX) (s : State) : State := s.snxMod (fun x => { x with vdc := modifyAt x.vdc n f })
def State.sdMod (n : Nat) (f : SdX → SdX) (s : State) : State := s.snxMod (fun x => { x with sd := modifyAt x.sd n f })

/-- Gain and offset trims of an SD input for a window that began a number of ticks ago: those in force then (R186). -/
def State.sdTrims (s : State) (n ago : Nat) : Rat × Rat :=
  match (s.sdx n).trim with
  | some (t, g, o) => if s.tick < t + ago then (F32.toRat g, F32.toRat o) else (s.oF (Obj.sdGainTrim n), s.oF (Obj.sdOffsetTrim n))
  | none => (s.oF (Obj.sdGainTrim n), s.oF (Obj.sdOffsetTrim n))

/-- The value of an SD input from its modulation value over a window of some ticks: factory gain 1 and offset 0, and x between -1 and 1
(R165). -/
def State.sdAmpsIn (s : State) (n ago : Nat) (x : Rat) : Rat :=
  calibrated (max (-1) (min 1 x) * s.cF (Obj.sdFullScale n)) 1 0 (s.sdTrims n ago).1 (s.sdTrims n ago).2

/-- A main-filter value: its window is 48 modulator clocks, 192 ticks (R166). -/
def State.sdAmps (s : State) (n : Nat) (x : Rat) : Rat := s.sdAmpsIn n 192 x

/-- A value limited to 0 and a full scale. -/
def clampTo (hi q : Rat) : Rat := max 0 (min hi q)

/-- The value of a VSW input from its ball voltage (R77, R169). -/
def State.vswVolts (s : State) (n : Nat) (v : Rat) : Rat :=
  clampTo (s.vswScale n) (calibrated (v * s.cF (Obj.vswDividerRatio n)) (s.oF (Obj.calVswGain n)) (s.oF (Obj.calVswOffset n))
    (s.oF (Obj.vswGainTrim n)) (s.oF (Obj.vswOffsetTrim n)))

/-- The value of a VDC input from its ball voltage (R77, R174). -/
def State.vdcVolts (s : State) (n : Nat) (v : Rat) : Rat :=
  clampTo (s.vdcScale n) (calibrated (v * s.cF (Obj.vdcDividerRatio n)) (s.oF (Obj.calVdcGain n)) (s.oF (Obj.calVdcOffset n))
    (s.oF (Obj.vdcGainTrim n)) (s.oF (Obj.vdcOffsetTrim n)))

/-- The ball voltage of an AIN after trims (R178, R182). -/
def State.ainVolts (s : State) (n : Nat) (v : Rat) : Rat :=
  clampTo (mkRat 9 5) (calibrated v (s.oF (Obj.calAinGain n)) (s.oF (Obj.calAinOffset n)) (s.oF (Obj.ainGainTrim n)) (s.oF (Obj.ainOffsetTrim n)))

/-- AinValue of a ball voltage after trims: a scaled voltage, or an NTC temperature (R178). At the upper rail the
thermistor's resistance has no value and the temperature is free. -/
def State.ainOf (s : State) (n : Nat) (v : Rat) : Rat :=
  if s.cN (Obj.ainMode n) = 2 then
    if mkRat 9 5 ≤ v ∨ v ≤ 0 then mkRat (Config.freeValue 701 s.freeIx) 65536
    else
      let r := s.cF (Obj.ainPullup n) * v / (mkRat 9 5 - v)
      1 / (1 / mkRat 29815 100 + Config.ln (r / s.cF (Obj.ainNtcR25 n)) / s.cF (Obj.ainNtcBeta n)) - mkRat 27315 100
  else s.cF (Obj.ainScale n) * v + s.cF (Obj.ainOffset n)

/-- The ball voltages of the LV sense and output inputs after trims (R180, R182). -/
def State.isnVolts (s : State) (n : Nat) (v : Rat) : Rat :=
  clampTo (mkRat 3 2) (calibrated v (s.oF (Obj.calIsnGain n)) (s.oF (Obj.calIsnOffset n)) (s.oF (Obj.isnGainTrim n)) (s.oF (Obj.isnOffsetTrim n)))
def State.bstVolts (s : State) (n : Nat) (v : Rat) : Rat :=
  clampTo (mkRat 3 2) (calibrated v (s.oF (Obj.calBstGain n)) (s.oF (Obj.calBstOffset n)) (s.oF (Obj.bstGainTrim n)) (s.oF (Obj.bstOffsetTrim n)))
def State.voutVolts (s : State) (k : Nat) (v : Rat) : Rat :=
  clampTo (mkRat 3 2) (calibrated v (s.oF (Obj.calVoutGain k)) (s.oF (Obj.calVoutOffset k)) (s.oF (Obj.voutGainTrim k)) (s.oF (Obj.voutOffsetTrim k)))

/-! ## One sample of each class (R166 to R180); a disabled input delivers nothing (R186) -/

/-- The current has returned inside both fast thresholds by the hysteresis (R167). -/
def State.sdInside (s : State) (n : Nat) (i : Rat) : Bool :=
  decide (i ≤ s.cF (Obj.sdOcHigh n) - s.cF (Obj.sdOcHysteresis n)) && decide (s.cF (Obj.sdOcLow n) + s.cF (Obj.sdOcHysteresis n) ≤ i)

/-- A main-filter value of an SD input; a stuck input delivers its frozen value (R166, R183). -/
def State.sdSample (n : Nat) (x : Rat) (s : State) : State :=
  if s.cN (Obj.sdEnable n) = 0 then s
  else if s.oN (Obj.sdState n) = 1 then
    let w := F32.ofRat (s.sdAmps n x)
    ((s.put (Obj.sdValue n) w).put (Obj.sdTriggeredValue n) w).portPut n w
  else (s.put (Obj.sdTriggeredValue n) (s.o (Obj.sdValue n))).portPut n (s.oN (Obj.sdValue n))

/-- A volt-second window closes: sum and length reach the ports, and the next window begins (R170). -/
def State.windowClose (n sum len : Nat) (s : State) : State :=
  let s := s.vswMod n (fun x => { x with sum := 0, len := 0 })
  (((s.put (Obj.vswVoltSeconds n) sum).put (Obj.vswWindowLength n) len).portPut (0x40 + n) sum).portPut (0x60 + n) len

/-- A detector sample of a VSW input, closing its window in mode 1 (R169, R170). -/
def State.vswSample (n : Nat) (v : Rat) (sum len : Nat) (s : State) : State :=
  if s.cN (Obj.vswEnable n) = 0 then s
  else
    let w := F32.ofRat (s.vswVolts n v)
    let s := if mkRat 3 2 * mkRat 4095 4096 ≤ v then s.incSat (Obj.vswRangeCount n) else s
    let s := ((s.put (Obj.vswValue n) w).put (Obj.vswTriggeredValue n) w).portPut (0x20 + n) w
    if s.cN (Obj.vswWindowMode n) = 1 then s.windowClose n sum len else s

/-- A conversion of a link input: the latest value, and the extremes since they were read (R174). -/
def State.vdcTake (n w : Nat) (s : State) : State :=
  let lo := if (s.vdcx n).minEmpty ∨ F32.toRat w < s.oF (Obj.vdcMin n) then (w : Int) else s.o (Obj.vdcMin n)
  let hi := if s.oF (Obj.vdcMax n) < F32.toRat w then (w : Int) else s.o (Obj.vdcMax n)
  (((s.put (Obj.vdcValue n) w).put (Obj.vdcMin n) lo).put (Obj.vdcMax n) hi).vdcMod n (fun x =>
    { x with minEmpty := false, recent := (w :: x.recent).take 10 })

/-- The conversion that a SAMPLE takes. -/
def State.vdcTriggered (n w : Nat) (s : State) : State := (s.put (Obj.vdcTriggeredValue n) w).portPut (0x80 + n) w

/-- A conversion of a VDC input for a SAMPLE, with the mean of the last millisecond (R174). -/
def State.vdcSample (n : Nat) (v : Rat) (mean : Nat) (s : State) : State :=
  if s.cN (Obj.vdcEnable n) = 0 then s
  else
    let w := F32.ofRat (s.vdcVolts n v)
    ((s.vdcTake n w).put (Obj.vdcMean n) mean).vdcTriggered n w

/-- A conversion of an AIN input (R177, R178). -/
def State.ainTake (n : Nat) (v : Rat) (s : State) : State :=
  let b := s.ainVolts n v
  ((s.putF (Obj.ainValue n) (s.ainOf n b)).putF (Obj.ainBallVoltage n) b).fresh

/-- A conversion of an AIN input for a SAMPLE. -/
def State.ainSample (n : Nat) (v : Rat) (s : State) : State :=
  if s.cN (Obj.ainMode n) = 0 then s
  else
    let s := s.ainTake n v
    s.portPut (0x90 + n) (s.oN (Obj.ainValue n))

/-- A conversion of LVn_ISN (R180). -/
def State.isnSample (n : Nat) (v : Rat) (s : State) : State :=
  let i := s.cF (Obj.lvIsnGain n) * (s.isnVolts n v - s.cF (Obj.lvIsnZero n))
  let s := s.putF (Obj.lvIsnValue n) i
  if s.oF (Obj.lvIsnPeak n) < |i| then s.putF (Obj.lvIsnPeak n) |i| else s

/-- A conversion of LVn_BST (R180). -/
def State.bstSample (n : Nat) (v : Rat) (s : State) : State := s.putF (Obj.lvBstValue n) (s.cF (Obj.lvBstRatio n) * s.bstVolts n v)

/-- A conversion of VOUTk (R180). -/
def State.voutTake (k : Nat) (v : Rat) (s : State) : State := s.putF (Obj.voutValue k) (s.cF (Obj.voutRatio k) * s.voutVolts k v)

/-- A conversion of VOUTk for a SAMPLE. -/
def State.voutSample (k : Nat) (v : Rat) (s : State) : State :=
  let s := s.voutTake k v
  s.put (Obj.voutTriggeredValue k) (s.o (Obj.voutValue k))

/-- A SAMPLE occurrence of a class for the inputs of a mask (R99, R166 to R180). `extra` carries the volt-second sums of
class 1 and the 1 ms means of class 2; `len` is the window length in ticks. -/
def State.sampleClass (cls mask : Nat) (raw extra : Nat → Nat) (len : Nat) (s : State) : State :=
  if ¬ s.sensing then s
  else
    let q := fun n => F32.toRat (raw n)
    let ns := fun k => (List.range k).filter (fun n => mask.testBit n)
    match cls with
    | 0 => s.forAll (ns 32) (fun n => State.sdSample n (q n))
    | 1 => s.forAll (ns 24) (fun n => State.vswSample n (q n) (extra n) len)
    | 2 => s.forAll (ns 4) (fun n => State.vdcSample n (q n) (extra n))
    | 3 => s.forAll (ns 16) (fun n => State.ainSample n (q n))
    | 4 => s.forAll (ns 16) (fun n => State.isnSample n (q n))
    | 5 => s.forAll (ns 16) (fun n => State.bstSample n (q n))
    | 6 => s.forAll (ns 4) (fun n => State.voutSample n (q n))
    | _ => s

/-! ## Failure signatures (R183) -/

/-- SD_STUCK: the value freezes at the last output. -/
def State.sdStuck (n : Nat) (s : State) : State :=
  if s.sensing ∧ s.oN (Obj.sdState n) = 1 then (s.put (Obj.sdState n) 2).raise FC.snsSdstuck n else s

/-- SD_STUCK. -/
def execSdStuck (sd : Fin 32) (s : State) : Host.Outcome State Fault Refusal := .next (s.sdStuck sd.val)

/-- A main-filter output beyond SdRangeLimit is counted, and raises at its first occurrence per second (R183). -/
def State.sdRange (n : Nat) (x : Rat) (s : State) : State :=
  if s.sensing ∧ s.oN (Obj.sdState n) = 1 ∧ s.cF (Obj.sdRangeLimit n) < |x| then
    let s := (s.incSat (Obj.sdRangeCount n)).putF (Obj.sdValue n) (s.sdAmps n x)
    let due := match s.sdRaised.getD n none with
      | none => true
      | some t => decide (t + 1000000000 ≤ s.mono)
    if due then ({ s with sdRaised := s.sdRaised.set n (some s.mono) }).raise FC.snsSdrange n else s
  else s

/-- SD_OUT_OF_RANGE. -/
def execSdOutOfRange (sd : Fin 32) (x : BitVec 32) (s : State) : Host.Outcome State Fault Refusal :=
  .next (s.sdRange sd.val (F32.toRat x.toNat))

/-- The enabled inputs that take their bits on a clock (R164). -/
def State.clkUsers (s : State) (k : Nat) : List Nat :=
  (List.range 32).filter (fun n => s.cN (Obj.sdEnable n) == 1 && s.cN (Obj.sdClock n) == k)

/-- SDCLK_MISMATCH: every input on the clock enters state 3. -/
def State.clkFault (k : Nat) (s : State) : State :=
  if s.sensing ∧ s.clkUsers k ≠ [] then (s.forAll (s.clkUsers k) (fun n => State.put (Obj.sdState n) 3)).raise FC.snsSdclk k else s

/-- SDCLK_MISMATCH. -/
def execSdclkMismatch (clk : Fin 4) (s : State) : Host.Outcome State Fault Refusal := .next (s.clkFault clk.val)

/-- The highest switch-node sample of a channel's period exceeds its link's value by more than the margin (R175). -/
def State.aboveLink (s : State) (hb highest : Nat) : Bool :=
  let n := s.cN (Obj.hbLinkInput hb)
  decide (s.oF (Obj.vdcValue n) + s.cF (Obj.vdcPlausibilityMargin n) / 100 * s.vdcScale n < F32.toRat highest)

/-- VDC_IMPLAUSIBLE: the fourth such period in a row of one channel (R175). -/
def State.vdcImplausible (hb highest : Nat) (s : State) : State :=
  let n := s.cN (Obj.hbLinkInput hb)
  if s.sensing ∧ s.cN (Obj.vdcEnable n) = 1 ∧ s.aboveLink hb highest then (s.put (Obj.vdcState n) 2).raise FC.snsVdcimpl n else s

/-- VDC_IMPLAUSIBLE. -/
def execVdcImplausible (hb : Fin 24) (highest : BitVec 32) (s : State) : Host.Outcome State Fault Refusal :=
  .next (s.vdcImplausible hb.val highest.toNat)

/-- A carrier period of one channel is judged; the next period's highest sample starts afresh (R175). -/
def State.vdcJudge (hb highest : Nat) (s : State) : State :=
  let run := if s.aboveLink hb highest then (s.chx hb).implausible + 1 else 0
  let s := (s.chMod hb (fun x => { x with implausible := if run = 4 then 0 else run })).vswMod hb (fun x => { x with highest := 0 })
  if run = 4 then s.vdcImplausible hb highest else s

/-- VDC_FULL_SCALE: ten conversions in a row at full-scale code (R175). -/
def State.vdcFull (n : Nat) (s : State) : State :=
  if s.sensing ∧ s.cN (Obj.vdcEnable n) = 1 then
    ((s.put (Obj.vdcState n) 3).putF (Obj.vdcValue n) (s.vdcScale n)).raise FC.snsVdcrange n
  else s

/-- VDC_FULL_SCALE. -/
def execVdcFullScale (vdc : Fin 4) (s : State) : Host.Outcome State Fault Refusal := .next (s.vdcFull vdc.val)

/-- AinValue lies in its valid window. -/
def State.ainValid (s : State) (n : Nat) : Bool :=
  decide (s.cF (Obj.ainValidMin n) ≤ s.oF (Obj.ainValue n)) && decide (s.oF (Obj.ainValue n) ≤ s.cF (Obj.ainValidMax n))

/-- The 16th conversion in a row outside the window, or inside it (R178). -/
def State.ainRangeOut (n : Nat) (s : State) : State := if s.ainValid n then s else (s.put (Obj.ainState n) 2).raise FC.snsAinrange n
def State.ainRangeIn (n : Nat) (s : State) : State := if s.ainValid n then s.put (Obj.ainState n) 1 else s

/-- AIN_OUT_OF_WINDOW. -/
def execAinOutOfWindow (ain : Fin 16) (volts : BitVec 32) (s : State) : Host.Outcome State Fault Refusal :=
  .next (if s.sensing ∧ s.cN (Obj.ainMode ain) ≠ 0 then (s.ainTake ain (F32.toRat volts.toNat)).ainRangeOut ain else s)

/-- AIN_BACK_IN_WINDOW. -/
def execAinBackInWindow (ain : Fin 16) (volts : BitVec 32) (s : State) : Host.Outcome State Fault Refusal :=
  .next (if s.sensing ∧ s.cN (Obj.ainMode ain) ≠ 0 then (s.ainTake ain (F32.toRat volts.toNat)).ainRangeIn ain else s)

/-- 32 conversions in a row at a rail of LVn_ISN (0-15), LVn_BST (16-31) or VOUTk (32-35) (R180, R183). -/
def State.lvAtRail (input : Nat) (s : State) : State :=
  if ¬ s.sensing then s
  else if input < 16 then
    ((s.put (Obj.lvSenseState input) (setBit (s.oN (Obj.lvSenseState input)) 0 : Nat)).incSat (Obj.lvSenseRangeCount input)).raise FC.snsLvrange input
  else if input < 32 then
    let n := input - 16
    ((s.put (Obj.lvSenseState n) (setBit (s.oN (Obj.lvSenseState n)) 1 : Nat)).incSat (Obj.lvSenseRangeCount n)).raise FC.snsLvrange n
  else (s.incSat (Obj.voutRangeCount (input - 32))).raise FC.snsLvrange (input - 16)

/-- LV_SENSE_AT_RAIL. -/
def execLvSenseAtRail (input : Fin 36) (s : State) : Host.Outcome State Fault Refusal := .next (s.lvAtRail input.val)

end Sys2Proof.Machine
end

