-- ==== Sys2Proof/Machine/Engines.lean ====
section
/-! DEFINITION. The Hawkmoth control engines (R187 to R234): law slots and their scheduling, the snapshot, the instructions'
effects, supervision channels, the release, hand-over. Slot `n` is slot n % 8 of engine n / 8. -/

namespace Sys2Proof.Machine

/-- A slot's hidden part, and an engine's. -/
def State.slotx (s : State) (n : Nat) : SlotX := s.slots.getD n {}
def State.engx (s : State) (e : Nat) : EngX := s.eng.getD e {}
def State.slotMod (n : Nat) (f : SlotX → SlotX) (s : State) : State := { s with slots := modifyAt s.slots n f }
def State.engMod (e : Nat) (f : EngX → EngX) (s : State) : State := { s with eng := modifyAt s.eng e f }

/-- The engine runs: M2 to M10 (R217). -/
def State.engOn (s : State) : Bool := s.up && 2 ≤ s.mode && s.mode ≤ 10

/-- A record value in force for the slot's instance: from before a swap while an earlier instance runs (R209). -/
def State.recC (s : State) (n k : Nat) : Nat :=
  (if (s.slotx n).oldBank then (s.engx (n / 8)).oldRecs.get k else s.c k).toNat

/-- A word of the slot's program image, and of its constant region. -/
def State.bankWord (s : State) (n k w : Nat) : Nat :=
  leNat (bytesAt (if (s.slotx n).oldBank then (s.engx (n / 8)).oldBanks else s.mem) (domAddr k (4 * w)) 4)
def State.progWord (s : State) (n w : Nat) : Nat := s.bankWord n (Obj.programShadow (n / 8)) w

/-- A scratchpad word: constants below 0x1000, state above (R187). -/
def State.padWord (s : State) (n a : Nat) : Nat :=
  if a < 0x1000 then s.bankWord n (Obj.constantShadow (n / 8)) a else s.mNat (domAddr (Obj.stateLive (n / 8)) (4 * (a - 0x1000))) 4

/-- The slots of an engine. -/
def slotsOf (e : Nat) : List Nat := (List.range 8).map (· + 8 * e)

/-! ## Snapshot (R193, R207, R229) -/

/-- The angle travelled on a timebase, with its revolutions, au. -/
def State.travelled (s : State) (t : Nat) : Nat := s.oN (Obj.tbRevolutions t) * 4294967296 + s.oN (Obj.tbAngle t)

/-- Distance in the direction of motion from an earlier (angle, revolutions), au. -/
def State.distance (s : State) (t theta0 revs0 : Nat) : Nat :=
  let d : Int := (s.travelled t : Int) - (revs0 * 4294967296 + theta0 : Nat)
  let d := if (s.tbx t).back then -d else d
  (d % 18446744073709551616).toNat

/-- residual_k of a slot (R207). -/
def State.residual (s : State) (n k : Nat) : Nat :=
  let x := s.slotx n
  let span := s.recC n (Obj.slotHandoverSpan n)
  let d := s.distance (s.recC n (Obj.slotHandoverTimebase n)) x.theta0 x.revs0
  if ¬ x.residual ∨ span ≤ d then 0
  else F32.ofRat (F32.toRat (x.delta.getD k 0) * (1 - mkRat d span))

/-- The value that an input port has now for a slot. -/
def State.portNow (s : State) (n p : Nat) : Nat :=
  if p < 0x88 then (s.ports.lookup p).getD 0
  else if p < 0x90 then s.oN (Obj.vdcValue (p - 0x88))
  else if p < 0xA0 then (s.ports.lookup p).getD 0
  else if p < 0xB0 then s.oN (Obj.lvIsnValue (p - 0xA0))
  else if p < 0xC0 then s.oN (Obj.lvBstValue (p - 0xB0))
  else if p < 0x100 then s.oN (Obj.voutValue (p - 0xC0))
  else if p < 0x120 then
    let t := (p - 0x100) / 4
    match p % 4 with
    | 0 => s.oN (Obj.tbAngle t)
    | 1 => s.oN (Obj.tbFrequency t)
    | 2 => s.oN (Obj.tbRevolutions t)
    | _ => s.oN (Obj.tbLockState t)
  else if p = 0x120 then (s.slotx n).startArg
  else if p = 0x121 then (if (s.slotx n).first then 1 else 0)
  else if p = 0x122 then (s.slotx n).startAngle
  else if p = 0x123 then wrap32 s.tick
  else if p < 0x12C then (s.engx (n / 8)).copied.getD (p - 0x128) 0
  else if p < 0x130 then s.residual n (p - 0x12C)
  else match (s.slotx n).words.lookup p with
    | some v => v
    | none => s.mNat (domAddr (Obj.mailboxLive (n / 8)) (4 * (p - 0x140))) 4

/-- The input ports. -/
def inPorts : List Nat := (List.range 0x180).filter Isa.inPort

/-- The instance begins: the ports are fixed for its whole course, the first-instance flag is taken (R193, R210), and
residuals past their span end (R207). -/
def State.beginInstance (n : Nat) (s : State) : State :=
  let snap := inPorts.filterMap (fun p => if s.portNow n p = 0 then none else some (p, s.portNow n p))
  let x := s.slotx n
  let spent := s.recC n (Obj.slotHandoverSpan n) ≤ s.distance (s.recC n (Obj.slotHandoverTimebase n)) x.theta0 x.revs0
  (s.slotMod n (fun x => { x with snap := snap, first := false, residual := x.residual && !spent })).put (Obj.slotState n) 3

/-! ## Supervision channels (R211) -/

/-- A channel's counters and its record, shared by the engines' channels and the observers' own supervision. -/
structure SupResult where
  x : SupX
  st : Nat
  raise : Bool
  deriving DecidableEq, Repr

/-- One sample of a supervision channel: warm-up, implausible after `count` samples above, plausible again after `count`
at most half. -/
def supSample (x : SupX) (st : Nat) (r threshold : Rat) (count warmupNs now : Nat) : SupResult :=
  let st := if st = 0 ∨ st = 1 then (if x.since + warmupNs ≤ now then 2 else 1) else st
  if st = 1 then ⟨x, 1, false⟩
  else
    let above := if threshold < |r| then x.above + 1 else 0
    let below := if |r| ≤ threshold / 2 then x.below + 1 else 0
    let x := { x with above := above, below := below }
    if st = 2 ∧ count ≤ above then ⟨{ x with below := 0 }, 3, true⟩
    else if st = 3 ∧ count ≤ below then ⟨{ x with above := 0 }, 2, false⟩
    else ⟨x, st, false⟩

/-- The instance that a supervision fault of an engine names: the slot where the code allows it, else 0. -/
def supInst (code n : Nat) : Nat :=
  match faultRow code with
  | some row => if row.allows n then n else 0
  | none => 0

/-- |r| of a residual as a channel compares it: an infinite one lies above every threshold; a NaN lies neither above the threshold nor at
most at its half (DESIGN CHOICE, log 80), which the threshold itself does too. -/
def supMag (r : Nat) (threshold : Rat) : Rat :=
  if F32.isFinite r then |F32.toRat (F32.flush r)| else if F32.isNaN r then threshold else threshold + 1

/-- A sample of channel c by slot n; the flag is the predicate: the channel was implausible before it and still is. -/
def State.supFeed (n c r : Nat) (s : State) : State × Bool :=
  let e := n / 8
  if s.recC n (Obj.supEnable e c) = 0 then (s, false)
  else
    let st := s.oN (Obj.supState e c)
    let threshold := F32.toRat (s.recC n (Obj.supThreshold e c))
    let q := supMag r threshold
    let res := supSample ((s.engx e).sups.getD c {}) st q threshold (s.recC n (Obj.supCount e c))
      (s.recC n (Obj.supWarmup e c) * 1000000) s.mono
    let s := (s.engMod e (fun x => { x with sups := x.sups.set c res.x })).put (Obj.supState e c) res.st
    let s := if F32.isFinite r ∧ s.oF (Obj.supResidualPeak e c) < q then s.putF (Obj.supResidualPeak e c) q else s
    let code := s.recC n (Obj.supFaultCode e c)
    (if res.raise && code != 0 then s.raise code (supInst code n) else s, st == 3 && res.st == 3)

/-- A channel's warm-up begins, or it is off (R211). -/
def State.supRestart (e c : Nat) (s : State) : State :=
  let now := s.mono
  (s.engMod e (fun x => { x with sups := x.sups.set c { since := now } })).put (Obj.supState e c) (if s.cN (Obj.supEnable e c) = 1 then 1 else 0)

/-! ## The instructions' effects (R219 to R231) -/

/-- Registers, flag and output buffer of an instance. -/
structure Cpu where
  f : List Nat := List.replicate 64 0
  i : List Nat := List.replicate 16 0
  p : List Bool := List.replicate 4 false
  /-- output buffer: the last write to each port -/
  out : List (Nat × Nat) := []
  /-- address of the first flagging instruction (R191, R192) -/
  flag : Option Nat := none
  deriving DecidableEq, Repr

/-- An instance's course: the slot, its registers and the device. -/
structure Run where
  n : Nat
  cpu : Cpu := {}
  s : State

def Cpu.fr (c : Cpu) (r : Nat) : Nat := c.f.getD r 0
def Cpu.ir (c : Cpu) (r : Nat) : Nat := c.i.getD r 0
def Cpu.pr (c : Cpu) (r : Nat) : Bool := c.p.getD r false
def Cpu.setF (c : Cpu) (r v : Nat) : Cpu := { c with f := c.f.set r v }
def Cpu.setI (c : Cpu) (r v : Nat) : Cpu := { c with i := c.i.set r (wrap32 v) }
def Cpu.setP (c : Cpu) (r : Nat) (v : Bool) : Cpu := { c with p := c.p.set r v }

/-- Set the non-finite flag at an address, if it is not set already. -/
def Cpu.nonfinite (c : Cpu) (addr : Nat) (b : Bool) : Cpu := if b && c.flag.isNone then { c with flag := some addr } else c

/-- Write an arithmetic result: a NaN or an infinity sets the flag (R191). -/
def Cpu.arith (c : Cpu) (addr r v : Nat) : Cpu := (c.setF r v).nonfinite addr (!F32.isFinite v)

/-- Limit a value: result and whether the limit was applied (fclamp). -/
def clampF (v lo hi : Nat) : Nat × Bool :=
  let r := F32.fmin (F32.fmax v lo) hi
  (r, !F32.isNaN r && (decide (F32.key v < F32.key lo) || decide (F32.key hi < F32.key v) || decide (F32.key hi < F32.key lo)))

/-- Conditions of fcmp. -/
def fcond (x a b : Nat) : Bool :=
  let ka := F32.key a
  let kb := F32.key b
  match x with
  | 0 => ka == kb | 1 => ka != kb | 2 => ka < kb | 3 => ka ≤ kb | 4 => kb < ka | _ => kb ≤ ka

/-- Conditions of icmp. -/
def icond (x a b : Nat) : Bool :=
  let sa := F32.ofBits32 a
  let sb := F32.ofBits32 b
  match x with
  | 0 => a == b | 1 => a != b | 2 => sa < sb | 3 => sa ≤ sb | 4 => sb < sa | 5 => sb ≤ sa | 6 => a < b | _ => b ≤ a

/-- The functions of pop. -/
def popFn (x : Nat) (a b : Bool) : Bool :=
  match x with
  | 0 => a && b | 1 => a || b | 2 => a != b | 3 => a && !b | 4 => !a | 5 => false | _ => true

/-- A store: suppressed and flagged below 0x1000, or for a non-finite float (R191, R227). -/
def Run.store (r : Run) (addr a v : Nat) (float : Bool) : Run :=
  if a < 0x1000 || (float && !F32.isFinite v) then { r with cpu := r.cpu.nonfinite addr true }
  else { r with s := r.s.mPut (domAddr (Obj.stateLive (r.n / 8)) (4 * (a - 0x1000))) 4 v }

/-- A float port of R230. -/
def floatPort (p : Nat) : Bool :=
  p < 0x218 || (0x230 ≤ p && p < 0x240) || (0x250 ≤ p && p < 0x260) || (0x2A0 ≤ p && p < 0x2C0 && p % 4 == 1)

/-- A write into the output buffer (R228, R230). -/
def Cpu.output (c : Cpu) (addr p v : Nat) (float : Bool) : Cpu :=
  let c := { c with out := (p, v) :: c.out.filter (fun q => q.1 != p) }
  c.nonfinite addr ((float || floatPort p) && !F32.isFinite v)

/-- The effect of one instruction at an address (R231), its guard true. -/
def Run.exec1 (r : Run) (addr w : Nat) : Run :=
  let c := r.cpu
  let d := Isa.fD w
  let a := c.fr (Isa.fA w)
  let b := c.fr (Isa.fB w)
  let ia := c.ir (Isa.fA w)
  let ib := c.ir (Isa.fB w)
  let p := Isa.fP w
  let put := fun (c : Cpu) => { r with cpu := c }
  let sh := Isa.fB w
  match Isa.fOp w with
  | 0x01 => put (c.arith addr d (F32.add a b))
  | 0x02 => put (c.arith addr d (F32.sub a b))
  | 0x03 => put (c.arith addr d (F32.mul a b))
  | 0x04 => put (c.arith addr d (F32.fma (c.fr d) a b))
  | 0x05 => put (c.arith addr d (F32.fma (c.fr d) (F32.negate (F32.flush a)) b))
  | 0x06 => put (c.arith addr d (F32.fmin a b))
  | 0x07 => put (c.arith addr d (F32.fmax a b))
  | 0x08 => put (c.arith addr d (F32.flush a % 0x80000000))
  | 0x09 => put (c.arith addr d (F32.negate (F32.flush a)))
  | 0x0A => put (c.arith addr d (F32.flush a))
  | 0x0B => put (c.arith addr d (F32.div a b))
  | 0x0C => put (c.arith addr d (F32.sqrt a))
  | 0x0D => put ((c.setF d (Config.sinF32 ia)).setF (d + 1) (Config.cosF32 ia))
  | 0x0E =>
    let nan := F32.isNaN a || F32.isNaN b
    put ((c.setP p (!nan && fcond (Isa.fX w) a b)).nonfinite addr nan)
  | 0x0F => put (c.setF d (if c.pr p then F32.flush a else F32.flush b))
  | 0x10 =>
    let lo := b
    let hi := c.fr (Isa.fB w + 1)
    let v := clampF a lo hi
    put (((c.arith addr d v.1).setP p v.2).nonfinite addr (!F32.isFinite a || !F32.isFinite lo || !F32.isFinite hi))
  | 0x11 =>
    let lo := c.fr (d + 1)
    let hi := c.fr (d + 2)
    let x := F32.fma (c.fr d) a b
    let v := clampF x lo hi
    put (((c.arith addr d v.1).setP p v.2).nonfinite addr
      (!F32.isFinite a || !F32.isFinite b || !F32.isFinite (c.fr d) || !F32.isFinite lo || !F32.isFinite hi))
  | 0x12 =>
    let floor := r.s.recC r.n (Obj.engVdcFloor (r.n / 8))
    let q := F32.div a (F32.fmax b floor)
    let v := clampF q 0xBF800000 0x3F800000
    put (((c.arith addr d v.1).setP p (v.2 || (!F32.isNaN b && decide (F32.key b < F32.key floor)))).nonfinite addr (!F32.isFinite a))
  | 0x13 =>
    let k := fun j => r.s.padWord r.n (4 * Isa.fK w + j)
    let b := c.fr (Isa.fA w + 1)
    let x := if F32.isFinite a && F32.isFinite b && F32.isFinite (k 0) && F32.isFinite (k 1) then
        F32.rounded (F32.toRat (F32.flush (k 0)) * F32.toRat (F32.flush a) + F32.toRat (F32.flush (k 1)) * F32.toRat (F32.flush b)) false
      else F32.nan
    let v := clampF x (F32.negate (F32.flush (k 2))) (k 2)
    put (((c.arith addr d v.1).setP (Isa.fKP w) v.2).nonfinite addr (!F32.isFinite (k 2) || F32.isNaN x))
  | 0x14 =>
    let v := F32.sub a b
    let q := r.s.supFeed r.n (Isa.fX w) v
    { r with s := q.1, cpu := (c.arith addr d v).setP p q.2 }
  | 0x18 => put ((c.setI d (if F32.isFinite a then F32.toI32 a else 0)).nonfinite addr (!F32.isFinite a))
  | 0x19 => put (c.setF d (F32.ofRat (F32.ofBits32 ia)))
  | 0x1A => put ((c.setI d (if F32.isFinite a then F32.radToAu a else 0)).nonfinite addr (!F32.isFinite a))
  | 0x1B => put (c.setF d (F32.auToRad ia))
  | 0x20 => put (c.setI d (ia + ib))
  | 0x21 => put (c.setI d (ia + 4294967296 - ib))
  | 0x22 => put (c.setI d (ia &&& ib))
  | 0x23 => put (c.setI d (ia ||| ib))
  | 0x24 => put (c.setI d (ia ^^^ ib))
  | 0x25 => put (c.setI d (ia * 2 ^ sh))
  | 0x26 => put (c.setI d (ia / 2 ^ sh))
  | 0x27 => put (c.setI d (toUnsigned 32 (F32.ofBits32 ia / (2 ^ sh : Nat))))
  | 0x28 => put (c.setI d (ia * ib))
  | 0x29 => put (c.setP p (icond (Isa.fX w) ia ib))
  | 0x2A => put (c.setI d (if c.pr p then ia else ib))
  | 0x2B => put (c.setI d (toUnsigned 32 ((ia : Int) + toSigned 11 (Isa.fOff w))))
  | 0x2C => put (c.setI d (Isa.fImm w))
  | 0x2D => put (c.setI d (Isa.fImm w * 65536 + c.ir d % 65536))
  | 0x2E => put (c.setF d (Isa.fImm w * 65536))
  | 0x2F => put (c.setP d (popFn (Isa.fX w) (c.pr (Isa.fA w)) (c.pr (Isa.fB w))))
  | 0x30 => put (c.setF d (r.s.padWord r.n ((ia + Isa.fOff w) % 16384)))
  | 0x31 => put (c.setI d (r.s.padWord r.n ((ia + Isa.fOff w) % 16384)))
  | 0x32 => r.store addr ((ia + Isa.fOff w) % 16384) (c.fr d) true
  | 0x33 => r.store addr ((ia + Isa.fOff w) % 16384) (c.ir d) false
  | 0x34 => put (c.setF d (((r.s.slotx r.n).snap.lookup (Isa.fPort w)).getD 0))
  | 0x35 => put (c.setI d (((r.s.slotx r.n).snap.lookup (Isa.fPort w)).getD 0))
  | 0x36 => put (c.output addr (Isa.fPort w) (c.fr d) true)
  | 0x37 => put (c.output addr (Isa.fPort w) (c.ir d) false)
  | _ => r

/-- One instruction under its guard (R219, R223). -/
def Run.step (r : Run) (addr w : Nat) : Run := if Isa.fG w && !r.cpu.pr (Isa.fQ w) then r else r.exec1 addr w

/-- Run a path to its end, or as far as the instructions that issue within a number of cycles (R222, R225). -/
def Run.body (word : Nat → Nat) (limit : Nat) : Nat → Isa.Flow → Isa.Clock → Run → Run
  | 0, _, _, r => r
  | k + 1, f, c, r =>
    let w := word f.pc
    let t := c.issue w
    if limit < t then r
    else
      let r := r.step f.pc w
      match f.next w with
      | none => r
      | some f' => Run.body word limit k f' (c.after w t) r

/-- Run the entry at an address for a slot, registers at 0 (R226). -/
def State.runEntry (n entry limit : Nat) (s : State) : Run :=
  Run.body (s.progWord n) limit 65537 { pc := entry } {} { n := n, s := s }

/-! ## Release (R194, R230) -/

/-- The buffer's value of a port. -/
def outVal (out : List (Nat × Nat)) (p : Nat) : Option Nat := out.lookup p

/-- A duty port's value as HbShadowDuty or LvShadowDuty, and an on-time in fine edges (R230). -/
def dutyOf (v : Nat) : Nat := (F32.roundEven (max 0 (min 1 (F32.toRat (F32.flush v))) * 16777216)).toNat
def onTimeOf (v : Nat) : Nat := (F32.roundEven (max 0 (min 100000 (F32.toRat (F32.flush v))) * mkRat 16000 3125)).toNat

/-- Take one shadow value of the buffer. -/
def State.relVal (out : List (Nat × Nat)) (p k : Nat) (conv : Nat → Nat) (s : State) : State :=
  match outVal out p with
  | some v => s.put k (conv v : Nat)
  | none => s

/-- Take the buffer's shadow values of one channel. -/
def State.relChan (out : List (Nat × Nat)) (c : Nat) (s : State) : State :=
  if c < 24 then (s.relVal out (0x200 + c) (Obj.hbShadowDuty c) dutyOf).relVal out (0x218 + c) (Obj.hbShadowPhase c) id
  else
    let n := c - 24
    ((s.relVal out (0x230 + n) (Obj.lvShadowDuty n) dutyOf).relVal out (0x240 + n) (Obj.lvShadowPhase n) id).relVal out (0x250 + n)
      (Obj.lvShadowOnTime n) onTimeOf

/-- A commit port of the buffer: the group's values are taken and committed; outside SlotOutputMap it is discarded (R194). -/
def State.relGroup (n : Nat) (out : List (Nat × Nat)) (g : Nat) (s : State) : State :=
  if (outVal out (0x280 + g)).isNone then s
  else if (s.cN (Obj.slotOutputMap n)).testBit g then
    let s := (s.groupChans g).foldl (fun t c => t.relChan out c) s
    let s := match outVal out (0x260 + g) with
      | some v => if v ≤ 63 then s.put (Obj.groupPattern g) v else s
      | none => s
    s.commit g
  else (s.incSat (Obj.engCommitDiscardCount (n / 8))).raise FC.engCommitdiscard n

/-- A source update of the buffer (R230): a port that the instance did not write leaves a free value. -/
def State.relTb (out : List (Nat × Nat)) (t : Nat) (s : State) : State :=
  let w := fun p => match outVal out p with
    | some v => v
    | none => (Config.freeValue 801 (s.freeIx + p)).toNat % 4294967296
  match outVal out (0x2A3 + 4 * t) with
  | some 1 =>
    let f := speedOfHz (F32.toRat (F32.flush (w (0x2A1 + 4 * t))))
    let src := s.cN (Obj.tbSource t)
    if src = 2 then (s.tbUpdate t true (w (0x2A0 + 4 * t)) f ((s.tick + 4294967296 - w (0x2A2 + 4 * t)) % 4294967296) none).fresh
    else if src = 3 then (s.tbUpdate t true 0 f 0 none).fresh
    else s
  | some 0 => if s.cN (Obj.tbSource t) = 2 ∨ s.cN (Obj.tbSource t) = 3 then s.tbUpdate t false 0 0 0 none else s
  | _ => s

/-- The release of an output buffer in one tick (R194). -/
def State.release (n : Nat) (out : List (Nat × Nat)) (s : State) : State :=
  (s.forAll allGroups (State.relGroup n out)).forAll (List.range 8) (State.relTb out)

/-! ## Scheduling (R193 to R198) -/

/-- The next slot of an engine runs: the lowest-numbered pending or pre-empted one, when none runs (R197). -/
def State.schedule (e : Nat) (s : State) : State :=
  if (slotsOf e).any (fun n => s.oN (Obj.slotState n) == 3) then s
  else match (slotsOf e).find? (fun n => s.oN (Obj.slotState n) == 2 || s.oN (Obj.slotState n) == 4) with
    | some n => if s.oN (Obj.slotState n) = 2 then s.beginInstance n else s.put (Obj.slotState n) 3
    | none => s

/-- A LAW_START that takes effect (R193, R195, R196, R198). -/
def State.lawStart (n arg angle : Nat) (s : State) : State :=
  if ¬ s.engOn then s
  else
    let e := n / 8
    match s.oN (Obj.slotState n) with
    | 1 =>
      let now := s.tick
      let s := (s.inc32 (Obj.slotStartCount n)).slotMod n (fun x => { x with startArg := arg, startAngle := angle, startTick := now, preset := false })
      if (slotsOf e).any (fun j => j < n && (s.oN (Obj.slotState j) == 2 || s.oN (Obj.slotState j) == 3)) then s.put (Obj.slotState n) 2
      else
        let s := match (slotsOf e).find? (fun j => n < j && s.oN (Obj.slotState j) == 3) with
          | some j => (s.put (Obj.slotState j) 4).incSat (Obj.engPreemptCount e)
          | none => s
        s.beginInstance n
    | 2 | 3 | 4 => (s.incSat (Obj.slotOverrunCount n)).raise FC.engOverrun n
    | _ => s

/-- A slot leaves its instance: idle, or disabled when a swap has disabled it; old banks go with the last instance that
uses them (R196, R209). -/
def State.slotRest (n st : Nat) (s : State) : State :=
  let e := n / 8
  let s := if (s.slotx n).disableAtEnd then (s.put (Obj.slotState n) 0).leaveBack (.law (Fin.ofNat 64 n)) else s.put (Obj.slotState n) st
  let s := s.slotMod n (fun x => { x with disableAtEnd := false, oldBank := false, snap := [] })
  if (slotsOf e).any (fun j => (s.slotx j).oldBank) then s else s.engMod e (fun x => { x with oldBanks := [], oldRecs := [] })

/-- A slot freezes: nothing is released, and the first freeze of the engine is shown (R192). -/
def State.freeze (n addr : Nat) (s : State) : State :=
  let e := n / 8
  let s := if s.oN (Obj.engNonfiniteSlot e) = 0xFF then
      (s.put (Obj.engNonfiniteSlot e) (n % 8 : Nat)).put (Obj.engNonfiniteAddress e) addr
    else s
  (s.slotRest n 7).raise FC.engNonfinite n

/-! ## Hand-over (R206, R208) -/

/-- The code of R208 for a request, 0 where nothing refuses it. -/
def State.handoverCode (s : State) (e out inc : Nat) : Nat :=
  let o := 8 * e + out
  let i := 8 * e + inc
  if 8 ≤ out ∨ 8 ≤ inc ∨ s.cN (Obj.slotHandoverPartner o) ≠ inc ∨ s.cN (Obj.slotHandoverPartner i) ≠ out then 2
  else if ¬ [1, 2, 3, 4].contains (s.oN (Obj.slotState o)) ∨ s.oN (Obj.slotState i) ≠ 5 then 3
  else if s.cN (Obj.slotPresetEntry i) = 0xFFFF then 4
  else if (s.engx e).handover.isSome ∨ (s.sw.armed ∧ Nat.testBit s.sw.map (s.cN (Obj.engOwnerScope e))) then 5
  else 0

/-- A slot's hand-over words. -/
def State.handoverWords (s : State) (n : Nat) : List Nat :=
  (List.range 4).map (fun k => s.padWord n ((s.recC n (Obj.slotHandoverBase n) + k) % 16384))

/-- R206, steps 2 to 6, after the outgoing instance's release. -/
def State.handOver (o i : Nat) (s : State) : State :=
  let e := o / 8
  let old := s.handoverWords o
  let s := (s.engMod e (fun x => { x with copied := old, handover := none })).slotRest o 5
  let s := s.beginInstance i
  let r := s.runEntry i (s.recC i (Obj.slotPresetEntry i)) 65536
  let s := r.s
  match r.cpu.flag with
  | some a => s.freeze i a
  | none =>
    let s := s.release i r.cpu.out
    let new := s.handoverWords i
    let t := s.recC i (Obj.slotHandoverTimebase i)
    let s := s.slotMod i (fun x => { x with delta := (old.zip new).map (fun p => F32.sub p.1 p.2), theta0 := s.oN (Obj.tbAngle t), revs0 := s.oN (Obj.tbRevolutions t), residual := true, misses := 0 })
    (s.slotRest i 1).put (Obj.handoverResult e) 0

/-- The hand-over that takes effect at the end of slot n's instance: its own request, else an accepted one (R206). -/
def State.handoverAtEnd (n : Nat) (req : Option Nat) (s : State) : State :=
  let e := n / 8
  let s := match req with
    | some inc =>
      let code := s.handoverCode e (n % 8) inc
      if code = 0 then s.engMod e (fun x => { x with handover := some (n, 8 * e + inc) })
      else (s.put (Obj.handoverResult e) code).raise FC.engHandover n
    | none => s
  match (s.engx e).handover with
  | some (o, i) => if o = n then s.handOver o i else s.slotRest n 1
  | none => s.slotRest n 1

/-- The cycles that a slot's program declares for its entry (R200). -/
def State.declared (s : State) (n : Nat) : Nat :=
  (List.range 18).foldl (fun d j => if Isa.dscAddr (s.progWord n) j = s.recC n (Obj.slotEntry n) then Isa.dscCycles (s.progWord n) j else d) 0

/-- An instance ends (R192, R194, R199, R200, R206): `issued` body cycles and the response from the start, in cycles. -/
def State.instanceEnd (n issued response : Nat) (s : State) : State :=
  if ¬ s.engOn ∨ s.oN (Obj.slotState n) ≠ 3 then s
  else
    let r := s.runEntry n (s.recC n (Obj.slotEntry n)) 65536
    let declared := s.declared n
    let s := r.s
    let s := (s.put (Obj.slotLastResponse n) response).put (Obj.slotMaxResponse n) (max (s.oN (Obj.slotMaxResponse n)) response : Nat)
    let s := (s.put (Obj.slotBusyCycles n) (wrap64 (s.oN (Obj.slotBusyCycles n) + issued + 20) : Nat)).slotMod n (fun x => { x with misses := 0 })
    let s := if issued = declared then s else s.raise FC.engCyclemismatch n
    let s := match r.cpu.flag with
      | some a => s.freeze n a
      | none => (s.release n r.cpu.out).handoverAtEnd n (outVal r.cpu.out 0x2C0)
    s.schedule (n / 8)

/-- LAW_INSTANCE_END. -/
def execLawInstanceEnd (slot : Fin 64) (issued response : BitVec 32) (s : State) : Host.Outcome State Fault Refusal :=
  .next (s.instanceEnd slot.val issued.toNat response.toNat)

/-- An instance is aborted: nothing is released; the stores of the cycles issued stay (R199). -/
def State.abort (n issued : Nat) (s : State) : State :=
  let s := if s.oN (Obj.slotState n) = 2 ∨ issued = 0 then s else (s.runEntry n (s.recC n (Obj.slotEntry n)) issued).s
  (s.slotRest n 1).schedule (n / 8)

/-- A deadline passed (R199). -/
def State.deadlineMiss (n issued : Nat) (s : State) : State :=
  if ¬ s.engOn ∨ ¬ [2, 3, 4].contains (s.oN (Obj.slotState n)) then s
  else
    let limit := s.recC n (Obj.slotDeadlineMisses n)
    let s := (s.abort n issued).incSat (Obj.slotDeadlineMissCount n)
    let s := s.slotMod n (fun x => { x with misses := x.misses + 1 })
    if (s.slotx n).misses = limit then s.raise FC.engDeadline n else s

/-- SLOT_DEADLINE_MISS. -/
def execSlotDeadlineMiss (slot : Fin 64) (issued : BitVec 32) (s : State) : Host.Outcome State Fault Refusal :=
  .next (s.deadlineMiss slot.val issued.toNat)

/-- An uncorrectable word read by an instance aborts it (R188). -/
def State.engMemue (n issued : Nat) (s : State) : State :=
  if ¬ s.engOn ∨ ¬ [3, 4].contains (s.oN (Obj.slotState n)) then s
  else (s.abort n issued).raise FC.engMemue n

/-- ENG_MEMUE. -/
def execEngMemue (slot : Fin 64) (issued : BitVec 32) (s : State) : Host.Outcome State Fault Refusal :=
  .next (s.engMemue slot.val issued.toNat)

/-- A write to HandoverRequest (R208): accepted until the end of an outgoing instance, or refused. -/
def State.handoverAsk (e out inc : Nat) (s : State) : State :=
  let code := s.handoverCode e out inc
  if code = 0 then (s.engMod e (fun x => { x with handover := some (8 * e + out, 8 * e + inc) })).put (Obj.handoverResult e) 1
  else s.put (Obj.handoverResult e) code

/-- HANDOVER_REQUEST: an Integrator session (R213). -/
def execHandoverRequest (engine : Fin 8) (value : BitVec 16) (role : Role) (s : State) : Host.Outcome State Fault Refusal :=
  .next (s.access role 3 (State.handoverAsk engine.val (value.toNat % 256) (value.toNat / 256)))

/-! ## Enabling (R196, R202), the derived values and the reset of an engine (R56, R189) -/

/-- SlotDeclaredCycles and SlotLeavePower from the active program's header (R232). -/
def State.slotDerived (n : Nat) (s : State) : State :=
  let im := Isa.dscFor (s.progWord n) (s.cN (Obj.slotEntry n))
  match im with
  | some d => (s.put (Obj.slotDeclaredCycles n) (Isa.dscCycles (s.progWord n) d : Nat)).put (Obj.slotLeavePower n) (Isa.dscPower (s.progWord n) d : Nat)
  | none => (s.put (Obj.slotDeclaredCycles n) 0).put (Obj.slotLeavePower n) 0

/-- The state that SlotEnable gives. -/
def State.enableState (s : State) (n : Nat) : Nat := if s.cN (Obj.slotEnable n) = 2 then 5 else 1

/-- A disabled slot becomes enabled: at once, or after its leave (R202). -/
def State.slotUp (n : Nat) (s : State) : State :=
  if s.cN (Obj.slotEnable n) = 0 ∨ s.oN (Obj.slotState n) ≠ 0 then s
  else if s.oN (Obj.slotLeavePower n) = 0 then s.put (Obj.slotState n) (s.enableState n)
  else
    let r := s.leaveAsk (.law (Fin.ofNat 64 n))
    r.1.put (Obj.slotState n) (if r.2 then s.enableState n else 6)

/-- A slot's leave is granted. -/
def State.slotGranted (n : Nat) (s : State) : State :=
  if s.oN (Obj.slotState n) = 6 then s.put (Obj.slotState n) (s.enableState n) else s

/-- A swap or a reset takes an enabled slot down; one with an instance in progress ends it first (R196). -/
def State.slotDown (n : Nat) (s : State) : State :=
  match s.oN (Obj.slotState n) with
  | 1 | 5 | 6 => (s.put (Obj.slotState n) 0).leaveBack (.law (Fin.ofNat 64 n))
  | 2 | 3 | 4 => s.slotMod n (fun x => { x with disableAtEnd := true })
  | _ => s

/-- The state region's initial image (R189, R217). -/
def State.loadStateRegion (e : Nat) (s : State) : State :=
  let src := domAddr (Obj.stateInitialImage e) 0
  let dst := domAddr (Obj.stateLive e) 0
  let cells := s.mem.filter (fun p => src ≤ p.1 && p.1 < src + 49152)
  let kept := s.mem.filter (fun p => !(dst ≤ p.1 && p.1 < dst + 49152))
  { s with mem := cells.foldl (fun m p => setByte m (p.1 - src + dst) p.2) kept }

/-- The per-function reset of class 0x04 (R56, R189, R192, R210, R211): the state region is reloaded and every slot takes the
state that its SlotEnable gives; leave already held stays held. -/
def State.engineReset (e : Nat) (s : State) : State :=
  let s := ((s.loadStateRegion e).put (Obj.engNonfiniteSlot e) 0xFF).put (Obj.engNonfiniteAddress e) 0
  let s := s.forAll (slotsOf e) (fun n t =>
    let t := t.slotMod n (fun _ => {})
    if t.cN (Obj.slotEnable n) = 0 then t.put (Obj.slotState n) 0
    else if t.oN (Obj.slotState n) = 6 ∨ t.oN (Obj.slotState n) = 0 then t
    else t.put (Obj.slotState n) (t.enableState n))
  let s := s.engMod e (fun x => { sups := x.sups, busyTicks := x.busyTicks })
  s.forAll (List.range 8) (State.supRestart e)

end Sys2Proof.Machine
end

