-- ==== Sys2Proof/Machine/Estimator.lean ====
section
/-! DEFINITION. The rotor observers' estimators (R236, R237, R240 to R242, R245, R247 to R250, R254): what a step forms from the phase
currents and the applied voltages. Vectors are in the stationary αβ frame and amplitude-invariant; a held number is an F32 word, an angle
is in au. What the spec leaves open of them is listed in log 80. -/

namespace Sys2Proof.Machine

/-- A vector of the αβ frame, or of the estimated rotor frame as (d, q). -/
structure Vec where
  a : Rat := 0
  b : Rat := 0
  deriving DecidableEq, Repr

def Vec.add (u v : Vec) : Vec := ⟨u.a + v.a, u.b + v.b⟩
def Vec.sub (u v : Vec) : Vec := ⟨u.a - v.a, u.b - v.b⟩
def Vec.scale (q : Rat) (v : Vec) : Vec := ⟨q * v.a, q * v.b⟩

/-- |v|, an F32 word. -/
def Vec.mag (v : Vec) : Nat := F32.sqrtRat (v.a * v.a + v.b * v.b)

/-- Cosine and sine of an angle. -/
def cosAt (a : Nat) : Rat := F32.toRat (Config.cosF32 a)
def sinAt (a : Nat) : Rat := F32.toRat (Config.sinF32 a)

/-- A vector seen from a frame turned to an angle, and back. -/
def Vec.into (v : Vec) (a : Nat) : Vec := ⟨cosAt a * v.a + sinAt a * v.b, cosAt a * v.b - sinAt a * v.a⟩
def Vec.outOf (v : Vec) (a : Nat) : Vec := ⟨cosAt a * v.a - sinAt a * v.b, sinAt a * v.a + cosAt a * v.b⟩

/-- Radians as au. -/
def radAu (q : Rat) : Rat := q * 2147483648 / F32.pi

/-! ## Inputs of a step (R240, R241) -/

/-- A phase current: the input's last triggered value at the engine ports, where a reconstructed one stands too, or LVn_ISN. -/
def State.phaseAmps (s : State) (o x : Nat) : Rat :=
  let n := (s.obsCurrents o).getD x 0
  if o < 4 then F32.toRat ((s.ports.lookup n).getD 0) else s.oF (Obj.lvIsnValue n)

/-- −1, 0 or 1. -/
def signOf (q : Rat) : Rat := if q < 0 then -1 else if q = 0 then 0 else 1

/-- The applied voltage of a phase: the volt-seconds over the length of their window, or the duty in force with the dead time taken off. A
window of no length gives a free value. -/
def State.phaseVolts (s : State) (o x : Nat) : Rat :=
  let n := (s.obsChannels o).getD x 0
  if o < 4 then
    let w := (s.ports.lookup (0x60 + n)).getD 0
    if w = 0 then mkRat (Config.freeValue 1004 s.freeIx) 16777216 else F32.toRat ((s.ports.lookup (0x40 + n)).getD 0) * 80 / w
  else
    let c := 24 + n
    let g := (s.groupOf c).getD 16
    let dead : Rat := match s.lengthFe g periodUnits with
      | some fe => mkRat (s.cN (Obj.groupDeadTime g)) fe
      | none => 0
    (mkRat (s.chx c).duty 16777216 - signOf (s.phaseAmps o x) * dead) * s.obsLink o

/-- The αβ vector of a set's phases: 2/3 of the sum along their axes (R236). -/
def State.setVec (s : State) (o k : Nat) (f : Nat → Rat) : Vec :=
  let t := fun (g : Nat → Rat) => mkRat 2 3 * ((List.range 3).map (fun j => f (3 * k + j) * g (s.phaseAxis o (3 * k + j)))).sum
  ⟨t cosAt, t sinAt⟩

/-- The sets of an observer's machine. -/
def State.obsSets (s : State) (o : Nat) : List Nat := List.range (s.cN (Obj.obsPhaseCount o) / 3)

/-- Currents of a set, and its voltages referred to the star point. -/
def State.ampsVec (s : State) (o k : Nat) : Vec := s.setVec o k (s.phaseAmps o)
def State.voltsVec (s : State) (o k : Nat) : Vec :=
  let mean := ((List.range 3).map (fun j => s.phaseVolts o (3 * k + j))).sum / 3
  s.setVec o k (fun x => s.phaseVolts o x - mean)

/-- The mean of the sets. -/
def State.overSets (s : State) (o : Nat) (f : Nat → Vec) : Vec :=
  let n := s.obsSets o
  ((n.map f).foldl Vec.add {}).scale (mkRat 1 n.length)

/-- Rs in use (R242). -/
def State.obsOhms (s : State) (o : Nat) : Rat :=
  let n := s.cN (Obj.obsWindingTempInput o)
  let t : Rat := if n = 0xFF then 25 else s.oF (Obj.ainValue n)
  s.cF (Obj.obsRs o) * (1 + s.cF (Obj.obsRsTempCoeff o) * (t - 25))

/-- L = (Ld + Lq)/2. -/
def State.obsHenry (s : State) (o : Nat) : Rat := (s.cF (Obj.obsLd o) + s.cF (Obj.obsLq o)) / 2

/-- What a step finds: its interval in seconds, voltages and currents, and the currents of the step before. -/
structure StepIn where
  t : Rat
  v : Vec
  i : Vec
  was : Vec
  deriving DecidableEq, Repr

/-- The currents that the step before has left, by set. -/
def ObsX.wasAmps (x : ObsX) (k : Nat) : Vec := ⟨F32.toRat (x.amps.getD (2 * k) 0), F32.toRat (x.amps.getD (2 * k + 1) 0)⟩

/-- A step's input, of all sets together, on a sample of some ticks ago. -/
def State.stepIn (s : State) (o age : Nat) : StepIn :=
  let x := s.obsx o
  { t := mkRat (s.tick - age - x.stepTick.getD (s.tick - age)) 80000000, v := s.overSets o (s.voltsVec o), i := s.overSets o (s.ampsVec o), was := s.overSets o x.wasAmps }

/-! ## The extended back-EMF observer (R247) -/

/-- Damping of the loop, and its natural frequency in rad/s at a noise bandwidth B = ω_n/2 × (ζ + 1/(4ζ)). -/
def loopDamping : Rat := mkRat 707 1000
def loopOmega (b : Rat) : Rat := 2 * b / (loopDamping + 1 / (4 * loopDamping))

/-- e_d of the machine equations, and e_ext of R247, in the frame of an estimate. -/
def State.emfError (s : State) (o : Nat) (omega : Rat) (v i di : Vec) : Rat × Rat :=
  let ld := s.cF (Obj.obsLd o)
  let lq := s.cF (Obj.obsLq o)
  (v.a - s.obsOhms o * i.a - ld * di.a + omega * lq * i.b, omega * ((ld - lq) * i.a + s.cF (Obj.obsFlux o)) - (ld - lq) * di.b)

/-- ε := −e_d / |e_ext|; without an EMF it is free. -/
def State.phaseError (s : State) (ed eext : Rat) : Rat := if eext = 0 then mkRat (Config.freeValue 1005 s.freeIx) 16777216 else -ed / |eext|

/-- One step of the back-EMF observer: its angle, frequency and ε. -/
def State.emfStep (s : State) (o : Nat) (q : StepIn) : Nat × Nat × Nat :=
  let x := s.obsx o
  let f := F32.toRat x.emfFreq
  let turn := f * q.t * 4294967296
  let pred := toUnsigned 32 ((x.emfAngle : Int) + F32.roundEven turn)
  let i := q.i.into pred
  let di := if q.t = 0 then {} else (i.sub (q.was.into x.emfAngle)).scale (1 / q.t)
  let e := s.emfError o (2 * F32.pi * f) (q.v.into pred) i di
  let eps := s.phaseError e.1 e.2
  let w := loopOmega (s.cF (Obj.obsEmfBandwidth o))
  (toUnsigned 32 ((pred : Int) + F32.roundEven (radAu (2 * loopDamping * w * q.t * eps))),
    F32.ofRat (f + w * w * q.t * eps / (2 * F32.pi)), F32.ofRat eps)

/-! ## The voltage model and the injection tracker (R245, R247) -/

/-- One step of the voltage model: the integral of v − Rs × i, with the flux vector's magnitude pulled towards ObsFlux in 50 ms; the
integral and the vector's angle. -/
def State.fluxStep (s : State) (o : Nat) (q : StepIn) : Vec × Nat :=
  let x := s.obsx o
  let psi := (⟨F32.toRat (x.flux.getD 0 0), F32.toRat (x.flux.getD 1 0)⟩ : Vec).add ((q.v.sub (q.i.scale (s.obsOhms o))).scale q.t)
  let li := q.i.scale (s.obsHenry o)
  let m := psi.sub li
  let mag := F32.toRat m.mag
  let m := if mag = 0 then m else m.scale ((mag + (s.cF (Obj.obsFlux o) - mag) * q.t * 20) / mag)
  (m.add li, Config.atan2 m.b m.a)

/-- The injection tracker: the change of current along the axes 45 °e either side of the estimate; how the difference of their
magnitudes turns the estimate the spec leaves to the tracker. -/
def State.trackStep (s : State) (o : Nat) (q : StepIn) : Nat :=
  let a := (s.obsx o).track
  let d := (q.i.sub q.was).into a
  let r := mkRat 707106781 1000000000
  Config.injTrack (|r * (d.a + d.b)| - |r * (d.a - d.b)|) q.t (s.cN (Obj.obsInjSettle o)) a % 4294967296

/-! ## The current that a step predicts (R254) -/

/-- The current of a set after a step, from the one before it, by the machine equations in the frame of an estimate. -/
def State.predictVec (s : State) (o angle : Nat) (omega t : Rat) (v was : Vec) : Vec :=
  let ld := s.cF (Obj.obsLd o)
  let lq := s.cF (Obj.obsLq o)
  let i := was.into angle
  let u := v.into angle
  let r := s.obsOhms o
  (⟨i.a + t * (u.a - r * i.a + omega * lq * i.b) / ld,
    i.b + t * (u.b - r * i.b - omega * (ld * i.a + s.cF (Obj.obsFlux o))) / lq⟩ : Vec).outOf
      (toUnsigned 32 ((angle : Int) + F32.roundEven (omega * t / (2 * F32.pi) * 4294967296)))

/-- The predicted currents of the sets at a step. -/
def State.predicted (s : State) (o : Nat) (q : StepIn) : List Vec :=
  let omega := 2 * F32.pi * s.oF (Obj.obsFrequency o)
  (s.obsSets o).map (fun k => s.predictVec o (s.oN (Obj.obsAngle o)) omega q.t (s.voltsVec o k) ((s.obsx o).wasAmps k))

/-- |i_measured − i_predicted|, over the sets. -/
def State.residualOf (s : State) (o : Nat) (pred : List Vec) : Nat :=
  F32.ofRat (((s.obsSets o).map (fun k => F32.toRat ((s.ampsVec o k).sub (pred.getD k {})).mag)).sum)

/-- The predicted current of a phase. -/
def State.phasePredicted (s : State) (o : Nat) (pred : List Vec) (x : Nat) : Rat :=
  let v := pred.getD (x / 3) {}
  cosAt (s.phaseAxis o x) * v.a + sinAt (s.phaseAxis o x) * v.b

/-! ## What a step leaves for the next -/

/-- The step's tick, interval and currents. -/
def State.keepStep (o age : Nat) (q : StepIn) (s : State) : State :=
  let amps := (s.obsSets o).flatMap (fun k => let v := s.ampsVec o k; [F32.ofRat v.a, F32.ofRat v.b])
  let n := s.cN (Obj.obsAqrWindow o)
  s.obsMod o (fun x =>
    { x with
      stepTick := some (s.tick - age), amps := amps
      interval := if q.t = 0 then x.interval else if x.interval = 0 then F32.ofRat q.t
        else F32.ofRat (F32.toRat x.interval + (q.t - F32.toRat x.interval) / (n : Rat)) })

/-- Every estimator starts from an angle and a frequency. -/
def State.seed (o angle freq : Nat) (s : State) : State :=
  let psi := ((⟨s.cF (Obj.obsFlux o), 0⟩ : Vec).outOf angle).add ((s.overSets o (s.ampsVec o)).scale (s.obsHenry o))
  s.obsMod o (fun x => { x with emfAngle := angle, emfFreq := freq, track := angle, flux := [F32.ofRat psi.a, F32.ofRat psi.b] })

/-- The three estimators take a step: the tracker follows the low-speed angle while injection does not run, and the voltage model the
tracker's while it does not (R244). -/
def State.estimate (o : Nat) (q : StepIn) (s : State) : State :=
  let e := s.emfStep o q
  let fl := s.fluxStep o q
  let tr := if (s.obsx o).injecting then s.trackStep o q else fl.2
  let old := (s.obsx o).low
  s.obsMod o (fun x =>
    { x with
      emfAngle := e.1, emfFreq := e.2.1, eps := e.2.2, flux := [F32.ofRat fl.1.a, F32.ofRat fl.1.b], track := tr, low := tr
      lowFreq := if q.t = 0 then x.lowFreq else F32.ofRat ((toSigned 32 (tr + 4294967296 - old) : Rat) / 4294967296 / q.t) })

/-! ## Catch and test (R248 to R250) -/

/-- A step of the catch check with every switch off: the back-EMF vector, and how far it has turned. -/
def State.catchStep (o : Nat) (q : StepIn) (s : State) : State :=
  let a := Config.atan2 q.v.b q.v.a % 4294967296
  s.obsMod o (fun x =>
    { x with
      catchEmf := q.v.mag, catchAngle := some a
      turned := match x.catchAngle with
        | some p => x.turned + toSigned 32 (a + 4294967296 - p)
        | none => 0
      turnTime := if x.catchAngle.isNone then 0 else F32.ofRat (F32.toRat x.turnTime + q.t) })

/-- The back-EMF's frequency over the check, Hz. -/
def ObsX.catchFreq (x : ObsX) : Nat :=
  if F32.toRat x.turnTime = 0 then 0 else F32.ofRat ((x.turned : Rat) / 4294967296 / F32.toRat x.turnTime)

/-- A step of the test before its pulses: the tracker alone. -/
def State.settleStep (o : Nat) (q : StepIn) (s : State) : State :=
  let a := s.trackStep o q
  (s.obsMod o (fun x => { x with track := a, trackFrom := some (x.trackFrom.getD x.track) })).put (Obj.obsAngle o) a

/-- A step during the pulses: the peak of the current along the direction of the pulse in course, which ends with its last instant. A
returning pulse counts for none. -/
def State.pulseStep (o age : Nat) (q : StepIn) (s : State) : State :=
  match (s.obsx o).pulseAt with
  | none => s
  | some t0 =>
    let at_ := (s.tick - age) * 25 / 2
    let k := (at_ - 1 - t0) / (s.cN (Obj.obsPolarityPulse o) * 1000)
    let inj := s.cN (Obj.obsInjEnable o) == 1
    if at_ ≤ t0 ∨ k % 2 = 1 ∨ (if inj then 4 else 24) ≤ k then s
    else
      let dir := if inj then s.oN (Obj.obsAngle o) else (2 * (k / 2) + 1) * 4294967296 / 24
      let d := |(q.i.into dir).a|
      s.obsMod o (fun x => { x with peaks := modifyAt x.peaks (k / 2) (fun w => if F32.toRat w < d then F32.ofRat d else w) })

end Sys2Proof.Machine
end

