-- ==== Sys2Proof/Machine/Observer.lean ====
section
/-! DEFINITION. The rotor observers and commutation supervision (R236 to R265), over the estimators of Estimator.lean. Observers 0-3 are
MA0-MA3, 4-7 GA0-GA3, 8 the pump. -/

namespace Sys2Proof.Machine

/-- The observers run: M2 to M10 (R264), enabled. -/
def State.obsOn (s : State) (o : Nat) : Bool := s.engOn && s.cN (Obj.obsEnable o) == 1

/-- Enter a regime; leaving 3 to 6 restarts the stall supervision, leaving 6 ends the AQR's evaluation (R252, R258). -/
def State.obsSet (o r : Nat) (s : State) : State :=
  let s := s.put (Obj.obsRegime o) r
  let s := if 3 ≤ r ∧ r ≤ 6 then s else (s.obsMod o (fun x => { x with net := 0 })).put (Obj.commStallState o) 0
  if r = 6 then s
  else ((s.obsMod o (fun x => { x with evaluating := false, lostRun := 0 })).put (Obj.angleQualityRatio o) 0).put (Obj.obsAngleErrorRms o) 0

/-- Percentage speed of a frequency (R242). -/
def State.percentOf (s : State) (o : Nat) (f : Rat) : Rat := 100 * |f| / s.cF (Obj.obsRatedFrequency o)

/-- The blend weight at a percentage speed (R244). -/
def State.blendWeight (s : State) (o : Nat) (p : Rat) : Rat :=
  min 1 (max 0 ((p - s.cF (Obj.obsBlendLow o)) / (s.cF (Obj.obsBlendHigh o) - s.cF (Obj.obsBlendLow o))))

/-- Injection at a percentage speed (R244). -/
def State.injectAt (s : State) (o : Nat) (p : Rat) : Bool :=
  s.cN (Obj.obsInjEnable o) == 1 &&
  (if (s.obsx o).injecting then decide (p < s.cF (Obj.obsBlendHigh o)) else decide (p ≤ s.cF (Obj.obsBlendHigh o) - s.cF (Obj.obsInjHysteresis o)))

/-- θ_low + w × d with the signed 32-bit difference (R244). -/
def blendAngle (low emf : Nat) (w : Rat) : Nat :=
  let d := toSigned 32 (emf + 4294967296 - low)
  toUnsigned 32 ((low : Int) + F32.roundEven (w * d))

/-- Restart the residual warm-up (R254). -/
def State.obsWarm (o : Nat) (s : State) : State :=
  let now := s.mono
  (s.obsMod o (fun x => { x with sup := { since := now } })).put (Obj.obsSupState o) 1

/-- Speed and angle as shown. -/
def State.obsShow (o angle freq : Nat) (s : State) : State :=
  let f := F32.toRat freq
  ((s.put (Obj.obsAngle o) angle).put (Obj.obsFrequency o) freq).putF (Obj.obsSpeedPercent o) (100 * f / s.cF (Obj.obsRatedFrequency o))

/-- The regime of R244 from a frequency, with blend weight and injection. -/
def State.obsBlend (o low emf freq : Nat) (s : State) : State :=
  let p := s.percentOf o (F32.toRat freq)
  let w := s.blendWeight o p
  let inj := s.injectAt o p
  let s := (s.obsMod o (fun x => { x with injecting := inj })).putF (Obj.obsBlendWeight o) w
  let s := s.obsShow o (blendAngle low emf w) freq
  s.obsSet o (if w = 1 then 6 else if 0 < w then 5 else if inj then 3 else 4)

/-- The frequency of the estimate: the low-speed one and the back-EMF observer's, in the weights of the last step (DESIGN CHOICE, log 80: the
spec blends the angles and says nothing of the speeds). -/
def State.obsFreq (s : State) (o : Nat) : Nat :=
  let x := s.obsx o
  let low := F32.toRat x.lowFreq
  F32.ofRat (low + s.oF (Obj.obsBlendWeight o) * (F32.toRat x.emfFreq - low))

/-- The angle has become valid (R248, R249): every estimator starts from it. -/
def State.obsFound (o angle freq : Nat) (s : State) : State :=
  let s := ((s.put (Obj.obsValid o) 1).seed o angle freq).obsMod o (fun x => { x with low := angle, lowFreq := freq })
  let s := s.obsMod o (fun x => { x with testing := false, tries := 0, pulseAt := none, abandoned := false, injecting := false })
  (s.obsBlend o angle angle freq).obsWarm o

/-! ## AQR (R252, R255) -/

/-- y + (x − y) / N on an F32 word. -/
def ewma (y : Nat) (x : Rat) (n : Nat) : Nat := F32.ofRat (F32.toRat y + (x - F32.toRat y) / (n : Rat))

/-- The AQR's quantities after a step in regime 6; the flag says whether it was above ObsAqrLost. -/
def State.obsAqr (o freq eps residual interval : Nat) (s : State) : State × Bool :=
  let n := s.cN (Obj.obsAqrWindow o)
  let f := F32.toRat freq
  let t := F32.toRat interval
  let x := s.obsx o
  let noise := ewma x.noise (F32.toRat residual * F32.toRat residual) n
  let si2 := F32.toRat noise / 4
  let l := (s.cF (Obj.obsLd o) + s.cF (Obj.obsLq o)) / 2
  let om := 2 * F32.pi * f
  let psi := s.cF (Obj.obsFlux o)
  let s1 := 2 * l * l * si2 / (t * t * psi * psi * om * om)
  let b := 2 * s.cF (Obj.obsEmfBandwidth o) * t
  let deg := (180 / F32.pi) * (180 / F32.pi)
  let s := (s.put (Obj.obsCurrentNoise o) (F32.sqrtRat si2 : Nat)).put (Obj.obsAngleBoundRms o) (F32.sqrtRat (s1 * b * deg) : Nat)
  let s := s.obsMod o (fun x => { x with noise := noise })
  if s.percentOf o f < 10 then
    (((s.obsMod o (fun x => { x with evaluating := false, lostRun := 0 })).put (Obj.angleQualityRatio o) 0).put (Obj.obsAngleErrorRms o) 0, false)
  else
    let v := if x.evaluating then ewma x.vEps (F32.toRat eps * F32.toRat eps) n else F32.ofRat s1
    let q := if s1 = 0 then F32.toRat ((Config.freeValue 1001 s.freeIx).toNat % 2139095040) else F32.toRat v / s1
    let s := (s.obsMod o (fun x => { x with evaluating := true, vEps := v })).putF (Obj.angleQualityRatio o) q
    let s := (s.put (Obj.obsAngleErrorRms o) (F32.sqrtRat (F32.toRat v * b * deg) : Nat)).fresh
    (s, decide (s.cF (Obj.obsAqrLost o) < s.oF (Obj.angleQualityRatio o)))

/-- The observer is lost: regime 7, the voltage model seeded from the last back-EMF estimate (R255, R256). -/
def State.obsLose (o : Nat) (s : State) : State :=
  let now := s.mono
  let s := s.seed o (s.obsx o).emfAngle (s.obsx o).emfFreq
  ((((s.incSat (Obj.obsLostCount o)).obsSet o 7).obsMod o (fun x => { x with lostAt := now, agreeRun := 0, injecting := false })).raise FC.obsLost o)

/-- The AQR run of R255 after an evaluation. -/
def State.obsLostRun (o : Nat) (above : Bool) (s : State) : State :=
  let run := if above then (s.obsx o).lostRun + 1 else 0
  let s := s.obsMod o (fun x => { x with lostRun := run })
  if 8 ≤ run then s.obsLose o else s

/-! ## Residual supervision (R254) -/

/-- One residual sample; in regime 7 it never enters implausible (R263). -/
def State.obsResidualSample (o r regime : Nat) (s : State) : State :=
  let q := F32.toRat r
  let s := s.put (Obj.obsResidual o) r
  let s := if s.oF (Obj.obsResidualPeak o) < q then s.put (Obj.obsResidualPeak o) r else s
  let st := s.oN (Obj.obsSupState o)
  let res := supSample (s.obsx o).sup st q (s.cF (Obj.obsResidualThreshold o)) (s.cN (Obj.obsResidualCount o)) (s.cN (Obj.obsWarmup o) * 1000000) s.mono
  let res := if regime = 7 ∧ st ≠ 3 ∧ res.st = 3 then ⟨{ res.x with above := 0 }, 2, false⟩ else res
  let s := (s.obsMod o (fun x => { x with sup := res.x })).put (Obj.obsSupState o) res.st
  if res.raise then s.raise FC.obsImplausible o else s

/-! ## Commutation supervision (R257 to R259) -/

/-- The sector of an angle, and its distance from the nearer boundary in 12ths of an au. -/
def sectorOf (a : Nat) : Nat := a * 12 / 4294967296
def sectorInside (a : Nat) : Nat := min (a * 12 % 4294967296) (4294967296 - a * 12 % 4294967296)

/-- A commutation event, where the angle lies deep enough in a new sector (R257). -/
def State.obsCommute (o : Nat) (s : State) : State :=
  let a := s.oN (Obj.obsAngle o)
  let sec := sectorOf a
  let old := s.oN (Obj.commSector o)
  if sec = old ∨ ¬ (s.cF (Obj.commSectorHysteresis o) / 360 * 4294967296 * 12 < (sectorInside a : Rat)) then s
  else
    let up := (sec + 12 - old) % 12
    let fwd := up < 6 || (up == 6 && decide (0 ≤ s.oF (Obj.obsFrequency o)))
    let s := (((s.put (Obj.commSector o) sec).put (Obj.commDirection o) (if fwd then 1 else 2)).inc32 (Obj.commEventCount o)).put (Obj.commLastEventTime o) s.now
    s.obsMod o (fun x => { x with net := x.net + (if fwd then 1 else -1) })

/-- The stall supervision after a step (R258). -/
def State.obsStall (o : Nat) (s : State) : State :=
  let x := s.obsx o
  let low := decide (|F32.toRat x.qCurrent| < s.cF (Obj.commStallCurrent o))
  if 2 ≤ x.net.natAbs ∨ low then (s.obsMod o (fun x => { x with net := 0 })).put (Obj.commStallState o) (if low then 0 else 1)
  else if s.oN (Obj.commStallState o) = 0 then s.put (Obj.commStallState o) 1
  else s

/-- ReversalPermit after a step (R259). -/
def State.obsPermit (o : Nat) (s : State) : State :=
  if s.oN (Obj.obsValid o) = 1 then
    let p := s.percentOf o (s.oF (Obj.obsFrequency o))
    let t := s.cF (Obj.reversalThreshold o)
    if p ≤ t then s.put (Obj.reversalPermit o) 1 else if mkRat 3 2 * t < p then s.put (Obj.reversalPermit o) 0 else s
  else s.put (Obj.reversalPermit o) (if (s.obsx o).standstill then 1 else 0)

/-! ## One step (R240 to R256) -/

/-- The two estimates agree within ObsReacqTolerance. -/
def State.obsAgree (s : State) (o low emf : Nat) : Bool :=
  decide (((toSigned 32 (emf + 4294967296 - low)).natAbs : Rat) ≤ s.cF (Obj.obsReacqTolerance o) / 360 * 4294967296)

/-- Re-acquisition in regime 7 (R256). -/
def State.obsReacq (o low emf freq : Nat) (s : State) : State :=
  let s := s.obsShow o low freq
  let run := if s.obsAgree o low emf && s.oN (Obj.obsSupState o) == 2 then (s.obsx o).agreeRun + 1 else 0
  let s := s.obsMod o (fun x => { x with agreeRun := run })
  if 8 ≤ run then
    (s.put (Obj.obsReacqTime o) (min ((s.mono - (s.obsx o).lostAt) / 1000) 5000 : Nat)).obsBlend o low emf freq
  else s

/-- The update that an observer hands every timebase that follows it (R240). -/
def State.obsUpdate (o age : Nat) (s : State) : State :=
  s.forAll ((List.range 8).filter (fun t => s.cN (Obj.tbSource t) == 1 && s.cN (Obj.tbSourceInstance t) == o)) (fun t u =>
    u.tbUpdate t (u.oN (Obj.obsValid o) == 1) (u.oN (Obj.obsAngle o)) (speedOfHz (u.oF (Obj.obsFrequency o))) age none)

/-- The first step after a pass or a reset: catch, or the initial test for actuators and the pump (R248). -/
def State.obsBegin (o : Nat) (s : State) : State :=
  let now := s.mono
  let s := s.obsMod o (fun _ => { firstUse := some now })
  let s := s.obsSet o (if o < 4 then 1 else 2)
  if 4 ≤ o ∧ (s.obsChans o).all (fun c => s.drive c == .switching) then s.testBegin o else s

/-- A step in regimes 3 to 6: the estimates, their blend, the residual, and in regime 6 the AQR (R244, R247, R252, R254). -/
def State.obsTrack (o : Nat) (q : StepIn) (residual : Nat) (s : State) : State :=
  let s := s.estimate o q
  let x := s.obsx o
  let f := s.obsFreq o
  let s := (s.obsBlend o x.low x.emfAngle f).obsResidualSample o residual 3
  if s.oN (Obj.obsRegime o) = 6 then
    let r := s.obsAqr o f x.eps residual (if x.interval = 0 then F32.ofRat q.t else x.interval)
    if (r.1.obsx o).evaluating then r.1.obsLostRun o r.2 else r.1
  else s

/-- The estimates of one step, by regime. A step with none before it has no interval and leaves only its currents. -/
def State.obsEstimate (o age : Nat) (q : StepIn) (residual : Nat) (s : State) : State :=
  match s.oN (Obj.obsRegime o) with
  | 0 => s.obsBegin o
  | 1 => if (s.obsChans o).all (fun c => s.drive c == .pulseOff) then s.catchStep o q else s
  | 2 =>
    if ¬ (s.obsx o).testing then s
    else if (s.obsx o).pulseAt.isNone then s.settleStep o q
    else s.pulseStep o age q
  | 8 => s
  | 7 =>
    if (s.obsx o).stepTick.isNone then s
    else
      let s := (s.estimate o q).obsResidualSample o residual 7
      s.obsReacq o (s.obsx o).low (s.obsx o).emfAngle (s.obsx o).lowFreq
  | _ => if (s.obsx o).stepTick.isNone then s else s.obsTrack o q residual

/-- The estimates of a step from what it found, kept with it, and its current across the estimated axis. -/
def State.obsTake (o age : Nat) (q : StepIn) (residual : Nat) (s : State) : State :=
  let s := s.obsEstimate o age q residual
  (s.keepStep o age q).obsMod o (fun x => { x with qCurrent := F32.ofRat (q.i.into (s.oN (Obj.obsAngle o))).b })

/-- What a step that tracks does with its estimates: block commutation and the watch for a stall. -/
def State.obsTurns (o : Nat) (s : State) : State :=
  let r := s.oN (Obj.obsRegime o)
  if 3 ≤ r ∧ r ≤ 6 then (s.obsCommute o).obsStall o else s

/-- A machine's first step ends its wait in a request for M3. -/
def State.obsSeen (o : Nat) (s : State) : State := { s with md := { s.md with m3Wait := s.md.m3Wait.filter (fun m => m != o) } }

/-- One observer step, without what other functions do with it. -/
def State.obsStep (o age : Nat) (s : State) : State :=
  if ¬ s.obsOn o then s
  else
    let s := s.obsSeen o
    (((s.obsTake o age (s.stepIn o age) (s.residualOf o (s.predicted o (s.stepIn o age)))).obsTurns o).obsPermit o).obsUpdate o age

/-! ## First use (R248 to R251) -/

/-- The catch check ends: caught on the fly, or standstill, by the back-EMF vector of its last step and how it has turned (R248). -/
def State.catchEnd (o : Nat) (s : State) : State :=
  let x := s.obsx o
  if ¬ s.obsOn o ∨ s.oN (Obj.obsRegime o) ≠ 1 then s
  else if s.cF (Obj.obsCatchMinVoltage o) ≤ F32.toRat x.catchEmf then
    let q : Int := if F32.neg x.catchFreq then 1073741824 else -1073741824
    let s := s.obsMod o (fun x => { x with standstill := false })
    (s.obsFound o (toUnsigned 32 ((x.catchAngle.getD 0 : Int) + q)) x.catchFreq).obsPermit o
  else
    let s := (s.obsMod o (fun x => { x with standstill := true })).put (Obj.reversalPermit o) 1
    if (s.obsChans o).any (fun c => s.drive c == .switching) then (s.obsSet o 2).testBegin o else s

/-- CATCH_CHECK_END. -/
def execCatchCheckEnd (obs : Fin 9) (s : State) : Host.Outcome State Fault Refusal := .next (s.catchEnd obs.val)

/-- A regime-2 test is abandoned: from regime 1 again, or after 10 ms for an actuator and the pump (R251). -/
def State.obsAbandon (o : Nat) (s : State) : State :=
  if s.oN (Obj.obsRegime o) = 2 ∧ (s.obsx o).testing then
    let s := s.obsMod o (fun x =>
      { x with testing := false, tries := 0, pulseAt := none, abandoned := decide (4 ≤ o), standstill := false, catchEmf := 0, catchAngle := none, turned := 0, turnTime := 0 })
    if o < 4 then s.obsSet o 1 else s
  else s

/-- Abandon the tests whose channels no longer all switch (R251, R263). -/
def State.obsWatch (s : State) : State :=
  s.forAll ((List.range 9).filter (fun o => s.oN (Obj.obsRegime o) == 2 && (s.obsx o).testing &&
    (s.obsChans o).any (fun c => s.drive c != .switching))) State.obsAbandon

/-- The injection tracker has settled on an axis; a rotor that turned abandons the test of an actuator or the pump (R249,
R251). -/
def State.settleEnd (o : Nat) (s : State) : State :=
  let x := s.obsx o
  if ¬ s.obsOn o ∨ s.oN (Obj.obsRegime o) ≠ 2 ∨ ¬ x.testing ∨ x.pulseAt.isSome ∨ s.cN (Obj.obsInjEnable o) = 0 then s
  else if 4 ≤ o ∧ 357913941 < (toSigned 32 (x.track + 4294967296 - x.trackFrom.getD x.track)).natAbs then s.obsAbandon o
  else
    let now := s.mono
    (s.put (Obj.obsAngle o) x.track).obsMod o (fun x => { x with pulseAt := some now, peaks := List.replicate 12 0 })

/-- INJECTION_SETTLE_END. -/
def execInjectionSettleEnd (obs : Fin 9) (s : State) : Host.Outcome State Fault Refusal := .next (s.settleEnd obs.val)

/-- The index of the largest of twelve peaks, the first of equals. -/
def largestPeak (p : Nat → Rat) : Nat := (List.range 12).foldl (fun b k => if p b < p k then k else b) 0

/-- The angle of the twelve-direction test: a parabola through the largest peak and its neighbours (R250); where the three
lie on a line the vertex is free. -/
def parabolaAngle (p : Nat → Rat) (free : Rat) : Nat :=
  let k := largestPeak p
  let a := p ((k + 11) % 12)
  let b := p k
  let c := p ((k + 1) % 12)
  let d := if a - 2 * b + c = 0 then free else (a - c) / (2 * (a - 2 * b + c))
  toUnsigned 32 (F32.roundEven (((2 * k + 1 : Nat) : Rat) * 4294967296 / 24 + d * 4294967296 / 12))

/-- A request for M3 ends with 0x04: the groups of every enabled machine go to pulse-off with GroupRunRequest 0 (R44). -/
def State.m3Fail (s : State) : State :=
  let gs := hbGroups.filter (fun g => (s.groupFns g).any (fun f => match f with | .traction _ => true | _ => false))
  let s := s.forAll gs (fun g t => (t.groupOff g).put (Obj.groupRunRequest g) 0)
  let s := (s.put Obj.modeRequestResult 4).put Obj.modeTarget 0xFF
  { s with md := { s.md with requested := false, m3Wait := [] } }

/-- The mode entry that waits for an observer ends with 0x04 (R44, R53). -/
def State.bringUpFails (o : Nat) (s : State) : State :=
  if o < 4 ∧ s.md.requested ∧ s.oN Obj.modeTarget = 3 ∧ s.cN (Obj.tracEnable o) = 1 then s.m3Fail else s

/-- A machine's bring-up has run out of its limit: the observer has failed, or its warm-up is not over 50 ms after it began, judged at
the millisecond after (R44, R53; DEDUCED, log 77). -/
def State.m3Late (s : State) (m : Nat) : Bool :=
  s.oN (Obj.obsRegime m) == 8 ||
  (s.oN (Obj.obsValid m) == 1 && s.oN (Obj.obsSupState m) == 1 && decide (max (s.obsx m).sup.since s.md.since + 51000000 ≤ s.mono))

/-- Every millisecond of a request for M3. -/
def State.m3Watch (s : State) : State :=
  if s.md.requested ∧ s.oN Obj.modeTarget = 3 ∧ (List.range 4).any (fun m => s.cN (Obj.tracEnable m) == 1 && s.m3Late m) then s.m3Fail else s

/-- The pulses end: the angle is known, or the polarity test repeats, or it has failed three times (R249, R250). -/
def State.polarityEnd (o : Nat) (s : State) : State :=
  let p := fun k => F32.toRat ((s.obsx o).peaks.getD k 0)
  if ¬ s.obsOn o ∨ s.oN (Obj.obsRegime o) ≠ 2 ∨ ¬ (s.obsx o).testing then s
  else if s.cN (Obj.obsInjEnable o) = 0 then
    ((s.obsFound o (parabolaAngle p (mkRat (Config.freeValue 1003 s.freeIx) 16777216)) 0).fresh).obsPermit o
  else
    let hi := max (p 0) (p 1)
    if s.cF (Obj.obsPolarityMargin o) / 100 * hi ≤ |p 0 - p 1| then
      let a := s.oN (Obj.obsAngle o)
      (s.obsFound o (if p 1 < p 0 then a else (a + 2147483648) % 4294967296) 0).obsPermit o
    else if 2 ≤ (s.obsx o).tries then
      (((s.obsSet o 8).obsMod o (fun x => { x with testing := false, pulseAt := none })).raise FC.obsPolarity o).bringUpFails o
    else
      let now := s.mono
      s.obsMod o (fun x => { x with tries := x.tries + 1, pulseAt := some now, peaks := List.replicate 12 0 })

/-- POLARITY_TEST_END. -/
def execPolarityTestEnd (obs : Fin 9) (s : State) : Host.Outcome State Fault Refusal := .next (s.polarityEnd obs.val)

/-- TEST_RESTART_DELAY: an abandoned test of an actuator or the pump may restart (R251). -/
def State.testRestart (o : Nat) (s : State) : State :=
  if s.obsOn o ∧ 4 ≤ o ∧ (s.obsx o).abandoned then
    let on := (s.obsChans o).all (fun c => s.drive c == .switching)
    let s := s.obsMod o (fun x => { x with abandoned := false })
    if on then s.testBegin o else s
  else s

/-- TEST_RESTART_DELAY. -/
def execTestRestartDelay (obs : Fin 9) (s : State) : Host.Outcome State Fault Refusal := .next (s.testRestart obs.val)

/-- OBS_STARTFAIL (R251). -/
def State.obsStartFail (o : Nat) (s : State) : State :=
  if s.obsOn o ∧ s.oN (Obj.obsValid o) = 0 ∧ (s.oN (Obj.obsRegime o) = 1 ∨ s.oN (Obj.obsRegime o) = 2) then
    (((s.obsSet o 8).obsMod o (fun x => { x with testing := false, pulseAt := none })).raise FC.obsStartfail o).bringUpFails o
  else s

/-- OBS_STARTFAIL. -/
def execObsStartfail (obs : Fin 9) (s : State) : Host.Outcome State Fault Refusal := .next (s.obsStartFail obs.val)

/-- OBS_REACQFAIL (R256): the observer fails; its updates are invalid. -/
def State.obsReacqFail (o : Nat) (s : State) : State :=
  if s.obsOn o ∧ s.oN (Obj.obsRegime o) = 7 then (((s.obsSet o 8).put (Obj.obsValid o) 0).raise FC.obsReacqfail o).bringUpFails o else s

/-- OBS_REACQFAIL. -/
def execObsReacqfail (obs : Fin 9) (s : State) : Host.Outcome State Fault Refusal := .next (s.obsReacqFail obs.val)

/-- The locked-rotor signature (R258), without the actuator's own consequence. -/
def State.stallSignature (o : Nat) (s : State) : State :=
  let s := (s.put (Obj.commStallState o) 2).incSat (Obj.commStallCount o)
  if o < 4 then s.raise FC.obsStall o else if o = 8 then s.raise FC.obsLocked 8 else s

/-- A per-function reset clears the observer (R263): the next step starts at R248. -/
def State.obsReset (o : Nat) (s : State) : State :=
  let s := ((s.obsMod o (fun _ => {})).obsSet o 0).put (Obj.obsValid o) 0
  (((s.put (Obj.obsSupState o) 0).put (Obj.obsResidual o) 0).put (Obj.obsResidualPeak o) 0).put (Obj.reversalPermit o) 0

/-- A swap of the observer's scope (R263, R264): disabled, or the warm-up restarts. -/
def State.obsSwap (o : Nat) (s : State) : State :=
  if s.cN (Obj.obsEnable o) = 0 then
    if s.oN (Obj.obsRegime o) = 0 then s
    else (((s.obsMod o (fun _ => {})).obsSet o 0).put (Obj.obsValid o) 0).put (Obj.obsSupState o) 0
  else if s.oN (Obj.obsRegime o) = 0 then s else s.obsWarm o

end Sys2Proof.Machine
end

