-- ==== Sys2Proof/Machine/SafetyIo.lean ====
section
/-! DEFINITION. Safety outputs and inputs, pin readback and the proof interval (R500, R504, R516 to R530). Readback bits are
bit 0 SOn_RBH and bit 1 SOn_RBL. -/

namespace Sys2Proof.Machine

/-- The safety I/O works: M2 to M10 (R529). -/
def State.safOn (s : State) : Bool := s.engOn

/-! ## Outputs -/

/-- The output conducts: energised, in an off-pulse, or driving a pilot. -/
def State.soOn (s : State) (n : Nat) : Bool := [3, 4, 5].contains (s.oN (Obj.soState n))

/-- An energise command of the owning function: the switch-alone test begins, or the pilot drive (R516, R518). A held output
and one under the island's override stay de-energised. -/
def State.soRequest (n : Nat) (s : State) : State :=
  if 8 ≤ n ∨ s.mode = 9 ∨ s.oN (Obj.soState n) ≠ 1 then s
  else if s.oN (Obj.soMode n) = 2 then (s.put (Obj.soCommand n) 1).put (Obj.soState n) 5
  else (s.put (Obj.soCommand n) 1).put (Obj.soState n) 2

/-- A de-energise command: both switches low in the tick of the decision (R516). -/
def State.soRelease (n : Nat) (s : State) : State :=
  if 8 ≤ n then s
  else
    let s := s.put (Obj.soCommand n) 0
    if s.oN (Obj.soMode n) = 0 ∨ s.oN (Obj.soState n) = 6 ∨ s.oN (Obj.soState n) = 7 then s else s.put (Obj.soState n) 1

/-- A switch reads conducting while commanded off: the output is held de-energised (R517). -/
def State.soStuckOn (n : Nat) (s : State) : State :=
  (((s.put (Obj.soCommand n) 0).put (Obj.soState n) 6).incSat (Obj.soFaultCount n)).raise FC.safSostuckon n

/-- A switch reads off while commanded on: the output is de-energised (R517). -/
def State.soStuckOff (n : Nat) (s : State) : State :=
  (((s.put (Obj.soCommand n) 0).put (Obj.soState n) 1).incSat (Obj.soFaultCount n)).raise FC.safSostuckoff n

/-- One check of the switch-alone test: whether each switch is commanded on, and whether it is compared. -/
structure SoCheck where
  high : Bool
  low : Bool
  cmpHigh : Bool := true
  cmpLow : Bool := true
  deriving DecidableEq, Repr

/-- The checks of R518 in order. -/
def soChecks : List SoCheck :=
  [⟨false, false, true, true⟩, ⟨false, true, true, true⟩, ⟨false, false, false, true⟩, ⟨true, false, true, true⟩, ⟨false, false, true, false⟩]

/-- The result of a check on two readbacks: 0 passed, 1 stuck on, 2 stuck off. -/
def SoCheck.result (c : SoCheck) (rbh rbl : Bool) : Nat :=
  if (c.cmpHigh && rbh && !c.high) || (c.cmpLow && rbl && !c.low) then 1
  else if (c.cmpHigh && !rbh && c.high) || (c.cmpLow && !rbl && c.low) then 2
  else 0

/-- The first check that fails, by the readbacks of the five checks (bits 2k and 2k + 1). -/
def soTest (reads : Nat) : Nat :=
  (soChecks.zipIdx).foldl (fun r p => if r ≠ 0 then r else p.1.result (reads.testBit (2 * p.2)) (reads.testBit (2 * p.2 + 1))) 0

/-- SO_ENERGISE: the command with the readbacks of the test's checks (R518). -/
def State.soEnergise (n reads : Nat) (s : State) : State :=
  if ¬ s.safOn ∨ s.mode = 9 ∨ ¬ [1, 2].contains (s.oN (Obj.soState n)) then s
  else if s.oN (Obj.soMode n) = 2 then (s.put (Obj.soCommand n) 1).put (Obj.soState n) 5
  else if s.oN (Obj.soMode n) = 0 then s
  else
    match soTest reads with
    | 0 => (((s.put (Obj.soCommand n) 1).put (Obj.soState n) 3).put (Obj.soReadback n) 3).put (Obj.soLastTestTime n) s.now
    | 1 => s.soStuckOn n
    | _ => s.soStuckOff n

/-- SO_ENERGISE. -/
def execSoEnergise (so : Fin 8) (reads : BitVec 10) (s : State) : Host.Outcome State Fault Refusal :=
  .next (s.soEnergise so.val reads.toNat)

/-- SO_DEENERGISE. -/
def execSoDeenergise (so : Fin 8) (s : State) : Host.Outcome State Fault Refusal :=
  .next (if s.safOn then s.soRelease so.val else s)

/-- SO_READBACK_MISMATCH: SoReadbackFilter samples in a row differ from the command (R517). -/
def State.soMismatch (n rb : Nat) (s : State) : State :=
  if ¬ s.safOn ∨ s.oN (Obj.soMode n) ≠ 1 ∨ ¬ [1, 3].contains (s.oN (Obj.soState n)) then s
  else
    let on := s.oN (Obj.soState n) == 3
    let s := s.put (Obj.soReadback n) rb
    match (SoCheck.mk on on true true).result (rb.testBit 0) (rb.testBit 1) with
    | 0 => s
    | 1 => s.soStuckOn n
    | _ => s.soStuckOff n

/-- SO_READBACK_MISMATCH. -/
def execSoReadbackMismatch (so : Fin 8) (readback : BitVec 2) (s : State) : Host.Outcome State Fault Refusal :=
  .next (s.soMismatch so.val readback.toNat)

/-- SO_OFF_PULSE: the pulsed switch's readback after it turned off and after it turned on again (R519). -/
def State.soOffPulse (n : Nat) (afterOff afterOn : Bool) (s : State) : State :=
  if ¬ s.safOn ∨ s.oN (Obj.soMode n) ≠ 1 ∨ s.oN (Obj.soState n) ≠ 3 ∨ s.oN (Obj.soOffPulseEnable n) = 0 then s
  else
    let s := { s with soHigh := s.soHigh.set n (!s.soHigh.getD n true) }
    if afterOff then s.soStuckOn n else if ¬ afterOn then s.soStuckOff n else s

/-- SO_OFF_PULSE. -/
def execSoOffPulse (so : Fin 8) (afterOff afterOn : Bool) (s : State) : Host.Outcome State Fault Refusal :=
  .next (s.soOffPulse so.val afterOff afterOn)

/-- SAF_SOREADBACK: three cycles of a pilot drive mismatch; both switches are held off (R520). -/
def State.soPilotFault (n : Nat) (s : State) : State :=
  if s.safOn ∧ s.oN (Obj.soMode n) = 2 ∧ s.oN (Obj.soState n) = 5 then
    (((s.put (Obj.soCommand n) 0).put (Obj.soState n) 6).incSat (Obj.soFaultCount n)).raise FC.safSoreadback n
  else s

/-- SAF_SOREADBACK. -/
def execSafSoreadback (so : Fin 8) (s : State) : Host.Outcome State Fault Refusal := .next (s.soPilotFault so.val)

/-! ## Inputs -/

def State.siX (s : State) (n : Nat) : SiX := s.six.getD n {}
def State.siMod (n : Nat) (f : SiX → SiX) (s : State) : State := { s with six := modifyAt s.six n f }

/-- The input's value becomes demand (R526). -/
def State.siDemand (n : Nat) (s : State) : State :=
  if s.oN (Obj.siValue n) = 0 then s
  else ((s.put (Obj.siValue n) 0).incSat (Obj.siDemandCount n)).raise FC.safSidemand n

/-- SI_VALUE_CHANGE: a level has held for SiFilter (R522, R524, R526). -/
def State.siChange (n : Nat) (level : Bool) (s : State) : State :=
  let st := s.oN (Obj.siState n)
  if ¬ s.safOn ∨ s.oN (Obj.siMode n) = 0 then s
  else if st = 4 ∧ (s.isSet FC.safSishort n ∨ s.isSet FC.safSidiscrepancy n) then s
  else if st = 3 then
    if level then
      let s := s.put (Obj.siValue n) 1
      if (s.siX n).seen then (s.put (Obj.siState n) 1).siMod n (fun x => { x with seen := false }) else s
    else (s.put (Obj.siValue n) 0).siMod n (fun x => { x with seen := true })
  else if level then (s.put (Obj.siValue n) 1).put (Obj.siState n) 1
  else (s.siDemand n).put (Obj.siState n) 2

/-- SI_VALUE_CHANGE. -/
def execSiValueChange (si : Fin 16) (level : Bool) (s : State) : Host.Outcome State Fault Refusal :=
  .next (s.siChange si.val level)

/-- A fault of an input: it takes the value demand (R523, R525). -/
def State.siFault (n code : Nat) (s : State) : State :=
  (((s.siDemand n).put (Obj.siState n) 4).incSat (Obj.siFaultCount n)).raise code n

/-- One tested input at the check of its pulse (R523). -/
def State.siPulse (reads n : Nat) (s : State) : State :=
  if reads.testBit n then
    let k := (s.siX n).fails + 1
    let s := s.siMod n (fun x => { x with fails := k })
    if k = 2 then s.siFault n FC.safSishort else s
  else s.siMod n (fun x => { x with fails := 0 })

/-- SI_TEST_PULSE_CHECK: the levels of the inputs SiTestDelay after the start of a pulse of TPk (R523). -/
def execSiTestPulseCheck (tp : Fin 4) (reads : BitVec 16) (s : State) : Host.Outcome State Fault Refusal :=
  .next (
    let ns := (List.range 16).filter (fun n => 2 ≤ s.oN (Obj.siMode n) && s.oN (Obj.siTestSource n) == tp.val)
    if s.safOn then s.forAll ns (State.siPulse reads.toNat) else s)

/-- The two channels of an input's pair disagree (R525). -/
def State.siDisagree (s : State) (n : Nat) : Bool :=
  let p := s.oN (Obj.siPartner n)
  p < 16 && s.oN (Obj.siMode n) != 0 && ((s.oN (Obj.siValue n) == s.oN (Obj.siValue p)) == (s.oN (Obj.siPairType n) == 1))

/-- SAF_SIDISCREPANCY. -/
def execSafSidiscrepancy (si : Fin 16) (s : State) : Host.Outcome State Fault Refusal :=
  .next (if s.safOn && s.siDisagree si then s.siFault si FC.safSidiscrepancy else s)

/-- The inputs at the end of M0, or after a write of SiMode: off, awaiting the start-up test, or by value (R524). -/
def State.siStart (n : Nat) (s : State) : State :=
  let s := s.siMod n (fun _ => {})
  s.put (Obj.siState n) (match s.oN (Obj.siMode n) with
    | 0 => 0
    | 3 => 3
    | _ => if s.oN (Obj.siValue n) = 1 then 1 else 2)

/-! ## Pin readback and proof interval -/

/-- SAF_PINREADBACK: a ball differs from its command on two ticks; under the override the island records it (R500). -/
def State.pinReadback (ball : Nat) (s : State) : State :=
  if s.isl.whole ∨ s.mode = 9 then s.record FC.safPinreadback ball false false [] 0
  else if s.safOn then (s.incSat Obj.safPinReadbackCount).raise FC.safPinreadback ball
  else s

/-- SAF_PINREADBACK. -/
def execSafPinreadback (ball : Fin 176) (s : State) : Host.Outcome State Fault Refusal := .next (s.pinReadback ball.val)

/-- SAF_PROOFDUE: SafSinceProof has reached SafProofInterval (R504). -/
def execSafProofdue (s : State) : Host.Outcome State Fault Refusal :=
  .next (if s.up then (s.put Obj.safSinceProof (max (s.o Obj.safSinceProof) (s.o Obj.safProofInterval))).raise FC.safProofdue 0 else s)

end Sys2Proof.Machine
end

