-- ==== Sys2Proof/Machine/Traction.lean ====
section
/-! DEFINITION. Traction (R266 to R293): the limit stage, the safe-state rule and its plans, loss of angle, degraded
operation, the link's overvoltage stages and the brake chopper. -/

namespace Sys2Proof.Machine

/-- A machine's hidden part. -/
def State.tracx (s : State) (m : Nat) : TracX := s.trac.getD m {}
def State.tracMod (m : Nat) (f : TracX → TracX) (s : State) : State := { s with trac := modifyAt s.trac m f }

/-- The traction block works: M2 to M10, a vehicle, the machine enabled. -/
def State.tracOn (s : State) (m : Nat) : Bool := s.engOn && !s.station && s.cN (Obj.tracEnable m) == 1

/-- Falls linearly from 1 at `a` to 0 at `b`, for a < b or b < a. -/
def fallBetween (x a b : Rat) : Rat :=
  if a ≤ b then (if x ≤ a then 1 else if b ≤ x then 0 else (b - x) / (b - a))
  else (if a ≤ x then 1 else if x ≤ b then 0 else (x - b) / (a - b))

/-! ## The limit stage (R267 to R270, R276 to R278) -/

/-- The link input of a machine, and the link's voltage: the mean of the last ten conversions (R270, R284). -/
def State.tracLinkOf (s : State) (m : Nat) : Nat := s.cN (Obj.obsLinkInput m)
def State.linkVolts (s : State) (l : Nat) : Rat :=
  match (s.vdcx l).recent with
  | [] => s.oF (Obj.vdcValue l)
  | ws => (ws.map F32.toRat).sum / (ws.length : Rat)

/-- The temperatures that count: valid inputs, and an input out of its window as half the margin (R270). -/
def State.tracTemps (s : State) (m : Nat) : List Rat :=
  ((map8 (s.cN (Obj.tracTempInputs m))).filter (· < 16)).filterMap (fun n =>
    match s.oN (Obj.ainState n) with
    | 1 => some (s.oF (Obj.ainValue n))
    | 2 => some ((s.cF (Obj.tracDerateStart m) + s.cF (Obj.tracDerateEnd m)) / 2)
    | _ => none)

/-- The largest of a list, from a start. -/
def maxOf (l : List Rat) (z : Rat) : Rat := l.foldl max z

/-- k_th (R270). -/
def State.kTh (s : State) (m : Nat) : Rat :=
  match s.tracTemps m with
  | [] => 1
  | t :: ts => fallBetween (maxOf ts t) (s.cF (Obj.tracDerateStart m)) (s.cF (Obj.tracDerateEnd m))

/-- k_deg, the smallest factor in force (R269, R277, R280, R282). -/
def State.kDeg (s : State) (m : Nat) : Rat :=
  let f := if s.oN (Obj.obsSupState m) = 3 then [s.cF (Obj.tracImplausibleLimit m) / 100] else []
  let f := f ++ (if (s.oN (Obj.tracLimpCause m)).testBit 0 then [s.cF (Obj.tracSensorLimit m) / 100] else [])
  let f := f ++ (if (s.oN (Obj.tracLimpCause m)).testBit 1 then [s.cF (Obj.tracOpenSetLimit m) / 100] else [])
  f.foldl min 1

/-- Zero current is held (R44, R276, R280, R282). -/
def State.zeroCurrent (s : State) (m : Nat) : Bool :=
  s.oN (Obj.obsRegime m) == 7 ||
  (match (s.tracx m).zeroHold with | some (k, _) => k != 1 | none => false) ||
  (s.mode == 2)

/-- k_stall after `dt` ns (R278). -/
def State.kStallNext (s : State) (m dt : Nat) : Rat :=
  let k := F32.toRat (s.tracx m).kStall
  let lo := s.cF (Obj.tracStallCurrentLimit m) / 100
  let d := (1 - lo) * mkRat dt (s.cN (Obj.tracStallDerateTime m) * 1000000)
  if s.oN (Obj.commStallState m) = 2 then max lo (k - d) else min 1 (k + d)

/-- The set-point before the limits: the ramp to zero on the way to M2, which ignores the request (R45), that of a lost request (R268), or
the request at its slew. -/
def State.nextSetpoint (s : State) (m dt : Nat) : Rat :=
  match (s.tracx m).exit.or (s.tracx m).ramp with
  | some (a, t0, ms) => F32.toRat a * max 0 (1 - mkRat ((s.mono - t0 : Nat) : Int) (ms * 1000000))
  | none =>
    let sp := s.oF (Obj.tracTorqueSetpoint m)
    let r := s.oF (Obj.tracTorqueRequest m)
    let d := s.cF (Obj.tracTorqueSlew m) * mkRat dt 1000000000
    if sp < r then min r (sp + d) else max r (sp - d)

/-- Mechanical speed, rad/s; and rad/s of an rpm value. -/
def State.mechSpeed (s : State) (m : Nat) : Rat := 2 * F32.pi * s.oF (Obj.obsFrequency m) / (s.cN (Obj.obsPolePairs m) : Rat)
def radOfRpm (n : Rat) : Rat := n * 2 * F32.pi / 60

/-- Battery power of a machine, W, 0 while the battery is not connected (R269). -/
def State.batteryPower (s : State) (m : Nat) (discharge : Bool) : Rat :=
  let l := s.tracLinkOf m
  if s.oN (Obj.tracBatteryConnected l) = 0 then 0
  else (if discharge then s.oF (Obj.tracBatteryDischargeLimit l) else s.oF (Obj.tracBatteryChargeLimit l)) * 1000 * s.cF (Obj.tracPowerShare m) / 100

/-- Bits of TracActiveLimiter. -/
def bitIf (b : Bool) (n : Nat) : Nat := if b then 2 ^ n else 0

/-- The limit stage of machine m at the start of slot n of its pair: limits, set-point and the eight words of the snapshot. -/
def State.limitStage (m n : Nat) (s : State) : State :=
  let l := s.tracLinkOf m
  let dt := s.mono - (s.tracx m).last
  let temps := (map8 (s.cN (Obj.tracTempInputs m))).filter (· < 16)
  let s := if temps.any (fun a => s.oN (Obj.ainState a) == 2) && !s.isSet FC.trcThermal m then s.raise FC.trcThermal m else s
  let v := s.linkVolts l
  let kth := s.kTh m
  let kuv := fallBetween v (s.cF (Obj.tracUv1 l)) (s.cF (Obj.tracUv2 l))
  let kov := fallBetween v (s.cF (Obj.tracOv1 l)) (s.oF (Obj.tracOv3Effective l))
  let kdeg := s.kDeg m
  let kst := s.kStallNext m dt
  let wm := s.mechSpeed m
  let w := max |wm| (radOfRpm (s.cF (Obj.tracPowerSpeedFloor m)))
  let pm := s.batteryPower m true / w
  let pr := s.batteryPower m false / w
  let mm := s.cF (Obj.tracTorqueMaxMotor m)
  let mr := s.cF (Obj.tracTorqueMaxRegen m)
  let tm := min mm pm * kth * kuv * kdeg
  let tr := min mr pr * kth * kov * kdeg
  let hi := if 0 ≤ wm then tm else tr
  let lo := if 0 ≤ wm then -tr else -tm
  let rec_ := match (s.tracx m).recoverAt with
    | some t0 => min 1 (mkRat ((s.mono - t0 : Nat) : Int) (s.cN (Obj.tracRecoverRamp m) * 1000000))
    | none => 1
  let cur := s.cF (Obj.tracCurrentLimit m) * kth * kdeg * kst * rec_
  let sp := max lo (min hi (s.nextSetpoint m dt))
  let zero := s.zeroCurrent m
  let speedMode := s.oN (Obj.tracModeRequest m) == 1
  let rpm := wm * 60 / (2 * F32.pi)
  let asked := if speedMode then s.oF (Obj.tracSpeedRequest m)
    else if wm < 0 then - s.cF (Obj.tracSpeedMax m) else s.cF (Obj.tracSpeedMax m)
  let against := speedMode && s.oN (Obj.reversalPermit m) == 0 && decide (asked * rpm < 0)
  let s := if against && !s.isSet FC.obsReversal m then s.raise FC.obsReversal m else s
  let ref := if against then F32.toRat (s.tracx m).speedRef else asked
  let pp : Rat := s.cN (Obj.obsPolePairs m)
  let lim := bitIf (decide (mm ≤ pm) || decide (mr ≤ pr)) 0 + bitIf (decide (pm < mm) || decide (pr < mr)) 1 + bitIf (decide (kth < 1)) 2 +
    bitIf (decide (kuv < 1)) 3 + bitIf (decide (kov < 1)) 4 + bitIf (s.oN (Obj.tracLimpCause m) != 0) 5 + bitIf (s.oN (Obj.obsSupState m) == 3) 6 +
    bitIf (decide (kst < 1)) 7 + bitIf (s.tracx m).reqLoss 8 + bitIf zero 9
  let s := ((((s.putF (Obj.tracTorqueUpper m) hi).putF (Obj.tracTorqueLower m) lo).putF (Obj.tracTorqueSetpoint m) sp).putF (Obj.tracCurrentLimitNow m) cur)
  let s := ((s.put (Obj.tracActiveLimiter m) (lim : Nat)).putF (Obj.tracDegradeFactor m) kdeg).put (Obj.tracControlMode m)
    (if zero then 2 else if n = s.cN (Obj.tracSpeedSlot m) then 1 else 0)
  let now := s.mono
  let s := s.tracMod m (fun x => { x with last := now, kStall := F32.ofRat kst, speedRef := F32.ofRat ref })
  let flags := bitIf zero 0 + bitIf speedMode 1
  let ws : List (Nat × Nat) := [(0x178, F32.ofRat sp), (0x179, F32.ofRat hi), (0x17A, F32.ofRat lo), (0x17B, F32.ofRat cur),
    (0x17C, F32.ofRat (radOfRpm ref * pp)), (0x17D, F32.ofRat (radOfRpm (s.oF (Obj.tracAccelRequest m)) * pp)), (0x17E, flags), (0x17F, 0)]
  s.slotMod n (fun x => { x with words := ws })

/-- The limit stages of the machines whose pair slot n belongs to, at its start (R266). -/
def State.limitStages (n : Nat) (s : State) : State :=
  s.forAll ((List.range 4).filter (fun m => s.tracOn m && (s.cN (Obj.tracTorqueSlot m) == n || s.cN (Obj.tracSpeedSlot m) == n)))
    (fun m => State.limitStage m n)

/-- The request's connection begins to hold its substitute values, or valid frames return (R268). -/
def State.requestLost (m : Nat) (lost : Bool) (s : State) : State :=
  if ¬ s.tracOn m ∨ (s.tracx m).reqLoss = lost then s
  else if lost then
    let from_ := s.oN (Obj.tracTorqueSetpoint m)
    let now := s.mono
    let ms := s.cN (Obj.tracRequestLossRamp m)
    (s.tracMod m (fun x => { x with reqLoss := true, ramp := some (from_, now, ms) })).raise FC.trcReqloss m
  else s.tracMod m (fun x => { x with reqLoss := false, ramp := none })

/-! ## The safe-state rule (R272 to R274) -/

/-- ASC on a side, or pulse-off where neither side's supplies are ready: action and reason bits. -/
def State.ascSide (s : State) (chans : List Nat) (m : Nat) : PlanAct × Nat :=
  let upper := s.cN (Obj.tracAscSide m) == 0
  if s.sideReady chans upper then (if upper then .ascUpper else .ascLower, 0)
  else if s.sideReady chans (!upper) then (if upper then .ascLower else .ascUpper, 0)
  else (.pulseOff, 8)

/-- link_rising (R272). -/
def State.linkRising (s : State) (l : Nat) : Bool :=
  match s.linkPrev.getD l none with
  | none => false
  | some p =>
    decide (s.cF (Obj.tracOv1 l) < s.oF (Obj.vdcMean l)) &&
    decide (s.cF (Obj.tracLinkRiseRate l) * mkRat (s.cN Obj.tracPlanPeriod) 1000 < s.oF (Obj.vdcMean l) - F32.toRat p)

/-- absorbable (R272). -/
def State.absorbable (s : State) (l : Nat) : Bool :=
  s.oN (Obj.tracChopperAvailable l) == 1 || (s.oN (Obj.tracBatteryConnected l) == 1 && decide (0 < s.oF (Obj.tracBatteryChargeLimit l)))

/-- The angle and speed of a machine are known for the rule. -/
def State.speedKnown (s : State) (m : Nat) : Bool := s.oN (Obj.obsValid m) == 1 || (s.obsx m).standstill

/-- e_pk of a machine, V: √3 × ObsFlux × 2π × |f|, with √3 as the nearest F32 word of a long fraction. -/
def State.emfOf (s : State) (m : Nat) : Rat :=
  mkRat 17320508075688772935274463415058723 (10 ^ 34) * s.cF (Obj.obsFlux m) * 2 * F32.pi * |s.oF (Obj.obsFrequency m)|

/-- R272 over some channels of a machine: action, reason, e_pk. -/
def State.safeRule (s : State) (m : Nat) (chans : List Nat) : PlanAct × Nat × Rat :=
  let l := s.tracLinkOf m
  let asc := s.ascSide chans m
  if ¬ s.speedKnown m then (asc.1, 4 + asc.2, 0)
  else
    let e := s.emfOf m
    let lim := if (s.oN (Obj.safePlanReason m)).testBit 0 then s.cF (Obj.tracEmfRelease m) else 95
    if lim / 100 * s.oF (Obj.vdcMean l) < e then (asc.1, 1 + asc.2, e)
    else if s.linkRising l && !s.absorbable l then (asc.1, 2 + asc.2, e)
    else (.pulseOff, 0, e)

/-- The number that SafePlanAction shows. -/
def PlanAct.num : PlanAct → Nat
  | .pulseOff => 0
  | .ascUpper => 1
  | .ascLower => 2

/-- Firmware writes a machine's plan into the island's pending buffer; none is the default plan (R16). -/
def State.planWrite (m : Nat) (a : Option PlanAct) (s : State) : State :=
  { s with isl := { s.isl with pendingPlans := s.isl.pendingPlans.set m a } }

/-- The single write that commits what the buffer holds (R16). -/
def State.planCommit (m : Nat) (s : State) : State :=
  { s with isl := { s.isl with plans := s.isl.plans.set m (s.isl.pendingPlans.getD m none) } }

/-- The plan of the station functions, written and committed with the cabinet's start: pulse-off and every output de-energised, which is
what the default plan holds (R16, R17; DEDUCED, log 29). -/
def State.commitStation (s : State) : State :=
  let s := { s with isl := { s.isl with pendingStPlan := some .pulseOff } }
  { s with isl := { s.isl with stPlan := s.isl.pendingStPlan } }

/-- On entry to M1 firmware commits the default plan for every machine (R66). -/
def State.commitDefaults (s : State) : State :=
  let s := (s.forAll (List.range 4) (fun m t => t.planWrite m none)).forAll (List.range 4) State.planCommit
  let s := { s with isl := { s.isl with stPlan := none, pendingStPlan := none } }
  s.forAll (List.range 4) (fun m t => (t.put (Obj.safePlanAction m) 0xFF).put (Obj.safePlanReason m) 0)

/-- A commit captures GsKeeperDuty of the machine's supplies: their mean duty over the last millisecond (R148). -/
def State.captureDuty (m : Nat) (s : State) : State :=
  s.forAll ((s.obsChannels m).flatMap (fun n => [2 * n, 2 * n + 1])) (fun k t =>
    if t.oN (Obj.gsState k) = 3 then
      t.put (Obj.gsKeeperDuty k) (max 5 (min (t.cN (Obj.gsDutyMax k) : Int) (F32.roundEven (100 * t.meanDuty k))))
    else t)

/-- Commit a machine's plan (R16, R273), and apply it at once where the island already controls the machine. -/
def State.commitPlan (m : Nat) (a : PlanAct) (reason : Nat) (s : State) : State :=
  let old := s.isl.plans.getD m none
  let s := (s.planWrite m (some a)).planCommit m
  let s := (((s.put (Obj.safePlanAction m) (a.num : Nat)).put (Obj.safePlanReason m) reason).put (Obj.safePlanCommitTime m) s.now).inc32 (Obj.safePlanCommitCount m)
  let s := s.captureDuty m
  if (s.mode = 9 ∨ s.isl.held.contains (.traction m)) ∧ old ≠ some a ∧ ¬ s.isl.kept.contains m then s.planMachine m else s

/-- One machine's evaluation (R273). -/
def State.evaluatePlan (m : Nat) (s : State) : State :=
  let on := (s.tracx m).planOn || s.speedKnown m
  let s := s.tracMod m (fun x => { x with planOn := on })
  let r := s.safeRule m (s.obsChannels m)
  let s := s.putF (Obj.safePlanEmf m) r.2.2
  if ¬ on ∨ (s.tracx m).hwTick = some s.tick then s
  else
    let s := s.commitPlan m r.1 r.2.1
    if r.1 = .pulseOff then s.ascToOff m else s

/-- An evaluation that starts more than one period late: more than two periods after the one before it (R273). -/
def State.planLate (s : State) : Bool :=
  match s.planAt with
  | some t => decide (t + 2 * 1000 * s.cN Obj.tracPlanPeriod < s.mono)
  | none => false

/-- Every enabled machine's evaluation, and VdcMean kept for the next (R272, R273, R275). -/
def State.evaluatePlans (s : State) : State :=
  if ¬ s.engOn ∨ s.station then s
  else
    let ms := (List.range 4).filter s.tracOn
    let s := s.when s.planLate (State.incSat Obj.tracPlanLate)
    let s := s.forAll ms State.evaluatePlan
    { s with planAt := some s.mono, linkPrev := (List.range 4).map (fun l => some (s.oN (Obj.vdcMean l))) }

/-- SAFE_PLAN_EVALUATION. -/
def execSafePlanEvaluation (s : State) : Host.Outcome State Fault Refusal := .next s.evaluatePlans

/-- The rule gives ASC for some enabled machine (R45, R47). -/
def State.anyAsc (s : State) : Bool :=
  (List.range 4).any (fun m => s.cN (Obj.tracEnable m) == 1 && (s.safeRule m (s.obsChannels m)).1 != .pulseOff)

/-- The hardware commit of ASC for every machine on a link (R284, R286). -/
def State.hardwareAsc (l : Nat) (s : State) : State :=
  s.forAll (s.linkMachines l) (fun m t =>
    let a := t.ascSide (t.obsChannels m) m
    let now := t.tick
    (t.commitPlan m a.1 (16 + a.2)).tracMod m (fun x => { x with hwTick := some now, planOn := true }))

/-! ## Link stages and chopper (R284 to R286) -/

/-- A link with a machine on it is monitored. -/
def State.linkOn (s : State) (l : Nat) : Bool := s.engOn && !s.station && s.linkMachines l != []

/-- The monitor takes a mean of ten conversions (R284). -/
def State.linkMeasured (l v : Nat) (s : State) : State := s.vdcMod l (fun x => { x with recent := [v] })

/-- The group of a link's chopper. -/
def State.linkChopper (s : State) (l : Nat) : Option Nat :=
  if s.cN (Obj.tracChopperChannel l) < 24 then s.groupOfHb (s.cN (Obj.tracChopperChannel l)) else none

/-- TracOv3Effective (R284). -/
def State.showOv3 (l : Nat) (s : State) : State :=
  s.put (Obj.tracOv3Effective l) (if s.oN (Obj.tracChopperAvailable l) = 1 then s.c (Obj.tracOv3 l) else s.c (Obj.tracOv2 l))

/-- A chopper named by the active set that was not named before becomes available, a link without one has none, and TracOv3Effective follows
(R284, R288; DEDUCED, log 81). -/
def State.linkFollow (old : State) (l : Nat) (s : State) : State :=
  let n := s.cN (Obj.tracChopperChannel l)
  let s := if n = 0xFF ∨ s.station then s.put (Obj.tracChopperAvailable l) 0
    else if n = old.cN (Obj.tracChopperChannel l) then s else s.put (Obj.tracChopperAvailable l) 1
  s.showOv3 l

/-- The chopper is to run from OV2 (R285). -/
def State.chopperRun (l : Nat) (s : State) : State :=
  match s.linkChopper l with
  | some g => if s.oN (Obj.tracChopperAvailable l) = 1 then s.put (Obj.groupRunRequest g) 1 else s
  | none => s

/-- The chopper's group stops (R285). -/
def State.chopperRest (l : Nat) (s : State) : State :=
  let s := s.put (Obj.tracChopperDuty l) 0
  match s.linkChopper l with
  | some g => s.put (Obj.groupRunRequest g) 0
  | none => s

/-- Stage OV1 of a monitored link, where its voltage has reached TracOv1 (R284). -/
def State.linkOv1 (l : Nat) (s : State) : State :=
  if s.linkOn l ∧ s.oN (Obj.tracOvStage l) = 0 ∧ s.cF (Obj.tracOv1 l) ≤ s.linkVolts l then
    (s.put (Obj.tracOvStage l) 1).raise FC.trcOv1 l
  else s

/-- Stage OV2 likewise: the chopper runs. -/
def State.linkOv2 (l : Nat) (s : State) : State :=
  if s.linkOn l ∧ s.oN (Obj.tracOvStage l) = 1 ∧ s.cF (Obj.tracOv2 l) ≤ s.linkVolts l then
    ((s.put (Obj.tracOvStage l) 2).chopperRun l).raise FC.trcOv2 l
  else s

/-- Stage OV3, at the effective OV3: ASC is committed in hardware for every machine before the fault is signalled. -/
def State.linkOv3 (l : Nat) (s : State) : State :=
  if s.linkOn l ∧ s.oN (Obj.tracOvStage l) = 2 ∧ s.oF (Obj.tracOv3Effective l) ≤ s.linkVolts l then
    ((s.put (Obj.tracOvStage l) 3).hardwareAsc l).raise FC.trcOv3 l
  else s

/-- The link has fallen below a level by TracOvHysteresis. -/
def State.linkUnder (s : State) (l : Nat) (level : Rat) : Bool := decide (s.linkVolts l < level - s.cF (Obj.tracOvHysteresis l))

/-- Stage OV3 is left. -/
def State.linkBelowOv3 (l : Nat) (s : State) : State :=
  if s.linkOn l ∧ s.oN (Obj.tracOvStage l) = 3 ∧ s.linkUnder l (s.oF (Obj.tracOv3Effective l)) then s.put (Obj.tracOvStage l) 2 else s

/-- Stage OV2 is left: the chopper stops. -/
def State.linkBelowOv2 (l : Nat) (s : State) : State :=
  if s.linkOn l ∧ s.oN (Obj.tracOvStage l) = 2 ∧ s.linkUnder l (s.cF (Obj.tracOv2 l)) then (s.put (Obj.tracOvStage l) 1).chopperRest l else s

/-- Stage OV1 is left. -/
def State.linkBelowOv1 (l : Nat) (s : State) : State :=
  if s.linkOn l ∧ s.oN (Obj.tracOvStage l) = 1 ∧ s.linkUnder l (s.cF (Obj.tracOv1 l)) then s.put (Obj.tracOvStage l) 0 else s

/-- The monitor compares a link's voltage with its stages, which it passes one after another (R284). -/
def State.linkJudge (l : Nat) (s : State) : State :=
  (((((s.linkOv1 l).linkOv2 l).linkOv3 l).linkBelowOv3 l).linkBelowOv2 l).linkBelowOv1 l

/-- LINK_OV1. -/
def execLinkOv1 (link : Fin 4) (volts : BitVec 32) (s : State) : Host.Outcome State Fault Refusal :=
  .next ((s.linkMeasured link volts.toNat).linkOv1 link)

/-- LINK_OV2, past OV1. -/
def execLinkOv2 (link : Fin 4) (volts : BitVec 32) (s : State) : Host.Outcome State Fault Refusal :=
  .next (((s.linkMeasured link volts.toNat).linkOv1 link).linkOv2 link)

/-- LINK_OV3, past the stages below it. -/
def execLinkOv3 (link : Fin 4) (volts : BitVec 32) (s : State) : Host.Outcome State Fault Refusal :=
  .next ((((s.linkMeasured link volts.toNat).linkOv1 link).linkOv2 link).linkOv3 link)

/-- LINK_BELOW_OV3. -/
def execLinkBelowOv3 (link : Fin 4) (volts : BitVec 32) (s : State) : Host.Outcome State Fault Refusal :=
  .next ((s.linkMeasured link volts.toNat).linkBelowOv3 link)

/-- LINK_BELOW_OV2. -/
def execLinkBelowOv2 (link : Fin 4) (volts : BitVec 32) (s : State) : Host.Outcome State Fault Refusal :=
  .next (((s.linkMeasured link volts.toNat).linkBelowOv3 link).linkBelowOv2 link)

/-- LINK_BELOW_OV1. -/
def execLinkBelowOv1 (link : Fin 4) (volts : BitVec 32) (s : State) : Host.Outcome State Fault Refusal :=
  .next ((((s.linkMeasured link volts.toNat).linkBelowOv3 link).linkBelowOv2 link).linkBelowOv1 link)

/-- A chopper fault (R286): no chopper any more, ASC committed for every machine on the link, M9. -/
def State.chopperFault (l : Nat) (s : State) : State :=
  if s.linkOn l ∧ s.oN (Obj.tracChopperAvailable l) = 1 then
    (((s.put (Obj.tracChopperAvailable l) 0).showOv3 l).hardwareAsc l).raise FC.trcChopper l
  else s

/-- TRC_CHOPPER. -/
def execTrcChopper (link : Fin 4) (s : State) : Host.Outcome State Fault Refusal := .next (s.chopperFault link.val)

/-- A protection event on an HB channel that is a link's chopper is a chopper fault (R286). -/
def State.chopperEvent (n : Nat) (s : State) : State :=
  if s.station then s
  else s.forAll ((List.range 4).filter (fun l => s.cN (Obj.tracChopperChannel l) == n)) State.chopperFault

/-- The period that ends at this period start had a duty of at least 0.1, and the conducting switch's on-state voltage never fell below 20 % of
the link in it (R286). A period without a detector sample does not count (DEDUCED, log 81). -/
def State.nodeStill (s : State) (l n : Nat) : Bool :=
  decide (mkRat 1 10 ≤ s.oF (Obj.tracChopperDuty l)) &&
  (match (s.chx n).lowOn with
   | some w => decide (s.oF (Obj.vdcValue l) / 5 ≤ F32.toRat w)
   | none => false)

/-- A period start of a chopper's group: the node is judged, and the duty of R285 committed. -/
def State.chopperDuty (g : Nat) (s : State) : State :=
  if s.station then s
  else match (List.range 4).find? (fun l => s.linkChopper l == some g) with
    | none => s
    | some l =>
      let n := s.cN (Obj.tracChopperChannel l)
      let run := if s.nodeStill l n then (s.chx n).unmoved + 1 else 0
      let s := s.chMod n (fun x => { x with lowOn := none, unmoved := run })
      if s.cN (Obj.tracChopperCheckPeriods l) ≤ run then s.chopperFault l
      else
        let a := s.cF (Obj.tracOv2 l)
        let d := max 0 (min 1 ((s.linkVolts l - a) * 2 / (s.cF (Obj.tracOv3 l) - a)))
        ((s.putF (Obj.tracChopperDuty l) d).put (Obj.hbShadowDuty n) (F32.roundEven (d * 16777216))).commitNow g

/-! ## Degraded operation (R279 to R283) -/

/-- Limp: a cause is recorded, the entry counted, and M3 becomes M4 (R283). -/
def State.limp (m bit code : Nat) (s : State) : State :=
  let s := if s.oN (Obj.tracLimpCause m) = 0 then s.incSat (Obj.tracLimpCount m) else s
  ((s.put (Obj.tracLimpCause m) (setBit (s.oN (Obj.tracLimpCause m)) bit : Nat)).raise code m).enterM4 code

/-- The reconstructed input of a set, 0xFF none, and its change (R280). -/
def State.reconOf (s : State) (m k : Nat) : Nat := byteOf (s.oN (Obj.tracReconstructed m)) k
def State.setRecon (m k v : Nat) (s : State) : State :=
  let w := s.oN (Obj.tracReconstructed m)
  s.put (Obj.tracReconstructed m) ((if k = 0 then w / 256 * 256 + v else v * 256 + w % 256) : Nat)

/-- The phase of a set that the sum test names: an input stuck or clockless, else the one farthest from its prediction
while the others are near theirs (R279). -/
def State.namePhase (s : State) (m k : Nat) (pred : Nat → Rat) : Option Nat :=
  let ns := (List.range 3).map (fun j => (s.obsCurrents m).getD (3 * k + j) 0)
  let others := ns.filter (fun n => n != s.reconOf m k)
  match others.find? (fun n => s.oN (Obj.sdState n) == 2 || s.oN (Obj.sdState n) == 3) with
  | some n => some n
  | none =>
    let dev := fun j => |s.oF (Obj.sdTriggeredValue (ns.getD j 0)) - pred (3 * k + j)|
    let worst := (List.range 3).foldl (fun b j => if dev b < dev j then j else b) 0
    if (List.range 3).all (fun j => j == worst || decide (dev j ≤ s.cF (Obj.tracSumThreshold m) / 2)) then some (ns.getD worst 0) else none

/-- A failed input is named: reconstruction, or none any more for the set (R280). -/
def State.sensorNamed (m k n : Nat) (s : State) : State :=
  let old := s.reconOf m k
  if old = n then s
  else if old = 0xFF then ((s.setRecon m k n).limp m 0 FC.trcSensor).obsWarm m
  else (s.setRecon m k 0xFF).tracMod m (fun x => { x with zeroHold := some (0, k) })

/-- The sum test of one set at an observer step (R279). -/
def State.sumTest (m : Nat) (pred : Nat → Rat) (k : Nat) (s : State) : State :=
  let sum := |((List.range 3).map (fun j => s.oF (Obj.sdTriggeredValue ((s.obsCurrents m).getD (3 * k + j) 0)))).sum|
  let s := if s.oF (Obj.tracSumResidualPeak m) < sum then s.putF (Obj.tracSumResidualPeak m) sum else s
  let above := decide (s.cF (Obj.tracSumThreshold m) < sum)
  let run := if above then (s.tracx m).sumRun.getD k 0 + 1 else 0
  let s := s.tracMod m (fun x => { x with sumRun := x.sumRun.set k run, sumFired := x.sumFired || above })
  if run = s.cN (Obj.tracSumCount m) then
    match s.namePhase m k pred with
    | some n => s.sensorNamed m k n
    | none => if s.reconOf m k = 0xFF then s.raise FC.trcSensorloss m else s
  else s

/-- The sum tests of a machine at its observer's step. -/
def State.sumTests (m : Nat) (pred : Nat → Rat) (s : State) : State :=
  if s.tracOn m ∧ 3 ≤ s.oN (Obj.obsRegime m) ∧ s.oN (Obj.obsRegime m) ≤ 7 then
    s.forAll (List.range (s.cN (Obj.obsPhaseCount m) / 3)) (State.sumTest m pred)
  else s

/-- SD.SMP of a reconstructed input: minus the sum of the other two of its set (R280). -/
def State.reconstruct (s : State) : State :=
  s.forAll (List.range 8) (fun q t =>
    let m := q / 2
    let k := q % 2
    let n := t.reconOf m k
    if t.station ∨ t.cN (Obj.tracEnable m) = 0 ∨ n = 0xFF then t
    else
      let others := ((List.range 3).map (fun j => (t.obsCurrents m).getD (3 * k + j) 0)).filter (· != n)
      t.portPut n (F32.ofRat (-((others.map (fun p => F32.toRat ((t.ports.lookup p).getD 0))).sum))))

/-- The magnitude of the commanded current: the d and q references at TracRefBase (R266, R281). -/
def State.currentAsked (s : State) (m : Nat) : Rat :=
  let n := s.cN (Obj.tracTorqueSlot m)
  let a := s.cN (Obj.tracRefBase m)
  let d := F32.toRat (s.padWord n a)
  let q := F32.toRat (s.padWord n (a + 1))
  F32.toRat (F32.sqrtRat (d * d + q * q))

/-- A step of the RMS window: the squares of the phase currents, and whether the test may still run (R281). -/
def State.rmsStep (m : Nat) (s : State) : State :=
  if ¬ s.tracOn m then s
  else
    let faint := decide (|s.oF (Obj.obsFrequency m)| < s.cF (Obj.tracOpenPhaseMinFreq m)) ||
      decide (s.currentAsked m < s.cF (Obj.tracOpenPhaseCurrent m))
    let sq := (List.range 6).map (fun k => (s.tracx m).squares.getD k 0 + s.phaseAmps m k * s.phaseAmps m k)
    s.tracMod m (fun x => { x with squares := sq, steps := x.steps + 1, faint := x.faint || faint })

/-- The RMS current of a phase over the window. -/
def State.rmsOf (s : State) (m k : Nat) : Rat :=
  F32.toRat (F32.sqrtRat ((s.tracx m).squares.getD k 0 / ((s.tracx m).steps : Rat)))

/-- A phase of a set is open in a window: its RMS below the ratio of the others' mean (R281). -/
def State.openIn (s : State) (m k : Nat) : Bool :=
  (List.range 3).any (fun j =>
    let o := (List.range 3).filter (· != j)
    decide (s.rmsOf m (3 * k + j) < s.cF (Obj.tracOpenPhaseRatio m) / 100 * ((o.map (fun i => s.rmsOf m (3 * k + i))).sum / 2)))

/-- A new RMS window begins. -/
def State.rmsBegin (m : Nat) (s : State) : State :=
  s.tracMod m (fun x => { x with sumFired := false, faint := false, squares := [0, 0, 0, 0, 0, 0], steps := 0 })

/-- The end of an RMS window, and what an open phase in it brings (R281, R282, R292). While an open set's references are held at zero,
`zeroHold` says so. -/
def State.openWindow (m : Nat) (s : State) : State :=
  let x := s.tracx m
  let sets := s.cN (Obj.obsPhaseCount m) / 3
  let hit := (List.range sets).filter (s.openIn m)
  let dropped := s.oN (Obj.tracDroppedSet m)
  let s := s.rmsBegin m
  if ¬ s.tracOn m ∨ x.sumFired ∨ x.faint ∨ x.steps = 0 then s
  else
    match hit with
    | [] => s
    | k :: more =>
      if hit.contains dropped then s.raise FC.trcOpenphase m
      else if sets = 2 ∧ more = [] ∧ dropped = 0xFF then s.tracMod m (fun x => { x with zeroHold := some (1, k) })
      else s.tracMod m (fun x => { x with zeroHold := some (2, k) })

/-- OPEN_PHASE_WINDOW_END. -/
def execOpenPhaseWindowEnd (machine : Fin 4) (s : State) : Host.Outcome State Fault Refusal := .next (s.openWindow machine.val)

/-- A set is dropped: its groups stop, and its channels take the rule's result for that set alone (R282); one in a reaction or under the
island keeps what it has (R133, R154). -/
def State.dropSet (m k : Nat) (s : State) : State :=
  let ch := s.setChannels m k
  let a := (s.safeRule m ch).1
  let gs := hbGroups.filter (fun g => (s.groupChannels g).any (fun n => ch.contains n))
  let s := s.forAll gs (fun g t => (t.groupOff g).put (Obj.groupRunRequest g) 0)
  let s := s.forAll (ch.filter (fun n => !([2, 3, 4, 5].contains (s.oN (Obj.hbProtState n))))) (fun n t => t.setHb n a.drive)
  (s.put (Obj.tracDroppedSet m) k).limp m 1 FC.trcOpenset

/-- ZERO_HOLD_END (R280, R282). -/
def State.zeroHoldEnd (m : Nat) (s : State) : State :=
  if ¬ s.tracOn m then s
  else match (s.tracx m).zeroHold with
    | none => s
    | some (0, _) => s.raise FC.trcSensorloss m
    | some (1, k) => (s.tracMod m (fun x => { x with zeroHold := none })).dropSet m k
    | some _ => s.raise FC.trcOpenphase m

/-- ZERO_HOLD_END. -/
def execZeroHoldEnd (machine : Fin 4) (s : State) : Host.Outcome State Fault Refusal := .next (s.zeroHoldEnd machine.val)

/-- A machine that has stood at pulse-off with ReversalPermit 1 ends its degraded operation (R283). -/
def State.limpOver (m : Nat) (s : State) : State :=
  if s.oN (Obj.tracLimpCause m) ≠ 0 ∧ s.oN (Obj.reversalPermit m) = 1 ∧ (s.obsChannels m).all (fun n => s.hbDrive.getD n .pulseOff == .pulseOff) then
    let s := ((s.put (Obj.tracReconstructed m) 0xFFFF).put (Obj.tracDroppedSet m) 0xFF).put (Obj.tracLimpCause m) 0
    s.tracMod m (fun x => { x with zeroHold := none, sumRun := [0, 0], sumFired := false })
  else s

/-- The limp of every machine, after a step or a stop. -/
def State.limpsOver (s : State) : State := s.forAll (List.range 4) State.limpOver

end Sys2Proof.Machine
end

