-- ==== Sys2Proof/Machine/ChargePhase.lean ====
section
/-! DEFINITION. The charge phase engine (R302 to R306): CP0 for the traction battery, CP1 for the auxiliary battery. -/

namespace Sys2Proof.Machine

/-- Battery voltage and current of an instance, as raw words (R302). -/
def State.cpVolts (s : State) (c : Nat) : Nat :=
  if c = 0 then s.oN (Obj.vdcValue (s.cN (Obj.cpVoltageInput 0))) else s.oN (Obj.voutValue (s.cN (Obj.cpVoltageInput 1)))
def State.cpAmps (s : State) (c : Nat) : Nat :=
  let n := s.cN (Obj.cpCurrentInput c)
  if n = 0xFF then 0 else if c = 0 then s.oN (Obj.sdValue n) else s.oN (Obj.lvIsnValue n)

/-! ## Temperature windows (R304) -/

/-- The temperature of an instance, or none where it is invalid. -/
def State.cpTemp (s : State) (c : Nat) : Option Rat :=
  let n := s.cN (Obj.cpTempInput c)
  if n = 0xFE then
    match (s.cpx c).tempAt with
    | some t => if s.mono ≤ t + s.cN (Obj.cpLimitTimeout c) * 1000000 then some (s.oF (Obj.cpBmsTemperature c)) else none
    | none => none
  else if s.oN (Obj.ainState n) = 1 then some (s.oF (Obj.ainValue n)) else none

/-- Boundaries and factors of the windows. -/
def State.cpBound (s : State) (c k : Nat) : Rat :=
  match k with
  | 0 => s.cF (Obj.cpTempT1 c) | 1 => s.cF (Obj.cpTempT2 c) | 2 => s.cF (Obj.cpTempT3 c) | _ => s.cF (Obj.cpTempT4 c)
def State.cpFactor (s : State) (c w : Nat) : Rat :=
  match w with
  | 0 => s.cF (Obj.cpFactorCold c) | 1 => s.cF (Obj.cpFactorCool c) | 2 => s.cF (Obj.cpFactorNormal c) | 3 => s.cF (Obj.cpFactorWarm c) | _ => s.cF (Obj.cpFactorHot c)

/-- The window of a temperature by its boundaries, each moved by a distance towards the outside. -/
def State.cpWindowOf (s : State) (c : Nat) (t back : Rat) : Nat :=
  if t < s.cpBound c 0 + back then 0
  else if t < s.cpBound c 1 + back then 1
  else if t ≤ s.cpBound c 2 - back then 2
  else if t ≤ s.cpBound c 3 - back then 3
  else 4

/-- The window with the smallest factor. -/
def State.cpWorst (s : State) (c : Nat) : Nat :=
  (List.range 5).foldl (fun b w => if s.cpFactor c w < s.cpFactor c b then w else b) 0

/-- The window in force: away from normal at the boundary, back only past it by the hysteresis. -/
def State.cpWindow (s : State) (c : Nat) : Nat :=
  match s.cpTemp c with
  | none => s.cpWorst c
  | some t =>
    let old := s.oN (Obj.cpTempWindow c)
    let out := s.cpWindowOf c t 0
    let back := s.cpWindowOf c t (s.cF (Obj.cpTempHysteresis c))
    if 4 < old then out
    else if old < 2 then (if out < old then out else if 2 < out then out else max old (min back 2))
    else if 2 < old then (if old < out then out else if out < 2 then out else min old (max back 2))
    else out

/-! ## Quantities (R302) -/

/-- The nominal current of a phase. -/
def State.cpPhaseAmps (s : State) (c : Nat) : Rat :=
  match s.oN (Obj.cpPhase c) with
  | 2 => s.cF (Obj.cpTrickleCurrent c)
  | 3 => s.cF (Obj.cpPrechargeCurrent c)
  | 4 | 5 => s.cF (Obj.cpCcCurrent c)
  | _ => 0

/-- The battery management's limits, unbounded for CP1; 0 under substitute values (R306). -/
def State.cpBmsAmps (s : State) (c : Nat) (i : Rat) : Rat :=
  if c = 1 then i else if (s.cpx c).limitSub then 0 else min i (s.oF (Obj.cpBmsCurrentLimit c))

/-- CV_eff. -/
def State.cpCvEff (s : State) (c : Nat) : Rat :=
  let d := s.cF (Obj.cpCvVoltage c) - (if s.oN (Obj.cpTempWindow c) = 3 then s.cF (Obj.cpWarmVoltageDrop c) else 0)
  if c = 1 then d else min d (s.oF (Obj.cpBmsVoltageLimit c))

/-- I_lim. -/
def State.cpLimit (s : State) (c : Nat) : Rat := s.cpBmsAmps c (s.cpPhaseAmps c) * s.cpFactor c (s.oN (Obj.cpTempWindow c))

/-- CpCurrentRef in force for the phase. -/
def State.cpRef (s : State) (c : Nat) : Rat :=
  match s.oN (Obj.cpPhase c) with
  | 5 => max 0 (min (s.cpLimit c) (F32.toRat (s.cpx c).loop))
  | 2 | 3 | 4 => s.cpLimit c
  | _ => 0

/-! ## Phases (R303) -/

/-- CP enters phase 6 or 8 with a cause. -/
def State.cpEndPhase (c p cause : Nat) (s : State) : State := (((s.cpTo c p).put (Obj.cpTermCause c) cause).put (Obj.cpCurrentRef c) 0)

/-- A session begins (the converter function's start). -/
def State.cpStart (c : Nat) (s : State) : State :=
  let s := s.cpMod c (fun x => { x with session := true, loop := 0, counts := [(0, 0), (0, 0), (0, 0), (0, 0)], left := 0 })
  let s := s.put (Obj.cpTermCause c) 0
  if s.oN (Obj.cpPhase c) = 0 ∧ s.cN (Obj.cpEnable c) = 1 ∧ s.oN (Obj.cpBmsChargeEnable c) = 1 then s.cpTo c 1 else s

/-- One move of an instance at an update; during export it keeps its phase (R299). -/
def State.cpMove (c : Nat) (v : Rat) (s : State) : State :=
  let p := s.oN (Obj.cpPhase c)
  let f := s.cpFactor c (s.oN (Obj.cpTempWindow c))
  let h := s.cF (Obj.cpCvHysteresis c)
  let cv := s.cpCvEff c
  if p = 0 then (if (s.cpx c).session ∧ s.oN (Obj.cpBmsChargeEnable c) = 1 ∧ s.oN (Obj.cpTermCause c) = 0 then s.cpTo c 1 else s)
  else if s.oN (Obj.cpBmsChargeEnable c) = 0 ∧ (p ≤ 5 ∨ p = 7) then s.cpEndPhase c 6 2
  else if p = 4 ∧ cv ≤ v then (s.cpMod c (fun x => { x with loop := s.oN (Obj.cpCurrentRef c) })).cpTo c 5
  else if f = 0 ∧ 2 ≤ p ∧ p ≤ 5 then (s.cpMod c (fun x => { x with left := p })).cpTo c 7
  else if p = 7 ∧ 0 < f then s.cpTo c 1
  else if p = 2 ∧ s.cF (Obj.cpTrickleVoltage c) + h ≤ v then s.cpTo c 3
  else if p = 3 ∧ s.cF (Obj.cpPrechargeVoltage c) + h ≤ v then s.cpTo c 4
  else if p = 5 ∧ s.cpLimit c ≤ F32.toRat (s.cpx c).loop ∧ v < cv - h then s.cpTo c 4
  else if p = 6 ∧ v < cv - s.cF (Obj.cpRechargeDrop c) ∧ (s.cpx c).session ∧ s.oN (Obj.cpBmsChargeEnable c) = 1 then s.cpTo c 1
  else s

/-- k of R305 with the converter's k_th. -/
def State.cpK (s : State) (c : Nat) (kth : Rat) : Rat :=
  if s.oN (Obj.cpPhase c) = 7 then 0
  else
    let full := s.cpBmsAmps c (s.cpPhaseAmps c)
    let ref := s.cpRef c
    let base := if s.oN (Obj.cpPhase c) = 5 ∧ ref < s.cpLimit c then ref else full
    if base = 0 then 1 else ref * kth / base

/-- The counts of 1 ms (R305), stopped during export (R299). -/
def State.cpCount (c : Nat) (kth : Rat) (exporting : Bool) (s : State) : State :=
  let p := s.oN (Obj.cpPhase c)
  let i := if p = 7 then (s.cpx c).left else p
  if exporting ∨ i < 2 ∨ 5 < i then s
  else
    let old := (s.cpx c).counts.getD (i - 2) (0, 0)
    let new := (old.1 + 1000000, old.2 + (s.cpK c kth * 1000000).floor.toNat)
    let s := s.cpMod c (fun x => { x with counts := x.counts.set (i - 2) new })
    (s.put (Obj.cpPhaseElapsed c) (new.1 / 1000000000 : Nat)).put (Obj.cpPhaseEquivalent c) (new.2 / 1000000000 : Nat)

/-- One step of the CV loop of phase 5, after an interval in s (R302, R358). -/
def State.cpLoop (c : Nat) (v dt : Rat) (s : State) : State :=
  let x := max 0 (min (s.cpLimit c) (F32.toRat (s.cpx c).loop + s.cF (Obj.cpCvGain c) * (s.cpCvEff c - v) * dt))
  s.cpMod c (fun y => { y with loop := F32.ofRat x })

/-- The nominal time of a phase, ns (R305). -/
def State.cpNominal (s : State) (c p : Nat) : Nat :=
  60000000000 * s.cN (match p with | 2 => Obj.cpTimerTrickle c | 3 => Obj.cpTimerPrecharge c | 4 => Obj.cpTimerCc c | _ => Obj.cpTimerCv c)

/-- A count of the phase, or of the one that a suspension left, has reached its limit (R305). -/
def State.cpExpired (s : State) (c : Nat) : Bool :=
  let p := s.oN (Obj.cpPhase c)
  let i := if p = 7 then (s.cpx c).left else p
  let n := (s.cpx c).counts.getD (i - 2) (0, 0)
  decide (2 ≤ i) && decide (i ≤ 5) && (decide (s.cpNominal c i ≤ n.2) || decide (2 * s.cpNominal c i ≤ n.1))

/-- The phase expires: the charge is stopped (R303, R305). -/
def State.cpTimeUp (c : Nat) (s : State) : State :=
  if s.engOn ∧ s.station = false ∧ s.cpExpired c then (s.cpEndPhase c 8 4).raise FC.cpTimer c else s

/-- CHARGE_PHASE_UPDATE: every 1 ms (R302 to R306); while Tandem is in control its law runs the CV loop (R358). -/
def State.cpUpdate (c : Nat) (kth : Rat) (exporting tandem : Bool) (s : State) : State :=
  if ¬ s.engOn ∨ s.station ∨ s.cN (Obj.cpEnable c) = 0 then s
  else
    let vw := s.cpVolts c
    let v := F32.toRat vw
    let s := (s.put (Obj.cpBatteryVoltage c) vw).put (Obj.cpBatteryCurrent c) (s.cpAmps c)
    let s := if (s.cpTemp c).isNone && !s.isSet FC.cpTemp c && (s.cpx c).session then s.raise FC.cpTemp c else s
    let p0 := s.oN (Obj.cpPhase c)
    let w := s.cpWindow c
    let handOver := p0 = 4 ∧ s.cpCvEff c ≤ v
    let s := if handOver ∧ ¬ exporting then s.cpMove c v else s
    let s := s.put (Obj.cpTempWindow c) w
    let s := if handOver ∨ exporting then s else s.cpMove c v
    let s := s.putF (Obj.cpCvTarget c) (s.cpCvEff c)
    let s := if s.oN (Obj.cpPhase c) = 5 ∧ ¬ tandem then s.cpLoop c v (mkRat 1 1000) else s
    ((s.cpCount c kth exporting).putF (Obj.cpCurrentRef c) (s.cpRef c)).cpTimeUp c

/-- CP_EVALUATION_END: the mean voltage of the 100 ms chooses the phase (R303). -/
def State.cpEvaluated (c v : Nat) (s : State) : State :=
  if ¬ s.engOn ∨ s.station ∨ s.oN (Obj.cpPhase c) ≠ 1 then s
  else
    let q := F32.toRat v
    if q < s.cF (Obj.cpTrickleVoltage c) then s.cpTo c 2
    else if q < s.cF (Obj.cpPrechargeVoltage c) then s.cpTo c 3
    else if q < s.cpCvEff c - s.cF (Obj.cpRechargeDrop c) then s.cpTo c 4
    else s.cpEndPhase c 6 1

/-- CP_EVALUATION_END. -/
def execCpEvaluationEnd (cp : Fin 2) (volts : BitVec 32) (s : State) : Host.Outcome State Fault Refusal :=
  .next (s.cpEvaluated cp.val volts.toNat)

/-- CP_TAPER_END: the current has stayed at or below CpTermCurrent for CpTermTime (R303). -/
def State.cpTapered (c : Nat) (s : State) : State :=
  if s.engOn ∧ s.station = false ∧ s.oN (Obj.cpPhase c) = 5 ∧ |s.oF (Obj.cpBatteryCurrent c)| ≤ s.cF (Obj.cpTermCurrent c) then s.cpEndPhase c 6 1 else s

/-- CP_TAPER_END. -/
def execCpTaperEnd (cp : Fin 2) (s : State) : Host.Outcome State Fault Refusal := .next (s.cpTapered cp.val)

/-- CP_TIMER. -/
def execCpTimer (cp : Fin 2) (s : State) : Host.Outcome State Fault Refusal := .next (s.cpTimeUp cp.val)

/-- CP_LIMITLOSS: substitute limits have lasted CpLimitTimeout (R306). -/
def execCpLimitloss (s : State) : Host.Outcome State Fault Refusal :=
  .next (if s.engOn ∧ s.station = false ∧ (s.cpx 0).limitSub ∧ 1 ≤ s.oN (Obj.cpPhase 0) ∧ s.oN (Obj.cpPhase 0) ≤ 7 then
    (s.cpEndPhase 0 8 5).raise FC.cpLimitloss 0 else s)

/-- The per-function reset of class 0x09 (R56, R303). -/
def State.cpReset (c : Nat) (s : State) : State :=
  let s := s.cpMod c (fun x => { tempAt := x.tempAt, limitSub := x.limitSub })
  ((((s.cpTo c 0).put (Obj.cpCurrentRef c) 0).put (Obj.cpPhaseElapsed c) 0).put (Obj.cpPhaseEquivalent c) 0).put (Obj.cpTermCause c) 0

end Sys2Proof.Machine
end

