-- ==== Sys2Proof/Machine/Lv.lean ====
section
/-! DEFINITION. The low-voltage converter, the auxiliary battery and the lamps (R313 to R332). -/

namespace Sys2Proof.Machine

def State.lvPhase (s : State) (n : Nat) : LvPhase := s.lv.phases.getD n {}
def State.lvPhaseMod (n : Nat) (f : LvPhase → LvPhase) (s : State) : State := s.lvMod (fun x => { x with phases := modifyAt x.phases n f })

/-- The converter's mode and role: vehicle, M2 to M6 and M10, not held by the island (R341). -/
def State.lvOn (s : State) : Bool :=
  s.engOn && !s.station && mayRun .lvConverter s.mode && !s.isl.held.contains .lvConverter && s.cN Obj.lvPhaseMap != 0

/-- The numbers whose bits a 16-bit map sets. -/
def bits16 (v : Nat) : List Nat := (List.range 16).filter (fun n => v.testBit n)

/-- Buck phases, and those in the rotation. -/
def State.lvPhases (s : State) : List Nat := bits16 (s.cN Obj.lvPhaseMap)
def State.lvActive (s : State) : List Nat := bits16 (s.oN Obj.lvActivePhases)

/-- The groups of the isolated stage and of the buck phases (R313). -/
def State.lvIsoGroups (s : State) : List Nat :=
  hbGroups.filter (fun g => (s.groupChannels g).any (fun n => (map8 (s.cN Obj.lvIsoChannels)).contains n))
def State.lvBuckGroups (s : State) : List Nat :=
  lvGroups.filter (fun g => (s.groupChannels g).any (fun n => (s.cN Obj.lvPhaseMap).testBit n))

/-- Measured output and intermediate bus, raw words. -/
def State.lvOut (s : State) : Nat := s.oN (Obj.voutValue (s.cN Obj.lvOutSense))
def State.lvInt (s : State) : Nat := s.oN (Obj.voutValue (s.cN Obj.lvIntSense))

/-! ## Reference (R323, R324) -/

/-- Milliseconds since a tick. -/
def State.msSince (s : State) (t : Nat) : Rat := mkRat ((s.tick - t : Nat) : Int) 80000

/-- s: the target approached from where the present slew began, at LvSoftStartRate in soft start and LvSlewRate after. -/
def State.lvS (s : State) : Rat :=
  let b := F32.toRat s.lv.base
  let t := F32.toRat s.lv.target
  if s.lv.hold then b
  else
    let d := (if s.oN Obj.lvState = 2 then s.cF Obj.lvSoftStartRate else s.cF Obj.lvSlewRate) * s.msSince s.lv.baseTick
    if b ≤ t then min t (b + d) else max t (b - d)

/-- V_ref := s + y. -/
def State.lvRef (s : State) : Rat := s.lvS + F32.toRat s.lv.y

/-- The target of R323. -/
def State.lvTarget (s : State) : Rat :=
  let t := if s.oN Obj.lvAuxState = 2 then s.cF Obj.lvFloatVoltage
    else if (s.cpx 1).session then (if s.oN (Obj.cpPhase 1) = 6 then s.cF Obj.lvFloatVoltage else s.oF (Obj.cpCvTarget 1))
    else s.cF Obj.lvVoltageTarget
  min (max t (s.cF Obj.lvOutputMin)) (s.cF Obj.lvOutputMax)

/-- The slew goes on from the present s; a change of direction waits for the next trigger (R324). -/
def State.lvRebase (target : Nat) (s : State) : State :=
  let cur := s.lvS
  let q := F32.toRat target
  let old := F32.toRat s.lv.target
  let turn := decide ((cur < old ∧ q < cur) ∨ (old < cur ∧ cur < q))
  let now := s.tick
  s.lvMod (fun x => { x with base := F32.ofRat cur, baseTick := now, target := target, hold := x.hold || turn })

/-- Follow a new target and show V_ref. -/
def State.lvFollow (s : State) : State :=
  if 2 ≤ s.oN Obj.lvState ∧ s.oN Obj.lvState ≤ 5 then
    let t := F32.ofRat s.lvTarget
    let s := if t = s.lv.target then s else s.lvRebase t
    s.putF Obj.lvReference s.lvRef
  else s

/-! ## CP1's session (R327) -/

/-- The converter holds CP1's session open in states 3 to 5 while CpEnable and LvAuxState are 1. -/
def State.lvSession (s : State) : State :=
  let want := 3 ≤ s.oN Obj.lvState ∧ s.oN Obj.lvState ≤ 5 ∧ s.cN (Obj.cpEnable 1) = 1 ∧ s.oN Obj.lvAuxState = 1
  if want then (if (s.cpx 1).session then s else s.cpStart 1)
  else if (s.cpx 1).session then (s.cpStop 1).lvMod (fun x => { x with y := 0 })
  else s

/-! ## Phases -/

/-- A phase at pulse-off, out of the rotation. -/
def State.lvPhaseOff (n : Nat) (s : State) : State :=
  let s := (s.chanOff (24 + n)).put Obj.lvActivePhases (clearBit (s.oN Obj.lvActivePhases) n : Nat)
  s.lvPhaseMod n (fun x => { x with leaving := false, since := none, trig := none, limited := 0 })

/-- A phase joins the rotation with trim 0; after hiccup with a soft start (R317, R318, R321). -/
def State.lvJoin (soft : Bool) (n : Nat) (s : State) : State :=
  let now := s.tick
  let s := (s.put Obj.lvActivePhases (setBit (s.oN Obj.lvActivePhases) n : Nat)).put (Obj.lvPhaseTrim n) 0
  let s := s.setDrive (24 + n) .switching
  s.lvPhaseMod n (fun x => { x with limited := 0, leaving := false, precharge := true, trig := none, since := if soft then some now else none })

/-- Phases that may join: in the map, not active, not in hiccup or removed. -/
def State.lvSpare (s : State) : List Nat :=
  s.lvPhases.filter (fun n => !(s.oN Obj.lvActivePhases).testBit n && !(s.oN Obj.lvHiccupPhases).testBit n)

/-- A converter of more than four phases never runs on fewer than two while another can join (R321). -/
def State.lvKeepTwo (s : State) : State :=
  if 4 < s.lvPhases.length ∧ s.lvActive.length < 2 then s.forAll (s.lvSpare.take (2 - s.lvActive.length)) (State.lvJoin false) else s

/-- A phase enters hiccup; the LvHiccupMax-th entry within 10 s removes it (R318). -/
def State.lvHiccup (n : Nat) (s : State) : State :=
  let now := s.mono
  let kept := (s.lvPhase n).entries.filter (fun t => now < t + 10000000000) ++ [now]
  let lost := decide (s.cN Obj.lvHiccupMax ≤ kept.length)
  let s := (s.lvPhaseOff n).put Obj.lvHiccupPhases (setBit (s.oN Obj.lvHiccupPhases) n : Nat)
  let s := (s.lvPhaseMod n (fun x => { x with entries := kept, removed := x.removed || lost })).lvMod (fun x => { x with waiting := false })
  let s := (s.incSat Obj.lvHiccupCount).raise FC.lvHiccup n
  (if lost then s.raise FC.lvPhaselost n else s).lvKeepTwo

/-! ## Start and stop (R314, R325) -/

/-- HbShadowPhase of legs B and D, and the duty of all four, during and after the soft start (R314). -/
def State.lvIsoShadow (s : State) : State :=
  let k := min 1 (s.msSince s.lv.isoTick / (s.cN Obj.lvIsoSoftStart : Nat))
  let ph := if 2 ≤ s.oN Obj.lvState then 2147483648 else (k * 2147483648).floor.toNat
  let chans := (map8 (s.cN Obj.lvIsoChannels)).zipIdx
  let s := chans.foldl (fun t p =>
    if p.1 < 24 then (t.put (dutyKey p.1) 8388608).put (phaseKey p.1) ((if p.2 % 2 = 1 then ph else 0 : Nat)) else t) s
  s.forAll s.lvIsoGroups State.commitNow

/-- GroupRunRequest 1 on a group that may start (R113). -/
def State.runGroup (g : Nat) (s : State) : State := if s.mayStart g then s.put (Obj.groupRunRequest g) 1 else s

/-- The converter's groups at pulse-off at once. -/
def State.lvGroupsOff (s : State) : State :=
  s.forAll (s.lvIsoGroups ++ s.lvBuckGroups) (fun g t => (t.groupOff g).put (Obj.groupRunRequest g) 0)

/-- The converter stops in a state: 0, or 6 after a fault; hiccup states stay (R325, R340). -/
def State.lvHalt (st : Nat) (s : State) : State :=
  if s.oN Obj.lvState = 0 ∨ s.oN Obj.lvState = 6 then s
  else
    let s := s.forAll s.lvActive State.lvPhaseOff
    let s := (s.lvGroupsOff.put Obj.lvState st).put Obj.lvReference 0
    (s.lvMod (fun x => { x with y := 0, corr := 0, burst := false, waiting := false, hold := false })).lvSession

/-- The run request: the isolated stage starts where mode and link allow it (R325). -/
def State.lvBegin (s : State) : State :=
  let s := s.put Obj.lvRunRequest 1
  if s.lvOn ∧ (s.oN Obj.lvState = 0 ∨ s.oN Obj.lvState = 6) ∧ s.cF Obj.lvHvMin ≤ s.oF (Obj.vdcMean (s.cN Obj.lvHvInput)) then
    let now := s.tick
    let s := (s.put Obj.lvState 1).lvMod (fun x => { x with isoTick := now, y := 0, corr := 0, burst := false, waiting := false, last := 15, back := 3 })
    let gs := s.lvIsoGroups
    s.lvIsoShadow.forAll gs State.runGroup
  else s

/-- LvAutoStart makes the request on each entry into M2 (R325). -/
def State.lvEnterM2 (s : State) : State := if s.cN Obj.lvAutoStart = 1 ∧ s.station = false then s.lvBegin else s

/-- LV_RUN. -/
def execLvRun (role : Role) (s : State) : Host.Outcome State Fault Refusal :=
  .next (s.accessAt role 2 Obj.lvRunRequest (!s.station) State.lvBegin)

/-- LV_STOP: triggering ends at once, every phase and the isolated stage at pulse-off (R325). -/
def execLvStop (role : Role) (s : State) : Host.Outcome State Fault Refusal :=
  .next (s.accessAt role 2 Obj.lvRunRequest (!s.station) (fun s =>
    let s := (s.put Obj.lvRunRequest 0).lvHalt 0
    if s.oN Obj.lvState = 6 then s.put Obj.lvState 0 else s))

/-- The end of the soft start: s starts at the measured output and the phases run (R325). -/
def State.lvIsoDone (v : Nat) (s : State) : State :=
  if s.lvOn ∧ s.oN Obj.lvState = 1 then
    let now := s.tick
    let s := (s.put Obj.lvState 2).lvMod (fun x => { x with base := v, baseTick := now, target := v, hold := false })
    let s := s.lvIsoShadow
    let s := s.forAll s.lvBuckGroups (fun g t => if t.mayStart g then (t.put (Obj.groupRunRequest g) 1).startGroup g 0 t.feNow else t)
    let s := s.forAll s.lvSpare (State.lvJoin false)
    s.lvFollow
  else s

/-- LV_ISO_SOFT_START_END, with the measured V_out. -/
def execLvIsoSoftStartEnd (volts : BitVec 32) (s : State) : Host.Outcome State Fault Refusal := .next (s.lvIsoDone volts.toNat)

/-- A fault of class HALT that stops the running converter. -/
def State.lvFault (code lo hi : Nat) (s : State) : State :=
  if s.lvOn ∧ lo ≤ s.oN Obj.lvState ∧ s.oN Obj.lvState ≤ hi then (s.lvHalt 6).raise code 0 else s

/-- The intermediate bus lies off VdcMean / LvIsoRatio by more than LvIsoTolerance (R314). -/
def State.isoOff (s : State) : Bool :=
  let v := s.oF (Obj.vdcMean (s.cN Obj.lvHvInput)) / s.cF Obj.lvIsoRatio
  decide (v * s.cF Obj.lvIsoTolerance / 100 < |F32.toRat s.lvInt - v|)

/-- LV_ISOFAULT: from the end of the soft start, the bus has lain off its ratio for 1 ms. -/
def execLvIsofault (s : State) : Host.Outcome State Fault Refusal := .next (if s.isoOff then s.lvFault FC.lvIsofault 2 5 else s)

/-- V_out lies above V_ref by some per cent. -/
def State.lvAbove (s : State) (percent : Rat) : Bool := decide (s.lvRef * (1 + percent / 100) < F32.toRat s.lvOut)

/-- LV_OVERVOLTAGE: V_out has stayed above 1.10 × V_ref for 1 ms (R322). -/
def execLvOvervoltage (s : State) : Host.Outcome State Fault Refusal := .next (if s.lvAbove 10 then s.lvFault FC.lvOvervoltage 2 5 else s)

/-- LV_STARTFAIL: no readiness within LvStartLimit of the request (R325). -/
def State.lvStartFails (s : State) : State :=
  if s.lvOn ∧ s.oN Obj.lvRunRequest = 1 ∧ s.oN Obj.lvState ≤ 2 then ((s.lvHalt 6).put Obj.lvState 6).raise FC.lvStartfail 0 else s

/-- LV_STARTFAIL. -/
def execLvStartfail (s : State) : Host.Outcome State Fault Refusal := .next s.lvStartFails

/-- Soft start becomes regulation within 3 % of the target (R325). -/
def State.lvReady (v : Rat) (s : State) : State :=
  let t := F32.toRat s.lv.target
  if s.oN Obj.lvState = 2 ∧ |v - t| ≤ t * 3 / 100 then
    let s := s.lvRebase s.lv.target
    (s.put Obj.lvState 3).lvSession.lvFollow
  else s

/-! ## Triggers and current limits (R315 to R319) -/

/-- On-times are fine edges of 12.5 ns / 64. -/
def feSeconds (fe : Nat) : Rat := mkRat fe 5120000000

/-- g of R319. -/
def foldback (v r : Rat) : Rat := if r * 8 / 10 ≤ v then 1 else max (3 / 10) (3 / 10 + 7 / 10 * (v / r) / (8 / 10))

/-- The on-time of a phase: the committed LvShadowOnTime, rising over LvPhaseSoftStart (R118, R131, R318). -/
def State.lvOnTime (s : State) (n : Nat) : Nat :=
  let fe := match s.groupOfLv n with
    | some g => (((s.grpx g).committed.lookup (Obj.lvShadowOnTime n)).getD 0).toNat
    | none => 0
  match (s.lvPhase n).since with
  | none => fe
  | some t => ((min 1 (s.msSince t * 1000 / (s.cN Obj.lvPhaseSoftStart : Nat))) * fe).floor.toNat

/-- ΔI of an on-time, A (R316). -/
def State.lvRipple (s : State) (vint vout : Rat) (fe : Nat) : Rat := (vint - vout) * feSeconds fe * 1000000 / s.cF Obj.lvInductance

/-- The emulated ripple current of a phase now (R316). -/
def State.lvRipNow (s : State) (n : Nat) (vint vout : Rat) : Rat :=
  let x := s.lvPhase n
  let d := F32.toRat x.ripple
  match x.trig with
  | none => 0
  | some t =>
    let fe := (s.tick - t) * 64
    if fe ≤ x.on then -d / 2 + s.lvRipple vint vout fe
    else max (-d / 2) (-d / 2 + s.lvRipple vint vout x.on - vout * feSeconds (fe - x.on) * 1000000 / s.cF Obj.lvInductance)

/-- V_cmp: the output with the emulated ripples (R316). -/
def State.lvCmp (s : State) (vint vout : Rat) : Rat :=
  vout + s.cF Obj.lvRippleGain * s.lvActive.foldl (fun a k => a + s.lvRipNow k vint vout) 0

/-- The next phase of the rotation: ascending, cyclically (R316). -/
def State.lvNext (s : State) : Option Nat :=
  match s.lvActive.find? (fun n => s.lv.last < n) with
  | some n => some n
  | none => s.lvActive.head?

/-- The effective valley limit (R319). -/
def State.lvValley (s : State) (g dI : Rat) : Rat :=
  max 0 (min (s.cF Obj.lvValleyLimit) (s.cF Obj.lvCurrentLimit * g / (s.lvActive.length : Nat) - dI / 2))

/-- One triggered cycle of a phase: a refresh or a precharge that is due, then the on-interval, then the other state to the next trigger
(R128, R129, R131). The interval between triggers stands for the period; an interval that is too short is omitted and counted (R121). -/
def State.lvCycle (n on : Nat) (s : State) : State :=
  let c := 24 + n
  let x := s.lvPhase n
  let y := s.chx c
  let om := s.cN (outputModeKey c)
  let td := if om = 0 then s.deadTime c else 0
  let start := match x.trig with
    | some t => max s.tick (t + 40)
    | none => s.tick
  let f := 64 * start
  let period := x.trig.map (fun t => 64 * (start - t))
  let boot := s.cN (Obj.lvBootstrap n) == 1
  let low := boot && decide (s.oF (Obj.lvBstValue n) < s.cF (Obj.lvBstRefreshLevel n))
  let time := s.cN (Obj.lvRefreshTime n)
  let going := y.st == 1 && (match y.onFor f with | some len => decide (time ≤ len) | none => false)
  let run := if y.lowOk ∨ going then 0 else y.refreshRun + 1
  let brief := match period with
    | some p => decide (p < on + td + time)
    | none => false
  let pre := x.precharge && low
  let fresh := boot && !pre && (low || (brief && decide (s.cN (Obj.lvRefreshPeriods n) ≤ run + 1)))
  let s := s.chMod c (fun z => { z with sched := z.sched.filter (fun e => e.1 < f), refreshRun := run, lowOk := false })
  let s := if pre ∨ fresh then s.switchTo c f 1 0 false else s
  let s := if fresh then s.inc32 (Obj.lvRefreshCount n) else s
  let from_ := if pre then (s.chx c).enaFe + s.cN (Obj.lvBstPrecharge n) else if fresh then (if y.st = 1 then f else (s.chx c).enaFe) + time else f
  let last := if pre then from_ + on else f + on
  let short := decide (last < from_ + s.cN (minOnKey c) + td)
  let full := match period with
    | some p => !pre && decide (p < on + (if om = 0 then s.cN (minOnKey c) + td else s.cN (minOffKey c)))
    | none => false
  let edges := if short then [] else if full then [(from_, onState om)] else [(from_, onState om), (last, offState om)]
  let s := if short || full then s.incSat (dropKey c) else s
  let s := s.chMod c (fun z => { z with sched := z.sched ++ edges })
  s.lvPhaseMod n (fun z => { z with trig := some start, on := if short then 0 else on, precharge := false })

/-- The trigger of a phase, which samples LVn_BST as a period start does (R316, R318, R129 to R131). -/
def State.lvFire (n : Nat) (vint vout : Rat) (s : State) : State :=
  let s := if s.cN (Obj.lvBootstrap n) = 1 then (s.bstSample n (F32.toRat (Config.inputWord 5 n s.tick).toNat)).bstJudge n else s
  if 2 ≤ (s.chx (24 + n)).bstLow then
    ((s.chMod (24 + n) (fun x => { x with bstLow := 0 })).raise FC.pwmBstuvPhase n).lvHiccup n
  else
    let on := s.lvOnTime n
    let d := F32.ofRat (s.lvRipple vint vout on)
    let full := match (s.lvPhase n).since with
      | some t => decide ((s.cN Obj.lvPhaseSoftStart : Rat) ≤ s.msSince t * 1000)
      | none => true
    let now := s.tick
    let s := (s.lvCycle n on).lvPhaseMod n (fun x => { x with ripple := d, since := if full then none else x.since })
    s.lvMod (fun x => { x with last := n, waiting := false, hold := false, baseTick := if x.hold then now else x.baseTick })

/-- LV_PHASE_TRIGGER: with V_out, V_int and the next phase's current; shed phases have completed their cycle. -/
def State.lvTrigger (vout vint amps : Rat) (s : State) : State :=
  if ¬ s.lvOn ∨ ¬ (s.oN Obj.lvState = 2 ∨ s.oN Obj.lvState = 3) then s
  else
    let s := s.forAll ((List.range 16).filter (fun n => (s.lvPhase n).leaving)) (fun n t =>
      (t.chanOff (24 + n)).lvPhaseMod n (fun x => { x with leaving := false, trig := none }))
    match s.lvNext with
    | none => s
    | some n =>
      let r := s.lvRef
      if r + F32.toRat s.lv.corr < s.lvCmp vint vout then s
      else
        let g := foldback vout r
        let s := s.putF Obj.lvFoldbackFactor g
        let limited := decide (s.lvValley g (s.lvRipple vint vout (s.lvOnTime n)) < amps)
        if limited ∧ s.lv.waiting then s
        else if limited then
          let s := (s.lvMod (fun x => { x with waiting := true })).lvPhaseMod n (fun x => { x with limited := x.limited + 1 })
          if s.cN Obj.lvHiccupCycles ≤ (s.lvPhase n).limited then s.lvHiccup n else s
        else
          let s := if s.lv.waiting then s else s.lvPhaseMod n (fun x => { x with limited := 0 })
          ((s.lvFire n vint vout).lvReady vout).lvFollow

/-- LV_PHASE_TRIGGER. -/
def execLvPhaseTrigger (vout vint amps : BitVec 32) (s : State) : Host.Outcome State Fault Refusal :=
  .next (s.lvTrigger (F32.toRat vout.toNat) (F32.toRat vint.toNat) (F32.toRat amps.toNat))

/-- LV_HICCUP_END: the phase rejoins, unless it is removed or the converter does not run (R318). -/
def State.lvHiccupEnd (n : Nat) (s : State) : State :=
  if ¬ s.lvOn ∨ ¬ (s.oN Obj.lvHiccupPhases).testBit n ∨ (s.lvPhase n).removed ∨ s.oN Obj.lvState < 2 ∨ s.oN Obj.lvState = 6 then s
  else (s.put Obj.lvHiccupPhases (clearBit (s.oN Obj.lvHiccupPhases) n : Nat)).lvJoin true n

/-- LV_HICCUP_END. -/
def execLvHiccupEnd (phase : Fin 16) (s : State) : Host.Outcome State Fault Refusal := .next (s.lvHiccupEnd phase.val)

/-- LV_FOLDBACK: foldback has bound the current for 1 s (R319). -/
def execLvFoldback (s : State) : Host.Outcome State Fault Refusal :=
  .next (if s.lvOn ∧ 2 ≤ s.oN Obj.lvState ∧ s.oN Obj.lvState ≤ 5 ∧ s.oF Obj.lvFoldbackFactor < 1 then s.raise FC.lvFoldback 0 else s)

/-! ## Light load and load release (R320 to R322) -/

/-- Every active phase with both switches off from now; a phase in its on-interval completes it where `finish` holds. -/
def State.lvOpen (finish : Bool) (s : State) : State :=
  s.forAll s.lvActive (fun n t =>
    let c := 24 + n
    match (t.chx c).sched.head? with
    | some e => if finish ∧ (t.chx c).st = onState (t.cN (outputModeKey c)) then t.chMod c (fun x => { x with sched := [(e.1, 0)] })
      else (t.chMod c (fun x => { x with sched := [] })).switchTo c t.feNow 0 0 false
    | none => t.switchTo c t.feNow 0 0 false)

/-- In burst operation, V_cmp has reached V_ref × (1 + LvBurstBand/100) (R320). -/
def State.lvSleep (s : State) : State :=
  if s.lvOn ∧ s.oN Obj.lvState = 3 ∧ s.lv.burst ∧ s.lvPhases.length ≤ 4 ∧
      s.lvRef * (1 + s.cF Obj.lvBurstBand / 100) ≤ s.lvCmp (F32.toRat s.lvInt) (F32.toRat s.lvOut) then ((s.lvOpen false).put Obj.lvState 4).lvSession else s

/-- LV_BURST_SLEEP. -/
def execLvBurstSleep (s : State) : Host.Outcome State Fault Refusal := .next s.lvSleep

/-- Triggering resumes after an interval with every switch off: bootstrap precharge first (R129). -/
def State.lvResume (st : Nat) (s : State) : State :=
  let s := s.forAll s.lvActive (fun n => State.lvPhaseMod n (fun x => { x with precharge := true, trig := none }))
  (s.put Obj.lvState st).lvSession

/-- LV_BURST_WAKE: V_out has fallen to V_ref (R320). -/
def execLvBurstWake (s : State) : Host.Outcome State Fault Refusal :=
  .next (if s.lvOn ∧ s.oN Obj.lvState = 4 ∧ F32.toRat s.lvOut ≤ s.lvRef then s.lvResume 3 else s)

/-- LV_PHASE_SHED: the 1 ms mean current has stayed low for LvShedTime; the highest active phase ends after its present cycle, never below
two (R321). -/
def State.lvShed (s : State) : State :=
  match s.lvActive.getLast? with
  | some n =>
    if s.lvOn ∧ s.oN Obj.lvState = 3 ∧ 4 < s.lvPhases.length ∧ 2 < s.lvActive.length ∧
        s.oF (Obj.lvMean 3) < ((s.lvActive.length - 1 : Nat) : Rat) * s.cF Obj.lvShedCurrent * (1 - s.cF Obj.lvShedHysteresis / 100) then
      (s.put Obj.lvActivePhases (clearBit (s.oN Obj.lvActivePhases) n : Nat)).lvPhaseMod n (fun x => { x with leaving := true })
    else s
  | none => s

/-- LV_PHASE_SHED. -/
def execLvPhaseShed (s : State) : Host.Outcome State Fault Refusal := .next s.lvShed

/-- Enter load release (R322). -/
def State.lvRelease (s : State) : State :=
  let st := s.oN Obj.lvState
  if 2 ≤ st ∧ st ≤ 4 then
    let s := (((s.lvOpen true).put Obj.lvState 5).incSat Obj.lvReleaseCount).lvMod (fun x => { x with back := if st = 2 then 2 else 3, waiting := false })
    s.lvSession
  else s

/-- LV_LOAD_RELEASE: V_out exceeds V_ref × (1 + LvReleaseLevel/100). -/
def execLvLoadRelease (s : State) : Host.Outcome State Fault Refusal := .next (if s.lvOn ∧ s.lvAbove (s.cF Obj.lvReleaseLevel) then s.lvRelease else s)

/-- LV_LOAD_RELEASE_END: V_out has fallen below V_ref × 1.01. -/
def execLvLoadReleaseEnd (s : State) : Host.Outcome State Fault Refusal :=
  .next (if s.lvOn ∧ s.oN Obj.lvState = 5 ∧ F32.toRat s.lvOut < s.lvRef * 101 / 100 then s.lvResume s.lv.back else s)

/-! ## Telemetry (R326) -/

/-- The mean of raw words, over as many as there are. -/
def meanOf (l : List Nat) : Rat := if l = [] then 0 else l.foldl (fun a v => a + F32.toRat v) 0 / (l.length : Nat)

/-- One quantity's 1 ms mean enters its windows and its peak. -/
def State.lvQuantity (q w : Nat) (s : State) : State :=
  let l := (w :: s.lv.means.getD q []).take 10000
  let v := if q = 1 ∨ q = 2 then F32.ofRat |F32.toRat w| else w
  let clear := s.lv.peakClear.getD q true
  let s := s.lvMod (fun x => { x with means := x.means.set q l, peakClear := x.peakClear.set q false })
  let s := if clear ∨ s.oF (Obj.lvPeak q) < F32.toRat v then s.put (Obj.lvPeak q) v else s
  ((s.put (Obj.lvMean (3 * q)) w).putF (Obj.lvMean (3 * q + 1)) (meanOf (l.take 100))).putF (Obj.lvMean (3 * q + 2)) (meanOf l)

/-- A read has cleared a peak. -/
def State.lvPeakRead (q : Nat) (s : State) : State := s.lvMod (fun x => { x with peakClear := x.peakClear.set q true })

/-- Burst and phase-add decisions on the 1 ms mean current (R320, R321). -/
def State.lvDecide (i : Rat) (s : State) : State :=
  if s.oN Obj.lvState < 3 ∨ 5 < s.oN Obj.lvState then s
  else if s.lvPhases.length ≤ 4 then
    if i < s.cF Obj.lvBurstCurrent then s.lvMod (fun x => { x with burst := true })
    else if s.cF Obj.lvBurstCurrent * 3 / 2 < i then
      let s := s.lvMod (fun x => { x with burst := false })
      if s.oN Obj.lvState = 4 then s.lvResume 3 else s
    else s
  else if (s.lvActive.length : Rat) * s.cF Obj.lvShedCurrent < i then s.forAll (s.lvSpare.take 1) (State.lvJoin false)
  else s

/-- LV_TELEMETRY: every 1 ms, with the mean output voltage and the summed mean phase current. -/
def State.lvTelemetry (volts amps : Nat) (s : State) : State :=
  if ¬ s.engOn ∨ s.station then s
  else
    let p := F32.ofRat (F32.toRat volts * F32.toRat amps / 1000)
    let t := s.cN Obj.lvTempInput
    let s := ((s.lvQuantity 0 volts).lvQuantity 1 amps).lvQuantity 2 p
    let s := if t < 16 then s.lvQuantity 3 (s.oN (Obj.ainValue t)) else s
    if ¬ s.lvOn then s
    else
      let r := s.lvRef
      let c := max (-(r / 100)) (min (r / 100) (F32.toRat s.lv.corr + (r - F32.toRat volts) / 100))
      let s := if 2 ≤ s.oN Obj.lvState ∧ s.oN Obj.lvState ≤ 5 then (s.lvMod (fun x => { x with corr := F32.ofRat c })).putF Obj.lvFoldbackFactor (foldback (F32.toRat volts) r) else s
      (((s.lvReady (F32.toRat volts)).lvDecide (F32.toRat amps)).lvSession).lvFollow

/-- LV_TELEMETRY. -/
def execLvTelemetry (volts amps : BitVec 32) (s : State) : Host.Outcome State Fault Refusal := .next (s.lvTelemetry volts.toNat amps.toNat)

/-- A conversion of LVn_ISN enters the mean of its interval (R317). -/
def State.lvIsnTake (n : Nat) (s : State) : State :=
  let v := s.oF (Obj.lvIsnValue n)
  s.lvPhaseMod n (fun x => { x with isnSum := x.isnSum + v, isnCount := x.isnCount + 1 })

/-- I_k: the mean of LVn_ISN since the previous instance, or its last conversion where there has been none since. -/
def State.lvAmps (s : State) (n : Nat) : Rat :=
  let x := s.lvPhase n
  if x.isnCount = 0 then s.oF (Obj.lvIsnValue n) else x.isnSum / (x.isnCount : Rat)

/-- The trims at an instance of the supervisor law (R317). -/
def State.lvTrims (n : Nat) (s : State) : State :=
  if ¬ s.lvOn ∨ s.cN Obj.lvLawSlot ≠ n then s
  else
    let dt := s.msSince s.lv.lawTick / 1000
    let now := s.tick
    let act := s.lvActive
    let amps := (List.range 16).map s.lvAmps
    let mean := act.foldl (fun a k => a + amps.getD k 0) 0 / (act.length : Nat)
    let s := s.lvMod (fun x => { x with lawTick := now, phases := x.phases.map (fun p => { p with isnSum := 0, isnCount := 0 }) })
    if act = [] ∨ mean < s.cF Obj.lvBalanceMinCurrent ∨ mean = 0 then s
    else s.forAll act (fun k t =>
      t.putF (Obj.lvPhaseTrim k) (max (-1 / 8) (min (1 / 8) (t.oF (Obj.lvPhaseTrim k) + t.cF Obj.lvBalanceGain * (mean - amps.getD k 0) / mean * dt))))

/-! ## Auxiliary battery (R327, R328) -/

/-- LV_BATTERY_LOOP: every 100 µs of a CP1 session. -/
def State.lvLoop (s : State) : State :=
  if s.lvOn ∧ (s.cpx 1).session then
    let i := F32.toRat (s.cpAmps 1)
    let y := F32.toRat s.lv.y + s.cF Obj.lvBatteryLoopGain * (s.oF (Obj.cpCurrentRef 1) - i) / 10000
    let y := if s.oN (Obj.cpPhase 1) = 6 then 0 else min 0 (max y (s.cF Obj.lvOutputMin - s.lvS))
    (s.lvMod (fun x => { x with y := F32.ofRat y })).lvFollow
  else s

/-- LV_BATTERY_LOOP. -/
def execLvBatteryLoop (s : State) : Host.Outcome State Fault Refusal := .next s.lvLoop

/-- The battery has been removed (R328): over the preceding 10 ms its current was at least LvRemovalMinCurrent, and within 0.2 ms V_out
rises faster than LvRemovalRate and the current falls below LvRemovalFraction of its mean before. The readings are the rise in V/ms,
and least, mean and present magnitude of CpBatteryCurrent. -/
def State.auxGone (s : State) (rise least mean amps : Rat) : Bool :=
  decide (s.cF Obj.lvRemovalMinCurrent ≤ least) && decide (s.cF Obj.lvRemovalRate < rise) &&
  decide (|amps| < s.cF Obj.lvRemovalFraction / 100 * |mean|)

/-- What a removal brings (R328). -/
def State.lvRemoved (s : State) : State :=
  if s.lvOn ∧ 2 ≤ s.oN Obj.lvState ∧ s.oN Obj.lvState ≤ 5 ∧ s.oN Obj.lvAuxState = 1 then
    let s := (s.lvRelease.put Obj.lvAuxState 2).lvSession
    (s.raise FC.lvAuxremoved 0).lvFollow
  else s

/-- LV_AUXREMOVED. -/
def execLvAuxremoved (rise least mean amps : BitVec 32) (s : State) : Host.Outcome State Fault Refusal :=
  .next (if s.auxGone (F32.toRat rise.toNat) (F32.toRat least.toNat) (F32.toRat mean.toNat) (F32.toRat amps.toNat) then s.lvRemoved else s)

/-- LV_AUX_REARM: an Operator's write of 1 to LvAuxRearm. -/
def execLvAuxRearm (role : Role) (s : State) : Host.Outcome State Fault Refusal :=
  .next (s.accessAt role 2 Obj.lvAuxRearm (!s.station) (fun s => ((s.put Obj.lvAuxState 1).lvSession).lvFollow))

/-- The per-function reset of class 0x08 (R56, R318, R326): hiccup, foldback and burst states and the held peaks. -/
def State.lvReset (s : State) : State :=
  let s := (s.put Obj.lvHiccupPhases 0).put Obj.lvFoldbackFactor 0x3F800000
  let s := s.lvMod (fun x => { x with burst := false, phases := List.replicate 16 {}, peakClear := [true, true, true, true] })
  let s := s.forAll [0, 1, 2, 3] (fun q => State.put (Obj.lvPeak q) 0)
  if s.oN Obj.lvState = 6 then s.put Obj.lvState 0 else s

/-! ## Lamps (R329, R330) -/

/-- Whether a pattern is lit at a millisecond of its frame. -/
def lampLit (code ms : Nat) : Bool :=
  match code with
  | 1 => true
  | 2 => ms < 500
  | 3 => ms % 250 < 125
  | 4 => ms < 100 || (200 ≤ ms && ms < 300)
  | _ => false

/-- The code that a lamp shows. -/
def State.lampCode (s : State) (l : Nat) : Nat :=
  match s.cN (Obj.lampSource l) with
  | 0 => s.oN (Obj.lampSoftwarePattern l)
  | k => s.cN (Obj.lampMap l) / 8 ^ (s.oN (Obj.cpPhase (k - 1))) % 8

/-- The lamps at a millisecond of the frame of 1 s. -/
def State.lampShow (ms : Nat) (s : State) : State :=
  if s.up ∧ s.mode ≠ 11 then
    s.forAll [0, 1, 2, 3] (fun l t => { t.put (Obj.lampPattern l) (t.lampCode l : Nat) with lamps := t.lamps.set l (lampLit (t.lampCode l) ms) })
  else s

/-- LAMP_PATTERN_EDGE: `ms` is the place within the frame of 1 s. -/
def execLampPatternEdge (ms : Fin 1000) (s : State) : Host.Outcome State Fault Refusal := .next (s.lampShow ms.val)

end Sys2Proof.Machine
end

