-- ==== Sys2Proof/Machine/Metering.lean ====
section
/-! DEFINITION. Legal metering: samples, quantities, registers, power quality, journal, power failure, record store
(R397 to R424). -/

namespace Sys2Proof.Machine

/-! ## Registers (R402, R403) -/

/-- Joules as µWh. -/
def microWh (j : Rat) : Rat := j * 2500 / 9

/-- Accumulation runs: on, and no power-fail warning has frozen the registers. -/
def State.mtrRuns (s : State) : Bool := s.mtrOn && s.mtr.frozen.isNone

/-- Add an increment in µWh that is not negative to a register; the fraction is kept as its residue. -/
def State.addReg (k : Nat) (inc : Rat) (s : State) : State :=
  let t := (s.mtr.residues.lookup k).getD 0 + inc
  let n := t.floor.toNat
  let s := s.put k ((s.oN k + n) % 18446744073709551616 : Nat)
  s.mtrMod (fun m => { m with residues := (k, t - (n : Rat)) :: m.residues.filter (fun p => p.1 != k) })

/-- An increment goes to the import register or the export register by its sign. -/
def State.addSigned (imp exp : Nat) (inc : Rat) (s : State) : State :=
  if 0 < inc then s.addReg imp inc else if inc < 0 then s.addReg exp (-inc) else s

/-- Reactive energy to its quadrant's register. -/
def State.addReactive (e r : Rat) (s : State) : State :=
  if r = 0 then s
  else
    let q := if 0 ≤ e then (if 0 < r then 0 else 3) else (if 0 < r then 1 else 2)
    s.addReg (Obj.acImport + 4 + q) |r|

/-- A condition that journal slots and records flag: bits of the record's Flags; the slot's are the same but for bit 2. -/
def State.mtrFlag (bit : Nat) (s : State) : State :=
  s.mtrMod (fun m => { m with flags := setBit m.flags bit, session := m.session.map (fun x => { x with flags := setBit x.flags bit }) })

/-- The larger of two F32 magnitudes. -/
def larger (a : Nat) (q : Rat) : Nat := if F32.toRat a < q then F32.ofRat q else a

/-- The power of a cycle or window enters the peaks of slot, interval and session. -/
def State.mtrPeak (q : Rat) (s : State) : State :=
  s.mtrMod (fun m => { m with peak := larger m.peak q, session := m.session.map (fun x => { x with peak := larger x.peak q, allPeak := larger x.allPeak q }) })

/-! ## Channels (R397, R421) -/

/-- A channel's value: factory calibration at the ball, then the sensor's ratio or shunt. -/
def State.mtrScaled (s : State) (ch : Nat) (raw : Rat) : Rat :=
  let v := raw * s.oF (Obj.calMtrGain ch) + s.oF (Obj.calMtrOffset ch)
  if ch < 3 then v * s.oF Obj.mtrAcVoltageRatio
  else if ch = 3 then v * s.oF Obj.mtrDcVoltageRatio
  else if ch < 7 then v * 1000000 / s.oF Obj.mtrAcShunt
  else v * 1000000 / s.oF Obj.mtrDcShunt

/-- A channel's code was at full scale or not: 16 in a row raise MTR_RANGE. -/
def State.mtrRange (ch : Nat) (full : Bool) (s : State) : State :=
  let n := if full then s.mtr.fullScale.getD ch 0 + 1 else 0
  let s := s.mtrMod (fun m => { m with fullScale := m.fullScale.set ch n })
  if n = 16 then (s.mtrFlag 4).note FC.mtrRange ch else if 16 < n then s.mtrFlag 4 else s

/-! ## The fundamental (R401) -/

/-- Forty digits of a fraction. -/
def digits40 (q : Rat) : Rat := mkRat (q * ((10 ^ 40 : Nat) : Rat)).floor (10 ^ 40)

/-- Cosine and sine of the multiples of 1/256 revolution, in order. -/
def twiddles : Nat → Rat × Rat → List (Rat × Rat)
  | 0, _ => []
  | n + 1, c =>
    let a := mkRat 9996988186962042201157656496661721968501 (10 ^ 40)
    let b := mkRat 245412285229122880317345294592829250655 (10 ^ 40)
    c :: twiddles n (digits40 (c.1 * a - c.2 * b), digits40 (c.1 * b + c.2 * a))

/-- Real and imaginary part of the first bin, RMS scaled but for the factor √2, of 256 samples, oldest first. -/
def firstBin (xs : List Rat) : Rat × Rat :=
  let z := xs.zip (twiddles 256 (1, 0))
  ((z.map (fun p => p.1 * p.2.1)).sum / 256, -((z.map (fun p => p.1 * p.2.2)).sum / 256))

/-- P1 and Q1 of a phase. -/
def fundamental (v i : List Rat) : Rat × Rat :=
  let a := firstBin v
  let b := firstBin i
  (2 * (a.1 * b.1 + a.2 * b.2), 2 * (a.2 * b.1 - a.1 * b.2))

def rms (xs : List Rat) : Nat := if xs.isEmpty then 0 else F32.sqrtRat ((xs.map (fun x => x * x)).sum / (xs.length : Nat))

/-! ## Cycles -/

/-- The samples of channel j (0 to 5) in the cycle, oldest first, less the running mean. -/
def State.cycleOf (s : State) (j : Nat) : List Rat :=
  let m := F32.toRat (s.mtr.means.getD j 0)
  s.mtr.samples.reverse.map (fun p => F32.toRat (p.1.getD j 0) - m)

/-- Sample intervals in s. -/
def State.cycleSteps (s : State) : List Rat := s.mtr.samples.reverse.map (fun p => mkRat (p.2 : Nat) 80000000)

/-- The running means take a whole cycle's mean, with a time constant of 4 cycles (R400). -/
def State.mtrMeans (s : State) : State :=
  let n := s.mtr.samples.length
  if n = 0 then s
  else
    let new := (List.range 6).map (fun j =>
      let old := F32.toRat (s.mtr.means.getD j 0)
      let avg := (s.mtr.samples.map (fun p => F32.toRat (p.1.getD j 0))).sum / (n : Nat)
      F32.ofRat (old + (avg - old) / 4))
    s.mtrMod (fun m => { m with means := new })

/-- Total energy of a phase over the cycle, J. -/
def State.cycleEnergy (s : State) (x : Nat) : Rat :=
  (((s.cycleOf x).zip ((s.cycleOf (3 + x)).zip s.cycleSteps)).map (fun p => p.1 * p.2.1 * p.2.2)).sum

/-- Enter the quantities of the cycle's samples into registers and values: `sync` with the fundamental, `test` with the
no-load test (R401, R402, R404, R410). -/
def State.cycleBook (sync test : Bool) (s : State) : State :=
  let t := s.cycleSteps.sum
  if s.mtr.samples.isEmpty ∨ t ≤ 0 then s
  else
    let es := (List.range 3).map s.cycleEnergy
    let fs := (List.range 3).map (fun x => if sync then fundamental (s.cycleOf x) (s.cycleOf (3 + x)) else (0, 0))
    let sum := es.sum
    let p := |sum| / t
    let s := s.forAll (List.range 3) (fun x u =>
      let u := (u.put (Obj.phVoltageRms x) (rms (s.cycleOf x))).put (Obj.phCurrentRms x) (rms (s.cycleOf (3 + x)))
      let u := u.putF (Obj.phPower x) (es.getD x 0 / t)
      if sync then (u.putF (Obj.phPowerFund x) (fs.getD x (0, 0)).1).putF (Obj.phReactiveFund x) (fs.getD x (0, 0)).2 else u)
    let s := s.mtrPeak p
    let creep := s.oN Obj.mtrCreepActive
    if test ∧ p < s.oF Obj.mtrRatedPowerAc * 1000 * s.oF Obj.mtrNoLoad / 100 then (s.put Obj.mtrCreepActive (setBit creep 0 : Nat)).mtrFlag 3
    else
      let s := s.put Obj.mtrCreepActive (clearBit creep 0 : Nat)
      let s := s.forAll (List.range 3) (fun x u =>
        let u := u.addSigned (Obj.phImport x) (Obj.phExport x) (microWh (es.getD x 0))
        u.addSigned (Obj.phImportFund x) (Obj.phExportFund x) (microWh ((fs.getD x (0, 0)).1 * t)))
      let e1 := (fs.map Prod.fst).sum * t
      let s := (s.addSigned Obj.acImport (Obj.acImport + 1) (microWh sum)).addSigned Obj.acImportFund (Obj.acImportFund + 1) (microWh e1)
      s.addReactive e1 (microWh ((fs.map Prod.snd).sum * t))

/-- The cycle ends: it is booked where accumulation runs, the means move, and a new one begins. -/
def State.cycleEnd (sync : Bool) (s : State) : State :=
  let st := s.oN Obj.mtrState
  let s := if s.mtrRuns ∧ (st = 3 ∨ st = 4) then s.cycleBook sync true else s
  (s.mtrMeans).mtrMod (fun m => { m with samples := [] })

/-! ## Power quality (R406) -/

/-- A half-cycle level in V. -/
def State.pqLevel (s : State) (percent : Rat) : Rat := s.oF Obj.mtrNominalVoltage * percent / 100

/-- What begins at a half-cycle RMS. -/
def State.pqKind (s : State) (v : Rat) : Nat :=
  if v < s.pqLevel (s.oF Obj.mtrInterruptLevel) then 3
  else if v < s.pqLevel (s.oF Obj.mtrSagLevel) then 1
  else if s.pqLevel (s.oF Obj.mtrSwellLevel) < v then 2
  else 0

/-- An event of a kind ends at a half-cycle RMS. -/
def State.pqOver (s : State) (kind : Nat) (v : Rat) : Bool :=
  let h := s.oF Obj.mtrPqHysteresis
  match kind with
  | 1 => s.pqLevel (s.oF Obj.mtrSagLevel + h) < v
  | 2 => v < s.pqLevel (s.oF Obj.mtrSwellLevel - h)
  | 3 => s.pqLevel (s.oF Obj.mtrInterruptLevel + h) < v
  | _ => true

/-- An ended event goes to the ring, newest last. -/
def State.pqWrite (x : Nat) (e : PqX) (s : State) : State :=
  let dur := (s.now - e.start + 9999999) / 10000000
  let b := natBytes 8 e.start ++ natBytes 4 dur ++ natBytes 4 e.extreme ++ [x, e.kind] ++ List.replicate 6 0
  let a := domAddr Obj.pqEventRing 0
  let s := { s with mem := setBytes s.mem a ((bytesAt s.mem (a + 24) 1512) ++ b.map (BitVec.ofNat 8)) }
  let s := s.mtrMod (fun m => { m with pqCount := (m.pqCount + 1) % 65536, session := m.session.map (fun y => { y with events := y.events + 1, allEvents := y.allEvents + 1, flags := setBit y.flags 2 }) })
  s

/-- One phase's half-cycle RMS. -/
def State.pqHalf (x : Nat) (w : Nat) (s : State) : State :=
  let v := F32.toRat w
  let s := s.put (Obj.phHalfCycleRms x) w
  let e := s.mtr.pq.getD x {}
  let now := s.now
  let begins := fun (k : Nat) (u : State) => u.mtrMod (fun m => { m with pq := m.pq.set x { kind := k, start := now, extreme := w } })
  if e.kind = 0 then (if s.pqKind v = 0 then s else begins (s.pqKind v) s)
  else if e.kind = 1 ∧ s.pqKind v = 3 then begins 3 (s.pqWrite x e)
  else if s.pqOver e.kind v then
    let u := (s.pqWrite x e).mtrMod (fun m => { m with pq := m.pq.set x {} })
    if u.pqKind v = 0 then u else begins (u.pqKind v) u
  else
    let ext := if e.kind = 2 then max (F32.toRat e.extreme) v else min (F32.toRat e.extreme) v
    s.mtrMod (fun m => { m with pq := m.pq.set x { e with extreme := F32.ofRat ext } })

/-- Every phase at the end of a half cycle: the last 128 samples. -/
def State.pqHalves (s : State) : State :=
  s.forAll (List.range 3) (fun x u =>
    let m := F32.toRat (u.mtr.means.getD x 0)
    u.pqHalf x (rms ((u.mtr.samples.take 128).map (fun p => F32.toRat (p.1.getD x 0) - m))))

/-! ## AC samples (R398, R400, R405) -/

/-- Take one sample of the six AC channels; full-scale codes by bit. -/
def State.acTake (raw : Nat → Nat) (full : Nat) (s : State) : State :=
  let chs := [0, 1, 2, 4, 5, 6]
  let s := s.forAll chs (fun c u => u.mtrRange c (full.testBit c))
  let vals := chs.map (fun c => F32.ofRat (s.mtrScaled c (F32.toRat (raw c))))
  let t := s.tick
  let dt := match s.mtr.lastTick with
    | some l => t - l
    | none => 0
  let s := s.mtrMod (fun m => { m with samples := (vals, dt) :: m.samples, lastTick := some t, settled := m.settled + dt })
  if s.mtr.samples.length = 128 ∨ s.mtr.samples.length = 256 then s.pqHalves else s

/-- The metering timebase is locked or in holdover. -/
def State.mtrLocked (s : State) : Bool :=
  let st := s.oN (Obj.tbLockState (s.oN Obj.mtrTimebase))
  st == 2 || st == 3

/-- AC metering is on. -/
def State.acOn (s : State) : Bool := s.mtrOn && s.oN Obj.mtrAcEnable == 1

/-- A synchronous sample, number k of its cycle. -/
def State.acSample (k : Nat) (raw : Nat → Nat) (full : Nat) (s : State) : State :=
  if ¬ s.acOn ∨ ¬ s.mtrLocked then s
  else
    let st := s.oN Obj.mtrState
    let s := if st ≤ 1 then (s.put Obj.mtrState 2).mtrMod (fun m => { m with settled := 0, samples := [], means := [0, 0, 0, 0, 0, 0], lastTick := none })
      else if st = 4 ∧ k = 0 then (s.cycleEnd false).put Obj.mtrState 3
      else if st = 2 ∧ k = 0 ∧ 1600000 ≤ s.mtr.settled then (s.mtrMod (fun m => { m with samples := [] })).put Obj.mtrState 3
      else s
    let st := s.oN Obj.mtrState
    if st = 4 then s
    else
      let s := (if k = 0 then s.mtrMod (fun m => { m with samples := [] }) else s).acTake raw full
      let s := s.put Obj.mtrFrequency (s.o (Obj.tbFrequency (s.oN Obj.mtrTimebase)))
      if k = 255 ∧ s.mtr.samples.length = 256 then s.cycleEnd true else s

/-- METER_SAMPLE: occurrence k of entry 254, with the channels' samples at the ball in V and their full-scale codes. -/
def execMeterSample (index : Byte) (raw : Vector (BitVec 32) 8) (full : Byte) (s : State) : Host.Outcome State Fault Refusal :=
  .next (s.acSample index.toNat (fun c => (raw.toList.getD c 0).toNat) full.toNat)

/-- Synchronism is lost: the cycle in progress ends at once, and sampling runs free (R405). -/
def State.mtrAsync (s : State) : State := (((s.cycleEnd false).put Obj.mtrState 4).mtrFlag 1).note FC.mtrAsync 0

/-- MtrState follows what AC metering may do: off, waiting for lock, and out of synchronism as soon as the timebase leaves states 2 and 3
(R405, R422). -/
def State.mtrFollow (s : State) : State :=
  let st := s.oN Obj.mtrState
  if ¬ s.acOn then (if st = 0 then s else s.put Obj.mtrState 0)
  else if st = 0 ∨ (st = 2 ∧ ¬ s.mtrLocked) then s.put Obj.mtrState 1
  else if st = 3 ∧ ¬ s.mtrLocked then s.mtrAsync
  else s

/-- A free-running sample. -/
def State.acFree (raw : Nat → Nat) (full : Nat) (s : State) : State :=
  if ¬ s.acOn ∨ s.mtrLocked then s
  else
    let s := s.mtrFollow
    if s.oN Obj.mtrState = 4 then
      let s := (s.mtrFlag 1).acTake raw full
      if s.mtr.samples.length = 256 then s.cycleEnd false else s
    else s

/-- FREE_RUNNING_METER_SAMPLE. -/
def execFreeRunningMeterSample (raw : Vector (BitVec 32) 8) (full : Byte) (s : State) : Host.Outcome State Fault Refusal :=
  .next (s.acFree (fun c => (raw.toList.getD c 0).toNat) full.toNat)

/-! ## The DC pair (R399, R402, R404) -/

/-- The window's sums enter the registers, or are discarded by the no-load test. -/
def State.dcEnd (test : Bool) (s : State) : State :=
  let m := s.mtr
  if m.dcCount = 0 then s
  else
    let n : Rat := (m.dcCount : Nat)
    let creep := s.oN Obj.mtrCreepActive
    let p := (m.dcImport - m.dcExport) * 9 / 2500 / (n * mkRat 1 32000)
    let s := ((s.putF Obj.dcVoltage (m.dcVolts / n)).putF Obj.dcCurrent (m.dcAmps / n)).putF Obj.dcPower p
    let s := s.mtrPeak |p|
    let s := if test ∧ m.dcSum / n < s.oF Obj.mtrRatedPowerDc * 1000 * s.oF Obj.mtrNoLoad / 100 then
        (s.put Obj.mtrCreepActive (setBit creep 1 : Nat)).mtrFlag 3
      else ((s.put Obj.mtrCreepActive (clearBit creep 1 : Nat)).addReg Obj.dcImport m.dcImport).addReg Obj.dcExport m.dcExport
    s.mtrMod (fun x => { x with dcImport := 0, dcExport := 0, dcSum := 0, dcVolts := 0, dcAmps := 0, dcCount := 0 })

/-- One DC sample. -/
def State.dcTake (volts amps : Nat) (full : Nat) (s : State) : State :=
  if ¬ (s.mtrOn ∧ s.oN Obj.mtrDcEnable = 1) then s
  else
    let s := (s.mtrRange 3 (full.testBit 0)).mtrRange 7 (full.testBit 1)
    if ¬ s.mtrRuns then s
    else
      let v := s.mtrScaled 3 (F32.toRat volts)
      let i := s.mtrScaled 7 (F32.toRat amps)
      let e := microWh (v * i * mkRat 1 32000)
      let s := s.mtrMod (fun m => { m with dcImport := m.dcImport + max 0 e, dcExport := m.dcExport + max 0 (-e), dcSum := m.dcSum + |v * i|, dcVolts := m.dcVolts + v, dcAmps := m.dcAmps + i, dcCount := m.dcCount + 1 })
      if 320 ≤ s.mtr.dcCount then s.dcEnd true else s

/-- DC_SAMPLE, with the two channels' samples at the ball and their full-scale codes. -/
def execDcSample (volts amps : BitVec 32) (full : BitVec 2) (s : State) : Host.Outcome State Fault Refusal :=
  .next (s.dcTake volts.toNat amps.toNat full.toNat)

/-! ## The journal (R407 to R409) -/

/-- The 128 bytes of a slot captured now. -/
def State.slotBytes (s : State) (seq flags : Nat) : List Nat :=
  let sess := s.mtr.session
  let b := natBytes 4 seq ++ natBytes 8 s.now ++ s.mtrRegs.flatMap (natBytes 8) ++ natBytes 4 s.mtr.seq ++
    natBytes 4 (match sess with
      | some x => x.number
      | none => 0) ++
    natBytes 4 (match sess with
      | some x => x.since / 1000000000
      | none => 0) ++
    natBytes 4 s.mtr.peak ++ natBytes 2 flags ++ natBytes 2 s.mtr.pqCount ++ List.replicate 12 0
  b ++ natBytes 4 (crc32c b)

/-- Write the next slot; `final` sets bit 0. -/
def State.mtrJournal (final : Bool) (s : State) : State :=
  let seq := (s.oN Obj.journalSequence + 1) % 4294967296
  let st := s.oN Obj.mtrState
  let f := (if final then 1 else 0) + (if s.mtr.flags.testBit 1 ∨ st = 4 then 2 else 0) + (if s.mtr.session.isSome then 4 else 0) +
    (if s.mtr.flags.testBit 3 then 8 else 0) + (if s.mtr.flags.testBit 4 then 16 else 0)
  let b := s.slotBytes seq f
  let a := domAddr Obj.journalImage (128 * ((seq + 4095) % 4096))
  let s := { s with mem := setBytes s.mem a (b.map (BitVec.ofNat 8)) }
  ((s.put Obj.journalSequence seq).put Obj.lastSlotTime s.now).mtrMod (fun m => { m with flags := 0, peak := 0 })

/-- A slot is due: it waits while the eMRAM write supply is in fault (R558), else it is written under a grant of the leave arbiter in class Control, at once or when it is granted. -/
def State.journalDue (s : State) : State :=
  if ¬ s.mtrRuns then s
  else if s.nvHeld then { s with hm := { s.hm with slotDue := true } }
  else
    let r := s.leaveAsk .journalSlot
    if r.2 then (r.1.mtrJournal false).leaveBack .journalSlot else r.1

/-- JOURNAL_SLOT_WRITE. -/
def execJournalSlotWrite (s : State) : Host.Outcome State Fault Refusal := .next s.journalDue

/-- The per-phase registers, in the order that a page holds them. -/
def phaseRegs : List Nat := (List.range 3).flatMap (fun x => [Obj.phImport x, Obj.phExport x, Obj.phImportFund x, Obj.phExportFund x])

/-- PHASE_PAGE_SAVE: to the alternate page (R408). -/
def execPhasePageSave (s : State) : Host.Outcome State Fault Refusal :=
  .next (if s.mtrOn then
    let p := 1 - s.mtr.page
    let v := phaseRegs.map s.oN
    s.mtrMod (fun m => { m with page := p, pages := m.pages.set p v })
  else s)

/-- The slots that memory holds. -/
def State.journalSlots (s : State) : List Nat :=
  let a := domAddr Obj.journalImage 0
  (s.mem.filterMap (fun p => if a ≤ p.1 ∧ p.1 < a + 524288 then some ((p.1 - a) / 128) else none)).eraseDups

/-- A field of a journal slot. -/
def State.jf (s : State) (slot off n : Nat) : Nat := s.mNat (domAddr Obj.journalImage (128 * slot + off)) n

/-- A slot's CRC is right. -/
def State.slotValid (s : State) (slot : Nat) : Bool :=
  crc32c ((bytesAt s.mem (domAddr Obj.journalImage (128 * slot)) 124).map BitVec.toNat) == s.jf slot 124 4

/-- Sequence a lies after b in serial arithmetic. -/
def serialAfter (a b : Nat) : Bool := 1 ≤ (a + 4294967296 - b) % 4294967296 && (a + 4294967296 - b) % 4294967296 < 2147483648

/-- The valid slot with the largest sequence. -/
def State.newestSlot (s : State) : Option Nat :=
  (s.journalSlots.filter s.slotValid).foldl (fun b k =>
    match b with
    | none => some k
    | some x => if serialAfter (s.jf k 0 4) (s.jf x 0 4) then some k else b) none

/-- µWh that MtrMaxPower gives in a time, ns. -/
def State.boundOver (s : State) (ns : Nat) : Nat := (microWh (s.oF Obj.mtrMaxPower * 1000 * mkRat (ns : Nat) 1000000000)).floor.toNat

/-- MTR_OPENINT: a bound is added to what the next record carries. -/
def State.openInterval (bound : Nat) (s : State) : State :=
  (s.put Obj.mtrOpenBound ((s.oN Obj.mtrOpenBound + bound : Nat))).note FC.mtrOpenint 0

/-- What a pass through M0 restores: billed registers from the newest valid slot, the per-phase registers from their page,
and the session that power failure cut off is closed (R409, R412, R417). -/
def State.mtrRestore (s : State) : State :=
  let keep := s.mtr
  let s := { s with mtr := { seq := keep.seq, number := keep.number, session := keep.session, unsigned := keep.unsigned, store := keep.store, pages := keep.pages, page := keep.page } }
  let ps := keep.pages.getD keep.page []
  let s := if ps.isEmpty then s else (phaseRegs.zip ps).foldl (fun t p => t.put p.1 (p.2 : Nat)) s
  match s.newestSlot with
  | none => s
  | some k =>
    let s := s.forAll (List.range 10) (fun j t => t.put (Obj.acImport + j) (s.jf k (12 + 8 * j) 8 : Nat))
    let s := (s.put Obj.journalSequence (s.jf k 0 4)).put Obj.lastSlotTime (s.jf k 4 8)
    let bad := s.journalSlots.any (fun j => !s.slotValid j && serialAfter (s.jf j 0 4) (s.jf k 0 4))
    let s := if bad then s.note FC.mtrJournalcrc 0 else s
    let fl := s.jf k 108 2
    let s := if fl.testBit 0 then s else s.openInterval (s.boundOver 50000000)
    if fl.testBit 2 then s.mtrCloseAt (s.jf k 4 8) 32 else s.mtrMod (fun m => { m with session := none })

/-! ## Power failure (R410, R413) -/

/-- The reset of the main domains is deferred: PFAIL_N falls within 50 µs after the fall of RESET_N, and the journal still takes its final
write (R68). -/
def State.resetDefers (s : State) : Bool := s.plat.resetAt.any (fun t => decide (s.tick ≤ t + 4000))

/-- Registers freeze: partial cycle and window are added by sign without the no-load test; then the final slot. -/
def State.pfailFall (s : State) : State :=
  let s := { s with plat := { s.plat with pfailN := false } }
  if ¬ (s.mtrOn ∨ s.resetDefers) ∨ s.mtr.frozen.isSome then s
  else
    let st := s.oN Obj.mtrState
    let s := if st = 3 ∨ st = 4 then s.cycleBook false false else s
    let s := (s.mtrMod (fun m => { m with samples := [] })).dcEnd false
    let now := s.now
    let s := ((s.put Obj.finalWriteTime now).put Obj.mtrFinalWriteOk 0).mtrMod (fun m => { m with frozen := some now })
    let s := (((s.leaveAsk .finalJournal).1).mtrJournal true).leaveBack .finalJournal
    s.put Obj.mtrFinalWriteOk 1

/-- PFAIL_N_FALL. -/
def execPfailNFall (s : State) : Host.Outcome State Fault Refusal := .next s.pfailFall

/-- PFAIL_N_RISE. -/
def execPfailNRise (s : State) : Host.Outcome State Fault Refusal := .next { s with plat := { s.plat with pfailN := true } }

/-- METER_RESUME: the gap is an open interval. -/
def State.mtrResume (s : State) : State :=
  match s.mtr.frozen with
  | none => s
  | some t =>
    if s.plat.pfailN ∧ s.mtrOn then
      ((s.mtrMod (fun m => { m with frozen := none, lastTick := none, samples := [] })).openInterval (s.boundOver (s.now - t)))
    else s

/-- METER_RESUME. -/
def execMeterResume (s : State) : Host.Outcome State Fault Refusal := .next s.mtrResume

/-! ## Records (R415 to R420) -/

/-- METER_INTERVAL_CLOSE: at the last multiple of MtrIntervalLength, which lies within the open interval (R415). -/
def State.intervalDue (s : State) : State :=
  let len := s.oN Obj.mtrIntervalLength * 1000000000
  let stop := if len = 0 then s.now else s.now / len * len
  if s.mtrOn then s.mtrInterval (if s.mtr.session.any (fun x => decide (stop ≤ x.since)) then s.now else stop) 0 else s

/-- METER_INTERVAL_CLOSE. -/
def execMeterIntervalClose (s : State) : Host.Outcome State Fault Refusal := .next s.intervalDue

/-- Bytes 0 to 191 of a record. -/
def MtrRec.bytes (r : MtrRec) : List Nat :=
  natBytes 4 0x4D525201 ++ [r.kind, r.billed] ++ natBytes 2 r.flags ++ natBytes 4 r.seq ++ natBytes 4 r.session ++ natBytes 8 r.sessionId ++
    natBytes 8 r.start ++ natBytes 8 r.stop ++ r.regs.flatMap (natBytes 8) ++ natBytes 8 r.spanImport ++ natBytes 8 r.spanExport ++
    natBytes 8 r.bound ++ natBytes 4 r.sealBreaks ++ natBytes 4 r.checksum ++ natBytes 4 r.keyGeneration ++ natBytes 8 r.serial ++
    natBytes 2 r.pqEvents ++ [0, 0] ++ natBytes 4 r.peak ++ List.replicate 20 0

/-- Put a record into the store; the oldest of 2,048 makes room, and its loss is reported if nobody collected it. -/
def State.storeRecord (seq : Nat) (b : List (BitVec 8)) (s : State) : State :=
  let lost := match s.mtr.store with
    | x :: _ => 2048 ≤ s.mtr.store.length && s.oN Obj.mtrRecordAcknowledged < x.1
    | [] => false
  let l := (if 2048 ≤ s.mtr.store.length then s.mtr.store.drop 1 else s.mtr.store) ++ [(seq, b)]
  let s := s.mtrMod (fun m => { m with store := l })
  let s := (s.put Obj.recordNewest seq).put Obj.recordOldest (match l with
    | x :: _ => x.1
    | [] => 0)
  if lost then s.note FC.mtrReclost 0 else s

/-- RECORD_SIGNED: the oldest record that waits. -/
def State.recordSigned (s : State) : State :=
  match s.mtr.unsigned with
  | [] => s
  | r :: rs =>
    let b := r.bytes ++ Config.ecdsaSign r.keyGeneration r.bytes
    (s.mtrMod (fun m => { m with unsigned := rs })).storeRecord r.seq (b.map (BitVec.ofNat 8))

/-- RECORD_SIGNED. -/
def execRecordSigned (s : State) : Host.Outcome State Fault Refusal := .next (if s.mtrOn then s.recordSigned else s)

/-- MTR_SIGNFAIL: the record is withheld and its session closes. -/
def State.signFail (s : State) : State :=
  match s.mtr.unsigned with
  | [] => s
  | r :: rs =>
    let s := s.mtrMod (fun m => { m with unsigned := rs })
    let s := if s.mtr.session.any (fun x => x.number == r.session) then s.mtrClose 0 else s
    s.raise FC.mtrSignfail 0

/-- MTR_SIGNFAIL. -/
def execMtrSignfail (s : State) : Host.Outcome State Fault Refusal := .next (if s.mtrOn then s.signFail else s)

/-- A write of MtrKeyGenerate: a Metrologist, SEAL2 at 0, SEAL1 present, and no session open (R419, R420, R421). -/
def State.keyGenerate (role : Role) (value : Nat) (s : State) : State :=
  if ¬ s.up then s
  else if role ≠ .metrologist then s.refuse 0x05
  else if 1 < value then s.refuse 0x06
  else if s.sealPin 2 ∨ ¬ s.sealPin 1 then s.refuse 0x09
  else if s.mtr.session.isSome then s.refuse 0x13
  else if value = 1 then s.put Obj.keyGeneration ((s.oN Obj.keyGeneration + 1) % 4294967296 : Nat)
  else s

/-- MTR_KEY_GENERATE. -/
def execMtrKeyGenerate (value : Byte) (role : Role) (s : State) : Host.Outcome State Fault Refusal :=
  .next (s.keyGenerate role value.toNat)

end Sys2Proof.Machine
end

