-- ==== Sys2Proof/Machine/Grid.lean ====
section
/-! DEFINITION. Supervision of a grid connection (R297, R300, R301), for the machine windings and for a station's front end (R371). -/

namespace Sys2Proof.Machine

/-- Where a connection's parameters stand: record 0x5802, or 0x6302 of a station (R310, R371). -/
structure GridKeys where
  nominal : Nat
  ovFast : Nat × Nat
  ovSlow : Nat × Nat
  uv : Nat × Nat
  uf : Nat × Nat
  of_ : Nat × Nat
  rocof : Nat × Nat
  jump : Nat
  dc : Nat × Nat
  delay : Nat
  vmin : Nat
  vmax : Nat
  fmin : Nat
  fmax : Nat

/-- The two records; a level comes with its time. -/
def wcKeys : GridKeys where
  nominal := Obj.wcGridNominal
  ovFast := (Obj.wcOvFastLevel, Obj.wcOvFastTime)
  ovSlow := (Obj.wcOvSlowLevel, Obj.wcOvSlowTime)
  uv := (Obj.wcUvLevel, Obj.wcUvTime)
  uf := (Obj.wcUfLevel, Obj.wcUfTime)
  of_ := (Obj.wcOfLevel, Obj.wcOfTime)
  rocof := (Obj.wcRocofLevel, Obj.wcRocofTime)
  jump := Obj.wcPhaseJumpLevel
  dc := (Obj.wcDcLevel, Obj.wcDcTime)
  delay := Obj.wcReconnectDelay
  vmin := Obj.wcReconnectVmin
  vmax := Obj.wcReconnectVmax
  fmin := Obj.wcReconnectFmin
  fmax := Obj.wcReconnectFmax

def stKeys : GridKeys where
  nominal := Obj.stGridNominal
  ovFast := (Obj.stOvFastLevel, Obj.stOvFastTime)
  ovSlow := (Obj.stOvSlowLevel, Obj.stOvSlowTime)
  uv := (Obj.stUvLevel, Obj.stUvTime)
  uf := (Obj.stUfLevel, Obj.stUfTime)
  of_ := (Obj.stOfLevel, Obj.stOfTime)
  rocof := (Obj.stRocofLevel, Obj.stRocofTime)
  jump := Obj.stPhaseJumpLevel
  dc := (Obj.stDcLevel, Obj.stDcTime)
  delay := Obj.stReconnectDelay
  vmin := Obj.stReconnectVmin
  vmax := Obj.stReconnectVmax
  fmin := Obj.stReconnectFmin
  fmax := Obj.stReconnectFmax

/-! ## What is measured -/

/-- The half-cycle RMS of a line-to-line voltage, V, as it stands in this tick (R300). -/
def State.gridLine (s : State) (k : Nat) : Rat := F32.toRat (Config.inputWord 740 k s.tick).toNat
def State.gridLines (s : State) : List Rat := [s.gridLine 0, s.gridLine 1, s.gridLine 2]

/-- The mean of a list. -/
def ratMean (l : List Rat) : Rat := l.sum / (l.length : Rat)

/-- The current of a phase: the SD input that its channel names (R300). -/
def State.phaseOf (s : State) (n : Nat) : Rat :=
  let i := s.cN (Obj.hbCurrentInput n)
  if i < 32 then s.oF (Obj.sdValue i) else 0

/-- The reconnect window (R297): a voltage of every line, and the timebase's frequency, within it. -/
def State.inWindow (s : State) (k : GridKeys) (tb : Nat) (lines : List Rat) : Bool :=
  let n := s.cF k.nominal / 100
  let f := s.oF (Obj.tbFrequency tb)
  lines.all (fun v => decide (n * s.cF k.vmin ≤ v) && decide (v ≤ n * s.cF k.vmax)) && decide (s.cF k.fmin ≤ f) && decide (f ≤ s.cF k.fmax)

/-- The rate of change of frequency over the last 100 ms, Hz/s (R300). -/
def GridX.rocof (x : GridX) : Rat :=
  match x.freqs.head?, x.freqs[100]? with
  | some a, some b => (F32.toRat a - F32.toRat b) * 10
  | _, _ => 0

/-- The mean of a line over the last 10 min, as far as they have been measured (DEDUCED, log 82). -/
def GridX.slow (x : GridX) (k : Nat) : Rat := if x.seconds = [] then 0 else ratMean (x.seconds.map (fun l => l.getD k 0))

/-- What one more millisecond adds to the measurements. -/
def State.gridTake (s : State) (tb : Nat) (lines amps : List Rat) (x : GridX) : GridX :=
  let ls := (List.range 3).map (fun k => x.lineSums.getD k 0 + lines.getD k 0)
  let is := (List.range 3).map (fun k => x.ampSums.getD k 0 + amps.getD k 0)
  let x := { x with freqs := (s.oN (Obj.tbFrequency tb) :: x.freqs).take 101 }
  if x.count + 1 < 1000 then { x with count := x.count + 1, lineSums := ls, ampSums := is }
  else { x with
    count := 0, lineSums := [0, 0, 0], ampSums := [0, 0, 0]
    seconds := (ls.map (· / 1000) :: x.seconds).take 600, dc := is.map (· / 1000) }

/-! ## The trip functions (R300) -/

/-- The conditions with a time, by cause. -/
def State.gridConditions (s : State) (k : GridKeys) (tb : Nat) (lines : List Rat) (x : GridX) : List (Nat × Nat × Bool) :=
  let n := s.cF k.nominal / 100
  let f := s.oF (Obj.tbFrequency tb)
  [(1, k.ovFast.2, lines.any (fun v => decide (n * s.cF k.ovFast.1 < v))),
   (2, k.ovSlow.2, (List.range 3).any (fun j => decide (n * s.cF k.ovSlow.1 < x.slow j))),
   (3, k.uv.2, lines.any (fun v => decide (v < n * s.cF k.uv.1))),
   (4, k.uf.2, decide (f < s.cF k.uf.1)),
   (5, k.of_.2, decide (s.cF k.of_.1 < f)),
   (6, k.rocof.2, decide (s.cF k.rocof.1 < |x.rocof|)),
   (8, k.dc.2, x.dc.any (fun i => decide (s.cF k.dc.1 < |i|)))]

/-- Since when each condition has held, and the window. -/
def State.gridWatch (s : State) (k : GridKeys) (tb : Nat) (lines : List Rat) (x : GridX) : GridX :=
  let begun := fun (holds : Bool) (old : Option Nat) => if holds then some (old.getD s.mono) else none
  let since := (s.gridConditions k tb lines x).foldl (fun l c => modifyAt l (c.1 - 1) (begun c.2.2)) x.since
  { x with since := since, window := begun (s.inWindow k tb lines) x.window }

/-- One millisecond of supervision. -/
def State.gridNext (s : State) (k : GridKeys) (tb : Nat) (phases : List Nat) (x : GridX) : GridX :=
  s.gridWatch k tb s.gridLines (s.gridTake tb s.gridLines (phases.map s.phaseOf) x)

/-- The cause that trips now: a condition that has held for longer than its time, a phase jump during export, or the timebase lost. -/
def State.gridCause (s : State) (k : GridKeys) (tb : Nat) (exporting : Bool) (x : GridX) : Option Nat :=
  let held := ((s.gridConditions k tb s.gridLines x).filter (fun c =>
    match x.since.getD (c.1 - 1) none with
    | some t => decide (t + s.cN c.2.1 * 1000000 < s.mono)
    | none => false)).map Prod.fst
  let jump := if exporting ∧ s.cF k.jump / 360 * 4294967296 < ((s.tbx tb).jump : Rat) then [7] else []
  let lost := if s.oN (Obj.tbLockState tb) = 4 then [9] else []
  (held ++ jump ++ lost).head?

/-- Seconds of the reconnection delay that are left (R301). -/
def State.gridWait (s : State) (k : GridKeys) (x : GridX) : Nat :=
  match x.window with
  | some t => s.cN k.delay - (s.mono - t) / 1000000000
  | none => s.cN k.delay

end Sys2Proof.Machine
end

