-- ==== Sys2Proof/Machine/Winding.lean ====
section
/-! DEFINITION. Charging and export through the machine windings (R294 to R301, R307 to R309). -/

namespace Sys2Proof.Machine

/-- √2 and √3 as long fractions. -/
def sqrt2 : Rat := mkRat 14142135623730950488016887242096981 (10 ^ 34)
def sqrt3 : Rat := mkRat 17320508075688772935274463415058723 (10 ^ 34)

/-- The function works: a vehicle, enabled, M2 to M10. -/
def State.wcOn (s : State) : Bool := s.engOn && !s.station && s.cN Obj.wcEnable == 1

/-- The groups that switch for the session's topology. -/
def State.wcGroups (s : State) : List Nat :=
  let ch := if s.oN Obj.wcTopology = 1 then s.windingChannels else if s.oN Obj.wcTopology = 2 then s.boostChannels else []
  hbGroups.filter (fun g => (s.groupChannels g).any (fun n => ch.contains n))

/-- Every output of R294 de-energised. -/
def State.wcOpenAll (s : State) : State :=
  s.forAll [s.cN Obj.wcGridContactor, s.cN Obj.wcBoostContactor, s.cN Obj.wcStarContactor] State.soRelease

/-- GroupRunRequest 2 on the converter groups: pulse-off at once (R113). -/
def State.wcGroupsOff (s : State) : State := s.forAll s.wcGroups (fun g t => (t.groupOff g).put (Obj.groupRunRequest g) 2)

/-- References zeroed. -/
def State.wcZero (s : State) : State :=
  { s.put Obj.wcPowerSetpoint 0 with wc := { s.wc with trim := 0, q := 0, leg := 0 } }

/-- An output stands de-energised, as its readback confirms it; none is wired where its number is 0xFF. -/
def State.soResting (s : State) (n : Nat) : Bool := 8 ≤ n || (s.oN (Obj.soState n) == 1 && s.oN (Obj.soReadback n) == 0)

/-- The request for M5 or M6 begins (R295, R297, R298): grid, boost or direct. Grid and boost contactors wait for the star's, which boost needs
closed (R294). -/
def State.wcBegin (topology : Nat) (s : State) : State :=
  let s := { (s.put Obj.wcTopology topology).put Obj.wcTripCause 0 with wc := { trips := s.wc.trips } }
  if topology = 1 then (s.put Obj.wcState 1).soRequest (s.cN Obj.wcStarContactor)
  else if topology = 2 then
    let s := s.put Obj.wcState 1
    if s.soResting (s.cN Obj.wcStarContactor) then s.soRequest (s.cN Obj.wcBoostContactor) else s
  else s.put Obj.wcState 0

/-- The function returns to idle: outputs de-energised, groups off, CP0's session over. -/
def State.wcEnd (s : State) : State :=
  if s.oN Obj.wcTopology = 0 then s
  else (((s.wcGroupsOff.wcZero.wcOpenAll.put Obj.wcState 0).put Obj.wcTopology 0).put Obj.wcExportAvailable 0).cpStop 0

/-- WC_CONTACTOR: the sequence ends with every output de-energised (R297). -/
def State.wcContactorFault (s : State) : State :=
  ((s.wcGroupsOff.wcZero.wcOpenAll).put Obj.wcState 0).raise FC.wcContactor 0

/-- STAR_CONTACTOR_CONFIRMED (R297). -/
def State.starConfirmed (ok : Bool) (s : State) : State :=
  if ¬ s.wcOn ∨ s.oN Obj.wcTopology ≠ 1 ∨ s.oN Obj.wcState ≠ 1 then s
  else if ok then s.put Obj.wcState 2 else s.wcContactorFault

/-- STAR_CONTACTOR_CONFIRMED. -/
def execStarContactorConfirmed (ok : Bool) (s : State) : Host.Outcome State Fault Refusal := .next (s.starConfirmed ok)

/-- The link condition of R297. -/
def State.wcLinkOk (s : State) : Bool :=
  decide (sqrt2 * s.oF Obj.wcGridVoltage * (1 + s.cF Obj.wcLinkMargin / 100) ≤ s.oF (Obj.vdcMean (s.tracLinkOf (s.cN Obj.wcMachine))))

/-- The grid timebase is locked. -/
def State.wcLocked (s : State) : Bool := s.oN (Obj.tbLockState (s.cN Obj.wcGridTimebase)) == 2

/-- The voltage of every line, and the frequency, lie within the reconnect window. -/
def State.wcInWindow (s : State) (volts : Nat) : Bool := s.inWindow wcKeys (s.cN Obj.wcGridTimebase) [F32.toRat volts]

/-- The grid output is energised where window, timebase and link allow it (R297, step 3). -/
def State.wcConnect (volts : Nat) (s : State) : State :=
  let s := s.put Obj.wcGridVoltage volts
  if s.wcInWindow volts && s.wcLocked && s.wcLinkOk then (s.soRequest (s.cN Obj.wcGridContactor)).put Obj.wcState 3 else s

/-- GRID_WINDOW_HELD, with the mean line-to-line voltage. -/
def execGridWindowHeld (volts : BitVec 32) (s : State) : Host.Outcome State Fault Refusal :=
  .next (if s.wcOn ∧ s.oN Obj.wcTopology = 1 ∧ s.oN Obj.wcState = 2 then s.wcConnect volts.toNat else s)

/-- GRID_CONTACTOR_CONFIRMED: the group runs and power ramps (R297, steps 4 to 6). -/
def State.gridConfirmed (ok : Bool) (s : State) : State :=
  if ¬ s.wcOn ∨ s.oN Obj.wcTopology ≠ 1 ∨ s.oN Obj.wcState ≠ 3 then s
  else if ok then
    let s := s.forAll s.wcGroups (fun g => State.put (Obj.groupRunRequest g) 1)
    let s := if (s.cpx 0).session then s else s.cpStart 0
    (s.put Obj.wcState 4).mtrOpen 1 (s.oN Obj.lkSessionId)
  else s.wcContactorFault

/-- GRID_CONTACTOR_CONFIRMED. -/
def execGridContactorConfirmed (ok : Bool) (s : State) : Host.Outcome State Fault Refusal := .next (s.gridConfirmed ok)

/-- A requested transition ends with a code (R34). -/
def State.requestEnds (target code : Nat) (s : State) : State :=
  if s.md.requested ∧ s.oN Obj.modeTarget = target then
    let s := (s.put Obj.modeRequestResult code).put Obj.modeTarget 0xFF
    { s with md := { s.md with requested := false } }
  else s

/-- WC_LINKLOW: the request ends (R297). -/
def State.wcLinkLow (s : State) : State :=
  if s.wcOn ∧ s.oN Obj.wcTopology = 1 ∧ (s.oN Obj.wcState = 2 ∨ s.oN Obj.wcState = 6) then
    ((s.wcEnd.requestEnds 5 4).raise FC.wcLinklow 0).sessionEnd FC.wcLinklow
  else s

/-- WC_LINKLOW. -/
def execWcLinklow (s : State) : Host.Outcome State Fault Refusal := .next s.wcLinkLow

/-! ## References (R298, R299) -/

/-- P_exp, W. -/
def State.wcExpMax (s : State) : Rat :=
  let l := s.tracLinkOf (s.cN Obj.wcMachine)
  min (s.cF Obj.wcPowerMaxExport) (s.oF (Obj.tracBatteryDischargeLimit l)) * 1000 * s.kTh (s.cN Obj.wcMachine)

/-- WcExportAvailable (R299). -/
def State.wcExportOk (s : State) : Bool :=
  s.sealPin 6 && s.cN Obj.wcExportEnable == 1 && s.oN Obj.wcExportAgreed == 1 &&
  decide (s.cF Obj.wcExportFloorVoltage < s.oF (Obj.cpBatteryVoltage 0)) && decide (0 < s.wcExpMax)

/-- Slew of a reference: an increase of its magnitude at a rate, anything else at once. -/
def slewUp (old new step : Rat) : Rat :=
  if old < 0 ∧ 0 < new ∨ new < 0 ∧ 0 < old then (if 0 < new then min new step else max new (-step))
  else if |new| ≤ |old| then new
  else if 0 < new then min new (old + step)
  else max new (old - step)

/-- The grid reference of 1 ms (R298). -/
def State.wcGridRef (s : State) : State :=
  let kth := s.kTh (s.cN Obj.wcMachine)
  let vg := s.oF Obj.wcGridVoltage
  let supply := sqrt3 * vg * s.oF Obj.wcSupplyCurrentLimit
  let phase := sqrt3 * vg * s.cF Obj.wcCurrentMaxPhase
  let maxImp := s.cF Obj.wcPowerMaxImport * 1000
  let pImp := min maxImp supply * kth
  let pExp := s.wcExpMax
  let ok := s.wcExportOk
  let vb := s.oF (Obj.cpBatteryVoltage 0)
  let ref := s.oF (Obj.cpCurrentRef 0)
  let trim := F32.toRat s.wc.trim + (ref - s.oF (Obj.cpBatteryCurrent 0)) * vb / 100
  let trim := max (-(pImp / 10)) (min (pImp / 10) trim)
  let req := s.oF Obj.wcPowerRequest * 1000
  let wantsExport := decide (req < 0)
  let s := if wantsExport && !ok && !s.wc.denied then { s.raise FC.wcExportdenied 0 with wc := { s.wc with denied := true } } else s
  let asked := if wantsExport then (if ok then req else 0) else ref * vb / s.cF Obj.wcEfficiency + trim
  let apparent := s.cF Obj.wcApparentMax * 1000
  let lim := min phase apparent
  let target := max (-(min pExp lim)) (min (min pImp lim) asked)
  let rate := if s.wc.reconnect then maxImp * s.cF Obj.wcReconnectRamp / 100 / 60000 else s.cF Obj.wcRampRate
  let old := s.oF Obj.wcPowerSetpoint * 1000
  let p := slewUp old target rate
  let qMax := F32.toRat (F32.sqrtRat (apparent * apparent - p * p))
  let q := max (-qMax) (min qMax (s.oF Obj.wcReactiveRequest * 1000))
  let bind := fun (x : Rat) => decide (x ≤ asked) && !wantsExport
  let bits := bitIf (bind maxImp || (wantsExport && decide (req < -pExp))) 0 + bitIf (decide (apparent < |asked|) || decide (qMax < |s.oF Obj.wcReactiveRequest * 1000|)) 1 +
    bitIf (bind supply && decide (supply < maxImp)) 2 + bitIf (decide (phase < |asked|)) 3 + bitIf (decide (kth < 1)) 4 +
    bitIf (!wantsExport && decide (target = asked)) 5 + bitIf (s.wc.reconnect && decide (p < target)) 6
  let s := ((s.putF Obj.wcPowerSetpoint (p / 1000)).put Obj.wcActiveLimiter (bits : Nat))
  { s with wc := { s.wc with trim := F32.ofRat trim, q := F32.ofRat q, reconnect := s.wc.reconnect && decide (|p| < |target|) } }

/-- The boost leg reference (R298). -/
def State.wcBoostRef (s : State) : State :=
  let n : Rat := (s.boostChannels.length : Nat)
  let vin := s.oF (Obj.vdcValue (s.cN Obj.lkInletVoltageInput))
  let hi := s.cF Obj.wcBoostCurrentMax * s.kTh (s.cN Obj.wcMachine)
  let d := n * vin * s.cF Obj.wcEfficiency
  let asked := if d = 0 then hi else s.oF (Obj.cpCurrentRef 0) * s.oF (Obj.cpBatteryVoltage 0) / d
  let i := min asked hi
  let bits := bitIf (decide (s.kTh (s.cN Obj.wcMachine) < 1)) 4 + bitIf (decide (asked ≤ hi)) 5 + bitIf (decide (hi < asked)) 7
  { s.put Obj.wcActiveLimiter (bits : Nat) with wc := { s.wc with leg := F32.ofRat i } }

/-- The linear ramp to zero over ModeExitRamp on the way to M2 (R46). -/
def State.wcDown (s : State) : State :=
  match s.wc.down with
  | none => s
  | some (p0, t0, q0, l0) =>
    let k := max 0 (1 - mkRat ((s.mono - t0 : Nat) : Int) (s.oN Obj.modeExitRamp * 1000000))
    let s := s.putF Obj.wcPowerSetpoint (F32.toRat p0 * k)
    { s with wc := { s.wc with q := F32.ofRat (F32.toRat q0 * k), leg := F32.ofRat (F32.toRat l0 * k) } }

/-- The ramp begins where the references stand (R46). -/
def State.wcRamp (s : State) : State :=
  if s.oN Obj.wcTopology = 0 ∨ s.wc.down.isSome then s
  else
    let d := (s.oN Obj.wcPowerSetpoint, s.mono, s.wc.q, s.wc.leg)
    let s := { s with wc := { s.wc with down := some d } }
    if [2, 3, 4, 6].contains (s.oN Obj.wcState) then s.put Obj.wcState 5 else s

/-- The park lock is reported released (R309). -/
def State.wcParkLost (a : Nat) (s : State) : State :=
  if s.wcOn ∧ s.cN Obj.wcParkLockActuator = a ∧ (s.oN Obj.wcTopology = 1 ∨ s.oN Obj.wcTopology = 2) then
    ((s.wcGroupsOff.wcZero.wcOpenAll).raise FC.wcParklock 0).sessionEnd FC.wcParklock
  else s

/-- WC_REFERENCE_UPDATE: every 1 ms, with the grid's mean line voltage and the power measured, kW (R298). -/
def State.wcUpdate (volts power : Nat) (s : State) : State :=
  let s := s.put Obj.wcExportAvailable (if s.wcOn && s.wcExportOk then 1 else 0)
  if ¬ s.wcOn ∨ s.oN Obj.wcTopology = 0 then s
  else
    let s := (s.put Obj.wcPower power).put Obj.wcGridFrequency (s.o (Obj.tbFrequency (s.cN Obj.wcGridTimebase)))
    let s := if s.oN Obj.wcTopology = 1 then s.put Obj.wcGridVoltage volts else s
    let a := s.cN Obj.wcParkLockActuator
    let s := if a < 4 ∧ s.oN (Obj.gaParkEngaged a) = 0 ∧ s.oN Obj.modeTarget = 0xFF then s.wcParkLost a else s
    match s.oN Obj.wcState with
    | 4 => if s.oN Obj.wcTopology = 1 then s.wcGridRef else s.wcBoostRef
    | 5 => s.wcDown
    | _ => s

/-- WC_REFERENCE_UPDATE. -/
def execWcReferenceUpdate (volts power : BitVec 32) (s : State) : Host.Outcome State Fault Refusal :=
  .next (s.wcUpdate volts.toNat power.toNat)

/-- The words of the law slot's snapshot (R296). -/
def State.wcWords (n : Nat) (s : State) : State :=
  if s.wcOn && s.cN Obj.wcLawSlot == n then
    let ws : List (Nat × Nat) := [(0x170, F32.ofRat (s.oF Obj.wcPowerSetpoint * 1000)), (0x171, s.wc.q), (0x172, s.wc.leg)]
    s.slotMod n (fun x => { x with words := ws })
  else s

/-! ## Trips (R300, R301) and battery loss (R307, R308) -/

/-- Trips that began within WcTripWindow. -/
def State.wcTripsNow (s : State) : List Nat := s.wc.trips.filter (fun t => s.mono < t + s.cN Obj.wcTripWindow * 60000000000)

/-- A grid trip (R301). -/
def State.wcGridTrip (cause : Nat) (s : State) : State :=
  if ¬ s.wcOn ∨ s.oN Obj.wcTopology ≠ 1 ∨ ¬ [3, 4, 5].contains (s.oN Obj.wcState) then s
  else if cause = 0 ∨ 9 < cause ∨ (cause = 7 ∧ ¬ s.oF Obj.wcPowerSetpoint < 0) then s
  else
    let trips := s.wcTripsNow ++ [s.mono]
    let s := s.wcZero.wcGroupsOff.soRelease (s.cN Obj.wcGridContactor)
    let s := (((s.put Obj.wcState 6).put Obj.wcTripCause cause).incSat Obj.wcTripCount).put Obj.wcReconnectRemaining (s.cN Obj.wcReconnectDelay : Nat)
    let s := { s with wc := { s.wc with trips := trips } }
    if s.cN Obj.wcTripMax ≤ trips.length then
      let s := s.wcOpenAll.raise FC.wcTriplatch 0
      { s with wc := { s.wc with latched := true, trips := [] } }
    else s.raise FC.wcGridtrip 0

/-- WC_GRIDTRIP. -/
def execWcGridtrip (cause : BitVec 4) (s : State) : Host.Outcome State Fault Refusal := .next (s.wcGridTrip cause.toNat)

/-- One millisecond of the grid's supervision: voltage, the delay that is left, and a trip whose time has passed (R300, R301). -/
def State.wcGridTick (s : State) : State :=
  if ¬ s.wcOn ∨ s.oN Obj.wcTopology ≠ 1 then s
  else
    let tb := s.cN Obj.wcGridTimebase
    let x := s.gridNext wcKeys tb s.windingChannels s.wc.grid
    let c := s.gridCause wcKeys tb (decide (s.oF Obj.wcPowerSetpoint < 0)) x
    let s := { s.putF Obj.wcGridVoltage (ratMean s.gridLines) with wc := { s.wc with grid := x } }
    let s := s.tbMod tb (fun y => { y with jump := 0 })
    let s := if s.oN Obj.wcState = 6 then s.put Obj.wcReconnectRemaining (s.gridWait wcKeys x : Nat) else s
    match c with
    | some c => s.wcGridTrip c
    | none => s

/-- RECONNECT_DELAY_END: the sequence repeats from step 3, with the lines' voltage within the window (R301). -/
def State.wcReconnect (volts : Nat) (s : State) : State :=
  if s.wcOn ∧ s.oN Obj.wcTopology = 1 ∧ s.oN Obj.wcState = 6 ∧ ¬ s.wc.latched ∧ s.wcInWindow volts then
    let s := { s.put Obj.wcReconnectRemaining 0 with wc := { s.wc with reconnect := true } }
    s.wcConnect volts
  else s

/-- RECONNECT_DELAY_END. -/
def execReconnectDelayEnd (volts : BitVec 32) (s : State) : Host.Outcome State Fault Refusal := .next (s.wcReconnect volts.toNat)

/-- The winding-charging function or the inlet function delivers current into the link (R307). -/
def State.chargesNow (s : State) : Bool :=
  s.engOn && !s.station && s.oN Obj.wcState != 7 &&
  ((s.mode == 5 && s.wcOn && s.oN Obj.wcTopology == 1 && (s.oN Obj.wcState == 4 || s.oN Obj.wcState == 5)) || (s.mode == 6 && s.oN Obj.lkState == 6))

/-- The condition under which a loss is looked for. -/
def State.lossWatched (s : State) : Bool := s.chargesNow && decide (s.cF Obj.wcLossMinCurrent ≤ |s.oF (Obj.cpCurrentRef 0)|)

/-- Battery loss, without the link function's part (R308). -/
def State.wcBattLoss (s : State) : State :=
  if s.lossWatched then
    let s := s.wcZero.wcGroupsOff
    let s := if s.mode = 5 then s.soRelease (s.cN Obj.wcGridContactor) else s
    let s := ((s.cpEndPhase 0 8 (s.oN (Obj.cpTermCause 0))).put Obj.wcState 7).put Obj.wcLossTime s.now
    (s.raise FC.wcBattloss 0).sessionEnd FC.wcBattloss
  else s

end Sys2Proof.Machine
end

