-- ==== Sys2Proof/Machine/Link.lean ====
section
/-! DEFINITION. The vehicle end of the charging link (R343 to R350). -/

namespace Sys2Proof.Machine

def State.lkMod (f : LkX → LkX) (s : State) : State := { s with lk := f s.lk }

/-- The vehicle end works: vehicle, enabled, M2 to M10 but M9. -/
def State.lkOn (s : State) : Bool := s.engOn && s.mode != 9 && !s.station && s.cN Obj.lkEnable == 1

/-! ## Pins and pilot (R345, R349) -/

/-- The hottest pin temperature; a lost sensor counts as LkPinTempDerate (R349). -/
def State.pinTemp (s : State) : Option Rat :=
  match ((map8 (s.cN Obj.lkPinTempInputs)).filter (· < 16)).map (fun n =>
      if s.oN (Obj.ainState n) = 2 then s.cF Obj.lkPinTempDerate else s.oF (Obj.ainValue n)) with
  | [] => none
  | t :: ts => some (ts.foldl max t)

/-- k_pin. -/
def State.kPin (s : State) : Rat :=
  match s.pinTemp with
  | none => 1
  | some t => fallBetween t (s.cF Obj.lkPinTempDerate) (s.cF Obj.lkPinTempLimit)

/-- The supply current limit of a pilot duty in per cent; none where the duty demands digital communication (R345). -/
def pilotLimit (d : Rat) : Option Rat :=
  if 10 ≤ d ∧ d ≤ 85 then some (d * 6 / 10)
  else if 85 < d ∧ d ≤ 96 then some ((d - 64) * 5 / 2)
  else if 3 ≤ d ∧ d ≤ 7 then none
  else some 0

/-- The inlet voltage, the battery voltage, and the inlet current where an input is named. -/
def State.inletVolts (s : State) : Rat := s.oF (Obj.vdcValue (s.cN Obj.lkInletVoltageInput))
def State.lkBattVolts (s : State) : Rat := s.oF (Obj.vdcValue (s.cN Obj.lkBatteryVoltageInput))
def State.inletAmps (s : State) : Option Rat :=
  if s.cN Obj.lkInletCurrentInput < 32 then some (s.oF (Obj.sdValue (s.cN Obj.lkInletCurrentInput))) else none

/-- The target current: CP0's, limited by k_pin, while energy is delivered, and 0 otherwise (R347, R349). -/
def State.lkTargetAmps (s : State) : Rat :=
  if s.oN Obj.lkState = 6 then min (s.oF (Obj.cpCurrentRef 0)) (s.kPin * s.cF Obj.lkMaxCurrent) else 0

/-- Inlet voltage, current and pin temperature as shown, and the target current. -/
def State.lkShow (s : State) : State :=
  let a := F32.ofRat s.lkTargetAmps
  let s := s.lkMod (fun x => { x with amps := a })
  let s := s.put Obj.lkInletVoltage (s.o (Obj.vdcValue (s.cN Obj.lkInletVoltageInput)))
  let s := if s.cN Obj.lkInletCurrentInput < 32 then s.put Obj.lkInletCurrent (s.o (Obj.sdValue (s.cN Obj.lkInletCurrentInput))) else s
  match s.pinTemp with
  | none => s
  | some t => s.putF Obj.lkPinTempMax t

/-! ## States (R347) -/

/-- The state-C load of the pilot: switched on from the cable check until the stop, and in M5 once the parameters are agreed (R345; the
states are PRESUMED from IEC 61851-1, log 83). -/
def State.lkLoad (s : State) : State :=
  let n := s.cN Obj.lkPilotStateOutput
  let st := s.oN Obj.lkState
  if 8 ≤ n ∨ s.station ∨ s.cN Obj.lkEnable ≠ 1 then s
  else if s.lkOn ∧ ((3 ≤ st ∧ st ≤ 7) ∨ (s.mode = 5 ∧ st = 2)) then (if s.oN (Obj.soCommand n) = 1 then s else s.soRequest n)
  else if s.oN (Obj.soCommand n) = 1 then s.soRelease n else s

/-- Enter a state: 9 and 10 close the legal session and end Tandem (R361, R414). -/
def State.lkTo (n : Nat) (s : State) : State :=
  let s := (s.put Obj.lkState n).lkShow.lkLoad
  if n = 9 ∨ n = 10 then s.tdEnd.mtrClose 0 else s

/-- Close DC− first and DC+ last. -/
def State.lkClose (s : State) : State := (s.soRequest (s.cN Obj.lkContactorMinus)).soRequest (s.cN Obj.lkContactorPlus)

/-- Open DC+ first and DC− last, with the pre-charge output. -/
def State.lkOpen (s : State) : State :=
  (((s.soRelease (s.cN Obj.lkContactorPlus)).soRelease (s.cN Obj.lkContactorMinus)).soRelease (s.cN Obj.lkPrechargeOutput)).lkMod
    (fun x => { x with fallback := false })

/-- A link fault of class SAFE or HALT in states 1 to 8: state 10, target 0, the session over (R347). -/
def State.lkFault (code cause : Nat) (s : State) : State :=
  if s.lkOn ∧ 1 ≤ s.oN Obj.lkState ∧ s.oN Obj.lkState ≤ 8 then
    let s := ((s.put Obj.lkStopCause cause).lkTo 10).lkMod (fun x => { x with target := 0 })
    (s.raise code 0).sessionEnd code
  else s

/-- Communication starts with a protocol; none that is supported ends the session (R343, R346, R347). -/
def State.lkPlug (pilot protocol : Nat) (s : State) : State :=
  let s := (s.put Obj.lkPlugged 1).put Obj.lkPilotState pilot
  if s.lkOn ∧ s.oN Obj.lkState = 0 then
    let s := ((s.put Obj.lkStopCause 0).put Obj.lkProtocol protocol).lkTo 1
    if protocol = 0 then s.lkFault FC.lnkProtocol 5 else s
  else s

/-- Detection is lost: under current the link enters fault, and a finished session is forgotten (R346, R347, R362). -/
def State.lkUnplug (amps : Rat) (s : State) : State :=
  let s := (s.put Obj.lkPlugged 0).put Obj.lkPilotState 0
  if ¬ s.lkOn then s
  else if s.oN Obj.lkState = 9 then s.lkTo 0
  else if s.oN Obj.lkState = 10 then s.lkOpen.lkTo 0
  else if s.cF Obj.lkOpenCurrent < |amps| then s.lkFault FC.lnkUnplug 6
  else s

/-- PILOT_INVALID, with the pilot's state and its duty in per cent: state E or F, or a duty outside the bands for 1 s (R345). -/
def execPilotInvalid (pilot : BitVec 3) (duty : BitVec 32) (s : State) : Host.Outcome State Fault Refusal :=
  .next (if s.lkOn ∧ (5 ≤ pilot.toNat ∨ pilotLimit (F32.toRat duty.toNat) = some 0) then
    let s := s.put Obj.lkPilotState (min pilot.toNat 6 : Nat)
    if 1 ≤ s.oN Obj.lkState ∧ s.oN Obj.lkState ≤ 8 then s.lkFault FC.lnkPilot 5 else s.raise FC.lnkPilot 0
  else s)

/-- Whether a protocol carries an energy service at the vehicle end (R343). -/
def serviceOk (protocol service : Nat) : Bool :=
  match protocol with
  | 1 => 1 ≤ service && service ≤ 6
  | 2 => service == 1
  | 3 => service == 5
  | _ => false

/-- The values of R350 go to the other functions. -/
def State.lkHandOver (amps duty : Rat) (s : State) : State :=
  let lim := match pilotLimit duty with
    | some l => min amps l
    | none => amps
  let sv := s.oN Obj.lkEnergyService
  (s.putF Obj.wcSupplyCurrentLimit lim).put Obj.wcExportAgreed (if sv = 2 ∨ sv = 4 ∨ sv = 6 then 1 else 0)

/-- CHARGE_PARAMETERS_AGREED: energy service, session identifier, the post's maxima and the pilot duty in per cent. -/
def State.lkAgreed (service session volts amps duty : Nat) (s : State) : State :=
  if ¬ s.lkOn ∨ s.oN Obj.lkState ≠ 1 then s
  else if ¬ serviceOk (s.oN Obj.lkProtocol) service then s.lkFault FC.lnkProtocol 5
  else
    let s := ((s.put Obj.lkEnergyService service).put Obj.lkSessionId session).put Obj.lkPostMaxVoltage volts
    ((s.put Obj.lkPostMaxCurrent amps).lkHandOver (F32.toRat amps) (F32.toRat duty)).lkTo 2

/-- CHARGE_PARAMETERS_AGREED. -/
def execChargeParametersAgreed (service : BitVec 3) (session : BitVec 64) (volts amps duty : BitVec 32) (s : State) : Host.Outcome State Fault Refusal :=
  .next (s.lkAgreed service.toNat session.toNat volts.toNat amps.toNat duty.toNat)

/-- CABLE_CHECK_BEGIN. -/
def execCableCheckBegin (s : State) : Host.Outcome State Fault Refusal :=
  .next (if s.lkOn ∧ s.oN Obj.lkState = 2 ∧ s.mode = 6 then s.lkTo 3 else s)

/-- The target sent to the post: the battery voltage, or 0.9 of it in boost. -/
def State.lkTargetVolts (s : State) : Rat :=
  if s.oN Obj.wcTopology = 2 then s.lkBattVolts * 9 / 10 else s.lkBattVolts

/-- The inlet matches: within LkMatchTolerance of the battery, or at least 50 V below it in boost (R348). -/
def State.lkMatches (s : State) : Bool :=
  if s.oN Obj.wcTopology = 2 then decide (s.inletVolts + 50 ≤ s.lkBattVolts) else decide (|s.inletVolts - s.lkBattVolts| ≤ s.cF Obj.lkMatchTolerance)

/-- PRECHARGE_BEGIN. -/
def execPrechargeBegin (s : State) : Host.Outcome State Fault Refusal :=
  .next (if s.lkOn ∧ s.oN Obj.lkState = 3 then
    let v := F32.ofRat s.lkTargetVolts
    (s.lkTo 4).lkMod (fun x => { x with target := v })
  else s)

/-- PRECHARGE_MATCH_HELD: the match has held, and the contactors close; after a fallback DC+ alone (R347, R348). -/
def execPrechargeMatchHeld (s : State) : Host.Outcome State Fault Refusal :=
  .next (if s.lkOn ∧ s.oN Obj.lkState = 4 ∧ s.lkMatches then
    (if s.lk.fallback then s.soRequest (s.cN Obj.lkContactorPlus) else s.lkClose).lkTo 5
  else s)

/-- PRECHARGE_OUTPUT_FALLBACK: no match within 5 s, so DC− and the pre-charge output close (R348). -/
def execPrechargeOutputFallback (s : State) : Host.Outcome State Fault Refusal :=
  .next (if s.lkOn ∧ s.oN Obj.lkState = 4 ∧ ¬ s.lkMatches ∧ s.cN Obj.lkPrechargeOutput < 8 then
    ((s.soRequest (s.cN Obj.lkContactorMinus)).soRequest (s.cN Obj.lkPrechargeOutput)).lkMod (fun x => { x with fallback := true })
  else s)

/-- LNK_PRECHARGE: no match within 10 s (R347). -/
def execLnkPrecharge (s : State) : Host.Outcome State Fault Refusal :=
  .next (if s.oN Obj.lkState = 4 ∧ ¬ s.lkMatches then s.lkFault FC.lnkPrecharge 5 else s)

/-- Delivery starts: the legal session opens, CP0's session begins and a boost converter runs (R298, R347, R414). -/
def State.lkConfirmed (ok : Bool) (s : State) : State :=
  if ¬ s.lkOn ∨ s.oN Obj.lkState ≠ 5 then s
  else if ok then
    let s := (s.lkTo 6).mtrOpen 2 (s.oN Obj.lkSessionId)
    let s := if (s.cpx 0).session then s else s.cpStart 0
    if s.oN Obj.wcTopology = 2 ∧ s.wcOn then (s.forAll s.wcGroups (fun g => State.put (Obj.groupRunRequest g) 1)).put Obj.wcState 4 else s
  else s.lkFault FC.lnkContactor 5

/-- The session stops in an orderly way, with a cause (R347). -/
def State.lkStop (cause : Nat) (s : State) : State :=
  if s.lkOn ∧ s.oN Obj.lkState = 6 then ((s.put Obj.lkStopCause cause).lkTo 7).lkMod (fun x => { x with target := 0 }) else s

/-- LINK_STOP_REQUEST: a write of 1 to LkStopRequest. -/
def execLinkStopRequest (role : Role) (s : State) : Host.Outcome State Fault Refusal :=
  .next (s.accessAt role 2 Obj.lkStopRequest (!s.station) (State.lkStop 2))

/-- POST_STOP_RECEIVED. -/
def execPostStopReceived (s : State) : Host.Outcome State Fault Refusal := .next (s.lkStop 3)

/-- CP0 in phase 6 or 8 stops the session (R347). -/
def State.lkCharged (s : State) : State :=
  match s.oN (Obj.cpPhase 0) with
  | 6 => s.lkStop 1
  | 8 => s.lkStop 5
  | _ => s

/-- The current is low: the contactors open; a session in fault whose plug is gone is forgotten (R347). -/
def State.lkCurrentLow (s : State) : State :=
  if ¬ s.lkOn then s
  else if s.oN Obj.lkState = 7 then s.lkOpen.lkTo 8
  else if s.oN Obj.lkState = 10 then
    let s := s.lkOpen
    if s.oN Obj.lkPlugged = 0 then s.lkTo 0 else s
  else s

/-- INLET_CURRENT_LOW: the inlet current, where an input reads it, has fallen to LkOpenCurrent (R347). -/
def execInletCurrentLow (s : State) : Host.Outcome State Fault Refusal :=
  .next (match s.inletAmps with
    | some a => if |a| ≤ s.cF Obj.lkOpenCurrent then s.lkCurrentLow else s
    | none => s.lkCurrentLow)

/-- LINK_FAULT_OPEN_TIMEOUT: 20 ms in fault open the contactors under current (R347, R362). -/
def execLinkFaultOpenTimeout (s : State) : Host.Outcome State Fault Refusal :=
  .next (if s.oN Obj.lkState = 10 then s.lkCurrentLow else s)

/-- WELD_CHECK_1S, with the inlet voltage. -/
def execWeldCheck1s (volts : BitVec 32) (s : State) : Host.Outcome State Fault Refusal :=
  .next (if s.oN Obj.lkState = 8 ∧ |F32.toRat volts.toNat - s.lkBattVolts| ≤ |s.lkBattVolts| * 5 / 100 then s.lkFault FC.lnkWeld 5 else s)

/-- INLET_DISCHARGED: the inlet is below 60 V, and the session ends (R347). -/
def execInletDischarged (s : State) : Host.Outcome State Fault Refusal :=
  .next (if s.lkOn ∧ s.oN Obj.lkState = 8 ∧ s.inletVolts < 60 then
    let s := (s.lkTo 9).sessionEnd (if s.oN Obj.wcState = 7 then FC.wcBattloss else 0)
    if s.oN Obj.lkPlugged = 0 then s.lkTo 0 else s
  else s)

/-- WELD_CHECK_5S, with the inlet voltage. -/
def execWeldCheck5s (volts : BitVec 32) (s : State) : Host.Outcome State Fault Refusal :=
  .next (if s.oN Obj.lkState = 8 ∧ 60 ≤ F32.toRat volts.toNat then s.lkFault FC.lnkWeld 5 else s)

/-- LNK_PINHOT ends the session through state 7, and an earlier state enters fault (R347, R349). -/
def State.pinHot (temp : Nat) (s : State) : State :=
  if ¬ s.lkOn then s
  else
    let s := s.put Obj.lkPinTempMax temp
    if s.oN Obj.lkState = 6 then (s.lkStop 5).raise FC.lnkPinhot 0
    else if 1 ≤ s.oN Obj.lkState ∧ s.oN Obj.lkState ≤ 5 then s.lkFault FC.lnkPinhot 5
    else s.raise FC.lnkPinhot 0

/-- A pin temperature is judged: LNK_PINTEMP where it crosses LkPinTempDerate, LNK_PINHOT where it reaches LkPinTempLimit (R349). -/
def State.pinJudge (temp : Nat) (s : State) : State :=
  let t := F32.toRat temp
  let warm := decide (s.cF Obj.lkPinTempDerate < t)
  let hot := decide (s.cF Obj.lkPinTempLimit ≤ t)
  let x := s.lk
  let s := s.lkMod (fun x => { x with warm := warm, hot := hot })
  let s := if s.lkOn ∧ warm ∧ ¬ x.warm then (s.put Obj.lkPinTempMax temp).raise FC.lnkPintemp 0 else s
  if hot ∧ ¬ x.hot then s.pinHot temp else s

/-- PIN_TEMP_DERATE, with the temperature. -/
def execPinTempDerate (temp : BitVec 32) (s : State) : Host.Outcome State Fault Refusal := .next (s.pinJudge temp.toNat)

/-- PIN_TEMP_LIMIT, with the temperature. -/
def execPinTempLimit (temp : BitVec 32) (s : State) : Host.Outcome State Fault Refusal := .next (s.pinJudge temp.toNat)

/-- What the vehicle end shows again, and judges, every millisecond. -/
def State.lkFollow (s : State) : State :=
  let s := s.lkShow.lkLoad
  match s.pinTemp with
  | some t => s.pinJudge (F32.ofRat t)
  | none => s

/-- INLET_PRECHARGE_OUTPUT_OPEN: 20 ms after DC+ of a fallback (R348). -/
def execInletPrechargeOutputOpen (s : State) : Host.Outcome State Fault Refusal :=
  .next (if s.lkOn ∧ s.lk.fallback ∧ 5 ≤ s.oN Obj.lkState then (s.soRelease (s.cN Obj.lkPrechargeOutput)).lkMod (fun x => { x with fallback := false }) else s)

/-! ## The vehicle's Tandem law (R358) -/

/-- The set-point of one instance in TdLawSlot: the CV loop of phase 5, then the smallest limit. -/
def State.tdVehicle (n : Nat) (s : State) : State :=
  if s.lkOn ∧ s.oN Obj.tdState = 4 ∧ s.cN Obj.tdLawSlot = n then
    let s := if s.oN (Obj.cpPhase 0) = 5 then s.cpLoop 0 (F32.toRat (s.cpVolts 0)) (mkRat 1 2000) else s
    let a := if s.oN (Obj.cpPhase 0) = 5 then F32.toRat (s.cpx 0).loop else s.oF (Obj.cpCurrentRef 0)
    let sp := min (min a (s.kPin * s.cF Obj.lkMaxCurrent)) (min (s.oF Obj.tdThermalLimit) (F32.toRat s.td.postLimit))
    s.putF Obj.tdSetpoint (if s.oN Obj.lkState = 6 then sp else 0)
  else s

end Sys2Proof.Machine
end

