-- ==== Sys2Proof/Machine/Wire.lean ====
section
/-! DEFINITION. Frames on their way out of the Ethernet ports: queues, classes and gates (R481, R482, R484). Ports are
numbered XG0, XG1, T1S0, T1S1. -/

namespace Sys2Proof.Machine

def State.netMod (f : NetX → NetX) (s : State) : State := { s with net := f s.net }

/-- The port transmits: link up on XG (R482), enabled on T1S. -/
def State.portUp (s : State) (p : Nat) : Bool :=
  s.up && (if p < 2 then s.oN (Obj.xgLinkState p) == 2 else s.cN (Obj.t1sEnable (p - 2)) == 1)

/-- Octets of a UDP datagram's frame, FCS and VLAN tag included (R360, R479). -/
def State.udpSize (s : State) (p payload : Nat) : Nat :=
  let vlan := if p < 2 then s.cN (Obj.xgVlanId p) else s.cN (Obj.t1sVlanId (p - 2))
  46 + payload + (if vlan = 0 then 0 else 4)

/-- Time that a frame takes on an XG line with its preamble, ns, rounded up: 0.8 ns an octet. -/
def xgNs (size : Nat) : Nat := ((size + 8) * 8 + 9) / 10

/-- How long a class stays open from an entry of a gate list on, ns: the whole of the list where it never closes. -/
def openFor (l : List (Nat × Nat)) (cls k : Nat) : Nat :=
  (((l.drop k ++ l.take k).takeWhile (fun e => e.2.testBit cls)).map Prod.fst).sum

/-- The frame fits into some open interval of its class (R481). -/
def gateFits (l : List (Nat × Nat)) (cls size : Nat) : Bool :=
  l.isEmpty || l.all (fun e => e.2.testBit cls) || (List.range l.length).any (fun k => xgNs size ≤ openFor l cls k)

/-- A frame never fits: it is discarded and counted (R481). -/
def State.gateOverrun (p : Nat) (s : State) : State := (s.incSat (Obj.xgGateOverrunCount p)).note FC.netGateoverrun p

/-- The queue of a port. -/
def State.txQueue (s : State) (p : Nat) : List TxFrame := s.net.queues.getD p []

/-- Place a frame in a port's queue; the flag says whether it was taken. A port that is down sends nothing, and an XG port
counts the frame (R482). -/
def State.netPut (p : Nat) (f : TxFrame) (s : State) : State × Bool :=
  if ¬ s.portUp p then (if p < 2 then s.incSat (Obj.xgTxDropCount p) else s, false)
  else if p < 2 ∧ f.cls < 8 ∧ s.cN (Obj.xgGateEnable p) = 1 ∧ ¬ gateFits (s.net.gates.getD p []) f.cls f.size then (s.gateOverrun p, false)
  else if Config.queueDepth ≤ (s.txQueue p).length then (if p < 2 then s.incSat (Obj.xgTxDropCount p) else s, false)
  else (s.netMod (fun n => { n with queues := modifyAt n.queues p (fun q => q ++ [f]) }), true)

/-- The IPv4 address of a partner of the table (R447), of the stream under 0xFFFF (R490). -/
def State.netAddress (s : State) (partner : Nat) : Nat :=
  if partner = 0xFFFF then s.cN Obj.streamDestination else if partner < 8192 then s.pt partner 20 4 else 0

/-- Send a datagram to a partner of the table, to the stream's destination (0xFFFF), or as an ROA answer (0xFFFE) over a port. -/
def State.netUdp (p cls udp partner : Nat) (payload : List Nat) (s : State) : State × Bool :=
  s.netPut p { cls := cls, size := s.udpSize p payload.length, udp := udp, partner := partner, payload := payload, ip := s.netAddress partner }

end Sys2Proof.Machine
end

