-- ==== Sys2Proof/Machine/Monarch.lean ====
section
/-! DEFINITION. Monarch: budget, ledger, leases, reductions, and the post client (R384 to R395). Amounts are F32 words in
kW; site time is device time. -/

namespace Sys2Proof.Machine

def State.monMod (f : MonX → MonX) (s : State) : State := { s with mon := f s.mon }

/-- Monarch runs: station, SEAL7, enabled, M2, M7 or M8 (R51, R384). -/
def State.monOn (s : State) : Bool :=
  s.engOn && s.station && s.sealPin 7 && s.cN Obj.monEnable == 1 && (s.mode == 2 || s.mode == 7 || s.mode == 8)

def ms (n : Nat) : Nat := n * 1000000

/-! ## Frames (R391, R392) -/

/-- The device's own post in the partner table: its first enabled internal entry. -/
def State.ownPost (s : State) : Nat := (s.ptEnabled.find? (fun e => s.pt e 1 1 == 12)).getD 0xFFFF

/-- A partner that is reached inside the device. -/
def State.monInside (s : State) (p : Nat) : Bool := p == 0xFFFF || s.pt p 1 1 == 12

/-- The 40 bytes of a frame: R391's fields and the tag under the partner's key. -/
def State.monBytes (s : State) (typ : Nat) (f : MonIn) : List Nat :=
  let b := [1, typ] ++ natBytes 2 f.partner.toNat ++ natBytes 4 f.sequence.toNat ++ natBytes 4 f.leaseId.toNat ++ natBytes 4 f.amount.toNat ++
    natBytes 4 f.minimum.toNat ++ [f.cls.toNat, f.result.toNat] ++ natBytes 2 f.epoch.toNat ++ natBytes 8 f.time.toNat
  b ++ natBytes 8 (Config.cmac ((s.nv.partnerKeys.lookup f.partner.toNat).getD 0) b / 2 ^ 64)

/-- A frame with the next Sequence of this Epoch. -/
def State.monStamp (s : State) (f : MonIn) : MonIn :=
  { f with sequence := BitVec.ofNat 32 (s.mon.seqOut + 1), epoch := BitVec.ofNat 16 s.nv.chrysalisCount }

/-- Put a stamped frame on its partner's port. -/
def State.monWire (typ : Nat) (f : MonIn) (s : State) : State :=
  let p := f.partner.toNat
  let s := s.monMod (fun m => { m with seqOut := m.seqOut + 1 })
  if s.pt p 1 1 < 4 then (s.netUdp (s.pt p 1 1) 0 (s.pt p 24 2) p (s.monBytes typ f)).1 else s

/-- Monarch's answer to a partner; to the own post it stays inside. -/
def State.monSend (typ : Nat) (f : MonIn) (s : State) : State :=
  let f := s.monStamp f
  if s.monInside f.partner.toNat then s.monMod (fun m => { m with inbox := m.inbox ++ [(typ, f)] }) else s.monWire typ f

/-- Epoch e is greater than the last accepted l (R392). -/
def epochAfter (e l : Nat) : Bool := 1 ≤ (e + 65536 - l) % 65536 && (e + 65536 - l) % 65536 ≤ 32767

/-- A received frame passes its tag and its order, and its sender's last pair moves on; else it is discarded (R392). -/
def State.monAccept (who : Nat) (f : MonIn) (s : State) : State × Bool :=
  let e := f.epoch.toNat
  let q := f.sequence.toNat
  if ¬ f.tagOk then ((s.incSat Obj.monAuthFailCount).note FC.monAuth f.partner.toNat, false)
  else
    let ok := match s.mon.peers.lookup who with
      | none => true
      | some (le, lq) => if e = le then lq < q else epochAfter e le
    if ok then (s.monMod (fun m => { m with peers := (who, e, q) :: m.peers.filter (fun x => x.1 != who) }), true) else (s, false)

/-- A frame of an enabled Monarch partner (R384). -/
def State.monPartner (s : State) (f : MonIn) : Bool := s.ptFlag f.partner.toNat 0 && s.ptFlag f.partner.toNat 3

/-! ## Budget and ledger (R385, R386) -/

/-- B. -/
def State.monBudget (s : State) : Rat :=
  let sto := match s.mon.storageAt with
    | some t => if s.mono ≤ t + ms (s.cN Obj.monStorageTimeout) then s.oF Obj.monStoragePower else 0
    | none => 0
  s.cF Obj.monGridLimit * fallBetween (s.oF Obj.monTxTemperature) (s.cF Obj.monTxDerateStart) (s.cF Obj.monTxDerateEnd) + sto -
    s.cF Obj.monReserve - s.cF Obj.monSafetyReserve

def sumF (l : List Nat) : Rat := (l.map F32.toRat).sum

/-- A lease that counts against the budget. -/
def Lease.budgeted (l : Lease) : Bool := !l.exporting && !l.reserve

/-- C and the export ledger's sum. -/
def State.monC (s : State) : Rat := sumF ((s.mon.ledger.filter Lease.budgeted).map Lease.counted)
def State.monExport (s : State) : Rat := sumF ((s.mon.ledger.filter Lease.exporting).map Lease.counted)

/-- Class 0 amounts granted out of MonSafetyReserve. -/
def State.monReserved (s : State) : Rat := sumF ((s.mon.ledger.filter Lease.reserve).map Lease.counted)

/-- The status record. -/
def State.monShow (s : State) : State :=
  (((s.putF Obj.monBudget s.monBudget).putF Obj.monCommitted s.monC).putF Obj.monExportCommitted s.monExport).put Obj.monLeaseCount
    (s.mon.ledger.length : Nat)

/-- Change a lease by its number. -/
def State.leaseMod (id : Nat) (f : Lease → Lease) (s : State) : State :=
  s.monMod (fun m => { m with ledger := m.ledger.map (fun l => if l.id = id then f l else l) })

def State.leaseDrop (id : Nat) (s : State) : State :=
  s.monMod (fun m => { m with ledger := m.ledger.filter (fun l => l.id != id), deferred := m.deferred.filter (fun f => f.leaseId.toNat != id) })

def State.leaseOf (s : State) (p id : Nat) : Option Lease := s.mon.ledger.find? (fun l => l.partner == p && l.id == id)

/-! ## Reductions (R389, R390) -/

/-- A point where the sum of clamped shares takes a target, between breakpoints where it is straight: the shares' sum is
`f`, rising. -/
def solveLevel (f : Rat → Rat) (target : Rat) : Rat → List Rat → Rat
  | x0, [] => x0
  | x0, x1 :: xs =>
    if f x1 < target then solveLevel f target x1 xs
    else if f x1 = f x0 then x0
    else x0 + (target - f x0) * (x1 - x0) / (f x1 - f x0)

/-- Shares of leases (amount, minimum) at a level: an equal cap, or an equal proportion; never below the minimum nor above
the amount. -/
def shareAt (policy : Nat) (x : Rat) (l : Rat × Rat) : Rat :=
  max (min l.2 l.1) (min l.1 (if policy = 2 then x * l.1 else x))

/-- Amounts after a class gives way by `need`, at most down to its minima, by policy; newest first for policy 0. -/
def giveWay (policy : Nat) (need : Rat) (ls : List (Rat × Rat)) : List Rat :=
  if policy = 0 then
    ((ls.foldr (fun l (acc : List Rat × Rat) =>
      let r := min acc.2 (max 0 (l.1 - l.2))
      ((l.1 - r) :: acc.1, acc.2 - r)) ([], need))).1
  else
    let sumAt := fun x => (ls.map (shareAt policy x)).sum
    let target := (ls.map Prod.fst).sum - need
    let pts := if policy = 2 then (ls.map (fun l => if l.1 = 0 then 1 else l.2 / l.1)) ++ [1] else ls.map Prod.fst ++ ls.map Prod.snd
    let x := solveLevel sumAt target 0 (pts.insertionSort (fun a b => a ≤ b))
    ls.map (shareAt policy x)

/-- Revoke leases newest first until the need is met: amounts, oldest first. -/
def revoke (need : Rat) (amounts : List Rat) : List Rat :=
  (amounts.foldr (fun a (acc : List Rat × Rat) => if acc.2 ≤ 0 then (a :: acc.1, acc.2) else (0 :: acc.1, acc.2 - a)) ([], need)).1

/-- A lease comes down to an amount: a reduction is sent with its deadline (R389). -/
def State.reduceLease (l : Lease) (q : Rat) (s : State) : State :=
  if q < F32.toRat l.granted then
    let d := s.now + ms (s.cN Obj.monReduceTime)
    let a := F32.ofRat q
    let s := s.leaseMod l.id (fun x => { x with granted := a, deadline := some d })
    (s.monSend 5 { partner := BitVec.ofNat 16 l.partner, leaseId := BitVec.ofNat 32 l.id, amount := BitVec.ofNat 32 a, minimum := BitVec.ofNat 32 l.minimum, cls := BitVec.ofNat 8 l.cls, time := BitVec.ofNat 64 d }).incSat
      Obj.monReduceCount
  else s

/-- One class gives way to a shortfall: down to the minima, then revoked newest first; the rest of the shortfall. -/
def State.reduceClass (cls : Nat) (acc : State × Rat) : State × Rat :=
  if acc.2 ≤ 0 then acc
  else
    let s := acc.1
    let ls := s.mon.ledger.filter (fun l => l.budgeted && l.cls == cls)
    let rs := ls.map (fun l => (F32.toRat l.granted, F32.toRat l.minimum))
    let slack := (rs.map (fun r => max 0 (r.1 - r.2))).sum
    let amounts := if acc.2 ≤ slack then giveWay (s.cN Obj.monPolicy) acc.2 rs
      else revoke (acc.2 - slack) (rs.map (fun r => min r.1 r.2))
    let freed := (rs.map Prod.fst).sum - amounts.sum
    ((ls.zip amounts).foldl (fun t p => t.reduceLease p.1 p.2) s, acc.2 - freed)

/-- The budget is formed, and where the commitments exceed it MON_BUDGETLOW and reductions follow (R385, R389). -/
def State.monEval (s : State) : State :=
  let b := s.monBudget
  let s := if s.monC ≤ b then s.monMod (fun m => { m with low := false })
    else if s.mon.low then s
    else (s.monMod (fun m => { m with low := true })).note FC.monBudgetlow 0
  let short := sumF ((s.mon.ledger.filter Lease.budgeted).map Lease.granted) - b
  ((State.reduceClass 1 (State.reduceClass 2 (State.reduceClass 3 (s, short)))).1).monShow

/-- MONARCH_BUDGET_EVALUATION. -/
def execMonarchBudgetEvaluation (s : State) : Host.Outcome State Fault Refusal :=
  .next (if s.monOn ∧ s.oN Obj.monState = 2 then s.monEval else s)

/-- An update of the budget's inputs by a write or a slot (R385). -/
def State.monInput (k : Nat) (s : State) : State :=
  let s := if k = Obj.monStoragePower then s.monMod (fun m => { m with storageAt := some s.mono }) else s
  if (k = Obj.monStoragePower ∨ k = Obj.monTxTemperature) ∧ s.monOn ∧ s.oN Obj.monState = 2 then s.monEval else s

/-! ## Requests (R387, R390) -/

/-- Refuse a frame with a result and the retry time; only requests take a place in the order of R390. -/
def State.monRefuse (f : MonIn) (result : Nat) (s : State) : State :=
  (s.monSend 8 { f with result := BitVec.ofNat 8 result, time := BitVec.ofNat 64 (s.now + ms (s.cN Obj.monRetryTime)) }).incSat Obj.monRefusedCount

/-- A refused request keeps its place for two retry times from its last arrival. -/
def State.keepPlace (p cls : Nat) (s : State) : State :=
  let till := s.mono + 2 * ms (s.cN Obj.monRetryTime)
  let l := s.mon.refused
  let l' := if l.any (fun x => x.1 == p && x.2.1 == cls) then l.map (fun x => if x.1 = p ∧ x.2.1 = cls then (p, cls, till) else x)
    else l ++ [(p, cls, till)]
  s.monMod (fun m => { m with refused := l' })

def State.losePlace (p cls : Nat) (s : State) : State :=
  s.monMod (fun m => { m with refused := m.refused.filter (fun x => !(x.1 == p && x.2.1 == cls)) })

/-- An earlier refused request of the class waits. -/
def State.placeBefore (s : State) (p cls : Nat) : Bool :=
  match (s.mon.refused.filter (fun x => x.2.1 == cls && s.mono ≤ x.2.2)).head? with
  | none => false
  | some x => x.1 != p

/-- What a request may get: its amount, or the headroom where that is at least the minimum. -/
def offered (amount minimum room : Rat) : Option Rat :=
  if amount ≤ room then some amount else if minimum ≤ room ∧ 0 < room then some room else none

/-- Grant a request: a new lease, or a new amount of the present one; the answer carries the expiry (R387). -/
def State.monGrant (f : MonIn) (old : Option Lease) (q : Rat) (reserve exporting : Bool) (s : State) : State :=
  let e := s.now + ms (s.cN Obj.monLeaseDuration)
  let a := F32.ofRat q
  let id := match old with
    | some l => l.id
    | none => s.mon.nextId
  let l : Lease := { partner := f.partner.toNat, id := id, cls := f.cls.toNat, minimum := f.minimum.toNat, granted := a, counted := a, expiry := e, exporting := exporting, reserve := reserve }
  let s := match old with
    | some _ => s.leaseMod id (fun _ => l)
    | none => s.monMod (fun m => { m with ledger := m.ledger ++ [l], nextId := if m.nextId = 4294967295 then 1 else m.nextId + 1 })
  let shown := F32.ofRat (if exporting then -q else q)
  (s.losePlace f.partner.toNat f.cls.toNat).monSend 2 { f with leaseId := BitVec.ofNat 32 id, amount := BitVec.ofNat 32 shown, result := 0, time := BitVec.ofNat 64 e }

/-- Evaluate a request against the ledger. -/
def State.monRequest (f : MonIn) (s : State) : State :=
  let p := f.partner.toNat
  let cls := f.cls.toNat
  let amount := F32.toRat f.amount.toNat
  let minimum := F32.toRat f.minimum.toNat
  let old := s.leaseOf p f.leaseId.toNat
  if f.leaseId.toNat ≠ 0 ∧ old.isNone then s.monRefuse f 2
  else if old.any (fun l => l.deadline.isSome) then s.monMod (fun m => { m with deferred := m.deferred.filter (fun g => g.leaseId != f.leaseId) ++ [f] })
  else
    let own := fun (r e : Bool) => match old with
      | some l => if l.reserve = r ∧ l.exporting = e then F32.toRat l.counted else 0
      | none => 0
    if cls = 0 ∧ 0 ≤ amount ∧ s.monReserved - own true false + amount ≤ s.cF Obj.monSafetyReserve then s.monGrant f old amount true false
    else if old.isNone ∧ s.cN Obj.monLeaseMax ≤ s.mon.ledger.length then (s.monRefuse f 4).note FC.monTablefull p
    else if amount < 0 then
      match offered (-amount) minimum (s.cF Obj.monExportLimit - (s.monExport - own false true)) with
      | some q => s.monGrant f old q false true
      | none => s.monRefuse f 1
    else
      match (if s.placeBefore p cls then none else offered amount minimum (s.monBudget - (s.monC - own false false))) with
      | some q => s.monGrant f old q false false
      | none => (s.keepPlace p cls).monRefuse f 1

/-- A request whose frame has been accepted: not serving, Result 5 (R393); else the budget first, then the request. -/
def State.monServe (f : MonIn) (s : State) : State :=
  if s.oN Obj.monState ≠ 2 then s.monRefuse f 5 else (s.monEval.monRequest f).monShow

/-- The requests deferred for a lease are evaluated once its reduction has ended (R389). -/
def State.monResume (id : Nat) (s : State) : State :=
  let fs := s.mon.deferred.filter (fun f => f.leaseId.toNat == id)
  fs.foldl (fun t f => t.monRequest f) (s.monMod (fun m => { m with deferred := m.deferred.filter (fun f => f.leaseId.toNat != id) }))

/-- Renew (R387): the expiry moves, unless it has passed. -/
def State.monRenew (f : MonIn) (s : State) : State :=
  if s.oN Obj.monState ≠ 2 then s.monRefuse f 5
  else
    match s.leaseOf f.partner.toNat f.leaseId.toNat with
    | none => s.monRefuse f 2
    | some l =>
      if l.expiry < s.now then s.monRefuse f 3
      else
        let e := s.now + ms (s.cN Obj.monLeaseDuration)
        (s.leaseMod l.id (fun x => { x with expiry := e })).monSend 4 { f with amount := BitVec.ofNat 32 l.granted, result := 0, time := BitVec.ofNat 64 e }

/-- Release (R387, R395): the whole lease, or the excess that its Amount names. -/
def State.monRelease (f : MonIn) (s : State) : State :=
  match s.leaseOf f.partner.toNat f.leaseId.toNat with
  | none => s
  | some l =>
    let a := F32.toRat f.amount.toNat
    let g := F32.toRat l.granted
    if 0 < a ∧ a < g then
      let q := F32.ofRat (g - a)
      (s.leaseMod l.id (fun x => { x with granted := q, counted := if x.deadline.isSome then x.counted else q })).monEval
    else (s.leaseDrop l.id).monEval

/-- A reduction ends: the lease counts at its new amount, and what waited for it is evaluated (R386, R389). -/
def State.reduced (id : Nat) (s : State) : State :=
  ((s.leaseMod id (fun l => { l with counted := l.granted, deadline := none })).monEval.monResume id).monShow

/-- An acknowledgement of a reduction (R389). -/
def State.monAck (f : MonIn) (s : State) : State :=
  match s.leaseOf f.partner.toNat f.leaseId.toNat with
  | some l => if l.deadline.isSome then s.reduced l.id else s
  | none => s

/-! ## The post client (R387 to R389) -/

/-- The client acts: station with SEAL6, enabled. -/
def State.clientOn (s : State) : Bool := s.engOn && s.station && s.sealPin 6 && s.cN Obj.monClientEnable == 1

/-- The client's partner entry. -/
def State.clientPartner (s : State) : Nat := if s.cN Obj.monClientPartner = 0xFFFF then s.ownPost else s.cN Obj.monClientPartner

/-- The client's frame to Monarch; inside the device Monarch takes it at once. -/
def State.clientSend (typ amount cls : Nat) (s : State) : State :=
  let f : MonIn := { partner := BitVec.ofNat 16 s.clientPartner, leaseId := BitVec.ofNat 32 s.mon.leaseId, amount := BitVec.ofNat 32 amount, minimum := BitVec.ofNat 32 (s.cN Obj.monClientMinimum), cls := BitVec.ofNat 8 cls, time := BitVec.ofNat 64 s.now }
  let f := s.monStamp f
  if ¬ s.monInside s.clientPartner then s.monWire typ f
  else
    let s := s.monMod (fun m => { m with seqOut := m.seqOut + 1 })
    if ¬ s.monOn then s
    else
      match typ with
      | 1 => s.monServe f
      | 3 => s.monRenew f
      | 6 => s.monAck f
      | 7 => s.monRelease f
      | _ => s

/-- Ask for an amount (F32, kW) in a class; the client remembers it. -/
def State.clientAsk (amount cls : Nat) (s : State) : State :=
  if ¬ s.clientOn then s
  else
    let s := s.monMod (fun m => { m with asked := some (amount, cls) })
    (if s.oN Obj.monClientState = 0 then s.put Obj.monClientState 1 else s).clientSend 1 amount cls

/-- The lease is gone: the client asks afresh in class 1. -/
def State.clientLapse (s : State) : State :=
  ((((s.put Obj.monClientLease 0).put Obj.monClientExpiry 0).put Obj.monClientState 1).monMod (fun m => { m with leaseId := 0, ackDue := none }))

/-- The post's output power, kW. -/
def State.postPower (s : State) : Rat :=
  if s.cN Obj.lkPostCurrentInput < 32 then s.oF (Obj.vdcValue (s.cN Obj.lkPostVoltageInput)) * s.oF (Obj.sdValue (s.cN Obj.lkPostCurrentInput)) / 1000 else 0

/-- A reduction is acknowledged once the output has come down to its amount (R389). -/
def State.clientStep (s : State) : State :=
  match s.mon.ackDue with
  | none => s
  | some a =>
    if |s.postPower| ≤ |F32.toRat a| then
      let s := s.monMod (fun m => { m with ackDue := none })
      (if s.oN Obj.monClientState = 3 then s.put Obj.monClientState 2 else s).clientSend 6 a 1
    else s

/-- What the client makes of Monarch's frame. -/
def State.clientTake (typ : Nat) (f : MonIn) (s : State) : State :=
  let mine := f.leaseId.toNat = s.mon.leaseId ∧ s.mon.leaseId ≠ 0
  match typ with
  | 2 =>
    let s := s.monMod (fun m => { m with leaseId := f.leaseId.toNat })
    if s.oN Obj.monClientState = 0 then (s.clientSend 7 0 1).monMod (fun m => { m with leaseId := 0 })
    else (((s.put Obj.monClientLease f.amount.toNat).put Obj.monClientExpiry f.time.toNat).put Obj.monClientState 2).monMod (fun m => { m with ackDue := none })
  | 4 =>
    if mine then
      let s := s.put Obj.monClientExpiry f.time.toNat
      if s.oN Obj.monClientState = 4 then s.put Obj.monClientState (if s.mon.ackDue.isSome then 3 else 2) else s
    else s
  | 5 =>
    if mine then
      (((s.put Obj.monClientLease f.amount.toNat).put Obj.monClientState 3).monMod (fun m => { m with ackDue := some f.amount.toNat })).clientStep
    else s
  | 8 =>
    let s := s.monMod (fun m => { m with retryAt := f.time.toNat })
    if mine ∧ (f.result.toNat = 2 ∨ f.result.toNat = 3) then
      let s := s.clientLapse
      match s.mon.asked with
      | some (a, _) => s.clientAsk a 1
      | none => s
    else s
  | _ => s

/-- The answers that wait inside the device are taken, in order. -/
def State.clientDrain : Nat → State → State
  | 0, s => s
  | n + 1, s =>
    match s.mon.inbox with
    | [] => s
    | x :: xs => ((s.monMod (fun m => { m with inbox := xs })).clientTake x.1 x.2).clientDrain n

/-- Take what is there and what that brings. -/
def State.monSettle (s : State) : State := s.clientDrain 64

/-- The lease limit in kW: the lease, ramping to 0 at the expiry once MON_EXPIRED (R388). -/
def State.clientLimit (s : State) : Rat :=
  let l := s.oF Obj.monClientLease
  if s.oN Obj.monClientState = 4 then
    l * max 0 (min 1 (((s.oN Obj.monClientExpiry : Rat) - (s.now : Rat)) / (max 1 (ms (s.cN Obj.monExpiryLead)) : Nat)))
  else l

/-- The session ends: the lease is released. -/
def State.monDrop (s : State) : State :=
  let s := if s.mon.leaseId ≠ 0 then s.clientSend 7 0 1 else s
  ((((s.put Obj.monClientLease 0).put Obj.monClientExpiry 0).put Obj.monClientState 0).monMod
    (fun m => { m with leaseId := 0, asked := none, ackDue := none, retryAt := 0 })).monSettle

/-- The excess over an available power, kW, is released (R395). -/
def State.monExcess (avail : Rat) (s : State) : State :=
  let l := s.oF Obj.monClientLease
  if s.mon.leaseId ≠ 0 ∧ avail < l then ((s.putF Obj.monClientLease avail).clientSend 7 (F32.ofRat (l - avail)) 1).monSettle else s

/-! ## Rows -/

/-- A frame to Monarch: authenticated, in order, then served (R392). -/
def State.monFrame (f : MonIn) (serve : MonIn → State → State) (s : State) : State :=
  if s.monOn ∧ s.monPartner f then
    let r := s.monAccept f.partner.toNat f
    if r.2 then (serve f r.1).monSettle else r.1
  else s

/-- LEASE_REQUEST. -/
def execLeaseRequest (frame : MonIn) (s : State) : Host.Outcome State Fault Refusal := .next (s.monFrame frame State.monServe)

/-- LEASE_RENEW. -/
def execLeaseRenew (frame : MonIn) (s : State) : Host.Outcome State Fault Refusal := .next (s.monFrame frame State.monRenew)

/-- LEASE_RELEASE. -/
def execLeaseRelease (frame : MonIn) (s : State) : Host.Outcome State Fault Refusal := .next (s.monFrame frame State.monRelease)

/-- REDUCE_ACKNOWLEDGED. -/
def execReduceAcknowledged (frame : MonIn) (s : State) : Host.Outcome State Fault Refusal := .next (s.monFrame frame State.monAck)

/-- LEASE_EXPIRY: the Expiry of a lease + MonClockMargin has passed, and it leaves the ledger (R386). -/
def execLeaseExpiry (lease : BitVec 32) (s : State) : Host.Outcome State Fault Refusal :=
  .next (if s.monOn then ((s.leaseDrop lease.toNat).monEval).monSettle else s)

/-- REDUCTION_DEADLINE: Deadline + MonClockMargin has passed and no acknowledgement has come (R386, R389). -/
def execReductionDeadline (lease : BitVec 32) (s : State) : Host.Outcome State Fault Refusal :=
  .next (if s.monOn ∧ s.mon.ledger.any (fun l => l.id == lease.toNat && l.deadline.isSome) then
    (((s.incSat Obj.monNoAckCount).reduced lease.toNat)).monSettle
  else s)

/-- A frame to the client from its Monarch. -/
def State.clientFrame (typ : Nat) (f : MonIn) (s : State) : State :=
  if s.clientOn ∧ ¬ s.monInside s.clientPartner ∧ s.ptFlag s.clientPartner 0 then
    let r := s.monAccept (65536 + s.clientPartner) f
    if r.2 then (r.1.clientTake typ f).monSettle else r.1
  else s

/-- LEASE_GRANT_RECEIVED. -/
def execLeaseGrantReceived (frame : MonIn) (s : State) : Host.Outcome State Fault Refusal := .next (s.clientFrame 2 frame)

/-- LEASE_RENEWED_RECEIVED. -/
def execLeaseRenewedReceived (frame : MonIn) (s : State) : Host.Outcome State Fault Refusal := .next (s.clientFrame 4 frame)

/-- LEASE_REDUCE_RECEIVED. -/
def execLeaseReduceReceived (frame : MonIn) (s : State) : Host.Outcome State Fault Refusal := .next (s.clientFrame 5 frame)

/-- LEASE_REFUSED_RECEIVED. -/
def execLeaseRefusedReceived (frame : MonIn) (s : State) : Host.Outcome State Fault Refusal := .next (s.clientFrame 8 frame)

/-- The client's periodic duty: a renewal while it holds a lease; afresh in class 1 after an expiry; again after the
retry time of a refusal (R387). -/
def State.clientPeriod (s : State) : State :=
  if ¬ s.clientOn then s
  else
    match s.oN Obj.monClientState with
    | 2 => s.clientSend 3 (s.oN Obj.monClientLease) 1
    | 3 => s.clientSend 3 (s.oN Obj.monClientLease) 1
    | 4 =>
      if s.oN Obj.monClientExpiry ≤ s.now then
        let s := s.clientLapse
        match s.mon.asked with
        | some (a, _) => s.clientAsk a 1
        | none => s
      else s.clientSend 3 (s.oN Obj.monClientLease) 1
    | 1 =>
      match s.mon.asked with
      | some (a, c) => if s.mon.retryAt ≤ s.now then s.clientAsk a c else s
      | none => s
    | _ => s

/-- CLIENT_RENEW_DUE. -/
def execClientRenewDue (s : State) : Host.Outcome State Fault Refusal := .next s.clientPeriod.monSettle

/-- MON_EXPIRED: no renewal has come by Expiry − MonExpiryLead (R388). -/
def execMonExpired (s : State) : Host.Outcome State Fault Refusal :=
  .next (if s.clientOn ∧ (s.oN Obj.monClientState = 2 ∨ s.oN Obj.monClientState = 3) then
    (s.put Obj.monClientState 4).raise FC.monExpired 0
  else s)

/-- MONARCH_HOLD_END: every earlier lease has lapsed (R393). -/
def execMonarchHoldEnd (s : State) : Host.Outcome State Fault Refusal :=
  .next (if s.monOn ∧ s.oN Obj.monState = 1 then
    ((s.monMod (fun m => { m with ledger := [], deferred := [], refused := [], low := false })).put Obj.monState 2).monEval
  else s)

/-- STANDBY_SILENCE: no renewal of the active Monarch for MonLeaseDuration, and the standby begins its wait (R393). -/
def execStandbySilence (s : State) : Host.Outcome State Fault Refusal :=
  .next (if s.monOn ∧ s.oN Obj.monState = 3 then s.put Obj.monState 1 else s)

/-- Monarch starts, with an empty ledger: after M0, a reset of class 0x0D, or when a swap enables it (R393). -/
def State.monStart (s : State) : State :=
  let on := s.station && s.sealPin 7 && s.cN Obj.monEnable == 1
  let s := s.monMod (fun m => { m with ledger := [], deferred := [], refused := [], low := false, offAt := if s.oN Obj.monState = 0 ∧ ¬ on then m.offAt else s.mono })
  (s.put Obj.monState (if on then (if s.cN Obj.monStandby = 1 then 3 else 1) else 0)).monShow

/-- The lease table as its DOM shows it (R394). -/
def State.leaseTable (s : State) : List Nat :=
  s.mon.ledger.flatMap (fun l =>
    natBytes 2 l.partner ++ [l.cls, if l.deadline.isSome then 2 else 1] ++ natBytes 4 l.id ++ natBytes 4 l.granted ++ natBytes 4 l.counted ++
      natBytes 4 l.minimum ++ natBytes 8 l.expiry ++ [0, 0, 0, 0])

end Sys2Proof.Machine
end

