-- ==== Sys2Proof/Machine/Post.lean ====
section
/-! DEFINITION. The post end of the charging link, and Tandem at both ends (R351 to R362). -/

namespace Sys2Proof.Machine

def State.postMod (f : PostX → PostX) (s : State) : State := { s with post := f s.post }
def State.tdMod (f : TdX → TdX) (s : State) : State := { s with td := f s.td }

/-- The post end is there and may act: station, SEAL6, enabled, M7 or M8, and M10, where its communication runs limited and no session leaves
state 1 (R51, R60). -/
def State.postOn (s : State) : Bool := s.engOn && s.station && s.sealPin 6 && s.cN Obj.lkPostEnable == 1 && (s.mode == 7 || s.mode == 8 || s.mode == 10)

/-- A session of the post is open. -/
def State.postOpen (s : State) : Bool := 2 ≤ s.oN Obj.lkPostState && s.oN Obj.lkPostState ≤ 6

/-- Output voltage and current. -/
def State.postVolts (s : State) : Rat := s.oF (Obj.vdcValue (s.cN Obj.lkPostVoltageInput))
def State.postAmps (s : State) : Rat := if s.cN Obj.lkPostCurrentInput < 32 then s.oF (Obj.sdValue (s.cN Obj.lkPostCurrentInput)) else 0

/-! ## Limits (R353, R374) -/

/-- The terms of the post's current limit with their bits: rating (and what the stages can give), cooling, lease,
pre-charge, Tandem thermal. -/
def State.postTerms (s : State) : List (Nat × Rat) :=
  let v := s.postVolts
  let granted := s.cN Obj.monClientEnable = 0 ∨ 2 ≤ s.oN Obj.monClientState
  let avail := if s.oN Obj.stState = 6 then some 0 else if 0 < v then some (s.oF Obj.stAvailablePower * 1000 / v) else none
  [(0, s.cF Obj.lkRatedCurrent)] ++
  (match (if s.cN Obj.stEnable = 1 then avail else none) with
    | some a => [(0, a)]
    | none => []) ++
  (if s.cN Obj.ccEnable = 1 then [(1, s.oF Obj.ccCurrentLimit)] else []) ++
  (if s.cN Obj.monClientEnable = 1 ∧ granted ∧ 0 < v then [(2, |s.clientLimit| * 1000 / v)] else []) ++
  (if s.oN Obj.lkPostState = 3 ∨ ¬ granted then [(3, s.cF Obj.lkPrechargeCurrentMax)] else []) ++
  (if s.oN Obj.tdState = 4 then [(4, s.oF Obj.tdThermalLimit)] else [])

/-- LkPostCurrentLimit and the terms that bind. -/
def State.postLimit (s : State) : State :=
  let l := s.postTerms
  let q := l.foldl (fun a t => min a t.2) (s.cF Obj.lkRatedCurrent)
  let bits := l.foldl (fun a t => if t.2 = q then setBit a t.1 else a) 0
  (s.putF Obj.lkPostCurrentLimit (max 0 q)).put Obj.lkPostLimiter bits

/-- The most that may flow back, A: the smaller of StExportMax and the export lease; 0 without a chopper that can run
(R374). -/
def State.exportAmps (s : State) : Rat :=
  let v := s.postVolts
  let ch := s.cN Obj.stChopperChannel
  let ready := ch < 24 ∧ s.oN (Obj.hbProtState ch) ≠ 4
  let lease := if s.cN Obj.monClientEnable = 1 then max 0 (-s.clientLimit) else s.cF Obj.stExportMax
  if ready ∧ 0 < v then min (s.cF Obj.stExportMax) lease * 1000 / v else 0

/-- A current within the post's limits. -/
def State.postClamp (s : State) (i : Rat) : Rat := max (-(min s.exportAmps (s.oF Obj.lkPostCurrentLimit))) (min (s.oF Obj.lkPostCurrentLimit) i)

/-! ## The current reference -/

/-- A linear course from `a` at a tick to `b` after `n` ms. -/
def State.along (s : State) (a b : Rat) (t0 n : Nat) : Rat :=
  if n = 0 ∨ n * 80000 ≤ s.tick - t0 then b else a + (b - a) * ((s.tick - t0 : Nat) : Rat) / ((n * 80000 : Nat) : Rat)

/-- The current asked for by whoever holds the loop: the stop ramp, Tandem's set-point or its fallback, or the charge-loop
target (R351, R361). -/
def State.postTarget (s : State) : Rat :=
  match s.oN Obj.lkPostState with
  | 4 =>
    if s.oN Obj.tdState = 5 then
      match s.td.ramp with
      | none => F32.toRat s.post.ref
      | some (a, t0) => s.along (F32.toRat a) (s.oF Obj.lkEvTargetCurrent) t0 (s.cN Obj.tdFallbackRamp)
    else s.oF Obj.lkEvTargetCurrent
  | 5 =>
    match s.post.ramp with
    | some (a, t0) => s.along (F32.toRat a) 0 t0 (s.oN Obj.modeExitRamp)
    | none => 0
  | _ => 0

/-- I_post at a step of the power block; in Tandem the reference moves at the post law's instances instead, and only the
limits act here (R353). -/
def State.postStep (s : State) : State :=
  if ¬ s.postOn then s
  else
    let s := (((s.put Obj.lkPostVoltage (s.o (Obj.vdcValue (s.cN Obj.lkPostVoltageInput)))).putF Obj.lkPostCurrent s.postAmps).clientStep).monSettle.postLimit
    let held := s.oN Obj.lkPostState = 4 ∧ s.oN Obj.tdState = 4
    let i := s.postClamp (if held then F32.toRat s.post.ref else s.postTarget)
    s.postMod (fun x => { x with ref := F32.ofRat i })

/-- The post's output-current law at an instance of TdLawSlot in Tandem: towards the set-point by at most TdStepMax, then
the post's own limit (R358). -/
def State.tdPost (n : Nat) (s : State) : State :=
  if s.postOn ∧ s.oN Obj.tdState = 4 ∧ s.cN Obj.tdLawSlot = n ∧ s.oN Obj.lkPostState = 4 then
    let s := s.postLimit
    let r := F32.toRat s.post.ref
    let d := s.cF Obj.tdStepMax
    let i := s.postClamp (max (r - d) (min (r + d) (s.oF Obj.tdSetpoint)))
    s.postMod (fun x => { x with ref := F32.ofRat i })
  else s

/-! ## The session (R351) -/

/-- Close DC− first and DC+ last; open DC+ first and DC− last. -/
def State.postClose (s : State) : State := (s.soRequest (s.cN Obj.lkPostContactorMinus)).soRequest (s.cN Obj.lkPostContactorPlus)
def State.postOpenContacts (s : State) : State := (s.soRelease (s.cN Obj.lkPostContactorPlus)).soRelease (s.cN Obj.lkPostContactorMinus)

/-- The stop sequence begins, with a cause. -/
def State.postStop (cause : Nat) (s : State) : State :=
  if s.postOn ∧ 2 ≤ s.oN Obj.lkPostState ∧ s.oN Obj.lkPostState ≤ 4 then
    let r := s.post.ref
    let t := s.tick
    ((s.put Obj.lkPostStopCause cause).put Obj.lkPostState 5).postMod (fun x => { x with ramp := some (r, t), test := 0 })
  else if s.oN Obj.lkPostState = 1 then (s.put Obj.lkPostStopCause cause).put Obj.lkPostState 0
  else s

/-- The session is over: the lease is released and M7 entered, which closes the final record; a session that a fault ended records its
code (R35, R46, R351, R395). -/
def State.postEnd (s : State) : State :=
  let code := if s.md.requested ∧ s.oN Obj.modeTarget = 7 then 0 else s.post.code
  let s := ((s.put Obj.lkPostState 0).put Obj.lkPostCurrentLimit 0).postMod (fun _ => {})
  let s := s.tdEnd.monDrop
  if s.mode = 8 then s.enterMode 7 code else s

/-- The post drives the pilot through LkPilotOutput while its communication runs (R345, R516). -/
def State.postPilot (s : State) : State :=
  let n := s.cN Obj.lkPilotOutput
  if 8 ≤ n ∨ ¬ s.station ∨ s.cN Obj.lkPostEnable ≠ 1 then s
  else if s.postOn then (if s.oN (Obj.soCommand n) = 1 then s else s.soRequest n)
  else if s.oN (Obj.soCommand n) = 1 then s.soRelease n else s

/-- What a session that a plan has cut off still holds is given back (R351, R395). -/
def State.postTidy (s : State) : State :=
  if s.station ∧ s.mon.leaseId ≠ 0 ∧ (s.oN Obj.lkPostState = 0 ∨ s.oN Obj.lkPostState = 7) then s.monDrop else s

/-- Communication starts at the post. -/
def State.postPlug (protocol : Nat) (s : State) : State :=
  if s.postOn ∧ s.oN Obj.lkPostState = 0 then
    let s := (((s.put Obj.lkPostProtocol protocol).put Obj.lkPostEnergyService 0).put Obj.lkPostStopCause 0).put Obj.lkPostState 1
    if protocol = 1 ∨ protocol = 2 then s else (s.postStop 5).raise FC.lnkProtocol 0
  else s

/-- LINK_PLUGGED: connection detection with the pilot state and the protocol found, 0 for none supported. -/
def execLinkPlugged (pilot : BitVec 3) (protocol : BitVec 2) (s : State) : Host.Outcome State Fault Refusal :=
  .next (if s.station then s.postPlug protocol.toNat else s.lkPlug (min pilot.toNat 6) protocol.toNat)

/-- Detection lost at the post: the current goes to 0 at once (R362). -/
def State.postUnplug (amps : Rat) (s : State) : State :=
  if ¬ s.postOn then s
  else
    match s.oN Obj.lkPostState with
    | 1 => s.put Obj.lkPostState 0
    | 7 => s.put Obj.lkPostState 0
    | _ =>
      if s.postOpen then
        let s := (s.postStop 6).postMod (fun x => { x with ramp := none, ref := 0 })
        if 5 < |amps| then s.raise FC.lnkUnplug 0 else s
      else s

/-- LINK_DETECTION_LOST, with the current that flows. -/
def execLinkDetectionLost (amps : BitVec 32) (s : State) : Host.Outcome State Fault Refusal :=
  .next (if s.station then s.postUnplug (F32.toRat amps.toNat) else s.lkUnplug (F32.toRat amps.toNat))

/-- INLET_CONTACTORS_CONFIRMED: the contactors' readbacks at either end. -/
def execInletContactorsConfirmed (ok : Bool) (s : State) : Host.Outcome State Fault Refusal :=
  .next (if ¬ s.station then s.lkConfirmed ok
    else if s.postOn ∧ s.oN Obj.lkPostState = 2 ∧ ¬ ok then (s.put Obj.lkPostStopCause 5).raise FC.lnkContactor 0
    else s)

/-- CABLE_CHECK_REQUEST: M8 is entered and the contactors close (R351); while a requested transition out of M7 is in
progress the post refuses. -/
def State.cableCheck (volts service session : Nat) (s : State) : State :=
  if ¬ (s.postOn ∧ s.mode = 7 ∧ s.oN Obj.lkPostState = 1) then s
  else if s.md.requested then (s.put Obj.lkPostStopCause 3).put Obj.lkPostState 0
  else if ¬ (1 ≤ service ∧ service ≤ 4 ∧ (s.oN Obj.lkPostProtocol = 1 ∨ service = 1)) then (s.postStop 5).raise FC.lnkProtocol 0
  else
    let t := F32.ofRat (min (F32.toRat volts) (s.cF Obj.lkRatedVoltage))
    let s := (((s.enterMode 8 0).put Obj.lkPostEnergyService service).put Obj.lkPostState 2).put Obj.lkEvTargetVoltage volts
    let s := (s.put Obj.ccPumpRestarts 0).postMod (fun x => { x with test := t })
    (s.mtrOpen 2 session).postClose

/-- CABLE_CHECK_REQUEST, with the vehicle's maximum voltage, the energy service and the session identifier. -/
def execCableCheckRequest (volts : BitVec 32) (service : BitVec 3) (session : BitVec 64) (s : State) : Host.Outcome State Fault Refusal :=
  .next (s.cableCheck volts.toNat service.toNat session.toNat)

/-- ρ in Ω/V; without a voltage the quotient is free. -/
def State.isoRho (s : State) (kohm volts : Rat) : Rat := if volts = 0 then (Config.freeValue 1401 s.freeIx : Rat) else kohm * 1000 / volts

/-- Judge the insulation (R352). -/
def State.insulation (kohm volts : Nat) (s : State) : State :=
  if ¬ (s.postOn ∧ s.oN Obj.lkPostState = 2) then s
  else
    let r := s.isoRho (F32.toRat kohm) (F32.toRat volts)
    let s := (if F32.toRat volts = 0 then s.fresh else s).put Obj.lkIsoResistance kohm
    if r < s.cF Obj.lkIsoFault then ((s.put Obj.lkPostStopCause 5).postOpenContacts.postMod (fun x => { x with test := 0 })).raise FC.lnkIsofault 0
    else
      let s := if r < s.cF Obj.lkIsoValid then s.raise FC.lnkIsowarn 0 else s
      let t := s.oN Obj.lkEvTargetVoltage
      (s.put Obj.lkPostState 3).postMod (fun x => { x with test := t })

/-- INSULATION_MEASURED, with R_iso in kΩ and the mean output voltage. -/
def execInsulationMeasured (kohm volts : BitVec 32) (s : State) : Host.Outcome State Fault Refusal :=
  .next (s.insulation kohm.toNat volts.toNat)

/-- The safety input named in LkIsoAlarmInput shows an alarm: a used input whose value is demand (R352). -/
def State.isoAlarmOn (s : State) : Bool :=
  let n := s.cN Obj.lkIsoAlarmInput
  n < 16 && s.oN (Obj.siMode n) != 0 && s.oN (Obj.siValue n) == 0

/-- During delivery an alarm raises LNK_ISOFAULT, and the post's plan opens the contactors (R352). -/
def State.postAlarm (s : State) : State :=
  if s.postOn ∧ s.oN Obj.lkPostState = 4 ∧ s.isoAlarmOn then (s.put Obj.lkPostStopCause 5).raise FC.lnkIsofault 0 else s

/-- ISO_ALARM. -/
def execIsoAlarm (s : State) : Host.Outcome State Fault Refusal := .next s.postAlarm

/-- The vehicle's power delivery, or a new target of its charge loop: the lease is asked for in class 2, and raised in
class 1 (R351, R387). -/
def State.delivery (volts amps : Nat) (s : State) : State :=
  if ¬ (s.postOn ∧ (s.oN Obj.lkPostState = 3 ∨ s.oN Obj.lkPostState = 4)) then s
  else
    let first : Bool := s.oN Obj.lkPostState == 3
    let s := (((s.put Obj.lkPostState 4).put Obj.lkEvTargetVoltage volts).put Obj.lkEvTargetCurrent amps).postMod (fun x => { x with test := volts })
    let kw := F32.toRat volts * F32.toRat amps / 1000
    let s := if first then s.clientAsk (F32.ofRat kw) 2
      else if s.oF Obj.monClientLease < kw ∧ s.oN Obj.monClientState = 2 then s.clientAsk (F32.ofRat kw) 1 else s
    s.monSettle.postLimit

/-- POWER_DELIVERY_START. -/
def execPowerDeliveryStart (volts amps : BitVec 32) (s : State) : Host.Outcome State Fault Refusal :=
  .next (s.delivery volts.toNat amps.toNat)

/-- POST_STOP_REQUEST: a write of 1 to LkPostStopRequest. -/
def execPostStopRequest (role : Role) (s : State) : Host.Outcome State Fault Refusal :=
  .next (s.accessAt role 2 Obj.lkPostStopRequest (s.station && s.sealPin 6) (State.postStop 2))

/-- POST_CURRENT_LOW: the current is at most 5 A, and the contactors open (R351). -/
def execPostCurrentLow (s : State) : Host.Outcome State Fault Refusal :=
  .next (if s.postOn ∧ s.oN Obj.lkPostState = 5 ∧ |s.postAmps| ≤ 5 then (s.postOpenContacts.put Obj.lkPostState 6).postMod (fun x => { x with ref := 0, ramp := none }) else s)

/-- POST_OUTPUT_DISCHARGED: the output is below 60 V (R351). -/
def execPostOutputDischarged (s : State) : Host.Outcome State Fault Refusal :=
  .next (if s.postOn ∧ s.oN Obj.lkPostState = 6 ∧ s.postVolts < 60 then s.postEnd else s)

/-- POST_DISCHARGE_TIMEOUT: LkDischargeTime has passed and the output is not below 60 V (R351). -/
def execPostDischargeTimeout (s : State) : Host.Outcome State Fault Refusal :=
  .next (if s.postOn ∧ s.oN Obj.lkPostState = 6 ∧ 60 ≤ s.postVolts then (s.put Obj.lkPostStopCause 5).raise FC.lnkWeld 0 else s)

/-- LINK_PROTOCOL_TIMEOUT at either end. -/
def execLinkProtocolTimeout (s : State) : Host.Outcome State Fault Refusal :=
  .next (if ¬ s.station then s.lkFault FC.lnkProtocol 5
    else if s.postOn ∧ 1 ≤ s.oN Obj.lkPostState ∧ s.oN Obj.lkPostState ≤ 4 then (s.postStop 5).raise FC.lnkProtocol 0
    else s)

/-! ## Tandem (R354 to R361) -/

/-- This end permits Tandem (R354). -/
def State.tdPermits (s : State) (service : Nat) : Bool :=
  s.cN Obj.tdEnable == 1 && service == s.cN Obj.tdServiceId &&
  (if s.station then s.postOn && 1 ≤ s.oN Obj.lkPostState && s.oN Obj.lkPostState ≤ 3
   else s.lkOn && s.sealPin 7 && 1 ≤ s.oN Obj.lkState && s.oN Obj.lkState ≤ 5)

/-- Service selection: the agreement, or LNK_TDREFUSED at the end that refuses. The identity is the CRC-32C of the
identifiers (R355). -/
def State.tdSelect (service connection : Nat) (accepted : Bool) (ids : List Nat) (s : State) : State :=
  let running : Bool := if s.station then s.postOn && s.oN Obj.lkPostState != 0 else s.lkOn && s.oN Obj.lkState != 0
  if ¬ running then s
  else if accepted ∧ s.tdPermits service ∧ s.oN Obj.tdState ≠ 4 ∧ s.oN Obj.tdState ≠ 5 then
    (((s.put Obj.tdState 1).put Obj.tdConnection connection).tdMod (fun _ => {})).tdManage connection (crc32c ids) s.station
  else s.note FC.lnkTdrefused 0

/-- TANDEM_SERVICE_SELECTION, with the service's number, the connection chosen by the post, whether the partner agrees and the bytes of
the three identifiers. -/
def execTandemServiceSelection (service : BitVec 16) (connection : BitVec 11) (accepted : Bool) (ids : List Byte) (s : State) :
    Host.Outcome State Fault Refusal :=
  .next (s.tdSelect service.toNat connection.toNat accepted (ids.map BitVec.toNat))

/-- The connection has sent its first frame, or accepted one: opening, then locking at the post and control at the
vehicle. -/
def State.tdSent (s : State) : State := if s.oN Obj.tdState = 1 then s.put Obj.tdState 2 else s
def State.tdOpened (s : State) : State :=
  if s.oN Obj.tdState = 1 ∨ s.oN Obj.tdState = 2 then s.put Obj.tdState (if s.station then 3 else 4) else s

/-- A temperature field; 0x8000 is invalid (R357). -/
def tdTemp (w : Nat) : Option Rat := if w = 0x8000 then none else some ((toSigned 16 w : Rat) / 10)

/-- A number of `n` bytes of a payload. -/
def pay (b : List Nat) (off n : Nat) : Nat := ((b.drop off).take n).foldr (fun x a => x + 256 * a) 0

/-- What the payload of an accepted frame brings (R357). -/
def State.tdPayload (b : List Nat) (s : State) : State :=
  let s := s.tdOpened
  if s.station then
    let t := match tdTemp (pay b 40 2), tdTemp (pay b 42 2) with
      | some x, some y => some (max x y)
      | some x, none => some x
      | none, y => y
    ((s.put Obj.tdSetpoint (pay b 28 4)).put Obj.lkEvTargetVoltage (pay b 44 4)).tdMod (fun d => { d with pin := t.map F32.ofRat })
  else
    let l := pay b 24 4
    ((s.put Obj.tdConductorTemp (pay b 16 4)).put Obj.tdThermalLimit (pay b 20 4)).tdMod (fun d => { d with postLimit := l })

/-- Tandem is lost: the post holds the set-point in force; the vehicle goes back to its 1 ms period, and Tandem is over
(R361). -/
def State.tdLost (s : State) : State :=
  if s.oN Obj.tdState = 4 then
    let s := (s.incSat Obj.tdLossCount).put Obj.tdLastLossTime s.now
    if s.station then ((s.put Obj.tdState 5).tdMod (fun d => { d with ramp := none })).raise FC.lnkTdlost 0 else s.tdEnd
  else if 2 ≤ s.oN Obj.tdState ∧ s.oN Obj.tdState ≤ 3 then s.tdEnd
  else s

/-- The post's timebase: locked, it takes control; leaving state 2 under control, Tandem is lost (R356, R361). -/
def State.tdWatch (s : State) : State :=
  if ¬ s.station then s
  else if s.oN Obj.tdState = 3 ∧ s.oN (Obj.tbLockState (s.cN Obj.tdTimebase)) = 2 then s.put Obj.tdState 4
  else if s.oN Obj.tdState = 4 ∧ s.oN (Obj.tbLockState (s.cN Obj.tdTimebase)) ≠ 2 then s.tdLost
  else s

/-- LNK_TDLOCK: the agreement ends. -/
def execLnkTdlock (s : State) : Host.Outcome State Fault Refusal :=
  .next (if s.station ∧ 1 ≤ s.oN Obj.tdState ∧ s.oN Obj.tdState ≤ 3 then s.tdEnd.note FC.lnkTdlock 0 else s)

/-- TANDEM_FALLBACK_HOLD_END: the ramp begins at the current in force. -/
def execTandemFallbackHoldEnd (s : State) : Host.Outcome State Fault Refusal :=
  .next (if s.station ∧ s.oN Obj.tdState = 5 then
    let r := s.post.ref
    let t := s.tick
    s.tdMod (fun d => { d with ramp := some (r, t) })
  else s)

/-- TANDEM_FALLBACK_RAMP_END. -/
def execTandemFallbackRampEnd (s : State) : Host.Outcome State Fault Refusal :=
  .next (if s.station ∧ s.oN Obj.tdState = 5 then s.tdEnd else s)

end Sys2Proof.Machine
end

