-- ==== Sys2Proof/Machine/Dictionary.lean ====
section
/-! DEFINITION. The checks of the dictionary: scopes (R79), presence (R1, R60), values and ranges (R7, R9), rights (R430)
and refusal codes (R438); and the two configuration sets (R80). -/

namespace Sys2Proof.Machine

/-! ## Types -/

/-- The type code of Describe and of slot descriptors (R436). -/
def Ty.code : Ty → Nat
  | .bool => 0
  | .u8 => 1
  | .u16 => 2
  | .u32 => 3
  | .u64 => 4
  | .i16 => 5
  | .i32 => 6
  | .i64 => 7
  | .f32 => 8
  | .str => 9
  | .dom _ => 11

/-- A block type. -/
def Ty.isDom : Ty → Bool
  | .dom _ => true
  | _ => false

/-- A type whose values are two's complement (R7). -/
def Ty.signed : Ty → Bool
  | .i16 | .i32 | .i64 => true
  | _ => false

/-- The value that a number of the type's size carries (R7). -/
def Ty.value (t : Ty) (n : Nat) : Int :=
  if t.signed then toSigned (8 * t.size) n else (n % 2 ^ (8 * t.size) : Nat)

/-- The access code of Describe (R436). -/
def Acc.code : Acc → Nat
  | .constant => 0
  | .ro => 1
  | .rw => 2
  | .wo => 3
  | .rws | .rwsDev => 4
  | .rsl => 5

/-! ## The shadow after a write -/

/-- After an accepted write: the shadow's CRC, and whether it differs from the active set (R80). -/
def State.shadowTouch (n : Nat) (s : State) : State :=
  (s.put (Obj.shadowCrc n) (s.setCrc true n)).put (Obj.shadowState n) (if s.setOf true n = s.setOf false n then 0 else 1)

/-! ## Presence -/

/-- The function of a record is present in the role (R1, R2) and under its seal pins (R60); metering and factory test have
codes of their own. -/
def State.present (s : State) (o : ObjInfo) : Bool :=
  match o.rcd.pres with
  | .any => if o.rcd.scope = .byInst then s.scopeHere o.inst else true
  | .vehicle => !s.station
  | .station => s.station
  | .post => s.station && s.sealPin 6
  | .tandem => if s.station then s.sealPin 6 else s.sealPin 7
  | .monarch => s.station && s.sealPin 7
  | .meter => true
  | .m11 => true
  | .observer => if o.inst < 8 then !s.station else s.station && s.sealPin 6

/-! ## Values -/

/-- The value of a sibling sub-index in the set that a write goes to. -/
def State.ownVal (s : State) (a : Acc) (k : Nat) : Int := if a.isRws then s.shadow.get k else s.live.get k

/-- Four bytes, each in a range or 0xFF. -/
def bytesIn (v hi : Nat) : Bool := (map8 v).all (fun b => b ≤ hi || b == 0xFF)

/-- The full scale of which an offset trim may take 0.5 % (R182). -/
def State.trimScale (s : State) (idx inst : Nat) : Rat :=
  if 0x33FD ≤ idx then mkRat 3 2
  else if idx = 0x33FC then mkRat 9 5
  else if 0x33F8 ≤ idx then s.vdcScale inst
  else if 0x33D8 ≤ idx then s.cF (Obj.sdFullScale inst)
  else s.vswScale inst

/-- The ranges that the tables word. -/
def State.rangeSpecial (s : State) (tag : Nat) (o : ObjInfo) (idx sub : Nat) (v : Int) : Bool :=
  let n := v.toNat
  match tag with
  | 1 => bytesIn n 15
  | 2 => bytesIn n 23
  | 3 => bytesIn n 63
  | 4 => n == 0 || (4294967296 - n) &&& (4294967295 - n) == 0
  | 5 => 60 ≤ v && v ≤ 3600 && 86400 % n == 0
  | 6 => if o.inst < 12 then n < 2 ^ 24 else n < 2 ^ 16
  | 9 =>
    match s.shadow.get (Obj.tbSource o.inst) with
    | 1 => n ≤ 8
    | 2 => n ≤ 1
    | _ => n == 0
  | 10 => s.o Obj.recordOldest ≤ v && v ≤ s.o Obj.recordNewest
  | 11 => |F32.toRat n| ≤ s.trimScale idx o.inst / 200
  | 12 => n == 0 || (faultRow n).isSome
  | 13 => if o.inst < 12 then n ≤ 4 else n ≤ 5
  | 14 => n == 3 || (n == 6 && decide (o.inst < 4))
  | 15 => n == s.plat.sealLatch
  | 17 => n ≤ 15 || (n == 0xFE && o.inst == 0)
  | 18 => n == 0xFF || (if o.inst = 0 then n ≤ 31 else n ≤ 15)
  | 19 => n ≤ 7 && (List.range 2).all (fun p => v < s.shadow.get (Obj.xgControlPcp p))
  | 20 => n / 16777216 % 256 == 0 && n / 2 ^ 32 % 16 ≤ 8 && n / 2 ^ 60 % 4 ≤ 1
  | _ => sub == sub

/-- A value lies in its range, with reserved bits 0 and F32 finite (R7, R9). -/
def State.rangeOk (s : State) (o : ObjInfo) (idx sub : Nat) (v : Int) : Bool :=
  let q := F32.toRat v.toNat
  let sib (x : Nat) : Rat := F32.toRat (s.ownVal o.row.acc (key idx x)).toNat
  (o.row.ty != .f32 || F32.isFinite v.toNat) && (o.row.ty != .bool || v == 0 || v == 1) &&
  match o.row.rng with
  | .full => true
  | .ints l => l.any (fun p => p.1 ≤ v && v ≤ p.2)
  | .bits m => v.toNat &&& m == v.toNat
  | .flt lo hi => F32.toRat lo ≤ q && q ≤ F32.toRat hi
  | .fltBelow lo hi x => F32.toRat lo ≤ q && q ≤ F32.toRat hi && q < sib x
  | .fltAbove lo hi x => F32.toRat lo ≤ q && q ≤ F32.toRat hi && sib x < q
  | .fltSym x => -(sib x) ≤ q && q ≤ sib x
  | .fltTo x => 0 ≤ q && q ≤ sib x
  | .fltBetween a b => sib a ≤ q && q ≤ sib b
  | .fltPos => 0 < q
  | .special t => s.rangeSpecial t o idx sub v

/-! ## Rights and codes -/

/-- A role may write an object whose write role has a role code (R430, R431). -/
def mayWrite (role : Role) (code : Nat) : Bool :=
  if role = .device then true
  else match code with
    | 0 => false
    | 4 => role == .metrologist
    | n => role != .metrologist && n ≤ roleRank role

/-- An object of the legal meter (R60). -/
def meterIndex (idx : Nat) : Bool := 0x7000 ≤ idx && idx ≤ 0x72FF

/-- The seals forbid an access (R438): metering objects without metering, RSL objects with their pin at 1. -/
def State.sealForbids (s : State) (o : ObjInfo) (idx : Nat) (writing : Bool) : Bool :=
  (meterIndex idx && !s.sealPin 1) ||
  (writing && o.row.acc == .rsl && (if 0x8000 ≤ idx ∧ idx ≤ 0x81FF then s.sealPin 3 else s.sealPin 2))

/-- A user trim (R182). -/
def trimIndex (idx : Nat) : Bool := 0x33C0 ≤ idx && idx ≤ 0x33FF

/-- The mode forbids an access (R438): writes of trims outside M10, factory test outside M11. -/
def State.modeForbids (s : State) (idx : Nat) (writing : Bool) : Bool :=
  (writing && trimIndex idx && s.mode != 10) || (0xF100 ≤ idx && idx ≤ 0xF1FF && s.mode != 11)

/-- The first code of a list whose condition holds; 0 for none (R438). -/
def firstCode : List (Nat × Bool) → Nat
  | [] => 0
  | (c, b) :: l => if b then c else firstCode l

/-- 0x02 or 0x03 for an object that does not exist (R427). -/
def missing (idx : Nat) : Nat := if (findRec objTable idx).isSome then 0x03 else 0x02

/-- The outputs and channels of a safety object's function are at rest (R503). -/
def State.safetyAtRest (s : State) (idx : Nat) : Bool :=
  if 0x8100 ≤ idx ∧ idx ≤ 0x8107 then s.oN (Obj.soCommand (idx - 0x8100)) == 0
  else if 0x8110 ≤ idx ∧ idx ≤ 0x811F then
    let sc := s.oN (Obj.siScope (idx - 0x8110))
    let fns := if sc = 0xFF then s.roleFns else s.scopeFns sc
    fns.all (fun f => (s.fnGroups f).all (fun g => s.oN (Obj.groupState g) != 1) && (s.fnSos f).all (fun n => s.oN (Obj.soCommand n) == 0))
  else true

/-- The group whose shadow set an object belongs to (R118): a duty, phase or on-time of a channel, or GroupPattern. -/
def State.shadowGroup (s : State) (k : Nat) : Option Nat :=
  let idx := k / 256
  let sub := k % 256
  if 0x3100 ≤ idx ∧ idx ≤ 0x3117 ∧ (sub = 6 ∨ sub = 7) then s.groupOfHb (idx - 0x3100)
  else if 0x31C0 ≤ idx ∧ idx ≤ 0x31CF ∧ 6 ≤ sub ∧ sub ≤ 8 then s.groupOfLv (idx - 0x31C0)
  else if 0x3180 ≤ idx ∧ idx ≤ 0x3197 ∧ sub = 9 then some (idx - 0x3180)
  else none

/-- A law holds a group as an output: an enabled slot's SlotOutputMap names it (R118). -/
def State.lawHolds (s : State) (g : Nat) : Bool :=
  (List.range 64).any (fun n => s.cN (Obj.slotEnable n) != 0 && (s.cN (Obj.slotOutputMap n)).testBit g)

/-- Pairs of safety inputs that a value would break (R525): a partner that names another input, or one that names this input but
differs in scope or class or shares its test-pulse output. -/
def State.pairBroken (s : State) (i sub : Nat) (v : Int) : Bool :=
  let f (k x : Nat) : Int := if sub = x then v else s.o (k + x)
  let base := key (0x8110 + i) 0
  let p := (f base 3).toNat
  if 15 < p then false
  else
    let q := key (0x8110 + p) 0
    p == i || (s.oN (q + 3) ≤ 15 && s.oN (q + 3) != i) ||
    (s.oN (q + 3) == i && (s.o (q + 7) != f base 7 || s.o (q + 8) != f base 8 || (s.o (q + 2) == f base 2 && f base 2 != 0xFF)))

/-- The metering timebase that R398 asks for, where a write would leave AC metering enabled (R423). -/
def State.mtrTimebaseBad (s : State) (idx sub : Nat) (v : Int) : Bool :=
  let on : Bool := if key idx sub = Obj.mtrAcEnable then v == 1 else s.oN Obj.mtrAcEnable == 1
  let t := if key idx sub = Obj.mtrTimebase then v.toNat else s.oN Obj.mtrTimebase
  idx == 0x7100 && (sub == 1 || sub == 3) && on && !(s.cN (Obj.tbSource t) == 2 && s.cN (Obj.tbSourceInstance t) == 0)

/-- Keys and addresses at which a shadow differs from its active set (R549). -/
def State.differing (s : State) : List Nat :=
  ((s.shadow ++ s.active).map Prod.fst).eraseDups.filter (fun k => s.shadow.get k != s.active.get k) ++
  (s.mem.filterMap (fun p =>
    let k := p.1 / 33554432
    let off := p.1 % 16777216
    match objInfo (k / 256) (k % 256) with
    | some o => if o.row.acc.isRws && byteAt s.mem (domAddr k off) != byteAt s.mem (domShadowAddr k off) then some (domShadowAddr k off) else none
    | none => none)).eraseDups

/-- The shadows differ from the active sets in more than 192 blocks (R549). Where a value lies is open, but no value lies in more
than two blocks, so 96 values never exceed the limit. -/
def State.overChanged (s : State) : Bool := decide (96 < s.differing.length) && decide (192 < Config.changedBlocks s.differing)

/-- Conditions of an object's own on which a write is refused with 0x13 (R105, R118, R421, R503, R521, R525, R527, R549). -/
def State.ownForbids (s : State) (role : Role) (o : ObjInfo) (idx sub : Nat) (v : Int) : Bool :=
  let k := key idx sub
  let so (x : Nat) : Int := if sub = x then v else s.o (key idx x)
  (o.row.acc == .rsl && 0x8000 ≤ idx && idx ≤ 0x81FF && (!(s.mode == 2 || s.mode == 10) || !s.safetyAtRest idx)) ||
  (0x8100 ≤ idx && idx ≤ 0x8107 && 2 ≤ sub && sub ≤ 4 && (so 2 ≤ so 3 || so 4 ≤ so 3)) ||
  (idx == 0x8120 && (sub == 2 || sub == 3) && so 2 ≤ so 3) ||
  (0x8110 ≤ idx && idx ≤ 0x811F && [2, 3, 7, 8].contains sub && s.pairBroken (idx - 0x8110) sub v) ||
  (0x7100 ≤ idx && idx ≤ 0x71FF && s.mtr.session.isSome) ||
  (k == Obj.entryNumber && v == 254 && s.oN Obj.mtrTimebase == s.oN Obj.entryTimebase && s.sealPin 1) ||
  (match s.shadowGroup k with
   | some g => role != .device && s.mode != 10 && s.lawHolds g
   | none => false) ||
  (o.row.acc.isRws && State.overChanged { s with shadow := s.shadow.set k v })

/-- The code that refuses a write of a value; `size` is the length of the data in bytes (R438). -/
def State.writeCode (s : State) (role : Role) (idx sub size : Nat) (v : Int) : Nat :=
  match objInfo idx sub with
  | none => missing idx
  | some o =>
    let a := o.row.acc
    firstCode [
      (0x03, s.mtrTimebaseBad idx sub v),
      (0x04, a == .constant || a == .ro),
      (0x05, !mayWrite role o.row.role),
      (0x06, size == o.row.ty.size && !o.row.ty.isDom && !s.rangeOk o idx sub v),
      (0x07, o.row.ty.isDom || size != o.row.ty.size),
      (0x08, a.isRws && 2 ≤ s.oN (Obj.shadowState (s.scopeOf o))),
      (0x09, s.sealForbids o idx true),
      (0x0A, s.modeForbids idx true),
      (0x0B, role != .slot && s.slotTarget (key idx sub)),
      (0x0C, !s.present o),
      (0x13, s.ownForbids role o idx sub v)]

/-- The roles that may write a role key (R430, R445): none may write the Vendor's. -/
def mayWriteKey (role : Role) (r : Nat) : Bool := if r = 4 then mayWrite role 4 else r != 5 && mayWrite role 3

/-- The code that refuses a write of a block (R438). -/
def State.blockCode (s : State) (role : Role) (idx sub : Nat) : Nat :=
  match objInfo idx sub with
  | none => missing idx
  | some o =>
    let a := o.row.acc
    firstCode [
      (0x04, a == .constant || a == .ro),
      (0x05, !(if 0x1111 ≤ idx ∧ idx ≤ 0x1115 then mayWriteKey role (idx - 0x1110) else mayWrite role o.row.role)),
      (0x07, !o.row.ty.isDom),
      (0x08, a.isRws && 2 ≤ s.oN (Obj.shadowState (s.scopeOf o))),
      (0x09, s.sealForbids o idx true),
      (0x0A, s.modeForbids idx true),
      (0x0C, !s.present o)]

/-- The code that refuses a read (R438). -/
def State.readCode (s : State) (idx sub : Nat) : Nat :=
  match objInfo idx sub with
  | none => missing idx
  | some o =>
    firstCode [
      (0x04, o.row.acc == .wo),
      (0x07, o.row.ty.isDom),
      (0x09, s.sealForbids o idx false),
      (0x0A, s.modeForbids idx false),
      (0x0C, !s.present o)]

end Sys2Proof.Machine
end

