-- ==== Sys2Proof/Machine/Can.lean ====
section
/-! DEFINITION. CAN controllers: their states, transmit queues and receive buffers (R452 to R472). -/

namespace Sys2Proof.Machine

def State.canMod (c : Nat) (f : CanX → CanX) (s : State) : State := { s with can := modifyAt s.can c f }

/-- The controllers run in M2 to M10 (R472). -/
def State.canOn (s : State) (c : Nat) : Bool := s.up && 2 ≤ s.mode && s.mode ≤ 10 && s.cN (Obj.canEnable c) == 1

/-- The controller takes part in traffic: error active or passive, listen-only, Antenna. -/
def State.canRuns (s : State) (c : Nat) : Bool := s.canOn c && [2, 3, 6, 7].contains (s.oN (Obj.canState c))

/-! ## Header words (R460) -/

def hdrLength (h : List Nat) : Nat := h.getD 1 0 % 4096
def hdrKind (h : List Nat) : Nat := h.getD 1 0 / 2 ^ 30 % 4
def hdrBrs (h : List Nat) : Bool := (h.getD 1 0).testBit 29
def hdrExt (h : List Nat) : Bool := (h.getD 0 0).testBit 29

/-- The identifier as filters compare it (R458). -/
def hdrIdent (h : List Nat) : Nat := if hdrExt h then h.getD 0 0 % 2 ^ 29 else h.getD 0 0 % 2 ^ 11

/-- The identifier with bit 31 for the extended format (R474). -/
def hdrId (h : List Nat) : Nat := (if hdrExt h then 2 ^ 31 else 0) + hdrIdent h

/-- Data lengths of a FD frame. -/
def fdLengths : List Nat := [0, 1, 2, 3, 4, 5, 6, 7, 8, 12, 16, 20, 24, 32, 48, 64]

/-- A Length valid for its Kind (R460). -/
def lengthOk (kind len : Nat) : Bool :=
  match kind with
  | 0 => len ≤ 8
  | 1 => fdLengths.contains len
  | 2 => 1 ≤ len && len ≤ 2048
  | _ => false

/-- Reserved fields, New and Overrun are 0 (R460, R475). -/
def hdrClean (h : List Nat) : Bool :=
  h.getD 0 0 / 2 ^ 30 == 0 && h.getD 1 0 / 2 ^ 12 % 2 ^ 15 == 0 && h.getD 3 0 % 2 ^ 15 == 0

/-- A format that the controller's frame mode accepts (R452). -/
def State.formatOk (s : State) (c kind : Nat) : Bool := kind ≤ s.cN (Obj.canFrameMode c)

/-! ## The transmit queue -/

/-- What the records show of the queue and its head (R474, R475). -/
def State.canShow (c : Nat) (s : State) : State :=
  let x := s.canx c
  let st := s.oN (Obj.canState c)
  let s := s.put (Obj.canTxQueueLevel c) (x.queue.length : Nat)
  match x.queue.head? with
  | none => (s.put (Obj.canTxHeadId c) 0xFFFFFFFF).put (Obj.canTxHeadState c) 0
  | some f => (s.put (Obj.canTxHeadId c) f.id).put (Obj.canTxHeadState c) (if x.held then 3 else if st = 4 ∨ st = 5 then 4 else 1)

/-- The head is over: its wait counts for the greatest, its hold and clash count end, and the next frame is head. -/
def State.canNextHead (c : Nat) (queue : List CanFrame) (s : State) : State :=
  let s := s.put (Obj.canTxHeadWaitMax c) (max (s.oN (Obj.canTxHeadWaitMax c)) (s.headWait c))
  (s.canMod c (fun x => { x with queue := queue, headTick := s.tick, headSeen := false, clash := 0, held := false, abort := 0 })).canShow c

/-- Queue a frame; the flag says whether there was room (R464). -/
def State.canPut (c : Nat) (f : CanFrame) (s : State) : State × Bool :=
  let x := s.canx c
  if 64 ≤ x.queue.length then (s, false)
  else
    let f := { f with since := s.tick }
    let s := if x.queue.isEmpty then s.canNextHead c [f] else (s.canMod c (fun x => { x with queue := x.queue ++ [f] })).canShow c
    (s, true)

/-- The first valid data length that holds some bytes, by kind. -/
def padTo (kind n : Nat) : Nat := if kind = 1 then (fdLengths.find? (fun l => n ≤ l)).getD 64 else n

/-- A frame in the smallest format of the controller's mode that holds its bytes, filled with 0xCC (R513, R432). -/
def State.canFrame (s : State) (c id : Nat) (bytes : List Nat) : CanFrame :=
  let n := bytes.length
  let kind := if n ≤ 8 then 0 else if n ≤ 64 ∧ 1 ≤ s.cN (Obj.canFrameMode c) then 1 else 2
  let len := padTo kind n
  { id := id, data := bytes ++ List.replicate (len - n) 0xCC,
    hdr := [id % 2 ^ 29 + (if id.testBit 31 then 2 ^ 29 else 0), len + kind * 2 ^ 30, 0, 0, 0] }

/-- The code that refuses a submitted frame, 0 for none (R475). -/
def State.submitCode (s : State) (c : Nat) (h data : List Nat) : Nat :=
  firstCode [
    (0x01, decide (64 ≤ (s.canx c).queue.length)),
    (0x02, [0, 6, 7].contains (s.oN (Obj.canState c))),
    (0x03, !s.formatOk c (hdrKind h)),
    (0x04, !lengthOk (hdrKind h) (hdrLength h) || hdrLength h != data.length || !hdrClean h)]

/-- A block written to CanTxFrame (R464, R475); the flag says whether it was queued. -/
def State.canSubmit (c : Nat) (block : List Nat) (s : State) : State × Bool :=
  let w (k : Nat) : Nat := ((block.drop (4 * k)).take 4).foldr (fun b a => b + 256 * a) 0
  let h := [w 0, w 1, 0, w 3, w 4]
  let data := block.drop 20
  let code := if block.length < 20 then 0x04 else s.submitCode c h data
  let s := s.put (Obj.canTxResult c) code
  if code ≠ 0 then (s, false) else ((s.canPut c { id := hdrId h, hdr := h, data := data }).1, true)

/-- R465: remove the head, every frame, or every frame outside ESL; a frame on the wire waits for its end. -/
def State.canAbort (c what : Nat) (sending : Bool) (s : State) : State :=
  let x := s.canx c
  let hit (f : CanFrame) : Bool := what ≤ 2 || f.entry.isNone
  match x.queue with
  | [] => s
  | f :: rest =>
    let rest' := if what = 1 then rest else rest.filter (fun g => !hit g)
    if ¬ hit f then (s.canMod c (fun x => { x with queue := f :: rest' })).canShow c
    else if sending ∧ ¬ x.held ∧ [2, 3].contains (s.oN (Obj.canState c)) then
      (s.canMod c (fun x => { x with queue := f :: rest', abort := what })).canShow c
    else s.canNextHead c rest'

/-! ## Receive buffers (R460 to R462) -/

def State.canBuf (s : State) (c n : Nat) : CanBuf := ((s.canx c).bufs.lookup n).getD {}

/-- Put a buffer back. -/
def State.canBufPut (c n : Nat) (b : CanBuf) (s : State) : State :=
  s.canMod c (fun x => { x with bufs := (n, b) :: x.bufs.filter (fun p => p.1 != n) })

/-- A frame is lost under R462: counted, and raised at most once a second. -/
def State.canOverrun (c : Nat) (s : State) : State :=
  let s := s.incSat (Obj.canRxOverrunCount c)
  match (s.canx c).overrunAt with
  | some t => if s.mono < t + 1000000000 then s else (s.canMod c (fun x => { x with overrunAt := some s.mono })).note FC.canRxoverrun c
  | none => (s.canMod c (fun x => { x with overrunAt := some s.mono })).note FC.canRxoverrun c

/-- A frame for a buffer: into it, or into the pending copy of a locked one. -/
def State.canStore (c n : Nat) (h data : List Nat) (s : State) : State :=
  let b := s.canBuf c n
  if b.locked then
    let lost := b.copy.isSome
    let s := s.canBufPut c n { b with copy := some (h, data, lost) }
    if lost then s.canOverrun c else s
  else
    let lost := b.isNew
    let s := s.canBufPut c n { b with hdr := h, data := data, isNew := true, overrun := lost }
    if lost then s.canOverrun c else s

/-- A read of the first header word locks the buffer (R461). -/
def State.canLock (c n : Nat) (s : State) : State := s.canBufPut c n { s.canBuf c n with locked := true }

/-- The release clears New and moves the pending copy in (R461, R462). -/
def State.canRelease (c n : Nat) (s : State) : State :=
  let b := s.canBuf c n
  if ¬ b.locked then s
  else match b.copy with
    | some (h, data, lost) => s.canBufPut c n { hdr := h, data := data, isNew := true, overrun := lost }
    | none => s.canBufPut c n { b with locked := false, isNew := false }

/-- A header word as the window shows it: New and Overrun in word 0. -/
def CanBuf.word (b : CanBuf) (k : Nat) : Nat :=
  if k = 0 then b.hdr.getD 0 0 % 2 ^ 30 + (if b.isNew then 2 ^ 31 else 0) + (if b.overrun then 2 ^ 30 else 0) else b.hdr.getD k 0

/-- A data word of the window: four bytes, 0 past the end. -/
def CanBuf.dataWord (b : CanBuf) (k : Nat) : Nat := ((b.data.drop (4 * k)).take 4).foldr (fun x a => x + 256 * a) 0

/-- The sub-index of the window that holds the last occupied word (R461). -/
def CanBuf.lastSub (b : CanBuf) : Nat := if hdrLength b.hdr = 0 then 6 else min (7 + (hdrLength b.hdr - 1) / 4) 0x16

/-! ## Controller states -/

/-- The error state that the counters give (R467). -/
def errState (tec rxc : Nat) : Nat := if 127 < tec ∨ 127 < rxc then 3 else 2

/-- Integrate, or stay off (R53, R472). -/
def State.canStart (c : Nat) (s : State) : State :=
  (s.put (Obj.canState c) (if s.canOn c then 1 else 0)).canShow c

/-- Eleven recessive bits: the controller is on the bus (R53). -/
def State.canIntegrated (c : Nat) (s : State) : State :=
  if s.canOn c ∧ s.oN (Obj.canState c) = 1 then
    (s.put (Obj.canState c) (if s.cN (Obj.canListenOnly c) = 1 then 6 else errState (s.oN (Obj.canTec c)) (s.oN (Obj.canRec c)))).canShow c
  else s

/-- CAN_INTEGRATED. -/
def execCanIntegrated (can : Fin 8) (s : State) : Host.Outcome State Fault Refusal := .next (s.canIntegrated can.val)

/-- Start Antenna (R456, R457). -/
def State.antennaStart (c : Nat) (s : State) : State :=
  let st := s.oN (Obj.canState c)
  if ¬ s.canOn c ∨ st = 0 then s.put (Obj.canAntennaResult c) 4
  else if st = 4 ∨ st = 5 then s.canMod c (fun x => { x with antennaNext := true })
  else (((s.put (Obj.canState c) 7).put (Obj.canAntennaResult c) 1).canMod c (fun x => { x with ant := { step := 1 } })).canShow c

/-- A run ends with a result: configured timing, integration, the queue resumes (R457). -/
def State.antennaEnd (c result : Nat) (s : State) : State :=
  if s.oN (Obj.canState c) = 7 then
    (((s.put (Obj.canAntennaResult c) result).put (Obj.canState c) 1).canMod c (fun x => { x with ant := {} })).canShow c
  else s.canMod c (fun x => { x with antennaNext := false })

/-- The rate whose bit time, in ticks, lies within 2 % of an interval; the first that does (R456). -/
def antennaRate (l : List (Nat × Nat)) (interval : Nat) : Option Nat :=
  (l.find? (fun p => 50 * (if p.2 ≤ interval then interval - p.2 else p.2 - interval) ≤ interval)).map Prod.fst

/-- Rates in bit/s with their bit times in ticks (R456). -/
def nominalRates : List (Nat × Nat) :=
  [(1000000, 80), (800000, 100), (500000, 160), (250000, 320), (125000, 640), (100000, 800), (83333, 960), (50000, 1600),
   (20000, 4000), (10000, 8000)]
def dataRates : List (Nat × Nat) := [(10000000, 8), (8000000, 10), (5000000, 16), (4000000, 20), (2000000, 40), (1000000, 80)]

/-- An interval between edges is measured; the smallest of 64 chooses the rate, among those that no error has excluded (R456). -/
def AntX.measure (x : AntX) (ticks : Nat) : AntX :=
  let least := if x.edges = 0 then ticks else min x.least ticks
  if x.edges + 1 < 64 then { x with edges := x.edges + 1, least := least }
  else match antennaRate (nominalRates.filter (fun p => !x.barred.contains p.1)) least with
    | some r => { x with step := 2, edges := 0, least := least, rate := r, frames := 0 }
    | none => { x with edges := 0, least := 0 }

/-- The level of CANn_RXD in a tick of step 1; the word of class 750 says it. -/
def State.antennaTick (c : Nat) (s : State) : State :=
  let x := (s.canx c).ant
  if s.oN (Obj.canState c) ≠ 7 ∨ x.step ≠ 1 then s
  else
    let l := (Config.inputWord 750 c s.tick).toNat.testBit 0
    let y := if x.level = none ∨ x.level = some l then x
      else { (match x.edgeAt with
        | some t => x.measure (s.tick - t)
        | none => x) with edgeAt := some s.tick }
    s.canMod c (fun z => { z with ant := { y with level := some l } })

/-- A frame at the rate under trial: the fourth in a row without error confirms it, an error excludes it (R456). -/
def State.antennaHears (c : Nat) (good : Bool) (s : State) : State :=
  let x := (s.canx c).ant
  if s.oN (Obj.canState c) ≠ 7 ∨ x.step ≠ 2 then s
  else s.canMod c (fun z => { z with ant :=
    if good then { x with frames := x.frames + 1, step := if x.frames + 1 < 4 then 2 else 3 }
    else { step := 1, barred := x.rate :: x.barred } })

/-- ANTENNA_DATA_PHASE_END: 1 s after the confirmation; `dataInterval` is the smallest edge interval in ticks inside data phases, `frames`
the frames with a bit-rate switch that agreed with it. -/
def State.antennaFound (c dataInterval frames : Nat) (s : State) : State :=
  let x := (s.canx c).ant
  if s.oN (Obj.canState c) ≠ 7 ∨ x.step ≠ 3 then s
  else
    let d := if 4 ≤ frames then (antennaRate dataRates dataInterval).getD 0 else 0
    ((s.put (Obj.canAntennaNominalRate c) x.rate).put (Obj.canAntennaDataRate c) d).antennaEnd c 2

/-- ANTENNA_DATA_PHASE_END. -/
def execAntennaDataPhaseEnd (can : Fin 8) (dataInterval : BitVec 16) (frames : Byte) (s : State) : Host.Outcome State Fault Refusal :=
  .next (s.antennaFound can.val dataInterval.toNat frames.toNat)

/-- ANTENNA_TIMEOUT: no rate is confirmed within CanAntennaTimeout (R457). -/
def execAntennaTimeout (can : Fin 8) (s : State) : Host.Outcome State Fault Refusal :=
  .next (if s.oN (Obj.canState can.val) = 7 ∧ (s.canx can.val).ant.step ≠ 3 then s.antennaEnd can.val 3 else s)

/-- CanAntennaCommand by a role (R475). -/
def State.antennaCommand (c value : Nat) (s : State) : State := if value = 1 then s.antennaStart c else s.antennaEnd c 0

/-- CAN_ANTENNA_START. -/
def execCanAntennaStart (can : Fin 8) (role : Role) (s : State) : Host.Outcome State Fault Refusal :=
  .next (s.access role 2 (State.antennaStart can.val))

/-- CAN_ANTENNA_STOP. -/
def execCanAntennaStop (can : Fin 8) (role : Role) (s : State) : Host.Outcome State Fault Refusal :=
  .next (s.access role 2 (fun t => t.antennaEnd can.val 0))

/-- Bus-off recovery begins (R468). -/
def State.canRecover (c : Nat) (s : State) : State :=
  if s.oN (Obj.canState c) = 4 then (s.put (Obj.canState c) 5).canShow c else s

/-- CAN_RECOVERY_COMMAND. -/
def execCanRecoveryCommand (can : Fin 8) (role : Role) (s : State) : Host.Outcome State Fault Refusal :=
  .next (s.access role 2 (State.canRecover can.val))

/-- CAN_ABORT_HEAD, CAN_ABORT_ALL, CAN_ABORT_NON_SAFETY. -/
def execCanAbortHead (can : Fin 8) (sending : Bool) (role : Role) (s : State) : Host.Outcome State Fault Refusal :=
  .next (s.access role 2 (State.canAbort can.val 1 sending))
def execCanAbortAll (can : Fin 8) (sending : Bool) (role : Role) (s : State) : Host.Outcome State Fault Refusal :=
  .next (s.access role 2 (State.canAbort can.val 2 sending))
def execCanAbortNonSafety (can : Fin 8) (sending : Bool) (role : Role) (s : State) : Host.Outcome State Fault Refusal :=
  .next (s.access role 2 (State.canAbort can.val 3 sending))

/-- R466: the head's wait reaches CanHeadWaitLimit. -/
def State.canHeadLimit (c : Nat) (s : State) : State :=
  let x := s.canx c
  if s.cN (Obj.canHeadWaitLimit c) = 0 ∨ x.queue.isEmpty ∨ x.headSeen then s
  else
    let s := s.canMod c (fun x => { x with headSeen := true })
    (s.put (Obj.canTxHeadWaitMax c) (max (s.oN (Obj.canTxHeadWaitMax c)) (max (s.headWait c) (s.cN (Obj.canHeadWaitLimit c))))).note FC.canHeadwait c

/-- CAN_HEADWAIT. -/
def execCanHeadwait (can : Fin 8) (s : State) : Host.Outcome State Fault Refusal := .next (s.canHeadLimit can.val)

/-- R467, R468, R470: the counters after a bus error; `inc` is the increment that ISO 11898-1 gives, on the transmit counter
of a sender and the receive counter of a receiver. -/
def State.canCount (c : Nat) (sending : Bool) (inc : Nat) (s : State) : State :=
  let st := s.oN (Obj.canState c)
  if ¬ [2, 3].contains st then s
  else
    let tec := s.oN (Obj.canTec c) + (if sending then inc else 0)
    let rxc := min 128 (s.oN (Obj.canRec c) + (if sending then 0 else inc))
    if 255 < tec then
      let s := (s.put (Obj.canTec c) 256).put (Obj.canRec c) rxc
      let s := (s.put (Obj.canState c) (if s.cN (Obj.canBusOffRecovery c) = 0 then 5 else 4)).incSat (Obj.canBusOffCount c)
      (s.canShow c).note FC.canBusoff c
    else
      let s := ((s.put (Obj.canTec c) tec).put (Obj.canRec c) rxc).put (Obj.canState c) (errState tec rxc)
      let s := s.canShow c
      if st = 2 ∧ errState tec rxc = 3 then s.note FC.canErrpassive c else s

/-- R470: a clash error of the head; the fourth in a row holds it. -/
def State.canClash (c : Nat) (s : State) : State :=
  let x := s.canx c
  match x.queue.head? with
  | none => s
  | some f =>
    let s := s.canMod c (fun x => { x with clash := x.clash + 1 })
    if x.clash + 1 = 4 then
      (((s.canMod c (fun x => { x with held := true })).put (Obj.canClashId c) f.id).incSat (Obj.canClashCount c)).canShow c |>.note FC.canIdclash c
    else s

/-- A bus error: counted, the head's clash, a waiting abort, and the counters. -/
def State.canError (c err : Nat) (sending clash : Bool) (inc : Nat) (s : State) : State :=
  if ¬ s.canRuns c ∨ [6, 7].contains (s.oN (Obj.canState c)) then
    (if s.canRuns c then ((s.incSat (Obj.canErrorCount c)).put (Obj.canLastError c) err).antennaHears c false else s)
  else
    let s := (s.incSat (Obj.canErrorCount c)).put (Obj.canLastError c) err
    let s := if sending ∧ (s.canx c).abort ≠ 0 then s.canNextHead c (s.canx c).queue.tail
      else if sending ∧ clash ∧ err = 1 then s.canClash c else s
    s.canCount c sending inc

/-- CAN_BUS_ERROR: `err` is the kind of CanLastError, `afterArbitration` says that the bit lies after the arbitration field. -/
def execCanBusError (can : Fin 8) (err : Byte) (sending afterArbitration : Bool) (inc : BitVec 4) (s : State) : Host.Outcome State Fault Refusal :=
  .next (s.canError can.val err.toNat sending afterArbitration inc.toNat)

/-- CAN_TX_SUBMIT: a block written to CanTxFrame by a session's block transfer; refused as a write of the object. -/
def execCanTxSubmit (can : Fin 8) (block : List Byte) (role : Role) (s : State) : Host.Outcome State Fault Refusal :=
  .next (s.access role 2 (fun t =>
    let r := t.canSubmit can.val (block.map BitVec.toNat)
    if r.2 then r.1 else r.1.refuse 0x13))

/-- CAN_RX_BUFFER_LOCK: the read of CanRxWord0 of the buffer in CanRxSelect. -/
def execCanRxBufferLock (can : Fin 8) (s : State) : Host.Outcome State Fault Refusal :=
  .next (if s.up then s.canLock can.val (s.oN (Obj.canRxSelect can.val)) else s)

/-- CAN_RX_BUFFER_RELEASE: the read of its last occupied word. -/
def execCanRxBufferRelease (can : Fin 8) (s : State) : Host.Outcome State Fault Refusal :=
  .next (if s.up then s.canRelease can.val (s.oN (Obj.canRxSelect can.val)) else s)

/-- The per-function reset of class 0x0A (R56, R471): snapshots of the receive window released, queue and buffers cleared, counters at 0, integration afresh. -/
def State.canReset (c : Nat) (s : State) : State :=
  let freed (x : RoaSess) : RoaSess := { x with snaps := x.snaps.filter (fun q => q.index != 0x1304 + 16 * c) }
  let s := { s with roa := { s.roa with sessions := s.roa.sessions.map freed } }
  let s := s.canMod c (fun _ => {})
  ((s.put (Obj.canTec c) 0).put (Obj.canRec c) 0).canStart c

/-- What a swap of the device scope does: enabling integrates, disabling goes off, new timing or mode integrates again with
the queue kept (R471, R472). -/
def State.canSwap (o : State) (c : Nat) (s : State) : State :=
  let keys := [Obj.canFrameMode c, Obj.canNomBrp c, Obj.canNomTseg1 c, Obj.canNomTseg2 c, Obj.canNomSjw c, Obj.canTripleSample c, Obj.canDataBrp c,
    Obj.canDataTseg1 c, Obj.canDataTseg2 c, Obj.canDataSjw c, Obj.canTdcOffset c, Obj.canXlTms c, Obj.canListenOnly c]
  if o.cN (Obj.canEnable c) ≠ s.cN (Obj.canEnable c) then s.canStart c
  else if keys.any (fun k => o.c k != s.c k) ∧ [2, 3, 6].contains (s.oN (Obj.canState c)) then (s.put (Obj.canState c) 1).canShow c
  else s

end Sys2Proof.Machine
end

