-- ==== Sys2Proof/Machine/View.lean ====
section
/-! DEFINITION. What a scalar object reads as: the stored value, or, for the objects that show other state, that state
(R429, R460, R474, R515). -/

namespace Sys2Proof.Machine

/-! ## Views -/

/-- The CAN receive window (R461, R476). -/
def State.canWindow (s : State) (c sub : Nat) : Nat :=
  let b := s.canBuf c (s.oN (Obj.canRxSelect c))
  if sub ≤ 6 then b.word (sub - 2) else b.dataWord (sub - 7)

/-- Entries of the shadow table that lie in some pattern of the shadow directory: what the spec's "used" means is the model's reading
(R127; DESIGN CHOICE, log 74). -/
def State.patternUsed (s : State) : Nat :=
  let ds := (List.range 64).map (fun p =>
    let d := s.mNat (domShadowAddr Obj.patternDirectoryShadow (4 * p)) 4
    (d % 65536, d / 65536))
  (List.range 4096).countP (fun n => ds.any (fun d => d.1 ≤ n && n < d.1 + d.2))

/-- CRC-32C of the shadow pattern table and directory (R127). -/
def State.patternCrc (s : State) : Nat :=
  crc32c ((bytesAt s.mem (domShadowAddr Obj.patternTableShadow 0) 32768 ++ bytesAt s.mem (domShadowAddr Obj.patternDirectoryShadow 0) 256).map BitVec.toNat)

/-- The 16 bytes of a list entry as one number: in the active list the entries that the device manages (R97, R102, R105). -/
def State.listEntry (s : State) (active : Bool) (t n : Nat) : Nat :=
  if active then
    match (s.dispatchList t).find? (fun p => p.1 == n && 254 ≤ n) with
    | some p => p.2
    | none => if n = 255 ∨ (n = 254 ∧ s.meterTb t) then 0 else s.entryWord t n
  else if n = 255 ∨ (n = 254 ∧ s.meterTb t) then 0
  else s.mNat (domShadowAddr (Obj.eventListShadow t) (16 * n)) 16

/-- The value that a read of an object shows when it is not the stored one. -/
def State.special (s : State) (active : Bool) (k : Nat) : Option Int :=
  let idx := k / 256
  let sub := k % 256
  let c := (idx - 0x1300) / 16
  if k = Obj.patternEntriesUsed then some s.patternUsed
  else if k = Obj.patternShadowCrc then some s.patternCrc
  else if 0x30A003 ≤ k ∧ k ≤ 0x30A006 then
    some ((s.listEntry active (s.oN Obj.entryTimebase) (s.oN Obj.entryNumber) / 2 ^ (32 * (sub - 3)) % 2 ^ 32 : Nat) : Int)
  else if 0x1300 ≤ idx ∧ idx < 0x1380 ∧ idx % 16 = 4 ∧ 2 ≤ sub ∧ sub ≤ 0x16 then some (s.canWindow c sub)
  else if 0x1300 ≤ idx ∧ idx < 0x1380 ∧ idx % 16 = 8 ∧ sub = 1 then some (s.tick % 4294967296 : Nat)
  else if 0x1300 ≤ idx ∧ idx < 0x1380 ∧ idx % 16 = 8 ∧ sub = 2 then some s.now
  else s.shown k

/-- What an object reads as: `active` chooses the active set of an RWS object (R437). -/
def State.view (s : State) (active : Bool) (k : Nat) : Int :=
  match s.special active k with
  | some v => v
  | none =>
    match objInfo (k / 256) (k % 256) with
    | some o => if o.row.acc.isRws then (if active then s.c k else s.shadow.get k) else s.o k
    | none => 0

end Sys2Proof.Machine
end

