-- ==== Sys2Proof/Machine/Esl.lean ====
section
/-! DEFINITION. The Etway Safety Layer and the process image: frames and their checks, connection states, watchdogs,
substitute values, transmit frames (R27 to R29, R505 to R512). -/

namespace Sys2Proof.Machine

/-! ## Slots and the process image -/

/-- The enabled slots of a partner entry in one direction, ascending. -/
def State.entrySlots (s : State) (e : Nat) (transmit : Bool) : List Nat :=
  s.slotsEnabled.filter (fun q => sdTransmit (s.slotDesc q) == transmit && sdPartner (s.slotDesc q) == e)

/-- Whether the target of a slot is a word of a mailbox (R447). -/
def sdToMailbox (d : Nat) : Bool := d / 2 ^ 60 % 4 == 1

/-- Address of the mailbox word that a slot names. -/
def mailboxAddr (target : Nat) : Nat := domAddr (Obj.mailboxLive (target / 64 % 8)) (4 * (target % 64))

/-- What a slot holds in the process image. -/
def State.imageAt (s : State) (q : Nat) : Nat := (s.image.lookup q).getD 0

/-- Write one slot: the process image and, for a mailbox target, the mailbox word (R27). -/
def State.slotWrite (q raw : Nat) (s : State) : State :=
  let s := { s with image := (q, raw) :: s.image.filter (fun p => p.1 != q) }
  if sdToMailbox (s.slotDesc q) then s.mPut (mailboxAddr (sdTarget (s.slotDesc q))) 4 raw else s

/-- Write every receive slot of an entry as one unit; the host then takes up its dictionary targets (R28, R449). -/
def State.imageWrite (e : Nat) (value : Nat → Nat) (s : State) : State :=
  let qs := s.entrySlots e false
  let s := s.forAll qs (fun q t => t.slotWrite q (value q))
  if qs.any (fun q => !sdToMailbox (s.slotDesc q)) ∧ ¬ s.takeup.contains e then { s with takeup := s.takeup ++ [e] } else s

/-- The field of a frame's payload that a slot names. -/
def slotField (d : Nat) (payload : List Nat) : Nat := pay payload (sdOffset d) (typeSize (sdType d))

/-- The values of a frame go to its entry's slots. -/
def State.slotValues (e : Nat) (payload : List Nat) (s : State) : State :=
  s.imageWrite e (fun q => slotField (s.slotDesc q) payload)

/-- The substitute values of an entry (R447, R510). -/
def State.substitutes (e : Nat) (s : State) : State :=
  s.imageWrite e (fun q => s.cN (Obj.slotSubstitute q) % 256 ^ typeSize (sdType (s.slotDesc q)))

/-! ## Who reacts to a connection that holds its substitute values (R268, R306) -/

/-- A receive slot of the entry has a dictionary target among some keys. -/
def State.feeds (s : State) (e : Nat) (keys : List Nat) : Bool :=
  (s.entrySlots e false).any (fun q => !sdToMailbox (s.slotDesc q) && keys.contains (sdTarget (s.slotDesc q)))

/-- The connection of an entry begins or ceases to hold its substitute values. -/
def State.eslHolds (e : Nat) (holds : Bool) (s : State) : State :=
  let s := s.forAll ((List.range 4).filter (fun m =>
      s.feeds e [Obj.tracTorqueRequest m, Obj.tracModeRequest m, Obj.tracSpeedRequest m, Obj.tracAccelRequest m]))
    (fun m t => t.requestLost m holds)
  if s.feeds e [Obj.cpBmsCurrentLimit 0, Obj.cpBmsVoltageLimit 0, Obj.cpBmsTemperature 0, Obj.cpBmsChargeEnable 0] then
    s.cpMod 0 (fun x => { x with limitSub := holds })
  else s

/-! ## Frames -/

/-- The identity that enters a frame's CRC (R506). -/
def State.eslIdentity (s : State) (e : Nat) (sending : Bool) : Nat :=
  if s.ptFlag e 2 = sending then s.pt e 16 4 else 0xFFFFFFFF - s.pt e 16 4

/-- The whole frame around a payload (R505). -/
def State.eslFrame (s : State) (e seq : Nat) (payload : List Nat) : List Nat :=
  let body := natBytes 2 (s.pt e 4 2) ++ natBytes 2 seq ++ payload
  body ++ natBytes 4 (crc32c (natBytes 4 (s.eslIdentity e true) ++ body))

/-- The next sequence number (R509). -/
def seqNext (n : Nat) : Nat := if n < 65535 then n + 1 else 1

/-- How many numbers after `last` a number lies, within a window. -/
def seqAhead : Nat → Nat → Nat → Option Nat
  | 0, _, _ => none
  | w + 1, last, n => if seqNext last = n then some 1 else (seqAhead w (seqNext last) n).map (· + 1)

/-- Put bytes into a payload at an offset. -/
def placeAt (l : List Nat) (off : Nat) (b : List Nat) : List Nat := l.take off ++ b ++ l.drop (off + b.length)

/-- The value that a transmit slot takes (R449). -/
def State.slotSource (s : State) (d : Nat) : List Nat :=
  let n := typeSize (sdType d)
  natBytes n (if sdToMailbox d then s.mNat (mailboxAddr (sdTarget d)) 4 else toUnsigned (8 * n) (s.view true (sdTarget d)))

/-- The payload of a transmit frame: every slot's value from one tick (R449). -/
def State.slotPayload (s : State) (e : Nat) : List Nat :=
  (s.entrySlots e true).foldl (fun p q => placeAt p (sdOffset (s.slotDesc q)) (s.slotSource (s.slotDesc q)))
    (List.replicate (s.pt e 8 2) 0)

/-! ## Tandem's own payloads (R96, R357) -/

/-- Time of TdPtpDomain. -/
def State.tdTime (s : State) : Nat := ((s.now : Int) + s.net.tdOffset).toNat

/-- A temperature in 0.1 °C; 0x8000 where there is none. -/
def State.tenths (s : State) (ain : Nat) : Nat :=
  if 16 ≤ ain ∨ s.oN (Obj.ainState ain) ≠ 1 then 0x8000 else toUnsigned 16 (F32.roundEven (s.oF (Obj.ainValue ain) * 10))

/-- The angle message of the published timebase. -/
def State.angleMessage (s : State) (t : Nat) : List Nat :=
  natBytes 4 (s.oN (Obj.tbAngle t)) ++ natBytes 4 (s.oN (Obj.tbRevolutions t)) ++ natBytes 8 (toUnsigned 64 (s.o (Obj.tbSpeed t))) ++
  natBytes 8 s.tdTime ++ natBytes 1 (s.oN (Obj.tbLockState t)) ++ [0, 0, 0]

/-- A safety output's contact is closed: commanded and read back. -/
def State.contactOn (s : State) (n : Nat) : Bool := n < 8 && s.oN (Obj.soCommand n) == 1 && s.oN (Obj.soReadback n) == 1

/-- A word of a VDC input's value, 0 for none. -/
def State.vdcWord (s : State) (n : Nat) : Nat := if n < 4 then s.oN (Obj.vdcValue n) else 0

/-- The angle message that the vehicle's frame carries: the timebase's while it is published, else zeros, which the receiver takes as
an invalid update (R96; DEDUCED, log 73). -/
def State.tdAngle (s : State) : List Nat :=
  if s.cN (Obj.tbPublish (s.cN Obj.tdTimebase)) = 1 then s.angleMessage (s.cN Obj.tdTimebase) else List.replicate 28 0

/-- The vehicle's frame. -/
def State.tdVehicleFrame (s : State) : List Nat :=
  let flags := bitIf (decide (7 ≤ s.oN Obj.lkState)) 0 + bitIf (decide (s.oF Obj.tdSetpoint < 0)) 1 +
    bitIf (s.contactOn (s.cN Obj.lkContactorPlus) && s.contactOn (s.cN Obj.lkContactorMinus)) 2
  s.tdAngle ++ natBytes 4 (s.oN Obj.tdSetpoint) ++ natBytes 4 (s.vdcWord (s.cN Obj.lkBatteryVoltageInput)) ++
  natBytes 4 (s.vdcWord (s.cN Obj.lkInletVoltageInput)) ++ natBytes 2 (s.tenths (byteOf (s.cN Obj.lkPinTempInputs) 0)) ++
  natBytes 2 (s.tenths (byteOf (s.cN Obj.lkPinTempInputs) 1)) ++ natBytes 4 (s.oN (Obj.cpCvTarget 0)) ++ [flags] ++ List.replicate 7 0

/-- The post's frame. -/
def State.tdPostFrame (s : State) : List Nat :=
  let flags := bitIf (decide (s.oN Obj.lkPostState = 7 ∨ s.oN Obj.lkPostStopCause ≠ 0)) 0 +
    bitIf (s.contactOn (s.cN Obj.lkPostContactorPlus) && s.contactOn (s.cN Obj.lkPostContactorMinus)) 1 + bitIf ((s.oN Obj.lkPostLimiter).testBit 2) 2
  natBytes 8 s.tdTime ++ natBytes 4 (s.oN Obj.lkPostCurrent) ++ natBytes 4 (s.oN Obj.lkPostVoltage) ++ natBytes 4 (s.oN Obj.tdConductorTemp) ++
  natBytes 4 (s.oN Obj.tdThermalLimit) ++ natBytes 4 (s.oN Obj.lkPostCurrentLimit) ++ natBytes 2 (s.tenths (s.cN Obj.ccSupplyTempInput)) ++
  natBytes 2 (s.tenths (s.cN Obj.ccReturnTempInput)) ++ natBytes 2 (F32.roundEven (s.oF Obj.ccFlow * 100)).toNat ++ [flags] ++ List.replicate 5 0

/-- The payload of an entry's transmit frame. -/
def State.txPayload (s : State) (e : Nat) : List Nat :=
  if s.tdEntry = some e then (if s.station then s.tdPostFrame else s.tdVehicleFrame) else s.slotPayload e

/-- What the Tandem connection does with a payload beyond its slots: the link function's values and, at the post, the
angle of every timebase whose source is the remote partner; the sample's age may be negative (R89, R90, R96, R359). -/
def State.tdReceived (payload : List Nat) (s : State) : State :=
  let s := s.tdPayload payload
  if s.station then
    let age := (((s.tdTime : Int) - (pay payload 16 8 : Int)) * 2) / 25
    s.forAll ((List.range 8).filter (fun t => s.cN (Obj.tbSource t) == 4)) (fun t u =>
      u.tbUpdate t (pay payload 24 1 == 2) (pay payload 0 4) (toSigned 64 (pay payload 8 8)) age (some (pay payload 4 4)))
  else s

/-! ## Receiving -/

/-- A failed check: counted, and raised at most once a second (R508). -/
def State.eslFail (n : Nat) (crc : Bool) (s : State) : State :=
  let x := s.eslx n
  let old := if crc then x.crcAt else x.seqAt
  let due := match old with
    | some t => decide (t + 1000000000 ≤ s.mono)
    | none => true
  let s := s.eslMod n (fun x => if crc then { x with crc := min (x.crc + 1) 4294967295 } else { x with seq := min (x.seq + 1) 4294967295 })
  if due then
    (s.eslMod n (fun x => if crc then { x with crcAt := some s.mono } else { x with seqAt := some s.mono })).note (if crc then FC.eslCrc else FC.eslSeq) n
  else s

/-- An accepted frame's values are released (R27): slots, and Tandem where the connection is its own. -/
def State.eslRelease (e : Nat) (payload : List Nat) (s : State) : State :=
  let s := s.slotValues e payload
  if s.tdEntry = some e then s.tdReceived payload else s

/-- A frame is accepted: counted, and the watchdog restarts (R508). -/
def State.eslAccept (n last state run : Nat) (s : State) : State :=
  s.eslMod n (fun x => { x with last := last, state := state, run := run, rx := (x.rx + 1) % 4294967296, rxTime := s.now, tick := s.tick })

/-- The side becomes open and releases the frame's values. -/
def State.eslOpen (e n last : Nat) (payload : List Nat) (s : State) : State :=
  ((s.eslAccept n last 3 0).eslHolds e false).eslRelease e payload

/-- R509, R511: a frame whose entry, length and CRC are right. -/
def State.eslSequence (e n seq : Nat) (payload : List Nat) (s : State) : State :=
  let x := s.eslx n
  let ahead := seqAhead (s.pt e 12 1) x.last seq
  match x.state with
  | 3 =>
    if seq = 0 then
      (((s.eslMod n (fun x => { x with reopen := min (x.reopen + 1) 4294967295 })).eslAccept n 0 3 0).note FC.eslReopen n).eslRelease e payload
    else match ahead with
      | some k => ((s.eslMod n (fun x => { x with lost := min (x.lost + (k - 1)) 4294967295 })).eslAccept n seq 3 0).eslRelease e payload
      | none => s.eslFail n false
  | 2 =>
    match ahead with
    | some _ => if x.run + 1 = s.cN Obj.eslRecoverCount then s.eslOpen e n seq payload else s.eslAccept n seq 2 (x.run + 1)
    | none => s.eslAccept n seq 2 0
  | 1 => if seq = 0 then s.eslOpen e n 0 payload else s.eslAccept n seq 2 0
  | 4 => if s.ptFlag e 4 then s else if seq = 0 then s.eslOpen e n 0 payload else s.eslAccept n seq 2 0
  | _ => s

/-- R508: the checks of a frame for an entry, padding aside. -/
def State.eslCheck (e : Nat) (bytes : List Nat) (s : State) : State :=
  let n := s.pt e 2 2
  let len := s.pt e 6 2
  let onCan := 4 ≤ s.pt e 1 1 && s.pt e 1 1 ≤ 11
  if (s.eslx n).state = 0 ∨ len = 0 then s
  else if bytes.length ≠ 8 + len ∧ ¬ (onCan ∧ bytes.length = padTo 1 (8 + len)) then s.eslFail n true
  else
    let body := bytes.take (4 + len)
    if pay bytes (4 + len) 4 ≠ crc32c (natBytes 4 (s.eslIdentity e false) ++ body) then s.eslFail n true
    else s.eslSequence e n (pay bytes 2 2) (body.drop 4)

/-- The entry of a datagram: by receiving port, connection number and source (R508). -/
def State.udpEntry (s : State) (port source connection : Nat) : Option Nat :=
  s.ptEnabled.find? (fun e => s.ptFlag e 1 && s.pt e 1 1 == port && s.pt e 4 2 == connection && (s.pt e 20 4 == source || s.pt e 20 4 == 0))

/-- A frame for an entry: ESL checks, or the slots at once where the entry has no ESL flag (R458, R27). -/
def State.entryFrame (e : Nat) (bytes : List Nat) (s : State) : State :=
  if ¬ s.ptFlag e 0 then s
  else if s.ptFlag e 1 then s.eslCheck e bytes
  else if s.pt e 6 2 = 0 ∨ bytes.length < s.pt e 6 2 then s
  else s.slotValues e (bytes.take (s.pt e 6 2))

/-- ESL_FRAME_RECEIVED: over UDP the entry is found by port, source and connection; over CAN it is the filter's target. -/
def execEslFrameReceived (transport : Fin 12) (source : BitVec 32) (entry : BitVec 13) (bytes : List Byte) (s : State) :
    Host.Outcome State Fault Refusal :=
  let b := bytes.map BitVec.toNat
  .next (
    if ¬ s.up then s
    else if transport.val < 4 then
      match s.udpEntry transport.val source.toNat (pay b 0 2) with
      | some e => s.eslCheck e b
      | none => s
    else s.entryFrame entry.toNat b)

/-! ## Watchdog -/

/-- R510: no accepted frame for WatchdogTime. -/
def State.eslExpire (n : Nat) (s : State) : State :=
  match s.eslEntry n with
  | none => s
  | some e =>
    if ¬ [1, 2, 3].contains (s.eslx n).state then s
    else
      let s := s.eslMod n (fun x => { x with state := 4, run := 0, wdog := min (x.wdog + 1) 4294967295 })
      let s := (s.substitutes e).eslHolds e true
      let s := if s.tdEntry = some e then s.tdLost else s
      s.raise FC.eslWdog n

/-- ESL_WATCHDOG_EXPIRY. -/
def execEslWatchdogExpiry (connection : BitVec 11) (s : State) : Host.Outcome State Fault Refusal :=
  .next (if s.up then s.eslExpire connection.toNat else s)

/-! ## Sending -/

/-- A period in which the frame cannot be queued (R507). -/
def State.eslSkip (e : Nat) (s : State) : State :=
  if s.ptFlag e 1 then s.eslMod (s.pt e 2 2) (fun x => { x with skip := min (x.skip + 1) 4294967295 }) else s

/-- Queue the bytes of an entry's frame at its port; the flag says whether they were taken. -/
def State.entryPut (e : Nat) (bytes : List Nat) (s : State) : State × Bool :=
  let tr := s.pt e 1 1
  if tr < 4 then s.netUdp tr (if tr < 2 then s.cN (Obj.xgControlPcp tr) else 7) (s.pt e 24 2) e bytes
  else if tr ≤ 11 then
    let c := tr - 4
    if [0, 6].contains (s.oN (Obj.canState c)) then (s, false)
    else
      let f := s.canFrame c (s.pt e 28 4) bytes
      s.canPut c { f with entry := if s.ptFlag e 1 then some e else none, seq := if s.ptFlag e 1 then pay bytes 2 2 else 0 }
  else (s, false)

/-- R507: assemble and queue an entry's frame with the next number, or skip the period. -/
def State.eslSend (e : Nat) (s : State) : State :=
  if ¬ s.ptFlag e 0 ∨ s.pt e 14 2 = 0 then s
  else if s.ptFlag e 1 then
    let n := s.pt e 2 2
    let x := s.eslx n
    let r := s.entryPut e (s.eslFrame e x.next (s.txPayload e))
    if ¬ r.2 then r.1.eslSkip e
    else
      let s := r.1.eslMod n (fun x => { x with next := seqNext x.next })
      if s.tdEntry = some e then s.tdSent else s
  else (s.entryPut e (s.txPayload e)).1

/-- ESL_TX_FRAME. -/
def execEslTxFrame (entry : BitVec 13) (s : State) : Host.Outcome State Fault Refusal :=
  .next (if s.up then s.eslSend entry.toNat else s)

/-! ## Enabling, disabling, reset -/

/-- A receive side starts: waiting, on its substitute values, its watchdog running (R512). -/
def State.eslEnable (e : Nat) (s : State) : State :=
  let n := s.pt e 2 2
  if s.pt e 6 2 = 0 then s
  else ((s.eslMod n (fun x => { x with state := 1, run := 0, tick := s.tick })).substitutes e).eslHolds e true

/-- An entry's connection exists: ESL flag set and, on the link-managed entry, a Tandem agreement in being (R514). -/
def State.eslOn (s : State) (e : Nat) : Bool :=
  s.ptFlag e 1 && (!s.ptFlag e 5 || (1 ≤ s.oN Obj.tdState && s.oN Obj.tdState ≤ 5))

/-- The connections follow the partner table: enabled ones start, disabled ones stop with their slots as they are (R512,
R528). -/
def State.eslFollow (s : State) : State :=
  let on := (s.ptEnabled.filter s.eslOn).map (fun e => (s.pt e 2 2, e))
  let gone := (s.esl.filter (fun p => p.2.state != 0 && !on.any (fun q => q.1 == p.1))).map Prod.fst
  let s := s.forAll gone (fun n t => t.eslMod n (fun x => { x with state := 0 }))
  s.forAll (on.map Prod.snd) (fun e t => if (t.eslx (t.pt e 2 2)).state = 0 then t.eslEnable e else t)

/-- During a per-function reset a receive side holds its substitute values (R56). -/
def State.eslSuspend (n : Nat) (s : State) : State :=
  match s.eslEntry n with
  | none => s
  | some e => if s.pt e 6 2 = 0 then s else (s.substitutes e).eslHolds e true

/-- The per-function reset of class 0x0B (R56, R507, R511): numbering from 0, waiting again. -/
def State.eslReset (n : Nat) (s : State) : State :=
  match s.eslEntry n with
  | none => s
  | some e => (s.eslMod n (fun x => { x with next := 0, sent := none, last := 0 })).eslEnable e

end Sys2Proof.Machine
end

