-- ==== Sys2Proof/Machine/Net.lean ====
section
/-! DEFINITION. Ethernet and T1S links, gates, device time, PPS and waveform streaming (R481 to R490, R588). Ports are
numbered XG0, XG1, T1S0, T1S1. -/

namespace Sys2Proof.Machine

/-! ## Links -/

/-- PD_SER is on: M2 to M10 (R15). -/
def State.serdesOn (s : State) : Bool := s.up && 2 ≤ s.mode && s.mode ≤ 10

/-- A port's queue is emptied; an XG port counts what it loses (R482). -/
def State.portEmpty (p : Nat) (s : State) : State :=
  let n := (s.txQueue p).length
  let s := s.netMod (fun x => { x with queues := modifyAt x.queues p (fun _ => []), line := x.line.set p 0 })
  if p < 2 then s.addSat (Obj.xgTxDropCount p) n else s

/-- An XG port goes down (R482). -/
def State.xgDown (p : Nat) (pll : Bool) (s : State) : State :=
  if ¬ s.serdesOn ∨ s.cN (Obj.xgEnable p) = 0 then s
  else
    let s := if pll then s.put Obj.pllLockMap (clearBit (s.oN Obj.pllLockMap) (p + 2) : Nat) else s
    if s.oN (Obj.xgLinkState p) ≠ 2 then s
    else
      let s := (s.put (Obj.xgLinkState p) 1).portEmpty p
      (s.incSat (Obj.xgLinkDownCount p)).note FC.netLinkdown p

/-- NET_LINKDOWN: `pll` says that the port's PLL has lost its lock. -/
def execNetLinkdown (port : Fin 2) (pll : Bool) (s : State) : Host.Outcome State Fault Refusal := .next (s.xgDown port.val pll)

/-- XG_LINK_UP: block lock held for 10 ms. -/
def execXgLinkUp (port : Fin 2) (s : State) : Host.Outcome State Fault Refusal :=
  .next (if s.serdesOn ∧ s.cN (Obj.xgEnable port.val) = 1 ∧ s.oN (Obj.xgLinkState port.val) = 1 ∧ (s.oN Obj.pllLockMap).testBit (port.val + 2) then
    s.put (Obj.xgLinkState port.val) 2 else s)

/-- XG_PLL_LOCK (R588). -/
def execXgPllLock (port : Fin 2) (s : State) : Host.Outcome State Fault Refusal :=
  .next (if s.serdesOn ∧ s.cN (Obj.xgEnable port.val) = 1 then s.put Obj.pllLockMap (setBit (s.oN Obj.pllLockMap) (port.val + 2) : Nat) else s)

/-- The port as its configuration has it: a disabled one is off, an enabled one starts down (R482, R588). -/
def State.xgFollow (p : Nat) (s : State) : State :=
  if s.serdesOn ∧ s.cN (Obj.xgEnable p) = 1 then
    if s.oN (Obj.xgLinkState p) = 0 then s.put (Obj.xgLinkState p) 1 else s
  else ((s.put (Obj.xgLinkState p) 0).put Obj.pllLockMap (clearBit (s.oN Obj.pllLockMap) (p + 2) : Nat)).portEmpty p

/-- A T1S port as its configuration has it; the coordinator hears its own beacon (R483). -/
def State.t1sFollow (t : Nat) (s : State) : State :=
  if s.up ∧ s.cN (Obj.t1sEnable t) = 1 ∧ s.cN (Obj.t1sPlcaEnable t) = 1 then
    if s.cN (Obj.t1sPlcaNodeId t) = 0 then s.put (Obj.t1sPlcaState t) 1 else s
  else s.put (Obj.t1sPlcaState t) 0

/-- NET_PLCA: no beacon for 4 ms. -/
def execNetPlca (port : Fin 2) (s : State) : Host.Outcome State Fault Refusal :=
  let t := port.val
  .next (if s.up ∧ s.cN (Obj.t1sEnable t) = 1 ∧ s.cN (Obj.t1sPlcaEnable t) = 1 ∧ s.cN (Obj.t1sPlcaNodeId t) ≠ 0 ∧ s.oN (Obj.t1sPlcaState t) ≠ 2 then
    (s.put (Obj.t1sPlcaState t) 2).note FC.netPlca (2 + t) else s)

/-- PLCA_BEACON_RETURN. -/
def execPlcaBeaconReturn (port : Fin 2) (s : State) : Host.Outcome State Fault Refusal :=
  let t := port.val
  .next (if s.up ∧ s.cN (Obj.t1sEnable t) = 1 ∧ s.cN (Obj.t1sPlcaEnable t) = 1 then s.put (Obj.t1sPlcaState t) 1 else s)

/-! ## Gates (R481) -/

/-- The gate control list of the active set: entries up to the first of no length. -/
def State.gateList (s : State) (p : Nat) : List (Nat × Nat) :=
  ((List.range 64).map (fun k =>
    let a := domAddr (Obj.xgGateList p) (8 * k)
    (s.mNat a 4, s.mNat (a + 4) 1))).takeWhile (fun e => e.1 != 0)

/-- Length of a cycle, ns. -/
def cycleNs (l : List (Nat × Nat)) : Nat := (l.map Prod.fst).sum

/-- An interval starts; at the end of a cycle the list in force is the active set's. -/
def State.gateStart (p : Nat) (s : State) : State :=
  if s.cN (Obj.xgGateEnable p) = 0 then s.netMod (fun n => { n with gates := n.gates.set p [], gateIx := n.gateIx.set p 0 })
  else
    let l := s.net.gates.getD p []
    let ix := s.net.gateIx.getD p 0 + 1
    if ix < l.length then
      s.netMod (fun n => { n with gateIx := n.gateIx.set p ix, gateAt := n.gateAt.set p (n.gateAt.getD p 0 + (l.getD (ix - 1) (0, 0)).1) })
    else
      let l := s.gateList p
      let base := s.cN (Obj.xgGateBase p)
      let at0 := if cycleNs l = 0 ∨ s.now < base then s.now else base + (s.now - base) / cycleNs l * cycleNs l
      s.netMod (fun n => { n with gates := n.gates.set p l, gateIx := n.gateIx.set p 0, gateAt := n.gateAt.set p at0 })

/-- GATE_INTERVAL_START. -/
def execGateIntervalStart (port : Fin 2) (s : State) : Host.Outcome State Fault Refusal := .next (if s.serdesOn then s.gateStart port.val else s)

/-- An interval's end has come, or a first list waits for its base. -/
def State.gateDue (s : State) (p : Nat) : Bool :=
  let l := s.net.gates.getD p []
  if s.cN (Obj.xgGateEnable p) = 0 then !l.isEmpty
  else if l.isEmpty then !(s.gateList p).isEmpty && s.cN (Obj.xgGateBase p) ≤ s.now
  else s.net.gateAt.getD p 0 + (l.getD (s.net.gateIx.getD p 0) (0, 0)).1 ≤ s.now

/-- A frame may begin: its class's gate is open long enough (R481). -/
def State.gateOpen (s : State) (p : Nat) (f : TxFrame) : Bool :=
  let l := s.net.gates.getD p []
  f.cls ≥ 8 || 2 ≤ p || l.isEmpty || s.now + xgNs f.size ≤ s.net.gateAt.getD p 0 + openFor l f.cls (s.net.gateIx.getD p 0)

/-- The frame that a free line takes next: 802.1AS, then the highest class whose gate is open. -/
def State.txNext (s : State) (p : Nat) : Option TxFrame :=
  (s.txQueue p).foldl (fun best f =>
    if s.gateOpen p f then
      match best with
      | none => some f
      | some g => if g.cls < f.cls then some f else best
    else best) none

/-- One tick of a port's line: a tick carries 125 bits at 10 Gbit/s and an eighth of one at 10 Mbit/s. -/
def State.txTick (p : Nat) (s : State) : State :=
  let left := s.net.line.getD p 0 - (if p < 2 then 1000 else 1)
  if left ≠ 0 then s.netMod (fun n => { n with line := n.line.set p left })
  else if ¬ s.portUp p then s
  else match s.txNext p with
    | none => if s.net.line.getD p 0 = 0 then s else s.netMod (fun n => { n with line := n.line.set p 0 })
    | some f => s.netMod (fun n => { n with line := n.line.set p ((f.size + 20) * 64), queues := modifyAt n.queues p (fun q => q.erase f) })

/-! ## Device time (R486 to R489) -/

/-- Device time advances by one tick at the rate in force; a backward offset goes at −200 ppm. -/
def State.timeTick (s : State) : State :=
  if s.net.back = 0 then { s with devSub := s.devSub + (25000000000 + 25 * s.o Obj.devTimeRateAdjust).toNat }
  else
    let left := s.net.back - 5000000
    let s := { s with devSub := s.devSub + 24995000000 }
    if left = 0 then (s.netMod (fun n => { n with back := 0 })).put Obj.devTimeRateAdjust s.net.rateAfter
    else s.netMod (fun n => { n with back := left })

/-- A legal session is open. -/
def State.sessionOpen (s : State) : Bool := s.mtr.session.isSome

/-- The rate that removes an offset below the threshold: the spec gives its bound alone. -/
def State.freeRate (s : State) : Int := max (-200000) (min 200000 (Config.freeValue 1901 s.freeIx))

/-- Device time meets a reference that is `off` ns behind it: a step, or a rate adjustment (R488). -/
def State.meet (off : Int) (first : Bool) (s : State) : State :=
  let s := s.put Obj.devTimeOffset (max (-2147483648) (min 2147483647 off))
  if first ∨ (s.cN Obj.devTimeStepThreshold : Int) ≤ |off| then
    if 0 < off ∧ s.sessionOpen then
      (s.netMod (fun n => { n with back := off.toNat * 2000000000, rateAfter := if n.back = 0 then s.o Obj.devTimeRateAdjust else n.rateAfter })).put Obj.devTimeRateAdjust (-200000)
    else
      let s := { s with devSub := (((s.now : Int) - off).toNat) * 2000000000 }
      (s.netMod (fun n => { n with back := 0 })).incSat Obj.devTimeStepCount
  else (s.put Obj.devTimeRateAdjust s.freeRate).fresh.netMod (fun n => { n with back := 0 })

/-- A synchronisation of DevTimeDomain, or of TdPtpDomain, at domain time `time`. -/
def State.ptpSync (tandem : Bool) (time : Nat) (s : State) : State :=
  if ¬ s.up then s
  else if tandem then
    let off := (time : Int) - s.now
    let rate := match s.net.tdAt with
      | some t => if t < s.now then (off - s.net.tdOffset) * 1000000000 / ((s.now - t : Nat) : Int) else s.net.tdRate
      | none => 0
    s.netMod (fun n => { n with tdOffset := off, tdRate := rate, tdAt := some s.now })
  else
    let s := s.meet ((s.now : Int) - time) (!s.net.synced)
    (s.netMod (fun n => { n with synced := true })).put Obj.devTimeState 1

/-- PTP_SYNC: `time` is the domain's time now, ns. -/
def execPtpSync (tandem : Bool) (time : BitVec 64) (s : State) : Host.Outcome State Fault Refusal := .next (s.ptpSync tandem time.toNat)

/-- SYNC_TIMEOUT: three Sync intervals missed. -/
def execSyncTimeout (s : State) : Host.Outcome State Fault Refusal :=
  .next (if s.up ∧ s.oN Obj.devTimeState = 1 then s.put Obj.devTimeState 2 else s)

/-- NET_TIMELOSS: the holdover limit has passed. -/
def execNetTimeloss (s : State) : Host.Outcome State Fault Refusal :=
  .next (if s.up ∧ s.oN Obj.devTimeState = 2 then (s.put Obj.devTimeState 3).raise FC.netTimeloss 0 else s)

/-- PPS_IN_EDGE (R489): the edge marks the nearest whole second. -/
def execPpsInEdge (s : State) : Host.Outcome State Fault Refusal :=
  .next (
    if s.up ∧ s.cN Obj.devTimePpsIn = 1 ∧ s.oN Obj.devTimeState ≠ 1 then
      let r := s.now % 1000000000
      s.meet (if r < 500000000 then (r : Int) else (r : Int) - 1000000000) false
    else s)

/-- PPS_OUT_SECOND: PPS_OUT rises. -/
def execPpsOutSecond (s : State) : Host.Outcome State Fault Refusal :=
  .next (if s.up ∧ s.cN Obj.devTimePpsOut = 1 then s.netMod (fun n => { n with pps := some s.now }) else s)

/-- PPS_OUT falls 10 ms after its rise. -/
def State.ppsFall (s : State) : State :=
  match s.net.pps with
  | some t => if t + 10000000 ≤ s.now ∨ s.now < t then s.netMod (fun n => { n with pps := none }) else s
  | none => s

/-- PTP_SYNC_TRANSMIT: as grandmaster, a Sync on an enabled port; on a Tandem link the post's. -/
def execPtpSyncTransmit (port : Fin 4) (grandmaster : Bool) (s : State) : Host.Outcome State Fault Refusal :=
  let tandem := s.cN Obj.tdEnable == 1 && s.oN Obj.tdState == 4 && decide (port.val = 2 + (if s.station then s.cN Obj.lkPostPort else s.cN Obj.lkPort) % 2)
  .next (
    if ¬ s.portUp port.val then s
    else if tandem then (if s.station then (s.netPut port.val { cls := 8, size := 64, udp := 0, partner := 0xFFFF, payload := [] }).1 else s)
    else if grandmaster ∧ s.cN Obj.devTimePriority1 ≠ 255 then
      (s.netPut port.val { cls := 8, size := 64, udp := 0, partner := 0xFFFF, payload := [] }).1
    else s)

/-! ## Waveform streaming (R490) -/

/-- The ports named in StreamSources. -/
def State.streamPorts (s : State) : List Nat :=
  ((List.range 16).map (fun k => s.mNat (domAddr Obj.streamSources (2 * k)) 2)).filter (· != 0xFFFF)

/-- Bytes of a record. -/
def State.recordSize (s : State) : Nat := 4 + 4 * s.streamPorts.length

/-- Send the datagram in progress. -/
def State.streamSend (s : State) : State :=
  let n := s.net
  if n.records = [] then s
  else
    let p := s.cN Obj.streamPort
    let bytes := natBytes 4 n.streamSeq ++ natBytes 2 n.records.length ++ natBytes 1 s.streamPorts.length ++ [0] ++ natBytes 8 n.firstTime ++ n.records.flatten
    let r := s.netUdp p (s.cN Obj.streamPcp) (s.cN Obj.streamUdpPort) 0xFFFF bytes
    let t := r.1.netMod (fun n => { n with records := [], streamSeq := (n.streamSeq + 1) % 4294967296 })
    if r.2 then t
    else
      let t := t.incSat Obj.streamDropCount
      let due := match n.streamDropAt with
        | some a => decide (a + 1000000000 ≤ s.mono)
        | none => true
      if due then (t.netMod (fun n => { n with streamDropAt := some s.mono })).note FC.netStreamdrop p else t

/-- A dispatch of StreamEntry captures a record; a payload that can hold no more is sent. -/
def State.streamCapture (t entry : Nat) (s : State) : State :=
  if s.cN Obj.streamEnable = 1 ∧ s.cN Obj.streamTimebase = t ∧ s.cN Obj.streamEntry = entry then
    let rcd := natBytes 4 (s.tick % 4294967296) ++ s.streamPorts.flatMap (fun p => natBytes 4 (s.portNow 0 p))
    let s := s.netMod (fun n => if n.records = [] then { n with records := [rcd], firstTime := s.now, firstTick := s.tick } else { n with records := n.records ++ [rcd] })
    if s.cN Obj.streamFrameBytes < (s.net.records.length + 1) * s.recordSize then s.streamSend else s
  else s

/-- STREAM_DATAGRAM_SEND. -/
def execStreamDatagramSend (s : State) : Host.Outcome State Fault Refusal := .next (if s.up then s.streamSend else s)

end Sys2Proof.Machine
end

