-- ==== Sys2Proof/Machine/Memory.lean ====
section
/-! DEFINITION. SRAM errors and the background test, the leave arbiter's commands, and the health monitors (R543 to R546,
R551 to R560). -/

namespace Sys2Proof.Machine

/-! ## Memory -/

def State.memMod (f : MemX → MemX) (s : State) : State := { s with memx := f s.memx }

/-- Move a region to a spare of its bank (R545). -/
def State.remap (bank region : Nat) (s : State) : State :=
  let used := s.memx.spares.getD bank 0
  if 16 ≤ used then s.note FC.memSparesout bank
  else
    let s := { s with nv := { s.nv with remap := s.nv.remap ++ [(bank, used, region)] } }
    let s := s.memMod (fun m => { m with spares := m.spares.set bank (used + 1) })
    ((s.put Obj.memRemapCount (s.nv.remap.length : Nat)).note FC.memTestfail bank).log 11 0 (bank * 65536 + region) 0 0

/-- Whether a second has passed since a time. -/
def State.secondSince (s : State) (t : Option Nat) : Bool :=
  match t with
  | some a => a + 1000000000 ≤ s.mono
  | none => true

/-- A corrected single-bit error; the third of a region within an hour marks it (R543, R545). -/
def State.eccCorrected (bank region : Nat) (s : State) : State :=
  let s := s.incSat Obj.memEccCorrectedCount
  let id := bank * 4096 + region
  let recent := (s.memx.corrected.filter (fun p => s.mono < p.2 + 3600000000000)) ++ [(id, s.mono)]
  let due := s.secondSince s.memx.corrAt
  let s := s.memMod (fun m => { m with corrected := recent, corrAt := if due then some s.mono else m.corrAt })
  let s := if due then s.note FC.memEcccorr bank else s
  if 3 ≤ (recent.filter (fun p => p.1 == id)).length then
    (s.memMod (fun m => { m with corrected := recent.filter (fun p => p.1 != id) })).remap bank region
  else s

/-- A double-bit error read by a master (R543). -/
def State.eccDouble (master bank region : Nat) (s : State) : State :=
  let s := (s.incSat Obj.memEccUncorrectedCount).remap bank region
  if master ≤ 13 ∨ 19 ≤ master then s.raise FC.memEccue bank else s.note FC.memDmaue bank

/-- SRAM_ECC_ERROR. -/
def execSramEccError (master : Fin 20) (bank : Fin 24) (region : BitVec 12) (double : Bool) (s : State) : Host.Outcome State Fault Refusal :=
  .next (
    if ¬ s.up then s
    else if double then s.eccDouble master.val bank.val region.toNat
    else s.eccCorrected bank.val region.toNat)

/-- The background test runs (R51, R544). -/
def State.memTestOn (s : State) : Bool := s.up && 2 ≤ s.mode && s.mode ≤ 10

/-- The next region after one has been tested (R544). -/
def State.testNext (s : State) : State :=
  let p := s.oN Obj.memTestPosition
  if p < 98303 then s.put Obj.memTestPosition (p + 1 : Nat)
  else
    let s := ((s.put Obj.memTestPosition 0).inc32 Obj.memTestPassCount).put Obj.memTestLastPassDuration ((s.mono - s.memx.passAt) / 1000000 : Nat)
    s.memMod (fun m => { m with passAt := s.mono })

/-- One region under leave: `fails` march tests in succession failed, `double` found a double-bit error and `copy` says that
a corrected copy exists (R544, R545, R561). -/
def State.testRegion (fails : Nat) (double copy : Bool) (s : State) : State :=
  let period := s.oN Obj.memTestPeriod * 1000
  let late := match s.memx.startAt with
    | some t => decide (t + 2 * period < s.mono)
    | none => false
  let s := if late then s.incSat Obj.memTestLateCount else s
  let s := s.memMod (fun m => { m with startAt := some s.mono })
  let bank := s.oN Obj.memTestPosition / 4096
  let region := s.oN Obj.memTestPosition % 4096
  let s := if double then
      let t := (s.incSat Obj.memEccUncorrectedCount).remap bank region
      if copy then t else t.raise FC.memEccue bank
    else if 2 ≤ fails then (s.incSat Obj.memTestFailCount).remap bank region
    else s
  s.testNext.leaveBack .memTest

/-- BACKGROUND_TEST_REGION: the region runs on its grant; without one the request waits. -/
def execBackgroundTestRegion (fails : BitVec 2) (double copy : Bool) (s : State) : Host.Outcome State Fault Refusal :=
  .next (
    if ¬ s.memTestOn then s
    else if s.leave.held.any (fun e => e.op == .memTest) then s.testRegion fails.toNat double copy
    else if s.leave.waiting.any (fun e => e.op == .memTest) then s
    else
      let r := s.leaveAsk .memTest
      if r.2 then r.1.testRegion fails.toNat double copy else r.1)

/-- A master has waited some fabric cycles on a bank: its counter rises by one for each and stops at 2³² − 1; the first saturation
after a read is reported (R30, R546). -/
def State.masterWaits (m cycles : Nat) (s : State) : State :=
  let n := s.oN (Obj.memConflictCount m) + cycles
  let t := s.put (Obj.memConflictCount m) (min n 4294967295 : Nat)
  if n < 4294967295 ∨ (s.oN Obj.memConflictSaturated).testBit m then t
  else (t.put Obj.memConflictSaturated (setBit (s.oN Obj.memConflictSaturated) m : Nat)).note FC.memConflictsat m

/-- The five fabric cycles of a tick. How many of them a master waits is the fabric's traffic, which the spec gives no more of: the tick
brings the number (R30, log 69). -/
def State.fabricTick (s : State) : State :=
  s.forAll (List.range 20) (fun m t =>
    let w := (Config.inputWord 710 m s.tick).toNat % 6
    if w = 0 then t else t.masterWaits m w)

/-- MEM_CONFLICTSAT: a conflict counter saturates (R546). -/
def execMemConflictsat (master : Fin 20) (s : State) : Host.Outcome State Fault Refusal :=
  .next (if ¬ s.plat.mainOn then s else s.masterWaits master.val 4294967295)

/-! ## Leave -/

/-- What a grant sets going: a gate pair's start, a law's slot, a journal slot's write (R145, R202, R407). -/
def State.onGrant (op : LeaveOp) (s : State) : State :=
  match op with
  | .gatePair n => s.pairGranted n.val
  | .law n => s.slotGranted n.val
  | .journalSlot => (s.mtrJournal false).leaveBack .journalSlot
  | _ => s

/-- The arbiter runs with the dictionary (R51). -/
def State.leaveOn (s : State) : Bool := s.up

/-- LEAVE_REQUEST. -/
def execLeaveRequest (op : LeaveOp) (s : State) : Host.Outcome State Fault Refusal :=
  .next (
    if ¬ s.leaveOn then s
    else
      let r := s.leaveAsk op
      if r.2 then r.1.onGrant op else r.1)

/-- LEAVE_SAFETY_REQUEST: a request that is not of class Safety asks as any other. -/
def execLeaveSafetyRequest (op : LeaveOp) (s : State) : Host.Outcome State Fault Refusal :=
  .next (
    if ¬ s.leaveOn then s
    else
      let r := s.leaveAsk op
      if r.2 then r.1.onGrant op else r.1)

/-- LEAVE_GRANT: the waiting request that the arbiter serves next is granted when it fits (R552). -/
def execLeaveGrant (s : State) : Host.Outcome State Fault Refusal :=
  .next (
    if ¬ s.leaveOn then s
    else match s.leaveNext with
      | some e =>
        if leaveClass e.op = 0 ∨ s.leaveFits e.op then
          (({ s with leave := { s.leave with waiting := s.leave.waiting.erase e } }).leaveHold e.op).onGrant e.op
        else s
      | none => s)

/-- LEAVE_RETURN: an operation ends, or withdraws its request. -/
def execLeaveReturn (op : LeaveOp) (s : State) : Host.Outcome State Fault Refusal := .next (if s.leaveOn then s.leaveBack op else s)

/-- LEAVE_WAIT: a request has waited LeaveWaitWarn; it warns once. -/
def execLeaveWait (op : LeaveOp) (s : State) : Host.Outcome State Fault Refusal :=
  .next (
    if s.leaveOn ∧ s.leave.waiting.any (fun e => e.op == op && !e.warned) then
      let w := s.leave.waiting.map (fun (e : LeaveEntry) => if e.op == op then { e with warned := true } else e)
      (({ s with leave := { s.leave with waiting := w } }).note FC.leaveWait (leaveClass op)).log 10 0 (leaveClass op) 0 0
    else s)

/-! ## Health monitors -/

/-- The monitors run with the main domain (R560). -/
def State.monitorsOn (s : State) : Bool := s.plat.mainOn && s.mode != 1

/-- The median of the other sensors' temperatures. -/
def othersMedian (ts : List Rat) (n : Nat) : Rat := ((ts.eraseIdx n).insertionSort (fun a b => a ≤ b)).getD 3 0

/-- The state that a temperature gives, left only below its threshold by the hysteresis (R557). -/
def State.tsLevel (s : State) (old : Nat) (t : Rat) : Nat :=
  let w := s.oF Obj.hmTempWarn
  let k := s.oF Obj.hmTempCritical
  let h := s.oF Obj.hmTempHysteresis
  if k < t ∨ (old = 3 ∧ k - h ≤ t) then 3
  else if w < t ∨ ((old = 2 ∨ old = 3) ∧ w - h ≤ t) then 2
  else 1

/-- One sensor's state. -/
def State.tsJudge (ts : List Rat) (n : Nat) (s : State) : State :=
  let t := ts.getD n 0
  let far := 15 < |t - othersMedian ts n|
  let run := if far then s.hm.disagree.getD n 0 + 1 else 0
  let s := { s with hm := { s.hm with disagree := s.hm.disagree.set n run } }
  let old := s.oN (Obj.tsState n)
  let new := if 100 ≤ run then 4 else s.tsLevel old t
  let s := if s.oF (Obj.tsPeak n) < t then s.putF (Obj.tsPeak n) t else s
  let s := s.put (Obj.tsState n) new
  let s := if 2 ≤ new ∧ new ≤ 3 ∧ ¬ (2 ≤ old ∧ old ≤ 3) then s.incSat (Obj.tsWarnCount n) else s
  let s := if new ≠ old then s.log 12 0 n old new else s
  if new = 4 ∧ old ≠ 4 then s.note FC.hmTempsensor n else s

/-- The valid sensor that reads hottest. -/
def State.hottestTs (s : State) (ts : List Rat) : Option Nat :=
  (List.range 8).foldl (fun best n =>
    if s.oN (Obj.tsState n) = 4 then best
    else match best with
      | none => some n
      | some b => if ts.getD b 0 < ts.getD n 0 then some n else best) none

/-- TEMPERATURE_SAMPLE (R554, R557): the raw readings of TS0 to TS7. -/
def State.temperatures (raw : Nat → Nat) (s : State) : State :=
  let ts := (List.range 8).map (fun n => F32.toRat (raw n) * s.oF (Obj.calTsGain n) + s.oF (Obj.calTsOffset n))
  let olds := (List.range 8).map (fun n => s.oN (Obj.tsState n))
  let s := s.forAll (List.range 8) (fun n t => (t.putF (Obj.tsTemperature n) (ts.getD n 0)).tsJudge ts n)
  match s.hottestTs ts with
  | none => s
  | some h =>
    let st := s.oN (Obj.tsState h)
    let was := olds.foldl (fun m x => if x ≤ 3 then max m x else m) 0
    let s := s.put Obj.leaveEffectiveCeiling (s.effectiveCeiling (ts.getD h 0))
    let s := if 2 ≤ st ∧ was < 2 then s.raise FC.hmTemphigh h else s
    if st = 3 ∧ was < 3 then s.raise FC.hmTempcrit h else s

/-- TEMPERATURE_SAMPLE. -/
def execTemperatureSample (raw : Vector (BitVec 32) 8) (s : State) : Host.Outcome State Fault Refusal :=
  .next (if s.monitorsOn then s.temperatures (fun n => (raw.toList.getD n 0).toNat) else s)

/-- Nominal value and fault limits of a supply monitor, V (R558). -/
def supplyLimits (v : Nat) : Rat × Rat × Rat :=
  if v ≤ 3 ∨ v = 10 then (mkRat 80 100, mkRat 74 100, mkRat 88 100)
  else if v = 4 then (mkRat 90 100, mkRat 83 100, mkRat 99 100)
  else if v = 5 then (mkRat 180 100, mkRat 167 100, mkRat 198 100)
  else if v ≤ 8 then (mkRat 330 100, 3, mkRat 363 100)
  else if v = 9 then (mkRat 120 100, mkRat 110 100, mkRat 130 100)
  else (mkRat 120 100, mkRat 118 100, mkRat 122 100)

/-- One more of a run, or none. -/
def runOf (b : Bool) (n : Nat) : Nat := if b then n + 1 else 0

/-- The journal slot that the eMRAM write supply has held back is written now that the supply is normal (R558). -/
def State.slotRelease (s : State) : State :=
  if s.hm.slotDue then ({ s with hm := { s.hm with slotDue := false } }).journalDue else s

/-- What a supply's record shows of a sample: the voltage, the lowest and the highest since they were read. -/
def State.vmRecord (v : Nat) (q : Rat) (s : State) : State :=
  let s := s.putF (Obj.vmVoltage v) q
  let s := if q < s.oF (Obj.vmMin v) ∨ s.hm.minEmpty.getD v true then s.putF (Obj.vmMin v) q else s
  let s := { s with hm := { s.hm with minEmpty := s.hm.minEmpty.set v false } }
  if s.oF (Obj.vmMax v) < q then s.putF (Obj.vmMax v) q else s

/-- The runs of samples outside and inside the two bands of a supply (R558). -/
def State.vmRuns (v : Nat) (outW outF : Bool) (s : State) : State :=
  { s with hm := { s.hm with
    warn := s.hm.warn.set v (runOf outW (s.hm.warn.getD v 0)), fault := s.hm.fault.set v (runOf outF (s.hm.fault.getD v 0))
    inWarn := s.hm.inWarn.set v (runOf (!outW) (s.hm.inWarn.getD v 0)), inFault := s.hm.inFault.set v (runOf (!outF) (s.hm.inFault.getD v 0)) } }

/-- VmState after a sample (R558): eight in a row enter or leave a state. -/
def vmLevel (x : HmX) (v old : Nat) : Nat :=
  if 8 ≤ x.fault.getD v 0 then 2
  else if old = 2 then (if x.inFault.getD v 0 < 8 then 2 else if 8 ≤ x.inWarn.getD v 0 then 0 else 1)
  else if 8 ≤ x.warn.getD v 0 then 1
  else if old = 1 ∧ 8 ≤ x.inWarn.getD v 0 then 0
  else old

/-- VmState changes: logged, the eMRAM write supply's held slot released, and a fault or warning entered raised; XG ports go down with
their supply (R558). -/
def State.vmMove (v old new : Nat) (s : State) : State :=
  let s := s.put (Obj.vmState v) new
  let s := if new ≠ old then s.log 12 0 v old new else s
  let s := if v = 9 ∧ new ≠ 2 then s.slotRelease else s
  if new = 2 ∧ old ≠ 2 then
    let s := (s.incSat (Obj.vmFaultCount v)).raise FC.hmVoltfault v
    if v = 4 then (s.xgDown 0 false).xgDown 1 false else s
  else if new = 1 ∧ old = 0 then s.note FC.hmVoltwarn v
  else s

/-- One supply's sample (R558). -/
def State.vmJudge (v : Nat) (q : Rat) (s : State) : State :=
  let l := supplyLimits v
  let s := (s.vmRuns v (decide (l.1 * s.oF Obj.hmVoltWarn / 100 < |q - l.1|)) (decide (q < l.2.1 ∨ l.2.2 < q))).vmRecord v q
  let old := s.oN (Obj.vmState v)
  s.vmMove v old (vmLevel s.hm v old)

/-- VOLTAGE_SAMPLE: VM0 to VM11 as F32 words. -/
def execVoltageSample (volts : Vector (BitVec 32) 12) (s : State) : Host.Outcome State Fault Refusal :=
  .next (if s.monitorsOn then s.forAll (List.range 12) (fun v => State.vmJudge v (F32.toRat (volts.toList.getD v 0).toNat)) else s)

/-- One ring oscillator's measurement, MHz (R559): its drift in per cent, raised on leaving the limit. -/
def State.pmJudge (p : Nat) (f : Rat) (s : State) : State :=
  let f0 := s.oF (Obj.pmFactory p)
  let d := if f0 = 0 then 0 else max (-100) (min 100 ((f - f0) / f0 * 100))
  let was := decide (s.oF Obj.hmDriftLimit < |s.oF (Obj.pmDrift p)|)
  let s := (s.putF (Obj.pmFrequency p) f).putF (Obj.pmDrift p) d
  if s.oF Obj.hmDriftLimit < |d| ∧ ¬ was then s.note FC.hmProcess p else s

/-- PROCESS_MONITOR_SAMPLE: PM0 to PM3, MHz, as F32 words. -/
def execProcessMonitorSample (freq : Vector (BitVec 32) 4) (s : State) : Host.Outcome State Fault Refusal :=
  .next (if s.monitorsOn then s.forAll (List.range 4) (fun p => State.pmJudge p (F32.toRat (freq.toList.getD p 0).toNat)) else s)

end Sys2Proof.Machine
end

