-- ==== Sys2Proof/Machine/Station.lean ====
section
/-! DEFINITION. Station power (R367 to R376). -/

namespace Sys2Proof.Machine

def State.stMod (f : StX → StX) (s : State) : State := { s with st := f s.st }

/-- The power function may act: a station, enabled, M2 to M10. -/
def State.stOn (s : State) : Bool := s.engOn && s.station && s.cN Obj.stEnable == 1

/-- The groups of the front end, of a stage and of the chopper. -/
def State.feGroups (s : State) : List Nat :=
  hbGroups.filter (fun g => (s.groupChannels g).any (fun n => (s.cN Obj.stFeChannels).testBit n))
def State.stageGroup (s : State) (k : Nat) : List Nat := ((s.dabChannels k).head?.bind s.groupOfHb).toList
def State.chopGroup (s : State) : List Nat :=
  if s.cN Obj.stChopperChannel < 24 then (s.groupOfHb (s.cN Obj.stChopperChannel)).toList else []

/-- A group at pulse-off at once. -/
def State.stopAtOnce (g : Nat) (s : State) : State := (s.groupOff g).put (Obj.groupRunRequest g) 2

/-! ## Stages (R372) -/

/-- The stages configured, and those that may run. -/
def State.stagesAll (s : State) : List Nat := (List.range 4).filter (fun k => !(s.dabChannels k).isEmpty)
def State.stagesOk (s : State) : List Nat := s.stagesAll.filter (fun k => !(s.oN Obj.stStageLost).testBit k)
def State.stagesOn (s : State) : List Nat := s.stagesAll.filter (fun k => (s.oN Obj.stStagesRunning).testBit k)

/-- The smallest n with n × StStagePower × 0.9 at or above the power, at least 1. -/
def State.stagesFor (s : State) (kw : Rat) : Nat := max 1 (|kw| / (s.cF Obj.stStagePower * 9 / 10)).ceil.toNat

/-- A stage joins: duty 0.5 on its channels, its group runs, and its phase rises from now on (R367). -/
def State.stageJoin (k : Nat) (s : State) : State :=
  let s := s.forAll (s.dabChannels k) (fun n => State.put (Obj.hbShadowDuty n) 8388608)
  let s := s.forAll (s.stageGroup k) (fun g t => (t.commit g).put (Obj.groupRunRequest g) 1)
  let t := s.tick
  (s.put Obj.stStagesRunning (setBit (s.oN Obj.stStagesRunning) k)).stMod (fun x => { x with joined := x.joined.set k t })

/-- A stage leaves, at its next period start or at once. -/
def State.stageLeave (atOnce : Bool) (k : Nat) (s : State) : State :=
  let s := s.forAll (s.stageGroup k) (fun g t => if atOnce then t.stopAtOnce g else t.put (Obj.groupRunRequest g) 0)
  s.put Obj.stStagesRunning (clearBit (s.oN Obj.stStagesRunning) k)

/-- Stages join until the power has its number of them. -/
def State.stagesUp (s : State) : State :=
  let n := s.stagesFor (s.oF Obj.stOutputPower)
  let on := s.stagesOn
  s.forAll ((s.stagesOk.filter (fun k => !on.contains k)).take (n - on.length)) State.stageJoin

/-- The share of a stage's phase that is in force while it rises from 0 over 1 ms. -/
def State.stageRise (s : State) (k : Nat) : Rat := min 1 (mkRat ((s.tick - s.st.joined.getD k 0 : Nat) : Int) 80000)

/-- At a load of a stage's group: the phase of A + 2 and A + 3 limited to a quarter period, and rising (R367, R372). -/
def State.stagePhase (g : Nat) (s : State) : State :=
  match s.stagesOn.find? (fun k => (s.stageGroup k).contains g) with
  | none => s
  | some k =>
    let r := s.stageRise k
    let ks := ((s.dabChannels k).drop 2).map Obj.hbShadowPhase
    s.grpMod g (fun x => { x with loaded := x.loaded.map (fun p => if ks.contains p.1 then
      (p.1, F32.roundEven ((max (-1073741824) (min 1073741824 (toSigned 32 (toUnsigned 32 p.2))) : Int) * r)) else p) })

/-! ## The sequence (R369) -/

/-- Entry into M7: pre-charge begins. -/
def State.stEnter (s : State) : State :=
  if s.stOn then
    let s := ((s.put Obj.stState 1).put Obj.stTripCause 0).put Obj.stStageLost 0
    let s := (s.putF Obj.stAvailablePower ((s.stagesAll.length : Nat) * s.cF Obj.stStagePower)).stMod (fun x => { trips := x.trips })
    s.soRequest (s.cN Obj.stPrechargeOutput)
  else s

/-- Both outputs de-energised. -/
def State.stOpen (s : State) : State := (s.soRelease (s.cN Obj.stGridContactor)).soRelease (s.cN Obj.stPrechargeOutput)

/-- The link has reached StPrechargeLevel of the peak of the mean line voltage (R369). -/
def State.stPrecharged (link line : Nat) (s : State) : State :=
  if s.stOn ∧ s.oN Obj.stState = 1 ∧ s.cF Obj.stPrechargeLevel / 100 * sqrt2 * F32.toRat line ≤ F32.toRat link then
    (s.soRequest (s.cN Obj.stGridContactor)).put Obj.stState 2
  else s

/-- STATION_PRECHARGE_REACHED. -/
def execStationPrechargeReached (link line : BitVec 32) (s : State) : Host.Outcome State Fault Refusal := .next (s.stPrecharged link.toNat line.toNat)

/-- STN_PRECHARGE. -/
def execStnPrecharge (s : State) : Host.Outcome State Fault Refusal :=
  .next (if s.stOn ∧ s.oN Obj.stState = 1 then (s.stOpen.put Obj.stState 7).raise FC.stnPrecharge 0 else s)

/-- PRECHARGE_OUTPUT_RELEASE: whether the grid contactor's readback has confirmed it; one that disagrees raises
STN_CONTACTOR. -/
def execPrechargeOutputRelease (ok : Bool) (s : State) : Host.Outcome State Fault Refusal :=
  .next (if s.stOn ∧ 2 ≤ s.oN Obj.stState ∧ s.oN Obj.stState ≤ 4 then
    (if ok then s.soRelease (s.cN Obj.stPrechargeOutput) else s.raise FC.stnContactor 0)
  else s)

/-- The lines' voltage and the frequency lie within the reconnect window (R371). -/
def State.stInWindow (s : State) (line : Nat) : Bool := s.inWindow stKeys (s.cN Obj.stFeTimebase) [F32.toRat line]

/-- The timebase is locked and the window held: the front end runs, and its target slews from the link voltage (R369). -/
def State.feSync (volts line : Nat) (s : State) : State :=
  if s.stOn ∧ s.oN Obj.stState = 2 ∧ s.oN (Obj.tbLockState (s.cN Obj.stFeTimebase)) = 2 ∧ s.stInWindow line then
    let s := s.forAll s.feGroups (fun g => State.put (Obj.groupRunRequest g) 1)
    let t := s.tick
    (s.put Obj.stState 3).stMod (fun x => { x with base := volts, baseTick := t, x := 0 })
  else s

/-- FRONT_END_SYNCHRONISED. -/
def execFrontEndSynchronised (volts line : BitVec 32) (s : State) : Host.Outcome State Fault Refusal := .next (s.feSync volts.toNat line.toNat)

/-- POST_OUTPUT_REQUEST. -/
def execPostOutputRequest (s : State) : Host.Outcome State Fault Refusal :=
  .next (if s.stOn ∧ s.oN Obj.stState = 3 then (s.put Obj.stState 4).stagesUp else s)

/-- NO_OUTPUT_TIMEOUT. -/
def execNoOutputTimeout (s : State) : Host.Outcome State Fault Refusal :=
  .next (if s.stOn ∧ s.oN Obj.stState = 4 then (s.put Obj.stState 3).forAll s.stagesOn (State.stageLeave false) else s)

/-- A request for M2: the references ramp to 0 over ModeExitRamp. -/
def State.stDown (s : State) : State :=
  if 2 ≤ s.oN Obj.stState ∧ s.oN Obj.stState ≤ 6 then
    let p := s.st.pRef
    let t := s.tick
    (s.put Obj.stState 5).stMod (fun x => { x with down := some (p, t) })
  else s

/-- The end of that ramp: groups at pulse-off, outputs de-energised, stopped. -/
def State.stEnd (s : State) : State :=
  if s.oN Obj.stState = 0 then s
  else
    let s := s.forAll (s.feGroups ++ s.stagesAll.flatMap s.stageGroup ++ s.chopGroup) State.stopAtOnce
    ((s.stOpen.put Obj.stStagesRunning 0).put Obj.stState 0).stMod (fun x => { x with x := 0, pRef := 0, down := none, chopper := false })

/-! ## Trips (R371) -/

/-- Trips that began within StTripWindow. -/
def State.stTripsNow (s : State) : List Nat := s.st.trips.filter (fun t => s.mono < t + s.cN Obj.stTripWindow * 60000000000)

/-- A front-end trip: R301 on the grid contactor, the stages at pulse-off, the post's contactors kept closed. -/
def State.stTrip (cause : Nat) (s : State) : State :=
  if ¬ s.stOn ∨ ¬ (s.oN Obj.stState = 3 ∨ s.oN Obj.stState = 4) then s
  else if cause = 0 ∨ 9 < cause ∨ (cause = 7 ∧ ¬ F32.toRat s.st.pRef < 0) then s
  else
    let trips := s.stTripsNow ++ [s.mono]
    let s := (s.forAll s.feGroups State.stopAtOnce).forAll s.stagesOn (State.stageLeave true)
    let s := ((s.soRelease (s.cN Obj.stGridContactor)).put Obj.stState 6).put Obj.stTripCause cause
    let s := (s.incSat Obj.stTripCount).stMod (fun x => { x with trips := trips, x := 0, pRef := 0 })
    if s.cN Obj.stTripMax ≤ trips.length then (s.stOpen.stMod (fun x => { x with latched := true, trips := [] })).raise FC.stnTriplatch 0
    else s.raise FC.stnGridtrip 0

/-- STN_GRIDTRIP, with the cause's code of R300. -/
def execStnGridtrip (cause : BitVec 4) (s : State) : Host.Outcome State Fault Refusal := .next (s.stTrip cause.toNat).postStep

/-- One millisecond of the front end's grid supervision (R300, R371). -/
def State.stGridTick (s : State) : State :=
  if ¬ s.stOn ∨ ¬ [2, 3, 4, 6].contains (s.oN Obj.stState) then s
  else
    let tb := s.cN Obj.stFeTimebase
    let x := s.gridNext stKeys tb (((List.range 24).filter (fun n => (s.cN Obj.stFeChannels).testBit n)).take 3) s.st.grid
    let c := s.gridCause stKeys tb (decide (F32.toRat s.st.pRef < 0)) x
    let s := (s.stMod (fun y => { y with grid := x })).tbMod tb (fun y => { y with jump := 0 })
    match c with
    | some c => (s.stTrip c).postStep
    | none => s

/-- The reconnection delay has passed: the grid contactor closes again, and the front end synchronises (R301, R369). -/
def State.stReconnect (line : Nat) (s : State) : State :=
  if s.stOn ∧ s.oN Obj.stState = 6 ∧ ¬ s.st.latched ∧ s.stInWindow line then (s.soRequest (s.cN Obj.stGridContactor)).put Obj.stState 2 else s

/-- STATION_RECONNECT. -/
def execStationReconnect (line : BitVec 32) (s : State) : Host.Outcome State Fault Refusal := .next (s.stReconnect line.toNat)

/-- TRIP_HOLD_TIMEOUT: the post ends the session (R371). -/
def execTripHoldTimeout (s : State) : Host.Outcome State Fault Refusal :=
  .next (if s.stOn ∧ (s.oN Obj.stState = 2 ∨ s.oN Obj.stState = 6) then s.postStop 3 else s)

/-! ## Link regulation (R370, R374) -/

/-- V_s. -/
def State.linkTarget (s : State) : Rat :=
  let b := F32.toRat s.st.base
  let t := s.cF Obj.stLinkTarget
  let d := s.cF Obj.stLinkRamp * ((s.tick - s.st.baseTick : Nat) : Rat) / 80000000
  if b ≤ t then min t (b + d) else max t (b - d)

/-- The lowest P_ref, W: what may be exported. -/
def State.exportWatts (s : State) : Rat :=
  let ch := s.cN Obj.stChopperChannel
  let ready := ch < 24 ∧ s.oN (Obj.hbProtState ch) ≠ 4
  let lease := if s.cN Obj.monClientEnable = 1 then max 0 (-s.clientLimit) else s.cF Obj.stExportMax
  if ready then min (s.cF Obj.stExportMax) lease * 1000 else 0

/-- StLimiter: front end, stages, export, chopper absent. -/
def State.stLimits (s : State) (p : Rat) : Nat :=
  let fe := s.cF Obj.stFePowerMax * 1000
  let ch := s.cN Obj.stChopperChannel
  (if fe < |p| then 1 else 0) + (if s.oF Obj.stAvailablePower < |s.oF Obj.stOutputPower| then 2 else 0) + (if p < -s.exportWatts then 4 else 0) +
    (if p < 0 ∧ ¬ (ch < 24 ∧ s.oN (Obj.hbProtState ch) ≠ 4) then 8 else 0)

/-- P_ref of one step from the link's voltage and the stages' power (kW); x holds while a limit applies. -/
def State.regulate (v stages : Rat) (s : State) : State :=
  let e := s.linkTarget - v
  let bw := s.cF Obj.stLinkBandwidth
  let kp := s.cF Obj.stLinkCapacitance / 1000 * (2 * F32.pi * bw) * v
  let x := F32.toRat s.st.x + kp * (2 * F32.pi * bw / 4) * e / 10000
  let p := stages * 1000 + kp * e + x
  let fe := s.cF Obj.stFePowerMax * 1000
  let q := max (-(min fe s.exportWatts)) (min fe p)
  let x' := if q = p then F32.ofRat x else s.st.x
  (s.put Obj.stLimiter (s.stLimits p : Nat)).stMod (fun y => { y with x := x', pRef := F32.ofRat q })

/-- One step of the power block, every 100 µs: link voltage, the stages' output power and the grid power. -/
def State.stStep (link stages grid : Nat) (s : State) : State :=
  if ¬ s.stOn ∨ s.oN Obj.stState = 0 then s
  else
    let s := ((s.put Obj.stLinkVoltage link).put Obj.stGridPower grid).putF Obj.stOutputPower s.postPower
    let s := match s.oN Obj.stState with
      | 3 => s.regulate (F32.toRat link) (F32.toRat stages)
      | 4 => (s.regulate (F32.toRat link) (F32.toRat stages)).stagesUp
      | 5 =>
        match s.st.down with
        | some (p, t) =>
          let q := F32.ofRat (s.along (F32.toRat p) 0 t (s.oN Obj.modeExitRamp))
          s.stMod (fun x => { x with pRef := q })
        | none => s
      | _ => s
    s.postStep

/-- LINK_REGULATION. -/
def execLinkRegulation (link stages grid : BitVec 32) (s : State) : Host.Outcome State Fault Refusal :=
  .next (s.stStep link.toNat stages.toNat grid.toNat)

/-- The words of a slot's snapshot that the power block writes: P_ref and 0 for the front end, I_post / n and the voltage
limit for a running stage (R370, R372). -/
def State.stWords (n : Nat) (s : State) : State :=
  if ¬ s.stOn then s
  else if s.cN Obj.stFeSlot = n then
    let ws : List (Nat × Nat) := [(0x170, s.st.pRef), (0x171, 0)]
    s.slotMod n (fun x => { x with words := ws })
  else
    match (List.range 4).find? (fun k => byteOf (s.cN Obj.stDabSlots) k == n) with
    | none => s
    | some k =>
      let m := s.stagesOn.length
      let i := if s.stagesOn.contains k ∧ m ≠ 0 then F32.ofRat (F32.toRat s.post.ref / (m : Rat)) else 0
      let v := F32.ofRat (min (F32.toRat s.post.test) (s.cF Obj.lkRatedVoltage))
      let ws : List (Nat × Nat) := [(0x170, i), (0x171, v)]
      s.slotMod n (fun x => { x with words := ws })

/-- The output power has stayed below (n − 1) × StStagePower × 0.75: the last of the running stages leaves; one stays (R372). -/
def State.stageRemove (s : State) : State :=
  if s.stOn ∧ s.oN Obj.stState = 4 ∧ 1 < s.stagesOn.length ∧
      |s.oF Obj.stOutputPower| < ((s.stagesOn.length - 1 : Nat) : Rat) * s.cF Obj.stStagePower * 3 / 4 then
    match s.stagesOn.getLast? with
    | some k => s.stageLeave false k
    | none => s
  else s

/-- STAGE_REMOVE_TIMEOUT. -/
def execStageRemoveTimeout (s : State) : Host.Outcome State Fault Refusal := .next s.stageRemove

/-- A stage's output current differs from the mean of the running ones by more than 10 %. -/
def State.stageApart (s : State) (k : Nat) (amps : Nat → Rat) : Bool :=
  let m := ratMean (s.stagesOn.map amps)
  decide (|m| / 10 < |amps k - m|)

/-- A stage is lost: stopped, named and taken off the available power; the excess of the lease is released (R372,
R395). -/
def State.stageFault (k : Nat) (amps : Nat → Rat) (s : State) : State :=
  if s.stOn ∧ s.stagesOn.contains k ∧ s.stageApart k amps then
    let s := (s.stageLeave true k).put Obj.stStageLost (setBit (s.oN Obj.stStageLost) k)
    let a := max 0 (s.oF Obj.stAvailablePower - s.cF Obj.stStagePower)
    (((s.putF Obj.stAvailablePower a).raise FC.stnStage k).monExcess a).postStep
  else s

/-- STN_STAGE. -/
def execStnStage (stage : Fin 4) (amps : Vector (BitVec 32) 4) (s : State) : Host.Outcome State Fault Refusal :=
  .next (s.stageFault stage.val (fun k => F32.toRat (amps.toList.getD k 0).toNat))

/-- A reset of class 0x01 on a lost stage's group gives it back (R372). -/
def State.stageReset (g : Nat) (s : State) : State :=
  match s.stagesAll.find? (fun k => (s.oN Obj.stStageLost).testBit k && (s.stageGroup k).contains g) with
  | none => s
  | some k => (s.put Obj.stStageLost (clearBit (s.oN Obj.stStageLost) k)).putF Obj.stAvailablePower (s.oF Obj.stAvailablePower + s.cF Obj.stStagePower)

/-! ## The chopper (R373) -/

/-- The link's voltage above StLinkOv3 for 1 µs (R373). -/
def State.stLinkHigh (v : Rat) (s : State) : State :=
  if s.stOn ∧ s.oN Obj.stState ≠ 0 ∧ s.cF Obj.stLinkOv3 < v ∧ ¬ s.isSet FC.stnLinkov 0 then s.raise FC.stnLinkov 0 else s

/-- STN_LINKOV, with the link voltage. -/
def execStnLinkov (volts : BitVec 32) (s : State) : Host.Outcome State Fault Refusal :=
  .next ((s.put Obj.stLinkVoltage volts.toNat).stLinkHigh (F32.toRat volts.toNat))

/-- The chopper's group is to run, or to stop. -/
def State.stChop (run : Bool) (s : State) : State :=
  (s.forAll s.chopGroup (fun g => State.put (Obj.groupRunRequest g) (if run then 1 else 0))).stMod (fun x => { x with chopper := run })

/-- Above StLinkOv2 the chopper runs, below it by 10 V it stops (R373). -/
def State.stChopJudge (v : Rat) (s : State) : State :=
  if ¬ s.stOn then s
  else if ¬ s.st.chopper ∧ s.cF Obj.stLinkOv2 < v then s.stChop true
  else if s.st.chopper ∧ v < s.cF Obj.stLinkOv2 - 10 then s.stChop false
  else s

/-- STATION_CHOPPER_RUN, with the link voltage. -/
def execStationChopperRun (volts : BitVec 32) (s : State) : Host.Outcome State Fault Refusal :=
  .next (if s.stOn ∧ s.cF Obj.stLinkOv2 < F32.toRat volts.toNat then (s.put Obj.stLinkVoltage volts.toNat).stChop true else s)

/-- STATION_CHOPPER_STOP, with the link voltage. -/
def execStationChopperStop (volts : BitVec 32) (s : State) : Host.Outcome State Fault Refusal :=
  .next (if s.stOn ∧ F32.toRat volts.toNat < s.cF Obj.stLinkOv2 - 10 then (s.put Obj.stLinkVoltage volts.toNat).stChop false else s)

/-- A conversion of the station's link (R373). -/
def State.stLinkJudge (n : Nat) (s : State) : State :=
  if ¬ s.stOn ∨ s.cN Obj.stLinkInput ≠ n then s
  else
    let s := s.stChopJudge (s.oF (Obj.vdcValue n))
    let ws := (s.vdcx n).recent
    if ws.length = 10 then s.stLinkHigh ((ws.map F32.toRat).foldl min (s.oF (Obj.vdcValue n))) else s

/-- The chopper's duty at a period start of its group, committed. -/
def State.stChopperDuty (g : Nat) (s : State) : State :=
  if s.stOn && s.st.chopper && s.chopGroup.contains g then
    let a := s.cF Obj.stLinkOv2
    let v := s.oF (Obj.vdcValue (s.cN Obj.stLinkInput))
    let d := max 0 (min 1 ((v - a) * 2 / (s.cF Obj.stLinkOv3 - a)))
    (s.put (Obj.hbShadowDuty (s.cN Obj.stChopperChannel)) (F32.roundEven (d * 16777216))).commitNow g
  else s

/-- A protection event on the chopper (R373). -/
def State.stChopperEvent (n : Nat) (s : State) : State :=
  if s.stOn ∧ s.cN Obj.stChopperChannel = n then s.raise FC.stnChopper 0 else s

end Sys2Proof.Machine
end

