-- ==== Sys2Proof/Machine/Cooling.lean ====
section
/-! DEFINITION. Cable cooling (R377 to R383). -/

namespace Sys2Proof.Machine

def State.ccMod (f : CcX → CcX) (s : State) : State := { s with cc := f s.cc }

/-- The cooling function runs: a station with SEAL6, enabled, in M7 or M8. -/
def State.ccOn (s : State) : Bool :=
  s.engOn && s.station && s.sealPin 6 && s.cN Obj.ccEnable == 1 && (s.mode == 7 || s.mode == 8)

/-- The pump's groups. -/
def State.pumpGroups (s : State) : List Nat :=
  lvGroups.filter (fun g => (s.groupChannels g).any (fun n => (s.obsChannels 8).contains n))

/-- Entry into M7: the pump law runs. -/
def State.ccEnter (s : State) : State :=
  if s.ccOn then
    let s := s.forAll s.pumpGroups (fun g => State.put (Obj.groupRunRequest g) 1)
    ((s.put Obj.ccState 1).put Obj.ccPumpRestarts 0).ccMod (fun x => { x with speed := 0 })
  else s

/-- The pump stops, with a state. -/
def State.pumpStop (st : Nat) (s : State) : State :=
  ((s.forAll s.pumpGroups State.stopAtOnce).put Obj.ccState st).ccMod (fun x => { x with speed := 0 })

/-- The end of M7. -/
def State.ccEnd (s : State) : State := if s.oN Obj.ccState = 0 then s else s.pumpStop 0

/-! ## Sensors (R377) -/

/-- An input is lost: in state 2. -/
def State.ainLost (s : State) (n : Nat) : Bool := n < 16 && s.oN (Obj.ainState n) == 2

/-- An input's value, or its substitute where it is lost or not there. -/
def State.ainOr (s : State) (n : Nat) (sub : Rat) : Rat := if 16 ≤ n ∨ s.ainLost n then sub else s.oF (Obj.ainValue n)

/-- The contact inputs of a conductor. -/
def State.contacts (s : State) (c : Nat) : List Nat :=
  ([2 * c, 2 * c + 1].map (byteOf (s.cN Obj.ccContactTempInputs))).filter (· < 16)

def State.ccSupply (s : State) : Rat := s.ainOr (s.cN Obj.ccSupplyTempInput) (s.cF Obj.ccCoolantMax)
def State.ccReturn (s : State) : Rat := s.ainOr (s.cN Obj.ccReturnTempInput) (s.cF Obj.ccCoolantMax)

/-- Flow as the model takes it: 0 while the pump is stopped (R378). -/
def State.ccFlowNow (s : State) : Rat :=
  if s.oN Obj.ccState = 1 ∨ s.oN Obj.ccState = 2 then s.ainOr (s.cN Obj.ccFlowInput) 0 else 0

/-- The inputs that cooling takes. -/
def State.ccInputs (s : State) : List Nat :=
  [s.cN Obj.ccSupplyTempInput, s.cN Obj.ccReturnTempInput, s.cN Obj.ccFlowInput] ++ s.contacts 0 ++ s.contacts 1

/-- CC_SENSOR where an input is lost. -/
def State.ccSensors (s : State) : State :=
  if s.ccInputs.any s.ainLost ∧ ¬ s.isSet FC.ccSensor 0 then s.raise FC.ccSensor 0 else s

/-! ## The conductor model (R379, R380) -/

/-- G_w. -/
def State.ccGw (s : State) : Rat :=
  let q := s.ccFlowNow / s.cF Obj.ccFlowNominal
  s.cF Obj.ccCouplingStill + s.cF Obj.ccCouplingFlow * (if q ≤ 0 then 0 else Config.rpow q (mkRat 4 5))

/-- The coolant temperature at a node, 0 to 2. -/
def State.ccTw (s : State) (j : Nat) : Rat :=
  match j with
  | 0 => s.ccSupply
  | 1 => (s.ccSupply + s.ccReturn) / 2
  | _ => s.ccReturn

/-- The resistance of a node at a temperature, Ω. -/
def State.ccR (s : State) (t : Rat) : Rat := s.cF Obj.ccNodeResistance / 1000 * (1 + mkRat 393 100000 * (t - 20))

/-- A node's temperature 10 ms later, among its conductor's three. -/
def State.nodeStep (s : State) (amps : Rat) (ts : List Rat) (j : Nat) : Rat :=
  let t := ts.getD j 0
  let near := (if j = 1 then [ts.getD 0 0, ts.getD 2 0] else [ts.getD 1 0])
  let p := amps * amps * s.ccR t - s.ccGw * (t - s.ccTw j) - s.cF Obj.ccCouplingNode * (near.map (fun n => t - n)).sum
  t + p / s.cF Obj.ccNodeCapacitance / 100

/-- The measured temperatures that node 3 of a conductor takes. -/
def State.nodeSensors (s : State) (c : Nat) : List Rat :=
  (s.contacts c).map (fun n => s.ainOr n (s.cF Obj.ccConductorLimit - 10)) ++
  (if 3 ≤ s.oN Obj.tdState ∧ s.oN Obj.tdState ≤ 5 then
    match s.td.pin with
    | some w => [F32.toRat w]
    | none => []
  else [])

/-- One conductor's nodes 10 ms later. -/
def State.conductorStep (s : State) (amps : Rat) (c : Nat) (ts : List Rat) : List Rat :=
  let n := (List.range 3).map (s.nodeStep amps ts)
  [n.getD 0 0, n.getD 1 0, (s.nodeSensors c).foldl max (n.getD 2 0)]

/-- I_j of a node, and 0 where its numerator is at most 0 (R380). -/
def State.nodeLimit (s : State) (j : Nat) (t : Rat) : Rat :=
  let g := s.ccGw
  let e := Config.exp (-(s.cN Obj.ccLimitHorizon : Rat) * g / s.cF Obj.ccNodeCapacitance)
  let num := s.cF Obj.ccConductorLimit - s.ccTw j - (t - s.ccTw j) * e
  if num ≤ 0 then 0 else F32.toRat (F32.sqrtRat (g * num / (s.ccR t * (1 - e))))

/-- The place of the largest entry. -/
def hottest (l : List Rat) : Nat := (List.range l.length).foldl (fun b k => if l.getD b 0 < l.getD k 0 then k else b) 0

/-- CONDUCTOR_MODEL_STEP: nodes, hot spot, limit, and what follows a hot spot above its limit (R381). -/
def State.ccModel (s : State) : State :=
  if ¬ s.ccOn then s
  else
    let s := s.ccSensors
    let start := F32.ofRat s.ccSupply
    let ts := ((s.cc.nodes.getD (List.replicate 6 start)).map F32.toRat)
    let i := s.postAmps
    let n := s.conductorStep i 0 (ts.take 3) ++ s.conductorStep i 1 (ts.drop 3)
    let k := hottest n
    let hot := n.getD k 0
    let lims := (List.range 6).map (fun m => s.nodeLimit (m % 3) (n.getD m 0))
    let lim := lims.foldl min (lims.getD 0 0)
    let s := s.ccMod (fun x => { x with nodes := some (n.map F32.ofRat) })
    let s := (((s.putF Obj.ccHotSpot hot).put Obj.ccHotNode k).putF Obj.ccCurrentLimit lim).putF Obj.ccHotSpotPeak (max hot (s.oF Obj.ccHotSpotPeak))
    let s := ((s.putF Obj.ccFlow s.ccFlowNow).putF Obj.ccSupplyTemp s.ccSupply).putF Obj.ccReturnTemp s.ccReturn
    let s := if 1 ≤ s.oN Obj.tdState ∧ s.oN Obj.tdState ≤ 5 then (s.putF Obj.tdConductorTemp hot).putF Obj.tdThermalLimit lim else s
    let s := s.postLimit
    if s.cF Obj.ccConductorLimit + 5 < hot ∧ ¬ s.isSet FC.ccHotspot 0 then (s.postStop 5).raise FC.ccHotspot 0 else s

/-- CONDUCTOR_MODEL_STEP. -/
def execConductorModelStep (s : State) : Host.Outcome State Fault Refusal := .next s.ccModel

/-! ## The pump (R378) -/

/-- The flow that the pump is to reach, L/min. -/
def State.flowRef (s : State) : Rat :=
  s.cF Obj.ccFlowNominal * min 1 (mkRat 3 10 + mkRat 7 10 * |F32.toRat s.post.ref| / s.cF Obj.lkRatedCurrent)

/-- The speed reference for that flow: how speed gives flow is left open, its bound is not. -/
def State.pumpUpdate (s : State) : State :=
  if s.ccOn ∧ (s.oN Obj.ccState = 1 ∨ s.oN Obj.ccState = 2) then
    let v := max 0 (min (s.cF Obj.ccPumpSpeedMax) (Config.freeValue 1501 s.freeIx : Rat))
    let s := (s.fresh.ccMod (fun x => { x with speed := F32.ofRat v })).putF Obj.ccFlow s.ccFlowNow
    if s.oN Obj.ccState = 2 ∧ s.flowRef * s.cF Obj.ccFlowMin / 100 ≤ s.ccFlowNow then s.put Obj.ccState 1 else s
  else s

/-- PUMP_REFERENCE_UPDATE. -/
def execPumpReferenceUpdate (s : State) : Host.Outcome State Fault Refusal := .next s.pumpUpdate

/-- Flow has stayed below CcFlowMin of its reference for 2 s (R378). -/
def State.flowLow (s : State) : State :=
  if s.ccOn ∧ s.oN Obj.ccState = 1 ∧ s.ccFlowNow < s.flowRef * s.cF Obj.ccFlowMin / 100 then (s.put Obj.ccState 2).raise FC.ccFlow 0 else s

/-- CC_FLOW. -/
def execCcFlow (s : State) : Host.Outcome State Fault Refusal := .next s.flowLow

/-- The pressure lies outside its limits (R378). -/
def State.pressureOut (s : State) : Bool :=
  let n := s.cN Obj.ccPressureInput
  let p := s.oF (Obj.ainValue n)
  decide (n < 16) && (decide (p < s.cF Obj.ccPressureMin) || decide (s.cF Obj.ccPressureMax < p))

/-- It has lain there for 1 s: the pump stops. -/
def State.pressureFault (s : State) : State :=
  if s.ccOn ∧ (s.oN Obj.ccState = 1 ∨ s.oN Obj.ccState = 2) ∧ s.pressureOut then (s.pumpStop 4).raise FC.ccPressure 0 else s

/-- CC_PRESSURE. -/
def execCcPressure (s : State) : Host.Outcome State Fault Refusal := .next s.pressureFault

/-- The pump's rotor is locked: its group goes to pulse-off. -/
def State.pumpLocked (s : State) : State :=
  if s.ccOn ∧ (s.oN Obj.ccState = 1 ∨ s.oN Obj.ccState = 2) then s.pumpStop 3 else s

/-- PUMP_RESTART: at most three times in a session. -/
def execPumpRestart (s : State) : Host.Outcome State Fault Refusal :=
  .next (if s.ccOn ∧ s.oN Obj.ccState = 3 ∧ s.oN Obj.ccPumpRestarts < 3 then
    let s := s.forAll s.pumpGroups (fun g => State.put (Obj.groupRunRequest g) 1)
    (s.put Obj.ccState 1).put Obj.ccPumpRestarts ((s.oN Obj.ccPumpRestarts + 1 : Nat))
  else s)

end Sys2Proof.Machine
end

