-- ==== Sys2Proof/Machine/SwapCheck.lean ====
section
/-! DEFINITION. The consistency check of a swap (R83): the candidate configuration, and what chapters 4 to 13 refuse in it
with code 0x03. -/

namespace Sys2Proof.Machine

/-! ## Conflicts: the scopes whose selection makes one count, and the name that SwapConflict gives it -/

/-- An object that breaks a check. -/
abbrev Conflict := List Nat × Nat

/-- A check of one object: it belongs to the object's own scope. -/
def State.bad (v : State) (k : Nat) (b : Bool) : List Conflict := if b then [([v.keyScope k], k)] else []

/-- A check that more scopes than the object's own bring about. -/
def badIn (scopes : List Nat) (k : Nat) (b : Bool) : List Conflict := if b then [(scopes, k)] else []

/-- The conflicts for each number of a list. -/
def perInst (l : List Nat) (f : Nat → List Conflict) : List Conflict := l.flatMap f

/-- The signal slots in force that write a mailbox word of an engine in a range. -/
def State.mailboxSlots (v : State) (e lo hi : Nat) : List Nat :=
  v.slotsEnabled.filter (fun q =>
    let d := v.slotDesc q
    !sdTransmit d && sdMailbox d && sdTarget d / 64 % 8 == e && lo ≤ sdTarget d % 64 && sdTarget d % 64 ≤ hi)

/-- The group of a channel switches now. -/
def State.chanSwitches (s : State) (c : Nat) : Bool :=
  match s.groupOf c with
  | some g => s.switching g
  | none => false

/-! ## Timebases and event lists (R95, R98, R99, R104) -/

/-- The instances that a SAMPLE class has. -/
def sampleCount : Nat → Nat
  | 0 => 32
  | 1 => 24
  | 2 => 4
  | 3 => 16
  | 4 => 16
  | 5 => 16
  | 6 => 4
  | _ => 0

/-- An enabled entry keeps R98 and R99. -/
def entryOk (e : Nat) : Bool :=
  let t := evTarget e
  let a := evArgument e
  evDirection e != 0 && evCount e ≤ 256 &&
  match evAction e with
  | 1 => t ≤ 63
  | 2 => t ≤ 6 && a < 2 ^ sampleCount t
  | 3 => Isa.isGroup t && a == 0
  | 4 => (t < 24 || (32 ≤ t && t < 48)) && a / 2 ^ 20 % 2048 == 0
  | 5 => t == 0
  | _ => false

/-- The train of an entry, enabled or not, overlaps itself within a revolution (R98). -/
def entryOverlaps (e : Nat) : Bool := evStep e != 0 && decide (4294967296 < evCount e * evStep e * 65536)

/-- The occurrence angles of an entry. -/
def evAngles (e : Nat) : List Nat := (List.range (evCount e)).map (evOccurrence e)

/-- The occurrences in one direction of a list, with their entries. -/
def occsOf (l : List (Nat × Nat)) (dir : Nat) : List (Nat × Nat) :=
  (l.filter (fun p => (evDirection p.2).testBit dir)).flatMap (fun p => (evAngles p.2).map (fun a => (p.1, a)))

/-- Those that a tick's advance crosses together from the occurrence at an angle on. -/
def crossedWith (occ : List (Nat × Nat)) (advance a : Nat) : List (Nat × Nat) :=
  occ.filter (fun q => (q.2 + 4294967296 - a) % 4294967296 < advance)

/-- The lowest-numbered entry with an occurrence in a tick that more than four cross, at a given advance in au (R104). -/
def crowdedEntry (l : List (Nat × Nat)) (advance dir : Nat) : Option Nat :=
  let occ := occsOf l dir
  ((occ.filter (fun q => 4 < (crossedWith occ advance q.2).length)).flatMap (fun q => (crossedWith occ advance q.2).map (·.1))).min?

/-- The largest number of occurrences that can cross in one tick (R104). -/
def mostPerTick (l : List (Nat × Nat)) (advance : Nat) : Nat :=
  (List.range 2).foldl (fun m dir => let occ := occsOf l dir; occ.foldl (fun m q => max m (crossedWith occ advance q.2).length) m) 0

/-- The largest advance of a tick at TbFrequencyMax, au. -/
def State.maxAdvance (v : State) (t : Nat) : Nat := (v.cF (Obj.tbFrequencyMax t) * mkRat 4294967296 80000000).ceil.toNat

/-- Timebase records and event lists. -/
def State.checkTimebases (v : State) : List Conflict :=
  perInst (List.range 8) (fun t =>
    v.bad (Obj.tbStepThreshold t) (v.c (Obj.tbStepThreshold t) ≤ v.c (Obj.tbLockThreshold t)) ++
    v.bad (Obj.tbLossThreshold t) (v.c (Obj.tbLossThreshold t) ≤ v.c (Obj.tbStepThreshold t)) ++
    v.bad (Obj.tbFrequencyMin t) (v.cN (Obj.tbSource t) == 2 && v.cF (Obj.tbFrequencyMin t) < 1) ++
    (v.usedEntries t).flatMap (fun n => badIn [v.tbScope t] (Obj.eventListShadow t + n)
      (entryOverlaps (v.entryWord t n) || (evEnable (v.entryWord t n) && !entryOk (v.entryWord t n)))) ++
    (List.range 2).flatMap (fun dir =>
      match crowdedEntry (v.dispatchList t) (v.maxAdvance t) dir with
      | some n => badIn [v.tbScope t] (Obj.eventListShadow t + n) true
      | none => []))

/-! ## Pulse generation (R110, R116, R124, R128) -/

/-- Neighbouring positions of a pattern channel, cyclically, as distances in 2^-32 period. -/
def gaps (l : List Nat) : List Nat :=
  match l with
  | [] => []
  | a :: _ => (l.zip (l.drop 1 ++ [a + 4294967296])).map (fun p => p.2 - p.1)

/-- The lower-numbered of two entries of one channel that stand too close in a pattern at TbFrequencyMax (R124). -/
def State.tooClose (v : State) (g p : Nat) : List Nat :=
  let rate := v.cF (Obj.tbFrequencyMax (v.cN (Obj.groupTimebase g))) * v.cN (Obj.groupCarriersPerRev g)
  let d := v.patternDir p
  let es := (List.range (min d.2 4096)).map (fun j => (d.1 + j, v.patternEntry (d.1 + j)))
  ((v.groupChans g).zipIdx).flatMap (fun c =>
    let l := (es.filter (fun e => e.2 / 2 ^ 32 % 32 == c.2)).map (fun e => (e.1, e.2 % 4294967296))
    let next := l.drop 1 ++ (l.take 1).map (fun e => (e.1, e.2 + 4294967296))
    if l.length < 2 then []
    else (l.zip next).filterMap (fun (q : (Nat × Nat) × (Nat × Nat)) =>
      let gap : Nat := q.2.2 - q.1.2
      if mkRat gap 4294967296 * 5120000000 < rate * ((v.cN (minOnKey c.1) + v.cN (Obj.groupDeadTime g) : Nat) : Rat) then some (min q.1.1 q.2.1) else none))

/-- The entries by which a pattern breaks R124: the lower-numbered of two out of order, or the last of a table that it runs past. -/
def State.patternBad (v : State) (p : Nat) : List Nat :=
  let d := v.patternDir p
  let es := (List.range (min d.2 4096)).map (fun j => (d.1 + j, v.patternEntry (d.1 + j)))
  (if d.2 ≠ 0 ∧ 4096 < d.1 + d.2 then [4095] else []) ++
  (es.zip (es.drop 1)).filterMap (fun q => if q.2.2 % 4294967296 < q.1.2 % 4294967296 then some q.1.1 else none)

/-- The entries of the table whose State is 0b11, wherever they lie (R124). -/
def State.patternRefused (v : State) : List Nat :=
  v.mem.filterMap (fun p =>
    if p.1 / 33554432 = Obj.patternTableShadow ∧ p.1 % 33554432 < 16777216 ∧ p.1 % 8 = 5 ∧ p.2.toNat % 4 = 3 then some (p.1 % 33554432 / 8) else none)

/-- The first of some entries of the pattern table; SwapConflict has eight bits for its number (R124; DESIGN CHOICE, log 17). -/
def entryConflict (scopes l : List Nat) : List Conflict :=
  match l.min? with
  | some n => [(scopes, Obj.patternTableShadow + n % 256)]
  | none => []

/-- Groups and channels. -/
def State.checkPwm (v s : State) : List Conflict :=
  perInst allGroups (fun g =>
    let t := v.cN (Obj.groupTimebase g)
    v.bad (Obj.groupDeadTime g) (v.c (Obj.groupDeadTime g) != s.c (Obj.groupDeadTime g) && s.switching g) ++
    v.bad (Obj.groupCarriersPerRev g)
      ((if g < 16 then (200000 : Rat) else 2000000) < v.cF (Obj.tbFrequencyMax t) * v.cN (Obj.groupCarriersPerRev g)) ++
    (if v.cN (Obj.groupMode g) = 4 then entryConflict [0, v.groupScope g] ((List.range 64).flatMap (v.tooClose g)) else [])) ++
  entryConflict [0] ((List.range 64).flatMap v.patternBad ++ v.patternRefused) ++
  perInst (List.range 16) (fun n =>
    v.bad (Obj.lvRefreshTime n) (v.c (Obj.lvRefreshTime n) < v.c (Obj.lvMinOn n)) ++
    v.bad (Obj.lvBootstrap n) (v.c (Obj.lvBootstrap n) == 1 && v.c (Obj.lvOutputMode n) == 1))

/-! ## Gate drive (R141, R144, R146, R161) -/

/-- A channel of class 0 without a machine beside one that names a machine. -/
def State.mixedDomain (v : State) (n : Nat) : Bool :=
  v.cN (Obj.hbClass n) == 0 && v.cN (Obj.hbMachine n) == 0xFF &&
  (match v.groupOfHb n with
  | some g => (v.groupChannels g).any (fun m => v.cN (Obj.hbMachine m) != 0xFF)
  | none => false)

/-- Channels and gate supplies. -/
def State.checkGates (v : State) : List Conflict :=
  perInst (List.range 24) (fun n =>
    v.bad (Obj.hbBlankTime n) (v.c (Obj.hbWithstandTime n) - 500 < v.c (Obj.hbBlankTime n)) ++
    v.bad (Obj.hbMachine n) (v.mixedDomain n)) ++
  perInst (List.range 48) (fun k =>
    let f := v.cN (Obj.gsFrequency k)
    let lim := v.cF (Obj.gsUvloThreshold k) + v.cF (Obj.gsUvloHysteresis k)
    v.bad (Obj.gsSampleDelay k) (mkRat (100 - v.cN (Obj.gsDutyMax k)) (100 * f) < mkRat (v.cN (Obj.gsSampleDelay k) + 100) 1000000000) ++
    v.bad (Obj.gsTargetVoltage k) (v.cF (Obj.gsTargetVoltage k) ≤ lim || v.cF (Obj.gsOvloThreshold k) ≤ v.cF (Obj.gsTargetVoltage k)))

/-! ## Sensing (R167, R171, R172, R179) -/

/-- Comparators, dividers and windows. -/
def State.checkSensing (v s : State) : List Conflict :=
  perInst (List.range 32) (fun n =>
    let h := v.cF (Obj.sdOcHysteresis n)
    v.bad (Obj.sdOcLow n) (v.cF (Obj.sdOcHigh n) - h ≤ v.cF (Obj.sdOcLow n) + h)) ++
  perInst (List.range 24) (fun n =>
    let l := v.cN (Obj.hbLinkInput n)
    let rv := v.cF (Obj.vswDividerRatio n)
    let rd := v.cF (Obj.vdcDividerRatio l)
    badIn [v.hbScope n, 0] (Obj.vswDividerRatio n) (rd < 50 * |rv - rd|) ++
    badIn [v.hbScope n, 0] (Obj.vswDividerRatio n) (v.c (Obj.vswDividerRatio n) != s.c (Obj.vswDividerRatio n) && s.chanSwitches n) ++
    badIn [v.hbScope n, 0] (Obj.vdcDividerRatio l) (rd != s.cF (Obj.vdcDividerRatio (s.cN (Obj.hbLinkInput n))) && s.chanSwitches n)) ++
  perInst hbGroups (fun g =>
    if v.cN (Obj.groupMode g) = 0 then []
    else perInst (v.groupChannels g) (fun n => badIn [v.groupScope g, v.keyScope (Obj.vswEnable n)] (Obj.vswEnable n) (v.c (Obj.vswEnable n) == 0))) ++
  perInst (List.range 16) (fun n => v.bad (Obj.ainValidMin n) (v.cF (Obj.ainValidMax n) ≤ v.cF (Obj.ainValidMin n)))

/-! ## Engines (R194, R199, R212, R233) -/

/-- The program image of a slot's engine in the candidate. -/
def State.slotImage (v : State) (n : Nat) : Isa.Image := fun w => v.mNat (domAddr (Obj.programShadow (n / 8)) (4 * w)) 4

/-- The timebases that an active slot's entry writes. -/
def State.slotTbs (v : State) (n : Nat) : Nat :=
  match Isa.dscFor (v.slotImage n) (v.cN (Obj.slotEntry n)) with
  | some d => Isa.dscTb (v.slotImage n) d
  | none => 0

/-- Law slots. -/
def State.checkSlots (v : State) : List Conflict :=
  let on := (List.range 64).filter (fun n => v.cN (Obj.slotEnable n) == 1)
  perInst on (fun n =>
    v.bad (Obj.slotOutputMap n) (on.any (fun m => m != n && v.cN (Obj.slotOutputMap m) &&& v.cN (Obj.slotOutputMap n) != 0)) ++
    v.bad (Obj.slotEntry n) (on.any (fun m => m != n && v.slotTbs m &&& v.slotTbs n != 0))) ++
  perInst ((List.range 64).filter (fun n => v.cN (Obj.slotEnable n) != 0)) (fun n =>
    let im := v.slotImage n
    let cycles := match Isa.dscFor im (v.cN (Obj.slotEntry n)) with
      | some d => Isa.dscCycles im d
      | none => 0
    let pre := v.cN (Obj.slotPresetEntry n)
    v.bad (Obj.slotEntry n) ((Isa.dscFor im (v.cN (Obj.slotEntry n))).isNone) ++
    v.bad (Obj.slotPresetEntry n) (pre != 0xFFFF && (Isa.dscFor im pre).isNone) ++
    v.bad (Obj.slotDeadline n) (10 * v.cN (Obj.slotDeadline n) < cycles + 20)) ++
  perInst ((List.range 64).filter (fun n => v.cN (Obj.slotHandoverPartner n) != 0xFF)) (fun n =>
    let m := 8 * (n / 8) + v.cN (Obj.slotHandoverPartner n)
    v.bad (Obj.slotHandoverPartner n)
      (m == n || v.cN (Obj.slotHandoverPartner m) != n % 8 || v.cN (Obj.slotOutputMap m) != v.cN (Obj.slotOutputMap n) ||
        (v.cN (Obj.slotEnable n) == 1 && v.cN (Obj.slotEnable m) == 1)) ++
    v.bad (Obj.slotHandoverBase n) (0x3FFF < v.cN (Obj.slotHandoverBase n) + 3))

/-! ## Observers (R239, R242, R244) -/

/-- Two entries happen together: same Angle, Step, CountMinusOne, RevSkip, Direction and Delay. -/
def sameCadence (a b : Nat) : Bool :=
  evAngle a == evAngle b && evStep a == evStep b && evCount a == evCount b && evRevSkip a == evRevSkip b &&
  evDirection a == evDirection b && evDelay a == evDelay b

/-- Entries that sample phase a of a machine without its switch nodes beside it (R239). -/
def State.loneSamples (v : State) (o t : Nat) : List Nat :=
  let a := field5 (v.cN (Obj.obsCurrentMap o)) 0
  let nodes := (v.obsChannels o).foldl (fun m n => m ||| 2 ^ n) 0
  let es := (v.enabledEntries t).filter (fun n => evAction (v.entryWord t n) == 2)
  es.filter (fun n =>
    let e := v.entryWord t n
    evTarget e == 0 && (evArgument e).testBit a &&
    !es.any (fun m => let f := v.entryWord t m
                      evTarget f == 1 && evArgument f &&& nodes == nodes && sameCadence e f))

/-- Enabled observers. -/
def State.checkObservers (v : State) : List Conflict :=
  perInst ((List.range 9).filter (fun o => v.cN (Obj.obsEnable o) == 1)) (fun o =>
    let lo := v.cF (Obj.obsBlendLow o)
    let hi := v.cF (Obj.obsBlendHigh o)
    v.bad (Obj.obsLq o) (v.c (Obj.obsInjEnable o) == 1 && 10 * v.cF (Obj.obsLq o) < 11 * v.cF (Obj.obsLd o)) ++
    v.bad (Obj.obsBlendLow o) (hi ≤ lo) ++
    v.bad (Obj.obsInjHysteresis o) (hi - lo ≤ v.cF (Obj.obsInjHysteresis o)) ++
    (if o < 4 then
      v.bad (Obj.obsChannelMap o) ((v.obsChannels o).any (fun n => !(n < 24 && v.cN (Obj.hbMachine n) == o && v.c (Obj.vswEnable n) == 1))) ++
      v.bad (Obj.obsCurrentMap o) ((v.obsCurrents o).any (fun n => v.c (Obj.sdEnable n) == 0)) ++
      v.bad (Obj.obsLinkInput o) (v.c (Obj.vdcEnable (v.cN (Obj.obsLinkInput o))) == 0) ++
      perInst (v.obsChannels o) (fun n => badIn [o + 1, v.hbScope n] (Obj.vswWindowMode n) (v.c (Obj.vswWindowMode n) != 1)) ++
      perInst (List.range 8) (fun t => (v.loneSamples o t).flatMap (fun n => badIn [o + 1, v.tbScope t] (Obj.eventListShadow t + n) true))
    else v.bad (Obj.obsChannelMap o) ((v.obsChannels o).any (fun n => 16 ≤ n)) ++ v.bad (Obj.obsCurrentMap o) ((v.obsCurrents o).any (fun n => 16 ≤ n))))

/-! ## Traction (R266, R269, R285, R287) -/

/-- Machines and links. -/
def State.checkTraction (v : State) : List Conflict :=
  if v.station then []
  else
    let ms := (List.range 4).filter (fun m => v.cN (Obj.tracEnable m) == 1)
    perInst ms (fun m =>
      let e := v.cN (Obj.tracTorqueSlot m) / 8
      v.bad (Obj.tracCurrentSlot m) (v.cN (Obj.tracCurrentSlot m) / 8 != e || v.cN (Obj.tracSpeedSlot m) / 8 != e) ++
      v.bad (Obj.tracTorqueSlot m) (v.mailboxSlots e 56 63 != []) ++
      v.bad (Obj.tracPowerShare m)
        (100 < (ms.filter (fun q => v.cN (Obj.obsLinkInput q) == v.cN (Obj.obsLinkInput m))).foldl (fun x q => x + v.cF (Obj.tracPowerShare q)) 0)) ++
    perInst (List.range 4) (fun l =>
      let h := 2 * v.cF (Obj.tracOvHysteresis l)
      let u2 := v.cF (Obj.tracUv2 l)
      let u1 := v.cF (Obj.tracUv1 l)
      let o1 := v.cF (Obj.tracOv1 l)
      let o2 := v.cF (Obj.tracOv2 l)
      let o3 := v.cF (Obj.tracOv3 l)
      let n := v.cN (Obj.tracChopperChannel l)
      v.bad (Obj.tracOv1 l) (u1 ≤ u2 || o1 ≤ u1 || o2 ≤ o1 || o3 ≤ o2 || u1 - u2 < h || o1 - u1 < h || o2 - o1 < h || o3 - o2 < h) ++
      badIn [0, v.hbScope n] (Obj.tracChopperChannel l) (n != 0xFF &&
        !(v.cN (Obj.hbClass n) == 2 && hbGroups.any (fun g => v.cN (Obj.groupChannels g) == 2 ^ n))))

end Sys2Proof.Machine
end

