-- ==== Sys2Proof/Machine/SwapCheckPower.lean ====
section
/-! DEFINITION. What chapters 12 to 16 refuse in a candidate configuration with code 0x03, and resources given to two
functions (R31). -/

namespace Sys2Proof.Machine

/-! ## Charge phases and winding charging (R296, R311) -/

/-- Charge-phase records, and the mailbox words of winding charging. -/
def State.checkCharging (v : State) : List Conflict :=
  if v.station then []
  else
    perInst [0, 1] (fun c =>
      v.bad (Obj.cpTempT1 c) (v.cF (Obj.cpTempT2 c) ≤ v.cF (Obj.cpTempT1 c) || v.cF (Obj.cpTempT3 c) ≤ v.cF (Obj.cpTempT2 c) ||
        v.cF (Obj.cpTempT4 c) ≤ v.cF (Obj.cpTempT3 c)) ++
      v.bad (Obj.cpTrickleVoltage c) (v.cF (Obj.cpPrechargeVoltage c) ≤ v.cF (Obj.cpTrickleVoltage c) ||
        v.cF (Obj.cpCvVoltage c) ≤ v.cF (Obj.cpPrechargeVoltage c)) ++
      v.bad (Obj.cpTempInput c) (c == 1 && v.cN (Obj.cpTempInput c) == 0xFE)) ++
    v.bad Obj.wcLawSlot (v.cN Obj.wcEnable == 1 && v.mailboxSlots (v.cN Obj.wcLawSlot / 8) 48 55 != [])

/-! ## The LV converter (R313, R315, R320, R332) -/

/-- The occurrences of LAW_START for a slot in a list come at least every so many seconds (R313). -/
def State.lawEvery (v : State) (n t : Nat) (seconds : Rat) : Bool :=
  let f := if v.cN (Obj.tbSource t) = 3 then |v.cF (Obj.tbSyntheticFrequency t)| else v.cF (Obj.tbFrequencyMin t)
  let es := ((v.enabledEntries t).map (v.entryWord t)).filter (fun e => evAction e == 1 && evTarget e == n && evRevSkip e == 0 && (evDirection e).testBit 0)
  let angles := (es.flatMap evAngles).insertionSort (· ≤ ·)
  angles != [] && (gaps angles).all (fun d => mkRat d 4294967296 ≤ seconds * f)

/-- The isolated stage breaks R313. -/
def State.isoBad (v : State) : Bool :=
  let ch := map8 (v.cN Obj.lvIsoChannels)
  let t := v.cN Obj.lvIsoTimebase
  !(ch.all (fun n => n < 24 && v.cN (Obj.hbClass n) == 1 && v.cN (Obj.hbOutputMode n) == 0) && ch.eraseDups.length == 4 &&
    v.cN (Obj.tbSource t) == 3 &&
    hbGroups.any (fun g => v.cN (Obj.groupChannels g) == ch.foldl (fun m n => m + 2 ^ n) 0 && v.cN (Obj.groupMode g) == 1 &&
      v.cN (Obj.groupTimebase g) == t))

/-- The buck phases break R313. -/
def State.phasesBad (v : State) : Bool :=
  let map := v.cN Obj.lvPhaseMap
  !((List.range 16).filter map.testBit).all (fun n =>
    v.cN (Obj.lvOutputMode n) == 0 &&
    match v.groupOfLv n with
    | some g => v.cN (Obj.groupMode g) == 5 && v.cN (Obj.groupChannels g) &&& map == v.cN (Obj.groupChannels g)
    | none => false)

/-- The converter where it has phases; its output and burst figures always. -/
def State.checkLv (v : State) : List Conflict :=
  if v.station then []
  else
    (if v.cN Obj.lvPhaseMap = 0 then []
     else
      v.bad Obj.lvIsoChannels v.isoBad ++ v.bad Obj.lvPhaseMap v.phasesBad ++
      v.bad Obj.lvHvInput (v.c (Obj.vdcEnable (v.cN Obj.lvHvInput)) == 0) ++
      v.bad Obj.lvLawSlot (!(List.range 8).any (fun t => v.lawEvery (v.cN Obj.lvLawSlot) t (mkRat 1 20000)))) ++
    v.bad Obj.lvOutputMax (9 * v.cF Obj.lvIntMin < 10 * (v.cF Obj.lvOutputMax * mkRat 9 8)) ++
    v.bad Obj.lvBurstBand (v.cF Obj.lvReleaseLevel ≤ v.cF Obj.lvBurstBand) ++
    v.bad Obj.lvOutputMin (v.cF Obj.lvOutputMax ≤ v.cF Obj.lvOutputMin)

/-! ## Lamps and actuators (R330, R333) -/

/-- Lamps and actuators. -/
def State.checkActuators (v : State) : List Conflict :=
  if v.station then perInst (List.range 4) (fun l => v.bad (Obj.lampSource l) (v.cN (Obj.lampSource l) != 0))
  else
    perInst (List.range 4) (fun l =>
      v.bad (Obj.lampMap l) ((List.range 9).any (fun p => 4 < v.cN (Obj.lampMap l) / 8 ^ p % 8))) ++
    perInst ((List.range 4).filter (fun a => v.cN (Obj.gaEnable a) == 1)) (fun a =>
      let ch := v.obsChannels (4 + a)
      let stall := v.cF (Obj.commStallCurrent (4 + a))
      v.bad (Obj.gaLawSlot a) (v.mailboxSlots (v.cN (Obj.gaLawSlot a) / 8) (32 + 4 * a) (35 + 4 * a) != []) ++
      v.bad (Obj.gaEngageCurrent a) (v.cF (Obj.gaEngageCurrent a) < stall) ++
      v.bad (Obj.gaHomeCurrent a) (v.cF (Obj.gaHomeCurrent a) < stall) ++
      v.bad (Obj.gaEnable a) (!(ch.length == 3 && ch.eraseDups.length == 3 &&
        lvGroups.any (fun g => ch.all (fun n => (v.cN (Obj.groupChannels g)).testBit n)))))

/-! ## The charging link (R344, R356, R361) -/

/-- A charging port with its PLCA, and Tandem. -/
def State.checkLink (v : State) : List Conflict :=
  let port := if v.station then v.cN Obj.lkPostPort else v.cN Obj.lkPort
  let on := if v.station then v.cN Obj.lkPostEnable == 1 else v.cN Obj.lkEnable == 1
  let t := v.cN Obj.tdTimebase
  badIn [0, if v.station then 7 else 0] (if v.station then Obj.lkPostPort else Obj.lkPort) (on && port < 2 && 2 < v.cN (Obj.t1sPlcaNodeCount port)) ++
  v.bad Obj.tdFallbackHold (50 < v.cN Obj.tdFallbackHold + v.cN Obj.tdFallbackRamp) ++
  (if v.cN Obj.tdEnable = 1 then
    badIn [0, v.tbScope t] Obj.tdTimebase
      (if v.station then v.cN (Obj.tbSource t) != 4
       else !(v.cN (Obj.tbSource t) == 3 && v.cF (Obj.tbSyntheticFrequency t) == 2000 && v.cN (Obj.tbPublish t) == 1))
   else [])

/-! ## Station power and Monarch (R367, R368, R387) -/

/-- The HB channels of a class-1, complementary, triangle-carrier bridge. -/
def State.bridgeOk (v : State) (t : Nat) (l : List Nat) : Bool :=
  l.all (fun n => n < 24 && v.cN (Obj.hbClass n) == 1 && v.cN (Obj.hbMachine n) == 0xFF && v.cN (Obj.hbOutputMode n) == 0 &&
    match v.groupOfHb n with
    | some g => v.cN (Obj.groupMode g) == 1 && v.cN (Obj.groupTimebase g) == t
    | none => false)

/-- The front end breaks R367. -/
def State.feBad (v : State) : Bool :=
  let t := v.cN Obj.stFeTimebase
  let ch := (List.range 24).filter (fun n => (v.cN Obj.stFeChannels).testBit n)
  !((ch.length == 3 || ch.length == 6) && v.bridgeOk t ch && v.cN (Obj.tbSource t) == 2 &&
    (ch.drop 3).all (fun n => v.cN (Obj.hbCarrierOffset n) == 2147483648))

/-- A DAB stage breaks R367. -/
def State.dabBad (v : State) (k : Nat) : Bool :=
  let a := byteOf (v.cN Obj.stDabStages) k
  let t := v.cN Obj.stDabTimebase
  a != 0xFF &&
  !(a ≤ 20 && v.cN (Obj.tbSource t) == 3 && byteOf (v.cN Obj.stDabSlots) k ≤ 63 &&
    hbGroups.any (fun g => v.cN (Obj.groupChannels g) == 15 * 2 ^ a && v.cN (Obj.groupTimebase g) == t && v.cN (Obj.groupCarriersPerRev g) == 1) &&
    (List.range 4).all (fun j => v.cN (Obj.hbCarrierOffset (a + j)) == ((j % 2) * 2147483648 + k * 1073741824) % 4294967296))

/-- The station's power function, cooling and Monarch. -/
def State.checkStation (v : State) : List Conflict :=
  if ¬ v.station then []
  else
    let slots := (v.cN Obj.stFeSlot :: (map8 (v.cN Obj.stDabSlots)).filter (· < 64)).map (· / 8)
    (if v.cN Obj.stEnable = 1 then
      v.bad Obj.stFeChannels v.feBad ++ perInst (List.range 4) (fun k => v.bad Obj.stDabStages (v.dabBad k)) ++
      v.bad Obj.stFeSlot (slots.any (fun e => v.mailboxSlots e 48 49 != []))
     else []) ++
    v.bad Obj.monRenewPeriod (v.cN Obj.monLeaseDuration < 2 * v.cN Obj.monRenewPeriod)

/-! ## Metering (R398) -/

/-- The metering timebase follows grid source 0. -/
def State.checkMetering (v : State) : List Conflict :=
  let t := v.oN Obj.mtrTimebase
  badIn [0, v.tbScope t] (Obj.tbSource t) (v.acOn && !(v.cN (Obj.tbSource t) == 2 && v.cN (Obj.tbSourceInstance t) == 0))

/-! ## One resource, one function (R31) -/

/-- A number below a count, 0xFF and the like dropped. -/
def named (count : Nat) (l : List Nat) : List Nat := l.filter (· < count)

/-- The brake choppers of the vehicle as one function (R32, R285). -/
def brakeChopper : Fn := .hbGroup 100

/-- What the enabled functions claim: function, the kind's first record, number. Winding charging and boost claim the channels of the
machine that they name where the set leaves them free of traction (R295, R296); a timebase that follows an observer belongs to the
observer's function; the metering timebase is nobody's own, for the station's example samples its meter on TB0 (DEDUCED, log 19). -/
def State.claims (v : State) : List (Fn × Nat × Nat) :=
  let hb (f : Fn) (l : List Nat) : List (Fn × Nat × Nat) := (named 24 l).map (fun n => (f, 0x3100, n))
  let lvc (f : Fn) (l : List Nat) : List (Fn × Nat × Nat) := (named 16 l).map (fun n => (f, 0x31C0, n))
  let sd (f : Fn) (l : List Nat) : List (Fn × Nat × Nat) := (named 32 l).map (fun n => (f, 0x3340, n))
  let tb (f : Fn) (l : List Nat) : List (Fn × Nat × Nat) := (named 8 l).map (fun n => (f, 0x3000, 16 * n))
  let law (f : Fn) (l : List Nat) : List (Fn × Nat × Nat) := (named 64 l).map (fun n => (f, 0x4000, 16 * (n / 8) + n % 8))
  let so (f : Fn) (l : List Nat) : List (Fn × Nat × Nat) := (named 8 l).map (fun n => (f, 0x8100, n))
  let byObserver := ((List.range 8).filter (fun t => v.cN (Obj.tbSource t) == 1)).flatMap (fun t => tb (obsFn (v.cN (Obj.tbSourceInstance t))) [t])
  byObserver ++
  if v.station then
    (if v.cN Obj.stEnable = 1 then
      hb .stationPower ((List.range 24).filter (fun n => (v.cN Obj.stFeChannels).testBit n) ++ (List.range 4).flatMap v.dabChannels ++ [v.cN Obj.stChopperChannel]) ++
      tb .stationPower [v.cN Obj.stFeTimebase, v.cN Obj.stDabTimebase] ++ law .stationPower (v.cN Obj.stFeSlot :: map8 (v.cN Obj.stDabSlots)) ++
      so .stationPower [v.cN Obj.stGridContactor, v.cN Obj.stPrechargeOutput]
     else []) ++
    (if v.cN Obj.lkPostEnable = 1 then
      sd .post [v.cN Obj.lkPostCurrentInput] ++ so .post [v.cN Obj.lkPostContactorPlus, v.cN Obj.lkPostContactorMinus, v.cN Obj.lkPilotOutput]
     else []) ++
    (if v.cN Obj.ccEnable = 1 then lvc .cooling (v.obsChannels 8) ++ law .cooling [v.cN Obj.ccPumpSlot] else []) ++
    (if v.cN Obj.tdEnable = 1 then tb .tandem [v.cN Obj.tdTimebase] ++ law .tandem [v.cN Obj.tdLawSlot] else [])
  else
    ((List.range 4).filter (fun m => v.cN (Obj.tracEnable m) == 1)).flatMap (fun m =>
      hb (.traction m) (v.obsChannels m) ++ sd (.traction m) (v.obsCurrents m) ++
      law (.traction m) [v.cN (Obj.tracCurrentSlot m), v.cN (Obj.tracTorqueSlot m), v.cN (Obj.tracSpeedSlot m)]) ++
    hb brakeChopper ((List.range 4).map (fun l => v.cN (Obj.tracChopperChannel l))) ++
    (if v.cN Obj.wcEnable = 1 ∧ v.cN (Obj.tracEnable (v.cN Obj.wcMachine)) = 0 then hb .winding (v.windingChannels ++ v.boostChannels).eraseDups else []) ++
    (if v.cN (Obj.cpEnable 0) = 1 then sd .inlet [v.cN (Obj.cpCurrentInput 0)] else []) ++
    (if v.cN Obj.wcEnable = 1 then
      tb .winding [v.cN Obj.wcGridTimebase] ++ law .winding [v.cN Obj.wcLawSlot] ++
      so .winding [v.cN Obj.wcStarContactor, v.cN Obj.wcGridContactor, v.cN Obj.wcBoostContactor]
     else []) ++
    (if v.cN Obj.lkEnable = 1 then
      sd .inlet [v.cN Obj.lkInletCurrentInput] ++
      so .inlet [v.cN Obj.lkContactorPlus, v.cN Obj.lkContactorMinus, v.cN Obj.lkPrechargeOutput, v.cN Obj.lkPilotStateOutput]
     else []) ++
    (if v.cN Obj.lvPhaseMap ≠ 0 then
      hb .lvConverter (map8 (v.cN Obj.lvIsoChannels)) ++ lvc .lvConverter ((List.range 16).filter (fun n => (v.cN Obj.lvPhaseMap).testBit n)) ++
      tb .lvConverter [v.cN Obj.lvIsoTimebase] ++ law .lvConverter [v.cN Obj.lvLawSlot]
     else []) ++
    ((List.range 4).filter (fun a => v.cN (Obj.gaEnable a) == 1)).flatMap (fun a =>
      lvc (.actuator a) (v.obsChannels (4 + a)) ++ tb (.actuator a) [v.cN (Obj.gaTimebase a)] ++ law (.actuator a) [v.cN (Obj.gaLawSlot a)]) ++
    (if v.cN Obj.tdEnable = 1 then tb .tandem [v.cN Obj.tdTimebase] ++ law .tandem [v.cN Obj.tdLawSlot] else [])

/-- Resources given twice: to two functions, or a channel to two groups. -/
def State.checkClaims (v : State) : List Conflict :=
  let cs := v.claims
  cs.flatMap (fun a => cs.flatMap (fun b =>
    badIn [fnScope a.1, fnScope b.1] (key (a.2.1 + a.2.2) 0) (a.1 != b.1 && a.2 == b.2))) ++
  allGroups.flatMap (fun g => (v.groupChannels g).flatMap (fun n =>
    badIn [v.groupScope g] (key ((if g < 16 then 0x3100 else 0x31C0) + n) 0)
      (allGroups.any (fun h => h != g && (g < 16) == (h < 16) && (v.groupChannels h).contains n))))

end Sys2Proof.Machine
end

