-- ==== Sys2Proof/Machine/SwapCheckNet.lean ====
section
/-! DEFINITION. What chapters 17 to 20 refuse in a candidate configuration with code 0x03. -/

namespace Sys2Proof.Machine

/-! ## Signal slots (R448) -/

/-- The engines' mailbox words that a function reserves, as 64 × engine + word (R266, R296, R333, R372). -/
def State.reservedWords (v : State) : List Nat :=
  let range (slot lo n : Nat) : List Nat := (List.range n).map (fun k => 64 * (slot / 8) + lo + k)
  if v.station then
    (if v.cN Obj.stEnable = 1 then (v.cN Obj.stFeSlot :: (map8 (v.cN Obj.stDabSlots)).filter (· < 64)).flatMap (fun n => range n 48 2) else [])
  else
    ((List.range 4).filter (fun m => v.cN (Obj.tracEnable m) == 1)).flatMap (fun m => range (v.cN (Obj.tracTorqueSlot m)) 56 8) ++
    (if v.cN Obj.wcEnable = 1 then range (v.cN Obj.wcLawSlot) 48 8 else []) ++
    ((List.range 4).filter (fun a => v.cN (Obj.gaEnable a) == 1)).flatMap (fun a => range (v.cN (Obj.gaLawSlot a)) (32 + 4 * a) 4)

/-- A dictionary object that an Operator may write, of a slot's type. -/
def slotMayWrite (k type : Nat) : Bool :=
  match objInfo (k / 256) (k % 256) with
  | some o => o.row.acc == .rw && 1 ≤ o.row.role && o.row.role ≤ 2 && o.row.ty.code == type
  | none => false

/-- A dictionary object that cannot be read. -/
def writeOnly (k : Nat) : Bool :=
  match objInfo (k / 256) (k % 256) with
  | some o => o.row.acc == .wo
  | none => false

/-- A descriptor breaks R448 by itself. -/
def State.slotBad (v : State) (d : Nat) : Bool :=
  let len := v.pt (sdPartner d) (if sdTransmit d then 8 else 6) 2
  !v.ptFlag (sdPartner d) 0 || len < sdOffset d + typeSize (sdType d) ||
  if sdMailbox d then
    !([3, 6, 8].contains (sdType d)) || (!sdTransmit d && v.reservedWords.contains (sdTarget d % 512))
  else if sdTransmit d then writeOnly (sdTarget d)
  else !slotMayWrite (sdTarget d) (sdType d)

/-- Two receive descriptors of one partner whose fields overlap, or two with one target. -/
def slotsClash (a b : Nat) : Bool :=
  (sdPartner a == sdPartner b && sdOffset a < sdOffset b + typeSize (sdType b) && sdOffset b < sdOffset a + typeSize (sdType a)) ||
  (sdMailbox a == sdMailbox b && (if sdMailbox a then sdTarget a % 512 == sdTarget b % 512 else sdTarget a == sdTarget b))

/-- The enabled signal slots. -/
def State.checkSignals (v : State) : List Conflict :=
  let qs := v.slotsEnabled
  let rx := qs.filter (fun q => !sdTransmit (v.slotDesc q))
  perInst qs (fun q => v.bad (Obj.slotDescriptor q) (v.slotBad (v.slotDesc q))) ++
  perInst rx (fun q => v.bad (Obj.slotDescriptor q) (rx.any (fun p => p != q && slotsClash (v.slotDesc q) (v.slotDesc p))))

/-! ## CAN (R453, R454, R455, R459, R460) -/

/-- Filter n of a controller, 96 bits. -/
def State.filterWord (v : State) (c n : Nat) : Nat := v.mNat (domAddr (Obj.canFilters c) (12 * n)) 12

/-- An enabled filter breaks R459. -/
def State.filterBad (v : State) (w : Nat) : Bool :=
  let action := w / 2 ^ 93 % 4
  let target := w / 2 ^ 64 % 8192
  w.testBit 95 && (action == 3 || w / 2 ^ 91 % 4 == 3 || w / 2 ^ 88 % 8 == 0 || (action == 1 && 127 < target) ||
    (action == 2 && !v.ptFlag target 0))

/-- A controller's bit timing, filters and buffers. -/
def State.checkCan (v : State) : List Conflict :=
  perInst (List.range 8) (fun c =>
    let n := v.cN (Obj.canNomBrp c)
    let nq := 1 + v.cN (Obj.canNomTseg1 c) + v.cN (Obj.canNomTseg2 c)
    let d := v.cN (Obj.canDataBrp c)
    let dq := 1 + v.cN (Obj.canDataTseg1 c) + v.cN (Obj.canDataTseg2 c)
    let fastest := if v.cN (Obj.canFrameMode c) = 2 then 10000000 else 8000000
    v.bad (Obj.canNomSjw c) (v.c (Obj.canNomTseg2 c) < v.c (Obj.canNomSjw c)) ++
    v.bad (Obj.canDataSjw c) (v.c (Obj.canDataTseg2 c) < v.c (Obj.canDataSjw c)) ++
    v.bad (Obj.canNomBrp c) (nq < 8 || n * nq < 80) ++
    v.bad (Obj.canDataBrp c) (dq < 8 || n * nq < d * dq || (v.cN (Obj.canFrameMode c) != 0 && d * dq * fastest < 80000000)) ++
    v.bad (Obj.canTripleSample c) (v.c (Obj.canTripleSample c) == 1 && (n * nq < 640 || v.cN (Obj.canNomTseg1 c) < 3)) ++
    v.bad (Obj.canTdcOffset c) (1 + v.c (Obj.canDataTseg1 c) < v.c (Obj.canTdcOffset c)) ++
    v.bad (Obj.canFilters c) ((List.range 256).any (fun k => v.filterBad (v.filterWord c k))) ++
    v.bad (Obj.canBufferBank c)
      (524288 < ((List.range 8).filter (fun q => v.cN (Obj.canBufferBank q) == v.cN (Obj.canBufferBank c))).foldl
        (fun x q => x + 128 * (20 + v.cN (Obj.canRxDataSize q))) 0))

/-! ## Ethernet (R481, R490) -/

/-- The longest run of open intervals of a class in a cyclic gate list, ns. -/
def openRun (l : List (Nat × Nat)) (cls : Nat) : Nat :=
  ((l ++ l).foldl (fun (a : Nat × Nat) p => if p.2.testBit cls then (a.1 + p.1, max a.2 (a.1 + p.1)) else (0, a.2)) (0, 0)).2

/-- The stream's capture rate times its record size, bit/s. -/
def State.streamRate (v : State) : Rat :=
  let t := v.cN Obj.streamTimebase
  let e := v.entryWord t (v.cN Obj.streamEntry)
  let n := ((List.range 16).filter (fun k => v.mNat (domAddr Obj.streamSources (2 * k)) 2 != 0xFFFF)).length
  v.cF (Obj.tbFrequencyMax t) * mkRat (evCount e * (32 * (n + 1))) (evRevSkip e + 1)

/-- Ports and stream. -/
def State.checkNet (v : State) : List Conflict :=
  perInst [0, 1] (fun p =>
    v.bad (Obj.xgGateList p) (v.cN (Obj.xgGateEnable p) == 1 && openRun (v.gateList p) (v.cN (Obj.xgControlPcp p)) < 1250)) ++
  badIn [0, v.tbScope (v.cN Obj.streamTimebase)] Obj.streamEnable (v.cN Obj.streamEnable == 1 && 2000000000 < v.streamRate)

/-! ## The partner table (R503, R514) -/

/-- The longest payload of a transport that has one (R514). -/
def State.payloadLimit (v : State) (transport : Nat) : Option Nat :=
  if transport < 4 then some 1464
  else if transport < 12 then some (if v.cN (Obj.canFrameMode (transport - 4)) = 2 then 2040 else 56)
  else none

/-- An entry breaks R514 by itself. -/
def State.partnerBad (v : State) (e : Nat) : Bool :=
  let tr := v.pt e 1 1
  (match v.payloadLimit tr with
  | some n => n < v.pt e 6 2 || n < v.pt e 8 2
  | none => false) ||
  (4 ≤ tr && tr < 12 && v.cN (Obj.canEnable (tr - 4)) == 0) || (v.ptFlag e 1 && v.ptFlag e 3)

/-- Two ESL entries name one slot, or receive on one transport with one number; fields that the link function manages do
not count. -/
def State.partnersClash (v : State) (a b : Nat) : Bool :=
  (v.pt a 2 2 == v.pt b 2 2 && v.pt a 2 2 != 0xFFFF) ||
  (!v.ptFlag a 5 && !v.ptFlag b 5 && v.pt a 1 1 == v.pt b 1 1 && v.pt a 4 2 == v.pt b 4 2 && v.pt a 6 2 != 0 && v.pt b 6 2 != 0)

/-- The ESL fields of an entry, without what the link function manages (R503, R514). -/
def State.eslFields (v : State) (e : Nat) : List Nat :=
  let f := v.pt e 0 1
  if f.testBit 5 then [clearBit f 2, v.pt e 1 3, v.pt e 6 10] else [f, v.pt e 1 3, v.pt e 4 2, v.pt e 6 10, v.pt e 16 4]

/-- The entries with the ESL flag. -/
def State.eslEntries (v : State) : List Nat := v.ptEnabled.filter (fun e => v.ptFlag e 1)

/-- The table as a whole; under SEAL3 its ESL fields stand. -/
def State.checkPartners (v s : State) : List Conflict :=
  let esl := v.eslEntries
  let sealed := s.sealPin 3 && (esl ++ s.eslEntries).any (fun e => v.eslFields e != s.eslFields e)
  v.bad Obj.partnerTable
    (4096 < v.ptEnabled.length || 2048 < esl.length || v.ptEnabled.any v.partnerBad ||
      esl.any (fun a => esl.any (fun b => a != b && v.partnersClash a b)) || sealed)

/-! ## The whole check -/

/-- Every conflict of the candidate `v` against the state `s`. -/
def State.conflicts (v s : State) : List Conflict :=
  v.checkTimebases ++ v.checkPwm s ++ v.checkGates ++ v.checkSensing s ++ v.checkSlots ++ v.checkObservers ++ v.checkTraction ++
  v.checkCharging ++ v.checkLv ++ v.checkActuators ++ v.checkLink ++ v.checkStation ++ v.checkMetering ++ v.checkSignals ++
  v.checkCan ++ v.checkNet ++ v.checkPartners s

/-- The first object among the conflicts of the selected scopes. -/
def firstConflict (map : Nat) (l : List Conflict) : Option Nat :=
  ((l.filter (fun c => c.1.any (fun n => map.testBit n))).map (·.2)).min?

/-- A channel changes use while not at pulse-off (R31, R83): another function or group claims it. -/
def State.useChanges (v s : State) : Bool :=
  (List.range 40).any (fun c =>
    s.drive c != .pulseOff &&
    (v.groupOf c != s.groupOf c || (if c < 24 then v.hbOwner c != s.hbOwner c else v.lvOwner (c - 24) != s.lvOwner (c - 24))))

end Sys2Proof.Machine
end

