-- ==== Sys2Proof/Machine/Swap.lean ====
section
/-! DEFINITION. Configuration swaps (R80 to R86): arming, the boundary, cancelling, and what the functions make of a new
active set. -/

namespace Sys2Proof.Machine

/-! ## Arming (R83) -/

/-- The scope on which a per-function reset counts as running (R83). -/
def State.resetScope (s : State) (cls inst : Nat) : Nat :=
  match cls with
  | 1 | 3 => s.groupScope inst
  | 2 => s.groupScope (16 + inst)
  | 5 => s.tbScope inst
  | 4 => s.cN (Obj.engOwnerScope inst)
  | 6 => 1 + inst
  | 8 => 5
  | 9 => if inst = 0 then 0 else 5
  | _ => 0

/-- The group whose next period start is boundary 0: the lowest-numbered one switching on the timebase (R84). -/
def State.leadGroup (s : State) (t : Nat) : Option Nat := allGroups.find? (fun g => s.switching g && s.cN (Obj.groupTimebase g) == t)

/-- CRC-32C of the selected shadows in scope order (R81). -/
def State.shadowsCrc (s : State) (map : Nat) : Nat := crc32c ((scopesOf map).flatMap (fun n => Config.serialise (s.setOf true n)))

/-- The codes of R83 in the order of checking, and what SwapConflict names. -/
def State.armCode (s : State) : Nat × Option Nat :=
  let map := s.oN Obj.swapScopeMap
  let sel := scopesOf map
  let b := s.oN Obj.swapBoundary
  let t := s.oN Obj.swapTimebase
  if sel = [] ∨ ¬ sel.all s.scopeHere then (0x0A, none)
  else if s.oN Obj.modeTarget ≠ 0xFF ∨ (s.md.resetClass ≠ 0 ∧ map.testBit (s.resetScope s.md.resetClass s.md.resetInst)) ∨
      sel.any (fun n => s.oN (Obj.shadowState n) == 2) then (0x06, none)
  else if b ≤ 1 ∧ (s.oN (Obj.tbLockState t) ≠ 2 ∨ (b = 0 ∧ (s.leadGroup t).isNone)) then (0x0B, none)
  else if (b = 2 ∧ s.oN Obj.swapTime ≤ s.now) ∨ (b = 3 ∧ allGroups.any (fun g => s.switching g && map.testBit (s.groupScope g))) then (0x0C, none)
  else if s.shadowsCrc map ≠ s.oN Obj.swapExpectedCrc then (0x02, none)
  else
    let v := s.exchanged map
    match firstConflict map v.checkClaims, v.useChanges s, firstConflict map (v.conflicts s) with
    | some k, _, _ => (0x04, some k)
    | none, true, _ => (0x05, none)
    | none, false, some k => (0x03, some k)
    | none, false, none => (0x01, none)

/-- The check computes MaxOccurrencesPerTick of the lists that it judges (R104). -/
def State.crowdShown (map : Nat) (s : State) : State :=
  let v := s.exchanged map
  s.forAll ((List.range 8).filter (fun t => map.testBit (v.tbScope t))) (fun t u =>
    u.put (Obj.maxOccurrencesPerTick t) (min 255 (mostPerTick (v.dispatchList t) (v.maxAdvance t)) : Nat))

/-- An arm command is checked: armed, or refused with its code. -/
def State.swapArm (s : State) : State :=
  if s.sw.armed then s.refuse 0x10
  else
    let map := s.oN Obj.swapScopeMap
    let (code, conflict) := s.armCode
    let s := if code = 1 ∨ code = 3 then s.crowdShown map else s
    let s := s.put Obj.swapResult code
    let s := match conflict with
      | some k => s.put Obj.swapConflict k
      | none => s
    if code = 1 then
      let eq := (scopesOf map).filter (fun n => s.oN (Obj.shadowState n) == 0)
      let s := s.forAll (scopesOf map) (fun n => State.put (Obj.shadowState n) 3)
      { s with sw := { s.sw with
          armed := true, map := map, boundary := s.oN Obj.swapBoundary, timebase := s.oN Obj.swapTimebase, angle := s.oN Obj.swapAngle,
          time := s.oN Obj.swapTime, equal := eq } }
    else s.log 7 map 0 code 0

/-- SWAP_ARM: a write of 1 to SwapCommand. -/
def execSwapArm (role : Role) (s : State) : Host.Outcome State Fault Refusal :=
  .next (s.accessAt role 3 Obj.swapCommand true State.swapArm)

/-- SWAP_CANCEL: a write of 2 to SwapCommand. -/
def execSwapCancel (role : Role) (s : State) : Host.Outcome State Fault Refusal :=
  .next (s.accessAt role 3 Obj.swapCommand true (State.cancelSwap 0x08))

/-- SWAP_ARM_TIMEOUT: SwapArmTimeout has passed. -/
def execSwapArmTimeout (s : State) : Host.Outcome State Fault Refusal := .next (s.cancelSwap 0x07)

/-! ## What follows a new active set -/

/-- The safety configuration's bytes: its RSL values, then the ESL fields of the ESL entries (R504). -/
def State.safetyBytes (s : State) : List Nat :=
  let keys := objTable.flatMap (fun r => (r.bases.filter (fun b => 0x8000 ≤ b.1 && b.1 ≤ 0x81FF)).flatMap (fun b =>
    (List.range (max b.2.2 1)).flatMap (fun i => (r.subs.filter (fun d => d.acc == .rsl)).flatMap (fun d =>
      (List.range d.count).map (fun j => (key (b.1 + b.2.1 * i) (d.sub + d.stride * j), d.ty))))))
  (keys.insertionSort (fun a b => a.1 ≤ b.1)).flatMap (fun p => tyBytes p.2 (s.o p.1)) ++
  s.eslEntries.flatMap (fun e => natBytes 20 (s.pt e 0 20))

/-- SafConfigCrc differs from a non-zero SafConfigCrcExpected. -/
def State.safetyDiffers (s : State) : Bool := s.oN Obj.safConfigCrcExpected != 0 && s.oN Obj.safConfigCrc != s.oN Obj.safConfigCrcExpected

/-- After an accepted change and at each pass (R504). -/
def State.safetyCrc (s : State) : State :=
  let s := s.put Obj.safConfigCrc (crc32c s.safetyBytes : Nat)
  if s.safetyDiffers then s.raise FC.safCfgmismatch 0 else s

/-- The sensing inputs as the active set has them: an enabled one runs, a disabled one is off (R164, R185). -/
def State.sensorsFollow (s : State) : State :=
  let show1 (on : Bool) (k : Nat) (s : State) : State :=
    if s.sensing && on then (if s.oN k = 0 then s.put k 1 else s) else s.put k 0
  let s := s.forAll (List.range 32) (fun n t => show1 (t.cN (Obj.sdEnable n) == 1) (Obj.sdState n) t)
  let s := s.forAll (List.range 4) (fun n t => show1 (t.cN (Obj.vdcEnable n) == 1) (Obj.vdcState n) t)
  s.forAll (List.range 16) (fun n t => show1 (t.cN (Obj.ainMode n) != 0) (Obj.ainState n) t)

/-- A supply that is not enabled any more is held low (R162). -/
def State.suppliesFollow (s : State) : State :=
  s.forAll (List.range 48) (fun k t =>
    if t.cN (Obj.gsEnable k) = 0 ∧ t.oN (Obj.gsState k) ≠ 0 ∧ t.oN (Obj.gsState k) ≠ 6 then t.gsPut k 0 else t)

/-- A timebase under a new record: a new source or instance starts afresh (R89, R94). A synthetic one takes its frequency at every
swap of its scope, in place of a law's override (DESIGN CHOICE, log 73). -/
def State.tbSwap (old : State) (t : Nat) (s : State) : State :=
  let src := s.cN (Obj.tbSource t)
  if old.cN (Obj.tbSource t) ≠ src ∨ (src ≠ 0 ∧ old.cN (Obj.tbSourceInstance t) ≠ s.cN (Obj.tbSourceInstance t)) then s.tbEnable t
  else if src = 3 then s.setSourceSpeed t (speedOfHz (s.cF (Obj.tbSyntheticFrequency t)))
  else s

/-- The cells of an engine's two banks. -/
def State.bankCells (s : State) (e : Nat) : List Host.Cell :=
  s.mem.filter (fun p => p.1 / 33554432 == Obj.programShadow e || p.1 / 33554432 == Obj.constantShadow e)

/-- A slot under a new record (R196, R209, R210): an instance that was in progress when the swap came keeps the old banks and records. -/
def State.slotSwap (old : State) (at_ n : Nat) (s : State) : State :=
  let st := s.oN (Obj.slotState n)
  let going := (st = 2 ∨ st = 3 ∨ st = 4) ∧ (s.slotx n).startTick < at_
  let s := s.slotMod n (fun x => { x with first := true, oldBank := decide going })
  let s := s.slotDerived n
  let was := old.cN (Obj.slotEnable n)
  let want := s.cN (Obj.slotEnable n)
  if want = 0 then s.slotDown n
  else if was ≠ want ∧ (st = 1 ∨ st = 5) then s.put (Obj.slotState n) (s.enableState n)
  else (s.slotMod n (fun x => { x with disableAtEnd := false })).slotUp n

/-- An engine under a new set: instances in progress go on with what was in force at their start (R209). -/
def State.engineSwap (old : State) (at_ e : Nat) (s : State) : State :=
  let s := s.engMod e (fun x => { x with oldBanks := old.bankCells e, oldRecs := old.active })
  let s := s.forAll (slotsOf e) (State.slotSwap old at_)
  let s := if (slotsOf e).any (fun n => (s.slotx n).oldBank) then s else s.engMod e (fun x => { x with oldBanks := [], oldRecs := [] })
  s.forAll (List.range 8) (fun c t => if old.c (Obj.supEnable e c) = t.c (Obj.supEnable e c) then t else t.supRestart e c)

/-- A group under a new set: channels that it no longer holds, and a group whose mode is off, go to pulse-off (R134). -/
def State.groupSwap (old : State) (g : Nat) (s : State) : State :=
  let s := s.forAll ((old.groupChans g).filter (fun c => !(s.groupChans g).contains c && s.drive c == .switching)) State.chanOff
  if s.cN (Obj.groupMode g) = 0 then s.groupOff g else s

/-- What each block makes of the new active set. -/
def State.followSwap (old : State) (at_ map : Nat) (s : State) : State :=
  let sel (n : Nat) : Bool := map.testBit n
  let s := s.forAll ((List.range 8).filter (fun t => sel (old.tbScope t) || sel (s.tbScope t))) (State.tbSwap old)
  let s := s.forAll ((List.range 8).filter (fun e => sel (old.cN (Obj.engOwnerScope e)))) (State.engineSwap old at_)
  let s := s.forAll ((List.range 9).filter (fun o => sel (obsScope o))) State.obsSwap
  let s := s.forAll allGroups (State.groupSwap old)
  let s := s.sensorsFollow.suppliesFollow.lvFollow
  if sel 0 then
    let s := s.forAll (List.range 8) (State.canSwap old)
    let s := (s.forAll [0, 1] State.xgFollow).forAll [0, 1] State.t1sFollow
    let s := s.forAll (List.range 4) (State.linkFollow old)
    let s := if old.c Obj.monEnable = s.c Obj.monEnable then s else s.monStart
    s.eslFollow.safetyCrc
  else s

/-! ## The swap (R84) -/

/-- The status of a scope that has been swapped. -/
def State.scopeSwapped (n : Nat) (s : State) : State :=
  let s := s.put (Obj.activeSet n) (1 - s.oN (Obj.activeSet n) : Nat)
  let s := ((s.put (Obj.activeCrc n) (s.setCrc false n)).put (Obj.shadowCrc n) (s.setCrc true n)).put (Obj.shadowState n) 2
  (s.incSat (Obj.swapCount n)).put (Obj.lastSwapTime n) s.now

/-- What each block makes of the swap of the tick before, once no event can undo it any more (R84, R85). -/
def State.settleSwap (s : State) : State :=
  match s.sw.undo with
  | none => s
  | some u => State.followSwap (s.before u) u.tick u.map { s with sw := { s.sw with undo := none } }

/-- The status objects that a swap changes. -/
def swapObjs (map : Nat) : List Nat :=
  [Obj.swapEffectTime, Obj.configLoadMap] ++
  (scopesOf map).flatMap (fun n => [Obj.activeSet n, Obj.activeCrc n, Obj.shadowCrc n, Obj.swapCount n, Obj.lastSwapTime n])

/-- The armed swap takes effect on every selected scope; what the functions make of it follows at the end of the tick (R84, R85). -/
def State.takeSwap (s : State) : State :=
  let s := s.settleSwap
  let map := s.sw.map
  let u : SwapUndo := { tick := s.tick, map := map, active := s.active, objs := (swapObjs map).map (fun k => (k, s.o k)), equal := s.sw.equal, unsaved := s.sw.unsaved }
  let s := s.exchanged map
  let s := { s with sw := { s.sw with armed := false, unsaved := (s.sw.unsaved ++ scopesOf map).eraseDups, undo := some u } }
  let s := s.forAll (scopesOf map) State.scopeSwapped
  let s := (s.put Obj.swapResult 0).put Obj.swapEffectTime s.now
  (s.put Obj.configLoadMap ((scopesOf map).foldl clearBit (s.oN Obj.configLoadMap) : Nat)).log 7 map 0 0 0

/-- Every channel whose use the armed swap changes is at pulse-off; until it is, the swap waits for its next boundary (R31). -/
def State.swapFree (s : State) : Bool := !(s.exchanged s.sw.map).useChanges s

/-- The armed swap at its boundary. -/
def State.swapNow (s : State) : State := if s.swapFree then s.takeSwap else s

/-- The boundary of an armed swap has been reached: a period start of the lead group, the time, or the next tick (R84). -/
def State.boundaryHere (s : State) : Bool :=
  s.sw.armed &&
  match s.sw.boundary with
  | 0 => (s.leadGroup s.sw.timebase).isSome
  | 2 => s.sw.time ≤ s.now
  | 3 => true
  | _ => false

/-- SWAP_BOUNDARY: of the boundaries 0, 2 and 3. -/
def execSwapBoundary (s : State) : Host.Outcome State Fault Refusal := .next (if s.boundaryHere then s.swapNow else s)

/-- The passage of a timebase through SwapAngle: entry 255 of its list (R84, R102). -/
def State.swapAngle (t : Nat) (s : State) : State := if s.sw.armed ∧ s.sw.boundary = 1 ∧ s.sw.timebase = t then s.swapNow else s

/-- CONFIG_SWAP. -/
def execConfigSwap (tb : Fin 8) (s : State) : Host.Outcome State Fault Refusal := .next (s.swapAngle tb.val)

/-- The new active sets are copied into their shadows, and their selection is stored (R86); the copy of a scope waits for the
instances that still run on the old banks of its engines (R209), and no copy ends in the tick of its swap. -/
def State.copyShadows (s : State) : State :=
  let s := if s.sw.undo.any (fun u => decide (u.tick < s.tick)) then s.settleSwap else s
  let busy (n : Nat) : Bool := (List.range 64).any (fun k => (s.slotx k).oldBank && s.cN (Obj.engOwnerScope (k / 8)) == n)
  let done := (List.range 8).filter (fun n => s.oN (Obj.shadowState n) == 2 && !busy n && !s.sw.undo.any (fun u => u.map.testBit n))
  let sel (n : Nat) : Bool := done.contains n
  let rws (p : Host.Cell) : Bool :=
    match objInfo (p.1 / 33554432 / 256) (p.1 / 33554432 % 256) with
    | some o => o.row.acc.isRws && sel (s.scopeOf o)
    | none => false
  let kept := s.mem.filter (fun p => !(rws p && 16777216 ≤ p.1 % 33554432))
  let copies := (s.mem.filter (fun p => rws p && p.1 % 33554432 < 16777216)).map (fun p => (p.1 + 16777216, p.2))
  let s := { s with
    shadow := s.pickStore sel s.active s.shadow
    mem := (kept ++ copies).insertionSort (fun a b => a.1 ≤ b.1)
    sw := { s.sw with unsaved := s.sw.unsaved.filter (fun n => !sel n) } }
  s.forAll done (fun n t => (t.put (Obj.shadowState n) 0).put (Obj.shadowCrc n) (t.oN (Obj.activeCrc n) : Nat))

/-- SHADOW_COPY_COMPLETE; held while the eMRAM write supply is in fault (R558). -/
def execShadowCopyComplete (s : State) : Host.Outcome State Fault Refusal := .next (if s.nvHeld then s else s.copyShadows)

end Sys2Proof.Machine
end

