-- ==== Sys2Proof/Machine/Actuators.lean ====
section
/-! DEFINITION. The gearbox actuators (R333 to R339). -/

namespace Sys2Proof.Machine

/-- The actuators' mode and role: vehicle, M2 to M6 and M10 (R341). -/
def State.gaOn (s : State) (a : Nat) : Bool :=
  s.engOn && !s.station && mayRun (.actuator a) s.mode && !s.isl.held.contains (.actuator a) && s.cN (Obj.gaEnable a) == 1

/-- A position's value, and whether it is a stop (R339). -/
def State.gaValue (s : State) (a i : Nat) : Nat := s.cN (Obj.gaPosValue0 a + i)
def State.gaStop (s : State) (a i : Nat) : Bool := (s.cN (Obj.gaStopMap a)).testBit i

/-- The travel in revolutions from a reference, both differences signed (R334). -/
def State.gaTravel (s : State) (a : Nat) (revs : Int) (angle : Nat) : Rat :=
  let t := s.cN (Obj.gaTimebase a)
  ((s.o (Obj.tbRevolutions t) - revs : Int) : Rat) + mkRat ((s.oN (Obj.tbAngle t) : Int) - angle) 4294967296

/-- GaPosition. -/
def State.gaPos (s : State) (a : Nat) : Rat := s.gaTravel a (s.gaX a).homeRevs (s.gaX a).homeAngle + F32.toRat (s.gaX a).offset

/-- Show GaPosition. -/
def State.gaShow (a : Nat) (s : State) : State := s.putF (Obj.gaPosition a) (s.gaPos a)

/-- GaParkEngaged: homed, at rest, and last arrived at the engaged stop (R337). -/
def State.gaPark (a : Nat) (s : State) : State :=
  s.put (Obj.gaParkEngaged a) (if s.cN (Obj.gaKind a) = 1 ∧ s.oN (Obj.gaHomed a) = 1 ∧ s.oN (Obj.gaState a) = 3 ∧
    (s.gaX a).arrived = some (s.cN (Obj.gaEngagedIndex a)) then 1 else 0)

/-- The state of an actuator with no request: disabled, unhomed or at rest. -/
def State.gaIdle (a : Nat) (s : State) : State :=
  s.put (Obj.gaState a) (if s.cN (Obj.gaEnable a) = 0 then 0 else if s.oN (Obj.gaHomed a) = 1 then 3 else 1)

/-- The LV groups of an actuator's channels. -/
def State.gaGroups (s : State) (a : Nat) : List Nat := lvGroups.filter (fun g => (s.gaOfGroup g).contains a)

/-- The group goes to pulse-off at once (R335). -/
def State.gaOff (a : Nat) (s : State) : State := s.forAll (s.gaGroups a) (fun g t => (t.groupOff g).put (Obj.groupRunRequest g) 2)

/-- A failure: GaState 8 and result 0x07, the group at pulse-off (R335, R338). -/
def State.gaFail (a code inst : Nat) (s : State) : State :=
  let s := (s.put (Obj.gaState a) 8).put (Obj.gaRequestResult a) 0x07
  let s := (s.put (Obj.gaHomed a) 0).put (Obj.gaPositionIndex a) 0xFF
  (((s.gaOff a).gaPark a).raise code inst).wcParkLost a

/-- An aborted wait: result 0x06, the actuator at rest where it is (R336). -/
def State.gaAbort (a : Nat) (s : State) : State :=
  ((((s.put (Obj.gaRequestResult a) 0x06).gaMod a (fun x => { x with neutral := false })).gaIdle a).note FC.gaShiftabort a).gaPark a

/-- Begin a move to an index, with homing first where the home is lost (R335). -/
def State.gaMove (a i st : Nat) (s : State) : State :=
  let t := s.cN (Obj.gaTimebase a)
  let revs := s.o (Obj.tbRevolutions t)
  let ang := s.oN (Obj.tbAngle t)
  let s := s.forAll (s.gaGroups a) State.runGroup
  let s := (s.gaMod a (fun x => { x with step := i, startRevs := revs, startAngle := ang })).put (Obj.gaPositionIndex a) 0xFF
  (s.put (Obj.gaState a) (if s.oN (Obj.gaHomed a) = 1 then st else 2)).gaPark a

/-- Step 4: the move to the target (R336). -/
def State.gaEngage (a : Nat) (s : State) : State := (s.gaMod a (fun x => { x with neutral := false })).gaMove a (s.gaX a).goal 7

/-- Step 3: wait for GaSyncPermit (R336). -/
def State.gaSync (a : Nat) (s : State) : State :=
  let s := s.put (Obj.gaState a) 6
  if s.oN (Obj.gaSyncPermit a) = 1 then s.gaEngage a else s

/-- Step 2: to neutral, or on where no neutral is configured (R336). -/
def State.gaNeutral (a : Nat) (s : State) : State :=
  let n := s.cN (Obj.gaNeutralIndex a)
  if n = 0xFF then s.gaSync a else (s.gaMod a (fun x => { x with neutral := true })).gaMove a n 5

/-- |TracTorqueSetpoint| of GaShiftMachine is at most GaTorqueRelease; with no machine there is nothing to wait for. -/
def State.gaReleased (s : State) (a : Nat) : Bool :=
  let m := s.cN (Obj.gaShiftMachine a)
  m == 0xFF || decide (|s.oF (Obj.tracTorqueSetpoint m)| ≤ s.cF (Obj.gaTorqueRelease a))

/-- The present move arrives at its index (R335, R336). -/
def State.gaArrive (a : Nat) (s : State) : State :=
  let x := s.gaX a
  let s := (s.put (Obj.gaPositionIndex a) x.step).gaMod a (fun y => { y with arrived := some x.step })
  if x.neutral then s.gaSync a
  else
    let s := if s.cN (Obj.gaKind a) = 0 then
        ((s.put (Obj.gaSyncPermit a) 0).inc32 (Obj.gaShiftCount a)).put (Obj.gaLastShiftTime a) (min ((s.mono - x.since) / 1000000) 60000 : Nat)
      else s
    ((s.put (Obj.gaRequestResult a) 0x00).put (Obj.gaState a) 3).gaPark a

/-- Set the references so that GaPosition is a position's value (R335). -/
def State.gaReference (a i : Nat) (s : State) : State :=
  let t := s.cN (Obj.gaTimebase a)
  let revs := s.o (Obj.tbRevolutions t)
  let ang := s.oN (Obj.tbAngle t)
  let v := s.gaValue a i
  ((s.putF (Obj.gaLastStopPosition a) (s.gaPos a)).gaMod a (fun x => { x with homeRevs := revs, homeAngle := ang, offset := v })).gaShow a

/-- A locked-rotor signature: home, arrival at a stop, or OBS_LOCKED (R335). -/
def State.gaSignature (a : Nat) (s : State) : State :=
  let st := s.oN (Obj.gaState a)
  if ¬ s.gaOn a ∨ st = 0 ∨ st = 8 then s
  else if st = 2 then
    let h := s.cN (Obj.gaHomeIndex a)
    let s := (s.gaReference a h).put (Obj.gaHomed a) 1
    if (s.gaX a).step = h then s.gaArrive a else s.gaMove a (s.gaX a).step (if (s.gaX a).neutral then 5 else if s.cN (Obj.gaKind a) = 0 then 7 else 5)
  else if (st = 5 ∨ st = 7) ∧ s.gaStop a (s.gaX a).step ∧
      |s.gaPos a - F32.toRat (s.gaValue a (s.gaX a).step)| ≤ s.cF (Obj.gaWindow a) then
    (s.gaReference a (s.gaX a).step).gaArrive a
  else s.gaFail a FC.obsLocked (4 + a)

/-- GaHomeTravel is covered without a signature (R335); seen at the observer's step. -/
def State.gaTravelCheck (a : Nat) (s : State) : State :=
  let s := if s.cN (Obj.gaEnable a) = 1 ∧ s.station = false then s.gaShow a else s
  if s.gaOn a ∧ s.oN (Obj.gaState a) = 2 ∧ s.cF (Obj.gaHomeTravel a) ≤ |s.gaTravel a (s.gaX a).startRevs (s.gaX a).startAngle| then
    s.gaFail a FC.gaHomefail a
  else s

/-! ## Requests (R336 to R338) -/

/-- The park-lock condition refuses a request (R337). -/
def State.gaParkRefuses (s : State) (a i : Nat) : Bool :=
  s.cN (Obj.gaKind a) == 1 &&
  (if i = s.cN (Obj.gaEngagedIndex a) then
    s.cN (Obj.gaShiftMachine a) != 0xFF &&
    decide (s.cF (Obj.gaParkMaxSpeed a) < 60 * |s.oF (Obj.obsFrequency (s.cN (Obj.gaShiftMachine a)))| / (s.cN (Obj.obsPolePairs (s.cN (Obj.gaShiftMachine a))) : Rat))
  else s.mode == 5 || (s.mode == 6 && (s.oN Obj.wcTopology == 1 || s.oN Obj.wcTopology == 2)))

/-- The code of a request, 0x01 where it is accepted (R338). -/
def State.gaCode (s : State) (a v : Nat) : Nat :=
  let st := s.oN (Obj.gaState a)
  if st = 2 ∨ 4 ≤ st then 0x02
  else if 7 < v ∨ s.cN (Obj.gaEnable a) = 0 then 0x03
  else if ¬ mayRun (.actuator a) s.mode ∨ s.isl.held.contains (.actuator a) then 0x04
  else if s.gaParkRefuses a v then 0x05
  else 0x01

/-- GA_REQUEST. -/
def State.gaAsk (a v : Nat) (s : State) : State :=
  let c := s.gaCode a v
  let s := s.put (Obj.gaRequestResult a) c
  if c ≠ 0x01 then s
  else
    let now := s.mono
    let s := (s.put (Obj.gaRequest a) v).gaMod a (fun x => { x with goal := v, since := now, neutral := false })
    if s.cN (Obj.gaKind a) = 1 then s.gaMove a v 5
    else if s.mode = 10 then s.gaMove a v 7
    else if s.gaReleased a then s.gaNeutral a
    else (s.put (Obj.gaState a) 4).gaPark a

/-- GA_REQUEST. -/
def execGaRequest (actuator : Fin 4) (value : Byte) (role : Role) (s : State) : Host.Outcome State Fault Refusal :=
  .next (s.accessAt role 2 (Obj.gaRequest actuator) (!s.station) (State.gaAsk actuator.val value.toNat))

/-- GA_TORQUE_RELEASED. -/
def execGaTorqueReleased (actuator : Fin 4) (s : State) : Host.Outcome State Fault Refusal :=
  .next (if s.gaOn actuator ∧ s.oN (Obj.gaState actuator) = 4 ∧ s.gaReleased actuator then s.gaNeutral actuator else s)

/-- GA_RELEASE_TIMEOUT: the actuator stays where it was (R336). -/
def execGaReleaseTimeout (actuator : Fin 4) (s : State) : Host.Outcome State Fault Refusal :=
  .next (if s.gaOn actuator ∧ s.oN (Obj.gaState actuator) = 4 then s.gaAbort actuator else s)

/-- GA_SYNC_PERMIT: a write of 1 to GaSyncPermit. -/
def execGaSyncPermit (actuator : Fin 4) (role : Role) (s : State) : Host.Outcome State Fault Refusal :=
  .next (s.accessAt role 2 (Obj.gaSyncPermit actuator) (!s.station) (fun s =>
    let s := s.put (Obj.gaSyncPermit actuator) 1
    if s.gaOn actuator ∧ s.oN (Obj.gaState actuator) = 6 then s.gaEngage actuator else s))

/-- GA_SYNC_TIMEOUT: the actuator stays in neutral (R336). -/
def execGaSyncTimeout (actuator : Fin 4) (s : State) : Host.Outcome State Fault Refusal :=
  .next (if s.gaOn actuator ∧ s.oN (Obj.gaState actuator) = 6 then s.gaAbort actuator else s)

/-- GA_ARRIVAL: a held position has been held for GaSettleTime (R335). -/
def State.gaSettled (a : Nat) (s : State) : State :=
  if s.gaOn a ∧ (s.oN (Obj.gaState a) = 5 ∨ s.oN (Obj.gaState a) = 7) ∧ ¬ s.gaStop a (s.gaX a).step ∧
      |s.gaPos a - F32.toRat (s.gaValue a (s.gaX a).step)| ≤ s.cF (Obj.gaArriveTolerance a) then s.gaArrive a else s

/-- GA_ARRIVAL. -/
def execGaArrival (actuator : Fin 4) (s : State) : Host.Outcome State Fault Refusal := .next (s.gaSettled actuator.val)

/-- GA_MOVETIMEOUT (R335). -/
def execGaMovetimeout (actuator : Fin 4) (s : State) : Host.Outcome State Fault Refusal :=
  .next (if s.gaOn actuator ∧ [2, 5, 7].contains (s.oN (Obj.gaState actuator)) then s.gaFail actuator FC.gaMovetimeout actuator else s)

/-! ## Mailbox words (R333) -/

/-- Target, speed limit, current limit and flags of an actuator. -/
def State.gaSet (s : State) (a : Nat) : List Nat :=
  let st := s.oN (Obj.gaState a)
  let x := s.gaX a
  let half := F32.ofRat (s.cF (Obj.gaSpeedMax a) / 2)
  let full := if s.mode = 10 then half else s.cN (Obj.gaSpeedMax a)
  let at_ := fun i => [s.gaValue a i, full, if s.gaStop a i then s.cN (Obj.gaEngageCurrent a) else s.cN (Obj.gaMoveCurrent a)]
  if st = 2 then [s.gaValue a (s.cN (Obj.gaHomeIndex a)), half, s.cN (Obj.gaHomeCurrent a), 0]
  else if st = 5 ∨ st = 7 then at_ x.step ++ [0]
  else match x.arrived with
    | some i => if st = 3 ∨ st = 4 ∨ st = 6 then at_ i ++ [if s.gaStop a i then 1 else 0] else at_ i ++ [1]
    | none => [s.oN (Obj.gaPosition a), full, 0, 1]

/-- The words of the law slot's snapshot. -/
def State.gaWords (n : Nat) (s : State) : State :=
  s.forAll ((List.range 4).filter (fun a => s.gaOn a && s.cN (Obj.gaLawSlot a) == n)) (fun a t =>
    let ws := (t.gaSet a).zipIdx.map (fun p => (0x160 + 4 * a + p.2, p.1))
    t.slotMod n (fun x => { x with words := x.words.filter (fun p => p.1 < 0x160 + 4 * a || 0x163 + 4 * a < p.1) ++ ws }))

/-- The per-function reset of class 0x07: actuator state and end-stop record (R56). -/
def State.gaReset (a : Nat) (s : State) : State :=
  let s := ((((s.put (Obj.gaHomed a) 0).put (Obj.gaPositionIndex a) 0xFF).put (Obj.gaLastStopPosition a) 0).put (Obj.gaRequestResult a) 0).gaMod a (fun _ => {})
  ((s.gaIdle a).gaPark a).gaShow a

end Sys2Proof.Machine
end

