-- ==== Sys2Proof/Machine/Halt.lean ====
section
/-! DEFINITION. The orderly stop of a function under a HALT fault (R532): what each function's own chapter does to stop. -/

namespace Sys2Proof.Machine

/-- Request pulse-off of groups at their next period start (R113). -/
def State.stopGroups (gs : List Nat) (s : State) : State := s.forAll gs (fun g => State.put (Obj.groupRunRequest g) 0)

/-- A session of M5 or M6 ends on a fault: the current ramps down, and the mode returns to M2 (R46). -/
def State.chargingHalt (code : Nat) (s : State) : State :=
  if s.mode = 5 ∨ s.mode = 6 then
    (s.wcRamp.lkStop 5).sessionEnd code
  else s

/-- A charge phase is terminated (R303). -/
def State.cpHalt (c : Nat) (s : State) : State :=
  if (s.cpx c).session ∧ s.oN (Obj.cpPhase c) ≠ 8 then s.cpEndPhase c 8 (if s.oN (Obj.cpTermCause c) = 0 then 3 else s.oN (Obj.cpTermCause c)) else s

/-- The post's session is stopped, and remembers the fault that ends it (R46, R351). -/
def State.postHalt (code : Nat) (s : State) : State :=
  let s := s.postStop 5
  if s.postOpen ∧ s.post.code = 0 then s.postMod (fun x => { x with code := code }) else s

/-- An actuator stops at fault (R334). -/
def State.gaHalt (a : Nat) (s : State) : State :=
  let st := s.oN (Obj.gaState a)
  if st = 0 ∨ st = 8 then s
  else
    let s := if st = 1 ∨ st = 3 then s else s.put (Obj.gaRequestResult a) 0x07
    (((((s.put (Obj.gaState a) 8).put (Obj.gaHomed a) 0).put (Obj.gaPositionIndex a) 0xFF).gaOff a).gaPark a).wcParkLost a

/-- The orderly stop of one function for a code. -/
def State.haltFn (code : Nat) (f : Fn) (s : State) : State :=
  match f with
  | .traction _ => s.stopGroups (s.fnGroups f)
  | .winding | .inlet => s.chargingHalt code
  | .lvConverter => s.lvHalt 6
  | .chargePhase c => s.cpHalt c
  | .actuator a => s.gaHalt a
  | .tandem => s.tdEnd
  | .stationPower => s.stDown
  | .post => s.postHalt code
  | .cooling => if s.oN Obj.ccState = 1 ∨ s.oN Obj.ccState = 2 then s.pumpStop 3 else s
  | .hbGroup g | .lvGroup g => s.stopGroups [g]
  | .monarch | .metering | .engine _ | .timebase _ | .can _ | .esl _ => s

end Sys2Proof.Machine
end

