-- ==== Sys2Proof/Machine/Faults.lean ====
section
/-! DEFINITION. The fault collector's records, clearing, the event log and injection (R531 to R541). -/

namespace Sys2Proof.Machine

/-! ## Records -/

/-- The reaction domain of an HB channel, named by machine or group (R151). -/
def State.domainOf (s : State) (n : Nat) : Fn :=
  if s.cN (Obj.hbClass n) = 0 ∧ s.cN (Obj.hbMachine n) ≠ 0xFF then .traction (s.cN (Obj.hbMachine n))
  else match s.groupOfHb n with
    | some g => .hbGroup g
    | none => .hbGroup (100 + n)

/-- Whether two raises are of the same function for merging (R533): the same reaction domain for gate-drive codes,
otherwise the same subsystem and instance. -/
def State.sameFunction (s : State) (c1 i1 c2 i2 : Nat) : Bool :=
  if c1 / 256 = 5 ∧ c2 / 256 = 5 then s.domainOf i1 == s.domainOf i2
  else c1 / 256 == c2 / 256 && i1 == i2

/-- A record holds a code and instance, as its own or merged. -/
def FaultRec.holds (r : FaultRec) (code inst : Nat) : Bool := (r.code == code && r.inst == inst) || r.merged.contains (code, inst)

/-- The slot whose record is the newest that holds a code and instance. -/
def State.slotHolding (s : State) (code inst : Nat) : Option Nat :=
  (s.fc.slots.foldl (fun (best : Option (Nat × Nat)) p =>
    if p.2.holds code inst && !p.2.previousCycle && (match best with | none => true | some b => decide (b.2 < p.2.seq)) then some (p.1, p.2.seq)
    else best) none).map Prod.fst

/-- The slot whose record was opened at most 1 µs before a raise for the same function (R533). -/
def State.slotMerging (s : State) (r : Raise) : Option Nat :=
  (s.fc.slots.find? (fun p => !p.2.previousCycle && !p.2.fromIsland && p.2.firstTime ≤ r.time && r.time - p.2.firstTime ≤ 1000 &&
    s.sameFunction p.2.code p.2.inst r.code r.inst)).map Prod.fst

/-- Change the record in a slot. -/
def State.modRecord (slot : Nat) (f : FaultRec → FaultRec) (s : State) : State :=
  { s with fc := { s.fc with slots := s.fc.slots.map (fun p => if p.1 = slot then (p.1, f p.2) else p) } }

/-- Open a record in the next slot: the first 32 of a power cycle are protected, later ones take 32 to 255 in turn
(R537). -/
def State.openRecord (r : FaultRec) (s : State) : State :=
  let n := s.fc.nextSeq
  let slot := if n ≤ 32 then n - 1 else s.fc.nextSlot
  let nextSlot := if n ≤ 32 then s.fc.nextSlot else if s.fc.nextSlot = 255 then 32 else s.fc.nextSlot + 1
  let slots := (s.fc.slots.filter (fun p => p.1 != slot)) ++ [(slot, { r with seq := n })]
  let s := { s with fc := { s.fc with slots := slots, nextSeq := n + 1, nextSlot := nextSlot } }
  (s.put Obj.faultRecordCount (min n 256 : Nat)).put Obj.faultRecordNewest n

/-- The class reaction that H0 applies (R532): a HALT stops the owning functions in an orderly way. A DERATE applies as
its chapter's own rule states; SAFE and CRITICAL have acted at the raise. -/
def State.react (r : Raise) (s : State) : State :=
  if r.cls = 2 then (s.faultFns r.code r.inst).foldl (fun t f => t.haltFn r.code f) s else s

/-- H0 takes one raise into a new, repeated or merged record (R533). -/
def State.takeRaise (r : Raise) (s : State) : State :=
  match (if r.again then s.slotHolding r.code r.inst else none) with
  | some slot =>
    (s.modRecord slot (fun x => { x with occurrences := min (x.occurrences + 1) 4294967295, lastTime := r.time })).log 3 r.code r.inst 0 0
  | none =>
    match s.slotMerging r with
    | some slot =>
      (s.modRecord slot (fun x =>
        if x.merged.length < 8 then
          { x with merged := x.merged ++ [(r.code, r.inst)], occurrences := min (x.occurrences + 1) 4294967295, lastTime := r.time }
        else { x with occurrences := min (x.occurrences + 1) 4294967295, overflow := true, lastTime := r.time })).log 2 r.code r.inst 0 0
    | none =>
      let rec0 : FaultRec := { code := r.code, cls := r.cls, inst := r.inst, seq := 0, firstTime := r.time, lastTime := r.time, occurrences := 1, mode := r.mode, injected := r.injected, chrysalis := s.nv.chrysalisCount, context := r.context }
      (s.openRecord rec0).log 1 r.code r.inst 0 0

/-- FAULT_RAISE: a block hands the collector a code and instance. -/
def execFaultRaise (code inst : BitVec 16) (s : State) : Host.Outcome State Fault Refusal :=
  .next (if s.plat.mainOn then s.raise code.toNat inst.toNat else s)

/-- R532, R533: the head of the queue becomes a record, and its class reaction is applied. -/
def State.recordTake (s : State) : State :=
  match s.fc.queue with
  | [] => s
  | r :: rest => (({ s with fc := { s.fc with queue := rest } }).takeRaise r).react r

/-- FAULT_RECORD_TAKE. -/
def execFaultRecordTake (s : State) : Host.Outcome State Fault Refusal := .next s.recordTake

/-! ## Clearing -/

/-- The cause of a fault is still present (R534): the state or level that raised it still holds. Codes raised by an event
have no such state, and their cause is gone from the tick after the raise. -/
def State.causePresent (s : State) (code inst : Nat) : Bool :=
  if code = FC.bootSealbreak then s.plat.sealLatch != s.nv.sealReference
  else if code = FC.tbLost then s.oN (Obj.tbLockState inst) == 4
  else if code = FC.tbHoldover then s.oN (Obj.tbLockState inst) == 3
  else if code = FC.gdDesat ∨ code = FC.gdHardshort then
    s.causeHolds inst 1
  else if code = FC.gdOvercurrent then s.cN (Obj.hbCurrentInput inst) != 0xFF && s.sdTripped.getD (s.cN (Obj.hbCurrentInput inst)) false
  else if code = FC.gdUvlo then s.oN (Obj.gsState (2 * inst)) == 4 || s.oN (Obj.gsState (2 * inst + 1)) == 4
  else if code = FC.gdOvlo then s.oN (Obj.gsState (2 * inst)) == 5 || s.oN (Obj.gsState (2 * inst + 1)) == 5
  else if code = FC.snsSdstuck then s.oN (Obj.sdState inst) == 2
  else if code = FC.snsSdclk then (List.range 32).any (fun n => s.cN (Obj.sdClock n) == inst && s.oN (Obj.sdState n) == 3)
  else if code = FC.snsVdcimpl then s.oN (Obj.vdcState inst) == 2
  else if code = FC.snsVdcrange then s.oN (Obj.vdcState inst) == 3
  else if code = FC.snsAinrange then s.oN (Obj.ainState inst) == 2
  else if code = FC.snsLvrange then if inst < 16 then s.oN (Obj.lvSenseState inst) != 0 else 32 ≤ s.snx.rail.getD (16 + inst) 0
  else if code = FC.engNonfinite then s.oN (Obj.slotState inst) == 7
  else if code = FC.obsImplausible then s.oN (Obj.obsSupState inst) == 3
  else if code = FC.obsLost then s.oN (Obj.obsRegime inst) == 7
  else if code = FC.obsReacqfail ∨ code = FC.obsStartfail ∨ code = FC.obsPolarity then s.oN (Obj.obsRegime inst) == 8
  else if code = FC.obsStall ∨ code = FC.obsLocked then s.oN (Obj.commStallState inst) == 2
  else if code = FC.trcSensor then (s.oN (Obj.tracLimpCause inst)).testBit 0
  else if code = FC.trcOpenset then (s.oN (Obj.tracLimpCause inst)).testBit 1
  else if code = FC.trcOv1 then 1 ≤ s.oN (Obj.tracOvStage inst)
  else if code = FC.trcOv2 then 2 ≤ s.oN (Obj.tracOvStage inst)
  else if code = FC.trcOv3 ∨ code = FC.trcChopper then
    s.oN (Obj.tracChopperAvailable inst) == 0 || s.oF (Obj.vdcValue inst) > s.cF (Obj.tracOv2 inst)
  else if code = FC.lnkPilot then 5 ≤ s.oN Obj.lkPilotState
  else if code = FC.lnkPintemp then s.oF Obj.lkPinTempMax > s.cF Obj.lkPinTempDerate
  else if code = FC.lnkPinhot then s.oF Obj.lkPinTempMax ≥ s.cF Obj.lkPinTempLimit
  else if code = FC.stnLinkov then s.oF Obj.stLinkVoltage > s.cF Obj.stLinkOv3
  else if code = FC.ccFlow then s.oN Obj.ccState == 2
  else if code = FC.ccPressure then s.oN Obj.ccState == 4
  else if code = FC.ccHotspot then s.oF Obj.ccHotSpot > s.cF Obj.ccConductorLimit + 5
  else if code = FC.canIdclash then s.oN (Obj.canTxHeadState inst) == 3
  else if code = FC.canBusoff then s.oN (Obj.canState inst) == 4 || s.oN (Obj.canState inst) == 5
  else if code = FC.canErrpassive then s.oN (Obj.canState inst) == 3
  else if code = FC.netLinkdown then inst < 2 && s.oN (Obj.xgLinkState inst) == 1
  else if code = FC.netPlca then 2 ≤ inst && s.oN (Obj.t1sPlcaState (inst - 2)) == 2
  else if code = FC.netTimeloss then s.oN Obj.devTimeState == 3
  else if code = FC.safSidemand then s.oN (Obj.siValue inst) == 0
  else if code = FC.safCfgmismatch then s.oN Obj.safConfigCrc != s.oN Obj.safConfigCrcExpected && s.oN Obj.safConfigCrcExpected != 0
  else if code = FC.hmTemphigh then s.oN (Obj.tsState inst) == 2 || s.oN (Obj.tsState inst) == 3
  else if code = FC.hmTempcrit then s.oN (Obj.tsState inst) == 3
  else if code = FC.hmTempsensor then s.oN (Obj.tsState inst) == 4
  else if code = FC.hmVoltwarn then s.oN (Obj.vmState inst) != 0
  else if code = FC.hmVoltfault then s.oN (Obj.vmState inst) == 2
  else if code = FC.hmProcess then decide (s.oF Obj.hmDriftLimit < |s.oF (Obj.pmDrift inst)|)
  else if code = FC.leaveWait then s.leave.waiting.any (fun e => leaveClass e.op == inst && e.warned)
  else if code = FC.leaveSafetyover then decide (s.oN Obj.leaveSafetyReserve < s.leaveSum (fun k => k == 0))
  else if code = FC.safProofdue then decide (s.oN Obj.safProofInterval ≤ s.sinceProof)
  else if code = FC.mtrAsync then s.oN Obj.mtrState == 4
  else if code = FC.trcReqloss then (s.tracx inst).reqLoss
  else if code = FC.trcThermal then (map8 (s.cN (Obj.tracTempInputs inst))).any (fun a => a < 16 && s.oN (Obj.ainState a) == 2)
  else if code = FC.ccSensor then s.ccInputs.any s.ainLost
  else if code = FC.monExpired then s.oN Obj.monClientState == 4
  else if code = FC.wcTriplatch then s.wc.latched
  else if code = FC.stnTriplatch then s.st.latched
  else false

/-- The named instances of a code whose status is set; 0xFFFF names all (R535). -/
def State.namedSet (s : State) (code inst : Nat) : List Nat :=
  (s.fc.active.filter (fun p => p.1 == code && (inst == 0xFFFF || p.2 == inst))).map Prod.snd

/-- The record takes ClearTime for a cleared code, and its cleared flag once every code it holds is cleared (R535). -/
def FaultRec.clear (r : FaultRec) (code inst now : Nat) : FaultRec :=
  if r.holds code inst ∧ ¬ r.previousCycle ∧ ¬ r.fromIsland then
    let cs := if r.clearedCodes.contains (code, inst) then r.clearedCodes else r.clearedCodes ++ [(code, inst)]
    { r with clearedCodes := cs, clearTime := now, cleared := ((r.code, r.inst) :: r.merged).all (fun p => cs.contains p) }
  else r

/-- R535: evaluate a clear request of a code and instance. -/
def State.clearFault (code inst : Nat) (s : State) : State :=
  match faultRow code with
  | none => s.put Obj.faultClearResult 0x03
  | some _ =>
    let named := s.namedSet code inst
    if named = [] then s.put Obj.faultClearResult 0x01
    else if named.any (s.causePresent code) then
      let s := (s.put Obj.faultClearResult 0x02).incSat Obj.faultClearRefusedCount
      let s := named.foldl (fun t i => match t.slotHolding code i with
        | some slot => t.modRecord slot (fun x => { x with clearRefused := min (x.clearRefused + 1) 4294967295 })
        | none => t) s
      s.log 5 code inst 2 0
    else
      let now := s.now
      let s := { s with fc := { s.fc with
        active := s.fc.active.filter (fun (p : Nat × Nat) => !(p.1 == code && named.contains p.2)),
        slots := s.fc.slots.map (fun (p : Nat × FaultRec) => (p.1, named.foldl (fun (r : FaultRec) i => r.clear code i now) p.2)) } }
      let s := if s.fc.active.any (fun p => p.1 == code) then s else s.statusBit code false
      (((s.refreshClassMap.put Obj.faultClearResult 0x00).incSat Obj.faultClearCount).log 4 code inst 0 0)

/-- FAULT_CLEAR_REQUEST: R535; SAFE and CRITICAL need an Integrator, other codes an Operator. -/
def execFaultClearRequest (value : BitVec 32) (role : Role) (s : State) : Host.Outcome State Fault Refusal :=
  .next (
    if ¬ s.up then s
    else
      let code := value.toNat / 65536
      let inst := value.toNat % 65536
      if roleRank role < (if 3 ≤ s.faultClass code inst then 3 else 2) then s.refuse 0x05 else s.clearFault code inst)

/-! ## Event log -/

/-- R539: the staged entries go to the ring of 4,096, oldest first out. -/
def State.flushLog (s : State) : State :=
  let all := s.fc.ring ++ s.fc.staged
  { s with fc := { s.fc with ring := all.drop (all.length - 4096), ringCount := s.fc.ringCount + s.fc.staged.length, staged := [] } }

/-- EVENT_LOG_FLUSH. -/
def execEventLogFlush (s : State) : Host.Outcome State Fault Refusal := .next (if s.up && !s.nvHeld then s.flushLog else s)

/-! ## Injection -/

/-- R541: the code of InjectCode raised as if detected, the pins masked unless InjectPinOverride is 1. -/
def State.inject (s : State) : State :=
  let code := s.oN Obj.injectCode / 65536
  let inst := s.oN Obj.injectCode % 65536
  match faultRow code with
  | none => s.put Obj.injectResult 0x01
  | some r =>
    if r.recordOnly then s.put Obj.injectResult 0x01
    else if r.allows inst then (s.put Obj.injectResult 0x00).raiseWith code inst true (s.oN Obj.injectPinOverride != 1)
    else s.put Obj.injectResult 0x02

/-- FAULT_INJECT: a write of 1 to InjectCommand, in M11 by a Vendor session (R49, R430). -/
def execFaultInject (role : Role) (s : State) : Host.Outcome State Fault Refusal :=
  .next (if ¬ s.up then s else if roleRank role < 5 then s.refuse 0x05 else if s.mode ≠ 11 then s.refuse 0x0A else s.inject)

end Sys2Proof.Machine
end

