-- ==== Sys2Proof/Machine/FnReset.lean ====
section
/-! DEFINITION. The island's releases (R47, R58) and the per-function reset (R54 to R59). -/

namespace Sys2Proof.Machine

/-! ## Release by the island -/

/-- No function of a list is held under a SAFE fault. -/
def State.unheld (s : State) (fs : List Fn) : Bool := fs.all (fun f => !s.isl.held.contains f)

/-- A channel passes from the island to idle at pulse-off (R160). -/
def State.channelFree (n : Nat) (s : State) : State :=
  ((s.setHb n .pulseOff).put (Obj.hbProtState n) 0).put (Obj.hbReaction n) 0 |>.chMod n (fun x => { x with causes := [], secondWait := false, rearm := false })

/-- Every channel, group and output that the island holds for no function any more is released: channels at pulse-off, outputs
de-energised, gate supplies to regulation or start-up (R47, R58, R145, R160); outside M9 CocoonHold goes with the last hold
(R66). -/
def State.releaseUnheld (s : State) : State :=
  if s.isl.whole then s
  else
    let hbs := (List.range 24).filter (fun n => s.oN (Obj.hbProtState n) == 5 && s.unheld (s.hbOwner n).toList)
    let s := s.forAll hbs State.channelFree
    let s := { s with isl := { s.isl with kept := s.isl.kept.filter (fun m => s.isl.held.contains (.traction m)) } }
    let gs := allGroups.filter (fun g => s.oN (Obj.groupState g) == 3 &&
      (if g < 16 then (s.groupChannels g).all (fun n => s.oN (Obj.hbProtState n) != 5) else s.unheld ((s.groupChannels g).filterMap s.lvOwner)))
    let s := s.forAll gs (fun g => State.put (Obj.groupState g) 0)
    let sos := (List.range 8).filter (fun n => s.oN (Obj.soState n) == 7 && s.unheld (s.soOwner n).toList)
    let s := s.forAll sos (State.soLow 1)
    let s := s.releaseSupplies hbs
    if s.isl.held.isEmpty && s.mode != 9 then { s with isl := { s.isl with cocoonHold := false, holdCode := 0 } } else s

/-! ## What a class covers -/

/-- The highest instance of a class (R56). -/
def resetInstances : Nat → Option Nat
  | 1 | 3 => some 11
  | 2 | 4 | 5 | 10 => some 7
  | 6 | 7 => some 3
  | 8 | 12 | 13 | 14 => some 0
  | 9 => some 1
  | 11 => some 2047
  | _ => none

/-- The functions whose law slots lie on an engine. -/
def State.engineFns (s : State) (e : Nat) : List Fn := (slotsOf e).filterMap s.slotOwner

/-- The functions that a reset restarts, and so releases (R58). -/
def State.resetFns (s : State) (cls inst : Nat) : List Fn :=
  match cls with
  | 1 => .hbGroup inst :: s.groupFns inst ++ (s.groupChannels inst).filterMap s.hbOwner
  | 2 => .lvGroup (16 + inst) :: s.groupFns (16 + inst) ++ (s.groupChannels (16 + inst)).filterMap s.lvOwner
  | 4 => s.engineFns inst
  | 6 => [.traction inst]
  | 7 => [.actuator inst]
  | 8 => [.lvConverter]
  | 9 => [.chargePhase inst]
  | 10 => [.can inst]
  | 11 => s.faultFns FC.eslWdog inst
  | 12 => [.tandem]
  | 13 => [.monarch]
  | 14 => [.metering]
  | _ => []

/-- Whether a SAFE fault concerns a reset's function: by the functions it names, or, for an engine, a timebase, an observer and a
group's supplies, by subsystem and instance. -/
def State.faultOnReset (s : State) (cls inst code fi : Nat) : Bool :=
  match cls with
  | 3 => (s.faultFns code fi).any (fun f => (s.resetFns 1 inst).contains f)
  | 4 => code / 256 == 7 && fi / 8 == inst
  | 5 => code / 256 == 3 && fi == inst
  | 6 => code / 256 == 8 && fi == inst
  | 11 => code == FC.eslWdog && fi == inst
  | _ => (s.faultFns code fi).any (fun f => (s.resetFns cls inst).contains f)

/-- A SAFE fault on the function is set, or the cause of one that was recorded is present (R55, R58). -/
def State.resetBlocked (s : State) (cls inst : Nat) : Bool :=
  s.fc.active.any (fun p => s.faultClass p.1 p.2 == 3 && s.faultOnReset cls inst p.1 p.2) ||
  s.fc.slots.any (fun p => !p.2.previousCycle && p.2.cls == 3 && s.faultOnReset cls inst p.2.code p.2.inst && s.causePresent p.2.code p.2.inst)

/-- A SAFE fault that names a function is set. -/
def State.safeOn (s : State) (f : Fn) : Bool := s.fc.active.any (fun p => s.faultClass p.1 p.2 == 3 && (s.faultFns p.1 p.2).contains f)

/-- Every channel of a group at pulse-off. -/
def State.groupPulseOff (s : State) (g : Nat) : Bool := (s.groupChans g).all (fun c => s.drive c == .pulseOff)

/-- The function exists in the role and under its seal (R55, R60). -/
def State.resetPresent (s : State) (cls : Nat) : Bool :=
  match cls with
  | 6 | 7 | 8 | 9 => !s.station
  | 12 => if s.station then s.sealPin 6 else s.sealPin 7
  | 13 => s.station && s.sealPin 7
  | 14 => s.sealPin 1
  | _ => true

/-- The precondition of a class (R56). -/
def State.resetReady (s : State) (cls inst : Nat) : Bool :=
  match cls with
  | 1 | 3 => s.groupPulseOff inst
  | 2 => s.groupPulseOff (16 + inst)
  | 4 => (slotsOf inst).all (fun n => s.oN (Obj.slotState n) == 0 ||
      (match s.slotOwner n with
        | some f => (s.fnGroups f).all s.groupPulseOff
        | none => (allGroups.filter (fun g => (s.cN (Obj.slotOutputMap n)).testBit g)).all s.groupPulseOff))
  | 5 => allGroups.all (fun g => !(s.switching g && s.cN (Obj.groupTimebase g) == inst))
  | 6 => (s.machineHbs inst).all (fun n => s.drive n == .pulseOff)
  | 7 => (s.gaGroups inst).all s.groupPulseOff
  | 8 => s.oN Obj.lvState == 0 || s.oN Obj.lvState == 6
  | 9 => !(s.cpx inst).session || [0, 6, 8].contains (s.oN (Obj.cpPhase inst))
  | 12 => !(1 ≤ s.oN Obj.tdState && s.oN Obj.tdState ≤ 5)
  | 13 => s.oN Obj.monState == 0 && s.mon.offAt + s.cN Obj.monRenewPeriod * 1000000 ≤ s.mono
  | 14 => s.mtr.session.isNone
  | _ => true

/-! ## Requests -/

/-- The refusal code of a request, in R55's order; 0 where it is accepted. -/
def State.resetCode (s : State) (cls inst : Nat) : Nat :=
  firstCode [
    (0x06, decide (s.mode ≤ 1) || s.mode == 11),
    (0x01, s.md.resetClass != 0),
    (0x02, (resetInstances cls).isNone),
    (0x03, match resetInstances cls with | some m => decide (m < inst) | none => true),
    (0x05, !s.resetPresent cls),
    (0x07, s.resetBlocked cls inst),
    (0x04, !s.resetReady cls inst)]

/-- A request is evaluated: refused and counted, or a reset begins; an accepted one cancels an armed swap of its scope (R55, R83). -/
def State.resetAsk (value : Nat) (s : State) : State :=
  let cls := value / 65536
  let inst := value % 65536
  let code := s.resetCode cls inst
  if code ≠ 0 then ((s.put Obj.functionResetResult code).incSat Obj.functionResetRefused).log 8 cls inst code 0
  else
    let s := (s.put Obj.functionResetResult 1).put Obj.functionResetLast value
    let s := { s with md := { s.md with resetClass := cls, resetInst := inst } }
    let s := if cls = 11 then s.eslSuspend inst else s
    if s.sw.map.testBit (s.resetScope cls inst) then s.cancelSwap 0x0D else s

/-- FUNCTION_RESET_REQUEST. -/
def execFunctionResetRequest (value : BitVec 32) (role : Role) (s : State) : Host.Outcome State Fault Refusal :=
  .next (s.accessAt role 2 Obj.functionResetRequest true (fun t => if 16777216 ≤ value.toNat then t.refuse 0x06 else t.resetAsk value.toNat))

/-! ## Effects (R56) -/

/-- Latched channels of a group go idle with their retry records (R158, R160). -/
def State.unlatch (g : Nat) (s : State) : State :=
  let s := s.forAll (s.groupChannels g) (fun n t =>
    let t := (t.chMod n (fun x => { x with retries := [] })).put (Obj.hbRetriesInWindow n) 0
    if t.oN (Obj.hbProtState n) = 4 then t.channelFree n else t)
  if s.oN (Obj.groupState g) = 2 ∧ (s.groupChannels g).all (fun n => ¬ [2, 3, 4].contains (s.oN (Obj.hbProtState n))) then s.put (Obj.groupState g) 0 else s

/-- A link's chopper is available again (R286). -/
def State.chopperReset (g : Nat) (s : State) : State :=
  s.forAll ((List.range 4).filter (fun l => s.linkChopper l == some g)) (fun l t =>
    ((t.put (Obj.tracChopperAvailable l) 1).showOv3 l).chMod (s.cN (Obj.tracChopperChannel l)) (fun x => { x with lowOn := none, unmoved := 0 }))

/-- What the reset of a class clears (R56). -/
def State.resetEffect (cls inst : Nat) (s : State) : State :=
  match cls with
  | 1 => ((((s.put (Obj.groupRunRequest inst) 0).put (Obj.groupPeriodCount inst) 0).unlatch inst).chopperReset inst).stageReset inst
  | 2 =>
    let g := 16 + inst
    let s := (s.put (Obj.groupRunRequest g) 0).forAll (s.groupChannels g) (fun n t => t.chMod (24 + n) (fun x => { x with refreshRun := 0, bstLow := 0 }))
    let phases := (s.groupChannels g).filter (fun n => (s.cN Obj.lvPhaseMap).testBit n && !(s.lvPhase n).removed)
    s.forAll phases (fun n t => (t.put Obj.lvHiccupPhases (clearBit (t.oN Obj.lvHiccupPhases) n)).lvPhaseMod n (fun x => { x with limited := 0, entries := [] }))
  | 3 =>
    let ns := (s.groupChannels inst).filter (fun n => s.oN (Obj.hbProtState n) != 5)
    (s.forAll (ns.flatMap (fun n => [2 * n, 2 * n + 1])) (fun k t => t.gsPut k 0)).startSupplies ns
  | 4 => s.engineReset inst
  | 5 => s.tbEnable inst
  | 6 => s.obsReset inst
  | 7 => (s.gaReset inst).obsReset (4 + inst)
  | 8 => s.lvReset
  | 9 => s.cpReset inst
  | 10 => s.canReset inst
  | 11 => s.eslReset inst
  | 12 => (({ s with td := {} }.put Obj.tdState 0).put Obj.tdThermalLimit 0).put Obj.tdConductorTemp 0
  | 13 => { s.monStart with mon := { s.mon with ledger := [], deferred := [], refused := [], peers := [], storageAt := none, low := false, inbox := [] } }
  | 14 =>
    (s.mtrMod (fun m => { m with samples := [], lastTick := none, means := [0, 0, 0, 0, 0, 0], settled := 0, dcSum := 0, dcVolts := 0, dcAmps := 0, dcCount := 0,
                                 fullScale := List.replicate 8 0, pq := List.replicate 3 {} })).put Obj.mtrState (if s.acOn then 1 else 0)
  | _ => s

/-- Completion: the class's effect, and the release of the functions it restarts, unless a SAFE fault has come meanwhile
(R56, R58, R59). -/
def State.resetDone (s : State) : State :=
  let cls := s.md.resetClass
  let inst := s.md.resetInst
  if cls = 0 then s
  else
    let s := s.resetEffect cls inst
    let freed := (s.resetFns cls inst).filter (fun f => s.isl.held.contains f && !s.safeOn f)
    let s := { s with isl := { s.isl with held := s.isl.held.filter (fun f => !freed.contains f) }, md := { s.md with resetClass := 0, resetInst := 0 } }
    let sos := (List.range 8).filter (fun n => s.oN (Obj.soState n) == 6 &&
      (match s.soOwner n with | some f => (s.resetFns cls inst).contains f && !s.safeOn f | none => false))
    let s := s.forAll sos (State.soLow 1)
    let s := if freed = [] then s else s.releaseUnheld
    ((s.put Obj.functionResetResult 0).incSat Obj.functionResetCount).log 8 cls inst 0 0

/-- FUNCTION_RESET_COMPLETE. -/
def execFunctionResetComplete (s : State) : Host.Outcome State Fault Refusal := .next s.resetDone

end Sys2Proof.Machine
end

