-- ==== Sys2Proof/Machine/Modes.lean ====
section
/-! DEFINITION. Mode requests, their conditions, and the transitions that follow (R34 to R50). -/

namespace Sys2Proof.Machine

/-! ## Conditions of entry -/

/-- Modes of the role that a request may name (R38). -/
def State.roleMode (s : State) (m : Nat) : Bool :=
  if s.station then [1, 2, 7, 8, 9, 10, 11].contains m else [1, 2, 3, 4, 5, 6, 9, 10, 11].contains m

/-- The rank that a request needs (R37). -/
def State.modeRank (s : State) (m : Nat) : Nat := if m = 11 then 5 else if m = 10 ∨ (m = 2 ∧ s.mode = 9) then 3 else 2

/-- The targets that a request reaches from a mode (R46, R49, R50). -/
def reachable : Nat → List Nat
  | 2 => [1, 3, 5, 6, 7, 9, 10, 11]
  | 3 => [2, 9]
  | 4 => [2, 3, 9]
  | 5 | 6 | 7 => [2, 9]
  | 8 => [7, 9]
  | 9 => [2]
  | 10 => [2, 9]
  | _ => []

/-- The scopes that a mode uses (R73). -/
def modeScopes (m : Nat) : List Nat := if 3 ≤ m ∧ m ≤ 6 then [0, 1, 2, 3, 4, 5] else if m = 7 ∨ m = 8 then [0, 6, 7] else []

/-- A guard that has not passed its start-up test bars the modes whose functions lie in its scope (R43, R524). -/
def State.guardBars (s : State) (m : Nat) : Bool :=
  (List.range 16).any (fun n => s.oN (Obj.siMode n) == 3 && s.oN (Obj.siState n) == 3 &&
    (let sc := s.oN (Obj.siScope n)
     sc == 0xFF || (if m = 3 ∨ m = 4 then 1 ≤ sc && sc ≤ 4 else if m = 5 ∨ m = 6 then sc == 0 else sc == 6 || sc == 7)) && 3 ≤ m && m ≤ 8)

/-- Every enabled VDC input reads at most 60 V, everything is at rest, and no lease is outstanding (R40). -/
def State.mayDoze (s : State) : Bool :=
  (List.range 4).all (fun n => s.cN (Obj.vdcEnable n) == 0 || decide (s.oF (Obj.vdcMean n) ≤ 60)) &&
  s.hbDrive.all (fun d => d == .pulseOff) && s.lvDrive.all (fun d => d == .pulseOff) &&
  (List.range 8).all (fun n => s.oN (Obj.soCommand n) == 0) && (s.oN Obj.lvState == 0 || s.oN Obj.lvState == 6) &&
  s.mon.ledger == [] && s.mon.leaseId == 0

/-- The enabled machines. -/
def State.machines (s : State) : List Nat := (List.range 4).filter (fun m => s.cN (Obj.tracEnable m) == 1)

/-- The connections that carry a machine's torque request by an enabled slot are open (R43); with no such slot there is none to be open
(DESIGN CHOICE, log 77). -/
def State.torqueOpen (s : State) (m : Nat) : Bool :=
  s.slotsEnabled.all (fun q =>
    let d := s.slotDesc q
    sdTransmit d || sdMailbox d || sdTarget d != Obj.tracTorqueRequest m ||
      !s.ptFlag (sdPartner d) 1 || (s.eslx (s.pt (sdPartner d) 2 2)).state == 3)

/-- What M3 asks of one machine: its link between TracUv1 and TracOv1, its supplies past lock-out, a committed plan, and the
connection of its torque request open (R43). -/
def State.machineFit (s : State) (m : Nat) : Bool :=
  let l := s.tracLinkOf m
  decide (s.cF (Obj.tracUv1 l) ≤ s.oF (Obj.vdcMean l)) && decide (s.oF (Obj.vdcMean l) ≤ s.cF (Obj.tracOv1 l)) &&
  (s.obsChannels m).all (fun n => (s.usedSupplies n).all (fun k => s.oN (Obj.gsState k) == 3)) &&
  (s.isl.plans.getD m none).isSome && s.torqueOpen m

/-- A machine is ready: a valid angle, and the warm-up over (R44, R53). -/
def State.machineReady (s : State) (m : Nat) : Bool := s.oN (Obj.obsValid m) == 1 && s.oN (Obj.obsSupState m) != 1

/-- The topology that M6 takes (R298). -/
def State.inletTopology (s : State) : Nat :=
  if s.cN Obj.wcEnable = 0 then 0
  else if s.cN Obj.wcBoostEnable = 1 ∧ s.oF Obj.lkPostMaxVoltage < s.cF (Obj.cpCvTarget 0) + s.cF Obj.wcBoostMargin then 2 else 3

/-- What topologies 1 and 2 ask of the machine and its channels (R43, R296). -/
def State.windingFit (s : State) (topology : Nat) : Bool :=
  let m := s.cN Obj.wcMachine
  let a := s.cN Obj.wcParkLockActuator
  let chans := if topology = 1 then s.windingChannels else s.boostChannels
  s.oN (Obj.reversalPermit m) == 1 && s.cN (Obj.tracEnable m) == 0 && s.cN (Obj.obsEnable m) == 0 &&
  chans.all (fun n => s.cN (Obj.hbClass n) == 1 && s.cN (Obj.hbMachine n) == 0xFF) && a < 4 && s.oN (Obj.gaParkEngaged a) == 1

/-- Every machine that counts turns below its reversal threshold (R48, R259). -/
def State.machinesSlow (s : State) : Bool :=
  (List.range 4).all (fun m =>
    (s.cN (Obj.obsEnable m) == 0 && !(s.cN Obj.wcEnable == 1 && s.cN Obj.wcMachine == m)) || s.oN (Obj.reversalPermit m) == 1)

/-- A charging session is open at either end. -/
def State.charging (s : State) : Bool :=
  if s.station then 1 ≤ s.oN Obj.lkPostState && s.oN Obj.lkPostState ≤ 6 else 1 ≤ s.oN Obj.lkState && s.oN Obj.lkState ≤ 8

/-- The entry condition of a reachable target (R40, R43, R45 to R48, R50). -/
def State.entryMet (s : State) (m : Nat) : Bool :=
  match m with
  | 1 => s.mayDoze
  | 2 =>
    if s.mode = 3 ∨ s.mode = 4 then !s.anyAsc
    else if s.mode = 9 then
      !(s.oN Obj.faultClassMap).testBit 3 && !(s.oN Obj.faultClassMap).testBit 4 && s.isl.serviceOk && !s.anyAsc
    else if s.mode = 10 then !s.testDriveOn 0xFF
    else if s.mode = 7 then !s.charging
    else true
  | 3 => s.machines.all s.machineFit && (s.mode != 4 || (List.range 4).all (fun k => s.oN (Obj.tracLimpCause k) == 0))
  | 5 => s.cN Obj.wcEnable == 1 && s.oN Obj.lkPlugged == 1 && s.windingFit 1
  | 6 => s.oN Obj.lkPlugged == 1 && (s.inletTopology != 2 || s.windingFit 2)
  | 7 => s.mode == 8 || s.cN Obj.stEnable == 1
  | 10 => !s.charging && s.machinesSlow
  | _ => true

/-- The seals forbid a target: a broken seal M3 to M8, SEAL5 at 0 M11 (R49, R63). -/
def State.sealBars (s : State) (m : Nat) : Bool :=
  (3 ≤ m && m ≤ 8 && s.plat.sealLatch != s.nv.sealReference) || (m == 11 && !s.sealPin 5)

/-- The refusal code of a request in R34's order, 0 where it is accepted. -/
def State.modeCode (s : State) (m : Nat) (role : Role) : Nat :=
  firstCode [
    (0x02, !s.roleMode m),
    (0x05, decide (roleRank role < s.modeRank m)),
    (0x06, m != 9 && s.md.requested),
    (0x03, !(reachable s.mode).contains m),
    (0x08, s.sealBars m),
    (0x04, s.guardBars m || (3 ≤ m && m ≤ 8 && s.safetyDiffers) ||
      (modeScopes m).any (fun n => (s.oN Obj.configLoadMap).testBit n) || !s.entryMet m)]

/-! ## Requests -/

/-- The groups of the enabled machines. -/
def State.tracGroups (s : State) : List Nat :=
  hbGroups.filter (fun g => (s.groupFns g).any (fun f => match f with | .traction _ => true | _ => false))

/-- The ramps of a request for M2 begin: torque set-points, the converter's current, the station's references (R45, R46, R50). -/
def State.rampDown (s : State) : State :=
  let t := s.mono
  let ms := s.oN Obj.modeExitRamp
  if s.mode = 3 ∨ s.mode = 4 then
    s.forAll s.machines (fun m u => u.tracMod m (fun x => { x with exit := some (u.oN (Obj.tracTorqueSetpoint m), t, ms) }))
  else if s.mode = 5 ∨ s.mode = 6 then
    s.wcRamp.lkStop 2
  else if s.mode = 7 then s.stDown
  else s

/-- M9 by request: the committed plans apply, as for an automatic transition that overrides (R36, R50). -/
def State.cocoonByRequest (s : State) : State :=
  let s := (s.swapLoses.mtrClose 64).planAll
  let s := { s with isl := { s.isl with whole := true } }
  (s.enterM9 0).put Obj.modeRequestResult 0

/-- An accepted request begins its transition (R34, R35, R44 to R46). -/
def State.beginMode (m : Nat) (s : State) : State :=
  if m = 9 then s.cocoonByRequest
  else
    let s := (s.put Obj.modeRequestResult 1).put Obj.modeTarget m
    let s := { s with md := { s.md with requested := true, cause := 0, since := s.mono, m3Wait := if m = 3 ∧ s.mode = 2 then s.machines else [] } }
    match m with
    | 2 => s.rampDown
    | 5 => s.wcBegin 1
    | 6 => if s.inletTopology = 0 then s else s.wcBegin s.inletTopology
    | 7 => if s.mode = 8 then s.postStop 2 else s
    | _ => s

/-- A write of ModeRequest: 0xFF is stored only, a mode number is evaluated (R34). -/
def State.askMode (m : Nat) (role : Role) (s : State) : State :=
  let s := s.put Obj.modeRequest m
  if m = 0xFF then s
  else
    let code := s.modeCode m role
    if code = 0 then s.beginMode m else s.put Obj.modeRequestResult code

/-- MODE_REQUEST. -/
def execModeRequest (value : Byte) (role : Role) (s : State) : Host.Outcome State Fault Refusal :=
  .next (s.accessAt role 2 Obj.modeRequest true (fun t =>
    if (1 ≤ value.toNat ∧ value.toNat ≤ 11) ∨ value.toNat = 0xFF then t.askMode value.toNat role else t.refuse 0x06))

/-! ## Completion -/

/-- What runs only in M2 to M10 stops: converters, serial links with their PLLs, timebases (R15, R94, R185, R588). -/
def State.powerOff (s : State) : State :=
  let s := ((s.forAll [0, 1] State.xgFollow).forAll (List.range 8) State.tbOff).sensorsFollow
  { s with snx := {} }

/-- The main domains lose their power or their clock: every session closes, every CAN queue is lost, and nothing but the island runs; what SRAM holds
stays until a pass zeroes it
(R15, R435, R471). -/
def State.domainsOff (s : State) : State :=
  let s := (s.put Obj.roaSessionCount 0).forAll (List.range 8) (fun c t => ((t.canMod c (fun x => { bufs := x.bufs })).put (Obj.canState c) 0).canShow c)
  let s := { s with plat := { s.plat with mainOn := false }, roa := { s.roa with sessions := [], lspi := [] },
                    isl := { s.isl with armedClock := false, armedWatchdog := false }, net := {} }
  s.powerOff.put Obj.pllLockMap 0

/-- Entry into M1: the default plans are committed, the crystal stops, and every gate-supply pad is low (R15, R20, R66). -/
def State.doze (s : State) : State :=
  let s := s.commitDefaults.forAll (List.range 24) (fun n t => (t.stopSupply (2 * n)).stopSupply (2 * n + 1))
  s.domainsOff.put Obj.refClockPresent 0

/-- Entry into M11: conversions, timebases, serial links and what still switches stop, for the spec gives the functions that are under
factory-test control there no behaviour (R51, R94, R185; DESIGN CHOICE, log 77). -/
def State.factoryTest (s : State) : State :=
  (s.forAll allGroups (fun g t => (t.groupOff g).put (Obj.groupRunRequest g) 0)).lvHeld.powerOff

/-- The island releases its override (R47). -/
def State.islandFree (s : State) : State :=
  let s := { s with isl := { s.isl with whole := false, held := [], kept := [] } }
  let s := s.forAll allGroups (fun g t => if t.oN (Obj.groupState g) = 3 then t.put (Obj.groupRunRequest g) 0 else t)
  let s := s.releaseUnheld
  { s with isl := { s.isl with cocoonHold := false, holdCode := 0 } }

/-- What a mode left or entered does to its functions. -/
def State.leaveFor (m : Nat) (s : State) : State :=
  match s.mode, m with
  | 3, 2 | 4, 2 =>
    let s := s.forAll s.tracGroups (fun g t => (t.groupOff g).put (Obj.groupRunRequest g) 0)
    s.forAll s.machines (fun k t => ((t.tracMod k (fun x => { x with exit := none, ramp := none, planOn := false })).put (Obj.tracTorqueSetpoint k) 0).limpOver k)
  | 5, 2 | 6, 2 => s.wcEnd.lkOpen
  | 7, 2 => s.stEnd.ccEnd
  | 9, 2 => s.islandFree
  | _, _ => s

/-- The transition in progress may complete (R44, R45, R53). -/
def State.modeMay (s : State) : Bool :=
  match s.oN Obj.modeTarget with
  | 3 => s.machines.all s.machineReady
  | 5 => s.wcLocked
  | 7 => s.mode != 8 || !s.postOpen
  | _ => true

/-- A transition out of M9 whose conditions no longer hold: the request ends with code 0x04 (R47). -/
def State.stayInM9 (s : State) : State :=
  let s := (s.put Obj.modeRequestResult 4).put Obj.modeTarget 0xFF
  { s with md := { s.md with requested := false } }

/-- What the mode entered begins with. For the machine whose windings carry M5 or M6 a plan of pulse-off is committed (R296). -/
def State.beginFor (old m : Nat) (s : State) : State :=
  match m with
  | 1 => s.doze
  | 2 => s.lvEnterM2
  | 5 | 6 => if s.oN Obj.wcTopology = 1 ∨ s.oN Obj.wcTopology = 2 then s.commitPlan (s.cN Obj.wcMachine) .pulseOff 0 else s
  | 7 => if old = 8 then s else s.commitStation.stEnter.ccEnter
  | 11 => s.factoryTest
  | _ => s

/-- MODE_TRANSITION_COMPLETE: the requested transition, or a session's end, arrives (R35, R44 to R50); the conditions of R47 hold at the
release as well. -/
def State.completeMode (s : State) : State :=
  if ¬ s.md.requested ∨ s.oN Obj.modeTarget = 0xFF ∨ ¬ s.modeMay then s
  else if s.mode = 9 ∧ ¬ s.entryMet 2 then s.stayInM9
  else
    let m := s.oN Obj.modeTarget
    let old := s.mode
    ((s.leaveFor m).enterMode m s.md.cause).beginFor old m

/-- MODE_TRANSITION_COMPLETE. -/
def execModeTransitionComplete (s : State) : Host.Outcome State Fault Refusal := .next s.completeMode

/-- M3_STEP_TIMEOUT: an enabled machine's observer has taken no step (R44). -/
def State.m3Timeout (s : State) : State :=
  if s.md.requested ∧ s.oN Obj.modeTarget = 3 ∧ s.md.m3Wait ≠ [] then s.m3Fail else s

/-- M3_STEP_TIMEOUT. -/
def execM3StepTimeout (s : State) : Host.Outcome State Fault Refusal := .next s.m3Timeout

end Sys2Proof.Machine
end

