-- ==== Sys2Proof/Machine/Boot.lean ====
section
/-! DEFINITION. Supplies, RESET_N, the passes through M0 and the wakes from M1 (R41, R42, R60 to R75, R585). -/

namespace Sys2Proof.Machine

/-! ## What a pass keeps -/

/-- Live values kept through M0: RSL objects, factory calibration (R76), user trims, MemBankRetain, MtrRecordAcknowledged, the active-set selections and
what the metrology partition holds (R585). -/
def keptKey (k : Nat) : Bool :=
  (match objInfo (k / 256) (k % 256) with | some o => o.row.acc == .rsl || o.row.acc == .constant | none => false) ||
  trimIndex (k / 256) || [Obj.memBankRetain, Obj.mtrRecordAcknowledged, Obj.keyGeneration, Obj.recordNewest, Obj.recordOldest].contains k ||
  ((List.range 8).map Obj.activeSet).contains k

/-- DOM bytes kept through M0: both sets of RWS blocks, RSL blocks, the journal (R409, R585) and the staged firmware image in flash (R443). -/
def keptDom (k : Nat) : Bool :=
  match objInfo (k / 256) (k % 256) with
  | some o => o.row.acc.isRws || o.row.acc == .rsl || k == Obj.journalImage || k == Obj.firmwareStaging
  | none => false

/-- Time passes without ticks: the island's oscillator advances device time within ±3 % of it (R486). -/
def State.sleepFor (ns : Nat) (s : State) : State :=
  let span := ns * 3 / 100
  let off := (Config.freeValue 301 s.freeIx % (2 * span + 1 : Nat)).toNat
  { s.fresh with tick := s.tick + ns * 2 / 25, devSub := s.devSub + (ns - span + off) * 2000000000 }

/-- The main domain starts afresh: what R585 does not keep is at its table default, and no function has any history (R53); the island
holds the duties of its keepers (R148). -/
def State.blank (s : State) : State :=
  let keeper (k : Nat) : Bool := (List.range 48).any (fun n => s.gsDrive.getD n .low == .keeper && k == Obj.gsKeeperDuty n)
  { live := s.live.filter (fun p => keptKey p.1 || keeper p.1), active := s.active, shadow := s.shadow,
    mem := s.mem.filter (fun p => keptDom (p.1 / 33554432)), pending := s.pending, freeIx := s.freeIx, tick := s.tick,
    devSub := s.devSub, plat := s.plat, isl := s.isl,
    fc := { slots := s.fc.slots, nextSeq := s.fc.nextSeq, nextSlot := s.fc.nextSlot, ring := s.fc.ring, ringCount := s.fc.ringCount },
    sw := { unsaved := s.sw.unsaved }, nv := s.nv, hbDrive := s.hbDrive, lvDrive := s.lvDrive, gsDrive := s.gsDrive,
    mtr := s.mtr, roa := { staged := s.roa.staged } }

/-- A swap whose selection had not reached eMRAM has not happened (R86). -/
def State.unswap (s : State) : State :=
  let map := s.sw.unsaved.foldl setBit 0
  let s := s.exchanged map
  let s := s.forAll s.sw.unsaved (fun n t => t.put (Obj.activeSet n) (1 - t.oN (Obj.activeSet n) : Nat))
  { s with sw := {} }

/-- Scopes take their factory defaults in both sets and their bit in ConfigLoadMap (R63, R73). -/
def State.factory (scopes : List Nat) (s : State) : State :=
  let keep (k : Nat) : Bool := !scopes.contains (s.keyScope k)
  let dom (k : Nat) : Bool := match objInfo (k / 256) (k % 256) with | some o => !o.row.acc.isRws || keep k | none => true
  let map := scopes.foldl setBit (s.oN Obj.configLoadMap)
  { s with active := s.active.filter (fun p => keep p.1), shadow := s.shadow.filter (fun p => keep p.1),
           mem := s.mem.filter (fun p => dom (p.1 / 33554432)) }.put Obj.configLoadMap map

/-! ## The steps of a pass (R69) -/

/-- A step fails: its fault is raised and recorded in the retention memory; the device stays in M0 under its plans (R42). -/
def State.bootFail (code : Nat) (s : State) : State := s.raise code 0

/-- Step 1: floating pins, and the pins against the latch; the first release of RESET_N loads it, with the levels that it reads from
floating pins too (R61, R62; DEDUCED, log 77). -/
def State.sealStep (env : BootEnv) (s : State) : State × Bool :=
  let fl := env.floats.toNat
  let s := if s.plat.latchLoaded then s else { s with plat := { s.plat with latchLoaded := true, sealLatch := env.seals.toNat } }
  let ch := if s.plat.latchLoaded ∧ fl = 0 then s.plat.sealLatch ^^^ env.seals.toNat else 0
  let s := { s with plat := { s.plat with keptFloat := s.plat.keptFloat ||| fl, keptChange := s.plat.keptChange ||| ch } }
  if fl ≠ 0 then (s.bootFail FC.bootSealfloat, false)
  else if ch ≠ 0 then (s.bootFail FC.bootSealchg, false)
  else (s, true)

/-- A firmware slot passes: hash and signature, and a version not below the rollback floor (R70). -/
def State.slotGood (s : State) (env : BootEnv) (n : Nat) : Bool :=
  env.slotOk.toNat.testBit n && s.nv.slotValid.getD n true && decide (s.nv.rollbackFloor ≤ s.nv.slotVersion.getD n 0)

/-- Step 5: the slot to be tried, else the active one, is checked; its failure boots the other (R70, R443). -/
def State.firmwareStep (env : BootEnv) (s : State) : State × Bool :=
  let want := if s.nv.trial then 1 - s.nv.activeSlot else s.nv.activeSlot
  let s := { s with nv := { s.nv with trial := false } }
  if s.slotGood env want then ({ s with nv := { s.nv with activeSlot := want } }, true)
  else if s.slotGood env (1 - want) then (State.raise FC.bootFwslot 0 { s with nv := { s.nv with activeSlot := 1 - want } }, true)
  else (s.bootFail FC.bootFwfail, false)

/-- Step 6: a failed metrology image disables metering, and the pass goes on. -/
def State.metrologyStep (env : BootEnv) (s : State) : State :=
  let s := ({ s with nv := { s.nv with metrologyValid := env.metrologyOk } }).put Obj.metrologyChecksum (env.metrologySum.toNat)
  if env.metrologyOk then s else s.raise FC.bootMtrimage 0

/-- Step 4: both PLLs have locked, and the island watches the clock from here on. -/
def State.pllUp (s : State) : State :=
  let s := { s with plat := { s.plat with clockOk := true }, isl := { s.isl with armedClock := true } }
  (s.put Obj.pllLockMap 3).put Obj.refClockPresent 1

/-- Steps 7 and 8: the self-test and the calibration. -/
def State.testSteps (env : BootEnv) (s : State) : State × Bool :=
  if env.selfTest.toNat ≠ 0 then ((s.put Obj.selfTestResult env.selfTest.toNat).bootFail FC.bootSelftest, false)
  else if ¬ env.calOk then (s.bootFail FC.bootCalcrc, false)
  else (s, true)

/-- Steps 5 to 8. -/
def State.imageSteps (env : BootEnv) (s : State) : State × Bool :=
  let r := s.firmwareStep env
  if ¬ r.2 then r else (r.1.metrologyStep env).testSteps env

/-- Steps 1 to 8, and whether the pass goes on. -/
def State.bootSteps (env : BootEnv) (s : State) : State × Bool :=
  let r := s.sealStep env
  if ¬ r.2 then r
  else if ¬ env.pllLock then (r.1.bootFail FC.bootPlllock, false)
  else r.1.pllUp.imageSteps env

/-- Step 9: the sets of each scope, and the latch against the reference (R63, R73). -/
def State.configStep (env : BootEnv) (s : State) : State :=
  let bad := (List.range 8).filter (fun n => env.cfgBad.toNat.testBit n && s.scopeHere n)
  let s := (s.factory bad).forAll bad (fun n => State.raise FC.bootCfgcrc n)
  let diff := s.plat.sealLatch ^^^ s.nv.sealReference
  let s := if diff.testBit 0 then s.factory ((List.range 8).filter s.scopeHere) else s
  let s := if diff = 0 then s else State.raise FC.bootSealbreak 0 { s with nv := { s.nv with sealBreakCount := min (s.nv.sealBreakCount + 1) 4294967295 } }
  s.forAll (List.range 8) (fun n t => (t.put (Obj.activeCrc n) (t.setCrc false n)).shadowTouch n)

/-- Step 10: a record of the island enters the fault store and the event log (R537, R539). -/
def State.islandRecord (r : TriggerRec) (s : State) : State :=
  let x : FaultRec := { code := r.code, cls := s.faultClass r.code r.inst, inst := r.inst, seq := 0, firstTime := r.time, lastTime := r.time, occurrences := 1, fromIsland := true, mode := 0, chrysalis := s.nv.chrysalisCount }
  (s.openRecord x).log 9 r.code r.inst r.resetMs 0

/-- Step 10: the retention memory is read out (R23, R64). -/
def State.islandReadout (s : State) : State :=
  let s := s.isl.records.foldl (fun t r => t.islandRecord r) s
  let s := (s.put Obj.sealFloatMap s.plat.keptFloat).put Obj.sealPinChangeMap s.plat.keptChange
  { s with isl := { s.isl with records := [], coreUvInM1 := false }, plat := { s.plat with keptFloat := 0, keptChange := 0 } }

/-- What the device shows of itself after a pass (R64, R74, R444, R504, R547). -/
def State.bootShow (passType : Nat) (env : BootEnv) (s : State) : State :=
  let a := s.nv.activeSlot
  let s := ((s.put Obj.bootPassType passType).put Obj.bootDuration env.durationUs.toNat).put Obj.firmwareSlot a
  let s := ((s.put Obj.firmwareVersion (s.nv.slotVersion.getD a 0 : Nat)).put Obj.inactiveSlotVersion (s.nv.slotVersion.getD (1 - a) 0 : Nat)).put Obj.firmwareRollbackFloor s.nv.rollbackFloor
  let s := ((s.put Obj.sealLatched s.plat.sealLatch).put Obj.sealReference s.nv.sealReference).put Obj.sealMismatchMap (s.plat.sealLatch ^^^ s.nv.sealReference : Nat)
  let s := ((s.put Obj.sealBreakCount s.nv.sealBreakCount).put Obj.resetLowDuration s.plat.resetLowMs).put Obj.safWatchdogExpiryCount s.isl.watchdogExpiries
  let s := (s.put Obj.memRemapCount (s.nv.remap.length : Nat)).put Obj.faultRecordCount (min (s.fc.nextSeq - 1) 256 : Nat)
  let s := s.put Obj.faultRecordNewest (s.fc.nextSeq - 1 : Nat)
  (s.put Obj.cocoonOscFrequency (3880000 + (Config.freeValue 302 s.freeIx % 240001))).fresh

/-! ## The end of a pass -/

/-- First use of every function (R53): nothing has history, inputs follow their enables, sources are acquired. -/
def State.firstUse (s : State) : State :=
  let s := s.mtrRestore
  let s := s.put Obj.mtrState (if s.acOn then 1 else 0)
  let s := (s.forAll (List.range 8) State.tbEnable).forAll (List.range 16) State.siStart
  let s := (s.forAll (List.range 8) State.loadStateRegion).forAll (List.range 64) (fun n t => (t.slotDerived n).slotUp n)
  let s := (s.forAll (List.range 8) State.canStart).sensorsFollow
  let s := ((s.forAll [0, 1] State.xgFollow).forAll [0, 1] State.t1sFollow).eslFollow
  s.monStart.safetyCrc

/-- The pass ends in M2: the island releases, with every channel at pulse-off, and the gate supplies start (R42, R145). -/
def State.endReady (s : State) : State :=
  let s := { s with hbDrive := List.replicate 24 .pulseOff, lvDrive := List.replicate 16 .pulseOff, gsDrive := List.replicate 48 .low,
                    isl := { s.isl with whole := false, held := [], kept := [] } }
  let s := s.forAll (List.range 8) (State.soLow 1)
  (s.firstUse.startSupplies (List.range 24)).lvEnterM2

/-- The reaction that a drive shows (R153, R161). -/
def reactionOf : Drive → Nat
  | .ascUpper => 2
  | .ascLower => 3
  | _ => 1

/-- The pass ends in M9: the plans and the kept reactions stay applied (R21, R42, R66). -/
def State.endCocoon (s : State) : State :=
  let s := s.forAll (List.range 24) (fun n => State.put (Obj.hbProtState n) 5)
  let s := s.forAll (s.isl.kept.flatMap s.machineHbs) (fun n t => t.put (Obj.hbReaction n) (reactionOf (t.hbDrive.getD n .pulseOff)))
  let s := s.forAll ((List.range 48).filter (fun k => s.gsDrive.getD k .low == .keeper)) State.keepSupply
  let s := s.forAll (allGroups.filter (fun g => s.groupChannels g != [])) (fun g => State.put (Obj.groupState g) 3)
  let s := (s.forAll (List.range 8) (State.soLow 7)).firstUse
  let s := s.incSat Obj.cocoonEntryCount
  if s.oN Obj.monState = 0 then s else s.put Obj.monState 4

/-- Step 11: ModeState, ModeEntryTime and ModeTransitionCause together; ModeChangeCount stays 0 (R35, R42, R66). -/
def State.bootEnd (warm : Bool) (s : State) : State :=
  let m : Nat := if s.isl.cocoonHold then 9 else 2
  let cause : Nat := if m = 9 then (if s.isl.holdCode = 0 then FC.bootMainreset else s.isl.holdCode) else if warm then 0xFFFF else FC.bootMainreset
  let s := (({ s with passTick := s.tick }.put Obj.modeState m).put Obj.modeEntryTime s.now).put Obj.modeTransitionCause cause
  let s := s.log 6 m 0 0 m
  if m = 9 then s.endCocoon else s.endReady

/-- The receive buffers of controllers whose bank has kept its contents in M1 hold what they held; those in any other bank are zeroed
(R71, R460, R542). -/
def State.keptBuffers (old s : State) : List CanX :=
  (List.range 8).map (fun c =>
    if (s.oN Obj.memBankRetained).testBit (s.cN (Obj.canBufferBank c)) then
      { bufs := (old.can.getD c {}).bufs.map (fun b => (b.1, { b.2 with locked := false, copy := none })) }
    else {})

/-- A pass begins: the main domain is blank and powered, the watches are not armed, and the pass is counted (R69, R585). -/
def State.passStart (passType : Nat) (env : BootEnv) (s : State) : State :=
  let uv := s.isl.coreUvInM1
  let old := s
  let s := (s.sleepFor (env.durationUs.toNat * 1000)).blank
  let s := { s with plat := { s.plat with mainOn := true }, isl := { s.isl with armedClock := false, armedWatchdog := false, lastService := none, serviceOk := true },
                    nv := { s.nv with chrysalisCount := min (s.nv.chrysalisCount + 1) 4294967295 } }
  let s := s.put Obj.memBankRetained (if passType = 2 ∧ ¬ uv then s.oN Obj.memBankRetain else 0 : Nat)
  { s with can := s.keptBuffers old }

/-- Steps 9 to 11. -/
def State.passEnd (passType : Nat) (env : BootEnv) (s : State) : State :=
  ((s.unswap.configStep env).islandReadout.bootShow passType env).bootEnd (passType == 2)

/-- A pass through M0: its type is 0 power-on, 1 RESET_N, 2 warm (R69, R71). -/
def State.chrysalis (passType : Nat) (env : BootEnv) (s : State) : State :=
  let r := (s.passStart passType env).bootSteps env
  if ¬ r.2 then r.1 else r.1.passEnd passType env

/-! ## Supplies and RESET_N -/

/-- Nothing of the island survives a loss of VDD_COC, and no ball of its group is driven (R17, R537). -/
def State.cocLost (s : State) : State :=
  let old := s.fc.slots.map (fun p => (p.1, { p.2 with previousCycle := true }))
  { s.domainsOff with
    plat := { vddCoc := false, pfailN := s.plat.pfailN }, isl := {}, tick := 0, devSub := 0,
    fc := { slots := old, nextSlot := s.fc.nextSlot, ring := s.fc.ring, ringCount := s.fc.ringCount },
    hbDrive := List.replicate 24 .pulseOff, lvDrive := List.replicate 16 .pulseOff, gsDrive := List.replicate 48 .low }

/-- VDD_COC_LOSS. -/
def execVddCocLoss (s : State) : Host.Outcome State Fault Refusal := .next (s.cocLost.put Obj.modeState 0)

/-- VDD_COC rises: the island takes control with the default plans, for a main-domain reset by power-on; with RESET_N high the cold pass
begins (R17, R18, R62, R69, R75). -/
def State.powerOn (resetN : Bool) (env : BootEnv) (s : State) : State :=
  let s := s.cocLost.put Obj.modeState 0
  let s := { s with plat := { s.plat with vddCoc := true, resetN := resetN }, isl := { whole := true, records := [powerRecord] } }
  let s := s.forAll (List.range 8) (State.soLow 7)
  if resetN then s.chrysalis 0 env else s

/-- POWER_ON. -/
def execPowerOn (resetN : Bool) (env : BootEnv) (s : State) : Host.Outcome State Fault Refusal := .next (s.powerOn resetN env)

/-- The main domains go into reset and the island applies the committed plans; in M1 that trigger is disarmed (R20, R65, R66). -/
def State.resetFall (lowNs : Nat) (s : State) : State :=
  if ¬ s.plat.vddCoc ∨ ¬ s.plat.resetN ∨ (lowNs < 1000 ∧ s.plat.pfailN) then s
  else
    let s := { s with plat := { s.plat with resetN := false } }
    if s.mode = 1 then s
    else
      let s := (s.swapLoses.record FC.bootMainreset 0 true false [] 0).planAll
      let s := ({ s with isl := { s.isl with whole := true } }).holdBy FC.bootMainreset
      let at_ := if s.mtrOn then some s.tick else none
      { s.domainsOff.put Obj.modeState 0 with plat := { s.domainsOff.plat with resetAt := at_ } }

/-- RESET_N_FALL. -/
def execResetNFall (lowNs : Nat) (s : State) : Host.Outcome State Fault Refusal := .next (s.resetFall lowNs)

/-- Change the last record of a code in the retention memory. -/
def State.amendRecord (code resetMs : Nat) (s : State) : State :=
  match (s.isl.records.zipIdx.filter (fun p => p.1.code == code)).getLast? with
  | none => s
  | some p => { s with isl := { s.isl with records := s.isl.records.set p.2 { p.1 with resetMs := resetMs } } }

/-- A rise of RESET_N: its low time is reported, a long one counted, and a cold pass begins (R66, R67, R69). -/
def State.resetRise (lowMs : Nat) (env : BootEnv) (s : State) : State :=
  if ¬ s.plat.vddCoc ∨ s.plat.resetN then s
  else
    let long := decide (500 < lowMs) || s.isl.resetHeld
    let s := s.amendRecord FC.bootMainreset lowMs
    let first := !s.plat.latchLoaded
    let s := { s with plat := { s.plat with resetN := true, resetLowMs := min lowMs 4294967295, resetAt := none },
                      isl := { s.isl with resetHeld := false, resetHeldCount := if long then min (s.isl.resetHeldCount + 1) 4294967295 else s.isl.resetHeldCount } }
    s.chrysalis (if first then 0 else 1) env

/-- RESET_N_RISE. -/
def execResetNRise (lowMs : Nat) (env : BootEnv) (s : State) : Host.Outcome State Fault Refusal := .next (s.resetRise lowMs env)

/-- BOOT_RESETHELD: the island records the reset and updates its elapsed time every second (R67). -/
def State.resetHeld (elapsedMs : Nat) (s : State) : State :=
  if ¬ s.plat.vddCoc ∨ s.plat.resetN ∨ elapsedMs ≤ 500 then s
  else if s.isl.resetHeld then s.amendRecord FC.bootResetheld elapsedMs
  else
    let s := (s.record FC.bootResetheld 0 false false [] 0).amendRecord FC.bootResetheld elapsedMs
    { s with isl := { s.isl with resetHeld := true } }

/-- BOOT_RESETHELD. -/
def execBootResetheld (elapsedMs : Nat) (s : State) : Host.Outcome State Fault Refusal := .next (s.resetHeld elapsedMs)

/-- BOOT_PLLLOCK: in M0, PLL0 or PLL1 has not locked within 1 ms (R69). -/
def execBootPlllock (s : State) : Host.Outcome State Fault Refusal :=
  .next (if s.plat.mainOn ∧ s.mode = 0 then s.bootFail FC.bootPlllock else s)

/-! ## Wakes from M1 (R41) -/

/-- An enabled wake source starts a warm pass. -/
def State.wake (bit cause : Nat) (on : Bool) (env : BootEnv) (s : State) : State :=
  if s.mode = 1 ∧ s.plat.resetN ∧ on ∧ (s.oN Obj.wakeSourceEnable).testBit bit then (s.chrysalis 2 env).put Obj.lastWakeCause cause else s

/-- WAKE_PIN_EDGE. -/
def execWakePinEdge (pin : Fin 4) (env : BootEnv) (s : State) : Host.Outcome State Fault Refusal := .next (s.wake pin.val (pin.val + 1) true env)

/-- CAN_WAKE: a controller whose transceiver reports wake (R41, R455). -/
def execCanWake (can : Fin 8) (env : BootEnv) (s : State) : Host.Outcome State Fault Refusal :=
  .next (s.wake 4 5 (s.cN (Obj.canWakeEnable can.val) == 1) env)

/-- WAKE_TIMER_EXPIRY. -/
def execWakeTimerExpiry (env : BootEnv) (s : State) : Host.Outcome State Fault Refusal := .next (s.wake 5 6 (s.oN Obj.wakeTimer != 0) env)

/-! ## The seal reference -/

/-- SEAL_COMMISSION: a Vendor session in M2 makes the latched pattern the reference (R63). -/
def State.commission (value : Nat) (s : State) : State :=
  if value ≠ s.plat.sealLatch then s.refuse 0x06
  else if s.mode ≠ 2 then s.refuse 0x0A
  else (({ s with nv := { s.nv with sealReference := value } }).put Obj.sealReference value).put Obj.sealMismatchMap 0

/-- SEAL_COMMISSION. -/
def execSealCommission (value : Byte) (role : Role) (s : State) : Host.Outcome State Fault Refusal :=
  .next (s.accessAt role 5 Obj.sealCommission true (State.commission value.toNat))

end Sys2Proof.Machine
end

