-- ==== Sys2Proof/Machine/Firmware.lean ====
section
/-! DEFINITION. Firmware commands: verify, install and activate a staged image (R443, R444, R70). -/

namespace Sys2Proof.Machine

/-- FirmwareCommand is accepted in M2 and M10, with no transition to M3-M8 requested (R443, R450). -/
def State.firmwareMode (s : State) : Bool :=
  (s.mode == 2 || s.mode == 10) && !(s.md.requested && decide (3 ≤ s.oN Obj.modeTarget) && decide (s.oN Obj.modeTarget ≤ 8))

/-- The inactive firmware slot (R70). -/
def State.otherSlot (s : State) : Nat := 1 - s.nv.activeSlot

/-- A command that is refused with its reason in FirmwareResult (R438 code 0x13). -/
def State.firmwareRefuse (result : Nat) (s : State) : State := (s.put Obj.firmwareResult result).refuse 0x13

/-- A write of FirmwareCommand: 1 verify, 2 install, 3 activate. -/
def State.firmwareAsk (cmd : Nat) (s : State) : State :=
  if s.roa.running ≠ 0 then s.refuse 0x10
  else if ¬ s.firmwareMode then s.firmwareRefuse 5
  else if cmd = 3 then { s with nv := { s.nv with trial := true } }.put Obj.firmwareResult 0
  else if ¬ s.roa.staged then s.firmwareRefuse 6
  else ({ s with roa := { s.roa with running := cmd } }.put Obj.firmwareResult 1).put Obj.firmwareProgress 0

/-- A verify or install has ended: `result` is 0, 2 signature invalid, 4 flash error or 7 eMRAM error, and `version` that of the
image; a version below FirmwareRollbackFloor is result 3. A failed install that had begun to write leaves no valid slot. -/
def State.firmwareEnd (result version : Nat) (s : State) : State :=
  let r := if result = 0 ∧ version < s.nv.rollbackFloor then 3 else result
  let install := s.roa.running = 2
  if s.roa.running = 0 ∨ ¬ [0, 2, 3, 4, 7].contains r then s
  else
    let n := s.otherSlot
    let s := ({ s with roa := { s.roa with running := 0 } }).put Obj.firmwareResult r
    let s := if r = 0 ∨ r = 3 then s.put Obj.stagedVersion version else s
    if r = 0 then
      let s := s.put Obj.firmwareProgress 100
      if install then
        { s with nv := { s.nv with slotVersion := s.nv.slotVersion.set n version, slotValid := s.nv.slotValid.set n true } }.put Obj.inactiveSlotVersion version
      else s
    else
      let s := if install ∧ (r = 4 ∨ r = 7) then { s with nv := { s.nv with slotValid := s.nv.slotValid.set n false } } else s
      s.raise FC.roaFwinstall 0

/-- FIRMWARE_VERIFY: a write of 1 to FirmwareCommand. -/
def execFirmwareVerify (role : Role) (s : State) : Host.Outcome State Fault Refusal :=
  .next (s.accessAt role 3 Obj.firmwareCommand true (State.firmwareAsk 1))

/-- FIRMWARE_INSTALL: a write of 2. -/
def execFirmwareInstall (role : Role) (s : State) : Host.Outcome State Fault Refusal :=
  .next (s.accessAt role 3 Obj.firmwareCommand true (State.firmwareAsk 2))

/-- FIRMWARE_ACTIVATE: a write of 3; the inactive slot is tried at the next pass through M0. -/
def execFirmwareActivate (role : Role) (s : State) : Host.Outcome State Fault Refusal :=
  .next (s.accessAt role 3 Obj.firmwareCommand true (State.firmwareAsk 3))

/-- FIRMWARE_COMMAND_COMPLETE. -/
def execFirmwareCommandComplete (result : BitVec 3) (version : BitVec 32) (s : State) : Host.Outcome State Fault Refusal :=
  .next (s.firmwareEnd result.toNat version.toNat)

end Sys2Proof.Machine
end

