-- ==== Sys2Proof/Machine/LinkRows.lean ====
section
/-! DEFINITION. Loss of the traction battery while it is charged (R307, R308). -/

namespace Sys2Proof.Machine

/-- The battery is lost: pulse-off at once, the grid output opened, and the link asked for an orderly stop (R308). -/
def State.battLost (s : State) : State :=
  let t := s.wcBattLoss
  if t.oN Obj.wcState = 7 then t.lkStop 4 else t

/-- WC_BATTLOSS. -/
def execWcBattloss (s : State) : Host.Outcome State Fault Refusal := .next s.battLost

/-- A main-filter output of CP0's current: WcLossCount in a row below WcLossFraction of the reference are a loss (R307). -/
def State.lossOutput (n : Nat) (s : State) : State :=
  if s.station ∨ s.cN (Obj.cpCurrentInput 0) ≠ n then s
  else
    let small := s.lossWatched && decide (|s.oF (Obj.sdValue n)| < s.cF Obj.wcLossFraction / 100 * |s.oF (Obj.cpCurrentRef 0)|)
    let run := if small then s.wc.low + 1 else 0
    let s := { s with wc := { s.wc with low := run } }
    if small ∧ s.cN Obj.wcLossCount ≤ run then s.battLost else s

end Sys2Proof.Machine
end

