-- ==== Sys2Proof/Machine/PwmRows.lean ====
section
/-! DEFINITION. Run requests, period starts and stalls of the PWM groups (R113 to R119, R128 to R130, R170, R175). -/

namespace Sys2Proof.Machine

/-! ## Run requests (R113) -/

/-- An accepted write of GroupRunRequest arms the group's HB channels (R113, R160); the group starts at its next period start, or, with
a pattern, in the next tick (`requestTick`). -/
def State.groupRun (g : Nat) (s : State) : State :=
  if s.mayStart g then
    (s.put (Obj.groupRunRequest g) 1).forAll ((s.groupChans g).filter (fun c => c < 24 && s.oN (Obj.hbProtState c) == 0))
      (fun c => State.put (Obj.hbProtState c) 1)
  else s.refuse 0x13

/-- GROUP_RUN. -/
def execGroupRun (group : Fin 20) (role : Role) (s : State) : Host.Outcome State Fault Refusal :=
  .next (s.accessAt role 2 (Obj.groupRunRequest (groupNo group.val)) true (State.groupRun (groupNo group.val)))

/-- A write of 0: pulse-off at the next period start. A group that does not switch yet goes idle with the write, and a triggered one,
which has no period start of its own, stops with it (DEDUCED, log 74). -/
def State.groupStop (g : Nat) (s : State) : State :=
  let s := s.put (Obj.groupRunRequest g) 0
  if s.cN (Obj.groupMode g) = 5 ∨ ¬ s.switching g then s.groupOff g else s

/-- GROUP_STOP. -/
def execGroupStop (group : Fin 20) (role : Role) (s : State) : Host.Outcome State Fault Refusal :=
  .next (s.accessAt role 2 (Obj.groupRunRequest (groupNo group.val)) true (State.groupStop (groupNo group.val)))

/-- A write of 2: pulse-off in the tick after it (`requestTick`). -/
def State.groupHalt (g : Nat) (s : State) : State := s.put (Obj.groupRunRequest g) 2

/-- GROUP_STOP_AT_ONCE. -/
def execGroupStopAtOnce (group : Fin 20) (role : Role) (s : State) : Host.Outcome State Fault Refusal :=
  .next (s.accessAt role 2 (Obj.groupRunRequest (groupNo group.val)) true (State.groupHalt (groupNo group.val)))

/-! ## Period starts -/

/-- The least spacing of period starts, ticks (R116). -/
def leastPeriod (g : Nat) : Nat := if g < 16 then 400 else 40

/-- A period start falls too soon: the present period goes on until the spacing is reached (R116). -/
def State.tooFast (s : State) (g : Nat) : Bool :=
  match (s.grpx g).startTick with
  | some t => decide (s.tick < t + leastPeriod g)
  | none => false

/-- What the blocks that own a group put into its shadows at a period start (R285, R314, R372, R373). -/
def State.ownShadows (g : Nat) (s : State) : State :=
  let s := (s.chopperDuty g).stChopperDuty g
  if s.lvOn ∧ s.lvIsoGroups.contains g ∧ 1 ≤ s.oN Obj.lvState ∧ s.oN Obj.lvState ≤ 5 then s.lvIsoShadow else s

/-- The windows of mode 0 close, for every channel that is not at pulse-off, and the link is judged by each channel's highest sample of
the period (R170, R175). -/
def State.periodSenses (g : Nat) (inp : PeriodIn) (s : State) : State :=
  if g < 16 then
    let len := match (s.grpx g).startTick with
      | some t => s.tick - t
      | none => 0
    s.forAll ((s.groupChannels g).filter (fun n => s.drive n != .pulseOff)) (fun n t =>
      let t := if t.cN (Obj.vswEnable n) = 1 ∧ t.cN (Obj.vswWindowMode n) = 0 then t.windowClose n (inp.voltSeconds.toList.getD n 0).toNat len else t
      if t.cN (Obj.hbLinkInput n) < 4 ∧ t.cN (Obj.vdcEnable (t.cN (Obj.hbLinkInput n))) = 1 then t.vdcJudge n (inp.highest.toList.getD n 0).toNat else t)
  else s

/-- Bootstrap under-voltage on two consecutive samples of a channel that is no buck phase: its whole group stops (R130). -/
def State.bstFails (g n : Nat) (s : State) : State :=
  ((s.groupOff g).put (Obj.groupRunRequest g) 0).raise FC.pwmBstuv n

/-- The bootstrap channels of a group, with their places in it. -/
def State.bootChans (s : State) (g : Nat) : List (Nat × Nat) :=
  if g < 16 then [] else ((s.groupChannels g).zipIdx).filter (fun p => s.cN (Obj.lvBootstrap p.1) == 1)

/-- LVn_BST at a period start of a bootstrap channel; every one that fails twice stops its group (R129, R130). -/
def State.periodBst (g : Nat) (inp : PeriodIn) (s : State) : State :=
  let ns := (s.bootChans g).map Prod.fst
  let s := s.forAll ns (fun n t => ((t.bstSample n (F32.toRat (inp.bst.toList.getD n 0).toNat)).bstJudge n))
  if s.switching g then s.forAll (ns.filter (fun n => decide (2 ≤ (s.chx (24 + n)).bstLow))) (State.bstFails g) else s

/-- The refreshes that are due at a period start (R128, R129). -/
def State.periodRefresh (g f : Nat) (s : State) : State :=
  if s.switching g then (s.bootChans g).foldl (fun t p => t.refreshChan g f p.2 p.1) s else s

/-- A new period begins in this tick: no edge of it has been emitted. -/
def State.newPeriod (g : Nat) (s : State) : State :=
  let now := s.tick
  (s.grpMod g (fun x => { x with startTick := some now, held := false })).forAll (s.groupChans g) (fun c => State.chMod c (fun x => { x with seen := 0 }))

/-- A period start of a group's carrier at fine edge `f`, the group `u` into its new period (R113, R114, R119). One that falls too soon
is held back; when it comes, it is counted (R116). -/
def State.periodStart (g : Nat) (inp : PeriodIn) (u f : Nat) (s : State) : State :=
  let m := s.cN (Obj.groupMode g)
  if ¬ s.up ∨ m = 0 ∨ m = 5 ∨ s.oN (Obj.tbLockState (s.cN (Obj.groupTimebase g))) = 0 then s
  else if s.tooFast g then s.grpMod g (fun x => { x with held := true })
  else
    let s := if (s.grpx g).held then (s.incSat (Obj.groupCarrierFastCount g)).raise FC.pwmCarrierfast g else s
    let s := ((s.inc32 (Obj.groupPeriodCount g)).periodSenses g inp).periodBst g inp
    let req := s.oN (Obj.groupRunRequest g)
    let s := if req = 0 ∧ s.switching g then s.groupOff g else s
    let s := (s.ownShadows g).newPeriod g
    if s.switching g then
      let p0 := (s.grpx g).pattern
      let s := if s.cN (Obj.groupAutoLoad g) = 0 then s else (s.takeSet g).stagePhase g
      (s.periodRefresh g f).loadChans g u f (decide ((s.grpx g).pattern ≠ p0)) true
    else
      let s := s.rearmGroup g u f
      if s.oN (Obj.groupState g) = 0 ∧ req = 1 ∧ s.mayStart g then
        let s := s.startGroup g u f
        let t := s.stagePhase g
        if t.grpx g = s.grpx g then t else t.loadChans g u f true true
      else s

/-- PWM_PERIOD_START. -/
def execPwmPeriodStart (group : Fin 20) (inp : PeriodIn) (s : State) : Host.Outcome State Fault Refusal :=
  .next (s.periodStart (groupNo group.val) inp 0 s.feNow)

/-- What a run request does in the tick after its write: 2 stops the group, and 1 starts a group with a pattern or of triggered
on-times, which waits for no period start (R113). -/
def State.requestTick (g : Nat) (inp : PeriodIn) (s : State) : State :=
  let r := s.oN (Obj.groupRunRequest g)
  if r = 2 then s.groupOff g
  else if r = 1 ∧ 4 ≤ s.cN (Obj.groupMode g) ∧ s.oN (Obj.groupState g) = 0 ∧ s.mayStart g then
    let s := s.forAll ((s.bootChans g).map Prod.fst) (fun n t => t.bstSample n (F32.toRat (inp.bst.toList.getD n 0).toNat))
    s.startGroup g (wayFrom (s.groupBack g) (s.groupPos g) 0) s.feNow
  else s

/-- No period start within GroupPeriodMax (R117). -/
def State.stall (g : Nat) (s : State) : State :=
  if s.up ∧ s.switching g ∧ 1 ≤ s.cN (Obj.groupMode g) ∧ s.cN (Obj.groupMode g) ≤ 4 then
    ((s.groupOff g).put (Obj.groupRunRequest g) 0).raise FC.pwmStall g
  else s

/-- PWM_STALL. -/
def execPwmStall (group : Fin 20) (s : State) : Host.Outcome State Fault Refusal := .next (s.stall (groupNo group.val))

end Sys2Proof.Machine
end

