-- ==== Sys2Proof/Machine/Write.lean ====
section
/-! DEFINITION. A write of an object by a session or a signal slot: checked by R438, then given the meaning that the object's
chapter states (R437, R431, R77, R118). -/

namespace Sys2Proof.Machine

/-! ## Objects whose write acts -/

/-- A signed or unsigned value as the object's raw word. -/
def rawOf (v : Int) : Nat := toUnsigned 64 v

/-- A word of the event list's entry window goes to the shadow list; an entry that the device manages ignores it (R105). -/
def State.entryWrite (sub : Nat) (v : Int) (s : State) : State :=
  let t := s.oN Obj.entryTimebase
  let n := s.oN Obj.entryNumber
  if n = 255 ∨ (n = 254 ∧ s.oN Obj.mtrTimebase = t ∧ s.sealPin 1) then s
  else s.mPut (domShadowAddr (Obj.eventListShadow t) (16 * n + 4 * (sub - 3))) 4 (rawOf v)

/-- Whether a CAN controller is sending its head at the moment of an abort that a plain write asks for: the write does not
say, and the spec's objects do not show it. -/
def State.sendingNow (s : State) : Bool := Config.freeValue 311 s.freeIx % 2 == 1

/-- A request object: the effect of its own row. -/
def State.requestWrite (role : Role) (k n : Nat) (s : State) : Option State :=
  let idx := k / 256
  let sub := k % 256
  if k = Obj.modeRequest then some (s.askMode n role)
  else if k = Obj.functionResetRequest then some (if 16777216 ≤ n then s.refuse 0x06 else s.resetAsk n)
  else if k = Obj.sealCommission then some (s.commission n)
  else if k = Obj.swapCommand then some (if n = 1 then s.swapArm else s.cancelSwap 0x08)
  else if k = Obj.faultClearRequest then
    some (if roleRank role < (if 3 ≤ s.faultClass (n / 65536) (n % 65536) then 3 else 2) then s.refuse 0x05 else s.clearFault (n / 65536) (n % 65536))
  else if k = Obj.injectCommand then some s.inject
  else if k = Obj.firmwareCommand then some (s.firmwareAsk n)
  else if k = Obj.lvRunRequest then
    some (if n = 1 then s.lvBegin
      else
        let s := (s.put Obj.lvRunRequest 0).lvHalt 0
        if s.oN Obj.lvState = 6 then s.put Obj.lvState 0 else s)
  else if k = Obj.lvAuxRearm then some (((s.put Obj.lvAuxState 1).lvSession).lvFollow)
  else if k = Obj.lkStopRequest then some (s.lkStop 2)
  else if k = Obj.lkPostStopRequest then some (s.postStop 2)
  else if k = Obj.mtrKeyGenerate then some (s.keyGenerate role n)
  else if 0x3180 ≤ idx ∧ idx ≤ 0x3197 ∧ sub = 12 then
    let g := idx - 0x3180
    some (match n with
      | 0 => s.groupStop g
      | 1 => s.groupRun g
      | _ => s.groupHalt g)
  else if 0x4008 ≤ idx ∧ idx < 0x4088 ∧ idx % 16 = 8 ∧ sub = 9 then some (s.handoverAsk ((idx - 0x4008) / 16) (n % 256) (n / 256))
  else if 0x5205 ≤ idx ∧ idx ≤ 0x5235 ∧ idx % 16 = 5 ∧ sub = 1 then some (s.gaAsk ((idx - 0x5205) / 16) n)
  else if 0x1300 ≤ idx ∧ idx < 0x1380 ∧ idx % 16 = 2 ∧ sub = 1 then some (s.canAbort ((idx - 0x1300) / 16) n s.sendingNow).fresh
  else if 0x1300 ≤ idx ∧ idx < 0x1380 ∧ idx % 16 = 2 ∧ sub = 3 then some (s.canRecover ((idx - 0x1300) / 16))
  else if 0x1300 ≤ idx ∧ idx < 0x1380 ∧ idx % 16 = 3 ∧ sub = 1 then some (s.antennaCommand ((idx - 0x1300) / 16) n)
  else none

/-- What follows a value that is stored: a synchroniser's permit (R336), the time of a battery temperature (R304), a traction battery that is
disconnected (R307), Monarch's
inputs (R385), a commit of shadow values (R118), the safety configuration (R503, R504, R524). -/
def State.afterWrite (k n : Nat) (s : State) : State :=
  let idx := k / 256
  let sub := k % 256
  if 0x5205 ≤ idx ∧ idx ≤ 0x5235 ∧ idx % 16 = 5 ∧ sub = 8 ∧ n = 1 then
    let a := (idx - 0x5205) / 16
    if s.gaOn a ∧ s.oN (Obj.gaState a) = 6 then s.gaEngage a else s
  else if k = Obj.cpBmsTemperature 0 ∨ k = Obj.cpBmsTemperature 1 then
    let now := s.mono
    s.cpMod (if k = Obj.cpBmsTemperature 0 then 0 else 1) (fun x => { x with tempAt := some now })
  else if idx = 0x4910 + (s.tracLinkOf (s.cN Obj.wcMachine)) ∧ sub = 0x0C ∧ n = 0 then s.battLost
  else if k = Obj.monStoragePower ∨ k = Obj.monTxTemperature then s.monInput k
  else if 0x8000 ≤ idx ∧ idx ≤ 0x81FF then
    let s := if 0x8100 ≤ idx ∧ idx ≤ 0x8107 ∧ sub = 1 then s.soLow 1 (idx - 0x8100)
      else if 0x8110 ≤ idx ∧ idx ≤ 0x811F ∧ sub = 1 then s.siStart (idx - 0x8110) else s
    s.safetyCrc
  else
    match s.shadowGroup k with
    | some g => s.commit g
    | none => s

/-- A trim of an SD input is about to change: windows that have begun keep the old one (R186). -/
def State.beforeWrite (k : Nat) (s : State) : State :=
  let idx := k / 256
  if 0x33D8 ≤ idx ∧ idx < 0x33F8 then
    let n := idx - 0x33D8
    let old := (s.tick, s.oN (Obj.sdGainTrim n), s.oN (Obj.sdOffsetTrim n))
    s.sdMod n (fun x => { x with trim := some old })
  else s

/-- Take an accepted value: into the shadow set, or into the object with what follows from it. -/
def State.applyWrite (role : Role) (k : Nat) (v : Int) (s : State) : State :=
  match objInfo (k / 256) (k % 256) with
  | none => s
  | some o =>
    if o.row.acc.isRws then
      let s := if 0x30A003 ≤ k ∧ k ≤ 0x30A006 then s.entryWrite (k % 256) v else { s with shadow := s.shadow.set k v }
      State.shadowTouch (s.scopeOf o) s
    else
      match s.requestWrite role k (rawOf v) with
      | some t => t
      | none => ((s.beforeWrite k).put k v).afterWrite k (rawOf v)

/-- The effect of an accepted write with the code by which the object itself refuses it, 0 for none; a refusal leaves its code
in RoaLastError, an accepted write leaves RoaLastError alone. -/
def State.takeWrite (role : Role) (k : Nat) (v : Int) (s : State) : State × Nat :=
  let old := s.o Obj.roaLastError
  let t := (s.put Obj.roaLastError 0).applyWrite role k v
  let c := t.oN Obj.roaLastError
  if c = 0 then (t.put Obj.roaLastError old, 0) else (t, c)

/-- A write: refused with the lowest code that applies, or taken (R437, R438). -/
def State.write (role : Role) (idx sub size : Nat) (v : Int) (s : State) : State × Nat :=
  let code := s.writeCode role idx sub size v
  if code = 0 then s.takeWrite role (key idx sub) v else (s.refuse code, code)

/-- The value that data of an object's size spells (R7). -/
def dataValue (idx sub raw : Nat) : Int :=
  match objInfo idx sub with
  | some o => o.row.ty.value raw
  | none => raw

/-- The size of an object's values; 0 where there is none. -/
def sizeAt (idx sub : Nat) : Nat :=
  match objInfo idx sub with
  | some o => o.row.ty.size
  | none => 0

/-- A write outside a session's PDU: the value has the object's size; nothing happens where ROA is not served (R51). -/
def State.hostWrite (role : Role) (idx sub raw : Nat) (s : State) : State :=
  if s.up then (s.write role idx sub (sizeAt idx sub) (dataValue idx sub raw)).1 else s

/-- HOST_SHADOW_WRITE: a write of a shadow sub-index, which is its own commit (R118). -/
def execHostShadowWrite (index : BitVec 16) (sub : Byte) (value : BitVec 64) (role : Role) (s : State) : Host.Outcome State Fault Refusal :=
  .next (s.hostWrite role index.toNat sub.toNat value.toNat)

/-- TRIM_WRITE: a write of a user trim, applied from the next sample (R77, R182). -/
def execTrimWrite (index : BitVec 16) (sub : Byte) (value : BitVec 32) (role : Role) (s : State) : Host.Outcome State Fault Refusal :=
  .next (s.hostWrite role index.toNat sub.toNat value.toNat)

end Sys2Proof.Machine
end

