-- ==== Sys2Proof/Machine/Blocks.lean ====
section
/-! DEFINITION. Blocks of the dictionary: what a DOM reads as, and what a block written to it does (R105, R215, R233, R443,
R445, R515, R538 to R540). -/

namespace Sys2Proof.Machine

/-! ## Contents -/

/-- A list cut or filled with zeros to a length. -/
def fit (n : Nat) (l : List Nat) : List Nat := l.take n ++ List.replicate (n - l.length) 0

/-- Bytes of memory as numbers. -/
def State.stored (s : State) (a n : Nat) : List Nat := (bytesAt s.mem a n).map BitVec.toNat

/-- The 256 bytes of a fault record in a slot (R538). -/
def FaultRec.bytes (r : FaultRec) (slot : Nat) : List Nat :=
  let flags := (if slot < 32 then 1 else 0) + (if r.previousCycle then 2 else 0) + (if r.cleared then 4 else 0) + (if r.injected then 8 else 0) +
    (if r.fromIsland then 16 else 0) + (if r.overflow then 32 else 0)
  let body := natBytes 2 r.code ++ [r.cls, flags] ++ natBytes 4 r.seq ++ natBytes 8 r.firstTime ++ natBytes 8 r.lastTime ++
    natBytes 4 r.occurrences ++ natBytes 2 r.inst ++ [r.merged.length, r.mode] ++
    fit 16 (r.merged.flatMap (fun p => natBytes 2 p.1)) ++ fit 16 (r.merged.flatMap (fun p => natBytes 2 p.2)) ++
    natBytes 8 r.clearTime ++ natBytes 4 r.clearRefused ++ natBytes 4 r.chrysalis ++ fit 172 (fit 48 r.context)
  body ++ natBytes 4 (crc32c body)

/-- A slot of the fault store; an empty one holds zeros. -/
def State.faultSlot (s : State) (n : Nat) : List Nat :=
  match s.fc.slots.lookup n with
  | some r => r.bytes n
  | none => List.replicate 256 0

/-- The 32 bytes of an event-log entry (R539). -/
def LogEntry.bytes (e : LogEntry) : List Nat :=
  let body := natBytes 8 e.time ++ natBytes 4 e.count ++ [e.kind, 0] ++ natBytes 2 e.code ++ natBytes 4 e.inst ++ natBytes 4 e.arg1 ++ natBytes 4 e.arg2
  body ++ natBytes 4 (crc32c body)

/-- The log's ring from slot 0: entry number n of those ever written lies in slot n modulo 4,096 (R539, R540). -/
def State.logImage (s : State) : List Nat :=
  let first := s.fc.ringCount - s.fc.ring.length
  let entry (slot : Nat) : Option LogEntry := s.fc.ring[(slot + 4096 - first % 4096) % 4096]?
  (List.range 4096).flatMap (fun k => match entry k with
    | some e => e.bytes
    | none => List.replicate 32 0)

/-- A connection's 64 bytes of EslStatusTable (R515). -/
def State.eslRow (s : State) (n : Nat) : List Nat :=
  let r := s.eslRecord n
  fit 64 ([r 1, 0] ++ natBytes 2 (r 2) ++ natBytes 2 (r 3) ++ natBytes 2 (r 12) ++ natBytes 8 (r 4) ++ [5, 6, 7, 8, 9, 10, 11].flatMap (fun k => natBytes 4 (r k)))

/-- A role's code (R434). -/
def roleCode : Role → Nat
  | .observer => 1
  | .operator => 2
  | .integrator => 3
  | .metrologist => 4
  | .vendor => 5
  | _ => 0

/-- RoaSessionTable: one row per open session in order of number (R446). -/
def State.sessionTable (s : State) : List Nat :=
  fit 256 ((List.range 16).flatMap (fun j =>
    match s.roa.sessions.find? (fun x => x.num == j + 1 && !x.waiting) with
    | some x => natBytes 2 x.num ++ [roleCode x.role, x.transport] ++ natBytes 4 x.nonceIn ++ natBytes 4 x.nonceOut ++ natBytes 4 x.opened
    | none => List.replicate 16 0))

/-- MemRemapTable: 384 rows of bank, spare and region (R547). -/
def State.remapTable (s : State) : List Nat := fit 1536 (s.nv.remap.flatMap (fun (p : Nat × Nat × Nat) => [p.1, p.2.1] ++ natBytes 2 p.2.2))

/-- The longest block of a DOM. -/
def domLen (k : Nat) : Nat :=
  match objInfo (k / 256) (k % 256) with
  | some o => match o.row.ty with
    | .dom n => n
    | _ => 0
  | none => 0

/-- What a DOM holds: `active` chooses the active copy of an RWS block (R437). -/
def State.domBytes (s : State) (active : Bool) (k : Nat) : List Nat :=
  let idx := k / 256
  let n := domLen k
  if 0x3080 ≤ idx ∧ idx ≤ 0x3087 then (List.range 256).flatMap (fun e => natBytes 16 (s.listEntry active (idx - 0x3080) e))
  else if 0x3088 ≤ idx ∧ idx ≤ 0x308F then (List.range 256).flatMap (fun e => natBytes 16 (s.listEntry true (idx - 0x3088) e))
  else if idx = 0x31A1 ∨ idx = 0x31A3 then s.stored (domAddr (k - 256) 0) n
  else if (0x4088 ≤ idx ∧ idx ≤ 0x408F) ∨ (0x4098 ≤ idx ∧ idx ≤ 0x409F) then s.stored (domAddr (k - 8 * 256) 0) n
  else if k = Obj.roaSessionTable then s.sessionTable
  else if k = Obj.eslStatusTable then (List.range 2048).flatMap s.eslRow
  else if 0x1300 ≤ idx ∧ idx < 0x1380 ∧ idx % 16 = 5 then
    let c := (idx - 0x1300) / 16
    let b := s.canBuf c (s.oN (Obj.canRxSelect c))
    b.data.take (hdrLength b.hdr)
  else if k = Obj.monLeaseTable then fit n s.leaseTable
  else if k = Obj.recordWindow then
    match s.mtr.store.find? (fun p => p.1 == s.oN Obj.recordSelect) with
    | some p => fit n (p.2.map BitVec.toNat)
    | none => List.replicate n 0
  else if k = key 0x7202 1 then fit n (Config.meterPublicKey (s.oN Obj.keyGeneration))
  else if k = Obj.faultRecordWindow then s.faultSlot (s.oN Obj.faultRecordSelect)
  else if k = key 0x2403 0 then (List.range 256).flatMap s.faultSlot
  else if k = key 0x2404 0 then s.logImage
  else if k = Obj.memRemapTable then s.remapTable
  else
    match objInfo idx (k % 256) with
    | some o => s.stored (if o.row.acc.isRws ∧ ¬ active then domShadowAddr k 0 else domAddr k 0) n
    | none => []

/-! ## Keys (R445, R515) -/

/-- A wrapped role key under the writing session's key; answers the code of a refusal, 0 for none. -/
def State.writeRoleKey (r sessionKey : Nat) (wrapped : List Nat) (s : State) : State × Nat :=
  match Config.keyUnwrap sessionKey wrapped with
  | none => (s.refuse 0x13, 0x13)
  | some k => (({ s with nv := { s.nv with roleKeys := s.nv.roleKeys.set r k } }).inc32 (Obj.keyVersion r), 0)

/-- A wrapped Monarch key for the entry in PartnerKeySelect. -/
def State.writePartnerKey (sessionKey : Nat) (wrapped : List Nat) (s : State) : State × Nat :=
  let e := s.oN Obj.partnerKeySelect
  match Config.keyUnwrap sessionKey wrapped with
  | none => (s.refuse 0x13, 0x13)
  | some k => ({ s with nv := { s.nv with partnerKeys := (e, k) :: s.nv.partnerKeys.filter (fun p => p.1 != e) } }, 0)

/-! ## Writing a block -/

/-- The image check at a write of ProgramShadow (R233): its result, word and descriptor. -/
def imageCheck (data : List Nat) : Nat × Nat × Nat :=
  let im : Isa.Image := fun w => ((data.drop (4 * w)).take 4).foldr (fun b a => b + 256 * a) 0
  Isa.check im (im 3 == crc32c ((data.drop 16).take (4 * Isa.lengthWords im - 16)))

/-- The bytes of a list block that count: those of entries that the device manages are ignored (R105). -/
def State.listBytes (s : State) (t : Nat) (data : List Nat) : List Nat :=
  let own (n : Nat) : Bool := n == 255 || (n == 254 && s.oN Obj.mtrTimebase == t && s.sealPin 1)
  (List.range 256).flatMap (fun n => if own n then List.replicate 16 0 else (data.drop (16 * n)).take 16)

/-- Entries of a block under a mask of their bytes: what is cut out reads as 0 (R9). -/
def maskEntries (mask : List Nat) : Nat → List Nat → List Nat
  | 0, _ => []
  | n + 1, data => (mask.zip (fit mask.length data)).map (fun p => p.1 &&& p.2) ++ maskEntries mask n (data.drop mask.length)

/-- The bytes of an entry that are not reserved: of the partner table, whose Monarch keys are written through PartnerKey alone (R513),
of the pattern table (R123), a gate list (R481) and CAN filters (R459). -/
def partnerMask : List Nat := 63 :: List.replicate 32 255 ++ List.replicate 31 0
def patternMask : List Nat := [255, 255, 255, 255, 31, 3, 0, 0]
def gateMask : List Nat := [255, 255, 255, 255, 255, 0, 0, 0]
def filterMask : List Nat := [255, 255, 255, 31, 255, 255, 255, 31, 255, 31, 0, 255]

/-- An RWS block goes into its shadow, whole, as one accepted write (R80, R442, R549). -/
def State.putShadow (k : Nat) (data : List Nat) (s : State) : State × Nat :=
  let t := { s with mem := setBytes s.mem (domShadowAddr k 0) (data.map (BitVec.ofNat 8)) }
  if t.overChanged then (s.refuse 0x13, 0x13) else (t.shadowTouch (s.keyScope k), 0)

/-- An accepted pattern table asks the leave arbiter for its recomputation, which ends with LEAVE_RETURN (R127, R551). -/
def State.recompute (s : State) : State :=
  if s.leave.held.any (fun e => e.op == .patternTable) ∨ s.leave.waiting.any (fun e => e.op == .patternTable) then s
  else (s.leaveAsk .patternTable).1

/-- A block is taken as one accepted write under the object's own checks; answers the code of a refusal, 0 for none. -/
def State.takeBlock (sessionKey k : Nat) (data : List Nat) (s : State) : State × Nat :=
  let idx := k / 256
  if 0x4080 ≤ idx ∧ idx ≤ 0x4087 then
    let e := idx - 0x4080
    let r := imageCheck data
    let s := ((s.put (Obj.programCheckResult e) r.1).put (key (0x40B8 + e) 2) r.2.1).put (key (0x40B8 + e) 3) r.2.2
    if r.1 = 0 then s.putShadow k data else (s.refuse 0x13, 0x13)
  else if 0x3080 ≤ idx ∧ idx ≤ 0x3087 then s.putShadow k (s.listBytes (idx - 0x3080) data)
  else if k = Obj.partnerTable then s.putShadow k (maskEntries partnerMask 8192 data)
  else if k = Obj.patternTableShadow then
    let r := s.putShadow k (maskEntries patternMask 4096 data)
    if r.2 = 0 then (r.1.recompute, 0) else r
  else if k = Obj.xgGateList 0 ∨ k = Obj.xgGateList 1 then s.putShadow k (maskEntries gateMask 64 data)
  else if 0x1300 ≤ idx ∧ idx < 0x1380 ∧ idx % 16 = 6 then s.putShadow k (maskEntries filterMask 256 data)
  else if 0x1111 ≤ idx ∧ idx ≤ 0x1115 then s.writeRoleKey (idx - 0x1110) sessionKey data
  else if k = Obj.partnerKey then s.writePartnerKey sessionKey data
  else if 0x1300 ≤ idx ∧ idx < 0x1380 ∧ idx % 16 = 7 then
    let r := s.canSubmit ((idx - 0x1300) / 16) data
    if r.2 then (r.1, 0) else (r.1.refuse 0x13, 0x13)
  else if k = Obj.firmwareStaging then ({ s with roa := { s.roa with staged := true } }, 0)
  else if k = Obj.metrologyImage then ({ s with mem := setBytes s.mem (domAddr k 0) ((fit (domLen k) data).map (BitVec.ofNat 8)) }, 0)
  else s.putShadow k data

/-- The lengths that a block of an object may have: the firmware and metrology images and a CAN frame may be shorter. -/
def blockLengthOk (k length : Nat) : Bool :=
  if k = Obj.firmwareStaging ∨ k = Obj.metrologyImage ∨ (0x1300 ≤ k / 256 ∧ k / 256 < 0x1380) ∧ k / 256 % 16 = 7 then length ≤ domLen k
  else length == domLen k

end Sys2Proof.Machine
end

