-- ==== Sys2Proof/Machine/Roa.lean ====
section
/-! DEFINITION. Ronzon Object Access (R432 to R446): sessions, frames, services, snapshots, block transfers and keys. -/

namespace Sys2Proof.Machine

def State.roaMod (f : RoaX → RoaX) (s : State) : State := { s with roa := f s.roa }

/-! ## Sessions -/

def State.sess (s : State) (n : Nat) : Option RoaSess := s.roa.sessions.find? (fun x => x.num == n)

/-- Change one session. -/
def State.sessMod (n : Nat) (f : RoaSess → RoaSess) (s : State) : State :=
  s.roaMod (fun r => { r with sessions := r.sessions.map (fun x => if x.num = n then f x else x) })

/-- The role of a role code (R434). -/
def roleOf : Nat → Option Role
  | 1 => some .observer
  | 2 => some .operator
  | 3 => some .integrator
  | 4 => some .metrologist
  | 5 => some .vendor
  | _ => none

/-- A receive window's record of the controller that an index belongs to (R461). -/
def windowOf (idx : Nat) : Option Nat := if 0x1300 ≤ idx ∧ idx < 0x1380 ∧ idx % 16 = 4 then some ((idx - 0x1300) / 16) else none

/-- The sub-index whose read takes a record's snapshot: CanRxWord0 in the receive window, else 0x01 (R440, R461). -/
def takingSub (idx : Nat) : Nat := if (windowOf idx).isSome then 2 else 1

/-- The buffer lock of a snapshot of a receive window ends with it (R461). -/
def State.snapOver (q : RoaSnap) (s : State) : State :=
  match windowOf q.index with
  | some c => s.canRelease c ((q.values.lookup 1).getD 0).toNat
  | none => s

/-- The lock that a read of CanRxLongData holds ends with its transfer (R461). -/
def State.xferOver (x : RoaXfer) (s : State) : State :=
  match x.buffer with
  | some (c, n) => s.canRelease c n
  | none => s

/-- A session closes: its snapshots, locks and transfer go with it (R435, R442, R450). -/
def State.closeSess (n : Nat) (s : State) : State :=
  match s.sess n with
  | none => s
  | some x =>
    let s := x.snaps.foldl (fun t q => t.snapOver q) s
    let s := match x.xfer with
      | some y => s.xferOver y
      | none => s
    let s := s.roaMod (fun r => { r with sessions := r.sessions.filter (fun y => y.num != n) })
    s.put Obj.roaSessionCount ((s.roa.sessions.filter (fun y => !y.waiting)).length : Nat)

/-! ## Frames (R432, R433) -/

/-- A transport serves ROA: CANc in FD (0-7) or XL frames (16-23), XG0, XG1, T1S0, T1S1 (8-11), LSPI (12). -/
def State.roaOn (s : State) (t : Nat) : Bool :=
  if t < 8 ∨ 16 ≤ t ∧ t < 24 then (s.cN Obj.roaCanEnable).testBit (t % 8) else 8 ≤ t && t ≤ 12 && (s.cN Obj.roaPortEnable).testBit (t - 8)

/-- The port of the Tandem link, while its control runs (R433, R360). -/
def State.tandemPort (s : State) (p : Nat) : Bool :=
  s.oN Obj.tdState == 4 && (match s.eslEntry (s.oN Obj.tdConnection) with
    | some e => s.pt e 1 1 == p
    | none => false)

/-- The most bytes of Data that a frame on a transport carries (R433). -/
def State.roaLimit (s : State) (t : Nat) : Nat :=
  if t < 8 then 42
  else if (t = 10 ∨ t = 11) ∧ s.tandemPort (t - 8) then (if s.cN (Obj.t1sVlanId (t - 10)) = 0 then 188 else 184)
  else 1024

/-- What a service answers: a code, data, and whether the value comes from a snapshot. -/
structure RoaReply where
  code : Nat := 0
  data : List Nat := []
  snap : Bool := false
  deriving DecidableEq, Repr

/-- A response PDU with its tag (R432, R436). -/
def responsePdu (key svc num nonce idx sub : Nat) (r : RoaReply) : List Nat :=
  let flags := 1 + (if r.code = 0 then 0 else 2) + (if r.snap then 4 else 0)
  let body := [svc, flags] ++ natBytes 2 num ++ natBytes 4 nonce ++ natBytes 2 idx ++ [sub, r.code] ++ natBytes 2 r.data.length ++ r.data
  body ++ natBytes 8 (Config.cmac key body / 2 ^ 64)

/-- Send a PDU on a transport: a CAN frame on RoaCanResponseId, a datagram, or a response that waits at LSPI for the host's read (R433,
R464). -/
def State.sendPdu (t : Nat) (b : List Nat) (s : State) : State :=
  let s := s.roaMod (fun r => { r with answer := b })
  if t < 8 ∨ 16 ≤ t ∧ t < 24 then (s.canPut (t % 8) (s.canFrame (t % 8) (s.cN Obj.roaCanResponseId) b)).1
  else if t < 12 then (s.netUdp (t - 8) 0 (s.cN Obj.roaUdpPort) 0xFFFE b).1
  else s.roaMod (fun r => { r with lspi := r.lspi ++ [b] })

/-- A session answers a request: the next nonce of its direction, a refusal's code in RoaLastError (R435, R438). -/
def State.reply (n t svc idx sub : Nat) (r : RoaReply) (s : State) : State :=
  match s.sess n with
  | none => s
  | some x =>
    let s := if r.code = 0 then s else s.refuse r.code
    let s := s.sessMod n (fun y => { y with nonceOut := y.nonceOut + 1 })
    s.sendPdu t (responsePdu x.key svc n (x.nonceOut + 1) idx sub r)

/-- A failed tag is counted, and RoaMaxTagFailures in a row close the session (R435). -/
def State.tagFails (n : Nat) (s : State) : State :=
  let s := (s.incSat Obj.roaTagFailCount).sessMod n (fun x => { x with fails := x.fails + 1 })
  match s.sess n with
  | none => s
  | some x => if s.oN Obj.roaMaxTagFailures ≤ x.fails then (s.closeSess n).note FC.roaAuth n else s

/-- A request of a session: discarded and counted, answered with 0x12, or served (R435). The service gets the session as the
request leaves it; what it answers is sent. -/
def State.serve (svc : Nat) (req : RoaReq) (idx sub : Nat) (f : RoaSess → State → State × RoaReply) (s : State) : State :=
  let n := req.session.toNat
  let t := req.transport.toNat
  if ¬ s.up ∨ ¬ s.roaOn t then s
  else
    match s.sess n with
    | none => s.incSat Obj.roaTagFailCount
    | some x =>
      if ¬ req.tagOk then s.tagFails n
      else if req.nonce.toNat ≤ x.nonceIn then
        ((s.sessMod n (fun y => { y with fails := 0 })).incSat Obj.roaReplayCount).note FC.roaReplay n
      else if 2147483648 ≤ req.nonce.toNat then
        (((s.reply n t svc idx sub { code := 0x12 }).closeSess n).incSat Obj.roaRekeyCount).note FC.roaRekey n
      else
        let x := { x with nonceIn := req.nonce.toNat, fails := 0, waiting := false, lastAt := s.mono }
        let s := s.sessMod n (fun _ => x)
        let s := s.put Obj.roaSessionCount ((s.roa.sessions.filter (fun y => !y.waiting)).length : Nat)
        let r := f x s
        r.1.reply n t svc idx sub r.2

/-! ## Opening and closing (R434) -/

/-- An Open beyond the limits: no number free, four pending, or a second Vendor or Metrologist. -/
def State.openRefused (s : State) (role : Role) : Bool :=
  16 ≤ s.roa.sessions.length || 4 ≤ (s.roa.sessions.filter (fun x => x.waiting)).length ||
  ((role == .vendor || role == .metrologist) && s.roa.sessions.any (fun x => x.role == role))

/-- An Open request: a pending session with its key and its answer, or 0x11. The DeviceRandom is a free value. -/
def State.roaOpen (req : RoaReq) (code random : Nat) (s : State) : State :=
  let t := req.transport.toNat
  if ¬ s.up ∨ ¬ s.roaOn t then s
  else
    match roleOf code with
    | none => s.incSat Obj.roaTagFailCount
    | some role =>
      let roleKey := s.nv.roleKeys.getD code 0
      if ¬ req.tagOk then s.incSat Obj.roaTagFailCount
      else if s.openRefused role then
        ((s.incSat Obj.roaOpenRefusedCount).refuse 0x11).sendPdu t (responsePdu roleKey 0x01 0 0 0 0 { code := 0x11 })
      else
        let n := ((List.range 16).map (· + 1)).find? (fun k => (s.sess k).isNone) |>.getD 16
        let dev := (Config.freeValue 1701 s.freeIx % 4294967296).toNat
        let block := natBytes 4 random ++ natBytes 4 dev ++ natBytes 2 n ++ [code, 0, 0, 0, 0, 0]
        let x : RoaSess := { num := n, role := role, transport := t, key := Config.aes roleKey (leNat (block.map (BitVec.ofNat 8))),
                             opened := s.now / 1000000000, lastAt := s.mono }
        (s.fresh.roaMod (fun r => { r with sessions := r.sessions ++ [x] })).sendPdu t
          (responsePdu roleKey 0x01 n 0 0 0 { data := natBytes 4 dev })

/-- OPEN. -/
def execRoaOpen (req : RoaReq) (role : Byte) (random : BitVec 32) (s : State) : Host.Outcome State Fault Refusal :=
  .next (s.roaOpen req role.toNat random.toNat)

/-- Close: answered, then closed (R436). -/
def State.svcClose (req : RoaReq) (s : State) : State :=
  let t := s.serve 0x02 req 0 0 (fun _ u => (u, {}))
  if s.up ∧ s.roaOn req.transport.toNat ∧ req.tagOk ∧ (s.sess req.session.toNat).any (fun x => x.nonceIn < req.nonce.toNat)
    then t.closeSess req.session.toNat else t

/-- CLOSE. -/
def execRoaClose (req : RoaReq) (s : State) : Host.Outcome State Fault Refusal := .next (s.svcClose req)

/-- KeepAlive (R436). -/
def State.svcKeepAlive (req : RoaReq) (s : State) : State := s.serve 0x03 req 0 0 (fun _ u => (u, {}))

/-- KEEP_ALIVE. -/
def execKeepAlive (req : RoaReq) (s : State) : Host.Outcome State Fault Refusal := .next (s.svcKeepAlive req)

/-- SESSION_PENDING_LAPSE: 1 s without a request. -/
def execSessionPendingLapse (session : BitVec 16) (s : State) : Host.Outcome State Fault Refusal :=
  .next (if (s.sess session.toNat).any (fun x => x.waiting) then s.closeSess session.toNat else s)

/-- SESSION_IDLE_TIMEOUT: RoaIdleTimeout without a valid request. -/
def execSessionIdleTimeout (session : BitVec 16) (s : State) : Host.Outcome State Fault Refusal :=
  .next (if (s.sess session.toNat).any (fun x => !x.waiting) then s.closeSess session.toNat else s)

/-! ## Taking values (R439 to R441) -/

/-- A value is taken by ROA: a sub-index marked "cleared on read" is cleared (R441, R546). -/
def State.taken (k : Nat) (s : State) : State :=
  match objInfo (k / 256) (k % 256) with
  | none => s
  | some o =>
    if ¬ o.row.clr then s
    else
      let s := s.put k 0
      if 0x2301 = k / 256 then s.put Obj.memConflictSaturated (clearBit (s.oN Obj.memConflictSaturated) (k % 256 - 1) : Nat)
      else if Obj.lvPeak 0 ≤ k ∧ k ≤ Obj.lvPeak 3 then s.lvPeakRead (k - Obj.lvPeak 0)
      else if k = Obj.vdcMin 0 ∨ k = Obj.vdcMin 1 ∨ k = Obj.vdcMin 2 ∨ k = Obj.vdcMin 3 then
        s.vdcMod (k / 256 % 16) (fun x => { x with minEmpty := true })
      else if Obj.vmMin 0 ≤ k ∧ k % 256 = Obj.vmMin 0 % 256 ∧ k ≤ Obj.vmMin 11 then
        { s with hm := { s.hm with minEmpty := s.hm.minEmpty.set ((k - Obj.vmMin 0) / 256) true } }
      else s

/-- A take of a receive window's words: the first locks the selected buffer, the last occupied one releases it (R461). -/
def State.windowTaken (idx : Nat) (subs : List Nat) (s : State) : State :=
  match windowOf idx with
  | none => s
  | some c =>
    let n := s.oN (Obj.canRxSelect c)
    let s := if subs.contains 2 then s.canLock c n else s
    if subs.contains (s.canBuf c n).lastSub ∨ subs.contains 0x16 then s.canRelease c n else s

/-- The readable sub-indices of a record with values, rising: no blocks and no write-only ones. -/
def recordSubs (idx : Nat) : List Nat :=
  match findRec objTable idx with
  | none => []
  | some (r, _) =>
    ((r.subs.filter (fun d => !d.ty.isDom && d.acc != .wo)).flatMap (fun d => (List.range d.count).map (fun j => d.sub + d.stride * j))).insertionSort (· ≤ ·)

/-- The highest sub-index of a record that holds a value. -/
def lastSub (idx : Nat) : Nat := (recordSubs idx).foldl max 0

/-- A value's bytes as a read shows it. -/
def valueBytes (idx sub : Nat) (v : Int) : List Nat :=
  match objInfo idx sub with
  | some o => tyBytes o.row.ty v
  | none => []

/-- Snapshots of a session. -/
def State.snapOf (s : State) (n idx : Nat) : Option RoaSnap := (s.sess n).bind (fun x => x.snaps.find? (fun q => q.index == idx))

/-- Drop a session's snapshot of a record. -/
def State.snapDrop (n idx : Nat) (s : State) : State := s.sessMod n (fun x => { x with snaps := x.snaps.filter (fun q => q.index != idx) })

/-- A snapshot that is not released in time, or is pushed out by a ninth, is discarded and counted (R440). -/
def State.snapDiscard (n idx : Nat) (s : State) : State :=
  match s.snapOf n idx with
  | none => s
  | some q =>
    let s := ((s.snapDrop n idx).sessMod n (fun x => { x with dropped := idx :: x.dropped.filter (· != idx) })).incSat Obj.roaSnapshotDiscardCount
    s.snapOver q

/-- SNAPSHOT_DISCARD: 50 ms have passed since the taking. -/
def execSnapshotDiscard (session index : BitVec 16) (s : State) : Host.Outcome State Fault Refusal :=
  .next (s.snapDiscard session.toNat index.toNat)

/-- A snapshot of every sub-index of a record is taken (R440); a receive window locks its buffer (R461). -/
def State.snapTake (n idx : Nat) (active : Bool) (s : State) : State :=
  let s := match s.snapOf n idx, windowOf idx with
    | some q, some c => if (q.values.lookup 1).getD 0 = s.o (Obj.canRxSelect c) then s else s.snapOver q
    | _, _ => s
  let s := s.snapDrop n idx
  let s := match s.sess n with
    | some x => if 8 ≤ x.snaps.length then s.snapDiscard n ((x.snaps.head?.map RoaSnap.index).getD 0) else s
    | none => s
  let q : RoaSnap := { index := idx, values := (recordSubs idx).map (fun j => (j, s.view active (key idx j))), taken := s.mono }
  let s := s.sessMod n (fun x => { x with snaps := x.snaps ++ [q], dropped := x.dropped.filter (· != idx) })
  let s := s.forAll ((recordSubs idx).map (key idx)) State.taken
  match windowOf idx with
  | some c => s.canLock c (s.oN (Obj.canRxSelect c))
  | none => s

/-- The sub-index whose read releases a snapshot: the highest, or the last occupied word of a receive window's buffer. -/
def State.releases (s : State) (q : RoaSnap) (sub : Nat) : Bool :=
  sub == lastSub q.index || (match windowOf q.index with
    | some c => sub == (s.canBuf c ((q.values.lookup 1).getD 0).toNat).lastSub
    | none => false)

/-- READ: R437, R440. -/
def State.readOne (n t idx sub : Nat) (active : Bool) (s : State) : State × RoaReply :=
  let code := s.readCode idx sub
  let size := sizeAt idx sub
  if code ≠ 0 then (s, { code := code })
  else if s.roaLimit t < size then (s, { code := 0x14 })
  else
    let s := if sub = takingSub idx ∧ lastSub idx ≠ 0 then s.snapTake n idx active else s
    match s.snapOf n idx with
    | some q =>
      let v := (q.values.lookup sub).getD 0
      let s := if s.releases q sub then (s.snapDrop n idx).snapOver q else s
      (s, { data := valueBytes idx sub v, snap := true })
    | none =>
      if (s.sess n).any (fun x => x.dropped.contains idx) then
        (s.sessMod n (fun x => { x with dropped := x.dropped.filter (· != idx) }), { code := 0x0D })
      else
        let v := s.view active (key idx sub)
        ((s.taken (key idx sub)).windowTaken idx [sub], { data := valueBytes idx sub v })

/-- Read (R437, R440). -/
def State.svcRead (req : RoaReq) (idx sub : Nat) (s : State) : State :=
  s.serve 0x04 req idx sub (fun x u => u.readOne x.num req.transport.toNat idx sub req.inForce)

/-- READ. -/
def execRoaRead (req : RoaReq) (index : BitVec 16) (sub : Byte) (s : State) : Host.Outcome State Fault Refusal :=
  .next (s.svcRead req index.toNat sub.toNat)

/-- The sub-indices that a RecordRead or RecordWrite names. -/
def subRange (first last : Nat) : List Nat := if first ≤ last then (List.range (last + 1 - first)).map (· + first) else []

/-- RECORD_READ: values of one tick (R439). -/
def State.recordRead (t idx first last : Nat) (active : Bool) (s : State) : State × RoaReply :=
  let subs := subRange first last
  let codes := (if subs = [] then [0x03] else []) ++ (subs.map (s.readCode idx)).filter (· != 0) ++
    (if s.roaLimit t < (subs.map (sizeAt idx)).sum then [0x14] else [])
  match codes.min? with
  | some c => (s, { code := c })
  | none =>
    let data := subs.flatMap (fun j => valueBytes idx j (s.view active (key idx j)))
    ((s.forAll (subs.map (key idx)) State.taken).windowTaken idx subs, { data := data })

/-- RecordRead (R439). -/
def State.svcRecordRead (req : RoaReq) (idx sub last : Nat) (s : State) : State :=
  s.serve 0x06 req idx sub (fun _ u => u.recordRead req.transport.toNat idx sub last req.inForce)

/-- RECORD_READ. -/
def execRecordRead (req : RoaReq) (index : BitVec 16) (sub last : Byte) (s : State) : Host.Outcome State Fault Refusal :=
  .next (s.svcRecordRead req index.toNat sub.toNat last.toNat)

/-! ## Writing values (R437) -/

/-- Data bytes as numbers. -/
def bytesNat (l : List Byte) : List Nat := l.map BitVec.toNat

/-- The number that little-endian bytes spell (R7). -/
def numOf (l : List Nat) : Nat := l.foldr (fun b a => b % 256 + 256 * a) 0

/-- Write (R437). -/
def State.svcWrite (req : RoaReq) (idx sub : Nat) (d : List Nat) (s : State) : State :=
  s.serve 0x05 req idx sub (fun x u =>
    let r := u.write x.role idx sub d.length (dataValue idx sub (numOf d))
    (r.1, { code := r.2 }))

/-- WRITE. -/
def execRoaWrite (req : RoaReq) (index : BitVec 16) (sub : Byte) (data : List Byte) (s : State) : Host.Outcome State Fault Refusal :=
  .next (s.svcWrite req index.toNat sub.toNat (bytesNat data))

/-- Data cut into the values of some sub-indices. -/
def cutValues (idx : Nat) : List Nat → List Nat → List (Nat × Int)
  | [], _ => []
  | j :: js, d => (j, dataValue idx j (numOf (d.take (sizeAt idx j)))) :: cutValues idx js (d.drop (sizeAt idx j))

/-- The state in which the checks of a RecordWrite are made: every value in its place, nothing acted upon. -/
def State.placed (idx : Nat) (vs : List (Nat × Int)) (s : State) : State :=
  vs.foldl (fun t p => match objInfo idx p.1 with
    | some o => if o.row.acc.isRws then { t with shadow := t.shadow.set (key idx p.1) p.2 } else t.put (key idx p.1) p.2
    | none => t) s

/-- RECORD_WRITE: checked whole, then every value or none (R437). A value that an object's request refuses takes back them all. -/
def State.recordWrite (role : Role) (idx first last : Nat) (d : List Nat) (s : State) : State × RoaReply :=
  let subs := subRange first last
  let vs := cutValues idx subs d
  let p := s.placed idx vs
  let whole := d.length = (subs.map (sizeAt idx)).sum
  let codes := (if subs = [] then [0x03] else []) ++ (if whole then [] else [0x07]) ++
    (vs.map (fun v => p.writeCode role idx v.1 (sizeAt idx v.1) v.2)).filter (fun c => c != 0 && (whole || c != 0x06))
  match codes.min? with
  | some c => (s, { code := c })
  | none =>
    let r := vs.foldl (fun (acc : State × Nat) v => if acc.2 = 0 then acc.1.takeWrite role (key idx v.1) v.2 else acc) (s, 0)
    if r.2 = 0 then (r.1, {}) else (s, { code := r.2 })

/-- RecordWrite (R437). -/
def State.svcRecordWrite (req : RoaReq) (idx sub last : Nat) (d : List Nat) (s : State) : State :=
  s.serve 0x07 req idx sub (fun x u => u.recordWrite x.role idx sub last d)

/-- RECORD_WRITE. -/
def execRecordWrite (req : RoaReq) (index : BitVec 16) (sub last : Byte) (data : List Byte) (s : State) : Host.Outcome State Fault Refusal :=
  .next (s.svcRecordWrite req index.toNat sub.toNat last.toNat (bytesNat data))

/-! ## Describe (R436) -/

/-- The least and greatest value of a type, as raw 8-byte numbers. -/
def typeBounds : Ty → Nat × Nat
  | .bool => (0, 1)
  | .f32 => (0xFF7FFFFF, 0x7F7FFFFF)
  | .i16 => (2 ^ 15, 2 ^ 15 - 1)
  | .i32 => (2 ^ 31, 2 ^ 31 - 1)
  | .i64 => (2 ^ 63, 2 ^ 63 - 1)
  | .str => (0, 0)
  | .dom n => (0, n)
  | t => (0, 2 ^ (8 * t.size) - 1)

/-- Minimum and Maximum of Describe; a set that the tables word in another way shows its type's bounds. -/
def State.bounds (s : State) (o : ObjInfo) (idx : Nat) : Nat × Nat :=
  let ty := o.row.ty
  let w (v : Int) : Nat := toUnsigned (8 * ty.size) v
  let own (x : Nat) : Nat := w (s.ownVal o.row.acc (key idx x))
  let neg (v : Nat) : Nat := if v = 0 then 0 else v ^^^ 0x80000000
  match o.row.rng with
  | .ints l => (w ((l.head?.map Prod.fst).getD 0), w ((l.getLast?.map Prod.snd).getD 0))
  | .bits m => (0, m)
  | .flt lo hi => (lo, hi)
  | .fltBelow lo _ x => (lo, own x)
  | .fltAbove _ hi x => (own x, hi)
  | .fltSym x => (neg (own x), own x)
  | .fltTo x => (0, own x)
  | .fltBetween a b => (own a, own b)
  | .fltPos => (1, 0x7F7FFFFF)
  | .full => typeBounds ty
  | .special 5 => (60, 3600)
  | .special 6 => (0, if o.inst < 12 then 2 ^ 24 - 1 else 2 ^ 16 - 1)
  | .special 10 => (s.oN Obj.recordOldest, s.oN Obj.recordNewest)
  | .special 11 =>
    let q := s.trimScale idx o.inst / 200
    (F32.ofRat (-q), F32.ofRat q)
  | .special 13 => (0, if o.inst < 12 then 4 else 5)
  | .special 15 => (s.plat.sealLatch, s.plat.sealLatch)
  | .special _ => typeBounds ty

/-- The write role that Describe reports: the role code of R430 for the write, 0 for none. -/
def describedRole (o : ObjInfo) (idx : Nat) : Nat := if idx = 0x1114 then 4 else if idx = 0x1115 then 0 else o.row.role

/-- DESCRIBE. -/
def State.describe (idx sub : Nat) (s : State) : RoaReply :=
  match objInfo idx sub with
  | none => { code := missing idx }
  | some o =>
    if ¬ s.present o then { code := 0x0C }
    else
      let b := s.bounds o idx
      { data := [o.row.ty.code, o.row.acc.code, describedRole o idx, if o.row.acc.isRws then s.scopeOf o else 0xFF] ++
          natBytes 8 (if o.row.ty.isDom then 0 else toUnsigned (8 * o.row.ty.size) (defaultOf (key idx sub))) ++ natBytes 8 b.1 ++ natBytes 8 b.2 }

/-- Describe (R436). -/
def State.svcDescribe (req : RoaReq) (idx sub : Nat) (s : State) : State :=
  s.serve 0x08 req idx sub (fun _ u => (u, u.describe idx sub))

/-- DESCRIBE. -/
def execDescribe (req : RoaReq) (index : BitVec 16) (sub : Byte) (s : State) : Host.Outcome State Fault Refusal :=
  .next (s.svcDescribe req index.toNat sub.toNat)

/-! ## Block transfers (R442) -/

/-- Transfers open in the device. -/
def State.xfers (s : State) : List RoaXfer := s.roa.sessions.filterMap (fun x => x.xfer)

/-- A start finds its session's transfer open, or four in the device (R442). -/
def State.xferBusy (s : State) (x : RoaSess) : Bool := x.xfer.isSome || 4 ≤ s.xfers.length

/-- A transfer opens. -/
def State.xferOpen (n : Nat) (y : RoaXfer) (s : State) : State :=
  let now := s.mono
  s.sessMod n (fun x => { x with xfer := some { y with lastAt := now }, lapsed := false })

/-- The transfer of a session is over. -/
def State.xferEnd (n : Nat) (s : State) : State :=
  match (s.sess n).bind (fun x => x.xfer) with
  | none => s
  | some y => (s.sessMod n (fun x => { x with xfer := none })).xferOver y

/-- The code that refuses a read of a block. -/
def State.blockReadCode (s : State) (x : RoaSess) (idx sub : Nat) : Nat :=
  match objInfo idx sub with
  | none => missing idx
  | some o =>
    firstCode [(0x04, o.row.acc == .wo), (0x07, !o.row.ty.isDom), (0x09, s.sealForbids o idx false), (0x0A, s.modeForbids idx false),
      (0x0C, !s.present o), (0x10, s.xferBusy x)]

/-- BLOCK_READ_START: the block is copied, and its length and CRC reported; an empty block needs no segment. -/
def State.blockRead (x : RoaSess) (idx sub : Nat) (active : Bool) (s : State) : State × RoaReply :=
  let code := s.blockReadCode x idx sub
  if code ≠ 0 then (s, { code := code })
  else
    let k := key idx sub
    let data := s.domBytes active k
    let crc := crc32c data
    let r : RoaReply := { data := natBytes 4 data.length ++ natBytes 4 crc }
    let c := (idx - 0x1300) / 16
    let long := 0x1300 ≤ idx ∧ idx < 0x1380 ∧ idx % 16 = 5
    let b := s.oN (Obj.canRxSelect c)
    let s := if long then s.canLock c b else s
    if data = [] then (if long then s.canRelease c b else s, r)
    else (s.xferOpen x.num { write := false, index := idx, sub := sub, length := data.length, crc := crc, data := data,
                             buffer := if long then some (c, b) else none }, r)

/-- BlockReadStart (R442). -/
def State.svcBlockReadStart (req : RoaReq) (idx sub : Nat) (s : State) : State :=
  s.serve 0x09 req idx sub (fun x u => u.blockRead x idx sub req.inForce)

/-- BLOCK_READ_START. -/
def execBlockReadStart (req : RoaReq) (index : BitVec 16) (sub : Byte) (s : State) : Host.Outcome State Fault Refusal :=
  .next (s.svcBlockReadStart req index.toNat sub.toNat)

/-- A service that finds no transfer of its kind: 0x15 once after a lapse, else 0x0E. -/
def State.noXfer (x : RoaSess) (s : State) : State × RoaReply :=
  if x.lapsed then (s.sessMod x.num (fun y => { y with lapsed := false }), { code := 0x15 }) else (s, { code := 0x0E })

/-- BLOCK_READ_SEGMENT: data from the expected offset; the last segment ends the transfer. -/
def State.readSegment (x : RoaSess) (t off : Nat) (s : State) : State × RoaReply :=
  match x.xfer with
  | none => s.noXfer x
  | some y =>
    if y.write ∨ off ≠ y.next then (s, { code := 0x0E })
    else
      let d := (y.data.drop off).take (s.roaLimit t - 4)
      let r : RoaReply := { data := natBytes 4 off ++ d }
      let now := s.mono
      if y.length ≤ off + d.length then (s.xferEnd x.num, r)
      else (s.sessMod x.num (fun z => { z with xfer := some { y with next := off + d.length, lastAt := now } }), r)

/-- BlockReadSegment (R442). -/
def State.svcBlockReadSegment (req : RoaReq) (off : Nat) (s : State) : State :=
  s.serve 0x0A req 0 0 (fun x u => u.readSegment x req.transport.toNat off)

/-- BLOCK_READ_SEGMENT. -/
def execBlockReadSegment (req : RoaReq) (offset : BitVec 32) (s : State) : Host.Outcome State Fault Refusal :=
  .next (s.svcBlockReadSegment req offset.toNat)

/-- The code that refuses the start of a block write. -/
def State.blockStartCode (s : State) (x : RoaSess) (idx sub length : Nat) : Nat :=
  let code := s.blockCode x.role idx sub
  let single := (idx = 0x1680 ∨ idx = 0x1022) ∧ s.xfers.any (fun y => y.write && y.index == idx)
  firstCode [
    (code, code != 0 && code ≤ 0x07),
    (0x07, !blockLengthOk (key idx sub) length),
    (code, code != 0),
    (0x10, s.xferBusy x || decide single || (idx == 0x1020 && s.roa.running != 0))]

/-- BLOCK_WRITE_START; a new firmware image replaces the staged one from its first byte on (R442, R443). -/
def State.blockWrite (x : RoaSess) (idx sub length crc : Nat) (s : State) : State × RoaReply :=
  let code := s.blockStartCode x idx sub length
  if code ≠ 0 then (s, { code := code })
  else
    let s := if idx = 0x1020 then s.roaMod (fun r => { r with staged := false }) else s
    (s.xferOpen x.num { write := true, index := idx, sub := sub, length := length, crc := crc }, {})

/-- BlockWriteStart (R442). -/
def State.svcBlockWriteStart (req : RoaReq) (idx sub len crc : Nat) (s : State) : State :=
  s.serve 0x0B req idx sub (fun x u => u.blockWrite x idx sub len crc)

/-- BLOCK_WRITE_START. -/
def execBlockWriteStart (req : RoaReq) (index : BitVec 16) (sub : Byte) (length crc : BitVec 32) (s : State) : Host.Outcome State Fault Refusal :=
  .next (s.svcBlockWriteStart req index.toNat sub.toNat length.toNat crc.toNat)

/-- BLOCK_WRITE_SEGMENT: data at the expected offset is staged, a firmware image's in its flash region; a segment at another offset
is refused with 0x0E and the NextOffset. -/
def State.writeSegment (x : RoaSess) (t off : Nat) (d : List Nat) (s : State) : State × RoaReply :=
  match x.xfer with
  | none => s.noXfer x
  | some y =>
    if ¬ y.write then (s, { code := 0x0E })
    else if s.roaLimit t < d.length + 4 then (s, { code := 0x07 })
    else if off ≠ y.data.length then (s, { code := 0x0E, data := natBytes 4 y.data.length })
    else
      let now := s.mono
      let s := s.sessMod x.num (fun z => { z with xfer := some { y with data := y.data ++ d, next := off + d.length, lastAt := now } })
      let s := if y.index = 0x1020 then { s with mem := setBytes s.mem (domAddr Obj.firmwareStaging off) ((d.take (y.length - off)).map (BitVec.ofNat 8)) } else s
      (s, { data := natBytes 4 (off + d.length) })

/-- BlockWriteSegment (R442). -/
def State.svcBlockWriteSegment (req : RoaReq) (off : Nat) (d : List Nat) (s : State) : State :=
  s.serve 0x0C req 0 0 (fun x u => u.writeSegment x req.transport.toNat off d)

/-- BLOCK_WRITE_SEGMENT. -/
def execBlockWriteSegment (req : RoaReq) (offset : BitVec 32) (data : List Byte) (s : State) : Host.Outcome State Fault Refusal :=
  .next (s.svcBlockWriteSegment req offset.toNat (bytesNat data))

/-- BLOCK_WRITE_END: length and CRC, the object's rights and conditions as they now stand, then the block as one write. -/
def State.blockEnd (x : RoaSess) (s : State) : State × RoaReply :=
  match x.xfer with
  | none => s.noXfer x
  | some y =>
    if ¬ y.write then (s, { code := 0x0E })
    else
      let s := s.xferEnd x.num
      let code := s.blockCode x.role y.index y.sub
      let bad := y.data.length ≠ y.length ∨ crc32c y.data ≠ y.crc
      let c := firstCode [(code, code != 0), (0x0F, decide bad)]
      if c ≠ 0 then (s, { code := c })
      else
        let r := s.takeBlock x.key (key y.index y.sub) y.data
        (r.1, { code := r.2 })

/-- BlockWriteEnd (R442). -/
def State.svcBlockWriteEnd (req : RoaReq) (s : State) : State :=
  s.serve 0x0D req 0 0 (fun x u => u.blockEnd x)

/-- BLOCK_WRITE_END. -/
def execBlockWriteEnd (req : RoaReq) (s : State) : Host.Outcome State Fault Refusal :=
  .next (s.svcBlockWriteEnd req)

/-- BlockAbort (R442). -/
def State.svcBlockAbort (req : RoaReq) (s : State) : State :=
  s.serve 0x0E req 0 0 (fun x u => if x.xfer.isSome then (u.xferEnd x.num, {}) else u.noXfer x)

/-- BLOCK_ABORT. -/
def execBlockAbort (req : RoaReq) (s : State) : Host.Outcome State Fault Refusal :=
  .next (s.svcBlockAbort req)

/-- BLOCK_TRANSFER_TIMEOUT: RoaBlockTimeout without a segment. -/
def execBlockTransferTimeout (session : BitVec 16) (s : State) : Host.Outcome State Fault Refusal :=
  let n := session.toNat
  .next (if (s.sess n).any (fun x => x.xfer.isSome) then (s.xferEnd n).sessMod n (fun x => { x with lapsed := true }) else s)

/-! ## A frame's PDU (R432, R435, R436) -/

/-- A PDU as a carrier delivers it: its fields, its tag under the session's or the role's key, and the service it names. A frame too
short for its Length fails its tag. -/
def State.roaPdu (t : Nat) (b : List Nat) (s : State) : State :=
  let f (off n : Nat) : Nat := numOf ((b.drop off).take n)
  let n := f 12 2
  let svc := f 0 1
  let idx := f 8 2
  let sub := f 10 1
  let param := f 11 1
  let d := (b.drop 14).take n
  let key := if svc = 0x01 then s.nv.roleKeys.getD param 0 else ((s.sess (f 2 2)).map RoaSess.key).getD 0
  let ok := decide (22 + n ≤ b.length) && natBytes 8 (Config.cmac key (b.take (14 + n)) / 2 ^ 64) == (b.drop (14 + n)).take 8
  let req : RoaReq := { session := BitVec.ofNat 16 (f 2 2), nonce := BitVec.ofNat 32 (f 4 4), tagOk := ok, transport := BitVec.ofNat 8 t,
                        inForce := (f 1 1).testBit 2 }
  let bad : State := s.serve svc req idx sub (fun _ u => (u, { code := 0x07 }))
  match svc with
  | 0x01 => if n = 4 then s.roaOpen req param (numOf d) else s.incSat Obj.roaTagFailCount
  | 0x02 => s.svcClose req
  | 0x03 => s.svcKeepAlive req
  | 0x04 => s.svcRead req idx sub
  | 0x05 => s.svcWrite req idx sub d
  | 0x06 => s.svcRecordRead req idx sub param
  | 0x07 => s.svcRecordWrite req idx sub param d
  | 0x08 => s.svcDescribe req idx sub
  | 0x09 => s.svcBlockReadStart req idx sub
  | 0x0A => if n = 4 then s.svcBlockReadSegment req (numOf d) else bad
  | 0x0B => if n = 8 then s.svcBlockWriteStart req idx sub (numOf (d.take 4)) (numOf (d.drop 4)) else bad
  | 0x0C => if 4 ≤ n then s.svcBlockWriteSegment req (numOf (d.take 4)) (d.drop 4) else bad
  | 0x0D => s.svcBlockWriteEnd req
  | 0x0E => s.svcBlockAbort req
  | _ => s.serve svc req idx sub (fun _ u => (u, { code := 0x01 }))

/-! ## Keys (R445, R515) -/

/-- ROLE_KEY_WRITE: the block of a session to RoleKey of a role. -/
def State.roleKeyBlock (n r : Nat) (wrapped : List Nat) (s : State) : State :=
  match s.sess n with
  | none => s
  | some x =>
    let code := s.blockCode x.role (0x1110 + r) 1
    if ¬ s.up then s
    else if code ≠ 0 then s.refuse code
    else if wrapped.length ≠ 24 then s.refuse 0x07
    else (s.writeRoleKey r x.key wrapped).1

/-- ROLE_KEY_WRITE. -/
def execRoleKeyWrite (session : BitVec 16) (roleCode : Byte) (wrapped : List Byte) (s : State) : Host.Outcome State Fault Refusal :=
  .next (s.roleKeyBlock session.toNat roleCode.toNat (bytesNat wrapped))

/-- PARTNER_KEY_WRITE: the block of a session to PartnerKey. -/
def State.partnerKeyBlock (n : Nat) (wrapped : List Nat) (s : State) : State :=
  match s.sess n with
  | none => s
  | some x =>
    let code := s.blockCode x.role 0x1601 0
    if ¬ s.up then s
    else if code ≠ 0 then s.refuse code
    else if wrapped.length ≠ 24 then s.refuse 0x07
    else (s.writePartnerKey x.key wrapped).1

/-- PARTNER_KEY_WRITE. -/
def execPartnerKeyWrite (session : BitVec 16) (wrapped : List Byte) (s : State) : Host.Outcome State Fault Refusal :=
  .next (s.partnerKeyBlock session.toNat (bytesNat wrapped))

end Sys2Proof.Machine
end

