-- ==== Sys2Proof/Machine/NetRows.lean ====
section
/-! DEFINITION. Frames received at the Ethernet ports (R479, R480, R484, R485, R391). Ports are XG0, XG1, T1S0, T1S1. -/

namespace Sys2Proof.Machine

/-- A received frame is discarded and counted at its port (R479, R480). -/
def State.rxDrop (p : Nat) (s : State) : State := s.incSat (if p < 2 then Obj.xgRxDropCount p else Obj.t1sRxDropCount (p - 2))

/-- A frame beyond the rates that the device sustains: NET_RXDROP at most once a second (R485). -/
def State.rxFlood (p : Nat) (s : State) : State :=
  let s := s.rxDrop p
  let now := s.mono
  if (s.net.rxDropAt.getD p none).any (fun t => now < t + 1000000000) then s
  else (s.netMod (fun n => { n with rxDropAt := n.rxDropAt.set p (some now) })).note FC.netRxdrop p

/-- The port's VLAN identifier, and the UDP port of its ESL frames. -/
def State.portVlan (s : State) (p : Nat) : Nat := if p < 2 then s.cN (Obj.xgVlanId p) else s.cN (Obj.t1sVlanId (p - 2))
def State.eslPort (s : State) (p : Nat) : Nat := if p < 2 then s.cN (Obj.xgEslUdpPort p) else s.cN (Obj.t1sEslUdpPort (p - 2))

/-- Longest frame at a port: 256 bytes on a Tandem link (R360, R484). -/
def State.frameMax (s : State) (p : Nat) : Nat := if 2 ≤ p ∧ s.tandemPort p then 256 else 1522

/-- A Monarch frame of 40 bytes as its fields (R391). -/
def monParse (key : Nat) (b : List Nat) : MonIn :=
  let f (off n : Nat) : Nat := numOf ((b.drop off).take n)
  { partner := BitVec.ofNat 16 (f 2 2), sequence := BitVec.ofNat 32 (f 4 4), leaseId := BitVec.ofNat 32 (f 8 4), amount := BitVec.ofNat 32 (f 12 4),
    minimum := BitVec.ofNat 32 (f 16 4), cls := BitVec.ofNat 8 (f 20 1), result := BitVec.ofNat 8 (f 21 1), epoch := BitVec.ofNat 16 (f 22 2),
    time := BitVec.ofNat 64 (f 24 8), tagOk := natBytes 8 (Config.cmac key (b.take 32) / 2 ^ 64) == (b.drop 32).take 8 }

/-- A datagram to MonUdpPort, by its type (R391); another length, version or type is discarded and counted. -/
def State.monDatagram (p : Nat) (b : List Nat) (s : State) : State :=
  let m := monParse ((s.nv.partnerKeys.lookup (numOf ((b.drop 2).take 2))).getD 0) b
  if b.length ≠ 40 ∨ b.getD 0 0 ≠ 1 then s.rxDrop p
  else
    match b.getD 1 0 with
    | 1 => s.monFrame m State.monServe
    | 2 => s.clientFrame 2 m
    | 3 => s.monFrame m State.monRenew
    | 4 => s.clientFrame 4 m
    | 5 => s.clientFrame 5 m
    | 6 => s.monFrame m State.monAck
    | 7 => s.monFrame m State.monRelease
    | 8 => s.clientFrame 8 m
    | _ => s.rxDrop p

/-- The dispatch of R480; 802.1AS frames, and IPv6 and TCP on a T1S port, go to functions with commands of their own. -/
def State.dispatchFrame (p : Nat) (f : EthIn) (s : State) : State :=
  let b := bytesNat f.payload
  let udp := f.udp.toNat
  if f.ether = 0x88F7 then s
  else if f.toUs ∧ (f.ether = 0x0806 ∨ f.echo) then (s.netPut p { cls := 0, size := f.size.toNat, udp := 0, partner := 0, payload := [] }).1
  else if f.toUs ∧ f.ether = 0x0800 ∧ udp = s.eslPort p then
    match s.udpEntry p f.source.toNat (pay b 0 2) with
    | some e => s.eslCheck e b
    | none => s
  else if f.toUs ∧ f.ether = 0x0800 ∧ udp = s.cN Obj.roaUdpPort ∧ s.roaOn (8 + p) then s.roaPdu (8 + p) b
  else if f.toUs ∧ f.ether = 0x0800 ∧ udp = s.cN Obj.monUdpPort ∧ s.station then s.monDatagram p b
  else if 2 ≤ p ∧ f.toUs ∧ f.ether = 0x86DD then s
  else s.rxDrop p

/-- A frame at a port: discarded where it is too long, tagged with another VLAN or beyond the sustained rates, else dispatched. -/
def State.ethReceived (p : Nat) (f : EthIn) (s : State) : State :=
  if ¬ s.portUp p then s
  else if s.frameMax p < f.size.toNat then s.rxDrop p
  else if f.vlan.any (fun v => v.toNat != 0 && v.toNat != s.portVlan p) then s.rxDrop p
  else if f.overRate then s.rxFlood p
  else s.dispatchFrame p f

/-- ETH_FRAME_RECEIVED. -/
def execEthFrameReceived (port : Fin 4) (frame : EthIn) (s : State) : Host.Outcome State Fault Refusal := .next (s.ethReceived port.val frame)

end Sys2Proof.Machine
end

