-- ==== Sys2Proof/Machine/Occurrence.lean ====
section
/-! DEFINITION. The occurrences of event lists as they take effect: starts, samples, loads, test pulses and stamps, at once or
after their Delay (R98 to R106). -/

namespace Sys2Proof.Machine

/-! ## Actions -/

/-- A law start (R193) with what the functions of the chapters put in front of their laws. -/
def State.startLaw (n arg angle : Nat) (s : State) : State :=
  let s := if s.oN (Obj.slotState n) = 1 then
      ((((((s.limitStages n).wcWords n).lvTrims n).gaWords n).tdVehicle n).tdPost n).stWords n
    else s
  s.lawStart n arg angle

/-- The channel that a TEST_PULSE names: 0-23 HBn, 32-47 LV0-LV15 (R99). -/
def pulseChannel (target : Nat) : Option Nat :=
  if target < 24 then some target else if 32 ≤ target ∧ target < 48 then some (target - 8) else none

/-- A channel may emit a test pulse: at pulse-off, its group at rest and permitting test pulses in this mode, and the conduction that the
dead-time gap leaves no shorter than its minimum (R51, R100). -/
def State.pulseAllowed (s : State) (c width : Nat) : Bool :=
  match s.groupOf c with
  | none => false
  | some g => s.drive c == .pulseOff && s.oN (Obj.groupState g) == 0 && s.cN (Obj.groupTestPulseEnable g) == 1 &&
      s.modePermits g && decide (s.cN (minOnKey c) + s.deadTime c ≤ width) && (24 ≤ c || decide (s.oN (Obj.hbProtState c) ≤ 1))

/-- A test pulse of `width` fe from `lead` fe into the tick: the gap of a dead time, the conduction, and pulse-off again (R100); dropped
and counted where it may not be emitted. -/
def State.pulseOut (t target arg lead : Nat) (s : State) : State :=
  match pulseChannel target with
  | none => s
  | some c =>
    let width := arg % 1048576
    if s.pulseAllowed c width then
      let f := s.feNow - 64 + lead
      let s := (s.setDrive c .switching).callMode 0 c f (if arg.testBit 31 then 2 else 1) 0 true
      let now := s.feNow
      s.chMod c (fun x => { x.settle now with sched := [(f + width, 0)], testPulse := some ((f + width + 63) / 64) })
    else s.incSat (Obj.testPulseRefusedCount t)

/-- A stamp into the timebase's ring of 16 (R106). -/
def State.stampOut (t angle tag : Nat) (s : State) : State :=
  let n := s.oN (Obj.stampCount t)
  let b := natBytes 8 s.now ++ natBytes 4 angle ++ natBytes 4 (s.oN (Obj.tbRevolutions t)) ++ natBytes 8 (toUnsigned 64 (s.o (Obj.tbSpeed t))) ++
    natBytes 4 tag ++ natBytes 4 (s.oN (Obj.tbLockState t))
  ({ s with mem := setBytes s.mem (domAddr (Obj.stampRing t) (32 * (n % 16))) (b.map (BitVec.ofNat 8)) }).inc32 (Obj.stampCount t)

/-- A shadow load of a PWM group (R118, R119). -/
def State.loadTarget (g : Nat) (s : State) : State := if g < 12 ∨ (16 ≤ g ∧ g < 24) then s.loadGroup g else s

/-- An occurrence takes effect. -/
def State.act (t : Nat) (o : Occ) (i : SampleIn) (s : State) : State :=
  match o.action with
  | 1 => if o.target < 64 then s.startLaw o.target o.arg o.angle else s
  | 2 =>
    let s := s.sampleClass o.target o.arg (fun n => (i.raw.toList.getD n 0).toNat) (fun n => (i.extra.toList.getD n 0).toNat) i.len.toNat
    if o.target = 0 then s.reconstruct else s
  | 3 => s.loadTarget o.target
  | 4 => s.pulseOut t o.target o.arg o.lead
  | 5 => s.stampOut t o.angle o.arg
  | _ => s

/-! ## Dispatch and delay (R104) -/

/-- An occurrence is moved or dropped. -/
def State.occLate (t : Nat) (s : State) : State := (s.incSat (Obj.eventLateCount t)).raise FC.tbEvlate t

/-- An occurrence is dispatched: it takes effect, or waits for its Delay among at most 32; the stream captures its record
(R104, R490). -/
def State.dispatch (t : Nat) (o : Occ) (delay : Nat) (i : SampleIn) (s : State) : State :=
  if ¬ s.up ∨ s.oN (Obj.tbLockState t) = 0 then s
  else if delay = 0 then ((s.inc32 (Obj.eventDispatchCount t)).act t o i).streamCapture t o.entry
  else if 32 ≤ (s.tbx t).delayed.length then s.occLate t
  else
    let w : Occ := { o with due := s.tick + delay, off := s.tick * 4294967296 }
    ((s.inc32 (Obj.eventDispatchCount t)).tbMod t (fun x => { x with delayed := x.delayed ++ [w] })).streamCapture t o.entry

/-- LAW_START. -/
def execLawStart (tb : Fin 8) (entry target : Byte) (arg : BitVec 32) (delay : BitVec 16) (angle : BitVec 32) (s : State) : Host.Outcome State Fault Refusal :=
  .next (s.dispatch tb.val { action := 1, target := target.toNat, arg := arg.toNat, entry := entry.toNat, angle := angle.toNat, off := 0, due := 0 } delay.toNat {})

/-- SAMPLE. -/
def execSample (tb : Fin 8) (entry target : Byte) (arg : BitVec 32) (delay : BitVec 16) (inp : SampleIn) (s : State) : Host.Outcome State Fault Refusal :=
  .next (s.dispatch tb.val { action := 2, target := target.toNat, arg := arg.toNat, entry := entry.toNat, angle := 0, off := 0, due := 0 } delay.toNat inp)

/-- SHADOW_LOAD. -/
def execShadowLoad (tb : Fin 8) (entry target : Byte) (delay : BitVec 16) (s : State) : Host.Outcome State Fault Refusal :=
  .next (s.dispatch tb.val { action := 3, target := target.toNat, arg := 0, entry := entry.toNat, angle := 0, off := 0, due := 0 } delay.toNat {})

/-- TEST_PULSE. -/
def execTestPulse (tb : Fin 8) (entry target : Byte) (arg : BitVec 32) (delay : BitVec 16) (lead : BitVec 6) (s : State) : Host.Outcome State Fault Refusal :=
  .next (s.dispatch tb.val { action := 4, target := target.toNat, arg := arg.toNat, entry := entry.toNat, angle := 0, off := 0, due := 0, lead := lead.toNat } delay.toNat {})

/-- STAMP. -/
def execStamp (tb : Fin 8) (entry : Byte) (angle arg : BitVec 32) (delay : BitVec 16) (s : State) : Host.Outcome State Fault Refusal :=
  .next (s.dispatch tb.val { action := 5, target := 0, arg := arg.toNat, entry := entry.toNat, angle := angle.toNat, off := 0, due := 0 } delay.toNat {})

/-- Two occurrences that take effect in one tick as one: stamps never merge (R103). -/
def Occ.merges (a b : Occ) : Bool := a.action == b.action && a.target == b.target && a.action != 5

/-- Merge occurrences of one tick in the order of R103; a SAMPLE takes the union of the instances. The count is of those merged
into earlier ones. -/
def mergeOccs : List Occ → List Occ → Nat → List Occ × Nat
  | [], acc, n => (acc, n)
  | o :: os, acc, n =>
    if acc.any (fun a => a.merges o) then
      mergeOccs os (acc.map (fun (a : Occ) => if a.merges o ∧ a.action = 2 then { a with arg := a.arg ||| o.arg } else a)) (n + 1)
    else mergeOccs os (acc ++ [o]) n

/-- The delayed occurrences that fall due first take effect in the order of R103 (R104). -/
def State.delayedDue (t : Nat) (i : SampleIn) (s : State) : State :=
  match ((s.tbx t).delayed.map Occ.due).min? with
  | none => s
  | some d =>
    let due := ((s.tbx t).delayed.filter (fun o => o.due == d)).insertionSort (fun a b => actionRank a.action ≤ actionRank b.action)
    let m := mergeOccs due [] 0
    let s := (s.tbMod t (fun x => { x with delayed := x.delayed.filter (fun o => o.due != d) })).addSat (Obj.eventMergeCount t) m.2
    if s.up then m.1.foldl (fun u o => u.act t o i) s else s

/-- DELAYED_OCCURRENCE_DUE. -/
def execDelayedOccurrenceDue (tb : Fin 8) (inp : SampleIn) (s : State) : Host.Outcome State Fault Refusal := .next (s.delayedDue tb.val inp)

end Sys2Proof.Machine
end

