-- ==== Sys2Proof/Machine/Protection.lean ====
section
/-! DEFINITION. The protection events of HB channels as their detectors declare them (R136 to R140, R147, R167), and what a
brake chopper's event brings besides (R286, R373). -/

namespace Sys2Proof.Machine

/-- A protection event with the chopper's reaction. -/
def State.eventWith (n cause : Nat) (s : State) : State := ((s.protEvent n cause).chopperEvent n).stChopperEvent n

/-- An event of a conducting switch: its on-interval may have ended while the decision was on its way (R137, R139). -/
def State.switchEvent (n cause : Nat) (s : State) : State := s.eventWith n cause

/-- The chopper's reaction to a supply event that was a protection event of a channel. -/
def State.afterSupply (old : State) (n : Nat) (s : State) : State :=
  if s.o (Obj.hbTripCount n) = old.o (Obj.hbTripCount n) then s else (s.chopperEvent n).stChopperEvent n

/-- R137: two samples above HbDesatThreshold declare desaturation of the conducting switch. -/
def State.desaturation (n : Nat) (upper : Bool) (v : Nat) (s : State) : State :=
  if s.up ∧ s.conductedLately n upper ∧ s.cF (Obj.hbDesatThreshold n) < F32.toRat v then (s.showOn n v).switchEvent n (if upper then 1 else 2) else s

/-- DESATURATION. -/
def execDesaturation (hb : Fin 24) (upper : Bool) (volts : BitVec 32) (s : State) : Host.Outcome State Fault Refusal :=
  .next (s.desaturation hb.val upper volts.toNat)

/-- R139: V_on above half the link, while that is at least 20 V, declares a hard short. -/
def State.hardShort (n : Nat) (upper : Bool) (v : Nat) (s : State) : State :=
  let vdc := s.oF (Obj.vdcValue (s.cN (Obj.hbLinkInput n)))
  if s.up ∧ s.conductedLately n upper ∧ 20 ≤ vdc ∧ vdc / 2 < F32.toRat v then s.switchEvent n (if upper then 3 else 4) else s

/-- HARD_SHORT. -/
def execHardShort (hb : Fin 24) (upper : Bool) (volts : BitVec 32) (s : State) : Host.Outcome State Fault Refusal :=
  .next (s.hardShort hb.val upper volts.toNat)

/-- R167, R140: a fast overcurrent begins; it is a protection event of every channel that names the input. -/
def State.fastOver (n a : Nat) (s : State) : State :=
  let i := F32.toRat a
  if s.sensing ∧ s.oN (Obj.sdState n) = 1 ∧ s.sdTripped.getD n false = false ∧ (s.cF (Obj.sdOcHigh n) < i ∨ i < s.cF (Obj.sdOcLow n)) then
    let s := { s with sdTripped := s.sdTripped.set n true }
    let s := s.incSat (Obj.sdOcTripCount n)
    s.forAll ((List.range 24).filter (fun h => s.cN (Obj.hbCurrentInput h) == n && s.live_ h)) (fun h => State.eventWith h 5)
  else s

/-- FAST_OVERCURRENT. -/
def execFastOvercurrent (sd : Fin 32) (amps : BitVec 32) (s : State) : Host.Outcome State Fault Refusal := .next (s.fastOver sd.val amps.toNat)

/-- GS_UNDERVOLTAGE. -/
def execGsUndervoltage (gs : Fin 48) (volts : BitVec 32) (s : State) : Host.Outcome State Fault Refusal :=
  .next (State.afterSupply s (gs.val / 2) (s.gsUnder gs.val volts.toNat))

/-- GS_OVERVOLTAGE. -/
def execGsOvervoltage (gs : Fin 48) (volts : BitVec 32) (s : State) : Host.Outcome State Fault Refusal :=
  .next (State.afterSupply s (gs.val / 2) (s.gsOver gs.val volts.toNat))

end Sys2Proof.Machine
end

