-- ==== Sys2Proof/Machine/SenseTick.lean ====
section
/-! DEFINITION. What a tick of the device's own clock brings to the sensing inputs and the detectors: conversions of what stands at the
balls (`Config.inputWord`), the detectors of R136 to R140, and the gate supplies (R143 to R148, R164 to R180). Conversions of a tick
begin at its start. Latencies that the spec bounds from above are taken as none (log 76). -/

namespace Sys2Proof.Machine

/-- What an analogue input reads in this tick, V at the ball; the classes are those of SAMPLE, and 800 is GSs_SNS. -/
def State.ball (s : State) (cls n : Nat) : Rat := F32.toRat (Config.inputWord cls n s.tick).toNat

/-- The fine edge at which this tick's conversions begin. -/
def State.convFe (s : State) : Nat := 64 * (s.tick - 1)

/-- The first code from the top of a converter of some bits over 1.50 V, and the last from the bottom: a reading at full-scale code or at a
rail (R175, R180, R183). -/
def atTop (bits : Nat) (v : Rat) : Bool := decide (mkRat 3 2 * (2 ^ bits - 1 : Nat) ≤ v * (2 ^ bits : Nat))
def atRail (bits : Nat) (v : Rat) : Bool := atTop bits v || decide (v * (2 ^ bits : Nat) < mkRat 3 2)

/-- The next conversion of an input goes to a SAMPLE. -/
def State.marked (s : State) (cls n : Nat) : Bool := (s.snx.trig.getD cls 0).testBit n
def State.unmark (cls n : Nat) (s : State) : State := s.snxMod (fun x => { x with trig := modifyAt x.trig cls (fun m => clearBit m n) })

/-! ## Switch voltages and their detectors (R136 to R139, R169, R170) -/

/-- When ENA had risen for the on-interval in course at a fine edge. -/
def ChanX.riseAt (f : Nat) (x : ChanX) : Nat := if x.enaFe ≤ f then x.enaFe else x.onFe

/-- A detector sample of a conducting switch: ignored while a conversion of it falls into blanking; two in a row above HbDesatThreshold
declare desaturation (R136, R137, R161). -/
def State.detect (n : Nat) (m : Rat) (s : State) : State :=
  let x := s.chx n
  let rise := x.riseAt s.convFe
  let blank := 64 * ((s.cN (Obj.hbBlankTime n) * 80 + 999) / 1000)
  if ¬ x.ena ∨ ¬ s.live_ n ∨ s.convFe < rise + blank + 64 then s
  else
    let v := onVolts x.pul m (s.oF (Obj.vdcValue (s.cN (Obj.hbLinkInput n))))
    let w := F32.ofRat (clampTo 2000 v)
    let run := if s.cF (Obj.hbDesatThreshold n) < v then (if x.aboveFe = rise then min (x.above + 1) 3 else 1) else 0
    let s := (s.showOn n w).chMod n (fun x => { x with above := run, aboveFe := rise })
    if run = 2 then s.desaturation n x.pul w else s

/-- A detector sample: the mean of two conversions (R169). -/
def State.detectorSample (n : Nat) (m : Rat) (s : State) : State :=
  let w := F32.ofRat m
  let s := (s.put (Obj.vswValue n) w).vswMod n (fun x => { x with highest := if F32.toRat x.highest < m then w else x.highest })
  let s := if s.marked 1 n then ((s.put (Obj.vswTriggeredValue n) w).portPut (0x20 + n) w).unmark 1 n else s
  s.detect n m

/-- A conversion of an enabled VSW input, every tick. -/
def State.vswTick (n : Nat) (s : State) : State :=
  if s.cN (Obj.vswEnable n) = 0 then s
  else
    let b := s.ball 1 n
    let w := F32.ofRat (s.vswVolts n b)
    let mean := (F32.toRat (s.vswx n).last + F32.toRat w) / 2
    let s := if atTop 12 b then s.incSat (Obj.vswRangeCount n) else s
    let s := s.vswMod n (fun x => { x with last := w, sum := x.sum + mean, len := x.len + 1 })
    if s.tick % 2 = 0 then s.detectorSample n mean else s

/-- The volt-seconds of the window in course, V·µs. -/
def State.voltSeconds (s : State) (n : Nat) : Nat := F32.ofRat ((s.vswx n).sum / 80)

/-- The hard-short comparator, on the ball voltages: live from 60 ns after ENA rises (R139). It declares where its output rises. -/
def State.hardTick (n : Nat) (s : State) : State :=
  let x := s.chx n
  let l := s.cN (Obj.hbLinkInput n)
  let vdc := s.ball 2 l * s.cF (Obj.vdcDividerRatio l)
  let v := onVolts x.pul (s.ball 1 n * s.cF (Obj.vswDividerRatio n)) vdc
  let out := x.ena && s.live_ n && decide (x.riseAt s.convFe + 308 ≤ s.convFe) && decide (20 ≤ vdc) && decide (vdc / 2 < v)
  let s := s.chMod n (fun x => { x with hard := out })
  if out ∧ ¬ x.hard then s.switchEvent n (if x.pul then 3 else 4) else s

/-! ## Links and analogue inputs (R174 to R178) -/

/-- A conversion of an enabled VDC input, every 8 ticks; the mean of each millisecond (R174, R175). -/
def State.vdcTick (n : Nat) (s : State) : State :=
  if s.cN (Obj.vdcEnable n) = 0 then s
  else
    let b := s.ball 2 n
    let w := F32.ofRat (s.vdcVolts n b)
    let s := (s.vdcTake n w).vdcMod n (fun x =>
      { x with sum := x.sum + F32.toRat w, count := x.count + 1, full := if atTop 16 b then min (x.full + 1) 11 else 0 })
    let s := if s.marked 2 n then (s.vdcTriggered n w).unmark 2 n else s
    let s := if s.tick % 80000 = 0 then
        (s.putF (Obj.vdcMean n) ((s.vdcx n).sum / ((s.vdcx n).count : Rat))).vdcMod n (fun x => { x with sum := 0, count := 0 })
      else s
    let s := (if (s.vdcx n).recent.length = 10 then s.linkJudge n else s).stLinkJudge n
    if (s.vdcx n).full = 10 then s.vdcFull n else s

/-- The input that a converter of half `h` serves next: a marked one in ascending order, or the next enabled one in turn (R177). -/
def State.ainNext (s : State) (h : Nat) : Option Nat :=
  let ns := ((List.range 8).map (· + 8 * h)).filter (fun n => s.cN (Obj.ainMode n) != 0)
  match ns.find? (fun n => s.marked 3 n) with
  | some n => some n
  | none =>
    match ns.find? (fun n => decide (s.snx.ain.getD h 0 < n)) with
    | some n => some n
    | none => ns.head?

/-- A conversion slot of a half's converter, every 80 ticks; 16 conversions in a row decide AinState (R177, R178). A conversion for a SAMPLE
does not move the round-robin (DESIGN CHOICE, log 76). -/
def State.ainTick (h : Nat) (s : State) : State :=
  match s.ainNext h with
  | none => s
  | some n =>
    let trig := s.marked 3 n
    let s := s.ainTake n (s.ball 3 n)
    let ok := s.ainValid n
    let s := s.snxMod (fun x =>
      { x with
        ain := if trig then x.ain else x.ain.set h n
        ainOut := modifyAt x.ainOut n (fun r => if ok then 0 else min (r + 1) 17)
        ainIn := modifyAt x.ainIn n (fun r => if ok then min (r + 1) 17 else 0) })
    let s := if trig then (s.portPut (0x90 + n) (s.oN (Obj.ainValue n))).unmark 3 n else s
    if s.snx.ainOut.getD n 0 = 16 then s.ainRangeOut n else if s.snx.ainIn.getD n 0 = 16 then s.ainRangeIn n else s

/-! ## LV sense and output inputs (R180) -/

/-- Conversions in a row at a rail; the 32nd reports it, and LvSenseState shows it until a reading leaves the rail (DEDUCED, log 76). -/
def State.railTick (input bits : Nat) (v : Rat) (s : State) : State :=
  let at_ := atRail bits v
  let s := s.snxMod (fun x => { x with rail := modifyAt x.rail input (fun r => if at_ then min (r + 1) 33 else 0) })
  if s.snx.rail.getD input 0 = 32 then s.lvAtRail input
  else if ¬ at_ ∧ input < 32 then s.put (Obj.lvSenseState (input % 16)) (clearBit (s.oN (Obj.lvSenseState (input % 16))) (input / 16) : Nat)
  else s

def State.isnTick (n : Nat) (s : State) : State := ((s.isnSample n (s.ball 4 n)).lvIsnTake n).railTick n 12 (s.ball 4 n)
def State.bstTick (n : Nat) (s : State) : State :=
  if s.marked 5 n then ((s.bstSample n (s.ball 5 n)).railTick (16 + n) 10 (s.ball 5 n)).unmark 5 n else s
def State.voutTick (k : Nat) (s : State) : State :=
  let s := (s.voutTake k (s.ball 6 k)).railTick (32 + k) 16 (s.ball 6 k)
  if s.marked 6 k then (s.put (Obj.voutTriggeredValue k) (s.o (Obj.voutValue k))).unmark 6 k else s

/-! ## Sigma-delta inputs (R164 to R167, R183) -/

/-- Weights of the taps of a sinc3 filter at OSR 16, which sum to 4,096, and of a sinc2 filter at OSR 8, which sum to 64. -/
def tri (k : Nat) : Nat := k * (k + 1) / 2
def sinc3 (i : Nat) : Nat := tri (i + 1) + 3 * tri (i + 1 - 32) - 3 * tri (i + 1 - 16)
def sinc2 (i : Nat) : Nat := min (i + 1) (15 - i)

/-- Modulation values x = 2d − 1 (R165): the main filter over the window of 48 clocks, with its 46 taps in the middle (DESIGN CHOICE,
log 76), and the fast filter over the last 15 clocks, whose group delay is 7. -/
def sdMain (bits : Nat) : Rat := mkRat (2 * (((List.range 46).map (fun i => if bits.testBit (i + 1) then sinc3 i else 0)).sum : Nat)) 4096 - 1
def sdFast (bits : Nat) : Rat := mkRat (2 * (((List.range 15).map (fun i => if bits.testBit i then sinc2 i else 0)).sum : Nat)) 64 - 1

/-- The bit of an SD input that a rising edge of its clock at the start of this tick captures, SdCaptureDelay later: the ball's levels stand
at two fine edges each in a tick's word (R164). -/
def State.sdBit (s : State) (n : Nat) : Bool :=
  let d := s.cN (Obj.sdCaptureDelay n)
  (Config.inputWord 700 n (s.tick + d / 64)).toNat.testBit (d % 64 / 2)

/-- A decimated main-filter value, every 16 clocks: SdValue, the range test, the service limit, and the test for a lost battery (R155, R166, R183, R307). -/
def State.sdDecimated (n : Nat) (x : Rat) (s : State) : State :=
  let s := ((s.put (Obj.sdValue n) (F32.ofRat (s.sdAmps n x))).sdRange n x).lossOutput n
  s.forAll ((List.range 24).filter (fun h => s.cN (Obj.hbCurrentInput h) == n)) (fun h t => t.serviceLimit h (t.oN (Obj.sdValue n)))

/-- The fast filter's value: a fast overcurrent begins, or the current has returned (R167). -/
def State.sdFastStep (n : Nat) (x : Rat) (s : State) : State :=
  let i := s.sdAmpsIn n 60 x
  if s.sdTripped.getD n false then (if s.sdInside n i then { s with sdTripped := s.sdTripped.set n false } else s)
  else s.fastOver n (F32.ofRat i)

/-- A modulator clock of an enabled SD input. Before a filter's window is full nothing comes of it (DEDUCED, log 76). -/
def State.sdTick (n : Nat) (s : State) : State :=
  if s.cN (Obj.sdEnable n) = 0 ∨ s.oN (Obj.sdState n) = 3 then s
  else
    let b := s.sdBit n
    let s := s.sdMod n (fun x =>
      { x with
        bits := (2 * x.bits + (if b then 1 else 0)) % 2 ^ 48, clocks := x.clocks + 1
        still := if x.bits.testBit 0 == b && x.clocks != 0 then x.still + 1 else 0 })
    let x := s.sdx n
    let s := if s.cN (Obj.sdStuckLimit n) ≤ x.still then s.sdStuck n else s
    if s.oN (Obj.sdState n) ≠ 1 then s
    else
      let s := if 15 ≤ x.clocks then s.sdFastStep n (sdFast x.bits) else s
      if 48 ≤ x.clocks ∧ x.clocks % 16 = 0 then s.sdDecimated n (sdMain x.bits) else s

/-- A window whose centre lies 96 ticks back delivers its value to the engine input port (R166); a stuck input its frozen one. -/
def State.sdDeliver (n : Nat) (s : State) : State :=
  if (s.sdx n).centres.contains (s.tick - 96) then
    let s := s.sdMod n (fun x => { x with centres := x.centres.filter (fun c => decide (s.tick - 96 < c)) })
    if (s.sdx n).clocks < 48 ∧ s.oN (Obj.sdState n) = 1 then s else s.sdSample n (sdMain (s.sdx n).bits)
  else s

/-- The readback of a driven SDCLK output at its edges: it rises at the start of every fourth tick and falls two ticks later (R164, R183). -/
def State.clkTick (k : Nat) (s : State) : State :=
  if s.clkUsers k = [] then s
  else
    let ok := (Config.inputWord 701 k s.tick).toNat.testBit 0 == (s.tick % 4 == 0)
    let s := s.snxMod (fun x => { x with clk := modifyAt x.clk k (fun r => if ok then 0 else min (r + 1) 5) })
    if s.snx.clk.getD k 0 = 4 then s.clkFault k else s

/-- Every SD input at a rising edge; a delivered current is what R280 reconstructs from. -/
def State.sdAll (s : State) : State :=
  let due := (List.range 32).any (fun n => (s.sdx n).centres.contains (s.tick - 96))
  let s := (s.forAll (List.range 32) State.sdTick).forAll (List.range 32) State.sdDeliver
  if due then s.reconstruct else s

/-! ## A SAMPLE occurrence (R99, R166 to R180) -/

/-- The centre of the window that a SAMPLE of this tick asks for: the first rising edge at or after the end of the tick (R166). -/
def State.sampleCentre (s : State) : Nat := (s.tick + 4) / 4 * 4

/-- A SAMPLE occurrence marks the enabled inputs that it names; in mode 1 it closes a volt-second window (R170, R186). -/
def State.sampleMark (cls mask : Nat) (s : State) : State :=
  if ¬ s.sensing then s
  else
    match cls with
    | 0 => s.forAll ((List.range 32).filter (fun n => mask.testBit n && s.cN (Obj.sdEnable n) == 1)) (fun n t =>
        let c := t.sampleCentre
        t.sdMod n (fun x => { x with centres := if x.centres.contains c then x.centres else x.centres ++ [c] }))
    | 1 =>
      s.forAll ((List.range 24).filter (fun n => mask.testBit n && s.cN (Obj.vswEnable n) == 1)) (fun n t =>
        let t := t.snxMod (fun x => { x with trig := modifyAt x.trig 1 (fun m => setBit m n) })
        if t.cN (Obj.vswWindowMode n) = 1 then t.windowClose n (t.voltSeconds n) (t.vswx n).len else t)
    | _ => s.snxMod (fun x => { x with trig := modifyAt x.trig cls (fun m => m ||| mask) })

/-! ## Gate supplies (R143 to R148) -/

/-- One tick of a supply that the main domain regulates, with the chopper's reaction to what it brings. -/
def State.supplyTick (k : Nat) (s : State) : State := State.afterSupply s (k / 2) (s.gsTick k)

/-- A keeper's reading, one island clock after each fall of GSs_DRV at 4 MHz / GsKeeperDivider; a fall below GsUvloThreshold is recorded
(R148). -/
def State.keeperTick (k : Nat) (s : State) : State :=
  if s.gsDrive.getD k .low ≠ .keeper ∨ s.tick % (20 * s.cN (Obj.gsKeeperDivider k)) ≠ 0 then s
  else
    let v := F32.ofRat (max 0 (s.ball 800 k * s.cF (Obj.gsSenseRatio k)))
    let s := if s.up then s.put (Obj.gsVoltage k) v else s
    if F32.toRat v < s.cF (Obj.gsUvloThreshold k) then
      let s := if (s.supx k).low = 0 then s.keeperUv k else s
      s.supMod k (fun x => { x with low := 1 })
    else s.supMod k (fun x => { x with low := 0 })

/-! ## One tick -/

/-- The converters and detectors in a tick. -/
def State.senseTick (s : State) : State :=
  let s := if s.up then s.forAll (List.range 48) State.supplyTick else s
  let s := s.forAll (List.range 48) State.keeperTick
  if ¬ s.sensing then s
  else
    let s := if s.tick % 8 = 0 then s.forAll (List.range 4) State.vdcTick else s
    let s := (s.forAll (List.range 24) State.vswTick).forAll (List.range 24) State.hardTick
    let s := if s.tick % 2 = 0 then s.forAll (List.range 4) State.clkTick else s
    let s := if s.tick % 4 = 0 then s.sdAll.forAll (List.range 16) State.isnTick else s
    let s := s.forAll (List.range 16) State.bstTick
    let s := if s.tick % 16 = 0 then s.forAll (List.range 4) State.voutTick else s
    if s.tick % 80 = 0 then s.forAll [0, 1] State.ainTick else s

end Sys2Proof.Machine
end

