-- ==== Sys2Proof/Machine/Takeup.lean ====
section
/-! DEFINITION. The host takes the dictionary-target slots of one frame into their objects (R449, R28). -/

namespace Sys2Proof.Machine

/-- One slot's value goes into its object as an Operator write would. -/
def State.slotTake (q : Nat) (s : State) : State :=
  let d := s.slotDesc q
  let k := sdTarget d
  (s.write .slot (k / 256) (k % 256) (typeSize (sdType d)) (dataValue (k / 256) (k % 256) (s.imageAt q))).1

/-- All dictionary-target slots of an entry, as one unit. -/
def State.hostTakeup (e : Nat) (s : State) : State :=
  if ¬ s.up ∨ ¬ s.takeup.contains e then s
  else
    let s := s.forAll ((s.entrySlots e false).filter (fun q => !sdToMailbox (s.slotDesc q))) State.slotTake
    { s with takeup := s.takeup.filter (· != e) }

/-- SLOT_HOST_TAKEUP. -/
def execSlotHostTakeup (entry : BitVec 13) (s : State) : Host.Outcome State Fault Refusal := .next (s.hostTakeup entry.toNat)

end Sys2Proof.Machine
end

