-- ==== Sys2Proof/Machine/Clockwork.lean ====
section
/-! DEFINITION. One tick of the device's own 80 MHz clock: device time, sensing and detectors, the timebases and the occurrences they
cross, carriers and the edges they pass, the lines of the network ports, and what the device shows again as time passes (R84, R87 to
R106, R113 to R121, R136 to R180, R481, R488 to R490). Time limits that the table gives a row of their own stay commands. -/

namespace Sys2Proof.Machine

/-! ## Occurrences of one tick (R100 to R104) -/

/-- What a metering sample takes from the balls in this tick, and what a period start finds. -/
def State.ballSample (s : State) (cls : Nat) : SampleIn :=
  { raw := Vector.ofFn (fun n => Config.inputWord cls n.val s.tick), extra := Vector.ofFn (fun n => Config.inputWord (256 + cls) n.val s.tick), len := 0 }
def State.ballPeriod (s : State) : PeriodIn :=
  { bst := Vector.ofFn (fun n => Config.inputWord 5 n.val s.tick), voltSeconds := Vector.ofFn (fun n => BitVec.ofNat 32 (s.voltSeconds n.val)),
    highest := Vector.ofFn (fun n => BitVec.ofNat 32 (s.vswx n.val).highest) }

/-- An occurrence with its timebase comes before another: by action, timebase, crossing and entry (R103). -/
def occBefore (a b : Nat × Occ) : Bool :=
  let ka := (actionRank a.2.action, a.1, a.2.off, a.2.entry)
  let kb := (actionRank b.2.action, b.1, b.2.off, b.2.entry)
  decide (ka.1 < kb.1) || (ka.1 == kb.1 && (decide (ka.2.1 < kb.2.1) || (ka.2.1 == kb.2.1 &&
    (decide (ka.2.2.1 < kb.2.2.1) || (ka.2.2.1 == kb.2.2.1 && decide (ka.2.2.2 ≤ kb.2.2.2))))))

/-- One timebase in a tick: the angle advances, and of what it crosses and what was moved before, four are dispatched and the rest
move on (R104). -/
def State.tbDispatch (t : Nat) (s : State) : State × List (Nat × Occ) :=
  let r := s.tbTick t
  let all := (((r.1.tbx t).moved ++ r.2).map (fun o => (t, o))).insertionSort (fun a b => occBefore a b = true)
  let rest := (all.drop 4).map Prod.snd
  let u := r.1.tbMod t (fun x => { x with moved := rest })
  (rest.foldl (fun v _ => v.occLate t) u, all.take 4)

/-- Every timebase. -/
def State.tbAll (s : State) : State × List (Nat × Occ) :=
  (List.range 8).foldl (fun (acc : State × List (Nat × Occ)) t => let r := acc.1.tbDispatch t; (r.1, acc.2 ++ r.2)) (s, [])

/-- An occurrence is dispatched: counted, captured by the stream, and kept where it has a Delay; the answer holds what takes
effect in this tick. Entries 254 and 255 are the device's own (R97, R102, R104, R490). -/
def State.tbCount (p : Nat × Occ) (s : State) : State × List (Nat × Occ) :=
  let t := p.1
  let o := p.2
  if o.due = 0 then ((s.inc32 (Obj.eventDispatchCount t)).streamCapture t o.entry, [p])
  else if 32 ≤ (s.tbx t).delayed.length then (s.occLate t, [])
  else
    let w : Occ := { o with due := s.tick + o.due }
    (((s.inc32 (Obj.eventDispatchCount t)).tbMod t (fun x => { x with delayed := x.delayed ++ [w] })).streamCapture t o.entry, [])

/-- The delayed occurrences whose tick has come, taken out of their timebases. -/
def State.takeDue (s : State) : State × List (Nat × Occ) :=
  (List.range 8).foldl (fun (acc : State × List (Nat × Occ)) t =>
    let due := ((acc.1.tbx t).delayed.filter (fun o => decide (o.due ≤ s.tick))).map (fun o => (t, o))
    if due.isEmpty then acc
    else (acc.1.tbMod t (fun x => { x with delayed := x.delayed.filter (fun o => decide (s.tick < o.due)) }), acc.2 ++ due)) (s, [])

/-- Merge what takes effect in one tick, in order, counting at the merged one's own timebase (R103). -/
def State.mergeAll : List (Nat × Occ) → List (Nat × Occ) → State → State × List (Nat × Occ)
  | [], acc, s => (s, acc)
  | p :: ps, acc, s =>
    if acc.any (fun a => a.2.merges p.2) then
      State.mergeAll ps (acc.map (fun (a : Nat × Occ) => if a.2.merges p.2 ∧ a.2.action = 2 then (a.1, { a.2 with arg := a.2.arg ||| p.2.arg }) else a))
        (s.incSat (Obj.eventMergeCount p.1))
    else State.mergeAll ps (acc ++ [p]) s

/-- One occurrence takes effect: a swap, a sample, a metering sample, or another action of R99. -/
def State.occEffect (p : Nat × Occ) (s : State) : State :=
  if p.2.action = 6 then s.swapAngle p.1
  else if p.2.action = 7 then
    let i := s.ballSample 600
    s.acSample (p.2.angle * 256 / 4294967296) (fun c => (i.raw.toList.getD c 0).toNat) (i.extra.toList.getD 0 0).toNat
  else if p.2.action = 2 then s.sampleMark p.2.target p.2.arg
  else s.act p.1 p.2 {}

/-- Every timebase advances, and the answer holds what takes effect in this tick, merged and in the order of R103. -/
def State.tbWork (s : State) : State × List (Nat × Occ) :=
  let r := s.tbAll
  let r := r.2.foldl (fun (acc : State × List (Nat × Occ)) p => let q := acc.1.tbCount p; (q.1, acc.2 ++ q.2)) (r.1, [])
  let d := r.1.takeDue
  State.mergeAll ((r.2 ++ d.2).insertionSort (fun a b => occBefore a b = true)) [] d.1

/-! ## Carriers (R114, R119, R120) -/

/-- Where a group stands in its period before the advance of this tick, and how far the advance carries it (R114). -/
def State.groupFrom (s : State) (g : Nat) : Nat := s.posAt g (s.tbx (s.cN (Obj.groupTimebase g))).start
def State.groupGone (s : State) (g : Nat) : Nat := (s.tbx (s.cN (Obj.groupTimebase g))).gone * s.cN (Obj.groupCarriersPerRev g)

/-- The advance of this tick passes a place of the period. -/
def State.passes (s : State) (g point : Nat) : Bool :=
  let u := wayFrom (s.groupBack g) (s.groupFrom g) 0
  decide (u < point ∧ point ≤ u + s.groupGone g)

/-- The group's angle has moved otherwise than by an advance, or has turned: its channels take the position as it is (R114, log 74). -/
def State.carrierAlign (g : Nat) (s : State) : State :=
  let p := s.groupFrom g
  let back := s.groupBack g
  let x := s.grpx g
  if x.pos = p ∧ x.back = back then s
  else
    let u := wayFrom back p 0
    let s := s.grpMod g (fun y => { y with pos := p, back := back })
    if x.pos ≠ p then s.resync g u (s.feNow - 63)
    else ((s.groupChans g).zipIdx).foldl (fun t q =>
      let m := behindBits (t.ahead g q.2 q.1) u
      t.chMod q.1 (fun y => { y with seen := m, skip := false })) s

/-- The edges between two places of the period; a group that a SHADOW_LOAD reaches in this tick emits none, for the load prevails
(R133). -/
def State.spanUnless (quiet : Bool) (g a b : Nat) (feOf : Nat → Nat) (s : State) : State := if quiet ∨ (s.grpx g).held then s else s.span g a b feOf

/-- A group's carrier in a tick: its edges, the load at its centre, its period start, and one that has been held back (R113 to R121). -/
def State.carrierTick (loads : List Nat) (g : Nat) (s : State) : State :=
  let m := s.cN (Obj.groupMode g)
  if m = 0 ∨ m = 5 ∨ s.oN (Obj.tbLockState (s.cN (Obj.groupTimebase g))) = 0 then s
  else
    let s := s.carrierAlign g
    let back := s.groupBack g
    let u := wayFrom back (s.groupFrom g) 0
    let d := s.groupGone g
    let e := u + d
    let quiet := loads.contains g
    let f0 := s.feNow - 64
    let feOf := fun q => f0 + nearestFe (q - u) d
    let half := 2147483648
    let s := if s.cN (Obj.groupAutoLoad g) = 2 ∧ s.switching g ∧ u < half ∧ half ≤ e then
        ((s.spanUnless quiet g u half feOf).loadAt g half (feOf half)).spanUnless quiet g half (min e (periodUnits - 1)) feOf
      else s.spanUnless quiet g u (min e (periodUnits - 1)) feOf
    let s := if periodUnits ≤ e then
        (s.periodStart g s.ballPeriod 0 (feOf periodUnits)).spanUnless quiet g 0 (min (e - periodUnits) (periodUnits - 1)) (fun q => feOf (q + periodUnits))
      else s
    let s := if (s.grpx g).held ∧ ¬ s.tooFast g then s.periodStart g s.ballPeriod (e % periodUnits) s.feNow else s
    let p := if back then (periodUnits - e % periodUnits) % periodUnits else e % periodUnits
    s.grpMod g (fun x => { x with pos := p, back := back })

/-- A swap whose boundary is a period start, a time or the next tick (R84). -/
def State.swapTick (s : State) : State :=
  if s.boundaryHere ∧ (s.sw.boundary ≠ 0 ∨ (s.leadGroup s.sw.timebase).any (fun g => s.passes g periodUnits)) then s.swapNow else s

/-! ## Test pulses, engines, network -/

/-- A test pulse whose end has come leaves its channel at pulse-off (R100). -/
def State.pulseEnd (c : Nat) (s : State) : State :=
  match (s.chx c).testPulse with
  | some t => if t ≤ s.tick then s.setDrive c .pulseOff else s
  | none => s

/-- Ten engine cycles: the counters, the words that the ECC corrected in them, of which the tick brings the number (R188), and the load of
the last millisecond. -/
def State.engTick (e : Nat) (s : State) : State :=
  let s := s.addSat (Obj.engEccCorrectedCount e) ((Config.inputWord 730 e s.tick).toNat % 11)
  let busy := (slotsOf e).any (fun n => s.oN (Obj.slotState n) == 3)
  let s := s.put (Obj.engCycleCount e) ((s.oN (Obj.engCycleCount e) + 10) % 18446744073709551616 : Nat)
  let s := if busy then s.engMod e (fun x => { x with busyTicks := x.busyTicks + 1 })
    else s.put (Obj.engIdleCycles e) ((s.oN (Obj.engIdleCycles e) + 10) % 18446744073709551616 : Nat)
  if s.tick % 80000 = 0 then (s.put (Obj.engLoad e) ((s.engx e).busyTicks * 100 / 80000 : Nat)).engMod e (fun x => { x with busyTicks := 0 }) else s

/-- The network in a tick: gates, lines, a datagram of the stream held for 1 ms, PPS_OUT (R481, R489, R490). -/
def State.netTick (old : State) (s : State) : State :=
  let s := s.forAll [0, 1] (fun p t => if t.serdesOn ∧ t.gateDue p then t.gateStart p else t)
  let s := (s.forAll [0, 1, 2, 3] State.txTick).forAll (List.range 8) State.antennaTick
  let s := if s.net.records ≠ [] ∧ s.net.firstTick + 80000 ≤ s.tick then s.streamSend else s
  let s := if s.cN Obj.devTimePpsOut = 1 ∧ old.now / 1000000000 < s.now / 1000000000 then
      let n := s.now
      s.netMod (fun x => { x with pps := some n })
    else s
  s.ppsFall

/-- A transfer of the LSPI host with command byte 0x02 that ends in this tick takes the response that has waited longest (R433): the word of
class 720 says whether one does. -/
def State.lspiTick (s : State) : State :=
  if s.roa.lspi ≠ [] ∧ (Config.inputWord 720 0 s.tick).toNat.testBit 0 then { s with roa := { s.roa with lspi := s.roa.lspi.drop 1 } } else s

/-- What is shown again every millisecond: retries in their windows, the LV reference, actuator positions, inlet values and lamps; and the limits of
a request for M3 are watched. -/
def State.shownTick (s : State) : State :=
  let s := s.m3Watch.wcGridTick.stGridTick.postPilot
  let s := s.forAll (List.range 24) (fun n t => t.put (Obj.hbRetriesInWindow n) (min (t.retriesNow n).length 15 : Nat))
  let s := if s.station then s else (s.forAll ((List.range 4).filter (fun a => s.cN (Obj.gaEnable a) == 1)) State.gaShow).lkFollow.lvFollow
  s.eslFollow.lampShow (s.mono / 1000000 % 1000)

/-- Tandem's laws while it is agreed: the vehicle's starts where TdTimebase passes angle 0, the post's where it passes TdPostLawAngle
(R356). -/
def State.tdLawTick (s : State) : State :=
  let x := s.tbx (s.cN Obj.tdTimebase)
  let angle := if s.station then s.cN Obj.tdPostLawAngle else 0
  let way := ((if x.back then (x.start : Int) - angle else (angle : Int) - x.start) % 4294967296).toNat
  if 1 ≤ s.oN Obj.tdState ∧ s.oN Obj.tdState ≤ 5 ∧ (if way = 0 then 4294967296 else way) ≤ x.gone then s.startLaw (s.cN Obj.tdLawSlot) 0 angle else s

/-- The angle timebases and all that hangs on them, in a tick: swaps, stamps, carriers, then the other occurrences in the order of R103. -/
def State.angleTick (s : State) : State :=
  let s := s.forAll allGroups (fun g t => t.requestTick g t.ballPeriod)
  let w := s.tbWork
  let first := fun (p : Nat × Occ) => p.2.action == 6 || p.2.action == 5
  let s := ((w.2.filter (fun p => p.2.action == 6)).foldl (fun u p => u.occEffect p) w.1).swapTick
  let s := (w.2.filter (fun p => p.2.action == 5)).foldl (fun u p => u.occEffect p) s
  let loads := (w.2.filter (fun p => p.2.action == 3)).map (fun p => p.2.target)
  let s := s.forAll allGroups (State.carrierTick loads)
  ((w.2.filter (fun p => !first p)).foldl (fun u p => u.occEffect p) s).tdLawTick

/-- One tick. With the main domain off, time goes on, and the island's keepers. -/
def State.clockTick (s : State) : State :=
  let s := s.settleSwap
  let old := s
  let s : State := { s.timeTick with tick := s.tick + 1 }
  let s := s.senseTick
  if ¬ s.up then s
  else
    let s := s.angleTick
    let s := (s.forAll (List.range 40) State.pinTick).forAll (List.range 40) State.pulseEnd
    let s := s.fabricTick
    let s := if s.engOn then s.forAll (List.range 8) State.engTick else s
    let s := (State.netTick old s).lspiTick
    let s := s.forAll s.takeup State.hostTakeup
    let s := s.tdWatch.postAlarm.postTidy.mtrFollow
    if s.tick % 80000 = 0 then s.shownTick else s

end Sys2Proof.Machine
end

