-- ==== Sys2Proof/Machine/CanRows.lean ====
section
/-! DEFINITION. Frames received and sent by the CAN controllers, and the end of a bus-off recovery (R452, R458 to R469). -/

namespace Sys2Proof.Machine

/-! ## Receiving (R458 to R463, R467) -/

/-- A stamp taken `age` ticks ago (R463). -/
def State.stampAt (s : State) (age : Nat) : Nat := (s.tick - age) % 4294967296

/-- A filter matches a frame by kind, identifier format and identifier (R458). -/
def filterMatches (w : Nat) (h : List Nat) : Bool :=
  let fmt := w / 2 ^ 91 % 4
  w.testBit 95 && (w / 2 ^ 88 % 8).testBit (hdrKind h) &&
  (fmt == 0 || (fmt == 1 && !hdrExt h) || (fmt == 2 && hdrExt h)) &&
  (hdrIdent h ^^^ (w % 2 ^ 29)) &&& (w / 2 ^ 32 % 2 ^ 29) == 0

/-- The first enabled filter that matches. -/
def State.filterFor (s : State) (c : Nat) (h : List Nat) : Option Nat :=
  ((List.range 256).map (s.filterWord c)).find? (fun w => filterMatches w h)

/-- A received frame goes to ROA, or by its filter to a buffer or a partner entry, or is discarded and counted. -/
def State.canDeliver (c : Nat) (h data : List Nat) (s : State) : State :=
  if (s.cN Obj.roaCanEnable).testBit c ∧ hdrId h = s.cN Obj.roaCanRequestId then s.roaPdu (if hdrKind h = 2 then 16 + c else c) data
  else
    match s.filterFor c h with
    | none => s.incSat (Obj.canRxNoMatchCount c)
    | some w =>
      let target := w / 2 ^ 64 % 8192
      match w / 2 ^ 93 % 4 with
      | 1 => if s.cN (Obj.canRxDataSize c) < data.length then s.incSat (Obj.canRxTooLongCount c) else s.canStore c target h data
      | 2 => s.entryFrame target data
      | _ => s

/-- An error-free frame lowers the receive error counter: from above 127 to a value of 119 to 127 that ISO 11898-1 leaves to the
controller (R467). -/
def State.canRecDown (c : Nat) (s : State) : State :=
  if ¬ [2, 3].contains (s.oN (Obj.canState c)) then s
  else
    let r := s.oN (Obj.canRec c)
    let v : Nat := if 127 < r then 119 + (Config.freeValue 1801 s.freeIx % 9).toNat else r - 1
    let s := if 127 < r then s.fresh else s
    let s := s.put (Obj.canRec c) v
    (s.put (Obj.canState c) (errState (s.oN (Obj.canTec c)) v)).canShow c

/-- A frame received without error; one of a format that CanFrameMode does not accept makes the controller integrate again. -/
def State.canReceived (c : Nat) (h data : List Nat) (age : Nat) (s : State) : State :=
  if ¬ s.canRuns c ∨ (s.oN (Obj.canState c) = 7 ∧ (s.canx c).ant.step = 1) then s
  else if ¬ s.formatOk c (hdrKind h) then (if s.oN (Obj.canState c) = 7 then s else s.canStart c)
  else
    let h := [h.getD 0 0 % 2 ^ 30, h.getD 1 0, s.stampAt age, h.getD 3 0, h.getD 4 0]
    (((s.inc32 (Obj.canRxFrameCount c)).antennaHears c true).canRecDown c).canDeliver c h (fit (hdrLength h) data)

/-- CAN_FRAME_RECEIVED: the header words of R460, the data, and the ticks since the start of frame was sampled. -/
def execCanFrameReceived (can : Fin 8) (hdr : Vector (BitVec 32) 5) (data : List Byte) (age : BitVec 32) (s : State) :
    Host.Outcome State Fault Refusal :=
  .next (s.canReceived can.val (hdr.toList.map BitVec.toNat) (bytesNat data) age.toNat)

/-! ## Sending (R464, R465) -/

/-- The head has been sent: counters, stamp, the connection's number sent, an abort that came too late, and the next head. -/
def State.canSent (c age : Nat) (s : State) : State :=
  match (s.canx c).queue with
  | [] => s
  | f :: rest =>
    if ¬ s.canRuns c ∨ ¬ [2, 3].contains (s.oN (Obj.canState c)) ∨ (s.canx c).held then s
    else
      let tec := s.oN (Obj.canTec c) - 1
      let s := (s.put (Obj.canTec c) tec).put (Obj.canState c) (errState tec (s.oN (Obj.canRec c)))
      let s := (s.inc32 (Obj.canTxFrameCount c)).put (Obj.canTxLastStamp c) (s.stampAt age)
      let s := match f.entry with
        | some e => s.eslMod (s.pt e 2 2) (fun x => { x with sent := some f.seq })
        | none => s
      let s := if (s.canx c).abort = 0 then s else s.put (Obj.canTxResult c) 0x05
      s.canNextHead c rest

/-- CAN_FRAME_SENT. -/
def execCanFrameSent (can : Fin 8) (age : BitVec 32) (s : State) : Host.Outcome State Fault Refusal := .next (s.canSent can.val age.toNat)

/-! ## The end of bus-off recovery (R468, R469) -/

/-- An ESL frame is older than its connection's watchdog time. -/
def State.staleFrame (s : State) (f : CanFrame) : Bool :=
  match f.entry with
  | some e => s.pt e 10 2 * 80000 < s.tick - f.since
  | none => false

/-- The frames of a queue in order: a stale one is replaced by a new one of its connection with the next number after the last
actually sent or placed before it; the list of numbers by connection goes along. -/
def State.regenerate (c : Nat) : List CanFrame → List (Nat × Nat) → State → State × List CanFrame
  | [], _, s => (s, [])
  | f :: fs, last, s =>
    match f.entry with
    | none =>
      let r := State.regenerate c fs last s
      (r.1, f :: r.2)
    | some e =>
      let n := s.pt e 2 2
      if s.staleFrame f then
        let seq := match (last.lookup n).or (s.eslx n).sent with
          | some q => seqNext q
          | none => 0
        let g := s.canFrame c (s.pt e 28 4) (s.eslFrame e seq (s.txPayload e))
        let s := s.eslMod n (fun x => { x with next := seqNext seq, skip := min (x.skip + 1) 4294967295 })
        let now := s.tick
        let r := State.regenerate c fs ((n, seq) :: last) s
        (r.1, { g with entry := some e, seq := seq, since := now } :: r.2)
      else
        let s := if (last.lookup n).isSome then s.eslMod n (fun x => { x with next := seqNext f.seq }) else s
        let r := State.regenerate c fs (if (last.lookup n).isSome then (n, f.seq) :: last else last) s
        (r.1, f :: r.2)

/-- Recovery completes: error active, both counters at 0, the queue made fresh, and a waiting Antenna starts (R468, R469, R471). -/
def State.canRecovered (c : Nat) (s : State) : State :=
  if ¬ s.canOn c ∨ s.oN (Obj.canState c) ≠ 5 then s
  else
    let s := ((s.put (Obj.canTec c) 0).put (Obj.canRec c) 0).put (Obj.canState c) 2
    let old := (s.canx c).queue
    let any := old.any s.staleFrame
    let r := s.regenerate c old []
    let s := if any then r.1.note FC.canEslregen c else r.1
    let flush := s.cN (Obj.canBusOffFlush c) = 1
    let kept := if flush then r.2.filter (fun f => f.entry.isSome) else r.2
    let s := if flush ∧ (r.2.head?.map (fun (f : CanFrame) => f.entry.isNone)).getD false then s.canNextHead c kept
      else (s.canMod c (fun x => { x with queue := kept })).canShow c
    if (s.canx c).antennaNext then (s.canMod c (fun x => { x with antennaNext := false })).antennaStart c else s

/-- CAN_RECOVERY_COMPLETE. -/
def execCanRecoveryComplete (can : Fin 8) (s : State) : Host.Outcome State Fault Refusal := .next (s.canRecovered can.val)

end Sys2Proof.Machine
end

