-- ==== Sys2Proof/Machine/LvRows.lean ====
section
/-! DEFINITION. The millisecond of the charge phases (R302 to R306). -/

namespace Sys2Proof.Machine

/-- The factor k_th of the converter that charges (R298, R305): the winding machine's while its windings carry the current. -/
def State.converterK (s : State) (c : Nat) : Rat := if c = 0 ∧ s.oN Obj.wcTopology ≠ 0 then s.kTh (s.cN Obj.wcMachine) else 1

/-- The converter of CP0 exports. -/
def State.exports (s : State) (c : Nat) : Bool :=
  c == 0 && (decide (s.oF Obj.wcPowerSetpoint < 0) || (s.mode == 6 && s.oN Obj.wcExportAgreed == 1 && decide (s.oF (Obj.cpBatteryCurrent 0) < 0)))

/-- One millisecond of a charge phase; a full battery ends the session at the link (R302, R347). -/
def State.chargePhaseUpdate (c : Nat) (s : State) : State :=
  let tandem : Bool := c == 0 && s.oN Obj.tdState == 4
  let s := s.cpUpdate c (s.converterK c) (s.exports c) tandem
  if c = 0 then s.lkCharged else s

/-- CHARGE_PHASE_UPDATE. -/
def execChargePhaseUpdate (cp : Fin 2) (s : State) : Host.Outcome State Fault Refusal := .next (s.chargePhaseUpdate cp.val)

end Sys2Proof.Machine
end

