-- ==== Sys2Proof/Machine/Rotors.lean ====
section
/-! DEFINITION. A step of an observer and the functions that follow it, and the locked-rotor signature (R240 to R259, R279,
R283, R335, R380). -/

namespace Sys2Proof.Machine

/-- What follows a step of an observer: the current-sum test and the end of a Limp cause for a machine, the travel of an
actuator (R279, R283, R335). -/
def State.stepFollow (o : Nat) (predicted : Nat → Rat) (s : State) : State :=
  if o < 4 then ((s.rmsStep o).sumTests o predicted).limpOver o
  else if o < 8 then s.gaTravelCheck (o - 4)
  else s

/-- An observer's step on the sample of some ticks ago, with what follows it. -/
def State.rotorStep (o age : Nat) (s : State) : State :=
  let s := s.obsWatch
  let pred := s.predicted o (s.stepIn o age)
  (s.obsStep o age).stepFollow o (s.phasePredicted o pred)

/-- OBSERVER_STEP (R240). -/
def execObserverStep (obs : Fin 9) (age : Byte) (s : State) : Host.Outcome State Fault Refusal :=
  .next (if s.obsOn obs.val then s.rotorStep obs.val age.toNat else s)

/-- R258: CommStallTime passes without a restart while the stall is timed. -/
def State.commStalled (o : Nat) (s : State) : State :=
  if s.obsOn o ∧ s.oN (Obj.commStallState o) = 1 then
    let s := s.stallSignature o
    if 4 ≤ o ∧ o < 8 then s.gaSignature (o - 4) else if o = 8 then s.pumpLocked else s
  else s

/-- COMM_STALL_TIMEOUT. -/
def execCommStallTimeout (obs : Fin 9) (s : State) : Host.Outcome State Fault Refusal := .next (s.commStalled obs.val)

end Sys2Proof.Machine
end

