-- ==== Sys2Proof/Machine/TbRows.lean ====
section
/-! DEFINITION. The times of a timebase's lock that pass (R93, R94). -/

namespace Sys2Proof.Machine

/-- TB_HOLDOVER: a locked timebase with a source that updates has had no update within TbUpdateTimeout; its speed is held (R94). -/
def execTbHoldover (tb : Fin 8) (s : State) : Host.Outcome State Fault Refusal :=
  .next (if s.up ∧ s.oN (Obj.tbLockState tb.val) = 2 ∧ s.cN (Obj.tbSource tb.val) ≠ 3 then (s.tbState tb.val 3).raise FC.tbHoldover tb.val else s)

/-- TB_HOLDOVER_LIMIT: TbHoldoverLimit passes in holdover; the timebase is lost, its speed held. R94's row for it counts nothing:
TbLossCount stands (DEDUCED, log 73). -/
def execTbHoldoverLimit (tb : Fin 8) (s : State) : Host.Outcome State Fault Refusal :=
  .next (if s.up ∧ s.oN (Obj.tbLockState tb.val) = 3 then (s.tbState tb.val 4).raise FC.tbLost tb.val else s)

/-- R93: lock has not come within the source's limit; a request for M5 that waits for this lock ends with 0x04 (R53). -/
def State.lockFails (t : Nat) (s : State) : State :=
  if s.up ∧ s.oN (Obj.tbLockState t) = 1 ∧ s.cN (Obj.tbSource t) ≠ 3 then
    let s := s.raise FC.tbLockfail t
    if s.md.requested ∧ s.oN Obj.modeTarget = 5 ∧ s.cN Obj.wcGridTimebase = t then s.wcEnd.requestEnds 5 4 else s
  else s

/-- TB_LOCKFAIL. -/
def execTbLockfail (tb : Fin 8) (s : State) : Host.Outcome State Fault Refusal := .next (s.lockFails tb.val)

end Sys2Proof.Machine
end

