-- ==== Sys2Proof/Machine/Dispatch.lean ====
section
/-! DEFINITION. Which meaning each command has: one arm per constructor, a direct call of it. -/

namespace Sys2Proof.Machine

/-- The effect of a command on everything but the queue. -/
def exec (i : Instr) (s : State) : Host.Outcome State Fault Refusal :=
  match i with
  | .powerOn resetN env => Sys2Proof.Machine.execPowerOn resetN env s
  | .resetNFall lowNs => Sys2Proof.Machine.execResetNFall lowNs s
  | .resetNRise lowMs env => Sys2Proof.Machine.execResetNRise lowMs env s
  | .bootResetheld elapsedMs => Sys2Proof.Machine.execBootResetheld elapsedMs s
  | .bootPlllock => Sys2Proof.Machine.execBootPlllock s
  | .pfailNFall => Sys2Proof.Machine.execPfailNFall s
  | .pfailNRise => Sys2Proof.Machine.execPfailNRise s
  | .meterResume => Sys2Proof.Machine.execMeterResume s
  | .clockLoss pll => Sys2Proof.Machine.execClockLoss pll s
  | .coreUndervoltage => Sys2Proof.Machine.execCoreUndervoltage s
  | .vddCocLoss => Sys2Proof.Machine.execVddCocLoss s
  | .watchdogService sinceUs => Sys2Proof.Machine.execWatchdogService sinceUs s
  | .watchdogExpiry => Sys2Proof.Machine.execWatchdogExpiry s
  | .keeperUndervoltage gs => Sys2Proof.Machine.execKeeperUndervoltage gs s
  | .wakePinEdge pin env => Sys2Proof.Machine.execWakePinEdge pin env s
  | .canWake can env => Sys2Proof.Machine.execCanWake can env s
  | .wakeTimerExpiry env => Sys2Proof.Machine.execWakeTimerExpiry env s
  | .modeRequest value role => Sys2Proof.Machine.execModeRequest value role s
  | .modeTransitionComplete => Sys2Proof.Machine.execModeTransitionComplete s
  | .m3StepTimeout => Sys2Proof.Machine.execM3StepTimeout s
  | .functionResetRequest value role => Sys2Proof.Machine.execFunctionResetRequest value role s
  | .functionResetComplete => Sys2Proof.Machine.execFunctionResetComplete s
  | .gsPairReady pair startUs v0 v1 => Sys2Proof.Machine.execGsPairReady pair startUs v0 v1 s
  | .gdGsstart pair => Sys2Proof.Machine.execGdGsstart pair s
  | .sealCommission value role => Sys2Proof.Machine.execSealCommission value role s
  | .swapArm role => Sys2Proof.Machine.execSwapArm role s
  | .swapCancel role => Sys2Proof.Machine.execSwapCancel role s
  | .swapBoundary => Sys2Proof.Machine.execSwapBoundary s
  | .configSwap tb => Sys2Proof.Machine.execConfigSwap tb s
  | .swapArmTimeout => Sys2Proof.Machine.execSwapArmTimeout s
  | .shadowCopyComplete => Sys2Proof.Machine.execShadowCopyComplete s
  | .tbHoldover tb => Sys2Proof.Machine.execTbHoldover tb s
  | .tbHoldoverLimit tb => Sys2Proof.Machine.execTbHoldoverLimit tb s
  | .tbLockfail tb => Sys2Proof.Machine.execTbLockfail tb s
  | .lawStart tb entry target arg delay angle => Sys2Proof.Machine.execLawStart tb entry target arg delay angle s
  | .sample tb entry target arg delay inp => Sys2Proof.Machine.execSample tb entry target arg delay inp s
  | .shadowLoad tb entry target delay => Sys2Proof.Machine.execShadowLoad tb entry target delay s
  | .testPulse tb entry target arg delay lead => Sys2Proof.Machine.execTestPulse tb entry target arg delay lead s
  | .stamp tb entry angle arg delay => Sys2Proof.Machine.execStamp tb entry angle arg delay s
  | .meterSample index raw full => Sys2Proof.Machine.execMeterSample index raw full s
  | .delayedOccurrenceDue tb inp => Sys2Proof.Machine.execDelayedOccurrenceDue tb inp s
  | .groupRun group role => Sys2Proof.Machine.execGroupRun group role s
  | .groupStop group role => Sys2Proof.Machine.execGroupStop group role s
  | .groupStopAtOnce group role => Sys2Proof.Machine.execGroupStopAtOnce group role s
  | .pwmPeriodStart group inp => Sys2Proof.Machine.execPwmPeriodStart group inp s
  | .pwmStall group => Sys2Proof.Machine.execPwmStall group s
  | .hostShadowWrite index sub value role => Sys2Proof.Machine.execHostShadowWrite index sub value role s
  | .desaturation hb upper volts => Sys2Proof.Machine.execDesaturation hb upper volts s
  | .hardShort hb upper volts => Sys2Proof.Machine.execHardShort hb upper volts s
  | .fastOvercurrent sd amps => Sys2Proof.Machine.execFastOvercurrent sd amps s
  | .gsUndervoltage gs volts => Sys2Proof.Machine.execGsUndervoltage gs volts s
  | .gsUndervoltageEnd gs volts => Sys2Proof.Machine.execGsUndervoltageEnd gs volts s
  | .gsOvervoltage gs volts => Sys2Proof.Machine.execGsOvervoltage gs volts s
  | .gsOvervoltageEnd gs volts => Sys2Proof.Machine.execGsOvervoltageEnd gs volts s
  | .retryWaitEnd hb => Sys2Proof.Machine.execRetryWaitEnd hb s
  | .gdServicelimit hb amps => Sys2Proof.Machine.execGdServicelimit hb amps s
  | .sdStuck sd => Sys2Proof.Machine.execSdStuck sd s
  | .sdOutOfRange sd x => Sys2Proof.Machine.execSdOutOfRange sd x s
  | .sdclkMismatch clk => Sys2Proof.Machine.execSdclkMismatch clk s
  | .vdcImplausible hb highest => Sys2Proof.Machine.execVdcImplausible hb highest s
  | .vdcFullScale vdc => Sys2Proof.Machine.execVdcFullScale vdc s
  | .ainOutOfWindow ain volts => Sys2Proof.Machine.execAinOutOfWindow ain volts s
  | .ainBackInWindow ain volts => Sys2Proof.Machine.execAinBackInWindow ain volts s
  | .lvSenseAtRail input => Sys2Proof.Machine.execLvSenseAtRail input s
  | .trimWrite index sub value role => Sys2Proof.Machine.execTrimWrite index sub value role s
  | .lawInstanceEnd slot issued response => Sys2Proof.Machine.execLawInstanceEnd slot issued response s
  | .slotDeadlineMiss slot issued => Sys2Proof.Machine.execSlotDeadlineMiss slot issued s
  | .engMemue slot issued => Sys2Proof.Machine.execEngMemue slot issued s
  | .handoverRequest engine value role => Sys2Proof.Machine.execHandoverRequest engine value role s
  | .observerStep obs age => Sys2Proof.Machine.execObserverStep obs age s
  | .catchCheckEnd obs => Sys2Proof.Machine.execCatchCheckEnd obs s
  | .injectionSettleEnd obs => Sys2Proof.Machine.execInjectionSettleEnd obs s
  | .polarityTestEnd obs => Sys2Proof.Machine.execPolarityTestEnd obs s
  | .obsStartfail obs => Sys2Proof.Machine.execObsStartfail obs s
  | .obsReacqfail obs => Sys2Proof.Machine.execObsReacqfail obs s
  | .commStallTimeout obs => Sys2Proof.Machine.execCommStallTimeout obs s
  | .safePlanEvaluation => Sys2Proof.Machine.execSafePlanEvaluation s
  | .linkOv1 link volts => Sys2Proof.Machine.execLinkOv1 link volts s
  | .linkOv2 link volts => Sys2Proof.Machine.execLinkOv2 link volts s
  | .linkOv3 link volts => Sys2Proof.Machine.execLinkOv3 link volts s
  | .linkBelowOv2 link volts => Sys2Proof.Machine.execLinkBelowOv2 link volts s
  | .trcChopper link => Sys2Proof.Machine.execTrcChopper link s
  | .openPhaseWindowEnd machine => Sys2Proof.Machine.execOpenPhaseWindowEnd machine s
  | .zeroHoldEnd machine => Sys2Proof.Machine.execZeroHoldEnd machine s
  | .starContactorConfirmed ok => Sys2Proof.Machine.execStarContactorConfirmed ok s
  | .gridWindowHeld volts => Sys2Proof.Machine.execGridWindowHeld volts s
  | .gridContactorConfirmed ok => Sys2Proof.Machine.execGridContactorConfirmed ok s
  | .wcLinklow => Sys2Proof.Machine.execWcLinklow s
  | .wcReferenceUpdate volts power => Sys2Proof.Machine.execWcReferenceUpdate volts power s
  | .wcGridtrip cause => Sys2Proof.Machine.execWcGridtrip cause s
  | .reconnectDelayEnd volts => Sys2Proof.Machine.execReconnectDelayEnd volts s
  | .wcBattloss => Sys2Proof.Machine.execWcBattloss s
  | .chargePhaseUpdate cp => Sys2Proof.Machine.execChargePhaseUpdate cp s
  | .cpEvaluationEnd cp volts => Sys2Proof.Machine.execCpEvaluationEnd cp volts s
  | .cpTaperEnd cp => Sys2Proof.Machine.execCpTaperEnd cp s
  | .cpTimer cp => Sys2Proof.Machine.execCpTimer cp s
  | .cpLimitloss => Sys2Proof.Machine.execCpLimitloss s
  | .lvRun role => Sys2Proof.Machine.execLvRun role s
  | .lvStop role => Sys2Proof.Machine.execLvStop role s
  | .lvIsoSoftStartEnd volts => Sys2Proof.Machine.execLvIsoSoftStartEnd volts s
  | .lvIsofault => Sys2Proof.Machine.execLvIsofault s
  | .lvPhaseTrigger vout vint amps => Sys2Proof.Machine.execLvPhaseTrigger vout vint amps s
  | .lvHiccupEnd phase => Sys2Proof.Machine.execLvHiccupEnd phase s
  | .lvFoldback => Sys2Proof.Machine.execLvFoldback s
  | .lvBurstSleep => Sys2Proof.Machine.execLvBurstSleep s
  | .lvBurstWake => Sys2Proof.Machine.execLvBurstWake s
  | .lvPhaseShed => Sys2Proof.Machine.execLvPhaseShed s
  | .lvLoadRelease => Sys2Proof.Machine.execLvLoadRelease s
  | .lvLoadReleaseEnd => Sys2Proof.Machine.execLvLoadReleaseEnd s
  | .lvOvervoltage => Sys2Proof.Machine.execLvOvervoltage s
  | .lvStartfail => Sys2Proof.Machine.execLvStartfail s
  | .lvTelemetry volts amps => Sys2Proof.Machine.execLvTelemetry volts amps s
  | .lvBatteryLoop => Sys2Proof.Machine.execLvBatteryLoop s
  | .lvAuxremoved rise least mean amps => Sys2Proof.Machine.execLvAuxremoved rise least mean amps s
  | .lvAuxRearm role => Sys2Proof.Machine.execLvAuxRearm role s
  | .gaRequest actuator value role => Sys2Proof.Machine.execGaRequest actuator value role s
  | .gaTorqueReleased actuator => Sys2Proof.Machine.execGaTorqueReleased actuator s
  | .gaReleaseTimeout actuator => Sys2Proof.Machine.execGaReleaseTimeout actuator s
  | .gaSyncPermit actuator role => Sys2Proof.Machine.execGaSyncPermit actuator role s
  | .gaSyncTimeout actuator => Sys2Proof.Machine.execGaSyncTimeout actuator s
  | .gaArrival actuator => Sys2Proof.Machine.execGaArrival actuator s
  | .gaMovetimeout actuator => Sys2Proof.Machine.execGaMovetimeout actuator s
  | .linkPlugged pilot protocol => Sys2Proof.Machine.execLinkPlugged pilot protocol s
  | .linkDetectionLost amps => Sys2Proof.Machine.execLinkDetectionLost amps s
  | .pilotInvalid pilot duty => Sys2Proof.Machine.execPilotInvalid pilot duty s
  | .chargeParametersAgreed service session volts amps duty => Sys2Proof.Machine.execChargeParametersAgreed service session volts amps duty s
  | .cableCheckBegin => Sys2Proof.Machine.execCableCheckBegin s
  | .prechargeBegin => Sys2Proof.Machine.execPrechargeBegin s
  | .prechargeMatchHeld => Sys2Proof.Machine.execPrechargeMatchHeld s
  | .prechargeOutputFallback => Sys2Proof.Machine.execPrechargeOutputFallback s
  | .lnkPrecharge => Sys2Proof.Machine.execLnkPrecharge s
  | .inletContactorsConfirmed ok => Sys2Proof.Machine.execInletContactorsConfirmed ok s
  | .linkStopRequest role => Sys2Proof.Machine.execLinkStopRequest role s
  | .postStopReceived => Sys2Proof.Machine.execPostStopReceived s
  | .inletCurrentLow => Sys2Proof.Machine.execInletCurrentLow s
  | .weldCheck1s volts => Sys2Proof.Machine.execWeldCheck1s volts s
  | .inletDischarged => Sys2Proof.Machine.execInletDischarged s
  | .weldCheck5s volts => Sys2Proof.Machine.execWeldCheck5s volts s
  | .pinTempDerate temp => Sys2Proof.Machine.execPinTempDerate temp s
  | .pinTempLimit temp => Sys2Proof.Machine.execPinTempLimit temp s
  | .cableCheckRequest volts service session => Sys2Proof.Machine.execCableCheckRequest volts service session s
  | .insulationMeasured kohm volts => Sys2Proof.Machine.execInsulationMeasured kohm volts s
  | .isoAlarm => Sys2Proof.Machine.execIsoAlarm s
  | .powerDeliveryStart volts amps => Sys2Proof.Machine.execPowerDeliveryStart volts amps s
  | .postStopRequest role => Sys2Proof.Machine.execPostStopRequest role s
  | .postCurrentLow => Sys2Proof.Machine.execPostCurrentLow s
  | .postOutputDischarged => Sys2Proof.Machine.execPostOutputDischarged s
  | .postDischargeTimeout => Sys2Proof.Machine.execPostDischargeTimeout s
  | .tandemServiceSelection service connection accepted ids => Sys2Proof.Machine.execTandemServiceSelection service connection accepted ids s
  | .lnkTdlock => Sys2Proof.Machine.execLnkTdlock s
  | .tandemFallbackHoldEnd => Sys2Proof.Machine.execTandemFallbackHoldEnd s
  | .tandemFallbackRampEnd => Sys2Proof.Machine.execTandemFallbackRampEnd s
  | .stationPrechargeReached link line => Sys2Proof.Machine.execStationPrechargeReached link line s
  | .stnPrecharge => Sys2Proof.Machine.execStnPrecharge s
  | .prechargeOutputRelease ok => Sys2Proof.Machine.execPrechargeOutputRelease ok s
  | .frontEndSynchronised volts line => Sys2Proof.Machine.execFrontEndSynchronised volts line s
  | .postOutputRequest => Sys2Proof.Machine.execPostOutputRequest s
  | .noOutputTimeout => Sys2Proof.Machine.execNoOutputTimeout s
  | .stnGridtrip cause => Sys2Proof.Machine.execStnGridtrip cause s
  | .stationReconnect line => Sys2Proof.Machine.execStationReconnect line s
  | .tripHoldTimeout => Sys2Proof.Machine.execTripHoldTimeout s
  | .linkRegulation link stages grid => Sys2Proof.Machine.execLinkRegulation link stages grid s
  | .stageRemoveTimeout => Sys2Proof.Machine.execStageRemoveTimeout s
  | .stnStage stage amps => Sys2Proof.Machine.execStnStage stage amps s
  | .stnLinkov volts => Sys2Proof.Machine.execStnLinkov volts s
  | .pumpReferenceUpdate => Sys2Proof.Machine.execPumpReferenceUpdate s
  | .ccFlow => Sys2Proof.Machine.execCcFlow s
  | .ccPressure => Sys2Proof.Machine.execCcPressure s
  | .pumpRestart => Sys2Proof.Machine.execPumpRestart s
  | .conductorModelStep => Sys2Proof.Machine.execConductorModelStep s
  | .monarchBudgetEvaluation => Sys2Proof.Machine.execMonarchBudgetEvaluation s
  | .leaseRequest frame => Sys2Proof.Machine.execLeaseRequest frame s
  | .leaseRenew frame => Sys2Proof.Machine.execLeaseRenew frame s
  | .leaseRelease frame => Sys2Proof.Machine.execLeaseRelease frame s
  | .reduceAcknowledged frame => Sys2Proof.Machine.execReduceAcknowledged frame s
  | .leaseExpiry lease => Sys2Proof.Machine.execLeaseExpiry lease s
  | .reductionDeadline lease => Sys2Proof.Machine.execReductionDeadline lease s
  | .leaseGrantReceived frame => Sys2Proof.Machine.execLeaseGrantReceived frame s
  | .leaseRenewedReceived frame => Sys2Proof.Machine.execLeaseRenewedReceived frame s
  | .leaseReduceReceived frame => Sys2Proof.Machine.execLeaseReduceReceived frame s
  | .leaseRefusedReceived frame => Sys2Proof.Machine.execLeaseRefusedReceived frame s
  | .clientRenewDue => Sys2Proof.Machine.execClientRenewDue s
  | .monExpired => Sys2Proof.Machine.execMonExpired s
  | .monarchHoldEnd => Sys2Proof.Machine.execMonarchHoldEnd s
  | .standbySilence => Sys2Proof.Machine.execStandbySilence s
  | .dcSample volts amps full => Sys2Proof.Machine.execDcSample volts amps full s
  | .journalSlotWrite => Sys2Proof.Machine.execJournalSlotWrite s
  | .phasePageSave => Sys2Proof.Machine.execPhasePageSave s
  | .meterIntervalClose => Sys2Proof.Machine.execMeterIntervalClose s
  | .recordSigned => Sys2Proof.Machine.execRecordSigned s
  | .mtrSignfail => Sys2Proof.Machine.execMtrSignfail s
  | .mtrKeyGenerate value role => Sys2Proof.Machine.execMtrKeyGenerate value role s
  | .roaOpen req role random => Sys2Proof.Machine.execRoaOpen req role random s
  | .roaClose req => Sys2Proof.Machine.execRoaClose req s
  | .keepAlive req => Sys2Proof.Machine.execKeepAlive req s
  | .roaRead req index sub => Sys2Proof.Machine.execRoaRead req index sub s
  | .roaWrite req index sub data => Sys2Proof.Machine.execRoaWrite req index sub data s
  | .recordRead req index sub last => Sys2Proof.Machine.execRecordRead req index sub last s
  | .recordWrite req index sub last data => Sys2Proof.Machine.execRecordWrite req index sub last data s
  | .describe req index sub => Sys2Proof.Machine.execDescribe req index sub s
  | .blockReadStart req index sub => Sys2Proof.Machine.execBlockReadStart req index sub s
  | .blockReadSegment req offset => Sys2Proof.Machine.execBlockReadSegment req offset s
  | .blockWriteStart req index sub length crc => Sys2Proof.Machine.execBlockWriteStart req index sub length crc s
  | .blockWriteSegment req offset data => Sys2Proof.Machine.execBlockWriteSegment req offset data s
  | .blockWriteEnd req => Sys2Proof.Machine.execBlockWriteEnd req s
  | .blockAbort req => Sys2Proof.Machine.execBlockAbort req s
  | .sessionPendingLapse session => Sys2Proof.Machine.execSessionPendingLapse session s
  | .sessionIdleTimeout session => Sys2Proof.Machine.execSessionIdleTimeout session s
  | .blockTransferTimeout session => Sys2Proof.Machine.execBlockTransferTimeout session s
  | .snapshotDiscard session index => Sys2Proof.Machine.execSnapshotDiscard session index s
  | .firmwareVerify role => Sys2Proof.Machine.execFirmwareVerify role s
  | .firmwareInstall role => Sys2Proof.Machine.execFirmwareInstall role s
  | .firmwareActivate role => Sys2Proof.Machine.execFirmwareActivate role s
  | .firmwareCommandComplete result version => Sys2Proof.Machine.execFirmwareCommandComplete result version s
  | .roleKeyWrite session roleCode wrapped => Sys2Proof.Machine.execRoleKeyWrite session roleCode wrapped s
  | .partnerKeyWrite session wrapped => Sys2Proof.Machine.execPartnerKeyWrite session wrapped s
  | .slotHostTakeup entry => Sys2Proof.Machine.execSlotHostTakeup entry s
  | .canFrameReceived can hdr data age => Sys2Proof.Machine.execCanFrameReceived can hdr data age s
  | .canFrameSent can age => Sys2Proof.Machine.execCanFrameSent can age s
  | .canBusError can err sending afterArbitration inc => Sys2Proof.Machine.execCanBusError can err sending afterArbitration inc s
  | .canRecoveryCommand can role => Sys2Proof.Machine.execCanRecoveryCommand can role s
  | .canRecoveryComplete can => Sys2Proof.Machine.execCanRecoveryComplete can s
  | .canIntegrated can => Sys2Proof.Machine.execCanIntegrated can s
  | .canTxSubmit can block role => Sys2Proof.Machine.execCanTxSubmit can block role s
  | .canAbortHead can sending role => Sys2Proof.Machine.execCanAbortHead can sending role s
  | .canAbortAll can sending role => Sys2Proof.Machine.execCanAbortAll can sending role s
  | .canAbortNonSafety can sending role => Sys2Proof.Machine.execCanAbortNonSafety can sending role s
  | .canHeadwait can => Sys2Proof.Machine.execCanHeadwait can s
  | .canAntennaStart can role => Sys2Proof.Machine.execCanAntennaStart can role s
  | .canAntennaStop can role => Sys2Proof.Machine.execCanAntennaStop can role s
  | .antennaDataPhaseEnd can dataInterval frames => Sys2Proof.Machine.execAntennaDataPhaseEnd can dataInterval frames s
  | .antennaTimeout can => Sys2Proof.Machine.execAntennaTimeout can s
  | .canRxBufferLock can => Sys2Proof.Machine.execCanRxBufferLock can s
  | .canRxBufferRelease can => Sys2Proof.Machine.execCanRxBufferRelease can s
  | .ethFrameReceived port frame => Sys2Proof.Machine.execEthFrameReceived port frame s
  | .netLinkdown port pll => Sys2Proof.Machine.execNetLinkdown port pll s
  | .xgLinkUp port => Sys2Proof.Machine.execXgLinkUp port s
  | .gateIntervalStart port => Sys2Proof.Machine.execGateIntervalStart port s
  | .ptpSync tandem time => Sys2Proof.Machine.execPtpSync tandem time s
  | .syncTimeout => Sys2Proof.Machine.execSyncTimeout s
  | .netTimeloss => Sys2Proof.Machine.execNetTimeloss s
  | .ppsInEdge => Sys2Proof.Machine.execPpsInEdge s
  | .streamDatagramSend => Sys2Proof.Machine.execStreamDatagramSend s
  | .netPlca port => Sys2Proof.Machine.execNetPlca port s
  | .plcaBeaconReturn port => Sys2Proof.Machine.execPlcaBeaconReturn port s
  | .eslFrameReceived transport source entry bytes => Sys2Proof.Machine.execEslFrameReceived transport source entry bytes s
  | .eslWatchdogExpiry connection => Sys2Proof.Machine.execEslWatchdogExpiry connection s
  | .eslTxFrame entry => Sys2Proof.Machine.execEslTxFrame entry s
  | .soEnergise so reads => Sys2Proof.Machine.execSoEnergise so reads s
  | .soDeenergise so => Sys2Proof.Machine.execSoDeenergise so s
  | .soReadbackMismatch so readback => Sys2Proof.Machine.execSoReadbackMismatch so readback s
  | .soOffPulse so afterOff afterOn => Sys2Proof.Machine.execSoOffPulse so afterOff afterOn s
  | .safSoreadback so => Sys2Proof.Machine.execSafSoreadback so s
  | .siValueChange si level => Sys2Proof.Machine.execSiValueChange si level s
  | .siTestPulseCheck tp reads => Sys2Proof.Machine.execSiTestPulseCheck tp reads s
  | .safSidiscrepancy si => Sys2Proof.Machine.execSafSidiscrepancy si s
  | .safPinreadback ball => Sys2Proof.Machine.execSafPinreadback ball s
  | .safProofdue => Sys2Proof.Machine.execSafProofdue s
  | .faultRaise code inst => Sys2Proof.Machine.execFaultRaise code inst s
  | .faultRecordTake => Sys2Proof.Machine.execFaultRecordTake s
  | .faultClearRequest value role => Sys2Proof.Machine.execFaultClearRequest value role s
  | .eventLogFlush => Sys2Proof.Machine.execEventLogFlush s
  | .faultInject role => Sys2Proof.Machine.execFaultInject role s
  | .sramEccError master bank region double => Sys2Proof.Machine.execSramEccError master bank region double s
  | .backgroundTestRegion fails double copy => Sys2Proof.Machine.execBackgroundTestRegion fails double copy s
  | .memConflictsat master => Sys2Proof.Machine.execMemConflictsat master s
  | .leaveRequest op => Sys2Proof.Machine.execLeaveRequest op s
  | .leaveSafetyRequest op => Sys2Proof.Machine.execLeaveSafetyRequest op s
  | .leaveGrant => Sys2Proof.Machine.execLeaveGrant s
  | .leaveReturn op => Sys2Proof.Machine.execLeaveReturn op s
  | .leaveWait op => Sys2Proof.Machine.execLeaveWait op s
  | .temperatureSample raw => Sys2Proof.Machine.execTemperatureSample raw s
  | .voltageSample volts => Sys2Proof.Machine.execVoltageSample volts s
  | .processMonitorSample freq => Sys2Proof.Machine.execProcessMonitorSample freq s
  | .ppsOutSecond => Sys2Proof.Machine.execPpsOutSecond s
  | .lampPatternEdge ms => Sys2Proof.Machine.execLampPatternEdge ms s
  | .ptpSyncTransmit port grandmaster => Sys2Proof.Machine.execPtpSyncTransmit port grandmaster s
  | .freeRunningMeterSample raw full => Sys2Proof.Machine.execFreeRunningMeterSample raw full s
  | .stationChopperRun volts => Sys2Proof.Machine.execStationChopperRun volts s
  | .stationChopperStop volts => Sys2Proof.Machine.execStationChopperStop volts s
  | .linkBelowOv1 link volts => Sys2Proof.Machine.execLinkBelowOv1 link volts s
  | .linkBelowOv3 link volts => Sys2Proof.Machine.execLinkBelowOv3 link volts s
  | .linkFaultOpenTimeout => Sys2Proof.Machine.execLinkFaultOpenTimeout s
  | .inletPrechargeOutputOpen => Sys2Proof.Machine.execInletPrechargeOutputOpen s
  | .xgPllLock port => Sys2Proof.Machine.execXgPllLock port s
  | .testRestartDelay obs => Sys2Proof.Machine.execTestRestartDelay obs s
  | .linkProtocolTimeout => Sys2Proof.Machine.execLinkProtocolTimeout s

end Sys2Proof.Machine
end

