-- ==== Sys2Proof/Safety.lean ====
section
/-! DEFINITION. What counts as a sound state, in the terms the statements use: the dictionary and the blocks in their canonical
form, the units the spec counts, and the stores whose depth it fixes. -/

namespace Sys2Proof
namespace Machine

/-- The three stores and the blocks' memory are in canonical form: equal contents are equal data. -/
abbrev State.Canonical (s : State) : Prop :=
  s.live.wf = true ∧ s.active.wf = true ∧ s.shadow.wf = true ∧ memWf s.mem = true

/-- The pins and units that the spec counts: HB0-HB23, LV0-LV15, GS0-GS47, eight timebases, eight CAN controllers (R1, R108). -/
abbrev State.Sized (s : State) : Prop :=
  s.hbDrive.length = 24 ∧ s.lvDrive.length = 16 ∧ s.gsDrive.length = 48 ∧ s.tb.length = 8 ∧ s.can.length = 8

/-- Stores of fixed depth: 32 delayed occurrences a timebase (R104), 256 raises in the fault queue (R533), 4,096 entries in the event log
(R539), 2,048 metering records (R418), 16 sessions (R434) and 64 frames in a CAN transmit queue (R464). -/
abbrev State.Bounded (s : State) : Prop :=
  (∀ x ∈ s.tb, x.delayed.length ≤ 32) ∧ s.fc.queue.length ≤ 256 ∧ s.fc.ring.length ≤ 4096 ∧ s.mtr.store.length ≤ 2048 ∧
  s.roa.sessions.length ≤ 16 ∧ ∀ x ∈ s.can, x.queue.length ≤ 64

/-- A sound state. -/
abbrev State.Sound (s : State) : Prop := s.Canonical ∧ s.Sized ∧ s.Bounded

/-- A role may write an object that asks for a rank: ROA is served, the rank suffices, and no receive slot holds the object unless the
writer is a slot (R430, R438, R450). -/
abbrev State.MayWrite (s : State) (role : Role) (rank k : Nat) : Prop := s.up = true ∧ rank ≤ roleRank role ∧ (role = .slot ∨ s.slotTarget k = false)

/-- `t` is `s` but for the live values of the objects of a list. -/
def State.OnlyObjects (ks : List Nat) (s t : State) : Prop := t = { s with live := t.live } ∧ ∀ k, k ∉ ks → t.o k = s.o k

/-- A request that a session accepts (R435): ROA is served on its transport, its session exists, its tag verifies, and its nonce is new
and below 2^31. -/
abbrev State.Accepts (s : State) (req : RoaReq) (x : RoaSess) : Prop :=
  s.up = true ∧ s.roaOn req.transport.toNat = true ∧ s.sess req.session.toNat = some x ∧ req.tagOk = true ∧
  x.nonceIn < req.nonce.toNat ∧ req.nonce.toNat < 2147483648

/-- A session as an accepted request leaves it: its nonce the last, no failures in a row, open, used now. -/
def sessAfter (x : RoaSess) (req : RoaReq) (now : Nat) : RoaSess := { x with nonceIn := req.nonce.toNat, fails := 0, waiting := false, lastAt := now }

/-- The state in which an accepted request is served. -/
def State.accepted (req : RoaReq) (x : RoaSess) (s : State) : State :=
  let t := s.sessMod req.session.toNat (fun _ => sessAfter x req s.mono)
  t.put Obj.roaSessionCount ((t.roa.sessions.filter (fun y => !y.waiting)).length : Nat)

/-- The answer of a service to a request goes out on the request's transport. -/
def State.answered (req : RoaReq) (svc idx sub : Nat) (r : State × RoaReply) : State :=
  r.1.reply req.session.toNat req.transport.toNat svc idx sub r.2

end Machine

/-- Commands that may change the configuration in force: the boundary of an armed swap, and a pass through M0 (R73, R84). -/
def Instr.mayConfigure : Instr → Bool
  | .swapBoundary | .configSwap _ => true
  | .powerOn _ _ | .resetNRise _ _ | .wakePinEdge _ _ | .canWake _ _ | .wakeTimerExpiry _ => true
  | _ => false

/-- Commands that may change what the block knows of its supplies, RESET_N and PFAIL_N, its clock and its seal latch. -/
def Instr.mayPower : Instr → Bool
  | .powerOn _ _ | .resetNFall _ | .resetNRise _ _ | .vddCocLoss | .pfailNFall | .pfailNRise | .clockLoss _ | .modeTransitionComplete => true
  | .wakePinEdge _ _ | .canWake _ _ | .wakeTimerExpiry _ => true
  | _ => false

end Sys2Proof
end

