-- ==== Sys2Proof/Certificates/Slice0/Obligations.lean ====
section
/-! DEFINITION. The statements for the provers: what the commands and the machine do, by the numbered rules of the spec. -/

open Sys2Proof Sys2Proof.Machine

/-! ## The machine as a whole -/

/-- A command reaches the state only through this: a step takes the command at the front of the queue and answers what `exec`
answers on the state with the queue's rest. On an empty queue a step is one tick of the block's own clock (the model's choice,
log entry 1). -/
def Obligations.StepRunsTheFrontCommand : Prop :=
  (∀ (c : Instr) (rest : List Instr) (s : State), s.pending = c :: rest → step s = exec c { s with pending := rest }) ∧
  (∀ s : State, s.pending = [] → step s = .next s.clockTick)

/-- The state after reset is sound: stores in canonical form, as many pins and units as the spec counts, nothing over its depth,
and no command waiting. -/
def Obligations.ResetIsSound : Prop :=
  State.reset.Sound ∧ State.reset.pending = []

/-- Every step keeps a sound state sound, whatever command runs or whether the clock ticks: the dictionary and the blocks stay in
canonical form, the pins and units as many as they are (R1, R108), and every store within its depth (R104, R418, R434, R464, R533, R539). -/
def Obligations.StepKeepsSound : Prop :=
  ∀ s t : State, s.Sound → step s = .next t → t.Sound

/-- R80, with R73, R84 and R85: every command but a swap's boundary and those that can start a pass through M0 leaves the active set of
every scope as it is, in a state with no swap of this very tick, which alone an event could still undo. -/
def Obligations.ActiveSetChangesOnlyBySwapOrPass : Prop :=
  ∀ (c : Instr) (s t : State), s.Sound → c.mayConfigure = false → (∀ u, s.sw.undo = some u → u.tick ≠ s.tick) → exec c s = .next t →
    t.active = s.active

/-- R1, with R62: POWER_ON with RESET_N high and no floating pin loads the latch, and SEAL0 at that release is the role: 1 the station
role, 0 the vehicle role; from then on every step, whatever command runs, keeps the latch and with it the role, but for the loss and
return of VDD_COC. -/
def Obligations.RoleFixedWhilePowered : Prop :=
  (∀ (s : State) (env : BootEnv), env.floats.toNat = 0 → ∃ t, exec (.powerOn true env) s = .next t ∧ t.plat.latchLoaded = true ∧
      t.plat.sealLatch = env.seals.toNat ∧ t.station = env.seals.toNat.testBit 0) ∧
  (∀ s t : State, s.Sound → s.plat.latchLoaded = true → s.pending.head? ≠ some .vddCocLoss →
    (∀ r env, s.pending.head? ≠ some (.powerOn r env)) → step s = .next t →
    t.plat.latchLoaded = true ∧ t.plat.sealLatch = s.plat.sealLatch ∧ t.station = s.station)

/-- No command puts a command into the queue or takes one out. R13, R41, R62, R65: only the commands of supplies, reset, clocks, wakes,
swaps and mode transitions touch what the block knows of its supplies, of RESET_N and PFAIL_N, of its clock and of its seal latch. -/
def Obligations.CommandsLeaveTheQueueAndThePlatform : Prop :=
  (∀ (c : Instr) (s t : State), s.Sound → exec c s = .next t → t.pending = s.pending) ∧
  (∀ (c : Instr) (s t : State), s.Sound → c.mayPower = false → c.mayConfigure = false → exec c s = .next t → t.plat = s.plat)

/-! ## Faults (chapter 21) -/

/-- R532, R533, R536: FAULT_RAISE of a code that its row allows on an instance, of a class below SAFE and not set so far, sets the
code's bit in its FaultStatus word, makes the instance one that is set, and puts one raise at the end of the collector's queue, with the
code's class and the time and mode of the raise; no other object but FaultClassMap changes, and nothing else of the state. With the queue full
the raise is counted in FaultLostCount and makes no entry. -/
def Obligations.RaiseQueuesOneRaise : Prop :=
  (∀ (s : State) (code inst : BitVec 16) (row : FaultRow), s.plat.mainOn = true →
    faultRow code.toNat = some row →
    row.recordOnly = false →
    row.allows inst.toNat = true →
    s.faultClass code.toNat inst.toNat ≤ 2 →
    s.isSet code.toNat inst.toNat = false →
    s.fc.queue.length < 256 →
    ∃ t r, exec (.faultRaise code inst) s = .next t ∧
      t.fc.active = s.fc.active ++ [(code.toNat, inst.toNat)] ∧
      (t.oN (if code.toNat % 256 < 64 then Obj.faultStatusLow (code.toNat / 256 - 1) else Obj.faultStatusHigh (code.toNat / 256 - 1))).testBit
      (code.toNat % 64) = true ∧
      t.fc.queue = s.fc.queue ++ [r] ∧
      r.code = code.toNat ∧ r.inst = inst.toNat ∧ r.cls = s.faultClass code.toNat inst.toNat ∧ r.time = s.now ∧ r.mode = s.mode ∧
      r.again = false ∧ r.injected = false ∧
      t = { s with live := t.live, fc := t.fc } ∧
      ∀ k, k ∉ [Obj.faultStatusLow (code.toNat / 256 - 1), Obj.faultStatusHigh (code.toNat / 256 - 1), Obj.faultClassMap] → t.o k = s.o k) ∧
  (∀ (s : State) (code inst : BitVec 16) (row : FaultRow), s.plat.mainOn = true →
    faultRow code.toNat = some row →
    row.recordOnly = false →
    row.allows inst.toNat = true →
    s.faultClass code.toNat inst.toNat ≤ 2 →
    256 ≤ s.fc.queue.length →
    ∃ t, exec (.faultRaise code inst) s = .next t ∧
      t.fc.queue = s.fc.queue ∧
      t.o Obj.faultLostCount = satInc32 (s.o Obj.faultLostCount))

/-- R533, R537, R539: FAULT_RECORD_TAKE with a new raise of a class other than HALT, and no record of the last microsecond to merge into,
takes the raise from the queue into a record of its own: the next sequence number, the raise's code, instance, class and time, one
occurrence, and an entry of kind 1 for the event log. FaultRecordNewest and FaultRecordCount follow, and no pin, block or active set
changes. -/
def Obligations.RecordTakeOpensARecord : Prop :=
  ∀ (s : State) (r : Raise) (rest : List Raise), s.fc.queue = r :: rest →
    r.cls ≠ 2 →
    r.again = false →
    ({ s with fc := { s.fc with queue := rest } } : State).slotMerging r = none →
    ∃ t slot x e, exec .faultRecordTake s = .next t ∧
      t.fc.queue = rest ∧
      t.fc.nextSeq = s.fc.nextSeq + 1 ∧
      (slot, x) ∈ t.fc.slots ∧
      x.seq = s.fc.nextSeq ∧ x.code = r.code ∧ x.inst = r.inst ∧ x.cls = r.cls ∧ x.firstTime = r.time ∧ x.lastTime = r.time ∧ x.occurrences = 1 ∧
      t.o Obj.faultRecordNewest = s.fc.nextSeq ∧ t.oN Obj.faultRecordCount = min s.fc.nextSeq 256 ∧
      t.fc.staged = s.fc.staged ++ [e] ∧ e.kind = 1 ∧ e.code = r.code ∧ e.inst = r.inst ∧
      t.hbDrive = s.hbDrive ∧ t.lvDrive = s.lvDrive ∧ t.gsDrive = s.gsDrive ∧ t.mem = s.mem ∧ t.active = s.active

/-- R534, R535, R430: FAULT_CLEAR_REQUEST by a role that may clear the code, with an instance that is set, clears every named instance
where none of their causes is present, with result 0x00 and a count; with one cause still present nothing is cleared, result 0x02 and a
count; below the rank the code asks for it is refused with 0x05 alone. -/
def Obligations.ClearNeedsTheCauseGone : Prop :=
  (∀ (s : State) (v : BitVec 32) (role : Role) (row : FaultRow), s.up = true →
    faultRow (v.toNat / 65536) = some row →
    (if 3 ≤ s.faultClass (v.toNat / 65536) (v.toNat % 65536) then 3 else 2) ≤ roleRank role →
    s.namedSet (v.toNat / 65536) (v.toNat % 65536) ≠ [] →
    (s.namedSet (v.toNat / 65536) (v.toNat % 65536)).any (s.causePresent (v.toNat / 65536)) = false →
    ∃ t, exec (.faultClearRequest v role) s = .next t ∧
      t.fc.active = s.fc.active.filter (fun p => !(p.1 == v.toNat / 65536 && (s.namedSet (v.toNat / 65536) (v.toNat % 65536)).contains p.2)) ∧
      t.o Obj.faultClearResult = 0 ∧ t.o Obj.faultClearCount = satInc32 (s.o Obj.faultClearCount) ∧
      t.fc.queue = s.fc.queue ∧ t = { s with live := t.live, fc := t.fc }) ∧
  (∀ (s : State) (v : BitVec 32) (role : Role) (row : FaultRow), s.up = true →
    faultRow (v.toNat / 65536) = some row →
    (if 3 ≤ s.faultClass (v.toNat / 65536) (v.toNat % 65536) then 3 else 2) ≤ roleRank role →
    (s.namedSet (v.toNat / 65536) (v.toNat % 65536)).any (s.causePresent (v.toNat / 65536)) = true →
    ∃ t, exec (.faultClearRequest v role) s = .next t ∧
      t.fc.active = s.fc.active ∧
      t.o Obj.faultClearResult = 2 ∧ t.o Obj.faultClearRefusedCount = satInc32 (s.o Obj.faultClearRefusedCount)) ∧
  (∀ (s : State) (v : BitVec 32) (role : Role), s.up = true →
    roleRank role < (if 3 ≤ s.faultClass (v.toNat / 65536) (v.toNat % 65536) then 3 else 2) →
    exec (.faultClearRequest v role) s = .next (s.put Obj.roaLastError 0x05))

/-- R539, R558: EVENT_LOG_FLUSH moves the staged entries, in order, to the end of the ring, which keeps the newest 4,096, unless the eMRAM
write supply is in fault, which holds the write. R541, R49, R430: FAULT_INJECT in M11 by a Vendor raises InjectCode with the injected mark and
result 0x00, and a code below class SAFE is queued with that mark; an unknown code leaves result 0x01 and nothing else; outside M11
it is refused with 0x0A. -/
def Obligations.LogFlushAndInjection : Prop :=
  (∀ (s : State), s.up = true →
    s.oN (Obj.vmState 9) = 2 →
    exec .eventLogFlush s = .next (s)) ∧
  (∀ (s : State), s.up = true →
    s.oN (Obj.vmState 9) ≠ 2 →
    ∃ t, exec .eventLogFlush s = .next t ∧
      t.fc.staged = [] ∧ t.fc.ringCount = s.fc.ringCount + s.fc.staged.length ∧
      t.fc.ring <:+ s.fc.ring ++ s.fc.staged ∧ t.fc.ring.length = min 4096 (s.fc.ring.length + s.fc.staged.length) ∧
      t = { s with fc := t.fc }) ∧
  (∀ (s : State) (role : Role) (row : FaultRow), s.up = true →
    5 ≤ roleRank role →
    s.mode = 11 →
    faultRow (s.oN Obj.injectCode / 65536) = some row →
    row.recordOnly = false →
    row.allows (s.oN Obj.injectCode % 65536) = true →
    exec (.faultInject role) s = .next ((s.put Obj.injectResult 0).raiseWith (s.oN Obj.injectCode / 65536) (s.oN Obj.injectCode % 65536) true (s.oN Obj.injectPinOverride != 1))) ∧
  (∀ (s : State) (role : Role), s.up = true →
    5 ≤ roleRank role →
    s.mode = 11 →
    faultRow (s.oN Obj.injectCode / 65536) = none →
    exec (.faultInject role) s = .next (s.put Obj.injectResult 1)) ∧
  (∀ (s : State) (role : Role), s.up = true →
    5 ≤ roleRank role →
    s.mode ≠ 11 →
    exec (.faultInject role) s = .next (s.put Obj.roaLastError 0x0A)) ∧
  (∀ (s : State) (role : Role) (row : FaultRow), s.up = true →
    5 ≤ roleRank role →
    s.mode = 11 →
    faultRow (s.oN Obj.injectCode / 65536) = some row →
    row.recordOnly = false →
    row.allows (s.oN Obj.injectCode % 65536) = true →
    (s.put Obj.injectResult 0).faultClass (s.oN Obj.injectCode / 65536) (s.oN Obj.injectCode % 65536) ≤ 2 →
    s.fc.queue.length < 256 →
    ∃ t r, exec (.faultInject role) s = .next t ∧
      t.o Obj.injectResult = 0 ∧ t.fc.queue = s.fc.queue ++ [r] ∧
      r.code = s.oN Obj.injectCode / 65536 ∧ r.inst = s.oN Obj.injectCode % 65536 ∧ r.injected = true)

/-! ## The Cocoon island (chapter 1) -/

/-- R18, R19, R35, R85: a trigger that takes every function puts every LV channel at pulse-off and every safety output low; an HB
channel of no machine is at pulse-off; the island holds everything; from M2 to M8 or M10 the mode becomes M9 with the trigger's
code as cause; an armed swap is cancelled. -/
def Obligations.TriggerPutsEverythingUnderItsPlan : Prop :=
  ∀ (s : State) (code inst : Nat), s.Sound →
    (2 ≤ s.mode ∧ s.mode ≤ 8) ∨ s.mode = 10 →
    (s.trigger code inst false).isl.whole = true ∧ (s.trigger code inst false).mode = 9 ∧
      (s.trigger code inst false).o Obj.modeTransitionCause = code ∧ (s.trigger code inst false).sw.armed = false ∧
      (∀ n < 16, (s.trigger code inst false).lvDrive.getD n .switching = .pulseOff) ∧
      (∀ n < 8, (s.trigger code inst false).o (Obj.soCommand n) = 0) ∧
      (∀ n < 24, ((List.range 4).flatMap s.machineHbs).contains n = false → (s.trigger code inst false).hbDrive.getD n .switching = .pulseOff)

/-- R13, R18, R20, R148, R499: the island's own commands. CLOCK_LOSS while its trigger is armed outside M1, CORE_UNDERVOLTAGE and
WATCHDOG_EXPIRY while armed are triggers with their codes; in M1 a core under-voltage is only kept for the next pass; the first
WATCHDOG_SERVICE arms the watchdog, one inside the window keeps it, one outside is an expiry; KEEPER_UNDERVOLTAGE of a running
keeper is recorded in the retention memory. -/
def Obligations.IslandCommandsTrigger : Prop :=
  (∀ (s : State), s.isl.armedClock = true →
    s.mode ≠ 1 →
    exec (.clockLoss 0) s = .next (((({ s with plat := { s.plat with clockOk := false } } : State).put Obj.refClockPresent 0).incSat Obj.clockLossCount).trigger FC.bootClockloss 0 false)) ∧
  (∀ (s : State) (pll : BitVec 2), s.isl.armedClock = true →
    s.mode ≠ 1 →
    pll ≠ 0 →
    exec (.clockLoss pll) s = .next (((({ s with plat := { s.plat with clockOk := false } } : State).put Obj.pllLockMap (s.oN Obj.pllLockMap &&& (15 - pll.toNat) : Nat)).incSat
      Obj.clockLossCount).trigger FC.bootClockloss 0 false)) ∧
  (∀ (s : State), s.plat.vddCoc = true →
    s.mode ≠ 1 →
    exec .coreUndervoltage s = .next (s.trigger FC.bootCoreuv 0 false)) ∧
  (∀ (s : State), s.plat.vddCoc = true →
    s.mode = 1 →
    exec .coreUndervoltage s = .next ({ s with isl := { s.isl with coreUvInM1 := true } })) ∧
  (∀ (s : State), s.isl.armedWatchdog = true →
    s.up = true →
    exec .watchdogExpiry s = .next ((({ s with isl := { s.isl with serviceOk := false, watchdogExpiries := s.isl.watchdogExpiries + 1 } } : State).incSat
      Obj.safWatchdogExpiryCount).raise FC.safWdog 0)) ∧
  (∀ (s : State) (us : Nat), s.up = true →
    s.isl.armedWatchdog = false →
    exec (.watchdogService us) s = .next ({ s with isl := { s.isl with armedWatchdog := true, lastService := some s.mono, serviceOk := true } })) ∧
  (∀ (s : State) (us : Nat), s.up = true →
    s.isl.armedWatchdog = true →
    500 ≤ us →
    us ≤ 2000 →
    exec (.watchdogService us) s = .next ({ s with isl := { s.isl with lastService := some s.mono, serviceOk := true } })) ∧
  (∀ (s : State) (us : Nat), s.up = true →
    s.isl.armedWatchdog = true →
    us < 500 ∨ 2000 < us →
    ∃ t, exec (.watchdogService us) s = .next t ∧
      t.isl.watchdogExpiries = s.isl.watchdogExpiries + 1 ∧ t.isl.lastService = some s.mono) ∧
  (∀ (s : State) (g : Fin 48), s.gsDrive.getD g.val .low = .keeper →
    ∃ t r, exec (.keeperUndervoltage g) s = .next t ∧
      t.isl.records = s.isl.records ++ [r] ∧ r.code = FC.gdKeeperuv ∧ r.inst = g.val ∧ r.whole = false ∧
      t = { s with isl := t.isl })

/-! ## Supplies, reset and boot (chapter 3) -/

/-- R17, R537, R585: VDD_COC_LOSS leaves nothing powered: the main domain off, the island and the latch as new, every channel at
pulse-off and every gate supply low, device time at 0; both configuration sets, the blocks and the device records stay. R17, R18, R75: POWER_ON
with RESET_N low waits for its release with the island in control under the default plans, one trigger recorded, BOOT_MAINRESET. -/
def Obligations.CocLossLeavesNothingDriven : Prop :=
  (∀ (s : State), ∃ t, exec .vddCocLoss s = .next t ∧
      t.mode = 0 ∧ t.plat.vddCoc = false ∧ t.plat.mainOn = false ∧ t.plat.latchLoaded = false ∧ t.isl = {} ∧
      t.tick = 0 ∧ t.now = 0 ∧
      t.hbDrive = List.replicate 24 .pulseOff ∧ t.lvDrive = List.replicate 16 .pulseOff ∧ t.gsDrive = List.replicate 48 .low ∧
      t.active = s.active ∧ t.shadow = s.shadow ∧ t.mem = s.mem ∧ t.nv = s.nv) ∧
  (∀ (s : State) (env : BootEnv), ∃ t, exec (.powerOn false env) s = .next t ∧
      t.plat.vddCoc = true ∧ t.plat.resetN = false ∧ t.plat.mainOn = false ∧ t.mode = 0 ∧
      t.isl.plans = [none, none, none, none] ∧ t.hbDrive = List.replicate 24 .pulseOff ∧
      t.isl.whole = true ∧ t.isl.records = [powerRecord] ∧ powerRecord.code = FC.bootMainreset ∧ powerRecord.whole = true)

/-- R65, R66, R20: RESET_N_FALL outside M1, at least 1 µs long or with PFAIL_N low, stops the main domain, closes every session, puts
every function under the island's override and every LV channel at pulse-off, cancels an armed swap, and is recorded as BOOT_MAINRESET. R67:
where it is found low beyond 500 ms the island records the reset, once. R69: in M0, BOOT_PLLLOCK is raised where a PLL has not locked. -/
def Obligations.ResetFallStopsTheMainDomain : Prop :=
  (∀ (s : State) (ns : Nat), s.Sound →
    s.plat.vddCoc = true →
    s.plat.resetN = true →
    1000 ≤ ns ∨ s.plat.pfailN = false →
    s.mode ≠ 1 →
    ∃ t r, exec (.resetNFall ns) s = .next t ∧
      t.isl.records = s.isl.records ++ [r] ∧ r.code = FC.bootMainreset ∧ r.whole = true ∧
      t.plat.resetN = false ∧ t.plat.mainOn = false ∧ t.mode = 0 ∧ t.isl.whole = true ∧ t.sw.armed = false ∧ t.roa.sessions = [] ∧
      ∀ n < 16, t.lvDrive.getD n .switching = .pulseOff) ∧
  (∀ (s : State) (ms : Nat), s.plat.vddCoc = true →
    s.plat.resetN = false →
    500 < ms →
    s.isl.resetHeld = false →
    ∃ t r, exec (.bootResetheld ms) s = .next t ∧
      t.isl.resetHeld = true ∧ t.isl.records = s.isl.records ++ [r] ∧ r.code = FC.bootResetheld ∧ r.resetMs = ms ∧
      t = { s with isl := t.isl }) ∧
  (∀ (s : State), s.plat.mainOn = true →
    s.mode = 0 →
    exec .bootPlllock s = .next (s.raise FC.bootPlllock 0))

/-- R66, R69: RESET_N_RISE with VDD_COC up starts a pass: the main domain is on, the pass counted, and the low time kept. R41: an enabled
wake source in M1 (pin, CAN, timer) starts a warm pass, the main domain on, and names itself in LastWakeCause. -/
def Obligations.RiseAndWakesStartAPass : Prop :=
  (∀ (s : State) (ms : Nat) (env : BootEnv), s.plat.vddCoc = true →
    s.plat.resetN = false →
    ∃ t, exec (.resetNRise ms env) s = .next t ∧
      t.plat.resetN = true ∧ t.plat.mainOn = true ∧ t.plat.resetLowMs = min ms 4294967295 ∧
      t.nv.chrysalisCount = min (s.nv.chrysalisCount + 1) 4294967295) ∧
  (∀ (s : State) (pin : Fin 4) (env : BootEnv), s.mode = 1 →
    s.plat.resetN = true →
    (s.oN Obj.wakeSourceEnable).testBit pin.val = true →
    ∃ t, exec (.wakePinEdge pin env) s = .next t ∧
      t.plat.mainOn = true ∧ t.oN Obj.lastWakeCause = pin.val + 1) ∧
  (∀ (s : State) (c : Fin 8) (env : BootEnv), s.mode = 1 →
    s.plat.resetN = true →
    (s.oN Obj.wakeSourceEnable).testBit 4 = true →
    s.cN (Obj.canWakeEnable c.val) = 1 →
    ∃ t, exec (.canWake c env) s = .next t ∧
      t.plat.mainOn = true ∧ t.oN Obj.lastWakeCause = 5) ∧
  (∀ (s : State) (env : BootEnv), s.mode = 1 →
    s.plat.resetN = true →
    (s.oN Obj.wakeSourceEnable).testBit 5 = true →
    s.oN Obj.wakeTimer ≠ 0 →
    ∃ t, exec (.wakeTimerExpiry env) s = .next t ∧
      t.plat.mainOn = true ∧ t.oN Obj.lastWakeCause = 6)

/-- R42, R69: a pass of which a step up to the eighth fails (pins floating or changed, no image, self-test, calibration) stays in M0; by
RESET_N_RISE as by any other start of a pass. -/
def Obligations.FailedPassStaysInM0 : Prop :=
  ∀ (s : State) (env : BootEnv) (ty : Nat), s.Sound →
    ((s.passStart ty env).bootSteps env).2 = false →
    (s.chrysalis ty env).mode = 0

/-- R63, R430: SEAL_COMMISSION of the latched pattern by a Vendor in M2 makes it the reference; another value is refused with 0x06,
another mode with 0x0A, another role with 0x05. -/
def Obligations.SealCommissionSetsTheReference : Prop :=
  (∀ (s : State) (v : Byte) (role : Role), s.MayWrite role 5 Obj.sealCommission →
    v.toNat = s.plat.sealLatch →
    s.mode = 2 →
    exec (.sealCommission v role) s = .next (((({ s with nv := { s.nv with sealReference := v.toNat } } : State).put Obj.sealReference v.toNat).put Obj.sealMismatchMap 0))) ∧
  (∀ (s : State) (v : Byte) (role : Role), s.MayWrite role 5 Obj.sealCommission →
    v.toNat ≠ s.plat.sealLatch →
    exec (.sealCommission v role) s = .next (s.put Obj.roaLastError 0x06)) ∧
  (∀ (s : State) (v : Byte) (role : Role), s.MayWrite role 5 Obj.sealCommission →
    v.toNat = s.plat.sealLatch →
    s.mode ≠ 2 →
    exec (.sealCommission v role) s = .next (s.put Obj.roaLastError 0x0A)) ∧
  (∀ (s : State) (v : Byte) (role : Role), s.up = true →
    roleRank role < 5 →
    exec (.sealCommission v role) s = .next (s.put Obj.roaLastError 0x05))

/-! ## Modes and per-function resets (chapter 2) -/

/-- R34, R35, R36, R45: MODE_REQUEST with 0xFF is stored only; a value that is no mode number is refused with 0x06; a target that R34 bars
leaves R34's code in ModeRequestResult and nothing else but ModeRequest; an accepted target of M1, M3, M4, M8, M10 or M11 leaves result 1 and
becomes ModeTarget, and ModeState and every other object stay; one for M2 from M3 or M4 begins the ramp of every enabled machine's set-point
over ModeExitRamp; one for M9 is completed at once, under the plans. R430: below rank 2 it is refused with 0x05. -/
def Obligations.ModeRequestIsAnswered : Prop :=
  (∀ (s : State) (role : Role), s.MayWrite role 2 Obj.modeRequest →
    exec (.modeRequest 0xFF role) s = .next (s.put Obj.modeRequest 0xFF)) ∧
  (∀ (s : State) (v : Byte) (role : Role), s.MayWrite role 2 Obj.modeRequest →
    v = 0 ∨ (12 ≤ v.toNat ∧ v ≠ 0xFF) →
    exec (.modeRequest v role) s = .next (s.put Obj.roaLastError 0x06)) ∧
  (∀ (s : State) (v : Byte) (role : Role), s.MayWrite role 2 Obj.modeRequest →
    1 ≤ v.toNat ∧ v.toNat ≤ 11 →
    (s.put Obj.modeRequest v.toNat).modeCode v.toNat role ≠ 0 →
    exec (.modeRequest v role) s = .next ((s.put Obj.modeRequest v.toNat).put Obj.modeRequestResult ((s.put Obj.modeRequest v.toNat).modeCode v.toNat role : Nat))) ∧
  (∀ (s : State) (v : Byte) (role : Role), s.MayWrite role 2 Obj.modeRequest →
    v = 1 ∨ v = 3 ∨ v = 4 ∨ v = 8 ∨ v = 10 ∨ v = 11 →
    (s.put Obj.modeRequest v.toNat).modeCode v.toNat role = 0 →
    ∃ t, exec (.modeRequest v role) s = .next t ∧
      t.oN Obj.modeTarget = v.toNat ∧ t.o Obj.modeRequestResult = 1 ∧ t.md.requested = true ∧
      t = { s with live := t.live, md := t.md } ∧
      ∀ k, k ∉ [Obj.modeRequest, Obj.modeRequestResult, Obj.modeTarget] → t.o k = s.o k) ∧
  (∀ (s : State) (role : Role), s.MayWrite role 2 Obj.modeRequest →
    (s.put Obj.modeRequest 2).modeCode 2 role = 0 →
    s.mode = 3 ∨ s.mode = 4 →
    s.trac.length = 4 →
    ∃ t, exec (.modeRequest 2 role) s = .next t ∧
      ∀ m ∈ s.machines, (t.tracx m).exit = some (s.oN (Obj.tracTorqueSetpoint m), s.mono, s.oN Obj.modeExitRamp) ∧
      t.mode = s.mode ∧ t.oN Obj.modeTarget = 2 ∧ t.o Obj.modeRequestResult = 1 ∧ t.md.requested = true ∧
      t.hbDrive = s.hbDrive ∧ t.active = s.active ∧ t.fc = s.fc) ∧
  (∀ (s : State) (role : Role), s.MayWrite role 2 Obj.modeRequest →
    (s.put Obj.modeRequest 9).modeCode 9 role = 0 →
    (2 ≤ s.mode ∧ s.mode ≤ 8) ∨ s.mode = 10 →
    ∃ t, exec (.modeRequest 9 role) s = .next t ∧
      t.mode = 9 ∧ t.o Obj.modeTransitionCause = 0 ∧ t.o Obj.modeRequestResult = 0 ∧ t.isl.whole = true ∧ t.sw.armed = false) ∧
  (∀ (s : State) (v : Byte) (role : Role), s.up = true →
    roleRank role < 2 →
    exec (.modeRequest v role) s = .next (s.put Obj.roaLastError 0x05))

/-- R35: MODE_TRANSITION_COMPLETE of a transition from M2 or M3 to M4, M8, M10 or M11 writes ModeState, ModeEntryTime, ModeTransitionCause and
ModeChangeCount together and sets ModeTarget to 0xFF; with none in progress it does nothing. R44: M3_STEP_TIMEOUT ends a request for M3
with an observer that has taken no step: result 4, ModeTarget 0xFF, the mode kept. -/
def Obligations.ModeCompletesAsOneRecord : Prop :=
  (∀ (s : State), s.up = true →
    s.md.requested = true →
    s.oN Obj.modeTarget = 4 ∨ s.oN Obj.modeTarget = 8 ∨ s.oN Obj.modeTarget = 10 ∨ s.oN Obj.modeTarget = 11 →
    s.mode = 2 ∨ s.mode = 3 →
    ∃ t, exec .modeTransitionComplete s = .next t ∧
      t.o Obj.modeState = s.o Obj.modeTarget ∧ t.o Obj.modeEntryTime = s.now ∧ t.o Obj.modeTransitionCause = s.md.cause ∧
      t.o Obj.modeChangeCount = satInc32 (s.o Obj.modeChangeCount) ∧ t.oN Obj.modeTarget = 0xFF ∧ t.md.requested = false) ∧
  (∀ (s : State), s.md.requested = false ∨ s.oN Obj.modeTarget = 0xFF →
    exec .modeTransitionComplete s = .next (s)) ∧
  (∀ (s : State), s.md.requested = true →
    s.oN Obj.modeTarget = 3 →
    s.md.m3Wait ≠ [] →
    ∃ t, exec .m3StepTimeout s = .next t ∧
      t.o Obj.modeRequestResult = 4 ∧ t.oN Obj.modeTarget = 0xFF ∧ t.md.requested = false ∧ t.md.m3Wait = [] ∧ t.mode = s.mode)

/-- R55: a refused FUNCTION_RESET_REQUEST leaves its code in FunctionResetResult and is counted; an accepted one, with no swap armed and not
of class 0x0B, leaves 0x01, names the request in FunctionResetLast and runs; a value of more than 24 bits is refused with 0x06. The completion
leaves 0x00, is counted and ends the reset, and changes no configuration set; with no reset running it does nothing. -/
def Obligations.FunctionResetRunsOneAtATime : Prop :=
  (∀ (s : State) (v : BitVec 32) (role : Role), s.MayWrite role 2 Obj.functionResetRequest →
    v.toNat < 16777216 →
    s.resetCode (v.toNat / 65536) (v.toNat % 65536) ≠ 0 →
    exec (.functionResetRequest v role) s = .next (((s.put Obj.functionResetResult (s.resetCode (v.toNat / 65536) (v.toNat % 65536) : Nat)).incSat Obj.functionResetRefused).log 8
      (v.toNat / 65536) (v.toNat % 65536) (s.resetCode (v.toNat / 65536) (v.toNat % 65536)) 0)) ∧
  (∀ (s : State) (v : BitVec 32) (role : Role), s.MayWrite role 2 Obj.functionResetRequest →
    v.toNat < 16777216 →
    s.resetCode (v.toNat / 65536) (v.toNat % 65536) = 0 →
    s.sw.armed = false →
    v.toNat / 65536 ≠ 11 →
    exec (.functionResetRequest v role) s = .next ({ (s.put Obj.functionResetResult 1).put Obj.functionResetLast v.toNat with md := { s.md with resetClass := v.toNat / 65536, resetInst := v.toNat % 65536 } })) ∧
  (∀ (s : State) (v : BitVec 32) (role : Role), s.MayWrite role 2 Obj.functionResetRequest →
    16777216 ≤ v.toNat →
    exec (.functionResetRequest v role) s = .next (s.put Obj.roaLastError 0x06)) ∧
  (∀ (s : State), s.md.resetClass ≠ 0 →
    s.sw.undo = none →
    ∃ t, exec .functionResetComplete s = .next t ∧
      t.o Obj.functionResetResult = 0 ∧ t.md.resetClass = 0 ∧ t.active = s.active ∧ t.shadow = s.shadow ∧
      t.o Obj.functionResetCount = satInc32 (s.o Obj.functionResetCount)) ∧
  (∀ (s : State), s.md.resetClass = 0 →
    exec .functionResetComplete s = .next (s))

/-- R57: the completion of a metering reset keeps every energy register and its residue below 1 µWh, the per-phase pages of the journal,
the record store and the record sequence, and the session that is open, so no billed energy is lost or counted twice. -/
def Obligations.MeteringResetKeepsTheEnergy : Prop :=
  ∀ (s : State), s.md.resetClass = 14 →
    ∃ t, exec .functionResetComplete s = .next t ∧
      t.o Obj.functionResetResult = 0 ∧ t.md.resetClass = 0 ∧
      ∀ k ∈ (List.range 8).map (Obj.acImport + ·) ++ [Obj.dcImport, Obj.dcExport] ++ phaseRegs, t.o k = s.o k ∧
      t.mtr.residues = s.mtr.residues ∧ t.mtr.dcImport = s.mtr.dcImport ∧ t.mtr.dcExport = s.mtr.dcExport ∧
      t.mtr.pages = s.mtr.pages ∧ t.mtr.page = s.mtr.page ∧ t.mtr.store = s.mtr.store ∧ t.mtr.unsigned = s.mtr.unsigned ∧
      t.mtr.seq = s.mtr.seq ∧ t.mtr.number = s.mtr.number ∧ t.mtr.session = s.mtr.session ∧ t.mem = s.mem

/-! ## Atomic configuration (chapter 3) -/

/-- R83: SWAP_ARM with every check met leaves SwapResult 0x01 and ShadowState 3 on every selected scope and changes neither set; a failed
check leaves its code in SwapResult; while a swap is armed it is refused with ROA code 0x10 and changes nothing. SWAP_CANCEL leaves
0x08 and SWAP_ARM_TIMEOUT 0x07, with nothing armed and both sets as they were. -/
def Obligations.SwapArmsOrIsRefused : Prop :=
  (∀ (s : State) (role : Role), s.MayWrite role 3 Obj.swapCommand →
    s.sw.armed = false →
    s.armCode = (1, none) →
    ∃ t, exec (.swapArm role) s = .next t ∧
      t.sw.armed = true ∧ t.sw.map = s.oN Obj.swapScopeMap ∧ t.sw.boundary = s.oN Obj.swapBoundary ∧ t.o Obj.swapResult = 1 ∧
      t = { s with live := t.live, sw := t.sw } ∧
      ∀ n ∈ scopesOf (s.oN Obj.swapScopeMap), t.o (Obj.shadowState n) = 3 ∧
      ∀ k, k ≠ Obj.swapResult → (∀ n ∈ scopesOf (s.oN Obj.swapScopeMap), k ≠ Obj.shadowState n) →
      (∀ n < 8, k ≠ Obj.maxOccurrencesPerTick n) → t.o k = s.o k) ∧
  (∀ (s : State) (role : Role) (c : Nat), s.MayWrite role 3 Obj.swapCommand →
    s.sw.armed = false →
    s.armCode = (c, none) →
    c ≠ 1 →
    exec (.swapArm role) s = .next ((s.put Obj.swapResult c).log 7 (s.oN Obj.swapScopeMap) 0 c 0)) ∧
  (∀ (s : State) (role : Role), s.MayWrite role 3 Obj.swapCommand →
    s.sw.armed = true →
    exec (.swapArm role) s = .next (s.put Obj.roaLastError 0x10)) ∧
  (∀ (s : State) (role : Role), s.MayWrite role 3 Obj.swapCommand →
    s.sw.armed = true →
    ∃ t, exec (.swapCancel role) s = .next t ∧
      t.sw.armed = false ∧ t.o Obj.swapResult = 8 ∧ t.active = s.active ∧ t.shadow = s.shadow ∧ t.mem = s.mem) ∧
  (∀ (s : State), s.sw.armed = true →
    ∃ t, exec .swapArmTimeout s = .next t ∧
      t.sw.armed = false ∧ t.o Obj.swapResult = 7 ∧ t.active = s.active ∧ t.shadow = s.shadow ∧ t.mem = s.mem)

/-- R84: at the boundary of an armed swap, every channel whose use it changes being at pulse-off (R31) and no earlier swap still open to an
event (R85), the active and the shadow set of every selected scope are exchanged, block bytes with them, every other value of both sets stays
where it was, nothing is armed, SwapResult is 0 and SwapEffectTime now, each selected scope's ActiveSet flips, its ShadowState is 2
and its count one more, and no pin changes. CONFIG_SWAP does so for a swap armed at an angle of its timebase. With nothing armed or
another boundary nothing happens; a channel in use makes the swap wait. R86: SHADOW_COPY_COMPLETE gives each scope with ShadowState 2 the
values of its active set in its shadow, with ShadowState 0 and the shadow's CRC that of the active set; active sets and pins stay; while
the eMRAM write supply is in fault it is held. -/
def Obligations.SwapExchangesTheSelectedScopes : Prop :=
  (∀ (s : State), s.boundaryHere = true →
    s.swapFree = true →
    s.sw.undo = none →
    ∃ t, exec .swapBoundary s = .next t ∧
      t.active = s.pickStore (fun n => s.sw.map.testBit n) s.shadow s.active ∧ t.shadow = s.pickStore (fun n => s.sw.map.testBit n) s.active s.shadow ∧
      t.mem = s.swapCells (fun n => s.sw.map.testBit n) s.mem ∧ t.sw.armed = false ∧ t.hbDrive = s.hbDrive ∧ t.lvDrive = s.lvDrive ∧ t.gsDrive = s.gsDrive ∧
      t.o Obj.swapResult = 0 ∧ t.o Obj.swapEffectTime = s.now ∧
      ∀ n < 8, s.sw.map.testBit n = true → t.oN (Obj.activeSet n) = 1 - s.oN (Obj.activeSet n) ∧ t.o (Obj.shadowState n) = 2 ∧
      t.o (Obj.swapCount n) = satInc32 (s.o (Obj.swapCount n))) ∧
  (∀ (s : State), s.boundaryHere = false →
    exec .swapBoundary s = .next (s)) ∧
  (∀ (s : State), s.boundaryHere = true →
    s.swapFree = false →
    exec .swapBoundary s = .next (s)) ∧
  (∀ (s : State) (tb : Fin 8), s.sw.armed = true →
    s.sw.boundary = 1 →
    s.sw.timebase = tb.val →
    s.swapFree = true →
    s.sw.undo = none →
    ∃ t, exec (.configSwap tb) s = .next t ∧
      t.active = s.pickStore (fun n => s.sw.map.testBit n) s.shadow s.active ∧ t.shadow = s.pickStore (fun n => s.sw.map.testBit n) s.active s.shadow ∧
      t.mem = s.swapCells (fun n => s.sw.map.testBit n) s.mem ∧ t.sw.armed = false ∧ t.hbDrive = s.hbDrive ∧ t.lvDrive = s.lvDrive ∧ t.gsDrive = s.gsDrive ∧
      t.o Obj.swapResult = 0 ∧ t.o Obj.swapEffectTime = s.now ∧
      ∀ n < 8, s.sw.map.testBit n = true → t.oN (Obj.activeSet n) = 1 - s.oN (Obj.activeSet n) ∧ t.o (Obj.shadowState n) = 2 ∧
      t.o (Obj.swapCount n) = satInc32 (s.o (Obj.swapCount n))) ∧
  (∀ (s : State) (tb : Fin 8), s.sw.armed = false ∨ s.sw.boundary ≠ 1 ∨ s.sw.timebase ≠ tb.val →
    exec (.configSwap tb) s = .next (s)) ∧
  (∀ (s : State), s.oN (Obj.vmState 9) ≠ 2 →
    s.sw.undo = none →
    ∀ n < 64, (s.slotx n).oldBank = false →
    ∃ t, exec .shadowCopyComplete s = .next t ∧
      t.shadow = s.pickStore ((List.range 8).filter (fun n => s.oN (Obj.shadowState n) == 2)).contains s.active s.shadow ∧
      t.active = s.active ∧ t.mode = s.mode ∧ t.hbDrive = s.hbDrive ∧ t.fc = s.fc ∧
      ∀ n < 8, s.oN (Obj.shadowState n) = 2 → t.o (Obj.shadowState n) = 0 ∧ t.oN (Obj.shadowCrc n) = s.oN (Obj.activeCrc n) ∧
      ∀ n < 8, s.oN (Obj.shadowState n) ≠ 2 → t.o (Obj.shadowState n) = s.o (Obj.shadowState n)) ∧
  (∀ (s : State), s.oN (Obj.vmState 9) = 2 →
    exec .shadowCopyComplete s = .next (s))

/-! ## The object dictionary (chapter 17) -/

/-- R437, R438: a write that R438 bars leaves the lowest code in RoaLastError and changes nothing else. An accepted write of an RWS object
goes to the shadow set, not to the values in force. R118: an accepted write of a group's shadow sub-index stores it and commits the
group's set. R182: an accepted user trim takes its value and changes nothing else. -/
def Obligations.WriteGoesWhereItsAccessSays : Prop :=
  (∀ (s : State) (i : BitVec 16) (sub : Byte) (v : BitVec 64) (role : Role), s.up = true →
    s.writeCode role i.toNat sub.toNat (sizeAt i.toNat sub.toNat) (dataValue i.toNat sub.toNat v.toNat) ≠ 0 →
    exec (.hostShadowWrite i sub v role) s = .next (s.put Obj.roaLastError (s.writeCode role i.toNat sub.toNat (sizeAt i.toNat sub.toNat) (dataValue i.toNat sub.toNat v.toNat) : Nat))) ∧
  (∀ (s : State) (i : BitVec 16) (sub : Byte) (v : BitVec 64) (role : Role) (o : ObjInfo), s.up = true →
    objInfo i.toNat sub.toNat = some o →
    o.row.acc.isRws = true →
    i ≠ 0x30A0 →
    s.writeCode role i.toNat sub.toNat (sizeAt i.toNat sub.toNat) (dataValue i.toNat sub.toNat v.toNat) = 0 →
    ∃ t, exec (.hostShadowWrite i sub v role) s = .next t ∧
      t.shadow = s.shadow.set (i.toNat * 256 + sub.toNat) (dataValue i.toNat sub.toNat v.toNat) ∧
      t = { s with live := t.live, shadow := t.shadow } ∧
      ∀ k, k ∉ [Obj.roaLastError, Obj.shadowCrc (s.scopeOf o), Obj.shadowState (s.scopeOf o)] → t.o k = s.o k) ∧
  (∀ (s : State) (g : Fin 24) (v : BitVec 64) (role : Role), s.up = true →
    v.toNat ≤ 63 →
    s.writeCode role (0x3180 + g.val) 9 1 v.toNat = 0 →
    ∃ t, exec (.hostShadowWrite (BitVec.ofNat 16 (0x3180 + g.val)) 9 v role) s = .next t ∧
      t.o (Obj.groupPattern g.val) = v.toNat ∧ t = { s with live := t.live, grp := t.grp } ∧
      ∀ k, k ≠ Obj.groupPattern g.val → t.o k = s.o k) ∧
  (∀ (s : State) (i : BitVec 16) (sub : Byte) (v : BitVec 32) (role : Role), s.up = true →
    trimIndex i.toNat = true →
    s.writeCode role i.toNat sub.toNat (sizeAt i.toNat sub.toNat) (dataValue i.toNat sub.toNat v.toNat) = 0 →
    ∃ t, exec (.trimWrite i sub v role) s = .next t ∧
      t.o (i.toNat * 256 + sub.toNat) = dataValue i.toNat sub.toNat v.toNat ∧
      State.OnlyObjects [i.toNat * 256 + sub.toNat, Obj.roaLastError] s t) ∧
  (∀ (s : State) (i : BitVec 16) (sub : Byte) (v : BitVec 32) (role : Role), s.up = true →
    s.writeCode role i.toNat sub.toNat (sizeAt i.toNat sub.toNat) (dataValue i.toNat sub.toNat v.toNat) ≠ 0 →
    exec (.trimWrite i sub v role) s = .next (s.put Obj.roaLastError (s.writeCode role i.toNat sub.toNat (sizeAt i.toNat sub.toNat) (dataValue i.toNat sub.toNat v.toNat) : Nat)))

/-- R443: FIRMWARE_VERIFY and FIRMWARE_INSTALL of a staged image in M2 or M10 start, with result 1 and progress 0; FIRMWARE_ACTIVATE marks the
other slot for the next pass; another mode is refused with result 5, nothing staged with result 6, a command while one runs with
0x10. R444: completion leaves the result; a good install gives the inactive slot its version, a version below the rollback floor is
result 3. -/
def Obligations.FirmwareRunsStagedImages : Prop :=
  (∀ (s : State) (role : Role), s.MayWrite role 3 Obj.firmwareCommand →
    s.roa.running = 0 →
    s.firmwareMode = true →
    s.roa.staged = true →
    exec (.firmwareVerify role) s = .next (({ s with roa := { s.roa with running := 1 } }.put Obj.firmwareResult 1).put Obj.firmwareProgress 0)) ∧
  (∀ (s : State) (role : Role), s.MayWrite role 3 Obj.firmwareCommand →
    s.roa.running = 0 →
    s.firmwareMode = true →
    s.roa.staged = true →
    exec (.firmwareInstall role) s = .next (({ s with roa := { s.roa with running := 2 } }.put Obj.firmwareResult 1).put Obj.firmwareProgress 0)) ∧
  (∀ (s : State) (role : Role), s.MayWrite role 3 Obj.firmwareCommand →
    s.roa.running = 0 →
    s.firmwareMode = true →
    exec (.firmwareActivate role) s = .next ({ s with nv := { s.nv with trial := true } }.put Obj.firmwareResult 0)) ∧
  (∀ (s : State) (role : Role), s.MayWrite role 3 Obj.firmwareCommand →
    s.roa.running = 0 →
    s.firmwareMode = false →
    exec (.firmwareInstall role) s = .next ((s.put Obj.firmwareResult 5).put Obj.roaLastError 0x13)) ∧
  (∀ (s : State) (role : Role), s.MayWrite role 3 Obj.firmwareCommand →
    s.roa.running = 0 →
    s.firmwareMode = true →
    s.roa.staged = false →
    exec (.firmwareVerify role) s = .next ((s.put Obj.firmwareResult 6).put Obj.roaLastError 0x13)) ∧
  (∀ (s : State) (role : Role), s.MayWrite role 3 Obj.firmwareCommand →
    s.roa.running ≠ 0 →
    exec (.firmwareVerify role) s = .next (s.put Obj.roaLastError 0x10)) ∧
  (∀ (s : State) (v : BitVec 32), s.roa.running = 2 →
    s.nv.rollbackFloor ≤ v.toNat →
    s.nv.slotVersion.length = 2 →
    s.nv.slotValid.length = 2 →
    s.otherSlot < 2 →
    ∃ t, exec (.firmwareCommandComplete 0 v) s = .next t ∧
      t.o Obj.firmwareResult = 0 ∧ t.oN Obj.stagedVersion = v.toNat ∧ t.o Obj.firmwareProgress = 100 ∧ t.roa.running = 0 ∧
      t.nv.slotVersion.getD s.otherSlot 0 = v.toNat ∧ t.nv.slotValid.getD s.otherSlot false = true ∧
      t.fc = s.fc) ∧
  (∀ (s : State) (v : BitVec 32), s.roa.running ≠ 0 →
    v.toNat < s.nv.rollbackFloor →
    exec (.firmwareCommandComplete 0 v) s = .next ((({ s with roa := { s.roa with running := 0 } }.put Obj.firmwareResult (3 : Nat)).put Obj.stagedVersion v.toNat).raise FC.roaFwinstall 0))

/-! ## Metering (chapter 16) -/

/-- R400, R401, R404, R405: within a cycle or window METER_SAMPLE, FREE_RUNNING_METER_SAMPLE and DC_SAMPLE take the scaled channel values
into it; no energy register changes before its end. With DC metering off a DC sample does nothing; frozen by a power fail it is not
booked. -/
def Obligations.MeterTakesItsSamples : Prop :=
  (∀ (s : State) (i : Byte) (raw : Vector (BitVec 32) 8), s.acOn = true →
    s.mtrLocked = true →
    s.o Obj.mtrState = 3 →
    0 < i.toNat ∧ i.toNat < 255 →
    s.mtr.samples.length < 127 →
    ∃ t, exec (.meterSample i raw 0) s = .next t ∧
      t.mtr.samples.map Prod.fst = ([0, 1, 2, 4, 5, 6].map (fun c => F32.ofRat (s.mtrScaled c (F32.toRat ((raw.toList.getD c 0).toNat))))) :: s.mtr.samples.map Prod.fst ∧
      t.mtr.lastTick = some s.tick ∧ t.o Obj.mtrFrequency = s.o (Obj.tbFrequency (s.oN Obj.mtrTimebase)) ∧
      t = { s with live := t.live, mtr := t.mtr } ∧
      ∀ k, k ≠ Obj.mtrFrequency → t.o k = s.o k) ∧
  (∀ (s : State) (raw : Vector (BitVec 32) 8), s.acOn = true →
    s.mtrLocked = false →
    s.o Obj.mtrState = 4 →
    s.mtr.samples.length < 127 →
    ∃ t, exec (.freeRunningMeterSample raw 0) s = .next t ∧
      t.mtr.samples.map Prod.fst = ([0, 1, 2, 4, 5, 6].map (fun c => F32.ofRat (s.mtrScaled c (F32.toRat ((raw.toList.getD c 0).toNat))))) :: s.mtr.samples.map Prod.fst ∧
      t.mtr.flags.testBit 1 = true ∧ t = { s with mtr := t.mtr }) ∧
  (∀ (s : State) (v i : BitVec 32), s.mtrRuns = true →
    s.o Obj.mtrDcEnable = 1 →
    s.mtr.dcCount < 319 →
    ∃ t, exec (.dcSample v i 0) s = .next t ∧
      t.mtr.dcCount = s.mtr.dcCount + 1 ∧ t.mtr.dcVolts = s.mtr.dcVolts + s.mtrScaled 3 (F32.toRat v.toNat) ∧
      t.mtr.dcImport - t.mtr.dcExport = s.mtr.dcImport - s.mtr.dcExport + microWh (s.mtrScaled 3 (F32.toRat v.toNat) * s.mtrScaled 7 (F32.toRat i.toNat) * mkRat 1 32000) ∧
      t = { s with mtr := t.mtr }) ∧
  (∀ (s : State) (v i : BitVec 32), s.mtrOn = true →
    s.o Obj.mtrDcEnable = 1 →
    s.mtr.frozen ≠ none →
    ∃ t, exec (.dcSample v i 0) s = .next t ∧
      t.mtr.dcImport = s.mtr.dcImport ∧ t.mtr.dcExport = s.mtr.dcExport ∧ t = { s with mtr := t.mtr }) ∧
  (∀ (s : State) (v i : BitVec 32) (full : BitVec 2), s.mtrOn = false ∨ s.oN Obj.mtrDcEnable ≠ 1 →
    exec (.dcSample v i full) s = .next (s))

/-- R410: PFAIL_N falling while metering runs freezes the registers at that device time and writes a final slot, reported by
MtrFinalWriteOk 1; mode, pins and active sets stay. Without metering, and no reset waiting for it (R68), only the pin is known low. R411: PFAIL_N
rising is only known; METER_RESUME then ends the freeze, adds the energy that MtrMaxPower could have moved in the gap to the bound of the
open interval, and raises MTR_OPENINT. -/
def Obligations.PowerFailFreezesTheMeter : Prop :=
  (∀ (s : State), s.mtrOn = true →
    s.mtr.frozen = none →
    ∃ t, exec .pfailNFall s = .next t ∧
      t.plat.pfailN = false ∧ t.mtr.frozen = some s.now ∧ t.o Obj.finalWriteTime = s.now ∧ t.o Obj.mtrFinalWriteOk = 1 ∧
      t.oN Obj.journalSequence = (s.oN Obj.journalSequence + 1) % 4294967296 ∧ t.o Obj.lastSlotTime = s.now ∧
      t.mode = s.mode ∧ t.active = s.active ∧ t.hbDrive = s.hbDrive) ∧
  (∀ (s : State), s.mtrOn = false →
    s.resetDefers = false →
    exec .pfailNFall s = .next ({ s with plat := { s.plat with pfailN := false } })) ∧
  (∀ (s : State), exec .pfailNRise s = .next ({ s with plat := { s.plat with pfailN := true } })) ∧
  (∀ (s : State) (f : Nat), s.mtr.frozen = some f →
    s.plat.pfailN = true →
    s.mtrOn = true →
    exec .meterResume s = .next (((s.mtrMod (fun m => { m with frozen := none, lastTick := none, samples := [] })).put Obj.mtrOpenBound
      ((s.oN Obj.mtrOpenBound + s.boundOver (s.now - f) : Nat))).note FC.mtrOpenint 0))

/-- R408, R558: a JOURNAL_SLOT_WRITE that leave is granted for, its supply not in fault, takes the next sequence number, writes no block but the
journal, and clears the conditions flagged since the last; PHASE_PAGE_SAVE writes the twelve per-phase registers to the page not written
last. R415: METER_INTERVAL_CLOSE starts the next interval of the open session, whose number and start readings stay. R418, R419: RECORD_SIGNED
stores the oldest waiting record, signed, under its sequence; with no session open MTR_SIGNFAIL drops it from the waiting ones and raises
its code. R421: MTR_KEY_GENERATE of 1 by a Metrologist with SEAL2 at 0 and no session open steps the key generation; another role is
refused with 0x05, with SEAL2 at 1 it is refused with 0x09. -/
def Obligations.MeterRecordsAreStoredSigned : Prop :=
  (∀ (s : State), s.mtrRuns = true →
    s.oN (Obj.vmState 9) ≠ 2 →
    (s.leaveAsk .journalSlot).2 = true →
    ∃ t, exec .journalSlotWrite s = .next t ∧
      t.oN Obj.journalSequence = (s.oN Obj.journalSequence + 1) % 4294967296 ∧ t.o Obj.lastSlotTime = s.now ∧ t.mtr = { s.mtr with flags := 0, peak := 0 } ∧
      t.active = s.active ∧ t.mode = s.mode ∧ t.fc = s.fc ∧
      ∀ a, a / 33554432 ≠ Obj.journalImage → byteAt t.mem a = byteAt s.mem a) ∧
  (∀ (s : State), s.mtrOn = true →
    exec .phasePageSave s = .next ({ s with mtr := { s.mtr with page := 1 - s.mtr.page, pages := s.mtr.pages.set (1 - s.mtr.page) (phaseRegs.map s.oN) } })) ∧
  (∀ (s : State) (x : MtrSess), s.mtrOn = true →
    s.mtr.session = some x →
    s.o Obj.mtrIntervalLength ≠ 0 →
    ∃ t y, exec .meterIntervalClose s = .next t ∧
      t.mtr.session = some y ∧ y.since = s.now / (s.oN Obj.mtrIntervalLength * 1000000000) * (s.oN Obj.mtrIntervalLength * 1000000000) ∧
      y.number = x.number ∧ y.import0 = x.import0 ∧ y.flags = 0 ∧ y.peak = 0 ∧ y.allFlags = x.allFlags ||| x.flags) ∧
  (∀ (s : State) (r : MtrRec) (rs : List MtrRec), s.mtrOn = true →
    s.mtr.unsigned = r :: rs →
    s.mtr.store.length < 2048 →
    ∃ t, exec .recordSigned s = .next t ∧
      t.mtr.unsigned = rs ∧ t.o Obj.recordNewest = r.seq ∧ t = { s with live := t.live, mtr := t.mtr } ∧
      t.mtr.store = s.mtr.store ++ [(r.seq, (r.bytes ++ Config.ecdsaSign r.keyGeneration r.bytes).map (BitVec.ofNat 8))] ∧
      ∀ k, k ∉ [Obj.recordNewest, Obj.recordOldest] → t.o k = s.o k) ∧
  (∀ (s : State) (r : MtrRec) (rs : List MtrRec), s.mtrOn = true →
    s.mtr.unsigned = r :: rs →
    s.mtr.session = none →
    exec .mtrSignfail s = .next ({ s with mtr := { s.mtr with unsigned := rs } }.raise FC.mtrSignfail 0)) ∧
  (∀ (s : State), s.up = true →
    s.sealPin 2 = false →
    s.sealPin 1 = true →
    s.mtr.session = none →
    exec (.mtrKeyGenerate 1 .metrologist) s = .next (s.put Obj.keyGeneration ((s.oN Obj.keyGeneration + 1) % 4294967296 : Nat))) ∧
  (∀ (s : State) (v : Byte) (role : Role), s.up = true →
    role ≠ .metrologist →
    exec (.mtrKeyGenerate v role) s = .next (s.put Obj.roaLastError 0x05)) ∧
  (∀ (s : State) (v : Byte), s.up = true →
    v.toNat ≤ 1 →
    s.sealPin 2 = true →
    exec (.mtrKeyGenerate v .metrologist) s = .next (s.put Obj.roaLastError 0x09))

/-! ## Gate drive (chapter 6) -/

/-- R145: GS_PAIR_READY of the pair that starts, its supply above lock-out, makes the supply ready and regulated with the voltage found and the start
time (at most 200), and no pair is starting any more; not above lock-out, nothing changes. GD_GSSTART stops the supplies of the pair that are
not ready (state 7), raises its code, gives the leave back and lets the next pair start; of another pair it does nothing. R146: an
under-voltage ends, in regulation, once the voltage is above the threshold and its hysteresis; an over-voltage ends below the target:
in regulation again, or in a counted under-voltage where the voltage has fallen below the threshold. The state of a supply gives what drives its
ball: regulated in states 2 to 4, the keeper in 6, low otherwise, and no other supply's. R158: a retry wait whose cause still holds is
waited once more by the whole domain; with the cause gone and the group asked to run, its channels wait for the re-arm at the next period
start; not asked to run, the group goes idle and does not latch. R155: in M10 a current above ServiceCurrentLimit puts the switching group at
pulse-off, clears its request and raises GD_SERVICELIMIT; outside M10 the event changes nothing. -/
def Obligations.GateSuppliesAndWaits : Prop :=
  (∀ (s : State) (n : Fin 24) (us : Nat) (v0 v1 : BitVec 32), s.up = true →
    s.gsx.busy = some n.val →
    s.gsx.queue = [] →
    s.cN (Obj.gsEnable (2 * n.val)) = 1 ∧ s.cN (Obj.gsEnable (2 * n.val + 1)) = 0 →
    s.oN (Obj.gsState (2 * n.val)) = 2 →
    s.aboveLock (2 * n.val) (F32.toRat v0.toNat) = true →
    s.gsDrive.length = 48 →
    ∃ t, exec (.gsPairReady n us v0 v1) s = .next t ∧
      t.o (Obj.gsState (2 * n.val)) = 3 ∧ t.gsDrive.getD (2 * n.val) .low = .regulated ∧ t.o (Obj.gsVoltage (2 * n.val)) = v0.toNat ∧
      t.o (Obj.gsStartTime (2 * n.val)) = min us 200 ∧ t.gsx.busy = none ∧
      t.hbDrive = s.hbDrive ∧ t.active = s.active ∧ t.mode = s.mode) ∧
  (∀ (s : State) (n : Fin 24) (us : Nat) (v0 v1 : BitVec 32), s.cN (Obj.gsEnable (2 * n.val)) = 1 →
    s.oN (Obj.gsState (2 * n.val)) = 2 →
    s.aboveLock (2 * n.val) (F32.toRat v0.toNat) = false →
    exec (.gsPairReady n us v0 v1) s = .next (s)) ∧
  (∀ (s : State) (n : Fin 24), s.up = true →
    s.gsx.busy = some n.val →
    exec (.gdGsstart n) s = .next ((((s.forAll ((s.pairSupplies n.val).filter (fun k => [1, 2].contains (s.oN (Obj.gsState k)))) (fun k => State.gsPut k 7)).raise FC.gdGsstart n.val).leaveBack
      (.gatePair (Fin.ofNat 24 n.val))).nextPair 25)) ∧
  (∀ (s : State) (n : Fin 24), s.gsx.busy ≠ some n.val →
    exec (.gdGsstart n) s = .next (s)) ∧
  (∀ (s : State) (g : Fin 48) (v : BitVec 32), s.up = true →
    s.oN (Obj.gsState g.val) = 4 →
    s.cF (Obj.gsUvloThreshold g.val) + s.cF (Obj.gsUvloHysteresis g.val) < F32.toRat v.toNat →
    exec (.gsUndervoltageEnd g v) s = .next ((s.put (Obj.gsVoltage g.val) v.toNat).gsPut g.val 3)) ∧
  (∀ (s : State) (g : Fin 48) (v : BitVec 32), F32.toRat v.toNat ≤ s.cF (Obj.gsUvloThreshold g.val) + s.cF (Obj.gsUvloHysteresis g.val) →
    exec (.gsUndervoltageEnd g v) s = .next (s)) ∧
  (∀ (s : State) (g : Fin 48) (v : BitVec 32), s.up = true →
    s.oN (Obj.gsState g.val) = 5 →
    F32.toRat v.toNat < s.cF (Obj.gsTargetVoltage g.val) →
    F32.toRat v.toNat < s.cF (Obj.gsUvloThreshold g.val) →
    exec (.gsOvervoltageEnd g v) s = .next (((((s.put (Obj.gsVoltage g.val) v.toNat).gsPut g.val 4).incSat (Obj.gsUvloCount g.val)).gsRegulate g.val).supplyEvent g.val (6 + g.val % 2))) ∧
  (∀ (s : State) (g : Fin 48) (v : BitVec 32), s.up = true →
    s.oN (Obj.gsState g.val) = 5 →
    F32.toRat v.toNat < s.cF (Obj.gsTargetVoltage g.val) →
    s.cF (Obj.gsUvloThreshold g.val) ≤ F32.toRat v.toNat →
    exec (.gsOvervoltageEnd g v) s = .next (((s.put (Obj.gsVoltage g.val) v.toNat).gsPut g.val 3).gsRegulate g.val)) ∧
  (∀ (s : State) (g : Fin 48) (v : BitVec 32), s.cF (Obj.gsTargetVoltage g.val) ≤ F32.toRat v.toNat →
    exec (.gsOvervoltageEnd g v) s = .next (s)) ∧
  (∀ (s : State) (g st : Nat), g < 48 →
    s.gsDrive.length = 48 →
    (s.gsPut g st).o (Obj.gsState g) = st ∧
      (s.gsPut g st).gsDrive.getD g .low = (if st = 2 ∨ st = 3 ∨ st = 4 then .regulated else if st = 6 then .keeper else .low) ∧
      (∀ j < 48, j ≠ g → (s.gsPut g st).gsDrive.getD j .low = s.gsDrive.getD j .low)) ∧
  (∀ (s : State) (n : Fin 24), s.up = true →
    s.oN (Obj.hbProtState n.val) = 3 →
    ∀ c ∈ s.domain n.val, s.oN (Obj.hbProtState c) ≠ 4 ∧ s.oN (Obj.hbProtState c) ≠ 5 →
    (s.domain n.val).any (fun c => (s.chx c).causes.any (s.causeHolds c)) = true →
    (s.chx n.val).secondWait = false →
    exec (.retryWaitEnd n) s = .next (s.forAll (s.domain n.val) (fun c => State.chMod c (fun x => { x with secondWait := true })))) ∧
  (∀ (s : State) (n : Fin 24) (g : Nat), s.up = true →
    s.oN (Obj.hbProtState n.val) = 3 →
    ∀ c ∈ s.domain n.val, s.oN (Obj.hbProtState c) ≠ 4 ∧ s.oN (Obj.hbProtState c) ≠ 5 →
    (s.domain n.val).any (fun c => (s.chx c).causes.any (s.causeHolds c)) = false →
    hbGroups.filter (fun g => (s.domain n.val).any (fun c => (s.cN (Obj.groupChannels g)).testBit c)) = [g] →
    s.oN (Obj.groupRunRequest g) = 1 ∧ s.modePermits g = true →
    exec (.retryWaitEnd n) s = .next (s.forAll (s.groupChannels g) (fun c => State.chMod c (fun x => { x with rearm := true, causes := [], secondWait := false })))) ∧
  (∀ (s : State) (n : Fin 24) (g : Nat), s.up = true →
    s.oN (Obj.hbProtState n.val) = 3 →
    ∀ c ∈ s.domain n.val, s.oN (Obj.hbProtState c) ≠ 4 ∧ s.oN (Obj.hbProtState c) ≠ 5 →
    (s.domain n.val).any (fun c => (s.chx c).causes.any (s.causeHolds c)) = false →
    hbGroups.filter (fun g => (s.domain n.val).any (fun c => (s.cN (Obj.groupChannels g)).testBit c)) = [g] →
    s.oN (Obj.groupRunRequest g) ≠ 1 →
    s.oN (Obj.groupState g) = 2 →
    n.val ∈ s.groupChannels g ∧ s.hbDrive.length = 24 →
    ∃ t, exec (.retryWaitEnd n) s = .next t ∧
      t.o (Obj.groupState g) = 0 ∧ t.o (Obj.hbProtState n.val) = 0 ∧ t.o (Obj.hbReaction n.val) = 0 ∧ t.drive n.val = .pulseOff) ∧
  (∀ (s : State) (n : Fin 24) (a : BitVec 32) (g : Nat), s.mode = 10 →
    s.groupOfHb n.val = some g →
    s.switching g = true →
    s.cF (Obj.serviceCurrentLimit n.val) < |F32.toRat a.toNat| →
    exec (.gdServicelimit n a) s = .next (((s.groupOff g).put (Obj.groupRunRequest g) 0).raise FC.gdServicelimit n.val)) ∧
  (∀ (s : State) (n : Fin 24) (a : BitVec 32), s.mode ≠ 10 →
    exec (.gdServicelimit n a) s = .next (s))

/-! ## Timebases and the event list (chapter 4) -/

/-- R94: no update within the time-out takes a locked timebase of a source other than the synthetic one to holdover (TB_HOLDOVER), the holdover
limit takes it to lost (TB_LOST); a timebase in another state is left as it is. R93: the limit passed without lock raises TB_LOCKFAIL; where no
mode request waits for that lock, nothing else follows, and the timebase stays acquiring. -/
def Obligations.TimebasesLoseTheirLock : Prop :=
  (∀ (s : State) (tb : Fin 8), s.up = true →
    s.o (Obj.tbLockState tb.val) = 2 →
    s.cN (Obj.tbSource tb.val) ≠ 3 →
    exec (.tbHoldover tb) s = .next ((s.tbState tb.val 3).raise FC.tbHoldover tb.val)) ∧
  (∀ (s : State) (tb : Fin 8), s.up = true →
    s.o (Obj.tbLockState tb.val) = 3 →
    exec (.tbHoldoverLimit tb) s = .next ((s.tbState tb.val 4).raise FC.tbLost tb.val)) ∧
  (∀ (s : State) (tb : Fin 8), s.up = true →
    s.o (Obj.tbLockState tb.val) = 1 →
    s.cN (Obj.tbSource tb.val) ≠ 3 →
    (s.raise FC.tbLockfail tb.val).md.requested = false →
    exec (.tbLockfail tb) s = .next (s.raise FC.tbLockfail tb.val)) ∧
  (∀ (s : State) (tb : Fin 8), s.oN (Obj.tbLockState tb.val) ≠ 2 →
    exec (.tbHoldover tb) s = .next (s)) ∧
  (∀ (s : State) (tb : Fin 8), s.oN (Obj.tbLockState tb.val) ≠ 3 →
    exec (.tbHoldoverLimit tb) s = .next (s)) ∧
  (∀ (s : State) (tb : Fin 8), s.oN (Obj.tbLockState tb.val) ≠ 1 →
    exec (.tbLockfail tb) s = .next (s)) ∧
  (∀ (s : State) (tb st : Nat), tb < 8 →
    (s.tbState tb st).o (Obj.tbLockState tb) = st ∧ (∀ j < 8, j ≠ tb → (s.tbState tb st).o (Obj.tbLockState j) = s.o (Obj.tbLockState j)) ∧ (s.tbState tb st).mem = s.mem ∧
      (s.tbState tb st).active = s.active)

/-- R106: a STAMP occurrence that takes effect writes 32 bytes (device time, angle, TbRevolutions, TbSpeed, tag, TbLockState) at place
StampCount mod 16 of the timebase's ring, the oldest, counts the stamp, and changes no other byte of memory; without Delay it takes
effect at its dispatch. -/
def Obligations.StampsGoIntoARing : Prop :=
  (∀ (s : State) (n : Nat) (o : Occ) (i : SampleIn) (j : Nat), o.action = 5 →
    n < 8 →
    memWf s.mem = true →
    (s.act n o i).o (Obj.stampCount n) = ((s.oN (Obj.stampCount n) + 1) % 4294967296 : Nat) ∧
      (∀ q < 32, byteAt (s.act n o i).mem (domAddr (Obj.stampRing n) (32 * (s.oN (Obj.stampCount n) % 16)) + q) =
      BitVec.ofNat 8 ((natBytes 8 s.now ++ natBytes 4 o.angle ++ natBytes 4 (s.oN (Obj.tbRevolutions n)) ++
      natBytes 8 (toUnsigned 64 (s.o (Obj.tbSpeed n))) ++ natBytes 4 o.arg ++ natBytes 4 (s.oN (Obj.tbLockState n))).getD q 0)) ∧
      (j < domAddr (Obj.stampRing n) (32 * (s.oN (Obj.stampCount n) % 16)) ∨ domAddr (Obj.stampRing n) (32 * (s.oN (Obj.stampCount n) % 16)) + 32 ≤ j →
      byteAt (s.act n o i).mem j = byteAt s.mem j)) ∧
  (∀ (s : State) (tb : Fin 8) (e : Byte) (angle arg : BitVec 32), s.up = true →
    s.o (Obj.tbLockState tb.val) ≠ 0 →
    s.oN (Obj.tbLockState tb.val) ≠ 0 →
    exec (.stamp tb e angle arg 0) s = .next (((s.inc32 (Obj.eventDispatchCount tb.val)).act tb.val { action := 5, target := 0, arg := arg.toNat, entry := e.toNat, angle := angle.toNat, off := 0, due := 0 } {}).streamCapture tb.val e.toNat))

/-- R193: a LAW_START without Delay of an idle slot, with no lower slot of its engine waiting or running, begins the instance with its argument and
angle, counted in SlotStartCount; of a slot still busy it is an overrun (R198), counted and raised. R99: a SAMPLE without Delay samples the
inputs of its class and mask. R118: a SHADOW_LOAD without Delay of a group that follows no pattern takes the last committed set and keeps its
time. R100: a TEST_PULSE that may be emitted drives its channel until its width has passed, and no other channel; one that may not is
counted. Each is counted as dispatched. R104: with a Delay the occurrence is kept, due that many ticks later, among at most 32; one that finds
the store full is dropped, counted late and raises TB_EVLATE. On a timebase that is off nothing is dispatched. DELAYED_OCCURRENCE_DUE
takes the occurrences of the earliest due tick out of the store and lets them act in the order of R103, merged; the others stay; with
none waiting it changes nothing. -/
def Obligations.OccurrencesActAtOnceOrWait : Prop :=
  (∀ (s : State) (tb : Fin 8) (e n : Byte) (arg angle : BitVec 32), s.engOn = true →
    s.oN (Obj.tbLockState tb.val) ≠ 0 →
    n.toNat < 64 →
    s.oN (Obj.slotState n.toNat) = 1 →
    ∀ j < 64, j / 8 = n.toNat / 8 → j < n.toNat → s.oN (Obj.slotState j) ≠ 2 ∧ s.oN (Obj.slotState j) ≠ 3 →
    s.slots.length = 64 →
    exec (.lawStart tb e n arg 0 angle) s = .next (((s.inc32 (Obj.eventDispatchCount tb.val)).startLaw n.toNat arg.toNat angle.toNat).streamCapture tb.val e.toNat)) ∧
  (∀ (s : State) (tb : Fin 8) (e n : Byte) (arg angle : BitVec 32), s.engOn = true →
    s.oN (Obj.tbLockState tb.val) ≠ 0 →
    n.toNat < 64 →
    s.oN (Obj.slotState n.toNat) = 1 →
    ∀ j < 64, j / 8 = n.toNat / 8 → j < n.toNat → s.oN (Obj.slotState j) ≠ 2 ∧ s.oN (Obj.slotState j) ≠ 3 →
    s.slots.length = 64 →
    ∃ t, exec (.lawStart tb e n arg 0 angle) s = .next t ∧
      t.o (Obj.slotState n.toNat) = 3 ∧ t.oN (Obj.slotStartCount n.toNat) = (s.oN (Obj.slotStartCount n.toNat) + 1) % 4294967296 ∧
      (t.slotx n.toNat).startArg = arg.toNat ∧ (t.slotx n.toNat).startAngle = angle.toNat ∧ (t.slotx n.toNat).startTick = s.tick) ∧
  (∀ (s : State) (tb : Fin 8) (e n : Byte) (arg angle : BitVec 32), s.engOn = true →
    s.oN (Obj.tbLockState tb.val) ≠ 0 →
    n.toNat < 64 →
    s.oN (Obj.slotState n.toNat) = 2 ∨ s.oN (Obj.slotState n.toNat) = 3 ∨ s.oN (Obj.slotState n.toNat) = 4 →
    exec (.lawStart tb e n arg 0 angle) s = .next ((((s.inc32 (Obj.eventDispatchCount tb.val)).incSat (Obj.slotOverrunCount n.toNat)).raise FC.engOverrun n.toNat).streamCapture tb.val e.toNat)) ∧
  (∀ (s : State) (tb : Fin 8) (e c : Byte) (mask : BitVec 32) (i : SampleIn), s.up = true →
    s.oN (Obj.tbLockState tb.val) ≠ 0 →
    c ≠ 0 →
    exec (.sample tb e c mask 0 i) s = .next (((s.inc32 (Obj.eventDispatchCount tb.val)).sampleClass c.toNat mask.toNat (fun n => (i.raw.toList.getD n 0).toNat)
      (fun n => (i.extra.toList.getD n 0).toNat) i.len.toNat).streamCapture tb.val e.toNat)) ∧
  (∀ (s : State) (tb : Fin 8) (e g : Byte), s.up = true →
    s.oN (Obj.tbLockState tb.val) ≠ 0 →
    g.toNat < 12 ∨ (16 ≤ g.toNat ∧ g.toNat < 24) →
    exec (.shadowLoad tb e g 0) s = .next (((s.inc32 (Obj.eventDispatchCount tb.val)).loadGroup g.toNat).streamCapture tb.val e.toNat)) ∧
  (∀ (s : State) (tb : Fin 8) (e g : Byte), s.up = true →
    s.oN (Obj.tbLockState tb.val) ≠ 0 →
    g.toNat < 12 ∨ (16 ≤ g.toNat ∧ g.toNat < 24) →
    s.cN (Obj.groupMode g.toNat) ≠ 4 →
    s.grp.length = 24 →
    ∃ t, exec (.shadowLoad tb e g 0) s = .next t ∧
      (t.grpx g.toNat).loaded = ((s.promote g.toNat).grpx g.toNat).committed ∧ (t.grpx g.toNat).fresh = false ∧
      t.o (Obj.groupLastLoadTime g.toNat) = s.now ∧ t.o (Obj.groupState g.toNat) = s.o (Obj.groupState g.toNat)) ∧
  (∀ (s : State) (tb : Fin 8) (e g : Byte) (arg : BitVec 32) (lead : BitVec 6) (c : Nat), s.up = true →
    s.oN (Obj.tbLockState tb.val) ≠ 0 →
    pulseChannel g.toNat = some c →
    (s.inc32 (Obj.eventDispatchCount tb.val)).pulseAllowed c (arg.toNat % 1048576) = true →
    s.hbDrive.length = 24 ∧ s.lvDrive.length = 16 ∧ s.chan.length = 40 →
    ∃ t, exec (.testPulse tb e g arg 0 lead) s = .next t ∧
      t.drive c = .switching ∧ (t.chx c).testPulse = some ((s.feNow - 64 + lead.toNat + arg.toNat % 1048576 + 63) / 64) ∧
      (t.chx c).sched = [(s.feNow - 64 + lead.toNat + arg.toNat % 1048576, 0)] ∧
      ∀ j < 40, j ≠ c → t.drive j = s.drive j) ∧
  (∀ (s : State) (tb : Fin 8) (e g : Byte) (arg : BitVec 32) (lead : BitVec 6) (c : Nat), s.up = true →
    s.oN (Obj.tbLockState tb.val) ≠ 0 →
    pulseChannel g.toNat = some c →
    (s.inc32 (Obj.eventDispatchCount tb.val)).pulseAllowed c (arg.toNat % 1048576) = false →
    exec (.testPulse tb e g arg 0 lead) s = .next (((s.inc32 (Obj.eventDispatchCount tb.val)).incSat (Obj.testPulseRefusedCount tb.val)).streamCapture tb.val e.toNat)) ∧
  (∀ (s : State) (tb : Fin 8) (e g : Byte) (arg : BitVec 32) (delay : BitVec 16) (lead : BitVec 6), s.up = true →
    s.oN (Obj.tbLockState tb.val) ≠ 0 →
    delay ≠ 0 →
    (s.tbx tb.val).delayed.length < 32 →
    exec (.testPulse tb e g arg delay lead) s = .next (((s.inc32 (Obj.eventDispatchCount tb.val)).tbMod tb.val (fun x => { x with delayed := x.delayed ++ [{ action := 4, target := g.toNat, arg := arg.toNat, entry := e.toNat, angle := 0, off := s.tick * 4294967296, due := s.tick + delay.toNat, lead := lead.toNat }] })).streamCapture tb.val e.toNat)) ∧
  (∀ (s : State) (tb : Fin 8) (e n : Byte) (arg angle : BitVec 32) (delay : BitVec 16), s.up = true →
    s.oN (Obj.tbLockState tb.val) ≠ 0 →
    delay ≠ 0 →
    (s.tbx tb.val).delayed.length < 32 →
    exec (.lawStart tb e n arg delay angle) s = .next (((s.inc32 (Obj.eventDispatchCount tb.val)).tbMod tb.val (fun x => { x with delayed := x.delayed ++ [{ action := 1, target := n.toNat, arg := arg.toNat, entry := e.toNat, angle := angle.toNat, off := s.tick * 4294967296, due := s.tick + delay.toNat }] })).streamCapture tb.val e.toNat)) ∧
  (∀ (s : State) (tb : Fin 8) (e c : Byte) (mask : BitVec 32) (delay : BitVec 16) (i : SampleIn), s.up = true →
    s.oN (Obj.tbLockState tb.val) ≠ 0 →
    delay ≠ 0 →
    (s.tbx tb.val).delayed.length < 32 →
    exec (.sample tb e c mask delay i) s = .next (((s.inc32 (Obj.eventDispatchCount tb.val)).tbMod tb.val (fun x => { x with delayed := x.delayed ++ [{ action := 2, target := c.toNat, arg := mask.toNat, entry := e.toNat, angle := 0, off := s.tick * 4294967296, due := s.tick + delay.toNat }] })).streamCapture tb.val e.toNat)) ∧
  (∀ (s : State) (tb : Fin 8) (e g : Byte) (delay : BitVec 16), s.up = true →
    s.oN (Obj.tbLockState tb.val) ≠ 0 →
    delay ≠ 0 →
    (s.tbx tb.val).delayed.length < 32 →
    exec (.shadowLoad tb e g delay) s = .next (((s.inc32 (Obj.eventDispatchCount tb.val)).tbMod tb.val (fun x => { x with delayed := x.delayed ++ [{ action := 3, target := g.toNat, arg := 0, entry := e.toNat, angle := 0, off := s.tick * 4294967296, due := s.tick + delay.toNat }] })).streamCapture tb.val e.toNat)) ∧
  (∀ (s : State) (tb : Fin 8) (e a : Byte) (x y : BitVec 32) (lead : BitVec 6) (delay : BitVec 16) (i : SampleIn) (c : Instr), s.up = true →
    s.oN (Obj.tbLockState tb.val) ≠ 0 →
    delay ≠ 0 →
    32 ≤ (s.tbx tb.val).delayed.length →
    c = .lawStart tb e a x delay y ∨ c = .sample tb e a x delay i ∨ c = .shadowLoad tb e a delay ∨ c = .testPulse tb e a x delay lead →
    exec c s = .next ((s.incSat (Obj.eventLateCount tb.val)).raise FC.tbEvlate tb.val)) ∧
  (∀ (s : State) (tb : Fin 8) (e a : Byte) (x y : BitVec 32) (lead : BitVec 6) (delay : BitVec 16) (i : SampleIn) (c : Instr), s.oN (Obj.tbLockState tb.val) = 0 →
    c = .lawStart tb e a x delay y ∨ c = .sample tb e a x delay i ∨ c = .shadowLoad tb e a delay ∨ c = .testPulse tb e a x delay lead →
    exec c s = .next s) ∧
  (∀ (s : State) (tb : Fin 8) (i : SampleIn) (d : Nat) (due : List Occ), s.up = true →
    ((s.tbx tb.val).delayed.map Occ.due).min? = some d →
    due = ((s.tbx tb.val).delayed.filter (fun o => o.due == d)).mergeSort (fun a b => actionRank a.action ≤ actionRank b.action) →
    exec (.delayedOccurrenceDue tb i) s = .next ((mergeOccs due [] 0).1.foldl (fun u o => u.act tb.val o i)
      ((s.tbMod tb.val (fun x => { x with delayed := x.delayed.filter (fun o => o.due != d) })).addSat (Obj.eventMergeCount tb.val) (mergeOccs due [] 0).2))) ∧
  (∀ (s : State) (tb : Fin 8) (i : SampleIn) (o : Occ) (d : Nat), s.up = true →
    ((s.tbx tb.val).delayed.map Occ.due).min? = some d →
    (s.tbx tb.val).delayed.filter (fun o => o.due == d) = [o] →
    o.action = 5 →
    s.tb.length = 8 →
    ∃ t, exec (.delayedOccurrenceDue tb i) s = .next t ∧
      (t.tbx tb.val).delayed = (s.tbx tb.val).delayed.filter (fun o => o.due != d) ∧
      t.oN (Obj.stampCount tb.val) = (s.oN (Obj.stampCount tb.val) + 1) % 4294967296) ∧
  (∀ (s : State) (tb : Fin 8) (i : SampleIn), (s.tbx tb.val).delayed = [] →
    exec (.delayedOccurrenceDue tb i) s = .next (s))

/-! ## PWM groups (chapter 5) -/

/-- R113, R160: GROUP_RUN of a group that may start stores the request, which the next period start takes, and arms the group's idle HB
channels; one that may not is refused with 0x13. GROUP_STOP of a switching carrier group only stores the request; the next period start
puts the group at pulse-off. A group that does not switch yet, or a triggered one (mode 5), goes idle with the write, which is the model's
reading (log 74). GROUP_STOP_AT_ONCE stores 2; the operation that the next tick runs on every group then puts every channel of the group at
pulse-off, and no other channel. R116: a period start that comes too soon is held back; when it comes, it is counted and raised. A period
start counts the period and marks its tick. R117: PWM_STALL stops a switching group and clears its request; of a group that does not
switch it changes nothing. R430: below rank 2 the three requests are refused with 0x05. -/
def Obligations.GroupRequestsAndPeriodStarts : Prop :=
  (∀ (s : State) (g : Fin 20) (role : Role), s.MayWrite role 2 (Obj.groupRunRequest (groupNo g.val)) →
    s.mayStart (groupNo g.val) = true →
    exec (.groupRun g role) s = .next ((s.put (Obj.groupRunRequest (groupNo g.val)) 1).forAll ((s.groupChans (groupNo g.val)).filter (fun c => c < 24 && s.oN (Obj.hbProtState c) == 0))
      (fun c => State.put (Obj.hbProtState c) 1))) ∧
  (∀ (s : State) (g : Fin 20) (role : Role), s.MayWrite role 2 (Obj.groupRunRequest (groupNo g.val)) →
    s.mayStart (groupNo g.val) = false →
    exec (.groupRun g role) s = .next (s.put Obj.roaLastError 0x13)) ∧
  (∀ (s : State) (g : Fin 20) (role : Role), s.MayWrite role 2 (Obj.groupRunRequest (groupNo g.val)) →
    s.cN (Obj.groupMode (groupNo g.val)) ≠ 5 →
    s.switching (groupNo g.val) = true →
    exec (.groupStop g role) s = .next (s.put (Obj.groupRunRequest (groupNo g.val)) 0)) ∧
  (∀ (s : State) (g : Fin 20) (role : Role), s.MayWrite role 2 (Obj.groupRunRequest (groupNo g.val)) →
    s.cN (Obj.groupMode (groupNo g.val)) = 5 ∨ s.switching (groupNo g.val) = false →
    exec (.groupStop g role) s = .next ((s.put (Obj.groupRunRequest (groupNo g.val)) 0).groupOff (groupNo g.val))) ∧
  (∀ (s : State) (g : Fin 20) (role : Role), s.MayWrite role 2 (Obj.groupRunRequest (groupNo g.val)) →
    exec (.groupStopAtOnce g role) s = .next (s.put (Obj.groupRunRequest (groupNo g.val)) 2)) ∧
  (∀ (s : State) (g : Nat) (i : PeriodIn), g < 24 →
    s.oN (Obj.groupRunRequest g) = 2 →
    s.switching g = true →
    s.hbDrive.length = 24 →
    s.lvDrive.length = 16 →
    (s.requestTick g i).o (Obj.groupState g) = 0 ∧ (∀ c ∈ s.groupChans g, (s.requestTick g i).drive c = .pulseOff) ∧
      (∀ c < 40, c ∉ s.groupChans g → (s.requestTick g i).drive c = s.drive c) ∧ (s.requestTick g i).active = s.active ∧ (s.requestTick g i).mode = s.mode) ∧
  (∀ (s : State) (g : Fin 20) (role : Role) (c : Instr), s.up = true →
    roleRank role < 2 →
    c = .groupRun g role ∨ c = .groupStop g role ∨ c = .groupStopAtOnce g role →
    exec c s = .next (s.put Obj.roaLastError 0x05)) ∧
  (∀ (s : State) (g : Fin 20) (i : PeriodIn), s.up = true →
    s.cN (Obj.groupMode (groupNo g.val)) ≠ 0 ∧ s.cN (Obj.groupMode (groupNo g.val)) ≠ 5 →
    s.oN (Obj.tbLockState (s.cN (Obj.groupTimebase (groupNo g.val)))) ≠ 0 →
    s.tooFast (groupNo g.val) = true →
    exec (.pwmPeriodStart g i) s = .next (s.grpMod (groupNo g.val) (fun x => { x with held := true }))) ∧
  (∀ (s : State) (g : Fin 20) (i : PeriodIn), s.up = true →
    s.cN (Obj.groupMode (groupNo g.val)) ≠ 0 ∧ s.cN (Obj.groupMode (groupNo g.val)) ≠ 5 →
    s.oN (Obj.tbLockState (s.cN (Obj.groupTimebase (groupNo g.val)))) ≠ 0 →
    s.tooFast (groupNo g.val) = false →
    s.switching (groupNo g.val) = false →
    s.o (Obj.groupRunRequest (groupNo g.val)) = 0 →
    (s.grpx (groupNo g.val)).held = false →
    ∀ n ∈ s.groupChannels (groupNo g.val), (s.chx n).rearm = false ∧ s.drive n = .pulseOff →
    s.bootChans (groupNo g.val) = [] →
    exec (.pwmPeriodStart g i) s = .next (((s.inc32 (Obj.groupPeriodCount (groupNo g.val))).ownShadows (groupNo g.val)).newPeriod (groupNo g.val))) ∧
  (∀ (s : State) (g : Fin 20) (i : PeriodIn), s.up = true →
    g.val < 12 →
    s.cN (Obj.groupMode g.val) ≠ 0 ∧ s.cN (Obj.groupMode g.val) ≠ 5 →
    s.oN (Obj.tbLockState (s.cN (Obj.groupTimebase g.val))) ≠ 0 →
    s.tooFast g.val = false →
    s.switching g.val = true →
    s.o (Obj.groupRunRequest g.val) = 0 →
    (s.grpx g.val).held = false →
    ∀ n ∈ s.groupChannels g.val, s.cN (Obj.vswEnable n) = 0 ∧ 4 ≤ s.cN (Obj.hbLinkInput n) →
    s.hbDrive.length = 24 ∧ s.chan.length = 40 ∧ s.grp.length = 24 →
    ∃ t, exec (.pwmPeriodStart g i) s = .next t ∧
      t.o (Obj.groupState g.val) = 0 ∧ t.oN (Obj.groupPeriodCount g.val) = (s.oN (Obj.groupPeriodCount g.val) + 1) % 4294967296 ∧
      ∀ c ∈ s.groupChans g.val, t.drive c = .pulseOff ∧
      (t.grpx g.val).startTick = some s.tick ∧ t.active = s.active ∧ t.mode = s.mode) ∧
  (∀ (s : State) (g : Fin 20) (i : PeriodIn), s.up = true →
    s.cN (Obj.groupMode (groupNo g.val)) ≠ 0 ∧ s.cN (Obj.groupMode (groupNo g.val)) ≠ 5 →
    s.oN (Obj.tbLockState (s.cN (Obj.groupTimebase (groupNo g.val)))) ≠ 0 →
    s.tooFast (groupNo g.val) = false →
    (s.grpx (groupNo g.val)).held = true →
    s.grp.length = 24 →
    ((s.incSat (Obj.groupCarrierFastCount (groupNo g.val))).raise FC.pwmCarrierfast (groupNo g.val)).tooFast (groupNo g.val) = false →
    exec (.pwmPeriodStart g i) s = .next ((((s.incSat (Obj.groupCarrierFastCount (groupNo g.val))).raise FC.pwmCarrierfast (groupNo g.val)).grpMod (groupNo g.val) (fun x => { x with held := false })).periodStart
      (groupNo g.val) i 0 s.feNow)) ∧
  (∀ (s : State) (g : Fin 20), s.up = true →
    s.switching (groupNo g.val) = true →
    1 ≤ s.cN (Obj.groupMode (groupNo g.val)) ∧ s.cN (Obj.groupMode (groupNo g.val)) ≤ 4 →
    exec (.pwmStall g) s = .next (((s.groupOff (groupNo g.val)).put (Obj.groupRunRequest (groupNo g.val)) 0).raise FC.pwmStall (groupNo g.val))) ∧
  (∀ (s : State) (g : Fin 20), s.switching (groupNo g.val) = false →
    exec (.pwmStall g) s = .next (s))

/-! ## Protection (chapter 6) -/

/-- R151, R152, R157: a protection event of a channel that switches, reacts or waits leaves every channel of its reaction domain at
pulse-off or in ASC, never at its carrier, also where the raise makes the island take control; no other HB channel begins to switch. -/
def Obligations.ProtectionEventEndsTheSwitching : Prop :=
  ∀ (s : State) (n cause : Nat), s.hbDrive.length = 24 →
    n < 24 →
    s.live_ n = true →
    (∀ c ∈ s.domain n, (s.protEvent n cause).hbDrive.getD c .pulseOff ≠ .switching) ∧
      (∀ c < 24, s.hbDrive.getD c .pulseOff ≠ .switching → (s.protEvent n cause).hbDrive.getD c .pulseOff ≠ .switching)

/-- R137: a switch that conducts, or did within the last 1024 fine edges, with an on-state voltage above its threshold shows that voltage and is a
protection event of cause 1 (upper) or 2 (lower); below the threshold, or of another switch, nothing happens. R139: the same above
half a link of at least 20 V, with causes 3 and 4; below 20 V the comparator is inhibited. R167, R140: the beginning of a fast overcurrent is
kept and counted, and is an event of cause 5 of every live channel that names the input; begun already, or inside both thresholds, it
does nothing. R146, R147: a ready supply below its threshold enters a counted under-voltage, one above its over-voltage threshold goes to state
5 with its drive low; either is an event of a live channel that uses the supply. A reading on the right side of its threshold changes
nothing. -/
def Obligations.DetectorsDeclareEvents : Prop :=
  (∀ (s : State) (n : Fin 24) (u : Bool) (v : BitVec 32), s.up = true →
    s.conductedLately n.val u = true →
    s.cF (Obj.hbDesatThreshold n.val) < F32.toRat v.toNat →
    exec (.desaturation n u v) s = .next ((s.showOn n.val v.toNat).eventWith n.val (if u then 1 else 2))) ∧
  (∀ (s : State) (n : Fin 24) (u : Bool) (v : BitVec 32), s.conductedLately n.val u = false ∨ F32.toRat v.toNat ≤ s.cF (Obj.hbDesatThreshold n.val) →
    exec (.desaturation n u v) s = .next (s)) ∧
  (∀ (s : State) (n : Nat) (u : Bool), s.conductedLately n u = true ↔ ((s.chx n).ena = true ∧ (s.chx n).pul = u) ∨
      (0 < (s.chx n).offFe ∧ s.feNow < (s.chx n).offFe + 1024 ∧ (s.chx n).offPul = u)) ∧
  (∀ (s : State) (n : Fin 24) (u : Bool) (v : BitVec 32), s.up = true →
    s.conductedLately n.val u = true →
    20 ≤ s.oF (Obj.vdcValue (s.cN (Obj.hbLinkInput n.val))) →
    s.oF (Obj.vdcValue (s.cN (Obj.hbLinkInput n.val))) / 2 < F32.toRat v.toNat →
    exec (.hardShort n u v) s = .next (s.eventWith n.val (if u then 3 else 4))) ∧
  (∀ (s : State) (n : Fin 24) (u : Bool) (v : BitVec 32), s.conductedLately n.val u = false ∨ s.oF (Obj.vdcValue (s.cN (Obj.hbLinkInput n.val))) < 20 ∨
      F32.toRat v.toNat ≤ s.oF (Obj.vdcValue (s.cN (Obj.hbLinkInput n.val))) / 2 →
    exec (.hardShort n u v) s = .next (s)) ∧
  (∀ (s : State) (n : Fin 32) (a : BitVec 32), s.sensing = true →
    s.oN (Obj.sdState n.val) = 1 →
    s.sdTripped.getD n.val false = false →
    s.cF (Obj.sdOcHigh n.val) < F32.toRat a.toNat ∨ F32.toRat a.toNat < s.cF (Obj.sdOcLow n.val) →
    exec (.fastOvercurrent n a) s = .next ((({ s with sdTripped := s.sdTripped.set n.val true }).incSat (Obj.sdOcTripCount n.val)).forAll
      ((List.range 24).filter (fun h => (({ s with sdTripped := s.sdTripped.set n.val true }).incSat (Obj.sdOcTripCount n.val)).cN (Obj.hbCurrentInput h) == n.val &&
      (({ s with sdTripped := s.sdTripped.set n.val true }).incSat (Obj.sdOcTripCount n.val)).live_ h)) (fun h => State.eventWith h 5))) ∧
  (∀ (s : State) (n : Fin 32) (a : BitVec 32), s.sdTripped.getD n.val false = true ∨ (F32.toRat a.toNat ≤ s.cF (Obj.sdOcHigh n.val) ∧ s.cF (Obj.sdOcLow n.val) ≤ F32.toRat a.toNat) →
    exec (.fastOvercurrent n a) s = .next (s)) ∧
  (∀ (s : State) (g : Fin 48) (v : BitVec 32), s.up = true →
    s.oN (Obj.gsState g.val) = 3 →
    F32.toRat v.toNat < s.cF (Obj.gsUvloThreshold g.val) →
    exec (.gsUndervoltage g v) s = .next (State.afterSupply s (g.val / 2) ((((s.put (Obj.gsVoltage g.val) v.toNat).gsPut g.val 4).incSat (Obj.gsUvloCount g.val)).supplyEvent g.val (6 + g.val % 2)))) ∧
  (∀ (s : State) (g : Fin 48) (v : BitVec 32), s.cF (Obj.gsUvloThreshold g.val) ≤ F32.toRat v.toNat →
    exec (.gsUndervoltage g v) s = .next (s)) ∧
  (∀ (s : State) (g : Fin 48) (v : BitVec 32), s.up = true →
    s.oN (Obj.gsState g.val) = 3 ∨ s.oN (Obj.gsState g.val) = 4 →
    s.cF (Obj.gsOvloThreshold g.val) < F32.toRat v.toNat →
    exec (.gsOvervoltage g v) s = .next (State.afterSupply s (g.val / 2) (((s.put (Obj.gsVoltage g.val) v.toNat).gsPut g.val 5).supplyEvent g.val (8 + g.val % 2)))) ∧
  (∀ (s : State) (g : Fin 48) (v : BitVec 32), F32.toRat v.toNat ≤ s.cF (Obj.gsOvloThreshold g.val) →
    exec (.gsOvervoltage g v) s = .next (s)) ∧
  (∀ (s : State) (g : Fin 48) (v : BitVec 32), s.up = true →
    s.oN (Obj.gsState g.val) = 3 ∨ s.oN (Obj.gsState g.val) = 4 →
    s.cF (Obj.gsOvloThreshold g.val) < F32.toRat v.toNat →
    s.live_ (g.val / 2) = false →
    s.gsDrive.length = 48 →
    ∃ t, exec (.gsOvervoltage g v) s = .next t ∧
      t.o (Obj.gsState g.val) = 5 ∧ t.gsDrive.getD g.val .regulated = .low ∧ t.o (Obj.gsVoltage g.val) = v.toNat ∧ t.hbDrive = s.hbDrive)

/-! ## Sensing (chapter 7) -/

/-- R183: SD_STUCK, SD_OUT_OF_RANGE, SDCLK_MISMATCH, VDC_IMPLAUSIBLE, VDC_FULL_SCALE, AIN_OUT_OF_WINDOW, AIN_BACK_IN_WINDOW and
LV_SENSE_AT_RAIL of an enabled input write that input's state, value or count and raise its code; R185, R186: where the converters do
not run, or the input is disabled, nothing happens. -/
def Obligations.SensingFailuresAreRaised : Prop :=
  (∀ (s : State) (n : Fin 32), s.sensing = true →
    s.oN (Obj.sdState n.val) = 1 →
    exec (.sdStuck n) s = .next ((s.put (Obj.sdState n.val) 2).raise FC.snsSdstuck n.val)) ∧
  (∀ (s : State) (n : Fin 32) (x : BitVec 32), s.sensing = true →
    s.oN (Obj.sdState n.val) = 1 →
    s.cF (Obj.sdRangeLimit n.val) < |F32.toRat x.toNat| →
    s.sdRaised.getD n.val none = none →
    exec (.sdOutOfRange n x) s = .next ({ ((s.incSat (Obj.sdRangeCount n.val)).putF (Obj.sdValue n.val) (s.sdAmps n.val (F32.toRat x.toNat))) with sdRaised := s.sdRaised.set n.val (some s.mono) }.raise
      FC.snsSdrange n.val)) ∧
  (∀ (s : State) (n : Fin 32) (x : BitVec 32) (r : Nat), s.sensing = true →
    s.oN (Obj.sdState n.val) = 1 →
    s.cF (Obj.sdRangeLimit n.val) < |F32.toRat x.toNat| →
    s.sdRaised.getD n.val none = some r →
    s.mono < r + 1000000000 →
    exec (.sdOutOfRange n x) s = .next ((s.incSat (Obj.sdRangeCount n.val)).putF (Obj.sdValue n.val) (s.sdAmps n.val (F32.toRat x.toNat)))) ∧
  (∀ (s : State) (k : Fin 4), s.sensing = true →
    (List.range 32).any (fun n => s.cN (Obj.sdEnable n) == 1 && s.cN (Obj.sdClock n) == k.val) = true →
    exec (.sdclkMismatch k) s = .next ((s.forAll ((List.range 32).filter (fun n => s.cN (Obj.sdEnable n) == 1 && s.cN (Obj.sdClock n) == k.val)) (fun n => State.put (Obj.sdState n) 3)).raise
      FC.snsSdclk k.val)) ∧
  (∀ (s : State) (h : Fin 24) (v : BitVec 32), s.sensing = true →
    s.cN (Obj.vdcEnable (s.cN (Obj.hbLinkInput h.val))) = 1 →
    s.oF (Obj.vdcValue (s.cN (Obj.hbLinkInput h.val))) + s.cF (Obj.vdcPlausibilityMargin (s.cN (Obj.hbLinkInput h.val))) / 100 *
      s.vdcScale (s.cN (Obj.hbLinkInput h.val)) < F32.toRat v.toNat →
    exec (.vdcImplausible h v) s = .next ((s.put (Obj.vdcState (s.cN (Obj.hbLinkInput h.val))) 2).raise FC.snsVdcimpl (s.cN (Obj.hbLinkInput h.val)))) ∧
  (∀ (s : State) (h : Fin 24) (v : BitVec 32), s.cN (Obj.vdcEnable (s.cN (Obj.hbLinkInput h.val))) ≠ 1 ∨ F32.toRat v.toNat ≤ s.oF (Obj.vdcValue (s.cN (Obj.hbLinkInput h.val))) +
      s.cF (Obj.vdcPlausibilityMargin (s.cN (Obj.hbLinkInput h.val))) / 100 * s.vdcScale (s.cN (Obj.hbLinkInput h.val)) →
    exec (.vdcImplausible h v) s = .next (s)) ∧
  (∀ (s : State) (n : Fin 4), s.sensing = true →
    s.cN (Obj.vdcEnable n.val) = 1 →
    exec (.vdcFullScale n) s = .next (((s.put (Obj.vdcState n.val) 3).putF (Obj.vdcValue n.val) (s.vdcScale n.val)).raise FC.snsVdcrange n.val)) ∧
  (∀ (s : State) (n : Fin 4), s.cN (Obj.vdcEnable n.val) = 0 →
    exec (.vdcFullScale n) s = .next (s)) ∧
  (∀ (s : State) (n : Fin 16) (v : BitVec 32) (u : State), s.sensing = true →
    s.cN (Obj.ainMode n.val) ≠ 0 →
    u = s.ainTake n.val (F32.toRat v.toNat) →
    u.ainValid n.val = false →
    exec (.ainOutOfWindow n v) s = .next ((u.put (Obj.ainState n.val) 2).raise FC.snsAinrange n.val)) ∧
  (∀ (s : State) (n : Fin 16) (v : BitVec 32) (u : State), s.sensing = true →
    s.cN (Obj.ainMode n.val) ≠ 0 →
    u = s.ainTake n.val (F32.toRat v.toNat) →
    u.ainValid n.val = true →
    exec (.ainBackInWindow n v) s = .next (u.put (Obj.ainState n.val) 1)) ∧
  (∀ (s : State) (n : Fin 16) (v : BitVec 32), s.cN (Obj.ainMode n.val) = 1 →
    (s.ainTake n.val (F32.toRat v.toNat)).oN (Obj.ainBallVoltage n.val) = F32.ofRat (s.ainVolts n.val (F32.toRat v.toNat))) ∧
  (∀ (s : State) (n : Fin 16) (v : BitVec 32), s.sensing = false ∨ s.cN (Obj.ainMode n.val) = 0 →
    exec (.ainOutOfWindow n v) s = .next (s)) ∧
  (∀ (s : State) (n : Fin 16) (v : BitVec 32), s.sensing = false ∨ s.cN (Obj.ainMode n.val) = 0 →
    exec (.ainBackInWindow n v) s = .next (s)) ∧
  (∀ (s : State) (n : Fin 32), s.sensing = false ∨ s.oN (Obj.sdState n.val) ≠ 1 →
    exec (.sdStuck n) s = .next (s)) ∧
  (∀ (s : State) (n : Fin 32) (x : BitVec 32), s.sensing = false ∨ s.oN (Obj.sdState n.val) ≠ 1 ∨ |F32.toRat x.toNat| ≤ s.cF (Obj.sdRangeLimit n.val) →
    exec (.sdOutOfRange n x) s = .next (s)) ∧
  (∀ (s : State) (k : Fin 4), s.sensing = false →
    exec (.sdclkMismatch k) s = .next (s)) ∧
  (∀ (s : State) (n : Fin 36), s.sensing = true →
    n.val < 16 →
    exec (.lvSenseAtRail n) s = .next (((s.put (Obj.lvSenseState n.val) (setBit (s.oN (Obj.lvSenseState n.val)) 0 : Nat)).incSat (Obj.lvSenseRangeCount n.val)).raise FC.snsLvrange n.val)) ∧
  (∀ (s : State) (n : Fin 36), s.sensing = true →
    16 ≤ n.val ∧ n.val < 32 →
    exec (.lvSenseAtRail n) s = .next (((s.put (Obj.lvSenseState (n.val - 16)) (setBit (s.oN (Obj.lvSenseState (n.val - 16))) 1 : Nat)).incSat (Obj.lvSenseRangeCount (n.val - 16))).raise FC.snsLvrange
      (n.val - 16))) ∧
  (∀ (s : State) (n : Fin 36), s.sensing = true →
    32 ≤ n.val →
    exec (.lvSenseAtRail n) s = .next ((s.incSat (Obj.voutRangeCount (n.val - 32))).raise FC.snsLvrange (n.val - 16))) ∧
  (∀ (s : State) (n : Fin 36), s.sensing = false →
    exec (.lvSenseAtRail n) s = .next (s))

/-! ## Engines (chapters 8 and 9) -/

/-- R193: a start of an idle slot with no other instance waiting or running on its engine takes the argument and the tick and runs the
instance, and changes nothing else but the slot's own parts; R198: a start while one is pending or runs is an overrun. R194, R200: an instance
that ends with its declared cycles shows its response times and busy cycles, releases its outputs and leaves the slot to the next; with another
count of cycles ENG_CYCLEMISMATCH is raised as well. R192: one that wrote a non-finite output releases nothing and freezes the
slot. R199: a deadline passed aborts the instance and is counted, and is raised when the misses in a row reach the limit. R188: an
uncorrectable word aborts it and is raised. A slot that does not run has no end and no memory error, one without an instance no deadline.
R208, R430: HANDOVER_REQUEST by rank 3 leaves 1 where nothing refuses it, with the hand-over to come, else its code; below rank 3 it is refused
with 0x05. -/
def Obligations.LawInstancesRunAbortAndHandOver : Prop :=
  (∀ (s : State) (n arg angle : Nat), s.engOn = true →
    n < 64 →
    s.slots.length = 64 →
    s.oN (Obj.slotState n) = 1 →
    ∀ j ∈ slotsOf (n / 8), s.oN (Obj.slotState j) ≠ 2 ∧ s.oN (Obj.slotState j) ≠ 3 →
    (s.lawStart n arg angle).o (Obj.slotState n) = 3 ∧
      (s.lawStart n arg angle).o (Obj.slotStartCount n) = ((s.oN (Obj.slotStartCount n) + 1) % 4294967296 : Nat) ∧
      ((s.lawStart n arg angle).slotx n).startArg = arg ∧ ((s.lawStart n arg angle).slotx n).startTick = s.tick ∧
      (s.lawStart n arg angle) = { s with live := (s.lawStart n arg angle).live, slots := (s.lawStart n arg angle).slots } ∧
      (∀ j < 64, j ≠ n → (s.lawStart n arg angle).o (Obj.slotState j) = s.o (Obj.slotState j))) ∧
  (∀ (s : State) (n arg angle : Nat), s.engOn = true →
    s.oN (Obj.slotState n) = 2 ∨ s.oN (Obj.slotState n) = 3 ∨ s.oN (Obj.slotState n) = 4 →
    s.lawStart n arg angle = (s.incSat (Obj.slotOverrunCount n)).raise FC.engOverrun n) ∧
  (∀ (s : State) (n : Fin 64) (i r : BitVec 32), s.oN (Obj.slotState n.val) ≠ 3 →
    exec (.lawInstanceEnd n i r) s = .next (s)) ∧
  (∀ (s : State) (n : Fin 64) (i : BitVec 32), s.oN (Obj.slotState n.val) ≠ 2 ∧ s.oN (Obj.slotState n.val) ≠ 3 ∧ s.oN (Obj.slotState n.val) ≠ 4 →
    exec (.slotDeadlineMiss n i) s = .next (s)) ∧
  (∀ (s : State) (n : Fin 64) (i : BitVec 32), s.oN (Obj.slotState n.val) ≠ 3 ∧ s.oN (Obj.slotState n.val) ≠ 4 →
    exec (.engMemue n i) s = .next (s)) ∧
  (∀ (s : State) (n : Fin 64) (i r : BitVec 32) (m : Run) (b : State), s.engOn = true →
    s.oN (Obj.slotState n.val) = 3 →
    m = s.runEntry n.val (s.recC n.val (Obj.slotEntry n.val)) 65536 →
    m.cpu.flag = none →
    b = (((m.s.put (Obj.slotLastResponse n.val) r.toNat).put (Obj.slotMaxResponse n.val) (max (m.s.oN (Obj.slotMaxResponse n.val)) r.toNat : Nat)).put
      (Obj.slotBusyCycles n.val) (wrap64 (m.s.oN (Obj.slotBusyCycles n.val) + i.toNat + 20) : Nat)).slotMod n.val (fun x => { x with misses := 0 }) →
    i.toNat = s.declared n.val →
    exec (.lawInstanceEnd n i r) s = .next (((b.release n.val m.cpu.out).handoverAtEnd n.val (outVal m.cpu.out 0x2C0)).schedule (n.val / 8))) ∧
  (∀ (s : State) (n : Fin 64) (i r : BitVec 32) (m : Run) (b : State), s.engOn = true →
    s.oN (Obj.slotState n.val) = 3 →
    m = s.runEntry n.val (s.recC n.val (Obj.slotEntry n.val)) 65536 →
    m.cpu.flag = none →
    b = (((m.s.put (Obj.slotLastResponse n.val) r.toNat).put (Obj.slotMaxResponse n.val) (max (m.s.oN (Obj.slotMaxResponse n.val)) r.toNat : Nat)).put
      (Obj.slotBusyCycles n.val) (wrap64 (m.s.oN (Obj.slotBusyCycles n.val) + i.toNat + 20) : Nat)).slotMod n.val (fun x => { x with misses := 0 }) →
    i.toNat ≠ s.declared n.val →
    exec (.lawInstanceEnd n i r) s = .next ((((b.raise FC.engCyclemismatch n.val).release n.val m.cpu.out).handoverAtEnd n.val (outVal m.cpu.out 0x2C0)).schedule (n.val / 8))) ∧
  (∀ (s : State) (n : Fin 64) (i r : BitVec 32) (m : Run) (b : State) (a : Nat), s.engOn = true →
    s.oN (Obj.slotState n.val) = 3 →
    m = s.runEntry n.val (s.recC n.val (Obj.slotEntry n.val)) 65536 →
    m.cpu.flag = some a →
    b = (((m.s.put (Obj.slotLastResponse n.val) r.toNat).put (Obj.slotMaxResponse n.val) (max (m.s.oN (Obj.slotMaxResponse n.val)) r.toNat : Nat)).put
      (Obj.slotBusyCycles n.val) (wrap64 (m.s.oN (Obj.slotBusyCycles n.val) + i.toNat + 20) : Nat)).slotMod n.val (fun x => { x with misses := 0 }) →
    i.toNat = s.declared n.val →
    exec (.lawInstanceEnd n i r) s = .next ((b.freeze n.val a).schedule (n.val / 8))) ∧
  (∀ (s : State) (n : Fin 64) (i : BitVec 32), s.engOn = true →
    s.oN (Obj.slotState n.val) = 2 ∨ s.oN (Obj.slotState n.val) = 3 ∨ s.oN (Obj.slotState n.val) = 4 →
    (s.abort n.val i.toNat).slots.length = 64 →
    ((s.abort n.val i.toNat).slotx n.val).misses + 1 ≠ s.recC n.val (Obj.slotDeadlineMisses n.val) →
    exec (.slotDeadlineMiss n i) s = .next (((s.abort n.val i.toNat).incSat (Obj.slotDeadlineMissCount n.val)).slotMod n.val (fun x => { x with misses := x.misses + 1 }))) ∧
  (∀ (s : State) (n : Fin 64) (i : BitVec 32), s.engOn = true →
    s.oN (Obj.slotState n.val) = 2 ∨ s.oN (Obj.slotState n.val) = 3 ∨ s.oN (Obj.slotState n.val) = 4 →
    (s.abort n.val i.toNat).slots.length = 64 →
    ((s.abort n.val i.toNat).slotx n.val).misses + 1 = s.recC n.val (Obj.slotDeadlineMisses n.val) →
    s.recC n.val (Obj.slotDeadlineMisses n.val) = (s.abort n.val i.toNat).recC n.val (Obj.slotDeadlineMisses n.val) →
    exec (.slotDeadlineMiss n i) s = .next ((((s.abort n.val i.toNat).incSat (Obj.slotDeadlineMissCount n.val)).slotMod n.val (fun x => { x with misses := x.misses + 1 })).raise FC.engDeadline n.val)) ∧
  (∀ (s : State) (n : Fin 64) (i : BitVec 32), s.engOn = true →
    s.oN (Obj.slotState n.val) = 2 →
    (s.slotx n.val).disableAtEnd = false →
    s.slots.length = 64 →
    ∀ j ∈ slotsOf (n.val / 8), j ≠ n.val → s.oN (Obj.slotState j) = 0 ∨ s.oN (Obj.slotState j) = 1 →
    ∃ t, exec (.slotDeadlineMiss n i) s = .next t ∧
      t.o (Obj.slotState n.val) = 1 ∧ (t.slotx n.val).misses = (s.slotx n.val).misses + 1 ∧ t.mem = s.mem) ∧
  (∀ (s : State) (n : Fin 64) (i : BitVec 32), s.engOn = true →
    s.oN (Obj.slotState n.val) = 3 ∨ s.oN (Obj.slotState n.val) = 4 →
    exec (.engMemue n i) s = .next ((s.abort n.val i.toNat).raise FC.engMemue n.val)) ∧
  (∀ (s : State) (e : Fin 8) (v : BitVec 16) (role : Role), s.up = true →
    3 ≤ roleRank role →
    s.handoverCode e.val (v.toNat % 256) (v.toNat / 256) = 0 →
    exec (.handoverRequest e v role) s = .next ((s.engMod e.val (fun x => { x with handover := some (8 * e.val + v.toNat % 256, 8 * e.val + v.toNat / 256) })).put (Obj.handoverResult e.val) 1)) ∧
  (∀ (s : State) (e : Fin 8) (v : BitVec 16) (role : Role), s.up = true →
    3 ≤ roleRank role →
    s.handoverCode e.val (v.toNat % 256) (v.toNat / 256) ≠ 0 →
    exec (.handoverRequest e v role) s = .next (s.put (Obj.handoverResult e.val) (s.handoverCode e.val (v.toNat % 256) (v.toNat / 256) : Nat))) ∧
  (∀ (s : State) (e : Fin 8) (v : BitVec 16) (role : Role), s.up = true →
    roleRank role < 3 →
    exec (.handoverRequest e v role) s = .next (s.put Obj.roaLastError 0x05))

/-! ## Observers (chapter 10) -/

/-- R255: an evaluated step above ObsAqrLost adds to the run and one that is not ends it; the eighth in a row raises OBS_LOST for the
observer, counts it in ObsLostCount and enters regime 7; a shorter run changes nothing but the run. -/
def Obligations.LostObserverIsDeclared : Prop :=
  (∀ (s : State) (o : Nat), o < s.obs.length →
    (s.obsx o).lostRun + 1 < 8 →
    s.obsLostRun o true = s.obsMod o (fun x => { x with lostRun := (s.obsx o).lostRun + 1 })) ∧
  (∀ (s : State) (o : Nat), o < s.obs.length →
    (s.obsx o).lostRun + 1 = 8 →
    ∃ t : State, s.obsLostRun o true = t.raise FC.obsLost o ∧ t.oN (Obj.obsRegime o) = 7 ∧ t.o (Obj.obsLostCount o) = satInc32 (s.o (Obj.obsLostCount o)) ∧
      t.fc = s.fc ∧ t.hbDrive = s.hbDrive) ∧
  (∀ (s : State) (o : Nat), o < s.obs.length →
    s.obsLostRun o false = s.obsMod o (fun x => { x with lostRun := 0 }))

/-- R240: a step of an enabled observer, on the sample of some ticks before, first abandons the tests whose channels no longer switch, then takes
the step and does what follows from it. R248: a catch check that has found a back EMF makes the observer valid; one that has not finds a
standstill, permits a reversal, and with its groups switching begins regime 2. R249: settling keeps the axis found and begins the pulses; a turn
of more than a twelfth of a revolution abandons the test of an actuator or the pump. Peaks that differ by the margin make the angle valid, turned by
half a revolution where the second is the larger; a test too close is repeated, and the third fails with OBS_POLARITY in regime 8. R250: without
injection the twelve pulses make the angle valid. R251: a start that takes too long fails the observer; after its delay an abandoned test may
start again. R256: a re-acquisition that takes too long fails the observer and its updates. R258: the stall time passed declares the
signature, counted, and OBS_STALL for a machine, OBS_LOCKED for the pump. A failure ends a request for M3 that waits for the observer. Out of
its regime or disabled an observer takes none of these. -/
def Obligations.ObserverEventsMoveTheRegime : Prop :=
  (∀ (s : State) (o : Fin 9) (a : Byte), s.obsOn o.val = true →
    exec (.observerStep o a) s = .next (((s.obsWatch.obsStep o.val a.toNat).stepFollow o.val
      (s.obsWatch.phasePredicted o.val (s.obsWatch.predicted o.val (s.obsWatch.stepIn o.val a.toNat)))))) ∧
  (∀ (s : State) (o : Fin 9) (a : Byte), s.obsOn o.val = false →
    exec (.observerStep o a) s = .next (s)) ∧
  (∀ (s : State) (o : Fin 9), s.obsOn o.val = true →
    s.oN (Obj.obsRegime o.val) = 1 →
    F32.toRat (s.obsx o.val).catchEmf < s.cF (Obj.obsCatchMinVoltage o.val) →
    (s.obsChans o.val).any (fun c => s.drive c == .switching) = false →
    exec (.catchCheckEnd o) s = .next ((s.obsMod o.val (fun x => { x with standstill := true })).put (Obj.reversalPermit o.val) 1)) ∧
  (∀ (s : State) (o : Fin 9), s.obsOn o.val = true →
    s.oN (Obj.obsRegime o.val) = 1 →
    F32.toRat (s.obsx o.val).catchEmf < s.cF (Obj.obsCatchMinVoltage o.val) →
    (s.obsChans o.val).any (fun c => s.drive c == .switching) = true →
    s.obs.length = 9 →
    ∃ t, exec (.catchCheckEnd o) s = .next t ∧
      t.oN (Obj.obsRegime o.val) = 2 ∧ t.oN (Obj.reversalPermit o.val) = 1 ∧ (t.obsx o.val).testing = true ∧ (t.obsx o.val).standstill = true) ∧
  (∀ (s : State) (o : Fin 9), s.obsOn o.val = true →
    s.oN (Obj.obsRegime o.val) = 1 →
    s.cF (Obj.obsCatchMinVoltage o.val) ≤ F32.toRat (s.obsx o.val).catchEmf →
    exec (.catchCheckEnd o) s = .next (((s.obsMod o.val (fun x => { x with standstill := false })).obsFound o.val (toUnsigned 32 (((s.obsx o.val).catchAngle.getD 0 : Int) +
      (if F32.neg (s.obsx o.val).catchFreq then 1073741824 else -1073741824))) (s.obsx o.val).catchFreq).obsPermit o.val)) ∧
  (∀ (s : State) (o a f : Nat), o < 9 →
    s.obs.length = 9 →
    (s.obsFound o a f).oN (Obj.obsValid o) = 1 ∧ ((s.obsFound o a f).obsx o).testing = false ∧ ((s.obsFound o a f).obsx o).low = a) ∧
  (∀ (s : State) (o : Fin 9), s.oN (Obj.obsRegime o.val) ≠ 1 →
    exec (.catchCheckEnd o) s = .next (s)) ∧
  (∀ (s : State) (o : Fin 9), s.obsOn o.val = true →
    s.oN (Obj.obsRegime o.val) = 2 →
    (s.obsx o.val).testing = true →
    (s.obsx o.val).pulseAt = none →
    s.cN (Obj.obsInjEnable o.val) ≠ 0 →
    o.val < 4 ∨ (s.obsx o.val).trackFrom = some (s.obsx o.val).track →
    exec (.injectionSettleEnd o) s = .next ((s.put (Obj.obsAngle o.val) (s.obsx o.val).track).obsMod o.val (fun x => { x with pulseAt := some s.mono, peaks := List.replicate 12 0 }))) ∧
  (∀ (s : State) (o : Fin 9), s.obsOn o.val = true →
    s.oN (Obj.obsRegime o.val) = 2 →
    (s.obsx o.val).testing = true →
    (s.obsx o.val).pulseAt = none →
    s.cN (Obj.obsInjEnable o.val) ≠ 0 →
    4 ≤ o.val →
    357913941 < (toSigned 32 ((s.obsx o.val).track + 4294967296 - (s.obsx o.val).trackFrom.getD (s.obsx o.val).track)).natAbs →
    s.obs.length = 9 →
    ∃ t, exec (.injectionSettleEnd o) s = .next t ∧
      (t.obsx o.val).testing = false ∧ (t.obsx o.val).abandoned = true ∧ t.live = s.live ∧ t.hbDrive = s.hbDrive) ∧
  (∀ (s : State) (o : Fin 9), s.oN (Obj.obsRegime o.val) ≠ 2 →
    exec (.injectionSettleEnd o) s = .next (s)) ∧
  (∀ (s : State) (o : Fin 9) (p0 p1 : Rat), s.obsOn o.val = true →
    s.oN (Obj.obsRegime o.val) = 2 →
    (s.obsx o.val).testing = true →
    s.cN (Obj.obsInjEnable o.val) ≠ 0 →
    p0 = F32.toRat ((s.obsx o.val).peaks.getD 0 0) →
    p1 = F32.toRat ((s.obsx o.val).peaks.getD 1 0) →
    s.cF (Obj.obsPolarityMargin o.val) / 100 * max p0 p1 ≤ |p0 - p1| →
    exec (.polarityTestEnd o) s = .next ((s.obsFound o.val (if p1 < p0 then s.oN (Obj.obsAngle o.val) else (s.oN (Obj.obsAngle o.val) + 2147483648) % 4294967296) 0).obsPermit o.val)) ∧
  (∀ (s : State) (o : Fin 9) (p0 p1 : Rat), s.obsOn o.val = true →
    s.oN (Obj.obsRegime o.val) = 2 →
    (s.obsx o.val).testing = true →
    s.cN (Obj.obsInjEnable o.val) ≠ 0 →
    p0 = F32.toRat ((s.obsx o.val).peaks.getD 0 0) →
    p1 = F32.toRat ((s.obsx o.val).peaks.getD 1 0) →
    |p0 - p1| < s.cF (Obj.obsPolarityMargin o.val) / 100 * max p0 p1 →
    (s.obsx o.val).tries < 2 →
    exec (.polarityTestEnd o) s = .next (s.obsMod o.val (fun x => { x with tries := x.tries + 1, pulseAt := some s.mono, peaks := List.replicate 12 0 }))) ∧
  (∀ (s : State) (o : Fin 9) (p0 p1 : Rat), s.obsOn o.val = true →
    s.oN (Obj.obsRegime o.val) = 2 →
    (s.obsx o.val).testing = true →
    s.cN (Obj.obsInjEnable o.val) ≠ 0 →
    p0 = F32.toRat ((s.obsx o.val).peaks.getD 0 0) →
    p1 = F32.toRat ((s.obsx o.val).peaks.getD 1 0) →
    |p0 - p1| < s.cF (Obj.obsPolarityMargin o.val) / 100 * max p0 p1 →
    2 ≤ (s.obsx o.val).tries →
    exec (.polarityTestEnd o) s = .next ((((s.obsSet o.val 8).obsMod o.val (fun x => { x with testing := false, pulseAt := none })).raise FC.obsPolarity o.val).bringUpFails o.val)) ∧
  (∀ (s : State) (o : Fin 9), s.obsOn o.val = true →
    s.oN (Obj.obsRegime o.val) = 2 →
    (s.obsx o.val).testing = true →
    s.cN (Obj.obsInjEnable o.val) = 0 →
    s.obs.length = 9 →
    ∃ t, exec (.polarityTestEnd o) s = .next t ∧
      t.oN (Obj.obsValid o.val) = 1 ∧ (t.obsx o.val).testing = false) ∧
  (∀ (s : State) (o : Fin 9), s.oN (Obj.obsRegime o.val) ≠ 2 →
    exec (.polarityTestEnd o) s = .next (s)) ∧
  (∀ (s : State) (o : Fin 9), s.obsOn o.val = true →
    s.oN (Obj.obsValid o.val) = 0 →
    s.oN (Obj.obsRegime o.val) = 1 ∨ s.oN (Obj.obsRegime o.val) = 2 →
    exec (.obsStartfail o) s = .next ((((s.obsSet o.val 8).obsMod o.val (fun x => { x with testing := false, pulseAt := none })).raise FC.obsStartfail o.val).bringUpFails o.val)) ∧
  (∀ (s : State) (o : Fin 9), s.oN (Obj.obsRegime o.val) ≠ 1 ∧ s.oN (Obj.obsRegime o.val) ≠ 2 →
    exec (.obsStartfail o) s = .next (s)) ∧
  (∀ (s : State) (o : Nat), s.bringUpFails o = if o < 4 ∧ s.md.requested = true ∧ s.oN Obj.modeTarget = 3 ∧ s.cN (Obj.tracEnable o) = 1 then s.m3Fail else s) ∧
  (∀ (s : State) (o : Fin 9), s.m3Fail.oN Obj.modeRequestResult = 4 ∧ s.m3Fail.oN Obj.modeTarget = 0xFF ∧ s.m3Fail.md.requested = false) ∧
  (∀ (s : State) (o : Fin 9), s.obsOn o.val = true →
    s.oN (Obj.obsRegime o.val) = 7 →
    exec (.obsReacqfail o) s = .next ((((s.obsSet o.val 8).put (Obj.obsValid o.val) 0).raise FC.obsReacqfail o.val).bringUpFails o.val)) ∧
  (∀ (s : State) (o : Fin 9), s.oN (Obj.obsRegime o.val) ≠ 7 →
    exec (.obsReacqfail o) s = .next (s)) ∧
  (∀ (s : State) (o : Fin 9), s.obsOn o.val = true →
    4 ≤ o.val →
    (s.obsx o.val).abandoned = true →
    s.obs.length = 9 →
    ∃ t, exec (.testRestartDelay o) s = .next t ∧
      (t.obsx o.val).abandoned = false ∧ t.live = s.live ∧ t.hbDrive = s.hbDrive ∧
      (t.obsx o.val).testing = ((s.obsChans o.val).all (fun c => s.drive c == .switching) || (s.obsx o.val).testing)) ∧
  (∀ (s : State) (o : Fin 9), (s.obsx o.val).abandoned = false →
    exec (.testRestartDelay o) s = .next (s)) ∧
  (∀ (s : State) (o : Fin 9), s.obsOn o.val = true →
    s.oN (Obj.commStallState o.val) = 1 →
    o.val < 4 →
    exec (.commStallTimeout o) s = .next (((s.put (Obj.commStallState o.val) 2).incSat (Obj.commStallCount o.val)).raise FC.obsStall o.val)) ∧
  (∀ (s : State) (o : Fin 9), s.obsOn o.val = true →
    s.oN (Obj.commStallState o.val) = 1 →
    4 ≤ o.val ∧ o.val < 8 →
    exec (.commStallTimeout o) s = .next (((s.put (Obj.commStallState o.val) 2).incSat (Obj.commStallCount o.val)).gaSignature (o.val - 4))) ∧
  (∀ (s : State) (o : Fin 9), s.obsOn o.val = true →
    s.oN (Obj.commStallState o.val) = 1 →
    o.val = 8 →
    exec (.commStallTimeout o) s = .next ((((s.put (Obj.commStallState 8) 2).incSat (Obj.commStallCount 8)).raise FC.obsLocked 8).pumpLocked)) ∧
  (∀ (s : State) (o : Fin 9), s.oN (Obj.commStallState o.val) ≠ 1 →
    exec (.commStallTimeout o) s = .next (s))

/-! ## Traction (chapter 11) -/

/-- R273: a committed plan becomes the machine's plan in the island and in its plan record, with its reason, time and count, and no other machine's; an
evaluation counts a late start, evaluates every machine in operation and keeps the links' voltages for the next; a station evaluates none.
R284: the monitor of a link with a machine takes the voltage it measures; from stage 0, 1 and 2 it rises by one at TracOv1, TracOv2 and the
effective OV3, each raising its code, OV2 running the chopper (R285) and OV3 committing the hardware's ASC; it falls by one below each level by
its hysteresis, OV2's fall stopping the chopper. With the link's voltage on the other side, or another stage, nothing but the measured
voltage changes. R286: a chopper fault makes OV2 the effective OV3 and commits ASC; a link without chopper has none. R280: the end of a zero hold for a
sensor loss raises TRC_SENSORLOSS, R282: one for a set that has another drops the set, one for a machine without another raises
TRC_OPENPHASE. R281: a window in which the test may not run only begins anew; an open phase of a three-phase machine holds its references
at zero. -/
def Obligations.SafePlansAndLinkStages : Prop :=
  (∀ (s : State) (m : Nat) (a : PlanAct) (w : Nat), m < 4 →
    s.isl.plans.length = 4 ∧ s.isl.pendingPlans.length = 4 →
    s.mode ≠ 9 →
    s.isl.held.contains (.traction m) = false →
    (s.commitPlan m a w).isl.plans.getD m none = some a ∧ (s.commitPlan m a w).o (Obj.safePlanAction m) = a.num ∧
      (s.commitPlan m a w).o (Obj.safePlanReason m) = w ∧ (s.commitPlan m a w).o (Obj.safePlanCommitTime m) = s.now ∧
      (s.commitPlan m a w).hbDrive = s.hbDrive ∧ (∀ j < 4, j ≠ m → (s.commitPlan m a w).isl.plans.getD j none = s.isl.plans.getD j none)) ∧
  (∀ (s : State), s.engOn = true →
    s.station = false →
    exec .safePlanEvaluation s = .next ({ ((s.when s.planLate (State.incSat Obj.tracPlanLate)).forAll ((List.range 4).filter s.tracOn) State.evaluatePlan) with planAt := some ((s.when s.planLate (State.incSat Obj.tracPlanLate)).forAll ((List.range 4).filter s.tracOn) State.evaluatePlan).mono, linkPrev := (List.range 4).map (fun l => some (((s.when s.planLate (State.incSat Obj.tracPlanLate)).forAll ((List.range 4).filter s.tracOn) State.evaluatePlan).oN (Obj.vdcMean l))) })) ∧
  (∀ (s : State), s.station = true →
    exec .safePlanEvaluation s = .next (s)) ∧
  (∀ (s : State) (l v : Nat), l < s.snx.vdc.length →
    (s.linkMeasured l v).linkVolts l = F32.toRat v) ∧
  (∀ (s : State) (l : Fin 4) (v : BitVec 32), s.linkOn l.val = true →
    s.oN (Obj.tracOvStage l.val) = 0 →
    s.cF (Obj.tracOv1 l.val) ≤ (s.linkMeasured l.val v.toNat).linkVolts l.val →
    exec (.linkOv1 l v) s = .next (((s.linkMeasured l.val v.toNat).put (Obj.tracOvStage l.val) 1).raise FC.trcOv1 l.val)) ∧
  (∀ (s : State) (l : Fin 4) (v : BitVec 32), s.linkOn l.val = true →
    s.oN (Obj.tracOvStage l.val) = 1 →
    s.cF (Obj.tracOv2 l.val) ≤ (s.linkMeasured l.val v.toNat).linkVolts l.val →
    exec (.linkOv2 l v) s = .next ((((s.linkMeasured l.val v.toNat).put (Obj.tracOvStage l.val) 2).chopperRun l.val).raise FC.trcOv2 l.val)) ∧
  (∀ (s : State) (l : Fin 4) (v : BitVec 32), s.linkOn l.val = true →
    s.oN (Obj.tracOvStage l.val) = 2 →
    s.oF (Obj.tracOv3Effective l.val) ≤ (s.linkMeasured l.val v.toNat).linkVolts l.val →
    exec (.linkOv3 l v) s = .next ((((s.linkMeasured l.val v.toNat).put (Obj.tracOvStage l.val) 3).hardwareAsc l.val).raise FC.trcOv3 l.val)) ∧
  (∀ (s : State) (l : Fin 4) (v : BitVec 32), s.linkOn l.val = true →
    s.oN (Obj.tracOvStage l.val) = 3 →
    (s.linkMeasured l.val v.toNat).linkVolts l.val < s.oF (Obj.tracOv3Effective l.val) - s.cF (Obj.tracOvHysteresis l.val) →
    exec (.linkBelowOv3 l v) s = .next ((s.linkMeasured l.val v.toNat).put (Obj.tracOvStage l.val) 2)) ∧
  (∀ (s : State) (l : Fin 4) (v : BitVec 32), s.linkOn l.val = true →
    s.oN (Obj.tracOvStage l.val) = 2 →
    (s.linkMeasured l.val v.toNat).linkVolts l.val < s.cF (Obj.tracOv2 l.val) - s.cF (Obj.tracOvHysteresis l.val) →
    exec (.linkBelowOv2 l v) s = .next (((s.linkMeasured l.val v.toNat).put (Obj.tracOvStage l.val) 1).chopperRest l.val)) ∧
  (∀ (s : State) (l : Fin 4) (v : BitVec 32), s.linkOn l.val = true →
    s.oN (Obj.tracOvStage l.val) = 1 →
    (s.linkMeasured l.val v.toNat).linkVolts l.val < s.cF (Obj.tracOv1 l.val) - s.cF (Obj.tracOvHysteresis l.val) →
    exec (.linkBelowOv1 l v) s = .next ((s.linkMeasured l.val v.toNat).put (Obj.tracOvStage l.val) 0)) ∧
  (∀ (s : State) (l : Fin 4) (v : BitVec 32), s.oN (Obj.tracOvStage l.val) ≠ 0 →
    exec (.linkOv1 l v) s = .next (s.linkMeasured l.val v.toNat)) ∧
  (∀ (s : State) (l : Fin 4) (v : BitVec 32), (s.linkMeasured l.val v.toNat).linkVolts l.val < s.cF (Obj.tracOv1 l.val) →
    exec (.linkOv1 l v) s = .next ((s.linkMeasured l.val v.toNat))) ∧
  (∀ (s : State) (l : Fin 4) (v : BitVec 32), s.oN (Obj.tracOvStage l.val) ≠ 0 →
    s.oN (Obj.tracOvStage l.val) ≠ 1 →
    exec (.linkOv2 l v) s = .next ((s.linkMeasured l.val v.toNat))) ∧
  (∀ (s : State) (l : Fin 4) (v : BitVec 32), s.oN (Obj.tracOvStage l.val) = 3 →
    exec (.linkOv3 l v) s = .next ((s.linkMeasured l.val v.toNat))) ∧
  (∀ (s : State) (l : Fin 4) (v : BitVec 32), s.oN (Obj.tracOvStage l.val) = 0 →
    exec (.linkBelowOv1 l v) s = .next (s.linkMeasured l.val v.toNat)) ∧
  (∀ (s : State) (l : Fin 4) (v : BitVec 32), s.oN (Obj.tracOvStage l.val) = 0 →
    exec (.linkBelowOv2 l v) s = .next (s.linkMeasured l.val v.toNat)) ∧
  (∀ (s : State) (l : Fin 4) (v : BitVec 32), s.oN (Obj.tracOvStage l.val) = 0 →
    exec (.linkBelowOv3 l v) s = .next (s.linkMeasured l.val v.toNat)) ∧
  (∀ (s : State) (l : Fin 4), s.linkOn l.val = true →
    s.oN (Obj.tracChopperAvailable l.val) = 1 →
    exec (.trcChopper l) s = .next ((((s.put (Obj.tracChopperAvailable l.val) 0).put (Obj.tracOv3Effective l.val) (s.c (Obj.tracOv2 l.val))).hardwareAsc l.val).raise FC.trcChopper l.val)) ∧
  (∀ (s : State) (l : Fin 4), s.oN (Obj.tracChopperAvailable l.val) ≠ 1 →
    exec (.trcChopper l) s = .next (s)) ∧
  (∀ (s : State) (m : Fin 4) (k : Nat), s.tracOn m.val = true →
    (s.tracx m.val).zeroHold = some (0, k) →
    exec (.zeroHoldEnd m) s = .next (s.raise FC.trcSensorloss m.val)) ∧
  (∀ (s : State) (m : Fin 4) (k : Nat), s.tracOn m.val = true →
    (s.tracx m.val).zeroHold = some (1, k) →
    exec (.zeroHoldEnd m) s = .next ((s.tracMod m.val (fun x => { x with zeroHold := none })).dropSet m.val k)) ∧
  (∀ (s : State) (m : Fin 4) (k : Nat), s.tracOn m.val = true →
    (s.tracx m.val).zeroHold = some (2, k) →
    exec (.zeroHoldEnd m) s = .next (s.raise FC.trcOpenphase m.val)) ∧
  (∀ (s : State) (m : Fin 4), (s.tracx m.val).zeroHold = none →
    exec (.zeroHoldEnd m) s = .next (s)) ∧
  (∀ (s : State) (m : Fin 4), (s.tracx m.val).faint = true ∨ (s.tracx m.val).steps = 0 ∨ (s.tracx m.val).sumFired = true →
    exec (.openPhaseWindowEnd m) s = .next (s.rmsBegin m.val)) ∧
  (∀ (s : State) (m : Fin 4), m.val < s.trac.length →
    ((s.rmsBegin m.val).tracx m.val).steps = 0 ∧ ((s.rmsBegin m.val).tracx m.val).faint = false ∧ ((s.rmsBegin m.val).tracx m.val).sumFired = false ∧
      (s.rmsBegin m.val).live = s.live) ∧
  (∀ (s : State) (m : Fin 4), s.tracOn m.val = true →
    (s.tracx m.val).sumFired = false ∧ (s.tracx m.val).faint = false ∧ 0 < (s.tracx m.val).steps →
    s.cN (Obj.obsPhaseCount m.val) = 3 →
    s.oN (Obj.tracDroppedSet m.val) = 0xFF →
    s.openIn m.val 0 = true →
    exec (.openPhaseWindowEnd m) s = .next ((s.rmsBegin m.val).tracMod m.val (fun x => { x with zeroHold := some (2, 0) })))

/-! ## Winding connection and charge phases (chapter 12) -/

/-- R297: STAR_CONTACTOR_CONFIRMED goes on to the window; GRID_WINDOW_HELD shows the voltage and energises the grid output where it lies in the
window with the timebase locked and the link high enough, else it only shows it; GRID_CONTACTOR_CONFIRMED asks the groups to run, in state 4 with
a metering session; a contactor not confirmed ends the sequence in state 0 with every output opened and raises WC_CONTACTOR. WC_LINKLOW ends
function and request, raises, and ends the session. R301: a trip of a cause 1 to 9 (7 only in export) zeroes the references, stops the groups at
once, opens the grid output, enters state 6, counts, and raises WC_GRIDTRIP; the one that fills WcTripMax within its window opens every
output, raises WC_TRIPLATCH and latches. The delay over, with the voltage in the window, the sequence repeats from its connection with the
reconnect ramp; latched or out of the window it does not. R298: a reference update before the power flows only shows power, voltage
and frequency. R308: battery loss while charging at more than the least current stops the converter in state 7 with CP0 ended, no
reference and the time kept. In another state a command of the sequence changes nothing. -/
def Obligations.WindingConnectionSequence : Prop :=
  (∀ (s : State), s.wcOn = true →
    s.oN Obj.wcTopology = 1 →
    s.oN Obj.wcState = 1 →
    exec (.starContactorConfirmed true) s = .next (s.put Obj.wcState 2)) ∧
  (∀ (s : State), s.wcOn = true →
    s.oN Obj.wcTopology = 1 →
    s.oN Obj.wcState = 1 →
    exec (.starContactorConfirmed false) s = .next (((s.wcGroupsOff.wcZero.wcOpenAll).put Obj.wcState 0).raise FC.wcContactor 0)) ∧
  (∀ (s : State) (ok : Bool), s.oN Obj.wcState ≠ 1 →
    exec (.starContactorConfirmed ok) s = .next (s)) ∧
  (∀ (s : State) (v : BitVec 32), s.wcOn = true →
    s.oN Obj.wcTopology = 1 →
    s.oN Obj.wcState = 2 →
    (s.put Obj.wcGridVoltage v.toNat).wcInWindow v.toNat = true →
    (s.put Obj.wcGridVoltage v.toNat).wcLocked = true →
    (s.put Obj.wcGridVoltage v.toNat).wcLinkOk = true →
    exec (.gridWindowHeld v) s = .next (((s.put Obj.wcGridVoltage v.toNat).soRequest (s.cN Obj.wcGridContactor)).put Obj.wcState 3)) ∧
  (∀ (s : State) (v : BitVec 32), s.wcOn = true →
    s.oN Obj.wcTopology = 1 →
    s.oN Obj.wcState = 2 →
    (s.put Obj.wcGridVoltage v.toNat).wcInWindow v.toNat = false ∨ (s.put Obj.wcGridVoltage v.toNat).wcLocked = false ∨ (s.put Obj.wcGridVoltage v.toNat).wcLinkOk = false →
    exec (.gridWindowHeld v) s = .next (s.put Obj.wcGridVoltage v.toNat)) ∧
  (∀ (s : State) (v : BitVec 32), s.oN Obj.wcState ≠ 2 →
    exec (.gridWindowHeld v) s = .next (s)) ∧
  (∀ (s : State), s.wcOn = true →
    s.oN Obj.wcTopology = 1 →
    s.oN Obj.wcState = 3 →
    exec (.gridContactorConfirmed false) s = .next (((s.wcGroupsOff.wcZero.wcOpenAll).put Obj.wcState 0).raise FC.wcContactor 0)) ∧
  (∀ (s : State), s.wcOn = true →
    s.oN Obj.wcTopology = 1 →
    s.oN Obj.wcState = 3 →
    (s.cpx 0).session = true →
    exec (.gridContactorConfirmed true) s = .next (((s.forAll s.wcGroups (fun g => State.put (Obj.groupRunRequest g) 1)).put Obj.wcState 4).mtrOpen 1 (s.oN Obj.lkSessionId))) ∧
  (∀ (s : State) (ok : Bool), s.oN Obj.wcState ≠ 3 →
    exec (.gridContactorConfirmed ok) s = .next (s)) ∧
  (∀ (s : State), s.wcOn = true →
    s.oN Obj.wcTopology = 1 →
    s.oN Obj.wcState = 2 ∨ s.oN Obj.wcState = 6 →
    exec .wcLinklow s = .next (((s.wcEnd.requestEnds 5 4).raise FC.wcLinklow 0).sessionEnd FC.wcLinklow)) ∧
  (∀ (s : State), s.oN Obj.wcState ≠ 2 ∧ s.oN Obj.wcState ≠ 6 →
    exec .wcLinklow s = .next (s)) ∧
  (∀ (s : State) (v p : BitVec 32), s.wcOn = true →
    s.oN Obj.wcTopology = 1 →
    s.oN Obj.wcState = 2 →
    4 ≤ s.cN Obj.wcParkLockActuator →
    exec (.wcReferenceUpdate v p) s = .next ((((s.put Obj.wcExportAvailable (if s.wcExportOk then 1 else 0)).put Obj.wcPower p.toNat).put Obj.wcGridFrequency (s.o (Obj.tbFrequency (s.cN Obj.wcGridTimebase)))).put
      Obj.wcGridVoltage v.toNat)) ∧
  (∀ (s : State) (v p : BitVec 32), s.wcOn = false →
    exec (.wcReferenceUpdate v p) s = .next (s.put Obj.wcExportAvailable 0)) ∧
  (∀ (s : State) (c : BitVec 4) (u : State), s.wcOn = true →
    s.oN Obj.wcTopology = 1 →
    s.oN Obj.wcState = 3 ∨ s.oN Obj.wcState = 4 ∨ s.oN Obj.wcState = 5 →
    1 ≤ c.toNat ∧ c.toNat ≤ 9 →
    c = 7 → s.oF Obj.wcPowerSetpoint < 0 →
    s.wcTripsNow.length + 1 < s.cN Obj.wcTripMax →
    u = s.wcZero.wcGroupsOff.soRelease (s.cN Obj.wcGridContactor) →
    u.cN Obj.wcTripMax = s.cN Obj.wcTripMax →
    exec (.wcGridtrip c) s = .next ({ (((u.put Obj.wcState 6).put Obj.wcTripCause c.toNat).incSat Obj.wcTripCount).put Obj.wcReconnectRemaining (u.cN Obj.wcReconnectDelay : Nat) with wc := { u.wc with trips := s.wcTripsNow ++ [s.mono] } }.raise FC.wcGridtrip 0)) ∧
  (∀ (s : State) (c : BitVec 4) (u y : State), s.wcOn = true →
    s.oN Obj.wcTopology = 1 →
    s.oN Obj.wcState = 3 ∨ s.oN Obj.wcState = 4 ∨ s.oN Obj.wcState = 5 →
    1 ≤ c.toNat ∧ c.toNat ≤ 9 →
    c = 7 → s.oF Obj.wcPowerSetpoint < 0 →
    s.cN Obj.wcTripMax ≤ s.wcTripsNow.length + 1 →
    u = s.wcZero.wcGroupsOff.soRelease (s.cN Obj.wcGridContactor) →
    u.cN Obj.wcTripMax = s.cN Obj.wcTripMax →
    y = { (((u.put Obj.wcState 6).put Obj.wcTripCause c.toNat).incSat Obj.wcTripCount).put Obj.wcReconnectRemaining (u.cN Obj.wcReconnectDelay : Nat) with wc := { u.wc with trips := s.wcTripsNow ++ [s.mono] } }.wcOpenAll.raise FC.wcTriplatch 0 →
    exec (.wcGridtrip c) s = .next ({ y with wc := { y.wc with latched := true, trips := [] } })) ∧
  (∀ (s : State) (c : BitVec 4), s.oN Obj.wcState ≠ 3 ∧ s.oN Obj.wcState ≠ 4 ∧ s.oN Obj.wcState ≠ 5 →
    exec (.wcGridtrip c) s = .next (s)) ∧
  (∀ (s : State) (v : BitVec 32) (u : State), s.wcOn = true →
    s.oN Obj.wcTopology = 1 →
    s.oN Obj.wcState = 6 →
    s.wc.latched = false →
    s.wcInWindow v.toNat = true →
    u = { s.put Obj.wcReconnectRemaining 0 with wc := { s.wc with reconnect := true } } →
    exec (.reconnectDelayEnd v) s = .next (u.wcConnect v.toNat)) ∧
  (∀ (s : State) (n : Nat), s.wcConnect n = if (s.put Obj.wcGridVoltage n).wcInWindow n = true ∧ (s.put Obj.wcGridVoltage n).wcLocked = true ∧ (s.put Obj.wcGridVoltage n).wcLinkOk = true then
      ((s.put Obj.wcGridVoltage n).soRequest (s.cN Obj.wcGridContactor)).put Obj.wcState 3 else s.put Obj.wcGridVoltage n) ∧
  (∀ (s : State) (v : BitVec 32), s.oN Obj.wcState ≠ 6 ∨ s.wc.latched = true ∨ s.wcInWindow v.toNat = false →
    exec (.reconnectDelayEnd v) s = .next (s)) ∧
  (∀ (s : State), s.lossWatched = true →
    s.wcGroups = [] →
    s.mode = 5 →
    8 ≤ s.cN Obj.wcGridContactor →
    ∃ t, exec .wcBattloss s = .next t ∧
      t.oN Obj.wcState = 7 ∧ t.oN Obj.wcLossTime = s.now ∧ t.o (Obj.cpCurrentRef 0) = 0 ∧ t.oN (Obj.cpPhase 0) = 8 ∧ t.o Obj.wcPowerSetpoint = 0 ∧
      t.active = s.active) ∧
  (∀ (s : State), s.lossWatched = false →
    s.oN Obj.wcState ≠ 7 →
    exec .wcBattloss s = .next (s))

/-- R303: CP_EVALUATION_END chooses phase 2, 3 or 4 from the mean voltage, and a battery within the recharge drop of its target ends with cause 1; the
taper ends phase 5 with cause 1 once the current is at or below CpTermCurrent. R305: a phase whose count has reached its limit ends with cause
4 and CP_TIMER. R306: limits lost for CpLimitTimeout end CP0 with cause 5 and CP_LIMITLOSS. An ended phase has no reference current. In
another phase, above the current, within the count or with the limits there, nothing happens. The update of a phase that is disabled does
nothing; that of one enabled is the law of R302 to R306 (for CP0 without its CV loop while Tandem is in control, and with what a full battery
does at the link). -/
def Obligations.ChargePhasesEnd : Prop :=
  (∀ (s : State) (c : Fin 2) (v : BitVec 32), s.engOn = true →
    s.station = false →
    s.oN (Obj.cpPhase c.val) = 1 →
    F32.toRat v.toNat < s.cF (Obj.cpTrickleVoltage c.val) →
    exec (.cpEvaluationEnd c v) s = .next (s.put (Obj.cpPhase c.val) 2)) ∧
  (∀ (s : State) (c : Fin 2) (v : BitVec 32), s.engOn = true →
    s.station = false →
    s.oN (Obj.cpPhase c.val) = 1 →
    s.cF (Obj.cpTrickleVoltage c.val) ≤ F32.toRat v.toNat →
    F32.toRat v.toNat < s.cF (Obj.cpPrechargeVoltage c.val) →
    exec (.cpEvaluationEnd c v) s = .next (s.put (Obj.cpPhase c.val) 3)) ∧
  (∀ (s : State) (c : Fin 2) (v : BitVec 32), s.engOn = true →
    s.station = false →
    s.oN (Obj.cpPhase c.val) = 1 →
    s.cF (Obj.cpTrickleVoltage c.val) ≤ F32.toRat v.toNat →
    s.cF (Obj.cpPrechargeVoltage c.val) ≤ F32.toRat v.toNat →
    F32.toRat v.toNat < s.cpCvEff c.val - s.cF (Obj.cpRechargeDrop c.val) →
    exec (.cpEvaluationEnd c v) s = .next (s.put (Obj.cpPhase c.val) 4)) ∧
  (∀ (s : State) (c : Fin 2) (v : BitVec 32), s.engOn = true →
    s.station = false →
    s.oN (Obj.cpPhase c.val) = 1 →
    s.cF (Obj.cpTrickleVoltage c.val) ≤ F32.toRat v.toNat →
    s.cF (Obj.cpPrechargeVoltage c.val) ≤ F32.toRat v.toNat →
    s.cpCvEff c.val - s.cF (Obj.cpRechargeDrop c.val) ≤ F32.toRat v.toNat →
    exec (.cpEvaluationEnd c v) s = .next (s.cpEndPhase c.val 6 1)) ∧
  (∀ (s : State) (c : Fin 2) (v : BitVec 32), s.oN (Obj.cpPhase c.val) ≠ 1 →
    exec (.cpEvaluationEnd c v) s = .next (s)) ∧
  (∀ (s : State) (c : Fin 2), s.engOn = true →
    s.station = false →
    s.oN (Obj.cpPhase c.val) = 5 →
    |s.oF (Obj.cpBatteryCurrent c.val)| ≤ s.cF (Obj.cpTermCurrent c.val) →
    exec (.cpTaperEnd c) s = .next (s.cpEndPhase c.val 6 1)) ∧
  (∀ (s : State) (c : Fin 2), s.oN (Obj.cpPhase c.val) ≠ 5 ∨ s.cF (Obj.cpTermCurrent c.val) < |s.oF (Obj.cpBatteryCurrent c.val)| →
    exec (.cpTaperEnd c) s = .next (s)) ∧
  (∀ (s : State) (c : Fin 2), s.engOn = true →
    s.station = false →
    s.cpExpired c.val = true →
    exec (.cpTimer c) s = .next ((s.cpEndPhase c.val 8 4).raise FC.cpTimer c.val)) ∧
  (∀ (s : State) (c : Fin 2), s.cpExpired c.val = false →
    exec (.cpTimer c) s = .next (s)) ∧
  (∀ (s : State), s.engOn = true →
    s.station = false →
    (s.cpx 0).limitSub = true →
    1 ≤ s.oN (Obj.cpPhase 0) ∧ s.oN (Obj.cpPhase 0) ≤ 7 →
    exec .cpLimitloss s = .next ((s.cpEndPhase 0 8 5).raise FC.cpLimitloss 0)) ∧
  (∀ (s : State), (s.cpx 0).limitSub = false →
    exec .cpLimitloss s = .next (s)) ∧
  (∀ (s : State) (c p e : Nat), (s.cpEndPhase c p e).o (Obj.cpCurrentRef c) = 0 ∧ (c < 2 → (s.cpEndPhase c p e).o (Obj.cpTermCause c) = e ∧ (s.cpEndPhase c p e).o (Obj.cpPhase c) = p)) ∧
  (∀ (s : State) (c : Fin 2), s.engOn = true →
    s.station = false →
    s.cN (Obj.cpEnable c.val) = 0 →
    exec (.chargePhaseUpdate c) s = .next (if c = 0 then s.lkCharged else s)) ∧
  (∀ (s : State) (c : Fin 2), s.engOn = true →
    s.station = false →
    s.cN (Obj.cpEnable c.val) = 1 →
    c = 0 →
    exec (.chargePhaseUpdate c) s = .next ((s.cpUpdate 0 (s.converterK 0) (s.exports 0) (s.oN Obj.tdState == 4)).lkCharged)) ∧
  (∀ (s : State) (c : Fin 2), s.engOn = true →
    s.station = false →
    s.cN (Obj.cpEnable c.val) = 1 →
    c ≠ 0 →
    exec (.chargePhaseUpdate c) s = .next (s.cpUpdate c.val (s.converterK c.val) (s.exports c.val) false))

/-! ## The low-voltage converter (chapter 13) -/

/-- R325: LV_RUN with the link at LvHvMin takes a resting converter to state 1; with the link below it, or a converter under way, it stores the request
only; in the station it is refused with 0x0C. LV_STOP clears the request and leaves state 0. The end of the soft start takes the measured output as
base and target in state 2, runs the buck groups that may start and joins the phases. A converter asked to run that has not become ready fails with
LV_STARTFAIL in state 6. R314, R322: an isolation fault (the bus off its ratio) and an over-voltage (above 1.10 × V_ref) stop it in state 6 with
reference 0 and raise. R319: LV_FOLDBACK raises while the fold-back factor is below 1. R320: burst sleep needs state 3, the burst decision
and V_cmp in the band, wake V_out at V_ref. R321: shedding takes the highest of more than two active phases out of the rotation, the mean
current low. R322: load release is entered, counted, from states 2 to 4 above its level, and ends below 1.01 × V_ref. R328: the battery's
signature in state 1 of it releases the load, leaves LvAuxState 2 and raises; LV_AUX_REARM makes it 1 again. With the reading on the other
side, or in another state, nothing happens. -/
def Obligations.ConverterStatesAndStops : Prop :=
  (∀ (s : State) (role : Role), s.MayWrite role 2 Obj.lvRunRequest →
    s.station = false →
    s.lvOn = true →
    s.oN Obj.lvState = 0 ∨ s.oN Obj.lvState = 6 →
    s.cF Obj.lvHvMin ≤ s.oF (Obj.vdcMean (s.cN Obj.lvHvInput)) →
    s.lvIsoGroups = [] →
    ∃ t, exec (.lvRun role) s = .next t ∧
      t.oN Obj.lvState = 1 ∧ t.oN Obj.lvRunRequest = 1 ∧ t.lv.isoTick = s.tick ∧
      t.active = s.active ∧ t.lvDrive = s.lvDrive) ∧
  (∀ (s : State) (role : Role), s.MayWrite role 2 Obj.lvRunRequest →
    s.station = false →
    s.oF (Obj.vdcMean (s.cN Obj.lvHvInput)) < s.cF Obj.lvHvMin ∨ (s.oN Obj.lvState ≠ 0 ∧ s.oN Obj.lvState ≠ 6) →
    exec (.lvRun role) s = .next (s.put Obj.lvRunRequest 1)) ∧
  (∀ (s : State) (role : Role), s.MayWrite role 2 Obj.lvRunRequest →
    s.station = true →
    exec (.lvRun role) s = .next (s.put Obj.roaLastError 0x0C)) ∧
  (∀ (s : State) (role : Role), s.MayWrite role 2 Obj.lvRunRequest →
    s.station = false →
    s.oN Obj.lvState = 6 →
    exec (.lvStop role) s = .next ((s.put Obj.lvRunRequest 0).put Obj.lvState 0)) ∧
  (∀ (s : State) (role : Role), s.MayWrite role 2 Obj.lvRunRequest →
    s.station = false →
    1 ≤ s.oN Obj.lvState ∧ s.oN Obj.lvState ≤ 5 →
    ∃ t, exec (.lvStop role) s = .next t ∧
      t.oN Obj.lvState = 0 ∧ t.oN Obj.lvRunRequest = 0 ∧
      t.active = s.active ∧ t.fc = s.fc ∧ t.gsDrive = s.gsDrive) ∧
  (∀ (s : State) (v : BitVec 32) (u w : State), s.lvOn = true →
    s.oN Obj.lvState = 1 →
    u = ((s.put Obj.lvState 2).lvMod (fun x => { x with base := v.toNat, baseTick := s.tick, target := v.toNat, hold := false })).lvIsoShadow →
    w = u.forAll u.lvBuckGroups (fun g t => if t.mayStart g then (t.put (Obj.groupRunRequest g) 1).startGroup g 0 t.feNow else t) →
    exec (.lvIsoSoftStartEnd v) s = .next ((w.forAll w.lvSpare (State.lvJoin false)).lvFollow)) ∧
  (∀ (s : State) (v : BitVec 32), s.oN Obj.lvState ≠ 1 →
    exec (.lvIsoSoftStartEnd v) s = .next (s)) ∧
  (∀ (s : State), s.lvOn = true →
    2 ≤ s.oN Obj.lvState ∧ s.oN Obj.lvState ≤ 5 →
    s.isoOff = true →
    exec .lvIsofault s = .next ((s.lvHalt 6).raise FC.lvIsofault 0)) ∧
  (∀ (s : State), s.isoOff = false ∨ s.oN Obj.lvState < 2 →
    exec .lvIsofault s = .next (s)) ∧
  (∀ (s : State), s.lvOn = true →
    2 ≤ s.oN Obj.lvState ∧ s.oN Obj.lvState ≤ 5 →
    s.lvRef * (1 + 10 / 100) < F32.toRat s.lvOut →
    exec .lvOvervoltage s = .next ((s.lvHalt 6).raise FC.lvOvervoltage 0)) ∧
  (∀ (s : State), F32.toRat s.lvOut ≤ s.lvRef * (1 + 10 / 100) →
    exec .lvOvervoltage s = .next (s)) ∧
  (∀ (s : State), 1 ≤ s.oN Obj.lvState ∧ s.oN Obj.lvState ≤ 5 →
    (s.lvHalt 6).oN Obj.lvState = 6 ∧ (s.lvHalt 6).oN Obj.lvReference = 0 ∧ (s.lvHalt 6).active = s.active) ∧
  (∀ (s : State), s.lvOn = true →
    s.oN Obj.lvRunRequest = 1 →
    s.oN Obj.lvState ≤ 2 →
    exec .lvStartfail s = .next (((s.lvHalt 6).put Obj.lvState 6).raise FC.lvStartfail 0)) ∧
  (∀ (s : State), s.oN Obj.lvRunRequest = 0 ∨ 2 < s.oN Obj.lvState →
    exec .lvStartfail s = .next (s)) ∧
  (∀ (s : State), s.lvOn = true →
    2 ≤ s.oN Obj.lvState ∧ s.oN Obj.lvState ≤ 5 →
    s.oF Obj.lvFoldbackFactor < 1 →
    exec .lvFoldback s = .next (s.raise FC.lvFoldback 0)) ∧
  (∀ (s : State), 1 ≤ s.oF Obj.lvFoldbackFactor →
    exec .lvFoldback s = .next (s)) ∧
  (∀ (s : State), s.lvOn = true →
    s.oN Obj.lvState = 3 →
    s.lv.burst = true →
    s.lvPhases.length ≤ 4 →
    s.lvRef * (1 + s.cF Obj.lvBurstBand / 100) ≤ s.lvCmp (F32.toRat s.lvInt) (F32.toRat s.lvOut) →
    exec .lvBurstSleep s = .next (((s.lvOpen false).put Obj.lvState 4).lvSession)) ∧
  (∀ (s : State), s.oN Obj.lvState ≠ 3 ∨ s.lv.burst = false ∨ s.lvCmp (F32.toRat s.lvInt) (F32.toRat s.lvOut) < s.lvRef * (1 + s.cF Obj.lvBurstBand / 100) →
    exec .lvBurstSleep s = .next (s)) ∧
  (∀ (s : State), s.lvOn = true →
    s.oN Obj.lvState = 4 →
    F32.toRat s.lvOut ≤ s.lvRef →
    exec .lvBurstWake s = .next (s.lvResume 3)) ∧
  (∀ (s : State), s.oN Obj.lvState ≠ 4 ∨ s.lvRef < F32.toRat s.lvOut →
    exec .lvBurstWake s = .next (s)) ∧
  (∀ (s : State) (n : Nat), (s.lvResume n).oN Obj.lvState = n ∧ (s.lvResume n).lvDrive = s.lvDrive) ∧
  (∀ (s : State) (n : Nat), s.lvOn = true →
    s.oN Obj.lvState = 3 →
    s.lvActive.getLast? = some n →
    4 < s.lvPhases.length →
    2 < s.lvActive.length →
    s.oF (Obj.lvMean 3) < ((s.lvActive.length - 1 : Nat) : Rat) * s.cF Obj.lvShedCurrent * (1 - s.cF Obj.lvShedHysteresis / 100) →
    exec .lvPhaseShed s = .next ((s.put Obj.lvActivePhases (clearBit (s.oN Obj.lvActivePhases) n : Nat)).lvPhaseMod n (fun x => { x with leaving := true }))) ∧
  (∀ (s : State), s.lvActive.length ≤ 2 ∨ ((s.lvActive.length - 1 : Nat) : Rat) * s.cF Obj.lvShedCurrent * (1 - s.cF Obj.lvShedHysteresis / 100) ≤ s.oF (Obj.lvMean 3) →
    exec .lvPhaseShed s = .next (s)) ∧
  (∀ (s : State), s.lvOn = true →
    2 ≤ s.oN Obj.lvState ∧ s.oN Obj.lvState ≤ 4 →
    s.lvRef * (1 + s.cF Obj.lvReleaseLevel / 100) < F32.toRat s.lvOut →
    exec .lvLoadRelease s = .next (((((s.lvOpen true).put Obj.lvState 5).incSat Obj.lvReleaseCount).lvMod (fun x => { x with back := if s.oN Obj.lvState = 2 then 2 else 3, waiting := false })).lvSession)) ∧
  (∀ (s : State), F32.toRat s.lvOut ≤ s.lvRef * (1 + s.cF Obj.lvReleaseLevel / 100) →
    exec .lvLoadRelease s = .next (s)) ∧
  (∀ (s : State), s.lvOn = true →
    s.oN Obj.lvState = 5 →
    F32.toRat s.lvOut < s.lvRef * 101 / 100 →
    exec .lvLoadReleaseEnd s = .next (s.lvResume s.lv.back)) ∧
  (∀ (s : State), s.oN Obj.lvState ≠ 5 ∨ s.lvRef * 101 / 100 ≤ F32.toRat s.lvOut →
    exec .lvLoadReleaseEnd s = .next (s)) ∧
  (∀ (s : State) (r l m a : BitVec 32), s.lvOn = true →
    2 ≤ s.oN Obj.lvState ∧ s.oN Obj.lvState ≤ 5 →
    s.oN Obj.lvAuxState = 1 →
    s.auxGone (F32.toRat r.toNat) (F32.toRat l.toNat) (F32.toRat m.toNat) (F32.toRat a.toNat) = true →
    exec (.lvAuxremoved r l m a) s = .next ((((s.lvRelease.put Obj.lvAuxState 2).lvSession).raise FC.lvAuxremoved 0).lvFollow)) ∧
  (∀ (s : State) (r l m a : BitVec 32), s.auxGone (F32.toRat r.toNat) (F32.toRat l.toNat) (F32.toRat m.toNat) (F32.toRat a.toNat) = false ∨ s.oN Obj.lvAuxState ≠ 1 →
    exec (.lvAuxremoved r l m a) s = .next (s)) ∧
  (∀ (s : State) (role : Role), s.MayWrite role 2 Obj.lvAuxRearm →
    s.station = false →
    exec (.lvAuxRearm role) s = .next (((s.put Obj.lvAuxState 1).lvSession).lvFollow))

/-- R315, R316: LV_PHASE_TRIGGER acts in states 2 and 3 with a phase next and V_cmp at or below its reference, else it changes nothing (no phase
leaving); the next phase fires where its current is below the valley limit, with its count of limited triggers cleared unless the trigger had
waited; R319: above the valley limit the first trigger waits and counts. R318: a phase in hiccup that is not removed rejoins a running converter.
R326: telemetry of a converter that does not run enters voltage, current and power into the shown quantities; a station has none. R327: the
battery loop of CP1's session moves its correction by the gain within 0 and the least output, and has none in phase 6; without session it
does nothing. R329: a lamp edge shows every lamp's code and level for the millisecond of the frame and changes nothing else, and nothing at all in
M11. -/
def Obligations.ConverterLoopsAndLamps : Prop :=
  (∀ (s : State) (vo vi am : BitVec 32), s.lvOn = false ∨ (s.oN Obj.lvState ≠ 2 ∧ s.oN Obj.lvState ≠ 3) →
    exec (.lvPhaseTrigger vo vi am) s = .next (s)) ∧
  (∀ (s : State) (vo vi am : BitVec 32), s.lvOn = true →
    s.oN Obj.lvState = 2 ∨ s.oN Obj.lvState = 3 →
    ∀ n < 16, (s.lvPhase n).leaving = false →
    s.lvNext = none →
    exec (.lvPhaseTrigger vo vi am) s = .next (s)) ∧
  (∀ (s : State) (vo vi am : BitVec 32) (n : Nat), s.lvOn = true →
    s.oN Obj.lvState = 2 ∨ s.oN Obj.lvState = 3 →
    ∀ n < 16, (s.lvPhase n).leaving = false →
    s.lvNext = some n →
    s.lvRef + F32.toRat s.lv.corr < s.lvCmp (F32.toRat vi.toNat) (F32.toRat vo.toNat) →
    exec (.lvPhaseTrigger vo vi am) s = .next (s)) ∧
  (∀ (s : State) (vo vi am : BitVec 32) (n : Nat) (u : State), s.lvOn = true →
    s.oN Obj.lvState = 2 ∨ s.oN Obj.lvState = 3 →
    ∀ n < 16, (s.lvPhase n).leaving = false →
    s.lvNext = some n →
    s.lvCmp (F32.toRat vi.toNat) (F32.toRat vo.toNat) ≤ s.lvRef + F32.toRat s.lv.corr →
    u = s.putF Obj.lvFoldbackFactor (foldback (F32.toRat vo.toNat) s.lvRef) →
    F32.toRat am.toNat ≤ u.lvValley (foldback (F32.toRat vo.toNat) s.lvRef) (u.lvRipple (F32.toRat vi.toNat) (F32.toRat vo.toNat) (u.lvOnTime n)) →
    s.lv.waiting = true →
    exec (.lvPhaseTrigger vo vi am) s = .next (((u.lvFire n (F32.toRat vi.toNat) (F32.toRat vo.toNat)).lvReady (F32.toRat vo.toNat)).lvFollow)) ∧
  (∀ (s : State) (vo vi am : BitVec 32) (n : Nat) (u : State), s.lvOn = true →
    s.oN Obj.lvState = 2 ∨ s.oN Obj.lvState = 3 →
    ∀ n < 16, (s.lvPhase n).leaving = false →
    s.lvNext = some n →
    s.lvCmp (F32.toRat vi.toNat) (F32.toRat vo.toNat) ≤ s.lvRef + F32.toRat s.lv.corr →
    u = s.putF Obj.lvFoldbackFactor (foldback (F32.toRat vo.toNat) s.lvRef) →
    F32.toRat am.toNat ≤ u.lvValley (foldback (F32.toRat vo.toNat) s.lvRef) (u.lvRipple (F32.toRat vi.toNat) (F32.toRat vo.toNat) (u.lvOnTime n)) →
    s.lv.waiting = false →
    exec (.lvPhaseTrigger vo vi am) s = .next ((((u.lvPhaseMod n (fun x => { x with limited := 0 })).lvFire n (F32.toRat vi.toNat) (F32.toRat vo.toNat)).lvReady (F32.toRat vo.toNat)).lvFollow)) ∧
  (∀ (s : State) (vo vi am : BitVec 32) (n : Nat) (u : State), s.lvOn = true →
    s.oN Obj.lvState = 2 ∨ s.oN Obj.lvState = 3 →
    ∀ n < 16, (s.lvPhase n).leaving = false →
    s.lvNext = some n →
    s.lvCmp (F32.toRat vi.toNat) (F32.toRat vo.toNat) ≤ s.lvRef + F32.toRat s.lv.corr →
    u = s.putF Obj.lvFoldbackFactor (foldback (F32.toRat vo.toNat) s.lvRef) →
    u.lvValley (foldback (F32.toRat vo.toNat) s.lvRef) (u.lvRipple (F32.toRat vi.toNat) (F32.toRat vo.toNat) (u.lvOnTime n)) < F32.toRat am.toNat →
    s.lv.waiting = false →
    (s.lvPhase n).limited + 1 < s.cN Obj.lvHiccupCycles →
    s.lv.phases.length = 16 ∧ n < 16 →
    exec (.lvPhaseTrigger vo vi am) s = .next ((u.lvMod (fun x => { x with waiting := true })).lvPhaseMod n (fun x => { x with limited := x.limited + 1 }))) ∧
  (∀ (s : State) (n : Fin 16), s.lvOn = true →
    (s.oN Obj.lvHiccupPhases).testBit n.val = true →
    (s.lvPhase n.val).removed = false →
    2 ≤ s.oN Obj.lvState ∧ s.oN Obj.lvState ≠ 6 →
    exec (.lvHiccupEnd n) s = .next ((s.put Obj.lvHiccupPhases (clearBit (s.oN Obj.lvHiccupPhases) n.val : Nat)).lvJoin true n.val)) ∧
  (∀ (s : State) (n : Fin 16), (s.oN Obj.lvHiccupPhases).testBit n.val = false ∨ (s.lvPhase n.val).removed = true ∨ s.oN Obj.lvState < 2 ∨ s.oN Obj.lvState = 6 →
    exec (.lvHiccupEnd n) s = .next (s)) ∧
  (∀ (s : State) (v a : BitVec 32), s.engOn = true →
    s.station = false →
    s.lvOn = false →
    16 ≤ s.cN Obj.lvTempInput →
    exec (.lvTelemetry v a) s = .next (((s.lvQuantity 0 v.toNat).lvQuantity 1 a.toNat).lvQuantity 2 (F32.ofRat (F32.toRat v.toNat * F32.toRat a.toNat / 1000)))) ∧
  (∀ (s : State) (q w : Nat), q < 4 →
    (s.lvQuantity q w).oN (Obj.lvMean (3 * q)) = w) ∧
  (∀ (s : State) (v a : BitVec 32), s.station = true →
    exec (.lvTelemetry v a) s = .next (s)) ∧
  (∀ (s : State), s.lvOn = true →
    (s.cpx 1).session = true →
    s.oN (Obj.cpPhase 1) = 6 →
    exec .lvBatteryLoop s = .next ((s.lvMod (fun x => { x with y := F32.ofRat 0 })).lvFollow)) ∧
  (∀ (s : State), s.lvOn = true →
    (s.cpx 1).session = true →
    s.oN (Obj.cpPhase 1) ≠ 6 →
    exec .lvBatteryLoop s = .next ((s.lvMod (fun x => { x with y := F32.ofRat (min 0 (max (F32.toRat s.lv.y + s.cF Obj.lvBatteryLoopGain * (s.oF (Obj.cpCurrentRef 1) - F32.toRat (s.cpAmps 1)) / 10000) (s.cF Obj.lvOutputMin - s.lvS))) })).lvFollow)) ∧
  (∀ (s : State), (s.cpx 1).session = false →
    exec .lvBatteryLoop s = .next (s)) ∧
  (∀ (s : State) (ms : Fin 1000), s.up = true →
    s.mode ≠ 11 →
    s.lamps.length = 4 →
    ∃ t, exec (.lampPatternEdge ms) s = .next t ∧
      t.lamps = [lampLit (s.lampCode 0) ms.val, lampLit (s.lampCode 1) ms.val, lampLit (s.lampCode 2) ms.val, lampLit (s.lampCode 3) ms.val] ∧
      ∀ l < 4, t.o (Obj.lampPattern l) = (s.lampCode l : Nat) ∧
      t = { s with live := t.live, lamps := t.lamps } ∧
      ∀ k, (∀ l < 4, k ≠ Obj.lampPattern l) → t.o k = s.o k) ∧
  (∀ (s : State) (ms : Fin 1000), s.mode = 11 →
    exec (.lampPatternEdge ms) s = .next (s))

/-! ## Gearbox actuators (chapter 13) -/

/-- R338: a request that is refused leaves its code and nothing else; an accepted one keeps the request with result 1 and moves: at once for an actuator
of kind 1 and in service, else to neutral where the torque is released already, in state 4 otherwise. A move goes to its state, or to homing (2)
without a home, with no position index. R336: with the torque released the shift goes to neutral; a permit engages in state 6 and is stored in any; a
time-out of release or synchronisation aborts the shift with result 6. R335: a position held within the tolerance is an arrival: state 3, result 0 and the
index (a stop in neutral apart); a move that takes too long fails with GaState 8, result 7, no home and GA_MOVETIMEOUT. In another state nothing
happens. -/
def Obligations.ActuatorRequestsRunTheirSequence : Prop :=
  (∀ (s : State) (a : Fin 4) (v : Byte) (role : Role), s.MayWrite role 2 (Obj.gaRequest a.val) →
    s.station = false →
    s.gaCode a.val v.toNat ≠ 1 →
    exec (.gaRequest a v role) s = .next (s.put (Obj.gaRequestResult a.val) (s.gaCode a.val v.toNat : Nat))) ∧
  (∀ (s : State) (a : Fin 4) (v : Byte) (role : Role) (u : State), s.MayWrite role 2 (Obj.gaRequest a.val) →
    s.station = false →
    s.gaCode a.val v.toNat = 1 →
    s.cN (Obj.gaKind a.val) = 1 →
    u = ((s.put (Obj.gaRequestResult a.val) (1 : Nat)).put (Obj.gaRequest a.val) v.toNat).gaMod a.val (fun x => { x with goal := v.toNat, since := s.mono, neutral := false }) →
    exec (.gaRequest a v role) s = .next (u.gaMove a.val v.toNat 5)) ∧
  (∀ (s : State) (a : Fin 4) (v : Byte) (role : Role) (u : State), s.MayWrite role 2 (Obj.gaRequest a.val) →
    s.station = false →
    s.gaCode a.val v.toNat = 1 →
    s.cN (Obj.gaKind a.val) ≠ 1 →
    s.mode ≠ 10 →
    u = ((s.put (Obj.gaRequestResult a.val) (1 : Nat)).put (Obj.gaRequest a.val) v.toNat).gaMod a.val (fun x => { x with goal := v.toNat, since := s.mono, neutral := false }) →
    exec (.gaRequest a v role) s = .next (if u.gaReleased a.val then u.gaNeutral a.val else (u.put (Obj.gaState a.val) 4).gaPark a.val)) ∧
  (∀ (s : State) (a : Fin 4) (v : Byte) (role : Role) (u : State), s.MayWrite role 2 (Obj.gaRequest a.val) →
    s.station = false →
    s.gaCode a.val v.toNat = 1 →
    s.cN (Obj.gaKind a.val) ≠ 1 →
    s.mode = 10 →
    u = ((s.put (Obj.gaRequestResult a.val) (1 : Nat)).put (Obj.gaRequest a.val) v.toNat).gaMod a.val (fun x => { x with goal := v.toNat, since := s.mono, neutral := false }) →
    exec (.gaRequest a v role) s = .next (u.gaMove a.val v.toNat 7)) ∧
  (∀ (s : State) (a i st : Nat), a < 4 →
    s.ga.length = 4 →
    (s.gaMove a i st).oN (Obj.gaState a) = (if s.oN (Obj.gaHomed a) = 1 then st else 2) ∧ (s.gaMove a i st).oN (Obj.gaPositionIndex a) = 0xFF) ∧
  (∀ (s : State) (a : Fin 4), s.gaOn a.val = true →
    s.oN (Obj.gaState a.val) = 4 →
    s.gaReleased a.val = true →
    exec (.gaTorqueReleased a) s = .next (s.gaNeutral a.val)) ∧
  (∀ (s : State) (a : Fin 4), s.oN (Obj.gaState a.val) ≠ 4 ∨ s.gaReleased a.val = false →
    exec (.gaTorqueReleased a) s = .next (s)) ∧
  (∀ (s : State) (a : Fin 4), s.gaOn a.val = true →
    s.oN (Obj.gaState a.val) = 4 →
    exec (.gaReleaseTimeout a) s = .next (s.gaAbort a.val)) ∧
  (∀ (s : State) (a : Fin 4), s.oN (Obj.gaState a.val) ≠ 4 →
    exec (.gaReleaseTimeout a) s = .next (s)) ∧
  (∀ (s : State) (a : Fin 4) (role : Role), s.MayWrite role 2 (Obj.gaSyncPermit a.val) →
    s.station = false →
    s.gaOn a.val = true →
    s.oN (Obj.gaState a.val) = 6 →
    exec (.gaSyncPermit a role) s = .next ((s.put (Obj.gaSyncPermit a.val) 1).gaEngage a.val)) ∧
  (∀ (s : State) (a : Fin 4) (role : Role), s.MayWrite role 2 (Obj.gaSyncPermit a.val) →
    s.station = false →
    s.gaOn a.val = false ∨ s.oN (Obj.gaState a.val) ≠ 6 →
    exec (.gaSyncPermit a role) s = .next (s.put (Obj.gaSyncPermit a.val) 1)) ∧
  (∀ (s : State) (a : Fin 4), s.gaOn a.val = true →
    s.oN (Obj.gaState a.val) = 6 →
    exec (.gaSyncTimeout a) s = .next (s.gaAbort a.val)) ∧
  (∀ (s : State) (a : Fin 4), s.oN (Obj.gaState a.val) ≠ 6 →
    exec (.gaSyncTimeout a) s = .next (s)) ∧
  (∀ (s : State) (a : Nat), a < 4 →
    (s.gaAbort a).oN (Obj.gaRequestResult a) = 6 ∧ (s.gaAbort a).active = s.active) ∧
  (∀ (s : State) (a : Fin 4), s.gaOn a.val = true →
    s.oN (Obj.gaState a.val) = 5 ∨ s.oN (Obj.gaState a.val) = 7 →
    s.gaStop a.val (s.gaX a.val).step = false →
    |s.gaPos a.val - F32.toRat (s.gaValue a.val (s.gaX a.val).step)| ≤ s.cF (Obj.gaArriveTolerance a.val) →
    exec (.gaArrival a) s = .next (s.gaArrive a.val)) ∧
  (∀ (s : State) (a : Fin 4), s.gaOn a.val = false ∨ s.cF (Obj.gaArriveTolerance a.val) < |s.gaPos a.val - F32.toRat (s.gaValue a.val (s.gaX a.val).step)| →
    exec (.gaArrival a) s = .next (s)) ∧
  (∀ (s : State) (a : Nat), a < 4 →
    (s.gaX a).neutral = false →
    (s.gaArrive a).oN (Obj.gaState a) = 3 ∧ (s.gaArrive a).oN (Obj.gaRequestResult a) = 0 ∧ (s.gaArrive a).oN (Obj.gaPositionIndex a) = (s.gaX a).step) ∧
  (∀ (s : State) (a : Fin 4), s.gaOn a.val = true →
    s.oN (Obj.gaState a.val) = 2 ∨ s.oN (Obj.gaState a.val) = 5 ∨ s.oN (Obj.gaState a.val) = 7 →
    exec (.gaMovetimeout a) s = .next (s.gaFail a.val FC.gaMovetimeout a.val)) ∧
  (∀ (s : State) (a : Fin 4), s.oN (Obj.gaState a.val) ≠ 2 ∧ s.oN (Obj.gaState a.val) ≠ 5 ∧ s.oN (Obj.gaState a.val) ≠ 7 →
    exec (.gaMovetimeout a) s = .next (s)) ∧
  (∀ (s : State) (a : Nat), a < 4 →
    s.gaFail a FC.gaMovetimeout a = (((((((s.put (Obj.gaState a) 8).put (Obj.gaRequestResult a) 7).put (Obj.gaHomed a) 0).put (Obj.gaPositionIndex a) 0xFF).gaOff a).gaPark
      a).raise FC.gaMovetimeout a).wcParkLost a)

/-! ## The charging link: vehicle end (chapter 14) -/

/-- R343, R346: a plug with a protocol starts a session. R347: an energy service that the protocol carries is agreed, another is a fault; in M6 the cable
check follows, then the pre-charge with its target, R348: its match closes both contactors (after a fall-back DC+ alone), no match in time
closes the fall-back output where there is one, none in the limit is a fault, and a match undoes either. Confirmed contactors start the delivery
with its record, contactors that disagree are a fault; a stop by the Operator or the post leads from state 6 to 7 with its cause, current low opens the
contactors in state 8, an inlet below 60 V ends the session in 9; an inlet at the battery's voltage after 1 s, or at 60 V after 5 s, is a weld fault. A
fault in states 1 to 8 leads to state 10 with its cause, target 0 and its code, and ends the session. R345: a pilot in state E or F, or a duty outside
every band, is a fault of an open session and raises otherwise; a valid one changes nothing. R362: a lost plug is a fault under current, forgets a
finished session, and else is only shown. R349: a pin temperature that crosses LkPinTempDerate is shown and raises LNK_PINTEMP, once until it has fallen again; one that reaches
LkPinTempLimit stops a delivery with cause 5 and raises LNK_PINHOT, and is a fault in states 1 to 5. R347, R362: 20 ms in fault open every contactor,
and forget a session whose plug is gone; in another state they do nothing. R348: the pre-charge output of a fall-back opens after its
time in states from 5 on. R347: a protocol time-out is a fault of the vehicle end's session. -/
def Obligations.VehicleEndOfTheLink : Prop :=
  (∀ (s : State) (p : BitVec 3) (q : BitVec 2), s.lkOn = true →
    s.oN Obj.lkState = 0 →
    q ≠ 0 →
    exec (.linkPlugged p q) s = .next (((((s.put Obj.lkPlugged 1).put Obj.lkPilotState (min p.toNat 6 : Nat)).put Obj.lkStopCause 0).put Obj.lkProtocol q.toNat).lkTo 1)) ∧
  (∀ (s : State) (a : BitVec 32), s.lkOn = true →
    1 ≤ s.oN Obj.lkState ∧ s.oN Obj.lkState ≤ 8 →
    |F32.toRat a.toNat| ≤ s.cF Obj.lkOpenCurrent →
    exec (.linkDetectionLost a) s = .next ((s.put Obj.lkPlugged 0).put Obj.lkPilotState 0)) ∧
  (∀ (s : State) (a : BitVec 32), s.lkOn = true →
    1 ≤ s.oN Obj.lkState ∧ s.oN Obj.lkState ≤ 8 →
    s.cF Obj.lkOpenCurrent < |F32.toRat a.toNat| →
    exec (.linkDetectionLost a) s = .next (((s.put Obj.lkPlugged 0).put Obj.lkPilotState 0).lkFault FC.lnkUnplug 6)) ∧
  (∀ (s : State) (a : BitVec 32), s.lkOn = true →
    s.oN Obj.lkState = 9 →
    exec (.linkDetectionLost a) s = .next (((s.put Obj.lkPlugged 0).put Obj.lkPilotState 0).lkTo 0)) ∧
  (∀ (s : State) (code cause : Nat), s.lkOn = true →
    1 ≤ s.oN Obj.lkState ∧ s.oN Obj.lkState ≤ 8 →
    s.lkFault code cause = ((((s.put Obj.lkStopCause cause).lkTo 10).lkMod (fun x => { x with target := 0 })).raise code 0).sessionEnd code ∧
      (s.lkTo 10).oN Obj.lkState = 10 ∧ (s.lkTo 10).hbDrive = s.hbDrive) ∧
  (∀ (s : State) (p : BitVec 3) (d : BitVec 32), s.lkOn = true →
    s.oN Obj.lkState = 0 ∨ 8 < s.oN Obj.lkState →
    5 ≤ p.toNat ∨ pilotLimit (F32.toRat d.toNat) = some 0 →
    exec (.pilotInvalid p d) s = .next ((s.put Obj.lkPilotState (min p.toNat 6 : Nat)).raise FC.lnkPilot 0)) ∧
  (∀ (s : State) (p : BitVec 3) (d : BitVec 32), s.lkOn = true →
    1 ≤ s.oN Obj.lkState ∧ s.oN Obj.lkState ≤ 8 →
    5 ≤ p.toNat ∨ pilotLimit (F32.toRat d.toNat) = some 0 →
    exec (.pilotInvalid p d) s = .next ((s.put Obj.lkPilotState (min p.toNat 6 : Nat)).lkFault FC.lnkPilot 5)) ∧
  (∀ (s : State) (p : BitVec 3) (d : BitVec 32), p.toNat < 5 →
    pilotLimit (F32.toRat d.toNat) ≠ some 0 →
    exec (.pilotInvalid p d) s = .next (s)) ∧
  (∀ (s : State) (e : BitVec 3) (i : BitVec 64) (v a d : BitVec 32), s.lkOn = true →
    s.oN Obj.lkState = 1 →
    serviceOk (s.oN Obj.lkProtocol) e.toNat = true →
    exec (.chargeParametersAgreed e i v a d) s = .next ((((((s.put Obj.lkEnergyService e.toNat).put Obj.lkSessionId i.toNat).put Obj.lkPostMaxVoltage v.toNat).put Obj.lkPostMaxCurrent a.toNat).lkHandOver
      (F32.toRat a.toNat) (F32.toRat d.toNat)).lkTo 2)) ∧
  (∀ (s : State) (e : BitVec 3) (i : BitVec 64) (v a d : BitVec 32), s.lkOn = true →
    s.oN Obj.lkState = 1 →
    serviceOk (s.oN Obj.lkProtocol) e.toNat = false →
    exec (.chargeParametersAgreed e i v a d) s = .next (s.lkFault FC.lnkProtocol 5)) ∧
  (∀ (s : State), s.lkOn = true →
    s.oN Obj.lkState = 2 →
    s.mode = 6 →
    exec .cableCheckBegin s = .next (s.lkTo 3)) ∧
  (∀ (s : State), s.lkOn = true →
    s.oN Obj.lkState = 3 →
    exec .prechargeBegin s = .next ((s.lkTo 4).lkMod (fun x => { x with target := F32.ofRat s.lkTargetVolts }))) ∧
  (∀ (s : State), s.lkOn = true →
    s.oN Obj.lkState = 4 →
    s.lkMatches = true →
    s.lk.fallback = false →
    exec .prechargeMatchHeld s = .next (((s.soRequest (s.cN Obj.lkContactorMinus)).soRequest (s.cN Obj.lkContactorPlus)).lkTo 5)) ∧
  (∀ (s : State), s.lkOn = true →
    s.oN Obj.lkState = 4 →
    s.lkMatches = true →
    s.lk.fallback = true →
    exec .prechargeMatchHeld s = .next ((s.soRequest (s.cN Obj.lkContactorPlus)).lkTo 5)) ∧
  (∀ (s : State), s.lkMatches = false →
    exec .prechargeMatchHeld s = .next (s)) ∧
  (∀ (s : State), s.lkOn = true →
    s.oN Obj.lkState = 4 →
    s.lkMatches = false →
    s.cN Obj.lkPrechargeOutput < 8 →
    exec .prechargeOutputFallback s = .next (((s.soRequest (s.cN Obj.lkContactorMinus)).soRequest (s.cN Obj.lkPrechargeOutput)).lkMod (fun x => { x with fallback := true }))) ∧
  (∀ (s : State), s.lkMatches = true ∨ 8 ≤ s.cN Obj.lkPrechargeOutput →
    exec .prechargeOutputFallback s = .next (s)) ∧
  (∀ (s : State), s.oN Obj.lkState = 4 →
    s.lkMatches = false →
    exec .lnkPrecharge s = .next (s.lkFault FC.lnkPrecharge 5)) ∧
  (∀ (s : State), s.oN Obj.lkState ≠ 4 ∨ s.lkMatches = true →
    exec .lnkPrecharge s = .next (s)) ∧
  (∀ (s : State), s.station = false →
    s.lkOn = true →
    s.oN Obj.lkState = 5 →
    (s.cpx 0).session = true →
    s.oN Obj.wcTopology ≠ 2 →
    exec (.inletContactorsConfirmed true) s = .next ((s.lkTo 6).mtrOpen 2 ((s.lkTo 6).oN Obj.lkSessionId))) ∧
  (∀ (s : State), s.station = false →
    s.lkOn = true →
    s.oN Obj.lkState = 5 →
    exec (.inletContactorsConfirmed false) s = .next (s.lkFault FC.lnkContactor 5)) ∧
  (∀ (s : State) (role : Role), s.MayWrite role 2 Obj.lkStopRequest →
    s.station = false →
    s.lkOn = true →
    s.oN Obj.lkState = 6 →
    exec (.linkStopRequest role) s = .next (((s.put Obj.lkStopCause 2).lkTo 7).lkMod (fun x => { x with target := 0 }))) ∧
  (∀ (s : State) (role : Role), s.MayWrite role 2 Obj.lkStopRequest →
    s.station = false →
    s.oN Obj.lkState ≠ 6 →
    exec (.linkStopRequest role) s = .next (s)) ∧
  (∀ (s : State), s.lkOn = true →
    s.oN Obj.lkState = 6 →
    exec .postStopReceived s = .next (((s.put Obj.lkStopCause 3).lkTo 7).lkMod (fun x => { x with target := 0 }))) ∧
  (∀ (s : State), s.oN Obj.lkState ≠ 6 →
    exec .postStopReceived s = .next (s)) ∧
  (∀ (s : State), s.lkOn = true →
    s.oN Obj.lkState = 7 →
    s.inletAmps = none ∨ s.inletAmps = some 0 →
    0 ≤ s.cF Obj.lkOpenCurrent →
    exec .inletCurrentLow s = .next (s.lkOpen.lkTo 8)) ∧
  (∀ (s : State) (a : Rat), s.inletAmps = some a →
    s.cF Obj.lkOpenCurrent < |a| →
    exec .inletCurrentLow s = .next (s)) ∧
  (∀ (s : State) (v : BitVec 32), s.oN Obj.lkState = 8 →
    |F32.toRat v.toNat - s.oF (Obj.vdcValue (s.cN Obj.lkBatteryVoltageInput))| ≤ |s.oF (Obj.vdcValue (s.cN Obj.lkBatteryVoltageInput))| * 5 / 100 →
    exec (.weldCheck1s v) s = .next (s.lkFault FC.lnkWeld 5)) ∧
  (∀ (s : State) (v : BitVec 32), s.oN Obj.lkState ≠ 8 ∨ |s.oF (Obj.vdcValue (s.cN Obj.lkBatteryVoltageInput))| * 5 / 100 < |F32.toRat v.toNat - s.oF (Obj.vdcValue (s.cN Obj.lkBatteryVoltageInput))| →
    exec (.weldCheck1s v) s = .next (s)) ∧
  (∀ (s : State) (v : BitVec 32), s.oN Obj.lkState = 8 →
    60 ≤ F32.toRat v.toNat →
    exec (.weldCheck5s v) s = .next (s.lkFault FC.lnkWeld 5)) ∧
  (∀ (s : State) (v : BitVec 32), s.oN Obj.lkState ≠ 8 ∨ F32.toRat v.toNat < 60 →
    exec (.weldCheck5s v) s = .next (s)) ∧
  (∀ (s : State), s.lkOn = true →
    s.oN Obj.lkState = 8 →
    s.inletVolts < 60 →
    s.oN Obj.wcState ≠ 7 →
    ((s.lkTo 9).sessionEnd 0).oN Obj.lkPlugged ≠ 0 →
    exec .inletDischarged s = .next ((s.lkTo 9).sessionEnd 0)) ∧
  (∀ (s : State), s.oN Obj.lkState ≠ 8 ∨ 60 ≤ s.inletVolts →
    exec .inletDischarged s = .next (s)) ∧
  (∀ (s : State) (v : BitVec 32), s.lkOn = true →
    s.lk.warm = false →
    s.cF Obj.lkPinTempDerate < F32.toRat v.toNat →
    F32.toRat v.toNat < s.cF Obj.lkPinTempLimit →
    exec (.pinTempDerate v) s = .next (((s.lkMod (fun x => { x with warm := true, hot := false })).put Obj.lkPinTempMax v.toNat).raise FC.lnkPintemp 0)) ∧
  (∀ (s : State) (v : BitVec 32), F32.toRat v.toNat ≤ s.cF Obj.lkPinTempDerate →
    F32.toRat v.toNat < s.cF Obj.lkPinTempLimit →
    exec (.pinTempDerate v) s = .next (s.lkMod (fun x => { x with warm := false, hot := false }))) ∧
  (∀ (s : State) (v : BitVec 32), s.lkOn = true →
    s.lk.warm = true →
    s.cF Obj.lkPinTempDerate < F32.toRat v.toNat →
    s.lk.hot = false →
    s.cF Obj.lkPinTempLimit ≤ F32.toRat v.toNat →
    s.oN Obj.lkState = 6 →
    exec (.pinTempLimit v) s = .next ((((s.lkMod (fun x => { x with warm := true, hot := true })).put Obj.lkPinTempMax v.toNat).lkStop 5).raise FC.lnkPinhot 0)) ∧
  (∀ (s : State) (v : BitVec 32), s.lkOn = true →
    s.lk.warm = true →
    s.cF Obj.lkPinTempDerate < F32.toRat v.toNat →
    s.lk.hot = false →
    s.cF Obj.lkPinTempLimit ≤ F32.toRat v.toNat →
    1 ≤ s.oN Obj.lkState ∧ s.oN Obj.lkState ≤ 5 →
    exec (.pinTempLimit v) s = .next (((s.lkMod (fun x => { x with warm := true, hot := true })).put Obj.lkPinTempMax v.toNat).lkFault FC.lnkPinhot 5)) ∧
  (∀ (s : State), s.lkOn = true →
    s.oN Obj.lkState = 10 →
    s.lkOpen.oN Obj.lkPlugged ≠ 0 →
    exec .linkFaultOpenTimeout s = .next (s.lkOpen)) ∧
  (∀ (s : State), s.lkOn = true →
    s.oN Obj.lkState = 10 →
    s.lkOpen.oN Obj.lkPlugged = 0 →
    exec .linkFaultOpenTimeout s = .next (s.lkOpen.lkTo 0)) ∧
  (∀ (s : State), s.oN Obj.lkState ≠ 10 →
    exec .linkFaultOpenTimeout s = .next (s)) ∧
  (∀ (s : State), s.lkOn = true →
    s.lk.fallback = true →
    5 ≤ s.oN Obj.lkState →
    exec .inletPrechargeOutputOpen s = .next ((s.soRelease (s.cN Obj.lkPrechargeOutput)).lkMod (fun x => { x with fallback := false }))) ∧
  (∀ (s : State), s.lk.fallback = false →
    exec .inletPrechargeOutputOpen s = .next (s)) ∧
  (∀ (s : State), s.station = false →
    exec .linkProtocolTimeout s = .next (s.lkFault FC.lnkProtocol 5))

/-! ## The charging link: post end and Tandem (chapter 14) -/

/-- R351: a plug with protocol 1 or 2 starts a session; a cable check in M7 enters M8 in state 2 with the service, one while a requested transition is
in progress refuses the session; power delivery in state 3 goes to 4 and asks for its lease; a stop ramps down in state 5 from the current in force, a
low current opens the contactors in state 6, an output below 60 V ends the session in M7, and one that stays raises LNK_WELD; contactors that
disagree raise LNK_CONTACTOR, a protocol time-out stops the session. R352: insulation below LkIsoFault opens the contactors and raises LNK_ISOFAULT,
below LkIsoValid it warns, and from LkIsoFault on the session goes on to state 3; an alarm during delivery raises. R362: a plug lost before or after a
session is forgotten. R355: a service selection not permitted or refused notes LNK_TDREFUSED; one agreed opens a new agreement on its connection. R361:
LNK_TDLOCK ends an agreement not yet in control; a fall-back's ramp starts at the current in force, and its end ends the agreement. In another
state, or with the reading on the other side, a command changes nothing. -/
def Obligations.PostEndAndTandem : Prop :=
  (∀ (s : State) (v : BitVec 32) (e : BitVec 3) (i : BitVec 64), s.postOn = true →
    s.mode = 7 →
    s.oN Obj.lkPostState = 1 →
    s.md.requested = false →
    1 ≤ e.toNat ∧ e.toNat ≤ 4 ∧ (s.oN Obj.lkPostProtocol = 1 ∨ e = 1) →
    s.cN Obj.lkPostContactorMinus < 8 → s.cN Obj.lkPostContactorPlus < 8 →
    ∃ t, exec (.cableCheckRequest v e i) s = .next t ∧
      t.mode = 8 ∧ t.oN Obj.modeEntryTime = s.now ∧ t.oN Obj.modeTarget = 0xFF ∧ t.oN Obj.lkPostState = 2 ∧ t.oN Obj.lkPostEnergyService = e.toNat ∧
      t.active = s.active ∧ t.shadow = s.shadow) ∧
  (∀ (s : State) (v : BitVec 32) (e : BitVec 3) (i : BitVec 64), s.postOn = true →
    s.mode = 7 →
    s.oN Obj.lkPostState = 1 →
    s.md.requested = true →
    exec (.cableCheckRequest v e i) s = .next ((s.put Obj.lkPostStopCause 3).put Obj.lkPostState 0)) ∧
  (∀ (s : State) (v : BitVec 32) (e : BitVec 3) (i : BitVec 64), s.mode ≠ 7 ∨ s.oN Obj.lkPostState ≠ 1 →
    exec (.cableCheckRequest v e i) s = .next (s)) ∧
  (∀ (s : State) (k v : BitVec 32), s.postOn = true →
    s.oN Obj.lkPostState = 2 →
    F32.toRat v.toNat ≠ 0 →
    s.isoRho (F32.toRat k.toNat) (F32.toRat v.toNat) < s.cF Obj.lkIsoFault →
    exec (.insulationMeasured k v) s = .next (((((s.put Obj.lkIsoResistance k.toNat).put Obj.lkPostStopCause 5).postOpenContacts).postMod (fun x => { x with test := 0 })).raise FC.lnkIsofault 0)) ∧
  (∀ (s : State) (k v : BitVec 32), s.postOn = true →
    s.oN Obj.lkPostState = 2 →
    F32.toRat v.toNat ≠ 0 →
    s.cF Obj.lkIsoFault ≤ s.isoRho (F32.toRat k.toNat) (F32.toRat v.toNat) →
    s.cF Obj.lkIsoValid ≤ s.isoRho (F32.toRat k.toNat) (F32.toRat v.toNat) →
    exec (.insulationMeasured k v) s = .next (((s.put Obj.lkIsoResistance k.toNat).put Obj.lkPostState 3).postMod (fun x => { x with test := s.oN Obj.lkEvTargetVoltage }))) ∧
  (∀ (s : State) (k v : BitVec 32) (u : State), s.postOn = true →
    s.oN Obj.lkPostState = 2 →
    F32.toRat v.toNat ≠ 0 →
    s.cF Obj.lkIsoFault ≤ s.isoRho (F32.toRat k.toNat) (F32.toRat v.toNat) →
    s.isoRho (F32.toRat k.toNat) (F32.toRat v.toNat) < s.cF Obj.lkIsoValid →
    u = (s.put Obj.lkIsoResistance k.toNat).raise FC.lnkIsowarn 0 →
    u.oN Obj.lkEvTargetVoltage = s.oN Obj.lkEvTargetVoltage →
    exec (.insulationMeasured k v) s = .next ((u.put Obj.lkPostState 3).postMod (fun x => { x with test := s.oN Obj.lkEvTargetVoltage }))) ∧
  (∀ (s : State), s.postOn = true →
    s.oN Obj.lkPostState = 4 →
    s.isoAlarmOn = true →
    exec .isoAlarm s = .next ((s.put Obj.lkPostStopCause 5).raise FC.lnkIsofault 0)) ∧
  (∀ (s : State), s.oN Obj.lkPostState ≠ 4 ∨ s.isoAlarmOn = false →
    exec .isoAlarm s = .next (s)) ∧
  (∀ (s : State) (v a : BitVec 32), s.postOn = true →
    s.oN Obj.lkPostState = 3 →
    exec (.powerDeliveryStart v a) s = .next (((((((s.put Obj.lkPostState 4).put Obj.lkEvTargetVoltage v.toNat).put Obj.lkEvTargetCurrent a.toNat).postMod (fun x => { x with test := v.toNat })).clientAsk
      (F32.ofRat (F32.toRat v.toNat * F32.toRat a.toNat / 1000)) 2).monSettle).postLimit)) ∧
  (∀ (s : State) (v a : BitVec 32), s.oN Obj.lkPostState ≠ 3 ∧ s.oN Obj.lkPostState ≠ 4 →
    exec (.powerDeliveryStart v a) s = .next (s)) ∧
  (∀ (s : State) (role : Role), s.MayWrite role 2 Obj.lkPostStopRequest →
    s.sealPin 6 = true →
    s.postOn = true →
    2 ≤ s.oN Obj.lkPostState ∧ s.oN Obj.lkPostState ≤ 4 →
    exec (.postStopRequest role) s = .next (((s.put Obj.lkPostStopCause 2).put Obj.lkPostState 5).postMod (fun x => { x with ramp := some (s.post.ref, s.tick), test := 0 }))) ∧
  (∀ (s : State) (role : Role), s.MayWrite role 2 Obj.lkPostStopRequest →
    s.station = false →
    exec (.postStopRequest role) s = .next (s.put Obj.roaLastError 0x0C)) ∧
  (∀ (s : State), s.postOn = true →
    s.oN Obj.lkPostState = 5 →
    |s.postAmps| ≤ 5 →
    exec .postCurrentLow s = .next ((s.postOpenContacts.put Obj.lkPostState 6).postMod (fun x => { x with ref := 0, ramp := none }))) ∧
  (∀ (s : State), s.oN Obj.lkPostState ≠ 5 ∨ 5 < |s.postAmps| →
    exec .postCurrentLow s = .next (s)) ∧
  (∀ (s : State), s.postOn = true →
    s.oN Obj.lkPostState = 6 →
    s.mode = 8 →
    s.postVolts < 60 →
    s.md.requested = false →
    s.post.code = 0 →
    s.mon.leaseId = 0 →
    s.oN Obj.tdState = 0 →
    ∃ t, exec .postOutputDischarged s = .next t ∧
      t.mode = 7 ∧ t.oN Obj.modeEntryTime = s.now ∧ t.oN Obj.modeTransitionCause = 0 ∧ t.oN Obj.lkPostState = 0 ∧
      t.active = s.active ∧ t.shadow = s.shadow) ∧
  (∀ (s : State), s.oN Obj.lkPostState ≠ 6 ∨ 60 ≤ s.postVolts →
    exec .postOutputDischarged s = .next (s)) ∧
  (∀ (s : State), s.postOn = true →
    s.oN Obj.lkPostState = 6 →
    60 ≤ s.postVolts →
    exec .postDischargeTimeout s = .next ((s.put Obj.lkPostStopCause 5).raise FC.lnkWeld 0)) ∧
  (∀ (s : State), s.oN Obj.lkPostState ≠ 6 ∨ s.postVolts < 60 →
    exec .postDischargeTimeout s = .next (s)) ∧
  (∀ (s : State) (q : BitVec 2) (p : BitVec 3), s.station = true →
    s.postOn = true →
    s.oN Obj.lkPostState = 0 →
    q = 1 ∨ q = 2 →
    exec (.linkPlugged p q) s = .next ((((s.put Obj.lkPostProtocol q.toNat).put Obj.lkPostEnergyService 0).put Obj.lkPostStopCause 0).put Obj.lkPostState 1)) ∧
  (∀ (s : State), s.station = true →
    s.postOn = true →
    1 ≤ s.oN Obj.lkPostState ∧ s.oN Obj.lkPostState ≤ 4 →
    exec .linkProtocolTimeout s = .next ((s.postStop 5).raise FC.lnkProtocol 0)) ∧
  (∀ (s : State) (a : BitVec 32), s.station = true →
    s.postOn = true →
    s.oN Obj.lkPostState = 1 ∨ s.oN Obj.lkPostState = 7 →
    exec (.linkDetectionLost a) s = .next (s.put Obj.lkPostState 0)) ∧
  (∀ (s : State), s.station = true →
    s.postOn = true →
    s.oN Obj.lkPostState = 2 →
    exec (.inletContactorsConfirmed false) s = .next ((s.put Obj.lkPostStopCause 5).raise FC.lnkContactor 0)) ∧
  (∀ (s : State) (e : BitVec 16) (c : BitVec 11) (ids : List Byte), s.station = false →
    s.lkOn = true →
    s.oN Obj.lkState ≠ 0 →
    exec (.tandemServiceSelection e c false ids) s = .next (s.note FC.lnkTdrefused 0)) ∧
  (∀ (s : State) (e : BitVec 16) (c : BitVec 11) (ids : List Byte), s.station = false →
    s.lkOn = true →
    s.oN Obj.lkState ≠ 0 →
    s.tdPermits e.toNat = false →
    exec (.tandemServiceSelection e c true ids) s = .next (s.note FC.lnkTdrefused 0)) ∧
  (∀ (s : State) (e : BitVec 16) (c : BitVec 11) (ids : List Byte), s.station = false →
    s.lkOn = true →
    s.oN Obj.lkState ≠ 0 →
    s.tdPermits e.toNat = true →
    s.oN Obj.tdState = 0 →
    exec (.tandemServiceSelection e c true ids) s = .next ((((s.put Obj.tdState 1).put Obj.tdConnection c.toNat).tdMod (fun _ => {})).tdManage c.toNat (crc32c (ids.map BitVec.toNat)) s.station)) ∧
  (∀ (s : State), s.station = true →
    1 ≤ s.oN Obj.tdState ∧ s.oN Obj.tdState ≤ 3 →
    exec .lnkTdlock s = .next (s.tdEnd.note FC.lnkTdlock 0)) ∧
  (∀ (s : State), s.oN Obj.tdState = 0 ∨ 3 < s.oN Obj.tdState →
    exec .lnkTdlock s = .next (s)) ∧
  (∀ (s : State), s.station = true →
    s.oN Obj.tdState = 5 →
    exec .tandemFallbackHoldEnd s = .next (s.tdMod (fun d => { d with ramp := some (s.post.ref, s.tick) }))) ∧
  (∀ (s : State), s.oN Obj.tdState ≠ 5 →
    exec .tandemFallbackHoldEnd s = .next (s)) ∧
  (∀ (s : State), s.station = true →
    s.oN Obj.tdState = 5 →
    exec .tandemFallbackRampEnd s = .next ({ (s.put Obj.tdState 6).tdManage 0 0 false with td := {} })) ∧
  (∀ (s : State), s.oN Obj.tdState ≠ 5 →
    exec .tandemFallbackRampEnd s = .next (s))

/-! ## Station power (chapter 15) -/

/-- R369: the pre-charge reached closes the grid contactor in state 2, one not reached ends in state 7 with STN_PRECHARGE; the grid contactor confirmed
releases the pre-charge output, one that disagrees raises; a locked front end with its lines in the window runs its groups in state 3; an output request
and the time without one lead to 4 and back. R371: a trip of a cause 1 to 9 (7 only in export) stops front end and stages, opens the grid
contactor, counts and enters state 6 with its cause and STN_GRIDTRIP; the one that fills StTripMax also opens every output, latches and raises
STN_TRIPLATCH; the delay over and the lines in the window, an unlatched one closes again; the hold time ends the post's session with cause 3. R370: a
step of the power block shows link, grid and output power and, in states 3 and 4, regulates, and lets the post take its step. R372: the removal time takes
the last of several stages off while the power is low; a stage apart from the mean leaves, is named, taken off the available power and raised.
R373: above StLinkOv3 STN_LINKOV is raised; above StLinkOv2 the chopper runs and 10 V below it stops. In another state, or with the reading on the
other side, a command changes nothing but the link voltage that STN_LINKOV shows. -/
def Obligations.StationPowerStates : Prop :=
  (∀ (s : State) (l n : BitVec 32), s.stOn = true →
    s.oN Obj.stState = 1 →
    s.cF Obj.stPrechargeLevel / 100 * sqrt2 * F32.toRat n.toNat ≤ F32.toRat l.toNat →
    exec (.stationPrechargeReached l n) s = .next ((s.soRequest (s.cN Obj.stGridContactor)).put Obj.stState 2)) ∧
  (∀ (s : State) (l n : BitVec 32), s.oN Obj.stState ≠ 1 ∨ F32.toRat l.toNat < s.cF Obj.stPrechargeLevel / 100 * sqrt2 * F32.toRat n.toNat →
    exec (.stationPrechargeReached l n) s = .next (s)) ∧
  (∀ (s : State), s.stOn = true →
    s.oN Obj.stState = 1 →
    exec .stnPrecharge s = .next ((s.stOpen.put Obj.stState 7).raise FC.stnPrecharge 0)) ∧
  (∀ (s : State), s.oN Obj.stState ≠ 1 →
    exec .stnPrecharge s = .next (s)) ∧
  (∀ (s : State), s.stOn = true →
    2 ≤ s.oN Obj.stState ∧ s.oN Obj.stState ≤ 4 →
    exec (.prechargeOutputRelease true) s = .next (s.soRelease (s.cN Obj.stPrechargeOutput))) ∧
  (∀ (s : State), s.stOn = true →
    2 ≤ s.oN Obj.stState ∧ s.oN Obj.stState ≤ 4 →
    exec (.prechargeOutputRelease false) s = .next (s.raise FC.stnContactor 0)) ∧
  (∀ (s : State) (v n : BitVec 32), s.stOn = true →
    s.oN Obj.stState = 2 →
    s.oN (Obj.tbLockState (s.cN Obj.stFeTimebase)) = 2 →
    s.stInWindow n.toNat = true →
    exec (.frontEndSynchronised v n) s = .next (((s.forAll s.feGroups (fun g => State.put (Obj.groupRunRequest g) 1)).put Obj.stState 3).stMod (fun x => { x with base := v.toNat, baseTick := s.tick, x := 0 }))) ∧
  (∀ (s : State) (v n : BitVec 32), s.oN Obj.stState ≠ 2 ∨ s.oN (Obj.tbLockState (s.cN Obj.stFeTimebase)) ≠ 2 ∨ s.stInWindow n.toNat = false →
    exec (.frontEndSynchronised v n) s = .next (s)) ∧
  (∀ (s : State), s.stOn = true →
    s.oN Obj.stState = 3 →
    exec .postOutputRequest s = .next ((s.put Obj.stState 4).stagesUp)) ∧
  (∀ (s : State), s.oN Obj.stState ≠ 3 →
    exec .postOutputRequest s = .next (s)) ∧
  (∀ (s : State), s.stOn = true →
    s.oN Obj.stState = 4 →
    exec .noOutputTimeout s = .next ((s.put Obj.stState 3).forAll s.stagesOn (State.stageLeave false))) ∧
  (∀ (s : State), s.oN Obj.stState ≠ 4 →
    exec .noOutputTimeout s = .next (s)) ∧
  (∀ (s : State) (c : BitVec 4) (u v w : State), s.stOn = true →
    s.oN Obj.stState = 3 ∨ s.oN Obj.stState = 4 →
    1 ≤ c.toNat ∧ c.toNat ≤ 9 →
    c = 7 → F32.toRat s.st.pRef < 0 →
    s.stTripsNow.length + 1 < s.cN Obj.stTripMax →
    u = s.forAll s.feGroups State.stopAtOnce →
    v = u.forAll s.stagesOn (State.stageLeave true) →
    w = ((v.soRelease (v.cN Obj.stGridContactor)).put Obj.stState 6).put Obj.stTripCause c.toNat →
    u.stagesOn = s.stagesOn →
    v.cN Obj.stTripMax = s.cN Obj.stTripMax →
    exec (.stnGridtrip c) s = .next ((((w.incSat Obj.stTripCount).stMod (fun x => { x with trips := s.stTripsNow ++ [s.mono], x := 0, pRef := 0 })).raise FC.stnGridtrip 0).postStep)) ∧
  (∀ (s : State) (c : BitVec 4) (u v w : State), s.stOn = true →
    s.oN Obj.stState = 3 ∨ s.oN Obj.stState = 4 →
    1 ≤ c.toNat ∧ c.toNat ≤ 9 →
    c = 7 → F32.toRat s.st.pRef < 0 →
    s.cN Obj.stTripMax ≤ s.stTripsNow.length + 1 →
    u = s.forAll s.feGroups State.stopAtOnce →
    v = u.forAll s.stagesOn (State.stageLeave true) →
    w = ((v.soRelease (v.cN Obj.stGridContactor)).put Obj.stState 6).put Obj.stTripCause c.toNat →
    u.stagesOn = s.stagesOn →
    v.cN Obj.stTripMax = s.cN Obj.stTripMax →
    exec (.stnGridtrip c) s = .next ((((((w.incSat Obj.stTripCount).stMod (fun x => { x with trips := s.stTripsNow ++ [s.mono], x := 0, pRef := 0 })).stOpen).stMod (fun x => { x with latched := true, trips := [] })).raise FC.stnTriplatch 0).postStep)) ∧
  (∀ (s : State) (n : BitVec 32), s.stOn = true →
    s.oN Obj.stState = 6 →
    s.st.latched = false →
    s.stInWindow n.toNat = true →
    exec (.stationReconnect n) s = .next ((s.soRequest (s.cN Obj.stGridContactor)).put Obj.stState 2)) ∧
  (∀ (s : State) (n : BitVec 32), s.oN Obj.stState ≠ 6 ∨ s.st.latched = true ∨ s.stInWindow n.toNat = false →
    exec (.stationReconnect n) s = .next (s)) ∧
  (∀ (s : State), s.stOn = true →
    s.oN Obj.stState = 2 ∨ s.oN Obj.stState = 6 →
    s.postOn = true →
    2 ≤ s.oN Obj.lkPostState ∧ s.oN Obj.lkPostState ≤ 4 →
    exec .tripHoldTimeout s = .next (((s.put Obj.lkPostStopCause 3).put Obj.lkPostState 5).postMod (fun x => { x with ramp := some (s.post.ref, s.tick), test := 0 }))) ∧
  (∀ (s : State), s.oN Obj.stState ≠ 2 ∧ s.oN Obj.stState ≠ 6 →
    exec .tripHoldTimeout s = .next (s)) ∧
  (∀ (s : State) (l o g : BitVec 32) (u : State), s.stOn = true →
    s.oN Obj.stState = 1 ∨ s.oN Obj.stState = 2 ∨ s.oN Obj.stState = 6 ∨ s.oN Obj.stState = 7 →
    u = ((s.put Obj.stLinkVoltage l.toNat).put Obj.stGridPower g.toNat).putF Obj.stOutputPower ((s.put Obj.stLinkVoltage l.toNat).put Obj.stGridPower g.toNat).postPower →
    exec (.linkRegulation l o g) s = .next (u.postStep)) ∧
  (∀ (s : State) (l o g : BitVec 32) (u : State), s.stOn = true →
    s.oN Obj.stState = 3 →
    u = ((s.put Obj.stLinkVoltage l.toNat).put Obj.stGridPower g.toNat).putF Obj.stOutputPower ((s.put Obj.stLinkVoltage l.toNat).put Obj.stGridPower g.toNat).postPower →
    exec (.linkRegulation l o g) s = .next ((u.regulate (F32.toRat l.toNat) (F32.toRat o.toNat)).postStep)) ∧
  (∀ (s : State) (l o g : BitVec 32) (u : State), s.stOn = true →
    s.oN Obj.stState = 4 →
    u = ((s.put Obj.stLinkVoltage l.toNat).put Obj.stGridPower g.toNat).putF Obj.stOutputPower ((s.put Obj.stLinkVoltage l.toNat).put Obj.stGridPower g.toNat).postPower →
    exec (.linkRegulation l o g) s = .next (((u.regulate (F32.toRat l.toNat) (F32.toRat o.toNat)).stagesUp).postStep)) ∧
  (∀ (s : State) (l o g : BitVec 32), s.stOn = false ∨ s.oN Obj.stState = 0 →
    exec (.linkRegulation l o g) s = .next (s)) ∧
  (∀ (s : State) (k : Nat), s.stOn = true →
    s.oN Obj.stState = 4 →
    1 < s.stagesOn.length →
    |s.oF Obj.stOutputPower| < ((s.stagesOn.length - 1 : Nat) : Rat) * s.cF Obj.stStagePower * 3 / 4 →
    s.stagesOn.getLast? = some k →
    exec .stageRemoveTimeout s = .next (s.stageLeave false k)) ∧
  (∀ (s : State), s.stagesOn.length ≤ 1 ∨ ((s.stagesOn.length - 1 : Nat) : Rat) * s.cF Obj.stStagePower * 3 / 4 ≤ |s.oF Obj.stOutputPower| →
    exec .stageRemoveTimeout s = .next (s)) ∧
  (∀ (s : State) (k : Fin 4) (a : Vector (BitVec 32) 4), s.stagesOn.contains k.val = false ∨ s.stageApart k.val (fun j => F32.toRat (a.toList.getD j 0).toNat) = false →
    exec (.stnStage k a) s = .next (s)) ∧
  (∀ (s : State) (k : Fin 4) (a : Vector (BitVec 32) 4) (u : State), s.stOn = true →
    s.stagesOn.contains k.val = true →
    s.stageApart k.val (fun j => F32.toRat (a.toList.getD j 0).toNat) = true →
    u = (s.stageLeave true k.val).put Obj.stStageLost (setBit ((s.stageLeave true k.val).oN Obj.stStageLost) k.val : Nat) →
    exec (.stnStage k a) s = .next ((((u.putF Obj.stAvailablePower (max 0 (u.oF Obj.stAvailablePower - u.cF Obj.stStagePower))).raise FC.stnStage k.val).monExcess
      (max 0 (u.oF Obj.stAvailablePower - u.cF Obj.stStagePower))).postStep)) ∧
  (∀ (s : State) (v : BitVec 32), s.stOn = true →
    s.oN Obj.stState ≠ 0 →
    s.cF Obj.stLinkOv3 < F32.toRat v.toNat →
    s.isSet FC.stnLinkov 0 = false →
    exec (.stnLinkov v) s = .next ((s.put Obj.stLinkVoltage v.toNat).raise FC.stnLinkov 0)) ∧
  (∀ (s : State) (v : BitVec 32), F32.toRat v.toNat ≤ s.cF Obj.stLinkOv3 →
    exec (.stnLinkov v) s = .next (s.put Obj.stLinkVoltage v.toNat)) ∧
  (∀ (s : State) (v : BitVec 32), s.stOn = true →
    s.cF Obj.stLinkOv2 < F32.toRat v.toNat →
    exec (.stationChopperRun v) s = .next (((s.put Obj.stLinkVoltage v.toNat).forAll (s.put Obj.stLinkVoltage v.toNat).chopGroup (fun g => State.put (Obj.groupRunRequest g) 1)).stMod (fun x => { x with chopper := true }))) ∧
  (∀ (s : State) (v : BitVec 32), F32.toRat v.toNat ≤ s.cF Obj.stLinkOv2 →
    exec (.stationChopperRun v) s = .next (s)) ∧
  (∀ (s : State) (v : BitVec 32), s.stOn = true →
    F32.toRat v.toNat < s.cF Obj.stLinkOv2 - 10 →
    exec (.stationChopperStop v) s = .next (((s.put Obj.stLinkVoltage v.toNat).forAll (s.put Obj.stLinkVoltage v.toNat).chopGroup (fun g => State.put (Obj.groupRunRequest g) 0)).stMod (fun x => { x with chopper := false }))) ∧
  (∀ (s : State) (v : BitVec 32), s.cF Obj.stLinkOv2 - 10 ≤ F32.toRat v.toNat →
    exec (.stationChopperStop v) s = .next (s))

/-! ## Conductor cooling (chapter 15) -/

/-- R378: a flow below CcFlowMin of its reference enters CcState 2 with CC_FLOW, a pressure outside its limits stops the pump with CC_PRESSURE, and with the
reading in its limits neither does anything; a stopped pump restarts at most three times, counted. The pump's speed reference is a free value within 0 and
CcPumpSpeedMax, and the flow is shown anew; nothing else changes (log 6). R376, R377: a step of the conductor model
moves the six nodes of the two conductors, shows the hottest and its temperature; R381: more than 5 °C above CcConductorLimit it ends the post's session
with CC_HOTSPOT, once. Without cooling neither does anything. -/
def Obligations.CoolingPumpAndModel : Prop :=
  (∀ (s : State), s.ccOn = true →
    s.oN Obj.ccState = 1 →
    s.ccFlowNow < s.flowRef * s.cF Obj.ccFlowMin / 100 →
    exec .ccFlow s = .next ((s.put Obj.ccState 2).raise FC.ccFlow 0)) ∧
  (∀ (s : State), s.oN Obj.ccState ≠ 1 ∨ s.flowRef * s.cF Obj.ccFlowMin / 100 ≤ s.ccFlowNow →
    exec .ccFlow s = .next (s)) ∧
  (∀ (s : State), s.ccOn = true →
    s.oN Obj.ccState = 1 ∨ s.oN Obj.ccState = 2 →
    s.pressureOut = true →
    exec .ccPressure s = .next ((s.pumpStop 4).raise FC.ccPressure 0)) ∧
  (∀ (s : State), s.pressureOut = false →
    exec .ccPressure s = .next (s)) ∧
  (∀ (s : State) (u : State), s.ccOn = true →
    s.oN Obj.ccState = 3 →
    s.oN Obj.ccPumpRestarts < 3 →
    u = s.forAll s.pumpGroups (fun g => State.put (Obj.groupRunRequest g) 1) →
    u.oN Obj.ccPumpRestarts = s.oN Obj.ccPumpRestarts →
    exec .pumpRestart s = .next ((u.put Obj.ccState 1).put Obj.ccPumpRestarts ((s.oN Obj.ccPumpRestarts + 1 : Nat)))) ∧
  (∀ (s : State), 3 ≤ s.oN Obj.ccPumpRestarts →
    exec .pumpRestart s = .next (s)) ∧
  (∀ (s : State), s.ccOn = true →
    s.oN Obj.ccState = 1 →
    ∃ t, exec .pumpReferenceUpdate s = .next t ∧
      t.cc.speed = F32.ofRat (max 0 (min (s.cF Obj.ccPumpSpeedMax) (Config.freeValue 1501 s.freeIx : Rat))) ∧ t.freeIx = s.freeIx + 1 ∧
      t = { s with live := t.live, cc := t.cc, freeIx := t.freeIx } ∧ t.cc = { s.cc with speed := t.cc.speed } ∧
      ∀ k, k ≠ Obj.ccFlow → t.o k = s.o k) ∧
  (∀ (s : State), s.ccOn = false →
    exec .pumpReferenceUpdate s = .next (s)) ∧
  (∀ (s : State), s.ccOn = true →
    ∃ t n u, exec .conductorModelStep s = .next t ∧
      n = s.ccSensors.conductorStep s.ccSensors.postAmps 0 (((s.ccSensors.cc.nodes.getD (List.replicate 6 (F32.ofRat s.ccSensors.ccSupply))).map F32.toRat).take 3) ++
      s.ccSensors.conductorStep s.ccSensors.postAmps 1 (((s.ccSensors.cc.nodes.getD (List.replicate 6 (F32.ofRat s.ccSensors.ccSupply))).map F32.toRat).drop 3) ∧
      u.cc.nodes = some (n.map F32.ofRat) ∧ u.oN Obj.ccHotNode = hottest n ∧ u.oN Obj.ccHotSpot = F32.ofRat (n.getD (hottest n) 0) ∧
      t = if u.cF Obj.ccConductorLimit + 5 < n.getD (hottest n) 0 ∧ u.isSet FC.ccHotspot 0 = false then (u.postStop 5).raise FC.ccHotspot 0 else u) ∧
  (∀ (s : State), s.ccOn = false →
    exec .conductorModelStep s = .next (s))

/-! ## Monarch (chapter 15) -/

/-- R392: a frame whose tag fails is counted and noted, one that is not newer than its sender's last (Epochs in serial arithmetic modulo 65,536, then
Sequence) is discarded, whichever of the four it is, both with no effect on the ledger; a newer one is accepted and its pair remembered, as is a sender's
first (the model's choice: DESIGN CHOICE, log 84). R387, R393: an accepted request or renewal is refused with result 5 outside state 2; in it a request is evaluated after the
budget, a renewal of an unknown lease is refused with 2, of an expired one with 3, and else moves the expiry and is answered. R387, R395: an accepted
release drops the lease, or its part where the Amount is smaller; R389: an accepted acknowledgement ends the reduction it answers; both of an unknown
lease, and an acknowledgement with no reduction, change nothing. R384: a frame of no partner, or with Monarch off, does nothing. -/
def Obligations.MonarchServesAuthenticFramesInOrder : Prop :=
  (∀ (s : State) (f : MonIn), s.monOn = true →
    s.monPartner f = true →
    f.tagOk = false →
    exec (.leaseRequest f) s = .next ((s.incSat Obj.monAuthFailCount).note FC.monAuth f.partner.toNat) ∧ exec (.leaseRenew f) s = .next ((s.incSat Obj.monAuthFailCount).note FC.monAuth f.partner.toNat) ∧
      exec (.leaseRelease f) s = .next ((s.incSat Obj.monAuthFailCount).note FC.monAuth f.partner.toNat) ∧ exec (.reduceAcknowledged f) s = .next ((s.incSat Obj.monAuthFailCount).note FC.monAuth f.partner.toNat)) ∧
  (∀ (s : State) (f : MonIn) (e q : Nat), s.monOn = true →
    s.monPartner f = true →
    f.tagOk = true →
    s.mon.peers.lookup f.partner.toNat = some (e, q) →
    f.epoch.toNat = e ∧ f.sequence.toNat ≤ q ∨ f.epoch.toNat ≠ e ∧ epochAfter f.epoch.toNat e = false →
    exec (.leaseRequest f) s = .next (s) ∧ exec (.leaseRenew f) s = .next (s) ∧
      exec (.leaseRelease f) s = .next (s) ∧ exec (.reduceAcknowledged f) s = .next (s)) ∧
  (∀ (s : State) (e l : Nat), e < 65536 →
    l < 65536 →
    epochAfter e l = decide (1 ≤ (e + 65536 - l) % 65536 ∧ (e + 65536 - l) % 65536 ≤ 32767)) ∧
  (∀ (s : State) (f : MonIn) (e q : Nat), f.tagOk = true →
    s.mon.peers.lookup f.partner.toNat = none ∨ s.mon.peers.lookup f.partner.toNat = some (e, q) ∧ (f.epoch.toNat = e ∧ q < f.sequence.toNat ∨ f.epoch.toNat ≠ e ∧ epochAfter f.epoch.toNat e = true) →
    s.monAccept f.partner.toNat f = (s.monMod (fun m => { m with peers := (f.partner.toNat, f.epoch.toNat, f.sequence.toNat) :: m.peers.filter (fun x => x.1 != f.partner.toNat) }), true)) ∧
  (∀ (s : State) (f : MonIn), s.monOn = false ∨ s.monPartner f = false →
    exec (.leaseRequest f) s = .next (s) ∧ exec (.leaseRenew f) s = .next (s) ∧
      exec (.leaseRelease f) s = .next (s) ∧ exec (.reduceAcknowledged f) s = .next (s)) ∧
  (∀ (s : State) (f : MonIn) (u : State), s.monOn = true →
    s.monPartner f = true →
    s.monAccept f.partner.toNat f = (u, true) →
    u.oN Obj.monState ≠ 2 →
    exec (.leaseRequest f) s = .next ((u.monRefuse f 5).monSettle)) ∧
  (∀ (s : State) (f : MonIn) (u : State), s.monOn = true →
    s.monPartner f = true →
    s.monAccept f.partner.toNat f = (u, true) →
    u.oN Obj.monState = 2 →
    exec (.leaseRequest f) s = .next (((u.monEval.monRequest f).monShow).monSettle)) ∧
  (∀ (s : State) (f : MonIn) (u : State), s.monOn = true →
    s.monPartner f = true →
    s.monAccept f.partner.toNat f = (u, true) →
    u.oN Obj.monState ≠ 2 →
    exec (.leaseRenew f) s = .next ((u.monRefuse f 5).monSettle)) ∧
  (∀ (s : State) (f : MonIn) (u : State), s.monOn = true →
    s.monPartner f = true →
    s.monAccept f.partner.toNat f = (u, true) →
    u.oN Obj.monState = 2 →
    u.leaseOf f.partner.toNat f.leaseId.toNat = none →
    exec (.leaseRenew f) s = .next ((u.monRefuse f 2).monSettle)) ∧
  (∀ (s : State) (f : MonIn) (u : State) (l : Lease), s.monOn = true →
    s.monPartner f = true →
    s.monAccept f.partner.toNat f = (u, true) →
    u.oN Obj.monState = 2 →
    u.leaseOf f.partner.toNat f.leaseId.toNat = some l →
    l.expiry < u.now →
    exec (.leaseRenew f) s = .next ((u.monRefuse f 3).monSettle)) ∧
  (∀ (s : State) (f : MonIn) (u : State) (l : Lease), s.monOn = true →
    s.monPartner f = true →
    s.monAccept f.partner.toNat f = (u, true) →
    u.oN Obj.monState = 2 →
    u.leaseOf f.partner.toNat f.leaseId.toNat = some l →
    u.now ≤ l.expiry →
    exec (.leaseRenew f) s = .next (((u.leaseMod l.id (fun x => { x with expiry := u.now + ms (u.cN Obj.monLeaseDuration) })).monSend 4
      { f with amount := BitVec.ofNat 32 l.granted, result := 0, time := BitVec.ofNat 64 (u.now + ms (u.cN Obj.monLeaseDuration)) }).monSettle)) ∧
  (∀ (s : State) (f : MonIn) (u : State) (l : Lease), s.monOn = true →
    s.monPartner f = true →
    s.monAccept f.partner.toNat f = (u, true) →
    u.leaseOf f.partner.toNat f.leaseId.toNat = some l →
    F32.toRat f.amount.toNat ≤ 0 ∨ F32.toRat l.granted ≤ F32.toRat f.amount.toNat →
    exec (.leaseRelease f) s = .next (((u.leaseDrop l.id).monEval).monSettle)) ∧
  (∀ (s : State) (f : MonIn) (u : State) (l : Lease) (q : Nat), s.monOn = true →
    s.monPartner f = true →
    s.monAccept f.partner.toNat f = (u, true) →
    u.leaseOf f.partner.toNat f.leaseId.toNat = some l →
    0 < F32.toRat f.amount.toNat ∧ F32.toRat f.amount.toNat < F32.toRat l.granted →
    q = F32.ofRat (F32.toRat l.granted - F32.toRat f.amount.toNat) →
    exec (.leaseRelease f) s = .next (((u.leaseMod l.id (fun x => { x with granted := q, counted := if x.deadline.isSome then x.counted else q })).monEval).monSettle)) ∧
  (∀ (s : State) (f : MonIn) (u : State), s.monOn = true →
    s.monPartner f = true →
    s.monAccept f.partner.toNat f = (u, true) →
    u.leaseOf f.partner.toNat f.leaseId.toNat = none →
    exec (.leaseRelease f) s = .next u.monSettle ∧ exec (.reduceAcknowledged f) s = .next u.monSettle) ∧
  (∀ (s : State) (f : MonIn) (u : State) (l : Lease), s.monOn = true →
    s.monPartner f = true →
    s.monAccept f.partner.toNat f = (u, true) →
    u.leaseOf f.partner.toNat f.leaseId.toNat = some l →
    l.deadline.isSome = true →
    exec (.reduceAcknowledged f) s = .next ((((u.leaseMod l.id (fun l => { l with counted := l.granted, deadline := none })).monEval.monResume l.id).monShow).monSettle)) ∧
  (∀ (s : State) (f : MonIn) (u : State) (l : Lease), s.monOn = true →
    s.monPartner f = true →
    s.monAccept f.partner.toNat f = (u, true) →
    u.leaseOf f.partner.toNat f.leaseId.toNat = some l →
    l.deadline = none →
    exec (.reduceAcknowledged f) s = .next (u.monSettle))

/-- R385: the evaluation runs in state 2. R386: an expired lease leaves the ledger, which is evaluated anew. R389: a reduction not acknowledged is counted and
ends; without one the deadline does nothing. R393: the hold ends with an empty ledger in state 2; a standby that hears nothing begins its hold; in another
state, or with Monarch off, neither does anything. R387: an authentic, new frame of the client's Monarch is taken: a grant into its lease and expiry (by a
client whose session has ended, it is released), a renewal of its own lease moves the expiry and ends the expiring, a reduction of its own lease gives it
the new amount, R389: acknowledged when the output is down to it; a refusal sets the time of the next try, and a refused renewal or raise makes it ask
afresh in class 1; a renewal or reduction of another lease is not taken. With the client off none is. R387: its period renews a lease, asks afresh after the
expiry and asks again after the retry time. R388: MON_EXPIRED leads to state 4 and is raised once. -/
def Obligations.MonarchTimesAndItsClient : Prop :=
  (∀ (s : State), s.monOn = true →
    s.oN Obj.monState = 2 →
    exec .monarchBudgetEvaluation s = .next (s.monEval)) ∧
  (∀ (s : State), s.monOn = false ∨ s.oN Obj.monState ≠ 2 →
    exec .monarchBudgetEvaluation s = .next (s)) ∧
  (∀ (s : State) (n : BitVec 32), s.monOn = true →
    exec (.leaseExpiry n) s = .next ((({ s with mon := { s.mon with ledger := s.mon.ledger.filter (fun l => l.id != n.toNat), deferred := s.mon.deferred.filter (fun f => f.leaseId.toNat != n.toNat) } } : State).monEval).monSettle)) ∧
  (∀ (s : State) (n : BitVec 32), s.monOn = true →
    s.mon.ledger.any (fun l => l.id == n.toNat && l.deadline.isSome) = true →
    exec (.reductionDeadline n) s = .next (((s.incSat Obj.monNoAckCount).reduced n.toNat).monSettle)) ∧
  (∀ (s : State) (n : BitVec 32), s.mon.ledger.any (fun l => l.id == n.toNat && l.deadline.isSome) = false →
    exec (.reductionDeadline n) s = .next (s)) ∧
  (∀ (s : State), s.monOn = true →
    s.oN Obj.monState = 1 →
    exec .monarchHoldEnd s = .next ((({ s with mon := { s.mon with ledger := [], deferred := [], refused := [], low := false } } : State).put Obj.monState 2).monEval)) ∧
  (∀ (s : State), s.monOn = true →
    s.oN Obj.monState = 3 →
    exec .standbySilence s = .next (s.put Obj.monState 1)) ∧
  (∀ (s : State), (s.oN Obj.monState ≠ 1 → exec .monarchHoldEnd s = .next s) ∧ (s.oN Obj.monState ≠ 3 → exec .standbySilence s = .next s)) ∧
  (∀ (s : State) (n : BitVec 32), s.monOn = false →
    exec (.leaseExpiry n) s = .next s ∧ exec (.reductionDeadline n) s = .next s ∧ exec .monarchHoldEnd s = .next s ∧ exec .standbySilence s = .next s) ∧
  (∀ (s : State) (f : MonIn) (u : State), s.clientOn = true →
    s.monInside s.clientPartner = false →
    s.ptFlag s.clientPartner 0 = true →
    s.monAccept (65536 + s.clientPartner) f = (u, true) →
    u.oN Obj.monClientState ≠ 0 →
    exec (.leaseGrantReceived f) s = .next (({ (((u.put Obj.monClientLease f.amount.toNat).put Obj.monClientExpiry f.time.toNat).put Obj.monClientState 2) with mon := { u.mon with leaseId := f.leaseId.toNat, ackDue := none } } : State).monSettle)) ∧
  (∀ (s : State) (f : MonIn) (u : State), s.clientOn = true →
    s.monInside s.clientPartner = false →
    s.ptFlag s.clientPartner 0 = true →
    s.monAccept (65536 + s.clientPartner) f = (u, true) →
    u.oN Obj.monClientState = 0 →
    exec (.leaseGrantReceived f) s = .next ((((u.monMod (fun m => { m with leaseId := f.leaseId.toNat })).clientSend 7 0 1).monMod (fun m => { m with leaseId := 0 })).monSettle)) ∧
  (∀ (s : State) (f : MonIn) (u : State), s.clientOn = true →
    s.monInside s.clientPartner = false →
    s.ptFlag s.clientPartner 0 = true →
    s.monAccept (65536 + s.clientPartner) f = (u, true) →
    f.leaseId.toNat = u.mon.leaseId ∧ u.mon.leaseId ≠ 0 →
    u.oN Obj.monClientState ≠ 4 →
    exec (.leaseRenewedReceived f) s = .next ((u.put Obj.monClientExpiry f.time.toNat).monSettle)) ∧
  (∀ (s : State) (f : MonIn) (u : State), s.clientOn = true →
    s.monInside s.clientPartner = false →
    s.ptFlag s.clientPartner 0 = true →
    s.monAccept (65536 + s.clientPartner) f = (u, true) →
    f.leaseId.toNat = u.mon.leaseId ∧ u.mon.leaseId ≠ 0 →
    u.oN Obj.monClientState = 4 →
    exec (.leaseRenewedReceived f) s = .next (((u.put Obj.monClientExpiry f.time.toNat).put Obj.monClientState (if u.mon.ackDue.isSome then 3 else 2)).monSettle)) ∧
  (∀ (s : State) (f : MonIn) (u : State), s.clientOn = true →
    s.monInside s.clientPartner = false →
    s.ptFlag s.clientPartner 0 = true →
    s.monAccept (65536 + s.clientPartner) f = (u, true) →
    f.leaseId.toNat = u.mon.leaseId ∧ u.mon.leaseId ≠ 0 →
    exec (.leaseReduceReceived f) s = .next (((((u.put Obj.monClientLease f.amount.toNat).put Obj.monClientState 3).monMod (fun m => { m with ackDue := some f.amount.toNat })).clientStep).monSettle)) ∧
  (∀ (s : State) (f : MonIn) (u : State), s.clientOn = true →
    s.monInside s.clientPartner = false →
    s.ptFlag s.clientPartner 0 = true →
    s.monAccept (65536 + s.clientPartner) f = (u, true) →
    f.leaseId.toNat ≠ u.mon.leaseId ∨ u.mon.leaseId = 0 →
    exec (.leaseRenewedReceived f) s = .next u.monSettle ∧ exec (.leaseReduceReceived f) s = .next u.monSettle) ∧
  (∀ (s : State) (a : Nat), s.mon.ackDue = some a →
    s.oN Obj.monClientState = 3 →
    |s.postPower| ≤ |F32.toRat a| →
    s.clientStep = ((s.monMod (fun m => { m with ackDue := none })).put Obj.monClientState 2).clientSend 6 a 1) ∧
  (∀ (s : State) (f : MonIn) (u : State), s.clientOn = true →
    s.monInside s.clientPartner = false →
    s.ptFlag s.clientPartner 0 = true →
    s.monAccept (65536 + s.clientPartner) f = (u, true) →
    u.mon.leaseId = 0 ∨ f.leaseId.toNat ≠ u.mon.leaseId ∨ (f.result.toNat ≠ 2 ∧ f.result.toNat ≠ 3) →
    exec (.leaseRefusedReceived f) s = .next ((u.monMod (fun m => { m with retryAt := f.time.toNat })).monSettle)) ∧
  (∀ (s : State) (f : MonIn) (u : State) (a c : Nat), s.clientOn = true →
    s.monInside s.clientPartner = false →
    s.ptFlag s.clientPartner 0 = true →
    s.monAccept (65536 + s.clientPartner) f = (u, true) →
    f.leaseId.toNat = u.mon.leaseId ∧ u.mon.leaseId ≠ 0 →
    f.result.toNat = 2 ∨ f.result.toNat = 3 →
    u.mon.asked = some (a, c) →
    exec (.leaseRefusedReceived f) s = .next (((u.monMod (fun m => { m with retryAt := f.time.toNat })).clientLapse.clientAsk a 1).monSettle)) ∧
  (∀ (s : State) (f : MonIn), s.clientOn = false ∨ s.monInside s.clientPartner = true ∨ s.ptFlag s.clientPartner 0 = false →
    exec (.leaseGrantReceived f) s = .next s ∧ exec (.leaseRenewedReceived f) s = .next s ∧
      exec (.leaseReduceReceived f) s = .next s ∧ exec (.leaseRefusedReceived f) s = .next s) ∧
  (∀ (s : State), s.clientOn = true →
    s.oN Obj.monClientState = 2 ∨ s.oN Obj.monClientState = 3 ∨ s.oN Obj.monClientState = 4 ∧ s.now < s.oN Obj.monClientExpiry →
    exec .clientRenewDue s = .next ((s.clientSend 3 (s.oN Obj.monClientLease) 1).monSettle)) ∧
  (∀ (s : State) (a c : Nat), s.clientOn = true →
    s.oN Obj.monClientState = 4 →
    s.oN Obj.monClientExpiry ≤ s.now →
    s.mon.asked = some (a, c) →
    exec .clientRenewDue s = .next ((s.clientLapse.clientAsk a 1).monSettle)) ∧
  (∀ (s : State) (a c : Nat), s.clientOn = true →
    s.oN Obj.monClientState = 1 →
    s.mon.asked = some (a, c) →
    s.mon.retryAt ≤ s.now →
    exec .clientRenewDue s = .next ((s.clientAsk a c).monSettle)) ∧
  (∀ (s : State), s.clientOn = true →
    s.oN Obj.monClientState = 2 ∨ s.oN Obj.monClientState = 3 →
    exec .monExpired s = .next ((s.put Obj.monClientState 4).raise FC.monExpired 0)) ∧
  (∀ (s : State), s.clientOn = false ∨ s.oN Obj.monClientState < 2 ∨ s.oN Obj.monClientState = 4 →
    exec .monExpired s = .next (s))

/-! ## Object access (chapter 17) -/

/-- R435 to R442: a request of an open session whose tag verifies and whose nonce is new is served by its own service in the state in which the
session has taken the nonce, and is answered on the transport on which it came; Close closes the session after its answer. -/
def Obligations.AcceptedRequestsAreServedAndAnswered : Prop :=
  (∀ (s : State) (q : RoaReq) (x : RoaSess), s.Accepts q x →
    exec (.keepAlive q) s = .next (State.answered q 0x03 0 0 (s.accepted q x, {}))) ∧
  (∀ (s : State) (q : RoaReq) (x : RoaSess), s.Accepts q x →
    exec (.roaClose q) s = .next ((State.answered q 0x02 0 0 (s.accepted q x, {})).closeSess q.session.toNat)) ∧
  (∀ (s : State) (q : RoaReq) (x : RoaSess) (i : BitVec 16) (sub : Byte), s.Accepts q x →
    exec (.roaRead q i sub) s = .next (State.answered q 0x04 i.toNat sub.toNat ((s.accepted q x).readOne x.num q.transport.toNat i.toNat sub.toNat q.inForce))) ∧
  (∀ (s : State) (q : RoaReq) (x : RoaSess) (i : BitVec 16) (sub : Byte) (d : List Byte), s.Accepts q x →
    exec (.roaWrite q i sub d) s = .next (State.answered q 0x05 i.toNat sub.toNat
      (((s.accepted q x).write x.role i.toNat sub.toNat d.length (dataValue i.toNat sub.toNat (numOf (bytesNat d)))).1,
      { code := ((s.accepted q x).write x.role i.toNat sub.toNat d.length (dataValue i.toNat sub.toNat (numOf (bytesNat d)))).2 }))) ∧
  (∀ (s : State) (q : RoaReq) (x : RoaSess) (i : BitVec 16) (a b : Byte), s.Accepts q x →
    exec (.recordRead q i a b) s = .next (State.answered q 0x06 i.toNat a.toNat ((s.accepted q x).recordRead q.transport.toNat i.toNat a.toNat b.toNat q.inForce))) ∧
  (∀ (s : State) (q : RoaReq) (x : RoaSess) (i : BitVec 16) (a b : Byte) (d : List Byte), s.Accepts q x →
    exec (.recordWrite q i a b d) s = .next (State.answered q 0x07 i.toNat a.toNat ((s.accepted q x).recordWrite x.role i.toNat a.toNat b.toNat (bytesNat d)))) ∧
  (∀ (s : State) (q : RoaReq) (x : RoaSess) (i : BitVec 16) (sub : Byte), s.Accepts q x →
    exec (.describe q i sub) s = .next (State.answered q 0x08 i.toNat sub.toNat (s.accepted q x, (s.accepted q x).describe i.toNat sub.toNat))) ∧
  (∀ (s : State) (q : RoaReq) (x : RoaSess) (i : BitVec 16) (sub : Byte), s.Accepts q x →
    exec (.blockReadStart q i sub) s = .next (State.answered q 0x09 i.toNat sub.toNat ((s.accepted q x).blockRead (sessAfter x q s.mono) i.toNat sub.toNat q.inForce))) ∧
  (∀ (s : State) (q : RoaReq) (x : RoaSess) (off : BitVec 32), s.Accepts q x →
    exec (.blockReadSegment q off) s = .next (State.answered q 0x0A 0 0 ((s.accepted q x).readSegment (sessAfter x q s.mono) q.transport.toNat off.toNat))) ∧
  (∀ (s : State) (q : RoaReq) (x : RoaSess) (i : BitVec 16) (sub : Byte) (n c : BitVec 32), s.Accepts q x →
    exec (.blockWriteStart q i sub n c) s = .next (State.answered q 0x0B i.toNat sub.toNat ((s.accepted q x).blockWrite (sessAfter x q s.mono) i.toNat sub.toNat n.toNat c.toNat))) ∧
  (∀ (s : State) (q : RoaReq) (x : RoaSess) (off : BitVec 32) (d : List Byte), s.Accepts q x →
    exec (.blockWriteSegment q off d) s = .next (State.answered q 0x0C 0 0 ((s.accepted q x).writeSegment (sessAfter x q s.mono) q.transport.toNat off.toNat (bytesNat d)))) ∧
  (∀ (s : State) (q : RoaReq) (x : RoaSess), s.Accepts q x →
    exec (.blockWriteEnd q) s = .next (State.answered q 0x0D 0 0 ((s.accepted q x).blockEnd (sessAfter x q s.mono)))) ∧
  (∀ (s : State) (q : RoaReq) (x : RoaSess) (y : RoaXfer), s.Accepts q x →
    x.xfer = some y →
    exec (.blockAbort q) s = .next (State.answered q 0x0E 0 0 ((s.accepted q x).xferEnd x.num, {}))) ∧
  (∀ (s : State) (q : RoaReq) (x : RoaSess), s.Accepts q x →
    x.xfer = none →
    exec (.blockAbort q) s = .next (State.answered q 0x0E 0 0 ((s.accepted q x).noXfer (sessAfter x q s.mono))))

/-- R434: an Open with a good tag and room adds a pending session with the lowest free number; beyond the limits (16 sessions and pending ones together, 4
pending, one Vendor, one Metrologist) it is refused with 0x11; with a bad tag or no such role it is counted. R435: a request of no session or with a bad
tag is discarded and counted, RoaMaxTagFailures in a row close the session with ROA_AUTH, a used nonce is discarded and counted, one that reaches
2^31 is answered with 0x12 and closes the session with ROA_REKEY, the codes with the session as their instance (R586); on a carrier that is off nothing
happens. A pending session lapses, an idle one closes, with its snapshots and transfer. R442: a transfer without segments lapses, and its next segment is
refused with 0x15, once. R440: a snapshot is discarded and counted. R445, R515: a wrapped key is refused with the code of its block, of another length
than 24 bytes with 0x07, and with 0x13 where its unwrap fails; else it is stored and counted. Slots of a received frame are taken up once, by entry (R450). -/
def Obligations.SessionsOpenCloseAndRefuse : Prop :=
  (∀ (s : State) (q : RoaReq) (c : Byte) (r : BitVec 32) (role : Role), s.up = true →
    s.roaOn q.transport.toNat = true →
    roleOf c.toNat = some role →
    q.tagOk = true →
    s.openRefused role = false →
    ∃ t y, exec (.roaOpen q c r) s = .next t ∧
      t.roa.sessions = s.roa.sessions ++ [y] ∧ y.role = role ∧ y.transport = q.transport.toNat ∧ y.waiting = true ∧ y.nonceIn = 0 ∧
      1 ≤ y.num ∧ y.num ≤ 16 ∧ s.sess y.num = none ∧
      ∀ k < 16, 1 ≤ k → k < y.num → (s.sess k).isSome = true ∧
      t.active = s.active ∧ t.shadow = s.shadow ∧ t.mem = s.mem ∧ t.mode = s.mode) ∧
  (∀ (s : State) (q : RoaReq) (c : Byte) (r : BitVec 32) (role : Role), s.up = true →
    s.roaOn q.transport.toNat = true →
    roleOf c.toNat = some role →
    q.tagOk = true →
    s.openRefused role = true →
    exec (.roaOpen q c r) s = .next (((s.incSat Obj.roaOpenRefusedCount).refuse 0x11).sendPdu q.transport.toNat (responsePdu (s.nv.roleKeys.getD c.toNat 0) 0x01 0 0 0 0 { code := 0x11 }))) ∧
  (∀ (s : State) (role : Role), s.openRefused role = (decide (16 ≤ s.roa.sessions.length) || decide (4 ≤ (s.roa.sessions.filter (fun x => x.waiting)).length) ||
      ((role == .vendor || role == .metrologist) && s.roa.sessions.any (fun x => x.role == role)))) ∧
  (∀ (s : State) (q : RoaReq) (c : Byte) (r : BitVec 32), s.up = true →
    s.roaOn q.transport.toNat = true →
    q.tagOk = false ∨ roleOf c.toNat = none →
    exec (.roaOpen q c r) s = .next (s.incSat Obj.roaTagFailCount)) ∧
  (∀ (s : State) (q : RoaReq) (c : Byte) (r : BitVec 32), s.up = false ∨ s.roaOn q.transport.toNat = false →
    exec (.roaOpen q c r) s = .next (s)) ∧
  (∀ (s : State) (q : RoaReq) (svc i sub : Nat) (f : RoaSess → State → State × RoaReply), s.up = false ∨ s.roaOn q.transport.toNat = false →
    s.serve svc q i sub f = s) ∧
  (∀ (s : State) (q : RoaReq) (svc i sub : Nat) (f : RoaSess → State → State × RoaReply), s.up = true →
    s.roaOn q.transport.toNat = true →
    s.sess q.session.toNat = none →
    s.serve svc q i sub f = s.incSat Obj.roaTagFailCount) ∧
  (∀ (s : State) (q : RoaReq) (svc i sub : Nat) (f : RoaSess → State → State × RoaReply) (x : RoaSess), s.up = true →
    s.roaOn q.transport.toNat = true →
    s.sess q.session.toNat = some x →
    q.tagOk = false →
    s.serve svc q i sub f = s.tagFails q.session.toNat) ∧
  (∀ (s : State) (n : Nat) (x : RoaSess), s.sess n = some x →
    x.fails + 1 < s.oN Obj.roaMaxTagFailures →
    s.tagFails n = (s.incSat Obj.roaTagFailCount).sessMod n (fun x => { x with fails := x.fails + 1 })) ∧
  (∀ (s : State) (n : Nat) (x : RoaSess), s.sess n = some x →
    s.oN Obj.roaMaxTagFailures ≤ x.fails + 1 →
    s.tagFails n = (((s.incSat Obj.roaTagFailCount).sessMod n (fun x => { x with fails := x.fails + 1 })).closeSess n).note FC.roaAuth n) ∧
  (∀ (s : State) (q : RoaReq) (svc i sub : Nat) (f : RoaSess → State → State × RoaReply) (x : RoaSess), s.up = true →
    s.roaOn q.transport.toNat = true →
    s.sess q.session.toNat = some x →
    q.tagOk = true →
    q.nonce.toNat ≤ x.nonceIn →
    s.serve svc q i sub f = ((s.sessMod q.session.toNat (fun y => { y with fails := 0 })).incSat Obj.roaReplayCount).note FC.roaReplay q.session.toNat) ∧
  (∀ (s : State) (q : RoaReq) (svc i sub : Nat) (f : RoaSess → State → State × RoaReply) (x : RoaSess), s.up = true →
    s.roaOn q.transport.toNat = true →
    s.sess q.session.toNat = some x →
    q.tagOk = true →
    x.nonceIn < q.nonce.toNat →
    2147483648 ≤ q.nonce.toNat →
    s.serve svc q i sub f = (((s.reply q.session.toNat q.transport.toNat svc i sub { code := 0x12 }).closeSess q.session.toNat).incSat Obj.roaRekeyCount).note FC.roaRekey q.session.toNat) ∧
  (∀ (s : State) (q : RoaReq) (i : BitVec 16) (a b : Byte) (d : List Byte) (n c : BitVec 32), s.up = false ∨ s.roaOn q.transport.toNat = false ∨ s.sess q.session.toNat = none →
    exec (.roaClose q) s = .next (s.serve 0x02 q 0 0 (fun _ u => (u, {}))) ∧
      exec (.keepAlive q) s = .next (s.serve 0x03 q 0 0 (fun _ u => (u, {}))) ∧
      exec (.roaRead q i a) s = .next (s.serve 0x04 q i.toNat a.toNat (fun _ u => (u, {}))) ∧
      exec (.roaWrite q i a d) s = .next (s.serve 0x05 q i.toNat a.toNat (fun _ u => (u, {}))) ∧
      exec (.recordRead q i a b) s = .next (s.serve 0x06 q i.toNat a.toNat (fun _ u => (u, {}))) ∧
      exec (.recordWrite q i a b d) s = .next (s.serve 0x07 q i.toNat a.toNat (fun _ u => (u, {}))) ∧
      exec (.describe q i a) s = .next (s.serve 0x08 q i.toNat a.toNat (fun _ u => (u, {}))) ∧
      exec (.blockReadStart q i a) s = .next (s.serve 0x09 q i.toNat a.toNat (fun _ u => (u, {}))) ∧
      exec (.blockReadSegment q n) s = .next (s.serve 0x0A q 0 0 (fun _ u => (u, {}))) ∧
      exec (.blockWriteStart q i a n c) s = .next (s.serve 0x0B q i.toNat a.toNat (fun _ u => (u, {}))) ∧
      exec (.blockWriteSegment q n d) s = .next (s.serve 0x0C q 0 0 (fun _ u => (u, {}))) ∧
      exec (.blockWriteEnd q) s = .next (s.serve 0x0D q 0 0 (fun _ u => (u, {}))) ∧
      exec (.blockAbort q) s = .next (s.serve 0x0E q 0 0 (fun _ u => (u, {})))) ∧
  (∀ (s : State) (q : RoaReq) (i : BitVec 16) (a b : Byte) (d : List Byte) (n c : BitVec 32) (x : RoaSess), s.sess q.session.toNat = some x →
    q.tagOk = false ∨ q.nonce.toNat ≤ x.nonceIn →
    exec (.roaClose q) s = .next (s.serve 0x02 q 0 0 (fun _ u => (u, {}))) ∧
      exec (.keepAlive q) s = .next (s.serve 0x03 q 0 0 (fun _ u => (u, {}))) ∧
      exec (.roaRead q i a) s = .next (s.serve 0x04 q i.toNat a.toNat (fun _ u => (u, {}))) ∧
      exec (.roaWrite q i a d) s = .next (s.serve 0x05 q i.toNat a.toNat (fun _ u => (u, {}))) ∧
      exec (.recordRead q i a b) s = .next (s.serve 0x06 q i.toNat a.toNat (fun _ u => (u, {}))) ∧
      exec (.recordWrite q i a b d) s = .next (s.serve 0x07 q i.toNat a.toNat (fun _ u => (u, {}))) ∧
      exec (.describe q i a) s = .next (s.serve 0x08 q i.toNat a.toNat (fun _ u => (u, {}))) ∧
      exec (.blockReadStart q i a) s = .next (s.serve 0x09 q i.toNat a.toNat (fun _ u => (u, {}))) ∧
      exec (.blockReadSegment q n) s = .next (s.serve 0x0A q 0 0 (fun _ u => (u, {}))) ∧
      exec (.blockWriteStart q i a n c) s = .next (s.serve 0x0B q i.toNat a.toNat (fun _ u => (u, {}))) ∧
      exec (.blockWriteSegment q n d) s = .next (s.serve 0x0C q 0 0 (fun _ u => (u, {}))) ∧
      exec (.blockWriteEnd q) s = .next (s.serve 0x0D q 0 0 (fun _ u => (u, {}))) ∧
      exec (.blockAbort q) s = .next (s.serve 0x0E q 0 0 (fun _ u => (u, {})))) ∧
  (∀ (s : State) (q : RoaReq) (i : BitVec 16) (a b : Byte) (d : List Byte) (n c : BitVec 32) (x : RoaSess), s.sess q.session.toNat = some x →
    x.nonceIn < q.nonce.toNat →
    2147483648 ≤ q.nonce.toNat →
    exec (.keepAlive q) s = .next (s.serve 0x03 q 0 0 (fun _ u => (u, {}))) ∧
      exec (.roaRead q i a) s = .next (s.serve 0x04 q i.toNat a.toNat (fun _ u => (u, {}))) ∧
      exec (.roaWrite q i a d) s = .next (s.serve 0x05 q i.toNat a.toNat (fun _ u => (u, {}))) ∧
      exec (.recordRead q i a b) s = .next (s.serve 0x06 q i.toNat a.toNat (fun _ u => (u, {}))) ∧
      exec (.recordWrite q i a b d) s = .next (s.serve 0x07 q i.toNat a.toNat (fun _ u => (u, {}))) ∧
      exec (.describe q i a) s = .next (s.serve 0x08 q i.toNat a.toNat (fun _ u => (u, {}))) ∧
      exec (.blockReadStart q i a) s = .next (s.serve 0x09 q i.toNat a.toNat (fun _ u => (u, {}))) ∧
      exec (.blockReadSegment q n) s = .next (s.serve 0x0A q 0 0 (fun _ u => (u, {}))) ∧
      exec (.blockWriteStart q i a n c) s = .next (s.serve 0x0B q i.toNat a.toNat (fun _ u => (u, {}))) ∧
      exec (.blockWriteSegment q n d) s = .next (s.serve 0x0C q 0 0 (fun _ u => (u, {}))) ∧
      exec (.blockWriteEnd q) s = .next (s.serve 0x0D q 0 0 (fun _ u => (u, {}))) ∧
      exec (.blockAbort q) s = .next (s.serve 0x0E q 0 0 (fun _ u => (u, {})))) ∧
  (∀ (s : State) (q : RoaReq) (x : RoaSess), s.up = true →
    s.roaOn q.transport.toNat = true →
    s.sess q.session.toNat = some x →
    q.tagOk = true →
    x.nonceIn < q.nonce.toNat →
    2147483648 ≤ q.nonce.toNat →
    exec (.roaClose q) s = .next ((s.serve 0x02 q 0 0 (fun _ u => (u, {}))).closeSess q.session.toNat)) ∧
  (∀ (s : State) (n : BitVec 16) (x : RoaSess), s.sess n.toNat = some x →
    x.waiting = true →
    exec (.sessionPendingLapse n) s = .next (s.closeSess n.toNat)) ∧
  (∀ (s : State) (n : BitVec 16) (x : RoaSess), s.sess n.toNat = none ∨ s.sess n.toNat = some x ∧ x.waiting = false →
    exec (.sessionPendingLapse n) s = .next (s)) ∧
  (∀ (s : State) (n : BitVec 16) (x : RoaSess), s.sess n.toNat = some x →
    x.waiting = false →
    exec (.sessionIdleTimeout n) s = .next (s.closeSess n.toNat)) ∧
  (∀ (s : State) (n : BitVec 16) (x : RoaSess), s.sess n.toNat = none ∨ s.sess n.toNat = some x ∧ x.waiting = true →
    exec (.sessionIdleTimeout n) s = .next (s)) ∧
  (∀ (s : State) (n : Nat) (x : RoaSess), s.sess n = some x →
    (s.closeSess n).roa.sessions = s.roa.sessions.filter (fun y => y.num != n) ∧
      (s.closeSess n).oN Obj.roaSessionCount = ((s.closeSess n).roa.sessions.filter (fun y => !y.waiting)).length ∧
      (s.closeSess n).active = s.active ∧ (s.closeSess n).shadow = s.shadow ∧ (s.closeSess n).mem = s.mem) ∧
  (∀ (s : State) (n : BitVec 16) (x : RoaSess) (y : RoaXfer), s.sess n.toNat = some x →
    x.xfer = some y →
    exec (.blockTransferTimeout n) s = .next ((s.xferEnd n.toNat).sessMod n.toNat (fun x => { x with lapsed := true }))) ∧
  (∀ (s : State) (n : BitVec 16) (x : RoaSess), s.sess n.toNat = none ∨ s.sess n.toNat = some x ∧ x.xfer = none →
    exec (.blockTransferTimeout n) s = .next (s)) ∧
  (∀ (s : State) (x : RoaSess), x.lapsed = true →
    s.noXfer x = (s.sessMod x.num (fun y => { y with lapsed := false }), { code := if x.lapsed then 0x15 else 0x0E })) ∧
  (∀ (s : State) (x : RoaSess), x.lapsed = false →
    s.noXfer x = (s, { code := 0x0E })) ∧
  (∀ (s : State) (n i : BitVec 16), s.snapOf n.toNat i.toNat = none →
    exec (.snapshotDiscard n i) s = .next (s)) ∧
  (∀ (s : State) (n i : BitVec 16) (z : RoaSnap), s.snapOf n.toNat i.toNat = some z →
    exec (.snapshotDiscard n i) s = .next ((((s.snapDrop n.toNat i.toNat).sessMod n.toNat (fun x => { x with dropped := i.toNat :: x.dropped.filter (· != i.toNat) })).incSat
      Obj.roaSnapshotDiscardCount).snapOver z)) ∧
  (∀ (s : State) (n : BitVec 16) (c : Byte) (k : List Byte) (x : RoaSess), s.up = true →
    s.sess n.toNat = some x →
    s.blockCode x.role (0x1110 + c.toNat) 1 = 0 →
    k.length ≠ 24 →
    exec (.roleKeyWrite n c k) s = .next (s.put Obj.roaLastError 0x07)) ∧
  (∀ (s : State) (n : BitVec 16) (c : Byte) (k : List Byte) (x : RoaSess), s.up = true →
    s.sess n.toNat = some x →
    s.blockCode x.role (0x1110 + c.toNat) 1 = 0 →
    k.length = 24 →
    exec (.roleKeyWrite n c k) s = .next ((s.writeRoleKey c.toNat x.key (bytesNat k)).1)) ∧
  (∀ (s : State) (n : BitVec 16) (k : List Byte) (x : RoaSess), s.up = true →
    s.sess n.toNat = some x →
    s.blockCode x.role 0x1601 0 = 0 →
    k.length = 24 →
    exec (.partnerKeyWrite n k) s = .next ((s.writePartnerKey x.key (bytesNat k)).1)) ∧
  (∀ (s : State) (n : BitVec 16) (c : Byte) (k : List Byte) (x : RoaSess), s.up = true →
    s.sess n.toNat = some x →
    s.blockCode x.role (0x1110 + c.toNat) 1 ≠ 0 →
    exec (.roleKeyWrite n c k) s = .next (s.refuse (s.blockCode x.role (0x1110 + c.toNat) 1))) ∧
  (∀ (s : State) (r y : Nat) (k : List Nat), s.writeRoleKey r y k = (match Config.keyUnwrap y k with | none => (s.refuse 0x13, 0x13) | some v => (({ s with nv := { s.nv with roleKeys := s.nv.roleKeys.set r v } } : State).inc32 (Obj.keyVersion r), 0)) ∧
      s.writePartnerKey y k = (match Config.keyUnwrap y k with | none => (s.refuse 0x13, 0x13) | some v => ({ s with nv := { s.nv with partnerKeys := (s.oN Obj.partnerKeySelect, v) :: s.nv.partnerKeys.filter (fun p => p.1 != s.oN Obj.partnerKeySelect) } }, 0))) ∧
  (∀ (s : State) (n : BitVec 16) (k : List Byte) (x : RoaSess), s.up = true →
    s.sess n.toNat = some x →
    s.blockCode x.role 0x1601 0 = 0 →
    k.length ≠ 24 →
    exec (.partnerKeyWrite n k) s = .next (s.refuse 0x07)) ∧
  (∀ (s : State) (n : BitVec 16) (k : List Byte) (x : RoaSess), s.up = true →
    s.sess n.toNat = some x →
    s.blockCode x.role 0x1601 0 ≠ 0 →
    exec (.partnerKeyWrite n k) s = .next (s.refuse (s.blockCode x.role 0x1601 0))) ∧
  (∀ (s : State) (n : BitVec 16) (c : Byte) (k : List Byte), s.up = false ∨ s.sess n.toNat = none →
    exec (.partnerKeyWrite n k) s = .next s ∧ exec (.roleKeyWrite n c k) s = .next s) ∧
  (∀ (s : State) (e : BitVec 13), s.up = true →
    s.takeup.contains e.toNat = true →
    exec (.slotHostTakeup e) s = .next ({ (s.forAll ((s.entrySlots e.toNat false).filter (fun q => !sdToMailbox (s.slotDesc q))) State.slotTake) with takeup := (s.forAll ((s.entrySlots e.toNat false).filter (fun q => !sdToMailbox (s.slotDesc q))) State.slotTake).takeup.filter (· != e.toNat) })) ∧
  (∀ (s : State) (e : BitVec 13), s.takeup.contains e.toNat = false →
    exec (.slotHostTakeup e) s = .next (s)) ∧
  (∀ (s : State) (e : BitVec 13), s.up = false →
    exec (.slotHostTakeup e) s = .next (s))

/-! ## CAN (chapter 18) -/

/-- R458: a good frame is counted and goes to ROA on its request identifier, or by the first filter that matches to nothing, a partner entry or a buffer
(too long for it, it is counted); one that no filter matches is counted; one of a format that CanFrameMode does not accept leads to integration. R461,
R462: a locked buffer keeps its frame, a new one waits as its copy until the release, which moves it in; a lost one is an overrun. R464: a sent head leaves
the queue, is counted and stamped, its connection's number is the last sent; a submitted frame is queued last, or refused with 0x13 and its code. R465: an
abort removes the head, everything, or all but the ESL frames; a head on the wire waits for its end, and an error ends it then. R466: a head's wait that
reaches its limit is raised once. R467, R468: errors are counted by sender and receiver, above 127 the controller is passive, above 255 off the bus until
it recovers, at once or on command, with both counters 0. R469: the stale ESL frames of its queue are made anew with the next number after the last sent,
and with CanBusOffFlush the others go. R470: the fourth clash error of the head holds it. R456, R457: Antenna starts (after a recovery that runs), counts
four good frames of a rate, excludes it at an error, and ends found with the data rate that four frames agreed with, not found, or stopped. A role below
Operator is refused with 0x05. -/
def Obligations.CanControllersReceiveSendAndRecover : Prop :=
  (∀ (s : State) (c : Fin 8) (h : Vector (BitVec 32) 5) (d : List Byte) (a : BitVec 32), s.canRuns c.val = false ∨ s.oN (Obj.canState c.val) = 7 ∧ (s.canx c.val).ant.step = 1 →
    exec (.canFrameReceived c h d a) s = .next (s)) ∧
  (∀ (s : State) (c : Fin 8) (h : Vector (BitVec 32) 5) (d : List Byte) (a : BitVec 32), s.canRuns c.val = true →
    s.oN (Obj.canState c.val) ≠ 7 →
    s.formatOk c.val (hdrKind (h.toList.map BitVec.toNat)) = false →
    exec (.canFrameReceived c h d a) s = .next (s.canStart c.val)) ∧
  (∀ (s : State) (c : Fin 8) (h : Vector (BitVec 32) 5) (d : List Byte) (a : BitVec 32), s.oN (Obj.canState c.val) = 7 →
    s.formatOk c.val (hdrKind (h.toList.map BitVec.toNat)) = false →
    exec (.canFrameReceived c h d a) s = .next (s)) ∧
  (∀ (s : State) (c : Fin 8) (h : Vector (BitVec 32) 5) (d : List Byte) (a : BitVec 32) (g : List Nat) (u : State), s.canRuns c.val = true →
    s.oN (Obj.canState c.val) ≠ 7 ∨ (s.canx c.val).ant.step ≠ 1 →
    s.formatOk c.val (hdrKind (h.toList.map BitVec.toNat)) = true →
    g = [(h.toList.getD 0 0).toNat % 2 ^ 30, (h.toList.getD 1 0).toNat, s.stampAt a.toNat, (h.toList.getD 3 0).toNat, (h.toList.getD 4 0).toNat] →
    u = ((s.inc32 (Obj.canRxFrameCount c.val)).antennaHears c.val true).canRecDown c.val →
    exec (.canFrameReceived c h d a) s = .next (u.canDeliver c.val g (fit (hdrLength g) (bytesNat d)))) ∧
  (∀ (s : State) (c : Nat) (h d : List Nat), (s.cN Obj.roaCanEnable).testBit c = true →
    hdrId h = s.cN Obj.roaCanRequestId →
    s.canDeliver c h d = s.roaPdu (if hdrKind h = 2 then 16 + c else c) d) ∧
  (∀ (s : State) (c : Nat) (h d : List Nat), ¬ ((s.cN Obj.roaCanEnable).testBit c = true ∧ hdrId h = s.cN Obj.roaCanRequestId) →
    s.filterFor c h = none →
    s.canDeliver c h d = s.incSat (Obj.canRxNoMatchCount c)) ∧
  (∀ (s : State) (c : Nat) (h d : List Nat) (w : Nat), ¬ ((s.cN Obj.roaCanEnable).testBit c = true ∧ hdrId h = s.cN Obj.roaCanRequestId) →
    s.filterFor c h = some w →
    w / 2 ^ 93 % 4 = 0 →
    s.canDeliver c h d = s) ∧
  (∀ (s : State) (c : Nat) (h d : List Nat) (w : Nat), ¬ ((s.cN Obj.roaCanEnable).testBit c = true ∧ hdrId h = s.cN Obj.roaCanRequestId) →
    s.filterFor c h = some w →
    w / 2 ^ 93 % 4 = 2 →
    s.canDeliver c h d = s.entryFrame (w / 2 ^ 64 % 8192) d) ∧
  (∀ (s : State) (c : Nat) (h d : List Nat) (w : Nat), ¬ ((s.cN Obj.roaCanEnable).testBit c = true ∧ hdrId h = s.cN Obj.roaCanRequestId) →
    s.filterFor c h = some w →
    w / 2 ^ 93 % 4 = 1 →
    s.cN (Obj.canRxDataSize c) < d.length →
    s.canDeliver c h d = s.incSat (Obj.canRxTooLongCount c)) ∧
  (∀ (s : State) (c : Nat) (h d : List Nat) (w : Nat), ¬ ((s.cN Obj.roaCanEnable).testBit c = true ∧ hdrId h = s.cN Obj.roaCanRequestId) →
    s.filterFor c h = some w →
    w / 2 ^ 93 % 4 = 1 →
    d.length ≤ s.cN (Obj.canRxDataSize c) →
    s.canDeliver c h d = s.canStore c (w / 2 ^ 64 % 8192) h d) ∧
  (∀ (s : State) (c : Nat) (h d : List Nat) (w : Nat), s.filterFor c h = some w → filterMatches w h = true ∧ ∃ k ∈ List.range 256, w = s.filterWord c k ∧ ∀ j ∈ List.range k, filterMatches (s.filterWord c j) h = false) ∧
  (∀ (s : State) (c n : Nat) (h d : List Nat), (s.canBuf c n).locked = true →
    (s.canBuf c n).copy = none →
    s.canStore c n h d = s.canBufPut c n { s.canBuf c n with copy := some (h, d, false) }) ∧
  (∀ (s : State) (c n : Nat) (h d : List Nat), (s.canBuf c n).locked = true →
    (s.canBuf c n).copy.isSome = true →
    s.canStore c n h d = (s.canBufPut c n { s.canBuf c n with copy := some (h, d, true) }).canOverrun c) ∧
  (∀ (s : State) (c n : Nat) (h d : List Nat), (s.canBuf c n).locked = false →
    (s.canBuf c n).isNew = false →
    s.canStore c n h d = s.canBufPut c n { s.canBuf c n with hdr := h, data := d, isNew := true, overrun := false }) ∧
  (∀ (s : State) (c n : Nat) (h d : List Nat), (s.canBuf c n).locked = false →
    (s.canBuf c n).isNew = true →
    s.canStore c n h d = (s.canBufPut c n { s.canBuf c n with hdr := h, data := d, isNew := true, overrun := true }).canOverrun c) ∧
  (∀ (s : State) (c : Fin 8) (a : BitVec 32), (s.canx c.val).queue = [] ∨ s.canRuns c.val = false ∨ (s.oN (Obj.canState c.val) ≠ 2 ∧ s.oN (Obj.canState c.val) ≠ 3) ∨ (s.canx c.val).held = true →
    exec (.canFrameSent c a) s = .next (s)) ∧
  (∀ (s : State) (c : Fin 8) (a : BitVec 32) (f : CanFrame) (rest : List CanFrame) (u : State), s.canRuns c.val = true →
    s.oN (Obj.canState c.val) = 2 ∨ s.oN (Obj.canState c.val) = 3 →
    (s.canx c.val).queue = f :: rest →
    (s.canx c.val).held = false →
    f.entry = none →
    u = (((s.put (Obj.canTec c.val) (s.oN (Obj.canTec c.val) - 1 : Nat)).put (Obj.canState c.val) (errState (s.oN (Obj.canTec c.val) - 1) ((s.put (Obj.canTec c.val) (s.oN (Obj.canTec c.val) - 1 : Nat)).oN (Obj.canRec c.val)) : Nat)).inc32 (Obj.canTxFrameCount c.val)).put (Obj.canTxLastStamp c.val) (s.stampAt a.toNat : Nat) →
    exec (.canFrameSent c a) s = .next ((if (s.canx c.val).abort = 0 then u else (u).put (Obj.canTxResult c.val) 5).canNextHead c.val rest)) ∧
  (∀ (s : State) (c : Fin 8) (a : BitVec 32) (f : CanFrame) (rest : List CanFrame) (u : State) (e : Nat), s.canRuns c.val = true →
    s.oN (Obj.canState c.val) = 2 ∨ s.oN (Obj.canState c.val) = 3 →
    (s.canx c.val).queue = f :: rest →
    (s.canx c.val).held = false →
    f.entry = some e →
    u = (((s.put (Obj.canTec c.val) (s.oN (Obj.canTec c.val) - 1 : Nat)).put (Obj.canState c.val) (errState (s.oN (Obj.canTec c.val) - 1) ((s.put (Obj.canTec c.val) (s.oN (Obj.canTec c.val) - 1 : Nat)).oN (Obj.canRec c.val)) : Nat)).inc32 (Obj.canTxFrameCount c.val)).put (Obj.canTxLastStamp c.val) (s.stampAt a.toNat : Nat) →
    exec (.canFrameSent c a) s = .next ((if (s.canx c.val).abort = 0 then u.eslMod (u.pt e 2 2) (fun x => { x with sent := some f.seq }) else (u.eslMod (u.pt e 2 2) (fun x => { x with sent := some f.seq })).put (Obj.canTxResult c.val) 5).canNextHead c.val rest)) ∧
  (∀ (s : State) (c : Fin 8), s.canOn c.val = false ∨ s.oN (Obj.canState c.val) ≠ 5 →
    exec (.canRecoveryComplete c) s = .next (s)) ∧
  (∀ (s : State) (c : Fin 8) (u : State) (r : State × List CanFrame) (v : State) (k : List CanFrame) (w : State), s.canOn c.val = true →
    s.oN (Obj.canState c.val) = 5 →
    u = ((s.put (Obj.canTec c.val) 0).put (Obj.canRec c.val) 0).put (Obj.canState c.val) 2 →
    r = State.regenerate c.val (u.canx c.val).queue [] u →
    v = (if (u.canx c.val).queue.any u.staleFrame = true then r.1.note FC.canEslregen c.val else r.1) →
    k = (if v.cN (Obj.canBusOffFlush c.val) = 1 then r.2.filter (fun f => f.entry.isSome) else r.2) →
    w = (if v.cN (Obj.canBusOffFlush c.val) = 1 ∧ (r.2.head?.map (fun (f : CanFrame) => f.entry.isNone)).getD false = true then v.canNextHead c.val k else (v.canMod c.val (fun x => { x with queue := k })).canShow c.val) →
    exec (.canRecoveryComplete c) s = .next (if (w.canx c.val).antennaNext then (w.canMod c.val (fun x => { x with antennaNext := false })).antennaStart c.val else w)) ∧
  (∀ (s : State) (c : Nat) (f : CanFrame), f.entry = none ∨ s.staleFrame f = false →
    State.regenerate c [f] [] s = (s, [f])) ∧
  (∀ (s : State) (c : Nat) (f : CanFrame) (e q : Nat), f.entry = some e →
    s.staleFrame f = true →
    q = (((s.eslx (s.pt e 2 2)).sent.map seqNext).getD 0) →
    State.regenerate c [f] [] s = ((s.eslMod (s.pt e 2 2) (fun x => { x with next := seqNext q, skip := min (x.skip + 1) 4294967295 })),
      [{ s.canFrame c (s.pt e 28 4) (s.eslFrame e q (s.txPayload e)) with entry := some e, seq := q, since := s.tick }])) ∧
  (∀ (s : State) (c : Fin 8) (e : Byte) (sending clash : Bool) (inc : BitVec 4), s.canRuns c.val = false →
    exec (.canBusError c e sending clash inc) s = .next (s)) ∧
  (∀ (s : State) (c : Fin 8) (e : Byte) (sending clash : Bool) (inc : BitVec 4) (u : State), s.canRuns c.val = true →
    s.oN (Obj.canState c.val) = 6 ∨ s.oN (Obj.canState c.val) = 7 →
    u = (s.incSat (Obj.canErrorCount c.val)).put (Obj.canLastError c.val) e.toNat →
    exec (.canBusError c e sending clash inc) s = .next (u.antennaHears c.val false)) ∧
  (∀ (s : State) (c : Fin 8) (e : Byte) (sending clash : Bool) (inc : BitVec 4) (u : State), s.canRuns c.val = true →
    s.oN (Obj.canState c.val) = 2 ∨ s.oN (Obj.canState c.val) = 3 →
    u = (s.incSat (Obj.canErrorCount c.val)).put (Obj.canLastError c.val) e.toNat →
    sending = true →
    (s.canx c.val).abort ≠ 0 →
    exec (.canBusError c e sending clash inc) s = .next ((u.canNextHead c.val (u.canx c.val).queue.tail).canCount c.val true inc.toNat)) ∧
  (∀ (s : State) (c : Fin 8) (e : Byte) (sending clash : Bool) (inc : BitVec 4) (u : State), s.canRuns c.val = true →
    s.oN (Obj.canState c.val) = 2 ∨ s.oN (Obj.canState c.val) = 3 →
    u = (s.incSat (Obj.canErrorCount c.val)).put (Obj.canLastError c.val) e.toNat →
    sending = true →
    (s.canx c.val).abort = 0 →
    clash = true →
    e.toNat = 1 →
    exec (.canBusError c e sending clash inc) s = .next ((u.canClash c.val).canCount c.val true inc.toNat)) ∧
  (∀ (s : State) (c : Fin 8) (e : Byte) (sending clash : Bool) (inc : BitVec 4) (u : State), s.canRuns c.val = true →
    s.oN (Obj.canState c.val) = 2 ∨ s.oN (Obj.canState c.val) = 3 →
    u = (s.incSat (Obj.canErrorCount c.val)).put (Obj.canLastError c.val) e.toNat →
    sending = false ∨ ((s.canx c.val).abort = 0 ∧ (clash = false ∨ e.toNat ≠ 1)) →
    exec (.canBusError c e sending clash inc) s = .next (u.canCount c.val sending inc.toNat)) ∧
  (∀ (s : State) (c : Nat) (f : CanFrame) (rest : List CanFrame), (s.canx c).queue = f :: rest →
    (s.canx c).clash + 1 ≠ 4 →
    s.canClash c = s.canMod c (fun x => { x with clash := x.clash + 1 })) ∧
  (∀ (s : State) (c : Nat) (f : CanFrame) (rest : List CanFrame), (s.canx c).queue = f :: rest →
    (s.canx c).clash + 1 = 4 →
    s.canClash c = ((((s.canMod c (fun x => { x with clash := x.clash + 1, held := true })).put (Obj.canClashId c) f.id).incSat (Obj.canClashCount c)).canShow c).note FC.canIdclash c) ∧
  (∀ (s : State) (c i : Nat) (b : Bool) (x y : Nat), s.oN (Obj.canState c) = 2 ∨ s.oN (Obj.canState c) = 3 →
    x = s.oN (Obj.canTec c) + (if b then i else 0) →
    y = min 128 (s.oN (Obj.canRec c) + (if b then 0 else i)) →
    255 < x →
    s.canCount c b i = ((((((s.put (Obj.canTec c) 256).put (Obj.canRec c) y).put (Obj.canState c) ((if s.cN (Obj.canBusOffRecovery c) = 0 then 5 else 4 : Nat))).incSat (Obj.canBusOffCount c)).canShow c).note FC.canBusoff c)) ∧
  (∀ (s : State) (c i : Nat) (b : Bool) (x y : Nat), s.oN (Obj.canState c) = 2 →
    x = s.oN (Obj.canTec c) + (if b then i else 0) →
    y = min 128 (s.oN (Obj.canRec c) + (if b then 0 else i)) →
    x ≤ 255 →
    127 < x ∨ 127 < y →
    s.canCount c b i = ((((s.put (Obj.canTec c) x).put (Obj.canRec c) y).put (Obj.canState c) (errState x y : Nat)).canShow c).note FC.canErrpassive c) ∧
  (∀ (s : State) (c i : Nat) (b : Bool) (x y : Nat), s.oN (Obj.canState c) = 2 ∨ s.oN (Obj.canState c) = 3 →
    x = s.oN (Obj.canTec c) + (if b then i else 0) →
    y = min 128 (s.oN (Obj.canRec c) + (if b then 0 else i)) →
    x ≤ 255 →
    (x ≤ 127 ∧ y ≤ 127) ∨ s.oN (Obj.canState c) = 3 →
    s.canCount c b i = ((((s.put (Obj.canTec c) x).put (Obj.canRec c) y).put (Obj.canState c) (errState x y : Nat)).canShow c)) ∧
  (∀ (s : State) (c : Fin 8) (role : Role), s.up = true →
    2 ≤ roleRank role →
    s.oN (Obj.canState c.val) = 4 →
    exec (.canRecoveryCommand c role) s = .next ((s.put (Obj.canState c.val) 5).canShow c.val)) ∧
  (∀ (s : State) (c : Fin 8) (role : Role), s.up = true →
    2 ≤ roleRank role →
    s.oN (Obj.canState c.val) ≠ 4 →
    exec (.canRecoveryCommand c role) s = .next (s)) ∧
  (∀ (s : State) (c : Fin 8), s.canOn c.val = true →
    s.oN (Obj.canState c.val) = 1 →
    s.cN (Obj.canListenOnly c.val) = 1 →
    exec (.canIntegrated c) s = .next ((s.put (Obj.canState c.val) 6).canShow c.val)) ∧
  (∀ (s : State) (c : Fin 8), s.canOn c.val = true →
    s.oN (Obj.canState c.val) = 1 →
    s.cN (Obj.canListenOnly c.val) ≠ 1 →
    exec (.canIntegrated c) s = .next ((s.put (Obj.canState c.val) (if 127 < s.oN (Obj.canTec c.val) ∨ 127 < s.oN (Obj.canRec c.val) then 3 else 2 : Nat)).canShow c.val)) ∧
  (∀ (s : State) (c : Fin 8), s.canOn c.val = false ∨ s.oN (Obj.canState c.val) ≠ 1 →
    exec (.canIntegrated c) s = .next (s)) ∧
  (∀ (s : State) (c : Fin 8) (b : List Byte) (role : Role), s.up = true →
    2 ≤ roleRank role →
    b.length < 20 →
    exec (.canTxSubmit c b role) s = .next ((s.put (Obj.canTxResult c.val) (4 : Nat)).put Obj.roaLastError 0x13)) ∧
  (∀ (s : State) (c : Fin 8) (b : List Byte) (role : Role) (h : List Nat) (k : Nat), s.up = true →
    2 ≤ roleRank role →
    20 ≤ b.length →
    h = (List.range 5).map (fun k => if k = 2 then 0 else numOf ((bytesNat b).drop (4 * k) |>.take 4)) →
    k = s.submitCode c.val h ((bytesNat b).drop 20) →
    k ≠ 0 →
    exec (.canTxSubmit c b role) s = .next ((s.put (Obj.canTxResult c.val) k).put Obj.roaLastError 0x13)) ∧
  (∀ (s : State) (c : Fin 8) (b : List Byte) (role : Role) (h : List Nat), s.up = true →
    2 ≤ roleRank role →
    20 ≤ b.length →
    h = (List.range 5).map (fun k => if k = 2 then 0 else numOf ((bytesNat b).drop (4 * k) |>.take 4)) →
    s.submitCode c.val h ((bytesNat b).drop 20) = 0 →
    exec (.canTxSubmit c b role) s = .next (((s.put (Obj.canTxResult c.val) 0).canPut c.val { id := hdrId h, hdr := h, data := (bytesNat b).drop 20 }).1)) ∧
  (∀ (s : State) (c : Nat) (h d : List Nat), s.submitCode c h d = (if 64 ≤ (s.canx c).queue.length then 1
      else if s.oN (Obj.canState c) = 0 ∨ s.oN (Obj.canState c) = 6 ∨ s.oN (Obj.canState c) = 7 then 2
      else if s.formatOk c (hdrKind h) = false then 3
      else if lengthOk (hdrKind h) (hdrLength h) = false ∨ hdrLength h ≠ d.length ∨ hdrClean h = false then 4 else 0)) ∧
  (∀ (s : State) (c : Nat) (f : CanFrame), (s.canx c).queue.length < 64 →
    c < s.can.length →
    (s.canPut c f).2 = true ∧ ((s.canPut c f).1.canx c).queue = (s.canx c).queue ++ [{ f with since := s.tick }]) ∧
  (∀ (s : State) (c : Fin 8) (sending : Bool) (role : Role), s.up = true →
    2 ≤ roleRank role →
    (s.canx c.val).queue = [] →
    exec (.canAbortHead c sending role) s = .next s ∧ exec (.canAbortAll c sending role) s = .next s ∧ exec (.canAbortNonSafety c sending role) s = .next s) ∧
  (∀ (s : State) (c : Fin 8) (sending : Bool) (role : Role) (f : CanFrame) (rest : List CanFrame), s.up = true →
    2 ≤ roleRank role →
    (s.canx c.val).queue = f :: rest →
    sending = false ∨ (s.canx c.val).held = true ∨ (s.oN (Obj.canState c.val) ≠ 2 ∧ s.oN (Obj.canState c.val) ≠ 3) →
    exec (.canAbortHead c sending role) s = .next (s.canNextHead c.val rest)) ∧
  (∀ (s : State) (c : Fin 8) (sending : Bool) (role : Role) (f : CanFrame) (rest : List CanFrame), s.up = true →
    2 ≤ roleRank role →
    (s.canx c.val).queue = f :: rest →
    sending = true ∧ (s.canx c.val).held = false ∧ (s.oN (Obj.canState c.val) = 2 ∨ s.oN (Obj.canState c.val) = 3) →
    exec (.canAbortHead c sending role) s = .next ((s.canMod c.val (fun x => { x with queue := f :: rest, abort := 1 })).canShow c.val)) ∧
  (∀ (s : State) (c : Fin 8) (sending : Bool) (role : Role) (f : CanFrame) (rest : List CanFrame), s.up = true →
    2 ≤ roleRank role →
    (s.canx c.val).queue = f :: rest →
    sending = false ∨ (s.canx c.val).held = true ∨ (s.oN (Obj.canState c.val) ≠ 2 ∧ s.oN (Obj.canState c.val) ≠ 3) →
    exec (.canAbortAll c sending role) s = .next (s.canNextHead c.val [])) ∧
  (∀ (s : State) (c : Fin 8) (sending : Bool) (role : Role) (f : CanFrame) (rest : List CanFrame), s.up = true →
    2 ≤ roleRank role →
    (s.canx c.val).queue = f :: rest →
    sending = true ∧ (s.canx c.val).held = false ∧ (s.oN (Obj.canState c.val) = 2 ∨ s.oN (Obj.canState c.val) = 3) →
    exec (.canAbortAll c sending role) s = .next ((s.canMod c.val (fun x => { x with queue := f :: [], abort := 2 })).canShow c.val)) ∧
  (∀ (s : State) (c : Fin 8) (sending : Bool) (role : Role) (f : CanFrame) (rest : List CanFrame), s.up = true →
    2 ≤ roleRank role →
    (s.canx c.val).queue = f :: rest →
    f.entry = none →
    sending = false ∨ (s.canx c.val).held = true ∨ (s.oN (Obj.canState c.val) ≠ 2 ∧ s.oN (Obj.canState c.val) ≠ 3) →
    exec (.canAbortNonSafety c sending role) s = .next (s.canNextHead c.val (rest.filter (fun g => g.entry.isSome)))) ∧
  (∀ (s : State) (c : Fin 8) (sending : Bool) (role : Role) (f : CanFrame) (rest : List CanFrame), s.up = true →
    2 ≤ roleRank role →
    (s.canx c.val).queue = f :: rest →
    f.entry = none →
    sending = true ∧ (s.canx c.val).held = false ∧ (s.oN (Obj.canState c.val) = 2 ∨ s.oN (Obj.canState c.val) = 3) →
    exec (.canAbortNonSafety c sending role) s = .next ((s.canMod c.val (fun x => { x with queue := f :: (rest.filter (fun g => g.entry.isSome)), abort := 3 })).canShow c.val)) ∧
  (∀ (s : State) (c : Fin 8) (sending : Bool) (role : Role) (f : CanFrame) (rest : List CanFrame), s.up = true →
    2 ≤ roleRank role →
    (s.canx c.val).queue = f :: rest →
    f.entry.isSome = true →
    exec (.canAbortNonSafety c sending role) s = .next ((s.canMod c.val (fun x => { x with queue := f :: rest.filter (fun g => g.entry.isSome) })).canShow c.val)) ∧
  (∀ (s : State) (c : Fin 8) (f : CanFrame) (rest : List CanFrame) (u : State), u = s.canMod c.val (fun x => { x with headSeen := true }) →
    s.cN (Obj.canHeadWaitLimit c.val) ≠ 0 →
    (s.canx c.val).queue = f :: rest →
    (s.canx c.val).headSeen = false →
    exec (.canHeadwait c) s = .next ((u.put (Obj.canTxHeadWaitMax c.val) (max (u.oN (Obj.canTxHeadWaitMax c.val)) (max (u.headWait c.val) (u.cN (Obj.canHeadWaitLimit c.val))) : Nat)).note FC.canHeadwait c.val)) ∧
  (∀ (s : State) (c : Fin 8), s.cN (Obj.canHeadWaitLimit c.val) = 0 ∨ (s.canx c.val).queue = [] ∨ (s.canx c.val).headSeen = true →
    exec (.canHeadwait c) s = .next (s)) ∧
  (∀ (s : State) (c : Fin 8) (role : Role), s.up = true →
    2 ≤ roleRank role →
    s.canOn c.val = true →
    s.oN (Obj.canState c.val) ≠ 0 →
    s.oN (Obj.canState c.val) ≠ 4 →
    s.oN (Obj.canState c.val) ≠ 5 →
    exec (.canAntennaStart c role) s = .next ((((s.put (Obj.canState c.val) 7).put (Obj.canAntennaResult c.val) 1).canMod c.val (fun x => { x with ant := { step := 1 } })).canShow c.val)) ∧
  (∀ (s : State) (c : Fin 8) (role : Role), s.up = true →
    2 ≤ roleRank role →
    s.canOn c.val = false ∨ s.oN (Obj.canState c.val) = 0 →
    exec (.canAntennaStart c role) s = .next (s.put (Obj.canAntennaResult c.val) 4)) ∧
  (∀ (s : State) (c : Fin 8) (role : Role), s.up = true →
    2 ≤ roleRank role →
    s.canOn c.val = true →
    s.oN (Obj.canState c.val) = 4 ∨ s.oN (Obj.canState c.val) = 5 →
    exec (.canAntennaStart c role) s = .next (s.canMod c.val (fun x => { x with antennaNext := true }))) ∧
  (∀ (s : State) (c : Fin 8) (role : Role), s.up = true →
    2 ≤ roleRank role →
    s.oN (Obj.canState c.val) = 7 →
    exec (.canAntennaStop c role) s = .next ((((s.put (Obj.canAntennaResult c.val) 0).put (Obj.canState c.val) 1).canMod c.val (fun x => { x with ant := {} })).canShow c.val)) ∧
  (∀ (s : State) (c : Fin 8) (role : Role), s.up = true →
    2 ≤ roleRank role →
    s.oN (Obj.canState c.val) ≠ 7 →
    exec (.canAntennaStop c role) s = .next (s.canMod c.val (fun x => { x with antennaNext := false }))) ∧
  (∀ (s : State) (c : Fin 8), s.oN (Obj.canState c.val) = 7 →
    (s.canx c.val).ant.step ≠ 3 →
    exec (.antennaTimeout c) s = .next ((((s.put (Obj.canAntennaResult c.val) 3).put (Obj.canState c.val) 1).canMod c.val (fun x => { x with ant := {} })).canShow c.val)) ∧
  (∀ (s : State) (c : Fin 8), s.oN (Obj.canState c.val) ≠ 7 ∨ (s.canx c.val).ant.step = 3 →
    exec (.antennaTimeout c) s = .next (s)) ∧
  (∀ (s : State) (c : Fin 8) (i : BitVec 16) (n : Byte) (r : Nat), s.oN (Obj.canState c.val) = 7 →
    (s.canx c.val).ant.step = 3 →
    r = (if 4 ≤ n.toNat then (antennaRate dataRates i.toNat).getD 0 else 0) →
    exec (.antennaDataPhaseEnd c i n) s = .next ((((((s.put (Obj.canAntennaNominalRate c.val) (s.canx c.val).ant.rate).put (Obj.canAntennaDataRate c.val) r).put (Obj.canAntennaResult c.val) 2).put (Obj.canState c.val) 1).canMod c.val (fun x => { x with ant := {} })).canShow c.val)) ∧
  (∀ (s : State) (c : Fin 8) (i : BitVec 16) (n : Byte), s.oN (Obj.canState c.val) ≠ 7 ∨ (s.canx c.val).ant.step ≠ 3 →
    exec (.antennaDataPhaseEnd c i n) s = .next (s)) ∧
  (∀ (s : State) (c : Nat), s.oN (Obj.canState c) = 7 →
    (s.canx c).ant.step = 2 →
    c < s.can.length →
    (s.antennaHears c true).canx c = { s.canx c with ant := { (s.canx c).ant with frames := (s.canx c).ant.frames + 1, step := if (s.canx c).ant.frames + 1 < 4 then 2 else 3 } } ∧
      (s.antennaHears c false).canx c = { s.canx c with ant := { step := 1, barred := (s.canx c).ant.rate :: (s.canx c).ant.barred } }) ∧
  (∀ (s : State) (c : Fin 8) (b : CanBuf), s.up = true →
    b = s.canBuf c.val (s.oN (Obj.canRxSelect c.val)) →
    exec (.canRxBufferLock c) s = .next (s.canBufPut c.val (s.oN (Obj.canRxSelect c.val)) { b with locked := true })) ∧
  (∀ (s : State) (c : Fin 8) (b : CanBuf), s.up = true →
    b = s.canBuf c.val (s.oN (Obj.canRxSelect c.val)) →
    b.locked = true →
    b.copy = none →
    exec (.canRxBufferRelease c) s = .next (s.canBufPut c.val (s.oN (Obj.canRxSelect c.val)) { b with locked := false, isNew := false })) ∧
  (∀ (s : State) (c : Fin 8) (b : CanBuf) (h d : List Nat) (l : Bool), s.up = true →
    b = s.canBuf c.val (s.oN (Obj.canRxSelect c.val)) →
    b.locked = true →
    b.copy = some (h, d, l) →
    exec (.canRxBufferRelease c) s = .next (s.canBufPut c.val (s.oN (Obj.canRxSelect c.val)) { hdr := h, data := d, isNew := true, overrun := l })) ∧
  (∀ (s : State) (c : Fin 8) (b : CanBuf), b = s.canBuf c.val (s.oN (Obj.canRxSelect c.val)) →
    b.locked = false →
    exec (.canRxBufferRelease c) s = .next (s)) ∧
  (∀ (s : State) (c : Fin 8) (b : List Byte) (q : Bool) (role : Role) (r : State), s.up = true →
    roleRank role < 2 →
    r = s.put Obj.roaLastError 0x05 →
    exec (.canRecoveryCommand c role) s = .next r ∧ exec (.canTxSubmit c b role) s = .next r ∧ exec (.canAbortHead c q role) s = .next r ∧
      exec (.canAbortAll c q role) s = .next r ∧ exec (.canAbortNonSafety c q role) s = .next r ∧
      exec (.canAntennaStart c role) s = .next r ∧ exec (.canAntennaStop c role) s = .next r) ∧
  (∀ (s : State) (c : Fin 8) (b : List Byte) (q : Bool) (role : Role) (r : State), s.up = false →
    r = s →
    exec (.canRecoveryCommand c role) s = .next r ∧ exec (.canTxSubmit c b role) s = .next r ∧ exec (.canAbortHead c q role) s = .next r ∧
      exec (.canAbortAll c q role) s = .next r ∧ exec (.canAbortNonSafety c q role) s = .next r ∧
      exec (.canAntennaStart c role) s = .next r ∧ exec (.canAntennaStop c role) s = .next r ∧
      exec (.canRxBufferLock c) s = .next r ∧ exec (.canRxBufferRelease c) s = .next r)

/-! ## Network, time and safe link (chapters 19 and 20) -/

/-- R479, R480: a port that is down takes no frame; one too long, of another VLAN or matching no row is discarded and counted; of the rows the first that matches
decides: 802.1AS and IPv6 on T1S go on without effect on this state (log 58), an ARP request or an echo is answered, and the ESL, ROA and Monarch ports take
theirs; a Monarch datagram of another length, version or type is discarded. R485: a frame beyond the rates is counted, and noted once a second. R482: a link
that goes down empties its queue into its counter, is counted and noted; it comes up again once its PLL has locked (R588). R483: a PLCA node without its
beacon falls back and is noted, and returns with the beacon. R481's gates step through their list and take the active set's at the end of the cycle. R490: a
datagram in progress is closed and the sequence goes on, whether it was sent or dropped; a drop is counted and noted once a second. R487, R489: a grandmaster
sends Sync, on the Tandem link the post does, and PPS_OUT marks the second. A frame for a port that is down is not taken, one that is taken comes last. -/
def Obligations.EthernetFramesLinksAndGates : Prop :=
  (∀ (s : State) (port : Fin 4) (f : EthIn), s.portUp port.val = false →
    exec (.ethFrameReceived port f) s = .next (s)) ∧
  (∀ (s : State) (port : Fin 4) (f : EthIn), s.portUp port.val = true →
    s.frameMax port.val < f.size.toNat →
    exec (.ethFrameReceived port f) s = .next (s.incSat (if port.val < 2 then Obj.xgRxDropCount port.val else Obj.t1sRxDropCount (port.val - 2)))) ∧
  (∀ (s : State) (port : Fin 4) (f : EthIn) (v : BitVec 12), s.portUp port.val = true →
    f.vlan = some v →
    v ≠ 0 →
    v.toNat ≠ s.portVlan port.val →
    exec (.ethFrameReceived port f) s = .next (s.incSat (if port.val < 2 then Obj.xgRxDropCount port.val else Obj.t1sRxDropCount (port.val - 2)))) ∧
  (∀ (s : State) (port : Fin 4) (f : EthIn), s.portUp port.val = true →
    f.size.toNat ≤ s.frameMax port.val →
    f.vlan = none ∨ f.vlan = some 0 ∨ f.vlan = some (BitVec.ofNat 12 (s.portVlan port.val)) ∧ s.portVlan port.val < 4096 →
    f.overRate = true →
    exec (.ethFrameReceived port f) s = .next (s.rxFlood port.val)) ∧
  (∀ (s : State) (p : Nat), (s.net.rxDropAt.getD p none).any (fun t => decide (s.mono < t + 1000000000)) = true →
    s.rxFlood p = s.incSat (if p < 2 then Obj.xgRxDropCount p else Obj.t1sRxDropCount (p - 2))) ∧
  (∀ (s : State) (p : Nat), (s.net.rxDropAt.getD p none).any (fun t => decide (s.mono < t + 1000000000)) = false →
    s.rxFlood p = ((s.incSat (if p < 2 then Obj.xgRxDropCount p else Obj.t1sRxDropCount (p - 2))).netMod (fun n => { n with rxDropAt := n.rxDropAt.set p (some s.mono) })).note FC.netRxdrop p) ∧
  (∀ (s : State) (port : Fin 4) (f : EthIn), s.portUp port.val = true →
    f.size.toNat ≤ s.frameMax port.val →
    f.vlan = none ∨ f.vlan = some 0 ∨ f.vlan = some (BitVec.ofNat 12 (s.portVlan port.val)) ∧ s.portVlan port.val < 4096 →
    f.overRate = false →
    f.ether = 0x88F7 →
    exec (.ethFrameReceived port f) s = .next (s)) ∧
  (∀ (s : State) (port : Fin 4) (f : EthIn), s.portUp port.val = true →
    f.size.toNat ≤ s.frameMax port.val →
    f.vlan = none ∨ f.vlan = some 0 ∨ f.vlan = some (BitVec.ofNat 12 (s.portVlan port.val)) ∧ s.portVlan port.val < 4096 →
    f.overRate = false →
    f.ether ≠ 0x88F7 →
    (f.toUs = true ∧ (f.ether = 0x0806 ∨ f.echo = true)) →
    exec (.ethFrameReceived port f) s = .next ((s.netPut port.val { cls := 0, size := f.size.toNat, udp := 0, partner := 0, payload := [] }).1)) ∧
  (∀ (s : State) (port : Fin 4) (f : EthIn), s.portUp port.val = true →
    f.size.toNat ≤ s.frameMax port.val →
    f.vlan = none ∨ f.vlan = some 0 ∨ f.vlan = some (BitVec.ofNat 12 (s.portVlan port.val)) ∧ s.portVlan port.val < 4096 →
    f.overRate = false →
    f.echo = false →
    (f.toUs = true ∧ f.ether = 0x0800 ∧ f.udp.toNat = s.eslPort port.val) →
    exec (.ethFrameReceived port f) s = .next (match s.udpEntry port.val f.source.toNat (pay (bytesNat f.payload) 0 2) with | some e => s.eslCheck e (bytesNat f.payload) | none => s)) ∧
  (∀ (s : State) (port : Fin 4) (f : EthIn), s.portUp port.val = true →
    f.size.toNat ≤ s.frameMax port.val →
    f.vlan = none ∨ f.vlan = some 0 ∨ f.vlan = some (BitVec.ofNat 12 (s.portVlan port.val)) ∧ s.portVlan port.val < 4096 →
    f.overRate = false →
    f.echo = false →
    f.udp.toNat ≠ s.eslPort port.val →
    (f.toUs = true ∧ f.ether = 0x0800 ∧ f.udp.toNat = s.cN Obj.roaUdpPort ∧ s.roaOn (8 + port.val) = true) →
    exec (.ethFrameReceived port f) s = .next (s.roaPdu (8 + port.val) (bytesNat f.payload))) ∧
  (∀ (s : State) (port : Fin 4) (f : EthIn), s.portUp port.val = true →
    f.size.toNat ≤ s.frameMax port.val →
    f.vlan = none ∨ f.vlan = some 0 ∨ f.vlan = some (BitVec.ofNat 12 (s.portVlan port.val)) ∧ s.portVlan port.val < 4096 →
    f.overRate = false →
    f.echo = false →
    f.udp.toNat ≠ s.eslPort port.val →
    ¬ (f.toUs = true ∧ f.ether = 0x0800 ∧ f.udp.toNat = s.cN Obj.roaUdpPort ∧ s.roaOn (8 + port.val) = true) →
    (f.toUs = true ∧ f.ether = 0x0800 ∧ f.udp.toNat = s.cN Obj.monUdpPort ∧ s.station = true) →
    exec (.ethFrameReceived port f) s = .next (s.monDatagram port.val (bytesNat f.payload))) ∧
  (∀ (s : State) (port : Fin 4) (f : EthIn), s.portUp port.val = true →
    f.size.toNat ≤ s.frameMax port.val →
    f.vlan = none ∨ f.vlan = some 0 ∨ f.vlan = some (BitVec.ofNat 12 (s.portVlan port.val)) ∧ s.portVlan port.val < 4096 →
    f.overRate = false →
    f.echo = false →
    (2 ≤ port.val ∧ f.toUs = true ∧ f.ether = 0x86DD) →
    exec (.ethFrameReceived port f) s = .next (s)) ∧
  (∀ (s : State) (port : Fin 4) (f : EthIn), s.portUp port.val = true →
    f.size.toNat ≤ s.frameMax port.val →
    f.vlan = none ∨ f.vlan = some 0 ∨ f.vlan = some (BitVec.ofNat 12 (s.portVlan port.val)) ∧ s.portVlan port.val < 4096 →
    f.overRate = false →
    f.ether ≠ 0x88F7 →
    ¬ (f.toUs = true ∧ (f.ether = 0x0806 ∨ f.echo = true)) →
    ¬ (f.toUs = true ∧ f.ether = 0x0800 ∧ f.udp.toNat = s.eslPort port.val) →
    ¬ (f.toUs = true ∧ f.ether = 0x0800 ∧ f.udp.toNat = s.cN Obj.roaUdpPort ∧ s.roaOn (8 + port.val) = true) →
    ¬ (f.toUs = true ∧ f.ether = 0x0800 ∧ f.udp.toNat = s.cN Obj.monUdpPort ∧ s.station = true) →
    ¬ (2 ≤ port.val ∧ f.toUs = true ∧ f.ether = 0x86DD) →
    exec (.ethFrameReceived port f) s = .next (s.incSat (if port.val < 2 then Obj.xgRxDropCount port.val else Obj.t1sRxDropCount (port.val - 2)))) ∧
  (∀ (s : State) (p : Nat) (b : List Nat), b.length ≠ 40 ∨ b.getD 0 0 ≠ 1 ∨ 8 < b.getD 1 0 ∨ b.getD 1 0 = 0 →
    s.monDatagram p b = s.incSat (if p < 2 then Obj.xgRxDropCount p else Obj.t1sRxDropCount (p - 2))) ∧
  (∀ (s : State) (port : Fin 2) (pll : Bool) (u : State), s.serdesOn = true →
    s.cN (Obj.xgEnable port.val) ≠ 0 →
    u = (if pll then s.put Obj.pllLockMap (clearBit (s.oN Obj.pllLockMap) (port.val + 2) : Nat) else s) →
    u.oN (Obj.xgLinkState port.val) = 2 →
    exec (.netLinkdown port pll) s = .next ((((u.put (Obj.xgLinkState port.val) 1).portEmpty port.val).incSat (Obj.xgLinkDownCount port.val)).note FC.netLinkdown port.val)) ∧
  (∀ (s : State) (port : Fin 2) (pll : Bool) (u : State), s.serdesOn = true →
    s.cN (Obj.xgEnable port.val) ≠ 0 →
    u = (if pll then s.put Obj.pllLockMap (clearBit (s.oN Obj.pllLockMap) (port.val + 2) : Nat) else s) →
    u.oN (Obj.xgLinkState port.val) ≠ 2 →
    exec (.netLinkdown port pll) s = .next (u)) ∧
  (∀ (s : State) (port : Fin 2) (pll : Bool), s.serdesOn = false ∨ s.cN (Obj.xgEnable port.val) = 0 →
    exec (.netLinkdown port pll) s = .next (s)) ∧
  (∀ (s : State) (p : Nat), p < 2 →
    0 ≤ s.o (Obj.xgTxDropCount p) →
    ((s.portEmpty p).net.queues.getD p []) = [] ∧ (s.portEmpty p).active = s.active ∧
      (s.portEmpty p).oN (Obj.xgTxDropCount p) = min 4294967295 (s.oN (Obj.xgTxDropCount p) + (s.net.queues.getD p []).length)) ∧
  (∀ (s : State) (port : Fin 2), s.serdesOn = true →
    s.cN (Obj.xgEnable port.val) = 1 →
    s.oN (Obj.xgLinkState port.val) = 1 →
    (s.oN Obj.pllLockMap).testBit (port.val + 2) = true →
    exec (.xgLinkUp port) s = .next (s.put (Obj.xgLinkState port.val) 2)) ∧
  (∀ (s : State) (port : Fin 2), s.serdesOn = false ∨ s.cN (Obj.xgEnable port.val) ≠ 1 ∨ s.oN (Obj.xgLinkState port.val) ≠ 1 ∨ (s.oN Obj.pllLockMap).testBit (port.val + 2) = false →
    exec (.xgLinkUp port) s = .next (s)) ∧
  (∀ (s : State) (port : Fin 2), s.serdesOn = true →
    s.cN (Obj.xgEnable port.val) = 1 →
    exec (.xgPllLock port) s = .next (s.put Obj.pllLockMap (setBit (s.oN Obj.pllLockMap) (port.val + 2) : Nat))) ∧
  (∀ (s : State) (port : Fin 2), s.serdesOn = false ∨ s.cN (Obj.xgEnable port.val) ≠ 1 →
    exec (.xgPllLock port) s = .next (s)) ∧
  (∀ (s : State) (port : Fin 2), s.serdesOn = false →
    exec (.gateIntervalStart port) s = .next (s)) ∧
  (∀ (s : State) (port : Fin 2), s.serdesOn = true →
    s.cN (Obj.xgGateEnable port.val) = 0 →
    exec (.gateIntervalStart port) s = .next (s.netMod (fun n => { n with gates := n.gates.set port.val [], gateIx := n.gateIx.set port.val 0 }))) ∧
  (∀ (s : State) (port : Fin 2) (l : List (Nat × Nat)) (k : Nat), s.serdesOn = true →
    s.cN (Obj.xgGateEnable port.val) ≠ 0 →
    l = s.net.gates.getD port.val [] →
    k = s.net.gateIx.getD port.val 0 →
    k + 1 < l.length →
    exec (.gateIntervalStart port) s = .next (s.netMod (fun n => { n with gateIx := n.gateIx.set port.val (k + 1), gateAt := n.gateAt.set port.val (n.gateAt.getD port.val 0 + (l.getD k (0, 0)).1) }))) ∧
  (∀ (s : State) (port : Fin 2) (l : List (Nat × Nat)) (k : Nat) (a : Nat), s.serdesOn = true →
    s.cN (Obj.xgGateEnable port.val) ≠ 0 →
    l = s.net.gates.getD port.val [] →
    k = s.net.gateIx.getD port.val 0 →
    l.length ≤ k + 1 →
    a = (if cycleNs (s.gateList port.val) = 0 ∨ s.now < s.cN (Obj.xgGateBase port.val) then s.now else s.cN (Obj.xgGateBase port.val) +
      (s.now - s.cN (Obj.xgGateBase port.val)) / cycleNs (s.gateList port.val) * cycleNs (s.gateList port.val)) →
    exec (.gateIntervalStart port) s = .next (s.netMod (fun n => { n with gates := n.gates.set port.val (s.gateList port.val), gateIx := n.gateIx.set port.val 0, gateAt := n.gateAt.set port.val a }))) ∧
  (∀ (s : State) (port : Fin 2), s.up = true →
    s.cN (Obj.t1sEnable port.val) = 1 →
    s.cN (Obj.t1sPlcaEnable port.val) = 1 →
    s.cN (Obj.t1sPlcaNodeId port.val) ≠ 0 →
    s.oN (Obj.t1sPlcaState port.val) ≠ 2 →
    exec (.netPlca port) s = .next ((s.put (Obj.t1sPlcaState port.val) 2).note FC.netPlca (2 + port.val))) ∧
  (∀ (s : State) (port : Fin 2), s.up = false ∨ s.cN (Obj.t1sEnable port.val) ≠ 1 ∨ s.cN (Obj.t1sPlcaEnable port.val) ≠ 1 ∨ s.cN (Obj.t1sPlcaNodeId port.val) = 0 ∨ s.oN (Obj.t1sPlcaState port.val) = 2 →
    exec (.netPlca port) s = .next (s)) ∧
  (∀ (s : State) (port : Fin 2), s.up = true →
    s.cN (Obj.t1sEnable port.val) = 1 →
    s.cN (Obj.t1sPlcaEnable port.val) = 1 →
    exec (.plcaBeaconReturn port) s = .next (s.put (Obj.t1sPlcaState port.val) 1)) ∧
  (∀ (s : State) (port : Fin 2), s.up = false ∨ s.cN (Obj.t1sEnable port.val) ≠ 1 ∨ s.cN (Obj.t1sPlcaEnable port.val) ≠ 1 →
    exec (.plcaBeaconReturn port) s = .next (s)) ∧
  (∀ (s : State), s.up = false ∨ s.net.records = [] →
    exec .streamDatagramSend s = .next (s)) ∧
  (∀ (s : State) (b : List Nat), s.up = true →
    s.net.records ≠ [] →
    b = natBytes 4 s.net.streamSeq ++ natBytes 2 s.net.records.length ++ natBytes 1 s.streamPorts.length ++ [0] ++ natBytes 8 s.net.firstTime ++ s.net.records.flatten →
    (s.netUdp (s.cN Obj.streamPort) (s.cN Obj.streamPcp) (s.cN Obj.streamUdpPort) 0xFFFF b).2 = true →
      exec .streamDatagramSend s = .next ((s.netUdp (s.cN Obj.streamPort) (s.cN Obj.streamPcp) (s.cN Obj.streamUdpPort) 0xFFFF b).1.netMod (fun n => { n with records := [], streamSeq := (n.streamSeq + 1) % 4294967296 }))) ∧
  (∀ (s : State) (b : List Nat) (r : State × Bool) (v : State), s.up = true →
    s.net.records ≠ [] →
    b = natBytes 4 s.net.streamSeq ++ natBytes 2 s.net.records.length ++ natBytes 1 s.streamPorts.length ++ [0] ++ natBytes 8 s.net.firstTime ++ s.net.records.flatten →
    r = s.netUdp (s.cN Obj.streamPort) (s.cN Obj.streamPcp) (s.cN Obj.streamUdpPort) 0xFFFF b →
    v = r.1.netMod (fun n => { n with records := [], streamSeq := (n.streamSeq + 1) % 4294967296 }) →
    r.2 = false →
    s.net.streamDropAt = none →
    exec .streamDatagramSend s = .next ((((v.incSat Obj.streamDropCount).netMod (fun n => { n with streamDropAt := some s.mono })).note FC.netStreamdrop (s.cN Obj.streamPort)))) ∧
  (∀ (s : State) (b : List Nat) (r : State × Bool) (v : State) (a : Nat), s.up = true →
    s.net.records ≠ [] →
    b = natBytes 4 s.net.streamSeq ++ natBytes 2 s.net.records.length ++ natBytes 1 s.streamPorts.length ++ [0] ++ natBytes 8 s.net.firstTime ++ s.net.records.flatten →
    r = s.netUdp (s.cN Obj.streamPort) (s.cN Obj.streamPcp) (s.cN Obj.streamUdpPort) 0xFFFF b →
    v = r.1.netMod (fun n => { n with records := [], streamSeq := (n.streamSeq + 1) % 4294967296 }) →
    r.2 = false →
    s.net.streamDropAt = some a →
    s.mono < a + 1000000000 →
    exec .streamDatagramSend s = .next (v.incSat Obj.streamDropCount)) ∧
  (∀ (s : State) (b : List Nat) (r : State × Bool) (v : State) (a : Nat), s.up = true →
    s.net.records ≠ [] →
    b = natBytes 4 s.net.streamSeq ++ natBytes 2 s.net.records.length ++ natBytes 1 s.streamPorts.length ++ [0] ++ natBytes 8 s.net.firstTime ++ s.net.records.flatten →
    r = s.netUdp (s.cN Obj.streamPort) (s.cN Obj.streamPcp) (s.cN Obj.streamUdpPort) 0xFFFF b →
    v = r.1.netMod (fun n => { n with records := [], streamSeq := (n.streamSeq + 1) % 4294967296 }) →
    r.2 = false →
    s.net.streamDropAt = some a →
    a + 1000000000 ≤ s.mono →
    exec .streamDatagramSend s = .next ((((v.incSat Obj.streamDropCount).netMod (fun n => { n with streamDropAt := some s.mono })).note FC.netStreamdrop (s.cN Obj.streamPort)))) ∧
  (∀ (s : State), s.up = true →
    s.cN Obj.devTimePpsOut = 1 →
    exec .ppsOutSecond s = .next (s.netMod (fun n => { n with pps := some s.now }))) ∧
  (∀ (s : State), s.up = false ∨ s.cN Obj.devTimePpsOut ≠ 1 →
    exec .ppsOutSecond s = .next (s)) ∧
  (∀ (s : State) (port : Fin 4) (g : Bool), s.portUp port.val = false →
    exec (.ptpSyncTransmit port g) s = .next (s)) ∧
  (∀ (s : State) (port : Fin 4) (g : Bool), s.portUp port.val = true →
    (s.cN Obj.tdEnable = 1 ∧ s.oN Obj.tdState = 4 ∧ port.val = 2 + (if s.station then s.cN Obj.lkPostPort else s.cN Obj.lkPort) % 2) →
    s.station = true →
    exec (.ptpSyncTransmit port g) s = .next ((s.netPut port.val { cls := 8, size := 64, udp := 0, partner := 0xFFFF, payload := [] }).1)) ∧
  (∀ (s : State) (port : Fin 4) (g : Bool), (s.cN Obj.tdEnable = 1 ∧ s.oN Obj.tdState = 4 ∧ port.val = 2 + (if s.station then s.cN Obj.lkPostPort else s.cN Obj.lkPort) % 2) →
    s.station = false →
    exec (.ptpSyncTransmit port g) s = .next (s)) ∧
  (∀ (s : State) (port : Fin 4) (g : Bool), s.portUp port.val = true →
    ¬ (s.cN Obj.tdEnable = 1 ∧ s.oN Obj.tdState = 4 ∧ port.val = 2 + (if s.station then s.cN Obj.lkPostPort else s.cN Obj.lkPort) % 2) →
    g = true →
    s.cN Obj.devTimePriority1 ≠ 255 →
    exec (.ptpSyncTransmit port g) s = .next ((s.netPut port.val { cls := 8, size := 64, udp := 0, partner := 0xFFFF, payload := [] }).1)) ∧
  (∀ (s : State) (port : Fin 4) (g : Bool), ¬ (s.cN Obj.tdEnable = 1 ∧ s.oN Obj.tdState = 4 ∧ port.val = 2 + (if s.station then s.cN Obj.lkPostPort else s.cN Obj.lkPort) % 2) →
    g = false ∨ s.cN Obj.devTimePriority1 = 255 →
    exec (.ptpSyncTransmit port g) s = .next (s)) ∧
  (∀ (s : State) (p : Nat) (f : TxFrame), s.portUp p = false →
    s.netPut p f = ((if p < 2 then s.incSat (Obj.xgTxDropCount p) else s), false)) ∧
  (∀ (s : State) (p : Nat) (f : TxFrame), p < s.net.queues.length →
    (s.netPut p f).2 = true → (s.netPut p f).1.txQueue p = s.txQueue p ++ [f])

/-- R488: the first synchronisation and one at or beyond DevTimeStepThreshold step device time and are counted; a backward one in an open metering session
becomes an approach at −200 ppm, after which the rate is the earlier one; below the threshold device time adjusts its rate, a free value of at most ±200 ppm
(log 59). R486: a tick adds 12.5 ns at the rate in force. Without synchronisation it goes to holdover, and after holdover to state 3 with NET_TIMELOSS; in
another state neither does anything. R487: the Tandem domain is kept as an offset and a rate. R489: PPS_IN marks the nearest whole second while no port is
synchronised, and disciplines the phase only. -/
def Obligations.DeviceTimeFollowsItsReferences : Prop :=
  (∀ (s : State) (time : BitVec 64), s.up = true →
    exec (.ptpSync false time) s = .next (((s.meet ((s.now : Int) - time.toNat) (!s.net.synced)).netMod (fun n => { n with synced := true })).put Obj.devTimeState 1)) ∧
  (∀ (s : State) (time : BitVec 64) (off : Int), s.up = true →
    s.net.tdAt = none →
    off = (time.toNat : Int) - s.now →
    exec (.ptpSync true time) s = .next (s.netMod (fun n => { n with tdOffset := off, tdRate := 0, tdAt := some s.now }))) ∧
  (∀ (s : State) (time : BitVec 64) (off : Int) (a : Nat), s.up = true →
    s.net.tdAt = some a →
    a < s.now →
    off = (time.toNat : Int) - s.now →
    exec (.ptpSync true time) s = .next (s.netMod (fun n => { n with tdOffset := off, tdRate := (off - s.net.tdOffset) * 1000000000 / ((s.now - a : Nat) : Int), tdAt := some s.now }))) ∧
  (∀ (s : State) (time : BitVec 64) (off : Int) (a : Nat), s.up = true →
    s.net.tdAt = some a →
    s.now ≤ a →
    off = (time.toNat : Int) - s.now →
    exec (.ptpSync true time) s = .next (s.netMod (fun n => { n with tdOffset := off, tdAt := some s.now }))) ∧
  (∀ (s : State) (time : BitVec 64) (td : Bool), s.up = false →
    exec (.ptpSync td time) s = .next (s)) ∧
  (∀ (s : State) (off : Int) (first : Bool) (u : State), u = s.put Obj.devTimeOffset (max (-2147483648) (min 2147483647 off)) →
    first = true ∨ (u.cN Obj.devTimeStepThreshold : Int) ≤ |off| →
    off ≤ 0 ∨ s.mtr.session = none →
    s.meet off first = (({ u with devSub := ((u.now : Int) - off).toNat * 2000000000 }).netMod (fun n => { n with back := 0 })).incSat Obj.devTimeStepCount) ∧
  (∀ (s : State) (off : Int) (first : Bool) (u : State) (x : MtrSess), u = s.put Obj.devTimeOffset (max (-2147483648) (min 2147483647 off)) →
    first = true ∨ (u.cN Obj.devTimeStepThreshold : Int) ≤ |off| →
    0 < off →
    s.mtr.session = some x →
    s.meet off first = (u.netMod (fun n => { n with back := off.toNat * 2000000000, rateAfter := if n.back = 0 then u.o Obj.devTimeRateAdjust else n.rateAfter })).put Obj.devTimeRateAdjust (-200000)) ∧
  (∀ (s : State) (off : Int) (u : State), u = s.put Obj.devTimeOffset (max (-2147483648) (min 2147483647 off)) →
    |off| < (u.cN Obj.devTimeStepThreshold : Int) →
    s.meet off false = (u.put Obj.devTimeRateAdjust u.freeRate).fresh.netMod (fun n => { n with back := 0 }) ∧ -200000 ≤ u.freeRate ∧ u.freeRate ≤ 200000) ∧
  (∀ (s : State), s.net.back = 0 →
    s.timeTick = { s with devSub := s.devSub + (25000000000 + 25 * s.o Obj.devTimeRateAdjust).toNat }) ∧
  (∀ (s : State), 0 < s.net.back →
    s.timeTick.devSub = s.devSub + 24995000000 ∧ (s.net.back ≤ 5000000 → s.timeTick.o Obj.devTimeRateAdjust = s.net.rateAfter ∧ s.timeTick.net.back = 0)) ∧
  (∀ (s : State), s.up = true →
    s.oN Obj.devTimeState = 1 →
    exec .syncTimeout s = .next (s.put Obj.devTimeState 2)) ∧
  (∀ (s : State), s.up = false ∨ s.oN Obj.devTimeState ≠ 1 →
    exec .syncTimeout s = .next (s)) ∧
  (∀ (s : State), s.up = true →
    s.oN Obj.devTimeState = 2 →
    exec .netTimeloss s = .next ((s.put Obj.devTimeState 3).raise FC.netTimeloss 0)) ∧
  (∀ (s : State), s.up = false ∨ s.oN Obj.devTimeState ≠ 2 →
    exec .netTimeloss s = .next (s)) ∧
  (∀ (s : State), s.up = true →
    s.cN Obj.devTimePpsIn = 1 →
    s.oN Obj.devTimeState ≠ 1 →
    s.now % 1000000000 < 500000000 →
    exec .ppsInEdge s = .next (s.meet ((s.now % 1000000000 : Nat) : Int) false)) ∧
  (∀ (s : State), s.up = true →
    s.cN Obj.devTimePpsIn = 1 →
    s.oN Obj.devTimeState ≠ 1 →
    500000000 ≤ s.now % 1000000000 →
    exec .ppsInEdge s = .next (s.meet ((s.now % 1000000000 : Nat) - 1000000000 : Int) false)) ∧
  (∀ (s : State), s.up = false ∨ s.cN Obj.devTimePpsIn ≠ 1 ∨ s.oN Obj.devTimeState = 1 →
    exec .ppsInEdge s = .next (s))

/-- R508: over UDP the entry is found by port, source and connection, over CAN it is the filter's; a frame of the wrong length (padding of CAN aside) or with a
wrong CRC writes no slot, is counted and noted once a second, and so is one out of its window while open. R509, R511: number 0 opens a waiting side and
one in its substitutes, unless it must be rearmed, and reopens an open one with its count; another number leads to resynchronising, where EslRecoverCount numbers
in the window open it, and one outside it starts the count again; in the window of an open side the skipped numbers are counted as lost; an opened or
open side releases the values of its frame (R27). An entry without the ESL flag takes its slots at once. R510: a receive side in states 1 to 3 whose
watchdog passes goes to state 4, its slots take their substitute values as one unit and ESL_WDOG is raised (a Tandem connection is lost); in state 0 or 4
nothing happens. R505, R506, R507: a frame is its connection, number, payload and CRC with the sender's identity; one that is queued uses up its number (from
1 again after 65,535), one that cannot be queued skips the period, and a connection without a transmit side sends nothing. -/
def Obligations.SafeLinkFramesAndWatchdogs : Prop :=
  (∀ (s : State) (tr : Fin 12) (src : BitVec 32) (e : BitVec 13) (d : List Byte), s.up = false →
    exec (.eslFrameReceived tr src e d) s = .next (s)) ∧
  (∀ (s : State) (tr : Fin 12) (src : BitVec 32) (e : BitVec 13) (d : List Byte), s.up = true →
    tr.val < 4 →
    s.udpEntry tr.val src.toNat (pay (bytesNat d) 0 2) = none →
    exec (.eslFrameReceived tr src e d) s = .next (s)) ∧
  (∀ (s : State) (tr : Fin 12) (src : BitVec 32) (e : BitVec 13) (d : List Byte) (k : Nat), s.up = true →
    tr.val < 4 →
    s.udpEntry tr.val src.toNat (pay (bytesNat d) 0 2) = some k →
    exec (.eslFrameReceived tr src e d) s = .next (s.eslCheck k (bytesNat d))) ∧
  (∀ (s : State) (tr : Fin 12) (src : BitVec 32) (e : BitVec 13) (d : List Byte), s.up = true →
    4 ≤ tr.val →
    exec (.eslFrameReceived tr src e d) s = .next (s.entryFrame e.toNat (bytesNat d))) ∧
  (∀ (s : State) (e : Nat) (b : List Nat), s.ptFlag e 0 = false →
    s.entryFrame e b = s) ∧
  (∀ (s : State) (e : Nat) (b : List Nat), s.ptFlag e 0 = true →
    s.ptFlag e 1 = true →
    s.entryFrame e b = s.eslCheck e b) ∧
  (∀ (s : State) (e : Nat) (b : List Nat), s.ptFlag e 0 = true →
    s.ptFlag e 1 = false →
    s.pt e 6 2 ≠ 0 →
    s.pt e 6 2 ≤ b.length →
    s.entryFrame e b = s.slotValues e (b.take (s.pt e 6 2))) ∧
  (∀ (s : State) (e : Nat) (b : List Nat), s.ptFlag e 0 = true →
    s.ptFlag e 1 = false →
    s.pt e 6 2 = 0 ∨ b.length < s.pt e 6 2 →
    s.entryFrame e b = s) ∧
  (∀ (s : State) (e : Nat) (b : List Nat), (s.eslx (s.pt e 2 2)).state = 0 ∨ s.pt e 6 2 = 0 →
    s.eslCheck e b = s) ∧
  (∀ (s : State) (e : Nat) (b : List Nat), (s.eslx (s.pt e 2 2)).state ≠ 0 →
    s.pt e 6 2 ≠ 0 →
    b.length ≠ 8 + s.pt e 6 2 →
    ¬ (4 ≤ s.pt e 1 1 ∧ s.pt e 1 1 ≤ 11 ∧ b.length = padTo 1 (8 + s.pt e 6 2)) →
    s.eslCheck e b = s.eslFail (s.pt e 2 2) true) ∧
  (∀ (s : State) (e : Nat) (b : List Nat), (s.eslx (s.pt e 2 2)).state ≠ 0 →
    s.pt e 6 2 ≠ 0 →
    b.length = 8 + s.pt e 6 2 ∨ (4 ≤ s.pt e 1 1 ∧ s.pt e 1 1 ≤ 11 ∧ b.length = padTo 1 (8 + s.pt e 6 2)) →
    pay b (4 + s.pt e 6 2) 4 ≠ crc32c (natBytes 4 (s.eslIdentity e false) ++ b.take (4 + s.pt e 6 2)) →
    s.eslCheck e b = s.eslFail (s.pt e 2 2) true) ∧
  (∀ (s : State) (e : Nat) (b : List Nat), (s.eslx (s.pt e 2 2)).state ≠ 0 →
    s.pt e 6 2 ≠ 0 →
    b.length = 8 + s.pt e 6 2 ∨ (4 ≤ s.pt e 1 1 ∧ s.pt e 1 1 ≤ 11 ∧ b.length = padTo 1 (8 + s.pt e 6 2)) →
    pay b (4 + s.pt e 6 2) 4 = crc32c (natBytes 4 (s.eslIdentity e false) ++ b.take (4 + s.pt e 6 2)) →
    s.eslCheck e b = s.eslSequence e (s.pt e 2 2) (pay b 2 2) ((b.take (4 + s.pt e 6 2)).drop 4)) ∧
  (∀ (s : State) (n : Nat) (crc : Bool) (a : Nat), (if crc then (s.eslx n).crcAt else (s.eslx n).seqAt) = some a →
    s.mono < a + 1000000000 →
    s.eslFail n crc = s.eslMod n (fun x => if crc then { x with crc := min (x.crc + 1) 4294967295 } else { x with seq := min (x.seq + 1) 4294967295 })) ∧
  (∀ (s : State) (n : Nat) (crc : Bool), (if crc then (s.eslx n).crcAt else (s.eslx n).seqAt) = none →
    s.eslFail n crc = ((s.eslMod n (fun x => if crc then { x with crc := min (x.crc + 1) 4294967295 } else { x with seq := min (x.seq + 1) 4294967295 })).eslMod n (fun x => if crc then { x with crcAt := some s.mono } else { x with seqAt := some s.mono })).note (if crc then FC.eslCrc else FC.eslSeq) n) ∧
  (∀ (s : State) (n : Nat) (crc : Bool) (a : Nat), (if crc then (s.eslx n).crcAt else (s.eslx n).seqAt) = some a →
    a + 1000000000 ≤ s.mono →
    s.eslFail n crc = ((s.eslMod n (fun x => if crc then { x with crc := min (x.crc + 1) 4294967295 } else { x with seq := min (x.seq + 1) 4294967295 })).eslMod n (fun x => if crc then { x with crcAt := some s.mono } else { x with seqAt := some s.mono })).note (if crc then FC.eslCrc else FC.eslSeq) n) ∧
  (∀ (s : State) (e n q : Nat) (b : List Nat), (s.eslx n).state = 1 ∨ (s.eslx n).state = 4 ∧ s.ptFlag e 4 = false →
    q = 0 →
    s.eslSequence e n q b = ((s.eslAccept n 0 3 0).eslHolds e false).eslRelease e b) ∧
  (∀ (s : State) (e n q : Nat) (b : List Nat), (s.eslx n).state = 1 ∨ (s.eslx n).state = 4 ∧ s.ptFlag e 4 = false →
    q ≠ 0 →
    s.eslSequence e n q b = s.eslAccept n q 2 0) ∧
  (∀ (s : State) (e n q : Nat) (b : List Nat), (s.eslx n).state = 4 →
    s.ptFlag e 4 = true →
    s.eslSequence e n q b = s) ∧
  (∀ (s : State) (e n q : Nat) (b : List Nat) (k : Nat), (s.eslx n).state = 2 →
    seqAhead (s.pt e 12 1) (s.eslx n).last q = some k →
    (s.eslx n).run + 1 = s.cN Obj.eslRecoverCount →
    s.eslSequence e n q b = ((s.eslAccept n q 3 0).eslHolds e false).eslRelease e b) ∧
  (∀ (s : State) (e n q : Nat) (b : List Nat) (k : Nat), (s.eslx n).state = 2 →
    seqAhead (s.pt e 12 1) (s.eslx n).last q = some k →
    (s.eslx n).run + 1 ≠ s.cN Obj.eslRecoverCount →
    s.eslSequence e n q b = s.eslAccept n q 2 ((s.eslx n).run + 1)) ∧
  (∀ (s : State) (e n q : Nat) (b : List Nat), (s.eslx n).state = 2 →
    seqAhead (s.pt e 12 1) (s.eslx n).last q = none →
    s.eslSequence e n q b = s.eslAccept n q 2 0) ∧
  (∀ (s : State) (e n q : Nat) (b : List Nat) (k : Nat), (s.eslx n).state = 3 →
    q ≠ 0 →
    seqAhead (s.pt e 12 1) (s.eslx n).last q = some k →
    s.eslSequence e n q b = ((s.eslMod n (fun x => { x with lost := min (x.lost + (k - 1)) 4294967295 })).eslAccept n q 3 0).eslRelease e b) ∧
  (∀ (s : State) (e n q : Nat) (b : List Nat), (s.eslx n).state = 3 →
    q ≠ 0 →
    seqAhead (s.pt e 12 1) (s.eslx n).last q = none →
    s.eslSequence e n q b = s.eslFail n false) ∧
  (∀ (s : State) (e n q : Nat) (b : List Nat), (s.eslx n).state = 3 →
    q = 0 →
    s.eslSequence e n q b = (((s.eslMod n (fun x => { x with reopen := min (x.reopen + 1) 4294967295 })).eslAccept n 0 3 0).note FC.eslReopen n).eslRelease e b) ∧
  (∀ (s : State) (c : BitVec 11) (e : Nat) (v : State), s.up = true →
    s.eslEntry c.toNat = some e →
    (s.eslx c.toNat).state = 1 ∨ (s.eslx c.toNat).state = 2 ∨ (s.eslx c.toNat).state = 3 →
    v = ((s.eslMod c.toNat (fun x => { x with state := 4, run := 0, wdog := min (x.wdog + 1) 4294967295 })).substitutes e).eslHolds e true →
    exec (.eslWatchdogExpiry c) s = .next ((if v.tdEntry = some e then v.tdLost else v).raise FC.eslWdog c.toNat)) ∧
  (∀ (s : State) (c : BitVec 11), s.up = false ∨ s.eslEntry c.toNat = none ∨ (s.eslx c.toNat).state = 0 ∨ (s.eslx c.toNat).state = 4 →
    exec (.eslWatchdogExpiry c) s = .next (s)) ∧
  (∀ (s : State) (e : BitVec 13), s.up = false ∨ s.ptFlag e.toNat 0 = false ∨ s.pt e.toNat 14 2 = 0 →
    exec (.eslTxFrame e) s = .next (s)) ∧
  (∀ (s : State) (e : BitVec 13), s.up = true →
    s.ptFlag e.toNat 0 = true →
    s.pt e.toNat 14 2 ≠ 0 →
    s.ptFlag e.toNat 1 = false →
    exec (.eslTxFrame e) s = .next ((s.entryPut e.toNat (s.txPayload e.toNat)).1)) ∧
  (∀ (s : State) (e : BitVec 13) (r : State × Bool), s.up = true →
    s.ptFlag e.toNat 0 = true →
    s.pt e.toNat 14 2 ≠ 0 →
    s.ptFlag e.toNat 1 = true →
    r = s.entryPut e.toNat (s.eslFrame e.toNat (s.eslx (s.pt e.toNat 2 2)).next (s.txPayload e.toNat)) →
    r.2 = false →
    exec (.eslTxFrame e) s = .next (r.1.eslSkip e.toNat)) ∧
  (∀ (s : State) (e : BitVec 13) (r : State × Bool) (v : State), s.up = true →
    s.ptFlag e.toNat 0 = true →
    s.pt e.toNat 14 2 ≠ 0 →
    s.ptFlag e.toNat 1 = true →
    r = s.entryPut e.toNat (s.eslFrame e.toNat (s.eslx (s.pt e.toNat 2 2)).next (s.txPayload e.toNat)) →
    r.2 = true →
    v = r.1.eslMod (s.pt e.toNat 2 2) (fun x => { x with next := seqNext x.next }) →
    exec (.eslTxFrame e) s = .next (if v.tdEntry = some e.toNat then v.tdSent else v)) ∧
  (∀ (s : State) (e q : Nat) (b : List Nat), s.eslFrame e q b = natBytes 2 (s.pt e 4 2) ++ natBytes 2 q ++ b ++ natBytes 4 (crc32c (natBytes 4 (s.eslIdentity e true) ++ (natBytes 2 (s.pt e 4 2) ++ natBytes 2 q ++ b)))) ∧
  (∀ (s : State) (q : Nat), q ≤ 65535 →
    seqNext q = if q = 65535 then 1 else q + 1)

/-! ## Safety outputs and inputs (chapter 20) -/

/-- R518: in series mode a test whose five checks all read as the rule's steps say energises the output and notes the time; a switch that reads conducting
where it must not leaves it held in state 6, one that does not conduct in state 1. R516: the pilot drive starts at once, and a release takes both switches
low at once and in every mode; a held output, and one under the island's override (M9), is not energised (R528). R517: a switch that conducts while off
holds the output off in state 6, one that fails to conduct puts it off in state 1, readbacks that agree change nothing else; R519: so do the readbacks of
an off-pulse, which takes the other switch next time. R520: a pilot-drive mismatch holds both switches off. R524: a guard passes its start-up test after
demand and then permit; R526: elsewhere a level is the value, and a new demand is counted and raised; an input with its fault set keeps it. R523: an input
that reads high at two checks in a row takes the fault SAF_SISHORT, every input that names TPk is judged, and R525: a pair that disagrees SAF_SIDISCREPANCY;
both take the value demand. R500: a ball that differs is counted and raised, under the override the island records it. R504: the proof interval's end is
raised. -/
def Obligations.SafetyOutputsAreProvedBeforeTheyConduct : Prop :=
  (∀ (s : State) (so : Fin 8) (reads : BitVec 10), s.safOn = true →
    s.mode ≠ 9 →
    s.oN (Obj.soState so.val) = 1 ∨ s.oN (Obj.soState so.val) = 2 →
    s.oN (Obj.soMode so.val) = 1 →
    soTest reads.toNat = 0 →
    exec (.soEnergise so reads) s = .next ((((s.put (Obj.soCommand so.val) 1).put (Obj.soState so.val) 3).put (Obj.soReadback so.val) 3).put (Obj.soLastTestTime so.val) s.now)) ∧
  (∀ (s : State) (so : Fin 8) (reads : BitVec 10), s.safOn = true →
    s.mode ≠ 9 →
    s.oN (Obj.soState so.val) = 1 ∨ s.oN (Obj.soState so.val) = 2 →
    s.oN (Obj.soMode so.val) = 1 →
    soTest reads.toNat = 1 →
    exec (.soEnergise so reads) s = .next ((((s.put (Obj.soCommand so.val) 0).put (Obj.soState so.val) 6).incSat (Obj.soFaultCount so.val)).raise FC.safSostuckon so.val)) ∧
  (∀ (s : State) (so : Fin 8) (reads : BitVec 10), s.safOn = true →
    s.mode ≠ 9 →
    s.oN (Obj.soState so.val) = 1 ∨ s.oN (Obj.soState so.val) = 2 →
    s.oN (Obj.soMode so.val) = 1 →
    2 ≤ soTest reads.toNat →
    exec (.soEnergise so reads) s = .next ((((s.put (Obj.soCommand so.val) 0).put (Obj.soState so.val) 1).incSat (Obj.soFaultCount so.val)).raise FC.safSostuckoff so.val)) ∧
  (∀ (s : State) (so : Fin 8) (reads : BitVec 10), s.safOn = true →
    s.mode ≠ 9 →
    s.oN (Obj.soState so.val) = 1 ∨ s.oN (Obj.soState so.val) = 2 →
    s.oN (Obj.soMode so.val) = 2 →
    exec (.soEnergise so reads) s = .next ((s.put (Obj.soCommand so.val) 1).put (Obj.soState so.val) 5)) ∧
  (∀ (s : State) (so : Fin 8) (reads : BitVec 10), s.safOn = false ∨ s.mode = 9 ∨ (s.oN (Obj.soState so.val) ≠ 1 ∧ s.oN (Obj.soState so.val) ≠ 2) ∨ s.oN (Obj.soMode so.val) = 0 →
    exec (.soEnergise so reads) s = .next (s)) ∧
  (∀ (s : State) (r : Nat), (soTest r = 0) = (r.testBit 0 = false ∧ r.testBit 1 = false ∧ r.testBit 2 = false ∧ r.testBit 3 = true ∧ r.testBit 5 = false ∧
      r.testBit 6 = true ∧ r.testBit 7 = false ∧ r.testBit 8 = false)) ∧
  (∀ (s : State) (r : Nat), soTest r = 1 → [0, 1, 2, 5, 7, 8].any (fun k => r.testBit k) = true) ∧
  (∀ (s : State) (so : Fin 8), s.safOn = true →
    s.oN (Obj.soMode so.val) ≠ 0 →
    s.oN (Obj.soState so.val) ≠ 6 →
    s.oN (Obj.soState so.val) ≠ 7 →
    exec (.soDeenergise so) s = .next ((s.put (Obj.soCommand so.val) 0).put (Obj.soState so.val) 1)) ∧
  (∀ (s : State) (so : Fin 8), s.safOn = true →
    s.oN (Obj.soMode so.val) = 0 ∨ s.oN (Obj.soState so.val) = 6 ∨ s.oN (Obj.soState so.val) = 7 →
    exec (.soDeenergise so) s = .next (s.put (Obj.soCommand so.val) 0)) ∧
  (∀ (s : State) (so : Fin 8), s.safOn = false →
    exec (.soDeenergise so) s = .next (s)) ∧
  (∀ (s : State) (so : Fin 8) (rb : BitVec 2), s.safOn = true →
    s.oN (Obj.soMode so.val) = 1 →
    s.oN (Obj.soState so.val) = 1 →
    rb ≠ 0 →
    exec (.soReadbackMismatch so rb) s = .next (((((s.put (Obj.soReadback so.val) rb.toNat).put (Obj.soCommand so.val) 0).put (Obj.soState so.val) 6).incSat (Obj.soFaultCount so.val)).raise FC.safSostuckon so.val)) ∧
  (∀ (s : State) (so : Fin 8) (rb : BitVec 2), s.safOn = true →
    s.oN (Obj.soMode so.val) = 1 →
    s.oN (Obj.soState so.val) = 3 →
    rb ≠ 3 →
    exec (.soReadbackMismatch so rb) s = .next (((((s.put (Obj.soReadback so.val) rb.toNat).put (Obj.soCommand so.val) 0).put (Obj.soState so.val) 1).incSat (Obj.soFaultCount so.val)).raise FC.safSostuckoff so.val)) ∧
  (∀ (s : State) (so : Fin 8) (rb : BitVec 2), s.safOn = true →
    s.oN (Obj.soMode so.val) = 1 →
    s.oN (Obj.soState so.val) = 1 ∧ rb = 0 ∨ s.oN (Obj.soState so.val) = 3 ∧ rb = 3 →
    exec (.soReadbackMismatch so rb) s = .next (s.put (Obj.soReadback so.val) rb.toNat)) ∧
  (∀ (s : State) (so : Fin 8) (rb : BitVec 2), s.safOn = false ∨ s.oN (Obj.soMode so.val) ≠ 1 ∨ (s.oN (Obj.soState so.val) ≠ 1 ∧ s.oN (Obj.soState so.val) ≠ 3) →
    exec (.soReadbackMismatch so rb) s = .next (s)) ∧
  (∀ (s : State) (so : Fin 8) (a b : Bool) (u : State), s.safOn = true →
    s.oN (Obj.soMode so.val) = 1 →
    s.oN (Obj.soState so.val) = 3 →
    s.oN (Obj.soOffPulseEnable so.val) ≠ 0 →
    u = { s with soHigh := s.soHigh.set so.val (!s.soHigh.getD so.val true) } →
    a = true →
    exec (.soOffPulse so a b) s = .next ((((u.put (Obj.soCommand so.val) 0).put (Obj.soState so.val) 6).incSat (Obj.soFaultCount so.val)).raise FC.safSostuckon so.val)) ∧
  (∀ (s : State) (so : Fin 8) (a b : Bool) (u : State), s.safOn = true →
    s.oN (Obj.soMode so.val) = 1 →
    s.oN (Obj.soState so.val) = 3 →
    s.oN (Obj.soOffPulseEnable so.val) ≠ 0 →
    u = { s with soHigh := s.soHigh.set so.val (!s.soHigh.getD so.val true) } →
    a = false →
    b = false →
    exec (.soOffPulse so a b) s = .next ((((u.put (Obj.soCommand so.val) 0).put (Obj.soState so.val) 1).incSat (Obj.soFaultCount so.val)).raise FC.safSostuckoff so.val)) ∧
  (∀ (s : State) (so : Fin 8) (a b : Bool) (u : State), s.safOn = true →
    s.oN (Obj.soMode so.val) = 1 →
    s.oN (Obj.soState so.val) = 3 →
    s.oN (Obj.soOffPulseEnable so.val) ≠ 0 →
    u = { s with soHigh := s.soHigh.set so.val (!s.soHigh.getD so.val true) } →
    a = false →
    b = true →
    exec (.soOffPulse so a b) s = .next (u)) ∧
  (∀ (s : State) (so : Fin 8) (a b : Bool), s.safOn = false ∨ s.oN (Obj.soMode so.val) ≠ 1 ∨ s.oN (Obj.soState so.val) ≠ 3 ∨ s.oN (Obj.soOffPulseEnable so.val) = 0 →
    exec (.soOffPulse so a b) s = .next (s)) ∧
  (∀ (s : State) (so : Fin 8), s.safOn = true →
    s.oN (Obj.soMode so.val) = 2 →
    s.oN (Obj.soState so.val) = 5 →
    exec (.safSoreadback so) s = .next ((((s.put (Obj.soCommand so.val) 0).put (Obj.soState so.val) 6).incSat (Obj.soFaultCount so.val)).raise FC.safSoreadback so.val)) ∧
  (∀ (s : State) (so : Fin 8), s.safOn = false ∨ s.oN (Obj.soMode so.val) ≠ 2 ∨ s.oN (Obj.soState so.val) ≠ 5 →
    exec (.safSoreadback so) s = .next (s)) ∧
  (∀ (s : State) (si : Fin 16) (l : Bool), s.safOn = false ∨ s.oN (Obj.siMode si.val) = 0 ∨ s.oN (Obj.siState si.val) = 4 ∧ (s.isSet FC.safSishort si.val = true ∨ s.isSet FC.safSidiscrepancy si.val = true) →
    exec (.siValueChange si l) s = .next (s)) ∧
  (∀ (s : State) (si : Fin 16) (l : Bool), s.safOn = true →
    s.oN (Obj.siMode si.val) ≠ 0 →
    s.oN (Obj.siState si.val) ≠ 3 →
    s.oN (Obj.siState si.val) ≠ 4 ∨ (s.isSet FC.safSishort si.val = false ∧ s.isSet FC.safSidiscrepancy si.val = false) →
    l = true →
    exec (.siValueChange si l) s = .next ((s.put (Obj.siValue si.val) 1).put (Obj.siState si.val) 1)) ∧
  (∀ (s : State) (si : Fin 16) (l : Bool), s.safOn = true →
    s.oN (Obj.siMode si.val) ≠ 0 →
    s.oN (Obj.siState si.val) ≠ 3 →
    s.oN (Obj.siState si.val) ≠ 4 ∨ (s.isSet FC.safSishort si.val = false ∧ s.isSet FC.safSidiscrepancy si.val = false) →
    l = false →
    s.oN (Obj.siValue si.val) ≠ 0 →
    exec (.siValueChange si l) s = .next ((((s.put (Obj.siValue si.val) 0).incSat (Obj.siDemandCount si.val)).raise FC.safSidemand si.val).put (Obj.siState si.val) 2)) ∧
  (∀ (s : State) (si : Fin 16) (l : Bool), s.safOn = true →
    s.oN (Obj.siMode si.val) ≠ 0 →
    s.oN (Obj.siState si.val) ≠ 3 →
    s.oN (Obj.siState si.val) ≠ 4 ∨ (s.isSet FC.safSishort si.val = false ∧ s.isSet FC.safSidiscrepancy si.val = false) →
    l = false →
    s.oN (Obj.siValue si.val) = 0 →
    exec (.siValueChange si l) s = .next (s.put (Obj.siState si.val) 2)) ∧
  (∀ (s : State) (si : Fin 16) (l : Bool), s.safOn = true →
    s.oN (Obj.siMode si.val) ≠ 0 →
    s.oN (Obj.siState si.val) = 3 →
    l = false →
    exec (.siValueChange si l) s = .next ((s.put (Obj.siValue si.val) 0).siMod si.val (fun x => { x with seen := true }))) ∧
  (∀ (s : State) (si : Fin 16) (l : Bool), s.safOn = true →
    s.oN (Obj.siMode si.val) ≠ 0 →
    s.oN (Obj.siState si.val) = 3 →
    l = true →
    (s.siX si.val).seen = false →
    exec (.siValueChange si l) s = .next (s.put (Obj.siValue si.val) 1)) ∧
  (∀ (s : State) (si : Fin 16) (l : Bool), s.safOn = true →
    s.oN (Obj.siMode si.val) ≠ 0 →
    s.oN (Obj.siState si.val) = 3 →
    l = true →
    (s.siX si.val).seen = true →
    exec (.siValueChange si l) s = .next (((s.put (Obj.siValue si.val) 1).put (Obj.siState si.val) 1).siMod si.val (fun x => { x with seen := false }))) ∧
  (∀ (s : State) (tp : Fin 4) (reads : BitVec 16), s.safOn = true →
    exec (.siTestPulseCheck tp reads) s = .next (s.forAll ((List.range 16).filter (fun n => decide (2 ≤ s.oN (Obj.siMode n)) && s.oN (Obj.siTestSource n) == tp.val)) (State.siPulse reads.toNat))) ∧
  (∀ (s : State) (tp : Fin 4) (reads : BitVec 16), s.safOn = false →
    exec (.siTestPulseCheck tp reads) s = .next (s)) ∧
  (∀ (s : State) (n r : Nat), r.testBit n = false →
    State.siPulse r n s = s.siMod n (fun x => { x with fails := 0 })) ∧
  (∀ (s : State) (n r : Nat), r.testBit n = true →
    (s.siX n).fails ≠ 1 →
    State.siPulse r n s = s.siMod n (fun x => { x with fails := (s.siX n).fails + 1 })) ∧
  (∀ (s : State) (n r : Nat), r.testBit n = true →
    (s.siX n).fails = 1 →
    State.siPulse r n s = (s.siMod n (fun x => { x with fails := 2 })).siFault n FC.safSishort) ∧
  (∀ (s : State) (n c : Nat), s.oN (Obj.siValue n) ≠ 0 →
    s.siFault n c = (((((s.put (Obj.siValue n) 0).incSat (Obj.siDemandCount n)).raise FC.safSidemand n).put (Obj.siState n) 4).incSat (Obj.siFaultCount n)).raise c n) ∧
  (∀ (s : State) (n c : Nat), s.oN (Obj.siValue n) = 0 →
    s.siFault n c = ((s.put (Obj.siState n) 4).incSat (Obj.siFaultCount n)).raise c n) ∧
  (∀ (s : State) (si : Fin 16), s.safOn = true →
    s.siDisagree si.val = true →
    exec (.safSidiscrepancy si) s = .next (s.siFault si.val FC.safSidiscrepancy)) ∧
  (∀ (s : State) (si : Fin 16), s.safOn = false ∨ s.siDisagree si.val = false →
    exec (.safSidiscrepancy si) s = .next (s)) ∧
  (∀ (s : State) (ball : Fin 176), s.isl.whole = true ∨ s.mode = 9 →
    exec (.safPinreadback ball) s = .next (s.record FC.safPinreadback ball.val false false [] 0)) ∧
  (∀ (s : State) (ball : Fin 176), s.safOn = true →
    s.isl.whole = false →
    s.mode ≠ 9 →
    exec (.safPinreadback ball) s = .next ((s.incSat Obj.safPinReadbackCount).raise FC.safPinreadback ball.val)) ∧
  (∀ (s : State) (ball : Fin 176), s.safOn = false →
    s.isl.whole = false →
    s.mode ≠ 9 →
    exec (.safPinreadback ball) s = .next (s)) ∧
  (∀ (s : State), s.up = true →
    exec .safProofdue s = .next ((s.put Obj.safSinceProof (max (s.o Obj.safSinceProof) (s.o Obj.safProofInterval))).raise FC.safProofdue 0)) ∧
  (∀ (s : State), s.up = false →
    exec .safProofdue s = .next (s))

/-! ## Memory, leave and monitors (chapter 21) -/

/-- R553: a Safety request is granted in every case and withdraws its waiting request; beyond the reserve it is counted and raised. R552: any other request
is granted at once only if it fits and no request of its own or a higher class waits, and after it the non-Safety sum with the reserve is at most the
effective ceiling; else it waits, in order of arrival; the request served next is the first of the highest waiting class, and it is granted when it fits.
A grant sets going what waited for it: a gate pair's start, a law's slot, a journal slot's write. R555: a return adds its amount times its span to the
energy and frees its sum; a request that still waits is withdrawn; one that waits beyond LeaveWaitWarn is noted once, with an event of kind 10. While the
dictionary is not served nothing happens. -/
def Obligations.LeaveIsGrantedUnderItsCeiling : Prop :=
  (∀ (s : State) (op : LeaveOp), leaveClass op ≠ 0 →
    s.leaveSum (fun k => k != 0) + s.leaveAmount op + s.oN Obj.leaveSafetyReserve ≤ s.oN Obj.leaveEffectiveCeiling →
    ∀ e ∈ s.leave.waiting, leaveClass op < leaveClass e.op →
    (s.leaveAsk op).2 = true ∧ (s.leaveAsk op).1.leave.waiting = s.leave.waiting ∧ (s.leaveAsk op).1.leave.held = s.leave.held ++ [{ op := op, since := s.mono }] ∧
      (s.leaveAsk op).1.leaveSum (fun k => k != 0) + s.oN Obj.leaveSafetyReserve ≤ s.oN Obj.leaveEffectiveCeiling) ∧
  (∀ (s : State) (op : LeaveOp), leaveClass op ≠ 0 →
    s.leaveFits op = false ∨ s.leave.waiting.any (fun e => leaveClass e.op ≤ leaveClass op) = true →
    (s.leaveAsk op).2 = false ∧ (s.leaveAsk op).1.leave.waiting = s.leave.waiting ++ [{ op := op, since := s.mono }] ∧
      (s.leaveAsk op).1.leave.held = s.leave.held) ∧
  (∀ (s : State) (op : LeaveOp), leaveClass op = 0 →
    (s.leaveAsk op).2 = true ∧ (s.leaveAsk op).1.leave.held = s.leave.held ++ [{ op := op, since := s.mono }] ∧
      (s.leaveAsk op).1.leave.waiting = s.leave.waiting.filter (fun e => e.op != op)) ∧
  (∀ (s : State) (op : LeaveOp) (r : State × Bool), s.leaveOn = true →
    r = s.leaveAsk op →
    r.2 = false →
    exec (.leaveRequest op) s = .next r.1 ∧ exec (.leaveSafetyRequest op) s = .next r.1) ∧
  (∀ (s : State) (op : LeaveOp) (r : State × Bool), s.leaveOn = true →
    r = s.leaveAsk op →
    r.2 = true →
    exec (.leaveRequest op) s = .next (r.1.onGrant op) ∧ exec (.leaveSafetyRequest op) s = .next (r.1.onGrant op)) ∧
  (∀ (s : State) (op : LeaveOp), s.leaveOn = false →
    exec (.leaveRequest op) s = .next s ∧ exec (.leaveSafetyRequest op) s = .next s ∧ exec .leaveGrant s = .next s ∧
      exec (.leaveReturn op) s = .next s ∧ exec (.leaveWait op) s = .next s) ∧
  (∀ (s : State) (op : LeaveOp) (u : State), leaveClass op = 0 →
    u = ({ s with leave := { s.leave with waiting := s.leave.waiting.filter (fun e => e.op != op) } } : State).leaveHold op →
    u.leaveSum (fun k => k == 0) ≤ u.oN Obj.leaveSafetyReserve →
    s.leaveAsk op = (u, true)) ∧
  (∀ (s : State) (op : LeaveOp) (u : State), leaveClass op = 0 →
    u = ({ s with leave := { s.leave with waiting := s.leave.waiting.filter (fun e => e.op != op) } } : State).leaveHold op →
    u.oN Obj.leaveSafetyReserve < u.leaveSum (fun k => k == 0) →
    s.leaveAsk op = ((u.incSat Obj.leaveSafetyOverrun).raise FC.leaveSafetyover 0, true)) ∧
  (∀ (s : State) (u : State) (n : Fin 24) (m : Fin 64) (p : Fin 2), u.onGrant (.gatePair n) = u.pairGranted n.val ∧ u.onGrant (.law m) = u.slotGranted m.val ∧ u.onGrant .journalSlot = (u.mtrJournal false).leaveBack .journalSlot ∧
      u.onGrant .finalJournal = u ∧ u.onGrant .faultRecord = u ∧ u.onGrant .configStore = u ∧ u.onGrant .patternTable = u ∧
      u.onGrant .memTest = u ∧ u.onGrant .eventLog = u ∧ u.onGrant .firmware = u ∧ u.onGrant (.serdes p) = u) ∧
  (∀ (s : State) (e : LeaveEntry), s.leaveOn = true →
    s.leaveNext = some e →
    leaveClass e.op ≠ 0 →
    s.leaveFits e.op = false →
    exec .leaveGrant s = .next (s)) ∧
  (∀ (s : State) (e : LeaveEntry), s.leaveOn = true →
    s.leaveNext = some e →
    leaveClass e.op = 0 ∨ s.leaveFits e.op = true →
    exec .leaveGrant s = .next ((({ s with leave := { s.leave with waiting := s.leave.waiting.erase e } } : State).leaveHold e.op).onGrant e.op)) ∧
  (∀ (s : State), s.leaveNext = none →
    exec .leaveGrant s = .next (s)) ∧
  (∀ (s : State) (e : LeaveEntry), s.leaveNext = some e →
    e ∈ s.leave.waiting ∧ (∀ k ∈ s.leave.waiting, leaveClass e.op ≤ leaveClass k.op) ∧ s.leave.waiting.find? (fun k => leaveClass k.op == leaveClass e.op) = some e) ∧
  (∀ (s : State) (op : LeaveOp) (e : LeaveEntry), s.leaveOn = true →
    s.leave.held.find? (fun e => e.op == op) = some e →
    ∃ t, exec (.leaveReturn op) s = .next t ∧
      t.leave.held = s.leave.held.erase e ∧ t.leave.energy = s.leave.energy + s.leaveAmount op * (s.mono - e.since) ∧ t.leave.waiting = s.leave.waiting ∧
      t.oN Obj.leaveInUse = t.leaveSum (fun _ => true) ∧ t.oN Obj.leaveEnergy = t.leave.energy / 1000000000 % 18446744073709551616 ∧ t.fc = s.fc ∧ t.active = s.active) ∧
  (∀ (s : State) (op : LeaveOp), s.leaveOn = true →
    s.leave.held.find? (fun e => e.op == op) = none →
    exec (.leaveReturn op) s = .next (({ s with leave := { s.leave with waiting := s.leave.waiting.filter (fun e => e.op != op) } } : State).leaveShow)) ∧
  (∀ (s : State) (op : LeaveOp), s.leaveOn = true →
    s.leave.waiting.any (fun e => e.op == op && !e.warned) = false →
    exec (.leaveWait op) s = .next (s)) ∧
  (∀ (s : State) (op : LeaveOp), s.leaveOn = true →
    s.leave.waiting.any (fun e => e.op == op && !e.warned) = true →
    exec (.leaveWait op) s = .next ((({ s with leave := { s.leave with waiting := s.leave.waiting.map (fun (e : LeaveEntry) => if e.op == op then { e with warned := true } else e) } }).note FC.leaveWait (leaveClass op)).log 10 0 (leaveClass op) 0 0))

/-- R543: a double error is counted, its region is remapped, and it is raised as MEM_ECCUE for a processor and MEM_DMAUE for the DMA; a corrected one is
counted and noted once a second, and R545: the third of a region within an hour remaps it. R544, R545, R561: under leave a good region moves the test on, 98,303 back to 0
with a pass counted; a failed one is remapped, one with a double error as well, raised where no copy exists; a late start is counted; without leave
it asks for it. A bank's spares are used in order, and past the sixteenth MEM_SPARESOUT is raised. R30, R546: a conflict counter rises by the waited cycles
and stops at its limit, where it sets its bit and is noted once until a read clears both. R554: the ceiling is whole up to HmTempWarn, at the reserve
from HmTempCritical, and linear between. R557: a sensor 15 °C off the others' median for 100 samples is invalid; the hottest valid one sets the ceiling and is raised
on entry above a threshold, which it leaves by the hysteresis. R558: eight samples in a row enter or leave a supply's warning or fault, which is counted,
logged and raised. R559: drift beyond its limit is noted when it begins (0 where the factory value is 0, log 65). In M1 or with the main domain off the
monitors do nothing. -/
def Obligations.MemoryErrorsAndMonitorsAreJudged : Prop :=
  (∀ (s : State) (m : Fin 20) (b : Fin 24) (r : BitVec 12), s.up = true →
    m.val ≤ 13 ∨ m.val = 19 →
    exec (.sramEccError m b r true) s = .next (((s.incSat Obj.memEccUncorrectedCount).remap b.val r.toNat).raise FC.memEccue b.val)) ∧
  (∀ (s : State) (m : Fin 20) (b : Fin 24) (r : BitVec 12), s.up = true →
    14 ≤ m.val ∧ m.val ≤ 18 →
    exec (.sramEccError m b r true) s = .next (((s.incSat Obj.memEccUncorrectedCount).remap b.val r.toNat).note FC.memDmaue b.val)) ∧
  (∀ (s : State) (m : Fin 20) (b : Fin 24) (r : BitVec 12) (d : Bool), s.up = false →
    exec (.sramEccError m b r d) s = .next (s)) ∧
  (∀ (s : State) (m : Fin 20) (b : Fin 24) (r : BitVec 12) (l : List (Nat × Nat)) (u : State), s.up = true →
    l = s.memx.corrected.filter (fun p => decide (s.mono < p.2 + 3600000000000)) ++ [(b.val * 4096 + r.toNat, s.mono)] →
    u = (if s.secondSince s.memx.corrAt then (((s.incSat Obj.memEccCorrectedCount).memMod (fun m => { m with corrected := l, corrAt := some s.mono })).note FC.memEcccorr b.val)
      else (s.incSat Obj.memEccCorrectedCount).memMod (fun m => { m with corrected := l })) →
    (l.filter (fun p => p.1 == b.val * 4096 + r.toNat)).length < 3 →
    exec (.sramEccError m b r false) s = .next (u)) ∧
  (∀ (s : State) (m : Fin 20) (b : Fin 24) (r : BitVec 12) (l : List (Nat × Nat)) (u : State), s.up = true →
    l = s.memx.corrected.filter (fun p => decide (s.mono < p.2 + 3600000000000)) ++ [(b.val * 4096 + r.toNat, s.mono)] →
    u = (if s.secondSince s.memx.corrAt then (((s.incSat Obj.memEccCorrectedCount).memMod (fun m => { m with corrected := l, corrAt := some s.mono })).note FC.memEcccorr b.val)
      else (s.incSat Obj.memEccCorrectedCount).memMod (fun m => { m with corrected := l })) →
    3 ≤ (l.filter (fun p => p.1 == b.val * 4096 + r.toNat)).length →
    exec (.sramEccError m b r false) s = .next ((u.memMod (fun m => { m with corrected := l.filter (fun p => p.1 != b.val * 4096 + r.toNat) })).remap b.val r.toNat)) ∧
  (∀ (s : State) (b r : Nat), s.memx.spares.getD b 0 < 16 →
    (s.remap b r).nv.remap = s.nv.remap ++ [(b, s.memx.spares.getD b 0, r)] ∧ (s.remap b r).memx.spares = s.memx.spares.set b (s.memx.spares.getD b 0 + 1) ∧
      (s.remap b r).oN Obj.memRemapCount = s.nv.remap.length + 1) ∧
  (∀ (s : State) (b r : Nat), 16 ≤ s.memx.spares.getD b 0 →
    s.remap b r = s.note FC.memSparesout b) ∧
  (∀ (s : State), s.oN Obj.memTestPosition < 98303 →
    s.testNext = s.put Obj.memTestPosition (s.oN Obj.memTestPosition + 1 : Nat)) ∧
  (∀ (s : State), s.oN Obj.memTestPosition = 98303 →
    s.testNext.o Obj.memTestPosition = 0 ∧ s.testNext.o Obj.memTestPassCount = (s.oN Obj.memTestPassCount + 1) % 4294967296) ∧
  (∀ (s : State) (f : BitVec 2) (d c : Bool), s.memTestOn = false ∨ (s.leave.held.any (fun e => e.op == .memTest) = false ∧ s.leave.waiting.any (fun e => e.op == .memTest) = true) →
    exec (.backgroundTestRegion f d c) s = .next (s)) ∧
  (∀ (s : State) (f : BitVec 2) (d c : Bool), s.memTestOn = true →
    s.leave.held.any (fun e => e.op == .memTest) = true →
    exec (.backgroundTestRegion f d c) s = .next (s.testRegion f.toNat d c)) ∧
  (∀ (s : State) (f : BitVec 2) (d c : Bool) (r : State × Bool), s.memTestOn = true →
    s.leave.held.any (fun e => e.op == .memTest) = false →
    s.leave.waiting.any (fun e => e.op == .memTest) = false →
    r = s.leaveAsk .memTest →
    exec (.backgroundTestRegion f d c) s = .next ((if r.2 then r.1.testRegion f.toNat d c else r.1))) ∧
  (∀ (s : State) (f : Nat) (d c : Bool) (u : State) (k : Nat), s.memx.startAt = none →
    u = s.memMod (fun m => { m with startAt := some s.mono }) →
    k = s.oN Obj.memTestPosition →
    d = false →
    f < 2 →
    s.testRegion f d c = u.testNext.leaveBack .memTest) ∧
  (∀ (s : State) (f : Nat) (d c : Bool) (u : State) (k : Nat), s.memx.startAt = none →
    u = s.memMod (fun m => { m with startAt := some s.mono }) →
    k = s.oN Obj.memTestPosition →
    d = false →
    2 ≤ f →
    s.testRegion f d c = ((u.incSat Obj.memTestFailCount).remap (k / 4096) (k % 4096)).testNext.leaveBack .memTest) ∧
  (∀ (s : State) (f : Nat) (d c : Bool) (u : State) (k : Nat), s.memx.startAt = none →
    u = s.memMod (fun m => { m with startAt := some s.mono }) →
    k = s.oN Obj.memTestPosition →
    d = true →
    c = true →
    s.testRegion f d c = ((u.incSat Obj.memEccUncorrectedCount).remap (k / 4096) (k % 4096)).testNext.leaveBack .memTest) ∧
  (∀ (s : State) (f : Nat) (d c : Bool) (u : State) (k : Nat), s.memx.startAt = none →
    u = s.memMod (fun m => { m with startAt := some s.mono }) →
    k = s.oN Obj.memTestPosition →
    d = true →
    c = false →
    s.testRegion f d c = (((u.incSat Obj.memEccUncorrectedCount).remap (k / 4096) (k % 4096)).raise FC.memEccue (k / 4096)).testNext.leaveBack .memTest) ∧
  (∀ (s : State) (f : Nat) (d c : Bool) (a : Nat), s.memx.startAt = some a →
    d = false →
    f < 2 →
    (s.testRegion f d c).oN Obj.memTestLateCount = (if a + 2 * (s.oN Obj.memTestPeriod * 1000) < s.mono then min 4294967295 (s.oN Obj.memTestLateCount + 1) else s.oN Obj.memTestLateCount)) ∧
  (∀ (s : State) (m : Fin 20), s.plat.mainOn = true →
    (s.oN Obj.memConflictSaturated).testBit m.val = false →
    exec (.memConflictsat m) s = .next (((s.put (Obj.memConflictCount m.val) 4294967295).put Obj.memConflictSaturated (setBit (s.oN Obj.memConflictSaturated) m.val : Nat)).note FC.memConflictsat m.val)) ∧
  (∀ (s : State) (m : Fin 20), s.plat.mainOn = true →
    (s.oN Obj.memConflictSaturated).testBit m.val = true →
    exec (.memConflictsat m) s = .next (s.put (Obj.memConflictCount m.val) 4294967295)) ∧
  (∀ (s : State) (m : Fin 20), s.plat.mainOn = false →
    exec (.memConflictsat m) s = .next (s)) ∧
  (∀ (s : State) (m n : Nat), s.oN (Obj.memConflictCount m) + n < 4294967295 →
    s.masterWaits m n = s.put (Obj.memConflictCount m) (s.oN (Obj.memConflictCount m) + n : Nat)) ∧
  (∀ (s : State) (m : Nat), m < 20 →
    s.taken (Obj.memConflictCount m) = (s.put (Obj.memConflictCount m) 0).put Obj.memConflictSaturated (clearBit (s.oN Obj.memConflictSaturated) m : Nat)) ∧
  (∀ (s : State) (q : Rat), q ≤ s.oF Obj.hmTempWarn →
    s.effectiveCeiling q = s.oN Obj.leaveCeiling) ∧
  (∀ (s : State) (q : Rat), s.oF Obj.hmTempWarn < q →
    s.oF Obj.hmTempCritical ≤ q →
    s.effectiveCeiling q = min (s.oN Obj.leaveSafetyReserve) (s.oN Obj.leaveCeiling)) ∧
  (∀ (s : State) (q : Rat), s.oF Obj.hmTempWarn < q →
    q < s.oF Obj.hmTempCritical →
    s.effectiveCeiling q = ((s.oN Obj.leaveCeiling : Rat) - ((s.oN Obj.leaveCeiling : Rat) - (s.oN Obj.leaveSafetyReserve : Rat)) * (q - s.oF Obj.hmTempWarn) / (s.oF Obj.hmTempCritical - s.oF Obj.hmTempWarn)).floor.toNat) ∧
  (∀ (s : State) (raw : Vector (BitVec 32) 8), s.monitorsOn = true →
    exec (.temperatureSample raw) s = .next (s.temperatures (fun n => (raw.toList.getD n 0).toNat))) ∧
  (∀ (s : State) (raw : Nat → Nat) (ts : List Rat) (u : State) (h : Nat) (v : State) (w : State), ts = (List.range 8).map (fun n => F32.toRat (raw n) * s.oF (Obj.calTsGain n) + s.oF (Obj.calTsOffset n)) →
    u = s.forAll (List.range 8) (fun n t => (t.putF (Obj.tsTemperature n) (ts.getD n 0)).tsJudge ts n) →
    u.hottestTs ts = some h →
    v = u.put Obj.leaveEffectiveCeiling (u.effectiveCeiling (ts.getD h 0)) →
    w = (if 2 ≤ u.oN (Obj.tsState h) ∧ ((List.range 8).map (fun n => s.oN (Obj.tsState n))).foldl (fun m x => if x ≤ 3 then max m x else m) 0 < 2 then v.raise FC.hmTemphigh h else v) →
    s.temperatures raw = (if u.oN (Obj.tsState h) = 3 ∧ ((List.range 8).map (fun n => s.oN (Obj.tsState n))).foldl (fun m x => if x ≤ 3 then max m x else m) 0 < 3 then w.raise FC.hmTempcrit h else w)) ∧
  (∀ (s : State) (raw : Nat → Nat) (ts : List Rat) (u : State), ts = (List.range 8).map (fun n => F32.toRat (raw n) * s.oF (Obj.calTsGain n) + s.oF (Obj.calTsOffset n)) →
    u = s.forAll (List.range 8) (fun n t => (t.putF (Obj.tsTemperature n) (ts.getD n 0)).tsJudge ts n) →
    u.hottestTs ts = none →
    s.temperatures raw = u) ∧
  (∀ (s : State) (o : Nat) (q : Rat), s.oF Obj.hmTempCritical < q ∨ (o = 3 ∧ s.oF Obj.hmTempCritical - s.oF Obj.hmTempHysteresis ≤ q) →
    s.tsLevel o q = 3) ∧
  (∀ (s : State) (o : Nat) (q : Rat), q ≤ s.oF Obj.hmTempCritical →
    q ≤ s.oF Obj.hmTempWarn →
    o ≠ 3 ∨ q < s.oF Obj.hmTempCritical - s.oF Obj.hmTempHysteresis →
    (o ≠ 2 ∧ o ≠ 3) ∨ q < s.oF Obj.hmTempWarn - s.oF Obj.hmTempHysteresis →
    s.tsLevel o q = 1) ∧
  (∀ (s : State) (ts : List Rat) (n : Nat), n < 8 →
    s.hm.disagree.length = 8 →
    15 < |ts.getD n 0 - othersMedian ts n| →
    (State.tsJudge ts n s).oN (Obj.tsState n) = (if 99 ≤ s.hm.disagree.getD n 0 then 4 else s.tsLevel (s.oN (Obj.tsState n)) (ts.getD n 0))) ∧
  (∀ (s : State) (v o : Nat) (x : HmX), 8 ≤ x.fault.getD v 0 →
    vmLevel x v o = 2) ∧
  (∀ (s : State) (v : Nat) (x : HmX), x.fault.getD v 0 < 8 →
    vmLevel x v 2 = (if x.inFault.getD v 0 < 8 then 2 else if 8 ≤ x.inWarn.getD v 0 then 0 else 1)) ∧
  (∀ (s : State) (v : Nat) (x : HmX), x.fault.getD v 0 < 8 →
    vmLevel x v 0 = (if 8 ≤ x.warn.getD v 0 then 1 else 0) ∧ vmLevel x v 1 = (if 8 ≤ x.inWarn.getD v 0 ∧ x.warn.getD v 0 < 8 then 0 else 1)) ∧
  (∀ (s : State) (v o n : Nat), n = 2 →
    o ≠ 2 →
    v ≠ 4 →
    State.vmMove v o n s = (((s.put (Obj.vmState v) n).log 12 0 v o n).incSat (Obj.vmFaultCount v)).raise FC.hmVoltfault v) ∧
  (∀ (s : State) (o : Nat), o ≠ 2 →
    State.vmMove 4 o 2 s = ((((((s.put (Obj.vmState 4) 2).log 12 0 4 o 2).incSat (Obj.vmFaultCount 4)).raise FC.hmVoltfault 4).xgDown 0 false).xgDown 1 false)) ∧
  (∀ (s : State) (v : Nat), State.vmMove v 0 1 s = (if v = 9 then ((s.put (Obj.vmState v) 1).log 12 0 v 0 1).slotRelease else (s.put (Obj.vmState v) 1).log 12 0 v 0 1).note FC.hmVoltwarn v) ∧
  (∀ (s : State) (v o : Nat), v ≠ 9 →
    State.vmMove v o o s = s.put (Obj.vmState v) o) ∧
  (∀ (s : State) (v : Vector (BitVec 32) 12), s.monitorsOn = true →
    exec (.voltageSample v) s = .next (s.forAll (List.range 12) (fun n => State.vmJudge n (F32.toRat (v.toList.getD n 0).toNat)))) ∧
  (∀ (s : State) (n : Nat) (q : Rat) (u : State), u = (s.vmRuns n (decide ((supplyLimits n).1 * s.oF Obj.hmVoltWarn / 100 < |q - (supplyLimits n).1|)) (decide (q < (supplyLimits n).2.1 ∨ (supplyLimits n).2.2 < q))).vmRecord n q →
    State.vmJudge n q s = State.vmMove n (u.oN (Obj.vmState n)) (vmLevel u.hm n (u.oN (Obj.vmState n))) u) ∧
  (∀ (s : State) (p : Nat) (f : Rat), s.oF (Obj.pmFactory p) = 0 →
    0 ≤ s.oF Obj.hmDriftLimit →
    State.pmJudge p f s = (s.putF (Obj.pmFrequency p) f).putF (Obj.pmDrift p) 0) ∧
  (∀ (s : State) (p : Nat) (f : Rat) (d : Rat) (u : State), s.oF (Obj.pmFactory p) ≠ 0 →
    d = max (-100) (min 100 ((f - s.oF (Obj.pmFactory p)) / s.oF (Obj.pmFactory p) * 100)) →
    u = (s.putF (Obj.pmFrequency p) f).putF (Obj.pmDrift p) d →
    State.pmJudge p f s = (if s.oF Obj.hmDriftLimit < |d| ∧ |s.oF (Obj.pmDrift p)| ≤ s.oF Obj.hmDriftLimit then u.note FC.hmProcess p else u)) ∧
  (∀ (s : State) (f : Vector (BitVec 32) 4), s.monitorsOn = true →
    exec (.processMonitorSample f) s = .next (s.forAll (List.range 4) (fun p => State.pmJudge p (F32.toRat (f.toList.getD p 0).toNat)))) ∧
  (∀ (s : State) (raw : Vector (BitVec 32) 8) (v : Vector (BitVec 32) 12) (f : Vector (BitVec 32) 4), s.monitorsOn = false →
    exec (.temperatureSample raw) s = .next s ∧ exec (.voltageSample v) s = .next s ∧ exec (.processMonitorSample f) s = .next s)
end

