-- ==== Sys2Proof/Laws/Store.lean ====
section
/-! SUPPORT. The dictionary's stores and the blocks' memory: reading after writing, and the canonical form that every write
keeps. -/

namespace Sys2Proof.Machine

/-! ## Stores -/

/-- The canonical form as a statement about the list: keys strictly rising, no default listed. -/
theorem Store.wf_iff (st : Store) : st.wf = true ↔ st.Pairwise (fun p q => p.1 < q.1) ∧ ∀ p ∈ st, p.2 ≠ defaultOf p.1 := by
  induction st using Store.wf.induct with
  | case1 => simp [Store.wf]
  | case2 p => simp [Store.wf]
  | case3 p q st ih =>
    rw [Store.wf]
    simp only [Bool.and_eq_true, bne_iff_ne, decide_eq_true_eq, ih, List.pairwise_cons]
    constructor
    · rintro ⟨⟨h1, h2⟩, ⟨h3, h4⟩, h5⟩
      refine ⟨⟨?_, h3, h4⟩, ?_⟩
      · intro a ha
        rcases List.mem_cons.mp ha with rfl | ha
        · exact h2
        · exact lt_trans h2 (h3 a ha)
      · intro a ha
        rcases List.mem_cons.mp ha with rfl | ha
        · exact h1
        · exact h5 a ha
    · rintro ⟨⟨h1, h2, h3⟩, h4⟩
      exact ⟨⟨h4 p (by simp), h1 q (by simp)⟩, ⟨h2, h3⟩, fun a ha => h4 a (List.mem_cons_of_mem _ ha)⟩

theorem mem_insertKey (st : Store) (k : Nat) (v : Int) (p : Nat × Int) : p ∈ insertKey st k v ↔ p = (k, v) ∨ p ∈ st := by
  induction st with
  | nil => simp [insertKey]
  | cons q st ih =>
    rw [insertKey]
    split
    · simp
    · simp [ih, or_left_comm]

theorem pairwise_insertKey {st : Store} {k : Nat} {v : Int} (h : st.Pairwise (fun p q => p.1 < q.1)) (hk : ∀ p ∈ st, p.1 ≠ k) :
    (insertKey st k v).Pairwise (fun p q => p.1 < q.1) := by
  induction st with
  | nil => simp [insertKey]
  | cons q st ih =>
    rw [insertKey]
    rw [List.pairwise_cons] at h
    split
    · rename_i hlt
      refine List.pairwise_cons.mpr ⟨fun a ha => ?_, List.pairwise_cons.mpr h⟩
      rcases List.mem_cons.mp ha with rfl | ha
      · exact hlt
      · exact lt_trans hlt (h.1 a ha)
    · rename_i hge
      refine List.pairwise_cons.mpr ⟨fun a ha => ?_, ih h.2 (fun p hp => hk p (List.mem_cons_of_mem _ hp))⟩
      rcases (mem_insertKey st k v a).mp ha with rfl | ha
      · exact lt_of_le_of_ne (not_lt.mp hge) (hk q (by simp))
      · exact h.1 a ha

/-- Every write keeps the canonical form. -/
theorem Store.wf_set {st : Store} (h : st.wf = true) (k : Nat) (v : Int) : (st.set k v).wf = true := by
  rw [Store.wf_iff] at h ⊢
  have hp : (st.filter (fun p => p.1 != k)).Pairwise (fun p q => p.1 < q.1) := h.1.filter _
  unfold Store.set
  split
  · exact ⟨hp, fun p hp => h.2 p (List.mem_of_mem_filter hp)⟩
  · rename_i hv
    refine ⟨pairwise_insertKey hp (fun p hp => by simpa using (List.mem_filter.mp hp).2), fun p hp => ?_⟩
    rcases (mem_insertKey _ k v p).mp hp with rfl | hp
    · exact hv
    · exact h.2 p (List.mem_of_mem_filter hp)

/-- Choosing among the entries keeps the canonical form. -/
theorem Store.wf_filter {st : Store} (h : st.wf = true) (f : Nat × Int → Bool) : Store.wf (st.filter f) = true := by
  rw [Store.wf_iff] at h ⊢
  exact ⟨h.1.filter _, fun p hp => h.2 p (List.mem_of_mem_filter hp)⟩

theorem lookup_insertKey (st : Store) (k j : Nat) (v : Int) (hk : ∀ p ∈ st, p.1 ≠ k) :
    (insertKey st k v).lookup j = if j = k then some v else st.lookup j := by
  induction st with
  | nil =>
    by_cases h : j = k
    · simp [insertKey, h]
    · have : (j == k) = false := by simpa using h
      simp [insertKey, List.lookup, this, h]
  | cons q st ih =>
    have hq : q.1 ≠ k := hk q (by simp)
    have ih := ih (fun p hp => hk p (List.mem_cons_of_mem _ hp))
    rw [insertKey]
    obtain ⟨a, b⟩ := q
    split
    · by_cases h : j = k
      · simp [List.lookup, h]
      · have : (j == k) = false := by simpa using h
        simp [List.lookup, this, h]
    · by_cases h : j = a
      · subst h
        have : ¬ j = k := hq
        simp [List.lookup, this]
      · have : (j == a) = false := by simpa using h
        simp [List.lookup, this, ih]

theorem lookup_filter_ne {β : Type} (st : List (Nat × β)) (k j : Nat) :
    (st.filter (fun p => p.1 != k)).lookup j = if j = k then none else st.lookup j := by
  induction st with
  | nil => simp
  | cons q st ih =>
    obtain ⟨a, b⟩ := q
    rw [List.filter_cons]
    by_cases ha : a = k
    · have h1 : (a != k) = false := by simpa using ha
      simp only [h1]
      by_cases hj : j = k
      · simpa [hj] using ih
      · have h2 : (j == a) = false := by simpa [ha] using hj
        simpa [hj, List.lookup, h2] using ih
    · have h1 : (a != k) = true := by simpa using ha
      simp only [h1, if_true]
      by_cases hj : j = a
      · subst hj
        simp [List.lookup, ha]
      · have : (j == a) = false := by simpa using hj
        simp [List.lookup, this, ih]

/-- What a write leaves listed. -/
theorem Store.lookup_set (st : Store) (k j : Nat) (v : Int) :
    (st.set k v).lookup j = if j = k then (if v = defaultOf k then none else some v) else st.lookup j := by
  unfold Store.set
  split
  · rw [lookup_filter_ne]
  · rw [lookup_insertKey _ _ _ _ (fun p hp => by simpa using (List.mem_filter.mp hp).2), lookup_filter_ne]
    by_cases h : j = k <;> simp [h]

/-- Reading after writing. -/
theorem Store.get_set (st : Store) (k j : Nat) (v : Int) : (st.set k v).get j = if j = k then v else st.get j := by
  unfold Store.get
  rw [Store.lookup_set]
  by_cases h : j = k
  · subst h
    by_cases hv : v = defaultOf j <;> simp [hv]
  · simp [h]

@[simp] theorem Store.get_set_same (st : Store) (k : Nat) (v : Int) : (st.set k v).get k = v := by simp [Store.get_set]

theorem Store.get_set_other (st : Store) {k j : Nat} (v : Int) (h : j ≠ k) : (st.set k v).get j = st.get j := by
  simp [Store.get_set, h]

/-! ## Memory -/

/-- The memory's canonical form as a statement about the list. -/
theorem memWf_iff (m : List Host.Cell) : memWf m = true ↔ m.Pairwise (fun p q => p.1 < q.1) ∧ ∀ p ∈ m, p.2 ≠ byteDefault p.1 := by
  induction m using memWf.induct with
  | case1 => simp [memWf]
  | case2 p => simp [memWf]
  | case3 p q m ih =>
    rw [memWf]
    simp only [Bool.and_eq_true, bne_iff_ne, decide_eq_true_eq, ih, List.pairwise_cons]
    constructor
    · rintro ⟨⟨h1, h2⟩, ⟨h3, h4⟩, h5⟩
      refine ⟨⟨?_, h3, h4⟩, ?_⟩
      · intro a ha
        rcases List.mem_cons.mp ha with rfl | ha
        · exact h2
        · exact lt_trans h2 (h3 a ha)
      · intro a ha
        rcases List.mem_cons.mp ha with rfl | ha
        · exact h1
        · exact h5 a ha
    · rintro ⟨⟨h1, h2, h3⟩, h4⟩
      exact ⟨⟨h4 p (by simp), h1 q (by simp)⟩, ⟨h2, h3⟩, fun a ha => h4 a (List.mem_cons_of_mem _ ha)⟩

theorem mem_insertByte (m : List Host.Cell) (a : Nat) (b : BitVec 8) (p : Host.Cell) : p ∈ insertByte m a b ↔ p = (a, b) ∨ p ∈ m := by
  induction m with
  | nil => simp [insertByte]
  | cons q m ih =>
    rw [insertByte]
    split
    · simp
    · simp [ih, or_left_comm]

theorem pairwise_insertByte {m : List Host.Cell} {a : Nat} {b : BitVec 8} (h : m.Pairwise (fun p q => p.1 < q.1)) (hk : ∀ p ∈ m, p.1 ≠ a) :
    (insertByte m a b).Pairwise (fun p q => p.1 < q.1) := by
  induction m with
  | nil => simp [insertByte]
  | cons q m ih =>
    rw [insertByte]
    rw [List.pairwise_cons] at h
    split
    · rename_i hlt
      refine List.pairwise_cons.mpr ⟨fun x hx => ?_, List.pairwise_cons.mpr h⟩
      rcases List.mem_cons.mp hx with rfl | hx
      · exact hlt
      · exact lt_trans hlt (h.1 x hx)
    · rename_i hge
      refine List.pairwise_cons.mpr ⟨fun x hx => ?_, ih h.2 (fun p hp => hk p (List.mem_cons_of_mem _ hp))⟩
      rcases (mem_insertByte m a b x).mp hx with rfl | hx
      · exact lt_of_le_of_ne (not_lt.mp hge) (hk q (by simp))
      · exact h.1 x hx

/-- A byte written keeps the canonical form. -/
theorem memWf_setByte {m : List Host.Cell} (h : memWf m = true) (a : Nat) (b : BitVec 8) : memWf (setByte m a b) = true := by
  rw [memWf_iff] at h ⊢
  have hp : (m.filter (fun p => p.1 != a)).Pairwise (fun p q => p.1 < q.1) := h.1.filter _
  unfold setByte
  split
  · exact ⟨hp, fun p hp => h.2 p (List.mem_of_mem_filter hp)⟩
  · rename_i hv
    refine ⟨pairwise_insertByte hp (fun p hp => by simpa using (List.mem_filter.mp hp).2), fun p hp => ?_⟩
    rcases (mem_insertByte _ a b p).mp hp with rfl | hp
    · exact hv
    · exact h.2 p (List.mem_of_mem_filter hp)

/-- Bytes written keep the canonical form. -/
theorem memWf_setBytes {m : List Host.Cell} (h : memWf m = true) (a : Nat) (bs : List (BitVec 8)) : memWf (setBytes m a bs) = true := by
  induction bs generalizing m a with
  | nil => exact h
  | cons b bs ih => exact ih (memWf_setByte h a b) (a + 1)

/-- Choosing among the bytes listed keeps the canonical form. -/
theorem memWf_filter {m : List Host.Cell} (h : memWf m = true) (f : Host.Cell → Bool) : memWf (m.filter f) = true := by
  rw [memWf_iff] at h ⊢
  exact ⟨h.1.filter _, fun p hp => h.2 p (List.mem_of_mem_filter hp)⟩

theorem lookup_insertByte (m : List Host.Cell) (a j : Nat) (b : BitVec 8) (hk : ∀ p ∈ m, p.1 ≠ a) :
    (insertByte m a b).lookup j = if j = a then some b else m.lookup j := by
  induction m with
  | nil =>
    by_cases h : j = a
    · simp [insertByte, h]
    · have : (j == a) = false := by simpa using h
      simp [insertByte, List.lookup, this, h]
  | cons q m ih =>
    have hq : q.1 ≠ a := hk q (by simp)
    have ih := ih (fun p hp => hk p (List.mem_cons_of_mem _ hp))
    rw [insertByte]
    obtain ⟨x, y⟩ := q
    split
    · by_cases h : j = a
      · simp [List.lookup, h]
      · have : (j == a) = false := by simpa using h
        simp [List.lookup, this, h]
    · by_cases h : j = x
      · subst h
        have : ¬ j = a := hq
        simp [List.lookup, this]
      · have : (j == x) = false := by simpa using h
        simp [List.lookup, this, ih]

/-- Reading a byte after writing one. -/
theorem byteAt_setByte (m : List Host.Cell) (a j : Nat) (b : BitVec 8) : byteAt (setByte m a b) j = if j = a then b else byteAt m j := by
  have hl : (setByte m a b).lookup j = if j = a then (if b = byteDefault a then none else some b) else m.lookup j := by
    unfold setByte
    split
    · rw [lookup_filter_ne]
    · rw [lookup_insertByte _ _ _ _ (fun p hp => by simpa using (List.mem_filter.mp hp).2), lookup_filter_ne]
      by_cases h : j = a <;> simp [h]
  unfold byteAt
  rw [hl]
  by_cases h : j = a
  · subst h
    by_cases hv : b = byteDefault j <;> simp [hv]
  · simp [h]

/-- Reading a byte after writing consecutive ones. -/
theorem byteAt_setBytes (m : List Host.Cell) (a j : Nat) (bs : List (BitVec 8)) :
    byteAt (setBytes m a bs) j = if a ≤ j ∧ j < a + bs.length then bs.getD (j - a) 0 else byteAt m j := by
  induction bs generalizing m a with
  | nil => simp [setBytes]
  | cons b bs ih =>
    rw [setBytes, ih, byteAt_setByte]
    by_cases h : j = a
    · subst h; simp
    · by_cases h1 : a + 1 ≤ j ∧ j < a + 1 + bs.length
      · have h2 : a ≤ j ∧ j < a + (bs.length + 1) := by omega
        have h3 : j - a = (j - (a + 1)) + 1 := by omega
        simp [h1, h2, h3, List.getD]
      · have h2 : ¬ (a ≤ j ∧ j < a + (bs.length + 1)) := by omega
        rw [if_neg h1, if_neg h, if_neg (by simpa only [List.length_cons] using h2)]

end Sys2Proof.Machine
end

