-- ==== Sys2Proof/Laws/Sound.lean ====
section
/-! SUPPORT. A sound state with something said of its plant, active set and queue: the steps by which every operation keeps it. -/

namespace Sys2Proof.Machine

/-- What a command may leave of the configuration in force: the active set, and the swap of the present tick that an event may undo
(R85). -/
structure Cfg where
  active : Store
  undo : Option SwapUndo
  tick : Nat

def State.cfg (s : State) : Cfg := ⟨s.active, s.sw.undo, s.tick⟩

/-- A sound state whose supplies and latch, configuration in force and queue satisfy `Q`. -/
structure State.Good (Q : Plat → Cfg → List Instr → Prop) (s : State) : Prop where
  live : s.live.wf = true
  active : s.active.wf = true
  shadow : s.shadow.wf = true
  mem : memWf s.mem = true
  hb : s.hbDrive.length = 24
  lv : s.lvDrive.length = 16
  gs : s.gsDrive.length = 48
  tb : s.tb.length = 8
  can : s.can.length = 8
  delayed : ∀ x ∈ s.tb, x.delayed.length ≤ 32
  queue : s.fc.queue.length ≤ 256
  ring : s.fc.ring.length ≤ 4096
  store : s.mtr.store.length ≤ 2048
  sess : s.roa.sessions.length ≤ 16
  canq : ∀ x ∈ s.can, x.queue.length ≤ 64
  plant : Q s.plat s.cfg s.pending

theorem State.Good.sound {Q : Plat → Cfg → List Instr → Prop} {s : State} (h : s.Good Q) : s.Sound :=
  ⟨⟨h.live, h.active, h.shadow, h.mem⟩, ⟨h.hb, h.lv, h.gs, h.tb, h.can⟩, h.delayed, h.queue, h.ring, h.store, h.sess, h.canq⟩

theorem State.Sound.good {Q : Plat → Cfg → List Instr → Prop} {s : State} (h : s.Sound) (hq : Q s.plat s.cfg s.pending) : s.Good Q :=
  ⟨h.1.1, h.1.2.1, h.1.2.2.1, h.1.2.2.2, h.2.1.1, h.2.1.2.1, h.2.1.2.2.1, h.2.1.2.2.2.1, h.2.1.2.2.2.2, h.2.2.1, h.2.2.2.1, h.2.2.2.2.1,
    h.2.2.2.2.2.1, h.2.2.2.2.2.2.1, h.2.2.2.2.2.2.2, hq⟩

variable {Q : Plat → Cfg → List Instr → Prop} {s : State}

/-- What is said may depend on another thing where it says the same. -/
theorem State.Good.mono {R : Plat → Cfg → List Instr → Prop} (h : s.Good Q) (hr : R s.plat s.cfg s.pending) : s.Good R :=
  ⟨h.live, h.active, h.shadow, h.mem, h.hb, h.lv, h.gs, h.tb, h.can, h.delayed, h.queue, h.ring, h.store, h.sess, h.canq, hr⟩

/-- What is said stays true where a swap of the present tick is undone, and where a swap can no longer be (R85). -/
structure Undoable (Q : Plat → Cfg → List Instr → Prop) : Prop where
  undo : ∀ w a b u p, Q w ⟨a, some u, u.tick⟩ p → Q w ⟨b, none, u.tick⟩ p
  settle : ∀ w a o t p, Q w ⟨a, o, t⟩ p → Q w ⟨a, none, t⟩ p

theorem undoable_const {P : Plat → List Instr → Prop} : Undoable (fun w _ p => P w p) := ⟨fun _ _ _ _ _ h => h, fun _ _ _ _ _ h => h⟩

/-! ## Shapes of a meaning -/

theorem good_ite {c : Prop} {_ : Decidable c} {a b : State} (ha : a.Good Q) (hb : b.Good Q) : (if c then a else b).Good Q := by
  split <;> assumption

theorem good_ite_fst {β : Type} {c : Prop} {_ : Decidable c} {a b : State × β} (ha : a.1.Good Q) (hb : b.1.Good Q) : (if c then a else b).1.Good Q := by
  split <;> assumption

theorem good_forAll {l : List Nat} {f : Nat → State → State} (h : s.Good Q) (hf : ∀ n t, State.Good Q t → (f n t).Good Q) : (s.forAll l f).Good Q := by
  unfold State.forAll
  induction l generalizing s with
  | nil => exact h
  | cons a l ih => exact ih (hf a s h)

theorem good_foldl {β : Type} {l : List β} {f : State → β → State} (h : s.Good Q) (hf : ∀ t a, State.Good Q t → (f t a).Good Q) : (l.foldl f s).Good Q := by
  induction l generalizing s with
  | nil => exact h
  | cons a l ih => exact ih (hf s a h)

theorem good_foldl_fst {β γ : Type} {l : List β} {f : State × γ → β → State × γ} {p : State × γ} (h : p.1.Good Q)
    (hf : ∀ (t : State × γ) (a : β), t.1.Good Q → (f t a).1.Good Q) : (l.foldl f p).1.Good Q := by
  induction l generalizing p with
  | nil => exact h
  | cons a l ih => exact ih (hf p a h)

theorem good_when {c : Bool} {f : State → State} (h : s.Good Q) (hf : ∀ t, State.Good Q t → (f t).Good Q) : (s.when c f).Good Q := by
  unfold State.when
  split
  · exact hf s h
  · exact h

/-- A step of a proof: what a name stands for is good, and then the rest. -/
theorem good_step {x : State} {p : Prop} (h : x.Good Q) (hp : x.Good Q → p) : p := hp h
theorem good_step_fst {β : Type} {x : State × β} {p : Prop} (h : x.1.Good Q) (hp : x.1.Good Q → p) : p := hp h

/-- A name that stands for a part of the state keeps its value. -/
theorem good_keepC {x : Collector} {p : Prop} (h : x = x → p) : p := h rfl
theorem good_keepS {x : SwapX} {p : Prop} (h : x = x → p) : p := h rfl
theorem good_keepM {x : MtrX} {p : Prop} (h : x = x → p) : p := h rfl
theorem good_keepR {x : RoaX} {p : Prop} (h : x = x → p) : p := h rfl
theorem good_keepT {x : TbX} {p : Prop} (h : x = x → p) : p := h rfl
theorem good_keepF {x : Nat → State → State} {p : Prop} (h : x = x → p) : p := h rfl
theorem good_keepG {x : State → State} {p : Prop} (h : x = x → p) : p := h rfl
theorem good_keepN {x : CanX} {p : Prop} (h : x = x → p) : p := h rfl

/-! ## Updates -/

/-- Fields of which nothing is said may change. -/
theorem good_free (h : s.Good Q) (v_freeIx : Nat) (v_devSub : Nat) (v_isl : Island) (v_md : ModeX) (v_nv : NvX) (v_grp : List GroupX) (v_chan : List ChanX) (v_slots : List SlotX) (v_eng : List EngX) (v_ports : List (Nat × Nat)) (v_sdRaised : List (Option Nat)) (v_obs : List ObsX) (v_sdTripped : List Bool) (v_leave : LeaveX) (v_gsx : GsX) (v_sup : List SupplyX) (v_snx : SenseX) (v_trac : List TracX) (v_linkPrev : List (Option Nat)) (v_planAt : Option Nat) (v_passTick : Nat) (v_six : List SiX) (v_soHigh : List Bool) (v_cp : List CpX) (v_wc : WcX) (v_lv : LvX) (v_lamps : List Bool) (v_ga : List GaX) (v_lk : LkX) (v_post : PostX) (v_td : TdX) (v_st : StX) (v_cc : CcX) (v_mon : MonX) (v_net : NetX) (v_esl : List (Nat × EslX)) (v_image : List (Nat × Nat)) (v_takeup : List Nat) (v_memx : MemX) (v_hm : HmX) :
    State.Good Q (State.mk s.live s.active s.shadow s.mem s.pending v_freeIx s.tick v_devSub s.plat v_isl s.fc v_md s.sw v_nv s.hbDrive s.lvDrive s.gsDrive s.tb v_grp v_chan v_slots v_eng v_ports v_sdRaised v_obs v_sdTripped v_leave v_gsx v_sup v_snx v_trac v_linkPrev v_planAt v_passTick v_six v_soHigh v_cp v_wc v_lv v_lamps v_ga v_lk v_post v_td v_st v_cc v_mon s.mtr v_net s.can v_esl v_image v_takeup s.roa v_memx v_hm) :=
  ⟨h.live, h.active, h.shadow, h.mem, h.hb, h.lv, h.gs, h.tb, h.can, h.delayed, h.queue, h.ring, h.store, h.sess, h.canq, h.plant⟩

/-- The same, and the swap and the tick too, where nothing is said of the configuration in force. -/
theorem good_freeC {P : Plat → List Instr → Prop} (h : s.Good (fun w _ p => P w p)) (v_freeIx : Nat) (v_tick : Nat) (v_devSub : Nat) (v_isl : Island) (v_md : ModeX) (v_sw : SwapX) (v_nv : NvX) (v_grp : List GroupX) (v_chan : List ChanX) (v_slots : List SlotX) (v_eng : List EngX) (v_ports : List (Nat × Nat)) (v_sdRaised : List (Option Nat)) (v_obs : List ObsX) (v_sdTripped : List Bool) (v_leave : LeaveX) (v_gsx : GsX) (v_sup : List SupplyX) (v_snx : SenseX) (v_trac : List TracX) (v_linkPrev : List (Option Nat)) (v_planAt : Option Nat) (v_passTick : Nat) (v_six : List SiX) (v_soHigh : List Bool) (v_cp : List CpX) (v_wc : WcX) (v_lv : LvX) (v_lamps : List Bool) (v_ga : List GaX) (v_lk : LkX) (v_post : PostX) (v_td : TdX) (v_st : StX) (v_cc : CcX) (v_mon : MonX) (v_net : NetX) (v_esl : List (Nat × EslX)) (v_image : List (Nat × Nat)) (v_takeup : List Nat) (v_memx : MemX) (v_hm : HmX) :
    State.Good (fun w _ p => P w p) (State.mk s.live s.active s.shadow s.mem s.pending v_freeIx v_tick v_devSub s.plat v_isl s.fc v_md v_sw v_nv s.hbDrive s.lvDrive s.gsDrive s.tb v_grp v_chan v_slots v_eng v_ports v_sdRaised v_obs v_sdTripped v_leave v_gsx v_sup v_snx v_trac v_linkPrev v_planAt v_passTick v_six v_soHigh v_cp v_wc v_lv v_lamps v_ga v_lk v_post v_td v_st v_cc v_mon s.mtr v_net s.can v_esl v_image v_takeup s.roa v_memx v_hm) :=
  ⟨h.live, h.active, h.shadow, h.mem, h.hb, h.lv, h.gs, h.tb, h.can, h.delayed, h.queue, h.ring, h.store, h.sess, h.canq, h.plant⟩

/-- The same, and the supplies too, where nothing is said of them. -/
theorem good_freeP {P : Cfg → List Instr → Prop} (h : s.Good (fun _ a p => P a p)) (v_freeIx : Nat) (v_devSub : Nat) (v_plat : Plat) (v_isl : Island) (v_md : ModeX) (v_nv : NvX) (v_grp : List GroupX) (v_chan : List ChanX) (v_slots : List SlotX) (v_eng : List EngX) (v_ports : List (Nat × Nat)) (v_sdRaised : List (Option Nat)) (v_obs : List ObsX) (v_sdTripped : List Bool) (v_leave : LeaveX) (v_gsx : GsX) (v_sup : List SupplyX) (v_snx : SenseX) (v_trac : List TracX) (v_linkPrev : List (Option Nat)) (v_planAt : Option Nat) (v_passTick : Nat) (v_six : List SiX) (v_soHigh : List Bool) (v_cp : List CpX) (v_wc : WcX) (v_lv : LvX) (v_lamps : List Bool) (v_ga : List GaX) (v_lk : LkX) (v_post : PostX) (v_td : TdX) (v_st : StX) (v_cc : CcX) (v_mon : MonX) (v_net : NetX) (v_esl : List (Nat × EslX)) (v_image : List (Nat × Nat)) (v_takeup : List Nat) (v_memx : MemX) (v_hm : HmX) :
    State.Good (fun _ a p => P a p) (State.mk s.live s.active s.shadow s.mem s.pending v_freeIx s.tick v_devSub v_plat v_isl s.fc v_md s.sw v_nv s.hbDrive s.lvDrive s.gsDrive s.tb v_grp v_chan v_slots v_eng v_ports v_sdRaised v_obs v_sdTripped v_leave v_gsx v_sup v_snx v_trac v_linkPrev v_planAt v_passTick v_six v_soHigh v_cp v_wc v_lv v_lamps v_ga v_lk v_post v_td v_st v_cc v_mon s.mtr v_net s.can v_esl v_image v_takeup s.roa v_memx v_hm) :=
  ⟨h.live, h.active, h.shadow, h.mem, h.hb, h.lv, h.gs, h.tb, h.can, h.delayed, h.queue, h.ring, h.store, h.sess, h.canq, h.plant⟩

/-- The same, and the drives of the pins as many as they are. -/
theorem good_freeD (h : s.Good Q) (v_freeIx : Nat) (v_devSub : Nat) (v_isl : Island) (v_md : ModeX) (v_nv : NvX) (v_grp : List GroupX) (v_chan : List ChanX) (v_slots : List SlotX) (v_eng : List EngX) (v_ports : List (Nat × Nat)) (v_sdRaised : List (Option Nat)) (v_obs : List ObsX) (v_sdTripped : List Bool) (v_leave : LeaveX) (v_gsx : GsX) (v_sup : List SupplyX) (v_snx : SenseX) (v_trac : List TracX) (v_linkPrev : List (Option Nat)) (v_planAt : Option Nat) (v_passTick : Nat) (v_six : List SiX) (v_soHigh : List Bool) (v_cp : List CpX) (v_wc : WcX) (v_lv : LvX) (v_lamps : List Bool) (v_ga : List GaX) (v_lk : LkX) (v_post : PostX) (v_td : TdX) (v_st : StX) (v_cc : CcX) (v_mon : MonX) (v_net : NetX) (v_esl : List (Nat × EslX)) (v_image : List (Nat × Nat)) (v_takeup : List Nat) (v_memx : MemX) (v_hm : HmX) (v_hb : List Drive) (v_lvd : List Drive) (v_gsd : List SupplyDrive)
    (h1 : v_hb.length = 24) (h2 : v_lvd.length = 16) (h3 : v_gsd.length = 48) :
    State.Good Q (State.mk s.live s.active s.shadow s.mem s.pending v_freeIx s.tick v_devSub s.plat v_isl s.fc v_md s.sw v_nv v_hb v_lvd v_gsd s.tb v_grp v_chan v_slots v_eng v_ports v_sdRaised v_obs v_sdTripped v_leave v_gsx v_sup v_snx v_trac v_linkPrev v_planAt v_passTick v_six v_soHigh v_cp v_wc v_lv v_lamps v_ga v_lk v_post v_td v_st v_cc v_mon s.mtr v_net s.can v_esl v_image v_takeup s.roa v_memx v_hm) :=
  ⟨h.live, h.active, h.shadow, h.mem, h1, h2, h3, h.tb, h.can, h.delayed, h.queue, h.ring, h.store, h.sess, h.canq, h.plant⟩

theorem good_live (h : s.Good Q) {v : Store} (hv : v.wf = true) : State.Good Q (State.mk v s.active s.shadow s.mem s.pending s.freeIx s.tick s.devSub s.plat s.isl s.fc s.md s.sw s.nv s.hbDrive s.lvDrive s.gsDrive s.tb s.grp s.chan s.slots s.eng s.ports s.sdRaised s.obs s.sdTripped s.leave s.gsx s.sup s.snx s.trac s.linkPrev s.planAt s.passTick s.six s.soHigh s.cp s.wc s.lv s.lamps s.ga s.lk s.post s.td s.st s.cc s.mon s.mtr s.net s.can s.esl s.image s.takeup s.roa s.memx s.hm) :=
  ⟨hv, h.active, h.shadow, h.mem, h.hb, h.lv, h.gs, h.tb, h.can, h.delayed, h.queue, h.ring, h.store, h.sess, h.canq, h.plant⟩

theorem good_shadow (h : s.Good Q) {v : Store} (hv : v.wf = true) : State.Good Q (State.mk s.live s.active v s.mem s.pending s.freeIx s.tick s.devSub s.plat s.isl s.fc s.md s.sw s.nv s.hbDrive s.lvDrive s.gsDrive s.tb s.grp s.chan s.slots s.eng s.ports s.sdRaised s.obs s.sdTripped s.leave s.gsx s.sup s.snx s.trac s.linkPrev s.planAt s.passTick s.six s.soHigh s.cp s.wc s.lv s.lamps s.ga s.lk s.post s.td s.st s.cc s.mon s.mtr s.net s.can s.esl s.image s.takeup s.roa s.memx s.hm) :=
  ⟨h.live, h.active, hv, h.mem, h.hb, h.lv, h.gs, h.tb, h.can, h.delayed, h.queue, h.ring, h.store, h.sess, h.canq, h.plant⟩

theorem good_active {P : Plat → Option SwapUndo → Nat → List Instr → Prop} (h : s.Good (fun w c p => P w c.undo c.tick p)) {v : Store} (hv : v.wf = true) : State.Good (fun w c p => P w c.undo c.tick p) (State.mk s.live v s.shadow s.mem s.pending s.freeIx s.tick s.devSub s.plat s.isl s.fc s.md s.sw s.nv s.hbDrive s.lvDrive s.gsDrive s.tb s.grp s.chan s.slots s.eng s.ports s.sdRaised s.obs s.sdTripped s.leave s.gsx s.sup s.snx s.trac s.linkPrev s.planAt s.passTick s.six s.soHigh s.cp s.wc s.lv s.lamps s.ga s.lk s.post s.td s.st s.cc s.mon s.mtr s.net s.can s.esl s.image s.takeup s.roa s.memx s.hm) :=
  ⟨h.live, hv, h.shadow, h.mem, h.hb, h.lv, h.gs, h.tb, h.can, h.delayed, h.queue, h.ring, h.store, h.sess, h.canq, h.plant⟩

theorem good_sw (h : s.Good Q) {v : SwapX} (hv : v.undo = s.sw.undo) : State.Good Q (State.mk s.live s.active s.shadow s.mem s.pending s.freeIx s.tick s.devSub s.plat s.isl s.fc s.md v s.nv s.hbDrive s.lvDrive s.gsDrive s.tb s.grp s.chan s.slots s.eng s.ports s.sdRaised s.obs s.sdTripped s.leave s.gsx s.sup s.snx s.trac s.linkPrev s.planAt s.passTick s.six s.soHigh s.cp s.wc s.lv s.lamps s.ga s.lk s.post s.td s.st s.cc s.mon s.mtr s.net s.can s.esl s.image s.takeup s.roa s.memx s.hm) :=
  ⟨h.live, h.active, h.shadow, h.mem, h.hb, h.lv, h.gs, h.tb, h.can, h.delayed, h.queue, h.ring, h.store, h.sess, h.canq, by have := h.plant; rwa [show s.cfg = ⟨s.active, v.undo, s.tick⟩ by rw [hv]; rfl] at this⟩

theorem good_mem (h : s.Good Q) {v : List Host.Cell} (hv : memWf v = true) : State.Good Q (State.mk s.live s.active s.shadow v s.pending s.freeIx s.tick s.devSub s.plat s.isl s.fc s.md s.sw s.nv s.hbDrive s.lvDrive s.gsDrive s.tb s.grp s.chan s.slots s.eng s.ports s.sdRaised s.obs s.sdTripped s.leave s.gsx s.sup s.snx s.trac s.linkPrev s.planAt s.passTick s.six s.soHigh s.cp s.wc s.lv s.lamps s.ga s.lk s.post s.td s.st s.cc s.mon s.mtr s.net s.can s.esl s.image s.takeup s.roa s.memx s.hm) :=
  ⟨h.live, h.active, h.shadow, hv, h.hb, h.lv, h.gs, h.tb, h.can, h.delayed, h.queue, h.ring, h.store, h.sess, h.canq, h.plant⟩

theorem good_hbDrive (h : s.Good Q) {v : List Drive} (hv : v.length = 24) : State.Good Q (State.mk s.live s.active s.shadow s.mem s.pending s.freeIx s.tick s.devSub s.plat s.isl s.fc s.md s.sw s.nv v s.lvDrive s.gsDrive s.tb s.grp s.chan s.slots s.eng s.ports s.sdRaised s.obs s.sdTripped s.leave s.gsx s.sup s.snx s.trac s.linkPrev s.planAt s.passTick s.six s.soHigh s.cp s.wc s.lv s.lamps s.ga s.lk s.post s.td s.st s.cc s.mon s.mtr s.net s.can s.esl s.image s.takeup s.roa s.memx s.hm) :=
  ⟨h.live, h.active, h.shadow, h.mem, hv, h.lv, h.gs, h.tb, h.can, h.delayed, h.queue, h.ring, h.store, h.sess, h.canq, h.plant⟩

theorem good_lvDrive (h : s.Good Q) {v : List Drive} (hv : v.length = 16) : State.Good Q (State.mk s.live s.active s.shadow s.mem s.pending s.freeIx s.tick s.devSub s.plat s.isl s.fc s.md s.sw s.nv s.hbDrive v s.gsDrive s.tb s.grp s.chan s.slots s.eng s.ports s.sdRaised s.obs s.sdTripped s.leave s.gsx s.sup s.snx s.trac s.linkPrev s.planAt s.passTick s.six s.soHigh s.cp s.wc s.lv s.lamps s.ga s.lk s.post s.td s.st s.cc s.mon s.mtr s.net s.can s.esl s.image s.takeup s.roa s.memx s.hm) :=
  ⟨h.live, h.active, h.shadow, h.mem, h.hb, hv, h.gs, h.tb, h.can, h.delayed, h.queue, h.ring, h.store, h.sess, h.canq, h.plant⟩

theorem good_gsDrive (h : s.Good Q) {v : List SupplyDrive} (hv : v.length = 48) : State.Good Q (State.mk s.live s.active s.shadow s.mem s.pending s.freeIx s.tick s.devSub s.plat s.isl s.fc s.md s.sw s.nv s.hbDrive s.lvDrive v s.tb s.grp s.chan s.slots s.eng s.ports s.sdRaised s.obs s.sdTripped s.leave s.gsx s.sup s.snx s.trac s.linkPrev s.planAt s.passTick s.six s.soHigh s.cp s.wc s.lv s.lamps s.ga s.lk s.post s.td s.st s.cc s.mon s.mtr s.net s.can s.esl s.image s.takeup s.roa s.memx s.hm) :=
  ⟨h.live, h.active, h.shadow, h.mem, h.hb, h.lv, hv, h.tb, h.can, h.delayed, h.queue, h.ring, h.store, h.sess, h.canq, h.plant⟩

theorem good_fc (h : s.Good Q) {v : Collector} (hq : v.queue.length ≤ 256) (hr : v.ring.length ≤ 4096) : State.Good Q (State.mk s.live s.active s.shadow s.mem s.pending s.freeIx s.tick s.devSub s.plat s.isl v s.md s.sw s.nv s.hbDrive s.lvDrive s.gsDrive s.tb s.grp s.chan s.slots s.eng s.ports s.sdRaised s.obs s.sdTripped s.leave s.gsx s.sup s.snx s.trac s.linkPrev s.planAt s.passTick s.six s.soHigh s.cp s.wc s.lv s.lamps s.ga s.lk s.post s.td s.st s.cc s.mon s.mtr s.net s.can s.esl s.image s.takeup s.roa s.memx s.hm) :=
  ⟨h.live, h.active, h.shadow, h.mem, h.hb, h.lv, h.gs, h.tb, h.can, h.delayed, hq, hr, h.store, h.sess, h.canq, h.plant⟩

theorem good_mtr (h : s.Good Q) {v : MtrX} (hv : v.store.length ≤ 2048) : State.Good Q (State.mk s.live s.active s.shadow s.mem s.pending s.freeIx s.tick s.devSub s.plat s.isl s.fc s.md s.sw s.nv s.hbDrive s.lvDrive s.gsDrive s.tb s.grp s.chan s.slots s.eng s.ports s.sdRaised s.obs s.sdTripped s.leave s.gsx s.sup s.snx s.trac s.linkPrev s.planAt s.passTick s.six s.soHigh s.cp s.wc s.lv s.lamps s.ga s.lk s.post s.td s.st s.cc s.mon v s.net s.can s.esl s.image s.takeup s.roa s.memx s.hm) :=
  ⟨h.live, h.active, h.shadow, h.mem, h.hb, h.lv, h.gs, h.tb, h.can, h.delayed, h.queue, h.ring, hv, h.sess, h.canq, h.plant⟩

theorem good_roa (h : s.Good Q) {v : RoaX} (hv : v.sessions.length ≤ 16) : State.Good Q (State.mk s.live s.active s.shadow s.mem s.pending s.freeIx s.tick s.devSub s.plat s.isl s.fc s.md s.sw s.nv s.hbDrive s.lvDrive s.gsDrive s.tb s.grp s.chan s.slots s.eng s.ports s.sdRaised s.obs s.sdTripped s.leave s.gsx s.sup s.snx s.trac s.linkPrev s.planAt s.passTick s.six s.soHigh s.cp s.wc s.lv s.lamps s.ga s.lk s.post s.td s.st s.cc s.mon s.mtr s.net s.can s.esl s.image s.takeup v s.memx s.hm) :=
  ⟨h.live, h.active, h.shadow, h.mem, h.hb, h.lv, h.gs, h.tb, h.can, h.delayed, h.queue, h.ring, h.store, hv, h.canq, h.plant⟩

theorem good_tb (h : s.Good Q) {v : List TbX} (hv : v.length = 8) (hd : ∀ x ∈ v, x.delayed.length ≤ 32) : State.Good Q (State.mk s.live s.active s.shadow s.mem s.pending s.freeIx s.tick s.devSub s.plat s.isl s.fc s.md s.sw s.nv s.hbDrive s.lvDrive s.gsDrive v s.grp s.chan s.slots s.eng s.ports s.sdRaised s.obs s.sdTripped s.leave s.gsx s.sup s.snx s.trac s.linkPrev s.planAt s.passTick s.six s.soHigh s.cp s.wc s.lv s.lamps s.ga s.lk s.post s.td s.st s.cc s.mon s.mtr s.net s.can s.esl s.image s.takeup s.roa s.memx s.hm) :=
  ⟨h.live, h.active, h.shadow, h.mem, h.hb, h.lv, h.gs, hv, h.can, hd, h.queue, h.ring, h.store, h.sess, h.canq, h.plant⟩

theorem good_can (h : s.Good Q) {v : List CanX} (hv : v.length = 8) (hd : ∀ x ∈ v, x.queue.length ≤ 64) : State.Good Q (State.mk s.live s.active s.shadow s.mem s.pending s.freeIx s.tick s.devSub s.plat s.isl s.fc s.md s.sw s.nv s.hbDrive s.lvDrive s.gsDrive s.tb s.grp s.chan s.slots s.eng s.ports s.sdRaised s.obs s.sdTripped s.leave s.gsx s.sup s.snx s.trac s.linkPrev s.planAt s.passTick s.six s.soHigh s.cp s.wc s.lv s.lamps s.ga s.lk s.post s.td s.st s.cc s.mon s.mtr s.net v s.esl s.image s.takeup s.roa s.memx s.hm) :=
  ⟨h.live, h.active, h.shadow, h.mem, h.hb, h.lv, h.gs, h.tb, hv, h.delayed, h.queue, h.ring, h.store, h.sess, hd, h.plant⟩

theorem good_plat (h : s.Good Q) {v : Plat} (hv : Q v s.cfg s.pending) : State.Good Q (State.mk s.live s.active s.shadow s.mem s.pending s.freeIx s.tick s.devSub v s.isl s.fc s.md s.sw s.nv s.hbDrive s.lvDrive s.gsDrive s.tb s.grp s.chan s.slots s.eng s.ports s.sdRaised s.obs s.sdTripped s.leave s.gsx s.sup s.snx s.trac s.linkPrev s.planAt s.passTick s.six s.soHigh s.cp s.wc s.lv s.lamps s.ga s.lk s.post s.td s.st s.cc s.mon s.mtr s.net s.can s.esl s.image s.takeup s.roa s.memx s.hm) :=
  ⟨h.live, h.active, h.shadow, h.mem, h.hb, h.lv, h.gs, h.tb, h.can, h.delayed, h.queue, h.ring, h.store, h.sess, h.canq, hv⟩

/-! ## The operations of Ops.lean -/

theorem State.put_good (h : s.Good Q) (k : Nat) (v : Int) : (s.put k v).Good Q := good_live h (Store.wf_set h.live k v)
theorem State.mPut_good (h : s.Good Q) (a n v : Nat) : (s.mPut a n v).Good Q := good_mem h (memWf_setBytes h.mem a _)

/-- A list of units keeps its length and what is said of each when one of them changes within what is said. -/
theorem mem_modify_of {α : Type} {p : α → Prop} {l : List α} {i : Nat} {f : α → α} (h : ∀ x ∈ l, p x) (hf : ∀ x, p x → p (f x)) :
    ∀ x ∈ l.modify i f, p x := by
  induction l generalizing i with
  | nil => simp
  | cons a l ih =>
    cases i with
    | zero =>
      intro x hx
      simp only [List.modify_zero_cons, List.mem_cons] at hx
      rcases hx with rfl | hx
      · exact hf a (h a (by simp))
      · exact h x (List.mem_cons_of_mem _ hx)
    | succ i =>
      intro x hx
      simp only [List.modify_succ_cons, List.mem_cons] at hx
      rcases hx with rfl | hx
      · exact h _ (by simp)
      · exact ih (fun y hy => h y (List.mem_cons_of_mem _ hy)) x hx

/-- The same where the change is at one unit alone. -/
theorem mem_modify_at {α : Type} {p : α → Prop} {l : List α} {i : Nat} {f : α → α} (h : ∀ x ∈ l, p x) (hf : ∀ x, l[i]? = some x → p (f x)) :
    ∀ x ∈ l.modify i f, p x := by
  induction l generalizing i with
  | nil => simp
  | cons a l ih =>
    cases i with
    | zero =>
      intro x hx
      simp only [List.modify_zero_cons, List.mem_cons] at hx
      rcases hx with rfl | hx
      · exact hf a rfl
      · exact h x (List.mem_cons_of_mem _ hx)
    | succ i =>
      intro x hx
      simp only [List.modify_succ_cons, List.mem_cons] at hx
      rcases hx with rfl | hx
      · exact h _ (by simp)
      · exact ih (fun y hy => h y (List.mem_cons_of_mem _ hy)) (fun y hy => hf y (by simpa using hy)) x hx

theorem State.tbMod_good (h : s.Good Q) (t : Nat) {f : TbX → TbX} (hf : ∀ x : TbX, x.delayed.length ≤ 32 → (f x).delayed.length ≤ 32) : (s.tbMod t f).Good Q :=
  good_tb h (by simp [modifyAt, h.tb]) (mem_modify_of (p := fun x : TbX => x.delayed.length ≤ 32) h.delayed hf)

end Sys2Proof.Machine
end

