-- ==== Sys2Proof/Laws/Sound/Ops.lean ====
section
/-! SUPPORT. Every operation of Machine/Ops.lean keeps a sound state sound. -/

set_option linter.unusedTactic false
set_option linter.unreachableTactic false
set_option linter.unusedVariables false
set_option linter.tactic.unusedName false

namespace Sys2Proof.Machine

theorem State.putF_good {Q : Plat → Cfg → List Instr → Prop} {s : State} (h : s.Good Q) (k : Nat) (q : Rat) :
    (State.putF k q s).Good Q := by
  unfold State.putF
  repeat' first
    | with_reducible assumption
    | with_reducible apply State.put_good

theorem State.inc32_good {Q : Plat → Cfg → List Instr → Prop} {s : State} (h : s.Good Q) (k : Nat) :
    (State.inc32 k s).Good Q := by
  unfold State.inc32
  repeat' first
    | with_reducible assumption
    | with_reducible apply State.put_good

theorem State.incSat_good {Q : Plat → Cfg → List Instr → Prop} {s : State} (h : s.Good Q) (k : Nat) :
    (State.incSat k s).Good Q := by
  unfold State.incSat
  repeat' first
    | with_reducible assumption
    | with_reducible apply State.put_good

theorem State.addSat_good {Q : Plat → Cfg → List Instr → Prop} {s : State} (h : s.Good Q) (k : Nat) (n : Nat) :
    (State.addSat k n s).Good Q := by
  unfold State.addSat
  repeat' first
    | with_reducible assumption
    | with_reducible apply State.put_good

theorem State.fresh_good {Q : Plat → Cfg → List Instr → Prop} {s : State} (h : s.Good Q) :
    (State.fresh s).Good Q := by
  unfold State.fresh
  repeat' first
    | with_reducible assumption
    | (extract_lets +onlyGivenNames x; (first | (refine good_step (Q := Q) (x := x) ?_ ?_; (on_goal 1 => unfold x); on_goal 2 => (intro hx; try clear_value x)) | (refine good_step_fst (Q := Q) (x := x) ?_ ?_; (on_goal 1 => unfold x); on_goal 2 => (intro hx; try clear_value x)) | refine good_keepC (x := x) (fun _ => ?_) | refine good_keepS (x := x) (fun _ => ?_) | refine good_keepM (x := x) (fun _ => ?_) | refine good_keepR (x := x) (fun _ => ?_) | refine good_keepT (x := x) (fun _ => ?_) | refine good_keepN (x := x) (fun _ => ?_) | refine good_keepF (x := x) (fun _ => ?_) | refine good_keepG (x := x) (fun _ => ?_) | clear_value x | skip); all_goals (rename' x => y))
    | with_reducible exact good_free (by with_reducible assumption) ..

end Sys2Proof.Machine
end

