-- ==== Sys2Proof/Laws/Sound/Collect.lean ====
section
/-! SUPPORT. Every operation of Machine/Collect.lean keeps a sound state sound. -/

set_option linter.unusedTactic false
set_option linter.unreachableTactic false
set_option linter.unusedVariables false
set_option linter.tactic.unusedName false

namespace Sys2Proof.Machine

theorem State.log_good {Q : Plat → Cfg → List Instr → Prop} {s : State} (h : s.Good Q) (kind code inst a b : Nat) :
    (State.log kind code inst a b s).Good Q := by
  unfold State.log
  repeat' first
    | with_reducible assumption
    | (extract_lets +onlyGivenNames x; (first | (refine good_step (Q := Q) (x := x) ?_ ?_; (on_goal 1 => unfold x); on_goal 2 => (intro hx; try clear_value x)) | (refine good_step_fst (Q := Q) (x := x) ?_ ?_; (on_goal 1 => unfold x); on_goal 2 => (intro hx; try clear_value x)) | refine good_keepC (x := x) (fun _ => ?_) | refine good_keepS (x := x) (fun _ => ?_) | refine good_keepM (x := x) (fun _ => ?_) | refine good_keepR (x := x) (fun _ => ?_) | refine good_keepT (x := x) (fun _ => ?_) | refine good_keepN (x := x) (fun _ => ?_) | refine good_keepF (x := x) (fun _ => ?_) | refine good_keepG (x := x) (fun _ => ?_) | clear_value x | skip); all_goals (rename' x => y))
    | with_reducible apply State.inc32_good
    | with_reducible refine good_fc (by with_reducible assumption) ?_ ?_
    | with_reducible exact good_free (by with_reducible assumption) ..
    | with_reducible exact State.Good.queue (by with_reducible assumption)
    | with_reducible exact State.Good.ring (by with_reducible assumption)

theorem State.soLow_good {Q : Plat → Cfg → List Instr → Prop} {s : State} (h : s.Good Q) (st : Nat) (n : Nat) :
    (State.soLow st n s).Good Q := by
  unfold State.soLow
  repeat' first
    | with_reducible assumption
    | with_reducible apply good_ite
    | with_reducible apply State.put_good
    | split
    | apply good_ite

theorem State.statusBit_good {Q : Plat → Cfg → List Instr → Prop} {s : State} (h : s.Good Q) (code : Nat) (on : Bool) :
    (State.statusBit code on s).Good Q := by
  unfold State.statusBit
  repeat' first
    | with_reducible assumption
    | (extract_lets +onlyGivenNames x; (first | (refine good_step (Q := Q) (x := x) ?_ ?_; (on_goal 1 => unfold x); on_goal 2 => (intro hx; try clear_value x)) | (refine good_step_fst (Q := Q) (x := x) ?_ ?_; (on_goal 1 => unfold x); on_goal 2 => (intro hx; try clear_value x)) | refine good_keepC (x := x) (fun _ => ?_) | refine good_keepS (x := x) (fun _ => ?_) | refine good_keepM (x := x) (fun _ => ?_) | refine good_keepR (x := x) (fun _ => ?_) | refine good_keepT (x := x) (fun _ => ?_) | refine good_keepN (x := x) (fun _ => ?_) | refine good_keepF (x := x) (fun _ => ?_) | refine good_keepG (x := x) (fun _ => ?_) | clear_value x | skip); all_goals (rename' x => y))
    | with_reducible apply good_ite
    | with_reducible apply State.put_good
    | split
    | apply good_ite

theorem State.refreshClassMap_good {Q : Plat → Cfg → List Instr → Prop} {s : State} (h : s.Good Q) :
    (State.refreshClassMap s).Good Q := by
  unfold State.refreshClassMap
  repeat' first
    | with_reducible assumption
    | (intro x y hx; beta_reduce)
    | (intro x hx; beta_reduce)
    | with_reducible apply good_foldl
    | with_reducible apply good_foldl_fst
    | with_reducible apply State.put_good

theorem State.collect_good {Q : Plat → Cfg → List Instr → Prop} {s : State} (h : s.Good Q) (code inst : Nat) (injected : Bool) :
    (State.collect code inst injected s).Good Q := by
  unfold State.collect
  split
  · exact h
  · refine good_ite h ?_
    extract_lets cls again ctx src s1 s2 r
    have h1 : s1.Good Q := by
      unfold s1
      exact good_ite h (good_fc h h.queue h.ring)
    have h2 : s2.Good Q := State.refreshClassMap_good (State.statusBit_good h1 code true)
    clear_value s2
    split
    · rename_i hq
      refine good_fc h2 ?_ h2.ring
      simp only [List.length_append, List.length_cons, List.length_nil]
      omega
    · exact State.incSat_good h2 _

theorem State.note_good {Q : Plat → Cfg → List Instr → Prop} {s : State} (h : s.Good Q) (code inst : Nat) :
    (State.note code inst s).Good Q := by
  unfold State.note
  repeat' first
    | with_reducible assumption
    | with_reducible apply State.collect_good

end Sys2Proof.Machine
end

