-- ==== Sys2Proof/Laws/Sound/Drive.lean ====
section
/-! SUPPORT. Every operation of Machine/Drive.lean keeps a sound state sound. -/

set_option linter.unusedTactic false
set_option linter.unreachableTactic false
set_option linter.unusedVariables false
set_option linter.tactic.unusedName false

namespace Sys2Proof.Machine

theorem State.chMod_good {Q : Plat → Cfg → List Instr → Prop} {s : State} (h : s.Good Q) (c : Nat) (f : ChanX → ChanX) :
    (State.chMod c f s).Good Q := by
  unfold State.chMod
  repeat' first
    | with_reducible assumption
    | (extract_lets +onlyGivenNames x; (first | (refine good_step (Q := Q) (x := x) ?_ ?_; (on_goal 1 => unfold x); on_goal 2 => (intro hx; try clear_value x)) | (refine good_step_fst (Q := Q) (x := x) ?_ ?_; (on_goal 1 => unfold x); on_goal 2 => (intro hx; try clear_value x)) | refine good_keepC (x := x) (fun _ => ?_) | refine good_keepS (x := x) (fun _ => ?_) | refine good_keepM (x := x) (fun _ => ?_) | refine good_keepR (x := x) (fun _ => ?_) | refine good_keepT (x := x) (fun _ => ?_) | refine good_keepN (x := x) (fun _ => ?_) | refine good_keepF (x := x) (fun _ => ?_) | refine good_keepG (x := x) (fun _ => ?_) | clear_value x | skip); all_goals (rename' x => y))
    | with_reducible exact good_free (by with_reducible assumption) ..

theorem State.grpMod_good {Q : Plat → Cfg → List Instr → Prop} {s : State} (h : s.Good Q) (g : Nat) (f : GroupX → GroupX) :
    (State.grpMod g f s).Good Q := by
  unfold State.grpMod
  repeat' first
    | with_reducible assumption
    | (extract_lets +onlyGivenNames x; (first | (refine good_step (Q := Q) (x := x) ?_ ?_; (on_goal 1 => unfold x); on_goal 2 => (intro hx; try clear_value x)) | (refine good_step_fst (Q := Q) (x := x) ?_ ?_; (on_goal 1 => unfold x); on_goal 2 => (intro hx; try clear_value x)) | refine good_keepC (x := x) (fun _ => ?_) | refine good_keepS (x := x) (fun _ => ?_) | refine good_keepM (x := x) (fun _ => ?_) | refine good_keepR (x := x) (fun _ => ?_) | refine good_keepT (x := x) (fun _ => ?_) | refine good_keepN (x := x) (fun _ => ?_) | refine good_keepF (x := x) (fun _ => ?_) | refine good_keepG (x := x) (fun _ => ?_) | clear_value x | skip); all_goals (rename' x => y))
    | with_reducible exact good_free (by with_reducible assumption) ..

theorem State.conductionEnds_good {Q : Plat → Cfg → List Instr → Prop} {s : State} (h : s.Good Q) (c f : Nat) :
    (State.conductionEnds c f s).Good Q := by
  unfold State.conductionEnds
  repeat' first
    | with_reducible assumption
    | (extract_lets +onlyGivenNames x; (first | (refine good_step (Q := Q) (x := x) ?_ ?_; (on_goal 1 => unfold x); on_goal 2 => (intro hx; try clear_value x)) | (refine good_step_fst (Q := Q) (x := x) ?_ ?_; (on_goal 1 => unfold x); on_goal 2 => (intro hx; try clear_value x)) | refine good_keepC (x := x) (fun _ => ?_) | refine good_keepS (x := x) (fun _ => ?_) | refine good_keepM (x := x) (fun _ => ?_) | refine good_keepR (x := x) (fun _ => ?_) | refine good_keepT (x := x) (fun _ => ?_) | refine good_keepN (x := x) (fun _ => ?_) | refine good_keepF (x := x) (fun _ => ?_) | refine good_keepG (x := x) (fun _ => ?_) | clear_value x | skip); all_goals (rename' x => y))
    | with_reducible apply good_ite
    | with_reducible apply State.incSat_good
    | with_reducible apply State.chMod_good
    | with_reducible exact good_free (by with_reducible assumption) ..
    | split
    | apply good_ite

theorem State.callMode_good {Q : Plat → Cfg → List Instr → Prop} {s : State} (h : s.Good Q) (mode c f new next : Nat) (full : Bool) :
    (State.callMode mode c f new next full s).Good Q := by
  unfold State.callMode
  repeat' first
    | with_reducible assumption
    | (extract_lets +onlyGivenNames x; (first | (refine good_step (Q := Q) (x := x) ?_ ?_; (on_goal 1 => unfold x); on_goal 2 => (intro hx; try clear_value x)) | (refine good_step_fst (Q := Q) (x := x) ?_ ?_; (on_goal 1 => unfold x); on_goal 2 => (intro hx; try clear_value x)) | refine good_keepC (x := x) (fun _ => ?_) | refine good_keepS (x := x) (fun _ => ?_) | refine good_keepM (x := x) (fun _ => ?_) | refine good_keepR (x := x) (fun _ => ?_) | refine good_keepT (x := x) (fun _ => ?_) | refine good_keepN (x := x) (fun _ => ?_) | refine good_keepF (x := x) (fun _ => ?_) | refine good_keepG (x := x) (fun _ => ?_) | clear_value x | skip); all_goals (rename' x => y))
    | with_reducible apply good_ite
    | with_reducible apply State.conductionEnds_good
    | with_reducible apply State.chMod_good
    | split
    | apply good_ite

theorem State.switchTo_good {Q : Plat → Cfg → List Instr → Prop} {s : State} (h : s.Good Q) (c f new next : Nat) (full : Bool) :
    (State.switchTo c f new next full s).Good Q := by
  unfold State.switchTo
  repeat' first
    | with_reducible assumption
    | with_reducible apply State.callMode_good

theorem State.pinsOff_good {Q : Plat → Cfg → List Instr → Prop} {s : State} (h : s.Good Q) (c : Nat) :
    (State.pinsOff c s).Good Q := by
  unfold State.pinsOff
  repeat' first
    | with_reducible assumption
    | (extract_lets +onlyGivenNames x; (first | (refine good_step (Q := Q) (x := x) ?_ ?_; (on_goal 1 => unfold x); on_goal 2 => (intro hx; try clear_value x)) | (refine good_step_fst (Q := Q) (x := x) ?_ ?_; (on_goal 1 => unfold x); on_goal 2 => (intro hx; try clear_value x)) | refine good_keepC (x := x) (fun _ => ?_) | refine good_keepS (x := x) (fun _ => ?_) | refine good_keepM (x := x) (fun _ => ?_) | refine good_keepR (x := x) (fun _ => ?_) | refine good_keepT (x := x) (fun _ => ?_) | refine good_keepN (x := x) (fun _ => ?_) | refine good_keepF (x := x) (fun _ => ?_) | refine good_keepG (x := x) (fun _ => ?_) | clear_value x | skip); all_goals (rename' x => y))
    | with_reducible apply good_ite
    | with_reducible apply State.conductionEnds_good
    | with_reducible apply State.chMod_good
    | with_reducible exact good_free (by with_reducible assumption) ..
    | split
    | apply good_ite

theorem State.pinsAsc_good {Q : Plat → Cfg → List Instr → Prop} {s : State} (h : s.Good Q) (c new : Nat) :
    (State.pinsAsc c new s).Good Q := by
  unfold State.pinsAsc
  repeat' first
    | with_reducible assumption
    | (extract_lets +onlyGivenNames x; (first | (refine good_step (Q := Q) (x := x) ?_ ?_; (on_goal 1 => unfold x); on_goal 2 => (intro hx; try clear_value x)) | (refine good_step_fst (Q := Q) (x := x) ?_ ?_; (on_goal 1 => unfold x); on_goal 2 => (intro hx; try clear_value x)) | refine good_keepC (x := x) (fun _ => ?_) | refine good_keepS (x := x) (fun _ => ?_) | refine good_keepM (x := x) (fun _ => ?_) | refine good_keepR (x := x) (fun _ => ?_) | refine good_keepT (x := x) (fun _ => ?_) | refine good_keepN (x := x) (fun _ => ?_) | refine good_keepF (x := x) (fun _ => ?_) | refine good_keepG (x := x) (fun _ => ?_) | clear_value x | skip); all_goals (rename' x => y))
    | with_reducible apply State.callMode_good
    | with_reducible apply State.chMod_good
    | with_reducible exact good_free (by with_reducible assumption) ..

theorem State.pinsFor_good {Q : Plat → Cfg → List Instr → Prop} {s : State} (h : s.Good Q) (c : Nat) (d : Drive) : (State.pinsFor c d s).Good Q := by
  cases d with
  | pulseOff => exact State.pinsOff_good h c
  | ascUpper => exact State.pinsAsc_good h c 2
  | ascLower => exact State.pinsAsc_good h c 1
  | switching => exact h

theorem State.setHb_good {Q : Plat → Cfg → List Instr → Prop} {s : State} (h : s.Good Q) (n : Nat) (d : Drive) :
    (State.setHb n d s).Good Q := by
  unfold State.setHb
  repeat' first
    | with_reducible assumption
    | (extract_lets +onlyGivenNames x; (first | (refine good_step (Q := Q) (x := x) ?_ ?_; (on_goal 1 => unfold x); on_goal 2 => (intro hx; try clear_value x)) | (refine good_step_fst (Q := Q) (x := x) ?_ ?_; (on_goal 1 => unfold x); on_goal 2 => (intro hx; try clear_value x)) | refine good_keepC (x := x) (fun _ => ?_) | refine good_keepS (x := x) (fun _ => ?_) | refine good_keepM (x := x) (fun _ => ?_) | refine good_keepR (x := x) (fun _ => ?_) | refine good_keepT (x := x) (fun _ => ?_) | refine good_keepN (x := x) (fun _ => ?_) | refine good_keepF (x := x) (fun _ => ?_) | refine good_keepG (x := x) (fun _ => ?_) | clear_value x | skip); all_goals (rename' x => y))
    | with_reducible apply State.pinsFor_good
    | with_reducible refine good_hbDrive (by with_reducible assumption) ?_
    | with_reducible exact good_free (by with_reducible assumption) ..
    | (rw [List.length_set]; with_reducible exact State.Good.hb (by with_reducible assumption))

theorem State.setLv_good {Q : Plat → Cfg → List Instr → Prop} {s : State} (h : s.Good Q) (n : Nat) (d : Drive) :
    (State.setLv n d s).Good Q := by
  unfold State.setLv
  repeat' first
    | with_reducible assumption
    | (extract_lets +onlyGivenNames x; (first | (refine good_step (Q := Q) (x := x) ?_ ?_; (on_goal 1 => unfold x); on_goal 2 => (intro hx; try clear_value x)) | (refine good_step_fst (Q := Q) (x := x) ?_ ?_; (on_goal 1 => unfold x); on_goal 2 => (intro hx; try clear_value x)) | refine good_keepC (x := x) (fun _ => ?_) | refine good_keepS (x := x) (fun _ => ?_) | refine good_keepM (x := x) (fun _ => ?_) | refine good_keepR (x := x) (fun _ => ?_) | refine good_keepT (x := x) (fun _ => ?_) | refine good_keepN (x := x) (fun _ => ?_) | refine good_keepF (x := x) (fun _ => ?_) | refine good_keepG (x := x) (fun _ => ?_) | clear_value x | skip); all_goals (rename' x => y))
    | with_reducible apply State.pinsFor_good
    | with_reducible refine good_lvDrive (by with_reducible assumption) ?_
    | with_reducible exact good_free (by with_reducible assumption) ..
    | (rw [List.length_set]; with_reducible exact State.Good.lv (by with_reducible assumption))

theorem State.setDrive_good {Q : Plat → Cfg → List Instr → Prop} {s : State} (h : s.Good Q) (c : Nat) (d : Drive) :
    (State.setDrive c d s).Good Q := by
  unfold State.setDrive
  repeat' first
    | with_reducible assumption
    | with_reducible apply good_ite
    | with_reducible apply State.setHb_good
    | with_reducible apply State.setLv_good
    | split
    | apply good_ite

theorem State.pinTick_good {Q : Plat → Cfg → List Instr → Prop} {s : State} (h : s.Good Q) (c : Nat) :
    (State.pinTick c s).Good Q := by
  unfold State.pinTick
  repeat' first
    | with_reducible assumption
    | (intro x y hx; beta_reduce)
    | (intro x hx; beta_reduce)
    | (extract_lets +onlyGivenNames x; (first | (refine good_step (Q := Q) (x := x) ?_ ?_; (on_goal 1 => unfold x); on_goal 2 => (intro hx; try clear_value x)) | (refine good_step_fst (Q := Q) (x := x) ?_ ?_; (on_goal 1 => unfold x); on_goal 2 => (intro hx; try clear_value x)) | refine good_keepC (x := x) (fun _ => ?_) | refine good_keepS (x := x) (fun _ => ?_) | refine good_keepM (x := x) (fun _ => ?_) | refine good_keepR (x := x) (fun _ => ?_) | refine good_keepT (x := x) (fun _ => ?_) | refine good_keepN (x := x) (fun _ => ?_) | refine good_keepF (x := x) (fun _ => ?_) | refine good_keepG (x := x) (fun _ => ?_) | clear_value x | skip); all_goals (rename' x => y))
    | with_reducible apply good_ite
    | with_reducible apply good_foldl
    | with_reducible apply good_foldl_fst
    | with_reducible apply State.switchTo_good
    | with_reducible apply State.chMod_good
    | with_reducible exact good_free (by with_reducible assumption) ..
    | split
    | apply good_ite

end Sys2Proof.Machine
end

