-- ==== Sys2Proof/Laws/Sound/MeterBase.lean ====
section
/-! SUPPORT. Every operation of Machine/MeterBase.lean keeps a sound state sound. -/

set_option linter.unusedTactic false
set_option linter.unreachableTactic false
set_option linter.unusedVariables false
set_option linter.tactic.unusedName false

namespace Sys2Proof.Machine

theorem State.mtrMod_good {Q : Plat → Cfg → List Instr → Prop} {s : State} (h : s.Good Q) {f : MtrX → MtrX}
    (hf : ∀ x : MtrX, x.store.length ≤ 2048 → (f x).store.length ≤ 2048) : (s.mtrMod f).Good Q :=
  good_mtr h (hf _ h.store)

theorem State.mtrIssue_good {Q : Plat → Cfg → List Instr → Prop} {s : State} (h : s.Good Q) (kind : Nat) (x : MtrSess) (start stop imp exp flags events peak : Nat) :
    (State.mtrIssue kind x start stop imp exp flags events peak s).Good Q := by
  unfold State.mtrIssue
  repeat' first
    | with_reducible assumption
    | (intro x hx; exact hx)
    | (intro x hx; exact le_trans (List.length_filter_le _ _) hx)
    | (intro x hx; simp only [List.length_nil]; omega)
    | (extract_lets +onlyGivenNames x; (first | (refine good_step (Q := Q) (x := x) ?_ ?_; (on_goal 1 => unfold x); on_goal 2 => (intro hx; try clear_value x)) | (refine good_step_fst (Q := Q) (x := x) ?_ ?_; (on_goal 1 => unfold x); on_goal 2 => (intro hx; try clear_value x)) | refine good_keepC (x := x) (fun _ => ?_) | refine good_keepS (x := x) (fun _ => ?_) | refine good_keepM (x := x) (fun _ => ?_) | refine good_keepR (x := x) (fun _ => ?_) | refine good_keepT (x := x) (fun _ => ?_) | refine good_keepN (x := x) (fun _ => ?_) | refine good_keepF (x := x) (fun _ => ?_) | refine good_keepG (x := x) (fun _ => ?_) | clear_value x | skip); all_goals (rename' x => y))
    | with_reducible apply good_ite
    | with_reducible apply State.mtrMod_good
    | with_reducible apply State.put_good
    | with_reducible exact good_free (by with_reducible assumption) ..
    | split
    | apply good_ite

theorem State.mtrOpen_good {Q : Plat → Cfg → List Instr → Prop} {s : State} (h : s.Good Q) (billed sessionId : Nat) :
    (State.mtrOpen billed sessionId s).Good Q := by
  unfold State.mtrOpen
  repeat' first
    | with_reducible assumption
    | (intro x hx; exact hx)
    | (intro x hx; exact le_trans (List.length_filter_le _ _) hx)
    | (intro x hx; simp only [List.length_nil]; omega)
    | (extract_lets +onlyGivenNames x; (first | (refine good_step (Q := Q) (x := x) ?_ ?_; (on_goal 1 => unfold x); on_goal 2 => (intro hx; try clear_value x)) | (refine good_step_fst (Q := Q) (x := x) ?_ ?_; (on_goal 1 => unfold x); on_goal 2 => (intro hx; try clear_value x)) | refine good_keepC (x := x) (fun _ => ?_) | refine good_keepS (x := x) (fun _ => ?_) | refine good_keepM (x := x) (fun _ => ?_) | refine good_keepR (x := x) (fun _ => ?_) | refine good_keepT (x := x) (fun _ => ?_) | refine good_keepN (x := x) (fun _ => ?_) | refine good_keepF (x := x) (fun _ => ?_) | refine good_keepG (x := x) (fun _ => ?_) | clear_value x | skip); all_goals (rename' x => y))
    | with_reducible apply good_ite
    | with_reducible apply State.mtrMod_good
    | with_reducible apply State.put_good
    | with_reducible apply State.mtrIssue_good
    | with_reducible exact good_free (by with_reducible assumption) ..
    | split
    | apply good_ite

theorem State.mtrInterval_good {Q : Plat → Cfg → List Instr → Prop} {s : State} (h : s.Good Q) (stop flags : Nat) :
    (State.mtrInterval stop flags s).Good Q := by
  unfold State.mtrInterval
  repeat' first
    | with_reducible assumption
    | (intro x hx; exact hx)
    | (intro x hx; exact le_trans (List.length_filter_le _ _) hx)
    | (intro x hx; simp only [List.length_nil]; omega)
    | (extract_lets +onlyGivenNames x; (first | (refine good_step (Q := Q) (x := x) ?_ ?_; (on_goal 1 => unfold x); on_goal 2 => (intro hx; try clear_value x)) | (refine good_step_fst (Q := Q) (x := x) ?_ ?_; (on_goal 1 => unfold x); on_goal 2 => (intro hx; try clear_value x)) | refine good_keepC (x := x) (fun _ => ?_) | refine good_keepS (x := x) (fun _ => ?_) | refine good_keepM (x := x) (fun _ => ?_) | refine good_keepR (x := x) (fun _ => ?_) | refine good_keepT (x := x) (fun _ => ?_) | refine good_keepN (x := x) (fun _ => ?_) | refine good_keepF (x := x) (fun _ => ?_) | refine good_keepG (x := x) (fun _ => ?_) | clear_value x | skip); all_goals (rename' x => y))
    | with_reducible apply State.mtrIssue_good
    | with_reducible apply State.mtrMod_good
    | with_reducible exact good_free (by with_reducible assumption) ..
    | split

theorem State.mtrCloseAt_good {Q : Plat → Cfg → List Instr → Prop} {s : State} (h : s.Good Q) (stop flags : Nat) :
    (State.mtrCloseAt stop flags s).Good Q := by
  unfold State.mtrCloseAt
  repeat' first
    | with_reducible assumption
    | (intro x hx; exact hx)
    | (intro x hx; exact le_trans (List.length_filter_le _ _) hx)
    | (intro x hx; simp only [List.length_nil]; omega)
    | (extract_lets +onlyGivenNames x; (first | (refine good_step (Q := Q) (x := x) ?_ ?_; (on_goal 1 => unfold x); on_goal 2 => (intro hx; try clear_value x)) | (refine good_step_fst (Q := Q) (x := x) ?_ ?_; (on_goal 1 => unfold x); on_goal 2 => (intro hx; try clear_value x)) | refine good_keepC (x := x) (fun _ => ?_) | refine good_keepS (x := x) (fun _ => ?_) | refine good_keepM (x := x) (fun _ => ?_) | refine good_keepR (x := x) (fun _ => ?_) | refine good_keepT (x := x) (fun _ => ?_) | refine good_keepN (x := x) (fun _ => ?_) | refine good_keepF (x := x) (fun _ => ?_) | refine good_keepG (x := x) (fun _ => ?_) | clear_value x | skip); all_goals (rename' x => y))
    | with_reducible apply good_ite
    | with_reducible apply State.mtrInterval_good
    | with_reducible apply State.mtrIssue_good
    | with_reducible apply State.mtrMod_good
    | with_reducible apply State.put_good
    | with_reducible exact good_free (by with_reducible assumption) ..
    | split
    | apply good_ite

theorem State.mtrClose_good {Q : Plat → Cfg → List Instr → Prop} {s : State} (h : s.Good Q) (flags : Nat) :
    (State.mtrClose flags s).Good Q := by
  unfold State.mtrClose
  repeat' first
    | with_reducible assumption
    | with_reducible apply State.mtrCloseAt_good

end Sys2Proof.Machine
end

