-- ==== Sys2Proof/Laws/Sound/Held.lean ====
section
/-! SUPPORT. Every operation of Machine/Held.lean keeps a sound state sound. -/

set_option linter.unusedTactic false
set_option linter.unreachableTactic false
set_option linter.unusedVariables false
set_option linter.tactic.unusedName false

namespace Sys2Proof.Machine

theorem State.cpMod_good {Q : Plat → Cfg → List Instr → Prop} {s : State} (h : s.Good Q) (c : Nat) (f : CpX → CpX) :
    (State.cpMod c f s).Good Q := by
  unfold State.cpMod
  repeat' first
    | with_reducible assumption
    | (extract_lets +onlyGivenNames x; (first | (refine good_step (Q := Q) (x := x) ?_ ?_; (on_goal 1 => unfold x); on_goal 2 => (intro hx; try clear_value x)) | (refine good_step_fst (Q := Q) (x := x) ?_ ?_; (on_goal 1 => unfold x); on_goal 2 => (intro hx; try clear_value x)) | refine good_keepC (x := x) (fun _ => ?_) | refine good_keepS (x := x) (fun _ => ?_) | refine good_keepM (x := x) (fun _ => ?_) | refine good_keepR (x := x) (fun _ => ?_) | refine good_keepT (x := x) (fun _ => ?_) | refine good_keepN (x := x) (fun _ => ?_) | refine good_keepF (x := x) (fun _ => ?_) | refine good_keepG (x := x) (fun _ => ?_) | clear_value x | skip); all_goals (rename' x => y))
    | with_reducible exact good_free (by with_reducible assumption) ..

theorem State.cpTo_good {Q : Plat → Cfg → List Instr → Prop} {s : State} (h : s.Good Q) (c p : Nat) :
    (State.cpTo c p s).Good Q := by
  unfold State.cpTo
  repeat' first
    | with_reducible assumption
    | with_reducible apply State.put_good

theorem State.cpStop_good {Q : Plat → Cfg → List Instr → Prop} {s : State} (h : s.Good Q) (c : Nat) :
    (State.cpStop c s).Good Q := by
  unfold State.cpStop
  repeat' first
    | with_reducible assumption
    | (extract_lets +onlyGivenNames x; (first | (refine good_step (Q := Q) (x := x) ?_ ?_; (on_goal 1 => unfold x); on_goal 2 => (intro hx; try clear_value x)) | (refine good_step_fst (Q := Q) (x := x) ?_ ?_; (on_goal 1 => unfold x); on_goal 2 => (intro hx; try clear_value x)) | refine good_keepC (x := x) (fun _ => ?_) | refine good_keepS (x := x) (fun _ => ?_) | refine good_keepM (x := x) (fun _ => ?_) | refine good_keepR (x := x) (fun _ => ?_) | refine good_keepT (x := x) (fun _ => ?_) | refine good_keepN (x := x) (fun _ => ?_) | refine good_keepF (x := x) (fun _ => ?_) | refine good_keepG (x := x) (fun _ => ?_) | clear_value x | skip); all_goals (rename' x => y))
    | with_reducible apply good_ite
    | with_reducible apply State.cpMod_good
    | with_reducible apply State.put_good
    | with_reducible apply State.cpTo_good
    | with_reducible exact good_free (by with_reducible assumption) ..
    | split
    | apply good_ite

theorem State.lvMod_good {Q : Plat → Cfg → List Instr → Prop} {s : State} (h : s.Good Q) (f : LvX → LvX) :
    (State.lvMod f s).Good Q := by
  unfold State.lvMod
  repeat' first
    | with_reducible assumption
    | (extract_lets +onlyGivenNames x; (first | (refine good_step (Q := Q) (x := x) ?_ ?_; (on_goal 1 => unfold x); on_goal 2 => (intro hx; try clear_value x)) | (refine good_step_fst (Q := Q) (x := x) ?_ ?_; (on_goal 1 => unfold x); on_goal 2 => (intro hx; try clear_value x)) | refine good_keepC (x := x) (fun _ => ?_) | refine good_keepS (x := x) (fun _ => ?_) | refine good_keepM (x := x) (fun _ => ?_) | refine good_keepR (x := x) (fun _ => ?_) | refine good_keepT (x := x) (fun _ => ?_) | refine good_keepN (x := x) (fun _ => ?_) | refine good_keepF (x := x) (fun _ => ?_) | refine good_keepG (x := x) (fun _ => ?_) | clear_value x | skip); all_goals (rename' x => y))
    | with_reducible exact good_free (by with_reducible assumption) ..

theorem State.lvHeld_good {Q : Plat → Cfg → List Instr → Prop} {s : State} (h : s.Good Q) :
    (State.lvHeld s).Good Q := by
  unfold State.lvHeld
  repeat' first
    | with_reducible assumption
    | (extract_lets +onlyGivenNames x; (first | (refine good_step (Q := Q) (x := x) ?_ ?_; (on_goal 1 => unfold x); on_goal 2 => (intro hx; try clear_value x)) | (refine good_step_fst (Q := Q) (x := x) ?_ ?_; (on_goal 1 => unfold x); on_goal 2 => (intro hx; try clear_value x)) | refine good_keepC (x := x) (fun _ => ?_) | refine good_keepS (x := x) (fun _ => ?_) | refine good_keepM (x := x) (fun _ => ?_) | refine good_keepR (x := x) (fun _ => ?_) | refine good_keepT (x := x) (fun _ => ?_) | refine good_keepN (x := x) (fun _ => ?_) | refine good_keepF (x := x) (fun _ => ?_) | refine good_keepG (x := x) (fun _ => ?_) | clear_value x | skip); all_goals (rename' x => y))
    | with_reducible apply good_ite
    | with_reducible apply State.put_good
    | with_reducible apply State.lvMod_good
    | with_reducible apply State.cpStop_good
    | with_reducible exact good_free (by with_reducible assumption) ..
    | split
    | apply good_ite

theorem State.gaMod_good {Q : Plat → Cfg → List Instr → Prop} {s : State} (h : s.Good Q) (a : Nat) (f : GaX → GaX) :
    (State.gaMod a f s).Good Q := by
  unfold State.gaMod
  repeat' first
    | with_reducible assumption
    | (extract_lets +onlyGivenNames x; (first | (refine good_step (Q := Q) (x := x) ?_ ?_; (on_goal 1 => unfold x); on_goal 2 => (intro hx; try clear_value x)) | (refine good_step_fst (Q := Q) (x := x) ?_ ?_; (on_goal 1 => unfold x); on_goal 2 => (intro hx; try clear_value x)) | refine good_keepC (x := x) (fun _ => ?_) | refine good_keepS (x := x) (fun _ => ?_) | refine good_keepM (x := x) (fun _ => ?_) | refine good_keepR (x := x) (fun _ => ?_) | refine good_keepT (x := x) (fun _ => ?_) | refine good_keepN (x := x) (fun _ => ?_) | refine good_keepF (x := x) (fun _ => ?_) | refine good_keepG (x := x) (fun _ => ?_) | clear_value x | skip); all_goals (rename' x => y))
    | with_reducible exact good_free (by with_reducible assumption) ..

theorem State.gaLost_good {Q : Plat → Cfg → List Instr → Prop} {s : State} (h : s.Good Q) (a : Nat) :
    (State.gaLost a s).Good Q := by
  unfold State.gaLost
  repeat' first
    | with_reducible assumption
    | (extract_lets +onlyGivenNames x; (first | (refine good_step (Q := Q) (x := x) ?_ ?_; (on_goal 1 => unfold x); on_goal 2 => (intro hx; try clear_value x)) | (refine good_step_fst (Q := Q) (x := x) ?_ ?_; (on_goal 1 => unfold x); on_goal 2 => (intro hx; try clear_value x)) | refine good_keepC (x := x) (fun _ => ?_) | refine good_keepS (x := x) (fun _ => ?_) | refine good_keepM (x := x) (fun _ => ?_) | refine good_keepR (x := x) (fun _ => ?_) | refine good_keepT (x := x) (fun _ => ?_) | refine good_keepN (x := x) (fun _ => ?_) | refine good_keepF (x := x) (fun _ => ?_) | refine good_keepG (x := x) (fun _ => ?_) | clear_value x | skip); all_goals (rename' x => y))
    | with_reducible apply good_ite
    | with_reducible apply State.put_good
    | with_reducible apply State.gaMod_good
    | with_reducible apply State.note_good
    | with_reducible exact good_free (by with_reducible assumption) ..
    | split
    | apply good_ite

theorem State.sessionEnd_good {Q : Plat → Cfg → List Instr → Prop} {s : State} (h : s.Good Q) (cause : Nat) :
    (State.sessionEnd cause s).Good Q := by
  unfold State.sessionEnd
  repeat' first
    | with_reducible assumption
    | (extract_lets +onlyGivenNames x; (first | (refine good_step (Q := Q) (x := x) ?_ ?_; (on_goal 1 => unfold x); on_goal 2 => (intro hx; try clear_value x)) | (refine good_step_fst (Q := Q) (x := x) ?_ ?_; (on_goal 1 => unfold x); on_goal 2 => (intro hx; try clear_value x)) | refine good_keepC (x := x) (fun _ => ?_) | refine good_keepS (x := x) (fun _ => ?_) | refine good_keepM (x := x) (fun _ => ?_) | refine good_keepR (x := x) (fun _ => ?_) | refine good_keepT (x := x) (fun _ => ?_) | refine good_keepN (x := x) (fun _ => ?_) | refine good_keepF (x := x) (fun _ => ?_) | refine good_keepG (x := x) (fun _ => ?_) | clear_value x | skip); all_goals (rename' x => y))
    | with_reducible apply good_ite
    | with_reducible apply State.put_good
    | with_reducible exact good_free (by with_reducible assumption) ..
    | split
    | apply good_ite

theorem State.wcHeld_good {Q : Plat → Cfg → List Instr → Prop} {s : State} (h : s.Good Q) :
    (State.wcHeld s).Good Q := by
  unfold State.wcHeld
  repeat' first
    | with_reducible assumption
    | (extract_lets +onlyGivenNames x; (first | (refine good_step (Q := Q) (x := x) ?_ ?_; (on_goal 1 => unfold x); on_goal 2 => (intro hx; try clear_value x)) | (refine good_step_fst (Q := Q) (x := x) ?_ ?_; (on_goal 1 => unfold x); on_goal 2 => (intro hx; try clear_value x)) | refine good_keepC (x := x) (fun _ => ?_) | refine good_keepS (x := x) (fun _ => ?_) | refine good_keepM (x := x) (fun _ => ?_) | refine good_keepR (x := x) (fun _ => ?_) | refine good_keepT (x := x) (fun _ => ?_) | refine good_keepN (x := x) (fun _ => ?_) | refine good_keepF (x := x) (fun _ => ?_) | refine good_keepG (x := x) (fun _ => ?_) | clear_value x | skip); all_goals (rename' x => y))
    | with_reducible apply good_ite
    | with_reducible apply State.put_good
    | with_reducible apply State.cpStop_good
    | with_reducible exact good_free (by with_reducible assumption) ..
    | split
    | apply good_ite

theorem State.tdManage_good {Q : Plat → Cfg → List Instr → Prop} {s : State} (h : s.Good Q) (connection identity : Nat) (initiator : Bool) :
    (State.tdManage connection identity initiator s).Good Q := by
  unfold State.tdManage
  repeat' first
    | with_reducible assumption
    | (extract_lets +onlyGivenNames x; (first | (refine good_step (Q := Q) (x := x) ?_ ?_; (on_goal 1 => unfold x); on_goal 2 => (intro hx; try clear_value x)) | (refine good_step_fst (Q := Q) (x := x) ?_ ?_; (on_goal 1 => unfold x); on_goal 2 => (intro hx; try clear_value x)) | refine good_keepC (x := x) (fun _ => ?_) | refine good_keepS (x := x) (fun _ => ?_) | refine good_keepM (x := x) (fun _ => ?_) | refine good_keepR (x := x) (fun _ => ?_) | refine good_keepT (x := x) (fun _ => ?_) | refine good_keepN (x := x) (fun _ => ?_) | refine good_keepF (x := x) (fun _ => ?_) | refine good_keepG (x := x) (fun _ => ?_) | clear_value x | skip); all_goals (rename' x => y))
    | with_reducible apply good_ite
    | with_reducible apply State.mPut_good
    | with_reducible exact good_free (by with_reducible assumption) ..
    | split
    | apply good_ite

theorem State.tdEnd_good {Q : Plat → Cfg → List Instr → Prop} {s : State} (h : s.Good Q) :
    (State.tdEnd s).Good Q := by
  unfold State.tdEnd
  repeat' first
    | with_reducible assumption
    | (extract_lets +onlyGivenNames x; (first | (refine good_step (Q := Q) (x := x) ?_ ?_; (on_goal 1 => unfold x); on_goal 2 => (intro hx; try clear_value x)) | (refine good_step_fst (Q := Q) (x := x) ?_ ?_; (on_goal 1 => unfold x); on_goal 2 => (intro hx; try clear_value x)) | refine good_keepC (x := x) (fun _ => ?_) | refine good_keepS (x := x) (fun _ => ?_) | refine good_keepM (x := x) (fun _ => ?_) | refine good_keepR (x := x) (fun _ => ?_) | refine good_keepT (x := x) (fun _ => ?_) | refine good_keepN (x := x) (fun _ => ?_) | refine good_keepF (x := x) (fun _ => ?_) | refine good_keepG (x := x) (fun _ => ?_) | clear_value x | skip); all_goals (rename' x => y))
    | with_reducible apply good_ite
    | with_reducible apply State.put_good
    | with_reducible apply State.tdManage_good
    | with_reducible exact good_free (by with_reducible assumption) ..
    | split
    | apply good_ite

theorem State.lkHeld_good {Q : Plat → Cfg → List Instr → Prop} {s : State} (h : s.Good Q) :
    (State.lkHeld s).Good Q := by
  unfold State.lkHeld
  repeat' first
    | with_reducible assumption
    | (extract_lets +onlyGivenNames x; (first | (refine good_step (Q := Q) (x := x) ?_ ?_; (on_goal 1 => unfold x); on_goal 2 => (intro hx; try clear_value x)) | (refine good_step_fst (Q := Q) (x := x) ?_ ?_; (on_goal 1 => unfold x); on_goal 2 => (intro hx; try clear_value x)) | refine good_keepC (x := x) (fun _ => ?_) | refine good_keepS (x := x) (fun _ => ?_) | refine good_keepM (x := x) (fun _ => ?_) | refine good_keepR (x := x) (fun _ => ?_) | refine good_keepT (x := x) (fun _ => ?_) | refine good_keepN (x := x) (fun _ => ?_) | refine good_keepF (x := x) (fun _ => ?_) | refine good_keepG (x := x) (fun _ => ?_) | clear_value x | skip); all_goals (rename' x => y))
    | with_reducible apply good_ite
    | with_reducible apply State.put_good
    | with_reducible apply State.tdEnd_good
    | with_reducible apply State.mtrClose_good
    | with_reducible exact good_free (by with_reducible assumption) ..
    | split
    | apply good_ite

theorem State.postHeld_good {Q : Plat → Cfg → List Instr → Prop} {s : State} (h : s.Good Q) :
    (State.postHeld s).Good Q := by
  unfold State.postHeld
  repeat' first
    | with_reducible assumption
    | (extract_lets +onlyGivenNames x; (first | (refine good_step (Q := Q) (x := x) ?_ ?_; (on_goal 1 => unfold x); on_goal 2 => (intro hx; try clear_value x)) | (refine good_step_fst (Q := Q) (x := x) ?_ ?_; (on_goal 1 => unfold x); on_goal 2 => (intro hx; try clear_value x)) | refine good_keepC (x := x) (fun _ => ?_) | refine good_keepS (x := x) (fun _ => ?_) | refine good_keepM (x := x) (fun _ => ?_) | refine good_keepR (x := x) (fun _ => ?_) | refine good_keepT (x := x) (fun _ => ?_) | refine good_keepN (x := x) (fun _ => ?_) | refine good_keepF (x := x) (fun _ => ?_) | refine good_keepG (x := x) (fun _ => ?_) | clear_value x | skip); all_goals (rename' x => y))
    | with_reducible apply good_ite
    | with_reducible apply State.put_good
    | with_reducible apply State.tdEnd_good
    | with_reducible exact good_free (by with_reducible assumption) ..
    | split
    | apply good_ite

theorem State.stHeld_good {Q : Plat → Cfg → List Instr → Prop} {s : State} (h : s.Good Q) :
    (State.stHeld s).Good Q := by
  unfold State.stHeld
  repeat' first
    | with_reducible assumption
    | (extract_lets +onlyGivenNames x; (first | (refine good_step (Q := Q) (x := x) ?_ ?_; (on_goal 1 => unfold x); on_goal 2 => (intro hx; try clear_value x)) | (refine good_step_fst (Q := Q) (x := x) ?_ ?_; (on_goal 1 => unfold x); on_goal 2 => (intro hx; try clear_value x)) | refine good_keepC (x := x) (fun _ => ?_) | refine good_keepS (x := x) (fun _ => ?_) | refine good_keepM (x := x) (fun _ => ?_) | refine good_keepR (x := x) (fun _ => ?_) | refine good_keepT (x := x) (fun _ => ?_) | refine good_keepN (x := x) (fun _ => ?_) | refine good_keepF (x := x) (fun _ => ?_) | refine good_keepG (x := x) (fun _ => ?_) | clear_value x | skip); all_goals (rename' x => y))
    | with_reducible apply good_ite
    | with_reducible apply State.put_good
    | with_reducible exact good_free (by with_reducible assumption) ..
    | split
    | apply good_ite

theorem State.ccHeld_good {Q : Plat → Cfg → List Instr → Prop} {s : State} (h : s.Good Q) :
    (State.ccHeld s).Good Q := by
  unfold State.ccHeld
  repeat' first
    | with_reducible assumption
    | (extract_lets +onlyGivenNames x; (first | (refine good_step (Q := Q) (x := x) ?_ ?_; (on_goal 1 => unfold x); on_goal 2 => (intro hx; try clear_value x)) | (refine good_step_fst (Q := Q) (x := x) ?_ ?_; (on_goal 1 => unfold x); on_goal 2 => (intro hx; try clear_value x)) | refine good_keepC (x := x) (fun _ => ?_) | refine good_keepS (x := x) (fun _ => ?_) | refine good_keepM (x := x) (fun _ => ?_) | refine good_keepR (x := x) (fun _ => ?_) | refine good_keepT (x := x) (fun _ => ?_) | refine good_keepN (x := x) (fun _ => ?_) | refine good_keepF (x := x) (fun _ => ?_) | refine good_keepG (x := x) (fun _ => ?_) | clear_value x | skip); all_goals (rename' x => y))
    | with_reducible apply good_ite
    | with_reducible apply State.put_good
    | with_reducible exact good_free (by with_reducible assumption) ..
    | split
    | apply good_ite

theorem State.monMode_good {Q : Plat → Cfg → List Instr → Prop} {s : State} (h : s.Good Q) (n : Nat) :
    (State.monMode n s).Good Q := by
  unfold State.monMode
  repeat' first
    | with_reducible assumption
    | (extract_lets +onlyGivenNames x; (first | (refine good_step (Q := Q) (x := x) ?_ ?_; (on_goal 1 => unfold x); on_goal 2 => (intro hx; try clear_value x)) | (refine good_step_fst (Q := Q) (x := x) ?_ ?_; (on_goal 1 => unfold x); on_goal 2 => (intro hx; try clear_value x)) | refine good_keepC (x := x) (fun _ => ?_) | refine good_keepS (x := x) (fun _ => ?_) | refine good_keepM (x := x) (fun _ => ?_) | refine good_keepR (x := x) (fun _ => ?_) | refine good_keepT (x := x) (fun _ => ?_) | refine good_keepN (x := x) (fun _ => ?_) | refine good_keepF (x := x) (fun _ => ?_) | refine good_keepG (x := x) (fun _ => ?_) | clear_value x | skip); all_goals (rename' x => y))
    | with_reducible apply good_ite
    | with_reducible apply State.put_good
    | with_reducible exact good_free (by with_reducible assumption) ..
    | split
    | apply good_ite

theorem State.enterMode_good {Q : Plat → Cfg → List Instr → Prop} {s : State} (h : s.Good Q) (n cause : Nat) :
    (State.enterMode n cause s).Good Q := by
  unfold State.enterMode
  repeat' first
    | with_reducible assumption
    | (extract_lets +onlyGivenNames x; (first | (refine good_step (Q := Q) (x := x) ?_ ?_; (on_goal 1 => unfold x); on_goal 2 => (intro hx; try clear_value x)) | (refine good_step_fst (Q := Q) (x := x) ?_ ?_; (on_goal 1 => unfold x); on_goal 2 => (intro hx; try clear_value x)) | refine good_keepC (x := x) (fun _ => ?_) | refine good_keepS (x := x) (fun _ => ?_) | refine good_keepM (x := x) (fun _ => ?_) | refine good_keepR (x := x) (fun _ => ?_) | refine good_keepT (x := x) (fun _ => ?_) | refine good_keepN (x := x) (fun _ => ?_) | refine good_keepF (x := x) (fun _ => ?_) | refine good_keepG (x := x) (fun _ => ?_) | clear_value x | skip); all_goals (rename' x => y))
    | with_reducible apply good_ite
    | with_reducible apply State.mtrClose_good
    | with_reducible apply State.put_good
    | with_reducible apply State.monMode_good
    | with_reducible apply State.incSat_good
    | with_reducible apply State.log_good
    | with_reducible exact good_free (by with_reducible assumption) ..
    | split
    | apply good_ite

theorem State.fnHeld_good {Q : Plat → Cfg → List Instr → Prop} {s : State} (h : s.Good Q) (f : Fn) :
    (State.fnHeld f s).Good Q := by
  unfold State.fnHeld
  repeat' first
    | with_reducible assumption
    | (extract_lets +onlyGivenNames x; (first | (refine good_step (Q := Q) (x := x) ?_ ?_; (on_goal 1 => unfold x); on_goal 2 => (intro hx; try clear_value x)) | (refine good_step_fst (Q := Q) (x := x) ?_ ?_; (on_goal 1 => unfold x); on_goal 2 => (intro hx; try clear_value x)) | refine good_keepC (x := x) (fun _ => ?_) | refine good_keepS (x := x) (fun _ => ?_) | refine good_keepM (x := x) (fun _ => ?_) | refine good_keepR (x := x) (fun _ => ?_) | refine good_keepT (x := x) (fun _ => ?_) | refine good_keepN (x := x) (fun _ => ?_) | refine good_keepF (x := x) (fun _ => ?_) | refine good_keepG (x := x) (fun _ => ?_) | clear_value x | skip); all_goals (rename' x => y))
    | with_reducible apply good_ite
    | with_reducible apply State.wcHeld_good
    | with_reducible apply State.lkHeld_good
    | with_reducible apply State.lvHeld_good
    | with_reducible apply State.stHeld_good
    | with_reducible apply State.postHeld_good
    | with_reducible apply State.ccHeld_good
    | with_reducible apply State.gaLost_good
    | with_reducible exact good_free (by with_reducible assumption) ..
    | split
    | apply good_ite

end Sys2Proof.Machine
end

