-- ==== Sys2Proof/Laws/Sound/Sets.lean ====
section
/-! SUPPORT. Every operation of Machine/Sets.lean keeps a sound state sound. -/

set_option linter.unusedTactic false
set_option linter.unreachableTactic false
set_option linter.unusedVariables false
set_option linter.tactic.unusedName false

namespace Sys2Proof.Machine

/-- One cell: it trades its place by a condition on its object, or stays. -/
theorem swapCell_form (r : Option ObjInfo) (a b : ObjInfo → Bool) (low : Prop) [Decidable low] (p : Host.Cell) (m n : Nat) :
    (match r with
      | some o => if a o = true ∧ b o = true then (if low then (m, p.2) else (n, p.2)) else p
      | none => p) =
    if (match r with
      | some o => a o && b o
      | none => false) = true then ((if low then m else n), p.2) else p := by
  cases r with
  | none => rfl
  | some o => by_cases h : low <;> cases ha : a o <;> cases hb : b o <;> simp [h, ha, hb]

/-- The other copy of a block's byte. -/
theorem swapCells_form (v : State) (sel : Nat → Bool) (mem : List Host.Cell) : ∃ g : Nat → Bool, v.swapCells sel mem =
    (mem.map (fun p => if g (p.1 / 33554432) then ((if p.1 % 33554432 < 16777216 then p.1 + 16777216 else p.1 - 16777216), p.2) else p)).insertionSort
      (fun a b => a.1 ≤ b.1) := by
  refine ⟨fun k => match objInfo (k / 256) (k % 256) with
    | some o => o.row.acc.isRws && sel (v.scopeOf o)
    | none => false, ?_⟩
  unfold State.swapCells
  congr 1
  apply List.map_congr_left
  intro p _
  exact swapCell_form (objInfo (p.1 / 33554432 / 256) (p.1 / 33554432 % 256)) (fun o => o.row.acc.isRws) (fun o => sel (v.scopeOf o))
    (p.1 % 33554432 < 16777216) p (p.1 + 16777216) (p.1 - 16777216)

/-- Sorting by key sorts by key. -/
theorem pairwise_sorted {β : Type} (l : List (Nat × β)) : (l.insertionSort (fun x y => x.1 ≤ y.1)).Pairwise (fun x y => x.1 ≤ y.1) :=
  haveI : Std.Total (fun x y : Nat × β => x.1 ≤ y.1) := ⟨fun a b => le_total a.1 b.1⟩
  haveI : IsTrans (Nat × β) (fun x y => x.1 ≤ y.1) := ⟨fun _ _ _ h1 h2 => le_trans h1 h2⟩
  List.pairwise_insertionSort _ l

/-- Distinct keys, sorted by key, rise strictly. -/
theorem strict_sorted {β : Type} {l : List (Nat × β)} (hn : (l.map Prod.fst).Nodup) :
    (l.insertionSort (fun x y => x.1 ≤ y.1)).Pairwise (fun x y => x.1 < y.1) := by
  have hne : ((l.insertionSort (fun x y => x.1 ≤ y.1)).map Prod.fst).Nodup := ((List.perm_insertionSort _ l).map Prod.fst).nodup_iff.mpr hn
  rw [List.Nodup, List.pairwise_map] at hne
  exact ((pairwise_sorted l).and hne).imp (fun h => lt_of_le_of_ne h.1 h.2)

/-- A store sorted by key, with distinct keys and no default listed, is in canonical form. -/
theorem Store.wf_sorted {l : List (Nat × Int)} (hn : (l.map Prod.fst).Nodup) (hd : ∀ p ∈ l, p.2 ≠ defaultOf p.1) :
    Store.wf (l.insertionSort (fun x y => x.1 ≤ y.1)) = true := by
  rw [Store.wf_iff]
  exact ⟨strict_sorted hn, fun p hp => hd p ((List.perm_insertionSort _ l).mem_iff.mp hp)⟩

theorem memWf_sorted {l : List Host.Cell} (hn : (l.map Prod.fst).Nodup) (hd : ∀ p ∈ l, p.2 ≠ byteDefault p.1) :
    memWf (l.insertionSort (fun x y => x.1 ≤ y.1)) = true := by
  rw [memWf_iff]
  exact ⟨strict_sorted hn, fun p hp => hd p ((List.perm_insertionSort _ l).mem_iff.mp hp)⟩

theorem nodup_keys {β : Type} {l : List (Nat × β)} (h : l.Pairwise (fun p q => p.1 < q.1)) : (l.map Prod.fst).Nodup := by
  rw [List.Nodup, List.pairwise_map]
  exact h.imp (fun h => ne_of_lt h)

/-- Exchanging the two copies of some blocks keeps the memory's canonical form. -/
theorem memWf_swapCells (v : State) {mem : List Host.Cell} (h : memWf mem = true) (sel : Nat → Bool) : memWf (v.swapCells sel mem) = true := by
  obtain ⟨g, hg⟩ := swapCells_form v sel mem
  rw [hg]
  rw [memWf_iff] at h
  have hn := nodup_keys h.1
  refine memWf_sorted ?_ ?_
  · rw [List.map_map]
    rw [List.Nodup, List.pairwise_map] at *
    refine hn.imp ?_
    intro a b hab
    simp only [Function.comp]
    by_cases h1 : g (a.1 / 33554432) <;> by_cases h2 : g (b.1 / 33554432) <;> simp only [h1, h2, if_true, if_false, Bool.false_eq_true] <;>
      intro he <;> apply hab
    · split at he <;> split at he <;> omega
    · exfalso
      have : a.1 / 33554432 = b.1 / 33554432 := by split at he <;> omega
      rw [this] at h1
      exact h2 h1
    · exfalso
      have : a.1 / 33554432 = b.1 / 33554432 := by split at he <;> omega
      rw [this] at h1
      exact h1 h2
    · exact he
  · intro p hp
    obtain ⟨q, hq, rfl⟩ := List.mem_map.mp hp
    have := h.2 q hq
    by_cases h1 : g (q.1 / 33554432)
    · simp only [h1, if_true]
      have hk : (if q.1 % 33554432 < 16777216 then q.1 + 16777216 else q.1 - 16777216) / 33554432 = q.1 / 33554432 := by split <;> omega
      simpa only [byteDefault, hk] using this
    · simpa only [h1, if_false, Bool.false_eq_true] using this

/-- Choosing values from two stores by key keeps the canonical form. -/
theorem Store.wf_pickStore (s : State) (sel : Nat → Bool) {a b : Store} (ha : a.wf = true) (hb : b.wf = true) : (s.pickStore sel a b).wf = true := by
  rw [Store.wf_iff] at ha hb
  unfold State.pickStore
  refine Store.wf_sorted ?_ ?_
  · rw [List.map_append, List.nodup_append]
    refine ⟨nodup_keys (ha.1.filter _), nodup_keys (hb.1.filter _), ?_⟩
    intro x hx y hy hxy
    obtain ⟨p, hp, rfl⟩ := List.mem_map.mp hx
    obtain ⟨q, hq, rfl⟩ := List.mem_map.mp hy
    have h1 := (List.mem_filter.mp hp).2
    have h2 := (List.mem_filter.mp hq).2
    rw [hxy] at h1
    rw [h1] at h2
    exact absurd h2 (by simp)
  · intro p hp
    rcases List.mem_append.mp hp with hp | hp
    · exact ha.2 p (List.mem_of_mem_filter hp)
    · exact hb.2 p (List.mem_of_mem_filter hp)

theorem State.exchangedBy_good {P : Plat → Option SwapUndo → Nat → List Instr → Prop} {s : State} (h : s.Good (fun w c p => P w c.undo c.tick p)) (v : State) (map : Nat) :
    (State.exchangedBy s v map).Good (fun w c p => P w c.undo c.tick p) :=
  ⟨h.live, Store.wf_pickStore v _ h.shadow h.active, Store.wf_pickStore v _ h.active h.shadow, memWf_swapCells v h.mem _, h.hb, h.lv, h.gs, h.tb,
    h.can, h.delayed, h.queue, h.ring, h.store, h.sess, h.canq, h.plant⟩

theorem State.exchanged_good {P : Plat → List Instr → Prop} {s : State} (h : s.Good (fun w _ p => P w p)) (map : Nat) :
    (State.exchanged map s).Good (fun w _ p => P w p) := State.exchangedBy_good (P := fun w _ _ p => P w p) h s map

theorem State.before_good {P : Plat → Option SwapUndo → Nat → List Instr → Prop} {s : State} (h : s.Good (fun w c p => P w c.undo c.tick p)) (u : SwapUndo) :
    (State.before u s).Good (fun w c p => P w c.undo c.tick p) := State.exchangedBy_good h _ _

end Sys2Proof.Machine
end

