-- ==== Sys2Proof/Laws/Sound/Cocoon.lean ====
section
/-! SUPPORT. Every operation of Machine/Cocoon.lean keeps a sound state sound. -/

set_option linter.unusedTactic false
set_option linter.unreachableTactic false
set_option linter.unusedVariables false
set_option linter.tactic.unusedName false

namespace Sys2Proof.Machine

theorem State.setGs_good {Q : Plat → Cfg → List Instr → Prop} {s : State} (h : s.Good Q) (n : Nat) (d : SupplyDrive) :
    (State.setGs n d s).Good Q := by
  unfold State.setGs
  repeat' first
    | with_reducible assumption
    | (extract_lets +onlyGivenNames x; (first | (refine good_step (Q := Q) (x := x) ?_ ?_; (on_goal 1 => unfold x); on_goal 2 => (intro hx; try clear_value x)) | (refine good_step_fst (Q := Q) (x := x) ?_ ?_; (on_goal 1 => unfold x); on_goal 2 => (intro hx; try clear_value x)) | refine good_keepC (x := x) (fun _ => ?_) | refine good_keepS (x := x) (fun _ => ?_) | refine good_keepM (x := x) (fun _ => ?_) | refine good_keepR (x := x) (fun _ => ?_) | refine good_keepT (x := x) (fun _ => ?_) | refine good_keepN (x := x) (fun _ => ?_) | refine good_keepF (x := x) (fun _ => ?_) | refine good_keepG (x := x) (fun _ => ?_) | clear_value x | skip); all_goals (rename' x => y))
    | with_reducible refine good_gsDrive (by with_reducible assumption) ?_
    | with_reducible exact good_free (by with_reducible assumption) ..
    | (rw [List.length_set]; with_reducible exact State.Good.gs (by with_reducible assumption))

theorem State.supplyReady_good {Q : Plat → Cfg → List Instr → Prop} {s : State} (h : s.Good Q) (n : Nat) :
    (State.supplyReady n s).Good Q := by
  unfold State.supplyReady
  repeat' first
    | with_reducible assumption
    | with_reducible apply good_ite
    | with_reducible apply State.put_good
    | split
    | apply good_ite

theorem State.keepSupply_good {Q : Plat → Cfg → List Instr → Prop} {s : State} (h : s.Good Q) (n : Nat) :
    (State.keepSupply n s).Good Q := by
  unfold State.keepSupply
  repeat' first
    | with_reducible assumption
    | with_reducible apply State.setGs_good
    | with_reducible apply State.put_good
    | with_reducible apply State.putF_good
    | with_reducible apply State.supplyReady_good

theorem State.stopSupply_good {Q : Plat → Cfg → List Instr → Prop} {s : State} (h : s.Good Q) (n : Nat) :
    (State.stopSupply n s).Good Q := by
  unfold State.stopSupply
  repeat' first
    | with_reducible assumption
    | with_reducible apply State.setGs_good
    | with_reducible apply State.put_good
    | with_reducible apply State.supplyReady_good

theorem State.planChannel_good {Q : Plat → Cfg → List Instr → Prop} {s : State} (h : s.Good Q) (a : PlanAct) (n : Nat) :
    (State.planChannel a n s).Good Q := by
  unfold State.planChannel
  repeat' first
    | with_reducible assumption
    | (extract_lets +onlyGivenNames x; (first | (refine good_step (Q := Q) (x := x) ?_ ?_; (on_goal 1 => unfold x); on_goal 2 => (intro hx; try clear_value x)) | (refine good_step_fst (Q := Q) (x := x) ?_ ?_; (on_goal 1 => unfold x); on_goal 2 => (intro hx; try clear_value x)) | refine good_keepC (x := x) (fun _ => ?_) | refine good_keepS (x := x) (fun _ => ?_) | refine good_keepM (x := x) (fun _ => ?_) | refine good_keepR (x := x) (fun _ => ?_) | refine good_keepT (x := x) (fun _ => ?_) | refine good_keepN (x := x) (fun _ => ?_) | refine good_keepF (x := x) (fun _ => ?_) | refine good_keepG (x := x) (fun _ => ?_) | clear_value x | skip); all_goals (rename' x => y))
    | with_reducible apply State.setHb_good
    | with_reducible apply State.put_good
    | with_reducible apply State.chMod_good
    | with_reducible apply State.stopSupply_good
    | with_reducible apply State.keepSupply_good
    | with_reducible exact good_free (by with_reducible assumption) ..
    | split

theorem State.offLv_good {Q : Plat → Cfg → List Instr → Prop} {s : State} (h : s.Good Q) (n : Nat) :
    (State.offLv n s).Good Q := by
  unfold State.offLv
  repeat' first
    | with_reducible assumption
    | with_reducible apply State.setLv_good

theorem State.overrideGroup_good {Q : Plat → Cfg → List Instr → Prop} {s : State} (h : s.Good Q) (g : Nat) :
    (State.overrideGroup g s).Good Q := by
  unfold State.overrideGroup
  repeat' first
    | with_reducible assumption
    | (extract_lets +onlyGivenNames x; (first | (refine good_step (Q := Q) (x := x) ?_ ?_; (on_goal 1 => unfold x); on_goal 2 => (intro hx; try clear_value x)) | (refine good_step_fst (Q := Q) (x := x) ?_ ?_; (on_goal 1 => unfold x); on_goal 2 => (intro hx; try clear_value x)) | refine good_keepC (x := x) (fun _ => ?_) | refine good_keepS (x := x) (fun _ => ?_) | refine good_keepM (x := x) (fun _ => ?_) | refine good_keepR (x := x) (fun _ => ?_) | refine good_keepT (x := x) (fun _ => ?_) | refine good_keepN (x := x) (fun _ => ?_) | refine good_keepF (x := x) (fun _ => ?_) | refine good_keepG (x := x) (fun _ => ?_) | clear_value x | skip); all_goals (rename' x => y))
    | with_reducible apply good_ite
    | with_reducible apply State.put_good
    | split
    | apply good_ite

theorem State.offChannel_good {Q : Plat → Cfg → List Instr → Prop} {s : State} (h : s.Good Q) (n : Nat) :
    (State.offChannel n s).Good Q := by
  unfold State.offChannel
  repeat' first
    | with_reducible assumption
    | with_reducible apply State.planChannel_good

theorem State.keepChannel_good {Q : Plat → Cfg → List Instr → Prop} {s : State} (h : s.Good Q) (n : Nat) :
    (State.keepChannel n s).Good Q := by
  unfold State.keepChannel
  repeat' first
    | with_reducible assumption
    | (extract_lets +onlyGivenNames x; (first | (refine good_step (Q := Q) (x := x) ?_ ?_; (on_goal 1 => unfold x); on_goal 2 => (intro hx; try clear_value x)) | (refine good_step_fst (Q := Q) (x := x) ?_ ?_; (on_goal 1 => unfold x); on_goal 2 => (intro hx; try clear_value x)) | refine good_keepC (x := x) (fun _ => ?_) | refine good_keepS (x := x) (fun _ => ?_) | refine good_keepM (x := x) (fun _ => ?_) | refine good_keepR (x := x) (fun _ => ?_) | refine good_keepT (x := x) (fun _ => ?_) | refine good_keepN (x := x) (fun _ => ?_) | refine good_keepF (x := x) (fun _ => ?_) | refine good_keepG (x := x) (fun _ => ?_) | clear_value x | skip); all_goals (rename' x => y))
    | with_reducible apply State.planChannel_good
    | with_reducible exact good_free (by with_reducible assumption) ..
    | split

theorem State.planMachine_good {Q : Plat → Cfg → List Instr → Prop} {s : State} (h : s.Good Q) (m : Nat) :
    (State.planMachine m s).Good Q := by
  unfold State.planMachine
  repeat' first
    | with_reducible assumption
    | (intro x y hx; beta_reduce)
    | (intro x hx; beta_reduce)
    | (extract_lets +onlyGivenNames x; (first | (refine good_step (Q := Q) (x := x) ?_ ?_; (on_goal 1 => unfold x); on_goal 2 => (intro hx; try clear_value x)) | (refine good_step_fst (Q := Q) (x := x) ?_ ?_; (on_goal 1 => unfold x); on_goal 2 => (intro hx; try clear_value x)) | refine good_keepC (x := x) (fun _ => ?_) | refine good_keepS (x := x) (fun _ => ?_) | refine good_keepM (x := x) (fun _ => ?_) | refine good_keepR (x := x) (fun _ => ?_) | refine good_keepT (x := x) (fun _ => ?_) | refine good_keepN (x := x) (fun _ => ?_) | refine good_keepF (x := x) (fun _ => ?_) | refine good_keepG (x := x) (fun _ => ?_) | clear_value x | skip); all_goals (rename' x => y))
    | with_reducible apply good_ite
    | with_reducible apply good_forAll
    | with_reducible apply State.keepChannel_good
    | with_reducible apply State.planChannel_good
    | with_reducible exact good_free (by with_reducible assumption) ..
    | split
    | apply good_ite

theorem State.planFn_good {Q : Plat → Cfg → List Instr → Prop} {s : State} (h : s.Good Q) (f : Fn) :
    (State.planFn f s).Good Q := by
  unfold State.planFn
  repeat' first
    | with_reducible assumption
    | (intro x y hx; beta_reduce)
    | (intro x hx; beta_reduce)
    | (extract_lets +onlyGivenNames x; (first | (refine good_step (Q := Q) (x := x) ?_ ?_; (on_goal 1 => unfold x); on_goal 2 => (intro hx; try clear_value x)) | (refine good_step_fst (Q := Q) (x := x) ?_ ?_; (on_goal 1 => unfold x); on_goal 2 => (intro hx; try clear_value x)) | refine good_keepC (x := x) (fun _ => ?_) | refine good_keepS (x := x) (fun _ => ?_) | refine good_keepM (x := x) (fun _ => ?_) | refine good_keepR (x := x) (fun _ => ?_) | refine good_keepT (x := x) (fun _ => ?_) | refine good_keepN (x := x) (fun _ => ?_) | refine good_keepF (x := x) (fun _ => ?_) | refine good_keepG (x := x) (fun _ => ?_) | clear_value x | skip); all_goals (rename' x => y))
    | with_reducible apply good_forAll
    | with_reducible apply State.planMachine_good
    | with_reducible apply State.offChannel_good
    | with_reducible apply State.offLv_good
    | with_reducible apply State.soLow_good
    | with_reducible apply State.overrideGroup_good
    | with_reducible apply State.fnHeld_good
    | with_reducible exact good_free (by with_reducible assumption) ..
    | split

theorem State.planAll_good {Q : Plat → Cfg → List Instr → Prop} {s : State} (h : s.Good Q) :
    (State.planAll s).Good Q := by
  unfold State.planAll
  repeat' first
    | with_reducible assumption
    | (intro x y hx; beta_reduce)
    | (intro x hx; beta_reduce)
    | (extract_lets +onlyGivenNames x; (first | (refine good_step (Q := Q) (x := x) ?_ ?_; (on_goal 1 => unfold x); on_goal 2 => (intro hx; try clear_value x)) | (refine good_step_fst (Q := Q) (x := x) ?_ ?_; (on_goal 1 => unfold x); on_goal 2 => (intro hx; try clear_value x)) | refine good_keepC (x := x) (fun _ => ?_) | refine good_keepS (x := x) (fun _ => ?_) | refine good_keepM (x := x) (fun _ => ?_) | refine good_keepR (x := x) (fun _ => ?_) | refine good_keepT (x := x) (fun _ => ?_) | refine good_keepN (x := x) (fun _ => ?_) | refine good_keepF (x := x) (fun _ => ?_) | refine good_keepG (x := x) (fun _ => ?_) | clear_value x | skip); all_goals (rename' x => y))
    | with_reducible apply good_forAll
    | with_reducible apply good_foldl
    | with_reducible apply good_foldl_fst
    | with_reducible apply State.offChannel_good
    | with_reducible apply State.offLv_good
    | with_reducible apply State.soLow_good
    | with_reducible apply State.planMachine_good
    | with_reducible apply State.overrideGroup_good
    | with_reducible apply State.fnHeld_good

theorem State.record_good {Q : Plat → Cfg → List Instr → Prop} {s : State} (h : s.Good Q) (code inst : Nat) (whole masked : Bool) (fns : List Fn) (resetMs : Nat) :
    (State.record code inst whole masked fns resetMs s).Good Q := by
  unfold State.record
  repeat' first
    | with_reducible assumption
    | (extract_lets +onlyGivenNames x; (first | (refine good_step (Q := Q) (x := x) ?_ ?_; (on_goal 1 => unfold x); on_goal 2 => (intro hx; try clear_value x)) | (refine good_step_fst (Q := Q) (x := x) ?_ ?_; (on_goal 1 => unfold x); on_goal 2 => (intro hx; try clear_value x)) | refine good_keepC (x := x) (fun _ => ?_) | refine good_keepS (x := x) (fun _ => ?_) | refine good_keepM (x := x) (fun _ => ?_) | refine good_keepR (x := x) (fun _ => ?_) | refine good_keepT (x := x) (fun _ => ?_) | refine good_keepN (x := x) (fun _ => ?_) | refine good_keepF (x := x) (fun _ => ?_) | refine good_keepG (x := x) (fun _ => ?_) | clear_value x | skip); all_goals (rename' x => y))
    | with_reducible apply good_ite
    | with_reducible exact good_free (by with_reducible assumption) ..
    | split
    | apply good_ite

theorem State.cancelSwap_good {Q : Plat → Cfg → List Instr → Prop} {s : State} (h : s.Good Q) (code : Nat) :
    (State.cancelSwap code s).Good Q := by
  unfold State.cancelSwap
  repeat' first
    | with_reducible assumption
    | (intro x y hx; beta_reduce)
    | (intro x hx; beta_reduce)
    | (extract_lets +onlyGivenNames x; (first | (refine good_step (Q := Q) (x := x) ?_ ?_; (on_goal 1 => unfold x); on_goal 2 => (intro hx; try clear_value x)) | (refine good_step_fst (Q := Q) (x := x) ?_ ?_; (on_goal 1 => unfold x); on_goal 2 => (intro hx; try clear_value x)) | refine good_keepC (x := x) (fun _ => ?_) | refine good_keepS (x := x) (fun _ => ?_) | refine good_keepM (x := x) (fun _ => ?_) | refine good_keepR (x := x) (fun _ => ?_) | refine good_keepT (x := x) (fun _ => ?_) | refine good_keepN (x := x) (fun _ => ?_) | refine good_keepF (x := x) (fun _ => ?_) | refine good_keepG (x := x) (fun _ => ?_) | clear_value x | skip); all_goals (rename' x => y))
    | with_reducible apply good_ite
    | with_reducible apply good_forAll
    | with_reducible apply State.put_good
    | with_reducible apply State.log_good
    | with_reducible exact good_free (by with_reducible assumption) ..
    | with_reducible exact good_sw (by with_reducible assumption) rfl
    | split
    | apply good_ite

/-- Undoing the swap of the present tick keeps a sound state sound: nothing else of the plant, and no tick, changes. -/
theorem State.undoSwap_good {Q : Plat → Cfg → List Instr → Prop} {s : State} (h : s.Good Q) (code : Nat)
    (hQ : Undoable Q := by first | assumption | exact undoable_const) : (State.undoSwap code s).Good Q := by
  unfold State.undoSwap
  split
  · exact h
  · rename_i u hu
    split
    · rename_i ht
      extract_lets s1 s2
      have h0 : s.Good (fun w c p => w = s.plat ∧ c.undo = some u ∧ c.tick = s.tick ∧ p = s.pending) := h.mono ⟨rfl, hu, rfl, rfl⟩
      have h1 : s1.Good (fun w c p => w = s.plat ∧ c.undo = some u ∧ c.tick = s.tick ∧ p = s.pending) :=
        good_foldl (State.before_good (P := fun w o t p => w = s.plat ∧ o = some u ∧ t = s.tick ∧ p = s.pending) h0 u) (fun t a ht => State.put_good ht _ _)
      clear_value s1
      have h2 : s2.Good (fun w c p => w = s.plat ∧ c.undo = some u ∧ c.tick = s.tick ∧ p = s.pending) :=
        good_forAll h1 (fun n t ht => State.put_good ht _ _)
      clear_value s2
      have hp : Q s.plat ⟨s2.active, none, s.tick⟩ s.pending := by
        have hh := h.plant
        rw [State.cfg, hu, ← ht] at hh
        rw [← ht]
        exact hQ.undo _ _ _ _ _ hh
      obtain ⟨e1, -, e3, e4⟩ := h2.plant
      have h3 : State.Good Q { s2 with sw := { s2.sw with undo := none, unsaved := u.unsaved } } :=
        ⟨h2.live, h2.active, h2.shadow, h2.mem, h2.hb, h2.lv, h2.gs, h2.tb, h2.can, h2.delayed, h2.queue, h2.ring, h2.store, h2.sess, h2.canq, by
          change Q s2.plat ⟨s2.active, none, s2.tick⟩ s2.pending
          have e : s2.tick = s.tick := e3
          rw [e1, e4, e]
          exact hp⟩
      exact State.log_good (State.put_good h3 _ _) _ _ _ _ _
    · exact h

theorem State.swapLoses_good {Q : Plat → Cfg → List Instr → Prop} {s : State} (h : s.Good Q)  (hQ : Undoable Q := by first | assumption | exact undoable_const) :
    (State.swapLoses s).Good Q := by
  unfold State.swapLoses
  repeat' first
    | with_reducible assumption
    | with_reducible apply State.undoSwap_good
    | with_reducible apply State.cancelSwap_good

theorem State.abandonRequest_good {Q : Plat → Cfg → List Instr → Prop} {s : State} (h : s.Good Q) :
    (State.abandonRequest s).Good Q := by
  unfold State.abandonRequest
  repeat' first
    | with_reducible assumption
    | (extract_lets +onlyGivenNames x; (first | (refine good_step (Q := Q) (x := x) ?_ ?_; (on_goal 1 => unfold x); on_goal 2 => (intro hx; try clear_value x)) | (refine good_step_fst (Q := Q) (x := x) ?_ ?_; (on_goal 1 => unfold x); on_goal 2 => (intro hx; try clear_value x)) | refine good_keepC (x := x) (fun _ => ?_) | refine good_keepS (x := x) (fun _ => ?_) | refine good_keepM (x := x) (fun _ => ?_) | refine good_keepR (x := x) (fun _ => ?_) | refine good_keepT (x := x) (fun _ => ?_) | refine good_keepN (x := x) (fun _ => ?_) | refine good_keepF (x := x) (fun _ => ?_) | refine good_keepG (x := x) (fun _ => ?_) | clear_value x | skip); all_goals (rename' x => y))
    | with_reducible apply good_ite
    | with_reducible apply State.put_good
    | with_reducible exact good_free (by with_reducible assumption) ..
    | split
    | apply good_ite

theorem State.enterM9_good {Q : Plat → Cfg → List Instr → Prop} {s : State} (h : s.Good Q) (cause : Nat) :
    (State.enterM9 cause s).Good Q := by
  unfold State.enterM9
  repeat' first
    | with_reducible assumption
    | (extract_lets +onlyGivenNames x; (first | (refine good_step (Q := Q) (x := x) ?_ ?_; (on_goal 1 => unfold x); on_goal 2 => (intro hx; try clear_value x)) | (refine good_step_fst (Q := Q) (x := x) ?_ ?_; (on_goal 1 => unfold x); on_goal 2 => (intro hx; try clear_value x)) | refine good_keepC (x := x) (fun _ => ?_) | refine good_keepS (x := x) (fun _ => ?_) | refine good_keepM (x := x) (fun _ => ?_) | refine good_keepR (x := x) (fun _ => ?_) | refine good_keepT (x := x) (fun _ => ?_) | refine good_keepN (x := x) (fun _ => ?_) | refine good_keepF (x := x) (fun _ => ?_) | refine good_keepG (x := x) (fun _ => ?_) | clear_value x | skip); all_goals (rename' x => y))
    | with_reducible apply good_ite
    | with_reducible apply State.abandonRequest_good
    | with_reducible apply State.put_good
    | with_reducible apply State.incSat_good
    | with_reducible apply State.log_good
    | split
    | apply good_ite

theorem State.holdBy_good {Q : Plat → Cfg → List Instr → Prop} {s : State} (h : s.Good Q) (code : Nat) :
    (State.holdBy code s).Good Q := by
  unfold State.holdBy
  repeat' first
    | with_reducible assumption
    | (extract_lets +onlyGivenNames x; (first | (refine good_step (Q := Q) (x := x) ?_ ?_; (on_goal 1 => unfold x); on_goal 2 => (intro hx; try clear_value x)) | (refine good_step_fst (Q := Q) (x := x) ?_ ?_; (on_goal 1 => unfold x); on_goal 2 => (intro hx; try clear_value x)) | refine good_keepC (x := x) (fun _ => ?_) | refine good_keepS (x := x) (fun _ => ?_) | refine good_keepM (x := x) (fun _ => ?_) | refine good_keepR (x := x) (fun _ => ?_) | refine good_keepT (x := x) (fun _ => ?_) | refine good_keepN (x := x) (fun _ => ?_) | refine good_keepF (x := x) (fun _ => ?_) | refine good_keepG (x := x) (fun _ => ?_) | clear_value x | skip); all_goals (rename' x => y))
    | with_reducible apply good_ite
    | with_reducible exact good_free (by with_reducible assumption) ..
    | split
    | apply good_ite

theorem State.trigger_good {Q : Plat → Cfg → List Instr → Prop} {s : State} (h : s.Good Q) (code inst : Nat) (masked : Bool) (hQ : Undoable Q := by first | assumption | exact undoable_const) :
    (State.trigger code inst masked s).Good Q := by
  unfold State.trigger
  repeat' first
    | with_reducible assumption
    | (extract_lets +onlyGivenNames x; (first | (refine good_step (Q := Q) (x := x) ?_ ?_; (on_goal 1 => unfold x); on_goal 2 => (intro hx; try clear_value x)) | (refine good_step_fst (Q := Q) (x := x) ?_ ?_; (on_goal 1 => unfold x); on_goal 2 => (intro hx; try clear_value x)) | refine good_keepC (x := x) (fun _ => ?_) | refine good_keepS (x := x) (fun _ => ?_) | refine good_keepM (x := x) (fun _ => ?_) | refine good_keepR (x := x) (fun _ => ?_) | refine good_keepT (x := x) (fun _ => ?_) | refine good_keepN (x := x) (fun _ => ?_) | refine good_keepF (x := x) (fun _ => ?_) | refine good_keepG (x := x) (fun _ => ?_) | clear_value x | skip); all_goals (rename' x => y))
    | with_reducible apply good_ite
    | with_reducible apply State.record_good
    | with_reducible apply State.swapLoses_good
    | with_reducible apply State.mtrClose_good
    | with_reducible apply State.planAll_good
    | with_reducible apply State.holdBy_good
    | with_reducible apply State.enterM9_good
    | with_reducible exact good_free (by with_reducible assumption) ..
    | split
    | apply good_ite

theorem State.swapYields_good {Q : Plat → Cfg → List Instr → Prop} {s : State} (h : s.Good Q) (fns : List Fn) (hQ : Undoable Q := by first | assumption | exact undoable_const) :
    (State.swapYields fns s).Good Q := by
  unfold State.swapYields
  repeat' first
    | with_reducible assumption
    | (extract_lets +onlyGivenNames x; (first | (refine good_step (Q := Q) (x := x) ?_ ?_; (on_goal 1 => unfold x); on_goal 2 => (intro hx; try clear_value x)) | (refine good_step_fst (Q := Q) (x := x) ?_ ?_; (on_goal 1 => unfold x); on_goal 2 => (intro hx; try clear_value x)) | refine good_keepC (x := x) (fun _ => ?_) | refine good_keepS (x := x) (fun _ => ?_) | refine good_keepM (x := x) (fun _ => ?_) | refine good_keepR (x := x) (fun _ => ?_) | refine good_keepT (x := x) (fun _ => ?_) | refine good_keepN (x := x) (fun _ => ?_) | refine good_keepF (x := x) (fun _ => ?_) | refine good_keepG (x := x) (fun _ => ?_) | clear_value x | skip); all_goals (rename' x => y))
    | with_reducible apply good_ite
    | with_reducible apply State.undoSwap_good
    | with_reducible apply State.cancelSwap_good
    | split
    | apply good_ite

theorem State.triggerSafe_good {Q : Plat → Cfg → List Instr → Prop} {s : State} (h : s.Good Q) (code inst : Nat) (masked : Bool) (hQ : Undoable Q := by first | assumption | exact undoable_const) :
    (State.triggerSafe code inst masked s).Good Q := by
  unfold State.triggerSafe
  repeat' first
    | with_reducible assumption
    | (intro x y hx; beta_reduce)
    | (intro x hx; beta_reduce)
    | (extract_lets +onlyGivenNames x; (first | (refine good_step (Q := Q) (x := x) ?_ ?_; (on_goal 1 => unfold x); on_goal 2 => (intro hx; try clear_value x)) | (refine good_step_fst (Q := Q) (x := x) ?_ ?_; (on_goal 1 => unfold x); on_goal 2 => (intro hx; try clear_value x)) | refine good_keepC (x := x) (fun _ => ?_) | refine good_keepS (x := x) (fun _ => ?_) | refine good_keepM (x := x) (fun _ => ?_) | refine good_keepR (x := x) (fun _ => ?_) | refine good_keepT (x := x) (fun _ => ?_) | refine good_keepN (x := x) (fun _ => ?_) | refine good_keepF (x := x) (fun _ => ?_) | refine good_keepG (x := x) (fun _ => ?_) | clear_value x | skip); all_goals (rename' x => y))
    | with_reducible apply good_ite
    | with_reducible apply good_foldl
    | with_reducible apply good_foldl_fst
    | with_reducible apply State.record_good
    | with_reducible apply State.swapYields_good
    | with_reducible apply State.planFn_good
    | with_reducible apply State.holdBy_good
    | with_reducible exact good_free (by with_reducible assumption) ..
    | split
    | apply good_ite

theorem State.raiseWith_good {Q : Plat → Cfg → List Instr → Prop} {s : State} (h : s.Good Q) (code inst : Nat) (injected masked : Bool) (hQ : Undoable Q := by first | assumption | exact undoable_const) :
    (State.raiseWith code inst injected masked s).Good Q := by
  unfold State.raiseWith
  repeat' first
    | with_reducible assumption
    | (extract_lets +onlyGivenNames x; (first | (refine good_step (Q := Q) (x := x) ?_ ?_; (on_goal 1 => unfold x); on_goal 2 => (intro hx; try clear_value x)) | (refine good_step_fst (Q := Q) (x := x) ?_ ?_; (on_goal 1 => unfold x); on_goal 2 => (intro hx; try clear_value x)) | refine good_keepC (x := x) (fun _ => ?_) | refine good_keepS (x := x) (fun _ => ?_) | refine good_keepM (x := x) (fun _ => ?_) | refine good_keepR (x := x) (fun _ => ?_) | refine good_keepT (x := x) (fun _ => ?_) | refine good_keepN (x := x) (fun _ => ?_) | refine good_keepF (x := x) (fun _ => ?_) | refine good_keepG (x := x) (fun _ => ?_) | clear_value x | skip); all_goals (rename' x => y))
    | with_reducible apply good_ite
    | with_reducible apply State.collect_good
    | with_reducible apply State.trigger_good
    | with_reducible apply State.triggerSafe_good
    | with_reducible exact good_free (by with_reducible assumption) ..
    | split
    | apply good_ite

theorem State.raise_good {Q : Plat → Cfg → List Instr → Prop} {s : State} (h : s.Good Q) (code inst : Nat) (hQ : Undoable Q := by first | assumption | exact undoable_const) :
    (State.raise code inst s).Good Q := by
  unfold State.raise
  repeat' first
    | with_reducible assumption
    | with_reducible apply State.raiseWith_good

theorem State.clockLost_good {P : Cfg → List Instr → Prop} {s : State} (h : s.Good (fun _ a p => P a p)) (pll : Nat) (hQ : Undoable (fun _ a p => P a p) := by first | assumption | exact undoable_const) :
    (State.clockLost pll s).Good (fun _ a p => P a p) := by
  unfold State.clockLost
  repeat' first
    | with_reducible assumption
    | (extract_lets +onlyGivenNames x; (first | (refine good_step (Q := (fun _ a p => P a p)) (x := x) ?_ ?_; (on_goal 1 => unfold x); on_goal 2 => (intro hx; try clear_value x)) | (refine good_step_fst (Q := (fun _ a p => P a p)) (x := x) ?_ ?_; (on_goal 1 => unfold x); on_goal 2 => (intro hx; try clear_value x)) | refine good_keepC (x := x) (fun _ => ?_) | refine good_keepS (x := x) (fun _ => ?_) | refine good_keepM (x := x) (fun _ => ?_) | refine good_keepR (x := x) (fun _ => ?_) | refine good_keepT (x := x) (fun _ => ?_) | refine good_keepN (x := x) (fun _ => ?_) | refine good_keepF (x := x) (fun _ => ?_) | refine good_keepG (x := x) (fun _ => ?_) | clear_value x | skip); all_goals (rename' x => y))
    | with_reducible apply good_ite
    | with_reducible apply State.put_good
    | with_reducible apply State.incSat_good
    | with_reducible apply State.trigger_good
    | with_reducible refine good_plat (by with_reducible assumption) ?_
    | with_reducible exact good_free (by with_reducible assumption) ..
    | with_reducible exact good_freeP (by with_reducible assumption) ..
    | split
    | exact State.Good.plant (by with_reducible assumption)
    | apply good_ite

theorem State.coreUv_good {Q : Plat → Cfg → List Instr → Prop} {s : State} (h : s.Good Q)  (hQ : Undoable Q := by first | assumption | exact undoable_const) :
    (State.coreUv s).Good Q := by
  unfold State.coreUv
  repeat' first
    | with_reducible assumption
    | (extract_lets +onlyGivenNames x; (first | (refine good_step (Q := Q) (x := x) ?_ ?_; (on_goal 1 => unfold x); on_goal 2 => (intro hx; try clear_value x)) | (refine good_step_fst (Q := Q) (x := x) ?_ ?_; (on_goal 1 => unfold x); on_goal 2 => (intro hx; try clear_value x)) | refine good_keepC (x := x) (fun _ => ?_) | refine good_keepS (x := x) (fun _ => ?_) | refine good_keepM (x := x) (fun _ => ?_) | refine good_keepR (x := x) (fun _ => ?_) | refine good_keepT (x := x) (fun _ => ?_) | refine good_keepN (x := x) (fun _ => ?_) | refine good_keepF (x := x) (fun _ => ?_) | refine good_keepG (x := x) (fun _ => ?_) | clear_value x | skip); all_goals (rename' x => y))
    | with_reducible apply good_ite
    | with_reducible apply State.trigger_good
    | with_reducible exact good_free (by with_reducible assumption) ..
    | split
    | apply good_ite

theorem State.watchdogExpired_good {Q : Plat → Cfg → List Instr → Prop} {s : State} (h : s.Good Q)  (hQ : Undoable Q := by first | assumption | exact undoable_const) :
    (State.watchdogExpired s).Good Q := by
  unfold State.watchdogExpired
  repeat' first
    | with_reducible assumption
    | (extract_lets +onlyGivenNames x; (first | (refine good_step (Q := Q) (x := x) ?_ ?_; (on_goal 1 => unfold x); on_goal 2 => (intro hx; try clear_value x)) | (refine good_step_fst (Q := Q) (x := x) ?_ ?_; (on_goal 1 => unfold x); on_goal 2 => (intro hx; try clear_value x)) | refine good_keepC (x := x) (fun _ => ?_) | refine good_keepS (x := x) (fun _ => ?_) | refine good_keepM (x := x) (fun _ => ?_) | refine good_keepR (x := x) (fun _ => ?_) | refine good_keepT (x := x) (fun _ => ?_) | refine good_keepN (x := x) (fun _ => ?_) | refine good_keepF (x := x) (fun _ => ?_) | refine good_keepG (x := x) (fun _ => ?_) | clear_value x | skip); all_goals (rename' x => y))
    | with_reducible apply good_ite
    | with_reducible apply State.incSat_good
    | with_reducible apply State.raise_good
    | with_reducible exact good_free (by with_reducible assumption) ..
    | split
    | apply good_ite

theorem State.watchdogServiced_good {Q : Plat → Cfg → List Instr → Prop} {s : State} (h : s.Good Q) (sinceUs : Nat) (hQ : Undoable Q := by first | assumption | exact undoable_const) :
    (State.watchdogServiced sinceUs s).Good Q := by
  unfold State.watchdogServiced
  repeat' first
    | with_reducible assumption
    | (extract_lets +onlyGivenNames x; (first | (refine good_step (Q := Q) (x := x) ?_ ?_; (on_goal 1 => unfold x); on_goal 2 => (intro hx; try clear_value x)) | (refine good_step_fst (Q := Q) (x := x) ?_ ?_; (on_goal 1 => unfold x); on_goal 2 => (intro hx; try clear_value x)) | refine good_keepC (x := x) (fun _ => ?_) | refine good_keepS (x := x) (fun _ => ?_) | refine good_keepM (x := x) (fun _ => ?_) | refine good_keepR (x := x) (fun _ => ?_) | refine good_keepT (x := x) (fun _ => ?_) | refine good_keepN (x := x) (fun _ => ?_) | refine good_keepF (x := x) (fun _ => ?_) | refine good_keepG (x := x) (fun _ => ?_) | clear_value x | skip); all_goals (rename' x => y))
    | with_reducible apply good_ite
    | with_reducible apply State.watchdogExpired_good
    | with_reducible exact good_free (by with_reducible assumption) ..
    | split
    | apply good_ite

theorem State.keeperUv_good {Q : Plat → Cfg → List Instr → Prop} {s : State} (h : s.Good Q) (n : Nat) :
    (State.keeperUv n s).Good Q := by
  unfold State.keeperUv
  repeat' first
    | with_reducible assumption
    | with_reducible apply good_ite
    | with_reducible apply State.record_good
    | split
    | apply good_ite

end Sys2Proof.Machine
end

