-- ==== Sys2Proof/Laws/Sound/Pwm.lean ====
section
/-! SUPPORT. Every operation of Machine/Pwm.lean keeps a sound state sound. -/

set_option linter.unusedTactic false
set_option linter.unreachableTactic false
set_option linter.unusedVariables false
set_option linter.tactic.unusedName false

namespace Sys2Proof.Machine

theorem State.emit_good {Q : Plat → Cfg → List Instr → Prop} {s : State} (h : s.Good Q) (c f new next : Nat) :
    (State.emit c f new next s).Good Q := by
  unfold State.emit
  repeat' first
    | with_reducible assumption
    | (extract_lets +onlyGivenNames x; (first | (refine good_step (Q := Q) (x := x) ?_ ?_; (on_goal 1 => unfold x); on_goal 2 => (intro hx; try clear_value x)) | (refine good_step_fst (Q := Q) (x := x) ?_ ?_; (on_goal 1 => unfold x); on_goal 2 => (intro hx; try clear_value x)) | refine good_keepC (x := x) (fun _ => ?_) | refine good_keepS (x := x) (fun _ => ?_) | refine good_keepM (x := x) (fun _ => ?_) | refine good_keepR (x := x) (fun _ => ?_) | refine good_keepT (x := x) (fun _ => ?_) | refine good_keepN (x := x) (fun _ => ?_) | refine good_keepF (x := x) (fun _ => ?_) | refine good_keepG (x := x) (fun _ => ?_) | clear_value x | skip); all_goals (rename' x => y))
    | with_reducible apply good_ite
    | with_reducible apply State.switchTo_good
    | split
    | apply good_ite

theorem State.callFor_good {Q : Plat → Cfg → List Instr → Prop} {s : State} (h : s.Good Q) (g c f q st : Nat) (rest : List Ahead) :
    (State.callFor g c f q st rest s).Good Q := by
  unfold State.callFor
  repeat' first
    | with_reducible assumption
    | (extract_lets +onlyGivenNames x; (first | (refine good_step (Q := Q) (x := x) ?_ ?_; (on_goal 1 => unfold x); on_goal 2 => (intro hx; try clear_value x)) | (refine good_step_fst (Q := Q) (x := x) ?_ ?_; (on_goal 1 => unfold x); on_goal 2 => (intro hx; try clear_value x)) | refine good_keepC (x := x) (fun _ => ?_) | refine good_keepS (x := x) (fun _ => ?_) | refine good_keepM (x := x) (fun _ => ?_) | refine good_keepR (x := x) (fun _ => ?_) | refine good_keepT (x := x) (fun _ => ?_) | refine good_keepN (x := x) (fun _ => ?_) | refine good_keepF (x := x) (fun _ => ?_) | refine good_keepG (x := x) (fun _ => ?_) | clear_value x | skip); all_goals (rename' x => y))
    | with_reducible apply good_ite
    | with_reducible apply State.chMod_good
    | with_reducible apply State.incSat_good
    | with_reducible apply State.emit_good
    | with_reducible exact good_free (by with_reducible assumption) ..
    | split
    | apply good_ite

theorem State.cross_good {Q : Plat → Cfg → List Instr → Prop} {s : State} (h : s.Good Q) (g c f : Nat) (e : Ahead) (rest : List Ahead) :
    (State.cross g c f e rest s).Good Q := by
  unfold State.cross
  repeat' first
    | with_reducible assumption
    | (extract_lets +onlyGivenNames x; (first | (refine good_step (Q := Q) (x := x) ?_ ?_; (on_goal 1 => unfold x); on_goal 2 => (intro hx; try clear_value x)) | (refine good_step_fst (Q := Q) (x := x) ?_ ?_; (on_goal 1 => unfold x); on_goal 2 => (intro hx; try clear_value x)) | refine good_keepC (x := x) (fun _ => ?_) | refine good_keepS (x := x) (fun _ => ?_) | refine good_keepM (x := x) (fun _ => ?_) | refine good_keepR (x := x) (fun _ => ?_) | refine good_keepT (x := x) (fun _ => ?_) | refine good_keepN (x := x) (fun _ => ?_) | refine good_keepF (x := x) (fun _ => ?_) | refine good_keepG (x := x) (fun _ => ?_) | clear_value x | skip); all_goals (rename' x => y))
    | with_reducible apply good_ite
    | with_reducible apply State.chMod_good
    | with_reducible apply State.callFor_good
    | with_reducible exact good_free (by with_reducible assumption) ..
    | split
    | apply good_ite

theorem State.chanSpan_good {Q : Plat → Cfg → List Instr → Prop} {s : State} (h : s.Good Q) (g k c a b : Nat) (feOf : Nat → Nat) :
    (State.chanSpan g k c a b feOf s).Good Q := by
  unfold State.chanSpan
  repeat' first
    | with_reducible assumption
    | (intro x y hx; beta_reduce)
    | (intro x hx; beta_reduce)
    | (extract_lets +onlyGivenNames x; (first | (refine good_step (Q := Q) (x := x) ?_ ?_; (on_goal 1 => unfold x); on_goal 2 => (intro hx; try clear_value x)) | (refine good_step_fst (Q := Q) (x := x) ?_ ?_; (on_goal 1 => unfold x); on_goal 2 => (intro hx; try clear_value x)) | refine good_keepC (x := x) (fun _ => ?_) | refine good_keepS (x := x) (fun _ => ?_) | refine good_keepM (x := x) (fun _ => ?_) | refine good_keepR (x := x) (fun _ => ?_) | refine good_keepT (x := x) (fun _ => ?_) | refine good_keepN (x := x) (fun _ => ?_) | refine good_keepF (x := x) (fun _ => ?_) | refine good_keepG (x := x) (fun _ => ?_) | clear_value x | skip); all_goals (rename' x => y))
    | with_reducible apply good_foldl
    | with_reducible apply good_foldl_fst
    | with_reducible apply State.cross_good

theorem State.span_good {Q : Plat → Cfg → List Instr → Prop} {s : State} (h : s.Good Q) (g a b : Nat) (feOf : Nat → Nat) :
    (State.span g a b feOf s).Good Q := by
  unfold State.span
  repeat' first
    | with_reducible assumption
    | (intro x y hx; beta_reduce)
    | (intro x hx; beta_reduce)
    | with_reducible apply good_ite
    | with_reducible apply good_foldl
    | with_reducible apply good_foldl_fst
    | with_reducible apply State.chanSpan_good
    | split
    | apply good_ite

theorem State.obsMod_good {Q : Plat → Cfg → List Instr → Prop} {s : State} (h : s.Good Q) (o : Nat) (f : ObsX → ObsX) :
    (State.obsMod o f s).Good Q := by
  unfold State.obsMod
  repeat' first
    | with_reducible assumption
    | (extract_lets +onlyGivenNames x; (first | (refine good_step (Q := Q) (x := x) ?_ ?_; (on_goal 1 => unfold x); on_goal 2 => (intro hx; try clear_value x)) | (refine good_step_fst (Q := Q) (x := x) ?_ ?_; (on_goal 1 => unfold x); on_goal 2 => (intro hx; try clear_value x)) | refine good_keepC (x := x) (fun _ => ?_) | refine good_keepS (x := x) (fun _ => ?_) | refine good_keepM (x := x) (fun _ => ?_) | refine good_keepR (x := x) (fun _ => ?_) | refine good_keepT (x := x) (fun _ => ?_) | refine good_keepN (x := x) (fun _ => ?_) | refine good_keepF (x := x) (fun _ => ?_) | refine good_keepG (x := x) (fun _ => ?_) | clear_value x | skip); all_goals (rename' x => y))
    | with_reducible exact good_free (by with_reducible assumption) ..

theorem State.promote_good {Q : Plat → Cfg → List Instr → Prop} {s : State} (h : s.Good Q) (g : Nat) :
    (State.promote g s).Good Q := by
  unfold State.promote
  repeat' first
    | with_reducible assumption
    | (extract_lets +onlyGivenNames x; (first | (refine good_step (Q := Q) (x := x) ?_ ?_; (on_goal 1 => unfold x); on_goal 2 => (intro hx; try clear_value x)) | (refine good_step_fst (Q := Q) (x := x) ?_ ?_; (on_goal 1 => unfold x); on_goal 2 => (intro hx; try clear_value x)) | refine good_keepC (x := x) (fun _ => ?_) | refine good_keepS (x := x) (fun _ => ?_) | refine good_keepM (x := x) (fun _ => ?_) | refine good_keepR (x := x) (fun _ => ?_) | refine good_keepT (x := x) (fun _ => ?_) | refine good_keepN (x := x) (fun _ => ?_) | refine good_keepF (x := x) (fun _ => ?_) | refine good_keepG (x := x) (fun _ => ?_) | clear_value x | skip); all_goals (rename' x => y))
    | with_reducible apply good_ite
    | with_reducible apply State.grpMod_good
    | with_reducible exact good_free (by with_reducible assumption) ..
    | split
    | apply good_ite

theorem State.commit_good {Q : Plat → Cfg → List Instr → Prop} {s : State} (h : s.Good Q) (g : Nat) :
    (State.commit g s).Good Q := by
  unfold State.commit
  repeat' first
    | with_reducible assumption
    | (extract_lets +onlyGivenNames x; (first | (refine good_step (Q := Q) (x := x) ?_ ?_; (on_goal 1 => unfold x); on_goal 2 => (intro hx; try clear_value x)) | (refine good_step_fst (Q := Q) (x := x) ?_ ?_; (on_goal 1 => unfold x); on_goal 2 => (intro hx; try clear_value x)) | refine good_keepC (x := x) (fun _ => ?_) | refine good_keepS (x := x) (fun _ => ?_) | refine good_keepM (x := x) (fun _ => ?_) | refine good_keepR (x := x) (fun _ => ?_) | refine good_keepT (x := x) (fun _ => ?_) | refine good_keepN (x := x) (fun _ => ?_) | refine good_keepF (x := x) (fun _ => ?_) | refine good_keepG (x := x) (fun _ => ?_) | clear_value x | skip); all_goals (rename' x => y))
    | with_reducible apply State.promote_good
    | with_reducible apply State.grpMod_good
    | with_reducible exact good_free (by with_reducible assumption) ..

theorem State.commitNow_good {Q : Plat → Cfg → List Instr → Prop} {s : State} (h : s.Good Q) (g : Nat) :
    (State.commitNow g s).Good Q := by
  unfold State.commitNow
  repeat' first
    | with_reducible assumption
    | (extract_lets +onlyGivenNames x; (first | (refine good_step (Q := Q) (x := x) ?_ ?_; (on_goal 1 => unfold x); on_goal 2 => (intro hx; try clear_value x)) | (refine good_step_fst (Q := Q) (x := x) ?_ ?_; (on_goal 1 => unfold x); on_goal 2 => (intro hx; try clear_value x)) | refine good_keepC (x := x) (fun _ => ?_) | refine good_keepS (x := x) (fun _ => ?_) | refine good_keepM (x := x) (fun _ => ?_) | refine good_keepR (x := x) (fun _ => ?_) | refine good_keepT (x := x) (fun _ => ?_) | refine good_keepN (x := x) (fun _ => ?_) | refine good_keepF (x := x) (fun _ => ?_) | refine good_keepG (x := x) (fun _ => ?_) | clear_value x | skip); all_goals (rename' x => y))
    | with_reducible apply State.promote_good
    | with_reducible apply State.grpMod_good
    | with_reducible exact good_free (by with_reducible assumption) ..

theorem State.takeSet_good {Q : Plat → Cfg → List Instr → Prop} {s : State} (h : s.Good Q) (g : Nat) (hQ : Undoable Q := by first | assumption | exact undoable_const) :
    (State.takeSet g s).Good Q := by
  unfold State.takeSet
  repeat' first
    | with_reducible assumption
    | (extract_lets +onlyGivenNames x; (first | (refine good_step (Q := Q) (x := x) ?_ ?_; (on_goal 1 => unfold x); on_goal 2 => (intro hx; try clear_value x)) | (refine good_step_fst (Q := Q) (x := x) ?_ ?_; (on_goal 1 => unfold x); on_goal 2 => (intro hx; try clear_value x)) | refine good_keepC (x := x) (fun _ => ?_) | refine good_keepS (x := x) (fun _ => ?_) | refine good_keepM (x := x) (fun _ => ?_) | refine good_keepR (x := x) (fun _ => ?_) | refine good_keepT (x := x) (fun _ => ?_) | refine good_keepN (x := x) (fun _ => ?_) | refine good_keepF (x := x) (fun _ => ?_) | refine good_keepG (x := x) (fun _ => ?_) | clear_value x | skip); all_goals (rename' x => y))
    | with_reducible apply good_ite
    | with_reducible apply State.promote_good
    | with_reducible apply State.incSat_good
    | with_reducible apply State.raise_good
    | with_reducible apply State.fresh_good
    | with_reducible apply State.grpMod_good
    | with_reducible apply State.put_good
    | with_reducible exact good_free (by with_reducible assumption) ..
    | split
    | apply good_ite

theorem State.loadChan_good {Q : Plat → Cfg → List Instr → Prop} {s : State} (h : s.Good Q) (g k c u f : Nat) (afresh start : Bool) :
    (State.loadChan g k c u f afresh start s).Good Q := by
  unfold State.loadChan
  repeat' first
    | with_reducible assumption
    | (intro x y hx; beta_reduce)
    | (intro x hx; beta_reduce)
    | (extract_lets +onlyGivenNames x; (first | (refine good_step (Q := Q) (x := x) ?_ ?_; (on_goal 1 => unfold x); on_goal 2 => (intro hx; try clear_value x)) | (refine good_step_fst (Q := Q) (x := x) ?_ ?_; (on_goal 1 => unfold x); on_goal 2 => (intro hx; try clear_value x)) | refine good_keepC (x := x) (fun _ => ?_) | refine good_keepS (x := x) (fun _ => ?_) | refine good_keepM (x := x) (fun _ => ?_) | refine good_keepR (x := x) (fun _ => ?_) | refine good_keepT (x := x) (fun _ => ?_) | refine good_keepN (x := x) (fun _ => ?_) | refine good_keepF (x := x) (fun _ => ?_) | refine good_keepG (x := x) (fun _ => ?_) | clear_value x | skip); all_goals (rename' x => y))
    | with_reducible apply good_ite
    | with_reducible apply good_foldl
    | with_reducible apply good_foldl_fst
    | with_reducible apply State.chMod_good
    | with_reducible apply State.callFor_good
    | with_reducible exact good_free (by with_reducible assumption) ..
    | split
    | apply good_ite

theorem State.loadChans_good {Q : Plat → Cfg → List Instr → Prop} {s : State} (h : s.Good Q) (g u f : Nat) (afresh start : Bool) :
    (State.loadChans g u f afresh start s).Good Q := by
  unfold State.loadChans
  repeat' first
    | with_reducible assumption
    | (intro x y hx; beta_reduce)
    | (intro x hx; beta_reduce)
    | with_reducible apply good_ite
    | with_reducible apply good_foldl
    | with_reducible apply good_foldl_fst
    | with_reducible apply State.loadChan_good
    | split
    | apply good_ite

theorem State.loadAt_good {Q : Plat → Cfg → List Instr → Prop} {s : State} (h : s.Good Q) (g u f : Nat) (hQ : Undoable Q := by first | assumption | exact undoable_const) :
    (State.loadAt g u f s).Good Q := by
  unfold State.loadAt
  repeat' first
    | with_reducible assumption
    | (extract_lets +onlyGivenNames x; (first | (refine good_step (Q := Q) (x := x) ?_ ?_; (on_goal 1 => unfold x); on_goal 2 => (intro hx; try clear_value x)) | (refine good_step_fst (Q := Q) (x := x) ?_ ?_; (on_goal 1 => unfold x); on_goal 2 => (intro hx; try clear_value x)) | refine good_keepC (x := x) (fun _ => ?_) | refine good_keepS (x := x) (fun _ => ?_) | refine good_keepM (x := x) (fun _ => ?_) | refine good_keepR (x := x) (fun _ => ?_) | refine good_keepT (x := x) (fun _ => ?_) | refine good_keepN (x := x) (fun _ => ?_) | refine good_keepF (x := x) (fun _ => ?_) | refine good_keepG (x := x) (fun _ => ?_) | clear_value x | skip); all_goals (rename' x => y))
    | with_reducible apply good_ite
    | with_reducible apply State.promote_good
    | with_reducible apply State.takeSet_good
    | with_reducible apply State.loadChans_good
    | split
    | apply good_ite

theorem State.loadGroup_good {Q : Plat → Cfg → List Instr → Prop} {s : State} (h : s.Good Q) (g : Nat) (hQ : Undoable Q := by first | assumption | exact undoable_const) :
    (State.loadGroup g s).Good Q := by
  unfold State.loadGroup
  repeat' first
    | with_reducible assumption
    | with_reducible apply State.loadAt_good

theorem State.resync_good {Q : Plat → Cfg → List Instr → Prop} {s : State} (h : s.Good Q) (g u f : Nat) :
    (State.resync g u f s).Good Q := by
  unfold State.resync
  repeat' first
    | with_reducible assumption
    | with_reducible apply State.loadChans_good

theorem State.chanOff_good {Q : Plat → Cfg → List Instr → Prop} {s : State} (h : s.Good Q) (c : Nat) :
    (State.chanOff c s).Good Q := by
  unfold State.chanOff
  repeat' first
    | with_reducible assumption
    | (extract_lets +onlyGivenNames x; (first | (refine good_step (Q := Q) (x := x) ?_ ?_; (on_goal 1 => unfold x); on_goal 2 => (intro hx; try clear_value x)) | (refine good_step_fst (Q := Q) (x := x) ?_ ?_; (on_goal 1 => unfold x); on_goal 2 => (intro hx; try clear_value x)) | refine good_keepC (x := x) (fun _ => ?_) | refine good_keepS (x := x) (fun _ => ?_) | refine good_keepM (x := x) (fun _ => ?_) | refine good_keepR (x := x) (fun _ => ?_) | refine good_keepT (x := x) (fun _ => ?_) | refine good_keepN (x := x) (fun _ => ?_) | refine good_keepF (x := x) (fun _ => ?_) | refine good_keepG (x := x) (fun _ => ?_) | clear_value x | skip); all_goals (rename' x => y))
    | with_reducible apply good_ite
    | with_reducible apply State.setDrive_good
    | with_reducible apply State.chMod_good
    | with_reducible apply State.put_good
    | with_reducible exact good_free (by with_reducible assumption) ..
    | split
    | apply good_ite

theorem State.groupOff_good {Q : Plat → Cfg → List Instr → Prop} {s : State} (h : s.Good Q) (g : Nat) :
    (State.groupOff g s).Good Q := by
  unfold State.groupOff
  repeat' first
    | with_reducible assumption
    | (intro x y hx; beta_reduce)
    | (intro x hx; beta_reduce)
    | with_reducible apply good_ite
    | with_reducible apply good_forAll
    | with_reducible apply State.chanOff_good
    | with_reducible apply State.put_good
    | with_reducible apply State.gaLost_good
    | split
    | apply good_ite

theorem State.testBegin_good {Q : Plat → Cfg → List Instr → Prop} {s : State} (h : s.Good Q) (o : Nat) :
    (State.testBegin o s).Good Q := by
  unfold State.testBegin
  repeat' first
    | with_reducible assumption
    | (extract_lets +onlyGivenNames x; (first | (refine good_step (Q := Q) (x := x) ?_ ?_; (on_goal 1 => unfold x); on_goal 2 => (intro hx; try clear_value x)) | (refine good_step_fst (Q := Q) (x := x) ?_ ?_; (on_goal 1 => unfold x); on_goal 2 => (intro hx; try clear_value x)) | refine good_keepC (x := x) (fun _ => ?_) | refine good_keepS (x := x) (fun _ => ?_) | refine good_keepM (x := x) (fun _ => ?_) | refine good_keepR (x := x) (fun _ => ?_) | refine good_keepT (x := x) (fun _ => ?_) | refine good_keepN (x := x) (fun _ => ?_) | refine good_keepF (x := x) (fun _ => ?_) | refine good_keepG (x := x) (fun _ => ?_) | clear_value x | skip); all_goals (rename' x => y))
    | with_reducible apply good_ite
    | with_reducible apply State.obsMod_good
    | with_reducible exact good_free (by with_reducible assumption) ..
    | split
    | apply good_ite

theorem State.obsGroupStart_good {Q : Plat → Cfg → List Instr → Prop} {s : State} (h : s.Good Q) (g o : Nat) :
    (State.obsGroupStart g o s).Good Q := by
  unfold State.obsGroupStart
  repeat' first
    | with_reducible assumption
    | with_reducible apply good_ite
    | with_reducible apply State.put_good
    | with_reducible apply State.testBegin_good
    | split
    | apply good_ite

theorem State.precharge_good {Q : Plat → Cfg → List Instr → Prop} {s : State} (h : s.Good Q) (f n : Nat) :
    (State.precharge f n s).Good Q := by
  unfold State.precharge
  repeat' first
    | with_reducible assumption
    | (extract_lets +onlyGivenNames x; (first | (refine good_step (Q := Q) (x := x) ?_ ?_; (on_goal 1 => unfold x); on_goal 2 => (intro hx; try clear_value x)) | (refine good_step_fst (Q := Q) (x := x) ?_ ?_; (on_goal 1 => unfold x); on_goal 2 => (intro hx; try clear_value x)) | refine good_keepC (x := x) (fun _ => ?_) | refine good_keepS (x := x) (fun _ => ?_) | refine good_keepM (x := x) (fun _ => ?_) | refine good_keepR (x := x) (fun _ => ?_) | refine good_keepT (x := x) (fun _ => ?_) | refine good_keepN (x := x) (fun _ => ?_) | refine good_keepF (x := x) (fun _ => ?_) | refine good_keepG (x := x) (fun _ => ?_) | clear_value x | skip); all_goals (rename' x => y))
    | with_reducible apply good_ite
    | with_reducible apply State.switchTo_good
    | with_reducible apply State.chMod_good
    | with_reducible exact good_free (by with_reducible assumption) ..
    | split
    | apply good_ite

theorem State.startGroup_good {Q : Plat → Cfg → List Instr → Prop} {s : State} (h : s.Good Q) (g u f : Nat) (hQ : Undoable Q := by first | assumption | exact undoable_const) :
    (State.startGroup g u f s).Good Q := by
  unfold State.startGroup
  repeat' first
    | with_reducible assumption
    | (intro x y hx; beta_reduce)
    | (intro x hx; beta_reduce)
    | (extract_lets +onlyGivenNames x; (first | (refine good_step (Q := Q) (x := x) ?_ ?_; (on_goal 1 => unfold x); on_goal 2 => (intro hx; try clear_value x)) | (refine good_step_fst (Q := Q) (x := x) ?_ ?_; (on_goal 1 => unfold x); on_goal 2 => (intro hx; try clear_value x)) | refine good_keepC (x := x) (fun _ => ?_) | refine good_keepS (x := x) (fun _ => ?_) | refine good_keepM (x := x) (fun _ => ?_) | refine good_keepR (x := x) (fun _ => ?_) | refine good_keepT (x := x) (fun _ => ?_) | refine good_keepN (x := x) (fun _ => ?_) | refine good_keepF (x := x) (fun _ => ?_) | refine good_keepG (x := x) (fun _ => ?_) | clear_value x | skip); all_goals (rename' x => y))
    | with_reducible apply good_ite
    | with_reducible apply good_forAll
    | with_reducible apply State.takeSet_good
    | with_reducible apply State.put_good
    | with_reducible apply State.obsGroupStart_good
    | with_reducible apply State.setDrive_good
    | with_reducible apply State.chMod_good
    | with_reducible apply State.precharge_good
    | with_reducible apply State.grpMod_good
    | with_reducible apply State.loadChans_good
    | with_reducible exact good_free (by with_reducible assumption) ..
    | split
    | apply good_ite

theorem State.bstJudge_good {Q : Plat → Cfg → List Instr → Prop} {s : State} (h : s.Good Q) (n : Nat) :
    (State.bstJudge n s).Good Q := by
  unfold State.bstJudge
  repeat' first
    | with_reducible assumption
    | (extract_lets +onlyGivenNames x; (first | (refine good_step (Q := Q) (x := x) ?_ ?_; (on_goal 1 => unfold x); on_goal 2 => (intro hx; try clear_value x)) | (refine good_step_fst (Q := Q) (x := x) ?_ ?_; (on_goal 1 => unfold x); on_goal 2 => (intro hx; try clear_value x)) | refine good_keepC (x := x) (fun _ => ?_) | refine good_keepS (x := x) (fun _ => ?_) | refine good_keepM (x := x) (fun _ => ?_) | refine good_keepR (x := x) (fun _ => ?_) | refine good_keepT (x := x) (fun _ => ?_) | refine good_keepN (x := x) (fun _ => ?_) | refine good_keepF (x := x) (fun _ => ?_) | refine good_keepG (x := x) (fun _ => ?_) | clear_value x | skip); all_goals (rename' x => y))
    | with_reducible apply good_ite
    | with_reducible apply State.chMod_good
    | with_reducible exact good_free (by with_reducible assumption) ..
    | split
    | apply good_ite

theorem State.refreshChan_good {Q : Plat → Cfg → List Instr → Prop} {s : State} (h : s.Good Q) (g f k n : Nat) :
    (State.refreshChan g f k n s).Good Q := by
  unfold State.refreshChan
  repeat' first
    | with_reducible assumption
    | (extract_lets +onlyGivenNames x; (first | (refine good_step (Q := Q) (x := x) ?_ ?_; (on_goal 1 => unfold x); on_goal 2 => (intro hx; try clear_value x)) | (refine good_step_fst (Q := Q) (x := x) ?_ ?_; (on_goal 1 => unfold x); on_goal 2 => (intro hx; try clear_value x)) | refine good_keepC (x := x) (fun _ => ?_) | refine good_keepS (x := x) (fun _ => ?_) | refine good_keepM (x := x) (fun _ => ?_) | refine good_keepR (x := x) (fun _ => ?_) | refine good_keepT (x := x) (fun _ => ?_) | refine good_keepN (x := x) (fun _ => ?_) | refine good_keepF (x := x) (fun _ => ?_) | refine good_keepG (x := x) (fun _ => ?_) | clear_value x | skip); all_goals (rename' x => y))
    | with_reducible apply good_ite
    | with_reducible apply State.chMod_good
    | with_reducible apply State.switchTo_good
    | with_reducible apply State.inc32_good
    | with_reducible exact good_free (by with_reducible assumption) ..
    | split
    | apply good_ite

end Sys2Proof.Machine
end

