-- ==== Sys2Proof/Laws/Sound/Timebase.lean ====
section
/-! SUPPORT. Every operation of Machine/Timebase.lean keeps a sound state sound. -/

set_option linter.unusedTactic false
set_option linter.unreachableTactic false
set_option linter.unusedVariables false
set_option linter.tactic.unusedName false

namespace Sys2Proof.Machine

theorem State.setSpeed_good {Q : Plat → Cfg → List Instr → Prop} {s : State} (h : s.Good Q) (t : Nat) (v : Int) :
    (State.setSpeed t v s).Good Q := by
  unfold State.setSpeed
  repeat' first
    | with_reducible assumption
    | (intro x hx; exact hx)
    | (intro x hx; exact le_trans (List.length_filter_le _ _) hx)
    | (intro x hx; simp only [List.length_nil]; omega)
    | (extract_lets +onlyGivenNames x; (first | (refine good_step (Q := Q) (x := x) ?_ ?_; (on_goal 1 => unfold x); on_goal 2 => (intro hx; try clear_value x)) | (refine good_step_fst (Q := Q) (x := x) ?_ ?_; (on_goal 1 => unfold x); on_goal 2 => (intro hx; try clear_value x)) | refine good_keepC (x := x) (fun _ => ?_) | refine good_keepS (x := x) (fun _ => ?_) | refine good_keepM (x := x) (fun _ => ?_) | refine good_keepR (x := x) (fun _ => ?_) | refine good_keepT (x := x) (fun _ => ?_) | refine good_keepN (x := x) (fun _ => ?_) | refine good_keepF (x := x) (fun _ => ?_) | refine good_keepG (x := x) (fun _ => ?_) | clear_value x | skip); all_goals (rename' x => y))
    | with_reducible apply good_ite
    | with_reducible apply State.put_good
    | with_reducible apply State.putF_good
    | with_reducible apply State.tbMod_good
    | with_reducible exact good_free (by with_reducible assumption) ..
    | split
    | apply good_ite

theorem State.setSourceSpeed_good {Q : Plat → Cfg → List Instr → Prop} {s : State} (h : s.Good Q) (t : Nat) (v : Int) (hQ : Undoable Q := by first | assumption | exact undoable_const) :
    (State.setSourceSpeed t v s).Good Q := by
  unfold State.setSourceSpeed
  repeat' first
    | with_reducible assumption
    | with_reducible apply good_ite
    | with_reducible apply State.setSpeed_good
    | with_reducible apply State.raise_good
    | split
    | apply good_ite

theorem State.putAngle_good {Q : Plat → Cfg → List Instr → Prop} {s : State} (h : s.Good Q) (t : Nat) (full : Int) (turnsFrom : Nat) :
    (State.putAngle t full turnsFrom s).Good Q := by
  unfold State.putAngle
  repeat' first
    | with_reducible assumption
    | (intro x hx; exact hx)
    | (intro x hx; exact le_trans (List.length_filter_le _ _) hx)
    | (intro x hx; simp only [List.length_nil]; omega)
    | (extract_lets +onlyGivenNames x; (first | (refine good_step (Q := Q) (x := x) ?_ ?_; (on_goal 1 => unfold x); on_goal 2 => (intro hx; try clear_value x)) | (refine good_step_fst (Q := Q) (x := x) ?_ ?_; (on_goal 1 => unfold x); on_goal 2 => (intro hx; try clear_value x)) | refine good_keepC (x := x) (fun _ => ?_) | refine good_keepS (x := x) (fun _ => ?_) | refine good_keepM (x := x) (fun _ => ?_) | refine good_keepR (x := x) (fun _ => ?_) | refine good_keepT (x := x) (fun _ => ?_) | refine good_keepN (x := x) (fun _ => ?_) | refine good_keepF (x := x) (fun _ => ?_) | refine good_keepG (x := x) (fun _ => ?_) | clear_value x | skip); all_goals (rename' x => y))
    | with_reducible apply State.put_good
    | with_reducible apply State.tbMod_good
    | with_reducible exact good_free (by with_reducible assumption) ..

theorem State.tbState_good {Q : Plat → Cfg → List Instr → Prop} {s : State} (h : s.Good Q) (t st : Nat) :
    (State.tbState t st s).Good Q := by
  unfold State.tbState
  repeat' first
    | with_reducible assumption
    | (intro x hx; exact hx)
    | (intro x hx; exact le_trans (List.length_filter_le _ _) hx)
    | (intro x hx; simp only [List.length_nil]; omega)
    | (extract_lets +onlyGivenNames x; (first | (refine good_step (Q := Q) (x := x) ?_ ?_; (on_goal 1 => unfold x); on_goal 2 => (intro hx; try clear_value x)) | (refine good_step_fst (Q := Q) (x := x) ?_ ?_; (on_goal 1 => unfold x); on_goal 2 => (intro hx; try clear_value x)) | refine good_keepC (x := x) (fun _ => ?_) | refine good_keepS (x := x) (fun _ => ?_) | refine good_keepM (x := x) (fun _ => ?_) | refine good_keepR (x := x) (fun _ => ?_) | refine good_keepT (x := x) (fun _ => ?_) | refine good_keepN (x := x) (fun _ => ?_) | refine good_keepF (x := x) (fun _ => ?_) | refine good_keepG (x := x) (fun _ => ?_) | clear_value x | skip); all_goals (rename' x => y))
    | with_reducible apply State.put_good
    | with_reducible apply State.tbMod_good
    | with_reducible exact good_free (by with_reducible assumption) ..

theorem State.tbLocked_good {Q : Plat → Cfg → List Instr → Prop} {s : State} (h : s.Good Q) (t : Nat) :
    (State.tbLocked t s).Good Q := by
  unfold State.tbLocked
  repeat' first
    | with_reducible assumption
    | with_reducible apply State.tbState_good
    | with_reducible apply State.put_good

theorem State.tbOff_good {Q : Plat → Cfg → List Instr → Prop} {s : State} (h : s.Good Q) (t : Nat) :
    (State.tbOff t s).Good Q := by
  unfold State.tbOff
  repeat' first
    | with_reducible assumption
    | (intro x hx; exact hx)
    | (intro x hx; exact le_trans (List.length_filter_le _ _) hx)
    | (intro x hx; simp only [List.length_nil]; omega)
    | with_reducible apply State.tbState_good
    | with_reducible apply State.setSpeed_good
    | with_reducible apply State.tbMod_good
    | with_reducible apply State.put_good

theorem State.tbEnable_good {Q : Plat → Cfg → List Instr → Prop} {s : State} (h : s.Good Q) (t : Nat) (hQ : Undoable Q := by first | assumption | exact undoable_const) :
    (State.tbEnable t s).Good Q := by
  unfold State.tbEnable
  repeat' first
    | with_reducible assumption
    | (intro x hx; exact hx)
    | (intro x hx; exact le_trans (List.length_filter_le _ _) hx)
    | (intro x hx; simp only [List.length_nil]; omega)
    | (extract_lets +onlyGivenNames x; (first | (refine good_step (Q := Q) (x := x) ?_ ?_; (on_goal 1 => unfold x); on_goal 2 => (intro hx; try clear_value x)) | (refine good_step_fst (Q := Q) (x := x) ?_ ?_; (on_goal 1 => unfold x); on_goal 2 => (intro hx; try clear_value x)) | refine good_keepC (x := x) (fun _ => ?_) | refine good_keepS (x := x) (fun _ => ?_) | refine good_keepM (x := x) (fun _ => ?_) | refine good_keepR (x := x) (fun _ => ?_) | refine good_keepT (x := x) (fun _ => ?_) | refine good_keepN (x := x) (fun _ => ?_) | refine good_keepF (x := x) (fun _ => ?_) | refine good_keepG (x := x) (fun _ => ?_) | clear_value x | skip); all_goals (rename' x => y))
    | with_reducible apply good_ite
    | with_reducible apply State.tbOff_good
    | with_reducible apply State.put_good
    | with_reducible apply State.tbMod_good
    | with_reducible apply State.putAngle_good
    | with_reducible apply State.setSourceSpeed_good
    | with_reducible apply State.tbLocked_good
    | with_reducible apply State.tbState_good
    | with_reducible exact good_free (by with_reducible assumption) ..
    | split
    | apply good_ite

theorem State.tbStep_good {Q : Plat → Cfg → List Instr → Prop} {s : State} (h : s.Good Q) (t : Nat) (pe : Int) (hQ : Undoable Q := by first | assumption | exact undoable_const) :
    (State.tbStep t pe s).Good Q := by
  unfold State.tbStep
  repeat' first
    | with_reducible assumption
    | (intro x hx; exact hx)
    | (intro x hx; exact le_trans (List.length_filter_le _ _) hx)
    | (intro x hx; simp only [List.length_nil]; omega)
    | (extract_lets +onlyGivenNames x; (first | (refine good_step (Q := Q) (x := x) ?_ ?_; (on_goal 1 => unfold x); on_goal 2 => (intro hx; try clear_value x)) | (refine good_step_fst (Q := Q) (x := x) ?_ ?_; (on_goal 1 => unfold x); on_goal 2 => (intro hx; try clear_value x)) | refine good_keepC (x := x) (fun _ => ?_) | refine good_keepS (x := x) (fun _ => ?_) | refine good_keepM (x := x) (fun _ => ?_) | refine good_keepR (x := x) (fun _ => ?_) | refine good_keepT (x := x) (fun _ => ?_) | refine good_keepN (x := x) (fun _ => ?_) | refine good_keepF (x := x) (fun _ => ?_) | refine good_keepG (x := x) (fun _ => ?_) | clear_value x | skip); all_goals (rename' x => y))
    | with_reducible apply good_ite
    | with_reducible apply State.putAngle_good
    | with_reducible apply State.incSat_good
    | with_reducible apply State.raise_good
    | with_reducible apply State.addSat_good
    | with_reducible apply State.tbMod_good
    | with_reducible apply State.put_good
    | with_reducible exact good_free (by with_reducible assumption) ..
    | split
    | apply good_ite

theorem State.tbTrackLock_good {Q : Plat → Cfg → List Instr → Prop} {s : State} (h : s.Good Q) (t : Nat) (pe : Int) (timeSynced : Bool) :
    (State.tbTrackLock t pe timeSynced s).Good Q := by
  unfold State.tbTrackLock
  repeat' first
    | with_reducible assumption
    | (intro x hx; exact hx)
    | (intro x hx; exact le_trans (List.length_filter_le _ _) hx)
    | (intro x hx; simp only [List.length_nil]; omega)
    | (extract_lets +onlyGivenNames x; (first | (refine good_step (Q := Q) (x := x) ?_ ?_; (on_goal 1 => unfold x); on_goal 2 => (intro hx; try clear_value x)) | (refine good_step_fst (Q := Q) (x := x) ?_ ?_; (on_goal 1 => unfold x); on_goal 2 => (intro hx; try clear_value x)) | refine good_keepC (x := x) (fun _ => ?_) | refine good_keepS (x := x) (fun _ => ?_) | refine good_keepM (x := x) (fun _ => ?_) | refine good_keepR (x := x) (fun _ => ?_) | refine good_keepT (x := x) (fun _ => ?_) | refine good_keepN (x := x) (fun _ => ?_) | refine good_keepF (x := x) (fun _ => ?_) | refine good_keepG (x := x) (fun _ => ?_) | clear_value x | skip); all_goals (rename' x => y))
    | with_reducible apply good_ite
    | with_reducible apply State.tbMod_good
    | with_reducible apply State.tbLocked_good
    | with_reducible exact good_free (by with_reducible assumption) ..
    | split
    | apply good_ite

theorem State.tbTrack_good {Q : Plat → Cfg → List Instr → Prop} {s : State} (h : s.Good Q) (t : Nat) (pe : Int) (timeSynced : Bool) (hQ : Undoable Q := by first | assumption | exact undoable_const) :
    (State.tbTrack t pe timeSynced s).Good Q := by
  unfold State.tbTrack
  repeat' first
    | with_reducible assumption
    | (intro x hx; exact hx)
    | (intro x hx; exact le_trans (List.length_filter_le _ _) hx)
    | (intro x hx; simp only [List.length_nil]; omega)
    | (extract_lets +onlyGivenNames x; (first | (refine good_step (Q := Q) (x := x) ?_ ?_; (on_goal 1 => unfold x); on_goal 2 => (intro hx; try clear_value x)) | (refine good_step_fst (Q := Q) (x := x) ?_ ?_; (on_goal 1 => unfold x); on_goal 2 => (intro hx; try clear_value x)) | refine good_keepC (x := x) (fun _ => ?_) | refine good_keepS (x := x) (fun _ => ?_) | refine good_keepM (x := x) (fun _ => ?_) | refine good_keepR (x := x) (fun _ => ?_) | refine good_keepT (x := x) (fun _ => ?_) | refine good_keepN (x := x) (fun _ => ?_) | refine good_keepF (x := x) (fun _ => ?_) | refine good_keepG (x := x) (fun _ => ?_) | clear_value x | skip); all_goals (rename' x => y))
    | with_reducible apply good_ite
    | with_reducible apply State.tbTrackLock_good
    | with_reducible apply State.tbState_good
    | with_reducible apply State.incSat_good
    | with_reducible apply State.raise_good
    | with_reducible apply State.tbMod_good
    | with_reducible exact good_free (by with_reducible assumption) ..
    | split
    | apply good_ite

theorem State.tbUpdate_good {Q : Plat → Cfg → List Instr → Prop} {s : State} (h : s.Good Q) (t : Nat) (valid : Bool) (theta : Nat) (speed : Int) (age : Int) (revs : Option Nat) (hQ : Undoable Q := by first | assumption | exact undoable_const) :
    (State.tbUpdate t valid theta speed age revs s).Good Q := by
  unfold State.tbUpdate
  repeat' first
    | with_reducible assumption
    | (intro x hx; exact hx)
    | (intro x hx; exact le_trans (List.length_filter_le _ _) hx)
    | (intro x hx; simp only [List.length_nil]; omega)
    | (extract_lets +onlyGivenNames x; (first | (refine good_step (Q := Q) (x := x) ?_ ?_; (on_goal 1 => unfold x); on_goal 2 => (intro hx; try clear_value x)) | (refine good_step_fst (Q := Q) (x := x) ?_ ?_; (on_goal 1 => unfold x); on_goal 2 => (intro hx; try clear_value x)) | refine good_keepC (x := x) (fun _ => ?_) | refine good_keepS (x := x) (fun _ => ?_) | refine good_keepM (x := x) (fun _ => ?_) | refine good_keepR (x := x) (fun _ => ?_) | refine good_keepT (x := x) (fun _ => ?_) | refine good_keepN (x := x) (fun _ => ?_) | refine good_keepF (x := x) (fun _ => ?_) | refine good_keepG (x := x) (fun _ => ?_) | clear_value x | skip); all_goals (rename' x => y))
    | with_reducible apply good_ite
    | with_reducible apply State.inc32_good
    | with_reducible apply State.setSourceSpeed_good
    | with_reducible apply State.tbMod_good
    | with_reducible apply State.tbState_good
    | with_reducible apply State.incSat_good
    | with_reducible apply State.raise_good
    | with_reducible apply State.putAngle_good
    | with_reducible apply State.put_good
    | with_reducible apply State.tbTrack_good
    | with_reducible exact good_free (by with_reducible assumption) ..
    | split
    | apply good_ite

theorem State.tbTick_good {Q : Plat → Cfg → List Instr → Prop} {s : State} (h : s.Good Q) (t : Nat) (hQ : Undoable Q := by first | assumption | exact undoable_const) :
    (State.tbTick t s).1.Good Q := by
  unfold State.tbTick
  repeat' first
    | with_reducible assumption
    | (intro x hx; exact hx)
    | (intro x hx; exact le_trans (List.length_filter_le _ _) hx)
    | (intro x hx; simp only [List.length_nil]; omega)
    | (extract_lets +onlyGivenNames x; (first | (refine good_step (Q := Q) (x := x) ?_ ?_; (on_goal 1 => unfold x); on_goal 2 => (intro hx; try clear_value x)) | (refine good_step_fst (Q := Q) (x := x) ?_ ?_; (on_goal 1 => unfold x); on_goal 2 => (intro hx; try clear_value x)) | refine good_keepC (x := x) (fun _ => ?_) | refine good_keepS (x := x) (fun _ => ?_) | refine good_keepM (x := x) (fun _ => ?_) | refine good_keepR (x := x) (fun _ => ?_) | refine good_keepT (x := x) (fun _ => ?_) | refine good_keepN (x := x) (fun _ => ?_) | refine good_keepF (x := x) (fun _ => ?_) | refine good_keepG (x := x) (fun _ => ?_) | clear_value x | skip); all_goals (rename' x => y))
    | with_reducible apply good_ite
    | with_reducible apply good_ite_fst
    | with_reducible apply State.tbMod_good
    | with_reducible apply State.putAngle_good
    | with_reducible apply State.put_good
    | with_reducible apply State.tbStep_good
    | with_reducible exact good_free (by with_reducible assumption) ..
    | split
    | apply good_ite

end Sys2Proof.Machine
end

