-- ==== Sys2Proof/Laws/Sound/Engines.lean ====
section
/-! SUPPORT. Every operation of Machine/Engines.lean keeps a sound state sound. -/

set_option linter.unusedTactic false
set_option linter.unreachableTactic false
set_option linter.unusedVariables false
set_option linter.tactic.unusedName false

namespace Sys2Proof.Machine

theorem State.slotMod_good {Q : Plat → Cfg → List Instr → Prop} {s : State} (h : s.Good Q) (n : Nat) (f : SlotX → SlotX) :
    (State.slotMod n f s).Good Q := by
  unfold State.slotMod
  repeat' first
    | with_reducible assumption
    | (extract_lets +onlyGivenNames x; (first | (refine good_step (Q := Q) (x := x) ?_ ?_; (on_goal 1 => unfold x); on_goal 2 => (intro hx; try clear_value x)) | (refine good_step_fst (Q := Q) (x := x) ?_ ?_; (on_goal 1 => unfold x); on_goal 2 => (intro hx; try clear_value x)) | refine good_keepC (x := x) (fun _ => ?_) | refine good_keepS (x := x) (fun _ => ?_) | refine good_keepM (x := x) (fun _ => ?_) | refine good_keepR (x := x) (fun _ => ?_) | refine good_keepT (x := x) (fun _ => ?_) | refine good_keepN (x := x) (fun _ => ?_) | refine good_keepF (x := x) (fun _ => ?_) | refine good_keepG (x := x) (fun _ => ?_) | clear_value x | skip); all_goals (rename' x => y))
    | with_reducible exact good_free (by with_reducible assumption) ..

theorem State.engMod_good {Q : Plat → Cfg → List Instr → Prop} {s : State} (h : s.Good Q) (e : Nat) (f : EngX → EngX) :
    (State.engMod e f s).Good Q := by
  unfold State.engMod
  repeat' first
    | with_reducible assumption
    | (extract_lets +onlyGivenNames x; (first | (refine good_step (Q := Q) (x := x) ?_ ?_; (on_goal 1 => unfold x); on_goal 2 => (intro hx; try clear_value x)) | (refine good_step_fst (Q := Q) (x := x) ?_ ?_; (on_goal 1 => unfold x); on_goal 2 => (intro hx; try clear_value x)) | refine good_keepC (x := x) (fun _ => ?_) | refine good_keepS (x := x) (fun _ => ?_) | refine good_keepM (x := x) (fun _ => ?_) | refine good_keepR (x := x) (fun _ => ?_) | refine good_keepT (x := x) (fun _ => ?_) | refine good_keepN (x := x) (fun _ => ?_) | refine good_keepF (x := x) (fun _ => ?_) | refine good_keepG (x := x) (fun _ => ?_) | clear_value x | skip); all_goals (rename' x => y))
    | with_reducible exact good_free (by with_reducible assumption) ..

theorem State.beginInstance_good {Q : Plat → Cfg → List Instr → Prop} {s : State} (h : s.Good Q) (n : Nat) :
    (State.beginInstance n s).Good Q := by
  unfold State.beginInstance
  repeat' first
    | with_reducible assumption
    | (extract_lets +onlyGivenNames x; (first | (refine good_step (Q := Q) (x := x) ?_ ?_; (on_goal 1 => unfold x); on_goal 2 => (intro hx; try clear_value x)) | (refine good_step_fst (Q := Q) (x := x) ?_ ?_; (on_goal 1 => unfold x); on_goal 2 => (intro hx; try clear_value x)) | refine good_keepC (x := x) (fun _ => ?_) | refine good_keepS (x := x) (fun _ => ?_) | refine good_keepM (x := x) (fun _ => ?_) | refine good_keepR (x := x) (fun _ => ?_) | refine good_keepT (x := x) (fun _ => ?_) | refine good_keepN (x := x) (fun _ => ?_) | refine good_keepF (x := x) (fun _ => ?_) | refine good_keepG (x := x) (fun _ => ?_) | clear_value x | skip); all_goals (rename' x => y))
    | with_reducible apply good_ite
    | with_reducible apply State.slotMod_good
    | with_reducible apply State.put_good
    | with_reducible exact good_free (by with_reducible assumption) ..
    | split
    | apply good_ite

theorem State.supFeed_good {Q : Plat → Cfg → List Instr → Prop} {s : State} (h : s.Good Q) (n c r : Nat) (hQ : Undoable Q := by first | assumption | exact undoable_const) :
    (State.supFeed n c r s).1.Good Q := by
  unfold State.supFeed
  repeat' first
    | with_reducible assumption
    | (extract_lets +onlyGivenNames x; (first | (refine good_step (Q := Q) (x := x) ?_ ?_; (on_goal 1 => unfold x); on_goal 2 => (intro hx; try clear_value x)) | (refine good_step_fst (Q := Q) (x := x) ?_ ?_; (on_goal 1 => unfold x); on_goal 2 => (intro hx; try clear_value x)) | refine good_keepC (x := x) (fun _ => ?_) | refine good_keepS (x := x) (fun _ => ?_) | refine good_keepM (x := x) (fun _ => ?_) | refine good_keepR (x := x) (fun _ => ?_) | refine good_keepT (x := x) (fun _ => ?_) | refine good_keepN (x := x) (fun _ => ?_) | refine good_keepF (x := x) (fun _ => ?_) | refine good_keepG (x := x) (fun _ => ?_) | clear_value x | skip); all_goals (rename' x => y))
    | with_reducible apply good_ite
    | with_reducible apply good_ite_fst
    | with_reducible apply State.engMod_good
    | with_reducible apply State.put_good
    | with_reducible apply State.putF_good
    | with_reducible apply State.raise_good
    | with_reducible exact good_free (by with_reducible assumption) ..
    | split
    | apply good_ite

theorem State.supRestart_good {Q : Plat → Cfg → List Instr → Prop} {s : State} (h : s.Good Q) (e c : Nat) :
    (State.supRestart e c s).Good Q := by
  unfold State.supRestart
  repeat' first
    | with_reducible assumption
    | (extract_lets +onlyGivenNames x; (first | (refine good_step (Q := Q) (x := x) ?_ ?_; (on_goal 1 => unfold x); on_goal 2 => (intro hx; try clear_value x)) | (refine good_step_fst (Q := Q) (x := x) ?_ ?_; (on_goal 1 => unfold x); on_goal 2 => (intro hx; try clear_value x)) | refine good_keepC (x := x) (fun _ => ?_) | refine good_keepS (x := x) (fun _ => ?_) | refine good_keepM (x := x) (fun _ => ?_) | refine good_keepR (x := x) (fun _ => ?_) | refine good_keepT (x := x) (fun _ => ?_) | refine good_keepN (x := x) (fun _ => ?_) | refine good_keepF (x := x) (fun _ => ?_) | refine good_keepG (x := x) (fun _ => ?_) | clear_value x | skip); all_goals (rename' x => y))
    | with_reducible apply good_ite
    | with_reducible apply State.engMod_good
    | with_reducible apply State.put_good
    | with_reducible exact good_free (by with_reducible assumption) ..
    | split
    | apply good_ite

theorem good_step_run {Q : Plat → Cfg → List Instr → Prop} {x : Run} {p : Prop} (h : x.s.Good Q) (hp : x.s.Good Q → p) : p := hp h

theorem Run.store_good {Q : Plat → Cfg → List Instr → Prop} {r : Run} (h : r.s.Good Q) (addr a v : Nat) (float : Bool) : (r.store addr a v float).s.Good Q := by
  unfold Run.store
  split
  · exact h
  · exact State.mPut_good h _ _ _

theorem Run.exec1_good {Q : Plat → Cfg → List Instr → Prop} {r : Run} (h : r.s.Good Q) (addr w : Nat) (hQ : Undoable Q := by first | assumption | exact undoable_const) : (r.exec1 addr w).s.Good Q := by
  unfold Run.exec1
  extract_lets
  split <;> first
    | exact h
    | exact Run.store_good h _ _ _ _
    | exact State.supFeed_good h _ _ _

theorem Run.step_good {Q : Plat → Cfg → List Instr → Prop} {r : Run} (h : r.s.Good Q) (addr w : Nat) (hQ : Undoable Q := by first | assumption | exact undoable_const) : (r.step addr w).s.Good Q := by
  unfold Run.step
  split
  · exact h
  · exact Run.exec1_good h addr w

theorem Run.body_good {Q : Plat → Cfg → List Instr → Prop} {r : Run} (h : r.s.Good Q) (word : Nat → Nat) (limit k : Nat) (f : Isa.Flow) (c : Isa.Clock) (hQ : Undoable Q := by first | assumption | exact undoable_const) :
    (Run.body word limit k f c r).s.Good Q := by
  induction k generalizing r f c with
  | zero => exact h
  | succ k ih =>
    rw [Run.body]
    dsimp only
    split
    · exact h
    · split
      · exact Run.step_good h _ _
      · exact ih (Run.step_good h _ _) _ _

/-- The course of an instance keeps a sound state sound. -/
theorem State.runEntry_good {Q : Plat → Cfg → List Instr → Prop} {s : State} (h : s.Good Q) (n entry limit : Nat) (hQ : Undoable Q := by first | assumption | exact undoable_const) : (State.runEntry n entry limit s).s.Good Q :=
  Run.body_good h _ _ _ _ _

theorem State.relVal_good {Q : Plat → Cfg → List Instr → Prop} {s : State} (h : s.Good Q) (out : List (Nat × Nat)) (p k : Nat) (conv : Nat → Nat) :
    (State.relVal out p k conv s).Good Q := by
  unfold State.relVal
  repeat' first
    | with_reducible assumption
    | (extract_lets +onlyGivenNames x; (first | (refine good_step (Q := Q) (x := x) ?_ ?_; (on_goal 1 => unfold x); on_goal 2 => (intro hx; try clear_value x)) | (refine good_step_fst (Q := Q) (x := x) ?_ ?_; (on_goal 1 => unfold x); on_goal 2 => (intro hx; try clear_value x)) | refine good_keepC (x := x) (fun _ => ?_) | refine good_keepS (x := x) (fun _ => ?_) | refine good_keepM (x := x) (fun _ => ?_) | refine good_keepR (x := x) (fun _ => ?_) | refine good_keepT (x := x) (fun _ => ?_) | refine good_keepN (x := x) (fun _ => ?_) | refine good_keepF (x := x) (fun _ => ?_) | refine good_keepG (x := x) (fun _ => ?_) | clear_value x | skip); all_goals (rename' x => y))
    | with_reducible apply State.put_good
    | with_reducible exact good_free (by with_reducible assumption) ..
    | split

theorem State.relChan_good {Q : Plat → Cfg → List Instr → Prop} {s : State} (h : s.Good Q) (out : List (Nat × Nat)) (c : Nat) :
    (State.relChan out c s).Good Q := by
  unfold State.relChan
  repeat' first
    | with_reducible assumption
    | (extract_lets +onlyGivenNames x; (first | (refine good_step (Q := Q) (x := x) ?_ ?_; (on_goal 1 => unfold x); on_goal 2 => (intro hx; try clear_value x)) | (refine good_step_fst (Q := Q) (x := x) ?_ ?_; (on_goal 1 => unfold x); on_goal 2 => (intro hx; try clear_value x)) | refine good_keepC (x := x) (fun _ => ?_) | refine good_keepS (x := x) (fun _ => ?_) | refine good_keepM (x := x) (fun _ => ?_) | refine good_keepR (x := x) (fun _ => ?_) | refine good_keepT (x := x) (fun _ => ?_) | refine good_keepN (x := x) (fun _ => ?_) | refine good_keepF (x := x) (fun _ => ?_) | refine good_keepG (x := x) (fun _ => ?_) | clear_value x | skip); all_goals (rename' x => y))
    | with_reducible apply good_ite
    | with_reducible apply State.relVal_good
    | split
    | apply good_ite

theorem State.relGroup_good {Q : Plat → Cfg → List Instr → Prop} {s : State} (h : s.Good Q) (n : Nat) (out : List (Nat × Nat)) (g : Nat) (hQ : Undoable Q := by first | assumption | exact undoable_const) :
    (State.relGroup n out g s).Good Q := by
  unfold State.relGroup
  repeat' first
    | with_reducible assumption
    | (intro x y hx; beta_reduce)
    | (intro x hx; beta_reduce)
    | (extract_lets +onlyGivenNames x; (first | (refine good_step (Q := Q) (x := x) ?_ ?_; (on_goal 1 => unfold x); on_goal 2 => (intro hx; try clear_value x)) | (refine good_step_fst (Q := Q) (x := x) ?_ ?_; (on_goal 1 => unfold x); on_goal 2 => (intro hx; try clear_value x)) | refine good_keepC (x := x) (fun _ => ?_) | refine good_keepS (x := x) (fun _ => ?_) | refine good_keepM (x := x) (fun _ => ?_) | refine good_keepR (x := x) (fun _ => ?_) | refine good_keepT (x := x) (fun _ => ?_) | refine good_keepN (x := x) (fun _ => ?_) | refine good_keepF (x := x) (fun _ => ?_) | refine good_keepG (x := x) (fun _ => ?_) | clear_value x | skip); all_goals (rename' x => y))
    | with_reducible apply good_ite
    | with_reducible apply good_foldl
    | with_reducible apply good_foldl_fst
    | with_reducible apply State.relChan_good
    | with_reducible apply State.put_good
    | with_reducible apply State.commit_good
    | with_reducible apply State.incSat_good
    | with_reducible apply State.raise_good
    | with_reducible exact good_free (by with_reducible assumption) ..
    | split
    | apply good_ite

theorem State.relTb_good {Q : Plat → Cfg → List Instr → Prop} {s : State} (h : s.Good Q) (out : List (Nat × Nat)) (t : Nat) (hQ : Undoable Q := by first | assumption | exact undoable_const) :
    (State.relTb out t s).Good Q := by
  unfold State.relTb
  repeat' first
    | with_reducible assumption
    | (extract_lets +onlyGivenNames x; (first | (refine good_step (Q := Q) (x := x) ?_ ?_; (on_goal 1 => unfold x); on_goal 2 => (intro hx; try clear_value x)) | (refine good_step_fst (Q := Q) (x := x) ?_ ?_; (on_goal 1 => unfold x); on_goal 2 => (intro hx; try clear_value x)) | refine good_keepC (x := x) (fun _ => ?_) | refine good_keepS (x := x) (fun _ => ?_) | refine good_keepM (x := x) (fun _ => ?_) | refine good_keepR (x := x) (fun _ => ?_) | refine good_keepT (x := x) (fun _ => ?_) | refine good_keepN (x := x) (fun _ => ?_) | refine good_keepF (x := x) (fun _ => ?_) | refine good_keepG (x := x) (fun _ => ?_) | clear_value x | skip); all_goals (rename' x => y))
    | with_reducible apply good_ite
    | with_reducible apply State.tbUpdate_good
    | with_reducible apply State.fresh_good
    | with_reducible exact good_free (by with_reducible assumption) ..
    | split
    | apply good_ite

theorem State.release_good {Q : Plat → Cfg → List Instr → Prop} {s : State} (h : s.Good Q) (n : Nat) (out : List (Nat × Nat)) (hQ : Undoable Q := by first | assumption | exact undoable_const) :
    (State.release n out s).Good Q := by
  unfold State.release
  repeat' first
    | with_reducible assumption
    | (intro x y hx; beta_reduce)
    | (intro x hx; beta_reduce)
    | with_reducible apply good_forAll
    | with_reducible apply State.relGroup_good
    | with_reducible apply State.relTb_good

theorem State.schedule_good {Q : Plat → Cfg → List Instr → Prop} {s : State} (h : s.Good Q) (e : Nat) :
    (State.schedule e s).Good Q := by
  unfold State.schedule
  repeat' first
    | with_reducible assumption
    | (extract_lets +onlyGivenNames x; (first | (refine good_step (Q := Q) (x := x) ?_ ?_; (on_goal 1 => unfold x); on_goal 2 => (intro hx; try clear_value x)) | (refine good_step_fst (Q := Q) (x := x) ?_ ?_; (on_goal 1 => unfold x); on_goal 2 => (intro hx; try clear_value x)) | refine good_keepC (x := x) (fun _ => ?_) | refine good_keepS (x := x) (fun _ => ?_) | refine good_keepM (x := x) (fun _ => ?_) | refine good_keepR (x := x) (fun _ => ?_) | refine good_keepT (x := x) (fun _ => ?_) | refine good_keepN (x := x) (fun _ => ?_) | refine good_keepF (x := x) (fun _ => ?_) | refine good_keepG (x := x) (fun _ => ?_) | clear_value x | skip); all_goals (rename' x => y))
    | with_reducible apply good_ite
    | with_reducible apply State.beginInstance_good
    | with_reducible apply State.put_good
    | with_reducible exact good_free (by with_reducible assumption) ..
    | split
    | apply good_ite

theorem State.lawStart_good {Q : Plat → Cfg → List Instr → Prop} {s : State} (h : s.Good Q) (n arg angle : Nat) (hQ : Undoable Q := by first | assumption | exact undoable_const) :
    (State.lawStart n arg angle s).Good Q := by
  unfold State.lawStart
  repeat' first
    | with_reducible assumption
    | (extract_lets +onlyGivenNames x; (first | (refine good_step (Q := Q) (x := x) ?_ ?_; (on_goal 1 => unfold x); on_goal 2 => (intro hx; try clear_value x)) | (refine good_step_fst (Q := Q) (x := x) ?_ ?_; (on_goal 1 => unfold x); on_goal 2 => (intro hx; try clear_value x)) | refine good_keepC (x := x) (fun _ => ?_) | refine good_keepS (x := x) (fun _ => ?_) | refine good_keepM (x := x) (fun _ => ?_) | refine good_keepR (x := x) (fun _ => ?_) | refine good_keepT (x := x) (fun _ => ?_) | refine good_keepN (x := x) (fun _ => ?_) | refine good_keepF (x := x) (fun _ => ?_) | refine good_keepG (x := x) (fun _ => ?_) | clear_value x | skip); all_goals (rename' x => y))
    | with_reducible apply good_ite
    | with_reducible apply State.inc32_good
    | with_reducible apply State.slotMod_good
    | with_reducible apply State.put_good
    | with_reducible apply State.incSat_good
    | with_reducible apply State.beginInstance_good
    | with_reducible apply State.raise_good
    | with_reducible exact good_free (by with_reducible assumption) ..
    | split
    | apply good_ite

theorem State.slotRest_good {Q : Plat → Cfg → List Instr → Prop} {s : State} (h : s.Good Q) (n st : Nat) :
    (State.slotRest n st s).Good Q := by
  unfold State.slotRest
  repeat' first
    | with_reducible assumption
    | (extract_lets +onlyGivenNames x; (first | (refine good_step (Q := Q) (x := x) ?_ ?_; (on_goal 1 => unfold x); on_goal 2 => (intro hx; try clear_value x)) | (refine good_step_fst (Q := Q) (x := x) ?_ ?_; (on_goal 1 => unfold x); on_goal 2 => (intro hx; try clear_value x)) | refine good_keepC (x := x) (fun _ => ?_) | refine good_keepS (x := x) (fun _ => ?_) | refine good_keepM (x := x) (fun _ => ?_) | refine good_keepR (x := x) (fun _ => ?_) | refine good_keepT (x := x) (fun _ => ?_) | refine good_keepN (x := x) (fun _ => ?_) | refine good_keepF (x := x) (fun _ => ?_) | refine good_keepG (x := x) (fun _ => ?_) | clear_value x | skip); all_goals (rename' x => y))
    | with_reducible apply good_ite
    | with_reducible apply State.put_good
    | with_reducible apply State.leaveBack_good
    | with_reducible apply State.slotMod_good
    | with_reducible apply State.engMod_good
    | with_reducible exact good_free (by with_reducible assumption) ..
    | split
    | apply good_ite

theorem State.freeze_good {Q : Plat → Cfg → List Instr → Prop} {s : State} (h : s.Good Q) (n addr : Nat) (hQ : Undoable Q := by first | assumption | exact undoable_const) :
    (State.freeze n addr s).Good Q := by
  unfold State.freeze
  repeat' first
    | with_reducible assumption
    | (extract_lets +onlyGivenNames x; (first | (refine good_step (Q := Q) (x := x) ?_ ?_; (on_goal 1 => unfold x); on_goal 2 => (intro hx; try clear_value x)) | (refine good_step_fst (Q := Q) (x := x) ?_ ?_; (on_goal 1 => unfold x); on_goal 2 => (intro hx; try clear_value x)) | refine good_keepC (x := x) (fun _ => ?_) | refine good_keepS (x := x) (fun _ => ?_) | refine good_keepM (x := x) (fun _ => ?_) | refine good_keepR (x := x) (fun _ => ?_) | refine good_keepT (x := x) (fun _ => ?_) | refine good_keepN (x := x) (fun _ => ?_) | refine good_keepF (x := x) (fun _ => ?_) | refine good_keepG (x := x) (fun _ => ?_) | clear_value x | skip); all_goals (rename' x => y))
    | with_reducible apply good_ite
    | with_reducible apply State.put_good
    | with_reducible apply State.slotRest_good
    | with_reducible apply State.raise_good
    | split
    | apply good_ite

theorem State.handOver_good {Q : Plat → Cfg → List Instr → Prop} {s : State} (h : s.Good Q) (o i : Nat) (hQ : Undoable Q := by first | assumption | exact undoable_const) :
    (State.handOver o i s).Good Q := by
  unfold State.handOver
  repeat' first
    | with_reducible assumption
    | (extract_lets +onlyGivenNames x; (first | (refine good_step (Q := Q) (x := x) ?_ ?_; (on_goal 1 => unfold x); on_goal 2 => (intro hx; try clear_value x)) | (refine good_step_fst (Q := Q) (x := x) ?_ ?_; (on_goal 1 => unfold x); on_goal 2 => (intro hx; try clear_value x)) | (refine good_step_run (Q := Q) (x := x) ?_ ?_; (on_goal 1 => unfold x); on_goal 2 => (intro hx; try clear_value x)) | refine good_keepC (x := x) (fun _ => ?_) | refine good_keepS (x := x) (fun _ => ?_) | refine good_keepM (x := x) (fun _ => ?_) | refine good_keepR (x := x) (fun _ => ?_) | refine good_keepT (x := x) (fun _ => ?_) | refine good_keepN (x := x) (fun _ => ?_) | refine good_keepF (x := x) (fun _ => ?_) | refine good_keepG (x := x) (fun _ => ?_) | clear_value x | skip); all_goals (rename' x => y))
    | with_reducible apply State.engMod_good
    | with_reducible apply State.slotRest_good
    | with_reducible apply State.beginInstance_good
    | with_reducible apply State.runEntry_good
    | with_reducible apply State.freeze_good
    | with_reducible apply State.release_good
    | with_reducible apply State.slotMod_good
    | with_reducible apply State.put_good
    | with_reducible exact good_free (by with_reducible assumption) ..
    | split

theorem State.handoverAtEnd_good {Q : Plat → Cfg → List Instr → Prop} {s : State} (h : s.Good Q) (n : Nat) (req : Option Nat) (hQ : Undoable Q := by first | assumption | exact undoable_const) :
    (State.handoverAtEnd n req s).Good Q := by
  unfold State.handoverAtEnd
  repeat' first
    | with_reducible assumption
    | (extract_lets +onlyGivenNames x; (first | (refine good_step (Q := Q) (x := x) ?_ ?_; (on_goal 1 => unfold x); on_goal 2 => (intro hx; try clear_value x)) | (refine good_step_fst (Q := Q) (x := x) ?_ ?_; (on_goal 1 => unfold x); on_goal 2 => (intro hx; try clear_value x)) | refine good_keepC (x := x) (fun _ => ?_) | refine good_keepS (x := x) (fun _ => ?_) | refine good_keepM (x := x) (fun _ => ?_) | refine good_keepR (x := x) (fun _ => ?_) | refine good_keepT (x := x) (fun _ => ?_) | refine good_keepN (x := x) (fun _ => ?_) | refine good_keepF (x := x) (fun _ => ?_) | refine good_keepG (x := x) (fun _ => ?_) | clear_value x | skip); all_goals (rename' x => y))
    | with_reducible apply good_ite
    | with_reducible apply State.engMod_good
    | with_reducible apply State.put_good
    | with_reducible apply State.raise_good
    | with_reducible apply State.handOver_good
    | with_reducible apply State.slotRest_good
    | with_reducible exact good_free (by with_reducible assumption) ..
    | split
    | apply good_ite

theorem State.instanceEnd_good {Q : Plat → Cfg → List Instr → Prop} {s : State} (h : s.Good Q) (n issued response : Nat) (hQ : Undoable Q := by first | assumption | exact undoable_const) :
    (State.instanceEnd n issued response s).Good Q := by
  unfold State.instanceEnd
  repeat' first
    | with_reducible assumption
    | (extract_lets +onlyGivenNames x; (first | (refine good_step (Q := Q) (x := x) ?_ ?_; (on_goal 1 => unfold x); on_goal 2 => (intro hx; try clear_value x)) | (refine good_step_fst (Q := Q) (x := x) ?_ ?_; (on_goal 1 => unfold x); on_goal 2 => (intro hx; try clear_value x)) | (refine good_step_run (Q := Q) (x := x) ?_ ?_; (on_goal 1 => unfold x); on_goal 2 => (intro hx; try clear_value x)) | refine good_keepC (x := x) (fun _ => ?_) | refine good_keepS (x := x) (fun _ => ?_) | refine good_keepM (x := x) (fun _ => ?_) | refine good_keepR (x := x) (fun _ => ?_) | refine good_keepT (x := x) (fun _ => ?_) | refine good_keepN (x := x) (fun _ => ?_) | refine good_keepF (x := x) (fun _ => ?_) | refine good_keepG (x := x) (fun _ => ?_) | clear_value x | skip); all_goals (rename' x => y))
    | with_reducible apply good_ite
    | with_reducible apply State.runEntry_good
    | with_reducible apply State.put_good
    | with_reducible apply State.slotMod_good
    | with_reducible apply State.raise_good
    | with_reducible apply State.freeze_good
    | with_reducible apply State.release_good
    | with_reducible apply State.handoverAtEnd_good
    | with_reducible apply State.schedule_good
    | with_reducible exact good_free (by with_reducible assumption) ..
    | split
    | apply good_ite

theorem State.abort_good {Q : Plat → Cfg → List Instr → Prop} {s : State} (h : s.Good Q) (n issued : Nat) (hQ : Undoable Q := by first | assumption | exact undoable_const) :
    (State.abort n issued s).Good Q := by
  unfold State.abort
  repeat' first
    | with_reducible assumption
    | (extract_lets +onlyGivenNames x; (first | (refine good_step (Q := Q) (x := x) ?_ ?_; (on_goal 1 => unfold x); on_goal 2 => (intro hx; try clear_value x)) | (refine good_step_fst (Q := Q) (x := x) ?_ ?_; (on_goal 1 => unfold x); on_goal 2 => (intro hx; try clear_value x)) | (refine good_step_run (Q := Q) (x := x) ?_ ?_; (on_goal 1 => unfold x); on_goal 2 => (intro hx; try clear_value x)) | refine good_keepC (x := x) (fun _ => ?_) | refine good_keepS (x := x) (fun _ => ?_) | refine good_keepM (x := x) (fun _ => ?_) | refine good_keepR (x := x) (fun _ => ?_) | refine good_keepT (x := x) (fun _ => ?_) | refine good_keepN (x := x) (fun _ => ?_) | refine good_keepF (x := x) (fun _ => ?_) | refine good_keepG (x := x) (fun _ => ?_) | clear_value x | skip); all_goals (rename' x => y))
    | with_reducible apply good_ite
    | with_reducible apply State.runEntry_good
    | with_reducible apply State.slotRest_good
    | with_reducible apply State.schedule_good
    | split
    | apply good_ite

theorem State.deadlineMiss_good {Q : Plat → Cfg → List Instr → Prop} {s : State} (h : s.Good Q) (n issued : Nat) (hQ : Undoable Q := by first | assumption | exact undoable_const) :
    (State.deadlineMiss n issued s).Good Q := by
  unfold State.deadlineMiss
  repeat' first
    | with_reducible assumption
    | (extract_lets +onlyGivenNames x; (first | (refine good_step (Q := Q) (x := x) ?_ ?_; (on_goal 1 => unfold x); on_goal 2 => (intro hx; try clear_value x)) | (refine good_step_fst (Q := Q) (x := x) ?_ ?_; (on_goal 1 => unfold x); on_goal 2 => (intro hx; try clear_value x)) | refine good_keepC (x := x) (fun _ => ?_) | refine good_keepS (x := x) (fun _ => ?_) | refine good_keepM (x := x) (fun _ => ?_) | refine good_keepR (x := x) (fun _ => ?_) | refine good_keepT (x := x) (fun _ => ?_) | refine good_keepN (x := x) (fun _ => ?_) | refine good_keepF (x := x) (fun _ => ?_) | refine good_keepG (x := x) (fun _ => ?_) | clear_value x | skip); all_goals (rename' x => y))
    | with_reducible apply good_ite
    | with_reducible apply State.abort_good
    | with_reducible apply State.incSat_good
    | with_reducible apply State.slotMod_good
    | with_reducible apply State.raise_good
    | with_reducible exact good_free (by with_reducible assumption) ..
    | split
    | apply good_ite

theorem State.engMemue_good {Q : Plat → Cfg → List Instr → Prop} {s : State} (h : s.Good Q) (n issued : Nat) (hQ : Undoable Q := by first | assumption | exact undoable_const) :
    (State.engMemue n issued s).Good Q := by
  unfold State.engMemue
  repeat' first
    | with_reducible assumption
    | with_reducible apply good_ite
    | with_reducible apply State.abort_good
    | with_reducible apply State.raise_good
    | split
    | apply good_ite

theorem State.handoverAsk_good {Q : Plat → Cfg → List Instr → Prop} {s : State} (h : s.Good Q) (e out inc : Nat) :
    (State.handoverAsk e out inc s).Good Q := by
  unfold State.handoverAsk
  repeat' first
    | with_reducible assumption
    | (extract_lets +onlyGivenNames x; (first | (refine good_step (Q := Q) (x := x) ?_ ?_; (on_goal 1 => unfold x); on_goal 2 => (intro hx; try clear_value x)) | (refine good_step_fst (Q := Q) (x := x) ?_ ?_; (on_goal 1 => unfold x); on_goal 2 => (intro hx; try clear_value x)) | refine good_keepC (x := x) (fun _ => ?_) | refine good_keepS (x := x) (fun _ => ?_) | refine good_keepM (x := x) (fun _ => ?_) | refine good_keepR (x := x) (fun _ => ?_) | refine good_keepT (x := x) (fun _ => ?_) | refine good_keepN (x := x) (fun _ => ?_) | refine good_keepF (x := x) (fun _ => ?_) | refine good_keepG (x := x) (fun _ => ?_) | clear_value x | skip); all_goals (rename' x => y))
    | with_reducible apply good_ite
    | with_reducible apply State.engMod_good
    | with_reducible apply State.put_good
    | with_reducible exact good_free (by with_reducible assumption) ..
    | split
    | apply good_ite

theorem State.slotDerived_good {Q : Plat → Cfg → List Instr → Prop} {s : State} (h : s.Good Q) (n : Nat) :
    (State.slotDerived n s).Good Q := by
  unfold State.slotDerived
  repeat' first
    | with_reducible assumption
    | (extract_lets +onlyGivenNames x; (first | (refine good_step (Q := Q) (x := x) ?_ ?_; (on_goal 1 => unfold x); on_goal 2 => (intro hx; try clear_value x)) | (refine good_step_fst (Q := Q) (x := x) ?_ ?_; (on_goal 1 => unfold x); on_goal 2 => (intro hx; try clear_value x)) | refine good_keepC (x := x) (fun _ => ?_) | refine good_keepS (x := x) (fun _ => ?_) | refine good_keepM (x := x) (fun _ => ?_) | refine good_keepR (x := x) (fun _ => ?_) | refine good_keepT (x := x) (fun _ => ?_) | refine good_keepN (x := x) (fun _ => ?_) | refine good_keepF (x := x) (fun _ => ?_) | refine good_keepG (x := x) (fun _ => ?_) | clear_value x | skip); all_goals (rename' x => y))
    | with_reducible apply State.put_good
    | with_reducible exact good_free (by with_reducible assumption) ..
    | split

theorem State.slotUp_good {Q : Plat → Cfg → List Instr → Prop} {s : State} (h : s.Good Q) (n : Nat) (hQ : Undoable Q := by first | assumption | exact undoable_const) :
    (State.slotUp n s).Good Q := by
  unfold State.slotUp
  repeat' first
    | with_reducible assumption
    | (extract_lets +onlyGivenNames x; (first | (refine good_step (Q := Q) (x := x) ?_ ?_; (on_goal 1 => unfold x); on_goal 2 => (intro hx; try clear_value x)) | (refine good_step_fst (Q := Q) (x := x) ?_ ?_; (on_goal 1 => unfold x); on_goal 2 => (intro hx; try clear_value x)) | refine good_keepC (x := x) (fun _ => ?_) | refine good_keepS (x := x) (fun _ => ?_) | refine good_keepM (x := x) (fun _ => ?_) | refine good_keepR (x := x) (fun _ => ?_) | refine good_keepT (x := x) (fun _ => ?_) | refine good_keepN (x := x) (fun _ => ?_) | refine good_keepF (x := x) (fun _ => ?_) | refine good_keepG (x := x) (fun _ => ?_) | clear_value x | skip); all_goals (rename' x => y))
    | with_reducible apply good_ite
    | with_reducible apply good_ite_fst
    | with_reducible apply State.put_good
    | with_reducible apply State.leaveAsk_good
    | split
    | apply good_ite

theorem State.slotGranted_good {Q : Plat → Cfg → List Instr → Prop} {s : State} (h : s.Good Q) (n : Nat) :
    (State.slotGranted n s).Good Q := by
  unfold State.slotGranted
  repeat' first
    | with_reducible assumption
    | with_reducible apply good_ite
    | with_reducible apply State.put_good
    | split
    | apply good_ite

theorem State.slotDown_good {Q : Plat → Cfg → List Instr → Prop} {s : State} (h : s.Good Q) (n : Nat) :
    (State.slotDown n s).Good Q := by
  unfold State.slotDown
  repeat' first
    | with_reducible assumption
    | (extract_lets +onlyGivenNames x; (first | (refine good_step (Q := Q) (x := x) ?_ ?_; (on_goal 1 => unfold x); on_goal 2 => (intro hx; try clear_value x)) | (refine good_step_fst (Q := Q) (x := x) ?_ ?_; (on_goal 1 => unfold x); on_goal 2 => (intro hx; try clear_value x)) | refine good_keepC (x := x) (fun _ => ?_) | refine good_keepS (x := x) (fun _ => ?_) | refine good_keepM (x := x) (fun _ => ?_) | refine good_keepR (x := x) (fun _ => ?_) | refine good_keepT (x := x) (fun _ => ?_) | refine good_keepN (x := x) (fun _ => ?_) | refine good_keepF (x := x) (fun _ => ?_) | refine good_keepG (x := x) (fun _ => ?_) | clear_value x | skip); all_goals (rename' x => y))
    | with_reducible apply State.put_good
    | with_reducible apply State.leaveBack_good
    | with_reducible apply State.slotMod_good
    | with_reducible exact good_free (by with_reducible assumption) ..
    | split

theorem memWf_foldl_setByte {m : List Host.Cell} (h : memWf m = true) (l : List Host.Cell) (f : Host.Cell → Nat) :
    memWf (l.foldl (fun m p => setByte m (f p) p.2) m) = true := by
  induction l generalizing m with
  | nil => exact h
  | cons p l ih => exact ih (memWf_setByte h _ _)

theorem State.loadStateRegion_good {Q : Plat → Cfg → List Instr → Prop} {s : State} (h : s.Good Q) (e : Nat) : (State.loadStateRegion e s).Good Q := by
  unfold State.loadStateRegion
  exact good_mem h (memWf_foldl_setByte (memWf_filter h.mem _) _ _)

theorem State.engineReset_good {Q : Plat → Cfg → List Instr → Prop} {s : State} (h : s.Good Q) (e : Nat) :
    (State.engineReset e s).Good Q := by
  unfold State.engineReset
  repeat' first
    | with_reducible assumption
    | (intro x y hx; beta_reduce)
    | (intro x hx; beta_reduce)
    | (extract_lets +onlyGivenNames x; (first | (refine good_step (Q := Q) (x := x) ?_ ?_; (on_goal 1 => unfold x); on_goal 2 => (intro hx; try clear_value x)) | (refine good_step_fst (Q := Q) (x := x) ?_ ?_; (on_goal 1 => unfold x); on_goal 2 => (intro hx; try clear_value x)) | refine good_keepC (x := x) (fun _ => ?_) | refine good_keepS (x := x) (fun _ => ?_) | refine good_keepM (x := x) (fun _ => ?_) | refine good_keepR (x := x) (fun _ => ?_) | refine good_keepT (x := x) (fun _ => ?_) | refine good_keepN (x := x) (fun _ => ?_) | refine good_keepF (x := x) (fun _ => ?_) | refine good_keepG (x := x) (fun _ => ?_) | clear_value x | skip); all_goals (rename' x => y))
    | with_reducible apply good_ite
    | with_reducible apply good_forAll
    | with_reducible apply State.loadStateRegion_good
    | with_reducible apply State.put_good
    | with_reducible apply State.slotMod_good
    | with_reducible apply State.engMod_good
    | with_reducible apply State.supRestart_good
    | split
    | apply good_ite

end Sys2Proof.Machine
end

