-- ==== Sys2Proof/Laws/Sound/ChargePhase.lean ====
section
/-! SUPPORT. Every operation of Machine/ChargePhase.lean keeps a sound state sound. -/

set_option linter.unusedTactic false
set_option linter.unreachableTactic false
set_option linter.unusedVariables false
set_option linter.tactic.unusedName false

namespace Sys2Proof.Machine

theorem State.cpEndPhase_good {Q : Plat → Cfg → List Instr → Prop} {s : State} (h : s.Good Q) (c p cause : Nat) :
    (State.cpEndPhase c p cause s).Good Q := by
  unfold State.cpEndPhase
  repeat' first
    | with_reducible assumption
    | with_reducible apply State.cpTo_good
    | with_reducible apply State.put_good

theorem State.cpStart_good {Q : Plat → Cfg → List Instr → Prop} {s : State} (h : s.Good Q) (c : Nat) :
    (State.cpStart c s).Good Q := by
  unfold State.cpStart
  repeat' first
    | with_reducible assumption
    | (extract_lets +onlyGivenNames x; (first | (refine good_step (Q := Q) (x := x) ?_ ?_; (on_goal 1 => unfold x); on_goal 2 => (intro hx; try clear_value x)) | (refine good_step_fst (Q := Q) (x := x) ?_ ?_; (on_goal 1 => unfold x); on_goal 2 => (intro hx; try clear_value x)) | refine good_keepC (x := x) (fun _ => ?_) | refine good_keepS (x := x) (fun _ => ?_) | refine good_keepM (x := x) (fun _ => ?_) | refine good_keepR (x := x) (fun _ => ?_) | refine good_keepT (x := x) (fun _ => ?_) | refine good_keepN (x := x) (fun _ => ?_) | refine good_keepF (x := x) (fun _ => ?_) | refine good_keepG (x := x) (fun _ => ?_) | clear_value x | skip); all_goals (rename' x => y))
    | with_reducible apply good_ite
    | with_reducible apply State.cpMod_good
    | with_reducible apply State.put_good
    | with_reducible apply State.cpTo_good
    | with_reducible exact good_free (by with_reducible assumption) ..
    | split
    | apply good_ite

theorem State.cpMove_good {Q : Plat → Cfg → List Instr → Prop} {s : State} (h : s.Good Q) (c : Nat) (v : Rat) :
    (State.cpMove c v s).Good Q := by
  unfold State.cpMove
  repeat' first
    | with_reducible assumption
    | (extract_lets +onlyGivenNames x; (first | (refine good_step (Q := Q) (x := x) ?_ ?_; (on_goal 1 => unfold x); on_goal 2 => (intro hx; try clear_value x)) | (refine good_step_fst (Q := Q) (x := x) ?_ ?_; (on_goal 1 => unfold x); on_goal 2 => (intro hx; try clear_value x)) | refine good_keepC (x := x) (fun _ => ?_) | refine good_keepS (x := x) (fun _ => ?_) | refine good_keepM (x := x) (fun _ => ?_) | refine good_keepR (x := x) (fun _ => ?_) | refine good_keepT (x := x) (fun _ => ?_) | refine good_keepN (x := x) (fun _ => ?_) | refine good_keepF (x := x) (fun _ => ?_) | refine good_keepG (x := x) (fun _ => ?_) | clear_value x | skip); all_goals (rename' x => y))
    | with_reducible apply good_ite
    | with_reducible apply State.cpTo_good
    | with_reducible apply State.cpEndPhase_good
    | with_reducible apply State.cpMod_good
    | with_reducible exact good_free (by with_reducible assumption) ..
    | split
    | apply good_ite

theorem State.cpCount_good {Q : Plat → Cfg → List Instr → Prop} {s : State} (h : s.Good Q) (c : Nat) (kth : Rat) (exporting : Bool) :
    (State.cpCount c kth exporting s).Good Q := by
  unfold State.cpCount
  repeat' first
    | with_reducible assumption
    | (extract_lets +onlyGivenNames x; (first | (refine good_step (Q := Q) (x := x) ?_ ?_; (on_goal 1 => unfold x); on_goal 2 => (intro hx; try clear_value x)) | (refine good_step_fst (Q := Q) (x := x) ?_ ?_; (on_goal 1 => unfold x); on_goal 2 => (intro hx; try clear_value x)) | refine good_keepC (x := x) (fun _ => ?_) | refine good_keepS (x := x) (fun _ => ?_) | refine good_keepM (x := x) (fun _ => ?_) | refine good_keepR (x := x) (fun _ => ?_) | refine good_keepT (x := x) (fun _ => ?_) | refine good_keepN (x := x) (fun _ => ?_) | refine good_keepF (x := x) (fun _ => ?_) | refine good_keepG (x := x) (fun _ => ?_) | clear_value x | skip); all_goals (rename' x => y))
    | with_reducible apply good_ite
    | with_reducible apply State.cpMod_good
    | with_reducible apply State.put_good
    | with_reducible exact good_free (by with_reducible assumption) ..
    | split
    | apply good_ite

theorem State.cpLoop_good {Q : Plat → Cfg → List Instr → Prop} {s : State} (h : s.Good Q) (c : Nat) (v dt : Rat) :
    (State.cpLoop c v dt s).Good Q := by
  unfold State.cpLoop
  repeat' first
    | with_reducible assumption
    | (extract_lets +onlyGivenNames x; (first | (refine good_step (Q := Q) (x := x) ?_ ?_; (on_goal 1 => unfold x); on_goal 2 => (intro hx; try clear_value x)) | (refine good_step_fst (Q := Q) (x := x) ?_ ?_; (on_goal 1 => unfold x); on_goal 2 => (intro hx; try clear_value x)) | refine good_keepC (x := x) (fun _ => ?_) | refine good_keepS (x := x) (fun _ => ?_) | refine good_keepM (x := x) (fun _ => ?_) | refine good_keepR (x := x) (fun _ => ?_) | refine good_keepT (x := x) (fun _ => ?_) | refine good_keepN (x := x) (fun _ => ?_) | refine good_keepF (x := x) (fun _ => ?_) | refine good_keepG (x := x) (fun _ => ?_) | clear_value x | skip); all_goals (rename' x => y))
    | with_reducible apply State.cpMod_good
    | with_reducible exact good_free (by with_reducible assumption) ..

theorem State.cpTimeUp_good {Q : Plat → Cfg → List Instr → Prop} {s : State} (h : s.Good Q) (c : Nat) (hQ : Undoable Q := by first | assumption | exact undoable_const) :
    (State.cpTimeUp c s).Good Q := by
  unfold State.cpTimeUp
  repeat' first
    | with_reducible assumption
    | with_reducible apply good_ite
    | with_reducible apply State.cpEndPhase_good
    | with_reducible apply State.raise_good
    | split
    | apply good_ite

theorem State.cpUpdate_good {Q : Plat → Cfg → List Instr → Prop} {s : State} (h : s.Good Q) (c : Nat) (kth : Rat) (exporting tandem : Bool) (hQ : Undoable Q := by first | assumption | exact undoable_const) :
    (State.cpUpdate c kth exporting tandem s).Good Q := by
  unfold State.cpUpdate
  repeat' first
    | with_reducible assumption
    | (extract_lets +onlyGivenNames x; (first | (refine good_step (Q := Q) (x := x) ?_ ?_; (on_goal 1 => unfold x); on_goal 2 => (intro hx; try clear_value x)) | (refine good_step_fst (Q := Q) (x := x) ?_ ?_; (on_goal 1 => unfold x); on_goal 2 => (intro hx; try clear_value x)) | refine good_keepC (x := x) (fun _ => ?_) | refine good_keepS (x := x) (fun _ => ?_) | refine good_keepM (x := x) (fun _ => ?_) | refine good_keepR (x := x) (fun _ => ?_) | refine good_keepT (x := x) (fun _ => ?_) | refine good_keepN (x := x) (fun _ => ?_) | refine good_keepF (x := x) (fun _ => ?_) | refine good_keepG (x := x) (fun _ => ?_) | clear_value x | skip); all_goals (rename' x => y))
    | with_reducible apply good_ite
    | with_reducible apply State.put_good
    | with_reducible apply State.raise_good
    | with_reducible apply State.cpMove_good
    | with_reducible apply State.putF_good
    | with_reducible apply State.cpLoop_good
    | with_reducible apply State.cpCount_good
    | with_reducible apply State.cpTimeUp_good
    | split
    | apply good_ite

theorem State.cpEvaluated_good {Q : Plat → Cfg → List Instr → Prop} {s : State} (h : s.Good Q) (c v : Nat) :
    (State.cpEvaluated c v s).Good Q := by
  unfold State.cpEvaluated
  repeat' first
    | with_reducible assumption
    | (extract_lets +onlyGivenNames x; (first | (refine good_step (Q := Q) (x := x) ?_ ?_; (on_goal 1 => unfold x); on_goal 2 => (intro hx; try clear_value x)) | (refine good_step_fst (Q := Q) (x := x) ?_ ?_; (on_goal 1 => unfold x); on_goal 2 => (intro hx; try clear_value x)) | refine good_keepC (x := x) (fun _ => ?_) | refine good_keepS (x := x) (fun _ => ?_) | refine good_keepM (x := x) (fun _ => ?_) | refine good_keepR (x := x) (fun _ => ?_) | refine good_keepT (x := x) (fun _ => ?_) | refine good_keepN (x := x) (fun _ => ?_) | refine good_keepF (x := x) (fun _ => ?_) | refine good_keepG (x := x) (fun _ => ?_) | clear_value x | skip); all_goals (rename' x => y))
    | with_reducible apply good_ite
    | with_reducible apply State.cpTo_good
    | with_reducible apply State.cpEndPhase_good
    | split
    | apply good_ite

theorem State.cpTapered_good {Q : Plat → Cfg → List Instr → Prop} {s : State} (h : s.Good Q) (c : Nat) :
    (State.cpTapered c s).Good Q := by
  unfold State.cpTapered
  repeat' first
    | with_reducible assumption
    | with_reducible apply good_ite
    | with_reducible apply State.cpEndPhase_good
    | split
    | apply good_ite

theorem State.cpReset_good {Q : Plat → Cfg → List Instr → Prop} {s : State} (h : s.Good Q) (c : Nat) :
    (State.cpReset c s).Good Q := by
  unfold State.cpReset
  repeat' first
    | with_reducible assumption
    | (extract_lets +onlyGivenNames x; (first | (refine good_step (Q := Q) (x := x) ?_ ?_; (on_goal 1 => unfold x); on_goal 2 => (intro hx; try clear_value x)) | (refine good_step_fst (Q := Q) (x := x) ?_ ?_; (on_goal 1 => unfold x); on_goal 2 => (intro hx; try clear_value x)) | refine good_keepC (x := x) (fun _ => ?_) | refine good_keepS (x := x) (fun _ => ?_) | refine good_keepM (x := x) (fun _ => ?_) | refine good_keepR (x := x) (fun _ => ?_) | refine good_keepT (x := x) (fun _ => ?_) | refine good_keepN (x := x) (fun _ => ?_) | refine good_keepF (x := x) (fun _ => ?_) | refine good_keepG (x := x) (fun _ => ?_) | clear_value x | skip); all_goals (rename' x => y))
    | with_reducible apply State.cpMod_good
    | with_reducible apply State.cpTo_good
    | with_reducible apply State.put_good

end Sys2Proof.Machine
end

