-- ==== Sys2Proof/Laws/Sound/Winding.lean ====
section
/-! SUPPORT. Every operation of Machine/Winding.lean keeps a sound state sound. -/

set_option linter.unusedTactic false
set_option linter.unreachableTactic false
set_option linter.unusedVariables false
set_option linter.tactic.unusedName false

namespace Sys2Proof.Machine

theorem State.wcOpenAll_good {Q : Plat → Cfg → List Instr → Prop} {s : State} (h : s.Good Q) :
    (State.wcOpenAll s).Good Q := by
  unfold State.wcOpenAll
  repeat' first
    | with_reducible assumption
    | (intro x y hx; beta_reduce)
    | (intro x hx; beta_reduce)
    | with_reducible apply good_forAll
    | with_reducible apply State.soRelease_good

theorem State.wcGroupsOff_good {Q : Plat → Cfg → List Instr → Prop} {s : State} (h : s.Good Q) :
    (State.wcGroupsOff s).Good Q := by
  unfold State.wcGroupsOff
  repeat' first
    | with_reducible assumption
    | (intro x y hx; beta_reduce)
    | (intro x hx; beta_reduce)
    | with_reducible apply good_forAll
    | with_reducible apply State.groupOff_good
    | with_reducible apply State.put_good

theorem State.wcZero_good {Q : Plat → Cfg → List Instr → Prop} {s : State} (h : s.Good Q) :
    (State.wcZero s).Good Q := by
  unfold State.wcZero
  repeat' first
    | with_reducible assumption
    | (extract_lets +onlyGivenNames x; (first | (refine good_step (Q := Q) (x := x) ?_ ?_; (on_goal 1 => unfold x); on_goal 2 => (intro hx; try clear_value x)) | (refine good_step_fst (Q := Q) (x := x) ?_ ?_; (on_goal 1 => unfold x); on_goal 2 => (intro hx; try clear_value x)) | refine good_keepC (x := x) (fun _ => ?_) | refine good_keepS (x := x) (fun _ => ?_) | refine good_keepM (x := x) (fun _ => ?_) | refine good_keepR (x := x) (fun _ => ?_) | refine good_keepT (x := x) (fun _ => ?_) | refine good_keepN (x := x) (fun _ => ?_) | refine good_keepF (x := x) (fun _ => ?_) | refine good_keepG (x := x) (fun _ => ?_) | clear_value x | skip); all_goals (rename' x => y))
    | with_reducible apply State.put_good
    | with_reducible exact good_free (by with_reducible assumption) ..

theorem State.wcBegin_good {Q : Plat → Cfg → List Instr → Prop} {s : State} (h : s.Good Q) (topology : Nat) :
    (State.wcBegin topology s).Good Q := by
  unfold State.wcBegin
  repeat' first
    | with_reducible assumption
    | (extract_lets +onlyGivenNames x; (first | (refine good_step (Q := Q) (x := x) ?_ ?_; (on_goal 1 => unfold x); on_goal 2 => (intro hx; try clear_value x)) | (refine good_step_fst (Q := Q) (x := x) ?_ ?_; (on_goal 1 => unfold x); on_goal 2 => (intro hx; try clear_value x)) | refine good_keepC (x := x) (fun _ => ?_) | refine good_keepS (x := x) (fun _ => ?_) | refine good_keepM (x := x) (fun _ => ?_) | refine good_keepR (x := x) (fun _ => ?_) | refine good_keepT (x := x) (fun _ => ?_) | refine good_keepN (x := x) (fun _ => ?_) | refine good_keepF (x := x) (fun _ => ?_) | refine good_keepG (x := x) (fun _ => ?_) | clear_value x | skip); all_goals (rename' x => y))
    | with_reducible apply good_ite
    | with_reducible apply State.put_good
    | with_reducible apply State.soRequest_good
    | with_reducible exact good_free (by with_reducible assumption) ..
    | split
    | apply good_ite

theorem State.wcEnd_good {Q : Plat → Cfg → List Instr → Prop} {s : State} (h : s.Good Q) :
    (State.wcEnd s).Good Q := by
  unfold State.wcEnd
  repeat' first
    | with_reducible assumption
    | with_reducible apply good_ite
    | with_reducible apply State.wcGroupsOff_good
    | with_reducible apply State.wcZero_good
    | with_reducible apply State.wcOpenAll_good
    | with_reducible apply State.put_good
    | with_reducible apply State.cpStop_good
    | split
    | apply good_ite

theorem State.wcContactorFault_good {Q : Plat → Cfg → List Instr → Prop} {s : State} (h : s.Good Q)  (hQ : Undoable Q := by first | assumption | exact undoable_const) :
    (State.wcContactorFault s).Good Q := by
  unfold State.wcContactorFault
  repeat' first
    | with_reducible assumption
    | with_reducible apply State.wcGroupsOff_good
    | with_reducible apply State.wcZero_good
    | with_reducible apply State.wcOpenAll_good
    | with_reducible apply State.put_good
    | with_reducible apply State.raise_good

theorem State.starConfirmed_good {Q : Plat → Cfg → List Instr → Prop} {s : State} (h : s.Good Q) (ok : Bool) (hQ : Undoable Q := by first | assumption | exact undoable_const) :
    (State.starConfirmed ok s).Good Q := by
  unfold State.starConfirmed
  repeat' first
    | with_reducible assumption
    | with_reducible apply good_ite
    | with_reducible apply State.put_good
    | with_reducible apply State.wcContactorFault_good
    | split
    | apply good_ite

theorem State.wcConnect_good {Q : Plat → Cfg → List Instr → Prop} {s : State} (h : s.Good Q) (volts : Nat) :
    (State.wcConnect volts s).Good Q := by
  unfold State.wcConnect
  repeat' first
    | with_reducible assumption
    | (extract_lets +onlyGivenNames x; (first | (refine good_step (Q := Q) (x := x) ?_ ?_; (on_goal 1 => unfold x); on_goal 2 => (intro hx; try clear_value x)) | (refine good_step_fst (Q := Q) (x := x) ?_ ?_; (on_goal 1 => unfold x); on_goal 2 => (intro hx; try clear_value x)) | refine good_keepC (x := x) (fun _ => ?_) | refine good_keepS (x := x) (fun _ => ?_) | refine good_keepM (x := x) (fun _ => ?_) | refine good_keepR (x := x) (fun _ => ?_) | refine good_keepT (x := x) (fun _ => ?_) | refine good_keepN (x := x) (fun _ => ?_) | refine good_keepF (x := x) (fun _ => ?_) | refine good_keepG (x := x) (fun _ => ?_) | clear_value x | skip); all_goals (rename' x => y))
    | with_reducible apply good_ite
    | with_reducible apply State.put_good
    | with_reducible apply State.soRequest_good
    | split
    | apply good_ite

theorem State.gridConfirmed_good {Q : Plat → Cfg → List Instr → Prop} {s : State} (h : s.Good Q) (ok : Bool) (hQ : Undoable Q := by first | assumption | exact undoable_const) :
    (State.gridConfirmed ok s).Good Q := by
  unfold State.gridConfirmed
  repeat' first
    | with_reducible assumption
    | (intro x y hx; beta_reduce)
    | (intro x hx; beta_reduce)
    | (extract_lets +onlyGivenNames x; (first | (refine good_step (Q := Q) (x := x) ?_ ?_; (on_goal 1 => unfold x); on_goal 2 => (intro hx; try clear_value x)) | (refine good_step_fst (Q := Q) (x := x) ?_ ?_; (on_goal 1 => unfold x); on_goal 2 => (intro hx; try clear_value x)) | refine good_keepC (x := x) (fun _ => ?_) | refine good_keepS (x := x) (fun _ => ?_) | refine good_keepM (x := x) (fun _ => ?_) | refine good_keepR (x := x) (fun _ => ?_) | refine good_keepT (x := x) (fun _ => ?_) | refine good_keepN (x := x) (fun _ => ?_) | refine good_keepF (x := x) (fun _ => ?_) | refine good_keepG (x := x) (fun _ => ?_) | clear_value x | skip); all_goals (rename' x => y))
    | with_reducible apply good_ite
    | with_reducible apply good_forAll
    | with_reducible apply State.put_good
    | with_reducible apply State.cpStart_good
    | with_reducible apply State.mtrOpen_good
    | with_reducible apply State.wcContactorFault_good
    | split
    | apply good_ite

theorem State.requestEnds_good {Q : Plat → Cfg → List Instr → Prop} {s : State} (h : s.Good Q) (target code : Nat) :
    (State.requestEnds target code s).Good Q := by
  unfold State.requestEnds
  repeat' first
    | with_reducible assumption
    | (extract_lets +onlyGivenNames x; (first | (refine good_step (Q := Q) (x := x) ?_ ?_; (on_goal 1 => unfold x); on_goal 2 => (intro hx; try clear_value x)) | (refine good_step_fst (Q := Q) (x := x) ?_ ?_; (on_goal 1 => unfold x); on_goal 2 => (intro hx; try clear_value x)) | refine good_keepC (x := x) (fun _ => ?_) | refine good_keepS (x := x) (fun _ => ?_) | refine good_keepM (x := x) (fun _ => ?_) | refine good_keepR (x := x) (fun _ => ?_) | refine good_keepT (x := x) (fun _ => ?_) | refine good_keepN (x := x) (fun _ => ?_) | refine good_keepF (x := x) (fun _ => ?_) | refine good_keepG (x := x) (fun _ => ?_) | clear_value x | skip); all_goals (rename' x => y))
    | with_reducible apply good_ite
    | with_reducible apply State.put_good
    | with_reducible exact good_free (by with_reducible assumption) ..
    | split
    | apply good_ite

theorem State.wcLinkLow_good {Q : Plat → Cfg → List Instr → Prop} {s : State} (h : s.Good Q)  (hQ : Undoable Q := by first | assumption | exact undoable_const) :
    (State.wcLinkLow s).Good Q := by
  unfold State.wcLinkLow
  repeat' first
    | with_reducible assumption
    | with_reducible apply good_ite
    | with_reducible apply State.wcEnd_good
    | with_reducible apply State.requestEnds_good
    | with_reducible apply State.raise_good
    | with_reducible apply State.sessionEnd_good
    | split
    | apply good_ite

theorem State.wcGridRef_good {Q : Plat → Cfg → List Instr → Prop} {s : State} (h : s.Good Q)  (hQ : Undoable Q := by first | assumption | exact undoable_const) :
    (State.wcGridRef s).Good Q := by
  unfold State.wcGridRef
  repeat' first
    | with_reducible assumption
    | (extract_lets +onlyGivenNames x; (first | (refine good_step (Q := Q) (x := x) ?_ ?_; (on_goal 1 => unfold x); on_goal 2 => (intro hx; try clear_value x)) | (refine good_step_fst (Q := Q) (x := x) ?_ ?_; (on_goal 1 => unfold x); on_goal 2 => (intro hx; try clear_value x)) | refine good_keepC (x := x) (fun _ => ?_) | refine good_keepS (x := x) (fun _ => ?_) | refine good_keepM (x := x) (fun _ => ?_) | refine good_keepR (x := x) (fun _ => ?_) | refine good_keepT (x := x) (fun _ => ?_) | refine good_keepN (x := x) (fun _ => ?_) | refine good_keepF (x := x) (fun _ => ?_) | refine good_keepG (x := x) (fun _ => ?_) | clear_value x | skip); all_goals (rename' x => y))
    | with_reducible apply good_ite
    | with_reducible apply State.raise_good
    | with_reducible apply State.putF_good
    | with_reducible apply State.put_good
    | with_reducible exact good_free (by with_reducible assumption) ..
    | split
    | apply good_ite

theorem State.wcBoostRef_good {Q : Plat → Cfg → List Instr → Prop} {s : State} (h : s.Good Q) :
    (State.wcBoostRef s).Good Q := by
  unfold State.wcBoostRef
  repeat' first
    | with_reducible assumption
    | (extract_lets +onlyGivenNames x; (first | (refine good_step (Q := Q) (x := x) ?_ ?_; (on_goal 1 => unfold x); on_goal 2 => (intro hx; try clear_value x)) | (refine good_step_fst (Q := Q) (x := x) ?_ ?_; (on_goal 1 => unfold x); on_goal 2 => (intro hx; try clear_value x)) | refine good_keepC (x := x) (fun _ => ?_) | refine good_keepS (x := x) (fun _ => ?_) | refine good_keepM (x := x) (fun _ => ?_) | refine good_keepR (x := x) (fun _ => ?_) | refine good_keepT (x := x) (fun _ => ?_) | refine good_keepN (x := x) (fun _ => ?_) | refine good_keepF (x := x) (fun _ => ?_) | refine good_keepG (x := x) (fun _ => ?_) | clear_value x | skip); all_goals (rename' x => y))
    | with_reducible apply good_ite
    | with_reducible apply State.put_good
    | with_reducible exact good_free (by with_reducible assumption) ..
    | split
    | apply good_ite

theorem State.wcDown_good {Q : Plat → Cfg → List Instr → Prop} {s : State} (h : s.Good Q) :
    (State.wcDown s).Good Q := by
  unfold State.wcDown
  repeat' first
    | with_reducible assumption
    | (extract_lets +onlyGivenNames x; (first | (refine good_step (Q := Q) (x := x) ?_ ?_; (on_goal 1 => unfold x); on_goal 2 => (intro hx; try clear_value x)) | (refine good_step_fst (Q := Q) (x := x) ?_ ?_; (on_goal 1 => unfold x); on_goal 2 => (intro hx; try clear_value x)) | refine good_keepC (x := x) (fun _ => ?_) | refine good_keepS (x := x) (fun _ => ?_) | refine good_keepM (x := x) (fun _ => ?_) | refine good_keepR (x := x) (fun _ => ?_) | refine good_keepT (x := x) (fun _ => ?_) | refine good_keepN (x := x) (fun _ => ?_) | refine good_keepF (x := x) (fun _ => ?_) | refine good_keepG (x := x) (fun _ => ?_) | clear_value x | skip); all_goals (rename' x => y))
    | with_reducible apply State.putF_good
    | with_reducible exact good_free (by with_reducible assumption) ..
    | split

theorem State.wcRamp_good {Q : Plat → Cfg → List Instr → Prop} {s : State} (h : s.Good Q) :
    (State.wcRamp s).Good Q := by
  unfold State.wcRamp
  repeat' first
    | with_reducible assumption
    | (extract_lets +onlyGivenNames x; (first | (refine good_step (Q := Q) (x := x) ?_ ?_; (on_goal 1 => unfold x); on_goal 2 => (intro hx; try clear_value x)) | (refine good_step_fst (Q := Q) (x := x) ?_ ?_; (on_goal 1 => unfold x); on_goal 2 => (intro hx; try clear_value x)) | refine good_keepC (x := x) (fun _ => ?_) | refine good_keepS (x := x) (fun _ => ?_) | refine good_keepM (x := x) (fun _ => ?_) | refine good_keepR (x := x) (fun _ => ?_) | refine good_keepT (x := x) (fun _ => ?_) | refine good_keepN (x := x) (fun _ => ?_) | refine good_keepF (x := x) (fun _ => ?_) | refine good_keepG (x := x) (fun _ => ?_) | clear_value x | skip); all_goals (rename' x => y))
    | with_reducible apply good_ite
    | with_reducible apply State.put_good
    | with_reducible exact good_free (by with_reducible assumption) ..
    | split
    | apply good_ite

theorem State.wcParkLost_good {Q : Plat → Cfg → List Instr → Prop} {s : State} (h : s.Good Q) (a : Nat) (hQ : Undoable Q := by first | assumption | exact undoable_const) :
    (State.wcParkLost a s).Good Q := by
  unfold State.wcParkLost
  repeat' first
    | with_reducible assumption
    | with_reducible apply good_ite
    | with_reducible apply State.wcGroupsOff_good
    | with_reducible apply State.wcZero_good
    | with_reducible apply State.wcOpenAll_good
    | with_reducible apply State.raise_good
    | with_reducible apply State.sessionEnd_good
    | split
    | apply good_ite

theorem State.wcUpdate_good {Q : Plat → Cfg → List Instr → Prop} {s : State} (h : s.Good Q) (volts power : Nat) (hQ : Undoable Q := by first | assumption | exact undoable_const) :
    (State.wcUpdate volts power s).Good Q := by
  unfold State.wcUpdate
  repeat' first
    | with_reducible assumption
    | (extract_lets +onlyGivenNames x; (first | (refine good_step (Q := Q) (x := x) ?_ ?_; (on_goal 1 => unfold x); on_goal 2 => (intro hx; try clear_value x)) | (refine good_step_fst (Q := Q) (x := x) ?_ ?_; (on_goal 1 => unfold x); on_goal 2 => (intro hx; try clear_value x)) | refine good_keepC (x := x) (fun _ => ?_) | refine good_keepS (x := x) (fun _ => ?_) | refine good_keepM (x := x) (fun _ => ?_) | refine good_keepR (x := x) (fun _ => ?_) | refine good_keepT (x := x) (fun _ => ?_) | refine good_keepN (x := x) (fun _ => ?_) | refine good_keepF (x := x) (fun _ => ?_) | refine good_keepG (x := x) (fun _ => ?_) | clear_value x | skip); all_goals (rename' x => y))
    | with_reducible apply good_ite
    | with_reducible apply State.put_good
    | with_reducible apply State.wcParkLost_good
    | with_reducible apply State.wcGridRef_good
    | with_reducible apply State.wcBoostRef_good
    | with_reducible apply State.wcDown_good
    | with_reducible exact good_free (by with_reducible assumption) ..
    | split
    | apply good_ite

theorem State.wcWords_good {Q : Plat → Cfg → List Instr → Prop} {s : State} (h : s.Good Q) (n : Nat) :
    (State.wcWords n s).Good Q := by
  unfold State.wcWords
  repeat' first
    | with_reducible assumption
    | (extract_lets +onlyGivenNames x; (first | (refine good_step (Q := Q) (x := x) ?_ ?_; (on_goal 1 => unfold x); on_goal 2 => (intro hx; try clear_value x)) | (refine good_step_fst (Q := Q) (x := x) ?_ ?_; (on_goal 1 => unfold x); on_goal 2 => (intro hx; try clear_value x)) | refine good_keepC (x := x) (fun _ => ?_) | refine good_keepS (x := x) (fun _ => ?_) | refine good_keepM (x := x) (fun _ => ?_) | refine good_keepR (x := x) (fun _ => ?_) | refine good_keepT (x := x) (fun _ => ?_) | refine good_keepN (x := x) (fun _ => ?_) | refine good_keepF (x := x) (fun _ => ?_) | refine good_keepG (x := x) (fun _ => ?_) | clear_value x | skip); all_goals (rename' x => y))
    | with_reducible apply good_ite
    | with_reducible apply State.slotMod_good
    | with_reducible exact good_free (by with_reducible assumption) ..
    | split
    | apply good_ite

theorem State.wcGridTrip_good {Q : Plat → Cfg → List Instr → Prop} {s : State} (h : s.Good Q) (cause : Nat) (hQ : Undoable Q := by first | assumption | exact undoable_const) :
    (State.wcGridTrip cause s).Good Q := by
  unfold State.wcGridTrip
  repeat' first
    | with_reducible assumption
    | (extract_lets +onlyGivenNames x; (first | (refine good_step (Q := Q) (x := x) ?_ ?_; (on_goal 1 => unfold x); on_goal 2 => (intro hx; try clear_value x)) | (refine good_step_fst (Q := Q) (x := x) ?_ ?_; (on_goal 1 => unfold x); on_goal 2 => (intro hx; try clear_value x)) | refine good_keepC (x := x) (fun _ => ?_) | refine good_keepS (x := x) (fun _ => ?_) | refine good_keepM (x := x) (fun _ => ?_) | refine good_keepR (x := x) (fun _ => ?_) | refine good_keepT (x := x) (fun _ => ?_) | refine good_keepN (x := x) (fun _ => ?_) | refine good_keepF (x := x) (fun _ => ?_) | refine good_keepG (x := x) (fun _ => ?_) | clear_value x | skip); all_goals (rename' x => y))
    | with_reducible apply good_ite
    | with_reducible apply State.wcZero_good
    | with_reducible apply State.wcGroupsOff_good
    | with_reducible apply State.soRelease_good
    | with_reducible apply State.put_good
    | with_reducible apply State.incSat_good
    | with_reducible apply State.wcOpenAll_good
    | with_reducible apply State.raise_good
    | with_reducible exact good_free (by with_reducible assumption) ..
    | split
    | apply good_ite

theorem State.wcGridTick_good {Q : Plat → Cfg → List Instr → Prop} {s : State} (h : s.Good Q)  (hQ : Undoable Q := by first | assumption | exact undoable_const) :
    (State.wcGridTick s).Good Q := by
  unfold State.wcGridTick
  repeat' first
    | with_reducible assumption
    | (intro x hx; exact hx)
    | (intro x hx; exact le_trans (List.length_filter_le _ _) hx)
    | (intro x hx; simp only [List.length_nil]; omega)
    | (extract_lets +onlyGivenNames x; (first | (refine good_step (Q := Q) (x := x) ?_ ?_; (on_goal 1 => unfold x); on_goal 2 => (intro hx; try clear_value x)) | (refine good_step_fst (Q := Q) (x := x) ?_ ?_; (on_goal 1 => unfold x); on_goal 2 => (intro hx; try clear_value x)) | refine good_keepC (x := x) (fun _ => ?_) | refine good_keepS (x := x) (fun _ => ?_) | refine good_keepM (x := x) (fun _ => ?_) | refine good_keepR (x := x) (fun _ => ?_) | refine good_keepT (x := x) (fun _ => ?_) | refine good_keepN (x := x) (fun _ => ?_) | refine good_keepF (x := x) (fun _ => ?_) | refine good_keepG (x := x) (fun _ => ?_) | clear_value x | skip); all_goals (rename' x => y))
    | with_reducible apply good_ite
    | with_reducible apply State.putF_good
    | with_reducible apply State.tbMod_good
    | with_reducible apply State.put_good
    | with_reducible apply State.wcGridTrip_good
    | with_reducible refine good_tb (by with_reducible assumption) ?_ ?_
    | with_reducible exact good_free (by with_reducible assumption) ..
    | split
    | apply good_ite

theorem State.wcReconnect_good {Q : Plat → Cfg → List Instr → Prop} {s : State} (h : s.Good Q) (volts : Nat) :
    (State.wcReconnect volts s).Good Q := by
  unfold State.wcReconnect
  repeat' first
    | with_reducible assumption
    | (extract_lets +onlyGivenNames x; (first | (refine good_step (Q := Q) (x := x) ?_ ?_; (on_goal 1 => unfold x); on_goal 2 => (intro hx; try clear_value x)) | (refine good_step_fst (Q := Q) (x := x) ?_ ?_; (on_goal 1 => unfold x); on_goal 2 => (intro hx; try clear_value x)) | refine good_keepC (x := x) (fun _ => ?_) | refine good_keepS (x := x) (fun _ => ?_) | refine good_keepM (x := x) (fun _ => ?_) | refine good_keepR (x := x) (fun _ => ?_) | refine good_keepT (x := x) (fun _ => ?_) | refine good_keepN (x := x) (fun _ => ?_) | refine good_keepF (x := x) (fun _ => ?_) | refine good_keepG (x := x) (fun _ => ?_) | clear_value x | skip); all_goals (rename' x => y))
    | with_reducible apply good_ite
    | with_reducible apply State.put_good
    | with_reducible apply State.wcConnect_good
    | with_reducible exact good_free (by with_reducible assumption) ..
    | split
    | apply good_ite

theorem State.wcBattLoss_good {Q : Plat → Cfg → List Instr → Prop} {s : State} (h : s.Good Q)  (hQ : Undoable Q := by first | assumption | exact undoable_const) :
    (State.wcBattLoss s).Good Q := by
  unfold State.wcBattLoss
  repeat' first
    | with_reducible assumption
    | (extract_lets +onlyGivenNames x; (first | (refine good_step (Q := Q) (x := x) ?_ ?_; (on_goal 1 => unfold x); on_goal 2 => (intro hx; try clear_value x)) | (refine good_step_fst (Q := Q) (x := x) ?_ ?_; (on_goal 1 => unfold x); on_goal 2 => (intro hx; try clear_value x)) | refine good_keepC (x := x) (fun _ => ?_) | refine good_keepS (x := x) (fun _ => ?_) | refine good_keepM (x := x) (fun _ => ?_) | refine good_keepR (x := x) (fun _ => ?_) | refine good_keepT (x := x) (fun _ => ?_) | refine good_keepN (x := x) (fun _ => ?_) | refine good_keepF (x := x) (fun _ => ?_) | refine good_keepG (x := x) (fun _ => ?_) | clear_value x | skip); all_goals (rename' x => y))
    | with_reducible apply good_ite
    | with_reducible apply State.wcZero_good
    | with_reducible apply State.wcGroupsOff_good
    | with_reducible apply State.soRelease_good
    | with_reducible apply State.cpEndPhase_good
    | with_reducible apply State.put_good
    | with_reducible apply State.raise_good
    | with_reducible apply State.sessionEnd_good
    | split
    | apply good_ite

end Sys2Proof.Machine
end

