-- ==== Sys2Proof/Laws/Sound/Actuators.lean ====
section
/-! SUPPORT. Every operation of Machine/Actuators.lean keeps a sound state sound. -/

set_option linter.unusedTactic false
set_option linter.unreachableTactic false
set_option linter.unusedVariables false
set_option linter.tactic.unusedName false

namespace Sys2Proof.Machine

theorem State.gaShow_good {Q : Plat → Cfg → List Instr → Prop} {s : State} (h : s.Good Q) (a : Nat) :
    (State.gaShow a s).Good Q := by
  unfold State.gaShow
  repeat' first
    | with_reducible assumption
    | with_reducible apply State.putF_good

theorem State.gaPark_good {Q : Plat → Cfg → List Instr → Prop} {s : State} (h : s.Good Q) (a : Nat) :
    (State.gaPark a s).Good Q := by
  unfold State.gaPark
  repeat' first
    | with_reducible assumption
    | with_reducible apply good_ite
    | with_reducible apply State.put_good
    | split
    | apply good_ite

theorem State.gaIdle_good {Q : Plat → Cfg → List Instr → Prop} {s : State} (h : s.Good Q) (a : Nat) :
    (State.gaIdle a s).Good Q := by
  unfold State.gaIdle
  repeat' first
    | with_reducible assumption
    | with_reducible apply good_ite
    | with_reducible apply State.put_good
    | split
    | apply good_ite

theorem State.gaOff_good {Q : Plat → Cfg → List Instr → Prop} {s : State} (h : s.Good Q) (a : Nat) :
    (State.gaOff a s).Good Q := by
  unfold State.gaOff
  repeat' first
    | with_reducible assumption
    | (intro x y hx; beta_reduce)
    | (intro x hx; beta_reduce)
    | with_reducible apply good_forAll
    | with_reducible apply State.groupOff_good
    | with_reducible apply State.put_good

theorem State.gaFail_good {Q : Plat → Cfg → List Instr → Prop} {s : State} (h : s.Good Q) (a code inst : Nat) (hQ : Undoable Q := by first | assumption | exact undoable_const) :
    (State.gaFail a code inst s).Good Q := by
  unfold State.gaFail
  repeat' first
    | with_reducible assumption
    | (extract_lets +onlyGivenNames x; (first | (refine good_step (Q := Q) (x := x) ?_ ?_; (on_goal 1 => unfold x); on_goal 2 => (intro hx; try clear_value x)) | (refine good_step_fst (Q := Q) (x := x) ?_ ?_; (on_goal 1 => unfold x); on_goal 2 => (intro hx; try clear_value x)) | refine good_keepC (x := x) (fun _ => ?_) | refine good_keepS (x := x) (fun _ => ?_) | refine good_keepM (x := x) (fun _ => ?_) | refine good_keepR (x := x) (fun _ => ?_) | refine good_keepT (x := x) (fun _ => ?_) | refine good_keepN (x := x) (fun _ => ?_) | refine good_keepF (x := x) (fun _ => ?_) | refine good_keepG (x := x) (fun _ => ?_) | clear_value x | skip); all_goals (rename' x => y))
    | with_reducible apply State.put_good
    | with_reducible apply State.gaOff_good
    | with_reducible apply State.gaPark_good
    | with_reducible apply State.raise_good
    | with_reducible apply State.wcParkLost_good

theorem State.gaAbort_good {Q : Plat → Cfg → List Instr → Prop} {s : State} (h : s.Good Q) (a : Nat) :
    (State.gaAbort a s).Good Q := by
  unfold State.gaAbort
  repeat' first
    | with_reducible assumption
    | (extract_lets +onlyGivenNames x; (first | (refine good_step (Q := Q) (x := x) ?_ ?_; (on_goal 1 => unfold x); on_goal 2 => (intro hx; try clear_value x)) | (refine good_step_fst (Q := Q) (x := x) ?_ ?_; (on_goal 1 => unfold x); on_goal 2 => (intro hx; try clear_value x)) | refine good_keepC (x := x) (fun _ => ?_) | refine good_keepS (x := x) (fun _ => ?_) | refine good_keepM (x := x) (fun _ => ?_) | refine good_keepR (x := x) (fun _ => ?_) | refine good_keepT (x := x) (fun _ => ?_) | refine good_keepN (x := x) (fun _ => ?_) | refine good_keepF (x := x) (fun _ => ?_) | refine good_keepG (x := x) (fun _ => ?_) | clear_value x | skip); all_goals (rename' x => y))
    | with_reducible apply State.put_good
    | with_reducible apply State.gaMod_good
    | with_reducible apply State.gaIdle_good
    | with_reducible apply State.note_good
    | with_reducible apply State.gaPark_good
    | with_reducible exact good_free (by with_reducible assumption) ..

theorem State.gaMove_good {Q : Plat → Cfg → List Instr → Prop} {s : State} (h : s.Good Q) (a i st : Nat) :
    (State.gaMove a i st s).Good Q := by
  unfold State.gaMove
  repeat' first
    | with_reducible assumption
    | (intro x y hx; beta_reduce)
    | (intro x hx; beta_reduce)
    | (extract_lets +onlyGivenNames x; (first | (refine good_step (Q := Q) (x := x) ?_ ?_; (on_goal 1 => unfold x); on_goal 2 => (intro hx; try clear_value x)) | (refine good_step_fst (Q := Q) (x := x) ?_ ?_; (on_goal 1 => unfold x); on_goal 2 => (intro hx; try clear_value x)) | refine good_keepC (x := x) (fun _ => ?_) | refine good_keepS (x := x) (fun _ => ?_) | refine good_keepM (x := x) (fun _ => ?_) | refine good_keepR (x := x) (fun _ => ?_) | refine good_keepT (x := x) (fun _ => ?_) | refine good_keepN (x := x) (fun _ => ?_) | refine good_keepF (x := x) (fun _ => ?_) | refine good_keepG (x := x) (fun _ => ?_) | clear_value x | skip); all_goals (rename' x => y))
    | with_reducible apply good_ite
    | with_reducible apply good_forAll
    | with_reducible apply State.runGroup_good
    | with_reducible apply State.gaMod_good
    | with_reducible apply State.put_good
    | with_reducible apply State.gaPark_good
    | with_reducible exact good_free (by with_reducible assumption) ..
    | split
    | apply good_ite

theorem State.gaEngage_good {Q : Plat → Cfg → List Instr → Prop} {s : State} (h : s.Good Q) (a : Nat) :
    (State.gaEngage a s).Good Q := by
  unfold State.gaEngage
  repeat' first
    | with_reducible assumption
    | (extract_lets +onlyGivenNames x; (first | (refine good_step (Q := Q) (x := x) ?_ ?_; (on_goal 1 => unfold x); on_goal 2 => (intro hx; try clear_value x)) | (refine good_step_fst (Q := Q) (x := x) ?_ ?_; (on_goal 1 => unfold x); on_goal 2 => (intro hx; try clear_value x)) | refine good_keepC (x := x) (fun _ => ?_) | refine good_keepS (x := x) (fun _ => ?_) | refine good_keepM (x := x) (fun _ => ?_) | refine good_keepR (x := x) (fun _ => ?_) | refine good_keepT (x := x) (fun _ => ?_) | refine good_keepN (x := x) (fun _ => ?_) | refine good_keepF (x := x) (fun _ => ?_) | refine good_keepG (x := x) (fun _ => ?_) | clear_value x | skip); all_goals (rename' x => y))
    | with_reducible apply State.gaMod_good
    | with_reducible apply State.gaMove_good
    | with_reducible exact good_free (by with_reducible assumption) ..

theorem State.gaSync_good {Q : Plat → Cfg → List Instr → Prop} {s : State} (h : s.Good Q) (a : Nat) :
    (State.gaSync a s).Good Q := by
  unfold State.gaSync
  repeat' first
    | with_reducible assumption
    | (extract_lets +onlyGivenNames x; (first | (refine good_step (Q := Q) (x := x) ?_ ?_; (on_goal 1 => unfold x); on_goal 2 => (intro hx; try clear_value x)) | (refine good_step_fst (Q := Q) (x := x) ?_ ?_; (on_goal 1 => unfold x); on_goal 2 => (intro hx; try clear_value x)) | refine good_keepC (x := x) (fun _ => ?_) | refine good_keepS (x := x) (fun _ => ?_) | refine good_keepM (x := x) (fun _ => ?_) | refine good_keepR (x := x) (fun _ => ?_) | refine good_keepT (x := x) (fun _ => ?_) | refine good_keepN (x := x) (fun _ => ?_) | refine good_keepF (x := x) (fun _ => ?_) | refine good_keepG (x := x) (fun _ => ?_) | clear_value x | skip); all_goals (rename' x => y))
    | with_reducible apply good_ite
    | with_reducible apply State.put_good
    | with_reducible apply State.gaEngage_good
    | split
    | apply good_ite

theorem State.gaNeutral_good {Q : Plat → Cfg → List Instr → Prop} {s : State} (h : s.Good Q) (a : Nat) :
    (State.gaNeutral a s).Good Q := by
  unfold State.gaNeutral
  repeat' first
    | with_reducible assumption
    | (extract_lets +onlyGivenNames x; (first | (refine good_step (Q := Q) (x := x) ?_ ?_; (on_goal 1 => unfold x); on_goal 2 => (intro hx; try clear_value x)) | (refine good_step_fst (Q := Q) (x := x) ?_ ?_; (on_goal 1 => unfold x); on_goal 2 => (intro hx; try clear_value x)) | refine good_keepC (x := x) (fun _ => ?_) | refine good_keepS (x := x) (fun _ => ?_) | refine good_keepM (x := x) (fun _ => ?_) | refine good_keepR (x := x) (fun _ => ?_) | refine good_keepT (x := x) (fun _ => ?_) | refine good_keepN (x := x) (fun _ => ?_) | refine good_keepF (x := x) (fun _ => ?_) | refine good_keepG (x := x) (fun _ => ?_) | clear_value x | skip); all_goals (rename' x => y))
    | with_reducible apply good_ite
    | with_reducible apply State.gaSync_good
    | with_reducible apply State.gaMod_good
    | with_reducible apply State.gaMove_good
    | with_reducible exact good_free (by with_reducible assumption) ..
    | split
    | apply good_ite

theorem State.gaArrive_good {Q : Plat → Cfg → List Instr → Prop} {s : State} (h : s.Good Q) (a : Nat) :
    (State.gaArrive a s).Good Q := by
  unfold State.gaArrive
  repeat' first
    | with_reducible assumption
    | (extract_lets +onlyGivenNames x; (first | (refine good_step (Q := Q) (x := x) ?_ ?_; (on_goal 1 => unfold x); on_goal 2 => (intro hx; try clear_value x)) | (refine good_step_fst (Q := Q) (x := x) ?_ ?_; (on_goal 1 => unfold x); on_goal 2 => (intro hx; try clear_value x)) | refine good_keepC (x := x) (fun _ => ?_) | refine good_keepS (x := x) (fun _ => ?_) | refine good_keepM (x := x) (fun _ => ?_) | refine good_keepR (x := x) (fun _ => ?_) | refine good_keepT (x := x) (fun _ => ?_) | refine good_keepN (x := x) (fun _ => ?_) | refine good_keepF (x := x) (fun _ => ?_) | refine good_keepG (x := x) (fun _ => ?_) | clear_value x | skip); all_goals (rename' x => y))
    | with_reducible apply good_ite
    | with_reducible apply State.put_good
    | with_reducible apply State.gaMod_good
    | with_reducible apply State.gaSync_good
    | with_reducible apply State.inc32_good
    | with_reducible apply State.gaPark_good
    | with_reducible exact good_free (by with_reducible assumption) ..
    | split
    | apply good_ite

theorem State.gaReference_good {Q : Plat → Cfg → List Instr → Prop} {s : State} (h : s.Good Q) (a i : Nat) :
    (State.gaReference a i s).Good Q := by
  unfold State.gaReference
  repeat' first
    | with_reducible assumption
    | (extract_lets +onlyGivenNames x; (first | (refine good_step (Q := Q) (x := x) ?_ ?_; (on_goal 1 => unfold x); on_goal 2 => (intro hx; try clear_value x)) | (refine good_step_fst (Q := Q) (x := x) ?_ ?_; (on_goal 1 => unfold x); on_goal 2 => (intro hx; try clear_value x)) | refine good_keepC (x := x) (fun _ => ?_) | refine good_keepS (x := x) (fun _ => ?_) | refine good_keepM (x := x) (fun _ => ?_) | refine good_keepR (x := x) (fun _ => ?_) | refine good_keepT (x := x) (fun _ => ?_) | refine good_keepN (x := x) (fun _ => ?_) | refine good_keepF (x := x) (fun _ => ?_) | refine good_keepG (x := x) (fun _ => ?_) | clear_value x | skip); all_goals (rename' x => y))
    | with_reducible apply State.putF_good
    | with_reducible apply State.gaMod_good
    | with_reducible apply State.gaShow_good
    | with_reducible exact good_free (by with_reducible assumption) ..

theorem State.gaSignature_good {Q : Plat → Cfg → List Instr → Prop} {s : State} (h : s.Good Q) (a : Nat) (hQ : Undoable Q := by first | assumption | exact undoable_const) :
    (State.gaSignature a s).Good Q := by
  unfold State.gaSignature
  repeat' first
    | with_reducible assumption
    | (extract_lets +onlyGivenNames x; (first | (refine good_step (Q := Q) (x := x) ?_ ?_; (on_goal 1 => unfold x); on_goal 2 => (intro hx; try clear_value x)) | (refine good_step_fst (Q := Q) (x := x) ?_ ?_; (on_goal 1 => unfold x); on_goal 2 => (intro hx; try clear_value x)) | refine good_keepC (x := x) (fun _ => ?_) | refine good_keepS (x := x) (fun _ => ?_) | refine good_keepM (x := x) (fun _ => ?_) | refine good_keepR (x := x) (fun _ => ?_) | refine good_keepT (x := x) (fun _ => ?_) | refine good_keepN (x := x) (fun _ => ?_) | refine good_keepF (x := x) (fun _ => ?_) | refine good_keepG (x := x) (fun _ => ?_) | clear_value x | skip); all_goals (rename' x => y))
    | with_reducible apply good_ite
    | with_reducible apply State.gaReference_good
    | with_reducible apply State.put_good
    | with_reducible apply State.gaArrive_good
    | with_reducible apply State.gaMove_good
    | with_reducible apply State.gaFail_good
    | split
    | apply good_ite

theorem State.gaTravelCheck_good {Q : Plat → Cfg → List Instr → Prop} {s : State} (h : s.Good Q) (a : Nat) (hQ : Undoable Q := by first | assumption | exact undoable_const) :
    (State.gaTravelCheck a s).Good Q := by
  unfold State.gaTravelCheck
  repeat' first
    | with_reducible assumption
    | (extract_lets +onlyGivenNames x; (first | (refine good_step (Q := Q) (x := x) ?_ ?_; (on_goal 1 => unfold x); on_goal 2 => (intro hx; try clear_value x)) | (refine good_step_fst (Q := Q) (x := x) ?_ ?_; (on_goal 1 => unfold x); on_goal 2 => (intro hx; try clear_value x)) | refine good_keepC (x := x) (fun _ => ?_) | refine good_keepS (x := x) (fun _ => ?_) | refine good_keepM (x := x) (fun _ => ?_) | refine good_keepR (x := x) (fun _ => ?_) | refine good_keepT (x := x) (fun _ => ?_) | refine good_keepN (x := x) (fun _ => ?_) | refine good_keepF (x := x) (fun _ => ?_) | refine good_keepG (x := x) (fun _ => ?_) | clear_value x | skip); all_goals (rename' x => y))
    | with_reducible apply good_ite
    | with_reducible apply State.gaShow_good
    | with_reducible apply State.gaFail_good
    | split
    | apply good_ite

theorem State.gaAsk_good {Q : Plat → Cfg → List Instr → Prop} {s : State} (h : s.Good Q) (a v : Nat) :
    (State.gaAsk a v s).Good Q := by
  unfold State.gaAsk
  repeat' first
    | with_reducible assumption
    | (extract_lets +onlyGivenNames x; (first | (refine good_step (Q := Q) (x := x) ?_ ?_; (on_goal 1 => unfold x); on_goal 2 => (intro hx; try clear_value x)) | (refine good_step_fst (Q := Q) (x := x) ?_ ?_; (on_goal 1 => unfold x); on_goal 2 => (intro hx; try clear_value x)) | refine good_keepC (x := x) (fun _ => ?_) | refine good_keepS (x := x) (fun _ => ?_) | refine good_keepM (x := x) (fun _ => ?_) | refine good_keepR (x := x) (fun _ => ?_) | refine good_keepT (x := x) (fun _ => ?_) | refine good_keepN (x := x) (fun _ => ?_) | refine good_keepF (x := x) (fun _ => ?_) | refine good_keepG (x := x) (fun _ => ?_) | clear_value x | skip); all_goals (rename' x => y))
    | with_reducible apply good_ite
    | with_reducible apply State.put_good
    | with_reducible apply State.gaMod_good
    | with_reducible apply State.gaMove_good
    | with_reducible apply State.gaNeutral_good
    | with_reducible apply State.gaPark_good
    | with_reducible exact good_free (by with_reducible assumption) ..
    | split
    | apply good_ite

theorem State.gaSettled_good {Q : Plat → Cfg → List Instr → Prop} {s : State} (h : s.Good Q) (a : Nat) :
    (State.gaSettled a s).Good Q := by
  unfold State.gaSettled
  repeat' first
    | with_reducible assumption
    | with_reducible apply good_ite
    | with_reducible apply State.gaArrive_good
    | split
    | apply good_ite

theorem State.gaWords_good {Q : Plat → Cfg → List Instr → Prop} {s : State} (h : s.Good Q) (n : Nat) :
    (State.gaWords n s).Good Q := by
  unfold State.gaWords
  repeat' first
    | with_reducible assumption
    | (intro x y hx; beta_reduce)
    | (intro x hx; beta_reduce)
    | (extract_lets +onlyGivenNames x; (first | (refine good_step (Q := Q) (x := x) ?_ ?_; (on_goal 1 => unfold x); on_goal 2 => (intro hx; try clear_value x)) | (refine good_step_fst (Q := Q) (x := x) ?_ ?_; (on_goal 1 => unfold x); on_goal 2 => (intro hx; try clear_value x)) | refine good_keepC (x := x) (fun _ => ?_) | refine good_keepS (x := x) (fun _ => ?_) | refine good_keepM (x := x) (fun _ => ?_) | refine good_keepR (x := x) (fun _ => ?_) | refine good_keepT (x := x) (fun _ => ?_) | refine good_keepN (x := x) (fun _ => ?_) | refine good_keepF (x := x) (fun _ => ?_) | refine good_keepG (x := x) (fun _ => ?_) | clear_value x | skip); all_goals (rename' x => y))
    | with_reducible apply good_forAll
    | with_reducible apply State.slotMod_good
    | with_reducible exact good_free (by with_reducible assumption) ..

theorem State.gaReset_good {Q : Plat → Cfg → List Instr → Prop} {s : State} (h : s.Good Q) (a : Nat) :
    (State.gaReset a s).Good Q := by
  unfold State.gaReset
  repeat' first
    | with_reducible assumption
    | (extract_lets +onlyGivenNames x; (first | (refine good_step (Q := Q) (x := x) ?_ ?_; (on_goal 1 => unfold x); on_goal 2 => (intro hx; try clear_value x)) | (refine good_step_fst (Q := Q) (x := x) ?_ ?_; (on_goal 1 => unfold x); on_goal 2 => (intro hx; try clear_value x)) | refine good_keepC (x := x) (fun _ => ?_) | refine good_keepS (x := x) (fun _ => ?_) | refine good_keepM (x := x) (fun _ => ?_) | refine good_keepR (x := x) (fun _ => ?_) | refine good_keepT (x := x) (fun _ => ?_) | refine good_keepN (x := x) (fun _ => ?_) | refine good_keepF (x := x) (fun _ => ?_) | refine good_keepG (x := x) (fun _ => ?_) | clear_value x | skip); all_goals (rename' x => y))
    | with_reducible apply State.put_good
    | with_reducible apply State.gaMod_good
    | with_reducible apply State.gaIdle_good
    | with_reducible apply State.gaPark_good
    | with_reducible apply State.gaShow_good

end Sys2Proof.Machine
end

