-- ==== Sys2Proof/Laws/Sound/Can.lean ====
section
/-! SUPPORT. Every operation of Machine/Can.lean keeps a sound state sound. -/

set_option linter.unusedTactic false
set_option linter.unreachableTactic false
set_option linter.unusedVariables false
set_option linter.tactic.unusedName false

namespace Sys2Proof.Machine

/-- A controller changes within what is said of its queue. -/
theorem State.canMod_good_at {Q : Plat → Cfg → List Instr → Prop} {s : State} (h : s.Good Q) (c : Nat) {f : CanX → CanX}
    (hf : (s.canx c).queue.length ≤ 64 → (f (s.canx c)).queue.length ≤ 64) : (s.canMod c f).Good Q := by
  refine good_can h (by simp [modifyAt, h.can]) (mem_modify_at (p := fun x : CanX => x.queue.length ≤ 64) h.canq ?_)
  intro x hx
  have he : s.canx c = x := by
    unfold State.canx
    rw [List.getD_eq_getElem?_getD, hx]
    rfl
  rw [he] at hf
  exact hf (h.canq x (List.mem_of_getElem? hx))

theorem State.canMod_good {Q : Plat → Cfg → List Instr → Prop} {s : State} (h : s.Good Q) (c : Nat) {f : CanX → CanX}
    (hf : ∀ x : CanX, x.queue.length ≤ 64 → (f x).queue.length ≤ 64) : (s.canMod c f).Good Q :=
  State.canMod_good_at h c (hf _)

/-- A queue has at most 64 frames. -/
theorem State.Good.queue_le {Q : Plat → Cfg → List Instr → Prop} {s : State} (h : s.Good Q) (c : Nat) : (s.canx c).queue.length ≤ 64 := by
  unfold State.canx
  rw [List.getD_eq_getElem?_getD]
  cases hx : s.can[c]? with
  | none => simp
  | some x => exact h.canq x (List.mem_of_getElem? hx)

theorem State.canShow_good {Q : Plat → Cfg → List Instr → Prop} {s : State} (h : s.Good Q) (c : Nat) :
    (State.canShow c s).Good Q := by
  unfold State.canShow
  repeat' first
    | with_reducible assumption
    | (extract_lets +onlyGivenNames x; (first | (refine good_step (Q := Q) (x := x) ?_ ?_; (on_goal 1 => unfold x); on_goal 2 => (intro hx; try clear_value x)) | (refine good_step_fst (Q := Q) (x := x) ?_ ?_; (on_goal 1 => unfold x); on_goal 2 => (intro hx; try clear_value x)) | refine good_keepC (x := x) (fun _ => ?_) | refine good_keepS (x := x) (fun _ => ?_) | refine good_keepM (x := x) (fun _ => ?_) | refine good_keepR (x := x) (fun _ => ?_) | refine good_keepT (x := x) (fun _ => ?_) | refine good_keepN (x := x) (fun _ => ?_) | refine good_keepF (x := x) (fun _ => ?_) | refine good_keepG (x := x) (fun _ => ?_) | clear_value x | skip); all_goals (rename' x => y))
    | with_reducible apply good_ite
    | with_reducible apply State.put_good
    | with_reducible exact good_free (by with_reducible assumption) ..
    | split
    | apply good_ite

theorem State.canNextHead_good {Q : Plat → Cfg → List Instr → Prop} {s : State} (h : s.Good Q) (c : Nat) {queue : List CanFrame} (hq : queue.length ≤ 64) :
    (State.canNextHead c queue s).Good Q := by
  unfold State.canNextHead
  exact State.canShow_good (State.canMod_good (State.put_good h _ _) c (fun _ _ => hq)) c

theorem State.canPut_good {Q : Plat → Cfg → List Instr → Prop} {s : State} (h : s.Good Q) (c : Nat) (f : CanFrame) : (State.canPut c f s).1.Good Q := by
  unfold State.canPut
  dsimp only
  split
  · exact h
  · rename_i hq
    refine good_ite (State.canNextHead_good h c (by simp)) (State.canShow_good (State.canMod_good_at h c (fun _ => ?_)) c)
    simp only [List.length_append, List.length_cons, List.length_nil]
    omega

theorem State.canSubmit_good {Q : Plat → Cfg → List Instr → Prop} {s : State} (h : s.Good Q) (c : Nat) (block : List Nat) :
    (State.canSubmit c block s).1.Good Q := by
  unfold State.canSubmit
  repeat' first
    | with_reducible assumption
    | (extract_lets +onlyGivenNames x; (first | (refine good_step (Q := Q) (x := x) ?_ ?_; (on_goal 1 => unfold x); on_goal 2 => (intro hx; try clear_value x)) | (refine good_step_fst (Q := Q) (x := x) ?_ ?_; (on_goal 1 => unfold x); on_goal 2 => (intro hx; try clear_value x)) | refine good_keepC (x := x) (fun _ => ?_) | refine good_keepS (x := x) (fun _ => ?_) | refine good_keepM (x := x) (fun _ => ?_) | refine good_keepR (x := x) (fun _ => ?_) | refine good_keepT (x := x) (fun _ => ?_) | refine good_keepN (x := x) (fun _ => ?_) | refine good_keepF (x := x) (fun _ => ?_) | refine good_keepG (x := x) (fun _ => ?_) | clear_value x | skip); all_goals (rename' x => y))
    | with_reducible apply good_ite
    | with_reducible apply good_ite_fst
    | with_reducible apply State.put_good
    | with_reducible apply State.canPut_good
    | split
    | apply good_ite

theorem State.canAbort_good {Q : Plat → Cfg → List Instr → Prop} {s : State} (h : s.Good Q) (c what : Nat) (sending : Bool) : (State.canAbort c what sending s).Good Q := by
  unfold State.canAbort
  dsimp only
  split
  · exact h
  · rename_i f rest hq
    have hlen : rest.length + 1 ≤ 64 := by
      have := h.queue_le c
      rw [hq] at this
      simpa using this
    have hr : ∀ g : CanFrame → Bool, (if what = 1 then rest else rest.filter g).length + 1 ≤ 64 := by
      intro g
      split
      · exact hlen
      · have := List.length_filter_le g rest
        omega
    refine good_ite (State.canShow_good (State.canMod_good h c (fun _ _ => ?_)) c) (good_ite (State.canShow_good (State.canMod_good h c (fun _ _ => ?_)) c) ?_)
    · simpa using hr _
    · simpa using hr _
    · exact State.canNextHead_good h c (le_trans (Nat.le_succ _) (hr _))

theorem State.canBufPut_good {Q : Plat → Cfg → List Instr → Prop} {s : State} (h : s.Good Q) (c n : Nat) (b : CanBuf) :
    (State.canBufPut c n b s).Good Q := by
  unfold State.canBufPut
  repeat' first
    | with_reducible assumption
    | (intro x hx; exact hx)
    | (intro x hx; exact le_trans (List.length_filter_le _ _) hx)
    | (intro x hx; simp only [List.length_nil]; omega)
    | (extract_lets +onlyGivenNames x; (first | (refine good_step (Q := Q) (x := x) ?_ ?_; (on_goal 1 => unfold x); on_goal 2 => (intro hx; try clear_value x)) | (refine good_step_fst (Q := Q) (x := x) ?_ ?_; (on_goal 1 => unfold x); on_goal 2 => (intro hx; try clear_value x)) | refine good_keepC (x := x) (fun _ => ?_) | refine good_keepS (x := x) (fun _ => ?_) | refine good_keepM (x := x) (fun _ => ?_) | refine good_keepR (x := x) (fun _ => ?_) | refine good_keepT (x := x) (fun _ => ?_) | refine good_keepN (x := x) (fun _ => ?_) | refine good_keepF (x := x) (fun _ => ?_) | refine good_keepG (x := x) (fun _ => ?_) | clear_value x | skip); all_goals (rename' x => y))
    | with_reducible apply State.canMod_good
    | with_reducible exact good_free (by with_reducible assumption) ..

theorem State.canOverrun_good {Q : Plat → Cfg → List Instr → Prop} {s : State} (h : s.Good Q) (c : Nat) :
    (State.canOverrun c s).Good Q := by
  unfold State.canOverrun
  repeat' first
    | with_reducible assumption
    | (intro x hx; exact hx)
    | (intro x hx; exact le_trans (List.length_filter_le _ _) hx)
    | (intro x hx; simp only [List.length_nil]; omega)
    | (extract_lets +onlyGivenNames x; (first | (refine good_step (Q := Q) (x := x) ?_ ?_; (on_goal 1 => unfold x); on_goal 2 => (intro hx; try clear_value x)) | (refine good_step_fst (Q := Q) (x := x) ?_ ?_; (on_goal 1 => unfold x); on_goal 2 => (intro hx; try clear_value x)) | refine good_keepC (x := x) (fun _ => ?_) | refine good_keepS (x := x) (fun _ => ?_) | refine good_keepM (x := x) (fun _ => ?_) | refine good_keepR (x := x) (fun _ => ?_) | refine good_keepT (x := x) (fun _ => ?_) | refine good_keepN (x := x) (fun _ => ?_) | refine good_keepF (x := x) (fun _ => ?_) | refine good_keepG (x := x) (fun _ => ?_) | clear_value x | skip); all_goals (rename' x => y))
    | with_reducible apply good_ite
    | with_reducible apply State.incSat_good
    | with_reducible apply State.canMod_good
    | with_reducible apply State.note_good
    | with_reducible exact good_free (by with_reducible assumption) ..
    | split
    | apply good_ite

theorem State.canStore_good {Q : Plat → Cfg → List Instr → Prop} {s : State} (h : s.Good Q) (c n : Nat) (h data : List Nat) :
    (State.canStore c n h data s).Good Q := by
  unfold State.canStore
  repeat' first
    | with_reducible assumption
    | (extract_lets +onlyGivenNames x; (first | (refine good_step (Q := Q) (x := x) ?_ ?_; (on_goal 1 => unfold x); on_goal 2 => (intro hx; try clear_value x)) | (refine good_step_fst (Q := Q) (x := x) ?_ ?_; (on_goal 1 => unfold x); on_goal 2 => (intro hx; try clear_value x)) | refine good_keepC (x := x) (fun _ => ?_) | refine good_keepS (x := x) (fun _ => ?_) | refine good_keepM (x := x) (fun _ => ?_) | refine good_keepR (x := x) (fun _ => ?_) | refine good_keepT (x := x) (fun _ => ?_) | refine good_keepN (x := x) (fun _ => ?_) | refine good_keepF (x := x) (fun _ => ?_) | refine good_keepG (x := x) (fun _ => ?_) | clear_value x | skip); all_goals (rename' x => y))
    | with_reducible apply good_ite
    | with_reducible apply State.canBufPut_good
    | with_reducible apply State.canOverrun_good
    | with_reducible exact good_free (by with_reducible assumption) ..
    | split
    | apply good_ite

theorem State.canLock_good {Q : Plat → Cfg → List Instr → Prop} {s : State} (h : s.Good Q) (c n : Nat) :
    (State.canLock c n s).Good Q := by
  unfold State.canLock
  repeat' first
    | with_reducible assumption
    | (extract_lets +onlyGivenNames x; (first | (refine good_step (Q := Q) (x := x) ?_ ?_; (on_goal 1 => unfold x); on_goal 2 => (intro hx; try clear_value x)) | (refine good_step_fst (Q := Q) (x := x) ?_ ?_; (on_goal 1 => unfold x); on_goal 2 => (intro hx; try clear_value x)) | refine good_keepC (x := x) (fun _ => ?_) | refine good_keepS (x := x) (fun _ => ?_) | refine good_keepM (x := x) (fun _ => ?_) | refine good_keepR (x := x) (fun _ => ?_) | refine good_keepT (x := x) (fun _ => ?_) | refine good_keepN (x := x) (fun _ => ?_) | refine good_keepF (x := x) (fun _ => ?_) | refine good_keepG (x := x) (fun _ => ?_) | clear_value x | skip); all_goals (rename' x => y))
    | with_reducible apply State.canBufPut_good
    | with_reducible exact good_free (by with_reducible assumption) ..

theorem State.canRelease_good {Q : Plat → Cfg → List Instr → Prop} {s : State} (h : s.Good Q) (c n : Nat) :
    (State.canRelease c n s).Good Q := by
  unfold State.canRelease
  repeat' first
    | with_reducible assumption
    | (extract_lets +onlyGivenNames x; (first | (refine good_step (Q := Q) (x := x) ?_ ?_; (on_goal 1 => unfold x); on_goal 2 => (intro hx; try clear_value x)) | (refine good_step_fst (Q := Q) (x := x) ?_ ?_; (on_goal 1 => unfold x); on_goal 2 => (intro hx; try clear_value x)) | refine good_keepC (x := x) (fun _ => ?_) | refine good_keepS (x := x) (fun _ => ?_) | refine good_keepM (x := x) (fun _ => ?_) | refine good_keepR (x := x) (fun _ => ?_) | refine good_keepT (x := x) (fun _ => ?_) | refine good_keepN (x := x) (fun _ => ?_) | refine good_keepF (x := x) (fun _ => ?_) | refine good_keepG (x := x) (fun _ => ?_) | clear_value x | skip); all_goals (rename' x => y))
    | with_reducible apply good_ite
    | with_reducible apply State.canBufPut_good
    | with_reducible exact good_free (by with_reducible assumption) ..
    | split
    | apply good_ite

theorem State.canStart_good {Q : Plat → Cfg → List Instr → Prop} {s : State} (h : s.Good Q) (c : Nat) :
    (State.canStart c s).Good Q := by
  unfold State.canStart
  repeat' first
    | with_reducible assumption
    | with_reducible apply good_ite
    | with_reducible apply State.put_good
    | with_reducible apply State.canShow_good
    | split
    | apply good_ite

theorem State.canIntegrated_good {Q : Plat → Cfg → List Instr → Prop} {s : State} (h : s.Good Q) (c : Nat) :
    (State.canIntegrated c s).Good Q := by
  unfold State.canIntegrated
  repeat' first
    | with_reducible assumption
    | with_reducible apply good_ite
    | with_reducible apply State.put_good
    | with_reducible apply State.canShow_good
    | split
    | apply good_ite

theorem State.antennaStart_good {Q : Plat → Cfg → List Instr → Prop} {s : State} (h : s.Good Q) (c : Nat) :
    (State.antennaStart c s).Good Q := by
  unfold State.antennaStart
  repeat' first
    | with_reducible assumption
    | (intro x hx; exact hx)
    | (intro x hx; exact le_trans (List.length_filter_le _ _) hx)
    | (intro x hx; simp only [List.length_nil]; omega)
    | (extract_lets +onlyGivenNames x; (first | (refine good_step (Q := Q) (x := x) ?_ ?_; (on_goal 1 => unfold x); on_goal 2 => (intro hx; try clear_value x)) | (refine good_step_fst (Q := Q) (x := x) ?_ ?_; (on_goal 1 => unfold x); on_goal 2 => (intro hx; try clear_value x)) | refine good_keepC (x := x) (fun _ => ?_) | refine good_keepS (x := x) (fun _ => ?_) | refine good_keepM (x := x) (fun _ => ?_) | refine good_keepR (x := x) (fun _ => ?_) | refine good_keepT (x := x) (fun _ => ?_) | refine good_keepN (x := x) (fun _ => ?_) | refine good_keepF (x := x) (fun _ => ?_) | refine good_keepG (x := x) (fun _ => ?_) | clear_value x | skip); all_goals (rename' x => y))
    | with_reducible apply good_ite
    | with_reducible apply State.put_good
    | with_reducible apply State.canMod_good
    | with_reducible apply State.canShow_good
    | with_reducible exact good_free (by with_reducible assumption) ..
    | split
    | apply good_ite

theorem State.antennaEnd_good {Q : Plat → Cfg → List Instr → Prop} {s : State} (h : s.Good Q) (c result : Nat) :
    (State.antennaEnd c result s).Good Q := by
  unfold State.antennaEnd
  repeat' first
    | with_reducible assumption
    | (intro x hx; exact hx)
    | (intro x hx; exact le_trans (List.length_filter_le _ _) hx)
    | (intro x hx; simp only [List.length_nil]; omega)
    | (extract_lets +onlyGivenNames x; (first | (refine good_step (Q := Q) (x := x) ?_ ?_; (on_goal 1 => unfold x); on_goal 2 => (intro hx; try clear_value x)) | (refine good_step_fst (Q := Q) (x := x) ?_ ?_; (on_goal 1 => unfold x); on_goal 2 => (intro hx; try clear_value x)) | refine good_keepC (x := x) (fun _ => ?_) | refine good_keepS (x := x) (fun _ => ?_) | refine good_keepM (x := x) (fun _ => ?_) | refine good_keepR (x := x) (fun _ => ?_) | refine good_keepT (x := x) (fun _ => ?_) | refine good_keepN (x := x) (fun _ => ?_) | refine good_keepF (x := x) (fun _ => ?_) | refine good_keepG (x := x) (fun _ => ?_) | clear_value x | skip); all_goals (rename' x => y))
    | with_reducible apply good_ite
    | with_reducible apply State.put_good
    | with_reducible apply State.canMod_good
    | with_reducible apply State.canShow_good
    | with_reducible exact good_free (by with_reducible assumption) ..
    | split
    | apply good_ite

theorem State.antennaTick_good {Q : Plat → Cfg → List Instr → Prop} {s : State} (h : s.Good Q) (c : Nat) :
    (State.antennaTick c s).Good Q := by
  unfold State.antennaTick
  repeat' first
    | with_reducible assumption
    | (intro x hx; exact hx)
    | (intro x hx; exact le_trans (List.length_filter_le _ _) hx)
    | (intro x hx; simp only [List.length_nil]; omega)
    | (extract_lets +onlyGivenNames x; (first | (refine good_step (Q := Q) (x := x) ?_ ?_; (on_goal 1 => unfold x); on_goal 2 => (intro hx; try clear_value x)) | (refine good_step_fst (Q := Q) (x := x) ?_ ?_; (on_goal 1 => unfold x); on_goal 2 => (intro hx; try clear_value x)) | refine good_keepC (x := x) (fun _ => ?_) | refine good_keepS (x := x) (fun _ => ?_) | refine good_keepM (x := x) (fun _ => ?_) | refine good_keepR (x := x) (fun _ => ?_) | refine good_keepT (x := x) (fun _ => ?_) | refine good_keepN (x := x) (fun _ => ?_) | refine good_keepF (x := x) (fun _ => ?_) | refine good_keepG (x := x) (fun _ => ?_) | clear_value x | skip); all_goals (rename' x => y))
    | with_reducible apply good_ite
    | with_reducible apply State.canMod_good
    | with_reducible exact good_free (by with_reducible assumption) ..
    | split
    | apply good_ite

theorem State.antennaHears_good {Q : Plat → Cfg → List Instr → Prop} {s : State} (h : s.Good Q) (c : Nat) (good : Bool) :
    (State.antennaHears c good s).Good Q := by
  unfold State.antennaHears
  repeat' first
    | with_reducible assumption
    | (intro x hx; exact hx)
    | (intro x hx; exact le_trans (List.length_filter_le _ _) hx)
    | (intro x hx; simp only [List.length_nil]; omega)
    | (extract_lets +onlyGivenNames x; (first | (refine good_step (Q := Q) (x := x) ?_ ?_; (on_goal 1 => unfold x); on_goal 2 => (intro hx; try clear_value x)) | (refine good_step_fst (Q := Q) (x := x) ?_ ?_; (on_goal 1 => unfold x); on_goal 2 => (intro hx; try clear_value x)) | refine good_keepC (x := x) (fun _ => ?_) | refine good_keepS (x := x) (fun _ => ?_) | refine good_keepM (x := x) (fun _ => ?_) | refine good_keepR (x := x) (fun _ => ?_) | refine good_keepT (x := x) (fun _ => ?_) | refine good_keepN (x := x) (fun _ => ?_) | refine good_keepF (x := x) (fun _ => ?_) | refine good_keepG (x := x) (fun _ => ?_) | clear_value x | skip); all_goals (rename' x => y))
    | with_reducible apply good_ite
    | with_reducible apply State.canMod_good
    | with_reducible exact good_free (by with_reducible assumption) ..
    | split
    | apply good_ite

theorem State.antennaFound_good {Q : Plat → Cfg → List Instr → Prop} {s : State} (h : s.Good Q) (c dataInterval frames : Nat) :
    (State.antennaFound c dataInterval frames s).Good Q := by
  unfold State.antennaFound
  repeat' first
    | with_reducible assumption
    | (extract_lets +onlyGivenNames x; (first | (refine good_step (Q := Q) (x := x) ?_ ?_; (on_goal 1 => unfold x); on_goal 2 => (intro hx; try clear_value x)) | (refine good_step_fst (Q := Q) (x := x) ?_ ?_; (on_goal 1 => unfold x); on_goal 2 => (intro hx; try clear_value x)) | refine good_keepC (x := x) (fun _ => ?_) | refine good_keepS (x := x) (fun _ => ?_) | refine good_keepM (x := x) (fun _ => ?_) | refine good_keepR (x := x) (fun _ => ?_) | refine good_keepT (x := x) (fun _ => ?_) | refine good_keepN (x := x) (fun _ => ?_) | refine good_keepF (x := x) (fun _ => ?_) | refine good_keepG (x := x) (fun _ => ?_) | clear_value x | skip); all_goals (rename' x => y))
    | with_reducible apply good_ite
    | with_reducible apply State.put_good
    | with_reducible apply State.antennaEnd_good
    | split
    | apply good_ite

theorem State.antennaCommand_good {Q : Plat → Cfg → List Instr → Prop} {s : State} (h : s.Good Q) (c value : Nat) :
    (State.antennaCommand c value s).Good Q := by
  unfold State.antennaCommand
  repeat' first
    | with_reducible assumption
    | with_reducible apply good_ite
    | with_reducible apply State.antennaStart_good
    | with_reducible apply State.antennaEnd_good
    | split
    | apply good_ite

theorem State.canRecover_good {Q : Plat → Cfg → List Instr → Prop} {s : State} (h : s.Good Q) (c : Nat) :
    (State.canRecover c s).Good Q := by
  unfold State.canRecover
  repeat' first
    | with_reducible assumption
    | with_reducible apply good_ite
    | with_reducible apply State.put_good
    | with_reducible apply State.canShow_good
    | split
    | apply good_ite

theorem State.canHeadLimit_good {Q : Plat → Cfg → List Instr → Prop} {s : State} (h : s.Good Q) (c : Nat) :
    (State.canHeadLimit c s).Good Q := by
  unfold State.canHeadLimit
  repeat' first
    | with_reducible assumption
    | (intro x hx; exact hx)
    | (intro x hx; exact le_trans (List.length_filter_le _ _) hx)
    | (intro x hx; simp only [List.length_nil]; omega)
    | (extract_lets +onlyGivenNames x; (first | (refine good_step (Q := Q) (x := x) ?_ ?_; (on_goal 1 => unfold x); on_goal 2 => (intro hx; try clear_value x)) | (refine good_step_fst (Q := Q) (x := x) ?_ ?_; (on_goal 1 => unfold x); on_goal 2 => (intro hx; try clear_value x)) | refine good_keepC (x := x) (fun _ => ?_) | refine good_keepS (x := x) (fun _ => ?_) | refine good_keepM (x := x) (fun _ => ?_) | refine good_keepR (x := x) (fun _ => ?_) | refine good_keepT (x := x) (fun _ => ?_) | refine good_keepN (x := x) (fun _ => ?_) | refine good_keepF (x := x) (fun _ => ?_) | refine good_keepG (x := x) (fun _ => ?_) | clear_value x | skip); all_goals (rename' x => y))
    | with_reducible apply good_ite
    | with_reducible apply State.canMod_good
    | with_reducible apply State.put_good
    | with_reducible apply State.note_good
    | with_reducible exact good_free (by with_reducible assumption) ..
    | split
    | apply good_ite

theorem State.canCount_good {Q : Plat → Cfg → List Instr → Prop} {s : State} (h : s.Good Q) (c : Nat) (sending : Bool) (inc : Nat) :
    (State.canCount c sending inc s).Good Q := by
  unfold State.canCount
  repeat' first
    | with_reducible assumption
    | (extract_lets +onlyGivenNames x; (first | (refine good_step (Q := Q) (x := x) ?_ ?_; (on_goal 1 => unfold x); on_goal 2 => (intro hx; try clear_value x)) | (refine good_step_fst (Q := Q) (x := x) ?_ ?_; (on_goal 1 => unfold x); on_goal 2 => (intro hx; try clear_value x)) | refine good_keepC (x := x) (fun _ => ?_) | refine good_keepS (x := x) (fun _ => ?_) | refine good_keepM (x := x) (fun _ => ?_) | refine good_keepR (x := x) (fun _ => ?_) | refine good_keepT (x := x) (fun _ => ?_) | refine good_keepN (x := x) (fun _ => ?_) | refine good_keepF (x := x) (fun _ => ?_) | refine good_keepG (x := x) (fun _ => ?_) | clear_value x | skip); all_goals (rename' x => y))
    | with_reducible apply good_ite
    | with_reducible apply State.put_good
    | with_reducible apply State.incSat_good
    | with_reducible apply State.canShow_good
    | with_reducible apply State.note_good
    | split
    | apply good_ite

theorem State.canClash_good {Q : Plat → Cfg → List Instr → Prop} {s : State} (h : s.Good Q) (c : Nat) :
    (State.canClash c s).Good Q := by
  unfold State.canClash
  repeat' first
    | with_reducible assumption
    | (intro x hx; exact hx)
    | (intro x hx; exact le_trans (List.length_filter_le _ _) hx)
    | (intro x hx; simp only [List.length_nil]; omega)
    | (extract_lets +onlyGivenNames x; (first | (refine good_step (Q := Q) (x := x) ?_ ?_; (on_goal 1 => unfold x); on_goal 2 => (intro hx; try clear_value x)) | (refine good_step_fst (Q := Q) (x := x) ?_ ?_; (on_goal 1 => unfold x); on_goal 2 => (intro hx; try clear_value x)) | refine good_keepC (x := x) (fun _ => ?_) | refine good_keepS (x := x) (fun _ => ?_) | refine good_keepM (x := x) (fun _ => ?_) | refine good_keepR (x := x) (fun _ => ?_) | refine good_keepT (x := x) (fun _ => ?_) | refine good_keepN (x := x) (fun _ => ?_) | refine good_keepF (x := x) (fun _ => ?_) | refine good_keepG (x := x) (fun _ => ?_) | clear_value x | skip); all_goals (rename' x => y))
    | with_reducible apply good_ite
    | with_reducible apply State.canMod_good
    | with_reducible apply State.put_good
    | with_reducible apply State.incSat_good
    | with_reducible apply State.canShow_good
    | with_reducible apply State.note_good
    | with_reducible exact good_free (by with_reducible assumption) ..
    | split
    | apply good_ite

theorem State.canError_good {Q : Plat → Cfg → List Instr → Prop} {s : State} (h : s.Good Q) (c err : Nat) (sending clash : Bool) (inc : Nat) (hQ : Undoable Q := by first | assumption | exact undoable_const) :
    (State.canError c err sending clash inc s).Good Q := by
  unfold State.canError
  refine good_ite (good_ite (State.antennaHears_good (State.put_good (State.incSat_good h _) _ _) _ _) h) ?_
  extract_lets s1 s2
  have h1 : s1.Good Q := State.put_good (State.incSat_good h _) _ _
  have h2 : s2.Good Q := by
    unfold s2
    refine good_ite (State.canNextHead_good h1 c ?_) (good_ite (State.canClash_good h1 c) h1)
    have := h1.queue_le c
    rw [List.length_tail]
    omega
  exact State.canCount_good h2 _ _ _

theorem State.canReset_good {Q : Plat → Cfg → List Instr → Prop} {s : State} (h : s.Good Q) (c : Nat) :
    (State.canReset c s).Good Q := by
  unfold State.canReset
  repeat' first
    | with_reducible assumption
    | (intro x hx; exact hx)
    | (intro x hx; exact le_trans (List.length_filter_le _ _) hx)
    | (intro x hx; simp only [List.length_nil]; omega)
    | (extract_lets +onlyGivenNames x; (first | (refine good_step (Q := Q) (x := x) ?_ ?_; (on_goal 1 => unfold x); on_goal 2 => (intro hx; try clear_value x)) | (refine good_step_fst (Q := Q) (x := x) ?_ ?_; (on_goal 1 => unfold x); on_goal 2 => (intro hx; try clear_value x)) | refine good_keepC (x := x) (fun _ => ?_) | refine good_keepS (x := x) (fun _ => ?_) | refine good_keepM (x := x) (fun _ => ?_) | refine good_keepR (x := x) (fun _ => ?_) | refine good_keepT (x := x) (fun _ => ?_) | refine good_keepN (x := x) (fun _ => ?_) | refine good_keepF (x := x) (fun _ => ?_) | refine good_keepG (x := x) (fun _ => ?_) | clear_value x | skip); all_goals (rename' x => y))
    | with_reducible apply State.canMod_good
    | with_reducible apply State.put_good
    | with_reducible apply State.canStart_good
    | with_reducible refine good_roa (by with_reducible assumption) ?_
    | with_reducible exact good_free (by with_reducible assumption) ..
    | with_reducible exact State.Good.sess (by with_reducible assumption)
    | (rw [List.length_map]; with_reducible exact State.Good.sess (by with_reducible assumption))

theorem State.canSwap_good {Q : Plat → Cfg → List Instr → Prop} {s : State} (h : s.Good Q) (o : State) (c : Nat) :
    (State.canSwap o c s).Good Q := by
  unfold State.canSwap
  repeat' first
    | with_reducible assumption
    | (extract_lets +onlyGivenNames x; (first | (refine good_step (Q := Q) (x := x) ?_ ?_; (on_goal 1 => unfold x); on_goal 2 => (intro hx; try clear_value x)) | (refine good_step_fst (Q := Q) (x := x) ?_ ?_; (on_goal 1 => unfold x); on_goal 2 => (intro hx; try clear_value x)) | refine good_keepC (x := x) (fun _ => ?_) | refine good_keepS (x := x) (fun _ => ?_) | refine good_keepM (x := x) (fun _ => ?_) | refine good_keepR (x := x) (fun _ => ?_) | refine good_keepT (x := x) (fun _ => ?_) | refine good_keepN (x := x) (fun _ => ?_) | refine good_keepF (x := x) (fun _ => ?_) | refine good_keepG (x := x) (fun _ => ?_) | clear_value x | skip); all_goals (rename' x => y))
    | with_reducible apply good_ite
    | with_reducible apply State.canStart_good
    | with_reducible apply State.put_good
    | with_reducible apply State.canShow_good
    | split
    | apply good_ite

end Sys2Proof.Machine
end

