-- ==== Sys2Proof/Laws/Sound/Dictionary.lean ====
section
/-! SUPPORT. Every operation of Machine/Dictionary.lean keeps a sound state sound. -/

set_option linter.unusedTactic false
set_option linter.unreachableTactic false
set_option linter.unusedVariables false
set_option linter.tactic.unusedName false

namespace Sys2Proof.Machine

theorem State.shadowTouch_good {Q : Plat → Cfg → List Instr → Prop} {s : State} (h : s.Good Q) (n : Nat) :
    (State.shadowTouch n s).Good Q := by
  unfold State.shadowTouch
  repeat' first
    | with_reducible assumption
    | with_reducible apply good_ite
    | with_reducible apply State.put_good
    | split
    | apply good_ite

end Sys2Proof.Machine
end

