-- ==== Sys2Proof/Laws/Sound/ModeBase.lean ====
section
/-! SUPPORT. Every operation of Machine/ModeBase.lean keeps a sound state sound. -/

set_option linter.unusedTactic false
set_option linter.unreachableTactic false
set_option linter.unusedVariables false
set_option linter.tactic.unusedName false

namespace Sys2Proof.Machine

theorem State.refuse_good {Q : Plat → Cfg → List Instr → Prop} {s : State} (h : s.Good Q) (code : Nat) :
    (State.refuse code s).Good Q := by
  unfold State.refuse
  repeat' first
    | with_reducible assumption
    | with_reducible apply State.put_good

theorem State.access_good {Q : Plat → Cfg → List Instr → Prop} {s : State} (h : s.Good Q) (role : Role) (rank : Nat) {f : State → State} (hf : ∀ t : State, t.Good Q → (f t).Good Q) :
    (s.access role rank f).Good Q := by
  unfold State.access
  exact good_ite h (good_ite (State.refuse_good h _) (hf s h))

theorem State.accessAt_good {Q : Plat → Cfg → List Instr → Prop} {s : State} (h : s.Good Q) (role : Role) (rank k : Nat) (present : Bool) {f : State → State}
    (hf : ∀ t : State, t.Good Q → (f t).Good Q) : (s.accessAt role rank k present f).Good Q := by
  unfold State.accessAt
  exact good_ite h (good_ite (State.refuse_good h _) (good_ite (State.refuse_good h _) (good_ite (State.refuse_good h _) (hf s h))))

theorem State.enterM4_good {Q : Plat → Cfg → List Instr → Prop} {s : State} (h : s.Good Q) (cause : Nat) :
    (State.enterM4 cause s).Good Q := by
  unfold State.enterM4
  repeat' first
    | with_reducible assumption
    | with_reducible apply good_ite
    | with_reducible apply State.abandonRequest_good
    | with_reducible apply State.enterMode_good
    | split
    | apply good_ite

end Sys2Proof.Machine
end

