-- ==== Sys2Proof/Laws/Sound/Blocks.lean ====
section
/-! SUPPORT. Every operation of Machine/Blocks.lean keeps a sound state sound. -/

set_option linter.unusedTactic false
set_option linter.unreachableTactic false
set_option linter.unusedVariables false
set_option linter.tactic.unusedName false

namespace Sys2Proof.Machine

theorem State.writeRoleKey_good {Q : Plat → Cfg → List Instr → Prop} {s : State} (h : s.Good Q) (r sessionKey : Nat) (wrapped : List Nat) :
    (State.writeRoleKey r sessionKey wrapped s).1.Good Q := by
  unfold State.writeRoleKey
  repeat' first
    | with_reducible assumption
    | (extract_lets +onlyGivenNames x; (first | (refine good_step (Q := Q) (x := x) ?_ ?_; (on_goal 1 => unfold x); on_goal 2 => (intro hx; try clear_value x)) | (refine good_step_fst (Q := Q) (x := x) ?_ ?_; (on_goal 1 => unfold x); on_goal 2 => (intro hx; try clear_value x)) | refine good_keepC (x := x) (fun _ => ?_) | refine good_keepS (x := x) (fun _ => ?_) | refine good_keepM (x := x) (fun _ => ?_) | refine good_keepR (x := x) (fun _ => ?_) | refine good_keepT (x := x) (fun _ => ?_) | refine good_keepN (x := x) (fun _ => ?_) | refine good_keepF (x := x) (fun _ => ?_) | refine good_keepG (x := x) (fun _ => ?_) | clear_value x | skip); all_goals (rename' x => y))
    | with_reducible apply State.refuse_good
    | with_reducible apply State.inc32_good
    | with_reducible exact good_free (by with_reducible assumption) ..
    | split

theorem State.writePartnerKey_good {Q : Plat → Cfg → List Instr → Prop} {s : State} (h : s.Good Q) (sessionKey : Nat) (wrapped : List Nat) :
    (State.writePartnerKey sessionKey wrapped s).1.Good Q := by
  unfold State.writePartnerKey
  repeat' first
    | with_reducible assumption
    | (extract_lets +onlyGivenNames x; (first | (refine good_step (Q := Q) (x := x) ?_ ?_; (on_goal 1 => unfold x); on_goal 2 => (intro hx; try clear_value x)) | (refine good_step_fst (Q := Q) (x := x) ?_ ?_; (on_goal 1 => unfold x); on_goal 2 => (intro hx; try clear_value x)) | refine good_keepC (x := x) (fun _ => ?_) | refine good_keepS (x := x) (fun _ => ?_) | refine good_keepM (x := x) (fun _ => ?_) | refine good_keepR (x := x) (fun _ => ?_) | refine good_keepT (x := x) (fun _ => ?_) | refine good_keepN (x := x) (fun _ => ?_) | refine good_keepF (x := x) (fun _ => ?_) | refine good_keepG (x := x) (fun _ => ?_) | clear_value x | skip); all_goals (rename' x => y))
    | with_reducible apply State.refuse_good
    | with_reducible exact good_free (by with_reducible assumption) ..
    | split

theorem State.putShadow_good {Q : Plat → Cfg → List Instr → Prop} {s : State} (h : s.Good Q) (k : Nat) (data : List Nat) :
    (State.putShadow k data s).1.Good Q := by
  unfold State.putShadow
  repeat' first
    | with_reducible assumption
    | (extract_lets +onlyGivenNames x; (first | (refine good_step (Q := Q) (x := x) ?_ ?_; (on_goal 1 => unfold x); on_goal 2 => (intro hx; try clear_value x)) | (refine good_step_fst (Q := Q) (x := x) ?_ ?_; (on_goal 1 => unfold x); on_goal 2 => (intro hx; try clear_value x)) | refine good_keepC (x := x) (fun _ => ?_) | refine good_keepS (x := x) (fun _ => ?_) | refine good_keepM (x := x) (fun _ => ?_) | refine good_keepR (x := x) (fun _ => ?_) | refine good_keepT (x := x) (fun _ => ?_) | refine good_keepN (x := x) (fun _ => ?_) | refine good_keepF (x := x) (fun _ => ?_) | refine good_keepG (x := x) (fun _ => ?_) | clear_value x | skip); all_goals (rename' x => y))
    | with_reducible apply good_ite
    | with_reducible apply good_ite_fst
    | with_reducible apply State.refuse_good
    | with_reducible apply State.shadowTouch_good
    | with_reducible refine good_mem (by with_reducible assumption) ?_
    | with_reducible exact good_free (by with_reducible assumption) ..
    | (with_reducible apply memWf_setBytes; with_reducible exact State.Good.mem (by with_reducible assumption))
    | split
    | apply good_ite

theorem State.recompute_good {Q : Plat → Cfg → List Instr → Prop} {s : State} (h : s.Good Q)  (hQ : Undoable Q := by first | assumption | exact undoable_const) :
    (State.recompute s).Good Q := by
  unfold State.recompute
  repeat' first
    | with_reducible assumption
    | with_reducible apply good_ite
    | with_reducible apply good_ite_fst
    | with_reducible apply State.leaveAsk_good
    | split
    | apply good_ite

theorem State.takeBlock_good {Q : Plat → Cfg → List Instr → Prop} {s : State} (h : s.Good Q) (sessionKey k : Nat) (data : List Nat) (hQ : Undoable Q := by first | assumption | exact undoable_const) :
    (State.takeBlock sessionKey k data s).1.Good Q := by
  unfold State.takeBlock
  repeat' first
    | with_reducible assumption
    | (extract_lets +onlyGivenNames x; (first | (refine good_step (Q := Q) (x := x) ?_ ?_; (on_goal 1 => unfold x); on_goal 2 => (intro hx; try clear_value x)) | (refine good_step_fst (Q := Q) (x := x) ?_ ?_; (on_goal 1 => unfold x); on_goal 2 => (intro hx; try clear_value x)) | refine good_keepC (x := x) (fun _ => ?_) | refine good_keepS (x := x) (fun _ => ?_) | refine good_keepM (x := x) (fun _ => ?_) | refine good_keepR (x := x) (fun _ => ?_) | refine good_keepT (x := x) (fun _ => ?_) | refine good_keepN (x := x) (fun _ => ?_) | refine good_keepF (x := x) (fun _ => ?_) | refine good_keepG (x := x) (fun _ => ?_) | clear_value x | skip); all_goals (rename' x => y))
    | with_reducible apply good_ite
    | with_reducible apply good_ite_fst
    | with_reducible apply State.put_good
    | with_reducible apply State.putShadow_good
    | with_reducible apply State.refuse_good
    | with_reducible apply State.recompute_good
    | with_reducible apply State.writeRoleKey_good
    | with_reducible apply State.writePartnerKey_good
    | with_reducible apply State.canSubmit_good
    | with_reducible refine good_roa (by with_reducible assumption) ?_
    | with_reducible refine good_mem (by with_reducible assumption) ?_
    | with_reducible exact good_free (by with_reducible assumption) ..
    | (with_reducible apply memWf_setBytes; with_reducible exact State.Good.mem (by with_reducible assumption))
    | with_reducible exact State.Good.sess (by with_reducible assumption)
    | (rw [List.length_map]; with_reducible exact State.Good.sess (by with_reducible assumption))
    | split
    | apply good_ite

end Sys2Proof.Machine
end

