-- ==== Sys2Proof/Laws/Sound/Wire.lean ====
section
/-! SUPPORT. Every operation of Machine/Wire.lean keeps a sound state sound. -/

set_option linter.unusedTactic false
set_option linter.unreachableTactic false
set_option linter.unusedVariables false
set_option linter.tactic.unusedName false

namespace Sys2Proof.Machine

theorem State.netMod_good {Q : Plat → Cfg → List Instr → Prop} {s : State} (h : s.Good Q) (f : NetX → NetX) :
    (State.netMod f s).Good Q := by
  unfold State.netMod
  repeat' first
    | with_reducible assumption
    | (extract_lets +onlyGivenNames x; (first | (refine good_step (Q := Q) (x := x) ?_ ?_; (on_goal 1 => unfold x); on_goal 2 => (intro hx; try clear_value x)) | (refine good_step_fst (Q := Q) (x := x) ?_ ?_; (on_goal 1 => unfold x); on_goal 2 => (intro hx; try clear_value x)) | refine good_keepC (x := x) (fun _ => ?_) | refine good_keepS (x := x) (fun _ => ?_) | refine good_keepM (x := x) (fun _ => ?_) | refine good_keepR (x := x) (fun _ => ?_) | refine good_keepT (x := x) (fun _ => ?_) | refine good_keepN (x := x) (fun _ => ?_) | refine good_keepF (x := x) (fun _ => ?_) | refine good_keepG (x := x) (fun _ => ?_) | clear_value x | skip); all_goals (rename' x => y))
    | with_reducible exact good_free (by with_reducible assumption) ..

theorem State.gateOverrun_good {Q : Plat → Cfg → List Instr → Prop} {s : State} (h : s.Good Q) (p : Nat) :
    (State.gateOverrun p s).Good Q := by
  unfold State.gateOverrun
  repeat' first
    | with_reducible assumption
    | with_reducible apply State.incSat_good
    | with_reducible apply State.note_good

theorem State.netPut_good {Q : Plat → Cfg → List Instr → Prop} {s : State} (h : s.Good Q) (p : Nat) (f : TxFrame) :
    (State.netPut p f s).1.Good Q := by
  unfold State.netPut
  repeat' first
    | with_reducible assumption
    | (extract_lets +onlyGivenNames x; (first | (refine good_step (Q := Q) (x := x) ?_ ?_; (on_goal 1 => unfold x); on_goal 2 => (intro hx; try clear_value x)) | (refine good_step_fst (Q := Q) (x := x) ?_ ?_; (on_goal 1 => unfold x); on_goal 2 => (intro hx; try clear_value x)) | refine good_keepC (x := x) (fun _ => ?_) | refine good_keepS (x := x) (fun _ => ?_) | refine good_keepM (x := x) (fun _ => ?_) | refine good_keepR (x := x) (fun _ => ?_) | refine good_keepT (x := x) (fun _ => ?_) | refine good_keepN (x := x) (fun _ => ?_) | refine good_keepF (x := x) (fun _ => ?_) | refine good_keepG (x := x) (fun _ => ?_) | clear_value x | skip); all_goals (rename' x => y))
    | with_reducible apply good_ite
    | with_reducible apply good_ite_fst
    | with_reducible apply State.incSat_good
    | with_reducible apply State.gateOverrun_good
    | with_reducible apply State.netMod_good
    | with_reducible exact good_free (by with_reducible assumption) ..
    | split
    | apply good_ite

theorem State.netUdp_good {Q : Plat → Cfg → List Instr → Prop} {s : State} (h : s.Good Q) (p cls udp partner : Nat) (payload : List Nat) :
    (State.netUdp p cls udp partner payload s).1.Good Q := by
  unfold State.netUdp
  repeat' first
    | with_reducible assumption
    | with_reducible apply State.netPut_good

end Sys2Proof.Machine
end

