-- ==== Sys2Proof/Laws/Sound/Halt.lean ====
section
/-! SUPPORT. Every operation of Machine/Halt.lean keeps a sound state sound. -/

set_option linter.unusedTactic false
set_option linter.unreachableTactic false
set_option linter.unusedVariables false
set_option linter.tactic.unusedName false

namespace Sys2Proof.Machine

theorem State.stopGroups_good {Q : Plat → Cfg → List Instr → Prop} {s : State} (h : s.Good Q) (gs : List Nat) :
    (State.stopGroups gs s).Good Q := by
  unfold State.stopGroups
  repeat' first
    | with_reducible assumption
    | (intro x y hx; beta_reduce)
    | (intro x hx; beta_reduce)
    | with_reducible apply good_forAll
    | with_reducible apply State.put_good

theorem State.chargingHalt_good {Q : Plat → Cfg → List Instr → Prop} {s : State} (h : s.Good Q) (code : Nat) :
    (State.chargingHalt code s).Good Q := by
  unfold State.chargingHalt
  repeat' first
    | with_reducible assumption
    | with_reducible apply good_ite
    | with_reducible apply State.wcRamp_good
    | with_reducible apply State.lkStop_good
    | with_reducible apply State.sessionEnd_good
    | split
    | apply good_ite

theorem State.cpHalt_good {Q : Plat → Cfg → List Instr → Prop} {s : State} (h : s.Good Q) (c : Nat) :
    (State.cpHalt c s).Good Q := by
  unfold State.cpHalt
  repeat' first
    | with_reducible assumption
    | with_reducible apply good_ite
    | with_reducible apply State.cpEndPhase_good
    | split
    | apply good_ite

theorem State.postHalt_good {Q : Plat → Cfg → List Instr → Prop} {s : State} (h : s.Good Q) (code : Nat) :
    (State.postHalt code s).Good Q := by
  unfold State.postHalt
  repeat' first
    | with_reducible assumption
    | (extract_lets +onlyGivenNames x; (first | (refine good_step (Q := Q) (x := x) ?_ ?_; (on_goal 1 => unfold x); on_goal 2 => (intro hx; try clear_value x)) | (refine good_step_fst (Q := Q) (x := x) ?_ ?_; (on_goal 1 => unfold x); on_goal 2 => (intro hx; try clear_value x)) | refine good_keepC (x := x) (fun _ => ?_) | refine good_keepS (x := x) (fun _ => ?_) | refine good_keepM (x := x) (fun _ => ?_) | refine good_keepR (x := x) (fun _ => ?_) | refine good_keepT (x := x) (fun _ => ?_) | refine good_keepN (x := x) (fun _ => ?_) | refine good_keepF (x := x) (fun _ => ?_) | refine good_keepG (x := x) (fun _ => ?_) | clear_value x | skip); all_goals (rename' x => y))
    | with_reducible apply good_ite
    | with_reducible apply State.postStop_good
    | with_reducible apply State.postMod_good
    | with_reducible exact good_free (by with_reducible assumption) ..
    | split
    | apply good_ite

theorem State.gaHalt_good {Q : Plat → Cfg → List Instr → Prop} {s : State} (h : s.Good Q) (a : Nat) (hQ : Undoable Q := by first | assumption | exact undoable_const) :
    (State.gaHalt a s).Good Q := by
  unfold State.gaHalt
  repeat' first
    | with_reducible assumption
    | (extract_lets +onlyGivenNames x; (first | (refine good_step (Q := Q) (x := x) ?_ ?_; (on_goal 1 => unfold x); on_goal 2 => (intro hx; try clear_value x)) | (refine good_step_fst (Q := Q) (x := x) ?_ ?_; (on_goal 1 => unfold x); on_goal 2 => (intro hx; try clear_value x)) | refine good_keepC (x := x) (fun _ => ?_) | refine good_keepS (x := x) (fun _ => ?_) | refine good_keepM (x := x) (fun _ => ?_) | refine good_keepR (x := x) (fun _ => ?_) | refine good_keepT (x := x) (fun _ => ?_) | refine good_keepN (x := x) (fun _ => ?_) | refine good_keepF (x := x) (fun _ => ?_) | refine good_keepG (x := x) (fun _ => ?_) | clear_value x | skip); all_goals (rename' x => y))
    | with_reducible apply good_ite
    | with_reducible apply State.put_good
    | with_reducible apply State.gaOff_good
    | with_reducible apply State.gaPark_good
    | with_reducible apply State.wcParkLost_good
    | split
    | apply good_ite

theorem State.haltFn_good {Q : Plat → Cfg → List Instr → Prop} {s : State} (h : s.Good Q) (code : Nat) (f : Fn) (hQ : Undoable Q := by first | assumption | exact undoable_const) :
    (State.haltFn code f s).Good Q := by
  unfold State.haltFn
  repeat' first
    | with_reducible assumption
    | (extract_lets +onlyGivenNames x; (first | (refine good_step (Q := Q) (x := x) ?_ ?_; (on_goal 1 => unfold x); on_goal 2 => (intro hx; try clear_value x)) | (refine good_step_fst (Q := Q) (x := x) ?_ ?_; (on_goal 1 => unfold x); on_goal 2 => (intro hx; try clear_value x)) | refine good_keepC (x := x) (fun _ => ?_) | refine good_keepS (x := x) (fun _ => ?_) | refine good_keepM (x := x) (fun _ => ?_) | refine good_keepR (x := x) (fun _ => ?_) | refine good_keepT (x := x) (fun _ => ?_) | refine good_keepN (x := x) (fun _ => ?_) | refine good_keepF (x := x) (fun _ => ?_) | refine good_keepG (x := x) (fun _ => ?_) | clear_value x | skip); all_goals (rename' x => y))
    | with_reducible apply good_ite
    | with_reducible apply State.stopGroups_good
    | with_reducible apply State.chargingHalt_good
    | with_reducible apply State.lvHalt_good
    | with_reducible apply State.cpHalt_good
    | with_reducible apply State.gaHalt_good
    | with_reducible apply State.tdEnd_good
    | with_reducible apply State.stDown_good
    | with_reducible apply State.postHalt_good
    | with_reducible apply State.pumpStop_good
    | with_reducible exact good_free (by with_reducible assumption) ..
    | split
    | apply good_ite

end Sys2Proof.Machine
end

