-- ==== Sys2Proof/Laws/Sound/Faults.lean ====
section
/-! SUPPORT. Every operation of Machine/Faults.lean keeps a sound state sound. -/

set_option linter.unusedTactic false
set_option linter.unreachableTactic false
set_option linter.unusedVariables false
set_option linter.tactic.unusedName false

namespace Sys2Proof.Machine

theorem State.modRecord_good {Q : Plat → Cfg → List Instr → Prop} {s : State} (h : s.Good Q) (slot : Nat) (f : FaultRec → FaultRec) :
    (State.modRecord slot f s).Good Q := by
  unfold State.modRecord
  repeat' first
    | with_reducible assumption
    | (extract_lets +onlyGivenNames x; (first | (refine good_step (Q := Q) (x := x) ?_ ?_; (on_goal 1 => unfold x); on_goal 2 => (intro hx; try clear_value x)) | (refine good_step_fst (Q := Q) (x := x) ?_ ?_; (on_goal 1 => unfold x); on_goal 2 => (intro hx; try clear_value x)) | refine good_keepC (x := x) (fun _ => ?_) | refine good_keepS (x := x) (fun _ => ?_) | refine good_keepM (x := x) (fun _ => ?_) | refine good_keepR (x := x) (fun _ => ?_) | refine good_keepT (x := x) (fun _ => ?_) | refine good_keepN (x := x) (fun _ => ?_) | refine good_keepF (x := x) (fun _ => ?_) | refine good_keepG (x := x) (fun _ => ?_) | clear_value x | skip); all_goals (rename' x => y))
    | with_reducible apply good_ite
    | with_reducible refine good_fc (by with_reducible assumption) ?_ ?_
    | with_reducible exact good_free (by with_reducible assumption) ..
    | with_reducible exact State.Good.queue (by with_reducible assumption)
    | with_reducible exact State.Good.ring (by with_reducible assumption)
    | split
    | apply good_ite

theorem State.openRecord_good {Q : Plat → Cfg → List Instr → Prop} {s : State} (h : s.Good Q) (r : FaultRec) :
    (State.openRecord r s).Good Q := by
  unfold State.openRecord
  repeat' first
    | with_reducible assumption
    | (extract_lets +onlyGivenNames x; (first | (refine good_step (Q := Q) (x := x) ?_ ?_; (on_goal 1 => unfold x); on_goal 2 => (intro hx; try clear_value x)) | (refine good_step_fst (Q := Q) (x := x) ?_ ?_; (on_goal 1 => unfold x); on_goal 2 => (intro hx; try clear_value x)) | refine good_keepC (x := x) (fun _ => ?_) | refine good_keepS (x := x) (fun _ => ?_) | refine good_keepM (x := x) (fun _ => ?_) | refine good_keepR (x := x) (fun _ => ?_) | refine good_keepT (x := x) (fun _ => ?_) | refine good_keepN (x := x) (fun _ => ?_) | refine good_keepF (x := x) (fun _ => ?_) | refine good_keepG (x := x) (fun _ => ?_) | clear_value x | skip); all_goals (rename' x => y))
    | with_reducible apply good_ite
    | with_reducible apply State.put_good
    | with_reducible refine good_fc (by with_reducible assumption) ?_ ?_
    | with_reducible exact good_free (by with_reducible assumption) ..
    | with_reducible exact State.Good.queue (by with_reducible assumption)
    | with_reducible exact State.Good.ring (by with_reducible assumption)
    | split
    | apply good_ite

theorem State.react_good {Q : Plat → Cfg → List Instr → Prop} {s : State} (h : s.Good Q) (r : Raise) (hQ : Undoable Q := by first | assumption | exact undoable_const) :
    (State.react r s).Good Q := by
  unfold State.react
  repeat' first
    | with_reducible assumption
    | (intro x y hx; beta_reduce)
    | (intro x hx; beta_reduce)
    | with_reducible apply good_ite
    | with_reducible apply good_foldl
    | with_reducible apply good_foldl_fst
    | with_reducible apply State.haltFn_good
    | split
    | apply good_ite

theorem State.takeRaise_good {Q : Plat → Cfg → List Instr → Prop} {s : State} (h : s.Good Q) (r : Raise) :
    (State.takeRaise r s).Good Q := by
  unfold State.takeRaise
  repeat' first
    | with_reducible assumption
    | (extract_lets +onlyGivenNames x; (first | (refine good_step (Q := Q) (x := x) ?_ ?_; (on_goal 1 => unfold x); on_goal 2 => (intro hx; try clear_value x)) | (refine good_step_fst (Q := Q) (x := x) ?_ ?_; (on_goal 1 => unfold x); on_goal 2 => (intro hx; try clear_value x)) | refine good_keepC (x := x) (fun _ => ?_) | refine good_keepS (x := x) (fun _ => ?_) | refine good_keepM (x := x) (fun _ => ?_) | refine good_keepR (x := x) (fun _ => ?_) | refine good_keepT (x := x) (fun _ => ?_) | refine good_keepN (x := x) (fun _ => ?_) | refine good_keepF (x := x) (fun _ => ?_) | refine good_keepG (x := x) (fun _ => ?_) | clear_value x | skip); all_goals (rename' x => y))
    | with_reducible apply good_ite
    | with_reducible apply State.modRecord_good
    | with_reducible apply State.log_good
    | with_reducible apply State.openRecord_good
    | with_reducible exact good_free (by with_reducible assumption) ..
    | split
    | apply good_ite

theorem State.recordTake_good {Q : Plat → Cfg → List Instr → Prop} {s : State} (h : s.Good Q) (hQ : Undoable Q := by first | assumption | exact undoable_const) : (State.recordTake s).Good Q := by
  unfold State.recordTake
  split
  · exact h
  · rename_i r rest hq
    have hl : rest.length ≤ 256 := by
      have := h.queue
      rw [hq] at this
      simp only [List.length_cons] at this
      omega
    exact State.react_good (State.takeRaise_good (good_fc (v := { s.fc with queue := rest }) h hl h.ring) r) r

theorem State.clearFault_good {Q : Plat → Cfg → List Instr → Prop} {s : State} (h : s.Good Q) (code inst : Nat) :
    (State.clearFault code inst s).Good Q := by
  unfold State.clearFault
  repeat' first
    | with_reducible assumption
    | (intro x y hx; beta_reduce)
    | (intro x hx; beta_reduce)
    | (extract_lets +onlyGivenNames x; (first | (refine good_step (Q := Q) (x := x) ?_ ?_; (on_goal 1 => unfold x); on_goal 2 => (intro hx; try clear_value x)) | (refine good_step_fst (Q := Q) (x := x) ?_ ?_; (on_goal 1 => unfold x); on_goal 2 => (intro hx; try clear_value x)) | refine good_keepC (x := x) (fun _ => ?_) | refine good_keepS (x := x) (fun _ => ?_) | refine good_keepM (x := x) (fun _ => ?_) | refine good_keepR (x := x) (fun _ => ?_) | refine good_keepT (x := x) (fun _ => ?_) | refine good_keepN (x := x) (fun _ => ?_) | refine good_keepF (x := x) (fun _ => ?_) | refine good_keepG (x := x) (fun _ => ?_) | clear_value x | skip); all_goals (rename' x => y))
    | with_reducible apply good_ite
    | with_reducible apply good_foldl
    | with_reducible apply good_foldl_fst
    | with_reducible apply State.put_good
    | with_reducible apply State.incSat_good
    | with_reducible apply State.modRecord_good
    | with_reducible apply State.log_good
    | with_reducible apply State.statusBit_good
    | with_reducible apply State.refreshClassMap_good
    | with_reducible refine good_fc (by with_reducible assumption) ?_ ?_
    | with_reducible refine good_active (by with_reducible assumption) ?_
    | with_reducible exact good_free (by with_reducible assumption) ..
    | with_reducible exact State.Good.queue (by with_reducible assumption)
    | with_reducible exact State.Good.ring (by with_reducible assumption)
    | split
    | apply good_ite

theorem State.flushLog_good {Q : Plat → Cfg → List Instr → Prop} {s : State} (h : s.Good Q) : (State.flushLog s).Good Q := by
  unfold State.flushLog
  refine good_fc h h.queue ?_
  simp only [List.length_drop]
  omega

theorem State.inject_good {Q : Plat → Cfg → List Instr → Prop} {s : State} (h : s.Good Q)  (hQ : Undoable Q := by first | assumption | exact undoable_const) :
    (State.inject s).Good Q := by
  unfold State.inject
  repeat' first
    | with_reducible assumption
    | (extract_lets +onlyGivenNames x; (first | (refine good_step (Q := Q) (x := x) ?_ ?_; (on_goal 1 => unfold x); on_goal 2 => (intro hx; try clear_value x)) | (refine good_step_fst (Q := Q) (x := x) ?_ ?_; (on_goal 1 => unfold x); on_goal 2 => (intro hx; try clear_value x)) | refine good_keepC (x := x) (fun _ => ?_) | refine good_keepS (x := x) (fun _ => ?_) | refine good_keepM (x := x) (fun _ => ?_) | refine good_keepR (x := x) (fun _ => ?_) | refine good_keepT (x := x) (fun _ => ?_) | refine good_keepN (x := x) (fun _ => ?_) | refine good_keepF (x := x) (fun _ => ?_) | refine good_keepG (x := x) (fun _ => ?_) | clear_value x | skip); all_goals (rename' x => y))
    | with_reducible apply good_ite
    | with_reducible apply State.put_good
    | with_reducible apply State.raiseWith_good
    | with_reducible exact good_free (by with_reducible assumption) ..
    | split
    | apply good_ite

end Sys2Proof.Machine
end

