-- ==== Sys2Proof/Laws/Sound/Swap.lean ====
section
/-! SUPPORT. Every operation of Machine/Swap.lean keeps a sound state sound. -/

set_option linter.unusedTactic false
set_option linter.unreachableTactic false
set_option linter.unusedVariables false
set_option linter.tactic.unusedName false

namespace Sys2Proof.Machine

theorem State.crowdShown_good {Q : Plat → Cfg → List Instr → Prop} {s : State} (h : s.Good Q) (map : Nat) : (State.crowdShown map s).Good Q := by
  unfold State.crowdShown
  exact good_forAll h (fun n t ht => State.put_good ht _ _)

theorem State.swapArm_good {Q : Plat → Cfg → List Instr → Prop} {s : State} (h : s.Good Q)  (hQ : Undoable Q := by first | assumption | exact undoable_const) :
    (State.swapArm s).Good Q := by
  unfold State.swapArm
  repeat' first
    | with_reducible assumption
    | (intro x y hx; beta_reduce)
    | (intro x hx; beta_reduce)
    | (extract_lets +onlyGivenNames x; (first | (refine good_step (Q := Q) (x := x) ?_ ?_; (on_goal 1 => unfold x); on_goal 2 => (intro hx; try clear_value x)) | (refine good_step_fst (Q := Q) (x := x) ?_ ?_; (on_goal 1 => unfold x); on_goal 2 => (intro hx; try clear_value x)) | refine good_keepC (x := x) (fun _ => ?_) | refine good_keepS (x := x) (fun _ => ?_) | refine good_keepM (x := x) (fun _ => ?_) | refine good_keepR (x := x) (fun _ => ?_) | refine good_keepT (x := x) (fun _ => ?_) | refine good_keepN (x := x) (fun _ => ?_) | refine good_keepF (x := x) (fun _ => ?_) | refine good_keepG (x := x) (fun _ => ?_) | clear_value x | skip); all_goals (rename' x => y))
    | with_reducible apply good_ite
    | with_reducible apply good_forAll
    | with_reducible apply State.refuse_good
    | with_reducible apply State.crowdShown_good
    | with_reducible apply State.put_good
    | with_reducible apply State.swapAngle_good
    | with_reducible apply State.log_good
    | with_reducible exact good_free (by with_reducible assumption) ..
    | with_reducible exact good_sw (by with_reducible assumption) rfl
    | split
    | apply good_ite

theorem State.safetyCrc_good {Q : Plat → Cfg → List Instr → Prop} {s : State} (h : s.Good Q)  (hQ : Undoable Q := by first | assumption | exact undoable_const) :
    (State.safetyCrc s).Good Q := by
  unfold State.safetyCrc
  repeat' first
    | with_reducible assumption
    | (extract_lets +onlyGivenNames x; (first | (refine good_step (Q := Q) (x := x) ?_ ?_; (on_goal 1 => unfold x); on_goal 2 => (intro hx; try clear_value x)) | (refine good_step_fst (Q := Q) (x := x) ?_ ?_; (on_goal 1 => unfold x); on_goal 2 => (intro hx; try clear_value x)) | refine good_keepC (x := x) (fun _ => ?_) | refine good_keepS (x := x) (fun _ => ?_) | refine good_keepM (x := x) (fun _ => ?_) | refine good_keepR (x := x) (fun _ => ?_) | refine good_keepT (x := x) (fun _ => ?_) | refine good_keepN (x := x) (fun _ => ?_) | refine good_keepF (x := x) (fun _ => ?_) | refine good_keepG (x := x) (fun _ => ?_) | clear_value x | skip); all_goals (rename' x => y))
    | with_reducible apply good_ite
    | with_reducible apply State.put_good
    | with_reducible apply State.raise_good
    | split
    | apply good_ite

theorem State.sensorsFollow_good {Q : Plat → Cfg → List Instr → Prop} {s : State} (h : s.Good Q) : (State.sensorsFollow s).Good Q := by
  have hs : ∀ (on : Bool) (k : Nat) (t : State), t.Good Q →
      (if t.sensing && on then (if t.oN k = 0 then t.put k 1 else t) else t.put k 0).Good Q := fun on k t ht =>
    good_ite (good_ite (State.put_good ht _ _) ht) (State.put_good ht _ _)
  unfold State.sensorsFollow
  exact good_forAll (good_forAll (good_forAll h (fun _ t ht => hs _ _ t ht)) (fun _ t ht => hs _ _ t ht)) (fun _ t ht => hs _ _ t ht)

theorem State.suppliesFollow_good {Q : Plat → Cfg → List Instr → Prop} {s : State} (h : s.Good Q) :
    (State.suppliesFollow s).Good Q := by
  unfold State.suppliesFollow
  repeat' first
    | with_reducible assumption
    | (intro x y hx; beta_reduce)
    | (intro x hx; beta_reduce)
    | with_reducible apply good_ite
    | with_reducible apply good_forAll
    | with_reducible apply State.gsPut_good
    | split
    | apply good_ite

theorem State.tbSwap_good {Q : Plat → Cfg → List Instr → Prop} {s : State} (h : s.Good Q) (old : State) (t : Nat) (hQ : Undoable Q := by first | assumption | exact undoable_const) :
    (State.tbSwap old t s).Good Q := by
  unfold State.tbSwap
  repeat' first
    | with_reducible assumption
    | (extract_lets +onlyGivenNames x; (first | (refine good_step (Q := Q) (x := x) ?_ ?_; (on_goal 1 => unfold x); on_goal 2 => (intro hx; try clear_value x)) | (refine good_step_fst (Q := Q) (x := x) ?_ ?_; (on_goal 1 => unfold x); on_goal 2 => (intro hx; try clear_value x)) | refine good_keepC (x := x) (fun _ => ?_) | refine good_keepS (x := x) (fun _ => ?_) | refine good_keepM (x := x) (fun _ => ?_) | refine good_keepR (x := x) (fun _ => ?_) | refine good_keepT (x := x) (fun _ => ?_) | refine good_keepN (x := x) (fun _ => ?_) | refine good_keepF (x := x) (fun _ => ?_) | refine good_keepG (x := x) (fun _ => ?_) | clear_value x | skip); all_goals (rename' x => y))
    | with_reducible apply good_ite
    | with_reducible apply State.tbEnable_good
    | with_reducible apply State.setSourceSpeed_good
    | split
    | apply good_ite

theorem State.slotSwap_good {Q : Plat → Cfg → List Instr → Prop} {s : State} (h : s.Good Q) (old : State) (at_ n : Nat) (hQ : Undoable Q := by first | assumption | exact undoable_const) :
    (State.slotSwap old at_ n s).Good Q := by
  unfold State.slotSwap
  repeat' first
    | with_reducible assumption
    | (extract_lets +onlyGivenNames x; (first | (refine good_step (Q := Q) (x := x) ?_ ?_; (on_goal 1 => unfold x); on_goal 2 => (intro hx; try clear_value x)) | (refine good_step_fst (Q := Q) (x := x) ?_ ?_; (on_goal 1 => unfold x); on_goal 2 => (intro hx; try clear_value x)) | refine good_keepC (x := x) (fun _ => ?_) | refine good_keepS (x := x) (fun _ => ?_) | refine good_keepM (x := x) (fun _ => ?_) | refine good_keepR (x := x) (fun _ => ?_) | refine good_keepT (x := x) (fun _ => ?_) | refine good_keepN (x := x) (fun _ => ?_) | refine good_keepF (x := x) (fun _ => ?_) | refine good_keepG (x := x) (fun _ => ?_) | clear_value x | skip); all_goals (rename' x => y))
    | with_reducible apply good_ite
    | with_reducible apply State.slotMod_good
    | with_reducible apply State.slotDerived_good
    | with_reducible apply State.slotDown_good
    | with_reducible apply State.put_good
    | with_reducible apply State.slotUp_good
    | with_reducible exact good_free (by with_reducible assumption) ..
    | split
    | apply good_ite

theorem State.engineSwap_good {Q : Plat → Cfg → List Instr → Prop} {s : State} (h : s.Good Q) (old : State) (at_ e : Nat) (hQ : Undoable Q := by first | assumption | exact undoable_const) :
    (State.engineSwap old at_ e s).Good Q := by
  unfold State.engineSwap
  repeat' first
    | with_reducible assumption
    | (intro x y hx; beta_reduce)
    | (intro x hx; beta_reduce)
    | (extract_lets +onlyGivenNames x; (first | (refine good_step (Q := Q) (x := x) ?_ ?_; (on_goal 1 => unfold x); on_goal 2 => (intro hx; try clear_value x)) | (refine good_step_fst (Q := Q) (x := x) ?_ ?_; (on_goal 1 => unfold x); on_goal 2 => (intro hx; try clear_value x)) | refine good_keepC (x := x) (fun _ => ?_) | refine good_keepS (x := x) (fun _ => ?_) | refine good_keepM (x := x) (fun _ => ?_) | refine good_keepR (x := x) (fun _ => ?_) | refine good_keepT (x := x) (fun _ => ?_) | refine good_keepN (x := x) (fun _ => ?_) | refine good_keepF (x := x) (fun _ => ?_) | refine good_keepG (x := x) (fun _ => ?_) | clear_value x | skip); all_goals (rename' x => y))
    | with_reducible apply good_ite
    | with_reducible apply good_forAll
    | with_reducible apply State.engMod_good
    | with_reducible apply State.slotSwap_good
    | with_reducible apply State.supRestart_good
    | with_reducible exact good_free (by with_reducible assumption) ..
    | split
    | apply good_ite

theorem State.groupSwap_good {Q : Plat → Cfg → List Instr → Prop} {s : State} (h : s.Good Q) (old : State) (g : Nat) :
    (State.groupSwap old g s).Good Q := by
  unfold State.groupSwap
  repeat' first
    | with_reducible assumption
    | (intro x y hx; beta_reduce)
    | (intro x hx; beta_reduce)
    | (extract_lets +onlyGivenNames x; (first | (refine good_step (Q := Q) (x := x) ?_ ?_; (on_goal 1 => unfold x); on_goal 2 => (intro hx; try clear_value x)) | (refine good_step_fst (Q := Q) (x := x) ?_ ?_; (on_goal 1 => unfold x); on_goal 2 => (intro hx; try clear_value x)) | refine good_keepC (x := x) (fun _ => ?_) | refine good_keepS (x := x) (fun _ => ?_) | refine good_keepM (x := x) (fun _ => ?_) | refine good_keepR (x := x) (fun _ => ?_) | refine good_keepT (x := x) (fun _ => ?_) | refine good_keepN (x := x) (fun _ => ?_) | refine good_keepF (x := x) (fun _ => ?_) | refine good_keepG (x := x) (fun _ => ?_) | clear_value x | skip); all_goals (rename' x => y))
    | with_reducible apply good_ite
    | with_reducible apply good_forAll
    | with_reducible apply State.chanOff_good
    | with_reducible apply State.groupOff_good
    | split
    | apply good_ite

theorem State.followSwap_good {Q : Plat → Cfg → List Instr → Prop} {s : State} (h : s.Good Q) (old : State) (at_ map : Nat) (hQ : Undoable Q := by first | assumption | exact undoable_const) :
    (State.followSwap old at_ map s).Good Q := by
  unfold State.followSwap
  repeat' first
    | with_reducible assumption
    | (intro x y hx; beta_reduce)
    | (intro x hx; beta_reduce)
    | (extract_lets +onlyGivenNames x; (first | (refine good_step (Q := Q) (x := x) ?_ ?_; (on_goal 1 => unfold x); on_goal 2 => (intro hx; try clear_value x)) | (refine good_step_fst (Q := Q) (x := x) ?_ ?_; (on_goal 1 => unfold x); on_goal 2 => (intro hx; try clear_value x)) | refine good_keepC (x := x) (fun _ => ?_) | refine good_keepS (x := x) (fun _ => ?_) | refine good_keepM (x := x) (fun _ => ?_) | refine good_keepR (x := x) (fun _ => ?_) | refine good_keepT (x := x) (fun _ => ?_) | refine good_keepN (x := x) (fun _ => ?_) | refine good_keepF (x := x) (fun _ => ?_) | refine good_keepG (x := x) (fun _ => ?_) | clear_value x | skip); all_goals (rename' x => y))
    | with_reducible apply good_ite
    | with_reducible apply good_forAll
    | with_reducible apply State.tbSwap_good
    | with_reducible apply State.engineSwap_good
    | with_reducible apply State.obsSwap_good
    | with_reducible apply State.groupSwap_good
    | with_reducible apply State.sensorsFollow_good
    | with_reducible apply State.suppliesFollow_good
    | with_reducible apply State.lvFollow_good
    | with_reducible apply State.canSwap_good
    | with_reducible apply State.xgFollow_good
    | with_reducible apply State.t1sFollow_good
    | with_reducible apply State.linkFollow_good
    | with_reducible apply State.monStart_good
    | with_reducible apply State.eslFollow_good
    | with_reducible apply State.safetyCrc_good
    | split
    | apply good_ite

theorem State.scopeSwapped_good {Q : Plat → Cfg → List Instr → Prop} {s : State} (h : s.Good Q) (n : Nat) :
    (State.scopeSwapped n s).Good Q := by
  unfold State.scopeSwapped
  repeat' first
    | with_reducible assumption
    | (extract_lets +onlyGivenNames x; (first | (refine good_step (Q := Q) (x := x) ?_ ?_; (on_goal 1 => unfold x); on_goal 2 => (intro hx; try clear_value x)) | (refine good_step_fst (Q := Q) (x := x) ?_ ?_; (on_goal 1 => unfold x); on_goal 2 => (intro hx; try clear_value x)) | refine good_keepC (x := x) (fun _ => ?_) | refine good_keepS (x := x) (fun _ => ?_) | refine good_keepM (x := x) (fun _ => ?_) | refine good_keepR (x := x) (fun _ => ?_) | refine good_keepT (x := x) (fun _ => ?_) | refine good_keepN (x := x) (fun _ => ?_) | refine good_keepF (x := x) (fun _ => ?_) | refine good_keepG (x := x) (fun _ => ?_) | clear_value x | skip); all_goals (rename' x => y))
    | with_reducible apply State.put_good
    | with_reducible apply State.incSat_good

theorem State.settleSwap_good {Q : Plat → Cfg → List Instr → Prop} {s : State} (h : s.Good Q)
    (hQ : Undoable Q := by first | assumption | exact undoable_const) : (State.settleSwap s).Good Q := by
  unfold State.settleSwap
  split
  · exact h
  · refine State.followSwap_good ?_ _ _ _
    exact ⟨h.live, h.active, h.shadow, h.mem, h.hb, h.lv, h.gs, h.tb, h.can, h.delayed, h.queue, h.ring, h.store, h.sess, h.canq, hQ.settle _ _ _ _ _ h.plant⟩

theorem State.takeSwap_good {P : Plat → List Instr → Prop} {s : State} (h : s.Good (fun w _ p => P w p)) :
    (State.takeSwap s).Good (fun w _ p => P w p) := by
  unfold State.takeSwap
  repeat' first
    | with_reducible assumption
    | with_reducible exact undoable_const
    | (intro x y hx; beta_reduce)
    | (intro x hx; beta_reduce)
    | (extract_lets +onlyGivenNames x; (first | (refine good_step (Q := (fun w _ p => P w p)) (x := x) ?_ ?_; (on_goal 1 => unfold x); on_goal 2 => (intro hx; try clear_value x)) | (refine good_step_fst (Q := (fun w _ p => P w p)) (x := x) ?_ ?_; (on_goal 1 => unfold x); on_goal 2 => (intro hx; try clear_value x)) | refine good_keepC (x := x) (fun _ => ?_) | refine good_keepS (x := x) (fun _ => ?_) | refine good_keepM (x := x) (fun _ => ?_) | refine good_keepR (x := x) (fun _ => ?_) | refine good_keepT (x := x) (fun _ => ?_) | refine good_keepN (x := x) (fun _ => ?_) | refine good_keepF (x := x) (fun _ => ?_) | refine good_keepG (x := x) (fun _ => ?_) | clear_value x | skip); all_goals (rename' x => y))
    | with_reducible apply good_forAll
    | with_reducible apply good_foldl
    | with_reducible apply good_foldl_fst
    | with_reducible apply State.settleSwap_good
    | with_reducible apply State.exchanged_good
    | with_reducible apply State.scopeSwapped_good
    | with_reducible apply State.put_good
    | with_reducible apply State.log_good
    | with_reducible refine good_active (by with_reducible assumption) ?_
    | with_reducible exact good_free (by with_reducible assumption) ..
    | with_reducible exact good_sw (by with_reducible assumption) rfl
    | with_reducible exact good_freeC (by with_reducible assumption) ..

theorem State.swapNow_good {P : Plat → List Instr → Prop} {s : State} (h : s.Good (fun w _ p => P w p)) :
    (State.swapNow s).Good (fun w _ p => P w p) := by
  unfold State.swapNow
  repeat' first
    | with_reducible assumption
    | with_reducible exact undoable_const
    | with_reducible apply good_ite
    | with_reducible apply State.takeSwap_good
    | split
    | apply good_ite

theorem State.swapAngle_good {P : Plat → List Instr → Prop} {s : State} (h : s.Good (fun w _ p => P w p)) (t : Nat) :
    (State.swapAngle t s).Good (fun w _ p => P w p) := by
  unfold State.swapAngle
  repeat' first
    | with_reducible assumption
    | with_reducible exact undoable_const
    | with_reducible apply good_ite
    | with_reducible apply State.swapNow_good
    | split
    | apply good_ite

/-- Copying the active half of some blocks over their shadow half keeps the memory's canonical form. -/
theorem memWf_copied {m : List Host.Cell} (h : memWf m = true) (g : Host.Cell → Bool) (hg : ∀ p q : Host.Cell, p.1 / 33554432 = q.1 / 33554432 → g p = g q) :
    memWf ((m.filter (fun p : Host.Cell => !(g p && 16777216 ≤ p.1 % 33554432)) ++
      (m.filter (fun p : Host.Cell => g p && p.1 % 33554432 < 16777216)).map (fun p : Host.Cell => (p.1 + 16777216, p.2))).insertionSort (fun a b => a.1 ≤ b.1)) = true := by
  rw [memWf_iff] at h
  have hn := nodup_keys h.1
  refine memWf_sorted ?_ ?_
  · rw [List.map_append, List.nodup_append]
    refine ⟨nodup_keys (h.1.filter _), ?_, ?_⟩
    · rw [List.map_map, List.Nodup, List.pairwise_map]
      refine (h.1.filter _).imp ?_
      intro a b hab he
      simp only [Function.comp] at he
      omega
    · intro x hx y hy hxy
      obtain ⟨p, hp, rfl⟩ := List.mem_map.mp hx
      rw [List.map_map] at hy
      obtain ⟨q, hq, rfl⟩ := List.mem_map.mp hy
      simp only [Function.comp] at hxy
      have h1 := (List.mem_filter.mp hp).2
      have h2 := (List.mem_filter.mp hq).2
      simp only [Bool.and_eq_true, decide_eq_true_eq, Bool.not_eq_true', Bool.and_eq_false_iff, decide_eq_false_iff_not] at h1 h2
      have hk : p.1 / 33554432 = q.1 / 33554432 := by omega
      rcases h1 with h1 | h1
      · rw [hg p q hk, h2.1] at h1
        exact absurd h1 (by simp)
      · omega
  · intro p hp
    rcases List.mem_append.mp hp with hp | hp
    · exact h.2 p (List.mem_of_mem_filter hp)
    · obtain ⟨q, hq, rfl⟩ := List.mem_map.mp hp
      have h1 := (List.mem_filter.mp hq)
      have h2 := h.2 q h1.1
      have h3 := h1.2
      simp only [Bool.and_eq_true, decide_eq_true_eq] at h3
      have hk : (q.1 + 16777216) / 33554432 = q.1 / 33554432 := by omega
      simpa only [byteDefault, hk] using h2

theorem State.copyShadows_good {Q : Plat → Cfg → List Instr → Prop} {s : State} (h : s.Good Q) (hQ : Undoable Q := by first | assumption | exact undoable_const) : (State.copyShadows s).Good Q := by
  unfold State.copyShadows
  extract_lets s1 busy done sel rws kept copies src s2
  have h1 : s1.Good Q := good_ite (State.settleSwap_good h) h
  clear_value s1
  have h2 : s2.Good Q := by
    refine ⟨h1.live, h1.active, Store.wf_pickStore s1 _ h1.active h1.shadow, ?_, h1.hb, h1.lv, h1.gs, h1.tb, h1.can, h1.delayed, h1.queue, h1.ring, h1.store,
      h1.sess, h1.canq, h1.plant⟩
    exact memWf_copied h1.mem rws (fun p q he => by simp only [rws]; rw [he])
  exact good_forAll h2 (fun n t ht => State.put_good (State.put_good ht _ _) _ _)

end Sys2Proof.Machine
end

