-- ==== Sys2Proof/Laws/Sound/Modes.lean ====
section
/-! SUPPORT. Every operation of Machine/Modes.lean keeps a sound state sound. -/

set_option linter.unusedTactic false
set_option linter.unreachableTactic false
set_option linter.unusedVariables false
set_option linter.tactic.unusedName false

namespace Sys2Proof.Machine

theorem State.rampDown_good {Q : Plat → Cfg → List Instr → Prop} {s : State} (h : s.Good Q) :
    (State.rampDown s).Good Q := by
  unfold State.rampDown
  repeat' first
    | with_reducible assumption
    | (intro x y hx; beta_reduce)
    | (intro x hx; beta_reduce)
    | (extract_lets +onlyGivenNames x; (first | (refine good_step (Q := Q) (x := x) ?_ ?_; (on_goal 1 => unfold x); on_goal 2 => (intro hx; try clear_value x)) | (refine good_step_fst (Q := Q) (x := x) ?_ ?_; (on_goal 1 => unfold x); on_goal 2 => (intro hx; try clear_value x)) | refine good_keepC (x := x) (fun _ => ?_) | refine good_keepS (x := x) (fun _ => ?_) | refine good_keepM (x := x) (fun _ => ?_) | refine good_keepR (x := x) (fun _ => ?_) | refine good_keepT (x := x) (fun _ => ?_) | refine good_keepN (x := x) (fun _ => ?_) | refine good_keepF (x := x) (fun _ => ?_) | refine good_keepG (x := x) (fun _ => ?_) | clear_value x | skip); all_goals (rename' x => y))
    | with_reducible apply good_ite
    | with_reducible apply good_forAll
    | with_reducible apply State.tracMod_good
    | with_reducible apply State.wcRamp_good
    | with_reducible apply State.lkStop_good
    | with_reducible apply State.stDown_good
    | with_reducible exact good_free (by with_reducible assumption) ..
    | split
    | apply good_ite

theorem State.cocoonByRequest_good {Q : Plat → Cfg → List Instr → Prop} {s : State} (h : s.Good Q)  (hQ : Undoable Q := by first | assumption | exact undoable_const) :
    (State.cocoonByRequest s).Good Q := by
  unfold State.cocoonByRequest
  repeat' first
    | with_reducible assumption
    | (extract_lets +onlyGivenNames x; (first | (refine good_step (Q := Q) (x := x) ?_ ?_; (on_goal 1 => unfold x); on_goal 2 => (intro hx; try clear_value x)) | (refine good_step_fst (Q := Q) (x := x) ?_ ?_; (on_goal 1 => unfold x); on_goal 2 => (intro hx; try clear_value x)) | refine good_keepC (x := x) (fun _ => ?_) | refine good_keepS (x := x) (fun _ => ?_) | refine good_keepM (x := x) (fun _ => ?_) | refine good_keepR (x := x) (fun _ => ?_) | refine good_keepT (x := x) (fun _ => ?_) | refine good_keepN (x := x) (fun _ => ?_) | refine good_keepF (x := x) (fun _ => ?_) | refine good_keepG (x := x) (fun _ => ?_) | clear_value x | skip); all_goals (rename' x => y))
    | with_reducible apply State.swapLoses_good
    | with_reducible apply State.mtrClose_good
    | with_reducible apply State.planAll_good
    | with_reducible apply State.enterM9_good
    | with_reducible apply State.put_good
    | with_reducible exact good_free (by with_reducible assumption) ..

theorem State.beginMode_good {Q : Plat → Cfg → List Instr → Prop} {s : State} (h : s.Good Q) (m : Nat) (hQ : Undoable Q := by first | assumption | exact undoable_const) :
    (State.beginMode m s).Good Q := by
  unfold State.beginMode
  repeat' first
    | with_reducible assumption
    | (extract_lets +onlyGivenNames x; (first | (refine good_step (Q := Q) (x := x) ?_ ?_; (on_goal 1 => unfold x); on_goal 2 => (intro hx; try clear_value x)) | (refine good_step_fst (Q := Q) (x := x) ?_ ?_; (on_goal 1 => unfold x); on_goal 2 => (intro hx; try clear_value x)) | refine good_keepC (x := x) (fun _ => ?_) | refine good_keepS (x := x) (fun _ => ?_) | refine good_keepM (x := x) (fun _ => ?_) | refine good_keepR (x := x) (fun _ => ?_) | refine good_keepT (x := x) (fun _ => ?_) | refine good_keepN (x := x) (fun _ => ?_) | refine good_keepF (x := x) (fun _ => ?_) | refine good_keepG (x := x) (fun _ => ?_) | clear_value x | skip); all_goals (rename' x => y))
    | with_reducible apply good_ite
    | with_reducible apply State.cocoonByRequest_good
    | with_reducible apply State.put_good
    | with_reducible apply State.rampDown_good
    | with_reducible apply State.wcBegin_good
    | with_reducible apply State.postStop_good
    | with_reducible exact good_free (by with_reducible assumption) ..
    | split
    | apply good_ite

theorem State.askMode_good {Q : Plat → Cfg → List Instr → Prop} {s : State} (h : s.Good Q) (m : Nat) (role : Role) (hQ : Undoable Q := by first | assumption | exact undoable_const) :
    (State.askMode m role s).Good Q := by
  unfold State.askMode
  repeat' first
    | with_reducible assumption
    | (extract_lets +onlyGivenNames x; (first | (refine good_step (Q := Q) (x := x) ?_ ?_; (on_goal 1 => unfold x); on_goal 2 => (intro hx; try clear_value x)) | (refine good_step_fst (Q := Q) (x := x) ?_ ?_; (on_goal 1 => unfold x); on_goal 2 => (intro hx; try clear_value x)) | refine good_keepC (x := x) (fun _ => ?_) | refine good_keepS (x := x) (fun _ => ?_) | refine good_keepM (x := x) (fun _ => ?_) | refine good_keepR (x := x) (fun _ => ?_) | refine good_keepT (x := x) (fun _ => ?_) | refine good_keepN (x := x) (fun _ => ?_) | refine good_keepF (x := x) (fun _ => ?_) | refine good_keepG (x := x) (fun _ => ?_) | clear_value x | skip); all_goals (rename' x => y))
    | with_reducible apply good_ite
    | with_reducible apply State.put_good
    | with_reducible apply State.beginMode_good
    | split
    | apply good_ite

theorem State.powerOff_good {Q : Plat → Cfg → List Instr → Prop} {s : State} (h : s.Good Q) :
    (State.powerOff s).Good Q := by
  unfold State.powerOff
  repeat' first
    | with_reducible assumption
    | (intro x y hx; beta_reduce)
    | (intro x hx; beta_reduce)
    | (extract_lets +onlyGivenNames x; (first | (refine good_step (Q := Q) (x := x) ?_ ?_; (on_goal 1 => unfold x); on_goal 2 => (intro hx; try clear_value x)) | (refine good_step_fst (Q := Q) (x := x) ?_ ?_; (on_goal 1 => unfold x); on_goal 2 => (intro hx; try clear_value x)) | refine good_keepC (x := x) (fun _ => ?_) | refine good_keepS (x := x) (fun _ => ?_) | refine good_keepM (x := x) (fun _ => ?_) | refine good_keepR (x := x) (fun _ => ?_) | refine good_keepT (x := x) (fun _ => ?_) | refine good_keepN (x := x) (fun _ => ?_) | refine good_keepF (x := x) (fun _ => ?_) | refine good_keepG (x := x) (fun _ => ?_) | clear_value x | skip); all_goals (rename' x => y))
    | with_reducible apply good_forAll
    | with_reducible apply State.xgFollow_good
    | with_reducible apply State.tbOff_good
    | with_reducible apply State.sensorsFollow_good
    | with_reducible exact good_free (by with_reducible assumption) ..

theorem State.domainsOff_good {P : Cfg → List Instr → Prop} {s : State} (h : s.Good (fun _ a p => P a p)) : (State.domainsOff s).Good (fun _ a p => P a p) := by
  unfold State.domainsOff
  extract_lets t src1 src2 src3 u
  have h1 : t.Good (fun _ a p => P a p) :=
    good_forAll (State.put_good h _ _) (fun c t ht =>
      State.canShow_good (State.put_good (State.canMod_good ht c (fun _ _ => by simp only [List.length_nil]; omega)) _ _) c)
  clear_value t
  have h2 : u.Good (fun _ a p => P a p) := ⟨h1.live, h1.active, h1.shadow, h1.mem, h1.hb, h1.lv, h1.gs, h1.tb, h1.can, h1.delayed, h1.queue, h1.ring,
    h1.store, Nat.zero_le _, h1.canq, h1.plant⟩
  exact State.put_good (State.powerOff_good h2) _ _

theorem State.doze_good {P : Cfg → List Instr → Prop} {s : State} (h : s.Good (fun _ a p => P a p)) :
    (State.doze s).Good (fun _ a p => P a p) := by
  unfold State.doze
  repeat' first
    | with_reducible assumption
    | (intro x y hx; beta_reduce)
    | (intro x hx; beta_reduce)
    | (extract_lets +onlyGivenNames x; (first | (refine good_step (Q := (fun _ a p => P a p)) (x := x) ?_ ?_; (on_goal 1 => unfold x); on_goal 2 => (intro hx; try clear_value x)) | (refine good_step_fst (Q := (fun _ a p => P a p)) (x := x) ?_ ?_; (on_goal 1 => unfold x); on_goal 2 => (intro hx; try clear_value x)) | refine good_keepC (x := x) (fun _ => ?_) | refine good_keepS (x := x) (fun _ => ?_) | refine good_keepM (x := x) (fun _ => ?_) | refine good_keepR (x := x) (fun _ => ?_) | refine good_keepT (x := x) (fun _ => ?_) | refine good_keepN (x := x) (fun _ => ?_) | refine good_keepF (x := x) (fun _ => ?_) | refine good_keepG (x := x) (fun _ => ?_) | clear_value x | skip); all_goals (rename' x => y))
    | with_reducible apply good_forAll
    | with_reducible apply State.commitDefaults_good
    | with_reducible apply State.stopSupply_good
    | with_reducible apply State.domainsOff_good
    | with_reducible apply State.put_good
    | exact State.Good.plant (by with_reducible assumption)

theorem State.factoryTest_good {Q : Plat → Cfg → List Instr → Prop} {s : State} (h : s.Good Q) :
    (State.factoryTest s).Good Q := by
  unfold State.factoryTest
  repeat' first
    | with_reducible assumption
    | (intro x y hx; beta_reduce)
    | (intro x hx; beta_reduce)
    | with_reducible apply good_forAll
    | with_reducible apply State.groupOff_good
    | with_reducible apply State.put_good
    | with_reducible apply State.lvHeld_good
    | with_reducible apply State.powerOff_good

theorem State.islandFree_good {Q : Plat → Cfg → List Instr → Prop} {s : State} (h : s.Good Q) :
    (State.islandFree s).Good Q := by
  unfold State.islandFree
  repeat' first
    | with_reducible assumption
    | (intro x y hx; beta_reduce)
    | (intro x hx; beta_reduce)
    | (extract_lets +onlyGivenNames x; (first | (refine good_step (Q := Q) (x := x) ?_ ?_; (on_goal 1 => unfold x); on_goal 2 => (intro hx; try clear_value x)) | (refine good_step_fst (Q := Q) (x := x) ?_ ?_; (on_goal 1 => unfold x); on_goal 2 => (intro hx; try clear_value x)) | refine good_keepC (x := x) (fun _ => ?_) | refine good_keepS (x := x) (fun _ => ?_) | refine good_keepM (x := x) (fun _ => ?_) | refine good_keepR (x := x) (fun _ => ?_) | refine good_keepT (x := x) (fun _ => ?_) | refine good_keepN (x := x) (fun _ => ?_) | refine good_keepF (x := x) (fun _ => ?_) | refine good_keepG (x := x) (fun _ => ?_) | clear_value x | skip); all_goals (rename' x => y))
    | with_reducible apply good_ite
    | with_reducible apply good_forAll
    | with_reducible apply State.put_good
    | with_reducible apply State.releaseUnheld_good
    | with_reducible exact good_free (by with_reducible assumption) ..
    | split
    | apply good_ite

theorem State.leaveFor_good {Q : Plat → Cfg → List Instr → Prop} {s : State} (h : s.Good Q) (m : Nat) :
    (State.leaveFor m s).Good Q := by
  unfold State.leaveFor
  repeat' first
    | with_reducible assumption
    | (intro x y hx; beta_reduce)
    | (intro x hx; beta_reduce)
    | (extract_lets +onlyGivenNames x; (first | (refine good_step (Q := Q) (x := x) ?_ ?_; (on_goal 1 => unfold x); on_goal 2 => (intro hx; try clear_value x)) | (refine good_step_fst (Q := Q) (x := x) ?_ ?_; (on_goal 1 => unfold x); on_goal 2 => (intro hx; try clear_value x)) | refine good_keepC (x := x) (fun _ => ?_) | refine good_keepS (x := x) (fun _ => ?_) | refine good_keepM (x := x) (fun _ => ?_) | refine good_keepR (x := x) (fun _ => ?_) | refine good_keepT (x := x) (fun _ => ?_) | refine good_keepN (x := x) (fun _ => ?_) | refine good_keepF (x := x) (fun _ => ?_) | refine good_keepG (x := x) (fun _ => ?_) | clear_value x | skip); all_goals (rename' x => y))
    | with_reducible apply good_forAll
    | with_reducible apply State.groupOff_good
    | with_reducible apply State.put_good
    | with_reducible apply State.tracMod_good
    | with_reducible apply State.limpOver_good
    | with_reducible apply State.wcEnd_good
    | with_reducible apply State.lkOpen_good
    | with_reducible apply State.stEnd_good
    | with_reducible apply State.ccEnd_good
    | with_reducible apply State.islandFree_good
    | with_reducible exact good_free (by with_reducible assumption) ..
    | split

theorem State.stayInM9_good {Q : Plat → Cfg → List Instr → Prop} {s : State} (h : s.Good Q) :
    (State.stayInM9 s).Good Q := by
  unfold State.stayInM9
  repeat' first
    | with_reducible assumption
    | (extract_lets +onlyGivenNames x; (first | (refine good_step (Q := Q) (x := x) ?_ ?_; (on_goal 1 => unfold x); on_goal 2 => (intro hx; try clear_value x)) | (refine good_step_fst (Q := Q) (x := x) ?_ ?_; (on_goal 1 => unfold x); on_goal 2 => (intro hx; try clear_value x)) | refine good_keepC (x := x) (fun _ => ?_) | refine good_keepS (x := x) (fun _ => ?_) | refine good_keepM (x := x) (fun _ => ?_) | refine good_keepR (x := x) (fun _ => ?_) | refine good_keepT (x := x) (fun _ => ?_) | refine good_keepN (x := x) (fun _ => ?_) | refine good_keepF (x := x) (fun _ => ?_) | refine good_keepG (x := x) (fun _ => ?_) | clear_value x | skip); all_goals (rename' x => y))
    | with_reducible apply State.put_good
    | with_reducible exact good_free (by with_reducible assumption) ..

theorem State.beginFor_good {P : Cfg → List Instr → Prop} {s : State} (h : s.Good (fun _ a p => P a p)) (old m : Nat) :
    (State.beginFor old m s).Good (fun _ a p => P a p) := by
  unfold State.beginFor
  repeat' first
    | with_reducible assumption
    | (extract_lets +onlyGivenNames x; (first | (refine good_step (Q := (fun _ a p => P a p)) (x := x) ?_ ?_; (on_goal 1 => unfold x); on_goal 2 => (intro hx; try clear_value x)) | (refine good_step_fst (Q := (fun _ a p => P a p)) (x := x) ?_ ?_; (on_goal 1 => unfold x); on_goal 2 => (intro hx; try clear_value x)) | refine good_keepC (x := x) (fun _ => ?_) | refine good_keepS (x := x) (fun _ => ?_) | refine good_keepM (x := x) (fun _ => ?_) | refine good_keepR (x := x) (fun _ => ?_) | refine good_keepT (x := x) (fun _ => ?_) | refine good_keepN (x := x) (fun _ => ?_) | refine good_keepF (x := x) (fun _ => ?_) | refine good_keepG (x := x) (fun _ => ?_) | clear_value x | skip); all_goals (rename' x => y))
    | with_reducible apply good_ite
    | with_reducible apply State.doze_good
    | with_reducible apply State.lvEnterM2_good
    | with_reducible apply State.commitPlan_good
    | with_reducible apply State.commitStation_good
    | with_reducible apply State.stEnter_good
    | with_reducible apply State.ccEnter_good
    | with_reducible apply State.factoryTest_good
    | with_reducible exact good_free (by with_reducible assumption) ..
    | split
    | exact State.Good.plant (by with_reducible assumption)
    | apply good_ite

theorem State.completeMode_good {P : Cfg → List Instr → Prop} {s : State} (h : s.Good (fun _ a p => P a p)) :
    (State.completeMode s).Good (fun _ a p => P a p) := by
  unfold State.completeMode
  repeat' first
    | with_reducible assumption
    | (extract_lets +onlyGivenNames x; (first | (refine good_step (Q := (fun _ a p => P a p)) (x := x) ?_ ?_; (on_goal 1 => unfold x); on_goal 2 => (intro hx; try clear_value x)) | (refine good_step_fst (Q := (fun _ a p => P a p)) (x := x) ?_ ?_; (on_goal 1 => unfold x); on_goal 2 => (intro hx; try clear_value x)) | refine good_keepC (x := x) (fun _ => ?_) | refine good_keepS (x := x) (fun _ => ?_) | refine good_keepM (x := x) (fun _ => ?_) | refine good_keepR (x := x) (fun _ => ?_) | refine good_keepT (x := x) (fun _ => ?_) | refine good_keepN (x := x) (fun _ => ?_) | refine good_keepF (x := x) (fun _ => ?_) | refine good_keepG (x := x) (fun _ => ?_) | clear_value x | skip); all_goals (rename' x => y))
    | with_reducible apply good_ite
    | with_reducible apply State.stayInM9_good
    | with_reducible apply State.leaveFor_good
    | with_reducible apply State.enterMode_good
    | with_reducible apply State.beginFor_good
    | split
    | exact State.Good.plant (by with_reducible assumption)
    | apply good_ite

theorem State.m3Timeout_good {Q : Plat → Cfg → List Instr → Prop} {s : State} (h : s.Good Q) :
    (State.m3Timeout s).Good Q := by
  unfold State.m3Timeout
  repeat' first
    | with_reducible assumption
    | with_reducible apply good_ite
    | with_reducible apply State.m3Fail_good
    | split
    | apply good_ite

end Sys2Proof.Machine
end

