-- ==== Sys2Proof/Laws/Sound/Boot.lean ====
section
/-! SUPPORT. Every operation of Machine/Boot.lean keeps a sound state sound. -/

set_option linter.unusedTactic false
set_option linter.unreachableTactic false
set_option linter.unusedVariables false
set_option linter.tactic.unusedName false

namespace Sys2Proof.Machine

theorem State.sleepFor_good {P : Plat → List Instr → Prop} {s : State} (h : s.Good (fun w _ p => P w p)) (ns : Nat) :
    (State.sleepFor ns s).Good (fun w _ p => P w p) := by
  unfold State.sleepFor
  repeat' first
    | with_reducible assumption
    | with_reducible exact undoable_const
    | (extract_lets +onlyGivenNames x; (first | (refine good_step (Q := (fun w _ p => P w p)) (x := x) ?_ ?_; (on_goal 1 => unfold x); on_goal 2 => (intro hx; try clear_value x)) | (refine good_step_fst (Q := (fun w _ p => P w p)) (x := x) ?_ ?_; (on_goal 1 => unfold x); on_goal 2 => (intro hx; try clear_value x)) | refine good_keepC (x := x) (fun _ => ?_) | refine good_keepS (x := x) (fun _ => ?_) | refine good_keepM (x := x) (fun _ => ?_) | refine good_keepR (x := x) (fun _ => ?_) | refine good_keepT (x := x) (fun _ => ?_) | refine good_keepN (x := x) (fun _ => ?_) | refine good_keepF (x := x) (fun _ => ?_) | refine good_keepG (x := x) (fun _ => ?_) | clear_value x | skip); all_goals (rename' x => y))
    | with_reducible apply State.fresh_good
    | with_reducible exact good_free (by with_reducible assumption) ..
    | with_reducible exact good_freeC (by with_reducible assumption) ..

/-- The units at reset are as many as the spec counts, and nothing waits in them. -/
theorem reset_units : State.reset.tb.length = 8 ∧ State.reset.can.length = 8 ∧ (∀ x ∈ State.reset.tb, x.delayed.length ≤ 32) ∧
    ∀ x ∈ State.reset.can, x.queue.length ≤ 64 := by
  decide

theorem State.blank_good {P : List Instr → Prop} {s : State} (h : s.Good (fun _ _ p => P p)) : (State.blank s).Good (fun _ _ p => P p) := by
  unfold State.blank
  exact ⟨Store.wf_filter h.live _, h.active, h.shadow, memWf_filter h.mem _, h.hb, h.lv, h.gs, reset_units.1, reset_units.2.1, reset_units.2.2.1,
    Nat.zero_le _, h.ring, h.store, Nat.zero_le _, reset_units.2.2.2, h.plant⟩

theorem State.unswap_good {P : Plat → List Instr → Prop} {s : State} (h : s.Good (fun w _ p => P w p)) :
    (State.unswap s).Good (fun w _ p => P w p) := by
  unfold State.unswap
  repeat' first
    | with_reducible assumption
    | with_reducible exact undoable_const
    | (intro x y hx; beta_reduce)
    | (intro x hx; beta_reduce)
    | (extract_lets +onlyGivenNames x; (first | (refine good_step (Q := (fun w _ p => P w p)) (x := x) ?_ ?_; (on_goal 1 => unfold x); on_goal 2 => (intro hx; try clear_value x)) | (refine good_step_fst (Q := (fun w _ p => P w p)) (x := x) ?_ ?_; (on_goal 1 => unfold x); on_goal 2 => (intro hx; try clear_value x)) | refine good_keepC (x := x) (fun _ => ?_) | refine good_keepS (x := x) (fun _ => ?_) | refine good_keepM (x := x) (fun _ => ?_) | refine good_keepR (x := x) (fun _ => ?_) | refine good_keepT (x := x) (fun _ => ?_) | refine good_keepN (x := x) (fun _ => ?_) | refine good_keepF (x := x) (fun _ => ?_) | refine good_keepG (x := x) (fun _ => ?_) | clear_value x | skip); all_goals (rename' x => y))
    | with_reducible apply good_forAll
    | with_reducible apply good_foldl
    | with_reducible apply good_foldl_fst
    | with_reducible apply State.exchanged_good
    | with_reducible apply State.put_good
    | with_reducible exact good_free (by with_reducible assumption) ..
    | with_reducible exact good_sw (by with_reducible assumption) rfl
    | with_reducible exact good_freeC (by with_reducible assumption) ..

theorem State.factory_good {P : Plat → List Instr → Prop} {s : State} (h : s.Good (fun w _ p => P w p)) (scopes : List Nat) : (State.factory scopes s).Good (fun w _ p => P w p) := by
  unfold State.factory
  refine State.put_good ?_ _ _
  exact ⟨h.live, Store.wf_filter h.active _, Store.wf_filter h.shadow _, memWf_filter h.mem _, h.hb, h.lv, h.gs, h.tb, h.can, h.delayed, h.queue, h.ring,
    h.store, h.sess, h.canq, h.plant⟩

theorem State.bootFail_good {Q : Plat → Cfg → List Instr → Prop} {s : State} (h : s.Good Q) (code : Nat) (hQ : Undoable Q := by first | assumption | exact undoable_const) :
    (State.bootFail code s).Good Q := by
  unfold State.bootFail
  repeat' first
    | with_reducible assumption
    | with_reducible apply State.raise_good

theorem State.sealStep_good {P : Cfg → List Instr → Prop} {s : State} (h : s.Good (fun _ a p => P a p)) (env : BootEnv) (hQ : Undoable (fun _ a p => P a p) := by first | assumption | exact undoable_const) :
    (State.sealStep env s).1.Good (fun _ a p => P a p) := by
  unfold State.sealStep
  repeat' first
    | with_reducible assumption
    | (extract_lets +onlyGivenNames x; (first | (refine good_step (Q := (fun _ a p => P a p)) (x := x) ?_ ?_; (on_goal 1 => unfold x); on_goal 2 => (intro hx; try clear_value x)) | (refine good_step_fst (Q := (fun _ a p => P a p)) (x := x) ?_ ?_; (on_goal 1 => unfold x); on_goal 2 => (intro hx; try clear_value x)) | refine good_keepC (x := x) (fun _ => ?_) | refine good_keepS (x := x) (fun _ => ?_) | refine good_keepM (x := x) (fun _ => ?_) | refine good_keepR (x := x) (fun _ => ?_) | refine good_keepT (x := x) (fun _ => ?_) | refine good_keepN (x := x) (fun _ => ?_) | refine good_keepF (x := x) (fun _ => ?_) | refine good_keepG (x := x) (fun _ => ?_) | clear_value x | skip); all_goals (rename' x => y))
    | with_reducible apply good_ite
    | with_reducible apply good_ite_fst
    | with_reducible apply State.bootFail_good
    | with_reducible refine good_plat (by with_reducible assumption) ?_
    | with_reducible exact good_free (by with_reducible assumption) ..
    | with_reducible exact good_freeP (by with_reducible assumption) ..
    | split
    | exact State.Good.plant (by with_reducible assumption)
    | apply good_ite

theorem State.firmwareStep_good {Q : Plat → Cfg → List Instr → Prop} {s : State} (h : s.Good Q) (env : BootEnv) (hQ : Undoable Q := by first | assumption | exact undoable_const) :
    (State.firmwareStep env s).1.Good Q := by
  unfold State.firmwareStep
  repeat' first
    | with_reducible assumption
    | (extract_lets +onlyGivenNames x; (first | (refine good_step (Q := Q) (x := x) ?_ ?_; (on_goal 1 => unfold x); on_goal 2 => (intro hx; try clear_value x)) | (refine good_step_fst (Q := Q) (x := x) ?_ ?_; (on_goal 1 => unfold x); on_goal 2 => (intro hx; try clear_value x)) | refine good_keepC (x := x) (fun _ => ?_) | refine good_keepS (x := x) (fun _ => ?_) | refine good_keepM (x := x) (fun _ => ?_) | refine good_keepR (x := x) (fun _ => ?_) | refine good_keepT (x := x) (fun _ => ?_) | refine good_keepN (x := x) (fun _ => ?_) | refine good_keepF (x := x) (fun _ => ?_) | refine good_keepG (x := x) (fun _ => ?_) | clear_value x | skip); all_goals (rename' x => y))
    | with_reducible apply good_ite
    | with_reducible apply good_ite_fst
    | with_reducible apply State.raise_good
    | with_reducible apply State.bootFail_good
    | with_reducible exact good_free (by with_reducible assumption) ..
    | split
    | apply good_ite

theorem State.metrologyStep_good {Q : Plat → Cfg → List Instr → Prop} {s : State} (h : s.Good Q) (env : BootEnv) (hQ : Undoable Q := by first | assumption | exact undoable_const) :
    (State.metrologyStep env s).Good Q := by
  unfold State.metrologyStep
  repeat' first
    | with_reducible assumption
    | (extract_lets +onlyGivenNames x; (first | (refine good_step (Q := Q) (x := x) ?_ ?_; (on_goal 1 => unfold x); on_goal 2 => (intro hx; try clear_value x)) | (refine good_step_fst (Q := Q) (x := x) ?_ ?_; (on_goal 1 => unfold x); on_goal 2 => (intro hx; try clear_value x)) | refine good_keepC (x := x) (fun _ => ?_) | refine good_keepS (x := x) (fun _ => ?_) | refine good_keepM (x := x) (fun _ => ?_) | refine good_keepR (x := x) (fun _ => ?_) | refine good_keepT (x := x) (fun _ => ?_) | refine good_keepN (x := x) (fun _ => ?_) | refine good_keepF (x := x) (fun _ => ?_) | refine good_keepG (x := x) (fun _ => ?_) | clear_value x | skip); all_goals (rename' x => y))
    | with_reducible apply good_ite
    | with_reducible apply State.put_good
    | with_reducible apply State.raise_good
    | with_reducible exact good_free (by with_reducible assumption) ..
    | split
    | apply good_ite

theorem State.pllUp_good {P : Cfg → List Instr → Prop} {s : State} (h : s.Good (fun _ a p => P a p)) :
    (State.pllUp s).Good (fun _ a p => P a p) := by
  unfold State.pllUp
  repeat' first
    | with_reducible assumption
    | (extract_lets +onlyGivenNames x; (first | (refine good_step (Q := (fun _ a p => P a p)) (x := x) ?_ ?_; (on_goal 1 => unfold x); on_goal 2 => (intro hx; try clear_value x)) | (refine good_step_fst (Q := (fun _ a p => P a p)) (x := x) ?_ ?_; (on_goal 1 => unfold x); on_goal 2 => (intro hx; try clear_value x)) | refine good_keepC (x := x) (fun _ => ?_) | refine good_keepS (x := x) (fun _ => ?_) | refine good_keepM (x := x) (fun _ => ?_) | refine good_keepR (x := x) (fun _ => ?_) | refine good_keepT (x := x) (fun _ => ?_) | refine good_keepN (x := x) (fun _ => ?_) | refine good_keepF (x := x) (fun _ => ?_) | refine good_keepG (x := x) (fun _ => ?_) | clear_value x | skip); all_goals (rename' x => y))
    | with_reducible apply State.put_good
    | with_reducible refine good_plat (by with_reducible assumption) ?_
    | with_reducible exact good_free (by with_reducible assumption) ..
    | with_reducible exact good_freeP (by with_reducible assumption) ..
    | exact State.Good.plant (by with_reducible assumption)

theorem State.testSteps_good {Q : Plat → Cfg → List Instr → Prop} {s : State} (h : s.Good Q) (env : BootEnv) (hQ : Undoable Q := by first | assumption | exact undoable_const) :
    (State.testSteps env s).1.Good Q := by
  unfold State.testSteps
  repeat' first
    | with_reducible assumption
    | with_reducible apply good_ite
    | with_reducible apply good_ite_fst
    | with_reducible apply State.put_good
    | with_reducible apply State.bootFail_good
    | split
    | apply good_ite

theorem State.imageSteps_good {Q : Plat → Cfg → List Instr → Prop} {s : State} (h : s.Good Q) (env : BootEnv) (hQ : Undoable Q := by first | assumption | exact undoable_const) :
    (State.imageSteps env s).1.Good Q := by
  unfold State.imageSteps
  repeat' first
    | with_reducible assumption
    | (extract_lets +onlyGivenNames x; (first | (refine good_step (Q := Q) (x := x) ?_ ?_; (on_goal 1 => unfold x); on_goal 2 => (intro hx; try clear_value x)) | (refine good_step_fst (Q := Q) (x := x) ?_ ?_; (on_goal 1 => unfold x); on_goal 2 => (intro hx; try clear_value x)) | refine good_keepC (x := x) (fun _ => ?_) | refine good_keepS (x := x) (fun _ => ?_) | refine good_keepM (x := x) (fun _ => ?_) | refine good_keepR (x := x) (fun _ => ?_) | refine good_keepT (x := x) (fun _ => ?_) | refine good_keepN (x := x) (fun _ => ?_) | refine good_keepF (x := x) (fun _ => ?_) | refine good_keepG (x := x) (fun _ => ?_) | clear_value x | skip); all_goals (rename' x => y))
    | with_reducible apply good_ite
    | with_reducible apply good_ite_fst
    | with_reducible apply State.firmwareStep_good
    | with_reducible apply State.metrologyStep_good
    | with_reducible apply State.testSteps_good
    | split
    | apply good_ite

theorem State.bootSteps_good {P : Cfg → List Instr → Prop} {s : State} (h : s.Good (fun _ a p => P a p)) (env : BootEnv) (hQ : Undoable (fun _ a p => P a p) := by first | assumption | exact undoable_const) :
    (State.bootSteps env s).1.Good (fun _ a p => P a p) := by
  unfold State.bootSteps
  repeat' first
    | with_reducible assumption
    | (extract_lets +onlyGivenNames x; (first | (refine good_step (Q := (fun _ a p => P a p)) (x := x) ?_ ?_; (on_goal 1 => unfold x); on_goal 2 => (intro hx; try clear_value x)) | (refine good_step_fst (Q := (fun _ a p => P a p)) (x := x) ?_ ?_; (on_goal 1 => unfold x); on_goal 2 => (intro hx; try clear_value x)) | refine good_keepC (x := x) (fun _ => ?_) | refine good_keepS (x := x) (fun _ => ?_) | refine good_keepM (x := x) (fun _ => ?_) | refine good_keepR (x := x) (fun _ => ?_) | refine good_keepT (x := x) (fun _ => ?_) | refine good_keepN (x := x) (fun _ => ?_) | refine good_keepF (x := x) (fun _ => ?_) | refine good_keepG (x := x) (fun _ => ?_) | clear_value x | skip); all_goals (rename' x => y))
    | with_reducible apply good_ite
    | with_reducible apply good_ite_fst
    | with_reducible apply State.sealStep_good
    | with_reducible apply State.bootFail_good
    | with_reducible apply State.pllUp_good
    | with_reducible apply State.imageSteps_good
    | split
    | exact State.Good.plant (by with_reducible assumption)
    | apply good_ite

theorem State.configStep_good {P : Plat → List Instr → Prop} {s : State} (h : s.Good (fun w _ p => P w p)) (env : BootEnv) :
    (State.configStep env s).Good (fun w _ p => P w p) := by
  unfold State.configStep
  repeat' first
    | with_reducible assumption
    | with_reducible exact undoable_const
    | (intro x y hx; beta_reduce)
    | (intro x hx; beta_reduce)
    | (extract_lets +onlyGivenNames x; (first | (refine good_step (Q := (fun w _ p => P w p)) (x := x) ?_ ?_; (on_goal 1 => unfold x); on_goal 2 => (intro hx; try clear_value x)) | (refine good_step_fst (Q := (fun w _ p => P w p)) (x := x) ?_ ?_; (on_goal 1 => unfold x); on_goal 2 => (intro hx; try clear_value x)) | refine good_keepC (x := x) (fun _ => ?_) | refine good_keepS (x := x) (fun _ => ?_) | refine good_keepM (x := x) (fun _ => ?_) | refine good_keepR (x := x) (fun _ => ?_) | refine good_keepT (x := x) (fun _ => ?_) | refine good_keepN (x := x) (fun _ => ?_) | refine good_keepF (x := x) (fun _ => ?_) | refine good_keepG (x := x) (fun _ => ?_) | clear_value x | skip); all_goals (rename' x => y))
    | with_reducible apply good_ite
    | with_reducible apply good_forAll
    | with_reducible apply State.factory_good
    | with_reducible apply State.raise_good
    | with_reducible apply State.put_good
    | with_reducible apply State.shadowTouch_good
    | with_reducible exact good_free (by with_reducible assumption) ..
    | with_reducible exact good_freeC (by with_reducible assumption) ..
    | split
    | apply good_ite

theorem State.islandRecord_good {Q : Plat → Cfg → List Instr → Prop} {s : State} (h : s.Good Q) (r : TriggerRec) :
    (State.islandRecord r s).Good Q := by
  unfold State.islandRecord
  repeat' first
    | with_reducible assumption
    | (extract_lets +onlyGivenNames x; (first | (refine good_step (Q := Q) (x := x) ?_ ?_; (on_goal 1 => unfold x); on_goal 2 => (intro hx; try clear_value x)) | (refine good_step_fst (Q := Q) (x := x) ?_ ?_; (on_goal 1 => unfold x); on_goal 2 => (intro hx; try clear_value x)) | refine good_keepC (x := x) (fun _ => ?_) | refine good_keepS (x := x) (fun _ => ?_) | refine good_keepM (x := x) (fun _ => ?_) | refine good_keepR (x := x) (fun _ => ?_) | refine good_keepT (x := x) (fun _ => ?_) | refine good_keepN (x := x) (fun _ => ?_) | refine good_keepF (x := x) (fun _ => ?_) | refine good_keepG (x := x) (fun _ => ?_) | clear_value x | skip); all_goals (rename' x => y))
    | with_reducible apply State.openRecord_good
    | with_reducible apply State.log_good

theorem State.islandReadout_good {P : Cfg → List Instr → Prop} {s : State} (h : s.Good (fun _ a p => P a p)) :
    (State.islandReadout s).Good (fun _ a p => P a p) := by
  unfold State.islandReadout
  repeat' first
    | with_reducible assumption
    | (intro x y hx; beta_reduce)
    | (intro x hx; beta_reduce)
    | (extract_lets +onlyGivenNames x; (first | (refine good_step (Q := (fun _ a p => P a p)) (x := x) ?_ ?_; (on_goal 1 => unfold x); on_goal 2 => (intro hx; try clear_value x)) | (refine good_step_fst (Q := (fun _ a p => P a p)) (x := x) ?_ ?_; (on_goal 1 => unfold x); on_goal 2 => (intro hx; try clear_value x)) | refine good_keepC (x := x) (fun _ => ?_) | refine good_keepS (x := x) (fun _ => ?_) | refine good_keepM (x := x) (fun _ => ?_) | refine good_keepR (x := x) (fun _ => ?_) | refine good_keepT (x := x) (fun _ => ?_) | refine good_keepN (x := x) (fun _ => ?_) | refine good_keepF (x := x) (fun _ => ?_) | refine good_keepG (x := x) (fun _ => ?_) | clear_value x | skip); all_goals (rename' x => y))
    | with_reducible apply good_foldl
    | with_reducible apply good_foldl_fst
    | with_reducible apply State.islandRecord_good
    | with_reducible apply State.put_good
    | with_reducible refine good_plat (by with_reducible assumption) ?_
    | with_reducible exact good_free (by with_reducible assumption) ..
    | with_reducible exact good_freeP (by with_reducible assumption) ..
    | exact State.Good.plant (by with_reducible assumption)

theorem State.bootShow_good {Q : Plat → Cfg → List Instr → Prop} {s : State} (h : s.Good Q) (passType : Nat) (env : BootEnv) :
    (State.bootShow passType env s).Good Q := by
  unfold State.bootShow
  repeat' first
    | with_reducible assumption
    | (extract_lets +onlyGivenNames x; (first | (refine good_step (Q := Q) (x := x) ?_ ?_; (on_goal 1 => unfold x); on_goal 2 => (intro hx; try clear_value x)) | (refine good_step_fst (Q := Q) (x := x) ?_ ?_; (on_goal 1 => unfold x); on_goal 2 => (intro hx; try clear_value x)) | refine good_keepC (x := x) (fun _ => ?_) | refine good_keepS (x := x) (fun _ => ?_) | refine good_keepM (x := x) (fun _ => ?_) | refine good_keepR (x := x) (fun _ => ?_) | refine good_keepT (x := x) (fun _ => ?_) | refine good_keepN (x := x) (fun _ => ?_) | refine good_keepF (x := x) (fun _ => ?_) | refine good_keepG (x := x) (fun _ => ?_) | clear_value x | skip); all_goals (rename' x => y))
    | with_reducible apply State.put_good
    | with_reducible apply State.remap_good
    | with_reducible apply State.fresh_good

theorem State.firstUse_good {Q : Plat → Cfg → List Instr → Prop} {s : State} (h : s.Good Q)  (hQ : Undoable Q := by first | assumption | exact undoable_const) :
    (State.firstUse s).Good Q := by
  unfold State.firstUse
  repeat' first
    | with_reducible assumption
    | (intro x y hx; beta_reduce)
    | (intro x hx; beta_reduce)
    | (extract_lets +onlyGivenNames x; (first | (refine good_step (Q := Q) (x := x) ?_ ?_; (on_goal 1 => unfold x); on_goal 2 => (intro hx; try clear_value x)) | (refine good_step_fst (Q := Q) (x := x) ?_ ?_; (on_goal 1 => unfold x); on_goal 2 => (intro hx; try clear_value x)) | refine good_keepC (x := x) (fun _ => ?_) | refine good_keepS (x := x) (fun _ => ?_) | refine good_keepM (x := x) (fun _ => ?_) | refine good_keepR (x := x) (fun _ => ?_) | refine good_keepT (x := x) (fun _ => ?_) | refine good_keepN (x := x) (fun _ => ?_) | refine good_keepF (x := x) (fun _ => ?_) | refine good_keepG (x := x) (fun _ => ?_) | clear_value x | skip); all_goals (rename' x => y))
    | with_reducible apply good_ite
    | with_reducible apply good_forAll
    | with_reducible apply State.mtrRestore_good
    | with_reducible apply State.put_good
    | with_reducible apply State.tbEnable_good
    | with_reducible apply State.siStart_good
    | with_reducible apply State.loadStateRegion_good
    | with_reducible apply State.slotDerived_good
    | with_reducible apply State.slotUp_good
    | with_reducible apply State.canStart_good
    | with_reducible apply State.sensorsFollow_good
    | with_reducible apply State.xgFollow_good
    | with_reducible apply State.t1sFollow_good
    | with_reducible apply State.eslFollow_good
    | with_reducible apply State.monStart_good
    | with_reducible apply State.safetyCrc_good
    | split
    | apply good_ite

theorem State.endReady_good {Q : Plat → Cfg → List Instr → Prop} {s : State} (h : s.Good Q)  (hQ : Undoable Q := by first | assumption | exact undoable_const) :
    (State.endReady s).Good Q := by
  unfold State.endReady
  repeat' first
    | with_reducible assumption
    | (intro x y hx; beta_reduce)
    | (intro x hx; beta_reduce)
    | (extract_lets +onlyGivenNames x; (first | (refine good_step (Q := Q) (x := x) ?_ ?_; (on_goal 1 => unfold x); on_goal 2 => (intro hx; try clear_value x)) | (refine good_step_fst (Q := Q) (x := x) ?_ ?_; (on_goal 1 => unfold x); on_goal 2 => (intro hx; try clear_value x)) | refine good_keepC (x := x) (fun _ => ?_) | refine good_keepS (x := x) (fun _ => ?_) | refine good_keepM (x := x) (fun _ => ?_) | refine good_keepR (x := x) (fun _ => ?_) | refine good_keepT (x := x) (fun _ => ?_) | refine good_keepN (x := x) (fun _ => ?_) | refine good_keepF (x := x) (fun _ => ?_) | refine good_keepG (x := x) (fun _ => ?_) | clear_value x | skip); all_goals (rename' x => y))
    | with_reducible apply good_forAll
    | with_reducible apply State.soLow_good
    | with_reducible apply State.firstUse_good
    | with_reducible apply State.startSupplies_good
    | with_reducible apply State.lvEnterM2_good
    | with_reducible refine good_hbDrive (by with_reducible assumption) ?_
    | with_reducible refine good_lvDrive (by with_reducible assumption) ?_
    | with_reducible refine good_gsDrive (by with_reducible assumption) ?_
    | with_reducible exact good_free (by with_reducible assumption) ..
    | with_reducible refine good_freeD (by with_reducible assumption) (h1 := List.length_replicate) (h2 := List.length_replicate) (h3 := List.length_replicate) ..
    | (rw [List.length_set]; with_reducible exact State.Good.hb (by with_reducible assumption))
    | (rw [List.length_set]; with_reducible exact State.Good.lv (by with_reducible assumption))
    | (rw [List.length_set]; with_reducible exact State.Good.gs (by with_reducible assumption))

theorem State.endCocoon_good {Q : Plat → Cfg → List Instr → Prop} {s : State} (h : s.Good Q)  (hQ : Undoable Q := by first | assumption | exact undoable_const) :
    (State.endCocoon s).Good Q := by
  unfold State.endCocoon
  repeat' first
    | with_reducible assumption
    | (intro x y hx; beta_reduce)
    | (intro x hx; beta_reduce)
    | (extract_lets +onlyGivenNames x; (first | (refine good_step (Q := Q) (x := x) ?_ ?_; (on_goal 1 => unfold x); on_goal 2 => (intro hx; try clear_value x)) | (refine good_step_fst (Q := Q) (x := x) ?_ ?_; (on_goal 1 => unfold x); on_goal 2 => (intro hx; try clear_value x)) | refine good_keepC (x := x) (fun _ => ?_) | refine good_keepS (x := x) (fun _ => ?_) | refine good_keepM (x := x) (fun _ => ?_) | refine good_keepR (x := x) (fun _ => ?_) | refine good_keepT (x := x) (fun _ => ?_) | refine good_keepN (x := x) (fun _ => ?_) | refine good_keepF (x := x) (fun _ => ?_) | refine good_keepG (x := x) (fun _ => ?_) | clear_value x | skip); all_goals (rename' x => y))
    | with_reducible apply good_ite
    | with_reducible apply good_forAll
    | with_reducible apply State.put_good
    | with_reducible apply State.keepSupply_good
    | with_reducible apply State.soLow_good
    | with_reducible apply State.firstUse_good
    | with_reducible apply State.incSat_good
    | split
    | apply good_ite

theorem State.bootEnd_good {Q : Plat → Cfg → List Instr → Prop} {s : State} (h : s.Good Q) (warm : Bool) (hQ : Undoable Q := by first | assumption | exact undoable_const) :
    (State.bootEnd warm s).Good Q := by
  unfold State.bootEnd
  repeat' first
    | with_reducible assumption
    | (extract_lets +onlyGivenNames x; (first | (refine good_step (Q := Q) (x := x) ?_ ?_; (on_goal 1 => unfold x); on_goal 2 => (intro hx; try clear_value x)) | (refine good_step_fst (Q := Q) (x := x) ?_ ?_; (on_goal 1 => unfold x); on_goal 2 => (intro hx; try clear_value x)) | refine good_keepC (x := x) (fun _ => ?_) | refine good_keepS (x := x) (fun _ => ?_) | refine good_keepM (x := x) (fun _ => ?_) | refine good_keepR (x := x) (fun _ => ?_) | refine good_keepT (x := x) (fun _ => ?_) | refine good_keepN (x := x) (fun _ => ?_) | refine good_keepF (x := x) (fun _ => ?_) | refine good_keepG (x := x) (fun _ => ?_) | clear_value x | skip); all_goals (rename' x => y))
    | with_reducible apply good_ite
    | with_reducible apply State.put_good
    | with_reducible apply State.log_good
    | with_reducible apply State.endCocoon_good
    | with_reducible apply State.endReady_good
    | with_reducible exact good_free (by with_reducible assumption) ..
    | split
    | apply good_ite

theorem State.keptBuffers_length (old s : State) : (s.keptBuffers old).length = 8 := by simp [State.keptBuffers]

theorem State.keptBuffers_queue (old s : State) : ∀ x ∈ s.keptBuffers old, x.queue.length ≤ 64 := by
  intro x hx
  obtain ⟨c, -, rfl⟩ := List.mem_map.mp hx
  split <;> exact Nat.zero_le _

theorem State.passStart_good {P : List Instr → Prop} {s : State} (h : s.Good (fun _ _ p => P p)) (passType : Nat) (env : BootEnv) :
    (State.passStart passType env s).Good (fun _ _ p => P p) := by
  unfold State.passStart
  extract_lets uv old s1 src1 src2 src3 s2 s3
  have h1 : s1.Good (fun _ _ p => P p) := State.blank_good (State.sleepFor_good h _)
  clear_value s1
  have h2 : s2.Good (fun _ _ p => P p) := good_freeP (good_plat h1 (v := { s1.plat with mainOn := true }) h1.plant) ..
  clear_value s2
  have h3 : s3.Good (fun _ _ p => P p) := State.put_good h2 _ _
  exact good_can h3 (State.keptBuffers_length _ _) (State.keptBuffers_queue _ _)

theorem State.passEnd_good {P : List Instr → Prop} {s : State} (h : s.Good (fun _ _ p => P p)) (passType : Nat) (env : BootEnv) :
    (State.passEnd passType env s).Good (fun _ _ p => P p) := by
  unfold State.passEnd
  repeat' first
    | with_reducible assumption
    | with_reducible exact undoable_const
    | with_reducible apply State.unswap_good
    | with_reducible apply State.configStep_good
    | with_reducible apply State.islandReadout_good
    | with_reducible apply State.bootShow_good
    | with_reducible apply State.bootEnd_good
    | exact State.Good.plant (by with_reducible assumption)

theorem State.chrysalis_good {P : List Instr → Prop} {s : State} (h : s.Good (fun _ _ p => P p)) (passType : Nat) (env : BootEnv) :
    (State.chrysalis passType env s).Good (fun _ _ p => P p) := by
  unfold State.chrysalis
  repeat' first
    | with_reducible assumption
    | with_reducible exact undoable_const
    | (extract_lets +onlyGivenNames x; (first | (refine good_step (Q := (fun _ _ p => P p)) (x := x) ?_ ?_; (on_goal 1 => unfold x); on_goal 2 => (intro hx; try clear_value x)) | (refine good_step_fst (Q := (fun _ _ p => P p)) (x := x) ?_ ?_; (on_goal 1 => unfold x); on_goal 2 => (intro hx; try clear_value x)) | refine good_keepC (x := x) (fun _ => ?_) | refine good_keepS (x := x) (fun _ => ?_) | refine good_keepM (x := x) (fun _ => ?_) | refine good_keepR (x := x) (fun _ => ?_) | refine good_keepT (x := x) (fun _ => ?_) | refine good_keepN (x := x) (fun _ => ?_) | refine good_keepF (x := x) (fun _ => ?_) | refine good_keepG (x := x) (fun _ => ?_) | clear_value x | skip); all_goals (rename' x => y))
    | with_reducible apply good_ite
    | with_reducible apply good_ite_fst
    | with_reducible apply State.passStart_good
    | with_reducible apply State.bootSteps_good
    | with_reducible apply State.passEnd_good
    | split
    | exact State.Good.plant (by with_reducible assumption)
    | apply good_ite

theorem State.cocLost_good {P : List Instr → Prop} {s : State} (h : s.Good (fun _ _ p => P p)) : (State.cocLost s).Good (fun _ _ p => P p) := by
  unfold State.cocLost
  extract_lets old d
  have hd : d.Good (fun _ _ p => P p) := State.domainsOff_good h
  clear_value d
  exact ⟨hd.live, hd.active, hd.shadow, hd.mem, List.length_replicate, List.length_replicate, List.length_replicate, hd.tb, hd.can, hd.delayed,
    Nat.zero_le _, h.ring, hd.store, hd.sess, hd.canq, hd.plant⟩

theorem State.powerOn_good {P : List Instr → Prop} {s : State} (h : s.Good (fun _ _ p => P p)) (resetN : Bool) (env : BootEnv) :
    (State.powerOn resetN env s).Good (fun _ _ p => P p) := by
  unfold State.powerOn
  repeat' first
    | with_reducible assumption
    | with_reducible exact undoable_const
    | (intro x y hx; beta_reduce)
    | (intro x hx; beta_reduce)
    | (extract_lets +onlyGivenNames x; (first | (refine good_step (Q := (fun _ _ p => P p)) (x := x) ?_ ?_; (on_goal 1 => unfold x); on_goal 2 => (intro hx; try clear_value x)) | (refine good_step_fst (Q := (fun _ _ p => P p)) (x := x) ?_ ?_; (on_goal 1 => unfold x); on_goal 2 => (intro hx; try clear_value x)) | refine good_keepC (x := x) (fun _ => ?_) | refine good_keepS (x := x) (fun _ => ?_) | refine good_keepM (x := x) (fun _ => ?_) | refine good_keepR (x := x) (fun _ => ?_) | refine good_keepT (x := x) (fun _ => ?_) | refine good_keepN (x := x) (fun _ => ?_) | refine good_keepF (x := x) (fun _ => ?_) | refine good_keepG (x := x) (fun _ => ?_) | clear_value x | skip); all_goals (rename' x => y))
    | with_reducible apply good_ite
    | with_reducible apply good_forAll
    | with_reducible apply State.cocLost_good
    | with_reducible apply State.put_good
    | with_reducible apply State.soLow_good
    | with_reducible apply State.chrysalis_good
    | with_reducible refine good_plat (by with_reducible assumption) ?_
    | with_reducible exact good_free (by with_reducible assumption) ..
    | with_reducible exact good_freeC (by with_reducible assumption) ..
    | with_reducible exact good_freeP (by with_reducible assumption) ..
    | split
    | exact State.Good.plant (by with_reducible assumption)
    | apply good_ite

theorem State.resetFall_good {P : Cfg → List Instr → Prop} {s : State} (h : s.Good (fun _ a p => P a p)) (lowNs : Nat) (hQ : Undoable (fun _ a p => P a p) := by first | assumption | exact undoable_const) :
    (State.resetFall lowNs s).Good (fun _ a p => P a p) := by
  unfold State.resetFall
  repeat' first
    | with_reducible assumption
    | (extract_lets +onlyGivenNames x; (first | (refine good_step (Q := (fun _ a p => P a p)) (x := x) ?_ ?_; (on_goal 1 => unfold x); on_goal 2 => (intro hx; try clear_value x)) | (refine good_step_fst (Q := (fun _ a p => P a p)) (x := x) ?_ ?_; (on_goal 1 => unfold x); on_goal 2 => (intro hx; try clear_value x)) | refine good_keepC (x := x) (fun _ => ?_) | refine good_keepS (x := x) (fun _ => ?_) | refine good_keepM (x := x) (fun _ => ?_) | refine good_keepR (x := x) (fun _ => ?_) | refine good_keepT (x := x) (fun _ => ?_) | refine good_keepN (x := x) (fun _ => ?_) | refine good_keepF (x := x) (fun _ => ?_) | refine good_keepG (x := x) (fun _ => ?_) | clear_value x | skip); all_goals (rename' x => y))
    | with_reducible apply good_ite
    | with_reducible apply State.swapLoses_good
    | with_reducible apply State.record_good
    | with_reducible apply State.planAll_good
    | with_reducible apply State.holdBy_good
    | with_reducible apply State.domainsOff_good
    | with_reducible apply State.put_good
    | with_reducible refine good_plat (by with_reducible assumption) ?_
    | with_reducible exact good_free (by with_reducible assumption) ..
    | with_reducible exact good_freeP (by with_reducible assumption) ..
    | split
    | exact State.Good.plant (by with_reducible assumption)
    | apply good_ite

theorem State.amendRecord_good {Q : Plat → Cfg → List Instr → Prop} {s : State} (h : s.Good Q) (code resetMs : Nat) :
    (State.amendRecord code resetMs s).Good Q := by
  unfold State.amendRecord
  repeat' first
    | with_reducible assumption
    | (extract_lets +onlyGivenNames x; (first | (refine good_step (Q := Q) (x := x) ?_ ?_; (on_goal 1 => unfold x); on_goal 2 => (intro hx; try clear_value x)) | (refine good_step_fst (Q := Q) (x := x) ?_ ?_; (on_goal 1 => unfold x); on_goal 2 => (intro hx; try clear_value x)) | refine good_keepC (x := x) (fun _ => ?_) | refine good_keepS (x := x) (fun _ => ?_) | refine good_keepM (x := x) (fun _ => ?_) | refine good_keepR (x := x) (fun _ => ?_) | refine good_keepT (x := x) (fun _ => ?_) | refine good_keepN (x := x) (fun _ => ?_) | refine good_keepF (x := x) (fun _ => ?_) | refine good_keepG (x := x) (fun _ => ?_) | clear_value x | skip); all_goals (rename' x => y))
    | with_reducible exact good_free (by with_reducible assumption) ..
    | split

theorem State.resetRise_good {P : List Instr → Prop} {s : State} (h : s.Good (fun _ _ p => P p)) (lowMs : Nat) (env : BootEnv) :
    (State.resetRise lowMs env s).Good (fun _ _ p => P p) := by
  unfold State.resetRise
  repeat' first
    | with_reducible assumption
    | with_reducible exact undoable_const
    | (extract_lets +onlyGivenNames x; (first | (refine good_step (Q := (fun _ _ p => P p)) (x := x) ?_ ?_; (on_goal 1 => unfold x); on_goal 2 => (intro hx; try clear_value x)) | (refine good_step_fst (Q := (fun _ _ p => P p)) (x := x) ?_ ?_; (on_goal 1 => unfold x); on_goal 2 => (intro hx; try clear_value x)) | refine good_keepC (x := x) (fun _ => ?_) | refine good_keepS (x := x) (fun _ => ?_) | refine good_keepM (x := x) (fun _ => ?_) | refine good_keepR (x := x) (fun _ => ?_) | refine good_keepT (x := x) (fun _ => ?_) | refine good_keepN (x := x) (fun _ => ?_) | refine good_keepF (x := x) (fun _ => ?_) | refine good_keepG (x := x) (fun _ => ?_) | clear_value x | skip); all_goals (rename' x => y))
    | with_reducible apply good_ite
    | with_reducible apply State.resetHeld_good
    | with_reducible apply State.amendRecord_good
    | with_reducible apply State.chrysalis_good
    | with_reducible refine good_plat (by with_reducible assumption) ?_
    | with_reducible exact good_free (by with_reducible assumption) ..
    | with_reducible exact good_freeC (by with_reducible assumption) ..
    | with_reducible exact good_freeP (by with_reducible assumption) ..
    | split
    | exact State.Good.plant (by with_reducible assumption)
    | apply good_ite

theorem State.resetHeld_good {Q : Plat → Cfg → List Instr → Prop} {s : State} (h : s.Good Q) (elapsedMs : Nat) :
    (State.resetHeld elapsedMs s).Good Q := by
  unfold State.resetHeld
  repeat' first
    | with_reducible assumption
    | (extract_lets +onlyGivenNames x; (first | (refine good_step (Q := Q) (x := x) ?_ ?_; (on_goal 1 => unfold x); on_goal 2 => (intro hx; try clear_value x)) | (refine good_step_fst (Q := Q) (x := x) ?_ ?_; (on_goal 1 => unfold x); on_goal 2 => (intro hx; try clear_value x)) | refine good_keepC (x := x) (fun _ => ?_) | refine good_keepS (x := x) (fun _ => ?_) | refine good_keepM (x := x) (fun _ => ?_) | refine good_keepR (x := x) (fun _ => ?_) | refine good_keepT (x := x) (fun _ => ?_) | refine good_keepN (x := x) (fun _ => ?_) | refine good_keepF (x := x) (fun _ => ?_) | refine good_keepG (x := x) (fun _ => ?_) | clear_value x | skip); all_goals (rename' x => y))
    | with_reducible apply good_ite
    | with_reducible apply State.amendRecord_good
    | with_reducible apply State.record_good
    | with_reducible exact good_free (by with_reducible assumption) ..
    | split
    | apply good_ite

theorem State.wake_good {P : List Instr → Prop} {s : State} (h : s.Good (fun _ _ p => P p)) (bit cause : Nat) (on : Bool) (env : BootEnv) :
    (State.wake bit cause on env s).Good (fun _ _ p => P p) := by
  unfold State.wake
  repeat' first
    | with_reducible assumption
    | with_reducible exact undoable_const
    | with_reducible apply good_ite
    | with_reducible apply State.chrysalis_good
    | with_reducible apply State.put_good
    | split
    | exact State.Good.plant (by with_reducible assumption)
    | apply good_ite

theorem State.commission_good {Q : Plat → Cfg → List Instr → Prop} {s : State} (h : s.Good Q) (value : Nat) :
    (State.commission value s).Good Q := by
  unfold State.commission
  repeat' first
    | with_reducible assumption
    | (extract_lets +onlyGivenNames x; (first | (refine good_step (Q := Q) (x := x) ?_ ?_; (on_goal 1 => unfold x); on_goal 2 => (intro hx; try clear_value x)) | (refine good_step_fst (Q := Q) (x := x) ?_ ?_; (on_goal 1 => unfold x); on_goal 2 => (intro hx; try clear_value x)) | refine good_keepC (x := x) (fun _ => ?_) | refine good_keepS (x := x) (fun _ => ?_) | refine good_keepM (x := x) (fun _ => ?_) | refine good_keepR (x := x) (fun _ => ?_) | refine good_keepT (x := x) (fun _ => ?_) | refine good_keepN (x := x) (fun _ => ?_) | refine good_keepF (x := x) (fun _ => ?_) | refine good_keepG (x := x) (fun _ => ?_) | clear_value x | skip); all_goals (rename' x => y))
    | with_reducible apply good_ite
    | with_reducible apply State.refuse_good
    | with_reducible apply State.put_good
    | with_reducible exact good_free (by with_reducible assumption) ..
    | split
    | apply good_ite

end Sys2Proof.Machine
end

