-- ==== Sys2Proof/Laws/Sound/Firmware.lean ====
section
/-! SUPPORT. Every operation of Machine/Firmware.lean keeps a sound state sound. -/

set_option linter.unusedTactic false
set_option linter.unreachableTactic false
set_option linter.unusedVariables false
set_option linter.tactic.unusedName false

namespace Sys2Proof.Machine

theorem State.firmwareRefuse_good {Q : Plat → Cfg → List Instr → Prop} {s : State} (h : s.Good Q) (result : Nat) :
    (State.firmwareRefuse result s).Good Q := by
  unfold State.firmwareRefuse
  repeat' first
    | with_reducible assumption
    | with_reducible apply State.put_good
    | with_reducible apply State.refuse_good

theorem State.firmwareAsk_good {Q : Plat → Cfg → List Instr → Prop} {s : State} (h : s.Good Q) (cmd : Nat) :
    (State.firmwareAsk cmd s).Good Q := by
  unfold State.firmwareAsk
  repeat' first
    | with_reducible assumption
    | (extract_lets +onlyGivenNames x; (first | (refine good_step (Q := Q) (x := x) ?_ ?_; (on_goal 1 => unfold x); on_goal 2 => (intro hx; try clear_value x)) | (refine good_step_fst (Q := Q) (x := x) ?_ ?_; (on_goal 1 => unfold x); on_goal 2 => (intro hx; try clear_value x)) | refine good_keepC (x := x) (fun _ => ?_) | refine good_keepS (x := x) (fun _ => ?_) | refine good_keepM (x := x) (fun _ => ?_) | refine good_keepR (x := x) (fun _ => ?_) | refine good_keepT (x := x) (fun _ => ?_) | refine good_keepN (x := x) (fun _ => ?_) | refine good_keepF (x := x) (fun _ => ?_) | refine good_keepG (x := x) (fun _ => ?_) | clear_value x | skip); all_goals (rename' x => y))
    | with_reducible apply good_ite
    | with_reducible apply State.refuse_good
    | with_reducible apply State.firmwareRefuse_good
    | with_reducible apply State.put_good
    | with_reducible refine good_roa (by with_reducible assumption) ?_
    | with_reducible exact good_free (by with_reducible assumption) ..
    | with_reducible exact State.Good.sess (by with_reducible assumption)
    | (rw [List.length_map]; with_reducible exact State.Good.sess (by with_reducible assumption))
    | split
    | apply good_ite

theorem State.firmwareEnd_good {Q : Plat → Cfg → List Instr → Prop} {s : State} (h : s.Good Q) (result version : Nat) (hQ : Undoable Q := by first | assumption | exact undoable_const) :
    (State.firmwareEnd result version s).Good Q := by
  unfold State.firmwareEnd
  repeat' first
    | with_reducible assumption
    | (extract_lets +onlyGivenNames x; (first | (refine good_step (Q := Q) (x := x) ?_ ?_; (on_goal 1 => unfold x); on_goal 2 => (intro hx; try clear_value x)) | (refine good_step_fst (Q := Q) (x := x) ?_ ?_; (on_goal 1 => unfold x); on_goal 2 => (intro hx; try clear_value x)) | refine good_keepC (x := x) (fun _ => ?_) | refine good_keepS (x := x) (fun _ => ?_) | refine good_keepM (x := x) (fun _ => ?_) | refine good_keepR (x := x) (fun _ => ?_) | refine good_keepT (x := x) (fun _ => ?_) | refine good_keepN (x := x) (fun _ => ?_) | refine good_keepF (x := x) (fun _ => ?_) | refine good_keepG (x := x) (fun _ => ?_) | clear_value x | skip); all_goals (rename' x => y))
    | with_reducible apply good_ite
    | with_reducible apply State.put_good
    | with_reducible apply State.raise_good
    | with_reducible refine good_roa (by with_reducible assumption) ?_
    | with_reducible exact good_free (by with_reducible assumption) ..
    | with_reducible exact State.Good.sess (by with_reducible assumption)
    | (rw [List.length_map]; with_reducible exact State.Good.sess (by with_reducible assumption))
    | split
    | apply good_ite

end Sys2Proof.Machine
end

