-- ==== Sys2Proof/Laws/Sound/Write.lean ====
section
/-! SUPPORT. Every operation of Machine/Write.lean keeps a sound state sound. -/

set_option linter.unusedTactic false
set_option linter.unreachableTactic false
set_option linter.unusedVariables false
set_option linter.tactic.unusedName false

namespace Sys2Proof.Machine

theorem State.entryWrite_good {Q : Plat → Cfg → List Instr → Prop} {s : State} (h : s.Good Q) (sub : Nat) (v : Int) :
    (State.entryWrite sub v s).Good Q := by
  unfold State.entryWrite
  repeat' first
    | with_reducible assumption
    | (extract_lets +onlyGivenNames x; (first | (refine good_step (Q := Q) (x := x) ?_ ?_; (on_goal 1 => unfold x); on_goal 2 => (intro hx; try clear_value x)) | (refine good_step_fst (Q := Q) (x := x) ?_ ?_; (on_goal 1 => unfold x); on_goal 2 => (intro hx; try clear_value x)) | refine good_keepC (x := x) (fun _ => ?_) | refine good_keepS (x := x) (fun _ => ?_) | refine good_keepM (x := x) (fun _ => ?_) | refine good_keepR (x := x) (fun _ => ?_) | refine good_keepT (x := x) (fun _ => ?_) | refine good_keepN (x := x) (fun _ => ?_) | refine good_keepF (x := x) (fun _ => ?_) | refine good_keepG (x := x) (fun _ => ?_) | clear_value x | skip); all_goals (rename' x => y))
    | with_reducible apply good_ite
    | with_reducible apply State.mPut_good
    | split
    | apply good_ite

/-- What a request object does, where it does anything, keeps a sound state. -/
def OptGood (Q : Plat → Cfg → List Instr → Prop) : Option State → Prop
  | some t => t.Good Q
  | none => True

theorem optGood_ite {Q : Plat → Cfg → List Instr → Prop} {c : Prop} {_ : Decidable c} {a b : Option State} (ha : OptGood Q a) (hb : OptGood Q b) : OptGood Q (if c then a else b) := by
  split <;> assumption

theorem optGood_some {Q : Plat → Cfg → List Instr → Prop} {t : State} (h : t.Good Q) : OptGood Q (some t) := h

theorem State.requestWrite_good {Q : Plat → Cfg → List Instr → Prop} {s : State} (h : s.Good Q) (role : Role) (k n : Nat) (hQ : Undoable Q := by first | assumption | exact undoable_const) : OptGood Q (s.requestWrite role k n) := by
  unfold State.requestWrite
  dsimp only
  repeat' first
    | with_reducible assumption
    | exact trivial
    | with_reducible apply optGood_ite
    | with_reducible apply optGood_some
    | with_reducible apply good_ite
    | with_reducible apply State.askMode_good
    | with_reducible apply State.refuse_good
    | with_reducible apply State.resetAsk_good
    | with_reducible apply State.commission_good
    | with_reducible apply State.swapArm_good
    | with_reducible apply State.cancelSwap_good
    | with_reducible apply State.clearFault_good
    | with_reducible apply State.inject_good
    | with_reducible apply State.groupHalt_good
    | with_reducible apply State.firmwareAsk_good
    | with_reducible apply State.lvBegin_good
    | with_reducible apply State.lvHalt_good
    | with_reducible apply State.lvFollow_good
    | with_reducible apply State.lvSession_good
    | with_reducible apply State.put_good
    | with_reducible apply State.lkStop_good
    | with_reducible apply State.postStop_good
    | with_reducible apply State.keyGenerate_good
    | with_reducible apply State.groupStop_good
    | with_reducible apply State.groupRun_good
    | with_reducible apply State.stopAtOnce_good
    | with_reducible apply State.handoverAsk_good
    | with_reducible apply State.gaAsk_good
    | with_reducible apply State.fresh_good
    | with_reducible apply State.canAbort_good
    | with_reducible apply State.canRecover_good
    | with_reducible apply State.antennaCommand_good
    | split

theorem State.afterWrite_good {Q : Plat → Cfg → List Instr → Prop} {s : State} (h : s.Good Q) (k n : Nat) (hQ : Undoable Q := by first | assumption | exact undoable_const) :
    (State.afterWrite k n s).Good Q := by
  unfold State.afterWrite
  repeat' first
    | with_reducible assumption
    | (extract_lets +onlyGivenNames x; (first | (refine good_step (Q := Q) (x := x) ?_ ?_; (on_goal 1 => unfold x); on_goal 2 => (intro hx; try clear_value x)) | (refine good_step_fst (Q := Q) (x := x) ?_ ?_; (on_goal 1 => unfold x); on_goal 2 => (intro hx; try clear_value x)) | refine good_keepC (x := x) (fun _ => ?_) | refine good_keepS (x := x) (fun _ => ?_) | refine good_keepM (x := x) (fun _ => ?_) | refine good_keepR (x := x) (fun _ => ?_) | refine good_keepT (x := x) (fun _ => ?_) | refine good_keepN (x := x) (fun _ => ?_) | refine good_keepF (x := x) (fun _ => ?_) | refine good_keepG (x := x) (fun _ => ?_) | clear_value x | skip); all_goals (rename' x => y))
    | with_reducible apply good_ite
    | with_reducible apply State.gaEngage_good
    | with_reducible apply State.cpMod_good
    | with_reducible apply State.battLost_good
    | with_reducible apply State.monInput_good
    | with_reducible apply State.soLow_good
    | with_reducible apply State.siStart_good
    | with_reducible apply State.safetyCrc_good
    | with_reducible apply State.commit_good
    | with_reducible exact good_free (by with_reducible assumption) ..
    | split
    | apply good_ite

theorem State.beforeWrite_good {Q : Plat → Cfg → List Instr → Prop} {s : State} (h : s.Good Q) (k : Nat) :
    (State.beforeWrite k s).Good Q := by
  unfold State.beforeWrite
  repeat' first
    | with_reducible assumption
    | (extract_lets +onlyGivenNames x; (first | (refine good_step (Q := Q) (x := x) ?_ ?_; (on_goal 1 => unfold x); on_goal 2 => (intro hx; try clear_value x)) | (refine good_step_fst (Q := Q) (x := x) ?_ ?_; (on_goal 1 => unfold x); on_goal 2 => (intro hx; try clear_value x)) | refine good_keepC (x := x) (fun _ => ?_) | refine good_keepS (x := x) (fun _ => ?_) | refine good_keepM (x := x) (fun _ => ?_) | refine good_keepR (x := x) (fun _ => ?_) | refine good_keepT (x := x) (fun _ => ?_) | refine good_keepN (x := x) (fun _ => ?_) | refine good_keepF (x := x) (fun _ => ?_) | refine good_keepG (x := x) (fun _ => ?_) | clear_value x | skip); all_goals (rename' x => y))
    | with_reducible apply good_ite
    | with_reducible apply State.sdMod_good
    | with_reducible exact good_free (by with_reducible assumption) ..
    | split
    | apply good_ite

theorem State.applyWrite_good {Q : Plat → Cfg → List Instr → Prop} {s : State} (h : s.Good Q) (role : Role) (k : Nat) (v : Int) (hQ : Undoable Q := by first | assumption | exact undoable_const) :
    (State.applyWrite role k v s).Good Q := by
  unfold State.applyWrite
  split
  · exact h
  · refine good_ite ?_ ?_
    · exact State.shadowTouch_good (good_ite (State.entryWrite_good h _ _) (good_shadow h (Store.wf_set h.shadow k v))) _
    · have hr := State.requestWrite_good h role k (rawOf v)
      split
      · rename_i t ht
        rw [ht] at hr
        exact hr
      · exact State.afterWrite_good (State.put_good (State.beforeWrite_good h k) k v) k (rawOf v)

theorem State.takeWrite_good {Q : Plat → Cfg → List Instr → Prop} {s : State} (h : s.Good Q) (role : Role) (k : Nat) (v : Int) (hQ : Undoable Q := by first | assumption | exact undoable_const) :
    (State.takeWrite role k v s).1.Good Q := by
  unfold State.takeWrite
  repeat' first
    | with_reducible assumption
    | (extract_lets +onlyGivenNames x; (first | (refine good_step (Q := Q) (x := x) ?_ ?_; (on_goal 1 => unfold x); on_goal 2 => (intro hx; try clear_value x)) | (refine good_step_fst (Q := Q) (x := x) ?_ ?_; (on_goal 1 => unfold x); on_goal 2 => (intro hx; try clear_value x)) | refine good_keepC (x := x) (fun _ => ?_) | refine good_keepS (x := x) (fun _ => ?_) | refine good_keepM (x := x) (fun _ => ?_) | refine good_keepR (x := x) (fun _ => ?_) | refine good_keepT (x := x) (fun _ => ?_) | refine good_keepN (x := x) (fun _ => ?_) | refine good_keepF (x := x) (fun _ => ?_) | refine good_keepG (x := x) (fun _ => ?_) | clear_value x | skip); all_goals (rename' x => y))
    | with_reducible apply good_ite
    | with_reducible apply good_ite_fst
    | with_reducible apply State.put_good
    | with_reducible apply State.applyWrite_good
    | split
    | apply good_ite

theorem State.write_good {Q : Plat → Cfg → List Instr → Prop} {s : State} (h : s.Good Q) (role : Role) (idx sub size : Nat) (v : Int) (hQ : Undoable Q := by first | assumption | exact undoable_const) :
    (State.write role idx sub size v s).1.Good Q := by
  unfold State.write
  repeat' first
    | with_reducible assumption
    | (extract_lets +onlyGivenNames x; (first | (refine good_step (Q := Q) (x := x) ?_ ?_; (on_goal 1 => unfold x); on_goal 2 => (intro hx; try clear_value x)) | (refine good_step_fst (Q := Q) (x := x) ?_ ?_; (on_goal 1 => unfold x); on_goal 2 => (intro hx; try clear_value x)) | refine good_keepC (x := x) (fun _ => ?_) | refine good_keepS (x := x) (fun _ => ?_) | refine good_keepM (x := x) (fun _ => ?_) | refine good_keepR (x := x) (fun _ => ?_) | refine good_keepT (x := x) (fun _ => ?_) | refine good_keepN (x := x) (fun _ => ?_) | refine good_keepF (x := x) (fun _ => ?_) | refine good_keepG (x := x) (fun _ => ?_) | clear_value x | skip); all_goals (rename' x => y))
    | with_reducible apply good_ite
    | with_reducible apply good_ite_fst
    | with_reducible apply State.takeWrite_good
    | with_reducible apply State.refuse_good
    | split
    | apply good_ite

theorem State.hostWrite_good {Q : Plat → Cfg → List Instr → Prop} {s : State} (h : s.Good Q) (role : Role) (idx sub raw : Nat) (hQ : Undoable Q := by first | assumption | exact undoable_const) :
    (State.hostWrite role idx sub raw s).Good Q := by
  unfold State.hostWrite
  repeat' first
    | with_reducible assumption
    | with_reducible apply good_ite
    | with_reducible apply good_ite_fst
    | with_reducible apply State.write_good
    | split
    | apply good_ite

end Sys2Proof.Machine
end

