-- ==== Sys2Proof/Laws/Sound/Roa.lean ====
section
/-! SUPPORT. Every operation of Machine/Roa.lean keeps a sound state sound. -/

set_option linter.unusedTactic false
set_option linter.unreachableTactic false
set_option linter.unusedVariables false
set_option linter.tactic.unusedName false

namespace Sys2Proof.Machine

theorem State.roaMod_good {Q : Plat → Cfg → List Instr → Prop} {s : State} (h : s.Good Q) {f : RoaX → RoaX}
    (hf : ∀ x : RoaX, x.sessions.length ≤ 16 → (f x).sessions.length ≤ 16) : (s.roaMod f).Good Q :=
  good_roa h (hf _ h.sess)

theorem State.sessMod_good {Q : Plat → Cfg → List Instr → Prop} {s : State} (h : s.Good Q) (n : Nat) (f : RoaSess → RoaSess) : (State.sessMod n f s).Good Q := by
  unfold State.sessMod
  exact State.roaMod_good h (fun x hx => by simpa using hx)

theorem State.snapOver_good {Q : Plat → Cfg → List Instr → Prop} {s : State} (h : s.Good Q) (q : RoaSnap) :
    (State.snapOver q s).Good Q := by
  unfold State.snapOver
  repeat' first
    | with_reducible assumption
    | (extract_lets +onlyGivenNames x; (first | (refine good_step (Q := Q) (x := x) ?_ ?_; (on_goal 1 => unfold x); on_goal 2 => (intro hx; try clear_value x)) | (refine good_step_fst (Q := Q) (x := x) ?_ ?_; (on_goal 1 => unfold x); on_goal 2 => (intro hx; try clear_value x)) | refine good_keepC (x := x) (fun _ => ?_) | refine good_keepS (x := x) (fun _ => ?_) | refine good_keepM (x := x) (fun _ => ?_) | refine good_keepR (x := x) (fun _ => ?_) | refine good_keepT (x := x) (fun _ => ?_) | refine good_keepN (x := x) (fun _ => ?_) | refine good_keepF (x := x) (fun _ => ?_) | refine good_keepG (x := x) (fun _ => ?_) | clear_value x | skip); all_goals (rename' x => y))
    | with_reducible apply State.canRelease_good
    | with_reducible exact good_free (by with_reducible assumption) ..
    | split

theorem State.xferOver_good {Q : Plat → Cfg → List Instr → Prop} {s : State} (h : s.Good Q) (x : RoaXfer) :
    (State.xferOver x s).Good Q := by
  unfold State.xferOver
  repeat' first
    | with_reducible assumption
    | (extract_lets +onlyGivenNames x; (first | (refine good_step (Q := Q) (x := x) ?_ ?_; (on_goal 1 => unfold x); on_goal 2 => (intro hx; try clear_value x)) | (refine good_step_fst (Q := Q) (x := x) ?_ ?_; (on_goal 1 => unfold x); on_goal 2 => (intro hx; try clear_value x)) | refine good_keepC (x := x) (fun _ => ?_) | refine good_keepS (x := x) (fun _ => ?_) | refine good_keepM (x := x) (fun _ => ?_) | refine good_keepR (x := x) (fun _ => ?_) | refine good_keepT (x := x) (fun _ => ?_) | refine good_keepN (x := x) (fun _ => ?_) | refine good_keepF (x := x) (fun _ => ?_) | refine good_keepG (x := x) (fun _ => ?_) | clear_value x | skip); all_goals (rename' x => y))
    | with_reducible apply State.canRelease_good
    | with_reducible exact good_free (by with_reducible assumption) ..
    | split

theorem State.closeSess_good {Q : Plat → Cfg → List Instr → Prop} {s : State} (h : s.Good Q) (n : Nat) :
    (State.closeSess n s).Good Q := by
  unfold State.closeSess
  repeat' first
    | with_reducible assumption
    | (intro x hx; exact hx)
    | (intro x hx; exact le_trans (List.length_filter_le _ _) hx)
    | (intro x hx; simp only [List.length_nil]; omega)
    | (intro x y hx; beta_reduce)
    | (intro x hx; beta_reduce)
    | (extract_lets +onlyGivenNames x; (first | (refine good_step (Q := Q) (x := x) ?_ ?_; (on_goal 1 => unfold x); on_goal 2 => (intro hx; try clear_value x)) | (refine good_step_fst (Q := Q) (x := x) ?_ ?_; (on_goal 1 => unfold x); on_goal 2 => (intro hx; try clear_value x)) | refine good_keepC (x := x) (fun _ => ?_) | refine good_keepS (x := x) (fun _ => ?_) | refine good_keepM (x := x) (fun _ => ?_) | refine good_keepR (x := x) (fun _ => ?_) | refine good_keepT (x := x) (fun _ => ?_) | refine good_keepN (x := x) (fun _ => ?_) | refine good_keepF (x := x) (fun _ => ?_) | refine good_keepG (x := x) (fun _ => ?_) | clear_value x | skip); all_goals (rename' x => y))
    | with_reducible apply good_foldl
    | with_reducible apply good_foldl_fst
    | with_reducible apply State.snapOver_good
    | with_reducible apply State.xferOver_good
    | with_reducible apply State.roaMod_good
    | with_reducible apply State.put_good
    | with_reducible exact good_free (by with_reducible assumption) ..
    | split

theorem State.sendPdu_good {Q : Plat → Cfg → List Instr → Prop} {s : State} (h : s.Good Q) (t : Nat) (b : List Nat) :
    (State.sendPdu t b s).Good Q := by
  unfold State.sendPdu
  repeat' first
    | with_reducible assumption
    | (intro x hx; exact hx)
    | (intro x hx; exact le_trans (List.length_filter_le _ _) hx)
    | (intro x hx; simp only [List.length_nil]; omega)
    | (extract_lets +onlyGivenNames x; (first | (refine good_step (Q := Q) (x := x) ?_ ?_; (on_goal 1 => unfold x); on_goal 2 => (intro hx; try clear_value x)) | (refine good_step_fst (Q := Q) (x := x) ?_ ?_; (on_goal 1 => unfold x); on_goal 2 => (intro hx; try clear_value x)) | refine good_keepC (x := x) (fun _ => ?_) | refine good_keepS (x := x) (fun _ => ?_) | refine good_keepM (x := x) (fun _ => ?_) | refine good_keepR (x := x) (fun _ => ?_) | refine good_keepT (x := x) (fun _ => ?_) | refine good_keepN (x := x) (fun _ => ?_) | refine good_keepF (x := x) (fun _ => ?_) | refine good_keepG (x := x) (fun _ => ?_) | clear_value x | skip); all_goals (rename' x => y))
    | with_reducible apply good_ite
    | with_reducible apply good_ite_fst
    | with_reducible apply State.roaMod_good
    | with_reducible apply State.canPut_good
    | with_reducible apply State.netUdp_good
    | with_reducible exact good_free (by with_reducible assumption) ..
    | split
    | apply good_ite

theorem State.reply_good {Q : Plat → Cfg → List Instr → Prop} {s : State} (h : s.Good Q) (n t svc idx sub : Nat) (r : RoaReply) :
    (State.reply n t svc idx sub r s).Good Q := by
  unfold State.reply
  repeat' first
    | with_reducible assumption
    | (extract_lets +onlyGivenNames x; (first | (refine good_step (Q := Q) (x := x) ?_ ?_; (on_goal 1 => unfold x); on_goal 2 => (intro hx; try clear_value x)) | (refine good_step_fst (Q := Q) (x := x) ?_ ?_; (on_goal 1 => unfold x); on_goal 2 => (intro hx; try clear_value x)) | refine good_keepC (x := x) (fun _ => ?_) | refine good_keepS (x := x) (fun _ => ?_) | refine good_keepM (x := x) (fun _ => ?_) | refine good_keepR (x := x) (fun _ => ?_) | refine good_keepT (x := x) (fun _ => ?_) | refine good_keepN (x := x) (fun _ => ?_) | refine good_keepF (x := x) (fun _ => ?_) | refine good_keepG (x := x) (fun _ => ?_) | clear_value x | skip); all_goals (rename' x => y))
    | with_reducible apply good_ite
    | with_reducible apply State.refuse_good
    | with_reducible apply State.sessMod_good
    | with_reducible apply State.sendPdu_good
    | with_reducible exact good_free (by with_reducible assumption) ..
    | split
    | apply good_ite

theorem State.tagFails_good {Q : Plat → Cfg → List Instr → Prop} {s : State} (h : s.Good Q) (n : Nat) :
    (State.tagFails n s).Good Q := by
  unfold State.tagFails
  repeat' first
    | with_reducible assumption
    | (extract_lets +onlyGivenNames x; (first | (refine good_step (Q := Q) (x := x) ?_ ?_; (on_goal 1 => unfold x); on_goal 2 => (intro hx; try clear_value x)) | (refine good_step_fst (Q := Q) (x := x) ?_ ?_; (on_goal 1 => unfold x); on_goal 2 => (intro hx; try clear_value x)) | refine good_keepC (x := x) (fun _ => ?_) | refine good_keepS (x := x) (fun _ => ?_) | refine good_keepM (x := x) (fun _ => ?_) | refine good_keepR (x := x) (fun _ => ?_) | refine good_keepT (x := x) (fun _ => ?_) | refine good_keepN (x := x) (fun _ => ?_) | refine good_keepF (x := x) (fun _ => ?_) | refine good_keepG (x := x) (fun _ => ?_) | clear_value x | skip); all_goals (rename' x => y))
    | with_reducible apply good_ite
    | with_reducible apply State.incSat_good
    | with_reducible apply State.sessMod_good
    | with_reducible apply State.closeSess_good
    | with_reducible apply State.note_good
    | with_reducible exact good_free (by with_reducible assumption) ..
    | split
    | apply good_ite

theorem State.serve_good {Q : Plat → Cfg → List Instr → Prop} {s : State} (h : s.Good Q) (svc : Nat) (req : RoaReq) (idx sub : Nat)
    {f : RoaSess → State → State × RoaReply} (hf : ∀ (x : RoaSess) (t : State), t.Good Q → (f x t).1.Good Q) :
    (State.serve svc req idx sub f s).Good Q := by
  unfold State.serve
  dsimp only
  refine good_ite h ?_
  split
  · exact State.incSat_good h _
  · refine good_ite (State.tagFails_good h _) (good_ite ?_ (good_ite ?_ ?_))
    · exact State.note_good (State.incSat_good (State.sessMod_good h _ _) _) _ _
    · exact State.note_good (State.incSat_good (State.closeSess_good (State.reply_good h _ _ _ _ _ _) _) _) _ _
    · exact State.reply_good (hf _ _ (State.put_good (State.sessMod_good h _ _) _ _)) _ _ _ _ _ _

theorem State.roaOpen_good {Q : Plat → Cfg → List Instr → Prop} {s : State} (h : s.Good Q) (req : RoaReq) (code random : Nat) : (State.roaOpen req code random s).Good Q := by
  unfold State.roaOpen
  dsimp only
  refine good_ite h ?_
  split
  · exact State.incSat_good h _
  · rename_i role _
    refine good_ite (State.incSat_good h _) ?_
    split
    · exact State.sendPdu_good (State.refuse_good (State.incSat_good h _) _) _ _
    · rename_i hno
      refine State.sendPdu_good (good_roa (State.fresh_good h) ?_) _ _
      have hl : ¬ 16 ≤ s.roa.sessions.length := by
        intro hc
        apply hno
        simp [State.openRefused, hc]
      simp only [List.length_append, List.length_cons, List.length_nil, State.fresh]
      omega

theorem State.svcClose_good {Q : Plat → Cfg → List Instr → Prop} {s : State} (h : s.Good Q) (req : RoaReq) :
    (State.svcClose req s).Good Q := by
  unfold State.svcClose
  repeat' first
    | with_reducible assumption
    | (intro x t ht; beta_reduce)
    | (extract_lets +onlyGivenNames x; (first | (refine good_step (Q := Q) (x := x) ?_ ?_; (on_goal 1 => unfold x); on_goal 2 => (intro hx; try clear_value x)) | (refine good_step_fst (Q := Q) (x := x) ?_ ?_; (on_goal 1 => unfold x); on_goal 2 => (intro hx; try clear_value x)) | refine good_keepC (x := x) (fun _ => ?_) | refine good_keepS (x := x) (fun _ => ?_) | refine good_keepM (x := x) (fun _ => ?_) | refine good_keepR (x := x) (fun _ => ?_) | refine good_keepT (x := x) (fun _ => ?_) | refine good_keepN (x := x) (fun _ => ?_) | refine good_keepF (x := x) (fun _ => ?_) | refine good_keepG (x := x) (fun _ => ?_) | clear_value x | skip); all_goals (rename' x => y))
    | with_reducible apply good_ite
    | with_reducible apply State.serve_good
    | with_reducible apply State.closeSess_good
    | split
    | apply good_ite

theorem State.svcKeepAlive_good {Q : Plat → Cfg → List Instr → Prop} {s : State} (h : s.Good Q) (req : RoaReq) :
    (State.svcKeepAlive req s).Good Q := by
  unfold State.svcKeepAlive
  repeat' first
    | with_reducible assumption
    | (intro x t ht; beta_reduce)
    | with_reducible apply State.serve_good

theorem State.taken_good {Q : Plat → Cfg → List Instr → Prop} {s : State} (h : s.Good Q) (k : Nat) :
    (State.taken k s).Good Q := by
  unfold State.taken
  repeat' first
    | with_reducible assumption
    | (extract_lets +onlyGivenNames x; (first | (refine good_step (Q := Q) (x := x) ?_ ?_; (on_goal 1 => unfold x); on_goal 2 => (intro hx; try clear_value x)) | (refine good_step_fst (Q := Q) (x := x) ?_ ?_; (on_goal 1 => unfold x); on_goal 2 => (intro hx; try clear_value x)) | refine good_keepC (x := x) (fun _ => ?_) | refine good_keepS (x := x) (fun _ => ?_) | refine good_keepM (x := x) (fun _ => ?_) | refine good_keepR (x := x) (fun _ => ?_) | refine good_keepT (x := x) (fun _ => ?_) | refine good_keepN (x := x) (fun _ => ?_) | refine good_keepF (x := x) (fun _ => ?_) | refine good_keepG (x := x) (fun _ => ?_) | clear_value x | skip); all_goals (rename' x => y))
    | with_reducible apply good_ite
    | with_reducible apply State.put_good
    | with_reducible apply State.lvPeakRead_good
    | with_reducible apply State.vdcMod_good
    | with_reducible exact good_free (by with_reducible assumption) ..
    | split
    | apply good_ite

theorem State.windowTaken_good {Q : Plat → Cfg → List Instr → Prop} {s : State} (h : s.Good Q) (idx : Nat) (subs : List Nat) :
    (State.windowTaken idx subs s).Good Q := by
  unfold State.windowTaken
  repeat' first
    | with_reducible assumption
    | (extract_lets +onlyGivenNames x; (first | (refine good_step (Q := Q) (x := x) ?_ ?_; (on_goal 1 => unfold x); on_goal 2 => (intro hx; try clear_value x)) | (refine good_step_fst (Q := Q) (x := x) ?_ ?_; (on_goal 1 => unfold x); on_goal 2 => (intro hx; try clear_value x)) | refine good_keepC (x := x) (fun _ => ?_) | refine good_keepS (x := x) (fun _ => ?_) | refine good_keepM (x := x) (fun _ => ?_) | refine good_keepR (x := x) (fun _ => ?_) | refine good_keepT (x := x) (fun _ => ?_) | refine good_keepN (x := x) (fun _ => ?_) | refine good_keepF (x := x) (fun _ => ?_) | refine good_keepG (x := x) (fun _ => ?_) | clear_value x | skip); all_goals (rename' x => y))
    | with_reducible apply good_ite
    | with_reducible apply State.canLock_good
    | with_reducible apply State.canRelease_good
    | with_reducible exact good_free (by with_reducible assumption) ..
    | split
    | apply good_ite

theorem State.snapDrop_good {Q : Plat → Cfg → List Instr → Prop} {s : State} (h : s.Good Q) (n idx : Nat) :
    (State.snapDrop n idx s).Good Q := by
  unfold State.snapDrop
  repeat' first
    | with_reducible assumption
    | (extract_lets +onlyGivenNames x; (first | (refine good_step (Q := Q) (x := x) ?_ ?_; (on_goal 1 => unfold x); on_goal 2 => (intro hx; try clear_value x)) | (refine good_step_fst (Q := Q) (x := x) ?_ ?_; (on_goal 1 => unfold x); on_goal 2 => (intro hx; try clear_value x)) | refine good_keepC (x := x) (fun _ => ?_) | refine good_keepS (x := x) (fun _ => ?_) | refine good_keepM (x := x) (fun _ => ?_) | refine good_keepR (x := x) (fun _ => ?_) | refine good_keepT (x := x) (fun _ => ?_) | refine good_keepN (x := x) (fun _ => ?_) | refine good_keepF (x := x) (fun _ => ?_) | refine good_keepG (x := x) (fun _ => ?_) | clear_value x | skip); all_goals (rename' x => y))
    | with_reducible apply State.sessMod_good
    | with_reducible exact good_free (by with_reducible assumption) ..

theorem State.snapDiscard_good {Q : Plat → Cfg → List Instr → Prop} {s : State} (h : s.Good Q) (n idx : Nat) :
    (State.snapDiscard n idx s).Good Q := by
  unfold State.snapDiscard
  repeat' first
    | with_reducible assumption
    | (extract_lets +onlyGivenNames x; (first | (refine good_step (Q := Q) (x := x) ?_ ?_; (on_goal 1 => unfold x); on_goal 2 => (intro hx; try clear_value x)) | (refine good_step_fst (Q := Q) (x := x) ?_ ?_; (on_goal 1 => unfold x); on_goal 2 => (intro hx; try clear_value x)) | refine good_keepC (x := x) (fun _ => ?_) | refine good_keepS (x := x) (fun _ => ?_) | refine good_keepM (x := x) (fun _ => ?_) | refine good_keepR (x := x) (fun _ => ?_) | refine good_keepT (x := x) (fun _ => ?_) | refine good_keepN (x := x) (fun _ => ?_) | refine good_keepF (x := x) (fun _ => ?_) | refine good_keepG (x := x) (fun _ => ?_) | clear_value x | skip); all_goals (rename' x => y))
    | with_reducible apply State.snapDrop_good
    | with_reducible apply State.sessMod_good
    | with_reducible apply State.incSat_good
    | with_reducible apply State.snapOver_good
    | with_reducible exact good_free (by with_reducible assumption) ..
    | split

theorem State.snapTake_good {Q : Plat → Cfg → List Instr → Prop} {s : State} (h : s.Good Q) (n idx : Nat) (active : Bool) :
    (State.snapTake n idx active s).Good Q := by
  unfold State.snapTake
  repeat' first
    | with_reducible assumption
    | (intro x y hx; beta_reduce)
    | (intro x hx; beta_reduce)
    | (extract_lets +onlyGivenNames x; (first | (refine good_step (Q := Q) (x := x) ?_ ?_; (on_goal 1 => unfold x); on_goal 2 => (intro hx; try clear_value x)) | (refine good_step_fst (Q := Q) (x := x) ?_ ?_; (on_goal 1 => unfold x); on_goal 2 => (intro hx; try clear_value x)) | refine good_keepC (x := x) (fun _ => ?_) | refine good_keepS (x := x) (fun _ => ?_) | refine good_keepM (x := x) (fun _ => ?_) | refine good_keepR (x := x) (fun _ => ?_) | refine good_keepT (x := x) (fun _ => ?_) | refine good_keepN (x := x) (fun _ => ?_) | refine good_keepF (x := x) (fun _ => ?_) | refine good_keepG (x := x) (fun _ => ?_) | clear_value x | skip); all_goals (rename' x => y))
    | with_reducible apply good_ite
    | with_reducible apply good_forAll
    | with_reducible apply State.snapOver_good
    | with_reducible apply State.snapDrop_good
    | with_reducible apply State.snapDiscard_good
    | with_reducible apply State.sessMod_good
    | with_reducible apply State.taken_good
    | with_reducible apply State.canLock_good
    | with_reducible exact good_free (by with_reducible assumption) ..
    | split
    | apply good_ite

theorem State.readOne_good {Q : Plat → Cfg → List Instr → Prop} {s : State} (h : s.Good Q) (n t idx sub : Nat) (active : Bool) :
    (State.readOne n t idx sub active s).1.Good Q := by
  unfold State.readOne
  repeat' first
    | with_reducible assumption
    | (extract_lets +onlyGivenNames x; (first | (refine good_step (Q := Q) (x := x) ?_ ?_; (on_goal 1 => unfold x); on_goal 2 => (intro hx; try clear_value x)) | (refine good_step_fst (Q := Q) (x := x) ?_ ?_; (on_goal 1 => unfold x); on_goal 2 => (intro hx; try clear_value x)) | refine good_keepC (x := x) (fun _ => ?_) | refine good_keepS (x := x) (fun _ => ?_) | refine good_keepM (x := x) (fun _ => ?_) | refine good_keepR (x := x) (fun _ => ?_) | refine good_keepT (x := x) (fun _ => ?_) | refine good_keepN (x := x) (fun _ => ?_) | refine good_keepF (x := x) (fun _ => ?_) | refine good_keepG (x := x) (fun _ => ?_) | clear_value x | skip); all_goals (rename' x => y))
    | with_reducible apply good_ite
    | with_reducible apply good_ite_fst
    | with_reducible apply State.snapTake_good
    | with_reducible apply State.snapDrop_good
    | with_reducible apply State.snapOver_good
    | with_reducible apply State.sessMod_good
    | with_reducible apply State.taken_good
    | with_reducible apply State.windowTaken_good
    | with_reducible exact good_free (by with_reducible assumption) ..
    | split
    | apply good_ite

theorem State.svcRead_good {Q : Plat → Cfg → List Instr → Prop} {s : State} (h : s.Good Q) (req : RoaReq) (idx sub : Nat) :
    (State.svcRead req idx sub s).Good Q := by
  unfold State.svcRead
  repeat' first
    | with_reducible assumption
    | (intro x t ht; beta_reduce)
    | with_reducible apply State.serve_good
    | with_reducible apply State.readOne_good

theorem State.recordRead_good {Q : Plat → Cfg → List Instr → Prop} {s : State} (h : s.Good Q) (t idx first last : Nat) (active : Bool) :
    (State.recordRead t idx first last active s).1.Good Q := by
  unfold State.recordRead
  repeat' first
    | with_reducible assumption
    | (intro x y hx; beta_reduce)
    | (intro x hx; beta_reduce)
    | (extract_lets +onlyGivenNames x; (first | (refine good_step (Q := Q) (x := x) ?_ ?_; (on_goal 1 => unfold x); on_goal 2 => (intro hx; try clear_value x)) | (refine good_step_fst (Q := Q) (x := x) ?_ ?_; (on_goal 1 => unfold x); on_goal 2 => (intro hx; try clear_value x)) | refine good_keepC (x := x) (fun _ => ?_) | refine good_keepS (x := x) (fun _ => ?_) | refine good_keepM (x := x) (fun _ => ?_) | refine good_keepR (x := x) (fun _ => ?_) | refine good_keepT (x := x) (fun _ => ?_) | refine good_keepN (x := x) (fun _ => ?_) | refine good_keepF (x := x) (fun _ => ?_) | refine good_keepG (x := x) (fun _ => ?_) | clear_value x | skip); all_goals (rename' x => y))
    | with_reducible apply good_ite
    | with_reducible apply good_ite_fst
    | with_reducible apply good_forAll
    | with_reducible apply State.taken_good
    | with_reducible apply State.windowTaken_good
    | with_reducible exact good_free (by with_reducible assumption) ..
    | split
    | apply good_ite

theorem State.svcRecordRead_good {Q : Plat → Cfg → List Instr → Prop} {s : State} (h : s.Good Q) (req : RoaReq) (idx sub last : Nat) :
    (State.svcRecordRead req idx sub last s).Good Q := by
  unfold State.svcRecordRead
  repeat' first
    | with_reducible assumption
    | (intro x t ht; beta_reduce)
    | with_reducible apply State.serve_good
    | with_reducible apply State.recordRead_good

theorem State.svcWrite_good {Q : Plat → Cfg → List Instr → Prop} {s : State} (h : s.Good Q) (req : RoaReq) (idx sub : Nat) (d : List Nat) (hQ : Undoable Q := by first | assumption | exact undoable_const) :
    (State.svcWrite req idx sub d s).Good Q := by
  unfold State.svcWrite
  repeat' first
    | with_reducible assumption
    | (intro x t ht; beta_reduce)
    | (extract_lets +onlyGivenNames x; (first | (refine good_step (Q := Q) (x := x) ?_ ?_; (on_goal 1 => unfold x); on_goal 2 => (intro hx; try clear_value x)) | (refine good_step_fst (Q := Q) (x := x) ?_ ?_; (on_goal 1 => unfold x); on_goal 2 => (intro hx; try clear_value x)) | refine good_keepC (x := x) (fun _ => ?_) | refine good_keepS (x := x) (fun _ => ?_) | refine good_keepM (x := x) (fun _ => ?_) | refine good_keepR (x := x) (fun _ => ?_) | refine good_keepT (x := x) (fun _ => ?_) | refine good_keepN (x := x) (fun _ => ?_) | refine good_keepF (x := x) (fun _ => ?_) | refine good_keepG (x := x) (fun _ => ?_) | clear_value x | skip); all_goals (rename' x => y))
    | with_reducible apply State.serve_good
    | with_reducible apply State.write_good

theorem State.placed_good {Q : Plat → Cfg → List Instr → Prop} {s : State} (h : s.Good Q) (idx : Nat) (vs : List (Nat × Int)) :
    (State.placed idx vs s).Good Q := by
  unfold State.placed
  repeat' first
    | with_reducible assumption
    | (intro x y hx; beta_reduce)
    | (intro x hx; beta_reduce)
    | (extract_lets +onlyGivenNames x; (first | (refine good_step (Q := Q) (x := x) ?_ ?_; (on_goal 1 => unfold x); on_goal 2 => (intro hx; try clear_value x)) | (refine good_step_fst (Q := Q) (x := x) ?_ ?_; (on_goal 1 => unfold x); on_goal 2 => (intro hx; try clear_value x)) | refine good_keepC (x := x) (fun _ => ?_) | refine good_keepS (x := x) (fun _ => ?_) | refine good_keepM (x := x) (fun _ => ?_) | refine good_keepR (x := x) (fun _ => ?_) | refine good_keepT (x := x) (fun _ => ?_) | refine good_keepN (x := x) (fun _ => ?_) | refine good_keepF (x := x) (fun _ => ?_) | refine good_keepG (x := x) (fun _ => ?_) | clear_value x | skip); all_goals (rename' x => y))
    | with_reducible apply good_ite
    | with_reducible apply good_foldl
    | with_reducible apply good_foldl_fst
    | with_reducible apply State.put_good
    | with_reducible refine good_shadow (by with_reducible assumption) ?_
    | with_reducible exact good_free (by with_reducible assumption) ..
    | (with_reducible apply Store.wf_set; with_reducible exact State.Good.shadow (by with_reducible assumption))
    | split
    | apply good_ite

theorem State.recordWrite_good {Q : Plat → Cfg → List Instr → Prop} {s : State} (h : s.Good Q) (role : Role) (idx first last : Nat) (d : List Nat) (hQ : Undoable Q := by first | assumption | exact undoable_const) :
    (State.recordWrite role idx first last d s).1.Good Q := by
  unfold State.recordWrite
  repeat' first
    | with_reducible assumption
    | (intro x y hx; beta_reduce)
    | (intro x hx; beta_reduce)
    | (extract_lets +onlyGivenNames x; (first | (refine good_step (Q := Q) (x := x) ?_ ?_; (on_goal 1 => unfold x); on_goal 2 => (intro hx; try clear_value x)) | (refine good_step_fst (Q := Q) (x := x) ?_ ?_; (on_goal 1 => unfold x); on_goal 2 => (intro hx; try clear_value x)) | refine good_keepC (x := x) (fun _ => ?_) | refine good_keepS (x := x) (fun _ => ?_) | refine good_keepM (x := x) (fun _ => ?_) | refine good_keepR (x := x) (fun _ => ?_) | refine good_keepT (x := x) (fun _ => ?_) | refine good_keepN (x := x) (fun _ => ?_) | refine good_keepF (x := x) (fun _ => ?_) | refine good_keepG (x := x) (fun _ => ?_) | clear_value x | skip); all_goals (rename' x => y))
    | with_reducible apply good_ite
    | with_reducible apply good_ite_fst
    | with_reducible apply good_foldl
    | with_reducible apply good_foldl_fst
    | with_reducible apply State.placed_good
    | with_reducible apply State.takeWrite_good
    | with_reducible exact good_free (by with_reducible assumption) ..
    | split
    | apply good_ite

theorem State.svcRecordWrite_good {Q : Plat → Cfg → List Instr → Prop} {s : State} (h : s.Good Q) (req : RoaReq) (idx sub last : Nat) (d : List Nat) (hQ : Undoable Q := by first | assumption | exact undoable_const) :
    (State.svcRecordWrite req idx sub last d s).Good Q := by
  unfold State.svcRecordWrite
  repeat' first
    | with_reducible assumption
    | (intro x t ht; beta_reduce)
    | with_reducible apply State.serve_good
    | with_reducible apply State.recordWrite_good

theorem State.svcDescribe_good {Q : Plat → Cfg → List Instr → Prop} {s : State} (h : s.Good Q) (req : RoaReq) (idx sub : Nat) :
    (State.svcDescribe req idx sub s).Good Q := by
  unfold State.svcDescribe
  repeat' first
    | with_reducible assumption
    | (intro x t ht; beta_reduce)
    | with_reducible apply State.serve_good

theorem State.xferOpen_good {Q : Plat → Cfg → List Instr → Prop} {s : State} (h : s.Good Q) (n : Nat) (y : RoaXfer) :
    (State.xferOpen n y s).Good Q := by
  unfold State.xferOpen
  repeat' first
    | with_reducible assumption
    | (extract_lets +onlyGivenNames x; (first | (refine good_step (Q := Q) (x := x) ?_ ?_; (on_goal 1 => unfold x); on_goal 2 => (intro hx; try clear_value x)) | (refine good_step_fst (Q := Q) (x := x) ?_ ?_; (on_goal 1 => unfold x); on_goal 2 => (intro hx; try clear_value x)) | refine good_keepC (x := x) (fun _ => ?_) | refine good_keepS (x := x) (fun _ => ?_) | refine good_keepM (x := x) (fun _ => ?_) | refine good_keepR (x := x) (fun _ => ?_) | refine good_keepT (x := x) (fun _ => ?_) | refine good_keepN (x := x) (fun _ => ?_) | refine good_keepF (x := x) (fun _ => ?_) | refine good_keepG (x := x) (fun _ => ?_) | clear_value x | skip); all_goals (rename' x => y))
    | with_reducible apply State.sessMod_good
    | with_reducible exact good_free (by with_reducible assumption) ..

theorem State.xferEnd_good {Q : Plat → Cfg → List Instr → Prop} {s : State} (h : s.Good Q) (n : Nat) :
    (State.xferEnd n s).Good Q := by
  unfold State.xferEnd
  repeat' first
    | with_reducible assumption
    | (extract_lets +onlyGivenNames x; (first | (refine good_step (Q := Q) (x := x) ?_ ?_; (on_goal 1 => unfold x); on_goal 2 => (intro hx; try clear_value x)) | (refine good_step_fst (Q := Q) (x := x) ?_ ?_; (on_goal 1 => unfold x); on_goal 2 => (intro hx; try clear_value x)) | refine good_keepC (x := x) (fun _ => ?_) | refine good_keepS (x := x) (fun _ => ?_) | refine good_keepM (x := x) (fun _ => ?_) | refine good_keepR (x := x) (fun _ => ?_) | refine good_keepT (x := x) (fun _ => ?_) | refine good_keepN (x := x) (fun _ => ?_) | refine good_keepF (x := x) (fun _ => ?_) | refine good_keepG (x := x) (fun _ => ?_) | clear_value x | skip); all_goals (rename' x => y))
    | with_reducible apply State.sessMod_good
    | with_reducible apply State.xferOver_good
    | with_reducible exact good_free (by with_reducible assumption) ..
    | split

theorem State.blockRead_good {Q : Plat → Cfg → List Instr → Prop} {s : State} (h : s.Good Q) (x : RoaSess) (idx sub : Nat) (active : Bool) :
    (State.blockRead x idx sub active s).1.Good Q := by
  unfold State.blockRead
  repeat' first
    | with_reducible assumption
    | (extract_lets +onlyGivenNames x; (first | (refine good_step (Q := Q) (x := x) ?_ ?_; (on_goal 1 => unfold x); on_goal 2 => (intro hx; try clear_value x)) | (refine good_step_fst (Q := Q) (x := x) ?_ ?_; (on_goal 1 => unfold x); on_goal 2 => (intro hx; try clear_value x)) | refine good_keepC (x := x) (fun _ => ?_) | refine good_keepS (x := x) (fun _ => ?_) | refine good_keepM (x := x) (fun _ => ?_) | refine good_keepR (x := x) (fun _ => ?_) | refine good_keepT (x := x) (fun _ => ?_) | refine good_keepN (x := x) (fun _ => ?_) | refine good_keepF (x := x) (fun _ => ?_) | refine good_keepG (x := x) (fun _ => ?_) | clear_value x | skip); all_goals (rename' x => y))
    | with_reducible apply good_ite
    | with_reducible apply good_ite_fst
    | with_reducible apply State.canLock_good
    | with_reducible apply State.canRelease_good
    | with_reducible apply State.xferOpen_good
    | split
    | apply good_ite

theorem State.svcBlockReadStart_good {Q : Plat → Cfg → List Instr → Prop} {s : State} (h : s.Good Q) (req : RoaReq) (idx sub : Nat) :
    (State.svcBlockReadStart req idx sub s).Good Q := by
  unfold State.svcBlockReadStart
  repeat' first
    | with_reducible assumption
    | (intro x t ht; beta_reduce)
    | with_reducible apply State.serve_good
    | with_reducible apply State.blockRead_good

theorem State.noXfer_good {Q : Plat → Cfg → List Instr → Prop} {s : State} (h : s.Good Q) (x : RoaSess) :
    (State.noXfer x s).1.Good Q := by
  unfold State.noXfer
  repeat' first
    | with_reducible assumption
    | (extract_lets +onlyGivenNames x; (first | (refine good_step (Q := Q) (x := x) ?_ ?_; (on_goal 1 => unfold x); on_goal 2 => (intro hx; try clear_value x)) | (refine good_step_fst (Q := Q) (x := x) ?_ ?_; (on_goal 1 => unfold x); on_goal 2 => (intro hx; try clear_value x)) | refine good_keepC (x := x) (fun _ => ?_) | refine good_keepS (x := x) (fun _ => ?_) | refine good_keepM (x := x) (fun _ => ?_) | refine good_keepR (x := x) (fun _ => ?_) | refine good_keepT (x := x) (fun _ => ?_) | refine good_keepN (x := x) (fun _ => ?_) | refine good_keepF (x := x) (fun _ => ?_) | refine good_keepG (x := x) (fun _ => ?_) | clear_value x | skip); all_goals (rename' x => y))
    | with_reducible apply good_ite
    | with_reducible apply good_ite_fst
    | with_reducible apply State.sessMod_good
    | with_reducible exact good_free (by with_reducible assumption) ..
    | split
    | apply good_ite

theorem State.readSegment_good {Q : Plat → Cfg → List Instr → Prop} {s : State} (h : s.Good Q) (x : RoaSess) (t off : Nat) (hQ : Undoable Q := by first | assumption | exact undoable_const) :
    (State.readSegment x t off s).1.Good Q := by
  unfold State.readSegment
  repeat' first
    | with_reducible assumption
    | (extract_lets +onlyGivenNames x; (first | (refine good_step (Q := Q) (x := x) ?_ ?_; (on_goal 1 => unfold x); on_goal 2 => (intro hx; try clear_value x)) | (refine good_step_fst (Q := Q) (x := x) ?_ ?_; (on_goal 1 => unfold x); on_goal 2 => (intro hx; try clear_value x)) | refine good_keepC (x := x) (fun _ => ?_) | refine good_keepS (x := x) (fun _ => ?_) | refine good_keepM (x := x) (fun _ => ?_) | refine good_keepR (x := x) (fun _ => ?_) | refine good_keepT (x := x) (fun _ => ?_) | refine good_keepN (x := x) (fun _ => ?_) | refine good_keepF (x := x) (fun _ => ?_) | refine good_keepG (x := x) (fun _ => ?_) | clear_value x | skip); all_goals (rename' x => y))
    | with_reducible apply good_ite
    | with_reducible apply good_ite_fst
    | with_reducible apply State.noXfer_good
    | with_reducible apply State.write_good
    | with_reducible apply State.xferEnd_good
    | with_reducible apply State.sessMod_good
    | with_reducible exact good_free (by with_reducible assumption) ..
    | split
    | apply good_ite

theorem State.svcBlockReadSegment_good {Q : Plat → Cfg → List Instr → Prop} {s : State} (h : s.Good Q) (req : RoaReq) (off : Nat) (hQ : Undoable Q := by first | assumption | exact undoable_const) :
    (State.svcBlockReadSegment req off s).Good Q := by
  unfold State.svcBlockReadSegment
  repeat' first
    | with_reducible assumption
    | (intro x t ht; beta_reduce)
    | with_reducible apply State.serve_good
    | with_reducible apply State.readSegment_good

theorem State.blockWrite_good {Q : Plat → Cfg → List Instr → Prop} {s : State} (h : s.Good Q) (x : RoaSess) (idx sub length crc : Nat) :
    (State.blockWrite x idx sub length crc s).1.Good Q := by
  unfold State.blockWrite
  repeat' first
    | with_reducible assumption
    | (intro x hx; exact hx)
    | (intro x hx; exact le_trans (List.length_filter_le _ _) hx)
    | (intro x hx; simp only [List.length_nil]; omega)
    | (extract_lets +onlyGivenNames x; (first | (refine good_step (Q := Q) (x := x) ?_ ?_; (on_goal 1 => unfold x); on_goal 2 => (intro hx; try clear_value x)) | (refine good_step_fst (Q := Q) (x := x) ?_ ?_; (on_goal 1 => unfold x); on_goal 2 => (intro hx; try clear_value x)) | refine good_keepC (x := x) (fun _ => ?_) | refine good_keepS (x := x) (fun _ => ?_) | refine good_keepM (x := x) (fun _ => ?_) | refine good_keepR (x := x) (fun _ => ?_) | refine good_keepT (x := x) (fun _ => ?_) | refine good_keepN (x := x) (fun _ => ?_) | refine good_keepF (x := x) (fun _ => ?_) | refine good_keepG (x := x) (fun _ => ?_) | clear_value x | skip); all_goals (rename' x => y))
    | with_reducible apply good_ite
    | with_reducible apply good_ite_fst
    | with_reducible apply State.roaMod_good
    | with_reducible apply State.xferOpen_good
    | with_reducible exact good_free (by with_reducible assumption) ..
    | split
    | apply good_ite

theorem State.svcBlockWriteStart_good {Q : Plat → Cfg → List Instr → Prop} {s : State} (h : s.Good Q) (req : RoaReq) (idx sub len crc : Nat) :
    (State.svcBlockWriteStart req idx sub len crc s).Good Q := by
  unfold State.svcBlockWriteStart
  repeat' first
    | with_reducible assumption
    | (intro x t ht; beta_reduce)
    | with_reducible apply State.serve_good
    | with_reducible apply State.blockWrite_good

theorem State.writeSegment_good {Q : Plat → Cfg → List Instr → Prop} {s : State} (h : s.Good Q) (x : RoaSess) (t off : Nat) (d : List Nat) (hQ : Undoable Q := by first | assumption | exact undoable_const) :
    (State.writeSegment x t off d s).1.Good Q := by
  unfold State.writeSegment
  repeat' first
    | with_reducible assumption
    | (extract_lets +onlyGivenNames x; (first | (refine good_step (Q := Q) (x := x) ?_ ?_; (on_goal 1 => unfold x); on_goal 2 => (intro hx; try clear_value x)) | (refine good_step_fst (Q := Q) (x := x) ?_ ?_; (on_goal 1 => unfold x); on_goal 2 => (intro hx; try clear_value x)) | refine good_keepC (x := x) (fun _ => ?_) | refine good_keepS (x := x) (fun _ => ?_) | refine good_keepM (x := x) (fun _ => ?_) | refine good_keepR (x := x) (fun _ => ?_) | refine good_keepT (x := x) (fun _ => ?_) | refine good_keepN (x := x) (fun _ => ?_) | refine good_keepF (x := x) (fun _ => ?_) | refine good_keepG (x := x) (fun _ => ?_) | clear_value x | skip); all_goals (rename' x => y))
    | with_reducible apply good_ite
    | with_reducible apply good_ite_fst
    | with_reducible apply State.noXfer_good
    | with_reducible apply State.write_good
    | with_reducible apply State.sessMod_good
    | with_reducible refine good_mem (by with_reducible assumption) ?_
    | with_reducible exact good_free (by with_reducible assumption) ..
    | (with_reducible apply memWf_setBytes; with_reducible exact State.Good.mem (by with_reducible assumption))
    | split
    | apply good_ite

theorem State.svcBlockWriteSegment_good {Q : Plat → Cfg → List Instr → Prop} {s : State} (h : s.Good Q) (req : RoaReq) (off : Nat) (d : List Nat) (hQ : Undoable Q := by first | assumption | exact undoable_const) :
    (State.svcBlockWriteSegment req off d s).Good Q := by
  unfold State.svcBlockWriteSegment
  repeat' first
    | with_reducible assumption
    | (intro x t ht; beta_reduce)
    | with_reducible apply State.serve_good
    | with_reducible apply State.writeSegment_good

theorem State.blockEnd_good {Q : Plat → Cfg → List Instr → Prop} {s : State} (h : s.Good Q) (x : RoaSess) (hQ : Undoable Q := by first | assumption | exact undoable_const) :
    (State.blockEnd x s).1.Good Q := by
  unfold State.blockEnd
  repeat' first
    | with_reducible assumption
    | (extract_lets +onlyGivenNames x; (first | (refine good_step (Q := Q) (x := x) ?_ ?_; (on_goal 1 => unfold x); on_goal 2 => (intro hx; try clear_value x)) | (refine good_step_fst (Q := Q) (x := x) ?_ ?_; (on_goal 1 => unfold x); on_goal 2 => (intro hx; try clear_value x)) | refine good_keepC (x := x) (fun _ => ?_) | refine good_keepS (x := x) (fun _ => ?_) | refine good_keepM (x := x) (fun _ => ?_) | refine good_keepR (x := x) (fun _ => ?_) | refine good_keepT (x := x) (fun _ => ?_) | refine good_keepN (x := x) (fun _ => ?_) | refine good_keepF (x := x) (fun _ => ?_) | refine good_keepG (x := x) (fun _ => ?_) | clear_value x | skip); all_goals (rename' x => y))
    | with_reducible apply good_ite
    | with_reducible apply good_ite_fst
    | with_reducible apply State.noXfer_good
    | with_reducible apply State.write_good
    | with_reducible apply State.xferEnd_good
    | with_reducible apply State.takeBlock_good
    | with_reducible exact good_free (by with_reducible assumption) ..
    | split
    | apply good_ite

theorem State.svcBlockWriteEnd_good {Q : Plat → Cfg → List Instr → Prop} {s : State} (h : s.Good Q) (req : RoaReq) (hQ : Undoable Q := by first | assumption | exact undoable_const) :
    (State.svcBlockWriteEnd req s).Good Q := by
  unfold State.svcBlockWriteEnd
  repeat' first
    | with_reducible assumption
    | (intro x t ht; beta_reduce)
    | with_reducible apply State.serve_good
    | with_reducible apply State.blockEnd_good

theorem State.svcBlockAbort_good {Q : Plat → Cfg → List Instr → Prop} {s : State} (h : s.Good Q) (req : RoaReq) :
    (State.svcBlockAbort req s).Good Q := by
  unfold State.svcBlockAbort
  repeat' first
    | with_reducible assumption
    | (intro x t ht; beta_reduce)
    | with_reducible apply good_ite
    | with_reducible apply good_ite_fst
    | with_reducible apply State.serve_good
    | with_reducible apply State.xferEnd_good
    | with_reducible apply State.noXfer_good
    | split
    | apply good_ite

theorem State.roaPdu_good {Q : Plat → Cfg → List Instr → Prop} {s : State} (h : s.Good Q) (t : Nat) (b : List Nat) (hQ : Undoable Q := by first | assumption | exact undoable_const) :
    (State.roaPdu t b s).Good Q := by
  unfold State.roaPdu
  repeat' first
    | with_reducible assumption
    | (intro x t ht; beta_reduce)
    | (extract_lets +onlyGivenNames x; (first | (refine good_step (Q := Q) (x := x) ?_ ?_; (on_goal 1 => unfold x); on_goal 2 => (intro hx; try clear_value x)) | (refine good_step_fst (Q := Q) (x := x) ?_ ?_; (on_goal 1 => unfold x); on_goal 2 => (intro hx; try clear_value x)) | refine good_keepC (x := x) (fun _ => ?_) | refine good_keepS (x := x) (fun _ => ?_) | refine good_keepM (x := x) (fun _ => ?_) | refine good_keepR (x := x) (fun _ => ?_) | refine good_keepT (x := x) (fun _ => ?_) | refine good_keepN (x := x) (fun _ => ?_) | refine good_keepF (x := x) (fun _ => ?_) | refine good_keepG (x := x) (fun _ => ?_) | clear_value x | skip); all_goals (rename' x => y))
    | with_reducible apply good_ite
    | with_reducible apply State.serve_good
    | with_reducible apply State.roaOpen_good
    | with_reducible apply State.incSat_good
    | with_reducible apply State.svcClose_good
    | with_reducible apply State.svcKeepAlive_good
    | with_reducible apply State.svcRead_good
    | with_reducible apply State.svcWrite_good
    | with_reducible apply State.svcRecordRead_good
    | with_reducible apply State.svcRecordWrite_good
    | with_reducible apply State.svcDescribe_good
    | with_reducible apply State.svcBlockReadStart_good
    | with_reducible apply State.svcBlockReadSegment_good
    | with_reducible apply State.svcBlockWriteStart_good
    | with_reducible apply State.svcBlockWriteSegment_good
    | with_reducible apply State.svcBlockWriteEnd_good
    | with_reducible apply State.svcBlockAbort_good
    | with_reducible exact good_free (by with_reducible assumption) ..
    | split
    | apply good_ite

theorem State.roleKeyBlock_good {Q : Plat → Cfg → List Instr → Prop} {s : State} (h : s.Good Q) (n r : Nat) (wrapped : List Nat) :
    (State.roleKeyBlock n r wrapped s).Good Q := by
  unfold State.roleKeyBlock
  repeat' first
    | with_reducible assumption
    | (extract_lets +onlyGivenNames x; (first | (refine good_step (Q := Q) (x := x) ?_ ?_; (on_goal 1 => unfold x); on_goal 2 => (intro hx; try clear_value x)) | (refine good_step_fst (Q := Q) (x := x) ?_ ?_; (on_goal 1 => unfold x); on_goal 2 => (intro hx; try clear_value x)) | refine good_keepC (x := x) (fun _ => ?_) | refine good_keepS (x := x) (fun _ => ?_) | refine good_keepM (x := x) (fun _ => ?_) | refine good_keepR (x := x) (fun _ => ?_) | refine good_keepT (x := x) (fun _ => ?_) | refine good_keepN (x := x) (fun _ => ?_) | refine good_keepF (x := x) (fun _ => ?_) | refine good_keepG (x := x) (fun _ => ?_) | clear_value x | skip); all_goals (rename' x => y))
    | with_reducible apply good_ite
    | with_reducible apply good_ite_fst
    | with_reducible apply State.refuse_good
    | with_reducible apply State.writeRoleKey_good
    | with_reducible exact good_free (by with_reducible assumption) ..
    | split
    | apply good_ite

theorem State.partnerKeyBlock_good {Q : Plat → Cfg → List Instr → Prop} {s : State} (h : s.Good Q) (n : Nat) (wrapped : List Nat) :
    (State.partnerKeyBlock n wrapped s).Good Q := by
  unfold State.partnerKeyBlock
  repeat' first
    | with_reducible assumption
    | (extract_lets +onlyGivenNames x; (first | (refine good_step (Q := Q) (x := x) ?_ ?_; (on_goal 1 => unfold x); on_goal 2 => (intro hx; try clear_value x)) | (refine good_step_fst (Q := Q) (x := x) ?_ ?_; (on_goal 1 => unfold x); on_goal 2 => (intro hx; try clear_value x)) | refine good_keepC (x := x) (fun _ => ?_) | refine good_keepS (x := x) (fun _ => ?_) | refine good_keepM (x := x) (fun _ => ?_) | refine good_keepR (x := x) (fun _ => ?_) | refine good_keepT (x := x) (fun _ => ?_) | refine good_keepN (x := x) (fun _ => ?_) | refine good_keepF (x := x) (fun _ => ?_) | refine good_keepG (x := x) (fun _ => ?_) | clear_value x | skip); all_goals (rename' x => y))
    | with_reducible apply good_ite
    | with_reducible apply good_ite_fst
    | with_reducible apply State.refuse_good
    | with_reducible apply State.writePartnerKey_good
    | with_reducible exact good_free (by with_reducible assumption) ..
    | split
    | apply good_ite

end Sys2Proof.Machine
end

