-- ==== Sys2Proof/Laws/Sound/CanRows.lean ====
section
/-! SUPPORT. Every operation of Machine/CanRows.lean keeps a sound state sound. -/

set_option linter.unusedTactic false
set_option linter.unreachableTactic false
set_option linter.unusedVariables false
set_option linter.tactic.unusedName false

namespace Sys2Proof.Machine

theorem State.canDeliver_good {Q : Plat → Cfg → List Instr → Prop} {s : State} (h : s.Good Q) (c : Nat) (h data : List Nat) (hQ : Undoable Q := by first | assumption | exact undoable_const) :
    (State.canDeliver c h data s).Good Q := by
  unfold State.canDeliver
  repeat' first
    | with_reducible assumption
    | (extract_lets +onlyGivenNames x; (first | (refine good_step (Q := Q) (x := x) ?_ ?_; (on_goal 1 => unfold x); on_goal 2 => (intro hx; try clear_value x)) | (refine good_step_fst (Q := Q) (x := x) ?_ ?_; (on_goal 1 => unfold x); on_goal 2 => (intro hx; try clear_value x)) | refine good_keepC (x := x) (fun _ => ?_) | refine good_keepS (x := x) (fun _ => ?_) | refine good_keepM (x := x) (fun _ => ?_) | refine good_keepR (x := x) (fun _ => ?_) | refine good_keepT (x := x) (fun _ => ?_) | refine good_keepN (x := x) (fun _ => ?_) | refine good_keepF (x := x) (fun _ => ?_) | refine good_keepG (x := x) (fun _ => ?_) | clear_value x | skip); all_goals (rename' x => y))
    | with_reducible apply good_ite
    | with_reducible apply State.roaPdu_good
    | with_reducible apply State.incSat_good
    | with_reducible apply State.canStore_good
    | with_reducible apply State.entryFrame_good
    | with_reducible exact good_free (by with_reducible assumption) ..
    | split
    | apply good_ite

theorem State.canRecDown_good {Q : Plat → Cfg → List Instr → Prop} {s : State} (h : s.Good Q) (c : Nat) :
    (State.canRecDown c s).Good Q := by
  unfold State.canRecDown
  repeat' first
    | with_reducible assumption
    | (extract_lets +onlyGivenNames x; (first | (refine good_step (Q := Q) (x := x) ?_ ?_; (on_goal 1 => unfold x); on_goal 2 => (intro hx; try clear_value x)) | (refine good_step_fst (Q := Q) (x := x) ?_ ?_; (on_goal 1 => unfold x); on_goal 2 => (intro hx; try clear_value x)) | refine good_keepC (x := x) (fun _ => ?_) | refine good_keepS (x := x) (fun _ => ?_) | refine good_keepM (x := x) (fun _ => ?_) | refine good_keepR (x := x) (fun _ => ?_) | refine good_keepT (x := x) (fun _ => ?_) | refine good_keepN (x := x) (fun _ => ?_) | refine good_keepF (x := x) (fun _ => ?_) | refine good_keepG (x := x) (fun _ => ?_) | clear_value x | skip); all_goals (rename' x => y))
    | with_reducible apply good_ite
    | with_reducible apply State.fresh_good
    | with_reducible apply State.put_good
    | with_reducible apply State.canShow_good
    | split
    | apply good_ite

theorem State.canReceived_good {Q : Plat → Cfg → List Instr → Prop} {s : State} (h : s.Good Q) (c : Nat) (h data : List Nat) (age : Nat) (hQ : Undoable Q := by first | assumption | exact undoable_const) :
    (State.canReceived c h data age s).Good Q := by
  unfold State.canReceived
  repeat' first
    | with_reducible assumption
    | (extract_lets +onlyGivenNames x; (first | (refine good_step (Q := Q) (x := x) ?_ ?_; (on_goal 1 => unfold x); on_goal 2 => (intro hx; try clear_value x)) | (refine good_step_fst (Q := Q) (x := x) ?_ ?_; (on_goal 1 => unfold x); on_goal 2 => (intro hx; try clear_value x)) | refine good_keepC (x := x) (fun _ => ?_) | refine good_keepS (x := x) (fun _ => ?_) | refine good_keepM (x := x) (fun _ => ?_) | refine good_keepR (x := x) (fun _ => ?_) | refine good_keepT (x := x) (fun _ => ?_) | refine good_keepN (x := x) (fun _ => ?_) | refine good_keepF (x := x) (fun _ => ?_) | refine good_keepG (x := x) (fun _ => ?_) | clear_value x | skip); all_goals (rename' x => y))
    | with_reducible apply good_ite
    | with_reducible apply State.canStart_good
    | with_reducible apply State.inc32_good
    | with_reducible apply State.antennaHears_good
    | with_reducible apply State.canRecDown_good
    | with_reducible apply State.canDeliver_good
    | split
    | apply good_ite

theorem State.canSent_good {Q : Plat → Cfg → List Instr → Prop} {s : State} (h : s.Good Q) (c age : Nat) (hQ : Undoable Q := by first | assumption | exact undoable_const) : (State.canSent c age s).Good Q := by
  unfold State.canSent
  split
  · exact h
  · rename_i f rest hq
    have hlen : rest.length ≤ 64 := by
      have := h.queue_le c
      rw [hq] at this
      simp only [List.length_cons] at this
      omega
    refine good_ite h ?_
    extract_lets tec s1 s2 s3 s4
    have h1 : s1.Good Q := State.put_good (State.put_good h _ _) _ _
    have h2 : s2.Good Q := State.put_good (State.inc32_good h1 _) _ _
    have h3 : s3.Good Q := by
      unfold s3
      split
      · exact State.eslMod_good h2 _ _
      · exact h2
    have h4 : s4.Good Q := good_ite h3 (State.put_good h3 _ _)
    exact State.canNextHead_good h4 c hlen

theorem State.regenerate_good {Q : Plat → Cfg → List Instr → Prop} {s : State} (h : s.Good Q) (c : Nat) (l : List CanFrame) (last : List (Nat × Nat)) :
    (State.regenerate c l last s).1.Good Q ∧ (State.regenerate c l last s).2.length = l.length := by
  induction l generalizing s last with
  | nil => exact ⟨h, rfl⟩
  | cons f fs ih =>
    rw [State.regenerate]
    split
    · exact ⟨(ih h last).1, congrArg (· + 1) (ih h last).2⟩
    · dsimp only
      split
      · exact ⟨(ih (State.eslMod_good h _ _) _).1, congrArg (· + 1) (ih (State.eslMod_good h _ _) _).2⟩
      · have hs : ∀ (b : Prop) [Decidable b] (n : Nat) (g : EslX → EslX), (if b then s.eslMod n g else s).Good Q := fun b _ n g =>
          good_ite (State.eslMod_good h n g) h
        exact ⟨(ih (hs _ _ _) _).1, congrArg (· + 1) (ih (hs _ _ _) _).2⟩

theorem State.canRecovered_good {Q : Plat → Cfg → List Instr → Prop} {s : State} (h : s.Good Q) (c : Nat) : (State.canRecovered c s).Good Q := by
  unfold State.canRecovered
  refine good_ite h ?_
  extract_lets s1 old any r s2 flush kept s3
  have h1 : s1.Good Q := State.put_good (State.put_good (State.put_good h _ _) _ _) _ _
  have hr := State.regenerate_good h1 c old []
  have h2 : s2.Good Q := good_ite (State.note_good hr.1 _ _) hr.1
  have hk : kept.length ≤ 64 := by
    have ho : r.2.length ≤ 64 := le_trans (le_of_eq hr.2) (h1.queue_le c)
    unfold kept
    split
    · exact le_trans (List.length_filter_le _ _) ho
    · exact ho
  have h3 : s3.Good Q := good_ite (State.canNextHead_good h2 c hk) (State.canShow_good (State.canMod_good h2 c (fun _ _ => hk)) c)
  refine good_ite (State.antennaStart_good (State.canMod_good h3 c ?_) c) h3
  exact fun x hx => hx

end Sys2Proof.Machine
end

