-- ==== Sys2Proof/Laws/Sound/Occurrence.lean ====
section
/-! SUPPORT. Every operation of Machine/Occurrence.lean keeps a sound state sound. -/

set_option linter.unusedTactic false
set_option linter.unreachableTactic false
set_option linter.unusedVariables false
set_option linter.tactic.unusedName false

namespace Sys2Proof.Machine

theorem State.startLaw_good {Q : Plat → Cfg → List Instr → Prop} {s : State} (h : s.Good Q) (n arg angle : Nat) (hQ : Undoable Q := by first | assumption | exact undoable_const) :
    (State.startLaw n arg angle s).Good Q := by
  unfold State.startLaw
  repeat' first
    | with_reducible assumption
    | (extract_lets +onlyGivenNames x; (first | (refine good_step (Q := Q) (x := x) ?_ ?_; (on_goal 1 => unfold x); on_goal 2 => (intro hx; try clear_value x)) | (refine good_step_fst (Q := Q) (x := x) ?_ ?_; (on_goal 1 => unfold x); on_goal 2 => (intro hx; try clear_value x)) | refine good_keepC (x := x) (fun _ => ?_) | refine good_keepS (x := x) (fun _ => ?_) | refine good_keepM (x := x) (fun _ => ?_) | refine good_keepR (x := x) (fun _ => ?_) | refine good_keepT (x := x) (fun _ => ?_) | refine good_keepN (x := x) (fun _ => ?_) | refine good_keepF (x := x) (fun _ => ?_) | refine good_keepG (x := x) (fun _ => ?_) | clear_value x | skip); all_goals (rename' x => y))
    | with_reducible apply good_ite
    | with_reducible apply State.limitStages_good
    | with_reducible apply State.wcWords_good
    | with_reducible apply State.lvTrims_good
    | with_reducible apply State.gaWords_good
    | with_reducible apply State.tdVehicle_good
    | with_reducible apply State.tdPost_good
    | with_reducible apply State.stWords_good
    | with_reducible apply State.lawStart_good
    | split
    | apply good_ite

theorem State.pulseOut_good {Q : Plat → Cfg → List Instr → Prop} {s : State} (h : s.Good Q) (t target arg lead : Nat) :
    (State.pulseOut t target arg lead s).Good Q := by
  unfold State.pulseOut
  repeat' first
    | with_reducible assumption
    | (extract_lets +onlyGivenNames x; (first | (refine good_step (Q := Q) (x := x) ?_ ?_; (on_goal 1 => unfold x); on_goal 2 => (intro hx; try clear_value x)) | (refine good_step_fst (Q := Q) (x := x) ?_ ?_; (on_goal 1 => unfold x); on_goal 2 => (intro hx; try clear_value x)) | refine good_keepC (x := x) (fun _ => ?_) | refine good_keepS (x := x) (fun _ => ?_) | refine good_keepM (x := x) (fun _ => ?_) | refine good_keepR (x := x) (fun _ => ?_) | refine good_keepT (x := x) (fun _ => ?_) | refine good_keepN (x := x) (fun _ => ?_) | refine good_keepF (x := x) (fun _ => ?_) | refine good_keepG (x := x) (fun _ => ?_) | clear_value x | skip); all_goals (rename' x => y))
    | with_reducible apply good_ite
    | with_reducible apply State.setDrive_good
    | with_reducible apply State.callMode_good
    | with_reducible apply State.chMod_good
    | with_reducible apply State.incSat_good
    | with_reducible exact good_free (by with_reducible assumption) ..
    | split
    | apply good_ite

theorem State.stampOut_good {Q : Plat → Cfg → List Instr → Prop} {s : State} (h : s.Good Q) (t angle tag : Nat) :
    (State.stampOut t angle tag s).Good Q := by
  unfold State.stampOut
  repeat' first
    | with_reducible assumption
    | (extract_lets +onlyGivenNames x; (first | (refine good_step (Q := Q) (x := x) ?_ ?_; (on_goal 1 => unfold x); on_goal 2 => (intro hx; try clear_value x)) | (refine good_step_fst (Q := Q) (x := x) ?_ ?_; (on_goal 1 => unfold x); on_goal 2 => (intro hx; try clear_value x)) | refine good_keepC (x := x) (fun _ => ?_) | refine good_keepS (x := x) (fun _ => ?_) | refine good_keepM (x := x) (fun _ => ?_) | refine good_keepR (x := x) (fun _ => ?_) | refine good_keepT (x := x) (fun _ => ?_) | refine good_keepN (x := x) (fun _ => ?_) | refine good_keepF (x := x) (fun _ => ?_) | refine good_keepG (x := x) (fun _ => ?_) | clear_value x | skip); all_goals (rename' x => y))
    | with_reducible apply State.inc32_good
    | with_reducible refine good_mem (by with_reducible assumption) ?_
    | with_reducible exact good_free (by with_reducible assumption) ..
    | (with_reducible apply memWf_setBytes; with_reducible exact State.Good.mem (by with_reducible assumption))

theorem State.loadTarget_good {Q : Plat → Cfg → List Instr → Prop} {s : State} (h : s.Good Q) (g : Nat) (hQ : Undoable Q := by first | assumption | exact undoable_const) :
    (State.loadTarget g s).Good Q := by
  unfold State.loadTarget
  repeat' first
    | with_reducible assumption
    | with_reducible apply good_ite
    | with_reducible apply State.loadGroup_good
    | split
    | apply good_ite

theorem State.act_good {Q : Plat → Cfg → List Instr → Prop} {s : State} (h : s.Good Q) (t : Nat) (o : Occ) (i : SampleIn) (hQ : Undoable Q := by first | assumption | exact undoable_const) :
    (State.act t o i s).Good Q := by
  unfold State.act
  repeat' first
    | with_reducible assumption
    | (extract_lets +onlyGivenNames x; (first | (refine good_step (Q := Q) (x := x) ?_ ?_; (on_goal 1 => unfold x); on_goal 2 => (intro hx; try clear_value x)) | (refine good_step_fst (Q := Q) (x := x) ?_ ?_; (on_goal 1 => unfold x); on_goal 2 => (intro hx; try clear_value x)) | refine good_keepC (x := x) (fun _ => ?_) | refine good_keepS (x := x) (fun _ => ?_) | refine good_keepM (x := x) (fun _ => ?_) | refine good_keepR (x := x) (fun _ => ?_) | refine good_keepT (x := x) (fun _ => ?_) | refine good_keepN (x := x) (fun _ => ?_) | refine good_keepF (x := x) (fun _ => ?_) | refine good_keepG (x := x) (fun _ => ?_) | clear_value x | skip); all_goals (rename' x => y))
    | with_reducible apply good_ite
    | with_reducible apply State.startLaw_good
    | with_reducible apply State.sampleClass_good
    | with_reducible apply State.reconstruct_good
    | with_reducible apply State.loadTarget_good
    | with_reducible apply State.pulseOut_good
    | with_reducible apply State.stampOut_good
    | with_reducible exact good_free (by with_reducible assumption) ..
    | split
    | apply good_ite

theorem State.occLate_good {Q : Plat → Cfg → List Instr → Prop} {s : State} (h : s.Good Q) (t : Nat) (hQ : Undoable Q := by first | assumption | exact undoable_const) :
    (State.occLate t s).Good Q := by
  unfold State.occLate
  repeat' first
    | with_reducible assumption
    | with_reducible apply State.incSat_good
    | with_reducible apply State.raise_good

theorem State.tbMod_good_at {Q : Plat → Cfg → List Instr → Prop} {s : State} (h : s.Good Q) (t : Nat) {f : TbX → TbX}
    (hf : (s.tbx t).delayed.length ≤ 32 → (f (s.tbx t)).delayed.length ≤ 32) : (s.tbMod t f).Good Q := by
  refine good_tb h (by simp [modifyAt, h.tb]) (mem_modify_at (p := fun x : TbX => x.delayed.length ≤ 32) h.delayed ?_)
  intro x hx
  have he : s.tbx t = x := by
    unfold State.tbx
    rw [List.getD_eq_getElem?_getD, hx]
    rfl
  rw [he] at hf
  exact hf (h.delayed x (List.mem_of_getElem? hx))

theorem tbx_put (s : State) (k : Nat) (v : Int) (t : Nat) : (s.put k v).tbx t = s.tbx t := rfl

/-- One more delayed occurrence where there is room. -/
theorem State.delay_good {Q : Plat → Cfg → List Instr → Prop} {s : State} (h : s.Good Q) (t k : Nat) (v : Int) (w : Occ) (hr : ¬ 32 ≤ (s.tbx t).delayed.length) :
    ((s.put k v).tbMod t (fun x => { x with delayed := x.delayed ++ [w] })).Good Q := by
  refine State.tbMod_good_at (State.put_good h k v) t (fun _ => ?_)
  rw [tbx_put]
  simp only [List.length_append, List.length_cons, List.length_nil]
  omega

theorem State.dispatch_good {Q : Plat → Cfg → List Instr → Prop} {s : State} (h : s.Good Q) (t : Nat) (o : Occ) (delay : Nat) (i : SampleIn) (hQ : Undoable Q := by first | assumption | exact undoable_const) :
    (State.dispatch t o delay i s).Good Q := by
  unfold State.dispatch
  refine good_ite h (good_ite (State.streamCapture_good (State.act_good (State.inc32_good h _) _ _ _) _ _) ?_)
  split
  · exact State.occLate_good h t
  · rename_i hr
    exact State.streamCapture_good (State.delay_good h t _ _ _ hr) _ _

theorem State.delayedDue_good {Q : Plat → Cfg → List Instr → Prop} {s : State} (h : s.Good Q) (t : Nat) (i : SampleIn) (hQ : Undoable Q := by first | assumption | exact undoable_const) :
    (State.delayedDue t i s).Good Q := by
  unfold State.delayedDue
  repeat' first
    | with_reducible assumption
    | (intro x hx; exact hx)
    | (intro x hx; exact le_trans (List.length_filter_le _ _) hx)
    | (intro x hx; simp only [List.length_nil]; omega)
    | (intro x y hx; beta_reduce)
    | (intro x hx; beta_reduce)
    | (extract_lets +onlyGivenNames x; (first | (refine good_step (Q := Q) (x := x) ?_ ?_; (on_goal 1 => unfold x); on_goal 2 => (intro hx; try clear_value x)) | (refine good_step_fst (Q := Q) (x := x) ?_ ?_; (on_goal 1 => unfold x); on_goal 2 => (intro hx; try clear_value x)) | refine good_keepC (x := x) (fun _ => ?_) | refine good_keepS (x := x) (fun _ => ?_) | refine good_keepM (x := x) (fun _ => ?_) | refine good_keepR (x := x) (fun _ => ?_) | refine good_keepT (x := x) (fun _ => ?_) | refine good_keepN (x := x) (fun _ => ?_) | refine good_keepF (x := x) (fun _ => ?_) | refine good_keepG (x := x) (fun _ => ?_) | clear_value x | skip); all_goals (rename' x => y))
    | with_reducible apply good_ite
    | with_reducible apply good_foldl
    | with_reducible apply good_foldl_fst
    | with_reducible apply State.tbMod_good
    | with_reducible apply State.addSat_good
    | with_reducible apply State.act_good
    | with_reducible exact good_free (by with_reducible assumption) ..
    | split
    | apply good_ite

end Sys2Proof.Machine
end

