-- ==== Sys2Proof/Laws/Sound/Protection.lean ====
section
/-! SUPPORT. Every operation of Machine/Protection.lean keeps a sound state sound. -/

set_option linter.unusedTactic false
set_option linter.unreachableTactic false
set_option linter.unusedVariables false
set_option linter.tactic.unusedName false

namespace Sys2Proof.Machine

theorem State.eventWith_good {Q : Plat → Cfg → List Instr → Prop} {s : State} (h : s.Good Q) (n cause : Nat) (hQ : Undoable Q := by first | assumption | exact undoable_const) :
    (State.eventWith n cause s).Good Q := by
  unfold State.eventWith
  repeat' first
    | with_reducible assumption
    | with_reducible apply State.protEvent_good
    | with_reducible apply State.chopperEvent_good
    | with_reducible apply State.stChopperEvent_good

theorem State.switchEvent_good {Q : Plat → Cfg → List Instr → Prop} {s : State} (h : s.Good Q) (n cause : Nat) (hQ : Undoable Q := by first | assumption | exact undoable_const) :
    (State.switchEvent n cause s).Good Q := by
  unfold State.switchEvent
  repeat' first
    | with_reducible assumption
    | with_reducible apply State.eventWith_good

theorem State.afterSupply_good {Q : Plat → Cfg → List Instr → Prop} {s : State} (h : s.Good Q) (old : State) (n : Nat) (hQ : Undoable Q := by first | assumption | exact undoable_const) :
    (State.afterSupply old n s).Good Q := by
  unfold State.afterSupply
  repeat' first
    | with_reducible assumption
    | with_reducible apply good_ite
    | with_reducible apply State.chopperEvent_good
    | with_reducible apply State.stChopperEvent_good
    | split
    | apply good_ite

theorem State.desaturation_good {Q : Plat → Cfg → List Instr → Prop} {s : State} (h : s.Good Q) (n : Nat) (upper : Bool) (v : Nat) (hQ : Undoable Q := by first | assumption | exact undoable_const) :
    (State.desaturation n upper v s).Good Q := by
  unfold State.desaturation
  repeat' first
    | with_reducible assumption
    | with_reducible apply good_ite
    | with_reducible apply State.showOn_good
    | with_reducible apply State.switchEvent_good
    | split
    | apply good_ite

theorem State.hardShort_good {Q : Plat → Cfg → List Instr → Prop} {s : State} (h : s.Good Q) (n : Nat) (upper : Bool) (v : Nat) (hQ : Undoable Q := by first | assumption | exact undoable_const) :
    (State.hardShort n upper v s).Good Q := by
  unfold State.hardShort
  repeat' first
    | with_reducible assumption
    | (extract_lets +onlyGivenNames x; (first | (refine good_step (Q := Q) (x := x) ?_ ?_; (on_goal 1 => unfold x); on_goal 2 => (intro hx; try clear_value x)) | (refine good_step_fst (Q := Q) (x := x) ?_ ?_; (on_goal 1 => unfold x); on_goal 2 => (intro hx; try clear_value x)) | refine good_keepC (x := x) (fun _ => ?_) | refine good_keepS (x := x) (fun _ => ?_) | refine good_keepM (x := x) (fun _ => ?_) | refine good_keepR (x := x) (fun _ => ?_) | refine good_keepT (x := x) (fun _ => ?_) | refine good_keepN (x := x) (fun _ => ?_) | refine good_keepF (x := x) (fun _ => ?_) | refine good_keepG (x := x) (fun _ => ?_) | clear_value x | skip); all_goals (rename' x => y))
    | with_reducible apply good_ite
    | with_reducible apply State.switchEvent_good
    | split
    | apply good_ite

theorem State.fastOver_good {Q : Plat → Cfg → List Instr → Prop} {s : State} (h : s.Good Q) (n a : Nat) (hQ : Undoable Q := by first | assumption | exact undoable_const) :
    (State.fastOver n a s).Good Q := by
  unfold State.fastOver
  repeat' first
    | with_reducible assumption
    | (intro x y hx; beta_reduce)
    | (intro x hx; beta_reduce)
    | (extract_lets +onlyGivenNames x; (first | (refine good_step (Q := Q) (x := x) ?_ ?_; (on_goal 1 => unfold x); on_goal 2 => (intro hx; try clear_value x)) | (refine good_step_fst (Q := Q) (x := x) ?_ ?_; (on_goal 1 => unfold x); on_goal 2 => (intro hx; try clear_value x)) | refine good_keepC (x := x) (fun _ => ?_) | refine good_keepS (x := x) (fun _ => ?_) | refine good_keepM (x := x) (fun _ => ?_) | refine good_keepR (x := x) (fun _ => ?_) | refine good_keepT (x := x) (fun _ => ?_) | refine good_keepN (x := x) (fun _ => ?_) | refine good_keepF (x := x) (fun _ => ?_) | refine good_keepG (x := x) (fun _ => ?_) | clear_value x | skip); all_goals (rename' x => y))
    | with_reducible apply good_ite
    | with_reducible apply good_forAll
    | with_reducible apply State.incSat_good
    | with_reducible apply State.eventWith_good
    | with_reducible exact good_free (by with_reducible assumption) ..
    | split
    | apply good_ite

end Sys2Proof.Machine
end

