-- ==== Sys2Proof/Laws/Sound/NetRows.lean ====
section
/-! SUPPORT. Every operation of Machine/NetRows.lean keeps a sound state sound. -/

set_option linter.unusedTactic false
set_option linter.unreachableTactic false
set_option linter.unusedVariables false
set_option linter.tactic.unusedName false

namespace Sys2Proof.Machine

theorem State.rxDrop_good {Q : Plat → Cfg → List Instr → Prop} {s : State} (h : s.Good Q) (p : Nat) :
    (State.rxDrop p s).Good Q := by
  unfold State.rxDrop
  repeat' first
    | with_reducible assumption
    | with_reducible apply good_ite
    | with_reducible apply State.incSat_good
    | split
    | apply good_ite

theorem State.rxFlood_good {Q : Plat → Cfg → List Instr → Prop} {s : State} (h : s.Good Q) (p : Nat) :
    (State.rxFlood p s).Good Q := by
  unfold State.rxFlood
  repeat' first
    | with_reducible assumption
    | (extract_lets +onlyGivenNames x; (first | (refine good_step (Q := Q) (x := x) ?_ ?_; (on_goal 1 => unfold x); on_goal 2 => (intro hx; try clear_value x)) | (refine good_step_fst (Q := Q) (x := x) ?_ ?_; (on_goal 1 => unfold x); on_goal 2 => (intro hx; try clear_value x)) | refine good_keepC (x := x) (fun _ => ?_) | refine good_keepS (x := x) (fun _ => ?_) | refine good_keepM (x := x) (fun _ => ?_) | refine good_keepR (x := x) (fun _ => ?_) | refine good_keepT (x := x) (fun _ => ?_) | refine good_keepN (x := x) (fun _ => ?_) | refine good_keepF (x := x) (fun _ => ?_) | refine good_keepG (x := x) (fun _ => ?_) | clear_value x | skip); all_goals (rename' x => y))
    | with_reducible apply good_ite
    | with_reducible apply State.rxDrop_good
    | with_reducible apply State.netMod_good
    | with_reducible apply State.note_good
    | with_reducible exact good_free (by with_reducible assumption) ..
    | split
    | apply good_ite

theorem State.monDatagram_good {Q : Plat → Cfg → List Instr → Prop} {s : State} (h : s.Good Q) (p : Nat) (b : List Nat) :
    (State.monDatagram p b s).Good Q := by
  unfold State.monDatagram
  repeat' first
    | with_reducible assumption
    | (intro x t ht; beta_reduce)
    | (extract_lets +onlyGivenNames x; (first | (refine good_step (Q := Q) (x := x) ?_ ?_; (on_goal 1 => unfold x); on_goal 2 => (intro hx; try clear_value x)) | (refine good_step_fst (Q := Q) (x := x) ?_ ?_; (on_goal 1 => unfold x); on_goal 2 => (intro hx; try clear_value x)) | refine good_keepC (x := x) (fun _ => ?_) | refine good_keepS (x := x) (fun _ => ?_) | refine good_keepM (x := x) (fun _ => ?_) | refine good_keepR (x := x) (fun _ => ?_) | refine good_keepT (x := x) (fun _ => ?_) | refine good_keepN (x := x) (fun _ => ?_) | refine good_keepF (x := x) (fun _ => ?_) | refine good_keepG (x := x) (fun _ => ?_) | clear_value x | skip); all_goals (rename' x => y))
    | with_reducible apply good_ite
    | with_reducible apply State.rxDrop_good
    | with_reducible apply State.monFrame_good
    | with_reducible apply State.monServe_good
    | with_reducible apply State.clientFrame_good
    | with_reducible apply State.monRenew_good
    | with_reducible apply State.monAck_good
    | with_reducible apply State.monRelease_good
    | with_reducible exact good_free (by with_reducible assumption) ..
    | split
    | apply good_ite

theorem State.dispatchFrame_good {Q : Plat → Cfg → List Instr → Prop} {s : State} (h : s.Good Q) (p : Nat) (f : EthIn) (hQ : Undoable Q := by first | assumption | exact undoable_const) :
    (State.dispatchFrame p f s).Good Q := by
  unfold State.dispatchFrame
  repeat' first
    | with_reducible assumption
    | (extract_lets +onlyGivenNames x; (first | (refine good_step (Q := Q) (x := x) ?_ ?_; (on_goal 1 => unfold x); on_goal 2 => (intro hx; try clear_value x)) | (refine good_step_fst (Q := Q) (x := x) ?_ ?_; (on_goal 1 => unfold x); on_goal 2 => (intro hx; try clear_value x)) | refine good_keepC (x := x) (fun _ => ?_) | refine good_keepS (x := x) (fun _ => ?_) | refine good_keepM (x := x) (fun _ => ?_) | refine good_keepR (x := x) (fun _ => ?_) | refine good_keepT (x := x) (fun _ => ?_) | refine good_keepN (x := x) (fun _ => ?_) | refine good_keepF (x := x) (fun _ => ?_) | refine good_keepG (x := x) (fun _ => ?_) | clear_value x | skip); all_goals (rename' x => y))
    | with_reducible apply good_ite
    | with_reducible apply good_ite_fst
    | with_reducible apply State.netPut_good
    | with_reducible apply State.eslCheck_good
    | with_reducible apply State.roaPdu_good
    | with_reducible apply State.monDatagram_good
    | with_reducible apply State.rxDrop_good
    | with_reducible exact good_free (by with_reducible assumption) ..
    | split
    | apply good_ite

theorem State.ethReceived_good {Q : Plat → Cfg → List Instr → Prop} {s : State} (h : s.Good Q) (p : Nat) (f : EthIn) (hQ : Undoable Q := by first | assumption | exact undoable_const) :
    (State.ethReceived p f s).Good Q := by
  unfold State.ethReceived
  repeat' first
    | with_reducible assumption
    | with_reducible apply good_ite
    | with_reducible apply State.rxDrop_good
    | with_reducible apply State.rxFlood_good
    | with_reducible apply State.dispatchFrame_good
    | split
    | apply good_ite

end Sys2Proof.Machine
end

