-- ==== Sys2Proof/Laws/Sound/Rotors.lean ====
section
/-! SUPPORT. Every operation of Machine/Rotors.lean keeps a sound state sound. -/

set_option linter.unusedTactic false
set_option linter.unreachableTactic false
set_option linter.unusedVariables false
set_option linter.tactic.unusedName false

namespace Sys2Proof.Machine

theorem State.stepFollow_good {Q : Plat → Cfg → List Instr → Prop} {s : State} (h : s.Good Q) (o : Nat) (predicted : Nat → Rat) (hQ : Undoable Q := by first | assumption | exact undoable_const) :
    (State.stepFollow o predicted s).Good Q := by
  unfold State.stepFollow
  repeat' first
    | with_reducible assumption
    | with_reducible apply good_ite
    | with_reducible apply State.rmsStep_good
    | with_reducible apply State.sumTests_good
    | with_reducible apply State.limpOver_good
    | with_reducible apply State.gaTravelCheck_good
    | split
    | apply good_ite

theorem State.rotorStep_good {Q : Plat → Cfg → List Instr → Prop} {s : State} (h : s.Good Q) (o age : Nat) (hQ : Undoable Q := by first | assumption | exact undoable_const) :
    (State.rotorStep o age s).Good Q := by
  unfold State.rotorStep
  repeat' first
    | with_reducible assumption
    | (extract_lets +onlyGivenNames x; (first | (refine good_step (Q := Q) (x := x) ?_ ?_; (on_goal 1 => unfold x); on_goal 2 => (intro hx; try clear_value x)) | (refine good_step_fst (Q := Q) (x := x) ?_ ?_; (on_goal 1 => unfold x); on_goal 2 => (intro hx; try clear_value x)) | refine good_keepC (x := x) (fun _ => ?_) | refine good_keepS (x := x) (fun _ => ?_) | refine good_keepM (x := x) (fun _ => ?_) | refine good_keepR (x := x) (fun _ => ?_) | refine good_keepT (x := x) (fun _ => ?_) | refine good_keepN (x := x) (fun _ => ?_) | refine good_keepF (x := x) (fun _ => ?_) | refine good_keepG (x := x) (fun _ => ?_) | clear_value x | skip); all_goals (rename' x => y))
    | with_reducible apply State.obsWatch_good
    | with_reducible apply State.obsStep_good
    | with_reducible apply State.stepFollow_good

theorem State.commStalled_good {Q : Plat → Cfg → List Instr → Prop} {s : State} (h : s.Good Q) (o : Nat) (hQ : Undoable Q := by first | assumption | exact undoable_const) :
    (State.commStalled o s).Good Q := by
  unfold State.commStalled
  repeat' first
    | with_reducible assumption
    | (extract_lets +onlyGivenNames x; (first | (refine good_step (Q := Q) (x := x) ?_ ?_; (on_goal 1 => unfold x); on_goal 2 => (intro hx; try clear_value x)) | (refine good_step_fst (Q := Q) (x := x) ?_ ?_; (on_goal 1 => unfold x); on_goal 2 => (intro hx; try clear_value x)) | refine good_keepC (x := x) (fun _ => ?_) | refine good_keepS (x := x) (fun _ => ?_) | refine good_keepM (x := x) (fun _ => ?_) | refine good_keepR (x := x) (fun _ => ?_) | refine good_keepT (x := x) (fun _ => ?_) | refine good_keepN (x := x) (fun _ => ?_) | refine good_keepF (x := x) (fun _ => ?_) | refine good_keepG (x := x) (fun _ => ?_) | clear_value x | skip); all_goals (rename' x => y))
    | with_reducible apply good_ite
    | with_reducible apply State.stallSignature_good
    | with_reducible apply State.gaSignature_good
    | with_reducible apply State.pumpLocked_good
    | split
    | apply good_ite

end Sys2Proof.Machine
end

