-- ==== Sys2Proof/Laws/State.lean ====
section
/-! SUPPORT. What each plain update leaves alone, field by field, true by computation, and what reading an object gives after one; proofs
read a field through these and never unfold a record update. -/

namespace Sys2Proof.Machine

variable (s : State)

/-! ## Reading objects after an update -/

theorem State.o_put (k : Nat) (v : Int) (j : Nat) : (s.put k v).o j = if j = k then v else s.o j := Store.get_set _ _ _ _
@[simp] theorem State.o_put_same (k : Nat) (v : Int) : (s.put k v).o k = v := by simp [State.o_put]
theorem State.o_put_other {k j : Nat} (v : Int) (h : j ≠ k) : (s.put k v).o j = s.o j := by simp [State.o_put, h]
theorem State.oN_eq (k : Nat) : s.oN k = (s.o k).toNat := rfl
theorem State.oF_eq (k : Nat) : s.oF k = F32.toRat (s.o k).toNat := rfl
theorem State.oN_put (k : Nat) (v : Int) (j : Nat) : (s.put k v).oN j = if j = k then v.toNat else s.oN j := by
  simp only [State.oN_eq, State.o_put]; split <;> rfl
@[simp] theorem State.oN_put_same (k : Nat) (v : Int) : (s.put k v).oN k = v.toNat := by simp [State.oN_put]
theorem State.oN_put_other {k j : Nat} (v : Int) (h : j ≠ k) : (s.put k v).oN j = s.oN j := by simp [State.oN_put, h]
theorem State.oF_put_other {k j : Nat} (v : Int) (h : j ≠ k) : (s.put k v).oF j = s.oF j := by simp [State.oF_eq, State.o_put, h]
theorem State.mode_put_other {k : Nat} (v : Int) (h : Obj.modeState ≠ k) : (s.put k v).mode = s.mode := State.oN_put_other s v h
theorem State.up_put_other {k : Nat} (v : Int) (h : Obj.modeState ≠ k) : (s.put k v).up = s.up := by
  simp only [State.up, State.mode_put_other s v h]; rfl
@[simp] theorem State.c_put (k : Nat) (v : Int) (j : Nat) : (s.put k v).c j = s.c j := rfl
@[simp] theorem State.cN_put (k : Nat) (v : Int) (j : Nat) : (s.put k v).cN j = s.cN j := rfl
@[simp] theorem State.cF_put (k : Nat) (v : Int) (j : Nat) : (s.put k v).cF j = s.cF j := rfl
@[simp] theorem State.putF_eq (k : Nat) (q : Rat) : State.putF k q s = s.put k (F32.ofRat q : Nat) := rfl
theorem State.inc32_eq (k : Nat) : State.inc32 k s = s.put k ((s.oN k + 1) % 4294967296 : Nat) := rfl
theorem State.incSat_eq (k : Nat) : State.incSat k s = s.put k (satInc32 (s.o k)) := rfl
theorem State.put_put_same (k : Nat) (v w : Int) (j : Nat) : ((s.put k v).put k w).o j = (s.put k w).o j := by
  simp only [State.o_put]; split <;> rfl

/-! ## put changes live alone -/

@[simp] theorem State.put_active (k : Nat) (v : Int) : (State.put k v s).active = s.active := rfl
@[simp] theorem State.put_shadow (k : Nat) (v : Int) : (State.put k v s).shadow = s.shadow := rfl
@[simp] theorem State.put_mem (k : Nat) (v : Int) : (State.put k v s).mem = s.mem := rfl
@[simp] theorem State.put_pending (k : Nat) (v : Int) : (State.put k v s).pending = s.pending := rfl
@[simp] theorem State.put_freeIx (k : Nat) (v : Int) : (State.put k v s).freeIx = s.freeIx := rfl
@[simp] theorem State.put_tick (k : Nat) (v : Int) : (State.put k v s).tick = s.tick := rfl
@[simp] theorem State.put_devSub (k : Nat) (v : Int) : (State.put k v s).devSub = s.devSub := rfl
@[simp] theorem State.put_plat (k : Nat) (v : Int) : (State.put k v s).plat = s.plat := rfl
@[simp] theorem State.put_isl (k : Nat) (v : Int) : (State.put k v s).isl = s.isl := rfl
@[simp] theorem State.put_fc (k : Nat) (v : Int) : (State.put k v s).fc = s.fc := rfl
@[simp] theorem State.put_md (k : Nat) (v : Int) : (State.put k v s).md = s.md := rfl
@[simp] theorem State.put_sw (k : Nat) (v : Int) : (State.put k v s).sw = s.sw := rfl
@[simp] theorem State.put_nv (k : Nat) (v : Int) : (State.put k v s).nv = s.nv := rfl
@[simp] theorem State.put_hbDrive (k : Nat) (v : Int) : (State.put k v s).hbDrive = s.hbDrive := rfl
@[simp] theorem State.put_lvDrive (k : Nat) (v : Int) : (State.put k v s).lvDrive = s.lvDrive := rfl
@[simp] theorem State.put_gsDrive (k : Nat) (v : Int) : (State.put k v s).gsDrive = s.gsDrive := rfl
@[simp] theorem State.put_tb (k : Nat) (v : Int) : (State.put k v s).tb = s.tb := rfl
@[simp] theorem State.put_grp (k : Nat) (v : Int) : (State.put k v s).grp = s.grp := rfl
@[simp] theorem State.put_chan (k : Nat) (v : Int) : (State.put k v s).chan = s.chan := rfl
@[simp] theorem State.put_slots (k : Nat) (v : Int) : (State.put k v s).slots = s.slots := rfl
@[simp] theorem State.put_eng (k : Nat) (v : Int) : (State.put k v s).eng = s.eng := rfl
@[simp] theorem State.put_ports (k : Nat) (v : Int) : (State.put k v s).ports = s.ports := rfl
@[simp] theorem State.put_sdRaised (k : Nat) (v : Int) : (State.put k v s).sdRaised = s.sdRaised := rfl
@[simp] theorem State.put_obs (k : Nat) (v : Int) : (State.put k v s).obs = s.obs := rfl
@[simp] theorem State.put_sdTripped (k : Nat) (v : Int) : (State.put k v s).sdTripped = s.sdTripped := rfl
@[simp] theorem State.put_leave (k : Nat) (v : Int) : (State.put k v s).leave = s.leave := rfl
@[simp] theorem State.put_gsx (k : Nat) (v : Int) : (State.put k v s).gsx = s.gsx := rfl
@[simp] theorem State.put_sup (k : Nat) (v : Int) : (State.put k v s).sup = s.sup := rfl
@[simp] theorem State.put_snx (k : Nat) (v : Int) : (State.put k v s).snx = s.snx := rfl
@[simp] theorem State.put_trac (k : Nat) (v : Int) : (State.put k v s).trac = s.trac := rfl
@[simp] theorem State.put_linkPrev (k : Nat) (v : Int) : (State.put k v s).linkPrev = s.linkPrev := rfl
@[simp] theorem State.put_planAt (k : Nat) (v : Int) : (State.put k v s).planAt = s.planAt := rfl
@[simp] theorem State.put_passTick (k : Nat) (v : Int) : (State.put k v s).passTick = s.passTick := rfl
@[simp] theorem State.put_six (k : Nat) (v : Int) : (State.put k v s).six = s.six := rfl
@[simp] theorem State.put_soHigh (k : Nat) (v : Int) : (State.put k v s).soHigh = s.soHigh := rfl
@[simp] theorem State.put_cp (k : Nat) (v : Int) : (State.put k v s).cp = s.cp := rfl
@[simp] theorem State.put_wc (k : Nat) (v : Int) : (State.put k v s).wc = s.wc := rfl
@[simp] theorem State.put_lv (k : Nat) (v : Int) : (State.put k v s).lv = s.lv := rfl
@[simp] theorem State.put_lamps (k : Nat) (v : Int) : (State.put k v s).lamps = s.lamps := rfl
@[simp] theorem State.put_ga (k : Nat) (v : Int) : (State.put k v s).ga = s.ga := rfl
@[simp] theorem State.put_lk (k : Nat) (v : Int) : (State.put k v s).lk = s.lk := rfl
@[simp] theorem State.put_post (k : Nat) (v : Int) : (State.put k v s).post = s.post := rfl
@[simp] theorem State.put_td (k : Nat) (v : Int) : (State.put k v s).td = s.td := rfl
@[simp] theorem State.put_st (k : Nat) (v : Int) : (State.put k v s).st = s.st := rfl
@[simp] theorem State.put_cc (k : Nat) (v : Int) : (State.put k v s).cc = s.cc := rfl
@[simp] theorem State.put_mon (k : Nat) (v : Int) : (State.put k v s).mon = s.mon := rfl
@[simp] theorem State.put_mtr (k : Nat) (v : Int) : (State.put k v s).mtr = s.mtr := rfl
@[simp] theorem State.put_net (k : Nat) (v : Int) : (State.put k v s).net = s.net := rfl
@[simp] theorem State.put_can (k : Nat) (v : Int) : (State.put k v s).can = s.can := rfl
@[simp] theorem State.put_esl (k : Nat) (v : Int) : (State.put k v s).esl = s.esl := rfl
@[simp] theorem State.put_image (k : Nat) (v : Int) : (State.put k v s).image = s.image := rfl
@[simp] theorem State.put_takeup (k : Nat) (v : Int) : (State.put k v s).takeup = s.takeup := rfl
@[simp] theorem State.put_roa (k : Nat) (v : Int) : (State.put k v s).roa = s.roa := rfl
@[simp] theorem State.put_memx (k : Nat) (v : Int) : (State.put k v s).memx = s.memx := rfl
@[simp] theorem State.put_hm (k : Nat) (v : Int) : (State.put k v s).hm = s.hm := rfl

/-! ## mPut changes mem alone -/

@[simp] theorem State.mPut_live (a n v : Nat) : (State.mPut a n v s).live = s.live := rfl
@[simp] theorem State.mPut_active (a n v : Nat) : (State.mPut a n v s).active = s.active := rfl
@[simp] theorem State.mPut_shadow (a n v : Nat) : (State.mPut a n v s).shadow = s.shadow := rfl
@[simp] theorem State.mPut_pending (a n v : Nat) : (State.mPut a n v s).pending = s.pending := rfl
@[simp] theorem State.mPut_freeIx (a n v : Nat) : (State.mPut a n v s).freeIx = s.freeIx := rfl
@[simp] theorem State.mPut_tick (a n v : Nat) : (State.mPut a n v s).tick = s.tick := rfl
@[simp] theorem State.mPut_devSub (a n v : Nat) : (State.mPut a n v s).devSub = s.devSub := rfl
@[simp] theorem State.mPut_plat (a n v : Nat) : (State.mPut a n v s).plat = s.plat := rfl
@[simp] theorem State.mPut_isl (a n v : Nat) : (State.mPut a n v s).isl = s.isl := rfl
@[simp] theorem State.mPut_fc (a n v : Nat) : (State.mPut a n v s).fc = s.fc := rfl
@[simp] theorem State.mPut_md (a n v : Nat) : (State.mPut a n v s).md = s.md := rfl
@[simp] theorem State.mPut_sw (a n v : Nat) : (State.mPut a n v s).sw = s.sw := rfl
@[simp] theorem State.mPut_nv (a n v : Nat) : (State.mPut a n v s).nv = s.nv := rfl
@[simp] theorem State.mPut_hbDrive (a n v : Nat) : (State.mPut a n v s).hbDrive = s.hbDrive := rfl
@[simp] theorem State.mPut_lvDrive (a n v : Nat) : (State.mPut a n v s).lvDrive = s.lvDrive := rfl
@[simp] theorem State.mPut_gsDrive (a n v : Nat) : (State.mPut a n v s).gsDrive = s.gsDrive := rfl
@[simp] theorem State.mPut_tb (a n v : Nat) : (State.mPut a n v s).tb = s.tb := rfl
@[simp] theorem State.mPut_grp (a n v : Nat) : (State.mPut a n v s).grp = s.grp := rfl
@[simp] theorem State.mPut_chan (a n v : Nat) : (State.mPut a n v s).chan = s.chan := rfl
@[simp] theorem State.mPut_slots (a n v : Nat) : (State.mPut a n v s).slots = s.slots := rfl
@[simp] theorem State.mPut_eng (a n v : Nat) : (State.mPut a n v s).eng = s.eng := rfl
@[simp] theorem State.mPut_ports (a n v : Nat) : (State.mPut a n v s).ports = s.ports := rfl
@[simp] theorem State.mPut_sdRaised (a n v : Nat) : (State.mPut a n v s).sdRaised = s.sdRaised := rfl
@[simp] theorem State.mPut_obs (a n v : Nat) : (State.mPut a n v s).obs = s.obs := rfl
@[simp] theorem State.mPut_sdTripped (a n v : Nat) : (State.mPut a n v s).sdTripped = s.sdTripped := rfl
@[simp] theorem State.mPut_leave (a n v : Nat) : (State.mPut a n v s).leave = s.leave := rfl
@[simp] theorem State.mPut_gsx (a n v : Nat) : (State.mPut a n v s).gsx = s.gsx := rfl
@[simp] theorem State.mPut_sup (a n v : Nat) : (State.mPut a n v s).sup = s.sup := rfl
@[simp] theorem State.mPut_snx (a n v : Nat) : (State.mPut a n v s).snx = s.snx := rfl
@[simp] theorem State.mPut_trac (a n v : Nat) : (State.mPut a n v s).trac = s.trac := rfl
@[simp] theorem State.mPut_linkPrev (a n v : Nat) : (State.mPut a n v s).linkPrev = s.linkPrev := rfl
@[simp] theorem State.mPut_planAt (a n v : Nat) : (State.mPut a n v s).planAt = s.planAt := rfl
@[simp] theorem State.mPut_passTick (a n v : Nat) : (State.mPut a n v s).passTick = s.passTick := rfl
@[simp] theorem State.mPut_six (a n v : Nat) : (State.mPut a n v s).six = s.six := rfl
@[simp] theorem State.mPut_soHigh (a n v : Nat) : (State.mPut a n v s).soHigh = s.soHigh := rfl
@[simp] theorem State.mPut_cp (a n v : Nat) : (State.mPut a n v s).cp = s.cp := rfl
@[simp] theorem State.mPut_wc (a n v : Nat) : (State.mPut a n v s).wc = s.wc := rfl
@[simp] theorem State.mPut_lv (a n v : Nat) : (State.mPut a n v s).lv = s.lv := rfl
@[simp] theorem State.mPut_lamps (a n v : Nat) : (State.mPut a n v s).lamps = s.lamps := rfl
@[simp] theorem State.mPut_ga (a n v : Nat) : (State.mPut a n v s).ga = s.ga := rfl
@[simp] theorem State.mPut_lk (a n v : Nat) : (State.mPut a n v s).lk = s.lk := rfl
@[simp] theorem State.mPut_post (a n v : Nat) : (State.mPut a n v s).post = s.post := rfl
@[simp] theorem State.mPut_td (a n v : Nat) : (State.mPut a n v s).td = s.td := rfl
@[simp] theorem State.mPut_st (a n v : Nat) : (State.mPut a n v s).st = s.st := rfl
@[simp] theorem State.mPut_cc (a n v : Nat) : (State.mPut a n v s).cc = s.cc := rfl
@[simp] theorem State.mPut_mon (a n v : Nat) : (State.mPut a n v s).mon = s.mon := rfl
@[simp] theorem State.mPut_mtr (a n v : Nat) : (State.mPut a n v s).mtr = s.mtr := rfl
@[simp] theorem State.mPut_net (a n v : Nat) : (State.mPut a n v s).net = s.net := rfl
@[simp] theorem State.mPut_can (a n v : Nat) : (State.mPut a n v s).can = s.can := rfl
@[simp] theorem State.mPut_esl (a n v : Nat) : (State.mPut a n v s).esl = s.esl := rfl
@[simp] theorem State.mPut_image (a n v : Nat) : (State.mPut a n v s).image = s.image := rfl
@[simp] theorem State.mPut_takeup (a n v : Nat) : (State.mPut a n v s).takeup = s.takeup := rfl
@[simp] theorem State.mPut_roa (a n v : Nat) : (State.mPut a n v s).roa = s.roa := rfl
@[simp] theorem State.mPut_memx (a n v : Nat) : (State.mPut a n v s).memx = s.memx := rfl
@[simp] theorem State.mPut_hm (a n v : Nat) : (State.mPut a n v s).hm = s.hm := rfl
@[simp] theorem State.mPut_ro (a n v : Nat) (j : Nat) : (State.mPut a n v s).o j = s.o j := rfl
@[simp] theorem State.mPut_roN (a n v : Nat) (j : Nat) : (State.mPut a n v s).oN j = s.oN j := rfl
@[simp] theorem State.mPut_roF (a n v : Nat) (j : Nat) : (State.mPut a n v s).oF j = s.oF j := rfl
@[simp] theorem State.mPut_rc (a n v : Nat) (j : Nat) : (State.mPut a n v s).c j = s.c j := rfl
@[simp] theorem State.mPut_rcN (a n v : Nat) (j : Nat) : (State.mPut a n v s).cN j = s.cN j := rfl
@[simp] theorem State.mPut_rcF (a n v : Nat) (j : Nat) : (State.mPut a n v s).cF j = s.cF j := rfl
@[simp] theorem State.mPut_mode (a n v : Nat) : (State.mPut a n v s).mode = s.mode := rfl
@[simp] theorem State.mPut_up (a n v : Nat) : (State.mPut a n v s).up = s.up := rfl

/-! ## fresh changes freeIx alone -/

@[simp] theorem State.fresh_live : (s.fresh).live = s.live := rfl
@[simp] theorem State.fresh_active : (s.fresh).active = s.active := rfl
@[simp] theorem State.fresh_shadow : (s.fresh).shadow = s.shadow := rfl
@[simp] theorem State.fresh_mem : (s.fresh).mem = s.mem := rfl
@[simp] theorem State.fresh_pending : (s.fresh).pending = s.pending := rfl
@[simp] theorem State.fresh_tick : (s.fresh).tick = s.tick := rfl
@[simp] theorem State.fresh_devSub : (s.fresh).devSub = s.devSub := rfl
@[simp] theorem State.fresh_plat : (s.fresh).plat = s.plat := rfl
@[simp] theorem State.fresh_isl : (s.fresh).isl = s.isl := rfl
@[simp] theorem State.fresh_fc : (s.fresh).fc = s.fc := rfl
@[simp] theorem State.fresh_md : (s.fresh).md = s.md := rfl
@[simp] theorem State.fresh_sw : (s.fresh).sw = s.sw := rfl
@[simp] theorem State.fresh_nv : (s.fresh).nv = s.nv := rfl
@[simp] theorem State.fresh_hbDrive : (s.fresh).hbDrive = s.hbDrive := rfl
@[simp] theorem State.fresh_lvDrive : (s.fresh).lvDrive = s.lvDrive := rfl
@[simp] theorem State.fresh_gsDrive : (s.fresh).gsDrive = s.gsDrive := rfl
@[simp] theorem State.fresh_tb : (s.fresh).tb = s.tb := rfl
@[simp] theorem State.fresh_grp : (s.fresh).grp = s.grp := rfl
@[simp] theorem State.fresh_chan : (s.fresh).chan = s.chan := rfl
@[simp] theorem State.fresh_slots : (s.fresh).slots = s.slots := rfl
@[simp] theorem State.fresh_eng : (s.fresh).eng = s.eng := rfl
@[simp] theorem State.fresh_ports : (s.fresh).ports = s.ports := rfl
@[simp] theorem State.fresh_sdRaised : (s.fresh).sdRaised = s.sdRaised := rfl
@[simp] theorem State.fresh_obs : (s.fresh).obs = s.obs := rfl
@[simp] theorem State.fresh_sdTripped : (s.fresh).sdTripped = s.sdTripped := rfl
@[simp] theorem State.fresh_leave : (s.fresh).leave = s.leave := rfl
@[simp] theorem State.fresh_gsx : (s.fresh).gsx = s.gsx := rfl
@[simp] theorem State.fresh_sup : (s.fresh).sup = s.sup := rfl
@[simp] theorem State.fresh_snx : (s.fresh).snx = s.snx := rfl
@[simp] theorem State.fresh_trac : (s.fresh).trac = s.trac := rfl
@[simp] theorem State.fresh_linkPrev : (s.fresh).linkPrev = s.linkPrev := rfl
@[simp] theorem State.fresh_planAt : (s.fresh).planAt = s.planAt := rfl
@[simp] theorem State.fresh_passTick : (s.fresh).passTick = s.passTick := rfl
@[simp] theorem State.fresh_six : (s.fresh).six = s.six := rfl
@[simp] theorem State.fresh_soHigh : (s.fresh).soHigh = s.soHigh := rfl
@[simp] theorem State.fresh_cp : (s.fresh).cp = s.cp := rfl
@[simp] theorem State.fresh_wc : (s.fresh).wc = s.wc := rfl
@[simp] theorem State.fresh_lv : (s.fresh).lv = s.lv := rfl
@[simp] theorem State.fresh_lamps : (s.fresh).lamps = s.lamps := rfl
@[simp] theorem State.fresh_ga : (s.fresh).ga = s.ga := rfl
@[simp] theorem State.fresh_lk : (s.fresh).lk = s.lk := rfl
@[simp] theorem State.fresh_post : (s.fresh).post = s.post := rfl
@[simp] theorem State.fresh_td : (s.fresh).td = s.td := rfl
@[simp] theorem State.fresh_st : (s.fresh).st = s.st := rfl
@[simp] theorem State.fresh_cc : (s.fresh).cc = s.cc := rfl
@[simp] theorem State.fresh_mon : (s.fresh).mon = s.mon := rfl
@[simp] theorem State.fresh_mtr : (s.fresh).mtr = s.mtr := rfl
@[simp] theorem State.fresh_net : (s.fresh).net = s.net := rfl
@[simp] theorem State.fresh_can : (s.fresh).can = s.can := rfl
@[simp] theorem State.fresh_esl : (s.fresh).esl = s.esl := rfl
@[simp] theorem State.fresh_image : (s.fresh).image = s.image := rfl
@[simp] theorem State.fresh_takeup : (s.fresh).takeup = s.takeup := rfl
@[simp] theorem State.fresh_roa : (s.fresh).roa = s.roa := rfl
@[simp] theorem State.fresh_memx : (s.fresh).memx = s.memx := rfl
@[simp] theorem State.fresh_hm : (s.fresh).hm = s.hm := rfl
@[simp] theorem State.fresh_ro (j : Nat) : (s.fresh).o j = s.o j := rfl
@[simp] theorem State.fresh_roN (j : Nat) : (s.fresh).oN j = s.oN j := rfl
@[simp] theorem State.fresh_roF (j : Nat) : (s.fresh).oF j = s.oF j := rfl
@[simp] theorem State.fresh_rc (j : Nat) : (s.fresh).c j = s.c j := rfl
@[simp] theorem State.fresh_rcN (j : Nat) : (s.fresh).cN j = s.cN j := rfl
@[simp] theorem State.fresh_rcF (j : Nat) : (s.fresh).cF j = s.cF j := rfl
@[simp] theorem State.fresh_mode : (s.fresh).mode = s.mode := rfl
@[simp] theorem State.fresh_up : (s.fresh).up = s.up := rfl

/-! ## chMod changes chan alone -/

@[simp] theorem State.chMod_live (i : Nat) (f : ChanX → ChanX) : (State.chMod i f s).live = s.live := rfl
@[simp] theorem State.chMod_active (i : Nat) (f : ChanX → ChanX) : (State.chMod i f s).active = s.active := rfl
@[simp] theorem State.chMod_shadow (i : Nat) (f : ChanX → ChanX) : (State.chMod i f s).shadow = s.shadow := rfl
@[simp] theorem State.chMod_mem (i : Nat) (f : ChanX → ChanX) : (State.chMod i f s).mem = s.mem := rfl
@[simp] theorem State.chMod_pending (i : Nat) (f : ChanX → ChanX) : (State.chMod i f s).pending = s.pending := rfl
@[simp] theorem State.chMod_freeIx (i : Nat) (f : ChanX → ChanX) : (State.chMod i f s).freeIx = s.freeIx := rfl
@[simp] theorem State.chMod_tick (i : Nat) (f : ChanX → ChanX) : (State.chMod i f s).tick = s.tick := rfl
@[simp] theorem State.chMod_devSub (i : Nat) (f : ChanX → ChanX) : (State.chMod i f s).devSub = s.devSub := rfl
@[simp] theorem State.chMod_plat (i : Nat) (f : ChanX → ChanX) : (State.chMod i f s).plat = s.plat := rfl
@[simp] theorem State.chMod_isl (i : Nat) (f : ChanX → ChanX) : (State.chMod i f s).isl = s.isl := rfl
@[simp] theorem State.chMod_fc (i : Nat) (f : ChanX → ChanX) : (State.chMod i f s).fc = s.fc := rfl
@[simp] theorem State.chMod_md (i : Nat) (f : ChanX → ChanX) : (State.chMod i f s).md = s.md := rfl
@[simp] theorem State.chMod_sw (i : Nat) (f : ChanX → ChanX) : (State.chMod i f s).sw = s.sw := rfl
@[simp] theorem State.chMod_nv (i : Nat) (f : ChanX → ChanX) : (State.chMod i f s).nv = s.nv := rfl
@[simp] theorem State.chMod_hbDrive (i : Nat) (f : ChanX → ChanX) : (State.chMod i f s).hbDrive = s.hbDrive := rfl
@[simp] theorem State.chMod_lvDrive (i : Nat) (f : ChanX → ChanX) : (State.chMod i f s).lvDrive = s.lvDrive := rfl
@[simp] theorem State.chMod_gsDrive (i : Nat) (f : ChanX → ChanX) : (State.chMod i f s).gsDrive = s.gsDrive := rfl
@[simp] theorem State.chMod_tb (i : Nat) (f : ChanX → ChanX) : (State.chMod i f s).tb = s.tb := rfl
@[simp] theorem State.chMod_grp (i : Nat) (f : ChanX → ChanX) : (State.chMod i f s).grp = s.grp := rfl
@[simp] theorem State.chMod_slots (i : Nat) (f : ChanX → ChanX) : (State.chMod i f s).slots = s.slots := rfl
@[simp] theorem State.chMod_eng (i : Nat) (f : ChanX → ChanX) : (State.chMod i f s).eng = s.eng := rfl
@[simp] theorem State.chMod_ports (i : Nat) (f : ChanX → ChanX) : (State.chMod i f s).ports = s.ports := rfl
@[simp] theorem State.chMod_sdRaised (i : Nat) (f : ChanX → ChanX) : (State.chMod i f s).sdRaised = s.sdRaised := rfl
@[simp] theorem State.chMod_obs (i : Nat) (f : ChanX → ChanX) : (State.chMod i f s).obs = s.obs := rfl
@[simp] theorem State.chMod_sdTripped (i : Nat) (f : ChanX → ChanX) : (State.chMod i f s).sdTripped = s.sdTripped := rfl
@[simp] theorem State.chMod_leave (i : Nat) (f : ChanX → ChanX) : (State.chMod i f s).leave = s.leave := rfl
@[simp] theorem State.chMod_gsx (i : Nat) (f : ChanX → ChanX) : (State.chMod i f s).gsx = s.gsx := rfl
@[simp] theorem State.chMod_sup (i : Nat) (f : ChanX → ChanX) : (State.chMod i f s).sup = s.sup := rfl
@[simp] theorem State.chMod_snx (i : Nat) (f : ChanX → ChanX) : (State.chMod i f s).snx = s.snx := rfl
@[simp] theorem State.chMod_trac (i : Nat) (f : ChanX → ChanX) : (State.chMod i f s).trac = s.trac := rfl
@[simp] theorem State.chMod_linkPrev (i : Nat) (f : ChanX → ChanX) : (State.chMod i f s).linkPrev = s.linkPrev := rfl
@[simp] theorem State.chMod_planAt (i : Nat) (f : ChanX → ChanX) : (State.chMod i f s).planAt = s.planAt := rfl
@[simp] theorem State.chMod_passTick (i : Nat) (f : ChanX → ChanX) : (State.chMod i f s).passTick = s.passTick := rfl
@[simp] theorem State.chMod_six (i : Nat) (f : ChanX → ChanX) : (State.chMod i f s).six = s.six := rfl
@[simp] theorem State.chMod_soHigh (i : Nat) (f : ChanX → ChanX) : (State.chMod i f s).soHigh = s.soHigh := rfl
@[simp] theorem State.chMod_cp (i : Nat) (f : ChanX → ChanX) : (State.chMod i f s).cp = s.cp := rfl
@[simp] theorem State.chMod_wc (i : Nat) (f : ChanX → ChanX) : (State.chMod i f s).wc = s.wc := rfl
@[simp] theorem State.chMod_lv (i : Nat) (f : ChanX → ChanX) : (State.chMod i f s).lv = s.lv := rfl
@[simp] theorem State.chMod_lamps (i : Nat) (f : ChanX → ChanX) : (State.chMod i f s).lamps = s.lamps := rfl
@[simp] theorem State.chMod_ga (i : Nat) (f : ChanX → ChanX) : (State.chMod i f s).ga = s.ga := rfl
@[simp] theorem State.chMod_lk (i : Nat) (f : ChanX → ChanX) : (State.chMod i f s).lk = s.lk := rfl
@[simp] theorem State.chMod_post (i : Nat) (f : ChanX → ChanX) : (State.chMod i f s).post = s.post := rfl
@[simp] theorem State.chMod_td (i : Nat) (f : ChanX → ChanX) : (State.chMod i f s).td = s.td := rfl
@[simp] theorem State.chMod_st (i : Nat) (f : ChanX → ChanX) : (State.chMod i f s).st = s.st := rfl
@[simp] theorem State.chMod_cc (i : Nat) (f : ChanX → ChanX) : (State.chMod i f s).cc = s.cc := rfl
@[simp] theorem State.chMod_mon (i : Nat) (f : ChanX → ChanX) : (State.chMod i f s).mon = s.mon := rfl
@[simp] theorem State.chMod_mtr (i : Nat) (f : ChanX → ChanX) : (State.chMod i f s).mtr = s.mtr := rfl
@[simp] theorem State.chMod_net (i : Nat) (f : ChanX → ChanX) : (State.chMod i f s).net = s.net := rfl
@[simp] theorem State.chMod_can (i : Nat) (f : ChanX → ChanX) : (State.chMod i f s).can = s.can := rfl
@[simp] theorem State.chMod_esl (i : Nat) (f : ChanX → ChanX) : (State.chMod i f s).esl = s.esl := rfl
@[simp] theorem State.chMod_image (i : Nat) (f : ChanX → ChanX) : (State.chMod i f s).image = s.image := rfl
@[simp] theorem State.chMod_takeup (i : Nat) (f : ChanX → ChanX) : (State.chMod i f s).takeup = s.takeup := rfl
@[simp] theorem State.chMod_roa (i : Nat) (f : ChanX → ChanX) : (State.chMod i f s).roa = s.roa := rfl
@[simp] theorem State.chMod_memx (i : Nat) (f : ChanX → ChanX) : (State.chMod i f s).memx = s.memx := rfl
@[simp] theorem State.chMod_hm (i : Nat) (f : ChanX → ChanX) : (State.chMod i f s).hm = s.hm := rfl
@[simp] theorem State.chMod_ro (i : Nat) (f : ChanX → ChanX) (j : Nat) : (State.chMod i f s).o j = s.o j := rfl
@[simp] theorem State.chMod_roN (i : Nat) (f : ChanX → ChanX) (j : Nat) : (State.chMod i f s).oN j = s.oN j := rfl
@[simp] theorem State.chMod_roF (i : Nat) (f : ChanX → ChanX) (j : Nat) : (State.chMod i f s).oF j = s.oF j := rfl
@[simp] theorem State.chMod_rc (i : Nat) (f : ChanX → ChanX) (j : Nat) : (State.chMod i f s).c j = s.c j := rfl
@[simp] theorem State.chMod_rcN (i : Nat) (f : ChanX → ChanX) (j : Nat) : (State.chMod i f s).cN j = s.cN j := rfl
@[simp] theorem State.chMod_rcF (i : Nat) (f : ChanX → ChanX) (j : Nat) : (State.chMod i f s).cF j = s.cF j := rfl
@[simp] theorem State.chMod_mode (i : Nat) (f : ChanX → ChanX) : (State.chMod i f s).mode = s.mode := rfl
@[simp] theorem State.chMod_up (i : Nat) (f : ChanX → ChanX) : (State.chMod i f s).up = s.up := rfl

/-! ## grpMod changes grp alone -/

@[simp] theorem State.grpMod_live (i : Nat) (f : GroupX → GroupX) : (State.grpMod i f s).live = s.live := rfl
@[simp] theorem State.grpMod_active (i : Nat) (f : GroupX → GroupX) : (State.grpMod i f s).active = s.active := rfl
@[simp] theorem State.grpMod_shadow (i : Nat) (f : GroupX → GroupX) : (State.grpMod i f s).shadow = s.shadow := rfl
@[simp] theorem State.grpMod_mem (i : Nat) (f : GroupX → GroupX) : (State.grpMod i f s).mem = s.mem := rfl
@[simp] theorem State.grpMod_pending (i : Nat) (f : GroupX → GroupX) : (State.grpMod i f s).pending = s.pending := rfl
@[simp] theorem State.grpMod_freeIx (i : Nat) (f : GroupX → GroupX) : (State.grpMod i f s).freeIx = s.freeIx := rfl
@[simp] theorem State.grpMod_tick (i : Nat) (f : GroupX → GroupX) : (State.grpMod i f s).tick = s.tick := rfl
@[simp] theorem State.grpMod_devSub (i : Nat) (f : GroupX → GroupX) : (State.grpMod i f s).devSub = s.devSub := rfl
@[simp] theorem State.grpMod_plat (i : Nat) (f : GroupX → GroupX) : (State.grpMod i f s).plat = s.plat := rfl
@[simp] theorem State.grpMod_isl (i : Nat) (f : GroupX → GroupX) : (State.grpMod i f s).isl = s.isl := rfl
@[simp] theorem State.grpMod_fc (i : Nat) (f : GroupX → GroupX) : (State.grpMod i f s).fc = s.fc := rfl
@[simp] theorem State.grpMod_md (i : Nat) (f : GroupX → GroupX) : (State.grpMod i f s).md = s.md := rfl
@[simp] theorem State.grpMod_sw (i : Nat) (f : GroupX → GroupX) : (State.grpMod i f s).sw = s.sw := rfl
@[simp] theorem State.grpMod_nv (i : Nat) (f : GroupX → GroupX) : (State.grpMod i f s).nv = s.nv := rfl
@[simp] theorem State.grpMod_hbDrive (i : Nat) (f : GroupX → GroupX) : (State.grpMod i f s).hbDrive = s.hbDrive := rfl
@[simp] theorem State.grpMod_lvDrive (i : Nat) (f : GroupX → GroupX) : (State.grpMod i f s).lvDrive = s.lvDrive := rfl
@[simp] theorem State.grpMod_gsDrive (i : Nat) (f : GroupX → GroupX) : (State.grpMod i f s).gsDrive = s.gsDrive := rfl
@[simp] theorem State.grpMod_tb (i : Nat) (f : GroupX → GroupX) : (State.grpMod i f s).tb = s.tb := rfl
@[simp] theorem State.grpMod_chan (i : Nat) (f : GroupX → GroupX) : (State.grpMod i f s).chan = s.chan := rfl
@[simp] theorem State.grpMod_slots (i : Nat) (f : GroupX → GroupX) : (State.grpMod i f s).slots = s.slots := rfl
@[simp] theorem State.grpMod_eng (i : Nat) (f : GroupX → GroupX) : (State.grpMod i f s).eng = s.eng := rfl
@[simp] theorem State.grpMod_ports (i : Nat) (f : GroupX → GroupX) : (State.grpMod i f s).ports = s.ports := rfl
@[simp] theorem State.grpMod_sdRaised (i : Nat) (f : GroupX → GroupX) : (State.grpMod i f s).sdRaised = s.sdRaised := rfl
@[simp] theorem State.grpMod_obs (i : Nat) (f : GroupX → GroupX) : (State.grpMod i f s).obs = s.obs := rfl
@[simp] theorem State.grpMod_sdTripped (i : Nat) (f : GroupX → GroupX) : (State.grpMod i f s).sdTripped = s.sdTripped := rfl
@[simp] theorem State.grpMod_leave (i : Nat) (f : GroupX → GroupX) : (State.grpMod i f s).leave = s.leave := rfl
@[simp] theorem State.grpMod_gsx (i : Nat) (f : GroupX → GroupX) : (State.grpMod i f s).gsx = s.gsx := rfl
@[simp] theorem State.grpMod_sup (i : Nat) (f : GroupX → GroupX) : (State.grpMod i f s).sup = s.sup := rfl
@[simp] theorem State.grpMod_snx (i : Nat) (f : GroupX → GroupX) : (State.grpMod i f s).snx = s.snx := rfl
@[simp] theorem State.grpMod_trac (i : Nat) (f : GroupX → GroupX) : (State.grpMod i f s).trac = s.trac := rfl
@[simp] theorem State.grpMod_linkPrev (i : Nat) (f : GroupX → GroupX) : (State.grpMod i f s).linkPrev = s.linkPrev := rfl
@[simp] theorem State.grpMod_planAt (i : Nat) (f : GroupX → GroupX) : (State.grpMod i f s).planAt = s.planAt := rfl
@[simp] theorem State.grpMod_passTick (i : Nat) (f : GroupX → GroupX) : (State.grpMod i f s).passTick = s.passTick := rfl
@[simp] theorem State.grpMod_six (i : Nat) (f : GroupX → GroupX) : (State.grpMod i f s).six = s.six := rfl
@[simp] theorem State.grpMod_soHigh (i : Nat) (f : GroupX → GroupX) : (State.grpMod i f s).soHigh = s.soHigh := rfl
@[simp] theorem State.grpMod_cp (i : Nat) (f : GroupX → GroupX) : (State.grpMod i f s).cp = s.cp := rfl
@[simp] theorem State.grpMod_wc (i : Nat) (f : GroupX → GroupX) : (State.grpMod i f s).wc = s.wc := rfl
@[simp] theorem State.grpMod_lv (i : Nat) (f : GroupX → GroupX) : (State.grpMod i f s).lv = s.lv := rfl
@[simp] theorem State.grpMod_lamps (i : Nat) (f : GroupX → GroupX) : (State.grpMod i f s).lamps = s.lamps := rfl
@[simp] theorem State.grpMod_ga (i : Nat) (f : GroupX → GroupX) : (State.grpMod i f s).ga = s.ga := rfl
@[simp] theorem State.grpMod_lk (i : Nat) (f : GroupX → GroupX) : (State.grpMod i f s).lk = s.lk := rfl
@[simp] theorem State.grpMod_post (i : Nat) (f : GroupX → GroupX) : (State.grpMod i f s).post = s.post := rfl
@[simp] theorem State.grpMod_td (i : Nat) (f : GroupX → GroupX) : (State.grpMod i f s).td = s.td := rfl
@[simp] theorem State.grpMod_st (i : Nat) (f : GroupX → GroupX) : (State.grpMod i f s).st = s.st := rfl
@[simp] theorem State.grpMod_cc (i : Nat) (f : GroupX → GroupX) : (State.grpMod i f s).cc = s.cc := rfl
@[simp] theorem State.grpMod_mon (i : Nat) (f : GroupX → GroupX) : (State.grpMod i f s).mon = s.mon := rfl
@[simp] theorem State.grpMod_mtr (i : Nat) (f : GroupX → GroupX) : (State.grpMod i f s).mtr = s.mtr := rfl
@[simp] theorem State.grpMod_net (i : Nat) (f : GroupX → GroupX) : (State.grpMod i f s).net = s.net := rfl
@[simp] theorem State.grpMod_can (i : Nat) (f : GroupX → GroupX) : (State.grpMod i f s).can = s.can := rfl
@[simp] theorem State.grpMod_esl (i : Nat) (f : GroupX → GroupX) : (State.grpMod i f s).esl = s.esl := rfl
@[simp] theorem State.grpMod_image (i : Nat) (f : GroupX → GroupX) : (State.grpMod i f s).image = s.image := rfl
@[simp] theorem State.grpMod_takeup (i : Nat) (f : GroupX → GroupX) : (State.grpMod i f s).takeup = s.takeup := rfl
@[simp] theorem State.grpMod_roa (i : Nat) (f : GroupX → GroupX) : (State.grpMod i f s).roa = s.roa := rfl
@[simp] theorem State.grpMod_memx (i : Nat) (f : GroupX → GroupX) : (State.grpMod i f s).memx = s.memx := rfl
@[simp] theorem State.grpMod_hm (i : Nat) (f : GroupX → GroupX) : (State.grpMod i f s).hm = s.hm := rfl
@[simp] theorem State.grpMod_ro (i : Nat) (f : GroupX → GroupX) (j : Nat) : (State.grpMod i f s).o j = s.o j := rfl
@[simp] theorem State.grpMod_roN (i : Nat) (f : GroupX → GroupX) (j : Nat) : (State.grpMod i f s).oN j = s.oN j := rfl
@[simp] theorem State.grpMod_roF (i : Nat) (f : GroupX → GroupX) (j : Nat) : (State.grpMod i f s).oF j = s.oF j := rfl
@[simp] theorem State.grpMod_rc (i : Nat) (f : GroupX → GroupX) (j : Nat) : (State.grpMod i f s).c j = s.c j := rfl
@[simp] theorem State.grpMod_rcN (i : Nat) (f : GroupX → GroupX) (j : Nat) : (State.grpMod i f s).cN j = s.cN j := rfl
@[simp] theorem State.grpMod_rcF (i : Nat) (f : GroupX → GroupX) (j : Nat) : (State.grpMod i f s).cF j = s.cF j := rfl
@[simp] theorem State.grpMod_mode (i : Nat) (f : GroupX → GroupX) : (State.grpMod i f s).mode = s.mode := rfl
@[simp] theorem State.grpMod_up (i : Nat) (f : GroupX → GroupX) : (State.grpMod i f s).up = s.up := rfl

/-! ## slotMod changes slots alone -/

@[simp] theorem State.slotMod_live (i : Nat) (f : SlotX → SlotX) : (State.slotMod i f s).live = s.live := rfl
@[simp] theorem State.slotMod_active (i : Nat) (f : SlotX → SlotX) : (State.slotMod i f s).active = s.active := rfl
@[simp] theorem State.slotMod_shadow (i : Nat) (f : SlotX → SlotX) : (State.slotMod i f s).shadow = s.shadow := rfl
@[simp] theorem State.slotMod_mem (i : Nat) (f : SlotX → SlotX) : (State.slotMod i f s).mem = s.mem := rfl
@[simp] theorem State.slotMod_pending (i : Nat) (f : SlotX → SlotX) : (State.slotMod i f s).pending = s.pending := rfl
@[simp] theorem State.slotMod_freeIx (i : Nat) (f : SlotX → SlotX) : (State.slotMod i f s).freeIx = s.freeIx := rfl
@[simp] theorem State.slotMod_tick (i : Nat) (f : SlotX → SlotX) : (State.slotMod i f s).tick = s.tick := rfl
@[simp] theorem State.slotMod_devSub (i : Nat) (f : SlotX → SlotX) : (State.slotMod i f s).devSub = s.devSub := rfl
@[simp] theorem State.slotMod_plat (i : Nat) (f : SlotX → SlotX) : (State.slotMod i f s).plat = s.plat := rfl
@[simp] theorem State.slotMod_isl (i : Nat) (f : SlotX → SlotX) : (State.slotMod i f s).isl = s.isl := rfl
@[simp] theorem State.slotMod_fc (i : Nat) (f : SlotX → SlotX) : (State.slotMod i f s).fc = s.fc := rfl
@[simp] theorem State.slotMod_md (i : Nat) (f : SlotX → SlotX) : (State.slotMod i f s).md = s.md := rfl
@[simp] theorem State.slotMod_sw (i : Nat) (f : SlotX → SlotX) : (State.slotMod i f s).sw = s.sw := rfl
@[simp] theorem State.slotMod_nv (i : Nat) (f : SlotX → SlotX) : (State.slotMod i f s).nv = s.nv := rfl
@[simp] theorem State.slotMod_hbDrive (i : Nat) (f : SlotX → SlotX) : (State.slotMod i f s).hbDrive = s.hbDrive := rfl
@[simp] theorem State.slotMod_lvDrive (i : Nat) (f : SlotX → SlotX) : (State.slotMod i f s).lvDrive = s.lvDrive := rfl
@[simp] theorem State.slotMod_gsDrive (i : Nat) (f : SlotX → SlotX) : (State.slotMod i f s).gsDrive = s.gsDrive := rfl
@[simp] theorem State.slotMod_tb (i : Nat) (f : SlotX → SlotX) : (State.slotMod i f s).tb = s.tb := rfl
@[simp] theorem State.slotMod_grp (i : Nat) (f : SlotX → SlotX) : (State.slotMod i f s).grp = s.grp := rfl
@[simp] theorem State.slotMod_chan (i : Nat) (f : SlotX → SlotX) : (State.slotMod i f s).chan = s.chan := rfl
@[simp] theorem State.slotMod_eng (i : Nat) (f : SlotX → SlotX) : (State.slotMod i f s).eng = s.eng := rfl
@[simp] theorem State.slotMod_ports (i : Nat) (f : SlotX → SlotX) : (State.slotMod i f s).ports = s.ports := rfl
@[simp] theorem State.slotMod_sdRaised (i : Nat) (f : SlotX → SlotX) : (State.slotMod i f s).sdRaised = s.sdRaised := rfl
@[simp] theorem State.slotMod_obs (i : Nat) (f : SlotX → SlotX) : (State.slotMod i f s).obs = s.obs := rfl
@[simp] theorem State.slotMod_sdTripped (i : Nat) (f : SlotX → SlotX) : (State.slotMod i f s).sdTripped = s.sdTripped := rfl
@[simp] theorem State.slotMod_leave (i : Nat) (f : SlotX → SlotX) : (State.slotMod i f s).leave = s.leave := rfl
@[simp] theorem State.slotMod_gsx (i : Nat) (f : SlotX → SlotX) : (State.slotMod i f s).gsx = s.gsx := rfl
@[simp] theorem State.slotMod_sup (i : Nat) (f : SlotX → SlotX) : (State.slotMod i f s).sup = s.sup := rfl
@[simp] theorem State.slotMod_snx (i : Nat) (f : SlotX → SlotX) : (State.slotMod i f s).snx = s.snx := rfl
@[simp] theorem State.slotMod_trac (i : Nat) (f : SlotX → SlotX) : (State.slotMod i f s).trac = s.trac := rfl
@[simp] theorem State.slotMod_linkPrev (i : Nat) (f : SlotX → SlotX) : (State.slotMod i f s).linkPrev = s.linkPrev := rfl
@[simp] theorem State.slotMod_planAt (i : Nat) (f : SlotX → SlotX) : (State.slotMod i f s).planAt = s.planAt := rfl
@[simp] theorem State.slotMod_passTick (i : Nat) (f : SlotX → SlotX) : (State.slotMod i f s).passTick = s.passTick := rfl
@[simp] theorem State.slotMod_six (i : Nat) (f : SlotX → SlotX) : (State.slotMod i f s).six = s.six := rfl
@[simp] theorem State.slotMod_soHigh (i : Nat) (f : SlotX → SlotX) : (State.slotMod i f s).soHigh = s.soHigh := rfl
@[simp] theorem State.slotMod_cp (i : Nat) (f : SlotX → SlotX) : (State.slotMod i f s).cp = s.cp := rfl
@[simp] theorem State.slotMod_wc (i : Nat) (f : SlotX → SlotX) : (State.slotMod i f s).wc = s.wc := rfl
@[simp] theorem State.slotMod_lv (i : Nat) (f : SlotX → SlotX) : (State.slotMod i f s).lv = s.lv := rfl
@[simp] theorem State.slotMod_lamps (i : Nat) (f : SlotX → SlotX) : (State.slotMod i f s).lamps = s.lamps := rfl
@[simp] theorem State.slotMod_ga (i : Nat) (f : SlotX → SlotX) : (State.slotMod i f s).ga = s.ga := rfl
@[simp] theorem State.slotMod_lk (i : Nat) (f : SlotX → SlotX) : (State.slotMod i f s).lk = s.lk := rfl
@[simp] theorem State.slotMod_post (i : Nat) (f : SlotX → SlotX) : (State.slotMod i f s).post = s.post := rfl
@[simp] theorem State.slotMod_td (i : Nat) (f : SlotX → SlotX) : (State.slotMod i f s).td = s.td := rfl
@[simp] theorem State.slotMod_st (i : Nat) (f : SlotX → SlotX) : (State.slotMod i f s).st = s.st := rfl
@[simp] theorem State.slotMod_cc (i : Nat) (f : SlotX → SlotX) : (State.slotMod i f s).cc = s.cc := rfl
@[simp] theorem State.slotMod_mon (i : Nat) (f : SlotX → SlotX) : (State.slotMod i f s).mon = s.mon := rfl
@[simp] theorem State.slotMod_mtr (i : Nat) (f : SlotX → SlotX) : (State.slotMod i f s).mtr = s.mtr := rfl
@[simp] theorem State.slotMod_net (i : Nat) (f : SlotX → SlotX) : (State.slotMod i f s).net = s.net := rfl
@[simp] theorem State.slotMod_can (i : Nat) (f : SlotX → SlotX) : (State.slotMod i f s).can = s.can := rfl
@[simp] theorem State.slotMod_esl (i : Nat) (f : SlotX → SlotX) : (State.slotMod i f s).esl = s.esl := rfl
@[simp] theorem State.slotMod_image (i : Nat) (f : SlotX → SlotX) : (State.slotMod i f s).image = s.image := rfl
@[simp] theorem State.slotMod_takeup (i : Nat) (f : SlotX → SlotX) : (State.slotMod i f s).takeup = s.takeup := rfl
@[simp] theorem State.slotMod_roa (i : Nat) (f : SlotX → SlotX) : (State.slotMod i f s).roa = s.roa := rfl
@[simp] theorem State.slotMod_memx (i : Nat) (f : SlotX → SlotX) : (State.slotMod i f s).memx = s.memx := rfl
@[simp] theorem State.slotMod_hm (i : Nat) (f : SlotX → SlotX) : (State.slotMod i f s).hm = s.hm := rfl
@[simp] theorem State.slotMod_ro (i : Nat) (f : SlotX → SlotX) (j : Nat) : (State.slotMod i f s).o j = s.o j := rfl
@[simp] theorem State.slotMod_roN (i : Nat) (f : SlotX → SlotX) (j : Nat) : (State.slotMod i f s).oN j = s.oN j := rfl
@[simp] theorem State.slotMod_roF (i : Nat) (f : SlotX → SlotX) (j : Nat) : (State.slotMod i f s).oF j = s.oF j := rfl
@[simp] theorem State.slotMod_rc (i : Nat) (f : SlotX → SlotX) (j : Nat) : (State.slotMod i f s).c j = s.c j := rfl
@[simp] theorem State.slotMod_rcN (i : Nat) (f : SlotX → SlotX) (j : Nat) : (State.slotMod i f s).cN j = s.cN j := rfl
@[simp] theorem State.slotMod_rcF (i : Nat) (f : SlotX → SlotX) (j : Nat) : (State.slotMod i f s).cF j = s.cF j := rfl
@[simp] theorem State.slotMod_mode (i : Nat) (f : SlotX → SlotX) : (State.slotMod i f s).mode = s.mode := rfl
@[simp] theorem State.slotMod_up (i : Nat) (f : SlotX → SlotX) : (State.slotMod i f s).up = s.up := rfl

/-! ## engMod changes eng alone -/

@[simp] theorem State.engMod_live (i : Nat) (f : EngX → EngX) : (State.engMod i f s).live = s.live := rfl
@[simp] theorem State.engMod_active (i : Nat) (f : EngX → EngX) : (State.engMod i f s).active = s.active := rfl
@[simp] theorem State.engMod_shadow (i : Nat) (f : EngX → EngX) : (State.engMod i f s).shadow = s.shadow := rfl
@[simp] theorem State.engMod_mem (i : Nat) (f : EngX → EngX) : (State.engMod i f s).mem = s.mem := rfl
@[simp] theorem State.engMod_pending (i : Nat) (f : EngX → EngX) : (State.engMod i f s).pending = s.pending := rfl
@[simp] theorem State.engMod_freeIx (i : Nat) (f : EngX → EngX) : (State.engMod i f s).freeIx = s.freeIx := rfl
@[simp] theorem State.engMod_tick (i : Nat) (f : EngX → EngX) : (State.engMod i f s).tick = s.tick := rfl
@[simp] theorem State.engMod_devSub (i : Nat) (f : EngX → EngX) : (State.engMod i f s).devSub = s.devSub := rfl
@[simp] theorem State.engMod_plat (i : Nat) (f : EngX → EngX) : (State.engMod i f s).plat = s.plat := rfl
@[simp] theorem State.engMod_isl (i : Nat) (f : EngX → EngX) : (State.engMod i f s).isl = s.isl := rfl
@[simp] theorem State.engMod_fc (i : Nat) (f : EngX → EngX) : (State.engMod i f s).fc = s.fc := rfl
@[simp] theorem State.engMod_md (i : Nat) (f : EngX → EngX) : (State.engMod i f s).md = s.md := rfl
@[simp] theorem State.engMod_sw (i : Nat) (f : EngX → EngX) : (State.engMod i f s).sw = s.sw := rfl
@[simp] theorem State.engMod_nv (i : Nat) (f : EngX → EngX) : (State.engMod i f s).nv = s.nv := rfl
@[simp] theorem State.engMod_hbDrive (i : Nat) (f : EngX → EngX) : (State.engMod i f s).hbDrive = s.hbDrive := rfl
@[simp] theorem State.engMod_lvDrive (i : Nat) (f : EngX → EngX) : (State.engMod i f s).lvDrive = s.lvDrive := rfl
@[simp] theorem State.engMod_gsDrive (i : Nat) (f : EngX → EngX) : (State.engMod i f s).gsDrive = s.gsDrive := rfl
@[simp] theorem State.engMod_tb (i : Nat) (f : EngX → EngX) : (State.engMod i f s).tb = s.tb := rfl
@[simp] theorem State.engMod_grp (i : Nat) (f : EngX → EngX) : (State.engMod i f s).grp = s.grp := rfl
@[simp] theorem State.engMod_chan (i : Nat) (f : EngX → EngX) : (State.engMod i f s).chan = s.chan := rfl
@[simp] theorem State.engMod_slots (i : Nat) (f : EngX → EngX) : (State.engMod i f s).slots = s.slots := rfl
@[simp] theorem State.engMod_ports (i : Nat) (f : EngX → EngX) : (State.engMod i f s).ports = s.ports := rfl
@[simp] theorem State.engMod_sdRaised (i : Nat) (f : EngX → EngX) : (State.engMod i f s).sdRaised = s.sdRaised := rfl
@[simp] theorem State.engMod_obs (i : Nat) (f : EngX → EngX) : (State.engMod i f s).obs = s.obs := rfl
@[simp] theorem State.engMod_sdTripped (i : Nat) (f : EngX → EngX) : (State.engMod i f s).sdTripped = s.sdTripped := rfl
@[simp] theorem State.engMod_leave (i : Nat) (f : EngX → EngX) : (State.engMod i f s).leave = s.leave := rfl
@[simp] theorem State.engMod_gsx (i : Nat) (f : EngX → EngX) : (State.engMod i f s).gsx = s.gsx := rfl
@[simp] theorem State.engMod_sup (i : Nat) (f : EngX → EngX) : (State.engMod i f s).sup = s.sup := rfl
@[simp] theorem State.engMod_snx (i : Nat) (f : EngX → EngX) : (State.engMod i f s).snx = s.snx := rfl
@[simp] theorem State.engMod_trac (i : Nat) (f : EngX → EngX) : (State.engMod i f s).trac = s.trac := rfl
@[simp] theorem State.engMod_linkPrev (i : Nat) (f : EngX → EngX) : (State.engMod i f s).linkPrev = s.linkPrev := rfl
@[simp] theorem State.engMod_planAt (i : Nat) (f : EngX → EngX) : (State.engMod i f s).planAt = s.planAt := rfl
@[simp] theorem State.engMod_passTick (i : Nat) (f : EngX → EngX) : (State.engMod i f s).passTick = s.passTick := rfl
@[simp] theorem State.engMod_six (i : Nat) (f : EngX → EngX) : (State.engMod i f s).six = s.six := rfl
@[simp] theorem State.engMod_soHigh (i : Nat) (f : EngX → EngX) : (State.engMod i f s).soHigh = s.soHigh := rfl
@[simp] theorem State.engMod_cp (i : Nat) (f : EngX → EngX) : (State.engMod i f s).cp = s.cp := rfl
@[simp] theorem State.engMod_wc (i : Nat) (f : EngX → EngX) : (State.engMod i f s).wc = s.wc := rfl
@[simp] theorem State.engMod_lv (i : Nat) (f : EngX → EngX) : (State.engMod i f s).lv = s.lv := rfl
@[simp] theorem State.engMod_lamps (i : Nat) (f : EngX → EngX) : (State.engMod i f s).lamps = s.lamps := rfl
@[simp] theorem State.engMod_ga (i : Nat) (f : EngX → EngX) : (State.engMod i f s).ga = s.ga := rfl
@[simp] theorem State.engMod_lk (i : Nat) (f : EngX → EngX) : (State.engMod i f s).lk = s.lk := rfl
@[simp] theorem State.engMod_post (i : Nat) (f : EngX → EngX) : (State.engMod i f s).post = s.post := rfl
@[simp] theorem State.engMod_td (i : Nat) (f : EngX → EngX) : (State.engMod i f s).td = s.td := rfl
@[simp] theorem State.engMod_st (i : Nat) (f : EngX → EngX) : (State.engMod i f s).st = s.st := rfl
@[simp] theorem State.engMod_cc (i : Nat) (f : EngX → EngX) : (State.engMod i f s).cc = s.cc := rfl
@[simp] theorem State.engMod_mon (i : Nat) (f : EngX → EngX) : (State.engMod i f s).mon = s.mon := rfl
@[simp] theorem State.engMod_mtr (i : Nat) (f : EngX → EngX) : (State.engMod i f s).mtr = s.mtr := rfl
@[simp] theorem State.engMod_net (i : Nat) (f : EngX → EngX) : (State.engMod i f s).net = s.net := rfl
@[simp] theorem State.engMod_can (i : Nat) (f : EngX → EngX) : (State.engMod i f s).can = s.can := rfl
@[simp] theorem State.engMod_esl (i : Nat) (f : EngX → EngX) : (State.engMod i f s).esl = s.esl := rfl
@[simp] theorem State.engMod_image (i : Nat) (f : EngX → EngX) : (State.engMod i f s).image = s.image := rfl
@[simp] theorem State.engMod_takeup (i : Nat) (f : EngX → EngX) : (State.engMod i f s).takeup = s.takeup := rfl
@[simp] theorem State.engMod_roa (i : Nat) (f : EngX → EngX) : (State.engMod i f s).roa = s.roa := rfl
@[simp] theorem State.engMod_memx (i : Nat) (f : EngX → EngX) : (State.engMod i f s).memx = s.memx := rfl
@[simp] theorem State.engMod_hm (i : Nat) (f : EngX → EngX) : (State.engMod i f s).hm = s.hm := rfl
@[simp] theorem State.engMod_ro (i : Nat) (f : EngX → EngX) (j : Nat) : (State.engMod i f s).o j = s.o j := rfl
@[simp] theorem State.engMod_roN (i : Nat) (f : EngX → EngX) (j : Nat) : (State.engMod i f s).oN j = s.oN j := rfl
@[simp] theorem State.engMod_roF (i : Nat) (f : EngX → EngX) (j : Nat) : (State.engMod i f s).oF j = s.oF j := rfl
@[simp] theorem State.engMod_rc (i : Nat) (f : EngX → EngX) (j : Nat) : (State.engMod i f s).c j = s.c j := rfl
@[simp] theorem State.engMod_rcN (i : Nat) (f : EngX → EngX) (j : Nat) : (State.engMod i f s).cN j = s.cN j := rfl
@[simp] theorem State.engMod_rcF (i : Nat) (f : EngX → EngX) (j : Nat) : (State.engMod i f s).cF j = s.cF j := rfl
@[simp] theorem State.engMod_mode (i : Nat) (f : EngX → EngX) : (State.engMod i f s).mode = s.mode := rfl
@[simp] theorem State.engMod_up (i : Nat) (f : EngX → EngX) : (State.engMod i f s).up = s.up := rfl

/-! ## tbMod changes tb alone -/

@[simp] theorem State.tbMod_live (i : Nat) (f : TbX → TbX) : (State.tbMod i f s).live = s.live := rfl
@[simp] theorem State.tbMod_active (i : Nat) (f : TbX → TbX) : (State.tbMod i f s).active = s.active := rfl
@[simp] theorem State.tbMod_shadow (i : Nat) (f : TbX → TbX) : (State.tbMod i f s).shadow = s.shadow := rfl
@[simp] theorem State.tbMod_mem (i : Nat) (f : TbX → TbX) : (State.tbMod i f s).mem = s.mem := rfl
@[simp] theorem State.tbMod_pending (i : Nat) (f : TbX → TbX) : (State.tbMod i f s).pending = s.pending := rfl
@[simp] theorem State.tbMod_freeIx (i : Nat) (f : TbX → TbX) : (State.tbMod i f s).freeIx = s.freeIx := rfl
@[simp] theorem State.tbMod_tick (i : Nat) (f : TbX → TbX) : (State.tbMod i f s).tick = s.tick := rfl
@[simp] theorem State.tbMod_devSub (i : Nat) (f : TbX → TbX) : (State.tbMod i f s).devSub = s.devSub := rfl
@[simp] theorem State.tbMod_plat (i : Nat) (f : TbX → TbX) : (State.tbMod i f s).plat = s.plat := rfl
@[simp] theorem State.tbMod_isl (i : Nat) (f : TbX → TbX) : (State.tbMod i f s).isl = s.isl := rfl
@[simp] theorem State.tbMod_fc (i : Nat) (f : TbX → TbX) : (State.tbMod i f s).fc = s.fc := rfl
@[simp] theorem State.tbMod_md (i : Nat) (f : TbX → TbX) : (State.tbMod i f s).md = s.md := rfl
@[simp] theorem State.tbMod_sw (i : Nat) (f : TbX → TbX) : (State.tbMod i f s).sw = s.sw := rfl
@[simp] theorem State.tbMod_nv (i : Nat) (f : TbX → TbX) : (State.tbMod i f s).nv = s.nv := rfl
@[simp] theorem State.tbMod_hbDrive (i : Nat) (f : TbX → TbX) : (State.tbMod i f s).hbDrive = s.hbDrive := rfl
@[simp] theorem State.tbMod_lvDrive (i : Nat) (f : TbX → TbX) : (State.tbMod i f s).lvDrive = s.lvDrive := rfl
@[simp] theorem State.tbMod_gsDrive (i : Nat) (f : TbX → TbX) : (State.tbMod i f s).gsDrive = s.gsDrive := rfl
@[simp] theorem State.tbMod_grp (i : Nat) (f : TbX → TbX) : (State.tbMod i f s).grp = s.grp := rfl
@[simp] theorem State.tbMod_chan (i : Nat) (f : TbX → TbX) : (State.tbMod i f s).chan = s.chan := rfl
@[simp] theorem State.tbMod_slots (i : Nat) (f : TbX → TbX) : (State.tbMod i f s).slots = s.slots := rfl
@[simp] theorem State.tbMod_eng (i : Nat) (f : TbX → TbX) : (State.tbMod i f s).eng = s.eng := rfl
@[simp] theorem State.tbMod_ports (i : Nat) (f : TbX → TbX) : (State.tbMod i f s).ports = s.ports := rfl
@[simp] theorem State.tbMod_sdRaised (i : Nat) (f : TbX → TbX) : (State.tbMod i f s).sdRaised = s.sdRaised := rfl
@[simp] theorem State.tbMod_obs (i : Nat) (f : TbX → TbX) : (State.tbMod i f s).obs = s.obs := rfl
@[simp] theorem State.tbMod_sdTripped (i : Nat) (f : TbX → TbX) : (State.tbMod i f s).sdTripped = s.sdTripped := rfl
@[simp] theorem State.tbMod_leave (i : Nat) (f : TbX → TbX) : (State.tbMod i f s).leave = s.leave := rfl
@[simp] theorem State.tbMod_gsx (i : Nat) (f : TbX → TbX) : (State.tbMod i f s).gsx = s.gsx := rfl
@[simp] theorem State.tbMod_sup (i : Nat) (f : TbX → TbX) : (State.tbMod i f s).sup = s.sup := rfl
@[simp] theorem State.tbMod_snx (i : Nat) (f : TbX → TbX) : (State.tbMod i f s).snx = s.snx := rfl
@[simp] theorem State.tbMod_trac (i : Nat) (f : TbX → TbX) : (State.tbMod i f s).trac = s.trac := rfl
@[simp] theorem State.tbMod_linkPrev (i : Nat) (f : TbX → TbX) : (State.tbMod i f s).linkPrev = s.linkPrev := rfl
@[simp] theorem State.tbMod_planAt (i : Nat) (f : TbX → TbX) : (State.tbMod i f s).planAt = s.planAt := rfl
@[simp] theorem State.tbMod_passTick (i : Nat) (f : TbX → TbX) : (State.tbMod i f s).passTick = s.passTick := rfl
@[simp] theorem State.tbMod_six (i : Nat) (f : TbX → TbX) : (State.tbMod i f s).six = s.six := rfl
@[simp] theorem State.tbMod_soHigh (i : Nat) (f : TbX → TbX) : (State.tbMod i f s).soHigh = s.soHigh := rfl
@[simp] theorem State.tbMod_cp (i : Nat) (f : TbX → TbX) : (State.tbMod i f s).cp = s.cp := rfl
@[simp] theorem State.tbMod_wc (i : Nat) (f : TbX → TbX) : (State.tbMod i f s).wc = s.wc := rfl
@[simp] theorem State.tbMod_lv (i : Nat) (f : TbX → TbX) : (State.tbMod i f s).lv = s.lv := rfl
@[simp] theorem State.tbMod_lamps (i : Nat) (f : TbX → TbX) : (State.tbMod i f s).lamps = s.lamps := rfl
@[simp] theorem State.tbMod_ga (i : Nat) (f : TbX → TbX) : (State.tbMod i f s).ga = s.ga := rfl
@[simp] theorem State.tbMod_lk (i : Nat) (f : TbX → TbX) : (State.tbMod i f s).lk = s.lk := rfl
@[simp] theorem State.tbMod_post (i : Nat) (f : TbX → TbX) : (State.tbMod i f s).post = s.post := rfl
@[simp] theorem State.tbMod_td (i : Nat) (f : TbX → TbX) : (State.tbMod i f s).td = s.td := rfl
@[simp] theorem State.tbMod_st (i : Nat) (f : TbX → TbX) : (State.tbMod i f s).st = s.st := rfl
@[simp] theorem State.tbMod_cc (i : Nat) (f : TbX → TbX) : (State.tbMod i f s).cc = s.cc := rfl
@[simp] theorem State.tbMod_mon (i : Nat) (f : TbX → TbX) : (State.tbMod i f s).mon = s.mon := rfl
@[simp] theorem State.tbMod_mtr (i : Nat) (f : TbX → TbX) : (State.tbMod i f s).mtr = s.mtr := rfl
@[simp] theorem State.tbMod_net (i : Nat) (f : TbX → TbX) : (State.tbMod i f s).net = s.net := rfl
@[simp] theorem State.tbMod_can (i : Nat) (f : TbX → TbX) : (State.tbMod i f s).can = s.can := rfl
@[simp] theorem State.tbMod_esl (i : Nat) (f : TbX → TbX) : (State.tbMod i f s).esl = s.esl := rfl
@[simp] theorem State.tbMod_image (i : Nat) (f : TbX → TbX) : (State.tbMod i f s).image = s.image := rfl
@[simp] theorem State.tbMod_takeup (i : Nat) (f : TbX → TbX) : (State.tbMod i f s).takeup = s.takeup := rfl
@[simp] theorem State.tbMod_roa (i : Nat) (f : TbX → TbX) : (State.tbMod i f s).roa = s.roa := rfl
@[simp] theorem State.tbMod_memx (i : Nat) (f : TbX → TbX) : (State.tbMod i f s).memx = s.memx := rfl
@[simp] theorem State.tbMod_hm (i : Nat) (f : TbX → TbX) : (State.tbMod i f s).hm = s.hm := rfl
@[simp] theorem State.tbMod_ro (i : Nat) (f : TbX → TbX) (j : Nat) : (State.tbMod i f s).o j = s.o j := rfl
@[simp] theorem State.tbMod_roN (i : Nat) (f : TbX → TbX) (j : Nat) : (State.tbMod i f s).oN j = s.oN j := rfl
@[simp] theorem State.tbMod_roF (i : Nat) (f : TbX → TbX) (j : Nat) : (State.tbMod i f s).oF j = s.oF j := rfl
@[simp] theorem State.tbMod_rc (i : Nat) (f : TbX → TbX) (j : Nat) : (State.tbMod i f s).c j = s.c j := rfl
@[simp] theorem State.tbMod_rcN (i : Nat) (f : TbX → TbX) (j : Nat) : (State.tbMod i f s).cN j = s.cN j := rfl
@[simp] theorem State.tbMod_rcF (i : Nat) (f : TbX → TbX) (j : Nat) : (State.tbMod i f s).cF j = s.cF j := rfl
@[simp] theorem State.tbMod_mode (i : Nat) (f : TbX → TbX) : (State.tbMod i f s).mode = s.mode := rfl
@[simp] theorem State.tbMod_up (i : Nat) (f : TbX → TbX) : (State.tbMod i f s).up = s.up := rfl

/-! ## obsMod changes obs alone -/

@[simp] theorem State.obsMod_live (i : Nat) (f : ObsX → ObsX) : (State.obsMod i f s).live = s.live := rfl
@[simp] theorem State.obsMod_active (i : Nat) (f : ObsX → ObsX) : (State.obsMod i f s).active = s.active := rfl
@[simp] theorem State.obsMod_shadow (i : Nat) (f : ObsX → ObsX) : (State.obsMod i f s).shadow = s.shadow := rfl
@[simp] theorem State.obsMod_mem (i : Nat) (f : ObsX → ObsX) : (State.obsMod i f s).mem = s.mem := rfl
@[simp] theorem State.obsMod_pending (i : Nat) (f : ObsX → ObsX) : (State.obsMod i f s).pending = s.pending := rfl
@[simp] theorem State.obsMod_freeIx (i : Nat) (f : ObsX → ObsX) : (State.obsMod i f s).freeIx = s.freeIx := rfl
@[simp] theorem State.obsMod_tick (i : Nat) (f : ObsX → ObsX) : (State.obsMod i f s).tick = s.tick := rfl
@[simp] theorem State.obsMod_devSub (i : Nat) (f : ObsX → ObsX) : (State.obsMod i f s).devSub = s.devSub := rfl
@[simp] theorem State.obsMod_plat (i : Nat) (f : ObsX → ObsX) : (State.obsMod i f s).plat = s.plat := rfl
@[simp] theorem State.obsMod_isl (i : Nat) (f : ObsX → ObsX) : (State.obsMod i f s).isl = s.isl := rfl
@[simp] theorem State.obsMod_fc (i : Nat) (f : ObsX → ObsX) : (State.obsMod i f s).fc = s.fc := rfl
@[simp] theorem State.obsMod_md (i : Nat) (f : ObsX → ObsX) : (State.obsMod i f s).md = s.md := rfl
@[simp] theorem State.obsMod_sw (i : Nat) (f : ObsX → ObsX) : (State.obsMod i f s).sw = s.sw := rfl
@[simp] theorem State.obsMod_nv (i : Nat) (f : ObsX → ObsX) : (State.obsMod i f s).nv = s.nv := rfl
@[simp] theorem State.obsMod_hbDrive (i : Nat) (f : ObsX → ObsX) : (State.obsMod i f s).hbDrive = s.hbDrive := rfl
@[simp] theorem State.obsMod_lvDrive (i : Nat) (f : ObsX → ObsX) : (State.obsMod i f s).lvDrive = s.lvDrive := rfl
@[simp] theorem State.obsMod_gsDrive (i : Nat) (f : ObsX → ObsX) : (State.obsMod i f s).gsDrive = s.gsDrive := rfl
@[simp] theorem State.obsMod_tb (i : Nat) (f : ObsX → ObsX) : (State.obsMod i f s).tb = s.tb := rfl
@[simp] theorem State.obsMod_grp (i : Nat) (f : ObsX → ObsX) : (State.obsMod i f s).grp = s.grp := rfl
@[simp] theorem State.obsMod_chan (i : Nat) (f : ObsX → ObsX) : (State.obsMod i f s).chan = s.chan := rfl
@[simp] theorem State.obsMod_slots (i : Nat) (f : ObsX → ObsX) : (State.obsMod i f s).slots = s.slots := rfl
@[simp] theorem State.obsMod_eng (i : Nat) (f : ObsX → ObsX) : (State.obsMod i f s).eng = s.eng := rfl
@[simp] theorem State.obsMod_ports (i : Nat) (f : ObsX → ObsX) : (State.obsMod i f s).ports = s.ports := rfl
@[simp] theorem State.obsMod_sdRaised (i : Nat) (f : ObsX → ObsX) : (State.obsMod i f s).sdRaised = s.sdRaised := rfl
@[simp] theorem State.obsMod_sdTripped (i : Nat) (f : ObsX → ObsX) : (State.obsMod i f s).sdTripped = s.sdTripped := rfl
@[simp] theorem State.obsMod_leave (i : Nat) (f : ObsX → ObsX) : (State.obsMod i f s).leave = s.leave := rfl
@[simp] theorem State.obsMod_gsx (i : Nat) (f : ObsX → ObsX) : (State.obsMod i f s).gsx = s.gsx := rfl
@[simp] theorem State.obsMod_sup (i : Nat) (f : ObsX → ObsX) : (State.obsMod i f s).sup = s.sup := rfl
@[simp] theorem State.obsMod_snx (i : Nat) (f : ObsX → ObsX) : (State.obsMod i f s).snx = s.snx := rfl
@[simp] theorem State.obsMod_trac (i : Nat) (f : ObsX → ObsX) : (State.obsMod i f s).trac = s.trac := rfl
@[simp] theorem State.obsMod_linkPrev (i : Nat) (f : ObsX → ObsX) : (State.obsMod i f s).linkPrev = s.linkPrev := rfl
@[simp] theorem State.obsMod_planAt (i : Nat) (f : ObsX → ObsX) : (State.obsMod i f s).planAt = s.planAt := rfl
@[simp] theorem State.obsMod_passTick (i : Nat) (f : ObsX → ObsX) : (State.obsMod i f s).passTick = s.passTick := rfl
@[simp] theorem State.obsMod_six (i : Nat) (f : ObsX → ObsX) : (State.obsMod i f s).six = s.six := rfl
@[simp] theorem State.obsMod_soHigh (i : Nat) (f : ObsX → ObsX) : (State.obsMod i f s).soHigh = s.soHigh := rfl
@[simp] theorem State.obsMod_cp (i : Nat) (f : ObsX → ObsX) : (State.obsMod i f s).cp = s.cp := rfl
@[simp] theorem State.obsMod_wc (i : Nat) (f : ObsX → ObsX) : (State.obsMod i f s).wc = s.wc := rfl
@[simp] theorem State.obsMod_lv (i : Nat) (f : ObsX → ObsX) : (State.obsMod i f s).lv = s.lv := rfl
@[simp] theorem State.obsMod_lamps (i : Nat) (f : ObsX → ObsX) : (State.obsMod i f s).lamps = s.lamps := rfl
@[simp] theorem State.obsMod_ga (i : Nat) (f : ObsX → ObsX) : (State.obsMod i f s).ga = s.ga := rfl
@[simp] theorem State.obsMod_lk (i : Nat) (f : ObsX → ObsX) : (State.obsMod i f s).lk = s.lk := rfl
@[simp] theorem State.obsMod_post (i : Nat) (f : ObsX → ObsX) : (State.obsMod i f s).post = s.post := rfl
@[simp] theorem State.obsMod_td (i : Nat) (f : ObsX → ObsX) : (State.obsMod i f s).td = s.td := rfl
@[simp] theorem State.obsMod_st (i : Nat) (f : ObsX → ObsX) : (State.obsMod i f s).st = s.st := rfl
@[simp] theorem State.obsMod_cc (i : Nat) (f : ObsX → ObsX) : (State.obsMod i f s).cc = s.cc := rfl
@[simp] theorem State.obsMod_mon (i : Nat) (f : ObsX → ObsX) : (State.obsMod i f s).mon = s.mon := rfl
@[simp] theorem State.obsMod_mtr (i : Nat) (f : ObsX → ObsX) : (State.obsMod i f s).mtr = s.mtr := rfl
@[simp] theorem State.obsMod_net (i : Nat) (f : ObsX → ObsX) : (State.obsMod i f s).net = s.net := rfl
@[simp] theorem State.obsMod_can (i : Nat) (f : ObsX → ObsX) : (State.obsMod i f s).can = s.can := rfl
@[simp] theorem State.obsMod_esl (i : Nat) (f : ObsX → ObsX) : (State.obsMod i f s).esl = s.esl := rfl
@[simp] theorem State.obsMod_image (i : Nat) (f : ObsX → ObsX) : (State.obsMod i f s).image = s.image := rfl
@[simp] theorem State.obsMod_takeup (i : Nat) (f : ObsX → ObsX) : (State.obsMod i f s).takeup = s.takeup := rfl
@[simp] theorem State.obsMod_roa (i : Nat) (f : ObsX → ObsX) : (State.obsMod i f s).roa = s.roa := rfl
@[simp] theorem State.obsMod_memx (i : Nat) (f : ObsX → ObsX) : (State.obsMod i f s).memx = s.memx := rfl
@[simp] theorem State.obsMod_hm (i : Nat) (f : ObsX → ObsX) : (State.obsMod i f s).hm = s.hm := rfl
@[simp] theorem State.obsMod_ro (i : Nat) (f : ObsX → ObsX) (j : Nat) : (State.obsMod i f s).o j = s.o j := rfl
@[simp] theorem State.obsMod_roN (i : Nat) (f : ObsX → ObsX) (j : Nat) : (State.obsMod i f s).oN j = s.oN j := rfl
@[simp] theorem State.obsMod_roF (i : Nat) (f : ObsX → ObsX) (j : Nat) : (State.obsMod i f s).oF j = s.oF j := rfl
@[simp] theorem State.obsMod_rc (i : Nat) (f : ObsX → ObsX) (j : Nat) : (State.obsMod i f s).c j = s.c j := rfl
@[simp] theorem State.obsMod_rcN (i : Nat) (f : ObsX → ObsX) (j : Nat) : (State.obsMod i f s).cN j = s.cN j := rfl
@[simp] theorem State.obsMod_rcF (i : Nat) (f : ObsX → ObsX) (j : Nat) : (State.obsMod i f s).cF j = s.cF j := rfl
@[simp] theorem State.obsMod_mode (i : Nat) (f : ObsX → ObsX) : (State.obsMod i f s).mode = s.mode := rfl
@[simp] theorem State.obsMod_up (i : Nat) (f : ObsX → ObsX) : (State.obsMod i f s).up = s.up := rfl

/-! ## tracMod changes trac alone -/

@[simp] theorem State.tracMod_live (i : Nat) (f : TracX → TracX) : (State.tracMod i f s).live = s.live := rfl
@[simp] theorem State.tracMod_active (i : Nat) (f : TracX → TracX) : (State.tracMod i f s).active = s.active := rfl
@[simp] theorem State.tracMod_shadow (i : Nat) (f : TracX → TracX) : (State.tracMod i f s).shadow = s.shadow := rfl
@[simp] theorem State.tracMod_mem (i : Nat) (f : TracX → TracX) : (State.tracMod i f s).mem = s.mem := rfl
@[simp] theorem State.tracMod_pending (i : Nat) (f : TracX → TracX) : (State.tracMod i f s).pending = s.pending := rfl
@[simp] theorem State.tracMod_freeIx (i : Nat) (f : TracX → TracX) : (State.tracMod i f s).freeIx = s.freeIx := rfl
@[simp] theorem State.tracMod_tick (i : Nat) (f : TracX → TracX) : (State.tracMod i f s).tick = s.tick := rfl
@[simp] theorem State.tracMod_devSub (i : Nat) (f : TracX → TracX) : (State.tracMod i f s).devSub = s.devSub := rfl
@[simp] theorem State.tracMod_plat (i : Nat) (f : TracX → TracX) : (State.tracMod i f s).plat = s.plat := rfl
@[simp] theorem State.tracMod_isl (i : Nat) (f : TracX → TracX) : (State.tracMod i f s).isl = s.isl := rfl
@[simp] theorem State.tracMod_fc (i : Nat) (f : TracX → TracX) : (State.tracMod i f s).fc = s.fc := rfl
@[simp] theorem State.tracMod_md (i : Nat) (f : TracX → TracX) : (State.tracMod i f s).md = s.md := rfl
@[simp] theorem State.tracMod_sw (i : Nat) (f : TracX → TracX) : (State.tracMod i f s).sw = s.sw := rfl
@[simp] theorem State.tracMod_nv (i : Nat) (f : TracX → TracX) : (State.tracMod i f s).nv = s.nv := rfl
@[simp] theorem State.tracMod_hbDrive (i : Nat) (f : TracX → TracX) : (State.tracMod i f s).hbDrive = s.hbDrive := rfl
@[simp] theorem State.tracMod_lvDrive (i : Nat) (f : TracX → TracX) : (State.tracMod i f s).lvDrive = s.lvDrive := rfl
@[simp] theorem State.tracMod_gsDrive (i : Nat) (f : TracX → TracX) : (State.tracMod i f s).gsDrive = s.gsDrive := rfl
@[simp] theorem State.tracMod_tb (i : Nat) (f : TracX → TracX) : (State.tracMod i f s).tb = s.tb := rfl
@[simp] theorem State.tracMod_grp (i : Nat) (f : TracX → TracX) : (State.tracMod i f s).grp = s.grp := rfl
@[simp] theorem State.tracMod_chan (i : Nat) (f : TracX → TracX) : (State.tracMod i f s).chan = s.chan := rfl
@[simp] theorem State.tracMod_slots (i : Nat) (f : TracX → TracX) : (State.tracMod i f s).slots = s.slots := rfl
@[simp] theorem State.tracMod_eng (i : Nat) (f : TracX → TracX) : (State.tracMod i f s).eng = s.eng := rfl
@[simp] theorem State.tracMod_ports (i : Nat) (f : TracX → TracX) : (State.tracMod i f s).ports = s.ports := rfl
@[simp] theorem State.tracMod_sdRaised (i : Nat) (f : TracX → TracX) : (State.tracMod i f s).sdRaised = s.sdRaised := rfl
@[simp] theorem State.tracMod_obs (i : Nat) (f : TracX → TracX) : (State.tracMod i f s).obs = s.obs := rfl
@[simp] theorem State.tracMod_sdTripped (i : Nat) (f : TracX → TracX) : (State.tracMod i f s).sdTripped = s.sdTripped := rfl
@[simp] theorem State.tracMod_leave (i : Nat) (f : TracX → TracX) : (State.tracMod i f s).leave = s.leave := rfl
@[simp] theorem State.tracMod_gsx (i : Nat) (f : TracX → TracX) : (State.tracMod i f s).gsx = s.gsx := rfl
@[simp] theorem State.tracMod_sup (i : Nat) (f : TracX → TracX) : (State.tracMod i f s).sup = s.sup := rfl
@[simp] theorem State.tracMod_snx (i : Nat) (f : TracX → TracX) : (State.tracMod i f s).snx = s.snx := rfl
@[simp] theorem State.tracMod_linkPrev (i : Nat) (f : TracX → TracX) : (State.tracMod i f s).linkPrev = s.linkPrev := rfl
@[simp] theorem State.tracMod_planAt (i : Nat) (f : TracX → TracX) : (State.tracMod i f s).planAt = s.planAt := rfl
@[simp] theorem State.tracMod_passTick (i : Nat) (f : TracX → TracX) : (State.tracMod i f s).passTick = s.passTick := rfl
@[simp] theorem State.tracMod_six (i : Nat) (f : TracX → TracX) : (State.tracMod i f s).six = s.six := rfl
@[simp] theorem State.tracMod_soHigh (i : Nat) (f : TracX → TracX) : (State.tracMod i f s).soHigh = s.soHigh := rfl
@[simp] theorem State.tracMod_cp (i : Nat) (f : TracX → TracX) : (State.tracMod i f s).cp = s.cp := rfl
@[simp] theorem State.tracMod_wc (i : Nat) (f : TracX → TracX) : (State.tracMod i f s).wc = s.wc := rfl
@[simp] theorem State.tracMod_lv (i : Nat) (f : TracX → TracX) : (State.tracMod i f s).lv = s.lv := rfl
@[simp] theorem State.tracMod_lamps (i : Nat) (f : TracX → TracX) : (State.tracMod i f s).lamps = s.lamps := rfl
@[simp] theorem State.tracMod_ga (i : Nat) (f : TracX → TracX) : (State.tracMod i f s).ga = s.ga := rfl
@[simp] theorem State.tracMod_lk (i : Nat) (f : TracX → TracX) : (State.tracMod i f s).lk = s.lk := rfl
@[simp] theorem State.tracMod_post (i : Nat) (f : TracX → TracX) : (State.tracMod i f s).post = s.post := rfl
@[simp] theorem State.tracMod_td (i : Nat) (f : TracX → TracX) : (State.tracMod i f s).td = s.td := rfl
@[simp] theorem State.tracMod_st (i : Nat) (f : TracX → TracX) : (State.tracMod i f s).st = s.st := rfl
@[simp] theorem State.tracMod_cc (i : Nat) (f : TracX → TracX) : (State.tracMod i f s).cc = s.cc := rfl
@[simp] theorem State.tracMod_mon (i : Nat) (f : TracX → TracX) : (State.tracMod i f s).mon = s.mon := rfl
@[simp] theorem State.tracMod_mtr (i : Nat) (f : TracX → TracX) : (State.tracMod i f s).mtr = s.mtr := rfl
@[simp] theorem State.tracMod_net (i : Nat) (f : TracX → TracX) : (State.tracMod i f s).net = s.net := rfl
@[simp] theorem State.tracMod_can (i : Nat) (f : TracX → TracX) : (State.tracMod i f s).can = s.can := rfl
@[simp] theorem State.tracMod_esl (i : Nat) (f : TracX → TracX) : (State.tracMod i f s).esl = s.esl := rfl
@[simp] theorem State.tracMod_image (i : Nat) (f : TracX → TracX) : (State.tracMod i f s).image = s.image := rfl
@[simp] theorem State.tracMod_takeup (i : Nat) (f : TracX → TracX) : (State.tracMod i f s).takeup = s.takeup := rfl
@[simp] theorem State.tracMod_roa (i : Nat) (f : TracX → TracX) : (State.tracMod i f s).roa = s.roa := rfl
@[simp] theorem State.tracMod_memx (i : Nat) (f : TracX → TracX) : (State.tracMod i f s).memx = s.memx := rfl
@[simp] theorem State.tracMod_hm (i : Nat) (f : TracX → TracX) : (State.tracMod i f s).hm = s.hm := rfl
@[simp] theorem State.tracMod_ro (i : Nat) (f : TracX → TracX) (j : Nat) : (State.tracMod i f s).o j = s.o j := rfl
@[simp] theorem State.tracMod_roN (i : Nat) (f : TracX → TracX) (j : Nat) : (State.tracMod i f s).oN j = s.oN j := rfl
@[simp] theorem State.tracMod_roF (i : Nat) (f : TracX → TracX) (j : Nat) : (State.tracMod i f s).oF j = s.oF j := rfl
@[simp] theorem State.tracMod_rc (i : Nat) (f : TracX → TracX) (j : Nat) : (State.tracMod i f s).c j = s.c j := rfl
@[simp] theorem State.tracMod_rcN (i : Nat) (f : TracX → TracX) (j : Nat) : (State.tracMod i f s).cN j = s.cN j := rfl
@[simp] theorem State.tracMod_rcF (i : Nat) (f : TracX → TracX) (j : Nat) : (State.tracMod i f s).cF j = s.cF j := rfl
@[simp] theorem State.tracMod_mode (i : Nat) (f : TracX → TracX) : (State.tracMod i f s).mode = s.mode := rfl
@[simp] theorem State.tracMod_up (i : Nat) (f : TracX → TracX) : (State.tracMod i f s).up = s.up := rfl

/-! ## supMod changes sup alone -/

@[simp] theorem State.supMod_live (i : Nat) (f : SupplyX → SupplyX) : (State.supMod i f s).live = s.live := rfl
@[simp] theorem State.supMod_active (i : Nat) (f : SupplyX → SupplyX) : (State.supMod i f s).active = s.active := rfl
@[simp] theorem State.supMod_shadow (i : Nat) (f : SupplyX → SupplyX) : (State.supMod i f s).shadow = s.shadow := rfl
@[simp] theorem State.supMod_mem (i : Nat) (f : SupplyX → SupplyX) : (State.supMod i f s).mem = s.mem := rfl
@[simp] theorem State.supMod_pending (i : Nat) (f : SupplyX → SupplyX) : (State.supMod i f s).pending = s.pending := rfl
@[simp] theorem State.supMod_freeIx (i : Nat) (f : SupplyX → SupplyX) : (State.supMod i f s).freeIx = s.freeIx := rfl
@[simp] theorem State.supMod_tick (i : Nat) (f : SupplyX → SupplyX) : (State.supMod i f s).tick = s.tick := rfl
@[simp] theorem State.supMod_devSub (i : Nat) (f : SupplyX → SupplyX) : (State.supMod i f s).devSub = s.devSub := rfl
@[simp] theorem State.supMod_plat (i : Nat) (f : SupplyX → SupplyX) : (State.supMod i f s).plat = s.plat := rfl
@[simp] theorem State.supMod_isl (i : Nat) (f : SupplyX → SupplyX) : (State.supMod i f s).isl = s.isl := rfl
@[simp] theorem State.supMod_fc (i : Nat) (f : SupplyX → SupplyX) : (State.supMod i f s).fc = s.fc := rfl
@[simp] theorem State.supMod_md (i : Nat) (f : SupplyX → SupplyX) : (State.supMod i f s).md = s.md := rfl
@[simp] theorem State.supMod_sw (i : Nat) (f : SupplyX → SupplyX) : (State.supMod i f s).sw = s.sw := rfl
@[simp] theorem State.supMod_nv (i : Nat) (f : SupplyX → SupplyX) : (State.supMod i f s).nv = s.nv := rfl
@[simp] theorem State.supMod_hbDrive (i : Nat) (f : SupplyX → SupplyX) : (State.supMod i f s).hbDrive = s.hbDrive := rfl
@[simp] theorem State.supMod_lvDrive (i : Nat) (f : SupplyX → SupplyX) : (State.supMod i f s).lvDrive = s.lvDrive := rfl
@[simp] theorem State.supMod_gsDrive (i : Nat) (f : SupplyX → SupplyX) : (State.supMod i f s).gsDrive = s.gsDrive := rfl
@[simp] theorem State.supMod_tb (i : Nat) (f : SupplyX → SupplyX) : (State.supMod i f s).tb = s.tb := rfl
@[simp] theorem State.supMod_grp (i : Nat) (f : SupplyX → SupplyX) : (State.supMod i f s).grp = s.grp := rfl
@[simp] theorem State.supMod_chan (i : Nat) (f : SupplyX → SupplyX) : (State.supMod i f s).chan = s.chan := rfl
@[simp] theorem State.supMod_slots (i : Nat) (f : SupplyX → SupplyX) : (State.supMod i f s).slots = s.slots := rfl
@[simp] theorem State.supMod_eng (i : Nat) (f : SupplyX → SupplyX) : (State.supMod i f s).eng = s.eng := rfl
@[simp] theorem State.supMod_ports (i : Nat) (f : SupplyX → SupplyX) : (State.supMod i f s).ports = s.ports := rfl
@[simp] theorem State.supMod_sdRaised (i : Nat) (f : SupplyX → SupplyX) : (State.supMod i f s).sdRaised = s.sdRaised := rfl
@[simp] theorem State.supMod_obs (i : Nat) (f : SupplyX → SupplyX) : (State.supMod i f s).obs = s.obs := rfl
@[simp] theorem State.supMod_sdTripped (i : Nat) (f : SupplyX → SupplyX) : (State.supMod i f s).sdTripped = s.sdTripped := rfl
@[simp] theorem State.supMod_leave (i : Nat) (f : SupplyX → SupplyX) : (State.supMod i f s).leave = s.leave := rfl
@[simp] theorem State.supMod_gsx (i : Nat) (f : SupplyX → SupplyX) : (State.supMod i f s).gsx = s.gsx := rfl
@[simp] theorem State.supMod_snx (i : Nat) (f : SupplyX → SupplyX) : (State.supMod i f s).snx = s.snx := rfl
@[simp] theorem State.supMod_trac (i : Nat) (f : SupplyX → SupplyX) : (State.supMod i f s).trac = s.trac := rfl
@[simp] theorem State.supMod_linkPrev (i : Nat) (f : SupplyX → SupplyX) : (State.supMod i f s).linkPrev = s.linkPrev := rfl
@[simp] theorem State.supMod_planAt (i : Nat) (f : SupplyX → SupplyX) : (State.supMod i f s).planAt = s.planAt := rfl
@[simp] theorem State.supMod_passTick (i : Nat) (f : SupplyX → SupplyX) : (State.supMod i f s).passTick = s.passTick := rfl
@[simp] theorem State.supMod_six (i : Nat) (f : SupplyX → SupplyX) : (State.supMod i f s).six = s.six := rfl
@[simp] theorem State.supMod_soHigh (i : Nat) (f : SupplyX → SupplyX) : (State.supMod i f s).soHigh = s.soHigh := rfl
@[simp] theorem State.supMod_cp (i : Nat) (f : SupplyX → SupplyX) : (State.supMod i f s).cp = s.cp := rfl
@[simp] theorem State.supMod_wc (i : Nat) (f : SupplyX → SupplyX) : (State.supMod i f s).wc = s.wc := rfl
@[simp] theorem State.supMod_lv (i : Nat) (f : SupplyX → SupplyX) : (State.supMod i f s).lv = s.lv := rfl
@[simp] theorem State.supMod_lamps (i : Nat) (f : SupplyX → SupplyX) : (State.supMod i f s).lamps = s.lamps := rfl
@[simp] theorem State.supMod_ga (i : Nat) (f : SupplyX → SupplyX) : (State.supMod i f s).ga = s.ga := rfl
@[simp] theorem State.supMod_lk (i : Nat) (f : SupplyX → SupplyX) : (State.supMod i f s).lk = s.lk := rfl
@[simp] theorem State.supMod_post (i : Nat) (f : SupplyX → SupplyX) : (State.supMod i f s).post = s.post := rfl
@[simp] theorem State.supMod_td (i : Nat) (f : SupplyX → SupplyX) : (State.supMod i f s).td = s.td := rfl
@[simp] theorem State.supMod_st (i : Nat) (f : SupplyX → SupplyX) : (State.supMod i f s).st = s.st := rfl
@[simp] theorem State.supMod_cc (i : Nat) (f : SupplyX → SupplyX) : (State.supMod i f s).cc = s.cc := rfl
@[simp] theorem State.supMod_mon (i : Nat) (f : SupplyX → SupplyX) : (State.supMod i f s).mon = s.mon := rfl
@[simp] theorem State.supMod_mtr (i : Nat) (f : SupplyX → SupplyX) : (State.supMod i f s).mtr = s.mtr := rfl
@[simp] theorem State.supMod_net (i : Nat) (f : SupplyX → SupplyX) : (State.supMod i f s).net = s.net := rfl
@[simp] theorem State.supMod_can (i : Nat) (f : SupplyX → SupplyX) : (State.supMod i f s).can = s.can := rfl
@[simp] theorem State.supMod_esl (i : Nat) (f : SupplyX → SupplyX) : (State.supMod i f s).esl = s.esl := rfl
@[simp] theorem State.supMod_image (i : Nat) (f : SupplyX → SupplyX) : (State.supMod i f s).image = s.image := rfl
@[simp] theorem State.supMod_takeup (i : Nat) (f : SupplyX → SupplyX) : (State.supMod i f s).takeup = s.takeup := rfl
@[simp] theorem State.supMod_roa (i : Nat) (f : SupplyX → SupplyX) : (State.supMod i f s).roa = s.roa := rfl
@[simp] theorem State.supMod_memx (i : Nat) (f : SupplyX → SupplyX) : (State.supMod i f s).memx = s.memx := rfl
@[simp] theorem State.supMod_hm (i : Nat) (f : SupplyX → SupplyX) : (State.supMod i f s).hm = s.hm := rfl
@[simp] theorem State.supMod_ro (i : Nat) (f : SupplyX → SupplyX) (j : Nat) : (State.supMod i f s).o j = s.o j := rfl
@[simp] theorem State.supMod_roN (i : Nat) (f : SupplyX → SupplyX) (j : Nat) : (State.supMod i f s).oN j = s.oN j := rfl
@[simp] theorem State.supMod_roF (i : Nat) (f : SupplyX → SupplyX) (j : Nat) : (State.supMod i f s).oF j = s.oF j := rfl
@[simp] theorem State.supMod_rc (i : Nat) (f : SupplyX → SupplyX) (j : Nat) : (State.supMod i f s).c j = s.c j := rfl
@[simp] theorem State.supMod_rcN (i : Nat) (f : SupplyX → SupplyX) (j : Nat) : (State.supMod i f s).cN j = s.cN j := rfl
@[simp] theorem State.supMod_rcF (i : Nat) (f : SupplyX → SupplyX) (j : Nat) : (State.supMod i f s).cF j = s.cF j := rfl
@[simp] theorem State.supMod_mode (i : Nat) (f : SupplyX → SupplyX) : (State.supMod i f s).mode = s.mode := rfl
@[simp] theorem State.supMod_up (i : Nat) (f : SupplyX → SupplyX) : (State.supMod i f s).up = s.up := rfl

/-! ## siMod changes six alone -/

@[simp] theorem State.siMod_live (i : Nat) (f : SiX → SiX) : (State.siMod i f s).live = s.live := rfl
@[simp] theorem State.siMod_active (i : Nat) (f : SiX → SiX) : (State.siMod i f s).active = s.active := rfl
@[simp] theorem State.siMod_shadow (i : Nat) (f : SiX → SiX) : (State.siMod i f s).shadow = s.shadow := rfl
@[simp] theorem State.siMod_mem (i : Nat) (f : SiX → SiX) : (State.siMod i f s).mem = s.mem := rfl
@[simp] theorem State.siMod_pending (i : Nat) (f : SiX → SiX) : (State.siMod i f s).pending = s.pending := rfl
@[simp] theorem State.siMod_freeIx (i : Nat) (f : SiX → SiX) : (State.siMod i f s).freeIx = s.freeIx := rfl
@[simp] theorem State.siMod_tick (i : Nat) (f : SiX → SiX) : (State.siMod i f s).tick = s.tick := rfl
@[simp] theorem State.siMod_devSub (i : Nat) (f : SiX → SiX) : (State.siMod i f s).devSub = s.devSub := rfl
@[simp] theorem State.siMod_plat (i : Nat) (f : SiX → SiX) : (State.siMod i f s).plat = s.plat := rfl
@[simp] theorem State.siMod_isl (i : Nat) (f : SiX → SiX) : (State.siMod i f s).isl = s.isl := rfl
@[simp] theorem State.siMod_fc (i : Nat) (f : SiX → SiX) : (State.siMod i f s).fc = s.fc := rfl
@[simp] theorem State.siMod_md (i : Nat) (f : SiX → SiX) : (State.siMod i f s).md = s.md := rfl
@[simp] theorem State.siMod_sw (i : Nat) (f : SiX → SiX) : (State.siMod i f s).sw = s.sw := rfl
@[simp] theorem State.siMod_nv (i : Nat) (f : SiX → SiX) : (State.siMod i f s).nv = s.nv := rfl
@[simp] theorem State.siMod_hbDrive (i : Nat) (f : SiX → SiX) : (State.siMod i f s).hbDrive = s.hbDrive := rfl
@[simp] theorem State.siMod_lvDrive (i : Nat) (f : SiX → SiX) : (State.siMod i f s).lvDrive = s.lvDrive := rfl
@[simp] theorem State.siMod_gsDrive (i : Nat) (f : SiX → SiX) : (State.siMod i f s).gsDrive = s.gsDrive := rfl
@[simp] theorem State.siMod_tb (i : Nat) (f : SiX → SiX) : (State.siMod i f s).tb = s.tb := rfl
@[simp] theorem State.siMod_grp (i : Nat) (f : SiX → SiX) : (State.siMod i f s).grp = s.grp := rfl
@[simp] theorem State.siMod_chan (i : Nat) (f : SiX → SiX) : (State.siMod i f s).chan = s.chan := rfl
@[simp] theorem State.siMod_slots (i : Nat) (f : SiX → SiX) : (State.siMod i f s).slots = s.slots := rfl
@[simp] theorem State.siMod_eng (i : Nat) (f : SiX → SiX) : (State.siMod i f s).eng = s.eng := rfl
@[simp] theorem State.siMod_ports (i : Nat) (f : SiX → SiX) : (State.siMod i f s).ports = s.ports := rfl
@[simp] theorem State.siMod_sdRaised (i : Nat) (f : SiX → SiX) : (State.siMod i f s).sdRaised = s.sdRaised := rfl
@[simp] theorem State.siMod_obs (i : Nat) (f : SiX → SiX) : (State.siMod i f s).obs = s.obs := rfl
@[simp] theorem State.siMod_sdTripped (i : Nat) (f : SiX → SiX) : (State.siMod i f s).sdTripped = s.sdTripped := rfl
@[simp] theorem State.siMod_leave (i : Nat) (f : SiX → SiX) : (State.siMod i f s).leave = s.leave := rfl
@[simp] theorem State.siMod_gsx (i : Nat) (f : SiX → SiX) : (State.siMod i f s).gsx = s.gsx := rfl
@[simp] theorem State.siMod_sup (i : Nat) (f : SiX → SiX) : (State.siMod i f s).sup = s.sup := rfl
@[simp] theorem State.siMod_snx (i : Nat) (f : SiX → SiX) : (State.siMod i f s).snx = s.snx := rfl
@[simp] theorem State.siMod_trac (i : Nat) (f : SiX → SiX) : (State.siMod i f s).trac = s.trac := rfl
@[simp] theorem State.siMod_linkPrev (i : Nat) (f : SiX → SiX) : (State.siMod i f s).linkPrev = s.linkPrev := rfl
@[simp] theorem State.siMod_planAt (i : Nat) (f : SiX → SiX) : (State.siMod i f s).planAt = s.planAt := rfl
@[simp] theorem State.siMod_passTick (i : Nat) (f : SiX → SiX) : (State.siMod i f s).passTick = s.passTick := rfl
@[simp] theorem State.siMod_soHigh (i : Nat) (f : SiX → SiX) : (State.siMod i f s).soHigh = s.soHigh := rfl
@[simp] theorem State.siMod_cp (i : Nat) (f : SiX → SiX) : (State.siMod i f s).cp = s.cp := rfl
@[simp] theorem State.siMod_wc (i : Nat) (f : SiX → SiX) : (State.siMod i f s).wc = s.wc := rfl
@[simp] theorem State.siMod_lv (i : Nat) (f : SiX → SiX) : (State.siMod i f s).lv = s.lv := rfl
@[simp] theorem State.siMod_lamps (i : Nat) (f : SiX → SiX) : (State.siMod i f s).lamps = s.lamps := rfl
@[simp] theorem State.siMod_ga (i : Nat) (f : SiX → SiX) : (State.siMod i f s).ga = s.ga := rfl
@[simp] theorem State.siMod_lk (i : Nat) (f : SiX → SiX) : (State.siMod i f s).lk = s.lk := rfl
@[simp] theorem State.siMod_post (i : Nat) (f : SiX → SiX) : (State.siMod i f s).post = s.post := rfl
@[simp] theorem State.siMod_td (i : Nat) (f : SiX → SiX) : (State.siMod i f s).td = s.td := rfl
@[simp] theorem State.siMod_st (i : Nat) (f : SiX → SiX) : (State.siMod i f s).st = s.st := rfl
@[simp] theorem State.siMod_cc (i : Nat) (f : SiX → SiX) : (State.siMod i f s).cc = s.cc := rfl
@[simp] theorem State.siMod_mon (i : Nat) (f : SiX → SiX) : (State.siMod i f s).mon = s.mon := rfl
@[simp] theorem State.siMod_mtr (i : Nat) (f : SiX → SiX) : (State.siMod i f s).mtr = s.mtr := rfl
@[simp] theorem State.siMod_net (i : Nat) (f : SiX → SiX) : (State.siMod i f s).net = s.net := rfl
@[simp] theorem State.siMod_can (i : Nat) (f : SiX → SiX) : (State.siMod i f s).can = s.can := rfl
@[simp] theorem State.siMod_esl (i : Nat) (f : SiX → SiX) : (State.siMod i f s).esl = s.esl := rfl
@[simp] theorem State.siMod_image (i : Nat) (f : SiX → SiX) : (State.siMod i f s).image = s.image := rfl
@[simp] theorem State.siMod_takeup (i : Nat) (f : SiX → SiX) : (State.siMod i f s).takeup = s.takeup := rfl
@[simp] theorem State.siMod_roa (i : Nat) (f : SiX → SiX) : (State.siMod i f s).roa = s.roa := rfl
@[simp] theorem State.siMod_memx (i : Nat) (f : SiX → SiX) : (State.siMod i f s).memx = s.memx := rfl
@[simp] theorem State.siMod_hm (i : Nat) (f : SiX → SiX) : (State.siMod i f s).hm = s.hm := rfl
@[simp] theorem State.siMod_ro (i : Nat) (f : SiX → SiX) (j : Nat) : (State.siMod i f s).o j = s.o j := rfl
@[simp] theorem State.siMod_roN (i : Nat) (f : SiX → SiX) (j : Nat) : (State.siMod i f s).oN j = s.oN j := rfl
@[simp] theorem State.siMod_roF (i : Nat) (f : SiX → SiX) (j : Nat) : (State.siMod i f s).oF j = s.oF j := rfl
@[simp] theorem State.siMod_rc (i : Nat) (f : SiX → SiX) (j : Nat) : (State.siMod i f s).c j = s.c j := rfl
@[simp] theorem State.siMod_rcN (i : Nat) (f : SiX → SiX) (j : Nat) : (State.siMod i f s).cN j = s.cN j := rfl
@[simp] theorem State.siMod_rcF (i : Nat) (f : SiX → SiX) (j : Nat) : (State.siMod i f s).cF j = s.cF j := rfl
@[simp] theorem State.siMod_mode (i : Nat) (f : SiX → SiX) : (State.siMod i f s).mode = s.mode := rfl
@[simp] theorem State.siMod_up (i : Nat) (f : SiX → SiX) : (State.siMod i f s).up = s.up := rfl

/-! ## cpMod changes cp alone -/

@[simp] theorem State.cpMod_live (i : Nat) (f : CpX → CpX) : (State.cpMod i f s).live = s.live := rfl
@[simp] theorem State.cpMod_active (i : Nat) (f : CpX → CpX) : (State.cpMod i f s).active = s.active := rfl
@[simp] theorem State.cpMod_shadow (i : Nat) (f : CpX → CpX) : (State.cpMod i f s).shadow = s.shadow := rfl
@[simp] theorem State.cpMod_mem (i : Nat) (f : CpX → CpX) : (State.cpMod i f s).mem = s.mem := rfl
@[simp] theorem State.cpMod_pending (i : Nat) (f : CpX → CpX) : (State.cpMod i f s).pending = s.pending := rfl
@[simp] theorem State.cpMod_freeIx (i : Nat) (f : CpX → CpX) : (State.cpMod i f s).freeIx = s.freeIx := rfl
@[simp] theorem State.cpMod_tick (i : Nat) (f : CpX → CpX) : (State.cpMod i f s).tick = s.tick := rfl
@[simp] theorem State.cpMod_devSub (i : Nat) (f : CpX → CpX) : (State.cpMod i f s).devSub = s.devSub := rfl
@[simp] theorem State.cpMod_plat (i : Nat) (f : CpX → CpX) : (State.cpMod i f s).plat = s.plat := rfl
@[simp] theorem State.cpMod_isl (i : Nat) (f : CpX → CpX) : (State.cpMod i f s).isl = s.isl := rfl
@[simp] theorem State.cpMod_fc (i : Nat) (f : CpX → CpX) : (State.cpMod i f s).fc = s.fc := rfl
@[simp] theorem State.cpMod_md (i : Nat) (f : CpX → CpX) : (State.cpMod i f s).md = s.md := rfl
@[simp] theorem State.cpMod_sw (i : Nat) (f : CpX → CpX) : (State.cpMod i f s).sw = s.sw := rfl
@[simp] theorem State.cpMod_nv (i : Nat) (f : CpX → CpX) : (State.cpMod i f s).nv = s.nv := rfl
@[simp] theorem State.cpMod_hbDrive (i : Nat) (f : CpX → CpX) : (State.cpMod i f s).hbDrive = s.hbDrive := rfl
@[simp] theorem State.cpMod_lvDrive (i : Nat) (f : CpX → CpX) : (State.cpMod i f s).lvDrive = s.lvDrive := rfl
@[simp] theorem State.cpMod_gsDrive (i : Nat) (f : CpX → CpX) : (State.cpMod i f s).gsDrive = s.gsDrive := rfl
@[simp] theorem State.cpMod_tb (i : Nat) (f : CpX → CpX) : (State.cpMod i f s).tb = s.tb := rfl
@[simp] theorem State.cpMod_grp (i : Nat) (f : CpX → CpX) : (State.cpMod i f s).grp = s.grp := rfl
@[simp] theorem State.cpMod_chan (i : Nat) (f : CpX → CpX) : (State.cpMod i f s).chan = s.chan := rfl
@[simp] theorem State.cpMod_slots (i : Nat) (f : CpX → CpX) : (State.cpMod i f s).slots = s.slots := rfl
@[simp] theorem State.cpMod_eng (i : Nat) (f : CpX → CpX) : (State.cpMod i f s).eng = s.eng := rfl
@[simp] theorem State.cpMod_ports (i : Nat) (f : CpX → CpX) : (State.cpMod i f s).ports = s.ports := rfl
@[simp] theorem State.cpMod_sdRaised (i : Nat) (f : CpX → CpX) : (State.cpMod i f s).sdRaised = s.sdRaised := rfl
@[simp] theorem State.cpMod_obs (i : Nat) (f : CpX → CpX) : (State.cpMod i f s).obs = s.obs := rfl
@[simp] theorem State.cpMod_sdTripped (i : Nat) (f : CpX → CpX) : (State.cpMod i f s).sdTripped = s.sdTripped := rfl
@[simp] theorem State.cpMod_leave (i : Nat) (f : CpX → CpX) : (State.cpMod i f s).leave = s.leave := rfl
@[simp] theorem State.cpMod_gsx (i : Nat) (f : CpX → CpX) : (State.cpMod i f s).gsx = s.gsx := rfl
@[simp] theorem State.cpMod_sup (i : Nat) (f : CpX → CpX) : (State.cpMod i f s).sup = s.sup := rfl
@[simp] theorem State.cpMod_snx (i : Nat) (f : CpX → CpX) : (State.cpMod i f s).snx = s.snx := rfl
@[simp] theorem State.cpMod_trac (i : Nat) (f : CpX → CpX) : (State.cpMod i f s).trac = s.trac := rfl
@[simp] theorem State.cpMod_linkPrev (i : Nat) (f : CpX → CpX) : (State.cpMod i f s).linkPrev = s.linkPrev := rfl
@[simp] theorem State.cpMod_planAt (i : Nat) (f : CpX → CpX) : (State.cpMod i f s).planAt = s.planAt := rfl
@[simp] theorem State.cpMod_passTick (i : Nat) (f : CpX → CpX) : (State.cpMod i f s).passTick = s.passTick := rfl
@[simp] theorem State.cpMod_six (i : Nat) (f : CpX → CpX) : (State.cpMod i f s).six = s.six := rfl
@[simp] theorem State.cpMod_soHigh (i : Nat) (f : CpX → CpX) : (State.cpMod i f s).soHigh = s.soHigh := rfl
@[simp] theorem State.cpMod_wc (i : Nat) (f : CpX → CpX) : (State.cpMod i f s).wc = s.wc := rfl
@[simp] theorem State.cpMod_lv (i : Nat) (f : CpX → CpX) : (State.cpMod i f s).lv = s.lv := rfl
@[simp] theorem State.cpMod_lamps (i : Nat) (f : CpX → CpX) : (State.cpMod i f s).lamps = s.lamps := rfl
@[simp] theorem State.cpMod_ga (i : Nat) (f : CpX → CpX) : (State.cpMod i f s).ga = s.ga := rfl
@[simp] theorem State.cpMod_lk (i : Nat) (f : CpX → CpX) : (State.cpMod i f s).lk = s.lk := rfl
@[simp] theorem State.cpMod_post (i : Nat) (f : CpX → CpX) : (State.cpMod i f s).post = s.post := rfl
@[simp] theorem State.cpMod_td (i : Nat) (f : CpX → CpX) : (State.cpMod i f s).td = s.td := rfl
@[simp] theorem State.cpMod_st (i : Nat) (f : CpX → CpX) : (State.cpMod i f s).st = s.st := rfl
@[simp] theorem State.cpMod_cc (i : Nat) (f : CpX → CpX) : (State.cpMod i f s).cc = s.cc := rfl
@[simp] theorem State.cpMod_mon (i : Nat) (f : CpX → CpX) : (State.cpMod i f s).mon = s.mon := rfl
@[simp] theorem State.cpMod_mtr (i : Nat) (f : CpX → CpX) : (State.cpMod i f s).mtr = s.mtr := rfl
@[simp] theorem State.cpMod_net (i : Nat) (f : CpX → CpX) : (State.cpMod i f s).net = s.net := rfl
@[simp] theorem State.cpMod_can (i : Nat) (f : CpX → CpX) : (State.cpMod i f s).can = s.can := rfl
@[simp] theorem State.cpMod_esl (i : Nat) (f : CpX → CpX) : (State.cpMod i f s).esl = s.esl := rfl
@[simp] theorem State.cpMod_image (i : Nat) (f : CpX → CpX) : (State.cpMod i f s).image = s.image := rfl
@[simp] theorem State.cpMod_takeup (i : Nat) (f : CpX → CpX) : (State.cpMod i f s).takeup = s.takeup := rfl
@[simp] theorem State.cpMod_roa (i : Nat) (f : CpX → CpX) : (State.cpMod i f s).roa = s.roa := rfl
@[simp] theorem State.cpMod_memx (i : Nat) (f : CpX → CpX) : (State.cpMod i f s).memx = s.memx := rfl
@[simp] theorem State.cpMod_hm (i : Nat) (f : CpX → CpX) : (State.cpMod i f s).hm = s.hm := rfl
@[simp] theorem State.cpMod_ro (i : Nat) (f : CpX → CpX) (j : Nat) : (State.cpMod i f s).o j = s.o j := rfl
@[simp] theorem State.cpMod_roN (i : Nat) (f : CpX → CpX) (j : Nat) : (State.cpMod i f s).oN j = s.oN j := rfl
@[simp] theorem State.cpMod_roF (i : Nat) (f : CpX → CpX) (j : Nat) : (State.cpMod i f s).oF j = s.oF j := rfl
@[simp] theorem State.cpMod_rc (i : Nat) (f : CpX → CpX) (j : Nat) : (State.cpMod i f s).c j = s.c j := rfl
@[simp] theorem State.cpMod_rcN (i : Nat) (f : CpX → CpX) (j : Nat) : (State.cpMod i f s).cN j = s.cN j := rfl
@[simp] theorem State.cpMod_rcF (i : Nat) (f : CpX → CpX) (j : Nat) : (State.cpMod i f s).cF j = s.cF j := rfl
@[simp] theorem State.cpMod_mode (i : Nat) (f : CpX → CpX) : (State.cpMod i f s).mode = s.mode := rfl
@[simp] theorem State.cpMod_up (i : Nat) (f : CpX → CpX) : (State.cpMod i f s).up = s.up := rfl

/-! ## gaMod changes ga alone -/

@[simp] theorem State.gaMod_live (i : Nat) (f : GaX → GaX) : (State.gaMod i f s).live = s.live := rfl
@[simp] theorem State.gaMod_active (i : Nat) (f : GaX → GaX) : (State.gaMod i f s).active = s.active := rfl
@[simp] theorem State.gaMod_shadow (i : Nat) (f : GaX → GaX) : (State.gaMod i f s).shadow = s.shadow := rfl
@[simp] theorem State.gaMod_mem (i : Nat) (f : GaX → GaX) : (State.gaMod i f s).mem = s.mem := rfl
@[simp] theorem State.gaMod_pending (i : Nat) (f : GaX → GaX) : (State.gaMod i f s).pending = s.pending := rfl
@[simp] theorem State.gaMod_freeIx (i : Nat) (f : GaX → GaX) : (State.gaMod i f s).freeIx = s.freeIx := rfl
@[simp] theorem State.gaMod_tick (i : Nat) (f : GaX → GaX) : (State.gaMod i f s).tick = s.tick := rfl
@[simp] theorem State.gaMod_devSub (i : Nat) (f : GaX → GaX) : (State.gaMod i f s).devSub = s.devSub := rfl
@[simp] theorem State.gaMod_plat (i : Nat) (f : GaX → GaX) : (State.gaMod i f s).plat = s.plat := rfl
@[simp] theorem State.gaMod_isl (i : Nat) (f : GaX → GaX) : (State.gaMod i f s).isl = s.isl := rfl
@[simp] theorem State.gaMod_fc (i : Nat) (f : GaX → GaX) : (State.gaMod i f s).fc = s.fc := rfl
@[simp] theorem State.gaMod_md (i : Nat) (f : GaX → GaX) : (State.gaMod i f s).md = s.md := rfl
@[simp] theorem State.gaMod_sw (i : Nat) (f : GaX → GaX) : (State.gaMod i f s).sw = s.sw := rfl
@[simp] theorem State.gaMod_nv (i : Nat) (f : GaX → GaX) : (State.gaMod i f s).nv = s.nv := rfl
@[simp] theorem State.gaMod_hbDrive (i : Nat) (f : GaX → GaX) : (State.gaMod i f s).hbDrive = s.hbDrive := rfl
@[simp] theorem State.gaMod_lvDrive (i : Nat) (f : GaX → GaX) : (State.gaMod i f s).lvDrive = s.lvDrive := rfl
@[simp] theorem State.gaMod_gsDrive (i : Nat) (f : GaX → GaX) : (State.gaMod i f s).gsDrive = s.gsDrive := rfl
@[simp] theorem State.gaMod_tb (i : Nat) (f : GaX → GaX) : (State.gaMod i f s).tb = s.tb := rfl
@[simp] theorem State.gaMod_grp (i : Nat) (f : GaX → GaX) : (State.gaMod i f s).grp = s.grp := rfl
@[simp] theorem State.gaMod_chan (i : Nat) (f : GaX → GaX) : (State.gaMod i f s).chan = s.chan := rfl
@[simp] theorem State.gaMod_slots (i : Nat) (f : GaX → GaX) : (State.gaMod i f s).slots = s.slots := rfl
@[simp] theorem State.gaMod_eng (i : Nat) (f : GaX → GaX) : (State.gaMod i f s).eng = s.eng := rfl
@[simp] theorem State.gaMod_ports (i : Nat) (f : GaX → GaX) : (State.gaMod i f s).ports = s.ports := rfl
@[simp] theorem State.gaMod_sdRaised (i : Nat) (f : GaX → GaX) : (State.gaMod i f s).sdRaised = s.sdRaised := rfl
@[simp] theorem State.gaMod_obs (i : Nat) (f : GaX → GaX) : (State.gaMod i f s).obs = s.obs := rfl
@[simp] theorem State.gaMod_sdTripped (i : Nat) (f : GaX → GaX) : (State.gaMod i f s).sdTripped = s.sdTripped := rfl
@[simp] theorem State.gaMod_leave (i : Nat) (f : GaX → GaX) : (State.gaMod i f s).leave = s.leave := rfl
@[simp] theorem State.gaMod_gsx (i : Nat) (f : GaX → GaX) : (State.gaMod i f s).gsx = s.gsx := rfl
@[simp] theorem State.gaMod_sup (i : Nat) (f : GaX → GaX) : (State.gaMod i f s).sup = s.sup := rfl
@[simp] theorem State.gaMod_snx (i : Nat) (f : GaX → GaX) : (State.gaMod i f s).snx = s.snx := rfl
@[simp] theorem State.gaMod_trac (i : Nat) (f : GaX → GaX) : (State.gaMod i f s).trac = s.trac := rfl
@[simp] theorem State.gaMod_linkPrev (i : Nat) (f : GaX → GaX) : (State.gaMod i f s).linkPrev = s.linkPrev := rfl
@[simp] theorem State.gaMod_planAt (i : Nat) (f : GaX → GaX) : (State.gaMod i f s).planAt = s.planAt := rfl
@[simp] theorem State.gaMod_passTick (i : Nat) (f : GaX → GaX) : (State.gaMod i f s).passTick = s.passTick := rfl
@[simp] theorem State.gaMod_six (i : Nat) (f : GaX → GaX) : (State.gaMod i f s).six = s.six := rfl
@[simp] theorem State.gaMod_soHigh (i : Nat) (f : GaX → GaX) : (State.gaMod i f s).soHigh = s.soHigh := rfl
@[simp] theorem State.gaMod_cp (i : Nat) (f : GaX → GaX) : (State.gaMod i f s).cp = s.cp := rfl
@[simp] theorem State.gaMod_wc (i : Nat) (f : GaX → GaX) : (State.gaMod i f s).wc = s.wc := rfl
@[simp] theorem State.gaMod_lv (i : Nat) (f : GaX → GaX) : (State.gaMod i f s).lv = s.lv := rfl
@[simp] theorem State.gaMod_lamps (i : Nat) (f : GaX → GaX) : (State.gaMod i f s).lamps = s.lamps := rfl
@[simp] theorem State.gaMod_lk (i : Nat) (f : GaX → GaX) : (State.gaMod i f s).lk = s.lk := rfl
@[simp] theorem State.gaMod_post (i : Nat) (f : GaX → GaX) : (State.gaMod i f s).post = s.post := rfl
@[simp] theorem State.gaMod_td (i : Nat) (f : GaX → GaX) : (State.gaMod i f s).td = s.td := rfl
@[simp] theorem State.gaMod_st (i : Nat) (f : GaX → GaX) : (State.gaMod i f s).st = s.st := rfl
@[simp] theorem State.gaMod_cc (i : Nat) (f : GaX → GaX) : (State.gaMod i f s).cc = s.cc := rfl
@[simp] theorem State.gaMod_mon (i : Nat) (f : GaX → GaX) : (State.gaMod i f s).mon = s.mon := rfl
@[simp] theorem State.gaMod_mtr (i : Nat) (f : GaX → GaX) : (State.gaMod i f s).mtr = s.mtr := rfl
@[simp] theorem State.gaMod_net (i : Nat) (f : GaX → GaX) : (State.gaMod i f s).net = s.net := rfl
@[simp] theorem State.gaMod_can (i : Nat) (f : GaX → GaX) : (State.gaMod i f s).can = s.can := rfl
@[simp] theorem State.gaMod_esl (i : Nat) (f : GaX → GaX) : (State.gaMod i f s).esl = s.esl := rfl
@[simp] theorem State.gaMod_image (i : Nat) (f : GaX → GaX) : (State.gaMod i f s).image = s.image := rfl
@[simp] theorem State.gaMod_takeup (i : Nat) (f : GaX → GaX) : (State.gaMod i f s).takeup = s.takeup := rfl
@[simp] theorem State.gaMod_roa (i : Nat) (f : GaX → GaX) : (State.gaMod i f s).roa = s.roa := rfl
@[simp] theorem State.gaMod_memx (i : Nat) (f : GaX → GaX) : (State.gaMod i f s).memx = s.memx := rfl
@[simp] theorem State.gaMod_hm (i : Nat) (f : GaX → GaX) : (State.gaMod i f s).hm = s.hm := rfl
@[simp] theorem State.gaMod_ro (i : Nat) (f : GaX → GaX) (j : Nat) : (State.gaMod i f s).o j = s.o j := rfl
@[simp] theorem State.gaMod_roN (i : Nat) (f : GaX → GaX) (j : Nat) : (State.gaMod i f s).oN j = s.oN j := rfl
@[simp] theorem State.gaMod_roF (i : Nat) (f : GaX → GaX) (j : Nat) : (State.gaMod i f s).oF j = s.oF j := rfl
@[simp] theorem State.gaMod_rc (i : Nat) (f : GaX → GaX) (j : Nat) : (State.gaMod i f s).c j = s.c j := rfl
@[simp] theorem State.gaMod_rcN (i : Nat) (f : GaX → GaX) (j : Nat) : (State.gaMod i f s).cN j = s.cN j := rfl
@[simp] theorem State.gaMod_rcF (i : Nat) (f : GaX → GaX) (j : Nat) : (State.gaMod i f s).cF j = s.cF j := rfl
@[simp] theorem State.gaMod_mode (i : Nat) (f : GaX → GaX) : (State.gaMod i f s).mode = s.mode := rfl
@[simp] theorem State.gaMod_up (i : Nat) (f : GaX → GaX) : (State.gaMod i f s).up = s.up := rfl

/-! ## canMod changes can alone -/

@[simp] theorem State.canMod_live (i : Nat) (f : CanX → CanX) : (State.canMod i f s).live = s.live := rfl
@[simp] theorem State.canMod_active (i : Nat) (f : CanX → CanX) : (State.canMod i f s).active = s.active := rfl
@[simp] theorem State.canMod_shadow (i : Nat) (f : CanX → CanX) : (State.canMod i f s).shadow = s.shadow := rfl
@[simp] theorem State.canMod_mem (i : Nat) (f : CanX → CanX) : (State.canMod i f s).mem = s.mem := rfl
@[simp] theorem State.canMod_pending (i : Nat) (f : CanX → CanX) : (State.canMod i f s).pending = s.pending := rfl
@[simp] theorem State.canMod_freeIx (i : Nat) (f : CanX → CanX) : (State.canMod i f s).freeIx = s.freeIx := rfl
@[simp] theorem State.canMod_tick (i : Nat) (f : CanX → CanX) : (State.canMod i f s).tick = s.tick := rfl
@[simp] theorem State.canMod_devSub (i : Nat) (f : CanX → CanX) : (State.canMod i f s).devSub = s.devSub := rfl
@[simp] theorem State.canMod_plat (i : Nat) (f : CanX → CanX) : (State.canMod i f s).plat = s.plat := rfl
@[simp] theorem State.canMod_isl (i : Nat) (f : CanX → CanX) : (State.canMod i f s).isl = s.isl := rfl
@[simp] theorem State.canMod_fc (i : Nat) (f : CanX → CanX) : (State.canMod i f s).fc = s.fc := rfl
@[simp] theorem State.canMod_md (i : Nat) (f : CanX → CanX) : (State.canMod i f s).md = s.md := rfl
@[simp] theorem State.canMod_sw (i : Nat) (f : CanX → CanX) : (State.canMod i f s).sw = s.sw := rfl
@[simp] theorem State.canMod_nv (i : Nat) (f : CanX → CanX) : (State.canMod i f s).nv = s.nv := rfl
@[simp] theorem State.canMod_hbDrive (i : Nat) (f : CanX → CanX) : (State.canMod i f s).hbDrive = s.hbDrive := rfl
@[simp] theorem State.canMod_lvDrive (i : Nat) (f : CanX → CanX) : (State.canMod i f s).lvDrive = s.lvDrive := rfl
@[simp] theorem State.canMod_gsDrive (i : Nat) (f : CanX → CanX) : (State.canMod i f s).gsDrive = s.gsDrive := rfl
@[simp] theorem State.canMod_tb (i : Nat) (f : CanX → CanX) : (State.canMod i f s).tb = s.tb := rfl
@[simp] theorem State.canMod_grp (i : Nat) (f : CanX → CanX) : (State.canMod i f s).grp = s.grp := rfl
@[simp] theorem State.canMod_chan (i : Nat) (f : CanX → CanX) : (State.canMod i f s).chan = s.chan := rfl
@[simp] theorem State.canMod_slots (i : Nat) (f : CanX → CanX) : (State.canMod i f s).slots = s.slots := rfl
@[simp] theorem State.canMod_eng (i : Nat) (f : CanX → CanX) : (State.canMod i f s).eng = s.eng := rfl
@[simp] theorem State.canMod_ports (i : Nat) (f : CanX → CanX) : (State.canMod i f s).ports = s.ports := rfl
@[simp] theorem State.canMod_sdRaised (i : Nat) (f : CanX → CanX) : (State.canMod i f s).sdRaised = s.sdRaised := rfl
@[simp] theorem State.canMod_obs (i : Nat) (f : CanX → CanX) : (State.canMod i f s).obs = s.obs := rfl
@[simp] theorem State.canMod_sdTripped (i : Nat) (f : CanX → CanX) : (State.canMod i f s).sdTripped = s.sdTripped := rfl
@[simp] theorem State.canMod_leave (i : Nat) (f : CanX → CanX) : (State.canMod i f s).leave = s.leave := rfl
@[simp] theorem State.canMod_gsx (i : Nat) (f : CanX → CanX) : (State.canMod i f s).gsx = s.gsx := rfl
@[simp] theorem State.canMod_sup (i : Nat) (f : CanX → CanX) : (State.canMod i f s).sup = s.sup := rfl
@[simp] theorem State.canMod_snx (i : Nat) (f : CanX → CanX) : (State.canMod i f s).snx = s.snx := rfl
@[simp] theorem State.canMod_trac (i : Nat) (f : CanX → CanX) : (State.canMod i f s).trac = s.trac := rfl
@[simp] theorem State.canMod_linkPrev (i : Nat) (f : CanX → CanX) : (State.canMod i f s).linkPrev = s.linkPrev := rfl
@[simp] theorem State.canMod_planAt (i : Nat) (f : CanX → CanX) : (State.canMod i f s).planAt = s.planAt := rfl
@[simp] theorem State.canMod_passTick (i : Nat) (f : CanX → CanX) : (State.canMod i f s).passTick = s.passTick := rfl
@[simp] theorem State.canMod_six (i : Nat) (f : CanX → CanX) : (State.canMod i f s).six = s.six := rfl
@[simp] theorem State.canMod_soHigh (i : Nat) (f : CanX → CanX) : (State.canMod i f s).soHigh = s.soHigh := rfl
@[simp] theorem State.canMod_cp (i : Nat) (f : CanX → CanX) : (State.canMod i f s).cp = s.cp := rfl
@[simp] theorem State.canMod_wc (i : Nat) (f : CanX → CanX) : (State.canMod i f s).wc = s.wc := rfl
@[simp] theorem State.canMod_lv (i : Nat) (f : CanX → CanX) : (State.canMod i f s).lv = s.lv := rfl
@[simp] theorem State.canMod_lamps (i : Nat) (f : CanX → CanX) : (State.canMod i f s).lamps = s.lamps := rfl
@[simp] theorem State.canMod_ga (i : Nat) (f : CanX → CanX) : (State.canMod i f s).ga = s.ga := rfl
@[simp] theorem State.canMod_lk (i : Nat) (f : CanX → CanX) : (State.canMod i f s).lk = s.lk := rfl
@[simp] theorem State.canMod_post (i : Nat) (f : CanX → CanX) : (State.canMod i f s).post = s.post := rfl
@[simp] theorem State.canMod_td (i : Nat) (f : CanX → CanX) : (State.canMod i f s).td = s.td := rfl
@[simp] theorem State.canMod_st (i : Nat) (f : CanX → CanX) : (State.canMod i f s).st = s.st := rfl
@[simp] theorem State.canMod_cc (i : Nat) (f : CanX → CanX) : (State.canMod i f s).cc = s.cc := rfl
@[simp] theorem State.canMod_mon (i : Nat) (f : CanX → CanX) : (State.canMod i f s).mon = s.mon := rfl
@[simp] theorem State.canMod_mtr (i : Nat) (f : CanX → CanX) : (State.canMod i f s).mtr = s.mtr := rfl
@[simp] theorem State.canMod_net (i : Nat) (f : CanX → CanX) : (State.canMod i f s).net = s.net := rfl
@[simp] theorem State.canMod_esl (i : Nat) (f : CanX → CanX) : (State.canMod i f s).esl = s.esl := rfl
@[simp] theorem State.canMod_image (i : Nat) (f : CanX → CanX) : (State.canMod i f s).image = s.image := rfl
@[simp] theorem State.canMod_takeup (i : Nat) (f : CanX → CanX) : (State.canMod i f s).takeup = s.takeup := rfl
@[simp] theorem State.canMod_roa (i : Nat) (f : CanX → CanX) : (State.canMod i f s).roa = s.roa := rfl
@[simp] theorem State.canMod_memx (i : Nat) (f : CanX → CanX) : (State.canMod i f s).memx = s.memx := rfl
@[simp] theorem State.canMod_hm (i : Nat) (f : CanX → CanX) : (State.canMod i f s).hm = s.hm := rfl
@[simp] theorem State.canMod_ro (i : Nat) (f : CanX → CanX) (j : Nat) : (State.canMod i f s).o j = s.o j := rfl
@[simp] theorem State.canMod_roN (i : Nat) (f : CanX → CanX) (j : Nat) : (State.canMod i f s).oN j = s.oN j := rfl
@[simp] theorem State.canMod_roF (i : Nat) (f : CanX → CanX) (j : Nat) : (State.canMod i f s).oF j = s.oF j := rfl
@[simp] theorem State.canMod_rc (i : Nat) (f : CanX → CanX) (j : Nat) : (State.canMod i f s).c j = s.c j := rfl
@[simp] theorem State.canMod_rcN (i : Nat) (f : CanX → CanX) (j : Nat) : (State.canMod i f s).cN j = s.cN j := rfl
@[simp] theorem State.canMod_rcF (i : Nat) (f : CanX → CanX) (j : Nat) : (State.canMod i f s).cF j = s.cF j := rfl
@[simp] theorem State.canMod_mode (i : Nat) (f : CanX → CanX) : (State.canMod i f s).mode = s.mode := rfl
@[simp] theorem State.canMod_up (i : Nat) (f : CanX → CanX) : (State.canMod i f s).up = s.up := rfl

/-! ## ccMod changes cc alone -/

@[simp] theorem State.ccMod_live (f : CcX → CcX) : (State.ccMod f s).live = s.live := rfl
@[simp] theorem State.ccMod_active (f : CcX → CcX) : (State.ccMod f s).active = s.active := rfl
@[simp] theorem State.ccMod_shadow (f : CcX → CcX) : (State.ccMod f s).shadow = s.shadow := rfl
@[simp] theorem State.ccMod_mem (f : CcX → CcX) : (State.ccMod f s).mem = s.mem := rfl
@[simp] theorem State.ccMod_pending (f : CcX → CcX) : (State.ccMod f s).pending = s.pending := rfl
@[simp] theorem State.ccMod_freeIx (f : CcX → CcX) : (State.ccMod f s).freeIx = s.freeIx := rfl
@[simp] theorem State.ccMod_tick (f : CcX → CcX) : (State.ccMod f s).tick = s.tick := rfl
@[simp] theorem State.ccMod_devSub (f : CcX → CcX) : (State.ccMod f s).devSub = s.devSub := rfl
@[simp] theorem State.ccMod_plat (f : CcX → CcX) : (State.ccMod f s).plat = s.plat := rfl
@[simp] theorem State.ccMod_isl (f : CcX → CcX) : (State.ccMod f s).isl = s.isl := rfl
@[simp] theorem State.ccMod_fc (f : CcX → CcX) : (State.ccMod f s).fc = s.fc := rfl
@[simp] theorem State.ccMod_md (f : CcX → CcX) : (State.ccMod f s).md = s.md := rfl
@[simp] theorem State.ccMod_sw (f : CcX → CcX) : (State.ccMod f s).sw = s.sw := rfl
@[simp] theorem State.ccMod_nv (f : CcX → CcX) : (State.ccMod f s).nv = s.nv := rfl
@[simp] theorem State.ccMod_hbDrive (f : CcX → CcX) : (State.ccMod f s).hbDrive = s.hbDrive := rfl
@[simp] theorem State.ccMod_lvDrive (f : CcX → CcX) : (State.ccMod f s).lvDrive = s.lvDrive := rfl
@[simp] theorem State.ccMod_gsDrive (f : CcX → CcX) : (State.ccMod f s).gsDrive = s.gsDrive := rfl
@[simp] theorem State.ccMod_tb (f : CcX → CcX) : (State.ccMod f s).tb = s.tb := rfl
@[simp] theorem State.ccMod_grp (f : CcX → CcX) : (State.ccMod f s).grp = s.grp := rfl
@[simp] theorem State.ccMod_chan (f : CcX → CcX) : (State.ccMod f s).chan = s.chan := rfl
@[simp] theorem State.ccMod_slots (f : CcX → CcX) : (State.ccMod f s).slots = s.slots := rfl
@[simp] theorem State.ccMod_eng (f : CcX → CcX) : (State.ccMod f s).eng = s.eng := rfl
@[simp] theorem State.ccMod_ports (f : CcX → CcX) : (State.ccMod f s).ports = s.ports := rfl
@[simp] theorem State.ccMod_sdRaised (f : CcX → CcX) : (State.ccMod f s).sdRaised = s.sdRaised := rfl
@[simp] theorem State.ccMod_obs (f : CcX → CcX) : (State.ccMod f s).obs = s.obs := rfl
@[simp] theorem State.ccMod_sdTripped (f : CcX → CcX) : (State.ccMod f s).sdTripped = s.sdTripped := rfl
@[simp] theorem State.ccMod_leave (f : CcX → CcX) : (State.ccMod f s).leave = s.leave := rfl
@[simp] theorem State.ccMod_gsx (f : CcX → CcX) : (State.ccMod f s).gsx = s.gsx := rfl
@[simp] theorem State.ccMod_sup (f : CcX → CcX) : (State.ccMod f s).sup = s.sup := rfl
@[simp] theorem State.ccMod_snx (f : CcX → CcX) : (State.ccMod f s).snx = s.snx := rfl
@[simp] theorem State.ccMod_trac (f : CcX → CcX) : (State.ccMod f s).trac = s.trac := rfl
@[simp] theorem State.ccMod_linkPrev (f : CcX → CcX) : (State.ccMod f s).linkPrev = s.linkPrev := rfl
@[simp] theorem State.ccMod_planAt (f : CcX → CcX) : (State.ccMod f s).planAt = s.planAt := rfl
@[simp] theorem State.ccMod_passTick (f : CcX → CcX) : (State.ccMod f s).passTick = s.passTick := rfl
@[simp] theorem State.ccMod_six (f : CcX → CcX) : (State.ccMod f s).six = s.six := rfl
@[simp] theorem State.ccMod_soHigh (f : CcX → CcX) : (State.ccMod f s).soHigh = s.soHigh := rfl
@[simp] theorem State.ccMod_cp (f : CcX → CcX) : (State.ccMod f s).cp = s.cp := rfl
@[simp] theorem State.ccMod_wc (f : CcX → CcX) : (State.ccMod f s).wc = s.wc := rfl
@[simp] theorem State.ccMod_lv (f : CcX → CcX) : (State.ccMod f s).lv = s.lv := rfl
@[simp] theorem State.ccMod_lamps (f : CcX → CcX) : (State.ccMod f s).lamps = s.lamps := rfl
@[simp] theorem State.ccMod_ga (f : CcX → CcX) : (State.ccMod f s).ga = s.ga := rfl
@[simp] theorem State.ccMod_lk (f : CcX → CcX) : (State.ccMod f s).lk = s.lk := rfl
@[simp] theorem State.ccMod_post (f : CcX → CcX) : (State.ccMod f s).post = s.post := rfl
@[simp] theorem State.ccMod_td (f : CcX → CcX) : (State.ccMod f s).td = s.td := rfl
@[simp] theorem State.ccMod_st (f : CcX → CcX) : (State.ccMod f s).st = s.st := rfl
@[simp] theorem State.ccMod_mon (f : CcX → CcX) : (State.ccMod f s).mon = s.mon := rfl
@[simp] theorem State.ccMod_mtr (f : CcX → CcX) : (State.ccMod f s).mtr = s.mtr := rfl
@[simp] theorem State.ccMod_net (f : CcX → CcX) : (State.ccMod f s).net = s.net := rfl
@[simp] theorem State.ccMod_can (f : CcX → CcX) : (State.ccMod f s).can = s.can := rfl
@[simp] theorem State.ccMod_esl (f : CcX → CcX) : (State.ccMod f s).esl = s.esl := rfl
@[simp] theorem State.ccMod_image (f : CcX → CcX) : (State.ccMod f s).image = s.image := rfl
@[simp] theorem State.ccMod_takeup (f : CcX → CcX) : (State.ccMod f s).takeup = s.takeup := rfl
@[simp] theorem State.ccMod_roa (f : CcX → CcX) : (State.ccMod f s).roa = s.roa := rfl
@[simp] theorem State.ccMod_memx (f : CcX → CcX) : (State.ccMod f s).memx = s.memx := rfl
@[simp] theorem State.ccMod_hm (f : CcX → CcX) : (State.ccMod f s).hm = s.hm := rfl
@[simp] theorem State.ccMod_ro (f : CcX → CcX) (j : Nat) : (State.ccMod f s).o j = s.o j := rfl
@[simp] theorem State.ccMod_roN (f : CcX → CcX) (j : Nat) : (State.ccMod f s).oN j = s.oN j := rfl
@[simp] theorem State.ccMod_roF (f : CcX → CcX) (j : Nat) : (State.ccMod f s).oF j = s.oF j := rfl
@[simp] theorem State.ccMod_rc (f : CcX → CcX) (j : Nat) : (State.ccMod f s).c j = s.c j := rfl
@[simp] theorem State.ccMod_rcN (f : CcX → CcX) (j : Nat) : (State.ccMod f s).cN j = s.cN j := rfl
@[simp] theorem State.ccMod_rcF (f : CcX → CcX) (j : Nat) : (State.ccMod f s).cF j = s.cF j := rfl
@[simp] theorem State.ccMod_mode (f : CcX → CcX) : (State.ccMod f s).mode = s.mode := rfl
@[simp] theorem State.ccMod_up (f : CcX → CcX) : (State.ccMod f s).up = s.up := rfl

/-! ## lvMod changes lv alone -/

@[simp] theorem State.lvMod_live (f : LvX → LvX) : (State.lvMod f s).live = s.live := rfl
@[simp] theorem State.lvMod_active (f : LvX → LvX) : (State.lvMod f s).active = s.active := rfl
@[simp] theorem State.lvMod_shadow (f : LvX → LvX) : (State.lvMod f s).shadow = s.shadow := rfl
@[simp] theorem State.lvMod_mem (f : LvX → LvX) : (State.lvMod f s).mem = s.mem := rfl
@[simp] theorem State.lvMod_pending (f : LvX → LvX) : (State.lvMod f s).pending = s.pending := rfl
@[simp] theorem State.lvMod_freeIx (f : LvX → LvX) : (State.lvMod f s).freeIx = s.freeIx := rfl
@[simp] theorem State.lvMod_tick (f : LvX → LvX) : (State.lvMod f s).tick = s.tick := rfl
@[simp] theorem State.lvMod_devSub (f : LvX → LvX) : (State.lvMod f s).devSub = s.devSub := rfl
@[simp] theorem State.lvMod_plat (f : LvX → LvX) : (State.lvMod f s).plat = s.plat := rfl
@[simp] theorem State.lvMod_isl (f : LvX → LvX) : (State.lvMod f s).isl = s.isl := rfl
@[simp] theorem State.lvMod_fc (f : LvX → LvX) : (State.lvMod f s).fc = s.fc := rfl
@[simp] theorem State.lvMod_md (f : LvX → LvX) : (State.lvMod f s).md = s.md := rfl
@[simp] theorem State.lvMod_sw (f : LvX → LvX) : (State.lvMod f s).sw = s.sw := rfl
@[simp] theorem State.lvMod_nv (f : LvX → LvX) : (State.lvMod f s).nv = s.nv := rfl
@[simp] theorem State.lvMod_hbDrive (f : LvX → LvX) : (State.lvMod f s).hbDrive = s.hbDrive := rfl
@[simp] theorem State.lvMod_lvDrive (f : LvX → LvX) : (State.lvMod f s).lvDrive = s.lvDrive := rfl
@[simp] theorem State.lvMod_gsDrive (f : LvX → LvX) : (State.lvMod f s).gsDrive = s.gsDrive := rfl
@[simp] theorem State.lvMod_tb (f : LvX → LvX) : (State.lvMod f s).tb = s.tb := rfl
@[simp] theorem State.lvMod_grp (f : LvX → LvX) : (State.lvMod f s).grp = s.grp := rfl
@[simp] theorem State.lvMod_chan (f : LvX → LvX) : (State.lvMod f s).chan = s.chan := rfl
@[simp] theorem State.lvMod_slots (f : LvX → LvX) : (State.lvMod f s).slots = s.slots := rfl
@[simp] theorem State.lvMod_eng (f : LvX → LvX) : (State.lvMod f s).eng = s.eng := rfl
@[simp] theorem State.lvMod_ports (f : LvX → LvX) : (State.lvMod f s).ports = s.ports := rfl
@[simp] theorem State.lvMod_sdRaised (f : LvX → LvX) : (State.lvMod f s).sdRaised = s.sdRaised := rfl
@[simp] theorem State.lvMod_obs (f : LvX → LvX) : (State.lvMod f s).obs = s.obs := rfl
@[simp] theorem State.lvMod_sdTripped (f : LvX → LvX) : (State.lvMod f s).sdTripped = s.sdTripped := rfl
@[simp] theorem State.lvMod_leave (f : LvX → LvX) : (State.lvMod f s).leave = s.leave := rfl
@[simp] theorem State.lvMod_gsx (f : LvX → LvX) : (State.lvMod f s).gsx = s.gsx := rfl
@[simp] theorem State.lvMod_sup (f : LvX → LvX) : (State.lvMod f s).sup = s.sup := rfl
@[simp] theorem State.lvMod_snx (f : LvX → LvX) : (State.lvMod f s).snx = s.snx := rfl
@[simp] theorem State.lvMod_trac (f : LvX → LvX) : (State.lvMod f s).trac = s.trac := rfl
@[simp] theorem State.lvMod_linkPrev (f : LvX → LvX) : (State.lvMod f s).linkPrev = s.linkPrev := rfl
@[simp] theorem State.lvMod_planAt (f : LvX → LvX) : (State.lvMod f s).planAt = s.planAt := rfl
@[simp] theorem State.lvMod_passTick (f : LvX → LvX) : (State.lvMod f s).passTick = s.passTick := rfl
@[simp] theorem State.lvMod_six (f : LvX → LvX) : (State.lvMod f s).six = s.six := rfl
@[simp] theorem State.lvMod_soHigh (f : LvX → LvX) : (State.lvMod f s).soHigh = s.soHigh := rfl
@[simp] theorem State.lvMod_cp (f : LvX → LvX) : (State.lvMod f s).cp = s.cp := rfl
@[simp] theorem State.lvMod_wc (f : LvX → LvX) : (State.lvMod f s).wc = s.wc := rfl
@[simp] theorem State.lvMod_lamps (f : LvX → LvX) : (State.lvMod f s).lamps = s.lamps := rfl
@[simp] theorem State.lvMod_ga (f : LvX → LvX) : (State.lvMod f s).ga = s.ga := rfl
@[simp] theorem State.lvMod_lk (f : LvX → LvX) : (State.lvMod f s).lk = s.lk := rfl
@[simp] theorem State.lvMod_post (f : LvX → LvX) : (State.lvMod f s).post = s.post := rfl
@[simp] theorem State.lvMod_td (f : LvX → LvX) : (State.lvMod f s).td = s.td := rfl
@[simp] theorem State.lvMod_st (f : LvX → LvX) : (State.lvMod f s).st = s.st := rfl
@[simp] theorem State.lvMod_cc (f : LvX → LvX) : (State.lvMod f s).cc = s.cc := rfl
@[simp] theorem State.lvMod_mon (f : LvX → LvX) : (State.lvMod f s).mon = s.mon := rfl
@[simp] theorem State.lvMod_mtr (f : LvX → LvX) : (State.lvMod f s).mtr = s.mtr := rfl
@[simp] theorem State.lvMod_net (f : LvX → LvX) : (State.lvMod f s).net = s.net := rfl
@[simp] theorem State.lvMod_can (f : LvX → LvX) : (State.lvMod f s).can = s.can := rfl
@[simp] theorem State.lvMod_esl (f : LvX → LvX) : (State.lvMod f s).esl = s.esl := rfl
@[simp] theorem State.lvMod_image (f : LvX → LvX) : (State.lvMod f s).image = s.image := rfl
@[simp] theorem State.lvMod_takeup (f : LvX → LvX) : (State.lvMod f s).takeup = s.takeup := rfl
@[simp] theorem State.lvMod_roa (f : LvX → LvX) : (State.lvMod f s).roa = s.roa := rfl
@[simp] theorem State.lvMod_memx (f : LvX → LvX) : (State.lvMod f s).memx = s.memx := rfl
@[simp] theorem State.lvMod_hm (f : LvX → LvX) : (State.lvMod f s).hm = s.hm := rfl
@[simp] theorem State.lvMod_ro (f : LvX → LvX) (j : Nat) : (State.lvMod f s).o j = s.o j := rfl
@[simp] theorem State.lvMod_roN (f : LvX → LvX) (j : Nat) : (State.lvMod f s).oN j = s.oN j := rfl
@[simp] theorem State.lvMod_roF (f : LvX → LvX) (j : Nat) : (State.lvMod f s).oF j = s.oF j := rfl
@[simp] theorem State.lvMod_rc (f : LvX → LvX) (j : Nat) : (State.lvMod f s).c j = s.c j := rfl
@[simp] theorem State.lvMod_rcN (f : LvX → LvX) (j : Nat) : (State.lvMod f s).cN j = s.cN j := rfl
@[simp] theorem State.lvMod_rcF (f : LvX → LvX) (j : Nat) : (State.lvMod f s).cF j = s.cF j := rfl
@[simp] theorem State.lvMod_mode (f : LvX → LvX) : (State.lvMod f s).mode = s.mode := rfl
@[simp] theorem State.lvMod_up (f : LvX → LvX) : (State.lvMod f s).up = s.up := rfl

/-! ## lkMod changes lk alone -/

@[simp] theorem State.lkMod_live (f : LkX → LkX) : (State.lkMod f s).live = s.live := rfl
@[simp] theorem State.lkMod_active (f : LkX → LkX) : (State.lkMod f s).active = s.active := rfl
@[simp] theorem State.lkMod_shadow (f : LkX → LkX) : (State.lkMod f s).shadow = s.shadow := rfl
@[simp] theorem State.lkMod_mem (f : LkX → LkX) : (State.lkMod f s).mem = s.mem := rfl
@[simp] theorem State.lkMod_pending (f : LkX → LkX) : (State.lkMod f s).pending = s.pending := rfl
@[simp] theorem State.lkMod_freeIx (f : LkX → LkX) : (State.lkMod f s).freeIx = s.freeIx := rfl
@[simp] theorem State.lkMod_tick (f : LkX → LkX) : (State.lkMod f s).tick = s.tick := rfl
@[simp] theorem State.lkMod_devSub (f : LkX → LkX) : (State.lkMod f s).devSub = s.devSub := rfl
@[simp] theorem State.lkMod_plat (f : LkX → LkX) : (State.lkMod f s).plat = s.plat := rfl
@[simp] theorem State.lkMod_isl (f : LkX → LkX) : (State.lkMod f s).isl = s.isl := rfl
@[simp] theorem State.lkMod_fc (f : LkX → LkX) : (State.lkMod f s).fc = s.fc := rfl
@[simp] theorem State.lkMod_md (f : LkX → LkX) : (State.lkMod f s).md = s.md := rfl
@[simp] theorem State.lkMod_sw (f : LkX → LkX) : (State.lkMod f s).sw = s.sw := rfl
@[simp] theorem State.lkMod_nv (f : LkX → LkX) : (State.lkMod f s).nv = s.nv := rfl
@[simp] theorem State.lkMod_hbDrive (f : LkX → LkX) : (State.lkMod f s).hbDrive = s.hbDrive := rfl
@[simp] theorem State.lkMod_lvDrive (f : LkX → LkX) : (State.lkMod f s).lvDrive = s.lvDrive := rfl
@[simp] theorem State.lkMod_gsDrive (f : LkX → LkX) : (State.lkMod f s).gsDrive = s.gsDrive := rfl
@[simp] theorem State.lkMod_tb (f : LkX → LkX) : (State.lkMod f s).tb = s.tb := rfl
@[simp] theorem State.lkMod_grp (f : LkX → LkX) : (State.lkMod f s).grp = s.grp := rfl
@[simp] theorem State.lkMod_chan (f : LkX → LkX) : (State.lkMod f s).chan = s.chan := rfl
@[simp] theorem State.lkMod_slots (f : LkX → LkX) : (State.lkMod f s).slots = s.slots := rfl
@[simp] theorem State.lkMod_eng (f : LkX → LkX) : (State.lkMod f s).eng = s.eng := rfl
@[simp] theorem State.lkMod_ports (f : LkX → LkX) : (State.lkMod f s).ports = s.ports := rfl
@[simp] theorem State.lkMod_sdRaised (f : LkX → LkX) : (State.lkMod f s).sdRaised = s.sdRaised := rfl
@[simp] theorem State.lkMod_obs (f : LkX → LkX) : (State.lkMod f s).obs = s.obs := rfl
@[simp] theorem State.lkMod_sdTripped (f : LkX → LkX) : (State.lkMod f s).sdTripped = s.sdTripped := rfl
@[simp] theorem State.lkMod_leave (f : LkX → LkX) : (State.lkMod f s).leave = s.leave := rfl
@[simp] theorem State.lkMod_gsx (f : LkX → LkX) : (State.lkMod f s).gsx = s.gsx := rfl
@[simp] theorem State.lkMod_sup (f : LkX → LkX) : (State.lkMod f s).sup = s.sup := rfl
@[simp] theorem State.lkMod_snx (f : LkX → LkX) : (State.lkMod f s).snx = s.snx := rfl
@[simp] theorem State.lkMod_trac (f : LkX → LkX) : (State.lkMod f s).trac = s.trac := rfl
@[simp] theorem State.lkMod_linkPrev (f : LkX → LkX) : (State.lkMod f s).linkPrev = s.linkPrev := rfl
@[simp] theorem State.lkMod_planAt (f : LkX → LkX) : (State.lkMod f s).planAt = s.planAt := rfl
@[simp] theorem State.lkMod_passTick (f : LkX → LkX) : (State.lkMod f s).passTick = s.passTick := rfl
@[simp] theorem State.lkMod_six (f : LkX → LkX) : (State.lkMod f s).six = s.six := rfl
@[simp] theorem State.lkMod_soHigh (f : LkX → LkX) : (State.lkMod f s).soHigh = s.soHigh := rfl
@[simp] theorem State.lkMod_cp (f : LkX → LkX) : (State.lkMod f s).cp = s.cp := rfl
@[simp] theorem State.lkMod_wc (f : LkX → LkX) : (State.lkMod f s).wc = s.wc := rfl
@[simp] theorem State.lkMod_lv (f : LkX → LkX) : (State.lkMod f s).lv = s.lv := rfl
@[simp] theorem State.lkMod_lamps (f : LkX → LkX) : (State.lkMod f s).lamps = s.lamps := rfl
@[simp] theorem State.lkMod_ga (f : LkX → LkX) : (State.lkMod f s).ga = s.ga := rfl
@[simp] theorem State.lkMod_post (f : LkX → LkX) : (State.lkMod f s).post = s.post := rfl
@[simp] theorem State.lkMod_td (f : LkX → LkX) : (State.lkMod f s).td = s.td := rfl
@[simp] theorem State.lkMod_st (f : LkX → LkX) : (State.lkMod f s).st = s.st := rfl
@[simp] theorem State.lkMod_cc (f : LkX → LkX) : (State.lkMod f s).cc = s.cc := rfl
@[simp] theorem State.lkMod_mon (f : LkX → LkX) : (State.lkMod f s).mon = s.mon := rfl
@[simp] theorem State.lkMod_mtr (f : LkX → LkX) : (State.lkMod f s).mtr = s.mtr := rfl
@[simp] theorem State.lkMod_net (f : LkX → LkX) : (State.lkMod f s).net = s.net := rfl
@[simp] theorem State.lkMod_can (f : LkX → LkX) : (State.lkMod f s).can = s.can := rfl
@[simp] theorem State.lkMod_esl (f : LkX → LkX) : (State.lkMod f s).esl = s.esl := rfl
@[simp] theorem State.lkMod_image (f : LkX → LkX) : (State.lkMod f s).image = s.image := rfl
@[simp] theorem State.lkMod_takeup (f : LkX → LkX) : (State.lkMod f s).takeup = s.takeup := rfl
@[simp] theorem State.lkMod_roa (f : LkX → LkX) : (State.lkMod f s).roa = s.roa := rfl
@[simp] theorem State.lkMod_memx (f : LkX → LkX) : (State.lkMod f s).memx = s.memx := rfl
@[simp] theorem State.lkMod_hm (f : LkX → LkX) : (State.lkMod f s).hm = s.hm := rfl
@[simp] theorem State.lkMod_ro (f : LkX → LkX) (j : Nat) : (State.lkMod f s).o j = s.o j := rfl
@[simp] theorem State.lkMod_roN (f : LkX → LkX) (j : Nat) : (State.lkMod f s).oN j = s.oN j := rfl
@[simp] theorem State.lkMod_roF (f : LkX → LkX) (j : Nat) : (State.lkMod f s).oF j = s.oF j := rfl
@[simp] theorem State.lkMod_rc (f : LkX → LkX) (j : Nat) : (State.lkMod f s).c j = s.c j := rfl
@[simp] theorem State.lkMod_rcN (f : LkX → LkX) (j : Nat) : (State.lkMod f s).cN j = s.cN j := rfl
@[simp] theorem State.lkMod_rcF (f : LkX → LkX) (j : Nat) : (State.lkMod f s).cF j = s.cF j := rfl
@[simp] theorem State.lkMod_mode (f : LkX → LkX) : (State.lkMod f s).mode = s.mode := rfl
@[simp] theorem State.lkMod_up (f : LkX → LkX) : (State.lkMod f s).up = s.up := rfl

/-! ## postMod changes post alone -/

@[simp] theorem State.postMod_live (f : PostX → PostX) : (State.postMod f s).live = s.live := rfl
@[simp] theorem State.postMod_active (f : PostX → PostX) : (State.postMod f s).active = s.active := rfl
@[simp] theorem State.postMod_shadow (f : PostX → PostX) : (State.postMod f s).shadow = s.shadow := rfl
@[simp] theorem State.postMod_mem (f : PostX → PostX) : (State.postMod f s).mem = s.mem := rfl
@[simp] theorem State.postMod_pending (f : PostX → PostX) : (State.postMod f s).pending = s.pending := rfl
@[simp] theorem State.postMod_freeIx (f : PostX → PostX) : (State.postMod f s).freeIx = s.freeIx := rfl
@[simp] theorem State.postMod_tick (f : PostX → PostX) : (State.postMod f s).tick = s.tick := rfl
@[simp] theorem State.postMod_devSub (f : PostX → PostX) : (State.postMod f s).devSub = s.devSub := rfl
@[simp] theorem State.postMod_plat (f : PostX → PostX) : (State.postMod f s).plat = s.plat := rfl
@[simp] theorem State.postMod_isl (f : PostX → PostX) : (State.postMod f s).isl = s.isl := rfl
@[simp] theorem State.postMod_fc (f : PostX → PostX) : (State.postMod f s).fc = s.fc := rfl
@[simp] theorem State.postMod_md (f : PostX → PostX) : (State.postMod f s).md = s.md := rfl
@[simp] theorem State.postMod_sw (f : PostX → PostX) : (State.postMod f s).sw = s.sw := rfl
@[simp] theorem State.postMod_nv (f : PostX → PostX) : (State.postMod f s).nv = s.nv := rfl
@[simp] theorem State.postMod_hbDrive (f : PostX → PostX) : (State.postMod f s).hbDrive = s.hbDrive := rfl
@[simp] theorem State.postMod_lvDrive (f : PostX → PostX) : (State.postMod f s).lvDrive = s.lvDrive := rfl
@[simp] theorem State.postMod_gsDrive (f : PostX → PostX) : (State.postMod f s).gsDrive = s.gsDrive := rfl
@[simp] theorem State.postMod_tb (f : PostX → PostX) : (State.postMod f s).tb = s.tb := rfl
@[simp] theorem State.postMod_grp (f : PostX → PostX) : (State.postMod f s).grp = s.grp := rfl
@[simp] theorem State.postMod_chan (f : PostX → PostX) : (State.postMod f s).chan = s.chan := rfl
@[simp] theorem State.postMod_slots (f : PostX → PostX) : (State.postMod f s).slots = s.slots := rfl
@[simp] theorem State.postMod_eng (f : PostX → PostX) : (State.postMod f s).eng = s.eng := rfl
@[simp] theorem State.postMod_ports (f : PostX → PostX) : (State.postMod f s).ports = s.ports := rfl
@[simp] theorem State.postMod_sdRaised (f : PostX → PostX) : (State.postMod f s).sdRaised = s.sdRaised := rfl
@[simp] theorem State.postMod_obs (f : PostX → PostX) : (State.postMod f s).obs = s.obs := rfl
@[simp] theorem State.postMod_sdTripped (f : PostX → PostX) : (State.postMod f s).sdTripped = s.sdTripped := rfl
@[simp] theorem State.postMod_leave (f : PostX → PostX) : (State.postMod f s).leave = s.leave := rfl
@[simp] theorem State.postMod_gsx (f : PostX → PostX) : (State.postMod f s).gsx = s.gsx := rfl
@[simp] theorem State.postMod_sup (f : PostX → PostX) : (State.postMod f s).sup = s.sup := rfl
@[simp] theorem State.postMod_snx (f : PostX → PostX) : (State.postMod f s).snx = s.snx := rfl
@[simp] theorem State.postMod_trac (f : PostX → PostX) : (State.postMod f s).trac = s.trac := rfl
@[simp] theorem State.postMod_linkPrev (f : PostX → PostX) : (State.postMod f s).linkPrev = s.linkPrev := rfl
@[simp] theorem State.postMod_planAt (f : PostX → PostX) : (State.postMod f s).planAt = s.planAt := rfl
@[simp] theorem State.postMod_passTick (f : PostX → PostX) : (State.postMod f s).passTick = s.passTick := rfl
@[simp] theorem State.postMod_six (f : PostX → PostX) : (State.postMod f s).six = s.six := rfl
@[simp] theorem State.postMod_soHigh (f : PostX → PostX) : (State.postMod f s).soHigh = s.soHigh := rfl
@[simp] theorem State.postMod_cp (f : PostX → PostX) : (State.postMod f s).cp = s.cp := rfl
@[simp] theorem State.postMod_wc (f : PostX → PostX) : (State.postMod f s).wc = s.wc := rfl
@[simp] theorem State.postMod_lv (f : PostX → PostX) : (State.postMod f s).lv = s.lv := rfl
@[simp] theorem State.postMod_lamps (f : PostX → PostX) : (State.postMod f s).lamps = s.lamps := rfl
@[simp] theorem State.postMod_ga (f : PostX → PostX) : (State.postMod f s).ga = s.ga := rfl
@[simp] theorem State.postMod_lk (f : PostX → PostX) : (State.postMod f s).lk = s.lk := rfl
@[simp] theorem State.postMod_td (f : PostX → PostX) : (State.postMod f s).td = s.td := rfl
@[simp] theorem State.postMod_st (f : PostX → PostX) : (State.postMod f s).st = s.st := rfl
@[simp] theorem State.postMod_cc (f : PostX → PostX) : (State.postMod f s).cc = s.cc := rfl
@[simp] theorem State.postMod_mon (f : PostX → PostX) : (State.postMod f s).mon = s.mon := rfl
@[simp] theorem State.postMod_mtr (f : PostX → PostX) : (State.postMod f s).mtr = s.mtr := rfl
@[simp] theorem State.postMod_net (f : PostX → PostX) : (State.postMod f s).net = s.net := rfl
@[simp] theorem State.postMod_can (f : PostX → PostX) : (State.postMod f s).can = s.can := rfl
@[simp] theorem State.postMod_esl (f : PostX → PostX) : (State.postMod f s).esl = s.esl := rfl
@[simp] theorem State.postMod_image (f : PostX → PostX) : (State.postMod f s).image = s.image := rfl
@[simp] theorem State.postMod_takeup (f : PostX → PostX) : (State.postMod f s).takeup = s.takeup := rfl
@[simp] theorem State.postMod_roa (f : PostX → PostX) : (State.postMod f s).roa = s.roa := rfl
@[simp] theorem State.postMod_memx (f : PostX → PostX) : (State.postMod f s).memx = s.memx := rfl
@[simp] theorem State.postMod_hm (f : PostX → PostX) : (State.postMod f s).hm = s.hm := rfl
@[simp] theorem State.postMod_ro (f : PostX → PostX) (j : Nat) : (State.postMod f s).o j = s.o j := rfl
@[simp] theorem State.postMod_roN (f : PostX → PostX) (j : Nat) : (State.postMod f s).oN j = s.oN j := rfl
@[simp] theorem State.postMod_roF (f : PostX → PostX) (j : Nat) : (State.postMod f s).oF j = s.oF j := rfl
@[simp] theorem State.postMod_rc (f : PostX → PostX) (j : Nat) : (State.postMod f s).c j = s.c j := rfl
@[simp] theorem State.postMod_rcN (f : PostX → PostX) (j : Nat) : (State.postMod f s).cN j = s.cN j := rfl
@[simp] theorem State.postMod_rcF (f : PostX → PostX) (j : Nat) : (State.postMod f s).cF j = s.cF j := rfl
@[simp] theorem State.postMod_mode (f : PostX → PostX) : (State.postMod f s).mode = s.mode := rfl
@[simp] theorem State.postMod_up (f : PostX → PostX) : (State.postMod f s).up = s.up := rfl

/-! ## tdMod changes td alone -/

@[simp] theorem State.tdMod_live (f : TdX → TdX) : (State.tdMod f s).live = s.live := rfl
@[simp] theorem State.tdMod_active (f : TdX → TdX) : (State.tdMod f s).active = s.active := rfl
@[simp] theorem State.tdMod_shadow (f : TdX → TdX) : (State.tdMod f s).shadow = s.shadow := rfl
@[simp] theorem State.tdMod_mem (f : TdX → TdX) : (State.tdMod f s).mem = s.mem := rfl
@[simp] theorem State.tdMod_pending (f : TdX → TdX) : (State.tdMod f s).pending = s.pending := rfl
@[simp] theorem State.tdMod_freeIx (f : TdX → TdX) : (State.tdMod f s).freeIx = s.freeIx := rfl
@[simp] theorem State.tdMod_tick (f : TdX → TdX) : (State.tdMod f s).tick = s.tick := rfl
@[simp] theorem State.tdMod_devSub (f : TdX → TdX) : (State.tdMod f s).devSub = s.devSub := rfl
@[simp] theorem State.tdMod_plat (f : TdX → TdX) : (State.tdMod f s).plat = s.plat := rfl
@[simp] theorem State.tdMod_isl (f : TdX → TdX) : (State.tdMod f s).isl = s.isl := rfl
@[simp] theorem State.tdMod_fc (f : TdX → TdX) : (State.tdMod f s).fc = s.fc := rfl
@[simp] theorem State.tdMod_md (f : TdX → TdX) : (State.tdMod f s).md = s.md := rfl
@[simp] theorem State.tdMod_sw (f : TdX → TdX) : (State.tdMod f s).sw = s.sw := rfl
@[simp] theorem State.tdMod_nv (f : TdX → TdX) : (State.tdMod f s).nv = s.nv := rfl
@[simp] theorem State.tdMod_hbDrive (f : TdX → TdX) : (State.tdMod f s).hbDrive = s.hbDrive := rfl
@[simp] theorem State.tdMod_lvDrive (f : TdX → TdX) : (State.tdMod f s).lvDrive = s.lvDrive := rfl
@[simp] theorem State.tdMod_gsDrive (f : TdX → TdX) : (State.tdMod f s).gsDrive = s.gsDrive := rfl
@[simp] theorem State.tdMod_tb (f : TdX → TdX) : (State.tdMod f s).tb = s.tb := rfl
@[simp] theorem State.tdMod_grp (f : TdX → TdX) : (State.tdMod f s).grp = s.grp := rfl
@[simp] theorem State.tdMod_chan (f : TdX → TdX) : (State.tdMod f s).chan = s.chan := rfl
@[simp] theorem State.tdMod_slots (f : TdX → TdX) : (State.tdMod f s).slots = s.slots := rfl
@[simp] theorem State.tdMod_eng (f : TdX → TdX) : (State.tdMod f s).eng = s.eng := rfl
@[simp] theorem State.tdMod_ports (f : TdX → TdX) : (State.tdMod f s).ports = s.ports := rfl
@[simp] theorem State.tdMod_sdRaised (f : TdX → TdX) : (State.tdMod f s).sdRaised = s.sdRaised := rfl
@[simp] theorem State.tdMod_obs (f : TdX → TdX) : (State.tdMod f s).obs = s.obs := rfl
@[simp] theorem State.tdMod_sdTripped (f : TdX → TdX) : (State.tdMod f s).sdTripped = s.sdTripped := rfl
@[simp] theorem State.tdMod_leave (f : TdX → TdX) : (State.tdMod f s).leave = s.leave := rfl
@[simp] theorem State.tdMod_gsx (f : TdX → TdX) : (State.tdMod f s).gsx = s.gsx := rfl
@[simp] theorem State.tdMod_sup (f : TdX → TdX) : (State.tdMod f s).sup = s.sup := rfl
@[simp] theorem State.tdMod_snx (f : TdX → TdX) : (State.tdMod f s).snx = s.snx := rfl
@[simp] theorem State.tdMod_trac (f : TdX → TdX) : (State.tdMod f s).trac = s.trac := rfl
@[simp] theorem State.tdMod_linkPrev (f : TdX → TdX) : (State.tdMod f s).linkPrev = s.linkPrev := rfl
@[simp] theorem State.tdMod_planAt (f : TdX → TdX) : (State.tdMod f s).planAt = s.planAt := rfl
@[simp] theorem State.tdMod_passTick (f : TdX → TdX) : (State.tdMod f s).passTick = s.passTick := rfl
@[simp] theorem State.tdMod_six (f : TdX → TdX) : (State.tdMod f s).six = s.six := rfl
@[simp] theorem State.tdMod_soHigh (f : TdX → TdX) : (State.tdMod f s).soHigh = s.soHigh := rfl
@[simp] theorem State.tdMod_cp (f : TdX → TdX) : (State.tdMod f s).cp = s.cp := rfl
@[simp] theorem State.tdMod_wc (f : TdX → TdX) : (State.tdMod f s).wc = s.wc := rfl
@[simp] theorem State.tdMod_lv (f : TdX → TdX) : (State.tdMod f s).lv = s.lv := rfl
@[simp] theorem State.tdMod_lamps (f : TdX → TdX) : (State.tdMod f s).lamps = s.lamps := rfl
@[simp] theorem State.tdMod_ga (f : TdX → TdX) : (State.tdMod f s).ga = s.ga := rfl
@[simp] theorem State.tdMod_lk (f : TdX → TdX) : (State.tdMod f s).lk = s.lk := rfl
@[simp] theorem State.tdMod_post (f : TdX → TdX) : (State.tdMod f s).post = s.post := rfl
@[simp] theorem State.tdMod_st (f : TdX → TdX) : (State.tdMod f s).st = s.st := rfl
@[simp] theorem State.tdMod_cc (f : TdX → TdX) : (State.tdMod f s).cc = s.cc := rfl
@[simp] theorem State.tdMod_mon (f : TdX → TdX) : (State.tdMod f s).mon = s.mon := rfl
@[simp] theorem State.tdMod_mtr (f : TdX → TdX) : (State.tdMod f s).mtr = s.mtr := rfl
@[simp] theorem State.tdMod_net (f : TdX → TdX) : (State.tdMod f s).net = s.net := rfl
@[simp] theorem State.tdMod_can (f : TdX → TdX) : (State.tdMod f s).can = s.can := rfl
@[simp] theorem State.tdMod_esl (f : TdX → TdX) : (State.tdMod f s).esl = s.esl := rfl
@[simp] theorem State.tdMod_image (f : TdX → TdX) : (State.tdMod f s).image = s.image := rfl
@[simp] theorem State.tdMod_takeup (f : TdX → TdX) : (State.tdMod f s).takeup = s.takeup := rfl
@[simp] theorem State.tdMod_roa (f : TdX → TdX) : (State.tdMod f s).roa = s.roa := rfl
@[simp] theorem State.tdMod_memx (f : TdX → TdX) : (State.tdMod f s).memx = s.memx := rfl
@[simp] theorem State.tdMod_hm (f : TdX → TdX) : (State.tdMod f s).hm = s.hm := rfl
@[simp] theorem State.tdMod_ro (f : TdX → TdX) (j : Nat) : (State.tdMod f s).o j = s.o j := rfl
@[simp] theorem State.tdMod_roN (f : TdX → TdX) (j : Nat) : (State.tdMod f s).oN j = s.oN j := rfl
@[simp] theorem State.tdMod_roF (f : TdX → TdX) (j : Nat) : (State.tdMod f s).oF j = s.oF j := rfl
@[simp] theorem State.tdMod_rc (f : TdX → TdX) (j : Nat) : (State.tdMod f s).c j = s.c j := rfl
@[simp] theorem State.tdMod_rcN (f : TdX → TdX) (j : Nat) : (State.tdMod f s).cN j = s.cN j := rfl
@[simp] theorem State.tdMod_rcF (f : TdX → TdX) (j : Nat) : (State.tdMod f s).cF j = s.cF j := rfl
@[simp] theorem State.tdMod_mode (f : TdX → TdX) : (State.tdMod f s).mode = s.mode := rfl
@[simp] theorem State.tdMod_up (f : TdX → TdX) : (State.tdMod f s).up = s.up := rfl

/-! ## stMod changes st alone -/

@[simp] theorem State.stMod_live (f : StX → StX) : (State.stMod f s).live = s.live := rfl
@[simp] theorem State.stMod_active (f : StX → StX) : (State.stMod f s).active = s.active := rfl
@[simp] theorem State.stMod_shadow (f : StX → StX) : (State.stMod f s).shadow = s.shadow := rfl
@[simp] theorem State.stMod_mem (f : StX → StX) : (State.stMod f s).mem = s.mem := rfl
@[simp] theorem State.stMod_pending (f : StX → StX) : (State.stMod f s).pending = s.pending := rfl
@[simp] theorem State.stMod_freeIx (f : StX → StX) : (State.stMod f s).freeIx = s.freeIx := rfl
@[simp] theorem State.stMod_tick (f : StX → StX) : (State.stMod f s).tick = s.tick := rfl
@[simp] theorem State.stMod_devSub (f : StX → StX) : (State.stMod f s).devSub = s.devSub := rfl
@[simp] theorem State.stMod_plat (f : StX → StX) : (State.stMod f s).plat = s.plat := rfl
@[simp] theorem State.stMod_isl (f : StX → StX) : (State.stMod f s).isl = s.isl := rfl
@[simp] theorem State.stMod_fc (f : StX → StX) : (State.stMod f s).fc = s.fc := rfl
@[simp] theorem State.stMod_md (f : StX → StX) : (State.stMod f s).md = s.md := rfl
@[simp] theorem State.stMod_sw (f : StX → StX) : (State.stMod f s).sw = s.sw := rfl
@[simp] theorem State.stMod_nv (f : StX → StX) : (State.stMod f s).nv = s.nv := rfl
@[simp] theorem State.stMod_hbDrive (f : StX → StX) : (State.stMod f s).hbDrive = s.hbDrive := rfl
@[simp] theorem State.stMod_lvDrive (f : StX → StX) : (State.stMod f s).lvDrive = s.lvDrive := rfl
@[simp] theorem State.stMod_gsDrive (f : StX → StX) : (State.stMod f s).gsDrive = s.gsDrive := rfl
@[simp] theorem State.stMod_tb (f : StX → StX) : (State.stMod f s).tb = s.tb := rfl
@[simp] theorem State.stMod_grp (f : StX → StX) : (State.stMod f s).grp = s.grp := rfl
@[simp] theorem State.stMod_chan (f : StX → StX) : (State.stMod f s).chan = s.chan := rfl
@[simp] theorem State.stMod_slots (f : StX → StX) : (State.stMod f s).slots = s.slots := rfl
@[simp] theorem State.stMod_eng (f : StX → StX) : (State.stMod f s).eng = s.eng := rfl
@[simp] theorem State.stMod_ports (f : StX → StX) : (State.stMod f s).ports = s.ports := rfl
@[simp] theorem State.stMod_sdRaised (f : StX → StX) : (State.stMod f s).sdRaised = s.sdRaised := rfl
@[simp] theorem State.stMod_obs (f : StX → StX) : (State.stMod f s).obs = s.obs := rfl
@[simp] theorem State.stMod_sdTripped (f : StX → StX) : (State.stMod f s).sdTripped = s.sdTripped := rfl
@[simp] theorem State.stMod_leave (f : StX → StX) : (State.stMod f s).leave = s.leave := rfl
@[simp] theorem State.stMod_gsx (f : StX → StX) : (State.stMod f s).gsx = s.gsx := rfl
@[simp] theorem State.stMod_sup (f : StX → StX) : (State.stMod f s).sup = s.sup := rfl
@[simp] theorem State.stMod_snx (f : StX → StX) : (State.stMod f s).snx = s.snx := rfl
@[simp] theorem State.stMod_trac (f : StX → StX) : (State.stMod f s).trac = s.trac := rfl
@[simp] theorem State.stMod_linkPrev (f : StX → StX) : (State.stMod f s).linkPrev = s.linkPrev := rfl
@[simp] theorem State.stMod_planAt (f : StX → StX) : (State.stMod f s).planAt = s.planAt := rfl
@[simp] theorem State.stMod_passTick (f : StX → StX) : (State.stMod f s).passTick = s.passTick := rfl
@[simp] theorem State.stMod_six (f : StX → StX) : (State.stMod f s).six = s.six := rfl
@[simp] theorem State.stMod_soHigh (f : StX → StX) : (State.stMod f s).soHigh = s.soHigh := rfl
@[simp] theorem State.stMod_cp (f : StX → StX) : (State.stMod f s).cp = s.cp := rfl
@[simp] theorem State.stMod_wc (f : StX → StX) : (State.stMod f s).wc = s.wc := rfl
@[simp] theorem State.stMod_lv (f : StX → StX) : (State.stMod f s).lv = s.lv := rfl
@[simp] theorem State.stMod_lamps (f : StX → StX) : (State.stMod f s).lamps = s.lamps := rfl
@[simp] theorem State.stMod_ga (f : StX → StX) : (State.stMod f s).ga = s.ga := rfl
@[simp] theorem State.stMod_lk (f : StX → StX) : (State.stMod f s).lk = s.lk := rfl
@[simp] theorem State.stMod_post (f : StX → StX) : (State.stMod f s).post = s.post := rfl
@[simp] theorem State.stMod_td (f : StX → StX) : (State.stMod f s).td = s.td := rfl
@[simp] theorem State.stMod_cc (f : StX → StX) : (State.stMod f s).cc = s.cc := rfl
@[simp] theorem State.stMod_mon (f : StX → StX) : (State.stMod f s).mon = s.mon := rfl
@[simp] theorem State.stMod_mtr (f : StX → StX) : (State.stMod f s).mtr = s.mtr := rfl
@[simp] theorem State.stMod_net (f : StX → StX) : (State.stMod f s).net = s.net := rfl
@[simp] theorem State.stMod_can (f : StX → StX) : (State.stMod f s).can = s.can := rfl
@[simp] theorem State.stMod_esl (f : StX → StX) : (State.stMod f s).esl = s.esl := rfl
@[simp] theorem State.stMod_image (f : StX → StX) : (State.stMod f s).image = s.image := rfl
@[simp] theorem State.stMod_takeup (f : StX → StX) : (State.stMod f s).takeup = s.takeup := rfl
@[simp] theorem State.stMod_roa (f : StX → StX) : (State.stMod f s).roa = s.roa := rfl
@[simp] theorem State.stMod_memx (f : StX → StX) : (State.stMod f s).memx = s.memx := rfl
@[simp] theorem State.stMod_hm (f : StX → StX) : (State.stMod f s).hm = s.hm := rfl
@[simp] theorem State.stMod_ro (f : StX → StX) (j : Nat) : (State.stMod f s).o j = s.o j := rfl
@[simp] theorem State.stMod_roN (f : StX → StX) (j : Nat) : (State.stMod f s).oN j = s.oN j := rfl
@[simp] theorem State.stMod_roF (f : StX → StX) (j : Nat) : (State.stMod f s).oF j = s.oF j := rfl
@[simp] theorem State.stMod_rc (f : StX → StX) (j : Nat) : (State.stMod f s).c j = s.c j := rfl
@[simp] theorem State.stMod_rcN (f : StX → StX) (j : Nat) : (State.stMod f s).cN j = s.cN j := rfl
@[simp] theorem State.stMod_rcF (f : StX → StX) (j : Nat) : (State.stMod f s).cF j = s.cF j := rfl
@[simp] theorem State.stMod_mode (f : StX → StX) : (State.stMod f s).mode = s.mode := rfl
@[simp] theorem State.stMod_up (f : StX → StX) : (State.stMod f s).up = s.up := rfl

/-! ## monMod changes mon alone -/

@[simp] theorem State.monMod_live (f : MonX → MonX) : (State.monMod f s).live = s.live := rfl
@[simp] theorem State.monMod_active (f : MonX → MonX) : (State.monMod f s).active = s.active := rfl
@[simp] theorem State.monMod_shadow (f : MonX → MonX) : (State.monMod f s).shadow = s.shadow := rfl
@[simp] theorem State.monMod_mem (f : MonX → MonX) : (State.monMod f s).mem = s.mem := rfl
@[simp] theorem State.monMod_pending (f : MonX → MonX) : (State.monMod f s).pending = s.pending := rfl
@[simp] theorem State.monMod_freeIx (f : MonX → MonX) : (State.monMod f s).freeIx = s.freeIx := rfl
@[simp] theorem State.monMod_tick (f : MonX → MonX) : (State.monMod f s).tick = s.tick := rfl
@[simp] theorem State.monMod_devSub (f : MonX → MonX) : (State.monMod f s).devSub = s.devSub := rfl
@[simp] theorem State.monMod_plat (f : MonX → MonX) : (State.monMod f s).plat = s.plat := rfl
@[simp] theorem State.monMod_isl (f : MonX → MonX) : (State.monMod f s).isl = s.isl := rfl
@[simp] theorem State.monMod_fc (f : MonX → MonX) : (State.monMod f s).fc = s.fc := rfl
@[simp] theorem State.monMod_md (f : MonX → MonX) : (State.monMod f s).md = s.md := rfl
@[simp] theorem State.monMod_sw (f : MonX → MonX) : (State.monMod f s).sw = s.sw := rfl
@[simp] theorem State.monMod_nv (f : MonX → MonX) : (State.monMod f s).nv = s.nv := rfl
@[simp] theorem State.monMod_hbDrive (f : MonX → MonX) : (State.monMod f s).hbDrive = s.hbDrive := rfl
@[simp] theorem State.monMod_lvDrive (f : MonX → MonX) : (State.monMod f s).lvDrive = s.lvDrive := rfl
@[simp] theorem State.monMod_gsDrive (f : MonX → MonX) : (State.monMod f s).gsDrive = s.gsDrive := rfl
@[simp] theorem State.monMod_tb (f : MonX → MonX) : (State.monMod f s).tb = s.tb := rfl
@[simp] theorem State.monMod_grp (f : MonX → MonX) : (State.monMod f s).grp = s.grp := rfl
@[simp] theorem State.monMod_chan (f : MonX → MonX) : (State.monMod f s).chan = s.chan := rfl
@[simp] theorem State.monMod_slots (f : MonX → MonX) : (State.monMod f s).slots = s.slots := rfl
@[simp] theorem State.monMod_eng (f : MonX → MonX) : (State.monMod f s).eng = s.eng := rfl
@[simp] theorem State.monMod_ports (f : MonX → MonX) : (State.monMod f s).ports = s.ports := rfl
@[simp] theorem State.monMod_sdRaised (f : MonX → MonX) : (State.monMod f s).sdRaised = s.sdRaised := rfl
@[simp] theorem State.monMod_obs (f : MonX → MonX) : (State.monMod f s).obs = s.obs := rfl
@[simp] theorem State.monMod_sdTripped (f : MonX → MonX) : (State.monMod f s).sdTripped = s.sdTripped := rfl
@[simp] theorem State.monMod_leave (f : MonX → MonX) : (State.monMod f s).leave = s.leave := rfl
@[simp] theorem State.monMod_gsx (f : MonX → MonX) : (State.monMod f s).gsx = s.gsx := rfl
@[simp] theorem State.monMod_sup (f : MonX → MonX) : (State.monMod f s).sup = s.sup := rfl
@[simp] theorem State.monMod_snx (f : MonX → MonX) : (State.monMod f s).snx = s.snx := rfl
@[simp] theorem State.monMod_trac (f : MonX → MonX) : (State.monMod f s).trac = s.trac := rfl
@[simp] theorem State.monMod_linkPrev (f : MonX → MonX) : (State.monMod f s).linkPrev = s.linkPrev := rfl
@[simp] theorem State.monMod_planAt (f : MonX → MonX) : (State.monMod f s).planAt = s.planAt := rfl
@[simp] theorem State.monMod_passTick (f : MonX → MonX) : (State.monMod f s).passTick = s.passTick := rfl
@[simp] theorem State.monMod_six (f : MonX → MonX) : (State.monMod f s).six = s.six := rfl
@[simp] theorem State.monMod_soHigh (f : MonX → MonX) : (State.monMod f s).soHigh = s.soHigh := rfl
@[simp] theorem State.monMod_cp (f : MonX → MonX) : (State.monMod f s).cp = s.cp := rfl
@[simp] theorem State.monMod_wc (f : MonX → MonX) : (State.monMod f s).wc = s.wc := rfl
@[simp] theorem State.monMod_lv (f : MonX → MonX) : (State.monMod f s).lv = s.lv := rfl
@[simp] theorem State.monMod_lamps (f : MonX → MonX) : (State.monMod f s).lamps = s.lamps := rfl
@[simp] theorem State.monMod_ga (f : MonX → MonX) : (State.monMod f s).ga = s.ga := rfl
@[simp] theorem State.monMod_lk (f : MonX → MonX) : (State.monMod f s).lk = s.lk := rfl
@[simp] theorem State.monMod_post (f : MonX → MonX) : (State.monMod f s).post = s.post := rfl
@[simp] theorem State.monMod_td (f : MonX → MonX) : (State.monMod f s).td = s.td := rfl
@[simp] theorem State.monMod_st (f : MonX → MonX) : (State.monMod f s).st = s.st := rfl
@[simp] theorem State.monMod_cc (f : MonX → MonX) : (State.monMod f s).cc = s.cc := rfl
@[simp] theorem State.monMod_mtr (f : MonX → MonX) : (State.monMod f s).mtr = s.mtr := rfl
@[simp] theorem State.monMod_net (f : MonX → MonX) : (State.monMod f s).net = s.net := rfl
@[simp] theorem State.monMod_can (f : MonX → MonX) : (State.monMod f s).can = s.can := rfl
@[simp] theorem State.monMod_esl (f : MonX → MonX) : (State.monMod f s).esl = s.esl := rfl
@[simp] theorem State.monMod_image (f : MonX → MonX) : (State.monMod f s).image = s.image := rfl
@[simp] theorem State.monMod_takeup (f : MonX → MonX) : (State.monMod f s).takeup = s.takeup := rfl
@[simp] theorem State.monMod_roa (f : MonX → MonX) : (State.monMod f s).roa = s.roa := rfl
@[simp] theorem State.monMod_memx (f : MonX → MonX) : (State.monMod f s).memx = s.memx := rfl
@[simp] theorem State.monMod_hm (f : MonX → MonX) : (State.monMod f s).hm = s.hm := rfl
@[simp] theorem State.monMod_ro (f : MonX → MonX) (j : Nat) : (State.monMod f s).o j = s.o j := rfl
@[simp] theorem State.monMod_roN (f : MonX → MonX) (j : Nat) : (State.monMod f s).oN j = s.oN j := rfl
@[simp] theorem State.monMod_roF (f : MonX → MonX) (j : Nat) : (State.monMod f s).oF j = s.oF j := rfl
@[simp] theorem State.monMod_rc (f : MonX → MonX) (j : Nat) : (State.monMod f s).c j = s.c j := rfl
@[simp] theorem State.monMod_rcN (f : MonX → MonX) (j : Nat) : (State.monMod f s).cN j = s.cN j := rfl
@[simp] theorem State.monMod_rcF (f : MonX → MonX) (j : Nat) : (State.monMod f s).cF j = s.cF j := rfl
@[simp] theorem State.monMod_mode (f : MonX → MonX) : (State.monMod f s).mode = s.mode := rfl
@[simp] theorem State.monMod_up (f : MonX → MonX) : (State.monMod f s).up = s.up := rfl

/-! ## mtrMod changes mtr alone -/

@[simp] theorem State.mtrMod_live (f : MtrX → MtrX) : (State.mtrMod f s).live = s.live := rfl
@[simp] theorem State.mtrMod_active (f : MtrX → MtrX) : (State.mtrMod f s).active = s.active := rfl
@[simp] theorem State.mtrMod_shadow (f : MtrX → MtrX) : (State.mtrMod f s).shadow = s.shadow := rfl
@[simp] theorem State.mtrMod_mem (f : MtrX → MtrX) : (State.mtrMod f s).mem = s.mem := rfl
@[simp] theorem State.mtrMod_pending (f : MtrX → MtrX) : (State.mtrMod f s).pending = s.pending := rfl
@[simp] theorem State.mtrMod_freeIx (f : MtrX → MtrX) : (State.mtrMod f s).freeIx = s.freeIx := rfl
@[simp] theorem State.mtrMod_tick (f : MtrX → MtrX) : (State.mtrMod f s).tick = s.tick := rfl
@[simp] theorem State.mtrMod_devSub (f : MtrX → MtrX) : (State.mtrMod f s).devSub = s.devSub := rfl
@[simp] theorem State.mtrMod_plat (f : MtrX → MtrX) : (State.mtrMod f s).plat = s.plat := rfl
@[simp] theorem State.mtrMod_isl (f : MtrX → MtrX) : (State.mtrMod f s).isl = s.isl := rfl
@[simp] theorem State.mtrMod_fc (f : MtrX → MtrX) : (State.mtrMod f s).fc = s.fc := rfl
@[simp] theorem State.mtrMod_md (f : MtrX → MtrX) : (State.mtrMod f s).md = s.md := rfl
@[simp] theorem State.mtrMod_sw (f : MtrX → MtrX) : (State.mtrMod f s).sw = s.sw := rfl
@[simp] theorem State.mtrMod_nv (f : MtrX → MtrX) : (State.mtrMod f s).nv = s.nv := rfl
@[simp] theorem State.mtrMod_hbDrive (f : MtrX → MtrX) : (State.mtrMod f s).hbDrive = s.hbDrive := rfl
@[simp] theorem State.mtrMod_lvDrive (f : MtrX → MtrX) : (State.mtrMod f s).lvDrive = s.lvDrive := rfl
@[simp] theorem State.mtrMod_gsDrive (f : MtrX → MtrX) : (State.mtrMod f s).gsDrive = s.gsDrive := rfl
@[simp] theorem State.mtrMod_tb (f : MtrX → MtrX) : (State.mtrMod f s).tb = s.tb := rfl
@[simp] theorem State.mtrMod_grp (f : MtrX → MtrX) : (State.mtrMod f s).grp = s.grp := rfl
@[simp] theorem State.mtrMod_chan (f : MtrX → MtrX) : (State.mtrMod f s).chan = s.chan := rfl
@[simp] theorem State.mtrMod_slots (f : MtrX → MtrX) : (State.mtrMod f s).slots = s.slots := rfl
@[simp] theorem State.mtrMod_eng (f : MtrX → MtrX) : (State.mtrMod f s).eng = s.eng := rfl
@[simp] theorem State.mtrMod_ports (f : MtrX → MtrX) : (State.mtrMod f s).ports = s.ports := rfl
@[simp] theorem State.mtrMod_sdRaised (f : MtrX → MtrX) : (State.mtrMod f s).sdRaised = s.sdRaised := rfl
@[simp] theorem State.mtrMod_obs (f : MtrX → MtrX) : (State.mtrMod f s).obs = s.obs := rfl
@[simp] theorem State.mtrMod_sdTripped (f : MtrX → MtrX) : (State.mtrMod f s).sdTripped = s.sdTripped := rfl
@[simp] theorem State.mtrMod_leave (f : MtrX → MtrX) : (State.mtrMod f s).leave = s.leave := rfl
@[simp] theorem State.mtrMod_gsx (f : MtrX → MtrX) : (State.mtrMod f s).gsx = s.gsx := rfl
@[simp] theorem State.mtrMod_sup (f : MtrX → MtrX) : (State.mtrMod f s).sup = s.sup := rfl
@[simp] theorem State.mtrMod_snx (f : MtrX → MtrX) : (State.mtrMod f s).snx = s.snx := rfl
@[simp] theorem State.mtrMod_trac (f : MtrX → MtrX) : (State.mtrMod f s).trac = s.trac := rfl
@[simp] theorem State.mtrMod_linkPrev (f : MtrX → MtrX) : (State.mtrMod f s).linkPrev = s.linkPrev := rfl
@[simp] theorem State.mtrMod_planAt (f : MtrX → MtrX) : (State.mtrMod f s).planAt = s.planAt := rfl
@[simp] theorem State.mtrMod_passTick (f : MtrX → MtrX) : (State.mtrMod f s).passTick = s.passTick := rfl
@[simp] theorem State.mtrMod_six (f : MtrX → MtrX) : (State.mtrMod f s).six = s.six := rfl
@[simp] theorem State.mtrMod_soHigh (f : MtrX → MtrX) : (State.mtrMod f s).soHigh = s.soHigh := rfl
@[simp] theorem State.mtrMod_cp (f : MtrX → MtrX) : (State.mtrMod f s).cp = s.cp := rfl
@[simp] theorem State.mtrMod_wc (f : MtrX → MtrX) : (State.mtrMod f s).wc = s.wc := rfl
@[simp] theorem State.mtrMod_lv (f : MtrX → MtrX) : (State.mtrMod f s).lv = s.lv := rfl
@[simp] theorem State.mtrMod_lamps (f : MtrX → MtrX) : (State.mtrMod f s).lamps = s.lamps := rfl
@[simp] theorem State.mtrMod_ga (f : MtrX → MtrX) : (State.mtrMod f s).ga = s.ga := rfl
@[simp] theorem State.mtrMod_lk (f : MtrX → MtrX) : (State.mtrMod f s).lk = s.lk := rfl
@[simp] theorem State.mtrMod_post (f : MtrX → MtrX) : (State.mtrMod f s).post = s.post := rfl
@[simp] theorem State.mtrMod_td (f : MtrX → MtrX) : (State.mtrMod f s).td = s.td := rfl
@[simp] theorem State.mtrMod_st (f : MtrX → MtrX) : (State.mtrMod f s).st = s.st := rfl
@[simp] theorem State.mtrMod_cc (f : MtrX → MtrX) : (State.mtrMod f s).cc = s.cc := rfl
@[simp] theorem State.mtrMod_mon (f : MtrX → MtrX) : (State.mtrMod f s).mon = s.mon := rfl
@[simp] theorem State.mtrMod_net (f : MtrX → MtrX) : (State.mtrMod f s).net = s.net := rfl
@[simp] theorem State.mtrMod_can (f : MtrX → MtrX) : (State.mtrMod f s).can = s.can := rfl
@[simp] theorem State.mtrMod_esl (f : MtrX → MtrX) : (State.mtrMod f s).esl = s.esl := rfl
@[simp] theorem State.mtrMod_image (f : MtrX → MtrX) : (State.mtrMod f s).image = s.image := rfl
@[simp] theorem State.mtrMod_takeup (f : MtrX → MtrX) : (State.mtrMod f s).takeup = s.takeup := rfl
@[simp] theorem State.mtrMod_roa (f : MtrX → MtrX) : (State.mtrMod f s).roa = s.roa := rfl
@[simp] theorem State.mtrMod_memx (f : MtrX → MtrX) : (State.mtrMod f s).memx = s.memx := rfl
@[simp] theorem State.mtrMod_hm (f : MtrX → MtrX) : (State.mtrMod f s).hm = s.hm := rfl
@[simp] theorem State.mtrMod_ro (f : MtrX → MtrX) (j : Nat) : (State.mtrMod f s).o j = s.o j := rfl
@[simp] theorem State.mtrMod_roN (f : MtrX → MtrX) (j : Nat) : (State.mtrMod f s).oN j = s.oN j := rfl
@[simp] theorem State.mtrMod_roF (f : MtrX → MtrX) (j : Nat) : (State.mtrMod f s).oF j = s.oF j := rfl
@[simp] theorem State.mtrMod_rc (f : MtrX → MtrX) (j : Nat) : (State.mtrMod f s).c j = s.c j := rfl
@[simp] theorem State.mtrMod_rcN (f : MtrX → MtrX) (j : Nat) : (State.mtrMod f s).cN j = s.cN j := rfl
@[simp] theorem State.mtrMod_rcF (f : MtrX → MtrX) (j : Nat) : (State.mtrMod f s).cF j = s.cF j := rfl
@[simp] theorem State.mtrMod_mode (f : MtrX → MtrX) : (State.mtrMod f s).mode = s.mode := rfl
@[simp] theorem State.mtrMod_up (f : MtrX → MtrX) : (State.mtrMod f s).up = s.up := rfl

/-! ## snxMod changes snx alone -/

@[simp] theorem State.snxMod_live (f : SenseX → SenseX) : (State.snxMod f s).live = s.live := rfl
@[simp] theorem State.snxMod_active (f : SenseX → SenseX) : (State.snxMod f s).active = s.active := rfl
@[simp] theorem State.snxMod_shadow (f : SenseX → SenseX) : (State.snxMod f s).shadow = s.shadow := rfl
@[simp] theorem State.snxMod_mem (f : SenseX → SenseX) : (State.snxMod f s).mem = s.mem := rfl
@[simp] theorem State.snxMod_pending (f : SenseX → SenseX) : (State.snxMod f s).pending = s.pending := rfl
@[simp] theorem State.snxMod_freeIx (f : SenseX → SenseX) : (State.snxMod f s).freeIx = s.freeIx := rfl
@[simp] theorem State.snxMod_tick (f : SenseX → SenseX) : (State.snxMod f s).tick = s.tick := rfl
@[simp] theorem State.snxMod_devSub (f : SenseX → SenseX) : (State.snxMod f s).devSub = s.devSub := rfl
@[simp] theorem State.snxMod_plat (f : SenseX → SenseX) : (State.snxMod f s).plat = s.plat := rfl
@[simp] theorem State.snxMod_isl (f : SenseX → SenseX) : (State.snxMod f s).isl = s.isl := rfl
@[simp] theorem State.snxMod_fc (f : SenseX → SenseX) : (State.snxMod f s).fc = s.fc := rfl
@[simp] theorem State.snxMod_md (f : SenseX → SenseX) : (State.snxMod f s).md = s.md := rfl
@[simp] theorem State.snxMod_sw (f : SenseX → SenseX) : (State.snxMod f s).sw = s.sw := rfl
@[simp] theorem State.snxMod_nv (f : SenseX → SenseX) : (State.snxMod f s).nv = s.nv := rfl
@[simp] theorem State.snxMod_hbDrive (f : SenseX → SenseX) : (State.snxMod f s).hbDrive = s.hbDrive := rfl
@[simp] theorem State.snxMod_lvDrive (f : SenseX → SenseX) : (State.snxMod f s).lvDrive = s.lvDrive := rfl
@[simp] theorem State.snxMod_gsDrive (f : SenseX → SenseX) : (State.snxMod f s).gsDrive = s.gsDrive := rfl
@[simp] theorem State.snxMod_tb (f : SenseX → SenseX) : (State.snxMod f s).tb = s.tb := rfl
@[simp] theorem State.snxMod_grp (f : SenseX → SenseX) : (State.snxMod f s).grp = s.grp := rfl
@[simp] theorem State.snxMod_chan (f : SenseX → SenseX) : (State.snxMod f s).chan = s.chan := rfl
@[simp] theorem State.snxMod_slots (f : SenseX → SenseX) : (State.snxMod f s).slots = s.slots := rfl
@[simp] theorem State.snxMod_eng (f : SenseX → SenseX) : (State.snxMod f s).eng = s.eng := rfl
@[simp] theorem State.snxMod_ports (f : SenseX → SenseX) : (State.snxMod f s).ports = s.ports := rfl
@[simp] theorem State.snxMod_sdRaised (f : SenseX → SenseX) : (State.snxMod f s).sdRaised = s.sdRaised := rfl
@[simp] theorem State.snxMod_obs (f : SenseX → SenseX) : (State.snxMod f s).obs = s.obs := rfl
@[simp] theorem State.snxMod_sdTripped (f : SenseX → SenseX) : (State.snxMod f s).sdTripped = s.sdTripped := rfl
@[simp] theorem State.snxMod_leave (f : SenseX → SenseX) : (State.snxMod f s).leave = s.leave := rfl
@[simp] theorem State.snxMod_gsx (f : SenseX → SenseX) : (State.snxMod f s).gsx = s.gsx := rfl
@[simp] theorem State.snxMod_sup (f : SenseX → SenseX) : (State.snxMod f s).sup = s.sup := rfl
@[simp] theorem State.snxMod_trac (f : SenseX → SenseX) : (State.snxMod f s).trac = s.trac := rfl
@[simp] theorem State.snxMod_linkPrev (f : SenseX → SenseX) : (State.snxMod f s).linkPrev = s.linkPrev := rfl
@[simp] theorem State.snxMod_planAt (f : SenseX → SenseX) : (State.snxMod f s).planAt = s.planAt := rfl
@[simp] theorem State.snxMod_passTick (f : SenseX → SenseX) : (State.snxMod f s).passTick = s.passTick := rfl
@[simp] theorem State.snxMod_six (f : SenseX → SenseX) : (State.snxMod f s).six = s.six := rfl
@[simp] theorem State.snxMod_soHigh (f : SenseX → SenseX) : (State.snxMod f s).soHigh = s.soHigh := rfl
@[simp] theorem State.snxMod_cp (f : SenseX → SenseX) : (State.snxMod f s).cp = s.cp := rfl
@[simp] theorem State.snxMod_wc (f : SenseX → SenseX) : (State.snxMod f s).wc = s.wc := rfl
@[simp] theorem State.snxMod_lv (f : SenseX → SenseX) : (State.snxMod f s).lv = s.lv := rfl
@[simp] theorem State.snxMod_lamps (f : SenseX → SenseX) : (State.snxMod f s).lamps = s.lamps := rfl
@[simp] theorem State.snxMod_ga (f : SenseX → SenseX) : (State.snxMod f s).ga = s.ga := rfl
@[simp] theorem State.snxMod_lk (f : SenseX → SenseX) : (State.snxMod f s).lk = s.lk := rfl
@[simp] theorem State.snxMod_post (f : SenseX → SenseX) : (State.snxMod f s).post = s.post := rfl
@[simp] theorem State.snxMod_td (f : SenseX → SenseX) : (State.snxMod f s).td = s.td := rfl
@[simp] theorem State.snxMod_st (f : SenseX → SenseX) : (State.snxMod f s).st = s.st := rfl
@[simp] theorem State.snxMod_cc (f : SenseX → SenseX) : (State.snxMod f s).cc = s.cc := rfl
@[simp] theorem State.snxMod_mon (f : SenseX → SenseX) : (State.snxMod f s).mon = s.mon := rfl
@[simp] theorem State.snxMod_mtr (f : SenseX → SenseX) : (State.snxMod f s).mtr = s.mtr := rfl
@[simp] theorem State.snxMod_net (f : SenseX → SenseX) : (State.snxMod f s).net = s.net := rfl
@[simp] theorem State.snxMod_can (f : SenseX → SenseX) : (State.snxMod f s).can = s.can := rfl
@[simp] theorem State.snxMod_esl (f : SenseX → SenseX) : (State.snxMod f s).esl = s.esl := rfl
@[simp] theorem State.snxMod_image (f : SenseX → SenseX) : (State.snxMod f s).image = s.image := rfl
@[simp] theorem State.snxMod_takeup (f : SenseX → SenseX) : (State.snxMod f s).takeup = s.takeup := rfl
@[simp] theorem State.snxMod_roa (f : SenseX → SenseX) : (State.snxMod f s).roa = s.roa := rfl
@[simp] theorem State.snxMod_memx (f : SenseX → SenseX) : (State.snxMod f s).memx = s.memx := rfl
@[simp] theorem State.snxMod_hm (f : SenseX → SenseX) : (State.snxMod f s).hm = s.hm := rfl
@[simp] theorem State.snxMod_ro (f : SenseX → SenseX) (j : Nat) : (State.snxMod f s).o j = s.o j := rfl
@[simp] theorem State.snxMod_roN (f : SenseX → SenseX) (j : Nat) : (State.snxMod f s).oN j = s.oN j := rfl
@[simp] theorem State.snxMod_roF (f : SenseX → SenseX) (j : Nat) : (State.snxMod f s).oF j = s.oF j := rfl
@[simp] theorem State.snxMod_rc (f : SenseX → SenseX) (j : Nat) : (State.snxMod f s).c j = s.c j := rfl
@[simp] theorem State.snxMod_rcN (f : SenseX → SenseX) (j : Nat) : (State.snxMod f s).cN j = s.cN j := rfl
@[simp] theorem State.snxMod_rcF (f : SenseX → SenseX) (j : Nat) : (State.snxMod f s).cF j = s.cF j := rfl
@[simp] theorem State.snxMod_mode (f : SenseX → SenseX) : (State.snxMod f s).mode = s.mode := rfl
@[simp] theorem State.snxMod_up (f : SenseX → SenseX) : (State.snxMod f s).up = s.up := rfl

/-! ## netMod changes net alone -/

@[simp] theorem State.netMod_live (f : NetX → NetX) : (State.netMod f s).live = s.live := rfl
@[simp] theorem State.netMod_active (f : NetX → NetX) : (State.netMod f s).active = s.active := rfl
@[simp] theorem State.netMod_shadow (f : NetX → NetX) : (State.netMod f s).shadow = s.shadow := rfl
@[simp] theorem State.netMod_mem (f : NetX → NetX) : (State.netMod f s).mem = s.mem := rfl
@[simp] theorem State.netMod_pending (f : NetX → NetX) : (State.netMod f s).pending = s.pending := rfl
@[simp] theorem State.netMod_freeIx (f : NetX → NetX) : (State.netMod f s).freeIx = s.freeIx := rfl
@[simp] theorem State.netMod_tick (f : NetX → NetX) : (State.netMod f s).tick = s.tick := rfl
@[simp] theorem State.netMod_devSub (f : NetX → NetX) : (State.netMod f s).devSub = s.devSub := rfl
@[simp] theorem State.netMod_plat (f : NetX → NetX) : (State.netMod f s).plat = s.plat := rfl
@[simp] theorem State.netMod_isl (f : NetX → NetX) : (State.netMod f s).isl = s.isl := rfl
@[simp] theorem State.netMod_fc (f : NetX → NetX) : (State.netMod f s).fc = s.fc := rfl
@[simp] theorem State.netMod_md (f : NetX → NetX) : (State.netMod f s).md = s.md := rfl
@[simp] theorem State.netMod_sw (f : NetX → NetX) : (State.netMod f s).sw = s.sw := rfl
@[simp] theorem State.netMod_nv (f : NetX → NetX) : (State.netMod f s).nv = s.nv := rfl
@[simp] theorem State.netMod_hbDrive (f : NetX → NetX) : (State.netMod f s).hbDrive = s.hbDrive := rfl
@[simp] theorem State.netMod_lvDrive (f : NetX → NetX) : (State.netMod f s).lvDrive = s.lvDrive := rfl
@[simp] theorem State.netMod_gsDrive (f : NetX → NetX) : (State.netMod f s).gsDrive = s.gsDrive := rfl
@[simp] theorem State.netMod_tb (f : NetX → NetX) : (State.netMod f s).tb = s.tb := rfl
@[simp] theorem State.netMod_grp (f : NetX → NetX) : (State.netMod f s).grp = s.grp := rfl
@[simp] theorem State.netMod_chan (f : NetX → NetX) : (State.netMod f s).chan = s.chan := rfl
@[simp] theorem State.netMod_slots (f : NetX → NetX) : (State.netMod f s).slots = s.slots := rfl
@[simp] theorem State.netMod_eng (f : NetX → NetX) : (State.netMod f s).eng = s.eng := rfl
@[simp] theorem State.netMod_ports (f : NetX → NetX) : (State.netMod f s).ports = s.ports := rfl
@[simp] theorem State.netMod_sdRaised (f : NetX → NetX) : (State.netMod f s).sdRaised = s.sdRaised := rfl
@[simp] theorem State.netMod_obs (f : NetX → NetX) : (State.netMod f s).obs = s.obs := rfl
@[simp] theorem State.netMod_sdTripped (f : NetX → NetX) : (State.netMod f s).sdTripped = s.sdTripped := rfl
@[simp] theorem State.netMod_leave (f : NetX → NetX) : (State.netMod f s).leave = s.leave := rfl
@[simp] theorem State.netMod_gsx (f : NetX → NetX) : (State.netMod f s).gsx = s.gsx := rfl
@[simp] theorem State.netMod_sup (f : NetX → NetX) : (State.netMod f s).sup = s.sup := rfl
@[simp] theorem State.netMod_snx (f : NetX → NetX) : (State.netMod f s).snx = s.snx := rfl
@[simp] theorem State.netMod_trac (f : NetX → NetX) : (State.netMod f s).trac = s.trac := rfl
@[simp] theorem State.netMod_linkPrev (f : NetX → NetX) : (State.netMod f s).linkPrev = s.linkPrev := rfl
@[simp] theorem State.netMod_planAt (f : NetX → NetX) : (State.netMod f s).planAt = s.planAt := rfl
@[simp] theorem State.netMod_passTick (f : NetX → NetX) : (State.netMod f s).passTick = s.passTick := rfl
@[simp] theorem State.netMod_six (f : NetX → NetX) : (State.netMod f s).six = s.six := rfl
@[simp] theorem State.netMod_soHigh (f : NetX → NetX) : (State.netMod f s).soHigh = s.soHigh := rfl
@[simp] theorem State.netMod_cp (f : NetX → NetX) : (State.netMod f s).cp = s.cp := rfl
@[simp] theorem State.netMod_wc (f : NetX → NetX) : (State.netMod f s).wc = s.wc := rfl
@[simp] theorem State.netMod_lv (f : NetX → NetX) : (State.netMod f s).lv = s.lv := rfl
@[simp] theorem State.netMod_lamps (f : NetX → NetX) : (State.netMod f s).lamps = s.lamps := rfl
@[simp] theorem State.netMod_ga (f : NetX → NetX) : (State.netMod f s).ga = s.ga := rfl
@[simp] theorem State.netMod_lk (f : NetX → NetX) : (State.netMod f s).lk = s.lk := rfl
@[simp] theorem State.netMod_post (f : NetX → NetX) : (State.netMod f s).post = s.post := rfl
@[simp] theorem State.netMod_td (f : NetX → NetX) : (State.netMod f s).td = s.td := rfl
@[simp] theorem State.netMod_st (f : NetX → NetX) : (State.netMod f s).st = s.st := rfl
@[simp] theorem State.netMod_cc (f : NetX → NetX) : (State.netMod f s).cc = s.cc := rfl
@[simp] theorem State.netMod_mon (f : NetX → NetX) : (State.netMod f s).mon = s.mon := rfl
@[simp] theorem State.netMod_mtr (f : NetX → NetX) : (State.netMod f s).mtr = s.mtr := rfl
@[simp] theorem State.netMod_can (f : NetX → NetX) : (State.netMod f s).can = s.can := rfl
@[simp] theorem State.netMod_esl (f : NetX → NetX) : (State.netMod f s).esl = s.esl := rfl
@[simp] theorem State.netMod_image (f : NetX → NetX) : (State.netMod f s).image = s.image := rfl
@[simp] theorem State.netMod_takeup (f : NetX → NetX) : (State.netMod f s).takeup = s.takeup := rfl
@[simp] theorem State.netMod_roa (f : NetX → NetX) : (State.netMod f s).roa = s.roa := rfl
@[simp] theorem State.netMod_memx (f : NetX → NetX) : (State.netMod f s).memx = s.memx := rfl
@[simp] theorem State.netMod_hm (f : NetX → NetX) : (State.netMod f s).hm = s.hm := rfl
@[simp] theorem State.netMod_ro (f : NetX → NetX) (j : Nat) : (State.netMod f s).o j = s.o j := rfl
@[simp] theorem State.netMod_roN (f : NetX → NetX) (j : Nat) : (State.netMod f s).oN j = s.oN j := rfl
@[simp] theorem State.netMod_roF (f : NetX → NetX) (j : Nat) : (State.netMod f s).oF j = s.oF j := rfl
@[simp] theorem State.netMod_rc (f : NetX → NetX) (j : Nat) : (State.netMod f s).c j = s.c j := rfl
@[simp] theorem State.netMod_rcN (f : NetX → NetX) (j : Nat) : (State.netMod f s).cN j = s.cN j := rfl
@[simp] theorem State.netMod_rcF (f : NetX → NetX) (j : Nat) : (State.netMod f s).cF j = s.cF j := rfl
@[simp] theorem State.netMod_mode (f : NetX → NetX) : (State.netMod f s).mode = s.mode := rfl
@[simp] theorem State.netMod_up (f : NetX → NetX) : (State.netMod f s).up = s.up := rfl

/-! ## memMod changes memx alone -/

@[simp] theorem State.memMod_live (f : MemX → MemX) : (State.memMod f s).live = s.live := rfl
@[simp] theorem State.memMod_active (f : MemX → MemX) : (State.memMod f s).active = s.active := rfl
@[simp] theorem State.memMod_shadow (f : MemX → MemX) : (State.memMod f s).shadow = s.shadow := rfl
@[simp] theorem State.memMod_mem (f : MemX → MemX) : (State.memMod f s).mem = s.mem := rfl
@[simp] theorem State.memMod_pending (f : MemX → MemX) : (State.memMod f s).pending = s.pending := rfl
@[simp] theorem State.memMod_freeIx (f : MemX → MemX) : (State.memMod f s).freeIx = s.freeIx := rfl
@[simp] theorem State.memMod_tick (f : MemX → MemX) : (State.memMod f s).tick = s.tick := rfl
@[simp] theorem State.memMod_devSub (f : MemX → MemX) : (State.memMod f s).devSub = s.devSub := rfl
@[simp] theorem State.memMod_plat (f : MemX → MemX) : (State.memMod f s).plat = s.plat := rfl
@[simp] theorem State.memMod_isl (f : MemX → MemX) : (State.memMod f s).isl = s.isl := rfl
@[simp] theorem State.memMod_fc (f : MemX → MemX) : (State.memMod f s).fc = s.fc := rfl
@[simp] theorem State.memMod_md (f : MemX → MemX) : (State.memMod f s).md = s.md := rfl
@[simp] theorem State.memMod_sw (f : MemX → MemX) : (State.memMod f s).sw = s.sw := rfl
@[simp] theorem State.memMod_nv (f : MemX → MemX) : (State.memMod f s).nv = s.nv := rfl
@[simp] theorem State.memMod_hbDrive (f : MemX → MemX) : (State.memMod f s).hbDrive = s.hbDrive := rfl
@[simp] theorem State.memMod_lvDrive (f : MemX → MemX) : (State.memMod f s).lvDrive = s.lvDrive := rfl
@[simp] theorem State.memMod_gsDrive (f : MemX → MemX) : (State.memMod f s).gsDrive = s.gsDrive := rfl
@[simp] theorem State.memMod_tb (f : MemX → MemX) : (State.memMod f s).tb = s.tb := rfl
@[simp] theorem State.memMod_grp (f : MemX → MemX) : (State.memMod f s).grp = s.grp := rfl
@[simp] theorem State.memMod_chan (f : MemX → MemX) : (State.memMod f s).chan = s.chan := rfl
@[simp] theorem State.memMod_slots (f : MemX → MemX) : (State.memMod f s).slots = s.slots := rfl
@[simp] theorem State.memMod_eng (f : MemX → MemX) : (State.memMod f s).eng = s.eng := rfl
@[simp] theorem State.memMod_ports (f : MemX → MemX) : (State.memMod f s).ports = s.ports := rfl
@[simp] theorem State.memMod_sdRaised (f : MemX → MemX) : (State.memMod f s).sdRaised = s.sdRaised := rfl
@[simp] theorem State.memMod_obs (f : MemX → MemX) : (State.memMod f s).obs = s.obs := rfl
@[simp] theorem State.memMod_sdTripped (f : MemX → MemX) : (State.memMod f s).sdTripped = s.sdTripped := rfl
@[simp] theorem State.memMod_leave (f : MemX → MemX) : (State.memMod f s).leave = s.leave := rfl
@[simp] theorem State.memMod_gsx (f : MemX → MemX) : (State.memMod f s).gsx = s.gsx := rfl
@[simp] theorem State.memMod_sup (f : MemX → MemX) : (State.memMod f s).sup = s.sup := rfl
@[simp] theorem State.memMod_snx (f : MemX → MemX) : (State.memMod f s).snx = s.snx := rfl
@[simp] theorem State.memMod_trac (f : MemX → MemX) : (State.memMod f s).trac = s.trac := rfl
@[simp] theorem State.memMod_linkPrev (f : MemX → MemX) : (State.memMod f s).linkPrev = s.linkPrev := rfl
@[simp] theorem State.memMod_planAt (f : MemX → MemX) : (State.memMod f s).planAt = s.planAt := rfl
@[simp] theorem State.memMod_passTick (f : MemX → MemX) : (State.memMod f s).passTick = s.passTick := rfl
@[simp] theorem State.memMod_six (f : MemX → MemX) : (State.memMod f s).six = s.six := rfl
@[simp] theorem State.memMod_soHigh (f : MemX → MemX) : (State.memMod f s).soHigh = s.soHigh := rfl
@[simp] theorem State.memMod_cp (f : MemX → MemX) : (State.memMod f s).cp = s.cp := rfl
@[simp] theorem State.memMod_wc (f : MemX → MemX) : (State.memMod f s).wc = s.wc := rfl
@[simp] theorem State.memMod_lv (f : MemX → MemX) : (State.memMod f s).lv = s.lv := rfl
@[simp] theorem State.memMod_lamps (f : MemX → MemX) : (State.memMod f s).lamps = s.lamps := rfl
@[simp] theorem State.memMod_ga (f : MemX → MemX) : (State.memMod f s).ga = s.ga := rfl
@[simp] theorem State.memMod_lk (f : MemX → MemX) : (State.memMod f s).lk = s.lk := rfl
@[simp] theorem State.memMod_post (f : MemX → MemX) : (State.memMod f s).post = s.post := rfl
@[simp] theorem State.memMod_td (f : MemX → MemX) : (State.memMod f s).td = s.td := rfl
@[simp] theorem State.memMod_st (f : MemX → MemX) : (State.memMod f s).st = s.st := rfl
@[simp] theorem State.memMod_cc (f : MemX → MemX) : (State.memMod f s).cc = s.cc := rfl
@[simp] theorem State.memMod_mon (f : MemX → MemX) : (State.memMod f s).mon = s.mon := rfl
@[simp] theorem State.memMod_mtr (f : MemX → MemX) : (State.memMod f s).mtr = s.mtr := rfl
@[simp] theorem State.memMod_net (f : MemX → MemX) : (State.memMod f s).net = s.net := rfl
@[simp] theorem State.memMod_can (f : MemX → MemX) : (State.memMod f s).can = s.can := rfl
@[simp] theorem State.memMod_esl (f : MemX → MemX) : (State.memMod f s).esl = s.esl := rfl
@[simp] theorem State.memMod_image (f : MemX → MemX) : (State.memMod f s).image = s.image := rfl
@[simp] theorem State.memMod_takeup (f : MemX → MemX) : (State.memMod f s).takeup = s.takeup := rfl
@[simp] theorem State.memMod_roa (f : MemX → MemX) : (State.memMod f s).roa = s.roa := rfl
@[simp] theorem State.memMod_hm (f : MemX → MemX) : (State.memMod f s).hm = s.hm := rfl
@[simp] theorem State.memMod_ro (f : MemX → MemX) (j : Nat) : (State.memMod f s).o j = s.o j := rfl
@[simp] theorem State.memMod_roN (f : MemX → MemX) (j : Nat) : (State.memMod f s).oN j = s.oN j := rfl
@[simp] theorem State.memMod_roF (f : MemX → MemX) (j : Nat) : (State.memMod f s).oF j = s.oF j := rfl
@[simp] theorem State.memMod_rc (f : MemX → MemX) (j : Nat) : (State.memMod f s).c j = s.c j := rfl
@[simp] theorem State.memMod_rcN (f : MemX → MemX) (j : Nat) : (State.memMod f s).cN j = s.cN j := rfl
@[simp] theorem State.memMod_rcF (f : MemX → MemX) (j : Nat) : (State.memMod f s).cF j = s.cF j := rfl
@[simp] theorem State.memMod_mode (f : MemX → MemX) : (State.memMod f s).mode = s.mode := rfl
@[simp] theorem State.memMod_up (f : MemX → MemX) : (State.memMod f s).up = s.up := rfl

/-! ## roaMod changes roa alone -/

@[simp] theorem State.roaMod_live (f : RoaX → RoaX) : (State.roaMod f s).live = s.live := rfl
@[simp] theorem State.roaMod_active (f : RoaX → RoaX) : (State.roaMod f s).active = s.active := rfl
@[simp] theorem State.roaMod_shadow (f : RoaX → RoaX) : (State.roaMod f s).shadow = s.shadow := rfl
@[simp] theorem State.roaMod_mem (f : RoaX → RoaX) : (State.roaMod f s).mem = s.mem := rfl
@[simp] theorem State.roaMod_pending (f : RoaX → RoaX) : (State.roaMod f s).pending = s.pending := rfl
@[simp] theorem State.roaMod_freeIx (f : RoaX → RoaX) : (State.roaMod f s).freeIx = s.freeIx := rfl
@[simp] theorem State.roaMod_tick (f : RoaX → RoaX) : (State.roaMod f s).tick = s.tick := rfl
@[simp] theorem State.roaMod_devSub (f : RoaX → RoaX) : (State.roaMod f s).devSub = s.devSub := rfl
@[simp] theorem State.roaMod_plat (f : RoaX → RoaX) : (State.roaMod f s).plat = s.plat := rfl
@[simp] theorem State.roaMod_isl (f : RoaX → RoaX) : (State.roaMod f s).isl = s.isl := rfl
@[simp] theorem State.roaMod_fc (f : RoaX → RoaX) : (State.roaMod f s).fc = s.fc := rfl
@[simp] theorem State.roaMod_md (f : RoaX → RoaX) : (State.roaMod f s).md = s.md := rfl
@[simp] theorem State.roaMod_sw (f : RoaX → RoaX) : (State.roaMod f s).sw = s.sw := rfl
@[simp] theorem State.roaMod_nv (f : RoaX → RoaX) : (State.roaMod f s).nv = s.nv := rfl
@[simp] theorem State.roaMod_hbDrive (f : RoaX → RoaX) : (State.roaMod f s).hbDrive = s.hbDrive := rfl
@[simp] theorem State.roaMod_lvDrive (f : RoaX → RoaX) : (State.roaMod f s).lvDrive = s.lvDrive := rfl
@[simp] theorem State.roaMod_gsDrive (f : RoaX → RoaX) : (State.roaMod f s).gsDrive = s.gsDrive := rfl
@[simp] theorem State.roaMod_tb (f : RoaX → RoaX) : (State.roaMod f s).tb = s.tb := rfl
@[simp] theorem State.roaMod_grp (f : RoaX → RoaX) : (State.roaMod f s).grp = s.grp := rfl
@[simp] theorem State.roaMod_chan (f : RoaX → RoaX) : (State.roaMod f s).chan = s.chan := rfl
@[simp] theorem State.roaMod_slots (f : RoaX → RoaX) : (State.roaMod f s).slots = s.slots := rfl
@[simp] theorem State.roaMod_eng (f : RoaX → RoaX) : (State.roaMod f s).eng = s.eng := rfl
@[simp] theorem State.roaMod_ports (f : RoaX → RoaX) : (State.roaMod f s).ports = s.ports := rfl
@[simp] theorem State.roaMod_sdRaised (f : RoaX → RoaX) : (State.roaMod f s).sdRaised = s.sdRaised := rfl
@[simp] theorem State.roaMod_obs (f : RoaX → RoaX) : (State.roaMod f s).obs = s.obs := rfl
@[simp] theorem State.roaMod_sdTripped (f : RoaX → RoaX) : (State.roaMod f s).sdTripped = s.sdTripped := rfl
@[simp] theorem State.roaMod_leave (f : RoaX → RoaX) : (State.roaMod f s).leave = s.leave := rfl
@[simp] theorem State.roaMod_gsx (f : RoaX → RoaX) : (State.roaMod f s).gsx = s.gsx := rfl
@[simp] theorem State.roaMod_sup (f : RoaX → RoaX) : (State.roaMod f s).sup = s.sup := rfl
@[simp] theorem State.roaMod_snx (f : RoaX → RoaX) : (State.roaMod f s).snx = s.snx := rfl
@[simp] theorem State.roaMod_trac (f : RoaX → RoaX) : (State.roaMod f s).trac = s.trac := rfl
@[simp] theorem State.roaMod_linkPrev (f : RoaX → RoaX) : (State.roaMod f s).linkPrev = s.linkPrev := rfl
@[simp] theorem State.roaMod_planAt (f : RoaX → RoaX) : (State.roaMod f s).planAt = s.planAt := rfl
@[simp] theorem State.roaMod_passTick (f : RoaX → RoaX) : (State.roaMod f s).passTick = s.passTick := rfl
@[simp] theorem State.roaMod_six (f : RoaX → RoaX) : (State.roaMod f s).six = s.six := rfl
@[simp] theorem State.roaMod_soHigh (f : RoaX → RoaX) : (State.roaMod f s).soHigh = s.soHigh := rfl
@[simp] theorem State.roaMod_cp (f : RoaX → RoaX) : (State.roaMod f s).cp = s.cp := rfl
@[simp] theorem State.roaMod_wc (f : RoaX → RoaX) : (State.roaMod f s).wc = s.wc := rfl
@[simp] theorem State.roaMod_lv (f : RoaX → RoaX) : (State.roaMod f s).lv = s.lv := rfl
@[simp] theorem State.roaMod_lamps (f : RoaX → RoaX) : (State.roaMod f s).lamps = s.lamps := rfl
@[simp] theorem State.roaMod_ga (f : RoaX → RoaX) : (State.roaMod f s).ga = s.ga := rfl
@[simp] theorem State.roaMod_lk (f : RoaX → RoaX) : (State.roaMod f s).lk = s.lk := rfl
@[simp] theorem State.roaMod_post (f : RoaX → RoaX) : (State.roaMod f s).post = s.post := rfl
@[simp] theorem State.roaMod_td (f : RoaX → RoaX) : (State.roaMod f s).td = s.td := rfl
@[simp] theorem State.roaMod_st (f : RoaX → RoaX) : (State.roaMod f s).st = s.st := rfl
@[simp] theorem State.roaMod_cc (f : RoaX → RoaX) : (State.roaMod f s).cc = s.cc := rfl
@[simp] theorem State.roaMod_mon (f : RoaX → RoaX) : (State.roaMod f s).mon = s.mon := rfl
@[simp] theorem State.roaMod_mtr (f : RoaX → RoaX) : (State.roaMod f s).mtr = s.mtr := rfl
@[simp] theorem State.roaMod_net (f : RoaX → RoaX) : (State.roaMod f s).net = s.net := rfl
@[simp] theorem State.roaMod_can (f : RoaX → RoaX) : (State.roaMod f s).can = s.can := rfl
@[simp] theorem State.roaMod_esl (f : RoaX → RoaX) : (State.roaMod f s).esl = s.esl := rfl
@[simp] theorem State.roaMod_image (f : RoaX → RoaX) : (State.roaMod f s).image = s.image := rfl
@[simp] theorem State.roaMod_takeup (f : RoaX → RoaX) : (State.roaMod f s).takeup = s.takeup := rfl
@[simp] theorem State.roaMod_memx (f : RoaX → RoaX) : (State.roaMod f s).memx = s.memx := rfl
@[simp] theorem State.roaMod_hm (f : RoaX → RoaX) : (State.roaMod f s).hm = s.hm := rfl
@[simp] theorem State.roaMod_ro (f : RoaX → RoaX) (j : Nat) : (State.roaMod f s).o j = s.o j := rfl
@[simp] theorem State.roaMod_roN (f : RoaX → RoaX) (j : Nat) : (State.roaMod f s).oN j = s.oN j := rfl
@[simp] theorem State.roaMod_roF (f : RoaX → RoaX) (j : Nat) : (State.roaMod f s).oF j = s.oF j := rfl
@[simp] theorem State.roaMod_rc (f : RoaX → RoaX) (j : Nat) : (State.roaMod f s).c j = s.c j := rfl
@[simp] theorem State.roaMod_rcN (f : RoaX → RoaX) (j : Nat) : (State.roaMod f s).cN j = s.cN j := rfl
@[simp] theorem State.roaMod_rcF (f : RoaX → RoaX) (j : Nat) : (State.roaMod f s).cF j = s.cF j := rfl
@[simp] theorem State.roaMod_mode (f : RoaX → RoaX) : (State.roaMod f s).mode = s.mode := rfl
@[simp] theorem State.roaMod_up (f : RoaX → RoaX) : (State.roaMod f s).up = s.up := rfl

end Sys2Proof.Machine
end

