-- ==== Sys2Proof/Machine/Pins.lean ====
section
/-! DEFINITION. What the device's balls do at the end of a tick: what it drives, and what it reads (R14, R15, R60, R134, R162, R164, R329,
R433, R472, R478, R483, R489, R523, R529, R566). -/

namespace Sys2Proof.Machine

/-- The signal balls of R565, by group and number. -/
inductive Ball
  | hbPul (n : Fin 24) | hbEna (n : Fin 24) | lvPul (n : Fin 16) | lvEna (n : Fin 16)
  | gsDrv (k : Fin 48) | gsSns (k : Fin 48)
  | vsw (n : Fin 24) | vdc (n : Fin 4) | ain (n : Fin 16) | isn (n : Fin 16) | bst (n : Fin 16) | vout (k : Fin 4)
  | sd (n : Fin 32) | sdclk (k : Fin 4) | metering (n : Fin 18)
  | canTxd (c : Fin 8) | canRxd (c : Fin 8) | canStb (c : Fin 8)
  | xgTx (p : Fin 2) | xgRx (p : Fin 2) | xgRefclk (p : Fin 2) | mdc | mdio | t1s (p : Fin 2)
  | soHs (n : Fin 8) | soLs (n : Fin 8) | soRb (n : Fin 8) | si (n : Fin 16) | tp (k : Fin 4)
  | seal (n : Fin 8) | lamp (n : Fin 4) | pfailN | resetN | wake (n : Fin 4) | int0N | int1N
  | xspiCsN | xspiRstN | xspiClk | xspiData
  | lspiOut | lspiIn | debugIn | tdo | uartTx | uartRx
  | xtal | clkout | ppsIn | ppsOut | tdiode | ft (n : Fin 4)
  deriving DecidableEq, Repr

/-- What a ball does. -/
inductive BallState
  /-- driven at a level, or left to its pull or to the board -/
  | low | high | highZ
  /-- an input that the device reads, one that it does not read, and one that has no effect -/
  | read | notRead | inert
  /-- driven as its unit's traffic, regulation or waveform has it -/
  | active
  /-- a clock of a frequency in Hz -/
  | clock (hz : Nat)
  /-- under factory-test control -/
  | factory
  deriving DecidableEq, Repr

/-- Driven high or low. -/
def driven (level : Bool) : BallState := if level then .high else .low

/-- Open drain: low, or released. -/
def openDrain (pulls : Bool) : BallState := if pulls then .low else .highZ

/-- The modes M2 to M10, in which the table's last column but one holds. -/
def State.pinsOn (s : State) : Bool := s.up && 2 ≤ s.mode && s.mode ≤ 10

/-- INT0_N pulls low: a response waits for the LSPI host (R433). -/
def State.int0Low (s : State) : Bool := s.pinsOn && !s.roa.lspi.isEmpty

/-- INT1_N pulls low: M9, or a status bit of class SAFE or CRITICAL is set (R566). -/
def State.int1Low (s : State) : Bool :=
  s.pinsOn && (s.mode == 9 || s.fc.active.any (fun p => 3 ≤ s.faultClass p.1 p.2))

/-- SDCLKk rises at the start of every tick whose count is a multiple of 4 while an enabled input selects it, and falls two ticks later
(R164). -/
def State.sdclkHigh (s : State) (k : Nat) : Bool := s.sensing && !(s.clkUsers k).isEmpty && decide (s.tick % 4 < 2)

/-- TPk is high but for a pulse of SiTestPulse every SiTestPeriod, TPk's beginning k quarters of a period after TP0's (R523). Where TP0's
begins the spec does not say: the periods are counted from the rise of VDD_COC (DESIGN CHOICE, log 79). -/
def State.tpHigh (s : State) (k : Nat) : Bool :=
  let p := s.oN Obj.siTestPeriod * 1000000
  let w := s.oN Obj.siTestPulse * 1000
  !decide ((s.mono + p - k * p / 4) % p < w)

/-- A pilot drive in its period of 1 ms: +12 V for the duty, −12 V for the rest, and 2 µs with both switches low at each change (R516). The
post is DC only, so its duty is 5 % (R343, R345; PRESUMED, log 83); the period is counted from the rise of VDD_COC (DESIGN CHOICE, log 83). -/
def State.pilotHigh (s : State) : Bool := decide (s.tick % 80000 < 4000)
def State.pilotLow (s : State) : Bool := decide (4160 ≤ s.tick % 80000 ∧ s.tick % 80000 < 79840)

/-- A safety output's switch is held on; a pilot drive switches (R516 to R520). -/
def State.soBall (s : State) (n : Nat) (high : Bool) : BallState :=
  if s.oN (Obj.soState n) = 5 then driven (if high then s.pilotHigh else s.pilotLow) else driven (s.soOn n)

/-- A gate supply's drive ball (R162). -/
def State.gsBall (s : State) (k : Nat) : BallState :=
  match s.gsDrive.getD k .low with
  | .low => .low
  | .regulated | .keeper => .active

/-- CLKOUT (R14). -/
def State.clkoutBall (s : State) : BallState :=
  match s.oN Obj.clkOutSelect with
  | 1 => .clock 40000000
  | 2 => .clock 20000000
  | 3 => .clock 10000000
  | _ => .low

/-- The debug port is closed by SEAL4 (R60). -/
def State.debugClosed (s : State) : Bool := s.sealPin 4

/-- What a ball does with VDD_COC present, outside M11 (R566). -/
def State.ballHeld (s : State) (b : Ball) : BallState :=
  let on := s.pinsOn
  let input := if on then BallState.read else .notRead
  match b with
  | .hbPul n => driven (s.chx n.val).pul
  | .hbEna n => driven (s.chx n.val).ena
  | .lvPul n => driven (s.chx (24 + n.val)).pul
  | .lvEna n => driven (s.chx (24 + n.val)).ena
  | .gsDrv k => s.gsBall k.val
  | .gsSns k => if on ∨ s.gsDrive.getD k.val .low = .keeper then .read else .highZ
  | .vsw _ | .vdc _ | .ain _ | .isn _ | .bst _ | .vout _ | .metering _ => if on then .read else .highZ
  | .sd _ | .si _ | .soRb _ | .lspiIn | .xgRx _ | .xgRefclk _ => input
  | .ppsIn => if on ∧ s.cN Obj.devTimePpsIn = 1 then .read else .notRead
  | .sdclk k => driven (on && s.sdclkHigh k.val)
  | .canTxd c => if on ∧ s.cN (Obj.canEnable c.val) = 1 ∧ [2, 3].contains (s.oN (Obj.canState c.val)) then .active else .high
  | .canRxd c =>
    if on then (if s.cN (Obj.canEnable c.val) = 1 then .read else .notRead)
    else if s.mode = 1 ∧ s.cN (Obj.canWakeEnable c.val) = 1 then .read else .notRead
  | .canStb c => driven (!(on && s.cN (Obj.canEnable c.val) == 1))
  | .xgTx p => if on ∧ s.cN (Obj.xgEnable p.val) = 1 then .active else .highZ
  | .mdc => if on then .active else .low
  | .mdio => if on then .active else .highZ
  | .t1s p => if on ∧ s.cN (Obj.t1sEnable p.val) = 1 then .active else .highZ
  | .soHs n => s.soBall n.val true
  | .soLs n => s.soBall n.val false
  | .tp k => driven (on && s.tpHigh k.val)
  | .seal _ => if s.mode = 0 ∧ s.plat.mainOn then .read else .notRead
  | .lamp n => openDrain (on && s.lamps.getD n.val false)
  | .pfailN | .resetN => .read
  | .wake n => if s.mode = 1 ∧ (s.oN Obj.wakeSourceEnable).testBit n.val then .read else .notRead
  | .int0N => openDrain s.int0Low
  | .int1N => openDrain s.int1Low
  | .xspiCsN => if on then .active else .high
  | .xspiRstN | .xspiClk => if on then .active else .low
  | .xspiData => if on then .active else .highZ
  | .lspiOut => if on ∧ (s.cN Obj.roaPortEnable).testBit 4 then .active else .highZ
  | .debugIn => if s.debugClosed then .inert else .read
  | .tdo => if s.debugClosed then .inert else .highZ
  | .uartTx => if s.debugClosed then .highZ else if on then .active else .high
  | .uartRx => if on ∧ ¬ s.debugClosed then .read else .notRead
  | .xtal => if s.mode = 1 then .inert else .clock 40000000
  | .clkout => if on then s.clkoutBall else .low
  | .ppsOut => driven (on && s.net.pps.isSome)
  | .tdiode => .inert
  | .ft _ => .notRead

/-- The balls that factory test does not control (R566). -/
def Ball.fixed : Ball → Bool
  | .xtal | .resetN | .seal _ => true
  | _ => false

/-- The island's balls, which it drives from VDD_COC. -/
def Ball.islands : Ball → Bool
  | .hbPul _ | .hbEna _ | .lvPul _ | .lvEna _ | .gsDrv _ | .gsSns _ | .soHs _ | .soLs _ | .seal _ | .resetN | .pfailN | .wake _ => true
  | _ => false

/-- What a ball does (R134, R162, R185, R472, R529, R566, R580): without VDD_COC the island's balls are not driven. -/
def State.ballState (s : State) (b : Ball) : BallState :=
  if s.mode = 11 ∧ ¬ b.fixed then .factory
  else if ¬ s.plat.vddCoc ∧ b.islands then .highZ
  else s.ballHeld b

end Sys2Proof.Machine
end

