-- ==== Sys2Proof/WellFormed.lean ====
section
/-! DEFINITION. Which commands are well formed: operands that no sender could give are kept out here, by the formats that the spec
gives the frames, keys and requests that carry them. -/

namespace Sys2Proof

/-- The ROA transports: CANc in FD or XL frames, XG0, XG1, T1S0, T1S1 and LSPI (R433). -/
def wfReq (req : RoaReq) : Bool := decide (req.transport.toNat ≤ 12) || (decide (16 ≤ req.transport.toNat) && decide (req.transport.toNat ≤ 23))

/-- The most Data bytes of a PDU on a request's transport: 42 in a CAN FD frame, else 1,024 (R433). -/
def roaLimit (req : RoaReq) : Nat := if req.transport.toNat < 8 then 42 else 1024

/-- The data lengths that a CAN frame of a kind can have: 0 classical, 1 FD, 2 XL (R460). -/
def canLengthOk (kind n : Nat) : Bool :=
  if kind = 0 then decide (n ≤ 8)
  else if kind = 1 then decide (n ≤ 8) || [12, 16, 20, 24, 32, 48, 64].contains n
  else decide (1 ≤ n) && decide (n ≤ 2048)

/-- A received CAN frame: a kind that exists, a length that the kind has, and as many data bytes as the header says (R460). -/
def wfCanFrame (hdr : Vector (BitVec 32) 5) (data : List Byte) : Bool :=
  let w := (hdr.toList.getD 1 0).toNat
  decide (w / 2 ^ 30 ≤ 2) && canLengthOk (w / 2 ^ 30) (w % 2 ^ 12) && data.length == w % 2 ^ 12

/-- The operations that ask in class Safety (R551). -/
def isSafetyLeave : LeaveOp → Bool
  | .gatePair _ | .finalJournal => true
  | .law _ | .journalSlot | .faultRecord | .configStore | .patternTable | .serdes _ | .memTest | .eventLog | .firmware => false

/-- A command is well formed. -/
def Instr.wf : Instr → Bool
  | .roaOpen req _ _ => wfReq req
  | .roaClose req => wfReq req
  | .keepAlive req => wfReq req
  | .roaRead req _ _ => wfReq req
  | .roaWrite req _ _ data => wfReq req && decide (data.length ≤ roaLimit req)
  | .recordRead req _ _ _ => wfReq req
  | .recordWrite req _ _ _ data => wfReq req && decide (data.length ≤ roaLimit req)
  | .describe req _ _ => wfReq req
  | .blockReadStart req _ _ => wfReq req
  | .blockReadSegment req _ => wfReq req
  | .blockWriteStart req _ _ _ _ => wfReq req
  | .blockWriteSegment req _ data => wfReq req && decide (data.length ≤ roaLimit req)
  | .blockWriteEnd req => wfReq req
  | .blockAbort req => wfReq req
  | .roleKeyWrite _ roleCode wrapped => decide (1 ≤ roleCode.toNat) && decide (roleCode.toNat ≤ 5) && wrapped.length == 24
  | .partnerKeyWrite _ wrapped => wrapped.length == 24
  | .canFrameReceived _ hdr data _ => wfCanFrame hdr data
  | .canTxSubmit _ block _ => decide (block.length ≤ 2068)
  | .ethFrameReceived _ frame => decide (64 ≤ frame.size.toNat) && decide (frame.payload.length ≤ frame.size.toNat)
  | .eslFrameReceived transport _ _ bytes => decide (bytes.length ≤ (if transport.val < 4 then 1472 else 2048))
  | .leaveRequest op => !isSafetyLeave op
  | .leaveSafetyRequest op => isSafetyLeave op
  | .powerOn .. | .resetNFall .. | .resetNRise .. | .bootResetheld .. | .bootPlllock | .pfailNFall | .pfailNRise | .meterResume
  | .clockLoss .. | .coreUndervoltage | .vddCocLoss | .watchdogService .. | .watchdogExpiry | .keeperUndervoltage .. | .wakePinEdge ..
  | .canWake .. | .wakeTimerExpiry .. | .modeRequest .. | .modeTransitionComplete | .m3StepTimeout | .functionResetRequest ..
  | .functionResetComplete | .gsPairReady .. | .gdGsstart .. | .sealCommission .. | .swapArm .. | .swapCancel .. | .swapBoundary
  | .configSwap .. | .swapArmTimeout | .shadowCopyComplete | .tbHoldover .. | .tbHoldoverLimit .. | .tbLockfail .. | .lawStart ..
  | .sample .. | .shadowLoad .. | .testPulse .. | .stamp .. | .meterSample .. | .delayedOccurrenceDue .. | .groupRun .. | .groupStop ..
  | .groupStopAtOnce .. | .pwmPeriodStart .. | .pwmStall .. | .hostShadowWrite .. | .desaturation .. | .hardShort ..
  | .fastOvercurrent .. | .gsUndervoltage .. | .gsUndervoltageEnd .. | .gsOvervoltage .. | .gsOvervoltageEnd .. | .retryWaitEnd ..
  | .gdServicelimit .. | .sdStuck .. | .sdOutOfRange .. | .sdclkMismatch .. | .vdcImplausible .. | .vdcFullScale .. | .ainOutOfWindow ..
  | .ainBackInWindow .. | .lvSenseAtRail .. | .trimWrite .. | .lawInstanceEnd .. | .slotDeadlineMiss .. | .engMemue ..
  | .handoverRequest .. | .observerStep .. | .catchCheckEnd .. | .injectionSettleEnd .. | .polarityTestEnd .. | .obsStartfail ..
  | .obsReacqfail .. | .commStallTimeout .. | .safePlanEvaluation .. | .linkOv1 .. | .linkOv2 .. | .linkOv3 .. | .linkBelowOv2 ..
  | .trcChopper .. | .openPhaseWindowEnd .. | .zeroHoldEnd .. | .starContactorConfirmed .. | .gridWindowHeld ..
  | .gridContactorConfirmed .. | .wcLinklow | .wcReferenceUpdate .. | .wcGridtrip .. | .reconnectDelayEnd .. | .wcBattloss
  | .chargePhaseUpdate .. | .cpEvaluationEnd .. | .cpTaperEnd .. | .cpTimer .. | .cpLimitloss | .lvRun .. | .lvStop ..
  | .lvIsoSoftStartEnd .. | .lvIsofault | .lvPhaseTrigger .. | .lvHiccupEnd .. | .lvFoldback | .lvBurstSleep | .lvBurstWake
  | .lvPhaseShed | .lvLoadRelease | .lvLoadReleaseEnd | .lvOvervoltage | .lvStartfail | .lvTelemetry .. | .lvBatteryLoop | .lvAuxremoved ..
  | .lvAuxRearm .. | .gaRequest .. | .gaTorqueReleased .. | .gaReleaseTimeout .. | .gaSyncPermit .. | .gaSyncTimeout .. | .gaArrival ..
  | .gaMovetimeout .. | .linkPlugged .. | .linkDetectionLost .. | .pilotInvalid .. | .chargeParametersAgreed .. | .cableCheckBegin
  | .prechargeBegin | .prechargeMatchHeld | .prechargeOutputFallback | .lnkPrecharge | .inletContactorsConfirmed .. | .linkStopRequest ..
  | .postStopReceived | .inletCurrentLow | .weldCheck1s .. | .inletDischarged | .weldCheck5s .. | .pinTempDerate .. | .pinTempLimit ..
  | .cableCheckRequest .. | .insulationMeasured .. | .isoAlarm | .powerDeliveryStart .. | .postStopRequest .. | .postCurrentLow
  | .postOutputDischarged | .postDischargeTimeout | .tandemServiceSelection .. | .lnkTdlock | .tandemFallbackHoldEnd
  | .tandemFallbackRampEnd | .stationPrechargeReached .. | .stnPrecharge | .prechargeOutputRelease .. | .frontEndSynchronised ..
  | .postOutputRequest | .noOutputTimeout | .stnGridtrip .. | .stationReconnect .. | .tripHoldTimeout | .linkRegulation ..
  | .stageRemoveTimeout | .stnStage .. | .stnLinkov .. | .pumpReferenceUpdate | .ccFlow | .ccPressure | .pumpRestart | .conductorModelStep
  | .monarchBudgetEvaluation | .leaseRequest .. | .leaseRenew .. | .leaseRelease .. | .reduceAcknowledged .. | .leaseExpiry ..
  | .reductionDeadline .. | .leaseGrantReceived .. | .leaseRenewedReceived .. | .leaseReduceReceived .. | .leaseRefusedReceived ..
  | .clientRenewDue | .monExpired | .monarchHoldEnd | .standbySilence | .dcSample .. | .journalSlotWrite | .phasePageSave
  | .meterIntervalClose | .recordSigned | .mtrSignfail | .mtrKeyGenerate .. | .sessionPendingLapse .. | .sessionIdleTimeout ..
  | .blockTransferTimeout .. | .snapshotDiscard .. | .firmwareVerify .. | .firmwareInstall .. | .firmwareActivate ..
  | .firmwareCommandComplete .. | .slotHostTakeup .. | .canFrameSent .. | .canBusError .. | .canRecoveryCommand ..
  | .canRecoveryComplete .. | .canIntegrated .. | .canAbortHead .. | .canAbortAll .. | .canAbortNonSafety .. | .canHeadwait ..
  | .canAntennaStart .. | .canAntennaStop .. | .antennaDataPhaseEnd .. | .antennaTimeout .. | .canRxBufferLock ..
  | .canRxBufferRelease .. | .netLinkdown .. | .xgLinkUp .. | .gateIntervalStart .. | .ptpSync .. | .syncTimeout | .netTimeloss
  | .ppsInEdge | .streamDatagramSend | .netPlca .. | .plcaBeaconReturn .. | .eslWatchdogExpiry .. | .eslTxFrame .. | .soEnergise ..
  | .soDeenergise .. | .soReadbackMismatch .. | .soOffPulse .. | .safSoreadback .. | .siValueChange .. | .siTestPulseCheck ..
  | .safSidiscrepancy .. | .safPinreadback .. | .safProofdue | .faultRaise .. | .faultRecordTake | .faultClearRequest .. | .eventLogFlush
  | .faultInject .. | .sramEccError .. | .backgroundTestRegion .. | .memConflictsat .. | .leaveGrant | .leaveReturn .. | .leaveWait ..
  | .temperatureSample .. | .voltageSample .. | .processMonitorSample .. | .ppsOutSecond | .lampPatternEdge .. | .ptpSyncTransmit ..
  | .freeRunningMeterSample .. | .stationChopperRun .. | .stationChopperStop .. | .linkBelowOv1 .. | .linkBelowOv3 ..
  | .linkFaultOpenTimeout | .inletPrechargeOutputOpen | .xgPllLock .. | .testRestartDelay .. | .linkProtocolTimeout => true

end Sys2Proof
end

