-- ==== Sys2Proof/Tests/Slice0.lean ====
section
/-! SUPPORT. Small states to test with, an ill-formed term for every check, a few steps with results from the spec, and for every
statement a case that meets its hypotheses. -/

set_option Elab.async false
set_option linter.unusedVariables false

open Sys2Proof Sys2Proof.Machine

namespace Sys2Proof.Machine

/-- Values put into an empty store. -/
def benchStore (l : List (Nat × Int)) : Store := l.foldl (fun st p => st.set p.1 p.2) []

/-- A powered state in the vehicle role, in a mode, with some live values and some values in force. -/
def bench (mode : Int) (live active : List (Nat × Int)) : State :=
  { plat := { vddCoc := true, resetN := true, mainOn := true, latchLoaded := true }, live := benchStore ((Obj.modeState, mode) :: live), active := benchStore active }

/-- The same in the station role. -/
def benchStation (mode : Int) (live active : List (Nat × Int)) : State :=
  { plat := { vddCoc := true, resetN := true, mainOn := true, latchLoaded := true, sealLatch := 0x43 }, live := benchStore ((Obj.modeState, mode) :: live), active := benchStore active }

/-- A pass in which everything is found good. -/
def benchEnv : BootEnv := { durationUs := 50000 }

/-- A waiting raise. -/
def benchRaise : Raise := { code := FC.lvFoldback, inst := 0, cls := 1, time := 0, mode := 2, again := false, injected := false, context := [] }

/-- The row of a code that has one. -/
def benchRow (code : Nat) : FaultRow := (faultRow code).getD { code := 0, cls := .note, recordOnly := true, insts := [] }

/-- A station with SEAL6 and SEAL7 at 1 and partner 1 enabled as a Monarch partner. -/
def benchSite (live active : List (Nat × Int)) : State :=
  { benchStation 7 live active with
    plat := { vddCoc := true, resetN := true, mainOn := true, latchLoaded := true, sealLatch := 0xC1 }
    mem := [(domAddr Obj.partnerTable (64 * 1), 9)] }

/-- Monarch in a state. -/
def benchMon (st : Int) : State := benchSite [(Obj.monState, st)] [(Obj.monEnable, 1)]

/-- A Monarch client in a state, its Monarch outside the device. -/
def benchClient (st : Int) : State := benchSite [(Obj.monClientState, st)] [(Obj.monClientEnable, 1), (Obj.monClientPartner, 1)]

/-- An authentic frame of partner 1. -/
def benchFrame : MonIn := { (default : MonIn) with tagOk := true, partner := 1, epoch := 1, sequence := 1, cls := 2, amount := 0x41200000 }

/-- A lease of partner 1. -/
def benchLease : Lease := { partner := 1, id := 7, cls := 2, minimum := 0, granted := 0x41200000, counted := 0x41200000, expiry := 9 }

/-- A session of a role over XG0. -/
def benchRoa (role : Role) : RoaSess := { num := 1, role := role, transport := 8, key := 5, opened := 0, lastAt := 0, waiting := false }

/-- A request of that session. -/
def benchReq : RoaReq := { session := 1, nonce := 1, tagOk := true, transport := 8 }

/-- The device in M2 with that session open. -/
def benchOpen (role : Role) : State := { bench 2 [] [(Obj.roaPortEnable, 1)] with roa := { sessions := [benchRoa role] } }

/-- The same with a block write in progress. -/
def benchXfer (role : Role) : State :=
  { bench 2 [] [(Obj.roaPortEnable, 1)] with
    roa := { sessions := [{ benchRoa role with xfer := some { write := true, index := 0x1020, sub := 0, length := 4, crc := 0 } }] } }

/-- CAN 0 enabled and error active, with frames in its queue. -/
def benchCan (st : Int) (queue : List CanFrame) : State :=
  { bench 2 [(Obj.canState 0, st)] [(Obj.canEnable 0, 1)] with can := [{ queue := queue }] ++ List.replicate 7 {} }

/-- A waiting CAN frame. -/
def benchCanFrame : CanFrame := { id := 5, hdr := [5, 0, 0, 0, 0], data := [] }

end Sys2Proof.Machine

/-! ## Well-formed commands -/

/-- An ill-formed term for each check, which the check refuses: transport 13 of R433, Data longer than the carrier's, an unwrapped key, role
code 6, nine bytes in a classical frame, a header that states another length, an FD length of 9, a submitted block above 2,068 bytes, an ESL
datagram above 1,472 bytes, an Ethernet frame below 64 bytes, leave asked in the wrong class. -/
theorem test_wf_refuses :
    (Instr.keepAlive { transport := 13 }).wf = false ∧
    (Instr.roaWrite { transport := 3 } 0x2000 1 (List.replicate 43 0)).wf = false ∧
    (Instr.roleKeyWrite 1 2 (List.replicate 16 0)).wf = false ∧ (Instr.roleKeyWrite 1 6 (List.replicate 24 0)).wf = false ∧
    (Instr.partnerKeyWrite 1 []).wf = false ∧
    (Instr.canFrameReceived 0 #v[5, 9, 0, 0, 0] (List.replicate 9 0) 0).wf = false ∧
    (Instr.canFrameReceived 0 #v[5, 8, 0, 0, 0] [] 0).wf = false ∧
    (Instr.canFrameReceived 0 #v[5, 0x40000009, 0, 0, 0] (List.replicate 9 0) 0).wf = false ∧
    (Instr.canTxSubmit 0 (List.replicate 2069 0) .operator).wf = false ∧
    (Instr.eslFrameReceived 1 0 0 (List.replicate 1473 0)).wf = false ∧
    (Instr.ethFrameReceived 0 { size := 63 }).wf = false ∧
    (Instr.leaveRequest .finalJournal).wf = false ∧ (Instr.leaveSafetyRequest .memTest).wf = false := by decide +kernel

theorem test_wf_takes :
    (Instr.roaWrite { transport := 3 } 0x2000 1 (List.replicate 42 0)).wf = true ∧ (Instr.roleKeyWrite 1 2 (List.replicate 24 0)).wf = true ∧
    (Instr.canFrameReceived 0 #v[5, 0x40000040, 0, 0, 0] (List.replicate 64 0) 0).wf = true ∧ (Instr.leaveRequest .memTest).wf = true := by
  decide +kernel

/-- The table gives its rows no bits (R584), so no word spells a command. -/
theorem test_no_word_spells_a_command : decodeTableWord 16 0x1234 = none ∧ State.reset.withFetchWord 16 0x1234 = State.reset := ⟨rfl, rfl⟩

/-! ## Steps with results from the spec -/

/-- R506: the CRC-32C of the nine bytes "123456789" is the code's published check value. -/
theorem test_crc32c : crc32c [0x31, 0x32, 0x33, 0x34, 0x35, 0x36, 0x37, 0x38, 0x39] = 0xE3069283 := by decide +kernel

/-- R8: F32 rounds to nearest; 1/10 is 3DCCCCCDh and 1 is 3F800000h. -/
theorem test_f32_rounds : F32.ofRat (1 / 10) = 0x3DCCCCCD ∧ F32.ofRat 1 = 0x3F800000 := by decide +kernel

/-- R6: the key of Index:Sub. -/
theorem test_key : Obj.soState 7 = 0x8107 * 256 + 9 := rfl

/-- R543: a double error read by the DMA is raised as MEM_DMAUE, by a processor as MEM_ECCUE. -/
theorem test_ecc_double :
    (match exec (.sramEccError 16 3 7 true) (bench 2 [] []) with | .next t => t.fc.queue.map (fun r => r.code) | _ => []) = [FC.memTestfail, FC.memDmaue] ∧
    (match exec (.sramEccError 2 3 7 true) (bench 2 [] []) with | .next t => t.o Obj.memEccUncorrectedCount | _ => 0) = 1 := by decide +kernel

/-- R516: a released output's switches are off in the tick of the decision. -/
theorem test_so_release :
    (match exec (.soDeenergise 7) (bench 2 [(Obj.soCommand 7, 1), (Obj.soState 7, 3), (Obj.soMode 7, 1)] []) with
      | .next t => (t.o (Obj.soCommand 7), t.o (Obj.soState 7)) | _ => (9, 9)) = (0, 1) := by decide +kernel

/-- R430: an Observer may not submit a CAN frame: code 0x05. -/
theorem test_role_refused :
    (match exec (.canTxSubmit 0 [] .observer) (bench 2 [] []) with | .next t => t.o Obj.roaLastError | _ => 0) = 5 := by decide +kernel

/-- A step runs the front command on the queue's rest. -/
theorem test_step_takes_the_front :
    (match step { bench 2 [] [] with pending := [.isoAlarm, .safProofdue] } with | .next t => t.pending | _ => []) = [.safProofdue] := by decide +kernel

/-- An empty queue is a tick of the clock: 12.5 ns of device time (R5), in units of 1/(2·10^9) ns. -/
theorem test_empty_queue_ticks : (match step State.reset with | .next t => (t.tick, t.pending) | _ => (9, [])) = (1, []) := by decide +kernel

/-! ## The machine as a whole -/

/-- A case that StepRunsTheFrontCommand covers. -/
theorem wit_StepRunsTheFrontCommand : ({ bench 2 [] [] with pending := [.isoAlarm] } : State).pending = Instr.isoAlarm :: [] ∧ (bench 2 [] []).pending = [] := by decide

/-- A case that StepKeepsSound covers. -/
theorem wit_StepKeepsSound : (bench 2 [] []).Sound ∧ (match step { bench 2 [] [] with pending := [.isoAlarm] } with | .next _ => true | _ => false) = true := by decide +kernel

/-- A case that ActiveSetChangesOnlyBySwapOrPass covers. -/
theorem wit_ActiveSetChangesOnlyBySwapOrPass : (bench 2 [] []).Sound ∧ Instr.isoAlarm.mayConfigure = false ∧ (bench 2 [] []).sw.undo = none ∧
    (match exec .isoAlarm (bench 2 [] []) with | .next _ => true | _ => false) = true := by decide +kernel

/-- A case that RoleFixedWhilePowered covers. -/
theorem wit_RoleFixedWhilePowered : (benchEnv.floats.toNat = 0) ∧ (bench 2 [] []).Sound ∧ (bench 2 [] []).plat.latchLoaded = true ∧
    (bench 2 [] []).pending.head? = none := by decide +kernel

/-- A case that CommandsLeaveTheQueueAndThePlatform covers. -/
theorem wit_CommandsLeaveTheQueueAndThePlatform : (bench 2 [] []).Sound ∧ Instr.isoAlarm.mayPower = false ∧ Instr.isoAlarm.mayConfigure = false ∧
    (match exec .isoAlarm (bench 2 [] []) with | .next _ => true | _ => false) = true := by decide +kernel

/-! ## Faults (chapter 21) -/

/-- Every clause of RaiseQueuesOneRaise has a case. -/
theorem wit_RaiseQueuesOneRaise :
    (let s : State := bench 2 [] []; let code : BitVec 16 := BitVec.ofNat 16 FC.lvFoldback; let inst : BitVec 16 := 0; let row : FaultRow := benchRow FC.lvFoldback; (s.plat.mainOn = true) ∧ (faultRow code.toNat = some row) ∧ (row.recordOnly = false) ∧ (row.allows inst.toNat = true) ∧ (s.faultClass code.toNat inst.toNat ≤ 2) ∧ (s.isSet code.toNat inst.toNat = false) ∧ (s.fc.queue.length < 256)) ∧
    (let s : State := { bench 2 [] [] with fc := { queue := List.replicate 256 benchRaise } }; let code : BitVec 16 := BitVec.ofNat 16 FC.lvFoldback; let inst : BitVec 16 := 0; let row : FaultRow := benchRow FC.lvFoldback; (s.plat.mainOn = true) ∧ (faultRow code.toNat = some row) ∧ (row.recordOnly = false) ∧ (row.allows inst.toNat = true) ∧ (s.faultClass code.toNat inst.toNat ≤ 2) ∧ (256 ≤ s.fc.queue.length)) :=
  by
  refine ⟨?_, ?_⟩ <;> decide +kernel

/-- Every clause of RecordTakeOpensARecord has a case. -/
theorem wit_RecordTakeOpensARecord :
    (let s : State := { bench 2 [] [] with fc := { queue := [benchRaise] } }; let r : Raise := benchRaise; let rest : List Raise := []; (s.fc.queue = r :: rest) ∧ (r.cls ≠ 2) ∧ (r.again = false) ∧ (({ s with fc := { s.fc with queue := rest } } : State).slotMerging r = none)) :=
  by decide +kernel

/-- Every clause of ClearNeedsTheCauseGone has a case. -/
theorem wit_ClearNeedsTheCauseGone :
    (let s : State := { bench 2 [] [] with fc := { active := [(FC.lvFoldback, 0)] } }; let v : BitVec 32 := BitVec.ofNat 32 (FC.lvFoldback * 65536); let role : Role := .integrator; let row : FaultRow := benchRow FC.lvFoldback; (s.up = true) ∧ (faultRow (v.toNat / 65536) = some row) ∧ ((if 3 ≤ s.faultClass (v.toNat / 65536) (v.toNat % 65536) then 3 else 2) ≤ roleRank role) ∧ (s.namedSet (v.toNat / 65536) (v.toNat % 65536) ≠ []) ∧ ((s.namedSet (v.toNat / 65536) (v.toNat % 65536)).any (s.causePresent (v.toNat / 65536)) = false)) ∧
    (let s : State := { bench 2 [(Obj.ccState, 2)] [] with fc := { active := [(FC.ccFlow, 0)] } }; let v : BitVec 32 := BitVec.ofNat 32 (FC.ccFlow * 65536); let role : Role := .integrator; let row : FaultRow := benchRow FC.ccFlow; (s.up = true) ∧ (faultRow (v.toNat / 65536) = some row) ∧ ((if 3 ≤ s.faultClass (v.toNat / 65536) (v.toNat % 65536) then 3 else 2) ≤ roleRank role) ∧ ((s.namedSet (v.toNat / 65536) (v.toNat % 65536)).any (s.causePresent (v.toNat / 65536)) = true)) ∧
    (let s : State := bench 2 [] []; let v : BitVec 32 := 0; let role : Role := .observer; (s.up = true) ∧ (roleRank role < (if 3 ≤ s.faultClass (v.toNat / 65536) (v.toNat % 65536) then 3 else 2))) :=
  by
  refine ⟨?_, ?_, ?_⟩ <;> decide +kernel

/-- Every clause of LogFlushAndInjection has a case. -/
theorem wit_LogFlushAndInjection :
    (let s : State := bench 2 [(Obj.vmState 9, 2)] []; (s.up = true) ∧ (s.oN (Obj.vmState 9) = 2)) ∧
    (let s : State := bench 2 [] []; (s.up = true) ∧ (s.oN (Obj.vmState 9) ≠ 2)) ∧
    (let s : State := bench 11 [(Obj.injectCode, FC.lvFoldback * 65536)] []; let role : Role := .vendor; let row : FaultRow := benchRow FC.lvFoldback; (s.up = true) ∧ (5 ≤ roleRank role) ∧ (s.mode = 11) ∧ (faultRow (s.oN Obj.injectCode / 65536) = some row) ∧ (row.recordOnly = false) ∧ (row.allows (s.oN Obj.injectCode % 65536) = true)) ∧
    (let s : State := bench 11 [] []; let role : Role := .vendor; (s.up = true) ∧ (5 ≤ roleRank role) ∧ (s.mode = 11) ∧ (faultRow (s.oN Obj.injectCode / 65536) = none)) ∧
    (let s : State := bench 2 [] []; let role : Role := .vendor; (s.up = true) ∧ (5 ≤ roleRank role) ∧ (s.mode ≠ 11)) ∧
    (let s : State := bench 11 [(Obj.injectCode, FC.lvFoldback * 65536)] []; let role : Role := .vendor; let row : FaultRow := benchRow FC.lvFoldback; (s.up = true) ∧ (5 ≤ roleRank role) ∧ (s.mode = 11) ∧ (faultRow (s.oN Obj.injectCode / 65536) = some row) ∧ (row.recordOnly = false) ∧ (row.allows (s.oN Obj.injectCode % 65536) = true) ∧ ((s.put Obj.injectResult 0).faultClass (s.oN Obj.injectCode / 65536) (s.oN Obj.injectCode % 65536) ≤ 2) ∧ (s.fc.queue.length < 256)) :=
  by
  refine ⟨?_, ?_, ?_, ?_, ?_, ?_⟩ <;> decide +kernel

/-! ## The Cocoon island (chapter 1) -/

/-- Every clause of TriggerPutsEverythingUnderItsPlan has a case. -/
theorem wit_TriggerPutsEverythingUnderItsPlan :
    (let s : State := bench 3 [] []; let code : Nat := FC.bootClockloss; let inst : Nat := 0; (s.Sound) ∧ ((2 ≤ s.mode ∧ s.mode ≤ 8) ∨ s.mode = 10)) :=
  by decide +kernel

/-- Every clause of IslandCommandsTrigger has a case. -/
theorem wit_IslandCommandsTrigger :
    (let s : State := { bench 2 [] [] with isl := { armedClock := true } }; (s.isl.armedClock = true) ∧ (s.mode ≠ 1)) ∧
    (let s : State := { bench 2 [] [] with isl := { armedClock := true } }; let pll : BitVec 2 := 2; (s.isl.armedClock = true) ∧ (s.mode ≠ 1) ∧ (pll ≠ 0)) ∧
    (let s : State := bench 2 [] []; (s.plat.vddCoc = true) ∧ (s.mode ≠ 1)) ∧
    (let s : State := bench 1 [] []; (s.plat.vddCoc = true) ∧ (s.mode = 1)) ∧
    (let s : State := { bench 2 [] [] with isl := { armedWatchdog := true } }; (s.isl.armedWatchdog = true) ∧ (s.up = true)) ∧
    (let s : State := bench 2 [] []; let us : Nat := 0; (s.up = true) ∧ (s.isl.armedWatchdog = false)) ∧
    (let s : State := { bench 2 [] [] with isl := { armedWatchdog := true } }; let us : Nat := 500; (s.up = true) ∧ (s.isl.armedWatchdog = true) ∧ (500 ≤ us) ∧ (us ≤ 2000)) ∧
    (let s : State := { bench 2 [] [] with isl := { armedWatchdog := true } }; let us : Nat := 499; (s.up = true) ∧ (s.isl.armedWatchdog = true) ∧ (us < 500 ∨ 2000 < us)) ∧
    (let s : State := { bench 9 [] [] with gsDrive := List.replicate 48 .keeper }; let g : Fin 48 := 47; (s.gsDrive.getD g.val .low = .keeper)) :=
  by
  refine ⟨?_, ?_, ?_, ?_, ?_, ?_, ?_, ?_, ?_⟩ <;> decide +kernel

/-! ## Supplies, reset and boot (chapter 3) -/

/-- Every clause of ResetFallStopsTheMainDomain has a case. -/
theorem wit_ResetFallStopsTheMainDomain :
    (let s : State := bench 3 [] []; let ns : Nat := 1000; (s.Sound) ∧ (s.plat.vddCoc = true) ∧ (s.plat.resetN = true) ∧ (1000 ≤ ns ∨ s.plat.pfailN = false) ∧ (s.mode ≠ 1)) ∧
    (let s : State := { bench 0 [] [] with plat := { vddCoc := true } }; let ms : Nat := 501; (s.plat.vddCoc = true) ∧ (s.plat.resetN = false) ∧ (500 < ms) ∧ (s.isl.resetHeld = false)) ∧
    (let s : State := bench 0 [] []; (s.plat.mainOn = true) ∧ (s.mode = 0)) :=
  by
  refine ⟨?_, ?_, ?_⟩ <;> decide +kernel

/-- Every clause of RiseAndWakesStartAPass has a case. -/
theorem wit_RiseAndWakesStartAPass :
    (let s : State := { bench 0 [] [] with plat := { vddCoc := true } }; let ms : Nat := 5; let env : BootEnv := benchEnv; (s.plat.vddCoc = true) ∧ (s.plat.resetN = false)) ∧
    (let s : State := bench 1 [(Obj.wakeSourceEnable, 63)] []; let pin : Fin 4 := 3; let env : BootEnv := benchEnv; (s.mode = 1) ∧ (s.plat.resetN = true) ∧ ((s.oN Obj.wakeSourceEnable).testBit pin.val = true)) ∧
    (let s : State := bench 1 [(Obj.wakeSourceEnable, 63)] [(Obj.canWakeEnable 7, 1)]; let c : Fin 8 := 7; let env : BootEnv := benchEnv; (s.mode = 1) ∧ (s.plat.resetN = true) ∧ ((s.oN Obj.wakeSourceEnable).testBit 4 = true) ∧ (s.cN (Obj.canWakeEnable c.val) = 1)) ∧
    (let s : State := bench 1 [(Obj.wakeSourceEnable, 63), (Obj.wakeTimer, 10)] []; let env : BootEnv := benchEnv; (s.mode = 1) ∧ (s.plat.resetN = true) ∧ ((s.oN Obj.wakeSourceEnable).testBit 5 = true) ∧ (s.oN Obj.wakeTimer ≠ 0)) :=
  by
  refine ⟨?_, ?_, ?_, ?_⟩ <;> decide +kernel

/-- Every clause of FailedPassStaysInM0 has a case. -/
theorem wit_FailedPassStaysInM0 :
    (let s : State := bench 2 [] []; let env : BootEnv := { benchEnv with floats := 1 }; let ty : Nat := 1; (s.Sound) ∧ (((s.passStart ty env).bootSteps env).2 = false)) :=
  by decide +kernel

/-- Every clause of SealCommissionSetsTheReference has a case. -/
theorem wit_SealCommissionSetsTheReference :
    (let s : State := bench 2 [] []; let v : Byte := 0; let role : Role := .vendor; (s.MayWrite role 5 Obj.sealCommission) ∧ (v.toNat = s.plat.sealLatch) ∧ (s.mode = 2)) ∧
    (let s : State := bench 2 [] []; let v : Byte := 1; let role : Role := .vendor; (s.MayWrite role 5 Obj.sealCommission) ∧ (v.toNat ≠ s.plat.sealLatch)) ∧
    (let s : State := bench 3 [] []; let v : Byte := 0; let role : Role := .vendor; (s.MayWrite role 5 Obj.sealCommission) ∧ (v.toNat = s.plat.sealLatch) ∧ (s.mode ≠ 2)) ∧
    (let s : State := bench 2 [] []; let v : Byte := 0; let role : Role := .integrator; (s.up = true) ∧ (roleRank role < 5)) :=
  by
  refine ⟨?_, ?_, ?_, ?_⟩ <;> decide +kernel

/-! ## Modes and per-function resets (chapter 2) -/

/-- Every clause of ModeRequestIsAnswered has a case. -/
theorem wit_ModeRequestIsAnswered :
    (let s : State := bench 2 [] []; let role : Role := .operator; (s.MayWrite role 2 Obj.modeRequest)) ∧
    (let s : State := bench 2 [] []; let v : Byte := 12; let role : Role := .operator; (s.MayWrite role 2 Obj.modeRequest) ∧ (v = 0 ∨ (12 ≤ v.toNat ∧ v ≠ 0xFF))) ∧
    (let s : State := bench 2 [] []; let v : Byte := 2; let role : Role := .operator; (s.MayWrite role 2 Obj.modeRequest) ∧ (1 ≤ v.toNat ∧ v.toNat ≤ 11) ∧ ((s.put Obj.modeRequest v.toNat).modeCode v.toNat role ≠ 0)) ∧
    (let s : State := bench 2 [] []; let v : Byte := 10; let role : Role := .integrator; (s.MayWrite role 2 Obj.modeRequest) ∧ (v = 1 ∨ v = 3 ∨ v = 4 ∨ v = 8 ∨ v = 10 ∨ v = 11) ∧ ((s.put Obj.modeRequest v.toNat).modeCode v.toNat role = 0)) ∧
    (let s : State := bench 3 [] []; let role : Role := .integrator; (s.MayWrite role 2 Obj.modeRequest) ∧ ((s.put Obj.modeRequest 2).modeCode 2 role = 0) ∧ (s.mode = 3 ∨ s.mode = 4) ∧ (s.trac.length = 4)) ∧
    (let s : State := bench 3 [] []; let role : Role := .integrator; (s.MayWrite role 2 Obj.modeRequest) ∧ ((s.put Obj.modeRequest 9).modeCode 9 role = 0) ∧ ((2 ≤ s.mode ∧ s.mode ≤ 8) ∨ s.mode = 10)) ∧
    (let s : State := bench 3 [] []; let v : Byte := 2; let role : Role := .observer; (s.up = true) ∧ (roleRank role < 2)) :=
  by
  refine ⟨?_, ?_, ?_, ?_, ?_, ?_, ?_⟩ <;> decide +kernel

/-- Every clause of ModeCompletesAsOneRecord has a case. -/
theorem wit_ModeCompletesAsOneRecord :
    (let s : State := { bench 2 [(Obj.modeTarget, 10)] [] with md := { requested := true } }; (s.up = true) ∧ (s.md.requested = true) ∧ (s.oN Obj.modeTarget = 4 ∨ s.oN Obj.modeTarget = 8 ∨ s.oN Obj.modeTarget = 10 ∨ s.oN Obj.modeTarget = 11) ∧ (s.mode = 2 ∨ s.mode = 3)) ∧
    (let s : State := bench 2 [] []; (s.md.requested = false ∨ s.oN Obj.modeTarget = 0xFF)) ∧
    (let s : State := { bench 2 [(Obj.modeTarget, 3)] [] with md := { requested := true, m3Wait := [0] } }; (s.md.requested = true) ∧ (s.oN Obj.modeTarget = 3) ∧ (s.md.m3Wait ≠ [])) :=
  by
  refine ⟨?_, ?_, ?_⟩ <;> decide +kernel

/-- Every clause of FunctionResetRunsOneAtATime has a case. -/
theorem wit_FunctionResetRunsOneAtATime :
    (let s : State := bench 2 [] []; let v : BitVec 32 := 0; let role : Role := .operator; (s.MayWrite role 2 Obj.functionResetRequest) ∧ (v.toNat < 16777216) ∧ (s.resetCode (v.toNat / 65536) (v.toNat % 65536) ≠ 0)) ∧
    (let s : State := bench 2 [] []; let v : BitVec 32 := 0x050000; let role : Role := .operator; (s.MayWrite role 2 Obj.functionResetRequest) ∧ (v.toNat < 16777216) ∧ (s.resetCode (v.toNat / 65536) (v.toNat % 65536) = 0) ∧ (s.sw.armed = false) ∧ (v.toNat / 65536 ≠ 11)) ∧
    (let s : State := bench 2 [] []; let v : BitVec 32 := 16777216; let role : Role := .operator; (s.MayWrite role 2 Obj.functionResetRequest) ∧ (16777216 ≤ v.toNat)) ∧
    (let s : State := { bench 2 [(Obj.functionResetResult, 1)] [] with md := { resetClass := 14 } }; (s.md.resetClass ≠ 0) ∧ (s.sw.undo = none)) ∧
    (let s : State := bench 2 [] []; (s.md.resetClass = 0)) :=
  by
  refine ⟨?_, ?_, ?_, ?_, ?_⟩ <;> decide +kernel

/-- Every clause of MeteringResetKeepsTheEnergy has a case. -/
theorem wit_MeteringResetKeepsTheEnergy :
    (let s : State := { bench 2 [(Obj.functionResetResult, 1)] [] with md := { resetClass := 14 } }; (s.md.resetClass = 14)) :=
  by decide +kernel

/-! ## Atomic configuration (chapter 3) -/

/-- Every clause of SwapArmsOrIsRefused has a case. -/
theorem wit_SwapArmsOrIsRefused :
    (let s : State := bench 2 [] []; let role : Role := .integrator; let c : Nat := 0x0A; (s.MayWrite role 3 Obj.swapCommand) ∧ (s.sw.armed = false) ∧ (s.armCode = (c, none)) ∧ (c ≠ 1)) ∧
    (let s : State := { bench 2 [] [] with sw := { armed := true } }; let role : Role := .integrator; (s.MayWrite role 3 Obj.swapCommand) ∧ (s.sw.armed = true)) ∧
    (let s : State := { bench 2 [] [] with sw := { armed := true, map := 1 } }; let role : Role := .integrator; (s.MayWrite role 3 Obj.swapCommand) ∧ (s.sw.armed = true)) ∧
    (let s : State := { bench 2 [] [] with sw := { armed := true, map := 1 } }; (s.sw.armed = true)) :=
  by
  refine ⟨?_, ?_, ?_, ?_⟩ <;> decide +kernel

/-- A state whose swap request meets every check: the expected CRC is that of the shadow. -/
def benchArm : State :=
  { bench 2 [] [] with live := [(Obj.modeState, 2), (Obj.swapScopeMap, 4), (Obj.swapBoundary, 3), (Obj.swapExpectedCrc, (((bench 2 [] []).shadowsCrc 4 : Nat) : Int))] }
theorem benchArm_crc : benchArm.shadowsCrc 4 = benchArm.oN Obj.swapExpectedCrc := rfl
theorem wit_SwapArmsOrIsRefused_1 :
    benchArm.MayWrite .integrator 3 Obj.swapCommand ∧ benchArm.sw.armed = false ∧ benchArm.armCode = (1, none) := by
  refine ⟨by decide +kernel, by decide +kernel, ?_⟩
  have h := benchArm_crc
  unfold State.armCode
  dsimp only
  rw [if_neg (by decide +kernel), if_neg (by decide +kernel), if_neg (by decide +kernel), if_neg (by decide +kernel), if_neg]
  · decide +kernel
  · exact not_not_intro h

/-- Every clause of SwapExchangesTheSelectedScopes has a case. -/
theorem wit_SwapExchangesTheSelectedScopes :
    (let s : State := { bench 2 [] [] with sw := { armed := true, map := 4, boundary := 3 } }; (s.boundaryHere = true) ∧ (s.swapFree = true) ∧ (s.sw.undo = none)) ∧
    (let s : State := bench 2 [] []; (s.boundaryHere = false)) ∧
    (let s : State := { bench 2 [] [] with sw := { armed := true, map := 4, boundary := 1, timebase := 7 } }; let tb : Fin 8 := 7; (s.sw.armed = true) ∧ (s.sw.boundary = 1) ∧ (s.sw.timebase = tb.val) ∧ (s.swapFree = true) ∧ (s.sw.undo = none)) ∧
    (let s : State := bench 2 [] []; let tb : Fin 8 := 7; (s.sw.armed = false ∨ s.sw.boundary ≠ 1 ∨ s.sw.timebase ≠ tb.val)) ∧
    (let s : State := bench 2 [(Obj.shadowState 3, 2)] []; (s.oN (Obj.vmState 9) ≠ 2) ∧ (s.sw.undo = none) ∧ (∀ n < 64, (s.slotx n).oldBank = false)) ∧
    (let s : State := bench 2 [(Obj.vmState 9, 2)] []; (s.oN (Obj.vmState 9) = 2)) :=
  by
  refine ⟨?_, ?_, ?_, ?_, ?_, ?_⟩ <;> decide +kernel

/-- A state whose armed swap would take a channel in use from its group: in force, group 0 has HB0, which follows its carrier, and in the shadow set it has none. -/
def benchSwapWaits : State :=
  { bench 2 [] [(Obj.groupChannels 0, 1)] with hbDrive := .switching :: List.replicate 23 .pulseOff, sw := { armed := true, map := 1, boundary := 3 } }
theorem wit_SwapExchangesTheSelectedScopes_3 : benchSwapWaits.boundaryHere = true ∧ benchSwapWaits.swapFree = false := by decide +kernel

/-! ## The object dictionary (chapter 17) -/

/-- Every clause of WriteGoesWhereItsAccessSays has a case. -/
theorem wit_WriteGoesWhereItsAccessSays :
    (let s : State := bench 2 [] []; let i : BitVec 16 := 0x2000; let sub : Byte := 3; let v : BitVec 64 := 0; let role : Role := .vendor; (s.up = true) ∧ (s.writeCode role i.toNat sub.toNat (sizeAt i.toNat sub.toNat) (dataValue i.toNat sub.toNat v.toNat) ≠ 0)) ∧
    (let s : State := bench 2 [] []; let i : BitVec 16 := 0x3340; let sub : Byte := 1; let v : BitVec 64 := 1; let role : Role := .vendor; let o : ObjInfo := (objInfo 0x3340 1).get (by decide +kernel); (s.up = true) ∧ (objInfo i.toNat sub.toNat = some o) ∧ (o.row.acc.isRws = true) ∧ (i ≠ 0x30A0) ∧ (s.writeCode role i.toNat sub.toNat (sizeAt i.toNat sub.toNat) (dataValue i.toNat sub.toNat v.toNat) = 0)) ∧
    (let s : State := bench 10 [] []; let g : Fin 24 := 0; let v : BitVec 64 := 63; let role : Role := .vendor; (s.up = true) ∧ (v.toNat ≤ 63) ∧ (s.writeCode role (0x3180 + g.val) 9 1 v.toNat = 0)) ∧
    (let s : State := bench 10 [] []; let i : BitVec 16 := 0x33C0; let sub : Byte := 1; let v : BitVec 32 := 0; let role : Role := .vendor; (s.up = true) ∧ (trimIndex i.toNat = true) ∧ (s.writeCode role i.toNat sub.toNat (sizeAt i.toNat sub.toNat) (dataValue i.toNat sub.toNat v.toNat) = 0)) ∧
    (let s : State := bench 2 [] []; let i : BitVec 16 := 0x33C0; let sub : Byte := 1; let v : BitVec 32 := 0; let role : Role := .vendor; (s.up = true) ∧ (s.writeCode role i.toNat sub.toNat (sizeAt i.toNat sub.toNat) (dataValue i.toNat sub.toNat v.toNat) ≠ 0)) :=
  by
  refine ⟨?_, ?_, ?_, ?_, ?_⟩ <;> decide +kernel

/-- Every clause of FirmwareRunsStagedImages has a case. -/
theorem wit_FirmwareRunsStagedImages :
    (let s : State := { bench 2 [] [] with roa := { staged := true } }; let role : Role := .integrator; (s.MayWrite role 3 Obj.firmwareCommand) ∧ (s.roa.running = 0) ∧ (s.firmwareMode = true) ∧ (s.roa.staged = true)) ∧
    (let s : State := { bench 10 [] [] with roa := { staged := true } }; let role : Role := .integrator; (s.MayWrite role 3 Obj.firmwareCommand) ∧ (s.roa.running = 0) ∧ (s.firmwareMode = true) ∧ (s.roa.staged = true)) ∧
    (let s : State := bench 2 [] []; let role : Role := .integrator; (s.MayWrite role 3 Obj.firmwareCommand) ∧ (s.roa.running = 0) ∧ (s.firmwareMode = true)) ∧
    (let s : State := bench 3 [] []; let role : Role := .integrator; (s.MayWrite role 3 Obj.firmwareCommand) ∧ (s.roa.running = 0) ∧ (s.firmwareMode = false)) ∧
    (let s : State := bench 2 [] []; let role : Role := .integrator; (s.MayWrite role 3 Obj.firmwareCommand) ∧ (s.roa.running = 0) ∧ (s.firmwareMode = true) ∧ (s.roa.staged = false)) ∧
    (let s : State := { bench 2 [] [] with roa := { staged := true, running := 2 } }; let role : Role := .integrator; (s.MayWrite role 3 Obj.firmwareCommand) ∧ (s.roa.running ≠ 0)) ∧
    (let s : State := { bench 2 [] [] with roa := { staged := true, running := 2 } }; let v : BitVec 32 := 5; (s.roa.running = 2) ∧ (s.nv.rollbackFloor ≤ v.toNat) ∧ (s.nv.slotVersion.length = 2) ∧ (s.nv.slotValid.length = 2) ∧ (s.otherSlot < 2)) ∧
    (let s : State := { bench 2 [] [] with roa := { staged := true, running := 1 }, nv := { rollbackFloor := 6 } }; let v : BitVec 32 := 5; (s.roa.running ≠ 0) ∧ (v.toNat < s.nv.rollbackFloor)) :=
  by
  refine ⟨?_, ?_, ?_, ?_, ?_, ?_, ?_, ?_⟩ <;> decide +kernel

/-! ## Metering (chapter 16) -/

/-- Every clause of MeterTakesItsSamples has a case. -/
theorem wit_MeterTakesItsSamples :
    (let s : State := { bench 6 [(Obj.mtrAcEnable, 1), (Obj.mtrState, 3), (Obj.tbLockState 0, 2)] [] with plat := { vddCoc := true, resetN := true, mainOn := true, latchLoaded := true, sealLatch := 0x3F }, mtr := { samples := [([0, 0, 0, 0, 0, 0], 0)] } }; let i : Byte := 1; let raw : Vector (BitVec 32) 8 := Vector.replicate 8 0; (s.acOn = true) ∧ (s.mtrLocked = true) ∧ (s.o Obj.mtrState = 3) ∧ (0 < i.toNat ∧ i.toNat < 255) ∧ (s.mtr.samples.length < 127)) ∧
    (let s : State := { bench 6 [(Obj.mtrAcEnable, 1), (Obj.mtrState, 4)] [] with plat := { vddCoc := true, resetN := true, mainOn := true, latchLoaded := true, sealLatch := 0x3F } }; let raw : Vector (BitVec 32) 8 := Vector.replicate 8 0; (s.acOn = true) ∧ (s.mtrLocked = false) ∧ (s.o Obj.mtrState = 4) ∧ (s.mtr.samples.length < 127)) ∧
    (let s : State := { bench 6 [(Obj.mtrDcEnable, 1)] [] with plat := { vddCoc := true, resetN := true, mainOn := true, latchLoaded := true, sealLatch := 0x3F } }; let v : BitVec 32 := 0x3F800000; let i : BitVec 32 := 0x3F800000; (s.mtrRuns = true) ∧ (s.o Obj.mtrDcEnable = 1) ∧ (s.mtr.dcCount < 319)) ∧
    (let s : State := { bench 6 [(Obj.mtrDcEnable, 1)] [] with plat := { vddCoc := true, resetN := true, mainOn := true, latchLoaded := true, sealLatch := 0x3F }, mtr := { frozen := some 5 } }; let v : BitVec 32 := 0x3F800000; let i : BitVec 32 := 0x3F800000; (s.mtrOn = true) ∧ (s.o Obj.mtrDcEnable = 1) ∧ (s.mtr.frozen ≠ none)) ∧
    (let s : State := bench 6 [] []; let v : BitVec 32 := 0x3F800000; let i : BitVec 32 := 0x3F800000; let full : BitVec 2 := 0; (s.mtrOn = false ∨ s.oN Obj.mtrDcEnable ≠ 1)) :=
  by
  refine ⟨?_, ?_, ?_, ?_, ?_⟩ <;> decide +kernel

/-- Every clause of PowerFailFreezesTheMeter has a case. -/
theorem wit_PowerFailFreezesTheMeter :
    (let s : State := { bench 6 [] [] with plat := { vddCoc := true, resetN := true, mainOn := true, latchLoaded := true, sealLatch := 0x3F } }; (s.mtrOn = true) ∧ (s.mtr.frozen = none)) ∧
    (let s : State := bench 1 [] []; (s.mtrOn = false) ∧ (s.resetDefers = false)) ∧
    (let s : State := { bench 6 [] [] with plat := { vddCoc := true, resetN := true, pfailN := true, mainOn := true, latchLoaded := true, sealLatch := 0x3F }, mtr := { frozen := some 5 } }; let f : Nat := 5; (s.mtr.frozen = some f) ∧ (s.plat.pfailN = true) ∧ (s.mtrOn = true)) :=
  by
  refine ⟨?_, ?_, ?_⟩ <;> decide +kernel

/-- Every clause of MeterRecordsAreStoredSigned has a case. -/
theorem wit_MeterRecordsAreStoredSigned :
    (let s : State := { bench 6 [] [] with plat := { vddCoc := true, resetN := true, pfailN := true, mainOn := true, latchLoaded := true, sealLatch := 0x3F } }; (s.mtrRuns = true) ∧ (s.oN (Obj.vmState 9) ≠ 2) ∧ ((s.leaveAsk .journalSlot).2 = true)) ∧
    (let s : State := { bench 6 [] [] with plat := { vddCoc := true, resetN := true, pfailN := true, mainOn := true, latchLoaded := true, sealLatch := 0x3F } }; (s.mtrOn = true)) ∧
    (let s : State := { bench 6 [(Obj.mtrIntervalLength, 900)] [] with plat := { vddCoc := true, resetN := true, pfailN := true, mainOn := true, latchLoaded := true, sealLatch := 0x3F }, mtr := { session := some { billed := 0, number := 1, sessionId := 0, start := 0, import0 := 0, export0 := 0, since := 0, import1 := 0, export1 := 0 } } }; let x : MtrSess := { billed := 0, number := 1, sessionId := 0, start := 0, import0 := 0, export0 := 0, since := 0, import1 := 0, export1 := 0 }; (s.mtrOn = true) ∧ (s.mtr.session = some x) ∧ (s.o Obj.mtrIntervalLength ≠ 0)) ∧
    (let s : State := { bench 6 [] [] with plat := { vddCoc := true, resetN := true, pfailN := true, mainOn := true, latchLoaded := true, sealLatch := 0x3F }, mtr := { unsigned := [default] } }; let r : MtrRec := default; let rs : List MtrRec := []; (s.mtrOn = true) ∧ (s.mtr.unsigned = r :: rs) ∧ (s.mtr.store.length < 2048)) ∧
    (let s : State := { bench 6 [] [] with plat := { vddCoc := true, resetN := true, pfailN := true, mainOn := true, latchLoaded := true, sealLatch := 0x3F }, mtr := { unsigned := [default] } }; let r : MtrRec := default; let rs : List MtrRec := []; (s.mtrOn = true) ∧ (s.mtr.unsigned = r :: rs) ∧ (s.mtr.session = none)) ∧
    (let s : State := { bench 2 [] [] with plat := { vddCoc := true, resetN := true, pfailN := true, mainOn := true, latchLoaded := true, sealLatch := 0x02 } }; (s.up = true) ∧ (s.sealPin 2 = false) ∧ (s.sealPin 1 = true) ∧ (s.mtr.session = none)) ∧
    (let s : State := bench 2 [] []; let v : Byte := 1; let role : Role := .vendor; (s.up = true) ∧ (role ≠ .metrologist)) ∧
    (let s : State := { bench 2 [] [] with plat := { vddCoc := true, resetN := true, pfailN := true, mainOn := true, latchLoaded := true, sealLatch := 0x06 } }; let v : Byte := 1; (s.up = true) ∧ (v.toNat ≤ 1) ∧ (s.sealPin 2 = true)) :=
  by
  refine ⟨?_, ?_, ?_, ?_, ?_, ?_, ?_, ?_⟩ <;> decide +kernel

/-! ## Gate drive (chapter 6) -/

/-- Every clause of GateSuppliesAndWaits has a case. -/
theorem wit_GateSuppliesAndWaits :
    (let s : State := { bench 2 [(Obj.gsState 46, 2)] [(Obj.gsEnable 46, 1)] with gsx := { busy := some 23 }, gsDrive := List.replicate 48 .regulated }; let n : Fin 24 := 23; let us : Nat := 250; let v0 : BitVec 32 := 0x41A00000; let v1 : BitVec 32 := 6; (s.up = true) ∧ (s.gsx.busy = some n.val) ∧ (s.gsx.queue = []) ∧ (s.cN (Obj.gsEnable (2 * n.val)) = 1 ∧ s.cN (Obj.gsEnable (2 * n.val + 1)) = 0) ∧ (s.oN (Obj.gsState (2 * n.val)) = 2) ∧ (s.aboveLock (2 * n.val) (F32.toRat v0.toNat) = true) ∧ (s.gsDrive.length = 48)) ∧
    (let s : State := bench 2 [(Obj.gsState 46, 2)] [(Obj.gsEnable 46, 1), (Obj.gsUvloThreshold 46, 0x41200000)]; let n : Fin 24 := 23; let us : Nat := 150; let v0 : BitVec 32 := 0x41200000; let v1 : BitVec 32 := 6; (s.cN (Obj.gsEnable (2 * n.val)) = 1) ∧ (s.oN (Obj.gsState (2 * n.val)) = 2) ∧ (s.aboveLock (2 * n.val) (F32.toRat v0.toNat) = false)) ∧
    (let s : State := { bench 2 [(Obj.gsState 46, 2), (Obj.gsState 47, 3)] [(Obj.gsEnable 46, 1), (Obj.gsEnable 47, 1)] with gsx := { busy := some 23 } }; let n : Fin 24 := 23; (s.up = true) ∧ (s.gsx.busy = some n.val)) ∧
    (let s : State := bench 2 [] []; let n : Fin 24 := 23; (s.gsx.busy ≠ some n.val)) ∧
    (let s : State := bench 2 [(Obj.gsState 47, 4)] [(Obj.gsUvloThreshold 47, 0x41200000), (Obj.gsUvloHysteresis 47, 0)]; let g : Fin 48 := 47; let v : BitVec 32 := 0x41700000; (s.up = true) ∧ (s.oN (Obj.gsState g.val) = 4) ∧ (s.cF (Obj.gsUvloThreshold g.val) + s.cF (Obj.gsUvloHysteresis g.val) < F32.toRat v.toNat)) ∧
    (let s : State := bench 2 [(Obj.gsState 47, 4)] []; let g : Fin 48 := 47; let v : BitVec 32 := 0; (F32.toRat v.toNat ≤ s.cF (Obj.gsUvloThreshold g.val) + s.cF (Obj.gsUvloHysteresis g.val))) ∧
    (let s : State := bench 2 [(Obj.gsState 0, 5)] [(Obj.gsTargetVoltage 0, 0x41700000), (Obj.gsUvloThreshold 0, 0x41200000)]; let g : Fin 48 := 0; let v : BitVec 32 := 0; (s.up = true) ∧ (s.oN (Obj.gsState g.val) = 5) ∧ (F32.toRat v.toNat < s.cF (Obj.gsTargetVoltage g.val)) ∧ (F32.toRat v.toNat < s.cF (Obj.gsUvloThreshold g.val))) ∧
    (let s : State := bench 2 [(Obj.gsState 0, 5)] [(Obj.gsTargetVoltage 0, 0x41A00000)]; let g : Fin 48 := 0; let v : BitVec 32 := 0x41900000; (s.up = true) ∧ (s.oN (Obj.gsState g.val) = 5) ∧ (F32.toRat v.toNat < s.cF (Obj.gsTargetVoltage g.val)) ∧ (s.cF (Obj.gsUvloThreshold g.val) ≤ F32.toRat v.toNat)) ∧
    (let s : State := bench 2 [(Obj.gsState 0, 5)] []; let g : Fin 48 := 0; let v : BitVec 32 := 0x41A00000; (s.cF (Obj.gsTargetVoltage g.val) ≤ F32.toRat v.toNat)) ∧
    (let s : State := { bench 2 [] [] with gsDrive := List.replicate 48 .low }; let g : Nat := 47; let st : Nat := 6; (g < 48) ∧ (s.gsDrive.length = 48)) ∧
    (let s : State := { bench 3 [(Obj.hbProtState 1, 3), (Obj.gsState 2, 4)] [(Obj.gsEnable 2, 1)] with chan := List.replicate 1 {} ++ [{ causes := [6] }] ++ List.replicate 38 {} }; let n : Fin 24 := 1; (s.up = true) ∧ (s.oN (Obj.hbProtState n.val) = 3) ∧ (∀ c ∈ s.domain n.val, s.oN (Obj.hbProtState c) ≠ 4 ∧ s.oN (Obj.hbProtState c) ≠ 5) ∧ ((s.domain n.val).any (fun c => (s.chx c).causes.any (s.causeHolds c)) = true) ∧ ((s.chx n.val).secondWait = false)) ∧
    (let s : State := { bench 10 [(Obj.hbProtState 0, 3), (Obj.groupState 0, 2), (Obj.groupRunRequest 0, 1)] [(Obj.groupChannels 0, 1), (Obj.groupMode 0, 1)] with chan := List.replicate 40 {} }; let n : Fin 24 := 0; let g : Nat := 0; (s.up = true) ∧ (s.oN (Obj.hbProtState n.val) = 3) ∧ (∀ c ∈ s.domain n.val, s.oN (Obj.hbProtState c) ≠ 4 ∧ s.oN (Obj.hbProtState c) ≠ 5) ∧ ((s.domain n.val).any (fun c => (s.chx c).causes.any (s.causeHolds c)) = false) ∧ (hbGroups.filter (fun g => (s.domain n.val).any (fun c => (s.cN (Obj.groupChannels g)).testBit c)) = [g]) ∧ (s.oN (Obj.groupRunRequest g) = 1 ∧ s.modePermits g = true)) ∧
    (let s : State := { bench 10 [(Obj.hbProtState 0, 3), (Obj.groupState 0, 2), (Obj.groupRunRequest 0, 0)] [(Obj.groupChannels 0, 1), (Obj.groupMode 0, 1)] with chan := List.replicate 40 {}, hbDrive := List.replicate 24 .switching }; let n : Fin 24 := 0; let g : Nat := 0; (s.up = true) ∧ (s.oN (Obj.hbProtState n.val) = 3) ∧ (∀ c ∈ s.domain n.val, s.oN (Obj.hbProtState c) ≠ 4 ∧ s.oN (Obj.hbProtState c) ≠ 5) ∧ ((s.domain n.val).any (fun c => (s.chx c).causes.any (s.causeHolds c)) = false) ∧ (hbGroups.filter (fun g => (s.domain n.val).any (fun c => (s.cN (Obj.groupChannels g)).testBit c)) = [g]) ∧ (s.oN (Obj.groupRunRequest g) ≠ 1) ∧ (s.oN (Obj.groupState g) = 2) ∧ (n.val ∈ s.groupChannels g ∧ s.hbDrive.length = 24)) ∧
    (let s : State := bench 10 [(Obj.groupState 0, 1)] [(Obj.groupChannels 0, 1)]; let n : Fin 24 := 0; let a : BitVec 32 := 0x7F000000; let g : Nat := 0; (s.mode = 10) ∧ (s.groupOfHb n.val = some g) ∧ (s.switching g = true) ∧ (s.cF (Obj.serviceCurrentLimit n.val) < |F32.toRat a.toNat|)) ∧
    (let s : State := bench 3 [] []; let n : Fin 24 := 0; let a : BitVec 32 := 0x7F000000; (s.mode ≠ 10)) :=
  by
  refine ⟨?_, ?_, ?_, ?_, ?_, ?_, ?_, ?_, ?_, ?_, ?_, ?_, ?_, ?_, ?_⟩ <;> decide +kernel

/-! ## Timebases and the event list (chapter 4) -/

/-- Every clause of TimebasesLoseTheirLock has a case. -/
theorem wit_TimebasesLoseTheirLock :
    (let s : State := bench 3 [(Obj.tbLockState 7, 2)] [(Obj.tbSource 7, 1)]; let tb : Fin 8 := 7; (s.up = true) ∧ (s.o (Obj.tbLockState tb.val) = 2) ∧ (s.cN (Obj.tbSource tb.val) ≠ 3)) ∧
    (let s : State := bench 3 [(Obj.tbLockState 7, 3)] []; let tb : Fin 8 := 7; (s.up = true) ∧ (s.o (Obj.tbLockState tb.val) = 3)) ∧
    (let s : State := bench 3 [(Obj.tbLockState 7, 1)] [(Obj.tbSource 7, 1)]; let tb : Fin 8 := 7; (s.up = true) ∧ (s.o (Obj.tbLockState tb.val) = 1) ∧ (s.cN (Obj.tbSource tb.val) ≠ 3) ∧ ((s.raise FC.tbLockfail tb.val).md.requested = false)) ∧
    (let s : State := bench 3 [] []; let tb : Fin 8 := 7; (s.oN (Obj.tbLockState tb.val) ≠ 2)) ∧
    (let s : State := bench 3 [(Obj.tbLockState 7, 2)] []; let tb : Fin 8 := 7; (s.oN (Obj.tbLockState tb.val) ≠ 3)) ∧
    (let s : State := bench 3 [(Obj.tbLockState 7, 2)] []; let tb : Fin 8 := 7; (s.oN (Obj.tbLockState tb.val) ≠ 1)) ∧
    (let s : State := bench 3 [] []; let tb : Nat := 7; let st : Nat := 4; (tb < 8)) :=
  by
  refine ⟨?_, ?_, ?_, ?_, ?_, ?_, ?_⟩ <;> decide +kernel

/-- Every clause of StampsGoIntoARing has a case. -/
theorem wit_StampsGoIntoARing :
    (let s : State := bench 3 [] []; let n : Nat := 7; let o : Occ := { action := 5, target := 0, arg := 9, entry := 0, angle := 3, off := 0, due := 0 }; let i : SampleIn := {}; let j : Nat := 0; (o.action = 5) ∧ (n < 8) ∧ (memWf s.mem = true)) ∧
    (let s : State := bench 3 [(Obj.tbLockState 7, 2)] []; let tb : Fin 8 := 7; let e : Byte := 254; let angle : BitVec 32 := 5; let arg : BitVec 32 := 6; (s.up = true) ∧ (s.o (Obj.tbLockState tb.val) ≠ 0) ∧ (s.oN (Obj.tbLockState tb.val) ≠ 0)) :=
  by
  refine ⟨?_, ?_⟩ <;> decide +kernel

/-- Every clause of OccurrencesActAtOnceOrWait has a case. -/
theorem wit_OccurrencesActAtOnceOrWait :
    (let s : State := { bench 3 [(Obj.tbLockState 7, 2), (Obj.slotState 63, 1)] [] with slots := List.replicate 64 {} }; let tb : Fin 8 := 7; let e : Byte := 1; let n : Byte := 63; let arg : BitVec 32 := 1; let angle : BitVec 32 := 2; (s.engOn = true) ∧ (s.oN (Obj.tbLockState tb.val) ≠ 0) ∧ (n.toNat < 64) ∧ (s.oN (Obj.slotState n.toNat) = 1) ∧ (∀ j < 64, j / 8 = n.toNat / 8 → j < n.toNat → s.oN (Obj.slotState j) ≠ 2 ∧ s.oN (Obj.slotState j) ≠ 3) ∧ (s.slots.length = 64)) ∧
    (let s : State := { bench 3 [(Obj.tbLockState 7, 2), (Obj.slotState 63, 1)] [] with slots := List.replicate 64 {} }; let tb : Fin 8 := 7; let e : Byte := 1; let n : Byte := 63; let arg : BitVec 32 := 1; let angle : BitVec 32 := 2; (s.engOn = true) ∧ (s.oN (Obj.tbLockState tb.val) ≠ 0) ∧ (n.toNat < 64) ∧ (s.oN (Obj.slotState n.toNat) = 1) ∧ (∀ j < 64, j / 8 = n.toNat / 8 → j < n.toNat → s.oN (Obj.slotState j) ≠ 2 ∧ s.oN (Obj.slotState j) ≠ 3) ∧ (s.slots.length = 64)) ∧
    (let s : State := bench 3 [(Obj.tbLockState 7, 2), (Obj.slotState 63, 3)] []; let tb : Fin 8 := 7; let e : Byte := 1; let n : Byte := 63; let arg : BitVec 32 := 1; let angle : BitVec 32 := 2; (s.engOn = true) ∧ (s.oN (Obj.tbLockState tb.val) ≠ 0) ∧ (n.toNat < 64) ∧ (s.oN (Obj.slotState n.toNat) = 2 ∨ s.oN (Obj.slotState n.toNat) = 3 ∨ s.oN (Obj.slotState n.toNat) = 4)) ∧
    (let s : State := bench 3 [(Obj.tbLockState 7, 2)] []; let tb : Fin 8 := 7; let e : Byte := 1; let c : Byte := 3; let mask : BitVec 32 := 1; let i : SampleIn := {}; (s.up = true) ∧ (s.oN (Obj.tbLockState tb.val) ≠ 0) ∧ (c ≠ 0)) ∧
    (let s : State := bench 3 [(Obj.tbLockState 7, 2)] []; let tb : Fin 8 := 7; let e : Byte := 1; let g : Byte := 23; (s.up = true) ∧ (s.oN (Obj.tbLockState tb.val) ≠ 0) ∧ (g.toNat < 12 ∨ (16 ≤ g.toNat ∧ g.toNat < 24))) ∧
    (let s : State := { bench 3 [(Obj.tbLockState 7, 2)] [] with grp := List.replicate 24 { committed := [(1, 2)], fresh := true } }; let tb : Fin 8 := 7; let e : Byte := 1; let g : Byte := 23; (s.up = true) ∧ (s.oN (Obj.tbLockState tb.val) ≠ 0) ∧ (g.toNat < 12 ∨ (16 ≤ g.toNat ∧ g.toNat < 24)) ∧ (s.cN (Obj.groupMode g.toNat) ≠ 4) ∧ (s.grp.length = 24)) ∧
    (let s : State := { bench 10 [(Obj.tbLockState 7, 2)] [(Obj.groupMode 0, 1), (Obj.groupChannels 0, 1), (Obj.groupTestPulseEnable 0, 1)] with chan := List.replicate 40 {}, hbDrive := List.replicate 24 .pulseOff, lvDrive := List.replicate 16 .pulseOff }; let tb : Fin 8 := 7; let e : Byte := 1; let g : Byte := 0; let arg : BitVec 32 := 6400; let lead : BitVec 6 := 3; let c : Nat := 0; (s.up = true) ∧ (s.oN (Obj.tbLockState tb.val) ≠ 0) ∧ (pulseChannel g.toNat = some c) ∧ ((s.inc32 (Obj.eventDispatchCount tb.val)).pulseAllowed c (arg.toNat % 1048576) = true) ∧ (s.hbDrive.length = 24 ∧ s.lvDrive.length = 16 ∧ s.chan.length = 40)) ∧
    (let s : State := bench 3 [(Obj.tbLockState 7, 2)] []; let tb : Fin 8 := 7; let e : Byte := 1; let g : Byte := 0; let arg : BitVec 32 := 1; let lead : BitVec 6 := 0; let c : Nat := 0; (s.up = true) ∧ (s.oN (Obj.tbLockState tb.val) ≠ 0) ∧ (pulseChannel g.toNat = some c) ∧ ((s.inc32 (Obj.eventDispatchCount tb.val)).pulseAllowed c (arg.toNat % 1048576) = false)) ∧
    (let s : State := bench 3 [(Obj.tbLockState 7, 2)] []; let tb : Fin 8 := 7; let e : Byte := 1; let g : Byte := 0; let arg : BitVec 32 := 1; let delay : BitVec 16 := 1; let lead : BitVec 6 := 0; (s.up = true) ∧ (s.oN (Obj.tbLockState tb.val) ≠ 0) ∧ (delay ≠ 0) ∧ ((s.tbx tb.val).delayed.length < 32)) ∧
    (let s : State := bench 3 [(Obj.tbLockState 7, 2)] []; let tb : Fin 8 := 7; let e : Byte := 1; let n : Byte := 0; let arg : BitVec 32 := 1; let angle : BitVec 32 := 0; let delay : BitVec 16 := 1; (s.up = true) ∧ (s.oN (Obj.tbLockState tb.val) ≠ 0) ∧ (delay ≠ 0) ∧ ((s.tbx tb.val).delayed.length < 32)) ∧
    (let s : State := bench 3 [(Obj.tbLockState 7, 2)] []; let tb : Fin 8 := 7; let e : Byte := 1; let c : Byte := 0; let mask : BitVec 32 := 1; let delay : BitVec 16 := 1; let i : SampleIn := {}; (s.up = true) ∧ (s.oN (Obj.tbLockState tb.val) ≠ 0) ∧ (delay ≠ 0) ∧ ((s.tbx tb.val).delayed.length < 32)) ∧
    (let s : State := bench 3 [(Obj.tbLockState 7, 2)] []; let tb : Fin 8 := 7; let e : Byte := 1; let g : Byte := 0; let delay : BitVec 16 := 1; (s.up = true) ∧ (s.oN (Obj.tbLockState tb.val) ≠ 0) ∧ (delay ≠ 0) ∧ ((s.tbx tb.val).delayed.length < 32)) ∧
    (let s : State := { bench 3 [(Obj.tbLockState 0, 2)] [] with tb := [{ delayed := List.replicate 32 { action := 3, target := 0, arg := 0, entry := 0, angle := 0, off := 0, due := 9 } }] ++ List.replicate 7 {} }; let tb : Fin 8 := 0; let e : Byte := 1; let a : Byte := 0; let x : BitVec 32 := 0; let y : BitVec 32 := 0; let lead : BitVec 6 := 0; let delay : BitVec 16 := 1; let i : SampleIn := {}; let c : Instr := .shadowLoad 0 1 0 1; (s.up = true) ∧ (s.oN (Obj.tbLockState tb.val) ≠ 0) ∧ (delay ≠ 0) ∧ (32 ≤ (s.tbx tb.val).delayed.length) ∧ (c = .lawStart tb e a x delay y ∨ c = .sample tb e a x delay i ∨ c = .shadowLoad tb e a delay ∨ c = .testPulse tb e a x delay lead)) ∧
    (let s : State := bench 3 [] []; let tb : Fin 8 := 7; let e : Byte := 1; let a : Byte := 3; let x : BitVec 32 := 1; let y : BitVec 32 := 0; let lead : BitVec 6 := 0; let delay : BitVec 16 := 5; let i : SampleIn := {}; let c : Instr := .sample 7 1 3 1 5 {}; (s.oN (Obj.tbLockState tb.val) = 0) ∧ (c = .lawStart tb e a x delay y ∨ c = .sample tb e a x delay i ∨ c = .shadowLoad tb e a delay ∨ c = .testPulse tb e a x delay lead)) ∧
    (let s : State := { bench 3 [(Obj.tbLockState 0, 2)] [] with tb := [{ delayed := [{ action := 5, target := 0, arg := 0, entry := 0, angle := 0, off := 0, due := 9 }, { action := 5, target := 0, arg := 0, entry := 0, angle := 0, off := 0, due := 10 }] }] ++ List.replicate 7 {} }; let tb : Fin 8 := 0; let i : SampleIn := {}; let d : Nat := 9; let due : List Occ := [{ action := 5, target := 0, arg := 0, entry := 0, angle := 0, off := 0, due := 9 }]; (s.up = true) ∧ (((s.tbx tb.val).delayed.map Occ.due).min? = some d) ∧ (due = ((s.tbx tb.val).delayed.filter (fun o => o.due == d)).mergeSort (fun a b => actionRank a.action ≤ actionRank b.action))) ∧
    (let s : State := { bench 3 [(Obj.tbLockState 0, 2)] [] with tb := [{ delayed := [{ action := 5, target := 0, arg := 0, entry := 0, angle := 0, off := 0, due := 9 }, { action := 5, target := 0, arg := 0, entry := 0, angle := 0, off := 0, due := 10 }] }] ++ List.replicate 7 {} }; let tb : Fin 8 := 0; let i : SampleIn := {}; let o : Occ := { action := 5, target := 0, arg := 0, entry := 0, angle := 0, off := 0, due := 9 }; let d : Nat := 9; (s.up = true) ∧ (((s.tbx tb.val).delayed.map Occ.due).min? = some d) ∧ ((s.tbx tb.val).delayed.filter (fun o => o.due == d) = [o]) ∧ (o.action = 5) ∧ (s.tb.length = 8)) ∧
    (let s : State := bench 3 [] []; let tb : Fin 8 := 0; let i : SampleIn := {}; ((s.tbx tb.val).delayed = [])) :=
  by
  refine ⟨?_, ?_, ?_, ?_, ?_, ?_, ?_, ?_, ?_, ?_, ?_, ?_, ?_, ?_, ?_, ?_, ?_⟩ <;> decide +kernel

/-! ## PWM groups (chapter 5) -/

/-- Every clause of GroupRequestsAndPeriodStarts has a case. -/
theorem wit_GroupRequestsAndPeriodStarts :
    (let s : State := bench 10 [(Obj.tbLockState 0, 2)] [(Obj.groupMode 23, 1)]; let g : Fin 20 := 19; let role : Role := .vendor; (s.MayWrite role 2 (Obj.groupRunRequest (groupNo g.val))) ∧ (s.mayStart (groupNo g.val) = true)) ∧
    (let s : State := bench 2 [] []; let g : Fin 20 := 19; let role : Role := .operator; (s.MayWrite role 2 (Obj.groupRunRequest (groupNo g.val))) ∧ (s.mayStart (groupNo g.val) = false)) ∧
    (let s : State := bench 3 [(Obj.groupState 23, 1)] [(Obj.groupMode 23, 1)]; let g : Fin 20 := 19; let role : Role := .operator; (s.MayWrite role 2 (Obj.groupRunRequest (groupNo g.val))) ∧ (s.cN (Obj.groupMode (groupNo g.val)) ≠ 5) ∧ (s.switching (groupNo g.val) = true)) ∧
    (let s : State := bench 2 [] []; let g : Fin 20 := 19; let role : Role := .operator; (s.MayWrite role 2 (Obj.groupRunRequest (groupNo g.val))) ∧ (s.cN (Obj.groupMode (groupNo g.val)) = 5 ∨ s.switching (groupNo g.val) = false)) ∧
    (let s : State := { bench 3 [(Obj.groupState 0, 1)] [(Obj.groupChannels 0, 7)] with hbDrive := List.replicate 24 .switching, lvDrive := List.replicate 16 .pulseOff }; let g : Fin 20 := 0; let role : Role := .operator; (s.MayWrite role 2 (Obj.groupRunRequest (groupNo g.val)))) ∧
    (let s : State := { bench 3 [(Obj.groupState 0, 1), (Obj.groupRunRequest 0, 2)] [(Obj.groupChannels 0, 7)] with hbDrive := List.replicate 24 .switching, lvDrive := List.replicate 16 .pulseOff }; let g : Nat := 0; let i : PeriodIn := {}; (g < 24) ∧ (s.oN (Obj.groupRunRequest g) = 2) ∧ (s.switching g = true) ∧ (s.hbDrive.length = 24) ∧ (s.lvDrive.length = 16)) ∧
    (let s : State := bench 2 [] []; let g : Fin 20 := 19; let role : Role := .observer; let c : Instr := .groupStop 19 .observer; (s.up = true) ∧ (roleRank role < 2) ∧ (c = .groupRun g role ∨ c = .groupStop g role ∨ c = .groupStopAtOnce g role)) ∧
    (let s : State := { bench 3 [(Obj.tbLockState 0, 2)] [(Obj.groupMode 0, 1)] with grp := [{ startTick := some 5 }] ++ List.replicate 23 {}, tick := 6 }; let g : Fin 20 := 0; let i : PeriodIn := {}; (s.up = true) ∧ (s.cN (Obj.groupMode (groupNo g.val)) ≠ 0 ∧ s.cN (Obj.groupMode (groupNo g.val)) ≠ 5) ∧ (s.oN (Obj.tbLockState (s.cN (Obj.groupTimebase (groupNo g.val)))) ≠ 0) ∧ (s.tooFast (groupNo g.val) = true)) ∧
    (let s : State := { bench 3 [(Obj.tbLockState 0, 2)] [(Obj.groupMode 0, 1), (Obj.groupChannels 0, 7)] with chan := List.replicate 40 {}, hbDrive := List.replicate 24 .pulseOff, grp := List.replicate 24 {} }; let g : Fin 20 := 0; let i : PeriodIn := {}; (s.up = true) ∧ (s.cN (Obj.groupMode (groupNo g.val)) ≠ 0 ∧ s.cN (Obj.groupMode (groupNo g.val)) ≠ 5) ∧ (s.oN (Obj.tbLockState (s.cN (Obj.groupTimebase (groupNo g.val)))) ≠ 0) ∧ (s.tooFast (groupNo g.val) = false) ∧ (s.switching (groupNo g.val) = false) ∧ (s.o (Obj.groupRunRequest (groupNo g.val)) = 0) ∧ ((s.grpx (groupNo g.val)).held = false) ∧ (∀ n ∈ s.groupChannels (groupNo g.val), (s.chx n).rearm = false ∧ s.drive n = .pulseOff) ∧ (s.bootChans (groupNo g.val) = [])) ∧
    (let s : State := { bench 3 [(Obj.tbLockState 0, 2), (Obj.groupState 0, 1)] [(Obj.groupMode 0, 1), (Obj.groupChannels 0, 7), (Obj.hbLinkInput 0, 255), (Obj.hbLinkInput 1, 255), (Obj.hbLinkInput 2, 255)] with hbDrive := List.replicate 24 .switching, chan := List.replicate 40 {}, grp := List.replicate 24 {} }; let g : Fin 20 := 0; let i : PeriodIn := {}; (s.up = true) ∧ (g.val < 12) ∧ (s.cN (Obj.groupMode g.val) ≠ 0 ∧ s.cN (Obj.groupMode g.val) ≠ 5) ∧ (s.oN (Obj.tbLockState (s.cN (Obj.groupTimebase g.val))) ≠ 0) ∧ (s.tooFast g.val = false) ∧ (s.switching g.val = true) ∧ (s.o (Obj.groupRunRequest g.val) = 0) ∧ ((s.grpx g.val).held = false) ∧ (∀ n ∈ s.groupChannels g.val, s.cN (Obj.vswEnable n) = 0 ∧ 4 ≤ s.cN (Obj.hbLinkInput n)) ∧ (s.hbDrive.length = 24 ∧ s.chan.length = 40 ∧ s.grp.length = 24)) ∧
    (let s : State := { bench 3 [(Obj.tbLockState 0, 2)] [(Obj.groupMode 0, 1)] with grp := { held := true } :: List.replicate 23 {} }; let g : Fin 20 := 0; let i : PeriodIn := {}; (s.up = true) ∧ (s.cN (Obj.groupMode (groupNo g.val)) ≠ 0 ∧ s.cN (Obj.groupMode (groupNo g.val)) ≠ 5) ∧ (s.oN (Obj.tbLockState (s.cN (Obj.groupTimebase (groupNo g.val)))) ≠ 0) ∧ (s.tooFast (groupNo g.val) = false) ∧ ((s.grpx (groupNo g.val)).held = true) ∧ (s.grp.length = 24) ∧ (((s.incSat (Obj.groupCarrierFastCount (groupNo g.val))).raise FC.pwmCarrierfast (groupNo g.val)).tooFast (groupNo g.val) = false)) ∧
    (let s : State := bench 3 [(Obj.groupState 0, 1)] [(Obj.groupMode 0, 1), (Obj.groupChannels 0, 7)]; let g : Fin 20 := 0; (s.up = true) ∧ (s.switching (groupNo g.val) = true) ∧ (1 ≤ s.cN (Obj.groupMode (groupNo g.val)) ∧ s.cN (Obj.groupMode (groupNo g.val)) ≤ 4)) ∧
    (let s : State := bench 3 [] []; let g : Fin 20 := 0; (s.switching (groupNo g.val) = false)) :=
  by
  refine ⟨?_, ?_, ?_, ?_, ?_, ?_, ?_, ?_, ?_, ?_, ?_, ?_, ?_⟩ <;> decide +kernel

/-! ## Protection (chapter 6) -/

/-- Every clause of ProtectionEventEndsTheSwitching has a case. -/
theorem wit_ProtectionEventEndsTheSwitching :
    (let s : State := { bench 3 [(Obj.hbProtState 0, 1), (Obj.hbProtState 1, 1)] [(Obj.groupChannels 0, 3)] with hbDrive := List.replicate 24 .switching }; let n : Nat := 0; let cause : Nat := 1; (s.hbDrive.length = 24) ∧ (n < 24) ∧ (s.live_ n = true)) :=
  by decide +kernel

/-- Every clause of DetectorsDeclareEvents has a case. -/
theorem wit_DetectorsDeclareEvents :
    (let s : State := { bench 3 [(Obj.hbProtState 0, 1)] [(Obj.groupChannels 0, 3)] with hbDrive := List.replicate 24 .switching, chan := { ena := true, pul := true } :: List.replicate 39 {} }; let n : Fin 24 := 0; let u : Bool := true; let v : BitVec 32 := 0x7F000000; (s.up = true) ∧ (s.conductedLately n.val u = true) ∧ (s.cF (Obj.hbDesatThreshold n.val) < F32.toRat v.toNat)) ∧
    (let s : State := bench 3 [] []; let n : Fin 24 := 0; let u : Bool := true; let v : BitVec 32 := 0x7F000000; (s.conductedLately n.val u = false ∨ F32.toRat v.toNat ≤ s.cF (Obj.hbDesatThreshold n.val))) ∧
    (let s : State := { bench 3 [(Obj.hbProtState 0, 1), (Obj.vdcValue 0, 0x41A00000)] [(Obj.groupChannels 0, 3)] with hbDrive := List.replicate 24 .switching, chan := { ena := true } :: List.replicate 39 {} }; let n : Fin 24 := 0; let u : Bool := false; let v : BitVec 32 := 0x7F000000; (s.up = true) ∧ (s.conductedLately n.val u = true) ∧ (20 ≤ s.oF (Obj.vdcValue (s.cN (Obj.hbLinkInput n.val)))) ∧ (s.oF (Obj.vdcValue (s.cN (Obj.hbLinkInput n.val))) / 2 < F32.toRat v.toNat)) ∧
    (let s : State := bench 3 [] []; let n : Fin 24 := 0; let u : Bool := true; let v : BitVec 32 := 0x7F000000; (s.conductedLately n.val u = false ∨ s.oF (Obj.vdcValue (s.cN (Obj.hbLinkInput n.val))) < 20 ∨ F32.toRat v.toNat ≤ s.oF (Obj.vdcValue (s.cN (Obj.hbLinkInput n.val))) / 2)) ∧
    (let s : State := bench 3 [(Obj.sdState 31, 1)] []; let n : Fin 32 := 31; let a : BitVec 32 := 0x7F000000; (s.sensing = true) ∧ (s.oN (Obj.sdState n.val) = 1) ∧ (s.sdTripped.getD n.val false = false) ∧ (s.cF (Obj.sdOcHigh n.val) < F32.toRat a.toNat ∨ F32.toRat a.toNat < s.cF (Obj.sdOcLow n.val))) ∧
    (let s : State := { bench 3 [(Obj.sdState 0, 1)] [] with sdTripped := List.replicate 32 true }; let n : Fin 32 := 0; let a : BitVec 32 := 0x7F000000; (s.sdTripped.getD n.val false = true ∨ (F32.toRat a.toNat ≤ s.cF (Obj.sdOcHigh n.val) ∧ s.cF (Obj.sdOcLow n.val) ≤ F32.toRat a.toNat))) ∧
    (let s : State := bench 2 [(Obj.gsState 47, 3)] [(Obj.gsUvloThreshold 47, 0x41200000)]; let g : Fin 48 := 47; let v : BitVec 32 := 0; (s.up = true) ∧ (s.oN (Obj.gsState g.val) = 3) ∧ (F32.toRat v.toNat < s.cF (Obj.gsUvloThreshold g.val))) ∧
    (let s : State := bench 2 [(Obj.gsState 47, 3)] []; let g : Fin 48 := 47; let v : BitVec 32 := 0x41F00000; (s.cF (Obj.gsUvloThreshold g.val) ≤ F32.toRat v.toNat)) ∧
    (let s : State := bench 2 [(Obj.gsState 47, 4)] [(Obj.gsOvloThreshold 47, 0x41900000)]; let g : Fin 48 := 47; let v : BitVec 32 := 0x42000000; (s.up = true) ∧ (s.oN (Obj.gsState g.val) = 3 ∨ s.oN (Obj.gsState g.val) = 4) ∧ (s.cF (Obj.gsOvloThreshold g.val) < F32.toRat v.toNat)) ∧
    (let s : State := bench 2 [(Obj.gsState 47, 4)] []; let g : Fin 48 := 47; let v : BitVec 32 := 0; (F32.toRat v.toNat ≤ s.cF (Obj.gsOvloThreshold g.val))) ∧
    (let s : State := { bench 2 [(Obj.gsState 47, 4)] [(Obj.gsOvloThreshold 47, 0x41900000)] with gsDrive := List.replicate 48 .regulated }; let g : Fin 48 := 47; let v : BitVec 32 := 0x42000000; (s.up = true) ∧ (s.oN (Obj.gsState g.val) = 3 ∨ s.oN (Obj.gsState g.val) = 4) ∧ (s.cF (Obj.gsOvloThreshold g.val) < F32.toRat v.toNat) ∧ (s.live_ (g.val / 2) = false) ∧ (s.gsDrive.length = 48)) :=
  by
  refine ⟨?_, ?_, ?_, ?_, ?_, ?_, ?_, ?_, ?_, ?_, ?_⟩ <;> decide +kernel

/-! ## Sensing (chapter 7) -/

/-- Every clause of SensingFailuresAreRaised has a case. -/
theorem wit_SensingFailuresAreRaised :
    (let s : State := bench 3 [(Obj.sdState 31, 1)] []; let n : Fin 32 := 31; (s.sensing = true) ∧ (s.oN (Obj.sdState n.val) = 1)) ∧
    (let s : State := bench 3 [(Obj.sdState 31, 1)] []; let n : Fin 32 := 31; let x : BitVec 32 := 0x3F800000; (s.sensing = true) ∧ (s.oN (Obj.sdState n.val) = 1) ∧ (s.cF (Obj.sdRangeLimit n.val) < |F32.toRat x.toNat|) ∧ (s.sdRaised.getD n.val none = none)) ∧
    (let s : State := { bench 3 [(Obj.sdState 31, 1)] [] with sdRaised := List.replicate 32 (some 5) }; let n : Fin 32 := 31; let x : BitVec 32 := 0x3F800000; let r : Nat := 5; (s.sensing = true) ∧ (s.oN (Obj.sdState n.val) = 1) ∧ (s.cF (Obj.sdRangeLimit n.val) < |F32.toRat x.toNat|) ∧ (s.sdRaised.getD n.val none = some r) ∧ (s.mono < r + 1000000000)) ∧
    (let s : State := bench 3 [] [(Obj.sdEnable 31, 1), (Obj.sdClock 31, 3)]; let k : Fin 4 := 3; (s.sensing = true) ∧ ((List.range 32).any (fun n => s.cN (Obj.sdEnable n) == 1 && s.cN (Obj.sdClock n) == k.val) = true)) ∧
    (let s : State := bench 3 [] [(Obj.vdcEnable 0, 1)]; let h : Fin 24 := 23; let v : BitVec 32 := 0x7F000000; (s.sensing = true) ∧ (s.cN (Obj.vdcEnable (s.cN (Obj.hbLinkInput h.val))) = 1) ∧ (s.oF (Obj.vdcValue (s.cN (Obj.hbLinkInput h.val))) + s.cF (Obj.vdcPlausibilityMargin (s.cN (Obj.hbLinkInput h.val))) / 100 * s.vdcScale (s.cN (Obj.hbLinkInput h.val)) < F32.toRat v.toNat)) ∧
    (let s : State := bench 3 [] []; let h : Fin 24 := 23; let v : BitVec 32 := 0x7F000000; (s.cN (Obj.vdcEnable (s.cN (Obj.hbLinkInput h.val))) ≠ 1 ∨ F32.toRat v.toNat ≤ s.oF (Obj.vdcValue (s.cN (Obj.hbLinkInput h.val))) + s.cF (Obj.vdcPlausibilityMargin (s.cN (Obj.hbLinkInput h.val))) / 100 * s.vdcScale (s.cN (Obj.hbLinkInput h.val)))) ∧
    (let s : State := bench 3 [] [(Obj.vdcEnable 3, 1)]; let n : Fin 4 := 3; (s.sensing = true) ∧ (s.cN (Obj.vdcEnable n.val) = 1)) ∧
    (let s : State := bench 3 [] []; let n : Fin 4 := 3; (s.cN (Obj.vdcEnable n.val) = 0)) ∧
    (let s : State := bench 3 [] [(Obj.ainMode 15, 1), (Obj.ainValidMin 15, 0x41200000), (Obj.ainValidMax 15, 0x41A00000)]; let n : Fin 16 := 15; let v : BitVec 32 := 0x3F800000; let u : State := s.ainTake n.val (F32.toRat v.toNat); (s.sensing = true) ∧ (s.cN (Obj.ainMode n.val) ≠ 0) ∧ (u = s.ainTake n.val (F32.toRat v.toNat)) ∧ (u.ainValid n.val = false)) ∧
    (let s : State := bench 3 [] [(Obj.ainMode 15, 1), (Obj.ainValidMax 15, 0x41A00000)]; let n : Fin 16 := 15; let v : BitVec 32 := 0x3F800000; let u : State := s.ainTake n.val (F32.toRat v.toNat); (s.sensing = true) ∧ (s.cN (Obj.ainMode n.val) ≠ 0) ∧ (u = s.ainTake n.val (F32.toRat v.toNat)) ∧ (u.ainValid n.val = true)) ∧
    (let s : State := bench 3 [] [(Obj.ainMode 15, 1), (Obj.ainValidMax 15, 0x41A00000)]; let n : Fin 16 := 15; let v : BitVec 32 := 0x3F800000; (s.cN (Obj.ainMode n.val) = 1)) ∧
    (let s : State := bench 3 [] []; let n : Fin 16 := 15; let v : BitVec 32 := 0x3F800000; (s.sensing = false ∨ s.cN (Obj.ainMode n.val) = 0)) ∧
    (let s : State := bench 3 [] []; let n : Fin 16 := 15; let v : BitVec 32 := 0x3F800000; (s.sensing = false ∨ s.cN (Obj.ainMode n.val) = 0)) ∧
    (let s : State := bench 3 [] []; let n : Fin 32 := 15; (s.sensing = false ∨ s.oN (Obj.sdState n.val) ≠ 1)) ∧
    (let s : State := bench 3 [] []; let n : Fin 32 := 15; let x : BitVec 32 := 0; (s.sensing = false ∨ s.oN (Obj.sdState n.val) ≠ 1 ∨ |F32.toRat x.toNat| ≤ s.cF (Obj.sdRangeLimit n.val))) ∧
    (let s : State := bench 1 [] []; let k : Fin 4 := 3; (s.sensing = false)) ∧
    (let s : State := bench 3 [] []; let n : Fin 36 := 15; (s.sensing = true) ∧ (n.val < 16)) ∧
    (let s : State := bench 3 [] []; let n : Fin 36 := 31; (s.sensing = true) ∧ (16 ≤ n.val ∧ n.val < 32)) ∧
    (let s : State := bench 3 [] []; let n : Fin 36 := 35; (s.sensing = true) ∧ (32 ≤ n.val)) ∧
    (let s : State := bench 1 [] []; let n : Fin 36 := 35; (s.sensing = false)) :=
  by
  refine ⟨?_, ?_, ?_, ?_, ?_, ?_, ?_, ?_, ?_, ?_, ?_, ?_, ?_, ?_, ?_, ?_, ?_, ?_, ?_, ?_⟩ <;> decide +kernel

/-! ## Engines (chapters 8 and 9) -/

/-- Every clause of LawInstancesRunAbortAndHandOver has a case. -/
theorem wit_LawInstancesRunAbortAndHandOver :
    (let s : State := bench 3 [(Obj.slotState 63, 1)] []; let n : Nat := 63; let arg : Nat := 1; let angle : Nat := 2; (s.engOn = true) ∧ (n < 64) ∧ (s.slots.length = 64) ∧ (s.oN (Obj.slotState n) = 1) ∧ (∀ j ∈ slotsOf (n / 8), s.oN (Obj.slotState j) ≠ 2 ∧ s.oN (Obj.slotState j) ≠ 3)) ∧
    (let s : State := bench 3 [(Obj.slotState 63, 3)] []; let n : Nat := 63; let arg : Nat := 1; let angle : Nat := 2; (s.engOn = true) ∧ (s.oN (Obj.slotState n) = 2 ∨ s.oN (Obj.slotState n) = 3 ∨ s.oN (Obj.slotState n) = 4)) ∧
    (let s : State := bench 3 [] []; let n : Fin 64 := 63; let i : BitVec 32 := 1; let r : BitVec 32 := 1; (s.oN (Obj.slotState n.val) ≠ 3)) ∧
    (let s : State := bench 3 [(Obj.slotState 63, 1)] []; let n : Fin 64 := 63; let i : BitVec 32 := 1; (s.oN (Obj.slotState n.val) ≠ 2 ∧ s.oN (Obj.slotState n.val) ≠ 3 ∧ s.oN (Obj.slotState n.val) ≠ 4)) ∧
    (let s : State := bench 3 [(Obj.slotState 63, 2)] []; let n : Fin 64 := 63; let i : BitVec 32 := 1; (s.oN (Obj.slotState n.val) ≠ 3 ∧ s.oN (Obj.slotState n.val) ≠ 4)) ∧
    (let s : State := bench 3 [(Obj.slotState 63, 2)] []; let n : Fin 64 := 63; let i : BitVec 32 := 0; (s.engOn = true) ∧ (s.oN (Obj.slotState n.val) = 2 ∨ s.oN (Obj.slotState n.val) = 3 ∨ s.oN (Obj.slotState n.val) = 4) ∧ ((s.abort n.val i.toNat).slots.length = 64) ∧ (((s.abort n.val i.toNat).slotx n.val).misses + 1 ≠ s.recC n.val (Obj.slotDeadlineMisses n.val))) ∧
    (let s : State := { bench 3 [(Obj.slotState 63, 2)] [(Obj.slotDeadlineMisses 63, 1)] with slots := List.replicate 64 {} }; let n : Fin 64 := 63; let i : BitVec 32 := 0; (s.engOn = true) ∧ (s.oN (Obj.slotState n.val) = 2 ∨ s.oN (Obj.slotState n.val) = 3 ∨ s.oN (Obj.slotState n.val) = 4) ∧ ((s.abort n.val i.toNat).slots.length = 64) ∧ (((s.abort n.val i.toNat).slotx n.val).misses + 1 = s.recC n.val (Obj.slotDeadlineMisses n.val)) ∧ (s.recC n.val (Obj.slotDeadlineMisses n.val) = (s.abort n.val i.toNat).recC n.val (Obj.slotDeadlineMisses n.val))) ∧
    (let s : State := { bench 3 [(Obj.slotState 63, 2)] [(Obj.slotDeadlineMisses 63, 3)] with slots := List.replicate 64 {} }; let n : Fin 64 := 63; let i : BitVec 32 := 0; (s.engOn = true) ∧ (s.oN (Obj.slotState n.val) = 2) ∧ ((s.slotx n.val).disableAtEnd = false) ∧ (s.slots.length = 64) ∧ (∀ j ∈ slotsOf (n.val / 8), j ≠ n.val → s.oN (Obj.slotState j) = 0 ∨ s.oN (Obj.slotState j) = 1)) ∧
    (let s : State := bench 3 [(Obj.slotState 63, 4)] []; let n : Fin 64 := 63; let i : BitVec 32 := 1; (s.engOn = true) ∧ (s.oN (Obj.slotState n.val) = 3 ∨ s.oN (Obj.slotState n.val) = 4)) ∧
    (let s : State := bench 3 [(Obj.slotState 0, 1), (Obj.slotState 1, 5)] [(Obj.slotHandoverPartner 0, 1), (Obj.slotHandoverPartner 1, 0), (Obj.slotPresetEntry 1, 7)]; let e : Fin 8 := 0; let v : BitVec 16 := 0x0100; let role : Role := .integrator; (s.up = true) ∧ (3 ≤ roleRank role) ∧ (s.handoverCode e.val (v.toNat % 256) (v.toNat / 256) = 0)) ∧
    (let s : State := bench 3 [] []; let e : Fin 8 := 7; let v : BitVec 16 := 0x0808; let role : Role := .integrator; (s.up = true) ∧ (3 ≤ roleRank role) ∧ (s.handoverCode e.val (v.toNat % 256) (v.toNat / 256) ≠ 0)) ∧
    (let s : State := bench 3 [] []; let e : Fin 8 := 7; let v : BitVec 16 := 0x0808; let role : Role := .operator; (s.up = true) ∧ (roleRank role < 3)) :=
  by
  refine ⟨?_, ?_, ?_, ?_, ?_, ?_, ?_, ?_, ?_, ?_, ?_, ?_⟩ <;> decide +kernel

/-- Slot 63 runs a program of one word, `end`. -/
def benchLaw : State := { bench 3 [(Obj.slotState 63, 3)] [] with mem := [(domAddr (Obj.programShadow 7) 3, 0x1E)] }
/-- Slot 63 runs `fdiv f0, f0, f0; end`: zero over zero. -/
def benchNan : State :=
  { bench 3 [(Obj.slotState 63, 3)] [] with
    mem := [(domAddr (Obj.programShadow 7) 2, 0x80), (domAddr (Obj.programShadow 7) 3, 0x05), (domAddr (Obj.programShadow 7) 7, 0x1E)] }
theorem wit_LawInstancesRunAbortAndHandOver_6_7 :
    benchLaw.engOn = true ∧ benchLaw.oN (Obj.slotState 63) = 3 ∧
    (benchLaw.runEntry 63 (benchLaw.recC 63 (Obj.slotEntry 63)) 65536).cpu.flag = none ∧ benchLaw.declared 63 < 4294967296 := by decide +kernel
theorem wit_LawInstancesRunAbortAndHandOver_8 :
    benchNan.engOn = true ∧ benchNan.oN (Obj.slotState 63) = 3 ∧
    (benchNan.runEntry 63 (benchNan.recC 63 (Obj.slotEntry 63)) 65536).cpu.flag = some 0 ∧ benchNan.declared 63 < 4294967296 := by decide +kernel

/-! ## Observers (chapter 10) -/

/-- Every clause of LostObserverIsDeclared has a case. -/
theorem wit_LostObserverIsDeclared :
    (let s : State := bench 3 [(Obj.obsRegime 8, 6)] []; let o : Nat := 8; (o < s.obs.length) ∧ ((s.obsx o).lostRun + 1 < 8)) ∧
    (let s : State := { bench 3 [(Obj.obsRegime 8, 6)] [] with obs := List.replicate 9 { lostRun := 7 } }; let o : Nat := 8; (o < s.obs.length) ∧ ((s.obsx o).lostRun + 1 = 8)) ∧
    (let s : State := { bench 3 [(Obj.obsRegime 8, 6)] [] with obs := List.replicate 9 { lostRun := 7 } }; let o : Nat := 8; (o < s.obs.length)) :=
  by
  refine ⟨?_, ?_, ?_⟩ <;> decide +kernel

/-- Every clause of ObserverEventsMoveTheRegime has a case. -/
theorem wit_ObserverEventsMoveTheRegime :
    (let s : State := bench 3 [] [(Obj.obsEnable 8, 1)]; let o : Fin 9 := 8; let a : Byte := 0; (s.obsOn o.val = true)) ∧
    (let s : State := bench 3 [] []; let o : Fin 9 := 8; let a : Byte := 0; (s.obsOn o.val = false)) ∧
    (let s : State := bench 3 [(Obj.obsRegime 0, 1)] [(Obj.obsEnable 0, 1)]; let o : Fin 9 := 0; (s.obsOn o.val = true) ∧ (s.oN (Obj.obsRegime o.val) = 1) ∧ (F32.toRat (s.obsx o.val).catchEmf < s.cF (Obj.obsCatchMinVoltage o.val)) ∧ ((s.obsChans o.val).any (fun c => s.drive c == .switching) = false)) ∧
    (let s : State := { bench 3 [(Obj.obsRegime 0, 1)] [(Obj.obsEnable 0, 1), (Obj.obsChannelMap 0, 7)] with hbDrive := List.replicate 24 .switching }; let o : Fin 9 := 0; (s.obsOn o.val = true) ∧ (s.oN (Obj.obsRegime o.val) = 1) ∧ (F32.toRat (s.obsx o.val).catchEmf < s.cF (Obj.obsCatchMinVoltage o.val)) ∧ ((s.obsChans o.val).any (fun c => s.drive c == .switching) = true) ∧ (s.obs.length = 9)) ∧
    (let s : State := { bench 3 [(Obj.obsRegime 0, 1)] [(Obj.obsEnable 0, 1)] with obs := List.replicate 9 { catchEmf := 0x43C80000, catchAngle := some 5 } }; let o : Fin 9 := 0; (s.obsOn o.val = true) ∧ (s.oN (Obj.obsRegime o.val) = 1) ∧ (s.cF (Obj.obsCatchMinVoltage o.val) ≤ F32.toRat (s.obsx o.val).catchEmf)) ∧
    (let s : State := bench 3 [(Obj.obsRegime 0, 1)] [(Obj.obsEnable 0, 1)]; let o : Nat := 0; let a : Nat := 5; let f : Nat := 0x41200000; (o < 9) ∧ (s.obs.length = 9)) ∧
    (let s : State := bench 3 [] []; let o : Fin 9 := 0; (s.oN (Obj.obsRegime o.val) ≠ 1)) ∧
    (let s : State := { bench 3 [(Obj.obsRegime 8, 2)] [(Obj.obsEnable 8, 1), (Obj.obsInjEnable 8, 1)] with obs := List.replicate 9 { testing := true, track := 7, trackFrom := some 7 } }; let o : Fin 9 := 8; (s.obsOn o.val = true) ∧ (s.oN (Obj.obsRegime o.val) = 2) ∧ ((s.obsx o.val).testing = true) ∧ ((s.obsx o.val).pulseAt = none) ∧ (s.cN (Obj.obsInjEnable o.val) ≠ 0) ∧ (o.val < 4 ∨ (s.obsx o.val).trackFrom = some (s.obsx o.val).track)) ∧
    (let s : State := { bench 3 [(Obj.obsRegime 8, 2)] [(Obj.obsEnable 8, 1), (Obj.obsInjEnable 8, 1)] with obs := List.replicate 9 { testing := true, track := 357913950, trackFrom := some 7 } }; let o : Fin 9 := 8; (s.obsOn o.val = true) ∧ (s.oN (Obj.obsRegime o.val) = 2) ∧ ((s.obsx o.val).testing = true) ∧ ((s.obsx o.val).pulseAt = none) ∧ (s.cN (Obj.obsInjEnable o.val) ≠ 0) ∧ (4 ≤ o.val) ∧ (357913941 < (toSigned 32 ((s.obsx o.val).track + 4294967296 - (s.obsx o.val).trackFrom.getD (s.obsx o.val).track)).natAbs) ∧ (s.obs.length = 9)) ∧
    (let s : State := bench 3 [] []; let o : Fin 9 := 0; (s.oN (Obj.obsRegime o.val) ≠ 2)) ∧
    (let s : State := { bench 3 [(Obj.obsRegime 8, 2)] [(Obj.obsEnable 8, 1), (Obj.obsInjEnable 8, 1)] with obs := List.replicate 9 { testing := true, peaks := [0x3F800000, 0x40000000] } }; let o : Fin 9 := 8; let p0 : Rat := 1; let p1 : Rat := 2; (s.obsOn o.val = true) ∧ (s.oN (Obj.obsRegime o.val) = 2) ∧ ((s.obsx o.val).testing = true) ∧ (s.cN (Obj.obsInjEnable o.val) ≠ 0) ∧ (p0 = F32.toRat ((s.obsx o.val).peaks.getD 0 0)) ∧ (p1 = F32.toRat ((s.obsx o.val).peaks.getD 1 0)) ∧ (s.cF (Obj.obsPolarityMargin o.val) / 100 * max p0 p1 ≤ |p0 - p1|)) ∧
    (let s : State := { bench 3 [(Obj.obsRegime 8, 2)] [(Obj.obsEnable 8, 1), (Obj.obsInjEnable 8, 1)] with obs := List.replicate 9 { testing := true, peaks := [0x3F800000, 0x3F800000] } }; let o : Fin 9 := 8; let p0 : Rat := 1; let p1 : Rat := 1; (s.obsOn o.val = true) ∧ (s.oN (Obj.obsRegime o.val) = 2) ∧ ((s.obsx o.val).testing = true) ∧ (s.cN (Obj.obsInjEnable o.val) ≠ 0) ∧ (p0 = F32.toRat ((s.obsx o.val).peaks.getD 0 0)) ∧ (p1 = F32.toRat ((s.obsx o.val).peaks.getD 1 0)) ∧ (|p0 - p1| < s.cF (Obj.obsPolarityMargin o.val) / 100 * max p0 p1) ∧ ((s.obsx o.val).tries < 2)) ∧
    (let s : State := { bench 3 [(Obj.obsRegime 8, 2)] [(Obj.obsEnable 8, 1), (Obj.obsInjEnable 8, 1)] with obs := List.replicate 9 { testing := true, tries := 2, peaks := [0x3F800000, 0x3F800000] } }; let o : Fin 9 := 8; let p0 : Rat := 1; let p1 : Rat := 1; (s.obsOn o.val = true) ∧ (s.oN (Obj.obsRegime o.val) = 2) ∧ ((s.obsx o.val).testing = true) ∧ (s.cN (Obj.obsInjEnable o.val) ≠ 0) ∧ (p0 = F32.toRat ((s.obsx o.val).peaks.getD 0 0)) ∧ (p1 = F32.toRat ((s.obsx o.val).peaks.getD 1 0)) ∧ (|p0 - p1| < s.cF (Obj.obsPolarityMargin o.val) / 100 * max p0 p1) ∧ (2 ≤ (s.obsx o.val).tries)) ∧
    (let s : State := { bench 3 [(Obj.obsRegime 8, 2)] [(Obj.obsEnable 8, 1), (Obj.obsInjEnable 8, 0)] with obs := List.replicate 9 { testing := true } }; let o : Fin 9 := 8; (s.obsOn o.val = true) ∧ (s.oN (Obj.obsRegime o.val) = 2) ∧ ((s.obsx o.val).testing = true) ∧ (s.cN (Obj.obsInjEnable o.val) = 0) ∧ (s.obs.length = 9)) ∧
    (let s : State := bench 3 [] []; let o : Fin 9 := 0; (s.oN (Obj.obsRegime o.val) ≠ 2)) ∧
    (let s : State := bench 3 [(Obj.obsRegime 8, 2)] [(Obj.obsEnable 8, 1)]; let o : Fin 9 := 8; (s.obsOn o.val = true) ∧ (s.oN (Obj.obsValid o.val) = 0) ∧ (s.oN (Obj.obsRegime o.val) = 1 ∨ s.oN (Obj.obsRegime o.val) = 2)) ∧
    (let s : State := bench 3 [] []; let o : Fin 9 := 8; (s.oN (Obj.obsRegime o.val) ≠ 1 ∧ s.oN (Obj.obsRegime o.val) ≠ 2)) ∧
    (let s : State := bench 3 [(Obj.obsRegime 8, 7)] [(Obj.obsEnable 8, 1)]; let o : Fin 9 := 8; (s.obsOn o.val = true) ∧ (s.oN (Obj.obsRegime o.val) = 7)) ∧
    (let s : State := bench 3 [(Obj.obsRegime 8, 6)] [(Obj.obsEnable 8, 1)]; let o : Fin 9 := 8; (s.oN (Obj.obsRegime o.val) ≠ 7)) ∧
    (let s : State := { bench 3 [(Obj.obsRegime 8, 2)] [(Obj.obsEnable 8, 1)] with obs := List.replicate 9 { abandoned := true } }; let o : Fin 9 := 8; (s.obsOn o.val = true) ∧ (4 ≤ o.val) ∧ ((s.obsx o.val).abandoned = true) ∧ (s.obs.length = 9)) ∧
    (let s : State := bench 3 [] []; let o : Fin 9 := 8; ((s.obsx o.val).abandoned = false)) ∧
    (let s : State := bench 3 [(Obj.commStallState 3, 1)] [(Obj.obsEnable 3, 1)]; let o : Fin 9 := 3; (s.obsOn o.val = true) ∧ (s.oN (Obj.commStallState o.val) = 1) ∧ (o.val < 4)) ∧
    (let s : State := bench 3 [(Obj.commStallState 4, 1)] [(Obj.obsEnable 4, 1)]; let o : Fin 9 := 4; (s.obsOn o.val = true) ∧ (s.oN (Obj.commStallState o.val) = 1) ∧ (4 ≤ o.val ∧ o.val < 8)) ∧
    (let s : State := bench 3 [(Obj.commStallState 8, 1)] [(Obj.obsEnable 8, 1)]; let o : Fin 9 := 8; (s.obsOn o.val = true) ∧ (s.oN (Obj.commStallState o.val) = 1) ∧ (o.val = 8)) ∧
    (let s : State := bench 3 [] []; let o : Fin 9 := 3; (s.oN (Obj.commStallState o.val) ≠ 1)) :=
  by
  refine ⟨?_, ?_, ?_, ?_, ?_, ?_, ?_, ?_, ?_, ?_, ?_, ?_, ?_, ?_, ?_, ?_, ?_, ?_, ?_, ?_, ?_, ?_, ?_, ?_, ?_⟩ <;> decide +kernel

/-! ## Traction (chapter 11) -/

/-- Every clause of SafePlansAndLinkStages has a case. -/
theorem wit_SafePlansAndLinkStages :
    (let s : State := bench 3 [] []; let m : Nat := 3; let a : PlanAct := .ascLower; let w : Nat := 1; (m < 4) ∧ (s.isl.plans.length = 4 ∧ s.isl.pendingPlans.length = 4) ∧ (s.mode ≠ 9) ∧ (s.isl.held.contains (.traction m) = false)) ∧
    (let s : State := { bench 3 [] [(Obj.tracEnable 0, 1)] with planAt := some 0, tick := 1000000 }; (s.engOn = true) ∧ (s.station = false)) ∧
    (let s : State := benchStation 7 [] []; (s.station = true)) ∧
    (let s : State := bench 3 [] []; let l : Nat := 3; let v : Nat := 0x43FA0000; (l < s.snx.vdc.length)) ∧
    (let s : State := bench 3 [(Obj.tracOvStage 3, 0)] [(Obj.tracEnable 0, 1), (Obj.obsLinkInput 0, 3), (Obj.tracOv1 3, 0x43C80000), (Obj.tracOv2 3, 0x43D20000), (Obj.tracOvHysteresis 3, 0x41200000)]; let l : Fin 4 := 3; let v : BitVec 32 := 0x43FA0000; (s.linkOn l.val = true) ∧ (s.oN (Obj.tracOvStage l.val) = 0) ∧ (s.cF (Obj.tracOv1 l.val) ≤ (s.linkMeasured l.val v.toNat).linkVolts l.val)) ∧
    (let s : State := bench 3 [(Obj.tracOvStage 3, 1)] [(Obj.tracEnable 0, 1), (Obj.obsLinkInput 0, 3), (Obj.tracOv1 3, 0x43C80000), (Obj.tracOv2 3, 0x43D20000), (Obj.tracOvHysteresis 3, 0x41200000)]; let l : Fin 4 := 3; let v : BitVec 32 := 0x43FA0000; (s.linkOn l.val = true) ∧ (s.oN (Obj.tracOvStage l.val) = 1) ∧ (s.cF (Obj.tracOv2 l.val) ≤ (s.linkMeasured l.val v.toNat).linkVolts l.val)) ∧
    (let s : State := bench 3 [(Obj.tracOvStage 3, 2), (Obj.tracOv3Effective 3, 0x43DC0000)] [(Obj.tracEnable 0, 1), (Obj.obsLinkInput 0, 3), (Obj.tracOv1 3, 0x43C80000), (Obj.tracOv2 3, 0x43D20000), (Obj.tracOvHysteresis 3, 0x41200000)]; let l : Fin 4 := 3; let v : BitVec 32 := 0x43FA0000; (s.linkOn l.val = true) ∧ (s.oN (Obj.tracOvStage l.val) = 2) ∧ (s.oF (Obj.tracOv3Effective l.val) ≤ (s.linkMeasured l.val v.toNat).linkVolts l.val)) ∧
    (let s : State := bench 3 [(Obj.tracOvStage 3, 3), (Obj.tracOv3Effective 3, 0x43DC0000)] [(Obj.tracEnable 0, 1), (Obj.obsLinkInput 0, 3), (Obj.tracOv1 3, 0x43C80000), (Obj.tracOv2 3, 0x43D20000), (Obj.tracOvHysteresis 3, 0x41200000)]; let l : Fin 4 := 3; let v : BitVec 32 := 0x43C80000; (s.linkOn l.val = true) ∧ (s.oN (Obj.tracOvStage l.val) = 3) ∧ ((s.linkMeasured l.val v.toNat).linkVolts l.val < s.oF (Obj.tracOv3Effective l.val) - s.cF (Obj.tracOvHysteresis l.val))) ∧
    (let s : State := bench 3 [(Obj.tracOvStage 3, 2)] [(Obj.tracEnable 0, 1), (Obj.obsLinkInput 0, 3), (Obj.tracOv1 3, 0x43C80000), (Obj.tracOv2 3, 0x43D20000), (Obj.tracOvHysteresis 3, 0x41200000)]; let l : Fin 4 := 3; let v : BitVec 32 := 0x43960000; (s.linkOn l.val = true) ∧ (s.oN (Obj.tracOvStage l.val) = 2) ∧ ((s.linkMeasured l.val v.toNat).linkVolts l.val < s.cF (Obj.tracOv2 l.val) - s.cF (Obj.tracOvHysteresis l.val))) ∧
    (let s : State := bench 3 [(Obj.tracOvStage 3, 1)] [(Obj.tracEnable 0, 1), (Obj.obsLinkInput 0, 3), (Obj.tracOv1 3, 0x43C80000), (Obj.tracOv2 3, 0x43D20000), (Obj.tracOvHysteresis 3, 0x41200000)]; let l : Fin 4 := 3; let v : BitVec 32 := 0x43960000; (s.linkOn l.val = true) ∧ (s.oN (Obj.tracOvStage l.val) = 1) ∧ ((s.linkMeasured l.val v.toNat).linkVolts l.val < s.cF (Obj.tracOv1 l.val) - s.cF (Obj.tracOvHysteresis l.val))) ∧
    (let s : State := bench 3 [(Obj.tracOvStage 3, 3)] [(Obj.tracEnable 0, 1), (Obj.obsLinkInput 0, 3), (Obj.tracOv1 3, 0x43C80000), (Obj.tracOv2 3, 0x43D20000), (Obj.tracOvHysteresis 3, 0x41200000)]; let l : Fin 4 := 3; let v : BitVec 32 := 0; (s.oN (Obj.tracOvStage l.val) ≠ 0)) ∧
    (let s : State := bench 3 [] [(Obj.tracEnable 0, 1), (Obj.obsLinkInput 0, 3), (Obj.tracOv1 3, 0x43C80000), (Obj.tracOv2 3, 0x43D20000), (Obj.tracOvHysteresis 3, 0x41200000)]; let l : Fin 4 := 3; let v : BitVec 32 := 0; ((s.linkMeasured l.val v.toNat).linkVolts l.val < s.cF (Obj.tracOv1 l.val))) ∧
    (let s : State := bench 3 [(Obj.tracOvStage 3, 3)] [(Obj.tracEnable 0, 1), (Obj.obsLinkInput 0, 3), (Obj.tracOv1 3, 0x43C80000), (Obj.tracOv2 3, 0x43D20000), (Obj.tracOvHysteresis 3, 0x41200000)]; let l : Fin 4 := 3; let v : BitVec 32 := 0x43FA0000; (s.oN (Obj.tracOvStage l.val) ≠ 0) ∧ (s.oN (Obj.tracOvStage l.val) ≠ 1)) ∧
    (let s : State := bench 3 [(Obj.tracOvStage 3, 3)] [(Obj.tracEnable 0, 1), (Obj.obsLinkInput 0, 3), (Obj.tracOv1 3, 0x43C80000), (Obj.tracOv2 3, 0x43D20000), (Obj.tracOvHysteresis 3, 0x41200000)]; let l : Fin 4 := 3; let v : BitVec 32 := 0x43FA0000; (s.oN (Obj.tracOvStage l.val) = 3)) ∧
    (let s : State := bench 3 [(Obj.tracOvStage 3, 0)] [(Obj.tracEnable 0, 1), (Obj.obsLinkInput 0, 3), (Obj.tracOv1 3, 0x43C80000), (Obj.tracOv2 3, 0x43D20000), (Obj.tracOvHysteresis 3, 0x41200000)]; let l : Fin 4 := 3; let v : BitVec 32 := 0; (s.oN (Obj.tracOvStage l.val) = 0)) ∧
    (let s : State := bench 3 [(Obj.tracOvStage 3, 0)] [(Obj.tracEnable 0, 1), (Obj.obsLinkInput 0, 3), (Obj.tracOv1 3, 0x43C80000), (Obj.tracOv2 3, 0x43D20000), (Obj.tracOvHysteresis 3, 0x41200000)]; let l : Fin 4 := 3; let v : BitVec 32 := 0; (s.oN (Obj.tracOvStage l.val) = 0)) ∧
    (let s : State := bench 3 [(Obj.tracOvStage 3, 0)] [(Obj.tracEnable 0, 1), (Obj.obsLinkInput 0, 3), (Obj.tracOv1 3, 0x43C80000), (Obj.tracOv2 3, 0x43D20000), (Obj.tracOvHysteresis 3, 0x41200000)]; let l : Fin 4 := 3; let v : BitVec 32 := 0; (s.oN (Obj.tracOvStage l.val) = 0)) ∧
    (let s : State := bench 3 [(Obj.tracChopperAvailable 3, 1)] [(Obj.tracEnable 0, 1), (Obj.obsLinkInput 0, 3)]; let l : Fin 4 := 3; (s.linkOn l.val = true) ∧ (s.oN (Obj.tracChopperAvailable l.val) = 1)) ∧
    (let s : State := bench 3 [] [(Obj.tracEnable 0, 1), (Obj.obsLinkInput 0, 3)]; let l : Fin 4 := 3; (s.oN (Obj.tracChopperAvailable l.val) ≠ 1)) ∧
    (let s : State := { bench 3 [] [(Obj.tracEnable 3, 1)] with trac := List.replicate 4 { zeroHold := some (0, 1) } }; let m : Fin 4 := 3; let k : Nat := 1; (s.tracOn m.val = true) ∧ ((s.tracx m.val).zeroHold = some (0, k))) ∧
    (let s : State := { bench 3 [] [(Obj.tracEnable 3, 1)] with trac := List.replicate 4 { zeroHold := some (1, 1) } }; let m : Fin 4 := 3; let k : Nat := 1; (s.tracOn m.val = true) ∧ ((s.tracx m.val).zeroHold = some (1, k))) ∧
    (let s : State := { bench 3 [] [(Obj.tracEnable 3, 1)] with trac := List.replicate 4 { zeroHold := some (2, 1) } }; let m : Fin 4 := 3; let k : Nat := 1; (s.tracOn m.val = true) ∧ ((s.tracx m.val).zeroHold = some (2, k))) ∧
    (let s : State := bench 3 [] [(Obj.tracEnable 3, 1)]; let m : Fin 4 := 3; ((s.tracx m.val).zeroHold = none)) ∧
    (let s : State := bench 3 [] [(Obj.tracEnable 3, 1)]; let m : Fin 4 := 3; ((s.tracx m.val).faint = true ∨ (s.tracx m.val).steps = 0 ∨ (s.tracx m.val).sumFired = true)) ∧
    (let s : State := bench 3 [] [(Obj.tracEnable 3, 1)]; let m : Fin 4 := 3; (m.val < s.trac.length)) ∧
    (let s : State := { bench 3 [(Obj.tracDroppedSet 3, 255)] [(Obj.tracEnable 3, 1), (Obj.obsPhaseCount 3, 3), (Obj.tracOpenPhaseRatio 3, 0x41A00000)] with trac := List.replicate 4 { squares := [0, 4, 4, 0, 0, 0], steps := 1 } }; let m : Fin 4 := 3; (s.tracOn m.val = true) ∧ ((s.tracx m.val).sumFired = false ∧ (s.tracx m.val).faint = false ∧ 0 < (s.tracx m.val).steps) ∧ (s.cN (Obj.obsPhaseCount m.val) = 3) ∧ (s.oN (Obj.tracDroppedSet m.val) = 0xFF) ∧ (s.openIn m.val 0 = true)) :=
  by
  refine ⟨?_, ?_, ?_, ?_, ?_, ?_, ?_, ?_, ?_, ?_, ?_, ?_, ?_, ?_, ?_, ?_, ?_, ?_, ?_, ?_, ?_, ?_, ?_, ?_, ?_, ?_⟩ <;> decide +kernel

/-! ## Winding connection and charge phases (chapter 12) -/

/-- Every clause of WindingConnectionSequence has a case. -/
theorem wit_WindingConnectionSequence :
    (let s : State := bench 5 [(Obj.wcTopology, 1), (Obj.wcState, 1)] [(Obj.wcEnable, 1)]; (s.wcOn = true) ∧ (s.oN Obj.wcTopology = 1) ∧ (s.oN Obj.wcState = 1)) ∧
    (let s : State := bench 5 [(Obj.wcTopology, 1), (Obj.wcState, 1)] [(Obj.wcEnable, 1)]; (s.wcOn = true) ∧ (s.oN Obj.wcTopology = 1) ∧ (s.oN Obj.wcState = 1)) ∧
    (let s : State := bench 5 [] []; let ok : Bool := true; (s.oN Obj.wcState ≠ 1)) ∧
    (let s : State := bench 5 [(Obj.wcTopology, 1), (Obj.wcState, 2)] [(Obj.wcEnable, 1)]; let v : BitVec 32 := 0; (s.wcOn = true) ∧ (s.oN Obj.wcTopology = 1) ∧ (s.oN Obj.wcState = 2) ∧ ((s.put Obj.wcGridVoltage v.toNat).wcInWindow v.toNat = false ∨ (s.put Obj.wcGridVoltage v.toNat).wcLocked = false ∨ (s.put Obj.wcGridVoltage v.toNat).wcLinkOk = false)) ∧
    (let s : State := bench 5 [] []; let v : BitVec 32 := 0; (s.oN Obj.wcState ≠ 2)) ∧
    (let s : State := bench 5 [(Obj.wcTopology, 1), (Obj.wcState, 3)] [(Obj.wcEnable, 1)]; (s.wcOn = true) ∧ (s.oN Obj.wcTopology = 1) ∧ (s.oN Obj.wcState = 3)) ∧
    (let s : State := { bench 5 [(Obj.wcTopology, 1), (Obj.wcState, 3)] [(Obj.wcEnable, 1)] with cp := List.replicate 2 { session := true } }; (s.wcOn = true) ∧ (s.oN Obj.wcTopology = 1) ∧ (s.oN Obj.wcState = 3) ∧ ((s.cpx 0).session = true)) ∧
    (let s : State := bench 5 [] []; let ok : Bool := true; (s.oN Obj.wcState ≠ 3)) ∧
    (let s : State := bench 5 [(Obj.wcTopology, 1), (Obj.wcState, 6)] [(Obj.wcEnable, 1)]; (s.wcOn = true) ∧ (s.oN Obj.wcTopology = 1) ∧ (s.oN Obj.wcState = 2 ∨ s.oN Obj.wcState = 6)) ∧
    (let s : State := bench 5 [] []; (s.oN Obj.wcState ≠ 2 ∧ s.oN Obj.wcState ≠ 6)) ∧
    (let s : State := bench 5 [(Obj.wcTopology, 1), (Obj.wcState, 2)] [(Obj.wcEnable, 1), (Obj.wcParkLockActuator, 255)]; let v : BitVec 32 := 0x43C80000; let p : BitVec 32 := 0; (s.wcOn = true) ∧ (s.oN Obj.wcTopology = 1) ∧ (s.oN Obj.wcState = 2) ∧ (4 ≤ s.cN Obj.wcParkLockActuator)) ∧
    (let s : State := bench 5 [] [(Obj.wcEnable, 0)]; let v : BitVec 32 := 0; let p : BitVec 32 := 0; (s.wcOn = false)) ∧
    (let s : State := bench 5 [(Obj.wcTopology, 1), (Obj.wcState, 4)] [(Obj.wcEnable, 1), (Obj.wcTripMax, 5)]; let c : BitVec 4 := 9; let u : State := s.wcZero.wcGroupsOff.soRelease (s.cN Obj.wcGridContactor); (s.wcOn = true) ∧ (s.oN Obj.wcTopology = 1) ∧ (s.oN Obj.wcState = 3 ∨ s.oN Obj.wcState = 4 ∨ s.oN Obj.wcState = 5) ∧ (1 ≤ c.toNat ∧ c.toNat ≤ 9) ∧ (c = 7 → s.oF Obj.wcPowerSetpoint < 0) ∧ (s.wcTripsNow.length + 1 < s.cN Obj.wcTripMax) ∧ (u = s.wcZero.wcGroupsOff.soRelease (s.cN Obj.wcGridContactor)) ∧ (u.cN Obj.wcTripMax = s.cN Obj.wcTripMax)) ∧
    (let s : State := bench 5 [(Obj.wcTopology, 1), (Obj.wcState, 4)] [(Obj.wcEnable, 1), (Obj.wcTripMax, 1)]; let c : BitVec 4 := 9; let u : State := s.wcZero.wcGroupsOff.soRelease (s.cN Obj.wcGridContactor); let y : State := { (((u.put Obj.wcState 6).put Obj.wcTripCause c.toNat).incSat Obj.wcTripCount).put Obj.wcReconnectRemaining (u.cN Obj.wcReconnectDelay : Nat) with wc := { u.wc with trips := s.wcTripsNow ++ [s.mono] } }.wcOpenAll.raise FC.wcTriplatch 0; (s.wcOn = true) ∧ (s.oN Obj.wcTopology = 1) ∧ (s.oN Obj.wcState = 3 ∨ s.oN Obj.wcState = 4 ∨ s.oN Obj.wcState = 5) ∧ (1 ≤ c.toNat ∧ c.toNat ≤ 9) ∧ (c = 7 → s.oF Obj.wcPowerSetpoint < 0) ∧ (s.cN Obj.wcTripMax ≤ s.wcTripsNow.length + 1) ∧ (u = s.wcZero.wcGroupsOff.soRelease (s.cN Obj.wcGridContactor)) ∧ (u.cN Obj.wcTripMax = s.cN Obj.wcTripMax) ∧ (y = { (((u.put Obj.wcState 6).put Obj.wcTripCause c.toNat).incSat Obj.wcTripCount).put Obj.wcReconnectRemaining (u.cN Obj.wcReconnectDelay : Nat) with wc := { u.wc with trips := s.wcTripsNow ++ [s.mono] } }.wcOpenAll.raise FC.wcTriplatch 0)) ∧
    (let s : State := bench 5 [] []; let c : BitVec 4 := 1; (s.oN Obj.wcState ≠ 3 ∧ s.oN Obj.wcState ≠ 4 ∧ s.oN Obj.wcState ≠ 5)) ∧
    (let s : State := bench 5 [] []; let v : BitVec 32 := 0; (s.oN Obj.wcState ≠ 6 ∨ s.wc.latched = true ∨ s.wcInWindow v.toNat = false)) ∧
    (let s : State := bench 5 [(Obj.wcTopology, 1), (Obj.wcState, 4), (Obj.cpCurrentRef 0, 0x42C80000), (Obj.modeTarget, 255)] [(Obj.wcEnable, 1), (Obj.wcLossMinCurrent, 0x3F800000), (Obj.wcGridContactor, 255)]; (s.lossWatched = true) ∧ (s.wcGroups = []) ∧ (s.mode = 5) ∧ (8 ≤ s.cN Obj.wcGridContactor)) ∧
    (let s : State := bench 5 [] []; (s.lossWatched = false) ∧ (s.oN Obj.wcState ≠ 7)) :=
  by
  refine ⟨?_, ?_, ?_, ?_, ?_, ?_, ?_, ?_, ?_, ?_, ?_, ?_, ?_, ?_, ?_, ?_, ?_, ?_⟩ <;> decide +kernel

/-- The grid window has been held, the timebase is locked, the grid reads 0 V and the window lets 0 V pass. -/
def benchGrid (st : Int) : State :=
  bench 5 [(Obj.wcTopology, 1), (Obj.wcState, st), (Obj.tbLockState 0, 2)]
    [(Obj.wcEnable, 1), (Obj.wcGridTimebase, 0), (wcKeys.nominal, 0), (wcKeys.fmin, 0), (wcKeys.fmax, 0x42C80000)]
theorem benchGrid_link : ((benchGrid 2).put Obj.wcGridVoltage (0 : Nat)).wcLinkOk = true := by
  have h : ((benchGrid 2).put Obj.wcGridVoltage (0 : Nat)).oF Obj.wcGridVoltage = 0 := by decide +kernel
  have h2 : 0 ≤ ((benchGrid 2).put Obj.wcGridVoltage (0 : Nat)).oF
      (Obj.vdcMean (((benchGrid 2).put Obj.wcGridVoltage (0 : Nat)).tracLinkOf (((benchGrid 2).put Obj.wcGridVoltage (0 : Nat)).cN Obj.wcMachine))) := by
    decide +kernel
  unfold State.wcLinkOk
  rw [h]
  simpa using h2
theorem wit_WindingConnectionSequence_4 :
    (benchGrid 2).wcOn = true ∧ (benchGrid 2).oN Obj.wcTopology = 1 ∧ (benchGrid 2).oN Obj.wcState = 2 ∧
    ((benchGrid 2).put Obj.wcGridVoltage (0 : Nat)).wcInWindow 0 = true ∧
    ((benchGrid 2).put Obj.wcGridVoltage (0 : Nat)).wcLocked = true ∧ ((benchGrid 2).put Obj.wcGridVoltage (0 : Nat)).wcLinkOk = true :=
  ⟨by decide +kernel, by decide +kernel, by decide +kernel, by decide +kernel, by decide +kernel, benchGrid_link⟩
theorem wit_WindingConnectionSequence_17 :
    (benchGrid 6).wcOn = true ∧ (benchGrid 6).oN Obj.wcTopology = 1 ∧ (benchGrid 6).oN Obj.wcState = 6 ∧ (benchGrid 6).wc.latched = false ∧
    (benchGrid 6).wcInWindow 0 = true := by decide +kernel

/-- Every clause of ChargePhasesEnd has a case. -/
theorem wit_ChargePhasesEnd :
    (let s : State := bench 5 [(Obj.cpPhase 1, 1)] [(Obj.cpTrickleVoltage 1, 0x41200000), (Obj.cpPrechargeVoltage 1, 0x41A00000)]; let c : Fin 2 := 1; let v : BitVec 32 := 0; (s.engOn = true) ∧ (s.station = false) ∧ (s.oN (Obj.cpPhase c.val) = 1) ∧ (F32.toRat v.toNat < s.cF (Obj.cpTrickleVoltage c.val))) ∧
    (let s : State := bench 5 [(Obj.cpPhase 1, 1)] [(Obj.cpTrickleVoltage 1, 0x41200000), (Obj.cpPrechargeVoltage 1, 0x41A00000)]; let c : Fin 2 := 1; let v : BitVec 32 := 0x41700000; (s.engOn = true) ∧ (s.station = false) ∧ (s.oN (Obj.cpPhase c.val) = 1) ∧ (s.cF (Obj.cpTrickleVoltage c.val) ≤ F32.toRat v.toNat) ∧ (F32.toRat v.toNat < s.cF (Obj.cpPrechargeVoltage c.val))) ∧
    (let s : State := bench 5 [(Obj.cpPhase 1, 1)] [(Obj.cpTrickleVoltage 1, 0), (Obj.cpPrechargeVoltage 1, 0), (Obj.cpCvVoltage 1, 0x43C80000), (Obj.cpRechargeDrop 1, 0)]; let c : Fin 2 := 1; let v : BitVec 32 := 0x41700000; (s.engOn = true) ∧ (s.station = false) ∧ (s.oN (Obj.cpPhase c.val) = 1) ∧ (s.cF (Obj.cpTrickleVoltage c.val) ≤ F32.toRat v.toNat) ∧ (s.cF (Obj.cpPrechargeVoltage c.val) ≤ F32.toRat v.toNat) ∧ (F32.toRat v.toNat < s.cpCvEff c.val - s.cF (Obj.cpRechargeDrop c.val))) ∧
    (let s : State := bench 5 [(Obj.cpPhase 1, 1)] [(Obj.cpTrickleVoltage 1, 0), (Obj.cpPrechargeVoltage 1, 0), (Obj.cpCvVoltage 1, 0x41200000), (Obj.cpRechargeDrop 1, 0)]; let c : Fin 2 := 1; let v : BitVec 32 := 0x7F000000; (s.engOn = true) ∧ (s.station = false) ∧ (s.oN (Obj.cpPhase c.val) = 1) ∧ (s.cF (Obj.cpTrickleVoltage c.val) ≤ F32.toRat v.toNat) ∧ (s.cF (Obj.cpPrechargeVoltage c.val) ≤ F32.toRat v.toNat) ∧ (s.cpCvEff c.val - s.cF (Obj.cpRechargeDrop c.val) ≤ F32.toRat v.toNat)) ∧
    (let s : State := bench 5 [] []; let c : Fin 2 := 1; let v : BitVec 32 := 0; (s.oN (Obj.cpPhase c.val) ≠ 1)) ∧
    (let s : State := bench 5 [(Obj.cpPhase 1, 5)] [(Obj.cpTermCurrent 1, 0x40A00000)]; let c : Fin 2 := 1; (s.engOn = true) ∧ (s.station = false) ∧ (s.oN (Obj.cpPhase c.val) = 5) ∧ (|s.oF (Obj.cpBatteryCurrent c.val)| ≤ s.cF (Obj.cpTermCurrent c.val))) ∧
    (let s : State := bench 5 [] []; let c : Fin 2 := 1; (s.oN (Obj.cpPhase c.val) ≠ 5 ∨ s.cF (Obj.cpTermCurrent c.val) < |s.oF (Obj.cpBatteryCurrent c.val)|)) ∧
    (let s : State := { bench 5 [(Obj.cpPhase 1, 4)] [(Obj.cpTimerCc 1, 1)] with cp := List.replicate 2 { counts := List.replicate 4 (0, 60000000000) } }; let c : Fin 2 := 1; (s.engOn = true) ∧ (s.station = false) ∧ (s.cpExpired c.val = true)) ∧
    (let s : State := bench 5 [] []; let c : Fin 2 := 1; (s.cpExpired c.val = false)) ∧
    (let s : State := { bench 5 [(Obj.cpPhase 0, 4)] [] with cp := List.replicate 2 { limitSub := true } }; (s.engOn = true) ∧ (s.station = false) ∧ ((s.cpx 0).limitSub = true) ∧ (1 ≤ s.oN (Obj.cpPhase 0) ∧ s.oN (Obj.cpPhase 0) ≤ 7)) ∧
    (let s : State := bench 5 [(Obj.cpPhase 0, 4)] []; ((s.cpx 0).limitSub = false)) ∧
    (let s : State := bench 5 [] [(Obj.cpEnable 1, 0)]; let c : Fin 2 := 1; (s.engOn = true) ∧ (s.station = false) ∧ (s.cN (Obj.cpEnable c.val) = 0)) ∧
    (let s : State := bench 5 [] [(Obj.cpEnable 0, 1)]; let c : Fin 2 := 0; (s.engOn = true) ∧ (s.station = false) ∧ (s.cN (Obj.cpEnable c.val) = 1) ∧ (c = 0)) ∧
    (let s : State := bench 5 [] [(Obj.cpEnable 1, 1)]; let c : Fin 2 := 1; (s.engOn = true) ∧ (s.station = false) ∧ (s.cN (Obj.cpEnable c.val) = 1) ∧ (c ≠ 0)) :=
  by
  refine ⟨?_, ?_, ?_, ?_, ?_, ?_, ?_, ?_, ?_, ?_, ?_, ?_, ?_, ?_⟩ <;> decide +kernel

/-! ## The low-voltage converter (chapter 13) -/

/-- Every clause of ConverterStatesAndStops has a case. -/
theorem wit_ConverterStatesAndStops :
    (let s : State := bench 2 [(Obj.vdcMean 0, 0x43C80000)] [(Obj.lvPhaseMap, 3), (Obj.lvHvInput, 0), (Obj.lvHvMin, 0x43480000)]; let role : Role := .operator; (s.MayWrite role 2 Obj.lvRunRequest) ∧ (s.station = false) ∧ (s.lvOn = true) ∧ (s.oN Obj.lvState = 0 ∨ s.oN Obj.lvState = 6) ∧ (s.cF Obj.lvHvMin ≤ s.oF (Obj.vdcMean (s.cN Obj.lvHvInput))) ∧ (s.lvIsoGroups = [])) ∧
    (let s : State := bench 2 [] [(Obj.lvPhaseMap, 3), (Obj.lvHvMin, 0x43480000)]; let role : Role := .operator; (s.MayWrite role 2 Obj.lvRunRequest) ∧ (s.station = false) ∧ (s.oF (Obj.vdcMean (s.cN Obj.lvHvInput)) < s.cF Obj.lvHvMin ∨ (s.oN Obj.lvState ≠ 0 ∧ s.oN Obj.lvState ≠ 6))) ∧
    (let s : State := benchStation 2 [] []; let role : Role := .operator; (s.MayWrite role 2 Obj.lvRunRequest) ∧ (s.station = true)) ∧
    (let s : State := bench 2 [(Obj.lvState, 6)] []; let role : Role := .operator; (s.MayWrite role 2 Obj.lvRunRequest) ∧ (s.station = false) ∧ (s.oN Obj.lvState = 6)) ∧
    (let s : State := bench 2 [(Obj.lvState, 3)] []; let role : Role := .operator; (s.MayWrite role 2 Obj.lvRunRequest) ∧ (s.station = false) ∧ (1 ≤ s.oN Obj.lvState ∧ s.oN Obj.lvState ≤ 5)) ∧
    (let s : State := bench 2 [(Obj.lvState, 1)] [(Obj.lvPhaseMap, 3)]; let v : BitVec 32 := 0x41200000; let u : State := ((s.put Obj.lvState 2).lvMod (fun x => { x with base := v.toNat, baseTick := s.tick, target := v.toNat, hold := false })).lvIsoShadow; let w : State := u.forAll u.lvBuckGroups (fun g t => if t.mayStart g then (t.put (Obj.groupRunRequest g) 1).startGroup g 0 t.feNow else t); (s.lvOn = true) ∧ (s.oN Obj.lvState = 1) ∧ (u = ((s.put Obj.lvState 2).lvMod (fun x => { x with base := v.toNat, baseTick := s.tick, target := v.toNat, hold := false })).lvIsoShadow) ∧ (w = u.forAll u.lvBuckGroups (fun g t => if t.mayStart g then (t.put (Obj.groupRunRequest g) 1).startGroup g 0 t.feNow else t))) ∧
    (let s : State := bench 2 [] []; let v : BitVec 32 := 0; (s.oN Obj.lvState ≠ 1)) ∧
    (let s : State := bench 2 [(Obj.lvState, 3), (Obj.vdcMean 0, 0x43C80000)] [(Obj.lvPhaseMap, 3), (Obj.lvHvInput, 0), (Obj.lvIsoRatio, 0x41200000), (Obj.lvIsoTolerance, 0x41200000)]; (s.lvOn = true) ∧ (2 ≤ s.oN Obj.lvState ∧ s.oN Obj.lvState ≤ 5) ∧ (s.isoOff = true)) ∧
    (let s : State := bench 2 [(Obj.lvState, 1)] [(Obj.lvPhaseMap, 3)]; (s.isoOff = false ∨ s.oN Obj.lvState < 2)) ∧
    (let s : State := bench 2 [(Obj.lvState, 3), (Obj.voutValue 0, 0x41800000)] [(Obj.lvPhaseMap, 3), (Obj.lvOutSense, 0)]; (s.lvOn = true) ∧ (2 ≤ s.oN Obj.lvState ∧ s.oN Obj.lvState ≤ 5) ∧ (s.lvRef * (1 + 10 / 100) < F32.toRat s.lvOut)) ∧
    (let s : State := bench 2 [] []; (F32.toRat s.lvOut ≤ s.lvRef * (1 + 10 / 100))) ∧
    (let s : State := bench 2 [(Obj.lvState, 3)] [(Obj.lvPhaseMap, 3)]; (1 ≤ s.oN Obj.lvState ∧ s.oN Obj.lvState ≤ 5)) ∧
    (let s : State := bench 2 [(Obj.lvState, 1), (Obj.lvRunRequest, 1)] [(Obj.lvPhaseMap, 3)]; (s.lvOn = true) ∧ (s.oN Obj.lvRunRequest = 1) ∧ (s.oN Obj.lvState ≤ 2)) ∧
    (let s : State := bench 2 [(Obj.lvState, 3), (Obj.lvRunRequest, 1)] [(Obj.lvPhaseMap, 3)]; (s.oN Obj.lvRunRequest = 0 ∨ 2 < s.oN Obj.lvState)) ∧
    (let s : State := bench 2 [(Obj.lvState, 3), (Obj.lvFoldbackFactor, 0x3F000000)] [(Obj.lvPhaseMap, 3)]; (s.lvOn = true) ∧ (2 ≤ s.oN Obj.lvState ∧ s.oN Obj.lvState ≤ 5) ∧ (s.oF Obj.lvFoldbackFactor < 1)) ∧
    (let s : State := bench 2 [(Obj.lvState, 3), (Obj.lvFoldbackFactor, 0x3F800000)] [(Obj.lvPhaseMap, 3)]; (1 ≤ s.oF Obj.lvFoldbackFactor)) ∧
    (let s : State := { bench 2 [(Obj.lvState, 3), (Obj.voutValue 0, 0x41800000)] [(Obj.lvPhaseMap, 3), (Obj.lvOutSense, 0)] with lv := { burst := true } }; (s.lvOn = true) ∧ (s.oN Obj.lvState = 3) ∧ (s.lv.burst = true) ∧ (s.lvPhases.length ≤ 4) ∧ (s.lvRef * (1 + s.cF Obj.lvBurstBand / 100) ≤ s.lvCmp (F32.toRat s.lvInt) (F32.toRat s.lvOut))) ∧
    (let s : State := bench 2 [(Obj.lvState, 3)] [(Obj.lvPhaseMap, 3)]; (s.oN Obj.lvState ≠ 3 ∨ s.lv.burst = false ∨ s.lvCmp (F32.toRat s.lvInt) (F32.toRat s.lvOut) < s.lvRef * (1 + s.cF Obj.lvBurstBand / 100))) ∧
    (let s : State := { bench 2 [(Obj.lvState, 4)] [(Obj.lvPhaseMap, 3)] with lv := { base := 0x41400000, target := 0x41400000 } }; (s.lvOn = true) ∧ (s.oN Obj.lvState = 4) ∧ (F32.toRat s.lvOut ≤ s.lvRef)) ∧
    (let s : State := bench 2 [(Obj.lvState, 3)] [(Obj.lvPhaseMap, 3)]; (s.oN Obj.lvState ≠ 4 ∨ s.lvRef < F32.toRat s.lvOut)) ∧
    (let s : State := bench 2 [(Obj.lvState, 3), (Obj.lvActivePhases, 7)] [(Obj.lvPhaseMap, 31), (Obj.lvShedCurrent, 0x41200000), (Obj.lvShedHysteresis, 0)]; let n : Nat := 2; (s.lvOn = true) ∧ (s.oN Obj.lvState = 3) ∧ (s.lvActive.getLast? = some n) ∧ (4 < s.lvPhases.length) ∧ (2 < s.lvActive.length) ∧ (s.oF (Obj.lvMean 3) < ((s.lvActive.length - 1 : Nat) : Rat) * s.cF Obj.lvShedCurrent * (1 - s.cF Obj.lvShedHysteresis / 100))) ∧
    (let s : State := bench 2 [(Obj.lvState, 3), (Obj.lvActivePhases, 3)] [(Obj.lvPhaseMap, 31)]; (s.lvActive.length ≤ 2 ∨ ((s.lvActive.length - 1 : Nat) : Rat) * s.cF Obj.lvShedCurrent * (1 - s.cF Obj.lvShedHysteresis / 100) ≤ s.oF (Obj.lvMean 3))) ∧
    (let s : State := bench 2 [(Obj.lvState, 3), (Obj.voutValue 0, 0x41800000)] [(Obj.lvPhaseMap, 3), (Obj.lvOutSense, 0)]; (s.lvOn = true) ∧ (2 ≤ s.oN Obj.lvState ∧ s.oN Obj.lvState ≤ 4) ∧ (s.lvRef * (1 + s.cF Obj.lvReleaseLevel / 100) < F32.toRat s.lvOut)) ∧
    (let s : State := bench 2 [] []; (F32.toRat s.lvOut ≤ s.lvRef * (1 + s.cF Obj.lvReleaseLevel / 100))) ∧
    (let s : State := { bench 2 [(Obj.lvState, 5)] [(Obj.lvPhaseMap, 3)] with lv := { base := 0x41400000, target := 0x41400000 } }; (s.lvOn = true) ∧ (s.oN Obj.lvState = 5) ∧ (F32.toRat s.lvOut < s.lvRef * 101 / 100)) ∧
    (let s : State := bench 2 [(Obj.lvState, 3)] [(Obj.lvPhaseMap, 3)]; (s.oN Obj.lvState ≠ 5 ∨ s.lvRef * 101 / 100 ≤ F32.toRat s.lvOut)) ∧
    (let s : State := bench 2 [(Obj.lvState, 3), (Obj.lvAuxState, 1)] [(Obj.lvPhaseMap, 3), (Obj.lvRemovalMinCurrent, 0x3F800000), (Obj.lvRemovalRate, 0x3F800000), (Obj.lvRemovalFraction, 0x41A00000)]; let r : BitVec 32 := 0x40000000; let l : BitVec 32 := 0x40000000; let m : BitVec 32 := 0x41200000; let a : BitVec 32 := 0; (s.lvOn = true) ∧ (2 ≤ s.oN Obj.lvState ∧ s.oN Obj.lvState ≤ 5) ∧ (s.oN Obj.lvAuxState = 1) ∧ (s.auxGone (F32.toRat r.toNat) (F32.toRat l.toNat) (F32.toRat m.toNat) (F32.toRat a.toNat) = true)) ∧
    (let s : State := bench 2 [] []; let r : BitVec 32 := 0; let l : BitVec 32 := 0; let m : BitVec 32 := 0; let a : BitVec 32 := 0; (s.auxGone (F32.toRat r.toNat) (F32.toRat l.toNat) (F32.toRat m.toNat) (F32.toRat a.toNat) = false ∨ s.oN Obj.lvAuxState ≠ 1)) ∧
    (let s : State := bench 2 [(Obj.lvState, 3)] [(Obj.lvPhaseMap, 3)]; let role : Role := .operator; (s.MayWrite role 2 Obj.lvAuxRearm) ∧ (s.station = false)) :=
  by
  refine ⟨?_, ?_, ?_, ?_, ?_, ?_, ?_, ?_, ?_, ?_, ?_, ?_, ?_, ?_, ?_, ?_, ?_, ?_, ?_, ?_, ?_, ?_, ?_, ?_, ?_, ?_, ?_, ?_, ?_⟩ <;> decide +kernel

/-- Every clause of ConverterLoopsAndLamps has a case. -/
theorem wit_ConverterLoopsAndLamps :
    (let s : State := bench 2 [(Obj.lvState, 4)] [(Obj.lvPhaseMap, 3)]; let vo : BitVec 32 := 0; let vi : BitVec 32 := 0; let am : BitVec 32 := 0; (s.lvOn = false ∨ (s.oN Obj.lvState ≠ 2 ∧ s.oN Obj.lvState ≠ 3))) ∧
    (let s : State := bench 2 [(Obj.lvState, 3)] [(Obj.lvPhaseMap, 3)]; let vo : BitVec 32 := 0; let vi : BitVec 32 := 0; let am : BitVec 32 := 0; (s.lvOn = true) ∧ (s.oN Obj.lvState = 2 ∨ s.oN Obj.lvState = 3) ∧ (∀ n < 16, (s.lvPhase n).leaving = false) ∧ (s.lvNext = none)) ∧
    (let s : State := bench 2 [(Obj.lvState, 3), (Obj.lvActivePhases, 1)] [(Obj.lvPhaseMap, 1)]; let vo : BitVec 32 := 0x42C80000; let vi : BitVec 32 := 0; let am : BitVec 32 := 0; let n : Nat := 0; (s.lvOn = true) ∧ (s.oN Obj.lvState = 2 ∨ s.oN Obj.lvState = 3) ∧ (∀ n < 16, (s.lvPhase n).leaving = false) ∧ (s.lvNext = some n) ∧ (s.lvRef + F32.toRat s.lv.corr < s.lvCmp (F32.toRat vi.toNat) (F32.toRat vo.toNat))) ∧
    (let s : State := { bench 2 [(Obj.lvState, 3), (Obj.lvActivePhases, 1)] [(Obj.lvPhaseMap, 1), (Obj.lvValleyLimit, 0x42C80000), (Obj.lvCurrentLimit, 0x42C80000)] with lv := { base := 0x41400000, target := 0x41400000, waiting := true } }; let vo : BitVec 32 := 0x41200000; let vi : BitVec 32 := 0x42400000; let am : BitVec 32 := 0; let n : Nat := 0; let u : State := s.putF Obj.lvFoldbackFactor (foldback (F32.toRat vo.toNat) s.lvRef); (s.lvOn = true) ∧ (s.oN Obj.lvState = 2 ∨ s.oN Obj.lvState = 3) ∧ (∀ n < 16, (s.lvPhase n).leaving = false) ∧ (s.lvNext = some n) ∧ (s.lvCmp (F32.toRat vi.toNat) (F32.toRat vo.toNat) ≤ s.lvRef + F32.toRat s.lv.corr) ∧ (u = s.putF Obj.lvFoldbackFactor (foldback (F32.toRat vo.toNat) s.lvRef)) ∧ (F32.toRat am.toNat ≤ u.lvValley (foldback (F32.toRat vo.toNat) s.lvRef) (u.lvRipple (F32.toRat vi.toNat) (F32.toRat vo.toNat) (u.lvOnTime n))) ∧ (s.lv.waiting = true)) ∧
    (let s : State := { bench 2 [(Obj.lvState, 3), (Obj.lvActivePhases, 1)] [(Obj.lvPhaseMap, 1), (Obj.lvValleyLimit, 0x42C80000), (Obj.lvCurrentLimit, 0x42C80000)] with lv := { base := 0x41400000, target := 0x41400000 } }; let vo : BitVec 32 := 0x41200000; let vi : BitVec 32 := 0x42400000; let am : BitVec 32 := 0; let n : Nat := 0; let u : State := s.putF Obj.lvFoldbackFactor (foldback (F32.toRat vo.toNat) s.lvRef); (s.lvOn = true) ∧ (s.oN Obj.lvState = 2 ∨ s.oN Obj.lvState = 3) ∧ (∀ n < 16, (s.lvPhase n).leaving = false) ∧ (s.lvNext = some n) ∧ (s.lvCmp (F32.toRat vi.toNat) (F32.toRat vo.toNat) ≤ s.lvRef + F32.toRat s.lv.corr) ∧ (u = s.putF Obj.lvFoldbackFactor (foldback (F32.toRat vo.toNat) s.lvRef)) ∧ (F32.toRat am.toNat ≤ u.lvValley (foldback (F32.toRat vo.toNat) s.lvRef) (u.lvRipple (F32.toRat vi.toNat) (F32.toRat vo.toNat) (u.lvOnTime n))) ∧ (s.lv.waiting = false)) ∧
    (let s : State := { bench 2 [(Obj.lvState, 3), (Obj.lvActivePhases, 1)] [(Obj.lvPhaseMap, 1), (Obj.lvValleyLimit, 0x42C80000), (Obj.lvCurrentLimit, 0x42C80000)] with lv := { base := 0x41400000, target := 0x41400000 } }; let vo : BitVec 32 := 0x41200000; let vi : BitVec 32 := 0x42400000; let am : BitVec 32 := 0x44C80000; let n : Nat := 0; let u : State := s.putF Obj.lvFoldbackFactor (foldback (F32.toRat vo.toNat) s.lvRef); (s.lvOn = true) ∧ (s.oN Obj.lvState = 2 ∨ s.oN Obj.lvState = 3) ∧ (∀ n < 16, (s.lvPhase n).leaving = false) ∧ (s.lvNext = some n) ∧ (s.lvCmp (F32.toRat vi.toNat) (F32.toRat vo.toNat) ≤ s.lvRef + F32.toRat s.lv.corr) ∧ (u = s.putF Obj.lvFoldbackFactor (foldback (F32.toRat vo.toNat) s.lvRef)) ∧ (u.lvValley (foldback (F32.toRat vo.toNat) s.lvRef) (u.lvRipple (F32.toRat vi.toNat) (F32.toRat vo.toNat) (u.lvOnTime n)) < F32.toRat am.toNat) ∧ (s.lv.waiting = false) ∧ ((s.lvPhase n).limited + 1 < s.cN Obj.lvHiccupCycles) ∧ (s.lv.phases.length = 16 ∧ n < 16)) ∧
    (let s : State := bench 2 [(Obj.lvState, 3), (Obj.lvHiccupPhases, 0x8000)] [(Obj.lvPhaseMap, 0x8001)]; let n : Fin 16 := 15; (s.lvOn = true) ∧ ((s.oN Obj.lvHiccupPhases).testBit n.val = true) ∧ ((s.lvPhase n.val).removed = false) ∧ (2 ≤ s.oN Obj.lvState ∧ s.oN Obj.lvState ≠ 6)) ∧
    (let s : State := bench 2 [(Obj.lvState, 3)] [(Obj.lvPhaseMap, 3)]; let n : Fin 16 := 15; ((s.oN Obj.lvHiccupPhases).testBit n.val = false ∨ (s.lvPhase n.val).removed = true ∨ s.oN Obj.lvState < 2 ∨ s.oN Obj.lvState = 6)) ∧
    (let s : State := bench 2 [] [(Obj.lvTempInput, 255)]; let v : BitVec 32 := 0x41400000; let a : BitVec 32 := 0x41200000; (s.engOn = true) ∧ (s.station = false) ∧ (s.lvOn = false) ∧ (16 ≤ s.cN Obj.lvTempInput)) ∧
    (let s : State := bench 2 [] []; let q : Nat := 3; let w : Nat := 5; (q < 4)) ∧
    (let s : State := benchStation 2 [] []; let v : BitVec 32 := 0x41400000; let a : BitVec 32 := 0x41200000; (s.station = true)) ∧
    (let s : State := { bench 2 [(Obj.lvState, 3), (Obj.cpPhase 1, 6)] [(Obj.lvPhaseMap, 3)] with cp := List.replicate 2 { session := true } }; (s.lvOn = true) ∧ ((s.cpx 1).session = true) ∧ (s.oN (Obj.cpPhase 1) = 6)) ∧
    (let s : State := { bench 2 [(Obj.lvState, 3), (Obj.cpPhase 1, 4)] [(Obj.lvPhaseMap, 3)] with cp := List.replicate 2 { session := true } }; (s.lvOn = true) ∧ ((s.cpx 1).session = true) ∧ (s.oN (Obj.cpPhase 1) ≠ 6)) ∧
    (let s : State := bench 2 [] []; ((s.cpx 1).session = false)) ∧
    (let s : State := bench 2 [] []; let ms : Fin 1000 := 999; (s.up = true) ∧ (s.mode ≠ 11) ∧ (s.lamps.length = 4)) ∧
    (let s : State := bench 11 [] []; let ms : Fin 1000 := 0; (s.mode = 11)) :=
  by
  refine ⟨?_, ?_, ?_, ?_, ?_, ?_, ?_, ?_, ?_, ?_, ?_, ?_, ?_, ?_, ?_, ?_⟩ <;> decide +kernel

/-! ## Gearbox actuators (chapter 13) -/

/-- Every clause of ActuatorRequestsRunTheirSequence has a case. -/
theorem wit_ActuatorRequestsRunTheirSequence :
    (let s : State := bench 2 [] []; let a : Fin 4 := 3; let v : Byte := 8; let role : Role := .operator; (s.MayWrite role 2 (Obj.gaRequest a.val)) ∧ (s.station = false) ∧ (s.gaCode a.val v.toNat ≠ 1)) ∧
    (let s : State := bench 2 [(Obj.gaState 3, 1)] [(Obj.gaEnable 3, 1), (Obj.gaKind 3, 1)]; let a : Fin 4 := 3; let v : Byte := 1; let role : Role := .operator; let u : State := ((s.put (Obj.gaRequestResult a.val) (1 : Nat)).put (Obj.gaRequest a.val) v.toNat).gaMod a.val (fun x => { x with goal := v.toNat, since := s.mono, neutral := false }); (s.MayWrite role 2 (Obj.gaRequest a.val)) ∧ (s.station = false) ∧ (s.gaCode a.val v.toNat = 1) ∧ (s.cN (Obj.gaKind a.val) = 1) ∧ (u = ((s.put (Obj.gaRequestResult a.val) (1 : Nat)).put (Obj.gaRequest a.val) v.toNat).gaMod a.val (fun x => { x with goal := v.toNat, since := s.mono, neutral := false }))) ∧
    (let s : State := bench 2 [(Obj.gaState 3, 1)] [(Obj.gaEnable 3, 1), (Obj.gaKind 3, 0)]; let a : Fin 4 := 3; let v : Byte := 1; let role : Role := .operator; let u : State := ((s.put (Obj.gaRequestResult a.val) (1 : Nat)).put (Obj.gaRequest a.val) v.toNat).gaMod a.val (fun x => { x with goal := v.toNat, since := s.mono, neutral := false }); (s.MayWrite role 2 (Obj.gaRequest a.val)) ∧ (s.station = false) ∧ (s.gaCode a.val v.toNat = 1) ∧ (s.cN (Obj.gaKind a.val) ≠ 1) ∧ (s.mode ≠ 10) ∧ (u = ((s.put (Obj.gaRequestResult a.val) (1 : Nat)).put (Obj.gaRequest a.val) v.toNat).gaMod a.val (fun x => { x with goal := v.toNat, since := s.mono, neutral := false }))) ∧
    (let s : State := bench 10 [(Obj.gaState 3, 1)] [(Obj.gaEnable 3, 1), (Obj.gaKind 3, 0)]; let a : Fin 4 := 3; let v : Byte := 1; let role : Role := .operator; let u : State := ((s.put (Obj.gaRequestResult a.val) (1 : Nat)).put (Obj.gaRequest a.val) v.toNat).gaMod a.val (fun x => { x with goal := v.toNat, since := s.mono, neutral := false }); (s.MayWrite role 2 (Obj.gaRequest a.val)) ∧ (s.station = false) ∧ (s.gaCode a.val v.toNat = 1) ∧ (s.cN (Obj.gaKind a.val) ≠ 1) ∧ (s.mode = 10) ∧ (u = ((s.put (Obj.gaRequestResult a.val) (1 : Nat)).put (Obj.gaRequest a.val) v.toNat).gaMod a.val (fun x => { x with goal := v.toNat, since := s.mono, neutral := false }))) ∧
    (let s : State := bench 2 [] []; let a : Nat := 3; let i : Nat := 1; let st : Nat := 5; (a < 4) ∧ (s.ga.length = 4)) ∧
    (let s : State := bench 2 [(Obj.gaState 3, 4)] [(Obj.gaEnable 3, 1)]; let a : Fin 4 := 3; (s.gaOn a.val = true) ∧ (s.oN (Obj.gaState a.val) = 4) ∧ (s.gaReleased a.val = true)) ∧
    (let s : State := bench 2 [(Obj.gaState 3, 3)] [(Obj.gaEnable 3, 1)]; let a : Fin 4 := 3; (s.oN (Obj.gaState a.val) ≠ 4 ∨ s.gaReleased a.val = false)) ∧
    (let s : State := bench 2 [(Obj.gaState 3, 4)] [(Obj.gaEnable 3, 1)]; let a : Fin 4 := 3; (s.gaOn a.val = true) ∧ (s.oN (Obj.gaState a.val) = 4)) ∧
    (let s : State := bench 2 [(Obj.gaState 3, 3)] [(Obj.gaEnable 3, 1)]; let a : Fin 4 := 3; (s.oN (Obj.gaState a.val) ≠ 4)) ∧
    (let s : State := bench 2 [(Obj.gaState 3, 6)] [(Obj.gaEnable 3, 1)]; let a : Fin 4 := 3; let role : Role := .operator; (s.MayWrite role 2 (Obj.gaSyncPermit a.val)) ∧ (s.station = false) ∧ (s.gaOn a.val = true) ∧ (s.oN (Obj.gaState a.val) = 6)) ∧
    (let s : State := bench 2 [] []; let a : Fin 4 := 3; let role : Role := .operator; (s.MayWrite role 2 (Obj.gaSyncPermit a.val)) ∧ (s.station = false) ∧ (s.gaOn a.val = false ∨ s.oN (Obj.gaState a.val) ≠ 6)) ∧
    (let s : State := bench 2 [(Obj.gaState 3, 6)] [(Obj.gaEnable 3, 1)]; let a : Fin 4 := 3; (s.gaOn a.val = true) ∧ (s.oN (Obj.gaState a.val) = 6)) ∧
    (let s : State := bench 2 [(Obj.gaState 3, 3)] [(Obj.gaEnable 3, 1)]; let a : Fin 4 := 3; (s.oN (Obj.gaState a.val) ≠ 6)) ∧
    (let s : State := bench 2 [(Obj.gaState 3, 4)] [(Obj.gaEnable 3, 1)]; let a : Nat := 3; (a < 4)) ∧
    (let s : State := bench 2 [(Obj.gaState 3, 5)] [(Obj.gaEnable 3, 1), (Obj.gaHomeIndex 3, 7), (Obj.gaStopMap 3, 0)]; let a : Fin 4 := 3; (s.gaOn a.val = true) ∧ (s.oN (Obj.gaState a.val) = 5 ∨ s.oN (Obj.gaState a.val) = 7) ∧ (s.gaStop a.val (s.gaX a.val).step = false) ∧ (|s.gaPos a.val - F32.toRat (s.gaValue a.val (s.gaX a.val).step)| ≤ s.cF (Obj.gaArriveTolerance a.val))) ∧
    (let s : State := bench 2 [] []; let a : Fin 4 := 3; (s.gaOn a.val = false ∨ s.cF (Obj.gaArriveTolerance a.val) < |s.gaPos a.val - F32.toRat (s.gaValue a.val (s.gaX a.val).step)|)) ∧
    (let s : State := bench 2 [(Obj.gaState 3, 5)] []; let a : Nat := 3; (a < 4) ∧ ((s.gaX a).neutral = false)) ∧
    (let s : State := bench 2 [(Obj.gaState 3, 7)] [(Obj.gaEnable 3, 1)]; let a : Fin 4 := 3; (s.gaOn a.val = true) ∧ (s.oN (Obj.gaState a.val) = 2 ∨ s.oN (Obj.gaState a.val) = 5 ∨ s.oN (Obj.gaState a.val) = 7)) ∧
    (let s : State := bench 2 [(Obj.gaState 3, 3)] [(Obj.gaEnable 3, 1)]; let a : Fin 4 := 3; (s.oN (Obj.gaState a.val) ≠ 2 ∧ s.oN (Obj.gaState a.val) ≠ 5 ∧ s.oN (Obj.gaState a.val) ≠ 7)) ∧
    (let s : State := bench 2 [(Obj.gaState 3, 7)] [(Obj.gaEnable 3, 1)]; let a : Nat := 3; (a < 4)) :=
  by
  refine ⟨?_, ?_, ?_, ?_, ?_, ?_, ?_, ?_, ?_, ?_, ?_, ?_, ?_, ?_, ?_, ?_, ?_, ?_, ?_, ?_⟩ <;> decide +kernel

/-! ## The charging link: vehicle end (chapter 14) -/

/-- Every clause of VehicleEndOfTheLink has a case. -/
theorem wit_VehicleEndOfTheLink :
    (let s : State := bench 6 [(Obj.lkState, 0)] [(Obj.lkEnable, 1)]; let p : BitVec 3 := 7; let q : BitVec 2 := 1; (s.lkOn = true) ∧ (s.oN Obj.lkState = 0) ∧ (q ≠ 0)) ∧
    (let s : State := bench 6 [(Obj.lkState, 8)] [(Obj.lkEnable, 1)]; let a : BitVec 32 := 0; (s.lkOn = true) ∧ (1 ≤ s.oN Obj.lkState ∧ s.oN Obj.lkState ≤ 8) ∧ (|F32.toRat a.toNat| ≤ s.cF Obj.lkOpenCurrent)) ∧
    (let s : State := bench 6 [(Obj.lkState, 6)] [(Obj.lkEnable, 1)]; let a : BitVec 32 := 0x44000000; (s.lkOn = true) ∧ (1 ≤ s.oN Obj.lkState ∧ s.oN Obj.lkState ≤ 8) ∧ (s.cF Obj.lkOpenCurrent < |F32.toRat a.toNat|)) ∧
    (let s : State := bench 6 [(Obj.lkState, 9)] [(Obj.lkEnable, 1)]; let a : BitVec 32 := 0; (s.lkOn = true) ∧ (s.oN Obj.lkState = 9)) ∧
    (let s : State := bench 6 [(Obj.lkState, 6)] [(Obj.lkEnable, 1)]; let code : Nat := FC.lnkUnplug; let cause : Nat := 6; (s.lkOn = true) ∧ (1 ≤ s.oN Obj.lkState ∧ s.oN Obj.lkState ≤ 8)) ∧
    (let s : State := bench 6 [(Obj.lkState, 0)] [(Obj.lkEnable, 1)]; let p : BitVec 3 := 6; let d : BitVec 32 := 0x42480000; (s.lkOn = true) ∧ (s.oN Obj.lkState = 0 ∨ 8 < s.oN Obj.lkState) ∧ (5 ≤ p.toNat ∨ pilotLimit (F32.toRat d.toNat) = some 0)) ∧
    (let s : State := bench 6 [(Obj.lkState, 1)] [(Obj.lkEnable, 1)]; let p : BitVec 3 := 2; let d : BitVec 32 := 0x41000000; (s.lkOn = true) ∧ (1 ≤ s.oN Obj.lkState ∧ s.oN Obj.lkState ≤ 8) ∧ (5 ≤ p.toNat ∨ pilotLimit (F32.toRat d.toNat) = some 0)) ∧
    (let s : State := bench 6 [(Obj.lkState, 1)] [(Obj.lkEnable, 1)]; let p : BitVec 3 := 2; let d : BitVec 32 := 0x42480000; (p.toNat < 5) ∧ (pilotLimit (F32.toRat d.toNat) ≠ some 0)) ∧
    (let s : State := bench 6 [(Obj.lkState, 1), (Obj.lkProtocol, 1)] [(Obj.lkEnable, 1)]; let e : BitVec 3 := 1; let i : BitVec 64 := 5; let v : BitVec 32 := 0x447A0000; let a : BitVec 32 := 0x43480000; let d : BitVec 32 := 0; (s.lkOn = true) ∧ (s.oN Obj.lkState = 1) ∧ (serviceOk (s.oN Obj.lkProtocol) e.toNat = true)) ∧
    (let s : State := bench 6 [(Obj.lkState, 1), (Obj.lkProtocol, 1)] [(Obj.lkEnable, 1)]; let e : BitVec 3 := 7; let i : BitVec 64 := 5; let v : BitVec 32 := 0x447A0000; let a : BitVec 32 := 0x43480000; let d : BitVec 32 := 0; (s.lkOn = true) ∧ (s.oN Obj.lkState = 1) ∧ (serviceOk (s.oN Obj.lkProtocol) e.toNat = false)) ∧
    (let s : State := bench 6 [(Obj.lkState, 2)] [(Obj.lkEnable, 1)]; (s.lkOn = true) ∧ (s.oN Obj.lkState = 2) ∧ (s.mode = 6)) ∧
    (let s : State := bench 6 [(Obj.lkState, 3)] [(Obj.lkEnable, 1)]; (s.lkOn = true) ∧ (s.oN Obj.lkState = 3)) ∧
    (let s : State := bench 6 [(Obj.lkState, 4)] [(Obj.lkEnable, 1)]; (s.lkOn = true) ∧ (s.oN Obj.lkState = 4) ∧ (s.lkMatches = true) ∧ (s.lk.fallback = false)) ∧
    (let s : State := { bench 6 [(Obj.lkState, 4)] [(Obj.lkEnable, 1)] with lk := { fallback := true } }; (s.lkOn = true) ∧ (s.oN Obj.lkState = 4) ∧ (s.lkMatches = true) ∧ (s.lk.fallback = true)) ∧
    (let s : State := bench 6 [(Obj.lkState, 4), (Obj.vdcValue 1, 0x43C80000)] [(Obj.lkEnable, 1), (Obj.lkPrechargeOutput, 7), (Obj.lkInletVoltageInput, 0), (Obj.lkBatteryVoltageInput, 1), (Obj.lkMatchTolerance, 0x41200000)]; (s.lkMatches = false)) ∧
    (let s : State := bench 6 [(Obj.lkState, 4), (Obj.vdcValue 1, 0x43C80000)] [(Obj.lkEnable, 1), (Obj.lkPrechargeOutput, 7), (Obj.lkInletVoltageInput, 0), (Obj.lkBatteryVoltageInput, 1), (Obj.lkMatchTolerance, 0x41200000)]; (s.lkOn = true) ∧ (s.oN Obj.lkState = 4) ∧ (s.lkMatches = false) ∧ (s.cN Obj.lkPrechargeOutput < 8)) ∧
    (let s : State := bench 6 [(Obj.lkState, 4)] [(Obj.lkEnable, 1), (Obj.lkPrechargeOutput, 255)]; (s.lkMatches = true ∨ 8 ≤ s.cN Obj.lkPrechargeOutput)) ∧
    (let s : State := bench 6 [(Obj.lkState, 4), (Obj.vdcValue 1, 0x43C80000)] [(Obj.lkEnable, 1), (Obj.lkPrechargeOutput, 7), (Obj.lkInletVoltageInput, 0), (Obj.lkBatteryVoltageInput, 1), (Obj.lkMatchTolerance, 0x41200000)]; (s.oN Obj.lkState = 4) ∧ (s.lkMatches = false)) ∧
    (let s : State := bench 6 [(Obj.lkState, 4)] [(Obj.lkEnable, 1)]; (s.oN Obj.lkState ≠ 4 ∨ s.lkMatches = true)) ∧
    (let s : State := { bench 6 [(Obj.lkState, 5)] [(Obj.lkEnable, 1)] with cp := List.replicate 2 { session := true } }; (s.station = false) ∧ (s.lkOn = true) ∧ (s.oN Obj.lkState = 5) ∧ ((s.cpx 0).session = true) ∧ (s.oN Obj.wcTopology ≠ 2)) ∧
    (let s : State := bench 6 [(Obj.lkState, 5)] [(Obj.lkEnable, 1)]; (s.station = false) ∧ (s.lkOn = true) ∧ (s.oN Obj.lkState = 5)) ∧
    (let s : State := bench 6 [(Obj.lkState, 6)] [(Obj.lkEnable, 1)]; let role : Role := .operator; (s.MayWrite role 2 Obj.lkStopRequest) ∧ (s.station = false) ∧ (s.lkOn = true) ∧ (s.oN Obj.lkState = 6)) ∧
    (let s : State := bench 6 [(Obj.lkState, 5)] [(Obj.lkEnable, 1)]; let role : Role := .operator; (s.MayWrite role 2 Obj.lkStopRequest) ∧ (s.station = false) ∧ (s.oN Obj.lkState ≠ 6)) ∧
    (let s : State := bench 6 [(Obj.lkState, 6)] [(Obj.lkEnable, 1)]; (s.lkOn = true) ∧ (s.oN Obj.lkState = 6)) ∧
    (let s : State := bench 6 [(Obj.lkState, 5)] [(Obj.lkEnable, 1)]; (s.oN Obj.lkState ≠ 6)) ∧
    (let s : State := bench 6 [(Obj.lkState, 7)] [(Obj.lkEnable, 1), (Obj.lkInletCurrentInput, 255)]; (s.lkOn = true) ∧ (s.oN Obj.lkState = 7) ∧ (s.inletAmps = none ∨ s.inletAmps = some 0) ∧ (0 ≤ s.cF Obj.lkOpenCurrent)) ∧
    (let s : State := bench 6 [(Obj.lkState, 7), (Obj.sdValue 1, 0x43C80000)] [(Obj.lkEnable, 1), (Obj.lkInletCurrentInput, 1)]; let a : Rat := 400; (s.inletAmps = some a) ∧ (s.cF Obj.lkOpenCurrent < |a|)) ∧
    (let s : State := bench 6 [(Obj.lkState, 8)] [(Obj.lkEnable, 1)]; let v : BitVec 32 := 0; (s.oN Obj.lkState = 8) ∧ (|F32.toRat v.toNat - s.oF (Obj.vdcValue (s.cN Obj.lkBatteryVoltageInput))| ≤ |s.oF (Obj.vdcValue (s.cN Obj.lkBatteryVoltageInput))| * 5 / 100)) ∧
    (let s : State := bench 6 [(Obj.lkState, 8)] [(Obj.lkEnable, 1)]; let v : BitVec 32 := 0x42000000; (s.oN Obj.lkState ≠ 8 ∨ |s.oF (Obj.vdcValue (s.cN Obj.lkBatteryVoltageInput))| * 5 / 100 < |F32.toRat v.toNat - s.oF (Obj.vdcValue (s.cN Obj.lkBatteryVoltageInput))|)) ∧
    (let s : State := bench 6 [(Obj.lkState, 8)] [(Obj.lkEnable, 1)]; let v : BitVec 32 := 0x42700000; (s.oN Obj.lkState = 8) ∧ (60 ≤ F32.toRat v.toNat)) ∧
    (let s : State := bench 6 [(Obj.lkState, 8)] [(Obj.lkEnable, 1)]; let v : BitVec 32 := 0; (s.oN Obj.lkState ≠ 8 ∨ F32.toRat v.toNat < 60)) ∧
    (let s : State := bench 6 [(Obj.lkState, 8), (Obj.lkPlugged, 1)] [(Obj.lkEnable, 1)]; (s.lkOn = true) ∧ (s.oN Obj.lkState = 8) ∧ (s.inletVolts < 60) ∧ (s.oN Obj.wcState ≠ 7) ∧ (((s.lkTo 9).sessionEnd 0).oN Obj.lkPlugged ≠ 0)) ∧
    (let s : State := bench 6 [(Obj.lkState, 7)] [(Obj.lkEnable, 1)]; (s.oN Obj.lkState ≠ 8 ∨ 60 ≤ s.inletVolts)) ∧
    (let s : State := bench 6 [(Obj.lkState, 6)] [(Obj.lkEnable, 1), (Obj.lkPinTempDerate, 0x42A00000), (Obj.lkPinTempLimit, 0x42C80000)]; let v : BitVec 32 := 0x42B40000; (s.lkOn = true) ∧ (s.lk.warm = false) ∧ (s.cF Obj.lkPinTempDerate < F32.toRat v.toNat) ∧ (F32.toRat v.toNat < s.cF Obj.lkPinTempLimit)) ∧
    (let s : State := bench 6 [(Obj.lkState, 6)] [(Obj.lkEnable, 1), (Obj.lkPinTempDerate, 0x42A00000), (Obj.lkPinTempLimit, 0x42C80000)]; let v : BitVec 32 := 0; (F32.toRat v.toNat ≤ s.cF Obj.lkPinTempDerate) ∧ (F32.toRat v.toNat < s.cF Obj.lkPinTempLimit)) ∧
    (let s : State := { bench 6 [(Obj.lkState, 6)] [(Obj.lkEnable, 1), (Obj.lkPinTempDerate, 0x42A00000), (Obj.lkPinTempLimit, 0x42B40000)] with lk := { warm := true } }; let v : BitVec 32 := 0x42B40000; (s.lkOn = true) ∧ (s.lk.warm = true) ∧ (s.cF Obj.lkPinTempDerate < F32.toRat v.toNat) ∧ (s.lk.hot = false) ∧ (s.cF Obj.lkPinTempLimit ≤ F32.toRat v.toNat) ∧ (s.oN Obj.lkState = 6)) ∧
    (let s : State := { bench 6 [(Obj.lkState, 5)] [(Obj.lkEnable, 1), (Obj.lkPinTempDerate, 0x42A00000), (Obj.lkPinTempLimit, 0x42B40000)] with lk := { warm := true } }; let v : BitVec 32 := 0x42B40000; (s.lkOn = true) ∧ (s.lk.warm = true) ∧ (s.cF Obj.lkPinTempDerate < F32.toRat v.toNat) ∧ (s.lk.hot = false) ∧ (s.cF Obj.lkPinTempLimit ≤ F32.toRat v.toNat) ∧ (1 ≤ s.oN Obj.lkState ∧ s.oN Obj.lkState ≤ 5)) ∧
    (let s : State := bench 6 [(Obj.lkState, 10), (Obj.lkPlugged, 1)] [(Obj.lkEnable, 1)]; (s.lkOn = true) ∧ (s.oN Obj.lkState = 10) ∧ (s.lkOpen.oN Obj.lkPlugged ≠ 0)) ∧
    (let s : State := bench 6 [(Obj.lkState, 10)] [(Obj.lkEnable, 1)]; (s.lkOn = true) ∧ (s.oN Obj.lkState = 10) ∧ (s.lkOpen.oN Obj.lkPlugged = 0)) ∧
    (let s : State := bench 6 [(Obj.lkState, 6)] [(Obj.lkEnable, 1)]; (s.oN Obj.lkState ≠ 10)) ∧
    (let s : State := { bench 6 [(Obj.lkState, 5)] [(Obj.lkEnable, 1)] with lk := { fallback := true } }; (s.lkOn = true) ∧ (s.lk.fallback = true) ∧ (5 ≤ s.oN Obj.lkState)) ∧
    (let s : State := bench 6 [(Obj.lkState, 5)] [(Obj.lkEnable, 1)]; (s.lk.fallback = false)) ∧
    (let s : State := bench 6 [(Obj.lkState, 1)] [(Obj.lkEnable, 1)]; (s.station = false)) :=
  by
  refine ⟨?_, ?_, ?_, ?_, ?_, ?_, ?_, ?_, ?_, ?_, ?_, ?_, ?_, ?_, ?_, ?_, ?_, ?_, ?_, ?_, ?_, ?_, ?_, ?_, ?_, ?_, ?_, ?_, ?_, ?_, ?_, ?_, ?_, ?_, ?_, ?_, ?_, ?_, ?_, ?_, ?_, ?_, ?_⟩ <;> decide +kernel

/-! ## The charging link: post end and Tandem (chapter 14) -/

/-- Every clause of PostEndAndTandem has a case. -/
theorem wit_PostEndAndTandem :
    (let s : State := benchStation 7 [(Obj.lkPostState, 1), (Obj.lkPostProtocol, 1)] [(Obj.lkPostEnable, 1)]; let v : BitVec 32 := 0x43C80000; let e : BitVec 3 := 4; let i : BitVec 64 := 9; (s.postOn = true) ∧ (s.mode = 7) ∧ (s.oN Obj.lkPostState = 1) ∧ (s.md.requested = false) ∧ (1 ≤ e.toNat ∧ e.toNat ≤ 4 ∧ (s.oN Obj.lkPostProtocol = 1 ∨ e = 1)) ∧ (s.cN Obj.lkPostContactorMinus < 8 → s.cN Obj.lkPostContactorPlus < 8)) ∧
    (let s : State := { benchStation 7 [(Obj.lkPostState, 1), (Obj.lkPostProtocol, 1)] [(Obj.lkPostEnable, 1)] with md := { requested := true } }; let v : BitVec 32 := 0x43C80000; let e : BitVec 3 := 4; let i : BitVec 64 := 9; (s.postOn = true) ∧ (s.mode = 7) ∧ (s.oN Obj.lkPostState = 1) ∧ (s.md.requested = true)) ∧
    (let s : State := benchStation 8 [(Obj.lkPostState, 2)] [(Obj.lkPostEnable, 1)]; let v : BitVec 32 := 0x43C80000; let e : BitVec 3 := 4; let i : BitVec 64 := 9; (s.mode ≠ 7 ∨ s.oN Obj.lkPostState ≠ 1)) ∧
    (let s : State := benchStation 8 [(Obj.lkPostState, 2)] [(Obj.lkPostEnable, 1), (Obj.lkIsoFault, 0x42C80000)]; let k : BitVec 32 := 0; let v : BitVec 32 := 0x43C80000; (s.postOn = true) ∧ (s.oN Obj.lkPostState = 2) ∧ (F32.toRat v.toNat ≠ 0) ∧ (s.isoRho (F32.toRat k.toNat) (F32.toRat v.toNat) < s.cF Obj.lkIsoFault)) ∧
    (let s : State := benchStation 8 [(Obj.lkPostState, 2)] [(Obj.lkPostEnable, 1)]; let k : BitVec 32 := 0x461C4000; let v : BitVec 32 := 0x41A00000; (s.postOn = true) ∧ (s.oN Obj.lkPostState = 2) ∧ (F32.toRat v.toNat ≠ 0) ∧ (s.cF Obj.lkIsoFault ≤ s.isoRho (F32.toRat k.toNat) (F32.toRat v.toNat)) ∧ (s.cF Obj.lkIsoValid ≤ s.isoRho (F32.toRat k.toNat) (F32.toRat v.toNat))) ∧
    (let s : State := benchStation 8 [(Obj.lkPostState, 2)] [(Obj.lkPostEnable, 1), (Obj.lkIsoFault, 0x3F800000), (Obj.lkIsoValid, 0x461C4000)]; let k : BitVec 32 := 0x42C80000; let v : BitVec 32 := 0x42C80000; let u : State := (s.put Obj.lkIsoResistance k.toNat).raise FC.lnkIsowarn 0; (s.postOn = true) ∧ (s.oN Obj.lkPostState = 2) ∧ (F32.toRat v.toNat ≠ 0) ∧ (s.cF Obj.lkIsoFault ≤ s.isoRho (F32.toRat k.toNat) (F32.toRat v.toNat)) ∧ (s.isoRho (F32.toRat k.toNat) (F32.toRat v.toNat) < s.cF Obj.lkIsoValid) ∧ (u = (s.put Obj.lkIsoResistance k.toNat).raise FC.lnkIsowarn 0) ∧ (u.oN Obj.lkEvTargetVoltage = s.oN Obj.lkEvTargetVoltage)) ∧
    (let s : State := benchStation 8 [(Obj.lkPostState, 4), (Obj.siMode 3, 1)] [(Obj.lkPostEnable, 1), (Obj.lkIsoAlarmInput, 3)]; (s.postOn = true) ∧ (s.oN Obj.lkPostState = 4) ∧ (s.isoAlarmOn = true)) ∧
    (let s : State := benchStation 8 [(Obj.lkPostState, 3)] [(Obj.lkPostEnable, 1)]; (s.oN Obj.lkPostState ≠ 4 ∨ s.isoAlarmOn = false)) ∧
    (let s : State := benchStation 8 [(Obj.lkPostState, 3)] [(Obj.lkPostEnable, 1)]; let v : BitVec 32 := 0x43C80000; let a : BitVec 32 := 0x42C80000; (s.postOn = true) ∧ (s.oN Obj.lkPostState = 3)) ∧
    (let s : State := benchStation 8 [(Obj.lkPostState, 2)] [(Obj.lkPostEnable, 1)]; let v : BitVec 32 := 0x43C80000; let a : BitVec 32 := 0x42C80000; (s.oN Obj.lkPostState ≠ 3 ∧ s.oN Obj.lkPostState ≠ 4)) ∧
    (let s : State := benchStation 8 [(Obj.lkPostState, 4)] [(Obj.lkPostEnable, 1)]; let role : Role := .operator; (s.MayWrite role 2 Obj.lkPostStopRequest) ∧ (s.sealPin 6 = true) ∧ (s.postOn = true) ∧ (2 ≤ s.oN Obj.lkPostState ∧ s.oN Obj.lkPostState ≤ 4)) ∧
    (let s : State := bench 6 [] []; let role : Role := .operator; (s.MayWrite role 2 Obj.lkPostStopRequest) ∧ (s.station = false)) ∧
    (let s : State := benchStation 8 [(Obj.lkPostState, 5)] [(Obj.lkPostEnable, 1)]; (s.postOn = true) ∧ (s.oN Obj.lkPostState = 5) ∧ (|s.postAmps| ≤ 5)) ∧
    (let s : State := benchStation 8 [(Obj.lkPostState, 4)] [(Obj.lkPostEnable, 1)]; (s.oN Obj.lkPostState ≠ 5 ∨ 5 < |s.postAmps|)) ∧
    (let s : State := benchStation 8 [(Obj.lkPostState, 6)] [(Obj.lkPostEnable, 1)]; (s.postOn = true) ∧ (s.oN Obj.lkPostState = 6) ∧ (s.mode = 8) ∧ (s.postVolts < 60) ∧ (s.md.requested = false) ∧ (s.post.code = 0) ∧ (s.mon.leaseId = 0) ∧ (s.oN Obj.tdState = 0)) ∧
    (let s : State := benchStation 8 [(Obj.lkPostState, 5)] [(Obj.lkPostEnable, 1)]; (s.oN Obj.lkPostState ≠ 6 ∨ 60 ≤ s.postVolts)) ∧
    (let s : State := benchStation 8 [(Obj.lkPostState, 6), (Obj.vdcValue 1, 0x43C80000)] [(Obj.lkPostEnable, 1), (Obj.lkPostVoltageInput, 1)]; (s.postOn = true) ∧ (s.oN Obj.lkPostState = 6) ∧ (60 ≤ s.postVolts)) ∧
    (let s : State := benchStation 8 [(Obj.lkPostState, 6)] [(Obj.lkPostEnable, 1)]; (s.oN Obj.lkPostState ≠ 6 ∨ s.postVolts < 60)) ∧
    (let s : State := benchStation 7 [(Obj.lkPostState, 0)] [(Obj.lkPostEnable, 1)]; let q : BitVec 2 := 2; let p : BitVec 3 := 0; (s.station = true) ∧ (s.postOn = true) ∧ (s.oN Obj.lkPostState = 0) ∧ (q = 1 ∨ q = 2)) ∧
    (let s : State := benchStation 7 [(Obj.lkPostState, 1)] [(Obj.lkPostEnable, 1)]; (s.station = true) ∧ (s.postOn = true) ∧ (1 ≤ s.oN Obj.lkPostState ∧ s.oN Obj.lkPostState ≤ 4)) ∧
    (let s : State := benchStation 8 [(Obj.lkPostState, 7)] [(Obj.lkPostEnable, 1)]; let a : BitVec 32 := 0; (s.station = true) ∧ (s.postOn = true) ∧ (s.oN Obj.lkPostState = 1 ∨ s.oN Obj.lkPostState = 7)) ∧
    (let s : State := benchStation 8 [(Obj.lkPostState, 2)] [(Obj.lkPostEnable, 1)]; (s.station = true) ∧ (s.postOn = true) ∧ (s.oN Obj.lkPostState = 2)) ∧
    (let s : State := bench 6 [(Obj.lkState, 2)] [(Obj.lkEnable, 1)]; let e : BitVec 16 := 0; let c : BitVec 11 := 5; let ids : List Byte := []; (s.station = false) ∧ (s.lkOn = true) ∧ (s.oN Obj.lkState ≠ 0)) ∧
    (let s : State := bench 6 [(Obj.lkState, 2)] [(Obj.lkEnable, 1)]; let e : BitVec 16 := 0; let c : BitVec 11 := 5; let ids : List Byte := []; (s.station = false) ∧ (s.lkOn = true) ∧ (s.oN Obj.lkState ≠ 0) ∧ (s.tdPermits e.toNat = false)) ∧
    (let s : State := { bench 6 [(Obj.lkState, 2)] [(Obj.lkEnable, 1), (Obj.tdEnable, 1), (Obj.tdServiceId, 60)] with plat := { vddCoc := true, resetN := true, mainOn := true, latchLoaded := true, sealLatch := 0x80 } }; let e : BitVec 16 := 60; let c : BitVec 11 := 5; let ids : List Byte := [1, 2]; (s.station = false) ∧ (s.lkOn = true) ∧ (s.oN Obj.lkState ≠ 0) ∧ (s.tdPermits e.toNat = true) ∧ (s.oN Obj.tdState = 0)) ∧
    (let s : State := benchStation 8 [(Obj.tdState, 3)] []; (s.station = true) ∧ (1 ≤ s.oN Obj.tdState ∧ s.oN Obj.tdState ≤ 3)) ∧
    (let s : State := benchStation 8 [(Obj.tdState, 4)] []; (s.oN Obj.tdState = 0 ∨ 3 < s.oN Obj.tdState)) ∧
    (let s : State := benchStation 8 [(Obj.tdState, 5)] []; (s.station = true) ∧ (s.oN Obj.tdState = 5)) ∧
    (let s : State := benchStation 8 [(Obj.tdState, 4)] []; (s.oN Obj.tdState ≠ 5)) ∧
    (let s : State := benchStation 8 [(Obj.tdState, 5)] []; (s.station = true) ∧ (s.oN Obj.tdState = 5)) ∧
    (let s : State := benchStation 8 [(Obj.tdState, 4)] []; (s.oN Obj.tdState ≠ 5)) :=
  by
  refine ⟨?_, ?_, ?_, ?_, ?_, ?_, ?_, ?_, ?_, ?_, ?_, ?_, ?_, ?_, ?_, ?_, ?_, ?_, ?_, ?_, ?_, ?_, ?_, ?_, ?_, ?_, ?_, ?_, ?_, ?_, ?_⟩ <;> decide +kernel

/-! ## Station power (chapter 15) -/

/-- Every clause of StationPowerStates has a case. -/
theorem wit_StationPowerStates :
    (let s : State := benchStation 7 [(Obj.stState, 1)] [(Obj.stEnable, 1)]; let l : BitVec 32 := 0x44480000; let n : BitVec 32 := 0; (s.stOn = true) ∧ (s.oN Obj.stState = 1) ∧ (s.cF Obj.stPrechargeLevel / 100 * sqrt2 * F32.toRat n.toNat ≤ F32.toRat l.toNat)) ∧
    (let s : State := benchStation 7 [(Obj.stState, 2)] [(Obj.stEnable, 1)]; let l : BitVec 32 := 0; let n : BitVec 32 := 0; (s.oN Obj.stState ≠ 1 ∨ F32.toRat l.toNat < s.cF Obj.stPrechargeLevel / 100 * sqrt2 * F32.toRat n.toNat)) ∧
    (let s : State := benchStation 7 [(Obj.stState, 1)] [(Obj.stEnable, 1)]; (s.stOn = true) ∧ (s.oN Obj.stState = 1)) ∧
    (let s : State := benchStation 7 [(Obj.stState, 2)] [(Obj.stEnable, 1)]; (s.oN Obj.stState ≠ 1)) ∧
    (let s : State := benchStation 7 [(Obj.stState, 4)] [(Obj.stEnable, 1)]; (s.stOn = true) ∧ (2 ≤ s.oN Obj.stState ∧ s.oN Obj.stState ≤ 4)) ∧
    (let s : State := benchStation 7 [(Obj.stState, 2)] [(Obj.stEnable, 1)]; (s.stOn = true) ∧ (2 ≤ s.oN Obj.stState ∧ s.oN Obj.stState ≤ 4)) ∧
    (let s : State := benchStation 7 [(Obj.stState, 2), (Obj.tbLockState 3, 2)] [(Obj.stEnable, 1), (Obj.stFeTimebase, 3), (stKeys.nominal, 0), (stKeys.fmin, 0), (stKeys.fmax, 0x42C80000)]; let v : BitVec 32 := 0x44480000; let n : BitVec 32 := 0; (s.stOn = true) ∧ (s.oN Obj.stState = 2) ∧ (s.oN (Obj.tbLockState (s.cN Obj.stFeTimebase)) = 2) ∧ (s.stInWindow n.toNat = true)) ∧
    (let s : State := benchStation 7 [(Obj.stState, 3)] [(Obj.stEnable, 1)]; let v : BitVec 32 := 0; let n : BitVec 32 := 0; (s.oN Obj.stState ≠ 2 ∨ s.oN (Obj.tbLockState (s.cN Obj.stFeTimebase)) ≠ 2 ∨ s.stInWindow n.toNat = false)) ∧
    (let s : State := benchStation 8 [(Obj.stState, 3)] [(Obj.stEnable, 1)]; (s.stOn = true) ∧ (s.oN Obj.stState = 3)) ∧
    (let s : State := benchStation 8 [(Obj.stState, 2)] [(Obj.stEnable, 1)]; (s.oN Obj.stState ≠ 3)) ∧
    (let s : State := benchStation 8 [(Obj.stState, 4)] [(Obj.stEnable, 1)]; (s.stOn = true) ∧ (s.oN Obj.stState = 4)) ∧
    (let s : State := benchStation 8 [(Obj.stState, 2)] [(Obj.stEnable, 1)]; (s.oN Obj.stState ≠ 4)) ∧
    (let s : State := benchStation 7 [(Obj.stState, 4)] [(Obj.stEnable, 1), (Obj.stTripMax, 5)]; let c : BitVec 4 := 9; let u : State := s.forAll s.feGroups State.stopAtOnce; let v : State := u.forAll u.stagesOn (State.stageLeave true); let w : State := ((v.soRelease (v.cN Obj.stGridContactor)).put Obj.stState 6).put Obj.stTripCause c.toNat; (s.stOn = true) ∧ (s.oN Obj.stState = 3 ∨ s.oN Obj.stState = 4) ∧ (1 ≤ c.toNat ∧ c.toNat ≤ 9) ∧ (c = 7 → F32.toRat s.st.pRef < 0) ∧ (s.stTripsNow.length + 1 < s.cN Obj.stTripMax) ∧ (u = s.forAll s.feGroups State.stopAtOnce) ∧ (v = u.forAll s.stagesOn (State.stageLeave true)) ∧ (w = ((v.soRelease (v.cN Obj.stGridContactor)).put Obj.stState 6).put Obj.stTripCause c.toNat) ∧ (u.stagesOn = s.stagesOn) ∧ (v.cN Obj.stTripMax = s.cN Obj.stTripMax)) ∧
    (let s : State := benchStation 7 [(Obj.stState, 4)] [(Obj.stEnable, 1), (Obj.stTripMax, 1)]; let c : BitVec 4 := 9; let u : State := s.forAll s.feGroups State.stopAtOnce; let v : State := u.forAll u.stagesOn (State.stageLeave true); let w : State := ((v.soRelease (v.cN Obj.stGridContactor)).put Obj.stState 6).put Obj.stTripCause c.toNat; (s.stOn = true) ∧ (s.oN Obj.stState = 3 ∨ s.oN Obj.stState = 4) ∧ (1 ≤ c.toNat ∧ c.toNat ≤ 9) ∧ (c = 7 → F32.toRat s.st.pRef < 0) ∧ (s.cN Obj.stTripMax ≤ s.stTripsNow.length + 1) ∧ (u = s.forAll s.feGroups State.stopAtOnce) ∧ (v = u.forAll s.stagesOn (State.stageLeave true)) ∧ (w = ((v.soRelease (v.cN Obj.stGridContactor)).put Obj.stState 6).put Obj.stTripCause c.toNat) ∧ (u.stagesOn = s.stagesOn) ∧ (v.cN Obj.stTripMax = s.cN Obj.stTripMax)) ∧
    (let s : State := benchStation 7 [(Obj.stState, 6)] [(Obj.stEnable, 1), (Obj.stFeTimebase, 3), (stKeys.nominal, 0), (stKeys.fmin, 0), (stKeys.fmax, 0x42C80000)]; let n : BitVec 32 := 0; (s.stOn = true) ∧ (s.oN Obj.stState = 6) ∧ (s.st.latched = false) ∧ (s.stInWindow n.toNat = true)) ∧
    (let s : State := { benchStation 7 [(Obj.stState, 6)] [(Obj.stEnable, 1)] with st := { latched := true } }; let n : BitVec 32 := 0; (s.oN Obj.stState ≠ 6 ∨ s.st.latched = true ∨ s.stInWindow n.toNat = false)) ∧
    (let s : State := benchStation 8 [(Obj.stState, 6), (Obj.lkPostState, 4)] [(Obj.stEnable, 1), (Obj.lkPostEnable, 1)]; (s.stOn = true) ∧ (s.oN Obj.stState = 2 ∨ s.oN Obj.stState = 6) ∧ (s.postOn = true) ∧ (2 ≤ s.oN Obj.lkPostState ∧ s.oN Obj.lkPostState ≤ 4)) ∧
    (let s : State := benchStation 8 [(Obj.stState, 4)] [(Obj.stEnable, 1)]; (s.oN Obj.stState ≠ 2 ∧ s.oN Obj.stState ≠ 6)) ∧
    (let s : State := benchStation 8 [(Obj.stState, 2)] [(Obj.stEnable, 1)]; let l : BitVec 32 := 0x43C80000; let o : BitVec 32 := 0; let g : BitVec 32 := 0; let u : State := ((s.put Obj.stLinkVoltage l.toNat).put Obj.stGridPower g.toNat).putF Obj.stOutputPower ((s.put Obj.stLinkVoltage l.toNat).put Obj.stGridPower g.toNat).postPower; (s.stOn = true) ∧ (s.oN Obj.stState = 1 ∨ s.oN Obj.stState = 2 ∨ s.oN Obj.stState = 6 ∨ s.oN Obj.stState = 7) ∧ (u = ((s.put Obj.stLinkVoltage l.toNat).put Obj.stGridPower g.toNat).putF Obj.stOutputPower ((s.put Obj.stLinkVoltage l.toNat).put Obj.stGridPower g.toNat).postPower)) ∧
    (let s : State := benchStation 8 [(Obj.stState, 3)] [(Obj.stEnable, 1)]; let l : BitVec 32 := 0x43C80000; let o : BitVec 32 := 0; let g : BitVec 32 := 0; let u : State := ((s.put Obj.stLinkVoltage l.toNat).put Obj.stGridPower g.toNat).putF Obj.stOutputPower ((s.put Obj.stLinkVoltage l.toNat).put Obj.stGridPower g.toNat).postPower; (s.stOn = true) ∧ (s.oN Obj.stState = 3) ∧ (u = ((s.put Obj.stLinkVoltage l.toNat).put Obj.stGridPower g.toNat).putF Obj.stOutputPower ((s.put Obj.stLinkVoltage l.toNat).put Obj.stGridPower g.toNat).postPower)) ∧
    (let s : State := benchStation 8 [(Obj.stState, 4)] [(Obj.stEnable, 1)]; let l : BitVec 32 := 0x43C80000; let o : BitVec 32 := 0; let g : BitVec 32 := 0; let u : State := ((s.put Obj.stLinkVoltage l.toNat).put Obj.stGridPower g.toNat).putF Obj.stOutputPower ((s.put Obj.stLinkVoltage l.toNat).put Obj.stGridPower g.toNat).postPower; (s.stOn = true) ∧ (s.oN Obj.stState = 4) ∧ (u = ((s.put Obj.stLinkVoltage l.toNat).put Obj.stGridPower g.toNat).putF Obj.stOutputPower ((s.put Obj.stLinkVoltage l.toNat).put Obj.stGridPower g.toNat).postPower)) ∧
    (let s : State := benchStation 8 [(Obj.stState, 0)] [(Obj.stEnable, 1)]; let l : BitVec 32 := 0; let o : BitVec 32 := 0; let g : BitVec 32 := 0; (s.stOn = false ∨ s.oN Obj.stState = 0)) ∧
    (let s : State := benchStation 8 [(Obj.stState, 4), (Obj.stStagesRunning, 3)] [(Obj.stEnable, 1), (Obj.stDabStages, 0x0C080400), (Obj.stStagePower, 0x41200000)]; let k : Nat := 1; (s.stOn = true) ∧ (s.oN Obj.stState = 4) ∧ (1 < s.stagesOn.length) ∧ (|s.oF Obj.stOutputPower| < ((s.stagesOn.length - 1 : Nat) : Rat) * s.cF Obj.stStagePower * 3 / 4) ∧ (s.stagesOn.getLast? = some k)) ∧
    (let s : State := benchStation 8 [(Obj.stState, 4)] [(Obj.stEnable, 1)]; (s.stagesOn.length ≤ 1 ∨ ((s.stagesOn.length - 1 : Nat) : Rat) * s.cF Obj.stStagePower * 3 / 4 ≤ |s.oF Obj.stOutputPower|)) ∧
    (let s : State := benchStation 8 [(Obj.stState, 4)] [(Obj.stEnable, 1)]; let k : Fin 4 := 3; let a : Vector (BitVec 32) 4 := Vector.replicate 4 0; (s.stagesOn.contains k.val = false ∨ s.stageApart k.val (fun j => F32.toRat (a.toList.getD j 0).toNat) = false)) ∧
    (let s : State := benchStation 8 [(Obj.stState, 4), (Obj.stStagesRunning, 15)] [(Obj.stEnable, 1), (Obj.stDabStages, 0x0C080400)]; let k : Fin 4 := 3; let a : Vector (BitVec 32) 4 := #v[0, 0, 0, 0x42C80000]; let u : State := (s.stageLeave true k.val).put Obj.stStageLost (setBit ((s.stageLeave true k.val).oN Obj.stStageLost) k.val : Nat); (s.stOn = true) ∧ (s.stagesOn.contains k.val = true) ∧ (s.stageApart k.val (fun j => F32.toRat (a.toList.getD j 0).toNat) = true) ∧ (u = (s.stageLeave true k.val).put Obj.stStageLost (setBit ((s.stageLeave true k.val).oN Obj.stStageLost) k.val : Nat))) ∧
    (let s : State := benchStation 8 [(Obj.stState, 4)] [(Obj.stEnable, 1), (Obj.stLinkOv3, 0x44480000)]; let v : BitVec 32 := 0x447A0000; (s.stOn = true) ∧ (s.oN Obj.stState ≠ 0) ∧ (s.cF Obj.stLinkOv3 < F32.toRat v.toNat) ∧ (s.isSet FC.stnLinkov 0 = false)) ∧
    (let s : State := benchStation 8 [(Obj.stState, 4)] [(Obj.stEnable, 1)]; let v : BitVec 32 := 0; (F32.toRat v.toNat ≤ s.cF Obj.stLinkOv3)) ∧
    (let s : State := benchStation 8 [(Obj.stState, 4)] [(Obj.stEnable, 1), (Obj.stLinkOv2, 0x44480000)]; let v : BitVec 32 := 0x447A0000; (s.stOn = true) ∧ (s.cF Obj.stLinkOv2 < F32.toRat v.toNat)) ∧
    (let s : State := benchStation 8 [(Obj.stState, 4)] [(Obj.stEnable, 1)]; let v : BitVec 32 := 0; (F32.toRat v.toNat ≤ s.cF Obj.stLinkOv2)) ∧
    (let s : State := benchStation 8 [(Obj.stState, 4)] [(Obj.stEnable, 1), (Obj.stLinkOv2, 0x44480000)]; let v : BitVec 32 := 0; (s.stOn = true) ∧ (F32.toRat v.toNat < s.cF Obj.stLinkOv2 - 10)) ∧
    (let s : State := benchStation 8 [(Obj.stState, 4)] [(Obj.stEnable, 1)]; let v : BitVec 32 := 0x447A0000; (s.cF Obj.stLinkOv2 - 10 ≤ F32.toRat v.toNat)) :=
  by
  refine ⟨?_, ?_, ?_, ?_, ?_, ?_, ?_, ?_, ?_, ?_, ?_, ?_, ?_, ?_, ?_, ?_, ?_, ?_, ?_, ?_, ?_, ?_, ?_, ?_, ?_, ?_, ?_, ?_, ?_, ?_, ?_, ?_⟩ <;> decide +kernel

/-! ## Conductor cooling (chapter 15) -/

/-- Every clause of CoolingPumpAndModel has a case. -/
theorem wit_CoolingPumpAndModel :
    (let s : State := benchStation 8 [(Obj.ccState, 1)] [(Obj.ccEnable, 1), (Obj.ccFlowNominal, 0x41200000), (Obj.ccFlowMin, 0x42480000), (Obj.lkRatedCurrent, 0x42C80000), (Obj.ccFlowInput, 255)]; (s.ccOn = true) ∧ (s.oN Obj.ccState = 1) ∧ (s.ccFlowNow < s.flowRef * s.cF Obj.ccFlowMin / 100)) ∧
    (let s : State := benchStation 8 [(Obj.ccState, 2)] [(Obj.ccEnable, 1)]; (s.oN Obj.ccState ≠ 1 ∨ s.flowRef * s.cF Obj.ccFlowMin / 100 ≤ s.ccFlowNow)) ∧
    (let s : State := benchStation 8 [(Obj.ccState, 2)] [(Obj.ccEnable, 1), (Obj.ccPressureInput, 1), (Obj.ccPressureMin, 0x3F800000)]; (s.ccOn = true) ∧ (s.oN Obj.ccState = 1 ∨ s.oN Obj.ccState = 2) ∧ (s.pressureOut = true)) ∧
    (let s : State := benchStation 8 [(Obj.ccState, 2)] [(Obj.ccEnable, 1), (Obj.ccPressureInput, 255)]; (s.pressureOut = false)) ∧
    (let s : State := benchStation 8 [(Obj.ccState, 3)] [(Obj.ccEnable, 1)]; let u : State := s.forAll s.pumpGroups (fun g => State.put (Obj.groupRunRequest g) 1); (s.ccOn = true) ∧ (s.oN Obj.ccState = 3) ∧ (s.oN Obj.ccPumpRestarts < 3) ∧ (u = s.forAll s.pumpGroups (fun g => State.put (Obj.groupRunRequest g) 1)) ∧ (u.oN Obj.ccPumpRestarts = s.oN Obj.ccPumpRestarts)) ∧
    (let s : State := benchStation 8 [(Obj.ccState, 3), (Obj.ccPumpRestarts, 3)] [(Obj.ccEnable, 1)]; (3 ≤ s.oN Obj.ccPumpRestarts)) ∧
    (let s : State := benchStation 8 [(Obj.ccState, 1)] [(Obj.ccEnable, 1)]; (s.ccOn = true) ∧ (s.oN Obj.ccState = 1)) ∧
    (let s : State := bench 6 [] []; (s.ccOn = false)) ∧
    (let s : State := { benchStation 8 [(Obj.ccState, 1)] [(Obj.ccEnable, 1), (Obj.ccConductorLimit, 0x42C80000)] with fc := { active := [(FC.ccHotspot, 0)] } }; (s.ccOn = true)) ∧
    (let s : State := bench 6 [] []; (s.ccOn = false)) :=
  by
  refine ⟨?_, ?_, ?_, ?_, ?_, ?_, ?_, ?_, ?_, ?_⟩ <;> decide +kernel

/-! ## Monarch (chapter 15) -/

/-- Every clause of MonarchServesAuthenticFramesInOrder has a case. -/
theorem wit_MonarchServesAuthenticFramesInOrder :
    (let s : State := benchMon 2; let f : MonIn := { benchFrame with tagOk := false }; (s.monOn = true) ∧ (s.monPartner f = true) ∧ (f.tagOk = false)) ∧
    (let s : State := { benchMon 2 with mon := { peers := [(1, 1, 1)] } }; let f : MonIn := benchFrame; let e : Nat := 1; let q : Nat := 1; (s.monOn = true) ∧ (s.monPartner f = true) ∧ (f.tagOk = true) ∧ (s.mon.peers.lookup f.partner.toNat = some (e, q)) ∧ (f.epoch.toNat = e ∧ f.sequence.toNat ≤ q ∨ f.epoch.toNat ≠ e ∧ epochAfter f.epoch.toNat e = false)) ∧
    (let s : State := benchMon 2; let e : Nat := 0; let l : Nat := 65535; (e < 65536) ∧ (l < 65536)) ∧
    (let s : State := { benchMon 2 with mon := { peers := [(1, 0, 4)] } }; let f : MonIn := benchFrame; let e : Nat := 0; let q : Nat := 4; (f.tagOk = true) ∧ (s.mon.peers.lookup f.partner.toNat = none ∨ s.mon.peers.lookup f.partner.toNat = some (e, q) ∧ (f.epoch.toNat = e ∧ q < f.sequence.toNat ∨ f.epoch.toNat ≠ e ∧ epochAfter f.epoch.toNat e = true))) ∧
    (let s : State := bench 3 [] []; let f : MonIn := benchFrame; (s.monOn = false ∨ s.monPartner f = false)) ∧
    (let s : State := benchMon 1; let f : MonIn := benchFrame; let u : State := (benchMon 1).monMod (fun m => { m with peers := [(1, 1, 1)] }); (s.monOn = true) ∧ (s.monPartner f = true) ∧ (s.monAccept f.partner.toNat f = (u, true)) ∧ (u.oN Obj.monState ≠ 2)) ∧
    (let s : State := benchMon 2; let f : MonIn := benchFrame; let u : State := (benchMon 2).monMod (fun m => { m with peers := [(1, 1, 1)] }); (s.monOn = true) ∧ (s.monPartner f = true) ∧ (s.monAccept f.partner.toNat f = (u, true)) ∧ (u.oN Obj.monState = 2)) ∧
    (let s : State := benchMon 1; let f : MonIn := benchFrame; let u : State := (benchMon 1).monMod (fun m => { m with peers := [(1, 1, 1)] }); (s.monOn = true) ∧ (s.monPartner f = true) ∧ (s.monAccept f.partner.toNat f = (u, true)) ∧ (u.oN Obj.monState ≠ 2)) ∧
    (let s : State := benchMon 2; let f : MonIn := benchFrame; let u : State := (benchMon 2).monMod (fun m => { m with peers := [(1, 1, 1)] }); (s.monOn = true) ∧ (s.monPartner f = true) ∧ (s.monAccept f.partner.toNat f = (u, true)) ∧ (u.oN Obj.monState = 2) ∧ (u.leaseOf f.partner.toNat f.leaseId.toNat = none)) ∧
    (let s : State := { { benchMon 2 with mon := { ledger := [benchLease] } } with devSub := 2000000000000 }; let f : MonIn := { benchFrame with leaseId := 7 }; let u : State := { { benchMon 2 with mon := { ledger := [benchLease], peers := [(1, 1, 1)] } } with devSub := 2000000000000 }; let l : Lease := benchLease; (s.monOn = true) ∧ (s.monPartner f = true) ∧ (s.monAccept f.partner.toNat f = (u, true)) ∧ (u.oN Obj.monState = 2) ∧ (u.leaseOf f.partner.toNat f.leaseId.toNat = some l) ∧ (l.expiry < u.now)) ∧
    (let s : State := { benchMon 2 with mon := { ledger := [benchLease] } }; let f : MonIn := { benchFrame with leaseId := 7 }; let u : State := { benchMon 2 with mon := { ledger := [benchLease], peers := [(1, 1, 1)] } }; let l : Lease := benchLease; (s.monOn = true) ∧ (s.monPartner f = true) ∧ (s.monAccept f.partner.toNat f = (u, true)) ∧ (u.oN Obj.monState = 2) ∧ (u.leaseOf f.partner.toNat f.leaseId.toNat = some l) ∧ (u.now ≤ l.expiry)) ∧
    (let s : State := { benchMon 2 with mon := { ledger := [benchLease] } }; let f : MonIn := { benchFrame with leaseId := 7, amount := 0 }; let u : State := { benchMon 2 with mon := { ledger := [benchLease], peers := [(1, 1, 1)] } }; let l : Lease := benchLease; (s.monOn = true) ∧ (s.monPartner f = true) ∧ (s.monAccept f.partner.toNat f = (u, true)) ∧ (u.leaseOf f.partner.toNat f.leaseId.toNat = some l) ∧ (F32.toRat f.amount.toNat ≤ 0 ∨ F32.toRat l.granted ≤ F32.toRat f.amount.toNat)) ∧
    (let s : State := { benchMon 2 with mon := { ledger := [benchLease] } }; let f : MonIn := { benchFrame with leaseId := 7, amount := 0x3F800000 }; let u : State := { benchMon 2 with mon := { ledger := [benchLease], peers := [(1, 1, 1)] } }; let l : Lease := benchLease; let q : Nat := F32.ofRat (F32.toRat 0x41200000 - 1); (s.monOn = true) ∧ (s.monPartner f = true) ∧ (s.monAccept f.partner.toNat f = (u, true)) ∧ (u.leaseOf f.partner.toNat f.leaseId.toNat = some l) ∧ (0 < F32.toRat f.amount.toNat ∧ F32.toRat f.amount.toNat < F32.toRat l.granted) ∧ (q = F32.ofRat (F32.toRat l.granted - F32.toRat f.amount.toNat))) ∧
    (let s : State := benchMon 2; let f : MonIn := benchFrame; let u : State := (benchMon 2).monMod (fun m => { m with peers := [(1, 1, 1)] }); (s.monOn = true) ∧ (s.monPartner f = true) ∧ (s.monAccept f.partner.toNat f = (u, true)) ∧ (u.leaseOf f.partner.toNat f.leaseId.toNat = none)) ∧
    (let s : State := { benchMon 2 with mon := { ledger := [{ benchLease with deadline := some 9 }] } }; let f : MonIn := { benchFrame with leaseId := 7 }; let u : State := { benchMon 2 with mon := { ledger := [{ benchLease with deadline := some 9 }], peers := [(1, 1, 1)] } }; let l : Lease := { benchLease with deadline := some 9 }; (s.monOn = true) ∧ (s.monPartner f = true) ∧ (s.monAccept f.partner.toNat f = (u, true)) ∧ (u.leaseOf f.partner.toNat f.leaseId.toNat = some l) ∧ (l.deadline.isSome = true)) ∧
    (let s : State := { benchMon 2 with mon := { ledger := [benchLease] } }; let f : MonIn := { benchFrame with leaseId := 7 }; let u : State := { benchMon 2 with mon := { ledger := [benchLease], peers := [(1, 1, 1)] } }; let l : Lease := benchLease; (s.monOn = true) ∧ (s.monPartner f = true) ∧ (s.monAccept f.partner.toNat f = (u, true)) ∧ (u.leaseOf f.partner.toNat f.leaseId.toNat = some l) ∧ (l.deadline = none)) :=
  by
  refine ⟨?_, ?_, ?_, ?_, ?_, ?_, ?_, ?_, ?_, ?_, ?_, ?_, ?_, ?_, ?_, ?_⟩ <;> decide +kernel

/-- Every clause of MonarchTimesAndItsClient has a case. -/
theorem wit_MonarchTimesAndItsClient :
    (let s : State := benchMon 2; (s.monOn = true) ∧ (s.oN Obj.monState = 2)) ∧
    (let s : State := benchMon 1; (s.monOn = false ∨ s.oN Obj.monState ≠ 2)) ∧
    (let s : State := benchMon 2; let n : BitVec 32 := 7; (s.monOn = true)) ∧
    (let s : State := { benchMon 2 with mon := { ledger := [{ benchLease with deadline := some 9 }] } }; let n : BitVec 32 := 7; (s.monOn = true) ∧ (s.mon.ledger.any (fun l => l.id == n.toNat && l.deadline.isSome) = true)) ∧
    (let s : State := { benchMon 2 with mon := { ledger := [benchLease] } }; let n : BitVec 32 := 7; (s.mon.ledger.any (fun l => l.id == n.toNat && l.deadline.isSome) = false)) ∧
    (let s : State := benchMon 1; (s.monOn = true) ∧ (s.oN Obj.monState = 1)) ∧
    (let s : State := benchMon 3; (s.monOn = true) ∧ (s.oN Obj.monState = 3)) ∧
    (let s : State := bench 3 [] []; let n : BitVec 32 := 7; (s.monOn = false)) ∧
    (let s : State := { benchClient 1 with mon := {  } }; let f : MonIn := benchFrame; let u : State := { benchClient 1 with mon := { peers := [(65537, 1, 1)] } }; (s.clientOn = true) ∧ (s.monInside s.clientPartner = false) ∧ (s.ptFlag s.clientPartner 0 = true) ∧ (s.monAccept (65536 + s.clientPartner) f = (u, true)) ∧ (u.oN Obj.monClientState ≠ 0)) ∧
    (let s : State := { benchClient 0 with mon := {  } }; let f : MonIn := benchFrame; let u : State := { benchClient 0 with mon := { peers := [(65537, 1, 1)] } }; (s.clientOn = true) ∧ (s.monInside s.clientPartner = false) ∧ (s.ptFlag s.clientPartner 0 = true) ∧ (s.monAccept (65536 + s.clientPartner) f = (u, true)) ∧ (u.oN Obj.monClientState = 0)) ∧
    (let s : State := { benchClient 2 with mon := { leaseId := 7 } }; let f : MonIn := { benchFrame with leaseId := 7 }; let u : State := { benchClient 2 with mon := { leaseId := 7, peers := [(65537, 1, 1)] } }; (s.clientOn = true) ∧ (s.monInside s.clientPartner = false) ∧ (s.ptFlag s.clientPartner 0 = true) ∧ (s.monAccept (65536 + s.clientPartner) f = (u, true)) ∧ (f.leaseId.toNat = u.mon.leaseId ∧ u.mon.leaseId ≠ 0) ∧ (u.oN Obj.monClientState ≠ 4)) ∧
    (let s : State := { benchClient 4 with mon := { leaseId := 7 } }; let f : MonIn := { benchFrame with leaseId := 7 }; let u : State := { benchClient 4 with mon := { leaseId := 7, peers := [(65537, 1, 1)] } }; (s.clientOn = true) ∧ (s.monInside s.clientPartner = false) ∧ (s.ptFlag s.clientPartner 0 = true) ∧ (s.monAccept (65536 + s.clientPartner) f = (u, true)) ∧ (f.leaseId.toNat = u.mon.leaseId ∧ u.mon.leaseId ≠ 0) ∧ (u.oN Obj.monClientState = 4)) ∧
    (let s : State := { benchClient 2 with mon := { leaseId := 7 } }; let f : MonIn := { benchFrame with leaseId := 7 }; let u : State := { benchClient 2 with mon := { leaseId := 7, peers := [(65537, 1, 1)] } }; (s.clientOn = true) ∧ (s.monInside s.clientPartner = false) ∧ (s.ptFlag s.clientPartner 0 = true) ∧ (s.monAccept (65536 + s.clientPartner) f = (u, true)) ∧ (f.leaseId.toNat = u.mon.leaseId ∧ u.mon.leaseId ≠ 0)) ∧
    (let s : State := { benchClient 2 with mon := { leaseId := 7 } }; let f : MonIn := benchFrame; let u : State := { benchClient 2 with mon := { leaseId := 7, peers := [(65537, 1, 1)] } }; (s.clientOn = true) ∧ (s.monInside s.clientPartner = false) ∧ (s.ptFlag s.clientPartner 0 = true) ∧ (s.monAccept (65536 + s.clientPartner) f = (u, true)) ∧ (f.leaseId.toNat ≠ u.mon.leaseId ∨ u.mon.leaseId = 0)) ∧
    (let s : State := { benchClient 3 with mon := { leaseId := 7, ackDue := some 0x41200000 } }; let a : Nat := 0x41200000; (s.mon.ackDue = some a) ∧ (s.oN Obj.monClientState = 3) ∧ (|s.postPower| ≤ |F32.toRat a|)) ∧
    (let s : State := { benchClient 1 with mon := {  } }; let f : MonIn := benchFrame; let u : State := { benchClient 1 with mon := { peers := [(65537, 1, 1)] } }; (s.clientOn = true) ∧ (s.monInside s.clientPartner = false) ∧ (s.ptFlag s.clientPartner 0 = true) ∧ (s.monAccept (65536 + s.clientPartner) f = (u, true)) ∧ (u.mon.leaseId = 0 ∨ f.leaseId.toNat ≠ u.mon.leaseId ∨ (f.result.toNat ≠ 2 ∧ f.result.toNat ≠ 3))) ∧
    (let s : State := { benchClient 2 with mon := { leaseId := 7, asked := some (5, 2) } }; let f : MonIn := { benchFrame with leaseId := 7, result := 3 }; let u : State := { benchClient 2 with mon := { leaseId := 7, asked := some (5, 2), peers := [(65537, 1, 1)] } }; let a : Nat := 5; let c : Nat := 2; (s.clientOn = true) ∧ (s.monInside s.clientPartner = false) ∧ (s.ptFlag s.clientPartner 0 = true) ∧ (s.monAccept (65536 + s.clientPartner) f = (u, true)) ∧ (f.leaseId.toNat = u.mon.leaseId ∧ u.mon.leaseId ≠ 0) ∧ (f.result.toNat = 2 ∨ f.result.toNat = 3) ∧ (u.mon.asked = some (a, c))) ∧
    (let s : State := bench 3 [] []; let f : MonIn := benchFrame; (s.clientOn = false ∨ s.monInside s.clientPartner = true ∨ s.ptFlag s.clientPartner 0 = false)) ∧
    (let s : State := benchClient 2; (s.clientOn = true) ∧ (s.oN Obj.monClientState = 2 ∨ s.oN Obj.monClientState = 3 ∨ s.oN Obj.monClientState = 4 ∧ s.now < s.oN Obj.monClientExpiry)) ∧
    (let s : State := { benchClient 4 with mon := { asked := some (5, 2) } }; let a : Nat := 5; let c : Nat := 2; (s.clientOn = true) ∧ (s.oN Obj.monClientState = 4) ∧ (s.oN Obj.monClientExpiry ≤ s.now) ∧ (s.mon.asked = some (a, c))) ∧
    (let s : State := { benchClient 1 with mon := { asked := some (5, 2) } }; let a : Nat := 5; let c : Nat := 2; (s.clientOn = true) ∧ (s.oN Obj.monClientState = 1) ∧ (s.mon.asked = some (a, c)) ∧ (s.mon.retryAt ≤ s.now)) ∧
    (let s : State := benchClient 3; (s.clientOn = true) ∧ (s.oN Obj.monClientState = 2 ∨ s.oN Obj.monClientState = 3)) ∧
    (let s : State := benchClient 4; (s.clientOn = false ∨ s.oN Obj.monClientState < 2 ∨ s.oN Obj.monClientState = 4)) :=
  by
  refine ⟨?_, ?_, ?_, ?_, ?_, ?_, ?_, ?_, ?_, ?_, ?_, ?_, ?_, ?_, ?_, ?_, ?_, ?_, ?_, ?_, ?_, ?_, ?_⟩ <;> decide +kernel

/-! ## Object access (chapter 17) -/

/-- Every clause of AcceptedRequestsAreServedAndAnswered has a case. -/
theorem wit_AcceptedRequestsAreServedAndAnswered :
    (let s : State := benchOpen .integrator; let q : RoaReq := benchReq; let x : RoaSess := benchRoa .integrator; (s.Accepts q x)) ∧
    (let s : State := benchOpen .integrator; let q : RoaReq := benchReq; let x : RoaSess := benchRoa .integrator; (s.Accepts q x)) ∧
    (let s : State := benchOpen .integrator; let q : RoaReq := benchReq; let x : RoaSess := benchRoa .integrator; let i : BitVec 16 := 0x2000; let sub : Byte := 3; (s.Accepts q x)) ∧
    (let s : State := benchOpen .integrator; let q : RoaReq := benchReq; let x : RoaSess := benchRoa .integrator; let i : BitVec 16 := 0x3340; let sub : Byte := 1; let d : List Byte := [1]; (s.Accepts q x)) ∧
    (let s : State := benchOpen .integrator; let q : RoaReq := benchReq; let x : RoaSess := benchRoa .integrator; let i : BitVec 16 := 0x2000; let a : Byte := 1; let b : Byte := 3; (s.Accepts q x)) ∧
    (let s : State := benchOpen .integrator; let q : RoaReq := benchReq; let x : RoaSess := benchRoa .integrator; let i : BitVec 16 := 0x3340; let a : Byte := 1; let b : Byte := 2; let d : List Byte := [1, 2]; (s.Accepts q x)) ∧
    (let s : State := benchOpen .integrator; let q : RoaReq := benchReq; let x : RoaSess := benchRoa .integrator; let i : BitVec 16 := 0x3340; let sub : Byte := 1; (s.Accepts q x)) ∧
    (let s : State := benchOpen .integrator; let q : RoaReq := benchReq; let x : RoaSess := benchRoa .integrator; let i : BitVec 16 := 0x3098; let sub : Byte := 0; (s.Accepts q x)) ∧
    (let s : State := benchOpen .integrator; let q : RoaReq := benchReq; let x : RoaSess := benchRoa .integrator; let off : BitVec 32 := 0; (s.Accepts q x)) ∧
    (let s : State := benchOpen .integrator; let q : RoaReq := benchReq; let x : RoaSess := benchRoa .integrator; let i : BitVec 16 := 0x1020; let sub : Byte := 0; let n : BitVec 32 := 4; let c : BitVec 32 := 0; (s.Accepts q x)) ∧
    (let s : State := benchOpen .integrator; let q : RoaReq := benchReq; let x : RoaSess := benchRoa .integrator; let off : BitVec 32 := 0; let d : List Byte := [1, 2]; (s.Accepts q x)) ∧
    (let s : State := benchOpen .integrator; let q : RoaReq := benchReq; let x : RoaSess := benchRoa .integrator; (s.Accepts q x)) ∧
    (let s : State := benchXfer .integrator; let q : RoaReq := benchReq; let x : RoaSess := { benchRoa .integrator with xfer := some { write := true, index := 0x1020, sub := 0, length := 4, crc := 0 } }; let y : RoaXfer := { write := true, index := 0x1020, sub := 0, length := 4, crc := 0 }; (s.Accepts q x) ∧ (x.xfer = some y)) ∧
    (let s : State := benchOpen .integrator; let q : RoaReq := benchReq; let x : RoaSess := benchRoa .integrator; (s.Accepts q x) ∧ (x.xfer = none)) :=
  by
  refine ⟨?_, ?_, ?_, ?_, ?_, ?_, ?_, ?_, ?_, ?_, ?_, ?_, ?_, ?_⟩ <;> decide +kernel

/-- Every clause of SessionsOpenCloseAndRefuse has a case. -/
theorem wit_SessionsOpenCloseAndRefuse :
    (let s : State := bench 2 [] [(Obj.roaPortEnable, 1)]; let q : RoaReq := benchReq; let c : Byte := 3; let r : BitVec 32 := 7; let role : Role := .integrator; (s.up = true) ∧ (s.roaOn q.transport.toNat = true) ∧ (roleOf c.toNat = some role) ∧ (q.tagOk = true) ∧ (s.openRefused role = false)) ∧
    (let s : State := { bench 2 [] [(Obj.roaPortEnable, 1)] with roa := { sessions := [benchRoa .vendor] } }; let q : RoaReq := benchReq; let c : Byte := 5; let r : BitVec 32 := 7; let role : Role := .vendor; (s.up = true) ∧ (s.roaOn q.transport.toNat = true) ∧ (roleOf c.toNat = some role) ∧ (q.tagOk = true) ∧ (s.openRefused role = true)) ∧
    (let s : State := bench 2 [] [(Obj.roaPortEnable, 1)]; let q : RoaReq := benchReq; let c : Byte := 9; let r : BitVec 32 := 7; (s.up = true) ∧ (s.roaOn q.transport.toNat = true) ∧ (q.tagOk = false ∨ roleOf c.toNat = none)) ∧
    (let s : State := bench 2 [] [(Obj.roaPortEnable, 0)]; let q : RoaReq := benchReq; let c : Byte := 3; let r : BitVec 32 := 7; (s.up = false ∨ s.roaOn q.transport.toNat = false)) ∧
    (let s : State := bench 2 [] [(Obj.roaPortEnable, 0)]; let q : RoaReq := benchReq; let svc : Nat := 5; let i : Nat := 0x3340; let sub : Nat := 1; let f : RoaSess → State → State × RoaReply := fun _ u => (u, {}); (s.up = false ∨ s.roaOn q.transport.toNat = false)) ∧
    (let s : State := bench 2 [] [(Obj.roaPortEnable, 1)]; let q : RoaReq := benchReq; let svc : Nat := 5; let i : Nat := 0x3340; let sub : Nat := 1; let f : RoaSess → State → State × RoaReply := fun _ u => (u, {}); (s.up = true) ∧ (s.roaOn q.transport.toNat = true) ∧ (s.sess q.session.toNat = none)) ∧
    (let s : State := benchOpen .integrator; let q : RoaReq := { benchReq with tagOk := false }; let svc : Nat := 5; let i : Nat := 0x3340; let sub : Nat := 1; let f : RoaSess → State → State × RoaReply := fun _ u => (u, {}); let x : RoaSess := benchRoa .integrator; (s.up = true) ∧ (s.roaOn q.transport.toNat = true) ∧ (s.sess q.session.toNat = some x) ∧ (q.tagOk = false)) ∧
    (let s : State := benchOpen .integrator; let n : Nat := 1; let x : RoaSess := benchRoa .integrator; (s.sess n = some x) ∧ (x.fails + 1 < s.oN Obj.roaMaxTagFailures)) ∧
    (let s : State := { bench 2 [] [(Obj.roaPortEnable, 1)] with roa := { sessions := [{ benchRoa .integrator with fails := 15 }] } }; let n : Nat := 1; let x : RoaSess := { benchRoa .integrator with fails := 15 }; (s.sess n = some x) ∧ (s.oN Obj.roaMaxTagFailures ≤ x.fails + 1)) ∧
    (let s : State := benchOpen .integrator; let q : RoaReq := { benchReq with nonce := 0 }; let svc : Nat := 5; let i : Nat := 0x3340; let sub : Nat := 1; let f : RoaSess → State → State × RoaReply := fun _ u => (u, {}); let x : RoaSess := benchRoa .integrator; (s.up = true) ∧ (s.roaOn q.transport.toNat = true) ∧ (s.sess q.session.toNat = some x) ∧ (q.tagOk = true) ∧ (q.nonce.toNat ≤ x.nonceIn)) ∧
    (let s : State := benchOpen .integrator; let q : RoaReq := { benchReq with nonce := 0x80000000 }; let svc : Nat := 5; let i : Nat := 0x3340; let sub : Nat := 1; let f : RoaSess → State → State × RoaReply := fun _ u => (u, {}); let x : RoaSess := benchRoa .integrator; (s.up = true) ∧ (s.roaOn q.transport.toNat = true) ∧ (s.sess q.session.toNat = some x) ∧ (q.tagOk = true) ∧ (x.nonceIn < q.nonce.toNat) ∧ (2147483648 ≤ q.nonce.toNat)) ∧
    (let s : State := bench 2 [] [(Obj.roaPortEnable, 1)]; let q : RoaReq := benchReq; let i : BitVec 16 := 0x3340; let a : Byte := 1; let b : Byte := 1; let d : List Byte := [1]; let n : BitVec 32 := 4; let c : BitVec 32 := 0; (s.up = false ∨ s.roaOn q.transport.toNat = false ∨ s.sess q.session.toNat = none)) ∧
    (let s : State := benchOpen .integrator; let q : RoaReq := { benchReq with nonce := 0 }; let i : BitVec 16 := 0x3340; let a : Byte := 1; let b : Byte := 1; let d : List Byte := [1]; let n : BitVec 32 := 4; let c : BitVec 32 := 0; let x : RoaSess := benchRoa .integrator; (s.sess q.session.toNat = some x) ∧ (q.tagOk = false ∨ q.nonce.toNat ≤ x.nonceIn)) ∧
    (let s : State := benchOpen .integrator; let q : RoaReq := { benchReq with nonce := 0x80000000 }; let i : BitVec 16 := 0x3340; let a : Byte := 1; let b : Byte := 1; let d : List Byte := [1]; let n : BitVec 32 := 4; let c : BitVec 32 := 0; let x : RoaSess := benchRoa .integrator; (s.sess q.session.toNat = some x) ∧ (x.nonceIn < q.nonce.toNat) ∧ (2147483648 ≤ q.nonce.toNat)) ∧
    (let s : State := benchOpen .integrator; let q : RoaReq := { benchReq with nonce := 0x80000000 }; let x : RoaSess := benchRoa .integrator; (s.up = true) ∧ (s.roaOn q.transport.toNat = true) ∧ (s.sess q.session.toNat = some x) ∧ (q.tagOk = true) ∧ (x.nonceIn < q.nonce.toNat) ∧ (2147483648 ≤ q.nonce.toNat)) ∧
    (let s : State := { bench 2 [] [] with roa := { sessions := [{ benchRoa .integrator with waiting := true }] } }; let n : BitVec 16 := 1; let x : RoaSess := { benchRoa .integrator with waiting := true }; (s.sess n.toNat = some x) ∧ (x.waiting = true)) ∧
    (let s : State := benchOpen .integrator; let n : BitVec 16 := 1; let x : RoaSess := benchRoa .integrator; (s.sess n.toNat = none ∨ s.sess n.toNat = some x ∧ x.waiting = false)) ∧
    (let s : State := benchOpen .integrator; let n : BitVec 16 := 1; let x : RoaSess := benchRoa .integrator; (s.sess n.toNat = some x) ∧ (x.waiting = false)) ∧
    (let s : State := benchOpen .integrator; let n : BitVec 16 := 3; let x : RoaSess := benchRoa .integrator; (s.sess n.toNat = none ∨ s.sess n.toNat = some x ∧ x.waiting = true)) ∧
    (let s : State := benchXfer .integrator; let n : Nat := 1; let x : RoaSess := { benchRoa .integrator with xfer := some { write := true, index := 0x1020, sub := 0, length := 4, crc := 0 } }; (s.sess n = some x)) ∧
    (let s : State := benchXfer .integrator; let n : BitVec 16 := 1; let x : RoaSess := { benchRoa .integrator with xfer := some { write := true, index := 0x1020, sub := 0, length := 4, crc := 0 } }; let y : RoaXfer := { write := true, index := 0x1020, sub := 0, length := 4, crc := 0 }; (s.sess n.toNat = some x) ∧ (x.xfer = some y)) ∧
    (let s : State := benchOpen .integrator; let n : BitVec 16 := 1; let x : RoaSess := benchRoa .integrator; (s.sess n.toNat = none ∨ s.sess n.toNat = some x ∧ x.xfer = none)) ∧
    (let s : State := benchOpen .integrator; let x : RoaSess := { benchRoa .integrator with lapsed := true }; (x.lapsed = true)) ∧
    (let s : State := benchOpen .integrator; let x : RoaSess := benchRoa .integrator; (x.lapsed = false)) ∧
    (let s : State := benchOpen .integrator; let n : BitVec 16 := 1; let i : BitVec 16 := 0x2000; (s.snapOf n.toNat i.toNat = none)) ∧
    (let s : State := { bench 2 [] [] with roa := { sessions := [{ benchRoa .integrator with snaps := [{ index := 0x2000, values := [], taken := 0 }] }] } }; let n : BitVec 16 := 1; let i : BitVec 16 := 0x2000; let z : RoaSnap := { index := 0x2000, values := [], taken := 0 }; (s.snapOf n.toNat i.toNat = some z)) ∧
    (let s : State := benchOpen .vendor; let n : BitVec 16 := 1; let c : Byte := 2; let k : List Byte := []; let x : RoaSess := benchRoa .vendor; (s.up = true) ∧ (s.sess n.toNat = some x) ∧ (s.blockCode x.role (0x1110 + c.toNat) 1 = 0) ∧ (k.length ≠ 24)) ∧
    (let s : State := benchOpen .vendor; let n : BitVec 16 := 1; let c : Byte := 2; let k : List Byte := List.replicate 24 0; let x : RoaSess := benchRoa .vendor; (s.up = true) ∧ (s.sess n.toNat = some x) ∧ (s.blockCode x.role (0x1110 + c.toNat) 1 = 0) ∧ (k.length = 24)) ∧
    (let s : State := benchOpen .integrator; let n : BitVec 16 := 1; let k : List Byte := List.replicate 24 0; let x : RoaSess := benchRoa .integrator; (s.up = true) ∧ (s.sess n.toNat = some x) ∧ (s.blockCode x.role 0x1601 0 = 0) ∧ (k.length = 24)) ∧
    (let s : State := benchOpen .observer; let n : BitVec 16 := 1; let c : Byte := 2; let k : List Byte := []; let x : RoaSess := benchRoa .observer; (s.up = true) ∧ (s.sess n.toNat = some x) ∧ (s.blockCode x.role (0x1110 + c.toNat) 1 ≠ 0)) ∧
    (let s : State := benchOpen .integrator; let n : BitVec 16 := 1; let k : List Byte := []; let x : RoaSess := benchRoa .integrator; (s.up = true) ∧ (s.sess n.toNat = some x) ∧ (s.blockCode x.role 0x1601 0 = 0) ∧ (k.length ≠ 24)) ∧
    (let s : State := benchOpen .observer; let n : BitVec 16 := 1; let k : List Byte := []; let x : RoaSess := benchRoa .observer; (s.up = true) ∧ (s.sess n.toNat = some x) ∧ (s.blockCode x.role 0x1601 0 ≠ 0)) ∧
    (let s : State := bench 2 [] []; let n : BitVec 16 := 1; let c : Byte := 2; let k : List Byte := []; (s.up = false ∨ s.sess n.toNat = none)) ∧
    (let s : State := { bench 2 [] [] with takeup := [5] }; let e : BitVec 13 := 5; (s.up = true) ∧ (s.takeup.contains e.toNat = true)) ∧
    (let s : State := bench 2 [] []; let e : BitVec 13 := 5; (s.takeup.contains e.toNat = false)) ∧
    (let s : State := {}; let e : BitVec 13 := 5; (s.up = false)) :=
  by
  refine ⟨?_, ?_, ?_, ?_, ?_, ?_, ?_, ?_, ?_, ?_, ?_, ?_, ?_, ?_, ?_, ?_, ?_, ?_, ?_, ?_, ?_, ?_, ?_, ?_, ?_, ?_, ?_, ?_, ?_, ?_, ?_, ?_, ?_, ?_, ?_, ?_⟩ <;> decide +kernel

/-! ## CAN (chapter 18) -/

/-- Every clause of CanControllersReceiveSendAndRecover has a case. -/
theorem wit_CanControllersReceiveSendAndRecover :
    (let s : State := { benchCan 7 [] with can := [{ ant := { step := 1 } }] ++ List.replicate 7 {} }; let c : Fin 8 := 0; let h : Vector (BitVec 32) 5 := #v[5, 0, 0, 0, 0]; let d : List Byte := []; let a : BitVec 32 := 0; (s.canRuns c.val = false ∨ s.oN (Obj.canState c.val) = 7 ∧ (s.canx c.val).ant.step = 1)) ∧
    (let s : State := benchCan 2 []; let c : Fin 8 := 0; let h : Vector (BitVec 32) 5 := #v[5, 0x80000001, 0, 0, 0]; let d : List Byte := [0]; let a : BitVec 32 := 0; (s.canRuns c.val = true) ∧ (s.oN (Obj.canState c.val) ≠ 7) ∧ (s.formatOk c.val (hdrKind (h.toList.map BitVec.toNat)) = false)) ∧
    (let s : State := benchCan 7 []; let c : Fin 8 := 0; let h : Vector (BitVec 32) 5 := #v[5, 0x80000001, 0, 0, 0]; let d : List Byte := [0]; let a : BitVec 32 := 0; (s.oN (Obj.canState c.val) = 7) ∧ (s.formatOk c.val (hdrKind (h.toList.map BitVec.toNat)) = false)) ∧
    (let s : State := benchCan 2 []; let c : Fin 8 := 0; let h : Vector (BitVec 32) 5 := #v[5, 0, 0, 0, 0]; let d : List Byte := []; let a : BitVec 32 := 0; let g : List Nat := [5, 0, s.stampAt 0, 0, 0]; let u : State := ((s.inc32 (Obj.canRxFrameCount c.val)).antennaHears c.val true).canRecDown c.val; (s.canRuns c.val = true) ∧ (s.oN (Obj.canState c.val) ≠ 7 ∨ (s.canx c.val).ant.step ≠ 1) ∧ (s.formatOk c.val (hdrKind (h.toList.map BitVec.toNat)) = true) ∧ (g = [(h.toList.getD 0 0).toNat % 2 ^ 30, (h.toList.getD 1 0).toNat, s.stampAt a.toNat, (h.toList.getD 3 0).toNat, (h.toList.getD 4 0).toNat]) ∧ (u = ((s.inc32 (Obj.canRxFrameCount c.val)).antennaHears c.val true).canRecDown c.val)) ∧
    (let s : State := bench 2 [] [(Obj.canEnable 0, 1), (Obj.roaCanEnable, 1), (Obj.roaCanRequestId, 5)]; let c : Nat := 0; let h : List Nat := [5, 0, 0, 0, 0]; let d : List Nat := [1]; ((s.cN Obj.roaCanEnable).testBit c = true) ∧ (hdrId h = s.cN Obj.roaCanRequestId)) ∧
    (let s : State := benchCan 2 []; let c : Nat := 0; let h : List Nat := [5, 0, 0, 0, 0]; let d : List Nat := [1]; (¬ ((s.cN Obj.roaCanEnable).testBit c = true ∧ hdrId h = s.cN Obj.roaCanRequestId)) ∧ (s.filterFor c h = none)) ∧
    (let s : State := { bench 2 [(Obj.canState 0, 2)] [(Obj.canEnable 0, 1), (Obj.canRxDataSize 0, 64)] with can := List.replicate 8 {}, mem := [(domAddr (Obj.canFilters 0) 8, 3), (domAddr (Obj.canFilters 0) 11, 129)] }; let c : Nat := 0; let h : List Nat := [5, 0, 0, 0, 0]; let d : List Nat := [1]; let w : Nat := (129 * 2 ^ 88 + 3 * 2 ^ 64); (¬ ((s.cN Obj.roaCanEnable).testBit c = true ∧ hdrId h = s.cN Obj.roaCanRequestId)) ∧ (s.filterFor c h = some w) ∧ (w / 2 ^ 93 % 4 = 0)) ∧
    (let s : State := { bench 2 [(Obj.canState 0, 2)] [(Obj.canEnable 0, 1), (Obj.canRxDataSize 0, 64)] with can := List.replicate 8 {}, mem := [(domAddr (Obj.canFilters 0) 8, 3), (domAddr (Obj.canFilters 0) 11, 193)] }; let c : Nat := 0; let h : List Nat := [5, 0, 0, 0, 0]; let d : List Nat := [1]; let w : Nat := (193 * 2 ^ 88 + 3 * 2 ^ 64); (¬ ((s.cN Obj.roaCanEnable).testBit c = true ∧ hdrId h = s.cN Obj.roaCanRequestId)) ∧ (s.filterFor c h = some w) ∧ (w / 2 ^ 93 % 4 = 2)) ∧
    (let s : State := { bench 2 [(Obj.canState 0, 2)] [(Obj.canEnable 0, 1), (Obj.canRxDataSize 0, 0)] with can := List.replicate 8 {}, mem := [(domAddr (Obj.canFilters 0) 8, 3), (domAddr (Obj.canFilters 0) 11, 161)] }; let c : Nat := 0; let h : List Nat := [5, 0, 0, 0, 0]; let d : List Nat := [1]; let w : Nat := (161 * 2 ^ 88 + 3 * 2 ^ 64); (¬ ((s.cN Obj.roaCanEnable).testBit c = true ∧ hdrId h = s.cN Obj.roaCanRequestId)) ∧ (s.filterFor c h = some w) ∧ (w / 2 ^ 93 % 4 = 1) ∧ (s.cN (Obj.canRxDataSize c) < d.length)) ∧
    (let s : State := { bench 2 [(Obj.canState 0, 2)] [(Obj.canEnable 0, 1), (Obj.canRxDataSize 0, 64)] with can := List.replicate 8 {}, mem := [(domAddr (Obj.canFilters 0) 8, 3), (domAddr (Obj.canFilters 0) 11, 161)] }; let c : Nat := 0; let h : List Nat := [5, 0, 0, 0, 0]; let d : List Nat := [1]; let w : Nat := (161 * 2 ^ 88 + 3 * 2 ^ 64); (¬ ((s.cN Obj.roaCanEnable).testBit c = true ∧ hdrId h = s.cN Obj.roaCanRequestId)) ∧ (s.filterFor c h = some w) ∧ (w / 2 ^ 93 % 4 = 1) ∧ (d.length ≤ s.cN (Obj.canRxDataSize c))) ∧
    (let s : State := { benchCan 2 [] with can := [{ bufs := [(3, { locked := true })] }] ++ List.replicate 7 {} }; let c : Nat := 0; let n : Nat := 3; let h : List Nat := []; let d : List Nat := []; ((s.canBuf c n).locked = true) ∧ ((s.canBuf c n).copy = none)) ∧
    (let s : State := { benchCan 2 [] with can := [{ bufs := [(3, { locked := true, copy := some ([], [], false) })] }] ++ List.replicate 7 {} }; let c : Nat := 0; let n : Nat := 3; let h : List Nat := []; let d : List Nat := []; ((s.canBuf c n).locked = true) ∧ ((s.canBuf c n).copy.isSome = true)) ∧
    (let s : State := { benchCan 2 [] with can := [{ bufs := [(3, {})] }] ++ List.replicate 7 {} }; let c : Nat := 0; let n : Nat := 3; let h : List Nat := []; let d : List Nat := []; ((s.canBuf c n).locked = false) ∧ ((s.canBuf c n).isNew = false)) ∧
    (let s : State := { benchCan 2 [] with can := [{ bufs := [(3, { isNew := true })] }] ++ List.replicate 7 {} }; let c : Nat := 0; let n : Nat := 3; let h : List Nat := []; let d : List Nat := []; ((s.canBuf c n).locked = false) ∧ ((s.canBuf c n).isNew = true)) ∧
    (let s : State := benchCan 2 []; let c : Fin 8 := 0; let a : BitVec 32 := 0; ((s.canx c.val).queue = [] ∨ s.canRuns c.val = false ∨ (s.oN (Obj.canState c.val) ≠ 2 ∧ s.oN (Obj.canState c.val) ≠ 3) ∨ (s.canx c.val).held = true)) ∧
    (let s : State := { bench 2 [(Obj.canState 0, 2)] [(Obj.canEnable 0, 1)] with can := [{ queue := [benchCanFrame] }] ++ List.replicate 7 {} }; let c : Fin 8 := 0; let a : BitVec 32 := 0; let f : CanFrame := benchCanFrame; let rest : List CanFrame := []; let u : State := (((s.put (Obj.canTec c.val) (s.oN (Obj.canTec c.val) - 1 : Nat)).put (Obj.canState c.val) (errState (s.oN (Obj.canTec c.val) - 1) ((s.put (Obj.canTec c.val) (s.oN (Obj.canTec c.val) - 1 : Nat)).oN (Obj.canRec c.val)) : Nat)).inc32 (Obj.canTxFrameCount c.val)).put (Obj.canTxLastStamp c.val) (s.stampAt a.toNat : Nat); (s.canRuns c.val = true) ∧ (s.oN (Obj.canState c.val) = 2 ∨ s.oN (Obj.canState c.val) = 3) ∧ ((s.canx c.val).queue = f :: rest) ∧ ((s.canx c.val).held = false) ∧ (f.entry = none) ∧ (u = (((s.put (Obj.canTec c.val) (s.oN (Obj.canTec c.val) - 1 : Nat)).put (Obj.canState c.val) (errState (s.oN (Obj.canTec c.val) - 1) ((s.put (Obj.canTec c.val) (s.oN (Obj.canTec c.val) - 1 : Nat)).oN (Obj.canRec c.val)) : Nat)).inc32 (Obj.canTxFrameCount c.val)).put (Obj.canTxLastStamp c.val) (s.stampAt a.toNat : Nat))) ∧
    (let s : State := { bench 2 [(Obj.canState 0, 2)] [(Obj.canEnable 0, 1)] with can := [{ queue := [{ benchCanFrame with entry := some 4 }], abort := 1 }] ++ List.replicate 7 {} }; let c : Fin 8 := 0; let a : BitVec 32 := 0; let f : CanFrame := { benchCanFrame with entry := some 4 }; let rest : List CanFrame := []; let u : State := (((s.put (Obj.canTec c.val) (s.oN (Obj.canTec c.val) - 1 : Nat)).put (Obj.canState c.val) (errState (s.oN (Obj.canTec c.val) - 1) ((s.put (Obj.canTec c.val) (s.oN (Obj.canTec c.val) - 1 : Nat)).oN (Obj.canRec c.val)) : Nat)).inc32 (Obj.canTxFrameCount c.val)).put (Obj.canTxLastStamp c.val) (s.stampAt a.toNat : Nat); let e : Nat := 4; (s.canRuns c.val = true) ∧ (s.oN (Obj.canState c.val) = 2 ∨ s.oN (Obj.canState c.val) = 3) ∧ ((s.canx c.val).queue = f :: rest) ∧ ((s.canx c.val).held = false) ∧ (f.entry = some e) ∧ (u = (((s.put (Obj.canTec c.val) (s.oN (Obj.canTec c.val) - 1 : Nat)).put (Obj.canState c.val) (errState (s.oN (Obj.canTec c.val) - 1) ((s.put (Obj.canTec c.val) (s.oN (Obj.canTec c.val) - 1 : Nat)).oN (Obj.canRec c.val)) : Nat)).inc32 (Obj.canTxFrameCount c.val)).put (Obj.canTxLastStamp c.val) (s.stampAt a.toNat : Nat))) ∧
    (let s : State := benchCan 2 []; let c : Fin 8 := 0; (s.canOn c.val = false ∨ s.oN (Obj.canState c.val) ≠ 5)) ∧
    (let s : State := benchCan 5 [benchCanFrame]; let c : Fin 8 := 0; let u : State := ((s.put (Obj.canTec c.val) 0).put (Obj.canRec c.val) 0).put (Obj.canState c.val) 2; let r : State × List CanFrame := State.regenerate c.val (u.canx c.val).queue [] u; let v : State := (if (u.canx c.val).queue.any u.staleFrame = true then r.1.note FC.canEslregen c.val else r.1); let k : List CanFrame := (if v.cN (Obj.canBusOffFlush c.val) = 1 then r.2.filter (fun f => f.entry.isSome) else r.2); let w : State := (if v.cN (Obj.canBusOffFlush c.val) = 1 ∧ (r.2.head?.map (fun (f : CanFrame) => f.entry.isNone)).getD false = true then v.canNextHead c.val k else (v.canMod c.val (fun x => { x with queue := k })).canShow c.val); (s.canOn c.val = true) ∧ (s.oN (Obj.canState c.val) = 5) ∧ (u = ((s.put (Obj.canTec c.val) 0).put (Obj.canRec c.val) 0).put (Obj.canState c.val) 2) ∧ (r = State.regenerate c.val (u.canx c.val).queue [] u) ∧ (v = (if (u.canx c.val).queue.any u.staleFrame = true then r.1.note FC.canEslregen c.val else r.1)) ∧ (k = (if v.cN (Obj.canBusOffFlush c.val) = 1 then r.2.filter (fun f => f.entry.isSome) else r.2)) ∧ (w = (if v.cN (Obj.canBusOffFlush c.val) = 1 ∧ (r.2.head?.map (fun (f : CanFrame) => f.entry.isNone)).getD false = true then v.canNextHead c.val k else (v.canMod c.val (fun x => { x with queue := k })).canShow c.val))) ∧
    (let s : State := benchCan 5 [benchCanFrame]; let c : Nat := 0; let f : CanFrame := benchCanFrame; (f.entry = none ∨ s.staleFrame f = false)) ∧
    (let s : State := { benchCan 5 [] with tick := 100 }; let c : Nat := 0; let f : CanFrame := { benchCanFrame with entry := some 4 }; let e : Nat := 4; let q : Nat := 0; (f.entry = some e) ∧ (s.staleFrame f = true) ∧ (q = (((s.eslx (s.pt e 2 2)).sent.map seqNext).getD 0))) ∧
    (let s : State := benchCan 5 []; let c : Fin 8 := 0; let e : Byte := 1; let sending : Bool := true; let clash : Bool := true; let inc : BitVec 4 := 8; (s.canRuns c.val = false)) ∧
    (let s : State := benchCan 6 []; let c : Fin 8 := 0; let e : Byte := 1; let sending : Bool := true; let clash : Bool := true; let inc : BitVec 4 := 8; let u : State := (s.incSat (Obj.canErrorCount 0)).put (Obj.canLastError 0) 1; (s.canRuns c.val = true) ∧ (s.oN (Obj.canState c.val) = 6 ∨ s.oN (Obj.canState c.val) = 7) ∧ (u = (s.incSat (Obj.canErrorCount c.val)).put (Obj.canLastError c.val) e.toNat)) ∧
    (let s : State := { bench 2 [(Obj.canState 0, 2)] [(Obj.canEnable 0, 1)] with can := [{ queue := [benchCanFrame], abort := 1 }] ++ List.replicate 7 {} }; let c : Fin 8 := 0; let e : Byte := 1; let sending : Bool := true; let clash : Bool := true; let inc : BitVec 4 := 8; let u : State := (s.incSat (Obj.canErrorCount 0)).put (Obj.canLastError 0) 1; (s.canRuns c.val = true) ∧ (s.oN (Obj.canState c.val) = 2 ∨ s.oN (Obj.canState c.val) = 3) ∧ (u = (s.incSat (Obj.canErrorCount c.val)).put (Obj.canLastError c.val) e.toNat) ∧ (sending = true) ∧ ((s.canx c.val).abort ≠ 0)) ∧
    (let s : State := benchCan 3 [benchCanFrame]; let c : Fin 8 := 0; let e : Byte := 1; let sending : Bool := true; let clash : Bool := true; let inc : BitVec 4 := 8; let u : State := (s.incSat (Obj.canErrorCount 0)).put (Obj.canLastError 0) 1; (s.canRuns c.val = true) ∧ (s.oN (Obj.canState c.val) = 2 ∨ s.oN (Obj.canState c.val) = 3) ∧ (u = (s.incSat (Obj.canErrorCount c.val)).put (Obj.canLastError c.val) e.toNat) ∧ (sending = true) ∧ ((s.canx c.val).abort = 0) ∧ (clash = true) ∧ (e.toNat = 1)) ∧
    (let s : State := benchCan 2 []; let c : Fin 8 := 0; let e : Byte := 4; let sending : Bool := false; let clash : Bool := false; let inc : BitVec 4 := 1; let u : State := (s.incSat (Obj.canErrorCount 0)).put (Obj.canLastError 0) 4; (s.canRuns c.val = true) ∧ (s.oN (Obj.canState c.val) = 2 ∨ s.oN (Obj.canState c.val) = 3) ∧ (u = (s.incSat (Obj.canErrorCount c.val)).put (Obj.canLastError c.val) e.toNat) ∧ (sending = false ∨ ((s.canx c.val).abort = 0 ∧ (clash = false ∨ e.toNat ≠ 1)))) ∧
    (let s : State := benchCan 2 [benchCanFrame]; let c : Nat := 0; let f : CanFrame := benchCanFrame; let rest : List CanFrame := []; ((s.canx c).queue = f :: rest) ∧ ((s.canx c).clash + 1 ≠ 4)) ∧
    (let s : State := { bench 2 [(Obj.canState 0, 2)] [(Obj.canEnable 0, 1)] with can := [{ queue := [benchCanFrame], clash := 3 }] ++ List.replicate 7 {} }; let c : Nat := 0; let f : CanFrame := benchCanFrame; let rest : List CanFrame := []; ((s.canx c).queue = f :: rest) ∧ ((s.canx c).clash + 1 = 4)) ∧
    (let s : State := { bench 2 [(Obj.canState 0, 2), (Obj.canTec 0, 250)] [(Obj.canEnable 0, 1)] with can := [{ queue := [] }] ++ List.replicate 7 {} }; let c : Nat := 0; let i : Nat := 8; let b : Bool := true; let x : Nat := 258; let y : Nat := 0; (s.oN (Obj.canState c) = 2 ∨ s.oN (Obj.canState c) = 3) ∧ (x = s.oN (Obj.canTec c) + (if b then i else 0)) ∧ (y = min 128 (s.oN (Obj.canRec c) + (if b then 0 else i))) ∧ (255 < x)) ∧
    (let s : State := { bench 2 [(Obj.canState 0, 2), (Obj.canTec 0, 120)] [(Obj.canEnable 0, 1)] with can := [{ queue := [] }] ++ List.replicate 7 {} }; let c : Nat := 0; let i : Nat := 8; let b : Bool := true; let x : Nat := 128; let y : Nat := 0; (s.oN (Obj.canState c) = 2) ∧ (x = s.oN (Obj.canTec c) + (if b then i else 0)) ∧ (y = min 128 (s.oN (Obj.canRec c) + (if b then 0 else i))) ∧ (x ≤ 255) ∧ (127 < x ∨ 127 < y)) ∧
    (let s : State := benchCan 2 []; let c : Nat := 0; let i : Nat := 1; let b : Bool := false; let x : Nat := 0; let y : Nat := 1; (s.oN (Obj.canState c) = 2 ∨ s.oN (Obj.canState c) = 3) ∧ (x = s.oN (Obj.canTec c) + (if b then i else 0)) ∧ (y = min 128 (s.oN (Obj.canRec c) + (if b then 0 else i))) ∧ (x ≤ 255) ∧ ((x ≤ 127 ∧ y ≤ 127) ∨ s.oN (Obj.canState c) = 3)) ∧
    (let s : State := benchCan 4 []; let c : Fin 8 := 0; let role : Role := .operator; (s.up = true) ∧ (2 ≤ roleRank role) ∧ (s.oN (Obj.canState c.val) = 4)) ∧
    (let s : State := benchCan 2 []; let c : Fin 8 := 0; let role : Role := .operator; (s.up = true) ∧ (2 ≤ roleRank role) ∧ (s.oN (Obj.canState c.val) ≠ 4)) ∧
    (let s : State := { bench 2 [(Obj.canState 0, 1)] [(Obj.canEnable 0, 1), (Obj.canListenOnly 0, 1)] with can := [{ queue := [] }] ++ List.replicate 7 {} }; let c : Fin 8 := 0; (s.canOn c.val = true) ∧ (s.oN (Obj.canState c.val) = 1) ∧ (s.cN (Obj.canListenOnly c.val) = 1)) ∧
    (let s : State := benchCan 1 []; let c : Fin 8 := 0; (s.canOn c.val = true) ∧ (s.oN (Obj.canState c.val) = 1) ∧ (s.cN (Obj.canListenOnly c.val) ≠ 1)) ∧
    (let s : State := benchCan 2 []; let c : Fin 8 := 0; (s.canOn c.val = false ∨ s.oN (Obj.canState c.val) ≠ 1)) ∧
    (let s : State := benchCan 2 []; let c : Fin 8 := 0; let b : List Byte := []; let role : Role := .operator; (s.up = true) ∧ (2 ≤ roleRank role) ∧ (b.length < 20)) ∧
    (let s : State := benchCan 6 []; let c : Fin 8 := 0; let b : List Byte := [5, 0, 0, 0] ++ List.replicate 16 0; let role : Role := .operator; let h : List Nat := [5, 0, 0, 0, 0]; let k : Nat := 2; (s.up = true) ∧ (2 ≤ roleRank role) ∧ (20 ≤ b.length) ∧ (h = (List.range 5).map (fun k => if k = 2 then 0 else numOf ((bytesNat b).drop (4 * k) |>.take 4))) ∧ (k = s.submitCode c.val h ((bytesNat b).drop 20)) ∧ (k ≠ 0)) ∧
    (let s : State := benchCan 2 []; let c : Fin 8 := 0; let b : List Byte := [5, 0, 0, 0] ++ List.replicate 16 0; let role : Role := .operator; let h : List Nat := [5, 0, 0, 0, 0]; (s.up = true) ∧ (2 ≤ roleRank role) ∧ (20 ≤ b.length) ∧ (h = (List.range 5).map (fun k => if k = 2 then 0 else numOf ((bytesNat b).drop (4 * k) |>.take 4))) ∧ (s.submitCode c.val h ((bytesNat b).drop 20) = 0)) ∧
    (let s : State := benchCan 2 [benchCanFrame]; let c : Nat := 0; let f : CanFrame := benchCanFrame; ((s.canx c).queue.length < 64) ∧ (c < s.can.length)) ∧
    (let s : State := benchCan 2 []; let c : Fin 8 := 0; let sending : Bool := true; let role : Role := .operator; (s.up = true) ∧ (2 ≤ roleRank role) ∧ ((s.canx c.val).queue = [])) ∧
    (let s : State := benchCan 2 [benchCanFrame, benchCanFrame]; let c : Fin 8 := 0; let sending : Bool := false; let role : Role := .operator; let f : CanFrame := benchCanFrame; let rest : List CanFrame := [benchCanFrame]; (s.up = true) ∧ (2 ≤ roleRank role) ∧ ((s.canx c.val).queue = f :: rest) ∧ (sending = false ∨ (s.canx c.val).held = true ∨ (s.oN (Obj.canState c.val) ≠ 2 ∧ s.oN (Obj.canState c.val) ≠ 3))) ∧
    (let s : State := benchCan 2 [benchCanFrame, benchCanFrame]; let c : Fin 8 := 0; let sending : Bool := true; let role : Role := .operator; let f : CanFrame := benchCanFrame; let rest : List CanFrame := [benchCanFrame]; (s.up = true) ∧ (2 ≤ roleRank role) ∧ ((s.canx c.val).queue = f :: rest) ∧ (sending = true ∧ (s.canx c.val).held = false ∧ (s.oN (Obj.canState c.val) = 2 ∨ s.oN (Obj.canState c.val) = 3))) ∧
    (let s : State := benchCan 2 [benchCanFrame, benchCanFrame]; let c : Fin 8 := 0; let sending : Bool := false; let role : Role := .operator; let f : CanFrame := benchCanFrame; let rest : List CanFrame := [benchCanFrame]; (s.up = true) ∧ (2 ≤ roleRank role) ∧ ((s.canx c.val).queue = f :: rest) ∧ (sending = false ∨ (s.canx c.val).held = true ∨ (s.oN (Obj.canState c.val) ≠ 2 ∧ s.oN (Obj.canState c.val) ≠ 3))) ∧
    (let s : State := benchCan 2 [benchCanFrame, benchCanFrame]; let c : Fin 8 := 0; let sending : Bool := true; let role : Role := .operator; let f : CanFrame := benchCanFrame; let rest : List CanFrame := [benchCanFrame]; (s.up = true) ∧ (2 ≤ roleRank role) ∧ ((s.canx c.val).queue = f :: rest) ∧ (sending = true ∧ (s.canx c.val).held = false ∧ (s.oN (Obj.canState c.val) = 2 ∨ s.oN (Obj.canState c.val) = 3))) ∧
    (let s : State := benchCan 2 [benchCanFrame, benchCanFrame]; let c : Fin 8 := 0; let sending : Bool := false; let role : Role := .operator; let f : CanFrame := benchCanFrame; let rest : List CanFrame := [benchCanFrame]; (s.up = true) ∧ (2 ≤ roleRank role) ∧ ((s.canx c.val).queue = f :: rest) ∧ (f.entry = none) ∧ (sending = false ∨ (s.canx c.val).held = true ∨ (s.oN (Obj.canState c.val) ≠ 2 ∧ s.oN (Obj.canState c.val) ≠ 3))) ∧
    (let s : State := benchCan 2 [benchCanFrame, benchCanFrame]; let c : Fin 8 := 0; let sending : Bool := true; let role : Role := .operator; let f : CanFrame := benchCanFrame; let rest : List CanFrame := [benchCanFrame]; (s.up = true) ∧ (2 ≤ roleRank role) ∧ ((s.canx c.val).queue = f :: rest) ∧ (f.entry = none) ∧ (sending = true ∧ (s.canx c.val).held = false ∧ (s.oN (Obj.canState c.val) = 2 ∨ s.oN (Obj.canState c.val) = 3))) ∧
    (let s : State := benchCan 2 [{ benchCanFrame with entry := some 4 }, benchCanFrame]; let c : Fin 8 := 0; let sending : Bool := true; let role : Role := .operator; let f : CanFrame := { benchCanFrame with entry := some 4 }; let rest : List CanFrame := [benchCanFrame]; (s.up = true) ∧ (2 ≤ roleRank role) ∧ ((s.canx c.val).queue = f :: rest) ∧ (f.entry.isSome = true)) ∧
    (let s : State := { bench 2 [(Obj.canState 0, 2)] [(Obj.canEnable 0, 1), (Obj.canHeadWaitLimit 0, 100)] with can := [{ queue := [benchCanFrame] }] ++ List.replicate 7 {} }; let c : Fin 8 := 0; let f : CanFrame := benchCanFrame; let rest : List CanFrame := []; let u : State := s.canMod c.val (fun x => { x with headSeen := true }); (u = s.canMod c.val (fun x => { x with headSeen := true })) ∧ (s.cN (Obj.canHeadWaitLimit c.val) ≠ 0) ∧ ((s.canx c.val).queue = f :: rest) ∧ ((s.canx c.val).headSeen = false)) ∧
    (let s : State := benchCan 2 []; let c : Fin 8 := 0; (s.cN (Obj.canHeadWaitLimit c.val) = 0 ∨ (s.canx c.val).queue = [] ∨ (s.canx c.val).headSeen = true)) ∧
    (let s : State := benchCan 2 []; let c : Fin 8 := 0; let role : Role := .operator; (s.up = true) ∧ (2 ≤ roleRank role) ∧ (s.canOn c.val = true) ∧ (s.oN (Obj.canState c.val) ≠ 0) ∧ (s.oN (Obj.canState c.val) ≠ 4) ∧ (s.oN (Obj.canState c.val) ≠ 5)) ∧
    (let s : State := benchCan 0 []; let c : Fin 8 := 0; let role : Role := .operator; (s.up = true) ∧ (2 ≤ roleRank role) ∧ (s.canOn c.val = false ∨ s.oN (Obj.canState c.val) = 0)) ∧
    (let s : State := benchCan 5 []; let c : Fin 8 := 0; let role : Role := .operator; (s.up = true) ∧ (2 ≤ roleRank role) ∧ (s.canOn c.val = true) ∧ (s.oN (Obj.canState c.val) = 4 ∨ s.oN (Obj.canState c.val) = 5)) ∧
    (let s : State := { benchCan 7 [] with can := [{ ant := { step := 2 } }] ++ List.replicate 7 {} }; let c : Fin 8 := 0; let role : Role := .operator; (s.up = true) ∧ (2 ≤ roleRank role) ∧ (s.oN (Obj.canState c.val) = 7)) ∧
    (let s : State := benchCan 5 []; let c : Fin 8 := 0; let role : Role := .operator; (s.up = true) ∧ (2 ≤ roleRank role) ∧ (s.oN (Obj.canState c.val) ≠ 7)) ∧
    (let s : State := { benchCan 7 [] with can := [{ ant := { step := 1 } }] ++ List.replicate 7 {} }; let c : Fin 8 := 0; (s.oN (Obj.canState c.val) = 7) ∧ ((s.canx c.val).ant.step ≠ 3)) ∧
    (let s : State := { benchCan 7 [] with can := [{ ant := { step := 3 } }] ++ List.replicate 7 {} }; let c : Fin 8 := 0; (s.oN (Obj.canState c.val) ≠ 7 ∨ (s.canx c.val).ant.step = 3)) ∧
    (let s : State := { benchCan 7 [] with can := [{ ant := { step := 3, rate := 500000 } }] ++ List.replicate 7 {} }; let c : Fin 8 := 0; let i : BitVec 16 := 40; let n : Byte := 4; let r : Nat := 2000000; (s.oN (Obj.canState c.val) = 7) ∧ ((s.canx c.val).ant.step = 3) ∧ (r = (if 4 ≤ n.toNat then (antennaRate dataRates i.toNat).getD 0 else 0))) ∧
    (let s : State := { benchCan 7 [] with can := [{ ant := { step := 2 } }] ++ List.replicate 7 {} }; let c : Fin 8 := 0; let i : BitVec 16 := 40; let n : Byte := 4; (s.oN (Obj.canState c.val) ≠ 7 ∨ (s.canx c.val).ant.step ≠ 3)) ∧
    (let s : State := { benchCan 7 [] with can := [{ ant := { step := 2, rate := 500000, frames := 3 } }] ++ List.replicate 7 {} }; let c : Nat := 0; (s.oN (Obj.canState c) = 7) ∧ ((s.canx c).ant.step = 2) ∧ (c < s.can.length)) ∧
    (let s : State := { benchCan 2 [] with can := [{ bufs := [(0, {})] }] ++ List.replicate 7 {} }; let c : Fin 8 := 0; let b : CanBuf := {}; (s.up = true) ∧ (b = s.canBuf c.val (s.oN (Obj.canRxSelect c.val)))) ∧
    (let s : State := { benchCan 2 [] with can := [{ bufs := [(0, { locked := true, isNew := true })] }] ++ List.replicate 7 {} }; let c : Fin 8 := 0; let b : CanBuf := { locked := true, isNew := true }; (s.up = true) ∧ (b = s.canBuf c.val (s.oN (Obj.canRxSelect c.val))) ∧ (b.locked = true) ∧ (b.copy = none)) ∧
    (let s : State := { benchCan 2 [] with can := [{ bufs := [(0, { locked := true, copy := some ([5], [1], true) })] }] ++ List.replicate 7 {} }; let c : Fin 8 := 0; let b : CanBuf := { locked := true, copy := some ([5], [1], true) }; let h : List Nat := [5]; let d : List Nat := [1]; let l : Bool := true; (s.up = true) ∧ (b = s.canBuf c.val (s.oN (Obj.canRxSelect c.val))) ∧ (b.locked = true) ∧ (b.copy = some (h, d, l))) ∧
    (let s : State := { benchCan 2 [] with can := [{ bufs := [(0, {})] }] ++ List.replicate 7 {} }; let c : Fin 8 := 0; let b : CanBuf := {}; (b = s.canBuf c.val (s.oN (Obj.canRxSelect c.val))) ∧ (b.locked = false)) ∧
    (let s : State := benchCan 2 []; let c : Fin 8 := 0; let b : List Byte := []; let q : Bool := true; let role : Role := .observer; let r : State := s.put Obj.roaLastError 0x05; (s.up = true) ∧ (roleRank role < 2) ∧ (r = s.put Obj.roaLastError 0x05)) ∧
    (let s : State := {}; let c : Fin 8 := 0; let b : List Byte := []; let q : Bool := true; let role : Role := .operator; let r : State := {}; (s.up = false) ∧ (r = s)) :=
  by
  refine ⟨?_, ?_, ?_, ?_, ?_, ?_, ?_, ?_, ?_, ?_, ?_, ?_, ?_, ?_, ?_, ?_, ?_, ?_, ?_, ?_, ?_, ?_, ?_, ?_, ?_, ?_, ?_, ?_, ?_, ?_, ?_, ?_, ?_, ?_, ?_, ?_, ?_, ?_, ?_, ?_, ?_, ?_, ?_, ?_, ?_, ?_, ?_, ?_, ?_, ?_, ?_, ?_, ?_, ?_, ?_, ?_, ?_, ?_, ?_, ?_, ?_, ?_, ?_, ?_, ?_, ?_⟩ <;> decide +kernel

/-! ## Network, time and safe link (chapters 19 and 20) -/

/-- Every clause of EthernetFramesLinksAndGates has a case. -/
theorem wit_EthernetFramesLinksAndGates :
    (let s : State := bench 2 [] []; let port : Fin 4 := 3; let f : EthIn := {}; (s.portUp port.val = false)) ∧
    (let s : State := bench 2 [(Obj.xgLinkState 1, 2)] []; let port : Fin 4 := 1; let f : EthIn := { size := 1523 }; (s.portUp port.val = true) ∧ (s.frameMax port.val < f.size.toNat)) ∧
    (let s : State := bench 2 [(Obj.xgLinkState 1, 2)] []; let port : Fin 4 := 1; let f : EthIn := { vlan := some 9 }; let v : BitVec 12 := 9; (s.portUp port.val = true) ∧ (f.vlan = some v) ∧ (v ≠ 0) ∧ (v.toNat ≠ s.portVlan port.val)) ∧
    (let s : State := bench 2 [] [(Obj.t1sEnable 0, 1)]; let port : Fin 4 := 2; let f : EthIn := { overRate := true }; (s.portUp port.val = true) ∧ (f.size.toNat ≤ s.frameMax port.val) ∧ (f.vlan = none ∨ f.vlan = some 0 ∨ f.vlan = some (BitVec.ofNat 12 (s.portVlan port.val)) ∧ s.portVlan port.val < 4096) ∧ (f.overRate = true)) ∧
    (let s : State := { bench 2 [] [] with net := { rxDropAt := [some 0, none, none, none] } }; let p : Nat := 0; ((s.net.rxDropAt.getD p none).any (fun t => decide (s.mono < t + 1000000000)) = true)) ∧
    (let s : State := bench 2 [] []; let p : Nat := 3; ((s.net.rxDropAt.getD p none).any (fun t => decide (s.mono < t + 1000000000)) = false)) ∧
    (let s : State := bench 2 [] [(Obj.t1sEnable 0, 1)]; let port : Fin 4 := 2; let f : EthIn := { ether := 0x88F7 }; (s.portUp port.val = true) ∧ (f.size.toNat ≤ s.frameMax port.val) ∧ (f.vlan = none ∨ f.vlan = some 0 ∨ f.vlan = some (BitVec.ofNat 12 (s.portVlan port.val)) ∧ s.portVlan port.val < 4096) ∧ (f.overRate = false) ∧ (f.ether = 0x88F7)) ∧
    (let s : State := bench 2 [] [(Obj.t1sEnable 0, 1)]; let port : Fin 4 := 2; let f : EthIn := { ether := 0x0806 }; (s.portUp port.val = true) ∧ (f.size.toNat ≤ s.frameMax port.val) ∧ (f.vlan = none ∨ f.vlan = some 0 ∨ f.vlan = some (BitVec.ofNat 12 (s.portVlan port.val)) ∧ s.portVlan port.val < 4096) ∧ (f.overRate = false) ∧ (f.ether ≠ 0x88F7) ∧ ((f.toUs = true ∧ (f.ether = 0x0806 ∨ f.echo = true)))) ∧
    (let s : State := bench 2 [] [(Obj.t1sEnable 0, 1), (Obj.t1sEslUdpPort 0, 7)]; let port : Fin 4 := 2; let f : EthIn := { ether := 0x0800, udp := 7 }; (s.portUp port.val = true) ∧ (f.size.toNat ≤ s.frameMax port.val) ∧ (f.vlan = none ∨ f.vlan = some 0 ∨ f.vlan = some (BitVec.ofNat 12 (s.portVlan port.val)) ∧ s.portVlan port.val < 4096) ∧ (f.overRate = false) ∧ (f.echo = false) ∧ ((f.toUs = true ∧ f.ether = 0x0800 ∧ f.udp.toNat = s.eslPort port.val))) ∧
    (let s : State := bench 2 [] [(Obj.t1sEnable 0, 1), (Obj.t1sEslUdpPort 0, 7), (Obj.roaUdpPort, 8), (Obj.roaPortEnable, 0xF)]; let port : Fin 4 := 2; let f : EthIn := { ether := 0x0800, udp := 8 }; (s.portUp port.val = true) ∧ (f.size.toNat ≤ s.frameMax port.val) ∧ (f.vlan = none ∨ f.vlan = some 0 ∨ f.vlan = some (BitVec.ofNat 12 (s.portVlan port.val)) ∧ s.portVlan port.val < 4096) ∧ (f.overRate = false) ∧ (f.echo = false) ∧ (f.udp.toNat ≠ s.eslPort port.val) ∧ ((f.toUs = true ∧ f.ether = 0x0800 ∧ f.udp.toNat = s.cN Obj.roaUdpPort ∧ s.roaOn (8 + port.val) = true))) ∧
    (let s : State := benchStation 2 [] [(Obj.t1sEnable 0, 1), (Obj.t1sEslUdpPort 0, 7), (Obj.roaUdpPort, 8), (Obj.monUdpPort, 9)]; let port : Fin 4 := 2; let f : EthIn := { ether := 0x0800, udp := 9 }; (s.portUp port.val = true) ∧ (f.size.toNat ≤ s.frameMax port.val) ∧ (f.vlan = none ∨ f.vlan = some 0 ∨ f.vlan = some (BitVec.ofNat 12 (s.portVlan port.val)) ∧ s.portVlan port.val < 4096) ∧ (f.overRate = false) ∧ (f.echo = false) ∧ (f.udp.toNat ≠ s.eslPort port.val) ∧ (¬ (f.toUs = true ∧ f.ether = 0x0800 ∧ f.udp.toNat = s.cN Obj.roaUdpPort ∧ s.roaOn (8 + port.val) = true)) ∧ ((f.toUs = true ∧ f.ether = 0x0800 ∧ f.udp.toNat = s.cN Obj.monUdpPort ∧ s.station = true))) ∧
    (let s : State := bench 2 [] [(Obj.t1sEnable 0, 1)]; let port : Fin 4 := 2; let f : EthIn := { ether := 0x86DD }; (s.portUp port.val = true) ∧ (f.size.toNat ≤ s.frameMax port.val) ∧ (f.vlan = none ∨ f.vlan = some 0 ∨ f.vlan = some (BitVec.ofNat 12 (s.portVlan port.val)) ∧ s.portVlan port.val < 4096) ∧ (f.overRate = false) ∧ (f.echo = false) ∧ ((2 ≤ port.val ∧ f.toUs = true ∧ f.ether = 0x86DD))) ∧
    (let s : State := bench 2 [] [(Obj.t1sEnable 0, 1)]; let port : Fin 4 := 2; let f : EthIn := { toUs := false }; (s.portUp port.val = true) ∧ (f.size.toNat ≤ s.frameMax port.val) ∧ (f.vlan = none ∨ f.vlan = some 0 ∨ f.vlan = some (BitVec.ofNat 12 (s.portVlan port.val)) ∧ s.portVlan port.val < 4096) ∧ (f.overRate = false) ∧ (f.ether ≠ 0x88F7) ∧ (¬ (f.toUs = true ∧ (f.ether = 0x0806 ∨ f.echo = true))) ∧ (¬ (f.toUs = true ∧ f.ether = 0x0800 ∧ f.udp.toNat = s.eslPort port.val)) ∧ (¬ (f.toUs = true ∧ f.ether = 0x0800 ∧ f.udp.toNat = s.cN Obj.roaUdpPort ∧ s.roaOn (8 + port.val) = true)) ∧ (¬ (f.toUs = true ∧ f.ether = 0x0800 ∧ f.udp.toNat = s.cN Obj.monUdpPort ∧ s.station = true)) ∧ (¬ (2 ≤ port.val ∧ f.toUs = true ∧ f.ether = 0x86DD))) ∧
    (let s : State := bench 2 [] []; let p : Nat := 1; let b : List Nat := []; (b.length ≠ 40 ∨ b.getD 0 0 ≠ 1 ∨ 8 < b.getD 1 0 ∨ b.getD 1 0 = 0)) ∧
    (let s : State := bench 2 [(Obj.xgLinkState 1, 2), (Obj.pllLockMap, 15)] [(Obj.xgEnable 1, 1)]; let port : Fin 2 := 1; let pll : Bool := true; let u : State := s.put Obj.pllLockMap (clearBit (s.oN Obj.pllLockMap) 3 : Nat); (s.serdesOn = true) ∧ (s.cN (Obj.xgEnable port.val) ≠ 0) ∧ (u = (if pll then s.put Obj.pllLockMap (clearBit (s.oN Obj.pllLockMap) (port.val + 2) : Nat) else s)) ∧ (u.oN (Obj.xgLinkState port.val) = 2)) ∧
    (let s : State := bench 2 [(Obj.xgLinkState 1, 1), (Obj.pllLockMap, 15)] [(Obj.xgEnable 1, 1)]; let port : Fin 2 := 1; let pll : Bool := false; let u : State := s; (s.serdesOn = true) ∧ (s.cN (Obj.xgEnable port.val) ≠ 0) ∧ (u = (if pll then s.put Obj.pllLockMap (clearBit (s.oN Obj.pllLockMap) (port.val + 2) : Nat) else s)) ∧ (u.oN (Obj.xgLinkState port.val) ≠ 2)) ∧
    (let s : State := bench 2 [] []; let port : Fin 2 := 1; let pll : Bool := true; (s.serdesOn = false ∨ s.cN (Obj.xgEnable port.val) = 0)) ∧
    (let s : State := { bench 2 [] [] with net := { queues := [[], [{ cls := 0, size := 64, udp := 0, partner := 0, payload := [] }], [], []] } }; let p : Nat := 1; (p < 2) ∧ (0 ≤ s.o (Obj.xgTxDropCount p))) ∧
    (let s : State := bench 2 [(Obj.xgLinkState 1, 1), (Obj.pllLockMap, 15)] [(Obj.xgEnable 1, 1)]; let port : Fin 2 := 1; (s.serdesOn = true) ∧ (s.cN (Obj.xgEnable port.val) = 1) ∧ (s.oN (Obj.xgLinkState port.val) = 1) ∧ ((s.oN Obj.pllLockMap).testBit (port.val + 2) = true)) ∧
    (let s : State := bench 2 [(Obj.xgLinkState 1, 1), (Obj.pllLockMap, 4)] [(Obj.xgEnable 1, 1)]; let port : Fin 2 := 1; (s.serdesOn = false ∨ s.cN (Obj.xgEnable port.val) ≠ 1 ∨ s.oN (Obj.xgLinkState port.val) ≠ 1 ∨ (s.oN Obj.pllLockMap).testBit (port.val + 2) = false)) ∧
    (let s : State := bench 2 [] [(Obj.xgEnable 1, 1)]; let port : Fin 2 := 1; (s.serdesOn = true) ∧ (s.cN (Obj.xgEnable port.val) = 1)) ∧
    (let s : State := bench 2 [] []; let port : Fin 2 := 1; (s.serdesOn = false ∨ s.cN (Obj.xgEnable port.val) ≠ 1)) ∧
    (let s : State := bench 1 [] []; let port : Fin 2 := 1; (s.serdesOn = false)) ∧
    (let s : State := bench 2 [] []; let port : Fin 2 := 1; (s.serdesOn = true) ∧ (s.cN (Obj.xgGateEnable port.val) = 0)) ∧
    (let s : State := { bench 2 [] [(Obj.xgGateEnable 1, 1)] with net := { gates := [[], [(500, 1), (500, 2)]], gateIx := [0, 0], gateAt := [0, 0] } }; let port : Fin 2 := 1; let l : List (Nat × Nat) := [(500, 1), (500, 2)]; let k : Nat := 0; (s.serdesOn = true) ∧ (s.cN (Obj.xgGateEnable port.val) ≠ 0) ∧ (l = s.net.gates.getD port.val []) ∧ (k = s.net.gateIx.getD port.val 0) ∧ (k + 1 < l.length)) ∧
    (let s : State := { bench 2 [] [(Obj.xgGateEnable 1, 1)] with net := { gates := [[], [(500, 1), (500, 2)]], gateIx := [0, 1], gateAt := [0, 0] } }; let port : Fin 2 := 1; let l : List (Nat × Nat) := [(500, 1), (500, 2)]; let k : Nat := 1; let a : Nat := 0; (s.serdesOn = true) ∧ (s.cN (Obj.xgGateEnable port.val) ≠ 0) ∧ (l = s.net.gates.getD port.val []) ∧ (k = s.net.gateIx.getD port.val 0) ∧ (l.length ≤ k + 1) ∧ (a = (if cycleNs (s.gateList port.val) = 0 ∨ s.now < s.cN (Obj.xgGateBase port.val) then s.now else s.cN (Obj.xgGateBase port.val) + (s.now - s.cN (Obj.xgGateBase port.val)) / cycleNs (s.gateList port.val) * cycleNs (s.gateList port.val)))) ∧
    (let s : State := bench 2 [] [(Obj.t1sEnable 0, 1), (Obj.t1sPlcaEnable 0, 1), (Obj.t1sPlcaNodeId 0, 3)]; let port : Fin 2 := 0; (s.up = true) ∧ (s.cN (Obj.t1sEnable port.val) = 1) ∧ (s.cN (Obj.t1sPlcaEnable port.val) = 1) ∧ (s.cN (Obj.t1sPlcaNodeId port.val) ≠ 0) ∧ (s.oN (Obj.t1sPlcaState port.val) ≠ 2)) ∧
    (let s : State := bench 2 [] []; let port : Fin 2 := 0; (s.up = false ∨ s.cN (Obj.t1sEnable port.val) ≠ 1 ∨ s.cN (Obj.t1sPlcaEnable port.val) ≠ 1 ∨ s.cN (Obj.t1sPlcaNodeId port.val) = 0 ∨ s.oN (Obj.t1sPlcaState port.val) = 2)) ∧
    (let s : State := bench 2 [] [(Obj.t1sEnable 1, 1), (Obj.t1sPlcaEnable 1, 1)]; let port : Fin 2 := 1; (s.up = true) ∧ (s.cN (Obj.t1sEnable port.val) = 1) ∧ (s.cN (Obj.t1sPlcaEnable port.val) = 1)) ∧
    (let s : State := bench 2 [] []; let port : Fin 2 := 1; (s.up = false ∨ s.cN (Obj.t1sEnable port.val) ≠ 1 ∨ s.cN (Obj.t1sPlcaEnable port.val) ≠ 1)) ∧
    (let s : State := bench 2 [] []; (s.up = false ∨ s.net.records = [])) ∧
    (let s : State := { bench 2 [(Obj.xgLinkState 0, 2)] [(Obj.streamPort, 0)] with net := { records := [[1, 2]] } }; let b : List Nat := natBytes 4 s.net.streamSeq ++ natBytes 2 s.net.records.length ++ natBytes 1 s.streamPorts.length ++ [0] ++ natBytes 8 s.net.firstTime ++ s.net.records.flatten; (s.up = true) ∧ (s.net.records ≠ []) ∧ (b = natBytes 4 s.net.streamSeq ++ natBytes 2 s.net.records.length ++ natBytes 1 s.streamPorts.length ++ [0] ++ natBytes 8 s.net.firstTime ++ s.net.records.flatten)) ∧
    (let s : State := { bench 2 [(Obj.xgLinkState 0, 1)] [(Obj.streamPort, 0)] with net := { records := [[1, 2]] } }; let b : List Nat := natBytes 4 s.net.streamSeq ++ natBytes 2 s.net.records.length ++ natBytes 1 s.streamPorts.length ++ [0] ++ natBytes 8 s.net.firstTime ++ s.net.records.flatten; let r : State × Bool := s.netUdp (s.cN Obj.streamPort) (s.cN Obj.streamPcp) (s.cN Obj.streamUdpPort) 0xFFFF b; let v : State := r.1.netMod (fun n => { n with records := [], streamSeq := (n.streamSeq + 1) % 4294967296 }); (s.up = true) ∧ (s.net.records ≠ []) ∧ (b = natBytes 4 s.net.streamSeq ++ natBytes 2 s.net.records.length ++ natBytes 1 s.streamPorts.length ++ [0] ++ natBytes 8 s.net.firstTime ++ s.net.records.flatten) ∧ (r = s.netUdp (s.cN Obj.streamPort) (s.cN Obj.streamPcp) (s.cN Obj.streamUdpPort) 0xFFFF b) ∧ (v = r.1.netMod (fun n => { n with records := [], streamSeq := (n.streamSeq + 1) % 4294967296 })) ∧ (r.2 = false) ∧ (s.net.streamDropAt = none)) ∧
    (let s : State := { bench 2 [(Obj.xgLinkState 0, 1)] [(Obj.streamPort, 0)] with net := { records := [[1, 2]], streamDropAt := some 0 } }; let b : List Nat := natBytes 4 s.net.streamSeq ++ natBytes 2 s.net.records.length ++ natBytes 1 s.streamPorts.length ++ [0] ++ natBytes 8 s.net.firstTime ++ s.net.records.flatten; let r : State × Bool := s.netUdp (s.cN Obj.streamPort) (s.cN Obj.streamPcp) (s.cN Obj.streamUdpPort) 0xFFFF b; let v : State := r.1.netMod (fun n => { n with records := [], streamSeq := (n.streamSeq + 1) % 4294967296 }); let a : Nat := 0; (s.up = true) ∧ (s.net.records ≠ []) ∧ (b = natBytes 4 s.net.streamSeq ++ natBytes 2 s.net.records.length ++ natBytes 1 s.streamPorts.length ++ [0] ++ natBytes 8 s.net.firstTime ++ s.net.records.flatten) ∧ (r = s.netUdp (s.cN Obj.streamPort) (s.cN Obj.streamPcp) (s.cN Obj.streamUdpPort) 0xFFFF b) ∧ (v = r.1.netMod (fun n => { n with records := [], streamSeq := (n.streamSeq + 1) % 4294967296 })) ∧ (r.2 = false) ∧ (s.net.streamDropAt = some a) ∧ (s.mono < a + 1000000000)) ∧
    (let s : State := { bench 2 [(Obj.xgLinkState 0, 1)] [(Obj.streamPort, 0)] with net := { records := [[1, 2]], streamDropAt := some 0 }, tick := 80000000 }; let b : List Nat := natBytes 4 s.net.streamSeq ++ natBytes 2 s.net.records.length ++ natBytes 1 s.streamPorts.length ++ [0] ++ natBytes 8 s.net.firstTime ++ s.net.records.flatten; let r : State × Bool := s.netUdp (s.cN Obj.streamPort) (s.cN Obj.streamPcp) (s.cN Obj.streamUdpPort) 0xFFFF b; let v : State := r.1.netMod (fun n => { n with records := [], streamSeq := (n.streamSeq + 1) % 4294967296 }); let a : Nat := 0; (s.up = true) ∧ (s.net.records ≠ []) ∧ (b = natBytes 4 s.net.streamSeq ++ natBytes 2 s.net.records.length ++ natBytes 1 s.streamPorts.length ++ [0] ++ natBytes 8 s.net.firstTime ++ s.net.records.flatten) ∧ (r = s.netUdp (s.cN Obj.streamPort) (s.cN Obj.streamPcp) (s.cN Obj.streamUdpPort) 0xFFFF b) ∧ (v = r.1.netMod (fun n => { n with records := [], streamSeq := (n.streamSeq + 1) % 4294967296 })) ∧ (r.2 = false) ∧ (s.net.streamDropAt = some a) ∧ (a + 1000000000 ≤ s.mono)) ∧
    (let s : State := bench 2 [] [(Obj.devTimePpsOut, 1)]; (s.up = true) ∧ (s.cN Obj.devTimePpsOut = 1)) ∧
    (let s : State := bench 2 [] []; (s.up = false ∨ s.cN Obj.devTimePpsOut ≠ 1)) ∧
    (let s : State := bench 2 [] []; let port : Fin 4 := 1; let g : Bool := true; (s.portUp port.val = false)) ∧
    (let s : State := benchStation 8 [(Obj.tdState, 4)] [(Obj.tdEnable, 1), (Obj.lkPostPort, 0), (Obj.t1sEnable 0, 1)]; let port : Fin 4 := 2; let g : Bool := false; (s.portUp port.val = true) ∧ ((s.cN Obj.tdEnable = 1 ∧ s.oN Obj.tdState = 4 ∧ port.val = 2 + (if s.station then s.cN Obj.lkPostPort else s.cN Obj.lkPort) % 2)) ∧ (s.station = true)) ∧
    (let s : State := bench 6 [(Obj.tdState, 4)] [(Obj.tdEnable, 1), (Obj.lkPort, 0), (Obj.t1sEnable 0, 1)]; let port : Fin 4 := 2; let g : Bool := true; ((s.cN Obj.tdEnable = 1 ∧ s.oN Obj.tdState = 4 ∧ port.val = 2 + (if s.station then s.cN Obj.lkPostPort else s.cN Obj.lkPort) % 2)) ∧ (s.station = false)) ∧
    (let s : State := bench 2 [(Obj.xgLinkState 1, 2)] []; let port : Fin 4 := 1; let g : Bool := true; (s.portUp port.val = true) ∧ (¬ (s.cN Obj.tdEnable = 1 ∧ s.oN Obj.tdState = 4 ∧ port.val = 2 + (if s.station then s.cN Obj.lkPostPort else s.cN Obj.lkPort) % 2)) ∧ (g = true) ∧ (s.cN Obj.devTimePriority1 ≠ 255)) ∧
    (let s : State := bench 2 [(Obj.xgLinkState 1, 2)] []; let port : Fin 4 := 1; let g : Bool := false; (¬ (s.cN Obj.tdEnable = 1 ∧ s.oN Obj.tdState = 4 ∧ port.val = 2 + (if s.station then s.cN Obj.lkPostPort else s.cN Obj.lkPort) % 2)) ∧ (g = false ∨ s.cN Obj.devTimePriority1 = 255)) ∧
    (let s : State := bench 2 [] []; let p : Nat := 1; let f : TxFrame := { cls := 0, size := 64, udp := 0, partner := 0, payload := [] }; (s.portUp p = false)) ∧
    (let s : State := bench 2 [(Obj.xgLinkState 1, 2)] []; let p : Nat := 1; let f : TxFrame := { cls := 0, size := 64, udp := 0, partner := 0, payload := [] }; (p < s.net.queues.length)) :=
  by
  refine ⟨?_, ?_, ?_, ?_, ?_, ?_, ?_, ?_, ?_, ?_, ?_, ?_, ?_, ?_, ?_, ?_, ?_, ?_, ?_, ?_, ?_, ?_, ?_, ?_, ?_, ?_, ?_, ?_, ?_, ?_, ?_, ?_, ?_, ?_, ?_, ?_, ?_, ?_, ?_, ?_, ?_, ?_, ?_, ?_⟩ <;> decide +kernel

/-- Every clause of DeviceTimeFollowsItsReferences has a case. -/
theorem wit_DeviceTimeFollowsItsReferences :
    (let s : State := bench 2 [] []; let time : BitVec 64 := 5; (s.up = true)) ∧
    (let s : State := bench 2 [] []; let time : BitVec 64 := 5; let off : Int := (5 : Int) - s.now; (s.up = true) ∧ (s.net.tdAt = none) ∧ (off = (time.toNat : Int) - s.now)) ∧
    (let s : State := { bench 2 [] [] with devSub := 2000000000000, net := { tdAt := some 0 } }; let time : BitVec 64 := 5; let off : Int := (5 : Int) - 1000; let a : Nat := 0; (s.up = true) ∧ (s.net.tdAt = some a) ∧ (a < s.now) ∧ (off = (time.toNat : Int) - s.now)) ∧
    (let s : State := { bench 2 [] [] with net := { tdAt := some 9 } }; let time : BitVec 64 := 5; let off : Int := (5 : Int) - s.now; let a : Nat := 9; (s.up = true) ∧ (s.net.tdAt = some a) ∧ (s.now ≤ a) ∧ (off = (time.toNat : Int) - s.now)) ∧
    (let s : State := {}; let time : BitVec 64 := 5; let td : Bool := true; (s.up = false)) ∧
    (let s : State := bench 2 [] []; let off : Int := -7; let first : Bool := true; let u : State := s.put Obj.devTimeOffset (-7); (u = s.put Obj.devTimeOffset (max (-2147483648) (min 2147483647 off))) ∧ (first = true ∨ (u.cN Obj.devTimeStepThreshold : Int) ≤ |off|) ∧ (off ≤ 0 ∨ s.mtr.session = none)) ∧
    (let s : State := { bench 2 [] [] with mtr := { session := some default } }; let off : Int := 7; let first : Bool := true; let u : State := s.put Obj.devTimeOffset 7; let x : MtrSess := default; (u = s.put Obj.devTimeOffset (max (-2147483648) (min 2147483647 off))) ∧ (first = true ∨ (u.cN Obj.devTimeStepThreshold : Int) ≤ |off|) ∧ (0 < off) ∧ (s.mtr.session = some x)) ∧
    (let s : State := bench 2 [] [(Obj.devTimeStepThreshold, 1000)]; let off : Int := -7; let u : State := s.put Obj.devTimeOffset (-7); (u = s.put Obj.devTimeOffset (max (-2147483648) (min 2147483647 off))) ∧ (|off| < (u.cN Obj.devTimeStepThreshold : Int))) ∧
    (let s : State := bench 2 [] []; (s.net.back = 0)) ∧
    (let s : State := { bench 2 [] [] with net := { back := 5000000, rateAfter := 7 } }; (0 < s.net.back)) ∧
    (let s : State := bench 2 [(Obj.devTimeState, 1)] []; (s.up = true) ∧ (s.oN Obj.devTimeState = 1)) ∧
    (let s : State := bench 2 [(Obj.devTimeState, 2)] []; (s.up = false ∨ s.oN Obj.devTimeState ≠ 1)) ∧
    (let s : State := bench 2 [(Obj.devTimeState, 2)] []; (s.up = true) ∧ (s.oN Obj.devTimeState = 2)) ∧
    (let s : State := bench 2 [(Obj.devTimeState, 1)] []; (s.up = false ∨ s.oN Obj.devTimeState ≠ 2)) ∧
    (let s : State := { bench 2 [(Obj.devTimeState, 0)] [(Obj.devTimePpsIn, 1)] with devSub := 0 }; (s.up = true) ∧ (s.cN Obj.devTimePpsIn = 1) ∧ (s.oN Obj.devTimeState ≠ 1) ∧ (s.now % 1000000000 < 500000000)) ∧
    (let s : State := { bench 2 [(Obj.devTimeState, 0)] [(Obj.devTimePpsIn, 1)] with devSub := 1999999998000000000 }; (s.up = true) ∧ (s.cN Obj.devTimePpsIn = 1) ∧ (s.oN Obj.devTimeState ≠ 1) ∧ (500000000 ≤ s.now % 1000000000)) ∧
    (let s : State := bench 2 [(Obj.devTimeState, 1)] [(Obj.devTimePpsIn, 1)]; (s.up = false ∨ s.cN Obj.devTimePpsIn ≠ 1 ∨ s.oN Obj.devTimeState = 1)) :=
  by
  refine ⟨?_, ?_, ?_, ?_, ?_, ?_, ?_, ?_, ?_, ?_, ?_, ?_, ?_, ?_, ?_, ?_, ?_⟩ <;> decide +kernel

/-- Every clause of SafeLinkFramesAndWatchdogs has a case. -/
theorem wit_SafeLinkFramesAndWatchdogs :
    (let s : State := {}; let tr : Fin 12 := 4; let src : BitVec 32 := 0; let e : BitVec 13 := 1; let d : List Byte := []; (s.up = false)) ∧
    (let s : State := bench 2 [] []; let tr : Fin 12 := 1; let src : BitVec 32 := 0; let e : BitVec 13 := 1; let d : List Byte := []; (s.up = true) ∧ (tr.val < 4) ∧ (s.udpEntry tr.val src.toNat (pay (bytesNat d) 0 2) = none)) ∧
    (let s : State := { bench 2 [] [] with mem := [(domAddr Obj.partnerTable (64 * 1), 3), (domAddr Obj.partnerTable (64 * 1 + 1), 1), (domAddr Obj.partnerTable (64 * 1 + 4), 9)] }; let tr : Fin 12 := 1; let src : BitVec 32 := 0; let e : BitVec 13 := 0; let d : List Byte := [9, 0]; let k : Nat := 1; (s.up = true) ∧ (tr.val < 4) ∧ (s.udpEntry tr.val src.toNat (pay (bytesNat d) 0 2) = some k)) ∧
    (let s : State := bench 2 [] []; let tr : Fin 12 := 4; let src : BitVec 32 := 0; let e : BitVec 13 := 1; let d : List Byte := []; (s.up = true) ∧ (4 ≤ tr.val)) ∧
    (let s : State := bench 2 [] []; let e : Nat := 1; let b : List Nat := []; (s.ptFlag e 0 = false)) ∧
    (let s : State := { bench 2 [] [] with mem := [(domAddr Obj.partnerTable (64 * 1), 3), (domAddr Obj.partnerTable (64 * 1 + 1), 12), (domAddr Obj.partnerTable (64 * 1 + 2), 5)], esl := [(5, { state := 1 })] }; let e : Nat := 1; let b : List Nat := []; (s.ptFlag e 0 = true) ∧ (s.ptFlag e 1 = true)) ∧
    (let s : State := { bench 2 [] [] with mem := [(domAddr Obj.partnerTable (64 * 1), 1), (domAddr Obj.partnerTable (64 * 1 + 1), 12), (domAddr Obj.partnerTable (64 * 1 + 2), 5), (domAddr Obj.partnerTable (64 * 1 + 6), 4)], esl := [(5, { state := 1 })] }; let e : Nat := 1; let b : List Nat := [1, 2, 3, 4]; (s.ptFlag e 0 = true) ∧ (s.ptFlag e 1 = false) ∧ (s.pt e 6 2 ≠ 0) ∧ (s.pt e 6 2 ≤ b.length)) ∧
    (let s : State := { bench 2 [] [] with mem := [(domAddr Obj.partnerTable (64 * 1), 1), (domAddr Obj.partnerTable (64 * 1 + 1), 12), (domAddr Obj.partnerTable (64 * 1 + 2), 5), (domAddr Obj.partnerTable (64 * 1 + 6), 4)], esl := [(5, { state := 1 })] }; let e : Nat := 1; let b : List Nat := [1, 2, 3]; (s.ptFlag e 0 = true) ∧ (s.ptFlag e 1 = false) ∧ (s.pt e 6 2 = 0 ∨ b.length < s.pt e 6 2)) ∧
    (let s : State := { bench 2 [] [] with mem := [(domAddr Obj.partnerTable (64 * 1), 3), (domAddr Obj.partnerTable (64 * 1 + 1), 12), (domAddr Obj.partnerTable (64 * 1 + 2), 5), (domAddr Obj.partnerTable (64 * 1 + 6), 4)], esl := [(5, { state := 0 })] }; let e : Nat := 1; let b : List Nat := []; ((s.eslx (s.pt e 2 2)).state = 0 ∨ s.pt e 6 2 = 0)) ∧
    (let s : State := { bench 2 [] [] with mem := [(domAddr Obj.partnerTable (64 * 1), 3), (domAddr Obj.partnerTable (64 * 1 + 1), 12), (domAddr Obj.partnerTable (64 * 1 + 2), 5), (domAddr Obj.partnerTable (64 * 1 + 6), 4)], esl := [(5, { state := 1 })] }; let e : Nat := 1; let b : List Nat := []; ((s.eslx (s.pt e 2 2)).state ≠ 0) ∧ (s.pt e 6 2 ≠ 0) ∧ (b.length ≠ 8 + s.pt e 6 2) ∧ (¬ (4 ≤ s.pt e 1 1 ∧ s.pt e 1 1 ≤ 11 ∧ b.length = padTo 1 (8 + s.pt e 6 2)))) ∧
    (let s : State := { bench 2 [] [] with mem := [(domAddr Obj.partnerTable (64 * 1), 3), (domAddr Obj.partnerTable (64 * 1 + 1), 12), (domAddr Obj.partnerTable (64 * 1 + 2), 5), (domAddr Obj.partnerTable (64 * 1 + 6), 4)], esl := [(5, { state := 1 })] }; let e : Nat := 1; let b : List Nat := List.replicate 12 0; ((s.eslx (s.pt e 2 2)).state ≠ 0) ∧ (s.pt e 6 2 ≠ 0) ∧ (b.length = 8 + s.pt e 6 2 ∨ (4 ≤ s.pt e 1 1 ∧ s.pt e 1 1 ≤ 11 ∧ b.length = padTo 1 (8 + s.pt e 6 2))) ∧ (pay b (4 + s.pt e 6 2) 4 ≠ crc32c (natBytes 4 (s.eslIdentity e false) ++ b.take (4 + s.pt e 6 2)))) ∧
    (let s : State := { bench 2 [] [] with mem := [(domAddr Obj.partnerTable (64 * 1), 3), (domAddr Obj.partnerTable (64 * 1 + 1), 12), (domAddr Obj.partnerTable (64 * 1 + 2), 5), (domAddr Obj.partnerTable (64 * 1 + 6), 4)], esl := [(5, { state := 1 })] }; let e : Nat := 1; let b : List Nat := [5, 0, 0, 0, 1, 2, 3, 4] ++ natBytes 4 (crc32c (natBytes 4 0 ++ [5, 0, 0, 0, 1, 2, 3, 4])); ((s.eslx (s.pt e 2 2)).state ≠ 0) ∧ (s.pt e 6 2 ≠ 0) ∧ (b.length = 8 + s.pt e 6 2 ∨ (4 ≤ s.pt e 1 1 ∧ s.pt e 1 1 ≤ 11 ∧ b.length = padTo 1 (8 + s.pt e 6 2))) ∧ (pay b (4 + s.pt e 6 2) 4 = crc32c (natBytes 4 (s.eslIdentity e false) ++ b.take (4 + s.pt e 6 2)))) ∧
    (let s : State := { bench 2 [] [] with mem := [(domAddr Obj.partnerTable (64 * 1), 3), (domAddr Obj.partnerTable (64 * 1 + 1), 12), (domAddr Obj.partnerTable (64 * 1 + 2), 5)], esl := [(5, { state := 1, crcAt := some 0 })] }; let n : Nat := 5; let crc : Bool := true; let a : Nat := 0; ((if crc then (s.eslx n).crcAt else (s.eslx n).seqAt) = some a) ∧ (s.mono < a + 1000000000)) ∧
    (let s : State := { bench 2 [] [] with mem := [(domAddr Obj.partnerTable (64 * 1), 3), (domAddr Obj.partnerTable (64 * 1 + 1), 12), (domAddr Obj.partnerTable (64 * 1 + 2), 5)], esl := [(5, { state := 1 })] }; let n : Nat := 5; let crc : Bool := false; ((if crc then (s.eslx n).crcAt else (s.eslx n).seqAt) = none)) ∧
    (let s : State := { bench 2 [] [] with mem := [(domAddr Obj.partnerTable (64 * 1), 3), (domAddr Obj.partnerTable (64 * 1 + 1), 12), (domAddr Obj.partnerTable (64 * 1 + 2), 5)], esl := [(5, { state := 1, crcAt := some 0 })], tick := 80000000 }; let n : Nat := 5; let crc : Bool := true; let a : Nat := 0; ((if crc then (s.eslx n).crcAt else (s.eslx n).seqAt) = some a) ∧ (a + 1000000000 ≤ s.mono)) ∧
    (let s : State := { bench 2 [] [] with mem := [(domAddr Obj.partnerTable (64 * 1), 3), (domAddr Obj.partnerTable (64 * 1 + 1), 12), (domAddr Obj.partnerTable (64 * 1 + 2), 5), (domAddr Obj.partnerTable (64 * 1 + 6), 4), (domAddr Obj.partnerTable (64 * 1 + 12), 3)], esl := [(5, { state := 1 })] }; let e : Nat := 1; let n : Nat := 5; let q : Nat := 0; let b : List Nat := []; ((s.eslx n).state = 1 ∨ (s.eslx n).state = 4 ∧ s.ptFlag e 4 = false) ∧ (q = 0)) ∧
    (let s : State := { bench 2 [] [] with mem := [(domAddr Obj.partnerTable (64 * 1), 3), (domAddr Obj.partnerTable (64 * 1 + 1), 12), (domAddr Obj.partnerTable (64 * 1 + 2), 5), (domAddr Obj.partnerTable (64 * 1 + 6), 4), (domAddr Obj.partnerTable (64 * 1 + 12), 3)], esl := [(5, { state := 4 })] }; let e : Nat := 1; let n : Nat := 5; let q : Nat := 7; let b : List Nat := []; ((s.eslx n).state = 1 ∨ (s.eslx n).state = 4 ∧ s.ptFlag e 4 = false) ∧ (q ≠ 0)) ∧
    (let s : State := { bench 2 [] [] with mem := [(domAddr Obj.partnerTable (64 * 1), 19), (domAddr Obj.partnerTable (64 * 1 + 1), 12), (domAddr Obj.partnerTable (64 * 1 + 2), 5)], esl := [(5, { state := 4 })] }; let e : Nat := 1; let n : Nat := 5; let q : Nat := 0; let b : List Nat := []; ((s.eslx n).state = 4) ∧ (s.ptFlag e 4 = true)) ∧
    (let s : State := { bench 2 [] [(Obj.eslRecoverCount, 1)] with mem := [(domAddr Obj.partnerTable (64 * 1), 3), (domAddr Obj.partnerTable (64 * 1 + 1), 12), (domAddr Obj.partnerTable (64 * 1 + 2), 5), (domAddr Obj.partnerTable (64 * 1 + 6), 4), (domAddr Obj.partnerTable (64 * 1 + 12), 3)], esl := [(5, { state := 2, last := 7, run := 0 })] }; let e : Nat := 1; let n : Nat := 5; let q : Nat := 8; let b : List Nat := []; let k : Nat := 1; ((s.eslx n).state = 2) ∧ (seqAhead (s.pt e 12 1) (s.eslx n).last q = some k) ∧ ((s.eslx n).run + 1 = s.cN Obj.eslRecoverCount)) ∧
    (let s : State := { bench 2 [] [(Obj.eslRecoverCount, 4)] with mem := [(domAddr Obj.partnerTable (64 * 1), 3), (domAddr Obj.partnerTable (64 * 1 + 1), 12), (domAddr Obj.partnerTable (64 * 1 + 2), 5), (domAddr Obj.partnerTable (64 * 1 + 6), 4), (domAddr Obj.partnerTable (64 * 1 + 12), 3)], esl := [(5, { state := 2, last := 7, run := 0 })] }; let e : Nat := 1; let n : Nat := 5; let q : Nat := 8; let b : List Nat := []; let k : Nat := 1; ((s.eslx n).state = 2) ∧ (seqAhead (s.pt e 12 1) (s.eslx n).last q = some k) ∧ ((s.eslx n).run + 1 ≠ s.cN Obj.eslRecoverCount)) ∧
    (let s : State := { bench 2 [] [] with mem := [(domAddr Obj.partnerTable (64 * 1), 3), (domAddr Obj.partnerTable (64 * 1 + 1), 12), (domAddr Obj.partnerTable (64 * 1 + 2), 5), (domAddr Obj.partnerTable (64 * 1 + 6), 4), (domAddr Obj.partnerTable (64 * 1 + 12), 3)], esl := [(5, { state := 2, last := 7 })] }; let e : Nat := 1; let n : Nat := 5; let q : Nat := 70; let b : List Nat := []; ((s.eslx n).state = 2) ∧ (seqAhead (s.pt e 12 1) (s.eslx n).last q = none)) ∧
    (let s : State := { bench 2 [] [] with mem := [(domAddr Obj.partnerTable (64 * 1), 3), (domAddr Obj.partnerTable (64 * 1 + 1), 12), (domAddr Obj.partnerTable (64 * 1 + 2), 5), (domAddr Obj.partnerTable (64 * 1 + 6), 4), (domAddr Obj.partnerTable (64 * 1 + 12), 3)], esl := [(5, { state := 3, last := 7 })] }; let e : Nat := 1; let n : Nat := 5; let q : Nat := 9; let b : List Nat := []; let k : Nat := 2; ((s.eslx n).state = 3) ∧ (q ≠ 0) ∧ (seqAhead (s.pt e 12 1) (s.eslx n).last q = some k)) ∧
    (let s : State := { bench 2 [] [] with mem := [(domAddr Obj.partnerTable (64 * 1), 3), (domAddr Obj.partnerTable (64 * 1 + 1), 12), (domAddr Obj.partnerTable (64 * 1 + 2), 5), (domAddr Obj.partnerTable (64 * 1 + 6), 4), (domAddr Obj.partnerTable (64 * 1 + 12), 3)], esl := [(5, { state := 3, last := 7 })] }; let e : Nat := 1; let n : Nat := 5; let q : Nat := 70; let b : List Nat := []; ((s.eslx n).state = 3) ∧ (q ≠ 0) ∧ (seqAhead (s.pt e 12 1) (s.eslx n).last q = none)) ∧
    (let s : State := { bench 2 [] [] with mem := [(domAddr Obj.partnerTable (64 * 1), 3), (domAddr Obj.partnerTable (64 * 1 + 1), 12), (domAddr Obj.partnerTable (64 * 1 + 2), 5), (domAddr Obj.partnerTable (64 * 1 + 6), 4), (domAddr Obj.partnerTable (64 * 1 + 12), 3)], esl := [(5, { state := 3 })] }; let e : Nat := 1; let n : Nat := 5; let q : Nat := 0; let b : List Nat := []; ((s.eslx n).state = 3) ∧ (q = 0)) ∧
    (let s : State := { bench 2 [] [] with mem := [(domAddr Obj.partnerTable (64 * 1), 3), (domAddr Obj.partnerTable (64 * 1 + 1), 12), (domAddr Obj.partnerTable (64 * 1 + 2), 5)], esl := [(5, { state := 2 })] }; let c : BitVec 11 := 5; let e : Nat := 1; let v : State := ((s.eslMod c.toNat (fun x => { x with state := 4, run := 0, wdog := min (x.wdog + 1) 4294967295 })).substitutes e).eslHolds e true; (s.up = true) ∧ (s.eslEntry c.toNat = some e) ∧ ((s.eslx c.toNat).state = 1 ∨ (s.eslx c.toNat).state = 2 ∨ (s.eslx c.toNat).state = 3) ∧ (v = ((s.eslMod c.toNat (fun x => { x with state := 4, run := 0, wdog := min (x.wdog + 1) 4294967295 })).substitutes e).eslHolds e true)) ∧
    (let s : State := bench 2 [] []; let c : BitVec 11 := 5; (s.up = false ∨ s.eslEntry c.toNat = none ∨ (s.eslx c.toNat).state = 0 ∨ (s.eslx c.toNat).state = 4)) ∧
    (let s : State := bench 2 [] []; let e : BitVec 13 := 1; (s.up = false ∨ s.ptFlag e.toNat 0 = false ∨ s.pt e.toNat 14 2 = 0)) ∧
    (let s : State := { bench 2 [] [] with mem := [(domAddr Obj.partnerTable (64 * 1), 1), (domAddr Obj.partnerTable (64 * 1 + 1), 12), (domAddr Obj.partnerTable (64 * 1 + 2), 5), (domAddr Obj.partnerTable (64 * 1 + 14), 4)], esl := [(5, { state := 1 })] }; let e : BitVec 13 := 1; (s.up = true) ∧ (s.ptFlag e.toNat 0 = true) ∧ (s.pt e.toNat 14 2 ≠ 0) ∧ (s.ptFlag e.toNat 1 = false)) ∧
    (let s : State := { bench 2 [] [] with mem := [(domAddr Obj.partnerTable (64 * 1), 3), (domAddr Obj.partnerTable (64 * 1 + 1), 12), (domAddr Obj.partnerTable (64 * 1 + 2), 5), (domAddr Obj.partnerTable (64 * 1 + 14), 4)], esl := [(5, { state := 1 })] }; let e : BitVec 13 := 1; let r : State × Bool := s.entryPut e.toNat (s.eslFrame e.toNat (s.eslx (s.pt e.toNat 2 2)).next (s.txPayload e.toNat)); (s.up = true) ∧ (s.ptFlag e.toNat 0 = true) ∧ (s.pt e.toNat 14 2 ≠ 0) ∧ (s.ptFlag e.toNat 1 = true) ∧ (r = s.entryPut e.toNat (s.eslFrame e.toNat (s.eslx (s.pt e.toNat 2 2)).next (s.txPayload e.toNat))) ∧ (r.2 = false)) ∧
    (let s : State := { bench 2 [(Obj.canState 0, 2)] [(Obj.canEnable 0, 1)] with can := List.replicate 8 {}, mem := [(domAddr Obj.partnerTable (64 * 1), 3), (domAddr Obj.partnerTable (64 * 1 + 1), 4), (domAddr Obj.partnerTable (64 * 1 + 2), 5), (domAddr Obj.partnerTable (64 * 1 + 14), 4)], esl := [(5, { state := 1 })] }; let e : BitVec 13 := 1; let r : State × Bool := s.entryPut e.toNat (s.eslFrame e.toNat (s.eslx (s.pt e.toNat 2 2)).next (s.txPayload e.toNat)); let v : State := r.1.eslMod (s.pt e.toNat 2 2) (fun x => { x with next := seqNext x.next }); (s.up = true) ∧ (s.ptFlag e.toNat 0 = true) ∧ (s.pt e.toNat 14 2 ≠ 0) ∧ (s.ptFlag e.toNat 1 = true) ∧ (r = s.entryPut e.toNat (s.eslFrame e.toNat (s.eslx (s.pt e.toNat 2 2)).next (s.txPayload e.toNat))) ∧ (r.2 = true) ∧ (v = r.1.eslMod (s.pt e.toNat 2 2) (fun x => { x with next := seqNext x.next }))) ∧
    (let s : State := bench 2 [] []; let q : Nat := 65535; (q ≤ 65535)) :=
  by
  refine ⟨?_, ?_, ?_, ?_, ?_, ?_, ?_, ?_, ?_, ?_, ?_, ?_, ?_, ?_, ?_, ?_, ?_, ?_, ?_, ?_, ?_, ?_, ?_, ?_, ?_, ?_, ?_, ?_, ?_, ?_, ?_⟩ <;> decide +kernel

/-! ## Safety outputs and inputs (chapter 20) -/

/-- Every clause of SafetyOutputsAreProvedBeforeTheyConduct has a case. -/
theorem wit_SafetyOutputsAreProvedBeforeTheyConduct :
    (let s : State := bench 2 [(Obj.soState 1, 1), (Obj.soMode 1, 1)] []; let so : Fin 8 := 1; let reads : BitVec 10 := BitVec.ofNat 10 ((List.range 1024).find? (fun r => soTest r == 0) |>.getD 0); (s.safOn = true) ∧ (s.mode ≠ 9) ∧ (s.oN (Obj.soState so.val) = 1 ∨ s.oN (Obj.soState so.val) = 2) ∧ (s.oN (Obj.soMode so.val) = 1) ∧ (soTest reads.toNat = 0)) ∧
    (let s : State := bench 2 [(Obj.soState 1, 1), (Obj.soMode 1, 1)] []; let so : Fin 8 := 1; let reads : BitVec 10 := BitVec.ofNat 10 ((List.range 1024).find? (fun r => soTest r == 1) |>.getD 0); (s.safOn = true) ∧ (s.mode ≠ 9) ∧ (s.oN (Obj.soState so.val) = 1 ∨ s.oN (Obj.soState so.val) = 2) ∧ (s.oN (Obj.soMode so.val) = 1) ∧ (soTest reads.toNat = 1)) ∧
    (let s : State := bench 2 [(Obj.soState 1, 1), (Obj.soMode 1, 1)] []; let so : Fin 8 := 1; let reads : BitVec 10 := BitVec.ofNat 10 ((List.range 1024).find? (fun r => soTest r == 2) |>.getD 0); (s.safOn = true) ∧ (s.mode ≠ 9) ∧ (s.oN (Obj.soState so.val) = 1 ∨ s.oN (Obj.soState so.val) = 2) ∧ (s.oN (Obj.soMode so.val) = 1) ∧ (2 ≤ soTest reads.toNat)) ∧
    (let s : State := bench 2 [(Obj.soState 1, 1), (Obj.soMode 1, 2)] []; let so : Fin 8 := 1; let reads : BitVec 10 := 0; (s.safOn = true) ∧ (s.mode ≠ 9) ∧ (s.oN (Obj.soState so.val) = 1 ∨ s.oN (Obj.soState so.val) = 2) ∧ (s.oN (Obj.soMode so.val) = 2)) ∧
    (let s : State := bench 2 [(Obj.soState 1, 6), (Obj.soMode 1, 1)] []; let so : Fin 8 := 1; let reads : BitVec 10 := 0; (s.safOn = false ∨ s.mode = 9 ∨ (s.oN (Obj.soState so.val) ≠ 1 ∧ s.oN (Obj.soState so.val) ≠ 2) ∨ s.oN (Obj.soMode so.val) = 0)) ∧
    (let s : State := bench 2 [(Obj.soState 7, 3), (Obj.soMode 7, 1)] []; let so : Fin 8 := 7; (s.safOn = true) ∧ (s.oN (Obj.soMode so.val) ≠ 0) ∧ (s.oN (Obj.soState so.val) ≠ 6) ∧ (s.oN (Obj.soState so.val) ≠ 7)) ∧
    (let s : State := bench 2 [(Obj.soState 7, 6), (Obj.soMode 7, 1)] []; let so : Fin 8 := 7; (s.safOn = true) ∧ (s.oN (Obj.soMode so.val) = 0 ∨ s.oN (Obj.soState so.val) = 6 ∨ s.oN (Obj.soState so.val) = 7)) ∧
    (let s : State := {}; let so : Fin 8 := 7; (s.safOn = false)) ∧
    (let s : State := bench 2 [(Obj.soState 0, 1), (Obj.soMode 0, 1)] []; let so : Fin 8 := 0; let rb : BitVec 2 := 2; (s.safOn = true) ∧ (s.oN (Obj.soMode so.val) = 1) ∧ (s.oN (Obj.soState so.val) = 1) ∧ (rb ≠ 0)) ∧
    (let s : State := bench 2 [(Obj.soState 0, 3), (Obj.soMode 0, 1)] []; let so : Fin 8 := 0; let rb : BitVec 2 := 2; (s.safOn = true) ∧ (s.oN (Obj.soMode so.val) = 1) ∧ (s.oN (Obj.soState so.val) = 3) ∧ (rb ≠ 3)) ∧
    (let s : State := bench 2 [(Obj.soState 0, 3), (Obj.soMode 0, 1)] []; let so : Fin 8 := 0; let rb : BitVec 2 := 3; (s.safOn = true) ∧ (s.oN (Obj.soMode so.val) = 1) ∧ (s.oN (Obj.soState so.val) = 1 ∧ rb = 0 ∨ s.oN (Obj.soState so.val) = 3 ∧ rb = 3)) ∧
    (let s : State := bench 2 [(Obj.soState 0, 2), (Obj.soMode 0, 1)] []; let so : Fin 8 := 0; let rb : BitVec 2 := 3; (s.safOn = false ∨ s.oN (Obj.soMode so.val) ≠ 1 ∨ (s.oN (Obj.soState so.val) ≠ 1 ∧ s.oN (Obj.soState so.val) ≠ 3))) ∧
    (let s : State := bench 2 [(Obj.soState 0, 3), (Obj.soMode 0, 1), (Obj.soOffPulseEnable 0, 1)] []; let so : Fin 8 := 0; let a : Bool := true; let b : Bool := true; let u : State := { s with soHigh := s.soHigh.set 0 (!s.soHigh.getD 0 true) }; (s.safOn = true) ∧ (s.oN (Obj.soMode so.val) = 1) ∧ (s.oN (Obj.soState so.val) = 3) ∧ (s.oN (Obj.soOffPulseEnable so.val) ≠ 0) ∧ (u = { s with soHigh := s.soHigh.set so.val (!s.soHigh.getD so.val true) }) ∧ (a = true)) ∧
    (let s : State := bench 2 [(Obj.soState 0, 3), (Obj.soMode 0, 1), (Obj.soOffPulseEnable 0, 1)] []; let so : Fin 8 := 0; let a : Bool := false; let b : Bool := false; let u : State := { s with soHigh := s.soHigh.set 0 (!s.soHigh.getD 0 true) }; (s.safOn = true) ∧ (s.oN (Obj.soMode so.val) = 1) ∧ (s.oN (Obj.soState so.val) = 3) ∧ (s.oN (Obj.soOffPulseEnable so.val) ≠ 0) ∧ (u = { s with soHigh := s.soHigh.set so.val (!s.soHigh.getD so.val true) }) ∧ (a = false) ∧ (b = false)) ∧
    (let s : State := bench 2 [(Obj.soState 0, 3), (Obj.soMode 0, 1), (Obj.soOffPulseEnable 0, 1)] []; let so : Fin 8 := 0; let a : Bool := false; let b : Bool := true; let u : State := { s with soHigh := s.soHigh.set 0 (!s.soHigh.getD 0 true) }; (s.safOn = true) ∧ (s.oN (Obj.soMode so.val) = 1) ∧ (s.oN (Obj.soState so.val) = 3) ∧ (s.oN (Obj.soOffPulseEnable so.val) ≠ 0) ∧ (u = { s with soHigh := s.soHigh.set so.val (!s.soHigh.getD so.val true) }) ∧ (a = false) ∧ (b = true)) ∧
    (let s : State := bench 2 [(Obj.soState 0, 1), (Obj.soMode 0, 1)] []; let so : Fin 8 := 0; let a : Bool := true; let b : Bool := true; (s.safOn = false ∨ s.oN (Obj.soMode so.val) ≠ 1 ∨ s.oN (Obj.soState so.val) ≠ 3 ∨ s.oN (Obj.soOffPulseEnable so.val) = 0)) ∧
    (let s : State := bench 2 [(Obj.soState 7, 5), (Obj.soMode 7, 2)] []; let so : Fin 8 := 7; (s.safOn = true) ∧ (s.oN (Obj.soMode so.val) = 2) ∧ (s.oN (Obj.soState so.val) = 5)) ∧
    (let s : State := bench 2 [] []; let so : Fin 8 := 7; (s.safOn = false ∨ s.oN (Obj.soMode so.val) ≠ 2 ∨ s.oN (Obj.soState so.val) ≠ 5)) ∧
    (let s : State := bench 2 [] []; let si : Fin 16 := 15; let l : Bool := true; (s.safOn = false ∨ s.oN (Obj.siMode si.val) = 0 ∨ s.oN (Obj.siState si.val) = 4 ∧ (s.isSet FC.safSishort si.val = true ∨ s.isSet FC.safSidiscrepancy si.val = true))) ∧
    (let s : State := bench 2 [(Obj.siState 15, 2), (Obj.siValue 15, 0), (Obj.siMode 15, 1)] []; let si : Fin 16 := 15; let l : Bool := true; (s.safOn = true) ∧ (s.oN (Obj.siMode si.val) ≠ 0) ∧ (s.oN (Obj.siState si.val) ≠ 3) ∧ (s.oN (Obj.siState si.val) ≠ 4 ∨ (s.isSet FC.safSishort si.val = false ∧ s.isSet FC.safSidiscrepancy si.val = false)) ∧ (l = true)) ∧
    (let s : State := bench 2 [(Obj.siState 15, 1), (Obj.siValue 15, 1), (Obj.siMode 15, 1)] []; let si : Fin 16 := 15; let l : Bool := false; (s.safOn = true) ∧ (s.oN (Obj.siMode si.val) ≠ 0) ∧ (s.oN (Obj.siState si.val) ≠ 3) ∧ (s.oN (Obj.siState si.val) ≠ 4 ∨ (s.isSet FC.safSishort si.val = false ∧ s.isSet FC.safSidiscrepancy si.val = false)) ∧ (l = false) ∧ (s.oN (Obj.siValue si.val) ≠ 0)) ∧
    (let s : State := bench 2 [(Obj.siState 15, 2), (Obj.siValue 15, 0), (Obj.siMode 15, 1)] []; let si : Fin 16 := 15; let l : Bool := false; (s.safOn = true) ∧ (s.oN (Obj.siMode si.val) ≠ 0) ∧ (s.oN (Obj.siState si.val) ≠ 3) ∧ (s.oN (Obj.siState si.val) ≠ 4 ∨ (s.isSet FC.safSishort si.val = false ∧ s.isSet FC.safSidiscrepancy si.val = false)) ∧ (l = false) ∧ (s.oN (Obj.siValue si.val) = 0)) ∧
    (let s : State := bench 2 [(Obj.siState 15, 3), (Obj.siValue 15, 0), (Obj.siMode 15, 3)] []; let si : Fin 16 := 15; let l : Bool := false; (s.safOn = true) ∧ (s.oN (Obj.siMode si.val) ≠ 0) ∧ (s.oN (Obj.siState si.val) = 3) ∧ (l = false)) ∧
    (let s : State := bench 2 [(Obj.siState 15, 3), (Obj.siValue 15, 0), (Obj.siMode 15, 3)] []; let si : Fin 16 := 15; let l : Bool := true; (s.safOn = true) ∧ (s.oN (Obj.siMode si.val) ≠ 0) ∧ (s.oN (Obj.siState si.val) = 3) ∧ (l = true) ∧ ((s.siX si.val).seen = false)) ∧
    (let s : State := { bench 2 [(Obj.siState 15, 3), (Obj.siMode 15, 3)] [] with six := List.replicate 16 { seen := true } }; let si : Fin 16 := 15; let l : Bool := true; (s.safOn = true) ∧ (s.oN (Obj.siMode si.val) ≠ 0) ∧ (s.oN (Obj.siState si.val) = 3) ∧ (l = true) ∧ ((s.siX si.val).seen = true)) ∧
    (let s : State := bench 2 [(Obj.siMode 15, 2), (Obj.siTestSource 15, 3)] []; let tp : Fin 4 := 3; let reads : BitVec 16 := 0x8000; (s.safOn = true)) ∧
    (let s : State := {}; let tp : Fin 4 := 3; let reads : BitVec 16 := 0xFFFF; (s.safOn = false)) ∧
    (let s : State := bench 2 [] []; let n : Nat := 15; let r : Nat := 0; (r.testBit n = false)) ∧
    (let s : State := bench 2 [] []; let n : Nat := 15; let r : Nat := 0x8000; (r.testBit n = true) ∧ ((s.siX n).fails ≠ 1)) ∧
    (let s : State := { bench 2 [] [] with six := List.replicate 16 { fails := 1 } }; let n : Nat := 15; let r : Nat := 0x8000; (r.testBit n = true) ∧ ((s.siX n).fails = 1)) ∧
    (let s : State := bench 2 [(Obj.siValue 3, 1)] []; let n : Nat := 3; let c : Nat := FC.safSishort; (s.oN (Obj.siValue n) ≠ 0)) ∧
    (let s : State := bench 2 [] []; let n : Nat := 3; let c : Nat := FC.safSishort; (s.oN (Obj.siValue n) = 0)) ∧
    (let s : State := bench 2 [(Obj.siValue 1, 1), (Obj.siMode 0, 2), (Obj.siPartner 0, 1)] []; let si : Fin 16 := 0; (s.safOn = true) ∧ (s.siDisagree si.val = true)) ∧
    (let s : State := bench 2 [] []; let si : Fin 16 := 0; (s.safOn = false ∨ s.siDisagree si.val = false)) ∧
    (let s : State := bench 9 [] []; let ball : Fin 176 := 175; (s.isl.whole = true ∨ s.mode = 9)) ∧
    (let s : State := bench 2 [] []; let ball : Fin 176 := 175; (s.safOn = true) ∧ (s.isl.whole = false) ∧ (s.mode ≠ 9)) ∧
    (let s : State := bench 1 [] []; let ball : Fin 176 := 175; (s.safOn = false) ∧ (s.isl.whole = false) ∧ (s.mode ≠ 9)) ∧
    (let s : State := bench 2 [(Obj.safSinceProof, 4294967295)] []; (s.up = true)) ∧
    (let s : State := {}; (s.up = false)) :=
  by
  refine ⟨?_, ?_, ?_, ?_, ?_, ?_, ?_, ?_, ?_, ?_, ?_, ?_, ?_, ?_, ?_, ?_, ?_, ?_, ?_, ?_, ?_, ?_, ?_, ?_, ?_, ?_, ?_, ?_, ?_, ?_, ?_, ?_, ?_, ?_, ?_, ?_, ?_, ?_, ?_⟩ <;> decide +kernel

/-! ## Memory, leave and monitors (chapter 21) -/

/-- Every clause of LeaveIsGrantedUnderItsCeiling has a case. -/
theorem wit_LeaveIsGrantedUnderItsCeiling :
    (let s : State := { bench 2 [(Obj.leaveEffectiveCeiling, 1000), (Obj.leaveSafetyReserve, 100)] [] with leave := { waiting := [{ op := .memTest, since := 0 }] } }; let op : LeaveOp := .configStore; (leaveClass op ≠ 0) ∧ (s.leaveSum (fun k => k != 0) + s.leaveAmount op + s.oN Obj.leaveSafetyReserve ≤ s.oN Obj.leaveEffectiveCeiling) ∧ (∀ e ∈ s.leave.waiting, leaveClass op < leaveClass e.op)) ∧
    (let s : State := bench 2 [(Obj.leaveEffectiveCeiling, 100), (Obj.leaveSafetyReserve, 100)] []; let op : LeaveOp := .memTest; (leaveClass op ≠ 0) ∧ (s.leaveFits op = false ∨ s.leave.waiting.any (fun e => leaveClass e.op ≤ leaveClass op) = true)) ∧
    (let s : State := bench 2 [] []; let op : LeaveOp := .finalJournal; (leaveClass op = 0)) ∧
    (let s : State := bench 2 [(Obj.leaveEffectiveCeiling, 100), (Obj.leaveSafetyReserve, 100)] []; let op : LeaveOp := .memTest; let r : State × Bool := s.leaveAsk .memTest; (s.leaveOn = true) ∧ (r = s.leaveAsk op) ∧ (r.2 = false)) ∧
    (let s : State := bench 2 [(Obj.leaveEffectiveCeiling, 1000), (Obj.leaveSafetyReserve, 100)] []; let op : LeaveOp := .configStore; let r : State × Bool := s.leaveAsk .configStore; (s.leaveOn = true) ∧ (r = s.leaveAsk op) ∧ (r.2 = true)) ∧
    (let s : State := {}; let op : LeaveOp := .memTest; (s.leaveOn = false)) ∧
    (let s : State := bench 2 [(Obj.leaveSafetyReserve, 100)] []; let op : LeaveOp := .gatePair 23; let u : State := ({ s with leave := { s.leave with waiting := s.leave.waiting.filter (fun e => e.op != .gatePair 23) } } : State).leaveHold (.gatePair 23); (leaveClass op = 0) ∧ (u = ({ s with leave := { s.leave with waiting := s.leave.waiting.filter (fun e => e.op != op) } } : State).leaveHold op) ∧ (u.leaveSum (fun k => k == 0) ≤ u.oN Obj.leaveSafetyReserve)) ∧
    (let s : State := bench 2 [(Obj.leaveSafetyReserve, 10)] []; let op : LeaveOp := .finalJournal; let u : State := ({ s with leave := { s.leave with waiting := s.leave.waiting.filter (fun e => e.op != .finalJournal) } } : State).leaveHold .finalJournal; (leaveClass op = 0) ∧ (u = ({ s with leave := { s.leave with waiting := s.leave.waiting.filter (fun e => e.op != op) } } : State).leaveHold op) ∧ (u.oN Obj.leaveSafetyReserve < u.leaveSum (fun k => k == 0))) ∧
    (let s : State := { bench 2 [(Obj.leaveEffectiveCeiling, 100), (Obj.leaveSafetyReserve, 100)] [] with leave := { waiting := [{ op := .memTest, since := 0 }] } }; let e : LeaveEntry := { op := .memTest, since := 0 }; (s.leaveOn = true) ∧ (s.leaveNext = some e) ∧ (leaveClass e.op ≠ 0) ∧ (s.leaveFits e.op = false)) ∧
    (let s : State := { bench 2 [(Obj.leaveEffectiveCeiling, 1000), (Obj.leaveSafetyReserve, 100)] [] with leave := { waiting := [{ op := .memTest, since := 0 }, { op := .configStore, since := 1 }] } }; let e : LeaveEntry := { op := .configStore, since := 1 }; (s.leaveOn = true) ∧ (s.leaveNext = some e) ∧ (leaveClass e.op = 0 ∨ s.leaveFits e.op = true)) ∧
    (let s : State := bench 2 [] []; (s.leaveNext = none)) ∧
    (let s : State := { bench 2 [] [] with leave := { waiting := [{ op := .memTest, since := 0 }, { op := .configStore, since := 1 }] } }; let e : LeaveEntry := { op := .configStore, since := 1 }; (s.leaveNext = some e)) ∧
    (let s : State := { bench 2 [] [] with leave := { held := [{ op := .memTest, since := 0 }] } }; let op : LeaveOp := .memTest; let e : LeaveEntry := { op := .memTest, since := 0 }; (s.leaveOn = true) ∧ (s.leave.held.find? (fun e => e.op == op) = some e)) ∧
    (let s : State := { bench 2 [] [] with leave := { waiting := [{ op := .memTest, since := 0 }] } }; let op : LeaveOp := .memTest; (s.leaveOn = true) ∧ (s.leave.held.find? (fun e => e.op == op) = none)) ∧
    (let s : State := { bench 2 [] [] with leave := { waiting := [{ op := .memTest, since := 0, warned := true }] } }; let op : LeaveOp := .memTest; (s.leaveOn = true) ∧ (s.leave.waiting.any (fun e => e.op == op && !e.warned) = false)) ∧
    (let s : State := { bench 2 [] [] with leave := { waiting := [{ op := .memTest, since := 0 }] } }; let op : LeaveOp := .memTest; (s.leaveOn = true) ∧ (s.leave.waiting.any (fun e => e.op == op && !e.warned) = true)) :=
  by
  refine ⟨?_, ?_, ?_, ?_, ?_, ?_, ?_, ?_, ?_, ?_, ?_, ?_, ?_, ?_, ?_, ?_⟩ <;> decide +kernel

/-- Every clause of MemoryErrorsAndMonitorsAreJudged has a case. -/
theorem wit_MemoryErrorsAndMonitorsAreJudged :
    (let s : State := bench 2 [] []; let m : Fin 20 := 19; let b : Fin 24 := 23; let r : BitVec 12 := 4095; (s.up = true) ∧ (m.val ≤ 13 ∨ m.val = 19)) ∧
    (let s : State := bench 2 [] []; let m : Fin 20 := 14; let b : Fin 24 := 23; let r : BitVec 12 := 4095; (s.up = true) ∧ (14 ≤ m.val ∧ m.val ≤ 18)) ∧
    (let s : State := {}; let m : Fin 20 := 14; let b : Fin 24 := 23; let r : BitVec 12 := 4095; let d : Bool := true; (s.up = false)) ∧
    (let s : State := bench 2 [] []; let m : Fin 20 := 14; let b : Fin 24 := 23; let r : BitVec 12 := 4095; let l : List (Nat × Nat) := s.memx.corrected.filter (fun p => decide (s.mono < p.2 + 3600000000000)) ++ [(b.val * 4096 + r.toNat, s.mono)]; let u : State := (if s.secondSince s.memx.corrAt then (((s.incSat Obj.memEccCorrectedCount).memMod (fun m => { m with corrected := l, corrAt := some s.mono })).note FC.memEcccorr b.val) else (s.incSat Obj.memEccCorrectedCount).memMod (fun m => { m with corrected := l })); (s.up = true) ∧ (l = s.memx.corrected.filter (fun p => decide (s.mono < p.2 + 3600000000000)) ++ [(b.val * 4096 + r.toNat, s.mono)]) ∧ (u = (if s.secondSince s.memx.corrAt then (((s.incSat Obj.memEccCorrectedCount).memMod (fun m => { m with corrected := l, corrAt := some s.mono })).note FC.memEcccorr b.val) else (s.incSat Obj.memEccCorrectedCount).memMod (fun m => { m with corrected := l }))) ∧ ((l.filter (fun p => p.1 == b.val * 4096 + r.toNat)).length < 3)) ∧
    (let s : State := { bench 2 [] [] with memx := { corrected := [(98303, 0), (98303, 0)], corrAt := some 0 } }; let m : Fin 20 := 14; let b : Fin 24 := 23; let r : BitVec 12 := 4095; let l : List (Nat × Nat) := s.memx.corrected.filter (fun p => decide (s.mono < p.2 + 3600000000000)) ++ [(b.val * 4096 + r.toNat, s.mono)]; let u : State := (if s.secondSince s.memx.corrAt then (((s.incSat Obj.memEccCorrectedCount).memMod (fun m => { m with corrected := l, corrAt := some s.mono })).note FC.memEcccorr b.val) else (s.incSat Obj.memEccCorrectedCount).memMod (fun m => { m with corrected := l })); (s.up = true) ∧ (l = s.memx.corrected.filter (fun p => decide (s.mono < p.2 + 3600000000000)) ++ [(b.val * 4096 + r.toNat, s.mono)]) ∧ (u = (if s.secondSince s.memx.corrAt then (((s.incSat Obj.memEccCorrectedCount).memMod (fun m => { m with corrected := l, corrAt := some s.mono })).note FC.memEcccorr b.val) else (s.incSat Obj.memEccCorrectedCount).memMod (fun m => { m with corrected := l }))) ∧ (3 ≤ (l.filter (fun p => p.1 == b.val * 4096 + r.toNat)).length)) ∧
    (let s : State := bench 2 [] []; let b : Nat := 23; let r : Nat := 7; (s.memx.spares.getD b 0 < 16)) ∧
    (let s : State := { bench 2 [] [] with memx := { spares := List.replicate 24 16 } }; let b : Nat := 23; let r : Nat := 7; (16 ≤ s.memx.spares.getD b 0)) ∧
    (let s : State := bench 2 [(Obj.memTestPosition, 98302)] []; (s.oN Obj.memTestPosition < 98303)) ∧
    (let s : State := bench 2 [(Obj.memTestPosition, 98303)] []; (s.oN Obj.memTestPosition = 98303)) ∧
    (let s : State := bench 1 [] []; let f : BitVec 2 := 0; let d : Bool := true; let c : Bool := true; (s.memTestOn = false ∨ (s.leave.held.any (fun e => e.op == .memTest) = false ∧ s.leave.waiting.any (fun e => e.op == .memTest) = true))) ∧
    (let s : State := { bench 2 [] [] with leave := { held := [{ op := .memTest, since := 0 }] } }; let f : BitVec 2 := 2; let d : Bool := false; let c : Bool := true; (s.memTestOn = true) ∧ (s.leave.held.any (fun e => e.op == .memTest) = true)) ∧
    (let s : State := bench 2 [(Obj.leaveEffectiveCeiling, 1000), (Obj.leaveSafetyReserve, 100)] []; let f : BitVec 2 := 0; let d : Bool := false; let c : Bool := true; let r : State × Bool := s.leaveAsk .memTest; (s.memTestOn = true) ∧ (s.leave.held.any (fun e => e.op == .memTest) = false) ∧ (s.leave.waiting.any (fun e => e.op == .memTest) = false) ∧ (r = s.leaveAsk .memTest)) ∧
    (let s : State := { bench 2 [(Obj.memTestPosition, 5)] [] with leave := { held := [{ op := .memTest, since := 0 }] } }; let f : Nat := 1; let d : Bool := false; let c : Bool := true; let u : State := s.memMod (fun m => { m with startAt := some s.mono }); let k : Nat := 5; (s.memx.startAt = none) ∧ (u = s.memMod (fun m => { m with startAt := some s.mono })) ∧ (k = s.oN Obj.memTestPosition) ∧ (d = false) ∧ (f < 2)) ∧
    (let s : State := { bench 2 [(Obj.memTestPosition, 5)] [] with leave := { held := [{ op := .memTest, since := 0 }] } }; let f : Nat := 2; let d : Bool := false; let c : Bool := true; let u : State := s.memMod (fun m => { m with startAt := some s.mono }); let k : Nat := 5; (s.memx.startAt = none) ∧ (u = s.memMod (fun m => { m with startAt := some s.mono })) ∧ (k = s.oN Obj.memTestPosition) ∧ (d = false) ∧ (2 ≤ f)) ∧
    (let s : State := { bench 2 [(Obj.memTestPosition, 5)] [] with leave := { held := [{ op := .memTest, since := 0 }] } }; let f : Nat := 0; let d : Bool := true; let c : Bool := true; let u : State := s.memMod (fun m => { m with startAt := some s.mono }); let k : Nat := 5; (s.memx.startAt = none) ∧ (u = s.memMod (fun m => { m with startAt := some s.mono })) ∧ (k = s.oN Obj.memTestPosition) ∧ (d = true) ∧ (c = true)) ∧
    (let s : State := { bench 2 [(Obj.memTestPosition, 5)] [] with leave := { held := [{ op := .memTest, since := 0 }] } }; let f : Nat := 0; let d : Bool := true; let c : Bool := false; let u : State := s.memMod (fun m => { m with startAt := some s.mono }); let k : Nat := 5; (s.memx.startAt = none) ∧ (u = s.memMod (fun m => { m with startAt := some s.mono })) ∧ (k = s.oN Obj.memTestPosition) ∧ (d = true) ∧ (c = false)) ∧
    (let s : State := { bench 2 [(Obj.memTestPosition, 5)] [] with tick := 80000000, memx := { startAt := some 0 } }; let f : Nat := 0; let d : Bool := false; let c : Bool := true; let a : Nat := 0; (s.memx.startAt = some a) ∧ (d = false) ∧ (f < 2)) ∧
    (let s : State := bench 2 [] []; let m : Fin 20 := 19; (s.plat.mainOn = true) ∧ ((s.oN Obj.memConflictSaturated).testBit m.val = false)) ∧
    (let s : State := bench 2 [(Obj.memConflictSaturated, 524288)] []; let m : Fin 20 := 19; (s.plat.mainOn = true) ∧ ((s.oN Obj.memConflictSaturated).testBit m.val = true)) ∧
    (let s : State := {}; let m : Fin 20 := 19; (s.plat.mainOn = false)) ∧
    (let s : State := bench 2 [] []; let m : Nat := 19; let n : Nat := 5; (s.oN (Obj.memConflictCount m) + n < 4294967295)) ∧
    (let s : State := bench 2 [(Obj.memConflictSaturated, 524288)] []; let m : Nat := 19; (m < 20)) ∧
    (let s : State := bench 2 [] []; let q : Rat := 0; (q ≤ s.oF Obj.hmTempWarn)) ∧
    (let s : State := bench 2 [] []; let q : Rat := 200; (s.oF Obj.hmTempWarn < q) ∧ (s.oF Obj.hmTempCritical ≤ q)) ∧
    (let s : State := bench 2 [] []; let q : Rat := 150; (s.oF Obj.hmTempWarn < q) ∧ (q < s.oF Obj.hmTempCritical)) ∧
    (let s : State := bench 2 [] []; let raw : Vector (BitVec 32) 8 := Vector.replicate 8 0; (s.monitorsOn = true)) ∧
    (let s : State := bench 2 [] []; let raw : Nat → Nat := fun n => if n = 3 then 0x43200000 else 0; let ts : List Rat := (List.range 8).map (fun n => F32.toRat (raw n) * s.oF (Obj.calTsGain n) + s.oF (Obj.calTsOffset n)); let u : State := s.forAll (List.range 8) (fun n t => (t.putF (Obj.tsTemperature n) (ts.getD n 0)).tsJudge ts n); let h : Nat := 3; let v : State := u.put Obj.leaveEffectiveCeiling (u.effectiveCeiling (ts.getD h 0)); let w : State := (if 2 ≤ u.oN (Obj.tsState h) ∧ ((List.range 8).map (fun n => s.oN (Obj.tsState n))).foldl (fun m x => if x ≤ 3 then max m x else m) 0 < 2 then v.raise FC.hmTemphigh h else v); (ts = (List.range 8).map (fun n => F32.toRat (raw n) * s.oF (Obj.calTsGain n) + s.oF (Obj.calTsOffset n))) ∧ (u = s.forAll (List.range 8) (fun n t => (t.putF (Obj.tsTemperature n) (ts.getD n 0)).tsJudge ts n)) ∧ (u.hottestTs ts = some h) ∧ (v = u.put Obj.leaveEffectiveCeiling (u.effectiveCeiling (ts.getD h 0))) ∧ (w = (if 2 ≤ u.oN (Obj.tsState h) ∧ ((List.range 8).map (fun n => s.oN (Obj.tsState n))).foldl (fun m x => if x ≤ 3 then max m x else m) 0 < 2 then v.raise FC.hmTemphigh h else v))) ∧
    (let s : State := { bench 2 [] [] with hm := { disagree := List.replicate 8 200 } }; let raw : Nat → Nat := fun n => if n < 4 then 0x43480000 else 0; let ts : List Rat := (List.range 8).map (fun n => F32.toRat (raw n) * s.oF (Obj.calTsGain n) + s.oF (Obj.calTsOffset n)); let u : State := s.forAll (List.range 8) (fun n t => (t.putF (Obj.tsTemperature n) (ts.getD n 0)).tsJudge ts n); (ts = (List.range 8).map (fun n => F32.toRat (raw n) * s.oF (Obj.calTsGain n) + s.oF (Obj.calTsOffset n))) ∧ (u = s.forAll (List.range 8) (fun n t => (t.putF (Obj.tsTemperature n) (ts.getD n 0)).tsJudge ts n)) ∧ (u.hottestTs ts = none)) ∧
    (let s : State := bench 2 [] []; let o : Nat := 3; let q : Rat := 151; (s.oF Obj.hmTempCritical < q ∨ (o = 3 ∧ s.oF Obj.hmTempCritical - s.oF Obj.hmTempHysteresis ≤ q))) ∧
    (let s : State := bench 2 [] []; let o : Nat := 2; let q : Rat := 134; (q ≤ s.oF Obj.hmTempCritical) ∧ (q ≤ s.oF Obj.hmTempWarn) ∧ (o ≠ 3 ∨ q < s.oF Obj.hmTempCritical - s.oF Obj.hmTempHysteresis) ∧ ((o ≠ 2 ∧ o ≠ 3) ∨ q < s.oF Obj.hmTempWarn - s.oF Obj.hmTempHysteresis)) ∧
    (let s : State := { bench 2 [] [] with hm := { disagree := List.replicate 8 99 } }; let ts : List Rat := [100, 0, 0, 0, 0, 0, 0, 0]; let n : Nat := 0; (n < 8) ∧ (s.hm.disagree.length = 8) ∧ (15 < |ts.getD n 0 - othersMedian ts n|)) ∧
    (let s : State := {}; let v : Nat := 11; let o : Nat := 0; let x : HmX := { fault := List.replicate 12 8 }; (8 ≤ x.fault.getD v 0)) ∧
    (let s : State := {}; let v : Nat := 11; let x : HmX := { inFault := List.replicate 12 8 }; (x.fault.getD v 0 < 8)) ∧
    (let s : State := {}; let v : Nat := 11; let x : HmX := { warn := List.replicate 12 8 }; (x.fault.getD v 0 < 8)) ∧
    (let s : State := bench 2 [] []; let v : Nat := 9; let o : Nat := 1; let n : Nat := 2; (n = 2) ∧ (o ≠ 2) ∧ (v ≠ 4)) ∧
    (let s : State := bench 2 [] []; let o : Nat := 1; (o ≠ 2)) ∧
    (let s : State := bench 2 [] []; let v : Nat := 3; let o : Nat := 1; (v ≠ 9)) ∧
    (let s : State := bench 2 [] []; let v : Vector (BitVec 32) 12 := Vector.replicate 12 0; (s.monitorsOn = true)) ∧
    (let s : State := bench 2 [] []; let n : Nat := 11; let q : Rat := 9; let u : State := (s.vmRuns n (decide ((supplyLimits n).1 * s.oF Obj.hmVoltWarn / 100 < |q - (supplyLimits n).1|)) (decide (q < (supplyLimits n).2.1 ∨ (supplyLimits n).2.2 < q))).vmRecord n q; (u = (s.vmRuns n (decide ((supplyLimits n).1 * s.oF Obj.hmVoltWarn / 100 < |q - (supplyLimits n).1|)) (decide (q < (supplyLimits n).2.1 ∨ (supplyLimits n).2.2 < q))).vmRecord n q)) ∧
    (let s : State := bench 2 [] []; let p : Nat := 3; let f : Rat := 100; (s.oF (Obj.pmFactory p) = 0) ∧ (0 ≤ s.oF Obj.hmDriftLimit)) ∧
    (let s : State := bench 2 [(Obj.pmFactory 3, 0x42C80000)] []; let p : Nat := 3; let f : Rat := 150; let d : Rat := 50; let u : State := (s.putF (Obj.pmFrequency p) f).putF (Obj.pmDrift p) d; (s.oF (Obj.pmFactory p) ≠ 0) ∧ (d = max (-100) (min 100 ((f - s.oF (Obj.pmFactory p)) / s.oF (Obj.pmFactory p) * 100))) ∧ (u = (s.putF (Obj.pmFrequency p) f).putF (Obj.pmDrift p) d)) ∧
    (let s : State := bench 2 [] []; let f : Vector (BitVec 32) 4 := Vector.replicate 4 0; (s.monitorsOn = true)) ∧
    (let s : State := bench 1 [] []; let raw : Vector (BitVec 32) 8 := Vector.replicate 8 0; let v : Vector (BitVec 32) 12 := Vector.replicate 12 0; let f : Vector (BitVec 32) 4 := Vector.replicate 4 0; (s.monitorsOn = false)) :=
  by
  refine ⟨?_, ?_, ?_, ?_, ?_, ?_, ?_, ?_, ?_, ?_, ?_, ?_, ?_, ?_, ?_, ?_, ?_, ?_, ?_, ?_, ?_, ?_, ?_, ?_, ?_, ?_, ?_, ?_, ?_, ?_, ?_, ?_, ?_, ?_, ?_, ?_, ?_, ?_, ?_, ?_, ?_, ?_, ?_⟩ <;> decide +kernel
end

section
/-! SUPPORT. What a command answers is a sound state again, and what of the supplies, the configuration in force and the queue it keeps:
one case for each command, from the laws of its meaning; and the step, which every one of them makes part of. -/

namespace Sys2Proof.Machine

/-! ## What an outcome answers -/

/-- The next state of an outcome, where it has one, is good. -/
def Answers (Q : Plat → Cfg → List Instr → Prop) (o : Host.Outcome State Fault Refusal) : Prop := ∀ t, o = .next t → t.Good Q

theorem answers_next {Q : Plat → Cfg → List Instr → Prop} {t : State} (h : t.Good Q) : Answers Q (.next t) := by
  rintro _ ⟨⟩
  exact h

/-! ## The commands -/

/-- A command that touches neither the supplies nor the configuration in force keeps all that is said of them and of the queue. -/
theorem exec_good {Q : Plat → Cfg → List Instr → Prop} {s : State} (hQ : Undoable Q) (h : s.Good Q) {c : Instr}
    (hp : c.mayPower = false) (hc : c.mayConfigure = false) : Answers Q (exec c s) := by
  cases c with
  | powerOn => cases hp
  | resetNFall => cases hp
  | resetNRise => cases hp
  | bootResetheld => exact answers_next (State.resetHeld_good h ..)
  | bootPlllock => exact answers_next (good_ite (State.bootFail_good h ..) h)
  | pfailNFall => cases hp
  | pfailNRise => cases hp
  | meterResume => exact answers_next (State.mtrResume_good h)
  | clockLoss => cases hp
  | coreUndervoltage => exact answers_next (State.coreUv_good h)
  | vddCocLoss => cases hp
  | watchdogService => exact answers_next (State.watchdogServiced_good h ..)
  | watchdogExpiry => exact answers_next (State.watchdogExpired_good h)
  | keeperUndervoltage => exact answers_next (State.keeperUv_good h ..)
  | wakePinEdge => cases hp
  | canWake => cases hp
  | wakeTimerExpiry => cases hp
  | modeRequest => exact answers_next (State.accessAt_good h _ _ _ _ fun _ h => good_ite (State.askMode_good h ..) (State.refuse_good h ..))
  | modeTransitionComplete => cases hp
  | m3StepTimeout => exact answers_next (State.m3Timeout_good h)
  | functionResetRequest => exact answers_next (State.accessAt_good h _ _ _ _ fun _ h => good_ite (State.refuse_good h ..) (State.resetAsk_good h ..))
  | functionResetComplete => exact answers_next (State.resetDone_good h)
  | gsPairReady => exact answers_next (State.pairReady_good h ..)
  | gdGsstart => exact answers_next (State.pairFailed_good h ..)
  | sealCommission => exact answers_next (State.accessAt_good h _ _ _ _ fun _ h => State.commission_good h ..)
  | swapArm => exact answers_next (State.accessAt_good h _ _ _ _ fun _ h => State.swapArm_good h ..)
  | swapCancel => exact answers_next (State.accessAt_good h _ _ _ _ fun _ h => State.cancelSwap_good h ..)
  | swapBoundary => cases hc
  | configSwap => cases hc
  | swapArmTimeout => exact answers_next (State.cancelSwap_good h ..)
  | shadowCopyComplete => exact answers_next (good_ite h (State.copyShadows_good h))
  | tbHoldover => exact answers_next (good_ite (State.raise_good (State.tbState_good h ..) ..) h)
  | tbHoldoverLimit => exact answers_next (good_ite (State.raise_good (State.tbState_good h ..) ..) h)
  | tbLockfail => exact answers_next (State.lockFails_good h ..)
  | lawStart => exact answers_next (State.dispatch_good h ..)
  | sample => exact answers_next (State.dispatch_good h ..)
  | shadowLoad => exact answers_next (State.dispatch_good h ..)
  | testPulse => exact answers_next (State.dispatch_good h ..)
  | stamp => exact answers_next (State.dispatch_good h ..)
  | meterSample => exact answers_next (State.acSample_good h ..)
  | delayedOccurrenceDue => exact answers_next (State.delayedDue_good h ..)
  | groupRun => exact answers_next (State.accessAt_good h _ _ _ _ fun _ h => State.groupRun_good h ..)
  | groupStop => exact answers_next (State.accessAt_good h _ _ _ _ fun _ h => State.groupStop_good h ..)
  | groupStopAtOnce => exact answers_next (State.accessAt_good h _ _ _ _ fun _ h => State.groupHalt_good h ..)
  | pwmPeriodStart => exact answers_next (State.periodStart_good h ..)
  | pwmStall => exact answers_next (State.stall_good h ..)
  | hostShadowWrite => exact answers_next (State.hostWrite_good h ..)
  | desaturation => exact answers_next (State.desaturation_good h ..)
  | hardShort => exact answers_next (State.hardShort_good h ..)
  | fastOvercurrent => exact answers_next (State.fastOver_good h ..)
  | gsUndervoltage => exact answers_next (State.afterSupply_good (State.gsUnder_good h ..) ..)
  | gsUndervoltageEnd => exact answers_next (State.gsUnderEnd_good h ..)
  | gsOvervoltage => exact answers_next (State.afterSupply_good (State.gsOver_good h ..) ..)
  | gsOvervoltageEnd => exact answers_next (State.gsOverEnd_good h ..)
  | retryWaitEnd => exact answers_next (State.retryWaitEnd_good h ..)
  | gdServicelimit => exact answers_next (State.serviceLimit_good h ..)
  | sdStuck => exact answers_next (State.sdStuck_good h ..)
  | sdOutOfRange => exact answers_next (State.sdRange_good h ..)
  | sdclkMismatch => exact answers_next (State.clkFault_good h ..)
  | vdcImplausible => exact answers_next (State.vdcImplausible_good h ..)
  | vdcFullScale => exact answers_next (State.vdcFull_good h ..)
  | ainOutOfWindow => exact answers_next (good_ite (State.ainRangeOut_good (State.ainTake_good h ..) ..) h)
  | ainBackInWindow => exact answers_next (good_ite (State.ainRangeIn_good (State.ainTake_good h ..) ..) h)
  | lvSenseAtRail => exact answers_next (State.lvAtRail_good h ..)
  | trimWrite => exact answers_next (State.hostWrite_good h ..)
  | lawInstanceEnd => exact answers_next (State.instanceEnd_good h ..)
  | slotDeadlineMiss => exact answers_next (State.deadlineMiss_good h ..)
  | engMemue => exact answers_next (State.engMemue_good h ..)
  | handoverRequest => exact answers_next (State.access_good h _ _ fun _ h => State.handoverAsk_good h ..)
  | observerStep => exact answers_next (good_ite (State.rotorStep_good h ..) h)
  | catchCheckEnd => exact answers_next (State.catchEnd_good h ..)
  | injectionSettleEnd => exact answers_next (State.settleEnd_good h ..)
  | polarityTestEnd => exact answers_next (State.polarityEnd_good h ..)
  | obsStartfail => exact answers_next (State.obsStartFail_good h ..)
  | obsReacqfail => exact answers_next (State.obsReacqFail_good h ..)
  | commStallTimeout => exact answers_next (State.commStalled_good h ..)
  | safePlanEvaluation => exact answers_next (State.evaluatePlans_good h)
  | linkOv1 => exact answers_next (State.linkOv1_good (State.linkMeasured_good h ..) ..)
  | linkOv2 => exact answers_next (State.linkOv2_good (State.linkOv1_good (State.linkMeasured_good h ..) ..) ..)
  | linkOv3 => exact answers_next (State.linkOv3_good (State.linkOv2_good (State.linkOv1_good (State.linkMeasured_good h ..) ..) ..) ..)
  | linkBelowOv2 => exact answers_next (State.linkBelowOv2_good (State.linkBelowOv3_good (State.linkMeasured_good h ..) ..) ..)
  | trcChopper => exact answers_next (State.chopperFault_good h ..)
  | openPhaseWindowEnd => exact answers_next (State.openWindow_good h ..)
  | zeroHoldEnd => exact answers_next (State.zeroHoldEnd_good h ..)
  | starContactorConfirmed => exact answers_next (State.starConfirmed_good h ..)
  | gridWindowHeld => exact answers_next (good_ite (State.wcConnect_good h ..) h)
  | gridContactorConfirmed => exact answers_next (State.gridConfirmed_good h ..)
  | wcLinklow => exact answers_next (State.wcLinkLow_good h)
  | wcReferenceUpdate => exact answers_next (State.wcUpdate_good h ..)
  | wcGridtrip => exact answers_next (State.wcGridTrip_good h ..)
  | reconnectDelayEnd => exact answers_next (State.wcReconnect_good h ..)
  | wcBattloss => exact answers_next (State.battLost_good h)
  | chargePhaseUpdate => exact answers_next (State.chargePhaseUpdate_good h ..)
  | cpEvaluationEnd => exact answers_next (State.cpEvaluated_good h ..)
  | cpTaperEnd => exact answers_next (State.cpTapered_good h ..)
  | cpTimer => exact answers_next (State.cpTimeUp_good h ..)
  | cpLimitloss => exact answers_next (good_ite (State.raise_good (State.cpEndPhase_good h ..) ..) h)
  | lvRun => exact answers_next (State.accessAt_good h _ _ _ _ fun _ h => State.lvBegin_good h ..)
  | lvStop =>
    exact answers_next (State.accessAt_good h _ _ _ _ fun _ h => good_ite (State.put_good (State.lvHalt_good (State.put_good h ..) ..) ..)
      (State.lvHalt_good (State.put_good h ..) ..))
  | lvIsoSoftStartEnd => exact answers_next (State.lvIsoDone_good h ..)
  | lvIsofault => exact answers_next (good_ite (State.lvFault_good h ..) h)
  | lvPhaseTrigger => exact answers_next (State.lvTrigger_good h ..)
  | lvHiccupEnd => exact answers_next (State.lvHiccupEnd_good h ..)
  | lvFoldback => exact answers_next (good_ite (State.raise_good h ..) h)
  | lvBurstSleep => exact answers_next (State.lvSleep_good h)
  | lvBurstWake => exact answers_next (good_ite (State.lvResume_good h ..) h)
  | lvPhaseShed => exact answers_next (State.lvShed_good h)
  | lvLoadRelease => exact answers_next (good_ite (State.lvRelease_good h) h)
  | lvLoadReleaseEnd => exact answers_next (good_ite (State.lvResume_good h ..) h)
  | lvOvervoltage => exact answers_next (good_ite (State.lvFault_good h ..) h)
  | lvStartfail => exact answers_next (State.lvStartFails_good h)
  | lvTelemetry => exact answers_next (State.lvTelemetry_good h ..)
  | lvBatteryLoop => exact answers_next (State.lvLoop_good h)
  | lvAuxremoved => exact answers_next (good_ite (State.lvRemoved_good h) h)
  | lvAuxRearm => exact answers_next (State.accessAt_good h _ _ _ _ fun _ h => State.lvFollow_good (State.lvSession_good (State.put_good h ..)))
  | gaRequest => exact answers_next (State.accessAt_good h _ _ _ _ fun _ h => State.gaAsk_good h ..)
  | gaTorqueReleased => exact answers_next (good_ite (State.gaNeutral_good h ..) h)
  | gaReleaseTimeout => exact answers_next (good_ite (State.gaAbort_good h ..) h)
  | gaSyncPermit =>
    exact answers_next (State.accessAt_good h _ _ _ _ fun _ h => good_ite (State.gaEngage_good (State.put_good h ..) ..) (State.put_good h ..))
  | gaSyncTimeout => exact answers_next (good_ite (State.gaAbort_good h ..) h)
  | gaArrival => exact answers_next (State.gaSettled_good h ..)
  | gaMovetimeout => exact answers_next (good_ite (State.gaFail_good h ..) h)
  | linkPlugged => exact answers_next (good_ite (State.postPlug_good h ..) (State.lkPlug_good h ..))
  | linkDetectionLost => exact answers_next (good_ite (State.postUnplug_good h ..) (State.lkUnplug_good h ..))
  | pilotInvalid =>
    exact answers_next (good_ite (good_ite (State.lkFault_good (State.put_good h ..) ..) (State.raise_good (State.put_good h ..) ..)) h)
  | chargeParametersAgreed => exact answers_next (State.lkAgreed_good h ..)
  | cableCheckBegin => exact answers_next (good_ite (State.lkTo_good h ..) h)
  | prechargeBegin => exact answers_next (good_ite (State.lkMod_good (State.lkTo_good h ..) ..) h)
  | prechargeMatchHeld => exact answers_next (good_ite (State.lkTo_good (good_ite (State.soRequest_good h ..) (State.lkClose_good h)) ..) h)
  | prechargeOutputFallback => exact answers_next (good_ite (State.lkMod_good (State.soRequest_good (State.soRequest_good h ..) ..) ..) h)
  | lnkPrecharge => exact answers_next (good_ite (State.lkFault_good h ..) h)
  | inletContactorsConfirmed => exact answers_next (good_ite (State.lkConfirmed_good h ..) (good_ite (State.raise_good (State.put_good h ..) ..) h))
  | linkStopRequest => exact answers_next (State.accessAt_good h _ _ _ _ fun _ h => State.lkStop_good h ..)
  | postStopReceived => exact answers_next (State.lkStop_good h ..)
  | inletCurrentLow =>
    refine answers_next ?_
    split
    · exact good_ite (State.lkCurrentLow_good h) h
    · exact State.lkCurrentLow_good h
  | weldCheck1s => exact answers_next (good_ite (State.lkFault_good h ..) h)
  | inletDischarged =>
    exact answers_next (good_ite (good_ite (State.lkTo_good (State.sessionEnd_good (State.lkTo_good h ..) ..) ..)
      (State.sessionEnd_good (State.lkTo_good h ..) ..)) h)
  | weldCheck5s => exact answers_next (good_ite (State.lkFault_good h ..) h)
  | pinTempDerate => exact answers_next (State.pinJudge_good h ..)
  | pinTempLimit => exact answers_next (State.pinJudge_good h ..)
  | cableCheckRequest => exact answers_next (State.cableCheck_good h ..)
  | insulationMeasured => exact answers_next (State.insulation_good h ..)
  | isoAlarm => exact answers_next (State.postAlarm_good h)
  | powerDeliveryStart => exact answers_next (State.delivery_good h ..)
  | postStopRequest => exact answers_next (State.accessAt_good h _ _ _ _ fun _ h => State.postStop_good h ..)
  | postCurrentLow => exact answers_next (good_ite (State.postMod_good (State.put_good (State.postOpenContacts_good h) ..) ..) h)
  | postOutputDischarged => exact answers_next (good_ite (State.postEnd_good h) h)
  | postDischargeTimeout => exact answers_next (good_ite (State.raise_good (State.put_good h ..) ..) h)
  | tandemServiceSelection => exact answers_next (State.tdSelect_good h ..)
  | lnkTdlock => exact answers_next (good_ite (State.note_good (State.tdEnd_good h) ..) h)
  | tandemFallbackHoldEnd => exact answers_next (good_ite (State.tdMod_good h ..) h)
  | tandemFallbackRampEnd => exact answers_next (good_ite (State.tdEnd_good h) h)
  | stationPrechargeReached => exact answers_next (State.stPrecharged_good h ..)
  | stnPrecharge => exact answers_next (good_ite (State.raise_good (State.put_good (State.stOpen_good h) ..) ..) h)
  | prechargeOutputRelease => exact answers_next (good_ite (good_ite (State.soRelease_good h ..) (State.raise_good h ..)) h)
  | frontEndSynchronised => exact answers_next (State.feSync_good h ..)
  | postOutputRequest => exact answers_next (good_ite (State.stagesUp_good (State.put_good h ..)) h)
  | noOutputTimeout => exact answers_next (good_ite (good_forAll (State.put_good h ..) fun _ _ h => State.stageLeave_good h ..) h)
  | stnGridtrip => exact answers_next (State.postStep_good (State.stTrip_good h ..))
  | stationReconnect => exact answers_next (State.stReconnect_good h ..)
  | tripHoldTimeout => exact answers_next (good_ite (State.postStop_good h ..) h)
  | linkRegulation => exact answers_next (State.stStep_good h ..)
  | stageRemoveTimeout => exact answers_next (State.stageRemove_good h)
  | stnStage => exact answers_next (State.stageFault_good h ..)
  | stnLinkov => exact answers_next (State.stLinkHigh_good (State.put_good h ..) ..)
  | pumpReferenceUpdate => exact answers_next (State.pumpUpdate_good h)
  | ccFlow => exact answers_next (State.flowLow_good h)
  | ccPressure => exact answers_next (State.pressureFault_good h)
  | pumpRestart => exact answers_next (good_ite (State.put_good (State.put_good (good_forAll h fun _ _ h => State.put_good h ..) ..) ..) h)
  | conductorModelStep => exact answers_next (State.ccModel_good h)
  | monarchBudgetEvaluation => exact answers_next (good_ite (State.monEval_good h) h)
  | leaseRequest => exact answers_next (State.monFrame_good h _ fun _ _ h => State.monServe_good h ..)
  | leaseRenew => exact answers_next (State.monFrame_good h _ fun _ _ h => State.monRenew_good h ..)
  | leaseRelease => exact answers_next (State.monFrame_good h _ fun _ _ h => State.monRelease_good h ..)
  | reduceAcknowledged => exact answers_next (State.monFrame_good h _ fun _ _ h => State.monAck_good h ..)
  | leaseExpiry => exact answers_next (good_ite (State.monSettle_good (State.monEval_good (State.leaseDrop_good h ..))) h)
  | reductionDeadline => exact answers_next (good_ite (State.monSettle_good (State.reduced_good (State.incSat_good h ..) ..)) h)
  | leaseGrantReceived => exact answers_next (State.clientFrame_good h ..)
  | leaseRenewedReceived => exact answers_next (State.clientFrame_good h ..)
  | leaseReduceReceived => exact answers_next (State.clientFrame_good h ..)
  | leaseRefusedReceived => exact answers_next (State.clientFrame_good h ..)
  | clientRenewDue => exact answers_next (State.monSettle_good (State.clientPeriod_good h))
  | monExpired => exact answers_next (good_ite (State.raise_good (State.put_good h ..) ..) h)
  | monarchHoldEnd => exact answers_next (good_ite (State.monEval_good (State.put_good (State.monMod_good h ..) ..)) h)
  | standbySilence => exact answers_next (good_ite (State.put_good h ..) h)
  | dcSample => exact answers_next (State.dcTake_good h ..)
  | journalSlotWrite => exact answers_next (State.journalDue_good h)
  | phasePageSave => exact answers_next (good_ite (good_mtr h h.store) h)
  | meterIntervalClose => exact answers_next (State.intervalDue_good h)
  | recordSigned => exact answers_next (good_ite (State.recordSigned_good h) h)
  | mtrSignfail => exact answers_next (good_ite (State.signFail_good h) h)
  | mtrKeyGenerate => exact answers_next (State.keyGenerate_good h ..)
  | roaOpen => exact answers_next (State.roaOpen_good h ..)
  | roaClose => exact answers_next (State.svcClose_good h ..)
  | keepAlive => exact answers_next (State.svcKeepAlive_good h ..)
  | roaRead => exact answers_next (State.svcRead_good h ..)
  | roaWrite => exact answers_next (State.svcWrite_good h ..)
  | recordRead => exact answers_next (State.svcRecordRead_good h ..)
  | recordWrite => exact answers_next (State.svcRecordWrite_good h ..)
  | describe => exact answers_next (State.svcDescribe_good h ..)
  | blockReadStart => exact answers_next (State.svcBlockReadStart_good h ..)
  | blockReadSegment => exact answers_next (State.svcBlockReadSegment_good h ..)
  | blockWriteStart => exact answers_next (State.svcBlockWriteStart_good h ..)
  | blockWriteSegment => exact answers_next (State.svcBlockWriteSegment_good h ..)
  | blockWriteEnd => exact answers_next (State.svcBlockWriteEnd_good h ..)
  | blockAbort => exact answers_next (State.svcBlockAbort_good h ..)
  | sessionPendingLapse => exact answers_next (good_ite (State.closeSess_good h ..) h)
  | sessionIdleTimeout => exact answers_next (good_ite (State.closeSess_good h ..) h)
  | blockTransferTimeout => exact answers_next (good_ite (State.sessMod_good (State.xferEnd_good h ..) ..) h)
  | snapshotDiscard => exact answers_next (State.snapDiscard_good h ..)
  | firmwareVerify => exact answers_next (State.accessAt_good h _ _ _ _ fun _ h => State.firmwareAsk_good h ..)
  | firmwareInstall => exact answers_next (State.accessAt_good h _ _ _ _ fun _ h => State.firmwareAsk_good h ..)
  | firmwareActivate => exact answers_next (State.accessAt_good h _ _ _ _ fun _ h => State.firmwareAsk_good h ..)
  | firmwareCommandComplete => exact answers_next (State.firmwareEnd_good h ..)
  | roleKeyWrite => exact answers_next (State.roleKeyBlock_good h ..)
  | partnerKeyWrite => exact answers_next (State.partnerKeyBlock_good h ..)
  | slotHostTakeup => exact answers_next (State.hostTakeup_good h ..)
  | canFrameReceived => exact answers_next (State.canReceived_good h ..)
  | canFrameSent => exact answers_next (State.canSent_good h ..)
  | canBusError => exact answers_next (State.canError_good h ..)
  | canRecoveryCommand => exact answers_next (State.access_good h _ _ fun _ h => State.canRecover_good h ..)
  | canRecoveryComplete => exact answers_next (State.canRecovered_good h ..)
  | canIntegrated => exact answers_next (State.canIntegrated_good h ..)
  | canTxSubmit =>
    exact answers_next (State.access_good h _ _ fun _ h => good_ite (State.canSubmit_good h ..) (State.refuse_good (State.canSubmit_good h ..) ..))
  | canAbortHead => exact answers_next (State.access_good h _ _ fun _ h => State.canAbort_good h ..)
  | canAbortAll => exact answers_next (State.access_good h _ _ fun _ h => State.canAbort_good h ..)
  | canAbortNonSafety => exact answers_next (State.access_good h _ _ fun _ h => State.canAbort_good h ..)
  | canHeadwait => exact answers_next (State.canHeadLimit_good h ..)
  | canAntennaStart => exact answers_next (State.access_good h _ _ fun _ h => State.antennaStart_good h ..)
  | canAntennaStop => exact answers_next (State.access_good h _ _ fun _ h => State.antennaEnd_good h ..)
  | antennaDataPhaseEnd => exact answers_next (State.antennaFound_good h ..)
  | antennaTimeout => exact answers_next (good_ite (State.antennaEnd_good h ..) h)
  | canRxBufferLock => exact answers_next (good_ite (State.canLock_good h ..) h)
  | canRxBufferRelease => exact answers_next (good_ite (State.canRelease_good h ..) h)
  | ethFrameReceived => exact answers_next (State.ethReceived_good h ..)
  | netLinkdown => exact answers_next (State.xgDown_good h ..)
  | xgLinkUp => exact answers_next (good_ite (State.put_good h ..) h)
  | gateIntervalStart => exact answers_next (good_ite (State.gateStart_good h ..) h)
  | ptpSync => exact answers_next (State.ptpSync_good h ..)
  | syncTimeout => exact answers_next (good_ite (State.put_good h ..) h)
  | netTimeloss => exact answers_next (good_ite (State.raise_good (State.put_good h ..) ..) h)
  | ppsInEdge => exact answers_next (good_ite (State.meet_good h ..) h)
  | streamDatagramSend => exact answers_next (good_ite (State.streamSend_good h) h)
  | netPlca => exact answers_next (good_ite (State.note_good (State.put_good h ..) ..) h)
  | plcaBeaconReturn => exact answers_next (good_ite (State.put_good h ..) h)
  | eslFrameReceived =>
    refine answers_next (good_ite h (good_ite ?_ (State.entryFrame_good h ..)))
    split
    · exact State.eslCheck_good h ..
    · exact h
  | eslWatchdogExpiry => exact answers_next (good_ite (State.eslExpire_good h ..) h)
  | eslTxFrame => exact answers_next (good_ite (State.eslSend_good h ..) h)
  | soEnergise => exact answers_next (State.soEnergise_good h ..)
  | soDeenergise => exact answers_next (good_ite (State.soRelease_good h ..) h)
  | soReadbackMismatch => exact answers_next (State.soMismatch_good h ..)
  | soOffPulse => exact answers_next (State.soOffPulse_good h ..)
  | safSoreadback => exact answers_next (State.soPilotFault_good h ..)
  | siValueChange => exact answers_next (State.siChange_good h ..)
  | siTestPulseCheck => exact answers_next (good_ite (good_forAll h fun _ _ h => State.siPulse_good h ..) h)
  | safSidiscrepancy => exact answers_next (good_ite (State.siFault_good h ..) h)
  | safPinreadback => exact answers_next (State.pinReadback_good h ..)
  | safProofdue => exact answers_next (good_ite (State.raise_good (State.put_good h ..) ..) h)
  | faultRaise => exact answers_next (good_ite (State.raise_good h ..) h)
  | faultRecordTake => exact answers_next (State.recordTake_good h)
  | faultClearRequest => exact answers_next (good_ite h (good_ite (State.refuse_good h ..) (State.clearFault_good h ..)))
  | eventLogFlush => exact answers_next (good_ite (State.flushLog_good h) h)
  | faultInject => exact answers_next (good_ite h (good_ite (State.refuse_good h ..) (good_ite (State.refuse_good h ..) (State.inject_good h))))
  | sramEccError => exact answers_next (good_ite h (good_ite (State.eccDouble_good h ..) (State.eccCorrected_good h ..)))
  | backgroundTestRegion =>
    exact answers_next (good_ite h (good_ite (State.testRegion_good h ..)
      (good_ite h (good_ite (State.testRegion_good (State.leaveAsk_good h ..) ..) (State.leaveAsk_good h ..)))))
  | memConflictsat => exact answers_next (good_ite h (State.masterWaits_good h ..))
  | leaveRequest => exact answers_next (good_ite h (good_ite (State.onGrant_good (State.leaveAsk_good h ..) ..) (State.leaveAsk_good h ..)))
  | leaveSafetyRequest => exact answers_next (good_ite h (good_ite (State.onGrant_good (State.leaveAsk_good h ..) ..) (State.leaveAsk_good h ..)))
  | leaveGrant =>
    refine answers_next (good_ite h ?_)
    split
    · exact good_ite (State.onGrant_good (State.leaveHold_good (good_free h ..) ..) ..) h
    · exact h
  | leaveReturn => exact answers_next (good_ite (State.leaveBack_good h ..) h)
  | leaveWait => exact answers_next (good_ite (State.log_good (State.note_good (good_free h ..) ..) ..) h)
  | temperatureSample => exact answers_next (good_ite (State.temperatures_good h ..) h)
  | voltageSample => exact answers_next (good_ite (good_forAll h fun _ _ h => State.vmJudge_good h ..) h)
  | processMonitorSample => exact answers_next (good_ite (good_forAll h fun _ _ h => State.pmJudge_good h ..) h)
  | ppsOutSecond => exact answers_next (good_ite (State.netMod_good h ..) h)
  | lampPatternEdge => exact answers_next (State.lampShow_good h ..)
  | ptpSyncTransmit => exact answers_next (good_ite h (good_ite (good_ite (State.netPut_good h ..) h) (good_ite (State.netPut_good h ..) h)))
  | freeRunningMeterSample => exact answers_next (State.acFree_good h ..)
  | stationChopperRun => exact answers_next (good_ite (State.stChop_good (State.put_good h ..) ..) h)
  | stationChopperStop => exact answers_next (good_ite (State.stChop_good (State.put_good h ..) ..) h)
  | linkBelowOv1 =>
    exact answers_next (State.linkBelowOv1_good (State.linkBelowOv2_good (State.linkBelowOv3_good (State.linkMeasured_good h ..) ..) ..) ..)
  | linkBelowOv3 => exact answers_next (State.linkBelowOv3_good (State.linkMeasured_good h ..) ..)
  | linkFaultOpenTimeout => exact answers_next (good_ite (State.lkCurrentLow_good h) h)
  | inletPrechargeOutputOpen => exact answers_next (good_ite (State.lkMod_good (State.soRelease_good h ..) ..) h)
  | xgPllLock => exact answers_next (good_ite (State.put_good h ..) h)
  | testRestartDelay => exact answers_next (State.testRestart_good h ..)
  | linkProtocolTimeout => exact answers_next (good_ite (State.lkFault_good h ..) (good_ite (State.raise_good (State.postStop_good h ..) ..) h))

/-- A swap keeps what is said of the supplies and of the queue. -/
theorem exec_good_of_mayConfigure {P : Plat → List Instr → Prop} {s : State} (h : s.Good (fun w _ p => P w p)) {c : Instr}
    (hp : c.mayPower = false) (hc : c.mayConfigure = true) : Answers (fun w _ p => P w p) (exec c s) := by
  cases c with
  | swapBoundary => exact answers_next (good_ite (State.swapNow_good h) h)
  | configSwap tb => exact answers_next (State.swapAngle_good h tb.val)
  | powerOn | resetNRise | wakePinEdge | canWake | wakeTimerExpiry => cases hp
  | _ => cases hc

/-- A command of supplies, reset, clocks, wakes and mode transitions keeps what is said of the queue. -/
theorem exec_good_of_mayPower {P : List Instr → Prop} {s : State} (h : s.Good (fun _ _ p => P p)) {c : Instr} (hp : c.mayPower = true) :
    Answers (fun _ _ p => P p) (exec c s) := by
  have hQ : Undoable (fun _ _ p => P p) := undoable_const
  cases c with
  | powerOn => exact answers_next (State.powerOn_good h ..)
  | resetNFall => exact answers_next (State.resetFall_good h ..)
  | resetNRise => exact answers_next (State.resetRise_good h ..)
  | vddCocLoss => exact answers_next (State.put_good (State.cocLost_good h) ..)
  | pfailNFall => exact answers_next (State.pfailFall_good h)
  | pfailNRise => exact answers_next (good_plat h h.plant)
  | clockLoss => exact answers_next (State.clockLost_good h ..)
  | modeTransitionComplete => exact answers_next (State.completeMode_good h)
  | wakePinEdge => exact answers_next (State.wake_good h ..)
  | canWake => exact answers_next (State.wake_good h ..)
  | wakeTimerExpiry => exact answers_next (State.wake_good h ..)
  | _ => cases hp

/-- No command touches the queue, and each keeps a sound state sound. -/
theorem exec_good_of_queue {P : List Instr → Prop} {s : State} (h : s.Good (fun _ _ p => P p)) (c : Instr) :
    Answers (fun _ _ p => P p) (exec c s) := by
  cases hp : c.mayPower
  · cases hc : c.mayConfigure
    · exact exec_good undoable_const h hp hc
    · exact exec_good_of_mayConfigure (P := fun _ p => P p) h hp hc
  · exact exec_good_of_mayPower h hp

theorem exec_sound {s t : State} (h : s.Sound) (c : Instr) (he : exec c s = .next t) : t.Sound :=
  (exec_good_of_queue (P := fun _ => True) (h.good trivial) c t he).sound

/-! ## The step -/

theorem step_of_nil {s : State} (h : s.pending = []) : step s = .next s.clockTick := by
  unfold step
  rw [h]

theorem step_of_cons {s : State} {c : Instr} {rest : List Instr} (h : s.pending = c :: rest) :
    step s = exec c { s with pending := rest } := by
  unfold step
  rw [h]

/-- Settles O3: the clock's tick and each command keep a sound state sound, and the queue's rest is no part of soundness. -/
theorem stepKeepsSound : Obligations.StepKeepsSound := by
  intro s t h he
  cases hq : s.pending with
  | nil =>
    obtain rfl : s.clockTick = t := by simpa [step_of_nil hq] using he
    exact (State.clockTick_good (P := fun _ _ => True) (h.good trivial)).sound
  | cons c rest =>
    rw [step_of_cons hq] at he
    exact exec_sound (s := { s with pending := rest }) h c he

end Sys2Proof.Machine
end

section
/-! SUPPORT. What the operations of a pass through M0 leave of the supplies and the seal latch, in whatever state they act: each leaves them
as they are but for the few named in the section after this. These are rules for rewriting, one for each operation, and they hold without a
word about soundness, for POWER_ON acts in any state. `-implicitDefEqProofs`
stands where a law that is true by `rfl` serves inside a loop's body: there the kernel needs the rewriting's own proof. -/

namespace Sys2Proof.Machine

/-! ## Shapes of a meaning -/

@[simp] theorem State.plat_forAll {l : List Nat} {f : Nat → State → State} (hf : ∀ n t, (f n t).plat = t.plat) (s : State) :
    (s.forAll l f).plat = s.plat := by
  unfold State.forAll
  induction l generalizing s with
  | nil => rfl
  | cons a l ih => exact (ih _).trans (hf a s)

@[simp] theorem State.plat_foldl {β : Type} {l : List β} {f : State → β → State} (hf : ∀ t a, (f t a).plat = t.plat) (s : State) :
    (l.foldl f s).plat = s.plat := by
  induction l generalizing s with
  | nil => rfl
  | cons a l ih => exact (ih _).trans (hf s a)

variable (s : State)

/-! ## Objects, records, the collector and the leave register -/

@[simp] theorem State.leaveShow_plat : s.leaveShow.plat = s.plat := rfl
@[simp] theorem State.loadStateRegion_plat (e : Nat) : (s.loadStateRegion e).plat = s.plat := rfl
@[simp] theorem State.eslMod_plat (n : Nat) (f : EslX → EslX) : (s.eslMod n f).plat = s.plat := rfl
@[simp] theorem State.incSat_plat (k : Nat) : (s.incSat k).plat = s.plat := rfl
@[simp] theorem State.addSat_plat (k : Nat) (n : Nat) : (s.addSat k n).plat = s.plat := rfl
@[simp] theorem State.log_plat (kind code inst a b : Nat) : (s.log kind code inst a b).plat = s.plat := rfl
@[simp] theorem State.statusBit_plat (code : Nat) (on : Bool) : (s.statusBit code on).plat = s.plat := rfl
@[simp] theorem State.refreshClassMap_plat : s.refreshClassMap.plat = s.plat := rfl

@[simp] theorem State.collect_plat (code inst : Nat) (injected : Bool) : (s.collect code inst injected).plat = s.plat := by
  unfold State.collect
  split <;> simp [apply_ite State.plat]

@[simp] theorem State.note_plat (code inst : Nat) : (s.note code inst).plat = s.plat := by simp [State.note]

/-! ## The two sets of a scope -/

@[simp] theorem State.before_plat (u : SwapUndo) : (s.before u).plat = s.plat := rfl
@[simp] theorem State.exchanged_plat (map : Nat) : (s.exchanged map).plat = s.plat := rfl
@[simp] theorem State.shadowTouch_plat (n : Nat) : (s.shadowTouch n).plat = s.plat := rfl
@[simp] theorem State.factory_plat (scopes : List Nat) : (s.factory scopes).plat = s.plat := rfl
@[simp] theorem State.unswap_plat : s.unswap.plat = s.plat := by simp -implicitDefEqProofs [State.unswap]

@[simp] theorem State.undoSwap_plat (code : Nat) : (s.undoSwap code).plat = s.plat := by
  unfold State.undoSwap
  split
  · rfl
  · simp -implicitDefEqProofs [apply_ite State.plat]

@[simp] theorem State.cancelSwap_plat (code : Nat) : (s.cancelSwap code).plat = s.plat := by
  simp -implicitDefEqProofs [State.cancelSwap, apply_ite State.plat]

@[simp] theorem State.swapLoses_plat : s.swapLoses.plat = s.plat := by simp [State.swapLoses]
@[simp] theorem State.swapYields_plat (fns : List Fn) : (s.swapYields fns).plat = s.plat := by simp [State.swapYields, apply_ite State.plat]

/-! ## Pins, supplies and groups -/

@[simp] theorem State.setGs_plat (n : Nat) (d : SupplyDrive) : (s.setGs n d).plat = s.plat := rfl
@[simp] theorem State.supplyReady_plat (n : Nat) : (s.supplyReady n).plat = s.plat := rfl
@[simp] theorem State.keepSupply_plat (n : Nat) : (s.keepSupply n).plat = s.plat := rfl
@[simp] theorem State.stopSupply_plat (n : Nat) : (s.stopSupply n).plat = s.plat := rfl
@[simp] theorem State.gsPut_plat (k st : Nat) : (s.gsPut k st).plat = s.plat := by simp [State.gsPut, apply_ite State.plat]

@[simp] theorem State.nextPair_plat (fuel : Nat) : (s.nextPair fuel).plat = s.plat := by
  induction fuel generalizing s with
  | zero => rfl
  | succ n ih =>
    unfold State.nextPair
    split
    · rfl
    · extract_lets t u
      split
      · exact ih t
      · simp [u, t]

@[simp] theorem State.startSupplies_plat (pairs : List Nat) : (s.startSupplies pairs).plat = s.plat := by
  simp [State.startSupplies, apply_ite State.plat]

@[simp] theorem State.conductionEnds_plat (c f : Nat) : (s.conductionEnds c f).plat = s.plat := by
  unfold State.conductionEnds
  split <;> simp [apply_ite State.plat]

@[simp] theorem State.callMode_plat (mode c f new next : Nat) (full : Bool) : (s.callMode mode c f new next full).plat = s.plat := by
  simp [State.callMode, apply_ite State.plat]

@[simp] theorem State.pinsOff_plat (c : Nat) : (s.pinsOff c).plat = s.plat := by simp [State.pinsOff]
@[simp] theorem State.pinsAsc_plat (c new : Nat) : (s.pinsAsc c new).plat = s.plat := by simp [State.pinsAsc]

@[simp] theorem State.pinsFor_plat (c : Nat) (d : Drive) : (s.pinsFor c d).plat = s.plat := by
  unfold State.pinsFor
  split <;> simp

@[simp] theorem State.setHb_plat (n : Nat) (d : Drive) : (s.setHb n d).plat = s.plat := by simp [State.setHb]
@[simp] theorem State.setLv_plat (n : Nat) (d : Drive) : (s.setLv n d).plat = s.plat := by simp [State.setLv]
@[simp] theorem State.offLv_plat (n : Nat) : (s.offLv n).plat = s.plat := by simp [State.offLv]

@[simp] theorem State.planChannel_plat (a : PlanAct) (n : Nat) : (s.planChannel a n).plat = s.plat := by
  unfold State.planChannel
  split <;> simp

@[simp] theorem State.offChannel_plat (n : Nat) : (s.offChannel n).plat = s.plat := by simp [State.offChannel]

@[simp] theorem State.keepChannel_plat (n : Nat) : (s.keepChannel n).plat = s.plat := by
  unfold State.keepChannel
  split <;> simp

@[simp] theorem State.promote_plat (g : Nat) : (s.promote g).plat = s.plat := by
  unfold State.promote
  split <;> simp [apply_ite State.plat]

@[simp] theorem State.commitNow_plat (g : Nat) : (s.commitNow g).plat = s.plat := by simp [State.commitNow]

@[simp] theorem State.overrideGroup_plat (g : Nat) : (s.overrideGroup g).plat = s.plat := by
  simp [State.overrideGroup, apply_ite State.plat]

@[simp] theorem State.runGroup_plat (g : Nat) : (s.runGroup g).plat = s.plat := by simp [State.runGroup, apply_ite State.plat]

/-! ## What the functions lose to the island -/

@[simp] theorem State.mtrIssue_plat (kind : Nat) (x : MtrSess) (start stop imp exp flags events peak : Nat) :
    (s.mtrIssue kind x start stop imp exp flags events peak).plat = s.plat := rfl

@[simp] theorem State.mtrInterval_plat (stop flags : Nat) : (s.mtrInterval stop flags).plat = s.plat := by
  unfold State.mtrInterval
  split <;> simp

@[simp] theorem State.mtrCloseAt_plat (stop flags : Nat) : (s.mtrCloseAt stop flags).plat = s.plat := by
  unfold State.mtrCloseAt
  extract_lets t
  split
  · rfl
  · split <;> simp [t]

@[simp] theorem State.mtrClose_plat (flags : Nat) : (s.mtrClose flags).plat = s.plat := by simp [State.mtrClose]

@[simp] theorem State.tdManage_plat (connection identity : Nat) (initiator : Bool) :
    (s.tdManage connection identity initiator).plat = s.plat := by
  unfold State.tdManage
  split <;> simp

@[simp] theorem State.tdEnd_plat : s.tdEnd.plat = s.plat := by simp [State.tdEnd, apply_ite State.plat]
@[simp] theorem State.cpTo_plat (c p : Nat) : (s.cpTo c p).plat = s.plat := rfl
@[simp] theorem State.cpStop_plat (c : Nat) : (s.cpStop c).plat = s.plat := by simp [State.cpStop, apply_ite State.plat]
@[simp] theorem State.lvHeld_plat : s.lvHeld.plat = s.plat := by simp [State.lvHeld, apply_ite State.plat]
@[simp] theorem State.wcHeld_plat : s.wcHeld.plat = s.plat := by simp [State.wcHeld, apply_ite State.plat]
@[simp] theorem State.lkHeld_plat : s.lkHeld.plat = s.plat := by simp [State.lkHeld, apply_ite State.plat]
@[simp] theorem State.postHeld_plat : s.postHeld.plat = s.plat := by simp [State.postHeld, apply_ite State.plat]
@[simp] theorem State.stHeld_plat : s.stHeld.plat = s.plat := by simp [State.stHeld, apply_ite State.plat]
@[simp] theorem State.ccHeld_plat : s.ccHeld.plat = s.plat := by simp [State.ccHeld, apply_ite State.plat]
@[simp] theorem State.gaLost_plat (a : Nat) : (s.gaLost a).plat = s.plat := by simp [State.gaLost, apply_ite State.plat]

@[simp] theorem State.fnHeld_plat (f : Fn) : (s.fnHeld f).plat = s.plat := by
  unfold State.fnHeld
  split <;> simp [apply_ite State.plat]

/-! ## The island's plans and triggers, and raising a fault -/

@[simp] theorem State.record_plat (code inst : Nat) (whole masked : Bool) (fns : List Fn) (resetMs : Nat) :
    (s.record code inst whole masked fns resetMs).plat = s.plat := rfl

@[simp] theorem State.holdBy_plat (code : Nat) : (s.holdBy code).plat = s.plat := by simp [State.holdBy, apply_ite State.plat]
@[simp] theorem State.soLow_plat (st : Nat) (n : Nat) : (s.soLow st n).plat = s.plat := rfl
@[simp] theorem State.abandonRequest_plat : s.abandonRequest.plat = s.plat := by simp [State.abandonRequest, apply_ite State.plat]
@[simp] theorem State.enterM9_plat (cause : Nat) : (s.enterM9 cause).plat = s.plat := by simp [State.enterM9, apply_ite State.plat]
@[simp] theorem State.planMachine_plat (m : Nat) : (s.planMachine m).plat = s.plat := by simp [State.planMachine, apply_ite State.plat]

@[simp] theorem State.planFn_plat (f : Fn) : (s.planFn f).plat = s.plat := by
  unfold State.planFn
  split <;> simp -implicitDefEqProofs

@[simp] theorem State.planAll_plat : s.planAll.plat = s.plat := by simp -implicitDefEqProofs [State.planAll]

@[simp] theorem State.trigger_plat (code inst : Nat) (masked : Bool) : (s.trigger code inst masked).plat = s.plat := by
  simp [State.trigger, apply_ite State.plat]

@[simp] theorem State.triggerSafe_plat (code inst : Nat) (masked : Bool) : (s.triggerSafe code inst masked).plat = s.plat := by
  simp [State.triggerSafe, apply_ite State.plat]

@[simp] theorem State.raiseWith_plat (code inst : Nat) (injected masked : Bool) :
    (s.raiseWith code inst injected masked).plat = s.plat := by
  unfold State.raiseWith
  split <;> simp [apply_ite State.plat]

@[simp] theorem State.raise_plat (code inst : Nat) : (s.raise code inst).plat = s.plat := by simp [State.raise]

/-! ## Leave -/

@[simp] theorem State.leaveHold_plat (op : LeaveOp) : (s.leaveHold op).plat = s.plat := rfl

@[simp] theorem State.leaveSafety_plat (op : LeaveOp) : (s.leaveSafety op).plat = s.plat := by
  simp [State.leaveSafety, apply_ite State.plat]

@[simp] theorem State.leaveAsk_plat (op : LeaveOp) : (s.leaveAsk op).1.plat = s.plat := by
  unfold State.leaveAsk
  split
  · simp
  · split <;> simp

/-! ## First use of the functions -/

@[simp] theorem State.tbState_plat (t st : Nat) : (s.tbState t st).plat = s.plat := rfl
@[simp] theorem State.tbLocked_plat (t : Nat) : (s.tbLocked t).plat = s.plat := rfl
@[simp] theorem State.setSpeed_plat (t : Nat) (v : Int) : (s.setSpeed t v).plat = s.plat := by simp [State.setSpeed, apply_ite State.plat]
@[simp] theorem State.tbOff_plat (t : Nat) : (s.tbOff t).plat = s.plat := rfl

@[simp] theorem State.putAngle_plat (t : Nat) (full : Int) (turnsFrom : Nat) : (s.putAngle t full turnsFrom).plat = s.plat := by
  simp [State.putAngle]

@[simp] theorem State.setSourceSpeed_plat (t : Nat) (v : Int) : (s.setSourceSpeed t v).plat = s.plat := by
  simp [State.setSourceSpeed, apply_ite State.plat]

@[simp] theorem State.tbEnable_plat (t : Nat) : (s.tbEnable t).plat = s.plat := by simp [State.tbEnable, apply_ite State.plat]

@[simp] theorem State.slotDerived_plat (n : Nat) : (s.slotDerived n).plat = s.plat := by
  unfold State.slotDerived
  extract_lets im
  cases im <;> simp

@[simp] theorem State.slotUp_plat (n : Nat) : (s.slotUp n).plat = s.plat := by simp [State.slotUp, apply_ite State.plat]

@[simp] theorem State.canShow_plat (c : Nat) : (s.canShow c).plat = s.plat := by
  unfold State.canShow
  extract_lets x st t
  split <;> rfl

@[simp] theorem State.canStart_plat (c : Nat) : (s.canStart c).plat = s.plat := by simp [State.canStart]
@[simp] theorem State.sensorsFollow_plat : s.sensorsFollow.plat = s.plat := by simp [State.sensorsFollow, apply_ite State.plat]
@[simp] theorem State.portEmpty_plat (p : Nat) : (s.portEmpty p).plat = s.plat := by simp [State.portEmpty, apply_ite State.plat]
@[simp] theorem State.xgFollow_plat (p : Nat) : (s.xgFollow p).plat = s.plat := by simp [State.xgFollow, apply_ite State.plat]
@[simp] theorem State.t1sFollow_plat (t : Nat) : (s.t1sFollow t).plat = s.plat := by simp [State.t1sFollow, apply_ite State.plat]

@[simp] theorem State.slotWrite_plat (q raw : Nat) : (s.slotWrite q raw).plat = s.plat := by
  simp -implicitDefEqProofs [State.slotWrite, apply_ite State.plat]

@[simp] theorem State.imageWrite_plat (e : Nat) (value : Nat → Nat) : (s.imageWrite e value).plat = s.plat := by
  simp [State.imageWrite, apply_ite State.plat]

@[simp] theorem State.substitutes_plat (e : Nat) : (s.substitutes e).plat = s.plat := by simp [State.substitutes]

@[simp] theorem State.requestLost_plat (m : Nat) (lost : Bool) : (s.requestLost m lost).plat = s.plat := by
  simp [State.requestLost, apply_ite State.plat]

@[simp] theorem State.eslHolds_plat (e : Nat) (holds : Bool) : (s.eslHolds e holds).plat = s.plat := by
  simp [State.eslHolds, apply_ite State.plat]

@[simp] theorem State.eslEnable_plat (e : Nat) : (s.eslEnable e).plat = s.plat := by simp [State.eslEnable, apply_ite State.plat]
@[simp] theorem State.eslFollow_plat : s.eslFollow.plat = s.plat := by simp -implicitDefEqProofs [State.eslFollow, apply_ite State.plat]
@[simp] theorem State.siStart_plat (n : Nat) : (s.siStart n).plat = s.plat := rfl
@[simp] theorem State.monStart_plat : s.monStart.plat = s.plat := rfl
@[simp] theorem State.safetyCrc_plat : s.safetyCrc.plat = s.plat := by simp [State.safetyCrc, apply_ite State.plat]
@[simp] theorem State.openInterval_plat (bound : Nat) : (s.openInterval bound).plat = s.plat := by simp [State.openInterval]

@[simp] theorem State.mtrRestore_plat : s.mtrRestore.plat = s.plat := by
  unfold State.mtrRestore
  extract_lets keep s1 ps s2
  have h2 : s2.plat = s.plat := by
    unfold s2
    split
    · rfl
    · exact State.plat_foldl (fun _ _ => State.put_plat ..) s1
  clear_value s2
  split
  · exact h2
  · next k _ =>
    extract_lets s3 s4 bad s5 fl s6
    have h3 : s3.plat = s.plat := (State.plat_forAll (fun _ _ => State.put_plat ..) s2).trans h2
    clear_value s3
    have h4 : s4.plat = s.plat := by simp only [s4, State.put_plat, h3]
    clear_value s4
    have h5 : s5.plat = s.plat := by simp only [s5, apply_ite State.plat, State.note_plat, h4, ite_self]
    clear_value s5
    have h6 : s6.plat = s.plat := by simp only [s6, apply_ite State.plat, State.openInterval_plat, h5, ite_self]
    clear_value s6
    split <;> simp only [State.mtrCloseAt_plat, State.mtrMod_plat, h6]

@[simp] theorem State.lvIsoShadow_plat : s.lvIsoShadow.plat = s.plat := by simp [State.lvIsoShadow, apply_ite State.plat]

@[simp] theorem State.lvBegin_plat : s.lvBegin.plat = s.plat := by
  unfold State.lvBegin
  extract_lets s1 now s2 gs
  split
  · simp -implicitDefEqProofs [s2, s1]
  · simp [s1]

@[simp] theorem State.lvEnterM2_plat : s.lvEnterM2.plat = s.plat := by simp [State.lvEnterM2, apply_ite State.plat]
@[simp] theorem State.firstUse_plat : s.firstUse.plat = s.plat := by simp -implicitDefEqProofs [State.firstUse]
@[simp] theorem State.powerOff_plat : s.powerOff.plat = s.plat := by simp -implicitDefEqProofs [State.powerOff]

/-! ## The steps of a pass -/

@[simp] theorem State.islandRecord_plat (r : TriggerRec) : (s.islandRecord r).plat = s.plat := rfl
@[simp] theorem State.bootShow_plat (passType : Nat) (env : BootEnv) : (s.bootShow passType env).plat = s.plat := rfl
@[simp] theorem State.bootFail_plat (code : Nat) : (s.bootFail code).plat = s.plat := by simp [State.bootFail]

@[simp] theorem State.metrologyStep_plat (env : BootEnv) : (s.metrologyStep env).plat = s.plat := by
  simp [State.metrologyStep, apply_ite State.plat]

@[simp] theorem State.configStep_plat (env : BootEnv) : (s.configStep env).plat = s.plat := by
  simp -implicitDefEqProofs [State.configStep, apply_ite State.plat]

@[simp] theorem State.endReady_plat : s.endReady.plat = s.plat := by simp -implicitDefEqProofs [State.endReady]
@[simp] theorem State.endCocoon_plat : s.endCocoon.plat = s.plat := by simp -implicitDefEqProofs [State.endCocoon, apply_ite State.plat]
@[simp] theorem State.bootEnd_plat (warm : Bool) : (s.bootEnd warm).plat = s.plat := by simp [State.bootEnd, apply_ite State.plat]

end Sys2Proof.Machine
end

section
/-! SUPPORT. The seal latch (R62): a release of RESET_N loads it once, and nothing but the loss and return of VDD_COC changes it. -/

namespace Sys2Proof.Machine

/-! ## The latch -/

/-- What the seal latch holds: whether it is loaded, and the levels it took (R62). -/
def Plat.latch (w : Plat) : Bool × Nat := (w.latchLoaded, w.sealLatch)

/-- The latch after a release of RESET_N: a loaded one as it was, else loaded with the levels of the pins (R62). -/
def Plat.released (w : Plat) (env : BootEnv) : Bool × Nat := (true, if w.latchLoaded then w.sealLatch else env.seals.toNat)

theorem Plat.released_of_loaded {w : Plat} (h : w.latchLoaded = true) (env : BootEnv) : w.released env = w.latch := by
  simp [Plat.released, Plat.latch, h]

theorem Plat.released_of_unloaded {w : Plat} (h : w.latchLoaded = false) (env : BootEnv) : w.released env = (true, env.seals.toNat) := by
  simp [Plat.released, h]

section
variable (s : State)

theorem State.sealStep_latch (env : BootEnv) : (s.sealStep env).1.plat.latch = s.plat.released env := by
  unfold State.sealStep
  extract_lets fl src t ch src' u
  have hu : u.plat.latch = s.plat.released env := by
    by_cases h : s.plat.latchLoaded = true <;> simp [u, src', t, src, h, Plat.latch, Plat.released]
  split
  · simpa using hu
  · split
    · simpa using hu
    · exact hu

theorem State.firmwareStep_plat (env : BootEnv) : (s.firmwareStep env).1.plat = s.plat := by
  unfold State.firmwareStep
  extract_lets want src t
  split
  · rfl
  · split
    · simp [t]
    · simp [t]

theorem State.testSteps_plat (env : BootEnv) : (s.testSteps env).1.plat = s.plat := by
  unfold State.testSteps
  split
  · simp
  · split
    · simp
    · rfl

theorem State.imageSteps_plat (env : BootEnv) : (s.imageSteps env).1.plat = s.plat := by
  unfold State.imageSteps
  extract_lets r
  have hr : r.1.plat = s.plat := s.firmwareStep_plat env
  split
  · exact hr
  · rw [State.testSteps_plat, State.metrologyStep_plat, hr]

theorem State.bootSteps_latch (env : BootEnv) : (s.bootSteps env).1.plat.latch = s.plat.released env := by
  unfold State.bootSteps
  extract_lets r
  have hr : r.1.plat.latch = s.plat.released env := s.sealStep_latch env
  have hp : r.1.pllUp.plat.latch = s.plat.released env := hr
  split
  · exact hr
  · split
    · rwa [State.bootFail_plat]
    · rwa [State.imageSteps_plat]

theorem State.islandReadout_latch : s.islandReadout.plat.latch = s.plat.latch := by
  unfold State.islandReadout
  extract_lets t u src1 src2
  have ht : t.plat = s.plat := State.plat_foldl (fun t r => State.islandRecord_plat t r) s
  have hu : u.plat = t.plat := rfl
  show u.plat.latch = s.plat.latch
  rw [hu, ht]

theorem State.passEnd_latch (passType : Nat) (env : BootEnv) : (s.passEnd passType env).plat.latch = s.plat.latch := by
  rw [State.passEnd, State.bootEnd_plat, State.bootShow_plat, State.islandReadout_latch, State.configStep_plat, State.unswap_plat]

theorem State.chrysalis_latch (passType : Nat) (env : BootEnv) : (s.chrysalis passType env).plat.latch = s.plat.released env := by
  unfold State.chrysalis
  extract_lets r
  have hr : r.1.plat.latch = s.plat.released env := (s.passStart passType env).bootSteps_latch env
  split
  · exact hr
  · rwa [State.passEnd_latch]

theorem State.powerOn_latch (env : BootEnv) : (s.powerOn true env).plat.latch = (true, env.seals.toNat) := by
  unfold State.powerOn
  extract_lets s1 src s2 s3
  have h3 : s3.plat = s2.plat := State.plat_forAll (fun n t => State.soLow_plat t 7 n) s2
  rw [if_pos rfl, State.chrysalis_latch]
  exact Plat.released_of_unloaded (by rw [h3]; rfl) env

theorem State.resetRise_latch (h : s.plat.latchLoaded = true) (lowMs : Nat) (env : BootEnv) :
    (s.resetRise lowMs env).plat.latch = s.plat.latch := by
  unfold State.resetRise
  split
  · rfl
  · extract_lets long t first src src' u
    have ht : t.plat = s.plat := by
      unfold t State.amendRecord
      split <;> rfl
    have hu : u.plat.latch = s.plat.latch := show t.plat.latch = s.plat.latch by rw [ht]
    have loaded : u.plat.latchLoaded = true := (congrArg Prod.fst hu).trans h
    rw [State.chrysalis_latch, Plat.released_of_loaded loaded, hu]

theorem State.wake_latch (h : s.plat.latchLoaded = true) (bit cause : Nat) (on : Bool) (env : BootEnv) :
    (s.wake bit cause on env).plat.latch = s.plat.latch := by
  unfold State.wake
  split
  · rw [State.put_plat, State.chrysalis_latch, Plat.released_of_loaded h]
  · rfl

theorem State.domainsOff_latch : s.domainsOff.plat.latch = s.plat.latch := by
  unfold State.domainsOff
  extract_lets t src src1 src2 u
  have ht : t.plat = s.plat := by simp -implicitDefEqProofs [t]
  clear_value t
  have hu : u.plat.latch = s.plat.latch := show t.plat.latch = s.plat.latch by rw [ht]
  rwa [State.put_plat, State.powerOff_plat]

theorem State.resetFall_latch (lowNs : Nat) : (s.resetFall lowNs).plat.latch = s.plat.latch := by
  unfold State.resetFall
  split
  · rfl
  · extract_lets src t u src1 v at_ src2
    have hu : u.plat = t.plat := by simp only [u, State.planAll_plat, State.record_plat, State.swapLoses_plat]
    have hv : v.plat = t.plat := by simp only [v, State.holdBy_plat, hu]
    have hd : v.domainsOff.plat.latch = s.plat.latch := by rw [State.domainsOff_latch, hv]; rfl
    clear_value v
    split
    · rfl
    · simpa only [Plat.latch, src2] using hd

theorem State.clockLost_latch (pll : Nat) : (s.clockLost pll).plat.latch = s.plat.latch := by
  unfold State.clockLost
  split
  · simp [apply_ite State.plat]
    rfl
  · rfl
end

/-! ## Commands that change the supplies and keep what is said of the latch -/
/-- The seal latch holds `l`, whatever the configuration and the queue. -/
def LatchIs (l : Bool × Nat) : Plat → Cfg → List Instr → Prop := fun w _ _ => w.latch = l

theorem undoable_latchIs (l : Bool × Nat) : Undoable (LatchIs l) := undoable_const (P := fun w _ => w.latch = l)

section
variable {l : Bool × Nat} {s : State}

theorem State.pfailFall_good_latchIs (h : s.Good (LatchIs l)) : s.pfailFall.Good (LatchIs l) := by
  have hQ := undoable_latchIs l
  unfold State.pfailFall
  extract_lets src t st u v now x y
  have ht : t.Good (LatchIs l) := good_plat h h.plant
  have hu : u.Good (LatchIs l) := good_ite (State.cycleBook_good ht ..) ht
  clear_value u
  have hv : v.Good (LatchIs l) := by
    refine State.dcEnd_good (State.mtrMod_good hu ?_) false
    exact fun _ hx => hx
  clear_value v
  have hx : x.Good (LatchIs l) := by
    refine State.mtrMod_good (State.put_good (State.put_good hv _ _) _ _) ?_
    exact fun _ hx => hx
  clear_value x
  exact good_ite ht (State.put_good (State.leaveBack_good (State.mtrJournal_good (State.leaveAsk_good hx ..) ..) ..) ..)

theorem State.doze_good_latchIs (h : s.Good (LatchIs l)) : s.doze.Good (LatchIs l) := by
  unfold State.doze
  extract_lets t
  have ht : t.Good (LatchIs l) :=
    good_forAll (State.commitDefaults_good h) fun n _ h => State.stopSupply_good (State.stopSupply_good h _) _
  have off : t.domainsOff.Good (fun _ _ _ => True) := State.domainsOff_good (P := fun _ _ => True) (ht.mono trivial)
  refine (State.put_good off _ _).mono ?_
  show _ = l
  rw [State.put_plat, State.domainsOff_latch]
  exact ht.plant

theorem State.beginFor_good_latchIs (h : s.Good (LatchIs l)) (old m : Nat) : (s.beginFor old m).Good (LatchIs l) := by
  unfold State.beginFor
  split
  · exact State.doze_good_latchIs h
  · exact State.lvEnterM2_good h
  · exact good_ite (State.commitPlan_good h ..) h
  · exact good_ite (State.commitPlan_good h ..) h
  · exact good_ite h (State.ccEnter_good (State.stEnter_good (State.commitStation_good h)))
  · exact State.factoryTest_good h
  · exact h

theorem State.completeMode_good_latchIs (h : s.Good (LatchIs l)) : s.completeMode.Good (LatchIs l) :=
  good_ite h (good_ite (State.stayInM9_good h) (State.beginFor_good_latchIs (State.enterMode_good (State.leaveFor_good h _) ..) ..))

end

/-! ## The commands and the step -/

theorem latch_of_next {l : Bool × Nat} {u : State} (hu : u.plat.latch = l) :
    ∀ t : State, (.next u : Host.Outcome State Fault Refusal) = .next t → t.plat.latch = l := by
  rintro _ ⟨⟩
  exact hu

/-- The commands of supplies, reset, clocks, wakes and mode transitions, but for the loss and return of VDD_COC, leave a loaded latch. -/
theorem exec_latch_of_mayPower {s : State} {c : Instr} (h : s.Sound) (loaded : s.plat.latchLoaded = true) (hp : c.mayPower = true)
    (hloss : c ≠ .vddCocLoss) (hon : ∀ r env, c ≠ .powerOn r env) : ∀ t, exec c s = .next t → t.plat.latch = s.plat.latch := by
  have good : s.Good (LatchIs s.plat.latch) := h.good rfl
  cases c with
  | powerOn r env => exact absurd rfl (hon r env)
  | vddCocLoss => exact absurd rfl hloss
  | resetNFall lowNs => exact latch_of_next (s.resetFall_latch lowNs)
  | resetNRise lowMs env => exact latch_of_next (s.resetRise_latch loaded lowMs env)
  | pfailNFall => exact latch_of_next (State.pfailFall_good_latchIs good).plant
  | pfailNRise => exact latch_of_next rfl
  | clockLoss pll => exact latch_of_next (s.clockLost_latch pll.toNat)
  | modeTransitionComplete => exact latch_of_next (State.completeMode_good_latchIs good).plant
  | wakePinEdge => exact latch_of_next (s.wake_latch loaded ..)
  | canWake => exact latch_of_next (s.wake_latch loaded ..)
  | wakeTimerExpiry => exact latch_of_next (s.wake_latch loaded ..)
  | _ => cases hp

/-- Every command but the loss and return of VDD_COC leaves a loaded latch. -/
theorem exec_latch {s t : State} {c : Instr} (h : s.Sound) (loaded : s.plat.latchLoaded = true) (hloss : c ≠ .vddCocLoss)
    (hon : ∀ r env, c ≠ .powerOn r env) (he : exec c s = .next t) : t.plat.latch = s.plat.latch := by
  have good : s.Good (LatchIs s.plat.latch) := h.good rfl
  cases hp : c.mayPower
  · cases hc : c.mayConfigure
    · exact (exec_good (undoable_latchIs _) good hp hc t he).plant
    · exact (exec_good_of_mayConfigure (P := fun w _ => w.latch = s.plat.latch) good hp hc t he).plant
  · exact exec_latch_of_mayPower h loaded hp hloss hon t he

/-- Every step leaves a loaded latch, but for the loss and return of VDD_COC. -/
theorem step_latch {s t : State} (h : s.Sound) (loaded : s.plat.latchLoaded = true) (hloss : s.pending.head? ≠ some .vddCocLoss)
    (hon : ∀ r env, s.pending.head? ≠ some (.powerOn r env)) (he : step s = .next t) : t.plat.latch = s.plat.latch := by
  cases hq : s.pending with
  | nil =>
    obtain rfl : s.clockTick = t := by simpa [step_of_nil hq] using he
    exact (State.clockTick_good (P := fun w _ => w.latch = s.plat.latch) (h.good rfl)).plant
  | cons c rest =>
    rw [step_of_cons hq] at he
    exact exec_latch (s := { s with pending := rest }) h loaded (by simpa [hq] using hloss) (by simpa [hq] using hon) he

/-- Settles O5: POWER_ON with RESET_N high empties the latch and its pass loads it from the pins; every later step keeps the loaded latch. -/
theorem roleFixedWhilePowered : Obligations.RoleFixedWhilePowered := by
  constructor
  · intro s env _
    obtain ⟨loaded, levels⟩ := Prod.mk.inj (s.powerOn_latch env)
    exact ⟨s.powerOn true env, rfl, loaded, levels, congrArg (Nat.testBit · 0) levels⟩
  · intro s t h loaded hloss hon he
    obtain ⟨loaded', levels⟩ := Prod.mk.inj (step_latch h loaded hloss hon he)
    exact ⟨loaded'.trans loaded, levels, congrArg (Nat.testBit · 0) levels⟩

end Sys2Proof.Machine
end

section
/-! SUPPORT. What stands aside when functions are held, faults raised and the main domains switched off: the two sets' stores, the swap, the
device records, ROA, the LV pins, the island's records and its count of watchdog expiries. One rule for each operation. `-implicitDefEqProofs`
stands where a law that is true by `rfl` serves inside a loop's body: there the kernel needs the rewriting's own proof. -/

namespace Sys2Proof.Machine

/-- What no function's own state touches: the two configuration sets, the swap, the device records, ROA, what drives the LV channels, and of
the island the records of its retention memory, its hold on everything and the watchdog's expiries (R19, R23, R80, R499). -/
structure Aside where
  active : Store
  shadow : Store
  sw : SwapX
  nv : NvX
  roa : RoaX
  lvDrive : List Drive
  records : List TriggerRec
  whole : Bool
  expiries : Nat

def State.aside (s : State) : Aside :=
  ⟨s.active, s.shadow, s.sw, s.nv, s.roa, s.lvDrive, s.isl.records, s.isl.whole, s.isl.watchdogExpiries⟩

/-! ## Shapes of a meaning -/

/-- What every round of a loop keeps, the loop keeps. -/
theorem State.foldl_keeps {α β : Type} {p : State → α} {l : List β} {f : State → β → State} (hf : ∀ t a, p (f t a) = p t) (s : State) :
    p (l.foldl f s) = p s := by
  induction l generalizing s with
  | nil => rfl
  | cons a l ih => exact (ih _).trans (hf s a)

theorem State.forAll_keeps {α : Type} {p : State → α} {l : List Nat} {f : Nat → State → State} (hf : ∀ n t, p (f n t) = p t) (s : State) :
    p (s.forAll l f) = p s := State.foldl_keeps (fun t n => hf n t) s

@[simp] theorem State.aside_forAll {l : List Nat} {f : Nat → State → State} (hf : ∀ n t, (f n t).aside = t.aside) (s : State) :
    (s.forAll l f).aside = s.aside := State.forAll_keeps hf s

variable (s : State)

/-! ## Objects, the collector and the pins -/

@[simp] theorem State.put_aside (k : Nat) (v : Int) : (s.put k v).aside = s.aside := rfl
@[simp] theorem State.incSat_aside (k : Nat) : (s.incSat k).aside = s.aside := rfl
@[simp] theorem State.addSat_aside (k n : Nat) : (s.addSat k n).aside = s.aside := rfl
@[simp] theorem State.log_aside (kind code inst a b : Nat) : (s.log kind code inst a b).aside = s.aside := rfl
@[simp] theorem State.soLow_aside (st n : Nat) : (s.soLow st n).aside = s.aside := rfl
@[simp] theorem State.statusBit_aside (code : Nat) (on : Bool) : (s.statusBit code on).aside = s.aside := rfl
@[simp] theorem State.refreshClassMap_aside : s.refreshClassMap.aside = s.aside := rfl
@[simp] theorem State.mPut_aside (a n v : Nat) : (s.mPut a n v).aside = s.aside := rfl
@[simp] theorem State.chMod_aside (c : Nat) (f : ChanX → ChanX) : (s.chMod c f).aside = s.aside := rfl
@[simp] theorem State.canMod_aside (c : Nat) (f : CanX → CanX) : (s.canMod c f).aside = s.aside := rfl
@[simp] theorem State.netMod_aside (f : NetX → NetX) : (s.netMod f).aside = s.aside := rfl
@[simp] theorem State.tbMod_aside (t : Nat) (f : TbX → TbX) : (s.tbMod t f).aside = s.aside := rfl
@[simp] theorem State.mtrMod_aside (f : MtrX → MtrX) : (s.mtrMod f).aside = s.aside := rfl
@[simp] theorem State.cpMod_aside (c : Nat) (f : CpX → CpX) : (s.cpMod c f).aside = s.aside := rfl
@[simp] theorem State.lvMod_aside (f : LvX → LvX) : (s.lvMod f).aside = s.aside := rfl
@[simp] theorem State.gaMod_aside (a : Nat) (f : GaX → GaX) : (s.gaMod a f).aside = s.aside := rfl
@[simp] theorem State.keepSupply_aside (n : Nat) : (s.keepSupply n).aside = s.aside := rfl
@[simp] theorem State.stopSupply_aside (n : Nat) : (s.stopSupply n).aside = s.aside := rfl

@[simp] theorem State.collect_aside (code inst : Nat) (injected : Bool) : (s.collect code inst injected).aside = s.aside := by
  unfold State.collect
  split
  · rfl
  · split
    · rfl
    · extract_lets cls again ctx _ t u r _
      have ht : t.aside = s.aside := by unfold t; split <;> rfl
      have hu : u.aside = s.aside := ht
      split
      · exact hu
      · exact hu

@[simp] theorem State.note_aside (code inst : Nat) : (s.note code inst).aside = s.aside := State.collect_aside ..

@[simp] theorem State.conductionEnds_aside (c f : Nat) : (s.conductionEnds c f).aside = s.aside := by
  unfold State.conductionEnds
  split <;> simp [apply_ite State.aside]

@[simp] theorem State.callMode_aside (mode c f new next : Nat) (full : Bool) : (s.callMode mode c f new next full).aside = s.aside := by
  simp [State.callMode, apply_ite State.aside]

@[simp] theorem State.pinsFor_aside (c : Nat) (d : Drive) : (s.pinsFor c d).aside = s.aside := by
  unfold State.pinsFor
  split <;> simp [State.pinsOff, State.pinsAsc]

@[simp] theorem State.setHb_aside (n : Nat) (d : Drive) : (s.setHb n d).aside = s.aside := State.pinsFor_aside ..

@[simp] theorem State.planChannel_aside (a : PlanAct) (n : Nat) : (s.planChannel a n).aside = s.aside := by
  unfold State.planChannel
  split <;> simp

@[simp] theorem State.keepChannel_aside (n : Nat) : (s.keepChannel n).aside = s.aside := by
  unfold State.keepChannel
  split <;> simp

@[simp] theorem State.overrideGroup_aside (g : Nat) : (s.overrideGroup g).aside = s.aside := by
  simp [State.overrideGroup, apply_ite State.aside]

/-! ## What the functions lose to the island -/

@[simp] theorem State.mtrIssue_aside (kind : Nat) (x : MtrSess) (start stop imp exp flags events peak : Nat) :
    (s.mtrIssue kind x start stop imp exp flags events peak).aside = s.aside := rfl

@[simp] theorem State.mtrInterval_aside (stop flags : Nat) : (s.mtrInterval stop flags).aside = s.aside := by
  unfold State.mtrInterval
  split <;> simp

@[simp] theorem State.mtrClose_aside (flags : Nat) : (s.mtrClose flags).aside = s.aside := by
  unfold State.mtrClose State.mtrCloseAt
  extract_lets t
  split
  · rfl
  · split <;> simp [t]

@[simp] theorem State.tdManage_aside (connection identity : Nat) (initiator : Bool) :
    (s.tdManage connection identity initiator).aside = s.aside := by
  unfold State.tdManage
  split <;> simp

@[simp] theorem State.tdEnd_aside : s.tdEnd.aside = s.aside := by
  unfold State.tdEnd
  extract_lets n
  split
  · exact State.tdManage_aside ..
  · rfl

@[simp] theorem State.cpStop_aside (c : Nat) : (s.cpStop c).aside = s.aside := by
  simp [State.cpStop, State.cpTo, apply_ite State.aside]

@[simp] theorem State.lvHeld_aside : s.lvHeld.aside = s.aside := by simp [State.lvHeld, apply_ite State.aside]
@[simp] theorem State.gaLost_aside (a : Nat) : (s.gaLost a).aside = s.aside := by simp [State.gaLost, apply_ite State.aside]

@[simp] theorem State.wcHeld_aside : s.wcHeld.aside = s.aside := by
  unfold State.wcHeld
  split
  · rfl
  · simp
    rfl

@[simp] theorem State.lkHeld_aside : s.lkHeld.aside = s.aside := by
  unfold State.lkHeld
  extract_lets n t
  have ht : t.aside = s.aside := by unfold t; split <;> rfl
  split
  · exact (State.mtrClose_aside ..).trans ((State.tdEnd_aside _).trans ht)
  · rfl

@[simp] theorem State.postHeld_aside : s.postHeld.aside = s.aside := by
  unfold State.postHeld
  extract_lets n t
  have ht : t.aside = s.aside := by unfold t; split <;> rfl
  split
  · exact (State.tdEnd_aside _).trans ht
  · rfl

@[simp] theorem State.stHeld_aside : s.stHeld.aside = s.aside := by
  unfold State.stHeld
  split <;> rfl

@[simp] theorem State.ccHeld_aside : s.ccHeld.aside = s.aside := by
  unfold State.ccHeld
  split <;> rfl

@[simp] theorem State.fnHeld_aside (f : Fn) : (s.fnHeld f).aside = s.aside := by
  unfold State.fnHeld
  split <;> simp [apply_ite State.aside]

/-! ## The island's plans -/

@[simp] theorem State.planMachine_aside (m : Nat) : (s.planMachine m).aside = s.aside := by
  unfold State.planMachine
  extract_lets t src u src'
  have ht : t.aside = s.aside := State.aside_forAll (fun n t => State.keepChannel_aside t n) s
  have hu : u.aside = s.aside := State.aside_forAll (fun n t => State.planChannel_aside t _ n) s
  split
  · exact ht
  · split
    · exact hu
    · exact hu

@[simp] theorem State.holdBy_aside (code : Nat) : (s.holdBy code).aside = s.aside := by
  unfold State.holdBy
  split <;> rfl


/-- An LV channel under the island: its drive, and nothing else of this, changes. -/
theorem State.offLv_aside (n : Nat) : (s.offLv n).aside = { s.aside with lvDrive := s.lvDrive.set n .pulseOff } := by
  simp [State.offLv, State.setLv]
  rfl

/-- The LV channels of a list at pulse-off, every other one as it was. -/
def offAmong (l : List Nat) (ds : List Drive) : List Drive := ds.mapIdx (fun n d => if n ∈ l then .pulseOff else d)

theorem offAmong_nil (ds : List Drive) : offAmong [] ds = ds := List.ext_getElem (by simp [offAmong]) fun n h1 h2 => by simp [offAmong]

theorem offAmong_cons (a : Nat) (l : List Nat) (ds : List Drive) : offAmong l (ds.set a .pulseOff) = offAmong (a :: l) ds := by
  refine List.ext_getElem (by simp [offAmong]) fun n h1 h2 => ?_
  by_cases hn : n ∈ l <;> by_cases ha : a = n <;> simp [offAmong, hn, ha, eq_comm]

theorem getD_offAmong {l : List Nat} {ds : List Drive} {n : Nat} (hl : n ∈ l) (hn : n < ds.length) (d : Drive) :
    (offAmong l ds).getD n d = .pulseOff := by
  simp [offAmong, List.getD, hn, hl]

theorem State.forAll_offLv_aside (l : List Nat) : (s.forAll l State.offLv).aside = { s.aside with lvDrive := offAmong l s.lvDrive } := by
  induction l generalizing s with
  | nil => simp [State.forAll, State.aside, offAmong_nil]
  | cons a l ih =>
    calc ((s.offLv a).forAll l State.offLv).aside
        = { (s.offLv a).aside with lvDrive := offAmong l (s.offLv a).aside.lvDrive } := ih _
      _ = { s.aside with lvDrive := offAmong (a :: l) s.lvDrive } := by rw [State.offLv_aside, offAmong_cons]

/-- Under the plans every LV channel is at pulse-off (R16 to R19); the rest of this stands. -/
theorem State.planAll_aside : s.planAll.aside = { s.aside with lvDrive := offAmong (List.range 16) s.lvDrive } := by
  unfold State.planAll
  extract_lets hbs t u v w x
  have ht : t.aside = s.aside := State.aside_forAll (fun n t => State.planChannel_aside t .pulseOff n) s
  have hu : u.aside = { s.aside with lvDrive := offAmong (List.range 16) s.lvDrive } := by
    rw [State.forAll_offLv_aside, ht, show t.lvDrive = s.lvDrive from congrArg Aside.lvDrive ht]
  have hv : v.aside = u.aside := State.aside_forAll (fun n t => State.soLow_aside t 7 n) u
  have hw : w.aside = v.aside := State.aside_forAll (fun m t => State.planMachine_aside t m) v
  have hx : x.aside = w.aside := State.aside_forAll (fun g t => State.overrideGroup_aside t g) w
  rw [State.foldl_keeps (p := State.aside) (fun t f => State.fnHeld_aside t f), hx, hw, hv, hu]

theorem State.abandonRequest_aside : s.abandonRequest.aside = s.aside := by
  unfold State.abandonRequest
  extract_lets t
  show t.aside = s.aside
  unfold t
  split <;> rfl

theorem State.enterM9_aside (cause : Nat) : (s.enterM9 cause).aside = s.aside := by
  unfold State.enterM9
  split
  · extract_lets old t u v w
    have hv : v.aside = s.aside := s.abandonRequest_aside
    have hw : w.aside = s.aside := by unfold w; split <;> exact hv
    exact hw
  · split
    · exact s.abandonRequest_aside
    · rfl

/-! ## An event that a swap gives way to -/

/-- What is written back of the two sets when a swap is undone is nothing of the island's. -/
theorem State.undoSwap_isl (code : Nat) : (s.undoSwap code).isl = s.isl := by
  unfold State.undoSwap
  split
  · rfl
  · split
    · next u _ _ =>
      extract_lets t v
      have ht : t.isl = s.isl := State.foldl_keeps (p := State.isl) (fun _ _ => by rfl) (s.before u)
      clear_value t
      have hv : v.isl = t.isl := State.forAll_keeps (p := State.isl) (fun _ _ => by rfl) t
      exact hv.trans ht
    · rfl

theorem State.cancelSwap_isl (code : Nat) : (s.cancelSwap code).isl = s.isl := by
  unfold State.cancelSwap
  split
  · extract_lets scopes t
    show t.isl = s.isl
    exact State.forAll_keeps (p := State.isl) (fun _ _ => by rfl) s
  · rfl

theorem State.cancelSwap_armed (code : Nat) : (s.cancelSwap code).sw.armed = false := by
  unfold State.cancelSwap
  split
  · rfl
  · next h => simpa using h

theorem State.swapLoses_isl : s.swapLoses.isl = s.isl := by
  rw [State.swapLoses, State.cancelSwap_isl, State.undoSwap_isl]

theorem State.swapLoses_armed : s.swapLoses.sw.armed = false := State.cancelSwap_armed ..

theorem State.swapYields_isl (fns : List Fn) : (s.swapYields fns).isl = s.isl := by
  unfold State.swapYields
  extract_lets hits t
  have ht : t.isl = s.isl := by
    unfold t
    split
    · exact s.undoSwap_isl _
    · rfl
  split
  · exact (t.cancelSwap_isl _).trans ht
  · exact ht

/-! ## The watchdog's expiries -/

theorem State.planFn_expiries (f : Fn) : (s.planFn f).isl.watchdogExpiries = s.isl.watchdogExpiries := by
  unfold State.planFn
  extract_lets gs sos t u
  have ht : t.aside.expiries = s.aside.expiries := by
    unfold t
    split
    · rw [State.planMachine_aside]
    · rw [State.forAll_offLv_aside, State.aside_forAll (f := State.offChannel) (fun n t => State.planChannel_aside t .pulseOff n)]
  have hu : u.aside = t.aside := State.aside_forAll (fun n t => State.soLow_aside t 7 n) t
  have hg := State.aside_forAll (l := gs) (fun g t => State.overrideGroup_aside t g) u
  exact (congrArg Aside.expiries ((State.fnHeld_aside _ f).trans (hg.trans hu))).trans ht

theorem State.planAll_expiries : s.planAll.aside.expiries = s.aside.expiries := by rw [State.planAll_aside]

theorem State.trigger_expiries (code inst : Nat) (masked : Bool) :
    (s.trigger code inst masked).isl.watchdogExpiries = s.isl.watchdogExpiries := by
  unfold State.trigger
  split
  · rfl
  · extract_lets t u _ v
    have ht : t.aside.expiries = s.aside.expiries := by
      show s.swapLoses.isl.watchdogExpiries = _
      rw [State.swapLoses_isl]
      rfl
    clear_value t
    have hu : u.aside.expiries = t.aside.expiries := by simp [u, State.planAll_expiries, apply_ite State.aside]
    clear_value u
    have hv : v.aside.expiries = u.aside.expiries := rfl
    show ((v.holdBy code).enterM9 code).aside.expiries = s.aside.expiries
    rw [State.enterM9_aside, State.holdBy_aside, hv, hu, ht]

theorem State.triggerSafe_expiries (code inst : Nat) (masked : Bool) :
    (s.triggerSafe code inst masked).isl.watchdogExpiries = s.isl.watchdogExpiries := by
  unfold State.triggerSafe
  split
  · rfl
  · extract_lets t fns u v
    have ht : t.isl = s.isl := s.swapYields_isl _
    have hf := State.foldl_keeps (p := fun t => t.isl.watchdogExpiries) (l := fns) (fun t f => State.planFn_expiries t f) u
    have hv : v.aside.expiries = s.isl.watchdogExpiries := by
      rw [show v.aside = (fns.foldl (fun t f => t.planFn f) u).aside from State.holdBy_aside ..]
      exact hf.trans (show t.isl.watchdogExpiries = _ by rw [ht])
    exact hv

theorem State.raise_expiries (code inst : Nat) : (s.raise code inst).isl.watchdogExpiries = s.isl.watchdogExpiries := by
  have hc : (s.collect code inst false).isl.watchdogExpiries = s.isl.watchdogExpiries :=
    congrArg Aside.expiries (s.collect_aside code inst false)
  unfold State.raise State.raiseWith
  split
  · rfl
  · split
    · rfl
    · extract_lets cls t
      split
      · exact (State.trigger_expiries ..).trans hc
      · split
        · exact (State.triggerSafe_expiries ..).trans hc
        · exact hc

/-! ## The main domains switched off -/

/-- What powering down the main domains leaves: the blocks' memory, and what stands aside. -/
def State.lasting (s : State) : List Host.Cell × Aside := (s.mem, s.aside)

@[simp] theorem State.put_lasting (k : Nat) (v : Int) : (s.put k v).lasting = s.lasting := rfl

@[simp] theorem State.tbMod_lasting (t : Nat) (f : TbX → TbX) : (s.tbMod t f).lasting = s.lasting := rfl

theorem State.portEmpty_lasting (p : Nat) : (s.portEmpty p).lasting = s.lasting := by
  unfold State.portEmpty
  split <;> rfl

theorem State.xgFollow_lasting (p : Nat) : (s.xgFollow p).lasting = s.lasting := by
  unfold State.xgFollow
  split
  · split <;> rfl
  · exact State.portEmpty_lasting ..

theorem State.setSpeed_lasting (t : Nat) (v : Int) : (s.setSpeed t v).lasting = s.lasting := by
  unfold State.setSpeed
  extract_lets turned a b
  have hb : b.lasting = s.lasting := by unfold b; split <;> rfl
  clear_value b
  split
  · exact hb
  · exact hb

theorem State.tbOff_lasting (t : Nat) : (s.tbOff t).lasting = s.lasting := by
  simp [State.tbOff, State.tbState, State.setSpeed_lasting]

theorem State.canShow_lasting (c : Nat) : (s.canShow c).lasting = s.lasting := by
  unfold State.canShow
  extract_lets x st t
  split <;> simp [t]

theorem State.sensorsFollow_lasting : s.sensorsFollow.lasting = s.lasting := by
  unfold State.sensorsFollow
  extract_lets show1 t u
  have h1 (on : Bool) (k : Nat) (v : State) : (show1 on k v).lasting = v.lasting := by
    unfold show1
    split
    · split <;> rfl
    · rfl
  have ht : t.lasting = s.lasting := State.forAll_keeps (fun _ _ => h1 ..) s
  have hu : u.lasting = t.lasting := State.forAll_keeps (fun _ _ => h1 ..) t
  exact (State.forAll_keeps (p := State.lasting) (fun _ _ => h1 ..) u).trans (hu.trans ht)

theorem State.powerOff_lasting : s.powerOff.lasting = s.lasting := by
  unfold State.powerOff
  extract_lets t
  have ht : t.lasting = s.lasting := by
    unfold t
    rw [State.sensorsFollow_lasting, State.forAll_keeps (p := State.lasting) (fun t u => State.tbOff_lasting u t),
      State.forAll_keeps (p := State.lasting) (fun p t => State.xgFollow_lasting t p)]
  clear_value t
  exact ht

/-- A controller's queue is lost with the main domains (R471). -/
theorem State.canOff_lasting (c : Nat) :
    (((s.canMod c (fun x => { bufs := x.bufs })).put (Obj.canState c) 0).canShow c).lasting = s.lasting := by
  rw [State.canShow_lasting, State.put_lasting]
  rfl

/-- Sessions end with the main domains (R435); the blocks, the sets, the records and the LV pins stay. -/
theorem State.domainsOff_lasting :
    s.domainsOff.lasting = (s.mem, { s.aside with roa := { s.roa with sessions := [], lspi := [] } }) := by
  unfold State.domainsOff
  extract_lets t _ _ _ u
  have ht : t.lasting = s.lasting := State.forAll_keeps (fun c t => State.canOff_lasting t c) (s.put Obj.roaSessionCount 0)
  clear_value t
  have hu : u.lasting = (t.lasting.1, { t.lasting.2 with roa := { t.lasting.2.roa with sessions := [], lspi := [] } }) := rfl
  rw [State.put_lasting, State.powerOff_lasting, hu, ht]
  rfl

theorem State.domainsOff_mem : s.domainsOff.mem = s.mem := by
  have h := s.domainsOff_lasting
  unfold State.lasting at h
  exact (Prod.mk.inj h).1

theorem State.domainsOff_aside : s.domainsOff.aside = { s.aside with roa := { s.aside.roa with sessions := [], lspi := [] } } := by
  have h := s.domainsOff_lasting
  unfold State.lasting at h
  exact (Prod.mk.inj h).2

theorem State.domainsOff_plat : s.domainsOff.plat = { s.plat with mainOn := false } := by
  unfold State.domainsOff
  extract_lets t _ _ _ u
  have ht : t.plat = s.plat := State.plat_forAll (fun c t => by simp) (s.put Obj.roaSessionCount 0)
  clear_value t
  rw [State.put_plat, State.powerOff_plat]
  exact congrArg (fun w : Plat => { w with mainOn := false }) ht

end Sys2Proof.Machine
end

section
/-! SUPPORT. The loss of VDD_COC, a main-domain reset and the island's own commands (O12 to O14): what each leaves. -/

namespace Sys2Proof.Machine

/-! ## The loss and return of VDD_COC -/

section
variable (s : State)

theorem State.mode_put_modeState (n : Nat) : (s.put Obj.modeState n).mode = n := by simp [State.mode]

/-- What outlasts a loss of VDD_COC: both sets, the blocks and the device records (R17, R537, R585). -/
theorem State.cocLost_stores : s.cocLost.active = s.active ∧ s.cocLost.shadow = s.shadow ∧ s.cocLost.mem = s.mem ∧ s.cocLost.nv = s.nv := by
  have h := s.domainsOff_aside
  unfold State.aside at h
  injection h with ha hs _ hn
  simp [State.cocLost, ha, hs, hn, s.domainsOff_mem]

/-- What of the device time, the plant and the island a loss of VDD_COC leaves: nothing (R17, R537). -/
theorem State.cocLost_dark : s.cocLost.plat = { vddCoc := false, pfailN := s.plat.pfailN } ∧ s.cocLost.isl = {} ∧ s.cocLost.tick = 0 ∧
    s.cocLost.devSub = 0 ∧ s.cocLost.hbDrive = List.replicate 24 .pulseOff ∧ s.cocLost.lvDrive = List.replicate 16 .pulseOff ∧
    s.cocLost.gsDrive = List.replicate 48 .low := by
  simp [State.cocLost]

/-- The state in which POWER_ON with RESET_N low waits: VDD_COC has come back after its loss, the island is in control (R17, R18). -/
def State.powered : State :=
  let t := s.cocLost.put Obj.modeState 0
  { t with plat := { t.plat with vddCoc := true, resetN := false }, isl := { whole := true, records := [powerRecord] } }

theorem State.powerOn_false (env : BootEnv) : s.powerOn false env = s.powered.forAll (List.range 8) (State.soLow 7) := rfl

theorem State.soLow_mode (st n : Nat) : (s.soLow st n).mode = s.mode := by
  rw [State.soLow, State.mode_put_other _ _ (by simp; omega), State.mode_put_other _ _ (by simp; omega)]

end

/-- Settles O13: what is lost with VDD_COC is set outright; the sets, the blocks and the device records outlast it, and the loops of
POWER_ON that de-energise the outputs touch live objects alone. -/
theorem cocLossLeavesNothingDriven : Obligations.CocLossLeavesNothingDriven := by
  constructor
  · intro s
    obtain ⟨ha, hs, hm, hn⟩ := s.cocLost_stores
    obtain ⟨hp, hi, ht, hd, hhb, hlv, hgs⟩ := s.cocLost_dark
    refine ⟨s.cocLost.put Obj.modeState 0, rfl, State.mode_put_modeState _ 0, ?_⟩
    simp [State.now, hp, hi, ht, hd, hhb, hlv, hgs, ha, hs, hm, hn]
  · intro s env
    have low {α : Type} (p : State → α) (hp : ∀ n t, p (State.soLow 7 n t) = p t) : p (s.powerOn false env) = p s.powered := by
      rw [State.powerOn_false]
      exact State.forAll_keeps hp _
    have hplat := low State.plat fun _ _ => rfl
    have hisl := low State.isl fun _ _ => rfl
    have hmode : s.powered.mode = 0 := by simp [State.mode, State.oN, State.powered, State.put]
    refine ⟨s.powerOn false env, rfl, ?_, ?_, ?_, ?_, ?_, ?_, ?_, ?_, rfl, rfl⟩
    · rw [hplat]; rfl
    · rw [hplat]; rfl
    · rw [hplat]; rfl
    · rw [low State.mode fun n t => t.soLow_mode 7 n, hmode]
    · rw [hisl]; rfl
    · rw [low State.hbDrive fun _ _ => rfl]; rfl
    · rw [hisl]; rfl
    · rw [hisl]; rfl

/-! ## A main-domain reset -/

section
variable (s : State)

/-- The last record of a code in the retention memory takes the length of the reset. -/
theorem State.amendRecord_append {rs : List TriggerRec} {r : TriggerRec} (h : s.isl.records = rs ++ [r]) (ms : Nat) :
    s.amendRecord r.code ms = { s with isl := { s.isl with records := rs ++ [{ r with resetMs := ms }] } } := by
  have hl : (s.isl.records.zipIdx.filter (fun p => p.1.code == r.code)).getLast? = some (r, rs.length) := by
    simp [h, List.zipIdx_append, List.filter_append]
  unfold State.amendRecord
  rw [hl]
  simp [h]


/-- The record and the pins of a trigger that takes every function (R18, R19, R23). -/
theorem State.recordPlanAll_aside (code inst : Nat) : ∃ r : TriggerRec, r.code = code ∧ r.whole = true ∧
    (s.record code inst true false [] 0).planAll.aside =
      { s.aside with records := s.isl.records ++ [r], lvDrive := offAmong (List.range 16) s.lvDrive } :=
  ⟨_, rfl, rfl, State.planAll_aside _⟩

/-- The main domain's reset has begun: M0 is shown, and metering keeps the time (R65, R68). -/
def State.inReset (at_ : Option Nat) (s : State) : State := { s.put Obj.modeState 0 with plat := { s.plat with resetAt := at_ } }

theorem State.inReset_mode (at_ : Option Nat) : (s.inReset at_).mode = 0 := State.mode_put_modeState s 0
theorem State.inReset_plat (at_ : Option Nat) : (s.inReset at_).plat = { s.plat with resetAt := at_ } := rfl
theorem State.inReset_aside (at_ : Option Nat) : (s.inReset at_).aside = s.aside := rfl

/-- RESET_N_FALL, taken: the record, the hold on everything, the LV pins and the end of every session (R18, R65, R66, R435). -/
theorem State.resetFall_taken {ns : Nat} (up : s.plat.vddCoc = true) (high : s.plat.resetN = true)
    (long : 1000 ≤ ns ∨ s.plat.pfailN = false) (hm : s.mode ≠ 1) :
    (s.resetFall ns).mode = 0 ∧ (s.resetFall ns).plat.resetN = false ∧ (s.resetFall ns).plat.mainOn = false ∧
    ∃ (r : TriggerRec) (x : State), r.code = FC.bootMainreset ∧ r.whole = true ∧
      x = ({ s with plat := { s.plat with resetN := false } } : State).swapLoses ∧
      (s.resetFall ns).aside = { x.aside with
        records := s.isl.records ++ [r], whole := true, lvDrive := offAmong (List.range 16) x.lvDrive,
        roa := { x.roa with sessions := [], lspi := [] } } := by
  have hlow : ¬ (¬ s.plat.vddCoc ∨ ¬ s.plat.resetN ∨ (ns < 1000 ∧ s.plat.pfailN)) := by
    rcases long with h | h <;> simp [up, high, h]
  unfold State.resetFall
  rw [if_neg hlow]
  extract_lets _ t u _ v at_ w
  rw [if_neg (show ¬ t.mode = 1 from hm)]
  obtain ⟨r, hc, hw, hu⟩ := t.swapLoses.recordPlanAll_aside FC.bootMainreset 0
  have hi : t.swapLoses.isl = s.isl := t.swapLoses_isl
  have hup : u.plat = t.plat := by simp [u]
  change u.aside = _ at hu
  clear_value u
  have hv : v.aside = { u.aside with whole := true } := State.holdBy_aside _ _
  have hvp : v.plat.resetN = false := by
    rw [show v.plat = u.plat from State.holdBy_plat _ _, hup]
  clear_value v
  have hd := v.domainsOff_plat
  have ha := v.domainsOff_aside
  change (v.domainsOff.inReset at_).mode = 0 ∧ (v.domainsOff.inReset at_).plat.resetN = false ∧
    (v.domainsOff.inReset at_).plat.mainOn = false ∧ ∃ (r : TriggerRec) (x : State), _ ∧ _ ∧ _ ∧ (v.domainsOff.inReset at_).aside = _
  clear_value at_ w
  refine ⟨State.inReset_mode .., ?_, ?_, r, t.swapLoses, hc, hw, rfl, ?_⟩
  · rw [State.inReset_plat, hd, hvp]
  · rw [State.inReset_plat, hd]
  · rw [State.inReset_aside, ha, hv, hu, hi]
    rfl

/-- BOOT_RESETHELD, taken for the first time: the island's one new record carries the time so far (R67). -/
theorem State.resetHeld_first {ms : Nat} (up : s.plat.vddCoc = true) (low : s.plat.resetN = false) (long : 500 < ms)
    (new : s.isl.resetHeld = false) :
    ∃ r : TriggerRec, r.code = FC.bootResetheld ∧ r.resetMs = ms ∧
      s.resetHeld ms = { s with isl := { s.isl with records := s.isl.records ++ [r], resetHeld := true } } := by
  have hgo : ¬ (¬ s.plat.vddCoc ∨ s.plat.resetN ∨ ms ≤ 500) := by simp [up, low, long]
  have hnew : ¬ s.isl.resetHeld = true := by simp [new]
  unfold State.resetHeld
  rw [if_neg hgo, if_neg hnew]
  extract_lets t
  obtain ⟨r, hc, hr⟩ : ∃ r : TriggerRec, r.code = FC.bootResetheld ∧ s.record FC.bootResetheld 0 false false [] 0 =
      { s with isl := { s.isl with records := s.isl.records ++ [r] } } := ⟨_, rfl, rfl⟩
  have ht : t = { s with isl := { s.isl with records := s.isl.records ++ [{ r with resetMs := ms }] } } := by
    unfold t
    rw [hr, ← hc, State.amendRecord_append _ rfl]
  exact ⟨{ r with resetMs := ms }, hc, rfl, congrArg (fun t : State => { t with isl := { t.isl with resetHeld := true } }) ht⟩

end

/-- Settles O14: a swap yields first, and what it leaves is put under the plans, recorded and switched off, which keep one another's marks;
the held reset's record is the one just appended. -/
theorem resetFallStopsTheMainDomain : Obligations.ResetFallStopsTheMainDomain := by
  refine ⟨?_, ?_, ?_⟩
  · intro s ns h up high long hm
    obtain ⟨hmode, hlow, hoff, r, x, hc, hw, hx, ha⟩ := s.resetFall_taken up high long hm
    have hlv : x.lvDrive.length = 16 := by
      rw [hx]
      exact (State.swapLoses_good (Q := fun _ _ _ => True)
        (s := { s with plat := { s.plat with resetN := false } }) (State.Sound.good h trivial)).lv
    unfold State.aside at ha
    injection ha with _ _ hsw _ hroa hdrive hrec hwhole
    refine ⟨s.resetFall ns, r, rfl, hrec, hc, hw, hlow, hoff, hmode, hwhole, ?_, ?_, fun n hn => ?_⟩
    · rw [hsw, hx]
      exact State.swapLoses_armed _
    · rw [hroa]
    · rw [hdrive]
      exact getD_offAmong (List.mem_range.mpr hn) (hlv ▸ hn) _
  · intro s ms up low long new
    obtain ⟨r, hc, hms, ht⟩ := s.resetHeld_first up low long new
    exact ⟨s.resetHeld ms, r, rfl, by rw [ht], by rw [ht], hc, hms, by rw [ht]⟩
  · intro s on m0
    exact congrArg Host.Outcome.next (if_pos ⟨on, m0⟩)

/-! ## The island's own commands -/

section
variable (s : State)

theorem State.clockLost_armed (pll : Nat) (armed : s.isl.armedClock = true) (hm : s.mode ≠ 1) :
    s.clockLost pll = ((if pll = 0 then State.put Obj.refClockPresent 0 { s with plat := { s.plat with clockOk := false } }
      else State.put Obj.pllLockMap (s.oN Obj.pllLockMap &&& (15 - pll) : Nat) { s with plat := { s.plat with clockOk := false } }).incSat
        Obj.clockLossCount).trigger FC.bootClockloss 0 false := if_pos ⟨armed, hm⟩

theorem State.watchdogExpired_armed (armed : s.isl.armedWatchdog = true) (up : s.up = true) :
    s.watchdogExpired = ((({ s with isl := { s.isl with serviceOk := false, watchdogExpiries := s.isl.watchdogExpiries + 1 } } : State).incSat
      Obj.safWatchdogExpiryCount).raise FC.safWdog 0) := if_pos ⟨armed, up⟩

/-- An expiry is counted once, whatever its trigger does (R499). -/
theorem State.watchdogExpired_expiries (armed : s.isl.armedWatchdog = true) (up : s.up = true) :
    s.watchdogExpired.isl.watchdogExpiries = s.isl.watchdogExpiries + 1 := by
  rw [State.watchdogExpired_armed s armed up, State.raise_expiries]
  rfl

end

/-- Settles O12: each command by the branch its hypotheses choose; an expiry's trigger leaves the count of expiries (`raise_expiries`). -/
theorem islandCommandsTrigger : Obligations.IslandCommandsTrigger := by
  refine ⟨?_, ?_, ?_, ?_, ?_, ?_, ?_, ?_, ?_⟩
  · intro s armed hm
    exact congrArg Host.Outcome.next (s.clockLost_armed 0 armed hm)
  · intro s pll armed hm hp
    have hn : pll.toNat ≠ 0 := fun h => hp (BitVec.eq_of_toNat_eq h)
    exact congrArg Host.Outcome.next ((s.clockLost_armed pll.toNat armed hm).trans (by rw [if_neg hn]))
  · intro s up hm
    exact congrArg Host.Outcome.next ((if_pos up).trans (if_neg hm))
  · intro s up hm
    exact congrArg Host.Outcome.next ((if_pos up).trans (if_pos hm))
  · intro s armed up
    exact congrArg Host.Outcome.next (s.watchdogExpired_armed armed up)
  · intro s us up idle
    exact congrArg Host.Outcome.next ((if_pos up).trans (if_pos (by simp [idle])))
  · intro s us up armed lo hi
    have inside : ¬ (us < 500 ∨ 2000 < us) := by omega
    exact congrArg Host.Outcome.next ((if_pos up).trans ((if_neg (by simp [armed])).trans (if_neg inside)))
  · intro s us up armed out
    refine ⟨{ s.watchdogExpired with isl := { s.watchdogExpired.isl with lastService := some s.mono } },
      congrArg Host.Outcome.next ((if_pos up).trans ((if_neg (by simp [armed])).trans (if_pos out))), ?_, rfl⟩
    exact s.watchdogExpired_expiries armed up
  · intro s g keeps
    exact ⟨_, _, congrArg Host.Outcome.next (if_pos keeps), rfl, rfl, rfl, rfl, rfl⟩

end Sys2Proof.Machine
end

section
/-! SUPPORT. The safe link (O57): what each of its operations does, an equation per case (R505 to R511). -/

namespace Sys2Proof.Machine

section
variable (s : State) (e n q k : Nat) (b : List Nat)

/-! ## A received frame's checks (R458, R508) -/

theorem State.entryFrame_of_disabled (h : s.ptFlag e 0 = false) : s.entryFrame e b = s := if_pos (by simp [h])

theorem State.entryFrame_of_esl (on : s.ptFlag e 0 = true) (esl : s.ptFlag e 1 = true) : s.entryFrame e b = s.eslCheck e b :=
  (if_neg (by simp [on])).trans (if_pos esl)

theorem State.entryFrame_of_plain (on : s.ptFlag e 0 = true) (esl : s.ptFlag e 1 = false) :
    s.entryFrame e b = if s.pt e 6 2 = 0 ∨ b.length < s.pt e 6 2 then s else s.slotValues e (b.take (s.pt e 6 2)) :=
  (if_neg (by simp [on])).trans (if_neg (by simp [esl]))

theorem State.eslCheck_of_closed (h : (s.eslx (s.pt e 2 2)).state = 0 ∨ s.pt e 6 2 = 0) : s.eslCheck e b = s := if_pos h

/-- The frame's length fits the entry's payload: exactly, or with the padding of CAN (R508). -/
abbrev State.lengthFits : Prop :=
  b.length = 8 + s.pt e 6 2 ∨ (4 ≤ s.pt e 1 1 ∧ s.pt e 1 1 ≤ 11 ∧ b.length = padTo 1 (8 + s.pt e 6 2))

/-- The CRC at the frame's end is the one of its body under the sender's identity (R506). -/
abbrev State.crcFits : Prop :=
  pay b (4 + s.pt e 6 2) 4 = crc32c (natBytes 4 (s.eslIdentity e false) ++ b.take (4 + s.pt e 6 2))

theorem State.eslCheck_of_length (on : (s.eslx (s.pt e 2 2)).state ≠ 0) (len : s.pt e 6 2 ≠ 0) (bad : ¬ s.lengthFits e b) :
    s.eslCheck e b = s.eslFail (s.pt e 2 2) true := by
  obtain ⟨exact_, padded⟩ := not_or.mp bad
  refine (if_neg (not_or.mpr ⟨on, len⟩)).trans (if_pos ⟨exact_, fun ⟨can, pad⟩ => padded ?_⟩)
  simpa [and_assoc] using And.intro can pad

theorem State.eslCheck_of_fits (on : (s.eslx (s.pt e 2 2)).state ≠ 0) (len : s.pt e 6 2 ≠ 0) (fits : s.lengthFits e b) :
    s.eslCheck e b = if ¬ s.crcFits e b then s.eslFail (s.pt e 2 2) true
      else s.eslSequence e (s.pt e 2 2) (pay b 2 2) ((b.take (4 + s.pt e 6 2)).drop 4) := by
  refine (if_neg (not_or.mpr ⟨on, len⟩)).trans (if_neg fun ⟨long, plain⟩ => plain ?_)
  obtain ⟨lo, hi, pad⟩ := fits.resolve_left long
  exact ⟨by simp [lo, hi], pad⟩

/-! ## A failed check (R508) -/

/-- The count of a failed check. -/
def EslX.failed (crc : Bool) (x : EslX) : EslX :=
  if crc then { x with crc := min (x.crc + 1) 4294967295 } else { x with seq := min (x.seq + 1) 4294967295 }

/-- The last time that a failed check was noted. -/
def EslX.notedAt (crc : Bool) (x : EslX) : Option Nat := if crc then x.crcAt else x.seqAt

/-- A failed check counted and noted. -/
def State.eslFailNoted (crc : Bool) (s : State) : State :=
  ((s.eslMod n (EslX.failed crc)).eslMod n (fun x => if crc then { x with crcAt := some s.mono } else { x with seqAt := some s.mono })).note
    (if crc then FC.eslCrc else FC.eslSeq) n

theorem State.eslFail_eq (crc : Bool) : s.eslFail n crc =
    if (match (s.eslx n).notedAt crc with | some t => decide (t + 1000000000 ≤ s.mono) | none => true)
    then s.eslFailNoted n crc else s.eslMod n (EslX.failed crc) := rfl

theorem State.eslFail_of_recent (crc : Bool) {a : Nat} (h : (s.eslx n).notedAt crc = some a) (recent : s.mono < a + 1000000000) :
    s.eslFail n crc = s.eslMod n (EslX.failed crc) := by
  rw [State.eslFail_eq, h]
  exact if_neg (by simpa using recent)

theorem State.eslFail_of_due (crc : Bool) (h : ∀ a, (s.eslx n).notedAt crc = some a → a + 1000000000 ≤ s.mono) :
    s.eslFail n crc = s.eslFailNoted n crc := by
  rw [State.eslFail_eq]
  cases hn : (s.eslx n).notedAt crc with
  | none => rfl
  | some a => exact if_pos (by simpa using h a hn)

/-! ## The sequence of a receive side (R509, R511) -/

theorem seqNext_of_le (h : q ≤ 65535) : seqNext q = if q = 65535 then 1 else q + 1 := by
  unfold seqNext
  split <;> split <;> omega

/-- A waiting side, and one on its substitutes that needs no rearming, goes by the number alone. -/
theorem State.eslSequence_of_waiting (h : (s.eslx n).state = 1 ∨ (s.eslx n).state = 4 ∧ s.ptFlag e 4 = false) :
    s.eslSequence e n q b = if q = 0 then s.eslOpen e n 0 b else s.eslAccept n q 2 0 := by
  unfold State.eslSequence
  rcases h with h | ⟨h, rearm⟩
  · simp only [h]
  · simp only [h, rearm]
    rfl

theorem State.eslSequence_of_rearm (h : (s.eslx n).state = 4) (rearm : s.ptFlag e 4 = true) : s.eslSequence e n q b = s := by
  unfold State.eslSequence
  simp only [h, rearm]
  rfl

/-- A resynchronising side counts the numbers in its window, and opens at EslRecoverCount of them. -/
theorem State.eslSequence_of_resync (h : (s.eslx n).state = 2) (ahead : seqAhead (s.pt e 12 1) (s.eslx n).last q = some k) :
    s.eslSequence e n q b =
      if (s.eslx n).run + 1 = s.cN Obj.eslRecoverCount then s.eslOpen e n q b else s.eslAccept n q 2 ((s.eslx n).run + 1) := by
  unfold State.eslSequence
  simp only [h, ahead]

theorem State.eslSequence_of_resync_outside (h : (s.eslx n).state = 2) (ahead : seqAhead (s.pt e 12 1) (s.eslx n).last q = none) :
    s.eslSequence e n q b = s.eslAccept n q 2 0 := by
  unfold State.eslSequence
  simp only [h, ahead]

theorem State.eslSequence_of_open (h : (s.eslx n).state = 3) (hq : q ≠ 0) (ahead : seqAhead (s.pt e 12 1) (s.eslx n).last q = some k) :
    s.eslSequence e n q b =
      ((s.eslMod n (fun x => { x with lost := min (x.lost + (k - 1)) 4294967295 })).eslAccept n q 3 0).eslRelease e b := by
  unfold State.eslSequence
  simp only [h, ahead, if_neg hq]

theorem State.eslSequence_of_open_outside (h : (s.eslx n).state = 3) (hq : q ≠ 0)
    (ahead : seqAhead (s.pt e 12 1) (s.eslx n).last q = none) : s.eslSequence e n q b = s.eslFail n false := by
  unfold State.eslSequence
  simp only [h, ahead, if_neg hq]

theorem State.eslSequence_of_reopen (h : (s.eslx n).state = 3) (hq : q = 0) : s.eslSequence e n q b =
    (((s.eslMod n (fun x => { x with reopen := min (x.reopen + 1) 4294967295 })).eslAccept n 0 3 0).note FC.eslReopen n).eslRelease e b := by
  unfold State.eslSequence
  simp only [h, if_pos hq]

/-! ## The watchdog and the sending of frames (R507, R510) -/

/-- A lapsed side: its slots hold their substitute values as one unit (R510). -/
def State.eslLapsed (e n : Nat) (s : State) : State :=
  ((s.eslMod n (fun x => { x with state := 4, run := 0, wdog := min (x.wdog + 1) 4294967295 })).substitutes e).eslHolds e true

theorem State.eslExpire_of_running (entry : s.eslEntry n = some e)
    (h : (s.eslx n).state = 1 ∨ (s.eslx n).state = 2 ∨ (s.eslx n).state = 3) :
    s.eslExpire n = (if (s.eslLapsed e n).tdEntry = some e then (s.eslLapsed e n).tdLost else s.eslLapsed e n).raise FC.eslWdog n := by
  unfold State.eslExpire
  rw [entry]
  exact if_neg (by rcases h with h | h | h <;> simp [h])

theorem State.eslExpire_of_idle (h : s.eslEntry n = none ∨ (s.eslx n).state = 0 ∨ (s.eslx n).state = 4) : s.eslExpire n = s := by
  unfold State.eslExpire
  split
  · rfl
  · next entry =>
    have idle := h.resolve_left (by simp [entry])
    exact if_pos (by rcases idle with h | h <;> simp [h])

theorem State.eslSend_of_silent (h : s.ptFlag e 0 = false ∨ s.pt e 14 2 = 0) : s.eslSend e = s := if_pos (by simpa using h)

theorem State.eslSend_of_plain (on : s.ptFlag e 0 = true) (sends : s.pt e 14 2 ≠ 0) (esl : s.ptFlag e 1 = false) :
    s.eslSend e = (s.entryPut e (s.txPayload e)).1 :=
  (if_neg (by simp [on, sends])).trans (if_neg (by simp [esl]))

/-- The frame of this period, offered to the entry's port (R507). -/
def State.eslOffered (e : Nat) (s : State) : State × Bool :=
  s.entryPut e (s.eslFrame e (s.eslx (s.pt e 2 2)).next (s.txPayload e))

/-- A queued frame uses up its number (R507). -/
def State.eslNumbered (e : Nat) (s : State) : State :=
  (s.eslOffered e).1.eslMod (s.pt e 2 2) (fun x => { x with next := seqNext x.next })

theorem State.eslSend_of_esl (on : s.ptFlag e 0 = true) (sends : s.pt e 14 2 ≠ 0) (esl : s.ptFlag e 1 = true) :
    s.eslSend e = if ¬ (s.eslOffered e).2 then (s.eslOffered e).1.eslSkip e
      else if (s.eslNumbered e).tdEntry = some e then (s.eslNumbered e).tdSent else s.eslNumbered e :=
  (if_neg (by simp [on, sends])).trans (if_pos esl)

end

/-! ## The commands -/

section
variable {s : State} (tr : Fin 12) (src : BitVec 32) (e : BitVec 13) (d : List Byte)

theorem exec_eslFrameReceived_of_down (down : s.up = false) : exec (.eslFrameReceived tr src e d) s = .next s :=
  congrArg Host.Outcome.next (if_pos (by simp [down]))

theorem exec_eslFrameReceived_of_udp (up : s.up = true) (udp : tr.val < 4) : exec (.eslFrameReceived tr src e d) s =
    .next (match s.udpEntry tr.val src.toNat (pay (bytesNat d) 0 2) with | some k => s.eslCheck k (bytesNat d) | none => s) :=
  congrArg Host.Outcome.next ((if_neg (by simp [up])).trans (if_pos udp))

theorem exec_eslFrameReceived_of_can (up : s.up = true) (can : 4 ≤ tr.val) :
    exec (.eslFrameReceived tr src e d) s = .next (s.entryFrame e.toNat (bytesNat d)) :=
  congrArg Host.Outcome.next ((if_neg (by simp [up])).trans (if_neg (by omega)))

theorem exec_eslWatchdogExpiry (c : BitVec 11) : exec (.eslWatchdogExpiry c) s = .next (if s.up then s.eslExpire c.toNat else s) := rfl

theorem exec_eslTxFrame : exec (.eslTxFrame e) s = .next (if s.up then s.eslSend e.toNat else s) := rfl

end

/-- Settles O57: each clause is the case of its operation that the hypotheses choose. -/
theorem safeLinkFramesAndWatchdogs : Obligations.SafeLinkFramesAndWatchdogs := by
  refine ⟨?_, ?_, ?_, ?_, State.entryFrame_of_disabled, State.entryFrame_of_esl, ?_, ?_, State.eslCheck_of_closed, ?_, ?_, ?_, ?_, ?_, ?_,
    ?_, ?_, State.eslSequence_of_rearm, ?_, ?_, ?_, ?_, ?_, ?_, ?_, ?_, ?_, ?_, ?_, ?_, fun _ _ _ _ => rfl, fun _ q => seqNext_of_le q⟩
  · exact fun s tr src e d down => exec_eslFrameReceived_of_down tr src e d down
  · intro s tr src e d up udp none
    rw [exec_eslFrameReceived_of_udp tr src e d up udp, none]
  · intro s tr src e d k up udp found
    rw [exec_eslFrameReceived_of_udp tr src e d up udp, found]
  · exact fun s tr src e d up can => exec_eslFrameReceived_of_can tr src e d up can
  · intro s e b on esl len long
    exact (s.entryFrame_of_plain e b on esl).trans (if_neg (by omega))
  · exact fun s e b on esl bad => (s.entryFrame_of_plain e b on esl).trans (if_pos bad)
  · exact fun s e b on len exact_ padded => s.eslCheck_of_length e b on len (not_or.mpr ⟨exact_, padded⟩)
  · exact fun s e b on len fits crc => (s.eslCheck_of_fits e b on len fits).trans (if_pos crc)
  · exact fun s e b on len fits crc => (s.eslCheck_of_fits e b on len fits).trans (if_neg (not_not.mpr crc))
  · exact fun s n crc a h recent => s.eslFail_of_recent n crc h recent
  · intro s n crc h
    exact s.eslFail_of_due n crc fun a ha => by simp [EslX.notedAt, h] at ha
  · intro s n crc a h due
    refine s.eslFail_of_due n crc fun a' ha => ?_
    obtain rfl : a = a' := Option.some.inj (h.symm.trans ha)
    exact due
  · exact fun s e n q b h hq => (s.eslSequence_of_waiting e n q b h).trans (if_pos hq)
  · exact fun s e n q b h hq => (s.eslSequence_of_waiting e n q b h).trans (if_neg hq)
  · exact fun s e n q b k h ahead last => (s.eslSequence_of_resync e n q k b h ahead).trans (if_pos last)
  · exact fun s e n q b k h ahead more => (s.eslSequence_of_resync e n q k b h ahead).trans (if_neg more)
  · exact fun s e n q b h ahead => s.eslSequence_of_resync_outside e n q b h ahead
  · exact fun s e n q b k h hq ahead => s.eslSequence_of_open e n q k b h hq ahead
  · exact fun s e n q b h hq ahead => s.eslSequence_of_open_outside e n q b h hq ahead
  · exact fun s e n q b h hq => s.eslSequence_of_reopen e n q b h hq
  · rintro s c e v up entry h rfl
    rw [exec_eslWatchdogExpiry, if_pos up]
    exact congrArg Host.Outcome.next (s.eslExpire_of_running e c.toNat entry h)
  · intro s c h
    rw [exec_eslWatchdogExpiry]
    split
    · next up => rw [s.eslExpire_of_idle c.toNat (h.resolve_left (by simp [up]))]
    · rfl
  · intro s e h
    rw [exec_eslTxFrame]
    split
    · next up => rw [s.eslSend_of_silent e.toNat (h.resolve_left (by simp [up]))]
    · rfl
  · intro s e up on sends plain
    rw [exec_eslTxFrame, if_pos up, s.eslSend_of_plain e.toNat on sends plain]
  · rintro s e r up on sends esl rfl refused
    rw [exec_eslTxFrame, if_pos up, s.eslSend_of_esl e.toNat on sends esl]
    exact congrArg Host.Outcome.next (if_pos (by simpa [State.eslOffered] using refused))
  · rintro s e r v up on sends esl rfl taken rfl
    rw [exec_eslTxFrame, if_pos up, s.eslSend_of_esl e.toNat on sends esl]
    exact congrArg Host.Outcome.next (if_neg (by simpa [State.eslOffered] using taken))

end Sys2Proof.Machine
end

section
/-! SUPPORT. Two statements that fail as they are written, each with the state that shows it (O11, O60). -/

namespace Sys2Proof.Machine

/-! ## A trigger in the tick of a swap (R85) -/

/-- The set that a swap of this very tick took out of force: HB0 belongs to MA0 in it (R151). -/
def machineSet : Store := benchStore [(Obj.hbClass 0, 0), (Obj.hbMachine 0, 0)]

/-- M2 right after a swap of the device scope that took HB0 from MA0, whose committed plan is to hold the upper switches on (R16). -/
def justSwapped : State :=
  { bench 2 [] [] with
    shadow := machineSet
    isl := { plans := [some .ascUpper, none, none, none] }
    sw := { undo := some { tick := 0, map := 1, active := machineSet, objs := [], equal := [], unsaved := [] } } }

theorem justSwapped_sound : justSwapped.Sound := by decide +kernel

theorem justSwapped_mode : justSwapped.mode = 2 := by decide +kernel

/-- In the set in force HB0 is no machine's. -/
theorem justSwapped_machineHbs : ((List.range 4).flatMap justSwapped.machineHbs).contains 0 = false := by decide +kernel

/-- The trigger undoes the swap, so that HB0 is MA0's again and comes under MA0's plan. -/
theorem justSwapped_trigger_hb : (justSwapped.trigger FC.bootCoreuv 0 false).hbDrive.getD 0 .switching = .ascUpper := by decide +kernel

/-- Refutes O11: it asks which channels belong to no machine before the trigger, and the trigger first undoes a swap of its own tick (R85),
which gives HB0 back to MA0 and so puts it under MA0's plan in place of pulse-off. -/
theorem not_triggerPutsEverythingUnderItsPlan : ¬ Obligations.TriggerPutsEverythingUnderItsPlan := by
  intro h
  obtain ⟨_, _, _, _, _, _, hb⟩ := h justSwapped FC.bootCoreuv 0 justSwapped_sound (by simp [justSwapped_mode])
  have off := hb 0 (by decide) justSwapped_machineHbs
  rw [justSwapped_trigger_hb] at off
  cases off

/-! ## A late region with a count that no U32 holds -/

/-- M2 with the background test's last start long past and MemTestLateCount at −1, which `State.Sound` does not exclude. -/
def lateBelowZero : State :=
  { bench 2 [(Obj.memTestLateCount, -1)] [] with tick := 1000000000000, memx := { startAt := some 0 } }

theorem lateBelowZero_late :
    0 + 2 * (lateBelowZero.oN Obj.memTestPeriod * 1000) < lateBelowZero.mono ∧ lateBelowZero.oN Obj.memTestLateCount = 0 := by decide +kernel

/-- The counter rises from −1 to 0, which reads as the same natural number. -/
theorem lateBelowZero_testRegion : (lateBelowZero.testRegion 0 false false).oN Obj.memTestLateCount = 0 := by decide +kernel

/-- Refutes O60: its clause of the late start, for every state, counts in natural numbers, and the model's saturating counters in integers.
From −1, a value that no U32 object holds but that no hypothesis excludes, the model counts to 0 where the clause says 1. -/
theorem not_memoryErrorsAndMonitorsAreJudged : ¬ Obligations.MemoryErrorsAndMonitorsAreJudged := by
  intro h
  obtain ⟨_, _, _, _, _, _, _, _, _, _, _, _, _, _, _, _, late, _⟩ := h
  have count := late lateBelowZero 0 false false 0 rfl rfl (by decide)
  obtain ⟨overdue, zero⟩ := lateBelowZero_late
  rw [lateBelowZero_testRegion, if_pos overdue, zero] at count
  exact absurd count (by decide)

end Sys2Proof.Machine
end

section
/-! SUPPORT. What a function's own operations leave of the mode record and the reset record (R33, R54), of the two sets and the device records:
one rule for each operation of the pins, the supplies and the per-function resets. -/

namespace Sys2Proof.Machine

/-! ## What stands apart -/

/-- What belongs to no function: both sets, the swap that may be undone, the device records, the transition in progress, device time, and the
objects of the mode record and of the reset record (R33, R54). -/
structure Control where
  active : Store
  shadow : Store
  undo : Option SwapUndo
  nv : NvX
  md : ModeX
  devSub : Nat
  modes : Nat → Int
  resets : Nat → Int

/-- The live objects of one Index, 0 at every other key. -/
def State.atIndex (s : State) (i k : Nat) : Int := if k / 256 = i then s.o k else 0

def State.control (s : State) : Control := ⟨s.active, s.shadow, s.sw.undo, s.nv, s.md, s.devSub, s.atIndex 0x2000, s.atIndex 0x2500⟩

section
variable {s t : State}

theorem State.o_of_atIndex {i k : Nat} (h : t.atIndex i = s.atIndex i) (hk : k / 256 = i) : t.o k = s.o k := by
  simpa [State.atIndex, hk] using congrFun h k

/-- An object of the mode record. -/
theorem State.o_of_control {k : Nat} (h : t.control = s.control) (hk : k / 256 = 0x2000) : t.o k = s.o k :=
  State.o_of_atIndex (congrArg Control.modes h) hk

theorem State.mode_of_control (h : t.control = s.control) : t.mode = s.mode :=
  congrArg Int.toNat (State.o_of_control (k := Obj.modeState) h rfl)

theorem State.md_of_control (h : t.control = s.control) : t.md = s.md := congrArg Control.md h
end

variable (s : State)

theorem State.atIndex_put {i k : Nat} (v : Int) (h : k / 256 ≠ i) : (s.put k v).atIndex i = s.atIndex i := by
  funext j
  unfold State.atIndex
  split
  · next hj => exact s.o_put_other v fun hjk => h (hjk ▸ hj)
  · rfl

/-- A write outside the two records. -/
@[simp] theorem State.put_control {i j : Nat} (v : Int) (hj : j < 256) (hm : i ≠ 0x2000) (hr : i ≠ 0x2500) :
    (s.put (key i j) v).control = s.control := by
  have hi : key i j / 256 = i := by unfold key; omega
  simp only [State.control, s.atIndex_put v (hi ▸ hm), s.atIndex_put v (hi ▸ hr)]
  rfl

@[simp] theorem State.incSat_control {i j : Nat} (hj : j < 256) (hm : i ≠ 0x2000) (hr : i ≠ 0x2500) :
    (s.incSat (key i j)).control = s.control := s.put_control _ hj hm hr

@[simp] theorem State.addSat_control {i j : Nat} (n : Nat) (hj : j < 256) (hm : i ≠ 0x2000) (hr : i ≠ 0x2500) :
    (s.addSat (key i j) n).control = s.control := s.put_control _ hj hm hr

/-! ## What a function holds beside its objects -/

@[simp] theorem State.chMod_control (c : Nat) (f : ChanX → ChanX) : (s.chMod c f).control = s.control := rfl
@[simp] theorem State.gaMod_control (a : Nat) (f : GaX → GaX) : (s.gaMod a f).control = s.control := rfl
@[simp] theorem State.lvMod_control (f : LvX → LvX) : (s.lvMod f).control = s.control := rfl
@[simp] theorem State.cpMod_control (c : Nat) (f : CpX → CpX) : (s.cpMod c f).control = s.control := rfl
@[simp] theorem State.tbMod_control (t : Nat) (f : TbX → TbX) : (s.tbMod t f).control = s.control := rfl
@[simp] theorem State.supMod_control (k : Nat) (f : SupplyX → SupplyX) : (s.supMod k f).control = s.control := rfl
@[simp] theorem State.setGs_control (n : Nat) (d : SupplyDrive) : (s.setGs n d).control = s.control := rfl
@[simp] theorem State.obsMod_control (o : Nat) (f : ObsX → ObsX) : (s.obsMod o f).control = s.control := rfl
@[simp] theorem State.engMod_control (e : Nat) (f : EngX → EngX) : (s.engMod e f).control = s.control := rfl
@[simp] theorem State.slotMod_control (n : Nat) (f : SlotX → SlotX) : (s.slotMod n f).control = s.control := rfl
@[simp] theorem State.canMod_control (c : Nat) (f : CanX → CanX) : (s.canMod c f).control = s.control := rfl
@[simp] theorem State.monMod_control (f : MonX → MonX) : (s.monMod f).control = s.control := rfl
@[simp] theorem State.mtrMod_control (f : MtrX → MtrX) : (s.mtrMod f).control = s.control := rfl
@[simp] theorem State.tracMod_control (m : Nat) (f : TracX → TracX) : (s.tracMod m f).control = s.control := rfl
@[simp] theorem State.eslMod_control (n : Nat) (f : EslX → EslX) : (s.eslMod n f).control = s.control := rfl
@[simp] theorem State.lvPhaseMod_control (n : Nat) (f : LvPhase → LvPhase) : (s.lvPhaseMod n f).control = s.control := rfl
@[simp] theorem State.fresh_control : s.fresh.control = s.control := rfl
@[simp] theorem State.mPut_control (a n v : Nat) : (s.mPut a n v).control = s.control := rfl
@[simp] theorem State.loadStateRegion_control (e : Nat) : (s.loadStateRegion e).control = s.control := rfl
@[simp] theorem State.mtrIssue_control (kind : Nat) (x : MtrSess) (start stop imp exp flags events peak : Nat) :
    (s.mtrIssue kind x start stop imp exp flags events peak).control = s.control := State.put_control _ _ (by omega) (by omega) (by omega)

@[simp] theorem State.log_control (kind code inst a b : Nat) : (s.log kind code inst a b).control = s.control :=
  State.put_control _ _ (by omega) (by omega) (by omega)

/-- What every round of a loop over members of its list keeps, the loop keeps. -/
theorem State.forAll_keeps_of_mem {α : Type} {p : State → α} {l : List Nat} {f : Nat → State → State}
    (hf : ∀ n ∈ l, ∀ t, p (f n t) = p t) (s : State) : p (s.forAll l f) = p s := by
  induction l generalizing s with
  | nil => rfl
  | cons a l ih => exact (ih (fun n hn => hf n (List.mem_cons_of_mem a hn)) _).trans (hf a List.mem_cons_self s)

/-! ## Pins and supplies -/

@[simp] theorem State.conductionEnds_control (c f : Nat) : (s.conductionEnds c f).control = s.control := by
  unfold State.conductionEnds
  split
  · rfl
  · simp (disch := omega) [apply_ite State.control]

@[simp] theorem State.callMode_control (mode c f new next : Nat) (full : Bool) : (s.callMode mode c f new next full).control = s.control := by
  simp [State.callMode, apply_ite State.control]

@[simp] theorem State.pinsFor_control (c : Nat) (d : Drive) : (s.pinsFor c d).control = s.control := by
  unfold State.pinsFor
  split <;> simp [State.pinsOff, State.pinsAsc]

@[simp] theorem State.setHb_control (n : Nat) (d : Drive) : (s.setHb n d).control = s.control := State.pinsFor_control ..
@[simp] theorem State.setLv_control (n : Nat) (d : Drive) : (s.setLv n d).control = s.control := State.pinsFor_control ..

@[simp] theorem State.setDrive_control (c : Nat) (d : Drive) : (s.setDrive c d).control = s.control := by
  simp [State.setDrive, apply_ite State.control]

@[simp] theorem State.channelFree_control (n : Nat) : (s.channelFree n).control = s.control := by
  simp (disch := omega) [State.channelFree]

@[simp] theorem State.chanOff_control (c : Nat) : (s.chanOff c).control = s.control := by
  unfold State.chanOff
  extract_lets t
  have ht : t.control = s.control := by simp [t]
  split
  · rw [State.put_control _ _ (by omega) (by omega) (by omega), ht]
  · exact ht

@[simp] theorem State.soLow_control (st n : Nat) : (s.soLow st n).control = s.control := by
  simp (disch := omega) [State.soLow]

@[simp] theorem State.supplyReady_control (n : Nat) : (s.supplyReady n).control = s.control := by
  simp (disch := omega) [State.supplyReady]

@[simp] theorem State.gsPut_control (k st : Nat) : (s.gsPut k st).control = s.control := by
  simp (disch := omega) [State.gsPut, apply_ite State.control]

@[simp] theorem State.gsRegulate_control (k : Nat) : (s.gsRegulate k).control = s.control := by
  simp (disch := omega) [State.gsRegulate]

@[simp] theorem State.leaveShow_control : s.leaveShow.control = s.control := by
  simp (disch := omega) [State.leaveShow]

@[simp] theorem State.nextPair_control (fuel : Nat) : (s.nextPair fuel).control = s.control := by
  induction fuel generalizing s with
  | zero => rfl
  | succ fuel ih =>
    unfold State.nextPair
    split
    · rfl
    · next n rest _ =>
      extract_lets t u e
      have ht : t.control = s.control := rfl
      split
      · exact (ih t).trans ht
      · have hu : u.control = s.control := (State.forAll_keeps (fun k t => State.gsPut_control t k 1) t).trans ht
        exact (State.leaveShow_control _).trans hu

@[simp] theorem State.startSupplies_control (pairs : List Nat) : (s.startSupplies pairs).control = s.control := by
  unfold State.startSupplies
  extract_lets q src t
  have ht : t.control = s.control := rfl
  split
  · exact ht
  · exact (t.nextPair_control 25).trans ht

theorem State.releaseSupplies_control (channels : List Nat) : (s.releaseSupplies channels).control = s.control := by
  unfold State.releaseSupplies
  refine (State.startSupplies_control _ _).trans (State.forAll_keeps (fun k t => ?_) s)
  simp [apply_ite State.control]

theorem State.releaseUnheld_control : s.releaseUnheld.control = s.control := by
  unfold State.releaseUnheld
  split
  · rfl
  · extract_lets hbs t isl u gs v sos w x
    have ht : t.control = s.control := State.forAll_keeps (fun n t => State.channelFree_control t n) s
    have hv : v.control = u.control := State.forAll_keeps (fun g t => by simp (disch := omega)) u
    have hw : w.control = v.control := State.forAll_keeps (fun n t => State.soLow_control t 1 n) v
    have hx : x.control = s.control := (w.releaseSupplies_control hbs).trans (hw.trans (hv.trans ht))
    clear_value x
    split
    · exact hx
    · exact hx

/-! ## The collector -/

/-- The codes of R530 are small enough that each has its status words within the fault record. -/
theorem faultRow_code_lt {code : Nat} {row : FaultRow} (h : faultRow code = some row) : code < 0x4000 := by
  have small : ∀ r ∈ faultTable, r.code < 0x4000 := by decide +kernel
  have hc : row.code = code := by simpa using List.find?_some h
  exact hc ▸ small row (List.mem_of_find?_eq_some h)

theorem State.statusBit_control {code : Nat} (h : code < 0x4000) (on : Bool) : (s.statusBit code on).control = s.control := by
  unfold State.statusBit
  extract_lets hi k b
  have hk : ∃ j, j < 256 ∧ k = key 0x2400 j := by
    by_cases low : code % 256 < 64
    · exact ⟨1 + 2 * (hi - 1), by omega, if_pos low⟩
    · exact ⟨2 + 2 * (hi - 1), by omega, if_neg low⟩
  obtain ⟨j, hj, hk⟩ := hk
  rw [hk]
  exact s.put_control _ hj (by omega) (by omega)

@[simp] theorem State.collect_control (code inst : Nat) (injected : Bool) : (s.collect code inst injected).control = s.control := by
  unfold State.collect
  split
  · rfl
  · next row hrow =>
    split
    · rfl
    · extract_lets cls again ctx src t u r src'
      have ht : t.control = s.control := by unfold t; split <;> rfl
      have hu : u.control = s.control := by
        unfold u State.refreshClassMap
        rw [State.put_control _ _ (by omega) (by omega) (by omega), State.statusBit_control _ (faultRow_code_lt hrow), ht]
      split
      · exact hu
      · exact (State.incSat_control _ (by omega) (by omega) (by omega)).trans hu

@[simp] theorem State.note_control (code inst : Nat) : (s.note code inst).control = s.control := State.collect_control ..

/-! ## What the functions lose to the island -/

@[simp] theorem State.stopSupply_control (n : Nat) : (s.stopSupply n).control = s.control := by
  simp (disch := omega) [State.stopSupply]

@[simp] theorem State.keepSupply_control (n : Nat) : (s.keepSupply n).control = s.control := by
  simp (disch := omega) [State.keepSupply]

@[simp] theorem State.planChannel_control (a : PlanAct) (n : Nat) : (s.planChannel a n).control = s.control := by
  unfold State.planChannel
  split <;> simp (disch := omega)

@[simp] theorem State.keepChannel_control (n : Nat) : (s.keepChannel n).control = s.control := by
  unfold State.keepChannel
  split <;> simp

@[simp] theorem State.overrideGroup_control (g : Nat) : (s.overrideGroup g).control = s.control := by
  simp (disch := omega) [State.overrideGroup, apply_ite State.control]

@[simp] theorem State.mtrInterval_control (stop flags : Nat) : (s.mtrInterval stop flags).control = s.control := by
  unfold State.mtrInterval
  split <;> simp

@[simp] theorem State.mtrClose_control (flags : Nat) : (s.mtrClose flags).control = s.control := by
  unfold State.mtrClose State.mtrCloseAt
  extract_lets t
  split
  · rfl
  · split <;> simp (disch := omega) [t]

@[simp] theorem State.tdManage_control (connection identity : Nat) (initiator : Bool) :
    (s.tdManage connection identity initiator).control = s.control := by
  unfold State.tdManage
  split <;> simp

@[simp] theorem State.tdEnd_control : s.tdEnd.control = s.control := by
  unfold State.tdEnd
  extract_lets n
  split
  · exact (State.tdManage_control ..).trans (s.put_control _ (by omega) (by omega) (by omega))
  · rfl

@[simp] theorem State.cpTo_control (c p : Nat) : (s.cpTo c p).control = s.control := by
  simp (disch := omega) [State.cpTo]

@[simp] theorem State.cpStop_control (c : Nat) : (s.cpStop c).control = s.control := by
  simp (disch := omega) [State.cpStop, apply_ite State.control]

@[simp] theorem State.lvHeld_control : s.lvHeld.control = s.control := by
  simp (disch := omega) [State.lvHeld, apply_ite State.control]

@[simp] theorem State.gaLost_control (a : Nat) : (s.gaLost a).control = s.control := by
  simp (disch := omega) [State.gaLost, apply_ite State.control]

theorem State.wcHeld_control : s.wcHeld.control = s.control := by
  unfold State.wcHeld
  split
  · rfl
  · extract_lets src t
    have ht : t.control = s.control := rfl
    clear_value t
    simpa (disch := omega) using ht

theorem State.lkHeld_control : s.lkHeld.control = s.control := by
  unfold State.lkHeld
  extract_lets n t
  have ht : t.control = s.control := by simp (disch := omega) [t, apply_ite State.control]
  have hu : (t.put Obj.lkState 10).control = s.control := by simpa (disch := omega) using ht
  split
  · exact (State.mtrClose_control ..).trans ((State.tdEnd_control _).trans hu)
  · rfl

theorem State.postHeld_control : s.postHeld.control = s.control := by
  unfold State.postHeld
  extract_lets n t
  have ht : t.control = s.control := by simp (disch := omega) [t, apply_ite State.control]
  have hu : ((t.put Obj.lkPostState 7).put Obj.lkPostCurrentLimit 0).control = s.control := by simpa (disch := omega) using ht
  split
  · exact (State.tdEnd_control _).trans hu
  · rfl

theorem State.stHeld_control : s.stHeld.control = s.control := by
  have h : ((s.put Obj.stState 7).put Obj.stStagesRunning 0).control = s.control := by simp (disch := omega)
  unfold State.stHeld
  split
  · rfl
  · exact h

theorem State.ccHeld_control : s.ccHeld.control = s.control := by
  have h : (s.put Obj.ccState 3).control = s.control := by simp (disch := omega)
  unfold State.ccHeld
  split
  · rfl
  · exact h

@[simp] theorem State.fnHeld_control (f : Fn) : (s.fnHeld f).control = s.control := by
  unfold State.fnHeld
  split
  · exact s.wcHeld_control
  · exact s.lkHeld_control
  · exact s.lvHeld_control
  · exact s.stHeld_control
  · exact s.postHeld_control
  · exact s.ccHeld_control
  · simp [apply_ite State.control]
  · rfl

@[simp] theorem State.planMachine_control (m : Nat) : (s.planMachine m).control = s.control := by
  unfold State.planMachine
  extract_lets t src u src'
  have ht : t.control = s.control := State.forAll_keeps (fun n t => State.keepChannel_control t n) s
  have hu : u.control = s.control := State.forAll_keeps (fun n t => State.planChannel_control t _ n) s
  split
  · exact ht
  · split
    · exact hu
    · exact hu

theorem State.planAll_control : s.planAll.control = s.control := by
  unfold State.planAll
  extract_lets hbs t u v w x
  have ht : t.control = s.control := State.forAll_keeps (fun n t => State.planChannel_control t .pulseOff n) s
  have hu : u.control = t.control := State.forAll_keeps (fun n t => State.setLv_control t n .pulseOff) t
  have hv : v.control = u.control := State.forAll_keeps (fun n t => State.soLow_control t 7 n) u
  have hw : w.control = v.control := State.forAll_keeps (fun m t => State.planMachine_control t m) v
  have hx : x.control = w.control := State.forAll_keeps (fun g t => State.overrideGroup_control t g) w
  rw [State.foldl_keeps (p := State.control) (fun t f => State.fnHeld_control t f), hx, hw, hv, hu, ht]

theorem State.planFn_control (f : Fn) : (s.planFn f).control = s.control := by
  unfold State.planFn
  extract_lets gs sos t u
  have ht : t.control = s.control := by
    unfold t
    split
    · exact State.planMachine_control ..
    · exact (State.forAll_keeps (fun n t => State.setLv_control t n .pulseOff) _).trans
        (State.forAll_keeps (fun n t => State.planChannel_control t .pulseOff n) s)
  have hu : u.control = t.control := State.forAll_keeps (fun n t => State.soLow_control t 7 n) t
  rw [State.fnHeld_control, State.forAll_keeps (fun g t => State.overrideGroup_control t g), hu, ht]

@[simp] theorem State.holdBy_control (code : Nat) : (s.holdBy code).control = s.control := by
  unfold State.holdBy
  split <;> rfl

/-! ## Pulse-off and the end of power -/

theorem State.groupOff_control (g : Nat) : (s.groupOff g).control = s.control := by
  unfold State.groupOff
  split
  · rw [State.forAll_keeps (fun a t => State.gaLost_control t a), State.put_control _ _ (by omega) (by omega) (by omega),
      State.forAll_keeps fun c t => State.chanOff_control t c]
  · split
    · exact State.forAll_keeps (fun c t => t.put_control 0 (by omega) (by omega) (by omega)) s
    · rfl

/-- The groups of a list at pulse-off, their run requests withdrawn (R44, R51). -/
theorem State.forAll_groupOff_control (gs : List Nat) :
    (s.forAll gs (fun g t => (t.groupOff g).put (Obj.groupRunRequest g) 0)).control = s.control :=
  State.forAll_keeps (fun g t => by rw [State.put_control _ _ (by omega) (by omega) (by omega), State.groupOff_control]) s

theorem State.portEmpty_control (p : Nat) : (s.portEmpty p).control = s.control := by
  unfold State.portEmpty
  extract_lets n t
  split
  · exact (t.addSat_control n (by omega) (by omega) (by omega)).trans rfl
  · rfl

theorem State.xgFollow_control {p : Nat} (hp : p < 2) : (s.xgFollow p).control = s.control := by
  unfold State.xgFollow
  split
  · split
    · exact s.put_control 1 (by omega) (by omega) (by omega)
    · rfl
  · rw [State.portEmpty_control, State.put_control _ _ (by omega) (by omega) (by omega), State.put_control _ _ (by omega) (by omega) (by omega)]

@[simp] theorem State.tbState_control (t st : Nat) : (s.tbState t st).control = s.control := by
  simp (disch := omega) [State.tbState]

theorem State.setSpeed_control (t : Nat) (v : Int) : (s.setSpeed t v).control = s.control := by
  unfold State.setSpeed
  extract_lets turned a b
  have ha : a.control = s.control := by simp (disch := omega) [a]
  clear_value a
  have hb : b.control = s.control := by simp [b, apply_ite State.control, ha]
  split
  · exact (State.put_control _ _ (by omega) (by omega) (by omega)).trans hb
  · exact hb

theorem State.tbOff_control (t : Nat) : (s.tbOff t).control = s.control := by
  simp (disch := omega) [State.tbOff, State.setSpeed_control]

theorem State.sensorsFollow_control : s.sensorsFollow.control = s.control := by
  unfold State.sensorsFollow
  extract_lets show1 t u
  have h1 (on : Bool) {i j : Nat} (hj : j < 256) (hm : i ≠ 0x2000) (hr : i ≠ 0x2500) (v : State) :
      (show1 on (key i j) v).control = v.control := by
    unfold show1
    split
    · split
      · exact v.put_control _ hj hm hr
      · rfl
    · exact v.put_control _ hj hm hr
  have ht : t.control = s.control := State.forAll_keeps (fun n t => h1 _ (by omega) (by omega) (by omega) t) s
  have hu : u.control = t.control := State.forAll_keeps (fun n t => h1 _ (by omega) (by omega) (by omega) t) t
  exact (State.forAll_keeps (fun n t => h1 _ (by omega) (by omega) (by omega) t) u).trans (hu.trans ht)

theorem State.powerOff_control : s.powerOff.control = s.control := by
  unfold State.powerOff
  extract_lets t
  have ht : t.control = s.control := by
    unfold t
    rw [State.sensorsFollow_control, State.forAll_keeps (fun t u => State.tbOff_control u t),
      State.forAll_keeps_of_mem (fun p hp t => t.xgFollow_control (by simp at hp; omega))]
  clear_value t
  exact ht

theorem State.factoryTest_control : s.factoryTest.control = s.control := by
  unfold State.factoryTest
  rw [State.powerOff_control, State.lvHeld_control, State.forAll_groupOff_control]

end Sys2Proof.Machine
end

section
/-! SUPPORT. The completion of a mode transition and M3's step time-out (O19): what the record of a mode entered holds, and what stands beside it. -/

namespace Sys2Proof.Machine

/-! ## A mode entered (R35) -/

/-- What a mode entered writes as one record (R35). -/
structure State.EnteredBy (s : State) (n cause : Nat) (t : State) : Prop where
  mode : t.o Obj.modeState = n
  time : t.o Obj.modeEntryTime = s.now
  cause : t.o Obj.modeTransitionCause = cause
  count : t.o Obj.modeChangeCount = satInc32 (s.o Obj.modeChangeCount)
  target : t.o Obj.modeTarget = 0xFF
  ended : t.md.requested = false

theorem State.EnteredBy.of_control {n cause : Nat} {s t u : State} (h : s.EnteredBy n cause t) (hu : u.control = t.control) :
    s.EnteredBy n cause u where
  mode := (State.o_of_control hu rfl).trans h.mode
  time := (State.o_of_control hu rfl).trans h.time
  cause := (State.o_of_control hu rfl).trans h.cause
  count := (State.o_of_control hu rfl).trans h.count
  target := (State.o_of_control hu rfl).trans h.target
  ended := (congrArg ModeX.requested (State.md_of_control hu)).trans h.ended

section
variable (s : State)

theorem State.monMode_control (n : Nat) : (s.monMode n).control = s.control := by
  have standby (v : Int) : (s.put Obj.monState v).control = s.control := s.put_control v (by omega) (by omega) (by omega)
  unfold State.monMode
  extract_lets runs
  split
  · rfl
  · split
    · exact standby 4
    · split
      · exact standby _
      · rfl

theorem State.enterMode_entered (n cause : Nat) : s.EnteredBy n cause (s.enterMode n cause) := by
  unfold State.enterMode
  extract_lets old t u v w x y
  have ht : t.control = s.control := by simp [t, apply_ite State.control]
  clear_value t
  have hu : u.control = s.control := by simpa (disch := omega) [u, apply_ite State.control] using ht
  clear_value u
  have count : w.o Obj.modeChangeCount = s.o Obj.modeChangeCount := by
    have hv : v.o Obj.modeChangeCount = u.o Obj.modeChangeCount := by
      unfold v
      split
      · exact u.o_put_other _ (by decide)
      · rfl
    rw [State.o_of_control (v.monMode_control n) rfl, hv, State.o_of_control hu rfl]
  have time : w.devSub = s.devSub := by
    have hv : v.devSub = u.devSub := by unfold v; split <;> rfl
    rw [show w.devSub = v.devSub from congrArg Control.devSub (v.monMode_control n), hv, show u.devSub = s.devSub from congrArg Control.devSub hu]
  clear_value w
  have record (k : Nat) (hk : k / 256 = 0x2000) : y.o k = (x.incSat Obj.modeChangeCount).o k := State.o_of_control (State.log_control ..) hk
  have now : w.now = s.now := congrArg (· / 2000000000) time
  refine ⟨(record _ rfl).trans ?_, (record _ rfl).trans ?_, (record _ rfl).trans ?_, (record _ rfl).trans ?_, (record _ rfl).trans ?_, rfl⟩
  all_goals simp [x, State.incSat_eq, State.o_put, now, count]

/-! ## A transition completed -/

/-- A transition to M4, M8, M10 or M11 out of M2 or M3 waits for nothing, and of these M11 alone does more than enter (R44, R45, R51). -/
theorem State.completeMode_entered {m : Nat} (asked : s.md.requested = true) (target : s.oN Obj.modeTarget = m)
    (hm : m = 4 ∨ m = 8 ∨ m = 10 ∨ m = 11) (old : s.mode = 2 ∨ s.mode = 3) : s.EnteredBy m s.md.cause s.completeMode := by
  have may : s.modeMay = true := by
    unfold State.modeMay
    rw [target]
    rcases hm with rfl | rfl | rfl | rfl <;> rfl
  have leave : s.leaveFor m = s := by
    unfold State.leaveFor
    rcases old with h | h <;> rw [h] <;> rcases hm with rfl | rfl | rfl | rfl <;> rfl
  have go : s.completeMode = (s.enterMode m s.md.cause).beginFor s.mode m := by
    unfold State.completeMode
    rw [if_neg (by simp [asked, may, target]; omega), if_neg (by omega)]
    simp only [target, leave]
  have begun : ((s.enterMode m s.md.cause).beginFor s.mode m).control = (s.enterMode m s.md.cause).control := by
    rcases hm with rfl | rfl | rfl | rfl
    · rfl
    · rfl
    · rfl
    · exact State.factoryTest_control _
  rw [go]
  exact (s.enterMode_entered m s.md.cause).of_control begun

/-- With no transition in progress nothing completes. -/
theorem State.completeMode_idle (h : s.md.requested = false ∨ s.oN Obj.modeTarget = 0xFF) : s.completeMode = s := by
  refine if_pos ?_
  rcases h with h | h <;> simp [h]

/-! ## M3's step time-out (R44) -/

/-- The request for M3 ends, its groups at pulse-off. -/
theorem State.m3Fail_ends : s.m3Fail.o Obj.modeRequestResult = 4 ∧ s.m3Fail.o Obj.modeTarget = 0xFF ∧ s.m3Fail.md.requested = false ∧
    s.m3Fail.md.m3Wait = [] ∧ s.m3Fail.mode = s.mode := by
  unfold State.m3Fail
  extract_lets gs t u src
  have ht : t.mode = s.mode := State.mode_of_control (State.forAll_groupOff_control s gs)
  clear_value t
  have hu : u.mode = t.mode := by
    unfold u
    rw [State.mode_put_other _ _ (by decide), State.mode_put_other _ _ (by decide)]
  have result : u.o Obj.modeRequestResult = 4 :=
    (State.o_put_other (t.put Obj.modeRequestResult 4) 0xFF (by decide)).trans (State.o_put_same ..)
  have none : u.o Obj.modeTarget = 0xFF := State.o_put_same ..
  exact ⟨result, none, rfl, rfl, hu.trans ht⟩

end

/-- Settles O19: the mode entered writes its record at once (`enterMode_entered`), and what M11 stops is no part of it; M3's time-out ends
the request after its groups are off. -/
theorem modeCompletesAsOneRecord : Obligations.ModeCompletesAsOneRecord := by
  refine ⟨?_, ?_, ?_⟩
  · intro s _ asked target old
    have h := s.completeMode_entered asked rfl target old
    have nonneg : 0 ≤ s.o Obj.modeTarget := by
      simp only [State.oN_eq] at target
      omega
    have number : (s.oN Obj.modeTarget : Int) = s.o Obj.modeTarget := Int.toNat_of_nonneg nonneg
    exact ⟨s.completeMode, rfl, h.mode.trans number, h.time, h.cause, h.count, congrArg Int.toNat h.target, h.ended⟩
  · exact fun s h => congrArg Host.Outcome.next (s.completeMode_idle h)
  · intro s asked target wait
    obtain ⟨result, none, ended, empty, mode⟩ := s.m3Fail_ends
    exact ⟨s.m3Fail, congrArg Host.Outcome.next (if_pos ⟨asked, target, wait⟩), result, congrArg Int.toNat none, ended, empty, mode⟩

end Sys2Proof.Machine
end

section
/-! SUPPORT. What a raised fault leaves of the two sets and the reset record while no swap can be undone (R85), and the completion of a
per-function reset (O20). -/

namespace Sys2Proof.Machine

/-- What the completion of a reset keeps whatever is raised meanwhile: both sets, the swap that may be undone, the reset record (R54, R85). -/
def State.steady (s : State) : Store × Store × Option SwapUndo × (Nat → Int) := (s.active, s.shadow, s.sw.undo, s.atIndex 0x2500)

theorem State.steady_of_control {s t : State} (h : t.control = s.control) : t.steady = s.steady :=
  congrArg (fun c : Control => (c.active, c.shadow, c.undo, c.resets)) h

theorem State.undo_of_steady {s t : State} (h : t.steady = s.steady) : t.sw.undo = s.sw.undo := congrArg (fun c => c.2.2.1) h

theorem State.o_of_steady {s t : State} {k : Nat} (h : t.steady = s.steady) (hk : k / 256 = 0x2500) : t.o k = s.o k :=
  State.o_of_atIndex (congrArg (fun c => c.2.2.2) h) hk

section
variable (s : State)

/-! ## A fault raised -/

@[simp] theorem State.put_steady {i j : Nat} (v : Int) (hj : j < 256) (hr : i ≠ 0x2500) : (s.put (key i j) v).steady = s.steady := by
  have hi : key i j / 256 = i := by unfold key; omega
  simp only [State.steady, s.atIndex_put v (hi ▸ hr)]
  rfl

@[simp] theorem State.incSat_steady {i j : Nat} (hj : j < 256) (hr : i ≠ 0x2500) : (s.incSat (key i j)).steady = s.steady :=
  s.put_steady _ hj hr

@[simp] theorem State.log_steady (kind code inst a b : Nat) : (s.log kind code inst a b).steady = s.steady :=
  State.steady_of_control (State.log_control ..)

theorem State.undoSwap_of_none (h : s.sw.undo = none) (code : Nat) : s.undoSwap code = s := by
  unfold State.undoSwap
  rw [h]

theorem State.cancelSwap_steady (code : Nat) : (s.cancelSwap code).steady = s.steady := by
  unfold State.cancelSwap
  split
  · extract_lets scopes t
    have ht : t.steady = s.steady := by
      refine State.forAll_keeps_of_mem (fun n hn t => t.put_steady _ (by omega) ?_) s
      have := List.mem_range.mp (List.mem_filter.mp hn).1
      omega
    clear_value t
    rw [State.log_steady, State.put_steady _ _ (by omega) (by omega)]
    exact ht
  · rfl

theorem State.swapLoses_steady (h : s.sw.undo = none) : s.swapLoses.steady = s.steady := by
  rw [State.swapLoses, s.undoSwap_of_none h, State.cancelSwap_steady]

theorem State.swapYields_steady (h : s.sw.undo = none) (fns : List Fn) : (s.swapYields fns).steady = s.steady := by
  unfold State.swapYields
  rw [h, s.undoSwap_of_none h]
  simp [apply_ite State.steady, State.cancelSwap_steady]

theorem State.abandonRequest_steady : s.abandonRequest.steady = s.steady := by
  unfold State.abandonRequest
  extract_lets t
  have ht : t.steady = s.steady := by simp (disch := omega) [t, apply_ite State.steady]
  exact ht

theorem State.enterM9_steady (cause : Nat) : (s.enterM9 cause).steady = s.steady := by
  unfold State.enterM9
  split
  · extract_lets old t u v w
    have ht : t.steady = s.steady := s.abandonRequest_steady
    clear_value t
    have hv : v.steady = s.steady := by simpa (disch := omega) [v, u] using ht
    clear_value v
    have hw : w.steady = s.steady := by simpa (disch := omega) [w, apply_ite State.steady] using hv
    exact (State.log_steady ..).trans hw
  · split
    · exact s.abandonRequest_steady
    · rfl

theorem State.trigger_steady (h : s.sw.undo = none) (code inst : Nat) (masked : Bool) : (s.trigger code inst masked).steady = s.steady := by
  unfold State.trigger
  split
  · rfl
  · extract_lets t u _ v
    have ht : t.steady = s.steady := s.swapLoses_steady h
    clear_value t
    have hu : u.steady = t.steady := by
      refine State.steady_of_control ?_
      simp only [u, State.planAll_control, apply_ite State.control, State.mtrClose_control, ite_self]
    clear_value u
    have hv : v.steady = u.steady := rfl
    rw [State.enterM9_steady, State.steady_of_control (State.holdBy_control ..), hv, hu, ht]

theorem State.triggerSafe_steady (h : s.sw.undo = none) (code inst : Nat) (masked : Bool) :
    (s.triggerSafe code inst masked).steady = s.steady := by
  unfold State.triggerSafe
  split
  · rfl
  · extract_lets t fns u v
    have ht : t.steady = s.steady := s.swapYields_steady h _
    clear_value t
    have hu : u.steady = t.steady := rfl
    have hv : v.steady = u.steady := by
      refine State.steady_of_control ((State.holdBy_control ..).trans ?_)
      exact State.foldl_keeps (p := State.control) (fun t f => State.planFn_control t f) u
    exact hv.trans (hu.trans ht)

theorem State.raise_steady (h : s.sw.undo = none) (code inst : Nat) : (s.raise code inst).steady = s.steady := by
  have hc : (s.collect code inst false).steady = s.steady := State.steady_of_control (s.collect_control code inst false)
  have none : (s.collect code inst false).sw.undo = none := (State.undo_of_steady hc).trans h
  unfold State.raise State.raiseWith
  split
  · rfl
  · split
    · rfl
    · extract_lets cls t
      split
      · exact (State.trigger_steady _ none ..).trans hc
      · split
        · exact (State.triggerSafe_steady _ none ..).trans hc
        · exact hc

/-! ## What each class resets (R56) -/

/-- The observers' objects lie above the reset record (R260). -/
theorem Obj.obsBase_ge (o : Nat) : 0x2600 ≤ Obj.obsBase o := by
  unfold Obj.obsBase
  split
  · omega
  · split <;> omega

theorem State.unlatch_control (g : Nat) : (s.unlatch g).control = s.control := by
  unfold State.unlatch
  extract_lets t
  have ht : t.control = s.control := State.forAll_keeps (fun n t => by simp (disch := omega) [apply_ite State.control]) s
  clear_value t
  split
  · exact (t.put_control 0 (by omega) (by omega) (by omega)).trans ht
  · exact ht

theorem State.chopperReset_control (g : Nat) : (s.chopperReset g).control = s.control :=
  State.forAll_keeps (fun l t => by simp (disch := omega) [State.showOv3]) s

theorem State.stageReset_control (g : Nat) : (s.stageReset g).control = s.control := by
  unfold State.stageReset
  split
  · rfl
  · simp (disch := omega)

theorem State.supRestart_control (e : Nat) {c : Nat} (hc : c < 8) : (s.supRestart e c).control = s.control := by
  simp (disch := omega) [State.supRestart]

/-- A slot begins afresh in the state that its SlotEnable gives; a held one stays held (R56). -/
theorem State.slotAfresh_control (n : Nat) :
    (let t := s.slotMod n (fun _ => {})
     if t.cN (Obj.slotEnable n) = 0 then t.put (Obj.slotState n) 0
     else if t.oN (Obj.slotState n) = 6 ∨ t.oN (Obj.slotState n) = 0 then t
     else t.put (Obj.slotState n) (t.enableState n)).control = s.control := by
  extract_lets t
  have ht : t.control = s.control := State.slotMod_control ..
  clear_value t
  simp (disch := omega) [apply_ite State.control, ht]

theorem State.engineReset_control (e : Nat) : (s.engineReset e).control = s.control := by
  unfold State.engineReset
  extract_lets t u v
  have ht : t.control = s.control := by simp (disch := omega) [t]
  have hu : u.control = t.control := State.forAll_keeps (fun n t => t.slotAfresh_control n) t
  have hv : v.control = u.control := State.engMod_control ..
  exact (State.forAll_keeps_of_mem (fun c hc t => t.supRestart_control e (List.mem_range.mp hc)) v).trans (hv.trans (hu.trans ht))

theorem State.obsReset_control (o : Nat) : (s.obsReset o).control = s.control := by
  have := Obj.obsBase_ge o
  simp (disch := omega) [State.obsReset, State.obsSet]

theorem State.gaReset_control (a : Nat) : (s.gaReset a).control = s.control := by
  simp (disch := omega) [State.gaReset, State.gaIdle, State.gaPark, State.gaShow]

theorem State.lvReset_control : s.lvReset.control = s.control := by
  unfold State.lvReset
  extract_lets t u v
  have hu : u.control = s.control := by simp (disch := omega) [u, t]
  have hv : v.control = u.control := by
    refine State.forAll_keeps_of_mem (fun q hq t => t.put_control 0 ?_ (by omega) (by omega)) u
    have : q < 4 := by revert q; decide
    omega
  clear_value v
  split
  · exact (v.put_control 0 (by omega) (by omega) (by omega)).trans (hv.trans hu)
  · exact hv.trans hu

theorem State.cpReset_control (c : Nat) : (s.cpReset c).control = s.control := by
  simp (disch := omega) [State.cpReset]

@[simp] theorem State.canShow_control (c : Nat) : (s.canShow c).control = s.control := by
  unfold State.canShow
  extract_lets x st t
  have ht : t.control = s.control := s.put_control _ (by omega) (by omega) (by omega)
  clear_value t
  split <;> simpa (disch := omega) using ht

@[simp] theorem State.canStart_control (c : Nat) : (s.canStart c).control = s.control := by
  simp (disch := omega) [State.canStart]

theorem State.canReset_control (c : Nat) : (s.canReset c).control = s.control := by
  unfold State.canReset
  extract_lets freed src t u
  have ht : t.control = s.control := rfl
  clear_value t
  simpa (disch := omega) [u] using ht

theorem State.monStart_control : s.monStart.control = s.control := by
  simp (disch := omega) [State.monStart, State.monShow]

/-- The groups' own classes: a group of HB channels, one of LV channels, and the gate supplies of a group. -/
theorem State.groupResets_control (inst : Nat) : (s.resetEffect 1 inst).control = s.control ∧ (s.resetEffect 2 inst).control = s.control ∧
    (s.resetEffect 3 inst).control = s.control := by
  refine ⟨?_, ?_, ?_⟩
  · show (State.stageReset inst _).control = _
    rw [State.stageReset_control, State.chopperReset_control, State.unlatch_control]
    simp (disch := omega)
  · unfold State.resetEffect
    extract_lets g t phases
    have ht : t.control = s.control :=
      (State.forAll_keeps (fun n t => State.chMod_control t (24 + n) _) _).trans (s.put_control 0 (by omega) (by omega) (by omega))
    exact (State.forAll_keeps (fun n t => by simp (disch := omega)) t).trans ht
  · exact (State.startSupplies_control ..).trans (State.forAll_keeps (fun k t => State.gsPut_control t k 0) s)

theorem State.setSourceSpeed_steady (h : s.sw.undo = none) (t : Nat) (v : Int) : (s.setSourceSpeed t v).steady = s.steady := by
  have set (w : Int) : (s.setSpeed t w).steady = s.steady := State.steady_of_control (s.setSpeed_control t w)
  have clamp (w : Int) : ((s.setSpeed t w).raise FC.tbSpeedclamp t).steady = s.steady :=
    (State.raise_steady _ ((State.undo_of_steady (set w)).trans h) ..).trans (set w)
  unfold State.setSourceSpeed
  split
  · exact clamp _
  · split
    · exact clamp _
    · exact set v

theorem State.putAngle_control (t : Nat) (full : Int) (turnsFrom : Nat) : (s.putAngle t full turnsFrom).control = s.control := by
  simp (disch := omega) [State.putAngle]

theorem State.tbEnable_steady (h : s.sw.undo = none) (t : Nat) : (s.tbEnable t).steady = s.steady := by
  unfold State.tbEnable
  extract_lets src u v w
  split
  · exact State.steady_of_control (s.tbOff_control t)
  · have hu : u.control = s.control := (State.tbMod_control ..).trans (s.put_control 0 (by omega) (by omega) (by omega))
    clear_value u
    have hv : v.control = s.control := (u.put_control 0 (by omega) (by omega) (by omega)).trans hu
    clear_value v
    split
    · have hw : w.steady = s.steady :=
        State.steady_of_control ((State.tbMod_control ..).trans ((v.putAngle_control t 0 0).trans hv))
      clear_value w
      have none : w.sw.undo = none := (State.undo_of_steady hw).trans h
      unfold State.tbLocked
      rw [State.put_steady _ _ (by omega) (by omega), State.steady_of_control (State.tbState_control ..), w.setSourceSpeed_steady none, hw]
    · exact State.steady_of_control ((v.tbState_control t 1).trans hv)

theorem State.slotWrite_control (q raw : Nat) : (s.slotWrite q raw).control = s.control := by
  unfold State.slotWrite
  extract_lets t
  have ht : t.control = s.control := rfl
  clear_value t
  split
  · exact (State.mPut_control ..).trans ht
  · exact ht

theorem State.substitutes_control (e : Nat) : (s.substitutes e).control = s.control := by
  unfold State.substitutes State.imageWrite
  extract_lets qs t
  have ht : t.control = s.control := State.forAll_keeps (fun q t => State.slotWrite_control t q _) s
  clear_value t
  split
  · exact ht
  · exact ht

theorem State.requestLost_steady (h : s.sw.undo = none) (m : Nat) (lost : Bool) : (s.requestLost m lost).steady = s.steady := by
  unfold State.requestLost
  split
  · rfl
  · split
    · exact (State.raise_steady (s.tracMod m _) h ..).trans (State.steady_of_control (s.tracMod_control m _))
    · rfl

/-- What every round of a loop keeps while no swap can be undone, the loop keeps. -/
theorem State.forAll_steady {l : List Nat} {f : Nat → State → State} (hf : ∀ n t, t.sw.undo = none → (f n t).steady = t.steady)
    (h : s.sw.undo = none) : (s.forAll l f).steady = s.steady := by
  unfold State.forAll
  induction l generalizing s with
  | nil => rfl
  | cons a l ih => exact (ih _ ((State.undo_of_steady (hf a s h)).trans h)).trans (hf a s h)

theorem State.eslHolds_steady (h : s.sw.undo = none) (e : Nat) (holds : Bool) : (s.eslHolds e holds).steady = s.steady := by
  unfold State.eslHolds
  extract_lets t
  have ht : t.steady = s.steady := s.forAll_steady (fun m t h => t.requestLost_steady h m holds) h
  split
  · exact (State.steady_of_control (t.cpMod_control ..)).trans ht
  · exact ht

theorem State.eslEnable_steady (h : s.sw.undo = none) (e : Nat) : (s.eslEnable e).steady = s.steady := by
  unfold State.eslEnable
  extract_lets n
  split
  · rfl
  · have ht (f : EslX → EslX) : ((s.eslMod n f).substitutes e).steady = s.steady :=
      State.steady_of_control ((State.substitutes_control ..).trans (State.eslMod_control ..))
    exact (State.eslHolds_steady _ ((State.undo_of_steady (ht _)).trans h) ..).trans (ht _)

theorem State.eslReset_steady (h : s.sw.undo = none) (n : Nat) : (s.eslReset n).steady = s.steady := by
  unfold State.eslReset
  split
  · rfl
  · next e _ =>
    have ht (f : EslX → EslX) : (s.eslMod n f).steady = s.steady := State.steady_of_control (s.eslMod_control n f)
    exact (State.eslEnable_steady _ ((State.undo_of_steady (ht _)).trans h) e).trans (ht _)

/-- No class's effect touches a configuration set or the reset record; two of the classes may raise a fault (R56, R85). -/
theorem State.resetEffect_steady (h : s.sw.undo = none) (cls inst : Nat) : (s.resetEffect cls inst).steady = s.steady := by
  obtain ⟨group, lv, supplies⟩ := s.groupResets_control inst
  match cls with
  | 1 => exact State.steady_of_control group
  | 2 => exact State.steady_of_control lv
  | 3 => exact State.steady_of_control supplies
  | 4 => exact State.steady_of_control (s.engineReset_control inst)
  | 5 => exact s.tbEnable_steady h inst
  | 6 => exact State.steady_of_control (s.obsReset_control inst)
  | 7 => exact State.steady_of_control ((State.obsReset_control ..).trans (s.gaReset_control inst))
  | 8 => exact State.steady_of_control s.lvReset_control
  | 9 => exact State.steady_of_control (s.cpReset_control inst)
  | 10 => exact State.steady_of_control (s.canReset_control inst)
  | 11 => exact s.eslReset_steady h inst
  | 12 =>
    unfold State.resetEffect
    simp (disch := omega)
    rfl
  | 13 =>
    have ledger (t : State) (m : MonX) : ({ t with mon := m } : State).steady = t.steady := rfl
    exact (ledger _ _).trans (State.steady_of_control s.monStart_control)
  | 14 => exact (State.put_steady _ _ (by omega) (by omega)).trans (State.steady_of_control (s.mtrMod_control _))
  | 0 | _ + 15 => rfl

/-! ## The completion -/

/-- What the completion of a reset does beyond the class's effect: the functions restarted are released, and none is running (R56, R58). -/
def State.resetEnds (cls inst : Nat) (s : State) : State :=
  let freed := (s.resetFns cls inst).filter (fun f => s.isl.held.contains f && !s.safeOn f)
  let s := { s with isl := { s.isl with held := s.isl.held.filter (fun f => !freed.contains f) }, md := { s.md with resetClass := 0, resetInst := 0 } }
  let sos := (List.range 8).filter (fun n => s.oN (Obj.soState n) == 6 &&
    (match s.soOwner n with | some f => (s.resetFns cls inst).contains f && !s.safeOn f | none => false))
  let s := s.forAll sos (State.soLow 1)
  if freed = [] then s else s.releaseUnheld

theorem State.resetDone_of_running (h : s.md.resetClass ≠ 0) :
    s.resetDone = (((((s.resetEffect s.md.resetClass s.md.resetInst).resetEnds s.md.resetClass s.md.resetInst).put Obj.functionResetResult 0).incSat
      Obj.functionResetCount).log 8 s.md.resetClass s.md.resetInst 0 0) := if_neg h

theorem State.resetDone_of_idle (h : s.md.resetClass = 0) : s.resetDone = s := if_pos h

theorem State.resetEnds_control (cls inst : Nat) :
    (s.resetEnds cls inst).control = { s.control with md := { s.md with resetClass := 0, resetInst := 0 } } := by
  unfold State.resetEnds
  extract_lets freed src md t sos u
  have ht : t.control = { s.control with md := { s.md with resetClass := 0, resetInst := 0 } } := rfl
  have hu : u.control = t.control := State.forAll_keeps (fun n t => State.soLow_control t 1 n) t
  clear_value u
  split
  · exact hu.trans ht
  · exact (u.releaseUnheld_control.trans hu).trans ht

/-- A completed reset's record: result 0, one more counted, none running (R55). -/
theorem State.resetDone_record (h : s.md.resetClass ≠ 0) : s.resetDone.o Obj.functionResetResult = 0 ∧ s.resetDone.md.resetClass = 0 ∧
    s.resetDone.o Obj.functionResetCount =
      satInc32 ((s.resetEffect s.md.resetClass s.md.resetInst).o Obj.functionResetCount) := by
  rw [s.resetDone_of_running h]
  generalize s.resetEffect s.md.resetClass s.md.resetInst = t
  have hu := t.resetEnds_control s.md.resetClass s.md.resetInst
  generalize t.resetEnds s.md.resetClass s.md.resetInst = u at hu ⊢
  have ended : u.md.resetClass = 0 := congrArg (fun c => c.md.resetClass) hu
  have count : u.o Obj.functionResetCount = t.o Obj.functionResetCount := State.o_of_atIndex (congrArg Control.resets hu) rfl
  have record (v : State) (k : Nat) (hk : k / 256 = 0x2500) : (v.log 8 s.md.resetClass s.md.resetInst 0 0).o k = v.o k :=
    State.o_of_steady (State.log_steady ..) hk
  refine ⟨(record _ _ rfl).trans ?_, ended, (record _ _ rfl).trans ?_⟩
  · simp [State.incSat_eq, State.o_put]
  · simp [State.incSat_eq, State.o_put, count]

/-- A completed reset changes neither set (R56). -/
theorem State.resetDone_sets (running : s.md.resetClass ≠ 0) (h : s.sw.undo = none) :
    s.resetDone.active = s.active ∧ s.resetDone.shadow = s.shadow := by
  have he := s.resetEffect_steady h s.md.resetClass s.md.resetInst
  rw [s.resetDone_of_running running]
  generalize s.resetEffect s.md.resetClass s.md.resetInst = t at he ⊢
  have hu := t.resetEnds_control s.md.resetClass s.md.resetInst
  exact ⟨(congrArg Control.active hu).trans (congrArg (fun c => c.1) he), (congrArg Control.shadow hu).trans (congrArg (fun c => c.2.1) he)⟩

/-! ## The request (R55) -/

/-- A request that a role may make reaches the function's own rule. -/
theorem State.accessAt_of_mayWrite {role : Role} {rank k : Nat} (h : s.MayWrite role rank k) (f : State → State) :
    s.accessAt role rank k true f = f s := by
  obtain ⟨up, rank_le, free⟩ := h
  unfold State.accessAt
  rw [if_neg (by simp [up]), if_neg (by omega), if_neg, if_neg (by simp)]
  rintro ⟨no, held⟩
  rcases free with slot | free
  · exact no slot
  · simp [free] at held

theorem State.resetAsk_refused {v : Nat} (h : s.resetCode (v / 65536) (v % 65536) ≠ 0) :
    s.resetAsk v = (((s.put Obj.functionResetResult (s.resetCode (v / 65536) (v % 65536) : Nat)).incSat Obj.functionResetRefused).log 8
      (v / 65536) (v % 65536) (s.resetCode (v / 65536) (v % 65536)) 0) := if_pos h

/-- With no swap armed, an accepted request of a class other than 0x0B is recorded and begins, and that is all (R55, R83). -/
theorem State.resetAsk_accepted {v : Nat} (h : s.resetCode (v / 65536) (v % 65536) = 0) (unarmed : s.sw.armed = false) (cls : v / 65536 ≠ 11) :
    s.resetAsk v = { (s.put Obj.functionResetResult 1).put Obj.functionResetLast v with
      md := { s.md with resetClass := v / 65536, resetInst := v % 65536 } } := by
  unfold State.resetAsk
  extract_lets c i code t _ u w
  have hw : w = u := if_neg cls
  have off : w.sw.armed = false := hw ▸ unarmed
  have cancel : w.cancelSwap 0x0D = w := if_neg (by simp [off])
  rw [if_neg (not_not.mpr h), cancel, ite_self, hw]
  rfl

end

/-- Settles O20: a request goes by its refusal code, and a completion's record is written last, over an effect and a release that leave the
sets and the reset record alone (`resetEffect_steady`, `resetEnds_control`). -/
theorem functionResetRunsOneAtATime : Obligations.FunctionResetRunsOneAtATime := by
  have asked {s : State} {v : BitVec 32} {role : Role} (may : s.MayWrite role 2 Obj.functionResetRequest) :
      exec (.functionResetRequest v role) s = .next (if 16777216 ≤ v.toNat then s.refuse 0x06 else s.resetAsk v.toNat) :=
    congrArg Host.Outcome.next (s.accessAt_of_mayWrite may _)
  refine ⟨?_, ?_, ?_, ?_, ?_⟩
  · intro s v role may small code
    rw [asked may, if_neg (by omega), s.resetAsk_refused code]
  · intro s v role may small code unarmed cls
    rw [asked may, if_neg (by omega), s.resetAsk_accepted code unarmed cls]
  · intro s v role may large
    rw [asked may, if_pos large]
    rfl
  · intro s running h
    obtain ⟨result, ended, count⟩ := s.resetDone_record running
    obtain ⟨active, shadow⟩ := s.resetDone_sets running h
    rw [State.o_of_steady (s.resetEffect_steady h ..) rfl] at count
    exact ⟨s.resetDone, rfl, result, ended, active, shadow, count⟩
  · exact fun s idle => congrArg Host.Outcome.next (s.resetDone_of_idle idle)

end Sys2Proof.Machine
end

section
/-! SUPPORT. What a release by the island leaves of the meter, and a metering reset (O21, R57). -/

namespace Sys2Proof.Machine

/-- The energy registers: the eight of the AC totals, the two of DC, and those of the phases (R402, R422). -/
def energyKeys : List Nat := (List.range 8).map (Obj.acImport + ·) ++ [Obj.dcImport, Obj.dcExport] ++ phaseRegs

/-- An energy register's key, by Index and Sub. -/
theorem energyKeys_bounds : ∀ k ∈ energyKeys, 0x7000 ≤ k / 256 ∧ k / 256 ≤ 0x7003 ∧ k % 256 ≤ 10 := by decide

/-- What of the meter a release must leave: the blocks, what the meter holds, and the energy registers. -/
def State.books (s : State) : List Host.Cell × MtrX × (Nat → Int) := (s.mem, s.mtr, fun k => if k ∈ energyKeys then s.o k else 0)

section
variable {s t : State}

theorem State.mem_of_books (h : t.books = s.books) : t.mem = s.mem := congrArg (fun b => b.1) h
theorem State.mtr_of_books (h : t.books = s.books) : t.mtr = s.mtr := congrArg (fun b => b.2.1) h

theorem State.o_of_books (h : t.books = s.books) {k : Nat} (hk : k ∈ energyKeys) : t.o k = s.o k := by
  simpa [State.books, hk] using congrFun (congrArg (fun b => b.2.2) h) k
end

section
variable (s : State)

/-! ## A release by the island -/

/-- A write of an object that is no energy register. -/
@[simp] theorem State.put_books {i j : Nat} (v : Int) (hj : j < 256) (h : i < 0x7000 ∨ 0x7003 < i ∨ 10 < j) :
    (s.put (key i j) v).books = s.books := by
  have other : key i j ∉ energyKeys := fun hk => by
    obtain ⟨lo, hi, sub⟩ := energyKeys_bounds _ hk
    unfold key at lo hi sub
    omega
  refine congrArg (fun o => (s.mem, s.mtr, o)) (funext fun k => ?_)
  split
  · next hk => exact s.o_put_other v fun h => other (h ▸ hk)
  · rfl

@[simp] theorem State.incSat_books {i j : Nat} (hj : j < 256) (h : i < 0x7000 ∨ 0x7003 < i ∨ 10 < j) : (s.incSat (key i j)).books = s.books :=
  s.put_books _ hj h

@[simp] theorem State.chMod_books (c : Nat) (f : ChanX → ChanX) : (s.chMod c f).books = s.books := rfl
@[simp] theorem State.supMod_books (k : Nat) (f : SupplyX → SupplyX) : (s.supMod k f).books = s.books := rfl
@[simp] theorem State.setGs_books (n : Nat) (d : SupplyDrive) : (s.setGs n d).books = s.books := rfl
@[simp] theorem State.fresh_books : s.fresh.books = s.books := rfl

@[simp] theorem State.log_books (kind code inst a b : Nat) : (s.log kind code inst a b).books = s.books :=
  State.put_books _ _ (by omega) (by omega)

theorem State.conductionEnds_books (c f : Nat) : (s.conductionEnds c f).books = s.books := by
  unfold State.conductionEnds
  split
  · rfl
  · simp (disch := omega) [apply_ite State.books]

theorem State.channelFree_books (n : Nat) : (s.channelFree n).books = s.books := by
  have off : (s.setHb n .pulseOff).books = s.books := State.conductionEnds_books ..
  simp (disch := omega) [State.channelFree, off]

theorem State.soLow_books (st n : Nat) : (s.soLow st n).books = s.books := by
  simp (disch := omega) [State.soLow]

@[simp] theorem State.gsPut_books (k st : Nat) : (s.gsPut k st).books = s.books := by
  simp (disch := omega) [State.gsPut, State.supplyReady, apply_ite State.books]

@[simp] theorem State.gsRegulate_books (k : Nat) : (s.gsRegulate k).books = s.books := by
  simp (disch := omega) [State.gsRegulate]

theorem State.leaveShow_books : s.leaveShow.books = s.books := by
  simp (disch := omega) [State.leaveShow]

theorem State.nextPair_books (fuel : Nat) : (s.nextPair fuel).books = s.books := by
  induction fuel generalizing s with
  | zero => rfl
  | succ fuel ih =>
    unfold State.nextPair
    split
    · rfl
    · next n rest _ =>
      extract_lets t u e
      have ht : t.books = s.books := rfl
      split
      · exact (ih t).trans ht
      · have hu : u.books = s.books := (State.forAll_keeps (fun k t => State.gsPut_books t k 1) t).trans ht
        exact (State.leaveShow_books _).trans hu

theorem State.releaseSupplies_books (channels : List Nat) : (s.releaseSupplies channels).books = s.books := by
  unfold State.releaseSupplies State.startSupplies
  extract_lets ks t q src u
  have ht : t.books = s.books := State.forAll_keeps (fun k t => by simp [apply_ite State.books]) s
  have hu : u.books = s.books := ht
  split
  · exact hu
  · exact (u.nextPair_books 25).trans hu

theorem State.releaseUnheld_books : s.releaseUnheld.books = s.books := by
  unfold State.releaseUnheld
  split
  · rfl
  · extract_lets hbs t src u gs v sos w x
    have ht : t.books = s.books := State.forAll_keeps (fun n t => State.channelFree_books t n) s
    have hv : v.books = u.books := State.forAll_keeps (fun g t => by simp (disch := omega)) u
    have hw : w.books = v.books := State.forAll_keeps (fun n t => State.soLow_books t 1 n) v
    have hx : x.books = s.books := (w.releaseSupplies_books hbs).trans (hw.trans (hv.trans ht))
    clear_value x
    split
    · exact hx
    · exact hx

theorem State.resetEnds_books (cls inst : Nat) : (s.resetEnds cls inst).books = s.books := by
  unfold State.resetEnds
  extract_lets freed src md t sos u
  have ht : t.books = s.books := rfl
  have hu : u.books = s.books := (State.forAll_keeps (fun n t => State.soLow_books t 1 n) t).trans ht
  clear_value u
  split
  · exact hu
  · exact u.releaseUnheld_books.trans hu

/-! ## A metering reset -/

/-- What a metering reset begins afresh: the samples, the means and the DC sums of the present window, and power quality (R56). -/
def MtrX.afresh (m : MtrX) : MtrX :=
  { m with samples := [], lastTick := none, means := [0, 0, 0, 0, 0, 0], settled := 0, dcSum := 0, dcVolts := 0, dcAmps := 0, dcCount := 0,
           fullScale := List.replicate 8 0, pq := List.replicate 3 {} }

/-- Of the meter a reset changes its working values alone (R57). -/
theorem State.meteringReset_books (h : s.md.resetClass = 14) : s.resetDone.books = (s.mtrMod MtrX.afresh).books := by
  rw [s.resetDone_of_running (by omega), State.log_books, State.incSat_books _ (by omega) (by omega), State.put_books _ _ (by omega) (by omega),
    State.resetEnds_books, h]
  exact State.put_books _ _ (by omega) (by omega)

end

/-- Settles O21: what a metering reset clears is none of the books (`MtrX.afresh`), and the release after it touches pins and supplies. -/
theorem meteringResetKeepsTheEnergy : Obligations.MeteringResetKeepsTheEnergy := by
  intro s h
  obtain ⟨result, ended, _⟩ := s.resetDone_record (by omega)
  have books := s.meteringReset_books h
  have mtr : s.resetDone.mtr = s.mtr.afresh := State.mtr_of_books books
  refine ⟨s.resetDone, rfl, result, ended, fun k hk => ⟨(State.o_of_books books hk).trans rfl, ?_⟩⟩
  rw [mtr, State.mem_of_books books]
  exact ⟨rfl, rfl, rfl, rfl, rfl, rfl, rfl, rfl, rfl, rfl, rfl⟩

end Sys2Proof.Machine
end

section
/-! SUPPORT. What a pass through M0 leaves of the device records beside its own steps, and the starts of a pass (O15). One rule for each
operation. `-implicitDefEqProofs` stands where a law that is true by `rfl` serves inside a loop's body. -/

namespace Sys2Proof.Machine

section
variable (s : State)

/-! ## A fault raised -/

theorem State.nv_of_control {s t : State} (h : t.control = s.control) : t.nv = s.nv := congrArg Control.nv h

@[simp] theorem State.nv_forAll {l : List Nat} {f : Nat → State → State} (hf : ∀ n t, (f n t).nv = t.nv) (s : State) :
    (s.forAll l f).nv = s.nv := State.forAll_keeps hf s

@[simp] theorem State.nv_foldl {β : Type} {l : List β} {f : State → β → State} (hf : ∀ t a, (f t a).nv = t.nv) (s : State) :
    (l.foldl f s).nv = s.nv := State.foldl_keeps hf s

@[simp] theorem State.incSat_nv (k : Nat) : (s.incSat k).nv = s.nv := rfl
@[simp] theorem State.eslMod_nv (n : Nat) (f : EslX → EslX) : (s.eslMod n f).nv = s.nv := rfl
@[simp] theorem State.note_nv (code inst : Nat) : (s.note code inst).nv = s.nv := State.nv_of_control (s.note_control code inst)

theorem State.undoSwap_nv (code : Nat) : (s.undoSwap code).nv = s.nv := by
  unfold State.undoSwap
  split
  · rfl
  · split
    · next u _ _ =>
      extract_lets t v
      have ht : t.nv = s.nv := State.foldl_keeps (p := State.nv) (fun _ _ => by rfl) (s.before u)
      clear_value t
      have hv : v.nv = t.nv := State.forAll_keeps (p := State.nv) (fun _ _ => by rfl) t
      exact hv.trans ht
    · rfl

theorem State.cancelSwap_nv (code : Nat) : (s.cancelSwap code).nv = s.nv := by
  unfold State.cancelSwap
  split
  · extract_lets scopes t
    show t.nv = s.nv
    exact State.forAll_keeps (p := State.nv) (fun _ _ => by rfl) s
  · rfl

theorem State.trigger_nv (code inst : Nat) (masked : Bool) : (s.trigger code inst masked).nv = s.nv := by
  unfold State.trigger
  split
  · rfl
  · extract_lets t u _ v
    have ht : t.nv = s.nv := show s.swapLoses.nv = s.nv by rw [State.swapLoses, State.cancelSwap_nv, State.undoSwap_nv]
    clear_value t
    have hu : u.control = t.control := by
      simp only [u, State.planAll_control, apply_ite State.control, State.mtrClose_control, ite_self]
    clear_value u
    have hv : v.control = u.control := rfl
    calc ((v.holdBy code).enterM9 code).nv
        = (v.holdBy code).nv := congrArg Aside.nv (State.enterM9_aside ..)
      _ = t.nv := State.nv_of_control ((v.holdBy_control code).trans (hv.trans hu))
      _ = s.nv := ht

theorem State.triggerSafe_nv (code inst : Nat) (masked : Bool) : (s.triggerSafe code inst masked).nv = s.nv := by
  unfold State.triggerSafe
  split
  · rfl
  · extract_lets t fns u v
    have ht : t.nv = s.nv := by
      simp only [t, State.swapYields, apply_ite State.nv, State.cancelSwap_nv, State.undoSwap_nv, ite_self]
    clear_value t
    have hv : v.control = u.control := (State.holdBy_control ..).trans
      (State.foldl_keeps (p := State.control) (fun t f => State.planFn_control t f) u)
    exact (State.nv_of_control hv).trans ht

@[simp] theorem State.raise_nv (code inst : Nat) : (s.raise code inst).nv = s.nv := by
  have hc : (s.collect code inst false).nv = s.nv := State.nv_of_control (s.collect_control code inst false)
  unfold State.raise State.raiseWith
  split
  · rfl
  · split
    · rfl
    · extract_lets cls t
      split
      · exact (State.trigger_nv ..).trans hc
      · split
        · exact (State.triggerSafe_nv ..).trans hc
        · exact hc

/-! ## First use of the functions (R53) -/

@[simp] theorem State.openInterval_nv (bound : Nat) : (s.openInterval bound).nv = s.nv := by simp [State.openInterval]

@[simp] theorem State.mtrCloseAt_nv (stop flags : Nat) : (s.mtrCloseAt stop flags).nv = s.nv := by
  unfold State.mtrCloseAt
  extract_lets t
  have ht : t.nv = s.nv := State.nv_of_control (s.mtrInterval_control stop flags)
  clear_value t
  split
  · rfl
  · split
    · exact ht
    · exact ht

@[simp] theorem State.mtrRestore_nv : s.mtrRestore.nv = s.nv := by
  unfold State.mtrRestore
  extract_lets keep s1 ps s2
  have h2 : s2.nv = s.nv := by
    unfold s2
    split
    · rfl
    · exact State.nv_foldl (fun _ _ => State.put_nv ..) s1
  clear_value s2
  split
  · exact h2
  · extract_lets s3 s4 bad s5 fl s6
    have h3 : s3.nv = s.nv := (State.nv_forAll (fun _ _ => State.put_nv ..) s2).trans h2
    clear_value s3
    have h4 : s4.nv = s.nv := by simp only [s4, State.put_nv, h3]
    clear_value s4
    have h5 : s5.nv = s.nv := by simp only [s5, apply_ite State.nv, State.note_nv, h4, ite_self]
    clear_value s5
    have h6 : s6.nv = s.nv := by simp only [s6, apply_ite State.nv, State.openInterval_nv, h5, ite_self]
    clear_value s6
    split <;> simp only [State.mtrCloseAt_nv, State.mtrMod_nv, h6]

@[simp] theorem State.setSourceSpeed_nv (t : Nat) (v : Int) : (s.setSourceSpeed t v).nv = s.nv := by
  have set (w : Int) : (s.setSpeed t w).nv = s.nv := State.nv_of_control (s.setSpeed_control t w)
  simp [State.setSourceSpeed, apply_ite State.nv, set]

@[simp] theorem State.tbEnable_nv (t : Nat) : (s.tbEnable t).nv = s.nv := by
  have off : (s.tbOff t).nv = s.nv := State.nv_of_control (s.tbOff_control t)
  simp [State.tbEnable, State.tbLocked, State.tbState, State.putAngle, apply_ite State.nv, off]

@[simp] theorem State.siStart_nv (n : Nat) : (s.siStart n).nv = s.nv := rfl

@[simp] theorem State.slotDerived_nv (n : Nat) : (s.slotDerived n).nv = s.nv := by
  unfold State.slotDerived
  extract_lets im
  cases im <;> simp

@[simp] theorem State.leaveSafety_nv (op : LeaveOp) : (s.leaveSafety op).nv = s.nv := by
  have hold (t : State) : (t.leaveHold op).nv = t.nv := rfl
  simp [State.leaveSafety, apply_ite State.nv, hold]

@[simp] theorem State.leaveAsk_nv (op : LeaveOp) : (s.leaveAsk op).1.nv = s.nv := by
  unfold State.leaveAsk
  split
  · exact s.leaveSafety_nv op
  · split <;> rfl

@[simp] theorem State.slotUp_nv (n : Nat) : (s.slotUp n).nv = s.nv := by simp [State.slotUp, apply_ite State.nv]

@[simp] theorem State.canStart_nv (c : Nat) : (s.canStart c).nv = s.nv := State.nv_of_control (s.canStart_control c)
@[simp] theorem State.sensorsFollow_nv : s.sensorsFollow.nv = s.nv := State.nv_of_control s.sensorsFollow_control
@[simp] theorem State.xgFollow_nv (p : Nat) : (s.xgFollow p).nv = s.nv := congrArg (fun l => l.2.nv) (s.xgFollow_lasting p)
@[simp] theorem State.t1sFollow_nv (t : Nat) : (s.t1sFollow t).nv = s.nv := by simp [State.t1sFollow, apply_ite State.nv]
@[simp] theorem State.substitutes_nv (e : Nat) : (s.substitutes e).nv = s.nv := State.nv_of_control (s.substitutes_control e)

@[simp] theorem State.requestLost_nv (m : Nat) (lost : Bool) : (s.requestLost m lost).nv = s.nv := by
  simp [State.requestLost, apply_ite State.nv]

@[simp] theorem State.eslHolds_nv (e : Nat) (holds : Bool) : (s.eslHolds e holds).nv = s.nv := by
  simp [State.eslHolds, apply_ite State.nv]

@[simp] theorem State.eslEnable_nv (e : Nat) : (s.eslEnable e).nv = s.nv := by simp [State.eslEnable, apply_ite State.nv]
@[simp] theorem State.eslFollow_nv : s.eslFollow.nv = s.nv := by simp -implicitDefEqProofs [State.eslFollow, apply_ite State.nv]
@[simp] theorem State.monStart_nv : s.monStart.nv = s.nv := rfl
@[simp] theorem State.safetyCrc_nv : s.safetyCrc.nv = s.nv := by simp [State.safetyCrc, apply_ite State.nv]
@[simp] theorem State.loadStateRegion_nv (e : Nat) : (s.loadStateRegion e).nv = s.nv := rfl
@[simp] theorem State.firstUse_nv : s.firstUse.nv = s.nv := by simp -implicitDefEqProofs [State.firstUse]

/-! ## The steps of a pass (R69) -/

@[simp] theorem State.commitNow_nv (g : Nat) : (s.commitNow g).nv = s.nv := by
  unfold State.commitNow State.promote
  split
  · simp [apply_ite State.nv]
  · rfl

theorem State.lvIsoShadow_nv : s.lvIsoShadow.nv = s.nv := by simp [State.lvIsoShadow, apply_ite State.nv]

@[simp] theorem State.lvEnterM2_nv : s.lvEnterM2.nv = s.nv := by
  unfold State.lvEnterM2 State.lvBegin
  split
  · extract_lets t now u gs
    have hu : u.nv = s.nv := rfl
    clear_value u
    split
    · exact (State.nv_forAll (fun g t => by simp [State.runGroup, apply_ite State.nv]) _).trans (u.lvIsoShadow_nv.trans hu)
    · rfl
  · rfl

/-- What the starts of a pass report, and every step of it keeps: the level of RESET_N, the main domain's power, the length of the low
time, and the count of passes (R66, R69). -/
def State.carried (s : State) : Bool × Bool × Nat × Nat := (s.plat.resetN, s.plat.mainOn, s.plat.resetLowMs, s.nv.chrysalisCount)

theorem State.carried_of_plat_nv {s t : State} (hp : t.plat = s.plat) (hn : t.nv = s.nv) : t.carried = s.carried := by
  rw [State.carried, State.carried, hp, hn]

@[simp] theorem State.put_carried (k : Nat) (v : Int) : (s.put k v).carried = s.carried := rfl

@[simp] theorem State.raise_carried (code inst : Nat) : (s.raise code inst).carried = s.carried :=
  State.carried_of_plat_nv (s.raise_plat code inst) (s.raise_nv code inst)

@[simp] theorem State.bootFail_carried (code : Nat) : (s.bootFail code).carried = s.carried := s.raise_carried code 0

theorem State.sealStep_carried (env : BootEnv) : (s.sealStep env).1.carried = s.carried := by
  unfold State.sealStep
  extract_lets fl src t ch src' u
  have ht : t.carried = s.carried := by unfold t; split <;> rfl
  have hu : u.carried = s.carried := ht
  clear_value u
  split
  · simpa using hu
  · split
    · simpa using hu
    · exact hu

theorem State.firmwareStep_carried (env : BootEnv) : (s.firmwareStep env).1.carried = s.carried := by
  unfold State.firmwareStep
  extract_lets want src t
  have ht : t.carried = s.carried := rfl
  have active (n : Nat) : ({ t with nv := { t.nv with activeSlot := n } } : State).carried = s.carried := rfl
  clear_value t
  split
  · exact active want
  · split
    · simpa using active (1 - want)
    · simpa using ht

theorem State.metrologyStep_carried (env : BootEnv) : (s.metrologyStep env).carried = s.carried := by
  unfold State.metrologyStep
  extract_lets src t
  have ht : t.carried = s.carried := rfl
  clear_value t
  split
  · exact ht
  · exact (t.raise_carried FC.bootMtrimage 0).trans ht

theorem State.testSteps_carried (env : BootEnv) : (s.testSteps env).1.carried = s.carried := by
  unfold State.testSteps
  split
  · simp
  · split
    · simp
    · rfl

theorem State.bootSteps_carried (env : BootEnv) : (s.bootSteps env).1.carried = s.carried := by
  unfold State.bootSteps State.imageSteps
  extract_lets r q
  have hr : r.1.carried = s.carried := s.sealStep_carried env
  have hp : r.1.pllUp.carried = s.carried := hr
  have hq : q.1.carried = s.carried := (State.firmwareStep_carried _ env).trans hp
  clear_value r q
  split
  · exact hr
  · split
    · simpa using hr
    · split
      · exact hq
      · rw [State.testSteps_carried, State.metrologyStep_carried, hq]

theorem State.unswap_carried : s.unswap.carried = s.carried :=
  State.carried_of_plat_nv s.unswap_plat (State.forAll_keeps (p := State.nv) (fun _ _ => by rfl) _)

theorem State.configStep_carried (env : BootEnv) : (s.configStep env).carried = s.carried := by
  unfold State.configStep
  extract_lets bad t diff u src v
  have ht : t.carried = s.carried := State.forAll_keeps (fun n t => t.raise_carried FC.bootCfgcrc n) _
  clear_value t
  have hu : u.carried = s.carried := by unfold u; split <;> exact ht
  clear_value u
  have hv : v.carried = s.carried := by
    unfold v
    split
    · exact hu
    · have broken (n : Nat) : ({ u with nv := { u.nv with sealBreakCount := n } } : State).carried = s.carried := hu
      exact (State.raise_carried _ FC.bootSealbreak 0).trans (broken _)
  clear_value v
  exact (State.forAll_keeps (p := State.carried) (fun _ _ => by rfl) v).trans hv

theorem State.islandReadout_carried : s.islandReadout.carried = s.carried := by
  unfold State.islandReadout
  extract_lets t u src1 src2
  have ht : t.carried = s.carried := State.foldl_keeps (fun t r => by rfl) s
  exact ht

theorem State.endReady_carried : s.endReady.carried = s.carried := by
  refine State.carried_of_plat_nv s.endReady_plat ?_
  unfold State.endReady
  extract_lets src t u
  have hu : u.nv = s.nv := State.forAll_keeps (p := State.nv) (fun _ _ => by rfl) t
  clear_value u
  rw [State.lvEnterM2_nv, State.nv_of_control (State.startSupplies_control ..), State.firstUse_nv, hu]

theorem State.endCocoon_carried : s.endCocoon.carried = s.carried := by
  refine State.carried_of_plat_nv s.endCocoon_plat ?_
  unfold State.endCocoon
  extract_lets t u v w x y
  have kept {l : List Nat} {f : Nat → State → State} (hf : ∀ n t, (f n t).nv = t.nv) (a : State) : (a.forAll l f).nv = a.nv := State.forAll_keeps hf a
  have hw : w.nv = s.nv :=
    (kept (fun _ _ => by rfl) v).trans ((kept (fun _ _ => by rfl) u).trans ((kept (fun _ _ => by rfl) t).trans (kept (fun _ _ => by rfl) s)))
  clear_value w
  have hx : x.nv = s.nv := (State.firstUse_nv _).trans ((kept (fun _ _ => by rfl) w).trans hw)
  clear_value x
  have hy : y.nv = s.nv := hx
  clear_value y
  split
  · exact hy
  · exact hy

theorem State.bootEnd_carried (warm : Bool) : (s.bootEnd warm).carried = s.carried := by
  unfold State.bootEnd
  extract_lets m cause t u
  have hu : u.carried = s.carried := rfl
  clear_value u
  split
  · exact u.endCocoon_carried.trans hu
  · exact u.endReady_carried.trans hu

theorem State.passEnd_carried (passType : Nat) (env : BootEnv) : (s.passEnd passType env).carried = s.carried := by
  have show_ (t : State) : (t.bootShow passType env).carried = t.carried := rfl
  rw [State.passEnd, State.bootEnd_carried, show_, State.islandReadout_carried, State.configStep_carried, State.unswap_carried]

/-- A pass powers the main domain and is counted, however it ends (R69). -/
theorem State.chrysalis_carried (passType : Nat) (env : BootEnv) : (s.chrysalis passType env).carried =
    (s.plat.resetN, true, s.plat.resetLowMs, min (s.nv.chrysalisCount + 1) 4294967295) := by
  unfold State.chrysalis
  extract_lets r
  have hr : r.1.carried = (s.plat.resetN, true, s.plat.resetLowMs, min (s.nv.chrysalisCount + 1) 4294967295) :=
    (s.passStart passType env).bootSteps_carried env
  split
  · exact hr
  · exact (r.1.passEnd_carried passType env).trans hr

/-! ## The starts of a pass -/

/-- A rise of RESET_N reports the low time (R66, R69). -/
theorem State.resetRise_carried (up : s.plat.vddCoc = true) (low : s.plat.resetN = false) (ms : Nat) (env : BootEnv) :
    (s.resetRise ms env).carried = (true, true, min ms 4294967295, min (s.nv.chrysalisCount + 1) 4294967295) := by
  have amended : (s.amendRecord FC.bootMainreset ms).nv = s.nv := by
    unfold State.amendRecord
    split <;> rfl
  unfold State.resetRise
  rw [if_neg (by simp [up, low])]
  extract_lets long t first src src' u
  have hu : u.plat.resetN = true ∧ u.plat.resetLowMs = min ms 4294967295 ∧ u.nv = s.nv := ⟨rfl, rfl, amended⟩
  clear_value u
  obtain ⟨high, time, nv⟩ := hu
  rw [State.chrysalis_carried, high, time, nv]

/-- An enabled wake source in M1 starts a warm pass and names itself (R41). -/
theorem State.wake_starts {bit : Nat} (doze : s.mode = 1) (high : s.plat.resetN = true) (enabled : (s.oN Obj.wakeSourceEnable).testBit bit = true)
    (cause : Nat) (env : BootEnv) :
    (s.wake bit cause true env).plat.mainOn = true ∧ (s.wake bit cause true env).oN Obj.lastWakeCause = cause := by
  have go : s.wake bit cause true env = (s.chrysalis 2 env).put Obj.lastWakeCause cause := if_pos ⟨doze, high, rfl, enabled⟩
  rw [go]
  exact ⟨congrArg (fun c => c.2.1) (s.chrysalis_carried 2 env), by simp⟩

end

/-- Settles O15: every step of a pass keeps what its start has set (`chrysalis_carried`); a wake names itself after it. -/
theorem riseAndWakesStartAPass : Obligations.RiseAndWakesStartAPass := by
  refine ⟨?_, ?_, ?_, ?_⟩
  · intro s ms env up low
    have h := s.resetRise_carried up low ms env
    unfold State.carried at h
    obtain ⟨high, on, time, count⟩ := by simpa only [Prod.mk.injEq] using h
    exact ⟨s.resetRise ms env, rfl, high, on, time, count⟩
  · exact fun s pin env doze high enabled => ⟨_, rfl, s.wake_starts doze high enabled (pin.val + 1) env⟩
  · intro s c env doze high enabled can
    have on : (s.cN (Obj.canWakeEnable c.val) == 1) = true := by simp [can]
    refine ⟨s.wake 4 5 true env, ?_, s.wake_starts doze high enabled 5 env⟩
    exact congrArg (fun b => Host.Outcome.next (s.wake 4 5 b env)) on
  · intro s env doze high enabled timer
    have on : (s.oN Obj.wakeTimer != 0) = true := by simp [timer]
    refine ⟨s.wake 5 6 true env, ?_, s.wake_starts doze high enabled 6 env⟩
    exact congrArg (fun b => Host.Outcome.next (s.wake 5 6 b env)) on

end Sys2Proof.Machine
end

section
/-! SUPPORT. A request for M9 that undoes a swap of its own tick (O18). -/

namespace Sys2Proof.Machine

/-- A mode number is evaluated, and 0xFF stored (R34). -/
theorem exec_modeRequest_of_mode {s : State} {v : Byte} {role : Role} (may : s.MayWrite role 2 Obj.modeRequest)
    (mode : (1 ≤ v.toNat ∧ v.toNat ≤ 11) ∨ v.toNat = 0xFF) : exec (.modeRequest v role) s = .next (s.askMode v.toNat role) :=
  congrArg Host.Outcome.next ((s.accessAt_of_mayWrite may _).trans (if_pos mode))

/-- M3 with a swap of the present tick whose saved objects name ModeState, at M11. A swap
saves no such object, but `State.Sound` holds all the same. -/
def modeSaved : State :=
  { bench 3 [] [] with
    sw := { undo := some { tick := 0, map := 0, active := [], objs := [(Obj.modeState, 11)], equal := [], unsaved := [] } } }

/-- A request for M9 is taken there. -/
theorem modeSaved_asks : modeSaved.MayWrite .integrator 2 Obj.modeRequest ∧ (modeSaved.put Obj.modeRequest 9).modeCode 9 .integrator = 0 ∧
    modeSaved.mode = 3 := by decide +kernel

/-- The swap is undone first (R85), which writes ModeState back; from M11 no transition to M9 is made (R50). -/
theorem modeSaved_stays : (modeSaved.askMode 9 .integrator).mode = 11 := by decide +kernel

/-- Refutes O18: its clause of the request for M9 holds for every state, also where undoing a swap of this tick (R85) writes ModeState back
to a mode out of which the model enters no M9; `modeSaved` ends in M11. -/
theorem not_modeRequestIsAnswered : ¬ Obligations.ModeRequestIsAnswered := by
  intro h
  obtain ⟨_, _, _, _, _, toM9, _⟩ := h
  obtain ⟨may, code, mode⟩ := modeSaved_asks
  obtain ⟨t, answer, m9, _⟩ := toM9 modeSaved .integrator may code (.inl (by omega))
  have asked : exec (.modeRequest 9 .integrator) modeSaved = .next (modeSaved.askMode 9 .integrator) :=
    exec_modeRequest_of_mode may (by decide)
  obtain rfl : modeSaved.askMode 9 .integrator = t := Host.Outcome.next.inj (asked.symm.trans answer)
  rw [modeSaved_stays] at m9
  cases m9

end Sys2Proof.Machine
end

section
/-! SUPPORT. The active set of every scope (R80), and what no command touches of the queue, the supplies and the latch (O4, O6). -/

namespace Sys2Proof.Machine

/-- The active set is `a`, and no swap of this very tick is left that an event could undo (R85). -/
def ActiveIs (a : Store) (c : Cfg) : Prop := c.active = a ∧ ∀ u, c.undo = some u → u.tick ≠ c.tick

/-- With no swap of this tick there is nothing to undo, and a swap that settles leaves the sets as they are. -/
theorem undoable_activeIs (a : Store) : Undoable (fun _ c _ => ActiveIs a c) where
  undo _ _ _ u _ h := absurd rfl (h.2 u rfl)
  settle _ _ _ _ _ h := ⟨h.1, nofun⟩

theorem active_of_next {a : Store} {u : State} (hu : u.active = a) :
    ∀ t : State, (.next u : Host.Outcome State Fault Refusal) = .next t → t.active = a := by
  rintro _ ⟨⟩
  exact hu

/-- Of the commands of supplies, reset, clocks, wakes and mode transitions, those that start no pass through M0 leave the active set. -/
theorem exec_active_of_mayPower {s : State} {c : Instr} (h : s.Good (fun _ c _ => ActiveIs s.active c)) (hp : c.mayPower = true)
    (hc : c.mayConfigure = false) : ∀ t, exec c s = .next t → t.active = s.active := by
  have hQ : Undoable (fun _ c _ => ActiveIs s.active c) := undoable_activeIs s.active
  cases c with
  | resetNFall => exact active_of_next (State.resetFall_good h ..).plant.1
  | vddCocLoss => exact active_of_next ((State.put_active ..).trans s.cocLost_stores.1)
  | pfailNFall => exact active_of_next (State.pfailFall_good h).plant.1
  | pfailNRise => exact active_of_next rfl
  | clockLoss => exact active_of_next (State.clockLost_good h ..).plant.1
  | modeTransitionComplete => exact active_of_next (State.completeMode_good h).plant.1
  | powerOn | resetNRise | wakePinEdge | canWake | wakeTimerExpiry => cases hc
  | _ => cases hp

/-- Settles O4: a command that is neither a swap nor a start of a pass keeps `ActiveIs`, which a swap of an earlier tick cannot disturb. -/
theorem activeSetChangesOnlyBySwapOrPass : Obligations.ActiveSetChangesOnlyBySwapOrPass := by
  intro c s t h hc settled he
  have good : s.Good (fun _ c _ => ActiveIs s.active c) := h.good ⟨rfl, settled⟩
  cases hp : c.mayPower
  · exact (exec_good (undoable_activeIs s.active) good hp hc t he).plant.1
  · exact exec_active_of_mayPower good hp hc t he

/-- Settles O6: the queue by the law of every command, the supplies and the latch by that of the commands that neither power nor configure. -/
theorem commandsLeaveTheQueueAndThePlatform : Obligations.CommandsLeaveTheQueueAndThePlatform := by
  constructor
  · intro c s t h he
    exact (exec_good_of_queue (P := (· = s.pending)) (h.good rfl) c t he).plant
  · intro c s t h hp hc he
    exact (exec_good (Q := fun w _ _ => w = s.plat) undoable_const (h.good rfl) hp hc t he).plant

end Sys2Proof.Machine
end

section
/-! SUPPORT. The seal reference (R63) and the arming of a swap (R83) (O17, O22). -/

namespace Sys2Proof.Machine

section
variable (s : State)

/-! ## Access (R430, R438) -/

/-- A role below the rank is refused with 0x05, before anything else is looked at. -/
theorem State.accessAt_of_rank_lt {role : Role} {rank k : Nat} {present : Bool} (up : s.up = true) (low : roleRank role < rank)
    (f : State → State) : s.accessAt role rank k present f = s.put Obj.roaLastError 0x05 := by
  unfold State.accessAt
  rw [if_neg (by simp [up]), if_pos low]
  rfl

/-! ## The reference (R63) -/

theorem State.commission_of_other {v : Nat} (h : v ≠ s.plat.sealLatch) : s.commission v = s.put Obj.roaLastError 0x06 := if_pos h

theorem State.commission_of_mode {v : Nat} (h : v = s.plat.sealLatch) (hm : s.mode ≠ 2) : s.commission v = s.put Obj.roaLastError 0x0A := by
  unfold State.commission
  rw [if_neg (not_not.mpr h), if_pos hm]
  rfl

theorem State.commission_of_latch {v : Nat} (h : v = s.plat.sealLatch) (hm : s.mode = 2) :
    s.commission v = (({ s with nv := { s.nv with sealReference := v } } : State).put Obj.sealReference v).put Obj.sealMismatchMap 0 := by
  unfold State.commission
  rw [if_neg (not_not.mpr h), if_neg (not_not.mpr hm)]

end

/-- Settles O17: each check of the commissioning in its order, behind the access check. -/
theorem sealCommissionSetsTheReference : Obligations.SealCommissionSetsTheReference := by
  have asked {s : State} {v : Byte} {role : Role} (may : s.MayWrite role 5 Obj.sealCommission) :
      exec (.sealCommission v role) s = .next (s.commission v.toNat) := congrArg Host.Outcome.next (s.accessAt_of_mayWrite may _)
  refine ⟨?_, ?_, ?_, ?_⟩
  · intro s v role may latched mode
    rw [asked may, s.commission_of_latch latched mode]
  · intro s v role may other
    rw [asked may, s.commission_of_other other]
  · intro s v role may latched mode
    rw [asked may, s.commission_of_mode latched mode]
  · exact fun s v role up low => congrArg Host.Outcome.next (s.accessAt_of_rank_lt up low _)

section
variable (s : State)

/-! ## Objects written in a loop -/

/-- A loop that writes one value to many objects. -/
theorem State.o_forAll_put (l : List Nat) (f : Nat → Nat) (v : Int) (k : Nat) :
    (s.forAll l (fun n => State.put (f n) v)).o k = if ∃ n ∈ l, k = f n then v else s.o k := by
  induction l generalizing s with
  | nil => simp [State.forAll]
  | cons a l ih =>
    refine (ih (s.put (f a) v)).trans ?_
    by_cases hl : ∃ n ∈ l, k = f n
    · simp [hl]
    · simp [hl, State.o_put]

/-- A write of an object of the list. -/
theorem State.OnlyObjects.put {ks : List Nat} {s t : State} (h : s.OnlyObjects ks t) {k : Nat} (hk : k ∈ ks) (v : Int) :
    s.OnlyObjects ks (t.put k v) := by
  obtain ⟨rest, objs⟩ := h
  refine ⟨?_, fun j hj => ?_⟩
  · rw [rest]
    rfl
  · have other : j ≠ k := fun hjk => hj (hjk ▸ hk)
    exact (t.o_put_other v other).trans (objs j hj)

theorem State.onlyObjects_refl (ks : List Nat) : s.OnlyObjects ks s := ⟨rfl, fun _ _ => rfl⟩

/-- A loop each of whose rounds writes an object of the list. -/
theorem State.OnlyObjects.forAll_put {ks l : List Nat} {s t : State} (h : s.OnlyObjects ks t) {f : Nat → Nat} {v : Nat → Int}
    (hf : ∀ n ∈ l, f n ∈ ks) : s.OnlyObjects ks (t.forAll l (fun n => State.put (f n) (v n))) := by
  induction l generalizing t with
  | nil => exact h
  | cons a l ih => exact ih (h.put (hf a List.mem_cons_self) _) fun n hn => hf n (List.mem_cons_of_mem a hn)

/-! ## Arming (R83) -/

/-- The objects that an arming may write. -/
def armObjs (map : Nat) : List Nat :=
  Obj.swapResult :: ((scopesOf map).map Obj.shadowState ++ (List.range 8).map Obj.maxOccurrencesPerTick)

theorem armObjs_cases {map k : Nat} (h : k ∈ armObjs map) :
    k = Obj.swapResult ∨ (∃ n ∈ scopesOf map, k = Obj.shadowState n) ∨ ∃ n < 8, k = Obj.maxOccurrencesPerTick n := by
  simpa [armObjs, eq_comm] using h

/-- The swap's own objects but its result are none that an arming writes. -/
theorem swapObj_notMem_armObjs {map j : Nat} (hj : j < 256) (h8 : j ≠ 8) : key 0x2010 j ∉ armObjs map := fun h => by
  rcases armObjs_cases h with h | ⟨n, hn, h⟩ | ⟨n, hn, h⟩ <;> simp only [Obj.swapResult, Obj.shadowState, Obj.maxOccurrencesPerTick, key] at h <;> omega

/-- Of the check's counts none is written beside those of the eight lists (R104). -/
theorem State.crowdShown_onlyObjects (map : Nat) : s.OnlyObjects (armObjs map) (s.crowdShown map) := by
  refine (s.onlyObjects_refl _).forAll_put fun n hn => ?_
  have := List.mem_range.mp (List.mem_filter.mp hn).1
  simp [armObjs, this]

/-- The code 0x03 names its conflict. -/
theorem State.armCode_ne_three {c : Nat} (h : s.armCode = (c, none)) : c ≠ 3 := by
  rintro rfl
  unfold State.armCode at h
  extract_lets map sel b t v at h
  iterate 5
    split at h
    · cases h
  split at h <;> cases h

/-- The objects as an arming leaves them. -/
def State.armShown (s : State) : State :=
  ((s.crowdShown (s.oN Obj.swapScopeMap)).put Obj.swapResult 1).forAll (scopesOf (s.oN Obj.swapScopeMap)) (fun n => State.put (Obj.shadowState n) 3)

theorem State.armShown_onlyObjects : s.OnlyObjects (armObjs (s.oN Obj.swapScopeMap)) s.armShown := by
  refine ((s.crowdShown_onlyObjects _).put List.mem_cons_self 1).forAll_put fun n hn => ?_
  exact List.mem_cons_of_mem _ (List.mem_append_left _ (List.mem_map_of_mem hn))

theorem State.armShown_swapObj {j : Nat} (hj : j < 256) (h8 : j ≠ 8) : s.armShown.oN (key 0x2010 j) = s.oN (key 0x2010 j) :=
  congrArg Int.toNat (s.armShown_onlyObjects.2 _ (swapObj_notMem_armObjs hj h8))

theorem State.armShown_shadowState {n : Nat} (h : n ∈ scopesOf (s.oN Obj.swapScopeMap)) : s.armShown.o (Obj.shadowState n) = 3 :=
  (State.o_forAll_put ..).trans (if_pos ⟨n, h, rfl⟩)

theorem State.armShown_result : s.armShown.o Obj.swapResult = 1 := by
  have other : ¬ ∃ n ∈ scopesOf (s.oN Obj.swapScopeMap), Obj.swapResult = Obj.shadowState n := by
    rintro ⟨n, _, h⟩
    simp only [Obj.swapResult, Obj.shadowState, key] at h
    omega
  exact ((State.o_forAll_put ..).trans (if_neg other)).trans (State.o_put_same ..)

/-- With every check met the request is taken as its objects say. -/
theorem State.swapArm_of_met (unarmed : s.sw.armed = false) (met : s.armCode = (1, none)) :
    ∃ w : SwapX, s.swapArm = { s.armShown with sw := w } ∧ w.armed = true ∧ w.map = s.oN Obj.swapScopeMap ∧ w.boundary = s.oN Obj.swapBoundary := by
  refine ⟨s.swapArm.sw, ?_⟩
  unfold State.swapArm
  rw [if_neg (by simp [unarmed]), met]
  exact ⟨rfl, rfl, rfl, s.armShown_swapObj (j := 2) (by omega) (by omega)⟩

/-- A failed check but 0x03 and 0x04, which name a conflict, leaves its code alone. -/
theorem State.swapArm_of_failed {c : Nat} (unarmed : s.sw.armed = false) (failed : s.armCode = (c, none)) (hc : c ≠ 1) :
    s.swapArm = (s.put Obj.swapResult c).log 7 (s.oN Obj.swapScopeMap) 0 c 0 := by
  have noConflict : ¬ (c = 1 ∨ c = 3) := not_or.mpr ⟨hc, s.armCode_ne_three failed⟩
  unfold State.swapArm
  rw [if_neg (by simp [unarmed]), failed]
  simp only [if_neg noConflict, if_neg hc]

theorem State.swapArm_of_armed (armed : s.sw.armed = true) : s.swapArm = s.put Obj.roaLastError 0x10 := if_pos armed

/-! ## Cancelling (R83) -/

theorem State.cancelSwap_result (armed : s.sw.armed = true) (code : Nat) : (s.cancelSwap code).o Obj.swapResult = code := by
  unfold State.cancelSwap
  rw [if_pos armed]
  exact (State.o_put_other _ _ (by decide)).trans (State.o_put_same ..)

theorem State.cancelSwap_mem (code : Nat) : (s.cancelSwap code).mem = s.mem := by
  unfold State.cancelSwap
  split
  · extract_lets scopes t
    show t.mem = s.mem
    exact State.forAll_keeps (p := State.mem) (fun _ _ => by rfl) s
  · rfl

/-- A swap that is cancelled leaves its code and nothing armed, and both sets as they were. -/
theorem State.cancelSwap_cancels (armed : s.sw.armed = true) (code : Nat) :
    (s.cancelSwap code).sw.armed = false ∧ (s.cancelSwap code).o Obj.swapResult = code ∧ (s.cancelSwap code).active = s.active ∧
      (s.cancelSwap code).shadow = s.shadow ∧ (s.cancelSwap code).mem = s.mem := by
  have sets := s.cancelSwap_steady code
  exact ⟨s.cancelSwap_armed code, s.cancelSwap_result armed code, congrArg Prod.fst sets, congrArg (fun c => c.2.1) sets, s.cancelSwap_mem code⟩

end

/-- Settles O22: an arming writes `armObjs` and the swap's record alone, a refusal its code, and a cancel leaves both sets. -/
theorem swapArmsOrIsRefused : Obligations.SwapArmsOrIsRefused := by
  have asked {s : State} {role : Role} (may : s.MayWrite role 3 Obj.swapCommand) : exec (.swapArm role) s = .next s.swapArm :=
    congrArg Host.Outcome.next (s.accessAt_of_mayWrite may _)
  refine ⟨?_, ?_, ?_, ?_, ?_⟩
  · intro s role may unarmed met
    obtain ⟨w, arms, armed, map, boundary⟩ := s.swapArm_of_met unarmed met
    obtain ⟨rest, objs⟩ := s.armShown_onlyObjects
    refine ⟨_, (asked may).trans (congrArg _ arms), armed, map, boundary, s.armShown_result, ?_, fun n hn => ⟨s.armShown_shadowState hn, ?_⟩⟩
    · rw [rest]
    · intro k result shadow crowd
      refine objs k fun hk => ?_
      rcases armObjs_cases hk with h | ⟨m, hm, h⟩ | ⟨m, hm, h⟩
      · exact result h
      · exact shadow m hm h
      · exact crowd m hm h
  · intro s role c may unarmed failed hc
    rw [asked may, s.swapArm_of_failed unarmed failed hc]
  · intro s role may armed
    rw [asked may, s.swapArm_of_armed armed]
  · exact fun s role may armed => ⟨s.cancelSwap 0x08, congrArg Host.Outcome.next (s.accessAt_of_mayWrite may _), s.cancelSwap_cancels armed 0x08⟩
  · exact fun s armed => ⟨s.cancelSwap 0x07, rfl, s.cancelSwap_cancels armed 0x07⟩

end Sys2Proof.Machine
end

section
/-! SUPPORT. What the meter's booking and its journal leave of the device, and the freeze by a power failure (R410) (O27). -/

namespace Sys2Proof.Machine

/-- What the writing of a journal slot leaves: both sets, the mode record, device time, the supplies, the bridges' pins, and whether the
registers are frozen (R33, R407, R410). -/
def State.apart (s : State) : Control × Plat × List Drive × Option Nat := (s.control, s.plat, s.hbDrive, s.mtr.frozen)

/-- What a booking into the registers leaves: the same, and the objects of the journal (R402, R407). -/
def State.outside (s : State) : (Control × Plat × List Drive × Option Nat) × (Nat → Int) := (s.apart, s.atIndex 0x7200)

section
variable {s t : State}

theorem State.control_of_apart (h : t.apart = s.apart) : t.control = s.control := congrArg Prod.fst h
theorem State.plat_of_apart (h : t.apart = s.apart) : t.plat = s.plat := congrArg (fun c => c.2.1) h
theorem State.hbDrive_of_apart (h : t.apart = s.apart) : t.hbDrive = s.hbDrive := congrArg (fun c => c.2.2.1) h

theorem State.active_of_control (h : t.control = s.control) : t.active = s.active := congrArg Control.active h
theorem State.now_of_control (h : t.control = s.control) : t.now = s.now := congrArg (fun c : Control => c.devSub / 2000000000) h
theorem State.now_of_apart (h : t.apart = s.apart) : t.now = s.now := State.now_of_control (State.control_of_apart h)

theorem State.apart_of_outside (h : t.outside = s.outside) : t.apart = s.apart := congrArg Prod.fst h

/-- An object of the journal. -/
theorem State.o_of_outside (h : t.outside = s.outside) {k : Nat} (hk : k / 256 = 0x7200) : t.o k = s.o k :=
  State.o_of_atIndex (congrArg Prod.snd h) hk
end

section
variable (s : State)

/-! ## Booking (R402 to R404) -/

/-- A write outside the mode record and the reset record. -/
@[simp] theorem State.put_apart {i j : Nat} (v : Int) (hj : j < 256) (hm : i ≠ 0x2000) (hr : i ≠ 0x2500) : (s.put (key i j) v).apart = s.apart := by
  simp only [State.apart, s.put_control v hj hm hr, State.put_plat, State.put_hbDrive, State.put_mtr]

/-- A write outside those and the journal. -/
@[simp] theorem State.put_outside {i j : Nat} (v : Int) (hj : j < 256) (hm : i ≠ 0x2000) (hr : i ≠ 0x2500) (hb : i ≠ 0x7200) :
    (s.put (key i j) v).outside = s.outside := by
  have hi : key i j / 256 = i := by unfold key; omega
  rw [State.outside, s.put_apart v hj hm hr, s.atIndex_put (k := key i j) v (by omega)]
  rfl

@[simp] theorem State.incSat_outside {i j : Nat} (hj : j < 256) (hm : i ≠ 0x2000) (hr : i ≠ 0x2500) (hb : i ≠ 0x7200) :
    (s.incSat (key i j)).outside = s.outside := s.put_outside _ hj hm hr hb

theorem State.mtrMod_outside {f : MtrX → MtrX} (hf : (f s.mtr).frozen = s.mtr.frozen) : (s.mtrMod f).outside = s.outside :=
  congrArg (fun z => ((s.control, s.plat, s.hbDrive, z), s.atIndex 0x7200)) hf

@[simp] theorem State.mtrFlag_outside (bit : Nat) : (s.mtrFlag bit).outside = s.outside := s.mtrMod_outside rfl
@[simp] theorem State.mtrPeak_outside (q : Rat) : (s.mtrPeak q).outside = s.outside := s.mtrMod_outside rfl

@[simp] theorem State.addReg_outside {i j : Nat} (inc : Rat) (hj : j < 256) (hm : i ≠ 0x2000) (hr : i ≠ 0x2500) (hb : i ≠ 0x7200) :
    (s.addReg (key i j) inc).outside = s.outside :=
  (State.mtrMod_outside _ (by rfl)).trans (s.put_outside _ hj hm hr hb)

@[simp] theorem State.addSigned_outside {i j i' j' : Nat} (inc : Rat) (hj : j < 256) (hm : i ≠ 0x2000) (hr : i ≠ 0x2500) (hb : i ≠ 0x7200)
    (hj' : j' < 256) (hm' : i' ≠ 0x2000) (hr' : i' ≠ 0x2500) (hb' : i' ≠ 0x7200) :
    (s.addSigned (key i j) (key i' j') inc).outside = s.outside := by
  unfold State.addSigned
  split
  · exact s.addReg_outside _ hj hm hr hb
  · split
    · exact s.addReg_outside _ hj' hm' hr' hb'
    · rfl

theorem acImport_add (n : Nat) : Obj.acImport + n = key 0x7000 (1 + n) := by
  simp only [Obj.acImport, key]
  omega

/-- An increment of one of the AC totals. -/
@[simp] theorem State.addAc_outside {n : Nat} (inc : Rat) (hn : n < 255) : (s.addReg (Obj.acImport + n) inc).outside = s.outside := by
  rw [acImport_add]
  exact s.addReg_outside _ (by omega) (by omega) (by omega) (by omega)

@[simp] theorem State.addReactive_outside (e r : Rat) : (s.addReactive e r).outside = s.outside := by
  unfold State.addReactive
  split
  · rfl
  · extract_lets q
    have hq : q < 4 := by unfold q; split_ifs <;> omega
    rw [Nat.add_assoc]
    exact s.addAc_outside _ (by omega)

theorem State.cycleBook_outside (sync test : Bool) : (s.cycleBook sync test).outside = s.outside := by
  unfold State.cycleBook
  extract_lets dt es fs sum p t u creep v w e1 x
  have ht : t.outside = s.outside := by
    refine State.forAll_keeps_of_mem (fun n hn t => ?_) s
    have := List.mem_range.mp hn
    simp (disch := omega) [apply_ite State.outside]
  have hu : u.outside = s.outside := (t.mtrPeak_outside p).trans ht
  have hv : v.outside = s.outside := (State.put_outside _ _ (by omega) (by omega) (by omega) (by omega)).trans hu
  have hw : w.outside = s.outside := by
    refine (State.forAll_keeps_of_mem (fun n hn t => ?_) v).trans hv
    have := List.mem_range.mp hn
    simp (disch := omega)
  have hx : x.outside = s.outside := by
    have fund : Obj.acImportFund + 1 = key 0x7000 4 := rfl
    have tot : Obj.acImport + 1 = key 0x7000 2 := rfl
    simp (disch := omega) [x, fund, tot, hw]
  split
  · rfl
  · split
    · simp (disch := omega) [hu]
    · exact (State.addReactive_outside ..).trans hx

theorem State.dcEnd_outside (test : Bool) : (s.dcEnd test).outside = s.outside := by
  unfold State.dcEnd
  extract_lets m n creep p t u v
  have ht : t.outside = s.outside := by simp (disch := omega) [t]
  have hu : u.outside = s.outside := (t.mtrPeak_outside |p|).trans ht
  have hv : v.outside = s.outside := by simp (disch := omega) [v, apply_ite State.outside, hu]
  split
  · rfl
  · exact (State.mtrMod_outside _ (by rfl)).trans hv

/-! ## Leave for the final slot (R551 to R553) -/

theorem State.leaveShow_outside : s.leaveShow.outside = s.outside := by simp (disch := omega) [State.leaveShow]

theorem State.leaveHold_outside (op : LeaveOp) : (s.leaveHold op).outside = s.outside := by
  have hk : leaveClass op ≤ 3 := by cases op <;> simp [leaveClass]
  exact (State.leaveShow_outside _).trans (State.put_outside _ _ (by omega) (by omega) (by omega) (by omega))

theorem State.leaveBack_outside (op : LeaveOp) : (s.leaveBack op).outside = s.outside := by
  unfold State.leaveBack
  split
  · exact (State.leaveShow_outside _).trans (State.put_outside _ _ (by omega) (by omega) (by omega) (by omega))
  · exact State.leaveShow_outside _

theorem State.statusBit_outside {code : Nat} (h : code < 0x4000) (on : Bool) : (s.statusBit code on).outside = s.outside := by
  unfold State.statusBit
  extract_lets hi k b
  have hk : ∃ j, j < 256 ∧ k = key 0x2400 j := by
    by_cases low : code % 256 < 64
    · exact ⟨1 + 2 * (hi - 1), by omega, if_pos low⟩
    · exact ⟨2 + 2 * (hi - 1), by omega, if_neg low⟩
  obtain ⟨j, hj, hk⟩ := hk
  rw [hk]
  exact s.put_outside _ hj (by omega) (by omega) (by omega)

theorem State.collect_outside (code inst : Nat) (injected : Bool) : (s.collect code inst injected).outside = s.outside := by
  unfold State.collect
  split
  · rfl
  · next row hrow =>
    split
    · rfl
    · extract_lets cls again ctx src t u r src'
      have ht : t.outside = s.outside := by unfold t; split <;> rfl
      have hu : u.outside = s.outside := by
        unfold u State.refreshClassMap
        rw [State.put_outside _ _ (by omega) (by omega) (by omega) (by omega), State.statusBit_outside _ (faultRow_code_lt hrow), ht]
      split
      · exact hu
      · exact (State.incSat_outside _ (by omega) (by omega) (by omega) (by omega)).trans hu

/-- LEAVE_SAFETYOVER is of class NOTE (R541), so its raise goes no further than the collector. -/
theorem State.raise_leaveSafetyover (inst : Nat) : s.raise FC.leaveSafetyover inst = s.note FC.leaveSafetyover inst := by
  have row : faultRow FC.leaveSafetyover = some ⟨0x1502, .note, false, [(0, 0)]⟩ := by decide +kernel
  have cls : s.faultClass FC.leaveSafetyover inst = 0 := by
    unfold State.faultClass
    rw [row]
    rfl
  unfold State.raise State.raiseWith State.note
  rw [row]
  dsimp only
  split
  · next h =>
    unfold State.collect
    rw [row]
    exact (if_pos h).symm
  · rw [cls]
    rfl

theorem State.leaveSafety_outside (op : LeaveOp) : (s.leaveSafety op).outside = s.outside := by
  unfold State.leaveSafety
  extract_lets src t u
  have hu : u.outside = s.outside := t.leaveHold_outside op
  split
  · rw [State.raise_leaveSafetyover]
    exact (State.collect_outside ..).trans ((State.incSat_outside _ (by omega) (by omega) (by omega) (by omega)).trans hu)
  · exact hu

/-! ## The freeze (R410) -/

/-- The registers as a power failure freezes them: what has been measured so far is booked without the no-load test. -/
def State.lastBooked (s : State) : State :=
  ((if s.oN Obj.mtrState = 3 ∨ s.oN Obj.mtrState = 4 then s.cycleBook false false else s).mtrMod (fun m => { m with samples := [] })).dcEnd false

theorem State.lastBooked_outside : s.lastBooked.outside = s.outside := by
  refine (State.dcEnd_outside ..).trans ((State.mtrMod_outside _ (by rfl)).trans ?_)
  split
  · exact s.cycleBook_outside false false
  · rfl

/-- The registers frozen now, and the final slot not yet written. -/
def State.frozenNow (s : State) : State :=
  ((s.put Obj.finalWriteTime s.now).put Obj.mtrFinalWriteOk 0).mtrMod (fun m => { m with frozen := some s.now })

theorem State.frozenNow_apart : s.frozenNow.apart = (s.control, s.plat, s.hbDrive, some s.now) := by
  have written : ((s.put Obj.finalWriteTime s.now).put Obj.mtrFinalWriteOk 0).control = s.control := by simp (disch := omega)
  exact congrArg (fun c => (c, s.plat, s.hbDrive, some s.now)) written

@[simp] theorem State.o_mtrMod (f : MtrX → MtrX) (k : Nat) : (s.mtrMod f).o k = s.o k := rfl

theorem State.frozenNow_journal :
    s.frozenNow.o Obj.finalWriteTime = s.now ∧ s.frozenNow.o Obj.journalSequence = s.o Obj.journalSequence := by
  rw [State.frozenNow, State.o_mtrMod, State.o_mtrMod]
  constructor
  · rw [State.o_put_other _ _ (by decide), State.o_put_same]
  · rw [State.o_put_other _ _ (by decide), State.o_put_other _ _ (by decide)]

theorem State.mem_outside (bytes : List Host.Cell) : ({ s with mem := bytes } : State).outside = s.outside := rfl

/-- A slot is its bytes in memory, then its sequence and its time; what it flags and its peak begin afresh (R407). -/
theorem State.mtrJournal_eq (final : Bool) : ∃ t : State, t.outside = s.outside ∧ s.mtrJournal final =
    ((t.put Obj.journalSequence ((s.oN Obj.journalSequence + 1) % 4294967296 : Nat)).put Obj.lastSlotTime t.now).mtrMod
      (fun m => { m with flags := 0, peak := 0 }) := ⟨_, s.mem_outside _, rfl⟩

theorem State.mtrJournal_apart (final : Bool) : (s.mtrJournal final).apart = s.apart := by
  obtain ⟨t, stored, slot⟩ := s.mtrJournal_eq final
  rw [slot, State.apart_of_outside (State.mtrMod_outside _ (by rfl)), ← State.apart_of_outside stored]
  simp (disch := omega)

theorem State.mtrJournal_shows (final : Bool) :
    (s.mtrJournal final).o Obj.journalSequence = ((s.oN Obj.journalSequence + 1) % 4294967296 : Nat) ∧
      (s.mtrJournal final).o Obj.lastSlotTime = s.now ∧ (s.mtrJournal final).o Obj.finalWriteTime = s.o Obj.finalWriteTime := by
  obtain ⟨t, stored, slot⟩ := s.mtrJournal_eq final
  rw [slot, ← State.now_of_apart (State.apart_of_outside stored), ← State.o_of_outside (k := Obj.finalWriteTime) stored rfl]
  simp only [State.o_mtrMod]
  refine ⟨?_, State.o_put_same .., ?_⟩
  · rw [State.o_put_other _ _ (by decide), State.o_put_same]
  · rw [State.o_put_other _ _ (by decide), State.o_put_other _ _ (by decide)]

/-- The final slot, written under leave of class Safety and reported (R410). -/
def State.finalSlot (s : State) : State :=
  (((s.leaveSafety .finalJournal).mtrJournal true).leaveBack .finalJournal).put Obj.mtrFinalWriteOk 1

theorem State.finalSlot_apart : s.finalSlot.apart = s.apart :=
  calc s.finalSlot.apart
    _ = (((s.leaveSafety .finalJournal).mtrJournal true).leaveBack .finalJournal).apart := State.put_apart _ _ (by omega) (by omega) (by omega)
    _ = ((s.leaveSafety .finalJournal).mtrJournal true).apart := State.apart_of_outside (State.leaveBack_outside ..)
    _ = (s.leaveSafety .finalJournal).apart := State.mtrJournal_apart ..
    _ = s.apart := State.apart_of_outside (s.leaveSafety_outside _)

theorem State.finalSlot_shows :
    s.finalSlot.o Obj.mtrFinalWriteOk = 1 ∧ s.finalSlot.o Obj.journalSequence = ((s.oN Obj.journalSequence + 1) % 4294967296 : Nat) ∧
      s.finalSlot.o Obj.lastSlotTime = s.now ∧ s.finalSlot.o Obj.finalWriteTime = s.o Obj.finalWriteTime := by
  have granted := s.leaveSafety_outside .finalJournal
  have now : (s.leaveSafety .finalJournal).now = s.now := State.now_of_apart (State.apart_of_outside granted)
  have back {k : Nat} (hk : k / 256 = 0x7200) (ok : k ≠ Obj.mtrFinalWriteOk) :
      s.finalSlot.o k = ((s.leaveSafety .finalJournal).mtrJournal true).o k :=
    (State.o_put_other _ _ ok).trans (State.o_of_outside (State.leaveBack_outside ..) hk)
  obtain ⟨seq, time, final⟩ := (s.leaveSafety .finalJournal).mtrJournal_shows true
  rw [State.oN_eq, State.o_of_outside granted rfl] at seq
  rw [now] at time
  rw [State.o_of_outside granted rfl] at final
  exact ⟨State.o_put_same .., (back rfl (by decide)).trans seq, (back rfl (by decide)).trans time, (back rfl (by decide)).trans final⟩

/-- A freeze, from the last booking to the report of its slot (R410). -/
def State.meterFrozen (s : State) : State := s.lastBooked.frozenNow.finalSlot

theorem State.meterFrozen_apart : s.meterFrozen.apart = (s.control, s.plat, s.hbDrive, some s.now) := by
  have booked := State.apart_of_outside s.lastBooked_outside
  rw [State.meterFrozen, State.finalSlot_apart, State.frozenNow_apart, State.control_of_apart booked, State.plat_of_apart booked,
    State.hbDrive_of_apart booked, State.now_of_apart booked]

theorem State.meterFrozen_shows :
    s.meterFrozen.o Obj.finalWriteTime = s.now ∧ s.meterFrozen.o Obj.mtrFinalWriteOk = 1 ∧
      s.meterFrozen.o Obj.journalSequence = ((s.oN Obj.journalSequence + 1) % 4294967296 : Nat) ∧ s.meterFrozen.o Obj.lastSlotTime = s.now := by
  have booked := s.lastBooked_outside
  have now : s.lastBooked.now = s.now := State.now_of_apart (State.apart_of_outside booked)
  obtain ⟨frozenAt, seqBefore⟩ := s.lastBooked.frozenNow_journal
  obtain ⟨ok, seq, slotAt, final⟩ := s.lastBooked.frozenNow.finalSlot_shows
  have slotTime : s.lastBooked.frozenNow.now = s.lastBooked.now :=
    State.now_of_control (congrArg Prod.fst s.lastBooked.frozenNow_apart)
  rw [State.oN_eq, seqBefore, State.o_of_outside booked rfl] at seq
  rw [slotTime, now] at slotAt
  rw [frozenAt, now] at final
  exact ⟨final, ok, seq, slotAt⟩

/-- PFAIL_N falling while the registers run. -/
theorem State.pfailFall_of_running (on : s.mtrOn = true) (running : s.mtr.frozen = none) :
    s.pfailFall = ({ s with plat := { s.plat with pfailN := false } } : State).meterFrozen := by
  have freezes : ¬ (¬ (s.mtrOn = true ∨ s.resetDefers = true) ∨ s.mtr.frozen.isSome = true) := by simp [on, running]
  exact if_neg freezes

/-- PFAIL_N falling without metering, and with no reset that waits for its final slot (R68). -/
theorem State.pfailFall_of_off (off : s.mtrOn = false) (apart : s.resetDefers = false) :
    s.pfailFall = { s with plat := { s.plat with pfailN := false } } := by
  have idle : ¬ (s.mtrOn = true ∨ s.resetDefers = true) ∨ s.mtr.frozen.isSome = true := by simp [off, apart]
  exact if_pos idle

/-- The end of the freeze (R413). -/
theorem State.mtrResume_of_frozen {f : Nat} (frozen : s.mtr.frozen = some f) (pin : s.plat.pfailN = true) (on : s.mtrOn = true) :
    s.mtrResume = (s.mtrMod (fun m => { m with frozen := none, lastTick := none, samples := [] })).openInterval (s.boundOver (s.now - f)) := by
  unfold State.mtrResume
  rw [frozen]
  exact if_pos ⟨pin, on⟩

end

/-- Settles O27: the last booking and the request for leave touch nothing outside the meter (`outside`), for LEAVE_SAFETYOVER goes no
further than the collector; the freeze, the slot and its report are the writes between them and after. -/
theorem powerFailFreezesTheMeter : Obligations.PowerFailFreezesTheMeter := by
  refine ⟨?_, ?_, fun _ => rfl, ?_⟩
  · intro s on running
    let low : State := { s with plat := { s.plat with pfailN := false } }
    obtain ⟨control, rest⟩ := Prod.mk.inj low.meterFrozen_apart
    obtain ⟨plat, rest⟩ := Prod.mk.inj rest
    obtain ⟨pins, frozen⟩ := Prod.mk.inj rest
    obtain ⟨final, ok, seq, slotAt⟩ := low.meterFrozen_shows
    refine ⟨low.meterFrozen, congrArg Host.Outcome.next (s.pfailFall_of_running on running), ?_, frozen, final, ok, ?_, slotAt, ?_, ?_, pins⟩
    · rw [plat]
    · exact (congrArg Int.toNat seq).trans (Int.toNat_natCast _)
    · exact State.mode_of_control (s := low) control
    · exact State.active_of_control (s := low) control
  · exact fun s off apart => congrArg Host.Outcome.next (s.pfailFall_of_off off apart)
  · exact fun s f frozen pin on => congrArg Host.Outcome.next (s.mtrResume_of_frozen frozen pin on)

end Sys2Proof.Machine
end

section
/-! SUPPORT. Timebases that lose their lock (R93, R94) and the ring of stamps (R106) (O30, O31). -/

namespace Sys2Proof.Machine

theorem State.oN_of_o {s : State} {k n : Nat} (h : s.o k = n) : s.oN k = n := congrArg Int.toNat h

/-! ## The states of a timebase's lock (R93, R94) -/

section
variable (s : State) (t : Nat)

theorem State.tbState_o (st j : Nat) : (s.tbState t st).o j = if j = Obj.tbLockState t then (st : Int) else s.o j := s.o_put _ _ j

theorem State.tbState_o_other {j : Nat} (st : Nat) (other : j ≠ t) : (s.tbState t st).o (Obj.tbLockState j) = s.o (Obj.tbLockState j) := by
  rw [State.tbState_o, if_neg]
  simp only [Obj.tbLockState, key]
  omega

/-- The limit of R93 passed on an acquiring timebase whose lock no mode request waits for. -/
theorem State.lockFails_of_unasked (acquiring : s.up = true ∧ s.oN (Obj.tbLockState t) = 1 ∧ s.cN (Obj.tbSource t) ≠ 3)
    (unasked : (s.raise FC.tbLockfail t).md.requested = false) : s.lockFails t = s.raise FC.tbLockfail t :=
  (if_pos acquiring).trans (if_neg (by simp [unasked]))

theorem State.lockFails_of_other (other : s.oN (Obj.tbLockState t) ≠ 1) : s.lockFails t = s :=
  if_neg fun ⟨_, acquiring, _⟩ => other acquiring

end

section
variable {s : State} (tb : Fin 8)

theorem exec_tbHoldover : exec (.tbHoldover tb) s = .next (if s.up ∧ s.oN (Obj.tbLockState tb.val) = 2 ∧ s.cN (Obj.tbSource tb.val) ≠ 3
    then (s.tbState tb.val 3).raise FC.tbHoldover tb.val else s) := rfl

theorem exec_tbHoldoverLimit : exec (.tbHoldoverLimit tb) s = .next (if s.up ∧ s.oN (Obj.tbLockState tb.val) = 3
    then (s.tbState tb.val 4).raise FC.tbLost tb.val else s) := rfl

theorem exec_tbLockfail : exec (.tbLockfail tb) s = .next (s.lockFails tb.val) := rfl

end

/-- Settles O30: each command's guard picks its case; entering a state writes one object and the timebase's own record. -/
theorem timebasesLoseTheirLock : Obligations.TimebasesLoseTheirLock := by
  refine ⟨?_, ?_, ?_, ?_, ?_, ?_, ?_⟩
  · intro s tb up locked source
    rw [exec_tbHoldover, if_pos ⟨up, State.oN_of_o locked, source⟩]
  · intro s tb up holdover
    rw [exec_tbHoldoverLimit, if_pos ⟨up, State.oN_of_o holdover⟩]
  · intro s tb up acquiring source unasked
    rw [exec_tbLockfail, s.lockFails_of_unasked tb.val ⟨up, State.oN_of_o acquiring, source⟩ unasked]
  · intro s tb other
    rw [exec_tbHoldover, if_neg fun ⟨_, locked, _⟩ => other locked]
  · intro s tb other
    rw [exec_tbHoldoverLimit, if_neg fun ⟨_, holdover⟩ => other holdover]
  · intro s tb other
    rw [exec_tbLockfail, s.lockFails_of_other tb.val other]
  · exact fun s t st _ => ⟨(s.tbState_o t st _).trans (if_pos rfl), fun j _ other => s.tbState_o_other t st other, rfl, rfl⟩

/-! ## The ring of stamps (R106) -/

@[simp] theorem length_natBytes (n v : Nat) : (natBytes n v).length = n := by
  induction n generalizing v with
  | zero => rfl
  | succ n ih => simp [natBytes, ih]

section
variable (s : State) (t angle tag : Nat)

/-- The content of a stamp (R106): device time, angle, revolutions, speed, tag, lock state. -/
def State.stampBytes : List Nat :=
  natBytes 8 s.now ++ natBytes 4 angle ++ natBytes 4 (s.oN (Obj.tbRevolutions t)) ++ natBytes 8 (toUnsigned 64 (s.o (Obj.tbSpeed t))) ++
    natBytes 4 tag ++ natBytes 4 (s.oN (Obj.tbLockState t))

/-- The place of the next stamp: the oldest of the ring's 16 (R106). -/
def State.stampPlace : Nat := domAddr (Obj.stampRing t) (32 * (s.oN (Obj.stampCount t) % 16))

theorem State.length_stampBytes : (s.stampBytes t angle tag).length = 32 := by simp [State.stampBytes]

theorem State.stampOut_count : (s.stampOut t angle tag).o (Obj.stampCount t) = ((s.oN (Obj.stampCount t) + 1) % 4294967296 : Nat) := by
  have kept (m : List Host.Cell) : ({ s with mem := m } : State).oN (Obj.stampCount t) = s.oN (Obj.stampCount t) := rfl
  rw [State.stampOut, State.inc32_eq, State.o_put_same, kept]

theorem State.stampOut_mem :
    (s.stampOut t angle tag).mem = setBytes s.mem (s.stampPlace t) ((s.stampBytes t angle tag).map (BitVec.ofNat 8)) := rfl

theorem State.stampOut_byteAt (j : Nat) : byteAt (s.stampOut t angle tag).mem j =
    if s.stampPlace t ≤ j ∧ j < s.stampPlace t + 32 then BitVec.ofNat 8 ((s.stampBytes t angle tag).getD (j - s.stampPlace t) 0)
    else byteAt s.mem j := by
  rw [State.stampOut_mem, byteAt_setBytes, List.length_map, State.length_stampBytes]
  exact congrArg (ite _ · _) (List.getD_map _ 0 (BitVec.ofNat 8))

theorem State.stampOut_byteAt_place {q : Nat} (inside : q < 32) :
    byteAt (s.stampOut t angle tag).mem (s.stampPlace t + q) = BitVec.ofNat 8 ((s.stampBytes t angle tag).getD q 0) := by
  rw [State.stampOut_byteAt, if_pos (by omega), Nat.add_sub_cancel_left]

theorem State.stampOut_byteAt_outside {j : Nat} (outside : j < s.stampPlace t ∨ s.stampPlace t + 32 ≤ j) :
    byteAt (s.stampOut t angle tag).mem j = byteAt s.mem j := by
  rw [State.stampOut_byteAt, if_neg (by omega)]

theorem State.act_of_stamp {o : Occ} (h : o.action = 5) (i : SampleIn) : s.act t o i = s.stampOut t o.angle o.arg := by
  simp only [State.act, h]

/-- An occurrence without Delay takes effect at its dispatch, and the stream captures its record (R104, R490). -/
theorem State.dispatch_of_no_delay (up : s.up = true) (on : s.oN (Obj.tbLockState t) ≠ 0) (o : Occ) (i : SampleIn) :
    s.dispatch t o 0 i = ((s.inc32 (Obj.eventDispatchCount t)).act t o i).streamCapture t o.entry :=
  (if_neg (by simp [up, on])).trans (if_pos rfl)

end

/-- Settles O31: a stamp is one write of 32 bytes at its place and one count; dispatched without Delay, it is written at once. -/
theorem stampsGoIntoARing : Obligations.StampsGoIntoARing := by
  constructor
  · intro s n o i j stamp _ _
    rw [s.act_of_stamp n stamp i]
    exact ⟨s.stampOut_count n o.angle o.arg, fun q inside => s.stampOut_byteAt_place n o.angle o.arg inside,
      s.stampOut_byteAt_outside n o.angle o.arg⟩
  · exact fun s tb e angle arg up _ on => congrArg Host.Outcome.next (s.dispatch_of_no_delay tb.val up on _ _)

end Sys2Proof.Machine
end

section
/-! SUPPORT. What drives the HB channels (R108): the operations that leave it, the island's own operations, none of which makes a channel
follow its carrier (R16, R21), and a protection event, which ends the switching of its reaction domain (R151, R152, R157) (O34). -/

namespace Sys2Proof.Machine

variable (s : State)

/-! ## Operations that leave what drives the HB channels -/

@[simp] theorem State.incSat_hbDrive (k : Nat) : (s.incSat k).hbDrive = s.hbDrive := rfl
@[simp] theorem State.log_hbDrive (kind code inst a b : Nat) : (s.log kind code inst a b).hbDrive = s.hbDrive := rfl
@[simp] theorem State.soLow_hbDrive (st n : Nat) : (s.soLow st n).hbDrive = s.hbDrive := rfl
@[simp] theorem State.keepSupply_hbDrive (n : Nat) : (s.keepSupply n).hbDrive = s.hbDrive := rfl
@[simp] theorem State.stopSupply_hbDrive (n : Nat) : (s.stopSupply n).hbDrive = s.hbDrive := rfl
@[simp] theorem State.record_hbDrive (code inst : Nat) (whole masked : Bool) (fns : List Fn) (resetMs : Nat) :
    (s.record code inst whole masked fns resetMs).hbDrive = s.hbDrive := rfl
@[simp] theorem State.mtrIssue_hbDrive (kind : Nat) (x : MtrSess) (start stop imp exp flags events peak : Nat) :
    (s.mtrIssue kind x start stop imp exp flags events peak).hbDrive = s.hbDrive := rfl

@[simp] theorem State.collect_hbDrive (code inst : Nat) (injected : Bool) : (s.collect code inst injected).hbDrive = s.hbDrive :=
  State.hbDrive_of_apart (State.apart_of_outside (s.collect_outside code inst injected))

@[simp] theorem State.note_hbDrive (code inst : Nat) : (s.note code inst).hbDrive = s.hbDrive := s.collect_hbDrive code inst false

theorem State.hbDrive_forAll {l : List Nat} {f : Nat → State → State} (hf : ∀ n t, (f n t).hbDrive = t.hbDrive) :
    (s.forAll l f).hbDrive = s.hbDrive := State.forAll_keeps hf s

/-- A swap given way to changes the sets and the swap's objects (R85). -/
@[simp] theorem State.undoSwap_hbDrive (code : Nat) : (s.undoSwap code).hbDrive = s.hbDrive := by
  unfold State.undoSwap
  split
  · rfl
  · split
    · next u _ _ =>
      extract_lets t v
      have ht : t.hbDrive = s.hbDrive := State.foldl_keeps (p := State.hbDrive) (fun _ _ => by rfl) (s.before u)
      have hv : v.hbDrive = t.hbDrive := State.forAll_keeps (p := State.hbDrive) (fun _ _ => by rfl) t
      exact hv.trans ht
    · rfl

@[simp] theorem State.cancelSwap_hbDrive (code : Nat) : (s.cancelSwap code).hbDrive = s.hbDrive := by
  unfold State.cancelSwap
  split
  · exact State.forAll_keeps (p := State.hbDrive) (fun _ _ => by rfl) s
  · rfl

@[simp] theorem State.swapLoses_hbDrive : s.swapLoses.hbDrive = s.hbDrive := by simp [State.swapLoses]

@[simp] theorem State.swapYields_hbDrive (fns : List Fn) : (s.swapYields fns).hbDrive = s.hbDrive := by
  simp [State.swapYields, apply_ite State.hbDrive]

@[simp] theorem State.conductionEnds_hbDrive (c f : Nat) : (s.conductionEnds c f).hbDrive = s.hbDrive := by
  unfold State.conductionEnds
  split <;> simp [apply_ite State.hbDrive]

@[simp] theorem State.callMode_hbDrive (mode c f new next : Nat) (full : Bool) : (s.callMode mode c f new next full).hbDrive = s.hbDrive := by
  simp [State.callMode, apply_ite State.hbDrive]

@[simp] theorem State.pinsFor_hbDrive (c : Nat) (d : Drive) : (s.pinsFor c d).hbDrive = s.hbDrive := by
  cases d <;> simp [State.pinsFor, State.pinsOff, State.pinsAsc]

@[simp] theorem State.offLv_hbDrive (n : Nat) : (s.offLv n).hbDrive = s.hbDrive := State.pinsFor_hbDrive ..

@[simp] theorem State.overrideGroup_hbDrive (g : Nat) : (s.overrideGroup g).hbDrive = s.hbDrive := by
  simp [State.overrideGroup, apply_ite State.hbDrive]

@[simp] theorem State.mtrInterval_hbDrive (stop flags : Nat) : (s.mtrInterval stop flags).hbDrive = s.hbDrive := by
  unfold State.mtrInterval
  split <;> simp

@[simp] theorem State.mtrClose_hbDrive (flags : Nat) : (s.mtrClose flags).hbDrive = s.hbDrive := by
  unfold State.mtrClose State.mtrCloseAt
  extract_lets t
  split
  · rfl
  · split <;> simp [t]

@[simp] theorem State.tdManage_hbDrive (connection identity : Nat) (initiator : Bool) :
    (s.tdManage connection identity initiator).hbDrive = s.hbDrive := by
  unfold State.tdManage
  split <;> simp

@[simp] theorem State.tdEnd_hbDrive : s.tdEnd.hbDrive = s.hbDrive := by simp [State.tdEnd, apply_ite State.hbDrive]

@[simp] theorem State.cpStop_hbDrive (c : Nat) : (s.cpStop c).hbDrive = s.hbDrive := by
  simp [State.cpStop, State.cpTo, apply_ite State.hbDrive]

/-- What a function loses to the island is its own state; its channels are put under their plans apart from it. -/
@[simp] theorem State.fnHeld_hbDrive (f : Fn) : (s.fnHeld f).hbDrive = s.hbDrive := by
  cases f <;>
    simp [State.fnHeld, State.wcHeld, State.lkHeld, State.lvHeld, State.stHeld, State.postHeld, State.ccHeld, State.gaLost,
      apply_ite State.hbDrive]

@[simp] theorem State.holdBy_hbDrive (code : Nat) : (s.holdBy code).hbDrive = s.hbDrive := by simp [State.holdBy, apply_ite State.hbDrive]

@[simp] theorem State.abandonRequest_hbDrive : s.abandonRequest.hbDrive = s.hbDrive := by
  simp [State.abandonRequest, apply_ite State.hbDrive]

@[simp] theorem State.enterM9_hbDrive (cause : Nat) : (s.enterM9 cause).hbDrive = s.hbDrive := by
  simp [State.enterM9, apply_ite State.hbDrive]

/-! ## Channels at rest -/

variable {s} {c : Nat}

/-- An HB channel does not follow its carrier: it is at pulse-off or in ASC (R108, R152). -/
def State.Rests (s : State) (c : Nat) : Prop := s.hbDrive.getD c .pulseOff ≠ .switching

theorem State.Rests.of_hbDrive {t : State} (h : s.Rests c) (same : t.hbDrive = s.hbDrive) : t.Rests c := by
  rwa [State.Rests, same]

theorem State.rests_of_length_le (h : s.hbDrive.length ≤ c) : s.Rests c := by simp [State.Rests, h]

theorem State.rests_of_drive (hb : c < 24) {d : Drive} (h : s.drive c = d) (hd : d ≠ .switching) : s.Rests c := by
  rw [State.drive, if_pos hb] at h
  rwa [State.Rests, h]

/-- A loop whose rounds leave a channel at rest does so as a whole. -/
theorem State.Rests.foldl {β : Type} {l : List β} {f : State → β → State} (h : s.Rests c) (hf : ∀ t a, t.Rests c → (f t a).Rests c) :
    (l.foldl f s).Rests c := by
  induction l generalizing s with
  | nil => exact h
  | cons a l ih => exact ih (hf s a h)

theorem State.Rests.forAll {l : List Nat} {f : Nat → State → State} (h : s.Rests c) (hf : ∀ n t, t.Rests c → (f n t).Rests c) :
    (s.forAll l f).Rests c := h.foldl fun t n => hf n t

/-- A loop whose rounds leave a channel at rest brings it to rest, if the round of the channel does. -/
theorem State.forAll_rests_of_mem {l : List Nat} {f : Nat → State → State} (hc : c ∈ l) (own : ∀ t, (f c t).Rests c)
    (hf : ∀ n t, t.Rests c → (f n t).Rests c) : (s.forAll l f).Rests c := by
  induction l generalizing s with
  | nil => simp at hc
  | cons a l ih =>
    rcases List.mem_cons.mp hc with rfl | hc
    · exact (own s).forAll hf
    · exact ih hc

/-! ## Changes of what drives a channel -/

theorem State.setHb_hbDrive (n : Nat) (d : Drive) : (s.setHb n d).hbDrive = s.hbDrive.set n d := State.pinsFor_hbDrive ..

theorem State.setHb_rests_same {d : Drive} (hd : d ≠ .switching) : (s.setHb c d).Rests c := by
  rw [State.Rests, State.setHb_hbDrive, List.getD_eq_getElem?_getD, List.getElem?_set_self']
  cases s.hbDrive[c]? <;> simp [hd]

theorem State.Rests.setHb (h : s.Rests c) (n : Nat) {d : Drive} (hd : d ≠ .switching) : (s.setHb n d).Rests c := by
  by_cases hn : n = c
  · exact hn ▸ State.setHb_rests_same hd
  · rwa [State.Rests, State.setHb_hbDrive, List.getD_eq_getElem?_getD, List.getElem?_set_ne hn, ← List.getD_eq_getElem?_getD]

/-! ## The island's plans and triggers -/

theorem PlanAct.drive_ne_switching (a : PlanAct) : a.drive ≠ .switching := by cases a <;> decide

theorem State.planChannel_hbDrive (a : PlanAct) (n : Nat) : (s.planChannel a n).hbDrive = s.hbDrive.set n a.drive := by
  cases a <;> simp [State.planChannel, State.setHb_hbDrive]

theorem State.Rests.planChannel (h : s.Rests c) (a : PlanAct) (n : Nat) : (s.planChannel a n).Rests c :=
  (h.setHb n a.drive_ne_switching).of_hbDrive ((State.planChannel_hbDrive a n).trans (State.setHb_hbDrive n a.drive).symm)

/-- The island keeps ASC and ends everything else (R21). -/
theorem State.Rests.keepChannel (h : s.Rests c) (n : Nat) : (s.keepChannel n).Rests c := by
  unfold State.keepChannel
  split
  · exact h.planChannel .ascUpper n
  · exact h.planChannel .ascLower n
  · exact h.planChannel .pulseOff n

theorem State.Rests.planMachine (h : s.Rests c) (m : Nat) : (s.planMachine m).Rests c := by
  unfold State.planMachine
  split
  · exact h.forAll fun n t ht => ht.keepChannel n
  · have planned : (s.forAll (s.machineHbs m) (State.planChannel (s.planOf m))).Rests c := h.forAll fun n t ht => ht.planChannel _ n
    extract_lets t
    split
    · exact planned
    · exact planned

theorem State.Rests.planFn (h : s.Rests c) (f : Fn) : (s.planFn f).Rests c := by
  unfold State.planFn
  extract_lets gs sos t u
  have ht : t.Rests c := by
    unfold t
    split
    · exact h.planMachine _
    · have off : (s.forAll (s.fnHbs f) State.offChannel).Rests c := h.forAll fun n t ht => ht.planChannel .pulseOff n
      exact off.of_hbDrive (State.hbDrive_forAll _ fun n t => t.offLv_hbDrive n)
  refine ht.of_hbDrive ?_
  rw [State.fnHeld_hbDrive, State.hbDrive_forAll _ fun g t => t.overrideGroup_hbDrive g, State.hbDrive_forAll _ fun n t => t.soLow_hbDrive 7 n]

theorem State.Rests.planAll (h : s.Rests c) : s.planAll.Rests c := by
  unfold State.planAll
  extract_lets hbs t u v w x
  have ht : t.Rests c := h.forAll fun n t ht => ht.planChannel .pulseOff n
  have hu : u.Rests c := ht.of_hbDrive (State.hbDrive_forAll _ fun n t => t.offLv_hbDrive n)
  have hv : v.Rests c := hu.of_hbDrive (State.hbDrive_forAll _ fun n t => t.soLow_hbDrive 7 n)
  have hw : w.Rests c := hv.forAll fun m t ht => ht.planMachine m
  have hx : x.Rests c := hw.of_hbDrive (State.hbDrive_forAll _ fun g t => t.overrideGroup_hbDrive g)
  exact hx.foldl fun t f ht => ht.of_hbDrive (t.fnHeld_hbDrive f)

theorem State.Rests.trigger (h : s.Rests c) (code inst : Nat) (masked : Bool) : (s.trigger code inst masked).Rests c := by
  unfold State.trigger
  split
  · exact h
  · extract_lets t u
    have ht : t.Rests c := h.of_hbDrive s.swapLoses_hbDrive
    have hu : u.Rests c := State.Rests.planAll (ht.of_hbDrive (by simp [apply_ite State.hbDrive]))
    clear_value u
    exact hu.of_hbDrive ((State.enterM9_hbDrive _ code).trans (State.holdBy_hbDrive _ code))

theorem State.Rests.triggerSafe (h : s.Rests c) (code inst : Nat) (masked : Bool) : (s.triggerSafe code inst masked).Rests c := by
  unfold State.triggerSafe
  split
  · exact h
  · extract_lets t fns u v
    have ht : t.Rests c := h.of_hbDrive (s.swapYields_hbDrive _)
    have hu : u.Rests c := ht
    have held : (fns.foldl (fun t f => t.planFn f) u).Rests c := hu.foldl fun t f ht => ht.planFn f
    exact held.of_hbDrive (State.holdBy_hbDrive _ code)

/-- A fault raised makes no channel follow its carrier, whatever the island does of it (R532, R541). -/
theorem State.Rests.raise (h : s.Rests c) (code inst : Nat) : (s.raise code inst).Rests c := by
  unfold State.raise State.raiseWith
  split
  · exact h
  · split
    · exact h
    · extract_lets cls t
      have ht : t.Rests c := h.of_hbDrive (s.collect_hbDrive code inst false)
      split
      · exact ht.trigger code inst false
      · split
        · exact ht.triggerSafe code inst false
        · exact ht

/-! ## The reaction (R151, R152) -/

theorem reactionDrive_ne_switching (r : Nat) : reactionDrive r ≠ .switching := by
  unfold reactionDrive
  split <;> decide

/-- One channel's part of a reaction. -/
def State.reactChannel (r n : Nat) (s : State) : State :=
  let t := if s.drive n = reactionDrive r then s else s.setHb n (reactionDrive r)
  (t.put (Obj.hbReaction n) r).chMod n (fun x => { x with rearm := false })

theorem State.applyReaction_eq (dom : List Nat) (r : Nat) : s.applyReaction dom r = s.forAll dom (State.reactChannel r) := rfl

theorem State.Rests.reactChannel (h : s.Rests c) (r n : Nat) : (s.reactChannel r n).Rests c := by
  unfold State.reactChannel
  split
  · exact h
  · exact h.setHb n (reactionDrive_ne_switching r)

theorem State.reactChannel_rests_same (hb : c < 24) (r : Nat) : (s.reactChannel r c).Rests c := by
  unfold State.reactChannel
  split
  · next already => exact State.rests_of_drive hb already (reactionDrive_ne_switching r)
  · exact State.setHb_rests_same (reactionDrive_ne_switching r)

theorem State.Rests.applyReaction (h : s.Rests c) (dom : List Nat) (r : Nat) : (s.applyReaction dom r).Rests c :=
  h.forAll fun n t (ht : t.Rests c) => ht.reactChannel r n

theorem State.applyReaction_rests_of_mem {dom : List Nat} (hc : c ∈ dom) (hb : c < 24) (r : Nat) : (s.applyReaction dom r).Rests c :=
  State.forAll_rests_of_mem hc (fun t => State.reactChannel_rests_same (s := t) hb r) fun n t (ht : t.Rests c) => ht.reactChannel r n

@[simp] theorem State.showReaction_hbDrive (dom : List Nat) : (s.showReaction dom).hbDrive = s.hbDrive :=
  State.hbDrive_forAll _ fun g t => by simp [apply_ite State.hbDrive]

@[simp] theorem State.followEvent_hbDrive (retry : Bool) (n : Nat) : (s.followEvent retry n).hbDrive = s.hbDrive := by
  simp [State.followEvent, apply_ite State.hbDrive]

/-- A protection event is its books, which leave what drives the channels, then the reaction of its domain, then the raise of its fault
with that of a leg conflict before it (R151 to R163). -/
theorem State.protEvent_eq (s : State) (n cause : Nat) : ∃ (t : State) (r code : Nat) (conflict : Bool), t.hbDrive = s.hbDrive ∧
    s.protEvent n cause =
      (let u := (t.applyReaction (s.domain n) r).showReaction (s.domain n)
       (if conflict then u.raise FC.gdLegconflict n else u).raise code n) := by
  unfold State.protEvent
  extract_lets dom t d kept st retry u v w x
  have hu : u.hbDrive = s.hbDrive := by simp [u, t, apply_ite State.hbDrive]
  have hv : v.hbDrive = s.hbDrive := (State.hbDrive_forAll _ fun n t => by simp).trans hu
  refine ⟨v, d.1, if retry then FC.gdRetry else causeFault cause, d.2, hv, ?_⟩
  cases retry <;> rfl

theorem State.Rests.raise_conflict {n code : Nat} {conflict : Bool} (h : s.Rests c) :
    ((if conflict then s.raise FC.gdLegconflict n else s).raise code n).Rests c := by
  cases conflict
  · exact h.raise code n
  · exact (h.raise _ n).raise code n

theorem State.Rests.protEvent (h : s.Rests c) (n cause : Nat) : (s.protEvent n cause).Rests c := by
  obtain ⟨t, r, code, conflict, same, event⟩ := s.protEvent_eq n cause
  rw [event]
  exact (((h.of_hbDrive same).applyReaction (s.domain n) r).of_hbDrive (State.showReaction_hbDrive _)).raise_conflict

theorem State.protEvent_rests_of_mem {n : Nat} (cause : Nat) (hc : c ∈ s.domain n) (hb : c < 24) : (s.protEvent n cause).Rests c := by
  obtain ⟨t, r, code, conflict, same, event⟩ := s.protEvent_eq n cause
  rw [event]
  exact ((State.applyReaction_rests_of_mem (s := t) hc hb r).of_hbDrive (State.showReaction_hbDrive _)).raise_conflict

/-- Settles O34: the reaction brings every channel of the domain to rest, and neither it nor the raise after it, with all that the island
may do then, makes a channel follow its carrier. -/
theorem protectionEventEndsTheSwitching : Obligations.ProtectionEventEndsTheSwitching := by
  intro s n cause length _ _
  refine ⟨fun c hc => ?_, fun c _ rests => State.Rests.protEvent rests n cause⟩
  by_cases hb : c < 24
  · exact State.protEvent_rests_of_mem cause hc hb
  · exact (State.rests_of_length_le (by omega)).protEvent n cause

end Sys2Proof.Machine
end

section
/-! SUPPORT. The detectors (R137 to R140, R146, R147, R167) and what a supply's change of state writes (R162) (O35). -/

namespace Sys2Proof.Machine

/-! ## The commands -/

section
variable {s : State}

theorem exec_desaturation (n : Fin 24) (u : Bool) (v : BitVec 32) : exec (.desaturation n u v) s = .next (s.desaturation n.val u v.toNat) := rfl

theorem exec_hardShort (n : Fin 24) (u : Bool) (v : BitVec 32) : exec (.hardShort n u v) s = .next (s.hardShort n.val u v.toNat) := rfl

theorem exec_fastOvercurrent (n : Fin 32) (a : BitVec 32) : exec (.fastOvercurrent n a) s = .next (s.fastOver n.val a.toNat) := rfl

theorem exec_gsUndervoltage (g : Fin 48) (v : BitVec 32) :
    exec (.gsUndervoltage g v) s = .next (State.afterSupply s (g.val / 2) (s.gsUnder g.val v.toNat)) := rfl

theorem exec_gsOvervoltage (g : Fin 48) (v : BitVec 32) :
    exec (.gsOvervoltage g v) s = .next (State.afterSupply s (g.val / 2) (s.gsOver g.val v.toNat)) := rfl

end

section
variable {s : State} {n v k : Nat} {upper : Bool}

/-! ## A switch that conducts (R137, R139) -/

theorem State.conducts_iff : s.conducts n upper = true ↔ (s.chx n).ena = true ∧ (s.chx n).pul = upper := by simp [State.conducts]

theorem State.conductedLately_iff : s.conductedLately n upper = true ↔ ((s.chx n).ena = true ∧ (s.chx n).pul = upper) ∨
    (0 < (s.chx n).offFe ∧ s.feNow < (s.chx n).offFe + 1024 ∧ (s.chx n).offPul = upper) := by
  simp [State.conductedLately, State.conducts_iff, and_assoc]

theorem State.desaturation_of_above (up : s.up = true) (on : s.conductedLately n upper = true)
    (above : s.cF (Obj.hbDesatThreshold n) < F32.toRat v) :
    s.desaturation n upper v = (s.showOn n v).eventWith n (if upper then 1 else 2) := if_pos ⟨up, on, above⟩

theorem State.desaturation_of_quiet (h : s.conductedLately n upper = false ∨ F32.toRat v ≤ s.cF (Obj.hbDesatThreshold n)) :
    s.desaturation n upper v = s := by
  refine if_neg fun ⟨_, on, above⟩ => ?_
  rcases h with off | below
  · simp [off] at on
  · exact below.not_gt above

theorem State.hardShort_of_above (up : s.up = true) (on : s.conductedLately n upper = true)
    (link : 20 ≤ s.oF (Obj.vdcValue (s.cN (Obj.hbLinkInput n)))) (above : s.oF (Obj.vdcValue (s.cN (Obj.hbLinkInput n))) / 2 < F32.toRat v) :
    s.hardShort n upper v = s.eventWith n (if upper then 3 else 4) := if_pos ⟨up, on, link, above⟩

theorem State.hardShort_of_quiet (h : s.conductedLately n upper = false ∨ s.oF (Obj.vdcValue (s.cN (Obj.hbLinkInput n))) < 20 ∨
    F32.toRat v ≤ s.oF (Obj.vdcValue (s.cN (Obj.hbLinkInput n))) / 2) : s.hardShort n upper v = s := by
  refine if_neg fun ⟨_, on, link, above⟩ => ?_
  rcases h with off | low | below
  · simp [off] at on
  · exact link.not_gt low
  · exact below.not_gt above

/-! ## The fast filter of a current (R140, R167) -/

theorem State.fastOver_of_quiet
    (h : s.sdTripped.getD n false = true ∨ F32.toRat v ≤ s.cF (Obj.sdOcHigh n) ∧ s.cF (Obj.sdOcLow n) ≤ F32.toRat v) :
    s.fastOver n v = s := by
  refine if_neg fun ⟨_, _, untripped, beyond⟩ => ?_
  rcases h with tripped | ⟨high, low⟩
  · rw [tripped] at untripped
    cases untripped
  · exact beyond.elim high.not_gt low.not_gt

end

/-! ## A supply's change of state (R161, R162) -/

section
variable (s : State) (k st : Nat)

/-- Objects of different sub-indices differ. -/
theorem key_ne {i i' j j' : Nat} (h : j % 256 ≠ j' % 256) : key i j ≠ key i' j' := by
  unfold key
  omega

@[simp] theorem State.o_supMod (f : SupplyX → SupplyX) (j : Nat) : (s.supMod k f).o j = s.o j := rfl

theorem State.supplyReady_o_other {n j : Nat} (h : j ≠ Obj.hbSupplyReady n) : (s.supplyReady n).o j = s.o j := by
  rw [State.supplyReady, State.o_put_other _ _ h]

/-- What a supply's change of state writes of the objects (R161, R162). -/
theorem State.gsPut_o (j : Nat) (duty : j ≠ Obj.gsDuty k) (ready : j ≠ Obj.hbSupplyReady (k / 2)) :
    (s.gsPut k st).o j = if j = Obj.gsState k then (st : Int) else s.o j := by
  unfold State.gsPut
  extract_lets d t u
  have hu : u.o j = if j = Obj.gsState k then (st : Int) else s.o j :=
    calc u.o j
      _ = t.o j := State.o_supMod ..
      _ = ((s.setGs k d).put (Obj.gsState k) st).o j := State.supplyReady_o_other _ ready
      _ = if j = Obj.gsState k then (st : Int) else s.o j := State.o_put ..
  split
  · rw [State.o_supMod, State.o_put_other _ _ duty, hu]
  · exact hu

/-- What drives a supply's ball in a state of the supply (R162). -/
theorem State.gsPut_gsDrive : (s.gsPut k st).gsDrive =
    s.gsDrive.set k (if st = 2 ∨ st = 3 ∨ st = 4 then .regulated else if st = 6 then .keeper else .low) := by
  unfold State.gsPut
  extract_lets d t u
  split <;> rfl

@[simp] theorem State.gsPut_hbDrive : (s.gsPut k st).hbDrive = s.hbDrive := by
  unfold State.gsPut
  extract_lets d t u
  split <;> rfl

end

section
variable {s : State} {n v k : Nat}

/-! ## A supply's under- and over-voltage (R146, R147) -/

theorem State.gsUnder_of_below (up : s.up = true) (ready : s.oN (Obj.gsState k) = 3) (below : F32.toRat v < s.cF (Obj.gsUvloThreshold k)) :
    s.gsUnder k v = (((s.put (Obj.gsVoltage k) v).gsPut k 4).incSat (Obj.gsUvloCount k)).supplyEvent k (6 + k % 2) :=
  if_pos ⟨up, ready, below⟩

theorem State.gsUnder_of_not_below (h : s.cF (Obj.gsUvloThreshold k) ≤ F32.toRat v) : s.gsUnder k v = s :=
  if_neg fun ⟨_, _, below⟩ => h.not_gt below

theorem State.gsOver_of_above (up : s.up = true) (on : s.oN (Obj.gsState k) = 3 ∨ s.oN (Obj.gsState k) = 4)
    (above : s.cF (Obj.gsOvloThreshold k) < F32.toRat v) :
    s.gsOver k v = ((s.put (Obj.gsVoltage k) v).gsPut k 5).supplyEvent k (8 + k % 2) := if_pos ⟨up, on, above⟩

theorem State.gsOver_of_not_above (h : F32.toRat v ≤ s.cF (Obj.gsOvloThreshold k)) : s.gsOver k v = s :=
  if_neg fun ⟨_, _, above⟩ => h.not_gt above

/-- Without a trip counted the chopper does not react. -/
theorem State.afterSupply_of_same {t : State} (h : t.o (Obj.hbTripCount n) = s.o (Obj.hbTripCount n)) : State.afterSupply s n t = t := if_pos h

theorem State.supplyEvent_of_dead (dead : s.live_ (k / 2) = false) (cause : Nat) : s.supplyEvent k cause = s := if_neg (by simp [dead])

/-- Whether a channel is live is read from its drive, HbProtState and HbReaction. -/
theorem State.live_congr {t : State} (drive : t.hbDrive = s.hbDrive) (prot : t.o (Obj.hbProtState n) = s.o (Obj.hbProtState n))
    (reaction : t.o (Obj.hbReaction n) = s.o (Obj.hbReaction n)) : t.live_ n = s.live_ n := by
  simp only [State.live_, State.oN_eq, drive, prot, reaction]

end

section
variable {s : State} {k v : Nat}

/-- A supply's entry into over-voltage, apart from the event that it is for its channel (R146). -/
def State.gsHigh (k v : Nat) (s : State) : State := (s.put (Obj.gsVoltage k) v).gsPut k 5

/-- It writes GsVoltage, GsState, GsDuty and HbSupplyReady. -/
theorem State.gsHigh_o_other {i j : Nat} (volts : j % 256 ≠ 12) (state : j % 256 ≠ 13) (duty : j % 256 ≠ 15) (ready : j % 256 ≠ 30) :
    (s.gsHigh k v).o (key i j) = s.o (key i j) := by
  rw [State.gsHigh, State.gsPut_o _ _ _ _ (key_ne duty) (key_ne ready), if_neg (key_ne state), State.o_put_other _ _ (key_ne volts)]

theorem State.gsHigh_state : (s.gsHigh k v).o (Obj.gsState k) = 5 :=
  (State.gsPut_o _ _ _ _ (key_ne (by decide)) (key_ne (by decide))).trans (if_pos rfl)

theorem State.gsHigh_voltage : (s.gsHigh k v).o (Obj.gsVoltage k) = v := by
  rw [State.gsHigh, State.gsPut_o _ _ _ _ (key_ne (by decide)) (key_ne (by decide)), if_neg (key_ne (by decide)), State.o_put_same]

theorem State.gsHigh_drive (hk : k < s.gsDrive.length) : (s.gsHigh k v).gsDrive.getD k .regulated = .low := by
  rw [State.gsHigh, State.gsPut_gsDrive, State.put_gsDrive]
  simp [hk]

theorem State.gsHigh_hbDrive : (s.gsHigh k v).hbDrive = s.hbDrive := State.gsPut_hbDrive ..

theorem State.gsHigh_live (n : Nat) : (s.gsHigh k v).live_ n = s.live_ n :=
  State.live_congr State.gsHigh_hbDrive
    (State.gsHigh_o_other (by decide) (by decide) (by decide) (by decide))
    (State.gsHigh_o_other (by decide) (by decide) (by decide) (by decide))

/-- An over-voltage of a supply that no live channel uses is no event. -/
theorem State.gsOver_of_dead (up : s.up = true) (on : s.oN (Obj.gsState k) = 3 ∨ s.oN (Obj.gsState k) = 4)
    (above : s.cF (Obj.gsOvloThreshold k) < F32.toRat v) (dead : s.live_ (k / 2) = false) :
    State.afterSupply s (k / 2) (s.gsOver k v) = s.gsHigh k v := by
  have quiet : s.gsOver k v = s.gsHigh k v :=
    (State.gsOver_of_above up on above).trans (State.supplyEvent_of_dead ((State.gsHigh_live _).trans dead) _)
  rw [quiet, State.afterSupply_of_same (State.gsHigh_o_other (by decide) (by decide) (by decide) (by decide))]

end

/-- Settles O35: each detector's guard picks its case; a supply's change of state writes nothing that a channel's being live is read from. -/
theorem detectorsDeclareEvents : Obligations.DetectorsDeclareEvents := by
  refine ⟨?_, ?_, fun _ _ _ => State.conductedLately_iff, ?_, ?_, ?_, ?_, ?_, ?_, ?_, ?_, ?_⟩
  · intro s n u v up on above
    rw [exec_desaturation, State.desaturation_of_above up on above]
  · intro s n u v quiet
    rw [exec_desaturation, State.desaturation_of_quiet quiet]
  · intro s n u v up on link above
    rw [exec_hardShort, State.hardShort_of_above up on link above]
  · intro s n u v quiet
    rw [exec_hardShort, State.hardShort_of_quiet quiet]
  · intro s n a sensing enabled untripped beyond
    exact congrArg Host.Outcome.next (if_pos ⟨sensing, enabled, untripped, beyond⟩)
  · intro s n a quiet
    rw [exec_fastOvercurrent, State.fastOver_of_quiet quiet]
  · intro s g v up ready below
    rw [exec_gsUndervoltage, State.gsUnder_of_below up ready below]
  · intro s g v above
    rw [exec_gsUndervoltage, State.gsUnder_of_not_below above, State.afterSupply_of_same rfl]
  · intro s g v up on above
    rw [exec_gsOvervoltage, State.gsOver_of_above up on above]
  · intro s g v below
    rw [exec_gsOvervoltage, State.gsOver_of_not_above below, State.afterSupply_of_same rfl]
  · intro s g v up on above dead length
    refine ⟨s.gsHigh g.val v.toNat, ?_, State.gsHigh_state, State.gsHigh_drive (by omega), State.gsHigh_voltage, State.gsHigh_hbDrive⟩
    rw [exec_gsOvervoltage, State.gsOver_of_dead up on above dead]

end Sys2Proof.Machine
end

section
/-! SUPPORT. The failure signatures of the sensing inputs (R175, R178, R180, R183): what each does, and when it does nothing (O36). -/

namespace Sys2Proof.Machine

/-! ## The commands -/

section
variable {s : State}

theorem exec_sdStuck (n : Fin 32) : exec (.sdStuck n) s = .next (s.sdStuck n.val) := rfl

theorem exec_sdOutOfRange (n : Fin 32) (x : BitVec 32) : exec (.sdOutOfRange n x) s = .next (s.sdRange n.val (F32.toRat x.toNat)) := rfl

theorem exec_sdclkMismatch (k : Fin 4) : exec (.sdclkMismatch k) s = .next (s.clkFault k.val) := rfl

theorem exec_vdcImplausible (h : Fin 24) (v : BitVec 32) : exec (.vdcImplausible h v) s = .next (s.vdcImplausible h.val v.toNat) := rfl

theorem exec_vdcFullScale (n : Fin 4) : exec (.vdcFullScale n) s = .next (s.vdcFull n.val) := rfl

theorem exec_lvSenseAtRail (n : Fin 36) : exec (.lvSenseAtRail n) s = .next (s.lvAtRail n.val) := rfl

end

section
variable {s : State} {n : Nat}

/-! ## The SD inputs and their clocks (R183) -/

theorem State.sdStuck_of_valid (on : s.sensing = true) (valid : s.oN (Obj.sdState n) = 1) :
    s.sdStuck n = (s.put (Obj.sdState n) 2).raise FC.snsSdstuck n := if_pos ⟨on, valid⟩

theorem State.sdStuck_of_quiet (h : s.sensing = false ∨ s.oN (Obj.sdState n) ≠ 1) : s.sdStuck n = s := by
  refine if_neg fun ⟨on, valid⟩ => ?_
  rcases h with off | other
  · simp [off] at on
  · exact other valid

/-- A main-filter output beyond the limit, counted and delivered. -/
def State.sdCounted (n : Nat) (x : Rat) (s : State) : State := (s.incSat (Obj.sdRangeCount n)).putF (Obj.sdValue n) (s.sdAmps n x)

section
variable {x : Rat}

theorem State.sdRange_of_first (on : s.sensing = true) (valid : s.oN (Obj.sdState n) = 1) (beyond : s.cF (Obj.sdRangeLimit n) < |x|)
    (first : s.sdRaised.getD n none = none) :
    s.sdRange n x = { s.sdCounted n x with sdRaised := s.sdRaised.set n (some s.mono) }.raise FC.snsSdrange n := by
  refine (if_pos ⟨on, valid, beyond⟩).trans ?_
  extract_lets t due
  have unraised : t.sdRaised.getD n none = none := first
  exact if_pos (by simp only [due, unraised])

/-- Within the second after a raise an output beyond the limit is counted without another. -/
theorem State.sdRange_of_repeat {r : Nat} (on : s.sensing = true) (valid : s.oN (Obj.sdState n) = 1)
    (beyond : s.cF (Obj.sdRangeLimit n) < |x|) (raised : s.sdRaised.getD n none = some r) (early : s.mono < r + 1000000000) :
    s.sdRange n x = s.sdCounted n x := by
  refine (if_pos ⟨on, valid, beyond⟩).trans ?_
  extract_lets t due
  have before : t.sdRaised.getD n none = some r := raised
  have recent : t.mono < r + 1000000000 := early
  exact if_neg (by simp [due, -List.getD_eq_getElem?_getD, before, recent])

theorem State.sdRange_of_quiet (h : s.sensing = false ∨ s.oN (Obj.sdState n) ≠ 1 ∨ |x| ≤ s.cF (Obj.sdRangeLimit n)) :
    s.sdRange n x = s := by
  refine if_neg fun ⟨on, valid, beyond⟩ => ?_
  rcases h with off | other | within
  · simp [off] at on
  · exact other valid
  · exact within.not_gt beyond

end

/-- A clock has users when an enabled input names it (R164). -/
theorem State.clkUsers_ne_nil {k : Nat} (used : (List.range 32).any (fun n => s.cN (Obj.sdEnable n) == 1 && s.cN (Obj.sdClock n) == k) = true) :
    s.clkUsers k ≠ [] := by
  obtain ⟨n, hn, user⟩ := List.any_eq_true.mp used
  exact List.ne_nil_of_mem (List.mem_filter.mpr ⟨hn, user⟩)

theorem State.clkFault_of_used {k : Nat} (on : s.sensing = true) (used : s.clkUsers k ≠ []) :
    s.clkFault k = (s.forAll (s.clkUsers k) (fun n => State.put (Obj.sdState n) 3)).raise FC.snsSdclk k := if_pos ⟨on, used⟩

theorem State.clkFault_of_off {k : Nat} (off : s.sensing = false) : s.clkFault k = s := if_neg fun ⟨on, _⟩ => by simp [off] at on

/-! ## The link inputs (R175) -/

theorem State.vdcImplausible_of_above {h v : Nat} (on : s.sensing = true) (enabled : s.cN (Obj.vdcEnable (s.cN (Obj.hbLinkInput h))) = 1)
    (above : s.aboveLink h v = true) :
    s.vdcImplausible h v = (s.put (Obj.vdcState (s.cN (Obj.hbLinkInput h))) 2).raise FC.snsVdcimpl (s.cN (Obj.hbLinkInput h)) :=
  if_pos ⟨on, enabled, above⟩

theorem State.vdcImplausible_of_quiet {h v : Nat} (quiet : s.cN (Obj.vdcEnable (s.cN (Obj.hbLinkInput h))) ≠ 1 ∨ s.aboveLink h v = false) :
    s.vdcImplausible h v = s := by
  refine if_neg fun ⟨_, enabled, above⟩ => ?_
  rcases quiet with other | below
  · exact other enabled
  · simp [below] at above

theorem State.vdcFull_of_enabled (on : s.sensing = true) (enabled : s.cN (Obj.vdcEnable n) = 1) :
    s.vdcFull n = ((s.put (Obj.vdcState n) 3).putF (Obj.vdcValue n) (s.vdcScale n)).raise FC.snsVdcrange n := if_pos ⟨on, enabled⟩

theorem State.vdcFull_of_disabled (disabled : s.cN (Obj.vdcEnable n) = 0) : s.vdcFull n = s :=
  if_neg fun ⟨_, enabled⟩ => by simp [disabled] at enabled

/-! ## The AIN inputs (R177, R178) -/

/-- The ball voltage is the last object that a conversion writes. -/
theorem State.ainTake_ballVoltage (v : Rat) : (s.ainTake n v).oN (Obj.ainBallVoltage n) = F32.ofRat (s.ainVolts n v) := by
  rw [State.ainTake, State.oN, State.fresh_live]
  exact (State.oN_put_same _ _ _).trans (Int.toNat_natCast _)

theorem State.ainRangeOut_of_invalid (outside : s.ainValid n = false) : s.ainRangeOut n = (s.put (Obj.ainState n) 2).raise FC.snsAinrange n :=
  if_neg (by simp [outside])

theorem State.ainRangeIn_of_valid (inside : s.ainValid n = true) : s.ainRangeIn n = s.put (Obj.ainState n) 1 := if_pos inside

/-- An AIN converts only where the converters run and the input is enabled (R185, R186). -/
theorem State.ain_not_converting (h : s.sensing = false ∨ s.cN (Obj.ainMode n) = 0) : ¬ (s.sensing = true ∧ s.cN (Obj.ainMode n) ≠ 0) := by
  rintro ⟨on, enabled⟩
  rcases h with off | disabled
  · simp [off] at on
  · exact enabled disabled

/-! ## The LV sense and output inputs (R180) -/

theorem State.lvAtRail_of_on (on : s.sensing = true) : s.lvAtRail n =
    if n < 16 then ((s.put (Obj.lvSenseState n) (setBit (s.oN (Obj.lvSenseState n)) 0 : Nat)).incSat (Obj.lvSenseRangeCount n)).raise FC.snsLvrange n
    else if n < 32 then
      ((s.put (Obj.lvSenseState (n - 16)) (setBit (s.oN (Obj.lvSenseState (n - 16))) 1 : Nat)).incSat (Obj.lvSenseRangeCount (n - 16))).raise
        FC.snsLvrange (n - 16)
    else (s.incSat (Obj.voutRangeCount (n - 32))).raise FC.snsLvrange (n - 16) := if_neg (not_not.mpr on)

theorem State.lvAtRail_of_off (off : s.sensing = false) : s.lvAtRail n = s := if_pos (by simp [off])

end

/-- Settles O36: each signature's guard picks its case. -/
theorem sensingFailuresAreRaised : Obligations.SensingFailuresAreRaised := by
  refine ⟨?_, ?_, ?_, ?_, ?_, ?_, ?_, ?_, ?_, ?_, fun _ _ _ _ => State.ainTake_ballVoltage _, ?_, ?_, ?_, ?_, ?_, ?_, ?_, ?_, ?_⟩
  · intro s n on valid
    rw [exec_sdStuck, State.sdStuck_of_valid on valid]
  · intro s n x on valid beyond first
    rw [exec_sdOutOfRange, State.sdRange_of_first on valid beyond first, State.sdCounted]
  · intro s n x r on valid beyond raised early
    rw [exec_sdOutOfRange, State.sdRange_of_repeat on valid beyond raised early, State.sdCounted]
  · intro s k on used
    rw [exec_sdclkMismatch, State.clkFault_of_used on (State.clkUsers_ne_nil used), State.clkUsers]
  · intro s h v on enabled above
    rw [exec_vdcImplausible, State.vdcImplausible_of_above on enabled (decide_eq_true above)]
  · intro s h v quiet
    rw [exec_vdcImplausible, State.vdcImplausible_of_quiet (quiet.imp_right fun below => decide_eq_false below.not_gt)]
  · intro s n on enabled
    rw [exec_vdcFullScale, State.vdcFull_of_enabled on enabled]
  · intro s n disabled
    rw [exec_vdcFullScale, State.vdcFull_of_disabled disabled]
  · rintro s n v u on enabled rfl outside
    rw [← State.ainRangeOut_of_invalid outside]
    exact congrArg Host.Outcome.next (if_pos ⟨on, enabled⟩)
  · rintro s n v u on enabled rfl inside
    rw [← State.ainRangeIn_of_valid inside]
    exact congrArg Host.Outcome.next (if_pos ⟨on, enabled⟩)
  · intro s n v quiet
    exact congrArg Host.Outcome.next (if_neg (State.ain_not_converting quiet))
  · intro s n v quiet
    exact congrArg Host.Outcome.next (if_neg (State.ain_not_converting quiet))
  · intro s n quiet
    rw [exec_sdStuck, State.sdStuck_of_quiet quiet]
  · intro s n x quiet
    rw [exec_sdOutOfRange, State.sdRange_of_quiet quiet]
  · intro s k off
    rw [exec_sdclkMismatch, State.clkFault_of_off off]
  · intro s n on isn
    rw [exec_lvSenseAtRail, State.lvAtRail_of_on on, if_pos isn]
  · rintro s n on ⟨notIsn, bst⟩
    rw [exec_lvSenseAtRail, State.lvAtRail_of_on on, if_neg notIsn.not_gt, if_pos bst]
  · intro s n on vout
    rw [exec_lvSenseAtRail, State.lvAtRail_of_on on, if_neg (by omega), if_neg vout.not_gt]
  · intro s n off
    rw [exec_lvSenseAtRail, State.lvAtRail_of_off off]

end Sys2Proof.Machine
end

section
/-! SUPPORT. First use, failure and stall of the rotor observers (R240 to R258): what each command does to an observer, and when it does
nothing (O39). -/

namespace Sys2Proof.Machine

/-! ## The commands -/

section
variable {s : State} {o : Fin 9}

theorem exec_observerStep_of_on (age : Byte) (on : s.obsOn o.val = true) : exec (.observerStep o age) s = .next (s.rotorStep o.val age.toNat) :=
  congrArg Host.Outcome.next (if_pos on)

theorem exec_observerStep_of_off (age : Byte) (off : s.obsOn o.val = false) : exec (.observerStep o age) s = .next s :=
  congrArg Host.Outcome.next (if_neg (by simp [off]))

theorem exec_catchCheckEnd : exec (.catchCheckEnd o) s = .next (s.catchEnd o.val) := rfl

theorem exec_injectionSettleEnd : exec (.injectionSettleEnd o) s = .next (s.settleEnd o.val) := rfl

theorem exec_polarityTestEnd : exec (.polarityTestEnd o) s = .next (s.polarityEnd o.val) := rfl

theorem exec_obsStartfail : exec (.obsStartfail o) s = .next (s.obsStartFail o.val) := rfl

theorem exec_obsReacqfail : exec (.obsReacqfail o) s = .next (s.obsReacqFail o.val) := rfl

theorem exec_testRestartDelay : exec (.testRestartDelay o) s = .next (s.testRestart o.val) := rfl

theorem exec_commStallTimeout : exec (.commStallTimeout o) s = .next (s.commStalled o.val) := rfl

end

/-! ## An observer's hidden part -/

section
variable {s : State} {o : Nat} {f : ObsX → ObsX}

theorem State.obsx_obsMod (h : o < s.obs.length) : (s.obsMod o f).obsx o = f (s.obsx o) := by
  simp [State.obsx, State.obsMod, modifyAt, h]

@[simp] theorem State.obsMod_obs_length : (s.obsMod o f).obs.length = s.obs.length := List.length_modify ..

@[simp] theorem State.obsx_put (k : Nat) (v : Int) : (s.put k v).obsx o = s.obsx o := rfl

@[simp] theorem State.obsx_fresh : s.fresh.obsx o = s.obsx o := rfl

/-- What of an observer's hidden part a regime, a blend and a warm-up leave alone. -/
def ObsX.standing (x : ObsX) : Bool × Bool × Nat := (x.testing, x.standstill, x.low)

theorem State.standing_obsMod (hf : ∀ x, (f x).standing = x.standing) : ((s.obsMod o f).obsx o).standing = (s.obsx o).standing := by
  by_cases h : o < s.obs.length
  · rw [State.obsx_obsMod h, hf]
  · simp [State.obsx, State.obsMod, modifyAt, h]

end

/-! ## A regime, a blend and a warm-up -/

section
variable {s : State} {o : Nat}

theorem State.obsSet_standing (r : Nat) : ((s.obsSet o r).obsx o).standing = (s.obsx o).standing := by
  unfold State.obsSet
  extract_lets t u
  have hu : (u.obsx o).standing = (s.obsx o).standing := by
    unfold u
    split
    · rfl
    · exact State.standing_obsMod fun _ => rfl
  split
  · exact hu
  · refine Eq.trans ?_ hu
    exact State.standing_obsMod fun _ => rfl

@[simp] theorem State.obsSet_obs_length (r : Nat) : (s.obsSet o r).obs.length = s.obs.length := by
  unfold State.obsSet
  split <;> split <;> simp

/-- Entering a regime writes the regime and ends the stall supervision and the AQR (R252, R258); no other object changes. -/
theorem State.obsSet_oN {r k : Nat} (stall : k ≠ Obj.commStallState o) (aqr : k ≠ Obj.angleQualityRatio o) (rms : k ≠ Obj.obsAngleErrorRms o) :
    (s.obsSet o r).oN k = (s.put (Obj.obsRegime o) r).oN k := by
  unfold State.obsSet
  split <;> split <;> simp only [State.oN_put_other _ _ rms, State.oN_put_other _ _ aqr, State.oN_put_other _ _ stall, State.obsMod_roN]

theorem State.obsSet_regime (r : Nat) : (s.obsSet o r).oN (Obj.obsRegime o) = r :=
  (State.obsSet_oN (key_ne (by decide)) (key_ne (by decide)) (key_ne (by decide))).trans (State.oN_put_same ..)

theorem State.obsSet_valid (r : Nat) : (s.obsSet o r).oN (Obj.obsValid o) = s.oN (Obj.obsValid o) :=
  (State.obsSet_oN (key_ne (by decide)) (key_ne (by decide)) (key_ne (by decide))).trans (State.oN_put_other _ _ (key_ne (by decide)))

theorem State.obsSet_permit (r : Nat) : (s.obsSet o r).oN (Obj.reversalPermit o) = s.oN (Obj.reversalPermit o) := by
  have rms : Obj.reversalPermit o ≠ Obj.obsAngleErrorRms o := by
    unfold Obj.reversalPermit Obj.obsAngleErrorRms key
    omega
  exact (State.obsSet_oN (key_ne (by decide)) (key_ne (by decide)) rms).trans (State.oN_put_other _ _ (key_ne (by decide)))

theorem State.obsBlend_standing (low emf freq : Nat) : ((s.obsBlend o low emf freq).obsx o).standing = (s.obsx o).standing :=
  (State.obsSet_standing _).trans (State.standing_obsMod fun _ => rfl)

theorem State.obsBlend_valid (low emf freq : Nat) : (s.obsBlend o low emf freq).oN (Obj.obsValid o) = s.oN (Obj.obsValid o) :=
  (State.obsSet_valid _).trans (by simp [State.obsShow, State.oN_put_other])

theorem State.obsWarm_standing : ((s.obsWarm o).obsx o).standing = (s.obsx o).standing := State.standing_obsMod fun _ => rfl

/-- The end of an observer's first use (R248, R249): a valid angle, on which the estimators start, and no test. -/
theorem State.obsFound_valid (angle freq : Nat) : (s.obsFound o angle freq).oN (Obj.obsValid o) = 1 := by
  have sup : Obj.obsValid o ≠ Obj.obsSupState o := key_ne (by decide)
  refine (State.oN_put_other _ _ sup).trans ((State.obsBlend_valid ..).trans ?_)
  exact State.oN_put_same ..

theorem State.obsFound_standing (h : o < s.obs.length) (angle freq : Nat) :
    ((s.obsFound o angle freq).obsx o).standing = (false, (s.obsx o).standstill, angle) := by
  refine State.obsWarm_standing.trans ((State.obsBlend_standing ..).trans ?_)
  rw [State.obsx_obsMod (by simpa [State.seed] using h), State.obsx_obsMod (by simpa [State.seed] using h), State.seed,
    State.obsx_obsMod (by simpa using h)]
  rfl

theorem State.obsFound_testing (h : o < s.obs.length) (angle freq : Nat) : ((s.obsFound o angle freq).obsx o).testing = false :=
  congrArg Prod.fst (State.obsFound_standing h angle freq)

theorem State.obsFound_low (h : o < s.obs.length) (angle freq : Nat) : ((s.obsFound o angle freq).obsx o).low = angle :=
  congrArg (fun x => x.2.2) (State.obsFound_standing h angle freq)

theorem State.obsPermit_oN_other {k : Nat} (h : k ≠ Obj.reversalPermit o) : (s.obsPermit o).oN k = s.oN k := by
  unfold State.obsPermit
  extract_lets p t
  split
  · split
    · exact State.oN_put_other _ _ h
    · split
      · exact State.oN_put_other _ _ h
      · rfl
  · exact State.oN_put_other _ _ h

@[simp] theorem State.obsPermit_obsx : (s.obsPermit o).obsx o = s.obsx o := by
  unfold State.obsPermit
  extract_lets p t
  split
  · split
    · rfl
    · split <;> rfl
  · rfl

/-! ## A test's start and its end without a result (R249 to R251) -/

theorem State.testBegin_oN (k : Nat) : (s.testBegin o).oN k = s.oN k := rfl

theorem State.testBegin_testing (h : o < s.obs.length) : ((s.testBegin o).obsx o).testing = true := by
  rw [State.testBegin, State.obsx_obsMod h]

theorem State.testBegin_standstill (h : o < s.obs.length) : ((s.testBegin o).obsx o).standstill = (s.obsx o).standstill := by
  rw [State.testBegin, State.obsx_obsMod h]

theorem State.testBegin_abandoned (h : o < s.obs.length) : ((s.testBegin o).obsx o).abandoned = (s.obsx o).abandoned := by
  rw [State.testBegin, State.obsx_obsMod h]

/-- The hidden part of an observer whose test is abandoned (R251). -/
def ObsX.abandon (o : Nat) (x : ObsX) : ObsX :=
  { x with
    testing := false, tries := 0, pulseAt := none, abandoned := decide (4 ≤ o)
    standstill := false, catchEmf := 0, catchAngle := none, turned := 0, turnTime := 0 }

/-- An actuator's or the pump's test is abandoned in regime 2 and changes the observer's hidden part alone. -/
theorem State.obsAbandon_of_actuator (rotor : 4 ≤ o) (regime : s.oN (Obj.obsRegime o) = 2) (testing : (s.obsx o).testing = true) :
    s.obsAbandon o = s.obsMod o (ObsX.abandon o) :=
  (if_pos ⟨regime, testing⟩).trans (if_neg rotor.not_gt)

end

/-! ## The catch check (R248) -/

section
variable {s : State} {o : Nat}

theorem State.catchEnd_of_quiet (other : s.oN (Obj.obsRegime o) ≠ 1) : s.catchEnd o = s := if_pos (.inr other)

/-- A standstill found: the observer keeps it and permits a reversal. -/
def State.stands (o : Nat) (s : State) : State := (s.obsMod o (fun x => { x with standstill := true })).put (Obj.reversalPermit o) 1

theorem State.stands_permit : (s.stands o).oN (Obj.reversalPermit o) = 1 := State.oN_put_same ..

theorem State.stands_standstill (h : o < s.obs.length) : ((s.stands o).obsx o).standstill = true := by
  rw [State.stands, State.obsx_put, State.obsx_obsMod h]

section
variable (on : s.obsOn o = true) (regime : s.oN (Obj.obsRegime o) = 1)
include on regime

theorem State.catchEnd_of_moving (emf : s.cF (Obj.obsCatchMinVoltage o) ≤ F32.toRat (s.obsx o).catchEmf) :
    s.catchEnd o = ((s.obsMod o (fun x => { x with standstill := false })).obsFound o (toUnsigned 32 (((s.obsx o).catchAngle.getD 0 : Int) +
      (if F32.neg (s.obsx o).catchFreq then 1073741824 else -1073741824))) (s.obsx o).catchFreq).obsPermit o :=
  (if_neg (by simp [on, regime])).trans (if_pos emf)

theorem State.catchEnd_of_still (emf : F32.toRat (s.obsx o).catchEmf < s.cF (Obj.obsCatchMinVoltage o)) :
    s.catchEnd o = if (s.obsChans o).any (fun c => s.drive c == .switching) then ((s.stands o).obsSet o 2).testBegin o else s.stands o :=
  (if_neg (by simp [on, regime])).trans (if_neg emf.not_ge)

end

theorem State.stands_obsSet_standstill (h : o < s.obs.length) (r : Nat) : (((s.stands o).obsSet o r).obsx o).standstill = true :=
  (congrArg (fun x => x.2.1) (State.obsSet_standing r)).trans (State.stands_standstill h)

/-! ## Settling and the pulses (R249, R250) -/

theorem State.settleEnd_of_quiet (other : s.oN (Obj.obsRegime o) ≠ 2) : s.settleEnd o = s := if_pos (.inr (.inl other))

/-- How far the axis has turned while the injection settled. -/
def ObsX.settleTurn (x : ObsX) : Nat := (toSigned 32 (x.track + 4294967296 - x.trackFrom.getD x.track)).natAbs

theorem ObsX.settleTurn_of_unturned {x : ObsX} (h : x.trackFrom = some x.track) : x.settleTurn = 0 := by
  simp [ObsX.settleTurn, h, toSigned]

section
variable (on : s.obsOn o = true) (regime : s.oN (Obj.obsRegime o) = 2) (testing : (s.obsx o).testing = true)
include on regime testing

section
variable (waiting : (s.obsx o).pulseAt = none) (inj : s.cN (Obj.obsInjEnable o) ≠ 0)
include waiting inj

theorem State.settleEnd_of_settled (settled : o < 4 ∨ (s.obsx o).settleTurn ≤ 357913941) :
    s.settleEnd o = (s.put (Obj.obsAngle o) (s.obsx o).track).obsMod o (fun x => { x with pulseAt := some s.mono, peaks := List.replicate 12 0 }) :=
  (if_neg (by simp [on, regime, testing, waiting, inj])).trans
    (if_neg fun ⟨rotor, turned⟩ => settled.elim rotor.not_gt turned.not_ge)

theorem State.settleEnd_of_turned (rotor : 4 ≤ o) (turned : 357913941 < (s.obsx o).settleTurn) : s.settleEnd o = s.obsAbandon o :=
  (if_neg (by simp [on, regime, testing, waiting, inj])).trans (if_pos ⟨rotor, turned⟩)

end

theorem State.polarityEnd_of_plain (plain : s.cN (Obj.obsInjEnable o) = 0) :
    ∃ angle, s.polarityEnd o = ((s.obsFound o angle 0).fresh).obsPermit o :=
  ⟨_, (if_neg (by simp [on, regime, testing])).trans (if_pos plain)⟩

section
variable {p0 p1 : Rat} (inj : s.cN (Obj.obsInjEnable o) ≠ 0) (first : p0 = F32.toRat ((s.obsx o).peaks.getD 0 0))
  (second : p1 = F32.toRat ((s.obsx o).peaks.getD 1 0))
include inj first second

theorem State.polarityEnd_of_apart (apart : s.cF (Obj.obsPolarityMargin o) / 100 * max p0 p1 ≤ |p0 - p1|) :
    s.polarityEnd o =
      (s.obsFound o (if p1 < p0 then s.oN (Obj.obsAngle o) else (s.oN (Obj.obsAngle o) + 2147483648) % 4294967296) 0).obsPermit o := by
  subst first second
  exact (if_neg (by simp [on, regime, testing])).trans ((if_neg inj).trans (if_pos apart))

section
variable (close : |p0 - p1| < s.cF (Obj.obsPolarityMargin o) / 100 * max p0 p1)
include close

theorem State.polarityEnd_of_third (third : 2 ≤ (s.obsx o).tries) :
    s.polarityEnd o = (((s.obsSet o 8).obsMod o (fun x => { x with testing := false, pulseAt := none })).raise FC.obsPolarity o).bringUpFails o := by
  subst first second
  exact (if_neg (by simp [on, regime, testing])).trans ((if_neg inj).trans ((if_neg close.not_ge).trans (if_pos third)))

theorem State.polarityEnd_of_repeat (early : (s.obsx o).tries < 2) :
    s.polarityEnd o = s.obsMod o (fun x => { x with tries := x.tries + 1, pulseAt := some s.mono, peaks := List.replicate 12 0 }) := by
  subst first second
  exact (if_neg (by simp [on, regime, testing])).trans ((if_neg inj).trans ((if_neg close.not_ge).trans (if_neg early.not_ge)))

end

end

end

theorem State.polarityEnd_of_quiet (other : s.oN (Obj.obsRegime o) ≠ 2) : s.polarityEnd o = s := if_pos (.inr (.inl other))

/-! ## The restart of a test (R251) -/

theorem State.testRestart_of_quiet (whole : (s.obsx o).abandoned = false) : s.testRestart o = s :=
  if_neg fun ⟨_, _, abandoned⟩ => by simp [whole] at abandoned

/-- An abandoned test is forgotten, and begins again where every channel switches. -/
theorem State.testRestart_of_abandoned (on : s.obsOn o = true) (rotor : 4 ≤ o) (abandoned : (s.obsx o).abandoned = true) :
    s.testRestart o = if (s.obsChans o).all (fun c => s.drive c == .switching) then (s.obsMod o (fun x => { x with abandoned := false })).testBegin o
      else s.obsMod o (fun x => { x with abandoned := false }) := if_pos ⟨on, rotor, abandoned⟩

/-! ## Failures (R251, R256) and the end of the request for M3 that waits (R44) -/

theorem State.obsStartFail_of_late (on : s.obsOn o = true) (unknown : s.oN (Obj.obsValid o) = 0)
    (regime : s.oN (Obj.obsRegime o) = 1 ∨ s.oN (Obj.obsRegime o) = 2) :
    s.obsStartFail o = (((s.obsSet o 8).obsMod o (fun x => { x with testing := false, pulseAt := none })).raise FC.obsStartfail o).bringUpFails o :=
  if_pos ⟨on, unknown, regime⟩

theorem State.obsStartFail_of_quiet (other : s.oN (Obj.obsRegime o) ≠ 1 ∧ s.oN (Obj.obsRegime o) ≠ 2) : s.obsStartFail o = s :=
  if_neg fun ⟨_, _, regime⟩ => regime.elim other.1 other.2

theorem State.obsReacqFail_of_late (on : s.obsOn o = true) (regime : s.oN (Obj.obsRegime o) = 7) :
    s.obsReacqFail o = (((s.obsSet o 8).put (Obj.obsValid o) 0).raise FC.obsReacqfail o).bringUpFails o := if_pos ⟨on, regime⟩

theorem State.obsReacqFail_of_quiet (other : s.oN (Obj.obsRegime o) ≠ 7) : s.obsReacqFail o = s := if_neg fun ⟨_, regime⟩ => other regime

/-! ## The stall (R258) -/

theorem State.commStalled_of_quiet (other : s.oN (Obj.commStallState o) ≠ 1) : s.commStalled o = s := if_neg fun ⟨_, timed⟩ => other timed

/-- The signature declared and counted. -/
def State.stallDeclared (o : Nat) (s : State) : State := (s.put (Obj.commStallState o) 2).incSat (Obj.commStallCount o)

section
variable (on : s.obsOn o = true) (timed : s.oN (Obj.commStallState o) = 1)
include on timed

theorem State.commStalled_of_machine (machine : o < 4) : s.commStalled o = (s.stallDeclared o).raise FC.obsStall o := by
  refine (if_pos ⟨on, timed⟩).trans ((if_neg (by omega)).trans ((if_neg (by omega)).trans ?_))
  exact if_pos machine

theorem State.commStalled_of_actuator (actuator : 4 ≤ o ∧ o < 8) : s.commStalled o = (s.stallDeclared o).gaSignature (o - 4) := by
  have plain : s.stallSignature o = s.stallDeclared o := (if_neg (by omega)).trans (if_neg (by omega))
  rw [← plain]
  exact (if_pos ⟨on, timed⟩).trans (if_pos actuator)

end

theorem State.commStalled_of_pump (on : s.obsOn 8 = true) (timed : s.oN (Obj.commStallState 8) = 1) :
    s.commStalled 8 = ((s.stallDeclared 8).raise FC.obsLocked 8).pumpLocked := if_pos ⟨on, timed⟩

end

/-- Settles O39: each command's guard picks its case; a regime, a blend and a warm-up leave the test and the angle found (`ObsX.standing`). -/
theorem observerEventsMoveTheRegime : Obligations.ObserverEventsMoveTheRegime := by
  refine ⟨?_, ?_, ?_, ?_, ?_, ?_, ?_, ?_, ?_, ?_, ?_, ?_, ?_, ?_, ?_, ?_, ?_, ?_, ?_, ?_, ?_, ?_, ?_, ?_, ?_, ?_, ?_⟩
  · intro s o a on
    rw [exec_observerStep_of_on a on, State.rotorStep]
  · intro s o a off
    rw [exec_observerStep_of_off a off]
  · intro s o on regime emf rest
    rw [exec_catchCheckEnd, State.catchEnd_of_still on regime emf, if_neg (Bool.eq_false_iff.mp rest), State.stands]
  · intro s o on regime emf switching length
    have known : o.val < s.obs.length := by omega
    refine ⟨((s.stands o.val).obsSet o.val 2).testBegin o.val, ?_, ?_, ?_, ?_, ?_⟩
    · rw [exec_catchCheckEnd, State.catchEnd_of_still on regime emf, if_pos switching]
    · rw [State.testBegin_oN, State.obsSet_regime]
    · rw [State.testBegin_oN, State.obsSet_permit, State.stands_permit]
    · exact State.testBegin_testing (by simpa [State.stands] using known)
    · rw [State.testBegin_standstill (by simpa [State.stands] using known), State.stands_obsSet_standstill known]
  · intro s o on regime emf
    rw [exec_catchCheckEnd, State.catchEnd_of_moving on regime emf]
  · intro s o a f ho length
    have known : o < s.obs.length := by omega
    exact ⟨State.obsFound_valid a f, State.obsFound_testing known a f, State.obsFound_low known a f⟩
  · intro s o other
    rw [exec_catchCheckEnd, State.catchEnd_of_quiet other]
  · intro s o on regime testing waiting inj settled
    have unturned := settled.imp_right fun h => (ObsX.settleTurn_of_unturned h).trans_le (Nat.zero_le 357913941)
    rw [exec_injectionSettleEnd, State.settleEnd_of_settled on regime testing waiting inj unturned]
  · intro s o on regime testing waiting inj rotor turned length
    refine ⟨s.obsMod o.val (ObsX.abandon o.val), ?_, ?_, ?_, rfl, rfl⟩
    · rw [exec_injectionSettleEnd, State.settleEnd_of_turned on regime testing waiting inj rotor turned,
        State.obsAbandon_of_actuator rotor regime testing]
    · rw [State.obsx_obsMod (by omega), ObsX.abandon]
    · rw [State.obsx_obsMod (by omega), ObsX.abandon]
      exact decide_eq_true rotor
  · intro s o other
    rw [exec_injectionSettleEnd, State.settleEnd_of_quiet other]
  · intro s o p0 p1 on regime testing inj first second apart
    rw [exec_polarityTestEnd, State.polarityEnd_of_apart on regime testing inj first second apart]
  · intro s o p0 p1 on regime testing inj first second close early
    rw [exec_polarityTestEnd, State.polarityEnd_of_repeat on regime testing inj first second close early]
  · intro s o p0 p1 on regime testing inj first second close third
    rw [exec_polarityTestEnd, State.polarityEnd_of_third on regime testing inj first second close third]
  · intro s o on regime testing plain length
    obtain ⟨angle, ended⟩ := State.polarityEnd_of_plain on regime testing plain
    refine ⟨_, by rw [exec_polarityTestEnd, ended], ?_, ?_⟩
    · rw [State.obsPermit_oN_other (key_ne (by decide)), State.fresh_roN, State.obsFound_valid]
    · rw [State.obsPermit_obsx, State.obsx_fresh, State.obsFound_testing (by omega)]
  · intro s o other
    rw [exec_polarityTestEnd, State.polarityEnd_of_quiet other]
  · intro s o on unknown regime
    rw [exec_obsStartfail, State.obsStartFail_of_late on unknown regime]
  · intro s o other
    rw [exec_obsStartfail, State.obsStartFail_of_quiet other]
  · intro s o
    rw [State.bringUpFails]
  · intro s _
    obtain ⟨result, target, ended, _⟩ := s.m3Fail_ends
    exact ⟨congrArg Int.toNat result, congrArg Int.toNat target, ended⟩
  · intro s o on regime
    rw [exec_obsReacqfail, State.obsReacqFail_of_late on regime]
  · intro s o other
    rw [exec_obsReacqfail, State.obsReacqFail_of_quiet other]
  · intro s o on rotor abandoned length
    have known : o.val < s.obs.length := by omega
    refine ⟨_, by rw [exec_testRestartDelay, State.testRestart_of_abandoned on rotor abandoned], ?_⟩
    split
    · next allSwitch =>
      refine ⟨?_, rfl, rfl, ?_⟩
      · rw [State.testBegin_abandoned (by simpa using known), State.obsx_obsMod known]
      · rw [State.testBegin_testing (by simpa using known), allSwitch, Bool.true_or]
    · next notAll =>
      refine ⟨by rw [State.obsx_obsMod known], rfl, rfl, ?_⟩
      rw [State.obsx_obsMod known, Bool.eq_false_iff.mpr notAll, Bool.false_or]
  · intro s o whole
    rw [exec_testRestartDelay, State.testRestart_of_quiet whole]
  · intro s o on timed machine
    rw [exec_commStallTimeout, State.commStalled_of_machine on timed machine, State.stallDeclared]
  · intro s o on timed actuator
    rw [exec_commStallTimeout, State.commStalled_of_actuator on timed actuator, State.stallDeclared]
  · intro s o on timed pump
    rw [exec_commStallTimeout, pump, State.commStalled_of_pump (pump ▸ on) (pump ▸ timed), State.stallDeclared]
  · intro s o other
    rw [exec_commStallTimeout, State.commStalled_of_quiet other]

end Sys2Proof.Machine
end

section
/-! SUPPORT. Safe plans (R16, R273), the stages of a link and its chopper (R284 to R286), and the ends of a zero hold and of a window of
the open-phase test (R280 to R282) (O40). -/

namespace Sys2Proof.Machine

/-! ## The commands -/

section
variable {s : State} {l m : Fin 4} {v : BitVec 32}

theorem exec_safePlanEvaluation : exec .safePlanEvaluation s = .next s.evaluatePlans := rfl

theorem exec_linkOv1 : exec (.linkOv1 l v) s = .next ((s.linkMeasured l.val v.toNat).linkOv1 l.val) := rfl

theorem exec_linkOv2 : exec (.linkOv2 l v) s = .next (((s.linkMeasured l.val v.toNat).linkOv1 l.val).linkOv2 l.val) := rfl

theorem exec_linkOv3 :
    exec (.linkOv3 l v) s = .next ((((s.linkMeasured l.val v.toNat).linkOv1 l.val).linkOv2 l.val).linkOv3 l.val) := rfl

theorem exec_linkBelowOv3 : exec (.linkBelowOv3 l v) s = .next ((s.linkMeasured l.val v.toNat).linkBelowOv3 l.val) := rfl

theorem exec_linkBelowOv2 :
    exec (.linkBelowOv2 l v) s = .next (((s.linkMeasured l.val v.toNat).linkBelowOv3 l.val).linkBelowOv2 l.val) := rfl

theorem exec_linkBelowOv1 :
    exec (.linkBelowOv1 l v) s = .next ((((s.linkMeasured l.val v.toNat).linkBelowOv3 l.val).linkBelowOv2 l.val).linkBelowOv1 l.val) := rfl

theorem exec_trcChopper : exec (.trcChopper l) s = .next (s.chopperFault l.val) := rfl

theorem exec_openPhaseWindowEnd : exec (.openPhaseWindowEnd m) s = .next (s.openWindow m.val) := rfl

theorem exec_zeroHoldEnd : exec (.zeroHoldEnd m) s = .next (s.zeroHoldEnd m.val) := rfl

end

/-! ## A committed plan (R16, R148, R273) -/

section
variable {s : State} {m : Nat}

/-- A capture of the keepers' duties writes GsKeeperDuty alone. -/
theorem State.captureDuty_keeps {α : Type} {p : State → α} (hp : ∀ (t : State) (i : Nat) (v : Int), p (t.put (Obj.gsKeeperDuty i) v) = p t) :
    p (s.captureDuty m) = p s :=
  State.forAll_keeps (fun _ _ => (apply_ite p ..).trans (ite_eq_right_iff.mpr fun _ => hp ..)) s

theorem State.captureDuty_isl : (s.captureDuty m).isl = s.isl := State.captureDuty_keeps fun _ _ _ => rfl

theorem State.captureDuty_hbDrive : (s.captureDuty m).hbDrive = s.hbDrive := State.captureDuty_keeps fun _ _ _ => rfl

theorem State.captureDuty_o {i j : Nat} (h : j % 256 ≠ 11) : (s.captureDuty m).o (key i j) = s.o (key i j) :=
  State.captureDuty_keeps (p := fun t => t.o (key i j)) fun t _ v => t.o_put_other v (key_ne h)

/-- The plan written and committed, and the plan record. -/
def State.planRecorded (m : Nat) (a : PlanAct) (w : Nat) (s : State) : State :=
  let t := (s.planWrite m (some a)).planCommit m
  (((t.put (Obj.safePlanAction m) a.num).put (Obj.safePlanReason m) w).put (Obj.safePlanCommitTime m) s.now).inc32 (Obj.safePlanCommitCount m)

variable {a : PlanAct} {w : Nat}

/-- The commit writes objects of the plan record alone. -/
theorem State.planRecorded_o_other {j : Nat} (h : j / 256 ≠ 0x4900 + m) : (s.planRecorded m a w).o j = s.o j := by
  have other {sub : Nat} (small : sub < 256) : j ≠ key (0x4900 + m) sub := by
    unfold key
    omega
  rw [State.planRecorded, State.inc32_eq, State.o_put_other _ _ (other (by decide)), State.o_put_other _ _ (other (by decide)),
    State.o_put_other _ _ (other (by decide)), State.o_put_other _ _ (other (by decide))]
  rfl

theorem State.planRecorded_mode (h : m < 4) : (s.planRecorded m a w).mode = s.mode := congrArg Int.toNat (State.planRecorded_o_other (by
  unfold Obj.modeState key
  omega))

theorem State.planRecorded_held : (s.planRecorded m a w).isl.held = s.isl.held := rfl

theorem State.planRecorded_action : (s.planRecorded m a w).o (Obj.safePlanAction m) = a.num := by
  rw [State.planRecorded, State.inc32_eq, State.o_put_other _ _ (key_ne (by decide)), State.o_put_other _ _ (key_ne (by decide)),
    State.o_put_other _ _ (key_ne (by decide)), State.o_put_same]

theorem State.planRecorded_reason : (s.planRecorded m a w).o (Obj.safePlanReason m) = w := by
  rw [State.planRecorded, State.inc32_eq, State.o_put_other _ _ (key_ne (by decide)), State.o_put_other _ _ (key_ne (by decide)),
    State.o_put_same]

theorem State.planRecorded_time : (s.planRecorded m a w).o (Obj.safePlanCommitTime m) = s.now := by
  rw [State.planRecorded, State.inc32_eq, State.o_put_other _ _ (key_ne (by decide)), State.o_put_same]

theorem State.planRecorded_plans (h : m < s.isl.pendingPlans.length) : (s.planRecorded m a w).isl.plans = s.isl.plans.set m (some a) := by
  have written : (s.isl.pendingPlans.set m (some a)).getD m none = some a := by simp [h]
  exact congrArg (s.isl.plans.set m) written

/-- A commit for a machine that the island does not control. -/
theorem State.commitPlan_of_free (h : m < 4) (mode : s.mode ≠ 9) (free : s.isl.held.contains (.traction m) = false) :
    s.commitPlan m a w = (s.planRecorded m a w).captureDuty m := by
  have still : ((s.planRecorded m a w).captureDuty m).mode = s.mode :=
    (congrArg Int.toNat (State.captureDuty_o (by decide))).trans (State.planRecorded_mode h)
  have held : ((s.planRecorded m a w).captureDuty m).isl.held = s.isl.held :=
    (congrArg Island.held State.captureDuty_isl).trans State.planRecorded_held
  refine if_neg fun ⟨controls, _⟩ => ?_
  rcases controls with nine | claimed
  · exact mode (still.symm.trans nine)
  · exact Bool.false_ne_true (free.symm.trans ((congrArg (List.contains · _) held.symm).trans claimed))

end

/-! ## An evaluation (R273) -/

section
variable {s : State}

theorem State.evaluatePlans_of_station (station : s.station = true) : s.evaluatePlans = s := if_pos (.inr station)

theorem State.evaluatePlans_of_on (on : s.engOn = true) (vehicle : s.station = false) :
    s.evaluatePlans =
      let t := (s.when s.planLate (State.incSat Obj.tracPlanLate)).forAll ((List.range 4).filter s.tracOn) State.evaluatePlan
      { t with planAt := some t.mono, linkPrev := (List.range 4).map (fun l => some (t.oN (Obj.vdcMean l))) } :=
  if_neg (by simp [on, vehicle])

end

/-! ## The stages of a link (R284, R285) -/

section
variable {s : State} {l v : Nat}

theorem State.vdcx_vdcMod {f : VdcX → VdcX} (h : l < s.snx.vdc.length) : (s.vdcMod l f).vdcx l = f (s.vdcx l) := by
  simp [State.vdcx, State.vdcMod, State.snxMod, modifyAt, h]

/-- The voltage measured is the one that the monitor judges. -/
theorem State.linkVolts_linkMeasured (h : l < s.snx.vdc.length) : (s.linkMeasured l v).linkVolts l = F32.toRat v := by
  rw [State.linkVolts, State.linkMeasured, State.vdcx_vdcMod h]
  simp

/-! A stage is neither entered nor left from another one. -/

theorem State.linkOv1_of_other (other : s.oN (Obj.tracOvStage l) ≠ 0) : (s.linkMeasured l v).linkOv1 l = s.linkMeasured l v :=
  if_neg fun ⟨_, stage, _⟩ => other stage

theorem State.linkOv2_of_other (other : s.oN (Obj.tracOvStage l) ≠ 1) : (s.linkMeasured l v).linkOv2 l = s.linkMeasured l v :=
  if_neg fun ⟨_, stage, _⟩ => other stage

theorem State.linkOv3_of_other (other : s.oN (Obj.tracOvStage l) ≠ 2) : (s.linkMeasured l v).linkOv3 l = s.linkMeasured l v :=
  if_neg fun ⟨_, stage, _⟩ => other stage

theorem State.linkBelowOv3_of_other (other : s.oN (Obj.tracOvStage l) ≠ 3) : (s.linkMeasured l v).linkBelowOv3 l = s.linkMeasured l v :=
  if_neg fun ⟨_, stage, _⟩ => other stage

theorem State.linkBelowOv2_of_other (other : s.oN (Obj.tracOvStage l) ≠ 2) : (s.linkMeasured l v).linkBelowOv2 l = s.linkMeasured l v :=
  if_neg fun ⟨_, stage, _⟩ => other stage

theorem State.linkBelowOv1_of_other (other : s.oN (Obj.tracOvStage l) ≠ 1) : (s.linkMeasured l v).linkBelowOv1 l = s.linkMeasured l v :=
  if_neg fun ⟨_, stage, _⟩ => other stage

theorem State.linkOv1_of_low (low : (s.linkMeasured l v).linkVolts l < s.cF (Obj.tracOv1 l)) :
    (s.linkMeasured l v).linkOv1 l = s.linkMeasured l v :=
  if_neg fun ⟨_, _, high⟩ => low.not_ge high

section
variable (on : s.linkOn l = true)
include on

theorem State.linkOv1_of_reached (stage : s.oN (Obj.tracOvStage l) = 0) (high : s.cF (Obj.tracOv1 l) ≤ (s.linkMeasured l v).linkVolts l) :
    (s.linkMeasured l v).linkOv1 l = ((s.linkMeasured l v).put (Obj.tracOvStage l) 1).raise FC.trcOv1 l := if_pos ⟨on, stage, high⟩

theorem State.linkOv2_of_reached (stage : s.oN (Obj.tracOvStage l) = 1) (high : s.cF (Obj.tracOv2 l) ≤ (s.linkMeasured l v).linkVolts l) :
    (s.linkMeasured l v).linkOv2 l = (((s.linkMeasured l v).put (Obj.tracOvStage l) 2).chopperRun l).raise FC.trcOv2 l :=
  if_pos ⟨on, stage, high⟩

theorem State.linkOv3_of_reached (stage : s.oN (Obj.tracOvStage l) = 2)
    (high : s.oF (Obj.tracOv3Effective l) ≤ (s.linkMeasured l v).linkVolts l) :
    (s.linkMeasured l v).linkOv3 l = (((s.linkMeasured l v).put (Obj.tracOvStage l) 3).hardwareAsc l).raise FC.trcOv3 l :=
  if_pos ⟨on, stage, high⟩

theorem State.linkBelowOv3_of_under (stage : s.oN (Obj.tracOvStage l) = 3)
    (low : (s.linkMeasured l v).linkVolts l < s.oF (Obj.tracOv3Effective l) - s.cF (Obj.tracOvHysteresis l)) :
    (s.linkMeasured l v).linkBelowOv3 l = (s.linkMeasured l v).put (Obj.tracOvStage l) 2 := if_pos ⟨on, stage, decide_eq_true low⟩

theorem State.linkBelowOv2_of_under (stage : s.oN (Obj.tracOvStage l) = 2)
    (low : (s.linkMeasured l v).linkVolts l < s.cF (Obj.tracOv2 l) - s.cF (Obj.tracOvHysteresis l)) :
    (s.linkMeasured l v).linkBelowOv2 l = ((s.linkMeasured l v).put (Obj.tracOvStage l) 1).chopperRest l :=
  if_pos ⟨on, stage, decide_eq_true low⟩

theorem State.linkBelowOv1_of_under (stage : s.oN (Obj.tracOvStage l) = 1)
    (low : (s.linkMeasured l v).linkVolts l < s.cF (Obj.tracOv1 l) - s.cF (Obj.tracOvHysteresis l)) :
    (s.linkMeasured l v).linkBelowOv1 l = (s.linkMeasured l v).put (Obj.tracOvStage l) 0 := if_pos ⟨on, stage, decide_eq_true low⟩

end

/-! ## A chopper fault (R286) -/

/-- A link without chopper has OV2 as its effective OV3. -/
theorem State.showOv3_of_none (absent : s.oN (Obj.tracChopperAvailable l) ≠ 1) :
    s.showOv3 l = s.put (Obj.tracOv3Effective l) (s.c (Obj.tracOv2 l)) := by
  rw [State.showOv3, if_neg absent]

theorem State.chopperFault_of_available (on : s.linkOn l = true) (available : s.oN (Obj.tracChopperAvailable l) = 1) :
    s.chopperFault l = (((s.put (Obj.tracChopperAvailable l) 0).showOv3 l).hardwareAsc l).raise FC.trcChopper l := if_pos ⟨on, available⟩

theorem State.chopperFault_of_none (absent : s.oN (Obj.tracChopperAvailable l) ≠ 1) : s.chopperFault l = s :=
  if_neg fun ⟨_, available⟩ => absent available

end

/-! ## The ends of a zero hold and of a window of the open-phase test (R280 to R282) -/

section
variable {s : State} {m : Nat}

theorem State.tracx_tracMod {f : TracX → TracX} (h : m < s.trac.length) : (s.tracMod m f).tracx m = f (s.tracx m) := by
  simp [State.tracx, State.tracMod, modifyAt, h]

theorem State.zeroHoldEnd_of_none (absent : (s.tracx m).zeroHold = none) : s.zeroHoldEnd m = s := by
  rw [State.zeroHoldEnd, absent]
  exact ite_self s

/-- A window in which the test may not run only begins anew. -/
theorem State.openWindow_of_void (void : (s.tracx m).faint = true ∨ (s.tracx m).steps = 0 ∨ (s.tracx m).sumFired = true) :
    s.openWindow m = s.rmsBegin m :=
  if_pos (by tauto)

section
variable (on : s.tracOn m = true)
include on

theorem State.zeroHoldEnd_of_sensor {k : Nat} (hold : (s.tracx m).zeroHold = some (0, k)) : s.zeroHoldEnd m = s.raise FC.trcSensorloss m := by
  rw [State.zeroHoldEnd, if_neg (not_not.mpr on), hold]
  rfl

theorem State.zeroHoldEnd_of_set {k : Nat} (hold : (s.tracx m).zeroHold = some (1, k)) :
    s.zeroHoldEnd m = (s.tracMod m (fun x => { x with zeroHold := none })).dropSet m k := by
  rw [State.zeroHoldEnd, if_neg (not_not.mpr on), hold]
  rfl

theorem State.zeroHoldEnd_of_phase {k : Nat} (hold : (s.tracx m).zeroHold = some (2, k)) : s.zeroHoldEnd m = s.raise FC.trcOpenphase m := by
  rw [State.zeroHoldEnd, if_neg (not_not.mpr on), hold]
  rfl

/-- The one set of a three-phase machine has an open phase: its references are held at zero. -/
theorem State.openWindow_of_threePhase (sound : (s.tracx m).sumFired = false ∧ (s.tracx m).faint = false ∧ 0 < (s.tracx m).steps)
    (phases : s.cN (Obj.obsPhaseCount m) = 3) (whole : s.oN (Obj.tracDroppedSet m) = 0xFF) (isOpen : s.openIn m 0 = true) :
    s.openWindow m = (s.rmsBegin m).tracMod m (fun x => { x with zeroHold := some (2, 0) }) := by
  obtain ⟨noSum, strong, stepped⟩ := sound
  have runs : ¬ (¬ (s.rmsBegin m).tracOn m = true ∨ (s.tracx m).sumFired = true ∨ (s.tracx m).faint = true ∨ (s.tracx m).steps = 0) := by
    have stillOn : (s.rmsBegin m).tracOn m = true := on
    simp [stillOn, noSum, strong, stepped.ne']
  have hit : (List.range (3 / 3)).filter (s.openIn m) = [0] := by simp [isOpen]
  rw [State.openWindow, if_neg runs, phases, whole, hit]
  rfl

end

end

/-- Settles O40: a commit is the record's writes, which the capture of the keepers' duties leaves alone; each command's guard picks its case, and a
stage's command passes the stages before it unchanged. -/
theorem safePlansAndLinkStages : Obligations.SafePlansAndLinkStages := by
  refine ⟨?_, ?_, ?_, ?_, ?_, ?_, ?_, ?_, ?_, ?_, ?_, ?_, ?_, ?_, ?_, ?_, ?_, ?_, ?_, ?_, ?_, ?_, ?_, ?_, ?_, ?_⟩
  · intro s m a w hm length mode free
    obtain ⟨plans, pending⟩ := length
    have committed : ((s.planRecorded m a w).captureDuty m).isl.plans = s.isl.plans.set m (some a) :=
      (congrArg Island.plans State.captureDuty_isl).trans (State.planRecorded_plans (by omega))
    rw [State.commitPlan_of_free hm mode free, committed, State.captureDuty_o (by decide), State.captureDuty_o (by decide),
      State.captureDuty_o (by decide), State.captureDuty_hbDrive]
    refine ⟨?_, State.planRecorded_action, State.planRecorded_reason, State.planRecorded_time, rfl, fun j _ other => ?_⟩
    · simp [plans, hm]
    · simp [List.getD_eq_getElem?_getD, List.getElem?_set_ne other.symm]
  · intro s on vehicle
    rw [exec_safePlanEvaluation, State.evaluatePlans_of_on on vehicle]
  · intro s station
    rw [exec_safePlanEvaluation, State.evaluatePlans_of_station station]
  · exact fun s l v known => State.linkVolts_linkMeasured known
  · intro s l v on stage high
    rw [exec_linkOv1, State.linkOv1_of_reached on stage high]
  · intro s l v on stage high
    rw [exec_linkOv2, State.linkOv1_of_other (stage.trans_ne (by decide)), State.linkOv2_of_reached on stage high]
  · intro s l v on stage high
    rw [exec_linkOv3, State.linkOv1_of_other (stage.trans_ne (by decide)), State.linkOv2_of_other (stage.trans_ne (by decide)),
      State.linkOv3_of_reached on stage high]
  · intro s l v on stage low
    rw [exec_linkBelowOv3, State.linkBelowOv3_of_under on stage low]
  · intro s l v on stage low
    rw [exec_linkBelowOv2, State.linkBelowOv3_of_other (stage.trans_ne (by decide)), State.linkBelowOv2_of_under on stage low]
  · intro s l v on stage low
    rw [exec_linkBelowOv1, State.linkBelowOv3_of_other (stage.trans_ne (by decide)), State.linkBelowOv2_of_other (stage.trans_ne (by decide)),
      State.linkBelowOv1_of_under on stage low]
  · intro s l v other
    rw [exec_linkOv1, State.linkOv1_of_other other]
  · intro s l v low
    rw [exec_linkOv1, State.linkOv1_of_low low]
  · intro s l v notZero notOne
    rw [exec_linkOv2, State.linkOv1_of_other notZero, State.linkOv2_of_other notOne]
  · intro s l v stage
    rw [exec_linkOv3, State.linkOv1_of_other (stage.trans_ne (by decide)), State.linkOv2_of_other (stage.trans_ne (by decide)),
      State.linkOv3_of_other (stage.trans_ne (by decide))]
  · intro s l v stage
    rw [exec_linkBelowOv1, State.linkBelowOv3_of_other (stage.trans_ne (by decide)), State.linkBelowOv2_of_other (stage.trans_ne (by decide)),
      State.linkBelowOv1_of_other (stage.trans_ne (by decide))]
  · intro s l v stage
    rw [exec_linkBelowOv2, State.linkBelowOv3_of_other (stage.trans_ne (by decide)), State.linkBelowOv2_of_other (stage.trans_ne (by decide))]
  · intro s l v stage
    rw [exec_linkBelowOv3, State.linkBelowOv3_of_other (stage.trans_ne (by decide))]
  · intro s l on available
    have gone : (s.put (Obj.tracChopperAvailable l.val) 0).oN (Obj.tracChopperAvailable l.val) ≠ 1 := by simp
    rw [exec_trcChopper, State.chopperFault_of_available on available, State.showOv3_of_none gone, State.c_put]
  · intro s l absent
    rw [exec_trcChopper, State.chopperFault_of_none absent]
  · intro s m k on hold
    rw [exec_zeroHoldEnd, State.zeroHoldEnd_of_sensor on hold]
  · intro s m k on hold
    rw [exec_zeroHoldEnd, State.zeroHoldEnd_of_set on hold]
  · intro s m k on hold
    rw [exec_zeroHoldEnd, State.zeroHoldEnd_of_phase on hold]
  · intro s m absent
    rw [exec_zeroHoldEnd, State.zeroHoldEnd_of_none absent]
  · intro s m void
    rw [exec_openPhaseWindowEnd, State.openWindow_of_void void]
  · intro s m known
    rw [State.rmsBegin, State.tracx_tracMod known]
    exact ⟨rfl, rfl, rfl, rfl⟩
  · intro s m on sound phases whole isOpen
    rw [exec_openPhaseWindowEnd, State.openWindow_of_threePhase on sound phases whole isOpen]

end Sys2Proof.Machine
end

section
/-! SUPPORT. The ends of a charge phase and its update (R302 to R306): what each command does, and when it does nothing (O42). -/

namespace Sys2Proof.Machine

/-! ## The commands -/

section
variable {s : State} {c : Fin 2}

theorem exec_cpEvaluationEnd (v : BitVec 32) : exec (.cpEvaluationEnd c v) s = .next (s.cpEvaluated c.val v.toNat) := rfl

theorem exec_cpTaperEnd : exec (.cpTaperEnd c) s = .next (s.cpTapered c.val) := rfl

theorem exec_cpTimer : exec (.cpTimer c) s = .next (s.cpTimeUp c.val) := rfl

theorem exec_chargePhaseUpdate : exec (.chargePhaseUpdate c) s = .next (s.chargePhaseUpdate c.val) := rfl

theorem exec_cpLimitloss_of_lost (on : s.engOn = true) (vehicle : s.station = false) (lost : (s.cpx 0).limitSub = true)
    (phase : 1 ≤ s.oN (Obj.cpPhase 0) ∧ s.oN (Obj.cpPhase 0) ≤ 7) :
    exec .cpLimitloss s = .next ((s.cpEndPhase 0 8 5).raise FC.cpLimitloss 0) :=
  congrArg Host.Outcome.next (if_pos ⟨on, vehicle, lost, phase⟩)

theorem exec_cpLimitloss_of_there (there : (s.cpx 0).limitSub = false) : exec .cpLimitloss s = .next s :=
  congrArg Host.Outcome.next (if_neg fun ⟨_, _, lost, _⟩ => Bool.false_ne_true (there.symm.trans lost))

end

/-! ## An ended phase (R303) -/

section
variable {s : State} {c p e : Nat}

theorem State.cpEndPhase_ref : (s.cpEndPhase c p e).o (Obj.cpCurrentRef c) = 0 := State.o_put_same ..

theorem State.cpEndPhase_cause : (s.cpEndPhase c p e).o (Obj.cpTermCause c) = e := by
  rw [State.cpEndPhase, State.o_put_other _ _ (key_ne (by decide)), State.o_put_same]

theorem State.cpEndPhase_phase : (s.cpEndPhase c p e).o (Obj.cpPhase c) = p := by
  rw [State.cpEndPhase, State.o_put_other _ _ (key_ne (by decide)), State.o_put_other _ _ (key_ne (by decide)), State.cpTo, State.o_put_same]

end

/-! ## The evaluation's choice (R303) -/

section
variable {s : State} {c v : Nat}

theorem State.cpEvaluated_of_other (other : s.oN (Obj.cpPhase c) ≠ 1) : s.cpEvaluated c v = s := if_pos (.inr (.inr other))

section
variable (on : s.engOn = true) (vehicle : s.station = false) (phase : s.oN (Obj.cpPhase c) = 1)
include on vehicle phase

/-- The choice behind the command's guard. -/
theorem State.cpEvaluated_of_evaluating :
    s.cpEvaluated c v =
      if F32.toRat v < s.cF (Obj.cpTrickleVoltage c) then s.put (Obj.cpPhase c) 2
      else if F32.toRat v < s.cF (Obj.cpPrechargeVoltage c) then s.put (Obj.cpPhase c) 3
      else if F32.toRat v < s.cpCvEff c - s.cF (Obj.cpRechargeDrop c) then s.put (Obj.cpPhase c) 4
      else s.cpEndPhase c 6 1 :=
  if_neg (by simp [on, vehicle, phase])

theorem State.cpEvaluated_of_deep (deep : F32.toRat v < s.cF (Obj.cpTrickleVoltage c)) : s.cpEvaluated c v = s.put (Obj.cpPhase c) 2 := by
  rw [State.cpEvaluated_of_evaluating on vehicle phase, if_pos deep]

variable (notDeep : s.cF (Obj.cpTrickleVoltage c) ≤ F32.toRat v)
include notDeep

theorem State.cpEvaluated_of_low (low : F32.toRat v < s.cF (Obj.cpPrechargeVoltage c)) :
    s.cpEvaluated c v = s.put (Obj.cpPhase c) 3 := by
  rw [State.cpEvaluated_of_evaluating on vehicle phase, if_neg notDeep.not_gt, if_pos low]

variable (notLow : s.cF (Obj.cpPrechargeVoltage c) ≤ F32.toRat v)
include notLow

theorem State.cpEvaluated_of_partial (below : F32.toRat v < s.cpCvEff c - s.cF (Obj.cpRechargeDrop c)) :
    s.cpEvaluated c v = s.put (Obj.cpPhase c) 4 := by
  rw [State.cpEvaluated_of_evaluating on vehicle phase, if_neg notDeep.not_gt, if_neg notLow.not_gt, if_pos below]

theorem State.cpEvaluated_of_full (full : s.cpCvEff c - s.cF (Obj.cpRechargeDrop c) ≤ F32.toRat v) :
    s.cpEvaluated c v = s.cpEndPhase c 6 1 := by
  rw [State.cpEvaluated_of_evaluating on vehicle phase, if_neg notDeep.not_gt, if_neg notLow.not_gt, if_neg full.not_gt]

end

/-! ## The taper and the timer (R303, R305) -/

theorem State.cpTapered_of_low (on : s.engOn = true) (vehicle : s.station = false) (phase : s.oN (Obj.cpPhase c) = 5)
    (low : |s.oF (Obj.cpBatteryCurrent c)| ≤ s.cF (Obj.cpTermCurrent c)) : s.cpTapered c = s.cpEndPhase c 6 1 :=
  if_pos ⟨on, vehicle, phase, low⟩

theorem State.cpTapered_of_idle
    (idle : s.oN (Obj.cpPhase c) ≠ 5 ∨ s.cF (Obj.cpTermCurrent c) < |s.oF (Obj.cpBatteryCurrent c)|) : s.cpTapered c = s :=
  if_neg fun ⟨_, _, phase, low⟩ => idle.elim (· phase) low.not_gt

theorem State.cpTimeUp_of_expired (on : s.engOn = true) (vehicle : s.station = false) (expired : s.cpExpired c = true) :
    s.cpTimeUp c = (s.cpEndPhase c 8 4).raise FC.cpTimer c := if_pos ⟨on, vehicle, expired⟩

theorem State.cpTimeUp_of_within (within : s.cpExpired c = false) : s.cpTimeUp c = s :=
  if_neg fun ⟨_, _, expired⟩ => Bool.false_ne_true (within.symm.trans expired)

/-! ## The update (R302 to R306) -/

theorem State.cpUpdate_of_disabled {kth : Rat} {exporting tandem : Bool} (disabled : s.cN (Obj.cpEnable c) = 0) :
    s.cpUpdate c kth exporting tandem = s := if_pos (.inr (.inr disabled))

/-- CP0: Tandem may have its CV loop, and a full battery is told to the link. -/
theorem State.chargePhaseUpdate_zero :
    s.chargePhaseUpdate 0 = (s.cpUpdate 0 (s.converterK 0) (s.exports 0) (s.oN Obj.tdState == 4)).lkCharged := rfl

theorem State.chargePhaseUpdate_of_ne (auxiliary : c ≠ 0) :
    s.chargePhaseUpdate c = s.cpUpdate c (s.converterK c) (s.exports c) false := by
  rw [State.chargePhaseUpdate, beq_false_of_ne auxiliary, Bool.false_and, if_neg auxiliary]

theorem State.chargePhaseUpdate_of_disabled (disabled : s.cN (Obj.cpEnable c) = 0) :
    s.chargePhaseUpdate c = if c = 0 then s.lkCharged else s := by
  by_cases traction : c = 0
  · subst traction
    rw [State.chargePhaseUpdate_zero, State.cpUpdate_of_disabled disabled, if_pos rfl]
  · rw [State.chargePhaseUpdate_of_ne traction, State.cpUpdate_of_disabled disabled, if_neg traction]

end

/-- Settles O42: each command's guard picks its case; an ended phase is three writes to objects of its own, and the
update of a disabled instance leaves CP0 what a full battery does at the link. -/
theorem chargePhasesEnd : Obligations.ChargePhasesEnd := by
  unfold Obligations.ChargePhasesEnd
  refine ⟨?_, ?_, ?_, ?_, ?_, ?_, ?_, ?_, ?_, ?_, ?_, ?_, ?_, ?_, ?_⟩
  · intro s c v on vehicle phase deep
    rw [exec_cpEvaluationEnd, State.cpEvaluated_of_deep on vehicle phase deep]
  · intro s c v on vehicle phase notDeep low
    rw [exec_cpEvaluationEnd, State.cpEvaluated_of_low on vehicle phase notDeep low]
  · intro s c v on vehicle phase notDeep notLow below
    rw [exec_cpEvaluationEnd, State.cpEvaluated_of_partial on vehicle phase notDeep notLow below]
  · intro s c v on vehicle phase notDeep notLow full
    rw [exec_cpEvaluationEnd, State.cpEvaluated_of_full on vehicle phase notDeep notLow full]
  · intro s c v other
    rw [exec_cpEvaluationEnd, State.cpEvaluated_of_other other]
  · intro s c on vehicle phase low
    rw [exec_cpTaperEnd, State.cpTapered_of_low on vehicle phase low]
  · intro s c idle
    rw [exec_cpTaperEnd, State.cpTapered_of_idle idle]
  · intro s c on vehicle expired
    rw [exec_cpTimer, State.cpTimeUp_of_expired on vehicle expired]
  · intro s c within
    rw [exec_cpTimer, State.cpTimeUp_of_within within]
  · exact fun s on vehicle lost phase => exec_cpLimitloss_of_lost on vehicle lost phase
  · exact fun s there => exec_cpLimitloss_of_there there
  · exact fun s c p e => ⟨State.cpEndPhase_ref, fun _ => ⟨State.cpEndPhase_cause, State.cpEndPhase_phase⟩⟩
  · intro s c _ _ disabled
    simp only [exec_chargePhaseUpdate, State.chargePhaseUpdate_of_disabled disabled, Fin.val_eq_zero_iff]
  · rintro s _ _ _ _ rfl
    rw [exec_chargePhaseUpdate, Fin.val_zero, State.chargePhaseUpdate_zero]
  · intro s c _ _ _ auxiliary
    rw [exec_chargePhaseUpdate, State.chargePhaseUpdate_of_ne (Fin.val_ne_zero_iff.mpr auxiliary)]

end Sys2Proof.Machine
end

section
/-! SUPPORT. The gearbox actuators' requests, waits and moves (R335, R336, R338): what each command does, when it does nothing, and what a move,
an aborted wait and an arrival leave in the status record (O45). -/

namespace Sys2Proof.Machine

/-! ## Objects that an operation leaves -/

section
variable {s : State} {k : Nat}

/-- A status bit is one write in the fault record (R536). -/
theorem State.statusBit_eq_put {code : Nat} (small : code < 0x4000) (on : Bool) :
    ∃ j v, j < 256 ∧ s.statusBit code on = s.put (key 0x2400 j) v := by
  by_cases low : code % 256 < 64
  · exact ⟨1 + 2 * (code / 256 - 1), _, by omega, congrArg (s.put · _) (if_pos low)⟩
  · exact ⟨2 + 2 * (code / 256 - 1), _, by omega, congrArg (s.put · _) (if_neg low)⟩

/-- The collector writes objects of no record above the fault records (R536, R541). -/
theorem State.collect_oN_above {code inst : Nat} {injected : Bool} (above : 0x2500 * 256 ≤ k) :
    (s.collect code inst injected).oN k = s.oN k := by
  have other {i j : Nat} (v : Int) (t : State) (hi : i < 0x2500) (hj : j < 256) : (t.put (key i j) v).oN k = t.oN k :=
    t.oN_put_other v (by unfold key; omega)
  unfold State.collect
  split
  · rfl
  · next row hrow =>
    split
    · rfl
    · extract_lets cls again ctx src t u r src'
      have ht : t.oN k = s.oN k := by unfold t; split <;> rfl
      have hu : u.oN k = s.oN k := by
        obtain ⟨j, v, hj, shown⟩ := t.statusBit_eq_put (faultRow_code_lt hrow) true
        unfold u State.refreshClassMap
        rw [other _ _ (by omega) (by omega), shown, other _ _ (by omega) hj, ht]
      split
      · exact hu
      · exact (other _ _ (by omega) (by omega)).trans hu

/-- A group's start writes its GroupRunRequest alone (R113). -/
theorem State.runGroup_oN_other {g : Nat} (other : k ≠ Obj.groupRunRequest g) : (s.runGroup g).oN k = s.oN k := by
  unfold State.runGroup
  split
  · exact s.oN_put_other _ other
  · rfl

theorem State.gaPark_oN_other {a : Nat} (other : k ≠ Obj.gaParkEngaged a) : (s.gaPark a).oN k = s.oN k := s.oN_put_other _ other

theorem State.gaIdle_oN_other {a : Nat} (other : k ≠ Obj.gaState a) : (s.gaIdle a).oN k = s.oN k := s.oN_put_other _ other

/-- Whether an actuator may act reads no object but ModeState (R341). -/
theorem State.gaOn_put_other {a : Nat} {v : Int} (other : Obj.modeState ≠ k) : (s.put k v).gaOn a = s.gaOn a := by
  simp only [State.gaOn, State.engOn, State.up_put_other s v other, State.mode_put_other s v other]
  rfl

end

/-! ## The commands' guards -/

section
variable {s : State} {a : Fin 4}

/-- A write that a role may make, to an object of a function of the vehicle. -/
theorem State.accessAt_of_vehicle {role : Role} {rank k : Nat} (may : s.MayWrite role rank k) (vehicle : s.station = false) (f : State → State) :
    s.accessAt role rank k (!s.station) f = f s := by
  rw [vehicle]
  exact s.accessAt_of_mayWrite may f

theorem exec_gaRequest_of_mayWrite {role : Role} (v : Byte) (may : s.MayWrite role 2 (Obj.gaRequest a.val)) (vehicle : s.station = false) :
    exec (.gaRequest a v role) s = .next (s.gaAsk a.val v.toNat) :=
  congrArg Host.Outcome.next (State.accessAt_of_vehicle may vehicle _)

theorem exec_gaTorqueReleased_of_waiting (on : s.gaOn a.val = true) (waiting : s.oN (Obj.gaState a.val) = 4)
    (released : s.gaReleased a.val = true) : exec (.gaTorqueReleased a) s = .next (s.gaNeutral a.val) :=
  congrArg Host.Outcome.next (if_pos ⟨on, waiting, released⟩)

theorem exec_gaTorqueReleased_of_other (other : s.oN (Obj.gaState a.val) ≠ 4 ∨ s.gaReleased a.val = false) :
    exec (.gaTorqueReleased a) s = .next s :=
  congrArg Host.Outcome.next (if_neg fun ⟨_, waiting, released⟩ => other.elim (· waiting) (Bool.eq_false_iff.mp · released))

theorem exec_gaReleaseTimeout_of_waiting (on : s.gaOn a.val = true) (waiting : s.oN (Obj.gaState a.val) = 4) :
    exec (.gaReleaseTimeout a) s = .next (s.gaAbort a.val) := congrArg Host.Outcome.next (if_pos ⟨on, waiting⟩)

theorem exec_gaReleaseTimeout_of_other (other : s.oN (Obj.gaState a.val) ≠ 4) : exec (.gaReleaseTimeout a) s = .next s :=
  congrArg Host.Outcome.next (if_neg fun ⟨_, waiting⟩ => other waiting)

/-- A permit is stored, and engages where it is waited for. -/
theorem exec_gaSyncPermit_of_mayWrite {role : Role} (may : s.MayWrite role 2 (Obj.gaSyncPermit a.val)) (vehicle : s.station = false) :
    exec (.gaSyncPermit a role) s = .next (if s.gaOn a.val ∧ s.oN (Obj.gaState a.val) = 6
      then (s.put (Obj.gaSyncPermit a.val) 1).gaEngage a.val else s.put (Obj.gaSyncPermit a.val) 1) := by
  have state : (s.put (Obj.gaSyncPermit a.val) 1).oN (Obj.gaState a.val) = s.oN (Obj.gaState a.val) := s.oN_put_other _ (key_ne (by decide))
  have on : (s.put (Obj.gaSyncPermit a.val) 1).gaOn a.val = s.gaOn a.val := State.gaOn_put_other (key_ne (by decide))
  refine congrArg Host.Outcome.next ((State.accessAt_of_vehicle may vehicle _).trans ?_)
  simp only [state, on]

theorem exec_gaSyncTimeout_of_waiting (on : s.gaOn a.val = true) (waiting : s.oN (Obj.gaState a.val) = 6) :
    exec (.gaSyncTimeout a) s = .next (s.gaAbort a.val) := congrArg Host.Outcome.next (if_pos ⟨on, waiting⟩)

theorem exec_gaSyncTimeout_of_other (other : s.oN (Obj.gaState a.val) ≠ 6) : exec (.gaSyncTimeout a) s = .next s :=
  congrArg Host.Outcome.next (if_neg fun ⟨_, waiting⟩ => other waiting)

theorem exec_gaArrival : exec (.gaArrival a) s = .next (s.gaSettled a.val) := rfl

/-- The failure's GaState 8 is the model's deduction (log 45): R335 names pulse-off and the code alone. -/
theorem exec_gaMovetimeout_of_moving (on : s.gaOn a.val = true)
    (moving : s.oN (Obj.gaState a.val) = 2 ∨ s.oN (Obj.gaState a.val) = 5 ∨ s.oN (Obj.gaState a.val) = 7) :
    exec (.gaMovetimeout a) s = .next (s.gaFail a.val FC.gaMovetimeout a.val) :=
  congrArg Host.Outcome.next (if_pos ⟨on, by simpa using moving⟩)

theorem exec_gaMovetimeout_of_other
    (other : s.oN (Obj.gaState a.val) ≠ 2 ∧ s.oN (Obj.gaState a.val) ≠ 5 ∧ s.oN (Obj.gaState a.val) ≠ 7) :
    exec (.gaMovetimeout a) s = .next s :=
  congrArg Host.Outcome.next (if_neg fun ⟨_, moving⟩ => by simp [other] at moving)

end

/-! ## A request (R337, R338) -/

section
variable {s : State} {a v : Nat}

/-- An accepted request, kept with result 1 and with its goal and time, before its first move. -/
def State.gaAccepted (a v : Nat) (s : State) : State :=
  ((s.put (Obj.gaRequestResult a) (1 : Nat)).put (Obj.gaRequest a) v).gaMod a (fun x => { x with goal := v, since := s.mono, neutral := false })

theorem State.gaAsk_of_refused (refused : s.gaCode a v ≠ 1) : s.gaAsk a v = s.put (Obj.gaRequestResult a) (s.gaCode a v : Nat) :=
  if_pos refused

theorem State.gaAccepted_mode : (s.gaAccepted a v).mode = s.mode :=
  State.mode_of_control (by simp (disch := omega) [State.gaAccepted])

/-- The choice behind the request's code. -/
theorem State.gaAsk_of_accepted (accepted : s.gaCode a v = 1) :
    s.gaAsk a v =
      if s.cN (Obj.gaKind a) = 1 then (s.gaAccepted a v).gaMove a v 5
      else if s.mode = 10 then (s.gaAccepted a v).gaMove a v 7
      else if (s.gaAccepted a v).gaReleased a then (s.gaAccepted a v).gaNeutral a
      else ((s.gaAccepted a v).put (Obj.gaState a) 4).gaPark a := by
  rw [← State.gaAccepted_mode (a := a) (v := v)]
  unfold State.gaAsk
  rw [accepted]
  exact if_neg (not_not.mpr rfl)

end

/-! ## Moves, waits and arrivals (R335, R336) -/

section
variable {s : State} {a : Nat}

theorem State.gaMove_state {i st : Nat} : (s.gaMove a i st).oN (Obj.gaState a) = if s.oN (Obj.gaHomed a) = 1 then st else 2 := by
  have started (t : State) (gs : List Nat) : (t.forAll gs State.runGroup).oN (Obj.gaHomed a) = t.oN (Obj.gaHomed a) :=
    State.forAll_keeps (p := fun t => t.oN (Obj.gaHomed a)) (fun g t => State.runGroup_oN_other (key_ne (by decide))) t
  unfold State.gaMove
  rw [State.gaPark_oN_other (key_ne (by decide)), State.oN_put_same, State.oN_put_other _ _ (key_ne (by decide)), State.gaMod_roN, started]
  split <;> rfl

theorem State.gaMove_index {i st : Nat} : (s.gaMove a i st).oN (Obj.gaPositionIndex a) = 0xFF := by
  unfold State.gaMove
  rw [State.gaPark_oN_other (key_ne (by decide)), State.oN_put_other _ _ (key_ne (by decide)), State.oN_put_same]
  rfl

theorem State.gaAbort_result : (s.gaAbort a).oN (Obj.gaRequestResult a) = 6 := by
  unfold State.gaAbort State.note
  rw [State.gaPark_oN_other (key_ne (by decide)), State.collect_oN_above (by unfold key; omega),
    State.gaIdle_oN_other (key_ne (by decide)), State.gaMod_roN, State.oN_put_same]
  rfl

theorem State.gaAbort_active : (s.gaAbort a).active = s.active := by
  unfold State.gaAbort
  have noted (t : State) : (t.note FC.gaShiftabort a).active = t.active := State.active_of_control (t.note_control ..)
  exact noted _

/-- A held position, and no stop, is an arrival within the tolerance. -/
theorem State.gaSettled_of_held (on : s.gaOn a = true) (moving : s.oN (Obj.gaState a) = 5 ∨ s.oN (Obj.gaState a) = 7)
    (held : s.gaStop a (s.gaX a).step = false)
    (within : |s.gaPos a - F32.toRat (s.gaValue a (s.gaX a).step)| ≤ s.cF (Obj.gaArriveTolerance a)) : s.gaSettled a = s.gaArrive a :=
  if_pos ⟨on, moving, Bool.eq_false_iff.mp held, within⟩

theorem State.gaSettled_of_other
    (other : s.gaOn a = false ∨ s.cF (Obj.gaArriveTolerance a) < |s.gaPos a - F32.toRat (s.gaValue a (s.gaX a).step)|) : s.gaSettled a = s :=
  if_neg fun ⟨on, _, _, within⟩ => other.elim (Bool.eq_false_iff.mp · on) (·.not_ge within)

/-- An arrival at the goal ends the request, behind the books of a shift (R336). -/
theorem State.gaArrive_of_goal (goal : (s.gaX a).neutral = false) :
    ∃ t : State, t.oN (Obj.gaPositionIndex a) = (s.gaX a).step ∧
      s.gaArrive a = ((t.put (Obj.gaRequestResult a) 0).put (Obj.gaState a) 3).gaPark a := by
  unfold State.gaArrive
  extract_lets x t u
  have ht : t.oN (Obj.gaPositionIndex a) = x.step := by simp [t]
  have hu : u.oN (Obj.gaPositionIndex a) = x.step := by
    unfold u
    split
    · rw [State.oN_put_other _ _ (key_ne (by decide)), State.inc32_eq, State.oN_put_other _ _ (key_ne (by decide)),
        State.oN_put_other _ _ (key_ne (by decide)), ht]
    · exact ht
  exact ⟨u, hu, if_neg (Bool.eq_false_iff.mp goal)⟩

theorem State.gaArrive_status (goal : (s.gaX a).neutral = false) :
    (s.gaArrive a).oN (Obj.gaState a) = 3 ∧ (s.gaArrive a).oN (Obj.gaRequestResult a) = 0 ∧
      (s.gaArrive a).oN (Obj.gaPositionIndex a) = (s.gaX a).step := by
  obtain ⟨t, index, arrived⟩ := State.gaArrive_of_goal goal
  rw [arrived]
  refine ⟨?_, ?_, ?_⟩
  · rw [State.gaPark_oN_other (key_ne (by decide)), State.oN_put_same]
    rfl
  · rw [State.gaPark_oN_other (key_ne (by decide)), State.oN_put_other _ _ (key_ne (by decide)), State.oN_put_same]
    rfl
  · rw [State.gaPark_oN_other (key_ne (by decide)), State.oN_put_other _ _ (key_ne (by decide)), State.oN_put_other _ _ (key_ne (by decide)), index]

end

/-- Settles O45: each command's guard picks its case; a move starts groups, and an aborted wait goes to the collector, none of which writes what the
statement reads of the actuator's status record. -/
theorem actuatorRequestsRunTheirSequence : Obligations.ActuatorRequestsRunTheirSequence := by
  unfold Obligations.ActuatorRequestsRunTheirSequence
  refine ⟨?_, ?_, ?_, ?_, ?_, ?_, ?_, ?_, ?_, ?_, ?_, ?_, ?_, ?_, ?_, ?_, ?_, ?_, ?_, ?_⟩
  · intro s a v role may vehicle refused
    rw [exec_gaRequest_of_mayWrite v may vehicle, State.gaAsk_of_refused refused]
  · rintro s a v role _ may vehicle accepted lock rfl
    rw [exec_gaRequest_of_mayWrite v may vehicle, State.gaAsk_of_accepted accepted, if_pos lock]
    rfl
  · rintro s a v role _ may vehicle accepted shift inUse rfl
    rw [exec_gaRequest_of_mayWrite v may vehicle, State.gaAsk_of_accepted accepted, if_neg shift, if_neg inUse]
    rfl
  · rintro s a v role _ may vehicle accepted shift service rfl
    rw [exec_gaRequest_of_mayWrite v may vehicle, State.gaAsk_of_accepted accepted, if_neg shift, if_pos service]
    rfl
  · exact fun s a i st _ _ => ⟨State.gaMove_state, State.gaMove_index⟩
  · exact fun s a on waiting released => exec_gaTorqueReleased_of_waiting on waiting released
  · exact fun s a other => exec_gaTorqueReleased_of_other other
  · exact fun s a on waiting => exec_gaReleaseTimeout_of_waiting on waiting
  · exact fun s a other => exec_gaReleaseTimeout_of_other other
  · intro s a role may vehicle on waiting
    rw [exec_gaSyncPermit_of_mayWrite may vehicle, if_pos ⟨on, waiting⟩]
  · intro s a role may vehicle other
    rw [exec_gaSyncPermit_of_mayWrite may vehicle, if_neg fun ⟨on, waiting⟩ => other.elim (Bool.eq_false_iff.mp · on) (· waiting)]
  · exact fun s a on waiting => exec_gaSyncTimeout_of_waiting on waiting
  · exact fun s a other => exec_gaSyncTimeout_of_other other
  · exact fun s a _ => ⟨State.gaAbort_result, State.gaAbort_active⟩
  · intro s a on moving held within
    rw [exec_gaArrival, State.gaSettled_of_held on moving held within]
  · intro s a other
    rw [exec_gaArrival, State.gaSettled_of_other other]
  · exact fun s a _ goal => State.gaArrive_status goal
  · exact fun s a on moving => exec_gaMovetimeout_of_moving on moving
  · exact fun s a other => exec_gaMovetimeout_of_other other
  · exact fun s a _ => rfl

end Sys2Proof.Machine
end

section
/-! SUPPORT. The step and the reset state (O1, O2), and the collector (R532 to R541): what a raise, a record, a clear request, the log's flush and
an injection do (O7 to O10). -/

namespace Sys2Proof.Machine

/-! ## The machine as a whole -/

/-- Settles O1: the two cases of the step's choice on the queue. -/
theorem stepRunsTheFrontCommand : Obligations.StepRunsTheFrontCommand := ⟨fun _ _ _ => step_of_cons, fun _ => step_of_nil⟩

/-- Settles O2: the reset state is closed, so each bound is computed. -/
theorem resetIsSound : Obligations.ResetIsSound := by
  refine ⟨⟨?canonical, ?sized, ?bounded⟩, rfl⟩
  case canonical => decide
  case sized => decide
  case bounded => decide

/-- Objects of records differ where their indices or their sub-indices do. -/
theorem key_ne_of_lt {i i' j j' : Nat} (hj : j < 256) (hj' : j' < 256) (h : i ≠ i' ∨ j ≠ j') : key i j ≠ key i' j' := by
  unfold key
  omega

/-! ## The collector takes a raise (R532, R533, R536) -/

section
variable {s : State} {code inst : Nat} {injected : Bool} {row : FaultRow}

/-- A code set, before its raise reaches the queue: among those set, with its status bit and the class map. -/
def State.noted (code inst : Nat) (s : State) : State :=
  ((if s.isSet code inst then s else { s with fc := { s.fc with active := s.fc.active ++ [(code, inst)] } }).statusBit code true).refreshClassMap

theorem State.noted_active (unset : s.isSet code inst = false) : (s.noted code inst).fc.active = s.fc.active ++ [(code, inst)] := by
  rw [State.noted, unset]
  rfl

theorem State.noted_queue : (s.noted code inst).fc.queue = s.fc.queue := by
  unfold State.noted
  split <;> rfl

/-- What a noted code leaves: the objects and the collector's own record alone change. -/
theorem State.noted_frame : s.noted code inst = { s with live := (s.noted code inst).live, fc := (s.noted code inst).fc } := by
  unfold State.noted
  split <;> rfl

/-- The instances set are no object. -/
theorem State.o_noted_base (k : Nat) :
    (if s.isSet code inst then s else { s with fc := { s.fc with active := s.fc.active ++ [(code, inst)] } } : State).o k = s.o k := by
  split <;> rfl

theorem State.noted_o_other {k : Nat}
    (other : k ∉ [Obj.faultStatusLow (code / 256 - 1), Obj.faultStatusHigh (code / 256 - 1), Obj.faultClassMap]) :
    (s.noted code inst).o k = s.o k := by
  simp only [List.mem_cons, List.not_mem_nil, or_false, not_or] at other
  obtain ⟨low, high, map⟩ := other
  unfold State.noted State.refreshClassMap State.statusBit
  rw [State.o_put_other _ _ map, State.o_put_other _ _ (by split <;> assumption), State.o_noted_base]

/-- The codes of R530 end with subsystem 0x15, so that no status word is the class map's. -/
theorem faultRow_code_lt_0x1600 (hrow : faultRow code = some row) : code < 0x1600 := by
  have small : ∀ r ∈ faultTable, r.code < 0x1600 := by decide +kernel
  have hc : row.code = code := by simpa using List.find?_some hrow
  exact hc ▸ small row (List.mem_of_find?_eq_some hrow)

/-- The status word of a code. -/
abbrev Obj.faultStatusOf (code : Nat) : Nat :=
  if code % 256 < 64 then Obj.faultStatusLow (code / 256 - 1) else Obj.faultStatusHigh (code / 256 - 1)

theorem Obj.faultStatusOf_ne_classMap (small : code < 0x1600) : Obj.faultStatusOf code ≠ Obj.faultClassMap := by
  unfold Obj.faultStatusOf
  split
  · exact key_ne_of_lt (by omega) (by omega) (.inr (by omega))
  · exact key_ne_of_lt (by omega) (by omega) (.inr (by omega))

theorem State.noted_testBit (hrow : faultRow code = some row) :
    ((s.noted code inst).oN (Obj.faultStatusOf code)).testBit (code % 64) = true := by
  unfold State.noted State.refreshClassMap State.statusBit
  rw [State.oN_put_other _ _ (Obj.faultStatusOf_ne_classMap (faultRow_code_lt_0x1600 hrow)), State.oN_put_same]
  simp [setBit]

section
variable (hrow : faultRow code = some row) (raised : row.recordOnly = false) (allowed : row.allows inst = true)
include hrow raised allowed

/-- The raise of a code as the collector queues it (R533). -/
def State.raiseEntry (code inst : Nat) (injected : Bool) (s : State) : Raise :=
  { code := code, inst := inst, cls := s.faultClass code inst, time := (s.noted code inst).now, mode := (s.noted code inst).mode,
    again := s.isSet code inst, injected := injected,
    context := match statusRecord s.station code inst with
      | some i => (s.recordBytes i inst).take 48
      | none => [] }

/-- The collector's choice, on the state in which the code is noted. -/
theorem State.collect_of_row :
    s.collect code inst injected = if (s.noted code inst).fc.queue.length < 256
      then { s.noted code inst with
        fc := { (s.noted code inst).fc with queue := (s.noted code inst).fc.queue ++ [s.raiseEntry code inst injected] } }
      else (s.noted code inst).incSat Obj.faultLostCount := by
  unfold State.collect
  rw [hrow]
  exact if_neg (by simp [raised, allowed])

/-- With room in the queue a raise is its last entry, with the class, the time and the mode of the raise. -/
theorem State.collect_of_room (room : s.fc.queue.length < 256) :
    ∃ r : Raise, s.collect code inst injected =
        { s.noted code inst with fc := { (s.noted code inst).fc with queue := (s.noted code inst).fc.queue ++ [r] } } ∧
      r.code = code ∧ r.inst = inst ∧ r.cls = s.faultClass code inst ∧ r.time = s.now ∧ r.mode = s.mode ∧
      r.again = s.isSet code inst ∧ r.injected = injected := by
  have base : (s.noted code inst).fc.queue.length < 256 := by rwa [State.noted_queue]
  have time : (s.noted code inst).now = s.now := by
    rw [State.noted_frame]
    rfl
  have mode : (s.noted code inst).mode = s.mode := by
    refine congrArg Int.toNat (State.noted_o_other ?_)
    simp only [List.mem_cons, List.not_mem_nil, or_false, not_or]
    have small := faultRow_code_lt_0x1600 hrow
    exact ⟨key_ne_of_lt (by decide) (by omega) (.inl (by decide)), key_ne_of_lt (by decide) (by omega) (.inl (by decide)),
      key_ne_of_lt (by decide) (by decide) (.inl (by decide))⟩
  refine ⟨_, (State.collect_of_row hrow raised allowed).trans (if_pos base), rfl, rfl, rfl, time, mode, rfl, rfl⟩

/-- With the queue full a raise is counted as lost. -/
theorem State.collect_of_full (full : 256 ≤ s.fc.queue.length) :
    s.collect code inst injected = (s.noted code inst).incSat Obj.faultLostCount := by
  have base : ¬ (s.noted code inst).fc.queue.length < 256 := by
    rw [State.noted_queue]
    omega
  exact (State.collect_of_row hrow raised allowed).trans (if_neg base)

/-- Below class SAFE a raise is the collector's alone. -/
theorem State.raiseWith_of_low {masked : Bool} (low : s.faultClass code inst ≤ 2) :
    s.raiseWith code inst injected masked = s.collect code inst injected := by
  unfold State.raiseWith
  rw [hrow]
  exact (if_neg (by simp [raised, allowed])).trans ((if_neg (by omega)).trans (if_neg (by omega)))

end

theorem exec_faultRaise_of_on {code inst : BitVec 16} (on : s.plat.mainOn = true) :
    exec (.faultRaise code inst) s = .next (s.raise code.toNat inst.toNat) := congrArg Host.Outcome.next (if_pos on)

/-- Settles O7: a raise of a low class is the collector's, and the queue's length decides whether it becomes an entry or a count. -/
theorem raiseQueuesOneRaise : Obligations.RaiseQueuesOneRaise := by
  refine ⟨?room, ?full⟩
  case room =>
    intro s code inst row on hrow raised allowed low unset room
    obtain ⟨r, collected, hcode, hinst, hcls, htime, hmode, hagain, hinj⟩ :=
      State.collect_of_room (injected := false) hrow raised allowed room
    refine ⟨_, r, (exec_faultRaise_of_on on).trans
      (congrArg Host.Outcome.next ((State.raiseWith_of_low hrow raised allowed low).trans collected)), State.noted_active unset,
      State.noted_testBit hrow, congrArg (· ++ [r]) State.noted_queue, hcode, hinst, hcls, htime, hmode, hagain.trans unset, hinj, ?_, fun k other => State.noted_o_other other⟩
    rw [State.noted_frame]
  case full =>
    intro s code inst row on hrow raised allowed low full
    refine ⟨_, (exec_faultRaise_of_on on).trans
      (congrArg Host.Outcome.next ((State.raiseWith_of_low hrow raised allowed low).trans (State.collect_of_full hrow raised allowed full))),
      State.noted_queue, ?_⟩
    have small := faultRow_code_lt_0x1600 hrow
    have lost : (s.noted code.toNat inst.toNat).o Obj.faultLostCount = s.o Obj.faultLostCount := State.noted_o_other (by
      simp only [List.mem_cons, List.not_mem_nil, or_false, not_or]
      exact ⟨key_ne_of_lt (by decide) (by omega) (.inl (by decide)), key_ne_of_lt (by decide) (by omega) (.inl (by decide)),
        key_ne_of_lt (by decide) (by decide) (.inl (by decide))⟩)
    rw [State.incSat_eq, State.o_put_same, lost]

end

/-! ## A raise becomes a record (R533, R537, R539) -/

/-- The record that a raise opens. -/
def Raise.record (r : Raise) (chrysalis : Nat) : FaultRec :=
  { code := r.code, cls := r.cls, inst := r.inst, seq := 0, firstTime := r.time, lastTime := r.time, occurrences := 1, mode := r.mode,
    injected := r.injected, chrysalis := chrysalis, context := r.context }

section
variable {s : State}

theorem State.takeRaise_of_new {r : Raise} (new : r.again = false) (alone : s.slotMerging r = none) :
    s.takeRaise r = (s.openRecord (r.record s.nv.chrysalisCount)).log 1 r.code r.inst 0 0 := by
  unfold State.takeRaise
  rw [new, alone]
  rfl

/-- A raise of another class than HALT asks for no reaction of its record. -/
theorem State.react_of_other {r : Raise} (other : r.cls ≠ 2) : s.react r = s := if_neg other

/-- A record opened stands in a slot of the store under the next sequence number. -/
theorem State.openRecord_slots (x : FaultRec) : ∃ slot, (slot, { x with seq := s.fc.nextSeq }) ∈ (s.openRecord x).fc.slots :=
  ⟨_, List.mem_append_right _ (List.mem_singleton_self _)⟩

theorem State.openRecord_newest (x : FaultRec) : (s.openRecord x).o Obj.faultRecordNewest = s.fc.nextSeq := State.o_put_same ..

theorem State.openRecord_count (x : FaultRec) : (s.openRecord x).oN Obj.faultRecordCount = min s.fc.nextSeq 256 :=
  (State.oN_put_other _ _ (key_ne (by decide))).trans (State.oN_put_same ..)

theorem State.log_o_other {kind code inst a b k : Nat} (other : k ≠ Obj.eventLogCount) : (s.log kind code inst a b).o k = s.o k :=
  State.o_put_other _ _ other

theorem State.log_oN_other {kind code inst a b k : Nat} (other : k ≠ Obj.eventLogCount) : (s.log kind code inst a b).oN k = s.oN k :=
  State.oN_put_other _ _ other

/-- Settles O8: the raise has no record to repeat or merge into, and its class asks for no reaction. -/
theorem recordTakeOpensARecord : Obligations.RecordTakeOpensARecord := by
  intro s r rest queue other new alone
  have taken : s.recordTake =
      (({ s with fc := { s.fc with queue := rest } } : State).openRecord (r.record s.nv.chrysalisCount)).log 1 r.code r.inst 0 0 := by
    unfold State.recordTake
    rw [queue]
    exact (State.react_of_other other).trans (State.takeRaise_of_new new alone)
  obtain ⟨slot, kept⟩ :=
    State.openRecord_slots (s := { s with fc := { s.fc with queue := rest } }) (r.record s.nv.chrysalisCount)
  refine ⟨_, slot, _, _, congrArg Host.Outcome.next taken, rfl, rfl, kept, rfl, rfl, rfl, rfl, rfl, rfl, rfl, ?newest, ?count, rfl, rfl, rfl, rfl,
    rfl, rfl, rfl, rfl, rfl⟩
  case newest => exact (State.log_o_other (key_ne (by decide))).trans (State.openRecord_newest _)
  case count => exact (State.log_oN_other (key_ne (by decide))).trans (State.openRecord_count _)

end

/-! ## A clear request (R534, R535) -/

section
variable {s : State} {code inst : Nat} {row : FaultRow}

/-- The record that holds a code's raise counts a refused request. -/
def State.markRefused (code : Nat) (t : State) (i : Nat) : State :=
  match t.slotHolding code i with
  | some slot => t.modRecord slot (fun x => { x with clearRefused := min (x.clearRefused + 1) 4294967295 })
  | none => t

/-- A clear request that a cause refuses, before it is logged: the result, its count, and a mark in each record that holds the code. -/
def State.clearRefused (code : Nat) (named : List Nat) (s : State) : State :=
  named.foldl (State.markRefused code) ((s.put Obj.faultClearResult 0x02).incSat Obj.faultClearRefusedCount)

theorem State.clearFault_of_present (hrow : faultRow code = some row)
    (present : (s.namedSet code inst).any (s.causePresent code) = true) :
    s.clearFault code inst = (s.clearRefused code (s.namedSet code inst)).log 5 code inst 2 0 := by
  have some_named : s.namedSet code inst ≠ [] := by
    intro none_named
    rw [none_named] at present
    cases present
  unfold State.clearFault
  rw [hrow]
  exact (if_neg some_named).trans (if_pos present)

/-- What every mark of a refused request keeps, the request keeps. -/
theorem State.clearRefused_keeps {α : Type} {p : State → α} (hp : ∀ (t : State) (slot : Nat) (f : FaultRec → FaultRec), p (t.modRecord slot f) = p t)
    (named : List Nat) : p (s.clearRefused code named) = p ((s.put Obj.faultClearResult 0x02).incSat Obj.faultClearRefusedCount) := by
  unfold State.clearRefused
  generalize (s.put Obj.faultClearResult 0x02).incSat Obj.faultClearRefusedCount = t
  induction named generalizing t with
  | nil => rfl
  | cons i named ih =>
    refine (ih _).trans ?_
    unfold State.markRefused
    split
    · exact hp ..
    · rfl

/-- The instances cleared, in the status and in the records that hold them (R535). -/
def State.unlisted (code : Nat) (named : List Nat) (s : State) : State :=
  { s with fc := { s.fc with
    active := s.fc.active.filter (fun (p : Nat × Nat) => !(p.1 == code && named.contains p.2)),
    slots := s.fc.slots.map (fun (p : Nat × FaultRec) => (p.1, named.foldl (fun (r : FaultRec) i => r.clear code i s.now) p.2)) } }

/-- The status bit goes with the last that was set (R536). -/
def State.unmarked (code : Nat) (s : State) : State :=
  if s.fc.active.any (fun p => p.1 == code) then s else s.statusBit code false

theorem State.clearFault_of_gone (hrow : faultRow code = some row) (some_named : s.namedSet code inst ≠ [])
    (gone : (s.namedSet code inst).any (s.causePresent code) = false) :
    s.clearFault code inst =
      ((((s.unlisted code (s.namedSet code inst)).unmarked code).refreshClassMap.put Obj.faultClearResult 0x00).incSat Obj.faultClearCount).log
        4 code inst 0 0 := by
  unfold State.clearFault
  rw [hrow]
  exact (if_neg some_named).trans (if_neg (by simp [gone]))

theorem State.unmarked_fc : (s.unmarked code).fc = s.fc := by
  unfold State.unmarked
  split <;> rfl

theorem State.unmarked_frame : s.unmarked code = { s with live := (s.unmarked code).live } := by
  unfold State.unmarked
  split <;> rfl

/-- The fault record of status words is none of the clear interface. -/
theorem State.unmarked_o_other {i j : Nat} (hrow : faultRow code = some row) (hj : j < 256) (other : i ≠ 0x2400) :
    (s.unmarked code).o (key i j) = s.o (key i j) := by
  obtain ⟨j', v, hj', bit⟩ := s.statusBit_eq_put (faultRow_code_lt hrow) false
  unfold State.unmarked
  split
  · rfl
  · rw [bit, State.o_put_other _ _ (key_ne_of_lt hj hj' (.inl other))]

theorem exec_faultClearRequest_of_rank {v : BitVec 32} {role : Role} (up : s.up = true)
    (rank : (if 3 ≤ s.faultClass (v.toNat / 65536) (v.toNat % 65536) then 3 else 2) ≤ roleRank role) :
    exec (.faultClearRequest v role) s = .next (s.clearFault (v.toNat / 65536) (v.toNat % 65536)) :=
  congrArg Host.Outcome.next ((if_neg (by simp [up])).trans (if_neg rank.not_gt))

theorem exec_faultClearRequest_of_low {v : BitVec 32} {role : Role} (up : s.up = true)
    (low : roleRank role < (if 3 ≤ s.faultClass (v.toNat / 65536) (v.toNat % 65536) then 3 else 2)) :
    exec (.faultClearRequest v role) s = .next (s.put Obj.roaLastError 0x05) :=
  congrArg Host.Outcome.next ((if_neg (by simp [up])).trans (if_pos low))

/-- Settles O9: the request's case is the rank's, then the causes'. -/
theorem clearNeedsTheCauseGone : Obligations.ClearNeedsTheCauseGone := by
  refine ⟨?gone, ?present, fun s v role up low => exec_faultClearRequest_of_low up low⟩
  case gone =>
    intro s v role row up hrow rank some_named gone
    refine ⟨_, (exec_faultClearRequest_of_rank up rank).trans (congrArg Host.Outcome.next (State.clearFault_of_gone hrow some_named gone)),
      ?active, ?result, ?count, ?queue, ?frame⟩
    case active => exact congrArg Collector.active State.unmarked_fc
    case queue => exact (congrArg Collector.queue State.unmarked_fc).trans rfl
    case result =>
      rw [State.log_o_other (key_ne (by decide)), State.incSat_eq, State.o_put_other _ _ (key_ne (by decide)), State.o_put_same]
    case count =>
      rw [State.log_o_other (key_ne_of_lt (by decide) (by decide) (.inl (by decide))), State.incSat_eq, State.o_put_same,
        State.o_put_other _ _ (key_ne (by decide)), State.refreshClassMap, State.o_put_other _ _ (key_ne (by decide)),
        State.unmarked_o_other hrow (by decide) (by decide)]
      rfl
    case frame =>
      rw [State.unmarked_frame]
      rfl
  case present =>
    intro s v role row up hrow rank present
    refine ⟨_, (exec_faultClearRequest_of_rank up rank).trans (congrArg Host.Outcome.next (State.clearFault_of_present hrow present)),
      ?active, ?result, ?count⟩
    case active => exact State.clearRefused_keeps (p := fun t => t.fc.active) (fun _ _ _ => rfl) _
    case result =>
      rw [State.log_o_other (key_ne (by decide)), State.clearRefused_keeps (p := fun t => t.o Obj.faultClearResult) (fun _ _ _ => rfl),
        State.incSat_eq, State.o_put_other _ _ (key_ne (by decide)), State.o_put_same]
    case count =>
      rw [State.log_o_other (key_ne_of_lt (by decide) (by decide) (.inl (by decide))),
        State.clearRefused_keeps (p := fun t => t.o Obj.faultClearRefusedCount) (fun _ _ _ => rfl),
        State.incSat_eq, State.o_put_same, State.o_put_other _ _ (key_ne (by decide))]

end

/-! ## The log's flush and an injection (R539, R541) -/

section
variable {s : State}

theorem State.flushLog_ring_suffix : s.flushLog.fc.ring <:+ s.fc.ring ++ s.fc.staged := by
  simp only [State.flushLog, List.drop_suffix]

theorem State.flushLog_ring_length :
    s.flushLog.fc.ring.length = min 4096 (s.fc.ring.length + s.fc.staged.length) := by
  simp only [State.flushLog, List.length_drop, List.length_append]
  omega

theorem exec_eventLogFlush_of_held (held : s.oN (Obj.vmState 9) = 2) : exec .eventLogFlush s = .next s :=
  congrArg Host.Outcome.next (if_neg (by simp [State.nvHeld, held]))

theorem exec_eventLogFlush_of_free (up : s.up = true) (free : s.oN (Obj.vmState 9) ≠ 2) : exec .eventLogFlush s = .next s.flushLog :=
  congrArg Host.Outcome.next (if_pos (by simp [State.nvHeld, up, free]))

theorem exec_faultInject_of_mode {role : Role} (up : s.up = true) (rank : 5 ≤ roleRank role) (mode : s.mode = 11) :
    exec (.faultInject role) s = .next s.inject :=
  congrArg Host.Outcome.next ((if_neg (by simp [up])).trans ((if_neg rank.not_gt).trans (if_neg (by simp [mode]))))

theorem exec_faultInject_of_other {role : Role} (up : s.up = true) (rank : 5 ≤ roleRank role) (other : s.mode ≠ 11) :
    exec (.faultInject role) s = .next (s.put Obj.roaLastError 0x0A) :=
  congrArg Host.Outcome.next ((if_neg (by simp [up])).trans ((if_neg rank.not_gt).trans (if_pos other)))

theorem State.inject_of_unknown (unknown : faultRow (s.oN Obj.injectCode / 65536) = none) : s.inject = s.put Obj.injectResult 1 := by
  unfold State.inject
  simp only [unknown]

theorem State.inject_of_row {row : FaultRow} (hrow : faultRow (s.oN Obj.injectCode / 65536) = some row) (raised : row.recordOnly = false)
    (allowed : row.allows (s.oN Obj.injectCode % 65536) = true) :
    s.inject = (s.put Obj.injectResult 0).raiseWith (s.oN Obj.injectCode / 65536) (s.oN Obj.injectCode % 65536) true
      (s.oN Obj.injectPinOverride != 1) := by
  unfold State.inject
  simp only [hrow, raised, allowed, Bool.false_eq_true, if_false, if_true]

/-- Settles O10: the flush's and the injection's guards, and for a code below class SAFE the collector's own entry. -/
theorem logFlushAndInjection : Obligations.LogFlushAndInjection := by
  refine ⟨fun s _ held => exec_eventLogFlush_of_held held, ?flush, ?known, ?unknown, fun s role => exec_faultInject_of_other, ?queued⟩
  case flush =>
    intro s up free
    exact ⟨_, exec_eventLogFlush_of_free up free, rfl, rfl, State.flushLog_ring_suffix, State.flushLog_ring_length, rfl⟩
  case known =>
    intro s role row up rank mode hrow raised allowed
    rw [exec_faultInject_of_mode up rank mode, State.inject_of_row hrow raised allowed]
  case unknown =>
    intro s role up rank mode hrow
    rw [exec_faultInject_of_mode up rank mode, State.inject_of_unknown hrow]
  case queued =>
    intro s role row up rank mode hrow raised allowed low room
    obtain ⟨r, collected, hcode, hinst, -, -, -, -, injected⟩ :=
      State.collect_of_room (s := s.put Obj.injectResult 0) (injected := true) hrow raised allowed room
    refine ⟨_, r, (exec_faultInject_of_mode up rank mode).trans (congrArg Host.Outcome.next
      ((State.inject_of_row hrow raised allowed).trans ((State.raiseWith_of_low hrow raised allowed low).trans collected))),
      ?result, congrArg (· ++ [r]) State.noted_queue, hcode, hinst, injected⟩
    have small := faultRow_code_lt_0x1600 hrow
    refine (State.noted_o_other ?_).trans (State.o_put_same ..)
    simp only [List.mem_cons, List.not_mem_nil, or_false, not_or]
    exact ⟨key_ne_of_lt (by decide) (by omega) (.inl (by decide)), key_ne_of_lt (by decide) (by omega) (.inl (by decide)),
      key_ne_of_lt (by decide) (by decide) (.inl (by decide))⟩

end

end Sys2Proof.Machine
end

section
/-! SUPPORT. The vehicle end of the charging link (R343 to R350, R362): what its operations leave, and what each command does or when it does
nothing (O46). -/

namespace Sys2Proof.Machine

/-! ## What safety outputs and the legal session leave -/

section
variable {s : State} {n : Nat} {α : Type} {p : State → α}

/-- A request of an output writes objects alone (R516). -/
theorem State.soRequest_keeps (hp : ∀ k v (t : State), p (t.put k v) = p t) : p (s.soRequest n) = p s := by
  unfold State.soRequest
  split
  · rfl
  · split
    · exact (hp ..).trans (hp ..)
    · exact (hp ..).trans (hp ..)

theorem State.soRelease_keeps (hp : ∀ k v (t : State), p (t.put k v) = p t) : p (s.soRelease n) = p s := by
  unfold State.soRelease
  split
  · rfl
  · extract_lets t
    split
    · exact hp ..
    · exact (hp ..).trans (hp ..)

/-- The outputs' records stand above every other that these commands write. -/
theorem State.soRequest_o_below {k : Nat} (below : k < 0x8100 * 256) : (s.soRequest n).o k = s.o k := by
  have other {i j : Nat} (v : Int) (t : State) : (t.put (key (0x8100 + i) j) v).o k = t.o k := t.o_put_other v (by unfold key; omega)
  unfold State.soRequest
  split
  · rfl
  · split
    · exact (other ..).trans (other ..)
    · exact (other ..).trans (other ..)

theorem State.soRelease_o_below {k : Nat} (below : k < 0x8100 * 256) : (s.soRelease n).o k = s.o k := by
  have other {i j : Nat} (v : Int) (t : State) : (t.put (key (0x8100 + i) j) v).o k = t.o k := t.o_put_other v (by unfold key; omega)
  unfold State.soRelease
  split
  · rfl
  · extract_lets t
    split
    · exact other ..
    · exact (other ..).trans (other ..)

/-- A legal record writes the meter's session record alone (R414 to R416). -/
theorem State.mtrIssue_o_other {k kind start stop imp exp flags events peak : Nat} {x : MtrSess} (other : k / 256 ≠ 0x7004) :
    (s.mtrIssue kind x start stop imp exp flags events peak).o k = s.o k :=
  State.o_put_other _ _ fun same => other (by rw [same]; decide)

theorem State.mtrInterval_o_other {k stop flags : Nat} (other : k / 256 ≠ 0x7004) : (s.mtrInterval stop flags).o k = s.o k := by
  unfold State.mtrInterval
  split
  · rfl
  · exact State.mtrIssue_o_other other

theorem State.mtrClose_o_other {k flags : Nat} (other : k / 256 ≠ 0x7004) : (s.mtrClose flags).o k = s.o k := by
  unfold State.mtrClose State.mtrCloseAt
  split
  · rfl
  · extract_lets t
    have interval : t.o k = s.o k := State.mtrInterval_o_other other
    clear_value t
    split
    · exact interval
    · exact (State.o_put_other _ _ fun same => other (by rw [same]; decide)).trans ((State.mtrIssue_o_other other).trans interval)

theorem State.mtrOpen_o_other {k billed id : Nat} (other : k / 256 ≠ 0x7004) : (s.mtrOpen billed id).o k = s.o k := by
  unfold State.mtrOpen
  split
  · rfl
  · exact (State.mtrIssue_o_other other).trans (State.o_put_other _ _ fun same => other (by rw [same]; decide))

theorem State.mtrOpen_cp {billed id : Nat} : (s.mtrOpen billed id).cp = s.cp := by
  unfold State.mtrOpen
  split <;> rfl

/-- The managed partner entry is no object. -/
theorem State.tdManage_o {k connection identity : Nat} {initiator : Bool} : (s.tdManage connection identity initiator).o k = s.o k := by
  unfold State.tdManage
  split <;> rfl

/-- The end of an agreement writes TdState and the managed partner entry (R361, R514). -/
theorem State.tdEnd_o_other {k : Nat} (other : k ≠ Obj.tdState) : s.tdEnd.o k = s.o k := by
  unfold State.tdEnd
  extract_lets n src
  split
  · exact (State.tdManage_o (s := s.put Obj.tdState 6)).trans (s.o_put_other 6 other)
  · rfl

end

/-! ## The link's states (R347) -/

section
variable {s : State}

/-- Whether the vehicle end works rests on no live object but ModeState. -/
theorem State.lkOn_put_other {k : Nat} {v : Int} (other : Obj.modeState ≠ k) : (s.put k v).lkOn = s.lkOn := by
  simp only [State.lkOn, State.engOn, State.up_put_other s v other, State.mode_put_other s v other]
  rfl

theorem State.vehicle_of_lkOn (on : s.lkOn = true) : s.station = false := by
  simp only [State.lkOn, Bool.and_eq_true, Bool.not_eq_true'] at on
  obtain ⟨⟨_, vehicle⟩, _⟩ := on
  exact vehicle

theorem State.lkShow_keeps {α : Type} {p : State → α} (hp : ∀ k v (t : State), p (t.put k v) = p t) (hm : ∀ f (t : State), p (t.lkMod f) = p t) :
    p s.lkShow = p s := by
  unfold State.lkShow
  extract_lets a t u v
  have hv : p v = p s := by
    have hu : p u = p s := (hp ..).trans (hm ..)
    unfold v
    split
    · exact (hp ..).trans hu
    · exact hu
  split
  · exact hv
  · exact (hp ..).trans hv

/-- What the link shows are the inlet's voltage and current and the pins' temperature. -/
theorem State.lkShow_o_other {k : Nat} (volts : k ≠ Obj.lkInletVoltage) (amps : k ≠ Obj.lkInletCurrent) (pins : k ≠ Obj.lkPinTempMax) :
    s.lkShow.o k = s.o k := by
  unfold State.lkShow
  extract_lets a t u v
  have hv : v.o k = s.o k := by
    have hu : u.o k = s.o k := t.o_put_other _ volts
    unfold v
    split
    · exact (u.o_put_other _ amps).trans hu
    · exact hu
  split
  · exact hv
  · exact (v.o_put_other _ pins).trans hv

theorem State.lkLoad_keeps {α : Type} {p : State → α} (hp : ∀ k v (t : State), p (t.put k v) = p t) : p s.lkLoad = p s := by
  unfold State.lkLoad
  extract_lets n st
  split
  · rfl
  split
  · split
    · rfl
    · exact State.soRequest_keeps hp
  split
  · exact State.soRelease_keeps hp
  · rfl

theorem State.lkLoad_o_below {k : Nat} (below : k < 0x8100 * 256) : s.lkLoad.o k = s.o k := by
  unfold State.lkLoad
  extract_lets n st
  split
  · rfl
  split
  · split
    · rfl
    · exact State.soRequest_o_below below
  split
  · exact State.soRelease_o_below below
  · rfl

/-- A state that no session ends in. -/
theorem State.lkTo_of_running {n : Nat} (running : n ≠ 9 ∧ n ≠ 10) : s.lkTo n = ((s.put Obj.lkState n).lkShow).lkLoad :=
  if_neg (by simp [running])

theorem State.lkTo_cp {n : Nat} (running : n ≠ 9 ∧ n ≠ 10) : (s.lkTo n).cp = s.cp := by
  rw [State.lkTo_of_running running, State.lkLoad_keeps (p := State.cp) (fun _ _ _ => rfl),
    State.lkShow_keeps (p := State.cp) (fun _ _ _ => rfl) (fun _ _ => rfl)]
  rfl

/-- A state entered leaves every object of another record below the outputs'. -/
theorem State.lkTo_o_other {n k : Nat} (running : n ≠ 9 ∧ n ≠ 10) (below : k < 0x8100 * 256) (state : k ≠ Obj.lkState)
    (volts : k ≠ Obj.lkInletVoltage) (amps : k ≠ Obj.lkInletCurrent) (pins : k ≠ Obj.lkPinTempMax) : (s.lkTo n).o k = s.o k := by
  rw [State.lkTo_of_running running, State.lkLoad_o_below below, State.lkShow_o_other volts amps pins, State.o_put_other _ _ state]

theorem State.lkTo_state (n : Nat) : (s.lkTo n).oN Obj.lkState = n := by
  unfold State.lkTo
  extract_lets t
  have ht : t.o Obj.lkState = n := by
    unfold t
    rw [State.lkLoad_o_below (by decide), State.lkShow_o_other (key_ne (by decide)) (key_ne (by decide)) (key_ne (by decide)), State.o_put_same]
  have closed : (t.tdEnd.mtrClose 0).o Obj.lkState = n := by
    rw [State.mtrClose_o_other (by decide), State.tdEnd_o_other (key_ne (by decide)), ht]
  split
  · exact congrArg Int.toNat closed
  · exact congrArg Int.toNat ht

theorem State.lkTo_hbDrive (n : Nat) : (s.lkTo n).hbDrive = s.hbDrive := by
  unfold State.lkTo
  extract_lets t
  have ht : t.hbDrive = s.hbDrive := by
    unfold t
    rw [State.lkLoad_keeps (p := State.hbDrive) (fun _ _ _ => rfl),
      State.lkShow_keeps (p := State.hbDrive) (fun _ _ _ => rfl) (fun _ _ => rfl)]
    rfl
  split
  · simpa using ht
  · exact ht

theorem State.lkStop_of_delivering {cause : Nat} (on : s.lkOn = true) (delivering : s.oN Obj.lkState = 6) :
    s.lkStop cause = ((s.put Obj.lkStopCause cause).lkTo 7).lkMod (fun x => { x with target := 0 }) := if_pos ⟨on, delivering⟩

theorem State.lkStop_of_other {cause : Nat} (other : s.oN Obj.lkState ≠ 6) : s.lkStop cause = s := if_neg fun ⟨_, delivering⟩ => other delivering

end

/-! ## Plug, pilot and pins (R343 to R346, R349, R362) -/

section
variable {s : State} (on : s.lkOn = true)
include on

theorem exec_linkPlugged_of_idle {p : BitVec 3} {q : BitVec 2} (idle : s.oN Obj.lkState = 0) (known : q ≠ 0) :
    exec (.linkPlugged p q) s = .next
      (((((s.put Obj.lkPlugged 1).put Obj.lkPilotState (min p.toNat 6 : Nat)).put Obj.lkStopCause 0).put Obj.lkProtocol q.toNat).lkTo 1) := by
  let t := (s.put Obj.lkPlugged 1).put Obj.lkPilotState (min p.toNat 6 : Nat)
  have ton : t.lkOn = true := by rw [State.lkOn_put_other (key_ne (by decide)), State.lkOn_put_other (key_ne (by decide)), on]
  have tidle : t.oN Obj.lkState = 0 := by rw [State.oN_put_other _ _ (key_ne (by decide)), State.oN_put_other _ _ (key_ne (by decide)), idle]
  have number : q.toNat ≠ 0 := fun zero => known (BitVec.eq_of_toNat_eq zero)
  refine congrArg Host.Outcome.next ((if_neg (by simp [State.vehicle_of_lkOn on])).trans ?_)
  exact (if_pos ⟨ton, tidle⟩).trans (if_neg number)

/-- A plug that is lost is shown, and acts in the states behind the choice. -/
theorem exec_linkDetectionLost_of_on (a : BitVec 32) :
    exec (.linkDetectionLost a) s = .next (
      if s.oN Obj.lkState = 9 then ((s.put Obj.lkPlugged 0).put Obj.lkPilotState 0).lkTo 0
      else if s.oN Obj.lkState = 10 then ((s.put Obj.lkPlugged 0).put Obj.lkPilotState 0).lkOpen.lkTo 0
      else if s.cF Obj.lkOpenCurrent < |F32.toRat a.toNat| then ((s.put Obj.lkPlugged 0).put Obj.lkPilotState 0).lkFault FC.lnkUnplug 6
      else (s.put Obj.lkPlugged 0).put Obj.lkPilotState 0) := by
  have ton : ((s.put Obj.lkPlugged 0).put Obj.lkPilotState 0).lkOn = true := by
    rw [State.lkOn_put_other (key_ne (by decide)), State.lkOn_put_other (key_ne (by decide)), on]
  have state : ((s.put Obj.lkPlugged 0).put Obj.lkPilotState 0).oN Obj.lkState = s.oN Obj.lkState := by
    rw [State.oN_put_other _ _ (key_ne (by decide)), State.oN_put_other _ _ (key_ne (by decide))]
  refine congrArg Host.Outcome.next ((if_neg (by simp [State.vehicle_of_lkOn on])).trans ?_)
  unfold State.lkUnplug
  simp only [ton, state, not_true_eq_false, if_false, State.cF_put]
  rfl

theorem exec_pilotInvalid_of_bad {p : BitVec 3} {d : BitVec 32} (bad : 5 ≤ p.toNat ∨ pilotLimit (F32.toRat d.toNat) = some 0) :
    exec (.pilotInvalid p d) s = .next (
      if 1 ≤ s.oN Obj.lkState ∧ s.oN Obj.lkState ≤ 8 then (s.put Obj.lkPilotState (min p.toNat 6 : Nat)).lkFault FC.lnkPilot 5
      else (s.put Obj.lkPilotState (min p.toNat 6 : Nat)).raise FC.lnkPilot 0) := by
  have state : (s.put Obj.lkPilotState (min p.toNat 6 : Nat)).oN Obj.lkState = s.oN Obj.lkState := State.oN_put_other _ _ (key_ne (by decide))
  refine congrArg Host.Outcome.next ((if_pos ⟨on, bad⟩).trans ?_)
  simp only [state]

/-- The derating temperature crossed: the raise, then what the limit says. -/
theorem State.pinJudge_of_warm {temp : Nat} (cool : s.lk.warm = false) (warm : s.cF Obj.lkPinTempDerate < F32.toRat temp)
    (below : F32.toRat temp < s.cF Obj.lkPinTempLimit) :
    s.pinJudge temp = ((s.lkMod (fun x => { x with warm := true, hot := false })).put Obj.lkPinTempMax temp).raise FC.lnkPintemp 0 := by
  unfold State.pinJudge
  simp only [warm, below.not_ge, decide_true, decide_false, cool, Bool.false_eq_true, false_and, if_false, not_false_eq_true, and_true]
  exact if_pos on

/-- The limit reached by pins that were warm before. -/
theorem State.pinJudge_of_hot {temp : Nat} (was : s.lk.warm = true) (warm : s.cF Obj.lkPinTempDerate < F32.toRat temp) (fresh : s.lk.hot = false)
    (reached : s.cF Obj.lkPinTempLimit ≤ F32.toRat temp) :
    s.pinJudge temp =
      let t := (s.lkMod (fun x => { x with warm := true, hot := true })).put Obj.lkPinTempMax temp
      if s.oN Obj.lkState = 6 then (t.lkStop 5).raise FC.lnkPinhot 0
      else if 1 ≤ s.oN Obj.lkState ∧ s.oN Obj.lkState ≤ 5 then t.lkFault FC.lnkPinhot 5
      else t.raise FC.lnkPinhot 0 := by
  have state (f : LkX → LkX) : ((s.lkMod f).put Obj.lkPinTempMax temp).oN Obj.lkState = s.oN Obj.lkState :=
    State.oN_put_other _ _ (key_ne (by decide))
  unfold State.pinJudge
  simp only [warm, reached, decide_true, was, fresh, not_true_eq_false, and_false, if_false, Bool.false_eq_true, not_false_eq_true, and_true, if_true]
  refine (if_neg (not_not.mpr on)).trans ?_
  simp only [state]

end

section
variable {s : State}

theorem State.pinJudge_of_cool {temp : Nat} (cool : F32.toRat temp ≤ s.cF Obj.lkPinTempDerate) (below : F32.toRat temp < s.cF Obj.lkPinTempLimit) :
    s.pinJudge temp = s.lkMod (fun x => { x with warm := false, hot := false }) := by
  unfold State.pinJudge
  simp only [cool.not_gt, below.not_ge, decide_false, Bool.false_eq_true, false_and, and_false, if_false]

theorem exec_pilotInvalid_of_good {p : BitVec 3} {d : BitVec 32} (state : p.toNat < 5) (duty : pilotLimit (F32.toRat d.toNat) ≠ some 0) :
    exec (.pilotInvalid p d) s = .next s :=
  congrArg Host.Outcome.next (if_neg fun ⟨_, bad⟩ => bad.elim state.not_ge duty)

/-! ## Agreement, contactors and delivery (R347, R348) -/

theorem State.lkAgreed_of_carried {service session volts amps duty : Nat} (on : s.lkOn = true) (plugged : s.oN Obj.lkState = 1)
    (carried : serviceOk (s.oN Obj.lkProtocol) service = true) :
    s.lkAgreed service session volts amps duty =
      (((((s.put Obj.lkEnergyService service).put Obj.lkSessionId session).put Obj.lkPostMaxVoltage volts).put Obj.lkPostMaxCurrent amps).lkHandOver
        (F32.toRat amps) (F32.toRat duty)).lkTo 2 :=
  (if_neg (by simp [on, plugged])).trans (if_neg (by simp [carried]))

theorem State.lkAgreed_of_other {service session volts amps duty : Nat} (on : s.lkOn = true) (plugged : s.oN Obj.lkState = 1)
    (other : serviceOk (s.oN Obj.lkProtocol) service = false) :
    s.lkAgreed service session volts amps duty = s.lkFault FC.lnkProtocol 5 :=
  (if_neg (by simp [on, plugged])).trans (if_pos (by simp [other]))

/-- Delivery in a running session of CP0, without a boost converter. -/
theorem State.lkConfirmed_of_session (on : s.lkOn = true) (closing : s.oN Obj.lkState = 5) (session : (s.cpx 0).session = true)
    (plain : s.oN Obj.wcTopology ≠ 2) : s.lkConfirmed true = (s.lkTo 6).mtrOpen 2 ((s.lkTo 6).oN Obj.lkSessionId) := by
  have running : (6 : Nat) ≠ 9 ∧ (6 : Nat) ≠ 10 := by decide
  have id : (s.lkTo 6).oN Obj.lkSessionId = s.oN Obj.lkSessionId :=
    congrArg Int.toNat (State.lkTo_o_other running (by decide) (key_ne (by decide)) (key_ne (by decide)) (key_ne (by decide)) (key_ne (by decide)))
  have kept : (((s.lkTo 6).mtrOpen 2 (s.oN Obj.lkSessionId)).cpx 0).session = true := by
    rw [State.cpx, State.mtrOpen_cp, State.lkTo_cp running]
    exact session
  have topology : ((s.lkTo 6).mtrOpen 2 (s.oN Obj.lkSessionId)).oN Obj.wcTopology = s.oN Obj.wcTopology :=
    congrArg Int.toNat ((State.mtrOpen_o_other (by decide)).trans
      (State.lkTo_o_other running (by decide) (by decide) (by decide) (by decide) (by decide)))
  unfold State.lkConfirmed
  rw [if_neg (by simp [on, closing]), if_pos rfl, id]
  simp only [kept, if_true, topology, plain, false_and, if_false]

theorem State.lkConfirmed_of_apart (on : s.lkOn = true) (closing : s.oN Obj.lkState = 5) :
    s.lkConfirmed false = s.lkFault FC.lnkContactor 5 := (if_neg (by simp [on, closing])).trans (if_neg Bool.false_ne_true)

theorem exec_linkStopRequest_of_mayWrite {role : Role} (may : s.MayWrite role 2 Obj.lkStopRequest) (vehicle : s.station = false) :
    exec (.linkStopRequest role) s = .next (s.lkStop 2) := congrArg Host.Outcome.next (State.accessAt_of_vehicle may vehicle _)

/-- The current at the inlet is not above the limit, or there is no input that reads it. -/
theorem exec_inletCurrentLow_of_low (low : s.inletAmps = none ∨ s.inletAmps = some 0) (limit : 0 ≤ s.cF Obj.lkOpenCurrent) :
    exec .inletCurrentLow s = .next s.lkCurrentLow := by
  refine congrArg Host.Outcome.next ?_
  rcases low with none | zero
  · rw [none]
  · rw [zero]
    exact if_pos (by simpa using limit)

theorem exec_inletCurrentLow_of_high {a : Rat} (amps : s.inletAmps = some a) (high : s.cF Obj.lkOpenCurrent < |a|) :
    exec .inletCurrentLow s = .next s := by
  refine congrArg Host.Outcome.next ?_
  rw [amps]
  exact if_neg high.not_ge

theorem State.lkCurrentLow_of_stopping (on : s.lkOn = true) (stopping : s.oN Obj.lkState = 7) : s.lkCurrentLow = s.lkOpen.lkTo 8 :=
  (if_neg (by simp [on])).trans (if_pos stopping)

theorem State.lkCurrentLow_of_fault (on : s.lkOn = true) (fault : s.oN Obj.lkState = 10) :
    s.lkCurrentLow = if s.lkOpen.oN Obj.lkPlugged = 0 then s.lkOpen.lkTo 0 else s.lkOpen :=
  (if_neg (by simp [on])).trans ((if_neg (by simp [fault])).trans (if_pos fault))

theorem exec_linkFaultOpenTimeout_of_fault (on : s.lkOn = true) (fault : s.oN Obj.lkState = 10) :
    exec .linkFaultOpenTimeout s = .next (if s.lkOpen.oN Obj.lkPlugged = 0 then s.lkOpen.lkTo 0 else s.lkOpen) :=
  congrArg Host.Outcome.next ((if_pos fault).trans (State.lkCurrentLow_of_fault on fault))

theorem exec_inletDischarged_of_low (on : s.lkOn = true) (opened : s.oN Obj.lkState = 8) (low : s.inletVolts < 60) (whole : s.oN Obj.wcState ≠ 7) :
    exec .inletDischarged s =
      .next (if ((s.lkTo 9).sessionEnd 0).oN Obj.lkPlugged = 0 then ((s.lkTo 9).sessionEnd 0).lkTo 0 else (s.lkTo 9).sessionEnd 0) := by
  refine congrArg Host.Outcome.next ((if_pos ⟨on, opened, low⟩).trans ?_)
  rw [if_neg whole]

end

/-- Settles O46: each command's guard picks its case; a state entered writes the link's record, the outputs' and the meter's session alone. -/
theorem vehicleEndOfTheLink : Obligations.VehicleEndOfTheLink := by
  unfold Obligations.VehicleEndOfTheLink
  refine ⟨?plugged, ?lostQuiet, ?lostUnderCurrent, ?lostFinished, ?fault, ?pilotRaises, ?pilotFault, ?pilotGood, ?agreed, ?notCarried, ?cable,
    ?precharge, ?match_, ?matchFallback, ?noMatch, ?fallback, ?noFallback, ?late, ?inTime, ?delivery, ?apart, ?stopRequest, ?stopOther, ?postStop,
    ?postStopOther, ?currentLow, ?currentHigh, ?weld1, ?noWeld1, ?weld5, ?noWeld5, ?discharged, ?charged, ?warm, ?cool, ?hotDelivering, ?hotBefore,
    ?faultPlugged, ?faultUnplugged, ?faultOther, ?outputOpens, ?outputOther, ?timeout⟩
  case plugged => exact fun s p q on idle known => exec_linkPlugged_of_idle on idle known
  case lostQuiet =>
    intro s a on open_ low
    rw [exec_linkDetectionLost_of_on on, if_neg (by omega), if_neg (by omega), if_neg low.not_gt]
  case lostUnderCurrent =>
    intro s a on open_ high
    rw [exec_linkDetectionLost_of_on on, if_neg (by omega), if_neg (by omega), if_pos high]
  case lostFinished =>
    intro s a on finished
    rw [exec_linkDetectionLost_of_on on, if_pos finished]
  case fault => exact fun s code cause on open_ => ⟨if_pos ⟨on, open_⟩, State.lkTo_state 10, State.lkTo_hbDrive 10⟩
  case pilotRaises =>
    intro s p d on closed bad
    rw [exec_pilotInvalid_of_bad on bad, if_neg (by omega)]
  case pilotFault =>
    intro s p d on open_ bad
    rw [exec_pilotInvalid_of_bad on bad, if_pos open_]
  case pilotGood => exact fun s p d state duty => exec_pilotInvalid_of_good state duty
  case agreed => exact fun s e i v a d on plugged carried => congrArg Host.Outcome.next (State.lkAgreed_of_carried on plugged carried)
  case notCarried => exact fun s e i v a d on plugged other => congrArg Host.Outcome.next (State.lkAgreed_of_other on plugged other)
  case cable => exact fun s on agreed mode => congrArg Host.Outcome.next (if_pos ⟨on, agreed, mode⟩)
  case precharge => exact fun s on checked => congrArg Host.Outcome.next (if_pos ⟨on, checked⟩)
  case match_ =>
    intro s on precharging matched plain
    refine congrArg Host.Outcome.next ((if_pos ⟨on, precharging, matched⟩).trans ?_)
    rw [plain]
    rfl
  case matchFallback =>
    intro s on precharging matched fallback
    refine congrArg Host.Outcome.next ((if_pos ⟨on, precharging, matched⟩).trans ?_)
    rw [fallback]
    rfl
  case noMatch => exact fun s apart => congrArg Host.Outcome.next (if_neg (by simp [apart]))
  case fallback => exact fun s on precharging apart output => congrArg Host.Outcome.next (if_pos ⟨on, precharging, by simp [apart], output⟩)
  case noFallback =>
    exact fun s other => congrArg Host.Outcome.next (if_neg fun ⟨_, _, apart, output⟩ => other.elim apart output.not_ge)
  case late => exact fun s precharging apart => congrArg Host.Outcome.next (if_pos ⟨precharging, by simp [apart]⟩)
  case inTime => exact fun s other => congrArg Host.Outcome.next (if_neg fun ⟨precharging, apart⟩ => other.elim (· precharging) apart)
  case delivery =>
    exact fun s vehicle on closing session plain =>
      congrArg Host.Outcome.next ((if_pos (by simp [vehicle])).trans (State.lkConfirmed_of_session on closing session plain))
  case apart =>
    exact fun s vehicle on closing => congrArg Host.Outcome.next ((if_pos (by simp [vehicle])).trans (State.lkConfirmed_of_apart on closing))
  case stopRequest =>
    intro s role may vehicle on delivering
    rw [exec_linkStopRequest_of_mayWrite may vehicle, State.lkStop_of_delivering on delivering]
    rfl
  case stopOther =>
    intro s role may vehicle other
    rw [exec_linkStopRequest_of_mayWrite may vehicle, State.lkStop_of_other other]
  case postStop => exact fun s on delivering => congrArg Host.Outcome.next (State.lkStop_of_delivering on delivering)
  case postStopOther => exact fun s other => congrArg Host.Outcome.next (State.lkStop_of_other other)
  case currentLow =>
    intro s on stopping low limit
    rw [exec_inletCurrentLow_of_low low limit, State.lkCurrentLow_of_stopping on stopping]
  case currentHigh => exact fun s a amps high => exec_inletCurrentLow_of_high amps high
  case weld1 => exact fun s v opened welded => congrArg Host.Outcome.next (if_pos ⟨opened, welded⟩)
  case noWeld1 => exact fun s v other => congrArg Host.Outcome.next (if_neg fun ⟨opened, welded⟩ => other.elim (· opened) welded.not_gt)
  case weld5 => exact fun s v opened high => congrArg Host.Outcome.next (if_pos ⟨opened, high⟩)
  case noWeld5 => exact fun s v other => congrArg Host.Outcome.next (if_neg fun ⟨opened, high⟩ => other.elim (· opened) high.not_gt)
  case discharged =>
    intro s on opened low whole plugged
    rw [exec_inletDischarged_of_low on opened low whole, if_neg plugged]
  case charged => exact fun s other => congrArg Host.Outcome.next (if_neg fun ⟨_, opened, low⟩ => other.elim (· opened) low.not_ge)
  case warm => exact fun s v on cool warm below => congrArg Host.Outcome.next (State.pinJudge_of_warm on cool warm below)
  case cool => exact fun s v cool below => congrArg Host.Outcome.next (State.pinJudge_of_cool cool below)
  case hotDelivering =>
    intro s v on was warm fresh reached delivering
    exact congrArg Host.Outcome.next ((State.pinJudge_of_hot on was warm fresh reached).trans (if_pos delivering))
  case hotBefore =>
    intro s v on was warm fresh reached before
    exact congrArg Host.Outcome.next ((State.pinJudge_of_hot on was warm fresh reached).trans ((if_neg (by omega)).trans (if_pos before)))
  case faultPlugged =>
    intro s on fault plugged
    rw [exec_linkFaultOpenTimeout_of_fault on fault, if_neg plugged]
  case faultUnplugged =>
    intro s on fault unplugged
    rw [exec_linkFaultOpenTimeout_of_fault on fault, if_pos unplugged]
  case faultOther => exact fun s other => congrArg Host.Outcome.next (if_neg other)
  case outputOpens => exact fun s on fallback late => congrArg Host.Outcome.next (if_pos ⟨on, fallback, late⟩)
  case outputOther => exact fun s none => congrArg Host.Outcome.next (if_neg (by simp [none]))
  case timeout => exact fun s vehicle => congrArg Host.Outcome.next (if_pos (by simp [vehicle]))

end Sys2Proof.Machine
end

section
/-! SUPPORT. What Monarch and the post's client leave of the device: the mode record, the two sets and the post's own state (R384 to R395). -/

namespace Sys2Proof.Machine

/-- What Monarch and its client never touch: a reading of the state that their own record, the ports' queues, the collector and the objects of
other records than those named do not move. -/
structure State.MonBlind {α : Type} (p : State → α) : Prop where
  mon : ∀ (f : MonX → MonX) (t : State), p (t.monMod f) = p t
  wire : ∀ (f : NetX → NetX) (t : State), p (t.netMod f) = p t
  note : ∀ (code inst : Nat) (t : State), p (t.note code inst) = p t
  put : ∀ {i j : Nat} (v : Int) (t : State), j < 256 → i ≠ 0x2000 → i ≠ 0x2500 → i ≠ 0x6101 → p (t.put (key i j) v) = p t

section
variable {α : Type} {p : State → α} {s : State} (h : State.MonBlind p)
include h

theorem State.MonBlind.gateOverrun {port : Nat} (xg : port < 2) (s : State) : p (s.gateOverrun port) = p s := by
  have counted : p (s.incSat (Obj.xgGateOverrunCount port)) = p s := h.put _ _ (by decide) (by omega) (by omega) (by omega)
  exact (h.note ..).trans counted

theorem State.MonBlind.netPut (port : Nat) (f : TxFrame) (s : State) : p (s.netPut port f).1 = p s := by
  have dropped : p (if port < 2 then s.incSat (Obj.xgTxDropCount port) else s) = p s := by
    split
    · exact h.put _ _ (by omega) (by omega) (by omega) (by omega)
    · rfl
  unfold State.netPut
  split
  · exact dropped
  split
  · next xg => exact h.gateOverrun xg.1 s
  split
  · exact dropped
  · dsimp only
    exact h.wire ..

theorem State.MonBlind.monWire (typ : Nat) (f : MonIn) (s : State) : p (s.monWire typ f) = p s := by
  unfold State.monWire
  extract_lets port t
  have sent : p t = p s := h.mon ..
  split
  · exact (h.netPut ..).trans sent
  · exact sent

theorem State.MonBlind.monSend (typ : Nat) (f : MonIn) (s : State) : p (s.monSend typ f) = p s := by
  unfold State.monSend
  extract_lets g
  split
  · exact h.mon ..
  · exact h.monWire ..

theorem State.MonBlind.monShow (s : State) : p s.monShow = p s := by
  have shown {j : Nat} (v : Int) (t : State) (small : j < 256) : p (t.put (key 0x6501 j) v) = p t :=
    h.put v t small (by decide) (by decide) (by decide)
  exact (shown _ _ (by decide)).trans ((shown _ _ (by decide)).trans ((shown _ _ (by decide)).trans (shown _ _ (by decide))))

theorem State.MonBlind.reduceLease (l : Lease) (q : Rat) (s : State) : p (s.reduceLease l q) = p s := by
  unfold State.reduceLease
  split
  · exact (h.put _ _ (by decide) (by decide) (by decide) (by decide)).trans ((h.monSend ..).trans (h.mon ..))
  · rfl

theorem State.MonBlind.reduceClass (cls : Nat) (acc : State × Rat) : p (State.reduceClass cls acc).1 = p acc.1 := by
  unfold State.reduceClass
  split
  · rfl
  · exact State.foldl_keeps (p := p) (fun t (l : Lease × Rat) => h.reduceLease l.1 l.2 t) _

theorem State.MonBlind.monEval (s : State) : p s.monEval = p s := by
  unfold State.monEval
  extract_lets b t short
  have judged : p t = p s := by
    unfold t
    split
    · exact h.mon ..
    split
    · rfl
    · exact (h.note ..).trans (h.mon ..)
  exact (h.monShow _).trans ((h.reduceClass ..).trans ((h.reduceClass ..).trans ((h.reduceClass ..).trans judged)))

theorem State.MonBlind.monRefuse (f : MonIn) (result : Nat) (s : State) : p (s.monRefuse f result) = p s :=
  (h.put _ _ (by decide) (by decide) (by decide) (by decide)).trans (h.monSend ..)

theorem State.MonBlind.monGrant (f : MonIn) (old : Option Lease) (q : Rat) (reserve exporting : Bool) (s : State) :
    p (s.monGrant f old q reserve exporting) = p s := by
  unfold State.monGrant
  extract_lets e a id l t shown
  have granted : p t = p s := by
    unfold t
    split
    · exact h.mon ..
    · exact h.mon ..
  exact (h.monSend ..).trans ((h.mon ..).trans granted)

theorem State.MonBlind.keepPlace (partner cls : Nat) (s : State) : p (s.keepPlace partner cls) = p s := by
  unfold State.keepPlace
  exact h.mon ..

theorem State.MonBlind.monRequest (f : MonIn) (s : State) : p (s.monRequest f) = p s := by
  unfold State.monRequest
  extract_lets _ cls amount minimum old own
  split
  · exact h.monRefuse ..
  split
  · exact h.mon ..
  split
  · exact h.monGrant ..
  split
  · exact (h.note ..).trans (h.monRefuse ..)
  split
  · split
    · exact h.monGrant ..
    · exact h.monRefuse ..
  · split
    · exact h.monGrant ..
    · exact (h.monRefuse ..).trans (h.keepPlace ..)

theorem State.MonBlind.monServe (f : MonIn) (s : State) : p (s.monServe f) = p s := by
  unfold State.monServe
  split
  · exact h.monRefuse ..
  · exact (h.monShow _).trans ((h.monRequest ..).trans (h.monEval _))

theorem State.MonBlind.monRenew (f : MonIn) (s : State) : p (s.monRenew f) = p s := by
  unfold State.monRenew
  split
  · exact h.monRefuse ..
  split
  · exact h.monRefuse ..
  split
  · exact h.monRefuse ..
  · exact (h.monSend ..).trans (h.mon ..)

theorem State.MonBlind.monRelease (f : MonIn) (s : State) : p (s.monRelease f) = p s := by
  unfold State.monRelease
  split
  · rfl
  · extract_lets a g q
    split
    · exact (h.monEval _).trans (h.mon ..)
    · exact (h.monEval _).trans (h.mon ..)

theorem State.MonBlind.reduced (id : Nat) (s : State) : p (s.reduced id) = p s := by
  have resumed (t : State) : p (t.monResume id) = p t :=
    (State.foldl_keeps (p := p) (fun t f => h.monRequest f t) _).trans (h.mon ..)
  exact (h.monShow _).trans ((resumed _).trans ((h.monEval _).trans (h.mon ..)))

theorem State.MonBlind.monAck (f : MonIn) (s : State) : p (s.monAck f) = p s := by
  unfold State.monAck
  split
  · split
    · exact h.reduced ..
    · rfl
  · rfl

/-! ## The client -/

theorem State.MonBlind.clientSend (typ amount cls : Nat) (s : State) : p (s.clientSend typ amount cls) = p s := by
  unfold State.clientSend
  extract_lets f g t
  have stamped : p t = p s := h.mon ..
  split
  · exact h.monWire ..
  split
  · exact stamped
  split
  · exact (h.monServe ..).trans stamped
  · exact (h.monRenew ..).trans stamped
  · exact (h.monAck ..).trans stamped
  · exact (h.monRelease ..).trans stamped
  · exact stamped

theorem State.MonBlind.client {j : Nat} (v : Int) (s : State) (small : j < 256) : p (s.put (key 0x6520 j) v) = p s :=
  h.put v s small (by decide) (by decide) (by decide)

theorem State.MonBlind.clientAsk (amount cls : Nat) (s : State) : p (s.clientAsk amount cls) = p s := by
  unfold State.clientAsk
  split
  · rfl
  · extract_lets t
    refine (h.clientSend ..).trans ?_
    split
    · exact (h.client _ _ (by decide)).trans (h.mon ..)
    · exact h.mon ..

theorem State.MonBlind.clientLapse (s : State) : p s.clientLapse = p s :=
  (h.mon ..).trans ((h.client _ _ (by decide)).trans ((h.client _ _ (by decide)).trans (h.client _ _ (by decide))))

theorem State.MonBlind.clientStep (s : State) : p s.clientStep = p s := by
  unfold State.clientStep
  split
  · rfl
  split
  · extract_lets t
    refine (h.clientSend ..).trans ?_
    split
    · exact (h.client _ _ (by decide)).trans (h.mon ..)
    · exact h.mon ..
  · rfl

theorem State.MonBlind.clientTake (typ : Nat) (f : MonIn) (s : State) : p (s.clientTake typ f) = p s := by
  unfold State.clientTake
  extract_lets mine t u v
  split
  · split
    · exact (h.mon ..).trans ((h.clientSend ..).trans (h.mon ..))
    · exact (h.mon ..).trans ((h.client _ _ (by decide)).trans ((h.client _ _ (by decide)).trans ((h.client _ _ (by decide)).trans (h.mon ..))))
  · split
    · have moved : p u = p s := h.client _ _ (by decide)
      split
      · exact (h.client _ _ (by decide)).trans moved
      · exact moved
    · rfl
  · split
    · exact (h.clientStep _).trans ((h.mon ..).trans ((h.client _ _ (by decide)).trans (h.client _ _ (by decide))))
    · rfl
  · have timed : p v = p s := h.mon ..
    split
    · have lapsed : p v.clientLapse = p s := (h.clientLapse _).trans timed
      split
      · exact (h.clientAsk ..).trans lapsed
      · exact lapsed
    · exact timed
  · rfl

theorem State.MonBlind.monSettle (s : State) : p s.monSettle = p s := by
  unfold State.monSettle
  generalize 64 = fuel
  induction fuel generalizing s with
  | zero => rfl
  | succ fuel ih =>
    unfold State.clientDrain
    split
    · rfl
    · exact (ih _).trans ((h.clientTake ..).trans (h.mon ..))

theorem State.MonBlind.monDrop (s : State) : p s.monDrop = p s := by
  have returned : p (if s.mon.leaseId ≠ 0 then s.clientSend 7 0 1 else s) = p s := by
    split
    · exact h.clientSend ..
    · rfl
  exact (h.monSettle _).trans ((h.mon ..).trans ((h.client _ _ (by decide)).trans ((h.client _ _ (by decide)).trans
    ((h.client _ _ (by decide)).trans returned))))

end

end Sys2Proof.Machine
end

section
/-! SUPPORT. The post end of the charging link and Tandem (R351 to R362): what a session's start and end leave, and what each command does or when
it does nothing (O47). -/

namespace Sys2Proof.Machine

/-! ## What a mode entered and a session leave -/

section
variable {s : State}

theorem State.soRequest_control {n : Nat} : (s.soRequest n).control = s.control := by
  unfold State.soRequest
  split
  · rfl
  · split <;> simp (disch := omega)

theorem State.mtrOpen_control {billed id : Nat} : (s.mtrOpen billed id).control = s.control := by
  unfold State.mtrOpen
  split
  · rfl
  · simp (disch := omega)

theorem State.monMode_aside (n : Nat) : (s.monMode n).aside = s.aside := by
  unfold State.monMode
  extract_lets runs
  split
  · rfl
  split
  · rfl
  split <;> rfl

/-- A mode entered leaves both configuration sets and all that stands aside. -/
theorem State.enterMode_aside (n cause : Nat) : (s.enterMode n cause).aside = s.aside := by
  unfold State.enterMode
  extract_lets old t u v w x y
  have ht : t.aside = s.aside := by simp [t, apply_ite State.aside]
  have hu : u.aside = t.aside := by unfold u; split <;> rfl
  have hv : v.aside = u.aside := by unfold v; split <;> rfl
  have hw : w.aside = v.aside := State.monMode_aside n
  exact (show y.aside = w.aside from rfl).trans (hw.trans (hv.trans (hu.trans ht)))

theorem State.o_put_index {i j k : Nat} {v : Int} (other : k / 256 ≠ i) (small : j < 256) : (s.put (key i j) v).o k = s.o k :=
  s.o_put_other v (by unfold key; omega)

theorem State.monMode_o_other {n k : Nat} (other : k / 256 ≠ 0x6501) : (s.monMode n).o k = s.o k := by
  have kept (v : Int) : (s.put Obj.monState v).o k = s.o k := State.o_put_index other (by decide)
  unfold State.monMode
  extract_lets runs
  split
  · rfl
  split
  · exact kept 4
  split
  · exact kept _
  · rfl

/-- The post's own record is none that a mode entered writes. -/
theorem State.enterMode_post {n cause k : Nat} (post : k / 256 = 0x6101) : (s.enterMode n cause).o k = s.o k := by
  have other {i j : Nat} (v : Int) (t : State) (hi : i ≠ 0x6101) (hj : j < 256) : (t.put (key i j) v).o k = t.o k :=
    State.o_put_index (post ▸ hi.symm) hj
  unfold State.enterMode
  extract_lets old t u v w x y
  have ht : t.o k = s.o k := by
    unfold t
    split
    · exact State.mtrClose_o_other (by omega)
    · rfl
  have hu : u.o k = s.o k := by
    unfold u
    split
    · exact (other _ _ (by decide) (by decide)).trans ht
    · exact ht
  have hv : v.o k = s.o k := by
    unfold v
    split
    · exact (other _ _ (by decide) (by decide)).trans hu
    · exact hu
  have hw : w.o k = s.o k := (State.monMode_o_other (by omega)).trans hv
  have hx : x.o k = s.o k := by
    unfold x
    rw [other _ _ (by decide) (by decide), other _ _ (by decide) (by decide), other _ _ (by decide) (by decide),
      other _ _ (by decide) (by decide), hw]
  have hy : y.o k = s.o k := by
    unfold y State.log
    exact (other _ _ (by decide) (by decide)).trans ((other _ _ (by decide) (by decide)).trans hx)
  exact hy

theorem State.postMod_control {f : PostX → PostX} : (s.postMod f).control = s.control := rfl

theorem State.postMod_o {f : PostX → PostX} {k : Nat} : (s.postMod f).o k = s.o k := rfl

theorem State.monBlind_control : State.MonBlind State.control where
  mon _ _ := rfl
  wire _ _ := rfl
  note code inst t := t.note_control code inst
  put v t small modes resets _ := t.put_control v small modes resets

theorem State.monBlind_lkPostState : State.MonBlind (fun t => t.oN Obj.lkPostState) where
  mon _ _ := rfl
  wire _ _ := rfl
  note _ _ _ := State.collect_oN_above (by decide)
  put v t small _ _ other := t.oN_put_other v (key_ne_of_lt (by decide) small (.inl other.symm))

/-! ## The session (R351) -/

theorem State.station_of_postOn (on : s.postOn = true) : s.station = true := by
  simp only [State.postOn, Bool.and_eq_true] at on
  obtain ⟨⟨⟨⟨_, station⟩, _⟩, _⟩, _⟩ := on
  exact station

/-- A cable check's state, from the mode entered on. -/
def State.cableChecked (volts service session : Nat) (s : State) : State :=
  let u := (((s.enterMode 8 0).put Obj.lkPostEnergyService service).put Obj.lkPostState 2).put Obj.lkEvTargetVoltage volts
  let u := (u.put Obj.ccPumpRestarts 0).postMod (fun x => { x with test := F32.ofRat (min (F32.toRat volts) (s.cF Obj.lkRatedVoltage)) })
  (u.mtrOpen 2 session).postClose

theorem State.cableChecked_control (volts service session : Nat) : (s.cableChecked volts service session).control = (s.enterMode 8 0).control := by
  unfold State.cableChecked State.postClose
  rw [State.soRequest_control, State.soRequest_control, State.mtrOpen_control]
  rw [State.postMod_control, State.put_control _ _ (by decide) (by decide) (by decide), State.put_control _ _ (by decide) (by decide) (by decide), State.put_control _ _ (by decide) (by decide) (by decide),
    State.put_control _ _ (by decide) (by decide) (by decide)]

/-- The post's record as the check writes it, before the meter and the contactors. -/
theorem State.cableChecked_o {volts service session k : Nat} (post : k / 256 = 0x6101) :
    (s.cableChecked volts service session).o k =
      ((((s.enterMode 8 0).put Obj.lkPostEnergyService service).put Obj.lkPostState 2).put Obj.lkEvTargetVoltage volts).o k := by
  unfold State.cableChecked State.postClose
  rw [State.soRequest_o_below (by omega), State.soRequest_o_below (by omega), State.mtrOpen_o_other (by omega)]
  rw [State.postMod_o, State.o_put_index (i := 0x6401) (j := 8) (by omega) (by decide)]

theorem State.cableCheck_of_free {volts service session : Nat} (on : s.postOn = true) (mode : s.mode = 7) (plugged : s.oN Obj.lkPostState = 1)
    (free : s.md.requested = false) (carried : 1 ≤ service ∧ service ≤ 4 ∧ (s.oN Obj.lkPostProtocol = 1 ∨ service = 1)) :
    s.cableCheck volts service session = s.cableChecked volts service session :=
  (if_neg (not_not.mpr ⟨on, mode, plugged⟩)).trans ((if_neg (by simp [free])).trans (if_neg (not_not.mpr carried)))

theorem State.cableCheck_of_busy {volts service session : Nat} (on : s.postOn = true) (mode : s.mode = 7) (plugged : s.oN Obj.lkPostState = 1)
    (busy : s.md.requested = true) : s.cableCheck volts service session = (s.put Obj.lkPostStopCause 3).put Obj.lkPostState 0 :=
  (if_neg (not_not.mpr ⟨on, mode, plugged⟩)).trans (if_pos busy)

theorem State.cableCheck_of_other {volts service session : Nat} (other : s.mode ≠ 7 ∨ s.oN Obj.lkPostState ≠ 1) :
    s.cableCheck volts service session = s :=
  if_pos fun ⟨_, mode, plugged⟩ => other.elim (· mode) (· plugged)

/-- A session over in M8 enters M7 once the lease is back. -/
theorem State.postEnd_of_m8 (mode : s.mode = 8) (free : s.md.requested = false) (whole : s.post.code = 0) :
    ∃ u : State, s.postEnd = u.enterMode 7 0 ∧ u.control = s.control ∧ u.oN Obj.lkPostState = 0 := by
  let v := ((s.put Obj.lkPostState 0).put Obj.lkPostCurrentLimit 0).postMod (fun _ => {})
  have control : v.tdEnd.monDrop.control = s.control := by
    unfold v
    rw [State.monBlind_control.monDrop, State.tdEnd_control, State.postMod_control, State.put_control _ _ (by decide) (by decide) (by decide),
      State.put_control _ _ (by decide) (by decide) (by decide)]
  refine ⟨v.tdEnd.monDrop, ?_, control, ?_⟩
  · have code : (if s.md.requested = true ∧ s.oN Obj.modeTarget = 7 then 0 else s.post.code) = 0 :=
      (if_neg (by simp [free])).trans whole
    unfold State.postEnd
    rw [code]
    exact if_pos ((State.mode_of_control control).trans mode)
  · have ended : v.tdEnd.oN Obj.lkPostState = v.oN Obj.lkPostState := congrArg Int.toNat (State.tdEnd_o_other (by decide))
    have closed : v.o Obj.lkPostState = 0 := by
      unfold v
      rw [State.postMod_o, State.o_put_other _ _ (key_ne (by decide)), State.o_put_same]
    exact (State.monBlind_lkPostState.monDrop v.tdEnd).trans (ended.trans (congrArg Int.toNat closed))

theorem exec_postOutputDischarged_of_m8 (on : s.postOn = true) (opened : s.oN Obj.lkPostState = 6) (mode : s.mode = 8) (low : s.postVolts < 60)
    (free : s.md.requested = false) (whole : s.post.code = 0) :
    ∃ t, exec .postOutputDischarged s = .next t ∧ t.mode = 7 ∧ t.oN Obj.modeEntryTime = s.now ∧ t.oN Obj.modeTransitionCause = 0 ∧
      t.oN Obj.lkPostState = 0 ∧ t.active = s.active ∧ t.shadow = s.shadow := by
  obtain ⟨u, ended, control, closed⟩ := State.postEnd_of_m8 mode free whole
  have h := u.enterMode_entered 7 0
  have time : u.now = s.now := congrArg (· / 2000000000) (congrArg Control.devSub control)
  have aside := State.enterMode_aside (s := u) 7 0
  refine ⟨u.enterMode 7 0, congrArg Host.Outcome.next ((if_pos ⟨on, opened, low⟩).trans ended), congrArg Int.toNat h.mode,
    (congrArg Int.toNat h.time).trans time, congrArg Int.toNat h.cause,
    (congrArg Int.toNat (State.enterMode_post rfl)).trans closed, ?_, ?_⟩
  · exact (congrArg Aside.active aside).trans (congrArg Control.active control)
  · exact (congrArg Aside.shadow aside).trans (congrArg Control.shadow control)

theorem exec_cableCheckRequest_of_free {v : BitVec 32} {e : BitVec 3} {i : BitVec 64} (on : s.postOn = true) (mode : s.mode = 7)
    (plugged : s.oN Obj.lkPostState = 1) (free : s.md.requested = false)
    (carried : 1 ≤ e.toNat ∧ e.toNat ≤ 4 ∧ (s.oN Obj.lkPostProtocol = 1 ∨ e = 1)) :
    ∃ t, exec (.cableCheckRequest v e i) s = .next t ∧
      t.mode = 8 ∧ t.oN Obj.modeEntryTime = s.now ∧ t.oN Obj.modeTarget = 0xFF ∧ t.oN Obj.lkPostState = 2 ∧ t.oN Obj.lkPostEnergyService = e.toNat ∧
      t.active = s.active ∧ t.shadow = s.shadow := by
  obtain ⟨low, high, protocol⟩ := carried
  have control := State.cableChecked_control (s := s) v.toNat e.toNat i.toNat
  have h := (s.enterMode_entered 8 0).of_control control
  have aside := State.enterMode_aside (s := s) 8 0
  refine ⟨s.cableChecked v.toNat e.toNat i.toNat, congrArg Host.Outcome.next
    (State.cableCheck_of_free on mode plugged free ⟨low, high, protocol.imp_right (congrArg BitVec.toNat)⟩), congrArg Int.toNat h.mode,
    congrArg Int.toNat h.time, congrArg Int.toNat h.target, ?state, ?service, ?_, ?_⟩
  case state =>
    refine congrArg Int.toNat ((State.cableChecked_o rfl).trans ((State.o_put_other _ _ (key_ne (by decide))).trans (State.o_put_same _ _ 2)))
  case service =>
    exact congrArg Int.toNat ((State.cableChecked_o rfl).trans ((State.o_put_other _ _ (key_ne (by decide))).trans
      ((State.o_put_other _ _ (key_ne (by decide))).trans (State.o_put_same _ _ (e.toNat : Int)))))
  · exact (congrArg Control.active control).trans (congrArg Aside.active aside)
  · exact (congrArg Control.shadow control).trans (congrArg Aside.shadow aside)

/-! ## Insulation, delivery and stop (R351, R352) -/

/-- The judgement of a measured insulation with an output voltage. -/
theorem State.insulation_of_voltage {k v : Nat} (on : s.postOn = true) (checking : s.oN Obj.lkPostState = 2) (live : F32.toRat v ≠ 0) :
    s.insulation k v =
      if s.isoRho (F32.toRat k) (F32.toRat v) < s.cF Obj.lkIsoFault
      then ((((s.put Obj.lkIsoResistance k).put Obj.lkPostStopCause 5).postOpenContacts).postMod (fun x => { x with test := 0 })).raise FC.lnkIsofault 0
      else
        let t := if s.isoRho (F32.toRat k) (F32.toRat v) < s.cF Obj.lkIsoValid then (s.put Obj.lkIsoResistance k).raise FC.lnkIsowarn 0
          else s.put Obj.lkIsoResistance k
        (t.put Obj.lkPostState 3).postMod (fun x => { x with test := t.oN Obj.lkEvTargetVoltage }) := by
  unfold State.insulation
  rw [if_neg (not_not.mpr ⟨on, checking⟩), if_neg live]
  rfl

theorem State.delivery_of_precharged {v a : Nat} (on : s.postOn = true) (precharged : s.oN Obj.lkPostState = 3) :
    s.delivery v a =
      ((((((s.put Obj.lkPostState 4).put Obj.lkEvTargetVoltage v).put Obj.lkEvTargetCurrent a).postMod (fun x => { x with test := v })).clientAsk
        (F32.ofRat (F32.toRat v * F32.toRat a / 1000)) 2).monSettle).postLimit := by
  unfold State.delivery
  rw [if_neg (not_not.mpr ⟨on, .inl precharged⟩), precharged]
  rfl

theorem State.postStop_of_running {cause : Nat} (on : s.postOn = true) (running : 2 ≤ s.oN Obj.lkPostState ∧ s.oN Obj.lkPostState ≤ 4) :
    s.postStop cause =
      ((s.put Obj.lkPostStopCause cause).put Obj.lkPostState 5).postMod (fun x => { x with ramp := some (s.post.ref, s.tick), test := 0 }) :=
  if_pos ⟨on, running⟩

/-- A write to an object of a function that the device does not have (R438). -/
theorem State.accessAt_of_absent {role : Role} {rank k : Nat} (may : s.MayWrite role rank k) (f : State → State) :
    s.accessAt role rank k false f = s.put Obj.roaLastError 0x0C := by
  obtain ⟨up, rank_le, free⟩ := may
  have unheld : ¬ (role ≠ .slot ∧ s.slotTarget k = true) := by
    rintro ⟨other, held⟩
    exact free.elim other (by simp [held])
  exact (if_neg (by simp [up])).trans ((if_neg (by omega)).trans ((if_neg unheld).trans (if_pos (by decide))))

theorem exec_postStopRequest_of_station {role : Role} (may : s.MayWrite role 2 Obj.lkPostStopRequest) (sealed : s.sealPin 6 = true)
    (station : s.station = true) : exec (.postStopRequest role) s = .next (s.postStop 2) := by
  refine congrArg Host.Outcome.next ?_
  rw [station, sealed]
  exact s.accessAt_of_mayWrite may _

theorem exec_postStopRequest_of_vehicle {role : Role} (may : s.MayWrite role 2 Obj.lkPostStopRequest) (vehicle : s.station = false) :
    exec (.postStopRequest role) s = .next (s.put Obj.roaLastError 0x0C) := by
  refine congrArg Host.Outcome.next ?_
  rw [vehicle, Bool.false_and]
  exact State.accessAt_of_absent may _

theorem exec_linkPlugged_of_station {p : BitVec 3} {q : BitVec 2} (station : s.station = true) (on : s.postOn = true)
    (idle : s.oN Obj.lkPostState = 0) (known : q = 1 ∨ q = 2) :
    exec (.linkPlugged p q) s =
      .next ((((s.put Obj.lkPostProtocol q.toNat).put Obj.lkPostEnergyService 0).put Obj.lkPostStopCause 0).put Obj.lkPostState 1) :=
  congrArg Host.Outcome.next ((if_pos station).trans ((if_pos ⟨on, idle⟩).trans
    (if_pos (known.imp (congrArg BitVec.toNat) (congrArg BitVec.toNat)))))

theorem exec_linkDetectionLost_of_unopened {a : BitVec 32} (station : s.station = true) (on : s.postOn = true)
    (closed : s.oN Obj.lkPostState = 1 ∨ s.oN Obj.lkPostState = 7) : exec (.linkDetectionLost a) s = .next (s.put Obj.lkPostState 0) := by
  refine congrArg Host.Outcome.next ((if_pos station).trans ((if_neg (by simp [on])).trans ?_))
  rcases closed with plugged | ended
  · simp only [plugged]
  · simp only [ended]

/-! ## Tandem (R355, R361) -/

/-- A service selection of a vehicle whose link is up. -/
theorem State.tdSelect_of_vehicle {service connection : Nat} {accepted : Bool} {ids : List Nat} (vehicle : s.station = false) (on : s.lkOn = true)
    (up : s.oN Obj.lkState ≠ 0) :
    s.tdSelect service connection accepted ids =
      if accepted ∧ s.tdPermits service ∧ s.oN Obj.tdState ≠ 4 ∧ s.oN Obj.tdState ≠ 5 then
        (((s.put Obj.tdState 1).put Obj.tdConnection connection).tdMod (fun _ => {})).tdManage connection (crc32c ids) s.station
      else s.note FC.lnkTdrefused 0 := by
  unfold State.tdSelect
  rw [vehicle]
  refine (if_neg ?_).trans rfl
  simp [on, up]

theorem State.tdEnd_of_open (opened : 1 ≤ s.oN Obj.tdState ∧ s.oN Obj.tdState ≤ 5) :
    s.tdEnd = { (s.put Obj.tdState 6).tdManage 0 0 false with td := {} } := if_pos opened

end

/-- Settles O47: each command's guard picks its case; a session's start and end enter their mode as one record, which Monarch, the meter and
the contactors leave as it is. -/
theorem postEndAndTandem : Obligations.PostEndAndTandem := by
  unfold Obligations.PostEndAndTandem
  refine ⟨?check, ?busy, ?checkOther, ?leak, ?sound, ?warn, ?alarm, ?noAlarm, ?deliver, ?deliverOther, ?stop, ?stopAbsent, ?low, ?notLow, ?discharged,
    ?charged, ?weld, ?noWeld, ?plugged, ?timeout, ?lost, ?apart, ?refused, ?notPermitted, ?agreed, ?lock, ?lockOther, ?hold, ?holdOther, ?ramp,
    ?rampOther⟩
  case check => exact fun s v e i on mode plugged free carried _ _ => exec_cableCheckRequest_of_free on mode plugged free carried
  case busy => exact fun s v e i on mode plugged busy => congrArg Host.Outcome.next (State.cableCheck_of_busy on mode plugged busy)
  case checkOther => exact fun s v e i other => congrArg Host.Outcome.next (State.cableCheck_of_other other)
  case leak =>
    exact fun s k v on checking live leak => congrArg Host.Outcome.next ((State.insulation_of_voltage on checking live).trans (if_pos leak))
  case sound =>
    intro s k v on checking live whole valid
    refine congrArg Host.Outcome.next ((State.insulation_of_voltage on checking live).trans ((if_neg whole.not_gt).trans ?_))
    rw [if_neg valid.not_gt]
    dsimp only
    rw [State.oN_put_other _ _ (key_ne (by decide))]
  case warn =>
    rintro s k v u on checking live whole weak rfl target
    refine congrArg Host.Outcome.next ((State.insulation_of_voltage on checking live).trans ((if_neg whole.not_gt).trans ?_))
    rw [if_pos weak]
    dsimp only
    rw [target]
  case alarm => exact fun s on delivering alarm => congrArg Host.Outcome.next (if_pos ⟨on, delivering, alarm⟩)
  case noAlarm =>
    exact fun s other => congrArg Host.Outcome.next
      (if_neg fun ⟨_, delivering, alarm⟩ => other.elim (· delivering) (Bool.eq_false_iff.mp · alarm))
  case deliver => exact fun s v a on precharged => congrArg Host.Outcome.next (State.delivery_of_precharged on precharged)
  case deliverOther => exact fun s v a other => congrArg Host.Outcome.next (if_pos fun ⟨_, state⟩ => state.elim other.1 other.2)
  case stop =>
    intro s role may sealed on running
    rw [exec_postStopRequest_of_station may sealed (State.station_of_postOn on), State.postStop_of_running on running]
    rfl
  case stopAbsent => exact fun s role may vehicle => exec_postStopRequest_of_vehicle may vehicle
  case low => exact fun s on stopping low => congrArg Host.Outcome.next (if_pos ⟨on, stopping, low⟩)
  case notLow =>
    exact fun s other => congrArg Host.Outcome.next (if_neg fun ⟨_, stopping, low⟩ => other.elim (· stopping) low.not_gt)
  case discharged => exact fun s on opened mode low free whole _ _ => exec_postOutputDischarged_of_m8 on opened mode low free whole
  case charged => exact fun s other => congrArg Host.Outcome.next (if_neg fun ⟨_, opened, low⟩ => other.elim (· opened) low.not_ge)
  case weld => exact fun s on opened high => congrArg Host.Outcome.next (if_pos ⟨on, opened, high⟩)
  case noWeld => exact fun s other => congrArg Host.Outcome.next (if_neg fun ⟨_, opened, high⟩ => other.elim (· opened) high.not_gt)
  case plugged => exact fun s q p station on idle known => exec_linkPlugged_of_station station on idle known
  case timeout =>
    exact fun s station on running => congrArg Host.Outcome.next ((if_neg (by simp [station])).trans (if_pos ⟨on, running⟩))
  case lost => exact fun s a station on closed => exec_linkDetectionLost_of_unopened station on closed
  case apart =>
    exact fun s station on checking =>
      congrArg Host.Outcome.next ((if_neg (by simp [station])).trans (if_pos ⟨on, checking, Bool.false_ne_true⟩))
  case refused =>
    exact fun s e c ids vehicle on up =>
      congrArg Host.Outcome.next ((State.tdSelect_of_vehicle vehicle on up).trans (if_neg fun ⟨yes, _⟩ => Bool.false_ne_true yes))
  case notPermitted =>
    exact fun s e c ids vehicle on up barred =>
      congrArg Host.Outcome.next ((State.tdSelect_of_vehicle vehicle on up).trans (if_neg fun ⟨_, permits, _⟩ => by simp [barred] at permits))
  case agreed =>
    exact fun s e c ids vehicle on up permits idle =>
      congrArg Host.Outcome.next ((State.tdSelect_of_vehicle vehicle on up).trans (if_pos ⟨rfl, permits, by simp [idle]⟩))
  case lock => exact fun s station opening => congrArg Host.Outcome.next (if_pos ⟨station, opening⟩)
  case lockOther => exact fun s other => congrArg Host.Outcome.next (if_neg (by omega))
  case hold => exact fun s station fallback => congrArg Host.Outcome.next (if_pos ⟨station, fallback⟩)
  case holdOther => exact fun s other => congrArg Host.Outcome.next (if_neg fun ⟨_, fallback⟩ => other fallback)
  case ramp =>
    exact fun s station fallback =>
      congrArg Host.Outcome.next ((if_pos ⟨station, fallback⟩).trans (State.tdEnd_of_open (by omega)))
  case rampOther => exact fun s other => congrArg Host.Outcome.next (if_neg fun ⟨_, fallback⟩ => other fallback)

end Sys2Proof.Machine
end

section
/-! SUPPORT. Cable cooling (R377 to R381): what the pump's commands and a step of the conductor model do (O49). -/

namespace Sys2Proof.Machine

section
variable {s : State}

/-- The post's limit is shown in two objects of its own record (R353). -/
theorem State.postLimit_oN_other {k : Nat} (other : k / 256 ≠ 0x6101) : s.postLimit.oN k = s.oN k :=
  congrArg Int.toNat ((State.o_put_index other (by decide)).trans (State.o_put_index other (by decide)))

/-- The pump that runs takes a new reference, and the flow is shown anew (R378, log 6). -/
theorem State.pumpUpdate_of_running (on : s.ccOn = true) (running : s.oN Obj.ccState = 1) :
    s.pumpUpdate =
      (s.fresh.ccMod (fun x => { x with speed := F32.ofRat (max 0 (min (s.cF Obj.ccPumpSpeedMax) (Config.freeValue 1501 s.freeIx : Rat))) })).putF
        Obj.ccFlow s.ccFlowNow := by
  unfold State.pumpUpdate
  rw [if_pos ⟨on, .inl running⟩]
  extract_lets v t
  refine if_neg fun ⟨state, _⟩ => ?_
  have kept : t.oN Obj.ccState = 1 := (State.oN_put_other _ _ (key_ne (by decide))).trans running
  omega

theorem State.pumpUpdate_of_off (off : s.ccOn = false) : s.pumpUpdate = s := if_neg fun ⟨on, _⟩ => by simp [off] at on

/-- A step of the model: the nodes it moves, the hottest that it shows, and what a hot spot does (R379, R381). -/
theorem State.ccModel_of_on (on : s.ccOn = true) : ∃ (n : List Rat) (u : State),
    n = s.ccSensors.conductorStep s.ccSensors.postAmps 0
        (((s.ccSensors.cc.nodes.getD (List.replicate 6 (F32.ofRat s.ccSensors.ccSupply))).map F32.toRat).take 3) ++
      s.ccSensors.conductorStep s.ccSensors.postAmps 1
        (((s.ccSensors.cc.nodes.getD (List.replicate 6 (F32.ofRat s.ccSensors.ccSupply))).map F32.toRat).drop 3) ∧
    u.cc.nodes = some (n.map F32.ofRat) ∧ u.oN Obj.ccHotNode = hottest n ∧ u.oN Obj.ccHotSpot = F32.ofRat (n.getD (hottest n) 0) ∧
    s.ccModel = if u.cF Obj.ccConductorLimit + 5 < n.getD (hottest n) 0 ∧ ¬ u.isSet FC.ccHotspot 0 then (u.postStop 5).raise FC.ccHotspot 0
      else u := by
  unfold State.ccModel
  rw [if_neg (not_not.mpr on)]
  extract_lets v start ts i n k hot lims lim a b c d u
  have shown {j : Nat} (other : j ≠ Obj.ccFlow) (supply : j ≠ Obj.ccSupplyTemp) (ret : j ≠ Obj.ccReturnTemp) (index : j / 256 = 0x6401) :
      u.oN j = b.oN j := by
    have hc : c.oN j = b.oN j := by
      unfold c
      rw [State.putF_eq, State.oN_put_other _ _ ret, State.putF_eq, State.oN_put_other _ _ supply, State.putF_eq, State.oN_put_other _ _ other]
    have hd : d.oN j = c.oN j := by
      unfold d
      split
      · rw [State.putF_eq, State.putF_eq]
        exact congrArg Int.toNat ((State.o_put_index (by omega) (by decide)).trans (State.o_put_index (by omega) (by decide)))
      · rfl
    exact (State.postLimit_oN_other (by omega)).trans (hd.trans hc)
  refine ⟨n, u, rfl, ?nodes, ?node, ?spot, rfl⟩
  case nodes =>
    have hd : d.cc = a.cc := by unfold d; split <;> rfl
    exact (show u.cc.nodes = d.cc.nodes from rfl).trans (congrArg CcX.nodes hd)
  case node =>
    refine (shown (key_ne (by decide)) (key_ne (by decide)) (key_ne (by decide)) rfl).trans ?_
    unfold b
    rw [State.putF_eq, State.oN_put_other _ _ (key_ne (by decide)), State.putF_eq, State.oN_put_other _ _ (key_ne (by decide)), State.oN_put_same]
    rfl
  case spot =>
    refine (shown (key_ne (by decide)) (key_ne (by decide)) (key_ne (by decide)) rfl).trans ?_
    unfold b
    rw [State.putF_eq, State.oN_put_other _ _ (key_ne (by decide)), State.putF_eq, State.oN_put_other _ _ (key_ne (by decide)),
      State.oN_put_other _ _ (key_ne (by decide)), State.putF_eq, State.oN_put_same]
    rfl

end

/-- Settles O49: each command's guard picks its case; what the model's step shows after the hottest node is in other objects. -/
theorem coolingPumpAndModel : Obligations.CoolingPumpAndModel := by
  unfold Obligations.CoolingPumpAndModel
  refine ⟨?flow, ?flowOther, ?pressure, ?pressureOther, ?restart, ?noRestart, ?reference, ?referenceOff, ?model, ?modelOff⟩
  case flow => exact fun s on running low => congrArg Host.Outcome.next (if_pos ⟨on, running, low⟩)
  case flowOther => exact fun s other => congrArg Host.Outcome.next (if_neg fun ⟨_, running, low⟩ => other.elim (· running) low.not_ge)
  case pressure => exact fun s on running out => congrArg Host.Outcome.next (if_pos ⟨on, running, out⟩)
  case pressureOther => exact fun s within => congrArg Host.Outcome.next (if_neg fun ⟨_, _, out⟩ => by simp [within] at out)
  case restart =>
    rintro s u on stopped few rfl count
    refine congrArg Host.Outcome.next ((if_pos ⟨on, stopped, few⟩).trans ?_)
    dsimp only
    rw [count]
  case noRestart => exact fun s many => congrArg Host.Outcome.next (if_neg fun ⟨_, _, few⟩ => few.not_ge many)
  case reference =>
    intro s on running
    exact ⟨_, congrArg Host.Outcome.next (State.pumpUpdate_of_running on running), rfl, rfl, rfl, rfl, fun k other => State.o_put_other _ _ other⟩
  case referenceOff => exact fun s off => congrArg Host.Outcome.next (State.pumpUpdate_of_off off)
  case model =>
    intro s on
    obtain ⟨n, u, nodes, stepped, node, spot, run⟩ := State.ccModel_of_on on
    refine ⟨_, n, u, congrArg Host.Outcome.next run, nodes, stepped, node, spot, ?_⟩
    simp only [Bool.not_eq_true]
  case modelOff => exact fun s off => congrArg Host.Outcome.next (if_pos (by simp [off]))

end Sys2Proof.Machine
end

section
/-! SUPPORT. Monarch's frames and times, and the post's client (R384 to R395): what each command does or when it does nothing (O50, O51). -/

namespace Sys2Proof.Machine

/-! ## Acceptance of a frame (R384, R392) -/

section
variable {s u : State} {f : MonIn} {who : Nat}

theorem State.monAccept_of_badTag (bad : f.tagOk = false) :
    s.monAccept who f = ((s.incSat Obj.monAuthFailCount).note FC.monAuth f.partner.toNat, false) := if_pos (by simp [bad])

/-- A frame newer than its sender's last pair, of Epoch and Sequence. -/
def monNewer (f : MonIn) (e q : Nat) : Bool :=
  if f.epoch.toNat = e then q < f.sequence.toNat else epochAfter f.epoch.toNat e

/-- The order that an authentic frame is judged by. -/
theorem State.monAccept_of_goodTag (good : f.tagOk = true) :
    s.monAccept who f =
      if (match s.mon.peers.lookup who with
        | none => true
        | some (e, q) => monNewer f e q) = true
      then (s.monMod (fun m => { m with peers := (who, f.epoch.toNat, f.sequence.toNat) :: m.peers.filter (fun x => x.1 != who) }), true)
      else (s, false) := by
  unfold State.monAccept
  rw [if_neg (by simp [good])]
  rfl

theorem State.monAccept_of_old {e q : Nat} (good : f.tagOk = true) (known : s.mon.peers.lookup who = some (e, q)) (old : monNewer f e q = false) :
    s.monAccept who f = (s, false) := by
  rw [State.monAccept_of_goodTag good, known]
  exact if_neg (by simp [old])

theorem State.monAccept_of_new {e q : Nat} (good : f.tagOk = true)
    (new : s.mon.peers.lookup who = none ∨ s.mon.peers.lookup who = some (e, q) ∧ monNewer f e q = true) :
    s.monAccept who f =
      (s.monMod (fun m => { m with peers := (who, f.epoch.toNat, f.sequence.toNat) :: m.peers.filter (fun x => x.1 != who) }), true) := by
  rw [State.monAccept_of_goodTag good]
  refine if_pos ?_
  rcases new with first | ⟨known, newer⟩
  · rw [first]
  · rw [known]
    exact newer

theorem monNewer_eq_false {e q : Nat}
    (old : f.epoch.toNat = e ∧ f.sequence.toNat ≤ q ∨ f.epoch.toNat ≠ e ∧ epochAfter f.epoch.toNat e = false) : monNewer f e q = false := by
  unfold monNewer
  rcases old with ⟨same, le⟩ | ⟨other, before⟩
  · rw [if_pos same]
    exact decide_eq_false le.not_gt
  · rw [if_neg other, before]

theorem monNewer_eq_true {e q : Nat}
    (new : f.epoch.toNat = e ∧ q < f.sequence.toNat ∨ f.epoch.toNat ≠ e ∧ epochAfter f.epoch.toNat e = true) : monNewer f e q = true := by
  unfold monNewer
  rcases new with ⟨same, lt⟩ | ⟨other, after⟩
  · rw [if_pos same]
    exact decide_eq_true lt
  · rw [if_neg other, after]

/-- Serial arithmetic of Epochs (R392). -/
theorem epochAfter_eq (e l : Nat) : epochAfter e l = decide (1 ≤ (e + 65536 - l) % 65536 ∧ (e + 65536 - l) % 65536 ≤ 32767) :=
  (Bool.decide_and ..).symm

/-! ## A partner's frame -/

section
variable {serve : MonIn → State → State}

theorem State.monFrame_of_accepted (on : s.monOn = true) (partner : s.monPartner f = true) (accepted : s.monAccept f.partner.toNat f = (u, true)) :
    s.monFrame f serve = (serve f u).monSettle := by
  unfold State.monFrame
  rw [if_pos ⟨on, partner⟩, accepted]
  rfl

theorem State.monFrame_of_discarded (on : s.monOn = true) (partner : s.monPartner f = true) (discarded : s.monAccept f.partner.toNat f = (u, false)) :
    s.monFrame f serve = u := by
  unfold State.monFrame
  rw [if_pos ⟨on, partner⟩, discarded]
  rfl

theorem State.monFrame_of_other (other : s.monOn = false ∨ s.monPartner f = false) : s.monFrame f serve = s :=
  if_neg fun ⟨on, partner⟩ => by simp [on, partner] at other

end

/-- The four frames of a partner run through one acceptance. -/
theorem exec_partnerFrames {t : State} (h : ∀ serve, s.monFrame f serve = t) :
    exec (.leaseRequest f) s = .next t ∧ exec (.leaseRenew f) s = .next t ∧
      exec (.leaseRelease f) s = .next t ∧ exec (.reduceAcknowledged f) s = .next t :=
  ⟨congrArg Host.Outcome.next (h _), congrArg Host.Outcome.next (h _), congrArg Host.Outcome.next (h _), congrArg Host.Outcome.next (h _)⟩

/-! ## What serves it (R387, R389, R395) -/

theorem State.monRenew_of_unknown (serving : s.oN Obj.monState = 2) (unknown : s.leaseOf f.partner.toNat f.leaseId.toNat = none) :
    s.monRenew f = s.monRefuse f 2 := by
  unfold State.monRenew
  rw [if_neg (not_not.mpr serving), unknown]

theorem State.monRenew_of_lease {l : Lease} (serving : s.oN Obj.monState = 2) (known : s.leaseOf f.partner.toNat f.leaseId.toNat = some l) :
    s.monRenew f =
      if l.expiry < s.now then s.monRefuse f 3
      else (s.leaseMod l.id (fun x => { x with expiry := s.now + ms (s.cN Obj.monLeaseDuration) })).monSend 4
        { f with amount := BitVec.ofNat 32 l.granted, result := 0, time := BitVec.ofNat 64 (s.now + ms (s.cN Obj.monLeaseDuration)) } := by
  unfold State.monRenew
  rw [if_neg (not_not.mpr serving), known]

theorem State.monRelease_of_lease {l : Lease} (known : s.leaseOf f.partner.toNat f.leaseId.toNat = some l) :
    s.monRelease f =
      if 0 < F32.toRat f.amount.toNat ∧ F32.toRat f.amount.toNat < F32.toRat l.granted then
        (s.leaseMod l.id (fun x => { x with
          granted := F32.ofRat (F32.toRat l.granted - F32.toRat f.amount.toNat),
          counted := if x.deadline.isSome then x.counted else F32.ofRat (F32.toRat l.granted - F32.toRat f.amount.toNat) })).monEval
      else (s.leaseDrop l.id).monEval := by
  unfold State.monRelease
  rw [known]

theorem State.monRelease_of_unknown (unknown : s.leaseOf f.partner.toNat f.leaseId.toNat = none) : s.monRelease f = s := by
  unfold State.monRelease
  rw [unknown]

theorem State.monAck_of_unknown (unknown : s.leaseOf f.partner.toNat f.leaseId.toNat = none) : s.monAck f = s := by
  unfold State.monAck
  rw [unknown]

theorem State.monAck_of_lease {l : Lease} (known : s.leaseOf f.partner.toNat f.leaseId.toNat = some l) :
    s.monAck f = if l.deadline.isSome then s.reduced l.id else s := by
  unfold State.monAck
  rw [known]

end

/-- Settles O50: the acceptance decides by the tag and the order, and what serves a frame by the lease it names. -/
theorem monarchServesAuthenticFramesInOrder : Obligations.MonarchServesAuthenticFramesInOrder := by
  unfold Obligations.MonarchServesAuthenticFramesInOrder
  refine ⟨?badTag, ?old, fun _ e l _ _ => epochAfter_eq e l, ?new, ?other, ?notServing, ?request, ?renewNotServing, ?renewUnknown, ?renewExpired,
    ?renew, ?release, ?releasePart, ?unknown, ?ack, ?ackIdle⟩
  case badTag =>
    exact fun s f on partner bad => exec_partnerFrames fun _ => State.monFrame_of_discarded on partner (State.monAccept_of_badTag bad)
  case old =>
    exact fun s f e q on partner good known old =>
      exec_partnerFrames fun _ => State.monFrame_of_discarded on partner (State.monAccept_of_old good known (monNewer_eq_false old))
  case new =>
    exact fun s f e q good new => State.monAccept_of_new good (new.imp_right fun ⟨known, newer⟩ => ⟨known, monNewer_eq_true newer⟩)
  case other => exact fun s f other => exec_partnerFrames fun _ => State.monFrame_of_other other
  case notServing =>
    exact fun s f u on partner accepted idle =>
      congrArg Host.Outcome.next ((State.monFrame_of_accepted on partner accepted).trans (congrArg State.monSettle (if_pos idle)))
  case request =>
    exact fun s f u on partner accepted serving =>
      congrArg Host.Outcome.next
        ((State.monFrame_of_accepted on partner accepted).trans (congrArg State.monSettle (if_neg (not_not.mpr serving))))
  case renewNotServing =>
    exact fun s f u on partner accepted idle =>
      congrArg Host.Outcome.next ((State.monFrame_of_accepted on partner accepted).trans (congrArg State.monSettle (if_pos idle)))
  case renewUnknown =>
    exact fun s f u on partner accepted serving unknown => congrArg Host.Outcome.next
      ((State.monFrame_of_accepted on partner accepted).trans (congrArg State.monSettle (State.monRenew_of_unknown serving unknown)))
  case renewExpired =>
    exact fun s f u l on partner accepted serving known expired => congrArg Host.Outcome.next
      ((State.monFrame_of_accepted on partner accepted).trans
        (congrArg State.monSettle ((State.monRenew_of_lease serving known).trans (if_pos expired))))
  case renew =>
    exact fun s f u l on partner accepted serving known valid => congrArg Host.Outcome.next
      ((State.monFrame_of_accepted on partner accepted).trans
        (congrArg State.monSettle ((State.monRenew_of_lease serving known).trans (if_neg valid.not_gt))))
  case release =>
    exact fun s f u l on partner accepted known whole => congrArg Host.Outcome.next
      ((State.monFrame_of_accepted on partner accepted).trans (congrArg State.monSettle
        ((State.monRelease_of_lease known).trans (if_neg fun ⟨low, high⟩ => whole.elim low.not_ge high.not_ge))))
  case releasePart =>
    rintro s f u l _ on partner accepted known part rfl
    exact congrArg Host.Outcome.next ((State.monFrame_of_accepted on partner accepted).trans (congrArg State.monSettle
      ((State.monRelease_of_lease known).trans (if_pos part))))
  case unknown =>
    exact fun s f u on partner accepted unknown =>
      ⟨congrArg Host.Outcome.next ((State.monFrame_of_accepted on partner accepted).trans (congrArg State.monSettle (State.monRelease_of_unknown unknown))),
        congrArg Host.Outcome.next ((State.monFrame_of_accepted on partner accepted).trans (congrArg State.monSettle (State.monAck_of_unknown unknown)))⟩
  case ack =>
    exact fun s f u l on partner accepted known reducing => congrArg Host.Outcome.next
      ((State.monFrame_of_accepted on partner accepted).trans
        (congrArg State.monSettle ((State.monAck_of_lease known).trans (if_pos reducing))))
  case ackIdle =>
    exact fun s f u l on partner accepted known none => congrArg Host.Outcome.next
      ((State.monFrame_of_accepted on partner accepted).trans
        (congrArg State.monSettle ((State.monAck_of_lease known).trans (if_neg (by simp [none])))))

/-! ## The client (R387 to R389) -/

section
variable {s u : State} {f : MonIn} {typ : Nat}

section
variable (on : s.clientOn = true) (outside : s.monInside s.clientPartner = false) (enabled : s.ptFlag s.clientPartner 0 = true)
  (accepted : s.monAccept (65536 + s.clientPartner) f = (u, true))
include on outside enabled accepted

/-- An authentic, new frame of the client's Monarch is taken. -/
theorem State.clientFrame_of_accepted : s.clientFrame typ f = (u.clientTake typ f).monSettle := by
  unfold State.clientFrame
  rw [if_pos ⟨on, by simp [outside], enabled⟩, accepted]
  rfl

end

theorem State.clientFrame_of_other (other : s.clientOn = false ∨ s.monInside s.clientPartner = true ∨ s.ptFlag s.clientPartner 0 = false) :
    s.clientFrame typ f = s := if_neg fun ⟨on, outside, enabled⟩ => by simp [on, outside, enabled] at other

theorem State.clientTake_grant_of_open (opened : s.oN Obj.monClientState ≠ 0) :
    s.clientTake 2 f = ({ (((s.put Obj.monClientLease f.amount.toNat).put Obj.monClientExpiry f.time.toNat).put Obj.monClientState 2) with
      mon := { s.mon with leaseId := f.leaseId.toNat, ackDue := none } } : State) := if_neg opened

theorem State.clientTake_grant_of_ended (ended : s.oN Obj.monClientState = 0) :
    s.clientTake 2 f = ((s.monMod (fun m => { m with leaseId := f.leaseId.toNat })).clientSend 7 0 1).monMod (fun m => { m with leaseId := 0 }) :=
  if_pos ended

theorem State.clientTake_renewed_of_own (own : f.leaseId.toNat = s.mon.leaseId ∧ s.mon.leaseId ≠ 0) :
    s.clientTake 4 f = if s.oN Obj.monClientState = 4
      then (s.put Obj.monClientExpiry f.time.toNat).put Obj.monClientState (if s.mon.ackDue.isSome then 3 else 2)
      else s.put Obj.monClientExpiry f.time.toNat := by
  have state : (s.put Obj.monClientExpiry f.time.toNat).oN Obj.monClientState = s.oN Obj.monClientState := s.oN_put_other _ (key_ne (by decide))
  refine (if_pos own).trans ?_
  simp only [state]
  rfl

theorem State.clientTake_reduce_of_own (own : f.leaseId.toNat = s.mon.leaseId ∧ s.mon.leaseId ≠ 0) :
    s.clientTake 5 f =
      (((s.put Obj.monClientLease f.amount.toNat).put Obj.monClientState 3).monMod (fun m => { m with ackDue := some f.amount.toNat })).clientStep :=
  if_pos own

/-- A renewal or a reduction of another lease is not taken. -/
theorem State.clientTake_of_foreign (foreign : f.leaseId.toNat ≠ s.mon.leaseId ∨ s.mon.leaseId = 0) :
    s.clientTake 4 f = s ∧ s.clientTake 5 f = s := by
  have other : ¬ (f.leaseId.toNat = s.mon.leaseId ∧ s.mon.leaseId ≠ 0) := fun ⟨same, held⟩ => foreign.elim (· same) held
  exact ⟨if_neg other, if_neg other⟩

theorem State.clientTake_refused_of_kept
    (kept : s.mon.leaseId = 0 ∨ f.leaseId.toNat ≠ s.mon.leaseId ∨ (f.result.toNat ≠ 2 ∧ f.result.toNat ≠ 3)) :
    s.clientTake 8 f = s.monMod (fun m => { m with retryAt := f.time.toNat }) := by
  refine if_neg fun ⟨⟨same, held⟩, result⟩ => ?_
  rcases kept with unheld | foreign | ⟨no2, no3⟩
  · exact held unheld
  · exact foreign same
  · exact result.elim no2 no3

theorem State.clientTake_refused_of_lost {a c : Nat} (own : f.leaseId.toNat = s.mon.leaseId ∧ s.mon.leaseId ≠ 0)
    (lost : f.result.toNat = 2 ∨ f.result.toNat = 3) (asked : s.mon.asked = some (a, c)) :
    s.clientTake 8 f = ((s.monMod (fun m => { m with retryAt := f.time.toNat })).clientLapse).clientAsk a 1 := by
  have again : ((s.monMod (fun m => { m with retryAt := f.time.toNat })).clientLapse).mon.asked = some (a, c) := asked
  refine (if_pos ⟨own, lost⟩).trans ?_
  simp only [again]

theorem State.clientStep_of_down {a : Nat} (due : s.mon.ackDue = some a) (reducing : s.oN Obj.monClientState = 3)
    (down : |s.postPower| ≤ |F32.toRat a|) :
    s.clientStep = ((s.monMod (fun m => { m with ackDue := none })).put Obj.monClientState 2).clientSend 6 a 1 := by
  have state : (s.monMod (fun m => { m with ackDue := none })).oN Obj.monClientState = 3 := reducing
  unfold State.clientStep
  rw [due]
  refine (if_pos down).trans ?_
  dsimp only
  rw [if_pos state]

/-- While a lease is held the client's period renews it. -/
theorem State.clientPeriod_of_lease (on : s.clientOn = true)
    (held : s.oN Obj.monClientState = 2 ∨ s.oN Obj.monClientState = 3 ∨ s.oN Obj.monClientState = 4 ∧ s.now < s.oN Obj.monClientExpiry) :
    s.clientPeriod = s.clientSend 3 (s.oN Obj.monClientLease) 1 := by
  refine (if_neg (not_not.mpr on)).trans ?_
  rcases held with granted | reducing | ⟨expiring, before⟩
  · rw [granted]
    rfl
  · rw [reducing]
    rfl
  · rw [expiring]
    exact if_neg before.not_ge

theorem State.clientPeriod_of_expired {a c : Nat} (on : s.clientOn = true) (expiring : s.oN Obj.monClientState = 4)
    (expired : s.oN Obj.monClientExpiry ≤ s.now) (asked : s.mon.asked = some (a, c)) : s.clientPeriod = s.clientLapse.clientAsk a 1 := by
  have again : s.clientLapse.mon.asked = some (a, c) := asked
  refine (if_neg (not_not.mpr on)).trans ?_
  rw [expiring]
  refine (if_pos expired).trans ?_
  simp only [again]

theorem State.clientPeriod_of_waiting {a c : Nat} (on : s.clientOn = true) (waiting : s.oN Obj.monClientState = 1)
    (asked : s.mon.asked = some (a, c)) (due : s.mon.retryAt ≤ s.now) : s.clientPeriod = s.clientAsk a c := by
  refine (if_neg (not_not.mpr on)).trans ?_
  rw [waiting]
  simp only [asked]
  exact if_pos due

end

/-- Settles O51: each command's guard picks its case, and a frame taken acts by its type and by the lease it names. -/
theorem monarchTimesAndItsClient : Obligations.MonarchTimesAndItsClient := by
  unfold Obligations.MonarchTimesAndItsClient
  refine ⟨?evaluation, ?evaluationOther, ?expiry, ?deadline, ?deadlineOther, ?holdEnd, ?silence, ?otherState, ?off, ?grant, ?grantEnded, ?renewed,
    ?renewedExpiring, ?reduce, ?foreign, ?step, ?refused, ?refusedLost, ?frameOther, ?renewDue, ?afresh, ?retry, ?expired, ?expiredOther⟩
  case evaluation => exact fun s on serving => congrArg Host.Outcome.next (if_pos ⟨on, serving⟩)
  case evaluationOther =>
    exact fun s other => congrArg Host.Outcome.next (if_neg fun ⟨on, serving⟩ => by simp [on, serving] at other)
  case expiry => exact fun s n on => congrArg Host.Outcome.next (if_pos on)
  case deadline => exact fun s n on reducing => congrArg Host.Outcome.next (if_pos ⟨on, reducing⟩)
  case deadlineOther => exact fun s n none => congrArg Host.Outcome.next (if_neg fun ⟨_, reducing⟩ => by simp [none] at reducing)
  case holdEnd => exact fun s on hold => congrArg Host.Outcome.next (if_pos ⟨on, hold⟩)
  case silence => exact fun s on standby => congrArg Host.Outcome.next (if_pos ⟨on, standby⟩)
  case otherState =>
    exact fun s => ⟨fun other => congrArg Host.Outcome.next (if_neg fun ⟨_, hold⟩ => other hold),
      fun other => congrArg Host.Outcome.next (if_neg fun ⟨_, standby⟩ => other standby)⟩
  case off =>
    intro s n off
    have stopped {c : Prop} : ¬ (s.monOn = true ∧ c) := fun ⟨on, _⟩ => by simp [off] at on
    exact ⟨congrArg Host.Outcome.next (if_neg (by simp [off])), congrArg Host.Outcome.next (if_neg stopped),
      congrArg Host.Outcome.next (if_neg stopped), congrArg Host.Outcome.next (if_neg stopped)⟩
  case grant =>
    exact fun s f u on outside enabled accepted opened => congrArg Host.Outcome.next
      ((State.clientFrame_of_accepted on outside enabled accepted).trans (congrArg State.monSettle (State.clientTake_grant_of_open opened)))
  case grantEnded =>
    exact fun s f u on outside enabled accepted ended => congrArg Host.Outcome.next
      ((State.clientFrame_of_accepted on outside enabled accepted).trans (congrArg State.monSettle (State.clientTake_grant_of_ended ended)))
  case renewed =>
    exact fun s f u on outside enabled accepted own other => congrArg Host.Outcome.next
      ((State.clientFrame_of_accepted on outside enabled accepted).trans
        (congrArg State.monSettle ((State.clientTake_renewed_of_own own).trans (if_neg other))))
  case renewedExpiring =>
    exact fun s f u on outside enabled accepted own expiring => congrArg Host.Outcome.next
      ((State.clientFrame_of_accepted on outside enabled accepted).trans
        (congrArg State.monSettle ((State.clientTake_renewed_of_own own).trans (if_pos expiring))))
  case reduce =>
    exact fun s f u on outside enabled accepted own => congrArg Host.Outcome.next
      ((State.clientFrame_of_accepted on outside enabled accepted).trans (congrArg State.monSettle (State.clientTake_reduce_of_own own)))
  case foreign =>
    intro s f u on outside enabled accepted foreign
    obtain ⟨renewal, reduction⟩ := State.clientTake_of_foreign foreign
    exact ⟨congrArg Host.Outcome.next ((State.clientFrame_of_accepted on outside enabled accepted).trans (congrArg State.monSettle renewal)),
      congrArg Host.Outcome.next ((State.clientFrame_of_accepted on outside enabled accepted).trans (congrArg State.monSettle reduction))⟩
  case step => exact fun s a due reducing down => State.clientStep_of_down due reducing down
  case refused =>
    exact fun s f u on outside enabled accepted kept => congrArg Host.Outcome.next
      ((State.clientFrame_of_accepted on outside enabled accepted).trans (congrArg State.monSettle (State.clientTake_refused_of_kept kept)))
  case refusedLost =>
    exact fun s f u a c on outside enabled accepted own lost asked => congrArg Host.Outcome.next
      ((State.clientFrame_of_accepted on outside enabled accepted).trans (congrArg State.monSettle (State.clientTake_refused_of_lost own lost asked)))
  case frameOther =>
    exact fun s f other => ⟨congrArg Host.Outcome.next (State.clientFrame_of_other other), congrArg Host.Outcome.next (State.clientFrame_of_other other),
      congrArg Host.Outcome.next (State.clientFrame_of_other other), congrArg Host.Outcome.next (State.clientFrame_of_other other)⟩
  case renewDue => exact fun s on held => congrArg Host.Outcome.next (congrArg State.monSettle (State.clientPeriod_of_lease on held))
  case afresh =>
    exact fun s a c on expiring expired asked =>
      congrArg Host.Outcome.next (congrArg State.monSettle (State.clientPeriod_of_expired on expiring expired asked))
  case retry =>
    exact fun s a c on waiting asked due => congrArg Host.Outcome.next (congrArg State.monSettle (State.clientPeriod_of_waiting on waiting asked due))
  case expired => exact fun s on held => congrArg Host.Outcome.next (if_pos ⟨on, held⟩)
  case expiredOther =>
    refine fun s other => congrArg Host.Outcome.next (if_neg fun ⟨on, held⟩ => ?_)
    rcases other with off | low | expiring
    · simp [on] at off
    · omega
    · omega

end Sys2Proof.Machine
end

section
/-! SUPPORT. Legal metering: how the samples join their cycle or window (R400, R404, R405), and the interval that closes before the next
multiple of its length (R415): O26 and O28. -/

namespace Sys2Proof.Machine

section
variable {s : State}

/-- A code below full scale restarts the channel's count and flags nothing. -/
theorem State.mtrRange_of_ok (ch : Nat) : s.mtrRange ch false = s.mtrMod (fun m => { m with fullScale := m.fullScale.set ch 0 }) := rfl

/-- The six AC values as the cycle takes them (R397, R421). -/
def State.acValues (s : State) (raw : Nat → Nat) : List Nat :=
  [0, 1, 2, 4, 5, 6].map (fun c => F32.ofRat (s.mtrScaled c (F32.toRat (raw c))))

/-- Codes below full scale only restart their channels' counts. -/
theorem State.forAll_mtrRange_of_ok (l : List Nat) : ∃ fs,
    s.forAll l (fun c u => u.mtrRange c (Nat.testBit 0 c)) = { s with mtr := { s.mtr with fullScale := fs } } := by
  induction l generalizing s with
  | nil => exact ⟨s.mtr.fullScale, rfl⟩
  | cons c l ih =>
    obtain ⟨fs, done⟩ := ih (s := s.mtrMod (fun m => { m with fullScale := m.fullScale.set c 0 }))
    refine ⟨fs, Eq.trans ?_ done⟩
    change (s.mtrRange c (Nat.testBit 0 c)).forAll l _ = _
    rw [Nat.zero_testBit, State.mtrRange_of_ok]

/-- A sample that ends no half cycle only joins the ones taken so far. -/
theorem State.acTake_of_few (raw : Nat → Nat) (few : s.mtr.samples.length < 127) : ∃ (fs : List Nat) (dt st : Nat),
    s.acTake raw 0 = { s with mtr := { s.mtr with fullScale := fs, samples := (s.acValues raw, dt) :: s.mtr.samples, lastTick := some s.tick, settled := st } } := by
  obtain ⟨fs, ranged⟩ := State.forAll_mtrRange_of_ok (s := s) [0, 1, 2, 4, 5, 6]
  unfold State.acTake
  extract_lets chs u vals now dt v
  have hu : u = { s with mtr := { s.mtr with fullScale := fs } } := ranged
  have hv : v = { s with mtr := { s.mtr with fullScale := fs, samples := (s.acValues raw, dt) :: s.mtr.samples, lastTick := some s.tick, settled := s.mtr.settled + dt } } := by
    simp only [v, vals, now, hu]
    rfl
  have within : ¬ (v.mtr.samples.length = 128 ∨ v.mtr.samples.length = 256) := by
    simp only [hv, List.length_cons]
    omega
  exact ⟨fs, dt, s.mtr.settled + dt, (if_neg within).trans hv⟩

/-- In the synchronous state a sample within the cycle is taken, and the frequency shown is the timebase's (R400). -/
theorem State.acSample_within {k : Nat} (raw : Nat → Nat) (full : Nat) (on : s.acOn = true) (locked : s.mtrLocked = true)
    (sync : s.o Obj.mtrState = 3) (first : 0 < k) (last : k < 255) :
    s.acSample k raw full = (s.acTake raw full).put Obj.mtrFrequency
      ((s.acTake raw full).o (Obj.tbFrequency ((s.acTake raw full).oN Obj.mtrTimebase))) := by
  have sync : s.oN Obj.mtrState = 3 := State.oN_of_o sync
  unfold State.acSample
  rw [if_neg (by simp [on, locked])]
  simp only [sync, Nat.reduceLeDiff, Nat.reduceEqDiff, false_and, if_false]
  rw [if_neg (by omega), if_neg (by omega)]

/-- In the free-running state a sample flags the interval and is taken (R405). -/
theorem State.acFree_within (raw : Nat → Nat) (full : Nat) (on : s.acOn = true) (free : s.mtrLocked = false) (async : s.o Obj.mtrState = 4)
    (few : ((s.mtrFlag 1).acTake raw full).mtr.samples.length ≠ 256) : s.acFree raw full = (s.mtrFlag 1).acTake raw full := by
  have async : s.oN Obj.mtrState = 4 := State.oN_of_o async
  have follow : s.mtrFollow = s := by
    unfold State.mtrFollow
    simp [on, async]
  unfold State.acFree
  rw [if_neg (by simp [on, free]), follow]
  simp only [async, if_true]
  exact if_neg few

/-- Importing and exporting parts of an energy differ by it. -/
theorem max_zero_sub_max_zero_neg (e : Rat) : max 0 e - max 0 (-e) = e := by
  rw [max_comm, max_comm 0 (-e)]
  exact max_zero_sub_max_neg_zero_eq_self e

end

/-- Settles O26: by the branches of the three commands; a sample that ends neither a half cycle nor a window only joins the meter's record. -/
theorem meterTakesItsSamples : Obligations.MeterTakesItsSamples := by
  refine ⟨?sync, ?free, ?dc, ?frozen, ?off⟩
  case sync =>
    intro s i raw on locked sync ⟨first, last⟩ few
    obtain ⟨fs, dt, st, took⟩ := State.acTake_of_few (fun c => (raw.toList.getD c 0).toNat) few
    refine ⟨_, congrArg Host.Outcome.next (State.acSample_within _ 0 on locked sync first last), ?_, ?_, ?_, ?_, ?_⟩ <;> rw [took]
    · rfl
    · rfl
    · exact State.o_put_same ..
    · rfl
    · exact fun k other => State.o_put_other _ _ other
  case free =>
    intro s raw on free async few
    obtain ⟨fs, dt, st, took⟩ := State.acTake_of_few (s := s.mtrFlag 1) (fun c => (raw.toList.getD c 0).toNat) few
    refine ⟨_, congrArg Host.Outcome.next (State.acFree_within _ 0 on free async ?_), ?_, ?_, ?_⟩ <;> rw [took]
    · change s.mtr.samples.length + 1 ≠ 256
      omega
    · rfl
    · change (setBit s.mtr.flags 1).testBit 1 = true
      rw [setBit, Nat.testBit_or, Bool.or_eq_true]
      exact .inr (by decide)
    · rfl
  case dc =>
    intro s v i runs enabled few
    have on : s.mtrOn = true := by
      rw [State.mtrRuns, Bool.and_eq_true] at runs
      exact runs.1
    refine ⟨_, congrArg Host.Outcome.next ((if_neg (not_not.mpr ⟨on, State.oN_of_o enabled⟩)).trans
      ((if_neg (not_not.mpr runs)).trans (if_neg (Nat.not_le.mpr (by change s.mtr.dcCount + 1 < 320; omega))))), rfl, rfl, ?_, rfl⟩
    have parts := max_zero_sub_max_zero_neg (microWh (s.mtrScaled 3 (F32.toRat v.toNat) * s.mtrScaled 7 (F32.toRat i.toNat) * mkRat 1 32000))
    calc _ = s.mtr.dcImport + max 0 (microWh (s.mtrScaled 3 (F32.toRat v.toNat) * s.mtrScaled 7 (F32.toRat i.toNat) * mkRat 1 32000)) -
          (s.mtr.dcExport + max 0 (-microWh (s.mtrScaled 3 (F32.toRat v.toNat) * s.mtrScaled 7 (F32.toRat i.toNat) * mkRat 1 32000))) := rfl
      _ = _ := by linear_combination parts
  case frozen =>
    intro s v i on enabled frozen
    have stopped : ¬ ((s.mtrRange 3 false).mtrRange 7 false).mtrRuns = true := by
      intro runs
      rw [State.mtrRuns, Bool.and_eq_true, Option.isNone_iff_eq_none] at runs
      exact frozen runs.2
    exact ⟨_, congrArg Host.Outcome.next ((if_neg (not_not.mpr ⟨on, State.oN_of_o enabled⟩)).trans (if_pos stopped)), rfl, rfl, rfl⟩
  case off =>
    intro s v i full off
    refine congrArg Host.Outcome.next (if_pos fun ⟨on, enabled⟩ => ?_)
    cases off with
    | inl off => simp [off] at on
    | inr off => exact off enabled

/-! ## An interval that closes before the next multiple of its length -/

/-- The session that opened at device time 5 s. -/
def openedAtFive : MtrSess :=
  { billed := 1, number := 1, sessionId := 0, start := 5000000000, import0 := 0, export0 := 0, since := 5000000000, import1 := 0, export1 := 0 }

/-- M6 at device time 6 s, with intervals of 900 s and the session that opened at 5 s. -/
def meterAtSix : State :=
  { bench 6 [(Obj.mtrIntervalLength, 900)] [] with
    plat := { vddCoc := true, resetN := true, pfailN := true, mainOn := true, latchLoaded := true, sealLatch := 0x3F }
    devSub := 12000000000000000000, mtr := { session := some openedAtFive } }

/-- No multiple of 900 s lies in the open interval, which closes at the device time. -/
theorem meterAtSix_intervalDue : meterAtSix.intervalDue.mtr.session.map (·.since) = some 6000000000 := by decide +kernel

/-- The last multiple of 900 s is 0. -/
theorem meterAtSix_lastMultiple :
    meterAtSix.now / (meterAtSix.oN Obj.mtrIntervalLength * 1000000000) * (meterAtSix.oN Obj.mtrIntervalLength * 1000000000) = 0 := by decide +kernel

/-- Refutes O28: its clause of METER_INTERVAL_CLOSE starts the next interval at the last multiple of MtrIntervalLength for every open session.
Where that multiple does not lie within the open interval, here for a session that opened at 5 s and closes its interval at 6 s, the model
starts the next one at the device time instead. -/
theorem not_meterRecordsAreStoredSigned : ¬ Obligations.MeterRecordsAreStoredSigned := by
  intro h
  obtain ⟨_, _, interval, _⟩ := h
  obtain ⟨t, y, run, session, since, _⟩ := interval meterAtSix openedAtFive (by decide +kernel) rfl (by decide +kernel)
  cases run
  have started := meterAtSix_intervalDue
  rw [meterAtSix_lastMultiple] at since
  rw [session, Option.map_some, since] at started
  exact absurd started (by decide)

end Sys2Proof.Machine
end

section
/-! SUPPORT. ROA (R432 to R446): what an accepted request is served with, and what refuses the others (O52). -/

namespace Sys2Proof.Machine

section
variable {s : State} {q : RoaReq} {x : RoaSess}

/-- An accepted request is served in the state in which its session has taken the nonce, and the service's answer goes out (R435). -/
theorem State.serve_of_accepts (h : s.Accepts q x) (svc i sub : Nat) (f : RoaSess → State → State × RoaReply) :
    s.serve svc q i sub f = State.answered q svc i sub (f (sessAfter x q s.mono) (s.accepted q x)) := by
  obtain ⟨up, on, found, tag, new, low⟩ := h
  unfold State.serve
  dsimp only
  rw [if_neg (by simp [up, on]), found]
  dsimp only
  rw [if_neg (not_not.mpr tag), if_neg (Nat.not_le.mpr new), if_neg (Nat.not_le.mpr low)]
  rfl

/-- Close answers an accepted request, then closes (R436). -/
theorem State.svcClose_of_accepts (h : s.Accepts q x) :
    s.svcClose q = (State.answered q 0x02 0 0 (s.accepted q x, {})).closeSess q.session.toNat := by
  obtain ⟨up, on, found, tag, new, low⟩ := h
  refine (if_pos ⟨up, on, tag, ?_⟩).trans (congrArg (State.closeSess _) (State.serve_of_accepts ⟨up, on, found, tag, new, low⟩ ..))
  rw [found]
  exact decide_eq_true new

end

/-- Settles O52: every service is `serve` with its own function, which an accepted request reaches with the session as it leaves it. -/
theorem acceptedRequestsAreServedAndAnswered : Obligations.AcceptedRequestsAreServedAndAnswered := by
  refine ⟨?keep, ?close, ?read, ?write, ?recordRead, ?recordWrite, ?describe, ?readStart, ?readSegment, ?writeStart, ?writeSegment, ?writeEnd, ?abort,
    ?noTransfer⟩
  case keep => exact fun s q x h => congrArg Host.Outcome.next (State.serve_of_accepts h ..)
  case close => exact fun s q x h => congrArg Host.Outcome.next (State.svcClose_of_accepts h)
  case read => exact fun s q x i sub h => congrArg Host.Outcome.next (State.serve_of_accepts h ..)
  case write =>
    intro s q x i sub d h
    refine congrArg Host.Outcome.next ((State.serve_of_accepts h ..).trans ?_)
    rw [bytesNat, List.length_map]
    rfl
  case recordRead => exact fun s q x i a b h => congrArg Host.Outcome.next (State.serve_of_accepts h ..)
  case recordWrite => exact fun s q x i a b d h => congrArg Host.Outcome.next (State.serve_of_accepts h ..)
  case describe => exact fun s q x i sub h => congrArg Host.Outcome.next (State.serve_of_accepts h ..)
  case readStart => exact fun s q x i sub h => congrArg Host.Outcome.next (State.serve_of_accepts h ..)
  case readSegment => exact fun s q x off h => congrArg Host.Outcome.next (State.serve_of_accepts h ..)
  case writeStart => exact fun s q x i sub n c h => congrArg Host.Outcome.next (State.serve_of_accepts h ..)
  case writeSegment => exact fun s q x off d h => congrArg Host.Outcome.next (State.serve_of_accepts h ..)
  case writeEnd => exact fun s q x h => congrArg Host.Outcome.next (State.serve_of_accepts h ..)
  case abort =>
    intro s q x y h transfer
    refine congrArg Host.Outcome.next ((State.serve_of_accepts h ..).trans (congrArg (State.answered q 0x0E 0 0) (if_pos ?_)))
    exact congrArg Option.isSome transfer
  case noTransfer =>
    intro s q x h none
    refine congrArg Host.Outcome.next ((State.serve_of_accepts h ..).trans (congrArg (State.answered q 0x0E 0 0) (if_neg ?_)))
    rw [show (sessAfter x q s.mono).xfer = x.xfer from rfl, none]
    exact Bool.false_ne_true

end Sys2Proof.Machine
end

section
/-! SUPPORT. ROA's sessions (R434, R435, R440, R442, R445): how they open, are refused and close, and what a frame of theirs leaves alone (O53). -/

namespace Sys2Proof.Machine

section
variable {s : State}

/-! ## What the sending of a frame leaves alone -/

/-- The device records and sessions, the memory, both sets and the mode record. -/
def State.still (s : State) : Aside × List Host.Cell × Control := (s.aside, s.mem, s.control)

theorem State.still_put {i j : Nat} (v : Int) (s : State) (small : j < 256) (modes : i ≠ 0x2000) (resets : i ≠ 0x2500) :
    (s.put (key i j) v).still = s.still :=
  congrArg (fun c => (s.aside, s.mem, c)) (s.put_control v small modes resets)

theorem State.collect_mem (code inst : Nat) (injected : Bool) : (s.collect code inst injected).mem = s.mem := by
  unfold State.collect
  split
  · rfl
  split
  · rfl
  extract_lets cls again ctx fc t u r
  have raised : u.mem = s.mem := by
    change t.mem = s.mem
    unfold t
    split <;> rfl
  split <;> exact raised

theorem State.monBlind_still : State.MonBlind State.still where
  mon _ _ := rfl
  wire _ _ := rfl
  note code inst t := by
    unfold State.still
    rw [State.note_aside, State.note_control, State.note, State.collect_mem]
  put v t small modes resets _ := t.still_put v small modes resets

theorem State.canMod_still (c : Nat) (f : CanX → CanX) : (s.canMod c f).still = s.still := rfl

theorem State.canShow_still (c : Nat) : (s.canShow c).still = s.still := by
  have lasting := s.canShow_lasting c
  unfold State.still
  rw [State.canShow_control, show (s.canShow c).mem = s.mem from congrArg Prod.fst lasting,
    show (s.canShow c).aside = s.aside from congrArg Prod.snd lasting]

theorem State.canNextHead_still (c : Nat) (queue : List CanFrame) : (s.canNextHead c queue).still = s.still :=
  (State.canShow_still c).trans ((State.canMod_still c _).trans (s.still_put _ (by decide) (by omega) (by omega)))

theorem State.canPut_still (c : Nat) (f : CanFrame) : (s.canPut c f).1.still = s.still := by
  unfold State.canPut
  dsimp only
  split
  · rfl
  · dsimp only
    split
    · exact State.canNextHead_still c _
    · exact (State.canShow_still c).trans (State.canMod_still c _)

theorem State.canRelease_still (c n : Nat) : (s.canRelease c n).still = s.still := by
  unfold State.canRelease
  dsimp only
  split
  · rfl
  · split <;> rfl

theorem State.snapOver_still (z : RoaSnap) : (s.snapOver z).still = s.still := by
  unfold State.snapOver
  split
  · exact State.canRelease_still ..
  · rfl

theorem State.xferOver_still (y : RoaXfer) : (s.xferOver y).still = s.still := by
  unfold State.xferOver
  split
  · exact State.canRelease_still ..
  · rfl

/-- A PDU that is sent leaves the sessions, the memory, both sets and the mode record. -/
theorem State.sendPdu_leaves (t : Nat) (b : List Nat) : (s.sendPdu t b).roa.sessions = s.roa.sessions ∧ (s.sendPdu t b).active = s.active ∧
    (s.sendPdu t b).shadow = s.shadow ∧ (s.sendPdu t b).mem = s.mem ∧ (s.sendPdu t b).mode = s.mode := by
  have kept {u : State} (h : u.still = (s.roaMod (fun r => { r with answer := b })).still) :
      u.roa.sessions = s.roa.sessions ∧ u.active = s.active ∧ u.shadow = s.shadow ∧ u.mem = s.mem ∧ u.mode = s.mode := by
    refine ⟨?_, ?_, ?_, ?_, ?_⟩
    · exact congrArg (fun a => a.1.roa.sessions) h
    · exact congrArg (fun a => a.1.active) h
    · exact congrArg (fun a => a.1.shadow) h
    · exact congrArg (fun a => a.2.1) h
    · exact State.mode_of_control (congrArg (fun a => a.2.2) h)
  unfold State.sendPdu
  extract_lets u
  split
  · exact kept (State.canPut_still ..)
  split
  · exact kept (State.monBlind_still.netPut ..)
  · exact ⟨rfl, rfl, rfl, rfl, rfl⟩

/-! ## Sessions -/

theorem State.sess_num {n : Nat} {x : RoaSess} (found : s.sess n = some x) : x.num = n := by
  have := List.find?_some found
  simpa using this

/-- A change of one session that keeps its number changes what its number finds. -/
theorem State.sess_sessMod {n : Nat} {x : RoaSess} {f : RoaSess → RoaSess} (found : s.sess n = some x) (keeps : ∀ y, (f y).num = y.num) :
    (s.sessMod n f).sess n = some (f x) := by
  have number := State.sess_num found
  have same : ((fun y : RoaSess => y.num == n) ∘ fun y => if y.num = n then f y else y) = fun y => y.num == n := by
    funext y
    by_cases own : y.num = n
    · simp [own, keeps]
    · simp [own]
  change (s.roa.sessions.map (fun y => if y.num = n then f y else y)).find? (fun y => y.num == n) = _
  rw [List.find?_map, same, show s.roa.sessions.find? (fun y => y.num == n) = some x from found, Option.map_some, if_pos number]

/-- A closed session leaves the table, with the count of the open ones shown anew (R435). -/
theorem State.closeSess_of_some {n : Nat} {x : RoaSess} (found : s.sess n = some x) : ∃ u : State, u.still = s.still ∧
    s.closeSess n = (u.roaMod (fun r => { r with sessions := r.sessions.filter (fun y => y.num != n) })).put Obj.roaSessionCount
      (((u.roa.sessions.filter (fun y => y.num != n)).filter (fun y => !y.waiting)).length : Nat) := by
  have released : (x.snaps.foldl (fun t q => t.snapOver q) s).still = s.still := State.foldl_keeps (p := State.still) (fun t z => State.snapOver_still z) s
  unfold State.closeSess
  rw [found]
  refine ⟨_, ?_, rfl⟩
  split
  · exact (State.xferOver_still _).trans released
  · exact released

/-- Fewer than sixteen sessions leave a number from 1 to 16 free. -/
theorem State.exists_free_number (few : s.roa.sessions.length < 16) : ∃ k, 1 ≤ k ∧ k ≤ 16 ∧ s.sess k = none := by
  by_contra taken
  have all : List.range' 1 16 ⊆ s.roa.sessions.map RoaSess.num := by
    intro k hk
    rw [List.mem_range'_1] at hk
    cases found : s.sess k with
    | none => exact absurd ⟨k, hk.1, by omega, found⟩ taken
    | some x => exact List.mem_map.mpr ⟨x, List.mem_of_find?_eq_some found, State.sess_num found⟩
  have := (List.nodup_range' (s := 1) (n := 16) (step := 1)).length_le_of_subset all
  simp at this
  omega

/-- The number that an Open takes. -/
def State.freeNumber (s : State) : Nat := (((List.range 16).map (· + 1)).find? (fun k => (s.sess k).isNone)).getD 16

/-- It is the lowest free one (log 51). -/
theorem State.freeNumber_lowest (few : s.roa.sessions.length < 16) : 1 ≤ s.freeNumber ∧ s.freeNumber ≤ 16 ∧ s.sess s.freeNumber = none ∧
    ∀ k, 1 ≤ k → k < s.freeNumber → (s.sess k).isSome = true := by
  obtain ⟨k, low, high, free⟩ := State.exists_free_number few
  have some_free : (((List.range 16).map (· + 1)).find? (fun k => (s.sess k).isNone)).isSome = true :=
    List.find?_isSome.mpr ⟨k, List.mem_map.mpr ⟨k - 1, List.mem_range.mpr (by omega), by omega⟩, by simp [free]⟩
  obtain ⟨n, hn⟩ := Option.isSome_iff_exists.mp some_free
  have number : s.freeNumber = n := by rw [State.freeNumber, hn, Option.getD_some]
  obtain ⟨isFree, i, hi, at_i, before⟩ := List.find?_eq_some_iff_getElem.mp hn
  simp only [List.length_map, List.length_range, List.getElem_map, List.getElem_range] at hi at_i before
  rw [number]
  refine ⟨by omega, by omega, Option.isNone_iff_eq_none.mp isFree, fun j one lower => ?_⟩
  have := before (j - 1) (by omega)
  rw [Nat.sub_add_cancel one, Bool.not_eq_true'] at this
  simpa [Option.isNone_eq_false_iff] using this

end

end Sys2Proof.Machine
end

section
/-! SUPPORT. ROA's requests that are not served, its openings and its keys (R434, R435, R440 to R445, R450): O53. -/

namespace Sys2Proof.Machine

section
variable {s : State} {q : RoaReq} {x : RoaSess}

/-! ## Opening -/

/-- An Open with a good tag and room adds a pending session with the lowest free number (R434, log 51). -/
theorem State.roaOpen_of_room {code : Nat} {role : Role} (random : Nat) (up : s.up = true) (on : s.roaOn q.transport.toNat = true)
    (known : roleOf code = some role) (tag : q.tagOk = true) (room : s.openRefused role = false) :
    ∃ t y, s.roaOpen q code random = t ∧ t.roa.sessions = s.roa.sessions ++ [y] ∧ y.role = role ∧ y.transport = q.transport.toNat ∧
      y.waiting = true ∧ y.nonceIn = 0 ∧ y.num = s.freeNumber ∧
      t.active = s.active ∧ t.shadow = s.shadow ∧ t.mem = s.mem ∧ t.mode = s.mode := by
  unfold State.roaOpen
  dsimp only
  rw [if_neg (by simp [up, on]), known]
  dsimp only
  rw [if_neg (not_not.mpr tag), if_neg (by simp [room])]
  obtain ⟨sessions, active, shadow, mem, mode⟩ := State.sendPdu_leaves (s := _) _ _
  exact ⟨_, _, rfl, sessions, rfl, rfl, rfl, rfl, rfl, active, shadow, mem, mode⟩

/-- Beyond the limits it is refused with 0x11. -/
theorem State.roaOpen_of_refused {code : Nat} {role : Role} (random : Nat) (up : s.up = true) (on : s.roaOn q.transport.toNat = true)
    (known : roleOf code = some role) (tag : q.tagOk = true) (full : s.openRefused role = true) :
    s.roaOpen q code random = ((s.incSat Obj.roaOpenRefusedCount).refuse 0x11).sendPdu q.transport.toNat
      (responsePdu (s.nv.roleKeys.getD code 0) 0x01 0 0 0 0 { code := 0x11 }) := by
  unfold State.roaOpen
  dsimp only
  rw [if_neg (by simp [up, on]), known]
  exact (if_neg (not_not.mpr tag)).trans (if_pos full)

/-- With a bad tag or no such role it is counted. -/
theorem State.roaOpen_of_bad {code : Nat} (random : Nat) (up : s.up = true) (on : s.roaOn q.transport.toNat = true)
    (bad : q.tagOk = false ∨ roleOf code = none) : s.roaOpen q code random = s.incSat Obj.roaTagFailCount := by
  unfold State.roaOpen
  dsimp only
  rw [if_neg (by simp [up, on])]
  split
  · rfl
  · next known =>
    rw [known] at bad
    exact if_pos (by simpa using bad)

theorem State.roaOpen_of_off {code : Nat} (random : Nat) (off : s.up = false ∨ s.roaOn q.transport.toNat = false) :
    s.roaOpen q code random = s := if_pos (by simpa using off)

/-! ## Requests that no service serves -/

theorem State.serve_of_off (off : s.up = false ∨ s.roaOn q.transport.toNat = false) (svc i sub : Nat) (f : RoaSess → State → State × RoaReply) :
    s.serve svc q i sub f = s := if_pos (by simpa using off)

theorem State.serve_of_none (up : s.up = true) (on : s.roaOn q.transport.toNat = true) (missing : s.sess q.session.toNat = none) (svc i sub : Nat)
    (f : RoaSess → State → State × RoaReply) : s.serve svc q i sub f = s.incSat Obj.roaTagFailCount := by
  unfold State.serve
  dsimp only
  rw [if_neg (by simp [up, on]), missing]

section
variable (up : s.up = true) (on : s.roaOn q.transport.toNat = true) (found : s.sess q.session.toNat = some x) (svc i sub : Nat)
  (f : RoaSess → State → State × RoaReply)
include up on found

theorem State.serve_of_tag (tag : q.tagOk = false) : s.serve svc q i sub f = s.tagFails q.session.toNat := by
  unfold State.serve
  dsimp only
  rw [if_neg (by simp [up, on]), found]
  exact if_pos (by simp [tag])

theorem State.serve_of_replay (tag : q.tagOk = true) (old : q.nonce.toNat ≤ x.nonceIn) : s.serve svc q i sub f =
    ((s.sessMod q.session.toNat (fun y => { y with fails := 0 })).incSat Obj.roaReplayCount).note FC.roaReplay q.session.toNat := by
  unfold State.serve
  dsimp only
  rw [if_neg (by simp [up, on]), found]
  exact (if_neg (not_not.mpr tag)).trans (if_pos old)

theorem State.serve_of_rekey (tag : q.tagOk = true) (new : x.nonceIn < q.nonce.toNat) (last : 2147483648 ≤ q.nonce.toNat) : s.serve svc q i sub f =
    (((s.reply q.session.toNat q.transport.toNat svc i sub { code := 0x12 }).closeSess q.session.toNat).incSat Obj.roaRekeyCount).note FC.roaRekey
      q.session.toNat := by
  unfold State.serve
  dsimp only
  rw [if_neg (by simp [up, on]), found]
  exact (if_neg (not_not.mpr tag)).trans ((if_neg (Nat.not_le.mpr new)).trans (if_pos last))

end

/-- A request that reaches no service: ROA is off, its session is none, its tag fails, or its nonce is used or the last (R435). -/
def State.Rejects (s : State) (q : RoaReq) : Prop :=
  (s.up = false ∨ s.roaOn q.transport.toNat = false ∨ s.sess q.session.toNat = none) ∨
    ∃ x, s.sess q.session.toNat = some x ∧ (q.tagOk = false ∨ q.nonce.toNat ≤ x.nonceIn ∨ 2147483648 ≤ q.nonce.toNat)

/-- What is not served does not depend on the service's function. -/
theorem State.serve_of_rejects (h : s.Rejects q) (svc i sub : Nat) (f g : RoaSess → State → State × RoaReply) :
    s.serve svc q i sub f = s.serve svc q i sub g := by
  by_cases off : s.up = false ∨ s.roaOn q.transport.toNat = false
  · rw [State.serve_of_off off, State.serve_of_off off]
  obtain ⟨up, on⟩ : s.up = true ∧ s.roaOn q.transport.toNat = true := by simpa using off
  rcases h with (down | down | missing) | ⟨x, found, why⟩
  · exact absurd (.inl down) off
  · exact absurd (.inr down) off
  · rw [State.serve_of_none up on missing, State.serve_of_none up on missing]
  by_cases tag : q.tagOk = true
  · by_cases old : q.nonce.toNat ≤ x.nonceIn
    · rw [State.serve_of_replay up on found _ _ _ _ tag old, State.serve_of_replay up on found _ _ _ _ tag old]
    · have last : 2147483648 ≤ q.nonce.toNat := by
        rcases why with bad | used | last
        · simp [bad] at tag
        · exact absurd used old
        · exact last
      rw [State.serve_of_rekey up on found _ _ _ _ tag (Nat.not_le.mp old) last, State.serve_of_rekey up on found _ _ _ _ tag (Nat.not_le.mp old) last]
  · have tag : q.tagOk = false := by simpa using tag
    rw [State.serve_of_tag up on found _ _ _ _ tag, State.serve_of_tag up on found _ _ _ _ tag]

/-- A service as one that does nothing: what each service does with a request that is rejected. -/
theorem State.services_of_rejects (h : s.Rejects q) (i : BitVec 16) (a b : Byte) (d : List Byte) (n c : BitVec 32) :
    exec (.keepAlive q) s = .next (s.serve 0x03 q 0 0 (fun _ u => (u, {}))) ∧
      exec (.roaRead q i a) s = .next (s.serve 0x04 q i.toNat a.toNat (fun _ u => (u, {}))) ∧
      exec (.roaWrite q i a d) s = .next (s.serve 0x05 q i.toNat a.toNat (fun _ u => (u, {}))) ∧
      exec (.recordRead q i a b) s = .next (s.serve 0x06 q i.toNat a.toNat (fun _ u => (u, {}))) ∧
      exec (.recordWrite q i a b d) s = .next (s.serve 0x07 q i.toNat a.toNat (fun _ u => (u, {}))) ∧
      exec (.describe q i a) s = .next (s.serve 0x08 q i.toNat a.toNat (fun _ u => (u, {}))) ∧
      exec (.blockReadStart q i a) s = .next (s.serve 0x09 q i.toNat a.toNat (fun _ u => (u, {}))) ∧
      exec (.blockReadSegment q n) s = .next (s.serve 0x0A q 0 0 (fun _ u => (u, {}))) ∧
      exec (.blockWriteStart q i a n c) s = .next (s.serve 0x0B q i.toNat a.toNat (fun _ u => (u, {}))) ∧
      exec (.blockWriteSegment q n d) s = .next (s.serve 0x0C q 0 0 (fun _ u => (u, {}))) ∧
      exec (.blockWriteEnd q) s = .next (s.serve 0x0D q 0 0 (fun _ u => (u, {}))) ∧
      exec (.blockAbort q) s = .next (s.serve 0x0E q 0 0 (fun _ u => (u, {}))) := by
  refine ⟨?_, ?_, ?_, ?_, ?_, ?_, ?_, ?_, ?_, ?_, ?_, ?_⟩ <;> exact congrArg Host.Outcome.next (State.serve_of_rejects h ..)

/-- Close closes nothing where no new nonce with a good tag reaches it. -/
theorem State.svcClose_of_rejects
    (h : s.up = false ∨ s.roaOn q.transport.toNat = false ∨ q.tagOk = false ∨ (s.sess q.session.toNat).any (fun x => x.nonceIn < q.nonce.toNat) = false) :
    s.svcClose q = s.serve 0x02 q 0 0 (fun _ u => (u, {})) := by
  refine if_neg fun ⟨up, on, tag, new⟩ => ?_
  simp [up, on, tag, new] at h

/-! ## Failures in a row -/

/-- A failed tag is counted in its session, whose failures in a row decide (R435). -/
theorem State.tagFails_eq {n : Nat} (found : s.sess n = some x) : s.tagFails n =
    if s.oN Obj.roaMaxTagFailures ≤ x.fails + 1 then
      (((s.incSat Obj.roaTagFailCount).sessMod n (fun x => { x with fails := x.fails + 1 })).closeSess n).note FC.roaAuth n
    else (s.incSat Obj.roaTagFailCount).sessMod n (fun x => { x with fails := x.fails + 1 }) := by
  have counted : (s.incSat Obj.roaTagFailCount).sess n = some x := found
  have limit : ((s.incSat Obj.roaTagFailCount).sessMod n (fun x => { x with fails := x.fails + 1 })).oN Obj.roaMaxTagFailures =
      s.oN Obj.roaMaxTagFailures := State.oN_put_other _ _ (key_ne (by decide))
  unfold State.tagFails
  dsimp only
  rw [State.sess_sessMod (f := fun x => { x with fails := x.fails + 1 }) counted (fun _ => rfl)]
  dsimp only
  rw [limit]

/-! ## Keys -/

/-- A session's wrapped role key is refused by its block or its length, else taken (R445). -/
theorem State.roleKeyBlock_eq {n : Nat} (r : Nat) (k : List Nat) (up : s.up = true) (found : s.sess n = some x) : s.roleKeyBlock n r k =
    if s.blockCode x.role (0x1110 + r) 1 ≠ 0 then s.refuse (s.blockCode x.role (0x1110 + r) 1)
    else if k.length ≠ 24 then s.refuse 0x07 else (s.writeRoleKey r x.key k).1 := by
  unfold State.roleKeyBlock
  rw [found]
  exact if_neg (not_not.mpr up)

/-- So is a wrapped partner key (R515). -/
theorem State.partnerKeyBlock_eq {n : Nat} (k : List Nat) (up : s.up = true) (found : s.sess n = some x) : s.partnerKeyBlock n k =
    if s.blockCode x.role 0x1601 0 ≠ 0 then s.refuse (s.blockCode x.role 0x1601 0)
    else if k.length ≠ 24 then s.refuse 0x07 else (s.writePartnerKey x.key k).1 := by
  unfold State.partnerKeyBlock
  rw [found]
  exact if_neg (not_not.mpr up)

theorem State.keyBlocks_of_none {n : Nat} (r : Nat) (k : List Nat) (missing : s.up = false ∨ s.sess n = none) :
    s.partnerKeyBlock n k = s ∧ s.roleKeyBlock n r k = s := by
  unfold State.partnerKeyBlock State.roleKeyBlock
  cases found : s.sess n with
  | none => exact ⟨rfl, rfl⟩
  | some x =>
    have down : ¬ s.up = true := by simpa [found] using missing
    exact ⟨if_pos down, if_pos down⟩

theorem bytesNat_length (k : List Byte) : (bytesNat k).length = k.length := List.length_map _

/-! ## Snapshots and transfers -/

theorem State.snapDiscard_of_some {n i : Nat} {z : RoaSnap} (found : s.snapOf n i = some z) : s.snapDiscard n i =
    (((s.snapDrop n i).sessMod n (fun x => { x with dropped := i :: x.dropped.filter (· != i) })).incSat Obj.roaSnapshotDiscardCount).snapOver z := by
  unfold State.snapDiscard
  rw [found]

theorem State.snapDiscard_of_none {n i : Nat} (missing : s.snapOf n i = none) : s.snapDiscard n i = s := by
  unfold State.snapDiscard
  rw [missing]

end

/-- Settles O53: an Open by `roaOpen`'s branches, the rejected requests by `serve_of_rejects`, for what is not served does not depend on the
service, and the rest by the branches of its own command. -/
theorem sessionsOpenCloseAndRefuse : Obligations.SessionsOpenCloseAndRefuse := by
  refine ⟨?opened, ?full, ?limits, ?badOpen, ?offOpen, ?off, ?noSession, ?tag, ?counted, ?closed, ?replay, ?rekey, ?unserved, ?discarded, ?last, ?lastClose,
    ?lapse, ?noLapse, ?idle, ?notIdle, ?close, ?timeout, ?noTimeout, ?lapsed, ?noTransfer, ?noSnapshot, ?snapshot, ?roleLength, ?roleKey, ?partnerKey,
    ?roleRefused, ?unwrap, ?partnerLength, ?partnerRefused, ?noKeys, ?takeup, ?notTaken, ?down⟩
  case opened =>
    intro s q c r role up on known tag room
    obtain ⟨t, y, run, sessions, hrole, transport, waiting, nonce, number, active, shadow, mem, mode⟩ :=
      State.roaOpen_of_room r.toNat up on known tag room
    have few : s.roa.sessions.length < 16 := by
      simp only [State.openRefused, Bool.or_eq_false_iff, decide_eq_false_iff_not] at room
      omega
    obtain ⟨low, high, free, lowest⟩ := State.freeNumber_lowest few
    rw [← number] at low high free lowest
    exact ⟨t, y, congrArg Host.Outcome.next run, sessions, hrole, transport, waiting, nonce, low, high, free,
      fun k _ one lower => ⟨lowest k one lower, active, shadow, mem, mode⟩⟩
  case full => exact fun s q c r role up on known tag full => congrArg Host.Outcome.next (State.roaOpen_of_refused r.toNat up on known tag full)
  case limits => exact fun s role => rfl
  case badOpen => exact fun s q c r up on bad => congrArg Host.Outcome.next (State.roaOpen_of_bad r.toNat up on bad)
  case offOpen => exact fun s q c r off => congrArg Host.Outcome.next (State.roaOpen_of_off r.toNat off)
  case off => exact fun s q svc i sub f off => State.serve_of_off off ..
  case noSession => exact fun s q svc i sub f up on missing => State.serve_of_none up on missing ..
  case tag => exact fun s q svc i sub f x up on found tag => State.serve_of_tag up on found _ _ _ _ tag
  case counted => exact fun s n x found few => (State.tagFails_eq found).trans (if_neg (Nat.not_le.mpr few))
  case closed => exact fun s n x found many => (State.tagFails_eq found).trans (if_pos many)
  case replay => exact fun s q svc i sub f x up on found tag old => State.serve_of_replay up on found _ _ _ _ tag old
  case rekey => exact fun s q svc i sub f x up on found tag new last => State.serve_of_rekey up on found _ _ _ _ tag new last
  case unserved =>
    intro s q i a b d n c off
    refine ⟨congrArg Host.Outcome.next (State.svcClose_of_rejects ?_), State.services_of_rejects (.inl off) ..⟩
    rcases off with down | off | missing
    · exact .inl down
    · exact .inr (.inl off)
    · exact .inr (.inr (.inr (by rw [missing]; rfl)))
  case discarded =>
    intro s q i a b d n c x found bad
    refine ⟨congrArg Host.Outcome.next (State.svcClose_of_rejects (.inr (.inr ?_))), State.services_of_rejects (.inr ⟨x, found, ?_⟩) ..⟩
    · exact bad.imp_right fun old => by rw [found]; exact decide_eq_false (Nat.not_lt.mpr old)
    · exact bad.imp_right .inl
  case last => exact fun s q i a b d n c x found _ last => State.services_of_rejects (.inr ⟨x, found, .inr (.inr last)⟩) ..
  case lastClose =>
    intro s q x up on found tag new last
    refine congrArg Host.Outcome.next (if_pos ⟨up, on, tag, ?_⟩)
    rw [found]
    exact decide_eq_true new
  case lapse =>
    intro s n x found waiting
    exact congrArg Host.Outcome.next (if_pos (by rw [found]; exact waiting))
  case noLapse =>
    intro s n x other
    refine congrArg Host.Outcome.next (if_neg ?_)
    rcases other with missing | ⟨found, opened⟩
    · simp [missing]
    · simp [found, opened]
  case idle =>
    intro s n x found opened
    exact congrArg Host.Outcome.next (if_pos (by simp [found, opened]))
  case notIdle =>
    intro s n x other
    refine congrArg Host.Outcome.next (if_neg ?_)
    rcases other with missing | ⟨found, waiting⟩
    · simp [missing]
    · simp [found, waiting]
  case close =>
    intro s n x found
    obtain ⟨u, still, closed⟩ := State.closeSess_of_some found
    have sessions : u.roa.sessions = s.roa.sessions := congrArg (fun a => a.1.roa.sessions) still
    rw [closed, ← sessions]
    exact ⟨rfl, State.oN_put_same .., congrArg (fun a => a.1.active) still, congrArg (fun a => a.1.shadow) still,
      congrArg (fun a => a.2.1) still⟩
  case timeout =>
    intro s n x y found transfer
    exact congrArg Host.Outcome.next (if_pos (by simp [found, transfer]))
  case noTimeout =>
    intro s n x other
    refine congrArg Host.Outcome.next (if_neg ?_)
    rcases other with missing | ⟨found, idle⟩
    · simp [missing]
    · simp [found, idle]
  case lapsed =>
    intro s x lapsed
    refine (if_pos lapsed).trans ?_
    rw [if_pos lapsed]
  case noTransfer => exact fun s x lasting => if_neg (by simp [lasting])
  case noSnapshot => exact fun s n i missing => congrArg Host.Outcome.next (State.snapDiscard_of_none missing)
  case snapshot => exact fun s n i z found => congrArg Host.Outcome.next (State.snapDiscard_of_some found)
  case roleLength =>
    intro s n c k x up found allowed long
    refine congrArg Host.Outcome.next ((State.roleKeyBlock_eq _ _ up found).trans ((if_neg (not_not.mpr allowed)).trans (if_pos ?_)))
    rwa [bytesNat_length]
  case roleKey =>
    intro s n c k x up found allowed exact_length
    refine congrArg Host.Outcome.next ((State.roleKeyBlock_eq _ _ up found).trans ((if_neg (not_not.mpr allowed)).trans (if_neg (not_not.mpr ?_))))
    rwa [bytesNat_length]
  case partnerKey =>
    intro s n k x up found allowed exact_length
    refine congrArg Host.Outcome.next ((State.partnerKeyBlock_eq _ up found).trans ((if_neg (not_not.mpr allowed)).trans (if_neg (not_not.mpr ?_))))
    rwa [bytesNat_length]
  case roleRefused => exact fun s n c k x up found refused => congrArg Host.Outcome.next ((State.roleKeyBlock_eq _ _ up found).trans (if_pos refused))
  case unwrap => exact fun s r y k => ⟨rfl, rfl⟩
  case partnerLength =>
    intro s n k x up found allowed long
    refine congrArg Host.Outcome.next ((State.partnerKeyBlock_eq _ up found).trans ((if_neg (not_not.mpr allowed)).trans (if_pos ?_)))
    rwa [bytesNat_length]
  case partnerRefused => exact fun s n k x up found refused => congrArg Host.Outcome.next ((State.partnerKeyBlock_eq _ up found).trans (if_pos refused))
  case noKeys =>
    intro s n c k missing
    obtain ⟨partner, role⟩ := State.keyBlocks_of_none c.toNat (bytesNat k) missing
    exact ⟨congrArg Host.Outcome.next partner, congrArg Host.Outcome.next role⟩
  case takeup =>
    intro s e up waits
    exact congrArg Host.Outcome.next (if_neg (by simpa [up] using waits))
  case notTaken =>
    intro s e missing
    exact congrArg Host.Outcome.next (if_pos (.inr (by simpa using missing)))
  case down =>
    intro s e down
    exact congrArg Host.Outcome.next (if_pos (.inl (by simp [down])))

end Sys2Proof.Machine
end

section
/-! SUPPORT. CAN controllers (R452 to R472): received frames, the buffers they go to, and the frames that leave the queue (O54). -/

namespace Sys2Proof.Machine

section
variable {s : State}

/-! ## Rights -/

theorem State.access_of_rank {role : Role} {n : Nat} (up : s.up = true) (rank : n ≤ roleRank role) (f : State → State) : s.access role n f = f s :=
  (if_neg (not_not.mpr up)).trans (if_neg (Nat.not_lt.mpr rank))

theorem State.access_of_low {role : Role} {n : Nat} (up : s.up = true) (low : roleRank role < n) (f : State → State) :
    s.access role n f = s.refuse 0x05 := (if_neg (not_not.mpr up)).trans (if_pos low)

theorem State.access_of_down {role : Role} {n : Nat} (down : s.up = false) (f : State → State) : s.access role n f = s := if_pos (by simp [down])

/-! ## A controller's own record -/

theorem State.canMod_canMod (c : Nat) (f g : CanX → CanX) : (s.canMod c f).canMod c g = s.canMod c (g ∘ f) := by
  unfold State.canMod modifyAt
  rw [List.modify_modify_eq]

theorem State.canx_canMod {c : Nat} (f : CanX → CanX) (small : c < s.can.length) : (s.canMod c f).canx c = f (s.canx c) := by
  change (s.can.modify c f).getD c {} = f (s.can.getD c {})
  simp [List.getD_eq_getElem?_getD, List.getElem?_eq_getElem small]

theorem State.canShow_can (c : Nat) : (s.canShow c).can = s.can := by
  unfold State.canShow
  dsimp only
  split <;> rfl

/-- A controller in one of two states, as the model asks it. -/
theorem contains_two_three {n : Nat} : [2, 3].contains n = true ↔ n = 2 ∨ n = 3 := by simp

/-! ## Receiving -/

theorem State.canReceived_of_deaf {c : Nat} (h d : List Nat) (age : Nat) (deaf : s.canRuns c = false ∨ s.oN (Obj.canState c) = 7 ∧ (s.canx c).ant.step = 1) :
    s.canReceived c h d age = s := if_pos (by simpa using deaf)

theorem State.canReceived_of_format {c : Nat} {h : List Nat} (d : List Nat) (age : Nat) (runs : s.canRuns c = true) (other : s.oN (Obj.canState c) ≠ 7)
    (bad : s.formatOk c (hdrKind h) = false) : s.canReceived c h d age = s.canStart c :=
  (if_neg (by simp [runs, other])).trans ((if_pos (by simp [bad])).trans (if_neg other))

theorem State.canReceived_of_format_antenna {c : Nat} {h : List Nat} (d : List Nat) (age : Nat) (antenna : s.oN (Obj.canState c) = 7)
    (bad : s.formatOk c (hdrKind h) = false) : s.canReceived c h d age = s := by
  by_cases deaf : ¬ s.canRuns c = true ∨ s.oN (Obj.canState c) = 7 ∧ (s.canx c).ant.step = 1
  · exact if_pos deaf
  · exact (if_neg deaf).trans ((if_pos (by simp [bad])).trans (if_pos antenna))

/-- A good frame is counted and delivered with its stamp (R458, R463). -/
theorem State.canReceived_of_good {c : Nat} {h : List Nat} (d : List Nat) (age : Nat) (runs : s.canRuns c = true)
    (hears : s.oN (Obj.canState c) ≠ 7 ∨ (s.canx c).ant.step ≠ 1) (good : s.formatOk c (hdrKind h) = true) : s.canReceived c h d age =
      (((s.inc32 (Obj.canRxFrameCount c)).antennaHears c true).canRecDown c).canDeliver c
        [h.getD 0 0 % 2 ^ 30, h.getD 1 0, s.stampAt age, h.getD 3 0, h.getD 4 0]
        (fit (hdrLength [h.getD 0 0 % 2 ^ 30, h.getD 1 0, s.stampAt age, h.getD 3 0, h.getD 4 0]) d) := by
  refine (if_neg ?_).trans (if_neg (not_not.mpr good))
  rintro (still | ⟨antenna, first⟩)
  · exact still runs
  · exact hears.elim (fun other => other antenna) (fun other => other first)

theorem State.canDeliver_of_roa {c : Nat} {h : List Nat} (d : List Nat) (roa : (s.cN Obj.roaCanEnable).testBit c = true ∧ hdrId h = s.cN Obj.roaCanRequestId) :
    s.canDeliver c h d = s.roaPdu (if hdrKind h = 2 then 16 + c else c) d := if_pos roa

/-- A frame that is none of ROA's goes where the filters say (R458). -/
theorem State.canDeliver_of_other {c : Nat} {h : List Nat} (d : List Nat) {found : Option Nat}
    (other : ¬ ((s.cN Obj.roaCanEnable).testBit c = true ∧ hdrId h = s.cN Obj.roaCanRequestId)) : s.filterFor c h = found → s.canDeliver c h d =
      match found with
      | none => s.incSat (Obj.canRxNoMatchCount c)
      | some w => match w / 2 ^ 93 % 4 with
        | 1 => if s.cN (Obj.canRxDataSize c) < d.length then s.incSat (Obj.canRxTooLongCount c) else s.canStore c (w / 2 ^ 64 % 8192) h d
        | 2 => s.entryFrame (w / 2 ^ 64 % 8192) d
        | _ => s := by
  rintro rfl
  exact (if_neg other).trans rfl

theorem State.canDeliver_of_none {c : Nat} {h : List Nat} (d : List Nat)
    (other : ¬ ((s.cN Obj.roaCanEnable).testBit c = true ∧ hdrId h = s.cN Obj.roaCanRequestId)) (none : s.filterFor c h = none) :
    s.canDeliver c h d = s.incSat (Obj.canRxNoMatchCount c) := State.canDeliver_of_other d other none

section
variable {c : Nat} {h : List Nat} {w : Nat} (d : List Nat) (other : ¬ ((s.cN Obj.roaCanEnable).testBit c = true ∧ hdrId h = s.cN Obj.roaCanRequestId))
  (filter : s.filterFor c h = some w)
include other filter

/-- The first filter that matches says by its target where a frame goes. -/
theorem State.canDeliver_of_filter {target : Nat} : w / 2 ^ 93 % 4 = target → s.canDeliver c h d = match target with
    | 1 => if s.cN (Obj.canRxDataSize c) < d.length then s.incSat (Obj.canRxTooLongCount c) else s.canStore c (w / 2 ^ 64 % 8192) h d
    | 2 => s.entryFrame (w / 2 ^ 64 % 8192) d
    | _ => s := by
  rintro rfl
  exact State.canDeliver_of_other d other filter

theorem State.canDeliver_of_no_target (kind : w / 2 ^ 93 % 4 = 0) : s.canDeliver c h d = s := State.canDeliver_of_filter d other filter kind

theorem State.canDeliver_of_entry (kind : w / 2 ^ 93 % 4 = 2) : s.canDeliver c h d = s.entryFrame (w / 2 ^ 64 % 8192) d :=
  State.canDeliver_of_filter d other filter kind

theorem State.canDeliver_of_buffer (kind : w / 2 ^ 93 % 4 = 1) : s.canDeliver c h d =
    if s.cN (Obj.canRxDataSize c) < d.length then s.incSat (Obj.canRxTooLongCount c) else s.canStore c (w / 2 ^ 64 % 8192) h d :=
  State.canDeliver_of_filter d other filter kind

end

/-- The filter of a frame is the first of the table that matches it. -/
theorem State.filterFor_first {c : Nat} {h : List Nat} {w : Nat} (found : s.filterFor c h = some w) : filterMatches w h = true ∧
    ∃ k ∈ List.range 256, w = s.filterWord c k ∧ ∀ j ∈ List.range k, filterMatches (s.filterWord c j) h = false := by
  obtain ⟨hit, k, small, at_k, before⟩ := List.find?_eq_some_iff_getElem.mp found
  simp only [List.length_map, List.length_range, List.getElem_map, List.getElem_range, Bool.not_eq_true'] at small at_k before
  exact ⟨hit, k, List.mem_range.mpr small, at_k.symm, fun j lower => before j (List.mem_range.mp lower)⟩

/-! ## Buffers -/

/-- A frame for a locked buffer waits as its copy, and one it pushes out is an overrun (R462). -/
theorem State.canStore_of_locked {c n : Nat} (h d : List Nat) (locked : (s.canBuf c n).locked = true) : s.canStore c n h d =
    if (s.canBuf c n).copy.isSome then (s.canBufPut c n { s.canBuf c n with copy := some (h, d, (s.canBuf c n).copy.isSome) }).canOverrun c
    else s.canBufPut c n { s.canBuf c n with copy := some (h, d, (s.canBuf c n).copy.isSome) } := if_pos locked

/-- A frame for another buffer is in it at once, and one not read is an overrun (R461). -/
theorem State.canStore_of_unlocked {c n : Nat} (h d : List Nat) (free : (s.canBuf c n).locked = false) : s.canStore c n h d =
    if (s.canBuf c n).isNew then (s.canBufPut c n { s.canBuf c n with hdr := h, data := d, isNew := true, overrun := (s.canBuf c n).isNew }).canOverrun c
    else s.canBufPut c n { s.canBuf c n with hdr := h, data := d, isNew := true, overrun := (s.canBuf c n).isNew } := if_neg (by simp [free])

/-- A release moves the waiting copy in, or ends the lock; without a lock it does nothing (R461). -/
theorem State.canRelease_of_copy {c n : Nat} {h d : List Nat} {l : Bool} (locked : (s.canBuf c n).locked = true)
    (copy : (s.canBuf c n).copy = some (h, d, l)) : s.canRelease c n = s.canBufPut c n { hdr := h, data := d, isNew := true, overrun := l } := by
  refine (if_neg (not_not.mpr locked)).trans ?_
  rw [copy]

theorem State.canRelease_of_no_copy {c n : Nat} (locked : (s.canBuf c n).locked = true) (copy : (s.canBuf c n).copy = none) :
    s.canRelease c n = s.canBufPut c n { s.canBuf c n with locked := false, isNew := false } := by
  refine (if_neg (not_not.mpr locked)).trans ?_
  rw [copy]
  simp only [copy]

theorem State.canRelease_of_free {c n : Nat} (free : (s.canBuf c n).locked = false) : s.canRelease c n = s := if_pos (by simp [free])

/-! ## The head that was sent, and its recovery -/

theorem State.canSent_of_nothing {c : Nat} (age : Nat) (nothing : (s.canx c).queue = [] ∨ s.canRuns c = false ∨
    (s.oN (Obj.canState c) ≠ 2 ∧ s.oN (Obj.canState c) ≠ 3) ∨ (s.canx c).held = true) : s.canSent c age = s := by
  unfold State.canSent
  split
  · rfl
  · next queue =>
    refine if_pos ?_
    rcases nothing with empty | still | ⟨two, three⟩ | held
    · simp [empty] at queue
    · exact .inl (by simp [still])
    · exact .inr (.inl fun in_two_three => (contains_two_three.mp in_two_three).elim two three)
    · exact .inr (.inr held)

/-- The counters, the state, the count of frames and the stamp after a frame was sent (R464, R467). -/
def State.canSentShown (c age : Nat) (s : State) : State :=
  (((s.put (Obj.canTec c) (s.oN (Obj.canTec c) - 1 : Nat)).put (Obj.canState c) (errState (s.oN (Obj.canTec c) - 1)
    ((s.put (Obj.canTec c) (s.oN (Obj.canTec c) - 1 : Nat)).oN (Obj.canRec c)) : Nat)).inc32 (Obj.canTxFrameCount c)).put (Obj.canTxLastStamp c) (s.stampAt age : Nat)

theorem State.canSent_of_head {c : Nat} {f : CanFrame} {rest : List CanFrame} (age : Nat) (runs : s.canRuns c = true)
    (active : s.oN (Obj.canState c) = 2 ∨ s.oN (Obj.canState c) = 3) (queue : (s.canx c).queue = f :: rest) (free : (s.canx c).held = false) (u : State)
    (kept : (u.canx c).abort = (s.canx c).abort)
    (hu : u = match f.entry with
      | some e => (s.canSentShown c age).eslMod ((s.canSentShown c age).pt e 2 2) (fun x => { x with sent := some f.seq })
      | none => s.canSentShown c age) :
    s.canSent c age = (if (s.canx c).abort = 0 then u else u.put (Obj.canTxResult c) 5).canNextHead c rest := by
  have rec_kept : (s.put (Obj.canTec c) (s.oN (Obj.canTec c) - 1 : Nat)).oN (Obj.canRec c) = s.oN (Obj.canRec c) :=
    State.oN_put_other _ _ (key_ne (by decide))
  unfold State.canSent
  rw [queue]
  dsimp only
  rw [if_neg (by simp [runs, free]; omega)]
  rw [← kept, hu, State.canSentShown, rec_kept]
  rfl

end

end Sys2Proof.Machine
end

section
/-! SUPPORT. CAN controllers: bus errors, submitted and aborted frames, Antenna (R456, R457, R464 to R470), and what O54 says of them all. -/

namespace Sys2Proof.Machine

section
variable {s : State} {c : Nat}

/-! ## Stale frames of a recovery (R469) -/

theorem State.regenerate_of_fresh {f : CanFrame} (fresh : f.entry = none ∨ s.staleFrame f = false) : State.regenerate c [f] [] s = (s, [f]) := by
  unfold State.regenerate
  cases entry : f.entry with
  | none => rfl
  | some e =>
    have fresh : s.staleFrame f = false := by simpa [entry] using fresh
    exact if_neg (by simp [fresh])

theorem State.regenerate_of_stale {f : CanFrame} {e q : Nat} (entry : f.entry = some e) (stale : s.staleFrame f = true)
    (next : q = (((s.eslx (s.pt e 2 2)).sent.map seqNext).getD 0)) : State.regenerate c [f] [] s =
      ((s.eslMod (s.pt e 2 2) (fun x => { x with next := seqNext q, skip := min (x.skip + 1) 4294967295 })),
        [{ s.canFrame c (s.pt e 28 4) (s.eslFrame e q (s.txPayload e)) with entry := some e, seq := q, since := s.tick }]) := by
  unfold State.regenerate
  rw [entry]
  refine (if_pos stale).trans ?_
  subst next
  cases sent : (s.eslx (s.pt e 2 2)).sent with
  | none => simp only [List.lookup_nil, Option.none_or]; rfl
  | some q => simp only [List.lookup_nil, Option.none_or]; rfl

/-! ## Bus errors (R467, R468, R470) -/

theorem State.canError_of_active {err inc : Nat} {sending clash : Bool} (runs : s.canRuns c = true)
    (active : s.oN (Obj.canState c) = 2 ∨ s.oN (Obj.canState c) = 3) {u : State}
    (hu : u = (s.incSat (Obj.canErrorCount c)).put (Obj.canLastError c) err) : s.canError c err sending clash inc =
      (if sending ∧ (s.canx c).abort ≠ 0 then u.canNextHead c (u.canx c).queue.tail
        else if sending ∧ clash ∧ err = 1 then u.canClash c else u).canCount c sending inc := by
  subst hu
  exact if_neg (by simp [runs]; omega)

theorem State.canError_of_passive {err inc : Nat} {sending clash : Bool} (runs : s.canRuns c = true)
    (quiet : s.oN (Obj.canState c) = 6 ∨ s.oN (Obj.canState c) = 7) :
    s.canError c err sending clash inc = ((s.incSat (Obj.canErrorCount c)).put (Obj.canLastError c) err).antennaHears c false :=
  (if_pos (.inr (by simpa using quiet))).trans (if_pos runs)

theorem State.canClash_of_head {f : CanFrame} {rest : List CanFrame} (queue : (s.canx c).queue = f :: rest) : s.canClash c =
    if (s.canx c).clash + 1 = 4 then
      ((((s.canMod c (fun x => { x with clash := x.clash + 1, held := true })).put (Obj.canClashId c) f.id).incSat (Obj.canClashCount c)).canShow c).note
        FC.canIdclash c
    else s.canMod c (fun x => { x with clash := x.clash + 1 }) := by
  unfold State.canClash
  dsimp only
  rw [queue]
  dsimp only [List.head?_cons]
  rw [State.canMod_canMod]
  rfl

/-- The counters that a bus error leaves (R467). -/
theorem State.canCount_of_active {i x y : Nat} {b : Bool} (active : s.oN (Obj.canState c) = 2 ∨ s.oN (Obj.canState c) = 3)
    (hx : x = s.oN (Obj.canTec c) + (if b then i else 0)) (hy : y = min 128 (s.oN (Obj.canRec c) + (if b then 0 else i))) : s.canCount c b i =
      if 255 < x then
        (((((s.put (Obj.canTec c) 256).put (Obj.canRec c) y).put (Obj.canState c) ((if s.cN (Obj.canBusOffRecovery c) = 0 then 5 else 4 : Nat))).incSat
          (Obj.canBusOffCount c)).canShow c).note FC.canBusoff c
      else if s.oN (Obj.canState c) = 2 ∧ errState x y = 3 then
        ((((s.put (Obj.canTec c) x).put (Obj.canRec c) y).put (Obj.canState c) (errState x y : Nat)).canShow c).note FC.canErrpassive c
      else (((s.put (Obj.canTec c) x).put (Obj.canRec c) y).put (Obj.canState c) (errState x y : Nat)).canShow c := by
  have off : (((if s.cN (Obj.canBusOffRecovery c) = 0 then 5 else 4 : Nat)) : Int) = if s.cN (Obj.canBusOffRecovery c) = 0 then 5 else 4 := by split <;> rfl
  subst hx hy
  refine (if_neg (not_not.mpr (contains_two_three.mpr active))).trans ?_
  rw [off]
  rfl

/-! ## Submitted frames (R464, R475) -/

/-- The five words of a submitted header; the stamp's word is the device's own. -/
def submitted (block : List Byte) : List Nat := (List.range 5).map (fun k => if k = 2 then 0 else numOf (((bytesNat block).drop (4 * k)).take 4))

/-- Little-endian bytes spell the number that a fold of them gives. -/
theorem foldr_bytes (l : List Nat) (h : ∀ b ∈ l, b < 256) : l.foldr (fun b a => b + 256 * a) 0 = numOf l := by
  induction l with
  | nil => rfl
  | cons b l ih =>
    obtain ⟨small, rest⟩ := List.forall_mem_cons.mp h
    change b + 256 * l.foldr (fun b a => b + 256 * a) 0 = b % 256 + 256 * numOf l
    rw [ih rest, Nat.mod_eq_of_lt small]

theorem foldr_word (block : List Byte) (k : Nat) : (((bytesNat block).drop k).take 4).foldr (fun b a => b + 256 * a) 0 = numOf (((bytesNat block).drop k).take 4) := by
  refine foldr_bytes _ fun b hb => ?_
  obtain ⟨x, -, rfl⟩ := List.mem_map.mp (List.mem_of_mem_drop (List.mem_of_mem_take hb))
  exact x.isLt

theorem State.canSubmit_eq (block : List Byte) : s.canSubmit c (bytesNat block) =
    if (if block.length < 20 then 4 else s.submitCode c (submitted block) ((bytesNat block).drop 20)) ≠ 0 then
      (s.put (Obj.canTxResult c) (if block.length < 20 then 4 else s.submitCode c (submitted block) ((bytesNat block).drop 20) : Nat), false)
    else
      (((s.put (Obj.canTxResult c) (if block.length < 20 then 4 else s.submitCode c (submitted block) ((bytesNat block).drop 20) : Nat)).canPut c
        { id := hdrId (submitted block), hdr := submitted block, data := (bytesNat block).drop 20 }).1, true) := by
  have words : submitted block = [numOf (((bytesNat block).drop (4 * 0)).take 4), numOf (((bytesNat block).drop (4 * 1)).take 4), 0,
      numOf (((bytesNat block).drop (4 * 3)).take 4), numOf (((bytesNat block).drop (4 * 4)).take 4)] := rfl
  unfold State.canSubmit
  simp only [foldr_word, bytesNat_length, ← words]

/-- The code of a submitted frame, by its conditions in the order of R475. -/
theorem State.submitCode_eq (h d : List Nat) : s.submitCode c h d = (if 64 ≤ (s.canx c).queue.length then 1
      else if s.oN (Obj.canState c) = 0 ∨ s.oN (Obj.canState c) = 6 ∨ s.oN (Obj.canState c) = 7 then 2
      else if s.formatOk c (hdrKind h) = false then 3
      else if lengthOk (hdrKind h) (hdrLength h) = false ∨ hdrLength h ≠ d.length ∨ hdrClean h = false then 4 else 0) := by
  unfold State.submitCode firstCode firstCode firstCode firstCode firstCode
  simp [or_assoc]

theorem State.canPut_of_room {f : CanFrame} (room : (s.canx c).queue.length < 64) (small : c < s.can.length) :
    (s.canPut c f).2 = true ∧ ((s.canPut c f).1.canx c).queue = (s.canx c).queue ++ [{ f with since := s.tick }] := by
  have shown (t : State) : (t.canShow c).canx c = t.canx c := by
    unfold State.canx
    rw [State.canShow_can]
  have put : s.canPut c f = (if (s.canx c).queue.isEmpty then s.canNextHead c [{ f with since := s.tick }]
      else (s.canMod c (fun x => { x with queue := x.queue ++ [{ f with since := s.tick }] })).canShow c, true) := if_neg (Nat.not_le.mpr room)
  rw [put]
  refine ⟨rfl, ?_⟩
  dsimp only
  split
  · next empty =>
    rw [State.canNextHead, shown, State.canx_canMod _ (by exact small), List.isEmpty_iff.mp empty]
    rfl
  · rw [shown, State.canx_canMod _ small]

/-! ## Aborts (R465) -/

theorem State.canAbort_of_empty (what : Nat) (sending : Bool) (empty : (s.canx c).queue = []) : s.canAbort c what sending = s := by
  unfold State.canAbort
  dsimp only
  rw [empty]

/-- What an abort leaves of the frames behind the head. -/
def abortRest (what : Nat) (rest : List CanFrame) : List CanFrame :=
  if what = 1 then rest else rest.filter (fun g => !(decide (what ≤ 2) || g.entry.isNone))

theorem State.canAbort_of_head {f : CanFrame} {rest : List CanFrame} {what : Nat} {sending : Bool} (queue : (s.canx c).queue = f :: rest) :
    s.canAbort c what sending =
      if ¬ (decide (what ≤ 2) || f.entry.isNone) then (s.canMod c (fun x => { x with queue := f :: abortRest what rest })).canShow c
      else if sending ∧ ¬ (s.canx c).held ∧ [2, 3].contains (s.oN (Obj.canState c)) then
        (s.canMod c (fun x => { x with queue := f :: abortRest what rest, abort := what })).canShow c
      else s.canNextHead c (abortRest what rest) := by
  unfold State.canAbort
  dsimp only
  rw [queue]
  rfl

/-- An abort that names the head removes it where no sending holds it. -/
theorem State.canAbort_of_idle {f : CanFrame} {rest : List CanFrame} {what : Nat} {sending : Bool} (queue : (s.canx c).queue = f :: rest)
    (named : what ≤ 2 ∨ f.entry = none)
    (idle : sending = false ∨ (s.canx c).held = true ∨ (s.oN (Obj.canState c) ≠ 2 ∧ s.oN (Obj.canState c) ≠ 3)) :
    s.canAbort c what sending = s.canNextHead c (abortRest what rest) := by
  refine (State.canAbort_of_head queue).trans ((if_neg (not_not.mpr (by simpa using named))).trans (if_neg ?_))
  rintro ⟨busy, free, active⟩
  rcases idle with quiet | held | ⟨two, three⟩
  · simp [quiet] at busy
  · exact free held
  · exact (contains_two_three.mp active).elim two three

/-- A head on the wire stays until its end, with the abort noted. -/
theorem State.canAbort_of_sending {f : CanFrame} {rest : List CanFrame} {what : Nat} {sending : Bool} (queue : (s.canx c).queue = f :: rest)
    (named : what ≤ 2 ∨ f.entry = none)
    (busy : sending = true ∧ (s.canx c).held = false ∧ (s.oN (Obj.canState c) = 2 ∨ s.oN (Obj.canState c) = 3)) :
    s.canAbort c what sending = (s.canMod c (fun x => { x with queue := f :: abortRest what rest, abort := what })).canShow c := by
  obtain ⟨sending, free, active⟩ := busy
  exact (State.canAbort_of_head queue).trans ((if_neg (not_not.mpr (by simpa using named))).trans (if_pos ⟨sending, by simp [free], contains_two_three.mpr active⟩))

theorem abortRest_all (rest : List CanFrame) : abortRest 2 rest = [] := by simp [abortRest]

theorem abortRest_non_safety (rest : List CanFrame) : abortRest 3 rest = rest.filter (fun g => g.entry.isSome) := by simp [abortRest]

/-! ## Antenna (R456, R457) -/

/-- A run that is on ends with its result. -/
theorem State.antennaEnd_of_running (result : Nat) (running : s.oN (Obj.canState c) = 7) : s.antennaEnd c result =
    (((s.put (Obj.canAntennaResult c) result).put (Obj.canState c) 1).canMod c (fun x => { x with ant := {} })).canShow c := if_pos running

/-- The end of the data phase gives the rates and the result 2. -/
theorem State.antennaFound_of_confirmed {interval frames : Nat} (running : s.oN (Obj.canState c) = 7) (third : (s.canx c).ant.step = 3) :
    s.antennaFound c interval frames = (((((s.put (Obj.canAntennaNominalRate c) (s.canx c).ant.rate).put (Obj.canAntennaDataRate c)
      (if 4 ≤ frames then (antennaRate dataRates interval).getD 0 else 0 : Nat)).put (Obj.canAntennaResult c) 2).put (Obj.canState c) 1).canMod c
        (fun x => { x with ant := {} })).canShow c := by
  have still : ((s.put (Obj.canAntennaNominalRate c) (s.canx c).ant.rate).put (Obj.canAntennaDataRate c)
      (if 4 ≤ frames then (antennaRate dataRates interval).getD 0 else 0 : Nat)).oN (Obj.canState c) = 7 := by
    rw [State.oN_put_other _ _ (key_ne (by decide)), State.oN_put_other _ _ (key_ne (by decide)), running]
  exact (if_neg (by simp [running, third])).trans (State.antennaEnd_of_running 2 still)

theorem State.antennaHears_of_trial (good : Bool) (running : s.oN (Obj.canState c) = 7) (second : (s.canx c).ant.step = 2) : s.antennaHears c good =
    s.canMod c (fun z => { z with ant := if good then
        { (s.canx c).ant with frames := (s.canx c).ant.frames + 1, step := if (s.canx c).ant.frames + 1 < 4 then 2 else 3 }
      else { step := 1, barred := (s.canx c).ant.rate :: (s.canx c).ant.barred } }) := if_neg (by simp [running, second])

end

end Sys2Proof.Machine
end

section
/-! SUPPORT. CAN: the settling of O54 from the rules for reception, sending, errors, aborts and Antenna. -/

namespace Sys2Proof.Machine

/-- A submitted frame is queued or refused with 0x13 (R464, R475). -/
theorem State.submits_of_rank {s : State} {c : Nat} {b : List Byte} {role : Role} (up : s.up = true) (rank : 2 ≤ roleRank role) :
    s.access role 2 (fun t =>
      let r := t.canSubmit c (bytesNat b)
      if r.2 then r.1 else r.1.refuse 0x13) =
    if (s.canSubmit c (bytesNat b)).2 then (s.canSubmit c (bytesNat b)).1 else (s.canSubmit c (bytesNat b)).1.refuse 0x13 :=
  State.access_of_rank up rank _

/-- Settles O54: each clause is a branch of its command, said once by the rules of `canReceived`, `canSent`, `canError`, `canCount`, `canSubmit`,
`canAbort` and Antenna. -/
theorem canControllersReceiveSendAndRecover : Obligations.CanControllersReceiveSendAndRecover := by
  refine ⟨?deaf, ?format, ?formatAntenna, ?good, ?roa, ?noMatch, ?nothing, ?entry, ?tooLong, ?buffer, ?first, ?copy, ?copyLost, ?stored, ?storedLost,
    ?notSent, ?sent, ?sentEntry, ?notRecovered, ?recovered, ?fresh, ?stale, ?errorOff, ?errorQuiet, ?errorAbort, ?errorClash, ?errorOther,
    ?clash, ?clashFourth, ?busOff, ?passive, ?active, ?recover, ?noRecover, ?listen, ?integrated, ?notIntegrated, ?short, ?refused, ?submitted, ?code, ?put,
    ?abortNone, ?abortHead, ?abortHeadLate, ?abortAll, ?abortAllLate, ?abortOthers, ?abortOthersLate, ?abortKept, ?wait, ?noWait, ?antenna, ?antennaOff,
    ?antennaNext, ?stop, ?noStop, ?timeout, ?noTimeout, ?found, ?notFound, ?hears, ?lock, ?release, ?releaseCopy, ?releaseFree, ?low, ?down⟩
  case deaf => exact fun s c h d a deaf => congrArg Host.Outcome.next (State.canReceived_of_deaf _ _ _ deaf)
  case format => exact fun s c h d a runs other bad => congrArg Host.Outcome.next (State.canReceived_of_format _ _ runs other bad)
  case formatAntenna => exact fun s c h d a antenna bad => congrArg Host.Outcome.next (State.canReceived_of_format_antenna _ _ antenna bad)
  case good =>
    intro s c h d a g u runs hears good hg hu
    have word (k : Nat) : (h.toList.map BitVec.toNat).getD k 0 = (h.toList.getD k 0).toNat := by
      simp only [List.getD_eq_getElem?_getD, List.getElem?_map]
      cases h.toList[k]? <;> rfl
    refine congrArg Host.Outcome.next ((State.canReceived_of_good (bytesNat d) a.toNat runs hears good).trans ?_)
    rw [word, word, word, word, ← hg, hu]
  case roa => exact fun s c h d on request => State.canDeliver_of_roa d ⟨on, request⟩
  case noMatch => exact fun s c h d other none => State.canDeliver_of_none d other none
  case nothing => exact fun s c h d w other filter kind => State.canDeliver_of_no_target d other filter kind
  case entry => exact fun s c h d w other filter kind => State.canDeliver_of_entry d other filter kind
  case tooLong => exact fun s c h d w other filter kind long => (State.canDeliver_of_buffer d other filter kind).trans (if_pos long)
  case buffer => exact fun s c h d w other filter kind fits => (State.canDeliver_of_buffer d other filter kind).trans (if_neg (Nat.not_lt.mpr fits))
  case first => exact fun s c h d w found => State.filterFor_first found
  case copy =>
    intro s c n h d locked empty
    rw [State.canStore_of_locked h d locked, empty]
    rfl
  case copyLost =>
    intro s c n h d locked full
    rw [State.canStore_of_locked h d locked, if_pos full, full]
  case stored =>
    intro s c n h d free read
    rw [State.canStore_of_unlocked h d free, if_neg (by simp [read]), read]
  case storedLost =>
    intro s c n h d free unread
    rw [State.canStore_of_unlocked h d free, if_pos unread, unread]
  case notSent => exact fun s c a nothing => congrArg Host.Outcome.next (State.canSent_of_nothing _ nothing)
  case sent =>
    intro s c a f rest u runs active queue free plain hu
    refine congrArg Host.Outcome.next (State.canSent_of_head _ runs active queue free u ?_ ?_)
    · rw [hu]
      rfl
    · rw [plain]
      exact hu
  case sentEntry =>
    intro s c a f rest u e runs active queue free connection hu
    have sent := State.canSent_of_head a.toNat runs active queue free (u.eslMod (u.pt e 2 2) (fun x => { x with sent := some f.seq }))
      (by rw [hu]; rfl) (by rw [connection, hu]; rfl)
    exact congrArg Host.Outcome.next sent
  case notRecovered => exact fun s c other => congrArg Host.Outcome.next (if_pos (other.imp_left (by simp)))
  case recovered =>
    intro s c u r v k w on off hu hr hv hk hw
    subst hw hk hv hr hu
    exact congrArg Host.Outcome.next (if_neg (by simp [on, off]))
  case fresh => exact fun s c f fresh => State.regenerate_of_fresh fresh
  case stale => exact fun s c f e q entry stale next => State.regenerate_of_stale entry stale next
  case errorOff =>
    intro s c e sending clash inc still
    exact congrArg Host.Outcome.next ((if_pos (.inl (by simp [still]))).trans (if_neg (by simp [still])))
  case errorQuiet =>
    intro s c e sending clash inc u runs quiet hu
    subst hu
    exact congrArg Host.Outcome.next (State.canError_of_passive runs quiet)
  case errorAbort =>
    intro s c e sending clash inc u runs active hu busy waits
    subst busy
    refine congrArg Host.Outcome.next ((State.canError_of_active runs active hu).trans ?_)
    rw [if_pos ⟨rfl, waits⟩]
  case errorClash =>
    intro s c e sending clash inc u runs active hu busy none hit bit
    subst busy hit
    refine congrArg Host.Outcome.next ((State.canError_of_active runs active hu).trans ?_)
    rw [if_neg (by simp [none]), if_pos ⟨rfl, rfl, bit⟩]
  case errorOther =>
    intro s c e sending clash inc u runs active hu other
    refine congrArg Host.Outcome.next ((State.canError_of_active runs active hu).trans ?_)
    rcases other with quiet | ⟨none, plain⟩
    · rw [if_neg (by simp [quiet]), if_neg (by simp [quiet])]
    · rw [if_neg (by simp [none]), if_neg fun ⟨_, hit, bit⟩ => plain.elim (fun no => by simp [no] at hit) (fun no => no bit)]
  case clash => exact fun s c f rest queue few => (State.canClash_of_head queue).trans (if_neg few)
  case clashFourth => exact fun s c f rest queue fourth => (State.canClash_of_head queue).trans (if_pos fourth)
  case busOff => exact fun s c i b x y active hx hy many => (State.canCount_of_active active hx hy).trans (if_pos many)
  case passive =>
    intro s c i b x y two hx hy low high
    exact (State.canCount_of_active (.inl two) hx hy).trans ((if_neg (Nat.not_lt.mpr low)).trans (if_pos ⟨two, if_pos high⟩))
  case active =>
    intro s c i b x y active hx hy low kept
    refine (State.canCount_of_active active hx hy).trans ((if_neg (Nat.not_lt.mpr low)).trans (if_neg fun ⟨two, three⟩ => ?_))
    rcases kept with few | passive
    · rw [errState, if_neg (by omega)] at three
      exact absurd three (by decide)
    · omega
  case recover => exact fun s c role up rank off => congrArg Host.Outcome.next ((State.access_of_rank up rank _).trans (if_pos off))
  case noRecover => exact fun s c role up rank other => congrArg Host.Outcome.next ((State.access_of_rank up rank _).trans (if_neg other))
  case listen =>
    intro s c on one listens
    refine congrArg Host.Outcome.next ((if_pos ⟨on, one⟩).trans ?_)
    rw [if_pos listens]
  case integrated =>
    intro s c on one speaks
    refine congrArg Host.Outcome.next ((if_pos ⟨on, one⟩).trans ?_)
    rw [if_neg speaks]
    rfl
  case notIntegrated =>
    intro s c other
    refine congrArg Host.Outcome.next (if_neg fun ⟨on, one⟩ => ?_)
    rcases other with off | another
    · simp [off] at on
    · exact another one
  case short =>
    intro s c b role up rank short
    refine congrArg Host.Outcome.next ((State.submits_of_rank up rank).trans ?_)
    rw [State.canSubmit_eq, if_pos short]
    rfl
  case refused =>
    intro s c b role h k up rank long hh hk refused
    subst hh hk
    have refused : s.submitCode c.val (submitted b) ((bytesNat b).drop 20) ≠ 0 := refused
    refine congrArg Host.Outcome.next ((State.submits_of_rank up rank).trans ?_)
    rw [State.canSubmit_eq, if_neg (Nat.not_lt.mpr long), if_pos refused]
    rfl
  case submitted =>
    intro s c b role h up rank long hh taken
    subst hh
    have taken : s.submitCode c.val (submitted b) ((bytesNat b).drop 20) = 0 := taken
    refine congrArg Host.Outcome.next ((State.submits_of_rank up rank).trans ?_)
    rw [State.canSubmit_eq, if_neg (Nat.not_lt.mpr long), taken]
    rfl
  case code => exact fun s c h d => State.submitCode_eq h d
  case put => exact fun s c f room small => State.canPut_of_room room small
  case abortNone =>
    intro s c sending role up rank empty
    refine ⟨?_, ?_, ?_⟩ <;> exact congrArg Host.Outcome.next ((State.access_of_rank up rank _).trans (State.canAbort_of_empty _ _ empty))
  case abortHead =>
    intro s c sending role f rest up rank queue idle
    exact congrArg Host.Outcome.next ((State.access_of_rank up rank _).trans (State.canAbort_of_idle queue (.inl (by decide)) idle))
  case abortHeadLate =>
    intro s c sending role f rest up rank queue busy
    exact congrArg Host.Outcome.next ((State.access_of_rank up rank _).trans (State.canAbort_of_sending queue (.inl (by decide)) busy))
  case abortAll =>
    intro s c sending role f rest up rank queue idle
    refine congrArg Host.Outcome.next ((State.access_of_rank up rank _).trans ((State.canAbort_of_idle queue (.inl (by decide)) idle).trans ?_))
    rw [abortRest_all]
  case abortAllLate =>
    intro s c sending role f rest up rank queue busy
    refine congrArg Host.Outcome.next ((State.access_of_rank up rank _).trans ((State.canAbort_of_sending queue (.inl (by decide)) busy).trans ?_))
    rw [abortRest_all]
  case abortOthers =>
    intro s c sending role f rest up rank queue plain idle
    refine congrArg Host.Outcome.next ((State.access_of_rank up rank _).trans ((State.canAbort_of_idle queue (.inr plain) idle).trans ?_))
    rw [abortRest_non_safety]
  case abortOthersLate =>
    intro s c sending role f rest up rank queue plain busy
    refine congrArg Host.Outcome.next ((State.access_of_rank up rank _).trans ((State.canAbort_of_sending queue (.inr plain) busy).trans ?_))
    rw [abortRest_non_safety]
  case abortKept =>
    intro s c sending role f rest up rank queue connection
    have unnamed : f.entry.isNone = false := by simpa using connection
    refine congrArg Host.Outcome.next ((State.access_of_rank up rank _).trans ((State.canAbort_of_head queue).trans ((if_pos (by simp [unnamed])).trans ?_)))
    rw [abortRest_non_safety]
  case wait =>
    intro s c f rest u hu limited queue unseen
    subst hu
    refine congrArg Host.Outcome.next ((if_neg (by simp [limited, queue, unseen])).trans ?_)
    rw [Nat.cast_max, Nat.cast_max]
  case noWait =>
    intro s c none
    exact congrArg Host.Outcome.next (if_pos (none.imp_right (Or.imp_left (by simp))))
  case antenna =>
    intro s c role up rank on zero four five
    exact congrArg Host.Outcome.next ((State.access_of_rank up rank _).trans ((if_neg (by simp [on, zero])).trans (if_neg (by simp [four, five]))))
  case antennaOff =>
    intro s c role up rank off
    exact congrArg Host.Outcome.next ((State.access_of_rank up rank _).trans (if_pos (off.imp_left (by simp))))
  case antennaNext =>
    intro s c role up rank on off
    exact congrArg Host.Outcome.next ((State.access_of_rank up rank _).trans ((if_neg (by simp [on]; omega)).trans (if_pos off)))
  case stop =>
    intro s c role up rank running
    exact congrArg Host.Outcome.next ((State.access_of_rank up rank _).trans (State.antennaEnd_of_running 0 running))
  case noStop => exact fun s c role up rank idle => congrArg Host.Outcome.next ((State.access_of_rank up rank _).trans (if_neg idle))
  case timeout =>
    intro s c running searching
    exact congrArg Host.Outcome.next ((if_pos ⟨running, searching⟩).trans (State.antennaEnd_of_running 3 running))
  case noTimeout =>
    intro s c other
    exact congrArg Host.Outcome.next (if_neg fun ⟨running, searching⟩ => other.elim (fun no => no running) searching)
  case found =>
    intro s c i n r running third hr
    subst hr
    exact congrArg Host.Outcome.next (State.antennaFound_of_confirmed running third)
  case notFound => exact fun s c i n other => congrArg Host.Outcome.next (if_pos other)
  case hears =>
    intro s c running second small
    rw [State.antennaHears_of_trial true running second, State.antennaHears_of_trial false running second, State.canx_canMod _ small,
      State.canx_canMod _ small]
    exact ⟨rfl, rfl⟩
  case lock =>
    intro s c b up hb
    subst hb
    exact congrArg Host.Outcome.next (if_pos up)
  case release =>
    intro s c b up hb locked none
    subst hb
    exact congrArg Host.Outcome.next ((if_pos up).trans (State.canRelease_of_no_copy locked none))
  case releaseCopy =>
    intro s c b h d l up hb locked copy
    subst hb
    exact congrArg Host.Outcome.next ((if_pos up).trans (State.canRelease_of_copy locked copy))
  case releaseFree =>
    intro s c b hb free
    subst hb
    refine congrArg Host.Outcome.next ?_
    split
    · exact State.canRelease_of_free free
    · rfl
  case low =>
    intro s c b q role r up low hr
    subst hr
    refine ⟨?_, ?_, ?_, ?_, ?_, ?_, ?_⟩ <;> exact congrArg Host.Outcome.next (State.access_of_low up low _)
  case down =>
    intro s c b q role r down hr
    subst hr
    refine ⟨?_, ?_, ?_, ?_, ?_, ?_, ?_, congrArg Host.Outcome.next (if_neg (by simp [down])), congrArg Host.Outcome.next (if_neg (by simp [down]))⟩ <;>
      exact congrArg Host.Outcome.next (State.access_of_down down _)

end Sys2Proof.Machine
end

section
/-! SUPPORT. Ethernet ports (R479 to R490): which row of the dispatch takes a frame, links, gates, streams and Sync frames (O55). -/

namespace Sys2Proof.Machine

section
variable {s : State} {p : Nat} {f : EthIn}

/-! ## Reception (R479, R480, R485) -/

/-- A frame of no tag, of the priority tag or of the port's own VLAN is not discarded for its tag. -/
theorem vlan_taken {v : Option (BitVec 12)} {n : Nat} (own : v = none ∨ v = some 0 ∨ v = some (BitVec.ofNat 12 n) ∧ n < 4096) :
    v.any (fun v => v.toNat != 0 && v.toNat != n) = false := by
  rcases own with rfl | rfl | ⟨rfl, small⟩
  · rfl
  · rfl
  · simp [Nat.mod_eq_of_lt small]

theorem State.ethReceived_of_long (up : s.portUp p = true) (long : s.frameMax p < f.size.toNat) : s.ethReceived p f = s.rxDrop p :=
  (if_neg (not_not.mpr up)).trans (if_pos long)

theorem State.ethReceived_of_foreign {v : BitVec 12} (up : s.portUp p = true) (tagged : f.vlan = some v) (tag : v ≠ 0) (foreign : v.toNat ≠ s.portVlan p) :
    s.ethReceived p f = s.rxDrop p := by
  have named : v.toNat ≠ 0 := fun zero => tag (BitVec.eq_of_toNat_eq zero)
  refine (if_neg (not_not.mpr up)).trans ?_
  by_cases long : s.frameMax p < f.size.toNat
  · exact if_pos long
  · exact (if_neg long).trans (if_pos (by simp [tagged, named, foreign]))

section
variable (up : s.portUp p = true) (fits : f.size.toNat ≤ s.frameMax p)
  (own : f.vlan = none ∨ f.vlan = some 0 ∨ f.vlan = some (BitVec.ofNat 12 (s.portVlan p)) ∧ s.portVlan p < 4096)
include up fits own

theorem State.ethReceived_of_flood (over_rate : f.overRate = true) : s.ethReceived p f = s.rxFlood p :=
  (if_neg (not_not.mpr up)).trans ((if_neg (Nat.not_lt.mpr fits)).trans ((if_neg (by simp [vlan_taken own])).trans (if_pos over_rate)))

/-- A frame that its port takes is dispatched. -/
theorem State.ethReceived_of_taken (rate : f.overRate = false) : s.ethReceived p f = s.dispatchFrame p f :=
  (if_neg (not_not.mpr up)).trans ((if_neg (Nat.not_lt.mpr fits)).trans ((if_neg (by simp [vlan_taken own])).trans (if_neg (by simp [rate]))))

end

theorem State.dispatchFrame_of_ptp (ether : f.ether = 0x88F7) : s.dispatchFrame p f = s := if_pos ether

theorem State.dispatchFrame_of_answer (other : f.ether ≠ 0x88F7) (asked : f.toUs = true ∧ (f.ether = 0x0806 ∨ f.echo = true)) :
    s.dispatchFrame p f = (s.netPut p { cls := 0, size := f.size.toNat, udp := 0, partner := 0, payload := [] }).1 := (if_neg other).trans (if_pos asked)

/-- A frame that is neither 802.1AS nor asks for an answer goes to one of the rows behind. -/
theorem State.dispatchFrame_behind (other : f.ether ≠ 0x88F7) (unasked : ¬ (f.toUs = true ∧ (f.ether = 0x0806 ∨ f.echo = true))) : s.dispatchFrame p f =
    if f.toUs = true ∧ f.ether = 0x0800 ∧ f.udp.toNat = s.eslPort p then
      match s.udpEntry p f.source.toNat (pay (bytesNat f.payload) 0 2) with
      | some e => s.eslCheck e (bytesNat f.payload)
      | none => s
    else if f.toUs = true ∧ f.ether = 0x0800 ∧ f.udp.toNat = s.cN Obj.roaUdpPort ∧ s.roaOn (8 + p) = true then s.roaPdu (8 + p) (bytesNat f.payload)
    else if f.toUs = true ∧ f.ether = 0x0800 ∧ f.udp.toNat = s.cN Obj.monUdpPort ∧ s.station = true then s.monDatagram p (bytesNat f.payload)
    else if 2 ≤ p ∧ f.toUs = true ∧ f.ether = 0x86DD then s
    else s.rxDrop p := (if_neg other).trans ((if_neg unasked).trans rfl)

/-- A datagram that is no echo goes to the rows behind. -/
theorem State.dispatchFrame_of_ether {e : BitVec 16} (ether : f.ether = e) (ptp : e ≠ 0x88F7) (arp : e ≠ 0x0806) (echo : f.echo = false) :
    f.ether ≠ 0x88F7 ∧ ¬ (f.toUs = true ∧ (f.ether = 0x0806 ∨ f.echo = true)) :=
  ⟨fun other => ptp (ether.symm.trans other), fun ⟨_, asked⟩ => asked.elim (fun other => arp (ether.symm.trans other)) (fun other => by simp [echo] at other)⟩

theorem State.monDatagram_of_bad {b : List Nat} (bad : b.length ≠ 40 ∨ b.getD 0 0 ≠ 1 ∨ 8 < b.getD 1 0 ∨ b.getD 1 0 = 0) : s.monDatagram p b = s.rxDrop p := by
  unfold State.monDatagram
  extract_lets m
  split
  · rfl
  · next header =>
    have outside : b.getD 1 0 = 0 ∨ ∃ n, b.getD 1 0 = n + 9 := by
      by_cases zero : b.getD 1 0 = 0
      · exact .inl zero
      · exact .inr ⟨b.getD 1 0 - 9, by omega⟩
    generalize b.getD 1 0 = type at outside ⊢
    rcases outside with rfl | ⟨n, rfl⟩
    · rfl
    · rfl

/-! ## Links (R482, R588) -/

theorem State.xgDown_of_on {pll : Bool} {u : State} (on : s.serdesOn = true) (enabled : s.cN (Obj.xgEnable p) ≠ 0)
    (hu : u = (if pll then s.put Obj.pllLockMap (clearBit (s.oN Obj.pllLockMap) (p + 2) : Nat) else s)) : s.xgDown p pll =
      if u.oN (Obj.xgLinkState p) ≠ 2 then u
      else (((u.put (Obj.xgLinkState p) 1).portEmpty p).incSat (Obj.xgLinkDownCount p)).note FC.netLinkdown p := by
  subst hu
  exact if_neg (by simp [on, enabled])

/-- A port that goes down loses its queue, and counts it (R482). -/
theorem State.portEmpty_of_xg (xg : p < 2) (counted : 0 ≤ s.o (Obj.xgTxDropCount p)) : ((s.portEmpty p).net.queues.getD p []) = [] ∧
    (s.portEmpty p).active = s.active ∧
    (s.portEmpty p).oN (Obj.xgTxDropCount p) = min 4294967295 (s.oN (Obj.xgTxDropCount p) + (s.net.queues.getD p []).length) := by
  have emptied : s.portEmpty p = (s.netMod (fun x => { x with queues := modifyAt x.queues p (fun _ => []), line := x.line.set p 0 })).addSat
      (Obj.xgTxDropCount p) (s.net.queues.getD p []).length := if_pos xg
  rw [emptied]
  refine ⟨?_, rfl, ?_⟩
  · change (s.net.queues.modify p (fun _ => [])).getD p [] = []
    simp only [List.getD_eq_getElem?_getD, List.getElem?_modify, if_true]
    cases s.net.queues[p]? <;> rfl
  · rw [State.addSat, State.oN_put_same]
    change (min (s.o (Obj.xgTxDropCount p) + ((s.net.queues.getD p []).length : Int)) 4294967295).toNat = min 4294967295 ((s.o (Obj.xgTxDropCount p)).toNat + _)
    omega

/-! ## Streams (R490) and frames on their way out -/

/-- The bytes of the datagram in progress. -/
def State.streamBytes (s : State) : List Nat :=
  natBytes 4 s.net.streamSeq ++ natBytes 2 s.net.records.length ++ natBytes 1 s.streamPorts.length ++ [0] ++ natBytes 8 s.net.firstTime ++ s.net.records.flatten

/-- The datagram in progress, sent or not, is closed and the sequence goes on. -/
def State.streamClosed (s : State) : State :=
  (s.netUdp (s.cN Obj.streamPort) (s.cN Obj.streamPcp) (s.cN Obj.streamUdpPort) 0xFFFF s.streamBytes).1.netMod
    (fun n => { n with records := [], streamSeq := (n.streamSeq + 1) % 4294967296 })

theorem State.streamSend_of_sent (records : s.net.records ≠ [])
    (sent : (s.netUdp (s.cN Obj.streamPort) (s.cN Obj.streamPcp) (s.cN Obj.streamUdpPort) 0xFFFF s.streamBytes).2 = true) : s.streamSend = s.streamClosed :=
  (if_neg records).trans (if_pos sent)

/-- A drop is counted, and noted once a second. -/
theorem State.streamSend_of_drop (records : s.net.records ≠ [])
    (drop : (s.netUdp (s.cN Obj.streamPort) (s.cN Obj.streamPcp) (s.cN Obj.streamUdpPort) 0xFFFF s.streamBytes).2 = false) : s.streamSend =
      if (match s.net.streamDropAt with
        | some a => decide (a + 1000000000 ≤ s.mono)
        | none => true) = true then
        (((s.streamClosed.incSat Obj.streamDropCount).netMod (fun n => { n with streamDropAt := some s.mono })).note FC.netStreamdrop (s.cN Obj.streamPort))
      else s.streamClosed.incSat Obj.streamDropCount :=
  (if_neg records).trans ((if_neg (by exact (Bool.eq_false_iff).mp drop)).trans rfl)

/-- A frame that a port takes comes last in its queue (R481). -/
theorem State.netPut_takes {g : TxFrame} (small : p < s.net.queues.length) (taken : (s.netPut p g).2 = true) :
    (s.netPut p g).1.txQueue p = s.txQueue p ++ [g] := by
  unfold State.netPut at taken ⊢
  split at taken
  · cases taken
  split at taken
  · cases taken
  split at taken
  · cases taken
  next down gated full =>
  rw [if_neg down, if_neg gated, if_neg full]
  change (s.net.queues.modify p (fun q => q ++ [g])).getD p [] = s.net.queues.getD p [] ++ [g]
  simp [List.getD_eq_getElem?_getD, List.getElem?_eq_getElem small]

/-- The port that carries the Tandem link's time (R487). -/
theorem tandem_iff {port : Nat} : (s.cN Obj.tdEnable == 1 && s.oN Obj.tdState == 4 &&
      decide (port = 2 + (if s.station then s.cN Obj.lkPostPort else s.cN Obj.lkPort) % 2)) = true ↔
    s.cN Obj.tdEnable = 1 ∧ s.oN Obj.tdState = 4 ∧ port = 2 + (if s.station then s.cN Obj.lkPostPort else s.cN Obj.lkPort) % 2 := by
  rw [Bool.and_eq_true, Bool.and_eq_true, beq_iff_eq, beq_iff_eq, decide_eq_true_iff, and_assoc]

end

/-- Settles O55: a frame by the rows of the dispatch in their order, every other command by its own branches. -/
theorem ethernetFramesLinksAndGates : Obligations.EthernetFramesLinksAndGates := by
  refine ⟨?downPort, ?long, ?foreign, ?flood, ?again, ?first, ?ptp, ?answer, ?esl, ?roa, ?monarch, ?ip6, ?other, ?badMonarch, ?linkDown, ?linkWasDown,
    ?linkOff, ?emptied, ?linkUp, ?linkNotUp, ?pll, ?pllOff, ?gateOff, ?gateNone, ?gateNext, ?gateCycle, ?plca, ?noPlca, ?beacon, ?noBeacon,
    ?noStream, ?sent, ?dropFirst, ?dropSoon, ?dropLate, ?pps, ?noPps, ?syncDown, ?syncTandem, ?syncVehicle, ?syncGrand, ?syncNone, ?putDown, ?putLast⟩
  case downPort => exact fun s port f down => congrArg Host.Outcome.next (if_pos (by simp [down]))
  case long => exact fun s port f up long => congrArg Host.Outcome.next (State.ethReceived_of_long up long)
  case foreign => exact fun s port f v up tagged tag foreign => congrArg Host.Outcome.next (State.ethReceived_of_foreign up tagged tag foreign)
  case flood => exact fun s port f up fits own over_rate => congrArg Host.Outcome.next (State.ethReceived_of_flood up fits own over_rate)
  case again => exact fun s p again => if_pos again
  case first => exact fun s p first => if_neg (by exact (Bool.eq_false_iff).mp first)
  case ptp =>
    exact fun s port f up fits own rate ether => congrArg Host.Outcome.next ((State.ethReceived_of_taken up fits own rate).trans (State.dispatchFrame_of_ptp ether))
  case answer =>
    exact fun s port f up fits own rate other asked =>
      congrArg Host.Outcome.next ((State.ethReceived_of_taken up fits own rate).trans (State.dispatchFrame_of_answer other asked))
  case esl =>
    intro s port f up fits own rate echo row
    have ⟨_, ether, _⟩ := row
    obtain ⟨other, unasked⟩ := State.dispatchFrame_of_ether ether (by decide) (by decide) echo
    exact congrArg Host.Outcome.next ((State.ethReceived_of_taken up fits own rate).trans ((State.dispatchFrame_behind other unasked).trans ((if_pos row).trans rfl)))
  case roa =>
    intro s port f up fits own rate echo esl row
    have ⟨_, ether, _⟩ := row
    obtain ⟨other, unasked⟩ := State.dispatchFrame_of_ether ether (by decide) (by decide) echo
    refine congrArg Host.Outcome.next ((State.ethReceived_of_taken up fits own rate).trans ((State.dispatchFrame_behind other unasked).trans ?_))
    rw [if_neg fun ⟨_, _, port⟩ => esl port, if_pos row]
  case monarch =>
    intro s port f up fits own rate echo esl roa row
    have ⟨_, ether, _⟩ := row
    obtain ⟨other, unasked⟩ := State.dispatchFrame_of_ether ether (by decide) (by decide) echo
    refine congrArg Host.Outcome.next ((State.ethReceived_of_taken up fits own rate).trans ((State.dispatchFrame_behind other unasked).trans ?_))
    rw [if_neg fun ⟨_, _, port⟩ => esl port, if_neg roa, if_pos row]
  case ip6 =>
    intro s port f up fits own rate echo row
    have ⟨_, _, ether⟩ := row
    obtain ⟨other, unasked⟩ := State.dispatchFrame_of_ether ether (by decide) (by decide) echo
    have ip : f.ether ≠ 0x0800 := fun ip => absurd (ether.symm.trans ip) (by decide)
    refine congrArg Host.Outcome.next ((State.ethReceived_of_taken up fits own rate).trans ((State.dispatchFrame_behind other unasked).trans ?_))
    rw [if_neg fun ⟨_, other, _⟩ => ip other, if_neg fun ⟨_, other, _⟩ => ip other, if_neg fun ⟨_, other, _⟩ => ip other, if_pos row]
  case other =>
    intro s port f up fits own rate other unasked esl roa monarch ip6
    refine congrArg Host.Outcome.next ((State.ethReceived_of_taken up fits own rate).trans ((State.dispatchFrame_behind other unasked).trans ?_))
    rw [if_neg esl, if_neg roa, if_neg monarch, if_neg ip6]
    rfl
  case badMonarch => exact fun s p b bad => State.monDatagram_of_bad bad
  case linkDown =>
    exact fun s port pll u on enabled hu up => congrArg Host.Outcome.next ((State.xgDown_of_on on enabled hu).trans (if_neg (not_not.mpr up)))
  case linkWasDown => exact fun s port pll u on enabled hu down => congrArg Host.Outcome.next ((State.xgDown_of_on on enabled hu).trans (if_pos down))
  case linkOff => exact fun s port pll off => congrArg Host.Outcome.next (if_pos (off.imp_left (by simp)))
  case emptied => exact fun s p xg counted => State.portEmpty_of_xg xg counted
  case linkUp => exact fun s port on enabled down locked => congrArg Host.Outcome.next (if_pos ⟨on, enabled, down, locked⟩)
  case linkNotUp =>
    intro s port off
    refine congrArg Host.Outcome.next (if_neg fun ⟨on, enabled, down, locked⟩ => ?_)
    simp [on, enabled, down, locked] at off
  case pll => exact fun s port on enabled => congrArg Host.Outcome.next (if_pos ⟨on, enabled⟩)
  case pllOff =>
    intro s port off
    refine congrArg Host.Outcome.next (if_neg fun ⟨on, enabled⟩ => ?_)
    simp [on, enabled] at off
  case gateOff => exact fun s port off => congrArg Host.Outcome.next (if_neg (by simp [off]))
  case gateNone => exact fun s port on none => congrArg Host.Outcome.next ((if_pos on).trans (if_pos none))
  case gateNext =>
    intro s port l k on gates hl hk more
    subst hl hk
    exact congrArg Host.Outcome.next ((if_pos on).trans ((if_neg gates).trans (if_pos more)))
  case gateCycle =>
    intro s port l k a on gates hl hk last ha
    subst hl hk ha
    exact congrArg Host.Outcome.next ((if_pos on).trans ((if_neg gates).trans (if_neg (Nat.not_lt.mpr last))))
  case plca => exact fun s port up enabled plca node fallen => congrArg Host.Outcome.next (if_pos ⟨up, enabled, plca, node, fallen⟩)
  case noPlca =>
    intro s port off
    refine congrArg Host.Outcome.next (if_neg fun ⟨up, enabled, plca, node, fallen⟩ => ?_)
    simp [up, enabled, plca, node, fallen] at off
  case beacon => exact fun s port up enabled plca => congrArg Host.Outcome.next (if_pos ⟨up, enabled, plca⟩)
  case noBeacon =>
    intro s port off
    refine congrArg Host.Outcome.next (if_neg fun ⟨up, enabled, plca⟩ => ?_)
    simp [up, enabled, plca] at off
  case noStream =>
    intro s none
    refine congrArg Host.Outcome.next ?_
    by_cases up : s.up = true
    · exact (if_pos up).trans (if_pos (none.resolve_left (by simp [up])))
    · exact if_neg up
  case sent =>
    intro s b up records hb sent
    subst hb
    exact congrArg Host.Outcome.next ((if_pos up).trans (State.streamSend_of_sent records sent))
  case dropFirst =>
    intro s b r v up records hb hr hv drop never
    subst hv hr hb
    exact congrArg Host.Outcome.next ((if_pos up).trans ((State.streamSend_of_drop records drop).trans (if_pos (by simp [never]))))
  case dropSoon =>
    intro s b r v a up records hb hr hv drop last soon
    subst hv hr hb
    exact congrArg Host.Outcome.next ((if_pos up).trans ((State.streamSend_of_drop records drop).trans (if_neg (by simpa [last] using soon))))
  case dropLate =>
    intro s b r v a up records hb hr hv drop last late
    subst hv hr hb
    exact congrArg Host.Outcome.next ((if_pos up).trans ((State.streamSend_of_drop records drop).trans (if_pos (by simpa [last] using late))))
  case pps => exact fun s up out => congrArg Host.Outcome.next (if_pos ⟨up, out⟩)
  case noPps =>
    intro s off
    refine congrArg Host.Outcome.next (if_neg fun ⟨up, out⟩ => ?_)
    simp [up, out] at off
  case syncDown => exact fun s port g down => congrArg Host.Outcome.next (if_pos (by simp [down]))
  case syncTandem =>
    exact fun s port g up tandem post => congrArg Host.Outcome.next ((if_neg (not_not.mpr up)).trans ((if_pos (tandem_iff.mpr tandem)).trans (if_pos post)))
  case syncVehicle =>
    intro s port g tandem vehicle
    refine congrArg Host.Outcome.next ?_
    by_cases up : s.portUp port.val = true
    · exact (if_neg (not_not.mpr up)).trans ((if_pos (tandem_iff.mpr tandem)).trans (if_neg (by simp [vehicle])))
    · exact if_pos up
  case syncGrand =>
    exact fun s port g up single grand priority => congrArg Host.Outcome.next ((if_neg (not_not.mpr up)).trans
      ((if_neg (fun tandem => single (tandem_iff.mp tandem))).trans (if_pos ⟨grand, priority⟩)))
  case syncNone =>
    intro s port g single none
    refine congrArg Host.Outcome.next ?_
    by_cases up : s.portUp port.val = true
    · refine (if_neg (not_not.mpr up)).trans ((if_neg (fun tandem => single (tandem_iff.mp tandem))).trans (if_neg fun ⟨grand, priority⟩ => ?_))
      exact none.elim (fun no => by simp [no] at grand) priority
    · exact if_pos up
  case putDown => exact fun s p f down => if_pos (by simp [down])
  case putLast => exact fun s p f small taken => State.netPut_takes small taken

end Sys2Proof.Machine
end

section
/-! SUPPORT. Device time and its references (R486 to R489): O56. -/

namespace Sys2Proof.Machine

section
variable {s u : State} {off : Int} {first : Bool}

/-- The Tandem domain is kept as an offset and a rate (R487). -/
theorem State.ptpSync_of_tandem (time : Nat) {last : Option Nat} (up : s.up = true) : s.net.tdAt = last → s.ptpSync true time = s.netMod (fun n => { n with
    tdOffset := (time : Int) - s.now, tdAt := some s.now
    tdRate := match last with
      | some t => if t < s.now then (((time : Int) - s.now) - s.net.tdOffset) * 1000000000 / ((s.now - t : Nat) : Int) else s.net.tdRate
      | none => 0 }) := by
  rintro rfl
  exact (if_neg (not_not.mpr up)).trans ((if_pos rfl).trans rfl)

section
variable (hu : u = s.put Obj.devTimeOffset (max (-2147483648) (min 2147483647 off)))
include hu

/-- At the first synchronisation, and from the threshold on, device time steps (R488). -/
theorem State.meet_of_step (far : first = true ∨ (u.cN Obj.devTimeStepThreshold : Int) ≤ |off|) (free : off ≤ 0 ∨ s.mtr.session = none) :
    s.meet off first = (({ u with devSub := ((u.now : Int) - off).toNat * 2000000000 }).netMod (fun n => { n with back := 0 })).incSat Obj.devTimeStepCount := by
  subst hu
  refine (if_pos far).trans (if_neg fun ⟨backward, metered⟩ => ?_)
  have metered : s.mtr.session.isSome = true := metered
  rcases free with forward | idle
  · omega
  · simp [idle] at metered

/-- A backward step in an open metering session becomes an approach. -/
theorem State.meet_of_session {x : MtrSess} (far : first = true ∨ (u.cN Obj.devTimeStepThreshold : Int) ≤ |off|) (backward : 0 < off)
    (metered : s.mtr.session = some x) : s.meet off first = (u.netMod (fun n => { n with
      back := off.toNat * 2000000000, rateAfter := if n.back = 0 then u.o Obj.devTimeRateAdjust else n.rateAfter })).put Obj.devTimeRateAdjust (-200000) := by
  subst hu
  refine (if_pos far).trans (if_pos ⟨backward, ?_⟩)
  change s.mtr.session.isSome = true
  rw [metered]
  rfl

/-- Below the threshold the rate is adjusted. -/
theorem State.meet_of_near (near : |off| < (u.cN Obj.devTimeStepThreshold : Int)) :
    s.meet off false = (u.put Obj.devTimeRateAdjust u.freeRate).fresh.netMod (fun n => { n with back := 0 }) := by
  subst hu
  exact if_neg fun far => far.elim Bool.false_ne_true (Int.not_le.mpr near)

end

theorem State.freeRate_bounds : -200000 ≤ s.freeRate ∧ s.freeRate ≤ 200000 := ⟨le_max_left .., max_le (by decide) (min_le_left ..)⟩

/-- A tick of an approach adds 12.4975 ns (R488). -/
theorem State.timeTick_of_back (back : 0 < s.net.back) : s.timeTick =
    if s.net.back - 5000000 = 0 then
      (({ s with devSub := s.devSub + 24995000000 } : State).netMod (fun n => { n with back := 0 })).put Obj.devTimeRateAdjust s.net.rateAfter
    else ({ s with devSub := s.devSub + 24995000000 } : State).netMod (fun n => { n with back := s.net.back - 5000000 }) := if_neg (by omega)

/-- An edge of PPS_IN marks the nearest whole second where no port is synchronised (R489). -/
theorem State.ppsInEdge_of_unsynchronised (up : s.up = true) (input : s.cN Obj.devTimePpsIn = 1) (free : s.oN Obj.devTimeState ≠ 1) :
    exec .ppsInEdge s = .next (s.meet (if s.now % 1000000000 < 500000000 then ((s.now % 1000000000 : Nat) : Int)
      else ((s.now % 1000000000 : Nat) : Int) - 1000000000) false) := congrArg Host.Outcome.next (if_pos ⟨up, input, free⟩)

end

/-- Settles O56: `meet` by its three cases, the rest by the branches of its own command. -/
theorem deviceTimeFollowsItsReferences : Obligations.DeviceTimeFollowsItsReferences := by
  refine ⟨?sync, ?tandemFirst, ?tandem, ?tandemAgain, ?down, ?step, ?approach, ?near, ?tick, ?tickBack, ?holdover, ?noHoldover, ?loss, ?noLoss, ?ppsLate,
    ?ppsEarly, ?noPps⟩
  case sync => exact fun s time up => congrArg Host.Outcome.next ((if_neg (not_not.mpr up)).trans (if_neg Bool.false_ne_true))
  case tandemFirst =>
    intro s time off up never hoff
    subst hoff
    exact congrArg Host.Outcome.next (State.ptpSync_of_tandem _ up never)
  case tandem =>
    intro s time off a up last later hoff
    subst hoff
    refine congrArg Host.Outcome.next ((State.ptpSync_of_tandem _ up last).trans ?_)
    exact congrArg (fun r => s.netMod (fun n => { n with tdOffset := (time.toNat : Int) - s.now, tdRate := r, tdAt := some s.now })) (if_pos later)
  case tandemAgain =>
    intro s time off a up last same hoff
    subst hoff
    refine congrArg Host.Outcome.next ((State.ptpSync_of_tandem _ up last).trans ?_)
    exact congrArg (fun r => s.netMod (fun n => { n with tdOffset := (time.toNat : Int) - s.now, tdRate := r, tdAt := some s.now }))
      (if_neg (Nat.not_lt.mpr same))
  case down => exact fun s time td down => congrArg Host.Outcome.next (if_pos (by simp [down]))
  case step => exact fun s off first u hu far free => State.meet_of_step hu far free
  case approach => exact fun s off first u x hu far backward metered => State.meet_of_session hu far backward metered
  case near => exact fun s off u hu near => ⟨State.meet_of_near hu near, State.freeRate_bounds⟩
  case tick => exact fun s still => if_pos still
  case tickBack =>
    intro s back
    rw [State.timeTick_of_back back]
    refine ⟨?_, fun last => ?_⟩
    · split <;> rfl
    · rw [if_pos (Nat.sub_eq_zero_of_le last)]
      exact ⟨State.o_put_same .., rfl⟩
  case holdover => exact fun s up synced => congrArg Host.Outcome.next (if_pos ⟨up, synced⟩)
  case noHoldover =>
    intro s other
    refine congrArg Host.Outcome.next (if_neg fun ⟨up, synced⟩ => ?_)
    simp [up, synced] at other
  case loss => exact fun s up held => congrArg Host.Outcome.next (if_pos ⟨up, held⟩)
  case noLoss =>
    intro s other
    refine congrArg Host.Outcome.next (if_neg fun ⟨up, held⟩ => ?_)
    simp [up, held] at other
  case ppsLate =>
    intro s up input free late
    rw [State.ppsInEdge_of_unsynchronised up input free, if_pos late]
  case ppsEarly =>
    intro s up input free early
    rw [State.ppsInEdge_of_unsynchronised up input free, if_neg (Nat.not_lt.mpr early)]
  case noPps =>
    intro s other
    refine congrArg Host.Outcome.next (if_neg fun ⟨up, input, free⟩ => ?_)
    simp [up, input, free] at other

end Sys2Proof.Machine
end

section
/-! SUPPORT. Safety outputs, inputs and pin readbacks (R500, R504, R516 to R528): O58. -/

namespace Sys2Proof.Machine

section
variable {s : State} {n : Nat}

/-! ## Outputs (R516 to R520) -/

/-- The test of a switch by its five checks' readbacks (R518). -/
theorem soTest_eq (r : Nat) : soTest r =
    if (r.testBit 0 || r.testBit 1 || r.testBit 2) = true then 1 else if r.testBit 3 = false then 2
    else if r.testBit 5 = true then 1 else if r.testBit 7 = true then 1 else if r.testBit 6 = false then 2
    else if r.testBit 8 = true then 1 else 0 := by
  have checks : soTest r = (fun a b c d e f g h : Bool =>
      [(⟨false, false, true, true⟩, a, b), (⟨false, true, true, true⟩, c, d), (⟨false, false, false, true⟩, false, e), (⟨true, false, true, true⟩, f, g),
        (⟨false, false, true, false⟩, h, false)].foldl (fun r (p : SoCheck × Bool × Bool) => if r ≠ 0 then r else p.1.result p.2.1 p.2.2) 0)
      (r.testBit 0) (r.testBit 1) (r.testBit 2) (r.testBit 3) (r.testBit 5) (r.testBit 6) (r.testBit 7) (r.testBit 8) := by
    simp [soTest, soChecks, SoCheck.result]
  rw [checks]
  generalize r.testBit 0 = a
  generalize r.testBit 1 = b
  generalize r.testBit 2 = c
  generalize r.testBit 3 = d
  generalize r.testBit 5 = e
  generalize r.testBit 6 = f
  generalize r.testBit 7 = g
  generalize r.testBit 8 = h
  revert a b c d e f g h
  decide

/-- A test passes where every switch reads as its steps command it. -/
theorem soTest_eq_zero (r : Nat) : soTest r = 0 ↔ r.testBit 0 = false ∧ r.testBit 1 = false ∧ r.testBit 2 = false ∧ r.testBit 3 = true ∧
    r.testBit 5 = false ∧ r.testBit 6 = true ∧ r.testBit 7 = false ∧ r.testBit 8 = false := by
  have bits : (soTest r == 0) = (!r.testBit 0 && !r.testBit 1 && !r.testBit 2 && r.testBit 3 && !r.testBit 5 && r.testBit 6 && !r.testBit 7 &&
      !r.testBit 8) := by
    rw [soTest_eq]
    generalize r.testBit 0 = a
    generalize r.testBit 1 = b
    generalize r.testBit 2 = c
    generalize r.testBit 3 = d
    generalize r.testBit 5 = e
    generalize r.testBit 6 = f
    generalize r.testBit 7 = g
    generalize r.testBit 8 = h
    revert a b c d e f g h
    decide
  rw [← beq_iff_eq, bits]
  simp only [Bool.and_eq_true, Bool.not_eq_true', and_assoc]

/-- A switch found stuck on reads conducting in a check that commands it off. -/
theorem soTest_stuckOn {r : Nat} (stuck : soTest r = 1) : [0, 1, 2, 5, 7, 8].any (fun k => r.testBit k) = true := by
  change (r.testBit 0 || (r.testBit 1 || (r.testBit 2 || (r.testBit 5 || (r.testBit 7 || (r.testBit 8 || false)))))) = true
  rw [soTest_eq] at stuck
  generalize r.testBit 0 = a at *
  generalize r.testBit 1 = b at *
  generalize r.testBit 2 = c at *
  generalize r.testBit 3 = d at *
  generalize r.testBit 5 = e at *
  generalize r.testBit 6 = f at *
  generalize r.testBit 7 = g at *
  generalize r.testBit 8 = h at *
  revert a b c d e f g h
  decide

/-- An output that may be energised: its switches are tested in series mode, its pilot drive starts at once. -/
theorem State.soEnergise_of_ready (reads : Nat) (on : s.safOn = true) (mode : s.mode ≠ 9) (ready : s.oN (Obj.soState n) = 1 ∨ s.oN (Obj.soState n) = 2) :
    s.soEnergise n reads =
      if s.oN (Obj.soMode n) = 2 then (s.put (Obj.soCommand n) 1).put (Obj.soState n) 5
      else if s.oN (Obj.soMode n) = 0 then s
      else match soTest reads with
        | 0 => (((s.put (Obj.soCommand n) 1).put (Obj.soState n) 3).put (Obj.soReadback n) 3).put (Obj.soLastTestTime n) s.now
        | 1 => s.soStuckOn n
        | _ => s.soStuckOff n := (if_neg (by simpa [on, mode, or_iff_not_imp_left] using ready)).trans rfl

/-- In series mode the test decides. -/
theorem State.soEnergise_of_series {reads result : Nat} (on : s.safOn = true) (mode : s.mode ≠ 9) (ready : s.oN (Obj.soState n) = 1 ∨ s.oN (Obj.soState n) = 2)
    (series : s.oN (Obj.soMode n) = 1) : soTest reads = result → s.soEnergise n reads = match result with
        | 0 => (((s.put (Obj.soCommand n) 1).put (Obj.soState n) 3).put (Obj.soReadback n) 3).put (Obj.soLastTestTime n) s.now
        | 1 => s.soStuckOn n
        | _ => s.soStuckOff n := by
  rintro rfl
  exact (State.soEnergise_of_ready reads on mode ready).trans ((if_neg (by omega)).trans ((if_neg (by omega)).trans rfl))

/-- A release takes both switches low, and the output is off unless it has no mode or is held (R516). -/
theorem State.soRelease_eq (small : n < 8) : s.soRelease n =
    if s.oN (Obj.soMode n) = 0 ∨ s.oN (Obj.soState n) = 6 ∨ s.oN (Obj.soState n) = 7 then s.put (Obj.soCommand n) 0
    else (s.put (Obj.soCommand n) 0).put (Obj.soState n) 1 := by
  have mode : (s.put (Obj.soCommand n) 0).oN (Obj.soMode n) = s.oN (Obj.soMode n) := State.oN_put_other _ _ (key_ne (by decide))
  have state : (s.put (Obj.soCommand n) 0).oN (Obj.soState n) = s.oN (Obj.soState n) := State.oN_put_other _ _ (key_ne (by decide))
  refine (if_neg (Nat.not_le.mpr small)).trans ?_
  dsimp only
  rw [mode, state]

/-- Readbacks that differ from an output that is off or on in series mode decide as one check does (R517). -/
theorem State.soMismatch_of_series {rb state result : Nat} (on : s.safOn = true) (series : s.oN (Obj.soMode n) = 1)
    (commanded : s.oN (Obj.soState n) = state) (known : state = 1 ∨ state = 3) :
    (SoCheck.mk (state == 3) (state == 3) true true).result (rb.testBit 0) (rb.testBit 1) = result → s.soMismatch n rb =
      match result with
      | 0 => s.put (Obj.soReadback n) rb
      | 1 => (s.put (Obj.soReadback n) rb).soStuckOn n
      | _ => (s.put (Obj.soReadback n) rb).soStuckOff n := by
  subst commanded
  rintro rfl
  exact (if_neg (by simpa [on, series, or_iff_not_imp_left] using known)).trans rfl

/-- Two readbacks against two switches that are commanded off, and on. -/
theorem result_off : ∀ rb : BitVec 2, rb ≠ 0 → (SoCheck.mk false false true true).result (rb.toNat.testBit 0) (rb.toNat.testBit 1) = 1 := by decide
theorem result_on : ∀ rb : BitVec 2, rb ≠ 3 → (SoCheck.mk true true true true).result (rb.toNat.testBit 0) (rb.toNat.testBit 1) = 2 := by decide

/-- An off-pulse takes the other switch the next time (R519). -/
theorem State.soOffPulse_of_on {a b : Bool} {u : State} (on : s.safOn = true) (series : s.oN (Obj.soMode n) = 1) (state : s.oN (Obj.soState n) = 3)
    (enabled : s.oN (Obj.soOffPulseEnable n) ≠ 0) (hu : u = { s with soHigh := s.soHigh.set n (!s.soHigh.getD n true) }) :
    s.soOffPulse n a b = if a then u.soStuckOn n else if ¬ b then u.soStuckOff n else u := by
  subst hu
  exact if_neg (by simp [on, series, state, enabled])

/-! ## Inputs (R522 to R526) -/

/-- An input of the safety I/O that its fault does not hold. -/
theorem State.siChange_of_free {level : Bool} (on : s.safOn = true) (used : s.oN (Obj.siMode n) ≠ 0)
    (free : s.oN (Obj.siState n) ≠ 4 ∨ (s.isSet FC.safSishort n = false ∧ s.isSet FC.safSidiscrepancy n = false)) : s.siChange n level =
      if s.oN (Obj.siState n) = 3 then
        if level then
          if ((s.put (Obj.siValue n) 1).siX n).seen then ((s.put (Obj.siValue n) 1).put (Obj.siState n) 1).siMod n (fun x => { x with seen := false })
          else s.put (Obj.siValue n) 1
        else (s.put (Obj.siValue n) 0).siMod n (fun x => { x with seen := true })
      else if level then (s.put (Obj.siValue n) 1).put (Obj.siState n) 1
      else (s.siDemand n).put (Obj.siState n) 2 := by
  refine (if_neg (by simp [on, used])).trans ((if_neg fun ⟨faulted, set⟩ => ?_).trans rfl)
  rcases free with other | ⟨short, discrepancy⟩
  · exact other faulted
  · simp [short, discrepancy] at set

/-- A start-up test that is awaited is no fault. -/
theorem free_of_awaited (awaited : s.oN (Obj.siState n) = 3) :
    s.oN (Obj.siState n) ≠ 4 ∨ (s.isSet FC.safSishort n = false ∧ s.isSet FC.safSidiscrepancy n = false) := .inl (by omega)

theorem State.siDemand_of_value (value : s.oN (Obj.siValue n) ≠ 0) :
    s.siDemand n = ((s.put (Obj.siValue n) 0).incSat (Obj.siDemandCount n)).raise FC.safSidemand n := if_neg value

theorem State.siDemand_of_demand (demand : s.oN (Obj.siValue n) = 0) : s.siDemand n = s := if_pos demand

end

/-- Settles O58: the outputs by the test of their switches, the inputs by their states, every other command by its own branches. -/
theorem safetyOutputsAreProvedBeforeTheyConduct : Obligations.SafetyOutputsAreProvedBeforeTheyConduct := by
  refine ⟨?passed, ?stuckOn, ?stuckOff, ?pilot, ?notEnergised, ?test, ?testStuck, ?release, ?releaseHeld, ?releaseOff, ?mismatchOff, ?mismatchOn, ?agreed,
    ?noMismatch, ?pulseOn, ?pulseOff, ?pulse, ?noPulse, ?pilotFault, ?noPilotFault, ?held, ?level, ?newDemand, ?demand, ?guardDemand, ?guardPermit,
    ?guardPassed, ?pulseCheck, ?noPulseCheck, ?low, ?highOnce, ?highTwice, ?faultPermit, ?faultDemand, ?disagree, ?noDisagree, ?pinIsland, ?pin, ?noPin,
    ?proof, ?noProof⟩
  case passed =>
    intro s so reads on mode ready series pass
    exact congrArg Host.Outcome.next (State.soEnergise_of_series on mode ready series pass)
  case stuckOn =>
    intro s so reads on mode ready series fail
    exact congrArg Host.Outcome.next (State.soEnergise_of_series on mode ready series fail)
  case stuckOff =>
    intro s so reads on mode ready series fail
    obtain ⟨k, hk⟩ := Nat.exists_eq_add_of_le' fail
    exact congrArg Host.Outcome.next (State.soEnergise_of_series on mode ready series hk)
  case pilot =>
    exact fun s so reads on mode ready pilot => congrArg Host.Outcome.next ((State.soEnergise_of_ready _ on mode ready).trans (if_pos pilot))
  case notEnergised =>
    intro s so reads other
    refine congrArg Host.Outcome.next ?_
    by_cases off : s.safOn = false ∨ s.mode = 9 ∨ (s.oN (Obj.soState so.val) ≠ 1 ∧ s.oN (Obj.soState so.val) ≠ 2)
    · exact if_pos (by simpa using off)
    · obtain ⟨on, mode, ready⟩ : s.safOn = true ∧ s.mode ≠ 9 ∧ (s.oN (Obj.soState so.val) = 1 ∨ s.oN (Obj.soState so.val) = 2) := by
        simpa [or_iff_not_imp_left] using off
      have none : s.oN (Obj.soMode so.val) = 0 := by
        rcases other with no | no | no | none
        · exact absurd (.inl no) off
        · exact absurd (.inr (.inl no)) off
        · exact absurd (.inr (.inr no)) off
        · exact none
      exact (State.soEnergise_of_ready _ on mode ready).trans ((if_neg (by omega)).trans (if_pos none))
  case test => exact fun s r => propext (soTest_eq_zero r)
  case testStuck => exact fun s r stuck => soTest_stuckOn stuck
  case release =>
    intro s so on mode held off
    exact congrArg Host.Outcome.next ((if_pos on).trans ((State.soRelease_eq so.isLt).trans (if_neg (by simp [mode, held, off]))))
  case releaseHeld =>
    exact fun s so on held => congrArg Host.Outcome.next ((if_pos on).trans ((State.soRelease_eq so.isLt).trans (if_pos held)))
  case releaseOff => exact fun s so off => congrArg Host.Outcome.next (if_neg (by simp [off]))
  case mismatchOff =>
    intro s so rb on series state conducts
    exact congrArg Host.Outcome.next (State.soMismatch_of_series on series state (.inl rfl) (result_off rb conducts))
  case mismatchOn =>
    intro s so rb on series state fails
    exact congrArg Host.Outcome.next (State.soMismatch_of_series on series state (.inr rfl) (result_on rb fails))
  case agreed =>
    intro s so rb on series agreed
    rcases agreed with ⟨state, rfl⟩ | ⟨state, rfl⟩
    · exact congrArg Host.Outcome.next (State.soMismatch_of_series on series state (.inl rfl) rfl)
    · exact congrArg Host.Outcome.next (State.soMismatch_of_series on series state (.inr rfl) rfl)
  case noMismatch => exact fun s so rb other => congrArg Host.Outcome.next (if_pos (by simpa using other))
  case pulseOn =>
    exact fun s so a b u on series state enabled hu fails => congrArg Host.Outcome.next ((State.soOffPulse_of_on on series state enabled hu).trans (if_pos fails))
  case pulseOff =>
    intro s so a b u on series state enabled hu low fails
    exact congrArg Host.Outcome.next ((State.soOffPulse_of_on on series state enabled hu).trans ((if_neg (by simp [low])).trans (if_pos (by simp [fails]))))
  case pulse =>
    intro s so a b u on series state enabled hu low high
    exact congrArg Host.Outcome.next ((State.soOffPulse_of_on on series state enabled hu).trans ((if_neg (by simp [low])).trans (if_neg (by simp [high]))))
  case noPulse => exact fun s so a b other => congrArg Host.Outcome.next (if_pos (by simpa using other))
  case pilotFault => exact fun s so on pilot drives => congrArg Host.Outcome.next (if_pos ⟨on, pilot, drives⟩)
  case noPilotFault =>
    intro s so other
    refine congrArg Host.Outcome.next (if_neg fun ⟨on, pilot, drives⟩ => ?_)
    simp [on, pilot, drives] at other
  case held =>
    intro s si l other
    refine congrArg Host.Outcome.next ?_
    by_cases off : s.safOn = false ∨ s.oN (Obj.siMode si.val) = 0
    · exact if_pos (by simpa using off)
    · rcases other with no | no | held
      · exact absurd (.inl no) off
      · exact absurd (.inr no) off
      · exact (if_neg (by simpa using off)).trans (if_pos held)
  case level =>
    intro s si l on used guard free high
    exact congrArg Host.Outcome.next ((State.siChange_of_free on used free).trans ((if_neg guard).trans (if_pos high)))
  case newDemand =>
    intro s si l on used guard free low value
    refine congrArg Host.Outcome.next ((State.siChange_of_free on used free).trans ((if_neg guard).trans ((if_neg (by simp [low])).trans ?_)))
    rw [State.siDemand_of_value value]
  case demand =>
    intro s si l on used guard free low value
    refine congrArg Host.Outcome.next ((State.siChange_of_free on used free).trans ((if_neg guard).trans ((if_neg (by simp [low])).trans ?_)))
    rw [State.siDemand_of_demand value]
  case guardDemand =>
    intro s si l on used guard low
    exact congrArg Host.Outcome.next ((State.siChange_of_free on used (free_of_awaited guard)).trans ((if_pos guard).trans (if_neg (by simp [low]))))
  case guardPermit =>
    intro s si l on used guard high unseen
    exact congrArg Host.Outcome.next ((State.siChange_of_free on used (free_of_awaited guard)).trans
      ((if_pos guard).trans ((if_pos high).trans (if_neg (ne_true_of_eq_false unseen)))))
  case guardPassed =>
    intro s si l on used guard high seen
    exact congrArg Host.Outcome.next ((State.siChange_of_free on used (free_of_awaited guard)).trans ((if_pos guard).trans ((if_pos high).trans (if_pos seen))))
  case pulseCheck => exact fun s tp reads on => congrArg Host.Outcome.next (if_pos on)
  case noPulseCheck => exact fun s tp reads off => congrArg Host.Outcome.next (if_neg (by simp [off]))
  case low => exact fun s n r low => if_neg (by simp [low])
  case highOnce => exact fun s n r high first => (if_pos high).trans (if_neg (by omega))
  case highTwice =>
    intro s n r high second
    refine (if_pos high).trans ((if_pos (by omega)).trans ?_)
    rw [second]
  case faultPermit =>
    intro s n c value
    rw [State.siFault, State.siDemand_of_value value]
  case faultDemand =>
    intro s n c value
    rw [State.siFault, State.siDemand_of_demand value]
  case disagree => exact fun s si on disagree => congrArg Host.Outcome.next (if_pos (by rw [on, disagree]; rfl))
  case noDisagree =>
    intro s si other
    refine congrArg Host.Outcome.next (if_neg fun both => ?_)
    rw [Bool.and_eq_true] at both
    obtain ⟨on, disagree⟩ := both
    rcases other with off | agree
    · simp [off] at on
    · exact absurd (disagree.symm.trans agree) (by decide)
  case pinIsland => exact fun s ball island => congrArg Host.Outcome.next (if_pos island)
  case pin =>
    exact fun s ball on whole mode => congrArg Host.Outcome.next ((if_neg (by simp [whole, mode])).trans (if_pos on))
  case noPin =>
    exact fun s ball off whole mode => congrArg Host.Outcome.next ((if_neg (by simp [whole, mode])).trans (if_neg (by simp [off])))
  case proof => exact fun s up => congrArg Host.Outcome.next (if_pos up)
  case noProof => exact fun s down => congrArg Host.Outcome.next (if_neg (by simp [down]))

end Sys2Proof.Machine
end
